-- ==== Sys2Proof/Word.lean ====
section
/-! DEFINITION. Words of the BLV-1632: a byte, a 32-bit register word, a 64-byte line, and the
plainest arithmetic over them. -/

namespace Sys2Proof

/-- One byte. -/
abbrev Byte := BitVec 8

/-- One register word (R78). -/
abbrev Word := BitVec 32

/-- One 64-byte line, byte 0 in the least significant byte. -/
abbrev Line := BitVec 512

/-- The frame counter's width (R52). -/
abbrev Frame := BitVec 48

/-- `n / d` rounded up. -/
def ceilDiv (n d : Nat) : Nat := (n + d - 1) / d

/-- Counting up to a ceiling: the "saturates" of the register tables. -/
def satAdd (top n k : Nat) : Nat := min top (n + k)

/-- The two's complement value of the low `w` bits of `n`. -/
def signedOf (w n : Nat) : Int :=
  let v := n % 2 ^ w
  if v < 2 ^ (w - 1) then (v : Int) else (v : Int) - (2 ^ w : Nat)

/-- The `w`-bit two's complement encoding of `i`. -/
def encodeSigned (w : Nat) (i : Int) : Nat := (i % ((2 ^ w : Nat) : Int)).toNat

/-- Bit `k` of `n`. -/
def bitOf (n k : Nat) : Bool := n / 2 ^ k % 2 == 1

/-- The bits `[lo + w - 1 : lo]` of `n`. -/
def bitsOf (n lo w : Nat) : Nat := n / 2 ^ lo % 2 ^ w

/-- 1 for true, 0 for false. -/
def b2n (b : Bool) : Nat := if b then 1 else 0

end Sys2Proof
end

