-- ==== Sys2Proof/Syntax.lean ====
section
/-! DEFINITION. The commands the BLV-1632 takes from outside: one constructor of `Instr` per row of
spec/opcode_table.json, and the operands they carry. The table gives its rows no operand fields; the
operands here are what the rule of the row says the command depends on (log entry 2). -/

namespace Sys2Proof

/-- Who writes a register: a host port, the management endpoint or the Gaffer core
(`BLKWERR.SOURCE`, R83). -/
inductive Writer where
  | port (n : Fin 4)
  | mgmt
  | gaffer
  deriving DecidableEq, Repr

/-- The code of a writer in `BLKWERR.SOURCE` and `SYS.DARK_LAST.SOURCE`. -/
def Writer.code : Writer → Nat
  | .port n => n.val
  | .mgmt => 4
  | .gaffer => 5

/-- A host address after HDM decode: the range and the byte offset in it (R80, R104). -/
inductive HostAddr where
  | home (off : Nat)
  | window (off : Nat)
  | mirror (off : Nat)
  deriving DecidableEq, Repr

/-- What the check bits of a Marver entry say when it is read (R231). -/
inductive MarverEcc where
  | good | corrected | uncorrectable
  deriving DecidableEq, Repr

/-- What the line decoder is given (R160, R161): the symbols of the 80-symbol codeword in error, numbered so that
the symbols of one component follow one another, and whether an error beyond the corrected class is miscorrected.
(log entry 2: DESIGN CHOICE). -/
structure LineErrors where
  symbols : List (Fin 80) := []
  miscorrects : Bool := false
  deriving DecidableEq, Repr

/-- The components in error (R160): 8 symbols of an x4 component, 16 of an x8 one. -/
def LineErrors.components (x8 : Bool) (e : LineErrors) : List Nat :=
  (e.symbols.map (fun k => k.val / (if x8 then 16 else 8))).dedup

/-- Who found an uncorrectable line: the codes of `SPR.LAST_UE_HI` (R175). -/
inductive Finder where
  | hostRead | scrub | lehr | undo | migration | partialRead | save
  deriving DecidableEq, Repr

def Finder.code : Finder → Nat
  | .hostRead => 0 | .scrub => 1 | .lehr => 2 | .undo => 3 | .migration => 4
  | .partialRead => 5 | .save => 6

/-- A location in the NAND store (R211). -/
structure Loc where
  ch : Nat
  die : Nat
  block : Nat
  page : Nat
  deriving DecidableEq, Repr

/-- The 32-bit code of a location (R211). -/
def Loc.code (l : Loc) : Nat :=
  l.ch % 32 * 2 ^ 27 + l.die % 16 * 2 ^ 23 + l.block % 8192 * 2 ^ 10 + l.page % 1024

/-- The conversions of the frame just ended (R252), one code per converter. -/
structure GaugeSamples where
  vin : Nat := 0
  vcap : Nat := 0
  vbat : Nat := 0
  ibat : Int := 0
  tStore : Int := 0
  /-- The thermistor's reading sits at an end of its range: open or shorted (R254). -/
  ntcEnd : Bool := false
  /-- `SAV`'s comparator reads VIN above its threshold and re-armed (R275, R283). -/
  vinAbove : Bool := true
  /-- `PFAIL_N` reads low (R283). -/
  pfailLow : Bool := false
  deriving DecidableEq, Repr

/-- What CONVERTER_FAULT reports of a converter (R254): its reading has sat at an end of its range, or its reference check in
the self-test cycle failed or passed. -/
inductive ConvCheck where
  | range | reference (good : Bool)
  deriving DecidableEq, Repr

/-- A word of a record that its checker sees before the CRC-32C is computed (R47, R48): its place and the word with
its residue. -/
structure SealWord where
  place : Nat
  word : BitVec 18
  deriving DecidableEq, Repr

/-- A move of a record that the slice of task 8 starts (R218 to R220). -/
structure MoveStart where
  granule : Nat
  src : Loc
  dst : Loc
  /-- The record read checks: its codewords decode and its CRC-32C is right (R49, R208). -/
  ok : Bool := true
  deriving DecidableEq, Repr

/-- What the module and the detectors give the controller at a tick. (log entry 2: DESIGN CHOICE). -/
structure TickIn where
  samples : GaugeSamples := {}
  /-- The gauge slice was cut: the previous frame's sample is used (R61, R272). -/
  gaugeCut : Bool := false
  /-- Real-time-clock seconds now (R244). -/
  rtc : Nat := 0
  /-- Results that the checkers of step 4 see (R46, R47): the unit's page, and each result word with its residue. -/
  checks : List (Nat × BitVec 18) := []
  /-- Upsets of free counts in the frame just ended: a pool, by the address of its `CRD_` register, and by how much
  its free count is off (R43). -/
  credits : List (Nat × Int) := []
  /-- Tasks that did not finish their slice (R65). -/
  overruns : List (Fin 10) := []
  /-- DQS drift in ps that each channel measures on the rank whose turn it is (R155). -/
  drift : List (Fin 16 × Nat) := []
  /-- Hottest MR4 reading of a channel in °C (R144). -/
  mr4 : List (Fin 16 × Int) := []
  /-- The error-check-and-scrub counts of the ranks, read when a scrub pass ends (R168). -/
  ecs : List (Fin 64 × Nat) := []
  /-- Marver entries of the recount slice whose check bits do not check (R231). -/
  recountEcc : List (Nat × MarverEcc) := []
  /-- Self-test items that completed in this slice, with their result (R422). -/
  selftest : List (Fin 10 × Bool) := []
  /-- Marver groups whose summary bit the recount slice found wrong (R237). -/
  summaryBad : List Nat := []
  /-- Moves of records begun in the slice of task 8 (R218). -/
  moves : List MoveStart := []
  deriving DecidableEq, Repr

/-- A write into the BAR2 aperture (R446, R449): who writes, the byte offset and the data. -/
structure CarWrite where
  by_ : Writer
  off : Nat
  data : Word
  deriving DecidableEq, Repr

/-- One part of a firmware transfer (R467): its offset in words and its words; the header in the first part names the
component (R465). `signed` tells at the end whether the signature verifies (R466). -/
inductive FwPart where
  | initiate (offset : Nat) (data : List Word)
  | cont (offset : Nat) (data : List Word)
  | finish (signed : Bool)
  deriving DecidableEq, Repr

/-- The event interrupt policy and the alert configuration of the mailbox are opaque words to the
controller (R118). -/
abbrev MailboxWords := List Word

/-- What the training of R154 found: ranks that failed, channels whose identity mismatched, and the
timings as trained. (log entry 2: DESIGN CHOICE). -/
structure TrainResult where
  failed : List (Fin 64) := []
  mismatch : List (Fin 16) := []
  trcNs : Nat := 0
  twtrlNs : Nat := 0
  txpNs : Nat := 0
  deriving DecidableEq, Repr

/-- What a HELLO carries (R344). -/
structure HelloIn where
  serial : BitVec 64
  granSize : Nat
  homeGib : Nat
  state : Nat
  reattach : Bool := false
  promoted : Bool := false
  homeGen : Nat
  mirrorGen : Nat
  homeAgreed : Nat
  mirrorAgreed : Nat
  lostHome : List Nat := []
  lostMirror : List Nat := []
  twinDirty : Nat := 0
  undoRegion : Bool := true
  rctx : List (Fin 64 × Nat) := []
  deriving DecidableEq, Repr

/-- What a HEARTBEAT carries (R331). -/
structure HeartbeatIn where
  frame : Nat
  state : Nat
  async : Bool
  seq : Nat
  deriving DecidableEq, Repr

/-- A mirror write as the Punty link carries it (R330): `residues` are those of the lanes as re-created at the
receiver (R47, R49), `ecc` the check of the granule's entry, `old` what the undo logger's read of the old line meets.
(log entry 2: DESIGN CHOICE). -/
structure MirrorIn where
  line : Nat
  be : BitVec 64
  data : Line
  ctx : Option (Fin 64)
  seq : Nat
  residues : BitVec 64
  ecc : MarverEcc := .good
  old : LineErrors := {}
  /-- The flits that carried it checked (R49); the link layer replays those that did not. -/
  crcOk : Bool := true
  deriving DecidableEq, Repr

/-- What the path of a host write sees (R47, R182, R231): the residues of the data's 32 lanes, the check of the
granule's Marver entry, and what the undo logger's read of the old line meets. (log entry 2: DESIGN CHOICE). -/
structure WriteIn where
  residues : BitVec 64
  ecc : MarverEcc := .good
  old : LineErrors := {}
  deriving DecidableEq, Repr

/-- The registers of a port's configuration space that the spec names: the media state with its timeout (R107), the
completion timeout mirrored in the vendor DVSEC (R111), the flush DVSEC (R113), the AER status (R102). -/
inductive ConfigReg where
  | media | ctoReq | gpfDuration | gpfPower | aer
  deriving DecidableEq, Repr

/-- What a configuration access asks for (R102, R106, R111, R113, R116): a read of one of the registers that the
spec gives the space, or a write of one that a host may write. -/
inductive ConfigAccess where
  | read (reg : ConfigReg)
  | viralEnable (on : Bool)
  | msixEntry (vector : BitVec 7) (masked : Bool)
  | aerClear (mask : BitVec 32)
  deriving DecidableEq, Repr

/-- The population and the straps that power-on finds (R1, R2, R97, R493). (log entry 2: DESIGN CHOICE). -/
structure PowerOnIn where
  hpEn : BitVec 4
  hpX16 : BitVec 4
  recStrap : Bool := false
  dramGroups : BitVec 4
  ranksPerChannel : Nat := 1
  x8 : Bool := false
  dense32 : Bool := true
  nandGroups : BitVec 8
  dies : Nat := 4
  planes : Nat := 1
  ces : Nat := 1
  blocksPerDie : Nat := 4096
  pagesPerBlock : Nat := 768
  factoryBad : List (Nat × Nat × Nat) := []
  exposedGib : Nat
  /-- Raw capacity of the flash in TiB, as its parameter pages give it (R2). -/
  rawTib : Nat := 8
  /-- Channels whose components have another parameter-page identity than 0 (R204). -/
  identities : List (Fin 32 × Nat) := []
  battery : Bool := false
  twin : Bool := false
  ring : Bool := false
  ntc : Bool := true
  vinGood : Bool := true
  serial : BitVec 64 := 0
  rtc : Nat := 0
  /-- The outcome of the option load (R458) beyond what the array holds: copies read bad. -/
  optBadA : Bool := false
  optBadB : Bool := false
  /-- The reaction-path self-test passed (R483 step 2). -/
  selftestOk : Bool := true
  deriving DecidableEq, Repr

/-- The residues of a read's data as the port sees them (R47, R48): of the data as it came, and of the data read again.
(log entry 2: DESIGN CHOICE). -/
structure ReadIn where
  first : BitVec 64
  second : BitVec 64
  deriving DecidableEq, Repr

/-- The votes a TALLY cell has gathered (R368). -/
structure Votes where
  yes : Nat
  no : Bool
  deriving DecidableEq, Repr

/-- The record kinds of R287 that are not SEAL records. -/
inductive RecKind where
  | delta | map | undo | hold | marver | gather | cullet | continuity
  deriving DecidableEq, Repr

/-- The producers of the Gather queues (R429). -/
inductive Producer where
  | flt | spr | txn | twn | mrv | rsr | task4 | sys | dch (n : Fin 16) | saf
  deriving DecidableEq, Repr

/-- A range of the ring in a cell: ring A or ring B (R357). -/
inductive Ring where
  | a | b
  deriving DecidableEq, Repr

/-- The commands. Each constructor is a row of spec/opcode_table.json, in the table's order.
(log entry 2: DESIGN CHOICE). -/
inductive Instr where
  -- frames, update classes, the common header, IRQ and CLK (R52 to R101)
  | frameTick (x : TickIn)
  | gatherLingerFlush (q : Fin 4)
  | syncMarker (frame : Frame) (phaseErr : Int) (delay : Nat)
  | syncLocked
  | syncLost
  | frmSrcModeWrite (w : Writer) (mode : BitVec 2)
  | frameCountRead (w : Writer)
  | registerWrite (w : Writer) (off : BitVec 24) (eight : Bool) (be : BitVec 8) (data : BitVec 64) (phase : Nat)
  | enable (w : Writer) (page : BitVec 12) (on : Bool)
  | abort (w : Writer) (page : BitVec 12)
  | abortDone (page : BitVec 12)
  | reset (w : Writer) (page : BitVec 12)
  | freeze (w : Writer) (page : BitVec 12) (on : Bool)
  | frozen (page : BitVec 12)
  | commitShadow (w : Writer) (page : BitVec 12)
  | lock (w : Writer) (page : BitVec 12)
  | finjArm (w : Writer) (page : BitVec 12) (src : BitVec 6) (mode : BitVec 2)
  | finjDisarm (w : Writer) (page : BitVec 12)
  | finjKeyWrite (w : Writer) (key : BitVec 16)
  | finjKeyTimeout
  | capAck (w : Writer)
  | mgmtPortChange (w : Writer) (port : Fin 4)
  | irqFind (w : Writer) (vector : BitVec 7) (start : BitVec 12)
  | irqFindDone
  | irqHoldoffExpiry (vector : BitVec 7)
  | pllLockLoss (k : Fin 12)
  | pllRelock (k : Fin 12)
  | pllRelockTimeout (k : Fin 12)
  | xtalCheck (ppmX10 : Int) (frames : Nat)
  | frameWatchdog (count : Nat)
  -- host ports (R102 to R126)
  | memrd (port : Fin 4) (addr : HostAddr) (tag : Nat) (ecc : MarverEcc)
  | memwr (port : Fin 4) (addr : HostAddr) (data : Line) (tag : Nat) (poison : Bool) (x : WriteIn)
  | memwrptl (port : Fin 4) (addr : HostAddr) (be : BitVec 64) (data : Line) (tag : Nat) (poison : Bool) (x : WriteIn)
  | meminv (port : Fin 4) (addr : HostAddr) (tag : Nat)
  | cxlMemUnsupported (port : Fin 4) (tag : Nat)
  | writeCompletion (port : Fin 4) (tag : Nat)
  | readCompletion (port : Fin 4) (tag : Nat) (x : ReadIn)
  | configRequest (port : Fin 4) (x : ConfigAccess)
  | cfgReady (port : Fin 4)
  | hpPerstAssert (port : Fin 4)
  | hpPerstRelease (port : Fin 4)
  | linkTrained (port : Fin 4) (x16 : Bool) (gt64 : Bool) (up : Bool)
  | linkDown (port : Fin 4)
  | hdmCommit (port : Fin 4) (decoder : Fin 4) (size : Nat) (ways : Nat)
  | gpfPhase1 (port : Fin 4)
  | gpfPhase2 (port : Fin 4)
  | viralReceived (port : Fin 4)
  | identify (port : Fin 4)
  | getEventRecords (port : Fin 4)
  | clearEventRecords (port : Fin 4)
  | getEventInterruptPolicy (port : Fin 4)
  | setEventInterruptPolicy (port : Fin 4) (policy : MailboxWords)
  | getFwInfo (port : Fin 4)
  | transferFw (port : Fin 4) (part : FwPart)
  | getTimestamp (port : Fin 4)
  | setTimestamp (port : Fin 4) (t : Nat)
  | getSupportedLogs (port : Fin 4)
  | getLog (port : Fin 4)
  | identifyMemoryDevice (port : Fin 4)
  | getPartitionInfo (port : Fin 4)
  | getHealthInfo (port : Fin 4)
  | getAlertConfiguration (port : Fin 4)
  | setAlertConfiguration (port : Fin 4) (cfg : MailboxWords)
  | getShutdownState (port : Fin 4)
  | setShutdownState (port : Fin 4) (st : Nat)
  | getPoisonList (port : Fin 4)
  | injectPoison (port : Fin 4) (addr : Nat)
  | clearPoison (port : Fin 4) (addr : Nat) (data : Line) (tag : Nat)
  | getPersistenceState (port : Fin 4)
  | acknowledgeCapacity (port : Fin 4)
  | readContinuityRecord (port : Fin 4)
  | getRestoreProgress (port : Fin 4)
  | mailboxUnsupported (port : Fin 4) (opcode : BitVec 16)
  -- DRAM channels, integrity and sparing (R127 to R176)
  | dramCommandIssue (ch : Fin 16) (sub : Fin 2) (bankReady : List Nat) (actReady : List Nat)
  | urgencyUpdate
  | pageIdleExpiry (ch : Fin 16) (sub : Fin 2) (bank : Nat)
  | pdTimerExpiry (ch : Fin 16) (rank : Fin 4)
  | refreshInterval (ch : Fin 16)
  | refreshIssue (ch : Fin 16) (rfm : Bool)
  | hotClear (ch : Fin 16)
  | writeCrcError (ch : Fin 16) (sub : Fin 2) (line : Nat)
  | dramReadDone (line : Nat) (finder : Finder) (err : LineErrors)
  | twinRepairTimeout (line : Nat)
  | sealedCopyFetchDone (line : Nat) (ok : Bool)
  | ceWindowStart
  | migrationCopy (line : Nat) (err : LineErrors) (spareBad : Bool)
  | migDone
  | dramTrainingDone (r : TrainResult)
  | retrain (rank : Fin 64) (byCrc : Bool)
  | retrainDone (rank : Fin 64) (ok : Bool)
  | pasrRequest (w : Writer) (req : BitVec 8)
  | pasrDone (g : Fin 4) (r : TrainResult)
  | xlate (w : Writer) (hi : BitVec 2)
  | xlateDone
  -- transactions (R177 to R202)
  | ctxOpen (w : Writer) (port : Fin 4) (c : Fin 16)
  | ctxAbort (w : Writer) (port : Fin 4) (c : Fin 16)
  | ctxTagWrite (w : Writer) (port : Fin 4) (c : Fin 16) (tag : BitVec 22) (parts : BitVec 10)
  | txnCommit (w : Writer) (g : Fin 64) (phase : Nat)
  | holdStallTimeout (g : Fin 64)
  | clearingDone (g : Fin 64)
  | replayLine (g : Fin 64) (err : LineErrors)
  | replayDone (g : Fin 64)
  | ballotInsert (g : Fin 64) (free : Bool) (phase : Nat)
  | ballot (tag : BitVec 22) (parts : Nat) (coord : Nat) (frame : BitVec 32)
  | tallyInsert (tag : BitVec 22) (coord : Nat) (segment : Fin 3)
  | tally (tag : BitVec 22) (coord src : Nat) (votes : Votes) (segment : Fin 3) (crcOk : Bool)
  | tallyDeadline (g : Fin 64)
  | decision (tag : BitVec 22) (coord : Nat) (commit : Bool) (frame : BitVec 32) (effective : BitVec 32) (crcOk : Bool)
  | resolveAttempt (g : Fin 64)
  | query (tag : BitVec 22) (coord : Nat) (frame : BitVec 32) (querier : Nat) (crcOk : Bool)
  | answer (tag : BitVec 22) (querier : Nat) (ans : Fin 6) (frame : BitVec 32) (crcOk : Bool)
  | domForce (w : Writer) (g : Fin 64) (commit : Bool)
  -- the seal store, the Marver and the Lehr (R203 to R250)
  | lehrPick (die : Nat) (bad : Option SealWord) (ecc : MarverEcc) (poison : List Nat)
  | sealComplete (granule : Nat)
  | nandProgramFail (granule : Nat) (die : Nat)
  | nandEraseDone (at_ : Loc) (ok : Bool)
  | nandReadDone (at_ : Loc) (retried failed : List (Fin 4))
  | dieTimeout (ch : Fin 32) (die : Fin 16)
  | moveDone (granule : Nat)
  | checkpointStart
  | ckptDone
  | freeSpaceLow
  | fullRecount
  | fullRecountDone
  | peek (w : Writer) (index : BitVec 25)
  | peekDone
  -- the gauge (R251 to R274)
  | capBankDetected
  | capBankTimeout
  | converterFault (k : Fin 5) (why : ConvCheck)
  | batIn
  | batOut
  | restDone
  | fullAnchor
  | emptyAnchor
  | disagree (differ : Bool)
  | chargerPoll (ok : Bool) (cv : Bool)
  | exerciseStart (w : Writer)
  | exerciseStop (w : Writer)
  | exerciseTimeout
  | learnResetDefaults (w : Writer)
  | learnRecordWrite (words : Fin 9)
  | capTestStart
  | capTestEnd (v0 v1 v500 : Nat)
  | qcntRead (w : Writer)
  -- save and ride-through (R275 to R299)
  | pfail
  | vinComparatorTrip
  | chipReset
  | drainDone
  | drainTimeout (pool : Nat)
  | presealDone
  | rideMaxExpired
  | warmReturn
  | manifestProgrammed (copyA copyB : Bool)
  | resume (w : Writer)
  | undervoltageLimit
  -- restore (R300 to R327)
  | restoreStart
  | manifestLocated (found : Bool)
  | manifestValidated (ok : Bool)
  | recoveryScanDone (partialList : Bool)
  | metaDone
  | rollbackDone
  | doubtWaitExpired
  | admitted
  | restoreGranuleDone (granule : Nat) (ok : Bool)
  | imageDone
  -- the twin (R328 to R353)
  | pair (w : Writer)
  | unpair (w : Writer)
  | detach (w : Writer)
  | reattach (w : Writer)
  | twinFailed (w : Writer)
  | promote (w : Writer)
  | demote (w : Writer)
  | heartbeat (h : HeartbeatIn)
  | twinLost
  | fenceMessage
  | detachMessage
  | hello (h : HelloIn)
  | plan (outcomes : List (Fin 64 × Bool))
  | planAck
  | regionDone (home : Bool) (gen : Nat)
  | reconcileTimeout
  | waitBootExpired
  | prepare (c : Fin 64) (domainTag : BitVec 22)
  | prepareAck (c : Fin 64) (phase : Nat)
  | commitN (c : Fin 64)
  | abortedN (c : Fin 64)
  | holdFull (c : Fin 64)
  | sealN (seq : BitVec 32) (gen : BitVec 32)
  | mirrorAck (seq : Nat)
  | mirrorWrite (m : MirrorIn)
  | repairRequest (line : Nat)
  | repairReply (line : Nat) (data : Option Line)
  | granuleCopy (home : Bool) (granule : Nat) (image : List (Nat × BitVec 8)) (reverse : Bool)
  | puntyRetrain
  | puntyLinkUp (x32 : Bool) (gt64 : Bool)
  -- the ring (R354 to R379)
  | sync (frame : Frame) (phaseErr : Int) (delay : Nat) (partitioned quorum : Bool) (ring : Ring) (spanDelay : Nat) (crcOk : Bool)
  | electing
  | claim (id : BitVec 64) (duplicate : Bool) (crcOk : Bool)
  | elected
  | enum (count : Nat) (frameMax : Frame) (ids : List (Nat × BitVec 64)) (ring : Ring) (crcOk : Bool)
  | break_ (index : Nat) (healed : Bool) (ring : Ring) (crcOk : Bool)
  | spanBroken (ring : Ring)
  | spanHealed (ring : Ring)
  | leave (id : BitVec 64) (crcOk : Bool)
  | fenceCell (src : Nat) (frame : Frame) (crcOk : Bool)
  -- power sequencing (R380 to R398, R483, R494, R502, R507, R508)
  | vaonPowerUp (x : PowerOnIn)
  | powerOnRestart (optBadA optBadB : Bool) (selftestOk : Bool)
  | aonReset
  | railPgDebounced (r : Fin 12)
  | railStepTimeout (r : Fin 12) (chatter : Bool)
  | backoffExpired (r : Fin 12)
  | bootAttemptRetry
  | railLoss (r : Fin 12)
  | railDischarged (r : Fin 12)
  | disTimeout (r : Fin 12)
  | depCut (r : Fin 12)
  | domainRequest (w : Writer) (d : Fin 52) (req : BitVec 2) (phase : Nat)
  | domainSwitchAck (d : Fin 52)
  | ackFail (d : Fin 52)
  -- fault collection and the safe state (R399 to R428)
  | faultRaise (n : Fin 384) (reason instance_ : Nat) (snap2 snap3 : Word) (held : Bool) (phase : Nat)
  | sourceLiveClear (n : Fin 384)
  | firstIdRead (w : Writer)
  | stickyClear (w : Writer) (page : Fin 6) (high : Bool) (mask : Word)
  | rearm (w : Writer)
  | errPulseEnd
  | errPinRelease (w : Writer)
  | collectorSelfFault (check : Nat)
  | safeEnter (w : Writer)
  | safeExit (w : Writer)
  | selftestLate
  | aonSelftest (failed : List (Fin 10))
  | pinReadbackFault (errOut : Bool) (intended : Bool)
  | saveTriggerCrosscheck
  -- Gather queues (R429 to R445)
  | gatherPush (q : Fin 4) (p : Producer) (type : BitVec 8) (payload : List (BitVec 16))
  | read (w : Writer) (q : Fin 4)
  | mark (w : Writer) (q : Fin 4)
  | rewind (w : Writer) (q : Fin 4)
  | release (w : Writer) (q : Fin 4)
  | flush (w : Writer) (q : Fin 4)
  -- the code array (R446 to R463)
  | program (ws : List CarWrite)
  | erase (ws : List CarWrite)
  | suspend (x : CarWrite)
  | resumeOperation (x : CarWrite)
  | readStatus (ws : List CarWrite)
  | clearStatus (ws : List CarWrite)
  | readArray (ws : List CarWrite)
  | readId (ws : List CarWrite)
  | optionProgram (ws : List CarWrite)
  | opDone (bank : Fin 2) (ok : Bool)
  | arrayRead (w : Writer) (off : Nat) (bitErrors : Fin 3)
  | fetchTrap (bank : Fin 2) (addr : Word)
  -- firmware and settings update (R464 to R482)
  | activate (w : Writer) (c : Fin 4) (slotB : Bool)
  | confirm (w : Writer) (withAccept : Bool)
  | acceptDefaults (w : Writer)
  | revert (w : Writer)
  | restart (w : Writer)
  | autoConfirm
  | settingsCompaction
  -- the TAP (R491, R502)
  | bypass
  | idcode
  | samplePreload
  | extest
  | clamp
  | tapReset
  -- rows the table adds at its end
  | pllLocked (k : Fin 12)
  | nandInterfaceTrainingDone (ch : Fin 32) (ok : Bool)
  | recordProgrammed (kind : RecKind)
  deriving DecidableEq, Repr

end Sys2Proof
end

