-- ==== Sys2Proof/Config.lean ====
section
/-! DEFINITION. What an implementation fixes, and the free values: constants without a body, of which no
proof can see the value (R44, R83 and the rules each docstring names). -/

namespace Sys2Proof.Config

/-- A value the spec leaves open; the argument is a counter in State, so that each use is a fresh value.
(log entry 3: DESIGN CHOICE). -/
opaque freeWord : Nat → Word

/-- `BLKREV` of a page (R83: no value given). (log entry 25: DESIGN CHOICE). -/
opaque blkRev : Nat → Word

/-- The size of a credit pool whose size the spec does not give, by the address of its register (R44).
(log entry 25: DESIGN CHOICE). -/
opaque poolSize : Nat → BitVec 12

/-- The reserved share of such a pool (R44). (log entry 25: DESIGN CHOICE). -/
opaque poolReserve : Nat → BitVec 4

/-- The 6 check bits of a Marver entry over its payload (R231: the code is not given). -/
opaque marverCheck : BitVec 16 → BitVec 6

/-- The SHA-256 digest of a manifest (R293), by its SEQ: it covers records whose byte layout the spec does
not give in full. -/
opaque digest : Nat → BitVec 256

/-- Pages of a metadata record whose layout the spec does not give, by its type code and the number of its items (R208,
R209); its reset on flash is at least one page. (log entry 3: DESIGN CHOICE). -/
opaque recordPages : Nat → Nat → BitVec 8

/-- A CRC-32 over words, whose byte order the spec does not give: `DMC.MAP_CRC` over the mask and region
registers (R133), word 511 of the option area (R457), and word 6 of a record of learned values (R269). -/
opaque mapCrc : List Nat → Word

/-- The points of the OCV tables of the settings store, by chemistry and point: a cell's open-circuit voltage in mV and its
SOC in per mille (R263: the points are not given). -/
opaque ocvMv : Nat → Nat → BitVec 16
opaque ocvPermille : Nat → Nat → BitVec 10

/-- A word of the code array as shipped, by its word offset in BAR2: the recovery monitor and the images of slot A
(R464); their contents are not given. (log entry 6: DESIGN CHOICE). -/
opaque shippedWord : Nat → Word

end Sys2Proof.Config
end

