-- ==== Sys2Proof/Machine/State.lean ====
section
/-! DEFINITION. The state of the BLV-1632, plain data: the register file, what no register shows, and the
queue of commands that wait. -/

namespace Sys2Proof.Machine

/-- One field of a register: the BAR0 byte address of its word, its lowest bit, its width and its reset
value. -/
structure Fld where
  addr : Nat
  lo : Nat
  w : Nat
  reset : Nat
  deriving DecidableEq, Repr

/-- Access codes of the register tables. -/
inductive Acc where
  | ro | ros | rw | w1c | w1s
  deriving DecidableEq, Repr

/-- Update classes (R67 to R70). -/
inductive Cls where
  | none | s | f | l
  deriving DecidableEq, Repr

/-- A field with its access code, its update class, the values a write may leave (R505), whether its reset
value comes from the settings store, and whether it shows population and so has no reset value. -/
structure FDef where
  f : Fld
  acc : Acc
  cls : Cls
  min : Nat
  max : Nat
  stored : Bool
  pop : Bool
  deriving DecidableEq, Repr

/-- A class F value that waits for a tick (R68): `late` when it was written after the shadow close. -/
structure Shadow where
  f : Fld
  value : Nat
  late : Bool
  deriving DecidableEq, Repr

/-- A credit pool, by the address of its register: its two sticky bits (R44), and by how much its free count is off
from SIZE less what senders hold and what is queued (R43). -/
structure Pool where
  addr : Nat
  stallSeen : Bool := false
  consErr : Bool := false
  skew : Int := 0
  deriving DecidableEq, Repr

/-- What leaves the controller: completions, messages, cells, pins, DRAM and NAND commands. The list of a
state holds what the last command sent. -/
inductive Out where
  /-- A CXL.mem completion of a write (R8, R9). -/
  | writeDone (port tag : Nat)
  /-- A CXL.mem read completion with its data; `poison` for a poisoned response (R115). -/
  | readDone (port tag : Nat) (data : Option Line)
  /-- A read completion that carries poison; for a poisoned line the data symbols go with it (R162). -/
  | readPoison (port tag : Nat) (under : Option Line)
  /-- A MemInv request is answered (R102). -/
  | invDone (port tag : Nat)
  /-- A CXL.mem request that is not supported is completed so (R102). -/
  | unsupported (port tag : Nat)
  /-- A configuration request is answered Request Retry Status, or normally (R106), with the word it reads. -/
  | config (port : Nat) (retry : Bool) (word : Nat)
  /-- A decoder's commit is answered: committed, or "Err Not Committed" (R104). -/
  | hdmStatus (port decoder : Nat) (committed : Bool)
  /-- Viral signalled on a port (R116). -/
  | viral (port : Nat)
  /-- A GPF phase answered (R113). -/
  | gpfAck (port phase : Nat) (withError : Bool)
  /-- An MSI-X message (R119). -/
  | msix (port vector : Nat)
  /-- An event delivered to the Gaffer core (R84). -/
  | gaffer (page bit : Nat)
  /-- A raise delivered to the Gaffer core, and a non-maskable trap (R404). -/
  | gafferFault (source : Nat)
  | nmi (source : Nat)
  /-- A bus error trap to the Gaffer core (R453). -/
  | busTrap (addr : Nat)
  /-- A mailbox response: the return code and its payload (R118). -/
  | mailbox (port code : Nat) (payload : List Nat)
  /-- A register read's data. -/
  | regData (word : Nat)
  /-- Data read from a Gather read window, 8 bytes (R437). -/
  | windowData (value : Nat)
  /-- Data read from the code array (R446). -/
  | arrayData (value : Nat) (ok : Bool)
  /-- A message to the twin over the Punty link: its type and its words. -/
  | twin (kind : String) (words : List Nat)
  /-- A mirror write to the twin (R330). -/
  | mirror (line : Nat) (be : BitVec 64) (data : Line) (ctx : Option Nat) (seq : Nat)
  /-- A cell sent on ring A or ring B of the Traune: its 128 bits (R357). -/
  | cell (ringB : Bool) (bits : BitVec 128)
  /-- A DRAM command on a subchannel (R136 to R148). -/
  | dram (ch sub : Nat) (kind : String) (words : List Nat)
  /-- A NAND command on a channel (R203). -/
  | nand (ch die : Nat) (kind : String) (words : List Nat)
  /-- A rail enable or discharge driven (R380). -/
  | rail (r : Nat) (enable : Bool)
  | discharge (r : Nat) (on : Bool)
  /-- `MOD_RST_N` asserted or released (R494). -/
  | moduleReset (asserted : Bool)
  /-- A boundary-scan register selected (R491). -/
  | tap (kind : String)
  deriving DecidableEq, Repr

/-- One wide word of a Gather queue (R433, R437). -/
structure WideWord where
  words : List (BitVec 16)
  pad : Bool
  poison : Bool := false
  deriving DecidableEq, Repr

/-- What a Gather queue holds that its registers do not show (R429 to R443). -/
structure Gather where
  /-- The wide words from RELEASED to WR. -/
  held : List WideWord := []
  /-- Half-words in the packing word (R433). -/
  packing : List (BitVec 16) := []
  /-- Consecutive frames without a push. -/
  idle : Nat := 0
  /-- A push was made in the present frame. -/
  pushed : Bool := false
  /-- Free push credits (R431). -/
  free : Nat := 512
  /-- Records dropped since the last OVERFLOW, and the frame of the first (R432). -/
  dropped : Nat := 0
  /-- Frame of the first record dropped (R432). -/
  firstDrop : Nat := 0
  /-- Records whose producers wait for credits, oldest first (R432). -/
  waiting : List (List (BitVec 16)) := []
  /-- Each watermark is armed (R439). -/
  hiArmed : Bool := true
  /-- The low mark may latch its crossing again (R439). -/
  loArmed : Bool := false
  deriving DecidableEq, Repr

/-- The frame unit's own state. -/
structure Frm where
  /-- The 48-bit frame counter, in the always-on island (R52, R53). -/
  count : Frame := 0
  /-- Fabric cycles since the tick. -/
  phase : Nat := 0
  /-- The marker's number that the member adopts at the next tick (R56). -/
  adopt : Option Frame := none
  /-- A lengthening run is in progress (R56). -/
  lengthening : Bool := false
  /-- A marker came in the frame. -/
  markerSeen : Bool := false
  /-- For each task, in which of the last 64 frames it overran, newest first (R66). -/
  windows : List (List Bool) := List.replicate 16 []
  /-- Pages whose COMMIT_SHADOW waits for the tick (R73). -/
  commitShadow : List Nat := []
  /-- Aborts in progress: page, frames left, and whether a RESET asked for it (R92, R96). -/
  aborts : List (Nat × Nat × Bool) := []
  /-- ENABLE written during an abort: the page, the writer and the value, whose effect starts at its end (R96). -/
  lateEnable : List (Nat × Writer × Bool) := []
  deriving DecidableEq, Repr

/-! ### Host ports (R102 to R126) -/

/-- A host write past the ingest check whose completion is not yet sent (R8, R9): the mirror write it waits
for, if any. -/
structure WriteWait where
  port : Nat
  tag : Nat
  line : Nat
  seq : Option Nat
  /-- The write of a Clear Poison: the mailbox answers where another gets a completion (R118). -/
  mailbox : Bool := false
  deriving DecidableEq, Repr

/-- A host read on its way: `data` once it is decoded; `none` inside is poison, with the data symbols that go with it
where DRAM holds the line poisoned (R162). -/
structure ReadWait where
  port : Nat
  tag : Nat
  line : Nat
  data : Option (Option Line)
  under : Option Line := none
  deriving DecidableEq, Repr

/-- Why a host request waits inside a port (R41, R110). -/
inductive WaitFor where
  /-- space in the Hold set, with the frames waited (R184) -/
  | hold (frames : Nat)
  /-- the demand fetch of a granule (R317) -/
  | demand (granule : Nat)
  /-- room in the write or the read pool of a channel (R41, R140) -/
  | pool (ch sub : Nat)
  /-- the repair of the old line that the undo log takes (R164, R182) -/
  | repair
  deriving DecidableEq, Repr

/-- A host request that waits: a write, or a read when `be` is none. -/
structure Stalled where
  port : Nat
  tag : Nat
  line : Nat
  be : Option (BitVec 64)
  data : Line
  ctx : Option Nat
  /-- The residue of the write did not check (R48). -/
  bad : Bool := false
  /-- The host marked the data with poison (R102). -/
  poison : Bool := false
  /-- What the undo logger's read of the old line meets (R182). -/
  old : LineErrors := {}
  /-- The write of a Clear Poison (R118). -/
  mailbox : Bool := false
  why : WaitFor
  deriving DecidableEq, Repr

/-- An HDM decoder that is committed, with the base of the range it covers (R104). -/
structure Hdm where
  port : Nat
  decoder : Nat
  size : Nat
  base : Nat := 0
  deriving DecidableEq, Repr

/-- A vector whose holdoff runs: its number and the messages that fell due during it (R100). -/
structure Holdoff where
  vector : Nat
  due : Bool
  deriving DecidableEq, Repr

/-- What the ports, the mailbox and the interrupt unit hold beyond their registers. -/
structure Hp where
  /-- Ports whose PERST_N is asserted. -/
  perst : List Nat := [0, 1, 2, 3]
  /-- HDM decoders that are committed (R104). -/
  decoders : List Hdm := []
  /-- Host writes whose completion is not sent (R8 to R11). -/
  writes : List WriteWait := []
  /-- Host reads whose data is not sent, with the data once it is there (R110). -/
  reads : List ReadWait := []
  /-- Host requests that wait inside a port (R184, R317, R140). -/
  stalled : List Stalled := []
  /-- Ports that wait for the answer to GPF Phase 2 (R113). -/
  gpfWaiting : List Nat := []
  /-- Lines read and written by each port in the present frame. -/
  readLines : List Nat := [0, 0, 0, 0]
  /-- Lines written by each port in the present frame (R119). -/
  writtenLines : List Nat := [0, 0, 0, 0]
  /-- Granules newly dirtied by each port in the present frame, and the allowance already used (R246). -/
  newDirty : List Nat := [0, 0, 0, 0]
  /-- MSI-X messages pending on a port: their entry is masked or its link is down (R119). -/
  msixPending : List (Nat × Nat) := []
  /-- MSI-X table entries that are not masked: port and vector; a reset of the port masks every entry (R109, R119). -/
  msixOpen : List (Nat × Nat) := []
  /-- The AER uncorrectable status of each port (R102). -/
  aer : List Nat := [0, 0, 0, 0]
  /-- Decoders whose last commit was refused: they report "Err Not Committed" (R104). -/
  notCommitted : List (Nat × Nat) := []
  /-- CXL.mem write credits that each host holds (R29, R112). -/
  credits : List Nat := [0, 0, 0, 0]
  /-- `MEDIA_STAGE` of each port as the present restore uses it (R70, R108). -/
  mediaStage : List Nat := [0, 0, 0, 0]
  /-- Vectors in their holdoff (R100). -/
  holdoffs : List Holdoff := []
  /-- The search that IRQ.FIND started (R100). -/
  finding : Bool := false
  /-- The event log of the mailbox (R118): the type of each record and its words. -/
  eventLog : List (Nat × List Nat) := []
  /-- The event interrupt policy of the mailbox (R118). -/
  policy : List Word := []
  /-- The alert configuration of the mailbox (R118). -/
  alert : List Word := []
  /-- The shutdown state of the mailbox (R118), kept without power. -/
  shutdownState : Nat := 0
  /-- The dirty-shutdown count (R39), and whether the present outage has counted. -/
  dirtyShutdowns : Nat := 0
  /-- Whether the present outage has counted in the dirty-shutdown count (R39). -/
  outageCounted : Bool := false
  /-- The ports with Viral enabled in their CXL DVSEC (R116; clear until a host enables it, log entry 101). -/
  viralDvsec : List Nat := []
  deriving DecidableEq, Repr

/-! ### DRAM (R127 to R176) -/

/-- A write entry of a subchannel (R136). -/
structure WEntry where
  line : Nat
  ch : Nat
  sub : Nat
  be : BitVec 64
  data : Line
  poison : Bool := false
  issued : Bool := false
  retries : Nat := 0
  /-- Waits for the rank's retraining (R143). -/
  held : Bool := false
  /-- Its address hashes did not agree: it is not issued (R48). -/
  hashBad : Bool := false
  /-- A partial write whose line has been read (R142). -/
  ready : Bool := false
  deriving DecidableEq, Repr

/-- Who reads: a host read, the line reads of R142 and the engines of R164. -/
inductive Reader where
  | host (port tag : Nat)
  | engine (f : Finder)
  deriving DecidableEq, Repr

/-- A read entry of a subchannel (R136, R137). -/
structure REntry where
  line : Nat
  ch : Nat
  sub : Nat
  who : Reader
  /-- Age in fabric cycles since port ingress. -/
  age : Nat := 0
  missed : Bool := false
  issued : Bool := false
  /-- Its address hashes did not agree: it is not issued (R48). -/
  hashBad : Bool := false
  deriving DecidableEq, Repr

/-- A subchannel: its mode, the writes issued in the batch, the bank-group rotation, and whether the write queue has
been above `WQ_LO` in the batch (R138, R140). -/
structure Sub where
  write : Bool := false
  batch : Nat := 0
  rot : Nat := 0
  above : Bool := false
  deriving DecidableEq, Repr

/-- An open row of a bank with its hit streak (R139). -/
structure OpenRow where
  ch : Nat
  sub : Nat
  rank : Nat
  bank : Nat
  row : Nat
  streak : Nat
  deriving DecidableEq, Repr

/-- Where the repair of an uncorrectable line stands (R164). -/
inductive RepairStage where
  | twin | sealed
  deriving DecidableEq, Repr

/-- A repair that is under way. -/
structure Repair where
  line : Nat
  finder : Finder
  stage : RepairStage
  /-- The bytes written since the failed read (R165). -/
  written : BitVec 64 := 0
  deriving DecidableEq, Repr

/-- What the DRAM side holds beyond its registers. Memory lists the bytes that are not 0, by DRAM address,
in rising order (R130, R241). -/
structure Dram where
  /-- The bytes of module DRAM that are not 0, by address (R127 to R133). -/
  mem : List Host.Cell := []
  /-- Lines whose codeword carries the poison pattern (R162), rising. -/
  poisoned : List Nat := []
  /-- The write queues of the channels (R136 to R141). -/
  writes : List WEntry := []
  /-- The read queues of the channels (R136 to R141). -/
  reads : List REntry := []
  /-- The state of each subchannel's picker: its mode, its batch and its turn (R138 to R140). -/
  subs : List (Nat × Sub) := []
  /-- Open rows, with the hits served in each (R139, R140). -/
  rows : List OpenRow := []
  /-- A request was served since the last refresh of each channel (R145). -/
  served : List Nat := List.range 16
  /-- Frames each channel has been below 82 °C while hot (R144). -/
  cool : List Nat := List.replicate 16 0
  /-- Ranks in precharge power-down: channel and rank (R147). -/
  poweredDown : List (Nat × Nat) := []
  /-- All ranks are in self-refresh (R282). -/
  selfRefresh : Bool := false
  /-- Ranks being retrained, one a channel, and ranks waiting, as rank indices (R156); those that write CRC
  errors asked for carry true. -/
  retraining : List Nat := []
  /-- Ranks waiting to be retrained (R156). -/
  retrainWaiting : List (Nat × Bool) := []
  /-- Retrainings of the last 65,536 frames: the rank and the frame (R156). -/
  retrainCounts : List (Nat × Nat) := []
  /-- The settings in use and the last-known-good ones of each rank (R154 to R157); what a setting is the spec does not
  say, so each is a word that training gives. -/
  settings : List (Nat × Word) := []
  /-- The last-known-good settings of each rank; kept in the settings store (R154). -/
  lastGood : List (Nat × Word) := []
  /-- For each channel, which of its ranks is measured next (R155). -/
  turn : List Nat := List.replicate 16 0
  /-- Retired ranks waiting to migrate, in order (R170). -/
  migWaiting : List Nat := []
  /-- Spares due for retirement when their migration completes (R173). -/
  retireAfter : List Nat := []
  /-- Repairs under way (R164 to R166). -/
  repairs : List Repair := []
  /-- The scrub cursor: the next line of the pass (R167). -/
  scrubLine : Nat := 0
  /-- The second cursor, for the lines of marginal ranks (R167). -/
  marginalLine : Nat := 0
  /-- The mapping in use, as the registers held it when ENABLE took it: key and value (R133). -/
  mapInUse : List (Nat × Nat) := []
  /-- A translation was asked for (R152). -/
  xlateBusy : Bool := false
  /-- Initial training has ended (R154). -/
  trained : Bool := false
  /-- For each rank group the state it is changing to and the one it left (R148). -/
  pasrTarget : List Nat := [2, 2, 2, 2]
  /-- For each rank group the state it leaves (R148). -/
  pasrFrom : List Nat := [2, 2, 2, 2]
  deriving DecidableEq, Repr

/-! ### Marver and Lehr (R230 to R250) -/

/-- The seal state of a granule (R230). -/
inductive Seal where
  | clean | dirty | sealing | redirtied
  deriving DecidableEq, Repr

/-- A Marver entry's payload (R230). An entry that is not listed is CLEAN with every field 0. -/
structure Entry where
  state : Seal := .clean
  twinDirty : Bool := false
  txHeld : Bool := false
  lost : Bool := false
  heat : Nat := 0
  gen : Nat := 0
  deriving DecidableEq, Repr

/-- A group whose summary bit is set: the age word of R236. -/
structure Group where
  stamp : Nat
  old : Bool
  deriving DecidableEq, Repr

/-- What the Marver and the Lehr hold beyond their registers. -/
structure Mrv where
  /-- Marver entries that are not CLEAN and bare, by granule (R231). -/
  entries : List (Nat × Entry) := []
  /-- Groups of 64 entries whose summary bit is set: the age word of each (R236, R242). -/
  groups : List (Nat × Group) := []
  /-- The recount accumulator of the periodic pass (R237). -/
  accum : Nat := 0
  /-- The accumulator of the full recount, and whether R231 started it (R238). -/
  fullByEcc : Bool := false
  /-- The pass has ended: RECOUNT clears at the tick after. -/
  fullEnded : Bool := false
  /-- A peek is running. -/
  peeking : Bool := false
  /-- The frames over b_eff (R27). -/
  overFrames : Nat := 0
  /-- Granules sealed in the present frame (R245). -/
  sealedNow : Nat := 0
  /-- Granules dirtied in the present frame (R245). -/
  dirtiedNow : Nat := 0
  /-- Granules newly dirtied by the twin in the present frame (R246). -/
  mirrorNew : Nat := 0
  /-- The budgets as computed at the last tick, full width (R26). -/
  bStrict : Nat := 0
  /-- The effective budget as computed at the last tick, full width (R26). -/
  bEff : Nat := 0
  /-- The next comparison sets sides only (R245). -/
  firstCompare : Bool := true
  /-- The dirty count is above the low mark (R245). -/
  loCrossed : Bool := false
  /-- The dirty count is above the high mark (R245). -/
  hiCrossed : Bool := false
  /-- The wear credit in pages (R244), and pages charged since the last tick. -/
  credit : Rat := 0
  /-- Pages that the sustainable rate has given and no pick below the low watermark has used (R243). -/
  pace : Rat := 0
  /-- Pages charged to the wear credit since the last tick (R244). -/
  charged : Nat := 0
  /-- SLC pages programmed since the last tick. -/
  pagesAll : Nat := 0
  /-- Those of them that belong to seals (R243). -/
  pagesSeal : Nat := 0
  /-- The frames of the last 2^20 that programmed pages, newest first: frame, pages, seal pages (R244, `LEH.WA`). -/
  pageLog : List (Nat × Nat × Nat) := []
  /-- A pick found the delta cache full in this frame: an overrun of task 6 (R213). -/
  deltaStall : Bool := false
  /-- Real-time-clock seconds of the first initialisation of the NAND store. -/
  firstInit : Nat := 0
  /-- Granules per port left of this frame's allowance. -/
  allowance : List Nat := [0, 0, 0, 0]
  deriving DecidableEq, Repr

/-! ### Transactions (R177 to R202) -/

/-- A pair of a held granule and a context that holds it, with its slab and the lines logged (R181). -/
structure Pair where
  ctx : Nat
  granule : Nat
  slab : Nat
  /-- Lines of the granule whose old value the slab holds. -/
  lines : List Nat
  /-- Lines whose undo entry was stored with poison (R182). -/
  poisoned : List Nat := []
  deriving DecidableEq, Repr

/-- A commit request that waits for its tick (R186, R187). -/
structure Request where
  ctx : Nat
  due : Nat
  /-- The twin's acknowledgement: not needed, awaited, or come in time for the tick named. -/
  needAck : Bool
  ackFor : Option Nat := none
  /-- A domain request, and the frame in which it was accepted (R195, R371). -/
  domain : Bool := false
  accepted : Nat := 0
  balloted : Bool := false
  /-- The request was accepted when the twin was lost during it (R187). -/
  degraded : Bool := false
  /-- The frame and the phase in which the twin's acknowledgement came (R187, R195). -/
  ackAt : Option (Nat × Nat) := none
  deriving DecidableEq, Repr

/-- A recorded decision (R195, R196). -/
structure Decision where
  ctx : Nat
  commit : Bool
  tick : Nat
  deriving DecidableEq, Repr

structure Txn where
  /-- Pairs of context and granule with their undo slab (R183 to R185). -/
  pairs : List Pair := []
  /-- Commits and ballots asked for and not yet effective (R186 to R188). -/
  requests : List Request := []
  /-- Decisions that take effect at a tick (R372). -/
  decisions : List Decision := []
  /-- Contexts in the order in which they entered ABORTING (R190). -/
  replays : List Nat := []
  /-- Contexts rolling back at a restore (R192). -/
  rollback : List Nat := []
  /-- The frame in which each context last became COMMITTED or ABORTED (R202). -/
  ends : List (Nat × Nat) := []
  /-- Contexts that were COMMIT_PENDING or PREPARED when their twin was lost (R187). -/
  degraded : List Nat := []
  deriving DecidableEq, Repr

/-- A log entry of the domain (R370). -/
inductive LogKind where
  | commit | abort | applied | forced
  deriving DecidableEq, Repr

structure LogEntry where
  tag : Nat
  coord : Nat
  frame : Nat
  kind : LogKind
  deriving DecidableEq, Repr

/-! ### The NAND store (R203 to R229) -/

/-- The record types (R209). -/
inductive RecType where
  | seal | undo | map | delta | marver | hold | gather | cullet | continuity | manifest | pad
  deriving DecidableEq, Repr

/-- The code of a record type in the metadata of its codewords (R209). -/
def RecType.code : RecType → Nat
  | .seal => 1 | .undo => 2 | .map => 3 | .delta => 4 | .marver => 5 | .hold => 6 | .gather => 7 | .cullet => 8
  | .continuity => 9 | .manifest => 0xA | .pad => 0xF

/-- The metadata of a codeword (R207). -/
structure CwMeta where
  type : RecType
  source : Bool
  last : Bool
  moved : Bool
  cwIndex : Nat
  gen : Nat
  index : Nat
  frame : Nat
  poison : BitVec 64
  rcrc : Word
  device : Word
  deriving DecidableEq, Repr

/-- What a die is told to do. -/
inductive DieOpKind where
  | program | read | erase
  deriving DecidableEq, Repr

/-- An operation of a die: the granule it serves, or the block of an erase; `urgent` for a repair read and a demand fetch
(R214). -/
structure DieOp where
  kind : DieOpKind
  what : Nat
  urgent : Bool := false
  deriving DecidableEq, Repr

/-- A record of a granule image on flash (R208, R209). The image lists the bytes that are not 0. -/
structure SealRec where
  granule : Nat
  gen : Nat
  frame : Nat
  /-- SOURCE 1: programmed by a save (R207). -/
  bySave : Bool
  moved : Bool := false
  loc : Loc
  /-- The block in which the record goes on, when its first block filled (R208). -/
  tail : Option Nat := none
  /-- DEVICE of its metadata (R207). -/
  device : Word := 0
  /-- Codewords that no read-offset step decodes (R208, R220). -/
  bad : List Nat := []
  poison : List Nat
  image : List Host.Cell
  deriving DecidableEq, Repr

/-- A delta entry (R211). -/
structure Delta where
  granule : Nat
  gen : Nat
  confirm : Bool
  loc : Nat
  /-- Programmed in a DELTA record. -/
  programmed : Bool
  deriving DecidableEq, Repr

/-- What a block of a die holds; a block that is not listed is erased and was never erased before. -/
structure Block where
  erases : Nat := 0
  reads : Nat := 0
  /-- Pages programmed since the erase. -/
  pages : Nat := 0
  oldest : Nat := 0
  /-- Moves of this block are due (R220). -/
  refresh : Bool := false
  /-- A codeword was uncorrectable since the last erase, and before it (R222). -/
  uncorr : Bool := false
  uncorrBefore : Bool := false
  /-- The cause for which the block is grown bad, until its valid records have been moved (R222). -/
  grown : Option Nat := none
  deriving DecidableEq, Repr

/-- A Cullet entry (R222, R229). -/
structure Cullet where
  ch : Nat
  die : Nat
  block : Nat
  cause : Nat
  deriving DecidableEq, Repr

/-- A context as the table of a save records it (R192, R287). -/
structure SavedCtx where
  ctx : Nat
  state : Nat
  tag : Nat
  parts : Nat
  /-- The coordinator and the frame of the ballot it has voted for. -/
  coord : Nat := 0
  frame : Nat := 0
  /-- Its Hold column was being cleared (R188, R192). -/
  clearing : Bool := false
  deriving DecidableEq, Repr

/-- A context pair with the undo lines its slab held. -/
structure SavedPair where
  pair : Pair
  undo : List Host.Cell
  deriving DecidableEq, Repr

/-- A manifest (R291), with the metadata its records hold. -/
structure Manifest where
  kind : Nat
  okAtFence : Bool
  rideTaken : Bool
  preseal : Bool
  runAhead : Bool
  migrating : Bool
  paired : Bool
  domain : Bool
  seq : Nat
  frameFence : Nat
  frameSealed : Nat
  rtcFence : Nat
  trigger : Nat
  eDrawn : Nat
  dirty : Nat
  sealed : Nat
  granSize : Nat
  exposedGib : Nat
  mapCrc : Nat
  spareMap : List Nat
  migPtr : Nat
  migSts : Nat
  dsc : Nat
  wearCredit : Rat
  /-- Its locations on NAND channel 0 and on channel 4, where that copy is valid (R215). -/
  loc : Option Nat
  loc4 : Option Nat
  /-- Its pages in the save index and the DELTA records it names (R291, R292), by their locations. -/
  dirLoc : Nat
  index : List Nat
  deltaLoc : List Nat
  device : Word
  /-- What the records hold that the manifest names: the MAP records of the directory, the DELTA pages, and the save's
  MARVER, HOLD, UNDO, GATHER and CULLET records. -/
  map : List (Nat × Nat)
  delta : List Delta
  log : List LogEntry
  entries : List (Nat × Entry)
  contexts : List SavedCtx
  pairs : List SavedPair
  gather : List Gather
  positions : List (Nat × Nat × Nat × Nat)
  cullet : List Cullet
  deriving DecidableEq, Repr

/-- An intent list on flash (R287 step 1): the fence, the granules that were not CLEAN, the context table and the
context mask of the held granules, as pairs of context and granule. -/
structure Intent where
  frameFence : Nat
  trigger : Nat
  okAtFence : Bool
  granules : List Nat
  contexts : List SavedCtx
  held : List (Nat × Nat)
  deriving DecidableEq, Repr

/-- What the records hold that are no granule images (R209): a slab with its pair; the locations of one part of the map,
the directory or the save index; delta entries; Marver entries; the Hold set, the context table and the domain's log; the
queues with their positions; the Cullet table and the factory list; the intent list, or the remaining continuity data. -/
inductive RecBody where
  | undo (p : SavedPair)
  | map (part : Nat) (locs : List (Nat × Nat))
  | delta (entries : List Delta)
  | marver (entries : List (Nat × Entry))
  | hold (contexts : List SavedCtx) (pairs : List Pair) (log : List LogEntry)
  | gather (queues : List Gather) (positions : List (Nat × Nat × Nat × Nat))
  | cullet (entries : List Cullet) (factory : List (Nat × Nat × Nat))
  | continuity (intent : Option Intent)
  deriving DecidableEq, Repr

/-- The type of a record's contents (R209). -/
def RecBody.type : RecBody → RecType
  | .undo _ => .undo | .map _ _ => .map | .delta _ => .delta | .marver _ => .marver | .hold _ _ _ => .hold
  | .gather _ _ => .gather | .cullet _ _ => .cullet | .continuity _ => .continuity

/-- A metadata record on flash (R207 to R209). -/
structure MetaRec where
  body : RecBody
  frame : Nat
  bySave : Bool
  moved : Bool := false
  loc : Loc
  tail : Option Nat := none
  pages : Nat
  device : Word
  deriving DecidableEq, Repr

/-- An anchor block pair of a channel (R215): the block in use, 0 or 1, and its next page. -/
structure Anchor where
  which : Nat := 0
  page : Nat := 0
  deriving DecidableEq, Repr

structure Nand where
  /-- The NAND store has been initialised (R301). -/
  initialised : Bool := false
  /-- Granule records on flash with their images (R206 to R210); non-volatile. -/
  records : List SealRec := []
  /-- Records whose programming is under way, with the granules being moved. -/
  sealing : List SealRec := []
  /-- Moves of records under way (R218). -/
  moving : List SealRec := []
  /-- The flash map: the current location of each granule's record (R211, R212). -/
  map : List (Nat × Nat) := []
  /-- The delta cache (R212). -/
  delta : List Delta := []
  /-- A checkpoint runs and covers this many of the oldest entries (R213). -/
  checkpoint : Option Nat := none
  /-- Frame of the last checkpoint (R213). -/
  lastCheckpoint : Nat := 0
  /-- Manifests on flash, in the order of their programs (R213, R291); non-volatile. -/
  manifests : List Manifest := []
  /-- The metadata records on flash, in the order of their programs (R209); non-volatile. -/
  others : List MetaRec := []
  /-- What the MAP records in effect hold (R211, R213); non-volatile. -/
  mapFlash : List (Nat × Nat) := []
  /-- The anchor blocks of NAND channels 0 and 4 (R215); non-volatile. -/
  anchor0 : Anchor := {}
  anchor4 : Anchor := {}
  /-- The operations of each die, by 16 × channel + die; the first one runs (R214). -/
  dieOps : List (Nat × List DieOp) := []
  /-- Blocks of flash that are not fresh (R219, R220); non-volatile. -/
  blocks : List (Nat × Block) := []
  /-- Open block of each channel and die, by 16 × channel + die. -/
  openBlocks : List (Nat × Nat) := []
  /-- Pages queued on each channel (R210). -/
  queued : List (Nat × Nat) := []
  /-- The blocks of each die's consecutive program or erase failures, newest first (R205). -/
  dieStreak : List (Nat × List Nat) := []
  /-- Factory-bad blocks (R221); non-volatile. -/
  factory : List (Nat × Nat × Nat) := []
  /-- The Cullet table (R222, R229); non-volatile. -/
  cullet : List Cullet := []
  /-- Frames for which the erased blocks were below the reserve (R217). -/
  lowFrames : Nat := 0
  /-- Erases under way. -/
  erasing : List Loc := []
  /-- The block whose records compaction moves (R218), by its key. -/
  compacting : Option Nat := none
  deriving DecidableEq, Repr

/-! ### Save and ride-through (R275 to R299) -/

structure Sav where
  /-- The frame of t0 of the present fence. -/
  t0 : Nat := 0
  /-- Real-time-clock seconds at the fence. -/
  rtcFence : Nat := 0
  /-- The frame of the decision. -/
  decided : Nat := 0
  /-- Frame at which the ride began (R282, R283). -/
  rideStart : Nat := 0
  /-- The queues have drained (R279). -/
  drained : Bool := false
  /-- The save of the fence took a ride first. -/
  rode : Bool := false
  /-- Consecutive frames for which VIN was good. -/
  vinFrames : Nat := 0
  /-- VIN has been good since the count of VIN_STABLE began (R283, R286). -/
  vinGood : Bool := true
  /-- Consecutive frames with VIN below the comparator threshold and no trigger (R420). -/
  missed : Nat := 0
  /-- The chip reset that brought the fence is the only trigger. -/
  resetFence : Bool := false
  /-- Granules sealed by the save so far. -/
  sealed : Nat := 0
  /-- Granules whose seal data failed its residue check in this save: once, and twice, which makes them LOST (R48). -/
  residueOnce : List Nat := []
  /-- Granules lost to a residue error of their seal in the save (R240, R295). -/
  residueLost : List Nat := []
  /-- DIRTY_EFF at the decision. -/
  dirty : Nat := 0
  /-- The manifest of this fence is programmed. -/
  manifestDone : Bool := false
  /-- Fault reactions that wait for the manifest (R404): source, ACT bits and SNAP2. -/
  waitingActs : List (Nat × Nat × Nat) := []
  /-- The chip reset asked for while a save runs. -/
  deferredReset : Bool := false
  /-- Where a warm return stands (R286): 0 none, 1 the recount runs, 2 step 4 is done. -/
  warmStep : Nat := 0
  /-- The save began without its fence's granules all sealed when energy ended (R296). -/
  incomplete : Bool := false
  deriving DecidableEq, Repr

/-! ### The gauge (R251 to R274) -/

/-- The running capacity measurement since the last full anchor (R265): the net charge out in nC, the sum of
the temperatures in 1/16 °C and the frames. -/
structure Discharge where
  out : Int
  temp : Int
  frames : Nat
  deriving DecidableEq, Repr

/-- A capacitor test in progress (R271): the frame of t0. -/
structure CapTest where
  start : Nat
  /-- VCAP codes at t0, t0 + 1 and t0 + 500. -/
  v0 : Nat
  v1 : Option Nat := none
  v500 : Option Nat := none
  deriving DecidableEq, Repr

structure Eng where
  /-- The charge counter in nC (R253), and the carried remainder in nC divided by the shunt's value. -/
  counter : Nat := 0
  /-- The part of the charge counter below its unit (R253). -/
  remainder : Int := 0
  /-- The samples the last tick used. -/
  last : GaugeSamples := {}
  /-- Consecutive frames of each condition: C/50 rest kept in STATE.REST_LEFT; full anchor, empty anchor,
  disagreement, agreement, good VIN. -/
  fullRun : Nat := 0
  /-- Frames of the empty anchor's condition (R261). -/
  emptyRun : Nat := 0
  /-- Frames in which counter and voltage estimate differ (R264). -/
  differRun : Nat := 0
  /-- Frames in which they agree again (R264). -/
  agreeRun : Nat := 0
  /-- Frames of good VIN (R252). -/
  vinRun : Nat := 0
  /-- Measurement since the last full anchor, none when an anchor does not teach (R265). -/
  discharge : Option Discharge := none
  /-- Bank detected since the charger was enabled, and the frame of the enable (R251). -/
  bankSeen : Bool := false
  /-- Frame of the last poll of the charger (R259). -/
  chargerFrom : Nat := 0
  /-- The charger as a whole is held off (R259). -/
  chargerHeld : Bool := false
  /-- Polls that failed in a row (R259). -/
  chargerFails : Nat := 0
  /-- Frame at which the exercise began (R266). -/
  exerciseFrom : Option Nat := none
  /-- The bank's test under way (R271). -/
  capTest : Option CapTest := none
  /-- Frame of the last bank test (R271). -/
  lastCapTest : Option Nat := none
  /-- The two slots of learned values in the settings store, each with the words programmed so far (R269); non-volatile. -/
  slot0 : List Word := []
  slot1 : List Word := []
  /-- Real-time-clock seconds of the last learning (R269). -/
  learnedAt : Nat := 0
  /-- For each converter, the consecutive frames in which its reading sat at an end of its range in a condition where it
  cannot be true (R254): VIN, VCAP, VBAT, IBAT, thermistor. -/
  ends : List Nat := [0, 0, 0, 0, 0]
  /-- Converters whose last reference check failed (R254). -/
  refBad : List Nat := []
  /-- RESET_DEFAULTS waits for the tick (R267). -/
  resetDefaults : Bool := false
  /-- The save being measured (R267): VCAP at the decision in mV, and battery energy drawn in µJ. -/
  saveV0 : Nat := 0
  /-- Energy drawn in the present save (R267). -/
  saveDrawn : Int := 0
  /-- VIN was not good at the last tick (R252). -/
  vinNotGood : Bool := true
  /-- The sample a save or a ride gave, applied after admission or warm return: e_used in mJ and granules. -/
  saveSample : Option (Nat × Nat) := none
  /-- The bank's code when a ride began (R267). -/
  rideSample : Option Nat := none
  /-- The ride so far: battery energy drawn in µJ, and VCAP at its start in mV (R268). -/
  rideEnergy : Int := 0
  /-- The bank's voltage when a ride began (R267). -/
  rideV0 : Nat := 0
  deriving DecidableEq, Repr

/-! ### Restore (R300 to R327) -/

/-- How a context of the outage ended (R324): its number, outcome code and tag. -/
structure CtxOutcome where
  ctx : Nat
  outcome : Nat
  tag : Nat
  deriving DecidableEq, Repr

/-- The stored fields of RSR as a restore uses them, taken at its start (R70, R327). -/
structure RestoreCfg where
  mode : Nat := 0
  fallbackMax : Nat := 4
  deadlineMs : Nat := 2000
  doubtWait : Nat := 50000
  deriving DecidableEq, Repr

/-- A granule that has a merge slot (R317): the lines the host has written, and whether a demand asked for it. -/
structure Flight where
  lines : List Nat := []
  demand : Bool := false
  deriving DecidableEq, Repr

structure Rsr where
  /-- The fields of RSR.CFG, READY_DEADLINE and DOUBT_WAIT in use (R327). -/
  cfg : RestoreCfg := {}
  /-- The manifest being tried (R302, R303). -/
  manifest : Option Manifest := none
  /-- The restore found a store that was never initialised (R301). -/
  firstInit : Bool := false
  /-- The newest image was not saved whole (R305, R306). -/
  unsaved : Bool := false
  /-- Granules restored; a granule of the image that is not listed is not restored. -/
  restored : List Nat := []
  /-- Everything is restored: the list above is not needed. -/
  all : Bool := true
  /-- Granules whose record the restore writes, LOST at this restore, and in flight with the lines the host
  has written (R317). -/
  lost : List Nat := []
  /-- Granules in flight (R316, R317). -/
  inflight : List (Nat × Flight) := []
  /-- The frame in which the image's restore began, and the granules restored before it (R319). -/
  imageFrom : Nat := 0
  doneBefore : Nat := 0
  /-- Outcomes of the contexts for the continuity record (R314, R322). -/
  outcomes : List CtxOutcome := []
  /-- Contexts rolled back by the restore (R314). -/
  rolledBack : Nat := 0
  /-- Frames of R313 left. -/
  doubtLeft : Option Nat := none
  /-- The restore restarts: 1 at the next tick after an abort (R95), 2 once VIN has been good (R276). -/
  restart : Nat := 0
  /-- Admission conditions complete; admission at the next tick. -/
  ready : Bool := false
  /-- The newest run record names this SEQ (R506). -/
  runRecord : Option Nat := none
  /-- The cold-reset mark (R389). -/
  coldReset : Bool := false
  /-- The most recent CONTINUITY record. -/
  continuity : List Nat := []
  /-- The capacity was reduced at this power-on (R158). -/
  capacityReduced : Bool := false
  /-- Granules that a capacity reduction took: ranges at and above the new capacity, and under regions that moved, as
  first granule and count (R158, R159). -/
  cut : List (Nat × Nat) := []
  /-- Regions that were moved (R159). -/
  moved : List (Nat × Nat) := []
  deriving DecidableEq, Repr

/-! ### The twin (R328 to R351) -/

/-- A mirror write sent and not yet covered by a MIRROR_ACK (R331, R335). -/
structure Mirrored where
  seq : Nat
  line : Nat
  ctx : Option Nat
  frame : Nat
  deriving DecidableEq, Repr

/-- A region's copies (R345, R346): this device's home or its mirror region; the whole region, or the granules whose
TWIN_DIRTY is set; the next granule of the region; granules copied in reverse. -/
structure CopyJob where
  home : Bool
  whole : Bool
  next : Nat
  extra : List Nat
  deriving DecidableEq, Repr

/-- A granule copy received (R345, R346). -/
structure CopyIn where
  home : Bool
  granule : Nat
  image : List (Nat × BitVec 8)
  reverse : Bool
  deriving DecidableEq, Repr

structure Twn where
  /-- The pairing in effect, and the change that the next power-on makes (R332, R334). -/
  stored : Bool := false
  /-- The pairing that takes effect at the next power-on (R332, R334). -/
  nextPair : Option Bool := none
  /-- The next mirror sequence number, and the last one received and persistent. -/
  seqOut : Nat := 0
  /-- Sequence number of the last mirror write held (R331). -/
  seqIn : Nat := 0
  /-- Mirror writes that no acknowledgement covers (R331, R335). -/
  outstanding : List Mirrored := []
  /-- A heartbeat came in the present frame. -/
  heard : Bool := false
  /-- The twin's state, mode and undo region as last reported. -/
  peerState : Nat := 0
  /-- The twin's ACK_MODE as last heard (R331). -/
  peerAsync : Bool := false
  /-- The twin reports an undo region (R333, R179). -/
  peerUndo : Bool := true
  /-- The HELLO of the present reconciliation (R342, R344). -/
  hello : Option HelloIn := none
  /-- The PLAN of the reconciliation is made (R344). -/
  planned : Bool := false
  /-- The twin wins this device's home region, and this device the mirror region (R343). -/
  homeTwin : Bool := false
  /-- This device's copy of the peer's home wins (R343). -/
  mirrorOurs : Bool := false
  /-- No reconciliation has completed since the pairing took effect: whole regions are copied (R332). -/
  fresh : Bool := false
  /-- Copies that this device makes as a winner (R345), and the bytes of the copy rate not used yet. -/
  copies : List CopyJob := []
  /-- Bytes of the resync rate not used (R345). -/
  copyCredit : Nat := 0
  /-- Mirror writes that wait, oldest first, with the frames the oldest has waited for the Hold set (R338). -/
  stalled : List MirrorIn := []
  /-- Frames that a remote write has waited for the Hold set (R337). -/
  holdFrames : Nat := 0
  /-- PREPAREs whose remote context still has a mirror write that waits: the context and its tag (R339). -/
  prepares : List (Nat × Nat) := []
  /-- Granule copies that wait for the restored bit of their granule (R345). -/
  copyWaits : List CopyIn := []
  /-- Replays in a row of one flit (R329). -/
  flitReplays : Nat := 0
  /-- Frames left of WAIT_BOOT. -/
  waitLeft : Option Nat := none
  /-- This device wrote DETACH, and it has written REATTACH since. -/
  detachedHere : Bool := false
  /-- REATTACH was written (R340). -/
  reattach : Bool := false
  /-- The state in which TWIN_FAILED was written (R348). -/
  failedIn : Option Nat := none
  /-- HOME_GEN has been raised since TWIN_DEGRADED became 1 (R342). -/
  genRaised : Bool := false
  /-- Remote contexts held in doubt, and the domain tags of the PREPARED ones (R339, R348). -/
  doubt : List Nat := []
  /-- Domain tags of remote contexts (R339). -/
  tags : List (Nat × Nat) := []
  /-- Regions whose REGION_DONE has come: home, mirror. -/
  homeDone : Bool := false
  /-- The mirror region's copy is done (R345). -/
  mirrorDone : Bool := false
  /-- Granules whose copy is in flight. -/
  copying : List Nat := []
  deriving DecidableEq, Repr

/-! ### The ring and the domain (R354 to R379) -/

/-- A ballot this member coordinates (R368). -/
structure Ballot where
  ctx : Nat
  tag : Nat
  parts : Nat
  frame : Nat
  /-- Segments whose TALLY is expected and those that have returned. -/
  expected : List Nat
  returned : List Nat := []
  yes : Nat := 0
  no : Bool := false
  decided : Bool := false
  deriving DecidableEq, Repr

/-- A vote this member has cast (R195). -/
structure Vote where
  tag : Nat
  coord : Nat
  frame : Nat
  ctx : Nat
  yes : Bool
  deriving DecidableEq, Repr

structure Rng where
  /-- This member holds an index. -/
  indexed : Bool := false
  /-- A SYNC came in the present frame; whole frames without one, up to 3 (R360). -/
  syncSeen : Bool := false
  /-- Frames without SYNC (R360). -/
  noSync : Nat := 0
  /-- The lowest identifier seen in the election, and for how many frames this member's own has been the lowest. -/
  lowest : BitVec 64 := 0
  /-- Own cells returned in a row in an election (R360). -/
  ownRun : Nat := 0
  /-- The members by their index (R361). -/
  table : List (Nat × BitVec 64) := []
  /-- Members that left (R366). -/
  departed : List (BitVec 64) := []
  /-- Broken spans known, by the index of the member upstream on ring A. -/
  broken : List Nat := []
  /-- The QUORUM flag of the last SYNC (R366). -/
  quorumFlag : Bool := false
  /-- The ring is partitioned (R366). -/
  partitioned : Bool := false
  /-- As master: a CLAIM came from a member without an index, and an ENUM is due (R361). -/
  enumDue : Bool := false
  /-- The domain's decision log (R370); kept with a save. -/
  log : List LogEntry := []
  /-- Ballots this device coordinates (R368, R372). -/
  ballots : List Ballot := []
  /-- Votes this device gave and waits to see decided (R368). -/
  votes : List Vote := []
  /-- Frames in which a FENCE was announced (R371). -/
  fences : List Nat := []
  /-- The QUERY sent last for a context: context and frame (R373). -/
  queries : List (Nat × Nat) := []
  /-- The answers to it so far: context and answer (R197). -/
  answers : List (Nat × Nat) := []
  /-- The save has begun to program its HOLD records: no entry is recorded (R370). -/
  logClosed : Bool := false
  deriving DecidableEq, Repr

/-! ### Power (R380 to R398) -/

/-- What the sequencer is doing. -/
inductive SeqKind where
  | none | up | wake | down | ride | minimal | emergency
  deriving DecidableEq, Repr

/-- What happens to a rail (R386, R387, R390). -/
inductive RailPhase where
  | off | starting | on | discharging | forced | backoff
  deriving DecidableEq, Repr

/-- The instruction in the TAP (R491). -/
inductive TapInstr where
  | bypass | idcode | samplePreload | extest | clamp
  deriving DecidableEq, Repr

/-- A domain switch under way: the domain, the state asked for and the tries used (R394). -/
structure Switch where
  dom : Nat
  target : Nat
  tries : Nat
  deriving DecidableEq, Repr

structure Pwr where
  /-- VAON is present. -/
  vaon : Bool := false
  /-- The sequence that runs (R383, R390). -/
  seq : SeqKind := .none
  /-- The phase of each rail (R380 to R391). -/
  rails : List RailPhase := List.replicate 12 .off
  /-- Retries used by each rail, and boot attempts made. -/
  retries : List Nat := List.replicate 12 0
  /-- Boot attempts made (R386). -/
  attempts : Nat := 0
  /-- RAIL_DIS driven high. -/
  discharge : List Nat := []
  /-- Rails whose running loss is being retried (R387). -/
  retrying : List Nat := []
  /-- Rails still to be cut by a GROUP reaction, and the rails that one has left off. -/
  groupCut : List Nat := []
  /-- Rails that a GROUP reaction cut (R387). -/
  groupOff : List Nat := []
  /-- Domains of the seal path whose REACT waits for the manifest (R395). -/
  waitingDoms : List Nat := []
  /-- Domain requests that wait for the tick, and switches awaiting acknowledgement. -/
  requests : List (Nat × Nat) := []
  /-- Domain switches under way (R394). -/
  switching : List Switch := []
  /-- The domains whose pages the always-on island holds in retention (R507). -/
  retained : List Nat := []
  /-- Steps 0 to 7 complete: domains switch on at the next tick (R384). -/
  domainsDue : Bool := false
  /-- Domains switch off at the next tick for power-down (R390). -/
  offDue : Bool := false
  /-- The power-down has completed and the controller waits for good VIN (R508). -/
  waitVin : Bool := false
  /-- A cold reset runs (R389). -/
  cold : Bool := false
  /-- The straps and the population found at VAON power-up (R1, R493). -/
  recStrap : Bool := false
  /-- The bank's thermistor is fitted (R252). -/
  ntcFitted : Bool := true
  /-- Ranks of each channel as found (R1, R154). -/
  ranks : Nat := 1
  /-- The population lies inside the limits of R2. -/
  inLimits : Bool := true
  /-- `MOD_RST_N` is asserted (R494). -/
  modReset : Bool := true
  /-- A chip reset waits for the tick at which it cycles the domains (R60, R277, R393). -/
  resetDue : Bool := false
  /-- Domains that a GROUP reaction has given up and that switch off at the next tick (R60, R394). -/
  groupDoms : List Nat := []
  /-- Factory-bad blocks as found (R221). -/
  factory : List (Nat × Nat × Nat) := []
  /-- The parameter-page identity of the components of each channel, where it is not 0 (R204). -/
  identities : List (Nat × Nat) := []
  /-- The serial number (R332). -/
  serial : BitVec 64 := 0
  /-- Real-time-clock seconds (R244). -/
  rtc : Nat := 0
  /-- Frames counted since VAON, for SYS.BOOT_MS. -/
  sinceVaon : Nat := 0
  /-- PLLs that relock, with the frames since the loss (R98). -/
  relocking : List (Nat × Nat) := []
  /-- Pins the controller drives and their readback intent (R496 to R502). -/
  holdEn : Bool := false
  /-- The bank's test load is on (R271). -/
  testLoad : Bool := false
  /-- Frames left of the ERR_OUT_N pulse (R411). -/
  pulseLeft : Nat := 0
  /-- The recovery monitor runs instead of the firmware. -/
  recovery : Bool := false
  /-- The firmware cores run. -/
  firmware : Bool := false
  /-- The TAP's instruction; EXTEST has the pins (R502). -/
  tap : TapInstr := .idcode
  deriving DecidableEq, Repr

/-! ### Fault collection (R399 to R428) -/

structure Flt where
  /-- FIRST_ID has been read since the latch was loaded (R408). -/
  firstRead : Bool := false
  /-- The writer that wrote the first half of the key sequence (R89). -/
  keyHalf : Option Nat := none
  /-- Frames left before the key closes. -/
  keyLeft : Nat := 0
  /-- Injections: page and source, with MODE (R90). -/
  injections : List (Nat × Nat × Nat) := []
  /-- Items of the self-test cycle completed (R422). -/
  testsDone : List Nat := []
  /-- Frames of a ride or a hold since the always-on island ran its items of the self-test (R422). -/
  aonFrames : Nat := 0
  deriving DecidableEq, Repr

/-! ### The code array (R446 to R463) -/

/-- An operation of a bank: its kind (1 program, 2 erase, 3 option), the target block and word, and the data. -/
structure CarOp where
  kind : Nat
  block : Nat
  word : Nat
  data : Word
  suspended : Bool := false
  deriving DecidableEq, Repr

structure CarBank where
  /-- Steps of the open command sequence that have come, the code after the third, and its writer. -/
  step : Nat := 0
  code : Nat := 0
  writer : Nat := 0
  op : Option CarOp := none
  /-- The erase under a suspended program, when a program runs inside an erase suspend (R455). -/
  under : Option CarOp := none
  deriving DecidableEq, Repr

structure Car where
  /-- Words of the array that are not erased, by word offset in BAR2. -/
  words : List (Nat × Word) := []
  /-- Second copies of tally words that differ from the first. -/
  second : List (Nat × Word) := []
  /-- Words whose check bits give a double-bit error or whose content is undefined (R452, R461). -/
  bad : List Nat := []
  /-- The command state of bank 0 (R449 to R456). -/
  bank0 : CarBank := {}
  /-- The command state of bank 1 (R449 to R456). -/
  bank1 : CarBank := {}
  /-- Block flags of R454, by 256 × bank + block. -/
  eraseIncomplete : List Nat := []
  /-- Words left half programmed or half erased (R454, R462). -/
  unreliable : List Nat := []
  /-- Blocks of the shipped images that have been erased since. -/
  wiped : List Nat := []
  /-- Grown remap entries in effect: block (256 × bank + block) and spare index (R459). -/
  remaps : List (Nat × Nat) := []
  /-- Blocks remapped at the factory (R459). -/
  factoryRemaps : List (Nat × Nat) := []
  deriving DecidableEq, Repr

/-! ### Update and settings (R464 to R482) -/

/-- An image in a slot (R465): what its header says and how its checks end. -/
structure SlotImage where
  version : Nat := 0
  il : Nat := 0
  minPeer : List Nat := [0, 0, 0, 0]
  setFmt : Nat := 0
  setOldest : Nat := 0
  stateFmt : Nat := 0
  stateOldest : Nat := 0
  staged : Bool := false
  rejected : Bool := false
  /-- IMG_CRC checks and the signature verifies. -/
  verifies : Bool := false
  deriving DecidableEq, Repr

/-- A record of the activation log (R469). -/
inductive ActRecord where
  | activate (c : Nat) (slotB : Bool)
  | confirm
  | revert
  deriving DecidableEq, Repr

/-- A transfer in progress (R467). -/
structure Transfer where
  component : Nat
  slotB : Bool
  /-- The word that the next part must start at. -/
  next : Nat
  deriving DecidableEq, Repr

/-- Images, the activation log, the settings store and their use (R464 to R482). (log entry 6: DESIGN CHOICE). -/
structure Upd where
  /-- The images: component c in slot A at 2c, in slot B at 2c + 1. Slot A holds a good image as shipped (log
  entry 6). -/
  images : List SlotImage :=
    (List.replicate 4 [{ staged := true, verifies := true }, {}]).flatten
  /-- BOOT_SLOT, bit c for component c, and the set that runs. -/
  bootSlot : Nat := 0
  /-- The slot of each component that runs (R471). -/
  running : Nat := 0
  /-- The activation log of the present block (R469); non-volatile. -/
  log : List ActRecord := []
  /-- Records written to the log (R469); non-volatile. -/
  logSeq : Nat := 0
  /-- The log block in use. -/
  logBlock : Nat := 0
  /-- Boots of this epoch, up to 32 (R471, R479). -/
  tally : Nat := 0
  /-- A Transfer FW under way (R467). -/
  transfer : Option Transfer := none
  /-- Frames the set has run since the boot, and whether OK has read 1 at a tick of that time (R473). -/
  bootFrames : Nat := 0
  /-- OK has read 1 since the boot (R473). -/
  okSeen : Bool := false
  /-- The settings store: stored values of register fields, by address × 32 + lowest bit (R475). -/
  settings : List (Nat × Nat) := []
  /-- Records in the settings area in use, and those written since the last tick (R477, R482). -/
  appended : Nat := 0
  /-- Settings records written since the last tick (R482). -/
  written : Nat := 0
  /-- The settings area in use and the switches made. -/
  area : Nat := 0
  /-- Switches of the settings area (R477); non-volatile. -/
  areaSeq : Nat := 0
  /-- Compaction is in progress (R477). -/
  compacting : Bool := false
  /-- Formats of the configuration and the state records held: oldest, and newest of the state records (R475, R476). -/
  cfgOldest : Nat := 0
  /-- Newest format of the state records (R468, R475). -/
  stateNewest : Nat := 0
  /-- Oldest format of the state records (R468, R475). -/
  stateOldest : Nat := 0
  /-- The format of the records of `settings`, and the records of other formats still held, by format (R476). -/
  format : Nat := 0
  /-- Records of other formats, as they were left (R476). -/
  held : List (Nat × List (Nat × Nat)) := []
  /-- Some configuration record took its default under the present image (R476). -/
  defaulted : Bool := false
  /-- The boot tally's word in use (R464, R471); non-volatile. -/
  tallyWord : Nat := 0
  /-- SEQ of the option area in use (R458); non-volatile. -/
  optSeq : Nat := 0
  /-- Ranks in RETIRE_PENDING, kept over a power-down (R158). -/
  pendingRanks : List Nat := []
  /-- The parameter-page identities of the qualified-component records (R204). -/
  qualified : List Nat := [0]
  deriving DecidableEq, Repr

/-! ### The whole state -/

/-- What a reaction asks for and the end of the command carries out: a block reset, a chip reset, the
emergency seal, the abort of contexts in the safe state. -/
inductive Req where
  | blockReset (page : Nat)
  | chipReset
  | emergencySeal
  | abortContexts
  deriving DecidableEq, Repr

/-- The BLV-1632. `regs` lists the register fields that do not hold their reset value, by
address × 32 + lowest bit, rising. -/
structure State where
  regs : List (Nat × Nat) := []
  shadows : List Shadow := []
  pools : List Pool := []
  frm : Frm := {}
  hp : Hp := {}
  dram : Dram := {}
  mrv : Mrv := {}
  txn : Txn := {}
  nand : Nand := {}
  sav : Sav := {}
  eng : Eng := {}
  rsr : Rsr := {}
  twn : Twn := {}
  rng : Rng := {}
  pwr : Pwr := {}
  flt : Flt := {}
  gq : List Gather := List.replicate 4 {}
  car : Car := {}
  upd : Upd := {}
  /-- The next free value (log entry 3). -/
  free : Nat := 0
  /-- Reactions that the end of the command carries out. -/
  reqs : List Req := []
  /-- What the last command sent. -/
  out : List Out := []
  /-- The commands that wait, first in, first out. -/
  pending : List Instr := []
  deriving DecidableEq, Repr

/-- Why the machine stops. No rule of the spec stops the controller; the constructor is for a state that no
run reaches, and no meaning raises it. -/
inductive Fault where
  /-- Nobody raises it: every command has a next state. Safe. -/
  | unreachable
  deriving DecidableEq, Repr

/-- Why a command has no meaning here. -/
inductive Refusal where
  /-- Raised by `exec` for a command without a meaning in this model. Safe. -/
  | notModelled (mnemonic : String)
  deriving DecidableEq, Repr

/-- The machine right after reset: VAON absent until VAON_POWER_UP, every register at its reset value (R83,
R87; log entry 4). -/
def State.reset : State := {}

end Sys2Proof.Machine
end

