-- ==== Sys2Proof/Machine/Sources.lean ====
section
/-! DEFINITION. The 384 fault sources: severities, presets, attributes and block pages (R401, R415, R420,
R425, R504). -/

namespace Sys2Proof.Machine

/-- Reserved sources never raise (R399, R425). -/
def srcReserved (n : Nat) : Bool := (242 ≤ n && n < 256) || 337 ≤ n

/-- Default severity (R425; rails by R380). -/
def srcSev (n : Nat) : Nat :=
  if srcReserved n then 0
  else if n < 64 then 2
  else if n < 128 then 1
  else if n < 144 then 2
  else if n < 148 then 1
  else if n < 156 then 2
  else if n = 156 then 1
  else if n = 157 then 2
  else if n = 158 then 1
  else if n < 161 then 2
  else if n = 161 then 1
  else if n < 176 then 2
  else if n = 176 then 1
  else if n < 179 then 3
  else if n = 179 then 1
  else if n < 182 then 3
  else if n = 182 then 1
  else if n = 183 then 2
  else if n < 188 then 3
  else if n = 188 then 2
  else if n = 189 then 1
  else if n < 224 then 2
  else if n < 226 then 1
  else if n = 226 then 3
  else if n = 227 then 2
  else if n < 231 then 3
  else if n = 231 then 2
  else if n < 241 then 1
  else if n = 241 then 2
  else if n < 258 then 4
  else if n = 258 then 2
  else if n < 261 then 4
  else if n < 268 then 3
  else if n < 327 then 2
  else if n = 327 then 3
  else if n = 328 then 2
  else if n = 329 then 3
  else if n = 330 then 4
  else if n = 331 then 3
  else if n = 332 then 4
  else if n = 333 then 3
  else if n < 336 then 4
  else 3

/-- Lowest severity accepted (R425). -/
def srcMin (n : Nat) : Nat :=
  if srcReserved n then 0
  else if n = 177 || n = 178 || n = 180 || n = 181 then 3
  else if 184 ≤ n && n ≤ 187 then 3
  else if n = 226 || n = 228 || n = 229 || n = 230 then 3
  else if 256 ≤ n && n < 268 then (if n = 258 then 0 else 3)
  else if 320 ≤ n && n ≤ 325 then 2
  else if n = 327 || n = 329 || n = 331 || n = 333 || n = 336 then 3
  else if n = 330 || n = 332 || n = 334 || n = 335 then 4
  else 0

/-- The sources R420 names. -/
def srcDangerous (n : Nat) : Bool :=
  n = 181 || n = 184 || n = 185 || n = 186 || n = 187 || n = 177 || n = 180 ||
  n = 256 || n = 257 || (259 ≤ n && n ≤ 267) || (320 ≤ n && n ≤ 323) || n = 325 ||
  n = 333 || n = 331 || n = 332 || n = 330 || n = 226 || n = 335 || n = 334

/-- The sources that are part of the seal path (R415). -/
def sealPathSources : List Nat :=
  [180, 181, 186, 187, 226, 230, 256, 257, 259, 260, 266, 267, 310, 314, 317, 319]

def srcSealPath (n : Nat) : Bool := sealPathSources.contains n

/-- The ACT bits (R404), numbered from `SRC_CFG` bit 4. -/
def actIrqHost : Nat := 0
def actIrqGaffer : Nat := 1
def actNmi : Nat := 2
def actBlockReset : Nat := 3
def actChipReset : Nat := 4
def actPin : Nat := 5

/-- The ACT preset a severity loads (R401). -/
def actPreset (sev : Nat) : Nat :=
  if sev = 0 then 0 else if sev = 1 then 2 else if sev = 2 then 3 else 39

/-- The reset value of ACT: the preset of the default severity; source 231 also carries NMI (R425). -/
def srcActReset (n : Nat) : Nat :=
  if srcReserved n then 0 else if n = 231 then 7 else actPreset (srcSev n)

/-- The block page a source belongs to, none for sources that belong to no page (R504). -/
def srcPage (n : Nat) : Option Nat :=
  if srcReserved n then none
  else if n < 128 then some 0x11
  else if n < 144 then some (0x20 + (n - 128))
  else if n < 148 then some (8 + (n - 144))
  else if n < 152 then some (8 + (n - 148))
  else if n < 156 then some (8 + (n - 152))
  else if n = 156 then some 0xC0
  else if n < 161 then some 0xC1
  else if n < 165 then some 0xD0
  else if n < 176 then some 1
  else if n < 179 then some 0x40
  else if n = 179 then some 0x41
  else if n = 180 then some 0x42
  else if n = 184 || n = 187 || n = 190 || n = 191 then none
  else if n < 186 then some 0x10
  else if n = 186 then some 0x41
  else if n = 188 then some 0x44
  else if n = 189 then some 0x11
  else if n < 224 then some (0x60 + (n - 192))
  else if n < 229 then some 0x50
  else if n = 229 then some 0x51
  else if n = 230 then some 0x42
  else if n < 234 then some 0xB0
  else if n < 236 then some 0xB1
  else if n = 236 then some 0x80
  else if n = 237 then some 0x10
  else if n = 238 then some 0x11
  else if n < 241 then some 0x43
  else if n = 241 then some 2
  else if n < 268 then some 0x81
  else if n < 320 then some 0x82
  else if n < 329 then some 0x80
  else if n < 331 then some 0x97
  else if n = 331 then some 1
  else if n = 332 then some 2
  else if n = 333 then some 0x42
  else if n < 336 then some 0x90
  else some 0

/-- The sources a page can inject: those of R504, or the 64 of an FLS page (R427). -/
def pageSources (p : Nat) : List Nat :=
  if 0x91 ≤ p && p < 0x97 then (List.range 64).map (fun k => 64 * (p - 0x91) + k)
  else (List.range 384).filter (fun n => srcPage n == some p)

/-! ### The page map (R82) -/

/-- The slots that hold a page. -/
def pageUsed (p : Nat) : Bool :=
  p < 4 || (8 ≤ p && p < 0xD) || (0x10 ≤ p && p < 0x13) || (0x20 ≤ p && p < 0x30) ||
  (0x40 ≤ p && p < 0x49) || p = 0x50 || p = 0x51 || (0x60 ≤ p && p < 0x80) || (0x80 ≤ p && p < 0x83) ||
  (0x90 ≤ p && p < 0x98) || (0xA0 ≤ p && p < 0xA4) || (0xB0 ≤ p && p < 0xB3) || p = 0xC0 || p = 0xC1 ||
  p = 0xD0 || p = 0xD1

/-- All pages, ascending. -/
def allPages : List Nat := (List.range 0xD2).filter pageUsed

/-- The on-die domain of a page; none for the pages of the always-on island (R82, R382). Where R382 gives a block several
domains, its page follows one: MRV bank 0 (38) of 38 to 41, SAF the safety core pair (48) of 45 to 48, PNT and TWN the
Punty controller (8) of 8 and 9 (log entry 106: DESIGN CHOICE). -/
def pageDomain (p : Nat) : Option Nat :=
  if p < 2 then none
  else if p < 4 then some 49
  else if p < 0xC then some (p - 8)
  else if p < 0x13 then some 49
  else if p < 0x30 then some (10 + (p - 0x20))
  else if p = 0x40 then some 38
  else if p < 0x44 then some 42
  else if p < 0x49 then some 43
  else if p < 0x52 then some 49
  else if p < 0x80 then some (30 + (p - 0x60) / 4)
  else if p < 0x97 then none
  else if p = 0x97 then some 48
  else if p < 0xA4 then some 44
  else if p < 0xB3 then some 49
  else if p < 0xC2 then some 8
  else some 50

/-- The block type code (R82). -/
def pageType (p : Nat) : Nat :=
  if p < 4 then p + 1
  else if p < 0xC then 0x10
  else if p = 0xC then 0x11
  else if p < 0x13 then 0x20 + (p - 0x10)
  else if p < 0x30 then 0x23
  else if p < 0x45 then 0x30 + (p - 0x40)
  else if p < 0x49 then 0x35
  else if p < 0x52 then 0x40 + (p - 0x50)
  else if p < 0x80 then 0x42
  else if p < 0x83 then 0x50 + (p - 0x80)
  else if p = 0x90 then 0x60
  else if p < 0x97 then 0x61
  else if p = 0x97 then 0x62
  else if p < 0xA4 then 0x70
  else if p < 0xB3 then 0x80 + (p - 0xB0)
  else if p < 0xC2 then 0x90 + (p - 0xC0)
  else 0xA0 + (p - 0xD0)

/-- The instance number of a page (R83). -/
def pageInstance (p : Nat) : Nat :=
  if 8 ≤ p && p < 0xC then p - 8
  else if 0x20 ≤ p && p < 0x30 then p - 0x20
  else if 0x45 ≤ p && p < 0x49 then p - 0x45
  else if 0x60 ≤ p && p < 0x80 then p - 0x60
  else if 0x91 ≤ p && p < 0x97 then p - 0x91
  else if 0xA0 ≤ p && p < 0xA4 then p - 0xA0
  else 0

/-- Pages that refuse FREEZE (R91). -/
def freezeRefused (p : Nat) : Bool :=
  p = 1 || p = 0x80 || p = 0x81 || p = 0x82 || (0x90 ≤ p && p < 0x98)

/-- `ABORT_TIME`: REFUSABLE and EXCEPTION of a page (R95); FRAMES is 2 everywhere. -/
def abortRefusable (p : Nat) : Bool := p = 0x42 || p = 0x43
def abortException (p : Nat) : Bool :=
  p = 0xB0 || (0x20 ≤ p && p < 0x30) || p = 0x44 || p = 0x43

end Sys2Proof.Machine
end

