-- ==== Sys2Proof/Machine/Regs.lean ====
section
/-! DEFINITION. The register fields of the BLV-1632, one handle per field of the spec's register tables
(R17 to R482) and of the common header (R83), named PAGE.REGISTER_FIELD after the manual; and, per page,
the list of its fields with their access, update class and permitted values. Fields of the same word are
separate entries of the register file, so that a write of one cannot disturb another (R71). -/

namespace Sys2Proof.Machine

/-! ### The common header (R83) -/

namespace Reg

def BLKCTL_ENABLE (p : Nat) : Fld := ⟨4096 * p + 0xC, 0, 1, 0⟩
def BLKCTL_FREEZE (p : Nat) : Fld := ⟨4096 * p + 0xC, 3, 1, 0⟩
def BLKSTS_ABORTING (p : Nat) : Fld := ⟨4096 * p + 0x10, 2, 1, 0⟩
def BLKSTS_ABORT_DONE (p : Nat) : Fld := ⟨4096 * p + 0x10, 3, 1, 0⟩
def BLKSTS_FROZEN (p : Nat) : Fld := ⟨4096 * p + 0x10, 8, 1, 0⟩
def BLKWERR_STATIC (p : Nat) : Fld := ⟨4096 * p + 0x14, 0, 1, 0⟩
def BLKWERR_LOCKED (p : Nat) : Fld := ⟨4096 * p + 0x14, 1, 1, 0⟩
def BLKWERR_RANGE (p : Nat) : Fld := ⟨4096 * p + 0x14, 2, 1, 0⟩
def BLKWERR_BUSY (p : Nat) : Fld := ⟨4096 * p + 0x14, 3, 1, 0⟩
def BLKWERR_OFFSET (p : Nat) : Fld := ⟨4096 * p + 0x14, 16, 12, 0⟩
def BLKWERR_SOURCE (p : Nat) : Fld := ⟨4096 * p + 0x14, 28, 3, 0⟩
def EVT_LIVE (p : Nat) : Fld := ⟨4096 * p + 0x20, 0, 32, 0⟩
def EVT_ROUTE_VECTOR (p : Nat) : Fld := ⟨4096 * p + 0x24, 0, 7, 0⟩
def EVT_ROUTE_TO_HOST (p : Nat) : Fld := ⟨4096 * p + 0x24, 8, 1, 0⟩
def EVT_ROUTE_TO_GAFFER (p : Nat) : Fld := ⟨4096 * p + 0x24, 9, 1, 1⟩
def LOCK_LOCK (p : Nat) : Fld := ⟨4096 * p + 0x2C, 0, 1, 0⟩
def FINJ_SRC (p : Nat) : Fld := ⟨4096 * p + 0x30, 0, 6, 0⟩
def FINJ_MODE (p : Nat) : Fld := ⟨4096 * p + 0x30, 6, 2, 0⟩
def FINJ_ACTIVE (p : Nat) : Fld := ⟨4096 * p + 0x30, 10, 1, 0⟩
def FRAME_STAMP_FRAME (p : Nat) : Fld := ⟨4096 * p + 0x34, 0, 32, 0⟩
/-- Bit `k` of `EVT_STS` of page `p`. -/
def EVT_STS (p k : Nat) : Fld := ⟨4096 * p + 0x18, k, 1, 0⟩
/-- Bit `k` of `EVT_EN` of page `p`. -/
def EVT_EN (p k : Nat) : Fld := ⟨4096 * p + 0x1C, k, 1, 0⟩

/-- The `i`-th of a list of reset values, 0 beyond its end. -/
def pick (l : List Nat) (i : Nat) : Nat := l.getD i 0

/-! ### SYS -/

def SYS.PERSIST_OK : Fld := ⟨0x140, 0, 1, 0⟩
def SYS.PERSIST_BOOT : Fld := ⟨0x140, 1, 1, 1⟩
def SYS.PERSIST_RECOUNT : Fld := ⟨0x140, 2, 1, 0⟩
def SYS.PERSIST_BUDGET : Fld := ⟨0x140, 3, 1, 0⟩
def SYS.PERSIST_FAULT : Fld := ⟨0x140, 4, 1, 0⟩
def SYS.PERSIST_SAFE : Fld := ⟨0x140, 5, 1, 0⟩
def SYS.PERSIST_CAPACITY : Fld := ⟨0x140, 6, 1, 0⟩
def SYS.PERSIST_IN_DOUBT : Fld := ⟨0x140, 7, 1, 0⟩
def SYS.PERSIST_FENCED : Fld := ⟨0x140, 8, 1, 0⟩
def SYS.PERSIST_SCOPE : Fld := ⟨0x140, 16, 2, 0⟩
def SYS.PERSIST_DOMAIN_OK : Fld := ⟨0x140, 18, 1, 0⟩
def SYS.PERSIST_TWIN_DEGRADED : Fld := ⟨0x140, 19, 1, 0⟩
def SYS.PERSIST_CHG_FRAME : Fld := ⟨0x144, 0, 32, 0⟩
def SYS.PERSIST_WDRAW_COUNT : Fld := ⟨0x148, 0, 16, 0⟩
def SYS.PERSIST_WDRAW_LAST_REASONS : Fld := ⟨0x148, 16, 8, 0⟩
def SYS.CAP_ACK_ACK : Fld := ⟨0x14C, 0, 1, 0⟩
def SYS.CAP_ACK_EXPOSED_GIB : Fld := ⟨0x14C, 16, 16, 0⟩
def SYS.CAPS_HP_PRESENT : Fld := ⟨0x100, 0, 4, 0⟩
def SYS.CAPS_HP_X16 : Fld := ⟨0x100, 4, 4, 0⟩
def SYS.CAPS_DRAM_GROUPS : Fld := ⟨0x100, 8, 4, 0⟩
def SYS.CAPS_NAND_GROUPS : Fld := ⟨0x100, 12, 8, 0⟩
def SYS.CAPS_SPARE_RANKS : Fld := ⟨0x100, 20, 4, 0⟩
def SYS.CAPS_BATTERY : Fld := ⟨0x100, 24, 1, 0⟩
def SYS.CAPS_CAP_BANK : Fld := ⟨0x100, 25, 1, 0⟩
def SYS.CAPS_TWIN : Fld := ⟨0x100, 26, 1, 0⟩
def SYS.CAPS_RING : Fld := ⟨0x100, 27, 1, 0⟩
def SYS.DARKWRITES_COUNT : Fld := ⟨0x104, 0, 32, 0⟩
def SYS.DARK_LAST_PAGE : Fld := ⟨0x108, 0, 12, 0⟩
def SYS.DARK_LAST_OFFSET : Fld := ⟨0x108, 12, 12, 0⟩
def SYS.DARK_LAST_SOURCE : Fld := ⟨0x108, 24, 3, 0⟩
def SYS.MGMT_PORT_PORT : Fld := ⟨0x10C, 0, 2, 0⟩
def SYS.FOREIGN_WR_COUNT : Fld := ⟨0x110, 0, 24, 0⟩
def SYS.FOREIGN_WR_PORT : Fld := ⟨0x110, 24, 2, 0⟩
def SYS.BOOT_STAGE : Fld := ⟨0x150, 0, 4, 0⟩
def SYS.BOOT_PROVISIONAL : Fld := ⟨0x150, 4, 1, 1⟩
def SYS.BOOT_COLD : Fld := ⟨0x150, 5, 1, 1⟩
def SYS.BOOT_MS_ADMIT : Fld := ⟨0x154, 0, 16, 0⟩
def SYS.BOOT_MS_IMAGE_S : Fld := ⟨0x154, 16, 16, 0⟩

/-! ### FRM -/

def FRM.COUNT_LO_COUNT : Fld := ⟨0x1100, 0, 32, 0⟩
def FRM.COUNT_HI_COUNT : Fld := ⟨0x1104, 0, 16, 0⟩
def FRM.PHASE_PHASE : Fld := ⟨0x1108, 0, 16, 0⟩
def FRM.SRC_MODE : Fld := ⟨0x110C, 0, 2, 0⟩
def FRM.SRC_STATE : Fld := ⟨0x110C, 4, 2, 0⟩
def FRM.SRC_JUMPS : Fld := ⟨0x110C, 16, 16, 0⟩
def FRM.SYNC_PHASE_ERR : Fld := ⟨0x1110, 0, 16, 0⟩
def FRM.SYNC_MISSED : Fld := ⟨0x1110, 16, 4, 0⟩
def FRM.SYNC_LOCK_RUN : Fld := ⟨0x1110, 20, 12, 0⟩
def FRM.RING_DELAY_DELAY : Fld := ⟨0x1114, 0, 16, 0⟩
def FRM.BUDGET_DRAM_SHARE (i : Nat) : Fld := ⟨0x1120 + 4 * i, 0, 10, pick [2, 2, 1, 0, 1, 2, 64, 0, 0, 1, 0, 0, 0, 0, 0, 0] i⟩
def FRM.BUDGET_NAND_SHARE (i : Nat) : Fld := ⟨0x1120 + 4 * i, 10, 10, pick [0, 0, 0, 0, 0, 0, 512, 0, 128, 0, 0, 0, 0, 0, 0, 0] i⟩
def FRM.OVERRUN_COUNT (i : Nat) : Fld := ⟨0x1160 + 4 * i, 0, 16, 0⟩
def FRM.OVERRUN_WINDOW (i : Nat) : Fld := ⟨0x1160 + 4 * i, 16, 7, 0⟩
def FRM.SUM_DRAM_SUM : Fld := ⟨0x11A0, 0, 11, 73⟩
def FRM.SUM_NAND_SUM : Fld := ⟨0x11A0, 16, 11, 640⟩

/-! ### CLK -/

def CLK.PLL_STS_LOCKED : Fld := ⟨0x2100, 0, 12, 0⟩
def CLK.PLL_LOST_LOST : Fld := ⟨0x2104, 0, 12, 0⟩
def CLK.LOCK_LOSSES_COUNT : Fld := ⟨0x2108, 0, 16, 0⟩
def CLK.XTAL_PPM_X10 : Fld := ⟨0x210C, 0, 16, 0⟩
def CLK.XTAL_FRAME_FRAME : Fld := ⟨0x2110, 0, 32, 0⟩

/-! ### IRQ -/

def IRQ.LEVEL_LEVEL (i : Nat) : Fld := ⟨0x3100 + 4 * i, 0, 32, 0⟩
def IRQ.HOLDOFF_US : Fld := ⟨0x3110, 0, 16, 0⟩
def IRQ.SENT_COUNT : Fld := ⟨0x3114, 0, 32, 0⟩
def IRQ.MERGED_COUNT : Fld := ⟨0x3118, 0, 32, 0⟩
def IRQ.FIND_VECTOR : Fld := ⟨0x311C, 0, 7, 0⟩
def IRQ.FIND_START : Fld := ⟨0x311C, 8, 12, 0⟩
def IRQ.FIND_RES_PAGE : Fld := ⟨0x3120, 0, 12, 0⟩
def IRQ.FIND_RES_DONE : Fld := ⟨0x3120, 30, 1, 0⟩
def IRQ.FIND_RES_FOUND : Fld := ⟨0x3120, 31, 1, 0⟩

/-! ### HPTn -/

def HPT.LINK_WIDTH (n : Nat) : Fld := ⟨0x8100 + 4096 * n, 0, 2, 0⟩
def HPT.LINK_RATE (n : Nat) : Fld := ⟨0x8100 + 4096 * n, 2, 2, 0⟩
def HPT.LINK_DEGRADED (n : Nat) : Fld := ⟨0x8100 + 4096 * n, 4, 1, 0⟩
def HPT.CTL_VIRAL_EN (n : Nat) : Fld := ⟨0x8104 + 4096 * n, 0, 1, 1⟩
def HPT.CTL_MEDIA_STAGE (n : Nat) : Fld := ⟨0x8104 + 4096 * n, 1, 1, 0⟩
def HPT.STS_CFG_READY (n : Nat) : Fld := ⟨0x8108 + 4096 * n, 0, 1, 0⟩
def HPT.STS_MEDIA (n : Nat) : Fld := ⟨0x8108 + 4096 * n, 1, 2, 0⟩
def HPT.STS_FENCED (n : Nat) : Fld := ⟨0x8108 + 4096 * n, 3, 1, 0⟩
def HPT.STS_READ_HOLD (n : Nat) : Fld := ⟨0x8108 + 4096 * n, 4, 1, 0⟩
def HPT.STS_VIRAL_SENT (n : Nat) : Fld := ⟨0x8108 + 4096 * n, 5, 1, 0⟩
def HPT.STS_VIRAL_RCVD (n : Nat) : Fld := ⟨0x8108 + 4096 * n, 6, 1, 0⟩
def HPT.CTO_REQ_US (n : Nat) : Fld := ⟨0x810C + 4096 * n, 0, 16, 2000⟩
def HPT.DROPPED_WR_COUNT (n : Nat) : Fld := ⟨0x8110 + 4096 * n, 0, 32, 0⟩
def HPT.POISON_RD_COUNT (n : Nat) : Fld := ⟨0x8114 + 4096 * n, 0, 32, 0⟩
def HPT.GPF_PH1 (n : Nat) : Fld := ⟨0x8118 + 4096 * n, 0, 16, 0⟩
def HPT.GPF_PH2 (n : Nat) : Fld := ⟨0x8118 + 4096 * n, 16, 16, 0⟩
def HPT.VEC_SEL_BASE (n : Nat) : Fld := ⟨0x811C + 4096 * n, 0, 7, 0⟩
def HPT.VEC_SEL_COUNT (n : Nat) : Fld := ⟨0x811C + 4096 * n, 8, 8, 0⟩
def HPT.HDM_STS_COMMITTED (n : Nat) : Fld := ⟨0x8124 + 4096 * n, 0, 4, 0⟩
def HPT.HDM_STS_REFUSED (n : Nat) : Fld := ⟨0x8124 + 4096 * n, 4, 4, 0⟩
def HPT.BW_RD_LINES (n : Nat) : Fld := ⟨0x8128 + 4096 * n, 0, 24, 0⟩
def HPT.BW_WR_LINES (n : Nat) : Fld := ⟨0x812C + 4096 * n, 0, 24, 0⟩

/-! ### QOS -/

def QOS.REQ_TARGET_NS (i : Nat) : Fld := ⟨0xC100 + 4 * i, 0, 16, pick [500, 500, 500, 500, 500, 20000, 1000, 1000, 65535, 500] i⟩
def QOS.REQ_CLASS (i : Nat) : Fld := ⟨0xC100 + 4 * i, 16, 2, pick [1, 1, 1, 1, 1, 2, 0, 0, 2, 1] i⟩
def QOS.MISSES_COUNT (i : Nat) : Fld := ⟨0xC140 + 4 * i, 0, 32, 0⟩

/-! ### DMC -/

def DMC.CFG_X8 : Fld := ⟨0x10100, 0, 1, 0⟩
def DMC.CFG_DENSITY : Fld := ⟨0x10100, 1, 1, 0⟩
def DMC.CFG_RATE : Fld := ⟨0x10100, 8, 8, 64⟩
def DMC.HASH_LO_MASK_LO (i : Nat) : Fld := ⟨0x10110 + 8 * i, 0, 32, pick [134742530, 269485060, 538970120, 1077936144, 2155872513, 16908288, 33816576, 67637248, 135274496, 270548992, 541097984, 1082195968] i⟩
def DMC.HASH_HI_MASK_HI (i : Nat) : Fld := ⟨0x10114 + 8 * i, 0, 2, pick [0, 0, 0, 0, 0, 0, 0, 0, 0, 0, 0, 0] i⟩
def DMC.HASH_HI_HOME (i : Nat) : Fld := ⟨0x10114 + 8 * i, 8, 6, pick [7, 8, 9, 10, 6, 23, 24, 18, 19, 20, 21, 22] i⟩
def DMC.REGION_A_BASE_GIB (i : Nat) : Fld := ⟨0x10180 + 8 * i, 0, 11, 0⟩
def DMC.REGION_A_SIZE_LOG2 (i : Nat) : Fld := ⟨0x10180 + 8 * i, 16, 6, 0⟩
def DMC.REGION_A_VALID (i : Nat) : Fld := ⟨0x10180 + 8 * i, 31, 1, 0⟩
def DMC.REGION_B_CH_BASE (i : Nat) : Fld := ⟨0x10184 + 8 * i, 0, 4, 0⟩
def DMC.REGION_B_CH_BITS (i : Nat) : Fld := ⟨0x10184 + 8 * i, 4, 3, 0⟩
def DMC.REGION_B_RANK_BASE (i : Nat) : Fld := ⟨0x10184 + 8 * i, 8, 2, 0⟩
def DMC.REGION_B_RANK_BITS (i : Nat) : Fld := ⟨0x10184 + 8 * i, 10, 2, 0⟩
def DMC.MAP_CHK_OK : Fld := ⟨0x101A0, 0, 1, 0⟩
def DMC.MAP_CHK_CODE : Fld := ⟨0x101A0, 1, 3, 0⟩
def DMC.MAP_CHK_REGION : Fld := ⟨0x101A0, 4, 2, 0⟩
def DMC.MAP_CHK_FIELD : Fld := ⟨0x101A0, 6, 4, 0⟩
def DMC.MAP_CRC_CRC : Fld := ⟨0x101A4, 0, 32, 0⟩
def DMC.PASR_REQ : Fld := ⟨0x101A8, 0, 8, 170⟩
def DMC.PASR_STATE : Fld := ⟨0x101A8, 8, 8, 170⟩
def DMC.XLATE_LO_ADDR : Fld := ⟨0x101B0, 0, 32, 0⟩
def DMC.XLATE_HI_ADDR : Fld := ⟨0x101B4, 0, 2, 0⟩
def DMC.XLATE_RES_CH : Fld := ⟨0x101B8, 0, 4, 0⟩
def DMC.XLATE_RES_SUB : Fld := ⟨0x101B8, 4, 1, 0⟩
def DMC.XLATE_RES_RANK : Fld := ⟨0x101B8, 5, 2, 0⟩
def DMC.XLATE_RES_BG : Fld := ⟨0x101B8, 7, 3, 0⟩
def DMC.XLATE_RES_BANK : Fld := ⟨0x101B8, 10, 2, 0⟩
def DMC.XLATE_RES_COL : Fld := ⟨0x101B8, 12, 7, 0⟩
def DMC.XLATE_RES_VALID : Fld := ⟨0x101B8, 30, 1, 0⟩
def DMC.XLATE_RES_OUT_OF_RANGE : Fld := ⟨0x101B8, 31, 1, 0⟩
def DMC.XLATE_ROW_ROW : Fld := ⟨0x101BC, 0, 17, 0⟩

/-! ### DCHn -/

def DCH.STS_RANKS (n : Nat) : Fld := ⟨0x20100 + 4096 * n, 0, 4, 0⟩
def DCH.STS_MODE (n : Nat) : Fld := ⟨0x20100 + 4096 * n, 4, 2, 0⟩
def DCH.STS_HOT (n : Nat) : Fld := ⟨0x20100 + 4096 * n, 6, 1, 0⟩
def DCH.STS_OWED (n : Nat) : Fld := ⟨0x20100 + 4096 * n, 8, 4, 0⟩
def DCH.SCHED_WQ_HI (n : Nat) : Fld := ⟨0x20104 + 4096 * n, 0, 7, 64⟩
def DCH.SCHED_WQ_LO (n : Nat) : Fld := ⟨0x20104 + 4096 * n, 8, 7, 32⟩
def DCH.SCHED_BATCH_MIN (n : Nat) : Fld := ⟨0x20104 + 4096 * n, 16, 6, 16⟩
def DCH.SCHED_BATCH_MAX (n : Nat) : Fld := ⟨0x20104 + 4096 * n, 24, 6, 48⟩
def DCH.PAGE_PAGE_IDLE (n : Nat) : Fld := ⟨0x20108 + 4096 * n, 0, 16, 400⟩
def DCH.PAGE_HIT_CAP (n : Nat) : Fld := ⟨0x20108 + 4096 * n, 16, 8, 16⟩
def DCH.PD_PD_TIMER (n : Nat) : Fld := ⟨0x2010C + 4096 * n, 0, 16, 2000⟩
def DCH.PD_PD_EN (n : Nat) : Fld := ⟨0x2010C + 4096 * n, 16, 1, 1⟩
def DCH.REF_TREFI_NS (n : Nat) : Fld := ⟨0x20110 + 4096 * n, 0, 12, 3900⟩
def DCH.REF_TRFC_NS (n : Nat) : Fld := ⟨0x20110 + 4096 * n, 16, 12, 295⟩
def DCH.TIMING_TRC_NS (n : Nat) : Fld := ⟨0x20114 + 4096 * n, 0, 8, 0⟩
def DCH.TIMING_TWTRL_NS (n : Nat) : Fld := ⟨0x20114 + 4096 * n, 8, 8, 0⟩
def DCH.TIMING_TXP_NS (n : Nat) : Fld := ⟨0x20114 + 4096 * n, 16, 8, 0⟩
def DCH.REF_CNT_FORCED (n : Nat) : Fld := ⟨0x20118 + 4096 * n, 0, 16, 0⟩
def DCH.REF_CNT_PULLED (n : Nat) : Fld := ⟨0x20118 + 4096 * n, 16, 16, 0⟩
def DCH.FWD_CNT_COUNT (n : Nat) : Fld := ⟨0x2011C + 4096 * n, 0, 32, 0⟩
def DCH.CRC_CNT_RETRIES (n : Nat) : Fld := ⟨0x20120 + 4096 * n, 0, 16, 0⟩
def DCH.CRC_CNT_EXHAUSTED (n : Nat) : Fld := ⟨0x20120 + 4096 * n, 16, 16, 0⟩
def DCH.QDEPTH_RD0 (n : Nat) : Fld := ⟨0x2012C + 4096 * n, 0, 8, 0⟩
def DCH.QDEPTH_RD1 (n : Nat) : Fld := ⟨0x2012C + 4096 * n, 8, 8, 0⟩
def DCH.QDEPTH_WR0 (n : Nat) : Fld := ⟨0x2012C + 4096 * n, 16, 8, 0⟩
def DCH.QDEPTH_WR1 (n : Nat) : Fld := ⟨0x2012C + 4096 * n, 24, 8, 0⟩
def DCH.TEMP_TEMP (n : Nat) : Fld := ⟨0x20130 + 4096 * n, 0, 8, 0⟩
def DCH.TEMP_HOT (n : Nat) : Fld := ⟨0x20130 + 4096 * n, 8, 1, 0⟩

/-! ### SPR -/

def SPR.CFG_CE_LIMIT : Fld := ⟨0x11100, 0, 12, 1024⟩
def SPR.CFG_AUTO_MIGRATE : Fld := ⟨0x11100, 12, 1, 1⟩
def SPR.RATE_MBS : Fld := ⟨0x11104, 0, 16, 8000⟩
def SPR.TRAIN_DRIFT_LIM : Fld := ⟨0x11108, 0, 8, 25⟩
def SPR.TRAIN_RETRAIN_MAX : Fld := ⟨0x11108, 8, 8, 4⟩
def SPR.MIG_STS_ACTIVE : Fld := ⟨0x1110C, 0, 1, 0⟩
def SPR.MIG_STS_SRC : Fld := ⟨0x1110C, 1, 6, 0⟩
def SPR.MIG_STS_DST : Fld := ⟨0x1110C, 7, 3, 0⟩
def SPR.MIG_STS_QUEUED : Fld := ⟨0x1110C, 10, 4, 0⟩
def SPR.MIG_PTR_INDEX : Fld := ⟨0x11110, 0, 32, 0⟩
def SPR.MIG_ETA_FRAMES : Fld := ⟨0x11114, 0, 24, 0⟩
def SPR.REPAIR_TWIN : Fld := ⟨0x1111C, 0, 16, 0⟩
def SPR.REPAIR_SEALED : Fld := ⟨0x1111C, 16, 16, 0⟩
def SPR.POISONED_COUNT : Fld := ⟨0x11120, 0, 32, 0⟩
def SPR.LAST_UE_LO_ADDR : Fld := ⟨0x11124, 0, 32, 0⟩
def SPR.LAST_UE_HI_ADDR : Fld := ⟨0x11128, 0, 2, 0⟩
def SPR.LAST_UE_HI_FINDER : Fld := ⟨0x11128, 2, 3, 0⟩
def SPR.SPARE_CH (i : Nat) : Fld := ⟨0x11130 + 4 * i, 0, 4, 0⟩
def SPR.SPARE_RANK (i : Nat) : Fld := ⟨0x11130 + 4 * i, 4, 2, 0⟩
def SPR.SPARE_VALID (i : Nat) : Fld := ⟨0x11130 + 4 * i, 7, 1, 0⟩
def SPR.SPARE_TARGET_CH (i : Nat) : Fld := ⟨0x11130 + 4 * i, 8, 4, 0⟩
def SPR.SPARE_TARGET_RANK (i : Nat) : Fld := ⟨0x11130 + 4 * i, 12, 2, 0⟩
def SPR.SPARE_IN_USE (i : Nat) : Fld := ⟨0x11130 + 4 * i, 14, 1, 0⟩
def SPR.RANK_STATE (i : Nat) : Fld := ⟨0x11180 + 4 * i, 0, 3, 0⟩
def SPR.RANK_MARGINAL (i : Nat) : Fld := ⟨0x11180 + 4 * i, 3, 1, 0⟩
def SPR.RANK_CE_WIN (i : Nat) : Fld := ⟨0x11180 + 4 * i, 4, 12, 0⟩
def SPR.RANK_UE (i : Nat) : Fld := ⟨0x11180 + 4 * i, 16, 8, 0⟩
def SPR.RANK_RETRAINS (i : Nat) : Fld := ⟨0x11180 + 4 * i, 24, 8, 0⟩

/-! ### SCR -/

def SCR.PERIOD_HOURS : Fld := ⟨0x12100, 0, 16, 24⟩
def SCR.CFG_MARGINAL_MULT : Fld := ⟨0x12104, 0, 4, 8⟩
def SCR.CFG_ECS_LIMIT : Fld := ⟨0x12104, 16, 16, 256⟩
def SCR.RATE_LINES : Fld := ⟨0x12108, 0, 16, 0⟩
def SCR.PROGRESS_PERMILLE : Fld := ⟨0x1210C, 0, 10, 0⟩
def SCR.PROGRESS_PASSES : Fld := ⟨0x1210C, 10, 22, 0⟩
def SCR.FOUND_CE : Fld := ⟨0x12110, 0, 24, 0⟩
def SCR.FOUND_UE : Fld := ⟨0x12110, 24, 8, 0⟩
def SCR.LAST_PASS_FRAME : Fld := ⟨0x12114, 0, 32, 0⟩

/-! ### TXN -/

def TXN.UNDO_CFG_SIZE_GIB : Fld := ⟨0x44100, 0, 5, 0⟩
def TXN.UNDO_CFG_BASE_GIB : Fld := ⟨0x44100, 16, 11, 0⟩
def TXN.CTX_LIMIT_UNITS : Fld := ⟨0x44104, 0, 11, 256⟩
def TXN.COMMIT_CTX : Fld := ⟨0x44108, 0, 6, 0⟩
def TXN.UNDO_USE_SLABS : Fld := ⟨0x4410C, 0, 19, 0⟩
def TXN.HOLD_USE_ENTRIES : Fld := ⟨0x44110, 0, 17, 0⟩
def TXN.PAIR_USE_PAIRS : Fld := ⟨0x44114, 0, 19, 0⟩
def TXN.PAIR_MAX_PAIRS : Fld := ⟨0x44118, 0, 19, 0⟩
def TXN.HOLD_PEAK_ENTRIES : Fld := ⟨0x4411C, 0, 17, 0⟩
def TXN.REPLAY_CTX : Fld := ⟨0x44120, 0, 6, 0⟩
def TXN.REPLAY_ACTIVE : Fld := ⟨0x44120, 6, 1, 0⟩
def TXN.REPLAY_QUEUED : Fld := ⟨0x44120, 7, 7, 0⟩
def TXN.COMMITS_COUNT : Fld := ⟨0x44128, 0, 32, 0⟩
def TXN.ABORTS_COUNT : Fld := ⟨0x4412C, 0, 32, 0⟩

/-! ### TXCn -/

def TXC.CTX_CTL_OPEN (n : Nat) (i : Nat) : Fld := ⟨0x45100 + 4096 * n + 4 * i, 0, 1, 0⟩
def TXC.CTX_CTL_ABORT (n : Nat) (i : Nat) : Fld := ⟨0x45100 + 4096 * n + 4 * i, 1, 1, 0⟩
def TXC.CTX_TAG_TAG (n : Nat) (i : Nat) : Fld := ⟨0x45140 + 4096 * n + 4 * i, 0, 22, 0⟩
def TXC.CTX_TAG_PARTS (n : Nat) (i : Nat) : Fld := ⟨0x45140 + 4096 * n + 4 * i, 22, 10, 0⟩
def TXC.CTX_STS_STATE (n : Nat) (i : Nat) : Fld := ⟨0x45180 + 4096 * n + 4 * i, 0, 4, 0⟩
def TXC.CTX_STS_CLEARING (n : Nat) (i : Nat) : Fld := ⟨0x45180 + 4096 * n + 4 * i, 4, 1, 0⟩
def TXC.CTX_STS_HOLD_FULL (n : Nat) (i : Nat) : Fld := ⟨0x45180 + 4096 * n + 4 * i, 5, 1, 0⟩
def TXC.CTX_STS_LIMIT (n : Nat) (i : Nat) : Fld := ⟨0x45180 + 4096 * n + 4 * i, 6, 1, 0⟩
def TXC.CTX_STS_UNDO_LOST (n : Nat) (i : Nat) : Fld := ⟨0x45180 + 4096 * n + 4 * i, 7, 1, 0⟩
def TXC.CTX_STS_LATE_WR (n : Nat) (i : Nat) : Fld := ⟨0x45180 + 4096 * n + 4 * i, 8, 1, 0⟩
def TXC.CTX_STS_TWIN_DEGRADED (n : Nat) (i : Nat) : Fld := ⟨0x45180 + 4096 * n + 4 * i, 9, 1, 0⟩
def TXC.CTX_STS_ROLLED_BACK (n : Nat) (i : Nat) : Fld := ⟨0x45180 + 4096 * n + 4 * i, 10, 1, 0⟩
def TXC.CTX_STS_FORCED (n : Nat) (i : Nat) : Fld := ⟨0x45180 + 4096 * n + 4 * i, 11, 1, 0⟩
def TXC.CTX_STS_HOLD_WAIT (n : Nat) (i : Nat) : Fld := ⟨0x45180 + 4096 * n + 4 * i, 12, 1, 0⟩
def TXC.CTX_STS_RESULT (n : Nat) (i : Nat) : Fld := ⟨0x45180 + 4096 * n + 4 * i, 13, 3, 0⟩
def TXC.CTX_FRAME_FRAME (n : Nat) (i : Nat) : Fld := ⟨0x451C0 + 4096 * n + 4 * i, 0, 32, 0⟩
def TXC.CTX_LINES_LINES (n : Nat) (i : Nat) : Fld := ⟨0x45200 + 4096 * n + 4 * i, 0, 23, 0⟩
def TXC.CTX_HELD_GRANULES (n : Nat) (i : Nat) : Fld := ⟨0x45240 + 4096 * n + 4 * i, 0, 17, 0⟩

/-! ### NFC -/

def NFC.GEOM_A_PAGES : Fld := ⟨0x50100, 0, 11, 0⟩
def NFC.GEOM_A_BLOCKS : Fld := ⟨0x50100, 16, 14, 0⟩
def NFC.GEOM_B_DIES : Fld := ⟨0x50104, 0, 5, 0⟩
def NFC.GEOM_B_CES : Fld := ⟨0x50104, 8, 4, 0⟩
def NFC.GEOM_B_PLANES : Fld := ⟨0x50104, 12, 4, 0⟩
def NFC.CFG_RATE : Fld := ⟨0x50108, 0, 6, 8⟩
def NFC.RETAIN_HOURS : Fld := ⟨0x5010C, 0, 16, 2160⟩
def NFC.WEAR_ENDURANCE_K : Fld := ⟨0x50110, 0, 16, 100⟩
def NFC.WEAR_STATIC_DELTA : Fld := ⟨0x50110, 16, 16, 1000⟩
def NFC.RD_DISTURB_LIMIT : Fld := ⟨0x50114, 0, 24, 200000⟩
def NFC.POOL_BLOCKS : Fld := ⟨0x50118, 0, 23, 0⟩
def NFC.REQUIRED_BLOCKS : Fld := ⟨0x5011C, 0, 23, 0⟩
def NFC.ERASED_BLOCKS : Fld := ⟨0x50120, 0, 23, 0⟩
def NFC.SAVE_RESERVE_BLOCKS : Fld := ⟨0x50124, 0, 23, 0⟩
def NFC.SPARE_PERMILLE : Fld := ⟨0x50128, 0, 10, 0⟩
def NFC.REMAIN_PE_KCYCLES : Fld := ⟨0x5012C, 0, 32, 0⟩
def NFC.DELTA_USED : Fld := ⟨0x50130, 0, 17, 0⟩
def NFC.CKPT_FRAME_FRAME : Fld := ⟨0x50134, 0, 32, 0⟩
def NFC.MANIFEST_LOC_LOC : Fld := ⟨0x50138, 0, 32, 4294967295⟩
def NFC.MOVES_COUNT : Fld := ⟨0x50140, 0, 32, 0⟩

/-! ### NCHn -/

def NCH.STS_DIES_OK (n : Nat) : Fld := ⟨0x60100 + 4096 * n, 0, 16, 0⟩
def NCH.STS_TRAINED (n : Nat) : Fld := ⟨0x60100 + 4096 * n, 16, 1, 0⟩
def NCH.STS_FAILED (n : Nat) : Fld := ⟨0x60100 + 4096 * n, 17, 1, 0⟩
def NCH.DIE_FAIL_DIES (n : Nat) : Fld := ⟨0x60104 + 4096 * n, 0, 16, 0⟩
def NCH.TIMEOUT_US (n : Nat) : Fld := ⟨0x60108 + 4096 * n, 0, 16, 5000⟩
def NCH.FAILS_PROG (n : Nat) : Fld := ⟨0x6010C + 4096 * n, 0, 16, 0⟩
def NCH.FAILS_ERASE (n : Nat) : Fld := ⟨0x6010C + 4096 * n, 16, 16, 0⟩
def NCH.LDPC_RETRIED (n : Nat) : Fld := ⟨0x60110 + 4096 * n, 0, 24, 0⟩
def NCH.LDPC_UNCORR (n : Nat) : Fld := ⟨0x60110 + 4096 * n, 24, 8, 0⟩
def NCH.UTIL_PERMILLE (n : Nat) : Fld := ⟨0x60114 + 4096 * n, 0, 10, 0⟩

/-! ### CUL -/

def CUL.COUNT_ENTRIES : Fld := ⟨0x51100, 0, 17, 0⟩
def CUL.FACTORY_BLOCKS : Fld := ⟨0x51104, 0, 23, 0⟩
def CUL.INDEX_INDEX : Fld := ⟨0x51108, 0, 16, 0⟩
def CUL.ENTRY_CH : Fld := ⟨0x5110C, 0, 5, 0⟩
def CUL.ENTRY_DIE : Fld := ⟨0x5110C, 5, 4, 0⟩
def CUL.ENTRY_BLOCK : Fld := ⟨0x5110C, 9, 13, 0⟩
def CUL.ENTRY_CAUSE : Fld := ⟨0x5110C, 22, 2, 0⟩
def CUL.ENTRY_VALID : Fld := ⟨0x5110C, 31, 1, 0⟩
def CUL.LAST_FRAME_FRAME : Fld := ⟨0x51110, 0, 32, 0⟩

/-! ### MRV -/

def MRV.CFG_GRAN_SIZE : Fld := ⟨0x40100, 0, 2, 2⟩
def MRV.CFG_GRAN_IN_USE : Fld := ⟨0x40100, 2, 2, 0⟩
def MRV.DIRTY_COUNT : Fld := ⟨0x40104, 0, 25, 0⟩
def MRV.LOST_COUNT : Fld := ⟨0x40108, 0, 25, 0⟩
def MRV.HELD_COUNT : Fld := ⟨0x4010C, 0, 25, 0⟩
def MRV.TWIN_DIRTY_COUNT : Fld := ⟨0x40110, 0, 25, 0⟩
def MRV.MAP_ENTRIES : Fld := ⟨0x40114, 0, 25, 0⟩
def MRV.MIRROR_BASE_INDEX : Fld := ⟨0x40118, 0, 25, 0⟩
def MRV.RC_CURSOR_INDEX : Fld := ⟨0x4011C, 0, 25, 0⟩
def MRV.RC_STS_FULL_ACTIVE : Fld := ⟨0x40120, 0, 1, 0⟩
def MRV.RC_STS_MISMATCH : Fld := ⟨0x40120, 1, 1, 0⟩
def MRV.RC_STS_PASSES : Fld := ⟨0x40120, 16, 16, 0⟩
def MRV.RC_LAST_ACCUM : Fld := ⟨0x40124, 0, 25, 0⟩
def MRV.ECC_CE : Fld := ⟨0x40128, 0, 24, 0⟩
def MRV.ECC_UE : Fld := ⟨0x40128, 24, 8, 0⟩
def MRV.PEEK_IDX_INDEX : Fld := ⟨0x4012C, 0, 25, 0⟩
def MRV.PEEK_ENTRY : Fld := ⟨0x40130, 0, 16, 0⟩
def MRV.PEEK_CHECK : Fld := ⟨0x40130, 16, 6, 0⟩
def MRV.PEEK_VALID : Fld := ⟨0x40130, 31, 1, 0⟩
def MRV.GROUPS_SET : Fld := ⟨0x40134, 0, 19, 0⟩

/-! ### LEH -/

def LEH.POLICY_POLICY : Fld := ⟨0x41100, 0, 1, 0⟩
def LEH.SEAL_AGE_FRAMES : Fld := ⟨0x41104, 0, 15, 50⟩
def LEH.BUDGET_CAP_GRAN : Fld := ⟨0x41108, 0, 25, 0⟩
def LEH.CAPONLY_CAP_GRAN : Fld := ⟨0x4110C, 0, 25, 0⟩
def LEH.BUDGET_EFF_GRAN : Fld := ⟨0x41110, 0, 25, 0⟩
def LEH.BUDGET_STRICT_GRAN : Fld := ⟨0x41114, 0, 25, 0⟩
def LEH.DIRTY_EFF_GRAN : Fld := ⟨0x41118, 0, 25, 0⟩
def LEH.WM_LO_PCT : Fld := ⟨0x4111C, 0, 7, 75⟩
def LEH.WM_LO_GRAN : Fld := ⟨0x4111C, 7, 25, 0⟩
def LEH.WM_HI_PCT : Fld := ⟨0x41120, 0, 7, 90⟩
def LEH.WM_HI_GRAN : Fld := ⟨0x41120, 7, 25, 0⟩
def LEH.WM_HYST_HYST : Fld := ⟨0x41124, 0, 16, 64⟩
def LEH.WM_CROSSINGS_LO : Fld := ⟨0x41128, 0, 16, 0⟩
def LEH.WM_CROSSINGS_HI : Fld := ⟨0x41128, 16, 16, 0⟩
def LEH.THROTTLE_EN_EN : Fld := ⟨0x4112C, 0, 1, 1⟩
def LEH.THROTTLE_PCT : Fld := ⟨0x41130, 0, 7, 50⟩
def LEH.THROTTLE_ACTIVE : Fld := ⟨0x41130, 7, 1, 0⟩
def LEH.THROTTLE_WITHHELD : Fld := ⟨0x41130, 8, 4, 0⟩
def LEH.THR_WEIGHT_W0 : Fld := ⟨0x41134, 0, 4, 1⟩
def LEH.THR_WEIGHT_W1 : Fld := ⟨0x41134, 4, 4, 1⟩
def LEH.THR_WEIGHT_W2 : Fld := ⟨0x41134, 8, 4, 1⟩
def LEH.THR_WEIGHT_W3 : Fld := ⟨0x41134, 12, 4, 1⟩
def LEH.WEAR_LIFE_YEARS : Fld := ⟨0x41138, 0, 4, 7⟩
def LEH.WEAR_CFG_CAP_FRAMES : Fld := ⟨0x4113C, 0, 24, 500000⟩
def LEH.WEAR_RATE_PAGES : Fld := ⟨0x41140, 0, 24, 0⟩
def LEH.WEAR_CREDIT_PAGES : Fld := ⟨0x41144, 0, 32, 0⟩
def LEH.WA_PCT : Fld := ⟨0x41148, 0, 16, 100⟩
def LEH.RATE_SEALED : Fld := ⟨0x4114C, 0, 16, 0⟩
def LEH.RATE_NEW_DIRTY : Fld := ⟨0x4114C, 16, 16, 0⟩
def LEH.CURSOR_GROUP : Fld := ⟨0x41150, 0, 18, 0⟩
def LEH.SEALS_COUNT : Fld := ⟨0x41154, 0, 32, 0⟩
def LEH.SUPERSEDED_COUNT : Fld := ⟨0x41158, 0, 32, 0⟩

/-! ### ENG -/

def ENG.VIN_CODE : Fld := ⟨0x80100, 0, 18, 0⟩
def ENG.VIN_GOOD : Fld := ⟨0x80100, 18, 1, 0⟩
def ENG.VCAP_CODE : Fld := ⟨0x80104, 0, 18, 0⟩
def ENG.VBAT_CODE : Fld := ⟨0x80108, 0, 18, 0⟩
def ENG.IBAT_CODE : Fld := ⟨0x8010C, 0, 18, 0⟩
def ENG.TEMP_T_STORE : Fld := ⟨0x80110, 0, 12, 0⟩
def ENG.TEMP_NTC_FAULT : Fld := ⟨0x80110, 12, 1, 0⟩
def ENG.QCNT_LO_NC : Fld := ⟨0x80114, 0, 32, 0⟩
def ENG.QCNT_HI_NC : Fld := ⟨0x80118, 0, 32, 0⟩
def ENG.Q_VOLT_MAH : Fld := ⟨0x8011C, 0, 16, 0⟩
def ENG.Q_USED_MAH : Fld := ⟨0x8011C, 16, 16, 0⟩
def ENG.CAP_LEARNED_MAH : Fld := ⟨0x80120, 0, 16, 0⟩
def ENG.CAP_LEARNED_RATED_MAH : Fld := ⟨0x80120, 16, 16, 0⟩
def ENG.BAT_CFG_CHEM : Fld := ⟨0x80124, 0, 2, 0⟩
def ENG.BAT_CFG_CELLS : Fld := ⟨0x80124, 2, 4, 4⟩
def ENG.BAT_CFG_CUTOFF_MV : Fld := ⟨0x80124, 16, 16, 10000⟩
def ENG.BAT_ELEC_VNOM_MV : Fld := ⟨0x80128, 0, 16, 12800⟩
def ENG.BAT_ELEC_RINT_MOHM : Fld := ⟨0x80128, 16, 16, 40⟩
def ENG.SHUNT_MICROOHM : Fld := ⟨0x8012C, 0, 16, 1000⟩
def ENG.STATE_BAT : Fld := ⟨0x80130, 0, 3, 0⟩
def ENG.STATE_CHG_ON : Fld := ⟨0x80130, 3, 1, 0⟩
def ENG.STATE_CV : Fld := ⟨0x80130, 4, 1, 0⟩
def ENG.STATE_DISAGREE : Fld := ⟨0x80130, 5, 1, 0⟩
def ENG.STATE_CHG_FAULT : Fld := ⟨0x80130, 6, 1, 0⟩
def ENG.STATE_AT_FULL : Fld := ⟨0x80130, 7, 1, 0⟩
def ENG.STATE_REST_LEFT : Fld := ⟨0x80130, 8, 22, 0⟩
def ENG.LIMITS_DISAGREE_PCT : Fld := ⟨0x80134, 0, 7, 15⟩
def ENG.LIMITS_BAT_AGE : Fld := ⟨0x80134, 16, 10, 900⟩
def ENG.MARGIN_PCT : Fld := ⟨0x80138, 0, 7, 10⟩
def ENG.TC_CAP_TEMP (i : Nat) : Fld := ⟨0x80140 + 4 * i, 0, 8, pick [216, 236, 0, 25, 60, 70, 85, 105] i⟩
def ENG.TC_CAP_PERMILLE (i : Nat) : Fld := ⟨0x80140 + 4 * i, 8, 10, pick [800, 867, 933, 1000, 1000, 980, 950, 900] i⟩
def ENG.TC_BAT_TEMP (i : Nat) : Fld := ⟨0x80160 + 4 * i, 0, 8, pick [216, 236, 0, 10, 25, 45, 55, 70] i⟩
def ENG.TC_BAT_PERMILLE (i : Nat) : Fld := ⟨0x80160 + 4 * i, 8, 10, pick [0, 600, 850, 950, 1000, 1000, 950, 0] i⟩
def ENG.CAP_CFG_C_RATED : Fld := ⟨0x80180, 0, 16, 1000⟩
def ENG.CAP_CFG_I_TEST_MA : Fld := ⟨0x80180, 16, 16, 1000⟩
def ENG.CAP_V_V_RATED_MV : Fld := ⟨0x80184, 0, 16, 40000⟩
def ENG.CAP_V_V_MIN_MV : Fld := ⟨0x80184, 16, 16, 20000⟩
def ENG.CAP_TEST_C_MEAS : Fld := ⟨0x80188, 0, 16, 1000⟩
def ENG.CAP_TEST_ESR_MOHM : Fld := ⟨0x80188, 16, 12, 0⟩
def ENG.CAP_TEST_RUNNING : Fld := ⟨0x80188, 28, 1, 0⟩
def ENG.CAP_TEST_LOW : Fld := ⟨0x80188, 29, 1, 0⟩
def ENG.CAP_TEST_HIGH_ESR : Fld := ⟨0x80188, 30, 1, 0⟩
def ENG.CAP_ESR_MAX_MOHM : Fld := ⟨0x8018C, 0, 12, 200⟩
def ENG.E_CAP_MJ : Fld := ⟨0x80190, 0, 32, 0⟩
def ENG.E_BAT_MJ : Fld := ⟨0x80194, 0, 32, 0⟩
def ENG.E_AVAIL_MJ : Fld := ⟨0x80198, 0, 32, 0⟩
def ENG.SAVECOST_E_FIXED_MJ : Fld := ⟨0x8019C, 0, 16, 12000⟩
def ENG.SAVECOST_E_PER_GB_MJ : Fld := ⟨0x8019C, 16, 16, 1700⟩
def ENG.B_ENERGY_GRAN : Fld := ⟨0x801A0, 0, 25, 0⟩
def ENG.RIDE_P_DW : Fld := ⟨0x801A4, 0, 16, 220⟩
def ENG.RIDE_WIN_MS : Fld := ⟨0x801A8, 0, 32, 0⟩
def ENG.EXERCISE_START : Fld := ⟨0x801AC, 0, 1, 0⟩
def ENG.EXERCISE_STOP : Fld := ⟨0x801AC, 1, 1, 0⟩
def ENG.EXERCISE_ACTIVE : Fld := ⟨0x801AC, 2, 1, 0⟩
def ENG.EXERCISE_RESULT : Fld := ⟨0x801AC, 3, 3, 0⟩
def ENG.LEARN_RESET_DEFAULTS : Fld := ⟨0x801B0, 0, 1, 0⟩
def ENG.LEARN_PENDING : Fld := ⟨0x801B0, 1, 1, 0⟩
def ENG.LEARN_SLOT : Fld := ⟨0x801B0, 2, 1, 0⟩
def ENG.LEARN_SEQ : Fld := ⟨0x801B0, 16, 16, 0⟩
def ENG.FULL_FRAME_FRAME : Fld := ⟨0x801B4, 0, 32, 0⟩
def ENG.EMPTY_FRAME_FRAME : Fld := ⟨0x801B8, 0, 32, 0⟩
def ENG.CHG_ADDR : Fld := ⟨0x801BC, 0, 7, 0⟩
def ENG.CHG_T_MIN : Fld := ⟨0x801BC, 8, 8, 0⟩
def ENG.CHG_T_MAX : Fld := ⟨0x801BC, 16, 8, 45⟩

/-! ### SAV -/

def SAV.CFG_RIDE_EN : Fld := ⟨0x42100, 0, 1, 1⟩
def SAV.CFG_PFAIL_EN : Fld := ⟨0x42100, 1, 1, 1⟩
def SAV.CFG_VIN_THR : Fld := ⟨0x42100, 8, 4, 6⟩
def SAV.RIDE_MAX_S : Fld := ⟨0x42104, 0, 12, 300⟩
def SAV.RIDE_MIN_MS : Fld := ⟨0x42108, 0, 12, 100⟩
def SAV.VIN_STABLE_FRAMES : Fld := ⟨0x4210C, 0, 20, 5000⟩
def SAV.STS_STATE : Fld := ⟨0x42110, 0, 4, 0⟩
def SAV.STS_ARMED : Fld := ⟨0x42110, 4, 1, 0⟩
def SAV.STS_PARISON : Fld := ⟨0x42110, 5, 1, 0⟩
def SAV.RATE_MBS : Fld := ⟨0x42114, 0, 17, 0⟩
def SAV.ETA_US : Fld := ⟨0x42118, 0, 24, 50000⟩
def SAV.LAST_TRIG_TRIGGER : Fld := ⟨0x4211C, 0, 8, 0⟩
def SAV.LAST_TRIG_OUTCOME : Fld := ⟨0x4211C, 8, 4, 0⟩
def SAV.LAST_TRIG_OK_AT_FENCE : Fld := ⟨0x4211C, 12, 1, 0⟩
def SAV.LAST_TRIG_PRESEAL : Fld := ⟨0x4211C, 13, 1, 0⟩
def SAV.LAST_FRAME_FRAME : Fld := ⟨0x42120, 0, 32, 0⟩
def SAV.LAST_TIME_US : Fld := ⟨0x42124, 0, 32, 0⟩
def SAV.LAST_RIDE_MS : Fld := ⟨0x42128, 0, 32, 0⟩
def SAV.LAST_GRAN_COUNT : Fld := ⟨0x4212C, 0, 25, 0⟩
def SAV.LAST_LOST_COUNT : Fld := ⟨0x42130, 0, 25, 0⟩
def SAV.COUNTS_SAVES : Fld := ⟨0x42134, 0, 16, 0⟩
def SAV.COUNTS_RIDES : Fld := ⟨0x42134, 16, 16, 0⟩
def SAV.CTL_RESUME : Fld := ⟨0x42138, 0, 1, 0⟩

/-! ### RSR -/

def RSR.CFG_MODE : Fld := ⟨0x43100, 0, 2, 0⟩
def RSR.CFG_FALLBACK_MAX : Fld := ⟨0x43100, 2, 3, 4⟩
def RSR.READY_DEADLINE_MS : Fld := ⟨0x43104, 0, 16, 2000⟩
def RSR.DOUBT_WAIT_FRAMES : Fld := ⟨0x43108, 0, 20, 50000⟩
def RSR.STS_STAGE : Fld := ⟨0x4310C, 0, 4, 0⟩
def RSR.STS_RUN_AHEAD : Fld := ⟨0x4310C, 4, 1, 0⟩
def RSR.STS_REBUILD : Fld := ⟨0x4310C, 5, 1, 0⟩
def RSR.STS_ADMITTED : Fld := ⟨0x4310C, 6, 1, 0⟩
def RSR.STS_UNVERIFIED : Fld := ⟨0x4310C, 7, 1, 0⟩
def RSR.STS_FALLBACKS : Fld := ⟨0x4310C, 8, 3, 0⟩
def RSR.TOTAL_GRAN : Fld := ⟨0x43110, 0, 25, 0⟩
def RSR.DONE_GRAN : Fld := ⟨0x43114, 0, 25, 0⟩
def RSR.RATE_MBS : Fld := ⟨0x43118, 0, 17, 0⟩
def RSR.ETA_MS : Fld := ⟨0x4311C, 0, 24, 0⟩
def RSR.EST_MS : Fld := ⟨0x43120, 0, 24, 0⟩
def RSR.SLOTS_IN_FLIGHT : Fld := ⟨0x43124, 0, 13, 0⟩
def RSR.SLOTS_DEMAND : Fld := ⟨0x43124, 13, 13, 0⟩
def RSR.HEAT_LEVEL : Fld := ⟨0x43128, 0, 4, 0⟩
def RSR.HEAT_CURSOR : Fld := ⟨0x43128, 4, 25, 0⟩
def RSR.DEMANDS_COUNT : Fld := ⟨0x4312C, 0, 32, 0⟩
def RSR.SQUASHED_COUNT : Fld := ⟨0x43130, 0, 32, 0⟩
def RSR.DEMAND_MAX_US : Fld := ⟨0x43134, 0, 16, 0⟩
def RSR.MANIFEST_SEQ : Fld := ⟨0x43138, 0, 32, 0⟩
def RSR.MAN_FRAME_FRAME : Fld := ⟨0x4313C, 0, 32, 0⟩
def RSR.LOST_COUNT : Fld := ⟨0x43140, 0, 25, 0⟩
def RSR.CONTINUITY_INDEX : Fld := ⟨0x43144, 0, 6, 0⟩
def RSR.CONTINUITY_DATA : Fld := ⟨0x43144, 16, 16, 0⟩

/-! ### PNT -/

def PNT.LINK_WIDTH : Fld := ⟨0xC0100, 0, 2, 0⟩
def PNT.LINK_RATE : Fld := ⟨0xC0100, 2, 2, 0⟩
def PNT.LINK_DEGRADED : Fld := ⟨0xC0100, 4, 1, 0⟩
def PNT.RETRAINS_COUNT : Fld := ⟨0xC0104, 0, 32, 0⟩
def PNT.REPLAYS_COUNT : Fld := ⟨0xC0108, 0, 32, 0⟩
def PNT.BW_TX_FLITS : Fld := ⟨0xC011C, 0, 24, 0⟩
def PNT.BW_RX_FLITS : Fld := ⟨0xC0120, 0, 24, 0⟩

/-! ### TWN -/

def TWN.PEER_LO_SERIAL : Fld := ⟨0xC1100, 0, 32, 0⟩
def TWN.PEER_HI_SERIAL : Fld := ⟨0xC1104, 0, 32, 0⟩
def TWN.CTL_PAIR : Fld := ⟨0xC1108, 0, 1, 0⟩
def TWN.CTL_UNPAIR : Fld := ⟨0xC1108, 1, 1, 0⟩
def TWN.CTL_DETACH : Fld := ⟨0xC1108, 2, 1, 0⟩
def TWN.CTL_REATTACH : Fld := ⟨0xC1108, 3, 1, 0⟩
def TWN.CTL_TWIN_FAILED : Fld := ⟨0xC1108, 4, 1, 0⟩
def TWN.CTL_PROMOTE : Fld := ⟨0xC1108, 5, 1, 0⟩
def TWN.CTL_DEMOTE : Fld := ⟨0xC1108, 6, 1, 0⟩
def TWN.CFG_ACK_MODE : Fld := ⟨0xC110C, 0, 1, 0⟩
def TWN.RESYNC_RATE_MBS : Fld := ⟨0xC1110, 0, 16, 16000⟩
def TWN.WAIT_BOOT_FRAMES : Fld := ⟨0xC1114, 0, 20, 250000⟩
def TWN.STS_STATE : Fld := ⟨0xC1118, 0, 4, 0⟩
def TWN.STS_PAIRED : Fld := ⟨0xC1118, 4, 1, 0⟩
def TWN.STS_LEADER : Fld := ⟨0xC1118, 5, 1, 0⟩
def TWN.STS_PROMOTED : Fld := ⟨0xC1118, 6, 1, 0⟩
def TWN.STS_CONFLICT : Fld := ⟨0xC1118, 7, 1, 0⟩
def TWN.STS_MISSED : Fld := ⟨0xC1118, 8, 2, 0⟩
def TWN.STS_RESULT : Fld := ⟨0xC1118, 10, 3, 0⟩
def TWN.HOME_GEN_VALUE : Fld := ⟨0xC111C, 0, 32, 0⟩
def TWN.MIRROR_GEN_VALUE : Fld := ⟨0xC1120, 0, 32, 0⟩
def TWN.HOME_AGREED_VALUE : Fld := ⟨0xC1124, 0, 32, 0⟩
def TWN.MIRROR_AGREED_VALUE : Fld := ⟨0xC1128, 0, 32, 0⟩
def TWN.PEER_GEN_VALUE : Fld := ⟨0xC112C, 0, 32, 0⟩
def TWN.PEER_SEQ_VALUE : Fld := ⟨0xC1130, 0, 32, 0⟩
def TWN.RESYNC_LEFT_GRAN : Fld := ⟨0xC1134, 0, 25, 0⟩
def TWN.REVERSE_GRAN : Fld := ⟨0xC1138, 0, 25, 0⟩
def TWN.CONFLICT_GRAN_GRAN : Fld := ⟨0xC113C, 0, 25, 0⟩
def TWN.RCTX_OPEN_LO_MASK : Fld := ⟨0xC1140, 0, 32, 0⟩
def TWN.RCTX_OPEN_HI_MASK : Fld := ⟨0xC1144, 0, 32, 0⟩
def TWN.RCTX_PREP_LO_MASK : Fld := ⟨0xC1148, 0, 32, 0⟩
def TWN.RCTX_PREP_HI_MASK : Fld := ⟨0xC114C, 0, 32, 0⟩
def TWN.MIRROR_DROPPED_COUNT : Fld := ⟨0xC1150, 0, 32, 0⟩
def TWN.LOSSES_COUNT : Fld := ⟨0xC1154, 0, 32, 0⟩

/-! ### TRN -/

def TRN.ID_LO_ID : Fld := ⟨0xD0100, 0, 32, 0⟩
def TRN.ID_HI_ID : Fld := ⟨0xD0104, 0, 32, 0⟩
def TRN.STS_INDEX : Fld := ⟨0xD0108, 0, 9, 0⟩
def TRN.STS_MASTER : Fld := ⟨0xD0108, 9, 1, 0⟩
def TRN.STS_STATE : Fld := ⟨0xD0108, 10, 2, 0⟩
def TRN.STS_TOPO : Fld := ⟨0xD0108, 12, 2, 0⟩
def TRN.STS_COUNT : Fld := ⟨0xD0108, 14, 10, 0⟩
def TRN.STS_OVERSIZE : Fld := ⟨0xD0108, 24, 1, 0⟩
def TRN.STS_CIRC_ERR : Fld := ⟨0xD0108, 25, 1, 0⟩
def TRN.RING_STS_AI_LOCK : Fld := ⟨0xD010C, 0, 1, 0⟩
def TRN.RING_STS_BI_LOCK : Fld := ⟨0xD010C, 1, 1, 0⟩
def TRN.RING_STS_EDGE : Fld := ⟨0xD010C, 2, 1, 0⟩
def TRN.RING_STS_BREAK1 : Fld := ⟨0xD010C, 3, 9, 0⟩
def TRN.RING_STS_BREAK1_V : Fld := ⟨0xD010C, 12, 1, 0⟩
def TRN.RING_STS_BREAK2 : Fld := ⟨0xD010C, 13, 9, 0⟩
def TRN.RING_STS_BREAK2_V : Fld := ⟨0xD010C, 22, 1, 0⟩
def TRN.MASTER_LO_ID : Fld := ⟨0xD0110, 0, 32, 0⟩
def TRN.MASTER_HI_ID : Fld := ⟨0xD0114, 0, 32, 0⟩
def TRN.CIRC_A_NS : Fld := ⟨0xD0118, 0, 16, 0⟩
def TRN.CIRC_B_NS : Fld := ⟨0xD0118, 16, 16, 0⟩
def TRN.ERR_CRC_A : Fld := ⟨0xD011C, 0, 16, 0⟩
def TRN.ERR_CRC_B : Fld := ⟨0xD011C, 16, 16, 0⟩
def TRN.COUNTS_ELECTIONS : Fld := ⟨0xD0120, 0, 16, 0⟩
def TRN.COUNTS_BREAKS : Fld := ⟨0xD0120, 16, 16, 0⟩
def TRN.TABLE_IDX_INDEX : Fld := ⟨0xD0124, 0, 9, 0⟩
def TRN.TABLE_IDX_VALID : Fld := ⟨0xD0124, 31, 1, 0⟩
def TRN.TABLE_LO_ID : Fld := ⟨0xD0128, 0, 32, 0⟩
def TRN.TABLE_HI_ID : Fld := ⟨0xD012C, 0, 32, 0⟩

/-! ### DOM -/

def DOM.CFG_MEMBERS : Fld := ⟨0xD1100, 0, 10, 0⟩
def DOM.STS_DOMAIN_OK : Fld := ⟨0xD1104, 0, 1, 0⟩
def DOM.STS_QUORUM : Fld := ⟨0xD1104, 1, 1, 0⟩
def DOM.STS_DEPARTED : Fld := ⟨0xD1104, 2, 9, 0⟩
def DOM.STS_BALLOTS : Fld := ⟨0xD1104, 11, 7, 0⟩
def DOM.FORCE_CTX : Fld := ⟨0xD1108, 0, 6, 0⟩
def DOM.FORCE_OUTCOME : Fld := ⟨0xD1108, 6, 1, 0⟩
def DOM.FORCE_GO : Fld := ⟨0xD1108, 7, 1, 0⟩
def DOM.FORCE_RESULT : Fld := ⟨0xD1108, 8, 1, 0⟩
def DOM.LOG_USED : Fld := ⟨0xD110C, 0, 13, 0⟩
def DOM.LOG_OVERWRITES : Fld := ⟨0xD110C, 16, 16, 0⟩
def DOM.LOG_OLDEST_FRAME : Fld := ⟨0xD1110, 0, 32, 0⟩
def DOM.COORD_COMMITS : Fld := ⟨0xD1114, 0, 16, 0⟩
def DOM.COORD_ABORTS : Fld := ⟨0xD1114, 16, 16, 0⟩
def DOM.RESOLVED_BY_RECORD : Fld := ⟨0xD1118, 0, 16, 0⟩
def DOM.RESOLVED_BY_RING : Fld := ⟨0xD1118, 16, 16, 0⟩
def DOM.TALLY_FAIL_COUNT : Fld := ⟨0xD111C, 0, 16, 0⟩
def DOM.LAST_FENCE_INDEX : Fld := ⟨0xD1120, 0, 9, 0⟩
def DOM.LAST_FENCE_FRAME_FRAME : Fld := ⟨0xD1124, 0, 32, 0⟩

/-! ### PWR -/

def PWR.SEQ_RAIL (i : Nat) : Fld := ⟨0x81100 + 4 * i, 0, 4, pick [0, 1, 3, 2, 4, 10, 11, 5, 6, 7, 8, 9, 0, 0, 0, 0] i⟩
def PWR.SEQ_WAIT_PG (i : Nat) : Fld := ⟨0x81100 + 4 * i, 4, 1, 1⟩
def PWR.SEQ_HOLD (i : Nat) : Fld := ⟨0x81100 + 4 * i, 5, 1, pick [0, 0, 0, 0, 0, 0, 0, 0, 1, 1, 1, 1, 0, 0, 0, 0] i⟩
def PWR.SEQ_VALID (i : Nat) : Fld := ⟨0x81100 + 4 * i, 7, 1, pick [1, 1, 1, 1, 1, 1, 1, 1, 1, 1, 1, 1, 0, 0, 0, 0] i⟩
def PWR.SEQ_DELAY_US (i : Nat) : Fld := ⟨0x81100 + 4 * i, 8, 10, 100⟩
def PWR.SEQ_TIMEOUT (i : Nat) : Fld := ⟨0x81100 + 4 * i, 18, 8, 20⟩
def PWR.RAIL_CFG_REACT (i : Nat) : Fld := ⟨0x81140 + 4 * i, 0, 2, pick [3, 3, 1, 3, 3, 2, 2, 2, 2, 2, 1, 1] i⟩
def PWR.RAIL_CFG_RETRIES (i : Nat) : Fld := ⟨0x81140 + 4 * i, 2, 2, 3⟩
def PWR.RAIL_CFG_BACKOFF (i : Nat) : Fld := ⟨0x81140 + 4 * i, 4, 8, 50⟩
def PWR.RAIL_CFG_PERSIST (i : Nat) : Fld := ⟨0x81140 + 4 * i, 12, 1, pick [1, 1, 0, 1, 1, 1, 1, 1, 1, 1, 1, 1] i⟩
def PWR.RAIL_CFG_DEP (i : Nat) : Fld := ⟨0x81140 + 4 * i, 16, 12, pick [0, 0, 9, 1, 1, 0, 32, 32, 32, 32, 0, 1024] i⟩
def PWR.TIMING_DEBOUNCE_US : Fld := ⟨0x81180, 0, 10, 200⟩
def PWR.TIMING_DIS_TIMEOUT : Fld := ⟨0x81180, 10, 16, 1000⟩
def PWR.UV_VCAP_MV : Fld := ⟨0x81184, 0, 16, 19000⟩
def PWR.UV_VBAT_MV : Fld := ⟨0x81184, 16, 16, 9600⟩
def PWR.STS_STATE : Fld := ⟨0x81188, 0, 4, 0⟩
def PWR.STS_STEP : Fld := ⟨0x81188, 4, 4, 0⟩
def PWR.STS_RAILS_ON : Fld := ⟨0x81188, 8, 12, 0⟩
def PWR.STS_PG : Fld := ⟨0x81188, 20, 12, 0⟩
def PWR.FAIL_RAIL : Fld := ⟨0x8118C, 0, 4, 0⟩
def PWR.FAIL_CAUSE : Fld := ⟨0x8118C, 4, 3, 0⟩
def PWR.FAIL_STEP : Fld := ⟨0x8118C, 7, 4, 0⟩
def PWR.FAIL_FRAME_FRAME : Fld := ⟨0x81190, 0, 32, 0⟩
def PWR.COUNTS_LOSSES : Fld := ⟨0x81194, 0, 16, 0⟩
def PWR.COUNTS_FORCED_DIS : Fld := ⟨0x81194, 16, 16, 0⟩
def PWR.BOOT_ATTEMPTS : Fld := ⟨0x81198, 0, 2, 2⟩
def PWR.BOOT_MINIMAL : Fld := ⟨0x81198, 2, 1, 0⟩

/-! ### PDM -/

def PDM.DOM_CTL_REQ (i : Nat) : Fld := ⟨0x82100 + 4 * i, 0, 2, 0⟩
def PDM.DOM_CTL_REACT (i : Nat) : Fld := ⟨0x82100 + 4 * i, 2, 2, 1⟩
def PDM.DOM_CTL_STATE (i : Nat) : Fld := ⟨0x82100 + 4 * i, 4, 2, 1⟩
def PDM.DOM_CTL_ACK_FAIL (i : Nat) : Fld := ⟨0x82100 + 4 * i, 6, 1, 0⟩
def PDM.ACK_TIMEOUT_US : Fld := ⟨0x821E0, 0, 8, 10⟩
def PDM.ON_LO_MASK : Fld := ⟨0x821E4, 0, 32, 0⟩
def PDM.ON_HI_MASK : Fld := ⟨0x821E8, 0, 20, 0⟩

/-! ### FLT -/

def FLT.FIRST_ID_ID : Fld := ⟨0x90100, 0, 9, 0⟩
def FLT.FIRST_ID_SEV : Fld := ⟨0x90100, 9, 3, 0⟩
def FLT.FIRST_ID_VALID : Fld := ⟨0x90100, 12, 1, 0⟩
def FLT.FIRST_ID_FIRST_SELF_CLEARED : Fld := ⟨0x90100, 13, 1, 0⟩
def FLT.FIRST_FRAME_LO_FRAME : Fld := ⟨0x90104, 0, 32, 0⟩
def FLT.FIRST_FRAME_HI_FRAME : Fld := ⟨0x90108, 0, 16, 0⟩
def FLT.FIRST_SNAP_DATA (i : Nat) : Fld := ⟨0x9010C + 4 * i, 0, 32, 0⟩
def FLT.OVF_OVF : Fld := ⟨0x9011C, 0, 1, 0⟩
def FLT.OVF_COUNT_COUNT : Fld := ⟨0x90120, 0, 8, 0⟩
def FLT.CTL_REARM : Fld := ⟨0x90124, 0, 1, 0⟩
def FLT.PINCTL_LEVEL : Fld := ⟨0x90128, 0, 1, 0⟩
def FLT.PINCTL_PULSE : Fld := ⟨0x90128, 1, 1, 0⟩
def FLT.PINCTL_HW_HOLD : Fld := ⟨0x90128, 2, 1, 0⟩
def FLT.PINCTL_PIN : Fld := ⟨0x90128, 3, 1, 0⟩
def FLT.SUMMARY_PAGES : Fld := ⟨0x9012C, 0, 6, 0⟩
def FLT.SUMMARY_HIGHEST : Fld := ⟨0x9012C, 8, 3, 0⟩
def FLT.SUMMARY_ANY : Fld := ⟨0x9012C, 11, 1, 0⟩
def FLT.PIN_COUNT_COUNT : Fld := ⟨0x90130, 0, 16, 0⟩

/-! ### FLS -/

def FLS.SRC_CFG_SEV (n : Nat) : Fld := ⟨0x91000 + 4096 * (n / 64) + 0x100 + 4 * (n % 64), 0, 3, srcSev n⟩
def FLS.SRC_CFG_ACT (n : Nat) : Fld := ⟨0x91000 + 4096 * (n / 64) + 0x100 + 4 * (n % 64), 4, 6, srcActReset n⟩
def FLS.SRC_CFG_MIN_SEV (n : Nat) : Fld := ⟨0x91000 + 4096 * (n / 64) + 0x100 + 4 * (n % 64), 10, 3, srcMin n⟩
def FLS.SRC_CFG_DANGEROUS (n : Nat) : Fld := ⟨0x91000 + 4096 * (n / 64) + 0x100 + 4 * (n % 64), 13, 1, b2n (srcDangerous n)⟩
def FLS.SRC_CFG_SEAL_PATH (n : Nat) : Fld := ⟨0x91000 + 4096 * (n / 64) + 0x100 + 4 * (n % 64), 14, 1, b2n (srcSealPath n)⟩
def FLS.SRC_CFG_COUNT (n : Nat) : Fld := ⟨0x91000 + 4096 * (n / 64) + 0x100 + 4 * (n % 64), 16, 8, 0⟩
/-- `STS` bit of source `n` (R427). -/
def FLS.STICKY (n : Nat) : Fld := ⟨0x91000 + 4096 * (n / 64) + 0x200 + 4 * (n % 64 / 32), n % 32, 1, 0⟩
/-- `LIVE` bit of source `n` (R427). -/
def FLS.LIVE (n : Nat) : Fld := ⟨0x91000 + 4096 * (n / 64) + 0x208 + 4 * (n % 64 / 32), n % 32, 1, 0⟩

/-! ### SAF -/

def SAF.FINJ_KEY_KEY : Fld := ⟨0x97100, 0, 16, 0⟩
def SAF.FINJ_KEY_OPEN : Fld := ⟨0x97100, 16, 1, 0⟩
def SAF.STS_SAFE : Fld := ⟨0x97104, 0, 1, 0⟩
def SAF.STS_SEAL_PATH_OK : Fld := ⟨0x97104, 1, 1, 0⟩
def SAF.STS_LOCKSTEP_OK : Fld := ⟨0x97104, 2, 1, 0⟩
def SAF.STS_CAUSE : Fld := ⟨0x97104, 3, 2, 0⟩
def SAF.STS_SOURCE : Fld := ⟨0x97104, 8, 9, 0⟩
def SAF.CTL_ENTER : Fld := ⟨0x97108, 0, 1, 0⟩
def SAF.CTL_EXIT : Fld := ⟨0x97108, 1, 1, 0⟩
def SAF.ST_PROGRESS_FRAME : Fld := ⟨0x9710C, 0, 17, 0⟩
def SAF.ST_PROGRESS_CYCLES : Fld := ⟨0x9710C, 17, 15, 0⟩
def SAF.ST_FAIL_ITEM : Fld := ⟨0x97110, 0, 4, 0⟩
def SAF.ST_FAIL_FAILS : Fld := ⟨0x97110, 16, 16, 0⟩
def SAF.ST_LAST_FRAME : Fld := ⟨0x97114, 0, 32, 0⟩
def SAF.SAFE_FRAME_FRAME : Fld := ⟨0x97118, 0, 32, 0⟩
def SAF.WDRAW_MAX_NS : Fld := ⟨0x9711C, 0, 16, 0⟩

/-! ### GQn -/

def GQ.CFG_SPILL_MIB (n : Nat) : Fld := ⟨0xA0100 + 4096 * n, 0, 9, 64⟩
def GQ.CFG_LINGER (n : Nat) : Fld := ⟨0xA0100 + 4096 * n, 16, 8, 5⟩
def GQ.SPILL_BASE_BASE_MIB (n : Nat) : Fld := ⟨0xA0104 + 4096 * n, 0, 20, 0⟩
def GQ.OP_READ (n : Nat) : Fld := ⟨0xA0108 + 4096 * n, 0, 1, 0⟩
def GQ.OP_MARK (n : Nat) : Fld := ⟨0xA0108 + 4096 * n, 1, 1, 0⟩
def GQ.OP_REWIND (n : Nat) : Fld := ⟨0xA0108 + 4096 * n, 2, 1, 0⟩
def GQ.OP_RELEASE (n : Nat) : Fld := ⟨0xA0108 + 4096 * n, 3, 1, 0⟩
def GQ.OP_FLUSH (n : Nat) : Fld := ⟨0xA0108 + 4096 * n, 4, 1, 0⟩
def GQ.STS_PACK (n : Nat) : Fld := ⟨0xA010C + 4096 * n, 0, 6, 0⟩
def GQ.STS_TAIL_FULL (n : Nat) : Fld := ⟨0xA010C + 4096 * n, 6, 1, 0⟩
def GQ.STS_LAST_OP_EMPTY (n : Nat) : Fld := ⟨0xA010C + 4096 * n, 7, 1, 0⟩
def GQ.WR_SEQ (n : Nat) : Fld := ⟨0xA0110 + 4096 * n, 0, 32, 0⟩
def GQ.RD_SEQ (n : Nat) : Fld := ⟨0xA0114 + 4096 * n, 0, 32, 0⟩
def GQ.MARK_SEQ (n : Nat) : Fld := ⟨0xA0118 + 4096 * n, 0, 32, 0⟩
def GQ.RELEASED_SEQ (n : Nat) : Fld := ⟨0xA011C + 4096 * n, 0, 32, 0⟩
def GQ.HELD_WORDS (n : Nat) : Fld := ⟨0xA0120 + 4096 * n, 0, 23, 0⟩
def GQ.CAPACITY_WORDS (n : Nat) : Fld := ⟨0xA0124 + 4096 * n, 0, 23, 0⟩
def GQ.WM_LO_PCT (n : Nat) : Fld := ⟨0xA0128 + 4096 * n, 0, 7, 50⟩
def GQ.WM_HI_PCT (n : Nat) : Fld := ⟨0xA0128 + 4096 * n, 8, 7, 80⟩
def GQ.WM_HYST (n : Nat) : Fld := ⟨0xA0128 + 4096 * n, 16, 16, 64⟩
def GQ.WM_CROSSINGS_HI (n : Nat) : Fld := ⟨0xA012C + 4096 * n, 0, 16, 0⟩
def GQ.WM_CROSSINGS_LO (n : Nat) : Fld := ⟨0xA012C + 4096 * n, 16, 16, 0⟩
def GQ.DROPS_COUNT (n : Nat) : Fld := ⟨0xA0130 + 4096 * n, 0, 32, 0⟩
def GQ.POISON_COUNT (n : Nat) : Fld := ⟨0xA0134 + 4096 * n, 0, 32, 0⟩
def GQ.TELEM_PERIOD (n : Nat) : Fld := ⟨0xA013C + 4096 * n, 0, 20, 50000⟩

/-! ### CAR -/

def CAR.BANK_STS_STATUS (i : Nat) : Fld := ⟨0xB0100 + 4 * i, 0, 9, 1⟩
def CAR.BANK_STS_MODE (i : Nat) : Fld := ⟨0xB0100 + 4 * i, 12, 2, 0⟩
def CAR.BANK_STS_OP (i : Nat) : Fld := ⟨0xB0100 + 4 * i, 14, 2, 0⟩
def CAR.ERASE_PROGRESS_PERMILLE (i : Nat) : Fld := ⟨0xB0108 + 4 * i, 0, 10, 0⟩
def CAR.ERASE_PROGRESS_BLOCK (i : Nat) : Fld := ⟨0xB0108 + 4 * i, 10, 8, 0⟩
def CAR.ERASE_PROGRESS_SUSPENDS (i : Nat) : Fld := ⟨0xB0108 + 4 * i, 18, 14, 0⟩
def CAR.BLKQ_IDX_BLOCK : Fld := ⟨0xB0110, 0, 8, 0⟩
def CAR.BLKQ_IDX_BANK : Fld := ⟨0xB0110, 8, 1, 0⟩
def CAR.BLKQ_TALLY : Fld := ⟨0xB0114, 0, 1, 0⟩
def CAR.BLKQ_PROTECTED : Fld := ⟨0xB0114, 1, 1, 0⟩
def CAR.BLKQ_ERASE_INCOMPLETE : Fld := ⟨0xB0114, 2, 1, 0⟩
def CAR.BLKQ_UNRELIABLE : Fld := ⟨0xB0114, 3, 1, 0⟩
def CAR.BLKQ_REMAPPED : Fld := ⟨0xB0114, 4, 1, 0⟩
def CAR.BLKQ_SPARE : Fld := ⟨0xB0114, 5, 4, 0⟩
def CAR.BLKQ_BAD_NO_SPARE : Fld := ⟨0xB0114, 9, 1, 0⟩
def CAR.BLKQ_VALID : Fld := ⟨0xB0114, 31, 1, 0⟩
def CAR.ECC_CE : Fld := ⟨0xB0118, 0, 24, 0⟩
def CAR.ECC_UE : Fld := ⟨0xB0118, 24, 8, 0⟩
def CAR.TALLY_DIFF : Fld := ⟨0xB011C, 0, 16, 0⟩
def CAR.TALLY_ADDR_ADDR : Fld := ⟨0xB0120, 0, 25, 0⟩
def CAR.OPT_STS_A_OK : Fld := ⟨0xB0124, 0, 1, 0⟩
def CAR.OPT_STS_B_OK : Fld := ⟨0xB0124, 1, 1, 0⟩
def CAR.OPT_STS_SEL : Fld := ⟨0xB0124, 2, 1, 0⟩
def CAR.OPT_STS_DEFAULTED : Fld := ⟨0xB0124, 3, 1, 0⟩
def CAR.OPT_STS_SEQ : Fld := ⟨0xB0124, 16, 16, 0⟩
def CAR.SPARES_USED0 : Fld := ⟨0xB0128, 0, 4, 0⟩
def CAR.SPARES_USED1 : Fld := ⟨0xB0128, 4, 4, 0⟩
def CAR.SPARES_GROWN : Fld := ⟨0xB0128, 8, 8, 0⟩
def CAR.FETCH_TRAPS_COUNT : Fld := ⟨0xB012C, 0, 16, 0⟩

/-! ### UPD -/

def UPD.SLOT_A_STATE (i : Nat) : Fld := ⟨0xB1100 + 4 * i, 0, 2, 0⟩
def UPD.SLOT_B_STATE (i : Nat) : Fld := ⟨0xB1100 + 4 * i, 2, 2, 0⟩
def UPD.SLOT_CONFIRMED (i : Nat) : Fld := ⟨0xB1100 + 4 * i, 4, 1, 0⟩
def UPD.SLOT_RUNNING (i : Nat) : Fld := ⟨0xB1100 + 4 * i, 5, 1, 0⟩
def UPD.SLOT_PENDING (i : Nat) : Fld := ⟨0xB1100 + 4 * i, 6, 1, 0⟩
def UPD.SLOT_IL (i : Nat) : Fld := ⟨0xB1100 + 4 * i, 16, 16, 0⟩
def UPD.VER_A_VERSION (i : Nat) : Fld := ⟨0xB1110 + 4 * i, 0, 32, 0⟩
def UPD.VER_B_VERSION (i : Nat) : Fld := ⟨0xB1120 + 4 * i, 0, 32, 0⟩
def UPD.ACTIVATE_COMPONENT : Fld := ⟨0xB1130, 0, 2, 0⟩
def UPD.ACTIVATE_SLOT : Fld := ⟨0xB1130, 2, 1, 0⟩
def UPD.CTL_CONFIRM : Fld := ⟨0xB1134, 0, 1, 0⟩
def UPD.CTL_ACCEPT_DEFAULTS : Fld := ⟨0xB1134, 1, 1, 0⟩
def UPD.CTL_REVERT : Fld := ⟨0xB1134, 2, 1, 0⟩
def UPD.CTL_RESTART : Fld := ⟨0xB1134, 3, 1, 0⟩
def UPD.STS_RESULT : Fld := ⟨0xB1138, 0, 3, 0⟩
def UPD.STS_SETTINGS_DEFAULTED : Fld := ⟨0xB1138, 3, 1, 0⟩
def UPD.STS_REVERTED : Fld := ⟨0xB1138, 4, 1, 0⟩
def UPD.STS_REJECTED : Fld := ⟨0xB1138, 5, 1, 0⟩
def UPD.STS_TALLY : Fld := ⟨0xB1138, 6, 6, 0⟩
def UPD.CFG_AUTO_EN : Fld := ⟨0xB113C, 0, 1, 0⟩
def UPD.CFG_AUTO_FRAMES : Fld := ⟨0xB113C, 8, 24, 3000000⟩
def UPD.DL_COMPONENT : Fld := ⟨0xB1140, 0, 2, 0⟩
def UPD.DL_ACTIVE : Fld := ⟨0xB1140, 2, 1, 0⟩
def UPD.DL_KIB : Fld := ⟨0xB1140, 3, 29, 0⟩
def UPD.LOG_BLOCK : Fld := ⟨0xB1144, 0, 1, 0⟩
def UPD.LOG_FREE : Fld := ⟨0xB1144, 1, 12, 0⟩

/-! ### SET -/

def SET.AREA_IN_USE : Fld := ⟨0xB2100, 0, 1, 0⟩
def SET.AREA_FREE_KIB : Fld := ⟨0xB2100, 1, 12, 0⟩
def SET.AREA_SEQ : Fld := ⟨0xB2100, 16, 16, 0⟩
def SET.FMT_CURRENT : Fld := ⟨0xB2104, 0, 8, 0⟩
def SET.FMT_OLDEST : Fld := ⟨0xB2104, 8, 8, 0⟩
def SET.FMT_RETIRING : Fld := ⟨0xB2104, 16, 1, 0⟩
def SET.COUNTS_RECORDS : Fld := ⟨0xB2108, 0, 24, 0⟩
def SET.COUNTS_TORN : Fld := ⟨0xB2108, 24, 8, 0⟩

end Reg

end Sys2Proof.Machine
end

