-- ==== Sys2Proof/Machine/RegTable.lean ====
section
/-! DEFINITION. The register tables: for every page the fields it holds, with the access code, the update
class and the values a write may leave (R67 to R72, R505). -/

namespace Sys2Proof.Machine

/-- The fields of the common header that a register write or a block reset reaches (R83). -/
def headerFields (p : Nat) : List FDef :=
  [⟨Reg.BLKSTS_ABORTING p, .ro, .none, 0, 1, false, false⟩, ⟨Reg.BLKSTS_ABORT_DONE p, .ro, .none, 0, 1, false, false⟩,
   ⟨Reg.BLKSTS_FROZEN p, .ro, .none, 0, 1, false, false⟩,
   ⟨Reg.BLKCTL_ENABLE p, .rw, .l, 0, 1, false, false⟩, ⟨Reg.BLKCTL_FREEZE p, .rw, .l, 0, 1, false, false⟩,
   ⟨Reg.BLKWERR_STATIC p, .w1c, .none, 0, 1, false, false⟩, ⟨Reg.BLKWERR_LOCKED p, .w1c, .none, 0, 1, false, false⟩,
   ⟨Reg.BLKWERR_RANGE p, .w1c, .none, 0, 1, false, false⟩, ⟨Reg.BLKWERR_BUSY p, .w1c, .none, 0, 1, false, false⟩,
   ⟨Reg.BLKWERR_OFFSET p, .ros, .none, 0, 4095, false, false⟩, ⟨Reg.BLKWERR_SOURCE p, .ros, .none, 0, 7, false, false⟩,
   ⟨Reg.EVT_LIVE p, .ro, .none, 0, 4294967295, false, false⟩,
   ⟨Reg.EVT_ROUTE_VECTOR p, .rw, .l, 0, 127, false, false⟩, ⟨Reg.EVT_ROUTE_TO_HOST p, .rw, .l, 0, 1, false, false⟩,
   ⟨Reg.EVT_ROUTE_TO_GAFFER p, .rw, .l, 0, 1, false, false⟩,
   ⟨Reg.LOCK_LOCK p, .w1s, .none, 0, 1, false, false⟩,
   ⟨Reg.FINJ_SRC p, .rw, .l, 0, 63, false, false⟩, ⟨Reg.FINJ_MODE p, .rw, .l, 0, 2, false, false⟩,
   ⟨Reg.FINJ_ACTIVE p, .ro, .none, 0, 1, false, false⟩, ⟨Reg.FRAME_STAMP_FRAME p, .ro, .none, 0, 4294967295, false, false⟩] ++
  (List.range 32).map (fun k => ⟨Reg.EVT_STS p k, .w1c, .none, 0, 1, false, false⟩) ++
  (List.range 32).map (fun k => ⟨Reg.EVT_EN p k, .rw, .l, 0, 1, false, false⟩)

/-- The fields of SYS. -/
def sysFields : List FDef :=
  [⟨Reg.SYS.PERSIST_OK, .ro, .none, 0, 1, false, false⟩,
    ⟨Reg.SYS.PERSIST_BOOT, .ro, .none, 0, 1, false, false⟩,
    ⟨Reg.SYS.PERSIST_RECOUNT, .ro, .none, 0, 1, false, false⟩,
    ⟨Reg.SYS.PERSIST_BUDGET, .ro, .none, 0, 1, false, false⟩,
    ⟨Reg.SYS.PERSIST_FAULT, .ro, .none, 0, 1, false, false⟩,
    ⟨Reg.SYS.PERSIST_SAFE, .ro, .none, 0, 1, false, false⟩,
    ⟨Reg.SYS.PERSIST_CAPACITY, .ro, .none, 0, 1, false, false⟩,
    ⟨Reg.SYS.PERSIST_IN_DOUBT, .ro, .none, 0, 1, false, false⟩,
    ⟨Reg.SYS.PERSIST_FENCED, .ro, .none, 0, 1, false, false⟩,
    ⟨Reg.SYS.PERSIST_SCOPE, .ro, .none, 0, 3, false, false⟩,
    ⟨Reg.SYS.PERSIST_DOMAIN_OK, .ro, .none, 0, 1, false, false⟩,
    ⟨Reg.SYS.PERSIST_TWIN_DEGRADED, .ro, .none, 0, 1, false, false⟩,
    ⟨Reg.SYS.PERSIST_CHG_FRAME, .ro, .none, 0, 4294967295, false, false⟩,
    ⟨Reg.SYS.PERSIST_WDRAW_COUNT, .ros, .none, 0, 65535, false, false⟩,
    ⟨Reg.SYS.PERSIST_WDRAW_LAST_REASONS, .ros, .none, 0, 255, false, false⟩,
    ⟨Reg.SYS.CAP_ACK_ACK, .w1s, .l, 0, 1, false, false⟩,
    ⟨Reg.SYS.CAP_ACK_EXPOSED_GIB, .ro, .none, 0, 65535, false, true⟩,
    ⟨Reg.SYS.CAPS_HP_PRESENT, .ro, .none, 0, 15, false, true⟩,
    ⟨Reg.SYS.CAPS_HP_X16, .ro, .none, 0, 15, false, true⟩,
    ⟨Reg.SYS.CAPS_DRAM_GROUPS, .ro, .none, 0, 15, false, true⟩,
    ⟨Reg.SYS.CAPS_NAND_GROUPS, .ro, .none, 0, 255, false, true⟩,
    ⟨Reg.SYS.CAPS_SPARE_RANKS, .ro, .none, 0, 15, false, true⟩,
    ⟨Reg.SYS.CAPS_BATTERY, .ro, .none, 0, 1, false, true⟩,
    ⟨Reg.SYS.CAPS_CAP_BANK, .ro, .none, 0, 1, false, true⟩,
    ⟨Reg.SYS.CAPS_TWIN, .ro, .none, 0, 1, false, true⟩,
    ⟨Reg.SYS.CAPS_RING, .ro, .none, 0, 1, false, true⟩,
    ⟨Reg.SYS.DARKWRITES_COUNT, .ros, .none, 0, 4294967295, false, false⟩,
    ⟨Reg.SYS.DARK_LAST_PAGE, .ros, .none, 0, 4095, false, false⟩,
    ⟨Reg.SYS.DARK_LAST_OFFSET, .ros, .none, 0, 4095, false, false⟩,
    ⟨Reg.SYS.DARK_LAST_SOURCE, .ros, .none, 0, 7, false, false⟩,
    ⟨Reg.SYS.MGMT_PORT_PORT, .rw, .l, 0, 3, false, false⟩,
    ⟨Reg.SYS.FOREIGN_WR_COUNT, .ros, .none, 0, 16777215, false, false⟩,
    ⟨Reg.SYS.FOREIGN_WR_PORT, .ros, .none, 0, 3, false, false⟩,
    ⟨Reg.SYS.BOOT_STAGE, .ro, .none, 0, 15, false, false⟩,
    ⟨Reg.SYS.BOOT_PROVISIONAL, .ro, .none, 0, 1, false, false⟩,
    ⟨Reg.SYS.BOOT_COLD, .ro, .none, 0, 1, false, false⟩,
    ⟨Reg.SYS.BOOT_MS_ADMIT, .ro, .none, 0, 65535, false, false⟩,
    ⟨Reg.SYS.BOOT_MS_IMAGE_S, .ro, .none, 0, 65535, false, false⟩]

/-- The fields of FRM. -/
def frmFields : List FDef :=
  [⟨Reg.FRM.COUNT_LO_COUNT, .ro, .none, 0, 4294967295, false, true⟩,
    ⟨Reg.FRM.COUNT_HI_COUNT, .ro, .none, 0, 65535, false, true⟩,
    ⟨Reg.FRM.PHASE_PHASE, .ro, .none, 0, 65535, false, false⟩,
    ⟨Reg.FRM.SRC_MODE, .rw, .s, 0, 1, false, false⟩,
    ⟨Reg.FRM.SRC_STATE, .ro, .none, 0, 3, false, false⟩,
    ⟨Reg.FRM.SRC_JUMPS, .ros, .none, 0, 65535, false, false⟩,
    ⟨Reg.FRM.SYNC_PHASE_ERR, .ro, .none, 0, 65535, false, false⟩,
    ⟨Reg.FRM.SYNC_MISSED, .ro, .none, 0, 15, false, false⟩,
    ⟨Reg.FRM.SYNC_LOCK_RUN, .ro, .none, 0, 4095, false, false⟩,
    ⟨Reg.FRM.RING_DELAY_DELAY, .ro, .none, 0, 65535, false, false⟩,
    ⟨Reg.FRM.SUM_DRAM_SUM, .ro, .none, 0, 2047, false, false⟩,
    ⟨Reg.FRM.SUM_NAND_SUM, .ro, .none, 0, 2047, false, false⟩] ++
  ((List.range 16).flatMap fun i =>
   [⟨Reg.FRM.BUDGET_DRAM_SHARE i, .rw, .f, 0, 1023, false, false⟩,
    ⟨Reg.FRM.BUDGET_NAND_SHARE i, .rw, .f, 0, 1023, false, false⟩,
    ⟨Reg.FRM.OVERRUN_COUNT i, .ros, .none, 0, 65535, false, false⟩,
    ⟨Reg.FRM.OVERRUN_WINDOW i, .ro, .none, 0, 127, false, false⟩])

/-- The fields of CLK. -/
def clkFields : List FDef :=
  [⟨Reg.CLK.PLL_STS_LOCKED, .ro, .none, 0, 4095, false, false⟩,
    ⟨Reg.CLK.PLL_LOST_LOST, .w1c, .none, 0, 4095, false, false⟩,
    ⟨Reg.CLK.LOCK_LOSSES_COUNT, .ros, .none, 0, 65535, false, false⟩,
    ⟨Reg.CLK.XTAL_PPM_X10, .ro, .none, 0, 65535, false, false⟩,
    ⟨Reg.CLK.XTAL_FRAME_FRAME, .ro, .none, 0, 4294967295, false, false⟩]

/-- The fields of IRQ. -/
def irqFields : List FDef :=
  ((List.range 4).flatMap fun i =>
   [⟨Reg.IRQ.LEVEL_LEVEL i, .ro, .none, 0, 4294967295, false, false⟩]) ++
  [⟨Reg.IRQ.HOLDOFF_US, .rw, .f, 0, 65535, false, false⟩,
    ⟨Reg.IRQ.SENT_COUNT, .ros, .none, 0, 4294967295, false, false⟩,
    ⟨Reg.IRQ.MERGED_COUNT, .ros, .none, 0, 4294967295, false, false⟩,
    ⟨Reg.IRQ.FIND_VECTOR, .rw, .l, 0, 127, false, false⟩,
    ⟨Reg.IRQ.FIND_START, .rw, .l, 0, 4095, false, false⟩,
    ⟨Reg.IRQ.FIND_RES_PAGE, .ro, .none, 0, 4095, false, false⟩,
    ⟨Reg.IRQ.FIND_RES_DONE, .ro, .none, 0, 1, false, false⟩,
    ⟨Reg.IRQ.FIND_RES_FOUND, .ro, .none, 0, 1, false, false⟩]

/-- The fields of HPTn. -/
def hptFields (n : Nat) : List FDef :=
  [⟨Reg.HPT.LINK_WIDTH n, .ro, .none, 0, 3, false, false⟩,
    ⟨Reg.HPT.LINK_RATE n, .ro, .none, 0, 3, false, false⟩,
    ⟨Reg.HPT.LINK_DEGRADED n, .ro, .none, 0, 1, false, false⟩,
    ⟨Reg.HPT.CTL_VIRAL_EN n, .rw, .f, 0, 1, false, false⟩,
    ⟨Reg.HPT.CTL_MEDIA_STAGE n, .rw, .l, 0, 1, true, false⟩,
    ⟨Reg.HPT.STS_CFG_READY n, .ro, .none, 0, 1, false, false⟩,
    ⟨Reg.HPT.STS_MEDIA n, .ro, .none, 0, 3, false, false⟩,
    ⟨Reg.HPT.STS_FENCED n, .ro, .none, 0, 1, false, false⟩,
    ⟨Reg.HPT.STS_READ_HOLD n, .ro, .none, 0, 1, false, false⟩,
    ⟨Reg.HPT.STS_VIRAL_SENT n, .ro, .none, 0, 1, false, false⟩,
    ⟨Reg.HPT.STS_VIRAL_RCVD n, .ro, .none, 0, 1, false, false⟩,
    ⟨Reg.HPT.CTO_REQ_US n, .ro, .none, 0, 65535, false, false⟩,
    ⟨Reg.HPT.DROPPED_WR_COUNT n, .ros, .none, 0, 4294967295, false, false⟩,
    ⟨Reg.HPT.POISON_RD_COUNT n, .ros, .none, 0, 4294967295, false, false⟩,
    ⟨Reg.HPT.GPF_PH1 n, .ros, .none, 0, 65535, false, false⟩,
    ⟨Reg.HPT.GPF_PH2 n, .ros, .none, 0, 65535, false, false⟩,
    ⟨Reg.HPT.VEC_SEL_BASE n, .rw, .f, 0, 127, false, false⟩,
    ⟨Reg.HPT.VEC_SEL_COUNT n, .rw, .f, 0, 255, false, false⟩,
    ⟨Reg.HPT.HDM_STS_COMMITTED n, .ro, .none, 0, 15, false, false⟩,
    ⟨Reg.HPT.HDM_STS_REFUSED n, .ros, .none, 0, 15, false, false⟩,
    ⟨Reg.HPT.BW_RD_LINES n, .ro, .none, 0, 16777215, false, false⟩,
    ⟨Reg.HPT.BW_WR_LINES n, .ro, .none, 0, 16777215, false, false⟩]

/-- The fields of QOS. -/
def qosFields : List FDef :=
  ((List.range 10).flatMap fun i =>
   [⟨Reg.QOS.REQ_TARGET_NS i, .rw, .f, 200, 65535, false, false⟩,
    ⟨Reg.QOS.REQ_CLASS i, .rw, .f, 0, 2, false, false⟩,
    ⟨Reg.QOS.MISSES_COUNT i, .ros, .none, 0, 4294967295, false, false⟩])

/-- The fields of DMC. -/
def dmcFields : List FDef :=
  [⟨Reg.DMC.CFG_X8, .ro, .none, 0, 1, false, true⟩,
    ⟨Reg.DMC.CFG_DENSITY, .ro, .none, 0, 1, false, true⟩,
    ⟨Reg.DMC.CFG_RATE, .rw, .s, 64, 128, true, false⟩,
    ⟨Reg.DMC.MAP_CHK_OK, .ro, .none, 0, 1, false, false⟩,
    ⟨Reg.DMC.MAP_CHK_CODE, .ro, .none, 0, 7, false, false⟩,
    ⟨Reg.DMC.MAP_CHK_REGION, .ro, .none, 0, 3, false, false⟩,
    ⟨Reg.DMC.MAP_CHK_FIELD, .ro, .none, 0, 15, false, false⟩,
    ⟨Reg.DMC.MAP_CRC_CRC, .ro, .none, 0, 4294967295, false, true⟩,
    ⟨Reg.DMC.PASR_REQ, .rw, .l, 0, 255, false, false⟩,
    ⟨Reg.DMC.PASR_STATE, .ro, .none, 0, 255, false, false⟩,
    ⟨Reg.DMC.XLATE_LO_ADDR, .rw, .l, 0, 4294967295, false, false⟩,
    ⟨Reg.DMC.XLATE_HI_ADDR, .rw, .l, 0, 3, false, false⟩,
    ⟨Reg.DMC.XLATE_RES_CH, .ro, .none, 0, 15, false, false⟩,
    ⟨Reg.DMC.XLATE_RES_SUB, .ro, .none, 0, 1, false, false⟩,
    ⟨Reg.DMC.XLATE_RES_RANK, .ro, .none, 0, 3, false, false⟩,
    ⟨Reg.DMC.XLATE_RES_BG, .ro, .none, 0, 7, false, false⟩,
    ⟨Reg.DMC.XLATE_RES_BANK, .ro, .none, 0, 3, false, false⟩,
    ⟨Reg.DMC.XLATE_RES_COL, .ro, .none, 0, 127, false, false⟩,
    ⟨Reg.DMC.XLATE_RES_VALID, .ro, .none, 0, 1, false, false⟩,
    ⟨Reg.DMC.XLATE_RES_OUT_OF_RANGE, .ro, .none, 0, 1, false, false⟩,
    ⟨Reg.DMC.XLATE_ROW_ROW, .ro, .none, 0, 131071, false, false⟩] ++
  ((List.range 12).flatMap fun i =>
   [⟨Reg.DMC.HASH_LO_MASK_LO i, .rw, .s, 0, 4294967295, false, false⟩,
    ⟨Reg.DMC.HASH_HI_MASK_HI i, .rw, .s, 0, 3, false, false⟩,
    ⟨Reg.DMC.HASH_HI_HOME i, .rw, .s, 6, 39, false, false⟩]) ++
  ((List.range 4).flatMap fun i =>
   [⟨Reg.DMC.REGION_A_BASE_GIB i, .rw, .s, 0, 2047, false, false⟩,
    ⟨Reg.DMC.REGION_A_SIZE_LOG2 i, .rw, .s, 30, 40, false, false⟩,
    ⟨Reg.DMC.REGION_A_VALID i, .rw, .s, 0, 1, false, false⟩,
    ⟨Reg.DMC.REGION_B_CH_BASE i, .rw, .s, 0, 15, false, false⟩,
    ⟨Reg.DMC.REGION_B_CH_BITS i, .rw, .s, 0, 4, false, false⟩,
    ⟨Reg.DMC.REGION_B_RANK_BASE i, .rw, .s, 0, 3, false, false⟩,
    ⟨Reg.DMC.REGION_B_RANK_BITS i, .rw, .s, 0, 2, false, false⟩])

/-- The fields of DCHn. -/
def dchFields (n : Nat) : List FDef :=
  [⟨Reg.DCH.STS_RANKS n, .ro, .none, 0, 15, false, true⟩,
    ⟨Reg.DCH.STS_MODE n, .ro, .none, 0, 3, false, false⟩,
    ⟨Reg.DCH.STS_HOT n, .ro, .none, 0, 1, false, false⟩,
    ⟨Reg.DCH.STS_OWED n, .ro, .none, 0, 15, false, false⟩,
    ⟨Reg.DCH.SCHED_WQ_HI n, .rw, .f, 0, 127, false, false⟩,
    ⟨Reg.DCH.SCHED_WQ_LO n, .rw, .f, 0, 127, false, false⟩,
    ⟨Reg.DCH.SCHED_BATCH_MIN n, .rw, .f, 0, 63, false, false⟩,
    ⟨Reg.DCH.SCHED_BATCH_MAX n, .rw, .f, 0, 63, false, false⟩,
    ⟨Reg.DCH.PAGE_PAGE_IDLE n, .rw, .f, 0, 65535, false, false⟩,
    ⟨Reg.DCH.PAGE_HIT_CAP n, .rw, .f, 1, 255, false, false⟩,
    ⟨Reg.DCH.PD_PD_TIMER n, .rw, .f, 0, 65535, false, false⟩,
    ⟨Reg.DCH.PD_PD_EN n, .rw, .f, 0, 1, false, false⟩,
    ⟨Reg.DCH.REF_TREFI_NS n, .ro, .none, 0, 4095, false, false⟩,
    ⟨Reg.DCH.REF_TRFC_NS n, .rw, .s, 0, 4095, false, true⟩,
    ⟨Reg.DCH.TIMING_TRC_NS n, .ro, .none, 0, 255, false, false⟩,
    ⟨Reg.DCH.TIMING_TWTRL_NS n, .ro, .none, 0, 255, false, false⟩,
    ⟨Reg.DCH.TIMING_TXP_NS n, .ro, .none, 0, 255, false, false⟩,
    ⟨Reg.DCH.REF_CNT_FORCED n, .ros, .none, 0, 65535, false, false⟩,
    ⟨Reg.DCH.REF_CNT_PULLED n, .ros, .none, 0, 65535, false, false⟩,
    ⟨Reg.DCH.FWD_CNT_COUNT n, .ros, .none, 0, 4294967295, false, false⟩,
    ⟨Reg.DCH.CRC_CNT_RETRIES n, .ros, .none, 0, 65535, false, false⟩,
    ⟨Reg.DCH.CRC_CNT_EXHAUSTED n, .ros, .none, 0, 65535, false, false⟩,
    ⟨Reg.DCH.QDEPTH_RD0 n, .ro, .none, 0, 255, false, false⟩,
    ⟨Reg.DCH.QDEPTH_RD1 n, .ro, .none, 0, 255, false, false⟩,
    ⟨Reg.DCH.QDEPTH_WR0 n, .ro, .none, 0, 255, false, false⟩,
    ⟨Reg.DCH.QDEPTH_WR1 n, .ro, .none, 0, 255, false, false⟩,
    ⟨Reg.DCH.TEMP_TEMP n, .ro, .none, 0, 255, false, false⟩,
    ⟨Reg.DCH.TEMP_HOT n, .ro, .none, 0, 1, false, false⟩]

/-- The fields of SPR. -/
def sprFields : List FDef :=
  [⟨Reg.SPR.CFG_CE_LIMIT, .rw, .f, 1, 4095, false, false⟩,
    ⟨Reg.SPR.CFG_AUTO_MIGRATE, .rw, .f, 0, 1, false, false⟩,
    ⟨Reg.SPR.RATE_MBS, .rw, .f, 1000, 32000, false, false⟩,
    ⟨Reg.SPR.TRAIN_DRIFT_LIM, .rw, .f, 1, 255, false, false⟩,
    ⟨Reg.SPR.TRAIN_RETRAIN_MAX, .rw, .f, 0, 255, false, false⟩,
    ⟨Reg.SPR.MIG_STS_ACTIVE, .ro, .none, 0, 1, false, false⟩,
    ⟨Reg.SPR.MIG_STS_SRC, .ro, .none, 0, 63, false, false⟩,
    ⟨Reg.SPR.MIG_STS_DST, .ro, .none, 0, 7, false, false⟩,
    ⟨Reg.SPR.MIG_STS_QUEUED, .ro, .none, 0, 15, false, false⟩,
    ⟨Reg.SPR.MIG_PTR_INDEX, .ro, .none, 0, 4294967295, false, false⟩,
    ⟨Reg.SPR.MIG_ETA_FRAMES, .ro, .none, 0, 16777215, false, false⟩,
    ⟨Reg.SPR.REPAIR_TWIN, .ros, .none, 0, 65535, false, false⟩,
    ⟨Reg.SPR.REPAIR_SEALED, .ros, .none, 0, 65535, false, false⟩,
    ⟨Reg.SPR.POISONED_COUNT, .ros, .none, 0, 4294967295, false, false⟩,
    ⟨Reg.SPR.LAST_UE_LO_ADDR, .ros, .none, 0, 4294967295, false, false⟩,
    ⟨Reg.SPR.LAST_UE_HI_ADDR, .ros, .none, 0, 3, false, false⟩,
    ⟨Reg.SPR.LAST_UE_HI_FINDER, .ros, .none, 0, 7, false, false⟩] ++
  ((List.range 8).flatMap fun i =>
   [⟨Reg.SPR.SPARE_CH i, .rw, .s, 0, 15, true, false⟩,
    ⟨Reg.SPR.SPARE_RANK i, .rw, .s, 0, 3, true, false⟩,
    ⟨Reg.SPR.SPARE_VALID i, .rw, .s, 0, 1, true, false⟩,
    ⟨Reg.SPR.SPARE_TARGET_CH i, .ro, .none, 0, 15, false, false⟩,
    ⟨Reg.SPR.SPARE_TARGET_RANK i, .ro, .none, 0, 3, false, false⟩,
    ⟨Reg.SPR.SPARE_IN_USE i, .ro, .none, 0, 1, false, false⟩]) ++
  ((List.range 64).flatMap fun i =>
   [⟨Reg.SPR.RANK_STATE i, .ro, .none, 0, 7, false, true⟩,
    ⟨Reg.SPR.RANK_MARGINAL i, .ro, .none, 0, 1, false, false⟩,
    ⟨Reg.SPR.RANK_CE_WIN i, .ro, .none, 0, 4095, false, false⟩,
    ⟨Reg.SPR.RANK_UE i, .ros, .none, 0, 255, false, false⟩,
    ⟨Reg.SPR.RANK_RETRAINS i, .ros, .none, 0, 255, false, false⟩])

/-- The fields of SCR. -/
def scrFields : List FDef :=
  [⟨Reg.SCR.PERIOD_HOURS, .rw, .f, 1, 720, false, false⟩,
    ⟨Reg.SCR.CFG_MARGINAL_MULT, .rw, .f, 1, 15, false, false⟩,
    ⟨Reg.SCR.CFG_ECS_LIMIT, .rw, .f, 0, 65535, false, false⟩,
    ⟨Reg.SCR.RATE_LINES, .ro, .none, 0, 65535, false, true⟩,
    ⟨Reg.SCR.PROGRESS_PERMILLE, .ro, .none, 0, 1023, false, false⟩,
    ⟨Reg.SCR.PROGRESS_PASSES, .ros, .none, 0, 4194303, false, false⟩,
    ⟨Reg.SCR.FOUND_CE, .ros, .none, 0, 16777215, false, false⟩,
    ⟨Reg.SCR.FOUND_UE, .ros, .none, 0, 255, false, false⟩,
    ⟨Reg.SCR.LAST_PASS_FRAME, .ro, .none, 0, 4294967295, false, false⟩]

/-- The fields of TXN. -/
def txnFields : List FDef :=
  [⟨Reg.TXN.UNDO_CFG_SIZE_GIB, .rw, .s, 0, 16, true, false⟩,
    ⟨Reg.TXN.UNDO_CFG_BASE_GIB, .rw, .s, 0, 2047, true, false⟩,
    ⟨Reg.TXN.CTX_LIMIT_UNITS, .rw, .f, 1, 1024, false, false⟩,
    ⟨Reg.TXN.COMMIT_CTX, .rw, .l, 0, 63, false, false⟩,
    ⟨Reg.TXN.UNDO_USE_SLABS, .ro, .none, 0, 524287, false, false⟩,
    ⟨Reg.TXN.HOLD_USE_ENTRIES, .ro, .none, 0, 131071, false, false⟩,
    ⟨Reg.TXN.PAIR_USE_PAIRS, .ro, .none, 0, 524287, false, false⟩,
    ⟨Reg.TXN.PAIR_MAX_PAIRS, .ro, .none, 0, 524287, false, true⟩,
    ⟨Reg.TXN.HOLD_PEAK_ENTRIES, .ros, .none, 0, 131071, false, false⟩,
    ⟨Reg.TXN.REPLAY_CTX, .ro, .none, 0, 63, false, false⟩,
    ⟨Reg.TXN.REPLAY_ACTIVE, .ro, .none, 0, 1, false, false⟩,
    ⟨Reg.TXN.REPLAY_QUEUED, .ro, .none, 0, 127, false, false⟩,
    ⟨Reg.TXN.COMMITS_COUNT, .ros, .none, 0, 4294967295, false, false⟩,
    ⟨Reg.TXN.ABORTS_COUNT, .ros, .none, 0, 4294967295, false, false⟩]

/-- The fields of TXCn. -/
def txcFields (n : Nat) : List FDef :=
  ((List.range 16).flatMap fun i =>
   [⟨Reg.TXC.CTX_CTL_OPEN n i, .w1s, .l, 0, 1, false, false⟩,
    ⟨Reg.TXC.CTX_CTL_ABORT n i, .w1s, .l, 0, 1, false, false⟩,
    ⟨Reg.TXC.CTX_TAG_TAG n i, .rw, .l, 0, 4194303, false, false⟩,
    ⟨Reg.TXC.CTX_TAG_PARTS n i, .rw, .l, 2, 512, false, false⟩,
    ⟨Reg.TXC.CTX_STS_STATE n i, .ro, .none, 0, 15, false, false⟩,
    ⟨Reg.TXC.CTX_STS_CLEARING n i, .ro, .none, 0, 1, false, false⟩,
    ⟨Reg.TXC.CTX_STS_HOLD_FULL n i, .ros, .none, 0, 1, false, false⟩,
    ⟨Reg.TXC.CTX_STS_LIMIT n i, .ros, .none, 0, 1, false, false⟩,
    ⟨Reg.TXC.CTX_STS_UNDO_LOST n i, .ros, .none, 0, 1, false, false⟩,
    ⟨Reg.TXC.CTX_STS_LATE_WR n i, .ros, .none, 0, 1, false, false⟩,
    ⟨Reg.TXC.CTX_STS_TWIN_DEGRADED n i, .ros, .none, 0, 1, false, false⟩,
    ⟨Reg.TXC.CTX_STS_ROLLED_BACK n i, .ros, .none, 0, 1, false, false⟩,
    ⟨Reg.TXC.CTX_STS_FORCED n i, .ros, .none, 0, 1, false, false⟩,
    ⟨Reg.TXC.CTX_STS_HOLD_WAIT n i, .ro, .none, 0, 1, false, false⟩,
    ⟨Reg.TXC.CTX_STS_RESULT n i, .ro, .none, 0, 7, false, false⟩,
    ⟨Reg.TXC.CTX_FRAME_FRAME n i, .ro, .none, 0, 4294967295, false, false⟩,
    ⟨Reg.TXC.CTX_LINES_LINES n i, .ro, .none, 0, 8388607, false, false⟩,
    ⟨Reg.TXC.CTX_HELD_GRANULES n i, .ro, .none, 0, 131071, false, false⟩])

/-- The fields of NFC. -/
def nfcFields : List FDef :=
  [⟨Reg.NFC.GEOM_A_PAGES, .ro, .none, 0, 2047, false, true⟩,
    ⟨Reg.NFC.GEOM_A_BLOCKS, .ro, .none, 0, 16383, false, true⟩,
    ⟨Reg.NFC.GEOM_B_DIES, .ro, .none, 0, 31, false, true⟩,
    ⟨Reg.NFC.GEOM_B_CES, .ro, .none, 0, 15, false, true⟩,
    ⟨Reg.NFC.GEOM_B_PLANES, .ro, .none, 0, 15, false, true⟩,
    ⟨Reg.NFC.CFG_RATE, .rw, .s, 8, 36, true, false⟩,
    ⟨Reg.NFC.RETAIN_HOURS, .rw, .f, 24, 65535, false, false⟩,
    ⟨Reg.NFC.WEAR_ENDURANCE_K, .rw, .s, 0, 65535, true, false⟩,
    ⟨Reg.NFC.WEAR_STATIC_DELTA, .rw, .f, 0, 65535, false, false⟩,
    ⟨Reg.NFC.RD_DISTURB_LIMIT, .rw, .f, 1, 16777215, false, false⟩,
    ⟨Reg.NFC.POOL_BLOCKS, .ro, .none, 0, 8388607, false, false⟩,
    ⟨Reg.NFC.REQUIRED_BLOCKS, .ro, .none, 0, 8388607, false, false⟩,
    ⟨Reg.NFC.ERASED_BLOCKS, .ro, .none, 0, 8388607, false, false⟩,
    ⟨Reg.NFC.SAVE_RESERVE_BLOCKS, .ro, .none, 0, 8388607, false, false⟩,
    ⟨Reg.NFC.SPARE_PERMILLE, .ro, .none, 0, 1023, false, false⟩,
    ⟨Reg.NFC.REMAIN_PE_KCYCLES, .ro, .none, 0, 4294967295, false, false⟩,
    ⟨Reg.NFC.DELTA_USED, .ro, .none, 0, 131071, false, false⟩,
    ⟨Reg.NFC.CKPT_FRAME_FRAME, .ro, .none, 0, 4294967295, false, false⟩,
    ⟨Reg.NFC.MANIFEST_LOC_LOC, .ro, .none, 0, 4294967295, false, false⟩,
    ⟨Reg.NFC.MOVES_COUNT, .ros, .none, 0, 4294967295, false, false⟩]

/-- The fields of NCHn. -/
def nchFields (n : Nat) : List FDef :=
  [⟨Reg.NCH.STS_DIES_OK n, .ro, .none, 0, 65535, false, false⟩,
    ⟨Reg.NCH.STS_TRAINED n, .ro, .none, 0, 1, false, false⟩,
    ⟨Reg.NCH.STS_FAILED n, .ro, .none, 0, 1, false, false⟩,
    ⟨Reg.NCH.DIE_FAIL_DIES n, .ros, .none, 0, 65535, false, false⟩,
    ⟨Reg.NCH.TIMEOUT_US n, .rw, .f, 1000, 20000, false, false⟩,
    ⟨Reg.NCH.FAILS_PROG n, .ros, .none, 0, 65535, false, false⟩,
    ⟨Reg.NCH.FAILS_ERASE n, .ros, .none, 0, 65535, false, false⟩,
    ⟨Reg.NCH.LDPC_RETRIED n, .ros, .none, 0, 16777215, false, false⟩,
    ⟨Reg.NCH.LDPC_UNCORR n, .ros, .none, 0, 255, false, false⟩,
    ⟨Reg.NCH.UTIL_PERMILLE n, .ro, .none, 0, 1023, false, false⟩]

/-- The fields of CUL. -/
def culFields : List FDef :=
  [⟨Reg.CUL.COUNT_ENTRIES, .ro, .none, 0, 131071, false, false⟩,
    ⟨Reg.CUL.FACTORY_BLOCKS, .ro, .none, 0, 8388607, false, false⟩,
    ⟨Reg.CUL.INDEX_INDEX, .rw, .l, 0, 65535, false, false⟩,
    ⟨Reg.CUL.ENTRY_CH, .ro, .none, 0, 31, false, false⟩,
    ⟨Reg.CUL.ENTRY_DIE, .ro, .none, 0, 15, false, false⟩,
    ⟨Reg.CUL.ENTRY_BLOCK, .ro, .none, 0, 8191, false, false⟩,
    ⟨Reg.CUL.ENTRY_CAUSE, .ro, .none, 0, 3, false, false⟩,
    ⟨Reg.CUL.ENTRY_VALID, .ro, .none, 0, 1, false, false⟩,
    ⟨Reg.CUL.LAST_FRAME_FRAME, .ro, .none, 0, 4294967295, false, false⟩]

/-- The fields of MRV. -/
def mrvFields : List FDef :=
  [⟨Reg.MRV.CFG_GRAN_SIZE, .rw, .s, 0, 3, true, false⟩,
    ⟨Reg.MRV.CFG_GRAN_IN_USE, .ro, .none, 0, 3, false, true⟩,
    ⟨Reg.MRV.DIRTY_COUNT, .ro, .none, 0, 33554431, false, false⟩,
    ⟨Reg.MRV.LOST_COUNT, .ro, .none, 0, 33554431, false, false⟩,
    ⟨Reg.MRV.HELD_COUNT, .ro, .none, 0, 33554431, false, false⟩,
    ⟨Reg.MRV.TWIN_DIRTY_COUNT, .ro, .none, 0, 33554431, false, false⟩,
    ⟨Reg.MRV.MAP_ENTRIES, .ro, .none, 0, 33554431, false, true⟩,
    ⟨Reg.MRV.MIRROR_BASE_INDEX, .ro, .none, 0, 33554431, false, true⟩,
    ⟨Reg.MRV.RC_CURSOR_INDEX, .ro, .none, 0, 33554431, false, false⟩,
    ⟨Reg.MRV.RC_STS_FULL_ACTIVE, .ro, .none, 0, 1, false, false⟩,
    ⟨Reg.MRV.RC_STS_MISMATCH, .ros, .none, 0, 1, false, false⟩,
    ⟨Reg.MRV.RC_STS_PASSES, .ros, .none, 0, 65535, false, false⟩,
    ⟨Reg.MRV.RC_LAST_ACCUM, .ro, .none, 0, 33554431, false, false⟩,
    ⟨Reg.MRV.ECC_CE, .ros, .none, 0, 16777215, false, false⟩,
    ⟨Reg.MRV.ECC_UE, .ros, .none, 0, 255, false, false⟩,
    ⟨Reg.MRV.PEEK_IDX_INDEX, .rw, .l, 0, 33554431, false, false⟩,
    ⟨Reg.MRV.PEEK_ENTRY, .ro, .none, 0, 65535, false, false⟩,
    ⟨Reg.MRV.PEEK_CHECK, .ro, .none, 0, 63, false, false⟩,
    ⟨Reg.MRV.PEEK_VALID, .ro, .none, 0, 1, false, false⟩,
    ⟨Reg.MRV.GROUPS_SET, .ro, .none, 0, 524287, false, false⟩]

/-- The fields of LEH. -/
def lehFields : List FDef :=
  [⟨Reg.LEH.POLICY_POLICY, .rw, .f, 0, 1, false, false⟩,
    ⟨Reg.LEH.SEAL_AGE_FRAMES, .rw, .f, 1, 32767, false, false⟩,
    ⟨Reg.LEH.BUDGET_CAP_GRAN, .rw, .f, 0, 16777216, false, true⟩,
    ⟨Reg.LEH.CAPONLY_CAP_GRAN, .rw, .f, 0, 16777216, false, true⟩,
    ⟨Reg.LEH.BUDGET_EFF_GRAN, .ro, .none, 0, 33554431, false, false⟩,
    ⟨Reg.LEH.BUDGET_STRICT_GRAN, .ro, .none, 0, 33554431, false, false⟩,
    ⟨Reg.LEH.DIRTY_EFF_GRAN, .ro, .none, 0, 33554431, false, false⟩,
    ⟨Reg.LEH.WM_LO_PCT, .rw, .f, 1, 99, false, false⟩,
    ⟨Reg.LEH.WM_LO_GRAN, .ro, .none, 0, 33554431, false, false⟩,
    ⟨Reg.LEH.WM_HI_PCT, .rw, .f, 1, 99, false, false⟩,
    ⟨Reg.LEH.WM_HI_GRAN, .ro, .none, 0, 33554431, false, false⟩,
    ⟨Reg.LEH.WM_HYST_HYST, .rw, .f, 0, 65535, false, false⟩,
    ⟨Reg.LEH.WM_CROSSINGS_LO, .ros, .none, 0, 65535, false, false⟩,
    ⟨Reg.LEH.WM_CROSSINGS_HI, .ros, .none, 0, 65535, false, false⟩,
    ⟨Reg.LEH.THROTTLE_EN_EN, .rw, .f, 0, 1, false, false⟩,
    ⟨Reg.LEH.THROTTLE_PCT, .rw, .f, 10, 90, false, false⟩,
    ⟨Reg.LEH.THROTTLE_ACTIVE, .ro, .none, 0, 1, false, false⟩,
    ⟨Reg.LEH.THROTTLE_WITHHELD, .ro, .none, 0, 15, false, false⟩,
    ⟨Reg.LEH.THR_WEIGHT_W0, .rw, .f, 1, 15, false, false⟩,
    ⟨Reg.LEH.THR_WEIGHT_W1, .rw, .f, 1, 15, false, false⟩,
    ⟨Reg.LEH.THR_WEIGHT_W2, .rw, .f, 1, 15, false, false⟩,
    ⟨Reg.LEH.THR_WEIGHT_W3, .rw, .f, 1, 15, false, false⟩,
    ⟨Reg.LEH.WEAR_LIFE_YEARS, .rw, .f, 1, 15, false, false⟩,
    ⟨Reg.LEH.WEAR_CFG_CAP_FRAMES, .rw, .f, 1, 16777215, false, false⟩,
    ⟨Reg.LEH.WEAR_RATE_PAGES, .ro, .none, 0, 16777215, false, false⟩,
    ⟨Reg.LEH.WEAR_CREDIT_PAGES, .ro, .none, 0, 4294967295, false, false⟩,
    ⟨Reg.LEH.WA_PCT, .ro, .none, 0, 65535, false, false⟩,
    ⟨Reg.LEH.RATE_SEALED, .ro, .none, 0, 65535, false, false⟩,
    ⟨Reg.LEH.RATE_NEW_DIRTY, .ro, .none, 0, 65535, false, false⟩,
    ⟨Reg.LEH.CURSOR_GROUP, .ro, .none, 0, 262143, false, false⟩,
    ⟨Reg.LEH.SEALS_COUNT, .ros, .none, 0, 4294967295, false, false⟩,
    ⟨Reg.LEH.SUPERSEDED_COUNT, .ros, .none, 0, 4294967295, false, false⟩]

/-- The fields of ENG. -/
def engFields : List FDef :=
  [⟨Reg.ENG.VIN_CODE, .ro, .none, 0, 262143, false, false⟩,
    ⟨Reg.ENG.VIN_GOOD, .ro, .none, 0, 1, false, false⟩,
    ⟨Reg.ENG.VCAP_CODE, .ro, .none, 0, 262143, false, false⟩,
    ⟨Reg.ENG.VBAT_CODE, .ro, .none, 0, 262143, false, false⟩,
    ⟨Reg.ENG.IBAT_CODE, .ro, .none, 0, 262143, false, false⟩,
    ⟨Reg.ENG.TEMP_T_STORE, .ro, .none, 0, 4095, false, false⟩,
    ⟨Reg.ENG.TEMP_NTC_FAULT, .ro, .none, 0, 1, false, false⟩,
    ⟨Reg.ENG.QCNT_LO_NC, .ro, .none, 0, 4294967295, false, false⟩,
    ⟨Reg.ENG.QCNT_HI_NC, .ro, .none, 0, 4294967295, false, false⟩,
    ⟨Reg.ENG.Q_VOLT_MAH, .ro, .none, 0, 65535, false, false⟩,
    ⟨Reg.ENG.Q_USED_MAH, .ro, .none, 0, 65535, false, false⟩,
    ⟨Reg.ENG.CAP_LEARNED_MAH, .ro, .none, 0, 65535, true, false⟩,
    ⟨Reg.ENG.CAP_LEARNED_RATED_MAH, .rw, .s, 0, 65535, true, false⟩,
    ⟨Reg.ENG.BAT_CFG_CHEM, .rw, .s, 0, 3, false, false⟩,
    ⟨Reg.ENG.BAT_CFG_CELLS, .rw, .s, 1, 8, false, false⟩,
    ⟨Reg.ENG.BAT_CFG_CUTOFF_MV, .rw, .s, 0, 65535, false, false⟩,
    ⟨Reg.ENG.BAT_ELEC_VNOM_MV, .rw, .s, 0, 65535, false, false⟩,
    ⟨Reg.ENG.BAT_ELEC_RINT_MOHM, .rw, .s, 0, 65535, false, false⟩,
    ⟨Reg.ENG.SHUNT_MICROOHM, .rw, .s, 100, 10000, false, false⟩,
    ⟨Reg.ENG.STATE_BAT, .ro, .none, 0, 7, false, false⟩,
    ⟨Reg.ENG.STATE_CHG_ON, .ro, .none, 0, 1, false, false⟩,
    ⟨Reg.ENG.STATE_CV, .ro, .none, 0, 1, false, false⟩,
    ⟨Reg.ENG.STATE_DISAGREE, .ro, .none, 0, 1, false, false⟩,
    ⟨Reg.ENG.STATE_CHG_FAULT, .ro, .none, 0, 1, false, false⟩,
    ⟨Reg.ENG.STATE_AT_FULL, .ro, .none, 0, 1, false, false⟩,
    ⟨Reg.ENG.STATE_REST_LEFT, .ro, .none, 0, 4194303, false, false⟩,
    ⟨Reg.ENG.LIMITS_DISAGREE_PCT, .rw, .f, 5, 50, false, false⟩,
    ⟨Reg.ENG.LIMITS_BAT_AGE, .rw, .f, 500, 1000, false, false⟩,
    ⟨Reg.ENG.MARGIN_PCT, .rw, .f, 5, 50, false, false⟩,
    ⟨Reg.ENG.CAP_CFG_C_RATED, .rw, .s, 0, 65535, false, false⟩,
    ⟨Reg.ENG.CAP_CFG_I_TEST_MA, .rw, .s, 0, 65535, false, false⟩,
    ⟨Reg.ENG.CAP_V_V_RATED_MV, .rw, .s, 0, 65535, false, false⟩,
    ⟨Reg.ENG.CAP_V_V_MIN_MV, .rw, .s, 0, 65535, false, false⟩,
    ⟨Reg.ENG.CAP_TEST_C_MEAS, .ro, .none, 0, 65535, true, false⟩,
    ⟨Reg.ENG.CAP_TEST_ESR_MOHM, .ro, .none, 0, 4095, false, false⟩,
    ⟨Reg.ENG.CAP_TEST_RUNNING, .ro, .none, 0, 1, false, false⟩,
    ⟨Reg.ENG.CAP_TEST_LOW, .ro, .none, 0, 1, false, false⟩,
    ⟨Reg.ENG.CAP_TEST_HIGH_ESR, .ro, .none, 0, 1, false, false⟩,
    ⟨Reg.ENG.CAP_ESR_MAX_MOHM, .rw, .f, 0, 4095, false, false⟩,
    ⟨Reg.ENG.E_CAP_MJ, .ro, .none, 0, 4294967295, false, false⟩] ++
  [⟨Reg.ENG.E_BAT_MJ, .ro, .none, 0, 4294967295, false, false⟩,
    ⟨Reg.ENG.E_AVAIL_MJ, .ro, .none, 0, 4294967295, false, false⟩,
    ⟨Reg.ENG.SAVECOST_E_FIXED_MJ, .ro, .none, 0, 65535, false, false⟩,
    ⟨Reg.ENG.SAVECOST_E_PER_GB_MJ, .ro, .none, 0, 65535, false, false⟩,
    ⟨Reg.ENG.B_ENERGY_GRAN, .ro, .none, 0, 33554431, false, false⟩,
    ⟨Reg.ENG.RIDE_P_DW, .ro, .none, 0, 65535, false, false⟩,
    ⟨Reg.ENG.RIDE_WIN_MS, .ro, .none, 0, 4294967295, false, false⟩,
    ⟨Reg.ENG.EXERCISE_START, .w1s, .l, 0, 1, false, false⟩,
    ⟨Reg.ENG.EXERCISE_STOP, .w1s, .l, 0, 1, false, false⟩,
    ⟨Reg.ENG.EXERCISE_ACTIVE, .ro, .none, 0, 1, false, false⟩,
    ⟨Reg.ENG.EXERCISE_RESULT, .ro, .none, 0, 7, false, false⟩,
    ⟨Reg.ENG.LEARN_RESET_DEFAULTS, .w1s, .l, 0, 1, false, false⟩,
    ⟨Reg.ENG.LEARN_PENDING, .ro, .none, 0, 1, false, false⟩,
    ⟨Reg.ENG.LEARN_SLOT, .ro, .none, 0, 1, false, false⟩,
    ⟨Reg.ENG.LEARN_SEQ, .ro, .none, 0, 65535, false, false⟩,
    ⟨Reg.ENG.FULL_FRAME_FRAME, .ro, .none, 0, 4294967295, false, false⟩,
    ⟨Reg.ENG.EMPTY_FRAME_FRAME, .ro, .none, 0, 4294967295, false, false⟩,
    ⟨Reg.ENG.CHG_ADDR, .rw, .s, 0, 127, true, false⟩,
    ⟨Reg.ENG.CHG_T_MIN, .rw, .s, 0, 255, false, false⟩,
    ⟨Reg.ENG.CHG_T_MAX, .rw, .s, 0, 255, false, false⟩] ++
  ((List.range 8).flatMap fun i =>
   [⟨Reg.ENG.TC_CAP_TEMP i, .rw, .f, 0, 255, false, false⟩,
    ⟨Reg.ENG.TC_CAP_PERMILLE i, .rw, .f, 0, 1000, false, false⟩,
    ⟨Reg.ENG.TC_BAT_TEMP i, .rw, .f, 0, 255, false, false⟩,
    ⟨Reg.ENG.TC_BAT_PERMILLE i, .rw, .f, 0, 1000, false, false⟩])

/-- The fields of SAV. -/
def savFields : List FDef :=
  [⟨Reg.SAV.CFG_RIDE_EN, .rw, .f, 0, 1, false, false⟩,
    ⟨Reg.SAV.CFG_PFAIL_EN, .rw, .s, 0, 1, false, false⟩,
    ⟨Reg.SAV.CFG_VIN_THR, .rw, .s, 0, 12, false, false⟩,
    ⟨Reg.SAV.RIDE_MAX_S, .rw, .f, 0, 3600, false, false⟩,
    ⟨Reg.SAV.RIDE_MIN_MS, .rw, .f, 1, 4000, false, false⟩,
    ⟨Reg.SAV.VIN_STABLE_FRAMES, .rw, .f, 50, 500000, false, false⟩,
    ⟨Reg.SAV.STS_STATE, .ro, .none, 0, 15, false, false⟩,
    ⟨Reg.SAV.STS_ARMED, .ro, .none, 0, 1, false, false⟩,
    ⟨Reg.SAV.STS_PARISON, .ro, .none, 0, 1, false, false⟩,
    ⟨Reg.SAV.RATE_MBS, .ro, .none, 0, 131071, false, false⟩,
    ⟨Reg.SAV.ETA_US, .ro, .none, 0, 16777215, false, false⟩,
    ⟨Reg.SAV.LAST_TRIG_TRIGGER, .ro, .none, 0, 255, false, false⟩,
    ⟨Reg.SAV.LAST_TRIG_OUTCOME, .ro, .none, 0, 15, false, false⟩,
    ⟨Reg.SAV.LAST_TRIG_OK_AT_FENCE, .ro, .none, 0, 1, false, false⟩,
    ⟨Reg.SAV.LAST_TRIG_PRESEAL, .ro, .none, 0, 1, false, false⟩,
    ⟨Reg.SAV.LAST_FRAME_FRAME, .ro, .none, 0, 4294967295, false, false⟩,
    ⟨Reg.SAV.LAST_TIME_US, .ro, .none, 0, 4294967295, false, false⟩,
    ⟨Reg.SAV.LAST_RIDE_MS, .ro, .none, 0, 4294967295, false, false⟩,
    ⟨Reg.SAV.LAST_GRAN_COUNT, .ro, .none, 0, 33554431, false, false⟩,
    ⟨Reg.SAV.LAST_LOST_COUNT, .ro, .none, 0, 33554431, false, false⟩,
    ⟨Reg.SAV.COUNTS_SAVES, .ros, .none, 0, 65535, false, false⟩,
    ⟨Reg.SAV.COUNTS_RIDES, .ros, .none, 0, 65535, false, false⟩,
    ⟨Reg.SAV.CTL_RESUME, .w1s, .l, 0, 1, false, false⟩]

/-- The fields of RSR. -/
def rsrFields : List FDef :=
  [⟨Reg.RSR.CFG_MODE, .rw, .l, 0, 2, true, false⟩,
    ⟨Reg.RSR.CFG_FALLBACK_MAX, .rw, .l, 1, 7, true, false⟩,
    ⟨Reg.RSR.READY_DEADLINE_MS, .rw, .l, 200, 60000, true, false⟩,
    ⟨Reg.RSR.DOUBT_WAIT_FRAMES, .rw, .l, 50, 1000000, true, false⟩,
    ⟨Reg.RSR.STS_STAGE, .ro, .none, 0, 15, false, false⟩,
    ⟨Reg.RSR.STS_RUN_AHEAD, .ro, .none, 0, 1, false, false⟩,
    ⟨Reg.RSR.STS_REBUILD, .ro, .none, 0, 1, false, false⟩,
    ⟨Reg.RSR.STS_ADMITTED, .ro, .none, 0, 1, false, false⟩,
    ⟨Reg.RSR.STS_UNVERIFIED, .ro, .none, 0, 1, false, false⟩,
    ⟨Reg.RSR.STS_FALLBACKS, .ro, .none, 0, 7, false, false⟩,
    ⟨Reg.RSR.TOTAL_GRAN, .ro, .none, 0, 33554431, false, false⟩,
    ⟨Reg.RSR.DONE_GRAN, .ro, .none, 0, 33554431, false, false⟩,
    ⟨Reg.RSR.RATE_MBS, .ro, .none, 0, 131071, false, false⟩,
    ⟨Reg.RSR.ETA_MS, .ro, .none, 0, 16777215, false, false⟩,
    ⟨Reg.RSR.EST_MS, .ro, .none, 0, 16777215, false, false⟩,
    ⟨Reg.RSR.SLOTS_IN_FLIGHT, .ro, .none, 0, 8191, false, false⟩,
    ⟨Reg.RSR.SLOTS_DEMAND, .ro, .none, 0, 8191, false, false⟩,
    ⟨Reg.RSR.HEAT_LEVEL, .ro, .none, 0, 15, false, false⟩,
    ⟨Reg.RSR.HEAT_CURSOR, .ro, .none, 0, 33554431, false, false⟩,
    ⟨Reg.RSR.DEMANDS_COUNT, .ros, .none, 0, 4294967295, false, false⟩,
    ⟨Reg.RSR.SQUASHED_COUNT, .ros, .none, 0, 4294967295, false, false⟩,
    ⟨Reg.RSR.DEMAND_MAX_US, .ros, .none, 0, 65535, false, false⟩,
    ⟨Reg.RSR.MANIFEST_SEQ, .ro, .none, 0, 4294967295, false, false⟩,
    ⟨Reg.RSR.MAN_FRAME_FRAME, .ro, .none, 0, 4294967295, false, false⟩,
    ⟨Reg.RSR.LOST_COUNT, .ro, .none, 0, 33554431, false, false⟩,
    ⟨Reg.RSR.CONTINUITY_INDEX, .rw, .l, 0, 43, false, false⟩,
    ⟨Reg.RSR.CONTINUITY_DATA, .ro, .none, 0, 65535, false, false⟩]

/-- The fields of PNT. -/
def pntFields : List FDef :=
  [⟨Reg.PNT.LINK_WIDTH, .ro, .none, 0, 3, false, false⟩,
    ⟨Reg.PNT.LINK_RATE, .ro, .none, 0, 3, false, false⟩,
    ⟨Reg.PNT.LINK_DEGRADED, .ro, .none, 0, 1, false, false⟩,
    ⟨Reg.PNT.RETRAINS_COUNT, .ros, .none, 0, 4294967295, false, false⟩,
    ⟨Reg.PNT.REPLAYS_COUNT, .ros, .none, 0, 4294967295, false, false⟩,
    ⟨Reg.PNT.BW_TX_FLITS, .ro, .none, 0, 16777215, false, false⟩,
    ⟨Reg.PNT.BW_RX_FLITS, .ro, .none, 0, 16777215, false, false⟩]

/-- The fields of TWN. -/
def twnFields : List FDef :=
  [⟨Reg.TWN.PEER_LO_SERIAL, .rw, .l, 0, 4294967295, true, false⟩,
    ⟨Reg.TWN.PEER_HI_SERIAL, .rw, .l, 0, 4294967295, true, false⟩,
    ⟨Reg.TWN.CTL_PAIR, .w1s, .l, 0, 1, false, false⟩,
    ⟨Reg.TWN.CTL_UNPAIR, .w1s, .l, 0, 1, false, false⟩,
    ⟨Reg.TWN.CTL_DETACH, .w1s, .l, 0, 1, false, false⟩,
    ⟨Reg.TWN.CTL_REATTACH, .w1s, .l, 0, 1, false, false⟩,
    ⟨Reg.TWN.CTL_TWIN_FAILED, .w1s, .l, 0, 1, false, false⟩,
    ⟨Reg.TWN.CTL_PROMOTE, .w1s, .l, 0, 1, false, false⟩,
    ⟨Reg.TWN.CTL_DEMOTE, .w1s, .l, 0, 1, false, false⟩,
    ⟨Reg.TWN.CFG_ACK_MODE, .rw, .f, 0, 1, false, false⟩,
    ⟨Reg.TWN.RESYNC_RATE_MBS, .rw, .f, 1000, 64000, false, false⟩,
    ⟨Reg.TWN.WAIT_BOOT_FRAMES, .rw, .f, 50, 1000000, false, false⟩,
    ⟨Reg.TWN.STS_STATE, .ro, .none, 0, 15, false, false⟩,
    ⟨Reg.TWN.STS_PAIRED, .ro, .none, 0, 1, false, false⟩,
    ⟨Reg.TWN.STS_LEADER, .ro, .none, 0, 1, false, false⟩,
    ⟨Reg.TWN.STS_PROMOTED, .ro, .none, 0, 1, false, false⟩,
    ⟨Reg.TWN.STS_CONFLICT, .ros, .none, 0, 1, false, false⟩,
    ⟨Reg.TWN.STS_MISSED, .ro, .none, 0, 3, false, false⟩,
    ⟨Reg.TWN.STS_RESULT, .ro, .none, 0, 7, false, false⟩,
    ⟨Reg.TWN.HOME_GEN_VALUE, .ro, .none, 0, 4294967295, true, false⟩,
    ⟨Reg.TWN.MIRROR_GEN_VALUE, .ro, .none, 0, 4294967295, true, false⟩,
    ⟨Reg.TWN.HOME_AGREED_VALUE, .ro, .none, 0, 4294967295, true, false⟩,
    ⟨Reg.TWN.MIRROR_AGREED_VALUE, .ro, .none, 0, 4294967295, true, false⟩,
    ⟨Reg.TWN.PEER_GEN_VALUE, .ro, .none, 0, 4294967295, true, false⟩,
    ⟨Reg.TWN.PEER_SEQ_VALUE, .ro, .none, 0, 4294967295, true, false⟩,
    ⟨Reg.TWN.RESYNC_LEFT_GRAN, .ro, .none, 0, 33554431, false, false⟩,
    ⟨Reg.TWN.REVERSE_GRAN, .ros, .none, 0, 33554431, false, false⟩,
    ⟨Reg.TWN.CONFLICT_GRAN_GRAN, .ros, .none, 0, 33554431, false, false⟩,
    ⟨Reg.TWN.RCTX_OPEN_LO_MASK, .ro, .none, 0, 4294967295, false, false⟩,
    ⟨Reg.TWN.RCTX_OPEN_HI_MASK, .ro, .none, 0, 4294967295, false, false⟩,
    ⟨Reg.TWN.RCTX_PREP_LO_MASK, .ro, .none, 0, 4294967295, false, false⟩,
    ⟨Reg.TWN.RCTX_PREP_HI_MASK, .ro, .none, 0, 4294967295, false, false⟩,
    ⟨Reg.TWN.MIRROR_DROPPED_COUNT, .ros, .none, 0, 4294967295, false, false⟩,
    ⟨Reg.TWN.LOSSES_COUNT, .ros, .none, 0, 4294967295, false, false⟩]

/-- The fields of TRN. -/
def trnFields : List FDef :=
  [⟨Reg.TRN.ID_LO_ID, .ro, .none, 0, 4294967295, false, true⟩,
    ⟨Reg.TRN.ID_HI_ID, .ro, .none, 0, 4294967295, false, true⟩,
    ⟨Reg.TRN.STS_INDEX, .ro, .none, 0, 511, false, false⟩,
    ⟨Reg.TRN.STS_MASTER, .ro, .none, 0, 1, false, false⟩,
    ⟨Reg.TRN.STS_STATE, .ro, .none, 0, 3, false, false⟩,
    ⟨Reg.TRN.STS_TOPO, .ro, .none, 0, 3, false, false⟩,
    ⟨Reg.TRN.STS_COUNT, .ro, .none, 0, 1023, false, false⟩,
    ⟨Reg.TRN.STS_OVERSIZE, .ro, .none, 0, 1, false, false⟩,
    ⟨Reg.TRN.STS_CIRC_ERR, .ro, .none, 0, 1, false, false⟩,
    ⟨Reg.TRN.RING_STS_AI_LOCK, .ro, .none, 0, 1, false, false⟩,
    ⟨Reg.TRN.RING_STS_BI_LOCK, .ro, .none, 0, 1, false, false⟩,
    ⟨Reg.TRN.RING_STS_EDGE, .ro, .none, 0, 1, false, false⟩,
    ⟨Reg.TRN.RING_STS_BREAK1, .ro, .none, 0, 511, false, false⟩,
    ⟨Reg.TRN.RING_STS_BREAK1_V, .ro, .none, 0, 1, false, false⟩,
    ⟨Reg.TRN.RING_STS_BREAK2, .ro, .none, 0, 511, false, false⟩,
    ⟨Reg.TRN.RING_STS_BREAK2_V, .ro, .none, 0, 1, false, false⟩,
    ⟨Reg.TRN.MASTER_LO_ID, .ro, .none, 0, 4294967295, false, false⟩,
    ⟨Reg.TRN.MASTER_HI_ID, .ro, .none, 0, 4294967295, false, false⟩,
    ⟨Reg.TRN.CIRC_A_NS, .ro, .none, 0, 65535, false, false⟩,
    ⟨Reg.TRN.CIRC_B_NS, .ro, .none, 0, 65535, false, false⟩,
    ⟨Reg.TRN.ERR_CRC_A, .ros, .none, 0, 65535, false, false⟩,
    ⟨Reg.TRN.ERR_CRC_B, .ros, .none, 0, 65535, false, false⟩,
    ⟨Reg.TRN.COUNTS_ELECTIONS, .ros, .none, 0, 65535, false, false⟩,
    ⟨Reg.TRN.COUNTS_BREAKS, .ros, .none, 0, 65535, false, false⟩,
    ⟨Reg.TRN.TABLE_IDX_INDEX, .rw, .l, 0, 511, false, false⟩,
    ⟨Reg.TRN.TABLE_IDX_VALID, .ro, .none, 0, 1, false, false⟩,
    ⟨Reg.TRN.TABLE_LO_ID, .ro, .none, 0, 4294967295, false, false⟩,
    ⟨Reg.TRN.TABLE_HI_ID, .ro, .none, 0, 4294967295, false, false⟩]

/-- The fields of DOM. -/
def domFields : List FDef :=
  [⟨Reg.DOM.CFG_MEMBERS, .rw, .f, 0, 512, true, false⟩,
    ⟨Reg.DOM.STS_DOMAIN_OK, .ro, .none, 0, 1, false, false⟩,
    ⟨Reg.DOM.STS_QUORUM, .ro, .none, 0, 1, false, false⟩,
    ⟨Reg.DOM.STS_DEPARTED, .ro, .none, 0, 511, false, false⟩,
    ⟨Reg.DOM.STS_BALLOTS, .ro, .none, 0, 127, false, false⟩,
    ⟨Reg.DOM.FORCE_CTX, .rw, .l, 0, 63, false, false⟩,
    ⟨Reg.DOM.FORCE_OUTCOME, .rw, .l, 0, 1, false, false⟩,
    ⟨Reg.DOM.FORCE_GO, .w1s, .l, 0, 1, false, false⟩,
    ⟨Reg.DOM.FORCE_RESULT, .ro, .none, 0, 1, false, false⟩,
    ⟨Reg.DOM.LOG_USED, .ro, .none, 0, 8191, false, false⟩,
    ⟨Reg.DOM.LOG_OVERWRITES, .ros, .none, 0, 65535, false, false⟩,
    ⟨Reg.DOM.LOG_OLDEST_FRAME, .ro, .none, 0, 4294967295, false, false⟩,
    ⟨Reg.DOM.COORD_COMMITS, .ros, .none, 0, 65535, false, false⟩,
    ⟨Reg.DOM.COORD_ABORTS, .ros, .none, 0, 65535, false, false⟩,
    ⟨Reg.DOM.RESOLVED_BY_RECORD, .ros, .none, 0, 65535, false, false⟩,
    ⟨Reg.DOM.RESOLVED_BY_RING, .ros, .none, 0, 65535, false, false⟩,
    ⟨Reg.DOM.TALLY_FAIL_COUNT, .ros, .none, 0, 65535, false, false⟩,
    ⟨Reg.DOM.LAST_FENCE_INDEX, .ro, .none, 0, 511, false, false⟩,
    ⟨Reg.DOM.LAST_FENCE_FRAME_FRAME, .ro, .none, 0, 4294967295, false, false⟩]

/-- The fields of PWR. -/
def pwrFields : List FDef :=
  ((List.range 16).flatMap fun i =>
   [⟨Reg.PWR.SEQ_RAIL i, .rw, .s, 0, 11, false, false⟩,
    ⟨Reg.PWR.SEQ_WAIT_PG i, .rw, .s, 0, 1, false, false⟩,
    ⟨Reg.PWR.SEQ_HOLD i, .rw, .s, 0, 1, false, false⟩,
    ⟨Reg.PWR.SEQ_VALID i, .rw, .s, 0, 1, false, false⟩,
    ⟨Reg.PWR.SEQ_DELAY_US i, .rw, .s, 0, 1023, false, false⟩,
    ⟨Reg.PWR.SEQ_TIMEOUT i, .rw, .s, 1, 255, false, false⟩]) ++
  ((List.range 12).flatMap fun i =>
   [⟨Reg.PWR.RAIL_CFG_REACT i, .rw, .s, 0, 3, false, false⟩,
    ⟨Reg.PWR.RAIL_CFG_RETRIES i, .rw, .s, 0, 3, false, false⟩,
    ⟨Reg.PWR.RAIL_CFG_BACKOFF i, .rw, .s, 0, 255, false, false⟩,
    ⟨Reg.PWR.RAIL_CFG_PERSIST i, .ro, .none, 0, 1, false, false⟩,
    ⟨Reg.PWR.RAIL_CFG_DEP i, .rw, .s, 0, 4095, false, false⟩]) ++
  [⟨Reg.PWR.TIMING_DEBOUNCE_US, .rw, .s, 10, 1023, false, false⟩,
    ⟨Reg.PWR.TIMING_DIS_TIMEOUT, .rw, .s, 1, 65535, false, false⟩,
    ⟨Reg.PWR.UV_VCAP_MV, .rw, .s, 0, 65535, false, false⟩,
    ⟨Reg.PWR.UV_VBAT_MV, .rw, .s, 0, 65535, false, false⟩,
    ⟨Reg.PWR.STS_STATE, .ro, .none, 0, 15, false, false⟩,
    ⟨Reg.PWR.STS_STEP, .ro, .none, 0, 15, false, false⟩,
    ⟨Reg.PWR.STS_RAILS_ON, .ro, .none, 0, 4095, false, false⟩,
    ⟨Reg.PWR.STS_PG, .ro, .none, 0, 4095, false, false⟩,
    ⟨Reg.PWR.FAIL_RAIL, .ros, .none, 0, 15, false, false⟩,
    ⟨Reg.PWR.FAIL_CAUSE, .ros, .none, 0, 7, false, false⟩,
    ⟨Reg.PWR.FAIL_STEP, .ros, .none, 0, 15, false, false⟩,
    ⟨Reg.PWR.FAIL_FRAME_FRAME, .ros, .none, 0, 4294967295, false, false⟩,
    ⟨Reg.PWR.COUNTS_LOSSES, .ros, .none, 0, 65535, false, false⟩,
    ⟨Reg.PWR.COUNTS_FORCED_DIS, .ros, .none, 0, 65535, false, false⟩,
    ⟨Reg.PWR.BOOT_ATTEMPTS, .rw, .s, 1, 3, false, false⟩,
    ⟨Reg.PWR.BOOT_MINIMAL, .ro, .none, 0, 1, false, false⟩]

/-- The fields of PDM. -/
def pdmFields : List FDef :=
  ((List.range 52).flatMap fun i =>
   [⟨Reg.PDM.DOM_CTL_REQ i, .rw, .f, 0, 2, false, false⟩,
    ⟨Reg.PDM.DOM_CTL_REACT i, .rw, .s, 0, 3, false, false⟩,
    ⟨Reg.PDM.DOM_CTL_STATE i, .ro, .none, 0, 3, false, false⟩,
    ⟨Reg.PDM.DOM_CTL_ACK_FAIL i, .ros, .none, 0, 1, false, false⟩]) ++
  [⟨Reg.PDM.ACK_TIMEOUT_US, .rw, .s, 1, 255, false, false⟩,
    ⟨Reg.PDM.ON_LO_MASK, .ro, .none, 0, 4294967295, false, false⟩,
    ⟨Reg.PDM.ON_HI_MASK, .ro, .none, 0, 1048575, false, false⟩]

/-- The fields of FLT. -/
def fltFields : List FDef :=
  [⟨Reg.FLT.FIRST_ID_ID, .ro, .none, 0, 511, false, false⟩,
    ⟨Reg.FLT.FIRST_ID_SEV, .ro, .none, 0, 7, false, false⟩,
    ⟨Reg.FLT.FIRST_ID_VALID, .ro, .none, 0, 1, false, false⟩,
    ⟨Reg.FLT.FIRST_ID_FIRST_SELF_CLEARED, .ro, .none, 0, 1, false, false⟩,
    ⟨Reg.FLT.FIRST_FRAME_LO_FRAME, .ro, .none, 0, 4294967295, false, false⟩,
    ⟨Reg.FLT.FIRST_FRAME_HI_FRAME, .ro, .none, 0, 65535, false, false⟩,
    ⟨Reg.FLT.OVF_OVF, .ro, .none, 0, 1, false, false⟩,
    ⟨Reg.FLT.OVF_COUNT_COUNT, .ro, .none, 0, 255, false, false⟩,
    ⟨Reg.FLT.CTL_REARM, .w1s, .l, 0, 1, false, false⟩,
    ⟨Reg.FLT.PINCTL_LEVEL, .rw, .l, 0, 1, false, false⟩,
    ⟨Reg.FLT.PINCTL_PULSE, .ro, .none, 0, 1, false, false⟩,
    ⟨Reg.FLT.PINCTL_HW_HOLD, .ro, .none, 0, 1, false, false⟩,
    ⟨Reg.FLT.PINCTL_PIN, .ro, .none, 0, 1, false, false⟩,
    ⟨Reg.FLT.SUMMARY_PAGES, .ro, .none, 0, 63, false, false⟩,
    ⟨Reg.FLT.SUMMARY_HIGHEST, .ro, .none, 0, 7, false, false⟩,
    ⟨Reg.FLT.SUMMARY_ANY, .ro, .none, 0, 1, false, false⟩,
    ⟨Reg.FLT.PIN_COUNT_COUNT, .ros, .none, 0, 65535, false, false⟩] ++
  ((List.range 4).flatMap fun i =>
   [⟨Reg.FLT.FIRST_SNAP_DATA i, .ro, .none, 0, 4294967295, false, false⟩])

/-- The fields of FLS. -/
def flsFields (n : Nat) : List FDef :=
  ((List.range 64).flatMap fun i =>
   [⟨Reg.FLS.SRC_CFG_SEV (64 * n + i), .rw, .f, 0, 7, false, false⟩,
    ⟨Reg.FLS.SRC_CFG_ACT (64 * n + i), .rw, .f, 0, 63, false, false⟩,
    ⟨Reg.FLS.SRC_CFG_MIN_SEV (64 * n + i), .ro, .none, 0, 7, false, false⟩,
    ⟨Reg.FLS.SRC_CFG_DANGEROUS (64 * n + i), .ro, .none, 0, 1, false, false⟩,
    ⟨Reg.FLS.SRC_CFG_SEAL_PATH (64 * n + i), .ro, .none, 0, 1, false, false⟩,
    ⟨Reg.FLS.SRC_CFG_COUNT (64 * n + i), .ros, .none, 0, 255, false, false⟩]) ++
  ((List.range 64).flatMap fun i =>
   [⟨Reg.FLS.STICKY (64 * n + i), .w1c, .none, 0, 1, false, false⟩, ⟨Reg.FLS.LIVE (64 * n + i), .ro, .none, 0, 1, false, false⟩])

/-- The fields of SAF. -/
def safFields : List FDef :=
  [⟨Reg.SAF.FINJ_KEY_KEY, .rw, .l, 0, 65535, false, false⟩,
    ⟨Reg.SAF.FINJ_KEY_OPEN, .ro, .none, 0, 1, false, false⟩,
    ⟨Reg.SAF.STS_SAFE, .ro, .none, 0, 1, false, false⟩,
    ⟨Reg.SAF.STS_SEAL_PATH_OK, .ro, .none, 0, 1, false, false⟩,
    ⟨Reg.SAF.STS_LOCKSTEP_OK, .ro, .none, 0, 1, false, false⟩,
    ⟨Reg.SAF.STS_CAUSE, .ro, .none, 0, 3, false, false⟩,
    ⟨Reg.SAF.STS_SOURCE, .ro, .none, 0, 511, false, false⟩,
    ⟨Reg.SAF.CTL_ENTER, .w1s, .l, 0, 1, false, false⟩,
    ⟨Reg.SAF.CTL_EXIT, .w1s, .l, 0, 1, false, false⟩,
    ⟨Reg.SAF.ST_PROGRESS_FRAME, .ro, .none, 0, 131071, false, false⟩,
    ⟨Reg.SAF.ST_PROGRESS_CYCLES, .ros, .none, 0, 32767, false, false⟩,
    ⟨Reg.SAF.ST_FAIL_ITEM, .ros, .none, 0, 15, false, false⟩,
    ⟨Reg.SAF.ST_FAIL_FAILS, .ros, .none, 0, 65535, false, false⟩,
    ⟨Reg.SAF.ST_LAST_FRAME, .ro, .none, 0, 4294967295, false, false⟩,
    ⟨Reg.SAF.SAFE_FRAME_FRAME, .ro, .none, 0, 4294967295, false, false⟩,
    ⟨Reg.SAF.WDRAW_MAX_NS, .ros, .none, 0, 65535, false, false⟩]

/-- The fields of GQn. -/
def gqFields (n : Nat) : List FDef :=
  [⟨Reg.GQ.CFG_SPILL_MIB n, .rw, .s, 1, 256, true, false⟩,
    ⟨Reg.GQ.CFG_LINGER n, .rw, .f, 1, 255, false, false⟩,
    ⟨Reg.GQ.SPILL_BASE_BASE_MIB n, .rw, .s, 0, 1048575, true, false⟩,
    ⟨Reg.GQ.OP_READ n, .w1s, .l, 0, 1, false, false⟩,
    ⟨Reg.GQ.OP_MARK n, .w1s, .l, 0, 1, false, false⟩,
    ⟨Reg.GQ.OP_REWIND n, .w1s, .l, 0, 1, false, false⟩,
    ⟨Reg.GQ.OP_RELEASE n, .w1s, .l, 0, 1, false, false⟩,
    ⟨Reg.GQ.OP_FLUSH n, .w1s, .l, 0, 1, false, false⟩,
    ⟨Reg.GQ.STS_PACK n, .ro, .none, 0, 63, false, false⟩,
    ⟨Reg.GQ.STS_TAIL_FULL n, .ro, .none, 0, 1, false, false⟩,
    ⟨Reg.GQ.STS_LAST_OP_EMPTY n, .ro, .none, 0, 1, false, false⟩,
    ⟨Reg.GQ.WR_SEQ n, .ro, .none, 0, 4294967295, false, false⟩,
    ⟨Reg.GQ.RD_SEQ n, .ro, .none, 0, 4294967295, false, false⟩,
    ⟨Reg.GQ.MARK_SEQ n, .ro, .none, 0, 4294967295, false, false⟩,
    ⟨Reg.GQ.RELEASED_SEQ n, .ro, .none, 0, 4294967295, false, false⟩,
    ⟨Reg.GQ.HELD_WORDS n, .ro, .none, 0, 8388607, false, false⟩,
    ⟨Reg.GQ.CAPACITY_WORDS n, .ro, .none, 0, 8388607, false, false⟩,
    ⟨Reg.GQ.WM_LO_PCT n, .rw, .f, 1, 99, false, false⟩,
    ⟨Reg.GQ.WM_HI_PCT n, .rw, .f, 1, 99, false, false⟩,
    ⟨Reg.GQ.WM_HYST n, .rw, .f, 0, 65535, false, false⟩,
    ⟨Reg.GQ.WM_CROSSINGS_HI n, .ros, .none, 0, 65535, false, false⟩,
    ⟨Reg.GQ.WM_CROSSINGS_LO n, .ros, .none, 0, 65535, false, false⟩,
    ⟨Reg.GQ.DROPS_COUNT n, .ros, .none, 0, 4294967295, false, false⟩,
    ⟨Reg.GQ.POISON_COUNT n, .ros, .none, 0, 4294967295, false, false⟩,
    ⟨Reg.GQ.TELEM_PERIOD n, .rw, .f, 50, 1000000, false, false⟩]

/-- The fields of CAR. -/
def carFields : List FDef :=
  ((List.range 2).flatMap fun i =>
   [⟨Reg.CAR.BANK_STS_STATUS i, .ro, .none, 0, 511, false, false⟩,
    ⟨Reg.CAR.BANK_STS_MODE i, .ro, .none, 0, 3, false, false⟩,
    ⟨Reg.CAR.BANK_STS_OP i, .ro, .none, 0, 3, false, false⟩,
    ⟨Reg.CAR.ERASE_PROGRESS_PERMILLE i, .ro, .none, 0, 1023, false, false⟩,
    ⟨Reg.CAR.ERASE_PROGRESS_BLOCK i, .ro, .none, 0, 255, false, false⟩,
    ⟨Reg.CAR.ERASE_PROGRESS_SUSPENDS i, .ro, .none, 0, 16383, false, false⟩]) ++
  [⟨Reg.CAR.BLKQ_IDX_BLOCK, .rw, .l, 0, 255, false, false⟩,
    ⟨Reg.CAR.BLKQ_IDX_BANK, .rw, .l, 0, 1, false, false⟩,
    ⟨Reg.CAR.BLKQ_TALLY, .ro, .none, 0, 1, false, false⟩,
    ⟨Reg.CAR.BLKQ_PROTECTED, .ro, .none, 0, 1, false, false⟩,
    ⟨Reg.CAR.BLKQ_ERASE_INCOMPLETE, .ro, .none, 0, 1, false, false⟩,
    ⟨Reg.CAR.BLKQ_UNRELIABLE, .ro, .none, 0, 1, false, false⟩,
    ⟨Reg.CAR.BLKQ_REMAPPED, .ro, .none, 0, 1, false, false⟩,
    ⟨Reg.CAR.BLKQ_SPARE, .ro, .none, 0, 15, false, false⟩,
    ⟨Reg.CAR.BLKQ_BAD_NO_SPARE, .ro, .none, 0, 1, false, false⟩,
    ⟨Reg.CAR.BLKQ_VALID, .ro, .none, 0, 1, false, false⟩,
    ⟨Reg.CAR.ECC_CE, .ros, .none, 0, 16777215, false, false⟩,
    ⟨Reg.CAR.ECC_UE, .ros, .none, 0, 255, false, false⟩,
    ⟨Reg.CAR.TALLY_DIFF, .ros, .none, 0, 65535, false, false⟩,
    ⟨Reg.CAR.TALLY_ADDR_ADDR, .ros, .none, 0, 33554431, false, false⟩,
    ⟨Reg.CAR.OPT_STS_A_OK, .ro, .none, 0, 1, false, false⟩,
    ⟨Reg.CAR.OPT_STS_B_OK, .ro, .none, 0, 1, false, false⟩,
    ⟨Reg.CAR.OPT_STS_SEL, .ro, .none, 0, 1, false, false⟩,
    ⟨Reg.CAR.OPT_STS_DEFAULTED, .ro, .none, 0, 1, false, false⟩,
    ⟨Reg.CAR.OPT_STS_SEQ, .ro, .none, 0, 65535, false, false⟩,
    ⟨Reg.CAR.SPARES_USED0, .ro, .none, 0, 15, false, false⟩,
    ⟨Reg.CAR.SPARES_USED1, .ro, .none, 0, 15, false, false⟩,
    ⟨Reg.CAR.SPARES_GROWN, .ro, .none, 0, 255, false, false⟩,
    ⟨Reg.CAR.FETCH_TRAPS_COUNT, .ros, .none, 0, 65535, false, false⟩]

/-- The fields of UPD. -/
def updFields : List FDef :=
  ((List.range 4).flatMap fun i =>
   [⟨Reg.UPD.SLOT_A_STATE i, .ro, .none, 0, 3, false, true⟩,
    ⟨Reg.UPD.SLOT_B_STATE i, .ro, .none, 0, 3, false, true⟩,
    ⟨Reg.UPD.SLOT_CONFIRMED i, .ro, .none, 0, 1, false, true⟩,
    ⟨Reg.UPD.SLOT_RUNNING i, .ro, .none, 0, 1, false, true⟩,
    ⟨Reg.UPD.SLOT_PENDING i, .ro, .none, 0, 1, false, false⟩,
    ⟨Reg.UPD.SLOT_IL i, .ro, .none, 0, 65535, false, true⟩,
    ⟨Reg.UPD.VER_A_VERSION i, .ro, .none, 0, 4294967295, false, true⟩,
    ⟨Reg.UPD.VER_B_VERSION i, .ro, .none, 0, 4294967295, false, true⟩]) ++
  [⟨Reg.UPD.ACTIVATE_COMPONENT, .rw, .l, 0, 3, false, false⟩,
    ⟨Reg.UPD.ACTIVATE_SLOT, .rw, .l, 0, 1, false, false⟩,
    ⟨Reg.UPD.CTL_CONFIRM, .w1s, .l, 0, 1, false, false⟩,
    ⟨Reg.UPD.CTL_ACCEPT_DEFAULTS, .w1s, .l, 0, 1, false, false⟩,
    ⟨Reg.UPD.CTL_REVERT, .w1s, .l, 0, 1, false, false⟩,
    ⟨Reg.UPD.CTL_RESTART, .w1s, .l, 0, 1, false, false⟩,
    ⟨Reg.UPD.STS_RESULT, .ro, .none, 0, 7, false, false⟩,
    ⟨Reg.UPD.STS_SETTINGS_DEFAULTED, .ro, .none, 0, 1, false, false⟩,
    ⟨Reg.UPD.STS_REVERTED, .ro, .none, 0, 1, false, false⟩,
    ⟨Reg.UPD.STS_REJECTED, .ro, .none, 0, 1, false, false⟩,
    ⟨Reg.UPD.STS_TALLY, .ro, .none, 0, 63, false, false⟩,
    ⟨Reg.UPD.CFG_AUTO_EN, .rw, .f, 0, 1, false, false⟩,
    ⟨Reg.UPD.CFG_AUTO_FRAMES, .rw, .f, 50000, 16777215, false, false⟩,
    ⟨Reg.UPD.DL_COMPONENT, .ro, .none, 0, 3, false, false⟩,
    ⟨Reg.UPD.DL_ACTIVE, .ro, .none, 0, 1, false, false⟩,
    ⟨Reg.UPD.DL_KIB, .ro, .none, 0, 536870911, false, false⟩,
    ⟨Reg.UPD.LOG_BLOCK, .ro, .none, 0, 1, false, false⟩,
    ⟨Reg.UPD.LOG_FREE, .ro, .none, 0, 4095, false, false⟩]

/-- The fields of SET. -/
def setFields : List FDef :=
  [⟨Reg.SET.AREA_IN_USE, .ro, .none, 0, 1, false, true⟩,
    ⟨Reg.SET.AREA_FREE_KIB, .ro, .none, 0, 4095, false, true⟩,
    ⟨Reg.SET.AREA_SEQ, .ro, .none, 0, 65535, false, true⟩,
    ⟨Reg.SET.FMT_CURRENT, .ro, .none, 0, 255, false, true⟩,
    ⟨Reg.SET.FMT_OLDEST, .ro, .none, 0, 255, false, true⟩,
    ⟨Reg.SET.FMT_RETIRING, .ro, .none, 0, 1, false, false⟩,
    ⟨Reg.SET.COUNTS_RECORDS, .ros, .none, 0, 16777215, false, false⟩,
    ⟨Reg.SET.COUNTS_TORN, .ros, .none, 0, 255, false, false⟩]

/-- The fields of page `p`, the common header included; none for an unused slot (R79, R82). -/
def pageFields (p : Nat) : List FDef :=
  if !pageUsed p then [] else headerFields p ++ (
   if p = 0x0 then sysFields else
   if p = 0x1 then frmFields else
   if p = 0x2 then clkFields else
   if p = 0x3 then irqFields else
   if 0x8 ≤ p ∧ p < 0xC then hptFields (p - 0x8) else
   if p = 0xC then qosFields else
   if p = 0x10 then dmcFields else
   if 0x20 ≤ p ∧ p < 0x30 then dchFields (p - 0x20) else
   if p = 0x11 then sprFields else
   if p = 0x12 then scrFields else
   if p = 0x44 then txnFields else
   if 0x45 ≤ p ∧ p < 0x49 then txcFields (p - 0x45) else
   if p = 0x50 then nfcFields else
   if 0x60 ≤ p ∧ p < 0x80 then nchFields (p - 0x60) else
   if p = 0x51 then culFields else
   if p = 0x40 then mrvFields else
   if p = 0x41 then lehFields else
   if p = 0x80 then engFields else
   if p = 0x42 then savFields else
   if p = 0x43 then rsrFields else
   if p = 0xC0 then pntFields else
   if p = 0xC1 then twnFields else
   if p = 0xD0 then trnFields else
   if p = 0xD1 then domFields else
   if p = 0x81 then pwrFields else
   if p = 0x82 then pdmFields else
   if p = 0x90 then fltFields else
   if 0x91 ≤ p ∧ p < 0x97 then flsFields (p - 0x91) else
   if p = 0x97 then safFields else
   if 0xA0 ≤ p ∧ p < 0xA4 then gqFields (p - 0xA0) else
   if p = 0xB0 then carFields else
   if p = 0xB1 then updFields else
   if p = 0xB2 then setFields else
   [])

end Sys2Proof.Machine
end

