-- ==== Sys2Proof/Machine/Ops.lean ====
section
/-! DEFINITION. The shared operations: sparse lists, register fields, events, write errors, outputs, pages
and their power. -/

namespace Sys2Proof.Machine

/-! ### Sparse lists in rising order of key -/

/-- The value listed under `k`. -/
def look {α : Type} : List (Nat × α) → Nat → Option α
  | [], _ => none
  | (j, v) :: t, k => if j = k then some v else look t k

/-- The list without the entry of `k`. -/
def drop {α : Type} : List (Nat × α) → Nat → List (Nat × α)
  | [], _ => []
  | (j, v) :: t, k => if j = k then drop t k else (j, v) :: drop t k

/-- The entry put before the first larger key. -/
def insert {α : Type} : List (Nat × α) → Nat → α → List (Nat × α)
  | [], k, v => [(k, v)]
  | (j, u) :: t, k, v => if k < j then (k, v) :: (j, u) :: t else (j, u) :: insert t k v

/-- `k` listed with `v`, or not listed when `v` is the value an unlisted key has. -/
def put {α : Type} [DecidableEq α] (dflt : α) (l : List (Nat × α)) (k : Nat) (v : α) : List (Nat × α) :=
  if v = dflt then drop l k else insert (drop l k) k v

/-- The keys rise strictly. -/
def rising {α : Type} : List (Nat × α) → Bool
  | [] => true
  | [_] => true
  | (j, _) :: (k, v) :: t => j < k && rising ((k, v) :: t)

/-- A number put into a rising list of numbers without repeats. -/
def addNat : List Nat → Nat → List Nat
  | [], k => [k]
  | j :: t, k => if k < j then k :: j :: t else if k = j then j :: t else j :: addNat t k

/-- Change entry `i` of a list. -/
def modify {α : Type} (l : List α) (i : Nat) (f : α → α) : List α :=
  match l, i with
  | [], _ => []
  | a :: t, 0 => f a :: t
  | a :: t, i + 1 => a :: modify t i f

/-! ### Register fields -/

/-- The key of a field in the register file. -/
def Fld.key (f : Fld) : Nat := f.addr * 32 + f.lo

/-- The stored value of a field: what is listed, or its reset value. -/
def get (f : Fld) (s : State) : Nat := (look s.regs f.key).getD f.reset

/-- Store the low `w` bits of `v` in a field. -/
def set (f : Fld) (v : Nat) (s : State) : State :=
  { s with regs := put f.reset s.regs f.key (v % 2 ^ f.w) }

/-- A one-bit field as a truth value. -/
def isSet (f : Fld) (s : State) : Bool := get f s != 0

/-- Set a one-bit field to a truth value. -/
def put1 (f : Fld) (b : Bool) (s : State) : State := set f (b2n b) s

/-- The present value into a field as two's complement. -/
def setInt (f : Fld) (i : Int) (s : State) : State := set f (encodeSigned f.w i) s

/-- The two's complement value of a field. -/
def getInt (f : Fld) (s : State) : Int := signedOf f.w (get f s)

/-- Count up by `k`, stopping at the field's ceiling ("saturates"). -/
def count (f : Fld) (k : Nat) (s : State) : State := set f (satAdd (2 ^ f.w - 1) (get f s) k) s

/-- Count up by 1, stopping at the field's ceiling. -/
def inc (f : Fld) (s : State) : State := count f 1 s

/-- Set a field and, with it, nothing when the condition does not hold. -/
def when (c : Bool) (f : State → State) (s : State) : State := if c then f s else s

/-- Run `f` for every element of a list, first to last. -/
def forEach {α : Type} (l : List α) (f : α → State → State) (s : State) : State :=
  l.foldl (fun t a => f a t) s

/-- Latch event `k` of page `p` (R83). -/
def event (p k : Nat) (s : State) : State := set (Reg.EVT_STS p k) 1 s

/-- Show the level of event condition `k` of page `p` in `EVT_LIVE`. -/
def live (p k : Nat) (b : Bool) (s : State) : State :=
  let w := get (Reg.EVT_LIVE p) s
  set (Reg.EVT_LIVE p) (w - bitsOf w k 1 * 2 ^ k + b2n b * 2 ^ k) s

/-- Record a discarded write in `BLKWERR`: the error bit, its offset and its writer (R83). -/
def werr (bit : Nat → Fld) (w : Writer) (addr : Nat) (s : State) : State :=
  s |> set (bit (addr / 4096)) 1
    |> set (Reg.BLKWERR_OFFSET (addr / 4096)) (addr % 4096)
    |> set (Reg.BLKWERR_SOURCE (addr / 4096)) w.code

def werrStatic (w : Writer) (addr : Nat) : State → State := werr Reg.BLKWERR_STATIC w addr
def werrLocked (w : Writer) (addr : Nat) : State → State := werr Reg.BLKWERR_LOCKED w addr
def werrRange (w : Writer) (addr : Nat) : State → State := werr Reg.BLKWERR_RANGE w addr
def werrBusy (w : Writer) (addr : Nat) : State → State := werr Reg.BLKWERR_BUSY w addr

/-- Send. -/
def emit (o : Out) (s : State) : State := { s with out := s.out ++ [o] }

/-- Ask for a reaction that the end of the command carries out. -/
def request (r : Req) (s : State) : State := { s with reqs := s.reqs ++ [r] }

/-- A fresh free value (log entry 3). -/
def freshWord (s : State) : Word := Config.freeWord s.free

/-- The free value just read is used up. (log entry 3: DESIGN CHOICE). -/
def spend (s : State) : State := { s with free := s.free + 1 }

/-! ### Frames -/

/-- The frame counter. -/
def now (s : State) : Nat := s.frm.count.toNat

/-- Its low 32 bits, as records and registers show it. -/
def now32 (s : State) : Nat := now s % 2 ^ 32

/-! ### Pages and domains -/

/-- A port is in use (R1). -/
def portUsed (n : Nat) (s : State) : Bool := bitOf (get Reg.SYS.CAPS_HP_PRESENT s) n

/-- The unit of a page is populated (R1): the port, the channel, the twin or the ring it stands for. -/
def pagePresent (p : Nat) (s : State) : Bool :=
  if 8 ≤ p && p < 0xC then portUsed (p - 8) s
  else if 0x20 ≤ p && p < 0x30 then bitOf (get Reg.SYS.CAPS_DRAM_GROUPS s) ((p - 0x20) / 4)
  else if 0x45 ≤ p && p < 0x49 then portUsed (p - 0x45) s
  else if 0x60 ≤ p && p < 0x80 then bitOf (get Reg.SYS.CAPS_NAND_GROUPS s) ((p - 0x60) / 4)
  else if p = 0xC0 || p = 0xC1 then isSet Reg.SYS.CAPS_TWIN s
  else if p = 0xD0 || p = 0xD1 then isSet Reg.SYS.CAPS_RING s
  else true

/-- A domain is on (R398). -/
def domainOn (d : Nat) (s : State) : Bool := get (Reg.PDM.DOM_CTL_STATE d) s == 0

/-- The power domain of a page is on (R82, R87). -/
def pagePowered (p : Nat) (s : State) : Bool :=
  match pageDomain p with
  | none => s.pwr.vaon
  | some d => domainOn d s

/-- A page is dark (R79, R86): unused, unpowered, or of a unit that is not present. -/
def pageDark (p : Nat) (s : State) : Bool := !(pageUsed p && pagePowered p s && pagePresent p s)

/-- A fence is active (R503). -/
def fenced (s : State) : Bool := isSet Reg.SYS.PERSIST_FENCED s

/-- The device is admitted: the restore's host admission has taken place. -/
def admittedNow (s : State) : Bool := !isSet Reg.SYS.PERSIST_BOOT s

/-- The controller is in the safe state (R414). -/
def inSafe (s : State) : Bool := isSet Reg.SYS.PERSIST_SAFE s

/-- The granule size in bytes of an encoding (R4). -/
def granBytesOf (code : Nat) : Nat := 16384 * 2 ^ (code % 4)

/-- The granule size in use, in bytes (R4). -/
def granBytes (s : State) : Nat := granBytesOf (get Reg.MRV.CFG_GRAN_IN_USE s)

/-- Lines in a granule. -/
def granLines (s : State) : Nat := granBytes s / 64

/-- The exposed capacity in bytes. -/
def exposedBytes (s : State) : Nat := get Reg.SYS.CAP_ACK_EXPOSED_GIB s * 2 ^ 30

/-- H: home granules (R232). -/
def homeGranules (s : State) : Nat := exposedBytes s / granBytes s

/-- H + M: Marver entries in use (R232). -/
def mapEntries (s : State) : Nat := get Reg.MRV.MAP_ENTRIES s

/-- The granule of a line; home lines first, mirror lines above the exposed capacity (R131). -/
def granuleOf (line : Nat) (s : State) : Nat := line / granLines s

/-- The settings store's copy of a stored field (R475). (log entries 5, 81: DESIGN CHOICE, DEDUCED). -/
def storeSetting (f : Fld) (v : Nat) (s : State) : State :=
  { s with upd := { s.upd with settings := put f.reset s.upd.settings f.key v,
                               appended := s.upd.appended + 1, written := s.upd.written + 1 } }

/-! ### Register pages: busy, writes in general -/

/-- A bank of the code array runs an operation. -/
def carBusy (b : CarBank) : Bool := b.op.isSome && !(b.op.map (·.suspended)).getD false

/-- `BLKSTS.BUSY` of a page: what the chapters call work in flight (R83, R200, R443). -/
def pageBusy (p : Nat) (s : State) : Bool :=
  if p = 0x42 then fenced s
  else if p = 0x43 then 1 ≤ get Reg.RSR.STS_STAGE s && get Reg.RSR.STS_STAGE s < 9
  else if p = 0x44 then
    (List.range 64).any (fun g =>
      let st := get (Reg.TXC.CTX_STS_STATE (g / 16) (g % 16)) s
      st = 1 || st = 2 || st = 3 || st = 5 || st = 7 || isSet (Reg.TXC.CTX_STS_CLEARING (g / 16) (g % 16)) s)
  else if p = 0x11 then isSet Reg.SPR.MIG_STS_ACTIVE s
  else if 0x20 ≤ p && p < 0x30 then
    s.dram.writes.any (·.ch == p - 0x20) || s.dram.reads.any (·.ch == p - 0x20) ||
    s.dram.retraining.any (fun i => i / 4 == p - 0x20)
  else if p = 0x41 then !s.nand.sealing.isEmpty
  else if p = 0x50 then s.nand.checkpoint.isSome || !s.nand.moving.isEmpty || !s.nand.erasing.isEmpty
  else if 0xA0 ≤ p && p < 0xA4 then
    let q := s.gq.getD (p - 0xA0) {}
    !q.held.isEmpty || !q.packing.isEmpty
  else if p = 0xB0 then carBusy s.car.bank0 || carBusy s.car.bank1
  else if p = 0xB1 then s.upd.transfer.isSome
  else if p = 0xB2 then s.upd.compacting
  else if p = 0x40 then isSet Reg.MRV.RC_STS_FULL_ACTIVE s
  else if p = 0x80 then isSet Reg.ENG.EXERCISE_ACTIVE s || s.eng.capTest.isSome
  else if p = 0x81 then s.pwr.seq != .none
  else if p = 0x82 then !s.pwr.switching.isEmpty
  else if 8 ≤ p && p < 0xC then
    s.hp.writes.any (·.port == p - 8) || s.hp.reads.any (·.port == p - 8) || s.hp.stalled.any (·.port == p - 8)
  else false

/-- `BLKSTS.READY` of a page (R83). -/
def pageReady (p : Nat) (s : State) : Bool :=
  isSet (Reg.BLKCTL_ENABLE p) s && !pageDark p s && !isSet (Reg.BLKSTS_ABORTING p) s &&
  !isSet (Reg.BLKSTS_FROZEN p) s

/-- A frozen page takes no new work (R83). -/
def pageFrozen (p : Nat) (s : State) : Bool := isSet (Reg.BLKCTL_FREEZE p) s

/-- A writer may write the register at an address (R77): the management port, the management endpoint and the
Gaffer core write everything; another port n its own HPTn and TXCn pages, and `TXN.COMMIT` with its contexts. -/
def mayWrite (w : Writer) (addr data : Nat) (s : State) : Bool :=
  match w with
  | .port n =>
    n.val = get Reg.SYS.MGMT_PORT_PORT s || addr / 4096 = 8 + n.val || addr / 4096 = 0x45 + n.val ||
    (addr = 0x44108 && data % 64 / 16 = n.val)
  | _ => true

/-- Count a write that R77 refuses. -/
def foreignWrite (w : Writer) (s : State) : State :=
  s |> inc Reg.SYS.FOREIGN_WR_COUNT |> set Reg.SYS.FOREIGN_WR_PORT w.code

/-- Count a write to an unused slot or a dark page (R79, R86). -/
def darkWrite (w : Writer) (addr : Nat) (s : State) : State :=
  s |> inc Reg.SYS.DARKWRITES_COUNT |> set Reg.SYS.DARK_LAST_PAGE (addr / 4096)
    |> set Reg.SYS.DARK_LAST_OFFSET (addr % 4096) |> set Reg.SYS.DARK_LAST_SOURCE w.code

/-- A write reaches its register only past R77 and R86. -/
def reach (w : Writer) (addr data : Nat) (k : State → State) (s : State) : State :=
  if !mayWrite w addr data s then foreignWrite w s
  else if pageDark (addr / 4096) s then darkWrite w addr s
  else k s

/-- The writer is the management port, the management endpoint or the Gaffer core. -/
def isManagement (w : Writer) (s : State) : Bool :=
  match w with
  | .port n => n.val == get Reg.SYS.MGMT_PORT_PORT s
  | _ => true

end Sys2Proof.Machine
end

