-- ==== Sys2Proof/Machine/CellOps.lean ====
section
/-! DEFINITION. The cells of the Traune ring: their types, their payloads, their CRC, and sending one (R357, R359). -/

namespace Sys2Proof.Machine

/-- A cell with its payload (R359). -/
inductive Cell where
  | sync (frame delay flags : Nat)
  | claim (id : Nat)
  | enum (count frameMax : Nat)
  | break_ (index : Nat) (healed : Bool)
  | leave (id : Nat)
  | fence (frame : Nat)
  | ballot (tag parts frame : Nat)
  | tally (tag coord yes : Nat) (no : Bool) (segment : Nat)
  | decision (tag : Nat) (commit : Bool) (frame effective : Nat)
  | query (tag coord frame : Nat)
  | answer (tag querier ans frame : Nat)
  deriving DecidableEq, Repr

/-- The type code of a cell (R359). -/
def Cell.code : Cell → Nat
  | .sync _ _ _ => 0x01 | .claim _ => 0x02 | .enum _ _ => 0x03 | .break_ _ _ => 0x04 | .leave _ => 0x05
  | .fence _ => 0x06 | .ballot _ _ _ => 0x10 | .tally _ _ _ _ _ => 0x11 | .decision _ _ _ _ => 0x12
  | .query _ _ _ => 0x13 | .answer _ _ _ _ => 0x14

/-- The payload's fields in the order of R359, each with its width. -/
def Cell.fields : Cell → List (Nat × Nat)
  | .sync frame delay flags => [(48, frame), (16, delay), (8, flags)]
  | .claim id => [(64, id)]
  | .enum count frameMax => [(10, count), (48, frameMax)]
  | .break_ index healed => [(9, index), (1, b2n healed)]
  | .leave id => [(64, id)]
  | .fence frame => [(48, frame)]
  | .ballot tag parts frame => [(22, tag), (10, parts), (32, frame)]
  | .tally tag coord yes no segment => [(22, tag), (9, coord), (10, yes), (1, b2n no), (2, segment)]
  | .decision tag commit frame effective => [(22, tag), (1, b2n commit), (32, frame), (32, effective)]
  | .query tag coord frame => [(22, tag), (9, coord), (32, frame)]
  | .answer tag querier ans frame => [(22, tag), (9, querier), (3, ans), (32, frame)]

/-- Fields packed from the top of `width` bits downward; the unused low bits are 0 (R357). -/
def packDown : Nat → List (Nat × Nat) → Nat
  | _, [] => 0
  | width, (w, v) :: t => v % 2 ^ w * 2 ^ (width - w) + packDown (width - w) t

/-- One step of the CRC-16 of polynomial 0x1021 (R357). -/
def crc16Step (crc : Nat) (bit : Bool) : Nat :=
  let shifted := crc * 2 % 2 ^ 16
  if (crc / 2 ^ 15 == 1) != bit then Nat.xor shifted 0x1021 else shifted

/-- The CRC-16 of a cell's bits [127:16], the highest first (R357). (log entry 53: DEDUCED). -/
def cellCrc (upper : Nat) : Nat :=
  (List.range 112).foldl (fun crc i => crc16Step crc (upper.testBit (111 - i))) 0xFFFF

/-- The 128 bits of a cell from the ring index `src` that starts on ring A or B (R357). -/
def Cell.bits (ringB : Bool) (src : Nat) (c : Cell) : BitVec 128 :=
  let upper := c.code * 2 ^ 104 + b2n ringB * 2 ^ 96 + src % 2 ^ 9 * 2 ^ 87 + packDown 87 c.fields
  BitVec.ofNat 128 (upper * 2 ^ 16 + cellCrc upper)

/-- A cell of another sender goes on with what this member changed in it, its CRC computed anew (R357). -/
def passCell (ringB : Bool) (src : Nat) (c : Cell) : State → State := emit (.cell ringB (c.bits ringB src))

/-- This member sends a cell on one ring. -/
def sendCell (ringB : Bool) (c : Cell) (s : State) : State := passCell ringB (get Reg.TRN.STS_INDEX s) c s

/-- This member sends a cell on both rings (R359). -/
def sendBoth (c : Cell) (s : State) : State := s |> sendCell false c |> sendCell true c

end Sys2Proof.Machine
end

