-- ==== Sys2Proof/Machine/GatherOps.lean ====
section
/-! DEFINITION. The Gather queues: records, packing, credits, positions and watermarks (R429 to R445). -/

namespace Sys2Proof.Machine

/-- Queue `q`. -/
def queue (q : Nat) (s : State) : Gather := s.gq.getD q {}

/-- Change queue `q`. -/
def setQueue (q : Nat) (f : Gather → Gather) (s : State) : State := { s with gq := modify s.gq q f }

/-- `n` as `k` words of 16 bits, low word first (R441). -/
def words16 : Nat → Nat → List (BitVec 16)
  | 0, _ => []
  | k + 1, n => BitVec.ofNat 16 n :: words16 k (n / 2 ^ 16)

/-- A record: type and length, the frame of the event, the payload (R440). -/
def record (type : Nat) (payload : List (BitVec 16)) (s : State) : List (BitVec 16) :=
  BitVec.ofNat 16 (type * 256 + (4 + payload.length) % 256) :: words16 3 (now s) ++ payload

/-- Capacity in wide words (R435). -/
def queueCapacity (q : Nat) (s : State) : Nat := 16 + get (Reg.GQ.CFG_SPILL_MIB q) s * 16384

/-- Depth in completed wide words (R435). -/
def queueDepth (q : Nat) (s : State) : Nat :=
  (get (Reg.GQ.WR_SEQ q) s + 2 ^ 32 - get (Reg.GQ.RD_SEQ q) s) % 2 ^ 32

/-- The watermarks against the held words (R439, R245): a crossing latches and counts while its mark is
armed, and a mark re-arms after HYST words back. -/
def queueMarks (q : Nat) (s : State) : State :=
  let p := 0xA0 + q
  let held := (queue q s).held.length
  let lo := get (Reg.GQ.WM_LO_PCT q) s * queueCapacity q s / 100
  let hi := get (Reg.GQ.WM_HI_PCT q) s * queueCapacity q s / 100
  let hyst := get (Reg.GQ.WM_HYST q) s
  let up := (queue q s).hiArmed && decide (hi ≤ held)
  let down := (queue q s).loArmed && decide (held < lo)
  s |> when up (fun s => s |> event p 0 |> inc (Reg.GQ.WM_CROSSINGS_HI q))
    |> when down (fun s => s |> event p 1 |> inc (Reg.GQ.WM_CROSSINGS_LO q))
    |> setQueue q (fun g => { g with
        hiArmed := if up then false else g.hiArmed || decide (held ≤ hi - hyst),
        loArmed := if down then false else g.loArmed || decide (lo + hyst ≤ held) })
    |> live p 0 (decide (hi ≤ held)) |> live p 1 (decide (held < lo))

/-- The credits of the push pool that may be returned are returned (R431). (log entry 95: DEDUCED). -/
def queueCredits (q : Nat) (s : State) : State :=
  let room := (queueCapacity q s - (queue q s).held.length) * 32
  setQueue q (fun g => { g with free := min 512 (max g.free (room - g.packing.length)) }) s

/-- The registers that show a queue follow its contents (R435, R445). (log entry 95: DEDUCED). -/
def queueShow (q : Nat) (s : State) : State :=
  let g := queue q s
  s |> set (Reg.GQ.HELD_WORDS q) g.held.length
    |> set (Reg.GQ.CAPACITY_WORDS q) (queueCapacity q s)
    |> set (Reg.GQ.STS_PACK q) g.packing.length
    |> put1 (Reg.GQ.STS_TAIL_FULL q) (decide (queueCapacity q s ≤ g.held.length))
    |> live (0xA0 + q) 3 (!g.waiting.isEmpty)
    |> live (0xA0 + q) 5 (decide (queueDepth q s ≠ 0))
    |> queueMarks q

/-- A wide word leaves packing for the tail (R433). -/
def emitWide (q : Nat) (words : List (BitVec 16)) (pad : Bool) (s : State) : State :=
  let empty := queueDepth q s == 0
  s |> setQueue q (fun g => { g with held := g.held ++ [{ words := words, pad := pad }] })
    |> set (Reg.GQ.WR_SEQ q) (get (Reg.GQ.WR_SEQ q) s + 1)
    |> when empty (event (0xA0 + q) 5)

/-- One narrow word goes into packing; the 32nd completes a wide word (R433). -/
def pushWord (q : Nat) (v : BitVec 16) (s : State) : State :=
  let packed := (queue q s).packing ++ [v]
  if packed.length = 32 then
    s |> setQueue q (fun g => { g with packing := [] }) |> emitWide q packed false
  else setQueue q (fun g => { g with packing := packed }) s

/-- Whole words pushed within credits. -/
def pushWords (q : Nat) (ws : List (BitVec 16)) (s : State) : State :=
  s |> setQueue q (fun g => { g with free := g.free - ws.length, pushed := true, idle := 0 })
    |> forEach ws (pushWord q)
    |> queueCredits q |> queueShow q

/-- Credits that a producer can take: none while the queue is not enabled (R431), and none during its abort (R93).
(log entry 95: DEDUCED). -/
def queueGrant (q : Nat) (s : State) : Nat :=
  if isSet (Reg.BLKCTL_ENABLE (0xA0 + q)) s && !isSet (Reg.BLKSTS_ABORTING (0xA0 + q)) s then (queue q s).free else 0

/-- The OVERFLOW record that precedes the first record after drops (R432). -/
def overflowRecord (q : Nat) (s : State) : List (BitVec 16) :=
  if (queue q s).dropped = 0 then []
  else record 0x01 (words16 2 (queue q s).dropped ++ words16 3 (queue q s).firstDrop) s

/-- A record reaches a queue: pushed within credits, or dropped and counted in GQ0, GQ1 and GQ3, or its
producer waits in GQ2 (R430 to R432). While the Gather domain is off it is not kept (R442). -/
def pushRecord (q : Nat) (rec : List (BitVec 16)) (s : State) : State :=
  if !domainOn 44 s then s
  else
    let unit := overflowRecord q s ++ rec
    if q = 2 then
      if (queue q s).waiting.isEmpty && decide (rec.length ≤ queueGrant q s) then pushWords q rec s
      else
        s |> setQueue q (fun g => { g with waiting := g.waiting ++ [rec] })
          |> event 0xA2 3 |> live 0xA2 3 true
    else if unit.length ≤ queueGrant q s then
      s |> setQueue q (fun g => { g with dropped := 0, firstDrop := 0 }) |> pushWords q unit
    else
      s |> setQueue q (fun g => { g with
            dropped := g.dropped + 1,
            firstDrop := if g.dropped = 0 then now s else g.firstDrop })
        |> inc (Reg.GQ.DROPS_COUNT q) |> event (0xA0 + q) 2

/-- A waiting producer of GQ2 pushes its record once credits cover it. -/
def serveOne (s : State) : State :=
  match (queue 2 s).waiting with
  | [] => s
  | rec :: rest =>
    if rec.length ≤ queueGrant 2 s && domainOn 44 s then
      s |> setQueue 2 (fun g => { g with waiting := rest }) |> pushWords 2 rec
    else s

/-- The producers that wait are served, oldest first, as far as credits reach. -/
def serveWaiting (s : State) : State := forEach (queue 2 s).waiting (fun _ => serveOne) s

/-- The packing word is emitted padded; nothing when it is empty (R433). -/
def flushPacking (q : Nat) (s : State) : State :=
  if (queue q s).packing.isEmpty then s
  else
    s |> setQueue q (fun g => { g with packing := [], idle := 0 })
      |> emitWide q (queue q s).packing true |> queueCredits q |> queueShow q

/-- READ (R436). -/
def opRead (q : Nat) (s : State) : State :=
  if 1 ≤ queueDepth q s then
    s |> set (Reg.GQ.RD_SEQ q) (get (Reg.GQ.RD_SEQ q) s + 1) |> set (Reg.GQ.STS_LAST_OP_EMPTY q) 0
      |> queueShow q
  else set (Reg.GQ.STS_LAST_OP_EMPTY q) 1 s

/-- MARK (R436). -/
def opMark (q : Nat) (s : State) : State := set (Reg.GQ.MARK_SEQ q) (get (Reg.GQ.RD_SEQ q) s) s

/-- REWIND (R436). -/
def opRewind (q : Nat) (s : State) : State :=
  s |> set (Reg.GQ.RD_SEQ q) (get (Reg.GQ.MARK_SEQ q) s) |> queueShow q

/-- RELEASE (R436): the words before RD are freed. -/
def opRelease (q : Nat) (s : State) : State :=
  let freed := (get (Reg.GQ.RD_SEQ q) s + 2 ^ 32 - get (Reg.GQ.RELEASED_SEQ q) s) % 2 ^ 32
  s |> setQueue q (fun g => { g with held := g.held.drop freed })
    |> set (Reg.GQ.RELEASED_SEQ q) (get (Reg.GQ.RD_SEQ q) s)
    |> set (Reg.GQ.MARK_SEQ q) (get (Reg.GQ.RD_SEQ q) s)
    |> queueCredits q |> when (q = 2) serveWaiting |> queueShow q

/-- A RESET of GQn discards every word held and the packing word (R443). -/
def queueReset (q : Nat) (s : State) : State :=
  let wr := get (Reg.GQ.WR_SEQ q) s
  s |> setQueue q (fun g => { g with held := [], packing := [], idle := 0 })
    |> set (Reg.GQ.RELEASED_SEQ q) wr |> set (Reg.GQ.MARK_SEQ q) wr |> set (Reg.GQ.RD_SEQ q) wr

/-! ### The records of R441 -/

/-- The FAULT record (R405, R441). -/
def faultRecord (n sev : Nat) (injected : Bool) (snap0 snap2 snap3 : Nat) (s : State) : State :=
  pushRecord 0 (record 0x10
    (BitVec.ofNat 16 (n + sev * 512 + b2n injected * 2 ^ 15) ::
      (words16 2 snap0 ++ words16 2 snap2 ++ words16 2 snap3)) s) s

/-- The LINE_POISONED record (R441). -/
def linePoisonedRecord (line finder : Nat) (s : State) : State :=
  pushRecord 0 (record 0x11 (words16 3 line ++ words16 1 finder) s) s

/-- The GRANULE_LOST record (R441). (log entry 77: PRESUMED). -/
def granuleLostRecord (granule cause : Nat) (s : State) : State :=
  pushRecord 0 (record 0x12 (words16 2 granule ++ words16 1 cause) s) s

/-- The UNDO_LOST record (R441). -/
def undoLostRecord (ctx line : Nat) (s : State) : State :=
  pushRecord 0 (record 0x13 (words16 1 ctx ++ words16 3 line) s) s

/-- The TWIN_CONFLICT record (R441). -/
def twinConflictRecord (granules : Nat) (s : State) : State :=
  pushRecord 0 (record 0x14 (words16 2 granules) s) s

/-- The RANK_STATE record (R441). -/
def rankStateRecord (rank st : Nat) (s : State) : State :=
  pushRecord 0 (record 0x15 (words16 1 (rank + st * 256)) s) s

/-- The TRAIN record (R441). -/
def trainRecord (ch rank result : Nat) (retrains : Nat) (s : State) : State :=
  pushRecord 3 (record 0x60 (words16 1 (ch + rank * 16 + result * 64) ++ words16 1 retrains) s) s

/-- The SELFTEST record (R441). -/
def selftestRecord (item result : Nat) (s : State) : State :=
  pushRecord 3 (record 0x61 (words16 1 item ++ words16 1 result) s) s

/-- `SYS.PERSIST` as a word. -/
def persistWord (s : State) : Nat :=
  get Reg.SYS.PERSIST_OK s + get Reg.SYS.PERSIST_BOOT s * 2 + get Reg.SYS.PERSIST_RECOUNT s * 4 +
  get Reg.SYS.PERSIST_BUDGET s * 8 + get Reg.SYS.PERSIST_FAULT s * 16 + get Reg.SYS.PERSIST_SAFE s * 32 +
  get Reg.SYS.PERSIST_CAPACITY s * 64 + get Reg.SYS.PERSIST_IN_DOUBT s * 128 +
  get Reg.SYS.PERSIST_FENCED s * 256 + get Reg.SYS.PERSIST_SCOPE s * 2 ^ 16 +
  get Reg.SYS.PERSIST_DOMAIN_OK s * 2 ^ 18 + get Reg.SYS.PERSIST_TWIN_DEGRADED s * 2 ^ 19

/-- The PERSIST_CHANGE record (R441). -/
def persistChangeRecord (s : State) : State :=
  pushRecord 2 (record 0x43 (words16 2 (persistWord s)) s) s

/-- The TELEMETRY record (R441). -/
def telemetryRecord (s : State) : State :=
  pushRecord 1 (record 0x20
    (words16 2 (get Reg.LEH.DIRTY_EFF_GRAN s) ++ words16 2 (get Reg.LEH.BUDGET_EFF_GRAN s) ++
     words16 2 (get Reg.ENG.E_AVAIL_MJ s) ++ words16 1 (get Reg.ENG.TEMP_T_STORE s) ++
     words16 1 (get Reg.LEH.RATE_SEALED s) ++ words16 1 (get Reg.LEH.RATE_NEW_DIRTY s) ++
     words16 1 (persistWord s)) s) s

end Sys2Proof.Machine
end

