-- ==== Sys2Proof/Machine/FaultOps.lean ====
section
/-! DEFINITION. The fault collector: raises, their fixed effects and reactions, the first-error latch, the
error pin, the entry into the safe state (R399 to R416). -/

namespace Sys2Proof.Machine

/-- A detection: the source, the reason code and instance of SNAP0, SNAP2 and SNAP3 (R406), whether it was
injected, and whether the condition persists (else the live bit is 1 for one cycle, R400). -/
structure Raise where
  n : Nat
  reason : Nat := 0
  inst : Nat := 0
  snap2 : Nat := 0
  snap3 : Nat := 0
  injected : Bool := false
  hold : Bool := false
  deriving DecidableEq, Repr

/-- SNAP0 of a raise (R406). -/
def snap0Of (x : Raise) : Nat := x.reason % 256 + x.inst % 65536 * 256 + b2n x.injected * 2 ^ 31

/-- The source whose sticky status a field key is, if it is one (R427). -/
def stickySource (key : Nat) : Option Nat :=
  let addr := key / 32
  let p := addr / 4096
  if 0x91 ≤ p && p < 0x97 && (addr % 4096 = 0x200 || addr % 4096 = 0x204) then
    some (64 * (p - 0x91) + 32 * (addr % 4096 / 4 % 2) + key % 32)
  else none

/-- The sources whose sticky status is set, ascending. -/
def stickySources (s : State) : List Nat :=
  s.regs.filterMap (fun e => if e.2 = 1 then stickySource e.1 else none)

/-- An S3 or S4 source has its sticky status set (R17, R280). -/
def dangerSticky (s : State) : Bool :=
  (stickySources s).any (fun n => 3 ≤ get (Reg.FLS.SRC_CFG_SEV n) s)

/-- SEAL_PATH_OK (R415): no source with SEAL_PATH has its live bit at 1. -/
def sealPathOk (s : State) : Bool := sealPathSources.all (fun n => !isSet (Reg.FLS.LIVE n) s)

/-- A save or ride-through is under way and its manifest is not programmed (R404): reactions wait.
(log entry 21: DEDUCED). -/
def reactionsWait (s : State) : Bool :=
  fenced s && !s.sav.manifestDone && !s.sav.resetFence

/-- The hardware pulse on `ERR_OUT_N` (R411, R412): until the tick that ends the fifth full frame. -/
def pinPulse (s : State) : State :=
  { s with pwr := { s.pwr with pulseLeft := 6 } }
    |> set Reg.FLT.PINCTL_LEVEL 1 |> set Reg.FLT.PINCTL_PULSE 1 |> set Reg.FLT.PINCTL_PIN 1
    |> inc Reg.FLT.PIN_COUNT_COUNT |> event 0x90 3

/-- The pin follows LEVEL once no pulse runs and hardware does not hold it (R411 to R413). -/
def pinFollow (s : State) : State :=
  if isSet Reg.FLT.PINCTL_PULSE s || isSet Reg.FLT.PINCTL_HW_HOLD s then s
  else set Reg.FLT.PINCTL_PIN (get Reg.FLT.PINCTL_LEVEL s) s

/-- Read-hold and Viral on a port in use (R415, R116). (log entry 101: PRESUMED). -/
def portReadHold (n : Nat) (s : State) : State :=
  if !portUsed n s then s
  else
    s |> set (Reg.HPT.STS_READ_HOLD n) 1
      |> when (isSet (Reg.HPT.CTL_VIRAL_EN n) s && s.hp.viralDvsec.contains n) (fun s =>
          s |> set (Reg.HPT.STS_VIRAL_SENT n) 1 |> emit (.viral n))

/-- Entry into the safe state (R414, R415): cause 1 an S4 raise, 2 the collector, 3 ENTER. -/
def enterSafe (cause source : Nat) (s : State) : State :=
  if inSafe s then s
  else
    s |> set Reg.SYS.PERSIST_SAFE 1
      |> set Reg.SAF.STS_SAFE 1 |> set Reg.SAF.STS_CAUSE cause |> set Reg.SAF.STS_SOURCE source
      |> set Reg.SAF.STS_SEAL_PATH_OK (b2n (sealPathOk s))
      |> set Reg.SAF.SAFE_FRAME_FRAME (now32 s)
      |> event 0x97 0
      |> forEach [0, 1, 2, 3] portReadHold
      |> when (cause != 2) pinPulse
      |> request (if sealPathOk s then .emergencySeal else .abortContexts)

/-- The first-error latch (R406, R407). S0 raises are not captured (R402). -/
def latchFirst (x : Raise) (sev : Nat) (s : State) : State :=
  if sev = 0 then s
  else if isSet Reg.FLT.FIRST_ID_VALID s then
    s |> set Reg.FLT.OVF_OVF 1 |> inc Reg.FLT.OVF_COUNT_COUNT |> event 0x90 1
  else
    { s with flt := { s.flt with firstRead := false } }
      |> set Reg.FLT.FIRST_ID_ID x.n |> set Reg.FLT.FIRST_ID_SEV sev |> set Reg.FLT.FIRST_ID_VALID 1
      |> set Reg.FLT.FIRST_ID_FIRST_SELF_CLEARED 0
      |> set Reg.FLT.FIRST_FRAME_LO_FRAME (now s) |> set Reg.FLT.FIRST_FRAME_HI_FRAME (now s / 2 ^ 32 % 2 ^ 16)
      |> set (Reg.FLT.FIRST_SNAP_DATA 0) (snap0Of x) |> set (Reg.FLT.FIRST_SNAP_DATA 1) (s.frm.phase % 2 ^ 16)
      |> set (Reg.FLT.FIRST_SNAP_DATA 2) x.snap2 |> set (Reg.FLT.FIRST_SNAP_DATA 3) x.snap3
      |> event 0x90 0

/-- The page that BLOCK_RESET resets for a source (R504): its block page, or the block its SNAP2 names. -/
def resetTarget (n snap2 : Nat) : Option Nat :=
  match srcPage n with
  | some p => some p
  | none =>
    if n = 184 then some (snap2 % 4096)
    else if n = 187 then some (snap2 / 4096 % 4096)
    else if n = 190 || n = 191 then some (0xA0 + snap2 % 4)
    else none

/-- The ACT reactions of a raise (R404). -/
def react (n act snap2 : Nat) (s : State) : State :=
  s |> when (bitOf act actIrqHost) (event (0x91 + n / 64) 0)
    |> when (bitOf act actIrqGaffer) (emit (.gafferFault n))
    |> when (bitOf act actNmi) (emit (.nmi n))
    |> when (bitOf act actPin) pinPulse
    |> when (bitOf act actBlockReset) (fun s =>
        match resetTarget n snap2 with
        | some p => request (.blockReset p) s
        | none => s)
    |> when (bitOf act actChipReset) (request .chipReset)

/-- The reactions that waited run once the manifest is programmed, each reset once (R404), or when a fence ends that no
save followed (log entry 21: DEDUCED). -/
def runWaiting (s : State) : State :=
  { s with sav := { s.sav with waitingActs := [] } }
    |> forEach s.sav.waitingActs (fun a => react a.1 a.2.1 a.2.2)
    |> (fun s => { s with reqs := s.reqs.dedup })

/-- The live bit of a source returns to 0 (R408). -/
def liveFall (n : Nat) (s : State) : State :=
  if !isSet (Reg.FLS.LIVE n) s then s
  else
    s |> set (Reg.FLS.LIVE n) 0
      |> when (isSet Reg.FLT.FIRST_ID_VALID s && get Reg.FLT.FIRST_ID_ID s == n && !s.flt.firstRead) (fun s =>
          s |> set Reg.FLT.FIRST_ID_FIRST_SELF_CLEARED 1 |> event 0x90 2)

/-- What the collector does on a fault of its own (R413): the pin held by hardware until the next chip
reset. -/
def collectorHold (s : State) : State :=
  s |> set Reg.FLT.PINCTL_HW_HOLD 1 |> set Reg.FLT.PINCTL_PIN 1

/-- The severity of a source at a raise; source 334 does not use SEV (R413). -/
def raiseSev (n : Nat) (s : State) : Nat := if n = 334 then 4 else get (Reg.FLS.SRC_CFG_SEV n) s

/-- The reactions of a raise (R404): where the raise enters the safe state, the entry itself starts the pulse of R411 (R415),
and PIN does not start a second one. (log entry 21: DEDUCED). -/
def actAtRaise (sev act : Nat) (s : State) : Nat :=
  if sev = 4 && !inSafe s then act - bitsOf act actPin 1 * 2 ^ actPin else act

/-- A detection (R400): the live bit's 0-to-1 transition sets the sticky status, counts, applies the fixed
effects (R402), loads the latch, writes the journal record (R405) and runs the reactions; nothing while the
live bit is 1 already, and nothing for a reserved number (R399). -/
def raise (x : Raise) (s : State) : State :=
  if srcReserved x.n || isSet (Reg.FLS.LIVE x.n) s then s
  else
    let sev := raiseSev x.n s
    let act := actAtRaise sev (get (Reg.FLS.SRC_CFG_ACT x.n) s) s
    s |> set (Reg.FLS.LIVE x.n) 1 |> set (Reg.FLS.STICKY x.n) 1 |> inc (Reg.FLS.SRC_CFG_COUNT x.n)
      |> when (3 ≤ sev) (set Reg.SYS.PERSIST_FAULT 1)
      |> latchFirst x sev
      |> when (2 ≤ sev) (faultRecord x.n sev x.injected (snap0Of x) x.snap2 x.snap3)
      |> when (x.n = 334) collectorHold
      |> when (sev = 4) (enterSafe (if x.n = 334 then 2 else 1) x.n)
      |> when (x.n ≠ 334) (fun s =>
          if reactionsWait s then
            { s with sav := { s.sav with waitingActs := s.sav.waitingActs ++ [(x.n, act, x.snap2)] } }
          else react x.n act x.snap2 s)
      |> when (!x.hold) (liveFall x.n)

/-- Raise with a reason only. -/
def raiseSimple (n reason inst snap2 snap3 : Nat) (s : State) : State :=
  raise { n := n, reason := reason, inst := inst, snap2 := snap2, snap3 := snap3 } s

/-- Raise a condition that persists until `liveFall`. -/
def raiseHeld (n reason inst snap2 snap3 : Nat) (s : State) : State :=
  raise { n := n, reason := reason, inst := inst, snap2 := snap2, snap3 := snap3, hold := true } s

end Sys2Proof.Machine
end

