-- ==== Sys2Proof/Machine/MemOps.lean ====
section
/-! DEFINITION. The module DRAM as bytes and lines, poison, and the Marver's entries and counters (R130,
R162, R166, R230 to R241). -/

namespace Sys2Proof.Machine

/-! ### Bytes and lines -/

/-- The canonical form of memory: addresses rise strictly, and no listed byte is 0. (log entry 99: DESIGN CHOICE). -/
def Memory.wf (m : List Host.Cell) : Bool := rising m && m.all (fun c => c.2 != 0)

/-- The byte at a DRAM address; an unlisted byte is 0 (R241, R309). (log entry 99: DESIGN CHOICE). -/
def readByte (a : Nat) (s : State) : Byte := (look s.dram.mem a).getD 0

/-- Store a byte. -/
def writeByte (a : Nat) (b : Byte) (s : State) : State :=
  { s with dram := { s.dram with mem := put (0 : Byte) s.dram.mem a b } }

/-- The bytes `a`, `a + 1`, … as a number, the byte at `a` least significant. -/
def readBytes : Nat → Nat → State → Nat
  | 0, _, _ => 0
  | k + 1, a, s => (readByte a s).toNat + 256 * readBytes k (a + 1) s

/-- The 64 bytes of a line. -/
def readLine (line : Nat) (s : State) : Line := BitVec.ofNat 512 (readBytes 64 (64 * line) s)

/-- Byte `i` of a line. -/
def lineByte (d : Line) (i : Nat) : Byte := BitVec.ofNat 8 (d.toNat / 2 ^ (8 * i))

/-- Store the bytes that the byte enables select, in one line. -/
def writeLine (line : Nat) (be : BitVec 64) (d : Line) (s : State) : State :=
  forEach (List.range 64) (fun i => when (be.getLsbD i) (writeByte (64 * line + i) (lineByte d i))) s

/-- All byte enables. -/
def allBytes : BitVec 64 := BitVec.allOnes 64

/-- The line with the enabled bytes replaced (R142). -/
def mergeLine (old : Line) (be : BitVec 64) (d : Line) : Line :=
  BitVec.ofNat 512 ((List.range 64).foldr
    (fun i n => (if be.getLsbD i then lineByte d i else lineByte old i).toNat + 256 * n) 0)

/-- A line's codeword carries the poison pattern (R162). -/
def isPoisoned (line : Nat) (s : State) : Bool := s.dram.poisoned.contains line

/-- Replace the list of poisoned lines. -/
def setPoisoned (l : List Nat) (s : State) : State :=
  { s with dram := { s.dram with poisoned := l } }

/-- The poison pattern is written, or a write with good check bits removes it. -/
def addPoison (line : Nat) (s : State) : State := setPoisoned (addNat s.dram.poisoned line) s
def clearPoisonAt (line : Nat) (s : State) : State :=
  if isPoisoned line s then setPoisoned (s.dram.poisoned.filter (· != line)) s else s

/-- The lines of a granule, as a range of lines. -/
def granuleBase (g : Nat) (s : State) : Nat := g * granLines s

/-- The bytes of a granule that are not 0, as the image of a seal record: offsets in the granule. -/
def granuleImage (g : Nat) (s : State) : List Host.Cell :=
  let lo := g * granBytes s
  (s.dram.mem.filter (fun c => lo ≤ c.1 && c.1 < lo + granBytes s)).map (fun c => (c.1 - lo, c.2))

/-- The poisoned lines of a granule, as line offsets (the POISON bitmap of R208). -/
def granulePoison (g : Nat) (s : State) : List Nat :=
  (s.dram.poisoned.filter (fun l => granuleOf l s == g)).map (· - granuleBase g s)

/-! ### Regions -/

/-- The mirror region's capacity in bytes: the entries of R232 above the home granules. -/
def mirrorGranules (s : State) : Nat := mapEntries s - homeGranules s

/-- The undo region in bytes (R181). (log entry 100: DESIGN CHOICE). -/
def undoBase (s : State) : Nat := get Reg.TXN.UNDO_CFG_BASE_GIB s * 2 ^ 30
def undoSize (s : State) : Nat := get Reg.TXN.UNDO_CFG_SIZE_GIB s * 2 ^ 30

/-- A DRAM byte address lies in the undo region. -/
def inUndo (addr : Nat) (s : State) : Bool := undoBase s ≤ addr && addr < undoBase s + undoSize s

/-- A granule is one of the undo region. -/
def isUndoGranule (g : Nat) (s : State) : Bool := inUndo (g * granBytes s) s

/-- The spill region of queue `q` in bytes (R434). -/
def spillBase (q : Nat) (s : State) : Nat := get (Reg.GQ.SPILL_BASE_BASE_MIB q) s * 2 ^ 20
def spillSize (q : Nat) (s : State) : Nat := get (Reg.GQ.CFG_SPILL_MIB q) s * 2 ^ 20

/-- A home address lies in a spill region. (log entry 35: DESIGN CHOICE). -/
def inSpill (addr : Nat) (s : State) : Bool :=
  (List.range 4).any (fun q => spillBase q s ≤ addr && addr < spillBase q s + spillSize q s)

/-- A granule has an entry in use that is counted (R232): not one of the undo region or of a spill region (R181,
R434). -/
def entryInUse (g : Nat) (s : State) : Bool :=
  g < mapEntries s && !isUndoGranule g s && !inSpill (g * granBytes s) s

/-! ### Marver entries -/

/-- The entry of a granule. -/
def entryOf (g : Nat) (s : State) : Entry := (look s.mrv.entries g).getD {}

/-- A counter moves with a condition that an entry's change turns on or off. -/
def follow (f : Fld) (before after : Bool) (s : State) : State :=
  if before = after then s
  else if after then set f (get f s + 1) s
  else set f (get f s - 1) s

/-- A group has an entry that is not CLEAN. -/
def groupDirty (k : Nat) (s : State) : Bool :=
  s.mrv.entries.any (fun e => e.1 / 64 == k && e.2.state != .clean)

/-- The summary bit and the age word of a group follow its entries (R236). -/
def groupFollow (k : Nat) (s : State) : State :=
  let groups :=
    if groupDirty k s then
      if (look s.mrv.groups k).isSome then s.mrv.groups
      else insert s.mrv.groups k { stamp := now s % 65536, old := false }
    else drop s.mrv.groups k
  { s with mrv := { s.mrv with groups := groups } } |> set Reg.MRV.GROUPS_SET groups.length

/-- The recount accumulator moves with an entry below the cursor (R237). -/
def accumFollow (g : Nat) (before after : Bool) (s : State) : State :=
  if before = after || get Reg.MRV.RC_CURSOR_INDEX s ≤ g then s
  else { s with mrv := { s.mrv with accum := if after then s.mrv.accum + 1 else s.mrv.accum - 1 } }

/-- Store an entry without the dirty counter (R231 for a rebuilt entry). -/
def placeEntry (g : Nat) (e : Entry) (s : State) : State :=
  let o := entryOf g s
  { s with mrv := { s.mrv with entries := put {} s.mrv.entries g e } }
    |> follow Reg.MRV.LOST_COUNT o.lost e.lost
    |> follow Reg.MRV.HELD_COUNT o.txHeld e.txHeld
    |> follow Reg.MRV.TWIN_DIRTY_COUNT o.twinDirty e.twinDirty
    |> groupFollow (g / 64)

/-- Store an entry: the counters, the summary bit, the age word and the accumulator move in the same
cycle (R236, R237). -/
def putEntry (g : Nat) (e : Entry) (s : State) : State :=
  let was := (entryOf g s).state != .clean
  s |> placeEntry g e
    |> follow Reg.MRV.DIRTY_COUNT was (e.state != .clean)
    |> accumFollow g was (e.state != .clean)

/-- One more granule was made DIRTY in this frame (`LEH.RATE.NEW_DIRTY`, R246). -/
def countDirtied (g : Nat) (port : Option Nat) (s : State) : State :=
  let s := { s with mrv := { s.mrv with
              dirtiedNow := s.mrv.dirtiedNow + 1,
              mirrorNew := s.mrv.mirrorNew + b2n (homeGranules s ≤ g) } }
  match port with
  | some n => { s with hp := { s.hp with newDirty := modify s.hp.newDirty n (· + 1) } }
  | none => s

/-- A write to a granule (R239, R240, R234, R235). -/
def markWrite (g : Nat) (port : Option Nat) (s : State) : State :=
  if !entryInUse g s then s
  else
    let e := entryOf g s
    let twin := e.twinDirty || (isSet Reg.SYS.PERSIST_TWIN_DEGRADED s && g < homeGranules s)
    match e.state with
    | .clean =>
      s |> putEntry g { e with state := .dirty, heat := min 15 (e.heat + 1), twinDirty := twin }
        |> countDirtied g port
    | .sealing => putEntry g { e with state := .redirtied, heat := min 15 (e.heat + 1), twinDirty := twin } s
    | _ => putEntry g { e with twinDirty := twin } s

/-- A granule forced dirty (R240, R220, R224). -/
def forceDirty (g : Nat) (s : State) : State :=
  if !entryInUse g s then s
  else
    match (entryOf g s).state with
    | .clean => s |> putEntry g { entryOf g s with state := .dirty } |> countDirtied g none
    | _ => s

/-- The granule is marked LOST, with its record in the journal (R22, R166, R233). (log entry 77: PRESUMED). -/
def markLost (g cause : Nat) (s : State) : State :=
  if (entryOf g s).lost then s
  else s |> putEntry g { entryOf g s with lost := true } |> granuleLostRecord g cause

/-- A full recount starts: RECOUNT sets (R238). -/
def startFullRecount (byEcc : Bool) (s : State) : State :=
  { s with mrv := { s.mrv with fullByEcc := byEcc, fullEnded := false } }
    |> set Reg.MRV.RC_STS_FULL_ACTIVE 1 |> set Reg.SYS.PERSIST_RECOUNT 1

/-- A granule is held by some context. -/
def isHeld (g : Nat) (s : State) : Bool := s.txn.pairs.any (·.granule == g)

/-- The generation in the header of the granule's current seal record (R231). -/
def recordGen (g : Nat) (s : State) : Nat :=
  match look s.nand.map g with
  | none => 0
  | some c => ((s.nand.records.find? (fun r => r.loc.code == c)).map (·.gen)).getD 0

/-- The rebuild of an entry whose check bits fail (R231); a mirror entry never has TWIN_DIRTY (R235).
(log entry 112: DEDUCED). -/
def rebuildEntry (g : Nat) (s : State) : State :=
  s |> inc Reg.MRV.ECC_UE |> event 0x40 2 |> raiseSimple 177 0 0 g 0
    |> placeEntry g { state := .dirty, twinDirty := decide (g < homeGranules s), txHeld := isHeld g s, gen := recordGen g s }
    |> startFullRecount true

/-- The check of an entry that is read (R231). -/
def checkEntry (g : Nat) (ecc : MarverEcc) (s : State) : State :=
  match ecc with
  | .good => s
  | .corrected => s |> inc Reg.MRV.ECC_CE |> event 0x40 1 |> raiseSimple 176 0 0 g 0
  | .uncorrectable => rebuildEntry g s

/-- The payload bits of an entry (R230). -/
def Seal.code : Seal → Nat
  | .clean => 0 | .dirty => 1 | .sealing => 2 | .redirtied => 3

def entryCode (e : Entry) : Nat :=
  e.state.code + b2n e.twinDirty * 4 + b2n e.txHeld * 8 + b2n e.lost * 16 + e.heat % 16 * 32 + e.gen % 128 * 512

/-- Every entry SEALING or SEALING_REDIRTIED becomes DIRTY (R240: program failure, LEH abort, fence or chip
reset); the counter does not change. -/
def unsealAll (s : State) : State :=
  { s with nand := { s.nand with sealing := [] },
           mrv := { s.mrv with entries := s.mrv.entries.map (fun e =>
             (e.1, if e.2.state = .sealing ∨ e.2.state = .redirtied then { e.2 with state := .dirty } else e.2)) } }

/-- The dirty count that R26 to R28 compare with the budgets (R236). -/
def dirtyEff (s : State) : Nat := get Reg.MRV.DIRTY_COUNT s + get Reg.TXN.UNDO_USE_SLABS s

end Sys2Proof.Machine
end

