-- ==== Sys2Proof/Machine/Operands.lean ====
section
/-! DEFINITION. The operand forms of the block: the DRAM location of an address (R128 to R135), the
ranges and transaction windows of a host address (R80, R81, R131), and the physical rank behind a logical
one (R169, R171). -/

namespace Sys2Proof.Machine

/-- A DRAM location (R129, R130). -/
structure DramLoc where
  ch : Nat
  sub : Nat
  rank : Nat
  bg : Nat
  bank : Nat
  row : Nat
  col : Nat
  deriving DecidableEq, Repr

/-- A region of the table (R131). -/
structure Region where
  base : Nat
  log2 : Nat
  valid : Bool
  chBase : Nat
  chBits : Nat
  rankBase : Nat
  rankBits : Nat
  deriving DecidableEq, Repr

/-- Region `m` of `DMC.REGION_A` and `DMC.REGION_B`. -/
def regionOf (m : Nat) (s : State) : Region :=
  { base := get (Reg.DMC.REGION_A_BASE_GIB m) s * 2 ^ 30, log2 := get (Reg.DMC.REGION_A_SIZE_LOG2 m) s,
    valid := isSet (Reg.DMC.REGION_A_VALID m) s,
    chBase := get (Reg.DMC.REGION_B_CH_BASE m) s, chBits := get (Reg.DMC.REGION_B_CH_BITS m) s,
    rankBase := get (Reg.DMC.REGION_B_RANK_BASE m) s, rankBits := get (Reg.DMC.REGION_B_RANK_BITS m) s }

/-- The valid regions, with their numbers. -/
def regions (s : State) : List (Nat × Region) :=
  ((List.range 4).map (fun m => (m, regionOf m s))).filter (fun r => r.2.valid)

/-- The mask of hashed field `k` as an address mask (R134). -/
def hashMask (k : Nat) (s : State) : Nat :=
  get (Reg.DMC.HASH_LO_MASK_LO k) s * 2 ^ 6 + get (Reg.DMC.HASH_HI_MASK_HI k) s * 2 ^ 38

/-- The HOME bit of hashed field `k` (R130). -/
def hashHome (k : Nat) (s : State) : Nat := get (Reg.DMC.HASH_HI_HOME k) s

/-- The XOR of the bits of `n` below bit `w`. -/
def parity (n w : Nat) : Nat := ((List.range w).filter (bitOf n)).length % 2

/-- The fields a region uses (R130, R131). -/
def usedFields (r : Region) : List Nat :=
  List.range r.chBits ++ [4] ++ (List.range r.rankBits).map (· + 5) ++ [7, 8, 9, 10, 11]

/-- Field `k` of an offset in a region; mask bits at or above SIZE_LOG2 are ignored. -/
def fieldBit (r : Region) (a k : Nat) (s : State) : Nat :=
  if (usedFields r).contains k then parity (Nat.land a (hashMask k s % 2 ^ r.log2)) 40 else 0

/-- The direct bits of a region, ascending: not a HOME bit of a used field, from bit 6 to below SIZE_LOG2. -/
def directBits (r : Region) (s : State) : List Nat :=
  ((List.range r.log2).drop 6).filter (fun b => !(usedFields r).any (fun k => hashHome k s == b))

/-- The bits of `a` at the places listed, ascending. -/
def gatherBits (a : Nat) (places : List Nat) : Nat :=
  places.foldr (fun b n => b2n (bitOf a b) + 2 * n) 0

/-- Line-column bits (R128). -/
def colBits (s : State) : Nat := if isSet Reg.DMC.CFG_X8 s then 6 else 7

/-- Rank capacity per subchannel in bytes (R128). -/
def rankBytes (s : State) : Nat :=
  2 ^ 30 * (16 * (if isSet Reg.DMC.CFG_DENSITY s then 2 else 1) / (if isSet Reg.DMC.CFG_X8 s then 2 else 1))

/-- The location of an offset in a region (R130). -/
def mapIn (r : Region) (addr : Nat) (s : State) : DramLoc :=
  let a := addr - r.base
  let f := fun k => fieldBit r a k s
  let d := directBits r s
  { ch := r.chBase + f 0 + 2 * f 1 + 4 * f 2 + 8 * f 3,
    sub := f 4,
    rank := r.rankBase + f 5 + 2 * f 6,
    bg := f 7 + 2 * f 8 + 4 * f 9,
    bank := f 10 + 2 * f 11,
    col := gatherBits a (d.take (colBits s)),
    row := gatherBits a (d.drop (colBits s)) }

/-- The location of a DRAM address; none in no valid region. -/
def mapAddress (addr : Nat) (s : State) : Option DramLoc :=
  ((regions s).find? (fun r => r.2.base ≤ addr && addr < r.2.base + 2 ^ r.2.log2)).map
    (fun r => mapIn r.2 addr s)

/-- The location of a line; lines of an unmapped address stand at channel 0. -/
def lineLoc (line : Nat) (s : State) : DramLoc :=
  (mapAddress (64 * line) s).getD { ch := 0, sub := 0, rank := 0, bg := 0, bank := 0, row := 0, col := 0 }

/-- The spare entry that serves a logical rank, if one does. -/
def spareFor (ch rank : Nat) (s : State) : Option Nat :=
  (List.range 8).find? (fun m =>
    isSet (Reg.SPR.SPARE_VALID m) s && isSet (Reg.SPR.SPARE_IN_USE m) s &&
    get (Reg.SPR.SPARE_TARGET_CH m) s == ch && get (Reg.SPR.SPARE_TARGET_RANK m) s == rank)

/-- The rank line index of a location (R171): row, bank group, bank, subchannel, line-column. -/
def rankLineIndex (d : DramLoc) (s : State) : Nat :=
  (((d.row * 8 + d.bg) * 4 + d.bank) * 2 + d.sub) * 2 ^ colBits s + d.col

/-- The physical rank i = 4 × channel + rank of a spare entry. -/
def spareIndex (m : Nat) (s : State) : Nat :=
  4 * get (Reg.SPR.SPARE_CH m) s + get (Reg.SPR.SPARE_RANK m) s

/-- The physical rank that serves a location: the spare of a logical rank that has one, below the pointer
while it is being copied (R171), and else the rank itself. -/
def physicalRank (d : DramLoc) (s : State) : Nat :=
  match spareFor d.ch d.rank s with
  | none => 4 * d.ch + d.rank
  | some m =>
    if isSet Reg.SPR.MIG_STS_ACTIVE s && get Reg.SPR.MIG_STS_DST s == m then
      if rankLineIndex d s < get Reg.SPR.MIG_PTR_INDEX s then spareIndex m s
      else get Reg.SPR.MIG_STS_SRC s
    else spareIndex m s

/-- The physical rank of a line. -/
def rankOfLine (line : Nat) (s : State) : Nat := physicalRank (lineLoc line s) s

/-- The mapped capacity in bytes (R131). -/
def mappedBytes (s : State) : Nat := exposedBytes s + mirrorGranules s * granBytes s

/-! ### The checks of R132 -/

/-- Gaussian elimination over GF(2): the rows reduced by the row that has bit `b`, which leaves. -/
def reduceBit (b : Nat) (rows : List Nat) : Option (List Nat) :=
  match rows.find? (fun r => bitOf r b) with
  | none => none
  | some p => some ((rows.erase p).map (fun r => if bitOf r b then Nat.xor r p else r))

/-- The rows are a non-singular matrix on the columns listed. -/
def nonSingular : List Nat → List Nat → Bool
  | [], _ => true
  | b :: bs, rows =>
    match reduceBit b rows with
    | none => false
    | some rest => nonSingular bs rest

/-- The checks 1 to 4 of one region: the code and the field of the first failure. For code 1 the field named is the
later one of the equal pair, for code 4 it is 0: the spec does not say (log entry 103: DESIGN CHOICE). -/
def checkMasks (r : Region) (s : State) : Option (Nat × Nat) :=
  let fs := usedFields r
  match fs.find? (fun k => fs.any (fun j => j < k && hashHome j s == hashHome k s)) with
  | some k => some (1, k)
  | none =>
    match fs.find? (fun k => !bitOf (hashMask k s) (hashHome k s)) with
    | some k => some (2, k)
    | none =>
      match fs.find? (fun k => r.log2 ≤ hashHome k s) with
      | some k => some (3, k)
      | none =>
        if nonSingular (fs.map (fun k => hashHome k s)) (fs.map (fun k => hashMask k s)) then none
        else some (4, 0)

/-- Regions lie end to end from 0 to the mapped capacity (check 5): from `at_`, taking each region that
begins there. -/
def endToEnd : Nat → Nat → Nat → List Region → Bool
  | 0, at_, top, rs => at_ == top && rs.isEmpty
  | k + 1, at_, top, rs =>
    if rs.isEmpty then at_ == top
    else
      match rs.find? (fun r => r.base == at_) with
      | none => false
      | some r => endToEnd k (at_ + 2 ^ r.log2) top (rs.erase r)

/-- The (channel, rank) pairs of a region. -/
def regionRanks (r : Region) : List (Nat × Nat) :=
  (List.range (2 ^ r.chBits)).flatMap (fun c =>
    (List.range (2 ^ r.rankBits)).map (fun k => (r.chBase + c, r.rankBase + k)))

/-- A logical rank may be used: populated, and not designated as a spare (check 7). -/
def rankUsable (p : Nat × Nat) (s : State) : Bool :=
  get (Reg.SPR.RANK_STATE (4 * p.1 + p.2)) s != 0 &&
  !(List.range 8).any (fun m => isSet (Reg.SPR.SPARE_VALID m) s &&
      get (Reg.SPR.SPARE_CH m) s == p.1 && get (Reg.SPR.SPARE_RANK m) s == p.2)

/-- The checks of R132 in the order of their codes: code, region and field of the first failure; none when
all pass. Code 5 concerns several regions and names region 0; a `CH_BASE` or `RANK_BASE` that is no multiple of its
size, which R131 forbids and R132's table does not list, is reported as code 7 (log entry 103: DESIGN CHOICE). -/
def checkMap (s : State) : Option (Nat × Nat × Nat) :=
  let rs := regions s
  let first := fun (c : Nat) => rs.findSome? (fun r =>
    match checkMasks r.2 s with
    | some (code, k) => if code = c then some (c, r.1, k) else none
    | none => none)
  match first 1 with
  | some e => some e
  | none =>
  match first 2 with
  | some e => some e
  | none =>
  match first 3 with
  | some e => some e
  | none =>
  match first 4 with
  | some e => some e
  | none =>
    if !endToEnd 4 0 (mappedBytes s) (rs.map (·.2)) then some (5, 0, 0)
    else
      match rs.find? (fun r => 2 ^ r.2.log2 != 2 ^ r.2.chBits * 2 * 2 ^ r.2.rankBits * rankBytes s) with
      | some r => some (6, r.1, 0)
      | none =>
        match rs.find? (fun r =>
            !(regionRanks r.2).all (fun p => rankUsable p s) ||
            rs.any (fun q => q.1 < r.1 && (regionRanks q.2).any (fun p => (regionRanks r.2).contains p)) ||
            r.2.chBase % 2 ^ r.2.chBits != 0 || r.2.rankBase % 2 ^ r.2.rankBits != 0) with
        | some r => some (7, r.1, 0)
        | none => none

/-! ### Host addresses -/

/-- The bits of a window offset below the context (R81): the smallest k with 2^k at least the exposed
capacity. -/
def windowBits (s : State) : Nat :=
  ((List.range 45).find? (fun k => exposedBytes s ≤ 2 ^ k)).getD 45

/-- The context of a window offset (R81). -/
def windowCtx (off : Nat) (s : State) : Nat := off / 2 ^ windowBits s % 16

/-- The home address of a window offset (R81). -/
def windowHome (off : Nat) (s : State) : Nat := off % 2 ^ windowBits s

/-- PLL k relocks: what depends on it waits in its queues (R98). -/
def pllWaits (k : Nat) (s : State) : Bool := s.pwr.relocking.any (·.1 == k)

end Sys2Proof.Machine
end

