-- ==== Sys2Proof/Machine/Residue.lean ====
section
/-! DEFINITION. The 18-bit internal word and its residue (R46, R47): the form in which data travels, the check of one
word, of a number in several words, of a sum and a product, and of a 64-byte line in its 32 lanes. -/

namespace Sys2Proof.Machine

/-- An internal word: payload in [15:0], residue in [17:16] (R46). -/
abbrev IWord := BitVec 18

/-- The payload of an internal word. -/
def payloadOf (w : IWord) : Nat := w.toNat % 2 ^ 16

/-- The residue field of an internal word. -/
def residueOf (w : IWord) : Nat := w.toNat / 2 ^ 16

/-- The word checks (R46): its residue field is its payload modulo 3; the encoding 11 is no residue. -/
def wordGood (w : IWord) : Bool := residueOf w == payloadOf w % 3

/-- The internal word of a payload. -/
def internalWord (p : BitVec 16) : IWord := BitVec.ofNat 18 (p.toNat + p.toNat % 3 * 2 ^ 16)

/-- A number as `k` internal words, word 0 carrying the lowest payload bits (R46). -/
def internalWords : Nat → Nat → List IWord
  | 0, _ => []
  | k + 1, n => internalWord (BitVec.ofNat 16 n) :: internalWords k (n / 2 ^ 16)

/-- The residue of a number in several words: the sum of the words' residues modulo 3. -/
def wordsResidue (ws : List IWord) : Nat := (ws.foldl (fun n w => n + residueOf w) 0) % 3

/-- The number that several words carry. -/
def wordsValue (ws : List IWord) : Nat := ws.foldr (fun w n => payloadOf w + 2 ^ 16 * n) 0

/-- An adder's check (R46): the residue that the operands predict against that of the result's words. -/
def sumGood (a b r : List IWord) : Bool := (wordsResidue a + wordsResidue b) % 3 == wordsResidue r

/-- A multiplier's check (R46). -/
def productGood (a b r : List IWord) : Bool := wordsResidue a * wordsResidue b % 3 == wordsResidue r

/-- Lane `i` of a line, with its residue field as it arrives. -/
def lane (d : Line) (residues : BitVec 64) (i : Nat) : IWord :=
  BitVec.ofNat 18 (bitsOf d.toNat (16 * i) 16 + bitsOf residues.toNat (2 * i) 2 * 2 ^ 16)

/-- Every lane of a line checks (R47). -/
def lineGood (d : Line) (residues : BitVec 64) : Bool :=
  (List.range 32).all (fun i => wordGood (lane d residues i))

/-- The residue fields that a line's own lanes carry. -/
def lineResidues (d : Line) : BitVec 64 :=
  BitVec.ofNat 64 ((List.range 32).foldr (fun i n => bitsOf d.toNat (16 * i) 16 % 3 + 4 * n) 0)

end Sys2Proof.Machine
end

