-- ==== Sys2Proof/Machine/CreditOps.lean ====
section
/-! DEFINITION. The credit pools: their registers, their sizes and reserved shares, what senders hold and what is
queued, the free count, and a sender's stall (R41 to R45, R51, R136, R431). -/

namespace Sys2Proof.Machine

/-! ### The pools and their registers (R44) -/

/-- The offsets of the pool registers of a page (R44, and the register map of each chapter). (log entry 26: DEDUCED). -/
def poolOffsets (p : Nat) : List Nat :=
  if 8 ≤ p && p < 0xC then [0x120] else if 0x20 ≤ p && p < 0x30 then [0x124, 0x128]
  else if p = 0x11 then [0x118] else if p = 0x44 then [0x124] else if p = 0x50 then [0x13C]
  else if 0x60 ≤ p && p < 0x80 then [0x118] else if p = 0x41 then [0x15C] else if p = 0x42 then [0x13C]
  else if p = 0x43 then [0x148] else if p = 0xC0 then [0x10C, 0x110, 0x114, 0x118]
  else if p = 0xD0 then [0x130] else if p = 0xD1 then [0x128]
  else if 0xA0 ≤ p && p < 0xA4 then [0x138] else []

/-- A register of a page is that of a credit pool. -/
def isPool (p o : Nat) : Bool := (poolOffsets p).contains o

/-- The address of a pool's register. -/
def poolAddr (p o : Nat) : Nat := p * 4096 + o

/-- What a pool holds beyond its counts. -/
def poolOf (a : Nat) (s : State) : Pool := (s.pools.find? (fun q => q.addr == a)).getD { addr := a }

/-- It changes. -/
def setPool (a : Nat) (f : Pool → Pool) (s : State) : State :=
  { s with pools := s.pools.filter (fun q => q.addr != a) ++ [f (poolOf a s)] }

/-- The pools of a page are as after a reset: a block reset clears CONS_ERR (R44). -/
def clearPools (p : Nat) (s : State) : State :=
  { s with pools := s.pools.filter (fun q => q.addr / 4096 != p) }

/-! ### Counts -/

/-- The pools on a path into the DRAM controller or the NAND store, which hold a reserved share (R42). -/
def poolReserved (a : Nat) : Bool :=
  let p := a / 4096
  (0x20 ≤ p && p < 0x30) || p == 0x50 || (0x60 ≤ p && p < 0x80)

/-- RSV: 8 for the channels (R136); where the spec gives no number, the implementation's, and 0 outside those paths
(R42, R44). (log entry 25: DESIGN CHOICE). -/
def poolReserve (a : Nat) : Nat :=
  if 0x20 ≤ a / 4096 && a / 4096 < 0x30 then 8
  else if poolReserved a then max 1 (Config.poolReserve a).toNat
  else 0

/-- SIZE (R44, R136, R431); the implementation's where the spec gives none, and never within the reserved share.
(log entry 25: DESIGN CHOICE). -/
def poolSize (a : Nat) : Nat :=
  if 0x20 ≤ a / 4096 && a / 4096 < 0x30 then (if a % 4096 = 0x124 then 256 else 192)
  else if 0xA0 ≤ a / 4096 && a / 4096 < 0xA4 then 512
  else max (poolReserve a + 1) (Config.poolSize a).toNat

/-- Entries of a subchannel's pools (R136). -/
def poolWrites (ch sub : Nat) (s : State) : Nat :=
  (s.dram.writes.filter (fun e => e.ch == ch && e.sub == sub)).length
def poolReads (ch sub : Nat) (s : State) : Nat :=
  (s.dram.reads.filter (fun e => e.ch == ch && e.sub == sub)).length

/-- The entries in the queue behind a pool; a channel's requests that have issued are with DRAM, their credits held until
they complete. -/
def poolQueued (a : Nat) (s : State) : Nat :=
  let p := a / 4096
  let o := a % 4096
  if 8 ≤ p && p < 0xC then (s.hp.stalled.filter (fun q => q.port == p - 8 && q.be.isSome)).length
  else if 0x20 ≤ p && p < 0x30 then
    if o = 0x124 then (s.dram.reads.filter (fun e => e.ch == p - 0x20 && !e.issued)).length
    else (s.dram.writes.filter (fun e => e.ch == p - 0x20 && !e.issued)).length
  else if p = 0x11 then (s.dram.repairs.filter (fun r => r.finder == .migration)).length
  else if p = 0x44 then (s.hp.stalled.filter (fun q => q.why == .repair)).length
  else if p = 0x50 then s.nand.sealing.length
  else if 0x60 ≤ p && p < 0x80 then
    (s.nand.sealing.filter (fun r => r.loc.ch == p - 0x60)).length +
      (s.nand.moving.filter (fun r => r.loc.ch == p - 0x60)).length +
      (s.nand.erasing.filter (fun l => l.ch == p - 0x60)).length
  else if p = 0x41 then (s.nand.sealing.filter (fun r => !r.bySave)).length
  else if p = 0x42 then (s.nand.sealing.filter (fun r => r.bySave)).length
  else if p = 0x43 then s.rsr.inflight.length
  else if p = 0xC0 && o = 0x114 then s.twn.stalled.length
  else if p = 0xC0 && o = 0x118 then s.twn.copying.length
  else if 0xA0 ≤ p && p < 0xA4 then 512 - (queue (p - 0xA0) s).free
  else 0

/-- The credits that are held for requests that have left the queue and not completed: those of a channel that have
issued. -/
def poolHeld (a : Nat) (s : State) : Nat :=
  let p := a / 4096
  if 0x20 ≤ p && p < 0x30 then
    if a % 4096 = 0x124 then (s.dram.reads.filter (fun e => e.ch == p - 0x20 && e.issued)).length
    else (s.dram.writes.filter (fun e => e.ch == p - 0x20 && e.issued)).length
  else 0

/-- The free count of a pool. -/
def poolFree (a : Nat) (s : State) : Int :=
  (poolSize a : Int) - poolHeld a s - poolQueued a s + (poolOf a s).skew

/-- AVAIL, as its 12 bits can show it. -/
def poolAvail (a : Nat) (s : State) : Nat := min 4095 (poolFree a s).toNat

/-- The conservation check of R43 holds. -/
def poolConserved (a : Nat) (s : State) : Bool :=
  poolFree a s + poolHeld a s + poolQueued a s == (poolSize a : Int)

/-! ### Senders (R41, R42) -/

/-- A sender finds a credit: SAV and RSR in the whole pool, every other sender outside the reserved share. -/
def creditFor (a : Nat) (reserved : Bool) (s : State) : Bool :=
  decide ((if reserved then 0 else (poolReserve a : Int)) < poolFree a s)

/-- A sender stalls on a pool (R44). -/
def stallOn (a : Nat) (s : State) : State := setPool a (fun q => { q with stallSeen := true }) s

/-- A sender takes a credit and goes on, or stalls on the pool. -/
def withCredit (a : Nat) (reserved : Bool) (f : State → State) (s : State) : State :=
  if creditFor a reserved s then f s else stallOn a s

end Sys2Proof.Machine
end

