-- ==== Sys2Proof/Machine/DieOps.lean ====
section
/-! DEFINITION. The operations of the NAND dies, one queue a die (R214, R226), and the record that the flash map names
for a granule (R211). -/

namespace Sys2Proof.Machine

/-! ### The operations of a die (R214, R226) -/

/-- The operations of a die, the running one first. -/
def opsOf (ch die : Nat) (s : State) : List DieOp := (look s.nand.dieOps (16 * ch + die)).getD []

def setOps (ch die : Nat) (l : List DieOp) (s : State) : State :=
  { s with nand := { s.nand with dieOps := put [] s.nand.dieOps (16 * ch + die) l } }

/-- An operation is given to its die. -/
def issueOp (ch die : Nat) (op : DieOp) (s : State) : State :=
  emit (.nand ch die (match op.kind with | .program => "PROGRAM" | .read => "READ" | .erase => "ERASE") [op.what]) s

/-- An operation joins a die's queue: behind the one that runs, an urgent read ahead of every other queued operation
(R214). -/
def queueOp (ch die : Nat) (op : DieOp) (s : State) : State :=
  match opsOf ch die s with
  | [] => s |> setOps ch die [op] |> issueOp ch die op
  | h :: t =>
    let ahead := t.takeWhile (·.urgent)
    setOps ch die (h :: (if op.urgent then ahead ++ op :: t.drop ahead.length else t ++ [op])) s

/-- An operation of a die ends, and the next one begins. -/
def endOp (ch die : Nat) (kind : DieOpKind) (what : Nat) (s : State) : State :=
  match opsOf ch die s with
  | [] => s
  | h :: t =>
    if h.kind == kind && h.what == what then
      match t with
      | [] => setOps ch die [] s
      | n :: _ => s |> setOps ch die t |> issueOp ch die n
    else setOps ch die (h :: t.eraseP (fun o => o.kind == kind && o.what == what)) s

/-- An operation is given up (R226): one that runs completes inside the die, whose status is read before the die is used
again. -/
def dropOp (ch die : Nat) (kind : DieOpKind) (what : Nat) (s : State) : State :=
  s |> when ((opsOf ch die s).head?.any (fun o => o.kind == kind && o.what == what)) (emit (.nand ch die "READ STATUS" []))
    |> endOp ch die kind what

/-- The read of a record, by the granule it serves. -/
def readRecord (r : SealRec) (urgent : Bool) (s : State) : State :=
  queueOp r.loc.ch r.loc.die { kind := .read, what := r.granule, urgent := urgent } s

/-- Its end. -/
def recordRead (r : SealRec) (s : State) : State := endOp r.loc.ch r.loc.die .read r.granule s

/-- The current record of a granule (R211). -/
def currentRecord (g : Nat) (s : State) : Option SealRec :=
  match look s.nand.map g with
  | none => none
  | some c => s.nand.records.find? (fun r => r.granule == g && r.loc.code == c)

/-- The record of a granule is read for a repair or a demand: ahead of every other queued operation (R214). -/
def urgentRead (g : Nat) (s : State) : State :=
  match currentRecord g s with
  | some r => readRecord r true s
  | none => s

/-- That read has ended. -/
def urgentEnds (g : Nat) (s : State) : State :=
  match currentRecord g s with
  | some r => recordRead r s
  | none => s

end Sys2Proof.Machine
end

