-- ==== Sys2Proof/Machine/DramOps.lean ====
section
/-! DEFINITION. The DRAM side: write entries and forwarding, poisoned lines, rank states and retirement
(R136, R141, R142, R164 to R173). -/

namespace Sys2Proof.Machine

/-! ### Write entries -/

/-- A write entry on top of a line and its poison (R141, R142). -/
def overlay (e : WEntry) (d : Line × Bool) : Line × Bool :=
  (if e.be = allBytes then e.data else mergeLine d.1 e.be e.data, e.poison || (d.2 && e.be != allBytes))

/-- The present value of a line: DRAM with the queued and issued writes in age order, and whether it reads
as poison. -/
def lineNow (line : Nat) (s : State) : Line × Bool :=
  (s.dram.writes.filter (·.line == line)).foldl (fun d e => overlay e d) (readLine line s, isPoisoned line s)

/-- The youngest write entry of a line (R141). -/
def youngest (line : Nat) (s : State) : Option WEntry :=
  (s.dram.writes.filter (·.line == line)).getLast?

/-- The write pool of a subchannel is full for a sender that may not take the channel's reserved share (R42, R136,
R140). -/
def poolFull (ch sub : Nat) (s : State) : Bool :=
  96 ≤ poolWrites ch sub s || !creditFor (poolAddr (0x20 + ch) 0x128) false s

/-- Its read pool is. -/
def readsFull (ch sub : Nat) (s : State) : Bool :=
  128 ≤ poolReads ch sub s || !creditFor (poolAddr (0x20 + ch) 0x124) false s

/-- A write of the line finds a place: an entry to combine with, or room in the pool (R136). -/
def writeFits (line : Nat) (s : State) : Bool :=
  s.dram.writes.any (fun e => e.line == line && !e.issued) ||
    !poolFull (lineLoc line s).ch (lineLoc line s).sub s

/-- `DCHn.QDEPTH` follows the queues. -/
def depthShow (ch : Nat) (s : State) : State :=
  s |> set (Reg.DCH.QDEPTH_RD0 ch) (poolReads ch 0 s) |> set (Reg.DCH.QDEPTH_RD1 ch) (poolReads ch 1 s)
    |> set (Reg.DCH.QDEPTH_WR0 ch) (poolWrites ch 0 s) |> set (Reg.DCH.QDEPTH_WR1 ch) (poolWrites ch 1 s)

def setWrites (l : List WEntry) (s : State) : State := { s with dram := { s.dram with writes := l } }
def setReads (l : List REntry) (s : State) : State := { s with dram := { s.dram with reads := l } }

/-- A newer write combined into a queued one, newer bytes winning (R136). -/
def combine (e : WEntry) (be : BitVec 64) (data : Line) (poison : Bool) : WEntry :=
  { e with be := e.be ||| be, data := mergeLine e.data be data,
           poison := poison || (e.poison && be != allBytes) }

/-- The bytes written to a line since its failed read are noted with its repair (R165). -/
def noteRepair (line : Nat) (be : BitVec 64) (s : State) : State :=
  if s.dram.repairs.any (·.line == line) then
    { s with dram := { s.dram with repairs := s.dram.repairs.map (fun r =>
        if r.line = line then { r with written := r.written ||| be } else r) } }
  else s

/-- A write enters its subchannel's pool: combined into a queued entry of the line, or a new entry (R136).
The pool that fills sets WQ_FULL (R140). (log entry 37: DEDUCED). -/
def queueWrite (line : Nat) (be : BitVec 64) (data : Line) (poison : Bool) (s : State) : State :=
  let d := lineLoc line s
  if s.dram.writes.any (fun e => e.line == line && !e.issued) then
    setWrites (s.dram.writes.map (fun e =>
      if e.line = line ∧ e.issued = false then combine e be data poison else e)) s
  else
    s |> setWrites (s.dram.writes ++
          [{ line := line, ch := d.ch, sub := d.sub, be := be, data := data, poison := poison }])
      |> depthShow d.ch
      |> when (poolWrites d.ch d.sub s == 95) (event (0x20 + d.ch) 3)

/-- A write reaches DRAM: the enabled bytes change, and a whole good line ends the poison (R142); under a repair its
bytes are newer than the base that the repair brings (R165). -/
def landWrite (e : WEntry) (s : State) : State :=
  s |> writeLine e.line e.be e.data |> noteRepair e.line e.be
    |> (fun s => if e.poison then addPoison e.line s
                 else if e.be = allBytes then clearPoisonAt e.line s else s)

/-- An entry waits beyond a drain: for its rank's retraining (R143, R151), or its hashes did not agree (R48). -/
def waitsOn (e : WEntry) : Bool := !e.issued && (e.held || e.hashBad)

/-- Every queued write reaches DRAM, and the entries leave their pools (R149, R279); one that waits for its rank's
retraining stays (R151). -/
def drainWrites (s : State) : State :=
  s |> forEach (s.dram.writes.filter (fun e => !e.issued && !waitsOn e)) landWrite
    |> setWrites (s.dram.writes.filter waitsOn)
    |> forEach ((s.dram.writes.map (·.ch)).dedup) depthShow

/-! ### Refresh (R145, R149) -/

/-- The signed owed count. -/
def owed (ch : Nat) (s : State) : Int := getInt (Reg.DCH.STS_OWED ch) s

/-- REFab or RFMab on every rank of the channel: rows close, ranks leave power-down (R139, R147). -/
def sendRefresh (ch : Nat) (kind : String) (s : State) : State :=
  { s with dram := { s.dram with
      rows := s.dram.rows.filter (·.ch != ch),
      poweredDown := s.dram.poweredDown.filter (·.1 != ch),
      served := s.dram.served.filter (· != ch) } }
    |> set (Reg.DCH.STS_MODE ch) 2 |> emit (.dram ch 0 kind [])

/-- A refresh falls by one what is owed. -/
def payRefresh (ch : Nat) (s : State) : State :=
  s |> setInt (Reg.DCH.STS_OWED ch) (owed ch s - 1) |> sendRefresh ch "REFab"

/-- A channel issues refreshes until it owes none (R149); it never owes more than 5 (R145). -/
def repayRefresh (ch : Nat) (s : State) : State :=
  forEach (List.range 5) (fun _ s => if 1 ≤ owed ch s then payRefresh ch s else s) s

/-- All ranks enter self-refresh, once every channel has repaid its refreshes (R149, R282). -/
def enterSelfRefresh (s : State) : State :=
  let s := forEach ((List.range 16).filter (fun ch => pagePresent (0x20 + ch) s)) repayRefresh s
  { s with dram := { s.dram with selfRefresh := true, rows := [], retraining := [], poweredDown := [] } }

/-! ### Reads -/

/-- A read enters its subchannel's pool (R136). -/
def queueRead (line : Nat) (who : Reader) (s : State) : State :=
  let d := lineLoc line s
  s |> setReads (s.dram.reads ++ [{ line := line, ch := d.ch, sub := d.sub, who := who }]) |> depthShow d.ch

/-- The lines of partial writes that no read has been asked for yet (R142), a line under repair excepted. -/
def unreadPartials (ch sub : Nat) (s : State) : List Nat :=
  (s.dram.writes.filter (fun e => e.ch == ch && e.sub == sub && !e.issued && !e.ready && e.be != allBytes &&
    !s.dram.repairs.any (·.line == e.line) &&
    !s.dram.reads.any (fun r => r.line == e.line && r.who == .engine .partialRead))).map (·.line)

/-- The reads of the lines that partial writes cover enter the pool, as far as it has room (R142); the undo logger's
urgency is theirs (R137). -/
def askPartials (ch sub : Nat) (s : State) : State :=
  forEach (unreadPartials ch sub s) (fun l s =>
    if readsFull ch sub s then stallOn (poolAddr (0x20 + ch) 0x124) s else queueRead l (.engine .partialRead) s) s

/-- The base of a partial write is there (R142). -/
def partialReady (line : Nat) (s : State) : State :=
  if s.dram.writes.any (fun e => e.line == line && !e.issued && !e.ready) then
    setWrites (s.dram.writes.map (fun e => if e.line = line then { e with ready := true } else e)) s
  else s

/-- Remove a read entry. -/
def dropRead (p : REntry → Bool) (s : State) : State := setReads (s.dram.reads.filter (fun r => !p r)) s

/-- A record of the mailbox's event log (R118): 1 General Media, 2 DRAM, 3 Memory Module. -/
def logEvent (type : Nat) (words : List Nat) (s : State) : State :=
  { s with hp := { s.hp with eventLog := s.hp.eventLog ++ [(type, words)] } }

/-! ### Ranks (R169 to R172) -/

/-- A rank changes state, with its record in the journal (R441). -/
def setRank (i st : Nat) (s : State) : State :=
  if get (Reg.SPR.RANK_STATE i) s = st then s
  else
    let l := s.upd.pendingRanks
    { s with upd := { s.upd with pendingRanks := if st = 3 then addNat l i else l.filter (· != i) } }
      |> set (Reg.SPR.RANK_STATE i) st |> rankStateRecord i st

/-- `SPR.RANK[i]` as a word. -/
def rankWord (i : Nat) (s : State) : Nat :=
  get (Reg.SPR.RANK_STATE i) s + get (Reg.SPR.RANK_MARGINAL i) s * 8 + get (Reg.SPR.RANK_CE_WIN i) s * 16 +
  get (Reg.SPR.RANK_UE i) s * 2 ^ 16 + get (Reg.SPR.RANK_RETRAINS i) s * 2 ^ 24

/-- A spare entry is free: designated, its rank SPARE_FREE, not in use (R170). -/
def spareFree (m : Nat) (s : State) : Bool :=
  isSet (Reg.SPR.SPARE_VALID m) s && !isSet (Reg.SPR.SPARE_IN_USE m) s &&
  get (Reg.SPR.RANK_STATE (spareIndex m s)) s == 2

/-- Free spares, ascending. -/
def freeSpares (s : State) : List Nat := (List.range 8).filter (fun m => spareFree m s)

/-- Ranks that wait for a migration. -/
def setMigWaiting (l : List Nat) (s : State) : State :=
  { s with dram := { s.dram with migWaiting := l } } |> set Reg.SPR.MIG_STS_QUEUED (min l.length 15)

/-- Retirement of a rank in IN_SERVICE (R170): it waits for its migration, or has no spare. A spare that a rank
already waiting will take counts as taken: the spec does not say so (log entry 48: DEDUCED). -/
def retireRank (i : Nat) (s : State) : State :=
  if get (Reg.SPR.RANK_STATE i) s ≠ 1 || s.dram.migWaiting.contains i then s
  else if (freeSpares s).length ≤ s.dram.migWaiting.length then
    s |> event 0x11 1 |> logEvent 2 [i] |> setRank i 3 |> event 0x11 4
      |> raiseSimple i 2 i (rankWord i s) (now32 s)
  else
    s |> event 0x11 1 |> logEvent 2 [i] |> setMigWaiting (s.dram.migWaiting ++ [i])

/-- The logical rank that a physical rank serves: a spare's target, else its own place. -/
def servesLogical (i : Nat) (s : State) : Nat × Nat :=
  match (List.range 8).find? (fun m => isSet (Reg.SPR.SPARE_VALID m) s && isSet (Reg.SPR.SPARE_IN_USE m) s &&
      spareIndex m s == i) with
  | some m => (get (Reg.SPR.SPARE_TARGET_CH m) s, get (Reg.SPR.SPARE_TARGET_RANK m) s)
  | none => (i / 4, i % 4)

/-- A spare entry takes a logical rank, or gives it up; the spare map is stored (R172). -/
def assignSpare (m : Nat) (d : Nat × Nat) (s : State) : State :=
  s |> set (Reg.SPR.SPARE_IN_USE m) 1
    |> set (Reg.SPR.SPARE_TARGET_CH m) d.1 |> set (Reg.SPR.SPARE_TARGET_RANK m) d.2
    |> storeSetting (Reg.SPR.SPARE_IN_USE m) 1
    |> storeSetting (Reg.SPR.SPARE_TARGET_CH m) d.1
    |> storeSetting (Reg.SPR.SPARE_TARGET_RANK m) d.2

/-- The lowest free spare (R158, R170). -/
def freeSpareOf (i : Nat) (s : State) : State :=
  match (List.range 8).find? (fun m => isSet (Reg.SPR.SPARE_VALID m) s && isSet (Reg.SPR.SPARE_IN_USE m) s &&
      spareIndex m s == i) with
  | some m => s |> set (Reg.SPR.SPARE_IN_USE m) 0 |> storeSetting (Reg.SPR.SPARE_IN_USE m) 0
  | none => s

/-- Lines of a rank: two subchannels (R128). -/
def rankLines (s : State) : Nat := 2 * rankBytes s / 64

/-- `SPR.MIG_ETA`: the frames that the lines left take at `SPR.RATE`; 0 with no migration (R175). -/
def etaShow (s : State) : State :=
  set Reg.SPR.MIG_ETA_FRAMES (if isSet Reg.SPR.MIG_STS_ACTIVE s then
    min 16777215 ((rankLines s - get Reg.SPR.MIG_PTR_INDEX s) * 64 / (max 1 (get Reg.SPR.RATE_MBS s) * 20)) else 0) s

/-- Marginal ranks in service retire as soon as a spare is free, with `AUTO_MIGRATE` 1 (R157, R170). -/
def autoRetire (s : State) : State :=
  if !isSet Reg.SPR.CFG_AUTO_MIGRATE s then s
  else forEach (List.range 64) (fun i s =>
    if isSet (Reg.SPR.RANK_MARGINAL i) s && decide (s.dram.migWaiting.length < (freeSpares s).length) then
      retireRank i s else s) s

/-- The next migration starts at a tick: the first retired rank goes to the first free spare (R170). -/
def startMigration (s : State) : State :=
  match s.dram.migWaiting, freeSpares s with
  | i :: rest, m :: _ =>
    if isSet Reg.SPR.MIG_STS_ACTIVE s then s
    else
      s |> setMigWaiting rest
        |> setRank i 4 |> setRank (spareIndex m s) 5
        |> set Reg.SPR.MIG_STS_ACTIVE 1 |> set Reg.SPR.MIG_STS_SRC i |> set Reg.SPR.MIG_STS_DST m
        |> set Reg.SPR.MIG_PTR_INDEX 0
        |> freeSpareOf i |> assignSpare m (servesLogical i s) |> etaShow
  | _, _ => s

/-- An uncorrectable error counts against the line's physical rank (R166, R170); on a spare that receives a
copy it counts now and retires it after the migration (R173). -/
def rankUncorrectable (line : Nat) (s : State) : State :=
  let i := rankOfLine line s
  let s := inc (Reg.SPR.RANK_UE i) s
  if get (Reg.SPR.RANK_STATE i) s = 5 then
    { s with dram := { s.dram with retireAfter := addNat s.dram.retireAfter i } }
  else retireRank i s

/-- A correctable error of the line's physical rank (R161, R170). -/
def rankCorrected (line : Nat) (s : State) : State :=
  let i := rankOfLine line s
  let s := inc (Reg.SPR.RANK_CE_WIN i) s
  if get Reg.SPR.CFG_CE_LIMIT s < get (Reg.SPR.RANK_CE_WIN i) s then
    s |> when (get (Reg.SPR.RANK_CE_WIN i) s == get Reg.SPR.CFG_CE_LIMIT s + 1)
          (raiseSimple (64 + i) 3 i (rankWord i s) (get (Reg.SPR.RANK_CE_WIN i) s))
      |> retireRank i
  else s

/-! ### Lines that no source repairs (R166) -/

/-- The address and the finder of the last uncorrectable line (R175). -/
def lastUe (line : Nat) (finder : Nat) (s : State) : State :=
  s |> set Reg.SPR.LAST_UE_LO_ADDR line |> set Reg.SPR.LAST_UE_HI_ADDR (line / 2 ^ 32)
    |> set Reg.SPR.LAST_UE_HI_FINDER finder

/-- The line is poisoned for good: poison in DRAM, the granule LOST, the journal, the counts, the rank. -/
def poisonLine (line finder : Nat) (s : State) : State :=
  s |> addPoison line
    |> when (entryInUse (granuleOf line s) s) (markLost (granuleOf line s) 1)
    |> linePoisonedRecord line finder |> logEvent 1 [line]
    |> inc Reg.SPR.POISONED_COUNT |> event 0x11 3 |> lastUe line finder
    |> raiseSimple 189 0 0 line finder
    |> rankUncorrectable line

end Sys2Proof.Machine
end

