-- ==== Sys2Proof/Machine/TwinOps.lean ====
section
/-! DEFINITION. The twin: its state, mirroring, region generations and its loss (R33 to R36, R330 to R349). -/

namespace Sys2Proof.Machine

/-- The device is paired: a pairing is in effect. -/
def paired (s : State) : Bool := isSet Reg.TWN.STS_PAIRED s

/-- `TWN.STS.STATE` (R340). -/
def twinState (s : State) : Nat := get Reg.TWN.STS_STATE s

/-- The twin is attached, for commits and repairs: mirroring runs. -/
def twinAttached (s : State) : Bool := paired s && (twinState s == 4 || twinState s == 3)

/-- ASYNC acknowledgement (R33); RESYNC follows the ASYNC rule (R335). -/
def asyncMode (s : State) : Bool := get Reg.TWN.CFG_ACK_MODE s == 1

/-- Send a message over the Punty link. -/
def sendTwin (kind : String) (words : List Nat) (s : State) : State := emit (.twin kind words) s

/-- SCOPE and TWIN_DEGRADED follow the state (R341). RECONCILING leaves both as they were. (log entry 41: DEDUCED). -/
def twinIndicate (s : State) : State :=
  let st := twinState s
  let degrade := fun (s : State) =>
    { s with twn := { s.twn with genRaised := s.twn.genRaised && isSet Reg.SYS.PERSIST_TWIN_DEGRADED s } }
      |> set Reg.SYS.PERSIST_TWIN_DEGRADED 1 |> set Reg.SYS.PERSIST_SCOPE 0
  if !paired s then s |> set Reg.SYS.PERSIST_TWIN_DEGRADED 0 |> set Reg.SYS.PERSIST_SCOPE 0
  else if st = 1 || st = 5 || st = 6 then degrade s
  else if st = 3 || st = 7 then s |> set Reg.SYS.PERSIST_TWIN_DEGRADED 0 |> set Reg.SYS.PERSIST_SCOPE 0
  else if st = 4 then
    s |> set Reg.SYS.PERSIST_TWIN_DEGRADED 0 |> set Reg.SYS.PERSIST_SCOPE (if asyncMode s then 2 else 1)
  else s

/-- Enter a state of R340. -/
def setTwinState (st : Nat) (s : State) : State :=
  s |> set Reg.TWN.STS_STATE st |> twinIndicate

/-- The generations are written to the settings store within 50 frames of each change (R342). -/
def setGen (f : Fld) (v : Nat) (s : State) : State := s |> set f v |> storeSetting f v

/-- SEAL_N: this device's generations, and its newest manifest's SEQ and frame (R331). -/
def sealN (s : State) : State :=
  sendTwin "SEAL_N" [get Reg.TWN.HOME_GEN_VALUE s, get Reg.TWN.MIRROR_GEN_VALUE s,
    (s.nand.manifests.getLast?.map (·.seq)).getD 0, (s.nand.manifests.getLast?.map (·.frameFence)).getD 0] s

/-- The first write to the home region after TWIN_DEGRADED became 1 raises HOME_GEN (R342). -/
def homeGenWrite (g : Nat) (s : State) : State :=
  if isSet Reg.SYS.PERSIST_TWIN_DEGRADED s && !s.twn.genRaised && g < homeGranules s then
    { s with twn := { s.twn with genRaised := true } }
      |> setGen Reg.TWN.HOME_GEN_VALUE (get Reg.TWN.HOME_GEN_VALUE s + 1) |> sealN
  else s

/-- A write to this line is mirrored (R335): a home line in ATTACHED, or in RESYNC a line of a granule whose
TWIN_DIRTY is 0; this device's own fence stops it (R336). -/
def mirrored (line : Nat) (s : State) : Bool :=
  let g := granuleOf line s
  paired s && g < homeGranules s && !fenced s &&
    (twinState s == 4 || (twinState s == 3 && !(entryOf g s).twinDirty))

/-- Send the mirror write (R330): it waits for a MIRROR_ACK that covers its sequence. -/
def sendMirror (line : Nat) (be : BitVec 64) (data : Line) (ctx : Option Nat) (s : State) : State :=
  let n := s.twn.seqOut % 2 ^ 32
  { s with twn := { s.twn with
      seqOut := n + 1,
      outstanding := s.twn.outstanding ++ [{ seq := n, line := line, ctx := ctx, frame := now s }] } }
    |> emit (.mirror line be data ctx n)

/-- A change of DRAM content (R239): the Marver, the generation and the mirror write. The bytes themselves go
to the write queue or to DRAM. -/
def noteWrite (line : Nat) (be : BitVec 64) (data : Line) (port : Option Nat) (ctx : Option Nat)
    (s : State) : State :=
  let g := granuleOf line s
  let m := mirrored line s
  s |> markWrite g port |> homeGenWrite g |> when m (sendMirror line be data ctx)

/-- TWIN_DIRTY on the granule of a home line. -/
def setTwinDirty (g : Nat) (s : State) : State :=
  if g < homeGranules s && entryInUse g s then putEntry g { entryOf g s with twinDirty := true } s else s

/-- Mirroring stops (R336): the granule of every mirror write that no MIRROR_ACK covers gets TWIN_DIRTY. What the twin sent
and this device has not acknowledged is gone with the link: the twin keeps it in its own TWIN_DIRTY.
(log entry 61: DEDUCED). -/
def stopMirroring (s : State) : State :=
  { s with twn := { s.twn with outstanding := [], stalled := [], holdFrames := 0, prepares := [], copyWaits := [] } }
    |> forEach s.twn.outstanding (fun m => setTwinDirty (granuleOf m.line s))
    |> forEach s.twn.copying setTwinDirty
    |> (fun s => { s with twn := { s.twn with copying := [] } })

/-- Writes that waited for the twin are acknowledged at local persistence (R35). -/
def releaseMirrorWaits (s : State) : State :=
  { s with hp := { s.hp with writes := s.hp.writes.map (fun w => { w with seq := none }) } }

/-- Pending commits of a paired device become effective at the next tick, with TWIN_DEGRADED, and so do those of the
domain when they are decided (R187). -/
def releasePrepares (s : State) : State :=
  let open_ := (List.range 64).filter (fun g =>
    let st := get (Reg.TXC.CTX_STS_STATE (g / 16) (g % 16)) s
    st == 2 || st == 3)
  { s with txn := { s.txn with
      degraded := (s.txn.degraded ++ open_).dedup,
      requests := s.txn.requests.map (fun r =>
        if r.needAck && !r.domain then { r with needAck := false, due := now s + 1, degraded := true } else r) } }

/-- The twin is gone: LOST or DETACHED is entered from ATTACHED or RESYNC (R35, R336, R340). -/
def leaveTwin (st : Nat) (s : State) : State :=
  s |> stopMirroring |> setTwinState st |> releaseMirrorWaits |> releasePrepares
    |> when (st = 5) (fun s => s |> event 0xC1 0 |> inc Reg.TWN.LOSSES_COUNT)

/-- The Punty link is up. -/
def puntyUp (s : State) : Bool := get Reg.PNT.LINK_WIDTH s != 0 && !pllWaits 10 s

/-- A retraining: nothing is carried until the link is up again. -/
def retrainPunty (s : State) : State :=
  if puntyUp s then
    s |> set Reg.PNT.LINK_WIDTH 0 |> set Reg.PNT.LINK_RATE 0 |> inc Reg.PNT.RETRAINS_COUNT |> event 0xC0 2
  else s

end Sys2Proof.Machine
end

