-- ==== Sys2Proof/Machine/LineOps.lean ====
section
/-! DEFINITION. Lines read from DRAM: the decoder's outcome, correction and write-back, repair from the twin or
the sealed copy, poison (R161 to R166, R173). -/

namespace Sys2Proof.Machine

/-! ### The decoder (R161, R162) -/

/-- What the decoder makes of a line. -/
inductive Decoded where
  | good | corrected | miscorrected | uncorrectable
  deriving DecidableEq, Repr

/-- The decoder's outcome for a component width (R160, R161): x4 corrects one component, x8 up to 8 symbols. -/
def decodeLine (x8 : Bool) (e : LineErrors) : Decoded :=
  if e.symbols.isEmpty then .good
  else if (if x8 then decide (e.symbols.dedup.length ≤ 8) else decide ((e.components x8).length ≤ 1)) then .corrected
  else if e.miscorrects then .miscorrected
  else .uncorrectable

/-- Sixteen fresh free values as a line: the data of a miscorrection (log entry 3). -/
def freshLine (s : State) : Line :=
  BitVec.ofNat 512 ((List.range 16).foldl (fun n k => n * 2 ^ 32 + (Config.freeWord (s.free + k)).toNat) 0)

def spendLine (s : State) : State := { s with free := s.free + 16 }

/-! ### Readers -/

/-- The host reads that wait for a line are given its value; of a poisoned one, the data symbols under poison (R162). -/
def serveReads (line : Nat) (s : State) : State :=
  let d := lineNow line s
  let v : Option Line := if d.2 then none else some d.1
  { s with hp := { s.hp with reads := s.hp.reads.map (fun r =>
      if r.line = line ∧ r.data = none then { r with data := some v, under := if d.2 then some d.1 else none } else r) } }

/-- The read entries of a line leave their pool, and its partial writes have their base (R142). -/
def endReads (line : Nat) (s : State) : State :=
  let ch := (lineLoc line s).ch
  s |> dropRead (fun r => r.line == line) |> depthShow ch |> partialReady line

/-! ### Repair (R164 to R166) -/

/-- A repair of the line is under way. -/
def repairOf (line : Nat) (s : State) : Option Repair := s.dram.repairs.find? (·.line == line)

/-- A repair ends. -/
def dropRepair (line : Nat) (s : State) : State :=
  { s with dram := { s.dram with repairs := s.dram.repairs.filter (·.line != line) } }

/-- A repair begins. -/
def addRepair (r : Repair) (s : State) : State :=
  { s with dram := { s.dram with repairs := s.dram.repairs ++ [r] } }

/-- The bytes of a line written since its failed read (R165). -/
def writtenSince (line : Nat) (s : State) : BitVec 64 := ((repairOf line s).map (·.written)).getD 0

/-- A repaired line is the base in DRAM with good check bits, under what has been written since the failed read
(R165). -/
def placeRepair (line : Nat) (d : Line) (s : State) : State :=
  let since := writtenSince line s
  s |> when (since != allBytes) (fun s => s |> writeLine line (~~~since) d |> clearPoisonAt line)
    |> dropRepair line |> endReads line |> serveReads line

/-- The line is repaired. -/
def repaired (line : Nat) (d : Line) (fromTwin : Bool) (s : State) : State :=
  s |> inc (if fromTwin then Reg.SPR.REPAIR_TWIN else Reg.SPR.REPAIR_SEALED) |> placeRepair line d

/-- The queue whose spill region holds a line. -/
def spillQueue (line : Nat) (s : State) : Option Nat :=
  (List.range 4).find? (fun q => spillBase q s ≤ 64 * line && 64 * line < spillBase q s + spillSize q s)

/-- A spill line that stays uncorrectable (R434): the wide word that it holds is delivered with POISON.
(log entry 35: DESIGN CHOICE). -/
def spillLost (q line : Nat) (s : State) : State :=
  let k := line - spillBase q s / 64
  let size := spillSize q s / 64
  let first := get (Reg.GQ.RELEASED_SEQ q) s
  let held := (queue q s).held.mapIdx (fun i (w : WideWord) =>
    if (first + i) % size = k then { w with poison := true } else w)
  s |> setQueue q (fun g => { g with held := held })
    |> inc (Reg.GQ.POISON_COUNT q) |> event (0xA0 + q) 4 |> raiseSimple 191 0 q q line

/-- No source repairs the line (R166, R434). -/
def unrepaired (line : Nat) (finder : Nat) (s : State) : State :=
  let whole := writtenSince line s == allBytes
  s |> dropRepair line
    |> (fun s => if whole then s
        else match spillQueue line s with
          | some q => spillLost q line s
          | none => poisonLine line finder s)
    |> endReads line |> serveReads line

/-- Order 2 of R164: the sealed copy of a clean granule, zeros when the map names none, and else order 3.
(log entry 94: DEDUCED). -/
def repairSealed (line : Nat) (finder : Finder) (s : State) : State :=
  let g := granuleOf line s
  if entryInUse g s && (entryOf g s).state == .clean && !(entryOf g s).lost then
    let since := writtenSince line s
    if (look s.nand.map g).isNone then repaired line 0 false s
    else s |> dropRepair line |> addRepair { line := line, finder := finder, stage := .sealed, written := since }
           |> urgentRead g
  else unrepaired line finder.code s

/-- A repair that the twin has not served goes on: order 2 of R164, but for a line of the undo region or of a spill
region, which has order 1 only (R173). -/
def repairOnward (line : Nat) (finder : Finder) (s : State) : State :=
  if inUndo (64 * line) s || inSpill (64 * line) s then unrepaired line finder.code s
  else repairSealed line finder s

/-- Repairs that wait for the twin, now lost, go on at once (R173). -/
def repairsOnward (s : State) : State :=
  forEach (s.dram.repairs.filter (fun r => r.stage == .twin)) (fun r => repairOnward r.line r.finder) s

/-- The twin serves the line (R164 order 1). -/
def twinServes (line : Nat) (s : State) : Bool :=
  let g := granuleOf line s
  twinAttached s && g < mapEntries s && !(entryOf g s).twinDirty &&
    !(asyncMode s && s.twn.outstanding.any (·.line == line))

/-- The repair of an uncorrectable line begins (R164). -/
def startRepair (line : Nat) (finder : Finder) (s : State) : State :=
  if (repairOf line s).isSome then s
  else if twinServes line s then
    s |> addRepair { line := line, finder := finder, stage := .twin } |> sendTwin "REPAIR_REQUEST" [line]
  else repairOnward line finder s

/-- A write of a whole line stands against a repair under way (R165, R173). -/
def overtakeRepair (line : Nat) (s : State) : State := noteRepair line allBytes s

/-! ### The twin is lost (R173, R331, R340) -/

/-- The twin is declared lost (R331, R340). -/
def twinLostNow (s : State) : State :=
  if twinAttached s then
    s |> leaveTwin 5 |> repairsOnward |> raiseSimple 157 0 0 (twinState s) 0
  else s

/-- The Punty link is down (R340, R394): the twin is lost with it. -/
def puntyDown (s : State) : State :=
  s |> set Reg.PNT.LINK_WIDTH 0 |> set Reg.PNT.LINK_RATE 0 |> event 0xC0 0 |> twinLostNow

/-! ### A line has been read -/

/-- The outcome of a DRAM read (R161 to R164). The write-back of what the decoder made is dropped where a write to the
line is queued or issued (R163). -/
def lineRead (line : Nat) (finder : Finder) (err : LineErrors) (s : State) : State :=
  match decodeLine (isSet Reg.DMC.CFG_X8 s) err with
  | .good => s |> endReads line |> serveReads line
  | .corrected => s |> rankCorrected line |> endReads line |> serveReads line
  | .miscorrected =>
    let d := freshLine s
    s |> spendLine |> when ((youngest line s).isNone) (writeLine line allBytes d)
      |> rankCorrected line |> endReads line |> serveReads line
  | .uncorrectable => startRepair line finder s

/-- The line's rank is down (R388): no access is made to it, and the line counts as uncorrectable.
(log entry 73: DEDUCED). -/
def rankDown (line : Nat) (s : State) : Bool :=
  get (Reg.SPR.RANK_STATE (rankOfLine line s)) s == 7

/-- The errors that a read of the line meets: every symbol where its rank is down. -/
def errorsOf (line : Nat) (e : LineErrors) (s : State) : LineErrors :=
  if rankDown line s then { symbols := List.finRange 80 } else e

/-- The undo logger reads the old line (R182): from the write queue where it holds the whole line, else from DRAM, where
an uncorrectable line is repaired first (R164). -/
def readOld (line : Nat) (e : LineErrors) (s : State) : State :=
  if ((youngest line s).map (fun q => q.be == allBytes)).getD false || isPoisoned line s ||
      decodeLine (isSet Reg.DMC.CFG_X8 s) e == .good then s
  else lineRead line .undo e s

end Sys2Proof.Machine
end

