-- ==== Sys2Proof/Machine/TxnOps.lean ====
section
/-! DEFINITION. Contexts, the undo log, the Hold set, replays, and the domain's decision log (R177 to R200,
R338, R339, R370). Contexts 0 to 63 are this device's; 64 + c is the twin's context c (R338). -/

namespace Sys2Proof.Machine

/-! ### The fields of a context -/

def ctxState (g : Nat) (s : State) : Nat := get (Reg.TXC.CTX_STS_STATE (g / 16) (g % 16)) s
def ctxTag (g : Nat) (s : State) : Nat := get (Reg.TXC.CTX_TAG_TAG (g / 16) (g % 16)) s
def ctxParts (g : Nat) (s : State) : Nat := get (Reg.TXC.CTX_TAG_PARTS (g / 16) (g % 16)) s
def ctxResult (g r : Nat) (s : State) : State := set (Reg.TXC.CTX_STS_RESULT (g / 16) (g % 16)) r s
def ctxFrame (g f : Nat) (s : State) : State := set (Reg.TXC.CTX_FRAME_FRAME (g / 16) (g % 16)) f s
def ctxClearing (g : Nat) (s : State) : Bool := isSet (Reg.TXC.CTX_STS_CLEARING (g / 16) (g % 16)) s

/-- The contexts of this device. -/
def allCtx : List Nat := List.range 64

/-- TXN accepts work: `BLKSTS.READY` (R180). -/
def txnReady (s : State) : Bool := pageReady 0x44 s

/-- States whose slabs are counted (R185). -/
def liveCtx (st : Nat) : Bool := st = 1 || st = 2 || st = 3 || st = 5 || st = 7

/-- A pair's slab is counted (R185); the slabs of remote contexts are (R338). -/
def countedPair (s : State) (p : Pair) : Bool := 64 ≤ p.ctx || liveCtx (ctxState p.ctx s)

/-- Entries of the Hold set: granules that some context holds (R184). -/
def holdUse (s : State) : Nat := ((s.txn.pairs.map (·.granule)).dedup).length

/-- The registers of TXN that show the Hold set and the pairs. -/
def txnShow (s : State) : State :=
  s |> set Reg.TXN.HOLD_USE_ENTRIES (holdUse s)
    |> set Reg.TXN.HOLD_PEAK_ENTRIES (max (get Reg.TXN.HOLD_PEAK_ENTRIES s) (holdUse s))
    |> set Reg.TXN.PAIR_USE_PAIRS s.txn.pairs.length
    |> set Reg.TXN.UNDO_USE_SLABS ((s.txn.pairs.filter (countedPair s)).length)

/-- `TXN.REPLAY` (R190, R201): the head of the order is replayed or rolled back, the rest wait. -/
def replayShow (s : State) : State :=
  let l := s.txn.replays ++ s.txn.rollback
  s |> set Reg.TXN.REPLAY_CTX ((l.head?).getD 0 % 64)
    |> put1 Reg.TXN.REPLAY_ACTIVE (!l.isEmpty)
    |> set Reg.TXN.REPLAY_QUEUED (l.length - 1)

/-- A context enters a state; the counted slabs follow, and `CTX_FRAME` shows the frame of its last end (R202). -/
def setCtxState (g st : Nat) (s : State) : State :=
  s |> set (Reg.TXC.CTX_STS_STATE (g / 16) (g % 16)) st |> ctxFrame g ((look s.txn.ends g).getD 0) |> txnShow

/-- The context becomes COMMITTED or ABORTED in this frame (R202). -/
def noteEnd (g : Nat) (s : State) : State :=
  { s with txn := { s.txn with ends := insert (drop s.txn.ends g) g (now32 s),
                               degraded := s.txn.degraded.filter (· != g) } }

def setPairs (l : List Pair) (s : State) : State := { s with txn := { s.txn with pairs := l } }

/-! ### The undo log (R181 to R184) -/

/-- The pair of a context and a granule. -/
def pairOf (c g : Nat) (s : State) : Option Pair :=
  s.txn.pairs.find? (fun p => p.ctx == c && p.granule == g)

/-- A context has logged a line. -/
def logged (c line : Nat) (s : State) : Bool :=
  ((pairOf c (granuleOf line s) s).map (fun p => p.lines.contains line)).getD false

/-- Space for a line's undo entry: its pair exists, or a pair and an entry are free (R184). -/
def canHold (c g : Nat) (s : State) : Bool :=
  (pairOf c g s).isSome ||
  (s.txn.pairs.length < get Reg.TXN.PAIR_MAX_PAIRS s && (isHeld g s || holdUse s < 65536))

/-- The slab line of an undo entry: line j of the granule at line j of the slab (R181). (log entry 100: DESIGN CHOICE). -/
def slabLine (slab line : Nat) (s : State) : Nat :=
  undoBase s / 64 + slab * granLines s + line % granLines s

/-- A slab for a new pair: the lowest that no pair has, so that PAIR_MAX slabs lie within the undo region (R184).
(log entry 100: DESIGN CHOICE). -/
def freeSlab (s : State) : Nat :=
  ((List.range (s.txn.pairs.length + 1)).find? (fun k => !s.txn.pairs.any (·.slab == k))).getD 0

/-- The pair of a context and a granule, made if need be: the Hold set entry and the Marver's tx-held bit
with it (R184). -/
def holdPair (c g : Nat) (s : State) : State :=
  if (pairOf c g s).isSome then s
  else
    s |> setPairs (s.txn.pairs ++ [{ ctx := c, granule := g, slab := freeSlab s, lines := [] }])
      |> putEntry g { entryOf g s with txHeld := true }
      |> when (c < 64) (fun s =>
          set (Reg.TXC.CTX_HELD_GRANULES (c / 16) (c % 16))
            ((s.txn.pairs.filter (·.ctx == c)).length) s)
      |> txnShow

/-- The undo entry of a context's first write to a line: the line's present value goes to the slab, with
poison where the line is poisoned (R182). -/
def logLine (c line : Nat) (s : State) : State :=
  let g := granuleOf line s
  let old := lineNow line s
  let s := holdPair c g s
  match pairOf c g s with
  | none => s
  | some p =>
    s |> writeLine (slabLine p.slab line s) allBytes old.1 |> clearPoisonAt (slabLine p.slab line s)
      |> setPairs (s.txn.pairs.map (fun q =>
          if q.ctx = c ∧ q.granule = g then
            { q with lines := addNat q.lines line, poisoned := if old.2 then addNat q.poisoned line else q.poisoned }
          else q))
      |> when (c < 64) (fun s => inc (Reg.TXC.CTX_LINES_LINES (c / 16) (c % 16)) s)

/-- The lines a context has logged since OPEN, and the limit (R183). -/
def linesLogged (c : Nat) (s : State) : Nat := get (Reg.TXC.CTX_LINES_LINES (c / 16) (c % 16)) s
/-- Lines a context may log (R182). -/
def lineLimit (s : State) : Nat := get Reg.TXN.CTX_LIMIT_UNITS s * 4096

/-! ### Replay and clearing (R188, R190, R191) -/

/-- A context enters ABORTING behind those already there (R190). -/
def startAbort (g : Nat) (s : State) : State :=
  { s with txn := { s.txn with replays := s.txn.replays ++ [g],
                               requests := s.txn.requests.filter (·.ctx != g) } }
    |> setCtxState g 5 |> replayShow

/-- A line takes a value at once: the queued entries of the line are overtaken. (log entry 59: DEDUCED). -/
def putLine (line : Nat) (d : Line) (poison : Bool) (s : State) : State :=
  s |> setWrites (s.dram.writes.filter (fun e => e.line != line))
    |> landWrite { line := line, ch := 0, sub := 0, be := allBytes, data := d, poison := poison }

/-- The pair's entry for a line is done. -/
def dropUndo (c g line : Nat) (s : State) : State :=
  setPairs (s.txn.pairs.map (fun q =>
    if q.ctx = c ∧ q.granule = g then { q with lines := q.lines.filter (· != line) } else q)) s

/-- The consequences of an undo entry that stays uncorrectable (R191): the event, the journal and source
188; in a replay or rollback the home line is poisoned and the granule LOST. (log entry 57: DEDUCED). -/
def undoUncorrectable (c line : Nat) (replay : Bool) (s : State) : State :=
  s |> event 0x44 3 |> undoLostRecord (c % 64) line
    |> raiseSimple 188 0 (c % 64) (c % 64) line
    |> when replay (fun s =>
        s |> when (c < 64) (set (Reg.TXC.CTX_STS_UNDO_LOST (c / 16) (c % 16)) 1)
          |> poisonLine line 3)

/-- One slab line is written back to its home line (R190, R191): a write like any other (R239). `lost` when
the entry could not be read, or when its slab line was found unrepaired before. -/
def replayEntry (c g line : Nat) (lost : Bool) (s : State) : State :=
  match pairOf c g s with
  | none => s
  | some p =>
    let d := readLine (slabLine p.slab line s) s
    let lost := lost || isPoisoned (slabLine p.slab line s) s
    let bad := lost || p.poisoned.contains line
    s |> putLine line d bad
      |> noteWrite line allBytes d none none
      |> dropUndo c g line
      |> when lost (undoUncorrectable c line true)
      |> when (bad && !lost) (fun s => markLost (granuleOf line s) 1 s)

/-- The first entry of a context that is still to be replayed: its granule and line. -/
def nextUndo (c : Nat) (s : State) : Option (Nat × Nat) :=
  s.txn.pairs.findSome? (fun p =>
    if p.ctx = c then p.lines.head?.map (fun l => (p.granule, l)) else none)

/-- The slab line of an undo entry is read and the entry is replayed (R190); one found uncorrectable is repaired from the
twin alone, and waits for it (R191, R164 order 1). (log entry 57: DEDUCED). -/
def replayRead (c g line : Nat) (err : LineErrors) (s : State) : State :=
  let slab := slabLine (((pairOf c g s).map (·.slab)).getD 0) line s
  if (repairOf slab s).isSome then s
  else if isPoisoned slab s then replayEntry c g line true s
  else
    match decodeLine (isSet Reg.DMC.CFG_X8 s) err with
    | .good => replayEntry c g line false s
    | .corrected => s |> rankCorrected slab |> replayEntry c g line false
    | .miscorrected =>
      s |> spendLine |> writeLine slab allBytes (freshLine s) |> rankCorrected slab |> replayEntry c g line false
    | .uncorrectable =>
      if twinServes slab s then startRepair slab .undo s else s |> rankUncorrectable slab |> replayEntry c g line true

/-- Pairs of ABORTING contexts that have logged a line and not replayed it (R190). -/
def replaysOf (line : Nat) (s : State) : List Pair :=
  s.txn.pairs.filter (fun p => p.lines.contains line && decide (p.ctx < 64) && ctxState p.ctx s == 5)

/-- Those entries are replayed ahead of order, before a write from any source reaches the line (R190); `err` is what the
reads of their slab lines meet. (log entry 57: DEDUCED). -/
def replayAhead (line : Nat) (err : LineErrors) (s : State) : State :=
  forEach (replaysOf line s) (fun p => replayRead p.ctx p.granule line err) s

/-- How many entries a context still has to replay. -/
def undoLeft (c : Nat) (s : State) : Nat :=
  (s.txn.pairs.filter (·.ctx == c)).foldl (fun n p => n + p.lines.length) 0

/-- The next entry of a context is replayed. -/
def replayNext (c : Nat) (lost : Bool) (s : State) : State :=
  match nextUndo c s with
  | some (g, line) => replayEntry c g line lost s
  | none => s

/-- Every entry of a context is replayed at once: a rollback (R192, R312). -/
def rollback (c : Nat) (s : State) : State :=
  forEach (List.range (undoLeft c s)) (fun _ => replayNext c false) s

/-- A context's Hold column, pairs and slabs are freed; tx-held bits whose masks reach 0 clear (R188). -/
def clearColumn (c : Nat) (s : State) : State :=
  let mine := s.txn.pairs.filter (·.ctx == c)
  s |> setPairs (s.txn.pairs.filter (·.ctx != c))
    |> forEach mine (fun p s =>
        if isHeld p.granule s then s else putEntry p.granule { entryOf p.granule s with txHeld := false } s)
    |> when (c < 64) (fun s =>
        s |> set (Reg.TXC.CTX_STS_CLEARING (c / 16) (c % 16)) 0
          |> set (Reg.TXC.CTX_HELD_GRANULES (c / 16) (c % 16)) 0)
    |> txnShow

/-- The lines of a context whose undo entries no source repaired (R191). -/
def lostEntries (c : Nat) (s : State) : List Nat :=
  (s.txn.pairs.filter (·.ctx == c)).flatMap (fun p =>
    p.lines.filter (fun line => isPoisoned (slabLine p.slab line s) s))

/-- The undo log of a context is void (R188). -/
def voidUndo (c : Nat) (s : State) : State :=
  setPairs (s.txn.pairs.map (fun p => if p.ctx = c then { p with lines := [], poisoned := [] } else p)) s

/-- A context becomes COMMITTED at its effective tick (R188); an undo entry that stayed uncorrectable is void and
recorded (R191). The twin is told (R339). -/
def commitCtx (g : Nat) (degraded : Bool) (s : State) : State :=
  let degraded := degraded || s.txn.degraded.contains g
  { s with txn := { s.txn with requests := s.txn.requests.filter (·.ctx != g),
                               decisions := s.txn.decisions.filter (·.ctx != g) } }
    |> forEach (lostEntries g s) (fun line => undoUncorrectable g line false)
    |> voidUndo g |> noteEnd g |> setCtxState g 4
    |> event (0x45 + g / 16) (g % 16) |> inc Reg.TXN.COMMITS_COUNT
    |> set (Reg.TXC.CTX_STS_CLEARING (g / 16) (g % 16)) 1
    |> when degraded (set (Reg.TXC.CTX_STS_TWIN_DEGRADED (g / 16) (g % 16)) 1)
    |> when (twinAttached s) (sendTwin "COMMIT_N" [g])

/-- The last entry of a replay is done (R179, R190). -/
def finishReplay (g : Nat) (s : State) : State :=
  { s with txn := { s.txn with replays := s.txn.replays.filter (· != g),
                               rollback := s.txn.rollback.filter (· != g) } }
    |> noteEnd g |> setCtxState g 6
    |> event (0x45 + g / 16) (16 + g % 16) |> inc Reg.TXN.ABORTS_COUNT
    |> set (Reg.TXC.CTX_STS_CLEARING (g / 16) (g % 16)) 1
    |> replayShow
    |> when (twinAttached s) (sendTwin "ABORTED_N" [g])

/-- A commit request that is not effective and not balloted is discarded: OPEN, RESULT 6 (R95, R179). -/
def discardRequest (g : Nat) (s : State) : State :=
  { s with txn := { s.txn with requests := s.txn.requests.filter (·.ctx != g) } }
    |> setCtxState g 1 |> ctxResult g 6

/-- A granule is held by a context in IN_DOUBT (R198). -/
def inDoubtGranule (g : Nat) (s : State) : Bool :=
  s.txn.pairs.any (fun p => p.granule == g &&
    (if p.ctx < 64 then ctxState p.ctx s == 7 else s.twn.doubt.contains (p.ctx - 64)))

/-- A context, or a remote one, is unresolved (R17, R198). -/
def anyInDoubt (s : State) : Bool := allCtx.any (fun g => ctxState g s == 7) || !s.twn.doubt.isEmpty

/-- A context enters IN_DOUBT (R192, R193). -/
def enterDoubt (g : Nat) (s : State) : State :=
  s |> setCtxState g 7 |> set Reg.SYS.PERSIST_IN_DOUBT 1 |> event 0x44 2

/-- Twin: PREPARE is sent for a paired commit (R187). -/
def needsPrepare (s : State) : Bool := twinAttached s

/-! ### Remote contexts (R338, R339) -/

/-- A bit of the remote masks. -/
def maskBit (lo hi : Fld) (c : Nat) (s : State) : Bool :=
  if c < 32 then bitOf (get lo s) c else bitOf (get hi s) (c - 32)

def setMaskBit (lo hi : Fld) (c : Nat) (b : Bool) (s : State) : State :=
  let f := if c < 32 then lo else hi
  let k := c % 32
  set f (get f s - bitsOf (get f s) k 1 * 2 ^ k + b2n b * 2 ^ k) s

/-- A remote context of the peer is open (R339). (log entry 60: DEDUCED). -/
def remoteOpen (c : Nat) (s : State) : Bool :=
  maskBit Reg.TWN.RCTX_OPEN_LO_MASK Reg.TWN.RCTX_OPEN_HI_MASK c s
def remotePrepared (c : Nat) (s : State) : Bool :=
  maskBit Reg.TWN.RCTX_PREP_LO_MASK Reg.TWN.RCTX_PREP_HI_MASK c s
def setRemoteOpen (c : Nat) (b : Bool) (s : State) : State :=
  setMaskBit Reg.TWN.RCTX_OPEN_LO_MASK Reg.TWN.RCTX_OPEN_HI_MASK c b s
def setRemotePrepared (c : Nat) (b : Bool) (s : State) : State :=
  setMaskBit Reg.TWN.RCTX_PREP_LO_MASK Reg.TWN.RCTX_PREP_HI_MASK c b s

/-- A remote context ends: its undo is void and its hold column is cleared (R339). (log entry 60: DEDUCED). -/
def endRemote (c : Nat) (s : State) : State :=
  { s with twn := { s.twn with doubt := s.twn.doubt.filter (· != c),
                               tags := drop s.twn.tags c } }
    |> voidUndo (64 + c) |> clearColumn (64 + c)
    |> setRemoteOpen c false |> setRemotePrepared c false

/-! ### The domain's decision log (R370) -/

/-- An entry is logged: nothing once the log is closed by a save; the oldest of 4,096 is overwritten. -/
def logDecision (e : LogEntry) (s : State) : State :=
  if s.rng.logClosed then s
  else
    let full := 4096 ≤ s.rng.log.length
    let log := (if full then s.rng.log.drop 1 else s.rng.log) ++ [e]
    { s with rng := { s.rng with log := log } }
      |> set Reg.DOM.LOG_USED log.length
      |> set Reg.DOM.LOG_OLDEST_FRAME ((log.head?.map (·.frame)).getD 0)
      |> when full (fun s => s |> inc Reg.DOM.LOG_OVERWRITES |> event 0xD1 5)

/-- A decision is recorded for a context: applied at its tick (R179, R195). -/
def recordFor (g : Nat) (commit : Bool) (tick : Nat) (s : State) : State :=
  let l := s.txn.decisions.filter (·.ctx != g) ++ [{ ctx := g, commit := commit, tick := tick }]
  { s with txn := { s.txn with decisions := l } }

/-- This device's identifier, and that of the member at a ring index (R360, R361). -/
def ownId (s : State) : Nat := s.pwr.serial.toNat
def memberId (index : Nat) (s : State) : Nat :=
  if index = get Reg.TRN.STS_INDEX s then ownId s else ((look s.rng.table index).map (·.toNat)).getD 0

/-- The vote this member cast for a context. -/
def voteOf (g : Nat) (s : State) : Option Vote := s.rng.votes.find? (·.ctx == g)

/-- A context's ballot: tag, coordinator and frame, from its vote or from the ballot it coordinates. -/
def ballotOf (g : Nat) (s : State) : Nat × Nat × Nat :=
  match voteOf g s with
  | some v => (v.tag, v.coord, v.frame)
  | none =>
    match s.rng.ballots.find? (·.ctx == g) with
    | some b => (b.tag, ownId s, b.frame)
    | none => (ctxTag g s, 0, 0)

/-- The vote and the ballot of a context are done with. -/
def forgetBallot (g : Nat) (s : State) : State :=
  { s with rng := { s.rng with votes := s.rng.votes.filter (·.ctx != g),
                               ballots := s.rng.ballots.filter (·.ctx != g),
                               queries := s.rng.queries.filter (·.1 != g) } }
    |> set Reg.DOM.STS_BALLOTS ((s.rng.ballots.filter (·.ctx != g)).length)

/-- A context of the domain ends with an outcome (R179, R188, R197): COMMITTED, with the applied commit
logged, or ABORTING. -/
def applyOutcome (g : Nat) (commit : Bool) (s : State) : State :=
  let b := ballotOf g s
  if commit then
    s |> commitCtx g false
      |> logDecision { tag := b.1, coord := b.2.1, frame := b.2.2, kind := .applied }
      |> forgetBallot g
  else
    { s with txn := { s.txn with decisions := s.txn.decisions.filter (·.ctx != g) } }
      |> startAbort g |> forgetBallot g

/-- The dirty-shutdown count, once per outage (R39). -/
def countDirtyShutdown (s : State) : State :=
  if s.hp.outageCounted then s
  else { s with hp := { s.hp with dirtyShutdowns := s.hp.dirtyShutdowns + 1, outageCounted := true } }

end Sys2Proof.Machine
end

