-- ==== Sys2Proof/Machine/NandOps.lean ====
section
/-! DEFINITION. The NAND seal store: places for records, the flash map and its delta cache, seals and moves,
bad blocks and failed dies, manifests (R203 to R229, R240, R287 to R293). -/

namespace Sys2Proof.Machine

/-- Pages of a granule image (R206, R208). -/
def granPages (s : State) : Nat := max 1 (granBytes s / 16384)

/-- Dies fitted per channel and blocks per die. -/
def diesPerChannel (s : State) : Nat := get Reg.NFC.GEOM_B_DIES s
def blocksPerDie (s : State) : Nat := get Reg.NFC.GEOM_A_BLOCKS s
def pagesPerBlock (s : State) : Nat := get Reg.NFC.GEOM_A_PAGES s

/-- Bytes of an SLC block (R216). -/
def slcBlockBytes (s : State) : Nat := max 1 (pagesPerBlock s * 16384)

/-- A populated NAND channel. -/
def channelPresent (ch : Nat) (s : State) : Bool := bitOf (get Reg.SYS.CAPS_NAND_GROUPS s) (ch / 4)

/-- A channel in use: populated and not failed (R205). -/
def channelGood (ch : Nat) (s : State) : Bool := channelPresent ch s && !isSet (Reg.NCH.STS_FAILED ch) s

/-- Good dies of a channel. -/
def goodDies (ch : Nat) (s : State) : Nat :=
  if channelGood ch s then
    ((List.range 16).filter (fun d => bitOf (get (Reg.NCH.STS_DIES_OK ch) s) d)).length
  else 0

/-- `SAV.RATE.MBS` (R289): 781.25 MB/s for each of up to 4 good dies of every channel, rounded down. -/
def saveRate (s : State) : Nat :=
  3125 * ((List.range 32).foldl (fun n ch => n + min 4 (goodDies ch s)) 0) / 4

/-- The key of a block in the list of blocks. -/
def blockKey (l : Loc) : Nat := Loc.code { l with page := 0 }

/-- What a block holds. -/
def blockAt (l : Loc) (s : State) : Block := (look s.nand.blocks (blockKey l)).getD {}

def setBlock (l : Loc) (b : Block) (s : State) : State :=
  { s with nand := { s.nand with blocks := put {} s.nand.blocks (blockKey l) b } }

/-- A block is bad: in the factory list or in the Cullet table, or grown bad and due to be entered (R221, R222). -/
def blockBad (ch die block : Nat) (s : State) : Bool :=
  s.nand.factory.contains (ch, die, block) ||
  s.nand.cullet.any (fun e => e.ch == ch && e.die == die && e.block == block) ||
  (blockAt { ch := ch, die := die, block := block, page := 0 } s).grown.isSome

/-- The anchor blocks of a channel (R215): the first two good blocks among blocks 0 to 15 of die 0 of channels 0 and 4. -/
def anchorBlocks (ch : Nat) (s : State) : List Nat :=
  if ch = 0 || ch = 4 then
    ((List.range 16).filter (fun k => !s.nand.factory.contains (ch, 0, k) &&
      !s.nand.cullet.any (fun e => e.ch == ch && e.die == 0 && e.block == k))).take 2
  else []

/-- The erased good block of a die with the lowest erase count (R219); of several with the same count the spec does not
say which, and the lowest number is taken (log entry 110: DESIGN CHOICE). -/
def freshBlock (ch die : Nat) (s : State) : Option Nat :=
  let anchors := if die = 0 then anchorBlocks ch s else []
  let ok := fun k => !blockBad ch die k s && !anchors.contains k &&
    (blockAt { ch := ch, die := die, block := k, page := 0 } s).pages == 0 &&
    look s.nand.openBlocks (16 * ch + die) != some k
  let worn := fun k => (blockAt { ch := ch, die := die, block := k, page := 0 } s).erases
  ((List.range (blocksPerDie s)).filter ok).foldl (fun best k =>
    match best with
    | none => some k
    | some j => if worn k < worn j then some k else some j) none

/-- Open a fresh block on a die: one erased block fewer. -/
def openBlock (ch die : Nat) (s : State) : State :=
  match freshBlock ch die s with
  | none => s
  | some k =>
    { s with nand := { s.nand with openBlocks := insert (drop s.nand.openBlocks (16 * ch + die)) (16 * ch + die) k } }
      |> set Reg.NFC.ERASED_BLOCKS (get Reg.NFC.ERASED_BLOCKS s - 1)

/-- The append point of a die: its open block with room, or a fresh one (R208, R210). -/
def appendPoint (ch die : Nat) (s : State) : State :=
  match look s.nand.openBlocks (16 * ch + die) with
  | some k =>
    if (blockAt { ch := ch, die := die, block := k, page := 0 } s).pages < pagesPerBlock s then s
    else openBlock ch die s
  | none => openBlock ch die s

/-- One page programmed at a die's append point. -/
def usePage (ch die : Nat) (s : State) : State :=
  let s := appendPoint ch die s
  let l : Loc := { ch := ch, die := die, block := (look s.nand.openBlocks (16 * ch + die)).getD 0, page := 0 }
  let b := blockAt l s
  setBlock l { b with pages := b.pages + 1, oldest := if b.pages = 0 then now s else min b.oldest (now s) } s

/-- The place of the next page of a die. -/
def nextLoc (ch die : Nat) (s : State) : Loc :=
  let s := appendPoint ch die s
  let k := (look s.nand.openBlocks (16 * ch + die)).getD 0
  { ch := ch, die := die, block := k,
    page := (blockAt { ch := ch, die := die, block := k, page := 0 } s).pages }

/-- A die takes a record (R210): it is good, and it has its open block or can open one as one of up to four of its
channel. -/
def dieTakes (ch die : Nat) (s : State) : Bool :=
  let room := match look s.nand.openBlocks (16 * ch + die) with
    | some b => decide ((blockAt { ch := ch, die := die, block := b, page := 0 } s).pages < pagesPerBlock s) ||
        (freshBlock ch die s).isSome
    | none => decide ((s.nand.openBlocks.filter (fun e => e.1 / 16 == ch)).length < 4) && (freshBlock ch die s).isSome
  channelGood ch s && decide (die < 16) && bitOf (get (Reg.NCH.STS_DIES_OK ch) s) die && room

/-- Pages queued on a channel (R210). -/
def queuedPages (ch : Nat) (s : State) : Nat := (look s.nand.queued ch).getD 0

/-- A channel takes records: it is in use, its page does not abort (R94), and its PLL has lock (R98). -/
def channelTakes (ch : Nat) (s : State) : Bool :=
  channelGood ch s && !isSet (Reg.BLKSTS_ABORTING (0x60 + ch)) s && !pllWaits 5 s

/-- The channel with the fewest pages queued (R210); of several, the lowest number: the spec does not say which (log entry
110: DESIGN CHOICE). -/
def nextChannel (s : State) : Nat :=
  (((List.range 32).filter (fun ch => channelTakes ch s)).foldl (fun best ch =>
    match best with
    | none => some ch
    | some b => if queuedPages ch s < queuedPages b s then some ch else some b) none).getD 0

/-- Pages are placed on a die: they count in the wear figures, and those of seals and of a save are charged (R243, R244). -/
def placePages (ch die n : Nat) (isSeal : Bool) (s : State) : State :=
  let s := forEach (List.range n) (fun _ => usePage ch die) s
  { s with
    nand := { s.nand with queued := put 0 s.nand.queued ch (queuedPages ch s + n) },
    mrv := { s.mrv with charged := s.mrv.charged + (if isSeal || fenced s then n else 0),
                        pagesAll := s.mrv.pagesAll + n,
                        pagesSeal := s.mrv.pagesSeal + (if isSeal then n else 0) } }

/-- Queued pages are programmed. -/
def unqueue (ch n : Nat) (s : State) : State :=
  { s with nand := { s.nand with queued := put 0 s.nand.queued ch (queuedPages ch s - n) } }

/-- Pages of a record from page `p` on that lie in its first block, of `n` (R208). -/
def headPages (p n : Nat) (s : State) : Nat := min n (pagesPerBlock s - p)

/-- The block in which the record placed last on a die goes on, when it crossed from its first block (R208). -/
def tailOf (l : Loc) (s : State) : Option Nat :=
  let k := (look s.nand.openBlocks (16 * l.ch + l.die)).getD l.block
  if k = l.block then none else some k

/-! ### Records as they lie on flash (R206 to R209) -/

/-- The controller's DEVICE (R207). -/
def deviceId (s : State) : Word := BitVec.ofNat 32 s.pwr.serial.toNat

/-- The codewords of a record of `n` codewords of its own: its own type, the last one marked, and PAD to the page's end
(R206, R209). -/
def codewordTypes (t : RecType) (n : Nat) : List (RecType × Bool) :=
  (List.range n).map (fun k => (t, k + 1 == n)) ++ List.replicate ((4 - n % 4) % 4) (.pad, false)

/-- CRC-32C of bytes (R208), with the usual parameters: bit-reversed polynomial 0x82F63B78, all ones at the start, the
complement at the end (log entry 111: PRESUMED). -/
def crc32c (bytes : List Nat) : Word :=
  let step := fun (c : Nat) => if c % 2 = 1 then Nat.xor (c / 2) 0x82F63B78 else c / 2
  BitVec.ofNat 32 (Nat.xor 0xFFFFFFFF (bytes.foldl (fun c b => (List.range 8).foldl (fun x _ => step x) (Nat.xor c (b % 256)))
    0xFFFFFFFF))

/-- A number's bytes, low byte first. -/
def bytesOf (n k : Nat) : List Nat := (List.range k).map (fun j => n / 256 ^ j % 256)

/-- The 32 metadata bytes of a codeword (R207). -/
def CwMeta.bytes (m : CwMeta) : List Nat :=
  [m.type.code, b2n m.source + 2 * b2n m.last + 4 * b2n m.moved, m.cwIndex, m.gen % 128] ++ bytesOf m.index 4 ++
    bytesOf m.frame 6 ++ [0, 0] ++ bytesOf m.poison.toNat 8 ++ bytesOf m.rcrc.toNat 4 ++ bytesOf m.device.toNat 4

/-- The metadata of codeword `k` of a granule's record of `n` codewords, with the RCRC it carries (R207). -/
def sealMeta (r : SealRec) (n k : Nat) (rcrc : Word) : CwMeta :=
  { type := .seal, source := r.bySave, last := k + 1 == n, moved := r.moved, cwIndex := k, gen := r.gen, index := r.granule,
    frame := r.frame,
    poison := BitVec.ofNat 64 ((r.poison.filter (fun j => j / 64 == k)).foldl (fun a j => a + 2 ^ (j % 64)) 0),
    rcrc := rcrc, device := r.device }

/-- The data bytes of codeword `k` of a granule's record. -/
def sealData (r : SealRec) (k : Nat) : List Nat :=
  (List.range 4096).map (fun j => ((r.image.find? (fun c => c.1 == 4096 * k + j)).map (·.2.toNat)).getD 0)

/-- RCRC of a granule's record (R208): in codeword order every data byte, and every metadata byte but 24 to 27. -/
def sealRcrc (r : SealRec) (n : Nat) : Word :=
  crc32c ((List.range n).flatMap (fun k =>
    let m := (sealMeta r n k 0).bytes
    sealData r k ++ m.take 24 ++ m.drop 28))

/-- The codewords of a granule's record, as programmed: the last one carries RCRC. -/
def sealCodewords (r : SealRec) (n : Nat) : List CwMeta :=
  (List.range n).map (fun k => sealMeta r n k (if k + 1 = n then sealRcrc r n else 0))

/-- CW_INDEX runs from 0 without a gap to a codeword with LAST, and DEVICE is the controller's (R208). -/
def codewordsRun (l : List CwMeta) (dev : Word) : Bool :=
  (l.map (·.cwIndex) == List.range l.length) && (l.getLast?.map (·.last)).getD false && l.all (fun m => m.device == dev)

/-- A die answers reads: its channel is in use and it has not failed (R205). -/
def dieReads (l : Loc) (s : State) : Bool :=
  channelGood l.ch s && !bitOf (get (Reg.NCH.DIE_FAIL_DIES l.ch) s) l.die

/-- A granule's record is valid (R208): every codeword decodes, and its codewords and its DEVICE are right; the CRC of
what was programmed is its own RCRC. -/
def sealValid (r : SealRec) (s : State) : Bool := r.bad.isEmpty && r.device == deviceId s && dieReads r.loc s

/-- A metadata record is valid (R208). -/
def metaValid (r : MetaRec) (s : State) : Bool := r.device == deviceId s && dieReads r.loc s

/-! ### The map and the delta cache (R211 to R213) -/

/-- The delta cache and its register. -/
def setDelta (l : List Delta) (s : State) : State :=
  { s with nand := { s.nand with delta := l } } |> set Reg.NFC.DELTA_USED l.length

/-- The delta cache is full (R213). -/
def deltaFull (s : State) : Bool := 65536 ≤ s.nand.delta.length

/-- An entry in the delta cache; a CONFIRM moves the map (R212). -/
def enterDelta (g gen : Nat) (confirm : Bool) (loc : Nat) (s : State) : State :=
  s |> setDelta (s.nand.delta ++ [{ granule := g, gen := gen, confirm := confirm, loc := loc, programmed := false }])
    |> when confirm (fun s =>
        { s with nand := { s.nand with map := insert (drop s.nand.map g) g loc } })

/-- CONFIRM entries take effect on a map, oldest first (R212). -/
def applyDeltas (ds : List Delta) (m : List (Nat × Nat)) : List (Nat × Nat) :=
  (ds.filter (·.confirm)).foldl (fun m d => insert (drop m d.granule) d.granule d.loc) m

/-! ### Seals (R240, R242, R287 step 4) -/

/-- The present content of a granule: DRAM with the queued writes on top. -/
def granuleNow (g : Nat) (s : State) : List Host.Cell × List Nat :=
  let t := forEach (s.dram.writes.filter (fun e => !e.issued && granuleOf e.line s == g)) landWrite s
  (granuleImage g t, granulePoison g t)

/-- A seal record of generation GEN + 1 begins: DIRTY becomes SEALING. -/
def startSeal (g ch die : Nat) (bySave : Bool) (poison : List Nat) (s : State) : State :=
  let e := entryOf g s
  let img := granuleNow g s
  let r : SealRec := { granule := g, gen := (e.gen + 1) % 128, frame := now s, bySave := bySave,
                       loc := nextLoc ch die s, device := deviceId s,
                       poison := poison.foldl addNat img.2, image := img.1 }
  let s := placePages ch die (granPages s) true s
  { s with nand := { s.nand with sealing := s.nand.sealing ++ [{ r with tail := tailOf r.loc s }] } }
    |> putEntry g { e with state := .sealing }
    |> queueOp ch die { kind := .program, what := g }

/-- The record being programmed for a granule. -/
def sealingOf (g : Nat) (s : State) : Option SealRec := s.nand.sealing.find? (·.granule == g)

def dropSealing (g : Nat) (s : State) : State :=
  { s with nand := { s.nand with sealing := s.nand.sealing.filter (·.granule != g) } }

/-- A granule became CLEAN in this frame (`LEH.RATE.SEALED`). -/
def countSealed (s : State) : State :=
  { s with mrv := { s.mrv with sealedNow := s.mrv.sealedNow + 1 } }

/-- The last page of a record reads good status (R240, R212, R233). -/
def endSeal (r : SealRec) (s : State) : State :=
  let g := r.granule
  let e := entryOf g s
  let s := s |> dropSealing g |> unqueue r.loc.ch (granPages s) |> endOp r.loc.ch r.loc.die .program g
  let s := { s with nand := { s.nand with records := s.nand.records ++ [r] } }
  match e.state with
  | .sealing =>
    s |> putEntry g { e with state := .clean, gen := r.gen, lost := !r.poison.isEmpty }
      |> enterDelta g r.gen true r.loc.code
      |> inc Reg.LEH.SEALS_COUNT |> countSealed
  | .redirtied =>
    s |> putEntry g { e with state := .dirty } |> enterDelta g r.gen false r.loc.code
      |> inc Reg.LEH.SUPERSEDED_COUNT
  | _ => s

/-- A record is abandoned: its granule is DIRTY and the record has no delta entry (R223, R240). -/
def abandonSeal (g : Nat) (s : State) : State :=
  match sealingOf g s with
  | none => s
  | some r =>
    s |> dropSealing g |> unqueue r.loc.ch (granPages s) |> dropOp r.loc.ch r.loc.die .program g |> putEntry g { entryOf g s with state := .dirty }

/-! ### What a block holds (R208, R218) -/

/-- The newest valid manifest (R208, R215): they are kept in the order in which they were programmed. -/
def newestManifest (s : State) : Option Manifest :=
  (s.nand.manifests.filter (fun m => m.device == deviceId s)).getLast?

/-- A record lies, whole or with its continuation, in a block. -/
def inBlock (l : Loc) (r : SealRec) : Bool :=
  r.loc.ch == l.ch && r.loc.die == l.die && (r.loc.block == l.block || r.tail == some l.block)

/-- A metadata record lies in a block. -/
def metaIn (l : Loc) (r : MetaRec) : Bool :=
  r.loc.ch == l.ch && r.loc.die == l.die && (r.loc.block == l.block || r.tail == some l.block)

/-- A granule's record is needed: the map, or the newest manifest's map, points to it (R218). -/
def recordNeeded (r : SealRec) (s : State) : Bool :=
  look s.nand.map r.granule == some r.loc.code ||
  ((newestManifest s).map (fun m => look (applyDeltas m.delta m.map) r.granule == some r.loc.code)).getD false

/-- The part of the map that a record holds. -/
def partOf (b : RecBody) : Option Nat :=
  match b with
  | .map p _ => some p
  | _ => none

/-- A metadata record is needed (R218): the newest record of its part of the map, a DELTA written after the last
checkpoint, and what a save has written since the fence of the newest manifest. -/
def metaNeeded (r : MetaRec) (s : State) : Bool :=
  match r.body with
  | .map p _ => s.nand.others.all (fun q => partOf q.body != some p || decide (q.frame ≤ r.frame))
  | .delta _ => decide (s.nand.lastCheckpoint ≤ r.frame)
  | .cullet _ _ => s.nand.others.all (fun q => q.body.type != .cullet || decide (q.frame ≤ r.frame))
  | _ => decide (((newestManifest s).map (·.frameFence)).getD 0 ≤ r.frame)

/-- Valid records of a block (R218). -/
def validRecords (l : Loc) (s : State) : Nat :=
  (s.nand.records.filter (fun r => inBlock l r && recordNeeded r s)).length +
    (s.nand.others.filter (fun r => metaIn l r && metaNeeded r s)).length

/-! ### Metadata records (R207 to R210) -/

/-- Pages of a metadata record: 2,048 entries of DELTA and 4,096 locations of MAP to a page, a granule's lines and a page
for the bitmap in an UNDO record, and what the implementation takes for the others (R209, R211, R212). -/
def bodyPages (b : RecBody) (s : State) : Nat :=
  match b with
  | .delta l => max 1 (ceilDiv l.length 2048)
  | .map _ _ => 1
  | .undo _ => granPages s + 1
  | .marver l => max 1 (Config.recordPages 5 l.length).toNat
  | .hold c p _ => max 1 (Config.recordPages 6 (c.length + p.length)).toNat
  | .gather q _ => max 1 (Config.recordPages 7 (q.foldl (fun n x => n + x.held.length) 0)).toNat
  | .cullet l f => max 1 (Config.recordPages 8 (l.length + f.length)).toNat
  | .continuity i => max 1 (Config.recordPages 9 ((i.map (·.granules.length)).getD 0)).toNat

/-- The die that will be idle first, of a channel's dies that take a record: a free choice (R210).
(log entry 32: DESIGN CHOICE). -/
def idleDie (ch : Nat) (s : State) : Option Nat :=
  let l := (List.range 16).filter (fun d => dieTakes ch d s)
  l[(freshWord s).toNat % max 1 l.length]?

/-- A metadata record is programmed (R208 to R210). Without a die that takes it, nothing is. -/
def programRecord (b : RecBody) (bySave : Bool) (s : State) : State :=
  let ch := nextChannel s
  match idleDie ch s with
  | none => s
  | some die =>
    let l := nextLoc ch die s
    let n := bodyPages b s
    let t := s |> spend |> placePages ch die n false |> unqueue ch n
    { t with nand := { t.nand with others := t.nand.others ++
        [{ body := b, frame := now s, bySave := bySave, loc := l, tail := tailOf l t, pages := n, device := deviceId s }] } }
      |> emit (.nand ch die "PROGRAM RECORD" [b.type.code])

/-- The records of the present save (R287): those programmed with SOURCE 1 since its fence. -/
def saveRecords (s : State) : List RecBody :=
  (s.nand.others.filter (fun r => r.bySave && decide (s.sav.t0 ≤ r.frame))).map (·.body)

/-- The present save has a record of a type. -/
def saved (t : RecType) (s : State) : Bool := (saveRecords s).any (fun b => b.type == t)

/-- Locations of the present save's records of a type, in the order of their programs. -/
def savedLocs (t : RecType) (s : State) : List Nat :=
  (s.nand.others.filter (fun r => r.bySave && decide (s.sav.t0 ≤ r.frame) && r.body.type == t)).map (·.loc.code)

/-- Every record under way is abandoned, and every entry SEALING or SEALING_REDIRTIED is DIRTY again (R240). -/
def abandonAll (s : State) : State := s |> forEach (s.nand.sealing.map (·.granule)) abandonSeal |> unsealAll

/-! ### Bad blocks, dies and channels (R205, R219 to R224) -/

/-- `CUL.ENTRY` shows the entry of INDEX (R229). -/
def culletShow (s : State) : State :=
  let k := get Reg.CUL.INDEX_INDEX s
  match s.nand.cullet[k]? with
  | some e =>
    s |> set Reg.CUL.ENTRY_CH e.ch |> set Reg.CUL.ENTRY_DIE e.die |> set Reg.CUL.ENTRY_BLOCK e.block
      |> set Reg.CUL.ENTRY_CAUSE e.cause |> set Reg.CUL.ENTRY_VALID 1
  | none =>
    s |> set Reg.CUL.ENTRY_CH 0 |> set Reg.CUL.ENTRY_DIE 0 |> set Reg.CUL.ENTRY_BLOCK 0
      |> set Reg.CUL.ENTRY_CAUSE 0 |> set Reg.CUL.ENTRY_VALID 0

/-- spare_permille (R216). -/
def sparePermille (s : State) : Nat :=
  let good := get Reg.NFC.POOL_BLOCKS s
  1000 * (good - get Reg.NFC.REQUIRED_BLOCKS s) / max 1 good

/-- The pool's figures after a change (R216, R217). -/
def poolShow (s : State) : State :=
  s |> set Reg.NFC.SPARE_PERMILLE (sparePermille s)
    |> set Reg.CUL.COUNT_ENTRIES s.nand.cullet.length

/-- A block grown bad enters the Cullet table once its valid records have been moved (R222); a full table no longer
records it (R217). (log entry 89: DEDUCED). -/
def enterCullet (l : Loc) (s : State) : State :=
  match (blockAt l s).grown with
  | none => s
  | some cause =>
    if validRecords l s ≠ 0 then s
    else if 65536 ≤ s.nand.cullet.length then s |> event 0x51 1 |> raiseHeld 229 0 0 0 0
    else
      let e : Cullet := { ch := l.ch, die := l.die, block := l.block, cause := cause }
      { s with nand := { s.nand with cullet := s.nand.cullet ++ [e] } }
        |> setBlock l { blockAt l s with grown := none }
        |> set Reg.NFC.POOL_BLOCKS (get Reg.NFC.POOL_BLOCKS s - 1)
        |> poolShow |> culletShow |> event 0x51 0 |> set Reg.CUL.LAST_FRAME_FRAME (now s)

/-- A block is grown bad (R222): nothing more is programmed into it. -/
def growBad (l : Loc) (cause : Nat) (s : State) : State :=
  if blockBad l.ch l.die l.block s then s
  else
    { s with nand := { s.nand with
        openBlocks := if look s.nand.openBlocks (16 * l.ch + l.die) = some l.block
          then drop s.nand.openBlocks (16 * l.ch + l.die) else s.nand.openBlocks } }
      |> setBlock l { blockAt l s with grown := some cause }
      |> enterCullet l

/-- A channel fails when its last die does (R205). -/
def channelFailed (ch : Nat) (s : State) : State :=
  if isSet (Reg.NCH.STS_FAILED ch) s then s
  else s |> set (Reg.NCH.STS_FAILED ch) 1 |> event 0x50 4
         |> raiseSimple (192 + ch) 2 ch (get (Reg.NCH.DIE_FAIL_DIES ch) s) 0

/-- A die fails while running (R205, R224): its bit, its source, its granules dirty, its records rewritten
later. -/
def failDie (ch die : Nat) (s : State) : State :=
  let bit := 2 ^ die
  if bitOf (get (Reg.NCH.DIE_FAIL_DIES ch) s) die then s
  else
    let s := s |> set (Reg.NCH.DIE_FAIL_DIES ch) (get (Reg.NCH.DIE_FAIL_DIES ch) s + bit)
               |> set (Reg.NCH.STS_DIES_OK ch)
                    (get (Reg.NCH.STS_DIES_OK ch) s - b2n (bitOf (get (Reg.NCH.STS_DIES_OK ch) s) die) * bit)
    let hit := (s.nand.records.filter (fun r => r.loc.ch == ch && r.loc.die == die &&
                  look s.nand.map r.granule == some r.loc.code)).map (·.granule)
    let cut := (s.nand.sealing.filter (fun r => r.loc.ch == ch && r.loc.die == die)).map (·.granule)
    s |> event 0x50 3 |> event (0x60 + ch) 0
      |> raiseSimple (192 + ch) 1 ch (get (Reg.NCH.DIE_FAIL_DIES ch) s) 0
      |> forEach cut abandonSeal
      |> forEach hit forceDirty
      |> (fun s => { s with nand := { s.nand with
            openBlocks := drop s.nand.openBlocks (16 * ch + die), dieOps := drop s.nand.dieOps (16 * ch + die),
            moving := s.nand.moving.filter (fun r => !(r.loc.ch == ch && r.loc.die == die)) } })
      |> when ((List.range (diesPerChannel s)).all (bitOf (get (Reg.NCH.DIE_FAIL_DIES ch) s))) (channelFailed ch)
      |> (fun s => set Reg.SAV.RATE_MBS (saveRate s) s)

/-- One more consecutive failure of a die, in this block: three in a row on different blocks fail it (R205). -/
def dieStreak (l : Loc) (s : State) : State :=
  let run := (l.block :: (look s.nand.dieStreak (16 * l.ch + l.die)).getD []).take 3
  { s with nand := { s.nand with dieStreak := put [] s.nand.dieStreak (16 * l.ch + l.die) run } }
    |> when (run.length == 3 && decide run.Nodup) (failDie l.ch l.die)

/-- A good operation of a die ends its run of failures. -/
def dieGood (ch die : Nat) (s : State) : State :=
  { s with nand := { s.nand with dieStreak := put [] s.nand.dieStreak (16 * ch + die) [] } }

/-! ### Moves (R218 to R220) -/

/-- The good blocks that a program or an erase has touched. -/
def touchedBlocks (s : State) : List (Nat × Block) :=
  s.nand.blocks.filter (fun e => !blockBad (e.1 / 2 ^ 27) (e.1 / 2 ^ 23 % 16) (e.1 / 2 ^ 10 % 8192) s)

/-- The full block with the fewest valid records (R218). -/
def fewestValid (l : Loc) (s : State) : Bool :=
  decide (pagesPerBlock s ≤ (blockAt l s).pages) &&
  s.nand.blocks.all (fun e => decide (e.2.pages < pagesPerBlock s) ||
    decide (validRecords l s ≤
      validRecords { ch := e.1 / 2 ^ 27, die := e.1 / 2 ^ 23 % 16, block := e.1 / 2 ^ 10 % 8192, page := 0 } s))

/-- Compaction has picked this block, or picks it now: a pick stands while the block holds a valid record (R218).
(log entry 102: DEDUCED). -/
def compactsNow (l : Loc) (s : State) : Bool :=
  match s.nand.compacting with
  | none => fewestValid l s
  | some k =>
    k == blockKey l ||
    validRecords { ch := k / 2 ^ 27, die := k / 2 ^ 23 % 16, block := k / 2 ^ 10 % 8192, page := 0 } s == 0 && fewestValid l s

/-- The pool's erase counts lie further apart than `STATIC_DELTA`, and this block has the lowest (R219). -/
def levelDue (l : Loc) (s : State) : Bool :=
  let touched := touchedBlocks s
  let worn := (touched.map (·.2.erases)).foldl max 0
  let least := if touched.length < get Reg.NFC.POOL_BLOCKS s then 0 else (touched.map (·.2.erases)).foldl min worn
  decide (get Reg.NFC.WEAR_STATIC_DELTA s < worn - least) && (blockAt l s).erases == least

/-- Every record of this block is to move: its age, its reads, a retry, or a block grown bad (R220, R222). -/
def refreshDue (l : Loc) (s : State) : Bool :=
  (blockAt l s).refresh || blockBad l.ch l.die l.block s ||
  decide (get Reg.NFC.RETAIN_HOURS s * 180000000 < now s - (blockAt l s).oldest)

/-- A record of this block may be moved (R218 to R220, R222). (log entry 102: DEDUCED). -/
def moveDue (l : Loc) (s : State) : Bool := refreshDue l s || levelDue l s || compactsNow l s

/-- A move of a record begins, to a die of a channel in use. -/
def startMove (r : SealRec) (ch die : Nat) (s : State) : State :=
  let l := nextLoc ch die s
  let pick := if refreshDue r.loc s || levelDue r.loc s then s.nand.compacting else some (blockKey r.loc)
  let t := placePages ch die (granPages s) false s
  { t with nand := { t.nand with
      compacting := pick, moving := t.nand.moving ++ [{ r with moved := true, loc := l, tail := tailOf l t, bad := [] }] } }
    |> readRecord r false |> queueOp ch die { kind := .program, what := r.granule }

/-- The moves under way stop: their records have no CONFIRM entry and are ignored (R225, R226). -/
def dropMoves (s : State) : State :=
  { s with nand := { s.nand with moving := [] } }
    |> forEach s.nand.moving (fun r s => s |> unqueue r.loc.ch (granPages s) |> dropOp r.loc.ch r.loc.die .program r.granule
        |> (fun s => match currentRecord r.granule s with
            | some o => dropOp o.loc.ch o.loc.die .read r.granule s
            | none => s))

/-! ### Manifests (R213, R215, R291) -/

/-- The SEQ of the next manifest: one more than the previous one's; 1 for the first (log entry 12). -/
def nextSeq (s : State) : Nat := ((newestManifest s).map (·.seq)).getD 0 + 1

/-- The contexts that a save records (R192, R287). -/
def savedContexts (s : State) : List SavedCtx :=
  (allCtx.filter (fun g => liveCtx (ctxState g s) || ctxClearing g s)).map (fun g =>
    { ctx := g, state := ctxState g s, tag := ctxTag g s, parts := ctxParts g s,
      coord := (ballotOf g s).2.1, frame := (ballotOf g s).2.2, clearing := ctxClearing g s }) ++
  (allCtx.filter (fun c => remoteOpen c s || remotePrepared c s)).map (fun c =>
    { ctx := 64 + c, state := if remotePrepared c s then 3 else 1, tag := (look s.twn.tags c).getD 0, parts := 0,
      coord := 0, frame := 0 })

/-- The pairs with the bytes of their slabs. -/
def savedPairs (s : State) : List SavedPair :=
  s.txn.pairs.map (fun p =>
    let lo := undoBase s + p.slab * granBytes s
    { pair := p, undo := (s.dram.mem.filter (fun c => lo ≤ c.1 && c.1 < lo + granBytes s)).map (fun c => (c.1 - lo, c.2)) })

/-- A record of GQ2 comes from SYS (R441): all others are the restore engine's. -/
def fromSys (rec : List (BitVec 16)) : Bool := (rec.getD 0 0).toNat / 256 == 0x43

/-- The records that wait for credits, at most one per producer (R442). -/
def waitingSaved (l : List (List (BitVec 16))) : List (List (BitVec 16)) :=
  match l with
  | [] => []
  | r :: rest => r :: (rest.filter (fun q => fromSys q != fromSys r)).take 1

/-- The queues with their positions, as they are now (R442). -/
def gatherNow (s : State) : List Gather × List (Nat × Nat × Nat × Nat) :=
  (s.gq.map (fun g => { g with waiting := waitingSaved g.waiting }), (List.range 4).map (fun q =>
    (get (Reg.GQ.WR_SEQ q) s, get (Reg.GQ.RD_SEQ q) s, get (Reg.GQ.MARK_SEQ q) s, get (Reg.GQ.RELEASED_SEQ q) s)))

/-- The intent list of the present save (R287 step 1). -/
def saveIntent (s : State) : Option Intent :=
  (saveRecords s).findSome? (fun b => match b with | .continuity (some i) => some i | _ => none)

/-- The HOLD records of the present save are programmed (R287 step 3). -/
def holdSaved (s : State) : Bool := saved .hold s

/-- The next page of a channel's anchor blocks (R215); none where the channel or its die 0 does not program. -/
def anchorLoc (ch : Nat) (a : Anchor) (s : State) : Option Loc :=
  if !channelGood ch s || bitOf (get (Reg.NCH.DIE_FAIL_DIES ch) s) 0 then none
  else
    let full := decide (pagesPerBlock s ≤ a.page)
    ((anchorBlocks ch s)[if full then 1 - a.which else a.which]?).map (fun k =>
      { ch := ch, die := 0, block := k, page := if full then 0 else a.page })

/-- The page of a channel's anchor block is programmed; a switch to the other block erases the block left behind, once the
block in use holds a valid manifest (R215). -/
def useAnchor (ch : Nat) (a : Anchor) (s : State) : Anchor :=
  if decide (pagesPerBlock s ≤ a.page) && (anchorLoc ch a s).isSome then { which := 1 - a.which, page := 1 }
  else { a with page := a.page + b2n (anchorLoc ch a s).isSome }

/-- The anchor block that a switch left is erased: the manifests it held are gone from that channel (R215). -/
def eraseAnchor (ch : Nat) (a : Anchor) (s : State) : State :=
  match (if pagesPerBlock s ≤ a.page then (anchorBlocks ch s)[a.which]? else none) with
  | none => s
  | some k =>
    let l : Loc := { ch := ch, die := 0, block := k, page := 0 }
    let gone := fun (x : Option Nat) => x.any (fun c => c / 1024 == l.code / 1024)
    { s with nand := { s.nand with manifests := (s.nand.manifests.map (fun m =>
        { m with loc := if ch = 0 ∧ gone m.loc then none else m.loc,
                 loc4 := if ch = 4 ∧ gone m.loc4 then none else m.loc4 })).filter (fun m =>
                   m.loc.isSome || m.loc4.isSome) } }
      |> setBlock l { blockAt l s with erases := (blockAt l s).erases + 1, pages := 0, reads := 0 }

/-- A manifest of a kind (R291). A save's names the records of the save, a checkpoint's the MAP records alone (R292). -/
def buildManifest (kind : Nat) (eDrawn : Nat) (s : State) : Manifest :=
  let check := kind == 2
  let rs := if check then [] else saveRecords s
  { kind := kind,
    okAtFence := isSet Reg.SAV.LAST_TRIG_OK_AT_FENCE s, rideTaken := s.sav.rode,
    preseal := isSet Reg.SAV.LAST_TRIG_PRESEAL s,
    runAhead := get Reg.RSR.STS_STAGE s == 8, migrating := isSet Reg.SPR.MIG_STS_ACTIVE s,
    paired := paired s, domain := get Reg.DOM.CFG_MEMBERS s != 0,
    seq := nextSeq s,
    frameFence := if check then now s else s.sav.t0,
    frameSealed := now s, rtcFence := if check then s.pwr.rtc else s.sav.rtcFence,
    trigger := if check then 0 else get Reg.SAV.LAST_TRIG_TRIGGER s,
    eDrawn := eDrawn, dirty := s.sav.dirty, sealed := s.sav.sealed,
    granSize := get Reg.MRV.CFG_GRAN_IN_USE s, exposedGib := get Reg.SYS.CAP_ACK_EXPOSED_GIB s,
    mapCrc := get Reg.DMC.MAP_CRC_CRC s,
    spareMap := (List.range 8).map (fun m =>
      get (Reg.SPR.SPARE_CH m) s + get (Reg.SPR.SPARE_RANK m) s * 16 + get (Reg.SPR.SPARE_TARGET_CH m) s * 64 +
      get (Reg.SPR.SPARE_TARGET_RANK m) s * 1024 + get (Reg.SPR.SPARE_IN_USE m) s * 2 ^ 14 +
      get (Reg.SPR.SPARE_VALID m) s * 2 ^ 15),
    migPtr := get Reg.SPR.MIG_PTR_INDEX s,
    migSts := get Reg.SPR.MIG_STS_ACTIVE s + get Reg.SPR.MIG_STS_SRC s * 2 + get Reg.SPR.MIG_STS_DST s * 128 +
      get Reg.SPR.MIG_STS_QUEUED s * 1024,
    dsc := s.hp.dirtyShutdowns, wearCredit := s.mrv.credit,
    loc := (anchorLoc 0 s.nand.anchor0 s).map Loc.code, loc4 := (anchorLoc 4 s.nand.anchor4 s).map Loc.code,
    dirLoc := (((s.nand.others.filter (fun r => partOf r.body == some 0x1000)).getLast?).map (·.loc.code)).getD 0xFFFFFFFF,
    index := if check then [] else
      savedLocs .undo s ++ savedLocs .hold s ++ savedLocs .marver s ++ savedLocs .gather s ++ savedLocs .cullet s ++
        savedLocs .continuity s,
    deltaLoc := if check then [] else savedLocs .delta s,
    device := deviceId s,
    map := s.nand.mapFlash,
    delta := rs.flatMap (fun b => match b with | .delta l => l | _ => []),
    log := rs.flatMap (fun b => match b with | .hold _ _ l => l | _ => []),
    entries := rs.flatMap (fun b => match b with | .marver l => l | _ => []),
    contexts := rs.flatMap (fun b => match b with | .hold c _ _ => c | _ => []),
    pairs := rs.filterMap (fun b => match b with | .undo p => some p | _ => none),
    gather := rs.flatMap (fun b => match b with | .gather q _ => q | _ => []),
    positions := rs.flatMap (fun b => match b with | .gather _ p => p | _ => []),
    cullet := rs.flatMap (fun b => match b with | .cullet l _ => l | _ => []) }

/-- `NFC.MANIFEST_LOC`: the newest valid manifest on NAND channel 0 (R227). -/
def manifestShow (s : State) : State :=
  set Reg.NFC.MANIFEST_LOC_LOC ((((s.nand.manifests.filter (fun m => m.device == deviceId s)).reverse.findSome? (·.loc))).getD
    0xFFFFFFFF) s

/-- A manifest's copies are programmed on channels 0 and 4 (R215); with either of them it is valid (R290), and the twin
learns of it (R331). -/
def programManifest (m : Manifest) (a b : Bool) (s : State) : State :=
  let x := { m with loc := if a then m.loc else none, loc4 := if b then m.loc4 else none }
  let old0 := s.nand.anchor0
  let old4 := s.nand.anchor4
  { s with nand := { s.nand with manifests := s.nand.manifests ++ [x], initialised := true,
                                 anchor0 := useAnchor 0 old0 s, anchor4 := useAnchor 4 old4 s } }
    |> when a (eraseAnchor 0 old0) |> when b (eraseAnchor 4 old4)
    |> manifestShow
    |> when (twinAttached s) sealN

/-- The copies that the anchor blocks take now. -/
def anchorsTake (s : State) : Bool × Bool := ((anchorLoc 0 s.nand.anchor0 s).isSome, (anchorLoc 4 s.nand.anchor4 s).isSome)

/-! ### MAP records and the Cullet record (R213, R222) -/

/-- The parts of the map with entries among the first `n` of the cache, and those whose record lies on a die that does not
answer (R213, R224). -/
def dirtyParts (n : Nat) (s : State) : List Nat :=
  (((s.nand.delta.take n).filter (·.confirm)).map (fun (d : Delta) => d.granule / 4096) ++
    (s.nand.others.filter (fun r => metaNeeded r s && !metaValid r s)).filterMap (fun (r : MetaRec) =>
      (partOf r.body).filter (fun p => decide (p < 4096)))).dedup

/-- The MAP record of a part, with the first `n` entries applied. -/
def writeMap (n : Nat) (p : Nat) (s : State) : State :=
  programRecord (.map p ((applyDeltas (s.nand.delta.take n) s.nand.mapFlash).filter (fun e => e.1 / 4096 == p))) false s

/-- The entries of the cache that no DELTA record holds are programmed (R212). (log entry 87: DEDUCED). -/
def writeDelta (bySave : Bool) (s : State) : State :=
  let l := s.nand.delta.filter (fun d => !d.programmed)
  if l.isEmpty then s
  else { s with nand := { s.nand with delta := s.nand.delta.map (fun d => { d with programmed := true }) } }
         |> programRecord (.delta l) bySave

/-- The map directory (R292). -/
def writeDirectory (bySave : Bool) (s : State) : State :=
  programRecord (.map 0x1000 ((List.range 4096).filterMap (fun p =>
    ((s.nand.others.filter (fun r => partOf r.body == some p)).getLast?).map (fun r => (p, r.loc.code))))) bySave s

/-- The Cullet table and the factory list (R221, R222). -/
def writeCullet (bySave : Bool) (s : State) : State := programRecord (.cullet s.nand.cullet s.nand.factory) bySave s

/-- The CULLET record on flash is not the present table. -/
def culletStale (s : State) : Bool :=
  match (s.nand.others.filter (fun r => r.body.type == .cullet)).getLast? with
  | some r => !(r.body == .cullet s.nand.cullet s.nand.factory) || !metaValid r s
  | none => true

end Sys2Proof.Machine
end

