-- ==== Sys2Proof/Machine/RestoreOps.lean ====
section
/-! DEFINITION. Restore: loading metadata and granules, the continuity record, host admission (R300 to
R324). -/

namespace Sys2Proof.Machine

def rsrStage (s : State) : Nat := get Reg.RSR.STS_STAGE s
def setStage (n : Nat) (s : State) : State := set Reg.RSR.STS_STAGE n s

/-- A restore is in progress: BUSY stages. -/
def restoring (s : State) : Bool := 1 ≤ rsrStage s && rsrStage s < 9

/-- A granule that a record of the image holds and the restore has not written yet (R310). -/
def unrestored (g : Nat) (s : State) : Bool :=
  !s.rsr.all && !s.rsr.restored.contains g && (look s.nand.map g).isSome

/-- The granules that records hold. -/
def imageGranules (s : State) : List Nat := s.nand.map.map (·.1)

/-- DRAM loses a range of bytes but for the lines kept. -/
def clearRange (lo n : Nat) (keep : Nat → Bool) (s : State) : State :=
  { s with dram := { s.dram with
      mem := s.dram.mem.filter (fun c => !(lo ≤ c.1 && c.1 < lo + n && !keep (c.1 / 64))),
      poisoned := s.dram.poisoned.filter (fun l => !(lo ≤ 64 * l && 64 * l < lo + n && !keep l)) } }

/-- A granule's image is written into DRAM, but for the lines that `keep` names: bytes and poison (R309,
R318). -/
def loadImage (g : Nat) (image : List Host.Cell) (poison : List Nat) (keep : Nat → Bool) (s : State) : State :=
  let lo := g * granBytes s
  s |> clearRange lo (granBytes s) keep
    |> forEach (image.filter (fun c => !keep ((lo + c.1) / 64))) (fun c => writeByte (lo + c.1) c.2)
    |> forEach (poison.filter (fun j => !keep (granuleBase g s + j))) (fun j => addPoison (granuleBase g s + j))

/-- Every line of a granule but those kept is written with poison (R309). -/
def poisonGranule (g : Nat) (keep : Nat → Bool) (s : State) : State :=
  loadImage g [] (List.range (granLines s)) keep s

/-- The restore marks a granule LOST (R306, R311, R318). (log entry 86: DEDUCED). -/
def restoreLost (g : Nat) (s : State) : State :=
  { s with rsr := { s.rsr with lost := addNat s.rsr.lost g } }
    |> putEntry g { entryOf g s with state := .dirty, lost := true }
    |> granuleLostRecord g 1
    |> inc Reg.RSR.LOST_COUNT |> event 0x43 4
    |> raiseSimple 240 0 0 (get Reg.RSR.LOST_COUNT s + 1) 0
    |> countDirtyShutdown

/-- The lines the host has written in a granule in flight (R317). -/
def hostLines (g : Nat) (s : State) : List Nat := ((look s.rsr.inflight g).map (·.lines)).getD []

/-- A granule is in flight (R317). -/
def inFlight (g : Nat) (s : State) : Bool := (look s.rsr.inflight g).isSome

/-- Merge slots a granule takes, and those in use (R317). -/
def slotsPer (s : State) : Nat := if granBytes s = 131072 then 2 else 1
def slotsUsed (s : State) : Nat := s.rsr.inflight.length * slotsPer s

/-- The granules in flight change, and `RSR.SLOTS` with them. -/
def setInflight (l : List (Nat × Flight)) (s : State) : State :=
  { s with rsr := { s.rsr with inflight := l } }
    |> set Reg.RSR.SLOTS_IN_FLIGHT (l.length * slotsPer s)
    |> set Reg.RSR.SLOTS_DEMAND ((l.filter (·.2.demand)).length * slotsPer s)

/-- The restored bit of a granule sets, and its slot is freed (R310, R318). -/
def markRestored (g : Nat) (s : State) : State :=
  { s with rsr := { s.rsr with restored := addNat s.rsr.restored g } }
    |> set Reg.RSR.DONE_GRAN (get Reg.RSR.DONE_GRAN s + 1)
    |> setInflight (drop s.rsr.inflight g) |> urgentEnds g

/-- A granule's record data is in DRAM (R309, R311, R318). -/
def restoreGranule (g : Nat) (ok : Bool) (s : State) : State :=
  if !unrestored g s then s
  else
    let written := hostLines g s
    let keep := fun l => written.contains l
    let s := count Reg.RSR.SQUASHED_COUNT written.length s
    match (if ok then (currentRecord g s).filter (fun r => sealValid r s) else none) with
    | some r =>
      s |> loadImage g r.image r.poison keep
        |> when written.isEmpty (fun s => putEntry g { entryOf g s with state := .clean } s)
        |> markRestored g
    | none => s |> poisonGranule g keep |> restoreLost g |> markRestored g

/-- Everything the restore had to write is written. -/
def allRestored (s : State) : Bool := s.rsr.all || (imageGranules s).all (fun g => !unrestored g s)

/-- A demand fetch: the granule takes a merge slot (R316, R317). -/
def demandFetch (g : Nat) (s : State) : State :=
  s |> setInflight (insert s.rsr.inflight g { demand := true }) |> inc Reg.RSR.DEMANDS_COUNT |> urgentRead g

/-- The first granule of a sweep from the cursor on: of the sweep's heat, not restored and not in flight (R316). -/
def nextSweep (s : State) : Option Nat :=
  (s.nand.map.find? (fun e => decide (get Reg.RSR.HEAT_CURSOR s ≤ e.1) &&
    (entryOf e.1 s).heat == get Reg.RSR.HEAT_LEVEL s && unrestored e.1 s && !inFlight e.1 s)).map (·.1)

/-- A speculative fetch of a granule (R316). -/
def sweepFetch (g : Nat) (s : State) : State :=
  s |> setInflight (insert s.rsr.inflight g {}) |> set Reg.RSR.HEAT_CURSOR (g + 1)
    |> (fun s => match currentRecord g s with
        | some r => readRecord r false s
        | none => s)

/-- The sweeps over the Marver, from the cursor's heat down to 0, while more than 512 merge slots are free (R316). -/
def sweep : Nat → State → State
  | 0, s => s
  | n + 1, s =>
    if 4096 ≤ slotsUsed s + 512 then s
    else if !creditFor (poolAddr 0x43 0x148) true s then stallOn (poolAddr 0x43 0x148) s
    else
      match nextSweep s with
      | some g => sweep n (sweepFetch g s)
      | none =>
        if get Reg.RSR.HEAT_LEVEL s = 0 then s
        else sweep n (s |> set Reg.RSR.HEAT_LEVEL (get Reg.RSR.HEAT_LEVEL s - 1) |> set Reg.RSR.HEAT_CURSOR 0)

/-- A host write marks its line in a granule in flight (R317). -/
def slotWrite (g line : Nat) (s : State) : State :=
  match look s.rsr.inflight g with
  | none => s
  | some x =>
    setInflight (insert (drop s.rsr.inflight g) g { x with lines := addNat x.lines line }) s

/-! ### Metadata (R309) -/

/-- A context of the saved table returns with its state (R192), a PREPARED one with its vote. -/
def loadContext (c : SavedCtx) (s : State) : State :=
  if 64 ≤ c.ctx then
    { s with twn := { s.twn with tags := insert (drop s.twn.tags (c.ctx - 64)) (c.ctx - 64) c.tag } }
      |> setRemoteOpen (c.ctx - 64) (c.state == 1) |> setRemotePrepared (c.ctx - 64) (c.state == 3)
  else
  let v : Vote := { tag := c.tag, coord := c.coord, frame := c.frame, ctx := c.ctx, yes := true }
  { s with rng := { s.rng with votes := if c.state = 3 then s.rng.votes ++ [v] else s.rng.votes } }
    |> set (Reg.TXC.CTX_TAG_TAG (c.ctx / 16) (c.ctx % 16)) c.tag
    |> set (Reg.TXC.CTX_TAG_PARTS (c.ctx / 16) (c.ctx % 16)) c.parts
    |> set (Reg.TXC.CTX_STS_STATE (c.ctx / 16) (c.ctx % 16)) c.state
    |> put1 (Reg.TXC.CTX_STS_CLEARING (c.ctx / 16) (c.ctx % 16)) c.clearing

/-- A slab returns to the undo region from its UNDO record. -/
def loadSlab (p : SavedPair) (s : State) : State :=
  let lo := undoBase s + p.pair.slab * granBytes s
  s |> clearRange lo (granBytes s) (fun _ => false)
    |> forEach p.undo (fun c => writeByte (lo + c.1) c.2)

/-- The Hold set, the context table and the slabs return. -/
def loadHold (cs : List SavedCtx) (ps : List SavedPair) (s : State) : State :=
  s |> forEach cs loadContext
    |> setPairs (ps.map (·.pair))
    |> forEach ps loadSlab
    |> forEach ps (fun p s => putEntry p.pair.granule { entryOf p.pair.granule s with txHeld := true } s)
    |> forEach (cs.filter (fun c => decide (c.ctx < 64))) (fun c =>
        let mine := ps.filter (fun p => p.pair.ctx == c.ctx)
        fun s => s |> set (Reg.TXC.CTX_HELD_GRANULES (c.ctx / 16) (c.ctx % 16)) mine.length
          |> set (Reg.TXC.CTX_LINES_LINES (c.ctx / 16) (c.ctx % 16)) (mine.foldl (fun n p => n + p.pair.lines.length) 0))
    |> txnShow

/-- The domain's log returns with the HOLD records (R370). -/
def loadLog (l : List LogEntry) (s : State) : State :=
  { s with rng := { s.rng with log := l } }
    |> set Reg.DOM.LOG_USED l.length |> set Reg.DOM.LOG_OLDEST_FRAME ((l.head?.map (·.frame)).getD 0)

/-- The rollback of contexts that were not effective at the fence begins (R192, R312): `TXN.REPLAY` shows it. -/
def beginRollback (s : State) : State :=
  { s with txn := { s.txn with rollback := allCtx.filter (fun g =>
      ctxState g s == 1 || ctxState g s == 2 || ctxState g s == 5) } } |> replayShow |> setStage 5

/-- The counters and the summary of the Marver are rebuilt from its entries. -/
def rebuildCounts (s : State) : State :=
  let n := fun (p : Entry → Bool) => (s.mrv.entries.filter (fun e => p e.2)).length
  let dirty := (s.mrv.entries.filter (fun e => e.2.state != .clean)).map (fun e => e.1 / 64)
  let groups := (dirty.dedup).map (fun k => (k, ({ stamp := now s % 65536, old := false } : Group)))
  { s with mrv := { s.mrv with groups := groups } }
    |> set Reg.MRV.DIRTY_COUNT (n (fun e => e.state != .clean))
    |> set Reg.MRV.LOST_COUNT (n (·.lost)) |> set Reg.MRV.HELD_COUNT (n (·.txHeld))
    |> set Reg.MRV.TWIN_DIRTY_COUNT (n (·.twinDirty)) |> set Reg.MRV.GROUPS_SET groups.length

/-- The queues' contents and positions return (R442). -/
def loadGather (m : Manifest) (s : State) : State :=
  if m.gather.isEmpty then s
  else
    { s with gq := m.gather }
      |> forEach (List.range 4) (fun q s =>
          match m.positions[q]? with
          | some p =>
            s |> set (Reg.GQ.WR_SEQ q) p.1 |> set (Reg.GQ.RD_SEQ q) p.2.1 |> set (Reg.GQ.MARK_SEQ q) p.2.2.1
              |> set (Reg.GQ.RELEASED_SEQ q) p.2.2.2 |> queueShow q
          | none => s)

/-- A granule lies in one of the ranges. -/
def inRanges (rs : List (Nat × Nat)) (g : Nat) : Bool := rs.any (fun r => decide (r.1 ≤ g) && decide (g < r.1 + r.2))

/-- A granule that the capacity reduction of R158 left reachable: in use, and not under a region that moved. -/
def reachable (s : State) (g : Nat) : Bool := decide (g < mapEntries s) && !inRanges s.rsr.moved g

/-- The granules under moved regions are LOST (R159). -/
def loseMoved (s : State) : State :=
  forEach (s.rsr.moved.flatMap (fun r => (List.range r.2).map (· + r.1))) (fun g s =>
    s |> markLost g 4 |> inc Reg.RSR.LOST_COUNT |> event 0x43 4) s

/-- The map names no record for a granule any more. -/
def dropRecord (g : Nat) (s : State) : State :=
  { s with nand := { s.nand with map := drop s.nand.map g, mapFlash := drop s.nand.mapFlash g } }
    |> setDelta (s.nand.delta.filter (fun d => d.granule != g))

/-- A granule that a save left LOST without a record (R48): it has no usable record (R311). -/
def loseUnsealed (g : Nat) (s : State) : State :=
  s |> dropRecord g |> (fun s => { s with rsr := { s.rsr with lost := addNat s.rsr.lost g } })
    |> poisonGranule g (fun _ => false) |> inc Reg.RSR.LOST_COUNT |> event 0x43 4

/-- The entries of the granules that a capacity reduction removed: LOST (R158, R233). -/
def cutEntries (s : State) : List (Nat × Entry) :=
  (s.rsr.cut.flatMap (fun r => (List.range r.2).map (· + r.1))).map (fun g => (g, { lost := true }))

/-- The metadata of the accepted manifest is loaded (R309); what a capacity reduction took is left out (R158,
R159). -/
def loadMetadata (m : Manifest) (s : State) : State :=
  let keep := reachable s
  let delta := m.delta.filter (fun d => keep d.granule)
  let onFlash := m.map.filter (fun e => keep e.1)
  let map := applyDeltas delta onFlash
  let entries := (m.entries.filter (fun e => keep e.1)).map (fun e =>
    (e.1, { e.2 with txHeld := false, state := if (look map e.1).isNone && !e.2.lost then .clean else e.2.state }))
  { s with
    nand := { s.nand with map := map, mapFlash := onFlash, cullet := (m.cullet ++ s.nand.cullet).dedup },
    mrv := { s.mrv with entries := entries ++ cutEntries s, credit := m.wearCredit },
    rsr := { s.rsr with all := false, restored := [], inflight := [], lost := [] } }
    |> setDelta (delta.map (fun d => { d with programmed := true })) |> setInflight []
    |> loadHold m.contexts (m.pairs.filter (fun p => keep p.pair.granule)) |> loadLog m.log
    |> rebuildCounts
    |> loadGather m
    |> poolShow |> culletShow
    |> (fun s => set Reg.RSR.TOTAL_GRAN s.nand.map.length s) |> set Reg.RSR.DONE_GRAN 0 |> set Reg.RSR.LOST_COUNT 0
    |> loseMoved
    |> forEach ((entries.filter (fun e => e.2.lost && e.2.state != .clean)).map (·.1)) loseUnsealed

/-! ### The continuity record (R322 to R324) -/

/-- The flags of word 14. -/
def contFlags (warm : Bool) (s : State) : Nat :=
  b2n (isSet Reg.SAV.LAST_TRIG_OK_AT_FENCE s) + b2n s.sav.rode * 2 + b2n s.sav.manifestDone * 4 +
  b2n s.sav.incomplete * 8 + b2n (!warm && isSet Reg.RSR.STS_REBUILD s) * 16 +
  b2n (!warm && get Reg.RSR.STS_FALLBACKS s != 0) * 32 + b2n (!warm && isSet Reg.RSR.STS_UNVERIFIED s) * 64 +
  b2n s.rsr.capacityReduced * 128 + b2n s.hp.outageCounted * 256 +
  b2n (s.rsr.outcomes.any (fun o => o.outcome == 4 || o.outcome == 5)) * 512 +
  b2n (!warm && isSet Reg.RSR.STS_RUN_AHEAD s) * 1024 + b2n warm * 2048 + b2n s.rsr.firstInit * 4096

/-- Outcomes with a code. -/
def outcomesOf (k : Nat) (s : State) : Nat := (s.rsr.outcomes.filter (·.outcome == k)).length

/-- The payload of a CONTINUITY record, words 4 to 43 (R323). -/
def contPayload (warm : Bool) (s : State) : List (BitVec 16) :=
  let unsaved := s.rsr.unsaved
  let path := if warm then 0 else if s.rsr.firstInit then 3 else if isSet Reg.RSR.STS_RUN_AHEAD s then 2 else 1
  let seq := if warm then ((newestManifest s).map (·.seq)).getD 0 else get Reg.RSR.MANIFEST_SEQ s
  words16 3 (if s.rsr.firstInit then 0 else s.sav.t0) ++
  words16 3 (now s) ++
  words16 2 (if unsaved then 0 else s.sav.rtcFence) ++ words16 2 s.pwr.rtc ++
  words16 1 (contFlags warm s) ++
  words16 1 ((if unsaved then 0 else get Reg.SAV.LAST_TRIG_TRIGGER s + get Reg.SAV.LAST_TRIG_OUTCOME s * 256) +
    path * 4096) ++
  words16 2 (get Reg.RSR.DONE_GRAN s) ++ words16 2 (if warm then s.rsr.lost.length else get Reg.RSR.LOST_COUNT s + s.rsr.cut.foldl (fun n r => n + r.2) 0) ++
  words16 1 s.rsr.rolledBack ++
  words16 1 (outcomesOf 1 s + outcomesOf 2 s) ++ words16 1 (outcomesOf 3 s) ++ words16 1 (outcomesOf 6 s) ++
  words16 2 seq ++ words16 2 s.hp.dirtyShutdowns ++
  words16 16 (Config.digest seq).toNat

/-- Adjacent granules merged into ranges: first index and count (R324). -/
def ranges : List Nat → List (Nat × Nat)
  | [] => []
  | g :: rest =>
    match ranges rest with
    | (h, n) :: more => if g + 1 = h then (g, n + 1) :: more else (g, 1) :: (h, n) :: more
    | [] => [(g, 1)]

/-- LOST records of up to 62 ranges each, the last with LAST (R324). -/
def lostRecords : Nat → List (Nat × Nat) → State → State
  | 0, _, s => s
  | k + 1, rs, s =>
    if rs.isEmpty then s
    else
      let part := rs.take 62
      let last := rs.length ≤ 62
      s |> pushRecord 2 (record 0x41
            (words16 1 (part.length + b2n last * 2 ^ 15) ++
              part.flatMap (fun r => words16 2 r.1 ++ words16 2 r.2)) s)
        |> lostRecords k (rs.drop 62)

/-- A CONTEXT record (R324): nothing without entries. -/
def contextRecord (os : List CtxOutcome) (s : State) : State :=
  if os.isEmpty then s
  else
    pushRecord 2 (record 0x42
      (words16 1 (os.length % 128) ++
        os.flatMap (fun o => words16 1 (o.ctx % 64 + o.outcome * 64 + o.tag % 128 * 512) ++
          words16 1 (o.tag / 128 % 2 ^ 15))) s) s

/-- `RSR.CONTINUITY.DATA` shows the word of INDEX (R327). -/
def continuityShow (s : State) : State :=
  set Reg.RSR.CONTINUITY_DATA (s.rsr.continuity.getD (get Reg.RSR.CONTINUITY_INDEX s) 0) s

/-- The continuity records are published to GQ2 (R322). -/
def publishContinuity (warm : Bool) (s : State) : State :=
  let rec44 := record 0x40 (contPayload warm s) s
  let lost := s.rsr.cut ++ s.rsr.moved ++ ranges s.rsr.lost
  { s with rsr := { s.rsr with continuity := rec44.map (·.toNat) } }
    |> pushRecord 2 rec44
    |> lostRecords (lost.length + 1) lost
    |> contextRecord s.rsr.outcomes
    |> continuityShow |> event 0x43 5

/-- An outcome of a context of the outage (R324). (log entry 86: DEDUCED). -/
def addOutcome (g code : Nat) (s : State) : State :=
  { s with rsr := { s.rsr with outcomes :=
      s.rsr.outcomes ++ [{ ctx := g, outcome := code, tag := ctxTag g s }] } }

/-- An outcome reached after publication is published as a record of one entry (R322). (log entry 86: DEDUCED). -/
def publishOutcome (g code : Nat) (s : State) : State :=
  contextRecord [{ ctx := g, outcome := code, tag := ctxTag g s }] s

/-! ### Admission (R315) -/

/-- The run record names the SEQ of the newest valid manifest (R506). -/
def writeRunRecord (s : State) : State :=
  { s with rsr := { s.rsr with runRecord := (newestManifest s).map (·.seq), coldReset := false } }

/-- Media Status of a port (R107): Ready is 1, Error 2; by the stage that the present restore uses (R108). -/
def mediaShow (n : Nat) (s : State) : State :=
  let ready := admittedNow s && !fenced s &&
    (s.hp.mediaStage.getD n 0 == 0 || rsrStage s == 9) && isSet (Reg.HPT.STS_CFG_READY n) s
  set (Reg.HPT.STS_MEDIA n) (if rsrStage s = 10 then 2 else if ready then 1 else 0) s

/-- Media Status of every port (R107). -/
def mediaAll (s : State) : State := forEach [0, 1, 2, 3] (fun n => when (portUsed n s) (mediaShow n)) s

/-- CXL.mem credits return: the ports leave their fence (R112). -/
def portsOpen (s : State) : State :=
  forEach [0, 1, 2, 3] (fun n => set (Reg.HPT.STS_FENCED n) 0) s

/-- Host admission (R315, R276, R503): BOOT clears, SAV is ARMED, credits return, the continuity records are
published. -/
def admitHost (s : State) : State :=
  s |> writeRunRecord
    |> set Reg.SYS.PERSIST_BOOT 0 |> set Reg.SYS.PERSIST_FENCED 0
    |> set Reg.RSR.STS_ADMITTED 1 |> event 0x43 1
    |> set Reg.SAV.STS_STATE 1 |> set Reg.SAV.STS_ARMED 1
    |> portsOpen
    |> (fun s => { s with rsr := { s.rsr with ready := false },
                          mrv := { s.mrv with firstCompare := true } })
    |> mediaAll
    |> publishContinuity false

/-- The mode of R314, and with it whether admission waits for the image. -/
def chooseMode (s : State) : State :=
  let recs := get Reg.RSR.TOTAL_GRAN s
  let rate := max 1 (get Reg.RSR.RATE_MBS s)
  let est := 150 + recs * granBytes s / (rate * 1000)
  let ahead := s.rsr.cfg.mode == 2 || (s.rsr.cfg.mode != 1 && decide (s.rsr.cfg.deadlineMs < est))
  s |> set Reg.RSR.EST_MS est
    |> put1 Reg.RSR.STS_RUN_AHEAD ahead
    |> setStage (if ahead then 8 else 7)
    |> set Reg.RSR.HEAT_LEVEL 15 |> set Reg.RSR.HEAT_CURSOR 0
    |> (fun s => { s with rsr := { s.rsr with ready := ahead || allRestored s, imageFrom := now s,
                                              doneBefore := get Reg.RSR.DONE_GRAN s } })

/-- A restore starts over from manifest validation (R95, R276). -/
def restartRestore (s : State) : State :=
  if admittedNow s || !restoring s then s
  else
    { s with rsr := { s.rsr with restart := 0, restored := [], inflight := [], ready := false, outcomes := [],
                                 lost := [], rolledBack := 0, doubtLeft := none } }
      |> setInflight [] |> setStage 2 |> set Reg.RSR.DONE_GRAN 0

end Sys2Proof.Machine
end

