-- ==== Sys2Proof/Machine/PowerOps.lean ====
section
/-! DEFINITION. Rails and on-die domains: switching, the power-up and power-down sequences, what a loss of
power takes with it (R83, R380 to R396, R507). -/

namespace Sys2Proof.Machine

/-! ### Fields returning to their reset values (R83, R507) -/

/-- The page of a field key. -/
def pageOfKey (k : Nat) : Nat := k / 131072

/-- Fields without a reset value, which show population and what is in use. (log entry 22: DEDUCED). -/
def keptKeys (p : Nat) : List Nat :=
  ((headerFields p ++ pageFields p).filter (·.pop)).map (fun d => d.f.key)

/-- The fields of a page return to their reset values but for those named; its shadows are discarded.
(log entry 22: DEDUCED). -/
def wipePage (p : Nat) (keep : List Nat) (s : State) : State :=
  { s with regs := s.regs.filter (fun e => pageOfKey e.1 != p || keep.contains e.1 || (keptKeys p).contains e.1),
           shadows := s.shadows.filter (fun h => h.f.addr / 4096 != p),
           pools := s.pools.filter (fun q => q.addr / 4096 != p) }

/-- Stored fields of a page are loaded from the settings store (R475, R507). (log entry 5: DESIGN CHOICE). -/
def reloadStored (p : Nat) (s : State) : State :=
  forEach (s.upd.settings.filter (fun e => pageOfKey e.1 == p)) (fun e s =>
    { s with regs := insert (drop s.regs e.1) e.1 e.2 }) s

/-- The budgets' caps at their reset values (R26). -/
def capDefaults (s : State) : State :=
  s |> set Reg.LEH.BUDGET_CAP_GRAN (homeGranules s) |> set Reg.LEH.CAPONLY_CAP_GRAN (16 * 2 ^ 30 / granBytes s)

/-- Pairs that the undo region can hold (R184). -/
def pairMax (s : State) : State := set Reg.TXN.PAIR_MAX_PAIRS (min 262144 (undoSize s / granBytes s)) s

/-- Lines of a frame's patrol scrub (R167). -/
def scrubRate (s : State) : Nat :=
  ceilDiv (exposedBytes s / 64) (max 1 (get Reg.SCR.PERIOD_HOURS s) * 3600 * 50000)

/-- tRFC of the components fitted (R144). -/
def trfcDefault (s : State) : Nat := if isSet Reg.DMC.CFG_DENSITY s then 410 else 295

/-- The fields of a page whose reset value the population, or another field, gives (R26, R144, R167, R184). -/
def popDefaults (p : Nat) (s : State) : State :=
  s |> when (0x20 ≤ p && p < 0x30) (set (Reg.DCH.REF_TRFC_NS (p - 0x20)) (trfcDefault s))
    |> when (p == 0x41) capDefaults
    |> when (p == 0x12) (fun s => set Reg.SCR.RATE_LINES (scrubRate s) s)
    |> when (p == 0x44) pairMax

/-- A page at its reset values, with its stored fields loaded, but for the fields named. -/
def freshPage (p : Nat) (keep : List Nat) (s : State) : State :=
  s |> wipePage p keep |> reloadStored p |> popDefaults p

/-- The pages of a domain. -/
def domainPages (d : Nat) : List Nat := allPages.filter (fun p => pageDomain p == some d)

/-- A domain's pages come back at reset values (R86, R507); only a chip reset releases their LOCK (R88).
(log entry 22: DEDUCED). -/
def wipeDomain (d : Nat) (s : State) : State :=
  forEach (domainPages d) (fun p => freshPage p [(Reg.LOCK_LOCK p).key]) s

/-! ### Domains (R382, R394, R398) -/

/-- The state of a domain: 0 on, 1 off, 2 retention, 3 switching; `ON_LO` and `ON_HI` follow. -/
def setDomain (d st : Nat) (s : State) : State :=
  let f := if d < 32 then Reg.PDM.ON_LO_MASK else Reg.PDM.ON_HI_MASK
  let k := d % 32
  let on := b2n (st == 0 || st == 2)
  s |> set (Reg.PDM.DOM_CTL_STATE d) st
    |> set f (get f s - bitsOf (get f s) k 1 * 2 ^ k + on * 2 ^ k)

/-- A ring member (R355): ring links are present and the unit holds a place in a domain. -/
def ringMember (s : State) : Bool := isSet Reg.SYS.CAPS_RING s && s.rng.indexed

/-- The unit of a domain is present (R384, R382). -/
def domainPresent (d : Nat) (s : State) : Bool :=
  if d < 8 then portUsed (d % 4) s
  else if d < 10 then isSet Reg.SYS.CAPS_TWIN s
  else if d < 26 then bitOf (get Reg.SYS.CAPS_DRAM_GROUPS s) ((d - 10) / 4)
  else if d < 30 then bitOf (get Reg.SYS.CAPS_DRAM_GROUPS s) (d - 26)
  else if d < 38 then bitOf (get Reg.SYS.CAPS_NAND_GROUPS s) (d - 30)
  else if d = 50 then isSet Reg.SYS.CAPS_RING s
  else d < 52

/-- The requests of a port that its link carried are gone: what was not answered stays so (R10). (log entry 50: DEDUCED). -/
def portForget (n : Nat) (s : State) : State :=
  { s with hp := { s.hp with
      writes := s.hp.writes.filter (·.port != n), reads := s.hp.reads.filter (·.port != n),
      stalled := s.hp.stalled.filter (·.port != n), gpfWaiting := s.hp.gpfWaiting.filter (· != n) } }

/-- Viral in the CXL DVSEC of a port: a host's configuration write, or the reset of its configuration space (R109, R116).
(log entry 101: PRESUMED). -/
def setViral (n : Nat) (on : Bool) (s : State) : State :=
  { s with hp := { s.hp with viralDvsec := if on then addNat s.hp.viralDvsec n else s.hp.viralDvsec.filter (· != n) } }

/-- A port's link goes down (R119). (log entry 50: DEDUCED). -/
def portLinkDown (n : Nat) (s : State) : State :=
  if get (Reg.HPT.LINK_WIDTH n) s = 0 then s
  else
    s |> portForget n |> set (Reg.HPT.LINK_WIDTH n) 0 |> set (Reg.HPT.LINK_RATE n) 0 |> set (Reg.HPT.LINK_DEGRADED n) 0
      |> event (8 + n) 0

/-- The frame unit falls back to its local tick (R57). -/
def ringFallback (s : State) : State :=
  if get Reg.FRM.SRC_MODE s = 1 && get Reg.FRM.SRC_STATE s ≠ 3 && get Reg.FRM.SRC_STATE s ≠ 0 then
    s |> set Reg.FRM.SRC_STATE 3 |> event 1 1 |> set Reg.FRM.SYNC_LOCK_RUN 0
      |> raiseHeld 165 0 0 (get Reg.FRM.SYNC_MISSED s * 2 ^ 16) 0
      |> set Reg.SYS.PERSIST_DOMAIN_OK 0 |> set Reg.DOM.STS_DOMAIN_OK 0
  else s

/-- What goes with a domain that is switched off: links, the twin, the ring. The tick source falls back only after
three frames without a marker (R57, R394). (log entry 68: DEDUCED). -/
def domainGone (d : Nat) (s : State) : State :=
  if d < 4 then s |> portLinkDown d |> setViral d false
  else if d < 8 then portLinkDown (d - 4) s
  else if d < 10 then puntyDown s
  else if d = 50 then
    { s with rng := { s.rng with
      indexed := false, syncSeen := false, noSync := 0, ownRun := 0, table := [], departed := [], broken := [],
      quorumFlag := false, partitioned := false, enumDue := false } }
  else s

/-- The PLL of a domain (R98), if it has one of its own or shares the NAND one. -/
def pllOf (d : Nat) : Option Nat :=
  if d = 49 then some 0
  else if 26 ≤ d && d < 30 then some (d - 25)
  else if 30 ≤ d && d < 38 then some 5
  else if 4 ≤ d && d < 8 then some (d + 2)
  else if d = 9 then some 10
  else if d = 50 then some 11
  else none

/-- The domains of a PLL (R98). -/
def pllDomains (k : Nat) : List Nat := (List.range 52).filter (fun d => pllOf d == some k)

/-- Set or clear bit `k` of a field. -/
def putBit (f : Fld) (k : Nat) (b : Bool) (s : State) : State :=
  set f (get f s - bitsOf (get f s) k 1 * 2 ^ k + b2n b * 2 ^ k) s

/-- A PLL is powered with its domain (R98): it is out of lock once no domain of it is on. -/
def pllGone (d : Nat) (s : State) : State :=
  match pllOf d with
  | none => s
  | some k =>
    if (pllDomains k).any (fun e => e != d && domainOn e s) then s
    else
      { s with pwr := { s.pwr with relocking := s.pwr.relocking.filter (·.1 != k) } }
        |> putBit Reg.CLK.PLL_STS_LOCKED k false

/-- The switch-off of a domain completes the aborts of its pages (R96); an ENABLE written meanwhile counts. -/
def abortsEnd (d : Nat) (s : State) : State :=
  let mine := s.frm.aborts.filter (fun a => (domainPages d).contains a.1)
  if mine.isEmpty then s
  else
    { s with frm := { s.frm with aborts := s.frm.aborts.filter (fun a => !(domainPages d).contains a.1),
                                 lateEnable := s.frm.lateEnable.filter (fun e => !(domainPages d).contains e.1) } }
      |> forEach mine (fun a s => s |> when a.2.2 (freshPage a.1 [(Reg.LOCK_LOCK a.1).key])
          |> set (Reg.BLKSTS_ABORTING a.1) 0 |> set (Reg.BLKSTS_ABORT_DONE a.1) 1)
      |> forEach (s.frm.lateEnable.filter (fun e => (domainPages d).contains e.1)) (fun e =>
          put1 (Reg.BLKCTL_ENABLE e.1) e.2.2)

/-- A domain switches off with its pages in retention or not. -/
def domainOff (d : Nat) (retain : Bool) (s : State) : State :=
  if get (Reg.PDM.DOM_CTL_STATE d) s = 1 then s
  else
    let s := s |> domainGone d |> pllGone d |> abortsEnd d
    let s := if retain then { s with pwr := { s.pwr with retained := addNat s.pwr.retained d } } else wipeDomain d s
    s |> setDomain d 1 |> event 0x82 1

/-- A domain switches on: pages held in retention return as they were (R507), and a port shows the fence that is
active (R112, R124). -/
def domainUp (d : Nat) (s : State) : State :=
  if get (Reg.PDM.DOM_CTL_STATE d) s = 0 then s
  else
    { s with pwr := { s.pwr with retained := s.pwr.retained.filter (· != d) } }
      |> setDomain d 0 |> event 0x82 1
      |> when (decide (d < 4) && fenced s) (set (Reg.HPT.STS_FENCED d) 1)

/-- Every domain that `p` selects switches off. (log entry 69: DEDUCED). -/
def domainsOff (p : Nat → Bool) (retain : Bool) (s : State) : State :=
  forEach ((List.range 52).filter p) (fun d => domainOff d retain) s

/-- The domains of present units switch on, the Marver banks first (R384). (log entry 69: DEDUCED). -/
def domainsUp (s : State) : State :=
  forEach ([38, 39, 40, 41] ++ ((List.range 52).filter (fun d => !(38 ≤ d && d < 42)))) (fun d s =>
    if domainPresent d s then domainUp d s else s) s

/-! ### Rails (R380, R397) -/

def railIsOn (r : Nat) (s : State) : Bool := bitOf (get Reg.PWR.STS_RAILS_ON s) r

/-- A rail's place in its rise and fall. -/
def railPhase (r : Nat) (s : State) : RailPhase := s.pwr.rails.getD r .off

def setPhase (r : Nat) (p : RailPhase) (s : State) : State :=
  { s with pwr := { s.pwr with rails := modify s.pwr.rails r (fun _ => p) } }

/-- The failure record (R386, R397). -/
def railFail (r cause step : Nat) (s : State) : State :=
  s |> set Reg.PWR.FAIL_RAIL r |> set Reg.PWR.FAIL_CAUSE cause |> set Reg.PWR.FAIL_STEP step
    |> set Reg.PWR.FAIL_FRAME_FRAME (now s)

/-- `PWR.STS` and `PWR.FAIL` as words, for SNAP2 and SNAP3 (R425). -/
def pwrStsWord (s : State) : Nat :=
  get Reg.PWR.STS_STATE s + get Reg.PWR.STS_STEP s * 16 + get Reg.PWR.STS_RAILS_ON s * 256 +
  get Reg.PWR.STS_PG s * 2 ^ 20
def pwrFailWord (s : State) : Nat :=
  get Reg.PWR.FAIL_RAIL s + get Reg.PWR.FAIL_CAUSE s * 16 + get Reg.PWR.FAIL_STEP s * 128

/-- The ranks that a DRAM rail feeds: channels 4g to 4g + 3 for VDD_DRAMg, all of them for VPP_DRAM.
(log entry 73: DEDUCED). -/
def railRanks (r : Nat) : List Nat :=
  if r = 5 then List.range 64
  else if 6 ≤ r && r < 10 then (List.range 16).map (fun k => 16 * (r - 6) + k)
  else []

/-- The ranks that a cut DRAM rail feeds enter FAILED, and their lines count as uncorrectable (R388).
They count as failed at the next power-on. (log entry 73: DEDUCED). -/
def rankLost (i : Nat) (s : State) : State :=
  if get (Reg.SPR.RANK_STATE i) s = 0 then s
  else
    let s := setRank i 7 s
    { s with upd := { s.upd with pendingRanks := addNat s.upd.pendingRanks i } }

/-- A DRAM rail is cut: the ranks it feeds are lost (R388). (log entry 73: DEDUCED). -/
def ranksLost (r : Nat) (s : State) : State := forEach (railRanks r) rankLost s

/-- A rail is cut: its enable falls and it discharges (R390). `forced` drives RAIL_DIS at once. -/
def cutRail (r : Nat) (forced : Bool) (s : State) : State :=
  s |> putBit Reg.PWR.STS_RAILS_ON r false |> putBit Reg.PWR.STS_PG r false
    |> setPhase r (if forced then .forced else .discharging)
    |> emit (.rail r false)
    |> when forced (fun s => s |> emit (.discharge r true) |> inc Reg.PWR.COUNTS_FORCED_DIS
         |> (fun s => { s with pwr := { s.pwr with discharge := addNat s.pwr.discharge r } }))

/-- The NAND rails are on, and neither is being retried (R387). -/
def nandPowered (s : State) : Bool :=
  railIsOn 10 s && railIsOn 11 s && !s.pwr.retrying.contains 10 && !s.pwr.retrying.contains 11

/-- The rails that list `r` in DEP, directly or through other rails, `r` with them (R387). -/
def dependents (r : Nat) (s : State) : List Nat :=
  let next := fun (l : List Nat) => (List.range 12).filter (fun q => l.contains q ||
    l.any (fun x => bitOf (get (Reg.PWR.RAIL_CFG_DEP q) s) x))
  (List.range 12).foldl (fun l _ => next l) [r]

/-- The rails in power-down order (R390): the valid steps from last to first. -/
def downOrder (s : State) : List Nat :=
  (((List.range 16).filter (fun k => isSet (Reg.PWR.SEQ_VALID k) s)).map (fun k => get (Reg.PWR.SEQ_RAIL k) s)).reverse

/-- A step's rail feeds a unit that is not populated (R383). -/
def stepSkipped (r : Nat) (s : State) : Bool :=
  (6 ≤ r && r < 10 && !bitOf (get Reg.SYS.CAPS_DRAM_GROUPS s) (r - 6)) ||
  ((r = 10 || r = 11) && get Reg.SYS.CAPS_NAND_GROUPS s == 0)

/-- The rails that stay on through a ride (R282): VDD_SRAM, VPP_DRAM and the DRAM rails of groups in use. -/
def rideKeeps (r : Nat) (s : State) : Bool :=
  r = 1 || r = 5 || (6 ≤ r && r < 10 && bitOf (get Reg.SYS.CAPS_DRAM_GROUPS s) (r - 6))

/-! ### Power-up (R383, R386) -/

/-- The step that a rail belongs to. -/
def stepOf (r : Nat) (s : State) : Nat :=
  ((List.range 16).find? (fun k => isSet (Reg.PWR.SEQ_VALID k) s && get (Reg.PWR.SEQ_RAIL k) s == r)).getD 0

/-- The minimal set of R386. (log entry 47: DEDUCED). -/
def minimalRail (r : Nat) : Bool := r = 0 || r = 1 || r = 3 || r = 4

/-- The next step at or after `k` whose rail is to come up; on the minimal set only its rails. -/
def nextStep (k : Nat) (s : State) : Option Nat :=
  (List.range 16).find? (fun j => k ≤ j && isSet (Reg.PWR.SEQ_VALID j) s &&
    (s.pwr.seq != .minimal || minimalRail (get (Reg.PWR.SEQ_RAIL j) s)) &&
    !stepSkipped (get (Reg.PWR.SEQ_RAIL j) s) s && !railIsOn (get (Reg.PWR.SEQ_RAIL j) s) s &&
    !s.pwr.groupOff.contains (get (Reg.PWR.SEQ_RAIL j) s))

/-- Every rail in the DEP mask of `r` is on (R381). -/
def depsOn (r : Nat) (s : State) : Bool :=
  Nat.land (get (Reg.PWR.RAIL_CFG_DEP r) s) (get Reg.PWR.STS_RAILS_ON s) == get (Reg.PWR.RAIL_CFG_DEP r) s

/-- A power-down runs, or the emergency one of R392. -/
def goingDown (s : State) : Bool := s.pwr.seq == .down || s.pwr.seq == .emergency

/-- The always-on sequencer begins the power-down of every rail that is on: a ring member sends LEAVE (R366), and
the domains go first, at the next tick (R390). Nothing is retried from here (R391). -/
def startDown (s : State) : State :=
  { s with pwr := { s.pwr with seq := .down, offDue := true, domainsDue := false, resetDue := false, retrying := [],
                               groupCut := [] } }
    |> when (ringMember s) (sendBoth (.leave s.pwr.serial.toNat))
    |> set Reg.PWR.STS_STATE 4

/-- A failed step (R386): the rail is cut; while retries are left it discharges, backs off and is enabled
again, and else the boot attempt ends in a power-down. -/
def failStep (r cause : Nat) (s : State) : State :=
  let used := s.pwr.retries.getD r 0
  let s := s |> cutRail r false |> railFail r cause (stepOf r s)
             |> when (cause = 2) (event 0x81 2)
  let s := raiseHeld (256 + r) cause r (pwrStsWord s) (pwrFailWord s) s
  if used < get (Reg.PWR.RAIL_CFG_RETRIES r) s then
    { s with pwr := { s.pwr with retries := modify s.pwr.retries r (· + 1) } }
  else
    let s := { s with pwr := { s.pwr with attempts := s.pwr.attempts + 1 } }
    startDown s

/-- A rail's enable rises; its discharge load is off from here (R383, R390). -/
def enableRail (r : Nat) (s : State) : State :=
  s |> when (s.pwr.discharge.contains r) (fun s =>
        { s with pwr := { s.pwr with discharge := s.pwr.discharge.filter (· != r) } } |> emit (.discharge r false))
    |> putBit Reg.PWR.STS_RAILS_ON r true |> setPhase r .starting |> emit (.rail r true)

/-- A step begins (R383): its rail's enable, unless a DEP rail is off (cause 4). -/
def beginStep (k : Nat) (s : State) : State :=
  let r := get (Reg.PWR.SEQ_RAIL k) s
  let s := set Reg.PWR.STS_STEP k s
  if !depsOn r s then failStep r 4 s
  else enableRail r s

/-- The sequencer goes on with the first step that is still to run; a HOLD step waits for the DMC request,
which firmware makes once it runs (R148, R383); a step without WAIT_PG gives way to the next. With no step left the
domains switch on at the next tick. -/
def advanceUpN : Nat → State → State
  | 0, s => s
  | n + 1, s =>
  match nextStep 0 s with
  | some k =>
    if isSet (Reg.PWR.SEQ_HOLD k) s && !s.pwr.firmware && s.pwr.seq = .up then
      { s with pwr := { s.pwr with domainsDue := true } }
    else
      let s := beginStep k s
      let r := get (Reg.PWR.SEQ_RAIL k) s
      if railPhase r s == .starting && !isSet (Reg.PWR.SEQ_WAIT_PG k) s then advanceUpN n (setPhase r .on s) else s
  | none =>
    if s.pwr.seq = .up && s.pwr.firmware then { s with pwr := { s.pwr with seq := .none } }
    else { s with pwr := { s.pwr with domainsDue := true } }

/-- The power-up goes on with its next step (R384). -/
def advanceUp (s : State) : State := advanceUpN 17 s

/-- The rail of a step is good: the next step starts (R383). A rail of the DRAM groups becomes ACTIVE for
PASR (R148). (log entry 71: DEDUCED). -/
def railGood (r : Nat) (s : State) : State :=
  s |> putBit Reg.PWR.STS_PG r true |> setPhase r .on

/-- Power-up begins: step 3 of R483. -/
def startUp (k : SeqKind) (s : State) : State :=
  { s with pwr := { s.pwr with seq := k, domainsDue := false, retries := List.replicate 12 0, retrying := [], groupCut := [],
                               groupOff := if k == .wake then s.pwr.groupOff else [] } }
    |> set Reg.PWR.STS_STATE 1 |> advanceUp

/-! ### Power-down (R390) -/

/-- The next rail of a power-down or of a ride's entry. -/
def nextDown (s : State) : Option Nat :=
  (downOrder s).find? (fun r => railIsOn r s && (s.pwr.seq != .ride || !rideKeeps r s))

/-- What a completed power-down takes with it: DRAM, the Marver, contexts, queues and links (R508). The
records, the map's records and the manifests stay on flash, the domain's log with the HOLD records (R370), the last good
settings of the ranks in the settings store (R154). -/
def loseImage (s : State) : State :=
  { s with
    dram := { lastGood := s.dram.lastGood },
    mrv := { firstInit := s.mrv.firstInit },
    txn := {},
    nand := { s.nand with sealing := [], moving := [], compacting := none, delta := [], checkpoint := none, queued := [], erasing := [],
                          dieStreak := [], lowFrames := 0, dieOps := [], map := [] },
    twn := { stored := s.twn.stored, nextPair := s.twn.nextPair, fresh := s.twn.fresh },
    rng := {},
    gq := List.replicate 4 {},
    hp := { s.hp with decoders := [], writes := [], reads := [], stalled := [], gpfWaiting := [], holdoffs := [],
                      msixPending := [], msixOpen := [], credits := [0, 0, 0, 0], finding := false } }

/-- The sequence has no rail left: the controller is off and waits for good VIN (R508), or starts again
after a cold reset (R389) or a failed boot attempt (R386). A rail that is off is not lost. (log entry 46: DEDUCED). -/
def downDone (s : State) : State :=
  let s := { s with pwr := { s.pwr with seq := .none, firmware := false } }
  s |> loseImage |> forEach (List.range 12) (fun r => liveFall (256 + r))
    |> set Reg.PWR.STS_STATE 0 |> set Reg.SYS.BOOT_STAGE 0
    |> (fun s => { s with pwr := { s.pwr with waitVin := true } })

/-- The next rail goes down, or the sequence ends. -/
def advanceDown (s : State) : State :=
  match nextDown s with
  | some r => s |> set Reg.PWR.STS_STEP (stepOf r s) |> cutRail r false
  | none =>
    if s.pwr.seq = .ride then { s with pwr := { s.pwr with seq := .none } }
    else downDone s

/-- The tick at which the domains go off before the first rail (R390, R393), or at which an emergency power-down, whose
steps are 1 µs apart, has ended (R392). (log entry 46: DEDUCED). -/
def downTick (s : State) : State :=
  if s.pwr.seq = .emergency then downDone s
  else if !s.pwr.offDue then s
  else
    let ride := s.pwr.seq == .ride
    { s with pwr := { s.pwr with offDue := false } }
      |> domainsOff (fun d => !(ride && (38 ≤ d && d < 42)) && !(ride && d = 50 && ringMember s)) ride
      |> when ride (forEach [38, 39, 40, 41] (fun d => setDomain d 2))
      |> advanceDown

/-! ### Loss of a running rail (R387, R388) -/

/-- A running rail is cut: what its DRAM ranks held is gone. (log entry 70: DEDUCED). -/
def cutRunning (r : Nat) (s : State) : State := s |> cutRail r false |> ranksLost r

/-- The GROUP reaction: the rail and its dependents are cut in the power-down order, each once the one before has
discharged, and stay off. (log entry 70: DEDUCED). -/
def groupReaction (r : Nat) (s : State) : State :=
  let l := (downOrder s).filter (fun q => (dependents r s).contains q && (railIsOn q s || q == r))
  let rest := l.drop 1
  let s := { s with pwr := { s.pwr with retrying := s.pwr.retrying.filter (fun q => !l.contains q),
                                        groupOff := s.pwr.groupOff ++ l, groupCut := rest } }
  match l with
  | q :: _ => cutRunning q s
  | [] => s

/-- A rail that the group still has to cut follows. -/
def nextGroupCut (s : State) : State :=
  match s.pwr.groupCut with
  | q :: rest => cutRunning q { s with pwr := { s.pwr with groupCut := rest } }
  | [] => s

/-- A cold reset (R389): a save stops, every rail goes down and the sequence starts again, and the outage counts as unsaved (R39);
after the loss of a rail the domains lose their supply at once, else they go at the next tick (R60).
(log entry 71: DEDUCED). -/
def coldReset (railLost : Bool) (s : State) : State :=
  let unsaved := admittedNow s && !fenced s
  { s with pwr := { s.pwr with cold := true, requests := [], switching := [], resetDue := false },
           rsr := { s.rsr with coldReset := true },
           hp := { s.hp with outageCounted := s.hp.outageCounted && !unsaved } }
    |> set Reg.SAV.STS_STATE 0
    |> when railLost (domainsOff (fun _ => true) false)
    |> when (!goingDown s) startDown

/-- The undervoltage limit (R392): every domain and rail at once. -/
def cutAll (s : State) : State :=
  let s := { s with pwr := { s.pwr with seq := .emergency, offDue := false, domainsDue := false, requests := [],
                                        switching := [], resetDue := false, retrying := [], groupCut := [] } }
  s |> domainsOff (fun _ => true) false
    |> set Reg.PWR.STS_STATE 5
    |> forEach ((downOrder s).filter (fun r => railIsOn r s)) (fun r => cutRail r true)
    |> railFail 0 6 0 |> event 0x81 5

end Sys2Proof.Machine
end

