-- ==== Sys2Proof/Machine/CarOps.lean ====
section
/-! DEFINITION. The code array's words, the option area and its load, and what stops an operation (R446 to
R462). -/

namespace Sys2Proof.Machine

/-! ### Words (R446, R448, R457) -/

/-- The first word offset of the option-area window. -/
def optBase : Nat := 0x800000

/-- An erased word. -/
def erasedWord : Nat := 0xFFFFFFFF

/-- The value of a field's reset placed at its lowest bit. -/
def resetBits (f : Fld) : Nat := f.reset * 2 ^ f.lo

/-- One half of a safety word: SEV and ACT of a source. -/
def safetyHalf (n : Nat) : Nat := srcSev n + srcActReset n * 8

/-- The words of the option area as shipped (R457); word 511 is the CRC, whose value is not given. -/
def shippedOption (i : Nat) : Nat :=
  if i = 0 then 1
  else if i = 1 then 0
  else if i < 18 then
    let s := i - 2
    resetBits (Reg.PWR.SEQ_RAIL s) + resetBits (Reg.PWR.SEQ_WAIT_PG s) + resetBits (Reg.PWR.SEQ_HOLD s) +
    resetBits (Reg.PWR.SEQ_VALID s) + resetBits (Reg.PWR.SEQ_DELAY_US s) + resetBits (Reg.PWR.SEQ_TIMEOUT s)
  else if i < 30 then
    let r := i - 18
    resetBits (Reg.PWR.RAIL_CFG_REACT r) + resetBits (Reg.PWR.RAIL_CFG_RETRIES r) +
    resetBits (Reg.PWR.RAIL_CFG_BACKOFF r) + resetBits (Reg.PWR.RAIL_CFG_PERSIST r) +
    resetBits (Reg.PWR.RAIL_CFG_DEP r)
  else if i < 222 then
    let k := i - 30
    safetyHalf (2 * k) + safetyHalf (2 * k + 1) * 2 ^ 16
  else if i = 226 then 0x00FF0000
  else if i < 230 then 0
  else if i = 237 || i = 245 then 0xFF000000
  else if i < 246 then 0
  else if i = 246 then 0xF
  else if i < 262 then 0
  else if i < 511 then erasedWord
  else (Config.mapCrc []).toNat

/-- A block number with its bank: 256 × bank + block. -/
def blockOfWord (o : Nat) : Nat := o / 0x4000

/-- The blocks of the recovery monitor and of slot A, which hold images as shipped (R464). -/
def shippedBlock (b : Nat) : Bool := b < 132

/-- What a word that nothing has written holds: the shipped option area, the shipped images, and else an erased
word. (log entry 6: DESIGN CHOICE). -/
def arrayDefault (o : Nat) (s : State) : Nat :=
  if optBase ≤ o then shippedOption ((o - optBase) % 512)
  else if shippedBlock (blockOfWord o) && !s.car.wiped.contains (blockOfWord o) then (Config.shippedWord o).toNat
  else erasedWord

/-- The first copy of the word at a word offset of BAR2. -/
def arrayWord (o : Nat) (s : State) : Nat := ((look s.car.words o).map (·.toNat)).getD (arrayDefault o s)

/-- The second copy of a tally word: the first unless it is listed apart (R448). -/
def arrayCopy (o : Nat) (s : State) : Nat := ((look s.car.second o).map (·.toNat)).getD (arrayWord o s)

/-- Store a word, both copies. -/
def putWord (o v : Nat) (s : State) : State :=
  { s with car := { s.car with words := put (BitVec.ofNat 32 (arrayDefault o s)) s.car.words o (BitVec.ofNat 32 v),
                               second := drop s.car.second o, bad := s.car.bad.filter (· != o) } }

/-- Store the first copy of a tally word only. -/
def putFirst (o v : Nat) (s : State) : State :=
  let old := arrayCopy o s
  let s := putWord o v s
  { s with car := { s.car with second := insert (drop s.car.second o) o (BitVec.ofNat 32 old) } }

/-- A word's content is undefined or uncorrectable (R452, R461). -/
def spoilWord (o : Nat) (s : State) : State :=
  { s with car := { s.car with bad := addNat s.car.bad o } }

/-- A whole block reads erased. -/
def eraseBlock (b : Nat) (s : State) : State :=
  { s with car := { s.car with
      wiped := if shippedBlock b then addNat s.car.wiped b else s.car.wiped,
      words := s.car.words.filter (fun e => blockOfWord e.1 != b || optBase ≤ e.1),
      second := s.car.second.filter (fun e => blockOfWord e.1 != b || optBase ≤ e.1),
      bad := s.car.bad.filter (fun o => blockOfWord o != b || optBase ≤ o) } }

/-- A copy of the option area reads erased. -/
def eraseCopy (c : Nat) (s : State) : State :=
  forEach (List.range 512) (fun i => putWord (optBase + 512 * c + i) erasedWord) s

/-! ### The option area (R457, R458) -/

/-- A word of the copy in use, or the shipped default when neither copy is good. -/
def optWord (i : Nat) (s : State) : Nat :=
  if isSet Reg.CAR.OPT_STS_DEFAULTED s then shippedOption i
  else arrayWord (optBase + 512 * get Reg.CAR.OPT_STS_SEL s + i) s

/-- A bit of one of the maps of the option area, by 256 × bank + block. -/
def optMapBit (first b : Nat) (s : State) : Bool := bitOf (optWord (first + b / 32) s) (b % 32)

/-- The blocks of the boot tally (R471). -/
def isTally (b : Nat) (s : State) : Bool := optMapBit 230 b s
/-- A block with a lock. -/
def isProtected (b : Nat) (s : State) : Bool := optMapBit 246 b s

/-- A copy is good; `bad` when its CRC does not check or a word is uncorrectable. -/
def copyGood (c : Nat) (bad : Bool) (s : State) : Bool :=
  let lo := optBase + 512 * c
  !bad && arrayWord lo s % 2 ^ 16 == 1 && !s.car.bad.any (fun o => lo ≤ o && o < lo + 512)

/-- The grown remap entries of the copy in use (R457, R459): block and spare index. -/
def grownRemaps (s : State) : List (Nat × Nat) :=
  (List.range 16).filterMap (fun k =>
    let w := optWord (262 + k) s
    if w = erasedWord then none else some (w % 512, bitsOf w 9 4))

/-- The entries that take effect, in order (R459): a bank whose 8 spares are in use takes no further remap. -/
def applyRemaps (factory : List (Nat × Nat)) : List (Nat × Nat) → List (Nat × Nat) → List (Nat × Nat)
  | [], done => done
  | r :: rest, done =>
    let used := ((factory ++ done).filter (fun q => q.1 / 256 == r.1 / 256 && q.2 < 8)).length
    applyRemaps factory rest (if r.2 = 15 || used < 8 then done ++ [r] else done)

/-- Spares in use of a bank (R459). -/
def sparesUsed (bank : Nat) (s : State) : Nat :=
  ((s.car.factoryRemaps ++ s.car.remaps).filter (fun r => r.1 / 256 == bank && r.2 < 8)).length

/-- What the page shows of the spare blocks. -/
def sparesShow (s : State) : State :=
  s |> set Reg.CAR.SPARES_USED0 (sparesUsed 0 s) |> set Reg.CAR.SPARES_USED1 (sparesUsed 1 s)
    |> set Reg.CAR.SPARES_GROWN (s.car.remaps.filter (·.2 != 15)).length

/-- The fields that words 2 to 221 configure, with the word and the bit each takes its value from. -/
def optFields : List (Fld × Nat × Nat) :=
  ((List.range 16).flatMap (fun s =>
    [Reg.PWR.SEQ_RAIL s, Reg.PWR.SEQ_WAIT_PG s, Reg.PWR.SEQ_HOLD s, Reg.PWR.SEQ_VALID s, Reg.PWR.SEQ_DELAY_US s,
     Reg.PWR.SEQ_TIMEOUT s].map (fun f => (f, 2 + s, f.lo)))) ++
  ((List.range 12).flatMap (fun r =>
    [Reg.PWR.RAIL_CFG_REACT r, Reg.PWR.RAIL_CFG_RETRIES r, Reg.PWR.RAIL_CFG_BACKOFF r,
     Reg.PWR.RAIL_CFG_PERSIST r, Reg.PWR.RAIL_CFG_DEP r].map (fun f => (f, 18 + r, f.lo)))) ++
  ((List.range 384).flatMap (fun n =>
    if srcReserved n then []
    else [(Reg.FLS.SRC_CFG_SEV n, 30 + n / 2, 16 * (n % 2)), (Reg.FLS.SRC_CFG_ACT n, 30 + n / 2, 16 * (n % 2) + 3)]))

/-- A word of the copy in use differs from the shipped one. -/
def optChanged (s : State) : Bool :=
  !isSet Reg.CAR.OPT_STS_DEFAULTED s &&
  s.car.words.any (fun e => optBase + 512 * get Reg.CAR.OPT_STS_SEL s + 2 ≤ e.1 &&
    e.1 < optBase + 512 * get Reg.CAR.OPT_STS_SEL s + 222)

/-- The fields that the option area configures take its values. -/
def applyOption (s : State) : State :=
  let keys := optFields.map (fun e => e.1.key)
  let s := if s.regs.isEmpty then s else { s with regs := s.regs.filter (fun e => !keys.contains e.1) }
  if optChanged s then
    forEach optFields (fun e s => set e.1 (bitsOf (optWord e.2.1 s) e.2.2 e.1.w) s) s
  else s

/-- The option load (R458): `badA` and `badB` tell that a copy's CRC fails or a word is uncorrectable.
(log entry 44: DEDUCED). -/
def loadOption (badA badB : Bool) (s : State) : State :=
  let a := copyGood 0 badA s
  let b := copyGood 1 badB s
  let seqA := arrayWord optBase s / 2 ^ 16
  let seqB := arrayWord (optBase + 512) s / 2 ^ 16
  let sel := if a && b then b2n (decide (seqA < seqB)) else b2n b
  let s := s |> put1 Reg.CAR.OPT_STS_A_OK a |> put1 Reg.CAR.OPT_STS_B_OK b
             |> set Reg.CAR.OPT_STS_SEL sel |> put1 Reg.CAR.OPT_STS_DEFAULTED (!a && !b)
             |> set Reg.CAR.OPT_STS_SEQ (if !a && !b then 0 else if sel = 0 then seqA else seqB)
  let s := applyOption s
  { s with car := { s.car with remaps := applyRemaps s.car.factoryRemaps (grownRemaps s) [] },
           upd := { s.upd with bootSlot := optWord 1 s % 16, optSeq := get Reg.CAR.OPT_STS_SEQ s } }
    |> sparesShow
    |> when (a != b) (raiseSimple 233 0 0 (b2n a) 0)

/-- Firmware locks the pages that the map of the option area marks (R88). -/
def lockPages (s : State) : State :=
  forEach allPages (fun p s => when (optMapBit 222 p s && !pageDark p s) (set (Reg.LOCK_LOCK p) 1) s) s

/-- The copy not in use is programmed with a BOOT_SLOT and SEQ one higher (R472). -/
def programOption (bits : Nat) (s : State) : State :=
  let other := optBase + 512 * (1 - get Reg.CAR.OPT_STS_SEL s)
  let seq := (s.upd.optSeq + 1) % 2 ^ 16
  let words := (List.range 511).map (fun i =>
    if i = 0 then 1 + seq * 2 ^ 16 else if i = 1 then bits else optWord i s)
  { s with upd := { s.upd with optSeq := seq, bootSlot := bits } }
    |> forEach (List.range 511) (fun i => putWord (other + i) (words.getD i 0))
    |> putWord (other + 511) (Config.mapCrc words).toNat

/-! ### Banks (R449 to R456) -/

def carBank (b : Nat) (s : State) : CarBank := if b = 0 then s.car.bank0 else s.car.bank1

def setCarBank (b : Nat) (k : CarBank) (s : State) : State :=
  if b = 0 then { s with car := { s.car with bank0 := k } } else { s with car := { s.car with bank1 := k } }

/-- The status bits of R451. -/
def carStatus (b : Nat) (s : State) : Nat := get (Reg.CAR.BANK_STS_STATUS b) s

/-- Set bits of the status word. -/
def carFlag (b bits : Nat) (s : State) : State :=
  set (Reg.CAR.BANK_STS_STATUS b) (Nat.lor (carStatus b s) bits) s

/-- READY and SUSPENDED follow the operation. -/
def carShow (b : Nat) (s : State) : State :=
  let k := carBank b s
  let rest := carStatus b s / 4 * 4
  let susp := (k.op.map (·.suspended)).getD false
  s |> set (Reg.CAR.BANK_STS_STATUS b) (rest + b2n (!carBusy k) + 2 * b2n susp)
    |> set (Reg.CAR.BANK_STS_OP b) ((k.op.map (fun x => if optBase ≤ x.word then 3 else x.kind)).getD 0)

/-- An operation is cut by a chip reset or a loss of power (R462): an erase leaves ERASE_INCOMPLETE set; a word
with check bits reads erased, new or uncorrectable and a tally pair may differ, by a free value; a copy of the option
area that was being erased is not good. -/
def cutOp (x : CarOp) (s : State) : State :=
  if x.kind = 2 then (if optBase ≤ x.word then spoilWord x.word s else s)
  else
    let r := (freshWord s).toNat % 3
    let s := spend s
    if x.kind = 1 && isTally x.block s then
      if r = 0 then s else if r = 1 then putWord x.word x.data.toNat s else putFirst x.word x.data.toNat s
    else if r = 0 then s
    else if r = 1 then putWord x.word x.data.toNat s
    else spoilWord x.word s

/-- Both banks stop and read ready in array mode, their sequences lost (R462). -/
def carCut (s : State) : State :=
  let ops := [s.car.bank0.op, s.car.bank0.under, s.car.bank1.op, s.car.bank1.under].filterMap id
  s |> forEach ops cutOp
    |> setCarBank 0 {} |> setCarBank 1 {}
    |> forEach [0, 1] (fun b s =>
        s |> set (Reg.CAR.BANK_STS_STATUS b) 1 |> set (Reg.CAR.BANK_STS_MODE b) 0 |> set (Reg.CAR.BANK_STS_OP b) 0)

end Sys2Proof.Machine
end

