-- ==== Sys2Proof/Machine/UpdOps.lean ====
section
/-! DEFINITION. Firmware slots, the activation log and boot selection (R464 to R476). -/

namespace Sys2Proof.Machine

/-- The image of component `c` in slot A or B. -/
def imageOf (c : Nat) (slotB : Bool) (s : State) : SlotImage := s.upd.images.getD (2 * c + b2n slotB) {}

/-- An image's state in the model. -/
def setImage (c : Nat) (slotB : Bool) (f : SlotImage → SlotImage) (s : State) : State :=
  { s with upd := { s.upd with images := modify s.upd.images (2 * c + b2n slotB) f } }

/-- The first block of a slot, by 256 × bank + block, and its number of blocks (R464). (log entry 80: DESIGN CHOICE). -/
def slotFirst (c : Nat) (slotB : Bool) : Nat :=
  if slotB then 256 + ([0, 64, 96, 112].getD c 0) else [4, 68, 100, 116].getD c 0
/-- Blocks of a component's slot (R464). (log entry 80: DESIGN CHOICE). -/
def slotSize (c : Nat) : Nat := [64, 32, 16, 16].getD c 0

/-- The first word of a slot. -/
def slotWord (c : Nat) (slotB : Bool) : Nat := slotFirst c slotB * 0x4000

/-- A slot is good (R466). -/
def slotGood (i : SlotImage) : Bool := i.staged && !i.rejected && i.verifies

/-- A set of slots, bit c for component c, is compatible (R466). -/
def compatible (bits : Nat) (s : State) : Bool :=
  (List.range 4).all (fun a => (List.range 4).all (fun b =>
    a == b || ((imageOf a (bitOf bits a) s).minPeer.getD b 0 ≤ (imageOf b (bitOf bits b) s).il)))

/-- The activations after the last CONFIRM or REVERT record, oldest first (R471). -/
def pendingActs : List ActRecord → List (Nat × Bool)
  | [] => []
  | .activate c b :: rest =>
    if rest.any (fun r => r == .confirm || r == .revert) then pendingActs rest else (c, b) :: pendingActs rest
  | _ :: rest => pendingActs rest

/-- The pending set by component: the last activation of each. -/
def pendingOf (s : State) : List (Nat × Bool) := pendingActs s.upd.log

/-- A set with activations laid over it in order (R471). -/
def overlaySet (bits : Nat) (acts : List (Nat × Bool)) : Nat :=
  acts.foldl (fun n a => n - bitsOf n a.1 1 * 2 ^ a.1 + b2n a.2 * 2 ^ a.1) bits

/-- The set that runs at the next boot. -/
def pendingSet (s : State) : Nat := overlaySet s.upd.bootSlot (pendingOf s)

/-- Free records of the log block in use (R468, R481). -/
def logFree (s : State) : Nat := 2048 - s.upd.log.length

/-- The registers of UPD and SET that show slots, log and store (R481, R482). -/
def updShow (s : State) : State :=
  let st := fun (i : SlotImage) => if i.rejected then 2 else if i.staged then 1 else 0
  let ver := fun (i : SlotImage) => if i.staged then i.version else 0
  s |> forEach (List.range 4) (fun c s =>
        let a := imageOf c false s
        let b := imageOf c true s
        s |> set (Reg.UPD.SLOT_A_STATE c) (st a) |> set (Reg.UPD.SLOT_B_STATE c) (st b)
          |> set (Reg.UPD.SLOT_CONFIRMED c) (bitsOf s.upd.bootSlot c 1)
          |> set (Reg.UPD.SLOT_RUNNING c) (bitsOf s.upd.running c 1)
          |> put1 (Reg.UPD.SLOT_PENDING c) ((pendingOf s).any (·.1 == c))
          |> set (Reg.UPD.SLOT_IL c) (imageOf c (bitOf s.upd.running c) s).il
          |> set (Reg.UPD.VER_A_VERSION c) (ver a) |> set (Reg.UPD.VER_B_VERSION c) (ver b))
    |> set Reg.UPD.LOG_BLOCK s.upd.logBlock |> set Reg.UPD.LOG_FREE (logFree s)
    |> set Reg.UPD.STS_TALLY s.upd.tally

/-- The settings area's registers (R482): a record takes 20 bytes, its header word, SEQ, one data word,
CRC-32 and commit word (R476). -/
def setShow (s : State) : State :=
  let free := 3840 - s.upd.appended * 20 / 1024
  s |> set Reg.SET.AREA_IN_USE s.upd.area |> set Reg.SET.AREA_FREE_KIB free
    |> set Reg.SET.AREA_SEQ s.upd.areaSeq
    |> set Reg.SET.FMT_CURRENT (imageOf 0 (bitOf s.upd.running 0) s).setFmt
    |> set Reg.SET.FMT_OLDEST s.upd.cfgOldest

/-- The four words of a log record (R469); a CONFIRM and a REVERT name no slot. (log entry 81: DEDUCED). -/
def recordWords (r : ActRecord) (s : State) : List Nat :=
  let seq := s.upd.logSeq % 2 ^ 16
  let w := match r with
    | .activate c slotB => (2 ^ 28 + c * 2 ^ 26 + b2n slotB * 2 ^ 25 + seq, (imageOf c slotB s).version)
    | .confirm => (2 * 2 ^ 28 + seq, 0)
    | .revert => (3 * 2 ^ 28 + seq, 0)
  [w.1, w.2, (Config.mapCrc [w.1, w.2]).toNat, 0x3CA55AC3]

/-- A record goes to the next place of the log block in use, its words in order (R464, R469). -/
def appendRecord (r : ActRecord) (s : State) : State :=
  let at_ := (248 + s.upd.logBlock) * 0x4000 + 4 * s.upd.log.length
  let ws := recordWords r s
  { s with upd := { s.upd with log := s.upd.log ++ [r], logSeq := s.upd.logSeq + 1 } }
    |> forEach (List.range 4) (fun i => putWord (at_ + i) (ws.getD i 0))

/-- The word of the boot tally in use: two blocks of 8,192 words (R464). -/
def tallyAddr (k : Nat) : Nat := (506 + k / 8192) * 0x4000 + k % 8192

/-- The boot tally: one bit of its word is clear for each boot of the epoch, the lowest first (R471).
(log entry 81: DEDUCED). -/
def putTally (s : State) : State := putWord (tallyAddr s.upd.tallyWord) (erasedWord - (2 ^ s.upd.tally - 1)) s

/-- A new word of the boot tally is taken (R471); a block that it enters is erased first. (log entry 81: DEDUCED). -/
def newTally (s : State) : State :=
  let k := (s.upd.tallyWord + 1) % 16384
  { s with upd := { s.upd with tally := 0, tallyWord := k } } |> when (k % 8192 == 0) (eraseBlock (506 + k / 8192))

/-- After a CONFIRM or REVERT record the log goes on in the other block, erased, when fewer than 8 records are free, with a
CONFIRM record first (R468, R469). (log entry 81: DEDUCED). -/
def changeLog (s : State) : State :=
  if 8 ≤ logFree s then s
  else
    { s with upd := { s.upd with log := [], logBlock := 1 - s.upd.logBlock } }
      |> (fun s => eraseBlock (248 + s.upd.logBlock) s) |> appendRecord .confirm

/-- A log record is written (R469). After a CONFIRM or REVERT record a new tally word is taken (R471), and the log block
may change. -/
def writeRecord (r : ActRecord) (s : State) : State :=
  s |> appendRecord r
    |> when (r == .confirm || r == .revert) (fun s => s |> newTally |> changeLog)
    |> when (r == .revert) (event 0xB1 3)
    |> updShow

/-- A slot is rejected at boot (R471). -/
def rejectSlot (c : Nat) (slotB : Bool) (s : State) : State :=
  s |> setImage c slotB (fun i => { i with rejected := true })
    |> putWord (slotWord c slotB + 1023) 0
    |> set Reg.UPD.STS_REJECTED 1 |> event 0xB1 4
    |> raiseSimple 234 0 0 (c + 4 * b2n slotB) 0
    |> when (get (Reg.FLS.SRC_CFG_SEV 234) s < 2)
        (faultRecord 234 (get (Reg.FLS.SRC_CFG_SEV 234) s) false 0 (c + 4 * b2n slotB) 0)

/-- One attempt of R471 over a set: slots that are not good are rejected and give way to the other slot; none when some
component has no good slot or the set is not compatible. -/
def trySet (bits : Nat) (s : State) : State × Option Nat :=
  let step := fun (a : State × Nat × Bool) (c : Nat) =>
    let b := bitOf a.2.1 c
    if slotGood (imageOf c b a.1) then a
    else
      let t := rejectSlot c b a.1
      (t, overlaySet a.2.1 [(c, !b)], a.2.2 && slotGood (imageOf c (!b) t))
  let r := (List.range 4).foldl step (s, bits, true)
  (r.1, if r.2.2 && compatible r.2.1 r.1 then some r.2.1 else none)

/-- A set starts (R471); the safety core pair with it, whose cores agree until source 330 says otherwise (R428).
(log entry 76: DEDUCED). -/
def startSet (bits : Nat) (wanted : List (Nat × Bool)) (reverted : Bool) (s : State) : State :=
  { s with upd := { s.upd with running := bits, bootFrames := 0, okSeen := false },
           pwr := { s.pwr with firmware := true, recovery := false } }
    |> set Reg.SAF.STS_LOCKSTEP_OK 1
    |> put1 Reg.UPD.STS_REVERTED (reverted || wanted.any (fun a => bitOf bits a.1 != a.2))
    |> updShow

/-- The recovery monitor runs (R471, R488): source 336 with its cause, Media Status Error on every port
(R107). -/
def recoveryMonitor (cause : Nat) (s : State) : State :=
  { s with pwr := { s.pwr with recovery := true, firmware := false } }
    |> set Reg.SYS.BOOT_STAGE 11
    |> raiseSimple 336 cause 0 cause 0
    |> forEach [0, 1, 2, 3] (fun n => when (portUsed n s) (set (Reg.HPT.STS_MEDIA n) 2))

/-- The mapping registers. -/
def mapField (key : Nat) : Bool := 0x10110 * 32 ≤ key && key < 0x101A0 * 32

/-- A stored field of the state class (R475): the DRAM mapping, the spare map, pairing and region generations, and the
restore and port settings. -/
def stateClass (key : Nat) : Bool :=
  mapField key || pageOfKey key == 0x11 || pageOfKey key == 0x43 || pageOfKey key == 0xC1 ||
  ([0, 1, 2, 3] : List Nat).any (fun n => key == (Reg.HPT.CTL_MEDIA_STAGE n).key)

/-- The settings become the records `l`: their fields take the stored values, and fields without a record their
defaults. -/
def takeSettings (l : List (Nat × Nat)) (s : State) : State :=
  let gone := s.upd.settings.filter (fun e => (look l e.1).isNone)
  { s with upd := { s.upd with settings := l },
           regs := s.regs.filter (fun e => !gone.any (fun g => g.1 == e.1)) }
    |> forEach l (fun e s => { s with regs := insert (drop s.regs e.1) e.1 e.2 })

/-- Settings at a boot (R476). An image of another format finds its own records as it left them; a new one takes over the
records that it reads, and configuration records older than those take their defaults. (log entry 81: DEDUCED). -/
def settingsAtBoot (s : State) : State :=
  let img := imageOf 0 (bitOf s.upd.running 0) s
  let s := { s with upd := { s.upd with stateNewest := max s.upd.stateNewest img.stateFmt } }
  if img.setFmt = s.upd.format then put1 Reg.UPD.STS_SETTINGS_DEFAULTED s.upd.defaulted s
  else
    let held := insert (drop s.upd.held s.upd.format) s.upd.format s.upd.settings
    let own := look s.upd.held img.setFmt
    let old := decide (s.upd.cfgOldest < img.setOldest) && own.isNone && s.upd.settings.any (fun e => !stateClass e.1)
    let l := own.getD (if old then s.upd.settings.filter (fun e => stateClass e.1) else s.upd.settings)
    let s := takeSettings l s
    { s with upd := { s.upd with format := img.setFmt, held := drop held img.setFmt, defaulted := old } }
      |> put1 Reg.UPD.STS_SETTINGS_DEFAULTED old |> when old (raiseSimple 235 0 0 0 0)

/-- `boot_select` (R471). -/
def bootSelect (s : State) : State :=
  let tally := min 32 (s.upd.tally + 1)
  let s := { s with upd := { s.upd with tally := tally } }
    |> putTally |> set Reg.UPD.STS_TALLY tally |> set Reg.UPD.STS_REJECTED 0 |> set Reg.UPD.STS_REVERTED 0
  let acts := pendingOf s
  let done := !acts.isEmpty && acts.all (fun a => bitOf s.upd.bootSlot a.1 == a.2)
  let s := when done (writeRecord .confirm) s
  let acts := if done then [] else acts
  let tooMany := !acts.isEmpty && 3 < tally
  let s := when tooMany (writeRecord .revert) s
  let left := if tooMany then [] else acts
  match trySet (overlaySet s.upd.bootSlot left) s with
  | (t, some bits) => t |> startSet bits acts tooMany |> settingsAtBoot
  | (t, none) =>
    if left.isEmpty then recoveryMonitor 5 t
    else
      match trySet t.upd.bootSlot (writeRecord .revert t) with
      | (u, some bits) => u |> startSet bits acts true |> settingsAtBoot
      | (u, none) => recoveryMonitor 5 u

/-! ### Requests (R467 to R474) -/

/-- `UPD.STS.RESULT`. -/
def updResult (r : Nat) (s : State) : State := set Reg.UPD.STS_RESULT r s

/-- A transfer is over. -/
def dropTransfer (s : State) : State :=
  { s with upd := { s.upd with transfer := none } } |> set Reg.UPD.DL_ACTIVE 0

/-- A save trigger or an abort ends a transfer, with its slot unstaged: Transfer FW returns Aborted (R479, R480). -/
def endTransfer (s : State) : State :=
  if s.upd.transfer.isNone then s
  else s |> dropTransfer |> emit (.mailbox (get Reg.SYS.MGMT_PORT_PORT s) 0x12 [])

/-- The header of an image as the array holds it (R465), for a slot staged or not. -/
def imageHeader (c : Nat) (slotB staged verifies : Bool) (s : State) : SlotImage :=
  let w := fun (i : Nat) => arrayWord (slotWord c slotB + i) s
  { version := w 1, il := w 2 % 65536,
    minPeer := [w 2 / 65536, w 3 % 65536, w 3 / 65536 % 65536, w 4 % 65536],
    setFmt := bitsOf (w 4) 16 8, setOldest := bitsOf (w 4) 24 8,
    stateFmt := bitsOf (w 5) 0 8, stateOldest := bitsOf (w 5) 8 8,
    staged := staged, verifies := verifies }

/-- An activation is asked for (R468): RESULT 1 not staged, 2 incompatible, 3 log full, 4 wrong state,
5 settings. -/
def activateOp (c : Nat) (slotB : Bool) (s : State) : State :=
  let img := imageOf c slotB s
  let set' := overlaySet (pendingSet s) [(c, slotB)]
  if (s.upd.transfer.map (fun t => t.component == c)).getD false then updResult 4 s
  else if !img.staged || img.rejected then updResult 1 s
  else if !compatible set' s then updResult 2 s
  else if logFree s < 8 then updResult 3 s
  else if c = 0 && (s.upd.stateOldest < img.stateOldest || img.stateFmt < s.upd.stateNewest) then updResult 5 s
  else s |> updResult 0 |> writeRecord (.activate c slotB) |> event 0xB1 1

/-- A confirmation (R472): the option copy, the CONFIRM record, the retirement of older formats (R476).
(log entry 81: DEDUCED). -/
def confirmNow (s : State) : State :=
  let img := imageOf 0 (bitOf s.upd.running 0) s
  let fmt := img.setFmt
  { s with upd := { s.upd with cfgOldest := fmt, stateOldest := img.stateFmt, held := [], defaulted := false } }
    |> programOption s.upd.running
    |> updResult 0 |> writeRecord .confirm |> event 0xB1 2
    |> set Reg.SET.FMT_OLDEST fmt |> event 0xB2 1

/-- CONFIRM is asked for (R472, R476). -/
def confirmOp (accept : Bool) (s : State) : State :=
  if (pendingOf s).isEmpty || pendingSet s ≠ s.upd.running then updResult 4 s
  else if isSet Reg.UPD.STS_SETTINGS_DEFAULTED s && !accept then updResult 5 s
  else s |> confirmNow |> set Reg.UPD.STS_SETTINGS_DEFAULTED 0

/-- REVERT is asked for (R474). -/
def revertOp (s : State) : State :=
  if (pendingOf s).isEmpty then updResult 4 s else s |> updResult 0 |> writeRecord .revert

end Sys2Proof.Machine
end

