-- ==== Sys2Proof/Machine/EngOps.lean ====
section
/-! DEFINITION. The gauge: conversions, energies, budgets, the ride window, anchors, learning (R26, R251 to
R272). -/

namespace Sys2Proof.Machine

/-- The live bit of a converter's source: 0 VIN, 1 VCAP, 2 VBAT, 3 IBAT, 4 thermistor (R254). -/
def convBad (k : Nat) (s : State) : Bool := isSet (Reg.FLS.LIVE (320 + k)) s

/-- The bank's voltage in mV (R252). -/
def vcapMv (s : State) : Rat := mkRat ((s.eng.last.vcap * 3125 : Nat) : Int) 16000

/-- Linear interpolation between points of a table, the end values held beyond (R255). -/
def interpolate : List (Int × Nat) → Rat → Rat
  | [], _ => 0
  | [p], _ => (p.2 : Rat)
  | p :: q :: rest, t =>
    if t ≤ (p.1 : Rat) then (p.2 : Rat)
    else if t ≤ (q.1 : Rat) then (p.2 : Rat) + ((q.2 : Rat) - (p.2 : Rat)) * (t - (p.1 : Rat)) / ((q.1 : Rat) - (p.1 : Rat))
    else interpolate (q :: rest) t

/-- The derating tables (R255), in per mille at a temperature in 1/16 °C. -/
def tcCap (t : Rat) (s : State) : Rat :=
  interpolate ((List.range 8).map (fun k => (getInt (Reg.ENG.TC_CAP_TEMP k) s, get (Reg.ENG.TC_CAP_PERMILLE k) s))) (t / 16)
/-- The battery's temperature factor (R255). -/
def tcBat (t : Rat) (s : State) : Rat :=
  interpolate ((List.range 8).map (fun k => (getInt (Reg.ENG.TC_BAT_TEMP k) s, get (Reg.ENG.TC_BAT_PERMILLE k) s))) (t / 16)

/-- The store temperature in 1/16 °C: −40 °C while the thermistor is faulty (R254). -/
def tStore (s : State) : Int := getInt Reg.ENG.TEMP_T_STORE s

/-- A rational number rounded down, as a natural number. (log entry 83: DEDUCED). -/
def floorNat (q : Rat) : Nat := q.floor.toNat

/-- Bank energy in mJ at a voltage in mV above the lowest usable one: ½ × c × (v² − v_min²). -/
def bankMj (c : Nat) (v lo : Rat) : Rat := (c : Rat) * (v * v - lo * lo) / 20000000

/-- e_cap in mJ (R256). -/
def eCap (s : State) : Rat :=
  let v := vcapMv s
  let lo := (get Reg.ENG.CAP_V_V_MIN_MV s : Rat)
  if v < lo || convBad 1 s then 0
  else bankMj (get Reg.ENG.CAP_TEST_C_MEAS s) v lo * tcCap (tStore s) s / 1000

/-- `ENG.BAT_STS.STATE` (R257). -/
def batState (s : State) : Nat := get Reg.ENG.STATE_BAT s
/-- The learned capacity in mAh: the lower of the learned value and the rated one (R257). -/
def learnedMah (s : State) : Nat := get Reg.ENG.CAP_LEARNED_MAH s

/-- The charge counter in mAh. -/
def counterMah (s : State) : Rat := mkRat (s.eng.counter : Int) 3600000000

/-- The cell voltage in mV of R263, from a battery current in converter codes. -/
def cellMv (ibat : Int) (s : State) : Rat :=
  let vbat := mkRat ((s.eng.last.vbat * 5 : Nat) : Int) 64
  let ma := mkRat (ibat * 625) (max 1 (get Reg.ENG.SHUNT_MICROOHM s))
  (vbat - ma * (get Reg.ENG.BAT_ELEC_RINT_MOHM s : Rat) / 1000) / (max 1 (get Reg.ENG.BAT_CFG_CELLS s) : Nat)

/-- The 32 points of a chemistry's OCV table (R263), SOC at most 1,000 ‰. -/
def ocvTable (chem : Nat) : List (Int × Nat) :=
  (List.range 32).map (fun k => (((Config.ocvMv chem k).toNat : Int), min 1000 (Config.ocvPermille chem k).toNat))

/-- State of charge in per mille (R263). -/
def socPermille (ibat : Int) (s : State) : Rat :=
  interpolate (ocvTable (get Reg.ENG.BAT_CFG_CHEM s)) (cellMv ibat s)

/-- q_volt in mAh (R263). -/
def qVolt (s : State) : Rat := socPermille s.eng.last.ibat s * (learnedMah s : Rat) / 1000

/-- q_used in mAh (R256). -/
def qUsed (s : State) : Rat := min (counterMah s) (min (learnedMah s : Rat) (qVolt s))

/-- Battery energy counts as zero (R26, R256). -/
def batteryOut (s : State) : Bool := batState s ≠ 2 || convBad 2 s || convBad 3 s

/-- e_bat in mJ (R256). -/
def eBat (s : State) : Rat :=
  if batteryOut s then 0
  else
    qUsed s * 18 / 5 * (get Reg.ENG.BAT_ELEC_VNOM_MV s : Rat) * tcBat (tStore s) s / 1000 *
      (get Reg.ENG.LIMITS_BAT_AGE s : Rat) / 1000

/-- Granules that an energy in mJ pays for (R26). -/
def granulesFor (mj : Rat) (s : State) : Nat :=
  floorNat ((if mj < 0 then 0 else mj) / (max 1 (get Reg.ENG.SAVECOST_E_PER_GB_MJ s) : Nat) * 1000000000 /
    (granBytes s : Rat))

/-- Energies and budgets of step 4 of a tick (R26, R256). -/
def budgets (s : State) : State :=
  let ec := eCap s
  let eb := eBat s
  let ea := ec + eb
  let margin := ea * (get Reg.ENG.MARGIN_PCT s : Rat) / 100
  let fixed := (get Reg.ENG.SAVECOST_E_FIXED_MJ s : Rat)
  let strict := granulesFor (ea - fixed) s
  let energy := granulesFor (ea - fixed - margin) s
  let capped := min (get Reg.LEH.BUDGET_CAP_GRAN s) energy
  let eff := if eb = 0 then min capped (get Reg.LEH.CAPONLY_CAP_GRAN s) else capped
  { s with mrv := { s.mrv with bStrict := strict, bEff := eff } }
    |> set Reg.ENG.E_CAP_MJ (floorNat ec) |> set Reg.ENG.E_BAT_MJ (floorNat eb)
    |> set Reg.ENG.E_AVAIL_MJ (floorNat ea)
    |> set Reg.ENG.B_ENERGY_GRAN (min energy 33554431)
    |> set Reg.LEH.BUDGET_EFF_GRAN (min eff 33554431)
    |> set Reg.ENG.Q_VOLT_MAH (floorNat (qVolt s)) |> set Reg.ENG.Q_USED_MAH (floorNat (qUsed s))

/-- The budget as 0 from a detection until the next tick (R48). -/
def zeroBudget (s : State) : State :=
  { s with mrv := { s.mrv with bStrict := 0, bEff := 0 } }
    |> set Reg.LEH.BUDGET_EFF_GRAN 0 |> set Reg.SYS.PERSIST_BUDGET 1

/-- `SYS.PERSIST.BUDGET` at a tick (R27). (log entry 83: DEDUCED). -/
def budgetRule (s : State) : State :=
  let dirty := dirtyEff s
  if s.mrv.bStrict < dirty then set Reg.SYS.PERSIST_BUDGET 1 s
  else if s.mrv.bEff < dirty then
    let n := s.mrv.overFrames + 1
    let s := { s with mrv := { s.mrv with overFrames := n } }
    let late :=
      if 50 ≤ n then true
      else if s.mrv.sealedNow ≤ s.mrv.dirtiedNow then true
      else decide (50 - n < ceilDiv (dirty - s.mrv.bEff) (s.mrv.sealedNow - s.mrv.dirtiedNow))
    when late (set Reg.SYS.PERSIST_BUDGET 1) s
  else { s with mrv := { s.mrv with overFrames := 0 } } |> set Reg.SYS.PERSIST_BUDGET 0

/-- The ride window of R268. -/
def rideWindow (s : State) : State :=
  let ea := eCap s + eBat s
  let gb := mkRat ((dirtyEff s * granBytes s : Nat) : Int) 1000000000
  let save := (get Reg.ENG.SAVECOST_E_FIXED_MJ s : Rat) + gb * (get Reg.ENG.SAVECOST_E_PER_GB_MJ s : Rat)
  let w := (ea - save - ea * (get Reg.ENG.MARGIN_PCT s : Rat) / 100) / (max 1 (get Reg.ENG.RIDE_P_DW s) * 100 : Nat)
  let w := if eBat s = 0 || w ≤ 0 then 0 else w
  set Reg.ENG.RIDE_WIN_MS (floorNat (min w (get Reg.SAV.RIDE_MAX_S s : Rat) * 1000)) s

/-! ### Currents against the learned capacity -/

/-- |IBAT| reaches C/k: code × 625/R mA against C/k mA. -/
def currentAtLeast (code : Int) (k : Nat) (s : State) : Bool :=
  decide (learnedMah s * get Reg.ENG.SHUNT_MICROOHM s ≤ code.natAbs * 625 * k)

/-- The battery discharges at C/50 or more. -/
def discharging (s : State) : Bool := decide (s.eng.last.ibat < 0) && currentAtLeast s.eng.last.ibat 50 s

/-- Battery charging is held off (R259). -/
def batChargeHeld (s : State) : Bool :=
  batState s ≠ 2 || s.eng.chargerHeld || isSet Reg.ENG.TEMP_NTC_FAULT s ||
  decide (tStore s < 16 * getInt Reg.ENG.CHG_T_MIN s) || decide (16 * getInt Reg.ENG.CHG_T_MAX s < tStore s)

/-- The bank's load test and the battery's charge path as they are now (R259). -/
def chargeShow (s : State) : State := put1 Reg.ENG.STATE_CHG_ON (!batChargeHeld s) s

/-- Releases HOLD_EN: an exercise ends with a RESULT (R266). -/
def endExercise (result : Nat) (s : State) : State :=
  if !isSet Reg.ENG.EXERCISE_ACTIVE s then s
  else
    { s with eng := { s.eng with exerciseFrom := none }, pwr := { s.pwr with holdEn := false } }
      |> set Reg.ENG.EXERCISE_ACTIVE 0 |> set Reg.ENG.EXERCISE_RESULT result
      |> set Reg.ENG.STATE_BAT (if batState s = 0 then 0 else 2)
      |> event 0x80 7 |> chargeShow

/-- The capacitor test's load is released and its result discarded (R272, R273). -/
def endCapTest (s : State) : State :=
  { s with eng := { s.eng with capTest := none }, pwr := { s.pwr with testLoad := false } }
    |> set Reg.ENG.CAP_TEST_RUNNING 0

/-! ### The tick of the gauge -/

/-- Charge integration (R253): IBAT × 20 µs = code × 12,500 / R nC, the remainder carried. -/
def integrate (code : Int) (s : State) : State :=
  let r := max 1 (get Reg.ENG.SHUNT_MICROOHM s)
  let n := code * 12500 + s.eng.remainder
  let q := n / (r : Int)
  let c := (min ((s.eng.counter : Int) + q) (2 ^ 63 - 1)).toNat
  let d := s.eng.discharge.map (fun d => { out := d.out - q, temp := d.temp + (if convBad 4 s then -640 else s.eng.last.tStore), frames := d.frames + 1 })
  { s with eng := { s.eng with counter := c, remainder := n % (r : Int), discharge := d } }
    |> set Reg.ENG.QCNT_LO_NC (c % 2 ^ 32)

/-- A code of the VIN converter reads at or above the comparator's threshold (R252, R275): 78.125 µV a code at the pin's
1 : 16 divider, 10.2 V and 0.1 V for each step of VIN_THR. -/
def vinCodeAbove (code : Nat) (s : State) : Bool :=
  decide ((10200 + 100 * get Reg.SAV.CFG_VIN_THR s) * 8000 ≤ code * 625)

/-- The conversions of the frame just ended are shown (R252, R254). -/
def showSamples (s : State) : State :=
  let x := s.eng.last
  let ntc := convBad 4 s
  let above := vinCodeAbove x.vin s
  s |> set Reg.ENG.VIN_CODE x.vin |> put1 Reg.ENG.VIN_GOOD (above && !convBad 0 s)
    |> set Reg.ENG.VCAP_CODE x.vcap |> set Reg.ENG.VBAT_CODE x.vbat
    |> setInt Reg.ENG.IBAT_CODE x.ibat
    |> setInt Reg.ENG.TEMP_T_STORE (if ntc then -640 else x.tStore)
    |> put1 Reg.ENG.TEMP_NTC_FAULT ntc

/-- VIN is good (R283). -/
def vinGoodNow (s : State) : Bool :=
  isSet Reg.ENG.VIN_GOOD s && !s.eng.last.pfailLow && s.eng.last.vinAbove

/-- The converters whose reading sits at an end of its range where it cannot be true (R254): VIN at the low end only while
its comparator reads above, VCAP there only once the bank is detected and VIN is good, the battery's only with a pack. -/
def atEnds (s : State) : List Bool :=
  let x := s.eng.last
  let pack := isSet Reg.SYS.CAPS_BATTERY s
  [ (x.vin == 0 && x.vinAbove) || x.vin == 262143,
    (x.vcap == 0 && s.eng.bankSeen && vinGoodNow s) || x.vcap == 262143,
    pack && (x.vbat == 0 || x.vbat == 262143),
    pack && (x.ibat == -131072 || x.ibat == 131071),
    x.ntcEnd ]

/-- Converter `k`'s condition: 50 frames at an end of its range, or a failed reference check (R254). -/
def convFaulty (k : Nat) (s : State) : Bool := decide (50 ≤ s.eng.ends.getD k 0) || s.eng.refBad.contains k

/-- The frames at an end of the range are counted; a live bit falls when its condition ends (R254). -/
def endsTick (s : State) : State :=
  let hit := atEnds s
  let ends := (List.range 5).map (fun k => if hit.getD k false then min 50 (s.eng.ends.getD k 0 + 1) else 0)
  let s := { s with eng := { s.eng with ends := ends } }
  forEach (List.range 5) (fun k s => if convBad k s && !convFaulty k s then liveFall (320 + k) s else s) s

/-- The bank's voltage in a capacitor test is taken at t0 + 1 and t0 + 500 (R271). -/
def sampleCapTest (s : State) : State :=
  match s.eng.capTest with
  | none => s
  | some t =>
    let t := if now s = t.start + 1 then { t with v1 := some s.eng.last.vcap }
      else if now s = t.start + 500 then { t with v500 := some s.eng.last.vcap } else t
    { s with eng := { s.eng with capTest := some t } }

/-- Runs of frames that the anchors and the timers count (R257 to R264); a rest that a save trigger meets restarts at
power return (R272). -/
def gaugeRuns (s : State) : State :=
  let x := s.eng.last
  let sound := !convBad 2 s && !convBad 3 s && batState s ≠ 0
  let full := sound && isSet Reg.ENG.STATE_CV s && decide (0 ≤ x.ibat) &&
    decide (x.ibat.natAbs * 625 * 20 ≤ learnedMah s * get Reg.ENG.SHUNT_MICROOHM s) &&
    !isSet Reg.ENG.STATE_CHG_FAULT s && !fenced s
  let empty := sound && decide (x.vbat * 5 ≤ get Reg.ENG.BAT_CFG_CUTOFF_MV s * 64) && discharging s
  let gap := counterMah s - qVolt s
  let differ := batState s = 2 &&
    decide ((get Reg.ENG.LIMITS_DISAGREE_PCT s * learnedMah s : Nat) < (if gap < 0 then -gap else gap) * 100)
  let rest := batState s = 1
  { s with eng := { s.eng with
      fullRun := if full then s.eng.fullRun + 1 else 0,
      emptyRun := if empty then s.eng.emptyRun + 1 else 0,
      differRun := if differ then s.eng.differRun + 1 else 0,
      agreeRun := if differ then 0 else s.eng.agreeRun + 1,
      vinRun := if vinGoodNow s then s.eng.vinRun + 1 else 0,
      vinNotGood := s.eng.vinNotGood && !vinGoodNow s } }
    |> when rest (fun s => set Reg.ENG.STATE_REST_LEFT
        (if currentAtLeast x.ibat 50 s || fenced s then 3000000 else get Reg.ENG.STATE_REST_LEFT s - 1) s)
    |> when (discharging s) (set Reg.ENG.STATE_AT_FULL 0)
    |> chargeShow

/-- Battery energy of a frame in µJ: VBAT × (−IBAT) × 20 µs = codes / (1,024 × R). -/
def frameUj (s : State) : Int :=
  (s.eng.last.vbat : Int) * -s.eng.last.ibat / ((1024 * max 1 (get Reg.ENG.SHUNT_MICROOHM s) : Nat) : Int)

/-- Energy drawn from the store since a voltage in mV was taken: the bank's fall plus the battery's, in mJ. -/
def drawnMj (v0 : Nat) (uj : Int) (s : State) : Nat :=
  floorNat (bankMj (get Reg.ENG.CAP_TEST_C_MEAS s) (v0 : Rat) (vcapMv s) + mkRat uj 1000)

/-- A rise is taken in full, a fall by quarters (R267). (log entry 83: DEDUCED). -/
def learnTowards (old : Nat) (new : Rat) : Rat :=
  if (old : Rat) < new then new else (old : Rat) + (new - (old : Rat)) / 4

/-- The save costs after a save that drew `used` mJ and sealed `gran` granules (R267). -/
def learnSave (used gran : Nat) (s : State) : State :=
  let gb := mkRat ((gran * granBytes s : Nat) : Int) 1000000000
  let fixed := get Reg.ENG.SAVECOST_E_FIXED_MJ s
  let per := get Reg.ENG.SAVECOST_E_PER_GB_MJ s
  let per' := if 1 ≤ gb then learnTowards per (((used : Rat) - (fixed : Rat)) / gb) else (per : Rat)
  let fixed' := if gb < mkRat 1 10 then learnTowards fixed ((used : Rat) - (per : Rat) * gb) else (fixed : Rat)
  s |> set Reg.ENG.SAVECOST_E_FIXED_MJ (max 6000 (min 48000 (floorNat fixed')))
    |> set Reg.ENG.SAVECOST_E_PER_GB_MJ (max 850 (min 6800 (floorNat per')))

/-- The mean power of a ride in 0.1 W (R268), clamped to 5 W to 100 W. -/
def learnRide (dw : Nat) (s : State) : State :=
  set Reg.ENG.RIDE_P_DW (max 50 (min 1000 (floorNat (learnTowards (get Reg.ENG.RIDE_P_DW s) (dw : Rat))))) s

/-- Word 7 of a record of learned values, programmed last (R269). -/
def commitWord : Word := 0xA5C33C5A

/-- The eight words of a record of the present learned values (R269). -/
def learnedWords (seq : Nat) (s : State) : List Word :=
  let body := [seq, learnedMah s + 0x0001 * 2 ^ 16, get Reg.ENG.SAVECOST_E_FIXED_MJ s, get Reg.ENG.SAVECOST_E_PER_GB_MJ s,
    get Reg.ENG.RIDE_P_DW s + get Reg.ENG.CAP_TEST_C_MEAS s * 2 ^ 16, s.eng.learnedAt].map (BitVec.ofNat 32)
  body ++ [Config.mapCrc (body.map (·.toNat)), commitWord]

/-- A slot holds a valid record: its commit word is there and its CRC checks (R270). -/
def learnedValid (ws : List Word) : Bool :=
  ws.length == 8 && ws.getD 7 0 == commitWord && ws.getD 6 0 == Config.mapCrc ((ws.take 6).map (·.toNat))

/-- A word of a slot. -/
def learnedWord (ws : List Word) (k : Nat) : Nat := (ws.getD k 0).toNat

/-- The newest valid record, with its slot (R269, R270). -/
def newestLearned (s : State) : Option (Nat × List Word) :=
  if learnedValid s.eng.slot0 && (!learnedValid s.eng.slot1 || decide (learnedWord s.eng.slot1 0 < learnedWord s.eng.slot0 0)) then
    some (0, s.eng.slot0)
  else if learnedValid s.eng.slot1 then some (1, s.eng.slot1)
  else none

/-- A learned value differs from the newest valid record (R270). -/
def learnDiffers (s : State) : Bool :=
  match newestLearned s with
  | none => true
  | some r => ([1, 2, 3, 4] : List Nat).any (fun k => (learnedWords 0 s).getD k 0 != r.2.getD k 0)

/-- The learned values of a record, or the defaults (R270). -/
def loadLearned (s : State) : State :=
  match newestLearned s with
  | some r =>
    { s with eng := { s.eng with learnedAt := learnedWord r.2 5 } }
      |> set Reg.ENG.CAP_LEARNED_MAH (learnedWord r.2 1 % 65536) |> set Reg.ENG.SAVECOST_E_FIXED_MJ (learnedWord r.2 2)
      |> set Reg.ENG.SAVECOST_E_PER_GB_MJ (learnedWord r.2 3) |> set Reg.ENG.RIDE_P_DW (learnedWord r.2 4 % 65536)
      |> set Reg.ENG.CAP_TEST_C_MEAS (learnedWord r.2 4 / 65536)
      |> set Reg.ENG.LEARN_SLOT r.1 |> set Reg.ENG.LEARN_SEQ (learnedWord r.2 0)
  | none =>
    s |> set Reg.ENG.CAP_LEARNED_MAH (get Reg.ENG.CAP_LEARNED_RATED_MAH s) |> raiseSimple 236 0 0 0 0

/-- The learned values have changed now (R269). -/
def learnedNow (s : State) : State := { s with eng := { s.eng with learnedAt := s.pwr.rtc } }

/-- Samples of a save or a ride and RESET_DEFAULTS are applied at a tick outside a fence (R267, R268). -/
def learnTick (s : State) : State :=
  let s := if s.eng.resetDefaults then
      { s with eng := { s.eng with resetDefaults := false } }
        |> set Reg.ENG.SAVECOST_E_FIXED_MJ 12000 |> set Reg.ENG.SAVECOST_E_PER_GB_MJ 1700 |> set Reg.ENG.RIDE_P_DW 220 |> learnedNow
    else s
  if fenced s || !admittedNow s then s
  else
    let s := match s.eng.saveSample with
      | some p => { s with eng := { s.eng with saveSample := none } } |> learnSave p.1 p.2 |> learnedNow
      | none => s
    match s.eng.rideSample with
    | some p => { s with eng := { s.eng with rideSample := none } } |> learnRide p |> learnedNow
    | none => s

/-- The gauge's part of a tick (R252 to R256, R268). -/
def gaugeTick (x : GaugeSamples) (cut : Bool) (s : State) : State :=
  let used := if cut then { s.eng.last with ibat := x.ibat, vinAbove := x.vinAbove, pfailLow := x.pfailLow } else x
  { s with eng := { s.eng with last := used } }
    |> integrate x.ibat
    |> endsTick |> showSamples |> sampleCapTest
    |> gaugeRuns
    |> (fun s => { s with eng := { s.eng with
          saveDrawn := s.eng.saveDrawn + (if fenced s then frameUj s else 0),
          rideEnergy := s.eng.rideEnergy + (if get Reg.SAV.STS_STATE s == 4 then frameUj s else 0) } })
    |> learnTick
    |> put1 Reg.ENG.LEARN_PENDING (learnDiffers s)

/-- The counter is set at an anchor (R257, R260, R261): DISAGREE clears (R264). (log entry 82: DEDUCED). -/
def anchor (nc : Nat) (s : State) : State :=
  { s with eng := { s.eng with counter := nc, remainder := 0, differRun := 0, agreeRun := 0 } }
    |> set Reg.ENG.QCNT_LO_NC (nc % 2 ^ 32)
    |> set Reg.ENG.STATE_DISAGREE 0 |> liveFall 325

/-- mAh as nC. -/
def mahNc (mah : Nat) : Nat := mah * 3600000000

end Sys2Proof.Machine
end

