-- ==== Sys2Proof/Machine/SaveOps.lean ====
section
/-! DEFINITION. Triggers, the fence, the decision, ride and wake, the save's end, the chip reset and the warm
return (R275 to R298, R371, R393, R416 to R418). -/

namespace Sys2Proof.Machine

/-- `SAV.STS.STATE`. -/
def savState (s : State) : Nat := get Reg.SAV.STS_STATE s
def setSav (n : Nat) (s : State) : State := set Reg.SAV.STS_STATE n s

/-- SAV is ARMED (R276). -/
def savArmed (s : State) : Bool := isSet Reg.SAV.STS_ARMED s

/-- The reason bits `SYS.PERSIST[8:1]` (R16). -/
def persistReasons (s : State) : Nat :=
  get Reg.SYS.PERSIST_BOOT s + get Reg.SYS.PERSIST_RECOUNT s * 2 + get Reg.SYS.PERSIST_BUDGET s * 4 +
  get Reg.SYS.PERSIST_FAULT s * 8 + get Reg.SYS.PERSIST_SAFE s * 16 + get Reg.SYS.PERSIST_CAPACITY s * 32 +
  get Reg.SYS.PERSIST_IN_DOUBT s * 64 + get Reg.SYS.PERSIST_FENCED s * 128

/-- Change the fields of SAV beyond its registers. -/
def setSavs (f : Sav → Sav) (s : State) : State := { s with sav := f s.sav }

/-- A bit of the trigger bitmap (R275). -/
def triggerBit (k : Nat) (s : State) : State :=
  set Reg.SAV.LAST_TRIG_TRIGGER (Nat.lor (get Reg.SAV.LAST_TRIG_TRIGGER s) (2 ^ k)) s

/-- A trigger of the present fence (R275). -/
def hasTrigger (k : Nat) (s : State) : Bool := bitOf (get Reg.SAV.LAST_TRIG_TRIGGER s) k

/-- `SAV.LAST_TRIG.OUTCOME` (R294). (log entry 43: DEDUCED). -/
def savOutcome (n : Nat) (s : State) : State := set Reg.SAV.LAST_TRIG_OUTCOME n s

/-! ### The fence (R278) -/

/-- Every FREEZE is cleared (R91). -/
def thawAll (s : State) : State :=
  forEach allPages (fun p s => s |> set (Reg.BLKCTL_FREEZE p) 0 |> set (Reg.BLKSTS_FROZEN p) 0) s

/-- The injection key closes (R89). -/
def closeKey (s : State) : State :=
  { s with flt := { s.flt with keyHalf := none, keyLeft := 0 } } |> set Reg.SAF.FINJ_KEY_OPEN 0

/-- A poisoned read response is sent (R115). -/
def sendPoison (port tag : Nat) (under : Option Line) (s : State) : State :=
  s |> emit (.readPoison port tag under) |> inc (Reg.HPT.POISON_RD_COUNT port)

/-- A read is answered at once (R93, R279): with what it has, and else with the line's present value. -/
def finishRead (r : ReadWait) (s : State) : State :=
  match r.data with
  | some (some d) => emit (.readDone r.port r.tag (some d)) s
  | some none => sendPoison r.port r.tag r.under s
  | none =>
    let d := lineNow r.line s
    if d.2 then sendPoison r.port r.tag (some d.1) s else emit (.readDone r.port r.tag (some d.1)) s

/-- A write past the ingest check that waited for room in its pool drains on the reserved share and gets no completion
(R10, R42, R51, R279); a mirror write of it is no longer sent (R336). -/
def drainStalled (q : Stalled) (s : State) : State :=
  let g := granuleOf q.line s
  let be := q.be.getD 0
  let newLine := match q.ctx with
    | some c => !logged c q.line s
    | none => false
  s |> when newLine (logLine (q.ctx.getD 0) q.line)
    |> markWrite g (some q.port) |> homeGenWrite g |> when (paired s) (setTwinDirty g)
    |> queueWrite q.line be q.data (q.bad || q.poison)
    |> when q.bad (fun s => s |> markLost g 2 |> raiseSimple 181 1 q.port (q.line % 2 ^ 32) (q.line / 2 ^ 32))
    |> when (unrestored g s) (slotWrite g q.line)

/-- Why a request waits. -/
def waitsPool (q : Stalled) : Bool :=
  match q.why with
  | .pool _ _ => true
  | _ => false

/-- The ports fence (R112, R11): no credits, no write completions. Of the requests that wait, a write that lacks only
room in its pool drains, any other goes without an answer; a read that lacks room is read in the drain, and one on a
demand fetch reads poison (R115, R124). A mailbox command that waits for its write is completed (R124). -/
def portsFence (s : State) : State :=
  let q := s.hp.stalled
  let cut := q.filter (fun q => q.be.isNone && !waitsPool q)
  let late := (q.filter (fun q => q.be.isNone && waitsPool q)).map (fun (q : Stalled) =>
    ({ port := q.port, tag := q.tag, line := q.line, data := none } : ReadWait))
  let commands := (s.hp.writes.filter (·.mailbox)).map (·.port) ++
    (q.filter (fun q => q.mailbox && waitsPool q)).map (·.port)
  { s with hp := { s.hp with stalled := [], writes := [], credits := [0, 0, 0, 0], reads := s.hp.reads ++ late } }
    |> forEach (q.filter (fun q => q.be.isSome && waitsPool q)) drainStalled
    |> forEach cut (fun q => sendPoison q.port q.tag none)
    |> forEach commands (fun n => emit (.mailbox n 0 []))
    |> forEach [0, 1, 2, 3] (fun n => when (portUsed n s) (set (Reg.HPT.STS_FENCED n) 1))

/-- A member's own fence on the ring (R371): FENCE, and ABORT for every ballot issued and not decided. -/
def domainFence (s : State) : State :=
  if !ringMember s then s
  else
    let open_ := s.rng.ballots.filter (fun b => !b.decided)
    s |> sendBoth (.fence (now s))
      |> forEach open_ (fun b s =>
          s |> logDecision { tag := b.tag, coord := ownId s, frame := b.frame, kind := .abort }
            |> recordFor b.ctx false (now s + 1)
            |> sendBoth (.decision b.tag false b.frame (now s + 1))
            |> inc Reg.DOM.COORD_ABORTS)
      |> (fun s => { s with rng := { s.rng with ballots := s.rng.ballots.map (fun b => { b with decided := true }) } })
      |> set Reg.SYS.PERSIST_DOMAIN_OK 0 |> set Reg.DOM.STS_DOMAIN_OK 0

/-- Requests not effective return to OPEN (R179). (log entry 88: DEDUCED). -/
def discardPending (s : State) : State :=
  forEach (allCtx.filter (fun g => ctxState g s == 2)) discardRequest s

/-- The fence cycle of a trigger (R278). (log entries 61, 88: DEDUCED). -/
def fence (k : Nat) (s : State) : State :=
  let ok := persistReasons s == 0
  { s with hp := { s.hp with outageCounted := false } }
    |> setSavs (fun v => { v with
          t0 := now s, rtcFence := s.pwr.rtc, decided := 0, rideStart := 0, drained := false,
          rode := false, missed := 0, resetFence := k == 4, sealed := 0, dirty := 0, manifestDone := false,
          waitingActs := [], deferredReset := false, warmStep := 0, incomplete := false, residueOnce := [],
          residueLost := [] })
    |> set Reg.SAV.LAST_TRIG_TRIGGER 0 |> triggerBit k
    |> savOutcome 0 |> put1 Reg.SAV.LAST_TRIG_OK_AT_FENCE ok |> set Reg.SAV.LAST_TRIG_PRESEAL 0
    |> set Reg.SAV.LAST_FRAME_FRAME (now s)
    |> thawAll
    |> set Reg.LEH.THROTTLE_ACTIVE 0 |> set Reg.LEH.THROTTLE_WITHHELD 0
    |> (fun s => { s with eng := { s.eng with chargerHeld := true } })
    |> when s.eng.capTest.isSome endCapTest |> endExercise 6 |> chargeShow
    |> discardPending
    |> abandonAll |> dropMoves
    |> (fun s => { s with nand := { s.nand with checkpoint := none, queued := [] } })
    |> when (paired s && !fenced s) (fun s =>
        s |> when (twinAttached s) (sendTwin "FENCE" [now s]) |> stopMirroring)
    |> domainFence
    |> portsFence
    |> (fun s => { s with rng := { s.rng with logClosed := false } })
    |> endTransfer
    |> set Reg.SYS.PERSIST_FENCED 1
    |> setSav 2 |> event 0x42 0
    |> mediaAll
    |> when (!ok) countDirtyShutdown

/-- A trigger while DISARMED (R276): the restore stops; without good VIN the power-down sequence runs. -/
def disarmedTrigger (k : Nat) (s : State) : State :=
  let s := s |> triggerBit k |> event 0x42 0
             |> setSavs (fun v => { v with vinFrames := 0 })
             |> (fun s => { s with rsr := { s.rsr with ready := false } }) |> setInflight []
  if vinGoodNow s then { s with rsr := { s.rsr with restart := if restoring s then 2 else 0 } }
  else if goingDown s then s
  else s |> savOutcome 6 |> startDown

/-- A power failure in the safe state that no emergency seal came with: the fence, and the power-down without a save (R417).
(log entries 43, 88: DEDUCED). -/
def safePowerFail (k : Nat) (s : State) : State := s |> fence k |> setSav 8 |> startDown

/-- A save trigger of one kind (R275, R276, R297); any one closes the injection key (R89). -/
def trigger (k : Nat) (s : State) : State :=
  let s := closeKey s
  if !savArmed s then disarmedTrigger k s
  else if fenced s && savState s ≠ 9 then
    if s.sav.resetFence && !s.sav.drained then
      s |> triggerBit k |> setSavs (fun v => { v with resetFence := false, deferredReset := true })
    else triggerBit k s
  else if inSafe s && k ≤ 1 && !vinGoodNow s then safePowerFail k s
  else fence k s

/-! ### Decision, pre-seal, ride (R280 to R283) -/

/-- b_cap of R281. -/
def bCap (s : State) : Nat :=
  let ec := eCap s
  min (get Reg.LEH.CAPONLY_CAP_GRAN s)
    (granulesFor (ec - (get Reg.ENG.SAVECOST_E_FIXED_MJ s : Rat) - ec * (get Reg.ENG.MARGIN_PCT s : Rat) / 100) s)

/-- A granule is eligible for the pre-seal (R281): DIRTY and not held. -/
def presealable (s : State) : Bool := s.mrv.entries.any (fun e => e.2.state == .dirty && !e.2.txHeld)

/-- The save path begins (R287). -/
def startSave (s : State) : State := setSav 6 s

/-- What ends a pre-seal besides its count (R281): an S3 or S4 source, the safe state, or the window at 0. -/
def presealCut (s : State) : Bool := dangerSticky s || inSafe s || (get Reg.ENG.RIDE_WIN_MS s == 0 && !vinGoodNow s)

/-- Entry into ride-through (R282). -/
def enterRide (s : State) : State :=
  { s with eng := { s.eng with rideEnergy := 0, rideV0 := floorNat (vcapMv s) },
           pwr := { s.pwr with seq := .ride, offDue := true, retrying := s.pwr.retrying.filter (fun r => rideKeeps r s) } }
    |> enterSelfRefresh
    |> setSavs (fun v => { v with rideStart := now s, rode := true })
    |> setSav 4 |> event 0x42 1 |> set Reg.PWR.STS_STATE 3

/-- The choice of R280. -/
def chooseSave (s : State) : Bool :=
  hasTrigger 2 s || hasTrigger 3 s || !isSet Reg.SAV.CFG_RIDE_EN s || dangerSticky s || convBad 0 s ||
  decide (get Reg.ENG.RIDE_WIN_MS s < get Reg.SAV.RIDE_MIN_MS s)

/-- The pre-seal of R281, or the ride at once. -/
def startRidePath (s : State) : State :=
  if dirtyEff s ≤ bCap s then enterRide s
  else s |> setSav 3 |> set Reg.SAV.LAST_TRIG_PRESEAL 1

/-- The energy of the save is measured from here (R267). -/
def measureSave (s : State) : State :=
  { s with eng := { s.eng with saveV0 := floorNat (vcapMv s), saveDrawn := 0, vinNotGood := !vinGoodNow s } }

/-- The decision (R280). -/
def decideSave (s : State) : State :=
  let s := s |> setSavs (fun v => { v with decided := now s, dirty := dirtyEff s, vinFrames := 0 }) |> measureSave
  if chooseSave s then startSave s else startRidePath s

/-- The ride ends (R268, R283): its length and the sample of its mean power, in 0.1 W. -/
def endRide (s : State) : State :=
  let n := now s - s.sav.rideStart
  let uj : Int := s.eng.rideEnergy + ((1000 * drawnMj s.eng.rideV0 0 s : Nat) : Int)
  let dw : Nat := (uj / ((2 * n : Nat) : Int)).toNat
  { s with eng := { s.eng with rideSample := if 50000 ≤ n then some dw else s.eng.rideSample } }
    |> set Reg.SAV.LAST_RIDE_MS (n / 50)

/-- Wake and save (R283, R284). -/
def wake (s : State) : State :=
  s |> endRide |> setSav 5 |> startUp .wake

/-! ### The chip reset and the warm return (R277, R286, R393, R418) -/

/-- `LOCK` is released in every page (R83). -/
def unlockAll (s : State) : State := forEach allPages (fun p => set (Reg.LOCK_LOCK p) 0) s

/-- Sticky statuses of S4 sources clear (R410); FAULT follows at the tick (R18). -/
def clearS4 (s : State) : State :=
  forEach ((stickySources s).filter (fun n => raiseSev n s == 4)) (fun n => set (Reg.FLS.STICKY n) 0) s

/-- The data that a persisting source shows when it raises again: what the latch holds of it, else a free value (log entry 3). -/
def snapAgain (n k : Nat) (s : State) : Nat :=
  if isSet Reg.FLT.FIRST_ID_VALID s && get Reg.FLT.FIRST_ID_ID s == n then get (Reg.FLT.FIRST_SNAP_DATA k) s
  else (Config.freeWord (s.free + k)).toNat

/-- An S4 source whose condition persists over a chip reset raises again (R410, R418). -/
def raiseAgain (n : Nat) (s : State) : State :=
  { set (Reg.FLS.LIVE n) 0 s with free := s.free + 4 }
    |> raiseHeld n (snapAgain n 0 s % 256) (snapAgain n 0 s / 256 % 65536) (snapAgain n 2 s) (snapAgain n 3 s)

/-- The S4 sources whose live bit stands at a chip reset. -/
def persistingS4 (s : State) : List Nat :=
  ((stickySources s).filter (fun n => raiseSev n s == 4 && isSet (Reg.FLS.LIVE n) s))

/-- The safe state is left (R418). -/
def leaveSafe (s : State) : State :=
  if !inSafe s then s
  else
    s |> set Reg.SYS.PERSIST_SAFE 0 |> set Reg.SAF.STS_SAFE 0
      |> set Reg.SAF.STS_CAUSE 0 |> set Reg.SAF.STS_SOURCE 0
      |> forEach [0, 1, 2, 3] (fun n s =>
          if isSet (Reg.HPT.STS_VIRAL_RCVD n) s then s else set (Reg.HPT.STS_READ_HOLD n) 0 s)
      |> forEach [0, 1, 2, 3] (fun n => set (Reg.HPT.STS_VIRAL_SENT n) 0)

/-- The domains that a chip reset cycles (R393). -/
def cycled (d : Nat) (s : State) : Bool := !(38 ≤ d && d < 42) && d != 50 && domainOn d s

/-- What a chip reset does to the chip (R88, R277, R393, R410, R418, R458, R471, R507): its domains cycle with
their pages in retention, the option area is loaded and the set to run is selected. (log entry 44: DEDUCED). -/
def resetChip (s : State) : State :=
  let ds := (List.range 52).filter (fun d => cycled d s)
  s |> carCut
    |> forEach ds (fun d => domainOff d true)
    |> unlockAll |> clearS4 |> leaveSafe
    |> set Reg.FLT.PINCTL_HW_HOLD 0 |> pinFollow
    |> forEach (persistingS4 s) raiseAgain
    |> loadOption false false
    |> forEach ds domainUp
    |> bootSelect
    |> set Reg.SYS.BOOT_COLD 0
    |> lockPages

/-- Contexts at a warm return (R193): PREPARED ones without a recorded decision become IN_DOUBT. -/
def warmContexts (s : State) : State :=
  forEach (allCtx.filter (fun g => ctxState g s == 3)) (fun g s =>
    match s.txn.decisions.find? (·.ctx == g) with
    | some d => s |> addOutcome g (if d.commit then 1 else 3) |> applyOutcome g d.commit
    | none => s |> addOutcome g 6 |> enterDoubt g) s

/-- The mapping in use, whose CRC `DMC.MAP_CRC` holds, is applied again where the registers hold another (R133). -/
def applyMapInUse (s : State) : State :=
  if s.dram.mapInUse.isEmpty then s
  else
    { s with regs := s.regs.filter (fun e => !mapField e.1) }
      |> forEach s.dram.mapInUse (fun e s => { s with regs := insert (drop s.regs e.1) e.1 e.2 })

/-- A warm return begins (R286): self-refresh ends, the mapping in use applies, the domain's log is open again, and the
full recount runs. -/
def startWarm (s : State) : State :=
  { s with dram := { s.dram with selfRefresh := false },
           rng := { s.rng with logClosed := false },
           rsr := { s.rsr with outcomes := [], lost := [], rolledBack := 0 } }
    |> applyMapInUse
    |> setSavs (fun v => { v with warmStep := 1 })
    |> setSav 9 |> event 0x42 2
    |> startFullRecount false

/-- Step 4 of R286, with the run record. -/
def warmStep4 (s : State) : State :=
  s |> warmContexts |> writeRunRecord |> publishContinuity true
    |> setSavs (fun v => { v with warmStep := 2 })

/-- Step 5 of R286: the fence ends. (log entry 61: DEDUCED). -/
def warmStep5 (s : State) : State :=
  { s with eng := { s.eng with chargerHeld := false }, mrv := { s.mrv with firstCompare := true } }
    |> set Reg.SYS.PERSIST_FENCED 0 |> portsOpen
    |> setSavs (fun v => { v with warmStep := 0, resetFence := false })
    |> setSav 1 |> chargeShow |> mediaAll |> runWaiting
    |> when (paired s && twinAttached s) (leaveTwin 5)

/-- A chip reset is due: `MOD_RST_N` is asserted at its start (R494), the domains cycle at the next tick (R60). -/
def askReset (s : State) : State :=
  { s with pwr := { s.pwr with resetDue := true, modReset := true } } |> emit (.moduleReset true)

/-- The reset of a fenced chip (R277): DRAM in self-refresh, the reset, then the warm return, or without good VIN the save
path at once; a save whose manifest is programmed powers down (R294). -/
def fencedReset (s : State) : State :=
  let s := s |> enterSelfRefresh |> resetChip
  if s.pwr.recovery then s
  else if vinGoodNow s then s |> savOutcome 7 |> startWarm
  else if s.sav.manifestDone then s |> savOutcome 2 |> setSav 8 |> startDown
  else
    { s with dram := { s.dram with selfRefresh := false } }
      |> setSavs (fun v => { v with decided := now s, resetFence := false, dirty := dirtyEff s }) |> measureSave |> startSave

/-- The reset of a chip that has not admitted the host (R276): the restore starts again, or the power-down runs. -/
def disarmedReset (s : State) : State :=
  let s := s |> resetChip |> triggerBit 4
  if vinGoodNow s then { s with rsr := { s.rsr with restart := if restoring s then 1 else 0 } }
  else if goingDown s then s else s |> savOutcome 6 |> startDown

/-- The tick of a chip reset, after step 3 (R60, R277, R393). -/
def resetTick (s : State) : State :=
  if !s.pwr.resetDue then s
  else
    { s with pwr := { s.pwr with resetDue := false, modReset := false } }
      |> emit (.moduleReset false)
      |> (fun s => if savArmed s then fencedReset s else disarmedReset s)

/-- The end of the drain (R279, R280): the queues' writes are in DRAM and the reads answered; then the decision,
or the chip reset that brought the fence. It waits while a write waits for its rank's retraining (R151), and for a
channel that aborts (R94). (log entry 88: DEDUCED). -/
def drained (s : State) : State :=
  let s := drainWrites s
  if s.dram.writes.any (·.held) || s.frm.aborts.any (fun a => a.1 == 0x10 || (0x20 ≤ a.1 && a.1 < 0x30)) then s
  else
  { s with hp := { s.hp with reads := [], gpfWaiting := [] }, dram := { s.dram with reads := [] } }
    |> forEach s.hp.reads finishRead
    |> forEach s.hp.gpfWaiting (fun n => emit (.gpfAck n 2 false))
    |> setSavs (fun v => { v with drained := true })
    |> (fun s => if s.sav.resetFence then askReset s else decideSave s)

/-- A chip reset is asked for (R277, R295, R297): deferred during a save or ride; while DISARMED it restarts the
restore (R276). -/
def chipResetOp (s : State) : State :=
  if fenced s && savArmed s && savState s ≠ 9 then
    if savState s = 7 then s |> closeKey |> askReset
    else s |> closeKey |> triggerBit 4 |> setSavs (fun v => { v with deferredReset := true })
  else if savArmed s then s |> closeKey |> fence 4
  else s |> closeKey |> askReset

/-! ### The end of a save (R290, R294, R416) -/

/-- Power-down after the save. -/
def savePowerDown (outcome : Nat) (s : State) : State := s |> savOutcome outcome |> setSav 8 |> startDown

/-- The contexts of the safe state abort (R416). -/
def abortSafe (s : State) : State :=
  forEach (allCtx.filter (fun g => ctxState g s == 1 ||
      (ctxState g s == 2 && !s.txn.requests.any (fun r => r.ctx == g && r.balloted)))) startAbort s

/-- The kind of a save by the precedence of R294, as KIND of its manifest (R291): 4 emergency seal, 1 power failure, 3 flush. A
fence that only a chip reset brought saves when VIN fails (R277): a power failure. -/
def saveKind (s : State) : Nat :=
  if hasTrigger 3 s then 4
  else if hasTrigger 2 s && !([0, 1, 5, 6, 7] : List Nat).any (fun k => hasTrigger k s) then 3
  else 1

/-- The save ends after its manifest (R294), by the kind that has precedence. (log entry 43: DEDUCED). -/
def endSave (s : State) : State :=
  let good := vinGoodNow s
  let s := when (inSafe s) abortSafe s
  if !good then savePowerDown 2 s
  else if s.sav.deferredReset then s |> setSav 7 |> askReset
  else
    s |> setSavs (fun v => { v with vinFrames := 0 }) |> setSav 7 |> event 0x42 4
      |> savOutcome (if saveKind s = 1 then 0 else 4)

/-- The manifest of a save is programmed (R290): the Parison is the valid image, and what waited for it runs. -/
def manifestDone (a b : Bool) (s : State) : State :=
  let us := (now s - s.sav.t0) * 20
  s |> programManifest (buildManifest (saveKind s) (drawnMj s.eng.saveV0 s.eng.saveDrawn s) s) a b
    |> setSavs (fun v => { v with manifestDone := true })
    |> set Reg.SAV.STS_PARISON 0 |> event 0x42 3 |> inc Reg.SAV.COUNTS_SAVES
    |> set Reg.SAV.LAST_TIME_US us |> set Reg.SAV.LAST_GRAN_COUNT s.sav.sealed |> set Reg.SAV.LAST_LOST_COUNT 0
    |> endSave |> runWaiting

/-- A flush HOLD that may be left by a warm return (R294). -/
def flushHold (s : State) : Bool := savState s == 7 && hasTrigger 2 s && saveKind s == 3

/-- A HOLD ends in a warm return (R294). -/
def leaveHold (s : State) : State := s |> savOutcome 3 |> startWarm

end Sys2Proof.Machine
end

