-- ==== Sys2Proof/Machine/BootOps.lean ====
section
/-! DEFINITION. Power-on: the population found, what a loss of VAON takes, the steps of R483 and R508, the
default mapping, the end of a power-down (R1 to R4, R133 to R135, R386, R471, R483 to R488, R507, R508). -/

namespace Sys2Proof.Machine

/-! ### Population (R1 to R3, R97) -/

/-- Bits set among the low `w` bits. -/
def popCount (n w : Nat) : Nat := ((List.range w).filter (bitOf n)).length

/-- The population lies inside the table of R2, for a device that is paired or not. -/
def inLimits (paired : Bool) (x : PowerOnIn) : Bool :=
  x.exposedGib ≤ (if paired then 512 else 1024) && x.rawTib ≤ 64 &&
  x.hpEn != 0 && x.dramGroups != 0 && 1 ≤ x.ranksPerChannel && x.ranksPerChannel ≤ 4 &&
  2 ≤ popCount x.nandGroups.toNat 8 && 1 ≤ x.dies && x.dies ≤ 16 && 1 ≤ x.ces && x.ces ≤ 8 &&
  64 ≤ x.exposedGib

/-- A channel of the DRAM is populated. -/
def dramPresent (ch : Nat) (s : State) : Bool := bitOf (get Reg.SYS.CAPS_DRAM_GROUPS s) (ch / 4)

/-- Spare entries designated (R169). -/
def designatedSpares (s : State) : List Nat := (List.range 8).filter (fun m => isSet (Reg.SPR.SPARE_VALID m) s)

/-- The state of a populated rank at power-on (R169, R172): a spare that serves a rank is in service, the rank it serves
is retired. A designated spare that serves none is free, one that was itself retired too: the spec does not say (log
entry 109: DESIGN CHOICE). (log entry 109: DESIGN CHOICE). -/
def rankAtBoot (i : Nat) (s : State) : Nat :=
  match (designatedSpares s).find? (fun m => spareIndex m s == i) with
  | some m => if isSet (Reg.SPR.SPARE_IN_USE m) s then 1 else 2
  | none => if (spareFor (i / 4) (i % 4) s).isSome then 6 else 1

/-- A logical rank is in service: its own rank serves it, or a spare does. -/
def logicalServed (ch k : Nat) (s : State) : Bool :=
  let st := get (Reg.SPR.RANK_STATE (((spareFor ch k s).map (fun m => spareIndex m s)).getD (4 * ch + k))) s
  st == 1 || st == 3

/-- The logical ranks in service of each channel. -/
def ranksShow (s : State) : State :=
  forEach (List.range 16) (fun ch s =>
    set (Reg.DCH.STS_RANKS ch) ((List.range 4).foldl (fun n k => n + b2n (logicalServed ch k s) * 2 ^ k) 0) s) s

/-- The ranks found, and the logical ranks in service of each channel. -/
def ranksAtBoot (s : State) : State :=
  s |> forEach (List.range 64) (fun i s =>
        set (Reg.SPR.RANK_STATE i) (if dramPresent (i / 4) s && i % 4 < s.pwr.ranks then rankAtBoot i s else 0) s)
    |> ranksShow
    |> set Reg.SYS.CAPS_SPARE_RANKS (designatedSpares s).length

/-- Good blocks of the seal pool (R216). -/
def goodBlocks (s : State) : Nat :=
  4 * popCount (get Reg.SYS.CAPS_NAND_GROUPS s) 8 * diesPerChannel s * blocksPerDie s -
    s.nand.factory.length - s.nand.cullet.length

/-- The pool's figures from the blocks (R216, R217). -/
def poolAtBoot (s : State) : State :=
  let good := goodBlocks s
  let used := (s.nand.blocks.filter (fun b => b.2.pages != 0)).length
  s |> set Reg.NFC.POOL_BLOCKS good
    |> set Reg.NFC.REQUIRED_BLOCKS (ceilDiv (2 * exposedBytes s) (slcBlockBytes s) + 4)
    |> set Reg.NFC.ERASED_BLOCKS (good - 4 - used)
    |> set Reg.CUL.FACTORY_BLOCKS s.nand.factory.length
    |> poolShow |> culletShow

/-- The granule size in use: that of the image, or before the first initialisation the stored one (R4).
(log entry 5: DESIGN CHOICE). -/
def granAtBoot (s : State) : Nat :=
  match newestManifest s with
  | some m => m.granSize
  | none => get Reg.MRV.CFG_GRAN_SIZE s

/-- Entries of the Marver in use (R232); a twin's home takes as many as this device's own (log entry 31). -/
def mapAtBoot (s : State) : State :=
  let h := homeGranules s
  s |> set Reg.MRV.MAP_ENTRIES (if s.twn.stored then 2 * h else h) |> set Reg.MRV.MIRROR_BASE_INDEX h

/-- The fields that show population, and those whose reset value it gives. -/
def populate (x : PowerOnIn) (s : State) : State :=
  { s with
    nand := { s.nand with factory := if s.nand.initialised then s.nand.factory else x.factoryBad },
    pwr := { s.pwr with recStrap := x.recStrap, ntcFitted := x.ntc, ranks := x.ranksPerChannel,
                        factory := x.factoryBad, serial := x.serial, rtc := x.rtc,
                        identities := x.identities.map (fun c => (c.1.val, c.2)),
                        inLimits := inLimits (s.twn.nextPair.getD s.twn.stored) x } }
    |> set Reg.SYS.CAPS_HP_PRESENT x.hpEn.toNat |> set Reg.SYS.CAPS_HP_X16 x.hpX16.toNat
    |> set Reg.SYS.CAPS_DRAM_GROUPS x.dramGroups.toNat |> set Reg.SYS.CAPS_NAND_GROUPS x.nandGroups.toNat
    |> put1 Reg.SYS.CAPS_BATTERY x.battery |> put1 Reg.SYS.CAPS_TWIN x.twin |> put1 Reg.SYS.CAPS_RING x.ring
    |> set Reg.SYS.CAP_ACK_EXPOSED_GIB x.exposedGib
    |> put1 Reg.DMC.CFG_X8 x.x8 |> put1 Reg.DMC.CFG_DENSITY x.dense32
    |> (fun s => forEach (List.range 16) (fun ch => set (Reg.DCH.REF_TRFC_NS ch) (trfcDefault s)) s)
    |> set Reg.NFC.GEOM_A_PAGES x.pagesPerBlock |> set Reg.NFC.GEOM_A_BLOCKS x.blocksPerDie
    |> set Reg.NFC.GEOM_B_DIES x.dies |> set Reg.NFC.GEOM_B_CES x.ces |> set Reg.NFC.GEOM_B_PLANES x.planes
    |> set Reg.TRN.ID_LO_ID x.serial.toNat |> set Reg.TRN.ID_HI_ID (x.serial.toNat / 2 ^ 32)

/-! ### A loss of VAON (R53, R86, R462) -/

/-- Only what non-volatile storage holds outlives VAON: the flash, the code array, the settings store. -/
def loseVaon (s : State) : State :=
  let counted := s.hp.outageCounted && !(admittedNow s && !fenced s)
  let t := s |> carCut |> loseImage
  { t with
    regs := [], shadows := [], pools := [], frm := {},
    hp := { shutdownState := t.hp.shutdownState, dirtyShutdowns := t.hp.dirtyShutdowns, outageCounted := counted },
    sav := {}, eng := { slot0 := t.eng.slot0, slot1 := t.eng.slot1 }, rsr := { runRecord := t.rsr.runRecord }, pwr := {}, flt := {},
    car := { t.car with bank0 := {}, bank1 := {}, remaps := [] },
    upd := { t.upd with transfer := none, bootFrames := 0, okSeen := false, compacting := false, written := 0 },
    reqs := [] }

/-! ### The default mapping (R133 to R135) -/

/-- Aligned blocks of populated channels, the largest first: base and bits. -/
def channelBlocks (groups : Nat) : List (Nat × Nat) :=
  let has := fun (g : Nat) => bitOf groups g
  if groups = 15 then [(0, 4)]
  else
    let lo := has 0 && has 1
    let hi := has 2 && has 3
    (if lo then [(0, 3)] else []) ++ (if hi then [(8, 3)] else []) ++
    (if lo then [] else (if has 0 then [(0, 2)] else []) ++ (if has 1 then [(4, 2)] else [])) ++
    (if hi then [] else (if has 2 then [(8, 2)] else []) ++ (if has 3 then [(12, 2)] else []))

/-- The ranks that every channel of a block offers (R135). -/
def commonRanks (b : Nat × Nat) (s : State) : List Nat :=
  (List.range 4).filter (fun k =>
    (List.range (2 ^ b.2)).all (fun c =>
      rankUsable (b.1 + c, k) s && get (Reg.SPR.RANK_STATE (4 * (b.1 + c) + k)) s != 7))

/-- Aligned runs of ranks, the largest first: base and bits. -/
def rankRuns (ks : List Nat) : List (Nat × Nat) :=
  let has := fun (k : Nat) => ks.contains k
  if ks.length = 4 then [(0, 2)]
  else
    let lo := has 0 && has 1
    let hi := has 2 && has 3
    (if lo then [(0, 1)] else []) ++ (if hi then [(2, 1)] else []) ++
    (if lo then [] else (if has 0 then [(0, 0)] else []) ++ (if has 1 then [(1, 0)] else [])) ++
    (if hi then [] else (if has 2 then [(2, 0)] else []) ++ (if has 3 then [(3, 0)] else []))

/-- Default regions as (channel base, channel bits, rank base, rank bits), at most four. (log entry 93: DEDUCED). -/
def defaultRegions (s : State) : List (Nat × Nat × Nat × Nat) :=
  ((channelBlocks (get Reg.SYS.CAPS_DRAM_GROUPS s)).flatMap (fun b =>
    (rankRuns (commonRanks b s)).map (fun r => (b.1, b.2, r.1, r.2)))).take 4

/-- Log2 of a rank's bytes per subchannel (R128). -/
def rankLog2 (s : State) : Nat :=
  34 + b2n (isSet Reg.DMC.CFG_DENSITY s) - b2n (isSet Reg.DMC.CFG_X8 s)

/-- Write the default table (R134, R135) from region `m` and base `at_` in GiB. -/
def placeRegions : Nat → Nat → List (Nat × Nat × Nat × Nat) → State → State
  | _, _, [], s => s
  | m, at_, (cb, cn, rb, rn) :: rest, s =>
    let log := cn + 1 + rn + rankLog2 s
    s |> set (Reg.DMC.REGION_A_BASE_GIB m) at_ |> set (Reg.DMC.REGION_A_SIZE_LOG2 m) log
      |> set (Reg.DMC.REGION_A_VALID m) 1
      |> set (Reg.DMC.REGION_B_CH_BASE m) cb |> set (Reg.DMC.REGION_B_CH_BITS m) cn
      |> set (Reg.DMC.REGION_B_RANK_BASE m) rb |> set (Reg.DMC.REGION_B_RANK_BITS m) rn
      |> placeRegions (m + 1) (at_ + 2 ^ (log - 30)) rest

/-- `DMC.MAP_CHK` after a check (R132). -/
def mapChkShow (e : Option (Nat × Nat × Nat)) (s : State) : State :=
  let r := e.getD (0, 0, 0)
  s |> put1 Reg.DMC.MAP_CHK_OK e.isNone |> set Reg.DMC.MAP_CHK_CODE r.1
    |> set Reg.DMC.MAP_CHK_REGION r.2.1 |> set Reg.DMC.MAP_CHK_FIELD r.2.2

/-- The words of the masks and regions. -/
def mapWords (s : State) : List Nat :=
  (List.range 12).flatMap (fun k => [get (Reg.DMC.HASH_LO_MASK_LO k) s,
    get (Reg.DMC.HASH_HI_MASK_HI k) s + get (Reg.DMC.HASH_HI_HOME k) s * 256]) ++
  (List.range 4).flatMap (fun m => [
    get (Reg.DMC.REGION_A_BASE_GIB m) s + get (Reg.DMC.REGION_A_SIZE_LOG2 m) s * 2 ^ 16 +
      get (Reg.DMC.REGION_A_VALID m) s * 2 ^ 31,
    get (Reg.DMC.REGION_B_CH_BASE m) s + get (Reg.DMC.REGION_B_CH_BITS m) s * 16 +
      get (Reg.DMC.REGION_B_RANK_BASE m) s * 256 + get (Reg.DMC.REGION_B_RANK_BITS m) s * 1024])

/-- ENABLE of DMC is written 1 (R132): refused with MAP_REFUSED, or the block is enabled. The mapping in use is that of
the power-on, as long as DRAM holds the image (R133). -/
def enableDmc (w : Writer) (s : State) : State :=
  let e := checkMap s
  let s := mapChkShow e s
  match e with
  | some _ => s |> werrRange w 0x1000C |> event 0x10 0
  | none =>
    s |> set (Reg.BLKCTL_ENABLE 0x10) 1
      |> when (!admittedNow s || s.dram.mapInUse.isEmpty) (fun s =>
          { s with dram := { s.dram with mapInUse := s.regs.filter (fun e => mapField e.1) } }
            |> set Reg.DMC.MAP_CRC_CRC (Config.mapCrc (mapWords s)).toNat)

/-- Firmware loads the mapping at power-on, and the default one when ENABLE is refused with it (R133): the S1 event
carries the code of the refusal. -/
def bootMap (s : State) : State :=
  let code := ((checkMap s).map (·.1)).getD 0
  let s := enableDmc .gaffer s
  if isSet (Reg.BLKCTL_ENABLE 0x10) s then s
  else
    let s := { s with regs := s.regs.filter (fun e => !mapField e.1) }
    let s := placeRegions 0 0 (defaultRegions s) s
    let total := (regions s).foldl (fun n r => n + 2 ^ r.2.log2) 0
    let room := total / 2 ^ 30 / (if s.twn.stored then 2 else 1)
    let s := when (room < get Reg.SYS.CAP_ACK_EXPOSED_GIB s) (set Reg.SYS.CAP_ACK_EXPOSED_GIB room) s
    s |> mapAtBoot |> capDefaults |> enableDmc .gaffer |> raiseSimple 237 0 0 (code * 2) 0

/-! ### ENABLE (R4, R85, R216, R232) -/

/-- Two byte ranges have a byte in common. -/
def overlaps (a n b m : Nat) : Bool := decide (a < b + m) && decide (b < a + n)

/-- The spill region of a queue lies within the exposed capacity, off the undo region and the other queues' regions
(R434). (log entry 36: DESIGN CHOICE). -/
def spillFits (q : Nat) (s : State) : Bool :=
  let a := spillBase q s
  let n := spillSize q s
  decide (a + n ≤ exposedBytes s) && !overlaps a n (undoBase s) (undoSize s) &&
  (List.range 4).all (fun k => k == q || !overlaps a n (spillBase k s) (spillSize k s))

/-- ENABLE of a present page is written 1. -/
def enablePage (p : Nat) (w : Writer) (s : State) : State :=
  if p = 0x10 then enableDmc w s
  else if p = 0x40 && 16777216 < homeGranules s * (if s.twn.stored then 2 else 1) then werrRange w 0x4000C s
  else if p = 0x50 && !s.nand.initialised && get Reg.NFC.SPARE_PERMILLE s < 50 then
    s |> werrRange w 0x5000C |> (fun s => if s.pwr.recovery then s else recoveryMonitor 1 s)
  else if 0xA0 ≤ p && p < 0xA4 && !spillFits (p - 0xA0) s then werrRange w (p * 4096 + 0xC) s
  else set (Reg.BLKCTL_ENABLE p) 1 s

/-- At first initialisation each spill region takes 64 MiB in the top 256 MiB of the exposed capacity, GQ0 to GQ3
ascending, and the values are stored (R434). (log entry 36: DESIGN CHOICE). -/
def placeSpill (s : State) : State :=
  if s.nand.initialised || (List.range 4).any (fun q => get (Reg.GQ.SPILL_BASE_BASE_MIB q) s != 0) then s
  else
    forEach (List.range 4) (fun q s =>
      let mib := get Reg.SYS.CAP_ACK_EXPOSED_GIB s * 1024 - 256 + 64 * q
      s |> set (Reg.GQ.CFG_SPILL_MIB q) 64 |> storeSetting (Reg.GQ.CFG_SPILL_MIB q) 64
        |> set (Reg.GQ.SPILL_BASE_BASE_MIB q) mib |> storeSetting (Reg.GQ.SPILL_BASE_BASE_MIB q) mib) s

/-- The pages whose blocks a step of R483 brings into work: 3 the always-on island, the fabric's own and the queues,
5 the links, 6 DRAM and flash, 7 the Marver, the seal engines and the contexts, 8 the twin. (log entry 114: DEDUCED). -/
def stepPages (n : Nat) : List Nat :=
  if n = 5 then [0x08, 0x09, 0x0A, 0x0B, 0xC0, 0xD0, 0xD1]
  else if n = 6 then [0x10, 0x11, 0x12] ++ (List.range 16).map (· + 0x20) ++ [0x50, 0x51] ++ (List.range 32).map (· + 0x60)
  else if n = 7 then (List.range 9).map (· + 0x40)
  else if n = 8 then [0xC1]
  else [0x00, 0x01, 0x02, 0x03, 0x0C, 0x80, 0x81, 0x82] ++ (List.range 8).map (· + 0x90) ++
    [0xA0, 0xA1, 0xA2, 0xA3, 0xB0, 0xB1, 0xB2]

/-- The controller enables the present blocks of a step during power-on (R85). -/
def enablePages (n : Nat) (s : State) : State :=
  forEach (stepPages n) (fun p s =>
    if pageDark p s then s else if p = 0x10 then bootMap s else enablePage p .gaffer s) s

/-! ### The pairing and the gauge at power-on (R257, R332, R340) -/

/-- A pairing or its removal takes effect at this power-on (R332, R334). -/
def pairAtBoot (s : State) : State :=
  let fresh := s.twn.nextPair == some true
  let s := { s with twn := { s.twn with stored := s.twn.nextPair.getD s.twn.stored, nextPair := none,
                                        fresh := fresh || s.twn.fresh,
                                        waitLeft := some (get Reg.TWN.WAIT_BOOT_FRAMES s) } }
  s |> put1 Reg.TWN.STS_PAIRED s.twn.stored
    |> set Reg.TWN.STS_STATE (if s.twn.stored then 1 else 0)
    |> when fresh (fun s => s |> setGen Reg.TWN.HOME_GEN_VALUE 0 |> setGen Reg.TWN.MIRROR_GEN_VALUE 0
        |> setGen Reg.TWN.HOME_AGREED_VALUE 0 |> setGen Reg.TWN.MIRROR_AGREED_VALUE 0)
    |> twinIndicate

/-- A pack is present: RESTING, with the rest timer (R257). -/
def batteryIn (s : State) : State :=
  s |> set Reg.SYS.CAPS_BATTERY 1
    |> set Reg.ENG.CAP_LEARNED_MAH (min (learnedMah s) (get Reg.ENG.CAP_LEARNED_RATED_MAH s))
    |> set Reg.ENG.STATE_BAT 1 |> set Reg.ENG.STATE_REST_LEFT 3000000
    |> (fun s => { s with eng := { s.eng with discharge := none } }) |> chargeShow

/-- The charger is enabled, and the bank's detection begins (R251). -/
def enableCharger (s : State) : State :=
  { s with eng := { s.eng with chargerFrom := s.pwr.sinceVaon, bankSeen := false, chargerHeld := false } }

/-! ### The steps (R483, R508) -/

/-- Step 2: the reaction-path self-test; its failure raises source 329 and holds `PERSIST_OK` low. -/
def reactionTest (ok : Bool) (s : State) : State :=
  s |> set Reg.SYS.BOOT_STAGE 2 |> when (!ok) (raiseHeld 329 0 0 0 0)

/-- Step 3: the rails, once VIN is good. -/
def startRails (vinGood : Bool) (s : State) : State :=
  let s := set Reg.SYS.BOOT_STAGE 3 s
  if vinGood then startUp .up { s with pwr := { s.pwr with waitVin := false } }
  else { s with pwr := { s.pwr with waitVin := true } }

/-- The minimal set comes up and the recovery monitor runs (R386, R458, R493). (log entry 47: DEDUCED). -/
def minimalBoot (cause : Nat) (s : State) : State :=
  s |> set Reg.PWR.BOOT_MINIMAL 1 |> recoveryMonitor cause
    |> (fun s => startUp .minimal { s with pwr := { s.pwr with waitVin := false } })

/-- What leads to the recovery monitor before the rails: the option area (R458), the strap (R493), the population (R3).
Where several hold, source 336 carries the first of them: the spec names no order (log entry 104: DESIGN CHOICE). -/
def bootCause (s : State) : Option Nat :=
  if isSet Reg.CAR.OPT_STS_DEFAULTED s then some 3
  else if s.pwr.recStrap then some 4
  else if !s.pwr.inLimits then some 1
  else none

/-- `MOD_RST_N` is released (R494). -/
def releaseModule (s : State) : State :=
  if s.pwr.modReset then { s with pwr := { s.pwr with modReset := false } } |> emit (.moduleReset false) else s

/-- VAON appears (R483). -/
def powerOn (x : PowerOnIn) (s : State) : State :=
  let s := { s with pwr := { s.pwr with vaon := true } }
    |> populate x
    |> (fun s => forEach s.upd.settings (fun e s => { s with regs := insert (drop s.regs e.1) e.1 e.2 }) s)
    |> (fun s => set Reg.MRV.CFG_GRAN_IN_USE (granAtBoot s) s)
    |> ranksAtBoot |> poolAtBoot |> pairMax |> capDefaults
    |> (fun s => set Reg.SCR.RATE_LINES (scrubRate s) s)
    |> set Reg.SYS.BOOT_STAGE 1
    |> loadOption x.optBadA x.optBadB
    |> enableCharger |> loadLearned
    |> (fun s => if x.battery then batteryIn s else s)
    |> updShow |> setShow |> releaseModule
    |> reactionTest x.selftestOk
  match bootCause s with
  | some c => if x.vinGood then minimalBoot c s else { s with pwr := { s.pwr with waitVin := true } } |> recoveryMonitor c
  | none => startRails x.vinGood s

/-- The start after a power-down with VAON present, or the chip reset of R389 (R508). (log entry 72: DEDUCED). -/
def restartBoot (badA badB testOk : Bool) (s : State) : State :=
  let s := { s with
      pwr := { s.pwr with waitVin := false, attempts := 0, cold := false, recovery := false, firmware := false },
      sav := { s.sav with drained := false, warmStep := 0, waitingActs := [], deferredReset := false },
      rsr := { runRecord := s.rsr.runRecord, coldReset := s.rsr.coldReset } }
    |> carCut |> unlockAll |> clearS4 |> leaveSafe |> set Reg.FLT.PINCTL_HW_HOLD 0 |> pinFollow
    |> forEach (persistingS4 s) raiseAgain
    |> set Reg.SYS.BOOT_STAGE 1 |> set Reg.SYS.BOOT_COLD 1
    |> set Reg.SYS.PERSIST_BOOT 1
    |> loadOption badA badB |> releaseModule
    |> reactionTest testOk
  match bootCause s with
  | some c => minimalBoot c s
  | none => startRails true s

/-- The domains of the present units are on and their blocks come up (R384, R85, R471). -/
def bringUp (s : State) : State :=
  let s := s |> domainsUp |> event 0x81 0 |> set Reg.PWR.STS_STATE 2
    |> (fun s => { s with pwr := { s.pwr with attempts := 0 } })
    |> set Reg.SYS.BOOT_STAGE 4
    |> pairAtBoot |> mapAtBoot
    |> (fun s => set Reg.MRV.CFG_GRAN_IN_USE (granAtBoot s) s) |> mapAtBoot |> pairMax |> capDefaults
    |> ranksAtBoot |> poolAtBoot
    |> placeSpill |> enablePages 3
  let s := bootSelect s
  if s.pwr.recovery then s
  else
    s |> updShow |> setShow |> lockPages |> enablePages 5
      |> set Reg.SYS.BOOT_STAGE 6 |> enablePages 6
      |> (fun s => if s.pwr.recovery then s else advanceUp s)

/-- The domains whose supply the minimal set carries: all but the PHYs of VDD_HSPHY (R380, R382).
(log entry 47: DEDUCED). -/
def minimalUp (s : State) : State :=
  let s := { s with pwr := { s.pwr with seq := .none } }
  s |> forEach ((List.range 52).filter (fun d => domainPresent d s && !(4 ≤ d && d < 8) && d != 9)) domainUp
    |> set Reg.PWR.STS_STATE 6 |> enablePages 3
    |> forEach [0, 1, 2, 3] (fun n => when (portUsed n s) (set (Reg.HPT.STS_MEDIA n) 2))

/-- The domains return from a ride (R284): the save begins, or the warm return. -/
def wakeUp (s : State) : State :=
  let s := { s with pwr := { s.pwr with seq := .none } }
    |> forEach [38, 39, 40, 41] (fun d => setDomain d 0)
    |> domainsUp |> set Reg.PWR.STS_STATE 2
    |> (fun s => { s with dram := { s.dram with selfRefresh := false } })
  if savState s = 9 then startWarm s else if savState s = 5 then startSave s else s

/-- The tick at which the domains switch on (R384). -/
def domainsTick (s : State) : State :=
  if !s.pwr.domainsDue then s
  else
    let s := { s with pwr := { s.pwr with domainsDue := false } }
    match s.pwr.seq with
    | .wake => wakeUp s
    | .minimal => minimalUp s
    | _ => bringUp s

/-! ### The end of a power-down (R267, R386, R389, R508) -/

/-- The save's sample of R267 at the end of its power-down. -/
def takeSample (s : State) : State :=
  if savState s = 8 && s.sav.manifestDone && s.eng.vinNotGood then
    { s with eng := { s.eng with saveSample := some (drawnMj s.eng.saveV0 s.eng.saveDrawn s, s.sav.sealed) } }
  else s

/-- What follows a completed power-down: a cold reset starts again at once, the last failed boot attempt brings
up the minimal set, and else the controller waits. -/
def afterDown (before after : State) : State :=
  if before.pwr.waitVin || !after.pwr.waitVin then after
  else
    let s := after |> takeSample |> set Reg.SAV.STS_ARMED 0 |> setSav 0
    if s.pwr.cold then restartBoot false false true s
    else if get Reg.PWR.BOOT_ATTEMPTS s ≤ s.pwr.attempts && !minimalRail (get Reg.PWR.FAIL_RAIL s) then
      minimalBoot 6 s
    else s

/-- Run a part of the power-down, with what follows its end. -/
def goDown (f : State → State) (s : State) : State := afterDown s (f s)

/-- A new boot attempt (R386). (log entry 46: DEDUCED). -/
def retryBoot (s : State) : State :=
  let s := { s with pwr := { s.pwr with waitVin := false } }
  s |> set Reg.SYS.BOOT_STAGE 3 |> startUp .up

end Sys2Proof.Machine
end

