-- ==== Sys2Proof/Machine/BlockOps.lean ====
section
/-! DEFINITION. Abort, reset, freeze and enable of a block page (R83, R91 to R96), injections (R88 to R90), and
the chapters' words on what an abort leaves (R150, R174, R226, R248, R273, R298, R326, R351, R377, R396, R443,
R461, R480). -/

namespace Sys2Proof.Machine

/-- The address of `BLKCTL` of a page. -/
def ctlAddr (p : Nat) : Nat := p * 4096 + 0xC

/-! ### Fields as they read, and the tick source -/

/-- The pending value of a class F field, if it has one: the later of two (R68). -/
def pendingOfField (f : Fld) (s : State) : Option Nat :=
  ((s.shadows.filter (fun h => h.f.key == f.key)).getLast?).map (·.value)

/-- What a read of a field returns (R68). -/
def shown (f : Fld) (s : State) : Nat := (pendingOfField f s).getD (get f s)

/-- The share of task n, DRAM or NAND. -/
def shareFld (nand : Bool) (n : Nat) : Fld := if nand then Reg.FRM.BUDGET_NAND_SHARE n else Reg.FRM.BUDGET_DRAM_SHARE n

/-- The shares of the ten tasks together, pending values counted. -/
def shareSum (nand : Bool) (s : State) : Nat := (List.range 10).foldl (fun n k => n + shown (shareFld nand k) s) 0

/-- The sums shown (R75). -/
def sumShow (s : State) : State :=
  s |> set Reg.FRM.SUM_DRAM_SUM (shareSum false s) |> set Reg.FRM.SUM_NAND_SUM (shareSum true s)

/-- The mode of the tick source takes a value (R57). -/
def applySrcMode (s : State) : State :=
  if get Reg.FRM.SRC_MODE s = 0 then
    { s with frm := { s.frm with adopt := none, lengthening := false } }
      |> set Reg.FRM.SRC_STATE 0 |> set Reg.FRM.SYNC_LOCK_RUN 0 |> set Reg.FRM.SYNC_MISSED 0 |> liveFall 165
  else s |> set Reg.FRM.SRC_STATE 1 |> set Reg.FRM.SYNC_LOCK_RUN 0 |> set Reg.FRM.SYNC_MISSED 0

/-! ### Injections (R88 to R90) -/

/-- The k-th source of a page (R504). -/
def pageSource (p k : Nat) : Option Nat := (pageSources p)[k]?

/-- The injection of a page ends: a held one releases its source (R90). -/
def endInjection (p : Nat) (s : State) : State :=
  let held := s.flt.injections.filter (fun j => j.1 == p && j.2.2 == 1)
  { s with flt := { s.flt with injections := s.flt.injections.filter (fun j => j.1 != p) } }
    |> forEach held (fun j => liveFall j.2.1) |> set (Reg.FINJ_ACTIVE p) 0

/-- An injected detection is handled as a real one (R90): a residue error of the budget arithmetic takes the budget as
0 (R48). -/
def injectRaise (n : Nat) (hold : Bool) (s : State) : State :=
  s |> raise { n := n, injected := true, hold := hold } |> when (n == 184) zeroBudget

/-- An injection begins: MODE 0 once, 1 held, 2 at the next check of the source. -/
def startInjection (p n mode : Nat) (s : State) : State :=
  let s := endInjection p s
  if mode = 0 then injectRaise n false s
  else
    { s with flt := { s.flt with injections := s.flt.injections ++ [(p, n, mode)] } }
      |> set (Reg.FINJ_ACTIVE p) 1
      |> when (mode == 1) (injectRaise n true)

/-- The path of a source is checked: an injection of MODE 2 that waits for it corrupts the check, and is spent (R83,
R90). -/
def checkInjection (n : Nat) (s : State) : State :=
  if s.flt.injections.any (fun j => j.2.1 == n && j.2.2 == 2) then
    let mine := s.flt.injections.filter (fun j => j.2.1 == n && j.2.2 == 2)
    { s with flt := { s.flt with injections := s.flt.injections.filter (fun j => !(j.2.1 == n && j.2.2 == 2)) } }
      |> forEach mine (fun j => set (Reg.FINJ_ACTIVE j.1) 0)
      |> injectRaise n false
  else s

/-- The address of `FINJ` of a page. -/
def finjAddr (p : Nat) : Nat := p * 4096 + 0x30

/-- ARM takes effect as SRC and MODE select (R89, R90). (log entry 49: DEDUCED). -/
def armInjection (w : Writer) (p : Nat) (s : State) : State :=
  if !isSet Reg.SAF.FINJ_KEY_OPEN s then werrLocked w (finjAddr p) s
  else
    match pageSource p (get (Reg.FINJ_SRC p) s) with
    | none => werrRange w (finjAddr p) s
    | some n => startInjection p n (get (Reg.FINJ_MODE p) s) s

/-- `FINJ` may be written: the page is not locked (R88) and no fence is active (R90). -/
def finjOpen (w : Writer) (p : Nat) (k : State → State) (s : State) : State :=
  if isSet (Reg.LOCK_LOCK p) s then werrLocked w (finjAddr p) s
  else if fenced s then werrBusy w (finjAddr p) s
  else k s

/-- A write of `FINJ`, field by field (R71, R83): SRC, MODE without 11, ARM, DISARM. (log entry 49: DEDUCED). -/
def writeFinj (w : Writer) (p v : Nat) : State → State :=
  finjOpen w p (fun s =>
    s |> set (Reg.FINJ_SRC p) (bitsOf v 0 6)
      |> (fun s => if bitsOf v 6 2 = 3 then werrRange w (finjAddr p) s else set (Reg.FINJ_MODE p) (bitsOf v 6 2) s)
      |> when (bitOf v 8) (armInjection w p) |> when (bitOf v 9) (endInjection p))

/-! ### Abort (R92 to R96) -/

/-- An aborted code-array operation (R95): an erase leaves ERASE_INCOMPLETE, a program an unreliable word. -/
def cancelCar (b : Nat) (s : State) : State :=
  let k := carBank b s
  let s := forEach ([k.op, k.under].filterMap id) (fun x s =>
    let block := 256 * b + x.block % 256
    let s := s |> carFlag b (if x.kind = 2 then 8 else 4) |> set (Reg.CAR.BANK_STS_MODE b) 1
    if optBase ≤ x.word then s
    else if x.kind = 2 then { s with car := { s.car with eraseIncomplete := addNat s.car.eraseIncomplete block } }
    else s |> spoilWord x.word
           |> (fun s => { s with car := { s.car with unreliable := addNat s.car.unreliable block } })) s
  s |> setCarBank b { k with op := none, under := none, step := 0 } |> carShow b

/-- Records under way on the channels that `p` selects are abandoned (R226). (log entry 63: DEDUCED). -/
def abandonOn (p : Nat → Bool) (s : State) : State :=
  forEach ((s.nand.sealing.filter (fun r => p r.loc.ch)).map (·.granule)) abandonSeal s

/-- A read entry that was not issued returns to its port, where it waits for room (R41, R150); an engine asks again. -/
def unqueueRead (r : REntry) (s : State) : State :=
  match r.who with
  | .host port tag =>
    { s with hp := { s.hp with
        reads := s.hp.reads.filter (fun w => !(w.port == port && w.tag == tag && w.data.isNone)),
        stalled := s.hp.stalled ++ [{ port := port, tag := tag, line := r.line, be := none, data := 0, ctx := none,
                                      why := .pool r.ch r.sub }] } }
  | .engine _ => s

/-- A channel completes its write entries and the reads issued, and closes its rows; a blocked rank is released and
returns to its last-known-good settings (R95, R150). -/
def idleChannel (ch : Nat) (s : State) : State :=
  let mine := s.dram.writes.filter (fun e => e.ch == ch)
  let reads := s.dram.reads.filter (fun r => r.ch == ch)
  let back := s.dram.lastGood.filter (fun e => e.1 / 4 == ch && s.dram.retraining.contains e.1)
  let s := forEach (mine.filter (!·.issued)) landWrite s
  { s with dram := { s.dram with
      writes := s.dram.writes.filter (fun e => e.ch != ch),
      rows := s.dram.rows.filter (fun r => r.ch != ch),
      settings := s.dram.settings.filter (fun e => !back.any (·.1 == e.1)) ++ back,
      retraining := s.dram.retraining.filter (fun i => i / 4 != ch),
      retrainWaiting := s.dram.retrainWaiting.filter (fun i => i.1 / 4 != ch) } }
    |> forEach (reads.filter (·.issued)) (fun r s => s |> endReads r.line |> serveReads r.line)
    |> forEach (reads.filter (fun r => !r.issued)) unqueueRead
    |> setReads (s.dram.reads.filter (fun r => r.ch != ch))
    |> depthShow ch |> set (Reg.DCH.STS_MODE ch) 0

/-- A port completes what it can and holds nothing more (R93): the reads it has are answered, the completions that wait
for nothing are sent, and a request that waits inside the port has had no effect and gets no answer (R10).
(log entry 18: DEDUCED). -/
def idlePort (n : Nat) (s : State) : State :=
  let reads := s.hp.reads.filter (·.port == n)
  let sent := s.hp.writes.filter (fun w => w.port == n && w.seq.isNone)
  { s with hp := { s.hp with
      reads := s.hp.reads.filter (·.port != n), writes := s.hp.writes.filter (·.port != n),
      stalled := s.hp.stalled.filter (·.port != n), credits := modify s.hp.credits n (fun _ => 0) },
           dram := { s.dram with reads := s.dram.reads.filter (fun r =>
             match r.who with
             | .host port _ => port != n
             | .engine _ => true) } }
    |> forEach reads finishRead
    |> forEach sent (fun w => emit (if w.mailbox then .mailbox w.port 0 [] else .writeDone w.port w.tag))
    |> forEach (List.range 16) depthShow

/-- What a block does to reach idle. -/
def idleBlock (p : Nat) (s : State) : State :=
  if p = 3 then { s with hp := { s.hp with finding := false } }
  else if 8 ≤ p && p < 0xC then idlePort (p - 8) s
  else if 0x20 ≤ p && p < 0x30 then idleChannel (p - 0x20) s
  else if p = 0x10 then { s with dram := { s.dram with xlateBusy := false } }
  else if p = 0x44 then
    forEach (allCtx.filter (fun g => ctxState g s == 2 &&
      !s.txn.requests.any (fun r => r.ctx == g && r.balloted))) discardRequest s
  else if p = 0x50 then
    s |> abandonOn (fun _ => true) |> dropMoves |> (fun s => { s with nand := { s.nand with checkpoint := none } })
  else if 0x60 ≤ p && p < 0x80 then abandonOn (fun ch => ch == p - 0x60) s
  else if p = 0x40 then { s with mrv := { s.mrv with peeking := false } }
  else if p = 0x41 then abandonAll s
  else if p = 0x80 then s |> endCapTest |> endExercise 2
  else if p = 0x43 then
    if restoring s && !admittedNow s then setInflight [] s else s
  else if p = 0xC0 then retrainPunty s
  else if p = 0xC1 then
    let copying := s.twn.copying
    { s with twn := { s.twn with copying := [], hello := none, planned := false, copies := [] } } |> forEach copying setTwinDirty
  else if 0xA0 ≤ p && p < 0xA4 then flushPacking (p - 0xA0) s
  else if p = 0xB0 then s |> cancelCar 0 |> cancelCar 1
  else if p = 0xB1 then endTransfer s
  else if p = 0xB2 then { s with upd := { s.upd with compacting := false } }
  else s

/-- An abort or a reset of a block starts (R92, R96); a second ABORT is ignored, and a RESET restarts the
bound. (log entry 18: DEDUCED). -/
def startAbort' (p : Nat) (reset : Bool) (s : State) : State :=
  let s := when reset (fun s => { s with shadows := s.shadows.filter (fun h => h.f.addr / 4096 != p) }) s
  match s.frm.aborts.find? (·.1 == p) with
  | some a =>
    let l := s.frm.aborts.map (fun b => if b.1 = a.1 then (p, 3, true) else b)
    if reset then { s with frm := { s.frm with aborts := l } } else s
  | none =>
    { s with frm := { s.frm with aborts := s.frm.aborts ++ [(p, 3, reset)] } }
      |> set (Reg.BLKSTS_ABORTING p) 1 |> set (Reg.BLKSTS_ABORT_DONE p) 0 |> set (Reg.BLKSTS_FROZEN p) 0
      |> idleBlock p

/-- ABORT or RESET is written (R94, R95). -/
def writeAbort (w : Writer) (p : Nat) (reset : Bool) (s : State) : State :=
  if fenced s then werrBusy w (ctlAddr p) s
  else if p = 0x43 && admittedNow s && rsrStage s = 8 && !allRestored s then werrBusy w (ctlAddr p) s
  else startAbort' p reset s

/-- The read-only fields of a page that hold what has been, which no state of the block gives again after a RESET.
(log entry 23: DEDUCED). -/
def latchedFields (p : Nat) : List Fld :=
  Reg.FRAME_STAMP_FRAME p ::
  (if p = 0 then [Reg.SYS.PERSIST_CHG_FRAME, Reg.SYS.BOOT_MS_ADMIT, Reg.SYS.BOOT_MS_IMAGE_S]
  else if p = 1 then [Reg.FRM.SYNC_PHASE_ERR, Reg.FRM.SYNC_MISSED, Reg.FRM.SYNC_LOCK_RUN, Reg.FRM.RING_DELAY_DELAY] ++
    (List.range 16).map Reg.FRM.OVERRUN_WINDOW
  else if p = 2 then [Reg.CLK.XTAL_PPM_X10, Reg.CLK.XTAL_FRAME_FRAME]
  else if p = 3 then [Reg.IRQ.FIND_RES_PAGE, Reg.IRQ.FIND_RES_DONE, Reg.IRQ.FIND_RES_FOUND]
  else if 8 ≤ p && p < 0xC then [Reg.HPT.BW_RD_LINES (p - 8), Reg.HPT.BW_WR_LINES (p - 8)]
  else if p = 0x10 then [Reg.DMC.MAP_CHK_OK, Reg.DMC.MAP_CHK_CODE, Reg.DMC.MAP_CHK_REGION, Reg.DMC.MAP_CHK_FIELD,
    Reg.DMC.XLATE_RES_CH, Reg.DMC.XLATE_RES_SUB, Reg.DMC.XLATE_RES_RANK, Reg.DMC.XLATE_RES_BG, Reg.DMC.XLATE_RES_BANK,
    Reg.DMC.XLATE_RES_COL, Reg.DMC.XLATE_RES_VALID, Reg.DMC.XLATE_RES_OUT_OF_RANGE, Reg.DMC.XLATE_ROW_ROW]
  else if 0x20 ≤ p && p < 0x30 then [Reg.DCH.TEMP_TEMP (p - 0x20)]
  else if p = 0x11 then (List.range 64).map Reg.SPR.RANK_CE_WIN
  else if p = 0x12 then [Reg.SCR.LAST_PASS_FRAME]
  else if p = 0x50 then [Reg.NFC.CKPT_FRAME_FRAME]
  else if p = 0x51 then [Reg.CUL.LAST_FRAME_FRAME]
  else if p = 0x40 then [Reg.MRV.RC_LAST_ACCUM, Reg.MRV.PEEK_ENTRY, Reg.MRV.PEEK_CHECK, Reg.MRV.PEEK_VALID]
  else if p = 0x41 then [Reg.LEH.RATE_SEALED, Reg.LEH.RATE_NEW_DIRTY]
  else if p = 0x42 then [Reg.SAV.LAST_TRIG_TRIGGER, Reg.SAV.LAST_TRIG_OUTCOME, Reg.SAV.LAST_TRIG_OK_AT_FENCE,
    Reg.SAV.LAST_TRIG_PRESEAL, Reg.SAV.LAST_FRAME_FRAME, Reg.SAV.LAST_TIME_US, Reg.SAV.LAST_RIDE_MS,
    Reg.SAV.LAST_GRAN_COUNT, Reg.SAV.LAST_LOST_COUNT]
  else if p = 0x43 then [Reg.RSR.EST_MS]
  else if 0x60 ≤ p && p < 0x80 then [Reg.NCH.UTIL_PERMILLE (p - 0x60)]
  else if p = 0x80 then [Reg.ENG.EXERCISE_RESULT]
  else if p = 0x90 then [Reg.FLT.FIRST_ID_ID, Reg.FLT.FIRST_ID_SEV, Reg.FLT.FIRST_ID_VALID,
    Reg.FLT.FIRST_ID_FIRST_SELF_CLEARED, Reg.FLT.FIRST_FRAME_LO_FRAME, Reg.FLT.FIRST_FRAME_HI_FRAME, Reg.FLT.OVF_OVF,
    Reg.FLT.OVF_COUNT_COUNT] ++ (List.range 4).map Reg.FLT.FIRST_SNAP_DATA
  else if p = 0x97 then [Reg.SAF.ST_LAST_FRAME, Reg.SAF.SAFE_FRAME_FRAME]
  else if p = 0xB0 then [Reg.CAR.BLKQ_TALLY, Reg.CAR.BLKQ_PROTECTED, Reg.CAR.BLKQ_ERASE_INCOMPLETE,
    Reg.CAR.BLKQ_UNRELIABLE, Reg.CAR.BLKQ_REMAPPED, Reg.CAR.BLKQ_SPARE, Reg.CAR.BLKQ_BAD_NO_SPARE, Reg.CAR.BLKQ_VALID]
  else if p = 0xB1 then [Reg.UPD.STS_RESULT, Reg.UPD.STS_SETTINGS_DEFAULTED, Reg.UPD.STS_REVERTED, Reg.UPD.STS_REJECTED]
  else if p = 0xC0 then [Reg.PNT.BW_TX_FLITS, Reg.PNT.BW_RX_FLITS]
  else if p = 0xC1 then [Reg.TWN.STS_RESULT]
  else if p = 0xD0 then [Reg.TRN.CIRC_A_NS, Reg.TRN.CIRC_B_NS]
  else if p = 0xD1 then [Reg.DOM.FORCE_RESULT, Reg.DOM.LAST_FENCE_INDEX, Reg.DOM.LAST_FENCE_FRAME_FRAME]
  else [])

/-- The fields that a RESET leaves: `LOCK`, the contexts of TXC, and the read-only fields that the block's own state
gives, at whose values the block arrives at once. (log entry 23: DEDUCED). -/
def resetKeeps (p : Nat) : List Nat :=
  (Reg.LOCK_LOCK p).key ::
  (((headerFields p ++ pageFields p).filter (fun d => (d.acc == .ro && !((latchedFields p).map (·.key)).contains d.f.key) ||
    (0x45 ≤ p && p < 0x49 && 0x100 ≤ d.f.addr % 4096))).map (fun d => d.f.key))

/-- Every field of the page returns to its reset value (R83). (log entry 23: DEDUCED). -/
def resetPage (p : Nat) (s : State) : State :=
  s |> endInjection p |> freshPage p (resetKeeps p)
    |> when (p == 1) (fun s =>
        { s with frm := { s.frm with windows := List.replicate 16 [] } } |> sumShow |> applySrcMode)
    |> when (0xA0 ≤ p && p < 0xA4) (fun s => s |> queueReset (p - 0xA0) |> queueShow (p - 0xA0))
    |> when (p == 0xA2) (fun s => s |> serveWaiting |> queueShow 2)

/-- The pools of a page hold their SIZE again (R45). -/
def balancePools (p : Nat) (s : State) : State :=
  forEach (poolOffsets p) (fun o s =>
    if (poolOf (poolAddr p o) s).skew = 0 then s else setPool (poolAddr p o) (fun q => { q with skew := 0 }) s) s

/-- An abort ends (R92): its own pools' credits are all back (R45), fields take their reset values after a RESET, and a
restore starts over at the next tick (R95). (log entry 18: DEDUCED). -/
def endAbort (p : Nat) (s : State) : State :=
  match s.frm.aborts.find? (·.1 == p) with
  | none => s
  | some a =>
    { s with frm := { s.frm with aborts := s.frm.aborts.filter (·.1 != p) } }
      |> balancePools p
      |> when a.2.2 (resetPage p)
      |> set (Reg.BLKSTS_ABORTING p) 0 |> set (Reg.BLKSTS_ABORT_DONE p) 1
      |> (fun s => set (Reg.BLKSTS_FROZEN p) (get (Reg.BLKCTL_FREEZE p) s) s)
      |> when (p == 0x43 && restoring s && !admittedNow s) (fun s => { s with rsr := { s.rsr with restart := 1 } })

/-! ### FREEZE and ENABLE (R69, R74, R83, R91, R133) -/

/-- FREEZE is written (R91). -/
def writeFreeze (w : Writer) (p : Nat) (on : Bool) (s : State) : State :=
  if on && freezeRefused p then werrRange w (ctlAddr p) s
  else
    s |> put1 (Reg.BLKCTL_FREEZE p) on |> when (!on) (set (Reg.BLKSTS_FROZEN p) 0)

/-- The domain whose request field a key is. -/
def requestDomain (f : Fld) : Option Nat :=
  if f.lo = 0 ∧ (Reg.PDM.DOM_CTL_REQ 0).addr ≤ f.addr ∧ f.addr < (Reg.PDM.DOM_CTL_REQ 52).addr then
    some ((f.addr - (Reg.PDM.DOM_CTL_REQ 0).addr) / 4)
  else none

/-- A class F value takes effect (R68): what follows from it in the same step; a domain's request is carried out at the
tick, after the shadows (R60). -/
def followField (f : Fld) (s : State) : State :=
  if f.key = Reg.SCR.PERIOD_HOURS.key then set Reg.SCR.RATE_LINES (scrubRate s) s
  else if f.key = Reg.DOM.CFG_MEMBERS.key then storeSetting f (get f s) s
  else if f.key = Reg.TWN.CFG_ACK_MODE.key then twinIndicate s
  else if f.key = Reg.SPR.RATE_MBS.key then etaShow s
  else if f.key = Reg.SPR.CFG_AUTO_MIGRATE.key then autoRetire s
  else
    match requestDomain f with
    | some d => { s with pwr := { s.pwr with requests := s.pwr.requests ++ [(d, get f s)] } }
    | none => s

/-- A shadow is applied. -/
def applyShadow (h : Shadow) (s : State) : State := s |> set h.f h.value |> followField h.f

/-- Pending shadows of a page apply, and `FRAME_STAMP` takes the frame (R68, R74). -/
def applyPage (p : Nat) (s : State) : State :=
  let mine := s.shadows.filter (fun h => h.f.addr / 4096 == p)
  if mine.isEmpty then s
  else
    { s with shadows := s.shadows.filter (fun h => h.f.addr / 4096 != p) }
      |> forEach mine applyShadow
      |> set (Reg.FRAME_STAMP_FRAME p) (now32 s)

/-- The effect of a value of ENABLE (R69, R74, R132). -/
def takeEnable (w : Writer) (p : Nat) (on : Bool) (s : State) : State :=
  if on then
    s |> enablePage p w |> when (0xA0 ≤ p && p < 0xA4) (fun s =>
          s |> queueCredits (p - 0xA0) |> when (p = 0xA2) serveWaiting)
  else s |> set (Reg.BLKCTL_ENABLE p) 0 |> applyPage p

/-- ENABLE is written (R74, R85, R132, R133); during an abort it takes the value, and its effect starts at the abort's
end (R96). -/
def writeEnable (w : Writer) (p : Nat) (on : Bool) (s : State) : State :=
  if isSet (Reg.BLKCTL_ENABLE p) s = on then s
  else if !on && p == 0x10 && admittedNow s && !fenced s then werrBusy w (ctlAddr p) s
  else if isSet (Reg.BLKSTS_ABORTING p) s then
    { s with frm := { s.frm with lateEnable := s.frm.lateEnable.filter (·.1 != p) ++ [(p, w, on)] } }
      |> put1 (Reg.BLKCTL_ENABLE p) on
  else takeEnable w p on s

/-- An abort ends, and an ENABLE written during it takes effect; a RESET leaves ENABLE at its reset value (R96). -/
def finishAbort (p : Nat) (s : State) : State :=
  let reset := s.frm.aborts.any (fun a => a.1 == p && a.2.2)
  let late := s.frm.lateEnable.filter (·.1 == p)
  if !s.frm.aborts.any (·.1 == p) then s
  else
    { s with frm := { s.frm with lateEnable := s.frm.lateEnable.filter (·.1 != p) } }
      |> endAbort p
      |> when (!reset) (forEach late (fun e s =>
          s |> put1 (Reg.BLKCTL_ENABLE p) (!e.2.2) |> takeEnable e.2.1 p e.2.2))

/-- The bound of R92: at the tick that ends the second full frame the abort ends. (log entry 18: DEDUCED). -/
def abortTick (s : State) : State :=
  let l := (s.frm.aborts.filter (fun a => !pageDark a.1 s)).map (fun a => (a.1, a.2.1 - 1, a.2.2))
  let due := (l.filter (fun a => a.2.1 == 0)).map (·.1)
  forEach due finishAbort { s with frm := { s.frm with aborts := l } }

end Sys2Proof.Machine
end

