-- ==== Sys2Proof/Machine/Settle.lean ====
section
/-! DEFINITION. The end of every command: the reactions asked for, the persistence indication, the watermarks and
the interrupts, and `run`, the form of every meaning (R16, R84, R100, R119, R245, R404). -/

namespace Sys2Proof.Machine

/-! ### Reactions (R404) -/

/-- An emergency-seal trigger is followed by no save: SAV is disarmed, or the save of this fence is done (R276, R297). -/
def noSeal (s : State) : Bool := !savArmed s || (fenced s && savState s != 9 && s.sav.manifestDone)

/-- One reaction. (log entry 21: DEDUCED). -/
def react1 (r : Req) (s : State) : State :=
  match r with
  | .blockReset p => if pageDark p s then s else startAbort' p true s
  | .chipReset => chipResetOp s
  | .emergencySeal => s |> trigger 3 |> when (noSeal s) abortSafe
  | .abortContexts => if reactionsWait s then s else abortSafe s

/-- The reactions asked for so far. -/
def reactRound (s : State) : State := forEach s.reqs react1 { s with reqs := [] }

/-- A reaction may itself raise a source; four rounds, after which none is left open. (log entry 21: DEDUCED). -/
def reactions (s : State) : State :=
  if s.reqs.isEmpty then s
  else { (s |> reactRound |> reactRound |> reactRound |> reactRound) with reqs := [] }

/-! ### The persistence indication (R16, R17) -/

/-- The longest time measured from a dangerous raise to the fall of the pin: a free value within 1 µs (R15).
(log entry 29: DESIGN CHOICE). -/
def withdrawalTime (s : State) : State :=
  s |> set Reg.SAF.WDRAW_MAX_NS (max (get Reg.SAF.WDRAW_MAX_NS s) ((freshWord s).toNat % 1001)) |> spend

/-- `SYS.PERSIST.OK` follows the reason bits; a change records its frame, a fall its reasons, and both go to the
journal. -/
def persistShow (s : State) : State :=
  let ok := persistReasons s == 0 && s.pwr.vaon && s.pwr.tap != .extest
  if isSet Reg.SYS.PERSIST_OK s = ok then s
  else
    s |> put1 Reg.SYS.PERSIST_OK ok |> set Reg.SYS.PERSIST_CHG_FRAME (now32 s)
      |> when (!ok) (fun s =>
          s |> inc Reg.SYS.PERSIST_WDRAW_COUNT |> set Reg.SYS.PERSIST_WDRAW_LAST_REASONS (persistReasons s)
            |> logEvent 3 [persistReasons s]
            |> when (isSet Reg.SYS.PERSIST_FAULT s && !pageDark 0x97 s) withdrawalTime)
      |> persistChangeRecord

/-! ### The domain's indication (R367) -/

/-- `SYS.PERSIST.DOMAIN_OK` as R367 gives it. -/
def domainOkNow (s : State) : Bool :=
  get Reg.FRM.SRC_STATE s == 2 && get Reg.DOM.CFG_MEMBERS s != 0 && s.rng.quorumFlag && !s.rng.partitioned &&
    !fenced s

/-- `DOMAIN_OK` follows its conditions. -/
def domainOkShow (s : State) : State :=
  if isSet Reg.SYS.PERSIST_DOMAIN_OK s = domainOkNow s then s
  else
    s |> put1 Reg.SYS.PERSIST_DOMAIN_OK (domainOkNow s) |> put1 Reg.DOM.STS_DOMAIN_OK (domainOkNow s)

/-! ### The watermarks (R28, R245) -/

/-- Throttling (R28, R30); it ends with a fence (R51). A first comparison latches nothing (R245). -/
def throttleShow (first : Bool) (dirty : Nat) (s : State) : State :=
  let on := !fenced s && isSet Reg.LEH.THROTTLE_EN_EN s && (decide (get Reg.LEH.WM_HI_GRAN s ≤ dirty) ||
    (isSet Reg.LEH.THROTTLE_ACTIVE s && decide (get Reg.LEH.WM_LO_GRAN s ≤ dirty)))
  if isSet Reg.LEH.THROTTLE_ACTIVE s = on then s
  else s |> put1 Reg.LEH.THROTTLE_ACTIVE on |> when (on && !first) (event 0x41 3)

/-- A port withholds write credits (R246): throttling is on and the granules it newly dirtied have reached its
allowance. -/
def withholds (n : Nat) (s : State) : Bool :=
  isSet Reg.LEH.THROTTLE_ACTIVE s && portUsed n s && decide (s.mrv.allowance.getD n 0 ≤ s.hp.newDirty.getD n 0)

/-- `LEH.THROTTLE.WITHHELD`. -/
def withheldShow (s : State) : State :=
  set Reg.LEH.THROTTLE_WITHHELD (([0, 1, 2, 3] : List Nat).foldl (fun k n => k + b2n (withholds n s) * 2 ^ n) 0) s

/-- The sides of the marks and b_eff in `EVT_LIVE`. -/
def markSides (dirty : Nat) (s : State) : Nat :=
  b2n (decide (get Reg.LEH.WM_LO_GRAN s ≤ dirty)) + 2 * b2n (decide (get Reg.LEH.WM_HI_GRAN s ≤ dirty)) +
  4 * b2n (decide (dirty < get Reg.LEH.WM_LO_GRAN s)) + 8 * get Reg.LEH.THROTTLE_ACTIVE s +
  16 * b2n (decide (get Reg.LEH.BUDGET_EFF_GRAN s < dirty)) + bitsOf (get (Reg.EVT_LIVE 0x41) s) 5 1 * 32

/-- The dirty count against the watermarks and b_eff, in every cycle (R245). -/
def marksShow (s : State) : State :=
  if !domainOn 42 s then s
  else
    let dirty := dirtyEff s
    let was := get (Reg.EVT_LIVE 0x41) s
    let lo := decide (get Reg.LEH.WM_LO_GRAN s ≤ dirty)
    let hi := decide (get Reg.LEH.WM_HI_GRAN s ≤ dirty)
    let above := decide (get Reg.LEH.BUDGET_EFF_GRAN s < dirty)
    let loUp := lo && !bitOf was 0 && !s.mrv.loCrossed
    let hiUp := hi && !bitOf was 1 && !s.mrv.hiCrossed
    let rearm := fun (f : Fld) => decide (dirty ≤ get f s - get Reg.LEH.WM_HYST_HYST s)
    let first := s.mrv.firstCompare
    let s := set Reg.LEH.DIRTY_EFF_GRAN dirty s
    let s := if first then
        { s with mrv := { s.mrv with firstCompare := false, loCrossed := lo, hiCrossed := hi } }
      else
        { s with mrv := { s.mrv with loCrossed := loUp || (s.mrv.loCrossed && !rearm Reg.LEH.WM_LO_GRAN),
                                     hiCrossed := hiUp || (s.mrv.hiCrossed && !rearm Reg.LEH.WM_HI_GRAN) } }
          |> when loUp (fun s => s |> event 0x41 0 |> inc Reg.LEH.WM_CROSSINGS_LO)
          |> when hiUp (fun s => s |> event 0x41 1 |> inc Reg.LEH.WM_CROSSINGS_HI)
          |> when (!lo && bitOf was 0) (event 0x41 2)
          |> when (above && !bitOf was 4) (event 0x41 4)
    let s := s |> throttleShow first dirty |> withheldShow
    set (Reg.EVT_LIVE 0x41) (markSides dirty s) s

/-! ### Interrupts (R84, R100, R119) -/

/-- The page and the bit of an event status field key. -/
def eventOf (key : Nat) : Option (Nat × Nat) :=
  if key / 32 % 4096 = 0x18 then some (key / 32 / 4096, key % 32) else none

/-- The events whose status and enable are both 1. -/
def assertedEvents (s : State) : List (Nat × Nat) :=
  s.regs.filterMap (fun e =>
    match eventOf e.1 with
    | some (p, k) => if e.2 = 1 ∧ isSet (Reg.EVT_EN p k) s ∧ pageDark p s = false then some (p, k) else none
    | none => none)

/-- The port that delivers a vector (R119). -/
def vectorPort (v : Nat) (s : State) : Nat :=
  (([0, 1, 2, 3] : List Nat).find? (fun n => portUsed n s && get (Reg.HPT.LINK_WIDTH n) s != 0 &&
    get (Reg.HPT.VEC_SEL_BASE n) s ≤ v && v < get (Reg.HPT.VEC_SEL_BASE n) s + get (Reg.HPT.VEC_SEL_COUNT n) s)).getD
      (get Reg.SYS.MGMT_PORT_PORT s)

/-- A message on a vector: sent, or pending on a port whose link is down or whose table entry is masked (R119).
(log entry 28: PRESUMED). -/
def sendVector (v : Nat) (s : State) : State :=
  let n := vectorPort v s
  if get (Reg.HPT.LINK_WIDTH n) s = 0 || !s.hp.msixOpen.contains (n, v) then
    if s.hp.msixPending.contains (n, v) then s
    else { s with hp := { s.hp with msixPending := s.hp.msixPending ++ [(n, v)] } }
  else s |> emit (.msix n v) |> inc Reg.IRQ.SENT_COUNT

/-- A message falls due: held back while the vector's holdoff runs (R100). -/
def dueVector (v : Nat) (s : State) : State :=
  if s.hp.holdoffs.any (·.vector == v) then
    { s with hp := { s.hp with holdoffs := s.hp.holdoffs.map (fun h =>
        if h.vector = v then { h with due := true } else h) } } |> inc Reg.IRQ.MERGED_COUNT
  else
    s |> sendVector v
      |> when (get Reg.IRQ.HOLDOFF_US s != 0) (fun s =>
          { s with hp := { s.hp with holdoffs := s.hp.holdoffs ++ [{ vector := v, due := false }] } })

/-- One transition of an event goes to every destination of its page (R84). (log entry 28: PRESUMED). -/
def deliver (e : Nat × Nat) (s : State) : State :=
  s |> when (isSet (Reg.EVT_ROUTE_TO_HOST e.1) s && domainOn 49 s) (dueVector (get (Reg.EVT_ROUTE_VECTOR e.1) s))
    |> when (isSet (Reg.EVT_ROUTE_TO_GAFFER e.1) s) (emit (.gaffer e.1 e.2))

/-- The transitions that a command brought. -/
def interrupts (before s : State) : State :=
  let was := assertedEvents before
  forEach ((assertedEvents s).filter (fun e => !was.contains e)) deliver s

/-! ### CXL.mem credits (R29, R41, R112) -/

/-- The port takes requests: its block is ready, its link is up, its PERST_N is released, and credits are not withheld by
a fence (R112). -/
def portTakes (n : Nat) (s : State) : Bool :=
  portUsed n s && pageReady (8 + n) s && get (Reg.HPT.LINK_WIDTH n) s != 0 && !isSet (Reg.HPT.STS_FENCED n) s &&
  !s.hp.perst.contains n && !pllWaits (6 + n) s

/-- The write credits that a host holds: as many as its ingest pool has free, but that a throttled port which has used
its allowance gets none back (R29, R246); none across a link that is down or fenced. -/
def creditsOf (n : Nat) (s : State) : Nat :=
  let held := s.hp.credits.getD n 0
  if !portTakes n s then 0 else if withholds n s then held else (poolFree (poolAddr (8 + n) 0x120) s).toNat

/-- Credits return to the hosts. -/
def creditsShow (s : State) : State :=
  let l := [0, 1, 2, 3].map (fun n => creditsOf n s)
  if s.hp.credits = l then s else { s with hp := { s.hp with credits := l } }

/-! ### The form of every meaning -/

/-- What ends a command that began in `before`. (log entry 21: DEDUCED). -/
def settle (before s : State) : State :=
  s |> reactions |> domainOkShow |> persistShow |> marksShow |> creditsShow |> interrupts before

/-- A command whatever the supply: its effect, then the end of the command. (log entry 7: DEDUCED). -/
def runAlways (f : State → State) (s : State) : Host.Outcome State Fault Refusal :=
  .next (settle s (f { s with out := [] }))

/-- A command to a controller whose VAON is present: its effect, then the end of the command. Without VAON
nothing of it works (R83, R507). (log entry 7: DEDUCED). -/
def run (f : State → State) (s : State) : Host.Outcome State Fault Refusal :=
  if s.pwr.vaon then runAlways f s else .next { s with out := [] }

end Sys2Proof.Machine
end

