-- ==== Sys2Proof/Machine/MirrorOps.lean ====
section
/-! DEFINITION. Mirror writes received, their acknowledgement, reconciliation messages and resync copies (R330 to R346),
and the demand fetches that host and mirror writes share (R316, R317). -/

namespace Sys2Proof.Machine

/-! ### Demand fetches (R316, R317) -/

/-- A demand fetch, when a slot is free; it waits for a credit of the fetch pool (R41). -/
def demand (g : Nat) (s : State) : State :=
  if inFlight g s || 4096 < slotsUsed s + slotsPer s then s
  else withCredit (poolAddr 0x43 0x148) true (demandFetch g) s

/-- The host has written this line of a granule in flight. -/
def slotHas (g line : Nat) (s : State) : Bool := (hostLines g s).contains line

/-- An access to an unrestored granule waits: a read and a partial write for the line's restore write, a full write
for the slot (R317). -/
def waitsForRestore (g line : Nat) (full : Bool) (s : State) : Bool :=
  unrestored g s && (if full then !inFlight g s else !slotHas g line s)

/-! ### The link and HELLO (R344) -/

def setTwn (f : Twn → Twn) (s : State) : State := { s with twn := f s.twn }

/-- The metadata of this power-on is loaded (R309). -/
def metadataLoaded (s : State) : Bool :=
  admittedNow s || rsrStage s = 3 || (5 ≤ rsrStage s && rsrStage s ≤ 9)

/-- Granules of a region marked LOST, as indices in the region. -/
def lostIn (lo hi : Nat) (s : State) : List Nat :=
  (s.mrv.entries.filter (fun e => e.2.lost && decide (lo ≤ e.1) && decide (e.1 < hi))).map (fun e => e.1 - lo)

/-- HELLO goes out once the generations are known (R344): the serial, what R333 checks, the state, PROMOTED, REATTACH, the
generations, whether there is an undo region (R338), the LOST granules of both regions, and the remote contexts with their
states. (log entry 62: DEDUCED). -/
def sendHello (s : State) : State :=
  let h := homeGranules s
  let home := lostIn 0 h s
  let mirror := lostIn h (mapEntries s) s
  let remote := ((List.range 64).filter (fun c => remoteOpen c s || remotePrepared c s)).map (fun c =>
    c + 64 * b2n (remotePrepared c s))
  sendTwin "HELLO" ([ownId s, get Reg.MRV.CFG_GRAN_IN_USE s, exposedBytes s / 2 ^ 30, twinState s, get Reg.TWN.STS_PROMOTED s,
    b2n s.twn.reattach, get Reg.TWN.HOME_GEN_VALUE s, get Reg.TWN.HOME_AGREED_VALUE s, get Reg.TWN.MIRROR_GEN_VALUE s,
    get Reg.TWN.MIRROR_AGREED_VALUE s, b2n (undoSize s != 0), get Reg.MRV.TWIN_DIRTY_COUNT s] ++
    home.length :: home ++ mirror.length :: mirror ++ remote.length :: remote) s

/-- A reconciliation is open: by the state, after REATTACH, or after an abort of TWN (R340, R344, R351). -/
def reconciles (s : State) : Bool :=
  paired s && !fenced s &&
  (twinState s == 1 || twinState s == 2 || twinState s == 5 || (twinState s == 6 && s.twn.reattach) ||
    ((twinState s == 3 || twinState s == 7) && !s.twn.planned))

/-- HELLO is repeated every frame until one is received. -/
def helloTick (s : State) : State :=
  when (reconciles s && puntyUp s && metadataLoaded s && s.twn.hello.isNone) sendHello s

/-! ### Acknowledgements (R331, R335) -/

/-- A sequence number is covered by a cumulative one (modulo 2^32). -/
def covered (k n : Nat) : Bool := decide ((n + 2 ^ 32 - k) % 2 ^ 32 < 2 ^ 31)

/-- A MIRROR_ACK up to `n`: the writes it covers wait no longer. -/
def ackMirror (n : Nat) (s : State) : State :=
  { s with
    twn := { s.twn with outstanding := s.twn.outstanding.filter (fun (m : Mirrored) => !covered m.seq n) },
    hp := { s.hp with writes := s.hp.writes.map (fun w =>
      match w.seq with
      | some k => if covered k n then { w with seq := none } else w
      | none => w) } }

/-! ### Mirror writes received (R337, R338) -/

/-- The DRAM line of a line of the twin's home region. (log entry 100: DESIGN CHOICE). -/
def mirrorLine (line : Nat) (s : State) : Nat := exposedBytes s / 64 + line

/-- The undo entry of a remote context's first write to the line has no room. -/
def mirrorHolds (m : MirrorIn) (s : State) : Bool :=
  match m.ctx with
  | some c =>
    let line := mirrorLine m.line s
    !logged (64 + c.val) line s && !canHold (64 + c.val) (granuleOf line s) s
  | none => false

/-- A remote context's first mirror write makes it OPEN, and the first to a line is logged. -/
def logRemote (c line : Nat) (s : State) : State :=
  s |> when (!logged (64 + c) line s) (logLine (64 + c) line)
    |> when (!remotePrepared c s) (setRemoteOpen c true)

/-- The residue of a mirror write does not check at the receiver (R47, R48): the line is written with poison, and its
granule is LOST. -/
def poisonedMirror (line : Nat) (be : BitVec 64) (data : Line) (s : State) : State :=
  s |> markWrite (granuleOf line s) none |> queueWrite line be data true |> markLost (granuleOf line s) 2
    |> raiseSimple 181 0 0 (line % 2 ^ 32) (line / 2 ^ 32)

/-- A mirror write enters the persistence domain and is acknowledged. -/
def applyMirror (m : MirrorIn) (s : State) : State :=
  let line := mirrorLine m.line s
  let g := granuleOf line s
  let s := match m.ctx with
    | some c => logRemote c.val line s
    | none => s
  s |> (if lineGood m.data m.residues then
          fun s => s |> noteWrite line m.be m.data none none |> queueWrite line m.be m.data false
        else poisonedMirror line m.be m.data)
    |> when (m.be = allBytes) (overtakeRepair line)
    |> when (unrestored g s) (slotWrite g line)
    |> setTwn (fun t => { t with seqIn := m.seq })
    |> sendTwin "MIRROR_ACK" [m.seq]

/-- A remote context's first mirror write to a line, whose old value its undo entry takes. -/
def mirrorLogs (m : MirrorIn) (s : State) : Bool :=
  (m.ctx.map (fun c => !logged (64 + c.val) (mirrorLine m.line s) s)).getD false

/-- A mirror write must wait: for its granule's restore, for the Hold set, for the repair of the old line that its undo
entry takes, or for a credit of the write pool (R41, R182, R317, R338). -/
def mirrorWaits (m : MirrorIn) (s : State) : Bool :=
  let line := mirrorLine m.line s
  waitsForRestore (granuleOf line s) line (m.be = allBytes) s || mirrorHolds m s ||
    (mirrorLogs m s && (repairOf line s).isSome) || !writeFits line s

/-- What a mirror write asks for on its way: the restore of its granule, and the old line for its undo entry. -/
def mirrorAsks (m : MirrorIn) (s : State) : State :=
  let line := mirrorLine m.line s
  let g := granuleOf line s
  if unrestored g s then demand g s
  else s |> when (mirrorLogs m s && !mirrorHolds m s) (readOld line m.old)
    |> when (!writeFits line s) (stallOn (poolAddr (0x20 + (lineLoc line s).ch) 0x128))

/-- Waiting mirror writes go on in their order. -/
def retryMirrors : List MirrorIn → State → State
  | [], s => setTwn (fun t => { t with stalled := [], holdFrames := 0 }) s
  | m :: rest, s =>
    let m' := if unrestored (granuleOf (mirrorLine m.line s) s) s || mirrorHolds m s then m else { m with old := {} }
    let s := mirrorAsks m s
    if mirrorWaits m s then setTwn (fun t => { t with stalled := m' :: rest }) s
    else s |> setTwn (fun t => { t with holdFrames := 0 }) |> applyMirror m |> retryMirrors rest

/-- A mirror write of a remote context waits. -/
def remoteWaits (c : Nat) (s : State) : Bool := s.twn.stalled.any (fun m => (m.ctx.map (·.val)) == some c)

/-- A remote context is prepared, and the owner hears of it (R339). -/
def prepareNow (c tag : Nat) (s : State) : State :=
  s |> setRemoteOpen c false |> setRemotePrepared c true
    |> setTwn (fun t => { t with prepares := t.prepares.filter (·.1 != c),
                                 tags := if tag = 0 then drop t.tags c else insert (drop t.tags c) c tag })
    |> sendTwin "PREPARE_ACK" [c]

/-- PREPAREs whose earlier mirror writes have all gone (R339). -/
def goPrepares (s : State) : State :=
  forEach (s.twn.prepares.filter (fun p => !remoteWaits p.1 s)) (fun p => prepareNow p.1 p.2) s

/-- The mirror writes that can go are applied, and their answers sent (R337). -/
def goMirrors (s : State) : State := if s.twn.stalled.isEmpty then s else s |> retryMirrors s.twn.stalled |> goPrepares

/-- A flit's CRC fails: the link replays it (R49), and retrains at the eighth replay of one flit (R329). -/
def flitBad (s : State) : State :=
  s |> inc Reg.PNT.REPLAYS_COUNT
    |> (if 8 ≤ s.twn.flitReplays + 1 then fun s => s |> setTwn (fun t => { t with flitReplays := 0 }) |> retrainPunty
        else setTwn (fun t => { t with flitReplays := t.flitReplays + 1 }))

/-- A mirror write arrives in a flit that checks; the entry of its granule is checked (R231). -/
def takeMirror (m : MirrorIn) (s : State) : State :=
  let line := mirrorLine m.line s
  let g := granuleOf line s
  if !m.crcOk then flitBad s
  else
  let s := setTwn (fun t => { t with flitReplays := 0 }) s
  if fenced s then s
  else if !(twinState s == 3 || twinState s == 4) || mapEntries s ≤ g then inc Reg.TWN.MIRROR_DROPPED_COUNT s
  else
    s |> when (entryInUse g s) (checkEntry g m.ecc)
      |> retryMirrors (s.twn.stalled ++ [{ m with old := errorsOf line m.old s }]) |> goPrepares

/-- The oldest waiting mirror write has waited 50 frames for the Hold set: HOLD_FULL. -/
def mirrorTick (s : State) : State :=
  match s.twn.stalled.head? with
  | none => s
  | some m =>
    if mirrorHolds m s then
      s |> setTwn (fun t => { t with holdFrames := t.holdFrames + 1 })
        |> when (s.twn.holdFrames + 1 == 50) (sendTwin "HOLD_FULL" [(m.ctx.map (·.val)).getD 0])
    else goMirrors s

/-! ### Resync copies (R345, R346) -/

/-- The first granule of a region in the Marver, and the size of the region. -/
def regionFirst (home : Bool) (s : State) : Nat := if home then 0 else homeGranules s
def regionSize (home : Bool) (s : State) : Nat := if home then homeGranules s else mapEntries s - homeGranules s

/-- Granules of a job that are still to copy. -/
def copyLeft (j : CopyJob) (s : State) : Nat :=
  (if j.whole then regionSize j.home s - j.next
   else if !j.home then 0
   else (s.mrv.entries.filter (fun e => e.2.twinDirty && decide (e.1 < homeGranules s))).length) + j.extra.length

/-- The next granule of a job in ascending index, with the job after it; the reverse copies come last. -/
def nextCopy (j : CopyJob) (s : State) : Option (Nat × Bool × CopyJob) :=
  let found :=
    if j.whole then (if j.next < regionSize j.home s then some j.next else none)
    else if !j.home then none
    else (s.mrv.entries.find? (fun e => e.2.twinDirty && decide (e.1 < homeGranules s))).map (·.1)
  match found with
  | some k => some (regionFirst j.home s + k, false, { j with next := k + 1 })
  | none =>
    match j.extra with
    | g :: rest => some (g, true, { j with extra := rest })
    | [] => none

/-- `TWN.RESYNC_LEFT`. -/
def resyncShow (s : State) : State :=
  set Reg.TWN.RESYNC_LEFT_GRAN (s.twn.copies.foldl (fun n j => n + copyLeft j s) 0) s

/-- One granule copy is sent with its image, its TWIN_DIRTY cleared before its first line is read (R345). -/
def sendCopy (s : State) : State :=
  match s.twn.copies.findSome? (fun j => (nextCopy j s).map (fun x => (j, x))) with
  | none => s
  | some (j, g, reverse, j') =>
    if unrestored g s then s
    else
      let jobs := s.twn.copies.map (fun x => if x = j then j' else x)
      s |> setTwn (fun t => { t with copies := jobs, copying := t.copying ++ [g] })
        |> when (entryOf g s).twinDirty (fun s => putEntry g { entryOf g s with twinDirty := false } s)
        |> when reverse (inc Reg.TWN.REVERSE_GRAN)
        |> sendTwin "GRANULE_COPY" ([b2n j.home, g, b2n reverse] ++ ((granuleNow g s).1.map (fun c => c.1 * 256 + c.2.toNat)))

/-- The copies of a frame at RESYNC_RATE (R345): MB/s × 20 µs is 20 bytes a frame. -/
def resyncTick (s : State) : State :=
  if s.twn.copies.isEmpty && s.twn.copying.isEmpty then s
  else
    let s := setTwn (fun t => { t with copying := [] }) s
    if !(twinState s == 3 || twinState s == 7) || !puntyUp s || fenced s then s
    else
      let credit := s.twn.copyCredit + get Reg.TWN.RESYNC_RATE_MBS s * 20
      s |> setTwn (fun t => { t with copyCredit := credit % granBytes s })
        |> forEach (List.range (credit / granBytes s)) (fun _ => sendCopy) |> resyncShow

/-- A granule copy is written into its target entry, which becomes DIRTY (R345, R346), behind the undo entries of its lines
(R190). -/
def applyCopy (c : CopyIn) (s : State) : State :=
  let g := regionFirst c.home s + c.granule
  s |> setTwn (fun t => { t with copyWaits := t.copyWaits.filter (fun x => x != c) })
    |> forEach ((s.txn.pairs.filter (·.granule == g)).flatMap (·.lines)) (fun l => replayAhead l {})
    |> loadImage g (c.image.filter (fun x => decide (x.1 < granBytes s))) [] (fun _ => false)
    |> setWrites (s.dram.writes.filter (fun e => granuleOf e.line s != g))
    |> markWrite g none
    |> when c.reverse (inc Reg.TWN.REVERSE_GRAN)

/-- A granule copy arrives (R345): it waits for the restored bit of its granule (R325). -/
def takeCopy (c : CopyIn) (s : State) : State :=
  if !(twinState s == 3 || twinState s == 7) || fenced s || regionSize c.home s ≤ c.granule then s
  else if unrestored (regionFirst c.home s + c.granule) s then setTwn (fun t => { t with copyWaits := t.copyWaits ++ [c] }) s
  else applyCopy c s

/-- Copies whose granule is restored by now. -/
def copyTick (s : State) : State :=
  forEach (s.twn.copyWaits.filter (fun c => !unrestored (regionFirst c.home s + c.granule) s)) applyCopy s

/-- What the twin's part does at a tick. -/
def twinTick (s : State) : State :=
  if !paired s then s else s |> mirrorTick |> copyTick |> resyncTick |> helloTick

end Sys2Proof.Machine
end

