-- ==== Sys2Proof/Machine/RingOps.lean ====
section
/-! DEFINITION. The Traune ring: cells, the topology, the quorum, and what the ring unit does at a tick (R354 to
R367, R377). -/

namespace Sys2Proof.Machine

/-- The ring unit is present and powered (R356). -/
def ringOn (s : State) : Bool := isSet Reg.SYS.CAPS_RING s && domainOn 50 s

/-- This member's domain engine runs: it holds an index and the ring is powered. -/
def domainRuns (s : State) : Bool := ringMember s && domainOn 50 s

/-- A cell whose CRC fails is forwarded as empty and counted (R357). (log entry 53: DEDUCED). -/
def badCell (ringB : Bool) (s : State) : State := inc (if ringB then Reg.TRN.ERR_CRC_B else Reg.TRN.ERR_CRC_A) s

def isMaster (s : State) : Bool := isSet Reg.TRN.STS_MASTER s
def electing (s : State) : Bool := get Reg.TRN.STS_STATE s == 1

/-- This member inserts cells: the ring is powered and no abort of TRN is in progress (R377). -/
def ringInserts (s : State) : Bool := ringOn s && !isSet (Reg.BLKSTS_ABORTING 0xD0) s && !pllWaits 11 s

/-! ### Topology (R364, R365) -/

/-- The members of the ring table. -/
def ringSize (s : State) : Nat := get Reg.TRN.STS_COUNT s

/-- The indices that index `i` of `n` reaches past no broken span; a span has the index upstream of it on ring A. -/
def reachOf (broken : List Nat) (n i : Nat) : List Nat :=
  let up := ((List.range n).takeWhile (fun k => k = 0 || !broken.contains ((i + k - 1) % n))).map (fun k => (i + k) % n)
  let down := ((List.range n).takeWhile (fun k => k = 0 || !broken.contains ((i + n - k) % n))).map (fun k => (i + n - k) % n)
  (up ++ down).dedup

/-- The indices this member reaches. -/
def reached (s : State) : List Nat := reachOf s.rng.broken (ringSize s) (get Reg.TRN.STS_INDEX s)

/-- A member has left (R366). -/
def hasLeft (index : Nat) (s : State) : Bool := s.rng.departed.any (fun id => id.toNat == memberId index s)

/-- Broken spans separate this member from others that have not left, beyond one dead member between two of them.
(log entry 65: DEDUCED). -/
def isPartitioned (s : State) : Bool :=
  let out := (List.range (ringSize s)).filter (fun i => !(reached s).contains i)
  out.any (fun i => !hasLeft i s) && !(s.rng.broken.length == 2 && out.length == 1)

/-- The topology that the known breaks give. -/
def topoOf (s : State) : Nat :=
  if isPartitioned s || (s.rng.partitioned && !isMaster s) then 2
  else if s.rng.broken.isEmpty then 0
  else 1

/-- The spans of this member: upstream of its ring A input, and of its ring B input. -/
def spanA (s : State) : Nat := (get Reg.TRN.STS_INDEX s + ringSize s - 1) % max 1 (ringSize s)
def spanB (s : State) : Nat := get Reg.TRN.STS_INDEX s

/-- `TRN.RING_STS` as a word. -/
def ringWord (s : State) : Nat :=
  get Reg.TRN.RING_STS_AI_LOCK s + get Reg.TRN.RING_STS_BI_LOCK s * 2 + get Reg.TRN.RING_STS_EDGE s * 4 +
  get Reg.TRN.RING_STS_BREAK1 s * 2 ^ 3 + get Reg.TRN.RING_STS_BREAK1_V s * 2 ^ 12 +
  get Reg.TRN.RING_STS_BREAK2 s * 2 ^ 13 + get Reg.TRN.RING_STS_BREAK2_V s * 2 ^ 22

/-- `TRN.STS` as a word. -/
def ringStsWord (s : State) : Nat :=
  get Reg.TRN.STS_INDEX s + get Reg.TRN.STS_MASTER s * 2 ^ 9 + get Reg.TRN.STS_STATE s * 2 ^ 10 +
  get Reg.TRN.STS_TOPO s * 2 ^ 12 + get Reg.TRN.STS_COUNT s * 2 ^ 14 + get Reg.TRN.STS_OVERSIZE s * 2 ^ 24 +
  get Reg.TRN.STS_CIRC_ERR s * 2 ^ 25

/-- A source follows a level. -/
def followSource (n : Nat) (b : Bool) (snap2 : Nat) (s : State) : State :=
  if b then raiseHeld n 0 0 snap2 0 s else liveFall n s

/-- The topology, the breaks and the edge are shown; the break and the partition source follow the topology.
(log entry 65: DEDUCED). -/
def topoShow (s : State) : State :=
  let was := get Reg.TRN.STS_TOPO s
  let t := topoOf s
  let b := s.rng.broken
  let edge := decide (t ≠ 0) && (b.contains (spanA s) || b.contains (spanB s))
  let s := s |> set Reg.TRN.STS_TOPO t |> put1 Reg.TRN.RING_STS_EDGE edge
    |> set Reg.TRN.RING_STS_BREAK1 (b.headD 0) |> put1 Reg.TRN.RING_STS_BREAK1_V (!b.isEmpty)
    |> set Reg.TRN.RING_STS_BREAK2 ((b.drop 1).headD 0) |> put1 Reg.TRN.RING_STS_BREAK2_V (decide (2 ≤ b.length))
  s |> when (t == 2 && was != 2) (event 0xD0 2)
    |> followSource 161 (t == 1) (ringWord s)
    |> followSource 162 (t == 2) (ringWord s)

/-- A span is broken, or healed. -/
def setSpan (index : Nat) (broken : Bool) (s : State) : State :=
  if s.rng.broken.contains index = broken then s
  else
    let l := if broken then addNat s.rng.broken index else s.rng.broken.filter (· != index)
    { s with rng := { s.rng with broken := l } }
      |> when broken (inc Reg.TRN.COUNTS_BREAKS) |> event 0xD0 (if broken then 1 else 3) |> topoShow

/-! ### The quorum (R366) -/

/-- The master's view: the members reached, and those that left, are as many as the domain should have. -/
def quorumNow (s : State) : Bool :=
  let here := ((reached s).filter (fun i => !hasLeft i s)).length
  decide (get Reg.DOM.CFG_MEMBERS s ≤ here + s.rng.departed.length) && !isSet Reg.TRN.STS_CIRC_ERR s

/-- The flags of the last SYNC (R359, R366). (log entry 65: DEDUCED). -/
def takeFlags (partitioned quorum : Bool) (s : State) : State :=
  { s with rng := { s.rng with partitioned := partitioned, quorumFlag := quorum } }
    |> when (isSet Reg.DOM.STS_QUORUM s && !quorum) (event 0xD1 0)
    |> put1 Reg.DOM.STS_QUORUM quorum

/-! ### The tick -/

/-- The ring table's entry that `TRN.TABLE_IDX` selects. -/
def tableShow (s : State) : State :=
  let k := get Reg.TRN.TABLE_IDX_INDEX s
  let own := s.rng.indexed && k == get Reg.TRN.STS_INDEX s
  let e := if own then some s.pwr.serial else look s.rng.table k
  s |> put1 Reg.TRN.TABLE_IDX_VALID e.isSome
    |> set Reg.TRN.TABLE_LO_ID ((e.map (·.toNat)).getD 0) |> set Reg.TRN.TABLE_HI_ID ((e.map (·.toNat)).getD 0 / 2 ^ 32)

/-- The master starts an enumeration on ring A, and on ring B as well when the ring is SPLIT (R361): it has index 0. -/
def sendEnum (s : State) : State :=
  s |> sendCell false (.enum 1 (now s))
    |> when (get Reg.TRN.STS_TOPO s == 1) (sendCell true (.enum 1 (now s)))

/-- The master's first cell of the frame: SYNC, and an ENUM when one is due (R358, R361, R363, R364). -/
def masterTick (s : State) : State :=
  if !isMaster s || electing s || isSet Reg.TRN.STS_OVERSIZE s then s
  else
    let part := isPartitioned s
    let quorum := quorumNow s
    let s := s |> takeFlags part quorum |> sendBoth (.sync (now s) 0 (b2n part + 2 * b2n quorum))
    if s.rng.enumDue then { s with rng := { s.rng with enumDue := false } } |> sendEnum else s

/-- A member without an index, or one that elects, sends CLAIM in every frame (R360, R361). (log entry 67: DEDUCED). -/
def claimTick (s : State) : State :=
  if electing s then
    { s with rng := { s.rng with ownRun := if s.rng.lowest = s.pwr.serial then s.rng.ownRun + 1 else 0 } }
      |> sendBoth (.claim s.rng.lowest.toNat)
  else if !s.rng.indexed && get Reg.TRN.STS_STATE s == 2 then sendBoth (.claim s.pwr.serial.toNat) s
  else s

/-- What the ring unit does at a tick: frames without SYNC are counted, and cells are sent. -/
def ringTick (s : State) : State :=
  let alone := !s.rng.syncSeen && !(isMaster s && !electing s && !isSet Reg.TRN.STS_OVERSIZE s)
  let s := { s with rng := { s.rng with
      fences := s.rng.fences.filter (fun f => now s ≤ f), syncSeen := false,
      noSync := if alone && ringOn s then min 3 (s.rng.noSync + 1) else 0 } }
  if ringInserts s then s |> masterTick |> claimTick else s

end Sys2Proof.Machine
end

