-- ==== Sys2Proof/Machine/TickOps.lean ====
section
/-! DEFINITION. The parts of the tick procedure (R59): the counter, the commits, the shadows, the computations of
step 4, the pools, the background slices of the ten tasks, and what hardware times by frames. -/

namespace Sys2Proof.Machine

/-! ### Step 1: the counter (R52 to R56, R484) -/

/-- R54: the highest frame number on flash, plus 50,000. (log entry 45: DEDUCED). -/
def resumeFrame (s : State) : Nat :=
  let m := s.nand.manifests.foldl (fun n m => max n (max m.frameFence m.frameSealed)) 0
  max (s.nand.records.foldl (fun n r => max n r.frame) m) (s.nand.others.foldl (fun n r => max n r.frame) 0) + 50000

/-- The counter takes a value. -/
def setCount (n : Nat) (s : State) : State := { s with frm := { s.frm with count := BitVec.ofNat 48 n } }

/-- A frame number shown in a register moves by the offset of R484. -/
def moveFrame (f : Fld) (n : Nat) (s : State) : State := set f (get f s + n) s

/-- The provisional counter moves forward once the newest manifest is located (R484). (log entry 45: DEDUCED). -/
def provisionalTick (s : State) : State :=
  if !isSet Reg.SYS.BOOT_PROVISIONAL s || rsrStage s < 2 then s
  else
    let n := resumeFrame s
    let first := get Reg.FLT.FIRST_FRAME_LO_FRAME s + get Reg.FLT.FIRST_FRAME_HI_FRAME s * 2 ^ 32 + n
    let stamps := s.regs.filterMap (fun e =>
      if e.1 / 32 % 4096 = 0x34 then some (e.1 / 32 / 4096) else none)
    s |> setCount (now s + n)
      |> when (isSet Reg.FLT.FIRST_ID_VALID s) (fun s =>
          s |> set Reg.FLT.FIRST_FRAME_LO_FRAME first |> set Reg.FLT.FIRST_FRAME_HI_FRAME (first / 2 ^ 32))
      |> when (get Reg.PWR.FAIL_CAUSE s != 0) (moveFrame Reg.PWR.FAIL_FRAME_FRAME n)
      |> forEach stamps (fun p => moveFrame (Reg.FRAME_STAMP_FRAME p) n)
      |> set Reg.SYS.BOOT_PROVISIONAL 0

/-- The counter increments; a member adopts the marker's number (R56). (log entry 8: DEDUCED). -/
def countTick (s : State) : State :=
  let next := match s.frm.adopt with
    | some f => f.toNat + 1
    | none => now s + 1
  { s with frm := { s.frm with adopt := none, phase := 0, markerSeen := false },
           pwr := { s.pwr with sinceVaon := s.pwr.sinceVaon + 1 } }
    |> setCount next |> provisionalTick

/-! ### Step 2: commits (R58, R187, R188, R195) -/

/-- A commit request is effective at this tick. -/
def effective (s : State) (r : Request) : Bool :=
  !r.domain && decide (r.due ≤ now s) && (!r.needAck || (match r.ackFor with | some t => decide (t ≤ now s) | none => false))

/-- The commits that R58 admits, and recorded decisions whose tick has come. -/
def commitTick (s : State) : State :=
  if fenced s then s
  else
    s |> forEach (s.txn.requests.filter (effective s)) (fun r => commitCtx r.ctx r.degraded)
      |> forEach (s.txn.decisions.filter (fun d => d.tick ≤ now s)) (fun d s =>
          if ctxState d.ctx s == 3 || ctxState d.ctx s == 2 then applyOutcome d.ctx d.commit s else s)

/-! ### Step 3: shadows (R59, R60, R68, R73) -/

/-- A host request is carried out after the shadows (R60, R394): the switch awaits its acknowledgement. -/
def beginSwitch (d req : Nat) (s : State) : State :=
  if get (Reg.PDM.DOM_CTL_STATE d) s = req || s.pwr.switching.any (·.dom == d) then s
  else
    { s with pwr := { s.pwr with switching := s.pwr.switching ++ [{ dom := d, target := req, tries := 0 }] } }
      |> when (req = 1) (fun s => s |> domainGone d |> pllGone d |> abortsEnd d |> wipeDomain d)
      |> setDomain d 3

/-- The class F fields of a page. -/
def shadowedFields (p : Nat) : List Fld := ((headerFields p ++ pageFields p).filter (fun d => d.cls == .f)).map (·.f)

/-- Every shadow due in a powered page applies; those written after the shadow close stay for the next tick. A page with
COMMIT_SHADOW repeats what applying each of its fields triggers (R73). (log entry 30: DEDUCED). -/
def shadowTick (s : State) : State :=
  let powered := fun (h : Shadow) => !pageDark (h.f.addr / 4096) s
  let due := s.shadows.filter (fun h => !h.late && powered h)
  let rest := (s.shadows.filter (fun h => h.late && powered h)).map (fun (h : Shadow) => { h with late := false })
  let again := s.frm.commitShadow.filter (fun p => !pageDark p s)
  let fields := (again.flatMap shadowedFields).filter (fun f => !due.any (fun h => h.f.key == f.key))
  { s with shadows := rest, frm := { s.frm with commitShadow := [] } }
    |> forEach due applyShadow |> forEach fields followField
    |> forEach (due.map (fun (h : Shadow) => h.f.addr / 4096) ++ again).dedup (fun p s =>
        set (Reg.FRAME_STAMP_FRAME p) (now32 s) s)

/-- The domains that a GROUP reaction gave up switch off. -/
def groupTick (s : State) : State :=
  { s with pwr := { s.pwr with groupDoms := [] } } |> forEach s.pwr.groupDoms (fun d => domainOff d false)

/-- After step 3 the domains that a request, a GROUP reaction, a chip reset, a power-down or a power-up names switch
(R60, R384, R390, R393, R394). -/
def switchTick (s : State) : State :=
  { s with pwr := { s.pwr with requests := [] } }
    |> forEach s.pwr.requests (fun r => beginSwitch r.1 r.2)
    |> groupTick |> resetTick |> goDown downTick |> domainsTick

/-! ### Step 4: gauge, budgets, watermarks, reason bits (R16 to R18, R26, R27, R244 to R246) -/

/-- The wear governor (R219, R244), while the Lehr and the seal store are lit. (log entry 74: DEDUCED). -/
def wearTick (rtc : Nat) (s : State) : State :=
  if pageDark 0x41 s || pageDark 0x50 s then { s with pwr := { s.pwr with rtc := rtc } }
  else
  let endurance := get Reg.NFC.WEAR_ENDURANCE_K s * 1000
  let worn := (touchedBlocks s).foldl (fun n b => n + min endurance b.2.erases) 0
  let left := (get Reg.NFC.POOL_BLOCKS s * endurance - worn) / 1024
  let life := max (30 * 86400) (get Reg.LEH.WEAR_LIFE_YEARS s * 31557600 - (rtc - s.mrv.firstInit))
  let wa := max 100 (get Reg.LEH.WA_PCT s)
  let rate : Rat := mkRat (left * 1024 * pagesPerBlock s * 100 : Nat) (life * 50000 * wa)
  let cap : Rat := (get Reg.LEH.WEAR_CFG_CAP_FRAMES s : Rat) * rate
  let credit : Rat := min (s.mrv.credit + rate) cap - (s.mrv.charged : Rat)
  let ahead := decide (credit < -cap)
  let log := ((now s, s.mrv.pagesAll, s.mrv.pagesSeal) :: s.mrv.pageLog).filter (fun e =>
    decide (now s < e.1 + 2 ^ 20) && e.2.1 != 0)
  let sealed := log.foldl (fun n e => n + e.2.2) 0
  { s with mrv := { s.mrv with credit := credit, charged := 0, pace := min (s.mrv.pace + rate) (rate + (granPages s : Rat)),
                               pagesAll := 0, pagesSeal := 0, pageLog := log },
           pwr := { s.pwr with rtc := rtc } }
    |> set Reg.NFC.REMAIN_PE_KCYCLES left
    |> set Reg.LEH.WEAR_RATE_PAGES (min 16777215 (floorNat (rate * 256)))
    |> setInt Reg.LEH.WEAR_CREDIT_PAGES credit.floor
    |> when (ahead && !bitOf (get (Reg.EVT_LIVE 0x41) s) 5) (fun s =>
        s |> event 0x41 5 |> raiseSimple 179 0 0 (get Reg.LEH.WEAR_CREDIT_PAGES s) 0)
    |> live 0x41 5 ahead
    |> set Reg.LEH.WA_PCT (if sealed = 0 then 100 else min 65535 (log.foldl (fun n e => n + e.2.1) 0 * 100 / sealed))

/-- The reserve of erased blocks (R217). -/
def saveReserve (s : State) : Nat :=
  let spill := (List.range 4).foldl (fun n q => n + get (Reg.GQ.CFG_SPILL_MIB q) s) 0
  ceilDiv (get Reg.LEH.BUDGET_EFF_GRAN s * granBytes s + 64 * 2 ^ 20 + spill * 2 ^ 20) (slcBlockBytes s) +
    4 * popCount (get Reg.SYS.CAPS_NAND_GROUPS s) 8

/-- A condition of a source follows a level: raised at the rise, its live bit falls with it. (log entry 49: DEDUCED). -/
def levelSource (n : Nat) (b : Bool) (snap2 snap3 : Nat) (s : State) : State :=
  if b then raiseHeld n 0 0 snap2 snap3 s else liveFall n s

/-- Erased blocks and spares against their limits (R217): the 50 frames of source 226 end here too.
(log entry 74: DEDUCED). -/
def reserveTick (s : State) : State :=
  if pageDark 0x50 s then s
  else
  let need := saveReserve s
  let erased := get Reg.NFC.ERASED_BLOCKS s
  let short := decide (erased < need)
  let low := if short then s.nand.lowFrames + 1 else 0
  let spare := get Reg.NFC.SPARE_PERMILLE s
  { s with nand := { s.nand with lowFrames := low } }
    |> set Reg.NFC.SAVE_RESERVE_BLOCKS need
    |> when (decide (erased < 2 * need)) (event 0x50 0)
    |> levelSource 225 (decide (erased < 2 * need)) erased need
    |> levelSource 226 (decide (50 ≤ low)) erased need
    |> when (decide (spare < 50)) (event 0x50 1)
    |> levelSource 227 (decide (spare < 50)) spare 0
    |> levelSource 228 (decide (spare < 20)) spare 0

/-- The watermarks in granules (R245). -/
def markTick (s : State) : State :=
  s |> set Reg.LEH.WM_LO_GRAN (get Reg.LEH.WM_LO_PCT s * s.mrv.bEff / 100)
    |> set Reg.LEH.WM_HI_GRAN (get Reg.LEH.WM_HI_PCT s * s.mrv.bEff / 100)

/-- The allowance of newly dirtied granules of each port (R246): what a port used beyond its share while it was throttled
counts against the next frame. -/
def allowanceTick (s : State) : State :=
  let weight := fun (n : Nat) => get (Nat.casesOn n Reg.LEH.THR_WEIGHT_W0 (fun k => Nat.casesOn k Reg.LEH.THR_WEIGHT_W1
    (fun j => Nat.casesOn j Reg.LEH.THR_WEIGHT_W2 (fun _ => Reg.LEH.THR_WEIGHT_W3)))) s
  let ports := [0, 1, 2, 3].filter (fun n => portUsed n s)
  let total := get Reg.LEH.THROTTLE_PCT s * s.mrv.sealedNow / 100 - s.mrv.mirrorNew
  let sum := max 1 (ports.foldl (fun n p => n + weight p) 0)
  let share := fun (n : Nat) =>
    max 1 (total * weight n / sum) -
      (if isSet Reg.LEH.THROTTLE_ACTIVE s then s.hp.newDirty.getD n 0 - s.mrv.allowance.getD n 0 else 0)
  { s with mrv := { s.mrv with allowance := [share 0, share 1, share 2, share 3] },
           hp := { s.hp with newDirty := [0, 0, 0, 0] } }

/-- The rates of the frame just ended (R246). -/
def rateTick (s : State) : State :=
  s |> set Reg.LEH.RATE_SEALED (min 65535 s.mrv.sealedNow) |> set Reg.LEH.RATE_NEW_DIRTY (min 65535 s.mrv.dirtiedNow)
    |> allowanceTick
    |> (fun s => { s with mrv := { s.mrv with sealedNow := 0, dirtiedNow := 0, mirrorNew := 0 } })

/-- The reason bits (R16 to R18, R238). -/
def reasonTick (s : State) : State :=
  s |> budgetRule
    |> put1 Reg.SYS.PERSIST_FAULT (dangerSticky s)
    |> put1 Reg.SYS.PERSIST_IN_DOUBT (anyInDoubt s)
    |> when s.mrv.fullEnded (fun s =>
        { s with mrv := { s.mrv with fullEnded := false } } |> set Reg.SYS.PERSIST_RECOUNT 0)

/-- The residue of a result of the unit with this page is checked (R47): an error takes the budget as 0 for the frame
(R48). -/
def checkResult (c : Nat × BitVec 18) (s : State) : State :=
  if wordGood c.2 then s else s |> raiseSimple 184 0 0 c.1 0 |> zeroBudget

/-- Step 4. -/
def step4 (x : TickIn) (s : State) : State :=
  s |> gaugeTick x.samples x.gaugeCut
    |> budgets
    |> (fun s => set Reg.LEH.BUDGET_STRICT_GRAN (min s.mrv.bStrict 33554431) s)
    |> rideWindow
    |> wearTick x.rtc |> markTick |> reserveTick |> reasonTick |> rateTick
    |> checkInjection 184 |> forEach x.checks checkResult

/-! ### Step 5: the pools (R43) -/

/-- The check of one pool (R43): free, held and queued against SIZE. The condition holds the live bit of source 187
until a reset of the block restores the count. (log entry 25: DESIGN CHOICE). -/
def poolCheck (a : Nat) (s : State) : State :=
  if poolConserved a s then s
  else s |> setPool a (fun q => { q with consErr := true }) |> raiseHeld 187 0 0 a 0

/-- Step 5: every pool is checked (R43), after the upsets of the frame. -/
def poolTick (x : TickIn) (s : State) : State :=
  s |> forEach (x.credits.filter (fun c => isPool (c.1 / 4096) (c.1 % 4096) && !pageDark (c.1 / 4096) s)) (fun c =>
        setPool c.1 (fun q => { q with skew := q.skew + c.2 }))
    |> checkInjection 187
    |> (fun s => forEach (s.pools.map (·.addr)) poolCheck s)
    |> (fun s => if s.pools.all (fun q => poolConserved q.addr s) then liveFall 187 s else s)

/-! ### Step 6: overruns and background slices (R61 to R66) -/

/-- A task runs in the frame that begins (R64); a warm return measures the drift of every rank (R286 step 2).
(log entry 32: DESIGN CHOICE). -/
def taskRuns (n : Nat) (s : State) : Bool :=
  if n = 3 then true
  else if n = 1 && savState s == 9 then decide (1 ≤ s.sav.warmStep)
  else if fenced s then false
  else if n = 1 || n = 2 || n = 5 then admittedNow s || 1 ≤ rsrStage s
  else admittedNow s

/-- The pages of a task's owner (R61). -/
def taskPages (n : Nat) : List Nat :=
  if n = 0 then [0x12] else if n = 1 || n = 2 then (List.range 16).map (0x20 + ·) else if n = 3 then [0x80]
  else if n = 4 then [0] else if n = 5 then [0x97] else if n = 6 then [0x41] else if n = 7 then [0x40]
  else if n = 8 then [0x50] else [0xA0, 0xA1, 0xA2, 0xA3]

/-- A fence, an abort or a freeze cuts the task's slice: no overrun (R65). -/
def sliceCut (n : Nat) (s : State) : Bool :=
  !taskRuns n s || (taskPages n).any (fun p => isSet (Reg.BLKSTS_ABORTING p) s || isSet (Reg.BLKCTL_FREEZE p) s)

/-- Overruns of one task in the frame just ended (R65, R66): a slice not finished, and of the Lehr a stall on the full delta
cache (R213). -/
def overrunTask (ran : List (Fin 10)) (n : Nat) (s : State) : State :=
  let over_ := (ran.any (fun k => k.val == n) && !sliceCut n s) || (n == 6 && s.mrv.deltaStall)
  let old := s.frm.windows.getD n []
  let was := (old.filter id).length
  let win := (over_ :: old).take 64
  let cnt := (win.filter id).length
  { s with frm := { s.frm with windows := modify s.frm.windows n (fun _ => win) } }
    |> set (Reg.FRM.OVERRUN_WINDOW n) cnt
    |> when over_ (inc (Reg.FRM.OVERRUN_COUNT n))
    |> when (decide (was ≤ 8) && decide (8 < cnt)) (fun s =>
        s |> event 1 0 |> raiseSimple (166 + n) 0 0 (get (Reg.FRM.OVERRUN_COUNT n) s + cnt * 2 ^ 16) 0)

/-- One line of the patrol scrub is read: a line that is not restored, or whose rank retrains or is down, is passed over
(R168); a full read pool makes the scrubber wait at the line (R41). `none` when it waits. -/
def scrubRead (line : Nat) (s : State) : Option State :=
  if unrestored (granuleOf line s) s || s.dram.retraining.contains (rankOfLine line s) || rankDown line s then some s
  else if readsFull (lineLoc line s).ch (lineLoc line s).sub s then none
  else some (queueRead line (.engine .scrub) s)

/-- The lines of the exposed capacity. -/
def scrubLines (s : State) : Nat := exposedBytes s / 64

/-- The read pool of a line's channel is full: the scrubber stalls. -/
def scrubStall (line : Nat) (s : State) : State := stallOn (poolAddr (0x20 + (lineLoc line s).ch) 0x124) s

/-- The scrub cursor reads up to `n` lines, to the end of the pass. -/
def scrubRun : Nat → State → State
  | 0, s => s
  | n + 1, s =>
    let line := s.dram.scrubLine
    if scrubLines s ≤ line then s
    else
      match scrubRead line s with
      | none => scrubStall line s
      | some t => scrubRun n { t with dram := { t.dram with scrubLine := line + 1 } }

/-- A rank that the second cursor covers: marginal, or RETIRE_PENDING (R167, R170). -/
def scrubbedMore (i : Nat) (s : State) : Bool :=
  isSet (Reg.SPR.RANK_MARGINAL i) s || get (Reg.SPR.RANK_STATE i) s == 3

/-- The second cursor passes `n` lines and reads those of marginal ranks; at the end it begins again (R167). -/
def marginalRun : Nat → State → State
  | 0, s => s
  | n + 1, s =>
    let line := if scrubLines s ≤ s.dram.marginalLine then 0 else s.dram.marginalLine
    match (if scrubbedMore (rankOfLine line s) s then scrubRead line s else some s) with
    | none => scrubStall line s
    | some t => marginalRun n { t with dram := { t.dram with marginalLine := line + 1 } }

/-- The end of a scrub pass: the error-check-and-scrub count of each rank (R168). -/
def scrubPassEnd (counts : List (Fin 64 × Nat)) (s : State) : State :=
  { s with dram := { s.dram with scrubLine := 0 } }
    |> inc Reg.SCR.PROGRESS_PASSES |> set Reg.SCR.PROGRESS_PERMILLE 0
    |> set Reg.SCR.LAST_PASS_FRAME (now32 s) |> event 0x12 0
    |> forEach (counts.filter (fun c => get Reg.SCR.CFG_ECS_LIMIT s < c.2)) (fun c s =>
        raiseSimple (64 + c.1.val) 2 c.1.val (rankWord c.1.val s) c.2 s)

/-- Task 0: the base rate of lines in the frame, and the second cursor at its multiple (R167); SCR runs while it is
enabled, not aborting and not frozen (R174). (log entry 102: DEDUCED). -/
def scrubTask (x : TickIn) (s : State) : State :=
  let rate := get Reg.SCR.RATE_LINES s
  if !pageReady 0x12 s || scrubLines s = 0 then s
  else
    let s := scrubRun rate s
    let s := when ((List.range 64).any (fun i => scrubbedMore i s))
      (marginalRun (get Reg.SCR.CFG_MARGINAL_MULT s * rate)) s
    if scrubLines s ≤ s.dram.scrubLine then scrubPassEnd x.ecs s
    else set Reg.SCR.PROGRESS_PERMILLE (s.dram.scrubLine * 1000 / scrubLines s) s

/-- A rank's retraining starts, or waits behind another of its channel (R155, R156). -/
def startRetrain (i : Nat) (byCrc : Bool) (s : State) : State :=
  if s.dram.retraining.contains i || s.dram.retrainWaiting.any (·.1 == i) then s
  else if s.dram.retraining.any (fun j => j / 4 == i / 4) then
    { s with dram := { s.dram with retrainWaiting := s.dram.retrainWaiting ++ [(i, byCrc)] } }
  else
    { s with dram := { s.dram with retraining := s.dram.retraining ++ [i] } }
      |> set (Reg.DCH.STS_MODE (i / 4)) 3

/-- The rank of a channel whose turn it is to be measured: the next one that has trained (R155). -/
def measuredRank (ch : Nat) (s : State) : Option Nat :=
  ((List.range 4).map (fun k => (s.dram.turn.getD ch 0 + k) % 4)).find? (fun r =>
    get (Reg.SPR.RANK_STATE (4 * ch + r)) s != 0 && get (Reg.SPR.RANK_STATE (4 * ch + r)) s != 7)

/-- A channel measures one rank (R155); a marginal rank is not retrained for its drift (R157). -/
def measureDrift (drift : List (Fin 16 × Nat)) (ch : Nat) (s : State) : State :=
  match measuredRank ch s with
  | none => s
  | some r =>
    let ps := ((drift.find? (fun d => d.1.val == ch)).map (·.2)).getD 0
    { s with dram := { s.dram with turn := modify s.dram.turn ch (fun _ => (r + 1) % 4) } }
      |> when (decide (get Reg.SPR.TRAIN_DRIFT_LIM s < ps) && !isSet (Reg.SPR.RANK_MARGINAL (4 * ch + r)) s)
          (startRetrain (4 * ch + r) false)

/-- A channel reads MR4 (R144): tREFI follows HOT at the next interval. -/
def readMr4 (ch : Nat) (temp : Int) (s : State) : State :=
  let cool := if temp < 82 then s.dram.cool.getD ch 0 + 1 else 0
  { s with dram := { s.dram with cool := modify s.dram.cool ch (fun _ => cool) } }
    |> setInt (Reg.DCH.TEMP_TEMP ch) temp
    |> when (decide (85 < temp) && !isSet (Reg.DCH.TEMP_HOT ch) s) (fun s =>
        s |> set (Reg.DCH.TEMP_HOT ch) 1 |> set (Reg.DCH.STS_HOT ch) 1 |> event (0x20 + ch) 0)

/-- Task 1: drift and temperature (R144, R155 to R157). -/
def driftTask (x : TickIn) (s : State) : State :=
  if !s.dram.trained || s.dram.selfRefresh then s
  else
    let ready := (List.range 16).filter (fun ch => pageReady (0x20 + ch) s)
    { s with dram := { s.dram with retrainCounts := s.dram.retrainCounts.filter (fun e => now s < e.2 + 65536) } }
      |> forEach ready (measureDrift x.drift)
      |> forEach (x.mr4.filter (fun m => ready.contains m.1.val)) (fun m => readMr4 m.1.val m.2)

/-- Task 4: telemetry (R441). -/
def telemetryTask (s : State) : State :=
  when (now s % max 1 (get (Reg.GQ.TELEM_PERIOD 1) s) = 0) telemetryRecord s

/-- A self-test item has completed (R422). -/
def testItem (r : Fin 10 × Bool) (s : State) : State :=
  { s with flt := { s.flt with testsDone := addNat s.flt.testsDone r.1.val } }
    |> when (!r.2) (fun s =>
        s |> set Reg.SAF.ST_FAIL_ITEM r.1.val |> inc Reg.SAF.ST_FAIL_FAILS
          |> event 0x97 1 |> selftestRecord r.1.val 1 |> raiseSimple 329 0 0 r.1.val 0)

/-- Task 5: a frame of the self-test cycle (R422). -/
def selftestTask (x : TickIn) (s : State) : State :=
  if !s.pwr.firmware then s
  else
    let s := s |> forEach (x.selftest.filter (fun r => r.1.val != 0)) testItem
    let n := min 66560 (get Reg.SAF.ST_PROGRESS_FRAME s + 1)
    let s := set Reg.SAF.ST_PROGRESS_FRAME n s
    if 65536 ≤ n && (List.range 9).all (fun k => s.flt.testsDone.contains (k + 1)) then
      { s with flt := { s.flt with testsDone := [] } }
        |> set Reg.SAF.ST_PROGRESS_FRAME 0 |> inc Reg.SAF.ST_PROGRESS_CYCLES
        |> set Reg.SAF.ST_LAST_FRAME (now32 s) |> event 0x97 2 |> selftestRecord 0 0
    else s

/-- The age table (R236). -/
def ageTick (s : State) : State :=
  let age := get Reg.LEH.SEAL_AGE_FRAMES s
  { s with mrv := { s.mrv with groups := s.mrv.groups.map (fun g =>
      (g.1, { g.2 with old := g.2.old || decide (age ≤ (now s % 65536 + 65536 - g.2.stamp) % 65536) })) } }

/-- Entries not CLEAN in a range. -/
def countDirty (lo n : Nat) (s : State) : Nat :=
  (s.mrv.entries.filter (fun e => lo ≤ e.1 && e.1 < lo + n && e.2.state != .clean && entryInUse e.1 s)).length

/-- A recount ends with the accumulator: a difference loads the counter (R237). -/
def endRecount (accum : Nat) (summaryBad : Bool) (raises : Bool) (s : State) : State :=
  let bad := accum != get Reg.MRV.DIRTY_COUNT s || summaryBad
  s |> set Reg.MRV.RC_LAST_ACCUM accum |> inc Reg.MRV.RC_STS_PASSES |> event 0x40 3
    |> when bad (fun s =>
        s |> when raises (raiseSimple 178 0 0 accum (get Reg.MRV.DIRTY_COUNT s))
          |> set Reg.MRV.DIRTY_COUNT accum |> set Reg.MRV.RC_STS_MISMATCH 1 |> event 0x40 0)

/-- The check bits of the entries of a recount slice (R49, R231). -/
def checkSlice (x : TickIn) (s : State) : State :=
  let lo := get Reg.MRV.RC_CURSOR_INDEX s
  s |> checkInjection 176 |> checkInjection 177
    |> forEach (x.recountEcc.filter (fun e => lo ≤ e.1 && e.1 < lo + 256 && entryInUse e.1 s)) (fun e =>
        checkEntry e.1 e.2)

/-- Task 7: 256 entries of the periodic recount, with the decay of HEAT (R234, R237), while the Marver is enabled, not
aborting and not frozen (R248). -/
def recountTask (x : TickIn) (s : State) : State :=
  let s := if isSet Reg.MRV.RC_STS_FULL_ACTIVE s || !pageReady 0x40 s then s else checkSlice x s
  if isSet Reg.MRV.RC_STS_FULL_ACTIVE s || !pageReady 0x40 s then s
  else
    let lo := get Reg.MRV.RC_CURSOR_INDEX s
    let hit := fun (g : Nat) => lo ≤ g && g < lo + 256
    let acc := s.mrv.accum + countDirty lo 256 s
    let entries := (s.mrv.entries.map (fun e =>
      if hit e.1 then (e.1, { e.2 with heat := e.2.heat - 1 }) else e)).filter (fun e => e.2 != {})
    let s := { s with mrv := { s.mrv with entries := entries, accum := acc } }
    let s := s |> when (!x.summaryBad.isEmpty) (fun s =>
        s |> raiseSimple 178 0 0 acc (get Reg.MRV.DIRTY_COUNT s) |> set Reg.MRV.RC_STS_MISMATCH 1 |> event 0x40 0
          |> forEach x.summaryBad groupFollow)
    if lo + 256 < 16777216 then set Reg.MRV.RC_CURSOR_INDEX (lo + 256) s
    else
      { s with mrv := { s.mrv with accum := 0 } } |> set Reg.MRV.RC_CURSOR_INDEX 0 |> checkInjection 178
        |> endRecount acc false true

/-- A move begins, of a record that R218 to R220 have moved. A record that does not check when it is read is ignored (R49,
R208), and its granule is sealed again (R220). A full pool makes the move wait (R41). (log entry 102: DEDUCED). -/
def beginMove (m : MoveStart) (s : State) : State :=
  match currentRecord m.granule s with
  | some r =>
    if r.loc = m.src ∧ s.nand.moving.all (fun q => q.granule != m.granule) ∧ moveDue m.src s ∧ channelTakes m.dst.ch s ∧
        dieTakes m.dst.ch m.dst.die s then
      if m.ok && sealValid r s then
        withCredit (poolAddr (0x60 + m.dst.ch) 0x118) false (startMove r m.dst.ch m.dst.die) s
      else forceDirty m.granule s
    else s
  | none => s

/-- Task 8 (R218 to R220), while the seal store takes requests. -/
def moveTask (x : TickIn) (s : State) : State := if pageReady 0x50 s then forEach x.moves beginMove s else s

/-- Task 9: the frames without a push of each queue (R433); the flush itself is GATHER_LINGER_FLUSH. -/
def lingerTask (s : State) : State :=
  forEach (List.range 4) (fun q => setQueue q (fun g =>
    { g with idle := if g.pushed || g.packing.isEmpty then 0 else g.idle + 1, pushed := false })) s

/-- The slices of the tasks that run. -/
def slices (x : TickIn) (s : State) : State :=
  s |> when (taskRuns 0 s) (scrubTask x) |> when (taskRuns 1 s) (driftTask x)
    |> when (taskRuns 4 s) telemetryTask |> when (taskRuns 5 s) (selftestTask x)
    |> when (taskRuns 7 s) (recountTask x) |> when (taskRuns 8 s) (moveTask x)
    |> when (taskRuns 9 s) lingerTask

/-! ### What else hardware times by frames -/

/-- The DELTA record of the frame's entries (R212); a save programs its own. -/
def deltaTick (s : State) : State := if fenced s then s else writeDelta false s

/-- Trigger lines, the save and the ride (R281, R283, R286, R294). -/
def savTick (s : State) : State :=
  let good := vinGoodNow s
  let missed := if savArmed s && !fenced s && !vinCodeAbove s.eng.last.vin s then s.sav.missed + 1 else 0
  let s := setSavs (fun v => { v with vinFrames := if good then v.vinFrames + 1 else 0, vinGood := good,
                                      missed := missed }) s
  let frames := if savState s = 4 || savState s = 7 then min 65536 (s.flt.aonFrames + 1) else 0
  let s := { s with flt := { s.flt with aonFrames := frames } }
  let s := when (missed == 0) (liveFall 333) s
  let st := savState s
  if st = 4 then
    if dangerSticky s || inSafe s then wake s
    else if get Reg.ENG.RIDE_WIN_MS s = 0 then s |> triggerBit (if batState s = 0 then 7 else 5) |> wake
    else s
  else if st = 3 then
    if (get Reg.ENG.RIDE_WIN_MS s = 0 && !good) || (presealCut s && s.nand.sealing.isEmpty) then startSave s else s
  else if st = 7 then (if good then s else savePowerDown 2 s)
  else if st = 9 then
    if s.sav.warmStep = 2 then warmStep5 s
    else if s.sav.warmStep = 1 && !isSet Reg.MRV.RC_STS_FULL_ACTIVE s then warmStep4 s
    else s
  else s

/-- The restore's clocks (R95, R276, R313, R319): one that a trigger stopped waits for VIN, and powers down without it. -/
def restoreTick (s : State) : State :=
  let left := get Reg.RSR.TOTAL_GRAN s - get Reg.RSR.DONE_GRAN s
  let got := get Reg.RSR.DONE_GRAN s - s.rsr.doneBefore
  let eta := if 7 ≤ rsrStage s && got != 0 then left * (now s - s.rsr.imageFrom) / (50 * got)
    else left * granBytes s / (max 1 (get Reg.RSR.RATE_MBS s) * 1000)
  let s := { s with rsr := { s.rsr with doubtLeft := s.rsr.doubtLeft.map (· - 1) } }
    |> when (restoring s) (set Reg.RSR.ETA_MS (min 16777215 eta))
    |> when (rsrStage s == 8 && pageReady 0x43 s && !fenced s) (sweep 4112)
  if s.rsr.restart = 1 then restartRestore s
  else if s.rsr.restart = 2 && !vinGoodNow s then
    { s with rsr := { s.rsr with restart := 0 } } |> when (!goingDown s) (fun s => s |> savOutcome 6 |> startDown)
  else if s.rsr.restart = 2 && get Reg.SAV.VIN_STABLE_FRAMES s ≤ s.sav.vinFrames then restartRestore s
  else s

/-- A power-on that waits for VIN goes on with step 3 of R483. -/
def waitTick (s : State) : State :=
  if s.pwr.waitVin && get Reg.SYS.BOOT_STAGE s == 3 && vinGoodNow s then startRails true s else s

/-- The completion timeout that the ports ask for (R111). -/
def ctoShow (s : State) : State :=
  let req := if s.hp.decoders.any (·.decoder == 1) then
      max 2000 (ceilDiv (get Reg.TXN.CTX_LIMIT_UNITS s * 262144 * 1000000) 16000000000 + 2000)
    else 2000
  forEach [0, 1, 2, 3] (fun n => when (portUsed n s) (set (Reg.HPT.CTO_REQ_US n) req)) s

/-- `NCHn.UTIL`: the bus occupancy of the frame, a time that the model does not measure (log entry 29). -/
def busShow (ch : Nat) (s : State) : State :=
  if isSet (Reg.NCH.STS_TRAINED ch) s then
    s |> set (Reg.NCH.UTIL_PERMILLE ch) ((freshWord s).toNat % 1001) |> spend
  else s

/-- The occupancy of every NAND bus. -/
def busesShow (s : State) : State := forEach (List.range 32) busShow s

/-- The counts of the frame that software sees: bandwidth and heartbeats (R125, R331, R352).
(log entries 29, 90: DESIGN CHOICE, DEDUCED). -/
def countersTick (s : State) : State :=
  let s := forEach [0, 1, 2, 3] (fun n s =>
    if portUsed n s then
      s |> set (Reg.HPT.BW_RD_LINES n) (min 16777215 (s.hp.readLines.getD n 0))
        |> set (Reg.HPT.BW_WR_LINES n) (min 16777215 (s.hp.writtenLines.getD n 0))
    else s) s
  let s := busesShow s
  let s := if isSet Reg.SYS.CAPS_TWIN s then
      s |> when (puntyUp s) (fun s =>
            s |> set Reg.PNT.BW_TX_FLITS (freshWord s).toNat |> set Reg.PNT.BW_RX_FLITS (freshWord (spend s)).toNat
              |> set Reg.PNT.REPLAYS_COUNT (min 4294967295 (get Reg.PNT.REPLAYS_COUNT s + (freshWord (spend (spend s))).toNat))
              |> spend |> spend |> spend)
        |> when (paired s && (twinAttached s || twinState s == 2 || twinState s == 7)) (fun s =>
            set Reg.TWN.STS_MISSED (if s.twn.heard then 0 else min 3 (get Reg.TWN.STS_MISSED s + 1)) s)
        |> when (puntyUp s) (sendTwin "HEARTBEAT" [now s, twinState s, b2n (asyncMode s), s.twn.seqIn])
    else s
  { s with hp := { s.hp with readLines := [0, 0, 0, 0], writtenLines := [0, 0, 0, 0] },
           twn := { s.twn with heard := false,
                               waitLeft := if twinState s = 1 then s.twn.waitLeft.map (· - 1) else s.twn.waitLeft } }

/-- Frames without a marker (R57). -/
def syncTick (seen : Bool) (s : State) : State :=
  if get Reg.FRM.SRC_MODE s = 1 && !seen then
    s |> set Reg.FRM.SYNC_MISSED (min 15 (get Reg.FRM.SYNC_MISSED s + 1)) |> set Reg.FRM.SYNC_LOCK_RUN 0
  else s

/-- The sources whose check belongs to an access or to a step, and not to every frame (R47, R231, R237). -/
def checkedOnUse : List Nat := [176, 177, 178, 181, 182, 183, 184, 185, 187]

/-- Frames that the PLLs have taken to relock (R98). -/
def relockFrames (s : State) : State :=
  { s with pwr := { s.pwr with relocking := s.pwr.relocking.map (fun e => (e.1, e.2 + 1)) } }

/-- The frames of the key, of the pulse and of the PLLs that relock (R89, R98, R411); the check of every other source, which
watches its condition in every frame, takes an injection that waits for it (R83). (log entry 49: DEDUCED). -/
def faultTick (s : State) : State :=
  let due := s.flt.injections.filter (fun j => j.2.2 == 2 && !checkedOnUse.contains j.2.1)
  { s with flt := { s.flt with keyLeft := s.flt.keyLeft - 1 },
           pwr := { s.pwr with pulseLeft := s.pwr.pulseLeft - 1 } }
    |> relockFrames |> forEach due (fun j => checkInjection j.2.1)

/-- Contexts that wait for space count their frames (R184). -/
def stallTick (s : State) : State :=
  { s with hp := { s.hp with stalled := s.hp.stalled.map (fun q =>
      match q.why with
      | .hold n => { q with why := .hold (n + 1) }
      | _ => q) } }

/-- The update's clocks and the settings store (R473, R477, R482). -/
def updTick (s : State) : State :=
  let n := s.upd.written
  { s with upd := { s.upd with
      bootFrames := if s.pwr.firmware then s.upd.bootFrames + 1 else s.upd.bootFrames,
      okSeen := s.upd.okSeen || isSet Reg.SYS.PERSIST_OK s, written := 0 } }
    |> when (n != 0) (fun s => s |> count Reg.SET.COUNTS_RECORDS n |> setShow)
    |> (fun s => if get Reg.SET.AREA_FREE_KIB s < 256 && !fenced s && !pageDark 0xB2 s then
          { s with upd := { s.upd with compacting := true } } else s)

/-- The Gather spill in use, in bytes: the words held beyond the 16 of head and tail (R288, R434).
(log entry 87: DEDUCED). -/
def spillInUse (s : State) : Nat := s.gq.foldl (fun n g => n + (g.held.length - 16) * 64) 0

/-- `SAV.ETA` (R289). -/
def etaTick (s : State) : State :=
  let bytes := dirtyEff s * granBytes s + spillInUse s
  set Reg.SAV.ETA_US (min 16777215 (50000 + bytes / max 1 (saveRate s))) s

/-- A tick (R59). -/
def tick (x : TickIn) (s : State) : State :=
  let seen := s.frm.markerSeen
  s |> countTick |> commitTick |> shadowTick |> switchTick |> step4 x |> poolTick x
    |> forEach (List.range 10) (overrunTask x.overruns) |> (fun s => { s with mrv := { s.mrv with deltaStall := false } })
    |> slices x |> ageTick |> deltaTick |> autoRetire |> startMigration |> etaShow
    |> countersTick |> twinTick |> ringTick |> ctoShow |> syncTick seen |> faultTick |> stallTick |> updTick |> etaTick
    |> abortTick |> waitTick |> restoreTick |> savTick

end Sys2Proof.Machine
end

