-- ==== Sys2Proof/Machine/GroupOps.lean ====
section
/-! DEFINITION. A domain that its reaction leaves off (R394), a port that fails (R103), register writes past the
access rules of a class (R67 to R72, R505), and the discipline of the tick (R55 to R57). -/

namespace Sys2Proof.Machine

/-- `HPTn.LINK` as a word. -/
def linkWord (n : Nat) (s : State) : Nat :=
  get (Reg.HPT.LINK_WIDTH n) s + get (Reg.HPT.LINK_RATE n) s * 4 + get (Reg.HPT.LINK_DEGRADED n) s * 16

/-- A port cannot train, or its domain stays off: it is down (R103). -/
def portFailed (n : Nat) (s : State) : State :=
  s |> portLinkDown n |> raiseSimple (148 + n) 0 n (linkWord n s) 0

/-- The GROUP reaction of a domain (R394): its units fail at once, and it is left off from the next tick (R60). -/
def domainGroup (d : Nat) (s : State) : State :=
  if !domainPresent d s then s
  else
    let s := { s with pwr := { s.pwr with groupDoms := addNat s.pwr.groupDoms d } }
    if d < 8 then portFailed (d % 4) s
    else if d < 10 then puntyDown s
    else if d < 26 then forEach (List.range 4) (fun k => rankLost (4 * (d - 10) + k)) s
    else if d < 30 then ranksLost (6 + (d - 26)) s
    else if d < 38 then forEach (List.range 4) (fun k => channelFailed (4 * (d - 30) + k)) s
    else if d = 44 || d = 50 then s
    else coldReset false s

/-- The source of a domain, and what its acknowledgement's failure shows (R394, R425). -/
def domainSource (d : Nat) : Nat := 268 + d
def domainWord (d : Nat) (s : State) : Nat :=
  get (Reg.PDM.DOM_CTL_REQ d) s + get (Reg.PDM.DOM_CTL_REACT d) s * 4 + get (Reg.PDM.DOM_CTL_STATE d) s * 16 +
  get (Reg.PDM.DOM_CTL_ACK_FAIL d) s * 64

/-- The switch of a domain is given up. -/
def dropSwitch (d : Nat) (s : State) : State :=
  { s with pwr := { s.pwr with switching := s.pwr.switching.filter (·.dom != d) } }

/-- The REACT of a domain whose switch was not acknowledged (R394): IGNORE leaves the switch waiting, RETRY repeats it up
to 3 times. (log entry 70: DEDUCED). -/
def domainReact (d : Nat) (s : State) : State :=
  let r := get (Reg.PDM.DOM_CTL_REACT d) s
  if r = 0 then s
  else if r = 1 && s.pwr.switching.any (fun x => x.dom == d && decide (x.tries < 3)) then
    { s with pwr := { s.pwr with switching := s.pwr.switching.map (fun (x : Switch) =>
        if x.dom = d then { x with tries := x.tries + 1 } else x) } }
  else if r = 3 then s |> dropSwitch d |> request .chipReset
  else s |> dropSwitch d |> domainGroup d

/-- The REACTs that waited for the manifest (R395). (log entry 70: DEDUCED). -/
def runWaitingDomains (s : State) : State :=
  { s with pwr := { s.pwr with waitingDoms := [] } } |> forEach s.pwr.waitingDoms domainReact

/-! ### A write of one field (R67 to R72, R505) -/

/-- A field that is no part of any table. -/
def inRange (lo hi v : Nat) : Bool := lo ≤ v && v ≤ hi

/-- The phase of the shadow close (R58). -/
def shadowClose : Nat := 39800

/-- A class F value waits in a shadow (R68): one value for the next tick, and one for the tick after. -/
def addShadow (f : Fld) (v phase : Nat) (s : State) : State :=
  let late := decide (shadowClose ≤ phase)
  { s with shadows := s.shadows.filter (fun h => !(h.f.key == f.key && h.late == late)) ++
      [{ f := f, value := v, late := late }] }

/-- A write to a class S field (R67, R71, R72). (log entry 9: DEDUCED). -/
def writeStatic (w : Writer) (f : Fld) (v : Nat) (ok : Bool) (apply : State → State) (s : State) : State :=
  let p := f.addr / 4096
  if v = shown f s then s
  else if isSet (Reg.LOCK_LOCK p) s then werrLocked w f.addr s
  else if isSet (Reg.BLKCTL_ENABLE p) s then werrStatic w f.addr s
  else if pageBusy p s then werrBusy w f.addr s
  else if !ok then werrRange w f.addr s
  else apply (set f v s)

/-- A write to a class F field (R68, R69, R71, R72). (log entry 9: DEDUCED). -/
def writeShadowed (w : Writer) (f : Fld) (v phase : Nat) (ok : Bool) (s : State) : State :=
  let p := f.addr / 4096
  if v = shown f s then s
  else if isSet (Reg.LOCK_LOCK p) s then werrLocked w f.addr s
  else if !ok then werrRange w f.addr s
  else if isSet (Reg.BLKCTL_ENABLE p) s then addShadow f v phase s
  else set f v s

/-! ### The tick source (R55 to R57) -/

/-- A marker reaches a ring member: its tick and its frame number follow (R55, R56). The first of a frame counts
(log entry 20: DEDUCED). A device that is locked stays so while markers arrive, whatever phase error or frame number they
show: R55 says when it locks and R57 when it falls back, and no rule ends the lock otherwise (log entry 105: DEDUCED). -/
def discipline (frame : Nat) (phaseErr : Int) (delay : Nat) (s : State) : State :=
  if get Reg.FRM.SRC_MODE s ≠ 1 || s.frm.markerSeen then s
  else
    let mine := now s
    let run := s.frm.lengthening
    let jump := fun (s : State) => s |> inc Reg.FRM.SRC_JUMPS |> event 1 3
    let s := { s with frm := { s.frm with markerSeen := true, lengthening := decide (frame < mine),
                                          adopt := if mine < frame then some (BitVec.ofNat 48 frame) else none } }
    let good := decide (phaseErr.natAbs ≤ 100) && frame == mine
    s |> set Reg.FRM.SYNC_MISSED 0 |> setInt Reg.FRM.SYNC_PHASE_ERR phaseErr
      |> set Reg.FRM.RING_DELAY_DELAY delay
      |> set Reg.FRM.SYNC_LOCK_RUN (if good then min 4095 (get Reg.FRM.SYNC_LOCK_RUN s + 1) else 0)
      |> when (get Reg.FRM.SRC_STATE s != 2) (set Reg.FRM.SRC_STATE 1)
      |> liveFall 165
      |> when (decide (mine < frame) || (decide (frame < mine) && !run)) jump

end Sys2Proof.Machine
end

