-- ==== Sys2Proof/Machine/CarCmds.lean ====
section
/-! DEFINITION. The commands of the code array: the three-write sequences, programs and erases, suspends, reads and
fetches (R446 to R463). -/

namespace Sys2Proof.Machine

/-! ### Targets (R446, R454, R459) -/

/-- The bank that a byte offset of BAR2 addresses: the option window lies in bank 1. -/
def carTarget (off : Nat) : Option Nat :=
  if off < 0x1000000 then some 0 else if off < 0x2001000 then some 1 else none

/-- A byte offset lies in the option-area window. -/
def inOption (off : Nat) : Bool := 0x2000000 ≤ off && off < 0x2001000

/-- A remap entry of a block, factory or grown. -/
def remapOf (block : Nat) (s : State) : Option Nat :=
  ((s.car.factoryRemaps ++ s.car.remaps).find? (fun r => r.1 == block)).map (·.2)

/-- A block recorded against a bank without a spare left. -/
def badNoSpare (block : Nat) (s : State) : Bool := remapOf block s == some 15

/-- A block that takes no program and no erase. -/
def carLocked (block : Nat) (s : State) : Bool := isProtected block s || badNoSpare block s

/-- The area that the controller itself keeps there beside the model's words: the settings store, whose KEYs the spec does not
give (R464, R476).
(log entry 79: DESIGN CHOICE). -/
def ownArea (block : Nat) : Bool :=
  384 ≤ block && block < 504

/-- What a word holds, where the model follows it; a free value where its content is undefined or stands apart from the
array. -/
def wordNow (o : Nat) (s : State) : Nat × State :=
  if s.car.bad.contains o || (ownArea (blockOfWord o) && (look s.car.words o).isNone && o < optBase) then
    ((freshWord s).toNat, spend s)
  else (Nat.land (arrayWord o s) (arrayCopy o s), s)

/-- The slot that a block belongs to (R464). (log entry 80: DESIGN CHOICE). -/
def slotOfBlock (b : Nat) : Option (Nat × Bool) :=
  (([0, 1, 2, 3] : List Nat).flatMap (fun c => [(c, false), (c, true)])).find? (fun x =>
    slotFirst x.1 x.2 ≤ b && b < slotFirst x.1 x.2 + slotSize x.1)

/-- A slot's image after a word of it was programmed by command: whether its checks would end well is a free value.
(log entry 33: DESIGN CHOICE). -/
def slotFollow (b : Nat) (s : State) : State :=
  match slotOfBlock b with
  | none => s
  | some (c, slotB) =>
    let free := (freshWord s).toNat % 2 == 1
    let staged := arrayWord (slotWord c slotB + 1022) s == 0x5A5A
    let img := imageHeader c slotB staged free s
    let img := { img with rejected := arrayWord (slotWord c slotB + 1023) s != erasedWord }
    s |> spend |> setImage c slotB (fun _ => img) |> updShow

/-! ### Operations (R450 to R455) -/

/-- Bits [8:2] of the status word are set. -/
def carFailed (b : Nat) (s : State) : Bool := bitsOf (carStatus b s) 2 7 != 0

/-- The bank's mode of its status word: read array or read ID (R451). (log entry 78: DEDUCED). -/
def carMode (b m : Nat) (s : State) : State := set (Reg.CAR.BANK_STS_MODE b) m s

/-- SEQ_ERR, with the open sequence gone. -/
def seqErr (b : Nat) (s : State) : State :=
  let k := carBank b s
  s |> setCarBank b { k with step := 0 } |> carFlag b 128

/-- An operation is refused: it ends at once with bits of the status word. (log entry 78: DEDUCED). -/
def carRefuse (b bits : Nat) (s : State) : State :=
  let k := carBank b s
  s |> setCarBank b { k with step := 0 } |> carFlag b bits |> carMode b 1 |> event 0xB0 0

/-- An operation starts. -/
def carStart (b : Nat) (x : CarOp) (s : State) : State :=
  let k := carBank b s
  s |> setCarBank b { k with step := 0, op := some x, under := k.op } |> carMode b 1 |> carShow b

/-- The reason why PROGRAM of a word is refused, as status bits (R448, R453, R454, R457, R459). -/
def programRefusal (block o data old : Nat) (s : State) : Nat :=
  if carLocked block s then 64 + 4
  else if s.car.eraseIncomplete.contains block then 256 + 4
  else if s.car.unreliable.contains block then 4
  else if isTally block s && 0x2000 ≤ o % 0x4000 then 128
  else if old = erasedWord then 0
  else if Nat.lor old data ≠ old then 16 + 4
  else if isTally block s then 0
  else 32 + 4

/-- PROGRAM of one word (R453); in an erase suspend only of another block (R455). -/
def carProgram (b o data : Nat) (s : State) : State :=
  let block := blockOfWord o
  let k := carBank b s
  let mayRun := match k.op with
    | none => true
    | some x => x.suspended && x.kind == 2 && x.block != block && k.under.isNone
  if carFailed b s || !mayRun then carRefuse b 128 s
  else
    let r := wordNow o s
    match programRefusal block o data r.1 r.2 with
    | 0 => carStart b { kind := 1, block := block, word := o, data := BitVec.ofNat 32 data } r.2
    | bits => carRefuse b bits r.2

/-- OPTION_PROGRAM of one word of the option area; its words carry check bits. -/
def carProgramOption (o data : Nat) (s : State) : State :=
  if carFailed 1 s || (carBank 1 s).op.isSome then carRefuse 1 128 s
  else
    let r := wordNow o s
    if r.1 = erasedWord then carStart 1 { kind := 3, block := 512, word := o, data := BitVec.ofNat 32 data } r.2
    else carRefuse 1 (if Nat.lor r.1 data ≠ r.1 then 16 + 4 else 32 + 4) r.2

/-- ERASE of a block: its flag sets when the erase starts, and an image in it is gone. -/
def carErase (b block : Nat) (s : State) : State :=
  if carFailed b s || (carBank b s).op.isSome then carRefuse b 128 s
  else if carLocked block s then carRefuse b (64 + 8) s
  else
    let s := match slotOfBlock block with
      | some (c, slotB) => s |> setImage c slotB (fun _ => {}) |> updShow
      | none => s
    { s with car := { s.car with eraseIncomplete := addNat s.car.eraseIncomplete block } }
      |> set (Reg.CAR.ERASE_PROGRESS_PERMILLE b) ((freshWord s).toNat % 1001) |> spend
      |> set (Reg.CAR.ERASE_PROGRESS_BLOCK b) (block % 256) |> set (Reg.CAR.ERASE_PROGRESS_SUSPENDS b) 0
      |> carStart b { kind := 2, block := block, word := 0, data := 0 }

/-- ERASE of a copy of the option area. -/
def carEraseOption (copy : Nat) (s : State) : State :=
  if carFailed 1 s || (carBank 1 s).op.isSome then carRefuse 1 128 s
  else carStart 1 { kind := 2, block := 512, word := optBase + 512 * copy, data := 0 } s

/-- The operand write of an open PROGRAM, ERASE or OPTION_PROGRAM. -/
def carOperand (b code off data : Nat) (s : State) : State :=
  if code = 0xA9 && !inOption off then carProgram b (off / 4) data s
  else if code = 0xE3 && data % 65536 = 0x3E && !inOption off then carErase b (off / 0x10000) s
  else if code = 0xE3 && data % 65536 = 0x3E && (off = 0x2000000 || off = 0x2000800) then
    carEraseOption (b2n (off == 0x2000800)) s
  else if code = 0xA6 && inOption off then carProgramOption (off / 4) data s
  else seqErr b s

/-- The command code of a sequence. -/
def carCode (b code : Nat) (s : State) : State :=
  let k := carBank b s
  let closed := setCarBank b { k with step := 0 }
  let stays := get (Reg.CAR.BANK_STS_MODE b) s == 1 && carFailed b s
  if code = 0xA9 || code = 0xE3 || (code = 0xA6 && b = 1) then setCarBank b { k with step := 3, code := code } s
  else if code = 0x57 then s |> closed |> carMode b 1
  else if code = 0x75 then
    s |> closed |> set (Reg.CAR.BANK_STS_STATUS b) (carStatus b s % 4) |> carMode b 0
  else if code = 0x99 then s |> closed |> when (!stays) (carMode b 0)
  else if code = 0x9A then s |> closed |> when (!stays) (carMode b 2)
  else seqErr b s

/-- SUSPEND of a running program or erase; an option operation keeps its bank busy to its end. (log entry 78: DEDUCED). -/
def carSuspend (b : Nat) (s : State) : State :=
  let k := carBank b s
  match k.op with
  | some x =>
    if x.suspended || optBase ≤ x.word then carFlag b 128 s
    else
      s |> setCarBank b { k with op := some { x with suspended := true } }
        |> when (x.kind == 2) (fun s => set (Reg.CAR.ERASE_PROGRESS_SUSPENDS b)
            (min 16383 (get (Reg.CAR.ERASE_PROGRESS_SUSPENDS b) s + 1)) s)
        |> carMode b 0 |> carShow b
  | none => carFlag b 128 s

/-- RESUME of a suspended operation. -/
def carResume (b : Nat) (s : State) : State :=
  let k := carBank b s
  match k.op with
  | some x =>
    if x.suspended then s |> setCarBank b { k with op := some { x with suspended := false } } |> carMode b 1 |> carShow b
    else carFlag b 128 s
  | none => carFlag b 128 s

/-- One write to a bank's aperture (R449). -/
def carStep (b : Nat) (x : CarWrite) (s : State) : State :=
  let k := carBank b s
  let d := x.data.toNat % 65536
  let at_ := if inOption x.off then 0x1000000 else x.off % 0x1000000 / 4
  if carBusy k then
    if d = 0x64 && k.step = 0 then carSuspend b s else carFlag b 128 s
  else if k.step = 0 then
    if d = 0x64 then carSuspend b s
    else if d = 0x46 then carResume b s
    else if d = 0xC3 && at_ = 0x2C94 then setCarBank b { k with step := 1, writer := x.by_.code } s
    else seqErr b s
  else if k.writer ≠ x.by_.code then seqErr b s
  else if k.step = 1 then
    if d = 0x3C && at_ = 0x1D6B then setCarBank b { k with step := 2 } s else seqErr b s
  else if k.step = 2 then
    if at_ = 0x2C94 then carCode b d s else seqErr b s
  else carOperand b k.code x.off x.data.toNat s

/-- A write to BAR2: past R77 and R86, to the bank that its address names. -/
def carWrite (x : CarWrite) (s : State) : State :=
  reach x.by_ 0xB0000 0 (fun s =>
    match carTarget x.off with
    | some b => carStep b x s
    | none => s) s

/-- The writes of a sequence, in order. (log entry 78: DEDUCED). -/
def carWrites (ws : List CarWrite) (s : State) : State := forEach ws carWrite s

/-- PROGRAM (R453). -/
def execProgram (ws : List CarWrite) (s : State) : Host.Outcome State Fault Refusal := run (carWrites ws) s
/-- ERASE (R454). -/
def execErase (ws : List CarWrite) (s : State) : Host.Outcome State Fault Refusal := run (carWrites ws) s
/-- SUSPEND (R455). -/
def execSuspend (x : CarWrite) (s : State) : Host.Outcome State Fault Refusal :=
  run (carWrite { x with data := 0x64 }) s
/-- RESUME_OPERATION (R455). -/
def execResumeOperation (x : CarWrite) (s : State) : Host.Outcome State Fault Refusal :=
  run (carWrite { x with data := 0x46 }) s
/-- READ_STATUS (R451). -/
def execReadStatus (ws : List CarWrite) (s : State) : Host.Outcome State Fault Refusal := run (carWrites ws) s
/-- CLEAR_STATUS (R451). -/
def execClearStatus (ws : List CarWrite) (s : State) : Host.Outcome State Fault Refusal := run (carWrites ws) s
/-- READ_ARRAY (R450). -/
def execReadArray (ws : List CarWrite) (s : State) : Host.Outcome State Fault Refusal := run (carWrites ws) s
/-- READ_ID (R450). -/
def execReadId (ws : List CarWrite) (s : State) : Host.Outcome State Fault Refusal := run (carWrites ws) s
/-- OPTION_PROGRAM (R450). -/
def execOptionProgram (ws : List CarWrite) (s : State) : Host.Outcome State Fault Refusal := run (carWrites ws) s

/-! ### Endings (R451, R452, R454) -/

/-- What a verified operation leaves in the array. -/
def carEffect (x : CarOp) (s : State) : State :=
  if x.kind = 2 then
    if optBase ≤ x.word then eraseCopy ((x.word - optBase) / 512) s
    else
      { s with car := { s.car with eraseIncomplete := s.car.eraseIncomplete.filter (· != x.block),
                                   unreliable := s.car.unreliable.filter (· != x.block) } } |> eraseBlock x.block
  else s |> putWord x.word x.data.toNat |> when (x.kind == 1) (slotFollow x.block)

/-- A failure after the die's retries: the status bit, the source and the event; a word is left undefined. -/
def carFailure (b : Nat) (x : CarOp) (s : State) : State :=
  let s := s |> when (x.kind != 2) (fun s => s |> spoilWord x.word |> when (x.kind == 1) (slotFollow x.block))
    |> carFlag b (if x.kind = 2 then 8 else 4)
  s |> raiseSimple 232 (if x.kind = 2 then 2 else 1) b (carStatus b s) x.block |> event 0xB0 1

/-- The operation of a bank ends; an erase that it interrupted stays suspended. -/
def carEnd (b : Nat) (ok : Bool) (s : State) : State :=
  let k := carBank b s
  match k.op with
  | none => s
  | some x =>
    if x.suspended then s
    else
      let s := s |> setCarBank b { k with op := k.under, under := none }
        |> (if ok then carEffect x else carFailure b x) |> event 0xB0 0
        |> when (ok && x.kind == 2 && x.word == 0) (set (Reg.CAR.ERASE_PROGRESS_PERMILLE b) 1000)
      s |> carShow b |> carMode b (b2n (carFailed b s))

/-- OP_DONE (R452). -/
def execOpDone (bank : Fin 2) (ok : Bool) (s : State) : Host.Outcome State Fault Refusal := run (carEnd bank.val ok) s

/-! ### Reads (R446 to R448, R451, R456) -/

/-- The status word answers a read: the bank is busy, in status mode, or the block is that of a suspended operation. -/
def carStatusRead (b block : Nat) (s : State) : Bool :=
  let k := carBank b s
  carBusy k || get (Reg.CAR.BANK_STS_MODE b) s == 1 || (k.op.map (fun x => x.block == block && x.word < optBase)).getD false

/-- Array data of one word: check bits, or the two copies of a tally block. (log entry 79: DESIGN CHOICE). -/
def carData (o bitErrors : Nat) (s : State) : State :=
  let block := blockOfWord o
  if o < optBase && isTally block s then
    if 0x2000 ≤ o % 0x4000 then emit (.arrayData 0 true) s
    else
      let r := wordNow o s
      let differ := arrayWord o s != arrayCopy o s
      r.2 |> when differ (fun s => s |> inc Reg.CAR.TALLY_DIFF |> set Reg.CAR.TALLY_ADDR_ADDR (4 * o) |> event 0xB0 3)
        |> emit (.arrayData r.1 true)
  else if bitErrors = 2 || (s.car.bad.contains o && (freshWord s).toNat % 2 == 0) then
    s |> spend |> inc Reg.CAR.ECC_UE |> event 0xB0 2
      |> (fun s => raiseSimple 232 3 0 (carStatus (block / 256 % 2) s) block s)
      |> emit (.arrayData erasedWord false)
  else
    let r := wordNow o (spend s)
    r.2 |> when (bitErrors = 1) (inc Reg.CAR.ECC_CE) |> emit (.arrayData r.1 true)

/-- ID mode: four words are given, and the others read a free value. (log entry 79: DESIGN CHOICE). -/
def carId (b w : Nat) (s : State) : State :=
  if w = 0 then emit (.arrayData 0x5A31 true) s
  else if w = 1 then emit (.arrayData 0x0032 true) s
  else if w = 2 then emit (.arrayData b true) s
  else if w = 3 then emit (.arrayData (sparesUsed b s) true) s
  else s |> emit (.arrayData (freshWord s).toNat true) |> spend

/-- A read of BAR2 at a byte offset; past the option window it reads 0. (log entry 79: DESIGN CHOICE). -/
def arrayRead (off bitErrors : Nat) (s : State) : State :=
  match carTarget off with
  | none => emit (.arrayData 0 true) s
  | some b =>
    let block := if inOption off then 512 else off / 0x10000
    if carStatusRead b block s then emit (.arrayData (carStatus b s) true) s
    else if get (Reg.CAR.BANK_STS_MODE b) s = 2 && !inOption off then carId b (off % 0x1000000 / 4) s
    else carData (off / 4) bitErrors s

/-- ARRAY_READ (R447). -/
def execArrayRead (_w : Writer) (off : Nat) (bitErrors : Fin 3) (s : State) : Host.Outcome State Fault Refusal :=
  run (arrayRead off bitErrors.val) s

/-- A code fetch from a busy bank traps. -/
def fetchTrap (b addr : Nat) (s : State) : State :=
  if carBusy (carBank b s) then
    s |> inc Reg.CAR.FETCH_TRAPS_COUNT |> event 0xB0 4 |> emit (.busTrap addr) |> raiseSimple 231 0 b b addr
  else s

/-- FETCH_TRAP (R456). -/
def execFetchTrap (bank : Fin 2) (addr : Word) (s : State) : Host.Outcome State Fault Refusal :=
  run (fetchTrap bank.val addr.toNat) s

end Sys2Proof.Machine
end

