-- ==== Sys2Proof/Machine/Frame.lean ====
section
/-! DEFINITION. The commands of the frame unit, the common header, the injection key, IRQ and CLK (R52 to R101,
R420, R499). -/

namespace Sys2Proof.Machine

/-- A packing word that has been idle for LINGER frames is emitted padded (R433). -/
def execGatherLingerFlush (q : Fin 4) (s : State) : Host.Outcome State Fault Refusal :=
  run (fun s =>
    if taskRuns 9 s && domainOn 44 s && decide (get (Reg.GQ.CFG_LINGER q) s ≤ (queue q s).idle) then flushPacking q s
    else s) s

/-- The master's marker reaches the frame unit (R55, R56). -/
def execSyncMarker (frame : Frame) (phaseErr : Int) (delay : Nat) (s : State) : Host.Outcome State Fault Refusal :=
  run (discipline frame.toNat phaseErr delay) s

/-- Fifty frames within the limits: locked (R55). -/
def execSyncLocked (s : State) : Host.Outcome State Fault Refusal :=
  run (fun s =>
    if get Reg.FRM.SRC_MODE s = 1 && get Reg.FRM.SRC_STATE s == 1 && decide (50 ≤ get Reg.FRM.SYNC_LOCK_RUN s) then
      s |> set Reg.FRM.SRC_STATE 2 |> event 1 2
    else s) s

/-- Three frames without a marker (R57). -/
def execSyncLost (s : State) : Host.Outcome State Fault Refusal :=
  run (fun s => if 3 ≤ get Reg.FRM.SYNC_MISSED s then ringFallback s else s) s

/-- `FRM.SRC.MODE` (class S) is written (R57). -/
def writeSrcMode (w : Writer) (mode : Nat) (s : State) : State :=
  writeStatic w Reg.FRM.SRC_MODE mode (decide (mode ≤ 1)) applySrcMode s

/-- FRM_SRC_MODE_WRITE (R57). -/
def execFrmSrcModeWrite (w : Writer) (mode : BitVec 2) (s : State) : Host.Outcome State Fault Refusal :=
  run (reach w 0x110C mode.toNat (writeSrcMode w mode.toNat)) s

/-! ### The common header -/

/-- ENABLE (R85). -/
def execEnable (w : Writer) (page : BitVec 12) (on : Bool) (s : State) : Host.Outcome State Fault Refusal :=
  run (reach w (ctlAddr page.toNat) (b2n on) (writeEnable w page.toNat on)) s

/-- ABORT (R92). -/
def execAbort (w : Writer) (page : BitVec 12) (s : State) : Host.Outcome State Fault Refusal :=
  run (reach w (ctlAddr page.toNat) 2 (writeAbort w page.toNat false)) s

/-- A block has reached idle (R92, R93). -/
def execAbortDone (page : BitVec 12) (s : State) : Host.Outcome State Fault Refusal :=
  run (fun s => if pageDark page.toNat s then s else finishAbort page.toNat s) s

/-- RESET (R83). -/
def execReset (w : Writer) (page : BitVec 12) (s : State) : Host.Outcome State Fault Refusal :=
  run (reach w (ctlAddr page.toNat) 4 (writeAbort w page.toNat true)) s

/-- FREEZE (R91). -/
def execFreeze (w : Writer) (page : BitVec 12) (on : Bool) (s : State) : Host.Outcome State Fault Refusal :=
  run (reach w (ctlAddr page.toNat) (8 * b2n on) (writeFreeze w page.toNat on)) s

/-- A frozen block stops at its safe point (R83). -/
def execFrozen (page : BitVec 12) (s : State) : Host.Outcome State Fault Refusal :=
  run (fun s =>
    if pageFrozen page.toNat s && !pageDark page.toNat s && !isSet (Reg.BLKSTS_ABORTING page.toNat) s then
      set (Reg.BLKSTS_FROZEN page.toNat) 1 s
    else s) s

/-- COMMIT_SHADOW (R73). (log entry 30: DEDUCED). -/
def writeCommitShadow (p : Nat) (s : State) : State :=
  { s with frm := { s.frm with commitShadow := addNat s.frm.commitShadow p } }

/-- COMMIT_SHADOW (R73). -/
def execCommitShadow (w : Writer) (page : BitVec 12) (s : State) : Host.Outcome State Fault Refusal :=
  run (reach w (ctlAddr page.toNat) 256 (writeCommitShadow page.toNat)) s

/-- LOCK is sticky until a chip reset (R72). -/
def writeLock (p : Nat) (s : State) : State := set (Reg.LOCK_LOCK p) 1 s

/-- LOCK (R72). -/
def execLock (w : Writer) (page : BitVec 12) (s : State) : Host.Outcome State Fault Refusal :=
  run (reach w (page.toNat * 4096 + 0x2C) 1 (writeLock page.toNat)) s

/-- FINJ_ARM (R90). -/
def execFinjArm (w : Writer) (page : BitVec 12) (src : BitVec 6) (mode : BitVec 2) (s : State) :
    Host.Outcome State Fault Refusal :=
  run (reach w (finjAddr page.toNat) (src.toNat + mode.toNat * 64 + 256)
    (writeFinj w page.toNat (src.toNat + mode.toNat * 64 + 256))) s

/-- FINJ_DISARM (R90). -/
def execFinjDisarm (w : Writer) (page : BitVec 12) (s : State) : Host.Outcome State Fault Refusal :=
  run (reach w (finjAddr page.toNat) 512 (finjOpen w page.toNat (endInjection page.toNat))) s

/-- The injection key (R89): 0 closes it, the two halves by consecutive writes of one writer open it. -/
def writeKey (w : Writer) (key : Nat) (s : State) : State :=
  if key = 0 then closeKey s
  else if key = 0xF17A then { s with flt := { s.flt with keyHalf := some w.code } }
  else if key = 0x0E85 && s.flt.keyHalf == some w.code then
    { s with flt := { s.flt with keyHalf := none, keyLeft := 65536 } } |> set Reg.SAF.FINJ_KEY_OPEN 1
  else { s with flt := { s.flt with keyHalf := none } }

/-- FINJ_KEY_WRITE (R89). -/
def execFinjKeyWrite (w : Writer) (key : BitVec 16) (s : State) : Host.Outcome State Fault Refusal :=
  run (reach w 0x97100 key.toNat (writeKey w key.toNat)) s

/-- The key has been open for 65,536 frames (R89). -/
def execFinjKeyTimeout (s : State) : Host.Outcome State Fault Refusal :=
  run (fun s => if isSet Reg.SAF.FINJ_KEY_OPEN s && s.flt.keyLeft == 0 then closeKey s else s) s

/-! ### SYS -/

/-- The exposed capacity is acknowledged (R19). -/
def ackCapacity (s : State) : State := set Reg.SYS.PERSIST_CAPACITY 0 s

/-- CAP_ACK (R19). -/
def execCapAck (w : Writer) (s : State) : Host.Outcome State Fault Refusal := run (reach w 0x14C 1 ackCapacity) s

/-- The management port moves to a port in use (R97, R120). -/
def writeMgmtPort (w : Writer) (n : Nat) (s : State) : State :=
  if portUsed n s then set Reg.SYS.MGMT_PORT_PORT n s else werrRange w 0x10C s

/-- MGMT_PORT_CHANGE (R120). -/
def execMgmtPortChange (w : Writer) (port : Fin 4) (s : State) : Host.Outcome State Fault Refusal :=
  run (reach w 0x10C port.val (writeMgmtPort w port.val)) s

/-! ### IRQ (R100) -/

/-- A search starts. -/
def writeFind (vector start : Nat) (s : State) : State :=
  { s with hp := { s.hp with finding := true } }
    |> set Reg.IRQ.FIND_VECTOR vector |> set Reg.IRQ.FIND_START start
    |> set Reg.IRQ.FIND_RES_DONE 0 |> set Reg.IRQ.FIND_RES_FOUND 0

/-- IRQ_FIND (R100). -/
def execIrqFind (w : Writer) (vector : BitVec 7) (start : BitVec 12) (s : State) : Host.Outcome State Fault Refusal :=
  run (reach w 0x311C (vector.toNat + start.toNat * 256) (writeFind vector.toNat start.toNat)) s

/-- The lowest page at or above START with pending events routed to a vector. -/
def findPage (vector start : Nat) (s : State) : Option Nat :=
  allPages.find? (fun p => start ≤ p && get (Reg.EVT_ROUTE_VECTOR p) s == vector &&
    isSet (Reg.EVT_ROUTE_TO_HOST p) s && (assertedEvents s).any (·.1 == p))

/-- IRQ_FIND_DONE (R100). (log entry 16: DEDUCED). -/
def execIrqFindDone (s : State) : Host.Outcome State Fault Refusal :=
  run (fun s =>
    if s.hp.finding then
      let r := findPage (get Reg.IRQ.FIND_VECTOR s) (get Reg.IRQ.FIND_START s) s
      { s with hp := { s.hp with finding := false } }
        |> set Reg.IRQ.FIND_RES_PAGE (r.getD 0) |> put1 Reg.IRQ.FIND_RES_FOUND r.isSome
        |> set Reg.IRQ.FIND_RES_DONE 1
    else s) s

/-- A vector's holdoff ends: one message if any fell due during it. -/
def execIrqHoldoffExpiry (vector : BitVec 7) (s : State) : Host.Outcome State Fault Refusal :=
  run (fun s =>
    let due := s.hp.holdoffs.any (fun h => h.vector == vector.toNat && h.due)
    { s with hp := { s.hp with holdoffs := s.hp.holdoffs.filter (·.vector != vector.toNat) } }
      |> when due (dueVector vector.toNat)) s

/-! ### CLK (R98, R99) -/

/-- A PLL loses lock, and hardware relocks it. -/
def execPllLockLoss (k : Fin 12) (s : State) : Host.Outcome State Fault Refusal :=
  run (fun s =>
    if !bitOf (get Reg.CLK.PLL_STS_LOCKED s) k then s
    else
      let s := { s with pwr := { s.pwr with relocking := s.pwr.relocking.filter (·.1 != k.val) ++ [(k.val, 0)] } }
        |> putBit Reg.CLK.PLL_STS_LOCKED k false |> putBit Reg.CLK.PLL_LOST_LOST k true
        |> inc Reg.CLK.LOCK_LOSSES_COUNT |> event 2 0
      raiseSimple 241 0 k (get Reg.CLK.PLL_LOST_LOST s) k s) s

/-- It regains lock. -/
def execPllRelock (k : Fin 12) (s : State) : Host.Outcome State Fault Refusal :=
  run (fun s =>
    if pllWaits k.val s then
      { s with pwr := { s.pwr with relocking := s.pwr.relocking.filter (·.1 != k.val) } }
        |> putBit Reg.CLK.PLL_STS_LOCKED k true |> event 2 1
    else s) s

/-- It has not relocked within 50 frames: the GROUP reaction of its domain (R394). -/
def execPllRelockTimeout (k : Fin 12) (s : State) : Host.Outcome State Fault Refusal :=
  run (fun s =>
    if s.pwr.relocking.any (fun e => e.1 == k.val && decide (50 ≤ e.2)) then
      { s with pwr := { s.pwr with relocking := s.pwr.relocking.filter (·.1 != k.val) } }
        |> forEach (pllDomains k.val) domainGroup
    else s) s

/-- The first lock after a PLL's domain switches on. -/
def execPllLocked (k : Fin 12) (s : State) : Host.Outcome State Fault Refusal :=
  run (fun s =>
    if (pllDomains k.val).any (fun d => domainOn d s) && !pllWaits k.val s then
      putBit Reg.CLK.PLL_STS_LOCKED k true s
    else s) s

/-- The crystal against the watchdog oscillator (R98, R499): source 332 beyond ±2,000 ppm for 2 frames. -/
def execXtalCheck (ppmX10 : Int) (frames : Nat) (s : State) : Host.Outcome State Fault Refusal :=
  run (fun s =>
    let wide := decide (20000 < ppmX10.natAbs)
    s |> when (!pageDark 2 s) (fun s =>
          s |> setInt Reg.CLK.XTAL_PPM_X10 (max (-32768) (min 32767 ppmX10))
            |> set Reg.CLK.XTAL_FRAME_FRAME (now32 s))
      |> (fun s =>
          if wide then (if 2 ≤ frames then raiseHeld 332 0 0 (encodeSigned 32 ppmX10) 0 s else s)
          else liveFall 332 s)) s

/-- The frame watchdog detects a stopped or slowed tick (R420). -/
def execFrameWatchdog (count_ : Nat) (s : State) : Host.Outcome State Fault Refusal :=
  run (raiseSimple 331 0 0 count_ 0) s

end Sys2Proof.Machine
end

