-- ==== Sys2Proof/Machine/HostOps.lean ====
section
/-! DEFINITION. Host requests: range decode, the write path from ingest to the write queue, the read path, what
waits and what is dropped (R8 to R11, R80, R81, R105, R115 to R117, R141, R180 to R184, R190, R198, R246, R317,
R335). -/

namespace Sys2Proof.Machine

/-! ### Decode (R80, R81, R104, R115) -/

/-- The DRAM line of a host address; none where no line answers: beyond the exposed or the mirror capacity, and in
the mirror range before PROMOTE. (log entry 37: DEDUCED). -/
def hostLine (a : HostAddr) (s : State) : Option Nat :=
  match a with
  | .home off => if off < exposedBytes s then some (off / 64) else none
  | .window off => if windowHome off s < exposedBytes s then some (windowHome off s / 64) else none
  | .mirror off =>
    if isSet Reg.TWN.STS_PROMOTED s && decide (off < mirrorGranules s * granBytes s) then
      some ((exposedBytes s + off) / 64)
    else none

/-- The context whose window an address lies in (R81). -/
def hostCtx (port : Nat) (a : HostAddr) (s : State) : Option Nat :=
  match a with
  | .window off => some (16 * port + windowCtx off s)
  | _ => none

/-- A committed decoder of the port covers an address (R104): decoders 0 and 3 the home range, 1 the window, 2 the mirror
range, which before PROMOTE no decoder needs to cover to be refused (R80). What no decoder covers is no request to the port.
(log entry 37: DEDUCED). -/
def decoded (port : Nat) (a : HostAddr) (s : State) : Bool :=
  let covers := fun (d off : Nat) =>
    s.hp.decoders.any (fun h => h.port == port && h.decoder == d && h.base ≤ off && off < h.base + h.size)
  match a with
  | .home off => covers 0 off || covers 3 off
  | .window off => covers 1 off
  | .mirror off => !isSet Reg.TWN.STS_PROMOTED s || covers 2 off

/-- The port takes a CXL.mem request to an address. -/
def takesRequest (port : Nat) (a : HostAddr) (s : State) : Bool := portTakes port s && decoded port a s

/-! ### Completions -/

/-- The completion of a write waits to be sent. -/
def awaitWrite (w : WriteWait) (s : State) : State := { s with hp := { s.hp with writes := s.hp.writes ++ [w] } }

/-- A write is completed and not applied (R105, R116). -/
def dropWrite (q : Stalled) (s : State) : State :=
  s |> inc (Reg.HPT.DROPPED_WR_COUNT q.port) |> event (8 + q.port) 3
    |> awaitWrite { port := q.port, tag := q.tag, line := q.line, seq := none, mailbox := q.mailbox }

/-- A read waits for its answer. -/
def awaitRead (port tag line : Nat) (data : Option (Option Line)) (s : State) : State :=
  { s with hp := { s.hp with reads := s.hp.reads ++ [{ port := port, tag := tag, line := line, data := data }] } }

/-- A request waits (R41). -/
def stall (q : Stalled) (why : WaitFor) (s : State) : State :=
  { s with hp := { s.hp with stalled := s.hp.stalled ++ [{ q with why := why }] } }

/-- A request finds the pool of its line's channel, with this register, without a credit for it (R41, R44). -/
def stallPool (q : Stalled) (o : Nat) (s : State) : State :=
  let d := lineLoc q.line s
  s |> stallOn (poolAddr (0x20 + d.ch) o) |> stall q (.pool d.ch d.sub)

/-- `CTX_STS.HOLD_WAIT` follows the writes that wait for the Hold set (R184). -/
def holdWaitShow (s : State) : State :=
  let waits := fun (g : Nat) => s.hp.stalled.any (fun (q : Stalled) => q.ctx == some g &&
    (match q.why with
     | .hold _ => true
     | _ => false))
  forEach allCtx (fun g s =>
    if isSet (Reg.TXC.CTX_STS_HOLD_WAIT (g / 16) (g % 16)) s = waits g then s
    else put1 (Reg.TXC.CTX_STS_HOLD_WAIT (g / 16) (g % 16)) (waits g) s) s

/-! ### Writes -/

/-- A write that reaches this line is completed and not applied: before admission, in read-hold or the safe state,
in the undo region, in a spill region, in an in-doubt granule (R105, R116, R117, R181, R198,
R434). -/
def writeRefused (port line : Nat) (s : State) : Bool :=
  !admittedNow s || isSet (Reg.HPT.STS_READ_HOLD port) s || inSafe s || inUndo (64 * line) s ||
  inSpill (64 * line) s || inDoubtGranule (granuleOf line s) s

/-- A line is written with poison: its residue does not check, and then its granule is LOST (R48), or the host marked its
data with poison (R102). Nothing of it goes to the twin, whose copy is marked stale. (log entry 90: DEDUCED). -/
def poisonedWrite (q : Stalled) (be : BitVec 64) (s : State) : State :=
  let g := granuleOf q.line s
  let stale := paired s
  s |> markWrite g (some q.port) |> homeGenWrite g
    |> when stale (setTwinDirty g)
    |> queueWrite q.line be q.data true
    |> when q.bad (fun s => s |> markLost g 2 |> raiseSimple 181 1 q.port (q.line % 2 ^ 32) (q.line / 2 ^ 32))

/-- A write enters the persistence domain (R8, R239, R335). -/
def applyWrite (q : Stalled) (be : BitVec 64) (s : State) : State :=
  let g := granuleOf q.line s
  let poison := q.bad || q.poison
  let sync := mirrored q.line s && twinState s == 4 && !asyncMode s && !poison
  let seq := s.twn.seqOut % 2 ^ 32
  s |> (if poison then poisonedWrite q be
        else fun s => s |> noteWrite q.line be q.data (some q.port) q.ctx |> queueWrite q.line be q.data false)
    |> when (be = allBytes) (overtakeRepair q.line)
    |> when (unrestored g s) (slotWrite g q.line)
    |> awaitWrite { port := q.port, tag := q.tag, line := q.line, seq := if sync then some seq else none, mailbox := q.mailbox }

/-- A context's line limit is exceeded (R183): the context aborts, the write is dropped. -/
def limitAbort (c : Nat) (q : Stalled) (s : State) : State :=
  s |> set (Reg.TXC.CTX_STS_LIMIT (c / 16) (c % 16)) 1 |> event 0x44 1 |> startAbort c |> dropWrite q

/-- A write that has found its credit: entries of ABORTING contexts are replayed first (R190), then the old line is logged
(R182), and the write enters; it waits while a repair of what those read is open (R164, R191). -/
def logThenApply (newLine : Bool) (c : Nat) (q : Stalled) (be : BitVec 64) (s : State) : State :=
  let done := { q with old := {} }
  let s := replayAhead q.line q.old s
  if !(replaysOf q.line s).isEmpty then stall done .repair s
  else
    let s := when newLine (readOld q.line q.old) s
    if newLine && (repairOf q.line s).isSome then stall done .repair s
    else s |> when newLine (logLine c q.line) |> applyWrite q be

/-- A write whose line and context are known, past the drops: what it waits for, or its application. -/
def placeWrite (q : Stalled) (be : BitVec 64) (s : State) : State :=
  let g := granuleOf q.line s
  let s := if unrestored g s then demand g s else s
  if waitsForRestore g q.line (be = allBytes) s then stall q (.demand g) s
  else
    let newLine := match q.ctx with
      | some c => !logged c q.line s
      | none => false
    let c := q.ctx.getD 0
    if newLine && decide (lineLimit s ≤ linesLogged c s) then limitAbort c q s
    else if newLine && !canHold c g s then
      let n := match q.why with
        | .hold k => k
        | _ => 0
      stall q (.hold n) s
    else if !writeFits q.line s then stallPool q 0x128 s
    else logThenApply newLine c q be s

/-- A window write whose context is not OPEN, or any while TXN is not ready (R180). -/
def lateWrite (q : Stalled) (s : State) : Bool :=
  match q.ctx with
  | some c => !(ctxState c s == 1 && txnReady s)
  | none => false

/-- `CTX_STS.LATE_WR` of the write's context. -/
def markLate (q : Stalled) (s : State) : State :=
  match q.ctx with
  | some c => set (Reg.TXC.CTX_STS_LATE_WR (c / 16) (c % 16)) 1 s
  | none => s

/-- A write: late and dropped (R180), dropped for its line, or placed. -/
def tryWrite (q : Stalled) (be : BitVec 64) (s : State) : State :=
  if lateWrite q s then s |> markLate q |> dropWrite q
  else if writeRefused q.port q.line s then dropWrite q s
  else placeWrite q be s

/-- The entry of a granule is read and its check bits checked (R231). -/
def readEntry (line : Nat) (ecc : MarverEcc) (s : State) : State :=
  if admittedNow s && entryInUse (granuleOf line s) s then
    s |> checkInjection 176 |> checkInjection 177 |> checkEntry (granuleOf line s) ecc
  else s

/-- A write's way past the ingest check (R8, R47). -/
def ingest (q : Stalled) (be : BitVec 64) (ecc : MarverEcc) (s : State) : State :=
  s |> checkInjection 181 |> readEntry q.line ecc |> tryWrite q be |> holdWaitShow

/-- A CXL.mem write arrives within the host's credits (R8, R29), and takes one; the host may mark its data with poison
(R102). -/
def hostWrite (port : Nat) (a : HostAddr) (be : BitVec 64) (data : Line) (tag : Nat) (poison : Bool) (x : WriteIn)
    (s : State) : State :=
  if !takesRequest port a s || s.hp.credits.getD port 0 == 0 then s
  else
    let s := { s with hp := { s.hp with writtenLines := modify s.hp.writtenLines port (· + 1),
                                        credits := modify s.hp.credits port (· - 1) } }
    let q : Stalled := { port := port, tag := tag, line := 0, be := some be, data := data, ctx := hostCtx port a s,
                         bad := !lineGood data x.residues, poison := poison, why := .demand 0 }
    match hostLine a s with
    | none => s |> when (lateWrite q s) (markLate q) |> dropWrite q
    | some line => ingest { q with line := line, old := errorsOf line x.old s } be x.ecc s

/-! ### Reads -/

/-- A read of this line is answered with poison whatever DRAM holds (R115). -/
def readRefused (line : Nat) (s : State) : Bool :=
  !admittedNow s || (entryOf (granuleOf line s) s).lost || inDoubtGranule (granuleOf line s) s

/-- The whole line is in the youngest write entry of its subchannel (R141). -/
def forwards (line : Nat) (s : State) : Bool := ((youngest line s).map (fun e => e.be == allBytes)).getD false

/-- The line is read from DRAM, or from the youngest write entry of its subchannel, which each read that meets one counts
once (R141). (log entry 35: DESIGN CHOICE). -/
def fetchLine (q : Stalled) (s : State) : State :=
  let d := lineLoc q.line s
  if !forwards q.line s && readsFull d.ch d.sub s then stallPool q 0x124 s
  else
    let s := when (youngest q.line s).isSome (inc (Reg.DCH.FWD_CNT_COUNT d.ch)) s
    if forwards q.line s then s |> awaitRead q.port q.tag q.line none |> serveReads q.line
    else if rankDown q.line s then s |> awaitRead q.port q.tag q.line none |> startRepair q.line .hostRead
    else s |> awaitRead q.port q.tag q.line none |> queueRead q.line (.host q.port q.tag)

/-- A read whose line is known. -/
def tryRead (q : Stalled) (s : State) : State :=
  let g := granuleOf q.line s
  if readRefused q.line s then awaitRead q.port q.tag q.line (some none) s
  else if inSpill (64 * q.line) s then
    { awaitRead q.port q.tag q.line (some (some (freshLine s))) s with free := s.free + 16 }
  else
    let s := if unrestored g s then demand g s else s
    if waitsForRestore g q.line false s then stall q (.demand g) s else fetchLine q s

/-- A CXL.mem read arrives (R105, R115). -/
def hostRead (port : Nat) (a : HostAddr) (tag : Nat) (ecc : MarverEcc) (s : State) : State :=
  if !takesRequest port a s then s
  else
    let s := { s with hp := { s.hp with readLines := modify s.hp.readLines port (· + 1) } }
    match hostLine a s with
    | none => awaitRead port tag 0 (some none) s
    | some line =>
      let q : Stalled := { port := port, tag := tag, line := line, be := none, data := 0, ctx := none,
                           why := .demand 0 }
      s |> readEntry line ecc |> tryRead q

/-! ### Requests that waited -/

/-- A request that waited is tried again. -/
def tryAgain (q : Stalled) (s : State) : State :=
  match q.be with
  | some be => tryWrite q be s
  | none => tryRead q s

/-- Every request that waits is tried again, oldest first; those that must still wait do. (log entry 56: DEDUCED). -/
def retryStalled (s : State) : State :=
  if s.hp.stalled.isEmpty then s
  else forEach s.hp.stalled tryAgain { s with hp := { s.hp with stalled := [] } } |> holdWaitShow

/-- The host reads that waited for a granule's restore, and the others that wait, go on (R317). -/
def afterRestore (s : State) : State := retryStalled s

/-! ### Completions sent (R8, R9, R11, R33 to R35, R48, R335) -/

/-- A new completion of a home write is held back while the oldest mirror write is not covered (R335): ASYNC, or
RESYNC, and a mirror write of an earlier frame outstanding. (log entry 51: DEDUCED). -/
def asyncHeld (w : WriteWait) (s : State) : Bool :=
  paired s && (twinState s == 3 || (twinState s == 4 && asyncMode s)) &&
  decide (granuleOf w.line s < homeGranules s) && s.twn.outstanding.any (fun m => m.frame < now s)

/-- The completion of a write may be sent. (log entry 51: DEDUCED). -/
def completable (w : WriteWait) (s : State) : Bool :=
  !fenced s && get (Reg.HPT.LINK_WIDTH w.port) s != 0 && !pllWaits (6 + w.port) s && !asyncHeld w s &&
  (match w.seq with
   | some q => !s.twn.outstanding.any (fun m => m.seq == q)
   | none => true)

/-- The completion is sent: the write is acknowledged (R9); that of a Clear Poison is the mailbox's answer (R118). -/
def sendCompletion (port tag : Nat) (s : State) : State :=
  match s.hp.writes.find? (fun w => w.port == port && w.tag == tag) with
  | none => s
  | some w =>
    if completable w s then
      { s with hp := { s.hp with writes := s.hp.writes.erase w } }
        |> emit (if w.mailbox then .mailbox port 0 [] else .writeDone port tag)
    else s

/-- A read response leaves the port: data, or poison with the data symbols that go with it (R115, R162). -/
def answerRead (r : ReadWait) (d : Option Line) (s : State) : State :=
  { s with hp := { s.hp with reads := s.hp.reads.erase r } }
    |> (fun s => match d with
        | some v => emit (.readDone r.port r.tag (some v)) s
        | none => sendPoison r.port r.tag r.under s)

/-- A read whose data is there after the final residue check (R47, R48): with one error the line is read again, with two the
host receives poison. `first` and `second` are the residues that the lanes carry in the two readings. -/
def sendRead (port tag : Nat) (first second : BitVec 64) (s : State) : State :=
  match s.hp.reads.find? (fun r => r.port == port && r.tag == tag && r.data.isSome) with
  | none => s
  | some r =>
    if get (Reg.HPT.LINK_WIDTH port) s = 0 || pllWaits (6 + port) s then s
    else
      let lo := r.line % 2 ^ 32
      let s := checkInjection 182 s
      match r.data.getD none with
      | none => answerRead r none s
      | some d =>
        if lineGood d first then answerRead r (some d) s
        else
          let s := s |> raiseSimple 182 1 port lo 0 |> checkInjection 183
          if lineGood d second then answerRead r (some d) s
          else s |> raiseSimple 183 2 port lo 0 |> answerRead r none

end Sys2Proof.Machine
end

