-- ==== Sys2Proof/Machine/DramCmds.lean ====
section
/-! DEFINITION. The commands of the DRAM channels, integrity and sparing (R127 to R176). -/

namespace Sys2Proof.Machine

/-! ### Queues, urgency and mode (R136 to R140) -/

/-- The channel's block is ready, DRAM is not in self-refresh, and the PLL of its group is locked (R98). -/
def channelRuns (ch : Nat) (s : State) : Bool :=
  pageReady (0x20 + ch) s && !s.dram.selfRefresh && !pllWaits (1 + ch / 4) s

/-- The subchannel `sub` of channel `ch`. -/
def subOf (ch sub : Nat) (s : State) : Sub := (look s.dram.subs (2 * ch + sub)).getD {}

def setSub (ch sub : Nat) (v : Sub) (s : State) : State :=
  { s with dram := { s.dram with subs := put {} s.dram.subs (2 * ch + sub) v } }

/-- The requester of a read (R121). -/
def requester : Reader → Nat
  | .host port _ => port
  | .engine .lehr => 5
  | .engine .save => 6
  | .engine .scrub => 8
  | .engine .undo => 9
  | .engine .partialRead => 9
  | .engine .migration => 8
  | .engine .hostRead => 0

/-- The class of a requester: 0 real-time, 1 normal, 2 background. -/
def classOf (n : Nat) (s : State) : Nat := get (Reg.QOS.REQ_CLASS n) s

/-- The urgency of an age in fabric cycles of 0.5 ns against a target in ns; a background requester stops at U1
(R137). -/
def urgency (age n : Nat) (s : State) : Nat :=
  let t := get (Reg.QOS.REQ_TARGET_NS n) s
  let u := if 2 * t ≤ age then 3 else if 3 * t ≤ 2 * age then 2 else if t ≤ age then 1 else 0
  if classOf n s = 2 then min u 1 else u

/-- An entry that waits in a subchannel's queue, with its order key (R137). -/
structure Waiting where
  line : Nat
  loc : DramLoc
  key : Nat
  deriving DecidableEq, Repr

/-- A bank of a subchannel: rank, bank group, bank. -/
def bankKey (d : DramLoc) : Nat := d.rank * 32 + d.bg * 4 + d.bank

/-- The rank of a line is being retrained: its requests wait (R156). -/
def rankBlocked (line : Nat) (s : State) : Bool := s.dram.retraining.contains (rankOfLine line s)

/-- Reads that wait in a subchannel, oldest first. -/
def waitingReads (ch sub : Nat) (s : State) : List Waiting :=
  (s.dram.reads.filter (fun r => r.ch == ch && r.sub == sub && !r.issued && !r.hashBad && !rankBlocked r.line s)).map (fun r =>
    { line := r.line, loc := lineLoc r.line s,
      key := urgency r.age (requester r.who) s * 4 + (2 - classOf (requester r.who) s) })

/-- Writes that wait in a subchannel, oldest first; a partial write waits for the read of its line, and for the repair of
what that read finds (R142, R165). -/
def waitingWrites (ch sub : Nat) (s : State) : List Waiting :=
  (s.dram.writes.filter (fun e => e.ch == ch && e.sub == sub && !e.issued && !e.held && !e.hashBad &&
    !rankBlocked e.line s && (e.be == allBytes || (e.ready && (repairOf e.line s).isNone)))).map (fun e =>
      { line := e.line, loc := lineLoc e.line s, key := 0 })

/-- The mode in the next slot (R140). A queue falls to `WQ_LO` when it has been above it in the batch.
(log entry 38: DEDUCED). -/
def nextMode (ch sub : Nat) (v : Sub) (s : State) : Sub :=
  let reads := s.dram.reads.filter (fun r => r.ch == ch && r.sub == sub && !r.issued)
  let r := reads.length
  let w := (s.dram.writes.filter (fun e => e.ch == ch && e.sub == sub && !e.issued)).length
  let realTime := reads.any (fun q => classOf (requester q.who) s == 0)
  let urgent := reads.any (fun q => decide (2 ≤ urgency q.age (requester q.who) s))
  if v.write then
    if w = 0 || (v.above && decide (w ≤ get (Reg.DCH.SCHED_WQ_LO ch) s)) ||
        (decide (get (Reg.DCH.SCHED_BATCH_MIN ch) s ≤ v.batch) && realTime) ||
        (decide (get (Reg.DCH.SCHED_BATCH_MAX ch) s ≤ v.batch) && urgent) then
      { v with write := false, batch := 0, above := false }
    else { v with above := v.above || decide (get (Reg.DCH.SCHED_WQ_LO ch) s < w) }
  else if decide (get (Reg.DCH.SCHED_WQ_HI ch) s ≤ w) || (r == 0 && decide (0 < w)) then
    { v with write := true, batch := 0, above := decide (get (Reg.DCH.SCHED_WQ_LO ch) s < w) }
  else v

/-! ### The pick (R138, R139) -/

/-- The next command of an entry. -/
inductive DramCmd where
  | column | precharge | activate
  deriving DecidableEq, Repr

/-- The open row of an entry's bank. -/
def openRow (ch sub : Nat) (d : DramLoc) (s : State) : Option OpenRow :=
  s.dram.rows.find? (fun r => r.ch == ch && r.sub == sub && r.rank == d.rank && r.bank == d.bg * 4 + d.bank)

/-- The heads of the per-bank queues. (log entry 38: DEDUCED). -/
def bankHeads (l : List Waiting) : List Waiting :=
  l.foldl (fun acc c => if acc.any (fun a => bankKey a.loc == bankKey c.loc) then acc else acc ++ [c]) []

/-- A row hit past HIT_CAP gives way to another entry of equal key in its bank: its row is closed first.
(log entry 38: DEDUCED). -/
def capped (ch : Nat) (r : OpenRow) (c : Waiting) (l : List Waiting) (s : State) : Bool :=
  decide (get (Reg.DCH.PAGE_HIT_CAP ch) s ≤ r.streak) &&
  l.any (fun e => e != c && bankKey e.loc == bankKey c.loc && e.key == c.key)

/-- What an entry needs next. -/
def commandOf (ch sub : Nat) (c : Waiting) (l : List Waiting) (s : State) : DramCmd :=
  match openRow ch sub c.loc s with
  | none => .activate
  | some r => if r.row = c.loc.row && !capped ch r c l s then .column else .precharge

/-- The pick of R138: the entry and its command. -/
def pick (ch sub rot : Nat) (l : List Waiting) (bankReady actReady : List Nat) (s : State) : Option (Waiting × DramCmd) :=
  let cands := (bankHeads l).filter (fun c => bankReady.contains (bankKey c.loc))
  let best := cands.foldl (fun n c => max n c.key) 0
  let top := cands.filter (fun c => c.key == best)
  match top.find? (fun c => commandOf ch sub c l s == .column) with
  | some c => some (c, .column)
  | none =>
    (List.range 8).findSome? (fun i =>
      (top.find? (fun c => c.loc.bg == (rot + i) % 8 && actReady.contains (bankKey c.loc))).map
        (fun c => (c, commandOf ch sub c l s)))

def setRows (l : List OpenRow) (s : State) : State := { s with dram := { s.dram with rows := l } }

/-- A bank's row closes. -/
def closeRow (ch sub rank bank : Nat) (s : State) : State :=
  setRows (s.dram.rows.filter (fun r => !(r.ch == ch && r.sub == sub && r.rank == rank && r.bank == bank))) s

/-- A rank leaves precharge power-down (R147). -/
def wakeRank (ch rank : Nat) (s : State) : State :=
  { s with dram := { s.dram with poweredDown := s.dram.poweredDown.filter (· != (ch, rank)) } }

/-- A row hit is served: the read or the write of the entry issues. (log entry 34: DEDUCED). -/
def issueColumn (ch sub : Nat) (write : Bool) (c : Waiting) (s : State) : State :=
  let s := setRows (s.dram.rows.map (fun r =>
    if r.ch = ch ∧ r.sub = sub ∧ r.rank = c.loc.rank ∧ r.bank = c.loc.bg * 4 + c.loc.bank then
      { r with streak := r.streak + 1 } else r)) s
  let s := { s with dram := { s.dram with served := addNat s.dram.served ch } }
  let v := subOf ch sub s
  if write then
    match s.dram.writes.find? (fun e => e.line == c.line && !e.issued) with
    | none => s
    | some e =>
      s |> landWrite e
        |> setWrites (s.dram.writes.map (fun x => if x.line = c.line ∧ x.issued = false then { x with issued := true } else x))
        |> setSub ch sub { v with batch := v.batch + 1 }
        |> emit (.dram ch sub "WR" [c.line])
  else
    s |> setReads (s.dram.reads.map (fun x => if x.line = c.line then { x with issued := true } else x))
      |> emit (.dram ch sub "RD" [c.line])

/-- The picked command. -/
def issuePick (ch sub : Nat) (write : Bool) (c : Waiting) (k : DramCmd) (s : State) : State :=
  let bank := c.loc.bg * 4 + c.loc.bank
  let s := wakeRank ch c.loc.rank s
  match k with
  | .column => issueColumn ch sub write c s
  | .precharge => s |> closeRow ch sub c.loc.rank bank |> emit (.dram ch sub "PRE" [bankKey c.loc])
  | .activate =>
    let v := subOf ch sub s
    s |> setRows (s.dram.rows ++
          [{ ch := ch, sub := sub, rank := c.loc.rank, bank := bank, row := c.loc.row, streak := 0 }])
      |> setSub ch sub { v with rot := (c.loc.bg + 1) % 8 }
      |> emit (.dram ch sub "ACT" [bankKey c.loc, c.loc.row])

/-- `DCHn.STS.MODE` follows the subchannels; where they are in different modes it shows write, which the spec leaves open.
(log entry 108: DESIGN CHOICE). -/
def modeShow (ch : Nat) (s : State) : State :=
  set (Reg.DCH.STS_MODE ch)
    (if s.dram.retraining.any (fun i => i / 4 == ch) then 3
     else b2n ((subOf ch 0 s).write || (subOf ch 1 s).write)) s

/-- The writes that the last slot issued have completed at DRAM: their entries leave the pool. (log entry 34: DEDUCED). -/
def retireIssued (ch sub : Nat) (s : State) : State :=
  if s.dram.writes.any (fun e => e.ch == ch && e.sub == sub && e.issued) then
    s |> setWrites (s.dram.writes.filter (fun e => !(e.ch == ch && e.sub == sub && e.issued)))
      |> depthShow ch |> retryStalled
  else s

/-- A command slot of a subchannel. -/
def commandSlot (ch sub : Nat) (bankReady actReady : List Nat) (s : State) : State :=
  if !channelRuns ch s then s
  else
    let s := s |> retireIssued ch sub |> checkInjection 185 |> askPartials ch sub
    let v := nextMode ch sub (subOf ch sub s) s
    let s := s |> setSub ch sub v
    let l := if v.write then waitingWrites ch sub s else waitingReads ch sub s
    let s := match pick ch sub v.rot l bankReady actReady s with
      | some (c, k) => issuePick ch sub v.write c k s
      | none => s
    s |> depthShow ch |> modeShow ch

/-- DRAM_COMMAND_ISSUE (R138). -/
def execDramCommandIssue (ch : Fin 16) (sub : Fin 2) (bankReady actReady : List Nat) (s : State) :
    Host.Outcome State Fault Refusal :=
  run (commandSlot ch.val sub.val bankReady actReady) s

/-- Sixteen cycles pass for every waiting read; a read that reaches U3 is a miss, once (R137, R122). -/
def ageReads (s : State) : State :=
  let reads := s.dram.reads.map (fun (r : REntry) => if r.issued then r else { r with age := r.age + 16 })
  let missed := reads.filter (fun r => !r.issued && !r.missed && urgency r.age (requester r.who) s == 3)
  s |> setReads (reads.map (fun (r : REntry) =>
        { r with missed := r.missed || (!r.issued && urgency r.age (requester r.who) s == 3) }))
    |> forEach missed (fun r => inc (Reg.QOS.MISSES_COUNT (requester r.who)))

/-- URGENCY_UPDATE (R137). -/
def execUrgencyUpdate (s : State) : Host.Outcome State Fault Refusal := run ageReads s

/-- PAGE_IDLE_EXPIRY (R139). -/
def execPageIdleExpiry (ch : Fin 16) (sub : Fin 2) (bank : Nat) (s : State) : Host.Outcome State Fault Refusal :=
  run (fun s =>
    if channelRuns ch.val s &&
        s.dram.rows.any (fun r => r.ch == ch.val && r.sub == sub.val && r.rank * 32 + r.bank == bank) then
      s |> closeRow ch.val sub.val (bank / 32) (bank % 32) |> emit (.dram ch.val sub.val "PRE" [bank])
    else s) s

/-! ### Power-down and refresh (R144 to R147) -/

/-- A request is queued for a rank. -/
def rankQueued (ch rank : Nat) (s : State) : Bool :=
  s.dram.reads.any (fun r => r.ch == ch && !r.issued && (lineLoc r.line s).rank == rank) ||
  s.dram.writes.any (fun e => e.ch == ch && !e.issued && (lineLoc e.line s).rank == rank)

/-- PD_TIMER_EXPIRY (R147). -/
def execPdTimerExpiry (ch : Fin 16) (rank : Fin 4) (s : State) : Host.Outcome State Fault Refusal :=
  run (fun s =>
    if channelRuns ch.val s && isSet (Reg.DCH.PD_PD_EN ch.val) s && !rankQueued ch.val rank.val s &&
        !s.dram.rows.any (fun r => r.ch == ch.val && r.rank == rank.val) && decide (owed ch.val s < 1) &&
        !s.dram.poweredDown.contains (ch.val, rank.val) then
      { s with dram := { s.dram with poweredDown := s.dram.poweredDown ++ [(ch.val, rank.val)] } }
        |> emit (.dram ch.val 0 "PDE" [rank.val])
    else s) s

/-- REFRESH_INTERVAL (R145): tREFI follows HOT from here (R144). -/
def execRefreshInterval (ch : Fin 16) (s : State) : Host.Outcome State Fault Refusal :=
  run (fun s =>
    if channelRuns ch.val s then
      s |> setInt (Reg.DCH.STS_OWED ch.val) (min 5 (owed ch.val s + 1)) |> modeShow ch.val
        |> set (Reg.DCH.REF_TREFI_NS ch.val) (if isSet (Reg.DCH.TEMP_HOT ch.val) s then 1950 else 3900)
    else s) s

/-- The channel has a request waiting. -/
def channelWaits (ch : Nat) (s : State) : Bool :=
  s.dram.reads.any (fun r => r.ch == ch && !r.issued) || s.dram.writes.any (fun e => e.ch == ch && !e.issued)

/-- No real-time read waits, or the oldest one's slack, target minus age, is at least tRFC (R145). -/
def slackOk (ch : Nat) (s : State) : Bool :=
  let rt := s.dram.reads.filter (fun r => r.ch == ch && !r.issued && classOf (requester r.who) s == 0)
  match rt.find? (fun r => rt.all (fun q => decide (q.age ≤ r.age))) with
  | none => true
  | some r => decide (2 * get (Reg.DCH.REF_TRFC_NS ch) s + r.age ≤ 2 * get (Reg.QOS.REQ_TARGET_NS (requester r.who)) s)

/-- A refresh at a request boundary: forced, issued, pulled in or postponed (R145). -/
def refresh (ch : Nat) (s : State) : State :=
  let o := owed ch s
  if o = 5 then s |> inc (Reg.DCH.REF_CNT_FORCED ch) |> event (0x20 + ch) 1 |> payRefresh ch
  else if 1 ≤ o then
    if slackOk ch s && (s.dram.served.contains ch || !channelWaits ch s) then payRefresh ch s else s
  else if !channelWaits ch s && decide (-4 < o) then s |> inc (Reg.DCH.REF_CNT_PULLED ch) |> payRefresh ch
  else s

/-- An RFMab that the components require goes by the same rules, without the owed count (R145). -/
def refreshManage (ch : Nat) (s : State) : State :=
  if slackOk ch s && (s.dram.served.contains ch || !channelWaits ch s) then sendRefresh ch "RFMab" s else s

/-- REFRESH_ISSUE (R145). -/
def execRefreshIssue (ch : Fin 16) (rfm : Bool) (s : State) : Host.Outcome State Fault Refusal :=
  run (fun s => if !channelRuns ch.val s then s else if rfm then refreshManage ch.val s else refresh ch.val s) s

/-- HOT clears after 50 frames below 82 °C (R144). -/
def execHotClear (ch : Fin 16) (s : State) : Host.Outcome State Fault Refusal :=
  run (fun s =>
    if isSet (Reg.DCH.TEMP_HOT ch.val) s && decide (50 ≤ s.dram.cool.getD ch.val 0) then
      s |> set (Reg.DCH.TEMP_HOT ch.val) 0 |> set (Reg.DCH.STS_HOT ch.val) 0
    else s) s

/-! ### Write CRC errors (R143) -/

/-- The write issued last to a line is reissued: it returns to the queue under what came since. (log entry 39: DEDUCED). -/
def requeueWrite (line : Nat) (e : WEntry) (held : Bool) (s : State) : State :=
  let again : WEntry := { e with issued := false, retries := e.retries + 1, held := held }
  match s.dram.writes.find? (fun x => x.line == line && !x.issued) with
  | some p =>
    let one : WEntry := { combine again p.be p.data p.poison with retries := e.retries + 1, held := held }
    setWrites ((s.dram.writes.filter (fun x => !(x.line == line && x.issued))).map (fun x =>
      if x.line = line then one else x)) s
  | none => setWrites (s.dram.writes.map (fun x => if x.line = line ∧ x.issued then again else x)) s

/-- A component signals a write CRC error: a reissue, or after the third failed attempt the rank's retraining.
(log entry 39: DEDUCED). -/
def crcError (ch sub line : Nat) (s : State) : State :=
  match s.dram.writes.find? (fun e => e.ch == ch && e.sub == sub && e.line == line && e.issued) with
  | none => s
  | some e =>
    if e.retries < 2 then s |> inc (Reg.DCH.CRC_CNT_RETRIES ch) |> requeueWrite line e false
    else
      s |> requeueWrite line { e with retries := 0 } true
        |> inc (Reg.DCH.CRC_CNT_EXHAUSTED ch) |> event (0x20 + ch) 2
        |> raiseSimple (128 + ch) 2 ch (get (Reg.DCH.STS_MODE ch) s) 0
        |> startRetrain (rankOfLine line s) true

/-- WRITE_CRC_ERROR (R143). -/
def execWriteCrcError (ch : Fin 16) (sub : Fin 2) (line : Nat) (s : State) : Host.Outcome State Fault Refusal :=
  run (fun s => if channelRuns ch.val s then crcError ch.val sub.val line s else s) s

/-! ### Reads and repairs (R161 to R166) -/

/-- The reader of a read entry is the one named. -/
def readerIs (finder : Finder) (r : Reader) : Bool :=
  match r with
  | .host _ _ => finder == .hostRead
  | .engine f => f == finder

/-- The read that DRAM answers was made: by the entry of the host, the scrubber or a partial write in the pool; the reads
of the Lehr, the save, the undo logger and a migration are made where their own commands stand. (log entry 115: DEDUCED). -/
def readMade (line : Nat) (finder : Finder) (s : State) : Bool :=
  if finder = .hostRead || finder = .scrub || finder = .partialRead then
    s.dram.reads.any (fun r => r.line == line && r.issued && readerIs finder r.who)
  else (mapAddress (64 * line) s).isSome && !s.dram.selfRefresh

/-- What the scrubber finds is counted (R176). -/
def scrubFound (err : LineErrors) (s : State) : State :=
  match decodeLine (isSet Reg.DMC.CFG_X8 s) err with
  | .good => s
  | .uncorrectable => s |> inc Reg.SCR.FOUND_UE |> event 0x12 1
  | _ => inc Reg.SCR.FOUND_CE s

/-- A read of DRAM is answered (R161). -/
def readDone (line : Nat) (finder : Finder) (err : LineErrors) (s : State) : State :=
  if readMade line finder s && !rankBlocked line s then
    s |> when (finder == .scrub) (scrubFound err) |> lineRead line finder err |> retryStalled
  else s

/-- DRAM_READ_DONE (R161). -/
def execDramReadDone (line : Nat) (finder : Finder) (err : LineErrors) (s : State) : Host.Outcome State Fault Refusal :=
  run (readDone line finder err) s

/-- No twin reply within 100 µs (R164). -/
def twinTimeout (line : Nat) (s : State) : State :=
  match repairOf line s with
  | some r => if r.stage = .twin then s |> repairOnward line r.finder |> retryStalled else s
  | none => s

/-- TWIN_REPAIR_TIMEOUT (R164). -/
def execTwinRepairTimeout (line : Nat) (s : State) : Host.Outcome State Fault Refusal := run (twinTimeout line) s

/-- The data of a line in its granule's record; none where the record marks it poisoned. -/
def sealedLine (line : Nat) (s : State) : Option Line :=
  let g := granuleOf line s
  let j := line - granuleBase g s
  match currentRecord g s with
  | none => none
  | some r =>
    if r.poison.contains j || !sealValid r s then none
    else some (BitVec.ofNat 512 ((List.range 64).foldr
      (fun i n => ((look r.image (64 * j + i)).getD (0 : Byte)).toNat + 256 * n) 0))

/-- The sealed copy has come and been checked (R164, R165). -/
def sealedCopy (line : Nat) (ok : Bool) (s : State) : State :=
  let s := urgentEnds (granuleOf line s) s
  match repairOf line s with
  | some r =>
    if r.stage = .sealed then
      (match (if ok then sealedLine line s else none) with
       | some d => repaired line d false s
       | none => unrepaired line r.finder.code s) |> retryStalled
    else s
  | none => s

/-- SEALED_COPY_FETCH_DONE (R165). -/
def execSealedCopyFetchDone (line : Nat) (ok : Bool) (s : State) : Host.Outcome State Fault Refusal :=
  run (sealedCopy line ok) s

/-! ### Windows and migration (R170 to R172) (log entry 48: DEDUCED). -/

/-- CE_WINDOW_START (R170). (log entry 48: DEDUCED). -/
def execCeWindowStart (s : State) : Host.Outcome State Fault Refusal :=
  run (fun s =>
    if now s % 2 ^ 20 = 0 then forEach (List.range 64) (fun i => set (Reg.SPR.RANK_CE_WIN i) 0) s else s) s

/-- The line stands at the pointer of the migration. -/
def atPointer (line : Nat) (s : State) : Bool :=
  let d := lineLoc line s
  spareFor d.ch d.rank s == some (get Reg.SPR.MIG_STS_DST s) && rankLineIndex d s == get Reg.SPR.MIG_PTR_INDEX s

/-- Neither rank of the migration is being retrained (R173). -/
def migFree (s : State) : Bool :=
  !s.dram.retraining.contains (get Reg.SPR.MIG_STS_SRC s) &&
  !s.dram.retraining.contains (spareIndex (get Reg.SPR.MIG_STS_DST s) s)

/-- The line at the pointer may be copied now. -/
def copyReady (line : Nat) (s : State) : Bool :=
  pageReady 0x11 s && isSet Reg.SPR.MIG_STS_ACTIVE s && !fenced s && !s.dram.selfRefresh && migFree s &&
    atPointer line s && (repairOf line s).isNone

/-- The line at the pointer is copied; one found uncorrectable waits for its repair. -/
def moveLine (line : Nat) (err : LineErrors) (spareBad : Bool) (s : State) : State :=
  let s := lineRead line .migration err s
  if (repairOf line s).isSome then s
  else
    s |> set Reg.SPR.MIG_PTR_INDEX (get Reg.SPR.MIG_PTR_INDEX s + 1)
      |> etaShow
      |> when spareBad (poisonLine line Finder.migration.code)

/-- A copy takes a credit of the migration's pool and of the channel's (R41). -/
def copyLine (line : Nat) (err : LineErrors) (spareBad : Bool) (s : State) : State :=
  if !copyReady line s then s
  else withCredit (poolAddr 0x11 0x118) false
    (withCredit (poolAddr (0x20 + (lineLoc line s).ch) 0x124) false (moveLine line err spareBad)) s

/-- MIGRATION_COPY (R171). (log entry 94: DEDUCED). -/
def execMigrationCopy (line : Nat) (err : LineErrors) (spareBad : Bool) (s : State) :
    Host.Outcome State Fault Refusal :=
  run (copyLine line err spareBad) s

/-- The last line is copied: the spare serves the logical rank. -/
def migrationDone (s : State) : State :=
  if isSet Reg.SPR.MIG_STS_ACTIVE s && decide (rankLines s ≤ get Reg.SPR.MIG_PTR_INDEX s) then
    let i := spareIndex (get Reg.SPR.MIG_STS_DST s) s
    s |> set Reg.SPR.MIG_STS_ACTIVE 0 |> set Reg.SPR.MIG_ETA_FRAMES 0
      |> setRank (get Reg.SPR.MIG_STS_SRC s) 6 |> setRank i 1 |> event 0x11 2
      |> ranksShow
      |> (fun s => { s with dram := { s.dram with retireAfter := s.dram.retireAfter.filter (· != i) } })
      |> when (s.dram.retireAfter.contains i) (retireRank i)
  else s

/-- MIG_DONE (R171). -/
def execMigDone (s : State) : Host.Outcome State Fault Refusal := run migrationDone s

/-! ### Initial training (R154, R158, R159) -/

/-- The ranks that fail at this power-on: those found, those of a mismatched channel, and those held in
RETIRE_PENDING. -/
def failedRanks (r : TrainResult) (s : State) : List Nat :=
  (List.range 64).filter (fun i => get (Reg.SPR.RANK_STATE i) s != 0 &&
    (r.failed.any (fun f => f.val == i) || r.mismatch.any (fun c => c.val == i / 4) || s.upd.pendingRanks.contains i))

/-- Spares free and trained, ascending. -/
def goodSpares (failed : List Nat) (s : State) : List Nat :=
  (freeSpares s).filter (fun m => !failed.contains (spareIndex m s))

/-- Rule 1 of R158: each failed logical rank goes to a free spare, in ascending order. -/
def mapFailed (ps : List (Nat × Nat)) (s : State) : State :=
  forEach ps (fun p s =>
    let d := servesLogical p.1 s
    s |> freeSpareOf p.1 |> assignSpare p.2 d |> setRank (spareIndex p.2 s) 1) s

/-- A region of `n` units that ends above the new top keeps its distance from the top (R159). -/
def movedBase (base n oldTop newTop : Nat) : Option Nat :=
  if n = 0 || base + n ≤ newTop then none else some (newTop - (oldTop - base))

/-- The granules that a region of bytes covers. -/
def coverOf (base n : Nat) (s : State) : Nat × Nat := (base / granBytes s, n / granBytes s)

/-- A moved region is noted for the restore (R159). -/
def addMoved (r : Nat × Nat) (s : State) : State := { s with rsr := { s.rsr with moved := s.rsr.moved ++ [r] } }

/-- The undo region moves (R159). (log entry 93: DEDUCED). -/
def moveUndo (old new : Nat) (s : State) : State :=
  match movedBase (get Reg.TXN.UNDO_CFG_BASE_GIB s) (get Reg.TXN.UNDO_CFG_SIZE_GIB s) old new with
  | none => s
  | some b =>
    s |> set Reg.TXN.UNDO_CFG_BASE_GIB b |> storeSetting Reg.TXN.UNDO_CFG_BASE_GIB b
      |> (fun s => addMoved (coverOf (undoBase s) (undoSize s) s) s)

/-- A spill region moves (R159). (log entry 93: DEDUCED). -/
def moveSpill (old new q : Nat) (s : State) : State :=
  match movedBase (get (Reg.GQ.SPILL_BASE_BASE_MIB q) s) (get (Reg.GQ.CFG_SPILL_MIB q) s) (old * 1024) (new * 1024) with
  | none => s
  | some b =>
    s |> set (Reg.GQ.SPILL_BASE_BASE_MIB q) b |> storeSetting (Reg.GQ.SPILL_BASE_BASE_MIB q) b
      |> (fun s => addMoved (coverOf (spillBase q s) (spillSize q s) s) s)

/-- Rule 2 of R158: the region table is rebuilt without the failed ranks, and the capacity falls.
(log entry 93: DEDUCED). -/
def reduceCapacity (s : State) : State :=
  let old := get Reg.SYS.CAP_ACK_EXPOSED_GIB s
  let before := mapEntries s
  let s := forEach (List.range 4) (fun m => set (Reg.DMC.REGION_A_VALID m) 0) s
  let s := placeRegions 0 0 (defaultRegions s) s
  let total := (regions s).foldl (fun n r => n + 2 ^ r.2.log2) 0
  let new := min old (total / 2 ^ 30 / (if s.twn.stored then 2 else 1))
  let s := s |> set Reg.SYS.CAP_ACK_EXPOSED_GIB new |> mapAtBoot |> capDefaults
             |> (fun s => set Reg.SCR.RATE_LINES (scrubRate s) s)
             |> (fun s => set Reg.DMC.MAP_CRC_CRC (Config.mapCrc (mapWords s)).toNat s)
  if new < old then
    { s with rsr := { s.rsr with capacityReduced := true, moved := [],
                                 cut := [(mapEntries s, before - mapEntries s)] } }
      |> moveUndo old new |> forEach (List.range 4) (moveSpill old new)
      |> set Reg.SYS.PERSIST_CAPACITY 1
      |> raiseSimple 238 0 0 new 0
  else s

/-- What training failures bring before restore begins (R158). -/
def serveFailed (failed : List Nat) (s : State) : State :=
  let inUse := failed.filter (fun i => get (Reg.SPR.RANK_STATE i) s == 1 || get (Reg.SPR.RANK_STATE i) s == 3)
  let spares := goodSpares failed s
  let t := forEach failed (fun i s => s |> trainRecord (i / 4) (i % 4) 3 (get (Reg.SPR.RANK_RETRAINS i) s) |> setRank i 7) s
  if inUse.isEmpty then t
  else if inUse.length ≤ spares.length then mapFailed (inUse.zip spares) t
  else reduceCapacity t

/-- The settings that the ranks end their training with, in use and last-known-good, and in the settings store (R154, R156).
What a setting is the spec does not say: each is a free value (log entry 3). -/
def keepSettings (ranks : List Nat) (s : State) : State :=
  let n := ranks.length
  s |> forEach ranks (fun i s =>
        let w := freshWord s
        spend { s with dram := { s.dram with settings := insert (drop s.dram.settings i) i w,
                                             lastGood := insert (drop s.dram.lastGood i) i w } })
    |> (fun s => { s with upd := { s.upd with appended := s.upd.appended + n, written := s.upd.written + n } })

/-- The timings that a channel ends its training with. -/
def keepTimings (r : TrainResult) (c : Nat) (s : State) : State :=
  s |> set (Reg.DCH.TIMING_TRC_NS c) r.trcNs |> set (Reg.DCH.TIMING_TWTRL_NS c) r.twtrlNs
    |> set (Reg.DCH.TIMING_TXP_NS c) r.txpNs

/-- The sources of the channels (R425). -/
def raiseChannels (r : TrainResult) (s : State) : State :=
  s |> forEach (((r.failed.map (fun f => f.val / 4)).dedup).filter (fun c => dramPresent c s)) (fun c s =>
        raiseSimple (128 + c) 1 c (get (Reg.DCH.STS_RANKS c) s) 0 s)
    |> forEach ((r.mismatch.map (·.val)).filter (fun c => dramPresent c s)) (fun c s =>
        raiseSimple (128 + c) 3 c (get (Reg.DCH.STS_RANKS c) s) 0 s)

/-- Two bits per rank group. -/
def pasrState (g : Nat) (s : State) : Nat := bitsOf (get Reg.DMC.PASR_STATE s) (2 * g) 2
def pasrReq (g : Nat) (s : State) : Nat := bitsOf (get Reg.DMC.PASR_REQ s) (2 * g) 2

/-- A rank group's refresh is to change (R148). (log entry 94: DEDUCED). -/
def setPasr (f : Fld) (g v : Nat) (s : State) : State :=
  set f (get f s - bitsOf (get f s) (2 * g) 2 * 4 ^ g + v * 4 ^ g) s

/-- The groups of trained channels are ACTIVE; a group whose four channels all fail stays OFF (R148). -/
def groupsTrained (s : State) : State :=
  forEach [0, 1, 2, 3] (fun g s =>
    if bitOf (get Reg.SYS.CAPS_DRAM_GROUPS s) g &&
        (List.range 16).any (fun k => let st := get (Reg.SPR.RANK_STATE (16 * g + k)) s; st != 0 && st != 7) then
      s |> setPasr Reg.DMC.PASR_REQ g 0 |> setPasr Reg.DMC.PASR_STATE g 0 |> event 0x10 1
    else if bitOf (get Reg.SYS.CAPS_DRAM_GROUPS s) g then
      s |> putBit Reg.PWR.STS_RAILS_ON (6 + g) false |> emit (.rail (6 + g) false)
    else s) s

/-- Initial training ends (R154, R158). -/
def trainingDone (r : TrainResult) (s : State) : State :=
  if get Reg.SYS.BOOT_STAGE s ≠ 6 || s.dram.trained then s
  else
    let failed := failedRanks r s
    let trained := (List.range 64).filter (fun i => get (Reg.SPR.RANK_STATE i) s != 0 && !failed.contains i)
    { s with dram := { s.dram with trained := true } }
      |> keepSettings trained
      |> forEach ((List.range 16).filter (fun c => dramPresent c s)) (keepTimings r)
      |> serveFailed failed |> ranksShow |> raiseChannels r |> groupsTrained

/-- DRAM_TRAINING_DONE (R158). -/
def execDramTrainingDone (r : TrainResult) (s : State) : Host.Outcome State Fault Refusal := run (trainingDone r) s

/-! ### Retraining (R155 to R157) -/

/-- A retraining starts; a marginal rank retrains only on R143. -/
def execRetrain (rank : Fin 64) (byCrc : Bool) (s : State) : Host.Outcome State Fault Refusal :=
  run (fun s =>
    if s.dram.trained && channelRuns (rank.val / 4) s && get (Reg.SPR.RANK_STATE rank.val) s != 0 &&
        (byCrc || !isSet (Reg.SPR.RANK_MARGINAL rank.val) s) then startRetrain rank.val byCrc s
    else s) s

/-- Retrainings of a rank in the 65,536 frames up to now (R156). (log entry 48: DEDUCED). -/
def retrainCount (i : Nat) (s : State) : Nat :=
  (s.dram.retrainCounts.filter (fun e => e.1 == i && decide (now s < e.2 + 65536))).length

/-- The rank leaves its retraining, and the next of its channel begins. -/
def leaveRetrain (i : Nat) (s : State) : State :=
  let s := { s with dram := { s.dram with retraining := s.dram.retraining.filter (· != i) } }
  match s.dram.retrainWaiting.find? (fun w => w.1 / 4 == i / 4) with
  | some w =>
    { s with dram := { s.dram with retrainWaiting := s.dram.retrainWaiting.erase w } } |> startRetrain w.1 w.2
  | none => modeShow (i / 4) s

/-- The writes that waited for the retraining are issued after it; when it failed during a save, their lines are
poisoned (R143, R151). (log entry 94: DEDUCED). -/
def releaseHeld (i : Nat) (ok : Bool) (s : State) : State :=
  let mine := fun (e : WEntry) => e.held && rankOfLine e.line s == i
  if !ok && fenced s then
    let lines := (s.dram.writes.filter mine).map (·.line)
    s |> setWrites (s.dram.writes.filter (fun e => !mine e)) |> depthShow (i / 4)
      |> forEach lines (fun l => poisonLine l Finder.save.code)
  else setWrites (s.dram.writes.map (fun (e : WEntry) => if mine e then { e with held := false } else e)) s

/-- The rank returns to its last-known-good settings (R157). -/
def returnSettings (i : Nat) (s : State) : State :=
  match look s.dram.lastGood i with
  | some w => { s with dram := { s.dram with settings := insert (drop s.dram.settings i) i w } }
  | none => s

/-- A retraining finds no working setting (R157). -/
def marginal (i : Nat) (s : State) : State :=
  s |> returnSettings i |> set (Reg.SPR.RANK_MARGINAL i) 1 |> event 0x11 0 |> raiseSimple i 1 i (rankWord i s) (now32 s)
    |> (fun s => when (isSet Reg.SPR.CFG_AUTO_MIGRATE s && decide (s.dram.migWaiting.length < (freeSpares s).length))
          (retireRank i) s)

/-- A retraining ends. -/
def retrained (i : Nat) (ok : Bool) (s : State) : State :=
  if !s.dram.retraining.contains i then s
  else
    let n := retrainCount i s + 1
    { s with dram := { s.dram with retrainCounts := s.dram.retrainCounts ++ [(i, now s)] } }
      |> inc (Reg.SPR.RANK_RETRAINS i)
      |> (fun s => trainRecord (i / 4) (i % 4) (if ok then 1 else 2) (get (Reg.SPR.RANK_RETRAINS i) s) s)
      |> when (n = get Reg.SPR.TRAIN_RETRAIN_MAX s + 1) (fun s => raiseSimple (64 + i) 1 i (rankWord i s) n s)
      |> when (!ok) (marginal i)
      |> when ok (keepSettings [i])
      |> releaseHeld i ok |> leaveRetrain i

/-- RETRAIN_DONE (R157). -/
def execRetrainDone (rank : Fin 64) (ok : Bool) (s : State) : Host.Outcome State Fault Refusal :=
  run (retrained rank.val ok) s

/-! ### PASR and XLATE (R148, R152) -/

/-- A valid region uses a rank group: a logical rank of it lies there, or the spare that serves one. -/
def groupUsed (g : Nat) (s : State) : Bool :=
  (regions s).any (fun r => (regionRanks r.2).any (fun p =>
    p.1 / 4 == g || ((spareFor p.1 p.2 s).map (fun m => spareIndex m s / 16 == g)).getD false))

/-- A group begins the change that REQ asks for. -/
def beginPasr (g : Nat) (s : State) : State :=
  if pasrState g s = 3 || pasrState g s = pasrReq g s || !bitOf (get Reg.SYS.CAPS_DRAM_GROUPS s) g then s
  else
    { s with dram := { s.dram with pasrTarget := modify s.dram.pasrTarget g (fun _ => pasrReq g s),
                                   pasrFrom := modify s.dram.pasrFrom g (fun _ => pasrState g s) } }
      |> setPasr Reg.DMC.PASR_STATE g 3
      |> when (pasrState g s = 2) (fun s => s |> putBit Reg.PWR.STS_RAILS_ON (6 + g) true |> emit (.rail (6 + g) true))

/-- A write of `DMC.PASR` (R148): the host sets only groups that no region uses, whether or not DMC is enabled.
(log entry 94: DEDUCED). -/
def writePasr (w : Writer) (req : Nat) (s : State) : State :=
  if ([0, 1, 2, 3] : List Nat).any (fun g => groupUsed g s && bitsOf req (2 * g) 2 != pasrReq g s) then werrBusy w 0x101A8 s
  else if ([0, 1, 2, 3] : List Nat).any (fun g => bitsOf req (2 * g) 2 == 3) then werrRange w 0x101A8 s
  else s |> set Reg.DMC.PASR_REQ req |> forEach [0, 1, 2, 3] beginPasr

/-- PASR_REQUEST (R148). -/
def execPasrRequest (w : Writer) (req : BitVec 8) (s : State) : Host.Outcome State Fault Refusal :=
  run (reach w 0x101A8 req.toNat (writePasr w req.toNat)) s

/-- The ranks of a group that are populated. -/
def groupRanks (g : Nat) (s : State) : List Nat :=
  ((List.range 16).map (16 * g + ·)).filter (fun i => get (Reg.SPR.RANK_STATE i) s != 0)

/-- The training that leaving OFF runs (R148, R154): the ranks that fail it are FAILED, and those that had failed before and
train now are back. -/
def groupTrained (g : Nat) (r : TrainResult) (s : State) : State :=
  let bad := fun (i : Nat) => r.failed.any (fun f => f.val == i) || r.mismatch.any (fun c => c.val == i / 4)
  let here := groupRanks g s
  let back := here.filter (fun i => !bad i && get (Reg.SPR.RANK_STATE i) s == 7)
  s |> keepSettings (here.filter (fun i => !bad i))
    |> forEach ((here.map (· / 4)).dedup) (keepTimings r)
    |> forEach (here.filter bad) (fun i s =>
        s |> trainRecord (i / 4) (i % 4) 3 (get (Reg.SPR.RANK_RETRAINS i) s) |> setRank i 7)
    |> forEach back (fun i s => setRank i (rankAtBoot i s) s)
    |> ranksShow |> raiseChannels { r with failed := r.failed.filter (fun f => f.val / 16 == g),
                                           mismatch := r.mismatch.filter (fun c => c.val / 4 == g) }

/-- A change of a rank group completes (R148): OFF takes the rail, leaving OFF trains, and a group whose four channels all
fail stays OFF. -/
def pasrDone (g : Nat) (r : TrainResult) (s : State) : State :=
  if pasrState g s ≠ 3 then s
  else
    let left := s.dram.pasrFrom.getD g 0 == 2
    let s := when left (groupTrained g r) s
    let stays := left && (groupRanks g s).all (fun i => get (Reg.SPR.RANK_STATE i) s == 7)
    let st := if stays then 2 else s.dram.pasrTarget.getD g 0
    s |> setPasr Reg.DMC.PASR_STATE g st
      |> when (st = 2) (fun s => s |> putBit Reg.PWR.STS_RAILS_ON (6 + g) false |> emit (.rail (6 + g) false))
      |> when (st = pasrReq g s) (event 0x10 1)
      |> when (!stays) (beginPasr g)

/-- PASR_DONE (R148). -/
def execPasrDone (g : Fin 4) (r : TrainResult) (s : State) : Host.Outcome State Fault Refusal :=
  run (pasrDone g.val r) s

/-- A write of `DMC.XLATE_HI` starts a translation. -/
def writeXlate (hi : Nat) (s : State) : State :=
  { s with dram := { s.dram with xlateBusy := true } }
    |> set Reg.DMC.XLATE_HI_ADDR hi |> set Reg.DMC.XLATE_RES_VALID 0

/-- XLATE (R152). -/
def execXlate (w : Writer) (hi : BitVec 2) (s : State) : Host.Outcome State Fault Refusal :=
  run (reach w 0x101B4 hi.toNat (writeXlate hi.toNat)) s

/-- The translation's result, four cycles later. -/
def xlateResult (s : State) : State :=
  if !s.dram.xlateBusy then s
  else
    let addr := get Reg.DMC.XLATE_LO_ADDR s * 64 + get Reg.DMC.XLATE_HI_ADDR s * 2 ^ 38
    let out := (mapAddress addr s).isNone
    let d := (mapAddress addr s).getD { ch := 0, sub := 0, rank := 0, bg := 0, bank := 0, row := 0, col := 0 }
    { s with dram := { s.dram with xlateBusy := false } }
      |> set Reg.DMC.XLATE_RES_CH d.ch |> set Reg.DMC.XLATE_RES_SUB d.sub |> set Reg.DMC.XLATE_RES_RANK d.rank
      |> set Reg.DMC.XLATE_RES_BG d.bg |> set Reg.DMC.XLATE_RES_BANK d.bank |> set Reg.DMC.XLATE_RES_COL d.col
      |> set Reg.DMC.XLATE_ROW_ROW d.row
      |> set Reg.DMC.XLATE_RES_VALID 1 |> put1 Reg.DMC.XLATE_RES_OUT_OF_RANGE out

/-- XLATE_DONE (R152). (log entry 16: DEDUCED). -/
def execXlateDone (s : State) : Host.Outcome State Fault Refusal := run xlateResult s

end Sys2Proof.Machine
end

