-- ==== Sys2Proof/Machine/EngCmds.lean ====
section
/-! DEFINITION. The commands of the gauge: detection, converters, the pack, anchors, the charger, the exercise, the
learned values and the capacitor test (R3, R251 to R274). -/

namespace Sys2Proof.Machine

def setEng (f : Eng → Eng) (s : State) : State := { s with eng := f s.eng }

/-! ### The bank (R3, R251) -/

/-- VCAP has reached V_MIN (R251). The live bit of source 327 stays while the last capacitor test reads low. -/
def capDetect (s : State) : State :=
  if s.eng.bankSeen || vcapMv s < (get Reg.ENG.CAP_V_V_MIN_MV s : Rat) then s
  else
    s |> setEng (fun e => { e with bankSeen := true }) |> set Reg.SYS.CAPS_CAP_BANK 1
      |> when (!isSet Reg.ENG.CAP_TEST_LOW s) (liveFall 327)

/-- CAP_BANK_DETECTED (R251). -/
def execCapBankDetected (s : State) : Host.Outcome State Fault Refusal := run capDetect s

/-- The frames in which the bank must be detected (R251). (log entry 84: DEDUCED). -/
def bankFrames : Nat := 250000

/-- No bank within the time (R3): source 327 with c_meas and the VCAP code. (log entry 84: DEDUCED). -/
def capUndetected (s : State) : State :=
  if !s.eng.bankSeen && decide (s.eng.chargerFrom + bankFrames ≤ s.pwr.sinceVaon) then
    raiseHeld 327 0 0 (get Reg.ENG.CAP_TEST_C_MEAS s) (get Reg.ENG.VCAP_CODE s) s
  else s

/-- CAP_BANK_TIMEOUT (R3). -/
def execCapBankTimeout (s : State) : Host.Outcome State Fault Refusal := run capUndetected s

/-! ### Converters (R254) -/

/-- The code of a converter's last conversion: 0 VIN, 1 VCAP, 2 VBAT, 3 IBAT, 4 thermistor. -/
def convCode (k : Nat) (s : State) : Nat :=
  if k = 0 then get Reg.ENG.VIN_CODE s
  else if k = 1 then get Reg.ENG.VCAP_CODE s
  else if k = 2 then get Reg.ENG.VBAT_CODE s
  else if k = 3 then get Reg.ENG.IBAT_CODE s
  else get Reg.ENG.TEMP_T_STORE s

/-- A converter's condition holds: its source is raised, and a faulty thermistor is taken as −40 °C. The battery's
converters are never faulty without a pack (R254). (log entry 19: DEDUCED). -/
def converterFails (k : Nat) (s : State) : State :=
  if (k = 2 ∨ k = 3) ∧ batState s = 0 then s
  else
    s |> raiseHeld (320 + k) 0 0 (convCode k s) 0
      |> when (k = 4) (fun s => s |> set Reg.ENG.TEMP_NTC_FAULT 1 |> setInt Reg.ENG.TEMP_T_STORE (-640) |> chargeShow)

/-- What is reported of a converter (R254): 50 frames at an end of its range, or the outcome of its reference check, which
holds the live bit until one passes. (log entry 19: DEDUCED). -/
def converter (k : Nat) (why : ConvCheck) (s : State) : State :=
  match why with
  | .range => if 50 ≤ s.eng.ends.getD k 0 then converterFails k s else s
  | .reference false => s |> setEng (fun e => { e with refBad := addNat e.refBad k }) |> converterFails k
  | .reference true =>
    let s := setEng (fun e => { e with refBad := e.refBad.filter (· != k) }) s
    if convFaulty k s then s else liveFall (320 + k) s

/-- CONVERTER_FAULT (R254). -/
def execConverterFault (k : Fin 5) (why : ConvCheck) (s : State) : Host.Outcome State Fault Refusal :=
  run (converter k.val why) s

/-! ### The pack (R257, R258, R266) -/

/-- A pack is put in (R257). -/
def packIn (s : State) : State :=
  if isSet Reg.SYS.CAPS_BATTERY s then s else s |> batteryIn |> event 0x80 0

/-- BAT_IN (R257). -/
def execBatIn (s : State) : Host.Outcome State Fault Refusal := run packIn s

/-- The pack is removed (R258): an exercise ends with RESULT 6, the rest timer restarts. -/
def packOut (s : State) : State :=
  if !isSet Reg.SYS.CAPS_BATTERY s then s
  else
    s |> set Reg.SYS.CAPS_BATTERY 0 |> set Reg.ENG.STATE_BAT 0 |> set Reg.ENG.STATE_REST_LEFT 3000000
      |> endExercise 6 |> event 0x80 1 |> chargeShow

/-- BAT_OUT (R258). -/
def execBatOut (s : State) : Host.Outcome State Fault Refusal := run packOut s

/-- The rest timer has expired (R257): the counter becomes SOC × learned capacity, IBAT taken as 0; not while VBAT or IBAT is
faulty (R254). (log entry 82: DEDUCED). -/
def rested (s : State) : State :=
  if batState s = 1 && get Reg.ENG.STATE_REST_LEFT s == 0 && !convBad 2 s && !convBad 3 s then
    s |> anchor (floorNat ((mahNc (learnedMah s) : Rat) * socPermille 0 s / 1000))
      |> set Reg.ENG.STATE_BAT 2 |> event 0x80 2 |> chargeShow
  else s

/-- REST_DONE (R257). -/
def execRestDone (s : State) : Host.Outcome State Fault Refusal := run rested s

/-! ### Anchors and the estimates (R260 to R265) -/

/-- A full anchor (R260); none is taken while fenced (R262). The measurement of R265 begins. -/
def fullAnchored (s : State) : State :=
  if 50000 ≤ s.eng.fullRun && !fenced s then
    s |> anchor (mahNc (learnedMah s)) |> set Reg.ENG.STATE_AT_FULL 1
      |> set Reg.ENG.FULL_FRAME_FRAME (now32 s) |> event 0x80 3
      |> setEng (fun e => { e with discharge := some { out := 0, temp := 0, frames := 0 }, fullRun := 0 })
  else s

/-- FULL_ANCHOR (R260). -/
def execFullAnchor (s : State) : Host.Outcome State Fault Refusal := run fullAnchored s

/-- The capacity that a discharge teaches (R265), in mAh; a table value of 0 at the mean temperature leaves the
quotient open. (log entry 82: DEDUCED). -/
def taughtMah (d : Discharge) (s : State) : Nat :=
  let tc := tcBat (mkRat d.temp (max 1 d.frames)) s
  let rated := get Reg.ENG.CAP_LEARNED_RATED_MAH s
  let raw := if tc = 0 then (freshWord s).toNat else floorNat (mkRat d.out 3600000000 * 1000 / tc)
  min (rated * 105 / 100) (max (rated * 50 / 100) raw) % 65536

/-- R265 at an empty anchor. -/
def teach (s : State) : State :=
  match s.eng.discharge with
  | none => s
  | some d => s |> spend |> set Reg.ENG.CAP_LEARNED_MAH (taughtMah d s) |> learnedNow

/-- An empty anchor (R261, R262): the capacity is taught, and an exercise ends with RESULT 1. -/
def emptyAnchored (s : State) : State :=
  if 500 ≤ s.eng.emptyRun then
    s |> teach |> anchor 0 |> set Reg.ENG.EMPTY_FRAME_FRAME (now32 s) |> event 0x80 4
      |> setEng (fun e => { e with emptyRun := 0 }) |> endExercise 1
  else s

/-- EMPTY_ANCHOR (R261). -/
def execEmptyAnchor (s : State) : Host.Outcome State Fault Refusal := run emptyAnchored s

/-- The estimates differ for 50 frames, or agree again (R264). -/
def disagreed (differ : Bool) (s : State) : State :=
  if differ then
    if 50 ≤ s.eng.differRun then
      s |> set Reg.ENG.STATE_DISAGREE 1 |> event 0x80 5
        |> raiseHeld 325 0 0 (get Reg.ENG.Q_VOLT_MAH s + get Reg.ENG.Q_USED_MAH s * 65536) 0
    else s
  else if 50 ≤ s.eng.agreeRun then s |> set Reg.ENG.STATE_DISAGREE 0 |> liveFall 325
  else s

/-- DISAGREE (R264). -/
def execDisagree (differ : Bool) (s : State) : Host.Outcome State Fault Refusal := run (disagreed differ) s

/-! ### The charger (R259) -/

/-- A transaction with the charger. The snapshot's word for the last transaction has no format in the spec. -/
def polled (ok cv : Bool) (s : State) : State :=
  if ok then
    s |> setEng (fun e => { e with chargerFails := 0 })
      |> put1 Reg.ENG.STATE_CV cv |> set Reg.ENG.STATE_CHG_FAULT 0 |> liveFall 326
  else
    s |> setEng (fun e => { e with chargerFails := min 3 (e.chargerFails + 1) })
      |> when (decide (2 ≤ s.eng.chargerFails)) (fun s =>
          s |> set Reg.ENG.STATE_CHG_FAULT 1 |> spend |> raiseHeld 326 0 0 (freshWord s).toNat 0)

/-- CHARGER_POLL (R259). -/
def execChargerPoll (ok : Bool) (cv : Bool) (s : State) : Host.Outcome State Fault Refusal := run (polled ok cv) s

/-! ### The capacity exercise (R266) -/

/-- EXERCISE.START: refused with RESULT 3 without AT_FULL, with RESULT 4 outside 10 °C to 40 °C. A start needs the
counting state and no fence, since a trigger interrupts an exercise. (log entry 82: DEDUCED). -/
def startExercise (s : State) : State :=
  if isSet Reg.ENG.EXERCISE_ACTIVE s then s
  else if fenced s then set Reg.ENG.EXERCISE_RESULT 6 s
  else if !isSet Reg.ENG.STATE_AT_FULL s || batState s != 2 then set Reg.ENG.EXERCISE_RESULT 3 s
  else if tStore s < 160 || 640 < tStore s then set Reg.ENG.EXERCISE_RESULT 4 s
  else
    { s with eng := { s.eng with exerciseFrom := some (now s) }, pwr := { s.pwr with holdEn := true } }
      |> set Reg.ENG.EXERCISE_ACTIVE 1 |> set Reg.ENG.EXERCISE_RESULT 0 |> set Reg.ENG.STATE_BAT 3 |> chargeShow

/-- EXERCISE_START (R266). -/
def execExerciseStart (w : Writer) (s : State) : Host.Outcome State Fault Refusal :=
  run (reach w 0x801AC 1 startExercise) s

/-- The exercise is stopped (R266). -/
def stopExercise (s : State) : State := endExercise 2 s

/-- EXERCISE_STOP (R266). -/
def execExerciseStop (w : Writer) (s : State) : Host.Outcome State Fault Refusal :=
  run (reach w 0x801AC 2 stopExercise) s

/-- No empty anchor within 2 h. -/
def exerciseFrames : Nat := 360000000

/-- The exercise has run too long (R266). -/
def exerciseExpired (s : State) : State :=
  match s.eng.exerciseFrom with
  | some f => if f + exerciseFrames ≤ now s then endExercise 5 s else s
  | none => s

/-- EXERCISE_TIMEOUT (R266). -/
def execExerciseTimeout (s : State) : Host.Outcome State Fault Refusal := run exerciseExpired s

/-! ### Learned values (R267, R269, R270) -/

/-- LEARN.RESET_DEFAULTS: applied at the next tick. -/
def resetLearned (s : State) : State := setEng (fun e => { e with resetDefaults := true }) s

/-- LEARN_RESET_DEFAULTS (R267). -/
def execLearnResetDefaults (w : Writer) (s : State) : Host.Outcome State Fault Refusal :=
  run (reach w 0x801B0 1 resetLearned) s

/-- The words of a record as they lie in the slot that a write targets: the one that does not hold the newest valid record
(R269, R270). -/
def putSlot (k : Nat) (ws : List Word) (s : State) : State :=
  setEng (fun e => if k = 0 then { e with slot0 := ws } else { e with slot1 := ws }) s

/-- The write of R270: its words in order, the commit word last; fewer than eight when a trigger or a fall of VIN stops it
after the word in flight, and it restarts after the next 1,000 frames of good power. (log entries 12, 82: DESIGN CHOICE,
DEDUCED). -/
def writeLearned (words : Nat) (s : State) : State :=
  if learnDiffers s && decide (1000 ≤ s.eng.vinRun) && !fenced s && admittedNow s then
    let seq := ((newestLearned s).map (fun r => learnedWord r.2 0)).getD 0 + 1
    let slot := if (newestLearned s).map (·.1) = some 0 then 1 else 0
    let s := putSlot slot ((learnedWords seq s).take words) s
    if words < 8 then setEng (fun e => { e with vinRun := 0 }) s
    else
      s |> set Reg.ENG.LEARN_SLOT slot |> set Reg.ENG.LEARN_SEQ seq |> set Reg.ENG.LEARN_PENDING 0 |> event 0x80 8
  else s

/-- LEARN_RECORD_WRITE (R270). -/
def execLearnRecordWrite (words : Fin 9) (s : State) : Host.Outcome State Fault Refusal := run (writeLearned words.val) s

/-! ### The capacitor test (R271, R272) -/

/-- VCAP lies within 2 % of V_RATED. -/
def bankFull (s : State) : Bool :=
  let r := (get Reg.ENG.CAP_V_V_RATED_MV s : Rat)
  decide (r * 98 ≤ vcapMv s * 100) && decide (vcapMv s * 100 ≤ r * 102)

/-- A test is due: none yet, or 2^20 frames since the last. -/
def testDue (s : State) : Bool :=
  match s.eng.lastCapTest with
  | none => true
  | some f => decide (f + 2 ^ 20 ≤ now s)

/-- The bank's test begins (R271). -/
def startCapTest (s : State) : State :=
  if vinGoodNow s && bankFull s && !fenced s && !isSet Reg.ENG.EXERCISE_ACTIVE s && s.eng.capTest == none &&
      testDue s then
    { s with eng := { s.eng with capTest := some { start := now s, v0 := s.eng.last.vcap }, lastCapTest := some (now s) },
             pwr := { s.pwr with testLoad := true } }
      |> set Reg.ENG.CAP_TEST_RUNNING 1
  else s

/-- CAP_TEST_START (R271). -/
def execCapTestStart (s : State) : Host.Outcome State Fault Refusal := run startCapTest s

/-- A difference of two VCAP codes in mV. -/
def codeMv (a b : Nat) : Rat := mkRat (((a : Int) - (b : Int)) * 3125) 16000

/-- ESR in mΩ, none where the quotient is not stated: no current, or a voltage that rose. (log entry 82: DEDUCED). -/
def esrOf (v0 v1 : Nat) (s : State) : Option Nat :=
  let i := get Reg.ENG.CAP_CFG_I_TEST_MA s
  if i = 0 || v0 < v1 then none else some (floorNat (codeMv v0 v1 * 1000 / i))

/-- c_meas in 0.1 mF: I × 499 × 20 µs over the fall, none where the bank did not fall. (log entry 82: DEDUCED). -/
def cMeasOf (v1 v500 : Nat) (s : State) : Option Nat :=
  if v1 ≤ v500 then none
  else some (floorNat ((get Reg.ENG.CAP_CFG_I_TEST_MA s * 9980 : Nat) / codeMv v1 v500 / 100))

/-- A result in a field of `w` bits: an unstated or unrepresentable one is free. -/
def fieldValue (w : Nat) (v : Option Nat) (free : Word) : Nat :=
  match v with
  | some n => if n < 2 ^ w then n else free.toNat % 2 ^ w
  | none => free.toNat % 2 ^ w

/-- The usable energy of a capacitance lies below 80 % of the rated bank's. -/
def bankLow (c : Nat) (s : State) : Bool :=
  let hi := (get Reg.ENG.CAP_V_V_RATED_MV s : Int)
  let lo := (get Reg.ENG.CAP_V_V_MIN_MV s : Int)
  decide (100 * ((c : Int) * (hi * hi - lo * lo)) < 80 * ((get Reg.ENG.CAP_CFG_C_RATED s : Int) * (hi * hi - lo * lo)))

/-- What a completed test shows: c_meas, ESR and the two verdicts. -/
def judgeCapTest (c esr : Nat) (s : State) : State :=
  let low := bankLow c s
  let high := decide (get Reg.ENG.CAP_ESR_MAX_MOHM s < esr)
  s |> put1 Reg.ENG.CAP_TEST_LOW low |> put1 Reg.ENG.CAP_TEST_HIGH_ESR high
    |> (if low then fun s => s |> event 0x80 6 |> raiseHeld 327 0 0 c (get Reg.ENG.VCAP_CODE s)
        else fun s => when s.eng.bankSeen (liveFall 327) s)
    |> (if high then raiseHeld 328 0 0 esr 0 else liveFall 328)

/-- The test's end, once VCAP is taken at t0 + 500 (R271). -/
def finishCapTest (s : State) : State :=
  match s.eng.capTest with
  | some { v0 := v0, v1 := some v1, v500 := some v500, .. } =>
    let freeC := freshWord s
    let freeE := freshWord (spend s)
    let c := cMeasOf v1 v500 s
    let e := esrOf v0 v1 s
    s |> spend |> spend |> endCapTest
      |> set Reg.ENG.CAP_TEST_C_MEAS (fieldValue 16 c freeC)
      |> set Reg.ENG.CAP_TEST_ESR_MOHM (fieldValue 12 e freeE)
      |> learnedNow
      |> judgeCapTest (c.getD (fieldValue 16 none freeC)) (e.getD (fieldValue 12 none freeE))
  | _ => s

/-- The codes of VCAP that the running test has taken at t0, t0 + 1 and t0 + 500 (R271). -/
def codesTaken (v0 v1 v500 : Nat) (s : State) : Bool :=
  s.eng.capTest.any (fun x => x.v0 == v0 && x.v1 == some v1 && x.v500 == some v500)

/-- CAP_TEST_END (R271), with the codes that the test has taken. -/
def execCapTestEnd (v0 v1 v500 : Nat) (s : State) : Host.Outcome State Fault Refusal :=
  run (when (codesTaken v0 v1 v500 s) finishCapTest) s

end Sys2Proof.Machine
end

