-- ==== Sys2Proof/Machine/FaultCmds.lean ====
section
/-! DEFINITION. The commands of the fault collector, the error pin, the safe state and the self-test (R399 to
R428). -/

namespace Sys2Proof.Machine

/-! ### Sources (R400 to R409) -/

/-- The address hashes of a line's requests do not agree: those that have not issued are held (R48, R132). The detector shows
the low 32 bits of the line. (log entry 75: DEDUCED). -/
def holdRequests (low : Nat) (s : State) : State :=
  { s with dram := { s.dram with
      writes := s.dram.writes.map (fun e => if !e.issued && e.line % 2 ^ 32 == low then { e with hashBad := true } else e),
      reads := s.dram.reads.map (fun r => if !r.issued && r.line % 2 ^ 32 == low then { r with hashBad := true } else r) } }

/-- A detector reports a source: a single event, or a condition that holds. An arithmetic residue error also takes the
budget as 0, and a request whose hashes do not agree is held (R48). (log entry 75: DEDUCED). -/
def detect (n reason inst snap2 snap3 : Nat) (held : Bool) (phase : Nat) (s : State) : State :=
  { s with frm := { s.frm with phase := phase } }
    |> raise { n := n, reason := reason, inst := inst, snap2 := snap2, snap3 := snap3, hold := held }
    |> when (n = 184) zeroBudget |> when (n = 185) (holdRequests snap2)
    |> when (n = 330) (set Reg.SAF.STS_LOCKSTEP_OK 0)

/-- FAULT_RAISE (R400). -/
def execFaultRaise (n : Fin 384) (reason instance_ : Nat) (snap2 snap3 : Word) (held : Bool) (phase : Nat) (s : State) :
    Host.Outcome State Fault Refusal :=
  run (detect n.val reason instance_ snap2.toNat snap3.toNat held phase) s

/-- An injection holds a source (R90). -/
def injectedHold (n : Nat) (s : State) : Bool := s.flt.injections.any (fun j => j.2.1 == n && j.2.2 == 1)

/-- SOURCE_LIVE_CLEAR (R408). (log entry 75: DEDUCED). -/
def execSourceLiveClear (n : Fin 384) (s : State) : Host.Outcome State Fault Refusal :=
  run (fun s => if injectedHold n.val s then s else liveFall n.val s) s

/-- A W1C of sticky statuses (R405): those whose live bit is 1 set again in the next cycle, and an S4 source is cleared by a
chip reset alone (R18). -/
def clearSticky (page : Nat) (high : Bool) (mask : Nat) (s : State) : State :=
  forEach (List.range 32) (fun k s =>
    let n := 64 * page + 32 * b2n high + k
    if bitOf mask k && !isSet (Reg.FLS.LIVE n) s && raiseSev n s != 4 then set (Reg.FLS.STICKY n) 0 s else s) s

/-- STICKY_CLEAR (R405). -/
def execStickyClear (w : Writer) (page : Fin 6) (high : Bool) (mask : Word) (s : State) :
    Host.Outcome State Fault Refusal :=
  run (reach w (0x91200 + 4096 * page.val + 4 * b2n high) mask.toNat (clearSticky page.val high mask.toNat)) s

/-- REARM (R409). -/
def rearmLatch (s : State) : State :=
  { s with flt := { s.flt with firstRead := false } }
    |> set Reg.FLT.FIRST_ID_VALID 0 |> set Reg.FLT.FIRST_ID_FIRST_SELF_CLEARED 0
    |> set Reg.FLT.OVF_OVF 0 |> set Reg.FLT.OVF_COUNT_COUNT 0

/-- REARM (R409). -/
def execRearm (w : Writer) (s : State) : Host.Outcome State Fault Refusal := run (reach w 0x90124 1 rearmLatch) s

/-! ### The error pin (R411 to R413) -/

/-- The hardware pulse ends with the tick that ends the fifth full frame. -/
def execErrPulseEnd (s : State) : Host.Outcome State Fault Refusal :=
  run (fun s =>
    if isSet Reg.FLT.PINCTL_PULSE s && s.pwr.pulseLeft == 0 then s |> set Reg.FLT.PINCTL_PULSE 0 |> pinFollow else s) s

/-- `FLT.PINCTL.LEVEL` is written (R412, R413). -/
def writeLevel (w : Writer) (level : Nat) (s : State) : State :=
  if isSet Reg.FLT.PINCTL_HW_HOLD s then werrBusy w 0x90128 s
  else s |> set Reg.FLT.PINCTL_LEVEL level |> pinFollow

/-- ERR_PIN_RELEASE (R412). -/
def execErrPinRelease (w : Writer) (s : State) : Host.Outcome State Fault Refusal :=
  run (reach w 0x90128 0 (writeLevel w 0)) s

/-- An error that the collector finds in itself (R413). -/
def execCollectorSelfFault (check : Nat) (s : State) : Host.Outcome State Fault Refusal :=
  run (raiseSimple 334 0 0 check 0) s

/-! ### The safe state (R414 to R418) -/

/-- `SAF.CTL.ENTER`: only with the key open, and not in the safe state. -/
def enterRequest (w : Writer) (s : State) : State :=
  if !isSet Reg.SAF.FINJ_KEY_OPEN s then werrLocked w 0x97108 s
  else if inSafe s then werrBusy w 0x97108 s
  else enterSafe 3 0 s

/-- SAFE_ENTER (R414). -/
def execSafeEnter (w : Writer) (s : State) : Host.Outcome State Fault Refusal :=
  run (reach w 0x97108 1 (enterRequest w)) s

/-- The management port or the management endpoint. -/
def fromManagement (w : Writer) (s : State) : Bool :=
  match w with
  | .port n => n.val == get Reg.SYS.MGMT_PORT_PORT s
  | .mgmt => true
  | .gaffer => false

/-- `SAF.CTL.EXIT` (R418). -/
def exitRequest (w : Writer) (s : State) : State :=
  if fromManagement w s && isSet Reg.SAF.STS_SAFE s then request .chipReset s else werrRange w 0x97108 s

/-- SAFE_EXIT (R418). -/
def execSafeExit (w : Writer) (s : State) : Host.Outcome State Fault Refusal :=
  run (reach w 0x97108 2 (exitRequest w)) s

/-! ### The self-test and the cross-checks (R420 to R422) -/

/-- An item of the self-test fails: 0 for a cycle that is late. (log entry 76: DEDUCED). -/
def testFails (item : Nat) (s : State) : State :=
  s |> when (!pageDark 0x97 s) (fun s =>
        s |> set Reg.SAF.ST_FAIL_ITEM item |> inc Reg.SAF.ST_FAIL_FAILS |> event 0x97 1)
    |> selftestRecord item (if item = 0 then 2 else 1) |> raiseSimple 329 0 0 item 0

/-- SELFTEST_LATE (R422), once in a cycle. (log entry 76: DEDUCED). -/
def execSelftestLate (s : State) : Host.Outcome State Fault Refusal :=
  run (fun s =>
    if decide (66560 ≤ get Reg.SAF.ST_PROGRESS_FRAME s) && !s.flt.testsDone.contains 0 then
      { s with flt := { s.flt with testsDone := addNat s.flt.testsDone 0 } } |> testFails 0
    else s) s

/-- Items 1, 2 and 8, run by the always-on island once every 65,536 frames of a ride or a hold. (log entry 76: DEDUCED). -/
def execAonSelftest (failed : List (Fin 10)) (s : State) : Host.Outcome State Fault Refusal :=
  run (fun s =>
    if (savState s = 4 ∨ savState s = 7) ∧ 65536 ≤ s.flt.aonFrames then
      { s with flt := { s.flt with aonFrames := 0 } }
        |> forEach (failed.filter (fun k => k.val == 1 || k.val == 2 || k.val == 8)) (fun k => testFails k.val)
    else s) s

/-- A pin reads back other than its intended level (R420): pin 0 is `PERSIST_OK`, 1 `ERR_OUT_N`. (log entry 75: DEDUCED). -/
def execPinReadbackFault (errOut intended : Bool) (s : State) : Host.Outcome State Fault Refusal :=
  run (raiseHeld 335 0 0 (b2n errOut) (b2n intended)) s

/-- VIN has read below the comparator threshold for 3 frames with no trigger taken (R420). (log entry 75: DEDUCED). -/
def execSaveTriggerCrosscheck (s : State) : Host.Outcome State Fault Refusal :=
  run (fun s => if 3 ≤ s.sav.missed then raiseHeld 333 0 0 s.eng.last.vin 0 s else s) s

end Sys2Proof.Machine
end

