-- ==== Sys2Proof/Machine/GatherCmds.lean ====
section
/-! DEFINITION. The commands of the Gather queues (R429 to R445). -/

namespace Sys2Proof.Machine

/-- A producer's queue (R429). -/
def producerQueue (p : Producer) : List Nat :=
  match p with
  | .flt | .spr | .txn | .twn | .mrv => [0]
  | .rsr => [0, 2]
  | .task4 => [1]
  | .sys => [2]
  | .dch _ | .saf => [3]

/-- A producer pushes a record of its queue; its length counts word 0 and the frame (R440). -/
def gatherPush (q : Nat) (p : Producer) (type : Nat) (payload : List (BitVec 16)) (s : State) : State :=
  if (producerQueue p).contains q && decide (payload.length ≤ 251) then pushRecord q (record type payload s) s else s

/-- GATHER_PUSH (R430). -/
def execGatherPush (q : Fin 4) (p : Producer) (type : BitVec 8) (payload : List (BitVec 16)) (s : State) :
    Host.Outcome State Fault Refusal :=
  run (gatherPush q.val p type.toNat payload) s

/-- The address of `GQn.OP`. -/
def opAddr (q : Nat) : Nat := 0xA0108 + 4096 * q

/-- READ (R436). -/
def execRead (w : Writer) (q : Fin 4) (s : State) : Host.Outcome State Fault Refusal :=
  run (reach w (opAddr q.val) 1 (opRead q.val)) s

/-- MARK (R436). -/
def execMark (w : Writer) (q : Fin 4) (s : State) : Host.Outcome State Fault Refusal :=
  run (reach w (opAddr q.val) 2 (opMark q.val)) s

/-- REWIND (R436). -/
def execRewind (w : Writer) (q : Fin 4) (s : State) : Host.Outcome State Fault Refusal :=
  run (reach w (opAddr q.val) 4 (opRewind q.val)) s

/-- RELEASE (R436). -/
def execRelease (w : Writer) (q : Fin 4) (s : State) : Host.Outcome State Fault Refusal :=
  run (reach w (opAddr q.val) 8 (opRelease q.val)) s

/-- FLUSH (R433). -/
def execFlush (w : Writer) (q : Fin 4) (s : State) : Host.Outcome State Fault Refusal :=
  run (reach w (opAddr q.val) 16 (flushPacking q.val)) s

end Sys2Proof.Machine
end

