-- ==== Sys2Proof/Machine/HostPort.lean ====
section
/-! DEFINITION. The commands of the host ports (R102 to R117). -/

namespace Sys2Proof.Machine

/-! ### CXL.mem -/

/-- MEMRD (R115). -/
def execMemrd (port : Fin 4) (addr : HostAddr) (tag : Nat) (ecc : MarverEcc) (s : State) :
    Host.Outcome State Fault Refusal := run (hostRead port.val addr tag ecc) s

/-- MEMWR (R8). -/
def execMemwr (port : Fin 4) (addr : HostAddr) (data : Line) (tag : Nat) (poison : Bool) (x : WriteIn) (s : State) :
    Host.Outcome State Fault Refusal := run (hostWrite port.val addr allBytes data tag poison x) s

/-- MEMWRPTL (R142). -/
def execMemwrptl (port : Fin 4) (addr : HostAddr) (be : BitVec 64) (data : Line) (tag : Nat) (poison : Bool)
    (x : WriteIn) (s : State) : Host.Outcome State Fault Refusal :=
  run (hostWrite port.val addr be data tag poison x) s

/-- The port holds no cache: MemInv is answered and changes nothing (R102, R113). -/
def execMeminv (port : Fin 4) (_addr : HostAddr) (tag : Nat) (s : State) : Host.Outcome State Fault Refusal :=
  run (fun s => if portTakes port.val s then emit (.invDone port.val tag) s else s) s

/-- Set bits of a port's AER uncorrectable status (R102). -/
def aerSet (n mask : Nat) (s : State) : State :=
  { s with hp := { s.hp with aer := modify s.hp.aer n (fun v => Nat.lor v mask) } }

/-- CXL_MEM_UNSUPPORTED (R102): the status, and AER's Unsupported Request bit. (log entry 101: PRESUMED). -/
def execCxlMemUnsupported (port : Fin 4) (tag : Nat) (s : State) : Host.Outcome State Fault Refusal :=
  run (fun s => if portTakes port.val s then s |> aerSet port.val (2 ^ 20) |> emit (.unsupported port.val tag) else s) s

/-- WRITE_COMPLETION (R9). -/
def execWriteCompletion (port : Fin 4) (tag : Nat) (s : State) : Host.Outcome State Fault Refusal :=
  run (sendCompletion port.val tag) s

/-- READ_COMPLETION (R110). (log entry 90: DEDUCED). -/
def execReadCompletion (port : Fin 4) (tag : Nat) (x : ReadIn) (s : State) : Host.Outcome State Fault Refusal :=
  run (sendRead port.val tag x.first x.second) s

/-! ### Configuration and reset (R106, R109) -/

/-- The port's domain is on and its PERST_N is released. -/
def portAlive (n : Nat) (s : State) : Bool := !pageDark (8 + n) s && !s.hp.perst.contains n

/-- The message on an entry that waited is sent (R119). -/
def sendPendingOn (p : Nat × Nat → Bool) (s : State) : State :=
  let mine := s.hp.msixPending.filter p
  { s with hp := { s.hp with msixPending := s.hp.msixPending.filter (fun m => !p m) } }
    |> forEach mine (fun m s => s |> emit (.msix m.1 m.2) |> inc Reg.IRQ.SENT_COUNT)

/-- An MSI-X table entry of a port is masked, or unmasked, which sends its pending message (R119). -/
def maskEntry (n v : Nat) (masked : Bool) (s : State) : State :=
  let rest := s.hp.msixOpen.filter (· != (n, v))
  if masked then { s with hp := { s.hp with msixOpen := rest } }
  else
    { s with hp := { s.hp with msixOpen := rest ++ [(n, v)] } }
      |> when (get (Reg.HPT.LINK_WIDTH n) s != 0) (sendPendingOn (· == (n, v)))

/-- The key of the flush power in the settings store: it belongs to no register. -/
def gpfPowerKey : Nat := 0x1000000 * 32

/-- What a register of the configuration space reads as: Media Status with the Memory Active Timeout of 64 s in bits 15:8
(R107), the mirror of `CTO.REQ_US` (R111), the Phase 2 duration in µs and power in W (R113), AER. (log entry 101: PRESUMED). -/
def configWord (n : Nat) (r : ConfigReg) (s : State) : Nat :=
  match r with
  | .media => get (Reg.HPT.STS_MEDIA n) s + 64 * 2 ^ 8
  | .ctoReq => get (Reg.HPT.CTO_REQ_US n) s
  | .gpfDuration => 20
  | .gpfPower => (look s.upd.settings gpfPowerKey).getD 170
  | .aer => s.hp.aer.getD n 0

/-- A configuration access once the space is ready (R102, R116, R119). -/
def configAccess (n : Nat) (x : ConfigAccess) (s : State) : State :=
  match x with
  | .read r => emit (.config n false (configWord n r s)) s
  | .viralEnable b => s |> setViral n b |> emit (.config n false 0)
  | .msixEntry v masked => s |> maskEntry n v.toNat masked |> emit (.config n false 0)
  | .aerClear mask =>
    { s with hp := { s.hp with aer := modify s.hp.aer n (fun v => v - Nat.land v mask.toNat) } }
      |> emit (.config n false 0)

/-- A configuration request is answered, with Retry until `CFG_READY` (R106). (log entries 28, 101: PRESUMED). -/
def configRequest (n : Nat) (x : ConfigAccess) (s : State) : State :=
  if !portAlive n s then s
  else if !isSet (Reg.HPT.STS_CFG_READY n) s then emit (.config n true 0) s
  else configAccess n x s

/-- CONFIG_REQUEST (R106). -/
def execConfigRequest (port : Fin 4) (x : ConfigAccess) (s : State) : Host.Outcome State Fault Refusal :=
  run (configRequest port.val x) s

/-- CFG_READY (R106). -/
def execCfgReady (port : Fin 4) (s : State) : Host.Outcome State Fault Refusal :=
  run (fun s =>
    if portAlive port.val s then s |> set (Reg.HPT.STS_CFG_READY port.val) 1 |> mediaShow port.val else s) s

/-- The fields of an HPTn page that `HPn_PERST_N` leaves: `MEDIA_STAGE` (R109), and `LOCK`, which only a chip reset clears
(R72). (log entry 24: DEDUCED). -/
def perstKeeps (n : Nat) : List Nat := [(Reg.HPT.CTL_MEDIA_STAGE n).key, (Reg.LOCK_LOCK (8 + n)).key]

/-- `HPn_PERST_N` is asserted (R109, R117, R124): the port's link, configuration space, decoders, MSI-X table and
page; the fence and the safe state hold on. (log entry 24: DEDUCED). -/
def assertPerst (n : Nat) (s : State) : State :=
  let fence := isSet (Reg.HPT.STS_FENCED n) s
  { s with hp := { s.hp with
      perst := addNat s.hp.perst n,
      decoders := s.hp.decoders.filter (·.port != n), notCommitted := s.hp.notCommitted.filter (·.1 != n),
      msixOpen := s.hp.msixOpen.filter (·.1 != n), msixPending := s.hp.msixPending.filter (·.1 != n),
      aer := modify s.hp.aer n (fun _ => 0), credits := modify s.hp.credits n (fun _ => 0) } }
    |> portForget n |> portLinkDown n |> setViral n false
    |> wipePage (8 + n) (perstKeeps n) |> reloadStored (8 + n)
    |> put1 (Reg.HPT.STS_FENCED n) fence
    |> put1 (Reg.HPT.STS_READ_HOLD n) (inSafe s)
    |> ctoShow

/-- HP_PERST_ASSERT (R109). -/
def execHpPerstAssert (port : Fin 4) (s : State) : Host.Outcome State Fault Refusal :=
  run (fun s => if portUsed port.val s then assertPerst port.val s else s) s

/-- Its release starts the way to `CFG_READY`, and ends a flush HOLD with good VIN (R106, R294). -/
def execHpPerstRelease (port : Fin 4) (s : State) : Host.Outcome State Fault Refusal :=
  run (fun s =>
    if portUsed port.val s && s.hp.perst.contains port.val then
      { s with hp := { s.hp with perst := s.hp.perst.filter (· != port.val) } }
        |> (fun s => if flushHold s && vinGoodNow s then leaveHold s else s)
    else s) s

/-! ### Link (R103, R119) -/

/-- The pending messages of a port whose entries are open are sent once its link is up (R119). -/
def sendPending (n : Nat) (s : State) : State := sendPendingOn (fun m => m.1 == n && s.hp.msixOpen.contains m) s

/-- The port has trained at a width and rate. -/
def linkUp (n : Nat) (x16 gt64 : Bool) (s : State) : State :=
  let strap := bitOf (get Reg.SYS.CAPS_HP_X16 s) n
  let wide := strap && x16
  let degraded := (strap && !x16) || !gt64
  s |> set (Reg.HPT.LINK_WIDTH n) (if wide then 2 else 1)
    |> set (Reg.HPT.LINK_RATE n) (if gt64 then 2 else 1)
    |> put1 (Reg.HPT.LINK_DEGRADED n) degraded
    |> (fun s => if degraded then raiseHeld (144 + n) 0 n (linkWord n s) 0 s else liveFall (144 + n) s)
    |> sendPending n

/-- LINK_TRAINED (R103). -/
def execLinkTrained (port : Fin 4) (x16 : Bool) (gt64 : Bool) (up : Bool) (s : State) :
    Host.Outcome State Fault Refusal :=
  run (fun s =>
    if !portAlive port.val s || !domainOn (4 + port.val) s then s
    else if up then linkUp port.val x16 gt64 s
    else portFailed port.val s) s

/-- LINK_DOWN (R119). -/
def execLinkDown (port : Fin 4) (s : State) : Host.Outcome State Fault Refusal := run (portLinkDown port.val) s

/-! ### HDM decoders (R104) -/

/-- The size of a committed decoder. -/
def decoderSize (n d : Nat) (s : State) : Option Nat :=
  (s.hp.decoders.find? (fun h => h.port == n && h.decoder == d)).map (·.size)

/-- A size and an interleave meet a decoder's role. (log entry 91: DEDUCED). -/
def decoderMeets (n d size ways : Nat) (s : State) : Bool :=
  ways == 1 &&
  (if d = 0 then decide (0 < size) && size % 2 ^ 28 == 0 && decide (size ≤ exposedBytes s)
   else if d = 1 then size == 16 * 2 ^ windowBits s
   else if d = 2 then isSet Reg.TWN.STS_PROMOTED s && size == mirrorGranules s * granBytes s
   else size == 0 || (match decoderSize n 0 s with
     | some z => size + z == exposedBytes s
     | none => false))

/-- A decoder's commit, taken, or refused with "Err Not Committed" (R104). (log entry 91: DEDUCED). -/
def commitDecoder (n d size ways : Nat) (s : State) : State :=
  if decoderMeets n d size ways s then
    let others := s.hp.decoders.filter (fun (h : Hdm) => !(h.port == n && h.decoder == d))
    let base := if d = 3 then (decoderSize n 0 s).getD 0 else 0
    { s with hp := { s.hp with decoders := others ++ [{ port := n, decoder := d, size := size, base := base }],
                               notCommitted := s.hp.notCommitted.filter (· != (n, d)) } }
      |> putBit (Reg.HPT.HDM_STS_COMMITTED n) d true |> ctoShow |> emit (.hdmStatus n d true)
  else
    { s with hp := { s.hp with notCommitted := s.hp.notCommitted.filter (· != (n, d)) ++ [(n, d)] } }
      |> putBit (Reg.HPT.HDM_STS_REFUSED n) d true |> emit (.hdmStatus n d false)

/-- HDM_COMMIT (R104). -/
def execHdmCommit (port : Fin 4) (decoder : Fin 4) (size : Nat) (ways : Nat) (s : State) :
    Host.Outcome State Fault Refusal :=
  run (fun s =>
    if portAlive port.val s && isSet (Reg.HPT.STS_CFG_READY port.val) s then
      commitDecoder port.val decoder.val size ways s
    else s) s

/-! ### Global Persistent Flush and Viral (R113, R117, R124) -/

/-- The link carries messages. -/
def portLinked (n : Nat) (s : State) : Bool :=
  portAlive n s && get (Reg.HPT.LINK_WIDTH n) s != 0 && !pllWaits (6 + n) s

/-- GPF_PHASE1 (R113). -/
def execGpfPhase1 (port : Fin 4) (s : State) : Host.Outcome State Fault Refusal :=
  run (fun s =>
    if portLinked port.val s then s |> inc (Reg.HPT.GPF_PH1 port.val) |> emit (.gpfAck port.val 1 false) else s) s

/-- A save trigger, answered when the fence and the drain are complete, with every other that comes before; under a fence
whose drain is complete its bit is recorded and it is answered at once (R124, R297), and so it is when no save is armed.
(log entry 88: DEDUCED). -/
def gpfFlush (n : Nat) (s : State) : State :=
  let s := s |> inc (Reg.HPT.GPF_PH2 n) |> event (8 + n) 1
  let under := fenced s && savState s != 9
  if (under && !s.sav.drained) || (!under && savArmed s) then
    trigger 2 { s with hp := { s.hp with gpfWaiting := addNat s.hp.gpfWaiting n } }
  else s |> trigger 2 |> emit (.gpfAck n 2 false)

/-- GPF_PHASE2 (R113). -/
def execGpfPhase2 (port : Fin 4) (s : State) : Host.Outcome State Fault Refusal :=
  run (fun s => if portLinked port.val s then gpfFlush port.val s else s) s

/-- VIRAL_RECEIVED (R117). -/
def execViralReceived (port : Fin 4) (s : State) : Host.Outcome State Fault Refusal :=
  run (fun s =>
    if portLinked port.val s then
      s |> set (Reg.HPT.STS_READ_HOLD port.val) 1 |> set (Reg.HPT.STS_VIRAL_RCVD port.val) 1
        |> event (8 + port.val) 2 |> raiseSimple (152 + port.val) 0 port.val 0 0
    else s) s

end Sys2Proof.Machine
end

