-- ==== Sys2Proof/Machine/Mailbox.lean ====
section
/-! DEFINITION. The commands of the mailbox (R114, R118, R124, R467). The return codes are those of CXL 3.1 (log
entry 40): 0 success, 1 background command started, 2 invalid input, 3 unsupported, 6 busy, 8 transfer in
progress, 9 transfer out of order, 15 invalid physical address, 18 aborted. -/

namespace Sys2Proof.Machine

/-- A response leaves the mailbox of a port. (log entry 40: PRESUMED). -/
def reply (n code : Nat) (payload : List Nat) (s : State) : State := emit (.mailbox n code payload) s

/-- The mailbox answers: the link is up and the configuration space is ready. (log entry 40: PRESUMED). -/
def mailboxOpen (n : Nat) (s : State) : Bool := portLinked n s && isSet (Reg.HPT.STS_CFG_READY n) s

/-- A command that any port may send: its payload, and nothing changes. (log entry 40: PRESUMED). -/
def query (n : Nat) (payload : State → List Nat) (s : State) : State :=
  if mailboxOpen n s then reply n 0 (payload s) s else s

/-- A management command: Unsupported and counted on another port (R118); Busy under a fence (R124).
(log entry 40: PRESUMED). -/
def manage (n : Nat) (f : State → State) (s : State) : State :=
  if !mailboxOpen n s then s
  else if n ≠ get Reg.SYS.MGMT_PORT_PORT s then
    s |> inc Reg.SYS.FOREIGN_WR_COUNT |> set Reg.SYS.FOREIGN_WR_PORT n |> reply n 3 []
  else if fenced s then reply n 6 [] s
  else f s

/-! ### Any port -/

/-- Identity: serial number, exposed GiB. -/
def execIdentify (port : Fin 4) (s : State) : Host.Outcome State Fault Refusal :=
  run (query port.val (fun s => [s.pwr.serial.toNat, get Reg.SYS.CAP_ACK_EXPOSED_GIB s])) s

/-- The event records, each its type, its length and its words. -/
def execGetEventRecords (port : Fin 4) (s : State) : Host.Outcome State Fault Refusal :=
  run (query port.val (fun s => s.hp.eventLog.flatMap (fun e => e.1 :: e.2.length :: e.2))) s

/-- GET_EVENT_INTERRUPT_POLICY (R118). -/
def execGetEventInterruptPolicy (port : Fin 4) (s : State) : Host.Outcome State Fault Refusal :=
  run (query port.val (fun s => s.hp.policy.map (·.toNat))) s

/-- The two slots of GAFFER: the slot that runs, the slot that runs next, their versions (0 when unstaged). -/
def execGetFwInfo (port : Fin 4) (s : State) : Host.Outcome State Fault Refusal :=
  run (query port.val (fun s =>
    [2, get (Reg.UPD.SLOT_RUNNING 0) s, bitsOf (pendingSet s) 0 1, get (Reg.UPD.VER_A_VERSION 0) s,
     get (Reg.UPD.VER_B_VERSION 0) s])) s

/-- GET_TIMESTAMP (R118). -/
def execGetTimestamp (port : Fin 4) (s : State) : Host.Outcome State Fault Refusal :=
  run (query port.val (fun s => [s.pwr.rtc])) s

/-- The opcodes of R118 with whether they are management commands. -/
def opcodes : List (Nat × Bool) :=
  [(0x0001, false), (0x0100, false), (0x0101, true), (0x0102, false), (0x0103, true), (0x0200, false),
   (0x0201, true), (0x0300, false), (0x0301, true), (0x0400, false), (0x0401, false), (0x4000, false),
   (0x4100, false), (0x4200, false), (0x4201, false), (0x4202, true), (0x4203, false), (0x4204, true),
   (0x4300, false), (0x4301, true), (0x4302, true), (0xC000, false), (0xC001, true), (0xC002, false),
   (0xC003, false)]

/-- One log, the Command Effects Log, with four bytes for each opcode. -/
def execGetSupportedLogs (port : Fin 4) (s : State) : Host.Outcome State Fault Refusal :=
  run (query port.val (fun _ => [1, 4 * opcodes.length])) s

/-- The Command Effects Log: each opcode and whether it changes state. -/
def execGetLog (port : Fin 4) (s : State) : Host.Outcome State Fault Refusal :=
  run (query port.val (fun _ => opcodes.flatMap (fun o => [o.1, b2n o.2]))) s

/-- All capacity is persistent; the poison list holds 1,024 entries. Capacities in 256 MiB. -/
def execIdentifyMemoryDevice (port : Fin 4) (s : State) : Host.Outcome State Fault Refusal :=
  run (query port.val (fun s =>
    [4 * get Reg.SYS.CAP_ACK_EXPOSED_GIB s, 0, 4 * get Reg.SYS.CAP_ACK_EXPOSED_GIB s, 1024])) s

/-- Active volatile capacity 0, active persistent capacity the exposed one. -/
def execGetPartitionInfo (port : Fin 4) (s : State) : Host.Outcome State Fault Refusal :=
  run (query port.val (fun s => [0, 4 * get Reg.SYS.CAP_ACK_EXPOSED_GIB s])) s

/-- Life used (R118): the spec gives no formula, and the model takes the per cent of the pool's endurance (R219) that its
erases have used. (log entry 107: DESIGN CHOICE). -/
def lifeUsed (s : State) : Nat :=
  let all := get Reg.NFC.POOL_BLOCKS s * get Reg.NFC.WEAR_ENDURANCE_K s * 1000
  (all - get Reg.NFC.REMAIN_PE_KCYCLES s * 1024) * 100 / max 1 all

/-- Life used, and the dirty-shutdown count (R114). -/
def execGetHealthInfo (port : Fin 4) (s : State) : Host.Outcome State Fault Refusal :=
  run (query port.val (fun s => [lifeUsed s, s.hp.dirtyShutdowns])) s

/-- GET_ALERT_CONFIGURATION (R118). -/
def execGetAlertConfiguration (port : Fin 4) (s : State) : Host.Outcome State Fault Refusal :=
  run (query port.val (fun s => s.hp.alert.map (·.toNat))) s

/-- GET_SHUTDOWN_STATE (R114). -/
def execGetShutdownState (port : Fin 4) (s : State) : Host.Outcome State Fault Refusal :=
  run (query port.val (fun s => [s.hp.shutdownState])) s

/-- The first 1,024 poisoned lines of the exposed capacity, after the overflow flag; beyond them POISON_OVF
latches. -/
def poisonList (n : Nat) (s : State) : State :=
  let ls := s.dram.poisoned.filter (fun l => 64 * l < exposedBytes s)
  let full := decide (1024 < ls.length)
  s |> when full (event (8 + n) 4) |> reply n 0 (b2n full :: (ls.take 1024).map (64 * ·))

/-- GET_POISON_LIST (R118). -/
def execGetPoisonList (port : Fin 4) (s : State) : Host.Outcome State Fault Refusal :=
  run (fun s => if mailboxOpen port.val s then poisonList port.val s else s) s

/-- `SYS.PERSIST`, `SYS.PERSIST_CHG` and `SYS.PERSIST_WDRAW`. -/
def execGetPersistenceState (port : Fin 4) (s : State) : Host.Outcome State Fault Refusal :=
  run (query port.val (fun s => [persistWord s, get Reg.SYS.PERSIST_CHG_FRAME s,
    get Reg.SYS.PERSIST_WDRAW_COUNT s + get Reg.SYS.PERSIST_WDRAW_LAST_REASONS s * 2 ^ 16])) s

/-- No pointer of GQ2 moves (R322). -/
def execReadContinuityRecord (port : Fin 4) (s : State) : Host.Outcome State Fault Refusal :=
  run (query port.val (fun s => s.rsr.continuity)) s

/-- GET_RESTORE_PROGRESS (R118). -/
def execGetRestoreProgress (port : Fin 4) (s : State) : Host.Outcome State Fault Refusal :=
  run (query port.val (fun s => [rsrStage s, get Reg.RSR.DONE_GRAN s,
    get Reg.RSR.TOTAL_GRAN s - get Reg.RSR.DONE_GRAN s])) s

/-! ### Management -/

/-- CLEAR_EVENT_RECORDS (R118). -/
def execClearEventRecords (port : Fin 4) (s : State) : Host.Outcome State Fault Refusal :=
  run (manage port.val (fun s => { s with hp := { s.hp with eventLog := [] } } |> reply port.val 0 [])) s

/-- SET_EVENT_INTERRUPT_POLICY (R118). -/
def execSetEventInterruptPolicy (port : Fin 4) (policy : MailboxWords) (s : State) :
    Host.Outcome State Fault Refusal :=
  run (manage port.val (fun s => { s with hp := { s.hp with policy := policy } } |> reply port.val 0 [])) s

/-- SET_TIMESTAMP (R118). (log entry 92: DEDUCED). -/
def execSetTimestamp (port : Fin 4) (t : Nat) (s : State) : Host.Outcome State Fault Refusal :=
  run (manage port.val (fun s => { s with pwr := { s.pwr with rtc := t } } |> reply port.val 0 [])) s

/-- SET_ALERT_CONFIGURATION (R118). -/
def execSetAlertConfiguration (port : Fin 4) (cfg : MailboxWords) (s : State) : Host.Outcome State Fault Refusal :=
  run (manage port.val (fun s => { s with hp := { s.hp with alert := cfg } } |> reply port.val 0 [])) s

/-- The shutdown state is stored; the dirty-shutdown count does not change (R114). -/
def execSetShutdownState (port : Fin 4) (st : Nat) (s : State) : Host.Outcome State Fault Refusal :=
  run (manage port.val (fun s => { s with hp := { s.hp with shutdownState := st } } |> reply port.val 0 [])) s

/-- ACKNOWLEDGE_CAPACITY (R118). -/
def execAcknowledgeCapacity (port : Fin 4) (s : State) : Host.Outcome State Fault Refusal :=
  run (manage port.val (fun s => s |> ackCapacity |> reply port.val 0 [])) s

/-- Poison is written into a line while the key of R89 is open. (log entry 92: DEDUCED). -/
def injectLine (n addr : Nat) (s : State) : State :=
  if !isSet Reg.SAF.FINJ_KEY_OPEN s then reply n 3 [] s
  else if exposedBytes s ≤ addr then reply n 15 [] s
  else
    let line := addr / 64
    s |> replayAhead line {}
      |> (fun s => putLine line (lineNow line s).1 true s) |> markWrite (granuleOf line s) none |> reply n 0 []

/-- INJECT_POISON (R118). -/
def execInjectPoison (port : Fin 4) (addr : Nat) (s : State) : Host.Outcome State Fault Refusal :=
  run (manage port.val (injectLine port.val addr)) s

/-- A full-line write of the supplied data; the mailbox answers when the write is acknowledged (R8, R118).
(log entry 92: DEDUCED). -/
def clearLine (n addr : Nat) (data : Line) (tag : Nat) (s : State) : State :=
  if exposedBytes s ≤ addr then reply n 15 [] s
  else
    tryWrite { port := n, tag := tag, line := addr / 64, be := some allBytes, data := data, ctx := none,
               mailbox := true, why := .demand 0 } allBytes s

/-- CLEAR_POISON (R118). -/
def execClearPoison (port : Fin 4) (addr : Nat) (data : Line) (tag : Nat) (s : State) :
    Host.Outcome State Fault Refusal :=
  run (manage port.val (clearLine port.val addr data tag)) s

/-! ### Transfer FW (R467) -/

/-- Words are programmed from a word offset of a slot. -/
def programPart (c : Nat) (slotB : Bool) (first : Nat) (data : List Word) (s : State) : State :=
  forEach (List.range data.length) (fun i => putWord (slotWord c slotB + first + i) (data.getD i 0).toNat) s

/-- Words of a component's slot. -/
def slotWords (c : Nat) : Nat := 0x4000 * slotSize c

/-- `UPD.DL.KIB`: the KiB programmed so far. -/
def progressShow (words : Nat) (s : State) : State := set Reg.UPD.DL_KIB (words / 256) s

/-- A part that does not fit ends the transfer: Invalid Input, the slot unstaged. -/
def badPart (n : Nat) (s : State) : State := s |> dropTransfer |> reply n 2 []

/-- The initiate part: its header names the component, whose inactive slot is erased and the part programmed, in the
background. -/
def beginTransfer (n first : Nat) (data : List Word) (s : State) : State :=
  let c := (data.getD 0 0).toNat % 2 ^ 16
  let slotB := !bitOf s.upd.running c
  if s.upd.transfer.isSome then reply n 8 [] s
  else if first ≠ 0 || data.isEmpty || 4 ≤ c || (pendingOf s).any (fun a => a.1 == c && a.2 == slotB) ||
      slotWords c < data.length then badPart n s
  else
    { s with upd := { s.upd with transfer := some { component := c, slotB := slotB, next := data.length } } }
      |> forEach (List.range (slotSize c)) (fun k => eraseBlock (slotFirst c slotB + k))
      |> setImage c slotB (fun _ => {})
      |> programPart c slotB 0 data
      |> set Reg.UPD.DL_COMPONENT c |> set Reg.UPD.DL_ACTIVE 1 |> progressShow data.length
      |> updShow |> reply n 1 []

/-- A continue part at its offset. -/
def goOnTransfer (n first : Nat) (data : List Word) (s : State) : State :=
  match s.upd.transfer with
  | none => reply n 2 [] s
  | some t =>
    if first ≠ t.next || slotWords t.component < t.next + data.length then badPart n s
    else
      { s with upd := { s.upd with transfer := some { t with next := t.next + data.length } } }
        |> programPart t.component t.slotB first data
        |> progressShow (t.next + data.length) |> reply n 0 []

/-- The bytes of the image after its header (R465). -/
def imageBytes (c : Nat) (slotB : Bool) (length : Nat) (s : State) : List Nat :=
  ((List.range (ceilDiv length 4)).flatMap (fun k =>
    let w := arrayWord (slotWord c slotB + 1024 + k) s
    [w % 256, w / 256 % 256, w / 65536 % 256, w / 16777216])).take length

/-- LENGTH and IMG_CRC of the header match what was transferred (R465, R467). (log entry 80: DESIGN CHOICE). -/
def transferMatches (t : Transfer) (s : State) : Bool :=
  let length := arrayWord (slotWord t.component t.slotB + 6) s
  decide (ceilDiv length 4 + 1024 = t.next) &&
  (crc32c (imageBytes t.component t.slotB length s)).toNat == arrayWord (slotWord t.component t.slotB + 7) s

/-- The end part: STAGED is programmed when LENGTH and IMG_CRC match. (log entry 33: DESIGN CHOICE). -/
def finishTransfer (n : Nat) (signed : Bool) (s : State) : State :=
  match s.upd.transfer with
  | none => reply n 2 [] s
  | some t =>
    if !transferMatches t s then badPart n s
    else
      s |> putWord (slotWord t.component t.slotB + 1022) 0x5A5A
        |> (fun s => setImage t.component t.slotB (fun _ => imageHeader t.component t.slotB true signed s) s)
        |> dropTransfer |> event 0xB1 0 |> updShow |> reply n 0 []

/-- A part of Transfer FW (R467). -/
def transferPart (n : Nat) (part : FwPart) (s : State) : State :=
  match part with
  | .initiate first data => beginTransfer n first data s
  | .cont first data => goOnTransfer n first data s
  | .finish signed => finishTransfer n signed s

/-- TRANSFER_FW (R467). -/
def execTransferFw (port : Fin 4) (part : FwPart) (s : State) : Host.Outcome State Fault Refusal :=
  run (manage port.val (transferPart port.val part)) s

/-! ### Any other opcode -/

/-- An unknown opcode, or a management command of another port (R118). -/
def unsupportedOpcode (n op : Nat) (s : State) : State :=
  match opcodes.find? (fun o => o.1 == op) with
  | none => reply n 3 [] s
  | some o =>
    if o.2 && n != get Reg.SYS.MGMT_PORT_PORT s then
      s |> inc Reg.SYS.FOREIGN_WR_COUNT |> set Reg.SYS.FOREIGN_WR_PORT n |> reply n 3 []
    else s

/-- MAILBOX_UNSUPPORTED (R118). -/
def execMailboxUnsupported (port : Fin 4) (opcode : BitVec 16) (s : State) : Host.Outcome State Fault Refusal :=
  run (fun s => if mailboxOpen port.val s then unsupportedOpcode port.val opcode.toNat s else s) s

end Sys2Proof.Machine
end

