-- ==== Sys2Proof/Machine/NandCmds.lean ====
section
/-! DEFINITION. The commands of the seal store, the Marver and the Lehr (R203 to R250). -/

namespace Sys2Proof.Machine

/-! ### The Lehr's pick (R242, R287 step 4) -/

/-- The pages of the save's path take its records: none of them aborts (R94). -/
def savePathReady (s : State) : Bool :=
  ([0x41, 0x42, 0x50] : List Nat).all (fun p => !isSet (Reg.BLKSTS_ABORTING p) s)

/-- The image is still being restored while the host runs, and the dirty count leaves NAND time to the restore (R319). -/
def restoreFirst (s : State) : Bool :=
  rsrStage s == 8 && !allRestored s && decide (dirtyEff s < get Reg.LEH.WM_LO_GRAN s)

/-- The rate at which the Lehr may pick in normal running (R28, R32, R243): full from the low watermark on; below it, full
under SEAL_FIRST while the wear credit is above 0, and else what the sustainable rate has given.
(log entry 47: DEDUCED). -/
def paceGives (s : State) : Bool :=
  decide (get Reg.LEH.WM_LO_GRAN s ≤ dirtyEff s) || (get Reg.LEH.POLICY_POLICY s == 0 && decide (0 < s.mrv.credit)) ||
    decide ((granPages s : Rat) ≤ s.mrv.pace)

/-- The Lehr takes new granules: in normal running, in the pre-seal (R281) or in the save (R287). -/
def lehrRuns (s : State) : Bool :=
  domainOn 42 s && nandPowered s && ((savState s == 6 && holdSaved s && savePathReady s) ||
    (savState s == 3 && savePathReady s && !vinGoodNow s && !presealCut s && decide (bCap s < dirtyEff s)) ||
    (!fenced s && admittedNow s && pageReady 0x41 s && pageReady 0x50 s && !restoreFirst s && paceGives s))

/-- A granule may be picked: DIRTY, restored and, but for the save path, not held. (log entry 89: DEDUCED). -/
def pickable (g : Nat) (e : Entry) (s : State) : Bool :=
  e.state == .dirty && !unrestored g s && entryInUse g s &&
  (if savState s = 6 then !s.sav.residueLost.contains g else !e.txHeld)

/-- The granule's group is eligible: OLD, or any below no low watermark, and any in a pre-seal or a save.
(log entry 89: DEDUCED). -/
def groupEligible (k : Nat) (s : State) : Bool :=
  fenced s || decide (get Reg.LEH.WM_LO_GRAN s ≤ dirtyEff s) || ((look s.mrv.groups k).map (·.old)).getD false

/-- The next granule from the cursor on, groups ascending and around (R242); the lowest one in a save. -/
def nextPick (s : State) : Option Nat :=
  let ok := fun (e : Nat × Entry) => pickable e.1 e.2 s && groupEligible (e.1 / 64) s
  let cursor := if savState s = 6 then 0 else get Reg.LEH.CURSOR_GROUP s
  match s.mrv.entries.find? (fun e => ok e && decide (cursor ≤ e.1 / 64)) with
  | some e => some e.1
  | none => (s.mrv.entries.find? ok).map (·.1)

/-- A residue error in seal data (R48): the granule stays DIRTY; a second one in a save makes it LOST.
(log entry 89: DEDUCED). -/
def sealResidue (g : Nat) (s : State) : State :=
  let s := raiseSimple 186 0 0 g 0 s
  if savState s ≠ 6 then s
  else if s.sav.residueOnce.contains g then
    s |> setSavs (fun v => { v with residueLost := addNat v.residueLost g }) |> markLost g 3
  else setSavs (fun v => { v with residueOnce := addNat v.residueOnce g }) s

/-- A granule's record begins on a die of a channel; below the low watermark it uses what the sustainable rate gave. Lines that no
source repairs are sealed with their POISON bit (R166, R247). -/
def beginSeal (g ch die : Nat) (poison : List Nat) (s : State) : State :=
  let save := savState s == 6
  let finder := if save then Finder.save.code else Finder.lehr.code
  let lines := (poison.filter (fun j => j < granLines s)).map (· + granuleBase g s)
  let slow := !fenced s && decide (dirtyEff s < get Reg.LEH.WM_LO_GRAN s)
  s |> forEach lines (fun l => poisonLine l finder)
    |> startSeal g ch die save poison
    |> set Reg.LEH.CURSOR_GROUP (g / 64)
    |> when slow (fun s => { s with mrv := { s.mrv with pace := max 0 (s.mrv.pace - (granPages s : Rat)) } })

/-- The picked granule's seal begins when its words check and the Lehr, or the save, finds a credit of each pool on its
way: its own reads', the record write pool's and the channel's; and else it waits on the pool (R41, R42, R48). -/
def pickGranule (g die : Nat) (bad : Option SealWord) (poison : List Nat) (s : State) : State :=
  let ch := nextChannel s
  let save := savState s == 6
  if !dieTakes ch die s || !channelTakes ch s then s
  else if bad.any (fun w => !wordGood w.word) then sealResidue g s
  else
    withCredit (if save then poolAddr 0x42 0x13C else poolAddr 0x41 0x15C) save
      (withCredit (poolAddr 0x50 0x13C) save (withCredit (poolAddr (0x60 + ch) 0x118) save (beginSeal g ch die poison))) s

/-- A pick: nothing while the delta cache is full, which counts as an overrun of task 6 (R213). -/
def lehrPick (die : Nat) (bad : Option SealWord) (ecc : MarverEcc) (poison : List Nat) (s : State) : State :=
  if !lehrRuns s then s
  else
    match nextPick s with
    | none => s
    | some g =>
      if deltaFull s && !fenced s then { s with mrv := { s.mrv with deltaStall := true } }
      else
        let t := s |> checkEntry g ecc |> checkInjection 186
        if ecc = .uncorrectable then t else pickGranule g die bad poison t

/-- LEHR_PICK (R242). (log entry 32: DESIGN CHOICE). -/
def execLehrPick (die : Nat) (bad : Option SealWord) (ecc : MarverEcc) (poison : List Nat) (s : State) :
    Host.Outcome State Fault Refusal :=
  run (lehrPick die bad ecc poison) s

/-- Good status for the last page of a granule's record (R240). -/
def sealComplete (g : Nat) (s : State) : State :=
  match sealingOf g s with
  | none => s
  | some r =>
    s |> endSeal r |> dieGood r.loc.ch r.loc.die
      |> when r.bySave (setSavs (fun v => { v with sealed := v.sealed + 1 }))

/-- SEAL_COMPLETE (R240). -/
def execSealComplete (granule : Nat) (s : State) : Host.Outcome State Fault Refusal := run (sealComplete granule) s

/-! ### Failures (R205, R222 to R224) -/

/-- What a program failure does to the block and its die. -/
def programFailed (l : Loc) (s : State) : State :=
  s |> inc (Reg.NCH.FAILS_PROG l.ch) |> growBad l 0 |> dieStreak l

/-- Where a record is written anew (R223): the other die named, while it is a die of the same channel that takes records;
else the die of that channel that will be idle first, and without one a die of another channel. -/
def rewritePlace (l : Loc) (die : Nat) (s : State) : Option (Nat × Nat) :=
  if die ≠ l.die && dieTakes l.ch die s then some (l.ch, die)
  else
    match ((List.range 16).filter (fun d => d != l.die && dieTakes l.ch d s)).head? with
    | some d => some (l.ch, d)
    | none => ((((List.range 32).filter (fun c => c != l.ch && channelTakes c s)).flatMap (fun c =>
        (List.range 16).map (fun d => (c, d)))).find? (fun p => dieTakes p.1 p.2 s))

/-- A record under way starts again at another place. -/
def replaced (r : SealRec) (ch die : Nat) (isSeal : Bool) (s : State) : SealRec × State :=
  let l := nextLoc ch die s
  let t := placePages ch die (granPages s) isSeal s
  ({ r with loc := l, tail := tailOf l t }, queueOp ch die { kind := .program, what := r.granule } t)

/-- A program fails (R223): a seal of the Lehr leaves its granule DIRTY; a record of a save or a move is written anew from
its start. (log entry 89: DEDUCED). -/
def programFail (g die : Nat) (s : State) : State :=
  match sealingOf g s with
  | some r =>
    let t := s |> endOp r.loc.ch r.loc.die .program g |> programFailed r.loc
    match (if r.bySave && (sealingOf g t).isSome then rewritePlace r.loc die t else none) with
    | none => abandonSeal g t
    | some p =>
      let u := replaced r p.1 p.2 true (unqueue r.loc.ch (granPages s) t)
      { u.2 with nand := { u.2.nand with sealing := u.2.nand.sealing.map (fun m => if m.granule = g then u.1 else m) } }
  | none =>
    match s.nand.moving.find? (·.granule == g) with
    | none => s
    | some r =>
      let t := s |> unqueue r.loc.ch (granPages s) |> endOp r.loc.ch r.loc.die .program g |> programFailed r.loc
      match rewritePlace r.loc die t with
      | none => { t with nand := { t.nand with moving := t.nand.moving.filter (·.granule != g) } }
      | some p =>
        let u := replaced r p.1 p.2 false t
        { u.2 with nand := { u.2.nand with moving := u.2.nand.moving.map (fun m => if m.granule = g then u.1 else m) } }

/-- NAND_PROGRAM_FAIL (R223). -/
def execNandProgramFail (granule die : Nat) (s : State) : Host.Outcome State Fault Refusal :=
  run (programFail granule die) s

/-- A block may be erased: it holds no record that is needed, and it is no append point. (log entry 89: DEDUCED). -/
def erasable (l : Loc) (s : State) : Bool :=
  channelPresent l.ch s && l.die < diesPerChannel s && l.block < blocksPerDie s && !blockBad l.ch l.die l.block s &&
  look s.nand.openBlocks (16 * l.ch + l.die) != some l.block &&
  !(l.die == 0 && (anchorBlocks l.ch s).contains l.block) && validRecords l s == 0 &&
  !s.nand.sealing.any (inBlock l) && !s.nand.moving.any (inBlock l)

/-- The block is erased: its records are gone and it counts again as erased (R219). -/
def blockErased (l : Loc) (s : State) : State :=
  let b := blockAt l s
  let records := s.nand.records.filter (fun r => !inBlock l r)
  let wasUsed := b.pages != 0
  { s with nand := { s.nand with
      records := records, others := s.nand.others.filter (fun r => !metaIn l r),
      erasing := s.nand.erasing.filter (fun x => blockKey x != blockKey l),
      compacting := s.nand.compacting.filter (fun k => k != blockKey l) } }
    |> setBlock l { erases := b.erases + 1, uncorrBefore := b.uncorr }
    |> when wasUsed (fun s => set Reg.NFC.ERASED_BLOCKS (get Reg.NFC.ERASED_BLOCKS s + 1) s)
    |> dieGood l.ch l.die
    |> when (decide (get Reg.NFC.WEAR_ENDURANCE_K s * 1000 ≤ b.erases + 1)) (growBad l 3)

/-- An erase ends (R222). -/
def eraseDone (l : Loc) (ok : Bool) (s : State) : State :=
  let s := endOp l.ch l.die .erase l.block s
  if !erasable l s then s
  else if ok then blockErased l s
  else
    { s with nand := { s.nand with erasing := s.nand.erasing.filter (fun x => blockKey x != blockKey l) } }
      |> inc (Reg.NCH.FAILS_ERASE l.ch) |> growBad l 1 |> dieStreak l

/-- NAND_ERASE_DONE (R222). -/
def execNandEraseDone (at_ : Loc) (ok : Bool) (s : State) : Host.Outcome State Fault Refusal :=
  run (eraseDone at_ ok) s

/-- The page of its record that a page of a die is; none where the record does not cover it (R208). -/
def pageOf (l : Loc) (r : SealRec) (s : State) : Option Nat :=
  let n := granPages s
  let head := headPages r.loc.page n s
  if r.loc.ch ≠ l.ch ∨ r.loc.die ≠ l.die then none
  else if r.loc.block = l.block then
    (if r.loc.page ≤ l.page ∧ l.page < r.loc.page + head then some (l.page - r.loc.page) else none)
  else if r.tail = some l.block ∧ l.page < n - head then some (head + l.page)
  else none

/-- The granules whose current record covers a page. -/
def granulesAt (l : Loc) (s : State) : List Nat :=
  (s.nand.records.filter (fun r => look s.nand.map r.granule == some r.loc.code && (pageOf l r s).isSome)).map (·.granule)

/-- A codeword of a page does not decode (R220): its record is invalid from then on (R208), and a granule whose current
record it belongs to is sealed again. A block in which that happens again after its rewrite is grown bad (R222). -/
def codewordLost (l : Loc) (cw : Nat) (s : State) : State :=
  let b := blockAt l s
  { s with nand := { s.nand with records := s.nand.records.map (fun r =>
      match pageOf l r s with
      | some k => { r with bad := addNat r.bad (4 * k + cw) }
      | none => r) } }
    |> setBlock l { b with uncorr := true }
    |> inc (Reg.NCH.LDPC_UNCORR l.ch) |> event (0x60 + l.ch) 1 |> raiseSimple 224 0 0 l.code 0
    |> forEach (granulesAt l s) (fun g s => if admittedNow s then forceDirty g s else s)
    |> when b.uncorrBefore (growBad l 2)

/-- The codewords of a page that a read names, each once. -/
def codewords (l : List (Fin 4)) : List (Fin 4) := ([0, 1, 2, 3] : List (Fin 4)).filter (l.contains ·)

/-- A read of a NAND page ends (R220): counted against its block; of its four codewords, some took read-offset retries,
and some of these stay uncorrectable. The queue of its die goes on (R214). -/
def nandRead (l : Loc) (retried failed : List (Fin 4)) (s : State) : State :=
  if !dieReads l s then s
  else
    let b := blockAt l s
    let again := codewords (retried ++ failed)
    let due := b.refresh || !again.isEmpty || decide (get Reg.NFC.RD_DISTURB_LIMIT s ≤ b.reads + 1)
    s |> setBlock l { b with reads := b.reads + 1, refresh := due }
      |> count (Reg.NCH.LDPC_RETRIED l.ch) again.length
      |> forEach (codewords failed) (fun c => codewordLost l c.val)
      |> forEach (granulesAt l s) (endOp l.ch l.die .read)

/-- NAND_READ_DONE (R220). -/
def execNandReadDone (at_ : Loc) (retried failed : List (Fin 4)) (s : State) : Host.Outcome State Fault Refusal :=
  run (nandRead at_ retried failed) s

/-- DIE_TIMEOUT (R205). -/
def execDieTimeout (ch : Fin 32) (die : Fin 16) (s : State) : Host.Outcome State Fault Refusal :=
  run (fun s => if channelGood ch.val s && decide (die.val < diesPerChannel s) then failDie ch.val die.val s else s) s

/-! ### Moves and checkpoints (R212, R213, R218) -/

/-- The metadata records of a block that are still needed are written anew, with MOVED (R218). -/
def moveMetadata (l : Loc) (s : State) : State :=
  forEach (s.nand.others.filter (fun r => metaIn l r && metaNeeded r s)) (fun r s =>
    let t := programRecord r.body r.bySave s
    { t with nand := { t.nand with others :=
        (t.nand.others.filter (fun q => q.loc != r.loc)).map (fun q =>
          if q.body = r.body ∧ q.frame = now s then { q with moved := true, frame := r.frame } else q) } }) s

/-- The block that a move left holds no granule's record that is needed: its metadata is written anew, and it is erased, or
entered in the Cullet table when it is grown bad (R218, R222). -/
def eraseIfEmpty (l : Loc) (s : State) : State :=
  if s.nand.records.any (fun r => inBlock l r && recordNeeded r s) then s
  else
    let s := s |> moveMetadata l |> enterCullet l
    if erasable l s then
      { s with nand := { s.nand with erasing := s.nand.erasing ++ [{ l with page := 0 }] } }
        |> queueOp l.ch l.die { kind := .erase, what := l.block }
    else s

/-- A move completes: a CONFIRM entry when the map still points to the record it copied (R212, R225). -/
def moveDone (g : Nat) (s : State) : State :=
  match s.nand.moving.find? (·.granule == g) with
  | none => s
  | some r =>
    let s := { s with nand := { s.nand with moving := s.nand.moving.filter (·.granule != g) } }
      |> unqueue r.loc.ch (granPages s) |> endOp r.loc.ch r.loc.die .program g |> urgentEnds g
      |> dieGood r.loc.ch r.loc.die
    match currentRecord g s with
    | none => s
    | some o =>
      if o.gen = r.gen ∧ o.frame = r.frame ∧ deltaFull s = false then
        { s with nand := { s.nand with records := s.nand.records ++ [r] } }
          |> enterDelta g r.gen true r.loc.code |> inc Reg.NFC.MOVES_COUNT |> eraseIfEmpty o.loc
      else s

/-- MOVE_DONE (R212). -/
def execMoveDone (granule : Nat) (s : State) : Host.Outcome State Fault Refusal := run (moveDone granule) s

/-- A checkpoint starts (R213). -/
def checkpointStart (s : State) : State :=
  if admittedNow s && !fenced s && pageReady 0x50 s && s.nand.checkpoint.isNone &&
      (decide (49152 ≤ s.nand.delta.length) || decide (s.nand.lastCheckpoint + 50000 ≤ now s)) then
    { s with nand := { s.nand with checkpoint := some s.nand.delta.length } }
  else s

/-- CHECKPOINT_START (R213). -/
def execCheckpointStart (s : State) : Host.Outcome State Fault Refusal := run checkpointStart s

/-- The parts of the map that the checkpoint under way has not rewritten yet (R213). -/
def partsLeft (n : Nat) (s : State) : List Nat :=
  (dirtyParts n s).filter (fun p => !s.nand.others.any (fun r => r.body ==
    .map p ((applyDeltas (s.nand.delta.take n) s.nand.mapFlash).filter (fun e => e.1 / 4096 == p)) && metaValid r s))

/-- The checkpoint's MAP records are programmed (R213). -/
def writeMaps (s : State) : State :=
  match s.nand.checkpoint with
  | none => s
  | some n => forEach (partsLeft n s) (writeMap n) s

/-- The checkpoint ends (R213, R222): what MAP records are left, the Cullet table, the directory and the manifest are
programmed, and the entries it covers are freed. -/
def checkpointDone (s : State) : State :=
  match s.nand.checkpoint with
  | none => s
  | some n =>
    let s := s |> writeMaps |> when (culletStale s) (writeCullet false) |> writeDirectory false
    let s := { s with nand := { s.nand with checkpoint := none, lastCheckpoint := now s,
                                            mapFlash := applyDeltas (s.nand.delta.take n) s.nand.mapFlash } }
      |> setDelta (s.nand.delta.drop n)
    s |> programManifest (buildManifest 2 0 s) (anchorsTake s).1 (anchorsTake s).2
      |> set Reg.NFC.CKPT_FRAME_FRAME (now s) |> event 0x50 2

/-- CKPT_DONE (R213). -/
def execCkptDone (s : State) : Host.Outcome State Fault Refusal := run checkpointDone s

/-- Erased blocks have been below the reserve for 50 frames (R217). -/
def execFreeSpaceLow (s : State) : Host.Outcome State Fault Refusal :=
  run (fun s =>
    if 50 ≤ s.nand.lowFrames then
      raiseHeld 226 0 0 (get Reg.NFC.ERASED_BLOCKS s) (get Reg.NFC.SAVE_RESERVE_BLOCKS s) s
    else s) s

/-! ### Recounts and peeks (R238, R249) -/

/-- FULL_RECOUNT (R238). -/
def execFullRecount (s : State) : Host.Outcome State Fault Refusal :=
  run (fun s => if isSet Reg.MRV.RC_STS_FULL_ACTIVE s || pageDark 0x40 s then s else startFullRecount false s) s

/-- The full recount ends (R238). -/
def fullRecountDone (s : State) : State :=
  if !isSet Reg.MRV.RC_STS_FULL_ACTIVE s then s
  else
    { s with mrv := { s.mrv with fullEnded := true } }
      |> set Reg.MRV.RC_STS_FULL_ACTIVE 0
      |> endRecount (countDirty 0 16777216 s) false (!s.mrv.fullByEcc)

/-- FULL_RECOUNT_DONE (R238). -/
def execFullRecountDone (s : State) : Host.Outcome State Fault Refusal := run fullRecountDone s

/-- A write of `MRV.PEEK_IDX` starts a read. -/
def writePeek (index : Nat) (s : State) : State :=
  { s with mrv := { s.mrv with peeking := true } }
    |> set Reg.MRV.PEEK_IDX_INDEX index |> set Reg.MRV.PEEK_VALID 0

/-- PEEK (R249). -/
def execPeek (w : Writer) (index : BitVec 25) (s : State) : Host.Outcome State Fault Refusal :=
  run (reach w 0x4012C index.toNat (writePeek index.toNat)) s

/-- The entry's payload and check bits. -/
def peekResult (s : State) : State :=
  if !s.mrv.peeking then s
  else
    let code := entryCode (entryOf (get Reg.MRV.PEEK_IDX_INDEX s) s)
    { s with mrv := { s.mrv with peeking := false } }
      |> set Reg.MRV.PEEK_ENTRY code |> set Reg.MRV.PEEK_CHECK (Config.marverCheck (BitVec.ofNat 16 code)).toNat
      |> set Reg.MRV.PEEK_VALID 1

/-- PEEK_DONE (R249). (log entry 16: DEDUCED). -/
def execPeekDone (s : State) : Host.Outcome State Fault Refusal := run peekResult s

/-! ### Interface training at power-on (R203, R205) -/

/-- A channel's training ends: its dies answer, or the channel is failed. -/
def nandTrained (ch : Nat) (ok : Bool) (s : State) : State :=
  if !channelPresent ch s || !domainOn (30 + ch / 4) s || !s.pwr.firmware || isSet (Reg.NCH.STS_TRAINED ch) s ||
      isSet (Reg.NCH.STS_FAILED ch) s then s
  else
    let s := if ok then
        s |> set (Reg.NCH.STS_TRAINED ch) 1
          |> set (Reg.NCH.STS_DIES_OK ch) (2 ^ diesPerChannel s - 1 -
              Nat.land (2 ^ diesPerChannel s - 1) (get (Reg.NCH.DIE_FAIL_DIES ch) s))
      else channelFailed ch s
    s |> set Reg.SAV.RATE_MBS (saveRate s) |> set Reg.RSR.RATE_MBS (saveRate s)

/-- NAND_INTERFACE_TRAINING_DONE (R203). -/
def execNandInterfaceTrainingDone (ch : Fin 32) (ok : Bool) (s : State) : Host.Outcome State Fault Refusal :=
  run (nandTrained ch.val ok) s

end Sys2Proof.Machine
end

