-- ==== Sys2Proof/Machine/PowerCmds.lean ====
section
/-! DEFINITION. The commands of the always-on island, the rails and the on-die domains (R380 to R398, R483, R502,
R508). -/

namespace Sys2Proof.Machine

/-! ### VAON and the start (R483, R502, R508) -/

/-- VAON appears. -/
def execVaonPowerUp (x : PowerOnIn) (s : State) : Host.Outcome State Fault Refusal :=
  runAlways (fun s => if s.pwr.vaon then s else powerOn x s) s

/-- The controller waits for VIN after a completed power-down, and VIN is good. (log entry 72: DEDUCED). -/
def execPowerOnRestart (optBadA optBadB selftestOk : Bool) (s : State) : Host.Outcome State Fault Refusal :=
  run (fun s =>
    if s.pwr.waitVin && get Reg.SYS.BOOT_STAGE s == 0 && s.pwr.seq == .none && s.pwr.attempts == 0 && vinGoodNow s then
      restartBoot optBadA optBadB selftestOk s
    else s) s

/-- VAON below 3.0 V for 2 µs: every rail is cut and the always-on island loses its state. -/
def execAonReset (s : State) : Host.Outcome State Fault Refusal :=
  run (fun s =>
    let on := (downOrder s).filter (fun r => railIsOn r s)
    s |> loseVaon |> forEach on (fun r => emit (.rail r false)) |> emit (.moduleReset true)) s

/-! ### Power-up (R383 to R386) -/

/-- A rail's good-power debounce ends: the next step, or the end of a retry of a running rail; of a lost rail that its
REACT leaves enabled, the loss is over. (log entry 71: DEDUCED). -/
def railDebounced (r : Nat) (s : State) : State :=
  if railPhase r s = .on then s |> putBit Reg.PWR.STS_PG r true |> liveFall (256 + r)
  else if railPhase r s ≠ .starting then s
  else
    let s := s |> railGood r |> liveFall (256 + r)
    if s.pwr.retrying.contains r then
      { s with pwr := { s.pwr with retrying := s.pwr.retrying.filter (· != r) } }
    else if s.pwr.seq = .up ∨ s.pwr.seq = .wake ∨ s.pwr.seq = .minimal then advanceUp s
    else s

/-- RAIL_PG_DEBOUNCED (R383). -/
def execRailPgDebounced (r : Fin 12) (s : State) : Host.Outcome State Fault Refusal := run (railDebounced r.val) s

/-- A retry of a running rail has failed (R387): another, or GROUP. -/
def retryFailed (r cause : Nat) (s : State) : State :=
  let n := s.pwr.retries.getD r 0 + 1
  let s := { s with pwr := { s.pwr with retries := modify s.pwr.retries r (fun _ => n) } }
    |> railFail r cause (stepOf r s) |> when (cause = 2) (event 0x81 2)
  if n < get (Reg.PWR.RAIL_CFG_RETRIES r) s then cutRail r false s else groupReaction r s

/-- A step that waits for its rail fails: cause 1 timeout, 2 chatter. -/
def stepFailed (r : Nat) (chatter : Bool) (s : State) : State :=
  if railPhase r s ≠ .starting then s
  else
    let cause := if chatter then 2 else 1
    if s.pwr.retrying.contains r then retryFailed r cause s else failStep r cause s

/-- RAIL_STEP_TIMEOUT (R386). -/
def execRailStepTimeout (r : Fin 12) (chatter : Bool) (s : State) : Host.Outcome State Fault Refusal :=
  run (stepFailed r.val chatter) s

/-- The back-off of a cut rail ends: its step runs again. -/
def backoffEnds (r : Nat) (s : State) : State :=
  if railPhase r s ≠ .backoff then s
  else if s.pwr.retrying.contains r then enableRail r s
  else if s.pwr.seq = .up ∨ s.pwr.seq = .wake ∨ s.pwr.seq = .minimal then beginStep (stepOf r s) s
  else s

/-- BACKOFF_EXPIRED (R387). -/
def execBackoffExpired (r : Fin 12) (s : State) : Host.Outcome State Fault Refusal := run (backoffEnds r.val) s

/-- Fifty thousand frames after a failed attempt. -/
def execBootAttemptRetry (s : State) : Host.Outcome State Fault Refusal :=
  run (fun s =>
    if s.pwr.waitVin && s.pwr.seq == .none && decide (0 < s.pwr.attempts) &&
        decide (s.pwr.attempts < get Reg.PWR.BOOT_ATTEMPTS s) then retryBoot s
    else s) s

/-! ### Loss of a running rail (R387 to R389) -/

/-- The reaction of a lost rail. (log entry 70: DEDUCED). -/
def railReact (r : Nat) (s : State) : State :=
  let k := get (Reg.PWR.RAIL_CFG_REACT r) s
  if k = 0 then s
  else if k = 1 && get (Reg.PWR.RAIL_CFG_RETRIES r) s != 0 then
    { s with pwr := { s.pwr with retrying := addNat s.pwr.retrying r, retries := modify s.pwr.retries r (fun _ => 0) } }
      |> cutRunning r
  else if k = 3 then coldReset true s
  else groupReaction r s

/-- A rail that is on loses PG; in a power-down, and of a rail that a ride's entry takes down, nothing follows
(R391). -/
def railLost (r : Nat) (s : State) : State :=
  if !railIsOn r s || railPhase r s ≠ .on || goingDown s || (s.pwr.seq = .ride && !rideKeeps r s) then s
  else
    let s := s |> putBit Reg.PWR.STS_PG r false |> railFail r 3 (stepOf r s) |> inc Reg.PWR.COUNTS_LOSSES |> event 0x81 1
    raiseHeld (256 + r) 3 r (pwrStsWord s) (pwrFailWord s) s |> railReact r

/-- RAIL_LOSS (R387). -/
def execRailLoss (r : Fin 12) (s : State) : Host.Outcome State Fault Refusal := run (railLost r.val) s

/-! ### Power-down (R390, R391) -/

/-- The rail whose step a power-down is at. -/
def currentRail (s : State) : Nat := get (Reg.PWR.SEQ_RAIL (get Reg.PWR.STS_STEP s)) s

/-- A rail is down, or has been given up: what waited for it goes on. (log entry 71: DEDUCED). -/
def railDown (r : Nat) (s : State) : State :=
  if s.pwr.seq = .down ∨ s.pwr.seq = .ride then
    let s := setPhase r .off s
    if !s.pwr.offDue && currentRail s == r then goDown advanceDown s else s
  else if s.pwr.retrying.contains r then setPhase r .backoff s
  else if s.pwr.groupOff.contains r then s |> setPhase r .off |> nextGroupCut
  else if (s.pwr.seq = .up ∨ s.pwr.seq = .wake ∨ s.pwr.seq = .minimal) ∧ currentRail s = r then setPhase r .backoff s
  else setPhase r .off s

/-- A rail's fall is waited for (R390). -/
def dischargeWaits (r : Nat) (s : State) : Bool := railPhase r s == .discharging || railPhase r s == .forced

/-- RAIL_DISCHARGED (R390). -/
def execRailDischarged (r : Fin 12) (s : State) : Host.Outcome State Fault Refusal :=
  run (fun s => if dischargeWaits r.val s then railDown r.val s else s) s

/-- A rail has not discharged within DIS_TIMEOUT: RAIL_DIS is driven; the second time it is recorded with cause 5, and
RAIL_DIS stays high. -/
def disTimeout (r : Nat) (s : State) : State :=
  if railPhase r s = .discharging then
    { s with pwr := { s.pwr with discharge := addNat s.pwr.discharge r } }
      |> setPhase r .forced |> inc Reg.PWR.COUNTS_FORCED_DIS |> emit (.discharge r true)
  else if railPhase r s = .forced then
    s |> railFail r 5 (stepOf r s) |> event 0x81 3 |> railDown r
  else s

/-- DIS_TIMEOUT (R390). -/
def execDisTimeout (r : Fin 12) (s : State) : Host.Outcome State Fault Refusal := run (disTimeout r.val) s

/-- A rail drops before its own step of a power-down: its dependents that are on are cut at once.
(log entry 71: DEDUCED). -/
def depCut (r : Nat) (s : State) : State :=
  let l := (downOrder s).filter (fun q => q != r && (dependents r s).contains q && railIsOn q s)
  if !(s.pwr.seq = .down ∨ s.pwr.seq = .ride) || !railIsOn r s || l.isEmpty then s
  else
    s |> putBit Reg.PWR.STS_PG r false |> forEach l (fun q => cutRail q true)
      |> railFail r 4 (stepOf r s) |> event 0x81 4

/-- DEP_CUT (R391). -/
def execDepCut (r : Fin 12) (s : State) : Host.Outcome State Fault Refusal := run (depCut r.val) s

/-! ### On-die domains (R394) -/

/-- Every block of a domain is absent, or has ENABLE 0 and BUSY 0. -/
def domainIdle (d : Nat) (s : State) : Bool :=
  (domainPages d).all (fun p => !pagePresent p s || (!isSet (Reg.BLKCTL_ENABLE p) s && !pageBusy p s))

/-- PDM.DOM_CTL[d].REQ is written (R394): through a shadow while PDM is enabled, at once while it is not (R69); the switch
begins at the tick either way (R60). (log entry 69: DEDUCED). -/
def requestDomainSwitch (w : Writer) (d req phase : Nat) (s : State) : State :=
  let f := Reg.PDM.DOM_CTL_REQ d
  if req = shown f s then s
  else if isSet (Reg.LOCK_LOCK 0x82) s then werrLocked w f.addr s
  else if 2 ≤ req then werrRange w f.addr s
  else if !domainIdle d s then werrBusy w f.addr s
  else if isSet (Reg.BLKCTL_ENABLE 0x82) s then addShadow f req phase s
  else s |> set f req |> followField f

/-- DOMAIN_REQUEST (R394). -/
def execDomainRequest (w : Writer) (d : Fin 52) (req : BitVec 2) (phase : Nat) (s : State) :
    Host.Outcome State Fault Refusal :=
  run (reach w (0x82100 + 4 * d.val) req.toNat (requestDomainSwitch w d.val req.toNat phase)) s

/-- A domain acknowledges its switch. -/
def switchDone (d : Nat) (s : State) : State :=
  match s.pwr.switching.find? (·.dom == d) with
  | none => s
  | some x =>
    let s := dropSwitch d s
    if x.target = 0 then domainUp d s else s |> setDomain d 1 |> event 0x82 1

/-- DOMAIN_SWITCH_ACK (R394). -/
def execDomainSwitchAck (d : Fin 52) (s : State) : Host.Outcome State Fault Refusal := run (switchDone d.val) s

/-- A switch is not acknowledged; the REACT of a seal-path domain waits for the manifest of a save (R395).
(log entry 69: DEDUCED). -/
def ackFailed (d : Nat) (s : State) : State :=
  if !s.pwr.switching.any (·.dom == d) then s
  else
    let s := s |> set (Reg.PDM.DOM_CTL_ACK_FAIL d) 1 |> event 0x82 0
    let s := raiseSimple (domainSource d) 0 d (domainWord d s) 0 s
    if reactionsWait s && srcSealPath (domainSource d) then
      { s with pwr := { s.pwr with waitingDoms := s.pwr.waitingDoms ++ [d] } }
    else domainReact d s

/-- ACK_FAIL (R394). -/
def execAckFail (d : Fin 52) (s : State) : Host.Outcome State Fault Refusal := run (ackFailed d.val) s

end Sys2Proof.Machine
end

