-- ==== Sys2Proof/Machine/TxnCmds.lean ====
section
/-! DEFINITION. The commands of contexts and of the domain's ballots, decisions and resolution (R177 to R202, R367
to R377). -/

namespace Sys2Proof.Machine

/-! ### OPEN, ABORT, CTX_TAG (R179, R189, R194) -/

/-- The address of a context's register at an offset of its page. -/
def ctxAddr (port c off : Nat) : Nat := 0x45000 + 4096 * port + off + 4 * c

/-- The counters and the sticky flags of a context clear (R179, R202). -/
def clearFlags (g : Nat) (s : State) : State :=
  forEach [Reg.TXC.CTX_STS_HOLD_FULL (g / 16) (g % 16), Reg.TXC.CTX_STS_LIMIT (g / 16) (g % 16),
    Reg.TXC.CTX_STS_UNDO_LOST (g / 16) (g % 16), Reg.TXC.CTX_STS_LATE_WR (g / 16) (g % 16),
    Reg.TXC.CTX_STS_TWIN_DEGRADED (g / 16) (g % 16), Reg.TXC.CTX_STS_ROLLED_BACK (g / 16) (g % 16),
    Reg.TXC.CTX_STS_FORCED (g / 16) (g % 16), Reg.TXC.CTX_STS_HOLD_WAIT (g / 16) (g % 16),
    Reg.TXC.CTX_LINES_LINES (g / 16) (g % 16), Reg.TXC.CTX_HELD_GRANULES (g / 16) (g % 16)] (fun f => set f 0) s

/-- The reason why OPEN is refused, 0 when it is accepted (R179, R194, R338). (log entry 55: DEDUCED). -/
def openRefusal (g : Nat) (s : State) : Nat :=
  let st := ctxState g s
  if !(st == 0 || st == 4 || st == 6) then 1
  else if undoSize s = 0 || (twinAttached s && !s.twn.peerUndo) then 3
  else if ctxClearing g s then 2
  else if fenced s then 4
  else if ctxTag g s != 0 && (ctxParts g s < 2 || 512 < ctxParts g s ||
      allCtx.any (fun c => ctxState c s == 1 && ctxTag c s == ctxTag g s)) then 5
  else 0

/-- `CTX_CTL.OPEN` (R179). -/
def openCtx (g : Nat) (s : State) : State :=
  match openRefusal g s with
  | 0 => s |> clearFlags g |> ctxResult g 0 |> setCtxState g 1
  | r => ctxResult g r s

/-- CTX_OPEN (R179). -/
def execCtxOpen (w : Writer) (port : Fin 4) (c : Fin 16) (s : State) : Host.Outcome State Fault Refusal :=
  run (reach w (ctxAddr port.val c.val 0x100) 1 (openCtx (16 * port.val + c.val))) s

/-- A write has waited 50 frames for the Hold set (R184). -/
def waitExpired (q : Stalled) : Bool :=
  match q.why with
  | .hold n => decide (50 ≤ n)
  | _ => false

/-- The writes of a context that wait are completed and not applied: by R180 late ones, but for one whose own wait
ended the context (R179). (log entry 56: DEDUCED). -/
def dropWaiting (g : Nat) (s : State) : State :=
  let mine := s.hp.stalled.filter (fun q => q.ctx == some g)
  { s with hp := { s.hp with stalled := s.hp.stalled.filter (fun q => q.ctx != some g) } }
    |> when (mine.any (fun q => !waitExpired q)) (set (Reg.TXC.CTX_STS_LATE_WR (g / 16) (g % 16)) 1)
    |> forEach mine dropWrite |> holdWaitShow

/-- A commit request is pending before its due tick, and no ballot of it has gone out. -/
def pendingRequest (g : Nat) (s : State) : Bool := s.txn.requests.any (fun r => r.ctx == g && !r.balloted)

/-- ABORT (R189). -/
def abortCtx (g : Nat) (s : State) : State :=
  if ctxState g s = 1 || (ctxState g s == 2 && pendingRequest g s) then
    s |> ctxResult g 0 |> startAbort g |> dropWaiting g
  else ctxResult g 1 s

/-- CTX_ABORT (R189). -/
def execCtxAbort (w : Writer) (port : Fin 4) (c : Fin 16) (s : State) : Host.Outcome State Fault Refusal :=
  run (reach w (ctxAddr port.val c.val 0x100) 2 (abortCtx (16 * port.val + c.val))) s

/-- CTX_TAG (R194). -/
def writeTag (w : Writer) (g tag parts : Nat) (s : State) : State :=
  let st := ctxState g s
  if st = 0 || st = 4 || st = 6 then
    let f := Reg.TXC.CTX_TAG_PARTS (g / 16) (g % 16)
    s |> set (Reg.TXC.CTX_TAG_TAG (g / 16) (g % 16)) tag
      |> (fun s => if 2 ≤ parts && parts ≤ 512 then set f parts s
          else werrRange w (ctxAddr (g / 16) (g % 16) 0x140) s)
  else werrBusy w (ctxAddr (g / 16) (g % 16) 0x140) s

/-- CTX_TAG_WRITE (R194). -/
def execCtxTagWrite (w : Writer) (port : Fin 4) (c : Fin 16) (tag : BitVec 22) (parts : BitVec 10) (s : State) :
    Host.Outcome State Fault Refusal :=
  run (reach w (ctxAddr port.val c.val 0x140) (tag.toNat + parts.toNat * 2 ^ 22)
    (writeTag w (16 * port.val + c.val) tag.toNat parts.toNat)) s

/-! ### Commit requests (R186, R187, R195) -/

/-- The commit cut-off of R58. -/
def commitCutoff : Nat := 36000

/-- The twin prepares the context (R187). -/
def sendPrepare (g : Nat) (s : State) : State :=
  when (twinAttached s) (sendTwin "PREPARE" [g, ctxTag g s]) s

/-- The request of a context is accepted: due in the frame `due`, shown as the tick `shown`. -/
def acceptCommit (g due show_ : Nat) (domain : Bool) (s : State) : State :=
  { s with txn := { s.txn with requests := s.txn.requests ++
      [{ ctx := g, due := due, needAck := twinAttached s, domain := domain, accepted := now s }] } }
    |> ctxResult g 0 |> setCtxState g 2 |> ctxFrame g show_ |> sendPrepare g |> retryStalled

/-- TXN.COMMIT of a context (R179, R186, R195, R371). -/
def requestCommit (g phase : Nat) (s : State) : State :=
  let late := b2n (decide (commitCutoff ≤ phase))
  let s := set Reg.TXN.COMMIT_CTX g s
  if ctxState g s ≠ 1 then ctxResult g 1 s
  else if fenced s then ctxResult g 4 s
  else if ctxTag g s = 0 then acceptCommit g (now s + 1 + late) (now s + 1 + late) false s
  else if isSet Reg.SYS.PERSIST_DOMAIN_OK s && !s.rng.fences.contains (now s) then
    acceptCommit g (now s + 1 + late) (now s + 3 + late) true s
  else ctxResult g 5 s

/-- TXN_COMMIT (R186). -/
def execTxnCommit (w : Writer) (g : Fin 64) (phase : Nat) (s : State) : Host.Outcome State Fault Refusal :=
  run (reach w 0x44108 g.val (requestCommit g.val phase)) s

/-! ### Stalls, clearing and replay (R184, R188, R190, R191) -/

/-- A write of the context has waited 50 frames for the Hold set (R184). -/
def holdExpired (g : Nat) (s : State) : Bool :=
  s.hp.stalled.any (fun (q : Stalled) => q.ctx == some g && waitExpired q)

/-- A write has waited for the Hold set too long: its context aborts (R184). -/
def holdTimeout (g : Nat) (s : State) : State :=
  if ctxState g s = 1 && holdExpired g s then
    s |> set (Reg.TXC.CTX_STS_HOLD_FULL (g / 16) (g % 16)) 1 |> event 0x44 0 |> startAbort g |> dropWaiting g
  else s

/-- HOLD_STALL_TIMEOUT (R184). -/
def execHoldStallTimeout (g : Fin 64) (s : State) : Host.Outcome State Fault Refusal := run (holdTimeout g.val) s

/-- CLEARING_DONE (R188). -/
def execClearingDone (g : Fin 64) (s : State) : Host.Outcome State Fault Refusal :=
  run (fun s => if ctxClearing g.val s then s |> clearColumn g.val |> retryStalled else s) s

/-- The next slab line of the context at the head of the order (R190): an uncorrectable entry is repaired only from
the twin (R191). (log entry 59: DEDUCED). -/
def replayLine (g : Nat) (err : LineErrors) (s : State) : State :=
  if s.txn.replays.head? ≠ some g || fenced s then s
  else
    match nextUndo g s with
    | none => s
    | some (gr, line) => replayRead g gr line err s

/-- REPLAY_LINE (R190). -/
def execReplayLine (g : Fin 64) (err : LineErrors) (s : State) : Host.Outcome State Fault Refusal :=
  run (replayLine g.val err) s

/-- REPLAY_DONE (R190). -/
def execReplayDone (g : Fin 64) (s : State) : Host.Outcome State Fault Refusal :=
  run (fun s =>
    if s.txn.replays.head? = some g.val && undoLeft g.val s == 0 && !fenced s then finishReplay g.val s else s) s

/-! ### Ballots (R195, R365, R368, R369) -/

def setBallots (l : List Ballot) (s : State) : State :=
  { s with rng := { s.rng with ballots := l } } |> set Reg.DOM.STS_BALLOTS l.length

/-- The ballot is issued with the coordinator's own vote: the context is PREPARED (R179). -/
def issueBallot (g : Nat) (s : State) : State :=
  { s with txn := { s.txn with requests := s.txn.requests.map (fun r => if r.ctx = g then { r with balloted := true } else r) } }
    |> setBallots (s.rng.ballots ++ [{ ctx := g, tag := ctxTag g s, parts := ctxParts g s, frame := now32 s, expected := [] }])
    |> setCtxState g 3
    |> sendBoth (.ballot (ctxTag g s) (ctxParts g s) (now32 s))

/-- The ballot slips by a frame (R368, R369). -/
def slipBallot (g : Nat) (s : State) : State :=
  { s with txn := { s.txn with requests := s.txn.requests.map (fun r => if r.ctx = g then { r with due := now s + 1 } else r) } }
    |> ctxFrame g (now s + 3)

/-- The coordinator inserts BALLOT by phase 8,000 of the frame after the request. -/
def ballotInsert (g : Nat) (free : Bool) (phase : Nat) (s : State) : State :=
  if !domainRuns s || fenced s || ctxState g s ≠ 2 ||
      !s.txn.requests.any (fun r => r.ctx == g && r.domain && !r.balloted && decide (r.due ≤ now s)) then s
  else if free && decide (phase ≤ 8000) && !isSet (Reg.BLKSTS_ABORTING 0xD1) s then issueBallot g s
  else slipBallot g s

/-- BALLOT_INSERT (R368). -/
def execBallotInsert (g : Fin 64) (free : Bool) (phase : Nat) (s : State) : Host.Outcome State Fault Refusal :=
  run (ballotInsert g.val free phase) s

/-- A vote is cast; a yes makes the context PREPARED. (log entry 54: DEDUCED). -/
def castVote (v : Vote) (s : State) : State :=
  { s with rng := { s.rng with votes := s.rng.votes.filter (·.ctx != v.ctx) ++ [v] } }
    |> when v.yes (fun s => s |> setCtxState v.ctx 3 |> retryStalled)

/-- The context that votes on a tag: one that is OPEN, else one that has it in another state. (log entry 54: DEDUCED). -/
def voter (tag : Nat) (s : State) : Option Nat :=
  match allCtx.find? (fun g => ctxTag g s == tag && ctxState g s == 1) with
  | some g => some g
  | none => allCtx.find? (fun g => ctxTag g s == tag)

/-- A member receives a BALLOT (R195, R372): yes from an OPEN context, once its twin has prepared; no when fenced or
in another state. A second copy changes nothing. -/
def ballotReceived (tag coord frame : Nat) (s : State) : State :=
  if !domainRuns s || tag = 0 || coord = get Reg.TRN.STS_INDEX s ||
      s.rng.votes.any (fun v => v.tag == tag && v.coord == memberId coord s && v.frame == frame) then s
  else
    match voter tag s with
    | none => s
    | some g =>
      let v : Vote := { tag := tag, coord := memberId coord s, frame := frame, ctx := g, yes := false }
      if ctxState g s = 2 then s
      else if ctxState g s ≠ 1 || fenced s then castVote v s
      else if twinAttached s then s |> sendPrepare g |> castVote v
      else castVote { v with yes := true } s

/-- BALLOT (R195). -/
def execBallot (tag : BitVec 22) (parts coord : Nat) (frame : BitVec 32) (s : State) :
    Host.Outcome State Fault Refusal :=
  let _ := parts
  run (ballotReceived tag.toNat coord frame.toNat) s

/-- This member's own part of a tally: its yes and its no (R368). -/
def ownTally (tag coord : Nat) (s : State) : Nat × Bool :=
  match s.rng.votes.find? (fun v => v.tag == tag && v.coord == memberId coord s) with
  | some v => if v.yes && ctxState v.ctx s == 3 then (1, false) else (0, !v.yes)
  | none => (0, false)

/-- The ring that a TALLY travels: the edge without a ring A input starts segment 1 on ring A, and the edge without a
ring B input starts segment 2 on ring B (R365, R368). (log entry 53: DEDUCED). -/
def tallyRing (segment : Nat) : Bool := segment == 2

/-- TALLY insertion at phase 36,000 (R368): the coordinator fixes the tallies it expects, and on an INTACT ring sends
its own; on a broken ring each edge sends one. `segment` is 0 on the full ring, and else the segment of this edge. -/
def tallyInsert (tag coord segment : Nat) (s : State) : State :=
  if !domainRuns s then s
  else if coord = get Reg.TRN.STS_INDEX s then
    let expected := if get Reg.TRN.STS_TOPO s = 0 then [0] else ([1, 2] : List Nat).filter (· != segment)
    s |> setBallots (s.rng.ballots.map (fun (b : Ballot) => if b.tag = tag ∧ b.decided = false then { b with expected := expected } else b))
      |> when (get Reg.TRN.STS_TOPO s = 0 && s.rng.ballots.any (fun b => b.tag == tag && !b.decided))
          (sendCell false (.tally tag coord 0 false 0))
  else if isSet Reg.TRN.RING_STS_EDGE s && segment ≠ 0 then
    sendCell (tallyRing segment) (.tally tag coord (ownTally tag coord s).1 (ownTally tag coord s).2 segment) s
  else s

/-- TALLY_INSERT (R368). -/
def execTallyInsert (tag : BitVec 22) (coord : Nat) (segment : Fin 3) (s : State) : Host.Outcome State Fault Refusal :=
  run (tallyInsert tag.toNat coord segment.val) s

/-- A TALLY passes (R368): the coordinator takes it in, another member adds its vote and forwards it. -/
def tallyPassed (tag coord src yes : Nat) (no : Bool) (segment : Nat) (s : State) : State :=
  if !domainRuns s then s
  else if coord = get Reg.TRN.STS_INDEX s then
    setBallots (s.rng.ballots.map (fun (b : Ballot) =>
      if b.tag = tag ∧ b.decided = false ∧ b.returned.contains segment = false then
        { b with returned := b.returned ++ [segment], yes := b.yes + yes, no := b.no || no }
      else b)) s
  else
    let own := ownTally tag coord s
    passCell (tallyRing segment) src (.tally tag coord (yes + own.1) (no || own.2) segment) s

/-- TALLY (R368). -/
def execTally (tag : BitVec 22) (coord src : Nat) (votes : Votes) (segment : Fin 3) (crcOk : Bool) (s : State) :
    Host.Outcome State Fault Refusal :=
  run (fun s =>
    if crcOk then tallyPassed tag.toNat coord src votes.yes votes.no segment.val s
    else when (domainOn 50 s) (badCell (tallyRing segment.val)) s) s

/-! ### Decisions (R368, R370) -/

/-- The phase of the frame after the request by which a vote is cast (R195, R368). -/
def voteCutoff : Nat := 28000

/-- A time, as frame and phase, lies before the vote cut-off of the frame whose low 32 bits are `low`. -/
def inVote (low : Nat) (t : Nat × Nat) : Bool :=
  let d := (low + 2 ^ 32 - t.1 % 2 ^ 32) % 2 ^ 32
  (d != 0 && decide (d < 2 ^ 31)) || (d == 0 && decide (t.2 < voteCutoff))

/-- The coordinator's own vote: yes when its twin, if it has one, prepared in time (R187, R195). -/
def ownYes (b : Ballot) (s : State) : Bool :=
  s.txn.requests.any (fun r => r.ctx == b.ctx && (!r.needAck || (r.ackAt.map (inVote b.frame)).getD false))

/-- A decision of a ballot this member coordinates: recorded, then sent (R370). -/
def decide_ (b : Ballot) (commit : Bool) (s : State) : State :=
  { s with txn := { s.txn with requests := s.txn.requests.filter (·.ctx != b.ctx) } }
    |> logDecision { tag := b.tag, coord := ownId s, frame := b.frame, kind := if commit then .commit else .abort }
    |> recordFor b.ctx commit (now s + 1)
    |> inc (if commit then Reg.DOM.COORD_COMMITS else Reg.DOM.COORD_ABORTS)
    |> setBallots (s.rng.ballots.map (fun (x : Ballot) => if x.ctx = b.ctx then { x with decided := true } else x))
    |> sendBoth (.decision b.tag commit b.frame (now s + 1))

/-- The tally deadline at phase 16,000 of the frame after the ballot. -/
def tallyDeadline (g : Nat) (s : State) : State :=
  match s.rng.ballots.find? (fun b => b.ctx == g && !b.decided) with
  | none => s
  | some b =>
    if (now32 s + 2 ^ 32 - b.frame) % 2 ^ 32 = 0 then s
    else
      let complete := !b.expected.isEmpty && b.expected.all (fun k => b.returned.contains k)
      s |> when (!complete) (fun s => s |> inc Reg.DOM.TALLY_FAIL_COUNT |> event 0xD1 2)
        |> decide_ b (complete && ownYes b s && b.yes + 1 == b.parts && !b.no)

/-- TALLY_DEADLINE (R368). -/
def execTallyDeadline (g : Fin 64) (s : State) : Host.Outcome State Fault Refusal := run (tallyDeadline g.val) s

/-- The tick named by the low 32 bits of a frame number; one that has passed is the next tick (R368). -/
def tickOf (low : Nat) (s : State) : Nat :=
  let d := (low + 2 ^ 32 - now32 s) % 2 ^ 32
  if d = 0 || 2 ^ 31 ≤ d then now s + 1 else now s + d

/-- A decision is known of a ballot. -/
def inLog (tag coord frame : Nat) (k : LogKind) (s : State) : Bool :=
  s.rng.log.any (fun e => e.tag == tag && e.coord == coord && e.frame == frame && e.kind == k)

/-- A participant receives a DECISION (R370): recorded, and applied at its tick; a second copy changes nothing.
(log entry 58: DEDUCED). -/
def decisionReceived (tag coord : Nat) (commit : Bool) (frame effective : Nat) (s : State) : State :=
  let id := memberId coord s
  if !domainRuns s || inLog tag id frame (if commit then .commit else .abort) s then s
  else
    match s.rng.votes.find? (fun v => v.tag == tag && v.coord == id && v.frame == frame) with
    | none => s
    | some v =>
      s |> logDecision { tag := tag, coord := id, frame := frame, kind := if commit then .commit else .abort }
        |> when (ctxState v.ctx s == 3) (recordFor v.ctx commit (tickOf effective s))

/-- DECISION (R370). -/
def execDecision (tag : BitVec 22) (coord : Nat) (commit : Bool) (frame effective : BitVec 32) (crcOk : Bool)
    (s : State) : Host.Outcome State Fault Refusal :=
  run (fun s =>
    if crcOk then decisionReceived tag.toNat coord commit frame.toNat effective.toNat s
    else when (domainOn 50 s) (badCell false) s) s

/-! ### Resolution (R196, R197, R313, R373) -/

/-- An outcome reached for a context of the outage: listed for the continuity record, or published (R322). -/
def tellOutcome (g code : Nat) (s : State) : State :=
  if admittedNow s then publishOutcome g code s else addOutcome g code s

/-- A rollback before admission (R312): the granules held are restored, then the slab lines are replayed. -/
def rollBackNow (g : Nat) (s : State) : State :=
  s |> forEach (s.txn.pairs.filter (·.ctx == g)) (fun p => restoreGranule p.granule true)
    |> rollback g |> set (Reg.TXC.CTX_STS_ROLLED_BACK (g / 16) (g % 16)) 1 |> finishReplay g

/-- An IN_DOUBT context ends (R197, R198). Before admission an abort is a rollback. (log entry 58: DEDUCED). -/
def settleDoubt (g : Nat) (commit : Bool) (code : Nat) (s : State) : State :=
  let s := tellOutcome g code s
  let s := if commit || admittedNow s then applyOutcome g commit s else s |> rollBackNow g |> forgetBallot g
  if rsrStage s = 6 && !allCtx.any (fun c => ctxState c s == 7) then chooseMode s else s

/-- A context that is undecided gets its outcome: an IN_DOUBT one now, a PREPARED one at the next tick. -/
def resolveWith (g : Nat) (commit byRing : Bool) (s : State) : State :=
  let s := s |> inc (if byRing then Reg.DOM.RESOLVED_BY_RING else Reg.DOM.RESOLVED_BY_RECORD) |> event 0xD1 3
  if ctxState g s = 7 then settleDoubt g commit (if byRing then (if commit then 2 else 3) else if commit then 1 else 3) s
  else recordFor g commit (now s + 1) s

/-- The outcome that the own log holds of a context's ballot (R196). -/
def recorded (g : Nat) (s : State) : Option Bool :=
  let b := ballotOf g s
  if inLog b.1 b.2.1 b.2.2 .commit s || inLog b.1 b.2.1 b.2.2 .applied s then some true
  else if inLog b.1 b.2.1 b.2.2 .abort s then some false
  else none

/-- A context waits for an outcome: IN_DOUBT, or PREPARED past the tick of its decision with none recorded. -/
def undecided (g : Nat) (s : State) : Bool :=
  ctxState g s == 7 ||
  (ctxState g s == 3 && !s.txn.decisions.any (·.ctx == g) && !s.rng.ballots.any (·.ctx == g) &&
    decide (2 ≤ (now32 s + 2 ^ 32 - (ballotOf g s).2.2) % 2 ^ 32))

/-- The ring index of a member. -/
def memberIndex (id : Nat) (s : State) : Nat :=
  if id = ownId s then get Reg.TRN.STS_INDEX s
  else ((s.rng.table.find? (fun e => e.2.toNat == id)).map (·.1)).getD 0

/-- A remote context held in doubt after a promotion gets its outcome (R197, R348). (log entry 58: DEDUCED). -/
def resolveRemote (c : Nat) (commit byRing : Bool) (s : State) : State :=
  s |> inc (if byRing then Reg.DOM.RESOLVED_BY_RING else Reg.DOM.RESOLVED_BY_RECORD) |> event 0xD1 3
    |> when (!commit) (rollback (64 + c)) |> endRemote c

/-- The tag of a remote context in doubt. -/
def remoteTag (c : Nat) (s : State) : Nat := (look s.twn.tags c).getD 0

/-- The outcome that the own log holds of a tag. -/
def recordedTag (tag : Nat) (s : State) : Option Bool :=
  if s.rng.log.any (fun e => e.tag == tag && (e.kind == .commit || e.kind == .applied)) then some true
  else if s.rng.log.any (fun e => e.tag == tag && e.kind == .abort) then some false
  else none

/-- Fifty frames have passed since the last attempt for a context (R197). -/
def attemptDue (g : Nat) (s : State) : Bool :=
  s.rng.queries.all (fun q => q.1 != g || decide (q.2 + 50 ≤ now s))

/-- A QUERY goes out for a context: the answers to the one before are void. -/
def noteQuery (g : Nat) (s : State) : State :=
  { s with rng := { s.rng with queries := s.rng.queries.filter (·.1 != g) ++ [(g, now s)],
                               answers := s.rng.answers.filter (·.1 != g) } }

/-- One attempt for a remote context, by its tag alone: this device knows no coordinator and no ballot of it. -/
def resolveRemoteAttempt (c : Nat) (s : State) : State :=
  if !s.twn.doubt.contains c || fenced s then s
  else
    match recordedTag (remoteTag c s) s with
    | some commit => resolveRemote c commit false s
    | none =>
      when (domainRuns s && attemptDue (64 + c) s)
        (fun s => s |> noteQuery (64 + c) |> sendBoth (.query (remoteTag c s) 0 0)) s

/-- One attempt of R197: the own record, and else a QUERY, 50 frames after the one before. (log entry 58: DEDUCED). -/
def resolveAttempt (g : Nat) (s : State) : State :=
  if !undecided g s || (fenced s && admittedNow s) || !attemptDue g s then s
  else
    match recorded g s with
    | some commit => resolveWith g commit false s
    | none =>
      if !domainRuns s then s
      else
        let b := ballotOf g s
        s |> noteQuery g |> sendBoth (.query b.1 (memberIndex b.2.1 s) b.2.2)

/-- RESOLVE_ATTEMPT (R197). -/
def execResolveAttempt (g : Fin 64) (s : State) : Host.Outcome State Fault Refusal :=
  run (fun s => s |> resolveAttempt g.val |> resolveRemoteAttempt g.val) s

/-- What this member knows of a ballot, as an answer code (R373). -/
def knows (tag coord frame : Nat) (s : State) : Option Nat :=
  let id := memberId coord s
  let mine := coord == get Reg.TRN.STS_INDEX s
  if inLog tag id frame .forced s then none
  else if inLog tag id frame .commit s then some 1
  else if inLog tag id frame .applied s then some 2
  else if inLog tag id frame .abort s then some 3
  else if mine && s.rng.ballots.any (fun b => b.tag == tag && b.frame == frame && !b.decided) then some 4
  else if mine && (s.rng.log.head?.map (fun e => decide (e.frame ≤ frame))).getD true then some 5
  else none

/-- A question of another member about a tag (R373). -/
def queryReceived (tag coord frame querier : Nat) (s : State) : State :=
  if !domainRuns s then s
  else
    match knows tag coord frame s with
    | some a => sendCell false (.answer tag querier a frame) s
    | none => s

/-- QUERY (R373). -/
def execQuery (tag : BitVec 22) (coord : Nat) (frame : BitVec 32) (querier : Nat) (crcOk : Bool) (s : State) :
    Host.Outcome State Fault Refusal :=
  run (fun s =>
    if crcOk then queryReceived tag.toNat coord frame.toNat querier s else when (domainOn 50 s) (badCell false) s) s

/-- The frame after a context's QUERY has not ended (R373). -/
def queryOpen (g : Nat) (s : State) : Bool := s.rng.queries.any (fun q => q.1 == g && decide (now s ≤ q.2 + 1))

/-- An ANSWER to this member's QUERY, within the frame after it (R197, R373). A commit settles the context whatever else
is answered; the other answers are weighed once the frame has ended. (log entry 58: DEDUCED). -/
def answerReceived (tag querier ans frame : Nat) (s : State) : State :=
  if !domainRuns s || querier ≠ get Reg.TRN.STS_INDEX s then s
  else
    match allCtx.find? (fun g => undecided g s && (ballotOf g s).1 == tag && (ballotOf g s).2.2 == frame && queryOpen g s) with
    | none =>
      match s.twn.doubt.find? (fun c => remoteTag c s == tag && queryOpen (64 + c) s) with
      | none => s
      | some c =>
        if ans = 1 || ans = 2 then resolveRemote c true true s
        else { s with rng := { s.rng with answers := s.rng.answers ++ [(64 + c, ans)] } }
    | some g =>
      if ans = 1 || ans = 2 then resolveWith g true true s
      else { s with rng := { s.rng with answers := s.rng.answers ++ [(g, ans)] } }

/-- The answers to a query that has ended are weighed in the order of R197: an abort decision, then the coordinator's
pending, then its no decision. -/
def weighAnswers (g : Nat) (s : State) : State :=
  let mine := (s.rng.answers.filter (·.1 == g)).map (·.2)
  let s := { s with rng := { s.rng with answers := s.rng.answers.filter (·.1 != g) } }
  let aborts := mine.contains 3 || (!mine.contains 4 && mine.contains 5)
  if !aborts then s
  else if 64 ≤ g then when (s.twn.doubt.contains (g - 64)) (resolveRemote (g - 64) false true) s
  else when (undecided g s) (resolveWith g false true) s

/-- The queries whose frame has ended (R197, R373). -/
def answersTick (s : State) : State :=
  forEach ((s.rng.queries.filter (fun q => decide (q.2 + 2 ≤ now s) && s.rng.answers.any (·.1 == q.1))).map (·.1))
    weighAnswers s

/-- ANSWER (R373). -/
def execAnswer (tag : BitVec 22) (querier : Nat) (ans : Fin 6) (frame : BitVec 32) (crcOk : Bool) (s : State) :
    Host.Outcome State Fault Refusal :=
  run (fun s =>
    if crcOk then answerReceived tag.toNat querier ans.val frame.toNat s
    else when (domainOn 50 s) (badCell false) s) s

/-- DOM.FORCE with GO (R374). -/
def forceOutcome (g : Nat) (commit : Bool) (s : State) : State :=
  let s := s |> set Reg.DOM.FORCE_CTX g |> put1 Reg.DOM.FORCE_OUTCOME commit
  if ctxState g s ≠ 7 then set Reg.DOM.FORCE_RESULT 1 s
  else
    let b := ballotOf g s
    s |> set Reg.DOM.FORCE_RESULT 0
      |> logDecision { tag := b.1, coord := b.2.1, frame := b.2.2, kind := .forced }
      |> event 0xD1 4 |> countDirtyShutdown
      |> set (Reg.TXC.CTX_STS_FORCED (g / 16) (g % 16)) 1
      |> settleDoubt g commit (if commit then 4 else 5)

/-- DOM_FORCE (R374). -/
def execDomForce (w : Writer) (g : Fin 64) (commit : Bool) (s : State) : Host.Outcome State Fault Refusal :=
  run (reach w 0xD1108 (g.val + b2n commit * 64 + 128) (forceOutcome g.val commit)) s

end Sys2Proof.Machine
end

