-- ==== Sys2Proof/Machine/RestoreCmds.lean ====
section
/-! DEFINITION. The commands of the restore (R300 to R322, R486, R506). -/

namespace Sys2Proof.Machine

/-- An update of the restore's working state. -/
def setRsr (f : Rsr → Rsr) (s : State) : State := { s with rsr := f s.rsr }

/-- The restore goes on: no restart of R95 or R276 is due, and the seal engines' domain is on. -/
def rsrRuns (s : State) : Bool := s.rsr.restart = 0 && domainOn 42 s && !s.pwr.recovery

/-! ### Start, manifest (R300 to R304) -/

/-- Every NAND channel of a populated group is trained or failed (R321 step 1). (log entry 85: DEDUCED). -/
def nandReady (s : State) : Bool :=
  (List.range 32).all (fun ch => !channelPresent ch s || isSet (Reg.NCH.STS_TRAINED ch) s ||
    isSet (Reg.NCH.STS_FAILED ch) s)

/-- The stored fields that a restore uses are taken at its start (R70, R108, R327). -/
def takeRestoreCfg (s : State) : State :=
  { s with
    hp := { s.hp with mediaStage := [0, 1, 2, 3].map (fun n => get (Reg.HPT.CTL_MEDIA_STAGE n) s) },
    rsr := { s.rsr with cfg := { mode := get Reg.RSR.CFG_MODE s, fallbackMax := get Reg.RSR.CFG_FALLBACK_MAX s,
                                 deadlineMs := get Reg.RSR.READY_DEADLINE_MS s,
                                 doubtWait := get Reg.RSR.DOUBT_WAIT_FRAMES s } } }

/-- The restore begins once DRAM is trained and the flash is ready (R300). -/
def restoreStart (s : State) : State :=
  if s.dram.trained && nandReady s && s.pwr.firmware && rsrRuns s && rsrStage s == 0 && !admittedNow s then
    s |> setRsr (fun r => { r with manifest := none, firstInit := false, unsaved := false,
                                   outcomes := [], rolledBack := 0, doubtLeft := none, ready := false })
      |> forEach [Reg.RSR.STS_RUN_AHEAD, Reg.RSR.STS_REBUILD, Reg.RSR.STS_ADMITTED, Reg.RSR.STS_UNVERIFIED,
          Reg.RSR.STS_FALLBACKS, Reg.RSR.DEMAND_MAX_US] (fun f => set f 0)
      |> takeRestoreCfg |> enablePages 7 |> enablePages 8
      |> set Reg.SYS.BOOT_STAGE 7 |> setStage 1
  else s

/-- RESTORE_START (R300). -/
def execRestoreStart (s : State) : Host.Outcome State Fault Refusal := run restoreStart s

/-- The restore fails (R301): the recovery monitor with cause 2, Media Status Error. -/
def restoreFails (s : State) : State := s |> setStage 10 |> recoveryMonitor 2 |> mediaAll

/-- The components of a channel match a qualified-component record (R204). -/
def qualifiedChannel (ch : Nat) (s : State) : Bool := s.upd.qualified.contains ((look s.pwr.identities ch).getD 0)

/-- First initialisation (R204, R221, R301): the size stored becomes the size in use, DRAM reads zeros, channels with
unqualified components fail, the factory list and a checkpoint manifest are programmed, and only admission is left.
(log entry 85: DEDUCED). -/
def firstInitialise (s : State) : State :=
  let s := s |> set Reg.MRV.CFG_GRAN_IN_USE (get Reg.MRV.CFG_GRAN_SIZE s) |> mapAtBoot |> pairMax |> capDefaults
  { s with dram := { s.dram with mem := [], poisoned := [] }, mrv := { s.mrv with firstInit := s.pwr.rtc, credit := 0 },
           nand := { s.nand with factory := s.pwr.factory, mapFlash := [], map := [] },
           rsr := { s.rsr with firstInit := true, all := true } }
    |> forEach ((List.range 32).filter (fun ch => channelPresent ch s && !qualifiedChannel ch s)) channelFailed
    |> writeCullet false |> writeDirectory false
    |> (fun s => programManifest (buildManifest 2 0 s) (anchorsTake s).1 (anchorsTake s).2 s)
    |> (fun s => set Reg.RSR.MANIFEST_SEQ (((newestManifest s).map (·.seq)).getD 0) s)
    |> set Reg.RSR.TOTAL_GRAN 0 |> chooseMode |> put1 Reg.RSR.STS_RUN_AHEAD false |> setStage 7

/-- The sample of a save whose VAON did not last comes from its manifest, plus 2 J (R267). -/
def sampleFromManifest (m : Manifest) (s : State) : State :=
  if isSet Reg.SYS.BOOT_PROVISIONAL s && m.kind = 1 && s.rsr.runRecord != some m.seq then
    { s with eng := { s.eng with saveSample := some (m.eDrawn + 2000, m.sealed) } }
  else s

/-- Step 1 ends: the newest valid manifest, if there is one. -/
def manifestLocated (found : Bool) (s : State) : State :=
  if rsrStage s ≠ 1 || !rsrRuns s then s
  else
    match (if found then newestManifest s else none) with
    | some m => s |> manifestShow |> setRsr (fun r => { r with manifest := some m }) |> sampleFromManifest m |> setStage 2
    | none => if s.nand.initialised then restoreFails s else firstInitialise s

/-- MANIFEST_LOCATED (R301). -/
def execManifestLocated (found : Bool) (s : State) : Host.Outcome State Fault Refusal := run (manifestLocated found) s

/-- The manifest accepted leads to the rebuild path (R304, R506). -/
def rebuildPath (m : Manifest) (s : State) : Bool :=
  m.kind == 2 || get Reg.RSR.STS_FALLBACKS s != 0 || s.rsr.runRecord == some m.seq || s.rsr.coldReset

/-- `RSR.STS` as a snapshot's word. -/
def rsrWord (s : State) : Nat :=
  rsrStage s + get Reg.RSR.STS_RUN_AHEAD s * 16 + get Reg.RSR.STS_REBUILD s * 32 + get Reg.RSR.STS_ADMITTED s * 64 +
  get Reg.RSR.STS_UNVERIFIED s * 128 + get Reg.RSR.STS_FALLBACKS s * 256

/-- The manifest before this one in the anchor blocks. -/
def olderManifest (m : Manifest) (s : State) : Option Manifest :=
  (s.nand.manifests.filter (fun x => x.device == deviceId s && decide (x.seq < m.seq))).getLast?

/-- A manifest is not accepted (R303): the next older one, up to FALLBACK_MAX in all. -/
def fallBack (m : Manifest) (s : State) : State :=
  let s := inc Reg.RSR.STS_FALLBACKS s
  let s := s |> event 0x43 3 |> raiseSimple 239 0 0 (rsrWord s) 0
  match (if get Reg.RSR.STS_FALLBACKS s < s.rsr.cfg.fallbackMax then olderManifest m s else none) with
  | some o => setRsr (fun r => { r with manifest := some o }) s
  | none => restoreFails s

/-- The records that a manifest names are on flash and valid (R302). -/
def recordsNamed (m : Manifest) (s : State) : Bool :=
  (m.index ++ m.deltaLoc).all (fun c => s.nand.others.any (fun r => r.loc.code == c && metaValid r s))

/-- Validation ends (R302): `ok` when the digest matches. -/
def manifestValidated (ok : Bool) (s : State) : State :=
  if rsrStage s ≠ 2 || !rsrRuns s then s
  else
    match s.rsr.manifest with
    | none => s
    | some m =>
      if ok && recordsNamed m s && m.granSize == get Reg.MRV.CFG_GRAN_IN_USE s then
        s |> put1 Reg.RSR.STS_REBUILD (rebuildPath m s)
          |> set Reg.RSR.MANIFEST_SEQ m.seq |> set Reg.RSR.MAN_FRAME_FRAME m.frameFence |> setStage 4
      else fallBack m s

/-- MANIFEST_VALIDATED (R302). -/
def execManifestValidated (ok : Bool) (s : State) : Host.Outcome State Fault Refusal := run (manifestValidated ok) s

/-! ### Metadata and the recovery scan (R305 to R309) -/

/-- What the `LAST_` registers of SAV show after a restore of a save's manifest (R299). The length of a ride is not
among what the manifest records. (log entry 86: DEDUCED). -/
def lastFromManifest (m : Manifest) (s : State) : State :=
  let ride := if m.rideTaken then (freshWord s).toNat else 0
  s |> spend
    |> setSavs (fun v => { v with t0 := m.frameFence, rtcFence := m.rtcFence, rode := m.rideTaken, manifestDone := true,
                                  incomplete := false, dirty := m.dirty, sealed := m.sealed })
    |> set Reg.SAV.LAST_TRIG_TRIGGER m.trigger |> savOutcome 2
    |> put1 Reg.SAV.LAST_TRIG_OK_AT_FENCE m.okAtFence |> put1 Reg.SAV.LAST_TRIG_PRESEAL m.preseal
    |> set Reg.SAV.LAST_FRAME_FRAME m.frameFence
    |> set Reg.SAV.LAST_TIME_US ((m.frameSealed - m.frameFence) * 20)
    |> set Reg.SAV.LAST_GRAN_COUNT m.sealed |> set Reg.SAV.LAST_LOST_COUNT 0
    |> set Reg.SAV.LAST_RIDE_MS ride

/-- A migration that the save cut is complete: the spare has its rank (R172). -/
def endCutMigration (s : State) : State :=
  if !isSet Reg.SPR.MIG_STS_ACTIVE s then s
  else
    s |> setRank (spareIndex (get Reg.SPR.MIG_STS_DST s) s) 1 |> setRank (get Reg.SPR.MIG_STS_SRC s) 6
      |> set Reg.SPR.MIG_STS_ACTIVE 0 |> set Reg.SPR.MIG_PTR_INDEX 0 |> event 0x11 2

/-- The metadata load ends (R309). On the rebuild path the contexts come with the scan (R308). -/
def metaDone (s : State) : State :=
  if rsrStage s ≠ 4 || !rsrRuns s then s
  else
    match s.rsr.manifest with
    | none => s
    | some m =>
      let rebuild := isSet Reg.RSR.STS_REBUILD s
      let m' := if rebuild then { m with contexts := [], pairs := [] } else m
      s |> loadMetadata m' |> endCutMigration
        |> when (!rebuild) (lastFromManifest m)
        |> event 0x43 0
        |> when (paired s && get Reg.PNT.LINK_WIDTH s != 0) sendHello
        |> (if rebuild then fun s => s |> setStage 3 |> event 0x43 6 |> raiseSimple 239 0 0 (rsrWord s) 0 else beginRollback)

/-- META_DONE (R309). -/
def execMetaDone (s : State) : Host.Outcome State Fault Refusal := run metaDone s

/-- The metadata records of a save that the scan finds from a fence on, valid and with SOURCE 1 (R305, R306). -/
def scannedFrom (fence : Nat) (s : State) : List RecBody :=
  (s.nand.others.filter (fun r => metaValid r s && r.bySave && decide (fence ≤ r.frame))).map (·.body)

/-- The intent list the scan finds: the newest of a fence later than the accepted manifest (R306).
(log entry 85: DEDUCED). -/
def scannedIntent (s : State) : Option Intent :=
  let from_ := (s.rsr.manifest.map (·.frameFence)).getD 0
  ((scannedFrom 0 s).filterMap (fun b => match b with
    | .continuity (some i) => if from_ < i.frameFence then some i else none
    | _ => none)).getLast?

/-- The rebuild path considers a record (R305, R306): the scan finds it, the map of the accepted manifest names it, or a
CONFIRM entry of a DELTA record does. -/
def considered (r : SealRec) (s : State) : Bool :=
  let sealed := (s.rsr.manifest.map (·.frameSealed)).getD 0
  decide (sealed < r.frame) || look s.nand.map r.granule == some r.loc.code ||
    s.nand.others.any (fun q => metaValid q s && (match q.body with
      | .delta l => l.any (fun d => d.confirm && d.granule == r.granule && d.loc == r.loc.code)
      | _ => false))

/-- The best of a granule's records by FRAME, of those that are valid and that `p` admits. -/
def bestRecord (g : Nat) (p : SealRec → Bool) (s : State) : Option SealRec :=
  s.nand.records.foldl (fun (b : Option SealRec) r =>
    if r.granule = g && sealValid r s && p r then
      match b with
      | none => some r
      | some q => if q.frame ≤ r.frame then some r else b
    else b) none

/-- The map points to the record selected (R306), through the delta cache. (log entry 85: DEDUCED). -/
def selectRecord (g : Nat) (r : SealRec) (s : State) : State :=
  s |> (fun s => if look s.nand.map g = some r.loc.code then s
        else if deltaFull s then
          { s with nand := { s.nand with map := insert (drop s.nand.map g) g r.loc.code,
                                         mapFlash := insert (drop s.nand.mapFlash g) g r.loc.code } }
        else enterDelta g r.gen true r.loc.code s)
    |> (fun s => putEntry g { entryOf g s with gen := r.gen } s)

/-- The second row of R306 for a granule: the record of the highest FRAME. -/
def selectNewest (g : Nat) (s : State) : State :=
  match bestRecord g (fun r => considered r s) s with
  | some r => selectRecord g r s
  | none => s

/-- The first row of R306 for a granule: the record of the save, and else LOST. -/
def selectSaved (fence g : Nat) (s : State) : State :=
  match bestRecord g (fun r => r.bySave && decide (fence ≤ r.frame)) s with
  | some r => selectRecord g r s
  | none => s |> dropRecord g |> poisonGranule g (fun _ => false) |> restoreLost g

/-- The HOLD record of the incomplete save, and its slabs (R308). -/
def scannedHold (i : Intent) (s : State) : Option (List SavedCtx × List LogEntry) :=
  (scannedFrom i.frameFence s).findSome? (fun b => match b with | .hold c _ l => some (c, l) | _ => none)
def scannedSlabs (i : Intent) (s : State) : List SavedPair :=
  ((scannedFrom i.frameFence s).filterMap (fun b => match b with | .undo p => some p | _ => none)).filter (fun p =>
    reachable s p.pair.granule)

/-- Contexts of an incomplete save (R308): from its HOLD records, or lost with the granules they held. -/
def scannedContexts (i : Intent) (s : State) : State :=
  match scannedHold i s with
  | some h => s |> loadHold h.1 (scannedSlabs i s) |> loadLog h.2
  | none =>
    setRsr (fun r => { r with outcomes := r.outcomes ++ (i.contexts.filter (fun c => decide (c.ctx < 64))).map (fun c =>
      { ctx := c.ctx, outcome := if i.held.any (fun p => p.1 == c.ctx) then 7 else 0, tag := c.tag }) }) s

/-- The outage as an incomplete save left it (R296). -/
def lastFromIntent (i : Intent) (s : State) : State :=
  s |> setSavs (fun v => { v with t0 := i.frameFence, manifestDone := false, incomplete := true, rode := false })
    |> set Reg.SAV.LAST_TRIG_TRIGGER i.trigger |> savOutcome 5
    |> put1 Reg.SAV.LAST_TRIG_OK_AT_FENCE i.okAtFence |> set Reg.SAV.LAST_FRAME_FRAME i.frameFence
    |> countDirtyShutdown

/-- An unsaved outage, or one whose list is incomplete (R307, R506): nothing is LOST for want of a save record, and the
image is unverified. The fence frame is the newest FRAME found (R323). -/
def lastUnsaved (s : State) : State :=
  let sealed := (s.rsr.manifest.map (·.frameSealed)).getD 0
  let found := s.nand.records.foldl (fun n r => if sealValid r s then max n r.frame else n) sealed
  let newest := s.nand.others.foldl (fun n r => if metaValid r s then max n r.frame else n) found
  s |> setRsr (fun r => { r with unsaved := true })
    |> setSavs (fun v => { v with t0 := newest, manifestDone := false, incomplete := false, rode := false })
    |> set Reg.SAV.LAST_TRIG_OK_AT_FENCE 0
    |> set Reg.RSR.STS_UNVERIFIED 1 |> countDirtyShutdown

/-- Granules with a record, in use. -/
def recordedGranules (s : State) : List Nat := ((s.nand.records.map (·.granule)).dedup).filter (reachable s)

/-- The recovery scan ends (R305 to R308); `partialList` when its newest intent list is not complete. -/
def scanDone (partialList : Bool) (s : State) : State :=
  if rsrStage s ≠ 3 || !rsrRuns s then s
  else
    let all := recordedGranules s
    let s := match (if partialList || s.rsr.coldReset then none else scannedIntent s) with
      | some i =>
        let named := i.granules.filter (reachable s)
        s |> lastFromIntent i
          |> forEach (all.filter (fun g => !named.contains g)) selectNewest
          |> scannedContexts i
          |> forEach named (selectSaved i.frameFence)
      | none => s |> lastUnsaved |> forEach all selectNewest
    s |> (fun s => set Reg.RSR.TOTAL_GRAN (imageGranules s).length s) |> beginRollback

/-- RECOVERY_SCAN_DONE (R305). -/
def execRecoveryScanDone (partialList : Bool) (s : State) : Host.Outcome State Fault Refusal :=
  run (scanDone partialList) s

/-! ### Rollback and resolution (R312, R313) -/

/-- One context of the restored table (R192, R196, R312). -/
def rollContext (g : Nat) (s : State) : State :=
  let st := ctxState g s
  if st = 1 || st = 2 || st = 5 then
    s |> addOutcome g 0 |> rollBackNow g |> clearColumn g
      |> setRsr (fun r => { r with rolledBack := r.rolledBack + 1 })
  else if st = 3 || st = 7 then
    let s := enterDoubt g s
    match recorded g s with
    | some commit => resolveWith g commit false s
    | none => addOutcome g 6 s
  else if ctxClearing g s then clearColumn g s
  else s

/-- The rollback ends: resolution when a context is in doubt, and else the choice of R314. -/
def rollbackDone (s : State) : State :=
  if rsrStage s ≠ 5 || !rsrRuns s then s
  else
    let s := forEach allCtx rollContext s
    if allCtx.any (fun g => ctxState g s == 7) then
      s |> setRsr (fun r => { r with doubtLeft := some s.rsr.cfg.doubtWait }) |> setStage 6
    else chooseMode s

/-- ROLLBACK_DONE (R312). -/
def execRollbackDone (s : State) : Host.Outcome State Fault Refusal := run rollbackDone s

/-- DOUBT_WAIT has passed: admission proceeds. -/
def doubtExpired (s : State) : State :=
  if rsrStage s = 6 && s.rsr.doubtLeft == some 0 && rsrRuns s then
    s |> setRsr (fun r => { r with doubtLeft := none }) |> chooseMode
  else s

/-- DOUBT_WAIT_EXPIRED (R313). -/
def execDoubtWaitExpired (s : State) : Host.Outcome State Fault Refusal := run doubtExpired s

/-! ### Admission and the image (R310, R315 to R320) -/

/-- A twin in RECLAIM holds admission until DEMOTE and the copy (R349, R486). -/
def reclaimHolds (s : State) : Bool := paired s && twinState s == 7

/-- Hosts are admitted (R315, R321). (log entry 85: DEDUCED). -/
def admitted (s : State) : State :=
  if s.rsr.ready && (rsrStage s == 7 || rsrStage s == 8 || rsrStage s == 9) && !admittedNow s && rsrRuns s &&
      !reclaimHolds s then
    let done := rsrStage s == 9
    s |> admitHost
      |> set Reg.SYS.BOOT_MS_ADMIT (min 65535 (s.pwr.sinceVaon / 50))
      |> set Reg.SYS.BOOT_STAGE (if done then 10 else 9)
      |> (fun s => { s with eng := { s.eng with chargerHeld := false }, rsr := { s.rsr with lost := [], outcomes := [] },
                            hp := { s.hp with outageCounted := s.hp.outageCounted && !done } })
      |> chargeShow
  else s

/-- ADMITTED (R315). -/
def execAdmitted (s : State) : Host.Outcome State Fault Refusal := run admitted s

/-- A granule may be written: between rollback and the end of the image, under run-ahead one that is in flight, and in a
fence only to complete a merge slot. -/
def mayRestore (g : Nat) (s : State) : Bool :=
  rsrRuns s && 5 ≤ rsrStage s && rsrStage s ≤ 8 && domainOn 38 s &&
  (rsrStage s != 8 || inFlight g s) && (!fenced s || !admittedNow s || savState s == 6)

/-- `RSR.DEMAND_MAX`: the longest wait of a host access on a demand, of which only the bound of R110 is stated (log entry 29).
(log entry 86: DEDUCED). -/
def demandWaited (g : Nat) (s : State) : State :=
  if s.hp.stalled.any (fun q => q.why == .demand g) then
    s |> set Reg.RSR.DEMAND_MAX_US (max (get Reg.RSR.DEMAND_MAX_US s) ((freshWord s).toNat % 401)) |> spend
  else s

/-- A granule's record data arrives, good or not (R317, R318). -/
def granuleRestored (g : Nat) (ok : Bool) (s : State) : State :=
  if !mayRestore g s then s
  else
    let s := s |> demandWaited g |> restoreGranule g ok |> afterRestore
    if rsrStage s = 7 && allRestored s then setRsr (fun r => { r with ready := true }) s else s

/-- RESTORE_GRANULE_DONE (R318). -/
def execRestoreGranuleDone (granule : Nat) (ok : Bool) (s : State) : Host.Outcome State Fault Refusal :=
  run (granuleRestored granule ok) s

/-- Every granule is restored (R320): DONE; after admission the second set of continuity records follows. -/
def imageDone (s : State) : State :=
  if (rsrStage s == 7 || rsrStage s == 8) && rsrRuns s && allRestored s && (!fenced s || !admittedNow s) then
    let was := admittedNow s
    s |> setRsr (fun r => { r with all := true, restored := [], ready := !was })
      |> event 0x43 2 |> setStage 9 |> set Reg.RSR.ETA_MS 0
      |> set Reg.SYS.BOOT_MS_IMAGE_S (min 65535 (s.pwr.sinceVaon / 50000))
      |> when was (fun s =>
          s |> set Reg.SYS.BOOT_STAGE 10 |> publishContinuity false
            |> (fun s => { s with hp := { s.hp with outageCounted := false } }))
      |> mediaAll
  else s

/-- IMAGE_DONE (R320). -/
def execImageDone (s : State) : Host.Outcome State Fault Refusal := run imageDone s

end Sys2Proof.Machine
end

