-- ==== Sys2Proof/Machine/RingCmds.lean ====
section
/-! DEFINITION. The commands of the ring: markers, election, enumeration, breaks, departures and fences (R360 to
R377). -/

namespace Sys2Proof.Machine

/-- A cell comes in on a powered ring: what it does when its CRC holds (R357). -/
def cellIn (ringB crcOk : Bool) (f : State → State) (s : State) : State :=
  if !ringOn s then s else if crcOk then f s else badCell ringB s

/-! ### SYNC (R362, R363) -/

/-- The path of ring A from the master to this member is unbroken. -/
def pathA (s : State) : Bool := (List.range (get Reg.TRN.STS_INDEX s)).all (fun k => !s.rng.broken.contains k)

/-- The master's SYNC has gone round a ring: its circulation time (R363). (log entry 66: DEDUCED). -/
def circulation (ringB : Bool) (ns : Nat) (s : State) : State :=
  let s := set (if ringB then Reg.TRN.CIRC_B_NS else Reg.TRN.CIRC_A_NS) (min 65535 ns) s
  let a := get Reg.TRN.CIRC_A_NS s
  let b := get Reg.TRN.CIRC_B_NS s
  let long := decide (10000 < max a b) && get Reg.TRN.STS_TOPO s == 0
  s |> when (long && !isSet Reg.TRN.STS_CIRC_ERR s) (event 0xD0 5)
    |> put1 Reg.TRN.STS_CIRC_ERR long |> followSource 164 long (a + b * 2 ^ 16)

/-- A SYNC on a ring: forwarded with the delay of this member's span and of the forwarding; its first copy
disciplines the tick, on ring A while the path from the master holds. (log entry 66: DEDUCED). -/
def syncCell (frame : Nat) (phaseErr : Int) (delay spanDelay : Nat) (partitioned quorum ringB : Bool) (s : State) :
    State :=
  let s := { s with rng := { s.rng with syncSeen := true, noSync := 0 } }
  if isMaster s && !electing s then
    s |> circulation ringB (delay + spanDelay) |> when (!ringB) (discipline frame phaseErr (delay + spanDelay))
  else
    s |> set Reg.TRN.STS_MASTER 0 |> set Reg.TRN.STS_STATE 2 |> takeFlags partitioned quorum |> topoShow
      |> passCell ringB 0 (.sync frame (delay + spanDelay + 16) (b2n partitioned + 2 * b2n quorum))
      |> when (ringB != pathA s) (discipline frame phaseErr (delay + spanDelay))

/-- SYNC (R362). -/
def execSync (frame : Frame) (phaseErr : Int) (delay : Nat) (partitioned quorum : Bool) (ring : Ring)
    (spanDelay : Nat) (crcOk : Bool) (s : State) : Host.Outcome State Fault Refusal :=
  run (cellIn (ring == .b) crcOk
    (syncCell frame.toNat phaseErr delay spanDelay partitioned quorum (ring == .b))) s

/-! ### Election and enumeration (R360, R361) -/

/-- Three frames without SYNC, with both inputs locked. The indices of the old ring are void. -/
def startElection (s : State) : State :=
  { s with rng := { s.rng with lowest := s.pwr.serial, ownRun := 0, broken := [], enumDue := false } }
    |> set Reg.TRN.STS_MASTER 0 |> set Reg.TRN.STS_STATE 1 |> topoShow

/-- ELECTING (R360). (log entry 67: DEDUCED). -/
def execElecting (s : State) : Host.Outcome State Fault Refusal :=
  run (fun s =>
    if ringInserts s && !electing s && isSet Reg.TRN.RING_STS_AI_LOCK s && isSet Reg.TRN.RING_STS_BI_LOCK s &&
        decide (3 ≤ s.rng.noSync) then
      s |> startElection |> sendBoth (.claim s.pwr.serial.toNat)
    else s) s

/-- An identifier holds an index of the ring table. -/
def inTable (id : BitVec 64) (s : State) : Bool := id == s.pwr.serial || s.rng.table.any (fun e => e.2 == id)

/-- A CLAIM: the lowest identifier seen; a second member with this member's identifier keeps it from being elected
(R376). A master notes a member without an index, which a departed member has become. -/
def claimCell (id : BitVec 64) (duplicate : Bool) (s : State) : State :=
  if electing s then
    { s with rng := { s.rng with lowest := if id.toNat < s.rng.lowest.toNat then id else s.rng.lowest,
                                 ownRun := if duplicate then 0 else s.rng.ownRun } }
      |> when duplicate (raiseSimple 163 0 0 (ringStsWord s) 0)
  else
    let back := s.rng.departed.contains id
    { s with rng := { s.rng with departed := s.rng.departed.filter (· != id),
                                 enumDue := s.rng.enumDue || (isMaster s && (back || !inTable id s)) } }
      |> set Reg.DOM.STS_DEPARTED ((s.rng.departed.filter (· != id)).length)

/-- CLAIM (R360). -/
def execClaim (id : BitVec 64) (duplicate crcOk : Bool) (s : State) : Host.Outcome State Fault Refusal :=
  run (cellIn false crcOk (claimCell id duplicate)) s

/-- The master's identifier is shown, and the election is over. -/
def newMaster (id : BitVec 64) (s : State) : State :=
  s |> set Reg.TRN.MASTER_LO_ID id.toNat |> set Reg.TRN.MASTER_HI_ID (id.toNat / 2 ^ 32)
    |> inc Reg.TRN.COUNTS_ELECTIONS |> event 0xD0 0

/-- ELECTED (R360). -/
def execElected (s : State) : Host.Outcome State Fault Refusal :=
  run (fun s =>
    if ringInserts s && electing s && !isMaster s && decide (32 ≤ s.rng.ownRun) then
      { s with rng := { s.rng with indexed := true, table := [] } }
        |> set Reg.TRN.STS_MASTER 1 |> set Reg.TRN.STS_INDEX 0 |> set Reg.TRN.STS_COUNT 1 |> newMaster s.pwr.serial
        |> sendEnum |> tableShow
    else s) s

/-- The index a member without one takes: COUNT, or the lowest free one when COUNT is held (R361).
(log entry 67: DEDUCED). -/
def freeIndex (count : Nat) (ids : List (Nat × BitVec 64)) : Nat :=
  if ids.any (·.1 == count) then ((List.range 513).find? (fun k => !ids.any (·.1 == k))).getD 512 else count

/-- The table of an enumeration: rising, without this member's own entry. Identifiers in it have not departed.
(log entry 67: DEDUCED). -/
def takeTable (ids : List (Nat × BitVec 64)) (s : State) : State :=
  let t := (ids.filter (fun e => e.2 != s.pwr.serial)).foldl (fun t e => insert (drop t e.1) e.1 e.2) []
  let left := s.rng.departed.filter (fun d => !t.any (fun e => e.2 == d))
  { s with rng := { s.rng with table := t, departed := left } } |> set Reg.DOM.STS_DEPARTED left.length

/-- An ENUM passes a member. -/
def enumPasses (count frameMax : Nat) (ids : List (Nat × BitVec 64)) (ringB : Bool) (s : State) : State :=
  let fresh := electing s
  let k := if s.rng.indexed && !fresh then get Reg.TRN.STS_INDEX s else freeIndex count ids
  let s := { s with rng := { s.rng with indexed := true } }
    |> set Reg.TRN.STS_INDEX k |> takeTable ids
  s |> set Reg.TRN.STS_COUNT (s.rng.table.length + 1) |> set Reg.TRN.STS_STATE 2
    |> when fresh (newMaster ((look s.rng.table 0).getD 0))
    |> passCell ringB 0 (.enum (count + 1) (max frameMax (now s))) |> topoShow |> tableShow

/-- The ENUM is back at the master: more than 512 members, or the first SYNC follows, numbered FRAME_MAX + 1.
(log entry 67: DEDUCED). -/
def enumReturns (count frameMax : Nat) (ids : List (Nat × BitVec 64)) (s : State) : State :=
  let s := s |> set Reg.TRN.STS_COUNT (min 1023 count) |> takeTable ids |> set Reg.TRN.STS_STATE 2 |> tableShow
  if 512 < count then
    let s := s |> set Reg.TRN.STS_OVERSIZE 1
    s |> event 0xD0 4 |> raiseHeld 163 0 0 (ringStsWord s) 0
  else
    { s with frm := { s.frm with adopt := if now s < frameMax then some (BitVec.ofNat 48 frameMax) else s.frm.adopt } }
      |> set Reg.TRN.STS_OVERSIZE 0 |> liveFall 163 |> topoShow

/-- ENUM (R361). -/
def execEnum (count : Nat) (frameMax : Frame) (ids : List (Nat × BitVec 64)) (ring : Ring) (crcOk : Bool) (s : State) :
    Host.Outcome State Fault Refusal :=
  run (cellIn (ring == .b) crcOk (fun s =>
    if isMaster s then enumReturns count frameMax.toNat ids s else enumPasses count frameMax.toNat ids (ring == .b) s)) s

/-! ### Breaks (R364) (log entry 64: DEDUCED). -/

/-- BREAK (R364). (log entry 64: DEDUCED). -/
def execBreak (index : Nat) (healed : Bool) (ring : Ring) (crcOk : Bool) (s : State) :
    Host.Outcome State Fault Refusal :=
  run (cellIn (ring == .b) crcOk (setSpan index (!healed))) s

/-- The lock of an input, and the span that leads to it. (log entry 64: DEDUCED). -/
def lockOf (ringB : Bool) : Fld := if ringB then Reg.TRN.RING_STS_BI_LOCK else Reg.TRN.RING_STS_AI_LOCK
/-- A span by the index of its upstream member (R364). (log entry 64: DEDUCED). -/
def spanOf (ringB : Bool) (s : State) : Nat := if ringB then spanB s else spanA s

/-- An input has had no block lock for 1 µs: BREAK goes out on the other ring. -/
def spanBreaks (ringB : Bool) (s : State) : State :=
  if !ringOn s then s
  else
    let s := set (lockOf ringB) 0 s
    if !s.rng.indexed then s
    else s |> setSpan (spanOf ringB s) true |> when (ringInserts s) (sendCell (!ringB) (.break_ (spanOf ringB s) false))

/-- SPAN_BROKEN (R364). -/
def execSpanBroken (ring : Ring) (s : State) : Host.Outcome State Fault Refusal := run (spanBreaks (ring == .b)) s

/-- An input has held block lock for 50 frames. -/
def spanHeals (ringB : Bool) (s : State) : State :=
  if !ringOn s then s
  else
    let s := set (lockOf ringB) 1 s
    if !s.rng.indexed then s
    else s |> setSpan (spanOf ringB s) false |> when (ringInserts s) (sendCell (!ringB) (.break_ (spanOf ringB s) true))

/-- SPAN_HEALED (R364). -/
def execSpanHealed (ring : Ring) (s : State) : Host.Outcome State Fault Refusal := run (spanHeals (ring == .b)) s

/-! ### Departures and fences (R366, R371) -/

/-- A LEAVE: the sender joins the departed list. -/
def leaveCell (id : BitVec 64) (s : State) : State :=
  if id = s.pwr.serial then s
  else
    let l := s.rng.departed.filter (· != id) ++ [id]
    { s with rng := { s.rng with departed := l } } |> set Reg.DOM.STS_DEPARTED l.length |> topoShow

/-- LEAVE (R366). -/
def execLeave (id : BitVec 64) (crcOk : Bool) (s : State) : Host.Outcome State Fault Refusal :=
  run (cellIn false crcOk (leaveCell id)) s

/-- A domain commit accepted in frame `f` and not balloted (R371). -/
def fencedRequests (f : Nat) (s : State) : List Nat :=
  (s.txn.requests.filter (fun r => r.domain && !r.balloted && r.accepted == f)).map (·.ctx)

/-- FENCE(F) of another member. -/
def fenceCell (src frame : Nat) (s : State) : State :=
  if src = get Reg.TRN.STS_INDEX s && s.rng.indexed then s
  else
    { s with rng := { s.rng with fences := addNat s.rng.fences frame } }
      |> set Reg.DOM.LAST_FENCE_INDEX src |> set Reg.DOM.LAST_FENCE_FRAME_FRAME frame |> event 0xD1 1
      |> forEach (fencedRequests frame s) discardRequest

/-- FENCE_CELL (R371). -/
def execFenceCell (src : Nat) (frame : Frame) (crcOk : Bool) (s : State) : Host.Outcome State Fault Refusal :=
  run (cellIn false crcOk (fenceCell src frame.toNat)) s

end Sys2Proof.Machine
end

