-- ==== Sys2Proof/Machine/SaveCmds.lean ====
section
/-! DEFINITION. The commands of the power-fail save and the ride-through (R275 to R298, R392). -/

namespace Sys2Proof.Machine

/-! ### Triggers (R275, R277) -/

/-- VIN ceases to be good: the count of good frames restarts, and a HOLD powers down (R294). (log entry 42: DEDUCED). -/
def vinFalls (s : State) : State :=
  s |> setSavs (fun v => { v with vinFrames := 0, vinGood := false })
    |> (fun s => if savState s = 7 then savePowerDown 2 s else s)

/-- `PFAIL_N` is low: a trigger while PFAIL_EN is 1. -/
def pfail (s : State) : State :=
  { s with eng := { s.eng with last := { s.eng.last with pfailLow := true } } }
    |> vinFalls |> when (isSet Reg.SAV.CFG_PFAIL_EN s) (trigger 0)

/-- PFAIL (R275). -/
def execPfail (s : State) : Host.Outcome State Fault Refusal := run pfail s

/-- The comparator trips. -/
def comparatorTrip (s : State) : State :=
  { s with eng := { s.eng with last := { s.eng.last with vinAbove := false } } } |> vinFalls |> trigger 1

/-- VIN_COMPARATOR_TRIP (R275). -/
def execVinComparatorTrip (s : State) : Host.Outcome State Fault Refusal := run comparatorTrip s

/-- CHIP_RESET (R277). -/
def execChipReset (s : State) : Host.Outcome State Fault Refusal := run chipResetOp s

/-! ### The drain (R279, R280) -/

/-- The drain is over: answers go out and the save path is chosen (R280, R281). -/
def drainDone (s : State) : State := if fenced s && savState s == 2 && !s.sav.drained then drained s else s

/-- DRAIN_DONE (R280). -/
def execDrainDone (s : State) : Host.Outcome State Fault Refusal := run drainDone s

/-- A drain that is late: source 180 with the pool. -/
def drainLate (pool : Nat) (s : State) : State :=
  if fenced s && savState s == 2 && !s.sav.drained then raiseSimple 180 0 0 pool 0 s else s

/-- DRAIN_TIMEOUT (R279). -/
def execDrainTimeout (pool : Nat) (s : State) : Host.Outcome State Fault Refusal := run (drainLate pool) s

/-! ### Pre-seal and ride (R281, R283) -/

/-- The pre-seal ends with no record in flight: the count has reached b_cap, or nothing eligible is left. While VIN is
good it only stops (R297). -/
def presealEnd (s : State) : State :=
  if savState s ≠ 3 || !s.nand.sealing.isEmpty || (vinGoodNow s && !presealCut s) then s
  else if presealCut s then startSave s
  else if dirtyEff s ≤ bCap s then enterRide s
  else if presealable s then s
  else startSave s

/-- PRESEAL_DONE (R281). -/
def execPresealDone (s : State) : Host.Outcome State Fault Refusal := run presealEnd s

/-- A ride has lasted RIDE_MAX since its decision (R283, order 3). -/
def rideOver (s : State) : Bool := savState s == 4 && decide (s.sav.decided + get Reg.SAV.RIDE_MAX_S s * 50000 ≤ now s)

/-- RIDE_MAX seconds have passed since the decision. -/
def rideExpired (s : State) : State :=
  if rideOver s then s |> triggerBit 6 |> wake else s

/-- RIDE_MAX_EXPIRED (R283). -/
def execRideMaxExpired (s : State) : Host.Outcome State Fault Refusal := run rideExpired s

/-- VIN has been good for VIN_STABLE frames. -/
def vinStable (s : State) : Bool := vinGoodNow s && decide (get Reg.SAV.VIN_STABLE_FRAMES s ≤ s.sav.vinFrames)

/-- A warm return begins, where no earlier condition of R283 ends the ride: from the ride, from a stopped pre-seal or from the HOLD of a power failure (R283, R286, R294,
R297). (log entry 87: DEDUCED). -/
def warmReturn (s : State) : State :=
  if rideOver s then rideExpired s
  else if !vinStable s then s
  else if savState s = 4 then
    s |> endRide |> savOutcome 1 |> inc Reg.SAV.COUNTS_RIDES |> setSav 9
      |> setSavs (fun v => { v with warmStep := 0 }) |> startUp .wake
  else if savState s = 3 && s.nand.sealing.isEmpty then s |> savOutcome 1 |> startWarm
  else if savState s = 7 && saveKind s == 1 then leaveHold s
  else s

/-- WARM_RETURN (R286). -/
def execWarmReturn (s : State) : Host.Outcome State Fault Refusal := run warmReturn s

/-! ### The save's records and its manifest (R287, R290) -/

/-- A save's records are being programmed; a block of its path that aborts is used from ABORT_DONE on (R94).
(log entry 87: DEDUCED). -/
def saving (s : State) : Bool := savState s == 6 && domainOn 42 s && savePathReady s

/-- Step 1: the intent list, from which on PARISON reads 1. (log entry 87: DEDUCED). -/
def writeIntent (s : State) : State :=
  s |> programRecord (.continuity (some {
        frameFence := s.sav.t0, trigger := get Reg.SAV.LAST_TRIG_TRIGGER s,
        okAtFence := isSet Reg.SAV.LAST_TRIG_OK_AT_FENCE s,
        granules := (s.mrv.entries.filter (fun e => e.2.state != .clean)).map (·.1),
        contexts := savedContexts s, held := s.txn.pairs.map (fun p => (p.ctx, p.granule)) })) true
    |> set Reg.SAV.STS_PARISON 1

/-- Step 2 is complete: every granule of a merge slot is restored. -/
def mergesDone (s : State) : Bool := s.rsr.inflight.isEmpty

/-- Step 3 begins with the UNDO records of the slabs: the domain's log takes no later entry (R370). -/
def writeUndo (s : State) : State :=
  { s with rng := { s.rng with logClosed := true } }
    |> when (!saved .undo s) (forEach (savedPairs s) (fun p => programRecord (.undo p) true))

/-- Step 3 ends: the Hold set, the context table and the domain's log are on flash (R192, R370).
(log entry 87: DEDUCED). -/
def writeHold (s : State) : State :=
  s |> writeUndo |> programRecord (.hold (savedContexts s) s.txn.pairs s.rng.log) true

/-- Step 5: the packing words are emitted padded, and the queues are on flash (R442). (log entry 87: DEDUCED). -/
def writeGather (s : State) : State :=
  let s := forEach [0, 1, 2, 3] flushPacking s
  programRecord (.gather (gatherNow s).1 (gatherNow s).2) true s

/-- The whole delta cache is on flash (R212, R287 step 5). -/
def saveDelta (s : State) : State :=
  { s with nand := { s.nand with delta := s.nand.delta.map (fun (d : Delta) => { d with programmed := true }) } }
    |> programRecord (.delta s.nand.delta) true

/-- No granule is left that the save still seals: none DIRTY but those that R48 lost, and none in flight. -/
def sealsDone (s : State) : Bool :=
  s.nand.sealing.isEmpty &&
  s.mrv.entries.all (fun e => e.2.state == .clean || s.sav.residueLost.contains e.1 || !entryInUse e.1 s)

/-- Step 5 may begin: the granules are sealed. -/
def metadataDue (s : State) : Bool := holdSaved s && sealsDone s

/-- Step 6 may begin: the records of step 5 are on flash. -/
def directoryDue (s : State) : Bool :=
  metadataDue s && ([.delta, .marver, .gather, .cullet] : List RecType).all (fun t => saved t s) &&
    (saveRecords s).contains (.continuity none)

/-- A record of the save is programmed, in the order of R287; each type once, the intent list first and the remaining
continuity data after the granules. -/
def saveRecord (k : RecKind) (s : State) : State :=
  match k with
  | .continuity =>
    if (saveIntent s).isNone then writeIntent s
    else if metadataDue s && !(saveRecords s).contains (.continuity none) then programRecord (.continuity none) true s
    else s
  | .undo => if (saveIntent s).isSome && mergesDone s then writeUndo s else s
  | .hold => if (saveIntent s).isSome && mergesDone s && !holdSaved s then writeHold s else s
  | .delta => if metadataDue s && !saved .delta s then saveDelta s else s
  | .marver => if metadataDue s && !saved .marver s then programRecord (.marver s.mrv.entries) true s else s
  | .gather => if metadataDue s && !saved .gather s then writeGather s else s
  | .cullet => if metadataDue s && !saved .cullet s then writeCullet true s else s
  | .map => if directoryDue s && !saved .map s then writeDirectory true s else s

/-- A record of a type other than SEAL is programmed: in a save, one of the save's; else a DELTA record (R212), or a MAP or
CULLET record of the checkpoint under way (R213, R222). -/
def recordWritten (k : RecKind) (s : State) : State :=
  if saving s then withCredit (poolAddr 0x42 0x13C) true (saveRecord k) s
  else if fenced s then s
  else
    match k with
    | .delta => writeDelta false s
    | .map => writeMaps s
    | .cullet => if s.nand.checkpoint.isSome && culletStale s then writeCullet false s else s
    | .undo | .hold | .marver | .gather | .continuity => s

/-- RECORD_PROGRAMMED (R287). -/
def execRecordProgrammed (kind : RecKind) (s : State) : Host.Outcome State Fault Refusal := run (recordWritten kind) s

/-- A copy of the save's manifest is programmed; without either, source 230 with its SEQ. -/
def manifestProgrammed (a b : Bool) (s : State) : State :=
  let a := a && (anchorsTake s).1
  let b := b && (anchorsTake s).2
  if !(saving s && directoryDue s && saved .map s) then s
  else if a || b then s |> manifestDone a b |> runWaitingDomains
  else raiseSimple 230 0 0 (nextSeq s) 0 s

/-- MANIFEST_PROGRAMMED (R290). -/
def execManifestProgrammed (copyA copyB : Bool) (s : State) : Host.Outcome State Fault Refusal :=
  run (manifestProgrammed copyA copyB) s

/-! ### RESUME and the undervoltage limit (R294, R296, R392) -/

/-- SAV.CTL.RESUME: refused with WERR_BUSY without a flush HOLD or without good VIN (R297). (log entry 88: DEDUCED). -/
def resume (w : Writer) (s : State) : State :=
  if flushHold s && vinGoodNow s then leaveHold s else werrBusy w 0x42138 s

/-- RESUME (R294). -/
def execResume (w : Writer) (s : State) : Host.Outcome State Fault Refusal :=
  run (reach w 0x42138 1 (resume w)) s

/-- The outage's save ended without its manifest (R296). -/
def saveIncomplete (s : State) : State :=
  if !savArmed s || !fenced s || s.sav.manifestDone then s
  else
    s |> setSavs (fun v => { v with incomplete := true }) |> savOutcome 5 |> event 0x42 5 |> countDirtyShutdown

/-- The limit is reached: VIN is not good. The reactions that waited are dropped (R404). (log entry 88: DEDUCED). -/
def undervoltage (s : State) : State :=
  if vinGoodNow s then s
  else
    s |> saveIncomplete |> setSavs (fun v => { v with waitingActs := [] })
      |> cutAll

/-- UNDERVOLTAGE_LIMIT (R392). -/
def execUndervoltageLimit (s : State) : Host.Outcome State Fault Refusal := run undervoltage s

end Sys2Proof.Machine
end

