-- ==== Sys2Proof/Machine/TwinCmds.lean ====
section
/-! DEFINITION. The commands of the twin and of the Punty link (R328 to R351). -/

namespace Sys2Proof.Machine

/-- `TWN.STS.RESULT`. -/
def twinResult (r : Nat) (s : State) : State := set Reg.TWN.STS_RESULT r s
def ctlTwn : Nat := 0xC1108

/-! ### Pairing (R332 to R334) -/

/-- The checks of R333 that this device can make alone. -/
def pairingFits (s : State) : Bool :=
  let mapped := (regions s).foldl (fun n r => n + 2 ^ r.2.log2) 0
  decide (exposedBytes s ≤ 512 * 2 ^ 30) && decide (2 * exposedBytes s ≤ mapped) &&
    decide (2 * homeGranules s ≤ 16777216)

/-- `TWN.CTL.PAIR` (R332, R333). -/
def pairTwin (s : State) : State :=
  if !(twinState s == 0 || isSet Reg.TWN.STS_PROMOTED s) then twinResult 1 s
  else if !isSet Reg.SYS.CAPS_TWIN s then twinResult 2 s
  else if !pairingFits s then twinResult 3 s
  else s |> setTwn (fun t => { t with nextPair := some true }) |> twinResult 0

/-- PAIR (R332). -/
def execPair (w : Writer) (s : State) : Host.Outcome State Fault Refusal := run (reach w ctlTwn 1 pairTwin) s

/-- `TWN.CTL.UNPAIR` (R334). -/
def unpairTwin (w : Writer) (s : State) : State :=
  if isSet Reg.TWN.STS_PROMOTED s then werrBusy w ctlTwn s
  else s |> setTwn (fun t => { t with nextPair := some false }) |> twinResult 0

/-- UNPAIR (R334). -/
def execUnpair (w : Writer) (s : State) : Host.Outcome State Fault Refusal := run (reach w ctlTwn 2 (unpairTwin w)) s

/-! ### DETACH, REATTACH, TWIN_FAILED, PROMOTE, DEMOTE (R340, R348, R349) -/

/-- DETACH, from ATTACHED or RESYNC, or ending a reconciliation (R350). -/
def detachTwin (s : State) : State :=
  if twinAttached s || twinState s == 2 then
    s |> sendTwin "DETACH" [] |> leaveTwin 6 |> repairsOnward
      |> setTwn (fun t => { t with detachedHere := true, reattach := false, hello := none, planned := false, copies := [] })
      |> twinResult 0
  else twinResult 1 s

/-- DETACH (R340). -/
def execDetach (w : Writer) (s : State) : Host.Outcome State Fault Refusal := run (reach w ctlTwn 4 detachTwin) s

/-- `TWN.CTL.REATTACH` (R340). -/
def reattachTwin (s : State) : State :=
  if twinState s = 6 then
    s |> setTwn (fun t => { t with reattach := true, hello := none, planned := false }) |> twinResult 0
  else twinResult 1 s

/-- REATTACH (R340). -/
def execReattach (w : Writer) (s : State) : Host.Outcome State Fault Refusal := run (reach w ctlTwn 8 reattachTwin) s

/-- `TWN.CTL.TWIN_FAILED` (R348). -/
def twinHasFailed (s : State) : State :=
  if twinState s = 5 || twinState s = 6 then
    s |> setTwn (fun t => { t with failedIn := some (twinState s) }) |> twinResult 0
  else twinResult 1 s

/-- TWIN_FAILED (R348). -/
def execTwinFailed (w : Writer) (s : State) : Host.Outcome State Fault Refusal :=
  run (reach w ctlTwn 16 twinHasFailed) s

/-- A remote context at promotion (R348): PREPARED local ones are committed, OPEN ones are replayed from their undo,
PREPARED domain ones are held in doubt. -/
def promoteContext (c : Nat) (s : State) : State :=
  if remotePrepared c s then
    if (look s.twn.tags c).isSome then
      s |> setTwn (fun t => { t with doubt := addNat t.doubt c }) |> set Reg.SYS.PERSIST_IN_DOUBT 1 |> event 0x44 2
    else endRemote c s
  else if remoteOpen c s then s |> rollback (64 + c) |> endRemote c
  else s

/-- PROMOTED, held with the pairing in the settings store. -/
def setPromoted (b : Bool) (s : State) : State :=
  s |> put1 Reg.TWN.STS_PROMOTED b |> storeSetting Reg.TWN.STS_PROMOTED (b2n b)

/-- `TWN.CTL.PROMOTE` (R348). -/
def promoteTwin (s : State) : State :=
  if (twinState s = 5 || twinState s = 6) && s.twn.failedIn == some (twinState s) then
    s |> forEach allCtx promoteContext
      |> (fun s => setGen Reg.TWN.MIRROR_GEN_VALUE (get Reg.TWN.MIRROR_GEN_VALUE s + 1) s)
      |> setPromoted true |> setTwn (fun t => { t with failedIn := none })
      |> event 0xC1 3 |> twinResult 0
  else twinResult 1 s

/-- PROMOTE (R348). -/
def execPromote (w : Writer) (s : State) : Host.Outcome State Fault Refusal := run (reach w ctlTwn 32 promoteTwin) s

/-- DEMOTE: only without a committed decoder 2, and while the twin reports RECLAIM. -/
def demoteTwin (w : Writer) (s : State) : State :=
  if isSet Reg.TWN.STS_PROMOTED s && s.twn.peerState == 7 && !s.hp.decoders.any (fun d => d.decoder == 2) then
    s |> setPromoted false |> twinResult 0
  else werrBusy w ctlTwn s

/-- DEMOTE (R349). -/
def execDemote (w : Writer) (s : State) : Host.Outcome State Fault Refusal :=
  run (reach w ctlTwn 64 (demoteTwin w)) s

/-! ### Messages (R331, R335 to R339) -/

/-- A control message is taken: the link is up and a pairing is in effect. -/
def fromTwin (f : State → State) (s : State) : State := if paired s && puntyUp s then f s else s

/-- A heartbeat is taken (R331). -/
def heartbeat (h : HeartbeatIn) (s : State) : State :=
  s |> setTwn (fun t => { t with heard := true, peerState := h.state, peerAsync := h.async })
    |> set Reg.TWN.STS_MISSED 0 |> ackMirror h.seq

/-- HEARTBEAT (R331). -/
def execHeartbeat (h : HeartbeatIn) (s : State) : Host.Outcome State Fault Refusal := run (fromTwin (heartbeat h)) s

/-- TWIN_LOST (R340). -/
def execTwinLost (s : State) : Host.Outcome State Fault Refusal :=
  run (fun s => if 3 ≤ get Reg.TWN.STS_MISSED s then twinLostNow s else s) s

/-- Local PREPARED remote contexts return to OPEN at the owner's FENCE. (log entry 60: DEDUCED). -/
def unprepare (c : Nat) (s : State) : State :=
  if remotePrepared c s && (look s.twn.tags c).isNone then s |> setRemotePrepared c false |> setRemoteOpen c true else s

/-- The twin fences (R336, R340). -/
def fenceReceived (s : State) : State :=
  s |> forEach allCtx unprepare
    |> when (twinAttached s) (fun s => s |> leaveTwin 5 |> repairsOnward |> raiseSimple 158 0 0 (twinState s) 0)

/-- FENCE_MESSAGE (R336). -/
def execFenceMessage (s : State) : Host.Outcome State Fault Refusal := run (fromTwin fenceReceived) s

/-- The twin detaches (R340). -/
def detachReceived (s : State) : State :=
  if twinAttached s || twinState s == 2 then
    s |> leaveTwin 6 |> repairsOnward
      |> setTwn (fun t => { t with detachedHere := false, reattach := false, hello := none, planned := false, copies := [] })
  else s

/-- DETACH_MESSAGE (R340). -/
def execDetachMessage (s : State) : Host.Outcome State Fault Refusal := run (fromTwin detachReceived) s

/-- A mirror write is taken, or waits (R337). -/
def mirrorWrite (m : MirrorIn) (s : State) : State := takeMirror m s

/-- MIRROR_WRITE (R337). -/
def execMirrorWrite (m : MirrorIn) (s : State) : Host.Outcome State Fault Refusal := run (fromTwin (mirrorWrite m)) s

/-- MIRROR_ACK (R335). -/
def execMirrorAck (seq : Nat) (s : State) : Host.Outcome State Fault Refusal := run (fromTwin (ackMirror seq)) s

/-- SEAL_N: the peer's manifest and generations (R331). -/
def sealReported (seq gen : Nat) (s : State) : State :=
  s |> set Reg.TWN.PEER_SEQ_VALUE seq |> set Reg.TWN.PEER_GEN_VALUE gen

/-- SEAL_N (R331). -/
def execSealN (seq : BitVec 32) (gen : BitVec 32) (s : State) : Host.Outcome State Fault Refusal :=
  run (fromTwin (sealReported seq.toNat gen.toNat)) s

/-! ### Remote contexts and commits (R187, R195, R338, R339) -/

/-- PREPARE for a remote context: at once, or once no earlier mirror write of it waits (R187, R339). -/
def prepareRemote (c tag : Nat) (s : State) : State :=
  if !twinAttached s || fenced s then s
  else if remoteWaits c s then setTwn (fun t => { t with prepares := t.prepares.filter (·.1 != c) ++ [(c, tag)] }) s
  else prepareNow c tag s

/-- PREPARE (R339). -/
def execPrepare (c : Fin 64) (domainTag : BitVec 22) (s : State) : Host.Outcome State Fault Refusal :=
  run (fromTwin (prepareRemote c.val domainTag.toNat)) s

/-- A participant's vote turns to yes when its twin has prepared in time (R195). -/
def voteYes (g phase : Nat) (s : State) : State :=
  match voteOf g s with
  | some v =>
    if !v.yes && ctxState g s == 1 && now32 s == v.frame && decide (phase < 28000) && !fenced s then
      castVote { v with yes := true } s
    else s
  | none => s

/-- The acknowledgement counts for the tick after this frame, or from phase 36,000 on for the one after that. -/
def prepareAcked (g phase : Nat) (s : State) : State :=
  let due := now s + 1 + b2n (decide (commitCutoff ≤ phase))
  { s with txn := { s.txn with requests := s.txn.requests.map (fun r =>
      if r.ctx = g ∧ r.needAck = true ∧ r.ackFor = none then { r with ackFor := some due, ackAt := some (now s, phase) } else r) } }
    |> voteYes g phase

/-- PREPARE_ACK (R187). -/
def execPrepareAck (c : Fin 64) (phase : Nat) (s : State) : Host.Outcome State Fault Refusal :=
  run (fromTwin (prepareAcked c.val phase)) s

/-- The undo of a remote context is void and its hold column cleared; mirror writes of it that still wait are gone. -/
def remoteEnds (c : Nat) (s : State) : State :=
  s |> setTwn (fun t => { t with
        stalled := t.stalled.filter (fun m => (m.ctx.map (·.val)) != some c), holdFrames := 0,
        prepares := t.prepares.filter (·.1 != c) })
    |> endRemote c |> goMirrors

/-- COMMIT_N: a remote context is committed (R339). -/
def remoteCommitted (c : Nat) (s : State) : State := remoteEnds c s
/-- ABORTED_N: a remote context is rolled back (R339). -/
def remoteAborted (c : Nat) (s : State) : State := remoteEnds c s

/-- COMMIT_N (R339). -/
def execCommitN (c : Fin 64) (s : State) : Host.Outcome State Fault Refusal := run (fromTwin (remoteCommitted c.val)) s
/-- ABORTED_N (R339). -/
def execAbortedN (c : Fin 64) (s : State) : Host.Outcome State Fault Refusal := run (fromTwin (remoteAborted c.val)) s

/-- HOLD_FULL: the context aborts as at a stall of its own (R179, R184). (log entry 63: DEDUCED). -/
def twinHoldFull (g : Nat) (s : State) : State :=
  let s := event 0xC1 4 s
  if ctxState g s = 1 then
    s |> set (Reg.TXC.CTX_STS_HOLD_FULL (g / 16) (g % 16)) 1 |> event 0x44 0 |> startAbort g |> dropWaiting g
  else s

/-- HOLD_FULL (R338). -/
def execHoldFull (c : Fin 64) (s : State) : Host.Outcome State Fault Refusal := run (fromTwin (twinHoldFull c.val)) s

/-! ### Reconciliation (R333, R340, R343 to R347, R349) -/

/-- The HELLO names this device's peer. -/
def helloFromPeer (h : HelloIn) (s : State) : Bool :=
  h.serial.toNat == get Reg.TWN.PEER_LO_SERIAL s + get Reg.TWN.PEER_HI_SERIAL s * 2 ^ 32

/-- The pairing stays valid (R333). -/
def helloFits (h : HelloIn) (s : State) : Bool :=
  h.granSize == get Reg.MRV.CFG_GRAN_IN_USE s && decide (h.homeGib * 2 ^ 30 ≤ mirrorGranules s * granBytes s)

/-- A reconciliation from step 1. -/
def restartReconcile (s : State) : State :=
  setTwn (fun t => { t with hello := none, planned := false, copies := [], homeDone := false, mirrorDone := false }) s

/-- HELLO: the peer's side of a reconciliation (R342 to R344). -/
def helloReceived (h : HelloIn) (s : State) : State :=
  if !helloFromPeer h s then s |> twinResult 5 |> raiseSimple 159 0 0 (twinState s) 0
  else if !metadataLoaded s || !(reconciles s || (twinState s == 6 && h.reattach && !s.twn.detachedHere)) then s
  else if !helloFits h s then
    s |> restartReconcile |> setTwinState 1 |> twinResult 5 |> raiseSimple 159 0 0 (twinState s) 0
  else
    let first := s.twn.hello.isNone
    s |> setTwn (fun t => { t with hello := some h, planned := false, copies := [], peerUndo := h.undoRegion,
                                   reattach := t.reattach || h.reattach })
      |> put1 Reg.TWN.STS_LEADER (decide (ownId s < h.serial.toNat))
      |> when first sendHello
      |> when (!(twinState s == 3 || twinState s == 7)) (setTwinState 2)

/-- HELLO (R344). -/
def execHello (h : HelloIn) (s : State) : Host.Outcome State Fault Refusal := run (fromTwin (helloReceived h)) s

/-- The winners of R343: the twin wins this device's home region, this device the mirror region. -/
def twinWinsHome (h : HelloIn) (s : State) : Bool :=
  (s.twn.fresh && h.promoted) || decide (get Reg.TWN.HOME_AGREED_VALUE s < h.mirrorGen)
/-- This device's mirror region wins over the peer's home (R343). (log entry 62: DEDUCED). -/
def weWinMirror (s : State) : Bool :=
  (s.twn.fresh && isSet Reg.TWN.STS_PROMOTED s) ||
    decide (get Reg.TWN.MIRROR_AGREED_VALUE s < get Reg.TWN.MIRROR_GEN_VALUE s)

/-- A region written on both sides (R343): the granules that the owner's writes lose. -/
def conflict (granules : Nat) (s : State) : State :=
  s |> set Reg.TWN.STS_CONFLICT 1 |> event 0xC1 2 |> raiseSimple 160 0 0 granules 0 |> twinConflictRecord granules
    |> count Reg.TWN.CONFLICT_GRAN_GRAN granules

/-- What this device copies (R343, R345, R346). (log entry 62: DEDUCED). -/
def copyJobs (h : HelloIn) (s : State) : List CopyJob :=
  let current := fun (g : Nat) => !(entryOf g s).lost && decide (g < mapEntries s)
  let home : CopyJob := { home := true, whole := s.twn.fresh, next := 0,
                          extra := h.lostMirror.filter (fun g => current g && !(entryOf g s).twinDirty) }
  let mirror : CopyJob := { home := false, whole := weWinMirror s, next := 0,
                            extra := if weWinMirror s then [] else
                              (h.lostHome.map (· + homeGranules s)).filter current }
  (if twinWinsHome h s then [] else [home]) ++ [mirror]

/-- The outcome of a remote context in the PLAN (R344). (log entry 62: DEDUCED). -/
def planOutcome (o : Fin 64 × Bool) (s : State) : State :=
  if o.2 then remoteCommitted o.1.val s else remoteAborted o.1.val s

/-- The leader's PLAN: sent or received, both sides take the winners of R343 from the generations. -/
def planMade (outcomes : List (Fin 64 × Bool)) (s : State) : State :=
  match s.twn.hello with
  | none => s
  | some h =>
    if s.twn.planned || !(twinState s == 2 || twinState s == 3 || twinState s == 7) then s
    else
      let lead := isSet Reg.TWN.STS_LEADER s
      let homeLost := twinWinsHome h s
      let mirrorWon := weWinMirror s
      let bothHome := homeLost && decide (get Reg.TWN.HOME_AGREED_VALUE s < get Reg.TWN.HOME_GEN_VALUE s)
      let bothMirror := mirrorWon && decide (get Reg.TWN.MIRROR_AGREED_VALUE s < h.homeGen)
      let jobs := copyJobs h s
      s |> when bothHome (fun s => conflict (get Reg.MRV.TWIN_DIRTY_COUNT s) s) |> when bothMirror (conflict h.twinDirty)
        |> forEach outcomes planOutcome
        |> setTwn (fun t => { t with planned := true, homeTwin := homeLost, mirrorOurs := mirrorWon, copies := jobs,
                                     homeDone := false, mirrorDone := false })
        |> resyncShow |> sendTwin (if lead then "PLAN" else "PLAN_ACK") [b2n homeLost, b2n mirrorWon]

/-- PLAN (R344). -/
def execPlan (outcomes : List (Fin 64 × Bool)) (s : State) : Host.Outcome State Fault Refusal :=
  run (fromTwin (planMade outcomes)) s

/-- A region's generations take the winner's value (R342). -/
def agree (home : Bool) (gen : Nat) (s : State) : State :=
  if home then
    s |> setGen Reg.TWN.HOME_GEN_VALUE gen |> setGen Reg.TWN.HOME_AGREED_VALUE gen
      |> setTwn (fun t => { t with homeDone := true })
  else
    s |> setGen Reg.TWN.MIRROR_GEN_VALUE gen |> setGen Reg.TWN.MIRROR_AGREED_VALUE gen
      |> setTwn (fun t => { t with mirrorDone := true })

/-- Both regions are done: ATTACHED (R347). -/
def attachWhenDone (s : State) : State :=
  if s.twn.homeDone && s.twn.mirrorDone then
    s |> sealN
      |> setTwn (fun t => { t with hello := none, planned := false, copies := [], fresh := false, reattach := false,
                                   detachedHere := false, homeDone := false, mirrorDone := false })
      |> set Reg.TWN.STS_MISSED 0 |> setTwinState 4 |> event 0xC1 1
  else s

/-- What is left for this device to copy in a region. -/
def regionLeft (home : Bool) (s : State) : Nat :=
  (s.twn.copies.filter (fun j => j.home == home)).foldl (fun n j => n + copyLeft j s) 0

/-- PLAN_ACK: regions without a copy are done at once; the owner of a promoted region reclaims it before admission. -/
def planAcked (s : State) : State :=
  match s.twn.hello with
  | none => s
  | some h =>
    if !s.twn.planned || !(twinState s == 2 || twinState s == 3 || twinState s == 7) then s
    else
      let homeQuiet := !s.twn.homeTwin && regionLeft true s == 0 && h.lostMirror.isEmpty
      let mirrorQuiet := !s.twn.mirrorOurs && !s.twn.fresh && h.twinDirty == 0 && regionLeft false s == 0
      let homeGen := get Reg.TWN.HOME_GEN_VALUE s
      let s := if s.twn.homeTwin && !admittedNow s then setTwinState 7 s else setTwinState 3 s
      s |> when homeQuiet (agree true homeGen) |> when mirrorQuiet (agree false h.homeGen) |> attachWhenDone

/-- PLAN_ACK (R340). -/
def execPlanAck (s : State) : Host.Outcome State Fault Refusal := run (fromTwin planAcked) s

/-- REGION_DONE of a region: sent by this device where it wins, once its last copy is out and, for a promoted region,
DEMOTE is written; else received. (log entry 62: DEDUCED). -/
def regionDone (home : Bool) (gen : Nat) (s : State) : State :=
  let ours := if home then !s.twn.homeTwin else s.twn.mirrorOurs
  if !s.twn.planned || !(twinState s == 3 || twinState s == 7) || s.twn.copyWaits.any (fun c => c.home == home) then s
  else if ours then
    if regionLeft home s ≠ 0 || !s.twn.copying.isEmpty || (!home && isSet Reg.TWN.STS_PROMOTED s) then s
    else
      let g := get (if home then Reg.TWN.HOME_GEN_VALUE else Reg.TWN.MIRROR_GEN_VALUE) s
      s |> sendTwin "REGION_DONE" [b2n home, g] |> agree home g |> attachWhenDone
  else s |> agree home gen |> attachWhenDone

/-- REGION_DONE (R347). -/
def execRegionDone (home : Bool) (gen : Nat) (s : State) : Host.Outcome State Fault Refusal :=
  run (fromTwin (regionDone home gen)) s

/-- A step past its bound (R344). -/
def execReconcileTimeout (s : State) : Host.Outcome State Fault Refusal :=
  run (fromTwin (fun s => if twinState s = 2 then s |> restartReconcile |> sendHello else s)) s

/-- WAIT_BOOT frames without a HELLO (R340). (log entry 63: DEDUCED). -/
def waitBootExpired (s : State) : State :=
  if twinState s = 1 && s.twn.waitLeft == some 0 then
    s |> setTwn (fun t => { t with waitLeft := none }) |> setTwinState 5 |> event 0xC1 0 |> inc Reg.TWN.LOSSES_COUNT
  else s

/-- WAIT_BOOT_EXPIRED (R340). -/
def execWaitBootExpired (s : State) : Host.Outcome State Fault Refusal := run waitBootExpired s

/-- GRANULE_COPY (R345). -/
def execGranuleCopy (home : Bool) (granule : Nat) (image : List (Nat × BitVec 8)) (reverse : Bool) (s : State) :
    Host.Outcome State Fault Refusal :=
  run (fromTwin (takeCopy { home := home, granule := granule, image := image, reverse := reverse })) s

/-! ### Repairs (R164) -/

/-- The line in this device that answers a request for a line of the twin: a home line is held in the mirror region, a
mirror line is this device's home line. -/
def twinLine (line : Nat) (s : State) : Option Nat :=
  let h := homeGranules s * granLines s
  if line < h then some (h + line)
  else if line < 2 * h then some (line - h)
  else none

/-- The answer to a line request: the line's data, or none where this device holds no good copy. -/
def repairAnswer (line : Nat) (s : State) : List Nat :=
  match twinLine line s with
  | none => [line, 0]
  | some l =>
    let d := lineNow l s
    if d.2 || (entryOf (granuleOf l s) s).lost || unrestored (granuleOf l s) s then [line, 0]
    else [line, 1, d.1.toNat]

/-- The twin asks for a line, and gets it or a refusal (R164). -/
def repairRequested (line : Nat) (s : State) : State := sendTwin "REPAIR_REPLY" (repairAnswer line s) s

/-- REPAIR_REQUEST (R164). -/
def execRepairRequest (line : Nat) (s : State) : Host.Outcome State Fault Refusal :=
  run (fromTwin (repairRequested line)) s

/-- The twin's reply: the line is repaired, or the sealed copy is tried. -/
def repairReplied (line : Nat) (data : Option Line) (s : State) : State :=
  match repairOf line s with
  | some r =>
    if r.stage = .twin then
      (match data with
       | some d => repaired line d true s
       | none => repairOnward line r.finder s) |> retryStalled
    else s
  | none => s

/-- REPAIR_REPLY (R164). -/
def execRepairReply (line : Nat) (data : Option Line) (s : State) : Host.Outcome State Fault Refusal :=
  run (fromTwin (repairReplied line data)) s

/-! ### The link (R328, R329) -/

/-- PUNTY_RETRAIN (R329). -/
def execPuntyRetrain (s : State) : Host.Outcome State Fault Refusal := run retrainPunty s

/-- The link's word. -/
def puntyWord (s : State) : Nat :=
  get Reg.PNT.LINK_WIDTH s + get Reg.PNT.LINK_RATE s * 4 + get Reg.PNT.LINK_DEGRADED s * 16

/-- The Punty link is up, and HELLO goes out in a state that reconciles (R328, R340). -/
def puntyTrained (x32 gt64 : Bool) (s : State) : State :=
  if !isSet Reg.SYS.CAPS_TWIN s || !domainOn 8 s || !domainOn 9 s || !s.pwr.firmware then s
  else
    let bad := !(x32 && gt64)
    s |> set Reg.PNT.LINK_WIDTH (if x32 then 2 else 1) |> set Reg.PNT.LINK_RATE (if gt64 then 2 else 1)
      |> put1 Reg.PNT.LINK_DEGRADED bad
      |> when bad (fun s => s |> event 0xC0 1 |> raiseSimple 156 0 0 (puntyWord s) 0)

/-- PUNTY_LINK_UP (R328). -/
def execPuntyLinkUp (x32 : Bool) (gt64 : Bool) (s : State) : Host.Outcome State Fault Refusal :=
  run (puntyTrained x32 gt64) s

end Sys2Proof.Machine
end

