-- ==== Sys2Proof/Machine/UpdCmds.lean ====
section
/-! DEFINITION. The commands of the firmware update and of the settings store (R464 to R482). -/

namespace Sys2Proof.Machine

/-- `UPD.ACTIVATE` is written: no write while a fence is active (R479). -/
def writeActivate (w : Writer) (c : Nat) (slotB : Bool) (s : State) : State :=
  if fenced s then werrBusy w 0xB1130 s
  else s |> set Reg.UPD.ACTIVATE_COMPONENT c |> put1 Reg.UPD.ACTIVATE_SLOT slotB |> activateOp c slotB

/-- ACTIVATE (R468). -/
def execActivate (w : Writer) (c : Fin 4) (slotB : Bool) (s : State) : Host.Outcome State Fault Refusal :=
  run (reach w 0xB1130 (c.val + 4 * b2n slotB) (writeActivate w c.val slotB)) s

/-- `UPD.CTL` is written: CONFIRM before REVERT (R479), then RESTART; ACCEPT_DEFAULTS counts for a CONFIRM of the same
write (R476). (log entries 14, 52: DEDUCED). -/
def writeUpdCtl (w : Writer) (bits : Nat) (s : State) : State :=
  if fenced s then werrBusy w 0xB1134 s
  else
    s |> when (bitOf bits 0) (confirmOp (bitOf bits 1)) |> when (bitOf bits 2) revertOp
      |> when (bitOf bits 3) (request .chipReset)

/-- CONFIRM (R472). -/
def execConfirm (w : Writer) (withAccept : Bool) (s : State) : Host.Outcome State Fault Refusal :=
  run (reach w 0xB1134 (1 + 2 * b2n withAccept) (writeUpdCtl w (1 + 2 * b2n withAccept))) s

/-- ACCEPT_DEFAULTS (R476). (log entry 52: DEDUCED). -/
def execAcceptDefaults (w : Writer) (s : State) : Host.Outcome State Fault Refusal :=
  run (reach w 0xB1134 2 (writeUpdCtl w 2)) s

/-- REVERT (R474). -/
def execRevert (w : Writer) (s : State) : Host.Outcome State Fault Refusal :=
  run (reach w 0xB1134 4 (writeUpdCtl w 4)) s

/-- RESTART (R470). -/
def execRestart (w : Writer) (s : State) : Host.Outcome State Fault Refusal :=
  run (reach w 0xB1134 8 (writeUpdCtl w 8)) s

/-- The conditions of R473. -/
def autoConfirms (s : State) : Bool :=
  isSet Reg.UPD.CFG_AUTO_EN s && s.pwr.firmware && !fenced s &&
  !(pendingOf s).isEmpty && pendingSet s == s.upd.running &&
  decide (get Reg.UPD.CFG_AUTO_FRAMES s ≤ s.upd.bootFrames) && s.upd.okSeen && !dangerSticky s &&
  !isSet Reg.UPD.STS_SETTINGS_DEFAULTED s

/-- AUTO_CONFIRM (R473). -/
def execAutoConfirm (s : State) : Host.Outcome State Fault Refusal :=
  run (fun s => if autoConfirms s then confirmNow s else s) s

/-- The valid records of the settings store. -/
def recordsHeld (s : State) : Nat := s.upd.held.foldl (fun n h => n + h.2.length) s.upd.settings.length

/-- Every valid record has gone to the other area, and the old area is erased (R477). (log entry 81: DEDUCED). -/
def compacted (s : State) : State :=
  if !s.upd.compacting || fenced s then s
  else
    { s with upd := { s.upd with compacting := false, appended := recordsHeld s, area := 1 - s.upd.area,
                                 areaSeq := s.upd.areaSeq + 1 } } |> setShow |> event 0xB2 0

/-- SETTINGS_COMPACTION (R477). -/
def execSettingsCompaction (s : State) : Host.Outcome State Fault Refusal := run compacted s

end Sys2Proof.Machine
end

