-- ==== Sys2Proof/Machine/RegWrite.lean ====
section
/-! DEFINITION. Register writes over the bus (R67 to R72, R77 to R79, R86, R505): a write is applied register by
register and field by field. A register with an action of its own goes to the operation of its command. -/

namespace Sys2Proof.Machine

/-! ### Values that a field takes (R505 and the registers' own rows) -/

/-- The minimum shares of task n (R61). -/
def minShare (nand : Bool) (n : Nat) : Nat :=
  if nand then (if n = 6 then 64 else if n = 8 then 16 else 0)
  else (if n = 6 then 8 else if n = 0 || n = 1 || n = 2 || n = 5 then 1 else 0)

/-- A budget share may take a value (R61, R74). (log entry 11: DEDUCED). -/
def shareOk (n : Nat) (f : Fld) (v : Nat) (s : State) : Bool :=
  let nand := f.lo != 0
  decide (n < 10) && decide (minShare nand n ≤ v) && decide (shareSum nand s - shown (shareFld nand n) s + v ≤ 1024)

/-- A power-up order honours the DEP masks: every rail's dependencies come before it (R381). (log entry 11: DEDUCED). -/
def orderOk (order : List Nat) (dep : Nat → Nat) : Bool :=
  (order.foldl (fun (a : Nat × Bool) r => (Nat.lor a.1 (2 ^ r), a.2 && Nat.land (dep r) a.1 == dep r)) (0, true)).2

/-- The rails in power-up order, with step `k` as `v` writes it. -/
def upOrder (k : Option Nat) (v : Nat) (s : State) : List Nat :=
  (List.range 16).filterMap (fun j =>
    if k = some j then
      (if bitOf v 7 then some (if bitsOf v 0 4 < 12 then bitsOf v 0 4 else get (Reg.PWR.SEQ_RAIL j) s) else none)
    else if isSet (Reg.PWR.SEQ_VALID j) s then some (get (Reg.PWR.SEQ_RAIL j) s) else none)

/-- A rank may be designated as spare m: present, and used by no region. -/
def spareOk (m ch rank : Nat) (s : State) : Bool :=
  get (Reg.SPR.RANK_STATE (4 * ch + rank)) s != 0 &&
  !(regions s).any (fun r => (regionRanks r.2).contains (ch, rank)) &&
  !(List.range 8).any (fun k => k != m && isSet (Reg.SPR.SPARE_VALID k) s &&
      get (Reg.SPR.SPARE_CH k) s == ch && get (Reg.SPR.SPARE_RANK k) s == rank)

/-- Temperatures rise strictly (R255). -/
def tempsRise : List Int → Bool
  | a :: b :: t => a < b && tempsRise (b :: t)
  | _ => true

/-- The temperatures of a table with point `k` as written. -/
def tempsWith (f : Nat → Fld) (k v : Nat) (s : State) : List Int :=
  (List.range 8).map (fun j => signedOf 8 (if j = k then v else shown (f j) s))

/-- What a value must meet beyond its own range: `x` is the field's value, `v` the whole word written.
(log entry 11: DEDUCED). -/
def crossOk (f : Fld) (x v : Nat) (s : State) : Bool :=
  let p := f.addr / 4096
  let o := f.addr % 4096
  if p = 1 && 0x120 ≤ o && o < 0x160 then shareOk ((o - 0x120) / 4) f x s
  else if 8 ≤ p && p < 0xC && o = 0x11C then
    decide (bitsOf v 0 7 + bitsOf v 8 8 ≤ 128) ||
    (f.lo = 0 && decide (x + shown (Reg.HPT.VEC_SEL_COUNT (p - 8)) s ≤ 128))
  else if f.key = Reg.DMC.CFG_RATE.key then x % 4 == 0 && (decide (x ≤ 88) || decide (s.pwr.ranks ≤ 2))
  else if 0x20 ≤ p && p < 0x30 && o = 0x104 then
    decide (bitsOf v 8 7 < bitsOf v 0 7) && decide (bitsOf v 0 7 ≤ 96) &&
    decide (4 ≤ bitsOf v 16 6) && decide (bitsOf v 16 6 ≤ bitsOf v 24 6)
  else if 0x20 ≤ p && p < 0x30 && o = 0x110 then decide (trfcDefault s ≤ x)
  else if p = 0x11 && 0x130 ≤ o && o < 0x150 then
    !bitOf v 7 || spareOk ((o - 0x130) / 4) (bitsOf v 0 4) (bitsOf v 4 2) s
  else if p = 0x44 && o = 0x100 then
    let fits := fun (base size : Nat) => size == 0 || decide (base + size ≤ get Reg.SYS.CAP_ACK_EXPOSED_GIB s)
    let size := if bitsOf v 0 5 ≤ 16 then bitsOf v 0 5 else get Reg.TXN.UNDO_CFG_SIZE_GIB s
    fits (bitsOf v 16 11) size || (f.lo = 0 && fits (get Reg.TXN.UNDO_CFG_BASE_GIB s) x)
  else if p = 0x40 && o = 0x100 then decide (exposedBytes s / granBytesOf x ≤ 16777216)
  else if p = 0x41 && o = 0x11C then decide (x < shown Reg.LEH.WM_HI_PCT s)
  else if p = 0x41 && o = 0x120 then decide (shown Reg.LEH.WM_LO_PCT s < x)
  else if p = 0x80 && 0x140 ≤ o && o < 0x160 && f.lo = 0 then
    tempsRise (tempsWith Reg.ENG.TC_CAP_TEMP ((o - 0x140) / 4) x s)
  else if p = 0x80 && 0x160 ≤ o && o < 0x180 && f.lo = 0 then
    tempsRise (tempsWith Reg.ENG.TC_BAT_TEMP ((o - 0x160) / 4) x s)
  else if p = 0x80 && o = 0x184 then
    decide (bitsOf v 16 16 < bitsOf v 0 16) || (f.lo = 0 && decide (get Reg.ENG.CAP_V_V_MIN_MV s < x))
  else if f.key = Reg.PWR.UV_VCAP_MV.key then decide (x < get Reg.ENG.CAP_V_V_MIN_MV s)
  else if f.key = Reg.PWR.UV_VBAT_MV.key then decide (x < get Reg.ENG.BAT_CFG_CUTOFF_MV s)
  else if p = 0x81 && 0x100 ≤ o && o < 0x140 then
    orderOk (upOrder (some ((o - 0x100) / 4)) v s) (fun r => get (Reg.PWR.RAIL_CFG_DEP r) s)
  else if p = 0x81 && 0x140 ≤ o && o < 0x170 then
    orderOk (upOrder none v s) (fun r =>
      if r = (o - 0x140) / 4 then bitsOf v 16 12 else get (Reg.PWR.RAIL_CFG_DEP r) s)
  else if 0xA0 ≤ p && p < 0xA4 && o = 0x128 then decide (f.lo = 16) || decide (bitsOf v 0 7 < bitsOf v 8 7)
  else true

/-- A field may take a value. (log entry 11: DEDUCED). -/
def valueOk (d : FDef) (x v : Nat) (s : State) : Bool := inRange d.min d.max x && crossOk d.f x v s

/-! ### What follows from a value -/

/-- A designated spare is held free, and the rank no longer designated serves its own place again (R169, R170).
(log entry 15: DEDUCED). -/
def sparesFollow (s : State) : State :=
  s |> forEach (List.range 64) (fun i s =>
        let st := get (Reg.SPR.RANK_STATE i) s
        if st = 1 || st = 2 then set (Reg.SPR.RANK_STATE i) (rankAtBoot i s) s else s)
    |> ranksShow |> (fun s => set Reg.SYS.CAPS_SPARE_RANKS (designatedSpares s).length s)
    |> when (isSet Reg.SPR.CFG_AUTO_MIGRATE s) (forEach (List.range 64) (fun i s =>
        if isSet (Reg.SPR.RANK_MARGINAL i) s && !(freeSpares s).isEmpty then retireRank i s else s))

/-- The undo region, or a spill region, has moved: its granules are counted and sealed no more (R181, R434). -/
def regionsFollow (s : State) : State :=
  forEach ((s.mrv.entries.filter (fun e => e.2.state != .clean && !entryInUse e.1 s)).map (·.1)) (fun g s =>
    let s := abandonSeal g s
    putEntry g { entryOf g s with state := .clean } s) s

/-- A field that was written takes effect at once. (log entry 14: DEDUCED). -/
def fieldTaken (d : FDef) (x : Nat) (s : State) : State :=
  let p := d.f.addr / 4096
  let o := d.f.addr % 4096
  s |> when (d.stored || mapField d.f.key) (storeSetting d.f x)
    |> followField d.f
    |> (fun s =>
      if p = 0x11 && 0x130 ≤ o && o < 0x150 then sparesFollow s
      else if p = 0x44 && o = 0x100 then s |> pairMax |> regionsFollow
      else if 0xA0 ≤ p && p < 0xA4 && (o = 0x104 || (o = 0x100 && d.f.lo = 0)) then
        s |> regionsFollow |> queueCredits (p - 0xA0) |> queueShow (p - 0xA0)
      else if d.f.key = Reg.CUL.INDEX_INDEX.key then culletShow s
      else if d.f.key = Reg.RSR.CONTINUITY_INDEX.key then continuityShow s
      else if d.f.key = Reg.TRN.TABLE_IDX_INDEX.key then tableShow s
      else if d.f.key = Reg.DMC.XLATE_LO_ADDR.key then set Reg.DMC.XLATE_RES_VALID 0 s
      else s)

/-- A write of one field under its class (R67 to R72, R505): `x` is its value, `v` the whole word.
(log entries 9, 10: DEDUCED). -/
def writeField (w : Writer) (d : FDef) (v phase : Nat) (s : State) : State :=
  let x := bitsOf v d.f.lo d.f.w
  let ok := valueOk d x v s
  match d.acc, d.cls with
  | .rw, .s => writeStatic w d.f x ok (fieldTaken d x) s
  | .rw, .f =>
    s |> writeShadowed w d.f x phase ok
      |> (fun t => if isSet (Reg.BLKCTL_ENABLE (d.f.addr / 4096)) s || get d.f t = get d.f s then t else fieldTaken d x t)
      |> when (d.f.addr / 4096 == 1) sumShow
  | .rw, _ => if ok then s |> set d.f x |> fieldTaken d x else werrRange w d.f.addr s
  | .w1c, _ => set d.f (get d.f s - Nat.land (get d.f s) x) s
  | _, _ => s

/-- The fields of a register, lowest bit first. (log entry 26: DEDUCED). -/
def fieldsAt (addr : Nat) : List FDef := (pageFields (addr / 4096)).filter (fun d => d.f.addr == addr)

/-- A register without an action of its own is written field by field (R71). -/
def writeFields (w : Writer) (addr v phase : Nat) (s : State) : State :=
  forEach (fieldsAt addr) (fun d => writeField w d v phase) s

/-! ### The common header (R83) -/

/-- BLKCTL: ENABLE, ABORT, RESET, FREEZE, COMMIT_SHADOW. -/
def writeBlkctl (w : Writer) (p v : Nat) (s : State) : State :=
  s |> writeEnable w p (bitOf v 0) |> when (bitOf v 1) (writeAbort w p false) |> when (bitOf v 2) (writeAbort w p true)
    |> (fun s => if isSet (Reg.BLKCTL_FREEZE p) s == bitOf v 3 then s else writeFreeze w p (bitOf v 3) s)
    |> when (bitOf v 8) (writeCommitShadow p)

/-- A write of a page's common header (R83). -/
def writeHeader (w : Writer) (p o v phase : Nat) (s : State) : State :=
  if o = 0xC then writeBlkctl w p v s
  else if o = 0x2C then when (bitOf v 0) (writeLock p) s
  else if o = 0x30 then writeFinj w p v s
  else writeFields w (p * 4096 + o) v phase s

/-! ### Registers with an action of their own -/

/-- Actions started by writing 1, in ascending bit order. -/
def writeBits (v : Nat) (l : List (State → State)) (s : State) : State :=
  ((List.range l.length).zip l).foldl (fun t e => when (bitOf v e.1) e.2 t) s

/-- `FLS.SRC_CFG` (R403, R425): a change of SEV loads the preset of ACT. -/
def writeSource (w : Writer) (n v phase : Nat) (s : State) : State :=
  let sevF := Reg.FLS.SRC_CFG_SEV n
  let actF := Reg.FLS.SRC_CFG_ACT n
  let sev := bitsOf v 0 3
  let ok := decide (srcMin n ≤ sev) && decide (sev ≤ 4)
  if srcReserved n then werrRange w sevF.addr s
  else if sev ≠ shown sevF s ∧ ok ∧ !isSet (Reg.LOCK_LOCK (sevF.addr / 4096)) s then
    s |> writeShadowed w sevF sev phase true |> writeShadowed w actF (actPreset sev) phase true
  else s |> writeShadowed w sevF sev phase ok |> writeShadowed w actF (bitsOf v 4 6) phase true

/-- `CAR.BLKQ_IDX`: the block's flags are shown (R454, R457, R459). (log entry 16: DEDUCED). -/
def writeBlockQuery (v : Nat) (s : State) : State :=
  let b := 256 * bitsOf v 8 1 + bitsOf v 0 8
  s |> set Reg.CAR.BLKQ_IDX_BLOCK (bitsOf v 0 8) |> set Reg.CAR.BLKQ_IDX_BANK (bitsOf v 8 1)
    |> put1 Reg.CAR.BLKQ_TALLY (isTally b s) |> put1 Reg.CAR.BLKQ_PROTECTED (isProtected b s)
    |> put1 Reg.CAR.BLKQ_ERASE_INCOMPLETE (s.car.eraseIncomplete.contains b)
    |> put1 Reg.CAR.BLKQ_UNRELIABLE (s.car.unreliable.contains b)
    |> put1 Reg.CAR.BLKQ_REMAPPED ((remapOf b s).isSome && !badNoSpare b s)
    |> set Reg.CAR.BLKQ_SPARE ((remapOf b s).getD 0)
    |> put1 Reg.CAR.BLKQ_BAD_NO_SPARE (badNoSpare b s) |> set Reg.CAR.BLKQ_VALID 1

/-- `PDM.DOM_CTL[d]` (R394). -/
def writeDomCtl (w : Writer) (d v phase : Nat) (s : State) : State :=
  s |> requestDomainSwitch w d (bitsOf v 0 2) phase
    |> writeStatic w (Reg.PDM.DOM_CTL_REACT d) (bitsOf v 2 2) true id

/-- `DOM.FORCE` (R374). -/
def writeForce (v : Nat) (s : State) : State :=
  if bitOf v 7 then forceOutcome (bitsOf v 0 6) (bitOf v 6) s
  else s |> set Reg.DOM.FORCE_CTX (bitsOf v 0 6) |> put1 Reg.DOM.FORCE_OUTCOME (bitOf v 6)

/-- SYS, FRM, IRQ. -/
def writeHub (w : Writer) (addr v phase : Nat) (s : State) : State :=
  let p := addr / 4096
  let o := addr % 4096
  if addr = 0x14C then when (bitOf v 0) ackCapacity s
  else if addr = 0x10C then writeMgmtPort w (bitsOf v 0 2) s
  else if addr = 0x110C then writeSrcMode w (bitsOf v 0 2) s
  else if p = 1 && 0x148 ≤ o && o < 0x160 then werrRange w addr s
  else if addr = 0x311C then writeFind (bitsOf v 0 7) (bitsOf v 8 12) s
  else writeFields w addr v phase s

/-- DMC, TXN, TXC, MRV. -/
def writeImage (w : Writer) (addr v phase : Nat) (s : State) : State :=
  let p := addr / 4096
  let o := addr % 4096
  if addr = 0x101A8 then writePasr w (bitsOf v 0 8) s
  else if addr = 0x101B4 then writeXlate (bitsOf v 0 2) s
  else if addr = 0x44108 then requestCommit (bitsOf v 0 6) phase s
  else if addr = 0x4012C then writePeek (bitsOf v 0 25) s
  else if 0x45 ≤ p && p < 0x49 && 0x100 ≤ o && o < 0x140 then
    let g := 16 * (p - 0x45) + (o - 0x100) / 4
    writeBits v [openCtx g, abortCtx g] s
  else if 0x45 ≤ p && p < 0x49 && 0x140 ≤ o && o < 0x180 then
    writeTag w (16 * (p - 0x45) + (o - 0x140) / 4) (bitsOf v 0 22) (bitsOf v 22 10) s
  else writeFields w addr v phase s

/-- ENG, PDM, FLT, FLS, SAF. -/
def writeAlwaysOn (w : Writer) (addr v phase : Nat) (s : State) : State :=
  let p := addr / 4096
  let o := addr % 4096
  if addr = 0x801AC then writeBits v [startExercise, stopExercise] s
  else if addr = 0x801B0 then writeBits v [resetLearned] s
  else if p = 0x82 && 0x100 ≤ o && o < 0x1D0 then writeDomCtl w ((o - 0x100) / 4) v phase s
  else if addr = 0x90124 then writeBits v [rearmLatch] s
  else if addr = 0x90128 then writeLevel w (bitsOf v 0 1) s
  else if 0x91 ≤ p && p < 0x97 && 0x100 ≤ o && o < 0x200 then writeSource w (64 * (p - 0x91) + (o - 0x100) / 4) v phase s
  else if 0x91 ≤ p && p < 0x97 && (o = 0x200 || o = 0x204) then clearSticky (p - 0x91) (o == 0x204) v s
  else if addr = 0x97100 then writeKey w (bitsOf v 0 16) s
  else if addr = 0x97108 then writeBits v [enterRequest w, exitRequest w] s
  else writeFields w addr v phase s

/-- SAV, GQ, CAR, UPD, TWN, DOM. -/
def writeRest (w : Writer) (addr v phase : Nat) (s : State) : State :=
  let p := addr / 4096
  let o := addr % 4096
  if addr = 0x42138 then writeBits v [resume w] s
  else if 0xA0 ≤ p && p < 0xA4 && o = 0x108 then
    let q := p - 0xA0
    writeBits v [opRead q, opMark q, opRewind q, opRelease q, flushPacking q] s
  else if 0xA0 ≤ p && p < 0xA4 && o = 0x13C && p ≠ 0xA1 then s
  else if addr = 0xB0110 then writeBlockQuery v s
  else if p = 0xB1 && fenced s then werrBusy w addr s
  else if addr = 0xB1130 then writeActivate w (bitsOf v 0 2) (bitOf v 2) s
  else if addr = 0xB1134 then writeUpdCtl w (bitsOf v 0 4) s
  else if addr = 0xC1108 then
    writeBits v [pairTwin, unpairTwin w, detachTwin, reattachTwin, twinHasFailed, promoteTwin, demoteTwin w] s
  else if addr = 0xD1108 then writeForce v s
  else writeFields w addr v phase s

/-- A write of one register of a page that is reached (R71, R79). -/
def writeRegister (w : Writer) (addr v phase : Nat) (s : State) : State :=
  let p := addr / 4096
  let o := addr % 4096
  if o < 0x100 then writeHeader w p o v phase s
  else if isPool p o then when (bitOf v 29) (setPool addr (fun q => { q with stallSeen := false })) s
  else if p < 4 then writeHub w addr v phase s
  else if p = 0xC && (o = 0x118 || o = 0x11C) then werrRange w addr s
  else if p = 0x10 || p = 0x40 || (0x44 ≤ p && p < 0x49) then writeImage w addr v phase s
  else if 0x80 ≤ p && p < 0xA0 then writeAlwaysOn w addr v phase s
  else writeRest w addr v phase s

/-! ### The bus (R77, R78, R79, R86) -/

/-- A write over the bus (R78): all four bytes of a register, or all eight of two adjacent ones from a multiple of 8, each
register past R77 and R86 by itself; any other write is discarded whole, with one error. (log entry 13: DEDUCED). -/
def busWrite (w : Writer) (off : Nat) (eight : Bool) (be data phase : Nat) (s : State) : State :=
  let all := if eight then 255 else 15
  let one := fun (addr v : Nat) => reach w addr v (writeRegister w addr v phase)
  if off % (if eight then 8 else 4) ≠ 0 ∨ be % (all + 1) ≠ all then reach w off (data % 2 ^ 32) (werrRange w off) s
  else s |> one off (data % 2 ^ 32) |> when eight (one (off + 4) (data / 2 ^ 32))

/-- REGISTER_WRITE (R71). -/
def execRegisterWrite (w : Writer) (off : BitVec 24) (eight : Bool) (be : BitVec 8) (data : BitVec 64) (phase : Nat)
    (s : State) : Host.Outcome State Fault Refusal :=
  run (busWrite w off.toNat eight be.toNat data.toNat phase) s

end Sys2Proof.Machine
end

