-- ==== Sys2Proof/Machine/RegRead.lean ====
section
/-! DEFINITION. Register reads (R76 to R79, R83, R86) and the Gather read windows (R437): the word of a register, the
effects of reading it, and the commands that are reads. -/

namespace Sys2Proof.Machine


/-- `BLKCAP` of a page (R1, R83). -/
def blkcap (p : Nat) (s : State) : Nat :=
  if p = 2 then
    (List.range 12).foldl (fun a k => a + b2n ((pllDomains k).any (fun d => domainPresent d s)) * 2 ^ k) 0
  else if 8 ≤ p && p < 0xC then b2n (bitOf (get Reg.SYS.CAPS_HP_X16 s) (p - 8)) + 2
  else if p = 0x10 then get Reg.SYS.CAPS_DRAM_GROUPS s
  else if 0x20 ≤ p && p < 0x30 then
    (2 ^ s.pwr.ranks - 1) + 16 * get Reg.DMC.CFG_X8 s + 32 * get Reg.DMC.CFG_DENSITY s
  else if p = 0x11 then (designatedSpares s).length
  else if p = 0x44 then 64
  else if 0x45 ≤ p && p < 0x49 then 1
  else if p = 0x50 then get Reg.SYS.CAPS_NAND_GROUPS s
  else if 0x60 ≤ p && p < 0x80 then 2 ^ diesPerChannel s - 1
  else if p = 0x40 then 3
  else if p = 0x80 then b2n s.pwr.ntcFitted + 2 * get Reg.SYS.CAPS_BATTERY s
  else if p = 0xC0 || p = 0xD0 then 1
  else if p = 0xA2 then 1
  else if p = 0xB0 then (8 - get Reg.CAR.SPARES_USED0 s) + 16 * (8 - get Reg.CAR.SPARES_USED1 s)
  else 0

/-- `BLKSTS` of a page. (log entry 97: DESIGN CHOICE). -/
def blksts (p : Nat) (s : State) : Nat :=
  let lit := !pageDark p s
  b2n (pageReady p s) + 2 * b2n (lit && pageBusy p s) + 4 * b2n (lit && isSet (Reg.BLKSTS_ABORTING p) s) +
  8 * b2n (lit && isSet (Reg.BLKSTS_ABORT_DONE p) s) +
  16 * b2n (lit && (pageSources p).any (fun n => isSet (Reg.FLS.STICKY n) s)) +
  32 * b2n lit + 64 * b2n (lit && s.shadows.any (fun h => h.f.addr / 4096 == p)) +
  128 * b2n (!pagePresent p s) + 256 * b2n (lit && isSet (Reg.BLKSTS_FROZEN p) s)

/-- The level of a vector (R100). -/
def vectorLevel (v : Nat) (s : State) : Bool :=
  (assertedEvents s).any (fun e => !pageDark e.1 s && get (Reg.EVT_ROUTE_VECTOR e.1) s == v &&
    isSet (Reg.EVT_ROUTE_TO_HOST e.1) s)

/-- `FLT.SUMMARY`. -/
def faultSummary (s : State) : Nat :=
  let l := (List.range 384).filter (fun n => isSet (Reg.FLS.STICKY n) s)
  ([0, 1, 2, 3, 4, 5] : List Nat).foldl (fun a k => a + b2n (l.any (fun n => n / 64 == k)) * 2 ^ k) 0 +
  (l.foldl (fun a n => max a (get (Reg.FLS.SRC_CFG_SEV n) s)) 0) * 256 + b2n (!l.isEmpty) * 2048

/-- `SAF.STS` (R415, R428). -/
def safeStatus (s : State) : Nat :=
  get Reg.SAF.STS_SAFE s + 2 * b2n (sealPathOk s) + 4 * get Reg.SAF.STS_LOCKSTEP_OK s +
  8 * get Reg.SAF.STS_CAUSE s + 256 * get Reg.SAF.STS_SOURCE s

/-- A pool's register (R44): AVAIL, SIZE, RSV, EMPTY and the sticky bits. (log entry 97: DESIGN CHOICE). -/
def poolWord (a : Nat) (s : State) : Nat :=
  let q := poolOf a s
  poolAvail a s + 2 ^ 12 * poolSize a + 2 ^ 24 * poolReserve a + 2 ^ 28 * b2n (decide (poolAvail a s ≤ poolReserve a)) +
    2 ^ 29 * b2n q.stallSeen + 2 ^ 30 * b2n q.consErr

/-- The events of a page whose condition stands in the state, with their present level (R83); the levels of the LEH and
GQn pages are kept in their registers, and an event that is an instant has no level. (log entry 113: DEDUCED). -/
def eventLevels (p : Nat) (s : State) : List (Nat × Bool) :=
  if p = 1 then
    [(0, (List.range 16).any (fun k => decide (8 < get (Reg.FRM.OVERRUN_WINDOW k) s))), (1, get Reg.FRM.SRC_STATE s == 3),
     (2, get Reg.FRM.SRC_STATE s == 2)]
  else if p = 2 then [(0, !s.pwr.relocking.isEmpty)]
  else if 8 ≤ p && p < 0xC then [(0, get (Reg.HPT.LINK_WIDTH (p - 8)) s == 0)]
  else if p = 0x11 then
    [(0, (List.range 64).any (fun i => isSet (Reg.SPR.RANK_MARGINAL i) s)),
     (4, (List.range 64).any (fun i => get (Reg.SPR.RANK_STATE i) s == 3))]
  else if 0x20 ≤ p && p < 0x30 then
    [(0, isSet (Reg.DCH.STS_HOT (p - 0x20)) s), (3, poolFull (p - 0x20) 0 s || poolFull (p - 0x20) 1 s)]
  else if p = 0x42 then [(1, savState s == 4), (2, savState s == 9), (4, savState s == 7)]
  else if p = 0x44 then
    [(0, decide (65536 ≤ holdUse s) || decide (get Reg.TXN.PAIR_MAX_PAIRS s ≤ s.txn.pairs.length)),
     (2, allCtx.any (fun g => ctxState g s == 7))]
  else if p = 0x50 then
    [(0, decide (get Reg.NFC.ERASED_BLOCKS s < 2 * saveReserve s)), (1, decide (get Reg.NFC.SPARE_PERMILLE s < 50)),
     (3, (List.range 32).any (fun c => get (Reg.NCH.DIE_FAIL_DIES c) s != 0)),
     (4, (List.range 32).any (fun c => isSet (Reg.NCH.STS_FAILED c) s))]
  else if p = 0x51 then [(1, decide (65536 ≤ s.nand.cullet.length))]
  else if 0x60 ≤ p && p < 0x80 then [(0, get (Reg.NCH.DIE_FAIL_DIES (p - 0x60)) s != 0)]
  else if p = 0x80 then [(0, isSet Reg.SYS.CAPS_BATTERY s), (1, !isSet Reg.SYS.CAPS_BATTERY s)]
  else if p = 0x82 then [(0, (List.range 52).any (fun d => isSet (Reg.PDM.DOM_CTL_ACK_FAIL d) s))]
  else if p = 0x90 then [(0, isSet Reg.FLT.FIRST_ID_VALID s), (2, isSet Reg.FLT.FIRST_ID_FIRST_SELF_CLEARED s)]
  else if p = 0x97 then [(0, inSafe s)]
  else if p = 0xC0 then [(0, get Reg.PNT.LINK_WIDTH s == 0), (1, isSet Reg.PNT.LINK_DEGRADED s)]
  else if p = 0xC1 then
    [(0, get Reg.TWN.STS_STATE s == 5), (1, get Reg.TWN.STS_STATE s == 4), (2, isSet Reg.TWN.STS_CONFLICT s),
     (3, isSet Reg.TWN.STS_PROMOTED s)]
  else if p = 0xD0 then
    [(1, !s.rng.broken.isEmpty), (2, get Reg.TRN.STS_TOPO s == 2), (4, isSet Reg.TRN.STS_OVERSIZE s),
     (5, isSet Reg.TRN.STS_CIRC_ERR s)]
  else if p = 0xD1 then [(0, !isSet Reg.DOM.STS_QUORUM s)]
  else []

/-- `EVT_LIVE` of a page (R83). -/
def eventLive (p : Nat) (s : State) : Nat :=
  if p = 0x41 || (0xA0 ≤ p && p < 0xA4) then get (Reg.EVT_LIVE p) s
  else (eventLevels p s).foldl (fun a e => a + b2n e.2 * 2 ^ e.1) 0

/-- A word of a lit page. (log entry 27: PRESUMED). -/
def litWord (p o : Nat) (s : State) : Nat :=
  if o = 4 then (Config.blkRev p).toNat
  else if o = 8 then blkcap p s
  else if o = 0x20 then eventLive p s
  else if o = 0x28 then 2 + 256 * b2n (abortRefusable p) + 512 * b2n (abortException p)
  else if isPool p o then poolWord (poolAddr p o) s
  else if p = 1 && o = 0x100 then now32 s
  else if p = 1 && o = 0x108 then s.frm.phase
  else if p = 3 && 0x100 ≤ o && o < 0x110 then
    (List.range 32).foldl (fun a k => a + b2n (vectorLevel (32 * ((o - 0x100) / 4) + k) s) * 2 ^ k) 0
  else if p = 0x90 && o = 0x12C then faultSummary s
  else if p = 0x97 && o = 0x104 then safeStatus s
  else (fieldsAt (p * 4096 + o)).foldl (fun a d => if d.acc = .w1s && o ≠ 0x2C then a else a + shown d.f s * 2 ^ d.f.lo) 0

/-- The word that a read of a register returns, without the effects of reading it (R78, R79, R86).
(log entry 97: DESIGN CHOICE). -/
def readWord (addr : Nat) (s : State) : Nat :=
  let p := addr / 4096
  let o := addr % 4096 / 4 * 4
  if !pageUsed p then 0
  else if o = 0 then 1 + 256 * pageInstance p + 65536 * pageType p
  else if o = 0x10 then blksts p s
  else if pageDark p s then 0
  else litWord p o s

/-! ### Reads over the bus (R76, R78) -/

/-- The effect of reading a register, whichever of its bytes are read; a dark page has none (R78, R86): the upper half of
the frame counter (R75) and of the charge counter (R274) latches, and the first-error latch counts as read (R408). -/
def readEffect (addr : Nat) (s : State) : State :=
  if pageDark (addr / 4096) s then s
  else if addr = 0x1100 then set Reg.FRM.COUNT_HI_COUNT (now s / 2 ^ 32) s
  else if addr = 0x80114 then set Reg.ENG.QCNT_HI_NC (s.eng.counter / 2 ^ 32) s
  else if addr = 0x90100 then
    { s with flt := { s.flt with firstRead := s.flt.firstRead || isSet Reg.FLT.FIRST_ID_VALID s } }
  else s

/-- A read of `n` bytes at `off` within an aligned unit of 8 (R78): the bytes, and the state after it. Two registers are
read lower offset first, so that a latched upper half goes with its lower one. -/
def busRead (off n : Nat) (s : State) : Nat × State :=
  let base := off / 8 * 8
  let low := decide (off % 8 < 4)
  let high := decide (4 < off % 8 + n)
  let t := when low (readEffect base) s
  let word := (if low then readWord base s else 0) + (if high then 2 ^ 32 * readWord (base + 4) t else 0)
  (word / 2 ^ (8 * (off % 8)) % 2 ^ (8 * n), when high (readEffect (base + 4)) t)

/-- A read of one register sends its word (R78). (log entry 97: DESIGN CHOICE). -/
def readRegister (addr : Nat) (s : State) : State :=
  let r := busRead addr 4 s
  emit (.regData r.1) r.2

/-- FRAME_COUNT_READ (R75): anyone may read (R77). -/
def execFrameCountRead (_w : Writer) (s : State) : Host.Outcome State Fault Refusal := run (readRegister 0x1100) s

/-- QCNT_READ (R274). -/
def execQcntRead (_w : Writer) (s : State) : Host.Outcome State Fault Refusal := run (readRegister 0x80114) s

/-- FIRST_ID_READ (R408). -/
def execFirstIdRead (_w : Writer) (s : State) : Host.Outcome State Fault Refusal := run (readRegister 0x90100) s

/-! ### The Gather read windows (R76, R437) -/

/-- The wide word at RD; none while depth is 0 and while the Gather domain is off. -/
def wordAtRd (q : Nat) (s : State) : Option WideWord :=
  if queueDepth q s = 0 || !domainOn 44 s then none
  else (queue q s).held[(get (Reg.GQ.RD_SEQ q) s + 2 ^ 32 - get (Reg.GQ.RELEASED_SEQ q) s) % 2 ^ 32]?

/-- DATA: narrow word k in bytes 2k and 2k + 1, low byte first (R433). -/
def windowData (q : Nat) (s : State) : Nat :=
  match wordAtRd q s with
  | none => 0
  | some w => w.words.foldr (fun v n => v.toNat + 2 ^ 16 * n) 0

/-- HDR: VALID_BYTES, PAD, POISON, EMPTY, SEQ; an off domain shows an empty queue, and every other byte 0. -/
def windowHdr (q : Nat) (s : State) : Nat :=
  match wordAtRd q s with
  | none => 2 ^ 9 + (if domainOn 44 s then 2 ^ 16 * get (Reg.GQ.RD_SEQ q) s else 0)
  | some w => 2 * w.words.length + 2 ^ 7 * b2n w.pad + 2 ^ 8 * b2n w.poison + 2 ^ 16 * get (Reg.GQ.RD_SEQ q) s

/-- A read of `n` bytes at an offset of BAR4: DATA, HDR, and 0 in the rest of the 64 KiB window. It has no side effect.
(log entry 97: DESIGN CHOICE). -/
def windowRead (off n : Nat) (s : State) : Nat :=
  let q := off / 65536
  if q < 4 then (windowData q s + 2 ^ 512 * windowHdr q s) / 2 ^ (8 * (off % 65536)) % 2 ^ (8 * n) else 0

/-- A write to BAR4 is discarded (R437). -/
def windowWrite (_off _data : Nat) (s : State) : State := s

end Sys2Proof.Machine
end

