-- ==== Sys2Proof/Machine/TapCmds.lean ====
section
/-! DEFINITION. The commands of the test access port (R491, R502). -/

namespace Sys2Proof.Machine

/-- An instruction is in the TAP. -/
def setTap (t : TapInstr) (kind : String) (s : State) : State :=
  { s with pwr := { s.pwr with tap := t } } |> emit (.tap kind)

/-- BYPASS (R491). -/
def execBypass (s : State) : Host.Outcome State Fault Refusal := run (setTap .bypass "BYPASS") s

/-- The identification register: 0x5B16_3C2F. -/
def execIdcode (s : State) : Host.Outcome State Fault Refusal :=
  run (fun s => s |> setTap .idcode "IDCODE" |> emit (.regData 0x5B163C2F)) s

/-- SAMPLE_PRELOAD (R491). -/
def execSamplePreload (s : State) : Host.Outcome State Fault Refusal := run (setTap .samplePreload "SAMPLE_PRELOAD") s

/-- EXTEST takes the pins with `SYS.PERSIST.OK` at 0, and is refused while a fence is active. (log entry 96: DEDUCED). -/
def execExtest (s : State) : Host.Outcome State Fault Refusal :=
  run (fun s => if fenced s then s else setTap .extest "EXTEST" s) s

/-- CLAMP (R491). -/
def execClamp (s : State) : Host.Outcome State Fault Refusal := run (setTap .clamp "CLAMP") s

/-- TRST_N low: the TAP is in reset, and the device runs. (log entry 96: DEDUCED). -/
def execTapReset (s : State) : Host.Outcome State Fault Refusal :=
  run (fun s => { s with pwr := { s.pwr with tap := .idcode } }) s

end Sys2Proof.Machine
end

