-- ==== Sys2Proof/Machine/TickCmds.lean ====
section
/-! DEFINITION. FRAME_TICK (R59). -/

namespace Sys2Proof.Machine

/-- The tick (R59); while the fabric PLL relocks the units have no clock, and only the count of R98 goes on. The queries
whose frame has ended are settled (R197), and what waits in the ports is tried again (R41). -/
def execFrameTick (x : TickIn) (s : State) : Host.Outcome State Fault Refusal :=
  run (fun s => if pllWaits 0 s then relockFrames s else s |> tick x |> answersTick |> retryStalled) s

end Sys2Proof.Machine
end

