-- ==== Sys2Proof/Machine/Dispatch.lean ====
section
/-! DEFINITION. What each command does: one arm per constructor of `Instr`, each a call of its meaning. -/

namespace Sys2Proof.Machine

/-- The effect of a command on everything but the queue of waiting commands. (log entry 17: DEDUCED). -/
def exec (i : Instr) (s : State) : Host.Outcome State Fault Refusal :=
  match i with
  | .frameTick x => Sys2Proof.Machine.execFrameTick x s
  | .gatherLingerFlush q => Sys2Proof.Machine.execGatherLingerFlush q s
  | .syncMarker frame phaseErr delay => Sys2Proof.Machine.execSyncMarker frame phaseErr delay s
  | .syncLocked => Sys2Proof.Machine.execSyncLocked s
  | .syncLost => Sys2Proof.Machine.execSyncLost s
  | .frmSrcModeWrite w mode => Sys2Proof.Machine.execFrmSrcModeWrite w mode s
  | .frameCountRead w => Sys2Proof.Machine.execFrameCountRead w s
  | .registerWrite w off eight be data phase => Sys2Proof.Machine.execRegisterWrite w off eight be data phase s
  | .enable w page on => Sys2Proof.Machine.execEnable w page on s
  | .abort w page => Sys2Proof.Machine.execAbort w page s
  | .abortDone page => Sys2Proof.Machine.execAbortDone page s
  | .reset w page => Sys2Proof.Machine.execReset w page s
  | .freeze w page on => Sys2Proof.Machine.execFreeze w page on s
  | .frozen page => Sys2Proof.Machine.execFrozen page s
  | .commitShadow w page => Sys2Proof.Machine.execCommitShadow w page s
  | .lock w page => Sys2Proof.Machine.execLock w page s
  | .finjArm w page src mode => Sys2Proof.Machine.execFinjArm w page src mode s
  | .finjDisarm w page => Sys2Proof.Machine.execFinjDisarm w page s
  | .finjKeyWrite w key => Sys2Proof.Machine.execFinjKeyWrite w key s
  | .finjKeyTimeout => Sys2Proof.Machine.execFinjKeyTimeout s
  | .capAck w => Sys2Proof.Machine.execCapAck w s
  | .mgmtPortChange w port => Sys2Proof.Machine.execMgmtPortChange w port s
  | .irqFind w vector start => Sys2Proof.Machine.execIrqFind w vector start s
  | .irqFindDone => Sys2Proof.Machine.execIrqFindDone s
  | .irqHoldoffExpiry vector => Sys2Proof.Machine.execIrqHoldoffExpiry vector s
  | .pllLockLoss k => Sys2Proof.Machine.execPllLockLoss k s
  | .pllRelock k => Sys2Proof.Machine.execPllRelock k s
  | .pllRelockTimeout k => Sys2Proof.Machine.execPllRelockTimeout k s
  | .xtalCheck ppmX10 frames => Sys2Proof.Machine.execXtalCheck ppmX10 frames s
  | .frameWatchdog count => Sys2Proof.Machine.execFrameWatchdog count s
  | .memrd port addr tag ecc => Sys2Proof.Machine.execMemrd port addr tag ecc s
  | .memwr port addr data tag poison x => Sys2Proof.Machine.execMemwr port addr data tag poison x s
  | .memwrptl port addr be data tag poison x => Sys2Proof.Machine.execMemwrptl port addr be data tag poison x s
  | .meminv port addr tag => Sys2Proof.Machine.execMeminv port addr tag s
  | .cxlMemUnsupported port tag => Sys2Proof.Machine.execCxlMemUnsupported port tag s
  | .writeCompletion port tag => Sys2Proof.Machine.execWriteCompletion port tag s
  | .readCompletion port tag x => Sys2Proof.Machine.execReadCompletion port tag x s
  | .configRequest port x => Sys2Proof.Machine.execConfigRequest port x s
  | .cfgReady port => Sys2Proof.Machine.execCfgReady port s
  | .hpPerstAssert port => Sys2Proof.Machine.execHpPerstAssert port s
  | .hpPerstRelease port => Sys2Proof.Machine.execHpPerstRelease port s
  | .linkTrained port x16 gt64 up => Sys2Proof.Machine.execLinkTrained port x16 gt64 up s
  | .linkDown port => Sys2Proof.Machine.execLinkDown port s
  | .hdmCommit port decoder size ways => Sys2Proof.Machine.execHdmCommit port decoder size ways s
  | .gpfPhase1 port => Sys2Proof.Machine.execGpfPhase1 port s
  | .gpfPhase2 port => Sys2Proof.Machine.execGpfPhase2 port s
  | .viralReceived port => Sys2Proof.Machine.execViralReceived port s
  | .identify port => Sys2Proof.Machine.execIdentify port s
  | .getEventRecords port => Sys2Proof.Machine.execGetEventRecords port s
  | .clearEventRecords port => Sys2Proof.Machine.execClearEventRecords port s
  | .getEventInterruptPolicy port => Sys2Proof.Machine.execGetEventInterruptPolicy port s
  | .setEventInterruptPolicy port policy => Sys2Proof.Machine.execSetEventInterruptPolicy port policy s
  | .getFwInfo port => Sys2Proof.Machine.execGetFwInfo port s
  | .transferFw port part => Sys2Proof.Machine.execTransferFw port part s
  | .getTimestamp port => Sys2Proof.Machine.execGetTimestamp port s
  | .setTimestamp port t => Sys2Proof.Machine.execSetTimestamp port t s
  | .getSupportedLogs port => Sys2Proof.Machine.execGetSupportedLogs port s
  | .getLog port => Sys2Proof.Machine.execGetLog port s
  | .identifyMemoryDevice port => Sys2Proof.Machine.execIdentifyMemoryDevice port s
  | .getPartitionInfo port => Sys2Proof.Machine.execGetPartitionInfo port s
  | .getHealthInfo port => Sys2Proof.Machine.execGetHealthInfo port s
  | .getAlertConfiguration port => Sys2Proof.Machine.execGetAlertConfiguration port s
  | .setAlertConfiguration port cfg => Sys2Proof.Machine.execSetAlertConfiguration port cfg s
  | .getShutdownState port => Sys2Proof.Machine.execGetShutdownState port s
  | .setShutdownState port st => Sys2Proof.Machine.execSetShutdownState port st s
  | .getPoisonList port => Sys2Proof.Machine.execGetPoisonList port s
  | .injectPoison port addr => Sys2Proof.Machine.execInjectPoison port addr s
  | .clearPoison port addr data tag => Sys2Proof.Machine.execClearPoison port addr data tag s
  | .getPersistenceState port => Sys2Proof.Machine.execGetPersistenceState port s
  | .acknowledgeCapacity port => Sys2Proof.Machine.execAcknowledgeCapacity port s
  | .readContinuityRecord port => Sys2Proof.Machine.execReadContinuityRecord port s
  | .getRestoreProgress port => Sys2Proof.Machine.execGetRestoreProgress port s
  | .mailboxUnsupported port opcode => Sys2Proof.Machine.execMailboxUnsupported port opcode s
  | .dramCommandIssue ch sub bankReady actReady => Sys2Proof.Machine.execDramCommandIssue ch sub bankReady actReady s
  | .urgencyUpdate => Sys2Proof.Machine.execUrgencyUpdate s
  | .pageIdleExpiry ch sub bank => Sys2Proof.Machine.execPageIdleExpiry ch sub bank s
  | .pdTimerExpiry ch rank => Sys2Proof.Machine.execPdTimerExpiry ch rank s
  | .refreshInterval ch => Sys2Proof.Machine.execRefreshInterval ch s
  | .refreshIssue ch rfm => Sys2Proof.Machine.execRefreshIssue ch rfm s
  | .hotClear ch => Sys2Proof.Machine.execHotClear ch s
  | .writeCrcError ch sub line => Sys2Proof.Machine.execWriteCrcError ch sub line s
  | .dramReadDone line finder err => Sys2Proof.Machine.execDramReadDone line finder err s
  | .twinRepairTimeout line => Sys2Proof.Machine.execTwinRepairTimeout line s
  | .sealedCopyFetchDone line ok => Sys2Proof.Machine.execSealedCopyFetchDone line ok s
  | .ceWindowStart => Sys2Proof.Machine.execCeWindowStart s
  | .migrationCopy line err spareBad => Sys2Proof.Machine.execMigrationCopy line err spareBad s
  | .migDone => Sys2Proof.Machine.execMigDone s
  | .dramTrainingDone r => Sys2Proof.Machine.execDramTrainingDone r s
  | .retrain rank byCrc => Sys2Proof.Machine.execRetrain rank byCrc s
  | .retrainDone rank ok => Sys2Proof.Machine.execRetrainDone rank ok s
  | .pasrRequest w req => Sys2Proof.Machine.execPasrRequest w req s
  | .pasrDone g r => Sys2Proof.Machine.execPasrDone g r s
  | .xlate w hi => Sys2Proof.Machine.execXlate w hi s
  | .xlateDone => Sys2Proof.Machine.execXlateDone s
  | .ctxOpen w port c => Sys2Proof.Machine.execCtxOpen w port c s
  | .ctxAbort w port c => Sys2Proof.Machine.execCtxAbort w port c s
  | .ctxTagWrite w port c tag parts => Sys2Proof.Machine.execCtxTagWrite w port c tag parts s
  | .txnCommit w g phase => Sys2Proof.Machine.execTxnCommit w g phase s
  | .holdStallTimeout g => Sys2Proof.Machine.execHoldStallTimeout g s
  | .clearingDone g => Sys2Proof.Machine.execClearingDone g s
  | .replayLine g err => Sys2Proof.Machine.execReplayLine g err s
  | .replayDone g => Sys2Proof.Machine.execReplayDone g s
  | .ballotInsert g free phase => Sys2Proof.Machine.execBallotInsert g free phase s
  | .ballot tag parts coord frame => Sys2Proof.Machine.execBallot tag parts coord frame s
  | .tallyInsert tag coord segment => Sys2Proof.Machine.execTallyInsert tag coord segment s
  | .tally tag coord src votes segment crcOk => Sys2Proof.Machine.execTally tag coord src votes segment crcOk s
  | .tallyDeadline g => Sys2Proof.Machine.execTallyDeadline g s
  | .decision tag coord commit frame effective crcOk => Sys2Proof.Machine.execDecision tag coord commit frame effective crcOk s
  | .resolveAttempt g => Sys2Proof.Machine.execResolveAttempt g s
  | .query tag coord frame querier crcOk => Sys2Proof.Machine.execQuery tag coord frame querier crcOk s
  | .answer tag querier ans frame crcOk => Sys2Proof.Machine.execAnswer tag querier ans frame crcOk s
  | .domForce w g commit => Sys2Proof.Machine.execDomForce w g commit s
  | .lehrPick die bad ecc poison => Sys2Proof.Machine.execLehrPick die bad ecc poison s
  | .sealComplete granule => Sys2Proof.Machine.execSealComplete granule s
  | .nandProgramFail granule die => Sys2Proof.Machine.execNandProgramFail granule die s
  | .nandEraseDone at_ ok => Sys2Proof.Machine.execNandEraseDone at_ ok s
  | .nandReadDone at_ retried failed => Sys2Proof.Machine.execNandReadDone at_ retried failed s
  | .dieTimeout ch die => Sys2Proof.Machine.execDieTimeout ch die s
  | .moveDone granule => Sys2Proof.Machine.execMoveDone granule s
  | .checkpointStart => Sys2Proof.Machine.execCheckpointStart s
  | .ckptDone => Sys2Proof.Machine.execCkptDone s
  | .freeSpaceLow => Sys2Proof.Machine.execFreeSpaceLow s
  | .fullRecount => Sys2Proof.Machine.execFullRecount s
  | .fullRecountDone => Sys2Proof.Machine.execFullRecountDone s
  | .peek w index => Sys2Proof.Machine.execPeek w index s
  | .peekDone => Sys2Proof.Machine.execPeekDone s
  | .capBankDetected => Sys2Proof.Machine.execCapBankDetected s
  | .capBankTimeout => Sys2Proof.Machine.execCapBankTimeout s
  | .converterFault k why => Sys2Proof.Machine.execConverterFault k why s
  | .batIn => Sys2Proof.Machine.execBatIn s
  | .batOut => Sys2Proof.Machine.execBatOut s
  | .restDone => Sys2Proof.Machine.execRestDone s
  | .fullAnchor => Sys2Proof.Machine.execFullAnchor s
  | .emptyAnchor => Sys2Proof.Machine.execEmptyAnchor s
  | .disagree differ => Sys2Proof.Machine.execDisagree differ s
  | .chargerPoll ok cv => Sys2Proof.Machine.execChargerPoll ok cv s
  | .exerciseStart w => Sys2Proof.Machine.execExerciseStart w s
  | .exerciseStop w => Sys2Proof.Machine.execExerciseStop w s
  | .exerciseTimeout => Sys2Proof.Machine.execExerciseTimeout s
  | .learnResetDefaults w => Sys2Proof.Machine.execLearnResetDefaults w s
  | .learnRecordWrite words => Sys2Proof.Machine.execLearnRecordWrite words s
  | .capTestStart => Sys2Proof.Machine.execCapTestStart s
  | .capTestEnd v0 v1 v500 => Sys2Proof.Machine.execCapTestEnd v0 v1 v500 s
  | .qcntRead w => Sys2Proof.Machine.execQcntRead w s
  | .pfail => Sys2Proof.Machine.execPfail s
  | .vinComparatorTrip => Sys2Proof.Machine.execVinComparatorTrip s
  | .chipReset => Sys2Proof.Machine.execChipReset s
  | .drainDone => Sys2Proof.Machine.execDrainDone s
  | .drainTimeout pool => Sys2Proof.Machine.execDrainTimeout pool s
  | .presealDone => Sys2Proof.Machine.execPresealDone s
  | .rideMaxExpired => Sys2Proof.Machine.execRideMaxExpired s
  | .warmReturn => Sys2Proof.Machine.execWarmReturn s
  | .manifestProgrammed copyA copyB => Sys2Proof.Machine.execManifestProgrammed copyA copyB s
  | .resume w => Sys2Proof.Machine.execResume w s
  | .undervoltageLimit => Sys2Proof.Machine.execUndervoltageLimit s
  | .restoreStart => Sys2Proof.Machine.execRestoreStart s
  | .manifestLocated found => Sys2Proof.Machine.execManifestLocated found s
  | .manifestValidated ok => Sys2Proof.Machine.execManifestValidated ok s
  | .recoveryScanDone partialList => Sys2Proof.Machine.execRecoveryScanDone partialList s
  | .metaDone => Sys2Proof.Machine.execMetaDone s
  | .rollbackDone => Sys2Proof.Machine.execRollbackDone s
  | .doubtWaitExpired => Sys2Proof.Machine.execDoubtWaitExpired s
  | .admitted => Sys2Proof.Machine.execAdmitted s
  | .restoreGranuleDone granule ok => Sys2Proof.Machine.execRestoreGranuleDone granule ok s
  | .imageDone => Sys2Proof.Machine.execImageDone s
  | .pair w => Sys2Proof.Machine.execPair w s
  | .unpair w => Sys2Proof.Machine.execUnpair w s
  | .detach w => Sys2Proof.Machine.execDetach w s
  | .reattach w => Sys2Proof.Machine.execReattach w s
  | .twinFailed w => Sys2Proof.Machine.execTwinFailed w s
  | .promote w => Sys2Proof.Machine.execPromote w s
  | .demote w => Sys2Proof.Machine.execDemote w s
  | .heartbeat h => Sys2Proof.Machine.execHeartbeat h s
  | .twinLost => Sys2Proof.Machine.execTwinLost s
  | .fenceMessage => Sys2Proof.Machine.execFenceMessage s
  | .detachMessage => Sys2Proof.Machine.execDetachMessage s
  | .hello h => Sys2Proof.Machine.execHello h s
  | .plan outcomes => Sys2Proof.Machine.execPlan outcomes s
  | .planAck => Sys2Proof.Machine.execPlanAck s
  | .regionDone home gen => Sys2Proof.Machine.execRegionDone home gen s
  | .reconcileTimeout => Sys2Proof.Machine.execReconcileTimeout s
  | .waitBootExpired => Sys2Proof.Machine.execWaitBootExpired s
  | .prepare c domainTag => Sys2Proof.Machine.execPrepare c domainTag s
  | .prepareAck c phase => Sys2Proof.Machine.execPrepareAck c phase s
  | .commitN c => Sys2Proof.Machine.execCommitN c s
  | .abortedN c => Sys2Proof.Machine.execAbortedN c s
  | .holdFull c => Sys2Proof.Machine.execHoldFull c s
  | .sealN seq gen => Sys2Proof.Machine.execSealN seq gen s
  | .mirrorAck seq => Sys2Proof.Machine.execMirrorAck seq s
  | .mirrorWrite m => Sys2Proof.Machine.execMirrorWrite m s
  | .repairRequest line => Sys2Proof.Machine.execRepairRequest line s
  | .repairReply line data => Sys2Proof.Machine.execRepairReply line data s
  | .granuleCopy home granule image reverse => Sys2Proof.Machine.execGranuleCopy home granule image reverse s
  | .puntyRetrain => Sys2Proof.Machine.execPuntyRetrain s
  | .puntyLinkUp x32 gt64 => Sys2Proof.Machine.execPuntyLinkUp x32 gt64 s
  | .sync frame phaseErr delay partitioned quorum ring spanDelay crcOk => Sys2Proof.Machine.execSync frame phaseErr delay partitioned quorum ring spanDelay crcOk s
  | .electing => Sys2Proof.Machine.execElecting s
  | .claim id duplicate crcOk => Sys2Proof.Machine.execClaim id duplicate crcOk s
  | .elected => Sys2Proof.Machine.execElected s
  | .enum count frameMax ids ring crcOk => Sys2Proof.Machine.execEnum count frameMax ids ring crcOk s
  | .break_ index healed ring crcOk => Sys2Proof.Machine.execBreak index healed ring crcOk s
  | .spanBroken ring => Sys2Proof.Machine.execSpanBroken ring s
  | .spanHealed ring => Sys2Proof.Machine.execSpanHealed ring s
  | .leave id crcOk => Sys2Proof.Machine.execLeave id crcOk s
  | .fenceCell src frame crcOk => Sys2Proof.Machine.execFenceCell src frame crcOk s
  | .vaonPowerUp x => Sys2Proof.Machine.execVaonPowerUp x s
  | .powerOnRestart optBadA optBadB selftestOk => Sys2Proof.Machine.execPowerOnRestart optBadA optBadB selftestOk s
  | .aonReset => Sys2Proof.Machine.execAonReset s
  | .railPgDebounced r => Sys2Proof.Machine.execRailPgDebounced r s
  | .railStepTimeout r chatter => Sys2Proof.Machine.execRailStepTimeout r chatter s
  | .backoffExpired r => Sys2Proof.Machine.execBackoffExpired r s
  | .bootAttemptRetry => Sys2Proof.Machine.execBootAttemptRetry s
  | .railLoss r => Sys2Proof.Machine.execRailLoss r s
  | .railDischarged r => Sys2Proof.Machine.execRailDischarged r s
  | .disTimeout r => Sys2Proof.Machine.execDisTimeout r s
  | .depCut r => Sys2Proof.Machine.execDepCut r s
  | .domainRequest w d req phase => Sys2Proof.Machine.execDomainRequest w d req phase s
  | .domainSwitchAck d => Sys2Proof.Machine.execDomainSwitchAck d s
  | .ackFail d => Sys2Proof.Machine.execAckFail d s
  | .faultRaise n reason instance_ snap2 snap3 held phase => Sys2Proof.Machine.execFaultRaise n reason instance_ snap2 snap3 held phase s
  | .sourceLiveClear n => Sys2Proof.Machine.execSourceLiveClear n s
  | .firstIdRead w => Sys2Proof.Machine.execFirstIdRead w s
  | .stickyClear w page high mask => Sys2Proof.Machine.execStickyClear w page high mask s
  | .rearm w => Sys2Proof.Machine.execRearm w s
  | .errPulseEnd => Sys2Proof.Machine.execErrPulseEnd s
  | .errPinRelease w => Sys2Proof.Machine.execErrPinRelease w s
  | .collectorSelfFault check => Sys2Proof.Machine.execCollectorSelfFault check s
  | .safeEnter w => Sys2Proof.Machine.execSafeEnter w s
  | .safeExit w => Sys2Proof.Machine.execSafeExit w s
  | .selftestLate => Sys2Proof.Machine.execSelftestLate s
  | .aonSelftest failed => Sys2Proof.Machine.execAonSelftest failed s
  | .pinReadbackFault errOut intended => Sys2Proof.Machine.execPinReadbackFault errOut intended s
  | .saveTriggerCrosscheck => Sys2Proof.Machine.execSaveTriggerCrosscheck s
  | .gatherPush q p type payload => Sys2Proof.Machine.execGatherPush q p type payload s
  | .read w q => Sys2Proof.Machine.execRead w q s
  | .mark w q => Sys2Proof.Machine.execMark w q s
  | .rewind w q => Sys2Proof.Machine.execRewind w q s
  | .release w q => Sys2Proof.Machine.execRelease w q s
  | .flush w q => Sys2Proof.Machine.execFlush w q s
  | .program ws => Sys2Proof.Machine.execProgram ws s
  | .erase ws => Sys2Proof.Machine.execErase ws s
  | .suspend x => Sys2Proof.Machine.execSuspend x s
  | .resumeOperation x => Sys2Proof.Machine.execResumeOperation x s
  | .readStatus ws => Sys2Proof.Machine.execReadStatus ws s
  | .clearStatus ws => Sys2Proof.Machine.execClearStatus ws s
  | .readArray ws => Sys2Proof.Machine.execReadArray ws s
  | .readId ws => Sys2Proof.Machine.execReadId ws s
  | .optionProgram ws => Sys2Proof.Machine.execOptionProgram ws s
  | .opDone bank ok => Sys2Proof.Machine.execOpDone bank ok s
  | .arrayRead w off bitErrors => Sys2Proof.Machine.execArrayRead w off bitErrors s
  | .fetchTrap bank addr => Sys2Proof.Machine.execFetchTrap bank addr s
  | .activate w c slotB => Sys2Proof.Machine.execActivate w c slotB s
  | .confirm w withAccept => Sys2Proof.Machine.execConfirm w withAccept s
  | .acceptDefaults w => Sys2Proof.Machine.execAcceptDefaults w s
  | .revert w => Sys2Proof.Machine.execRevert w s
  | .restart w => Sys2Proof.Machine.execRestart w s
  | .autoConfirm => Sys2Proof.Machine.execAutoConfirm s
  | .settingsCompaction => Sys2Proof.Machine.execSettingsCompaction s
  | .bypass => Sys2Proof.Machine.execBypass s
  | .idcode => Sys2Proof.Machine.execIdcode s
  | .samplePreload => Sys2Proof.Machine.execSamplePreload s
  | .extest => Sys2Proof.Machine.execExtest s
  | .clamp => Sys2Proof.Machine.execClamp s
  | .tapReset => Sys2Proof.Machine.execTapReset s
  | .pllLocked k => Sys2Proof.Machine.execPllLocked k s
  | .nandInterfaceTrainingDone ch ok => Sys2Proof.Machine.execNandInterfaceTrainingDone ch ok s
  | .recordProgrammed kind => Sys2Proof.Machine.execRecordProgrammed kind s

end Sys2Proof.Machine
end

