-- ==== Sys2Proof/Safety.lean ====
section
/-! DEFINITION. The terms in which claims about the controller are made: when a command finds the controller ready, that a
command completes, what it leaves as it was, what a raise may change, and the invariants. -/

namespace Sys2Proof.Machine

/-- VAON is present, and no reaction of an earlier command is open (every command ends with none, R404). -/
abbrev Ready (s : State) : Prop := s.pwr.vaon = true ∧ s.reqs = []

/-- A write of `data` by `w` reaches the register at `addr`: the writer may write it (R77), and its page is not dark (R79,
R86). -/
abbrev Reaches (w : Writer) (addr data : Nat) (s : State) : Prop :=
  mayWrite w addr data s = true ∧ pageDark (addr / 4096) s = false

/-- The command has a next state, and `P` holds of it. -/
def Completes (c : Instr) (s : State) (P : State → Prop) : Prop := ∃ t, exec c s = .next t ∧ P t

/-! ### Frames -/

/-- The parts of the state beside the register file. -/
inductive Part where
  | shadows | pools | frm | hp | dram | mrv | txn | nand | sav | eng | rsr | twn | rng | pwr | flt | gq | car | upd
  deriving DecidableEq, Repr

/-- The keys of the fields that the end of every command keeps up to date: `SYS.PERSIST` and its record (R16, R17),
`DOM.STS.DOMAIN_OK` (R367), `SAF.WDRAW_MAX`, what the Lehr shows of the dirty count (R245), what GQ2 shows of the record of
a change (R441), and the counts of messages (R119). -/
def settleKeys : List Nat :=
  ([Reg.SYS.PERSIST_OK, Reg.SYS.PERSIST_CHG_FRAME, Reg.SYS.PERSIST_WDRAW_COUNT, Reg.SYS.PERSIST_WDRAW_LAST_REASONS,
    Reg.SYS.PERSIST_DOMAIN_OK, Reg.DOM.STS_DOMAIN_OK, Reg.SAF.WDRAW_MAX_NS, Reg.LEH.DIRTY_EFF_GRAN,
    Reg.LEH.THROTTLE_ACTIVE, Reg.LEH.THROTTLE_WITHHELD, Reg.LEH.WM_CROSSINGS_LO, Reg.LEH.WM_CROSSINGS_HI,
    Reg.EVT_LIVE 0x41, Reg.EVT_STS 0x41 0, Reg.EVT_STS 0x41 1, Reg.EVT_STS 0x41 2, Reg.EVT_STS 0x41 3,
    Reg.EVT_STS 0x41 4, Reg.GQ.WR_SEQ 2, Reg.GQ.HELD_WORDS 2, Reg.GQ.CAPACITY_WORDS 2, Reg.GQ.STS_PACK 2,
    Reg.GQ.STS_TAIL_FULL 2, Reg.GQ.WM_CROSSINGS_HI 2, Reg.GQ.WM_CROSSINGS_LO 2, Reg.EVT_LIVE 0xA2,
    Reg.EVT_STS 0xA2 0, Reg.EVT_STS 0xA2 1, Reg.EVT_STS 0xA2 3, Reg.EVT_STS 0xA2 5, Reg.IRQ.SENT_COUNT,
    Reg.IRQ.MERGED_COUNT] : List Fld).map Fld.key

/-- The ports without what the interrupt unit, the journal and the return of credits hold in them. -/
def portsCore (x : Hp) : Hp := { x with eventLog := [], holdoffs := [], msixPending := [], credits := [] }

/-- The Lehr without the sides of its marks. -/
def marksCore (x : Mrv) : Mrv := { x with firstCompare := true, loCrossed := false, hiCrossed := false }

/-- From `s` to `t` nothing changes but the register fields `fs`, the parts `ps`, and what the end of every command keeps
up to date: the fields of `settleKeys`, GQ2's journal, the interrupts, the sides of the marks, free values and what is
sent. -/
structure Changes (ps : List Part) (fs : List Fld) (s t : State) : Prop where
  regs : ∀ f : Fld, f.key ∉ fs.map Fld.key → f.key ∉ settleKeys → get f t = get f s
  shadows : .shadows ∉ ps → t.shadows = s.shadows
  pools : .pools ∉ ps → t.pools = s.pools
  frm : .frm ∉ ps → t.frm = s.frm
  hp : .hp ∉ ps → portsCore t.hp = portsCore s.hp
  dram : .dram ∉ ps → t.dram = s.dram
  mrv : .mrv ∉ ps → marksCore t.mrv = marksCore s.mrv
  txn : .txn ∉ ps → t.txn = s.txn
  nand : .nand ∉ ps → t.nand = s.nand
  sav : .sav ∉ ps → t.sav = s.sav
  eng : .eng ∉ ps → t.eng = s.eng
  rsr : .rsr ∉ ps → t.rsr = s.rsr
  twn : .twn ∉ ps → t.twn = s.twn
  rng : .rng ∉ ps → t.rng = s.rng
  pwr : .pwr ∉ ps → t.pwr = s.pwr
  flt : .flt ∉ ps → t.flt = s.flt
  gq : .gq ∉ ps → ∀ q, q ≠ 2 → queue q t = queue q s
  journal : .gq ∉ ps → (queue 2 s).held <+: (queue 2 t).held
  car : .car ∉ ps → t.car = s.car
  upd : .upd ∉ ps → t.upd = s.upd
  reqs : t.reqs = s.reqs
  pending : t.pending = s.pending

/-! ### Raises -/

/-- A raise of source `n` asks for no reset and no safe state: its severity is below S4 and its ACT has neither BLOCK_RESET
nor CHIP_RESET (R402, R404). -/
abbrev Calm (n : Nat) (s : State) : Prop :=
  n ≠ 334 ∧ get (Reg.FLS.SRC_CFG_SEV n) s < 4 ∧ bitOf (get (Reg.FLS.SRC_CFG_ACT n) s) actBlockReset = false ∧
    bitOf (get (Reg.FLS.SRC_CFG_ACT n) s) actChipReset = false

/-- The fields that a calm raise of source `n` may change: the source's own, the first-error latch and the overflow count
(R406, R407), `FAULT` (R402), the pin (R411), the event of its page (R404), and what GQ0 shows of its record (R405). -/
def raiseFields (n : Nat) : List Fld :=
  [Reg.FLS.LIVE n, Reg.FLS.STICKY n, Reg.FLS.SRC_CFG_COUNT n, Reg.EVT_STS (0x91 + n / 64) 0, Reg.SYS.PERSIST_FAULT,
    Reg.FLT.FIRST_ID_ID, Reg.FLT.FIRST_ID_SEV, Reg.FLT.FIRST_ID_VALID, Reg.FLT.FIRST_ID_FIRST_SELF_CLEARED,
    Reg.FLT.FIRST_FRAME_LO_FRAME, Reg.FLT.FIRST_FRAME_HI_FRAME, Reg.FLT.FIRST_SNAP_DATA 0, Reg.FLT.FIRST_SNAP_DATA 1,
    Reg.FLT.FIRST_SNAP_DATA 2, Reg.FLT.FIRST_SNAP_DATA 3, Reg.FLT.OVF_OVF, Reg.FLT.OVF_COUNT_COUNT, Reg.EVT_STS 0x90 0,
    Reg.EVT_STS 0x90 1, Reg.EVT_STS 0x90 2, Reg.EVT_STS 0x90 3, Reg.FLT.PINCTL_LEVEL, Reg.FLT.PINCTL_PULSE,
    Reg.FLT.PINCTL_PIN, Reg.FLT.PIN_COUNT_COUNT, Reg.GQ.WR_SEQ 0, Reg.GQ.HELD_WORDS 0, Reg.GQ.CAPACITY_WORDS 0,
    Reg.GQ.STS_PACK 0, Reg.GQ.STS_TAIL_FULL 0, Reg.GQ.WM_CROSSINGS_HI 0, Reg.GQ.WM_CROSSINGS_LO 0, Reg.GQ.DROPS_COUNT 0,
    Reg.EVT_LIVE 0xA0, Reg.EVT_STS 0xA0 0, Reg.EVT_STS 0xA0 1, Reg.EVT_STS 0xA0 2, Reg.EVT_STS 0xA0 5]

/-- The parts that a calm raise may change: the reactions that wait, the pulse, the first-error latch and GQ0. -/
def raiseParts : List Part := [.sav, .pwr, .flt, .gq]

/-- A raise of source `n` is fresh (its live bit is 0, R400), and it is calm. -/
abbrev Fresh (n : Nat) (s : State) : Prop := isSet (Reg.FLS.LIVE n) s = false ∧ Calm n s

/-- A counter one higher, up to its ceiling. -/
abbrev oneMore (f : Fld) (s : State) : Nat := satAdd (2 ^ f.w - 1) (get f s) 1

/-- No injection of MODE 2 waits for a check of its source (R83, R90). -/
abbrev Uninjected (s : State) : Prop := ∀ j ∈ s.flt.injections, j.2.2 ≠ 2

/-- What a fresh raise of `n` leaves: the sticky status, and one more count (R400, R401). -/
abbrev Raised (n : Nat) (s t : State) : Prop :=
  get (Reg.FLS.STICKY n) t = 1 ∧ get (Reg.FLS.SRC_CFG_COUNT n) t = oneMore (Reg.FLS.SRC_CFG_COUNT n) s

/-! ### Fields that move together -/

/-- `CTX_STS.HOLD_WAIT` of every context (R184). -/
def holdWaits : List Fld := (List.range 64).map (fun g => Reg.TXC.CTX_STS_HOLD_WAIT (g / 16) (g % 16))

/-- The depths of a channel's queues (R136). -/
def depths (ch : Nat) : List Fld :=
  [Reg.DCH.QDEPTH_RD0 ch, Reg.DCH.QDEPTH_RD1 ch, Reg.DCH.QDEPTH_WR0 ch, Reg.DCH.QDEPTH_WR1 ch]

/-- What TXN shows of the Hold set, the pairs and the slabs (R184, R185). -/
def txnShown : List Fld :=
  [Reg.TXN.HOLD_USE_ENTRIES, Reg.TXN.HOLD_PEAK_ENTRIES, Reg.TXN.PAIR_USE_PAIRS, Reg.TXN.UNDO_USE_SLABS]

/-- `TXN.REPLAY` (R190). -/
def replayFields : List Fld := [Reg.TXN.REPLAY_CTX, Reg.TXN.REPLAY_ACTIVE, Reg.TXN.REPLAY_QUEUED]

/-- The sticky flags and the counters of a context, which OPEN clears (R179). -/
def ctxFlags (g : Nat) : List Fld :=
  [Reg.TXC.CTX_STS_HOLD_FULL (g / 16) (g % 16), Reg.TXC.CTX_STS_LIMIT (g / 16) (g % 16),
    Reg.TXC.CTX_STS_UNDO_LOST (g / 16) (g % 16), Reg.TXC.CTX_STS_LATE_WR (g / 16) (g % 16),
    Reg.TXC.CTX_STS_TWIN_DEGRADED (g / 16) (g % 16), Reg.TXC.CTX_STS_ROLLED_BACK (g / 16) (g % 16),
    Reg.TXC.CTX_STS_FORCED (g / 16) (g % 16), Reg.TXC.CTX_STS_HOLD_WAIT (g / 16) (g % 16),
    Reg.TXC.CTX_LINES_LINES (g / 16) (g % 16), Reg.TXC.CTX_HELD_GRANULES (g / 16) (g % 16)]

/-- The state, the result and the frame of a context. -/
abbrev ctxSts (g : Nat) : Fld := Reg.TXC.CTX_STS_STATE (g / 16) (g % 16)
abbrev ctxRes (g : Nat) : Fld := Reg.TXC.CTX_STS_RESULT (g / 16) (g % 16)
abbrev ctxFrm (g : Nat) : Fld := Reg.TXC.CTX_FRAME_FRAME (g / 16) (g % 16)

/-- What the fall of a live bit may change: the bit, and the latch's note that its error ended before it was read (R408). -/
def fallFields (n : Nat) : List Fld := [Reg.FLS.LIVE n, Reg.FLT.FIRST_ID_FIRST_SELF_CLEARED, Reg.EVT_STS 0x90 2]

/-! ### The ring -/

/-- A cell of this member on ring A or B, and on both (R357, R359). -/
abbrev onRing (ringB : Bool) (c : Cell) (s : State) : List Out := [.cell ringB (c.bits ringB (get Reg.TRN.STS_INDEX s))]
abbrev onBoth (c : Cell) (s : State) : List Out := onRing false c s ++ onRing true c s

/-! ### The code array -/

/-- The writes of a command sequence of one bank, up to its code (R449). -/
def sequenceOf (w : Writer) (b code : Nat) : List CarWrite :=
  let base := b * 0x1000000
  [{ by_ := w, off := base + 4 * 0x2C94, data := 0xC3 }, { by_ := w, off := base + 4 * 0x1D6B, data := 0x3C },
    { by_ := w, off := base + 4 * 0x2C94, data := BitVec.ofNat 32 code }]

/-! ### Invariants -/

/-- The module DRAM is in its canonical form: rising addresses, and no listed byte 0. -/
abbrev MemoryForm (s : State) : Prop := Memory.wf s.dram.mem = true

/-- `SYS.PERSIST.OK` is 1 exactly while every reason bit is 0, VAON is present and the TAP does not hold the pins (R16,
R502). -/
abbrev PersistInv (s : State) : Prop :=
  isSet Reg.SYS.PERSIST_OK s = (persistReasons s == 0 && s.pwr.vaon && s.pwr.tap != .extest)

/-- `SYS.PERSIST.DOMAIN_OK` is 1 exactly when its four conditions hold (R367). -/
abbrev DomainInv (s : State) : Prop := isSet Reg.SYS.PERSIST_DOMAIN_OK s = domainOkNow s

end Sys2Proof.Machine
end

