-- ==== Sys2Proof/Certificates/Slice0/Obligations.lean ====
section
/-! DEFINITION. The statements of this row, for the provers. -/

open Sys2Proof Sys2Proof.Machine

/-! ### The queue and the end of a command -/

/-- The command at the front of the queue runs with the queue's rest, and on an empty queue the block idles (log entry
1). -/
def Obligations.StepRunsFrontCommand : Prop :=
  (∀ (c : Instr) (rest : List Instr) (s : State),
      step { s with pending := c :: rest } = exec c { s with pending := rest }) ∧
  (∀ s : State, s.pending = [] → step s = .next s)

/-- No command ends in a fault or a refusal, and none leaves a reaction open (R404): with VAON present, what a command
leaves is ready for the next. A command's effect is on everything but the queue: what waits, waits as before. Readings
of the model's own that clauses rest on: log entries 17, 21. -/
def Obligations.EveryCommandCompletes : Prop :=
  (∀ (c : Instr) (s : State), ∃ t, exec c s = .next t ∧ (s.pwr.vaon = true → t.reqs = [])) ∧
  (∀ (c : Instr) (s t : State), exec c s = .next t → t.pending = s.pending)

/-- Without VAON only VAON_POWER_UP does anything: every other command leaves the state as it is and sends nothing
(R83, R507; log entry 7). -/
def Obligations.DarkControllerStays : Prop :=
  ∀ (c : Instr) (s : State), s.pwr.vaon = false → (∀ x, c ≠ .vaonPowerUp x) → exec c s = .next { s with out := [] }

/-! ### Reset -/

/-- What reset leaves where the spec gives a value: PERSIST.OK, FENCED, SAFE and FAULT 0 and BOOT 1, `SRC.MODE` local,
every header ENABLE 0 and TO_GAFFER 1 (R83), GQ positions 0, contexts IDLE; VAON absent and no command waiting; and
the invariants of the model hold there. Readings of the model's own that clauses rest on: log entries 4, 99. -/
def Obligations.ResetState : Prop :=
  let s := State.reset
  s.pwr.vaon = false ∧ s.frm.count = 0 ∧ get Reg.SYS.PERSIST_OK s = 0 ∧ get Reg.SYS.PERSIST_BOOT s = 1 ∧
  get Reg.SYS.PERSIST_FENCED s = 0 ∧ get Reg.SYS.PERSIST_SAFE s = 0 ∧ get Reg.SYS.PERSIST_FAULT s = 0 ∧
  get Reg.FRM.SRC_MODE s = 0 ∧ (∀ p, get (Reg.BLKCTL_ENABLE p) s = 0 ∧ get (Reg.EVT_ROUTE_TO_GAFFER p) s = 1) ∧
  (∀ q, get (Reg.GQ.WR_SEQ q) s = 0 ∧ get (Reg.GQ.RD_SEQ q) s = 0) ∧ (∀ n c, get (Reg.TXC.CTX_STS_STATE n c) s = 0) ∧
  s.pending = [] ∧ s.reqs = [] ∧ (∀ a, readByte a s = 0) ∧ PersistInv s ∧ DomainInv s ∧ MemoryForm s
/-! ### The frame unit (R52 to R66, R75) -/

/-- The commands of the frame unit in their plain course: a lingering packing word is emitted padded (R433), a marker
is taken (R55, R56), lock after 50 good frames (R55), fallback after 3 frames without a marker (R57), the mode changed
while FRM is not enabled, and a read of the counter (R75). Readings of the model's own that clauses rest on: log entry
20. -/
def Obligations.FrameUnitCommands : Prop :=
  ∀ s : State, Ready s →
  (∀ q : Fin 4, taskRuns 9 s = true → domainOn 44 s = true → get (Reg.GQ.CFG_LINGER q) s ≤ (queue q s).idle →
    (queue q s).packing ≠ [] → q.val < s.gq.length →
    Completes (.gatherLingerFlush q) s fun t =>
      (q ≠ 2 → (queue q t).held = (queue q s).held ++ [{ words := (queue q s).packing, pad := true }]) ∧
      (queue q s).held ++ [{ words := (queue q s).packing, pad := true }] <+: (queue q t).held ∧
      (q ≠ 2 → (queue q t).packing = [] ∧ get (Reg.GQ.WR_SEQ q) t = (get (Reg.GQ.WR_SEQ q) s + 1) % 2 ^ 32)) ∧
  (∀ (frame : Frame) (e : Int) (delay : Nat), get Reg.FRM.SRC_MODE s = 1 → s.frm.markerSeen = false →
    Completes (.syncMarker frame e delay) s fun t =>
      get Reg.FRM.SYNC_MISSED t = 0 ∧ getInt Reg.FRM.SYNC_PHASE_ERR t = signedOf 16 (encodeSigned 16 e) ∧
      get Reg.FRM.RING_DELAY_DELAY t = delay % 2 ^ 16 ∧ isSet (Reg.FLS.LIVE 165) t = false ∧
      t.frm = { s.frm with markerSeen := true, lengthening := decide (frame.toNat < now s),
                           adopt := if now s < frame.toNat then some frame else none } ∧
      get Reg.FRM.SRC_JUMPS t = (if now s < frame.toNat ∨ (frame.toNat < now s ∧ s.frm.lengthening = false)
        then satAdd (2 ^ 16 - 1) (get Reg.FRM.SRC_JUMPS s) 1 else get Reg.FRM.SRC_JUMPS s)) ∧
  (get Reg.FRM.SRC_MODE s = 1 → get Reg.FRM.SRC_STATE s = 1 → 50 ≤ get Reg.FRM.SYNC_LOCK_RUN s →
    Completes .syncLocked s fun t => get Reg.FRM.SRC_STATE t = 2 ∧ get (Reg.EVT_STS 1 2) t = 1 ∧
      Changes [] [Reg.FRM.SRC_STATE, Reg.EVT_STS 1 2] s t) ∧
  (3 ≤ get Reg.FRM.SYNC_MISSED s → get Reg.FRM.SRC_MODE s = 1 → get Reg.FRM.SRC_STATE s = 1 ∨ get Reg.FRM.SRC_STATE s = 2 →
    Completes .syncLost s fun t =>
      (Calm 165 s → get Reg.FRM.SRC_STATE t = 3 ∧ get Reg.FRM.SYNC_LOCK_RUN t = 0 ∧ get (Reg.EVT_STS 1 1) t = 1 ∧
        get (Reg.FLS.LIVE 165) t = 1 ∧ get Reg.SYS.PERSIST_DOMAIN_OK t = 0) ∧ (Fresh 165 s → Raised 165 s t)) ∧
  (∀ (w : Writer) (m : BitVec 2), Reaches w 0x110C m.toNat s → m.toNat ≤ 1 → m.toNat ≠ shown Reg.FRM.SRC_MODE s →
    isSet (Reg.LOCK_LOCK 1) s = false → isSet (Reg.BLKCTL_ENABLE 1) s = false →
    pageBusy 1 s = false →
    Completes (.frmSrcModeWrite w m) s fun t => get Reg.FRM.SRC_MODE t = m.toNat ∧
      get Reg.FRM.SRC_STATE t = (if m = 0 then 0 else 1) ∧
      get Reg.FRM.SYNC_LOCK_RUN t = 0 ∧ get Reg.FRM.SYNC_MISSED t = 0) ∧
  (∀ w : Writer, Completes (.frameCountRead w) s fun t =>
    get Reg.FRM.COUNT_HI_COUNT t = now s / 2 ^ 32 ∧ [Out.regData (now s % 2 ^ 32)] <+: t.out ∧
    Changes [] [Reg.FRM.COUNT_HI_COUNT] s t)
/-! ### The common header (R72 to R75, R83, R91, R92) -/

/-- ENABLE of a page and its refusals (R4, R83, R434), its removal where no shadow waits (R69, R74), and its value
during an abort, whose effect waits (R96); the mapping's ENABLE follows the checks of R132. An abort or a reset of a
block starts: ABORTING, a bound of 2 full frames after the frame of the write, and with RESET the page's shadows are
gone (R83, R92, R96); under a fence either is refused with WERR_BUSY (R94). Readings of the model's own that clauses
rest on: log entries 18, 23. -/
def Obligations.BlockControl : Prop :=
  (∀ s : State, Ready s → ∀ (w : Writer) (page : BitVec 12), let p := page.toNat
    (Reaches w (ctlAddr p) 1 s → isSet (Reg.BLKCTL_ENABLE p) s = false → isSet (Reg.BLKSTS_ABORTING p) s = false →
      p ≠ 0x10 → (0xA0 ≤ p ∧ p < 0xA4 → spillFits (p - 0xA0) s = true) →
      (p = 0x40 → homeGranules s * (if s.twn.stored then 2 else 1) ≤ 16777216) →
      (p = 0x50 → s.nand.initialised = true ∨ 50 ≤ get Reg.NFC.SPARE_PERMILLE s) →
      Completes (.enable w page true) s fun t =>
        get (Reg.BLKCTL_ENABLE p) t = 1 ∧ (p < 0xA0 ∨ 0xA4 ≤ p → Changes [] [Reg.BLKCTL_ENABLE p] s t)) ∧
    (Reaches w (ctlAddr p) 1 s → isSet (Reg.BLKCTL_ENABLE p) s = false → isSet (Reg.BLKSTS_ABORTING p) s = false →
      (p = 0x40 ∧ 16777216 < homeGranules s * (if s.twn.stored then 2 else 1)) ∨
        (0xA0 ≤ p ∧ p < 0xA4 ∧ spillFits (p - 0xA0) s = false) →
      Completes (.enable w page true) s fun t =>
        get (Reg.BLKCTL_ENABLE p) t = 0 ∧ get (Reg.BLKWERR_RANGE p) t = 1 ∧ get (Reg.BLKWERR_OFFSET p) t = 0xC) ∧
    (∀ on : Bool, Reaches w (ctlAddr p) (b2n on) s → isSet (Reg.BLKCTL_ENABLE p) s = !on →
      isSet (Reg.BLKSTS_ABORTING p) s = true → (p = 0x10 → on = true ∨ admittedNow s = false ∨ fenced s = true) →
      Completes (.enable w page on) s fun t =>
        get (Reg.BLKCTL_ENABLE p) t = b2n on ∧ (p, w, on) ∈ t.frm.lateEnable ∧ t.frm.count = s.frm.count ∧
        Changes [.frm] [Reg.BLKCTL_ENABLE p] s t) ∧
    (Reaches w (ctlAddr 0x10) 1 s → isSet (Reg.BLKCTL_ENABLE 0x10) s = false → isSet (Reg.BLKSTS_ABORTING 0x10) s = false →
      Completes (.enable w 0x10 true) s fun t =>
        if checkMap s = none then
          get (Reg.BLKCTL_ENABLE 0x10) t = 1 ∧
          (admittedNow s = false → get Reg.DMC.MAP_CRC_CRC t = (Config.mapCrc (mapWords s)).toNat)
        else get (Reg.BLKCTL_ENABLE 0x10) t = 0 ∧ get (Reg.BLKWERR_RANGE 0x10) t = 1 ∧ get (Reg.EVT_STS 0x10 0) t = 1) ∧
    (Reaches w (ctlAddr p) 0 s → isSet (Reg.BLKCTL_ENABLE p) s = true → isSet (Reg.BLKSTS_ABORTING p) s = false →
      (∀ h ∈ s.shadows, h.f.addr / 4096 ≠ p) →
      (p = 0x10 → admittedNow s = false ∨ fenced s = true) →
      Completes (.enable w page false) s fun t =>
        get (Reg.BLKCTL_ENABLE p) t = 0 ∧ Changes [] [Reg.BLKCTL_ENABLE p] s t)) ∧
  (∀ s : State, Ready s → ∀ (w : Writer) (page : BitVec 12) (reset : Bool), let p := page.toNat
    let c := if reset then Instr.reset w page else Instr.abort w page
    (Reaches w (ctlAddr p) (if reset then 4 else 2) s → fenced s = false →
      (p = 0x43 → admittedNow s = true → rsrStage s = 8 → allRestored s = true) → (∀ a ∈ s.frm.aborts, a.1 ≠ p) →
      Completes c s fun t =>
        get (Reg.BLKSTS_ABORTING p) t = 1 ∧ get (Reg.BLKSTS_ABORT_DONE p) t = 0 ∧ get (Reg.BLKSTS_FROZEN p) t = 0 ∧
        t.frm.aborts = s.frm.aborts ++ [(p, 3, reset)] ∧
        t.shadows = if reset then s.shadows.filter (fun h => h.f.addr / 4096 != p) else s.shadows) ∧
    (Reaches w (ctlAddr p) (if reset then 4 else 2) s → fenced s = true →
      Completes c s fun t =>
        get (Reg.BLKWERR_BUSY p) t = 1 ∧ get (Reg.BLKWERR_OFFSET p) t = 0xC ∧ get (Reg.BLKWERR_SOURCE p) t = w.code ∧
        Changes [] [Reg.BLKWERR_BUSY p, Reg.BLKWERR_OFFSET p, Reg.BLKWERR_SOURCE p] s t))

/-- The end of an abort, FREEZE, the safe point, COMMIT_SHADOW and LOCK (R72, R73, R83, R91, R93). After a RESET the
page's ENABLE and FREEZE read 0, and LOCK stays. Readings of the model's own that clauses rest on: log entries 10, 18,
23, 30. -/
def Obligations.HeaderCommands : Prop :=
  ∀ s : State, Ready s → ∀ (w : Writer) (page : BitVec 12), let p := page.toNat
  (∀ (n : Nat) (reset : Bool), pageDark p s = false → s.frm.aborts.filter (·.1 == p) = [(p, n, reset)] →
    (∀ e ∈ s.frm.lateEnable, e.1 ≠ p) → (∀ e ∈ s.upd.settings, e.1 / 32 / 4096 ≠ p) →
    Completes (.abortDone page) s fun t =>
      get (Reg.BLKSTS_ABORTING p) t = 0 ∧ get (Reg.BLKSTS_ABORT_DONE p) t = 1 ∧
      t.frm.aborts = s.frm.aborts.filter (·.1 != p) ∧
      get (Reg.LOCK_LOCK p) t = get (Reg.LOCK_LOCK p) s ∧
      (if reset then get (Reg.BLKCTL_ENABLE p) t = 0 ∧ get (Reg.BLKCTL_FREEZE p) t = 0
        else get (Reg.BLKCTL_ENABLE p) t = get (Reg.BLKCTL_ENABLE p) s)) ∧
  (∀ on : Bool, Reaches w (ctlAddr p) (8 * b2n on) s → (on = true → freezeRefused p = false) →
    Completes (.freeze w page on) s fun t =>
      get (Reg.BLKCTL_FREEZE p) t = b2n on ∧ (on = false → get (Reg.BLKSTS_FROZEN p) t = 0) ∧
      Changes [] [Reg.BLKCTL_FREEZE p, Reg.BLKSTS_FROZEN p] s t) ∧
  (isSet (Reg.BLKCTL_FREEZE p) s = true → pageDark p s = false → isSet (Reg.BLKSTS_ABORTING p) s = false →
    Completes (.frozen page) s fun t =>
      get (Reg.BLKSTS_FROZEN p) t = 1 ∧ Changes [] [Reg.BLKSTS_FROZEN p] s t) ∧
  (Reaches w (ctlAddr p) 256 s →
    Completes (.commitShadow w page) s fun t =>
      p ∈ t.frm.commitShadow ∧ Changes [.frm] [] s t ∧ t.frm.count = s.frm.count) ∧
  (Reaches w (p * 4096 + 0x2C) 1 s →
    Completes (.lock w page) s fun t => get (Reg.LOCK_LOCK p) t = 1 ∧ Changes [] [Reg.LOCK_LOCK p] s t)
/-! ### Injection, SYS and IRQ (R19, R88 to R90, R97, R100) -/

/-- The injection key opens by its two halves from one writer and closes by 0 or after its frames (R89); with it open
a page without an injection arms one (R90), and DISARM ends it and releases its source; a held injection raises its
source, and it stays live (R90, R400). Readings of the model's own that clauses rest on: log entry 49. -/
def Obligations.InjectionCommands : Prop :=
  (∀ s : State, Ready s → ∀ w : Writer,
    (Reaches w 0x97100 0xF17A s →
      Completes (.finjKeyWrite w 0xF17A) s fun t => t.flt.keyHalf = some w.code ∧ Changes [.flt] [] s t) ∧
    (Reaches w 0x97100 0x0E85 s → s.flt.keyHalf = some w.code →
      Completes (.finjKeyWrite w 0x0E85) s fun t =>
        get Reg.SAF.FINJ_KEY_OPEN t = 1 ∧ t.flt.keyLeft = 65536 ∧ Changes [.flt] [Reg.SAF.FINJ_KEY_OPEN] s t) ∧
    (Reaches w 0x97100 0 s →
      Completes (.finjKeyWrite w 0) s fun t =>
        get Reg.SAF.FINJ_KEY_OPEN t = 0 ∧ t.flt.keyHalf = none ∧ Changes [.flt] [Reg.SAF.FINJ_KEY_OPEN] s t) ∧
    (isSet Reg.SAF.FINJ_KEY_OPEN s = true → s.flt.keyLeft = 0 →
      Completes .finjKeyTimeout s fun t =>
        get Reg.SAF.FINJ_KEY_OPEN t = 0 ∧ Changes [.flt] [Reg.SAF.FINJ_KEY_OPEN] s t) ∧
    (∀ (page : BitVec 12) (src : BitVec 6) (n : Nat), let p := page.toNat
      Reaches w (finjAddr p) (src.toNat + 2 * 64 + 256) s → isSet (Reg.LOCK_LOCK p) s = false → fenced s = false →
      isSet Reg.SAF.FINJ_KEY_OPEN s = true → pageSource p src.toNat = some n → (∀ j ∈ s.flt.injections, j.1 ≠ p) →
      Completes (.finjArm w page src 2) s fun t =>
        get (Reg.FINJ_ACTIVE p) t = 1 ∧ t.flt.injections = s.flt.injections ++ [(p, n, 2)] ∧
        Changes [.flt] [Reg.FINJ_SRC p, Reg.FINJ_MODE p, Reg.FINJ_ACTIVE p] s t) ∧
    (∀ (page : BitVec 12) (src : BitVec 6) (mode : BitVec 2), let p := page.toNat
      Reaches w (finjAddr p) (src.toNat + mode.toNat * 64 + 256) s → isSet (Reg.LOCK_LOCK p) s = false →
      fenced s = false → isSet Reg.SAF.FINJ_KEY_OPEN s = false →
      Completes (.finjArm w page src mode) s fun t =>
        get (Reg.BLKWERR_LOCKED p) t = 1 ∧ t.flt = s.flt) ∧
    (∀ page : BitVec 12, let p := page.toNat
      Reaches w (finjAddr p) 512 s → isSet (Reg.LOCK_LOCK p) s = false → fenced s = false →
      Completes (.finjDisarm w page) s fun t =>
        get (Reg.FINJ_ACTIVE p) t = 0 ∧ t.flt.injections = s.flt.injections.filter (fun j => j.1 != p) ∧
        (∀ n, (p, n, 1) ∈ s.flt.injections → isSet (Reg.FLS.LIVE n) t = false))) ∧
  (∀ (s : State) (w : Writer) (page : BitVec 12) (src : BitVec 6) (n : Nat), let p := page.toNat
    Ready s → Reaches w (finjAddr p) (src.toNat + 64 + 256) s → isSet (Reg.LOCK_LOCK p) s = false → fenced s = false →
    isSet Reg.SAF.FINJ_KEY_OPEN s = true → pageSource p src.toNat = some n → (∀ j ∈ s.flt.injections, j.1 ≠ p) →
    srcReserved n = false → n < 384 → Fresh n s →
    Completes (.finjArm w page src 1) s fun t =>
      get (Reg.FLS.LIVE n) t = 1 ∧ get (Reg.FLS.STICKY n) t = 1 ∧
      get (Reg.FLS.SRC_CFG_COUNT n) t = satAdd (2 ^ (Reg.FLS.SRC_CFG_COUNT n).w - 1) (get (Reg.FLS.SRC_CFG_COUNT n) s) 1 ∧
      get (Reg.FINJ_ACTIVE p) t = 1 ∧ (p, n, 1) ∈ t.flt.injections)

/-- Capacity acknowledged (R19), the management port moved to a port in use (R97, R120), a search of the pending pages
(R100), and the end of a holdoff with a message due (R100). Readings of the model's own that clauses rest on: log
entry 16. -/
def Obligations.SystemCommands : Prop :=
  ∀ s : State, Ready s →
  (∀ w, Reaches w 0x14C 1 s →
    Completes (.capAck w) s fun t => get Reg.SYS.PERSIST_CAPACITY t = 0 ∧ Changes [] [Reg.SYS.PERSIST_CAPACITY] s t) ∧
  (∀ (w : Writer) (n : Fin 4), Reaches w 0x10C n.val s →
    Completes (.mgmtPortChange w n) s fun t =>
      if portUsed n s then get Reg.SYS.MGMT_PORT_PORT t = n ∧ Changes [] [Reg.SYS.MGMT_PORT_PORT] s t
      else get (Reg.BLKWERR_RANGE 0) t = 1 ∧
        Changes [] [Reg.BLKWERR_RANGE 0, Reg.BLKWERR_OFFSET 0, Reg.BLKWERR_SOURCE 0] s t) ∧
  (∀ (w : Writer) (v : BitVec 7) (start : BitVec 12), Reaches w 0x311C (v.toNat + start.toNat * 256) s →
    Completes (.irqFind w v start) s fun t =>
      t.hp.finding = true ∧ get Reg.IRQ.FIND_VECTOR t = v.toNat ∧ get Reg.IRQ.FIND_START t = start.toNat ∧
      get Reg.IRQ.FIND_RES_DONE t = 0 ∧ get Reg.IRQ.FIND_RES_FOUND t = 0) ∧
  (s.hp.finding = true →
    let r := findPage (get Reg.IRQ.FIND_VECTOR s) (get Reg.IRQ.FIND_START s) s
    Completes .irqFindDone s fun t =>
      t.hp.finding = false ∧ get Reg.IRQ.FIND_RES_DONE t = 1 ∧ get Reg.IRQ.FIND_RES_FOUND t = b2n r.isSome ∧
      get Reg.IRQ.FIND_RES_PAGE t = r.getD 0 % 2 ^ 12) ∧
  (∀ v : BitVec 7, let due := s.hp.holdoffs.any (fun h => h.vector == v.toNat && h.due)
    let n := vectorPort v.toNat s
    Completes (.irqHoldoffExpiry v) s fun t =>
      (due = true → get (Reg.HPT.LINK_WIDTH n) s ≠ 0 → (n, v.toNat) ∈ s.hp.msixOpen →
        [Out.msix n v.toNat] <+: t.out) ∧
      (due = true → get (Reg.HPT.LINK_WIDTH n) s = 0 ∨ (n, v.toNat) ∉ s.hp.msixOpen →
        (n, v.toNat) ∈ t.hp.msixPending) ∧ Changes [] [] s t)

/-! ### CLK (R98, R99, R420, R499) -/

/-- A PLL's first lock, its loss with source 241, its relock within 50 frames or the GROUP reaction of its domain
(R98, R394), the crystal within and beyond its limits (R98, R499), and the frame watchdog's source 331 (R420): each
completes in every state that R98 and R420 give it, and what a raise changes is said where the raise asks for no
reset. Readings of the model's own that clauses rest on: log entry 69. -/
def Obligations.ClockCommands : Prop :=
  ∀ s : State, Ready s →
  (∀ k : Fin 12, bitOf (get Reg.CLK.PLL_STS_LOCKED s) k = true →
    Completes (.pllLockLoss k) s fun t =>
      (isSet (Reg.FLS.LIVE 241) s = true ∨ Calm 241 s →
        bitOf (get Reg.CLK.PLL_STS_LOCKED t) k = false ∧ bitOf (get Reg.CLK.PLL_LOST_LOST t) k = true ∧
        get Reg.CLK.LOCK_LOSSES_COUNT t = oneMore Reg.CLK.LOCK_LOSSES_COUNT s ∧ get (Reg.EVT_STS 2 0) t = 1 ∧
        pllWaits k t = true ∧
        Changes raiseParts ([Reg.CLK.PLL_STS_LOCKED, Reg.CLK.PLL_LOST_LOST, Reg.CLK.LOCK_LOSSES_COUNT,
          Reg.EVT_STS 2 0] ++ raiseFields 241) s t) ∧
      (Fresh 241 s → Raised 241 s t)) ∧
  (∀ k : Fin 12, pllWaits k s = true →
    Completes (.pllRelock k) s fun t =>
      bitOf (get Reg.CLK.PLL_STS_LOCKED t) k = true ∧ get (Reg.EVT_STS 2 1) t = 1 ∧ pllWaits k t = false ∧
      t.pwr = { s.pwr with relocking := s.pwr.relocking.filter (·.1 != k.val) } ∧
      Changes [.pwr] [Reg.CLK.PLL_STS_LOCKED, Reg.EVT_STS 2 1] s t) ∧
  (∀ (k : Fin 12) (n : Nat), (k.val, n) ∈ s.pwr.relocking → 50 ≤ n →
    Completes (.pllRelockTimeout k) s fun t =>
      pllWaits k t = false ∧
      (k.val = 11 → domainPresent 50 s = true → 50 ∈ t.pwr.groupDoms ∧ Changes [.pwr] [] s t) ∧
      (∀ d : Nat, 6 ≤ k.val ∧ k.val < 10 → d + 2 = k.val → domainPresent d s = true → (∀ r : Fin 4, Calm (148 + r) s) →
        d ∈ t.pwr.groupDoms ∧ get (Reg.HPT.LINK_WIDTH (d % 4)) t = 0 ∧
        (Fresh (148 + d % 4) s → Raised (148 + d % 4) s t))) ∧
  (∀ k : Fin 12, (∀ n, 50 ≤ n → (k.val, n) ∉ s.pwr.relocking) →
    Completes (.pllRelockTimeout k) s fun t => Changes [] [] s t) ∧
  (∀ k : Fin 12, (pllDomains k).any (fun d => domainOn d s) = true → pllWaits k s = false →
    Completes (.pllLocked k) s fun t =>
      bitOf (get Reg.CLK.PLL_STS_LOCKED t) k = true ∧ Changes [] [Reg.CLK.PLL_STS_LOCKED] s t) ∧
  (∀ (x : Int) (n : Nat),
    Completes (.xtalCheck x n) s fun t =>
      (x.natAbs ≤ 20000 ∨ n < 2 ∨ isSet (Reg.FLS.LIVE 332) s = true ∨ Calm 332 s →
        (pageDark 2 s = false → getInt Reg.CLK.XTAL_PPM_X10 t = max (-32768) (min 32767 x) ∧
          get Reg.CLK.XTAL_FRAME_FRAME t = now32 s) ∧
        Changes raiseParts ([Reg.CLK.XTAL_PPM_X10, Reg.CLK.XTAL_FRAME_FRAME] ++ raiseFields 332) s t) ∧
      (x.natAbs ≤ 20000 → isSet (Reg.FLS.LIVE 332) t = false ∧
        Changes [] ([Reg.CLK.XTAL_PPM_X10, Reg.CLK.XTAL_FRAME_FRAME] ++ fallFields 332) s t) ∧
      (20000 < x.natAbs → 2 ≤ n → Fresh 332 s → get (Reg.FLS.LIVE 332) t = 1 ∧ Raised 332 s t)) ∧
  (∀ n : Nat,
    Completes (.frameWatchdog n) s fun t =>
      (Fresh 331 s → Raised 331 s t ∧ Changes raiseParts (raiseFields 331) s t) ∧
      (isSet (Reg.FLS.LIVE 331) s = true → Changes [] [] s t))
/-! ### Host requests (R8, R9, R48, R102, R105, R115, R136, R141, R180 to R183) -/

/-- A read waits with poison where the line is refused or no line answers (R105, R115); it takes the value of a queued
whole-line write (R141), and else waits in its subchannel's pool, or in its port for room there (R41, R44). With an
error in the granule's entry (R231) it is taken as well. Readings of the model's own that clauses rest on: log entry
35. -/
def Obligations.HostReads : Prop :=
  ∀ s : State, Ready s → Uninjected s → ∀ (port : Fin 4) (a : HostAddr) (tag line : Nat), takesRequest port a s = true →
  let d := lineLoc line s
  let plain := hostLine a s = some line ∧ readRefused line s = false ∧ inSpill (64 * line) s = false ∧
    unrestored (granuleOf line s) s = false
  (∀ ecc, hostLine a s = none →
    Completes (.memrd port a tag ecc) s fun t =>
      t.hp.reads = s.hp.reads ++ [{ port := port, tag := tag, line := 0, data := some none }] ∧ Changes [.hp] [] s t) ∧
  (∀ ecc, hostLine a s = some line → Calm 176 s → Calm 177 s →
    Completes (.memrd port a tag ecc) s fun t =>
      (∃ r ∈ t.hp.reads, r.port = port ∧ r.tag = tag ∧ r.line = line) ∨
      (∃ q ∈ t.hp.stalled, q.port = port ∧ q.tag = tag ∧ q.line = line ∧ q.be = none)) ∧
  (hostLine a s = some line → readRefused line s = true →
    Completes (.memrd port a tag .good) s fun t =>
      t.hp.reads = s.hp.reads ++ [{ port := port, tag := tag, line := line, data := some none }] ∧
      Changes [.hp] [] s t) ∧
  (∀ e, plain → youngest line s = some e → e.be = allBytes → e.poison = false →
    Completes (.memrd port a tag .good) s fun t =>
      { port := port, tag := tag, line := line, data := some (some e.data) } ∈ t.hp.reads ∧
      Changes [.hp] [Reg.DCH.FWD_CNT_COUNT d.ch] s t) ∧
  (plain → youngest line s = none → readsFull d.ch d.sub s = false → rankDown line s = false →
    Completes (.memrd port a tag .good) s fun t =>
      t.hp.reads = s.hp.reads ++ [{ port := port, tag := tag, line := line, data := none }] ∧
      t.dram.reads = s.dram.reads ++ [{ line := line, ch := d.ch, sub := d.sub, who := .host port tag }] ∧
      (∀ x, readByte x t = readByte x s) ∧ Changes [.hp, .dram] (depths d.ch) s t) ∧
  (plain → youngest line s = none → readsFull d.ch d.sub s = true →
    Completes (.memrd port a tag .good) s fun t =>
      t.hp.reads = s.hp.reads ∧ (poolOf (poolAddr (0x20 + d.ch) 0x124) t).stallSeen = true ∧
      (∃ q : Stalled, t.hp.stalled = s.hp.stalled ++ [q] ∧ q.port = port ∧ q.tag = tag ∧ q.line = line ∧ q.be = none ∧
        q.why = .pool d.ch d.sub) ∧ Changes [.hp, .pools] [] s t)

/-- A host write, which takes a credit (R8, R29): one that is refused is completed and not applied (R105, R116); any
other outside a transaction enters the write queue, its granule becomes DIRTY or SEALING_REDIRTIED, and no byte of
DRAM changes before the queue issues it; one whose residue is wrong or that the host marks is written with poison
(R48, R102); one that finds no room waits (R41). Readings of the model's own that clauses rest on: log entries 34, 90.
-/
def Obligations.HostWrites : Prop :=
  ∀ s : State, Ready s → Uninjected s →
  ∀ (port : Fin 4) (a : HostAddr) (be : BitVec 64) (data : Line) (tag line : Nat) (poison : Bool) (x : WriteIn),
  let d := lineLoc line s
  let g := granuleOf line s
  let c := if be = allBytes then Instr.memwr port a data tag poison x else .memwrptl port a be data tag poison x
  let free := unrestored g s = false ∧ replaysOf line s = [] ∧ x.ecc = .good
  takesRequest port a s = true → 0 < s.hp.credits.getD port 0 → hostCtx port a s = none →
  (hostLine a s = none →
    Completes c s fun t =>
      t.hp.writes = s.hp.writes ++ [{ port := port, tag := tag, line := 0, seq := none }] ∧
      get (Reg.EVT_STS (8 + port) 3) t = 1 ∧ Changes [.hp] [Reg.HPT.DROPPED_WR_COUNT port, Reg.EVT_STS (8 + port) 3] s t) ∧
  (hostLine a s = some line → x.ecc = .good → writeRefused port line s = true →
    Completes c s fun t =>
      t.hp.writes = s.hp.writes ++ [{ port := port, tag := tag, line := line, seq := none }] ∧
      get (Reg.EVT_STS (8 + port) 3) t = 1 ∧
      Changes [.hp] ([Reg.HPT.DROPPED_WR_COUNT port, Reg.EVT_STS (8 + port) 3] ++ holdWaits) s t) ∧
  (hostLine a s = some line → writeRefused port line s = false → free → writeFits line s = false →
    Completes c s fun t =>
      t.hp.writes = s.hp.writes ∧ (poolOf (poolAddr (0x20 + d.ch) 0x128) t).stallSeen = true ∧
      (∃ q : Stalled, t.hp.stalled = s.hp.stalled ++ [q] ∧ q.port = port ∧ q.tag = tag ∧ q.line = line ∧ q.be = some be ∧
        q.data = data ∧ q.why = .pool d.ch d.sub) ∧ Changes [.hp, .pools] holdWaits s t) ∧
  (hostLine a s = some line → writeRefused port line s = false → free → writeFits line s = true →
    (∀ e ∈ s.dram.writes, e.line ≠ line) →
    (lineGood data x.residues = true → poison = false → mirrored line s = false →
      isSet Reg.SYS.PERSIST_TWIN_DEGRADED s = false →
      Completes c s fun t =>
        t.hp.writes = s.hp.writes ++ [{ port := port, tag := tag, line := line, seq := none }] ∧
        t.dram.writes = s.dram.writes ++ [{ line := line, ch := d.ch, sub := d.sub, be := be, data := data }] ∧
        (be = allBytes → lineNow line t = (data, false)) ∧
        (entryInUse g s = true → (entryOf g t).state =
          match (entryOf g s).state with | .clean => .dirty | .sealing => .redirtied | x => x) ∧
        (∀ x, readByte x t = readByte x s) ∧
        Changes [.hp, .dram, .mrv] ([Reg.EVT_STS (0x20 + d.ch) 3, Reg.MRV.DIRTY_COUNT, Reg.MRV.GROUPS_SET] ++
          depths d.ch ++ holdWaits) s t) ∧
    (lineGood data x.residues = false ∨ poison = true → Calm 181 s →
      Completes c s fun t =>
        t.dram.writes = s.dram.writes ++ [{ line := line, ch := d.ch, sub := d.sub, be := be, data := data, poison := true }] ∧
        (be = allBytes → (lineNow line t).2 = true) ∧ (∀ x, readByte x t = readByte x s) ∧
        (lineGood data x.residues = false → (entryInUse g s = true → (entryOf g t).lost = true) ∧
          (Fresh 181 s → Raised 181 s t))))

/-- A write through a transaction window: outside OPEN it is completed and not applied, with LATE_WR (R180); the first
write of an OPEN context to a line stores the line's present value in the context's slab (R182). Readings of the
model's own that clauses rest on: log entry 56. -/
def Obligations.TransactionWrites : Prop :=
  ∀ s : State, Ready s → Uninjected s →
  ∀ (port : Fin 4) (a : HostAddr) (be : BitVec 64) (data : Line) (tag line c : Nat) (poison : Bool) (x : WriteIn),
  let g := granuleOf line s
  let i := if be = allBytes then Instr.memwr port a data tag poison x else .memwrptl port a be data tag poison x
  takesRequest port a s = true → 0 < s.hp.credits.getD port 0 → hostLine a s = some line → hostCtx port a s = some c →
  x.ecc = .good →
  (ctxState c s ≠ 1 ∨ txnReady s = false →
    Completes i s fun t =>
      get (Reg.TXC.CTX_STS_LATE_WR (c / 16) (c % 16)) t = 1 ∧
      t.hp.writes = s.hp.writes ++ [{ port := port, tag := tag, line := line, seq := none }] ∧
      Changes [.hp] ([Reg.TXC.CTX_STS_LATE_WR (c / 16) (c % 16), Reg.HPT.DROPPED_WR_COUNT port,
        Reg.EVT_STS (8 + port) 3] ++ holdWaits) s t) ∧
  (ctxState c s = 1 → txnReady s = true → writeRefused port line s = false → unrestored g s = false →
    writeFits line s = true → replaysOf line s = [] → logged c line s = false → linesLogged c s < lineLimit s →
    canHold c g s = true → repairOf line s = none →
    decodeLine (isSet Reg.DMC.CFG_X8 s) (errorsOf line x.old s) = .good → lineGood data x.residues = true →
    poison = false →
    Completes i s fun t =>
      logged c line t = true ∧ linesLogged c t = oneMore (Reg.TXC.CTX_LINES_LINES (c / 16) (c % 16)) s ∧
      (∃ e ∈ t.dram.writes, e.line = line ∧ mergeLine e.data be data = e.data) ∧
      (∀ p, pairOf c g t = some p → readLine (slabLine p.slab line s) t = (lineNow line s).1 ∧
        ∀ x, ¬ (64 * slabLine p.slab line s ≤ x ∧ x < 64 * slabLine p.slab line s + 64) → readByte x t = readByte x s)) ∧
  (ctxState c s = 1 → txnReady s = true → writeRefused port line s = false → unrestored g s = false →
    logged c line s = false → lineLimit s ≤ linesLogged c s →
    Completes i s fun t =>
      ctxState c t = 5 ∧ get (Reg.TXC.CTX_STS_LIMIT (c / 16) (c % 16)) t = 1 ∧ get (Reg.EVT_STS 0x44 1) t = 1 ∧
      c ∈ t.txn.replays ∧ t.dram.writes = s.dram.writes ∧ (∀ x, readByte x t = readByte x s)) ∧
  (ctxState c s = 1 → txnReady s = true → writeRefused port line s = false → unrestored g s = false →
    logged c line s = false → linesLogged c s < lineLimit s → canHold c g s = false →
    Completes i s fun t =>
      get (Reg.TXC.CTX_STS_HOLD_WAIT (c / 16) (c % 16)) t = 1 ∧ t.dram.writes = s.dram.writes ∧
      t.hp.writes = s.hp.writes ∧ (∃ q : Stalled, t.hp.stalled = s.hp.stalled ++ [q] ∧ q.port = port ∧ q.tag = tag ∧
        q.why = .hold 0) ∧ (∀ x, readByte x t = readByte x s))

/-- The completion of a write is sent once it may be (R9, R11, R34), and not before; a read's data is sent after the
final residue check, read again after one error, and with poison after two (R47, R48); MemInv and requests that are
not supported are answered (R102). Readings of the model's own that clauses rest on: log entries 50, 51, 90, 101. -/
def Obligations.HostCompletions : Prop :=
  ∀ s : State, Ready s → Uninjected s → ∀ (port : Fin 4) (tag : Nat),
  let sends := get (Reg.HPT.LINK_WIDTH port) s ≠ 0 ∧ pllWaits (6 + port) s = false
  (∀ w, s.hp.writes.find? (fun w => w.port == port.val && w.tag == tag) = some w → completable w s = true →
    Completes (.writeCompletion port tag) s fun t =>
      [if w.mailbox then Out.mailbox port 0 [] else .writeDone port tag] <+: t.out ∧
      t.hp.writes = s.hp.writes.erase w ∧ Changes [.hp] [] s t) ∧
  (∀ w, s.hp.writes.find? (fun w => w.port == port.val && w.tag == tag) = some w → completable w s = false →
    Completes (.writeCompletion port tag) s fun t => t.hp.writes = s.hp.writes ∧ Changes [] [] s t) ∧
  (∀ r, s.hp.reads.find? (fun r => r.port == port.val && r.tag == tag && r.data.isSome) = some r → sends →
    ∀ first second : BitVec 64,
    (∀ v, r.data = some (some v) → lineGood v first = true →
      Completes (.readCompletion port tag ⟨first, second⟩) s fun t =>
        [Out.readDone port tag (some v)] <+: t.out ∧ t.hp.reads = s.hp.reads.erase r ∧ Changes [.hp] [] s t) ∧
    (∀ v, r.data = some (some v) → lineGood v first = false → lineGood v second = true → Fresh 182 s →
      Completes (.readCompletion port tag ⟨first, second⟩) s fun t =>
        Out.readDone port tag (some v) ∈ t.out ∧ t.hp.reads = s.hp.reads.erase r ∧ Raised 182 s t) ∧
    (∀ v, r.data = some (some v) → lineGood v first = false → lineGood v second = false → Fresh 182 s → Fresh 183 s →
      Completes (.readCompletion port tag ⟨first, second⟩) s fun t =>
        Out.readPoison port tag r.under ∈ t.out ∧ Raised 182 s t ∧ Raised 183 s t ∧ t.hp.reads = s.hp.reads.erase r) ∧
    (r.data = some none →
      Completes (.readCompletion port tag ⟨first, second⟩) s fun t =>
        [Out.readPoison port tag r.under] <+: t.out ∧ t.hp.reads = s.hp.reads.erase r ∧
        get (Reg.HPT.POISON_RD_COUNT port) t = oneMore (Reg.HPT.POISON_RD_COUNT port) s ∧
        Changes [.hp] [Reg.HPT.POISON_RD_COUNT port] s t)) ∧
  (portTakes port s = true → ∀ a : HostAddr,
    Completes (.meminv port a tag) s fun t => [Out.invDone port tag] <+: t.out ∧ Changes [] [] s t) ∧
  (portTakes port s = true →
    Completes (.cxlMemUnsupported port tag) s fun t =>
      [Out.unsupported port tag] <+: t.out ∧
      (port.val < s.hp.aer.length → bitOf (t.hp.aer.getD port 0) 20 = true) ∧ Changes [.hp] [] s t)
/-! ### The ports (R103, R104, R106, R109, R113, R117, R119) -/

/-- A port's way up: PERST_N, configuration requests answered with Retry until CFG_READY and then with what the
configuration space holds, training and its failure, decoders. Readings of the model's own that clauses rest on: log
entries 24, 91, 101. -/
def Obligations.PortCommands : Prop :=
  ∀ s : State, Ready s → ∀ n : Fin 4,
  (portAlive n s = true → isSet (Reg.HPT.STS_CFG_READY n) s = false → ∀ x : ConfigAccess,
    Completes (.configRequest n x) s fun t => [Out.config n true 0] <+: t.out ∧ Changes [] [] s t) ∧
  (portAlive n s = true → isSet (Reg.HPT.STS_CFG_READY n) s = true →
    (∀ r : ConfigReg, Completes (.configRequest n (.read r)) s fun t =>
      [Out.config n false (configWord n r s)] <+: t.out ∧ Changes [] [] s t) ∧
    (∀ on : Bool, Completes (.configRequest n (.viralEnable on)) s fun t =>
      [Out.config n false 0] <+: t.out ∧ t.hp.viralDvsec.contains n.val = on ∧ Changes [.hp] [] s t) ∧
    (∀ (v : BitVec 7) (masked : Bool), Completes (.configRequest n (.msixEntry v masked)) s fun t =>
      Out.config n false 0 ∈ t.out ∧ t.hp.msixOpen.contains (n.val, v.toNat) = !masked ∧ Changes [.hp] [] s t) ∧
    (∀ mask : BitVec 32, Completes (.configRequest n (.aerClear mask)) s fun t =>
      [Out.config n false 0] <+: t.out ∧ t.hp.aer.getD n 0 &&& mask.toNat = 0 ∧ Changes [.hp] [] s t)) ∧
  (portAlive n s = true →
    Completes (.cfgReady n) s fun t =>
      get (Reg.HPT.STS_CFG_READY n) t = 1 ∧ Changes [] [Reg.HPT.STS_CFG_READY n, Reg.HPT.STS_MEDIA n] s t) ∧
  (portUsed n s = true → (∀ e ∈ s.upd.settings, e.1 / 131072 ≠ 8 + n.val) →
    Completes (.hpPerstAssert n) s fun t =>
      t.hp.perst = addNat s.hp.perst n ∧ get (Reg.HPT.LINK_WIDTH n) t = 0 ∧
      t.hp.decoders = s.hp.decoders.filter (fun h => h.port != n.val) ∧
      isSet (Reg.BLKCTL_ENABLE (8 + n)) t = false ∧ get (Reg.HPT.CTL_MEDIA_STAGE n) t = get (Reg.HPT.CTL_MEDIA_STAGE n) s ∧
      (∀ e ∈ t.hp.msixOpen, e.1 ≠ n.val) ∧
      isSet (Reg.HPT.STS_FENCED n) t = isSet (Reg.HPT.STS_FENCED n) s ∧
      isSet (Reg.HPT.STS_READ_HOLD n) t = inSafe s) ∧
  (portUsed n s = true → n.val ∈ s.hp.perst → flushHold s = false →
    Completes (.hpPerstRelease n) s fun t =>
      t.hp.perst = s.hp.perst.filter (fun k => k != n.val) ∧ Changes [.hp] [] s t) ∧
  (∀ x16 gt64 : Bool, portAlive n s = true → domainOn (4 + n) s = true →
    let strap := bitOf (get Reg.SYS.CAPS_HP_X16 s) n
    let degraded := strap && !x16 || !gt64
    Completes (.linkTrained n x16 gt64 true) s fun t =>
      (degraded = false ∨ isSet (Reg.FLS.LIVE (144 + n)) s = true ∨ Calm (144 + n) s →
        get (Reg.HPT.LINK_WIDTH n) t = (if strap && x16 then 2 else 1) ∧
        get (Reg.HPT.LINK_RATE n) t = (if gt64 then 2 else 1) ∧ get (Reg.HPT.LINK_DEGRADED n) t = b2n degraded ∧
        isSet (Reg.FLS.LIVE (144 + n)) t = degraded ∧
        Changes raiseParts ([Reg.HPT.LINK_WIDTH n, Reg.HPT.LINK_RATE n, Reg.HPT.LINK_DEGRADED n] ++
          raiseFields (144 + n)) s t) ∧
      (degraded = true → Fresh (144 + n) s → Raised (144 + n) s t)) ∧
  (∀ x16 gt64 : Bool, portAlive n s = true → domainOn (4 + n) s = true →
    Completes (.linkTrained n x16 gt64 false) s fun t =>
      (isSet (Reg.FLS.LIVE (148 + n)) s = true ∨ Calm (148 + n) s → get (Reg.HPT.LINK_WIDTH n) t = 0) ∧
      (Fresh (148 + n) s → Raised (148 + n) s t)) ∧
  (get (Reg.HPT.LINK_WIDTH n) s ≠ 0 →
    Completes (.linkDown n) s fun t =>
      get (Reg.HPT.LINK_WIDTH n) t = 0 ∧ get (Reg.HPT.LINK_RATE n) t = 0 ∧ get (Reg.EVT_STS (8 + n) 0) t = 1 ∧
      Changes [.hp] [Reg.HPT.LINK_WIDTH n, Reg.HPT.LINK_RATE n, Reg.HPT.LINK_DEGRADED n, Reg.EVT_STS (8 + n) 0] s t) ∧
  (∀ (d : Fin 4) (size ways : Nat), portAlive n s = true → isSet (Reg.HPT.STS_CFG_READY n) s = true →
    Completes (.hdmCommit n d size ways) s fun t =>
      [Out.hdmStatus n d (decoderMeets n d size ways s)] <+: t.out ∧
      if decoderMeets n d size ways s then
        bitOf (get (Reg.HPT.HDM_STS_COMMITTED n) t) d = true ∧
        { port := n, decoder := d, size := size, base := if d = 3 then (decoderSize n 0 s).getD 0 else 0 } ∈ t.hp.decoders
      else
        bitOf (get (Reg.HPT.HDM_STS_REFUSED n) t) d = true ∧ (n.val, d.val) ∈ t.hp.notCommitted ∧
        t.hp.decoders = s.hp.decoders ∧ Changes [.hp] [Reg.HPT.HDM_STS_REFUSED n] s t)

/-- Global Persistent Flush and Viral: Phase 1 is answered and changes only its count; Phase 2 is a save trigger,
which with SAV armed and no fence fences the ports and is answered after the drain, and with the drain done is
answered at once (R113, R124, R275, R278); a received Viral puts the port in read-hold and raises its source (R117).
Readings of the model's own that clauses rest on: log entry 88. -/
def Obligations.FlushAndViral : Prop :=
  ∀ s : State, Ready s → ∀ n : Fin 4, portLinked n s = true →
  (Completes (.gpfPhase1 n) s fun t =>
    [Out.gpfAck n 1 false] <+: t.out ∧ get (Reg.HPT.GPF_PH1 n) t = oneMore (Reg.HPT.GPF_PH1 n) s ∧
    Changes [] [Reg.HPT.GPF_PH1 n] s t) ∧
  (fenced s = false → savArmed s = true → Calm 181 s →
    Completes (.gpfPhase2 n) s fun t =>
      get (Reg.HPT.GPF_PH2 n) t = oneMore (Reg.HPT.GPF_PH2 n) s ∧ get (Reg.EVT_STS (8 + n) 1) t = 1 ∧
      n.val ∈ t.hp.gpfWaiting ∧ fenced t = true ∧ savState t = 2 ∧ get Reg.SAV.LAST_TRIG_TRIGGER t = 4 ∧
      get Reg.SAV.LAST_FRAME_FRAME t = now32 s ∧ (portUsed n s = true → get (Reg.HPT.STS_FENCED n) t = 1) ∧
      t.hp.writes = [] ∧ t.hp.stalled = [] ∧ isSet Reg.SYS.PERSIST_OK t = false) ∧
  (fenced s = true → savArmed s = true → savState s ≠ 9 → s.sav.drained = false → s.sav.resetFence = false →
    Completes (.gpfPhase2 n) s fun t =>
      get (Reg.HPT.GPF_PH2 n) t = oneMore (Reg.HPT.GPF_PH2 n) s ∧ n.val ∈ t.hp.gpfWaiting ∧
      get Reg.SAV.LAST_TRIG_TRIGGER t = Nat.lor (get Reg.SAV.LAST_TRIG_TRIGGER s) 4 % 256 ∧ savState t = savState s) ∧
  (fenced s = true → savArmed s = true → savState s ≠ 9 → s.sav.drained = true →
    Completes (.gpfPhase2 n) s fun t =>
      get (Reg.HPT.GPF_PH2 n) t = oneMore (Reg.HPT.GPF_PH2 n) s ∧ Out.gpfAck n 2 false ∈ t.out ∧
      get Reg.SAV.LAST_TRIG_TRIGGER t = Nat.lor (get Reg.SAV.LAST_TRIG_TRIGGER s) 4 % 256 ∧
      t.hp.gpfWaiting = s.hp.gpfWaiting) ∧
  (Completes (.viralReceived n) s fun t =>
    (isSet (Reg.FLS.LIVE (152 + n)) s = true ∨ Calm (152 + n) s →
      get (Reg.HPT.STS_READ_HOLD n) t = 1 ∧ get (Reg.HPT.STS_VIRAL_RCVD n) t = 1 ∧
      get (Reg.EVT_STS (8 + n) 2) t = 1 ∧
      Changes raiseParts ([Reg.HPT.STS_READ_HOLD n, Reg.HPT.STS_VIRAL_RCVD n, Reg.EVT_STS (8 + n) 2] ++
        raiseFields (152 + n)) s t) ∧
    (Fresh (152 + n) s → Raised (152 + n) s t))

/-! ### The mailbox (R114, R118, R124, R467) -/

/-- A command any port may send is answered Success with its payload, and nothing changes (R118); the poison list,
with POISON_OVF beyond 1,024 lines (R118), and an opcode that no rule names. The return codes are the model's (log
entry 40). -/
def Obligations.MailboxQueries : Prop :=
  (∀ s : State, Ready s → ∀ n : Fin 4, mailboxOpen n s = true → ∀ (c : Instr) (payload : List Nat),
    (c, payload) ∈ ([
      (.identify n, [s.pwr.serial.toNat, get Reg.SYS.CAP_ACK_EXPOSED_GIB s]),
      (.getEventRecords n, s.hp.eventLog.flatMap (fun e => e.1 :: e.2.length :: e.2)),
      (.getEventInterruptPolicy n, s.hp.policy.map (·.toNat)),
      (.getFwInfo n, [2, get (Reg.UPD.SLOT_RUNNING 0) s, bitsOf (pendingSet s) 0 1, get (Reg.UPD.VER_A_VERSION 0) s,
        get (Reg.UPD.VER_B_VERSION 0) s]),
      (.getTimestamp n, [s.pwr.rtc]), (.getSupportedLogs n, [1, 4 * opcodes.length]),
      (.getLog n, opcodes.flatMap (fun o => [o.1, b2n o.2])),
      (.identifyMemoryDevice n, [4 * get Reg.SYS.CAP_ACK_EXPOSED_GIB s, 0, 4 * get Reg.SYS.CAP_ACK_EXPOSED_GIB s, 1024]),
      (.getPartitionInfo n, [0, 4 * get Reg.SYS.CAP_ACK_EXPOSED_GIB s]),
      (.getHealthInfo n, [lifeUsed s, s.hp.dirtyShutdowns]), (.getAlertConfiguration n, s.hp.alert.map (·.toNat)),
      (.getShutdownState n, [s.hp.shutdownState]),
      (.getPersistenceState n, [persistWord s, get Reg.SYS.PERSIST_CHG_FRAME s,
        get Reg.SYS.PERSIST_WDRAW_COUNT s + get Reg.SYS.PERSIST_WDRAW_LAST_REASONS s * 2 ^ 16]),
      (.readContinuityRecord n, s.rsr.continuity),
      (.getRestoreProgress n, [rsrStage s, get Reg.RSR.DONE_GRAN s,
        get Reg.RSR.TOTAL_GRAN s - get Reg.RSR.DONE_GRAN s])] : List (Instr × List Nat)) →
    Completes c s fun t => [Out.mailbox n 0 payload] <+: t.out ∧ Changes [] [] s t) ∧
  (∀ s : State, Ready s → ∀ n : Fin 4, mailboxOpen n s = true →
    let ls := s.dram.poisoned.filter (fun l => 64 * l < exposedBytes s)
    (Completes (.getPoisonList n) s fun t =>
      [Out.mailbox n 0 (b2n (decide (1024 < ls.length)) :: (ls.take 1024).map (64 * ·))] <+: t.out ∧
      (1024 < ls.length → get (Reg.EVT_STS (8 + n) 4) t = 1) ∧ Changes [] [Reg.EVT_STS (8 + n) 4] s t) ∧
    (∀ op : BitVec 16, (∀ o ∈ opcodes, o.1 ≠ op.toNat) →
      Completes (.mailboxUnsupported n op) s fun t => [Out.mailbox n 3 []] <+: t.out ∧ Changes [] [] s t))

/-- Management commands on the management port with no fence active (R114, R118, R467); on another port they are
unsupported and counted (R118), and under a fence they answer Busy (R124). The return codes are the model's (log entry
40). Readings of the model's own that clauses rest on: log entry 92. -/
def Obligations.MailboxManagement : Prop :=
  (∀ s : State, Ready s → ∀ n : Fin 4, mailboxOpen n s = true → n.val = get Reg.SYS.MGMT_PORT_PORT s →
    fenced s = false →
    (Completes (.clearEventRecords n) s fun t =>
      [Out.mailbox n 0 []] <+: t.out ∧ (PersistInv s → t.hp.eventLog = []) ∧ Changes [] [] s t) ∧
    (∀ p, Completes (.setEventInterruptPolicy n p) s fun t =>
      t.hp.policy = p ∧ [Out.mailbox n 0 []] <+: t.out ∧ Changes [] [] { s with hp := { s.hp with policy := p } } t) ∧
    (∀ x, Completes (.setTimestamp n x) s fun t =>
      t.pwr.rtc = x ∧ [Out.mailbox n 0 []] <+: t.out ∧ Changes [] [] { s with pwr := { s.pwr with rtc := x } } t) ∧
    (∀ x, Completes (.setAlertConfiguration n x) s fun t =>
      t.hp.alert = x ∧ [Out.mailbox n 0 []] <+: t.out ∧ Changes [] [] { s with hp := { s.hp with alert := x } } t) ∧
    (∀ x, Completes (.setShutdownState n x) s fun t =>
      t.hp.shutdownState = x ∧ t.hp.dirtyShutdowns = s.hp.dirtyShutdowns ∧ [Out.mailbox n 0 []] <+: t.out ∧
      Changes [] [] { s with hp := { s.hp with shutdownState := x } } t) ∧
    (Completes (.acknowledgeCapacity n) s fun t =>
      get Reg.SYS.PERSIST_CAPACITY t = 0 ∧ [Out.mailbox n 0 []] <+: t.out ∧
      Changes [] [Reg.SYS.PERSIST_CAPACITY] s t) ∧
    (∀ addr, isSet Reg.SAF.FINJ_KEY_OPEN s = true → addr < exposedBytes s →
      Completes (.injectPoison n addr) s fun t =>
        isPoisoned (addr / 64) t = true ∧ (∀ e ∈ t.dram.writes, e.line ≠ addr / 64) ∧
        [Out.mailbox n 0 []] <+: t.out) ∧
    (∀ addr, isSet Reg.SAF.FINJ_KEY_OPEN s = false →
      Completes (.injectPoison n addr) s fun t => [Out.mailbox n 3 []] <+: t.out ∧ Changes [] [] s t) ∧
    (∀ (addr : Nat) (data : Line) (tag : Nat), let line := addr / 64
      addr < exposedBytes s → writeRefused n line s = false → unrestored (granuleOf line s) s = false →
      writeFits line s = true → replaysOf line s = [] → (∀ e ∈ s.dram.writes, e.line ≠ line) →
      Completes (.clearPoison n addr data tag) s fun t =>
        lineNow line t = (data, false) ∧
        (∃ w ∈ t.hp.writes, w.port = n ∧ w.tag = tag ∧ w.line = line ∧ w.mailbox = true)) ∧
    (∀ data : List Word, let c := (data.getD 0 0).toNat % 2 ^ 16
      let slotB := !bitOf s.upd.running c
      s.upd.transfer = none → data ≠ [] → c < 4 → (c, slotB) ∉ pendingOf s → data.length ≤ slotWords c →
      Completes (.transferFw n (.initiate 0 data)) s fun t =>
        t.upd.transfer = some { component := c, slotB := slotB, next := data.length } ∧
        get Reg.UPD.DL_ACTIVE t = 1 ∧ get Reg.UPD.DL_COMPONENT t = c ∧ (imageOf c slotB t).staged = false ∧
        [Out.mailbox n 1 []] <+: t.out) ∧
    (∀ (data : List Word) (x : Transfer), s.upd.transfer = some x → x.next + data.length ≤ slotWords x.component →
      Completes (.transferFw n (.cont x.next data)) s fun t =>
        t.upd.transfer = some { x with next := x.next + data.length } ∧
        get Reg.UPD.DL_KIB t = ((x.next + data.length) / 256) % 2 ^ Reg.UPD.DL_KIB.w ∧ [Out.mailbox n 0 []] <+: t.out) ∧
    (∀ (first : Nat) (data : List Word) (x : Transfer), s.upd.transfer = some x → first ≠ x.next →
      Completes (.transferFw n (.cont first data)) s fun t =>
        t.upd.transfer = none ∧ [Out.mailbox n 2 []] <+: t.out) ∧
    (∀ (signed : Bool) (x : Transfer), s.upd.transfer = some x →
      Completes (.transferFw n (.finish signed)) s fun t =>
        t.upd.transfer = none ∧
        (transferMatches x s = true → get (Reg.EVT_STS 0xB1 0) t = 1 ∧ [Out.mailbox n 0 []] <+: t.out) ∧
        (transferMatches x s = false → [Out.mailbox n 2 []] <+: t.out))) ∧
  (∀ s : State, Ready s → ∀ (n : Fin 4) (c : Instr), mailboxOpen n s = true →
    (c = .clearEventRecords n ∨ (∃ p, c = .setEventInterruptPolicy n p) ∨ (∃ p, c = .transferFw n p) ∨
      (∃ x, c = .setTimestamp n x) ∨ (∃ x, c = .setAlertConfiguration n x) ∨ (∃ x, c = .setShutdownState n x) ∨
      (∃ x, c = .injectPoison n x) ∨ (∃ x d g, c = .clearPoison n x d g) ∨ c = .acknowledgeCapacity n) →
    (n.val ≠ get Reg.SYS.MGMT_PORT_PORT s →
      Completes c s fun t => [Out.mailbox n 3 []] <+: t.out ∧
        get Reg.SYS.FOREIGN_WR_COUNT t = oneMore Reg.SYS.FOREIGN_WR_COUNT s ∧
        get Reg.SYS.FOREIGN_WR_PORT t = n ∧ Changes [] [Reg.SYS.FOREIGN_WR_COUNT, Reg.SYS.FOREIGN_WR_PORT] s t) ∧
    (n.val = get Reg.SYS.MGMT_PORT_PORT s → fenced s = true →
      Completes c s fun t => [Out.mailbox n 6 []] <+: t.out ∧ Changes [] [] s t))
/-! ### DRAM channels (R128, R136 to R148, R152) -/

/-- A command slot: the picked entry's row is opened, another row is closed, a read issues, or a write lands; of
memory only the line of the issued write changes (R138 to R140). Readings of the model's own that clauses rest on: log
entries 34, 37, 38. -/
def Obligations.DramCommandSlot : Prop :=
  ∀ s : State, Ready s → ∀ (ch : Fin 16) (sub : Fin 2) (bankReady actReady : List Nat),
  channelRuns ch s = true → (∀ e ∈ s.dram.writes, e.ch = ch → e.sub = sub → e.issued = false) →
  unreadPartials ch sub s = [] → Uninjected s →
  let v := nextMode ch sub (subOf ch sub s) s
  let u := setSub ch sub v s
  let l := if v.write then waitingWrites ch sub u else waitingReads ch sub u
  let frame := fun (t : State) => Changes [.dram] (Reg.DCH.STS_MODE ch :: depths ch) s t
  let still := fun (t : State) => ∀ x, readByte x t = readByte x s
  (pick ch sub v.rot l bankReady actReady u = none →
    Completes (.dramCommandIssue ch sub bankReady actReady) s fun t =>
      subOf ch sub t = v ∧ t.dram.writes = s.dram.writes ∧ t.dram.reads = s.dram.reads ∧ still t ∧ frame t) ∧
  (∀ c, pick ch sub v.rot l bankReady actReady u = some (c, .activate) →
    Completes (.dramCommandIssue ch sub bankReady actReady) s fun t =>
      [Out.dram ch sub "ACT" [bankKey c.loc, c.loc.row]] <+: t.out ∧
      { ch := ch, sub := sub, rank := c.loc.rank, bank := c.loc.bg * 4 + c.loc.bank, row := c.loc.row, streak := 0 } ∈
        t.dram.rows ∧ still t ∧ frame t) ∧
  (∀ c, pick ch sub v.rot l bankReady actReady u = some (c, .precharge) →
    Completes (.dramCommandIssue ch sub bankReady actReady) s fun t =>
      [Out.dram ch sub "PRE" [bankKey c.loc]] <+: t.out ∧ openRow ch sub c.loc t = none ∧ still t ∧ frame t) ∧
  (∀ c, v.write = false → pick ch sub v.rot l bankReady actReady u = some (c, .column) →
    Completes (.dramCommandIssue ch sub bankReady actReady) s fun t =>
      [Out.dram ch sub "RD" [c.line]] <+: t.out ∧ (∀ r ∈ t.dram.reads, r.line = c.line → r.issued = true) ∧
      still t ∧ frame t) ∧
  (∀ c e, v.write = true → pick ch sub v.rot l bankReady actReady u = some (c, .column) →
    s.dram.writes.find? (fun e => e.line == c.line && !e.issued) = some e → e.be = allBytes →
    Completes (.dramCommandIssue ch sub bankReady actReady) s fun t =>
      [Out.dram ch sub "WR" [c.line]] <+: t.out ∧ readLine c.line t = e.data ∧ isPoisoned c.line t = e.poison ∧
      (∀ x, ¬ (64 * c.line ≤ x ∧ x < 64 * c.line + 64) → readByte x t = readByte x s) ∧
      (∀ e ∈ t.dram.writes, e.line = c.line → e.issued = true) ∧ frame t) ∧
  (∀ c e, v.write = true → pick ch sub v.rot l bankReady actReady u = some (c, .column) →
    s.dram.writes.find? (fun e => e.line == c.line && !e.issued) = some e → e.be ≠ allBytes →
    Completes (.dramCommandIssue ch sub bankReady actReady) s fun t =>
      [Out.dram ch sub "WR" [c.line]] <+: t.out ∧ readLine c.line t = mergeLine (readLine c.line s) e.be e.data ∧
      (∀ x, ¬ (64 * c.line ≤ x ∧ x < 64 * c.line + 64) → readByte x t = readByte x s) ∧ frame t)

/-- Ages, idle pages, power-down, refresh and temperature (R137, R139, R144, R145, R147). Readings of the model's own
that clauses rest on: log entries 48, 94. -/
def Obligations.DramUpkeep : Prop :=
  ∀ s : State, Ready s → ∀ ch : Fin 16,
  (Completes .urgencyUpdate s fun t =>
    t.dram.reads.map (·.age) = s.dram.reads.map (fun r => if r.issued then r.age else r.age + 16) ∧
    (∀ x, readByte x t = readByte x s) ∧
    Changes [.dram] (s.dram.reads.map (fun r => Reg.QOS.MISSES_COUNT (requester r.who))) s t) ∧
  (∀ (sub : Fin 2) (bank : Nat), channelRuns ch s = true →
    s.dram.rows.any (fun r => r.ch == ch.val && r.sub == sub.val && r.rank * 32 + r.bank == bank) = true →
    Completes (.pageIdleExpiry ch sub bank) s fun t =>
      [Out.dram ch sub "PRE" [bank]] <+: t.out ∧ (∀ x, readByte x t = readByte x s) ∧
      t.dram.rows = s.dram.rows.filter (fun r =>
        !(r.ch == ch.val && r.sub == sub.val && r.rank == bank / 32 && r.bank == bank % 32)) ∧
      Changes [.dram] [] s t) ∧
  (∀ rank : Fin 4, channelRuns ch s = true → isSet (Reg.DCH.PD_PD_EN ch) s = true → rankQueued ch rank s = false →
    s.dram.rows.any (fun r => r.ch == ch.val && r.rank == rank.val) = false → owed ch s < 1 →
    s.dram.poweredDown.contains (ch.val, rank.val) = false →
    Completes (.pdTimerExpiry ch rank) s fun t =>
      [Out.dram ch 0 "PDE" [rank.val]] <+: t.out ∧ t.dram.poweredDown = s.dram.poweredDown ++ [(ch.val, rank.val)] ∧
      (∀ x, readByte x t = readByte x s) ∧ Changes [.dram] [] s t) ∧
  (channelRuns ch s = true →
    Completes (.refreshInterval ch) s fun t =>
      owed ch t = min 5 (owed ch s + 1) ∧
      get (Reg.DCH.REF_TREFI_NS ch) t = (if isSet (Reg.DCH.TEMP_HOT ch) s then 1950 else 3900) ∧
      Changes [] [Reg.DCH.STS_OWED ch, Reg.DCH.STS_MODE ch, Reg.DCH.REF_TREFI_NS ch] s t) ∧
  (channelRuns ch s = true → owed ch s = 5 →
    Completes (.refreshIssue ch false) s fun t =>
      owed ch t = 4 ∧ get (Reg.DCH.REF_CNT_FORCED ch) t = oneMore (Reg.DCH.REF_CNT_FORCED ch) s ∧
      get (Reg.EVT_STS (0x20 + ch) 1) t = 1 ∧ [Out.dram ch 0 "REFab" []] <+: t.out ∧
      (∀ r ∈ t.dram.rows, r.ch ≠ ch) ∧ (∀ x, readByte x t = readByte x s) ∧
      Changes [.dram] [Reg.DCH.STS_OWED ch, Reg.DCH.STS_MODE ch, Reg.DCH.REF_CNT_FORCED ch,
        Reg.EVT_STS (0x20 + ch) 1] s t) ∧
  (channelRuns ch s = true → slackOk ch s = true → channelWaits ch s = false →
    Completes (.refreshIssue ch true) s fun t =>
      owed ch t = owed ch s ∧ [Out.dram ch 0 "RFMab" []] <+: t.out ∧ (∀ x, readByte x t = readByte x s) ∧
      Changes [.dram] [Reg.DCH.STS_MODE ch] s t) ∧
  (isSet (Reg.DCH.TEMP_HOT ch) s = true → 50 ≤ s.dram.cool.getD ch 0 →
    Completes (.hotClear ch) s fun t =>
      get (Reg.DCH.TEMP_HOT ch) t = 0 ∧ get (Reg.DCH.STS_HOT ch) t = 0 ∧
      Changes [] [Reg.DCH.TEMP_HOT ch, Reg.DCH.STS_HOT ch] s t)

/-- What a read line brings: served as good, corrected and counted, asked of the twin, repaired with zeros where a
clean granule has no record, or miscorrected to an unspecified value in that line alone (R141, R161 to R164). Readings
of the model's own that clauses rest on: log entry 73. -/
def Obligations.DramReadOutcomes : Prop :=
  ∀ s : State, Ready s → ∀ (line : Nat) (finder : Finder) (err : LineErrors),
  readMade line finder s = true → rankBlocked line s = false → s.hp.stalled = [] →
  rankOfLine line s < 64 → (lineLoc line s).ch < 16 →
  let out := decodeLine (isSet Reg.DMC.CFG_X8 s) err
  let i := rankOfLine line s
  let c := Instr.dramReadDone line finder err
  (out = .good →
    Completes c s fun t =>
      (∀ r ∈ t.hp.reads, r.line = line → r.data ≠ none) ∧ (∀ r ∈ t.dram.reads, r.line ≠ line) ∧
      (∀ x, readByte x t = readByte x s) ∧ Changes [.hp, .dram] (depths (lineLoc line s).ch) s t) ∧
  (out = .corrected → get (Reg.SPR.RANK_CE_WIN i) s < get Reg.SPR.CFG_CE_LIMIT s →
    Completes c s fun t =>
      get (Reg.SPR.RANK_CE_WIN i) t = oneMore (Reg.SPR.RANK_CE_WIN i) s ∧ (∀ r ∈ t.dram.reads, r.line ≠ line) ∧
      (finder = .scrub → get Reg.SCR.FOUND_CE t = oneMore Reg.SCR.FOUND_CE s) ∧ (∀ x, readByte x t = readByte x s) ∧
      Changes [.hp, .dram] (Reg.SPR.RANK_CE_WIN i :: Reg.SCR.FOUND_CE :: depths (lineLoc line s).ch) s t) ∧
  (out = .miscorrected → get (Reg.SPR.RANK_CE_WIN i) s < get Reg.SPR.CFG_CE_LIMIT s →
    Completes c s fun t =>
      (∀ r ∈ t.dram.reads, r.line ≠ line) ∧
      (∀ x, ¬ (64 * line ≤ x ∧ x < 64 * line + 64) → readByte x t = readByte x s) ∧
      ((∃ e ∈ s.dram.writes, e.line = line) → youngest line s ≠ none → ∀ x, readByte x t = readByte x s) ∧
      Changes [.hp, .dram] (Reg.SPR.RANK_CE_WIN i :: Reg.SCR.FOUND_CE :: depths (lineLoc line s).ch) s t) ∧
  (out = .uncorrectable → repairOf line s = none → twinServes line s = true →
    Completes c s fun t =>
      [Out.twin "REPAIR_REQUEST" [line]] <+: t.out ∧
      repairOf line t = some { line := line, finder := finder, stage := .twin } ∧ (∀ x, readByte x t = readByte x s) ∧
      Changes [.dram] [Reg.SCR.FOUND_UE, Reg.EVT_STS 0x12 1] s t) ∧
  (out = .uncorrectable → repairOf line s = none → twinServes line s = false → inUndo (64 * line) s = false →
    inSpill (64 * line) s = false → entryInUse (granuleOf line s) s = true →
    (entryOf (granuleOf line s) s).state = .clean → (entryOf (granuleOf line s) s).lost = false →
    look s.nand.map (granuleOf line s) = none →
    Completes c s fun t =>
      readLine line t = 0 ∧ isPoisoned line t = false ∧ get Reg.SPR.REPAIR_SEALED t = oneMore Reg.SPR.REPAIR_SEALED s ∧
      (∀ x, ¬ (64 * line ≤ x ∧ x < 64 * line + 64) → readByte x t = readByte x s) ∧
      Changes [.hp, .dram] ([Reg.SPR.REPAIR_SEALED, Reg.SCR.FOUND_UE, Reg.EVT_STS 0x12 1] ++
        depths (lineLoc line s).ch) s t)

/-- Write CRC errors, and repairs from the twin and from the sealed copy (R143, R164 to R166). Readings of the model's
own that clauses rest on: log entries 39, 94. -/
def Obligations.DramErrorCommands : Prop :=
  ∀ s : State, Ready s → ∀ line : Nat, s.hp.stalled = [] →
  (∀ (ch : Fin 16) (sub : Fin 2) (e : WEntry), channelRuns ch s = true →
    s.dram.writes.find? (fun e => e.ch == ch.val && e.sub == sub.val && e.line == line && e.issued) = some e →
    e.retries < 2 →
    Completes (.writeCrcError ch sub line) s fun t =>
      get (Reg.DCH.CRC_CNT_RETRIES ch) t = oneMore (Reg.DCH.CRC_CNT_RETRIES ch) s ∧
      (∀ e ∈ t.dram.writes, e.line = line → e.issued = false) ∧ (∀ x, readByte x t = readByte x s) ∧
      Changes [.dram] [Reg.DCH.CRC_CNT_RETRIES ch] s t) ∧
  (∀ (ch : Fin 16) (sub : Fin 2) (e : WEntry), channelRuns ch s = true →
    s.dram.writes.find? (fun e => e.ch == ch.val && e.sub == sub.val && e.line == line && e.issued) = some e →
    2 ≤ e.retries → Fresh (128 + ch) s → rankOfLine line s < 64 →
    Completes (.writeCrcError ch sub line) s fun t =>
      get (Reg.DCH.CRC_CNT_EXHAUSTED ch) t = oneMore (Reg.DCH.CRC_CNT_EXHAUSTED ch) s ∧
      get (Reg.EVT_STS (0x20 + ch) 2) t = 1 ∧ Raised (128 + ch) s t) ∧
  (∀ r, repairOf line s = some r → r.stage = .twin → entryInUse (granuleOf line s) s = true →
    (entryOf (granuleOf line s) s).state = .clean → (entryOf (granuleOf line s) s).lost = false →
    look s.nand.map (granuleOf line s) ≠ none → inUndo (64 * line) s = false → inSpill (64 * line) s = false →
    Completes (.twinRepairTimeout line) s fun t =>
      repairOf line t = some { r with line := line, stage := .sealed } ∧ (∀ x, readByte x t = readByte x s) ∧
      Changes [.dram, .nand] [] s t) ∧
  (∀ r d, repairOf line s = some r → r.stage = .sealed → sealedLine line s = some d →
    Completes (.sealedCopyFetchDone line true) s fun t =>
      (r.written = 0 → readLine line t = d) ∧ repairOf line t = none ∧
      (r.written = allBytes → ∀ x, readByte x t = readByte x s) ∧
      get Reg.SPR.REPAIR_SEALED t = oneMore Reg.SPR.REPAIR_SEALED s ∧
      (∀ x, ¬ (64 * line ≤ x ∧ x < 64 * line + 64) → readByte x t = readByte x s) ∧
      Changes [.hp, .dram, .nand] (Reg.SPR.REPAIR_SEALED :: depths (lineLoc line s).ch) s t) ∧
  (∀ r, repairOf line s = some r → r.stage = .sealed → r.written ≠ allBytes → spillQueue line s = none →
    Fresh 189 s → rankOfLine line s < 64 → get (Reg.SPR.RANK_STATE (rankOfLine line s)) s = 6 →
    Completes (.sealedCopyFetchDone line false) s fun t =>
      isPoisoned line t = true ∧ repairOf line t = none ∧ Raised 189 s t ∧
      get Reg.SPR.POISONED_COUNT t = oneMore Reg.SPR.POISONED_COUNT s)

/-- The error window, a migration within its credits and its end (R41, R170 to R172). Readings of the model's own that
clauses rest on: log entries 48, 94. -/
def Obligations.SparingCommands : Prop :=
  ∀ s : State, Ready s →
  (now s % 2 ^ 20 = 0 →
    Completes .ceWindowStart s fun t =>
      (∀ i < 64, get (Reg.SPR.RANK_CE_WIN i) t = 0) ∧
      Changes [] ((List.range 64).map Reg.SPR.RANK_CE_WIN) s t) ∧
  (∀ line : Nat, pageReady 0x11 s = true → isSet Reg.SPR.MIG_STS_ACTIVE s = true → fenced s = false →
    s.dram.selfRefresh = false → migFree s = true → atPointer line s = true → repairOf line s = none →
    creditFor (poolAddr 0x11 0x118) false s = true →
    creditFor (poolAddr (0x20 + (lineLoc line s).ch) 0x124) false s = true →
    Completes (.migrationCopy line {} false) s fun t =>
      get Reg.SPR.MIG_PTR_INDEX t = (get Reg.SPR.MIG_PTR_INDEX s + 1) % 2 ^ 32 ∧ (∀ x, readByte x t = readByte x s) ∧
      Changes [.hp, .dram] ([Reg.SPR.MIG_PTR_INDEX, Reg.SPR.MIG_ETA_FRAMES] ++ depths (lineLoc line s).ch) s t) ∧
  (∀ (line : Nat) (err : LineErrors) (spareBad : Bool), copyReady line s = true →
    creditFor (poolAddr 0x11 0x118) false s = false →
    Completes (.migrationCopy line err spareBad) s fun t =>
      (poolOf (poolAddr 0x11 0x118) t).stallSeen = true ∧ Changes [.pools] [] s t) ∧
  (isSet Reg.SPR.MIG_STS_ACTIVE s = true → rankLines s ≤ get Reg.SPR.MIG_PTR_INDEX s →
    let i := spareIndex (get Reg.SPR.MIG_STS_DST s) s
    i < 64 → get Reg.SPR.MIG_STS_SRC s < 64 → i ≠ get Reg.SPR.MIG_STS_SRC s → i ∉ s.dram.retireAfter →
    Completes .migDone s fun t =>
      get Reg.SPR.MIG_STS_ACTIVE t = 0 ∧ get (Reg.SPR.RANK_STATE i) t = 1 ∧
      get (Reg.SPR.RANK_STATE (get Reg.SPR.MIG_STS_SRC s)) t = 6 ∧ get (Reg.EVT_STS 0x11 2) t = 1)

/-- Initial training, a retraining, and its good and its bad end (R154 to R158). Readings of the model's own that
clauses rest on: log entry 48. -/
def Obligations.TrainingCommands : Prop :=
  ∀ s : State, Ready s →
  (∀ r : TrainResult, get Reg.SYS.BOOT_STAGE s = 6 → s.dram.trained = false → r.failed = [] → r.mismatch = [] →
    s.upd.pendingRanks = [] →
    Completes (.dramTrainingDone r) s fun t =>
      t.dram.trained = true ∧ t.dram.mem = s.dram.mem ∧
      ∀ c < 16, dramPresent c s = true → get (Reg.DCH.TIMING_TRC_NS c) t = r.trcNs % 256 ∧
        get (Reg.DCH.TIMING_TWTRL_NS c) t = r.twtrlNs % 256 ∧ get (Reg.DCH.TIMING_TXP_NS c) t = r.txpNs % 256) ∧
  (∀ r : TrainResult, get Reg.SYS.BOOT_STAGE s = 6 → s.dram.trained = false →
    Completes (.dramTrainingDone r) s fun t =>
      (∀ c : Fin 16, Calm (128 + c) s) → Calm 238 s → t.dram.trained = true ∧
        (∀ i ∈ failedRanks r s, get Reg.SYS.PERSIST_CAPACITY t = 0 → get (Reg.SPR.RANK_STATE i) t ≠ 1)) ∧
  (∀ rank : Fin 64, s.dram.trained = true → channelRuns (rank.val / 4) s = true →
    get (Reg.SPR.RANK_STATE rank) s ≠ 0 → isSet (Reg.SPR.RANK_MARGINAL rank) s = false →
    (∀ j ∈ s.dram.retraining, j / 4 ≠ rank.val / 4) → s.dram.retrainWaiting.any (fun w => w.1 == rank.val) = false →
    Completes (.retrain rank false) s fun t =>
      t.dram.retraining = s.dram.retraining ++ [rank.val] ∧ get (Reg.DCH.STS_MODE (rank.val / 4)) t = 3 ∧
      (∀ x, readByte x t = readByte x s) ∧ Changes [.dram] [Reg.DCH.STS_MODE (rank.val / 4)] s t) ∧
  (∀ rank : Fin 64, rank.val ∈ s.dram.retraining → s.dram.retrainWaiting = [] →
    retrainCount rank s < get Reg.SPR.TRAIN_RETRAIN_MAX s →
    Completes (.retrainDone rank true) s fun t =>
      rank.val ∉ t.dram.retraining ∧ get (Reg.SPR.RANK_RETRAINS rank) t = oneMore (Reg.SPR.RANK_RETRAINS rank) s ∧
      look t.dram.lastGood rank = look t.dram.settings rank ∧
      (∀ x, readByte x t = readByte x s) ∧ portsCore t.hp = portsCore s.hp) ∧
  (∀ rank : Fin 64, rank.val ∈ s.dram.retraining → s.dram.retrainWaiting = [] → fenced s = false →
    Calm rank s → Calm (64 + rank) s →
    Completes (.retrainDone rank false) s fun t =>
      rank.val ∉ t.dram.retraining ∧ get (Reg.SPR.RANK_RETRAINS rank) t = oneMore (Reg.SPR.RANK_RETRAINS rank) s ∧
      get (Reg.SPR.RANK_MARGINAL rank) t = 1 ∧ get (Reg.EVT_STS 0x11 0) t = 1 ∧
      (Fresh rank s → get (Reg.FLS.STICKY rank) t = 1) ∧
      (∀ w, look s.dram.lastGood rank = some w → look t.dram.settings rank = some w) ∧
      (∀ x, readByte x t = readByte x s))

/-- A rank group changes its refresh (R148), and an address is translated (R152). Readings of the model's own that
clauses rest on: log entries 16, 94. -/
def Obligations.MapCommands : Prop :=
  ∀ s : State, Ready s → ∀ w : Writer,
  (∀ req : BitVec 8, Reaches w 0x101A8 req.toNat s →
    let asked := fun (g : Nat) => bitsOf req.toNat (2 * g) 2
    ((∀ g, g < 4 → groupUsed g s = false ∨ asked g = pasrReq g s) → (∀ g, g < 4 → asked g ≠ 3) →
      Completes (.pasrRequest w req) s fun t =>
        get Reg.DMC.PASR_REQ t = req.toNat ∧ (∀ x, readByte x t = readByte x s) ∧
        (∀ g, g < 4 → pasrState g s ≠ 3 → pasrState g s ≠ asked g → bitOf (get Reg.SYS.CAPS_DRAM_GROUPS s) g = true →
          g < s.dram.pasrTarget.length → pasrState g t = 3 ∧ t.dram.pasrTarget.getD g 0 = asked g)) ∧
    ((∃ g, g < 4 ∧ groupUsed g s = true ∧ asked g ≠ pasrReq g s) →
      Completes (.pasrRequest w req) s fun t =>
        get (Reg.BLKWERR_BUSY 0x10) t = 1 ∧
        Changes [] [Reg.BLKWERR_BUSY 0x10, Reg.BLKWERR_OFFSET 0x10, Reg.BLKWERR_SOURCE 0x10] s t)) ∧
  (∀ (g : Fin 4) (r : TrainResult), pasrState g s = 3 → pasrReq g s = s.dram.pasrTarget.getD g 0 →
    s.dram.pasrTarget.getD g 0 < 3 →
    (s.dram.pasrFrom.getD g 0 ≠ 2 →
      Completes (.pasrDone g r) s fun t =>
        pasrState g t = s.dram.pasrTarget.getD g 0 ∧ get (Reg.EVT_STS 0x10 1) t = 1 ∧
        (s.dram.pasrTarget.getD g 0 = 2 → [Out.rail (6 + g) false] <+: t.out) ∧
        Changes [] [Reg.DMC.PASR_STATE, Reg.EVT_STS 0x10 1, Reg.PWR.STS_RAILS_ON] s t) ∧
    (s.dram.pasrFrom.getD g 0 = 2 → s.dram.pasrTarget.getD g 0 ≠ 2 → r.failed = [] → r.mismatch = [] →
      (∃ i, 16 * g.val ≤ i ∧ i < 16 * g.val + 16 ∧ get (Reg.SPR.RANK_STATE i) s ≠ 0 ∧
        get (Reg.SPR.RANK_STATE i) s ≠ 7) →
      Completes (.pasrDone g r) s fun t =>
        pasrState g t = s.dram.pasrTarget.getD g 0 ∧ get (Reg.EVT_STS 0x10 1) t = 1 ∧
        (∀ x, readByte x t = readByte x s))) ∧
  (∀ hi : BitVec 2, Reaches w 0x101B4 hi.toNat s →
    Completes (.xlate w hi) s fun t =>
      t.dram.xlateBusy = true ∧ get Reg.DMC.XLATE_HI_ADDR t = hi.toNat ∧ get Reg.DMC.XLATE_RES_VALID t = 0 ∧
      (∀ x, readByte x t = readByte x s) ∧ Changes [.dram] [Reg.DMC.XLATE_HI_ADDR, Reg.DMC.XLATE_RES_VALID] s t) ∧
  (∀ d, s.dram.xlateBusy = true →
    mapAddress (get Reg.DMC.XLATE_LO_ADDR s * 64 + get Reg.DMC.XLATE_HI_ADDR s * 2 ^ 38) s = some d →
    Completes .xlateDone s fun t =>
      get Reg.DMC.XLATE_RES_CH t = d.ch % 16 ∧ get Reg.DMC.XLATE_RES_SUB t = d.sub % 2 ∧
      get Reg.DMC.XLATE_RES_RANK t = d.rank % 4 ∧ get Reg.DMC.XLATE_RES_BG t = d.bg % 8 ∧
      get Reg.DMC.XLATE_RES_BANK t = d.bank % 4 ∧ get Reg.DMC.XLATE_RES_COL t = d.col % 128 ∧
      get Reg.DMC.XLATE_ROW_ROW t = d.row % 2 ^ 17 ∧ get Reg.DMC.XLATE_RES_VALID t = 1 ∧
      get Reg.DMC.XLATE_RES_OUT_OF_RANGE t = 0 ∧ t.dram.xlateBusy = false)
/-! ### Transactions (R177 to R191) -/

/-- OPEN, ABORT, the tag and COMMIT of a context: accepted, or refused with the RESULT of R179 and no other effect; a
commit request is accepted for the next tick, or for the one after from the commit cut-off on (R58, R186), a domain
request for two ticks later (R195), and an attached twin is asked to prepare (R187). What requests that wait in a port
do after the command is not said here. Readings of the model's own that clauses rest on: log entries 55, 56. -/
def Obligations.ContextWrites : Prop :=
  (∀ s : State, Ready s → ∀ (w : Writer) (port : Fin 4) (c : Fin 16), let g := 16 * port.val + c.val
    (Reaches w (ctxAddr port c 0x100) 1 s →
      Completes (.ctxOpen w port c) s fun t =>
        if openRefusal g s = 0 then
          ctxState g t = 1 ∧ get (ctxRes g) t = 0 ∧ (∀ f ∈ ctxFlags g, get f t = 0) ∧
          get (ctxFrm g) t = ((look s.txn.ends g).getD 0) % 2 ^ 32 ∧
          Changes [] ([ctxSts g, ctxRes g, ctxFrm g] ++ ctxFlags g ++ txnShown) s t
        else get (ctxRes g) t = openRefusal g s ∧ Changes [] [ctxRes g] s t) ∧
    (Reaches w (ctxAddr port c 0x100) 2 s → ctxState g s = 1 ∨ (ctxState g s = 2 ∧ pendingRequest g s = true) →
      Completes (.ctxAbort w port c) s fun t =>
        ctxState g t = 5 ∧ get (ctxRes g) t = 0 ∧ t.txn.replays = s.txn.replays ++ [g] ∧
        (∀ r ∈ t.txn.requests, r.ctx ≠ g) ∧ (∀ q ∈ t.hp.stalled, q.ctx ≠ some g) ∧
        (∀ x, readByte x t = readByte x s) ∧
        (s.hp.stalled = [] →
          Changes [.txn] ([ctxSts g, ctxRes g, ctxFrm g] ++ replayFields ++ txnShown ++ holdWaits) s t)) ∧
    (Reaches w (ctxAddr port c 0x100) 2 s → ctxState g s ≠ 1 → (ctxState g s = 2 → pendingRequest g s = false) →
      Completes (.ctxAbort w port c) s fun t => get (ctxRes g) t = 1 ∧ Changes [] [ctxRes g] s t) ∧
    (∀ (tag : BitVec 22) (parts : BitVec 10),
      Reaches w (ctxAddr port c 0x140) (tag.toNat + parts.toNat * 2 ^ 22) s →
      (ctxState g s = 0 ∨ ctxState g s = 4 ∨ ctxState g s = 6 → 2 ≤ parts.toNat ∧ parts.toNat ≤ 512 →
        Completes (.ctxTagWrite w port c tag parts) s fun t =>
          ctxTag g t = tag.toNat ∧ ctxParts g t = parts.toNat ∧
          Changes [] [Reg.TXC.CTX_TAG_TAG port c, Reg.TXC.CTX_TAG_PARTS port c] s t) ∧
      (ctxState g s = 0 ∨ ctxState g s = 4 ∨ ctxState g s = 6 → ¬ (2 ≤ parts.toNat ∧ parts.toNat ≤ 512) →
        Completes (.ctxTagWrite w port c tag parts) s fun t =>
          ctxTag g t = tag.toNat ∧ ctxParts g t = ctxParts g s ∧ get (Reg.BLKWERR_RANGE (0x45 + port)) t = 1) ∧
      (¬ (ctxState g s = 0 ∨ ctxState g s = 4 ∨ ctxState g s = 6) →
        Completes (.ctxTagWrite w port c tag parts) s fun t =>
          get (Reg.BLKWERR_BUSY (0x45 + port)) t = 1 ∧ ctxTag g t = ctxTag g s ∧
          Changes [] [Reg.BLKWERR_BUSY (0x45 + port), Reg.BLKWERR_OFFSET (0x45 + port),
            Reg.BLKWERR_SOURCE (0x45 + port)] s t))) ∧
  (∀ s : State, Ready s → ∀ (w : Writer) (g : Fin 64) (phase : Nat), Reaches w 0x44108 g s →
    let tick := now s + (if phase < 36000 then 1 else 2)
    let domain := decide (ctxTag g s ≠ 0)
    let allowed := isSet Reg.SYS.PERSIST_DOMAIN_OK s && !s.rng.fences.contains (now s)
    (ctxState g s = 1 → fenced s = false → (domain = true → allowed = true) →
      Completes (.txnCommit w g phase) s fun t =>
        (twinAttached s = true → [Out.twin "PREPARE" [g, ctxTag g s]] <+: t.out) ∧
        (s.hp.stalled = [] →
          ctxState g t = 2 ∧ get (ctxRes g) t = 0 ∧
          get (ctxFrm g) t = (if domain then tick + 2 else tick) % 2 ^ 32 ∧
          t.txn.requests = s.txn.requests ++
            [{ ctx := g, due := tick, needAck := twinAttached s, domain := domain, accepted := now s }] ∧
          (∀ x, readByte x t = readByte x s) ∧
          Changes [.txn] ([Reg.TXN.COMMIT_CTX, ctxSts g, ctxRes g, ctxFrm g] ++ txnShown) s t)) ∧
    (∀ r, r = (if ctxState g s ≠ 1 then 1 else if fenced s then 4 else if domain && !allowed then 5 else 0) → r ≠ 0 →
      Completes (.txnCommit w g phase) s fun t =>
        get (ctxRes g) t = r ∧ Changes [] [Reg.TXN.COMMIT_CTX, ctxRes g] s t))

/-- A write's wait for the Hold set ends in an abort (R184); a column is cleared (R188); a slab line is written back,
or asked of the twin where it is uncorrectable (R190, R191), and the last ends the replay (R190). Readings of the
model's own that clauses rest on: log entry 59. -/
def Obligations.ReplayCommands : Prop :=
  ∀ s : State, Ready s → ∀ g : Fin 64,
  (ctxState g s = 1 → holdExpired g s = true → (∀ q ∈ s.hp.stalled, q.port < 4) →
    Completes (.holdStallTimeout g) s fun t =>
      ctxState g t = 5 ∧ get (Reg.TXC.CTX_STS_HOLD_FULL (g.val / 16) (g.val % 16)) t = 1 ∧ get (Reg.EVT_STS 0x44 0) t = 1 ∧
      (∀ q ∈ t.hp.stalled, q.ctx ≠ some g.val) ∧ (∀ x, readByte x t = readByte x s)) ∧
  (ctxClearing g s = true →
    Completes (.clearingDone g) s fun t => s.hp.stalled = [] →
      ctxClearing g t = false ∧ t.txn.pairs = s.txn.pairs.filter (fun p => p.ctx != g.val) ∧
      get (Reg.TXC.CTX_HELD_GRANULES (g.val / 16) (g.val % 16)) t = 0 ∧ (∀ x, readByte x t = readByte x s)) ∧
  (∀ gr line p, s.txn.replays.head? = some g.val → fenced s = false → nextUndo g s = some (gr, line) →
    pairOf g gr s = some p → let slab := slabLine p.slab line s
    repairOf slab s = none → isPoisoned slab s = false →
    ∀ err, let out := decodeLine (isSet Reg.DMC.CFG_X8 s) err
    (out = .good → line ∉ p.poisoned →
      Completes (.replayLine g err) s fun t =>
        readLine line t = readLine slab s ∧ isPoisoned line t = false ∧ (∀ e ∈ t.dram.writes, e.line ≠ line) ∧
        (∀ q ∈ t.txn.pairs, q.ctx = g → q.granule = gr → line ∉ q.lines) ∧
        (∀ x, ¬ (64 * line ≤ x ∧ x < 64 * line + 64) → readByte x t = readByte x s)) ∧
    (out = .uncorrectable → twinServes slab s = true →
      Completes (.replayLine g err) s fun t =>
        [Out.twin "REPAIR_REQUEST" [slab]] <+: t.out ∧
        repairOf slab t = some { line := slab, finder := .undo, stage := .twin } ∧ Changes [.dram] [] s t)) ∧
  (s.txn.replays.head? = some g.val → undoLeft g s = 0 → fenced s = false →
    Completes (.replayDone g) s fun t =>
      ctxState g t = 6 ∧ ctxClearing g t = true ∧ get (ctxFrm g) t = now32 s ∧
      get (Reg.EVT_STS (0x45 + g.val / 16) (16 + g.val % 16)) t = 1 ∧
      get Reg.TXN.ABORTS_COUNT t = oneMore Reg.TXN.ABORTS_COUNT s ∧ (∀ x, readByte x t = readByte x s))

/-! ### Ballots, decisions and resolution (R195 to R198, R368 to R374) -/

/-- Issue, vote, tally and deadline of a ballot (R195, R365, R368, R372). Readings of the model's own that clauses
rest on: log entries 53, 54. -/
def Obligations.BallotCommands : Prop :=
  ∀ s : State, Ready s → domainRuns s = true → let me := get Reg.TRN.STS_INDEX s
  (∀ (g : Fin 64) (free : Bool) (phase : Nat), fenced s = false → ctxState g s = 2 →
    s.txn.requests.any (fun r => r.ctx == g.val && r.domain && !r.balloted && decide (r.due ≤ now s)) = true →
    Completes (.ballotInsert g free phase) s fun t =>
      if free = true ∧ phase ≤ 8000 ∧ isSet (Reg.BLKSTS_ABORTING 0xD1) s = false then
        ctxState g t = 3 ∧ get Reg.DOM.STS_BALLOTS t = (s.rng.ballots.length + 1) % 2 ^ Reg.DOM.STS_BALLOTS.w ∧
        onBoth (.ballot (ctxTag g s) (ctxParts g s) (now32 s)) s <+: t.out ∧
        Changes [.txn, .rng] ([ctxSts g, ctxFrm g, Reg.DOM.STS_BALLOTS] ++ txnShown) s t
      else get (ctxFrm g) t = (now s + 3) % 2 ^ 32 ∧ Changes [.txn] [ctxFrm g] s t) ∧
  (∀ (tag : BitVec 22) (parts coord : Nat) (frame : BitVec 32) (g : Nat), tag ≠ 0 → coord ≠ me →
    (∀ v ∈ s.rng.votes, ¬ (v.tag = tag.toNat ∧ v.coord = memberId coord s ∧ v.frame = frame.toNat)) →
    voter tag.toNat s = some g →
    let v : Vote := { tag := tag.toNat, coord := memberId coord s, frame := frame.toNat, ctx := g, yes := false }
    let votes := s.rng.votes.filter (·.ctx != g)
    Completes (.ballot tag parts coord frame) s fun t =>
      if ctxState g s = 2 then Changes [] [] s t
      else if ctxState g s ≠ 1 ∨ fenced s = true then t.rng.votes = votes ++ [v] ∧ Changes [.rng] [] s t
      else if twinAttached s = true then
        t.rng.votes = votes ++ [v] ∧ [Out.twin "PREPARE" [g, ctxTag g s]] <+: t.out ∧ Changes [.rng] [] s t
      else s.hp.stalled = [] →
        ctxState g t = 3 ∧ t.rng.votes = votes ++ [{ v with yes := true }] ∧
        Changes [.rng] ([ctxSts g, ctxFrm g] ++ txnShown) s t) ∧
  (∀ (tag : BitVec 22) (coord : Nat) (seg : Fin 3),
    Completes (.tallyInsert tag coord seg) s fun t =>
      if coord = me then
        let expected := if get Reg.TRN.STS_TOPO s = 0 then [0] else [1, 2].filter (· != seg.val)
        t.rng.ballots = s.rng.ballots.map (fun b =>
          if b.tag = tag.toNat ∧ b.decided = false then { b with expected := expected } else b) ∧
        (get Reg.TRN.STS_TOPO s = 0 → (∃ b ∈ s.rng.ballots, b.tag = tag.toNat ∧ b.decided = false) →
          onRing false (.tally tag.toNat me 0 false 0) s <+: t.out) ∧
        Changes [.rng] [Reg.DOM.STS_BALLOTS] s t
      else
        (isSet Reg.TRN.RING_STS_EDGE s = true → seg ≠ 0 →
          onRing (seg == 2)
            (.tally tag.toNat coord (ownTally tag.toNat coord s).1 (ownTally tag.toNat coord s).2 seg) s <+: t.out) ∧
        Changes [] [] s t) ∧
  (∀ (tag : BitVec 22) (coord src yes : Nat) (no : Bool) (seg : Fin 3), coord ≠ me →
    let own := ownTally tag.toNat coord s
    Completes (.tally tag coord src ⟨yes, no⟩ seg true) s fun t =>
      [Out.cell (seg == 2) (Cell.bits (seg == 2) src (.tally tag.toNat coord (yes + own.1) (no || own.2) seg))] <+:
        t.out ∧ Changes [] [] s t) ∧
  (∀ (tag : BitVec 22) (src yes : Nat) (no : Bool) (seg : Fin 3),
    Completes (.tally tag me src ⟨yes, no⟩ seg true) s fun t =>
      t.rng.ballots = s.rng.ballots.map (fun b =>
        if b.tag = tag.toNat ∧ b.decided = false ∧ seg.val ∉ b.returned then
          { b with returned := b.returned ++ [seg.val], yes := b.yes + yes, no := b.no || no }
        else b) ∧
      Changes [.rng] [Reg.DOM.STS_BALLOTS] s t) ∧
  (∀ (g : Fin 64) (b : Ballot), s.rng.ballots.find? (fun b => b.ctx == g.val && !b.decided) = some b →
    (now32 s + 2 ^ 32 - b.frame) % 2 ^ 32 ≠ 0 →
    let complete := !b.expected.isEmpty && b.expected.all (fun k => b.returned.contains k)
    let commit := complete && ownYes b s && b.yes + 1 == b.parts && !b.no
    Completes (.tallyDeadline g) s fun t =>
      { ctx := g, commit := commit, tick := now s + 1 } ∈ t.txn.decisions ∧
      (complete = false → get Reg.DOM.TALLY_FAIL_COUNT t = oneMore Reg.DOM.TALLY_FAIL_COUNT s) ∧
      (if commit then get Reg.DOM.COORD_COMMITS t = oneMore Reg.DOM.COORD_COMMITS s
        else get Reg.DOM.COORD_ABORTS t = oneMore Reg.DOM.COORD_ABORTS s) ∧
      (s.rng.logClosed = false → (⟨b.tag, ownId s, b.frame, if commit then .commit else .abort⟩ : LogEntry) ∈ t.rng.log) ∧
      onBoth (.decision b.tag commit b.frame (now s + 1)) s <:+: t.out)

/-- Decisions received, questions and answers, and the forced outcome (R197, R370, R373, R374). Readings of the
model's own that clauses rest on: log entries 53, 58. -/
def Obligations.ResolutionCommands : Prop :=
  ∀ s : State, Ready s →
  (∀ (tag : BitVec 22) (coord : Nat) (commit : Bool) (frame effective : BitVec 32) (v : Vote), domainRuns s = true →
    inLog tag.toNat (memberId coord s) frame.toNat (if commit then .commit else .abort) s = false →
    s.rng.votes.find? (fun v => v.tag == tag.toNat && v.coord == memberId coord s && v.frame == frame.toNat) = some v →
    Completes (.decision tag coord commit frame effective true) s fun t =>
      (ctxState v.ctx s = 3 → { ctx := v.ctx, commit := commit, tick := tickOf effective.toNat s } ∈ t.txn.decisions) ∧
      (s.rng.logClosed = false → (⟨tag.toNat, memberId coord s, frame.toNat, if commit then .commit else .abort⟩ : LogEntry) ∈ t.rng.log) ∧
      Changes [.txn, .rng] [Reg.DOM.LOG_USED, Reg.DOM.LOG_OLDEST_FRAME, Reg.DOM.LOG_OVERWRITES,
        Reg.EVT_STS 0xD1 5] s t) ∧
  (∀ g : Fin 64, undecided g s = true → (fenced s = true → admittedNow s = false) → attemptDue g s = true →
    g.val ∉ s.twn.doubt → let b := ballotOf g s
    (recorded g s = none → domainRuns s = true →
      Completes (.resolveAttempt g) s fun t =>
        onBoth (.query b.1 (memberIndex b.2.1 s) b.2.2) s <+: t.out ∧ (g.val, now s) ∈ t.rng.queries ∧
        Changes [.rng] [] s t) ∧
    (∀ commit, recorded g s = some commit → ctxState g s = 3 →
      Completes (.resolveAttempt g) s fun t =>
        { ctx := g, commit := commit, tick := now s + 1 } ∈ t.txn.decisions ∧
        get Reg.DOM.RESOLVED_BY_RECORD t = oneMore Reg.DOM.RESOLVED_BY_RECORD s ∧ get (Reg.EVT_STS 0xD1 3) t = 1 ∧
        Changes [.txn] [Reg.DOM.RESOLVED_BY_RECORD, Reg.EVT_STS 0xD1 3] s t)) ∧
  (∀ (tag : BitVec 22) (coord : Nat) (frame : BitVec 32) (querier : Nat), domainRuns s = true →
    Completes (.query tag coord frame querier true) s fun t => Changes [] [] s t ∧
      ∀ a, knows tag.toNat coord frame.toNat s = some a →
        onRing false (.answer tag.toNat querier a frame.toNat) s <+: t.out) ∧
  (∀ (tag : BitVec 22) (ans : Fin 6) (frame : BitVec 32) (g : Nat), domainRuns s = true →
    allCtx.find? (fun g => undecided g s && (ballotOf g s).1 == tag.toNat && (ballotOf g s).2.2 == frame.toNat &&
      queryOpen g s) = some g → ctxState g s = 3 →
    Completes (.answer tag (get Reg.TRN.STS_INDEX s) ans frame true) s fun t =>
      if ans = 1 ∨ ans = 2 then
        { ctx := g, commit := true, tick := now s + 1 } ∈ t.txn.decisions ∧
        get Reg.DOM.RESOLVED_BY_RING t = oneMore Reg.DOM.RESOLVED_BY_RING s ∧ get (Reg.EVT_STS 0xD1 3) t = 1 ∧
        Changes [.txn] [Reg.DOM.RESOLVED_BY_RING, Reg.EVT_STS 0xD1 3] s t
      else t.rng.answers = s.rng.answers ++ [(g, ans.val)] ∧ Changes [.rng] [] s t) ∧
  (∀ (w : Writer) (g : Fin 64) (commit : Bool), Reaches w 0xD1108 (g.val + b2n commit * 64 + 128) s →
    (ctxState g s ≠ 7 →
      Completes (.domForce w g commit) s fun t =>
        get Reg.DOM.FORCE_RESULT t = 1 ∧
        Changes [] [Reg.DOM.FORCE_CTX, Reg.DOM.FORCE_OUTCOME, Reg.DOM.FORCE_RESULT] s t) ∧
    (ctxState g s = 7 → admittedNow s = true → rsrStage s ≠ 6 →
      Completes (.domForce w g commit) s fun t => (commit = true → lostEntries g s ≠ [] → Calm 188 s) →
        get Reg.DOM.FORCE_RESULT t = 0 ∧ ctxState g t = (if commit then 4 else 5) ∧
        get (Reg.TXC.CTX_STS_FORCED (g.val / 16) (g.val % 16)) t = 1 ∧ get (Reg.EVT_STS 0xD1 4) t = 1 ∧
        t.hp.outageCounted = true ∧ (∀ x, readByte x t = readByte x s)))
/-! ### The seal store (R205, R210 to R224, R240, R242) -/

/-- Seals: a pick begins the record of the next eligible granule where every pool on its way has a credit, and else
stalls (R41, R210, R242); a word of it whose residue does not check leaves it DIRTY (R48); good status makes it CLEAN
or leaves it DIRTY (R240), and a failed program grows its block bad and leaves the Lehr's granule DIRTY, or starts a
save's record again on the other die (R222, R223). No byte of DRAM changes. Readings of the model's own that clauses
rest on: log entries 32, 89. -/
def Obligations.SealCommands : Prop :=
  ∀ s : State, Ready s → ∀ g : Nat, let same := fun (t : State) => ∀ x, readByte x t = readByte x s
  (∀ (die : Nat) (bad : Option SealWord), lehrRuns s = true → nextPick s = some g →
    (deltaFull s = true → fenced s = true) →
    let ch := nextChannel s
    let save := savState s == 6
    let pools := [if save then poolAddr 0x42 0x13C else poolAddr 0x41 0x15C, poolAddr 0x50 0x13C,
      poolAddr (0x60 + ch) 0x118]
    dieTakes ch die s = true → channelTakes ch s = true →
    ((∀ w ∈ bad, wordGood w.word = true) → (∀ a ∈ pools, creditFor a save s = true) →
      Completes (.lehrPick die bad .good []) s fun t => Uninjected s →
        (entryOf g t).state = .sealing ∧ get Reg.LEH.CURSOR_GROUP t = g / 64 % 2 ^ Reg.LEH.CURSOR_GROUP.w ∧
        (∃ r ∈ t.nand.sealing, r.granule = g ∧ r.gen = ((entryOf g s).gen + 1) % 128 ∧ r.frame = now s ∧
          r.bySave = save) ∧
        (opsOf ch die s = [] → [Out.nand ch die "PROGRAM" [g]] <+: t.out) ∧ same t) ∧
    ((∀ w ∈ bad, wordGood w.word = true) → creditFor (pools.getD 0 0) save s = false →
      Completes (.lehrPick die bad .good []) s fun t => Uninjected s →
        (poolOf (pools.getD 0 0) t).stallSeen = true ∧ Changes [.pools] [] s t) ∧
    (∀ w, bad = some w → wordGood w.word = false →
      Completes (.lehrPick die bad .good []) s fun t => Uninjected s → Fresh 186 s →
        Raised 186 s t ∧ (savState s ≠ 6 → entryOf g t = entryOf g s) ∧ t.nand = s.nand ∧ same t)) ∧
  (∀ r, sealingOf g s = some r → (entryOf g s).state = .sealing →
    Completes (.sealComplete g) s fun t =>
      (entryOf g t).state = .clean ∧ (entryOf g t).gen = r.gen ∧ (entryOf g t).lost = !r.poison.isEmpty ∧
      r ∈ t.nand.records ∧ look t.nand.map g = some r.loc.code ∧
      get Reg.LEH.SEALS_COUNT t = oneMore Reg.LEH.SEALS_COUNT s ∧ same t) ∧
  (∀ r, sealingOf g s = some r → (entryOf g s).state = .redirtied →
    Completes (.sealComplete g) s fun t =>
      (entryOf g t).state = .dirty ∧ t.nand.map = s.nand.map ∧
      get Reg.LEH.SUPERSEDED_COUNT t = oneMore Reg.LEH.SUPERSEDED_COUNT s ∧ same t) ∧
  (∀ (r : SealRec) (die : Nat), sealingOf g s = some r → r.loc.ch < 32 →
    let sound := blockBad r.loc.ch r.loc.die r.loc.block s = false ∧ s.nand.cullet.length < 65536 ∧
      ((look s.nand.dieStreak (16 * r.loc.ch + r.loc.die)).getD []).length ≤ 1
    (r.bySave = false →
      Completes (.nandProgramFail g die) s fun t => sound →
        (entryOf g t).state = .dirty ∧ sealingOf g t = none ∧
        get (Reg.NCH.FAILS_PROG r.loc.ch) t = oneMore (Reg.NCH.FAILS_PROG r.loc.ch) s ∧
        (validRecords r.loc s ≠ 0 → (blockAt r.loc t).grown = some 0 ∧ t.nand.cullet = s.nand.cullet) ∧
        (validRecords r.loc s = 0 → t.nand.cullet = s.nand.cullet ++
          [{ ch := r.loc.ch, die := r.loc.die, block := r.loc.block, cause := 0 }]) ∧ same t) ∧
    (r.bySave = true → die ≠ r.loc.die → dieTakes r.loc.ch die s = true →
      Completes (.nandProgramFail g die) s fun t => sound →
        (∃ r' ∈ t.nand.sealing, r'.granule = g ∧ r'.gen = r.gen ∧ r'.loc.ch = r.loc.ch ∧ r'.loc.die = die) ∧
        entryOf g t = entryOf g s ∧
        get (Reg.NCH.FAILS_PROG r.loc.ch) t = oneMore (Reg.NCH.FAILS_PROG r.loc.ch) s ∧ same t))

/-- Erases, reads, dies that fail, moves, checkpoints and low space (R205, R212, R213, R217 to R222). Readings of the
model's own that clauses rest on: log entry 89. -/
def Obligations.NandCommands : Prop :=
  ∀ s : State, Ready s → ∀ l : Loc, l.ch < 32 → let same := fun (t : State) => ∀ x, readByte x t = readByte x s
  let run := (look s.nand.dieStreak (16 * l.ch + l.die)).getD []
  (erasable l s = true →
    Completes (.nandEraseDone l true) s fun t =>
      (blockAt l s).erases + 1 < get Reg.NFC.WEAR_ENDURANCE_K s * 1000 →
      blockAt l t = { erases := (blockAt l s).erases + 1, uncorrBefore := (blockAt l s).uncorr } ∧
      t.nand.records = s.nand.records.filter (fun r => !inBlock l r) ∧
      t.nand.others = s.nand.others.filter (fun r => !metaIn l r) ∧ same t ∧
      Changes [.nand] [Reg.NFC.ERASED_BLOCKS] s t) ∧
  (erasable l s = true →
    Completes (.nandEraseDone l false) s fun t => s.nand.cullet.length < 65536 → run.length ≤ 1 →
      get (Reg.NCH.FAILS_ERASE l.ch) t = oneMore (Reg.NCH.FAILS_ERASE l.ch) s ∧
      t.nand.cullet = s.nand.cullet ++ [{ ch := l.ch, die := l.die, block := l.block, cause := 1 }] ∧
      get (Reg.EVT_STS 0x51 0) t = 1 ∧ t.nand.records = s.nand.records ∧ same t) ∧
  (∀ retried : List (Fin 4), dieReads l s = true →
    Completes (.nandReadDone l retried []) s fun t =>
      (blockAt l t).reads = (blockAt l s).reads + 1 ∧ (retried ≠ [] → (blockAt l t).refresh = true) ∧
      (get Reg.NFC.RD_DISTURB_LIMIT s ≤ (blockAt l s).reads + 1 → (blockAt l t).refresh = true) ∧
      get (Reg.NCH.LDPC_RETRIED l.ch) t =
        satAdd (2 ^ (Reg.NCH.LDPC_RETRIED l.ch).w - 1) (get (Reg.NCH.LDPC_RETRIED l.ch) s)
          ((List.finRange 4).filter (· ∈ retried)).length ∧ same t ∧
      Changes [.nand] [Reg.NCH.LDPC_RETRIED l.ch] s t) ∧
  (∀ (cw : Fin 4) (retried : List (Fin 4)), dieReads l s = true →
    Completes (.nandReadDone l retried [cw]) s fun t => (blockAt l s).uncorrBefore = false → Fresh 224 s →
      Raised 224 s t ∧ get (Reg.NCH.LDPC_UNCORR l.ch) t = oneMore (Reg.NCH.LDPC_UNCORR l.ch) s ∧
      get (Reg.EVT_STS (0x60 + l.ch) 1) t = 1 ∧ (blockAt l t).uncorr = true ∧
      (∀ r ∈ s.nand.records, ∀ k, pageOf l r s = some k → ∃ r' ∈ t.nand.records,
        r'.loc = r.loc ∧ r'.granule = r.granule ∧ 4 * k + cw.val ∈ r'.bad) ∧
      (admittedNow s = true → ∀ g ∈ granulesAt l s, entryInUse g s = true → (entryOf g t).state ≠ .clean) ∧ same t) ∧
  (∀ (ch : Fin 32) (die : Fin 16), channelGood ch s = true → die.val < diesPerChannel s →
    bitOf (get (Reg.NCH.DIE_FAIL_DIES ch) s) die = false →
    Completes (.dieTimeout ch die) s fun t => Fresh (192 + ch) s →
      (∃ d, d < diesPerChannel s ∧ d ≠ die ∧ bitOf (get (Reg.NCH.DIE_FAIL_DIES ch) s) d = false) →
      bitOf (get (Reg.NCH.DIE_FAIL_DIES ch) t) die = true ∧ bitOf (get (Reg.NCH.STS_DIES_OK ch) t) die = false ∧
      get (Reg.EVT_STS (0x60 + ch) 0) t = 1 ∧ Raised (192 + ch) s t ∧
      (∀ r ∈ t.nand.sealing, ¬ (r.loc.ch = ch ∧ r.loc.die = die)) ∧ same t) ∧
  (∀ (g : Nat) (r o : SealRec), s.nand.moving.find? (fun r => r.granule == g) = some r → currentRecord g s = some o →
    o.gen = r.gen → o.frame = r.frame → deltaFull s = false →
    Completes (.moveDone g) s fun t => s.nand.cullet.length < 65536 →
      look t.nand.map g = some r.loc.code ∧ r ∈ t.nand.records ∧
      get Reg.NFC.MOVES_COUNT t = oneMore Reg.NFC.MOVES_COUNT s ∧ same t ∧
      ((∃ x ∈ s.nand.records, x.granule ≠ g ∧ inBlock o.loc x = true ∧ recordNeeded x s = true) →
        Changes [.nand] [Reg.NFC.DELTA_USED, Reg.NFC.MOVES_COUNT] s t)) ∧
  (admittedNow s = true → fenced s = false → pageReady 0x50 s = true → s.nand.checkpoint = none →
    49152 ≤ s.nand.delta.length ∨ s.nand.lastCheckpoint + 50000 ≤ now s →
    Completes .checkpointStart s fun t =>
      t.nand = { s.nand with checkpoint := some s.nand.delta.length } ∧ Changes [.nand] [] s t) ∧
  (∀ n, s.nand.checkpoint = some n →
    Completes .ckptDone s fun t =>
      let map := applyDeltas (s.nand.delta.take n) s.nand.mapFlash
      t.nand.checkpoint = none ∧ t.nand.delta = s.nand.delta.drop n ∧ t.nand.lastCheckpoint = now s ∧
      t.nand.mapFlash = map ∧
      (s.nand.anchor0.page < pagesPerBlock s → s.nand.anchor4.page < pagesPerBlock s →
        ∃ m, t.nand.manifests = s.nand.manifests ++ [m] ∧ m.kind = 2 ∧ m.seq = nextSeq s ∧ m.map = map) ∧
      get Reg.NFC.CKPT_FRAME_FRAME t = now32 s ∧ get (Reg.EVT_STS 0x50 2) t = 1 ∧ same t) ∧
  (50 ≤ s.nand.lowFrames →
    Completes .freeSpaceLow s fun t => Fresh 226 s →
      isSet (Reg.FLS.LIVE 226) t = true ∧ Raised 226 s t ∧ Changes raiseParts (raiseFields 226) s t)

/-- Recounts, peeks and the channels' training (R203, R205, R238, R249). Readings of the model's own that clauses rest
on: log entry 16. -/
def Obligations.MarverCommands : Prop :=
  ∀ s : State, Ready s →
  (isSet Reg.MRV.RC_STS_FULL_ACTIVE s = false → pageDark 0x40 s = false →
    Completes .fullRecount s fun t =>
      get Reg.MRV.RC_STS_FULL_ACTIVE t = 1 ∧ get Reg.SYS.PERSIST_RECOUNT t = 1 ∧ isSet Reg.SYS.PERSIST_OK t = false ∧
      Changes [.mrv] [Reg.MRV.RC_STS_FULL_ACTIVE, Reg.SYS.PERSIST_RECOUNT] s t) ∧
  (isSet Reg.MRV.RC_STS_FULL_ACTIVE s = true → countDirty 0 16777216 s = get Reg.MRV.DIRTY_COUNT s →
    Completes .fullRecountDone s fun t =>
      get Reg.MRV.RC_STS_FULL_ACTIVE t = 0 ∧
      Changes [.mrv] [Reg.MRV.RC_STS_FULL_ACTIVE, Reg.MRV.RC_LAST_ACCUM, Reg.MRV.RC_STS_PASSES, Reg.EVT_STS 0x40 3] s t) ∧
  (isSet Reg.MRV.RC_STS_FULL_ACTIVE s = true → countDirty 0 16777216 s ≠ get Reg.MRV.DIRTY_COUNT s →
    Completes .fullRecountDone s fun t => (s.mrv.fullByEcc = false → Fresh 178 s) →
      get Reg.MRV.DIRTY_COUNT t = countDirty 0 16777216 s % 2 ^ Reg.MRV.DIRTY_COUNT.w ∧
      get Reg.MRV.RC_STS_MISMATCH t = 1 ∧ get (Reg.EVT_STS 0x40 0) t = 1 ∧
      (s.mrv.fullByEcc = false → Raised 178 s t)) ∧
  (∀ (w : Writer) (i : BitVec 25), Reaches w 0x4012C i.toNat s →
    Completes (.peek w i) s fun t =>
      t.mrv.peeking = true ∧ get Reg.MRV.PEEK_IDX_INDEX t = i.toNat ∧ get Reg.MRV.PEEK_VALID t = 0 ∧
      Changes [.mrv] [Reg.MRV.PEEK_IDX_INDEX, Reg.MRV.PEEK_VALID] s t) ∧
  (s.mrv.peeking = true →
    Completes .peekDone s fun t =>
      get Reg.MRV.PEEK_ENTRY t = entryCode (entryOf (get Reg.MRV.PEEK_IDX_INDEX s) s) % 65536 ∧
      get Reg.MRV.PEEK_VALID t = 1 ∧
      Changes [.mrv] [Reg.MRV.PEEK_ENTRY, Reg.MRV.PEEK_CHECK, Reg.MRV.PEEK_VALID] s t) ∧
  (∀ ch : Fin 32, channelPresent ch s = true → domainOn (30 + ch.val / 4) s = true → s.pwr.firmware = true →
    isSet (Reg.NCH.STS_TRAINED ch) s = false → isSet (Reg.NCH.STS_FAILED ch) s = false →
    (Completes (.nandInterfaceTrainingDone ch true) s fun t =>
      let all := 2 ^ diesPerChannel s - 1
      get (Reg.NCH.STS_TRAINED ch) t = 1 ∧
      get (Reg.NCH.STS_DIES_OK ch) t = (all - Nat.land all (get (Reg.NCH.DIE_FAIL_DIES ch) s)) % 65536 ∧
      Changes [] [Reg.NCH.STS_TRAINED ch, Reg.NCH.STS_DIES_OK ch, Reg.SAV.RATE_MBS, Reg.RSR.RATE_MBS] s t) ∧
    (Completes (.nandInterfaceTrainingDone ch false) s fun t => Fresh (192 + ch) s →
        get (Reg.NCH.STS_FAILED ch) t = 1 ∧ get (Reg.EVT_STS 0x50 4) t = 1 ∧ Raised (192 + ch) s t ∧
        Changes raiseParts ([Reg.NCH.STS_FAILED ch, Reg.EVT_STS 0x50 4, Reg.SAV.RATE_MBS, Reg.RSR.RATE_MBS] ++
          raiseFields (192 + ch)) s t))
/-! ### The gauge (R3, R251 to R274) -/

/-- The bank, the converters, the pack, the charger and the estimates (R3, R251, R254, R257 to R259, R264). Readings
of the model's own that clauses rest on: log entries 19, 82, 84. -/
def Obligations.GaugeEvents : Prop :=
  ∀ s : State, Ready s →
  (s.eng.bankSeen = false → (get Reg.ENG.CAP_V_V_MIN_MV s : Rat) ≤ vcapMv s → isSet Reg.ENG.CAP_TEST_LOW s = false →
    Completes .capBankDetected s fun t =>
      t.eng.bankSeen = true ∧ get Reg.SYS.CAPS_CAP_BANK t = 1 ∧ isSet (Reg.FLS.LIVE 327) t = false ∧
      Changes [.eng] (Reg.SYS.CAPS_CAP_BANK :: fallFields 327) s t) ∧
  (s.eng.bankSeen = false → s.eng.chargerFrom + 250000 ≤ s.pwr.sinceVaon →
    Completes .capBankTimeout s fun t => Fresh 327 s →
      isSet (Reg.FLS.LIVE 327) t = true ∧ Raised 327 s t ∧ Changes raiseParts (raiseFields 327) s t) ∧
  (∀ (k : Fin 5) (why : ConvCheck), (k = 2 ∨ k = 3 → batState s ≠ 0) →
    why = .reference false ∨ (why = .range ∧ 50 ≤ s.eng.ends.getD k 0) →
    Completes (.converterFault k why) s fun t => Fresh (320 + k) s →
      isSet (Reg.FLS.LIVE (320 + k)) t = true ∧ Raised (320 + k) s t ∧
      (k = 4 → get Reg.ENG.TEMP_NTC_FAULT t = 1 ∧ getInt Reg.ENG.TEMP_T_STORE t = -640 ∧ get Reg.ENG.STATE_CHG_ON t = 0) ∧
      (why = .reference false → k.val ∈ t.eng.refBad) ∧
      Changes (.eng :: raiseParts) (raiseFields (320 + k) ++
        if k = 4 then [Reg.ENG.TEMP_NTC_FAULT, Reg.ENG.TEMP_T_STORE, Reg.ENG.STATE_CHG_ON] else []) s t) ∧
  (∀ k : Fin 5,
    Completes (.converterFault k (.reference true)) s fun t =>
      k.val ∉ t.eng.refBad ∧ (s.eng.ends.getD k 0 < 50 → isSet (Reg.FLS.LIVE (320 + k)) t = false) ∧
      Changes [.eng] (fallFields (320 + k)) s t) ∧
  (isSet Reg.SYS.CAPS_BATTERY s = false →
    Completes .batIn s fun t =>
      get Reg.SYS.CAPS_BATTERY t = 1 ∧ batState t = 1 ∧ get Reg.ENG.STATE_REST_LEFT t = 3000000 ∧
      get (Reg.EVT_STS 0x80 0) t = 1) ∧
  (isSet Reg.SYS.CAPS_BATTERY s = true →
    Completes .batOut s fun t =>
      get Reg.SYS.CAPS_BATTERY t = 0 ∧ batState t = 0 ∧ get Reg.ENG.STATE_REST_LEFT t = 3000000 ∧
      get (Reg.EVT_STS 0x80 1) t = 1 ∧ get Reg.ENG.STATE_CHG_ON t = 0 ∧
      (isSet Reg.ENG.EXERCISE_ACTIVE s = true → get Reg.ENG.EXERCISE_RESULT t = 6)) ∧
  (50 ≤ s.eng.differRun →
    Completes (.disagree true) s fun t => Fresh 325 s →
      get Reg.ENG.STATE_DISAGREE t = 1 ∧ get (Reg.EVT_STS 0x80 5) t = 1 ∧ Raised 325 s t ∧
      Changes raiseParts ([Reg.ENG.STATE_DISAGREE, Reg.EVT_STS 0x80 5] ++ raiseFields 325) s t) ∧
  (50 ≤ s.eng.agreeRun →
    Completes (.disagree false) s fun t =>
      get Reg.ENG.STATE_DISAGREE t = 0 ∧ isSet (Reg.FLS.LIVE 325) t = false ∧
      Changes [] (Reg.ENG.STATE_DISAGREE :: fallFields 325) s t) ∧
  (∀ cv : Bool,
    Completes (.chargerPoll true cv) s fun t =>
      get Reg.ENG.STATE_CV t = b2n cv ∧ get Reg.ENG.STATE_CHG_FAULT t = 0 ∧ isSet (Reg.FLS.LIVE 326) t = false ∧
      Changes [.eng] ([Reg.ENG.STATE_CV, Reg.ENG.STATE_CHG_FAULT] ++ fallFields 326) s t) ∧
  (∀ cv : Bool, 2 ≤ s.eng.chargerFails →
    Completes (.chargerPoll false cv) s fun t => Fresh 326 s →
      get Reg.ENG.STATE_CHG_FAULT t = 1 ∧ Raised 326 s t ∧
      Changes (.eng :: raiseParts) (Reg.ENG.STATE_CHG_FAULT :: raiseFields 326) s t)

/-- Anchors set the counter and clear DISAGREE (R257, R260, R261, R264); an empty one teaches the capacity (R265).
Readings of the model's own that clauses rest on: log entry 82. -/
def Obligations.AnchorCommands : Prop :=
  ∀ s : State, Ready s →
  let moved := [Reg.ENG.QCNT_LO_NC, Reg.ENG.STATE_DISAGREE, Reg.ENG.STATE_CHG_ON] ++ fallFields 325
  (batState s = 1 → get Reg.ENG.STATE_REST_LEFT s = 0 → convBad 2 s = false → convBad 3 s = false →
    Completes .restDone s fun t =>
      t.eng.counter = floorNat ((mahNc (learnedMah s) : Rat) * socPermille 0 s / 1000) ∧ batState t = 2 ∧
      get (Reg.EVT_STS 0x80 2) t = 1 ∧ get Reg.ENG.STATE_DISAGREE t = 0 ∧
      Changes [.eng] ([Reg.ENG.STATE_BAT, Reg.EVT_STS 0x80 2] ++ moved) s t) ∧
  (50000 ≤ s.eng.fullRun → fenced s = false →
    Completes .fullAnchor s fun t =>
      t.eng.counter = mahNc (learnedMah s) ∧ get Reg.ENG.STATE_AT_FULL t = 1 ∧
      get Reg.ENG.FULL_FRAME_FRAME t = now32 s ∧ get (Reg.EVT_STS 0x80 3) t = 1 ∧
      t.eng.discharge = some { out := 0, temp := 0, frames := 0 } ∧
      Changes [.eng] ([Reg.ENG.STATE_AT_FULL, Reg.ENG.FULL_FRAME_FRAME, Reg.EVT_STS 0x80 3] ++ moved) s t) ∧
  (500 ≤ s.eng.emptyRun →
    Completes .emptyAnchor s fun t =>
      t.eng.counter = 0 ∧ get Reg.ENG.EMPTY_FRAME_FRAME t = now32 s ∧ get (Reg.EVT_STS 0x80 4) t = 1 ∧
      (∀ d, s.eng.discharge = some d → tcBat (mkRat d.temp (max 1 d.frames)) s ≠ 0 →
        get Reg.ENG.CAP_LEARNED_MAH t = taughtMah d s) ∧
      (s.eng.discharge = none → get Reg.ENG.CAP_LEARNED_MAH t = get Reg.ENG.CAP_LEARNED_MAH s) ∧
      (isSet Reg.ENG.EXERCISE_ACTIVE s = true →
        get Reg.ENG.EXERCISE_ACTIVE t = 0 ∧ get Reg.ENG.EXERCISE_RESULT t = 1 ∧ t.pwr.holdEn = false) ∧
      Changes [.eng, .pwr] ([Reg.ENG.CAP_LEARNED_MAH, Reg.ENG.EMPTY_FRAME_FRAME, Reg.EVT_STS 0x80 4,
        Reg.ENG.EXERCISE_ACTIVE, Reg.ENG.EXERCISE_RESULT, Reg.ENG.STATE_BAT, Reg.EVT_STS 0x80 7] ++ moved) s t)

/-- The exercise, the learned values, the capacitor test and the counter's read (R266, R267, R269 to R272, R274).
Readings of the model's own that clauses rest on: log entry 82. -/
def Obligations.GaugeCommands : Prop :=
  ∀ s : State, Ready s → ∀ w : Writer,
  let ended := [Reg.ENG.EXERCISE_ACTIVE, Reg.ENG.EXERCISE_RESULT, Reg.ENG.STATE_BAT, Reg.EVT_STS 0x80 7,
    Reg.ENG.STATE_CHG_ON]
  (Reaches w 0x801AC 1 s → isSet Reg.ENG.EXERCISE_ACTIVE s = false → fenced s = false → batState s = 2 →
    isSet Reg.ENG.STATE_AT_FULL s = true → 160 ≤ tStore s → tStore s ≤ 640 →
    Completes (.exerciseStart w) s fun t =>
      get Reg.ENG.EXERCISE_ACTIVE t = 1 ∧ t.pwr.holdEn = true ∧ batState t = 3 ∧ t.eng.exerciseFrom = some (now s) ∧
      Changes [.eng, .pwr] ended s t) ∧
  (Reaches w 0x801AC 1 s → isSet Reg.ENG.EXERCISE_ACTIVE s = false → fenced s = false →
    isSet Reg.ENG.STATE_AT_FULL s = false →
    Completes (.exerciseStart w) s fun t =>
      get Reg.ENG.EXERCISE_RESULT t = 3 ∧ Changes [] [Reg.ENG.EXERCISE_RESULT] s t) ∧
  (Reaches w 0x801AC 1 s → isSet Reg.ENG.EXERCISE_ACTIVE s = false → fenced s = false → batState s = 2 →
    isSet Reg.ENG.STATE_AT_FULL s = true → tStore s < 160 ∨ 640 < tStore s →
    Completes (.exerciseStart w) s fun t =>
      get Reg.ENG.EXERCISE_RESULT t = 4 ∧ Changes [] [Reg.ENG.EXERCISE_RESULT] s t) ∧
  (Reaches w 0x801AC 2 s → isSet Reg.ENG.EXERCISE_ACTIVE s = true →
    Completes (.exerciseStop w) s fun t =>
      get Reg.ENG.EXERCISE_ACTIVE t = 0 ∧ get Reg.ENG.EXERCISE_RESULT t = 2 ∧ t.pwr.holdEn = false ∧
      get (Reg.EVT_STS 0x80 7) t = 1 ∧ Changes [.eng, .pwr] ended s t) ∧
  (∀ f, s.eng.exerciseFrom = some f → f + 360000000 ≤ now s → isSet Reg.ENG.EXERCISE_ACTIVE s = true →
    Completes .exerciseTimeout s fun t =>
      get Reg.ENG.EXERCISE_ACTIVE t = 0 ∧ get Reg.ENG.EXERCISE_RESULT t = 5 ∧ t.pwr.holdEn = false ∧
      Changes [.eng, .pwr] ended s t) ∧
  (Reaches w 0x801B0 1 s →
    Completes (.learnResetDefaults w) s fun t => t.eng.resetDefaults = true ∧ Changes [.eng] [] s t) ∧
  (learnDiffers s = true → 1000 ≤ s.eng.vinRun → fenced s = false → admittedNow s = true →
    let seq := ((newestLearned s).map (fun r => learnedWord r.2 0)).getD 0 + 1
    let second := (newestLearned s).map (·.1) == some 0
    let target := fun (t : State) => if second then t.eng.slot1 else t.eng.slot0
    (Completes (.learnRecordWrite 8) s fun t =>
      target t = learnedWords seq s ∧ get Reg.ENG.LEARN_SLOT t = b2n second ∧ get Reg.ENG.LEARN_PENDING t = 0 ∧
      get (Reg.EVT_STS 0x80 8) t = 1 ∧
      Changes [.eng] [Reg.ENG.LEARN_SLOT, Reg.ENG.LEARN_SEQ, Reg.ENG.LEARN_PENDING, Reg.EVT_STS 0x80 8] s t) ∧
    (∀ n : Fin 9, n.val < 8 →
      Completes (.learnRecordWrite n) s fun t =>
        target t = (learnedWords seq s).take n ∧ newestLearned t = newestLearned s ∧ t.eng.vinRun = 0 ∧
        Changes [.eng] [] s t)) ∧
  (vinGoodNow s = true → bankFull s = true → fenced s = false → isSet Reg.ENG.EXERCISE_ACTIVE s = false →
    s.eng.capTest = none → testDue s = true →
    Completes .capTestStart s fun t =>
      get Reg.ENG.CAP_TEST_RUNNING t = 1 ∧ t.eng.capTest = some { start := now s, v0 := s.eng.last.vcap } ∧
      t.pwr.testLoad = true ∧ Changes [.eng, .pwr] [Reg.ENG.CAP_TEST_RUNNING] s t) ∧
  (∀ (x : CapTest) (v1 v500 : Nat), s.eng.capTest = some x → x.v1 = some v1 → x.v500 = some v500 →
    let shown := [Reg.ENG.CAP_TEST_C_MEAS, Reg.ENG.CAP_TEST_ESR_MOHM, Reg.ENG.CAP_TEST_RUNNING, Reg.ENG.CAP_TEST_LOW,
      Reg.ENG.CAP_TEST_HIGH_ESR]
    Completes (.capTestEnd x.v0 v1 v500) s fun t =>
      (Calm 327 s → Calm 328 s →
        get Reg.ENG.CAP_TEST_RUNNING t = 0 ∧ t.pwr.testLoad = false ∧ t.eng.capTest = none) ∧
      (∀ c e, cMeasOf v1 v500 s = some c → c < 65536 → esrOf x.v0 v1 s = some e → e < 4096 →
        (Calm 327 s → Calm 328 s → get Reg.ENG.CAP_TEST_C_MEAS t = c ∧ get Reg.ENG.CAP_TEST_ESR_MOHM t = e ∧
          isSet Reg.ENG.CAP_TEST_LOW t = bankLow c s ∧
          isSet Reg.ENG.CAP_TEST_HIGH_ESR t = decide (get Reg.ENG.CAP_ESR_MAX_MOHM s < e)) ∧
        (bankLow c s = false → e ≤ get Reg.ENG.CAP_ESR_MAX_MOHM s →
          isSet (Reg.FLS.LIVE 328) t = false ∧
          Changes [.eng, .pwr] (shown ++ fallFields 327 ++ fallFields 328) s t) ∧
        (bankLow c s = true → e ≤ get Reg.ENG.CAP_ESR_MAX_MOHM s → Fresh 327 s →
          isSet (Reg.FLS.LIVE 327) t = true ∧ Raised 327 s t ∧ get (Reg.EVT_STS 0x80 6) t = 1))) ∧
  (Completes (.qcntRead w) s fun t =>
    get Reg.ENG.QCNT_HI_NC t = s.eng.counter / 2 ^ 32 % 2 ^ 32 ∧
    (shown Reg.ENG.QCNT_LO_NC s = s.eng.counter % 2 ^ 32 → [Out.regData (s.eng.counter % 2 ^ 32)] <+: t.out) ∧
    Changes [] [Reg.ENG.QCNT_HI_NC] s t)

/-! ### The power-fail save (R275 to R298, R392) -/

/-- The triggers: with SAV armed and no fence, or in a warm return, a trigger fences the device and records itself;
during a fence it adds its bit; while DISARMED the power-down runs; at a HOLD the loss of VIN powers down, and in the
safe state it powers down without a save (R275 to R278, R294, R417); a chip reset at a HOLD or while DISARMED asks for
the reset (R276, R277, R494). PFAIL_N is no trigger while PFAIL_EN is 0. Readings of the model's own that clauses rest
on: log entries 42, 88. -/
def Obligations.TriggerCommands : Prop :=
  ∀ s : State, Ready s → ∀ (c : Instr) (k : Nat),
  ((c = .pfail ∧ k = 0 ∧ isSet Reg.SAV.CFG_PFAIL_EN s = true) ∨ (c = .vinComparatorTrip ∧ k = 1) ∨
    (c = .chipReset ∧ k = 4)) →
  let fences := (fenced s = false ∧ savState s ≠ 7) ∨ savState s = 9
  (savArmed s = true → fences →
    Completes c s fun t => s.hp.stalled = [] →
      fenced t = true ∧ savState t = (if inSafe s ∧ k ≠ 4 then 8 else 2) ∧ get Reg.SAV.LAST_TRIG_TRIGGER t = 2 ^ k ∧
      (inSafe s = true → k ≠ 4 → t.pwr.seq = .down) ∧
      get Reg.SAV.LAST_TRIG_OK_AT_FENCE t = b2n (persistReasons s == 0) ∧ get Reg.SAV.LAST_TRIG_OUTCOME t = 0 ∧
      get Reg.SAV.LAST_FRAME_FRAME t = now32 s ∧ t.sav.t0 = now s ∧ t.sav.resetFence = (k == 4) ∧
      get (Reg.EVT_STS 0x42 0) t = 1 ∧ isSet Reg.SYS.PERSIST_OK t = false ∧ t.hp.writes = [] ∧
      (ringMember s = true → onBoth (.fence (now s)) s <:+: t.out) ∧
      (twinAttached s = true → fenced s = false → Out.twin "FENCE" [now s] ∈ t.out) ∧
      t.nand.checkpoint = none ∧ t.flt.keyHalf = none ∧ (∀ a, readByte a t = readByte a s)) ∧
  (savArmed s = true → fenced s = true → savState s ≠ 7 → savState s ≠ 9 →
    Completes c s fun t =>
      get Reg.SAV.LAST_TRIG_TRIGGER t = Nat.lor (get Reg.SAV.LAST_TRIG_TRIGGER s) (2 ^ k) % 256 ∧
      (k = 4 ∨ (s.sav.resetFence = true ∧ s.sav.drained = false) → t.sav.deferredReset = true) ∧
      Changes [.eng, .sav, .flt] [Reg.SAV.LAST_TRIG_TRIGGER, Reg.SAF.FINJ_KEY_OPEN] s t) ∧
  (k ≠ 4 → savArmed s = false → savState s ≠ 7 → goingDown s = false →
    Completes c s fun t =>
      get Reg.SAV.LAST_TRIG_TRIGGER t = Nat.lor (get Reg.SAV.LAST_TRIG_TRIGGER s) (2 ^ k) % 256 ∧
      get Reg.SAV.LAST_TRIG_OUTCOME t = 6 ∧ t.pwr.seq = .down ∧ get Reg.PWR.STS_STATE t = 4 ∧ t.rsr.inflight = [] ∧
      Changes [.eng, .sav, .rsr, .pwr, .flt] [Reg.SAV.LAST_TRIG_TRIGGER, Reg.SAV.LAST_TRIG_OUTCOME, Reg.EVT_STS 0x42 0,
        Reg.PWR.STS_STATE, Reg.SAF.FINJ_KEY_OPEN, Reg.RSR.SLOTS_IN_FLIGHT, Reg.RSR.SLOTS_DEMAND] s t) ∧
  (k ≠ 4 → savArmed s = true → fenced s = true → savState s = 7 →
    Completes c s fun t =>
      get Reg.SAV.LAST_TRIG_OUTCOME t = 2 ∧ savState t = 8 ∧ t.pwr.seq = .down ∧ get Reg.PWR.STS_STATE t = 4 ∧
      Changes [.eng, .sav, .pwr, .flt] [Reg.SAV.LAST_TRIG_TRIGGER, Reg.SAV.LAST_TRIG_OUTCOME, Reg.SAV.STS_STATE,
        Reg.PWR.STS_STATE, Reg.SAF.FINJ_KEY_OPEN] s t) ∧
  (k = 4 → savArmed s = false ∨ (fenced s = true ∧ savState s = 7) →
    Completes c s fun t =>
      t.pwr.resetDue = true ∧ t.pwr.modReset = true ∧ [Out.moduleReset true] <+: t.out ∧
      Changes [.flt, .pwr] [Reg.SAF.FINJ_KEY_OPEN] s t) ∧
  (isSet Reg.SAV.CFG_PFAIL_EN s = false → savState s ≠ 7 →
    Completes .pfail s fun t => t.eng.last.pfailLow = true ∧ vinGoodNow t = false ∧ Changes [.eng, .sav] [] s t)

/-- The drain, the decision, the pre-seal and the ride's end (R94, R149, R151, R279 to R283, R286). Readings of the
model's own that clauses rest on: log entries 43, 87. -/
def Obligations.DrainAndRide : Prop :=
  ∀ s : State, Ready s → savArmed s = true → fenced s = true →
  let ended := savState s = 2 ∧ s.sav.drained = false ∧ (∀ e ∈ s.dram.writes, e.held = false) ∧
    (∀ a ∈ s.frm.aborts, ¬ (a.1 = 0x10 ∨ (0x20 ≤ a.1 ∧ a.1 < 0x30)))
  (ended → s.sav.resetFence = false → hasTrigger 2 s = true ∨ isSet Reg.SAV.CFG_RIDE_EN s = false →
    Completes .drainDone s fun t =>
      savState t = 6 ∧ t.sav.drained = true ∧ t.dram.reads = [] ∧ t.hp.reads = [] ∧ t.hp.gpfWaiting = [] ∧
      (∀ e ∈ t.dram.writes, e.hashBad = true) ∧
      (∀ n ∈ s.hp.gpfWaiting, Out.gpfAck n 2 false ∈ t.out)) ∧
  (ended → s.sav.resetFence = false → s.dram.writes = [] → chooseSave s = false →
    Completes .drainDone s fun t =>
      t.sav.decided = now s ∧
      (dirtyEff s ≤ bCap s → savState t = 4 ∧ get (Reg.EVT_STS 0x42 1) t = 1 ∧ get Reg.PWR.STS_STATE t = 3 ∧
        t.dram.selfRefresh = true ∧ t.sav.rideStart = now s ∧ t.sav.rode = true ∧
        (∀ ch : Fin 16, pagePresent (0x20 + ch) s = true → owed ch s ≤ 5 → owed ch t ≤ 0)) ∧
      (bCap s < dirtyEff s → savState t = 3 ∧ get Reg.SAV.LAST_TRIG_PRESEAL t = 1) ∧
      (∀ a, readByte a t = readByte a s)) ∧
  (ended → s.sav.resetFence = true →
    Completes .drainDone s fun t => t.sav.drained = true ∧ t.pwr.resetDue = true ∧ Out.moduleReset true ∈ t.out) ∧
  (∀ pool : Nat, savState s = 2 → s.sav.drained = false →
    Completes (.drainTimeout pool) s fun t => Fresh 180 s →
      Raised 180 s t ∧ Changes raiseParts (raiseFields 180) s t) ∧
  (savState s = 3 → s.nand.sealing = [] → vinGoodNow s = false → presealCut s = false → dirtyEff s ≤ bCap s →
    Completes .presealDone s fun t =>
      savState t = 4 ∧ get Reg.PWR.STS_STATE t = 3 ∧ t.pwr.seq = .ride ∧ t.pwr.offDue = true ∧
      Changes [.dram, .eng, .pwr, .sav] ([Reg.SAV.STS_STATE, Reg.EVT_STS 0x42 1, Reg.PWR.STS_STATE] ++
        (List.range 16).flatMap (fun ch => [Reg.DCH.STS_OWED ch, Reg.DCH.STS_MODE ch])) s t) ∧
  (savState s = 3 → s.nand.sealing = [] → presealCut s = true ∨
      (vinGoodNow s = false ∧ bCap s < dirtyEff s ∧ presealable s = false) →
    Completes .presealDone s fun t => savState t = 6 ∧ Changes [] [Reg.SAV.STS_STATE] s t) ∧
  (rideOver s = true →
    Completes .rideMaxExpired s fun t => (∀ r : Fin 16, Calm (256 + r) s) →
      savState t = 5 ∧ get Reg.SAV.LAST_TRIG_TRIGGER t = Nat.lor (get Reg.SAV.LAST_TRIG_TRIGGER s) 64 % 256 ∧
      get Reg.SAV.LAST_RIDE_MS t = (now s - s.sav.rideStart) / 50 % 2 ^ 32 ∧ (∀ a, readByte a t = readByte a s)) ∧
  (savState s = 4 → rideOver s = false → vinStable s = true →
    Completes .warmReturn s fun t => (∀ r : Fin 16, Calm (256 + r) s) →
      savState t = 9 ∧ get Reg.SAV.LAST_TRIG_OUTCOME t = 1 ∧
      get Reg.SAV.COUNTS_RIDES t = oneMore Reg.SAV.COUNTS_RIDES s ∧
      get Reg.SAV.LAST_RIDE_MS t = (now s - s.sav.rideStart) / 50 % 2 ^ 32 ∧ (∀ a, readByte a t = readByte a s)) ∧
  (vinStable s = true → (savState s = 3 ∧ s.nand.sealing = []) ∨ (savState s = 7 ∧ saveKind s = 1) →
    Completes .warmReturn s fun t =>
      savState t = 9 ∧ get Reg.SAV.LAST_TRIG_OUTCOME t = (if savState s = 3 then 1 else 3) ∧
      get (Reg.EVT_STS 0x42 2) t = 1 ∧ get Reg.MRV.RC_STS_FULL_ACTIVE t = 1 ∧ get Reg.SYS.PERSIST_RECOUNT t = 1 ∧
      t.dram.selfRefresh = false ∧ t.rng.logClosed = false ∧
      (s.dram.mapInUse = [] → Changes [.dram, .rsr, .sav, .mrv, .rng] [Reg.SAV.LAST_TRIG_OUTCOME, Reg.SAV.STS_STATE,
        Reg.EVT_STS 0x42 2, Reg.MRV.RC_STS_FULL_ACTIVE, Reg.SYS.PERSIST_RECOUNT] s t))

/-- The save's records in the order of R287, its manifest, RESUME and the undervoltage limit (R39, R207, R209, R287,
R290, R294, R296, R297, R370, R392). Readings of the model's own that clauses rest on: log entries 43, 87, 88. -/
def Obligations.SaveRecords : Prop :=
  ∀ s : State, Ready s →
  let room := creditFor (poolAddr 0x42 0x13C) true s = true ∧ ∃ die, die < 16 ∧ dieTakes (nextChannel s) die s = true
  let adds := fun (t : State) (b : RecBody) => ∃ r, t.nand.others = s.nand.others ++ [r] ∧ r.body = b ∧ r.bySave = true ∧
    r.frame = now s ∧ r.device = deviceId s
  (saving s = true → saveIntent s = none → room →
    Completes (.recordProgrammed .continuity) s fun t =>
      get Reg.SAV.STS_PARISON t = 1 ∧
      (∃ i, adds t (.continuity (some i)) ∧ i.frameFence = s.sav.t0 ∧ i.contexts = savedContexts s ∧
        i.granules = (s.mrv.entries.filter (fun e => e.2.state != .clean)).map (·.1)) ∧
      Changes [.nand, .mrv] [Reg.SAV.STS_PARISON, Reg.NFC.ERASED_BLOCKS] s t) ∧
  (saving s = true → (saveIntent s).isSome = true → mergesDone s = true → room →
    (saved .undo s = false →
      Completes (.recordProgrammed .undo) s fun t => t.rng.logClosed = true ∧
        ∀ p, savedPairs s = [p] → adds t (.undo p)) ∧
    (holdSaved s = false → saved .undo s = true ∨ s.txn.pairs = [] →
      Completes (.recordProgrammed .hold) s fun t =>
        adds t (.hold (savedContexts s) s.txn.pairs s.rng.log) ∧ t.rng.logClosed = true ∧
        Changes [.nand, .mrv, .rng] [Reg.NFC.ERASED_BLOCKS] s t)) ∧
  (saving s = true → metadataDue s = true → room →
    (∀ (k : RecKind) (b : RecBody), (k = .delta ∧ b = .delta s.nand.delta) ∨ (k = .marver ∧ b = .marver s.mrv.entries) ∨
        (k = .cullet ∧ b = .cullet s.nand.cullet s.nand.factory) → saved b.type s = false →
      Completes (.recordProgrammed k) s fun t =>
        adds t b ∧ Changes [.nand, .mrv] [Reg.NFC.ERASED_BLOCKS] s t) ∧
    (saved .gather s = false →
      Completes (.recordProgrammed .gather) s fun t => ∃ q p, adds t (.gather q p)) ∧
    ((saveRecords s).contains (.continuity none) = false → (saveIntent s).isSome = true →
      Completes (.recordProgrammed .continuity) s fun t => adds t (.continuity none)) ∧
    (directoryDue s = true → saved .map s = false →
      Completes (.recordProgrammed .map) s fun t => ∃ l, adds t (.map 0x1000 l))) ∧
  (saving s = false → fenced s = false →
    Completes (.recordProgrammed .delta) s fun t =>
      t.nand.delta = s.nand.delta.map (fun d => { d with programmed := true }) ∧
      Changes [.nand, .mrv] [Reg.NFC.ERASED_BLOCKS] s t) ∧
  (∀ a b : Bool, (a && (anchorsTake s).1 || b && (anchorsTake s).2) = true → saving s = true → directoryDue s = true →
    saved .map s = true →
    Completes (.manifestProgrammed a b) s fun t => s.sav.waitingActs = [] → s.pwr.waitingDoms = [] →
      (s.nand.anchor0.page < pagesPerBlock s → s.nand.anchor4.page < pagesPerBlock s →
        ∃ m, t.nand.manifests = s.nand.manifests ++ [m] ∧ m.seq = nextSeq s ∧ m.kind = saveKind s ∧
          m.frameFence = s.sav.t0 ∧ m.map = s.nand.mapFlash) ∧
      get Reg.SAV.STS_PARISON t = 0 ∧ get (Reg.EVT_STS 0x42 3) t = 1 ∧
      get Reg.SAV.COUNTS_SAVES t = oneMore Reg.SAV.COUNTS_SAVES s ∧ t.sav.manifestDone = true ∧
      (vinGoodNow s = false → get Reg.SAV.LAST_TRIG_OUTCOME t = 2 ∧ savState t = 8 ∧ t.pwr.seq = .down) ∧
      (vinGoodNow s = true → savState t = 7 ∧ (s.sav.deferredReset = true → t.pwr.resetDue = true) ∧
        (s.sav.deferredReset = false → get (Reg.EVT_STS 0x42 4) t = 1)) ∧ (∀ x, readByte x t = readByte x s)) ∧
  (saving s = true → directoryDue s = true → saved .map s = true →
    Completes (.manifestProgrammed false false) s fun t => Fresh 230 s →
      Raised 230 s t ∧ Changes raiseParts (raiseFields 230) s t) ∧
  (∀ w : Writer, Reaches w 0x42138 1 s →
    (flushHold s = true → vinGoodNow s = true →
      Completes (.resume w) s fun t =>
        savState t = 9 ∧ get Reg.SAV.LAST_TRIG_OUTCOME t = 3 ∧ get Reg.MRV.RC_STS_FULL_ACTIVE t = 1 ∧
        (s.dram.mapInUse = [] → Changes [.dram, .rsr, .sav, .mrv, .rng] [Reg.SAV.LAST_TRIG_OUTCOME, Reg.SAV.STS_STATE,
          Reg.EVT_STS 0x42 2, Reg.MRV.RC_STS_FULL_ACTIVE, Reg.SYS.PERSIST_RECOUNT] s t)) ∧
    (flushHold s = false ∨ vinGoodNow s = false →
      Completes (.resume w) s fun t =>
        get (Reg.BLKWERR_BUSY 0x42) t = 1 ∧
        Changes [] [Reg.BLKWERR_BUSY 0x42, Reg.BLKWERR_OFFSET 0x42, Reg.BLKWERR_SOURCE 0x42] s t)) ∧
  (vinGoodNow s = false →
    Completes .undervoltageLimit s fun t => Calm 156 s → Calm 157 s → Calm 165 s →
      get Reg.PWR.STS_STATE t = 5 ∧ get Reg.PWR.FAIL_CAUSE t = 6 ∧ get Reg.PWR.FAIL_RAIL t = 0 ∧
      get (Reg.EVT_STS 0x81 5) t = 1 ∧ t.pwr.seq = .emergency ∧
      (∀ r, r ∈ downOrder s → railIsOn r t = false) ∧ t.nand.manifests = s.nand.manifests ∧
      (savArmed s = true → fenced s = true → s.sav.manifestDone = false → s.hp.outageCounted = false →
        t.hp.dirtyShutdowns = s.hp.dirtyShutdowns + 1))

/-! ### The restore (R300 to R322, R486, R506) -/

/-- The restore's way from its start to the choice of mode: the manifest, validation, metadata, the scan, rollback
(R300 to R309, R312 to R314). Readings of the model's own that clauses rest on: log entry 85. -/
def Obligations.RestoreMetadata : Prop :=
  ∀ s : State, Ready s → rsrRuns s = true →
  let est := 150 + get Reg.RSR.TOTAL_GRAN s * granBytes s / (max 1 (get Reg.RSR.RATE_MBS s) * 1000)
  let ahead := s.rsr.cfg.mode = 2 ∨ (s.rsr.cfg.mode ≠ 1 ∧ s.rsr.cfg.deadlineMs < est)
  let chosen := fun (t : State) => rsrStage t = (if ahead then 8 else 7) ∧
    get Reg.RSR.STS_RUN_AHEAD t = (if ahead then 1 else 0) ∧ get Reg.RSR.EST_MS t = est % 2 ^ 24
  (s.dram.trained = true → nandReady s = true → s.pwr.firmware = true → rsrStage s = 0 → admittedNow s = false →
    Completes .restoreStart s fun t =>
      rsrStage t = 1 ∧ get Reg.SYS.BOOT_STAGE t = 7 ∧ get Reg.RSR.STS_FALLBACKS t = 0 ∧
      t.rsr.cfg = { mode := get Reg.RSR.CFG_MODE s, fallbackMax := get Reg.RSR.CFG_FALLBACK_MAX s,
                    deadlineMs := get Reg.RSR.READY_DEADLINE_MS s, doubtWait := get Reg.RSR.DOUBT_WAIT_FRAMES s } ∧
      (∀ n : Fin 4, t.hp.mediaStage.getD n 0 = get (Reg.HPT.CTL_MEDIA_STAGE n) s) ∧
      (∀ x, readByte x t = readByte x s) ∧ t.nand.manifests = s.nand.manifests) ∧
  (∀ m, rsrStage s = 1 → newestManifest s = some m →
    Completes (.manifestLocated true) s fun t =>
      rsrStage t = 2 ∧ t.rsr.manifest = some m ∧
      Changes [.rsr, .eng] [Reg.RSR.STS_STAGE, Reg.NFC.MANIFEST_LOC_LOC] s t) ∧
  (rsrStage s = 1 → s.nand.initialised = false →
    Completes (.manifestLocated false) s fun t =>
      (∀ ch : Fin 32, channelPresent ch s = true → qualifiedChannel ch s = true) →
      rsrStage t = 7 ∧ t.rsr.ready = true ∧ t.rsr.firstInit = true ∧ t.nand.initialised = true ∧
      (s.nand.anchor0.page < pagesPerBlock s → s.nand.anchor4.page < pagesPerBlock s →
        ∃ m, t.nand.manifests = s.nand.manifests ++ [m] ∧ m.kind = 2 ∧ m.seq = nextSeq s) ∧
      get Reg.MRV.CFG_GRAN_IN_USE t = get Reg.MRV.CFG_GRAN_SIZE s % 4 ∧ (∀ a, readByte a t = 0) ∧
      t.dram.poisoned = []) ∧
  (∀ ch : Fin 32, rsrStage s = 1 → s.nand.initialised = false → channelPresent ch s = true →
    qualifiedChannel ch s = false →
    Completes (.manifestLocated false) s fun t => (∀ k : Fin 32, Calm (192 + k) s) →
      get (Reg.NCH.STS_FAILED ch) t = 1) ∧
  (rsrStage s = 1 → s.nand.initialised = true →
    Completes (.manifestLocated false) s fun t => Calm 336 s →
      rsrStage t = 10 ∧ t.pwr.recovery = true ∧ t.pwr.firmware = false ∧ get Reg.SYS.BOOT_STAGE t = 11 ∧
      (∀ n : Fin 4, portUsed n s = true → get (Reg.HPT.STS_MEDIA n) t = 2)) ∧
  (∀ m, rsrStage s = 2 → s.rsr.manifest = some m → recordsNamed m s = true →
    m.granSize = get Reg.MRV.CFG_GRAN_IN_USE s →
    Completes (.manifestValidated true) s fun t =>
      rsrStage t = 4 ∧ get Reg.RSR.MANIFEST_SEQ t = m.seq % 2 ^ 32 ∧
      get Reg.RSR.MAN_FRAME_FRAME t = m.frameFence % 2 ^ 32 ∧ isSet Reg.RSR.STS_REBUILD t = rebuildPath m s ∧
      Changes [] [Reg.RSR.STS_STAGE, Reg.RSR.MANIFEST_SEQ, Reg.RSR.MAN_FRAME_FRAME, Reg.RSR.STS_REBUILD] s t) ∧
  (∀ m o ok, rsrStage s = 2 → s.rsr.manifest = some m → olderManifest m s = some o →
    ok = false ∨ recordsNamed m s = false ∨ m.granSize ≠ get Reg.MRV.CFG_GRAN_IN_USE s →
    get Reg.RSR.STS_FALLBACKS s + 1 < s.rsr.cfg.fallbackMax → s.rsr.cfg.fallbackMax ≤ 7 →
    Completes (.manifestValidated ok) s fun t => Fresh 239 s →
      rsrStage t = 2 ∧ t.rsr.manifest = some o ∧ get Reg.RSR.STS_FALLBACKS t = get Reg.RSR.STS_FALLBACKS s + 1 ∧
      get (Reg.EVT_STS 0x43 3) t = 1 ∧ Raised 239 s t ∧
      Changes ([.rsr] ++ raiseParts) ([Reg.RSR.STS_FALLBACKS, Reg.EVT_STS 0x43 3] ++ raiseFields 239) s t) ∧
  (∀ m, rsrStage s = 4 → s.rsr.manifest = some m → isSet Reg.RSR.STS_REBUILD s = false →
    Completes .metaDone s fun t =>
      rsrStage t = 5 ∧ t.rsr.all = false ∧ t.rsr.restored = [] ∧ get Reg.RSR.DONE_GRAN t = 0 ∧
      get (Reg.EVT_STS 0x43 0) t = 1 ∧ get Reg.SAV.LAST_TRIG_OUTCOME t = 2 ∧
      get Reg.SAV.LAST_TRIG_TRIGGER t = m.trigger % 256 ∧ t.sav.t0 = m.frameFence ∧
      (s.rsr.moved = [] → (∀ e ∈ m.entries, e.2.lost = false) →
        t.nand.mapFlash = m.map.filter (fun e => decide (e.1 < mapEntries s)))) ∧
  (∀ m, rsrStage s = 4 → s.rsr.manifest = some m → isSet Reg.RSR.STS_REBUILD s = true →
    Completes .metaDone s fun t => Fresh 239 s →
      rsrStage t = 3 ∧ get (Reg.EVT_STS 0x43 0) t = 1 ∧ get (Reg.EVT_STS 0x43 6) t = 1 ∧ Raised 239 s t) ∧
  (rsrStage s = 3 →
    Completes (.recoveryScanDone true) s fun t =>
      rsrStage t = 5 ∧ get Reg.RSR.STS_UNVERIFIED t = 1 ∧ t.rsr.unsaved = true ∧
      (∀ g r, g ∈ recordedGranules s → bestRecord g (fun r => considered r s) s = some r →
        look t.nand.map g = some r.loc.code) ∧
      (∀ a, readByte a t = readByte a s)) ∧
  (rsrStage s = 5 →
    Completes .rollbackDone s fun t => s.txn.pairs = [] →
      ((∀ g, g < 64 → ctxState g s ≠ 3 ∧ ctxState g s ≠ 7) → chosen t) ∧
      ((∃ g, g < 64 ∧ (ctxState g s = 3 ∨ ctxState g s = 7) ∧ recorded g s = none) →
        rsrStage t = 6 ∧ t.rsr.doubtLeft = some s.rsr.cfg.doubtWait) ∧
      (∀ g, g < 64 → ctxState g s = 1 ∨ ctxState g s = 2 ∨ ctxState g s = 5 →
        ctxState g t = 6 ∧ get (Reg.TXC.CTX_STS_ROLLED_BACK (g / 16) (g % 16)) t = 1) ∧
      (∀ a, readByte a t = readByte a s)) ∧
  (rsrStage s = 6 → s.rsr.doubtLeft = some 0 →
    Completes .doubtWaitExpired s fun t =>
      chosen t ∧ t.rsr.doubtLeft = none ∧
      Changes [.rsr] [Reg.RSR.STS_STAGE, Reg.RSR.STS_RUN_AHEAD, Reg.RSR.EST_MS, Reg.RSR.HEAT_LEVEL,
        Reg.RSR.HEAT_CURSOR] s t)

/-- Admission and the image: admission clears BOOT and the fence and arms SAV; a granule's record data goes to DRAM,
and a granule without one is LOST, poisoned and reported; the end of the image (R310, R311, R315, R318, R320, R322,
R486). Readings of the model's own that clauses rest on: log entry 86. -/
def Obligations.RestoreImage : Prop :=
  ∀ s : State, Ready s → rsrRuns s = true →
  (s.rsr.ready = true → rsrStage s = 7 ∨ rsrStage s = 8 ∨ rsrStage s = 9 → admittedNow s = false →
    reclaimHolds s = false →
    Completes .admitted s fun t =>
      admittedNow t = true ∧ fenced t = false ∧ savArmed t = true ∧ savState t = 1 ∧
      get Reg.RSR.STS_ADMITTED t = 1 ∧ get (Reg.EVT_STS 0x43 1) t = 1 ∧ get (Reg.EVT_STS 0x43 5) t = 1 ∧
      get Reg.SYS.BOOT_STAGE t = (if rsrStage s = 9 then 10 else 9) ∧
      (∀ n : Fin 4, get (Reg.HPT.STS_FENCED n) t = 0) ∧ t.rsr.runRecord = (newestManifest s).map (·.seq) ∧
      t.rsr.ready = false) ∧
  (∀ (g : Nat) (r : SealRec), mayRestore g s = true → unrestored g s = true → currentRecord g s = some r →
    sealValid r s = true → hostLines g s = [] →
    Completes (.restoreGranuleDone g true) s fun t =>
      s.hp.stalled = [] → Memory.wf r.image = true → (∀ c ∈ r.image, c.1 < granBytes s) →
      g ∈ t.rsr.restored ∧ (entryOf g t).state = .clean ∧
      get Reg.RSR.DONE_GRAN t = (get Reg.RSR.DONE_GRAN s + 1) % 2 ^ 25 ∧
      (∀ o, o < granBytes s → readByte (g * granBytes s + o) t = (look r.image o).getD 0) ∧
      (∀ a, a < g * granBytes s ∨ (g + 1) * granBytes s ≤ a → readByte a t = readByte a s)) ∧
  (∀ (g : Nat) (ok : Bool), mayRestore g s = true → unrestored g s = true → hostLines g s = [] →
    ok = false ∨ (∀ r, currentRecord g s = some r → sealValid r s = false) →
    Completes (.restoreGranuleDone g ok) s fun t => s.hp.stalled = [] → Fresh 240 s →
      g ∈ t.rsr.restored ∧ g ∈ t.rsr.lost ∧ (entryOf g t).lost = true ∧ (entryOf g t).state = .dirty ∧
      (∀ j, j < granLines s → isPoisoned (granuleBase g s + j) t = true) ∧
      get Reg.RSR.LOST_COUNT t = oneMore Reg.RSR.LOST_COUNT s ∧ get (Reg.EVT_STS 0x43 4) t = 1 ∧ Raised 240 s t ∧
      (∀ a, a < g * granBytes s ∨ (g + 1) * granBytes s ≤ a → readByte a t = readByte a s)) ∧
  (rsrStage s = 7 ∨ rsrStage s = 8 → allRestored s = true → fenced s = false ∨ admittedNow s = false →
    Completes .imageDone s fun t =>
      rsrStage t = 9 ∧ t.rsr.all = true ∧ get (Reg.EVT_STS 0x43 2) t = 1 ∧ get Reg.RSR.ETA_MS t = 0 ∧
      t.rsr.ready = !admittedNow s ∧
      (admittedNow s = true → get Reg.SYS.BOOT_STAGE t = 10 ∧ get (Reg.EVT_STS 0x43 5) t = 1) ∧
      (∀ a, readByte a t = readByte a s))

/-! ### The twin (R328 to R351) -/

/-- The commands of `TWN.CTL`: each has its effect in the states that R332, R340, R348 and R349 give it, and otherwise
its RESULT code, or WERR_BUSY. Readings of the model's own that clauses rest on: log entry 62. -/
def Obligations.TwinControl : Prop :=
  ∀ s : State, Ready s → ∀ w : Writer,
  let result := fun (c : Instr) (r : Nat) =>
    Completes c s fun t => get Reg.TWN.STS_RESULT t = r ∧ Changes [] [Reg.TWN.STS_RESULT] s t
  let busy := fun (c : Instr) => Completes c s fun t =>
    get (Reg.BLKWERR_BUSY 0xC1) t = 1 ∧
    Changes [] [Reg.BLKWERR_BUSY 0xC1, Reg.BLKWERR_OFFSET 0xC1, Reg.BLKWERR_SOURCE 0xC1] s t
  (Reaches w 0xC1108 1 s →
    (twinState s ≠ 0 ∧ isSet Reg.TWN.STS_PROMOTED s = false → result (.pair w) 1) ∧
    (twinState s = 0 ∨ isSet Reg.TWN.STS_PROMOTED s = true →
      (isSet Reg.SYS.CAPS_TWIN s = false → result (.pair w) 2) ∧
      (isSet Reg.SYS.CAPS_TWIN s = true → pairingFits s = false → result (.pair w) 3) ∧
      (isSet Reg.SYS.CAPS_TWIN s = true → pairingFits s = true →
        Completes (.pair w) s fun t =>
          t.twn = { s.twn with nextPair := some true } ∧ get Reg.TWN.STS_RESULT t = 0 ∧
          Changes [.twn] [Reg.TWN.STS_RESULT] s t))) ∧
  (Reaches w 0xC1108 2 s →
    if isSet Reg.TWN.STS_PROMOTED s then busy (.unpair w)
    else Completes (.unpair w) s fun t =>
      t.twn = { s.twn with nextPair := some false } ∧ get Reg.TWN.STS_RESULT t = 0 ∧
      Changes [.twn] [Reg.TWN.STS_RESULT] s t) ∧
  (Reaches w 0xC1108 4 s →
    (twinAttached s = false → twinState s ≠ 2 → result (.detach w) 1) ∧
    (twinAttached s = true ∨ twinState s = 2 →
      Completes (.detach w) s fun t =>
        [Out.twin "DETACH" []] <+: t.out ∧ get Reg.TWN.STS_RESULT t = 0 ∧ t.twn.detachedHere = true ∧
        ((∀ r ∈ s.dram.repairs, r.stage ≠ .twin) →
          twinState t = 6 ∧ (paired s = true → get Reg.SYS.PERSIST_TWIN_DEGRADED t = 1) ∧
          get Reg.SYS.PERSIST_SCOPE t = 0 ∧ t.twn.outstanding = [] ∧
          (∀ m ∈ s.twn.outstanding, granuleOf m.line s < homeGranules s → entryInUse (granuleOf m.line s) s = true →
            (entryOf (granuleOf m.line s) t).twinDirty = true) ∧
          (∀ x ∈ t.hp.writes, x.seq = none) ∧ (∀ a, readByte a t = readByte a s)))) ∧
  (Reaches w 0xC1108 8 s →
    (twinState s ≠ 6 → result (.reattach w) 1) ∧
    (twinState s = 6 →
      Completes (.reattach w) s fun t =>
        t.twn.reattach = true ∧ t.twn.hello = none ∧ get Reg.TWN.STS_RESULT t = 0 ∧
        Changes [.twn] [Reg.TWN.STS_RESULT] s t)) ∧
  (Reaches w 0xC1108 16 s →
    (twinState s ≠ 5 → twinState s ≠ 6 → result (.twinFailed w) 1) ∧
    (twinState s = 5 ∨ twinState s = 6 →
      Completes (.twinFailed w) s fun t =>
        t.twn = { s.twn with failedIn := some (twinState s) } ∧ get Reg.TWN.STS_RESULT t = 0 ∧
        Changes [.twn] [Reg.TWN.STS_RESULT] s t)) ∧
  (Reaches w 0xC1108 32 s →
    (s.twn.failedIn ≠ some (twinState s) → result (.promote w) 1) ∧
    (twinState s = 5 ∨ twinState s = 6 → s.twn.failedIn = some (twinState s) →
      Completes (.promote w) s fun t =>
        get Reg.TWN.STS_PROMOTED t = 1 ∧ t.twn.failedIn = none ∧ get Reg.TWN.STS_RESULT t = 0 ∧
        get (Reg.EVT_STS 0xC1 3) t = 1 ∧
        ((∀ c, c < 64 → remotePrepared c s = true ∨ remoteOpen c s = false) →
          get Reg.TWN.MIRROR_GEN_VALUE t = (get Reg.TWN.MIRROR_GEN_VALUE s + 1) % 2 ^ 32 ∧
          (∀ c, c < 64 → remotePrepared c s = true → look s.twn.tags c ≠ none →
            c ∈ t.twn.doubt ∧ get Reg.SYS.PERSIST_IN_DOUBT t = 1)) ∧
        ((∀ c, c < 64 → remotePrepared c s = false ∧ remoteOpen c s = false) →
          Changes [.twn, .upd] [Reg.TWN.STS_PROMOTED, Reg.TWN.MIRROR_GEN_VALUE, Reg.EVT_STS 0xC1 3,
            Reg.TWN.STS_RESULT] s t))) ∧
  (Reaches w 0xC1108 64 s →
    if isSet Reg.TWN.STS_PROMOTED s && s.twn.peerState == 7 && !s.hp.decoders.any (fun d => d.decoder == 2) then
      Completes (.demote w) s fun t =>
        get Reg.TWN.STS_PROMOTED t = 0 ∧ get Reg.TWN.STS_RESULT t = 0 ∧
        Changes [.upd] [Reg.TWN.STS_PROMOTED, Reg.TWN.STS_RESULT] s t
    else busy (.demote w))

/-- The twin's messages: heartbeats and their loss, fence and detach, mirror writes and their acknowledgement, seals,
repairs, and the link itself (R328 to R331, R335 to R338, R340, R341, R164). Readings of the model's own that clauses
rest on: log entries 60, 61, 63. -/
def Obligations.TwinMessages : Prop :=
  ∀ s : State, Ready s →
  let settled := ∀ r ∈ s.dram.repairs, r.stage ≠ .twin
  let degraded := fun (t : State) => get Reg.SYS.PERSIST_TWIN_DEGRADED t = 1 ∧ get Reg.SYS.PERSIST_SCOPE t = 0 ∧
    t.twn.outstanding = [] ∧ (∀ x ∈ t.hp.writes, x.seq = none) ∧ (∀ a, readByte a t = readByte a s)
  (paired s = true → puntyUp s = true →
    (∀ h : HeartbeatIn,
      Completes (.heartbeat h) s fun t =>
        get Reg.TWN.STS_MISSED t = 0 ∧ t.twn.heard = true ∧ t.twn.peerState = h.state ∧
        t.twn.outstanding = s.twn.outstanding.filter (fun (m : Mirrored) => !covered m.seq h.seq) ∧
        Changes [.twn, .hp] [Reg.TWN.STS_MISSED] s t) ∧
    (∀ seq : Nat,
      Completes (.mirrorAck seq) s fun t =>
        t.twn = { s.twn with outstanding := s.twn.outstanding.filter (fun (m : Mirrored) => !covered m.seq seq) } ∧
        (∀ x ∈ t.hp.writes, ∀ k, x.seq = some k → covered k seq = false) ∧ Changes [.twn, .hp] [] s t) ∧
    (twinAttached s = true →
      Completes .fenceMessage s fun t => settled → Calm 158 s →
        twinState t = 5 ∧ degraded t ∧ (isSet (Reg.FLS.LIVE 158) s = false → Raised 158 s t) ∧
        get (Reg.EVT_STS 0xC1 0) t = 1 ∧ get Reg.TWN.LOSSES_COUNT t = oneMore Reg.TWN.LOSSES_COUNT s) ∧
    (twinAttached s = true ∨ twinState s = 2 →
      Completes .detachMessage s fun t => t.twn.detachedHere = false ∧ t.twn.reattach = false ∧
        (settled → twinState t = 6 ∧ degraded t)) ∧
    (∀ m : MirrorIn, fenced s = false → twinAttached s = true → m.ctx = none → m.crcOk = true → m.ecc = .good →
      unrestored (granuleOf (mirrorLine m.line s) s) s = false → granuleOf (mirrorLine m.line s) s < mapEntries s →
      writeFits (mirrorLine m.line s) s = true →
      Completes (.mirrorWrite m) s fun t => s.twn.stalled = [] →
        (lineGood m.data m.residues = true →
          Out.twin "MIRROR_ACK" [m.seq] ∈ t.out ∧ t.twn.seqIn = m.seq ∧
          (m.be = allBytes → lineNow (mirrorLine m.line s) t = (m.data, false)) ∧
          ((∀ e ∈ s.dram.writes, e.line ≠ mirrorLine m.line s) →
            ∃ e, t.dram.writes = s.dram.writes ++ [e] ∧ e.line = mirrorLine m.line s ∧ e.be = m.be ∧ e.data = m.data) ∧
          (∀ a, readByte a t = readByte a s)) ∧
        (lineGood m.data m.residues = false → Calm 181 s →
          Out.twin "MIRROR_ACK" [m.seq] ∈ t.out ∧ (lineNow (mirrorLine m.line s) t).2 = true ∧
          (entryInUse (granuleOf (mirrorLine m.line s) s) s = true →
            (entryOf (granuleOf (mirrorLine m.line s) s) t).lost = true) ∧
          (isSet (Reg.FLS.LIVE 181) s = false → Raised 181 s t) ∧ (∀ a, readByte a t = readByte a s))) ∧
    (∀ m : MirrorIn, fenced s = false → twinState s ≠ 3 → twinState s ≠ 4 → m.crcOk = true →
      Completes (.mirrorWrite m) s fun t =>
        get Reg.TWN.MIRROR_DROPPED_COUNT t = oneMore Reg.TWN.MIRROR_DROPPED_COUNT s ∧
        t.twn = { s.twn with flitReplays := 0 } ∧ Changes [.twn] [Reg.TWN.MIRROR_DROPPED_COUNT] s t) ∧
    (∀ m : MirrorIn, m.crcOk = false →
      Completes (.mirrorWrite m) s fun t =>
        get Reg.PNT.REPLAYS_COUNT t = oneMore Reg.PNT.REPLAYS_COUNT s ∧
        (s.twn.flitReplays + 1 < 8 →
          t.twn = { s.twn with flitReplays := s.twn.flitReplays + 1 } ∧
          Changes [.twn] [Reg.PNT.REPLAYS_COUNT] s t) ∧
        (8 ≤ s.twn.flitReplays + 1 →
          puntyUp t = false ∧ get Reg.PNT.RETRAINS_COUNT t = oneMore Reg.PNT.RETRAINS_COUNT s)) ∧
    (∀ seq gen : BitVec 32,
      Completes (.sealN seq gen) s fun t =>
        get Reg.TWN.PEER_SEQ_VALUE t = seq.toNat ∧ get Reg.TWN.PEER_GEN_VALUE t = gen.toNat ∧
        Changes [] [Reg.TWN.PEER_SEQ_VALUE, Reg.TWN.PEER_GEN_VALUE] s t) ∧
    (∀ line : Nat,
      Completes (.repairRequest line) s fun t =>
        [Out.twin "REPAIR_REPLY" (repairAnswer line s)] <+: t.out ∧ Changes [] [] s t) ∧
    (∀ (line : Nat) (d : Line) (r : Repair), repairOf line s = some r → r.stage = .twin →
      Completes (.repairReply line (some d)) s fun t => s.hp.stalled = [] →
        repairOf line t = none ∧ get Reg.SPR.REPAIR_TWIN t = oneMore Reg.SPR.REPAIR_TWIN s ∧
        (r.written = 0 → readLine line t = d) ∧ (r.written ≠ allBytes → isPoisoned line t = false) ∧
        (r.written = allBytes → readLine line t = readLine line s) ∧
        (∀ a, ¬ (64 * line ≤ a ∧ a < 64 * line + 64) → readByte a t = readByte a s))) ∧
  (twinAttached s = true → 3 ≤ get Reg.TWN.STS_MISSED s →
    Completes .twinLost s fun t => settled → Calm 157 s →
      twinState t = 5 ∧ degraded t ∧ (isSet (Reg.FLS.LIVE 157) s = false → Raised 157 s t) ∧
      get (Reg.EVT_STS 0xC1 0) t = 1 ∧ get Reg.TWN.LOSSES_COUNT t = oneMore Reg.TWN.LOSSES_COUNT s) ∧
  (puntyUp s = true →
    Completes .puntyRetrain s fun t =>
      puntyUp t = false ∧ get Reg.PNT.RETRAINS_COUNT t = oneMore Reg.PNT.RETRAINS_COUNT s ∧
      get (Reg.EVT_STS 0xC0 2) t = 1 ∧
      Changes [] [Reg.PNT.LINK_WIDTH, Reg.PNT.LINK_RATE, Reg.PNT.RETRAINS_COUNT, Reg.EVT_STS 0xC0 2] s t) ∧
  (∀ x32 gt64 : Bool, isSet Reg.SYS.CAPS_TWIN s = true → domainOn 8 s = true → domainOn 9 s = true →
    s.pwr.firmware = true →
    Completes (.puntyLinkUp x32 gt64) s fun t => Fresh 156 s →
      get Reg.PNT.LINK_WIDTH t = (if x32 then 2 else 1) ∧ get Reg.PNT.LINK_RATE t = (if gt64 then 2 else 1) ∧
      get Reg.PNT.LINK_DEGRADED t = b2n (!(x32 && gt64)) ∧
      ((x32 && gt64) = false → get (Reg.EVT_STS 0xC0 1) t = 1 ∧ Raised 156 s t) ∧
      Changes raiseParts ([Reg.PNT.LINK_WIDTH, Reg.PNT.LINK_RATE, Reg.PNT.LINK_DEGRADED, Reg.EVT_STS 0xC0 1] ++
        raiseFields 156) s t)

/-- Remote contexts and reconciliation: PREPARE and its acknowledgement, the end of a remote context, HOLD_FULL,
HELLO, PLAN, PLAN_ACK, REGION_DONE, the waits and the granule copies (R187, R333, R338 to R340, R342 to R347, R349).
Readings of the model's own that clauses rest on: log entries 60, 62, 63. -/
def Obligations.TwinReconciliation : Prop :=
  ∀ s : State, Ready s →
  (paired s = true → puntyUp s = true →
    (∀ (c : Fin 64) (tag : BitVec 22), twinAttached s = true → fenced s = false →
      (remoteWaits c s = false →
        Completes (.prepare c tag) s fun t =>
          [Out.twin "PREPARE_ACK" [c]] <+: t.out ∧ remotePrepared c t = true ∧ remoteOpen c t = false ∧
          look t.twn.tags c = (if tag.toNat = 0 then none else some tag.toNat) ∧
          Changes [.twn] [Reg.TWN.RCTX_OPEN_LO_MASK, Reg.TWN.RCTX_OPEN_HI_MASK, Reg.TWN.RCTX_PREP_LO_MASK,
            Reg.TWN.RCTX_PREP_HI_MASK] s t) ∧
      (remoteWaits c s = true →
        Completes (.prepare c tag) s fun t =>
          (c.val, tag.toNat) ∈ t.twn.prepares ∧ t.twn.tags = s.twn.tags ∧ Changes [.twn] [] s t)) ∧
    (∀ (c : Fin 64) (phase : Nat),
      Completes (.prepareAck c phase) s fun t =>
        (∀ r ∈ t.txn.requests, r.ctx = c.val → r.needAck = true → r.ackFor ≠ none) ∧
        t.txn.requests.length = s.txn.requests.length ∧ (voteOf c s = none → Changes [.txn] [] s t)) ∧
    (∀ (c : Fin 64) (e : Instr), e = .commitN c ∨ e = .abortedN c →
      Completes e s fun t => s.twn.stalled = [] →
        remoteOpen c t = false ∧ remotePrepared c t = false ∧ look t.twn.tags c = none ∧
        t.txn.pairs = s.txn.pairs.filter (·.ctx != 64 + c.val) ∧ (∀ a, readByte a t = readByte a s)) ∧
    (∀ c : Fin 64, ctxState c s = 1 →
      Completes (.holdFull c) s fun t => s.hp.stalled = [] →
        ctxState c t = 5 ∧ get (Reg.TXC.CTX_STS_HOLD_FULL (c / 16) (c % 16)) t = 1 ∧
        get (Reg.EVT_STS 0xC1 4) t = 1 ∧ get (Reg.EVT_STS 0x44 0) t = 1 ∧ c.val ∈ t.txn.replays) ∧
    (∀ h : HelloIn, helloFromPeer h s = false →
      Completes (.hello h) s fun t => Fresh 159 s →
        get Reg.TWN.STS_RESULT t = 5 ∧ Raised 159 s t ∧
        Changes raiseParts (Reg.TWN.STS_RESULT :: raiseFields 159) s t) ∧
    (∀ h : HelloIn, helloFromPeer h s = true → metadataLoaded s = true →
      reconciles s = true ∨ (twinState s = 6 ∧ h.reattach = true ∧ s.twn.detachedHere = false) →
      (helloFits h s = true →
        Completes (.hello h) s fun t =>
          t.twn.hello = some h ∧ t.twn.planned = false ∧ t.twn.peerUndo = h.undoRegion ∧
          isSet Reg.TWN.STS_LEADER t = decide (ownId s < h.serial.toNat) ∧
          twinState t = (if twinState s = 3 ∨ twinState s = 7 then twinState s else 2)) ∧
      (helloFits h s = false →
        Completes (.hello h) s fun t => Fresh 159 s →
          t.twn.hello = none ∧ t.twn.planned = false ∧ t.twn.copies = [] ∧ twinState t = 1 ∧
          get Reg.TWN.STS_RESULT t = 5 ∧ Raised 159 s t)) ∧
    (∀ (h : HelloIn) (outcomes : List (Fin 64 × Bool)), s.twn.hello = some h → s.twn.planned = false →
      twinState s = 2 ∨ twinState s = 3 ∨ twinState s = 7 →
      Completes (.plan outcomes) s fun t =>
        (s.twn.stalled = [] → Calm 160 s →
          t.twn.planned = true ∧ t.twn.homeTwin = twinWinsHome h s ∧ t.twn.mirrorOurs = weWinMirror s ∧
          t.twn.copies = copyJobs h s ∧
          Out.twin (if isSet Reg.TWN.STS_LEADER s then "PLAN" else "PLAN_ACK")
            [b2n (twinWinsHome h s), b2n (weWinMirror s)] ∈ t.out ∧
          (twinWinsHome h s = true → get Reg.TWN.HOME_AGREED_VALUE s < get Reg.TWN.HOME_GEN_VALUE s →
            get Reg.TWN.STS_CONFLICT t = 1 ∧ get (Reg.EVT_STS 0xC1 2) t = 1)) ∧
        (twinWinsHome h s = false → weWinMirror s = false → outcomes = [] →
          Changes [.twn] [Reg.TWN.RESYNC_LEFT_GRAN] s t)) ∧
    (∀ h : HelloIn, s.twn.hello = some h → s.twn.planned = true →
      twinState s = 2 ∨ twinState s = 3 ∨ twinState s = 7 →
      Completes .planAck s fun t =>
        (s.twn.homeDone = false → regionLeft true s ≠ 0 →
          twinState t = (if s.twn.homeTwin ∧ admittedNow s = false then 7 else 3)) ∧
        (s.twn.homeTwin = false → s.twn.mirrorOurs = false → s.twn.fresh = false → s.twn.copies = [] →
          h.lostMirror = [] → h.twinDirty = 0 → twinState t = 4 ∧ t.twn.hello = none)) ∧
    (∀ (home : Bool) (gen : Nat), s.twn.planned = true → twinState s = 3 ∨ twinState s = 7 →
      (∀ c ∈ s.twn.copyWaits, c.home ≠ home) →
      let genOf := if home then Reg.TWN.HOME_GEN_VALUE else Reg.TWN.MIRROR_GEN_VALUE
      let agreed := if home then Reg.TWN.HOME_AGREED_VALUE else Reg.TWN.MIRROR_AGREED_VALUE
      let attaches := fun (t : State) => (if home then s.twn.mirrorDone else s.twn.homeDone) = true → paired s = true →
        twinState t = 4 ∧ get (Reg.EVT_STS 0xC1 1) t = 1 ∧ get Reg.SYS.PERSIST_TWIN_DEGRADED t = 0 ∧
        get Reg.SYS.PERSIST_SCOPE t = (if asyncMode s then 2 else 1)
      ((if home then s.twn.homeTwin = true else s.twn.mirrorOurs = false) →
        Completes (.regionDone home gen) s fun t =>
          get genOf t = gen % 2 ^ 32 ∧ get agreed t = gen % 2 ^ 32 ∧ attaches t) ∧
      ((if home then s.twn.homeTwin = false else s.twn.mirrorOurs = true ∧ isSet Reg.TWN.STS_PROMOTED s = false) →
        regionLeft home s = 0 → s.twn.copying = [] →
        Completes (.regionDone home gen) s fun t =>
          [Out.twin "REGION_DONE" [b2n home, get genOf s]] <+: t.out ∧ get agreed t = get genOf s % 2 ^ 32 ∧
          attaches t)) ∧
    (twinState s = 2 →
      Completes .reconcileTimeout s fun t =>
        t.twn.hello = none ∧ t.twn.planned = false ∧ t.twn.copies = [] ∧ Changes [.twn] [] s t) ∧
    (∀ (home reverse : Bool) (granule : Nat) (image : List (Nat × BitVec 8)),
      let g := regionFirst home s + granule
      twinState s = 3 ∨ twinState s = 7 → fenced s = false → granule < regionSize home s →
      (unrestored g s = true →
        Completes (.granuleCopy home granule image reverse) s fun t =>
          { home := home, granule := granule, image := image, reverse := reverse } ∈ t.twn.copyWaits ∧
          Changes [.twn] [] s t) ∧
      (unrestored g s = false →
        Completes (.granuleCopy home granule image reverse) s fun t =>
          (entryInUse g s = true → (entryOf g s).state = .clean → (entryOf g t).state = .dirty) ∧
          ((∀ p ∈ s.txn.pairs, p.granule ≠ g) → Memory.wf image = true → (∀ c ∈ image, c.1 < granBytes s) →
            (∀ o, o < granBytes s → readByte (g * granBytes s + o) t = (look image o).getD 0) ∧
            (∀ a, a < g * granBytes s ∨ (g + 1) * granBytes s ≤ a → readByte a t = readByte a s))))) ∧
  (twinState s = 1 → s.twn.waitLeft = some 0 →
    Completes .waitBootExpired s fun t =>
      twinState t = 5 ∧ t.twn.waitLeft = none ∧ get (Reg.EVT_STS 0xC1 0) t = 1 ∧
      get Reg.TWN.LOSSES_COUNT t = oneMore Reg.TWN.LOSSES_COUNT s)

/-! ### The ring (R357, R360 to R366, R371) and the test access port (R491, R502) -/

/-- The ring's cells and spans: a cell whose CRC fails is counted and has no other effect; SYNC, CLAIM, ENUM, BREAK,
LEAVE and FENCE; election; the loss and the return of an input's lock. Readings of the model's own that clauses rest
on: log entries 53, 64, 65, 66, 67. -/
def Obligations.RingCommands : Prop :=
  ∀ s : State, Ready s → ringOn s = true → ∀ ring : Ring,
  let ringB := ring == Ring.b
  let quiet := Calm 161 s ∧ Calm 162 s ∧ Calm 164 s
  (∀ c : Instr,
    ((∃ f p d pt q sp, c = .sync f p d pt q ring sp false) ∨ (∃ n m i, c = .enum n m i ring false) ∨
      (∃ n h, c = .break_ n h ring false) ∨ (ring = .a ∧ ((∃ i d, c = .claim i d false) ∨ (∃ i, c = .leave i false) ∨
      (∃ n f, c = .fenceCell n f false)))) →
    let f := if ringB then Reg.TRN.ERR_CRC_B else Reg.TRN.ERR_CRC_A
    Completes c s fun t => get f t = oneMore f s ∧ Changes [] [f] s t) ∧
  (∀ (frame : Frame) (phaseErr : Int) (delay spanDelay : Nat) (partitioned quorum : Bool),
    (isMaster s = false ∨ electing s = true →
      Completes (.sync frame phaseErr delay partitioned quorum ring spanDelay true) s fun t => quiet →
        get Reg.TRN.STS_STATE t = 2 ∧ isMaster t = false ∧ t.rng.syncSeen = true ∧ t.rng.noSync = 0 ∧
        t.rng.partitioned = partitioned ∧ t.rng.quorumFlag = quorum ∧ isSet Reg.DOM.STS_QUORUM t = quorum ∧
        Out.cell ringB ((Cell.sync frame.toNat (delay + spanDelay + 16) (b2n partitioned + 2 * b2n quorum)).bits
          ringB 0) ∈ t.out ∧
        (get Reg.FRM.SRC_MODE s = 1 → s.frm.markerSeen = false → ringB ≠ pathA s →
          t.frm.markerSeen = true ∧ get Reg.FRM.SYNC_MISSED t = 0 ∧
          get Reg.FRM.RING_DELAY_DELAY t = (delay + spanDelay) % 2 ^ Reg.FRM.RING_DELAY_DELAY.w)) ∧
    (isMaster s = true → electing s = false →
      Completes (.sync frame phaseErr delay partitioned quorum ring spanDelay true) s fun t => quiet →
        t.rng.syncSeen = true ∧ isMaster t = true ∧
        get (if ringB then Reg.TRN.CIRC_B_NS else Reg.TRN.CIRC_A_NS) t = min 65535 (delay + spanDelay) ∧
        (10000 < delay + spanDelay → get Reg.TRN.STS_TOPO s = 0 → get Reg.TRN.STS_CIRC_ERR t = 1))) ∧
  (ringInserts s = true → electing s = false → isSet Reg.TRN.RING_STS_AI_LOCK s = true →
    isSet Reg.TRN.RING_STS_BI_LOCK s = true → 3 ≤ s.rng.noSync →
    Completes .electing s fun t => quiet →
      electing t = true ∧ isMaster t = false ∧ t.rng.lowest = s.pwr.serial ∧ t.rng.ownRun = 0 ∧
      onBoth (.claim s.pwr.serial.toNat) s ⊆ t.out) ∧
  (∀ id : BitVec 64,
    (electing s = true →
      Completes (.claim id false true) s fun t =>
        t.rng = { s.rng with lowest := if id.toNat < s.rng.lowest.toNat then id else s.rng.lowest } ∧
        Changes [.rng] [] s t) ∧
    (electing s = true →
      Completes (.claim id true true) s fun t => Fresh 163 s →
        t.rng.ownRun = 0 ∧ Raised 163 s t ∧ Changes (.rng :: raiseParts) (raiseFields 163) s t) ∧
    (∀ duplicate : Bool, electing s = false →
      Completes (.claim id duplicate true) s fun t =>
        t.rng = { s.rng with
          departed := s.rng.departed.filter (· != id),
          enumDue := s.rng.enumDue || (isMaster s && (s.rng.departed.contains id || !inTable id s)) } ∧
        get Reg.DOM.STS_DEPARTED t = t.rng.departed.length % 512 ∧
        Changes [.rng] [Reg.DOM.STS_DEPARTED] s t)) ∧
  (ringInserts s = true → electing s = true → isMaster s = false → 32 ≤ s.rng.ownRun →
    Completes .elected s fun t =>
      isMaster t = true ∧ get Reg.TRN.STS_INDEX t = 0 ∧ get Reg.TRN.STS_COUNT t = 1 ∧ t.rng.indexed = true ∧
      get Reg.TRN.MASTER_LO_ID t = s.pwr.serial.toNat % 2 ^ 32 ∧
      get Reg.TRN.COUNTS_ELECTIONS t = oneMore Reg.TRN.COUNTS_ELECTIONS s ∧ get (Reg.EVT_STS 0xD0 0) t = 1 ∧
      [Out.cell false ((Cell.enum 1 (now s)).bits false 0)] <+: t.out) ∧
  (∀ (count : Nat) (frameMax : Frame) (ids : List (Nat × BitVec 64)), isMaster s = false →
    Completes (.enum count frameMax ids ring true) s fun t => quiet →
      t.rng.indexed = true ∧ get Reg.TRN.STS_STATE t = 2 ∧
      (s.rng.indexed = false ∨ electing s = true → get Reg.TRN.STS_INDEX t = freeIndex count ids % 512) ∧
      (s.rng.indexed = true → electing s = false → get Reg.TRN.STS_INDEX t = get Reg.TRN.STS_INDEX s % 512) ∧
      (electing s = true → get (Reg.EVT_STS 0xD0 0) t = 1) ∧
      Out.cell ringB ((Cell.enum (count + 1) (max frameMax.toNat (now s))).bits ringB 0) ∈ t.out) ∧
  (∀ (count : Nat) (frameMax : Frame) (ids : List (Nat × BitVec 64)), isMaster s = true →
    (512 < count →
      Completes (.enum count frameMax ids ring true) s fun t => Fresh 163 s →
        get Reg.TRN.STS_OVERSIZE t = 1 ∧ get (Reg.EVT_STS 0xD0 4) t = 1 ∧ Raised 163 s t) ∧
    (count ≤ 512 →
      Completes (.enum count frameMax ids ring true) s fun t => quiet →
        get Reg.TRN.STS_OVERSIZE t = 0 ∧ get Reg.TRN.STS_COUNT t = count ∧ get Reg.TRN.STS_STATE t = 2 ∧
        (now s < frameMax.toNat → t.frm.adopt = some frameMax))) ∧
  (∀ index : Nat,
    (index ∉ s.rng.broken →
      Completes (.break_ index false ring true) s fun t => quiet →
        index ∈ t.rng.broken ∧ get Reg.TRN.COUNTS_BREAKS t = oneMore Reg.TRN.COUNTS_BREAKS s ∧
        get (Reg.EVT_STS 0xD0 1) t = 1) ∧
    (index ∈ s.rng.broken →
      Completes (.break_ index true ring true) s fun t => quiet →
        t.rng.broken = s.rng.broken.filter (· != index) ∧ get (Reg.EVT_STS 0xD0 3) t = 1)) ∧
  (Completes (.spanBroken ring) s fun t => quiet →
    get (lockOf ringB) t = 0 ∧ (s.rng.indexed = true → spanOf ringB s ∈ t.rng.broken) ∧
    (s.rng.indexed = true → ringInserts s = true → onRing (!ringB) (.break_ (spanOf ringB s) false) s ⊆ t.out)) ∧
  (Completes (.spanHealed ring) s fun t => quiet →
    get (lockOf ringB) t = 1 ∧ (s.rng.indexed = true → spanOf ringB s ∉ t.rng.broken) ∧
    (s.rng.indexed = true → ringInserts s = true → onRing (!ringB) (.break_ (spanOf ringB s) true) s ⊆ t.out)) ∧
  (∀ id : BitVec 64, id ≠ s.pwr.serial →
    Completes (.leave id true) s fun t => quiet →
      t.rng.departed = s.rng.departed.filter (· != id) ++ [id] ∧
      get Reg.DOM.STS_DEPARTED t = t.rng.departed.length % 512) ∧
  (∀ (src : Nat) (frame : Frame), src ≠ get Reg.TRN.STS_INDEX s ∨ s.rng.indexed = false →
    Completes (.fenceCell src frame true) s fun t =>
      frame.toNat ∈ t.rng.fences ∧ get Reg.DOM.LAST_FENCE_INDEX t = src % 512 ∧
      get Reg.DOM.LAST_FENCE_FRAME_FRAME t = frame.toNat % 2 ^ 32 ∧ get (Reg.EVT_STS 0xD1 1) t = 1 ∧
      ((∀ r ∈ s.txn.requests, r.ctx < 64) →
        ∀ c ∈ fencedRequests frame.toNat s, ctxState c t = 1 ∧ get (ctxRes c) t = 6 ∧
          ∀ r ∈ t.txn.requests, r.ctx ≠ c))

/-- The instructions of the test access port: each is in the TAP and answered; IDCODE gives 5B16_3C2Fh; EXTEST takes
the pins with PERSIST.OK at 0 and is refused during a fence (R491, R502). Nothing else of the device changes. Readings
of the model's own that clauses rest on: log entry 96. -/
def Obligations.TestAccessPort : Prop :=
  ∀ s : State, Ready s →
  let at_ := fun (c : Instr) (x : TapInstr) (out : List Out) =>
    Completes c s fun t => t.pwr = { s.pwr with tap := x } ∧ out <+: t.out ∧ Changes [.pwr] [] s t
  at_ .bypass .bypass [.tap "BYPASS"] ∧ at_ .idcode .idcode [.tap "IDCODE", .regData 0x5B163C2F] ∧
  at_ .samplePreload .samplePreload [.tap "SAMPLE_PRELOAD"] ∧ at_ .clamp .clamp [.tap "CLAMP"] ∧
  at_ .tapReset .idcode [] ∧
  (fenced s = false → at_ .extest .extest [.tap "EXTEST"] ∧
    Completes .extest s fun t => isSet Reg.SYS.PERSIST_OK t = false) ∧
  (fenced s = true → Completes .extest s fun t => t.pwr = s.pwr ∧ Changes [] [] s t)

/-! ### Power (R380 to R398, R483, R502, R508) -/

/-- The always-on island: VAON appears and the population is shown; the start after a power-down; a loss of VAON
leaves only what non-volatile storage holds, every register at its reset value and every rail cut; the retry of a boot
attempt (R83, R386, R483, R502, R507, R508). A code array as shipped (log entry 6) stands in the first two. Readings
of the model's own that clauses rest on: log entries 5, 44, 72. -/
def Obligations.VaonCommands : Prop :=
  ∀ s : State,
  (∀ x : PowerOnIn, s.pwr.vaon = false →
    Completes (.vaonPowerUp x) s fun t => t.pwr.vaon = true ∧ t.pwr.serial = x.serial ∧
      (s.pwr = {} → s.regs = [] → s.reqs = [] → s.upd.settings = [] → s.car = {} →
        x.optBadA = false → x.optBadB = false → x.selftestOk = true → x.vinGood = false →
        t.pwr.waitVin = true ∧ get Reg.SYS.PERSIST_BOOT t = 1 ∧ isSet Reg.SYS.PERSIST_OK t = false ∧
        get Reg.SYS.CAPS_HP_PRESENT t = x.hpEn.toNat ∧ get Reg.SYS.CAPS_DRAM_GROUPS t = x.dramGroups.toNat ∧
        get Reg.SYS.CAPS_NAND_GROUPS t = x.nandGroups.toNat ∧ isSet Reg.SYS.CAPS_RING t = x.ring ∧
        isSet Reg.SYS.CAPS_TWIN t = x.twin ∧ get Reg.TRN.ID_LO_ID t = x.serial.toNat % 2 ^ 32 ∧
        (x.recStrap = false → inLimits (s.twn.nextPair.getD s.twn.stored) x = true →
          get Reg.SYS.BOOT_STAGE t = 3 ∧ t.pwr.recovery = false) ∧
        (x.recStrap = true ∨ inLimits (s.twn.nextPair.getD s.twn.stored) x = false →
          get Reg.SYS.BOOT_STAGE t = 11 ∧ t.pwr.recovery = true ∧ Raised 336 s t) ∧
        (∀ a, readByte a t = readByte a s) ∧ t.nand.records = s.nand.records ∧ t.nand.manifests = s.nand.manifests)) ∧
  (Ready s → s.pwr.waitVin = true → get Reg.SYS.BOOT_STAGE s = 0 → s.pwr.seq = .none → s.pwr.attempts = 0 →
    vinGoodNow s = true →
    Completes (.powerOnRestart false false true) s fun t =>
      s.car = {} → persistingS4 s = [] → get Reg.PWR.STS_RAILS_ON s = 0 → s.pwr.recStrap = false →
      s.pwr.inLimits = true →
      t.pwr.waitVin = false ∧ t.pwr.seq = .up ∧ get Reg.SYS.BOOT_STAGE t = 3 ∧ get Reg.PWR.STS_STATE t = 1 ∧
      get Reg.SYS.PERSIST_BOOT t = 1 ∧ get Reg.SYS.BOOT_COLD t = 1 ∧ railIsOn 0 t = true ∧ Out.rail 0 true ∈ t.out) ∧
  (Ready s →
    Completes .aonReset s fun t =>
      t.pwr = {} ∧ t.regs = [] ∧ (∀ f, get f t = f.reset) ∧ t.shadows = [] ∧ (∀ a, readByte a t = 0) ∧
      t.frm.count = 0 ∧ t.nand.records = s.nand.records ∧ t.nand.manifests = s.nand.manifests ∧
      t.upd.settings = s.upd.settings ∧ Out.moduleReset true ∈ t.out ∧
      (∀ r ∈ downOrder s, railIsOn r s = true → Out.rail r false ∈ t.out)) ∧
  (Ready s → s.pwr.waitVin = true → s.pwr.seq = .none → 0 < s.pwr.attempts →
    s.pwr.attempts < get Reg.PWR.BOOT_ATTEMPTS s →
    Completes .bootAttemptRetry s fun t => (∀ r : Fin 16, Calm (256 + r) s) →
      t.pwr.waitVin = false ∧ get Reg.SYS.BOOT_STAGE t = 3 ∧ (∀ a, readByte a t = readByte a s))

/-- The rails: a good step, a failed one with its retries, back-off, the loss of a running rail by its REACT,
discharge and its timeout, and the cut of dependents (R383, R386 to R391, R397). Readings of the model's own that
clauses rest on: log entries 69, 70, 71. -/
def Obligations.RailCommands : Prop :=
  ∀ s : State, Ready s → ∀ r : Fin 12,
  let quiet := ∀ q : Fin 16, Calm (256 + q) s
  let on := fun (t : State) => railIsOn r t
  let failed := fun (cause : Nat) (t : State) => get Reg.PWR.FAIL_RAIL t = r ∧ get Reg.PWR.FAIL_CAUSE t = cause ∧
    get Reg.PWR.FAIL_FRAME_FRAME t = now32 s
  (railPhase r s = .starting → on s = true →
    Completes (.railPgDebounced r) s fun t => quiet →
      railPhase r t = .on ∧ bitOf (get Reg.PWR.STS_PG t) r = true ∧ isSet (Reg.FLS.LIVE (256 + r)) t = false ∧
      (r.val ∈ s.pwr.retrying → r.val ∉ t.pwr.retrying ∧
        Changes [.pwr] (Reg.PWR.STS_PG :: fallFields (256 + r)) s t)) ∧
  (railPhase r s = .on →
    Completes (.railPgDebounced r) s fun t =>
      bitOf (get Reg.PWR.STS_PG t) r = true ∧ get (Reg.FLS.LIVE (256 + r)) t = 0 ∧
      Changes [] (Reg.PWR.STS_PG :: fallFields (256 + r)) s t) ∧
  (∀ chatter : Bool, railPhase r s = .starting →
    (r.val ∉ s.pwr.retrying →
      Completes (.railStepTimeout r chatter) s fun t =>
        [Out.rail r false] <+: t.out ∧
        (Fresh (256 + r) s →
          failed (if chatter then 2 else 1) t ∧ on t = false ∧ railPhase r t = .discharging ∧
          Raised (256 + r) s t ∧ isSet (Reg.FLS.LIVE (256 + r)) t = true ∧
          (chatter = true → get (Reg.EVT_STS 0x81 2) t = 1) ∧
          (if s.pwr.retries.getD r 0 < get (Reg.PWR.RAIL_CFG_RETRIES r) s then
            t.pwr.seq = s.pwr.seq ∧ t.pwr.attempts = s.pwr.attempts
          else t.pwr.seq = .down ∧ t.pwr.attempts = s.pwr.attempts + 1 ∧ get Reg.PWR.STS_STATE t = 4))) ∧
    (r.val ∈ s.pwr.retrying →
      Completes (.railStepTimeout r chatter) s fun t =>
        failed (if chatter then 2 else 1) t ∧
        (s.pwr.retries.getD r 0 + 1 < get (Reg.PWR.RAIL_CFG_RETRIES r) s →
          on t = false ∧ railPhase r t = .discharging ∧ t.pwr.retrying = s.pwr.retrying) ∧
        (get (Reg.PWR.RAIL_CFG_RETRIES r) s ≤ s.pwr.retries.getD r 0 + 1 → r.val ∈ downOrder s →
          r.val ∈ t.pwr.groupOff ∧ r.val ∉ t.pwr.retrying))) ∧
  (railPhase r s = .backoff → r.val ∈ s.pwr.retrying →
    Completes (.backoffExpired r) s fun t =>
      railPhase r t = .starting ∧ on t = true ∧ r.val ∉ t.pwr.discharge ∧ Out.rail r true ∈ t.out ∧
      Changes [.pwr] [Reg.PWR.STS_RAILS_ON] s t) ∧
  (railPhase r s = .backoff → r.val ∉ s.pwr.retrying → s.pwr.seq = .up ∨ s.pwr.seq = .wake ∨ s.pwr.seq = .minimal →
    get (Reg.PWR.SEQ_RAIL (stepOf r s)) s = r → depsOn r s = true →
    Completes (.backoffExpired r) s fun t =>
      railPhase r t = .starting ∧ on t = true ∧ get Reg.PWR.STS_STEP t = stepOf r s % 16 ∧
      Changes [.pwr] [Reg.PWR.STS_RAILS_ON, Reg.PWR.STS_STEP] s t) ∧
  (on s = true → railPhase r s = .on → goingDown s = false → s.pwr.seq ≠ .ride ∨ rideKeeps r s = true →
    r.val ∈ downOrder s →
    Completes (.railLoss r) s fun t => Fresh (256 + r) s → twinAttached s = false →
      failed 3 t ∧ get Reg.PWR.COUNTS_LOSSES t = oneMore Reg.PWR.COUNTS_LOSSES s ∧ get (Reg.EVT_STS 0x81 1) t = 1 ∧
      Raised (256 + r) s t ∧ isSet (Reg.FLS.LIVE (256 + r)) t = true ∧
      (get (Reg.PWR.RAIL_CFG_REACT r) s = 0 → on t = true ∧ t.pwr.seq = s.pwr.seq) ∧
      (get (Reg.PWR.RAIL_CFG_REACT r) s = 1 → get (Reg.PWR.RAIL_CFG_RETRIES r) s ≠ 0 →
        on t = false ∧ r.val ∈ t.pwr.retrying ∧ Out.rail r false ∈ t.out) ∧
      (get (Reg.PWR.RAIL_CFG_REACT r) s = 2 → r.val ∈ t.pwr.groupOff ∧ r.val ∉ t.pwr.retrying) ∧
      (get (Reg.PWR.RAIL_CFG_REACT r) s = 3 → t.pwr.cold = true ∧ t.pwr.seq = .down ∧ get Reg.PWR.STS_STATE t = 4)) ∧
  (dischargeWaits r s = true → s.pwr.seq = .none → r.val ∉ s.pwr.groupOff →
    Completes (.railDischarged r) s fun t =>
      railPhase r t = (if r.val ∈ s.pwr.retrying then .backoff else .off) ∧ Changes [.pwr] [] s t) ∧
  (dischargeWaits r s = true → s.pwr.seq = .down → s.pwr.offDue = false → currentRail s = r →
    (∀ q ∈ downOrder s, railIsOn q s = false) → s.pwr.cold = false → s.pwr.waitVin = false →
    s.pwr.attempts < get Reg.PWR.BOOT_ATTEMPTS s →
    Completes (.railDischarged r) s fun t =>
      t.pwr.seq = .none ∧ t.pwr.waitVin = true ∧ t.pwr.firmware = false ∧ get Reg.PWR.STS_STATE t = 0 ∧
      get Reg.SYS.BOOT_STAGE t = 0 ∧ savArmed t = false ∧ (∀ a, readByte a t = 0) ∧
      t.nand.records = s.nand.records ∧ t.nand.manifests = s.nand.manifests) ∧
  (railPhase r s = .discharging →
    Completes (.disTimeout r) s fun t =>
      railPhase r t = .forced ∧ r.val ∈ t.pwr.discharge ∧
      get Reg.PWR.COUNTS_FORCED_DIS t = oneMore Reg.PWR.COUNTS_FORCED_DIS s ∧ [Out.discharge r true] <+: t.out ∧
      Changes [.pwr] [Reg.PWR.COUNTS_FORCED_DIS] s t) ∧
  (railPhase r s = .forced → s.pwr.seq = .none → r.val ∉ s.pwr.groupOff → r.val ∉ s.pwr.retrying →
    Completes (.disTimeout r) s fun t =>
      failed 5 t ∧ railPhase r t = .off ∧ get (Reg.EVT_STS 0x81 3) t = 1 ∧
      Changes [.pwr] [Reg.PWR.FAIL_RAIL, Reg.PWR.FAIL_CAUSE, Reg.PWR.FAIL_STEP, Reg.PWR.FAIL_FRAME_FRAME,
        Reg.EVT_STS 0x81 3] s t) ∧
  (let l := (downOrder s).filter (fun q => q != r.val && (dependents r s).contains q && railIsOn q s)
   s.pwr.seq = .down ∨ s.pwr.seq = .ride → on s = true → l ≠ [] →
    Completes (.depCut r) s fun t =>
      failed 4 t ∧ get (Reg.EVT_STS 0x81 4) t = 1 ∧ (∀ q ∈ l, railIsOn q t = false ∧ Out.rail q false ∈ t.out) ∧
      (∀ q, q ∉ l → q < 12 → railIsOn q t = railIsOn q s))

/-- The on-die domains: a request is discarded while the page is locked, while a block of the domain is enabled or
busy, or with a reserved value, and else waits for the tick; an acknowledged switch; a failed one (R69, R72, R394,
R398). Readings of the model's own that clauses rest on: log entries 69, 70. -/
def Obligations.DomainCommands : Prop :=
  ∀ s : State, Ready s → ∀ d : Fin 52,
  (∀ (w : Writer) (req : BitVec 2) (phase : Nat), Reaches w (0x82100 + 4 * d) req.toNat s →
    req.toNat ≠ shown (Reg.PDM.DOM_CTL_REQ d) s →
    let c : Instr := .domainRequest w d req phase
    let refused := fun (f : Nat → Fld) => Completes c s fun t =>
      get (f 0x82) t = 1 ∧ Changes [] [f 0x82, Reg.BLKWERR_OFFSET 0x82, Reg.BLKWERR_SOURCE 0x82] s t
    (isSet (Reg.LOCK_LOCK 0x82) s = true → refused Reg.BLKWERR_LOCKED) ∧
    (isSet (Reg.LOCK_LOCK 0x82) s = false → 2 ≤ req.toNat → refused Reg.BLKWERR_RANGE) ∧
    (isSet (Reg.LOCK_LOCK 0x82) s = false → req.toNat < 2 → domainIdle d s = false → refused Reg.BLKWERR_BUSY) ∧
    (isSet (Reg.LOCK_LOCK 0x82) s = false → req.toNat < 2 → domainIdle d s = true →
      (isSet (Reg.BLKCTL_ENABLE 0x82) s = true →
        Completes c s fun t =>
          { f := Reg.PDM.DOM_CTL_REQ d, value := req.toNat, late := decide (39800 ≤ phase) } ∈ t.shadows ∧
          Changes [.shadows] [] s t) ∧
      (isSet (Reg.BLKCTL_ENABLE 0x82) s = false →
        Completes c s fun t =>
          get (Reg.PDM.DOM_CTL_REQ d) t = req.toNat ∧ t.pwr.requests = s.pwr.requests ++ [(d.val, req.toNat)] ∧
          Changes [.pwr] [Reg.PDM.DOM_CTL_REQ d] s t))) ∧
  (∀ x, s.pwr.switching.find? (·.dom == d.val) = some x →
    Completes (.domainSwitchAck d) s fun t =>
      get (Reg.PDM.DOM_CTL_STATE d) t = (if x.target = 0 then 0 else 1) ∧
      t.pwr.switching = s.pwr.switching.filter (·.dom != d.val) ∧
      Changes [.pwr] [Reg.PDM.DOM_CTL_STATE d, Reg.PDM.ON_LO_MASK, Reg.PDM.ON_HI_MASK, Reg.EVT_STS 0x82 1,
        Reg.HPT.STS_FENCED d] s t) ∧
  (∀ x, s.pwr.switching.find? (·.dom == d.val) = some x →
    Completes (.ackFail d) s fun t => get (Reg.PDM.DOM_CTL_ACK_FAIL d) t = 1 ∧ get (Reg.EVT_STS 0x82 0) t = 1 ∧
      (Fresh (268 + d) s →
        (reactionsWait s = true → srcSealPath (268 + d) = true → t.pwr.waitingDoms = s.pwr.waitingDoms ++ [d.val]) ∧
        (reactionsWait s = false ∨ srcSealPath (268 + d) = false →
          (get (Reg.PDM.DOM_CTL_REACT d) s = 0 → t.pwr.switching = s.pwr.switching ∧ Raised (268 + d) s t ∧
            Changes raiseParts ([Reg.PDM.DOM_CTL_ACK_FAIL d, Reg.EVT_STS 0x82 0] ++ raiseFields (268 + d)) s t) ∧
          (get (Reg.PDM.DOM_CTL_REACT d) s = 1 → x.tries < 3 → Raised (268 + d) s t ∧
            t.pwr.switching.find? (·.dom == d.val) = some { x with tries := x.tries + 1 }) ∧
          (get (Reg.PDM.DOM_CTL_REACT d) s = 2 → domainPresent d s = true → (∀ k, k < 334 → Calm k s) →
            d.val ∈ t.pwr.groupDoms ∧ t.pwr.switching = s.pwr.switching.filter (·.dom != d.val)))))

/-! ### Faults (R399 to R428) -/

/-- What a detection leaves when its source is not live (R400 to R408): the live bit while the condition holds, the
sticky status, one more count, the fixed effects of its severity, and the first-error latch; nothing while its live
bit is 1 or for a reserved number (R399); the budget 0 for a residue error (R48). Readings of the model's own that
clauses rest on: log entry 21. -/
def Obligations.FaultRaises : Prop :=
  ∀ s : State, Ready s → ∀ (n : Fin 384) (reason inst : Nat) (snap2 snap3 : Word) (held : Bool) (phase : Nat),
  let c := Instr.faultRaise n reason inst snap2 snap3 held phase
  let sev := get (Reg.FLS.SRC_CFG_SEV n) s
  let act := get (Reg.FLS.SRC_CFG_ACT n) s
  (srcReserved n = false →
    Completes c s fun t => Fresh n s → n.val ≠ 184 →
      get (Reg.FLS.LIVE n) t = b2n held ∧ Raised n s t ∧
      (3 ≤ sev → get Reg.SYS.PERSIST_FAULT t = 1 ∧ isSet Reg.SYS.PERSIST_OK t = false) ∧
      (sev < 3 → get Reg.SYS.PERSIST_FAULT t = get Reg.SYS.PERSIST_FAULT s) ∧
      (sev ≠ 0 → isSet Reg.FLT.FIRST_ID_VALID s = false →
        get Reg.FLT.FIRST_ID_ID t = n ∧ get Reg.FLT.FIRST_ID_SEV t = sev ∧ get Reg.FLT.FIRST_ID_VALID t = 1 ∧
        get Reg.FLT.FIRST_ID_FIRST_SELF_CLEARED t = b2n (!held) ∧
        get Reg.FLT.FIRST_FRAME_LO_FRAME t = now32 s ∧ get (Reg.FLT.FIRST_SNAP_DATA 2) t = snap2.toNat ∧
        get (Reg.FLT.FIRST_SNAP_DATA 3) t = snap3.toNat ∧ get (Reg.EVT_STS 0x90 0) t = 1) ∧
      (sev ≠ 0 → isSet Reg.FLT.FIRST_ID_VALID s = true →
        get Reg.FLT.OVF_OVF t = 1 ∧ get Reg.FLT.OVF_COUNT_COUNT t = oneMore Reg.FLT.OVF_COUNT_COUNT s ∧
        get (Reg.EVT_STS 0x90 1) t = 1 ∧ get Reg.FLT.FIRST_ID_ID t = get Reg.FLT.FIRST_ID_ID s ∧
        get Reg.FLT.FIRST_ID_SEV t = get Reg.FLT.FIRST_ID_SEV s ∧
        get Reg.FLT.FIRST_FRAME_LO_FRAME t = get Reg.FLT.FIRST_FRAME_LO_FRAME s ∧
        get Reg.FLT.FIRST_FRAME_HI_FRAME t = get Reg.FLT.FIRST_FRAME_HI_FRAME s ∧
        (∀ k < 4, get (Reg.FLT.FIRST_SNAP_DATA k) t = get (Reg.FLT.FIRST_SNAP_DATA k) s)) ∧
      (reactionsWait s = false →
        (bitOf act actIrqHost = true → get (Reg.EVT_STS (0x91 + n.val / 64) 0) t = 1) ∧
        (bitOf act actIrqGaffer = true → Out.gafferFault n ∈ t.out) ∧ (bitOf act actNmi = true → Out.nmi n ∈ t.out) ∧
        (bitOf act actPin = true → get Reg.FLT.PINCTL_PULSE t = 1 ∧ get Reg.FLT.PINCTL_PIN t = 1 ∧
          get Reg.FLT.PINCTL_LEVEL t = 1)) ∧
      (reactionsWait s = true → t.sav.waitingActs = s.sav.waitingActs ++ [(n.val, act, snap2.toNat)]) ∧
      (sev = 0 → get Reg.FLT.FIRST_ID_VALID t = get Reg.FLT.FIRST_ID_VALID s ∧
        get Reg.FLT.OVF_COUNT_COUNT t = get Reg.FLT.OVF_COUNT_COUNT s) ∧
      (n.val = 330 → get Reg.SAF.STS_LOCKSTEP_OK t = 0) ∧
      (n.val = 185 → ∀ e ∈ t.dram.writes, e.issued = false → e.line % 2 ^ 32 = snap2.toNat → e.hashBad = true) ∧
      Changes ((if n.val = 185 then [.dram] else []) ++ .frm :: raiseParts)
        ((if n.val = 330 then [Reg.SAF.STS_LOCKSTEP_OK] else []) ++ raiseFields n) s t) ∧
  (n.val ≠ 184 → n.val ≠ 185 → n.val ≠ 330 → srcReserved n = true ∨ isSet (Reg.FLS.LIVE n) s = true →
    Completes c s fun t => Changes [.frm] [] s t) ∧
  (n.val = 184 →
    Completes c s fun t => Fresh 184 s →
      Raised 184 s t ∧ t.mrv.bStrict = 0 ∧ t.mrv.bEff = 0 ∧ get Reg.LEH.BUDGET_EFF_GRAN t = 0 ∧
      get Reg.SYS.PERSIST_BUDGET t = 1 ∧ isSet Reg.SYS.PERSIST_OK t = false)

/-- An S4 raise: the safe state, its cause and source, the pin, and the emergency seal with a trigger of its own
(R402, R404, R411, R414, R415); without the seal path no seal starts. The collector's own fault holds the pin by
hardware (R413). Readings of the model's own that clauses rest on: log entry 21. -/
def Obligations.SafeStateEntered : Prop :=
  ∀ s : State, Ready s → inSafe s = false →
  let alone := savArmed s = true ∧ fenced s = false ∧ savState s ≠ 7 ∧ isSet Reg.SYS.CAPS_RING s = false ∧ paired s = false
  (∀ (n : Fin 384) (reason inst : Nat) (snap2 snap3 : Word) (held : Bool) (phase : Nat), srcReserved n = false →
    n.val ≠ 334 → n.val ≠ 184 → isSet (Reg.FLS.LIVE n) s = false → get (Reg.FLS.SRC_CFG_SEV n) s = 4 →
    Completes (.faultRaise n reason inst snap2 snap3 held phase) s fun t => alone →
      bitOf (get (Reg.FLS.SRC_CFG_ACT n) s) actBlockReset = false →
      bitOf (get (Reg.FLS.SRC_CFG_ACT n) s) actChipReset = false →
      inSafe t = true ∧ get Reg.SAF.STS_SAFE t = 1 ∧ get Reg.SAF.STS_CAUSE t = 1 ∧ get Reg.SAF.STS_SOURCE t = n ∧
      get Reg.SAF.SAFE_FRAME_FRAME t = now32 s ∧ get (Reg.EVT_STS 0x97 0) t = 1 ∧ get Reg.FLT.PINCTL_PIN t = 1 ∧
      get Reg.FLT.PINCTL_PULSE t = 1 ∧ get Reg.FLT.PIN_COUNT_COUNT t = oneMore Reg.FLT.PIN_COUNT_COUNT s ∧
      isSet Reg.SYS.PERSIST_OK t = false ∧
      (∀ p : Fin 4, portUsed p s = true → get (Reg.HPT.STS_READ_HOLD p) t = 1) ∧
      (sealPathOk s = true → n.val ∉ sealPathSources →
        get Reg.SAF.STS_SEAL_PATH_OK t = 1 ∧ fenced t = true ∧ get Reg.SAV.LAST_TRIG_TRIGGER t = 8) ∧
      (n.val ∈ sealPathSources → get Reg.SAF.STS_SEAL_PATH_OK t = 0 ∧ (Calm 188 s → fenced t = false))) ∧
  (∀ check : Nat,
    Completes (.collectorSelfFault check) s fun t => alone → isSet (Reg.FLS.LIVE 334) s = false →
      get Reg.FLT.PINCTL_HW_HOLD t = 1 ∧ get Reg.FLT.PINCTL_PIN t = 1 ∧
      get Reg.FLT.PINCTL_PULSE t = get Reg.FLT.PINCTL_PULSE s ∧
      inSafe t = true ∧ get Reg.SAF.STS_CAUSE t = 2 ∧ get Reg.SAF.STS_SOURCE t = 334 ∧
      isSet Reg.SYS.PERSIST_OK t = false ∧ Raised 334 s t) ∧
  (∀ w : Writer, Reaches w 0x97108 1 s → isSet Reg.SAF.FINJ_KEY_OPEN s = true →
    Completes (.safeEnter w) s fun t => alone →
      inSafe t = true ∧ get Reg.SAF.STS_CAUSE t = 3 ∧ get Reg.FLT.PINCTL_PIN t = 1 ∧
      (sealPathOk s = true → fenced t = true ∧ get Reg.SAV.LAST_TRIG_TRIGGER t = 8)) ∧
  (∀ w : Writer, Reaches w 0x97108 1 s → isSet Reg.SAF.FINJ_KEY_OPEN s = false →
    Completes (.safeEnter w) s fun t =>
      inSafe t = false ∧ get (Reg.BLKWERR_LOCKED 0x97) t = 1 ∧
      Changes [] [Reg.BLKWERR_LOCKED 0x97, Reg.BLKWERR_OFFSET 0x97, Reg.BLKWERR_SOURCE 0x97] s t)

/-- The fall of a live bit, reads and clears of the latch and of the sticky statuses, the pin, the way out of the safe
state and the collector's cross-checks (R405, R408, R409, R411 to R413, R418, R420 to R422). Readings of the model's
own that clauses rest on: log entries 75, 76. -/
def Obligations.FaultCommands : Prop :=
  ∀ s : State, Ready s →
  (∀ n : Fin 384, injectedHold n s = false →
    Completes (.sourceLiveClear n) s fun t =>
      get (Reg.FLS.LIVE n) t = 0 ∧ (isSet (Reg.FLS.LIVE n) s = true → isSet Reg.FLT.FIRST_ID_VALID s = true →
        get Reg.FLT.FIRST_ID_ID s = n → s.flt.firstRead = false →
        get Reg.FLT.FIRST_ID_FIRST_SELF_CLEARED t = 1 ∧ get (Reg.EVT_STS 0x90 2) t = 1) ∧
      Changes [] (fallFields n) s t) ∧
  (∀ w : Writer,
    Completes (.firstIdRead w) s fun t =>
      [Out.regData (readWord 0x90100 s)] <+: t.out ∧
      t.flt = { s.flt with firstRead := s.flt.firstRead ||
        (!pageDark 0x90 s && isSet Reg.FLT.FIRST_ID_VALID s) } ∧ Changes [.flt] [] s t) ∧
  (∀ (w : Writer) (page : Fin 6) (high : Bool) (mask : Word),
    Reaches w (0x91200 + 4096 * page.val + 4 * b2n high) mask.toNat s →
    Completes (.stickyClear w page high mask) s fun t =>
      let source := fun k => 64 * page.val + 32 * b2n high + k
      (∀ k < 32, bitOf mask.toNat k = true → isSet (Reg.FLS.LIVE (source k)) s = false →
        raiseSev (source k) s ≠ 4 → get (Reg.FLS.STICKY (source k)) t = 0) ∧
      (∀ k < 32, bitOf mask.toNat k = false ∨ isSet (Reg.FLS.LIVE (source k)) s = true ∨ raiseSev (source k) s = 4 →
        get (Reg.FLS.STICKY (source k)) t = get (Reg.FLS.STICKY (source k)) s) ∧
      Changes [] ((List.range 32).map fun k => Reg.FLS.STICKY (source k)) s t) ∧
  (∀ w : Writer, Reaches w 0x90124 1 s →
    Completes (.rearm w) s fun t =>
      get Reg.FLT.FIRST_ID_VALID t = 0 ∧ get Reg.FLT.FIRST_ID_FIRST_SELF_CLEARED t = 0 ∧ get Reg.FLT.OVF_OVF t = 0 ∧
      get Reg.FLT.OVF_COUNT_COUNT t = 0 ∧
      Changes [.flt] [Reg.FLT.FIRST_ID_VALID, Reg.FLT.FIRST_ID_FIRST_SELF_CLEARED, Reg.FLT.OVF_OVF,
        Reg.FLT.OVF_COUNT_COUNT] s t) ∧
  (isSet Reg.FLT.PINCTL_PULSE s = true → s.pwr.pulseLeft = 0 →
    Completes .errPulseEnd s fun t =>
      get Reg.FLT.PINCTL_PULSE t = 0 ∧ (isSet Reg.FLT.PINCTL_HW_HOLD s = false →
        get Reg.FLT.PINCTL_PIN t = get Reg.FLT.PINCTL_LEVEL s % 2) ∧
      Changes [] [Reg.FLT.PINCTL_PULSE, Reg.FLT.PINCTL_PIN] s t) ∧
  (∀ w : Writer, Reaches w 0x90128 0 s →
    (isSet Reg.FLT.PINCTL_HW_HOLD s = false →
      Completes (.errPinRelease w) s fun t =>
        get Reg.FLT.PINCTL_LEVEL t = 0 ∧ (isSet Reg.FLT.PINCTL_PULSE s = false → get Reg.FLT.PINCTL_PIN t = 0) ∧
        Changes [] [Reg.FLT.PINCTL_LEVEL, Reg.FLT.PINCTL_PIN] s t) ∧
    (isSet Reg.FLT.PINCTL_HW_HOLD s = true →
      Completes (.errPinRelease w) s fun t =>
        get (Reg.BLKWERR_BUSY 0x90) t = 1 ∧
        Changes [] [Reg.BLKWERR_BUSY 0x90, Reg.BLKWERR_OFFSET 0x90, Reg.BLKWERR_SOURCE 0x90] s t)) ∧
  (∀ w : Writer, Reaches w 0x97108 2 s →
    (fromManagement w s = true → isSet Reg.SAF.STS_SAFE s = true →
      Completes (.safeExit w) s fun t => savArmed s = true → fenced s = false → savState s ≠ 7 →
        isSet Reg.SYS.CAPS_RING s = false → paired s = false →
        fenced t = true ∧ get Reg.SAV.LAST_TRIG_TRIGGER t = 16 ∧ t.sav.resetFence = true) ∧
    (fromManagement w s = false ∨ isSet Reg.SAF.STS_SAFE s = false →
      Completes (.safeExit w) s fun t =>
        get (Reg.BLKWERR_RANGE 0x97) t = 1 ∧
        Changes [] [Reg.BLKWERR_RANGE 0x97, Reg.BLKWERR_OFFSET 0x97, Reg.BLKWERR_SOURCE 0x97] s t)) ∧
  (66560 ≤ get Reg.SAF.ST_PROGRESS_FRAME s → 0 ∉ s.flt.testsDone →
    Completes .selftestLate s fun t => Fresh 329 s → Raised 329 s t ∧ 0 ∈ t.flt.testsDone ∧
      (pageDark 0x97 s = false →
        get Reg.SAF.ST_FAIL_ITEM t = 0 ∧ get Reg.SAF.ST_FAIL_FAILS t = oneMore Reg.SAF.ST_FAIL_FAILS s ∧
        get (Reg.EVT_STS 0x97 1) t = 1)) ∧
  (∀ k : Fin 10, k = 1 ∨ k = 2 ∨ k = 8 → savState s = 4 ∨ savState s = 7 → 65536 ≤ s.flt.aonFrames →
    Completes (.aonSelftest [k]) s fun t => Fresh 329 s → Raised 329 s t ∧ t.flt.aonFrames = 0 ∧
      (pageDark 0x97 s = false →
        get Reg.SAF.ST_FAIL_ITEM t = k.val ∧ get Reg.SAF.ST_FAIL_FAILS t = oneMore Reg.SAF.ST_FAIL_FAILS s ∧
        get (Reg.EVT_STS 0x97 1) t = 1)) ∧
  (∀ errOut intended : Bool,
    Completes (.pinReadbackFault errOut intended) s fun t => Fresh 335 s →
      get (Reg.FLS.LIVE 335) t = 1 ∧ Raised 335 s t ∧ Changes raiseParts (raiseFields 335) s t) ∧
  (3 ≤ s.sav.missed →
    Completes .saveTriggerCrosscheck s fun t => Fresh 333 s →
      get (Reg.FLS.LIVE 333) t = 1 ∧ Raised 333 s t ∧ Changes raiseParts (raiseFields 333) s t)

/-! ### The Gather queues (R429 to R445) -/

/-- Pushes within credits and without them (R430 to R432): the record's words follow those held and those in packing,
in whole wide words of 32 (R433); a producer of GQ2 waits; a record that finds no credits is dropped and counted.
Readings of the model's own that clauses rest on: log entry 95. -/
def Obligations.GatherPushes : Prop :=
  ∀ s : State, Ready s → s.gq.length = 4 → domainOn 44 s = true →
  ∀ (q : Fin 4) (p : Producer) (type : BitVec 8) (payload : List (BitVec 16)), q.val ∈ producerQueue p →
  payload.length ≤ 251 →
  let rec_ := record type.toNat payload s
  let g := queue q s
  let words := fun (x : Gather) => x.held.flatMap (·.words) ++ x.packing
  rec_.take 4 = BitVec.ofNat 16 (type.toNat * 256 + (4 + payload.length)) :: words16 3 (now s) ∧
  (q.val ≠ 2 → g.packing.length < 32 → (overflowRecord q s ++ rec_).length ≤ queueGrant q s →
    Completes (.gatherPush q p type payload) s fun t =>
      words (queue q t) = words g ++ overflowRecord q s ++ rec_ ∧ (queue q t).packing.length < 32 ∧
      (queue q t).dropped = 0 ∧ get (Reg.GQ.STS_PACK q) t = (queue q t).packing.length) ∧
  (q.val ≠ 2 → queueGrant q s < (overflowRecord q s ++ rec_).length →
    Completes (.gatherPush q p type payload) s fun t =>
      (queue q t).held = g.held ∧ (queue q t).packing = g.packing ∧ (queue q t).dropped = g.dropped + 1 ∧
      (g.dropped = 0 → (queue q t).firstDrop = now s) ∧
      get (Reg.GQ.DROPS_COUNT q) t = oneMore (Reg.GQ.DROPS_COUNT q) s ∧ get (Reg.EVT_STS (0xA0 + q.val) 2) t = 1 ∧
      Changes [.gq] [Reg.GQ.DROPS_COUNT q, Reg.EVT_STS (0xA0 + q.val) 2] s t) ∧
  (q.val = 2 → g.waiting = [] → g.packing.length < 32 → rec_.length ≤ queueGrant 2 s →
    Completes (.gatherPush q p type payload) s fun t =>
      words g ++ rec_ <+: words (queue 2 t) ∧ (queue 2 t).packing.length < 32) ∧
  (q.val = 2 → g.waiting ≠ [] ∨ queueGrant 2 s < rec_.length →
    Completes (.gatherPush q p type payload) s fun t =>
      g.waiting ++ [rec_] <+: (queue 2 t).waiting ∧ get (Reg.EVT_STS 0xA2 3) t = 1)

/-- The consumer's operations (R436): READ at depth 0 and above, MARK, REWIND, RELEASE and FLUSH. Readings of the
model's own that clauses rest on: log entry 95. -/
def Obligations.GatherOperations : Prop :=
  ∀ s : State, Ready s → s.gq.length = 4 → ∀ (w : Writer) (q : Fin 4), let a := 0xA0108 + 4096 * q.val
  let shown := [Reg.GQ.HELD_WORDS q, Reg.GQ.CAPACITY_WORDS q, Reg.GQ.STS_PACK q, Reg.GQ.STS_TAIL_FULL q,
    Reg.GQ.WM_CROSSINGS_HI q, Reg.GQ.WM_CROSSINGS_LO q, Reg.EVT_LIVE (0xA0 + q.val), Reg.EVT_STS (0xA0 + q.val) 0,
    Reg.EVT_STS (0xA0 + q.val) 1]
  (Reaches w a 1 s →
    (queueDepth q s = 0 →
      Completes (.read w q) s fun t =>
        get (Reg.GQ.STS_LAST_OP_EMPTY q) t = 1 ∧ Changes [] [Reg.GQ.STS_LAST_OP_EMPTY q] s t) ∧
    (1 ≤ queueDepth q s →
      Completes (.read w q) s fun t =>
        get (Reg.GQ.RD_SEQ q) t = (get (Reg.GQ.RD_SEQ q) s + 1) % 2 ^ 32 ∧ get (Reg.GQ.STS_LAST_OP_EMPTY q) t = 0 ∧
        Changes [.gq] (Reg.GQ.RD_SEQ q :: Reg.GQ.STS_LAST_OP_EMPTY q :: shown) s t)) ∧
  (Reaches w a 2 s →
    Completes (.mark w q) s fun t =>
      get (Reg.GQ.MARK_SEQ q) t = get (Reg.GQ.RD_SEQ q) s % 2 ^ 32 ∧ Changes [] [Reg.GQ.MARK_SEQ q] s t) ∧
  (Reaches w a 4 s →
    Completes (.rewind w q) s fun t =>
      get (Reg.GQ.RD_SEQ q) t = get (Reg.GQ.MARK_SEQ q) s % 2 ^ 32 ∧ Changes [.gq] (Reg.GQ.RD_SEQ q :: shown) s t) ∧
  (Reaches w a 8 s → q.val ≠ 2 →
    Completes (.release w q) s fun t =>
      get (Reg.GQ.RELEASED_SEQ q) t = get (Reg.GQ.RD_SEQ q) s % 2 ^ 32 ∧
      get (Reg.GQ.MARK_SEQ q) t = get (Reg.GQ.RD_SEQ q) s % 2 ^ 32 ∧
      (queue q t).held = (queue q s).held.drop
        ((get (Reg.GQ.RD_SEQ q) s + 2 ^ 32 - get (Reg.GQ.RELEASED_SEQ q) s) % 2 ^ 32) ∧
      (queue q t).packing = (queue q s).packing ∧
      Changes [.gq] (Reg.GQ.RELEASED_SEQ q :: Reg.GQ.MARK_SEQ q :: shown) s t) ∧
  (Reaches w a 8 s → q.val = 2 → (queue 2 s).waiting = [] →
    Completes (.release w q) s fun t =>
      get (Reg.GQ.RELEASED_SEQ q) t = get (Reg.GQ.RD_SEQ q) s % 2 ^ 32 ∧
      get (Reg.GQ.MARK_SEQ q) t = get (Reg.GQ.RD_SEQ q) s % 2 ^ 32 ∧
      (queue q s).held.drop ((get (Reg.GQ.RD_SEQ q) s + 2 ^ 32 - get (Reg.GQ.RELEASED_SEQ q) s) % 2 ^ 32) <+:
        (queue q t).held) ∧
  (Reaches w a 16 s →
    ((queue q s).packing = [] → Completes (.flush w q) s fun t => Changes [] [] s t) ∧
    ((queue q s).packing ≠ [] → q.val ≠ 2 →
      Completes (.flush w q) s fun t =>
        (queue q t).packing = [] ∧
        (queue q t).held = (queue q s).held ++ [{ words := (queue q s).packing, pad := true }] ∧
        get (Reg.GQ.WR_SEQ q) t = (get (Reg.GQ.WR_SEQ q) s + 1) % 2 ^ 32 ∧ get (Reg.GQ.STS_PACK q) t = 0 ∧
        Changes [.gq] (Reg.GQ.WR_SEQ q :: Reg.EVT_STS (0xA0 + q.val) 5 :: shown) s t) ∧
    ((queue q s).packing ≠ [] → q.val = 2 →
      Completes (.flush w q) s fun t =>
        (queue q s).held ++ [({ words := (queue q s).packing, pad := true } : WideWord)] <+: (queue q t).held))

/-! ### The code array (R446 to R463) -/

/-- The sequences to an idle bank (R449 to R454, R457): PROGRAM and its refusals, ERASE, OPTION_PROGRAM, READ_STATUS,
CLEAR_STATUS, READ_ARRAY, READ_ID; a first write that begins none sets SEQ_ERR. Readings of the model's own that
clauses rest on: log entry 78. -/
def Obligations.CodeArraySequences : Prop :=
  ∀ s : State, Ready s → ∀ (w : Writer) (b : Fin 2), Reaches w 0xB0000 0 s → (carBank b s).op = none →
  (carBank b s).step = 0 →
  let shown := [Reg.CAR.BANK_STS_STATUS b, Reg.CAR.BANK_STS_MODE b, Reg.CAR.BANK_STS_OP b]
  let starts := fun (x : CarOp) (t : State) =>
    (carBank b t).op = some x ∧ (carBank b t).step = 0 ∧ get (Reg.CAR.BANK_STS_MODE b) t = 1 ∧
    bitOf (carStatus b t) 0 = false
  (∀ (k : Nat) (data : Word), k < 0x400000 → carFailed b s = false → s.car.bad.contains (b.val * 0x400000 + k) = false →
    let o := b.val * 0x400000 + k
    let put := { by_ := w, off := 4 * o, data := data }
    (arrayWord o s = erasedWord → arrayCopy o s = erasedWord → ownArea (blockOfWord o) = false →
      programRefusal (blockOfWord o) o data.toNat erasedWord s = 0 →
      Completes (.program (sequenceOf w b 0xA9 ++ [put])) s fun t =>
        starts { kind := 1, block := blockOfWord o, word := o, data := data } t ∧
        get (Reg.CAR.BANK_STS_OP b) t = 1 ∧ Changes [.car] shown s t) ∧
    (∀ v bits, arrayWord o s = v → arrayCopy o s = v → ownArea (blockOfWord o) = false →
      v < 2 ^ 32 → programRefusal (blockOfWord o) o data.toNat v s = bits → bits ≠ 0 →
      Completes (.program (sequenceOf w b 0xA9 ++ [put])) s fun t =>
        (carBank b t).op = none ∧ carStatus b t = Nat.lor (carStatus b s) bits % 2 ^ (Reg.CAR.BANK_STS_STATUS b).w ∧
        get (Reg.EVT_STS 0xB0 0) t = 1 ∧ Changes [.car] (Reg.EVT_STS 0xB0 0 :: shown) s t)) ∧
  (∀ block : Fin 256, let n := 256 * b.val + block.val
    let put := { by_ := w, off := n * 0x10000, data := 0x3E }
    carFailed b s = false →
    (carLocked n s = false →
      Completes (.erase (sequenceOf w b 0xE3 ++ [put])) s fun t =>
        starts { kind := 2, block := n, word := 0, data := 0 } t ∧ n ∈ t.car.eraseIncomplete ∧
        get (Reg.CAR.ERASE_PROGRESS_BLOCK b) t = block ∧ get (Reg.CAR.ERASE_PROGRESS_SUSPENDS b) t = 0 ∧
        get (Reg.CAR.BANK_STS_OP b) t = 2 ∧ t.car.words = s.car.words) ∧
    (carLocked n s = true →
      Completes (.erase (sequenceOf w b 0xE3 ++ [put])) s fun t =>
        (carBank b t).op = none ∧ bitOf (carStatus b t) 6 = true ∧ bitOf (carStatus b t) 3 = true ∧
        Changes [.car] (Reg.EVT_STS 0xB0 0 :: shown) s t)) ∧
  (∀ (k : Fin 1024) (data : Word), b = 1 → carFailed b s = false → s.car.bad.contains (optBase + k.val) = false →
    arrayWord (optBase + k.val) s = erasedWord → arrayCopy (optBase + k.val) s = erasedWord →
    Completes (.optionProgram (sequenceOf w b 0xA6 ++ [{ by_ := w, off := 4 * (optBase + k.val), data := data }])) s fun t =>
      starts { kind := 3, block := 512, word := optBase + k.val, data := data } t ∧ get (Reg.CAR.BANK_STS_OP b) t = 3 ∧
      Changes [.car] shown s t) ∧
  (Completes (.readStatus (sequenceOf w b 0x57)) s fun t =>
    get (Reg.CAR.BANK_STS_MODE b) t = 1 ∧ carStatus b t = carStatus b s ∧ Changes [.car] shown s t) ∧
  (Completes (.clearStatus (sequenceOf w b 0x75)) s fun t =>
    get (Reg.CAR.BANK_STS_MODE b) t = 0 ∧ carStatus b t = carStatus b s % 4 ∧ Changes [.car] shown s t) ∧
  (carFailed b s = false →
    (Completes (.readArray (sequenceOf w b 0x99)) s fun t =>
      get (Reg.CAR.BANK_STS_MODE b) t = 0 ∧ carStatus b t = carStatus b s ∧ Changes [.car] shown s t) ∧
    (Completes (.readId (sequenceOf w b 0x9A)) s fun t =>
      get (Reg.CAR.BANK_STS_MODE b) t = 2 ∧ carStatus b t = carStatus b s ∧ Changes [.car] shown s t)) ∧
  (∀ (x : CarWrite), x.by_ = w → carTarget x.off = some b.val → x.data.toNat % 65536 ≠ 0x64 →
    x.data.toNat % 65536 ≠ 0x46 → x.data.toNat % 65536 ≠ 0xC3 →
    Completes (.program [x]) s fun t =>
      bitOf (carStatus b t) 7 = true ∧ (carBank b t).op = none ∧ Changes [.car] [Reg.CAR.BANK_STS_STATUS b] s t)

/-- Operations under way: SUSPEND and RESUME (R455), their ends (R451, R452, R454), reads and fetches (R447, R450,
R451, R456). Readings of the model's own that clauses rest on: log entry 79. -/
def Obligations.CodeArrayOperations : Prop :=
  ∀ s : State, Ready s → ∀ (w : Writer) (b : Fin 2), let k := carBank b s
  let shown := [Reg.CAR.BANK_STS_STATUS b, Reg.CAR.BANK_STS_MODE b, Reg.CAR.BANK_STS_OP b]
  (∀ (x : CarOp) (off : Nat) (data : Word), Reaches w 0xB0000 0 s → carTarget off = some b.val → k.op = some x →
    k.step = 0 →
    (x.suspended = false → x.word < optBase →
      Completes (.suspend { by_ := w, off := off, data := data }) s fun t =>
        (carBank b t).op = some { x with suspended := true } ∧ get (Reg.CAR.BANK_STS_MODE b) t = 0 ∧
        bitOf (carStatus b t) 0 = true ∧ bitOf (carStatus b t) 1 = true ∧
        Changes [.car] (Reg.CAR.ERASE_PROGRESS_SUSPENDS b :: shown) s t) ∧
    (x.suspended = true →
      Completes (.resumeOperation { by_ := w, off := off, data := data }) s fun t =>
        (carBank b t).op = some { x with suspended := false } ∧ get (Reg.CAR.BANK_STS_MODE b) t = 1 ∧
        bitOf (carStatus b t) 0 = false ∧ bitOf (carStatus b t) 1 = false ∧ Changes [.car] shown s t)) ∧
  (∀ x : CarOp, k.op = some x → x.suspended = false → x.word < optBase →
    (x.kind = 1 →
      Completes (.opDone b true) s fun t =>
        arrayWord x.word t = x.data.toNat ∧ (carBank b t).op = k.under ∧ get (Reg.EVT_STS 0xB0 0) t = 1) ∧
    (x.kind = 2 →
      Completes (.opDone b true) s fun t =>
        (∀ o, o < optBase → blockOfWord o = x.block → arrayWord o t = erasedWord) ∧ x.block ∉ t.car.eraseIncomplete ∧
        (carBank b t).op = k.under ∧ get (Reg.EVT_STS 0xB0 0) t = 1 ∧
        (x.word = 0 → get (Reg.CAR.ERASE_PROGRESS_PERMILLE b) t = 1000) ∧
        Changes [.car] (Reg.EVT_STS 0xB0 0 :: Reg.CAR.ERASE_PROGRESS_PERMILLE b :: shown) s t) ∧
    (x.kind = 1 ∨ x.kind = 2 →
      Completes (.opDone b false) s fun t => Fresh 232 s →
        bitOf (carStatus b t) (if x.kind = 2 then 3 else 2) = true ∧ get (Reg.CAR.BANK_STS_MODE b) t = 1 ∧
        (x.kind = 1 → x.word ∈ t.car.bad) ∧ (carBank b t).op = k.under ∧ get (Reg.EVT_STS 0xB0 1) t = 1 ∧
        Raised 232 s t)) ∧
  (∀ (off : Nat) (bitErrors : Fin 3), carTarget off = some b.val →
    let block := if inOption off then 512 else off / 0x10000
    (carStatusRead b block s = true →
      Completes (.arrayRead w off bitErrors) s fun t =>
        [Out.arrayData (carStatus b s) true] <+: t.out ∧ Changes [] [] s t) ∧
    (carStatusRead b block s = false → get (Reg.CAR.BANK_STS_MODE b) s = 2 → off = b.val * 0x1000000 →
      Completes (.arrayRead w off bitErrors) s fun t => [Out.arrayData 0x5A31 true] <+: t.out ∧ Changes [] [] s t) ∧
    (carStatusRead b block s = false → get (Reg.CAR.BANK_STS_MODE b) s = 0 → off / 4 ∉ s.car.bad →
      (off / 4 < optBase → isTally block s = false) → ownArea block = false → arrayCopy (off / 4) s = arrayWord (off / 4) s →
      (bitErrors ≠ 2 → Completes (.arrayRead w off bitErrors) s fun t =>
        Out.arrayData (arrayWord (off / 4) s) true ∈ t.out ∧
        (bitErrors = 1 → get Reg.CAR.ECC_CE t = oneMore Reg.CAR.ECC_CE s) ∧ Changes [] [Reg.CAR.ECC_CE] s t) ∧
      (bitErrors = 2 → Completes (.arrayRead w off bitErrors) s fun t => Fresh 232 s →
        Out.arrayData erasedWord false ∈ t.out ∧ get Reg.CAR.ECC_UE t = oneMore Reg.CAR.ECC_UE s ∧
        get (Reg.EVT_STS 0xB0 2) t = 1 ∧ Raised 232 s t ∧
        Changes raiseParts (Reg.CAR.ECC_UE :: Reg.EVT_STS 0xB0 2 :: raiseFields 232) s t))) ∧
  (∀ addr : Word, carBusy k = true →
    Completes (.fetchTrap b addr) s fun t => Fresh 231 s →
      [Out.busTrap addr.toNat] <+: t.out ∧ get Reg.CAR.FETCH_TRAPS_COUNT t = oneMore Reg.CAR.FETCH_TRAPS_COUNT s ∧
      get (Reg.EVT_STS 0xB0 4) t = 1 ∧ Raised 231 s t ∧
      Changes raiseParts (Reg.CAR.FETCH_TRAPS_COUNT :: Reg.EVT_STS 0xB0 4 :: raiseFields 231) s t)

/-! ### Firmware and settings (R464 to R482) -/

/-- ACTIVATE and its refusals (R468, R479), CONFIRM, ACCEPT_DEFAULTS, REVERT and RESTART (R472, R474, R476), the
automatic confirmation (R473) and the end of a compaction (R477). That ACCEPT_DEFAULTS alone has no effect is the
model's reading (log entry 52). Readings of the model's own that clauses rest on: log entry 81. -/
def Obligations.UpdateCommands : Prop :=
  ∀ s : State, Ready s → ∀ w : Writer,
  let busy := fun (t : State) => get (Reg.BLKWERR_BUSY 0xB1) t = 1 ∧
    Changes [] [Reg.BLKWERR_BUSY 0xB1, Reg.BLKWERR_OFFSET 0xB1, Reg.BLKWERR_SOURCE 0xB1] s t
  (∀ (c : Fin 4) (slotB : Bool), Reaches w 0xB1130 (c.val + 4 * b2n slotB) s →
    let named := [Reg.UPD.ACTIVATE_COMPONENT, Reg.UPD.ACTIVATE_SLOT, Reg.UPD.STS_RESULT]
    let img := imageOf c slotB s
    let mine := (s.upd.transfer.map (fun t => t.component == c.val)).getD false
    let oldFormat := c = 0 ∧ (s.upd.stateOldest < img.stateOldest ∨ img.stateFmt < s.upd.stateNewest)
    let good := compatible (overlaySet (pendingSet s) [(c, slotB)]) s
    (fenced s = true → Completes (.activate w c slotB) s busy) ∧
    (fenced s = false → mine = true →
      Completes (.activate w c slotB) s fun t => get Reg.UPD.STS_RESULT t = 4 ∧ Changes [] named s t) ∧
    (fenced s = false → mine = false →
      (img.staged = false ∨ img.rejected = true →
        Completes (.activate w c slotB) s fun t => get Reg.UPD.STS_RESULT t = 1 ∧ Changes [] named s t) ∧
      (img.staged = true → img.rejected = false → good = false →
        Completes (.activate w c slotB) s fun t => get Reg.UPD.STS_RESULT t = 2 ∧ Changes [] named s t) ∧
      (img.staged = true → img.rejected = false → good = true → logFree s < 8 →
        Completes (.activate w c slotB) s fun t => get Reg.UPD.STS_RESULT t = 3 ∧ Changes [] named s t) ∧
      (img.staged = true → img.rejected = false → good = true → 8 ≤ logFree s → oldFormat →
        Completes (.activate w c slotB) s fun t => get Reg.UPD.STS_RESULT t = 5 ∧ Changes [] named s t) ∧
      (img.staged = true → img.rejected = false → good = true → 8 ≤ logFree s → ¬ oldFormat →
        Completes (.activate w c slotB) s fun t =>
          get Reg.UPD.STS_RESULT t = 0 ∧ t.upd.log = s.upd.log ++ [.activate c slotB] ∧
          (c.val, slotB) ∈ pendingOf t ∧ get (Reg.UPD.SLOT_PENDING c) t = 1 ∧ get (Reg.EVT_STS 0xB1 1) t = 1 ∧
          t.upd.bootSlot = s.upd.bootSlot ∧ t.upd.running = s.upd.running))) ∧
  (∀ accept : Bool, Reaches w 0xB1134 (1 + 2 * b2n accept) s →
    (fenced s = true → Completes (.confirm w accept) s busy) ∧
    (fenced s = false →
      (pendingOf s = [] ∨ pendingSet s ≠ s.upd.running →
        Completes (.confirm w accept) s fun t =>
          get Reg.UPD.STS_RESULT t = 4 ∧ Changes [] [Reg.UPD.STS_RESULT] s t) ∧
      (pendingOf s ≠ [] → pendingSet s = s.upd.running → isSet Reg.UPD.STS_SETTINGS_DEFAULTED s = true →
        accept = false →
        Completes (.confirm w accept) s fun t =>
          get Reg.UPD.STS_RESULT t = 5 ∧ Changes [] [Reg.UPD.STS_RESULT] s t) ∧
      (pendingOf s ≠ [] → pendingSet s = s.upd.running → isSet Reg.UPD.STS_SETTINGS_DEFAULTED s = false ∨ accept = true →
        Completes (.confirm w accept) s fun t =>
          get Reg.UPD.STS_RESULT t = 0 ∧ t.upd.bootSlot = s.upd.running ∧ pendingOf t = [] ∧ t.upd.tally = 0 ∧
          get Reg.UPD.STS_SETTINGS_DEFAULTED t = 0 ∧ get (Reg.EVT_STS 0xB1 2) t = 1 ∧
          get (Reg.EVT_STS 0xB2 1) t = 1 ∧ t.upd.running = s.upd.running))) ∧
  (Reaches w 0xB1134 2 s →
    (fenced s = true → Completes (.acceptDefaults w) s busy) ∧
    (fenced s = false → Completes (.acceptDefaults w) s fun t => Changes [] [] s t)) ∧
  (Reaches w 0xB1134 4 s →
    (fenced s = true → Completes (.revert w) s busy) ∧
    (fenced s = false → pendingOf s = [] →
      Completes (.revert w) s fun t => get Reg.UPD.STS_RESULT t = 4 ∧ Changes [] [Reg.UPD.STS_RESULT] s t) ∧
    (fenced s = false → pendingOf s ≠ [] →
      Completes (.revert w) s fun t =>
        get Reg.UPD.STS_RESULT t = 0 ∧ pendingOf t = [] ∧ pendingSet t = s.upd.bootSlot ∧
        t.upd.bootSlot = s.upd.bootSlot ∧ t.upd.images = s.upd.images ∧
        (s.upd.log.length < 2040 → t.upd.log = s.upd.log ++ [.revert] ∧ t.upd.logSeq = s.upd.logSeq + 1) ∧
        (2040 ≤ s.upd.log.length → t.upd.log = [.confirm] ∧ t.upd.logBlock = 1 - s.upd.logBlock ∧
          t.upd.logSeq = s.upd.logSeq + 2) ∧
        t.upd.running = s.upd.running ∧ t.upd.tally = 0 ∧ get (Reg.EVT_STS 0xB1 3) t = 1)) ∧
  (Reaches w 0xB1134 8 s →
    (fenced s = true → Completes (.restart w) s busy) ∧
    (fenced s = false →
      Completes (.restart w) s fun t =>
        (savArmed s = false → t.pwr.resetDue = true) ∧
        (savArmed s = true → savState s ≠ 7 → isSet Reg.SYS.CAPS_RING s = false → paired s = false →
          fenced t = true ∧ get Reg.SAV.LAST_TRIG_TRIGGER t = 16 ∧ t.sav.resetFence = true))) ∧
  (autoConfirms s = true →
    Completes .autoConfirm s fun t =>
      t.upd.bootSlot = s.upd.running ∧ pendingOf t = [] ∧ t.upd.tally = 0 ∧ get (Reg.EVT_STS 0xB1 2) t = 1) ∧
  (s.upd.compacting = true → fenced s = false →
    Completes .settingsCompaction s fun t =>
      t.upd.compacting = false ∧ t.upd.settings = s.upd.settings ∧ t.upd.area = 1 - s.upd.area ∧
      t.upd.areaSeq = s.upd.areaSeq + 1 ∧ get (Reg.EVT_STS 0xB2 0) t = 1 ∧
      Changes [.upd] [Reg.SET.AREA_IN_USE, Reg.SET.AREA_FREE_KIB, Reg.SET.AREA_SEQ, Reg.SET.FMT_CURRENT,
        Reg.SET.FMT_OLDEST, Reg.EVT_STS 0xB2 0] s t)

/-! ### The tick and the registers (R52 to R86), and the invariants -/

/-- The tick (R52, R53, R56): the counter goes up by one, or a member adopts its marker's frame (the number after it
is the model's reading, log entry 8); step 3 applies a shadow and stamps its page (R59, R68). No other command moves
the counter while VAON stays (R53). -/
def Obligations.FrameCounter : Prop :=
  (∀ (s : State) (x : TickIn), Ready s →
    (pllWaits 0 s = false →
      Completes (.frameTick x) s fun t =>
        (isSet Reg.SYS.BOOT_PROVISIONAL s = false ∨ rsrStage s < 2 →
          (s.frm.adopt = none → t.frm.count = s.frm.count + 1) ∧ (∀ f, s.frm.adopt = some f → t.frm.count = f + 1)) ∧
        (isSet Reg.SYS.BOOT_PROVISIONAL s = true → 2 ≤ rsrStage s → s.frm.adopt = none →
          t.frm.count = BitVec.ofNat 48 ((now s + 1) % 2 ^ 48 + resumeFrame s))) ∧
    (pllWaits 0 s = true →
      Completes (.frameTick x) s fun t =>
        t.pwr.relocking = s.pwr.relocking.map (fun e => (e.1, e.2 + 1)) ∧ Changes [.pwr] [] s t)) ∧
  (∀ (c : Instr) (s t : State), exec c s = .next t → (∀ x, c ≠ .frameTick x) → (∀ x, c ≠ .vaonPowerUp x) →
    c ≠ .aonReset → t.frm.count = s.frm.count) ∧
  (∀ (s : State) (h : Shadow), s.shadows = [h] → pageDark (h.f.addr / 4096) s = false → h.f.lo < 32 →
    h.f.addr % 4096 ≠ 0x34 → s.frm.commitShadow = [] →
    (h.f.key = Reg.SPR.CFG_AUTO_MIGRATE.key → ∀ i, i < 64 → isSet (Reg.SPR.RANK_MARGINAL i) s = false) →
    let t := shadowTick s
    (h.late = false → t.shadows = [] ∧ get h.f t = h.value % 2 ^ h.f.w ∧
      get (Reg.FRAME_STAMP_FRAME (h.f.addr / 4096)) t = now32 s ∧
      (∀ d, h.f.key = (Reg.PDM.DOM_CTL_REQ d).key → d < 52 →
        t.pwr.requests = s.pwr.requests ++ [(d, h.value % 2 ^ h.f.w)])) ∧
    (h.late = true → t.shadows = [{ h with late := false }] ∧ get h.f t = get h.f s))

/-- Register writes: R77 and R86 first (R79), then whole words (R78), then each field under its class, here a class S
field (`ENG.SHUNT.MICROOHM`) and a class F field (`SAV.RIDE_MIN.MS`): equal values untouched, LOCK, ENABLE, the range,
the shadow and its close (R67 to R72, R505). The order in which errors are looked for is the model's reading (log
entry 9). -/
def Obligations.RegisterWrites : Prop :=
  ∀ s : State, Ready s → ∀ (w : Writer) (phase : Nat),
  (∀ (off : BitVec 24) (eight : Bool) (be : BitVec 8) (data : BitVec 64), let c := Instr.registerWrite w off eight be data phase
    let low := data.toNat % 2 ^ 32
    let page := off.toNat / 4096
    let bad := eight = true ∧ (off.toNat % 8 ≠ 0 ∨ be ≠ 255) ∨
      eight = false ∧ (off.toNat % 4 ≠ 0 ∨ be.toNat % 16 ≠ 15)
    (mayWrite w off.toNat low s = false → eight = true → ¬ bad → mayWrite w (off.toNat + 4) (data.toNat / 2 ^ 32) s = false →
      Completes c s fun t =>
        get Reg.SYS.FOREIGN_WR_COUNT t = satAdd (2 ^ Reg.SYS.FOREIGN_WR_COUNT.w - 1) (oneMore Reg.SYS.FOREIGN_WR_COUNT s) 1 ∧
        get Reg.SYS.FOREIGN_WR_PORT t = w.code ∧
        Changes [] [Reg.SYS.FOREIGN_WR_COUNT, Reg.SYS.FOREIGN_WR_PORT] s t) ∧
    (mayWrite w off.toNat low s = false → eight = false ∨ bad →
      Completes c s fun t =>
        get Reg.SYS.FOREIGN_WR_COUNT t = oneMore Reg.SYS.FOREIGN_WR_COUNT s ∧ get Reg.SYS.FOREIGN_WR_PORT t = w.code ∧
        Changes [] [Reg.SYS.FOREIGN_WR_COUNT, Reg.SYS.FOREIGN_WR_PORT] s t) ∧
    (mayWrite w off.toNat low s = true → pageDark page s = true → eight = false ∨ bad →
      Completes c s fun t =>
        get Reg.SYS.DARKWRITES_COUNT t = oneMore Reg.SYS.DARKWRITES_COUNT s ∧ get Reg.SYS.DARK_LAST_PAGE t = page ∧
        get Reg.SYS.DARK_LAST_OFFSET t = off.toNat % 4096 ∧ get Reg.SYS.DARK_LAST_SOURCE t = w.code ∧
        Changes [] [Reg.SYS.DARKWRITES_COUNT, Reg.SYS.DARK_LAST_PAGE, Reg.SYS.DARK_LAST_OFFSET,
          Reg.SYS.DARK_LAST_SOURCE] s t) ∧
    (Reaches w off.toNat low s → bad →
      Completes c s fun t =>
        get (Reg.BLKWERR_RANGE page) t = 1 ∧ get (Reg.BLKWERR_OFFSET page) t = off.toNat % 4096 ∧
        Changes [] [Reg.BLKWERR_RANGE page, Reg.BLKWERR_OFFSET page, Reg.BLKWERR_SOURCE page] s t)) ∧
  (∀ v : BitVec 16, Reaches w 0x8012C v.toNat s → (∀ h ∈ s.shadows, h.f.key ≠ Reg.ENG.SHUNT_MICROOHM.key) →
    let f := Reg.ENG.SHUNT_MICROOHM
    let c := Instr.registerWrite w 0x8012C false 15 (v.setWidth 64) phase
    let error := fun (e : Fld) (t : State) => get e t = 1 ∧ get f t = get f s ∧
      Changes [] [e, Reg.BLKWERR_OFFSET 0x80, Reg.BLKWERR_SOURCE 0x80] s t
    let locked := isSet (Reg.LOCK_LOCK 0x80) s
    let enabled := isSet (Reg.BLKCTL_ENABLE 0x80) s
    (v.toNat = get f s → Completes c s fun t => Changes [] [] s t) ∧
    (v.toNat ≠ get f s → locked = true → Completes c s (error (Reg.BLKWERR_LOCKED 0x80))) ∧
    (v.toNat ≠ get f s → locked = false → enabled = true → Completes c s (error (Reg.BLKWERR_STATIC 0x80))) ∧
    (v.toNat ≠ get f s → locked = false → enabled = false → pageBusy 0x80 s = true →
      Completes c s (error (Reg.BLKWERR_BUSY 0x80))) ∧
    (v.toNat ≠ get f s → locked = false → enabled = false → pageBusy 0x80 s = false →
      v.toNat < 100 ∨ 10000 < v.toNat → Completes c s (error (Reg.BLKWERR_RANGE 0x80))) ∧
    (locked = false → enabled = false → pageBusy 0x80 s = false → 100 ≤ v.toNat → v.toNat ≤ 10000 →
      Completes c s fun t => get f t = v.toNat ∧ Changes [] [f] s t)) ∧
  (∀ v : BitVec 12, Reaches w 0x42108 v.toNat s → (∀ h ∈ s.shadows, h.f.key ≠ Reg.SAV.RIDE_MIN_MS.key) →
    let f := Reg.SAV.RIDE_MIN_MS
    let c := Instr.registerWrite w 0x42108 false 15 (v.setWidth 64) phase
    let ranged := decide (1 ≤ v.toNat ∧ v.toNat ≤ 4000)
    isSet (Reg.LOCK_LOCK 0x42) s = false → v.toNat ≠ get f s →
    (ranged = false → Completes c s fun t => get (Reg.BLKWERR_RANGE 0x42) t = 1 ∧ get f t = get f s ∧ t.shadows = s.shadows) ∧
    (ranged = true → isSet (Reg.BLKCTL_ENABLE 0x42) s = true →
      Completes c s fun t =>
        t.shadows = s.shadows ++ [{ f := f, value := v.toNat, late := decide (39800 ≤ phase) }] ∧ get f t = get f s ∧
        Changes [.shadows] [] s t) ∧
    (ranged = true → isSet (Reg.BLKCTL_ENABLE 0x42) s = false →
      Completes c s fun t => get f t = v.toNat ∧ Changes [] [f] s t))

/-- Every step keeps `SYS.PERSIST.OK` equal to what its reason bits, VAON and the TAP give (R16, R502), and
`DOMAIN_OK` equal to its four conditions (R367). -/
def Obligations.PersistIndicationKept : Prop :=
  (∀ s t : State, PersistInv s → step s = .next t → PersistInv t) ∧
  (∀ s t : State, DomainInv s → step s = .next t → DomainInv t)

/-- Every step keeps the module DRAM in its canonical form. Readings of the model's own that clauses rest on: log
entry 99. -/
def Obligations.MemoryFormKept : Prop :=
  ∀ s t : State, MemoryForm s → step s = .next t → MemoryForm t
end

