-- ==== Sys2Proof/Laws/Lists.lean ====
section
/-! SUPPORT. The laws of sparse lists: reading after a write, and the canonical form that every write keeps. -/

namespace Sys2Proof.Machine

variable {α : Type}

/-! ### Reading after a write -/

@[simp] theorem look_nil (k : Nat) : look ([] : List (Nat × α)) k = none := rfl

theorem look_cons (j k : Nat) (v : α) (t : List (Nat × α)) :
    look ((j, v) :: t) k = if j = k then some v else look t k := rfl

@[simp] theorem look_drop_same (l : List (Nat × α)) (k : Nat) : look (drop l k) k = none := by
  induction l with
  | nil => rfl
  | cons e t ih =>
    obtain ⟨j, v⟩ := e
    by_cases h : j = k <;> simp [drop, look, h, ih]

theorem look_drop_other (l : List (Nat × α)) {j k : Nat} (h : j ≠ k) : look (drop l k) j = look l j := by
  induction l with
  | nil => rfl
  | cons e t ih =>
    obtain ⟨i, v⟩ := e
    by_cases hk : i = k
    · subst hk
      simp [drop, look, ih, Ne.symm h]
    · simp [drop, look, hk, ih]

theorem look_insert_same (l : List (Nat × α)) (k : Nat) (v : α) (h : look l k = none) :
    look (insert l k v) k = some v := by
  induction l with
  | nil => simp [insert, look]
  | cons e t ih =>
    obtain ⟨j, u⟩ := e
    by_cases hj : j = k
    · simp [look, hj] at h
    · by_cases hk : k < j
      · simp [insert, hk, look]
      · simp [insert, hk, look, hj, ih (by simpa [look, hj] using h)]

theorem look_insert_other (l : List (Nat × α)) {j k : Nat} (v : α) (h : j ≠ k) :
    look (insert l k v) j = look l j := by
  induction l with
  | nil => simp [insert, look, Ne.symm h]
  | cons e t ih =>
    obtain ⟨i, u⟩ := e
    by_cases hk : k < i
    · simp [insert, hk, look, Ne.symm h]
    · simp [insert, hk, look, ih]

/-- A key reads what was put under it. -/
@[simp] theorem look_put_same [DecidableEq α] (d : α) (l : List (Nat × α)) (k : Nat) (v : α) :
    (look (put d l k v) k).getD d = v := by
  by_cases h : v = d
  · simp [put, h]
  · simp [put, h, look_insert_same]

/-- Every other key reads as before. -/
theorem look_put_other [DecidableEq α] (d : α) (l : List (Nat × α)) {j k : Nat} (v : α) (h : j ≠ k) :
    look (put d l k v) j = look l j := by
  by_cases hv : v = d
  · simp [put, hv, look_drop_other l h]
  · simp [put, hv, look_insert_other _ v h, look_drop_other l h]

/-! ### The canonical form -/

/-- Rising keys, as an order of the whole list. -/
theorem rising_iff (l : List (Nat × α)) : rising l = true ↔ l.Pairwise (fun a b => a.1 < b.1) := by
  induction l with
  | nil => simp [rising]
  | cons a t ih =>
    match t with
    | [] => simp [rising]
    | b :: t =>
      simp only [rising, Bool.and_eq_true, decide_eq_true_eq, ih, List.pairwise_cons, List.mem_cons,
        forall_eq_or_imp]
      constructor
      · rintro ⟨h, hb, ht⟩
        exact ⟨⟨h, fun c hc => lt_trans h (hb c hc)⟩, hb, ht⟩
      · rintro ⟨⟨h, _⟩, hb, ht⟩
        exact ⟨h, hb, ht⟩

theorem drop_sublist (l : List (Nat × α)) (k : Nat) : (drop l k).Sublist l := by
  induction l with
  | nil => exact List.Sublist.refl _
  | cons e t ih =>
    obtain ⟨j, v⟩ := e
    by_cases h : j = k
    · simpa [drop, h] using ih.cons (k, v)
    · simpa [drop, h] using ih.cons_cons (j, v)

theorem mem_insert (l : List (Nat × α)) (k : Nat) (v : α) (e : Nat × α) :
    e ∈ insert l k v ↔ e = (k, v) ∨ e ∈ l := by
  induction l with
  | nil => simp [insert]
  | cons a t ih =>
    obtain ⟨j, u⟩ := a
    by_cases h : k < j
    · simp [insert, h]
    · simp only [insert, h, if_false, List.mem_cons, ih]
      tauto

theorem not_mem_drop (l : List (Nat × α)) (k : Nat) : ∀ e ∈ drop l k, e.1 ≠ k := by
  induction l with
  | nil => simp [drop]
  | cons a t ih =>
    obtain ⟨j, u⟩ := a
    by_cases h : j = k
    · simpa [drop, h] using ih
    · intro e he
      simp only [drop, h, if_false, List.mem_cons] at he
      rcases he with rfl | he
      · exact h
      · exact ih e he

theorem pairwise_insert (l : List (Nat × α)) (k : Nat) (v : α) (h : l.Pairwise (fun a b => a.1 < b.1))
    (hk : ∀ e ∈ l, e.1 ≠ k) : (insert l k v).Pairwise (fun a b => a.1 < b.1) := by
  induction l with
  | nil => simp [insert]
  | cons a t ih =>
    obtain ⟨j, u⟩ := a
    rw [List.pairwise_cons] at h
    have hj : j ≠ k := hk (j, u) (by simp)
    by_cases hlt : k < j
    · rw [insert, if_pos hlt, List.pairwise_cons, List.pairwise_cons]
      refine ⟨fun b hb => ?_, h.1, h.2⟩
      rcases List.mem_cons.1 hb with rfl | hb
      · exact hlt
      · exact lt_trans hlt (h.1 b hb)
    · simp only [insert, hlt, if_false, List.pairwise_cons]
      refine ⟨fun b hb => ?_, ih h.2 (fun e he => hk e (by simp [he]))⟩
      rcases (mem_insert t k v b).1 hb with rfl | hb
      · show j < k
        omega
      · exact h.1 b hb

theorem rising_drop (l : List (Nat × α)) (k : Nat) (h : rising l = true) : rising (drop l k) = true := by
  rw [rising_iff] at *
  exact h.sublist (drop_sublist l k)

/-- A write keeps the rising order. -/
theorem rising_put [DecidableEq α] (d : α) (l : List (Nat × α)) (k : Nat) (v : α) (h : rising l = true) :
    rising (put d l k v) = true := by
  by_cases hv : v = d
  · simpa [put, hv] using rising_drop l k h
  · have hd := rising_drop l k h
    rw [rising_iff] at hd
    simp only [put, hv, if_false, rising_iff]
    exact pairwise_insert _ k v hd (not_mem_drop l k)

/-- A write lists no entry that an unlisted key has anyway. -/
theorem put_ne_default [DecidableEq α] (d : α) (l : List (Nat × α)) (k : Nat) (v : α)
    (h : ∀ e ∈ l, e.2 ≠ d) : ∀ e ∈ put d l k v, e.2 ≠ d := by
  intro e he
  by_cases hv : v = d
  · simp only [put, hv, if_true] at he
    exact h e ((drop_sublist l k).subset he)
  · simp only [put, hv, if_false] at he
    rcases (mem_insert _ k v e).1 he with rfl | he
    · exact hv
    · exact h e ((drop_sublist l k).subset he)

/-- Entries left out keep the order of the others. -/
theorem rising_filter (l : List (Nat × α)) (p : Nat × α → Bool) (h : rising l = true) :
    rising (l.filter p) = true := by
  rw [rising_iff] at *
  exact h.sublist List.filter_sublist

/-! ### Lists changed at one place -/

@[simp] theorem length_modify (l : List α) (i : Nat) (f : α → α) : (modify l i f).length = l.length := by
  induction l generalizing i with
  | nil => simp [modify]
  | cons a t ih => cases i <;> simp [modify, ih]

theorem getD_modify_same (l : List α) (i : Nat) (f : α → α) (d : α) (h : i < l.length) :
    (modify l i f).getD i d = f (l.getD i d) := by
  induction l generalizing i with
  | nil => simp at h
  | cons a t ih =>
    cases i with
    | zero => simp [modify]
    | succ i => simpa [modify] using ih i (by simpa using h)

theorem getD_modify_other (l : List α) {i j : Nat} (f : α → α) (d : α) (h : i ≠ j) :
    (modify l i f).getD j d = l.getD j d := by
  induction l generalizing i j with
  | nil => simp [modify]
  | cons a t ih =>
    cases i with
    | zero =>
      cases j with
      | zero => exact absurd rfl h
      | succ j => simp [modify]
    | succ i =>
      cases j with
      | zero => simp [modify]
      | succ j => simpa [modify] using ih (i := i) (j := j) (by omega)

theorem mem_addNat (l : List Nat) (k e : Nat) : e ∈ addNat l k ↔ e = k ∨ e ∈ l := by
  induction l with
  | nil => simp [addNat]
  | cons j t ih =>
    by_cases h : k < j
    · simp [addNat, h]
    · by_cases hk : k = j
      · subst hk
        simp [addNat]
      · simp only [addNat, h, hk, if_false, List.mem_cons, ih]
        tauto

end Sys2Proof.Machine
end

