-- ==== Sys2Proof/Laws/State.lean ====
section
/-! SUPPORT. The laws of the register file, and for every basic update of the state what each field of it reads
afterwards, so that no proof unfolds a record update. -/

namespace Sys2Proof.Machine

/-! ### Register fields -/

/-- A field reads the low bits of what was stored in it. -/
@[simp] theorem get_set_same (f : Fld) (v : Nat) (s : State) : get f (set f v s) = v % 2 ^ f.w := by
  simp [get, set]

/-- A write of one field leaves every other field alone (R71). -/
theorem get_set_other {f g : Fld} (v : Nat) (s : State) (h : g.key ≠ f.key) : get g (set f v s) = get g s := by
  simp [get, set, look_put_other _ _ _ h]

@[simp] theorem isSet_put1_same (f : Fld) (b : Bool) (s : State) (hw : f.w = 1) : isSet f (put1 f b s) = b := by
  cases b <;> simp [isSet, put1, b2n, hw]

theorem isSet_set_other {f g : Fld} (v : Nat) (s : State) (h : g.key ≠ f.key) :
    isSet g (set f v s) = isSet g s := by
  simp [isSet, get_set_other v s h]

/-- Only the register file decides what a field reads. -/
theorem get_congr {s t : State} (f : Fld) (h : s.regs = t.regs) : get f s = get f t := by
  simp [get, h]

/-- A counter reads its old value and the count, up to its ceiling. -/
@[simp] theorem get_count_same (f : Fld) (k : Nat) (s : State) :
    get f (count f k s) = satAdd (2 ^ f.w - 1) (get f s) k := by
  have h : satAdd (2 ^ f.w - 1) (get f s) k < 2 ^ f.w := by
    have : 0 < 2 ^ f.w := Nat.two_pow_pos f.w
    simp only [satAdd]
    omega
  simp [count, Nat.mod_eq_of_lt h]

@[simp] theorem get_inc_same (f : Fld) (s : State) : get f (inc f s) = satAdd (2 ^ f.w - 1) (get f s) 1 :=
  get_count_same f 1 s

theorem get_inc_other {f g : Fld} (s : State) (h : g.key ≠ f.key) : get g (inc f s) = get g s :=
  get_set_other _ s h

/-! ### Conditions and iterations -/

@[simp] theorem when_true (f : State → State) (s : State) : when true f s = f s := by rfl
@[simp] theorem when_false (f : State → State) (s : State) : when false f s = s := by rfl

/-- What `f` keeps, a conditional `f` keeps. -/
theorem when_keeps (P : State → Prop) (c : Bool) (f : State → State) (s : State) (h : P s) (hf : P s → P (f s)) :
    P (when c f s) := by
  cases c
  · exact h
  · exact hf h

@[simp] theorem forEach_nil {α : Type} (f : α → State → State) (s : State) : forEach [] f s = s := by rfl
@[simp] theorem forEach_cons {α : Type} (a : α) (l : List α) (f : α → State → State) (s : State) :
    forEach (a :: l) f s = forEach l f (f a s) := by rfl

/-- What every round keeps, the iteration keeps. -/
theorem forEach_keeps {α : Type} (P : State → Prop) (l : List α) (f : α → State → State) (s : State) (h : P s)
    (hf : ∀ a ∈ l, ∀ t, P t → P (f a t)) : P (forEach l f s) := by
  induction l generalizing s with
  | nil => exact h
  | cons a l ih =>
    exact ih (f a s) (hf a (by simp) s h) (fun b hb => hf b (by simp [hb]))


/-! ### What a field write leaves -/

@[simp] theorem set_shadows (f : Fld) (v : Nat) (s : State) : (set f v s).shadows = s.shadows := by rfl
@[simp] theorem set_pools (f : Fld) (v : Nat) (s : State) : (set f v s).pools = s.pools := by rfl
@[simp] theorem set_frm (f : Fld) (v : Nat) (s : State) : (set f v s).frm = s.frm := by rfl
@[simp] theorem set_hp (f : Fld) (v : Nat) (s : State) : (set f v s).hp = s.hp := by rfl
@[simp] theorem set_dram (f : Fld) (v : Nat) (s : State) : (set f v s).dram = s.dram := by rfl
@[simp] theorem set_mrv (f : Fld) (v : Nat) (s : State) : (set f v s).mrv = s.mrv := by rfl
@[simp] theorem set_txn (f : Fld) (v : Nat) (s : State) : (set f v s).txn = s.txn := by rfl
@[simp] theorem set_nand (f : Fld) (v : Nat) (s : State) : (set f v s).nand = s.nand := by rfl
@[simp] theorem set_sav (f : Fld) (v : Nat) (s : State) : (set f v s).sav = s.sav := by rfl
@[simp] theorem set_eng (f : Fld) (v : Nat) (s : State) : (set f v s).eng = s.eng := by rfl
@[simp] theorem set_rsr (f : Fld) (v : Nat) (s : State) : (set f v s).rsr = s.rsr := by rfl
@[simp] theorem set_twn (f : Fld) (v : Nat) (s : State) : (set f v s).twn = s.twn := by rfl
@[simp] theorem set_rng (f : Fld) (v : Nat) (s : State) : (set f v s).rng = s.rng := by rfl
@[simp] theorem set_pwr (f : Fld) (v : Nat) (s : State) : (set f v s).pwr = s.pwr := by rfl
@[simp] theorem set_flt (f : Fld) (v : Nat) (s : State) : (set f v s).flt = s.flt := by rfl
@[simp] theorem set_gq (f : Fld) (v : Nat) (s : State) : (set f v s).gq = s.gq := by rfl
@[simp] theorem set_car (f : Fld) (v : Nat) (s : State) : (set f v s).car = s.car := by rfl
@[simp] theorem set_upd (f : Fld) (v : Nat) (s : State) : (set f v s).upd = s.upd := by rfl
@[simp] theorem set_free (f : Fld) (v : Nat) (s : State) : (set f v s).free = s.free := by rfl
@[simp] theorem set_reqs (f : Fld) (v : Nat) (s : State) : (set f v s).reqs = s.reqs := by rfl
@[simp] theorem set_out (f : Fld) (v : Nat) (s : State) : (set f v s).out = s.out := by rfl
@[simp] theorem set_pending (f : Fld) (v : Nat) (s : State) : (set f v s).pending = s.pending := by rfl

/-! ### What a count leaves -/

@[simp] theorem inc_shadows (f : Fld) (s : State) : (inc f s).shadows = s.shadows := by rfl
@[simp] theorem inc_pools (f : Fld) (s : State) : (inc f s).pools = s.pools := by rfl
@[simp] theorem inc_frm (f : Fld) (s : State) : (inc f s).frm = s.frm := by rfl
@[simp] theorem inc_hp (f : Fld) (s : State) : (inc f s).hp = s.hp := by rfl
@[simp] theorem inc_dram (f : Fld) (s : State) : (inc f s).dram = s.dram := by rfl
@[simp] theorem inc_mrv (f : Fld) (s : State) : (inc f s).mrv = s.mrv := by rfl
@[simp] theorem inc_txn (f : Fld) (s : State) : (inc f s).txn = s.txn := by rfl
@[simp] theorem inc_nand (f : Fld) (s : State) : (inc f s).nand = s.nand := by rfl
@[simp] theorem inc_sav (f : Fld) (s : State) : (inc f s).sav = s.sav := by rfl
@[simp] theorem inc_eng (f : Fld) (s : State) : (inc f s).eng = s.eng := by rfl
@[simp] theorem inc_rsr (f : Fld) (s : State) : (inc f s).rsr = s.rsr := by rfl
@[simp] theorem inc_twn (f : Fld) (s : State) : (inc f s).twn = s.twn := by rfl
@[simp] theorem inc_rng (f : Fld) (s : State) : (inc f s).rng = s.rng := by rfl
@[simp] theorem inc_pwr (f : Fld) (s : State) : (inc f s).pwr = s.pwr := by rfl
@[simp] theorem inc_flt (f : Fld) (s : State) : (inc f s).flt = s.flt := by rfl
@[simp] theorem inc_gq (f : Fld) (s : State) : (inc f s).gq = s.gq := by rfl
@[simp] theorem inc_car (f : Fld) (s : State) : (inc f s).car = s.car := by rfl
@[simp] theorem inc_upd (f : Fld) (s : State) : (inc f s).upd = s.upd := by rfl
@[simp] theorem inc_free (f : Fld) (s : State) : (inc f s).free = s.free := by rfl
@[simp] theorem inc_reqs (f : Fld) (s : State) : (inc f s).reqs = s.reqs := by rfl
@[simp] theorem inc_out (f : Fld) (s : State) : (inc f s).out = s.out := by rfl
@[simp] theorem inc_pending (f : Fld) (s : State) : (inc f s).pending = s.pending := by rfl

/-! ### What an event leaves -/

@[simp] theorem event_shadows (p k : Nat) (s : State) : (event p k s).shadows = s.shadows := by rfl
@[simp] theorem event_pools (p k : Nat) (s : State) : (event p k s).pools = s.pools := by rfl
@[simp] theorem event_frm (p k : Nat) (s : State) : (event p k s).frm = s.frm := by rfl
@[simp] theorem event_hp (p k : Nat) (s : State) : (event p k s).hp = s.hp := by rfl
@[simp] theorem event_dram (p k : Nat) (s : State) : (event p k s).dram = s.dram := by rfl
@[simp] theorem event_mrv (p k : Nat) (s : State) : (event p k s).mrv = s.mrv := by rfl
@[simp] theorem event_txn (p k : Nat) (s : State) : (event p k s).txn = s.txn := by rfl
@[simp] theorem event_nand (p k : Nat) (s : State) : (event p k s).nand = s.nand := by rfl
@[simp] theorem event_sav (p k : Nat) (s : State) : (event p k s).sav = s.sav := by rfl
@[simp] theorem event_eng (p k : Nat) (s : State) : (event p k s).eng = s.eng := by rfl
@[simp] theorem event_rsr (p k : Nat) (s : State) : (event p k s).rsr = s.rsr := by rfl
@[simp] theorem event_twn (p k : Nat) (s : State) : (event p k s).twn = s.twn := by rfl
@[simp] theorem event_rng (p k : Nat) (s : State) : (event p k s).rng = s.rng := by rfl
@[simp] theorem event_pwr (p k : Nat) (s : State) : (event p k s).pwr = s.pwr := by rfl
@[simp] theorem event_flt (p k : Nat) (s : State) : (event p k s).flt = s.flt := by rfl
@[simp] theorem event_gq (p k : Nat) (s : State) : (event p k s).gq = s.gq := by rfl
@[simp] theorem event_car (p k : Nat) (s : State) : (event p k s).car = s.car := by rfl
@[simp] theorem event_upd (p k : Nat) (s : State) : (event p k s).upd = s.upd := by rfl
@[simp] theorem event_free (p k : Nat) (s : State) : (event p k s).free = s.free := by rfl
@[simp] theorem event_reqs (p k : Nat) (s : State) : (event p k s).reqs = s.reqs := by rfl
@[simp] theorem event_out (p k : Nat) (s : State) : (event p k s).out = s.out := by rfl
@[simp] theorem event_pending (p k : Nat) (s : State) : (event p k s).pending = s.pending := by rfl

/-! ### Sending -/

@[simp] theorem emit_out (o : Out) (s : State) : (emit o s).out = s.out ++ [o] := by rfl
@[simp] theorem emit_regs (o : Out) (s : State) : (emit o s).regs = s.regs := by rfl
@[simp] theorem emit_shadows (o : Out) (s : State) : (emit o s).shadows = s.shadows := by rfl
@[simp] theorem emit_pools (o : Out) (s : State) : (emit o s).pools = s.pools := by rfl
@[simp] theorem emit_frm (o : Out) (s : State) : (emit o s).frm = s.frm := by rfl
@[simp] theorem emit_hp (o : Out) (s : State) : (emit o s).hp = s.hp := by rfl
@[simp] theorem emit_dram (o : Out) (s : State) : (emit o s).dram = s.dram := by rfl
@[simp] theorem emit_mrv (o : Out) (s : State) : (emit o s).mrv = s.mrv := by rfl
@[simp] theorem emit_txn (o : Out) (s : State) : (emit o s).txn = s.txn := by rfl
@[simp] theorem emit_nand (o : Out) (s : State) : (emit o s).nand = s.nand := by rfl
@[simp] theorem emit_sav (o : Out) (s : State) : (emit o s).sav = s.sav := by rfl
@[simp] theorem emit_eng (o : Out) (s : State) : (emit o s).eng = s.eng := by rfl
@[simp] theorem emit_rsr (o : Out) (s : State) : (emit o s).rsr = s.rsr := by rfl
@[simp] theorem emit_twn (o : Out) (s : State) : (emit o s).twn = s.twn := by rfl
@[simp] theorem emit_rng (o : Out) (s : State) : (emit o s).rng = s.rng := by rfl
@[simp] theorem emit_pwr (o : Out) (s : State) : (emit o s).pwr = s.pwr := by rfl
@[simp] theorem emit_flt (o : Out) (s : State) : (emit o s).flt = s.flt := by rfl
@[simp] theorem emit_gq (o : Out) (s : State) : (emit o s).gq = s.gq := by rfl
@[simp] theorem emit_car (o : Out) (s : State) : (emit o s).car = s.car := by rfl
@[simp] theorem emit_upd (o : Out) (s : State) : (emit o s).upd = s.upd := by rfl
@[simp] theorem emit_free (o : Out) (s : State) : (emit o s).free = s.free := by rfl
@[simp] theorem emit_reqs (o : Out) (s : State) : (emit o s).reqs = s.reqs := by rfl
@[simp] theorem emit_pending (o : Out) (s : State) : (emit o s).pending = s.pending := by rfl
@[simp] theorem get_emit (f : Fld) (o : Out) (s : State) : get f (emit o s) = get f s := by rfl

/-! ### Asking for a reaction -/

@[simp] theorem request_reqs (r : Req) (s : State) : (request r s).reqs = s.reqs ++ [r] := by rfl
@[simp] theorem request_regs (r : Req) (s : State) : (request r s).regs = s.regs := by rfl
@[simp] theorem request_shadows (r : Req) (s : State) : (request r s).shadows = s.shadows := by rfl
@[simp] theorem request_pools (r : Req) (s : State) : (request r s).pools = s.pools := by rfl
@[simp] theorem request_frm (r : Req) (s : State) : (request r s).frm = s.frm := by rfl
@[simp] theorem request_hp (r : Req) (s : State) : (request r s).hp = s.hp := by rfl
@[simp] theorem request_dram (r : Req) (s : State) : (request r s).dram = s.dram := by rfl
@[simp] theorem request_mrv (r : Req) (s : State) : (request r s).mrv = s.mrv := by rfl
@[simp] theorem request_txn (r : Req) (s : State) : (request r s).txn = s.txn := by rfl
@[simp] theorem request_nand (r : Req) (s : State) : (request r s).nand = s.nand := by rfl
@[simp] theorem request_sav (r : Req) (s : State) : (request r s).sav = s.sav := by rfl
@[simp] theorem request_eng (r : Req) (s : State) : (request r s).eng = s.eng := by rfl
@[simp] theorem request_rsr (r : Req) (s : State) : (request r s).rsr = s.rsr := by rfl
@[simp] theorem request_twn (r : Req) (s : State) : (request r s).twn = s.twn := by rfl
@[simp] theorem request_rng (r : Req) (s : State) : (request r s).rng = s.rng := by rfl
@[simp] theorem request_pwr (r : Req) (s : State) : (request r s).pwr = s.pwr := by rfl
@[simp] theorem request_flt (r : Req) (s : State) : (request r s).flt = s.flt := by rfl
@[simp] theorem request_gq (r : Req) (s : State) : (request r s).gq = s.gq := by rfl
@[simp] theorem request_car (r : Req) (s : State) : (request r s).car = s.car := by rfl
@[simp] theorem request_upd (r : Req) (s : State) : (request r s).upd = s.upd := by rfl
@[simp] theorem request_free (r : Req) (s : State) : (request r s).free = s.free := by rfl
@[simp] theorem request_out (r : Req) (s : State) : (request r s).out = s.out := by rfl
@[simp] theorem request_pending (r : Req) (s : State) : (request r s).pending = s.pending := by rfl
@[simp] theorem get_request (f : Fld) (r : Req) (s : State) : get f (request r s) = get f s := by rfl

/-! ### Free values -/

@[simp] theorem spend_free (s : State) : (spend s).free = s.free + 1 := by rfl
@[simp] theorem spend_regs (s : State) : (spend s).regs = s.regs := by rfl
@[simp] theorem spend_shadows (s : State) : (spend s).shadows = s.shadows := by rfl
@[simp] theorem spend_pools (s : State) : (spend s).pools = s.pools := by rfl
@[simp] theorem spend_frm (s : State) : (spend s).frm = s.frm := by rfl
@[simp] theorem spend_hp (s : State) : (spend s).hp = s.hp := by rfl
@[simp] theorem spend_dram (s : State) : (spend s).dram = s.dram := by rfl
@[simp] theorem spend_mrv (s : State) : (spend s).mrv = s.mrv := by rfl
@[simp] theorem spend_txn (s : State) : (spend s).txn = s.txn := by rfl
@[simp] theorem spend_nand (s : State) : (spend s).nand = s.nand := by rfl
@[simp] theorem spend_sav (s : State) : (spend s).sav = s.sav := by rfl
@[simp] theorem spend_eng (s : State) : (spend s).eng = s.eng := by rfl
@[simp] theorem spend_rsr (s : State) : (spend s).rsr = s.rsr := by rfl
@[simp] theorem spend_twn (s : State) : (spend s).twn = s.twn := by rfl
@[simp] theorem spend_rng (s : State) : (spend s).rng = s.rng := by rfl
@[simp] theorem spend_pwr (s : State) : (spend s).pwr = s.pwr := by rfl
@[simp] theorem spend_flt (s : State) : (spend s).flt = s.flt := by rfl
@[simp] theorem spend_gq (s : State) : (spend s).gq = s.gq := by rfl
@[simp] theorem spend_car (s : State) : (spend s).car = s.car := by rfl
@[simp] theorem spend_upd (s : State) : (spend s).upd = s.upd := by rfl
@[simp] theorem spend_reqs (s : State) : (spend s).reqs = s.reqs := by rfl
@[simp] theorem spend_out (s : State) : (spend s).out = s.out := by rfl
@[simp] theorem spend_pending (s : State) : (spend s).pending = s.pending := by rfl
@[simp] theorem get_spend (f : Fld) (s : State) : get f (spend s) = get f s := by rfl

/-! ### Memory -/

@[simp] theorem writeByte_mem (a : Nat) (b : Byte) (s : State) :
    (writeByte a b s).dram.mem = put (0 : Byte) s.dram.mem a b := by rfl
@[simp] theorem writeByte_poisoned (a : Nat) (b : Byte) (s : State) :
    (writeByte a b s).dram.poisoned = s.dram.poisoned := by rfl
@[simp] theorem writeByte_regs (a : Nat) (b : Byte) (s : State) : (writeByte a b s).regs = s.regs := by rfl
@[simp] theorem writeByte_shadows (a : Nat) (b : Byte) (s : State) : (writeByte a b s).shadows = s.shadows := by rfl
@[simp] theorem writeByte_pools (a : Nat) (b : Byte) (s : State) : (writeByte a b s).pools = s.pools := by rfl
@[simp] theorem writeByte_frm (a : Nat) (b : Byte) (s : State) : (writeByte a b s).frm = s.frm := by rfl
@[simp] theorem writeByte_hp (a : Nat) (b : Byte) (s : State) : (writeByte a b s).hp = s.hp := by rfl
@[simp] theorem writeByte_mrv (a : Nat) (b : Byte) (s : State) : (writeByte a b s).mrv = s.mrv := by rfl
@[simp] theorem writeByte_txn (a : Nat) (b : Byte) (s : State) : (writeByte a b s).txn = s.txn := by rfl
@[simp] theorem writeByte_nand (a : Nat) (b : Byte) (s : State) : (writeByte a b s).nand = s.nand := by rfl
@[simp] theorem writeByte_sav (a : Nat) (b : Byte) (s : State) : (writeByte a b s).sav = s.sav := by rfl
@[simp] theorem writeByte_eng (a : Nat) (b : Byte) (s : State) : (writeByte a b s).eng = s.eng := by rfl
@[simp] theorem writeByte_rsr (a : Nat) (b : Byte) (s : State) : (writeByte a b s).rsr = s.rsr := by rfl
@[simp] theorem writeByte_twn (a : Nat) (b : Byte) (s : State) : (writeByte a b s).twn = s.twn := by rfl
@[simp] theorem writeByte_rng (a : Nat) (b : Byte) (s : State) : (writeByte a b s).rng = s.rng := by rfl
@[simp] theorem writeByte_pwr (a : Nat) (b : Byte) (s : State) : (writeByte a b s).pwr = s.pwr := by rfl
@[simp] theorem writeByte_flt (a : Nat) (b : Byte) (s : State) : (writeByte a b s).flt = s.flt := by rfl
@[simp] theorem writeByte_gq (a : Nat) (b : Byte) (s : State) : (writeByte a b s).gq = s.gq := by rfl
@[simp] theorem writeByte_car (a : Nat) (b : Byte) (s : State) : (writeByte a b s).car = s.car := by rfl
@[simp] theorem writeByte_upd (a : Nat) (b : Byte) (s : State) : (writeByte a b s).upd = s.upd := by rfl
@[simp] theorem writeByte_free (a : Nat) (b : Byte) (s : State) : (writeByte a b s).free = s.free := by rfl
@[simp] theorem writeByte_reqs (a : Nat) (b : Byte) (s : State) : (writeByte a b s).reqs = s.reqs := by rfl
@[simp] theorem writeByte_out (a : Nat) (b : Byte) (s : State) : (writeByte a b s).out = s.out := by rfl
@[simp] theorem writeByte_pending (a : Nat) (b : Byte) (s : State) : (writeByte a b s).pending = s.pending := by rfl
@[simp] theorem get_writeByte (f : Fld) (a : Nat) (b : Byte) (s : State) :
    get f (writeByte a b s) = get f s := by rfl

/-! ### The settings store -/

@[simp] theorem storeSetting_regs (f : Fld) (v : Nat) (s : State) : (storeSetting f v s).regs = s.regs := by rfl
@[simp] theorem storeSetting_shadows (f : Fld) (v : Nat) (s : State) : (storeSetting f v s).shadows = s.shadows := by rfl
@[simp] theorem storeSetting_pools (f : Fld) (v : Nat) (s : State) : (storeSetting f v s).pools = s.pools := by rfl
@[simp] theorem storeSetting_frm (f : Fld) (v : Nat) (s : State) : (storeSetting f v s).frm = s.frm := by rfl
@[simp] theorem storeSetting_hp (f : Fld) (v : Nat) (s : State) : (storeSetting f v s).hp = s.hp := by rfl
@[simp] theorem storeSetting_dram (f : Fld) (v : Nat) (s : State) : (storeSetting f v s).dram = s.dram := by rfl
@[simp] theorem storeSetting_mrv (f : Fld) (v : Nat) (s : State) : (storeSetting f v s).mrv = s.mrv := by rfl
@[simp] theorem storeSetting_txn (f : Fld) (v : Nat) (s : State) : (storeSetting f v s).txn = s.txn := by rfl
@[simp] theorem storeSetting_nand (f : Fld) (v : Nat) (s : State) : (storeSetting f v s).nand = s.nand := by rfl
@[simp] theorem storeSetting_sav (f : Fld) (v : Nat) (s : State) : (storeSetting f v s).sav = s.sav := by rfl
@[simp] theorem storeSetting_eng (f : Fld) (v : Nat) (s : State) : (storeSetting f v s).eng = s.eng := by rfl
@[simp] theorem storeSetting_rsr (f : Fld) (v : Nat) (s : State) : (storeSetting f v s).rsr = s.rsr := by rfl
@[simp] theorem storeSetting_twn (f : Fld) (v : Nat) (s : State) : (storeSetting f v s).twn = s.twn := by rfl
@[simp] theorem storeSetting_rng (f : Fld) (v : Nat) (s : State) : (storeSetting f v s).rng = s.rng := by rfl
@[simp] theorem storeSetting_pwr (f : Fld) (v : Nat) (s : State) : (storeSetting f v s).pwr = s.pwr := by rfl
@[simp] theorem storeSetting_flt (f : Fld) (v : Nat) (s : State) : (storeSetting f v s).flt = s.flt := by rfl
@[simp] theorem storeSetting_gq (f : Fld) (v : Nat) (s : State) : (storeSetting f v s).gq = s.gq := by rfl
@[simp] theorem storeSetting_car (f : Fld) (v : Nat) (s : State) : (storeSetting f v s).car = s.car := by rfl
@[simp] theorem storeSetting_free (f : Fld) (v : Nat) (s : State) : (storeSetting f v s).free = s.free := by rfl
@[simp] theorem storeSetting_reqs (f : Fld) (v : Nat) (s : State) : (storeSetting f v s).reqs = s.reqs := by rfl
@[simp] theorem storeSetting_out (f : Fld) (v : Nat) (s : State) : (storeSetting f v s).out = s.out := by rfl
@[simp] theorem storeSetting_pending (f : Fld) (v : Nat) (s : State) : (storeSetting f v s).pending = s.pending := by rfl
@[simp] theorem get_storeSetting (g f : Fld) (v : Nat) (s : State) :
    get g (storeSetting f v s) = get g s := by rfl

/-! ### The register file does not show the other fields -/

@[simp] theorem get_with_shadows (g : Fld) (x : List Shadow) (s : State) : get g { s with shadows := x } = get g s := by rfl
@[simp] theorem get_with_pools (g : Fld) (x : List Pool) (s : State) : get g { s with pools := x } = get g s := by rfl
@[simp] theorem get_with_frm (g : Fld) (x : Frm) (s : State) : get g { s with frm := x } = get g s := by rfl
@[simp] theorem get_with_hp (g : Fld) (x : Hp) (s : State) : get g { s with hp := x } = get g s := by rfl
@[simp] theorem get_with_dram (g : Fld) (x : Dram) (s : State) : get g { s with dram := x } = get g s := by rfl
@[simp] theorem get_with_mrv (g : Fld) (x : Mrv) (s : State) : get g { s with mrv := x } = get g s := by rfl
@[simp] theorem get_with_txn (g : Fld) (x : Txn) (s : State) : get g { s with txn := x } = get g s := by rfl
@[simp] theorem get_with_nand (g : Fld) (x : Nand) (s : State) : get g { s with nand := x } = get g s := by rfl
@[simp] theorem get_with_sav (g : Fld) (x : Sav) (s : State) : get g { s with sav := x } = get g s := by rfl
@[simp] theorem get_with_eng (g : Fld) (x : Eng) (s : State) : get g { s with eng := x } = get g s := by rfl
@[simp] theorem get_with_rsr (g : Fld) (x : Rsr) (s : State) : get g { s with rsr := x } = get g s := by rfl
@[simp] theorem get_with_twn (g : Fld) (x : Twn) (s : State) : get g { s with twn := x } = get g s := by rfl
@[simp] theorem get_with_rng (g : Fld) (x : Rng) (s : State) : get g { s with rng := x } = get g s := by rfl
@[simp] theorem get_with_pwr (g : Fld) (x : Pwr) (s : State) : get g { s with pwr := x } = get g s := by rfl
@[simp] theorem get_with_flt (g : Fld) (x : Flt) (s : State) : get g { s with flt := x } = get g s := by rfl
@[simp] theorem get_with_gq (g : Fld) (x : List Gather) (s : State) : get g { s with gq := x } = get g s := by rfl
@[simp] theorem get_with_car (g : Fld) (x : Car) (s : State) : get g { s with car := x } = get g s := by rfl
@[simp] theorem get_with_upd (g : Fld) (x : Upd) (s : State) : get g { s with upd := x } = get g s := by rfl
@[simp] theorem get_with_free (g : Fld) (x : Nat) (s : State) : get g { s with free := x } = get g s := by rfl
@[simp] theorem get_with_reqs (g : Fld) (x : List Req) (s : State) : get g { s with reqs := x } = get g s := by rfl
@[simp] theorem get_with_out (g : Fld) (x : List Out) (s : State) : get g { s with out := x } = get g s := by rfl
@[simp] theorem get_with_pending (g : Fld) (x : List Instr) (s : State) : get g { s with pending := x } = get g s := by rfl

end Sys2Proof.Machine
end

