-- ==== Sys2Proof/Laws/Settle.lean ====
section
/-! SUPPORT. What the end of every command can change: the persistence indication and its record, the dirty count and
its marks, and the interrupts. Everything else is as the command left it. -/

namespace Sys2Proof.Machine

/-- The end of a command changes only register fields named in `K`, queue 2, the parts of the ports and of the Lehr that
hold interrupts and marks, free values and what is sent. -/
structure Keeps (K : List Nat) (s t : State) : Prop where
  get : ∀ f : Fld, f.key ∉ K → get f t = get f s
  shadows : t.shadows = s.shadows
  pools : t.pools = s.pools
  frm : t.frm = s.frm
  dram : t.dram = s.dram
  txn : t.txn = s.txn
  nand : t.nand = s.nand
  sav : t.sav = s.sav
  eng : t.eng = s.eng
  rsr : t.rsr = s.rsr
  twn : t.twn = s.twn
  rng : t.rng = s.rng
  pwr : t.pwr = s.pwr
  flt : t.flt = s.flt
  car : t.car = s.car
  upd : t.upd = s.upd
  reqs : t.reqs = s.reqs
  pending : t.pending = s.pending
  hp : { t.hp with eventLog := [], holdoffs := [], msixPending := [], credits := [] } =
    { s.hp with eventLog := [], holdoffs := [], msixPending := [], credits := [] }
  mrv : { t.mrv with firstCompare := true, loCrossed := false, hiCrossed := false } =
    { s.mrv with firstCompare := true, loCrossed := false, hiCrossed := false }
  queue : ∀ q, q ≠ 2 → queue q t = queue q s
  held : (Machine.queue 2 s).held <+: (Machine.queue 2 t).held
  out : ∃ l, t.out = s.out ++ l

/-- What a change of GQ2 leaves of its words. -/
theorem held_modify (l : List Gather) (f : Gather → Gather) (hf : ∀ g, g.held <+: (f g).held) :
    (l.getD 2 {}).held <+: ((modify l 2 f).getD 2 {}).held := by
  by_cases h : 2 < l.length
  · rw [getD_modify_same l 2 f {} h]
    exact hf _
  · have e : modify l 2 f = l := by
      match l, h with
      | [], _ => rfl
      | [_], _ => rfl
      | [_, _], _ => rfl
      | a :: b :: c :: r, h => simp at h
    rw [e]

namespace Keeps

variable {K : List Nat} {s t u : State}

theorem refl (K : List Nat) (s : State) : Keeps K s s where
  get := fun _ _ => rfl
  shadows := rfl
  pools := rfl
  frm := rfl
  dram := rfl
  txn := rfl
  nand := rfl
  sav := rfl
  eng := rfl
  rsr := rfl
  twn := rfl
  rng := rfl
  pwr := rfl
  flt := rfl
  car := rfl
  upd := rfl
  reqs := rfl
  pending := rfl
  hp := rfl
  mrv := rfl
  queue := fun _ _ => rfl
  held := List.prefix_refl _
  out := ⟨[], by simp⟩

theorem trans (h : Keeps K s t) (k : Keeps K t u) : Keeps K s u where
  get := fun f hf => (k.get f hf).trans (h.get f hf)
  shadows := k.shadows.trans h.shadows
  pools := k.pools.trans h.pools
  frm := k.frm.trans h.frm
  dram := k.dram.trans h.dram
  txn := k.txn.trans h.txn
  nand := k.nand.trans h.nand
  sav := k.sav.trans h.sav
  eng := k.eng.trans h.eng
  rsr := k.rsr.trans h.rsr
  twn := k.twn.trans h.twn
  rng := k.rng.trans h.rng
  pwr := k.pwr.trans h.pwr
  flt := k.flt.trans h.flt
  car := k.car.trans h.car
  upd := k.upd.trans h.upd
  reqs := k.reqs.trans h.reqs
  pending := k.pending.trans h.pending
  hp := k.hp.trans h.hp
  mrv := k.mrv.trans h.mrv
  queue := fun q hq => (k.queue q hq).trans (h.queue q hq)
  held := h.held.trans k.held
  out := by
    obtain ⟨l, hl⟩ := h.out
    obtain ⟨m, hm⟩ := k.out
    exact ⟨l ++ m, by rw [hm, hl, List.append_assoc]⟩

/-- A step that leaves the register file and everything but `out`. -/
theorem ofOut (l : List Out) : Keeps K s { s with out := s.out ++ l } where
  get := fun _ _ => rfl
  shadows := rfl
  pools := rfl
  frm := rfl
  dram := rfl
  txn := rfl
  nand := rfl
  sav := rfl
  eng := rfl
  rsr := rfl
  twn := rfl
  rng := rfl
  pwr := rfl
  flt := rfl
  car := rfl
  upd := rfl
  reqs := rfl
  pending := rfl
  hp := rfl
  mrv := rfl
  queue := fun _ _ => rfl
  held := List.prefix_refl _
  out := ⟨l, rfl⟩

theorem ofSet (f : Fld) (v : Nat) (hf : f.key ∈ K) : Keeps K s (set f v s) where
  get := fun g hg => get_set_other v s (fun h => hg (h ▸ hf))
  shadows := rfl
  pools := rfl
  frm := rfl
  dram := rfl
  txn := rfl
  nand := rfl
  sav := rfl
  eng := rfl
  rsr := rfl
  twn := rfl
  rng := rfl
  pwr := rfl
  flt := rfl
  car := rfl
  upd := rfl
  reqs := rfl
  pending := rfl
  hp := rfl
  mrv := rfl
  queue := fun _ _ => rfl
  held := List.prefix_refl _
  out := ⟨[], by simp⟩

theorem ofHp (x : Hp) (h : { x with eventLog := [], holdoffs := [], msixPending := [], credits := [] } =
    { s.hp with eventLog := [], holdoffs := [], msixPending := [], credits := [] }) : Keeps K s { s with hp := x } where
  get := fun _ _ => rfl
  shadows := rfl
  pools := rfl
  frm := rfl
  dram := rfl
  txn := rfl
  nand := rfl
  sav := rfl
  eng := rfl
  rsr := rfl
  twn := rfl
  rng := rfl
  pwr := rfl
  flt := rfl
  car := rfl
  upd := rfl
  reqs := rfl
  pending := rfl
  hp := h
  mrv := rfl
  queue := fun _ _ => rfl
  held := List.prefix_refl _
  out := ⟨[], by simp⟩

theorem ofMrv (x : Mrv) (h : { x with firstCompare := true, loCrossed := false, hiCrossed := false } =
    { s.mrv with firstCompare := true, loCrossed := false, hiCrossed := false }) : Keeps K s { s with mrv := x } where
  get := fun _ _ => rfl
  shadows := rfl
  pools := rfl
  frm := rfl
  dram := rfl
  txn := rfl
  nand := rfl
  sav := rfl
  eng := rfl
  rsr := rfl
  twn := rfl
  rng := rfl
  pwr := rfl
  flt := rfl
  car := rfl
  upd := rfl
  reqs := rfl
  pending := rfl
  hp := rfl
  mrv := h
  queue := fun _ _ => rfl
  held := List.prefix_refl _
  out := ⟨[], by simp⟩

theorem ofSpend : Keeps K s (spend s) where
  get := fun _ _ => rfl
  shadows := rfl
  pools := rfl
  frm := rfl
  dram := rfl
  txn := rfl
  nand := rfl
  sav := rfl
  eng := rfl
  rsr := rfl
  twn := rfl
  rng := rfl
  pwr := rfl
  flt := rfl
  car := rfl
  upd := rfl
  reqs := rfl
  pending := rfl
  hp := rfl
  mrv := rfl
  queue := fun _ _ => rfl
  held := List.prefix_refl _
  out := ⟨[], by simp⟩

theorem ofQueue (f : Gather → Gather) (hf : ∀ g, g.held <+: (f g).held) : Keeps K s (setQueue 2 f s) where
  get := fun _ _ => rfl
  shadows := rfl
  pools := rfl
  frm := rfl
  dram := rfl
  txn := rfl
  nand := rfl
  sav := rfl
  eng := rfl
  rsr := rfl
  twn := rfl
  rng := rfl
  pwr := rfl
  flt := rfl
  car := rfl
  upd := rfl
  reqs := rfl
  pending := rfl
  hp := rfl
  mrv := rfl
  queue := fun q hq => getD_modify_other s.gq f {} (Ne.symm hq)
  held := held_modify s.gq f hf
  out := ⟨[], by simp [setQueue]⟩

theorem set (h : Keeps K s t) (f : Fld) (v : Nat) (hf : f.key ∈ K) : Keeps K s (set f v t) := h.trans (ofSet f v hf)

theorem inc (h : Keeps K s t) (f : Fld) (hf : f.key ∈ K) : Keeps K s (inc f t) := h.trans (ofSet f _ hf)

theorem event (h : Keeps K s t) (p k : Nat) (hf : (Reg.EVT_STS p k).key ∈ K) : Keeps K s (event p k t) :=
  h.trans (ofSet _ _ hf)

theorem live (h : Keeps K s t) (p k : Nat) (b : Bool) (hf : (Reg.EVT_LIVE p).key ∈ K) : Keeps K s (live p k b t) :=
  h.trans (ofSet _ _ hf)

theorem cond (h : Keeps K s t) (c : Bool) (f : State → State) (hf : ∀ u, Keeps K s u → Keeps K s (f u)) :
    Keeps K s (when c f t) :=
  when_keeps (Keeps K s) c f t h (hf t)

theorem each {α : Type} (h : Keeps K s t) (l : List α) (f : α → State → State)
    (hf : ∀ a u, Keeps K s u → Keeps K s (f a u)) : Keeps K s (forEach l f t) :=
  forEach_keeps (Keeps K s) l f t h (fun a _ u hu => hf a u hu)

end Keeps

/-! ### The fields that the end of a command can change -/

variable {s t : State}

/-! ### A record of GQ2 -/

theorem keeps_queueMarks (h : Keeps settleKeys s t) : Keeps settleKeys s (queueMarks 2 t) := by
  unfold queueMarks
  refine Keeps.live (Keeps.live (Keeps.trans (Keeps.cond (Keeps.cond h _ _ fun u hu => ?_) _ _ fun u hu => ?_)
    (Keeps.ofQueue _ fun _ => by simp)) _ _ _ (by decide)) _ _ _ (by decide)
  · exact (hu.event _ _ (by decide)).inc _ (by decide)
  · exact (hu.event _ _ (by decide)).inc _ (by decide)

theorem keeps_queueShow (h : Keeps settleKeys s t) : Keeps settleKeys s (queueShow 2 t) := by
  unfold queueShow
  exact keeps_queueMarks ((((((h.set _ _ (by decide)).set _ _ (by decide)).set _ _ (by decide)).set _ _
    (by decide)).live _ _ _ (by decide)).live _ _ _ (by decide))

theorem keeps_emitWide (h : Keeps settleKeys s t) (ws : List (BitVec 16)) (pad : Bool) :
    Keeps settleKeys s (emitWide 2 ws pad t) := by
  unfold emitWide
  exact Keeps.cond (Keeps.set (h.trans (Keeps.ofQueue _ fun _ => by simp)) _ _ (by decide)) _ _ fun u hu => hu.event _ _ (by decide)

theorem keeps_pushWord (h : Keeps settleKeys s t) (v : BitVec 16) : Keeps settleKeys s (pushWord 2 v t) := by
  unfold pushWord
  dsimp only
  split
  · exact keeps_emitWide (h.trans (Keeps.ofQueue _ fun _ => by simp)) _ _
  · exact h.trans (Keeps.ofQueue _ fun _ => by simp)

theorem keeps_pushWords (h : Keeps settleKeys s t) (ws : List (BitVec 16)) : Keeps settleKeys s (pushWords 2 ws t) := by
  unfold pushWords queueCredits
  exact keeps_queueShow ((Keeps.each (h.trans (Keeps.ofQueue _ fun _ => by simp)) _ _ fun v u hu => keeps_pushWord hu v).trans
    (Keeps.ofQueue _ fun _ => by simp))

theorem keeps_pushRecord (h : Keeps settleKeys s t) (r : List (BitVec 16)) : Keeps settleKeys s (pushRecord 2 r t) := by
  unfold pushRecord
  dsimp only
  split
  · exact h
  · rw [if_pos rfl]
    split
    · exact keeps_pushWords h r
    · exact ((h.trans (Keeps.ofQueue _ fun _ => by simp)).event 0xA2 3 (by decide)).live 0xA2 3 _ (by decide)

/-! ### The parts of `settle` -/

theorem keeps_domainOkShow (h : Keeps settleKeys s t) : Keeps settleKeys s (domainOkShow t) := by
  unfold domainOkShow
  split
  · exact h
  · exact (h.set _ _ (by decide)).set _ _ (by decide)

theorem keeps_withdrawalTime (h : Keeps settleKeys s t) : Keeps settleKeys s (withdrawalTime t) :=
  (h.set _ _ (by decide)).trans Keeps.ofSpend

theorem keeps_logEvent (h : Keeps settleKeys s t) (k : Nat) (l : List Nat) : Keeps settleKeys s (logEvent k l t) :=
  h.trans (Keeps.ofHp _ (by rfl))

theorem keeps_persistShow (h : Keeps settleKeys s t) : Keeps settleKeys s (persistShow t) := by
  unfold persistShow
  dsimp only
  split
  · exact h
  · refine keeps_pushRecord (Keeps.cond ((h.set _ _ (by decide)).set _ _ (by decide)) _ _ fun u hu => ?_) _
    refine Keeps.cond (keeps_logEvent ((hu.inc _ (by decide)).set _ _ (by decide)) _ _) _ _ fun v hv => ?_
    exact keeps_withdrawalTime hv

theorem keeps_throttleShow (h : Keeps settleKeys s t) (b : Bool) (n : Nat) :
    Keeps settleKeys s (throttleShow b n t) := by
  unfold throttleShow
  dsimp only
  split
  · exact h
  · exact Keeps.cond (h.set _ _ (by decide)) _ _ fun u hu => hu.event _ _ (by decide)

theorem keeps_withheldShow (h : Keeps settleKeys s t) : Keeps settleKeys s (withheldShow t) :=
  h.set Reg.LEH.THROTTLE_WITHHELD _ (by decide)

theorem keeps_marksShow (h : Keeps settleKeys s t) : Keeps settleKeys s (marksShow t) := by
  unfold marksShow
  split
  · exact h
  · have hd := h.set Reg.LEH.DIRTY_EFF_GRAN (dirtyEff t) (by decide)
    refine Keeps.set (keeps_withheldShow (keeps_throttleShow ?_ _ _)) (Reg.EVT_LIVE 0x41) _ (by decide)
    split
    · exact hd.trans (Keeps.ofMrv _ (by rfl))
    · refine Keeps.cond (Keeps.cond (Keeps.cond (Keeps.cond (hd.trans (Keeps.ofMrv _ (by rfl))) _ _ fun u hu => ?_) _ _
        fun u hu => ?_) _ _ fun u hu => ?_) _ _ fun u hu => ?_
      · exact (hu.event 0x41 0 (by decide)).inc Reg.LEH.WM_CROSSINGS_LO (by decide)
      · exact (hu.event 0x41 1 (by decide)).inc Reg.LEH.WM_CROSSINGS_HI (by decide)
      · exact hu.event 0x41 2 (by decide)
      · exact hu.event 0x41 4 (by decide)

theorem keeps_creditsShow (h : Keeps settleKeys s t) : Keeps settleKeys s (creditsShow t) := by
  unfold creditsShow
  dsimp only
  split
  · exact h
  · exact h.trans (Keeps.ofHp _ (by rfl))

theorem keeps_sendVector (h : Keeps settleKeys s t) (v : Nat) : Keeps settleKeys s (sendVector v t) := by
  unfold sendVector
  dsimp only
  split
  · split
    · exact h
    · exact h.trans (Keeps.ofHp _ (by rfl))
  · exact (h.trans (Keeps.ofOut _)).inc Reg.IRQ.SENT_COUNT (by decide)

theorem keeps_dueVector (h : Keeps settleKeys s t) (v : Nat) : Keeps settleKeys s (dueVector v t) := by
  unfold dueVector
  split
  · exact Keeps.inc (h.trans (Keeps.ofHp _ (by rfl))) Reg.IRQ.MERGED_COUNT (by decide)
  · exact Keeps.cond (keeps_sendVector h v) _ _ fun u hu => hu.trans (Keeps.ofHp _ (by rfl))

theorem keeps_interrupts (h : Keeps settleKeys s t) (b : State) : Keeps settleKeys s (interrupts b t) := by
  unfold interrupts
  refine Keeps.each h _ _ fun e u hu => ?_
  unfold deliver
  exact Keeps.cond (Keeps.cond hu _ _ fun v hv => keeps_dueVector hv _) _ _ fun v hv => hv.trans (Keeps.ofOut _)

/-- A command without a reaction leaves, beyond what `settleKeys` names, exactly what its effect left. -/
theorem settle_keeps (before t : State) (h : t.reqs = []) : Keeps settleKeys t (settle before t) := by
  have hr : reactions t = t := by simp [reactions, h]
  unfold settle
  rw [hr]
  exact keeps_interrupts (keeps_creditsShow (keeps_marksShow (keeps_persistShow (keeps_domainOkShow (Keeps.refl _ t)))))
    before

/-- A field that `settleKeys` does not name reads after a command what its effect stored. -/
theorem get_settle {f : Fld} (before t : State) (h : t.reqs = []) (hf : f.key ∉ settleKeys) :
    get f (settle before t) = get f t := (settle_keeps before t h).get f hf

theorem settle_shadows (before t : State) (h : t.reqs = []) : (settle before t).shadows = t.shadows :=
  (settle_keeps before t h).shadows
theorem settle_pools (before t : State) (h : t.reqs = []) : (settle before t).pools = t.pools :=
  (settle_keeps before t h).pools
theorem settle_frm (before t : State) (h : t.reqs = []) : (settle before t).frm = t.frm :=
  (settle_keeps before t h).frm
theorem settle_dram (before t : State) (h : t.reqs = []) : (settle before t).dram = t.dram :=
  (settle_keeps before t h).dram
theorem settle_txn (before t : State) (h : t.reqs = []) : (settle before t).txn = t.txn :=
  (settle_keeps before t h).txn
theorem settle_nand (before t : State) (h : t.reqs = []) : (settle before t).nand = t.nand :=
  (settle_keeps before t h).nand
theorem settle_sav (before t : State) (h : t.reqs = []) : (settle before t).sav = t.sav :=
  (settle_keeps before t h).sav
theorem settle_eng (before t : State) (h : t.reqs = []) : (settle before t).eng = t.eng :=
  (settle_keeps before t h).eng
theorem settle_rsr (before t : State) (h : t.reqs = []) : (settle before t).rsr = t.rsr :=
  (settle_keeps before t h).rsr
theorem settle_twn (before t : State) (h : t.reqs = []) : (settle before t).twn = t.twn :=
  (settle_keeps before t h).twn
theorem settle_rng (before t : State) (h : t.reqs = []) : (settle before t).rng = t.rng :=
  (settle_keeps before t h).rng
theorem settle_pwr (before t : State) (h : t.reqs = []) : (settle before t).pwr = t.pwr :=
  (settle_keeps before t h).pwr
theorem settle_flt (before t : State) (h : t.reqs = []) : (settle before t).flt = t.flt :=
  (settle_keeps before t h).flt
theorem settle_car (before t : State) (h : t.reqs = []) : (settle before t).car = t.car :=
  (settle_keeps before t h).car
theorem settle_upd (before t : State) (h : t.reqs = []) : (settle before t).upd = t.upd :=
  (settle_keeps before t h).upd
theorem settle_reqs (before t : State) (h : t.reqs = []) : (settle before t).reqs = t.reqs :=
  (settle_keeps before t h).reqs
theorem settle_pending (before t : State) (h : t.reqs = []) : (settle before t).pending = t.pending :=
  (settle_keeps before t h).pending

/-- Every command ends with no reaction left open (R404). -/
theorem reactions_reqs (t : State) : (reactions t).reqs = [] := by
  unfold reactions
  split
  · rename_i h
    exact List.isEmpty_iff.1 h
  · rfl

theorem settle_reqs_empty (before t : State) : (settle before t).reqs = [] := by
  have h := keeps_interrupts (keeps_creditsShow (keeps_marksShow (keeps_persistShow (keeps_domainOkShow
    (Keeps.refl settleKeys (reactions t)))))) before
  exact h.reqs.trans (reactions_reqs t)

/-! ### The form of every meaning -/

/-- With VAON present a command runs its effect and the end of the command. -/
theorem run_next (f : State → State) (s : State) (h : s.pwr.vaon = true) :
    run f s = .next (settle s (f { s with out := [] })) := by
  simp [run, runAlways, h]

/-- Without VAON nothing works: the state stays, and nothing is sent (R83, R507). -/
theorem run_dark (f : State → State) (s : State) (h : s.pwr.vaon = false) :
    run f s = .next { s with out := [] } := by
  simp [run, h]

/-- Every meaning of the form `run` answers a next state. -/
theorem run_answers (f : State → State) (s : State) : ∃ t, run f s = .next t := by
  cases h : s.pwr.vaon
  · exact ⟨_, run_dark f s h⟩
  · exact ⟨_, run_next f s h⟩

end Sys2Proof.Machine
end

