-- ==== Sys2Proof/Laws/Changes.lean ====
section
/-! SUPPORT. How frames are put together: one law per basic update, one for the end of a command, and what a raise can
change. -/

namespace Sys2Proof.Machine

namespace Changes

variable {ps : List Part} {fs : List Fld} {s t u : State}

theorem refl (ps : List Part) (fs : List Fld) (s : State) : Changes ps fs s s where
  regs := fun _ _ _ => rfl
  shadows := fun _ => rfl
  pools := fun _ => rfl
  frm := fun _ => rfl
  hp := fun _ => rfl
  dram := fun _ => rfl
  mrv := fun _ => rfl
  txn := fun _ => rfl
  nand := fun _ => rfl
  sav := fun _ => rfl
  eng := fun _ => rfl
  rsr := fun _ => rfl
  twn := fun _ => rfl
  rng := fun _ => rfl
  pwr := fun _ => rfl
  flt := fun _ => rfl
  gq := fun _ _ _ => rfl
  journal := fun _ => List.prefix_refl _
  car := fun _ => rfl
  upd := fun _ => rfl
  reqs := rfl
  pending := rfl

theorem trans (h : Changes ps fs s t) (k : Changes ps fs t u) : Changes ps fs s u where
  regs := fun f h1 h2 => (k.regs f h1 h2).trans (h.regs f h1 h2)
  shadows := fun hp => (k.shadows hp).trans (h.shadows hp)
  pools := fun hp => (k.pools hp).trans (h.pools hp)
  frm := fun hp => (k.frm hp).trans (h.frm hp)
  hp := fun hp => (k.hp hp).trans (h.hp hp)
  dram := fun hp => (k.dram hp).trans (h.dram hp)
  mrv := fun hp => (k.mrv hp).trans (h.mrv hp)
  txn := fun hp => (k.txn hp).trans (h.txn hp)
  nand := fun hp => (k.nand hp).trans (h.nand hp)
  sav := fun hp => (k.sav hp).trans (h.sav hp)
  eng := fun hp => (k.eng hp).trans (h.eng hp)
  rsr := fun hp => (k.rsr hp).trans (h.rsr hp)
  twn := fun hp => (k.twn hp).trans (h.twn hp)
  rng := fun hp => (k.rng hp).trans (h.rng hp)
  pwr := fun hp => (k.pwr hp).trans (h.pwr hp)
  flt := fun hp => (k.flt hp).trans (h.flt hp)
  gq := fun hp q hq => (k.gq hp q hq).trans (h.gq hp q hq)
  journal := fun hp => (h.journal hp).trans (k.journal hp)
  car := fun hp => (k.car hp).trans (h.car hp)
  upd := fun hp => (k.upd hp).trans (h.upd hp)
  reqs := k.reqs.trans h.reqs
  pending := k.pending.trans h.pending

/-- A frame may name more than what changes. -/
theorem mono {qs : List Part} {gs : List Fld} (h : Changes ps fs s t) (hp : ∀ p ∈ ps, p ∈ qs)
    (hf : ∀ k ∈ fs.map Fld.key, k ∈ gs.map Fld.key) : Changes qs gs s t where
  regs := fun f h1 h2 => h.regs f (fun h => h1 (hf _ h)) h2
  shadows := fun h1 => h.shadows (fun h => h1 (hp _ h))
  pools := fun h1 => h.pools (fun h => h1 (hp _ h))
  frm := fun h1 => h.frm (fun h => h1 (hp _ h))
  hp := fun h1 => h.hp (fun h => h1 (hp _ h))
  dram := fun h1 => h.dram (fun h => h1 (hp _ h))
  mrv := fun h1 => h.mrv (fun h => h1 (hp _ h))
  txn := fun h1 => h.txn (fun h => h1 (hp _ h))
  nand := fun h1 => h.nand (fun h => h1 (hp _ h))
  sav := fun h1 => h.sav (fun h => h1 (hp _ h))
  eng := fun h1 => h.eng (fun h => h1 (hp _ h))
  rsr := fun h1 => h.rsr (fun h => h1 (hp _ h))
  twn := fun h1 => h.twn (fun h => h1 (hp _ h))
  rng := fun h1 => h.rng (fun h => h1 (hp _ h))
  pwr := fun h1 => h.pwr (fun h => h1 (hp _ h))
  flt := fun h1 => h.flt (fun h => h1 (hp _ h))
  gq := fun h1 => h.gq (fun h => h1 (hp _ h))
  journal := fun h1 => h.journal (fun h => h1 (hp _ h))
  car := fun h1 => h.car (fun h => h1 (hp _ h))
  upd := fun h1 => h.upd (fun h => h1 (hp _ h))
  reqs := h.reqs
  pending := h.pending

theorem put (f : Fld) (v : Nat) (hf : f.key ∈ fs.map Fld.key) : Changes ps fs s (Machine.set f v s) where
  regs := fun _ h _ => get_set_other v s (fun e => h (e ▸ hf))
  shadows := fun _ => rfl
  pools := fun _ => rfl
  frm := fun _ => rfl
  hp := fun _ => rfl
  dram := fun _ => rfl
  mrv := fun _ => rfl
  txn := fun _ => rfl
  nand := fun _ => rfl
  sav := fun _ => rfl
  eng := fun _ => rfl
  rsr := fun _ => rfl
  twn := fun _ => rfl
  rng := fun _ => rfl
  pwr := fun _ => rfl
  flt := fun _ => rfl
  gq := fun _ _ _ => rfl
  journal := fun _ => List.prefix_refl _
  car := fun _ => rfl
  upd := fun _ => rfl
  reqs := rfl
  pending := rfl

/-- A field that is named takes a value. -/
theorem set (h : Changes ps fs s t) (f : Fld) (v : Nat) (hf : f.key ∈ fs.map Fld.key) :
    Changes ps fs s (Machine.set f v t) := h.trans (put f v hf)

theorem put1 (h : Changes ps fs s t) (f : Fld) (b : Bool) (hf : f.key ∈ fs.map Fld.key) :
    Changes ps fs s (Machine.put1 f b t) := h.trans (put f _ hf)

theorem inc (h : Changes ps fs s t) (f : Fld) (hf : f.key ∈ fs.map Fld.key) :
    Changes ps fs s (Machine.inc f t) := h.trans (put f _ hf)

theorem count (h : Changes ps fs s t) (f : Fld) (k : Nat) (hf : f.key ∈ fs.map Fld.key) :
    Changes ps fs s (Machine.count f k t) := h.trans (put f _ hf)

theorem event (h : Changes ps fs s t) (p k : Nat) (hf : (Reg.EVT_STS p k).key ∈ fs.map Fld.key) :
    Changes ps fs s (Machine.event p k t) := h.trans (put _ _ hf)

theorem live (h : Changes ps fs s t) (p k : Nat) (b : Bool) (hf : (Reg.EVT_LIVE p).key ∈ fs.map Fld.key) :
    Changes ps fs s (Machine.live p k b t) := h.trans (put _ _ hf)

theorem cond (h : Changes ps fs s t) (c : Bool) (f : State → State) (hf : ∀ u, Changes ps fs s u → Changes ps fs s (f u)) :
    Changes ps fs s (when c f t) :=
  when_keeps (Changes ps fs s) c f t h (hf t)

theorem each {α : Type} (h : Changes ps fs s t) (l : List α) (f : α → State → State)
    (hf : ∀ a ∈ l, ∀ u, Changes ps fs s u → Changes ps fs s (f a u)) : Changes ps fs s (forEach l f t) :=
  forEach_keeps (Changes ps fs s) l f t h (fun a ha u hu => hf a ha u hu)

theorem branch (c : Prop) [Decidable c] (h : Changes ps fs s t) (k : Changes ps fs s u) :
    Changes ps fs s (if c then t else u) := by
  split
  · exact h
  · exact k

/-- Free values are used up. -/
theorem free (h : Changes ps fs s t) (n : Nat) : Changes ps fs s { t with free := n } :=
  h.trans {
    regs := fun _ _ _ => rfl
    shadows := fun _ => rfl
    pools := fun _ => rfl
    frm := fun _ => rfl
    hp := fun _ => rfl
    dram := fun _ => rfl
    mrv := fun _ => rfl
    txn := fun _ => rfl
    nand := fun _ => rfl
    sav := fun _ => rfl
    eng := fun _ => rfl
    rsr := fun _ => rfl
    twn := fun _ => rfl
    rng := fun _ => rfl
    pwr := fun _ => rfl
    flt := fun _ => rfl
    gq := fun _ _ _ => rfl
    journal := fun _ => List.prefix_refl _
    car := fun _ => rfl
    upd := fun _ => rfl
    reqs := rfl
    pending := rfl
  }

/-- Something is sent. -/
theorem out (h : Changes ps fs s t) (l : List Out) : Changes ps fs s { t with out := l } :=
  h.trans {
    regs := fun _ _ _ => rfl
    shadows := fun _ => rfl
    pools := fun _ => rfl
    frm := fun _ => rfl
    hp := fun _ => rfl
    dram := fun _ => rfl
    mrv := fun _ => rfl
    txn := fun _ => rfl
    nand := fun _ => rfl
    sav := fun _ => rfl
    eng := fun _ => rfl
    rsr := fun _ => rfl
    twn := fun _ => rfl
    rng := fun _ => rfl
    pwr := fun _ => rfl
    flt := fun _ => rfl
    gq := fun _ _ _ => rfl
    journal := fun _ => List.prefix_refl _
    car := fun _ => rfl
    upd := fun _ => rfl
    reqs := rfl
    pending := rfl
  }

/-- `shadows` changes where the frame names it. -/
theorem in_shadows (h : Changes ps fs s t) (x : List Shadow) (hx : .shadows ∈ ps) : Changes ps fs s { t with shadows := x } :=
  h.trans {
    regs := fun _ _ _ => rfl
    shadows := fun h => absurd hx h
    pools := fun _ => rfl
    frm := fun _ => rfl
    hp := fun _ => rfl
    dram := fun _ => rfl
    mrv := fun _ => rfl
    txn := fun _ => rfl
    nand := fun _ => rfl
    sav := fun _ => rfl
    eng := fun _ => rfl
    rsr := fun _ => rfl
    twn := fun _ => rfl
    rng := fun _ => rfl
    pwr := fun _ => rfl
    flt := fun _ => rfl
    gq := fun _ _ _ => rfl
    journal := fun _ => List.prefix_refl _
    car := fun _ => rfl
    upd := fun _ => rfl
    reqs := rfl
    pending := rfl
  }

/-- `pools` changes where the frame names it. -/
theorem in_pools (h : Changes ps fs s t) (x : List Pool) (hx : .pools ∈ ps) : Changes ps fs s { t with pools := x } :=
  h.trans {
    regs := fun _ _ _ => rfl
    shadows := fun _ => rfl
    pools := fun h => absurd hx h
    frm := fun _ => rfl
    hp := fun _ => rfl
    dram := fun _ => rfl
    mrv := fun _ => rfl
    txn := fun _ => rfl
    nand := fun _ => rfl
    sav := fun _ => rfl
    eng := fun _ => rfl
    rsr := fun _ => rfl
    twn := fun _ => rfl
    rng := fun _ => rfl
    pwr := fun _ => rfl
    flt := fun _ => rfl
    gq := fun _ _ _ => rfl
    journal := fun _ => List.prefix_refl _
    car := fun _ => rfl
    upd := fun _ => rfl
    reqs := rfl
    pending := rfl
  }

/-- `frm` changes where the frame names it. -/
theorem in_frm (h : Changes ps fs s t) (x : Frm) (hx : .frm ∈ ps) : Changes ps fs s { t with frm := x } :=
  h.trans {
    regs := fun _ _ _ => rfl
    shadows := fun _ => rfl
    pools := fun _ => rfl
    frm := fun h => absurd hx h
    hp := fun _ => rfl
    dram := fun _ => rfl
    mrv := fun _ => rfl
    txn := fun _ => rfl
    nand := fun _ => rfl
    sav := fun _ => rfl
    eng := fun _ => rfl
    rsr := fun _ => rfl
    twn := fun _ => rfl
    rng := fun _ => rfl
    pwr := fun _ => rfl
    flt := fun _ => rfl
    gq := fun _ _ _ => rfl
    journal := fun _ => List.prefix_refl _
    car := fun _ => rfl
    upd := fun _ => rfl
    reqs := rfl
    pending := rfl
  }

/-- `hp` changes where the frame names it. -/
theorem in_hp (h : Changes ps fs s t) (x : Hp) (hx : .hp ∈ ps) : Changes ps fs s { t with hp := x } :=
  h.trans {
    regs := fun _ _ _ => rfl
    shadows := fun _ => rfl
    pools := fun _ => rfl
    frm := fun _ => rfl
    hp := fun h => absurd hx h
    dram := fun _ => rfl
    mrv := fun _ => rfl
    txn := fun _ => rfl
    nand := fun _ => rfl
    sav := fun _ => rfl
    eng := fun _ => rfl
    rsr := fun _ => rfl
    twn := fun _ => rfl
    rng := fun _ => rfl
    pwr := fun _ => rfl
    flt := fun _ => rfl
    gq := fun _ _ _ => rfl
    journal := fun _ => List.prefix_refl _
    car := fun _ => rfl
    upd := fun _ => rfl
    reqs := rfl
    pending := rfl
  }

/-- `dram` changes where the frame names it. -/
theorem in_dram (h : Changes ps fs s t) (x : Dram) (hx : .dram ∈ ps) : Changes ps fs s { t with dram := x } :=
  h.trans {
    regs := fun _ _ _ => rfl
    shadows := fun _ => rfl
    pools := fun _ => rfl
    frm := fun _ => rfl
    hp := fun _ => rfl
    dram := fun h => absurd hx h
    mrv := fun _ => rfl
    txn := fun _ => rfl
    nand := fun _ => rfl
    sav := fun _ => rfl
    eng := fun _ => rfl
    rsr := fun _ => rfl
    twn := fun _ => rfl
    rng := fun _ => rfl
    pwr := fun _ => rfl
    flt := fun _ => rfl
    gq := fun _ _ _ => rfl
    journal := fun _ => List.prefix_refl _
    car := fun _ => rfl
    upd := fun _ => rfl
    reqs := rfl
    pending := rfl
  }

/-- `mrv` changes where the frame names it. -/
theorem in_mrv (h : Changes ps fs s t) (x : Mrv) (hx : .mrv ∈ ps) : Changes ps fs s { t with mrv := x } :=
  h.trans {
    regs := fun _ _ _ => rfl
    shadows := fun _ => rfl
    pools := fun _ => rfl
    frm := fun _ => rfl
    hp := fun _ => rfl
    dram := fun _ => rfl
    mrv := fun h => absurd hx h
    txn := fun _ => rfl
    nand := fun _ => rfl
    sav := fun _ => rfl
    eng := fun _ => rfl
    rsr := fun _ => rfl
    twn := fun _ => rfl
    rng := fun _ => rfl
    pwr := fun _ => rfl
    flt := fun _ => rfl
    gq := fun _ _ _ => rfl
    journal := fun _ => List.prefix_refl _
    car := fun _ => rfl
    upd := fun _ => rfl
    reqs := rfl
    pending := rfl
  }

/-- `txn` changes where the frame names it. -/
theorem in_txn (h : Changes ps fs s t) (x : Txn) (hx : .txn ∈ ps) : Changes ps fs s { t with txn := x } :=
  h.trans {
    regs := fun _ _ _ => rfl
    shadows := fun _ => rfl
    pools := fun _ => rfl
    frm := fun _ => rfl
    hp := fun _ => rfl
    dram := fun _ => rfl
    mrv := fun _ => rfl
    txn := fun h => absurd hx h
    nand := fun _ => rfl
    sav := fun _ => rfl
    eng := fun _ => rfl
    rsr := fun _ => rfl
    twn := fun _ => rfl
    rng := fun _ => rfl
    pwr := fun _ => rfl
    flt := fun _ => rfl
    gq := fun _ _ _ => rfl
    journal := fun _ => List.prefix_refl _
    car := fun _ => rfl
    upd := fun _ => rfl
    reqs := rfl
    pending := rfl
  }

/-- `nand` changes where the frame names it. -/
theorem in_nand (h : Changes ps fs s t) (x : Nand) (hx : .nand ∈ ps) : Changes ps fs s { t with nand := x } :=
  h.trans {
    regs := fun _ _ _ => rfl
    shadows := fun _ => rfl
    pools := fun _ => rfl
    frm := fun _ => rfl
    hp := fun _ => rfl
    dram := fun _ => rfl
    mrv := fun _ => rfl
    txn := fun _ => rfl
    nand := fun h => absurd hx h
    sav := fun _ => rfl
    eng := fun _ => rfl
    rsr := fun _ => rfl
    twn := fun _ => rfl
    rng := fun _ => rfl
    pwr := fun _ => rfl
    flt := fun _ => rfl
    gq := fun _ _ _ => rfl
    journal := fun _ => List.prefix_refl _
    car := fun _ => rfl
    upd := fun _ => rfl
    reqs := rfl
    pending := rfl
  }

/-- `sav` changes where the frame names it. -/
theorem in_sav (h : Changes ps fs s t) (x : Sav) (hx : .sav ∈ ps) : Changes ps fs s { t with sav := x } :=
  h.trans {
    regs := fun _ _ _ => rfl
    shadows := fun _ => rfl
    pools := fun _ => rfl
    frm := fun _ => rfl
    hp := fun _ => rfl
    dram := fun _ => rfl
    mrv := fun _ => rfl
    txn := fun _ => rfl
    nand := fun _ => rfl
    sav := fun h => absurd hx h
    eng := fun _ => rfl
    rsr := fun _ => rfl
    twn := fun _ => rfl
    rng := fun _ => rfl
    pwr := fun _ => rfl
    flt := fun _ => rfl
    gq := fun _ _ _ => rfl
    journal := fun _ => List.prefix_refl _
    car := fun _ => rfl
    upd := fun _ => rfl
    reqs := rfl
    pending := rfl
  }

/-- `eng` changes where the frame names it. -/
theorem in_eng (h : Changes ps fs s t) (x : Eng) (hx : .eng ∈ ps) : Changes ps fs s { t with eng := x } :=
  h.trans {
    regs := fun _ _ _ => rfl
    shadows := fun _ => rfl
    pools := fun _ => rfl
    frm := fun _ => rfl
    hp := fun _ => rfl
    dram := fun _ => rfl
    mrv := fun _ => rfl
    txn := fun _ => rfl
    nand := fun _ => rfl
    sav := fun _ => rfl
    eng := fun h => absurd hx h
    rsr := fun _ => rfl
    twn := fun _ => rfl
    rng := fun _ => rfl
    pwr := fun _ => rfl
    flt := fun _ => rfl
    gq := fun _ _ _ => rfl
    journal := fun _ => List.prefix_refl _
    car := fun _ => rfl
    upd := fun _ => rfl
    reqs := rfl
    pending := rfl
  }

/-- `rsr` changes where the frame names it. -/
theorem in_rsr (h : Changes ps fs s t) (x : Rsr) (hx : .rsr ∈ ps) : Changes ps fs s { t with rsr := x } :=
  h.trans {
    regs := fun _ _ _ => rfl
    shadows := fun _ => rfl
    pools := fun _ => rfl
    frm := fun _ => rfl
    hp := fun _ => rfl
    dram := fun _ => rfl
    mrv := fun _ => rfl
    txn := fun _ => rfl
    nand := fun _ => rfl
    sav := fun _ => rfl
    eng := fun _ => rfl
    rsr := fun h => absurd hx h
    twn := fun _ => rfl
    rng := fun _ => rfl
    pwr := fun _ => rfl
    flt := fun _ => rfl
    gq := fun _ _ _ => rfl
    journal := fun _ => List.prefix_refl _
    car := fun _ => rfl
    upd := fun _ => rfl
    reqs := rfl
    pending := rfl
  }

/-- `twn` changes where the frame names it. -/
theorem in_twn (h : Changes ps fs s t) (x : Twn) (hx : .twn ∈ ps) : Changes ps fs s { t with twn := x } :=
  h.trans {
    regs := fun _ _ _ => rfl
    shadows := fun _ => rfl
    pools := fun _ => rfl
    frm := fun _ => rfl
    hp := fun _ => rfl
    dram := fun _ => rfl
    mrv := fun _ => rfl
    txn := fun _ => rfl
    nand := fun _ => rfl
    sav := fun _ => rfl
    eng := fun _ => rfl
    rsr := fun _ => rfl
    twn := fun h => absurd hx h
    rng := fun _ => rfl
    pwr := fun _ => rfl
    flt := fun _ => rfl
    gq := fun _ _ _ => rfl
    journal := fun _ => List.prefix_refl _
    car := fun _ => rfl
    upd := fun _ => rfl
    reqs := rfl
    pending := rfl
  }

/-- `rng` changes where the frame names it. -/
theorem in_rng (h : Changes ps fs s t) (x : Rng) (hx : .rng ∈ ps) : Changes ps fs s { t with rng := x } :=
  h.trans {
    regs := fun _ _ _ => rfl
    shadows := fun _ => rfl
    pools := fun _ => rfl
    frm := fun _ => rfl
    hp := fun _ => rfl
    dram := fun _ => rfl
    mrv := fun _ => rfl
    txn := fun _ => rfl
    nand := fun _ => rfl
    sav := fun _ => rfl
    eng := fun _ => rfl
    rsr := fun _ => rfl
    twn := fun _ => rfl
    rng := fun h => absurd hx h
    pwr := fun _ => rfl
    flt := fun _ => rfl
    gq := fun _ _ _ => rfl
    journal := fun _ => List.prefix_refl _
    car := fun _ => rfl
    upd := fun _ => rfl
    reqs := rfl
    pending := rfl
  }

/-- `pwr` changes where the frame names it. -/
theorem in_pwr (h : Changes ps fs s t) (x : Pwr) (hx : .pwr ∈ ps) : Changes ps fs s { t with pwr := x } :=
  h.trans {
    regs := fun _ _ _ => rfl
    shadows := fun _ => rfl
    pools := fun _ => rfl
    frm := fun _ => rfl
    hp := fun _ => rfl
    dram := fun _ => rfl
    mrv := fun _ => rfl
    txn := fun _ => rfl
    nand := fun _ => rfl
    sav := fun _ => rfl
    eng := fun _ => rfl
    rsr := fun _ => rfl
    twn := fun _ => rfl
    rng := fun _ => rfl
    pwr := fun h => absurd hx h
    flt := fun _ => rfl
    gq := fun _ _ _ => rfl
    journal := fun _ => List.prefix_refl _
    car := fun _ => rfl
    upd := fun _ => rfl
    reqs := rfl
    pending := rfl
  }

/-- `flt` changes where the frame names it. -/
theorem in_flt (h : Changes ps fs s t) (x : Flt) (hx : .flt ∈ ps) : Changes ps fs s { t with flt := x } :=
  h.trans {
    regs := fun _ _ _ => rfl
    shadows := fun _ => rfl
    pools := fun _ => rfl
    frm := fun _ => rfl
    hp := fun _ => rfl
    dram := fun _ => rfl
    mrv := fun _ => rfl
    txn := fun _ => rfl
    nand := fun _ => rfl
    sav := fun _ => rfl
    eng := fun _ => rfl
    rsr := fun _ => rfl
    twn := fun _ => rfl
    rng := fun _ => rfl
    pwr := fun _ => rfl
    flt := fun h => absurd hx h
    gq := fun _ _ _ => rfl
    journal := fun _ => List.prefix_refl _
    car := fun _ => rfl
    upd := fun _ => rfl
    reqs := rfl
    pending := rfl
  }

/-- `gq` changes where the frame names it. -/
theorem in_gq (h : Changes ps fs s t) (x : List Gather) (hx : .gq ∈ ps) : Changes ps fs s { t with gq := x } :=
  h.trans {
    regs := fun _ _ _ => rfl
    shadows := fun _ => rfl
    pools := fun _ => rfl
    frm := fun _ => rfl
    hp := fun _ => rfl
    dram := fun _ => rfl
    mrv := fun _ => rfl
    txn := fun _ => rfl
    nand := fun _ => rfl
    sav := fun _ => rfl
    eng := fun _ => rfl
    rsr := fun _ => rfl
    twn := fun _ => rfl
    rng := fun _ => rfl
    pwr := fun _ => rfl
    flt := fun _ => rfl
    gq := fun h => absurd hx h
    journal := fun h => absurd hx h
    car := fun _ => rfl
    upd := fun _ => rfl
    reqs := rfl
    pending := rfl
  }

/-- `car` changes where the frame names it. -/
theorem in_car (h : Changes ps fs s t) (x : Car) (hx : .car ∈ ps) : Changes ps fs s { t with car := x } :=
  h.trans {
    regs := fun _ _ _ => rfl
    shadows := fun _ => rfl
    pools := fun _ => rfl
    frm := fun _ => rfl
    hp := fun _ => rfl
    dram := fun _ => rfl
    mrv := fun _ => rfl
    txn := fun _ => rfl
    nand := fun _ => rfl
    sav := fun _ => rfl
    eng := fun _ => rfl
    rsr := fun _ => rfl
    twn := fun _ => rfl
    rng := fun _ => rfl
    pwr := fun _ => rfl
    flt := fun _ => rfl
    gq := fun _ _ _ => rfl
    journal := fun _ => List.prefix_refl _
    car := fun h => absurd hx h
    upd := fun _ => rfl
    reqs := rfl
    pending := rfl
  }

/-- `upd` changes where the frame names it. -/
theorem in_upd (h : Changes ps fs s t) (x : Upd) (hx : .upd ∈ ps) : Changes ps fs s { t with upd := x } :=
  h.trans {
    regs := fun _ _ _ => rfl
    shadows := fun _ => rfl
    pools := fun _ => rfl
    frm := fun _ => rfl
    hp := fun _ => rfl
    dram := fun _ => rfl
    mrv := fun _ => rfl
    txn := fun _ => rfl
    nand := fun _ => rfl
    sav := fun _ => rfl
    eng := fun _ => rfl
    rsr := fun _ => rfl
    twn := fun _ => rfl
    rng := fun _ => rfl
    pwr := fun _ => rfl
    flt := fun _ => rfl
    gq := fun _ _ _ => rfl
    journal := fun _ => List.prefix_refl _
    car := fun _ => rfl
    upd := fun h => absurd hx h
    reqs := rfl
    pending := rfl
  }

/-- The journal and the interrupts change inside `hp`. -/
theorem in_journal (h : Changes ps fs s t) (x : Hp) (hx : portsCore x = portsCore t.hp) : Changes ps fs s { t with hp := x } :=
  h.trans {
    regs := fun _ _ _ => rfl
    shadows := fun _ => rfl
    pools := fun _ => rfl
    frm := fun _ => rfl
    hp := fun _ => hx
    dram := fun _ => rfl
    mrv := fun _ => rfl
    txn := fun _ => rfl
    nand := fun _ => rfl
    sav := fun _ => rfl
    eng := fun _ => rfl
    rsr := fun _ => rfl
    twn := fun _ => rfl
    rng := fun _ => rfl
    pwr := fun _ => rfl
    flt := fun _ => rfl
    gq := fun _ _ _ => rfl
    journal := fun _ => List.prefix_refl _
    car := fun _ => rfl
    upd := fun _ => rfl
    reqs := rfl
    pending := rfl
  }

/-- GQ2 changes. -/
theorem queue2 (h : Changes ps fs s t) (f : Gather → Gather) (hf : ∀ g, g.held <+: (f g).held) : Changes ps fs s (setQueue 2 f t) :=
  h.trans {
    regs := fun _ _ _ => rfl
    shadows := fun _ => rfl
    pools := fun _ => rfl
    frm := fun _ => rfl
    hp := fun _ => rfl
    dram := fun _ => rfl
    mrv := fun _ => rfl
    txn := fun _ => rfl
    nand := fun _ => rfl
    sav := fun _ => rfl
    eng := fun _ => rfl
    rsr := fun _ => rfl
    twn := fun _ => rfl
    rng := fun _ => rfl
    pwr := fun _ => rfl
    flt := fun _ => rfl
    gq := fun _ _ hq => getD_modify_other t.gq f {} (Ne.symm hq)
    journal := fun _ => held_modify t.gq f hf
    car := fun _ => rfl
    upd := fun _ => rfl
    reqs := rfl
    pending := rfl
  }

theorem emit (h : Changes ps fs s t) (o : Out) : Changes ps fs s (Machine.emit o t) := h.out _

theorem spend (h : Changes ps fs s t) : Changes ps fs s (Machine.spend t) := h.free _

/-- What the end of a command can change is in every frame. -/
theorem ofKeeps (h : Keeps settleKeys s t) : Changes ps fs s t where
  regs := fun f _ h2 => h.get f h2
  shadows := fun _ => h.shadows
  pools := fun _ => h.pools
  frm := fun _ => h.frm
  hp := fun _ => h.hp
  dram := fun _ => h.dram
  mrv := fun _ => h.mrv
  txn := fun _ => h.txn
  nand := fun _ => h.nand
  sav := fun _ => h.sav
  eng := fun _ => h.eng
  rsr := fun _ => h.rsr
  twn := fun _ => h.twn
  rng := fun _ => h.rng
  pwr := fun _ => h.pwr
  flt := fun _ => h.flt
  gq := fun _ => h.queue
  journal := fun _ => h.held
  car := fun _ => h.car
  upd := fun _ => h.upd
  reqs := h.reqs
  pending := h.pending

/-- A command that asks for no reaction changes what its effect changes. -/
theorem settled (h : Changes ps fs s t) (hr : s.reqs = []) (before : State) : Changes ps fs s (settle before t) :=
  h.trans (ofKeeps (settle_keeps before t (h.reqs.trans hr)))

/-- Every byte of the module DRAM that a frame does not name reads as before. -/
theorem memory (h : Changes ps fs s t) (hp : .dram ∉ ps) (a : Nat) : readByte a t = readByte a s := by
  simp [readByte, h.dram hp]

end Changes

end Sys2Proof.Machine
end

