-- ==== Sys2Proof/Laws/Credits.lean ====
section
/-! SUPPORT. The credit pools (R41 to R44): a pool is larger than its reserved share, so that a sender finds a credit in an
empty one; and what a sender does with and without a credit. -/

namespace Sys2Proof.Machine

theorem poolReserve_lt_poolSize (a : Nat) : poolReserve a < poolSize a := by
  unfold poolSize
  split
  · rename_i h
    unfold poolReserve
    rw [if_pos h]
    split <;> omega
  · split
    · rename_i h0 h1
      unfold poolReserve
      rw [if_neg h0]
      split
      · rename_i h2
        simp [poolReserved] at h2 h1
        omega
      · omega
    · omega

/-- In a pool without requests every sender finds a credit. -/
theorem creditFor_empty {a : Nat} {s : State} (hq : poolQueued a s = 0) (hh : poolHeld a s = 0)
    (hk : (poolOf a s).skew = 0) (reserved : Bool) : creditFor a reserved s = true := by
  have := poolReserve_lt_poolSize a
  unfold creditFor poolFree
  rw [hq, hh, hk]
  simp only [decide_eq_true_eq]
  split <;> omega

/-- In a pool whose entries are all taken no sender finds one. -/
theorem creditFor_full {a : Nat} {s : State} (h : poolFree a s ≤ 0) (reserved : Bool) : creditFor a reserved s = false := by
  unfold creditFor
  simp only [decide_eq_false_iff_not]
  split <;> omega

theorem withCredit_of {a : Nat} {reserved : Bool} {s : State} (h : creditFor a reserved s = true) (f : State → State) :
    withCredit a reserved f s = f s := by
  unfold withCredit
  rw [if_pos h]

theorem withCredit_none {a : Nat} {reserved : Bool} {s : State} (h : creditFor a reserved s = false)
    (f : State → State) : withCredit a reserved f s = stallOn a s := by
  unfold withCredit
  rw [if_neg (by simp [h])]

end Sys2Proof.Machine
end

