-- ==== Sys2Proof/Laws/Memory.lean ====
section
/-! SUPPORT. The laws of the module DRAM: a byte reads what was stored in it last, and every write keeps the
canonical form. -/

namespace Sys2Proof.Machine

theorem readByte_writeByte_same (a : Nat) (b : Byte) (s : State) : readByte a (writeByte a b s) = b := by
  simp [readByte]

theorem readByte_writeByte_other {a c : Nat} (b : Byte) (s : State) (h : c ≠ a) :
    readByte c (writeByte a b s) = readByte c s := by
  simp [readByte, look_put_other _ _ _ h]

/-- A byte depends on the memory alone. -/
theorem readByte_congr {s t : State} (a : Nat) (h : s.dram.mem = t.dram.mem) : readByte a s = readByte a t := by
  simp [readByte, h]

@[simp] theorem readByte_set (a : Nat) (f : Fld) (v : Nat) (s : State) : readByte a (set f v s) = readByte a s := rfl

/-- The canonical form says: rising addresses, and no byte that reads 0 is listed. -/
theorem wf_iff (m : List Host.Cell) : Memory.wf m = true ↔ rising m = true ∧ ∀ c ∈ m, c.2 ≠ 0 := by
  simp [Memory.wf, List.all_eq_true]

theorem wf_put (m : List Host.Cell) (a : Nat) (b : Byte) (h : Memory.wf m = true) :
    Memory.wf (put (0 : Byte) m a b) = true := by
  rw [wf_iff] at *
  exact ⟨rising_put _ _ _ _ h.1, put_ne_default _ _ _ _ h.2⟩

theorem writeByte_keeps_wf (a : Nat) (b : Byte) (s : State) (h : Memory.wf s.dram.mem = true) :
    Memory.wf (writeByte a b s).dram.mem = true := wf_put _ a b h

theorem filter_wf (m : List Host.Cell) (p : Host.Cell → Bool) (h : Memory.wf m = true) :
    Memory.wf (m.filter p) = true := by
  rw [wf_iff] at *
  exact ⟨rising_filter _ _ h.1, fun c hc => h.2 c (List.mem_of_mem_filter hc)⟩

/-- A line write keeps the canonical form. -/
theorem writeLine_keeps_wf (line : Nat) (be : BitVec 64) (d : Line) (s : State) (h : Memory.wf s.dram.mem = true) :
    Memory.wf (writeLine line be d s).dram.mem = true := by
  refine forEach_keeps (fun t => Memory.wf t.dram.mem = true) _ _ s h (fun i _ t ht => ?_)
  exact when_keeps (fun t => Memory.wf t.dram.mem = true) _ _ t ht (fun h => writeByte_keeps_wf _ _ t h)

/-- Bytes outside a line are not changed by its write. -/
theorem readByte_writeLine_outside (line : Nat) (be : BitVec 64) (d : Line) (s : State) (a : Nat)
    (h : a < 64 * line ∨ 64 * line + 64 ≤ a) : readByte a (writeLine line be d s) = readByte a s := by
  refine forEach_keeps (fun t => readByte a t = readByte a s) _ _ s rfl (fun i hi t ht => ?_)
  refine when_keeps (fun t => readByte a t = readByte a s) _ _ t ht (fun h' => ?_)
  rw [← h']
  refine readByte_writeByte_other _ _ ?_
  have := List.mem_range.1 hi
  omega

/-- The bytes that a partial line write reads afterwards, for writes of a rising list of byte numbers. -/
theorem readByte_forEach_line (line : Nat) (be : BitVec 64) (d : Line) (l : List Nat) (j : Nat) (s : State)
    (hl : l.Nodup) :
    readByte (64 * line + j)
      (forEach l (fun i => when (be.getLsbD i) (writeByte (64 * line + i) (lineByte d i))) s) =
      if j ∈ l ∧ be.getLsbD j = true then lineByte d j else readByte (64 * line + j) s := by
  induction l generalizing s with
  | nil => simp
  | cons i l ih =>
    rw [List.nodup_cons] at hl
    rw [forEach_cons, ih _ hl.2]
    by_cases hij : i = j
    · subst hij
      cases hb : be.getLsbD i <;> simp [hl.1, readByte_writeByte_same]
    · have hne : 64 * line + j ≠ 64 * line + i := by omega
      have hr : readByte (64 * line + j) (when (be.getLsbD i) (writeByte (64 * line + i) (lineByte d i)) s) =
          readByte (64 * line + j) s := by
        cases be.getLsbD i
        · rfl
        · exact readByte_writeByte_other _ _ hne
      rw [hr]
      simp [List.mem_cons, Ne.symm hij]

/-- A line write stores the enabled bytes of its data and leaves the others (R142). -/
theorem readByte_writeLine (line : Nat) (be : BitVec 64) (d : Line) (s : State) (j : Nat) (h : j < 64) :
    readByte (64 * line + j) (writeLine line be d s) =
      if be.getLsbD j = true then lineByte d j else readByte (64 * line + j) s := by
  have := readByte_forEach_line line be d (List.range 64) j s List.nodup_range
  simpa [writeLine, h] using this

theorem writeLine_frame (line : Nat) (be : BitVec 64) (d : Line) (s : State) :
    (writeLine line be d s).regs = s.regs ∧ (writeLine line be d s).mrv = s.mrv ∧
      (writeLine line be d s).txn = s.txn ∧ (writeLine line be d s).pwr = s.pwr ∧
      (writeLine line be d s).reqs = s.reqs ∧ (writeLine line be d s).dram.writes = s.dram.writes := by
  refine forEach_keeps (fun t => t.regs = s.regs ∧ t.mrv = s.mrv ∧ t.txn = s.txn ∧ t.pwr = s.pwr ∧
    t.reqs = s.reqs ∧ t.dram.writes = s.dram.writes) _ _ s ⟨rfl, rfl, rfl, rfl, rfl, rfl⟩ (fun i _ t ht => ?_)
  exact when_keeps (fun t => t.regs = s.regs ∧ t.mrv = s.mrv ∧ t.txn = s.txn ∧ t.pwr = s.pwr ∧
    t.reqs = s.reqs ∧ t.dram.writes = s.dram.writes) _ _ t ht (fun h => h)

end Sys2Proof.Machine
end

