-- ==== Sys2Proof/Laws/Untouched.lean ====
section
/-! SUPPORT. What the operations of the model do not touch: the queue of waiting commands, which no operation changes;
the frame counter, which the tick's own step and the loss of VAON alone change (R52, R53); and the module DRAM, which only
the operations that store lines, load images or lose the image change. One lemma per operation, each by the lemmas of
the operations it is made of. -/

namespace Sys2Proof.Machine

/-- What waits, the frame counter and the memory: what the laws of this file follow through every operation. -/
def queueOf (s : State) : List Instr := s.pending
def countOf (s : State) : Frame := s.frm.count
def memOf (s : State) : List Host.Cell := s.dram.mem

@[simp] theorem queueOf_mk (x0 : List (Nat × Nat)) (x1 : List Shadow) (x2 : List Pool) (x3 : Frm) (x4 : Hp) (x5 :
    Dram) (x6 : Mrv) (x7 : Txn) (x8 : Nand) (x9 : Sav) (x10 : Eng) (x11 : Rsr) (x12 : Twn) (x13 : Rng) (x14 : Pwr)
    (x15 : Flt) (x16 : List Gather) (x17 : Car) (x18 : Upd) (x19 : Nat) (x20 : List Req) (x21 : List Out) (x22 : List
    Instr) : queueOf ⟨x0, x1, x2, x3, x4, x5, x6, x7, x8, x9, x10, x11, x12, x13, x14, x15, x16, x17, x18, x19, x20,
    x21, x22⟩ = x22 := by rfl

@[simp] theorem countOf_mk (x0 : List (Nat × Nat)) (x1 : List Shadow) (x2 : List Pool) (x3 : Frm) (x4 : Hp) (x5 :
    Dram) (x6 : Mrv) (x7 : Txn) (x8 : Nand) (x9 : Sav) (x10 : Eng) (x11 : Rsr) (x12 : Twn) (x13 : Rng) (x14 : Pwr)
    (x15 : Flt) (x16 : List Gather) (x17 : Car) (x18 : Upd) (x19 : Nat) (x20 : List Req) (x21 : List Out) (x22 : List
    Instr) : countOf ⟨x0, x1, x2, x3, x4, x5, x6, x7, x8, x9, x10, x11, x12, x13, x14, x15, x16, x17, x18, x19, x20,
    x21, x22⟩ = x3.count := by rfl

@[simp] theorem memOf_mk (x0 : List (Nat × Nat)) (x1 : List Shadow) (x2 : List Pool) (x3 : Frm) (x4 : Hp) (x5 : Dram)
    (x6 : Mrv) (x7 : Txn) (x8 : Nand) (x9 : Sav) (x10 : Eng) (x11 : Rsr) (x12 : Twn) (x13 : Rng) (x14 : Pwr) (x15 :
    Flt) (x16 : List Gather) (x17 : Car) (x18 : Upd) (x19 : Nat) (x20 : List Req) (x21 : List Out) (x22 : List Instr)
    : memOf ⟨x0, x1, x2, x3, x4, x5, x6, x7, x8, x9, x10, x11, x12, x13, x14, x15, x16, x17, x18, x19, x20, x21, x22⟩
    = x5.mem := by rfl

theorem pending_queueOf (s : State) : s.pending = queueOf s := by rfl

theorem count_countOf (s : State) : s.frm.count = countOf s := by rfl

theorem mem_memOf (s : State) : s.dram.mem = memOf s := by rfl

@[simp] theorem when_pending (c : Bool) (f : State → State) (s : State) (h : ∀ t : State, queueOf (f t) = queueOf t) :
    queueOf (when c f s) = queueOf s := by
  cases c
  · rfl
  · exact h s

@[simp] theorem forEach_pending {α : Type} (l : List α) (f : α → State → State) (s : State)
    (h : ∀ a, ∀ t : State, queueOf (f a t) = queueOf t) : queueOf (forEach l f s) = queueOf s := by
  induction l generalizing s with
  | nil => rfl
  | cons a l ih => exact (ih (f a s)).trans (h a s)

@[simp] theorem ite_pending (c : Prop) [Decidable c] (a b : State) :
    queueOf (if c then a else b) = if c then queueOf a else queueOf b := by
  split <;> rfl

@[simp] theorem when_count (c : Bool) (f : State → State) (s : State) (h : ∀ t : State, countOf (f t) = countOf t) :
    countOf (when c f s) = countOf s := by
  cases c
  · rfl
  · exact h s

@[simp] theorem forEach_count {α : Type} (l : List α) (f : α → State → State) (s : State)
    (h : ∀ a, ∀ t : State, countOf (f a t) = countOf t) : countOf (forEach l f s) = countOf s := by
  induction l generalizing s with
  | nil => rfl
  | cons a l ih => exact (ih (f a s)).trans (h a s)

@[simp] theorem ite_count (c : Prop) [Decidable c] (a b : State) :
    countOf (if c then a else b) = if c then countOf a else countOf b := by
  split <;> rfl

@[simp] theorem when_mem (c : Bool) (f : State → State) (s : State) (h : ∀ t : State, memOf (f t) = memOf t) :
    memOf (when c f s) = memOf s := by
  cases c
  · rfl
  · exact h s

@[simp] theorem forEach_mem {α : Type} (l : List α) (f : α → State → State) (s : State)
    (h : ∀ a, ∀ t : State, memOf (f a t) = memOf t) : memOf (forEach l f s) = memOf s := by
  induction l generalizing s with
  | nil => rfl
  | cons a l ih => exact (ih (f a s)).trans (h a s)

@[simp] theorem ite_mem (c : Prop) [Decidable c] (a b : State) :
    memOf (if c then a else b) = if c then memOf a else memOf b := by
  split <;> rfl

/-- The projections that a command other than a tick, a restart or a store leaves alone, over an iteration. -/

theorem forEach_rest {α : Type} (l : List α) (f : α → State → State) (s : State)
    (h : ∀ a, ∀ t : State, queueOf (f a t) = queueOf t ∧ countOf (f a t) = countOf t ∧
      memOf (f a t) = memOf t) :
    queueOf (forEach l f s) = queueOf s ∧ countOf (forEach l f s) = countOf s ∧
      memOf (forEach l f s) = memOf s :=
  ⟨forEach_pending l f s fun a t => (h a t).1, forEach_count l f s fun a t => (h a t).2.1,
    forEach_mem l f s fun a t => (h a t).2.2⟩

theorem forEach_rest2 {α : Type} (l : List α) (f : α → State → State) (s : State)
    (h : ∀ a, ∀ t : State, queueOf (f a t) = queueOf t ∧ countOf (f a t) = countOf t) :
    queueOf (forEach l f s) = queueOf s ∧ countOf (forEach l f s) = countOf s :=
  ⟨forEach_pending l f s fun a t => (h a t).1, forEach_count l f s fun a t => (h a t).2⟩

@[simp] theorem set_rest (f : Fld) (v : Nat) (s : State) :
    queueOf (set f v s) = queueOf (s) ∧ countOf (set f v s) = countOf (s) ∧ memOf (set f v s) = memOf (s) := by
  unfold set
  simp [pending_queueOf, count_countOf, mem_memOf]

@[simp] theorem put1_rest (f : Fld) (b : Bool) (s : State) :
    queueOf (put1 f b s) = queueOf (s) ∧ countOf (put1 f b s) = countOf (s) ∧ memOf (put1 f b s) = memOf (s) := by
  unfold put1
  simp

@[simp] theorem setInt_rest (f : Fld) (i : Int) (s : State) :
    queueOf (setInt f i s) = queueOf (s) ∧ countOf (setInt f i s) = countOf (s) ∧ memOf (setInt f i s) = memOf (s) :=
        by
  unfold setInt
  simp

@[simp] theorem count_rest (f : Fld) (k : Nat) (s : State) :
    queueOf (count f k s) = queueOf (s) ∧ countOf (count f k s) = countOf (s) ∧ memOf (count f k s) = memOf (s) := by
  unfold count
  simp

@[simp] theorem inc_rest (f : Fld) (s : State) :
    queueOf (inc f s) = queueOf (s) ∧ countOf (inc f s) = countOf (s) ∧ memOf (inc f s) = memOf (s) := by
  unfold inc
  simp

@[simp] theorem event_rest (p k : Nat) (s : State) :
    queueOf (event p k s) = queueOf (s) ∧ countOf (event p k s) = countOf (s) ∧ memOf (event p k s) = memOf (s) := by
  unfold event
  simp

@[simp] theorem live_rest (p k : Nat) (b : Bool) (s : State) :
    queueOf (live p k b s) = queueOf (s) ∧ countOf (live p k b s) = countOf (s) ∧ memOf (live p k b s) = memOf (s) :=
        by
  unfold live
  simp

@[simp] theorem werr_rest (bit : Nat → Fld) (w : Writer) (addr : Nat) (s : State) :
    queueOf (werr bit w addr s) = queueOf (s) ∧ countOf (werr bit w addr s) = countOf (s) ∧ memOf (werr bit w addr s)
        = memOf (s) := by
  unfold werr
  simp

@[simp] theorem werrStatic_rest (w : Writer) (addr : Nat) (s : State) :
    queueOf (werrStatic w addr s) = queueOf (s) ∧ countOf (werrStatic w addr s) = countOf (s) ∧ memOf (werrStatic w
        addr s) = memOf (s) := by
  unfold werrStatic
  simp

@[simp] theorem werrLocked_rest (w : Writer) (addr : Nat) (s : State) :
    queueOf (werrLocked w addr s) = queueOf (s) ∧ countOf (werrLocked w addr s) = countOf (s) ∧ memOf (werrLocked w
        addr s) = memOf (s) := by
  unfold werrLocked
  simp

@[simp] theorem werrRange_rest (w : Writer) (addr : Nat) (s : State) :
    queueOf (werrRange w addr s) = queueOf (s) ∧ countOf (werrRange w addr s) = countOf (s) ∧ memOf (werrRange w addr
        s) = memOf (s) := by
  unfold werrRange
  simp

@[simp] theorem werrBusy_rest (w : Writer) (addr : Nat) (s : State) :
    queueOf (werrBusy w addr s) = queueOf (s) ∧ countOf (werrBusy w addr s) = countOf (s) ∧ memOf (werrBusy w addr s)
        = memOf (s) := by
  unfold werrBusy
  simp

@[simp] theorem emit_rest (o : Out) (s : State) :
    queueOf (emit o s) = queueOf (s) ∧ countOf (emit o s) = countOf (s) ∧ memOf (emit o s) = memOf (s) := by
  unfold emit
  simp [pending_queueOf, count_countOf, mem_memOf]

@[simp] theorem request_rest (r : Req) (s : State) :
    queueOf (request r s) = queueOf (s) ∧ countOf (request r s) = countOf (s) ∧ memOf (request r s) = memOf (s) := by
  unfold request
  simp [pending_queueOf, count_countOf, mem_memOf]

@[simp] theorem spend_rest (s : State) :
    queueOf (spend s) = queueOf (s) ∧ countOf (spend s) = countOf (s) ∧ memOf (spend s) = memOf (s) := by
  unfold spend
  simp [pending_queueOf, count_countOf, mem_memOf]

@[simp] theorem storeSetting_rest (f : Fld) (v : Nat) (s : State) :
    queueOf (storeSetting f v s) = queueOf (s) ∧ countOf (storeSetting f v s) = countOf (s) ∧ memOf (storeSetting f v
        s) = memOf (s) := by
  unfold storeSetting
  simp [pending_queueOf, count_countOf, mem_memOf]

@[simp] theorem foreignWrite_rest (w : Writer) (s : State) :
    queueOf (foreignWrite w s) = queueOf (s) ∧ countOf (foreignWrite w s) = countOf (s) ∧ memOf (foreignWrite w s) =
        memOf (s) := by
  unfold foreignWrite
  simp

@[simp] theorem darkWrite_rest (w : Writer) (addr : Nat) (s : State) :
    queueOf (darkWrite w addr s) = queueOf (s) ∧ countOf (darkWrite w addr s) = countOf (s) ∧ memOf (darkWrite w addr
        s) = memOf (s) := by
  unfold darkWrite
  simp

@[simp] theorem reach_rest (w : Writer) (addr data : Nat) (k : State → State) (s : State) (hk : ∀ t : State, queueOf
    (k t) = queueOf (t) ∧ countOf (k t) = countOf (t) ∧ memOf (k t) = memOf (t)) :
    queueOf (reach w addr data k s) = queueOf (s) ∧ countOf (reach w addr data k s) = countOf (s) ∧ memOf (reach w
        addr data k s) = memOf (s) := by
  unfold reach
  simp [hk]

@[simp] theorem passCell_rest (ringB : Bool) (src : Nat) (c : Cell) (s : State) :
    queueOf (passCell ringB src c s) = queueOf (s) ∧ countOf (passCell ringB src c s) = countOf (s) ∧ memOf (passCell
        ringB src c s) = memOf (s) := by
  unfold passCell
  simp

@[simp] theorem sendCell_rest (ringB : Bool) (c : Cell) (s : State) :
    queueOf (sendCell ringB c s) = queueOf (s) ∧ countOf (sendCell ringB c s) = countOf (s) ∧ memOf (sendCell ringB c
        s) = memOf (s) := by
  unfold sendCell
  simp

@[simp] theorem sendBoth_rest (c : Cell) (s : State) :
    queueOf (sendBoth c s) = queueOf (s) ∧ countOf (sendBoth c s) = countOf (s) ∧ memOf (sendBoth c s) = memOf (s) :=
        by
  unfold sendBoth
  simp

@[simp] theorem setQueue_rest (q : Nat) (f : Gather → Gather) (s : State) :
    queueOf (setQueue q f s) = queueOf (s) ∧ countOf (setQueue q f s) = countOf (s) ∧ memOf (setQueue q f s) = memOf
        (s) := by
  unfold setQueue
  simp [pending_queueOf, count_countOf, mem_memOf]

@[simp] theorem queueMarks_rest (q : Nat) (s : State) :
    queueOf (queueMarks q s) = queueOf (s) ∧ countOf (queueMarks q s) = countOf (s) ∧ memOf (queueMarks q s) = memOf
        (s) := by
  unfold queueMarks
  simp

@[simp] theorem queueCredits_rest (q : Nat) (s : State) :
    queueOf (queueCredits q s) = queueOf (s) ∧ countOf (queueCredits q s) = countOf (s) ∧ memOf (queueCredits q s) =
        memOf (s) := by
  unfold queueCredits
  simp

@[simp] theorem queueShow_rest (q : Nat) (s : State) :
    queueOf (queueShow q s) = queueOf (s) ∧ countOf (queueShow q s) = countOf (s) ∧ memOf (queueShow q s) = memOf (s)
        := by
  unfold queueShow
  simp

@[simp] theorem emitWide_rest (q : Nat) (words : List (BitVec 16)) (pad : Bool) (s : State) :
    queueOf (emitWide q words pad s) = queueOf (s) ∧ countOf (emitWide q words pad s) = countOf (s) ∧ memOf (emitWide
        q words pad s) = memOf (s) := by
  unfold emitWide
  simp

@[simp] theorem pushWord_rest (q : Nat) (v : BitVec 16) (s : State) :
    queueOf (pushWord q v s) = queueOf (s) ∧ countOf (pushWord q v s) = countOf (s) ∧ memOf (pushWord q v s) = memOf
        (s) := by
  unfold pushWord
  simp

@[simp] theorem pushWords_rest (q : Nat) (ws : List (BitVec 16)) (s : State) :
    queueOf (pushWords q ws s) = queueOf (s) ∧ countOf (pushWords q ws s) = countOf (s) ∧ memOf (pushWords q ws s) =
        memOf (s) := by
  unfold pushWords
  simp

@[simp] theorem pushRecord_rest (q : Nat) (rec : List (BitVec 16)) (s : State) :
    queueOf (pushRecord q rec s) = queueOf (s) ∧ countOf (pushRecord q rec s) = countOf (s) ∧ memOf (pushRecord q rec
        s) = memOf (s) := by
  unfold pushRecord
  simp

@[simp] theorem serveOne_rest (s : State) :
    queueOf (serveOne s) = queueOf (s) ∧ countOf (serveOne s) = countOf (s) ∧ memOf (serveOne s) = memOf (s) := by
  unfold serveOne
  (repeat' split) <;> simp

@[simp] theorem serveWaiting_rest (s : State) :
    queueOf (serveWaiting s) = queueOf (s) ∧ countOf (serveWaiting s) = countOf (s) ∧ memOf (serveWaiting s) = memOf
        (s) := by
  unfold serveWaiting
  simp

@[simp] theorem flushPacking_rest (q : Nat) (s : State) :
    queueOf (flushPacking q s) = queueOf (s) ∧ countOf (flushPacking q s) = countOf (s) ∧ memOf (flushPacking q s) =
        memOf (s) := by
  unfold flushPacking
  simp

@[simp] theorem opRead_rest (q : Nat) (s : State) :
    queueOf (opRead q s) = queueOf (s) ∧ countOf (opRead q s) = countOf (s) ∧ memOf (opRead q s) = memOf (s) := by
  unfold opRead
  simp

@[simp] theorem opMark_rest (q : Nat) (s : State) :
    queueOf (opMark q s) = queueOf (s) ∧ countOf (opMark q s) = countOf (s) ∧ memOf (opMark q s) = memOf (s) := by
  unfold opMark
  simp

@[simp] theorem opRewind_rest (q : Nat) (s : State) :
    queueOf (opRewind q s) = queueOf (s) ∧ countOf (opRewind q s) = countOf (s) ∧ memOf (opRewind q s) = memOf (s) :=
        by
  unfold opRewind
  simp

@[simp] theorem opRelease_rest (q : Nat) (s : State) :
    queueOf (opRelease q s) = queueOf (s) ∧ countOf (opRelease q s) = countOf (s) ∧ memOf (opRelease q s) = memOf (s)
        := by
  unfold opRelease
  simp

@[simp] theorem queueReset_rest (q : Nat) (s : State) :
    queueOf (queueReset q s) = queueOf (s) ∧ countOf (queueReset q s) = countOf (s) ∧ memOf (queueReset q s) = memOf
        (s) := by
  unfold queueReset
  simp

@[simp] theorem faultRecord_rest (n sev : Nat) (injected : Bool) (snap0 snap2 snap3 : Nat) (s : State) :
    queueOf (faultRecord n sev injected snap0 snap2 snap3 s) = queueOf (s) ∧ countOf (faultRecord n sev injected
        snap0 snap2 snap3 s) = countOf (s) ∧ memOf (faultRecord n sev injected snap0 snap2 snap3 s) = memOf (s) := by
  unfold faultRecord
  simp

@[simp] theorem linePoisonedRecord_rest (line finder : Nat) (s : State) :
    queueOf (linePoisonedRecord line finder s) = queueOf (s) ∧ countOf (linePoisonedRecord line finder s) = countOf
        (s) ∧ memOf (linePoisonedRecord line finder s) = memOf (s) := by
  unfold linePoisonedRecord
  simp

@[simp] theorem granuleLostRecord_rest (granule cause : Nat) (s : State) :
    queueOf (granuleLostRecord granule cause s) = queueOf (s) ∧ countOf (granuleLostRecord granule cause s) = countOf
        (s) ∧ memOf (granuleLostRecord granule cause s) = memOf (s) := by
  unfold granuleLostRecord
  simp

@[simp] theorem undoLostRecord_rest (ctx line : Nat) (s : State) :
    queueOf (undoLostRecord ctx line s) = queueOf (s) ∧ countOf (undoLostRecord ctx line s) = countOf (s) ∧ memOf
        (undoLostRecord ctx line s) = memOf (s) := by
  unfold undoLostRecord
  simp

@[simp] theorem twinConflictRecord_rest (granules : Nat) (s : State) :
    queueOf (twinConflictRecord granules s) = queueOf (s) ∧ countOf (twinConflictRecord granules s) = countOf (s) ∧
        memOf (twinConflictRecord granules s) = memOf (s) := by
  unfold twinConflictRecord
  simp

@[simp] theorem rankStateRecord_rest (rank st : Nat) (s : State) :
    queueOf (rankStateRecord rank st s) = queueOf (s) ∧ countOf (rankStateRecord rank st s) = countOf (s) ∧ memOf
        (rankStateRecord rank st s) = memOf (s) := by
  unfold rankStateRecord
  simp

@[simp] theorem trainRecord_rest (ch rank result : Nat) (retrains : Nat) (s : State) :
    queueOf (trainRecord ch rank result retrains s) = queueOf (s) ∧ countOf (trainRecord ch rank result retrains s) =
        countOf (s) ∧ memOf (trainRecord ch rank result retrains s) = memOf (s) := by
  unfold trainRecord
  simp

@[simp] theorem selftestRecord_rest (item result : Nat) (s : State) :
    queueOf (selftestRecord item result s) = queueOf (s) ∧ countOf (selftestRecord item result s) = countOf (s) ∧
        memOf (selftestRecord item result s) = memOf (s) := by
  unfold selftestRecord
  simp

@[simp] theorem persistChangeRecord_rest (s : State) :
    queueOf (persistChangeRecord s) = queueOf (s) ∧ countOf (persistChangeRecord s) = countOf (s) ∧ memOf
        (persistChangeRecord s) = memOf (s) := by
  unfold persistChangeRecord
  simp

@[simp] theorem telemetryRecord_rest (s : State) :
    queueOf (telemetryRecord s) = queueOf (s) ∧ countOf (telemetryRecord s) = countOf (s) ∧ memOf (telemetryRecord s)
        = memOf (s) := by
  unfold telemetryRecord
  simp

@[simp] theorem pinPulse_rest (s : State) :
    queueOf (pinPulse s) = queueOf (s) ∧ countOf (pinPulse s) = countOf (s) ∧ memOf (pinPulse s) = memOf (s) := by
  unfold pinPulse
  simp [pending_queueOf, count_countOf, mem_memOf]

@[simp] theorem pinFollow_rest (s : State) :
    queueOf (pinFollow s) = queueOf (s) ∧ countOf (pinFollow s) = countOf (s) ∧ memOf (pinFollow s) = memOf (s) := by
  unfold pinFollow
  simp

@[simp] theorem portReadHold_rest (n : Nat) (s : State) :
    queueOf (portReadHold n s) = queueOf (s) ∧ countOf (portReadHold n s) = countOf (s) ∧ memOf (portReadHold n s) =
        memOf (s) := by
  unfold portReadHold
  simp

@[simp] theorem enterSafe_rest (cause source : Nat) (s : State) :
    queueOf (enterSafe cause source s) = queueOf (s) ∧ countOf (enterSafe cause source s) = countOf (s) ∧ memOf
        (enterSafe cause source s) = memOf (s) := by
  unfold enterSafe
  simp

@[simp] theorem latchFirst_rest (x : Raise) (sev : Nat) (s : State) :
    queueOf (latchFirst x sev s) = queueOf (s) ∧ countOf (latchFirst x sev s) = countOf (s) ∧ memOf (latchFirst x sev
        s) = memOf (s) := by
  unfold latchFirst
  simp [pending_queueOf, count_countOf, mem_memOf]

@[simp] theorem react_rest (n act snap2 : Nat) (s : State) :
    queueOf (react n act snap2 s) = queueOf (s) ∧ countOf (react n act snap2 s) = countOf (s) ∧ memOf (react n act
        snap2 s) = memOf (s) := by
  unfold react
  (repeat' split) <;> simp

@[simp] theorem runWaiting_rest (s : State) :
    queueOf (runWaiting s) = queueOf (s) ∧ countOf (runWaiting s) = countOf (s) ∧ memOf (runWaiting s) = memOf (s) :=
        by
  unfold runWaiting
  simp [pending_queueOf, count_countOf, mem_memOf]

@[simp] theorem liveFall_rest (n : Nat) (s : State) :
    queueOf (liveFall n s) = queueOf (s) ∧ countOf (liveFall n s) = countOf (s) ∧ memOf (liveFall n s) = memOf (s) :=
        by
  unfold liveFall
  simp

@[simp] theorem collectorHold_rest (s : State) :
    queueOf (collectorHold s) = queueOf (s) ∧ countOf (collectorHold s) = countOf (s) ∧ memOf (collectorHold s) =
        memOf (s) := by
  unfold collectorHold
  simp

@[simp] theorem raise_rest (x : Raise) (s : State) :
    queueOf (raise x s) = queueOf (s) ∧ countOf (raise x s) = countOf (s) ∧ memOf (raise x s) = memOf (s) := by
  unfold raise
  simp [pending_queueOf, count_countOf, mem_memOf]

@[simp] theorem raiseSimple_rest (n reason inst snap2 snap3 : Nat) (s : State) :
    queueOf (raiseSimple n reason inst snap2 snap3 s) = queueOf (s) ∧ countOf (raiseSimple n reason inst snap2 snap3
        s) = countOf (s) ∧ memOf (raiseSimple n reason inst snap2 snap3 s) = memOf (s) := by
  unfold raiseSimple
  simp

@[simp] theorem raiseHeld_rest (n reason inst snap2 snap3 : Nat) (s : State) :
    queueOf (raiseHeld n reason inst snap2 snap3 s) = queueOf (s) ∧ countOf (raiseHeld n reason inst snap2 snap3 s) =
        countOf (s) ∧ memOf (raiseHeld n reason inst snap2 snap3 s) = memOf (s) := by
  unfold raiseHeld
  simp

@[simp] theorem writeByte_rest (a : Nat) (b : Byte) (s : State) :
    queueOf (writeByte a b s) = queueOf (s) ∧ countOf (writeByte a b s) = countOf (s) := by
  unfold writeByte
  simp [pending_queueOf, count_countOf, mem_memOf]

@[simp] theorem writeLine_rest (line : Nat) (be : BitVec 64) (d : Line) (s : State) :
    queueOf (writeLine line be d s) = queueOf (s) ∧ countOf (writeLine line be d s) = countOf (s) := by
  unfold writeLine
  simp

@[simp] theorem setPoisoned_rest (l : List Nat) (s : State) :
    queueOf (setPoisoned l s) = queueOf (s) ∧ countOf (setPoisoned l s) = countOf (s) ∧ memOf (setPoisoned l s) =
        memOf (s) := by
  unfold setPoisoned
  simp [pending_queueOf, count_countOf, mem_memOf]

@[simp] theorem addPoison_rest (line : Nat) (s : State) :
    queueOf (addPoison line s) = queueOf (s) ∧ countOf (addPoison line s) = countOf (s) ∧ memOf (addPoison line s) =
        memOf (s) := by
  unfold addPoison
  simp

@[simp] theorem clearPoisonAt_rest (line : Nat) (s : State) :
    queueOf (clearPoisonAt line s) = queueOf (s) ∧ countOf (clearPoisonAt line s) = countOf (s) ∧ memOf
        (clearPoisonAt line s) = memOf (s) := by
  unfold clearPoisonAt
  simp

@[simp] theorem follow_rest (f : Fld) (before after : Bool) (s : State) :
    queueOf (follow f before after s) = queueOf (s) ∧ countOf (follow f before after s) = countOf (s) ∧ memOf (follow
        f before after s) = memOf (s) := by
  unfold follow
  simp

@[simp] theorem groupFollow_rest (k : Nat) (s : State) :
    queueOf (groupFollow k s) = queueOf (s) ∧ countOf (groupFollow k s) = countOf (s) ∧ memOf (groupFollow k s) =
        memOf (s) := by
  unfold groupFollow
  simp [pending_queueOf, count_countOf, mem_memOf]

@[simp] theorem accumFollow_rest (g : Nat) (before after : Bool) (s : State) :
    queueOf (accumFollow g before after s) = queueOf (s) ∧ countOf (accumFollow g before after s) = countOf (s) ∧
        memOf (accumFollow g before after s) = memOf (s) := by
  unfold accumFollow
  simp [pending_queueOf, count_countOf, mem_memOf]

@[simp] theorem placeEntry_rest (g : Nat) (e : Entry) (s : State) :
    queueOf (placeEntry g e s) = queueOf (s) ∧ countOf (placeEntry g e s) = countOf (s) ∧ memOf (placeEntry g e s) =
        memOf (s) := by
  unfold placeEntry
  simp [pending_queueOf, count_countOf, mem_memOf]

@[simp] theorem putEntry_rest (g : Nat) (e : Entry) (s : State) :
    queueOf (putEntry g e s) = queueOf (s) ∧ countOf (putEntry g e s) = countOf (s) ∧ memOf (putEntry g e s) = memOf
        (s) := by
  unfold putEntry
  simp

@[simp] theorem countDirtied_rest (g : Nat) (port : Option Nat) (s : State) :
    queueOf (countDirtied g port s) = queueOf (s) ∧ countOf (countDirtied g port s) = countOf (s) ∧ memOf
        (countDirtied g port s) = memOf (s) := by
  unfold countDirtied
  (repeat' split) <;> simp [pending_queueOf, count_countOf, mem_memOf]

@[simp] theorem markWrite_rest (g : Nat) (port : Option Nat) (s : State) :
    queueOf (markWrite g port s) = queueOf (s) ∧ countOf (markWrite g port s) = countOf (s) ∧ memOf (markWrite g port
        s) = memOf (s) := by
  unfold markWrite
  dsimp only
  (repeat' split) <;> simp

@[simp] theorem forceDirty_rest (g : Nat) (s : State) :
    queueOf (forceDirty g s) = queueOf (s) ∧ countOf (forceDirty g s) = countOf (s) ∧ memOf (forceDirty g s) = memOf
        (s) := by
  unfold forceDirty
  (repeat' split) <;> simp

@[simp] theorem markLost_rest (g cause : Nat) (s : State) :
    queueOf (markLost g cause s) = queueOf (s) ∧ countOf (markLost g cause s) = countOf (s) ∧ memOf (markLost g cause
        s) = memOf (s) := by
  unfold markLost
  simp

@[simp] theorem startFullRecount_rest (byEcc : Bool) (s : State) :
    queueOf (startFullRecount byEcc s) = queueOf (s) ∧ countOf (startFullRecount byEcc s) = countOf (s) ∧ memOf
        (startFullRecount byEcc s) = memOf (s) := by
  unfold startFullRecount
  simp [pending_queueOf, count_countOf, mem_memOf]

@[simp] theorem rebuildEntry_rest (g : Nat) (s : State) :
    queueOf (rebuildEntry g s) = queueOf (s) ∧ countOf (rebuildEntry g s) = countOf (s) ∧ memOf (rebuildEntry g s) =
        memOf (s) := by
  unfold rebuildEntry
  simp

@[simp] theorem checkEntry_rest (g : Nat) (ecc : MarverEcc) (s : State) :
    queueOf (checkEntry g ecc s) = queueOf (s) ∧ countOf (checkEntry g ecc s) = countOf (s) ∧ memOf (checkEntry g ecc
        s) = memOf (s) := by
  unfold checkEntry
  (repeat' split) <;> simp

@[simp] theorem unsealAll_rest (s : State) :
    queueOf (unsealAll s) = queueOf (s) ∧ countOf (unsealAll s) = countOf (s) ∧ memOf (unsealAll s) = memOf (s) := by
  unfold unsealAll
  simp [pending_queueOf, count_countOf, mem_memOf]

@[simp] theorem setPool_rest (a : Nat) (f : Pool → Pool) (s : State) :
    queueOf (setPool a f s) = queueOf (s) ∧ countOf (setPool a f s) = countOf (s) ∧ memOf (setPool a f s) = memOf (s)
        := by
  unfold setPool
  simp [pending_queueOf, count_countOf, mem_memOf]

@[simp] theorem clearPools_rest (p : Nat) (s : State) :
    queueOf (clearPools p s) = queueOf (s) ∧ countOf (clearPools p s) = countOf (s) ∧ memOf (clearPools p s) = memOf
        (s) := by
  unfold clearPools
  simp [pending_queueOf, count_countOf, mem_memOf]

@[simp] theorem stallOn_rest (a : Nat) (s : State) :
    queueOf (stallOn a s) = queueOf (s) ∧ countOf (stallOn a s) = countOf (s) ∧ memOf (stallOn a s) = memOf (s) := by
  unfold stallOn
  simp

@[simp] theorem withCredit_rest (a : Nat) (reserved : Bool) (f : State → State) (s : State) (hf : ∀ t : State,
    queueOf (f t) = queueOf (t) ∧ countOf (f t) = countOf (t) ∧ memOf (f t) = memOf (t)) :
    queueOf (withCredit a reserved f s) = queueOf (s) ∧ countOf (withCredit a reserved f s) = countOf (s) ∧ memOf
        (withCredit a reserved f s) = memOf (s) := by
  unfold withCredit
  simp [hf]

/-- A credit changes neither what waits nor the counter. -/
theorem withCredit_two (a : Nat) (reserved : Bool) (f : State → State) (s : State)
    (hf : ∀ t : State, queueOf (f t) = queueOf t ∧ countOf (f t) = countOf t) :
    queueOf (withCredit a reserved f s) = queueOf s ∧ countOf (withCredit a reserved f s) = countOf s := by
  unfold withCredit
  simp [hf]

@[simp] theorem setOps_rest (ch die : Nat) (l : List DieOp) (s : State) :
    queueOf (setOps ch die l s) = queueOf (s) ∧ countOf (setOps ch die l s) = countOf (s) ∧ memOf (setOps ch die l s)
        = memOf (s) := by
  unfold setOps
  simp [pending_queueOf, count_countOf, mem_memOf]

@[simp] theorem issueOp_rest (ch die : Nat) (op : DieOp) (s : State) :
    queueOf (issueOp ch die op s) = queueOf (s) ∧ countOf (issueOp ch die op s) = countOf (s) ∧ memOf (issueOp ch die
        op s) = memOf (s) := by
  unfold issueOp
  simp

@[simp] theorem queueOp_rest (ch die : Nat) (op : DieOp) (s : State) :
    queueOf (queueOp ch die op s) = queueOf (s) ∧ countOf (queueOp ch die op s) = countOf (s) ∧ memOf (queueOp ch die
        op s) = memOf (s) := by
  unfold queueOp
  (repeat' split) <;> simp

@[simp] theorem endOp_rest (ch die : Nat) (kind : DieOpKind) (what : Nat) (s : State) :
    queueOf (endOp ch die kind what s) = queueOf (s) ∧ countOf (endOp ch die kind what s) = countOf (s) ∧ memOf
        (endOp ch die kind what s) = memOf (s) := by
  unfold endOp
  (repeat' split) <;> simp

@[simp] theorem dropOp_rest (ch die : Nat) (kind : DieOpKind) (what : Nat) (s : State) :
    queueOf (dropOp ch die kind what s) = queueOf (s) ∧ countOf (dropOp ch die kind what s) = countOf (s) ∧ memOf
        (dropOp ch die kind what s) = memOf (s) := by
  unfold dropOp
  simp

@[simp] theorem readRecord_rest (r : SealRec) (urgent : Bool) (s : State) :
    queueOf (readRecord r urgent s) = queueOf (s) ∧ countOf (readRecord r urgent s) = countOf (s) ∧ memOf (readRecord
        r urgent s) = memOf (s) := by
  unfold readRecord
  simp

@[simp] theorem recordRead_rest (r : SealRec) (s : State) :
    queueOf (recordRead r s) = queueOf (s) ∧ countOf (recordRead r s) = countOf (s) ∧ memOf (recordRead r s) = memOf
        (s) := by
  unfold recordRead
  simp

@[simp] theorem urgentRead_rest (g : Nat) (s : State) :
    queueOf (urgentRead g s) = queueOf (s) ∧ countOf (urgentRead g s) = countOf (s) ∧ memOf (urgentRead g s) = memOf
        (s) := by
  unfold urgentRead
  (repeat' split) <;> simp

@[simp] theorem urgentEnds_rest (g : Nat) (s : State) :
    queueOf (urgentEnds g s) = queueOf (s) ∧ countOf (urgentEnds g s) = countOf (s) ∧ memOf (urgentEnds g s) = memOf
        (s) := by
  unfold urgentEnds
  (repeat' split) <;> simp

@[simp] theorem depthShow_rest (ch : Nat) (s : State) :
    queueOf (depthShow ch s) = queueOf (s) ∧ countOf (depthShow ch s) = countOf (s) ∧ memOf (depthShow ch s) = memOf
        (s) := by
  unfold depthShow
  simp

@[simp] theorem setWrites_rest (l : List WEntry) (s : State) :
    queueOf (setWrites l s) = queueOf (s) ∧ countOf (setWrites l s) = countOf (s) ∧ memOf (setWrites l s) = memOf (s)
        := by
  unfold setWrites
  simp [pending_queueOf, count_countOf, mem_memOf]

@[simp] theorem setReads_rest (l : List REntry) (s : State) :
    queueOf (setReads l s) = queueOf (s) ∧ countOf (setReads l s) = countOf (s) ∧ memOf (setReads l s) = memOf (s) :=
        by
  unfold setReads
  simp [pending_queueOf, count_countOf, mem_memOf]

@[simp] theorem noteRepair_rest (line : Nat) (be : BitVec 64) (s : State) :
    queueOf (noteRepair line be s) = queueOf (s) ∧ countOf (noteRepair line be s) = countOf (s) ∧ memOf (noteRepair
        line be s) = memOf (s) := by
  unfold noteRepair
  simp [pending_queueOf, count_countOf, mem_memOf]

@[simp] theorem queueWrite_rest (line : Nat) (be : BitVec 64) (data : Line) (poison : Bool) (s : State) :
    queueOf (queueWrite line be data poison s) = queueOf (s) ∧ countOf (queueWrite line be data poison s) = countOf
        (s) ∧ memOf (queueWrite line be data poison s) = memOf (s) := by
  unfold queueWrite
  simp

@[simp] theorem landWrite_rest (e : WEntry) (s : State) :
    queueOf (landWrite e s) = queueOf (s) ∧ countOf (landWrite e s) = countOf (s) := by
  unfold landWrite
  simp

@[simp] theorem drainWrites_rest (s : State) :
    queueOf (drainWrites s) = queueOf (s) ∧ countOf (drainWrites s) = countOf (s) := by
  unfold drainWrites
  simp

@[simp] theorem sendRefresh_rest (ch : Nat) (kind : String) (s : State) :
    queueOf (sendRefresh ch kind s) = queueOf (s) ∧ countOf (sendRefresh ch kind s) = countOf (s) ∧ memOf
        (sendRefresh ch kind s) = memOf (s) := by
  unfold sendRefresh
  simp [pending_queueOf, count_countOf, mem_memOf]

@[simp] theorem payRefresh_rest (ch : Nat) (s : State) :
    queueOf (payRefresh ch s) = queueOf (s) ∧ countOf (payRefresh ch s) = countOf (s) ∧ memOf (payRefresh ch s) =
        memOf (s) := by
  unfold payRefresh
  simp

@[simp] theorem repayRefresh_rest (ch : Nat) (s : State) :
    queueOf (repayRefresh ch s) = queueOf (s) ∧ countOf (repayRefresh ch s) = countOf (s) ∧ memOf (repayRefresh ch s)
        = memOf (s) := by
  unfold repayRefresh
  simp

@[simp] theorem enterSelfRefresh_rest (s : State) :
    queueOf (enterSelfRefresh s) = queueOf (s) ∧ countOf (enterSelfRefresh s) = countOf (s) ∧ memOf (enterSelfRefresh
        s) = memOf (s) := by
  unfold enterSelfRefresh
  simp [pending_queueOf, count_countOf, mem_memOf]

@[simp] theorem queueRead_rest (line : Nat) (who : Reader) (s : State) :
    queueOf (queueRead line who s) = queueOf (s) ∧ countOf (queueRead line who s) = countOf (s) ∧ memOf (queueRead
        line who s) = memOf (s) := by
  unfold queueRead
  simp

@[simp] theorem askPartials_rest (ch sub : Nat) (s : State) :
    queueOf (askPartials ch sub s) = queueOf (s) ∧ countOf (askPartials ch sub s) = countOf (s) ∧ memOf (askPartials
        ch sub s) = memOf (s) := by
  unfold askPartials
  simp

@[simp] theorem partialReady_rest (line : Nat) (s : State) :
    queueOf (partialReady line s) = queueOf (s) ∧ countOf (partialReady line s) = countOf (s) ∧ memOf (partialReady
        line s) = memOf (s) := by
  unfold partialReady
  simp

@[simp] theorem dropRead_rest (p : REntry → Bool) (s : State) :
    queueOf (dropRead p s) = queueOf (s) ∧ countOf (dropRead p s) = countOf (s) ∧ memOf (dropRead p s) = memOf (s) :=
        by
  unfold dropRead
  simp

@[simp] theorem logEvent_rest (type : Nat) (words : List Nat) (s : State) :
    queueOf (logEvent type words s) = queueOf (s) ∧ countOf (logEvent type words s) = countOf (s) ∧ memOf (logEvent
        type words s) = memOf (s) := by
  unfold logEvent
  simp [pending_queueOf, count_countOf, mem_memOf]

@[simp] theorem setRank_rest (i st : Nat) (s : State) :
    queueOf (setRank i st s) = queueOf (s) ∧ countOf (setRank i st s) = countOf (s) ∧ memOf (setRank i st s) = memOf
        (s) := by
  unfold setRank
  simp [pending_queueOf, count_countOf, mem_memOf]

@[simp] theorem setMigWaiting_rest (l : List Nat) (s : State) :
    queueOf (setMigWaiting l s) = queueOf (s) ∧ countOf (setMigWaiting l s) = countOf (s) ∧ memOf (setMigWaiting l s)
        = memOf (s) := by
  unfold setMigWaiting
  simp [pending_queueOf, count_countOf, mem_memOf]

@[simp] theorem retireRank_rest (i : Nat) (s : State) :
    queueOf (retireRank i s) = queueOf (s) ∧ countOf (retireRank i s) = countOf (s) ∧ memOf (retireRank i s) = memOf
        (s) := by
  unfold retireRank
  simp

@[simp] theorem assignSpare_rest (m : Nat) (d : Nat × Nat) (s : State) :
    queueOf (assignSpare m d s) = queueOf (s) ∧ countOf (assignSpare m d s) = countOf (s) ∧ memOf (assignSpare m d s)
        = memOf (s) := by
  unfold assignSpare
  simp

@[simp] theorem freeSpareOf_rest (i : Nat) (s : State) :
    queueOf (freeSpareOf i s) = queueOf (s) ∧ countOf (freeSpareOf i s) = countOf (s) ∧ memOf (freeSpareOf i s) =
        memOf (s) := by
  unfold freeSpareOf
  (repeat' split) <;> simp

@[simp] theorem etaShow_rest (s : State) :
    queueOf (etaShow s) = queueOf (s) ∧ countOf (etaShow s) = countOf (s) ∧ memOf (etaShow s) = memOf (s) := by
  unfold etaShow
  simp

@[simp] theorem autoRetire_rest (s : State) :
    queueOf (autoRetire s) = queueOf (s) ∧ countOf (autoRetire s) = countOf (s) ∧ memOf (autoRetire s) = memOf (s) :=
        by
  unfold autoRetire
  simp

@[simp] theorem startMigration_rest (s : State) :
    queueOf (startMigration s) = queueOf (s) ∧ countOf (startMigration s) = countOf (s) ∧ memOf (startMigration s) =
        memOf (s) := by
  unfold startMigration
  (repeat' split) <;> simp

@[simp] theorem rankUncorrectable_rest (line : Nat) (s : State) :
    queueOf (rankUncorrectable line s) = queueOf (s) ∧ countOf (rankUncorrectable line s) = countOf (s) ∧ memOf
        (rankUncorrectable line s) = memOf (s) := by
  unfold rankUncorrectable
  simp [pending_queueOf, count_countOf, mem_memOf]

@[simp] theorem rankCorrected_rest (line : Nat) (s : State) :
    queueOf (rankCorrected line s) = queueOf (s) ∧ countOf (rankCorrected line s) = countOf (s) ∧ memOf
        (rankCorrected line s) = memOf (s) := by
  unfold rankCorrected
  simp

@[simp] theorem lastUe_rest (line : Nat) (finder : Nat) (s : State) :
    queueOf (lastUe line finder s) = queueOf (s) ∧ countOf (lastUe line finder s) = countOf (s) ∧ memOf (lastUe line
        finder s) = memOf (s) := by
  unfold lastUe
  simp

@[simp] theorem poisonLine_rest (line finder : Nat) (s : State) :
    queueOf (poisonLine line finder s) = queueOf (s) ∧ countOf (poisonLine line finder s) = countOf (s) ∧ memOf
        (poisonLine line finder s) = memOf (s) := by
  unfold poisonLine
  simp

@[simp] theorem sendTwin_rest (kind : String) (words : List Nat) (s : State) :
    queueOf (sendTwin kind words s) = queueOf (s) ∧ countOf (sendTwin kind words s) = countOf (s) ∧ memOf (sendTwin
        kind words s) = memOf (s) := by
  unfold sendTwin
  simp

@[simp] theorem twinIndicate_rest (s : State) :
    queueOf (twinIndicate s) = queueOf (s) ∧ countOf (twinIndicate s) = countOf (s) ∧ memOf (twinIndicate s) = memOf
        (s) := by
  unfold twinIndicate
  simp [pending_queueOf, count_countOf, mem_memOf]

@[simp] theorem setTwinState_rest (st : Nat) (s : State) :
    queueOf (setTwinState st s) = queueOf (s) ∧ countOf (setTwinState st s) = countOf (s) ∧ memOf (setTwinState st s)
        = memOf (s) := by
  unfold setTwinState
  simp

@[simp] theorem setGen_rest (f : Fld) (v : Nat) (s : State) :
    queueOf (setGen f v s) = queueOf (s) ∧ countOf (setGen f v s) = countOf (s) ∧ memOf (setGen f v s) = memOf (s) :=
        by
  unfold setGen
  simp

@[simp] theorem sealN_rest (s : State) :
    queueOf (sealN s) = queueOf (s) ∧ countOf (sealN s) = countOf (s) ∧ memOf (sealN s) = memOf (s) := by
  unfold sealN
  simp

@[simp] theorem homeGenWrite_rest (g : Nat) (s : State) :
    queueOf (homeGenWrite g s) = queueOf (s) ∧ countOf (homeGenWrite g s) = countOf (s) ∧ memOf (homeGenWrite g s) =
        memOf (s) := by
  unfold homeGenWrite
  simp [pending_queueOf, count_countOf, mem_memOf]

@[simp] theorem sendMirror_rest (line : Nat) (be : BitVec 64) (data : Line) (ctx : Option Nat) (s : State) :
    queueOf (sendMirror line be data ctx s) = queueOf (s) ∧ countOf (sendMirror line be data ctx s) = countOf (s) ∧
        memOf (sendMirror line be data ctx s) = memOf (s) := by
  unfold sendMirror
  simp [pending_queueOf, count_countOf, mem_memOf]

@[simp] theorem noteWrite_rest (line : Nat) (be : BitVec 64) (data : Line) (port : Option Nat) (ctx : Option Nat) (s
    : State) :
    queueOf (noteWrite line be data port ctx s) = queueOf (s) ∧ countOf (noteWrite line be data port ctx s) = countOf
        (s) ∧ memOf (noteWrite line be data port ctx s) = memOf (s) := by
  unfold noteWrite
  simp

@[simp] theorem setTwinDirty_rest (g : Nat) (s : State) :
    queueOf (setTwinDirty g s) = queueOf (s) ∧ countOf (setTwinDirty g s) = countOf (s) ∧ memOf (setTwinDirty g s) =
        memOf (s) := by
  unfold setTwinDirty
  simp

@[simp] theorem stopMirroring_rest (s : State) :
    queueOf (stopMirroring s) = queueOf (s) ∧ countOf (stopMirroring s) = countOf (s) ∧ memOf (stopMirroring s) =
        memOf (s) := by
  unfold stopMirroring
  simp [pending_queueOf, count_countOf, mem_memOf]

@[simp] theorem releaseMirrorWaits_rest (s : State) :
    queueOf (releaseMirrorWaits s) = queueOf (s) ∧ countOf (releaseMirrorWaits s) = countOf (s) ∧ memOf
        (releaseMirrorWaits s) = memOf (s) := by
  unfold releaseMirrorWaits
  simp [pending_queueOf, count_countOf, mem_memOf]

@[simp] theorem releasePrepares_rest (s : State) :
    queueOf (releasePrepares s) = queueOf (s) ∧ countOf (releasePrepares s) = countOf (s) ∧ memOf (releasePrepares s)
        = memOf (s) := by
  unfold releasePrepares
  simp [pending_queueOf, count_countOf, mem_memOf]

@[simp] theorem leaveTwin_rest (st : Nat) (s : State) :
    queueOf (leaveTwin st s) = queueOf (s) ∧ countOf (leaveTwin st s) = countOf (s) ∧ memOf (leaveTwin st s) = memOf
        (s) := by
  unfold leaveTwin
  simp

@[simp] theorem retrainPunty_rest (s : State) :
    queueOf (retrainPunty s) = queueOf (s) ∧ countOf (retrainPunty s) = countOf (s) ∧ memOf (retrainPunty s) = memOf
        (s) := by
  unfold retrainPunty
  simp

@[simp] theorem spendLine_rest (s : State) :
    queueOf (spendLine s) = queueOf (s) ∧ countOf (spendLine s) = countOf (s) ∧ memOf (spendLine s) = memOf (s) := by
  unfold spendLine
  simp [pending_queueOf, count_countOf, mem_memOf]

@[simp] theorem serveReads_rest (line : Nat) (s : State) :
    queueOf (serveReads line s) = queueOf (s) ∧ countOf (serveReads line s) = countOf (s) ∧ memOf (serveReads line s)
        = memOf (s) := by
  unfold serveReads
  simp [pending_queueOf, count_countOf, mem_memOf]

@[simp] theorem endReads_rest (line : Nat) (s : State) :
    queueOf (endReads line s) = queueOf (s) ∧ countOf (endReads line s) = countOf (s) ∧ memOf (endReads line s) =
        memOf (s) := by
  unfold endReads
  simp

@[simp] theorem dropRepair_rest (line : Nat) (s : State) :
    queueOf (dropRepair line s) = queueOf (s) ∧ countOf (dropRepair line s) = countOf (s) ∧ memOf (dropRepair line s)
        = memOf (s) := by
  unfold dropRepair
  simp [pending_queueOf, count_countOf, mem_memOf]

@[simp] theorem addRepair_rest (r : Repair) (s : State) :
    queueOf (addRepair r s) = queueOf (s) ∧ countOf (addRepair r s) = countOf (s) ∧ memOf (addRepair r s) = memOf (s)
        := by
  unfold addRepair
  simp [pending_queueOf, count_countOf, mem_memOf]

@[simp] theorem placeRepair_rest (line : Nat) (d : Line) (s : State) :
    queueOf (placeRepair line d s) = queueOf (s) ∧ countOf (placeRepair line d s) = countOf (s) := by
  unfold placeRepair
  simp

@[simp] theorem repaired_rest (line : Nat) (d : Line) (fromTwin : Bool) (s : State) :
    queueOf (repaired line d fromTwin s) = queueOf (s) ∧ countOf (repaired line d fromTwin s) = countOf (s) := by
  unfold repaired
  simp

@[simp] theorem spillLost_rest (q line : Nat) (s : State) :
    queueOf (spillLost q line s) = queueOf (s) ∧ countOf (spillLost q line s) = countOf (s) ∧ memOf (spillLost q line
        s) = memOf (s) := by
  unfold spillLost
  simp

@[simp] theorem unrepaired_rest (line : Nat) (finder : Nat) (s : State) :
    queueOf (unrepaired line finder s) = queueOf (s) ∧ countOf (unrepaired line finder s) = countOf (s) ∧ memOf
        (unrepaired line finder s) = memOf (s) := by
  unfold unrepaired
  dsimp only
  (repeat' split) <;> simp

@[simp] theorem repairSealed_rest (line : Nat) (finder : Finder) (s : State) :
    queueOf (repairSealed line finder s) = queueOf (s) ∧ countOf (repairSealed line finder s) = countOf (s) := by
  unfold repairSealed
  simp

@[simp] theorem repairOnward_rest (line : Nat) (finder : Finder) (s : State) :
    queueOf (repairOnward line finder s) = queueOf (s) ∧ countOf (repairOnward line finder s) = countOf (s) := by
  unfold repairOnward
  simp

@[simp] theorem repairsOnward_rest (s : State) :
    queueOf (repairsOnward s) = queueOf (s) ∧ countOf (repairsOnward s) = countOf (s) := by
  unfold repairsOnward
  simp

@[simp] theorem startRepair_rest (line : Nat) (finder : Finder) (s : State) :
    queueOf (startRepair line finder s) = queueOf (s) ∧ countOf (startRepair line finder s) = countOf (s) := by
  unfold startRepair
  simp

@[simp] theorem overtakeRepair_rest (line : Nat) (s : State) :
    queueOf (overtakeRepair line s) = queueOf (s) ∧ countOf (overtakeRepair line s) = countOf (s) ∧ memOf
        (overtakeRepair line s) = memOf (s) := by
  unfold overtakeRepair
  simp

@[simp] theorem twinLostNow_rest (s : State) :
    queueOf (twinLostNow s) = queueOf (s) ∧ countOf (twinLostNow s) = countOf (s) := by
  unfold twinLostNow
  simp

@[simp] theorem puntyDown_rest (s : State) :
    queueOf (puntyDown s) = queueOf (s) ∧ countOf (puntyDown s) = countOf (s) := by
  unfold puntyDown
  simp

@[simp] theorem lineRead_rest (line : Nat) (finder : Finder) (err : LineErrors) (s : State) :
    queueOf (lineRead line finder err s) = queueOf (s) ∧ countOf (lineRead line finder err s) = countOf (s) := by
  unfold lineRead
  (repeat' split) <;> simp

@[simp] theorem readOld_rest (line : Nat) (e : LineErrors) (s : State) :
    queueOf (readOld line e s) = queueOf (s) ∧ countOf (readOld line e s) = countOf (s) := by
  unfold readOld
  simp

@[simp] theorem ctxResult_rest (g r : Nat) (s : State) :
    queueOf (ctxResult g r s) = queueOf (s) ∧ countOf (ctxResult g r s) = countOf (s) ∧ memOf (ctxResult g r s) =
        memOf (s) := by
  unfold ctxResult
  simp

@[simp] theorem ctxFrame_rest (g f : Nat) (s : State) :
    queueOf (ctxFrame g f s) = queueOf (s) ∧ countOf (ctxFrame g f s) = countOf (s) ∧ memOf (ctxFrame g f s) = memOf
        (s) := by
  unfold ctxFrame
  simp

@[simp] theorem txnShow_rest (s : State) :
    queueOf (txnShow s) = queueOf (s) ∧ countOf (txnShow s) = countOf (s) ∧ memOf (txnShow s) = memOf (s) := by
  unfold txnShow
  simp

@[simp] theorem replayShow_rest (s : State) :
    queueOf (replayShow s) = queueOf (s) ∧ countOf (replayShow s) = countOf (s) ∧ memOf (replayShow s) = memOf (s) :=
        by
  unfold replayShow
  simp

@[simp] theorem setCtxState_rest (g st : Nat) (s : State) :
    queueOf (setCtxState g st s) = queueOf (s) ∧ countOf (setCtxState g st s) = countOf (s) ∧ memOf (setCtxState g st
        s) = memOf (s) := by
  unfold setCtxState
  simp

@[simp] theorem noteEnd_rest (g : Nat) (s : State) :
    queueOf (noteEnd g s) = queueOf (s) ∧ countOf (noteEnd g s) = countOf (s) ∧ memOf (noteEnd g s) = memOf (s) := by
  unfold noteEnd
  simp [pending_queueOf, count_countOf, mem_memOf]

@[simp] theorem setPairs_rest (l : List Pair) (s : State) :
    queueOf (setPairs l s) = queueOf (s) ∧ countOf (setPairs l s) = countOf (s) ∧ memOf (setPairs l s) = memOf (s) :=
        by
  unfold setPairs
  simp [pending_queueOf, count_countOf, mem_memOf]

@[simp] theorem holdPair_rest (c g : Nat) (s : State) :
    queueOf (holdPair c g s) = queueOf (s) ∧ countOf (holdPair c g s) = countOf (s) ∧ memOf (holdPair c g s) = memOf
        (s) := by
  unfold holdPair
  simp

@[simp] theorem logLine_rest (c line : Nat) (s : State) :
    queueOf (logLine c line s) = queueOf (s) ∧ countOf (logLine c line s) = countOf (s) := by
  unfold logLine
  dsimp only
  (repeat' split) <;> simp

@[simp] theorem startAbort_rest (g : Nat) (s : State) :
    queueOf (startAbort g s) = queueOf (s) ∧ countOf (startAbort g s) = countOf (s) ∧ memOf (startAbort g s) = memOf
        (s) := by
  unfold startAbort
  simp [pending_queueOf, count_countOf, mem_memOf]

@[simp] theorem putLine_rest (line : Nat) (d : Line) (poison : Bool) (s : State) :
    queueOf (putLine line d poison s) = queueOf (s) ∧ countOf (putLine line d poison s) = countOf (s) := by
  unfold putLine
  simp

@[simp] theorem dropUndo_rest (c g line : Nat) (s : State) :
    queueOf (dropUndo c g line s) = queueOf (s) ∧ countOf (dropUndo c g line s) = countOf (s) ∧ memOf (dropUndo c g
        line s) = memOf (s) := by
  unfold dropUndo
  simp

@[simp] theorem undoUncorrectable_rest (c line : Nat) (replay : Bool) (s : State) :
    queueOf (undoUncorrectable c line replay s) = queueOf (s) ∧ countOf (undoUncorrectable c line replay s) = countOf
        (s) ∧ memOf (undoUncorrectable c line replay s) = memOf (s) := by
  unfold undoUncorrectable
  simp

@[simp] theorem replayEntry_rest (c g line : Nat) (lost : Bool) (s : State) :
    queueOf (replayEntry c g line lost s) = queueOf (s) ∧ countOf (replayEntry c g line lost s) = countOf (s) := by
  unfold replayEntry
  (repeat' split) <;> simp

@[simp] theorem replayRead_rest (c g line : Nat) (err : LineErrors) (s : State) :
    queueOf (replayRead c g line err s) = queueOf (s) ∧ countOf (replayRead c g line err s) = countOf (s) := by
  unfold replayRead
  (repeat' split) <;> simp

@[simp] theorem replayAhead_rest (line : Nat) (err : LineErrors) (s : State) :
    queueOf (replayAhead line err s) = queueOf (s) ∧ countOf (replayAhead line err s) = countOf (s) := by
  unfold replayAhead
  simp

@[simp] theorem replayNext_rest (c : Nat) (lost : Bool) (s : State) :
    queueOf (replayNext c lost s) = queueOf (s) ∧ countOf (replayNext c lost s) = countOf (s) := by
  unfold replayNext
  (repeat' split) <;> simp

@[simp] theorem rollback_rest (c : Nat) (s : State) :
    queueOf (rollback c s) = queueOf (s) ∧ countOf (rollback c s) = countOf (s) := by
  unfold rollback
  simp

@[simp] theorem clearColumn_rest (c : Nat) (s : State) :
    queueOf (clearColumn c s) = queueOf (s) ∧ countOf (clearColumn c s) = countOf (s) ∧ memOf (clearColumn c s) =
        memOf (s) := by
  unfold clearColumn
  simp

@[simp] theorem voidUndo_rest (c : Nat) (s : State) :
    queueOf (voidUndo c s) = queueOf (s) ∧ countOf (voidUndo c s) = countOf (s) ∧ memOf (voidUndo c s) = memOf (s) :=
        by
  unfold voidUndo
  simp

@[simp] theorem commitCtx_rest (g : Nat) (degraded : Bool) (s : State) :
    queueOf (commitCtx g degraded s) = queueOf (s) ∧ countOf (commitCtx g degraded s) = countOf (s) ∧ memOf
        (commitCtx g degraded s) = memOf (s) := by
  unfold commitCtx
  simp [pending_queueOf, count_countOf, mem_memOf]

@[simp] theorem finishReplay_rest (g : Nat) (s : State) :
    queueOf (finishReplay g s) = queueOf (s) ∧ countOf (finishReplay g s) = countOf (s) ∧ memOf (finishReplay g s) =
        memOf (s) := by
  unfold finishReplay
  simp [pending_queueOf, count_countOf, mem_memOf]

@[simp] theorem discardRequest_rest (g : Nat) (s : State) :
    queueOf (discardRequest g s) = queueOf (s) ∧ countOf (discardRequest g s) = countOf (s) ∧ memOf (discardRequest g
        s) = memOf (s) := by
  unfold discardRequest
  simp [pending_queueOf, count_countOf, mem_memOf]

@[simp] theorem enterDoubt_rest (g : Nat) (s : State) :
    queueOf (enterDoubt g s) = queueOf (s) ∧ countOf (enterDoubt g s) = countOf (s) ∧ memOf (enterDoubt g s) = memOf
        (s) := by
  unfold enterDoubt
  simp

@[simp] theorem setMaskBit_rest (lo hi : Fld) (c : Nat) (b : Bool) (s : State) :
    queueOf (setMaskBit lo hi c b s) = queueOf (s) ∧ countOf (setMaskBit lo hi c b s) = countOf (s) ∧ memOf
        (setMaskBit lo hi c b s) = memOf (s) := by
  unfold setMaskBit
  simp

@[simp] theorem setRemoteOpen_rest (c : Nat) (b : Bool) (s : State) :
    queueOf (setRemoteOpen c b s) = queueOf (s) ∧ countOf (setRemoteOpen c b s) = countOf (s) ∧ memOf (setRemoteOpen
        c b s) = memOf (s) := by
  unfold setRemoteOpen
  simp

@[simp] theorem setRemotePrepared_rest (c : Nat) (b : Bool) (s : State) :
    queueOf (setRemotePrepared c b s) = queueOf (s) ∧ countOf (setRemotePrepared c b s) = countOf (s) ∧ memOf
        (setRemotePrepared c b s) = memOf (s) := by
  unfold setRemotePrepared
  simp

@[simp] theorem endRemote_rest (c : Nat) (s : State) :
    queueOf (endRemote c s) = queueOf (s) ∧ countOf (endRemote c s) = countOf (s) ∧ memOf (endRemote c s) = memOf (s)
        := by
  unfold endRemote
  simp [pending_queueOf, count_countOf, mem_memOf]

@[simp] theorem logDecision_rest (e : LogEntry) (s : State) :
    queueOf (logDecision e s) = queueOf (s) ∧ countOf (logDecision e s) = countOf (s) ∧ memOf (logDecision e s) =
        memOf (s) := by
  unfold logDecision
  simp [pending_queueOf, count_countOf, mem_memOf]

@[simp] theorem recordFor_rest (g : Nat) (commit : Bool) (tick : Nat) (s : State) :
    queueOf (recordFor g commit tick s) = queueOf (s) ∧ countOf (recordFor g commit tick s) = countOf (s) ∧ memOf
        (recordFor g commit tick s) = memOf (s) := by
  unfold recordFor
  simp [pending_queueOf, count_countOf, mem_memOf]

@[simp] theorem forgetBallot_rest (g : Nat) (s : State) :
    queueOf (forgetBallot g s) = queueOf (s) ∧ countOf (forgetBallot g s) = countOf (s) ∧ memOf (forgetBallot g s) =
        memOf (s) := by
  unfold forgetBallot
  simp [pending_queueOf, count_countOf, mem_memOf]

@[simp] theorem applyOutcome_rest (g : Nat) (commit : Bool) (s : State) :
    queueOf (applyOutcome g commit s) = queueOf (s) ∧ countOf (applyOutcome g commit s) = countOf (s) ∧ memOf
        (applyOutcome g commit s) = memOf (s) := by
  unfold applyOutcome
  simp [pending_queueOf, count_countOf, mem_memOf]

@[simp] theorem countDirtyShutdown_rest (s : State) :
    queueOf (countDirtyShutdown s) = queueOf (s) ∧ countOf (countDirtyShutdown s) = countOf (s) ∧ memOf
        (countDirtyShutdown s) = memOf (s) := by
  unfold countDirtyShutdown
  simp [pending_queueOf, count_countOf, mem_memOf]

@[simp] theorem setBlock_rest (l : Loc) (b : Block) (s : State) :
    queueOf (setBlock l b s) = queueOf (s) ∧ countOf (setBlock l b s) = countOf (s) ∧ memOf (setBlock l b s) = memOf
        (s) := by
  unfold setBlock
  simp [pending_queueOf, count_countOf, mem_memOf]

@[simp] theorem openBlock_rest (ch die : Nat) (s : State) :
    queueOf (openBlock ch die s) = queueOf (s) ∧ countOf (openBlock ch die s) = countOf (s) ∧ memOf (openBlock ch die
        s) = memOf (s) := by
  unfold openBlock
  (repeat' split) <;> simp [pending_queueOf, count_countOf, mem_memOf]

@[simp] theorem appendPoint_rest (ch die : Nat) (s : State) :
    queueOf (appendPoint ch die s) = queueOf (s) ∧ countOf (appendPoint ch die s) = countOf (s) ∧ memOf (appendPoint
        ch die s) = memOf (s) := by
  unfold appendPoint
  (repeat' split) <;> simp

@[simp] theorem usePage_rest (ch die : Nat) (s : State) :
    queueOf (usePage ch die s) = queueOf (s) ∧ countOf (usePage ch die s) = countOf (s) ∧ memOf (usePage ch die s) =
        memOf (s) := by
  unfold usePage
  simp

@[simp] theorem placePages_rest (ch die n : Nat) (isSeal : Bool) (s : State) :
    queueOf (placePages ch die n isSeal s) = queueOf (s) ∧ countOf (placePages ch die n isSeal s) = countOf (s) ∧
        memOf (placePages ch die n isSeal s) = memOf (s) := by
  unfold placePages
  simp [pending_queueOf, count_countOf, mem_memOf]

@[simp] theorem unqueue_rest (ch n : Nat) (s : State) :
    queueOf (unqueue ch n s) = queueOf (s) ∧ countOf (unqueue ch n s) = countOf (s) ∧ memOf (unqueue ch n s) = memOf
        (s) := by
  unfold unqueue
  simp [pending_queueOf, count_countOf, mem_memOf]

@[simp] theorem setDelta_rest (l : List Delta) (s : State) :
    queueOf (setDelta l s) = queueOf (s) ∧ countOf (setDelta l s) = countOf (s) ∧ memOf (setDelta l s) = memOf (s) :=
        by
  unfold setDelta
  simp [pending_queueOf, count_countOf, mem_memOf]

@[simp] theorem enterDelta_rest (g gen : Nat) (confirm : Bool) (loc : Nat) (s : State) :
    queueOf (enterDelta g gen confirm loc s) = queueOf (s) ∧ countOf (enterDelta g gen confirm loc s) = countOf (s) ∧
        memOf (enterDelta g gen confirm loc s) = memOf (s) := by
  unfold enterDelta
  simp [pending_queueOf, count_countOf, mem_memOf]

@[simp] theorem startSeal_rest (g ch die : Nat) (bySave : Bool) (poison : List Nat) (s : State) :
    queueOf (startSeal g ch die bySave poison s) = queueOf (s) ∧ countOf (startSeal g ch die bySave poison s) =
        countOf (s) := by
  unfold startSeal
  simp [pending_queueOf, count_countOf, mem_memOf]

@[simp] theorem dropSealing_rest (g : Nat) (s : State) :
    queueOf (dropSealing g s) = queueOf (s) ∧ countOf (dropSealing g s) = countOf (s) ∧ memOf (dropSealing g s) =
        memOf (s) := by
  unfold dropSealing
  simp [pending_queueOf, count_countOf, mem_memOf]

@[simp] theorem countSealed_rest (s : State) :
    queueOf (countSealed s) = queueOf (s) ∧ countOf (countSealed s) = countOf (s) ∧ memOf (countSealed s) = memOf (s)
        := by
  unfold countSealed
  simp [pending_queueOf, count_countOf, mem_memOf]

@[simp] theorem endSeal_rest (r : SealRec) (s : State) :
    queueOf (endSeal r s) = queueOf (s) ∧ countOf (endSeal r s) = countOf (s) ∧ memOf (endSeal r s) = memOf (s) := by
  unfold endSeal
  dsimp only
  (repeat' split) <;> simp [pending_queueOf, count_countOf, mem_memOf]

@[simp] theorem abandonSeal_rest (g : Nat) (s : State) :
    queueOf (abandonSeal g s) = queueOf (s) ∧ countOf (abandonSeal g s) = countOf (s) ∧ memOf (abandonSeal g s) =
        memOf (s) := by
  unfold abandonSeal
  (repeat' split) <;> simp

@[simp] theorem programRecord_rest (b : RecBody) (bySave : Bool) (s : State) :
    queueOf (programRecord b bySave s) = queueOf (s) ∧ countOf (programRecord b bySave s) = countOf (s) ∧ memOf
        (programRecord b bySave s) = memOf (s) := by
  unfold programRecord
  dsimp only
  (repeat' split) <;> simp [pending_queueOf, count_countOf, mem_memOf]

@[simp] theorem abandonAll_rest (s : State) :
    queueOf (abandonAll s) = queueOf (s) ∧ countOf (abandonAll s) = countOf (s) ∧ memOf (abandonAll s) = memOf (s) :=
        by
  unfold abandonAll
  simp

@[simp] theorem culletShow_rest (s : State) :
    queueOf (culletShow s) = queueOf (s) ∧ countOf (culletShow s) = countOf (s) ∧ memOf (culletShow s) = memOf (s) :=
        by
  unfold culletShow
  dsimp only
  (repeat' split) <;> simp

@[simp] theorem poolShow_rest (s : State) :
    queueOf (poolShow s) = queueOf (s) ∧ countOf (poolShow s) = countOf (s) ∧ memOf (poolShow s) = memOf (s) := by
  unfold poolShow
  simp

@[simp] theorem enterCullet_rest (l : Loc) (s : State) :
    queueOf (enterCullet l s) = queueOf (s) ∧ countOf (enterCullet l s) = countOf (s) ∧ memOf (enterCullet l s) =
        memOf (s) := by
  unfold enterCullet
  (repeat' split) <;> simp [pending_queueOf, count_countOf, mem_memOf]

@[simp] theorem growBad_rest (l : Loc) (cause : Nat) (s : State) :
    queueOf (growBad l cause s) = queueOf (s) ∧ countOf (growBad l cause s) = countOf (s) ∧ memOf (growBad l cause s)
        = memOf (s) := by
  unfold growBad
  simp [pending_queueOf, count_countOf, mem_memOf]

@[simp] theorem channelFailed_rest (ch : Nat) (s : State) :
    queueOf (channelFailed ch s) = queueOf (s) ∧ countOf (channelFailed ch s) = countOf (s) ∧ memOf (channelFailed ch
        s) = memOf (s) := by
  unfold channelFailed
  simp

@[simp] theorem failDie_rest (ch die : Nat) (s : State) :
    queueOf (failDie ch die s) = queueOf (s) ∧ countOf (failDie ch die s) = countOf (s) ∧ memOf (failDie ch die s) =
        memOf (s) := by
  unfold failDie
  simp [pending_queueOf, count_countOf, mem_memOf]

@[simp] theorem dieStreak_rest (l : Loc) (s : State) :
    queueOf (dieStreak l s) = queueOf (s) ∧ countOf (dieStreak l s) = countOf (s) ∧ memOf (dieStreak l s) = memOf (s)
        := by
  unfold dieStreak
  simp [pending_queueOf, count_countOf, mem_memOf]

@[simp] theorem dieGood_rest (ch die : Nat) (s : State) :
    queueOf (dieGood ch die s) = queueOf (s) ∧ countOf (dieGood ch die s) = countOf (s) ∧ memOf (dieGood ch die s) =
        memOf (s) := by
  unfold dieGood
  simp [pending_queueOf, count_countOf, mem_memOf]

@[simp] theorem startMove_rest (r : SealRec) (ch die : Nat) (s : State) :
    queueOf (startMove r ch die s) = queueOf (s) ∧ countOf (startMove r ch die s) = countOf (s) ∧ memOf (startMove r
        ch die s) = memOf (s) := by
  unfold startMove
  simp [pending_queueOf, count_countOf, mem_memOf]

@[simp] theorem dropMoves_rest (s : State) :
    queueOf (dropMoves s) = queueOf (s) ∧ countOf (dropMoves s) = countOf (s) ∧ memOf (dropMoves s) = memOf (s) := by
  unfold dropMoves
  and_intros
  all_goals first
    | refine (forEach_pending _ _ _ fun r t => ?_).trans ?_
    | refine (forEach_count _ _ _ fun r t => ?_).trans ?_
    | refine (forEach_mem _ _ _ fun r t => ?_).trans ?_
  all_goals (try dsimp only)
  all_goals ((repeat' split) <;> simp [pending_queueOf, count_countOf, mem_memOf])

@[simp] theorem eraseAnchor_rest (ch : Nat) (a : Anchor) (s : State) :
    queueOf (eraseAnchor ch a s) = queueOf (s) ∧ countOf (eraseAnchor ch a s) = countOf (s) ∧ memOf (eraseAnchor ch a
        s) = memOf (s) := by
  unfold eraseAnchor
  (repeat' split) <;> simp [pending_queueOf, count_countOf, mem_memOf]

@[simp] theorem manifestShow_rest (s : State) :
    queueOf (manifestShow s) = queueOf (s) ∧ countOf (manifestShow s) = countOf (s) ∧ memOf (manifestShow s) = memOf
        (s) := by
  unfold manifestShow
  simp

@[simp] theorem programManifest_rest (m : Manifest) (a b : Bool) (s : State) :
    queueOf (programManifest m a b s) = queueOf (s) ∧ countOf (programManifest m a b s) = countOf (s) ∧ memOf
        (programManifest m a b s) = memOf (s) := by
  unfold programManifest
  simp [pending_queueOf, count_countOf, mem_memOf]

@[simp] theorem writeMap_rest (n : Nat) (p : Nat) (s : State) :
    queueOf (writeMap n p s) = queueOf (s) ∧ countOf (writeMap n p s) = countOf (s) ∧ memOf (writeMap n p s) = memOf
        (s) := by
  unfold writeMap
  simp

@[simp] theorem writeDelta_rest (bySave : Bool) (s : State) :
    queueOf (writeDelta bySave s) = queueOf (s) ∧ countOf (writeDelta bySave s) = countOf (s) ∧ memOf (writeDelta
        bySave s) = memOf (s) := by
  unfold writeDelta
  simp [pending_queueOf, count_countOf, mem_memOf]

@[simp] theorem writeDirectory_rest (bySave : Bool) (s : State) :
    queueOf (writeDirectory bySave s) = queueOf (s) ∧ countOf (writeDirectory bySave s) = countOf (s) ∧ memOf
        (writeDirectory bySave s) = memOf (s) := by
  unfold writeDirectory
  simp

@[simp] theorem writeCullet_rest (bySave : Bool) (s : State) :
    queueOf (writeCullet bySave s) = queueOf (s) ∧ countOf (writeCullet bySave s) = countOf (s) ∧ memOf (writeCullet
        bySave s) = memOf (s) := by
  unfold writeCullet
  simp

@[simp] theorem setStage_rest (n : Nat) (s : State) :
    queueOf (setStage n s) = queueOf (s) ∧ countOf (setStage n s) = countOf (s) ∧ memOf (setStage n s) = memOf (s) :=
        by
  unfold setStage
  simp

@[simp] theorem clearRange_rest (lo n : Nat) (keep : Nat → Bool) (s : State) :
    queueOf (clearRange lo n keep s) = queueOf (s) ∧ countOf (clearRange lo n keep s) = countOf (s) := by
  unfold clearRange
  simp [pending_queueOf, count_countOf, mem_memOf]

@[simp] theorem loadImage_rest (g : Nat) (image : List Host.Cell) (poison : List Nat) (keep : Nat → Bool) (s : State)
    :
    queueOf (loadImage g image poison keep s) = queueOf (s) ∧ countOf (loadImage g image poison keep s) = countOf (s)
        := by
  unfold loadImage
  simp

@[simp] theorem poisonGranule_rest (g : Nat) (keep : Nat → Bool) (s : State) :
    queueOf (poisonGranule g keep s) = queueOf (s) ∧ countOf (poisonGranule g keep s) = countOf (s) := by
  unfold poisonGranule
  simp

@[simp] theorem restoreLost_rest (g : Nat) (s : State) :
    queueOf (restoreLost g s) = queueOf (s) ∧ countOf (restoreLost g s) = countOf (s) ∧ memOf (restoreLost g s) =
        memOf (s) := by
  unfold restoreLost
  simp [pending_queueOf, count_countOf, mem_memOf]

@[simp] theorem setInflight_rest (l : List (Nat × Flight)) (s : State) :
    queueOf (setInflight l s) = queueOf (s) ∧ countOf (setInflight l s) = countOf (s) ∧ memOf (setInflight l s) =
        memOf (s) := by
  unfold setInflight
  simp [pending_queueOf, count_countOf, mem_memOf]

@[simp] theorem markRestored_rest (g : Nat) (s : State) :
    queueOf (markRestored g s) = queueOf (s) ∧ countOf (markRestored g s) = countOf (s) ∧ memOf (markRestored g s) =
        memOf (s) := by
  unfold markRestored
  simp [pending_queueOf, count_countOf, mem_memOf]

@[simp] theorem restoreGranule_rest (g : Nat) (ok : Bool) (s : State) :
    queueOf (restoreGranule g ok s) = queueOf (s) ∧ countOf (restoreGranule g ok s) = countOf (s) := by
  unfold restoreGranule
  dsimp only
  (repeat' split) <;> simp

@[simp] theorem demandFetch_rest (g : Nat) (s : State) :
    queueOf (demandFetch g s) = queueOf (s) ∧ countOf (demandFetch g s) = countOf (s) ∧ memOf (demandFetch g s) =
        memOf (s) := by
  unfold demandFetch
  simp

@[simp] theorem sweepFetch_rest (g : Nat) (s : State) :
    queueOf (sweepFetch g s) = queueOf (s) ∧ countOf (sweepFetch g s) = countOf (s) ∧ memOf (sweepFetch g s) = memOf
        (s) := by
  unfold sweepFetch
  dsimp only
  (repeat' split) <;> simp

@[simp] theorem sweep_rest (x0 : Nat) (s : State) :
    queueOf (sweep x0 s) = queueOf (s) ∧ countOf (sweep x0 s) = countOf (s) ∧ memOf (sweep x0 s) = memOf (s) := by
  induction x0 generalizing s with
  | zero => simp [sweep]
  | succ k ih =>
    unfold sweep
    (repeat' split) <;> simp [ih, pending_queueOf, count_countOf, mem_memOf]

@[simp] theorem slotWrite_rest (g line : Nat) (s : State) :
    queueOf (slotWrite g line s) = queueOf (s) ∧ countOf (slotWrite g line s) = countOf (s) ∧ memOf (slotWrite g line
        s) = memOf (s) := by
  unfold slotWrite
  (repeat' split) <;> simp

@[simp] theorem loadContext_rest (c : SavedCtx) (s : State) :
    queueOf (loadContext c s) = queueOf (s) ∧ countOf (loadContext c s) = countOf (s) ∧ memOf (loadContext c s) =
        memOf (s) := by
  unfold loadContext
  simp [pending_queueOf, count_countOf, mem_memOf]

@[simp] theorem loadSlab_rest (p : SavedPair) (s : State) :
    queueOf (loadSlab p s) = queueOf (s) ∧ countOf (loadSlab p s) = countOf (s) := by
  unfold loadSlab
  simp

@[simp] theorem loadHold_rest (cs : List SavedCtx) (ps : List SavedPair) (s : State) :
    queueOf (loadHold cs ps s) = queueOf (s) ∧ countOf (loadHold cs ps s) = countOf (s) := by
  unfold loadHold
  simp

@[simp] theorem loadLog_rest (l : List LogEntry) (s : State) :
    queueOf (loadLog l s) = queueOf (s) ∧ countOf (loadLog l s) = countOf (s) ∧ memOf (loadLog l s) = memOf (s) := by
  unfold loadLog
  simp [pending_queueOf, count_countOf, mem_memOf]

@[simp] theorem beginRollback_rest (s : State) :
    queueOf (beginRollback s) = queueOf (s) ∧ countOf (beginRollback s) = countOf (s) ∧ memOf (beginRollback s) =
        memOf (s) := by
  unfold beginRollback
  simp [pending_queueOf, count_countOf, mem_memOf]

@[simp] theorem rebuildCounts_rest (s : State) :
    queueOf (rebuildCounts s) = queueOf (s) ∧ countOf (rebuildCounts s) = countOf (s) ∧ memOf (rebuildCounts s) =
        memOf (s) := by
  unfold rebuildCounts
  simp [pending_queueOf, count_countOf, mem_memOf]

@[simp] theorem loadGather_rest (m : Manifest) (s : State) :
    queueOf (loadGather m s) = queueOf (s) ∧ countOf (loadGather m s) = countOf (s) ∧ memOf (loadGather m s) = memOf
        (s) := by
  unfold loadGather
  split
  · simp
  · and_intros
    all_goals first
      | refine (forEach_pending _ _ _ fun r t => ?_).trans ?_
      | refine (forEach_count _ _ _ fun r t => ?_).trans ?_
      | refine (forEach_mem _ _ _ fun r t => ?_).trans ?_
    all_goals (try dsimp only)
    all_goals ((repeat' split) <;> simp [pending_queueOf, count_countOf, mem_memOf])

@[simp] theorem loseMoved_rest (s : State) :
    queueOf (loseMoved s) = queueOf (s) ∧ countOf (loseMoved s) = countOf (s) ∧ memOf (loseMoved s) = memOf (s) := by
  unfold loseMoved
  simp

@[simp] theorem dropRecord_rest (g : Nat) (s : State) :
    queueOf (dropRecord g s) = queueOf (s) ∧ countOf (dropRecord g s) = countOf (s) ∧ memOf (dropRecord g s) = memOf
        (s) := by
  unfold dropRecord
  simp [pending_queueOf, count_countOf, mem_memOf]

@[simp] theorem loseUnsealed_rest (g : Nat) (s : State) :
    queueOf (loseUnsealed g s) = queueOf (s) ∧ countOf (loseUnsealed g s) = countOf (s) := by
  unfold loseUnsealed
  simp [pending_queueOf, count_countOf, mem_memOf]

@[simp] theorem loadMetadata_rest (m : Manifest) (s : State) :
    queueOf (loadMetadata m s) = queueOf (s) ∧ countOf (loadMetadata m s) = countOf (s) := by
  unfold loadMetadata
  simp [pending_queueOf, count_countOf, mem_memOf]

@[simp] theorem lostRecords_rest (x0 : Nat) (x1 : List (Nat × Nat)) (s : State) :
    queueOf (lostRecords x0 x1 s) = queueOf (s) ∧ countOf (lostRecords x0 x1 s) = countOf (s) ∧ memOf (lostRecords x0
        x1 s) = memOf (s) := by
  induction x0 generalizing x1 s with
  | zero => simp [lostRecords]
  | succ k ih =>
    unfold lostRecords
    split
    · simp
    · simp [ih]

@[simp] theorem contextRecord_rest (os : List CtxOutcome) (s : State) :
    queueOf (contextRecord os s) = queueOf (s) ∧ countOf (contextRecord os s) = countOf (s) ∧ memOf (contextRecord os
        s) = memOf (s) := by
  unfold contextRecord
  simp

@[simp] theorem continuityShow_rest (s : State) :
    queueOf (continuityShow s) = queueOf (s) ∧ countOf (continuityShow s) = countOf (s) ∧ memOf (continuityShow s) =
        memOf (s) := by
  unfold continuityShow
  simp

@[simp] theorem publishContinuity_rest (warm : Bool) (s : State) :
    queueOf (publishContinuity warm s) = queueOf (s) ∧ countOf (publishContinuity warm s) = countOf (s) ∧ memOf
        (publishContinuity warm s) = memOf (s) := by
  unfold publishContinuity
  simp [pending_queueOf, count_countOf, mem_memOf]

@[simp] theorem addOutcome_rest (g code : Nat) (s : State) :
    queueOf (addOutcome g code s) = queueOf (s) ∧ countOf (addOutcome g code s) = countOf (s) ∧ memOf (addOutcome g
        code s) = memOf (s) := by
  unfold addOutcome
  simp [pending_queueOf, count_countOf, mem_memOf]

@[simp] theorem publishOutcome_rest (g code : Nat) (s : State) :
    queueOf (publishOutcome g code s) = queueOf (s) ∧ countOf (publishOutcome g code s) = countOf (s) ∧ memOf
        (publishOutcome g code s) = memOf (s) := by
  unfold publishOutcome
  simp

@[simp] theorem writeRunRecord_rest (s : State) :
    queueOf (writeRunRecord s) = queueOf (s) ∧ countOf (writeRunRecord s) = countOf (s) ∧ memOf (writeRunRecord s) =
        memOf (s) := by
  unfold writeRunRecord
  simp [pending_queueOf, count_countOf, mem_memOf]

@[simp] theorem mediaShow_rest (n : Nat) (s : State) :
    queueOf (mediaShow n s) = queueOf (s) ∧ countOf (mediaShow n s) = countOf (s) ∧ memOf (mediaShow n s) = memOf (s)
        := by
  unfold mediaShow
  simp

@[simp] theorem mediaAll_rest (s : State) :
    queueOf (mediaAll s) = queueOf (s) ∧ countOf (mediaAll s) = countOf (s) ∧ memOf (mediaAll s) = memOf (s) := by
  unfold mediaAll
  simp

@[simp] theorem portsOpen_rest (s : State) :
    queueOf (portsOpen s) = queueOf (s) ∧ countOf (portsOpen s) = countOf (s) ∧ memOf (portsOpen s) = memOf (s) := by
  unfold portsOpen
  simp

@[simp] theorem admitHost_rest (s : State) :
    queueOf (admitHost s) = queueOf (s) ∧ countOf (admitHost s) = countOf (s) ∧ memOf (admitHost s) = memOf (s) := by
  unfold admitHost
  simp [pending_queueOf, count_countOf, mem_memOf]

@[simp] theorem chooseMode_rest (s : State) :
    queueOf (chooseMode s) = queueOf (s) ∧ countOf (chooseMode s) = countOf (s) ∧ memOf (chooseMode s) = memOf (s) :=
        by
  unfold chooseMode
  simp [pending_queueOf, count_countOf, mem_memOf]

@[simp] theorem restartRestore_rest (s : State) :
    queueOf (restartRestore s) = queueOf (s) ∧ countOf (restartRestore s) = countOf (s) ∧ memOf (restartRestore s) =
        memOf (s) := by
  unfold restartRestore
  simp [pending_queueOf, count_countOf, mem_memOf]

@[simp] theorem wipePage_rest (p : Nat) (keep : List Nat) (s : State) :
    queueOf (wipePage p keep s) = queueOf (s) ∧ countOf (wipePage p keep s) = countOf (s) ∧ memOf (wipePage p keep s)
        = memOf (s) := by
  unfold wipePage
  simp [pending_queueOf, count_countOf, mem_memOf]

@[simp] theorem reloadStored_rest (p : Nat) (s : State) :
    queueOf (reloadStored p s) = queueOf (s) ∧ countOf (reloadStored p s) = countOf (s) ∧ memOf (reloadStored p s) =
        memOf (s) := by
  unfold reloadStored
  simp [pending_queueOf, count_countOf, mem_memOf]

@[simp] theorem capDefaults_rest (s : State) :
    queueOf (capDefaults s) = queueOf (s) ∧ countOf (capDefaults s) = countOf (s) ∧ memOf (capDefaults s) = memOf (s)
        := by
  unfold capDefaults
  simp

@[simp] theorem pairMax_rest (s : State) :
    queueOf (pairMax s) = queueOf (s) ∧ countOf (pairMax s) = countOf (s) ∧ memOf (pairMax s) = memOf (s) := by
  unfold pairMax
  simp

@[simp] theorem popDefaults_rest (p : Nat) (s : State) :
    queueOf (popDefaults p s) = queueOf (s) ∧ countOf (popDefaults p s) = countOf (s) ∧ memOf (popDefaults p s) =
        memOf (s) := by
  unfold popDefaults
  simp

@[simp] theorem freshPage_rest (p : Nat) (keep : List Nat) (s : State) :
    queueOf (freshPage p keep s) = queueOf (s) ∧ countOf (freshPage p keep s) = countOf (s) ∧ memOf (freshPage p keep
        s) = memOf (s) := by
  unfold freshPage
  simp

@[simp] theorem wipeDomain_rest (d : Nat) (s : State) :
    queueOf (wipeDomain d s) = queueOf (s) ∧ countOf (wipeDomain d s) = countOf (s) ∧ memOf (wipeDomain d s) = memOf
        (s) := by
  unfold wipeDomain
  simp

@[simp] theorem setDomain_rest (d st : Nat) (s : State) :
    queueOf (setDomain d st s) = queueOf (s) ∧ countOf (setDomain d st s) = countOf (s) ∧ memOf (setDomain d st s) =
        memOf (s) := by
  unfold setDomain
  simp

@[simp] theorem portForget_rest (n : Nat) (s : State) :
    queueOf (portForget n s) = queueOf (s) ∧ countOf (portForget n s) = countOf (s) ∧ memOf (portForget n s) = memOf
        (s) := by
  unfold portForget
  simp [pending_queueOf, count_countOf, mem_memOf]

@[simp] theorem setViral_rest (n : Nat) (on : Bool) (s : State) :
    queueOf (setViral n on s) = queueOf (s) ∧ countOf (setViral n on s) = countOf (s) ∧ memOf (setViral n on s) =
        memOf (s) := by
  unfold setViral
  simp [pending_queueOf, count_countOf, mem_memOf]

@[simp] theorem portLinkDown_rest (n : Nat) (s : State) :
    queueOf (portLinkDown n s) = queueOf (s) ∧ countOf (portLinkDown n s) = countOf (s) ∧ memOf (portLinkDown n s) =
        memOf (s) := by
  unfold portLinkDown
  simp

@[simp] theorem ringFallback_rest (s : State) :
    queueOf (ringFallback s) = queueOf (s) ∧ countOf (ringFallback s) = countOf (s) ∧ memOf (ringFallback s) = memOf
        (s) := by
  unfold ringFallback
  simp

@[simp] theorem domainGone_rest (d : Nat) (s : State) :
    queueOf (domainGone d s) = queueOf (s) ∧ countOf (domainGone d s) = countOf (s) := by
  unfold domainGone
  simp [pending_queueOf, count_countOf, mem_memOf]

@[simp] theorem putBit_rest (f : Fld) (k : Nat) (b : Bool) (s : State) :
    queueOf (putBit f k b s) = queueOf (s) ∧ countOf (putBit f k b s) = countOf (s) ∧ memOf (putBit f k b s) = memOf
        (s) := by
  unfold putBit
  simp

@[simp] theorem pllGone_rest (d : Nat) (s : State) :
    queueOf (pllGone d s) = queueOf (s) ∧ countOf (pllGone d s) = countOf (s) ∧ memOf (pllGone d s) = memOf (s) := by
  unfold pllGone
  (repeat' split) <;> simp [pending_queueOf, count_countOf, mem_memOf]

@[simp] theorem abortsEnd_rest (d : Nat) (s : State) :
    queueOf (abortsEnd d s) = queueOf (s) ∧ countOf (abortsEnd d s) = countOf (s) ∧ memOf (abortsEnd d s) = memOf (s)
        := by
  unfold abortsEnd
  simp [pending_queueOf, count_countOf, mem_memOf]

@[simp] theorem domainOff_rest (d : Nat) (retain : Bool) (s : State) :
    queueOf (domainOff d retain s) = queueOf (s) ∧ countOf (domainOff d retain s) = countOf (s) := by
  unfold domainOff
  simp [pending_queueOf, count_countOf, mem_memOf]

@[simp] theorem domainUp_rest (d : Nat) (s : State) :
    queueOf (domainUp d s) = queueOf (s) ∧ countOf (domainUp d s) = countOf (s) ∧ memOf (domainUp d s) = memOf (s) :=
        by
  unfold domainUp
  simp [pending_queueOf, count_countOf, mem_memOf]

@[simp] theorem domainsOff_rest (p : Nat → Bool) (retain : Bool) (s : State) :
    queueOf (domainsOff p retain s) = queueOf (s) ∧ countOf (domainsOff p retain s) = countOf (s) := by
  unfold domainsOff
  simp

@[simp] theorem domainsUp_rest (s : State) :
    queueOf (domainsUp s) = queueOf (s) ∧ countOf (domainsUp s) = countOf (s) ∧ memOf (domainsUp s) = memOf (s) := by
  unfold domainsUp
  simp

@[simp] theorem setPhase_rest (r : Nat) (p : RailPhase) (s : State) :
    queueOf (setPhase r p s) = queueOf (s) ∧ countOf (setPhase r p s) = countOf (s) ∧ memOf (setPhase r p s) = memOf
        (s) := by
  unfold setPhase
  simp [pending_queueOf, count_countOf, mem_memOf]

@[simp] theorem railFail_rest (r cause step : Nat) (s : State) :
    queueOf (railFail r cause step s) = queueOf (s) ∧ countOf (railFail r cause step s) = countOf (s) ∧ memOf
        (railFail r cause step s) = memOf (s) := by
  unfold railFail
  simp

@[simp] theorem rankLost_rest (i : Nat) (s : State) :
    queueOf (rankLost i s) = queueOf (s) ∧ countOf (rankLost i s) = countOf (s) ∧ memOf (rankLost i s) = memOf (s) :=
        by
  unfold rankLost
  simp [pending_queueOf, count_countOf, mem_memOf]

@[simp] theorem ranksLost_rest (r : Nat) (s : State) :
    queueOf (ranksLost r s) = queueOf (s) ∧ countOf (ranksLost r s) = countOf (s) ∧ memOf (ranksLost r s) = memOf (s)
        := by
  unfold ranksLost
  simp

@[simp] theorem cutRail_rest (r : Nat) (forced : Bool) (s : State) :
    queueOf (cutRail r forced s) = queueOf (s) ∧ countOf (cutRail r forced s) = countOf (s) ∧ memOf (cutRail r forced
        s) = memOf (s) := by
  unfold cutRail
  simp [pending_queueOf, count_countOf, mem_memOf]

@[simp] theorem startDown_rest (s : State) :
    queueOf (startDown s) = queueOf (s) ∧ countOf (startDown s) = countOf (s) ∧ memOf (startDown s) = memOf (s) := by
  unfold startDown
  simp [pending_queueOf, count_countOf, mem_memOf]

@[simp] theorem failStep_rest (r cause : Nat) (s : State) :
    queueOf (failStep r cause s) = queueOf (s) ∧ countOf (failStep r cause s) = countOf (s) ∧ memOf (failStep r cause
        s) = memOf (s) := by
  unfold failStep
  simp [pending_queueOf, count_countOf, mem_memOf]

@[simp] theorem enableRail_rest (r : Nat) (s : State) :
    queueOf (enableRail r s) = queueOf (s) ∧ countOf (enableRail r s) = countOf (s) ∧ memOf (enableRail r s) = memOf
        (s) := by
  unfold enableRail
  simp [pending_queueOf, count_countOf, mem_memOf]

@[simp] theorem beginStep_rest (k : Nat) (s : State) :
    queueOf (beginStep k s) = queueOf (s) ∧ countOf (beginStep k s) = countOf (s) ∧ memOf (beginStep k s) = memOf (s)
        := by
  unfold beginStep
  simp

@[simp] theorem advanceUpN_rest (x0 : Nat) (s : State) :
    queueOf (advanceUpN x0 s) = queueOf (s) ∧ countOf (advanceUpN x0 s) = countOf (s) ∧ memOf (advanceUpN x0 s) =
        memOf (s) := by
  induction x0 generalizing s with
  | zero => simp [advanceUpN]
  | succ n ih =>
    unfold advanceUpN
    dsimp only
    (repeat' split) <;> simp [ih, pending_queueOf, count_countOf, mem_memOf]

@[simp] theorem advanceUp_rest (s : State) :
    queueOf (advanceUp s) = queueOf (s) ∧ countOf (advanceUp s) = countOf (s) ∧ memOf (advanceUp s) = memOf (s) := by
  unfold advanceUp
  simp

@[simp] theorem railGood_rest (r : Nat) (s : State) :
    queueOf (railGood r s) = queueOf (s) ∧ countOf (railGood r s) = countOf (s) ∧ memOf (railGood r s) = memOf (s) :=
        by
  unfold railGood
  simp

@[simp] theorem startUp_rest (k : SeqKind) (s : State) :
    queueOf (startUp k s) = queueOf (s) ∧ countOf (startUp k s) = countOf (s) ∧ memOf (startUp k s) = memOf (s) := by
  unfold startUp
  simp [pending_queueOf, count_countOf, mem_memOf]

@[simp] theorem loseImage_rest (s : State) :
    queueOf (loseImage s) = queueOf (s) ∧ countOf (loseImage s) = countOf (s) := by
  unfold loseImage
  simp [pending_queueOf, count_countOf, mem_memOf]

@[simp] theorem downDone_rest (s : State) :
    queueOf (downDone s) = queueOf (s) ∧ countOf (downDone s) = countOf (s) := by
  unfold downDone
  simp [pending_queueOf, count_countOf, mem_memOf]

@[simp] theorem advanceDown_rest (s : State) :
    queueOf (advanceDown s) = queueOf (s) ∧ countOf (advanceDown s) = countOf (s) := by
  unfold advanceDown
  (repeat' split) <;> simp [pending_queueOf, count_countOf, mem_memOf]

@[simp] theorem downTick_rest (s : State) :
    queueOf (downTick s) = queueOf (s) ∧ countOf (downTick s) = countOf (s) := by
  unfold downTick
  simp [pending_queueOf, count_countOf, mem_memOf]

@[simp] theorem cutRunning_rest (r : Nat) (s : State) :
    queueOf (cutRunning r s) = queueOf (s) ∧ countOf (cutRunning r s) = countOf (s) ∧ memOf (cutRunning r s) = memOf
        (s) := by
  unfold cutRunning
  simp

@[simp] theorem groupReaction_rest (r : Nat) (s : State) :
    queueOf (groupReaction r s) = queueOf (s) ∧ countOf (groupReaction r s) = countOf (s) ∧ memOf (groupReaction r s)
        = memOf (s) := by
  unfold groupReaction
  dsimp only
  (repeat' split) <;> simp [pending_queueOf, count_countOf, mem_memOf]

@[simp] theorem nextGroupCut_rest (s : State) :
    queueOf (nextGroupCut s) = queueOf (s) ∧ countOf (nextGroupCut s) = countOf (s) ∧ memOf (nextGroupCut s) = memOf
        (s) := by
  unfold nextGroupCut
  (repeat' split) <;> simp [pending_queueOf, count_countOf, mem_memOf]

@[simp] theorem coldReset_rest (railLost : Bool) (s : State) :
    queueOf (coldReset railLost s) = queueOf (s) ∧ countOf (coldReset railLost s) = countOf (s) := by
  unfold coldReset
  simp [pending_queueOf, count_countOf, mem_memOf]

@[simp] theorem cutAll_rest (s : State) :
    queueOf (cutAll s) = queueOf (s) ∧ countOf (cutAll s) = countOf (s) := by
  unfold cutAll
  simp [pending_queueOf, count_countOf, mem_memOf]

@[simp] theorem putWord_rest (o v : Nat) (s : State) :
    queueOf (putWord o v s) = queueOf (s) ∧ countOf (putWord o v s) = countOf (s) ∧ memOf (putWord o v s) = memOf (s)
        := by
  unfold putWord
  simp [pending_queueOf, count_countOf, mem_memOf]

@[simp] theorem putFirst_rest (o v : Nat) (s : State) :
    queueOf (putFirst o v s) = queueOf (s) ∧ countOf (putFirst o v s) = countOf (s) ∧ memOf (putFirst o v s) = memOf
        (s) := by
  unfold putFirst
  simp [pending_queueOf, count_countOf, mem_memOf]

@[simp] theorem spoilWord_rest (o : Nat) (s : State) :
    queueOf (spoilWord o s) = queueOf (s) ∧ countOf (spoilWord o s) = countOf (s) ∧ memOf (spoilWord o s) = memOf (s)
        := by
  unfold spoilWord
  simp [pending_queueOf, count_countOf, mem_memOf]

@[simp] theorem eraseBlock_rest (b : Nat) (s : State) :
    queueOf (eraseBlock b s) = queueOf (s) ∧ countOf (eraseBlock b s) = countOf (s) ∧ memOf (eraseBlock b s) = memOf
        (s) := by
  unfold eraseBlock
  simp [pending_queueOf, count_countOf, mem_memOf]

@[simp] theorem eraseCopy_rest (c : Nat) (s : State) :
    queueOf (eraseCopy c s) = queueOf (s) ∧ countOf (eraseCopy c s) = countOf (s) ∧ memOf (eraseCopy c s) = memOf (s)
        := by
  unfold eraseCopy
  simp

@[simp] theorem sparesShow_rest (s : State) :
    queueOf (sparesShow s) = queueOf (s) ∧ countOf (sparesShow s) = countOf (s) ∧ memOf (sparesShow s) = memOf (s) :=
        by
  unfold sparesShow
  simp

@[simp] theorem applyOption_rest (s : State) :
    queueOf (applyOption s) = queueOf (s) ∧ countOf (applyOption s) = countOf (s) ∧ memOf (applyOption s) = memOf (s)
        := by
  unfold applyOption
  simp [pending_queueOf, count_countOf, mem_memOf]

@[simp] theorem loadOption_rest (badA badB : Bool) (s : State) :
    queueOf (loadOption badA badB s) = queueOf (s) ∧ countOf (loadOption badA badB s) = countOf (s) ∧ memOf
        (loadOption badA badB s) = memOf (s) := by
  unfold loadOption
  simp [pending_queueOf, count_countOf, mem_memOf]

@[simp] theorem lockPages_rest (s : State) :
    queueOf (lockPages s) = queueOf (s) ∧ countOf (lockPages s) = countOf (s) ∧ memOf (lockPages s) = memOf (s) := by
  unfold lockPages
  simp

@[simp] theorem programOption_rest (bits : Nat) (s : State) :
    queueOf (programOption bits s) = queueOf (s) ∧ countOf (programOption bits s) = countOf (s) ∧ memOf
        (programOption bits s) = memOf (s) := by
  unfold programOption
  simp [pending_queueOf, count_countOf, mem_memOf]

@[simp] theorem setCarBank_rest (b : Nat) (k : CarBank) (s : State) :
    queueOf (setCarBank b k s) = queueOf (s) ∧ countOf (setCarBank b k s) = countOf (s) ∧ memOf (setCarBank b k s) =
        memOf (s) := by
  unfold setCarBank
  simp [pending_queueOf, count_countOf, mem_memOf]

@[simp] theorem carFlag_rest (b bits : Nat) (s : State) :
    queueOf (carFlag b bits s) = queueOf (s) ∧ countOf (carFlag b bits s) = countOf (s) ∧ memOf (carFlag b bits s) =
        memOf (s) := by
  unfold carFlag
  simp

@[simp] theorem carShow_rest (b : Nat) (s : State) :
    queueOf (carShow b s) = queueOf (s) ∧ countOf (carShow b s) = countOf (s) ∧ memOf (carShow b s) = memOf (s) := by
  unfold carShow
  simp

@[simp] theorem cutOp_rest (x : CarOp) (s : State) :
    queueOf (cutOp x s) = queueOf (s) ∧ countOf (cutOp x s) = countOf (s) ∧ memOf (cutOp x s) = memOf (s) := by
  unfold cutOp
  simp

@[simp] theorem carCut_rest (s : State) :
    queueOf (carCut s) = queueOf (s) ∧ countOf (carCut s) = countOf (s) ∧ memOf (carCut s) = memOf (s) := by
  unfold carCut
  simp

@[simp] theorem setImage_rest (c : Nat) (slotB : Bool) (f : SlotImage → SlotImage) (s : State) :
    queueOf (setImage c slotB f s) = queueOf (s) ∧ countOf (setImage c slotB f s) = countOf (s) ∧ memOf (setImage c
        slotB f s) = memOf (s) := by
  unfold setImage
  simp [pending_queueOf, count_countOf, mem_memOf]

@[simp] theorem updShow_rest (s : State) :
    queueOf (updShow s) = queueOf (s) ∧ countOf (updShow s) = countOf (s) ∧ memOf (updShow s) = memOf (s) := by
  unfold updShow
  simp

@[simp] theorem setShow_rest (s : State) :
    queueOf (setShow s) = queueOf (s) ∧ countOf (setShow s) = countOf (s) ∧ memOf (setShow s) = memOf (s) := by
  unfold setShow
  simp

@[simp] theorem appendRecord_rest (r : ActRecord) (s : State) :
    queueOf (appendRecord r s) = queueOf (s) ∧ countOf (appendRecord r s) = countOf (s) ∧ memOf (appendRecord r s) =
        memOf (s) := by
  unfold appendRecord
  simp [pending_queueOf, count_countOf, mem_memOf]

@[simp] theorem putTally_rest (s : State) :
    queueOf (putTally s) = queueOf (s) ∧ countOf (putTally s) = countOf (s) ∧ memOf (putTally s) = memOf (s) := by
  unfold putTally
  simp

@[simp] theorem newTally_rest (s : State) :
    queueOf (newTally s) = queueOf (s) ∧ countOf (newTally s) = countOf (s) ∧ memOf (newTally s) = memOf (s) := by
  unfold newTally
  simp [pending_queueOf, count_countOf, mem_memOf]

@[simp] theorem changeLog_rest (s : State) :
    queueOf (changeLog s) = queueOf (s) ∧ countOf (changeLog s) = countOf (s) ∧ memOf (changeLog s) = memOf (s) := by
  unfold changeLog
  simp [pending_queueOf, count_countOf, mem_memOf]

@[simp] theorem writeRecord_rest (r : ActRecord) (s : State) :
    queueOf (writeRecord r s) = queueOf (s) ∧ countOf (writeRecord r s) = countOf (s) ∧ memOf (writeRecord r s) =
        memOf (s) := by
  unfold writeRecord
  simp

@[simp] theorem rejectSlot_rest (c : Nat) (slotB : Bool) (s : State) :
    queueOf (rejectSlot c slotB s) = queueOf (s) ∧ countOf (rejectSlot c slotB s) = countOf (s) ∧ memOf (rejectSlot c
        slotB s) = memOf (s) := by
  unfold rejectSlot
  simp

@[simp] theorem startSet_rest (bits : Nat) (wanted : List (Nat × Bool)) (reverted : Bool) (s : State) :
    queueOf (startSet bits wanted reverted s) = queueOf (s) ∧ countOf (startSet bits wanted reverted s) = countOf (s)
        ∧ memOf (startSet bits wanted reverted s) = memOf (s) := by
  unfold startSet
  simp [pending_queueOf, count_countOf, mem_memOf]

@[simp] theorem recoveryMonitor_rest (cause : Nat) (s : State) :
    queueOf (recoveryMonitor cause s) = queueOf (s) ∧ countOf (recoveryMonitor cause s) = countOf (s) ∧ memOf
        (recoveryMonitor cause s) = memOf (s) := by
  unfold recoveryMonitor
  simp [pending_queueOf, count_countOf, mem_memOf]

@[simp] theorem takeSettings_rest (l : List (Nat × Nat)) (s : State) :
    queueOf (takeSettings l s) = queueOf (s) ∧ countOf (takeSettings l s) = countOf (s) ∧ memOf (takeSettings l s) =
        memOf (s) := by
  unfold takeSettings
  simp [pending_queueOf, count_countOf, mem_memOf]

@[simp] theorem settingsAtBoot_rest (s : State) :
    queueOf (settingsAtBoot s) = queueOf (s) ∧ countOf (settingsAtBoot s) = countOf (s) ∧ memOf (settingsAtBoot s) =
        memOf (s) := by
  unfold settingsAtBoot
  simp [pending_queueOf, count_countOf, mem_memOf]

theorem foldFst_rest {α β : Type} (l : List α) (f : State × β → α → State × β) (a : State × β)
    (h : ∀ b c, queueOf ((f b c).1) = queueOf (b.1) ∧ countOf ((f b c).1) = countOf (b.1) ∧ memOf ((f b c).1) = memOf
        (b.1)) : queueOf ((l.foldl f a).1) = queueOf (a.1) ∧ countOf ((l.foldl f a).1) = countOf (a.1) ∧ memOf
        ((l.foldl f a).1) = memOf (a.1) := by
  induction l generalizing a with
  | nil => simp
  | cons c l ih =>
    have h1 := ih (f a c)
    have h2 := h a c
    simp only [List.foldl_cons, h1, h2, and_self]

@[simp] theorem trySet_rest (bits : Nat) (s : State) :
    queueOf ((trySet bits s).1) = queueOf (s) ∧ countOf ((trySet bits s).1) = countOf (s) ∧ memOf ((trySet bits s).1)
        = memOf (s) := by
  unfold trySet
  dsimp only
  refine foldFst_rest (List.range 4) _ (s, bits, true) fun b c => ?_
  split <;> simp

@[simp] theorem bootSelect_rest (s : State) :
    queueOf (bootSelect s) = queueOf (s) ∧ countOf (bootSelect s) = countOf (s) ∧ memOf (bootSelect s) = memOf (s) :=
        by
  unfold bootSelect
  dsimp only
  generalize hs : set Reg.UPD.STS_REVERTED 0 _ = u
  have hu : queueOf u = queueOf s ∧ countOf u = countOf s ∧ memOf u = memOf s := by
    subst hs
    simp [pending_queueOf, count_countOf, mem_memOf]
  clear hs
  have ht : ∀ (b : Nat) (t : State), queueOf (trySet b t).1 = queueOf t ∧ countOf (trySet b t).1 = countOf t ∧
      memOf (trySet b t).1 = memOf t := trySet_rest
  generalize hr : trySet (overlaySet _ _) _ = r
  obtain ⟨t, o⟩ := r
  have h1 := congrArg Prod.fst hr
  dsimp only at h1
  clear hr
  subst h1
  cases o with
  | some b => simp [ht, hu]
  | none =>
    dsimp only
    generalize hr : trySet _ (writeRecord _ _) = r
    obtain ⟨t, o⟩ := r
    have h1 := congrArg Prod.fst hr
    dsimp only at h1
    clear hr
    subst h1
    cases o with
    | some b =>
      dsimp only
      generalize List.isEmpty _ = e
      cases e <;> simp [ht, hu]
    | none =>
      dsimp only
      generalize List.isEmpty _ = e
      cases e <;> simp [ht, hu]

@[simp] theorem updResult_rest (r : Nat) (s : State) :
    queueOf (updResult r s) = queueOf (s) ∧ countOf (updResult r s) = countOf (s) ∧ memOf (updResult r s) = memOf (s)
        := by
  unfold updResult
  simp

@[simp] theorem dropTransfer_rest (s : State) :
    queueOf (dropTransfer s) = queueOf (s) ∧ countOf (dropTransfer s) = countOf (s) ∧ memOf (dropTransfer s) = memOf
        (s) := by
  unfold dropTransfer
  simp [pending_queueOf, count_countOf, mem_memOf]

@[simp] theorem endTransfer_rest (s : State) :
    queueOf (endTransfer s) = queueOf (s) ∧ countOf (endTransfer s) = countOf (s) ∧ memOf (endTransfer s) = memOf (s)
        := by
  unfold endTransfer
  simp

@[simp] theorem activateOp_rest (c : Nat) (slotB : Bool) (s : State) :
    queueOf (activateOp c slotB s) = queueOf (s) ∧ countOf (activateOp c slotB s) = countOf (s) ∧ memOf (activateOp c
        slotB s) = memOf (s) := by
  unfold activateOp
  simp

@[simp] theorem confirmNow_rest (s : State) :
    queueOf (confirmNow s) = queueOf (s) ∧ countOf (confirmNow s) = countOf (s) ∧ memOf (confirmNow s) = memOf (s) :=
        by
  unfold confirmNow
  simp [pending_queueOf, count_countOf, mem_memOf]

@[simp] theorem confirmOp_rest (accept : Bool) (s : State) :
    queueOf (confirmOp accept s) = queueOf (s) ∧ countOf (confirmOp accept s) = countOf (s) ∧ memOf (confirmOp accept
        s) = memOf (s) := by
  unfold confirmOp
  simp

@[simp] theorem revertOp_rest (s : State) :
    queueOf (revertOp s) = queueOf (s) ∧ countOf (revertOp s) = countOf (s) ∧ memOf (revertOp s) = memOf (s) := by
  unfold revertOp
  simp

@[simp] theorem budgets_rest (s : State) :
    queueOf (budgets s) = queueOf (s) ∧ countOf (budgets s) = countOf (s) ∧ memOf (budgets s) = memOf (s) := by
  unfold budgets
  simp [pending_queueOf, count_countOf, mem_memOf]

@[simp] theorem zeroBudget_rest (s : State) :
    queueOf (zeroBudget s) = queueOf (s) ∧ countOf (zeroBudget s) = countOf (s) ∧ memOf (zeroBudget s) = memOf (s) :=
        by
  unfold zeroBudget
  simp [pending_queueOf, count_countOf, mem_memOf]

@[simp] theorem budgetRule_rest (s : State) :
    queueOf (budgetRule s) = queueOf (s) ∧ countOf (budgetRule s) = countOf (s) ∧ memOf (budgetRule s) = memOf (s) :=
        by
  unfold budgetRule
  simp [pending_queueOf, count_countOf, mem_memOf]

@[simp] theorem rideWindow_rest (s : State) :
    queueOf (rideWindow s) = queueOf (s) ∧ countOf (rideWindow s) = countOf (s) ∧ memOf (rideWindow s) = memOf (s) :=
        by
  unfold rideWindow
  simp

@[simp] theorem chargeShow_rest (s : State) :
    queueOf (chargeShow s) = queueOf (s) ∧ countOf (chargeShow s) = countOf (s) ∧ memOf (chargeShow s) = memOf (s) :=
        by
  unfold chargeShow
  simp

@[simp] theorem endExercise_rest (result : Nat) (s : State) :
    queueOf (endExercise result s) = queueOf (s) ∧ countOf (endExercise result s) = countOf (s) ∧ memOf (endExercise
        result s) = memOf (s) := by
  unfold endExercise
  simp [pending_queueOf, count_countOf, mem_memOf]

@[simp] theorem endCapTest_rest (s : State) :
    queueOf (endCapTest s) = queueOf (s) ∧ countOf (endCapTest s) = countOf (s) ∧ memOf (endCapTest s) = memOf (s) :=
        by
  unfold endCapTest
  simp [pending_queueOf, count_countOf, mem_memOf]

@[simp] theorem integrate_rest (code : Int) (s : State) :
    queueOf (integrate code s) = queueOf (s) ∧ countOf (integrate code s) = countOf (s) ∧ memOf (integrate code s) =
        memOf (s) := by
  unfold integrate
  simp [pending_queueOf, count_countOf, mem_memOf]

@[simp] theorem showSamples_rest (s : State) :
    queueOf (showSamples s) = queueOf (s) ∧ countOf (showSamples s) = countOf (s) ∧ memOf (showSamples s) = memOf (s)
        := by
  unfold showSamples
  simp

@[simp] theorem endsTick_rest (s : State) :
    queueOf (endsTick s) = queueOf (s) ∧ countOf (endsTick s) = countOf (s) ∧ memOf (endsTick s) = memOf (s) := by
  unfold endsTick
  simp [pending_queueOf, count_countOf, mem_memOf]

@[simp] theorem sampleCapTest_rest (s : State) :
    queueOf (sampleCapTest s) = queueOf (s) ∧ countOf (sampleCapTest s) = countOf (s) ∧ memOf (sampleCapTest s) =
        memOf (s) := by
  unfold sampleCapTest
  (repeat' split) <;> simp [pending_queueOf, count_countOf, mem_memOf]

@[simp] theorem gaugeRuns_rest (s : State) :
    queueOf (gaugeRuns s) = queueOf (s) ∧ countOf (gaugeRuns s) = countOf (s) ∧ memOf (gaugeRuns s) = memOf (s) := by
  unfold gaugeRuns
  simp [pending_queueOf, count_countOf, mem_memOf]

@[simp] theorem learnSave_rest (used gran : Nat) (s : State) :
    queueOf (learnSave used gran s) = queueOf (s) ∧ countOf (learnSave used gran s) = countOf (s) ∧ memOf (learnSave
        used gran s) = memOf (s) := by
  unfold learnSave
  simp

@[simp] theorem learnRide_rest (dw : Nat) (s : State) :
    queueOf (learnRide dw s) = queueOf (s) ∧ countOf (learnRide dw s) = countOf (s) ∧ memOf (learnRide dw s) = memOf
        (s) := by
  unfold learnRide
  simp

@[simp] theorem loadLearned_rest (s : State) :
    queueOf (loadLearned s) = queueOf (s) ∧ countOf (loadLearned s) = countOf (s) ∧ memOf (loadLearned s) = memOf (s)
        := by
  unfold loadLearned
  (repeat' split) <;> simp [pending_queueOf, count_countOf, mem_memOf]

@[simp] theorem learnedNow_rest (s : State) :
    queueOf (learnedNow s) = queueOf (s) ∧ countOf (learnedNow s) = countOf (s) ∧ memOf (learnedNow s) = memOf (s) :=
        by
  unfold learnedNow
  simp [pending_queueOf, count_countOf, mem_memOf]

@[simp] theorem learnTick_rest (s : State) :
    queueOf (learnTick s) = queueOf (s) ∧ countOf (learnTick s) = countOf (s) ∧ memOf (learnTick s) = memOf (s) := by
  unfold learnTick
  dsimp only
  (repeat' split) <;> simp [pending_queueOf, count_countOf, mem_memOf]

@[simp] theorem gaugeTick_rest (x : GaugeSamples) (cut : Bool) (s : State) :
    queueOf (gaugeTick x cut s) = queueOf (s) ∧ countOf (gaugeTick x cut s) = countOf (s) ∧ memOf (gaugeTick x cut s)
        = memOf (s) := by
  unfold gaugeTick
  simp [pending_queueOf, count_countOf, mem_memOf]

@[simp] theorem anchor_rest (nc : Nat) (s : State) :
    queueOf (anchor nc s) = queueOf (s) ∧ countOf (anchor nc s) = countOf (s) ∧ memOf (anchor nc s) = memOf (s) := by
  unfold anchor
  simp [pending_queueOf, count_countOf, mem_memOf]

@[simp] theorem setSav_rest (n : Nat) (s : State) :
    queueOf (setSav n s) = queueOf (s) ∧ countOf (setSav n s) = countOf (s) ∧ memOf (setSav n s) = memOf (s) := by
  unfold setSav
  simp

@[simp] theorem setSavs_rest (f : Sav → Sav) (s : State) :
    queueOf (setSavs f s) = queueOf (s) ∧ countOf (setSavs f s) = countOf (s) ∧ memOf (setSavs f s) = memOf (s) := by
  unfold setSavs
  simp [pending_queueOf, count_countOf, mem_memOf]

@[simp] theorem triggerBit_rest (k : Nat) (s : State) :
    queueOf (triggerBit k s) = queueOf (s) ∧ countOf (triggerBit k s) = countOf (s) ∧ memOf (triggerBit k s) = memOf
        (s) := by
  unfold triggerBit
  simp

@[simp] theorem savOutcome_rest (n : Nat) (s : State) :
    queueOf (savOutcome n s) = queueOf (s) ∧ countOf (savOutcome n s) = countOf (s) ∧ memOf (savOutcome n s) = memOf
        (s) := by
  unfold savOutcome
  simp

@[simp] theorem thawAll_rest (s : State) :
    queueOf (thawAll s) = queueOf (s) ∧ countOf (thawAll s) = countOf (s) ∧ memOf (thawAll s) = memOf (s) := by
  unfold thawAll
  simp

@[simp] theorem closeKey_rest (s : State) :
    queueOf (closeKey s) = queueOf (s) ∧ countOf (closeKey s) = countOf (s) ∧ memOf (closeKey s) = memOf (s) := by
  unfold closeKey
  simp [pending_queueOf, count_countOf, mem_memOf]

@[simp] theorem sendPoison_rest (port tag : Nat) (under : Option Line) (s : State) :
    queueOf (sendPoison port tag under s) = queueOf (s) ∧ countOf (sendPoison port tag under s) = countOf (s) ∧ memOf
        (sendPoison port tag under s) = memOf (s) := by
  unfold sendPoison
  simp

@[simp] theorem finishRead_rest (r : ReadWait) (s : State) :
    queueOf (finishRead r s) = queueOf (s) ∧ countOf (finishRead r s) = countOf (s) ∧ memOf (finishRead r s) = memOf
        (s) := by
  unfold finishRead
  (repeat' split) <;> simp

@[simp] theorem drainStalled_rest (q : Stalled) (s : State) :
    queueOf (drainStalled q s) = queueOf (s) ∧ countOf (drainStalled q s) = countOf (s) := by
  unfold drainStalled
  simp

@[simp] theorem portsFence_rest (s : State) :
    queueOf (portsFence s) = queueOf (s) ∧ countOf (portsFence s) = countOf (s) := by
  unfold portsFence
  simp [pending_queueOf, count_countOf, mem_memOf]

@[simp] theorem domainFence_rest (s : State) :
    queueOf (domainFence s) = queueOf (s) ∧ countOf (domainFence s) = countOf (s) ∧ memOf (domainFence s) = memOf (s)
        := by
  unfold domainFence
  simp [pending_queueOf, count_countOf, mem_memOf]

@[simp] theorem discardPending_rest (s : State) :
    queueOf (discardPending s) = queueOf (s) ∧ countOf (discardPending s) = countOf (s) ∧ memOf (discardPending s) =
        memOf (s) := by
  unfold discardPending
  simp

@[simp] theorem fence_rest (k : Nat) (s : State) :
    queueOf (fence k s) = queueOf (s) ∧ countOf (fence k s) = countOf (s) := by
  unfold fence
  simp [pending_queueOf, count_countOf, mem_memOf]

@[simp] theorem disarmedTrigger_rest (k : Nat) (s : State) :
    queueOf (disarmedTrigger k s) = queueOf (s) ∧ countOf (disarmedTrigger k s) = countOf (s) ∧ memOf
        (disarmedTrigger k s) = memOf (s) := by
  unfold disarmedTrigger
  simp [pending_queueOf, count_countOf, mem_memOf]

@[simp] theorem safePowerFail_rest (k : Nat) (s : State) :
    queueOf (safePowerFail k s) = queueOf (s) ∧ countOf (safePowerFail k s) = countOf (s) := by
  unfold safePowerFail
  simp

@[simp] theorem trigger_rest (k : Nat) (s : State) :
    queueOf (trigger k s) = queueOf (s) ∧ countOf (trigger k s) = countOf (s) := by
  unfold trigger
  simp

@[simp] theorem startSave_rest (s : State) :
    queueOf (startSave s) = queueOf (s) ∧ countOf (startSave s) = countOf (s) ∧ memOf (startSave s) = memOf (s) := by
  unfold startSave
  simp

@[simp] theorem enterRide_rest (s : State) :
    queueOf (enterRide s) = queueOf (s) ∧ countOf (enterRide s) = countOf (s) ∧ memOf (enterRide s) = memOf (s) := by
  unfold enterRide
  simp [pending_queueOf, count_countOf, mem_memOf]

@[simp] theorem startRidePath_rest (s : State) :
    queueOf (startRidePath s) = queueOf (s) ∧ countOf (startRidePath s) = countOf (s) ∧ memOf (startRidePath s) =
        memOf (s) := by
  unfold startRidePath
  simp

@[simp] theorem measureSave_rest (s : State) :
    queueOf (measureSave s) = queueOf (s) ∧ countOf (measureSave s) = countOf (s) ∧ memOf (measureSave s) = memOf (s)
        := by
  unfold measureSave
  simp [pending_queueOf, count_countOf, mem_memOf]

@[simp] theorem decideSave_rest (s : State) :
    queueOf (decideSave s) = queueOf (s) ∧ countOf (decideSave s) = countOf (s) ∧ memOf (decideSave s) = memOf (s) :=
        by
  unfold decideSave
  simp

@[simp] theorem endRide_rest (s : State) :
    queueOf (endRide s) = queueOf (s) ∧ countOf (endRide s) = countOf (s) ∧ memOf (endRide s) = memOf (s) := by
  unfold endRide
  simp [pending_queueOf, count_countOf, mem_memOf]

@[simp] theorem wake_rest (s : State) :
    queueOf (wake s) = queueOf (s) ∧ countOf (wake s) = countOf (s) ∧ memOf (wake s) = memOf (s) := by
  unfold wake
  simp

@[simp] theorem unlockAll_rest (s : State) :
    queueOf (unlockAll s) = queueOf (s) ∧ countOf (unlockAll s) = countOf (s) ∧ memOf (unlockAll s) = memOf (s) := by
  unfold unlockAll
  simp

@[simp] theorem clearS4_rest (s : State) :
    queueOf (clearS4 s) = queueOf (s) ∧ countOf (clearS4 s) = countOf (s) ∧ memOf (clearS4 s) = memOf (s) := by
  unfold clearS4
  simp

@[simp] theorem raiseAgain_rest (n : Nat) (s : State) :
    queueOf (raiseAgain n s) = queueOf (s) ∧ countOf (raiseAgain n s) = countOf (s) ∧ memOf (raiseAgain n s) = memOf
        (s) := by
  unfold raiseAgain
  simp [pending_queueOf, count_countOf, mem_memOf]

@[simp] theorem leaveSafe_rest (s : State) :
    queueOf (leaveSafe s) = queueOf (s) ∧ countOf (leaveSafe s) = countOf (s) ∧ memOf (leaveSafe s) = memOf (s) := by
  unfold leaveSafe
  simp

@[simp] theorem resetChip_rest (s : State) :
    queueOf (resetChip s) = queueOf (s) ∧ countOf (resetChip s) = countOf (s) := by
  unfold resetChip
  simp

@[simp] theorem warmContexts_rest (s : State) :
    queueOf (warmContexts s) = queueOf (s) ∧ countOf (warmContexts s) = countOf (s) ∧ memOf (warmContexts s) = memOf
        (s) := by
  unfold warmContexts
  and_intros
  all_goals first
    | refine forEach_pending _ _ _ fun r t => ?_
    | refine forEach_count _ _ _ fun r t => ?_
    | refine forEach_mem _ _ _ fun r t => ?_
  all_goals (split <;> simp)

@[simp] theorem applyMapInUse_rest (s : State) :
    queueOf (applyMapInUse s) = queueOf (s) ∧ countOf (applyMapInUse s) = countOf (s) ∧ memOf (applyMapInUse s) =
        memOf (s) := by
  unfold applyMapInUse
  simp [pending_queueOf, count_countOf, mem_memOf]

@[simp] theorem startWarm_rest (s : State) :
    queueOf (startWarm s) = queueOf (s) ∧ countOf (startWarm s) = countOf (s) ∧ memOf (startWarm s) = memOf (s) := by
  unfold startWarm
  simp [pending_queueOf, count_countOf, mem_memOf]

@[simp] theorem warmStep4_rest (s : State) :
    queueOf (warmStep4 s) = queueOf (s) ∧ countOf (warmStep4 s) = countOf (s) ∧ memOf (warmStep4 s) = memOf (s) := by
  unfold warmStep4
  simp

@[simp] theorem warmStep5_rest (s : State) :
    queueOf (warmStep5 s) = queueOf (s) ∧ countOf (warmStep5 s) = countOf (s) ∧ memOf (warmStep5 s) = memOf (s) := by
  unfold warmStep5
  simp [pending_queueOf, count_countOf, mem_memOf]

@[simp] theorem askReset_rest (s : State) :
    queueOf (askReset s) = queueOf (s) ∧ countOf (askReset s) = countOf (s) ∧ memOf (askReset s) = memOf (s) := by
  unfold askReset
  simp [pending_queueOf, count_countOf, mem_memOf]

@[simp] theorem fencedReset_rest (s : State) :
    queueOf (fencedReset s) = queueOf (s) ∧ countOf (fencedReset s) = countOf (s) := by
  unfold fencedReset
  simp [pending_queueOf, count_countOf, mem_memOf]

@[simp] theorem disarmedReset_rest (s : State) :
    queueOf (disarmedReset s) = queueOf (s) ∧ countOf (disarmedReset s) = countOf (s) := by
  unfold disarmedReset
  simp [pending_queueOf, count_countOf, mem_memOf]

@[simp] theorem resetTick_rest (s : State) :
    queueOf (resetTick s) = queueOf (s) ∧ countOf (resetTick s) = countOf (s) := by
  unfold resetTick
  simp [pending_queueOf, count_countOf, mem_memOf]

@[simp] theorem drained_rest (s : State) :
    queueOf (drained s) = queueOf (s) ∧ countOf (drained s) = countOf (s) := by
  unfold drained
  dsimp only
  split
  · simp
  · split <;> simp [pending_queueOf, count_countOf, mem_memOf]

@[simp] theorem chipResetOp_rest (s : State) :
    queueOf (chipResetOp s) = queueOf (s) ∧ countOf (chipResetOp s) = countOf (s) := by
  unfold chipResetOp
  simp

@[simp] theorem savePowerDown_rest (outcome : Nat) (s : State) :
    queueOf (savePowerDown outcome s) = queueOf (s) ∧ countOf (savePowerDown outcome s) = countOf (s) ∧ memOf
        (savePowerDown outcome s) = memOf (s) := by
  unfold savePowerDown
  simp

@[simp] theorem abortSafe_rest (s : State) :
    queueOf (abortSafe s) = queueOf (s) ∧ countOf (abortSafe s) = countOf (s) ∧ memOf (abortSafe s) = memOf (s) := by
  unfold abortSafe
  simp

@[simp] theorem endSave_rest (s : State) :
    queueOf (endSave s) = queueOf (s) ∧ countOf (endSave s) = countOf (s) ∧ memOf (endSave s) = memOf (s) := by
  unfold endSave
  simp

@[simp] theorem manifestDone_rest (a b : Bool) (s : State) :
    queueOf (manifestDone a b s) = queueOf (s) ∧ countOf (manifestDone a b s) = countOf (s) ∧ memOf (manifestDone a b
        s) = memOf (s) := by
  unfold manifestDone
  simp

@[simp] theorem leaveHold_rest (s : State) :
    queueOf (leaveHold s) = queueOf (s) ∧ countOf (leaveHold s) = countOf (s) ∧ memOf (leaveHold s) = memOf (s) := by
  unfold leaveHold
  simp

@[simp] theorem ranksShow_rest (s : State) :
    queueOf (ranksShow s) = queueOf (s) ∧ countOf (ranksShow s) = countOf (s) ∧ memOf (ranksShow s) = memOf (s) := by
  unfold ranksShow
  simp

@[simp] theorem ranksAtBoot_rest (s : State) :
    queueOf (ranksAtBoot s) = queueOf (s) ∧ countOf (ranksAtBoot s) = countOf (s) ∧ memOf (ranksAtBoot s) = memOf (s)
        := by
  unfold ranksAtBoot
  simp

@[simp] theorem poolAtBoot_rest (s : State) :
    queueOf (poolAtBoot s) = queueOf (s) ∧ countOf (poolAtBoot s) = countOf (s) ∧ memOf (poolAtBoot s) = memOf (s) :=
        by
  unfold poolAtBoot
  simp

@[simp] theorem mapAtBoot_rest (s : State) :
    queueOf (mapAtBoot s) = queueOf (s) ∧ countOf (mapAtBoot s) = countOf (s) ∧ memOf (mapAtBoot s) = memOf (s) := by
  unfold mapAtBoot
  simp

@[simp] theorem populate_rest (x : PowerOnIn) (s : State) :
    queueOf (populate x s) = queueOf (s) ∧ countOf (populate x s) = countOf (s) ∧ memOf (populate x s) = memOf (s) :=
        by
  unfold populate
  simp [pending_queueOf, count_countOf, mem_memOf]

@[simp] theorem loseVaon_rest (s : State) :
    queueOf (loseVaon s) = queueOf (s) := by
  unfold loseVaon
  simp [pending_queueOf, count_countOf, mem_memOf]

@[simp] theorem placeRegions_rest (x0 : Nat) (x1 : Nat) (x2 : List (Nat × Nat × Nat × Nat)) (s : State) :
    queueOf (placeRegions x0 x1 x2 s) = queueOf (s) ∧ countOf (placeRegions x0 x1 x2 s) = countOf (s) ∧ memOf
        (placeRegions x0 x1 x2 s) = memOf (s) := by
  induction x2 generalizing x0 x1 s with
  | nil => simp [placeRegions]
  | cons e l ih =>
    obtain ⟨cb, cn, rb, rn⟩ := e
    simp [placeRegions, ih]

@[simp] theorem mapChkShow_rest (e : Option (Nat × Nat × Nat)) (s : State) :
    queueOf (mapChkShow e s) = queueOf (s) ∧ countOf (mapChkShow e s) = countOf (s) ∧ memOf (mapChkShow e s) = memOf
        (s) := by
  unfold mapChkShow
  simp

@[simp] theorem enableDmc_rest (w : Writer) (s : State) :
    queueOf (enableDmc w s) = queueOf (s) ∧ countOf (enableDmc w s) = countOf (s) ∧ memOf (enableDmc w s) = memOf (s)
        := by
  unfold enableDmc
  dsimp only
  (repeat' split) <;> simp [pending_queueOf, count_countOf, mem_memOf]

@[simp] theorem bootMap_rest (s : State) :
    queueOf (bootMap s) = queueOf (s) ∧ countOf (bootMap s) = countOf (s) ∧ memOf (bootMap s) = memOf (s) := by
  unfold bootMap
  simp [pending_queueOf, count_countOf, mem_memOf]

@[simp] theorem enablePage_rest (p : Nat) (w : Writer) (s : State) :
    queueOf (enablePage p w s) = queueOf (s) ∧ countOf (enablePage p w s) = countOf (s) ∧ memOf (enablePage p w s) =
        memOf (s) := by
  unfold enablePage
  simp

@[simp] theorem placeSpill_rest (s : State) :
    queueOf (placeSpill s) = queueOf (s) ∧ countOf (placeSpill s) = countOf (s) ∧ memOf (placeSpill s) = memOf (s) :=
        by
  unfold placeSpill
  simp

@[simp] theorem enablePages_rest (n : Nat) (s : State) :
    queueOf (enablePages n s) = queueOf (s) ∧ countOf (enablePages n s) = countOf (s) ∧ memOf (enablePages n s) =
        memOf (s) := by
  unfold enablePages
  simp

@[simp] theorem pairAtBoot_rest (s : State) :
    queueOf (pairAtBoot s) = queueOf (s) ∧ countOf (pairAtBoot s) = countOf (s) ∧ memOf (pairAtBoot s) = memOf (s) :=
        by
  unfold pairAtBoot
  simp [pending_queueOf, count_countOf, mem_memOf]

@[simp] theorem batteryIn_rest (s : State) :
    queueOf (batteryIn s) = queueOf (s) ∧ countOf (batteryIn s) = countOf (s) ∧ memOf (batteryIn s) = memOf (s) := by
  unfold batteryIn
  simp [pending_queueOf, count_countOf, mem_memOf]

@[simp] theorem enableCharger_rest (s : State) :
    queueOf (enableCharger s) = queueOf (s) ∧ countOf (enableCharger s) = countOf (s) ∧ memOf (enableCharger s) =
        memOf (s) := by
  unfold enableCharger
  simp [pending_queueOf, count_countOf, mem_memOf]

@[simp] theorem reactionTest_rest (ok : Bool) (s : State) :
    queueOf (reactionTest ok s) = queueOf (s) ∧ countOf (reactionTest ok s) = countOf (s) ∧ memOf (reactionTest ok s)
        = memOf (s) := by
  unfold reactionTest
  simp

@[simp] theorem startRails_rest (vinGood : Bool) (s : State) :
    queueOf (startRails vinGood s) = queueOf (s) ∧ countOf (startRails vinGood s) = countOf (s) ∧ memOf (startRails
        vinGood s) = memOf (s) := by
  unfold startRails
  simp [pending_queueOf, count_countOf, mem_memOf]

@[simp] theorem minimalBoot_rest (cause : Nat) (s : State) :
    queueOf (minimalBoot cause s) = queueOf (s) ∧ countOf (minimalBoot cause s) = countOf (s) ∧ memOf (minimalBoot
        cause s) = memOf (s) := by
  unfold minimalBoot
  simp [pending_queueOf, count_countOf, mem_memOf]

@[simp] theorem releaseModule_rest (s : State) :
    queueOf (releaseModule s) = queueOf (s) ∧ countOf (releaseModule s) = countOf (s) ∧ memOf (releaseModule s) =
        memOf (s) := by
  unfold releaseModule
  simp [pending_queueOf, count_countOf, mem_memOf]

@[simp] theorem powerOn_rest (x : PowerOnIn) (s : State) :
    queueOf (powerOn x s) = queueOf (s) ∧ countOf (powerOn x s) = countOf (s) ∧ memOf (powerOn x s) = memOf (s) := by
  unfold powerOn
  dsimp only
  (repeat' split) <;> simp [pending_queueOf, count_countOf, mem_memOf]

@[simp] theorem restartBoot_rest (badA badB testOk : Bool) (s : State) :
    queueOf (restartBoot badA badB testOk s) = queueOf (s) ∧ countOf (restartBoot badA badB testOk s) = countOf (s) ∧
        memOf (restartBoot badA badB testOk s) = memOf (s) := by
  unfold restartBoot
  dsimp only
  (repeat' split) <;> simp [pending_queueOf, count_countOf, mem_memOf]

@[simp] theorem bringUp_rest (s : State) :
    queueOf (bringUp s) = queueOf (s) ∧ countOf (bringUp s) = countOf (s) ∧ memOf (bringUp s) = memOf (s) := by
  unfold bringUp
  simp [pending_queueOf, count_countOf, mem_memOf]

@[simp] theorem minimalUp_rest (s : State) :
    queueOf (minimalUp s) = queueOf (s) ∧ countOf (minimalUp s) = countOf (s) ∧ memOf (minimalUp s) = memOf (s) := by
  unfold minimalUp
  simp [pending_queueOf, count_countOf, mem_memOf]

@[simp] theorem wakeUp_rest (s : State) :
    queueOf (wakeUp s) = queueOf (s) ∧ countOf (wakeUp s) = countOf (s) ∧ memOf (wakeUp s) = memOf (s) := by
  unfold wakeUp
  simp [pending_queueOf, count_countOf, mem_memOf]

@[simp] theorem domainsTick_rest (s : State) :
    queueOf (domainsTick s) = queueOf (s) ∧ countOf (domainsTick s) = countOf (s) ∧ memOf (domainsTick s) = memOf (s)
        := by
  unfold domainsTick
  dsimp only
  (repeat' split) <;> simp [pending_queueOf, count_countOf, mem_memOf]

@[simp] theorem takeSample_rest (s : State) :
    queueOf (takeSample s) = queueOf (s) ∧ countOf (takeSample s) = countOf (s) ∧ memOf (takeSample s) = memOf (s) :=
        by
  unfold takeSample
  simp [pending_queueOf, count_countOf, mem_memOf]

@[simp] theorem afterDown_rest (before after : State) :
    queueOf (afterDown before after) = queueOf (after) ∧ countOf (afterDown before after) = countOf (after) ∧ memOf
        (afterDown before after) = memOf (after) := by
  unfold afterDown
  simp

@[simp] theorem goDown_rest (f : State → State) (s : State) (hf : ∀ t : State, queueOf (f t) = queueOf (t) ∧ countOf
    (f t) = countOf (t) ∧ memOf (f t) = memOf (t)) :
    queueOf (goDown f s) = queueOf (s) ∧ countOf (goDown f s) = countOf (s) ∧ memOf (goDown f s) = memOf (s) := by
  unfold goDown
  simp [hf]

/-- Neither what waits nor the counter changes with the way down. -/
theorem goDown_two (f : State → State) (s : State)
    (hf : ∀ t : State, queueOf (f t) = queueOf t ∧ countOf (f t) = countOf t) :
    queueOf (goDown f s) = queueOf s ∧ countOf (goDown f s) = countOf s := by
  unfold goDown
  simp [hf]

@[simp] theorem retryBoot_rest (s : State) :
    queueOf (retryBoot s) = queueOf (s) ∧ countOf (retryBoot s) = countOf (s) ∧ memOf (retryBoot s) = memOf (s) := by
  unfold retryBoot
  simp [pending_queueOf, count_countOf, mem_memOf]

@[simp] theorem sumShow_rest (s : State) :
    queueOf (sumShow s) = queueOf (s) ∧ countOf (sumShow s) = countOf (s) ∧ memOf (sumShow s) = memOf (s) := by
  unfold sumShow
  simp

@[simp] theorem applySrcMode_rest (s : State) :
    queueOf (applySrcMode s) = queueOf (s) ∧ countOf (applySrcMode s) = countOf (s) ∧ memOf (applySrcMode s) = memOf
        (s) := by
  unfold applySrcMode
  simp [pending_queueOf, count_countOf, mem_memOf]

@[simp] theorem endInjection_rest (p : Nat) (s : State) :
    queueOf (endInjection p s) = queueOf (s) ∧ countOf (endInjection p s) = countOf (s) ∧ memOf (endInjection p s) =
        memOf (s) := by
  unfold endInjection
  simp [pending_queueOf, count_countOf, mem_memOf]

@[simp] theorem injectRaise_rest (n : Nat) (hold : Bool) (s : State) :
    queueOf (injectRaise n hold s) = queueOf (s) ∧ countOf (injectRaise n hold s) = countOf (s) ∧ memOf (injectRaise
        n hold s) = memOf (s) := by
  unfold injectRaise
  simp

@[simp] theorem startInjection_rest (p n mode : Nat) (s : State) :
    queueOf (startInjection p n mode s) = queueOf (s) ∧ countOf (startInjection p n mode s) = countOf (s) ∧ memOf
        (startInjection p n mode s) = memOf (s) := by
  unfold startInjection
  simp [pending_queueOf, count_countOf, mem_memOf]

@[simp] theorem checkInjection_rest (n : Nat) (s : State) :
    queueOf (checkInjection n s) = queueOf (s) ∧ countOf (checkInjection n s) = countOf (s) ∧ memOf (checkInjection n
        s) = memOf (s) := by
  unfold checkInjection
  simp [pending_queueOf, count_countOf, mem_memOf]

@[simp] theorem armInjection_rest (w : Writer) (p : Nat) (s : State) :
    queueOf (armInjection w p s) = queueOf (s) ∧ countOf (armInjection w p s) = countOf (s) ∧ memOf (armInjection w p
        s) = memOf (s) := by
  unfold armInjection
  (repeat' split) <;> simp

@[simp] theorem finjOpen_rest (w : Writer) (p : Nat) (k : State → State) (s : State) (hk : ∀ t : State, queueOf (k t)
    = queueOf (t) ∧ countOf (k t) = countOf (t) ∧ memOf (k t) = memOf (t)) :
    queueOf (finjOpen w p k s) = queueOf (s) ∧ countOf (finjOpen w p k s) = countOf (s) ∧ memOf (finjOpen w p k s) =
        memOf (s) := by
  unfold finjOpen
  simp [hk]

@[simp] theorem writeFinj_rest (w : Writer) (p v : Nat) (s : State) :
    queueOf (writeFinj w p v s) = queueOf (s) ∧ countOf (writeFinj w p v s) = countOf (s) ∧ memOf (writeFinj w p v s)
        = memOf (s) := by
  unfold writeFinj
  simp

@[simp] theorem cancelCar_rest (b : Nat) (s : State) :
    queueOf (cancelCar b s) = queueOf (s) ∧ countOf (cancelCar b s) = countOf (s) ∧ memOf (cancelCar b s) = memOf (s)
        := by
  unfold cancelCar
  simp [pending_queueOf, count_countOf, mem_memOf]

@[simp] theorem abandonOn_rest (p : Nat → Bool) (s : State) :
    queueOf (abandonOn p s) = queueOf (s) ∧ countOf (abandonOn p s) = countOf (s) ∧ memOf (abandonOn p s) = memOf (s)
        := by
  unfold abandonOn
  simp

@[simp] theorem unqueueRead_rest (r : REntry) (s : State) :
    queueOf (unqueueRead r s) = queueOf (s) ∧ countOf (unqueueRead r s) = countOf (s) ∧ memOf (unqueueRead r s) =
        memOf (s) := by
  unfold unqueueRead
  (repeat' split) <;> simp [pending_queueOf, count_countOf, mem_memOf]

@[simp] theorem idleChannel_rest (ch : Nat) (s : State) :
    queueOf (idleChannel ch s) = queueOf (s) ∧ countOf (idleChannel ch s) = countOf (s) := by
  unfold idleChannel
  simp [pending_queueOf, count_countOf, mem_memOf]

@[simp] theorem idlePort_rest (n : Nat) (s : State) :
    queueOf (idlePort n s) = queueOf (s) ∧ countOf (idlePort n s) = countOf (s) ∧ memOf (idlePort n s) = memOf (s) :=
        by
  unfold idlePort
  simp [pending_queueOf, count_countOf, mem_memOf]

@[simp] theorem idleBlock_rest (p : Nat) (s : State) :
    queueOf (idleBlock p s) = queueOf (s) ∧ countOf (idleBlock p s) = countOf (s) := by
  unfold idleBlock
  simp [pending_queueOf, count_countOf, mem_memOf]

@[simp] theorem startAbort'_rest (p : Nat) (reset : Bool) (s : State) :
    queueOf (startAbort' p reset s) = queueOf (s) ∧ countOf (startAbort' p reset s) = countOf (s) := by
  unfold startAbort'
  dsimp only
  (repeat' split) <;> simp [pending_queueOf, count_countOf, mem_memOf]

@[simp] theorem writeAbort_rest (w : Writer) (p : Nat) (reset : Bool) (s : State) :
    queueOf (writeAbort w p reset s) = queueOf (s) ∧ countOf (writeAbort w p reset s) = countOf (s) := by
  unfold writeAbort
  simp

@[simp] theorem resetPage_rest (p : Nat) (s : State) :
    queueOf (resetPage p s) = queueOf (s) ∧ countOf (resetPage p s) = countOf (s) ∧ memOf (resetPage p s) = memOf (s)
        := by
  unfold resetPage
  simp [pending_queueOf, count_countOf, mem_memOf]

@[simp] theorem balancePools_rest (p : Nat) (s : State) :
    queueOf (balancePools p s) = queueOf (s) ∧ countOf (balancePools p s) = countOf (s) ∧ memOf (balancePools p s) =
        memOf (s) := by
  unfold balancePools
  simp

@[simp] theorem endAbort_rest (p : Nat) (s : State) :
    queueOf (endAbort p s) = queueOf (s) ∧ countOf (endAbort p s) = countOf (s) ∧ memOf (endAbort p s) = memOf (s) :=
        by
  unfold endAbort
  (repeat' split) <;> simp [pending_queueOf, count_countOf, mem_memOf]

@[simp] theorem writeFreeze_rest (w : Writer) (p : Nat) (on : Bool) (s : State) :
    queueOf (writeFreeze w p on s) = queueOf (s) ∧ countOf (writeFreeze w p on s) = countOf (s) ∧ memOf (writeFreeze
        w p on s) = memOf (s) := by
  unfold writeFreeze
  simp

@[simp] theorem followField_rest (f : Fld) (s : State) :
    queueOf (followField f s) = queueOf (s) ∧ countOf (followField f s) = countOf (s) ∧ memOf (followField f s) =
        memOf (s) := by
  unfold followField
  (repeat' split) <;> simp [pending_queueOf, count_countOf, mem_memOf]

@[simp] theorem applyShadow_rest (h : Shadow) (s : State) :
    queueOf (applyShadow h s) = queueOf (s) ∧ countOf (applyShadow h s) = countOf (s) ∧ memOf (applyShadow h s) =
        memOf (s) := by
  unfold applyShadow
  simp

@[simp] theorem applyPage_rest (p : Nat) (s : State) :
    queueOf (applyPage p s) = queueOf (s) ∧ countOf (applyPage p s) = countOf (s) ∧ memOf (applyPage p s) = memOf (s)
        := by
  unfold applyPage
  simp [pending_queueOf, count_countOf, mem_memOf]

@[simp] theorem takeEnable_rest (w : Writer) (p : Nat) (on : Bool) (s : State) :
    queueOf (takeEnable w p on s) = queueOf (s) ∧ countOf (takeEnable w p on s) = countOf (s) ∧ memOf (takeEnable w p
        on s) = memOf (s) := by
  unfold takeEnable
  simp

@[simp] theorem writeEnable_rest (w : Writer) (p : Nat) (on : Bool) (s : State) :
    queueOf (writeEnable w p on s) = queueOf (s) ∧ countOf (writeEnable w p on s) = countOf (s) ∧ memOf (writeEnable
        w p on s) = memOf (s) := by
  unfold writeEnable
  simp [pending_queueOf, count_countOf, mem_memOf]

@[simp] theorem finishAbort_rest (p : Nat) (s : State) :
    queueOf (finishAbort p s) = queueOf (s) ∧ countOf (finishAbort p s) = countOf (s) ∧ memOf (finishAbort p s) =
        memOf (s) := by
  unfold finishAbort
  simp [pending_queueOf, count_countOf, mem_memOf]

@[simp] theorem abortTick_rest (s : State) :
    queueOf (abortTick s) = queueOf (s) ∧ countOf (abortTick s) = countOf (s) ∧ memOf (abortTick s) = memOf (s) := by
  unfold abortTick
  simp [pending_queueOf, count_countOf, mem_memOf]

@[simp] theorem react1_rest (r : Req) (s : State) :
    queueOf (react1 r s) = queueOf (s) ∧ countOf (react1 r s) = countOf (s) := by
  unfold react1
  (repeat' split) <;> simp

@[simp] theorem reactRound_rest (s : State) :
    queueOf (reactRound s) = queueOf (s) ∧ countOf (reactRound s) = countOf (s) := by
  unfold reactRound
  simp [pending_queueOf, count_countOf, mem_memOf]

@[simp] theorem reactions_rest (s : State) :
    queueOf (reactions s) = queueOf (s) ∧ countOf (reactions s) = countOf (s) := by
  unfold reactions
  simp [pending_queueOf, count_countOf, mem_memOf]

@[simp] theorem withdrawalTime_rest (s : State) :
    queueOf (withdrawalTime s) = queueOf (s) ∧ countOf (withdrawalTime s) = countOf (s) ∧ memOf (withdrawalTime s) =
        memOf (s) := by
  unfold withdrawalTime
  simp

@[simp] theorem persistShow_rest (s : State) :
    queueOf (persistShow s) = queueOf (s) ∧ countOf (persistShow s) = countOf (s) ∧ memOf (persistShow s) = memOf (s)
        := by
  unfold persistShow
  simp

@[simp] theorem domainOkShow_rest (s : State) :
    queueOf (domainOkShow s) = queueOf (s) ∧ countOf (domainOkShow s) = countOf (s) ∧ memOf (domainOkShow s) = memOf
        (s) := by
  unfold domainOkShow
  simp

@[simp] theorem throttleShow_rest (first : Bool) (dirty : Nat) (s : State) :
    queueOf (throttleShow first dirty s) = queueOf (s) ∧ countOf (throttleShow first dirty s) = countOf (s) ∧ memOf
        (throttleShow first dirty s) = memOf (s) := by
  unfold throttleShow
  simp

@[simp] theorem withheldShow_rest (s : State) :
    queueOf (withheldShow s) = queueOf (s) ∧ countOf (withheldShow s) = countOf (s) ∧ memOf (withheldShow s) = memOf
        (s) := by
  unfold withheldShow
  simp

@[simp] theorem marksShow_rest (s : State) :
    queueOf (marksShow s) = queueOf (s) ∧ countOf (marksShow s) = countOf (s) ∧ memOf (marksShow s) = memOf (s) := by
  unfold marksShow
  simp [pending_queueOf, count_countOf, mem_memOf]

@[simp] theorem sendVector_rest (v : Nat) (s : State) :
    queueOf (sendVector v s) = queueOf (s) ∧ countOf (sendVector v s) = countOf (s) ∧ memOf (sendVector v s) = memOf
        (s) := by
  unfold sendVector
  simp [pending_queueOf, count_countOf, mem_memOf]

@[simp] theorem dueVector_rest (v : Nat) (s : State) :
    queueOf (dueVector v s) = queueOf (s) ∧ countOf (dueVector v s) = countOf (s) ∧ memOf (dueVector v s) = memOf (s)
        := by
  unfold dueVector
  simp [pending_queueOf, count_countOf, mem_memOf]

@[simp] theorem deliver_rest (e : Nat × Nat) (s : State) :
    queueOf (deliver e s) = queueOf (s) ∧ countOf (deliver e s) = countOf (s) ∧ memOf (deliver e s) = memOf (s) := by
  unfold deliver
  simp

@[simp] theorem interrupts_rest (before s : State) :
    queueOf (interrupts before s) = queueOf (s) ∧ countOf (interrupts before s) = countOf (s) ∧ memOf (interrupts
        before s) = memOf (s) := by
  unfold interrupts
  simp

@[simp] theorem creditsShow_rest (s : State) :
    queueOf (creditsShow s) = queueOf (s) ∧ countOf (creditsShow s) = countOf (s) ∧ memOf (creditsShow s) = memOf (s)
        := by
  unfold creditsShow
  simp [pending_queueOf, count_countOf, mem_memOf]

@[simp] theorem settle_rest (before s : State) :
    queueOf (settle before s) = queueOf (s) ∧ countOf (settle before s) = countOf (s) := by
  unfold settle
  simp

@[simp] theorem demand_rest (g : Nat) (s : State) :
    queueOf (demand g s) = queueOf (s) ∧ countOf (demand g s) = countOf (s) ∧ memOf (demand g s) = memOf (s) := by
  unfold demand
  simp

@[simp] theorem setTwn_rest (f : Twn → Twn) (s : State) :
    queueOf (setTwn f s) = queueOf (s) ∧ countOf (setTwn f s) = countOf (s) ∧ memOf (setTwn f s) = memOf (s) := by
  unfold setTwn
  simp [pending_queueOf, count_countOf, mem_memOf]

@[simp] theorem sendHello_rest (s : State) :
    queueOf (sendHello s) = queueOf (s) ∧ countOf (sendHello s) = countOf (s) ∧ memOf (sendHello s) = memOf (s) := by
  unfold sendHello
  simp

@[simp] theorem helloTick_rest (s : State) :
    queueOf (helloTick s) = queueOf (s) ∧ countOf (helloTick s) = countOf (s) ∧ memOf (helloTick s) = memOf (s) := by
  unfold helloTick
  simp

@[simp] theorem ackMirror_rest (n : Nat) (s : State) :
    queueOf (ackMirror n s) = queueOf (s) ∧ countOf (ackMirror n s) = countOf (s) ∧ memOf (ackMirror n s) = memOf (s)
        := by
  unfold ackMirror
  simp [pending_queueOf, count_countOf, mem_memOf]

@[simp] theorem logRemote_rest (c line : Nat) (s : State) :
    queueOf (logRemote c line s) = queueOf (s) ∧ countOf (logRemote c line s) = countOf (s) := by
  unfold logRemote
  simp

@[simp] theorem poisonedMirror_rest (line : Nat) (be : BitVec 64) (data : Line) (s : State) :
    queueOf (poisonedMirror line be data s) = queueOf (s) ∧ countOf (poisonedMirror line be data s) = countOf (s) ∧
        memOf (poisonedMirror line be data s) = memOf (s) := by
  unfold poisonedMirror
  simp

@[simp] theorem applyMirror_rest (m : MirrorIn) (s : State) :
    queueOf (applyMirror m s) = queueOf (s) ∧ countOf (applyMirror m s) = countOf (s) := by
  unfold applyMirror
  (repeat' split) <;> simp

@[simp] theorem mirrorAsks_rest (m : MirrorIn) (s : State) :
    queueOf (mirrorAsks m s) = queueOf (s) ∧ countOf (mirrorAsks m s) = countOf (s) := by
  unfold mirrorAsks
  simp

@[simp] theorem retryMirrors_rest (x0 : List MirrorIn) (s : State) :
    queueOf (retryMirrors x0 s) = queueOf (s) ∧ countOf (retryMirrors x0 s) = countOf (s) := by
  induction x0 generalizing s with
  | nil => simp [retryMirrors]
  | cons m l ih =>
    unfold retryMirrors
    dsimp only
    (repeat' split) <;> simp [ih, pending_queueOf, count_countOf, mem_memOf]

@[simp] theorem prepareNow_rest (c tag : Nat) (s : State) :
    queueOf (prepareNow c tag s) = queueOf (s) ∧ countOf (prepareNow c tag s) = countOf (s) ∧ memOf (prepareNow c tag
        s) = memOf (s) := by
  unfold prepareNow
  simp

@[simp] theorem goPrepares_rest (s : State) :
    queueOf (goPrepares s) = queueOf (s) ∧ countOf (goPrepares s) = countOf (s) ∧ memOf (goPrepares s) = memOf (s) :=
        by
  unfold goPrepares
  simp

@[simp] theorem goMirrors_rest (s : State) :
    queueOf (goMirrors s) = queueOf (s) ∧ countOf (goMirrors s) = countOf (s) := by
  unfold goMirrors
  simp

@[simp] theorem flitBad_rest (s : State) :
    queueOf (flitBad s) = queueOf (s) ∧ countOf (flitBad s) = countOf (s) ∧ memOf (flitBad s) = memOf (s) := by
  unfold flitBad
  (repeat' split) <;> simp

@[simp] theorem takeMirror_rest (m : MirrorIn) (s : State) :
    queueOf (takeMirror m s) = queueOf (s) ∧ countOf (takeMirror m s) = countOf (s) := by
  unfold takeMirror
  simp

@[simp] theorem mirrorTick_rest (s : State) :
    queueOf (mirrorTick s) = queueOf (s) ∧ countOf (mirrorTick s) = countOf (s) := by
  unfold mirrorTick
  (repeat' split) <;> simp

@[simp] theorem resyncShow_rest (s : State) :
    queueOf (resyncShow s) = queueOf (s) ∧ countOf (resyncShow s) = countOf (s) ∧ memOf (resyncShow s) = memOf (s) :=
        by
  unfold resyncShow
  simp

@[simp] theorem sendCopy_rest (s : State) :
    queueOf (sendCopy s) = queueOf (s) ∧ countOf (sendCopy s) = countOf (s) := by
  unfold sendCopy
  (repeat' split) <;> simp

@[simp] theorem resyncTick_rest (s : State) :
    queueOf (resyncTick s) = queueOf (s) ∧ countOf (resyncTick s) = countOf (s) := by
  unfold resyncTick
  simp

@[simp] theorem applyCopy_rest (c : CopyIn) (s : State) :
    queueOf (applyCopy c s) = queueOf (s) ∧ countOf (applyCopy c s) = countOf (s) := by
  unfold applyCopy
  simp

@[simp] theorem takeCopy_rest (c : CopyIn) (s : State) :
    queueOf (takeCopy c s) = queueOf (s) ∧ countOf (takeCopy c s) = countOf (s) := by
  unfold takeCopy
  simp

@[simp] theorem copyTick_rest (s : State) :
    queueOf (copyTick s) = queueOf (s) ∧ countOf (copyTick s) = countOf (s) := by
  unfold copyTick
  simp

@[simp] theorem twinTick_rest (s : State) :
    queueOf (twinTick s) = queueOf (s) ∧ countOf (twinTick s) = countOf (s) := by
  unfold twinTick
  simp

@[simp] theorem badCell_rest (ringB : Bool) (s : State) :
    queueOf (badCell ringB s) = queueOf (s) ∧ countOf (badCell ringB s) = countOf (s) ∧ memOf (badCell ringB s) =
        memOf (s) := by
  unfold badCell
  simp

@[simp] theorem followSource_rest (n : Nat) (b : Bool) (snap2 : Nat) (s : State) :
    queueOf (followSource n b snap2 s) = queueOf (s) ∧ countOf (followSource n b snap2 s) = countOf (s) ∧ memOf
        (followSource n b snap2 s) = memOf (s) := by
  unfold followSource
  simp

@[simp] theorem topoShow_rest (s : State) :
    queueOf (topoShow s) = queueOf (s) ∧ countOf (topoShow s) = countOf (s) ∧ memOf (topoShow s) = memOf (s) := by
  unfold topoShow
  simp

@[simp] theorem setSpan_rest (index : Nat) (broken : Bool) (s : State) :
    queueOf (setSpan index broken s) = queueOf (s) ∧ countOf (setSpan index broken s) = countOf (s) ∧ memOf (setSpan
        index broken s) = memOf (s) := by
  unfold setSpan
  simp [pending_queueOf, count_countOf, mem_memOf]

@[simp] theorem takeFlags_rest (partitioned quorum : Bool) (s : State) :
    queueOf (takeFlags partitioned quorum s) = queueOf (s) ∧ countOf (takeFlags partitioned quorum s) = countOf (s) ∧
        memOf (takeFlags partitioned quorum s) = memOf (s) := by
  unfold takeFlags
  simp [pending_queueOf, count_countOf, mem_memOf]

@[simp] theorem tableShow_rest (s : State) :
    queueOf (tableShow s) = queueOf (s) ∧ countOf (tableShow s) = countOf (s) ∧ memOf (tableShow s) = memOf (s) := by
  unfold tableShow
  simp

@[simp] theorem sendEnum_rest (s : State) :
    queueOf (sendEnum s) = queueOf (s) ∧ countOf (sendEnum s) = countOf (s) ∧ memOf (sendEnum s) = memOf (s) := by
  unfold sendEnum
  simp

@[simp] theorem masterTick_rest (s : State) :
    queueOf (masterTick s) = queueOf (s) ∧ countOf (masterTick s) = countOf (s) ∧ memOf (masterTick s) = memOf (s) :=
        by
  unfold masterTick
  simp [pending_queueOf, count_countOf, mem_memOf]

@[simp] theorem claimTick_rest (s : State) :
    queueOf (claimTick s) = queueOf (s) ∧ countOf (claimTick s) = countOf (s) ∧ memOf (claimTick s) = memOf (s) := by
  unfold claimTick
  simp [pending_queueOf, count_countOf, mem_memOf]

@[simp] theorem ringTick_rest (s : State) :
    queueOf (ringTick s) = queueOf (s) ∧ countOf (ringTick s) = countOf (s) ∧ memOf (ringTick s) = memOf (s) := by
  unfold ringTick
  simp [pending_queueOf, count_countOf, mem_memOf]

@[simp] theorem setCount_rest (n : Nat) (s : State) :
    queueOf (setCount n s) = queueOf (s) ∧ memOf (setCount n s) = memOf (s) := by
  unfold setCount
  simp [pending_queueOf, count_countOf, mem_memOf]

@[simp] theorem moveFrame_rest (f : Fld) (n : Nat) (s : State) :
    queueOf (moveFrame f n s) = queueOf (s) ∧ countOf (moveFrame f n s) = countOf (s) ∧ memOf (moveFrame f n s) =
        memOf (s) := by
  unfold moveFrame
  simp

@[simp] theorem provisionalTick_rest (s : State) :
    queueOf (provisionalTick s) = queueOf (s) ∧ memOf (provisionalTick s) = memOf (s) := by
  unfold provisionalTick
  simp

@[simp] theorem countTick_rest (s : State) :
    queueOf (countTick s) = queueOf (s) ∧ memOf (countTick s) = memOf (s) := by
  unfold countTick
  simp [pending_queueOf, count_countOf, mem_memOf]

@[simp] theorem commitTick_rest (s : State) :
    queueOf (commitTick s) = queueOf (s) ∧ countOf (commitTick s) = countOf (s) ∧ memOf (commitTick s) = memOf (s) :=
        by
  unfold commitTick
  simp

@[simp] theorem beginSwitch_rest (d req : Nat) (s : State) :
    queueOf (beginSwitch d req s) = queueOf (s) ∧ countOf (beginSwitch d req s) = countOf (s) := by
  unfold beginSwitch
  simp [pending_queueOf, count_countOf, mem_memOf]

@[simp] theorem shadowTick_rest (s : State) :
    queueOf (shadowTick s) = queueOf (s) ∧ countOf (shadowTick s) = countOf (s) ∧ memOf (shadowTick s) = memOf (s) :=
        by
  unfold shadowTick
  simp [pending_queueOf, count_countOf, mem_memOf]

@[simp] theorem groupTick_rest (s : State) :
    queueOf (groupTick s) = queueOf (s) ∧ countOf (groupTick s) = countOf (s) := by
  unfold groupTick
  simp [pending_queueOf, count_countOf, mem_memOf]

@[simp] theorem switchTick_rest (s : State) :
    queueOf (switchTick s) = queueOf (s) ∧ countOf (switchTick s) = countOf (s) := by
  unfold switchTick
  have hg : ∀ t : State, queueOf (goDown downTick t) = queueOf t ∧ countOf (goDown downTick t) = countOf t :=
    fun t => goDown_two _ t downTick_rest
  simp [hg, pending_queueOf, count_countOf]

@[simp] theorem wearTick_rest (rtc : Nat) (s : State) :
    queueOf (wearTick rtc s) = queueOf (s) ∧ countOf (wearTick rtc s) = countOf (s) ∧ memOf (wearTick rtc s) = memOf
        (s) := by
  unfold wearTick
  simp [pending_queueOf, count_countOf, mem_memOf]

@[simp] theorem levelSource_rest (n : Nat) (b : Bool) (snap2 snap3 : Nat) (s : State) :
    queueOf (levelSource n b snap2 snap3 s) = queueOf (s) ∧ countOf (levelSource n b snap2 snap3 s) = countOf (s) ∧
        memOf (levelSource n b snap2 snap3 s) = memOf (s) := by
  unfold levelSource
  simp

@[simp] theorem reserveTick_rest (s : State) :
    queueOf (reserveTick s) = queueOf (s) ∧ countOf (reserveTick s) = countOf (s) ∧ memOf (reserveTick s) = memOf (s)
        := by
  unfold reserveTick
  simp [pending_queueOf, count_countOf, mem_memOf]

@[simp] theorem markTick_rest (s : State) :
    queueOf (markTick s) = queueOf (s) ∧ countOf (markTick s) = countOf (s) ∧ memOf (markTick s) = memOf (s) := by
  unfold markTick
  simp

@[simp] theorem allowanceTick_rest (s : State) :
    queueOf (allowanceTick s) = queueOf (s) ∧ countOf (allowanceTick s) = countOf (s) ∧ memOf (allowanceTick s) =
        memOf (s) := by
  unfold allowanceTick
  simp [pending_queueOf, count_countOf, mem_memOf]

@[simp] theorem rateTick_rest (s : State) :
    queueOf (rateTick s) = queueOf (s) ∧ countOf (rateTick s) = countOf (s) ∧ memOf (rateTick s) = memOf (s) := by
  unfold rateTick
  simp [pending_queueOf, count_countOf, mem_memOf]

@[simp] theorem reasonTick_rest (s : State) :
    queueOf (reasonTick s) = queueOf (s) ∧ countOf (reasonTick s) = countOf (s) ∧ memOf (reasonTick s) = memOf (s) :=
        by
  unfold reasonTick
  simp [pending_queueOf, count_countOf, mem_memOf]

@[simp] theorem checkResult_rest (c : Nat × BitVec 18) (s : State) :
    queueOf (checkResult c s) = queueOf (s) ∧ countOf (checkResult c s) = countOf (s) ∧ memOf (checkResult c s) =
        memOf (s) := by
  unfold checkResult
  simp

@[simp] theorem step4_rest (x : TickIn) (s : State) :
    queueOf (step4 x s) = queueOf (s) ∧ countOf (step4 x s) = countOf (s) ∧ memOf (step4 x s) = memOf (s) := by
  unfold step4
  simp

@[simp] theorem poolCheck_rest (a : Nat) (s : State) :
    queueOf (poolCheck a s) = queueOf (s) ∧ countOf (poolCheck a s) = countOf (s) ∧ memOf (poolCheck a s) = memOf (s)
        := by
  unfold poolCheck
  simp

@[simp] theorem poolTick_rest (x : TickIn) (s : State) :
    queueOf (poolTick x s) = queueOf (s) ∧ countOf (poolTick x s) = countOf (s) ∧ memOf (poolTick x s) = memOf (s) :=
        by
  unfold poolTick
  simp

@[simp] theorem overrunTask_rest (ran : List (Fin 10)) (n : Nat) (s : State) :
    queueOf (overrunTask ran n s) = queueOf (s) ∧ countOf (overrunTask ran n s) = countOf (s) ∧ memOf (overrunTask
        ran n s) = memOf (s) := by
  unfold overrunTask
  simp [pending_queueOf, count_countOf, mem_memOf]

@[simp] theorem scrubStall_rest (line : Nat) (s : State) :
    queueOf (scrubStall line s) = queueOf (s) ∧ countOf (scrubStall line s) = countOf (s) ∧ memOf (scrubStall line s)
        = memOf (s) := by
  unfold scrubStall
  simp

theorem scrubRead_rest {line : Nat} {s t : State} (h : scrubRead line s = some t) :
    queueOf (t) = queueOf (s) ∧ countOf (t) = countOf (s) ∧ memOf (t) = memOf (s) := by
  unfold scrubRead at h
  split at h
  · cases h; simp
  · split at h
    · cases h
    · cases h; simp

@[simp] theorem scrubRun_rest (x0 : Nat) (s : State) :
    queueOf (scrubRun x0 s) = queueOf (s) ∧ countOf (scrubRun x0 s) = countOf (s) ∧ memOf (scrubRun x0 s) = memOf (s)
        := by
  induction x0 generalizing s with
  | zero => simp [scrubRun]
  | succ n ih =>
    unfold scrubRun
    dsimp only
    split
    · simp
    · split
      · simp
      · rename_i t ht
        have h := scrubRead_rest ht
        simp [ih, pending_queueOf, count_countOf, mem_memOf]
        simpa [pending_queueOf, count_countOf, mem_memOf] using h

@[simp] theorem marginalRun_rest (x0 : Nat) (s : State) :
    queueOf (marginalRun x0 s) = queueOf (s) ∧ countOf (marginalRun x0 s) = countOf (s) ∧ memOf (marginalRun x0 s) =
        memOf (s) := by
  induction x0 generalizing s with
  | zero => simp [marginalRun]
  | succ n ih =>
    unfold marginalRun
    dsimp only
    generalize (if scrubLines s ≤ s.dram.marginalLine then 0 else s.dram.marginalLine) = line
    split
    · simp
    · rename_i t ht
      split at ht
      · have h := scrubRead_rest ht
        simp [ih, pending_queueOf, count_countOf, mem_memOf]
        simpa [pending_queueOf, count_countOf, mem_memOf] using h
      · cases ht
        simp [ih, pending_queueOf, count_countOf, mem_memOf]

@[simp] theorem scrubPassEnd_rest (counts : List (Fin 64 × Nat)) (s : State) :
    queueOf (scrubPassEnd counts s) = queueOf (s) ∧ countOf (scrubPassEnd counts s) = countOf (s) ∧ memOf
        (scrubPassEnd counts s) = memOf (s) := by
  unfold scrubPassEnd
  simp [pending_queueOf, count_countOf, mem_memOf]

@[simp] theorem scrubTask_rest (x : TickIn) (s : State) :
    queueOf (scrubTask x s) = queueOf (s) ∧ countOf (scrubTask x s) = countOf (s) ∧ memOf (scrubTask x s) = memOf (s)
        := by
  unfold scrubTask
  simp

@[simp] theorem startRetrain_rest (i : Nat) (byCrc : Bool) (s : State) :
    queueOf (startRetrain i byCrc s) = queueOf (s) ∧ countOf (startRetrain i byCrc s) = countOf (s) ∧ memOf
        (startRetrain i byCrc s) = memOf (s) := by
  unfold startRetrain
  simp [pending_queueOf, count_countOf, mem_memOf]

@[simp] theorem measureDrift_rest (drift : List (Fin 16 × Nat)) (ch : Nat) (s : State) :
    queueOf (measureDrift drift ch s) = queueOf (s) ∧ countOf (measureDrift drift ch s) = countOf (s) ∧ memOf
        (measureDrift drift ch s) = memOf (s) := by
  unfold measureDrift
  (repeat' split) <;> simp [pending_queueOf, count_countOf, mem_memOf]

@[simp] theorem readMr4_rest (ch : Nat) (temp : Int) (s : State) :
    queueOf (readMr4 ch temp s) = queueOf (s) ∧ countOf (readMr4 ch temp s) = countOf (s) ∧ memOf (readMr4 ch temp s)
        = memOf (s) := by
  unfold readMr4
  simp [pending_queueOf, count_countOf, mem_memOf]

@[simp] theorem driftTask_rest (x : TickIn) (s : State) :
    queueOf (driftTask x s) = queueOf (s) ∧ countOf (driftTask x s) = countOf (s) ∧ memOf (driftTask x s) = memOf (s)
        := by
  unfold driftTask
  simp [pending_queueOf, count_countOf, mem_memOf]

@[simp] theorem telemetryTask_rest (s : State) :
    queueOf (telemetryTask s) = queueOf (s) ∧ countOf (telemetryTask s) = countOf (s) ∧ memOf (telemetryTask s) =
        memOf (s) := by
  unfold telemetryTask
  simp

@[simp] theorem testItem_rest (r : Fin 10 × Bool) (s : State) :
    queueOf (testItem r s) = queueOf (s) ∧ countOf (testItem r s) = countOf (s) ∧ memOf (testItem r s) = memOf (s) :=
        by
  unfold testItem
  simp [pending_queueOf, count_countOf, mem_memOf]

@[simp] theorem selftestTask_rest (x : TickIn) (s : State) :
    queueOf (selftestTask x s) = queueOf (s) ∧ countOf (selftestTask x s) = countOf (s) ∧ memOf (selftestTask x s) =
        memOf (s) := by
  unfold selftestTask
  simp [pending_queueOf, count_countOf, mem_memOf]

@[simp] theorem ageTick_rest (s : State) :
    queueOf (ageTick s) = queueOf (s) ∧ countOf (ageTick s) = countOf (s) ∧ memOf (ageTick s) = memOf (s) := by
  unfold ageTick
  simp [pending_queueOf, count_countOf, mem_memOf]

@[simp] theorem endRecount_rest (accum : Nat) (summaryBad : Bool) (raises : Bool) (s : State) :
    queueOf (endRecount accum summaryBad raises s) = queueOf (s) ∧ countOf (endRecount accum summaryBad raises s) =
        countOf (s) ∧ memOf (endRecount accum summaryBad raises s) = memOf (s) := by
  unfold endRecount
  simp

@[simp] theorem checkSlice_rest (x : TickIn) (s : State) :
    queueOf (checkSlice x s) = queueOf (s) ∧ countOf (checkSlice x s) = countOf (s) ∧ memOf (checkSlice x s) = memOf
        (s) := by
  unfold checkSlice
  simp

@[simp] theorem recountTask_rest (x : TickIn) (s : State) :
    queueOf (recountTask x s) = queueOf (s) ∧ countOf (recountTask x s) = countOf (s) ∧ memOf (recountTask x s) =
        memOf (s) := by
  unfold recountTask
  simp [pending_queueOf, count_countOf, mem_memOf]

@[simp] theorem beginMove_rest (m : MoveStart) (s : State) :
    queueOf (beginMove m s) = queueOf (s) ∧ countOf (beginMove m s) = countOf (s) ∧ memOf (beginMove m s) = memOf (s)
        := by
  unfold beginMove
  (repeat' split) <;> simp

@[simp] theorem moveTask_rest (x : TickIn) (s : State) :
    queueOf (moveTask x s) = queueOf (s) ∧ countOf (moveTask x s) = countOf (s) ∧ memOf (moveTask x s) = memOf (s) :=
        by
  unfold moveTask
  simp

@[simp] theorem lingerTask_rest (s : State) :
    queueOf (lingerTask s) = queueOf (s) ∧ countOf (lingerTask s) = countOf (s) ∧ memOf (lingerTask s) = memOf (s) :=
        by
  unfold lingerTask
  simp

@[simp] theorem slices_rest (x : TickIn) (s : State) :
    queueOf (slices x s) = queueOf (s) ∧ countOf (slices x s) = countOf (s) ∧ memOf (slices x s) = memOf (s) := by
  unfold slices
  simp

@[simp] theorem deltaTick_rest (s : State) :
    queueOf (deltaTick s) = queueOf (s) ∧ countOf (deltaTick s) = countOf (s) ∧ memOf (deltaTick s) = memOf (s) := by
  unfold deltaTick
  simp

@[simp] theorem savTick_rest (s : State) :
    queueOf (savTick s) = queueOf (s) ∧ countOf (savTick s) = countOf (s) ∧ memOf (savTick s) = memOf (s) := by
  unfold savTick
  simp [pending_queueOf, count_countOf, mem_memOf]

@[simp] theorem restoreTick_rest (s : State) :
    queueOf (restoreTick s) = queueOf (s) ∧ countOf (restoreTick s) = countOf (s) ∧ memOf (restoreTick s) = memOf (s)
        := by
  unfold restoreTick
  simp [pending_queueOf, count_countOf, mem_memOf]

@[simp] theorem waitTick_rest (s : State) :
    queueOf (waitTick s) = queueOf (s) ∧ countOf (waitTick s) = countOf (s) ∧ memOf (waitTick s) = memOf (s) := by
  unfold waitTick
  simp

@[simp] theorem ctoShow_rest (s : State) :
    queueOf (ctoShow s) = queueOf (s) ∧ countOf (ctoShow s) = countOf (s) ∧ memOf (ctoShow s) = memOf (s) := by
  unfold ctoShow
  simp

@[simp] theorem busShow_rest (ch : Nat) (s : State) :
    queueOf (busShow ch s) = queueOf (s) ∧ countOf (busShow ch s) = countOf (s) ∧ memOf (busShow ch s) = memOf (s) :=
        by
  unfold busShow
  simp

@[simp] theorem busesShow_rest (s : State) :
    queueOf (busesShow s) = queueOf (s) ∧ countOf (busesShow s) = countOf (s) ∧ memOf (busesShow s) = memOf (s) := by
  unfold busesShow
  simp

@[simp] theorem countersTick_rest (s : State) :
    queueOf (countersTick s) = queueOf (s) ∧ countOf (countersTick s) = countOf (s) ∧ memOf (countersTick s) = memOf
        (s) := by
  unfold countersTick
  simp [pending_queueOf, count_countOf, mem_memOf]

@[simp] theorem syncTick_rest (seen : Bool) (s : State) :
    queueOf (syncTick seen s) = queueOf (s) ∧ countOf (syncTick seen s) = countOf (s) ∧ memOf (syncTick seen s) =
        memOf (s) := by
  unfold syncTick
  simp

@[simp] theorem relockFrames_rest (s : State) :
    queueOf (relockFrames s) = queueOf (s) ∧ countOf (relockFrames s) = countOf (s) ∧ memOf (relockFrames s) = memOf
        (s) := by
  unfold relockFrames
  simp [pending_queueOf, count_countOf, mem_memOf]

@[simp] theorem faultTick_rest (s : State) :
    queueOf (faultTick s) = queueOf (s) ∧ countOf (faultTick s) = countOf (s) ∧ memOf (faultTick s) = memOf (s) := by
  unfold faultTick
  simp [pending_queueOf, count_countOf, mem_memOf]

@[simp] theorem stallTick_rest (s : State) :
    queueOf (stallTick s) = queueOf (s) ∧ countOf (stallTick s) = countOf (s) ∧ memOf (stallTick s) = memOf (s) := by
  unfold stallTick
  simp [pending_queueOf, count_countOf, mem_memOf]

@[simp] theorem updTick_rest (s : State) :
    queueOf (updTick s) = queueOf (s) ∧ countOf (updTick s) = countOf (s) ∧ memOf (updTick s) = memOf (s) := by
  unfold updTick
  simp [pending_queueOf, count_countOf, mem_memOf]

@[simp] theorem etaTick_rest (s : State) :
    queueOf (etaTick s) = queueOf (s) ∧ countOf (etaTick s) = countOf (s) ∧ memOf (etaTick s) = memOf (s) := by
  unfold etaTick
  simp

@[simp] theorem tick_rest (x : TickIn) (s : State) :
    queueOf (tick x s) = queueOf (s) := by
  unfold tick
  simp [pending_queueOf, count_countOf, mem_memOf]

@[simp] theorem portFailed_rest (n : Nat) (s : State) :
    queueOf (portFailed n s) = queueOf (s) ∧ countOf (portFailed n s) = countOf (s) ∧ memOf (portFailed n s) = memOf
        (s) := by
  unfold portFailed
  simp

@[simp] theorem domainGroup_rest (d : Nat) (s : State) :
    queueOf (domainGroup d s) = queueOf (s) ∧ countOf (domainGroup d s) = countOf (s) := by
  unfold domainGroup
  simp [pending_queueOf, count_countOf, mem_memOf]

@[simp] theorem dropSwitch_rest (d : Nat) (s : State) :
    queueOf (dropSwitch d s) = queueOf (s) ∧ countOf (dropSwitch d s) = countOf (s) ∧ memOf (dropSwitch d s) = memOf
        (s) := by
  unfold dropSwitch
  simp [pending_queueOf, count_countOf, mem_memOf]

@[simp] theorem domainReact_rest (d : Nat) (s : State) :
    queueOf (domainReact d s) = queueOf (s) ∧ countOf (domainReact d s) = countOf (s) := by
  unfold domainReact
  simp [pending_queueOf, count_countOf, mem_memOf]

@[simp] theorem runWaitingDomains_rest (s : State) :
    queueOf (runWaitingDomains s) = queueOf (s) ∧ countOf (runWaitingDomains s) = countOf (s) := by
  unfold runWaitingDomains
  simp [pending_queueOf, count_countOf, mem_memOf]

@[simp] theorem addShadow_rest (f : Fld) (v phase : Nat) (s : State) :
    queueOf (addShadow f v phase s) = queueOf (s) ∧ countOf (addShadow f v phase s) = countOf (s) ∧ memOf (addShadow
        f v phase s) = memOf (s) := by
  unfold addShadow
  simp [pending_queueOf, count_countOf, mem_memOf]

@[simp] theorem writeStatic_rest (w : Writer) (f : Fld) (v : Nat) (ok : Bool) (apply : State → State) (s : State)
    (happly : ∀ t : State, queueOf (apply t) = queueOf (t) ∧ countOf (apply t) = countOf (t) ∧ memOf (apply t) =
    memOf (t)) :
    queueOf (writeStatic w f v ok apply s) = queueOf (s) ∧ countOf (writeStatic w f v ok apply s) = countOf (s) ∧
        memOf (writeStatic w f v ok apply s) = memOf (s) := by
  unfold writeStatic
  simp [happly]

@[simp] theorem writeShadowed_rest (w : Writer) (f : Fld) (v phase : Nat) (ok : Bool) (s : State) :
    queueOf (writeShadowed w f v phase ok s) = queueOf (s) ∧ countOf (writeShadowed w f v phase ok s) = countOf (s) ∧
        memOf (writeShadowed w f v phase ok s) = memOf (s) := by
  unfold writeShadowed
  simp

@[simp] theorem discipline_rest (frame : Nat) (phaseErr : Int) (delay : Nat) (s : State) :
    queueOf (discipline frame phaseErr delay s) = queueOf (s) ∧ countOf (discipline frame phaseErr delay s) = countOf
        (s) ∧ memOf (discipline frame phaseErr delay s) = memOf (s) := by
  unfold discipline
  simp [pending_queueOf, count_countOf, mem_memOf]

@[simp] theorem writeSrcMode_rest (w : Writer) (mode : Nat) (s : State) :
    queueOf (writeSrcMode w mode s) = queueOf (s) ∧ countOf (writeSrcMode w mode s) = countOf (s) ∧ memOf
        (writeSrcMode w mode s) = memOf (s) := by
  unfold writeSrcMode
  simp

@[simp] theorem writeCommitShadow_rest (p : Nat) (s : State) :
    queueOf (writeCommitShadow p s) = queueOf (s) ∧ countOf (writeCommitShadow p s) = countOf (s) ∧ memOf
        (writeCommitShadow p s) = memOf (s) := by
  unfold writeCommitShadow
  simp [pending_queueOf, count_countOf, mem_memOf]

@[simp] theorem writeLock_rest (p : Nat) (s : State) :
    queueOf (writeLock p s) = queueOf (s) ∧ countOf (writeLock p s) = countOf (s) ∧ memOf (writeLock p s) = memOf (s)
        := by
  unfold writeLock
  simp

@[simp] theorem writeKey_rest (w : Writer) (key : Nat) (s : State) :
    queueOf (writeKey w key s) = queueOf (s) ∧ countOf (writeKey w key s) = countOf (s) ∧ memOf (writeKey w key s) =
        memOf (s) := by
  unfold writeKey
  simp [pending_queueOf, count_countOf, mem_memOf]

@[simp] theorem ackCapacity_rest (s : State) :
    queueOf (ackCapacity s) = queueOf (s) ∧ countOf (ackCapacity s) = countOf (s) ∧ memOf (ackCapacity s) = memOf (s)
        := by
  unfold ackCapacity
  simp

@[simp] theorem writeMgmtPort_rest (w : Writer) (n : Nat) (s : State) :
    queueOf (writeMgmtPort w n s) = queueOf (s) ∧ countOf (writeMgmtPort w n s) = countOf (s) ∧ memOf (writeMgmtPort
        w n s) = memOf (s) := by
  unfold writeMgmtPort
  simp

@[simp] theorem writeFind_rest (vector start : Nat) (s : State) :
    queueOf (writeFind vector start s) = queueOf (s) ∧ countOf (writeFind vector start s) = countOf (s) ∧ memOf
        (writeFind vector start s) = memOf (s) := by
  unfold writeFind
  simp [pending_queueOf, count_countOf, mem_memOf]

@[simp] theorem awaitWrite_rest (w : WriteWait) (s : State) :
    queueOf (awaitWrite w s) = queueOf (s) ∧ countOf (awaitWrite w s) = countOf (s) ∧ memOf (awaitWrite w s) = memOf
        (s) := by
  unfold awaitWrite
  simp [pending_queueOf, count_countOf, mem_memOf]

@[simp] theorem dropWrite_rest (q : Stalled) (s : State) :
    queueOf (dropWrite q s) = queueOf (s) ∧ countOf (dropWrite q s) = countOf (s) ∧ memOf (dropWrite q s) = memOf (s)
        := by
  unfold dropWrite
  simp

@[simp] theorem awaitRead_rest (port tag line : Nat) (data : Option (Option Line)) (s : State) :
    queueOf (awaitRead port tag line data s) = queueOf (s) ∧ countOf (awaitRead port tag line data s) = countOf (s) ∧
        memOf (awaitRead port tag line data s) = memOf (s) := by
  unfold awaitRead
  simp [pending_queueOf, count_countOf, mem_memOf]

@[simp] theorem stall_rest (q : Stalled) (why : WaitFor) (s : State) :
    queueOf (stall q why s) = queueOf (s) ∧ countOf (stall q why s) = countOf (s) ∧ memOf (stall q why s) = memOf (s)
        := by
  unfold stall
  simp [pending_queueOf, count_countOf, mem_memOf]

@[simp] theorem stallPool_rest (q : Stalled) (o : Nat) (s : State) :
    queueOf (stallPool q o s) = queueOf (s) ∧ countOf (stallPool q o s) = countOf (s) ∧ memOf (stallPool q o s) =
        memOf (s) := by
  unfold stallPool
  simp

@[simp] theorem holdWaitShow_rest (s : State) :
    queueOf (holdWaitShow s) = queueOf (s) ∧ countOf (holdWaitShow s) = countOf (s) ∧ memOf (holdWaitShow s) = memOf
        (s) := by
  unfold holdWaitShow
  simp

@[simp] theorem poisonedWrite_rest (q : Stalled) (be : BitVec 64) (s : State) :
    queueOf (poisonedWrite q be s) = queueOf (s) ∧ countOf (poisonedWrite q be s) = countOf (s) ∧ memOf
        (poisonedWrite q be s) = memOf (s) := by
  unfold poisonedWrite
  simp

@[simp] theorem applyWrite_rest (q : Stalled) (be : BitVec 64) (s : State) :
    queueOf (applyWrite q be s) = queueOf (s) ∧ countOf (applyWrite q be s) = countOf (s) ∧ memOf (applyWrite q be s)
        = memOf (s) := by
  unfold applyWrite
  dsimp only
  (repeat' split) <;> simp

@[simp] theorem limitAbort_rest (c : Nat) (q : Stalled) (s : State) :
    queueOf (limitAbort c q s) = queueOf (s) ∧ countOf (limitAbort c q s) = countOf (s) ∧ memOf (limitAbort c q s) =
        memOf (s) := by
  unfold limitAbort
  simp

@[simp] theorem logThenApply_rest (newLine : Bool) (c : Nat) (q : Stalled) (be : BitVec 64) (s : State) :
    queueOf (logThenApply newLine c q be s) = queueOf (s) ∧ countOf (logThenApply newLine c q be s) = countOf (s) :=
        by
  unfold logThenApply
  simp

@[simp] theorem placeWrite_rest (q : Stalled) (be : BitVec 64) (s : State) :
    queueOf (placeWrite q be s) = queueOf (s) ∧ countOf (placeWrite q be s) = countOf (s) := by
  unfold placeWrite
  simp

@[simp] theorem markLate_rest (q : Stalled) (s : State) :
    queueOf (markLate q s) = queueOf (s) ∧ countOf (markLate q s) = countOf (s) ∧ memOf (markLate q s) = memOf (s) :=
        by
  unfold markLate
  (repeat' split) <;> simp

@[simp] theorem tryWrite_rest (q : Stalled) (be : BitVec 64) (s : State) :
    queueOf (tryWrite q be s) = queueOf (s) ∧ countOf (tryWrite q be s) = countOf (s) := by
  unfold tryWrite
  simp

@[simp] theorem readEntry_rest (line : Nat) (ecc : MarverEcc) (s : State) :
    queueOf (readEntry line ecc s) = queueOf (s) ∧ countOf (readEntry line ecc s) = countOf (s) ∧ memOf (readEntry
        line ecc s) = memOf (s) := by
  unfold readEntry
  simp

@[simp] theorem ingest_rest (q : Stalled) (be : BitVec 64) (ecc : MarverEcc) (s : State) :
    queueOf (ingest q be ecc s) = queueOf (s) ∧ countOf (ingest q be ecc s) = countOf (s) := by
  unfold ingest
  simp

@[simp] theorem hostWrite_rest (port : Nat) (a : HostAddr) (be : BitVec 64) (data : Line) (tag : Nat) (poison : Bool)
    (x : WriteIn) (s : State) :
    queueOf (hostWrite port a be data tag poison x s) = queueOf (s) ∧
      countOf (hostWrite port a be data tag poison x s) = countOf (s) := by
  unfold hostWrite
  dsimp only
  (repeat' split) <;> simp [pending_queueOf, count_countOf, mem_memOf]

@[simp] theorem fetchLine_rest (q : Stalled) (s : State) :
    queueOf (fetchLine q s) = queueOf (s) ∧ countOf (fetchLine q s) = countOf (s) := by
  unfold fetchLine
  simp

@[simp] theorem tryRead_rest (q : Stalled) (s : State) :
    queueOf (tryRead q s) = queueOf (s) ∧ countOf (tryRead q s) = countOf (s) := by
  unfold tryRead
  simp [pending_queueOf, count_countOf, mem_memOf]

@[simp] theorem hostRead_rest (port : Nat) (a : HostAddr) (tag : Nat) (ecc : MarverEcc) (s : State) :
    queueOf (hostRead port a tag ecc s) = queueOf (s) ∧ countOf (hostRead port a tag ecc s) = countOf (s) := by
  unfold hostRead
  dsimp only
  (repeat' split) <;> simp [pending_queueOf, count_countOf, mem_memOf]

@[simp] theorem tryAgain_rest (q : Stalled) (s : State) :
    queueOf (tryAgain q s) = queueOf (s) ∧ countOf (tryAgain q s) = countOf (s) := by
  unfold tryAgain
  (repeat' split) <;> simp

@[simp] theorem retryStalled_rest (s : State) :
    queueOf (retryStalled s) = queueOf (s) ∧ countOf (retryStalled s) = countOf (s) := by
  unfold retryStalled
  simp [pending_queueOf, count_countOf, mem_memOf]

@[simp] theorem afterRestore_rest (s : State) :
    queueOf (afterRestore s) = queueOf (s) ∧ countOf (afterRestore s) = countOf (s) := by
  unfold afterRestore
  simp

@[simp] theorem sendCompletion_rest (port tag : Nat) (s : State) :
    queueOf (sendCompletion port tag s) = queueOf (s) ∧ countOf (sendCompletion port tag s) = countOf (s) ∧ memOf
        (sendCompletion port tag s) = memOf (s) := by
  unfold sendCompletion
  (repeat' split) <;> simp [pending_queueOf, count_countOf, mem_memOf]

@[simp] theorem answerRead_rest (r : ReadWait) (d : Option Line) (s : State) :
    queueOf (answerRead r d s) = queueOf (s) ∧ countOf (answerRead r d s) = countOf (s) ∧ memOf (answerRead r d s) =
        memOf (s) := by
  unfold answerRead
  dsimp only
  (repeat' split) <;> simp [pending_queueOf, count_countOf, mem_memOf]

@[simp] theorem sendRead_rest (port tag : Nat) (first second : BitVec 64) (s : State) :
    queueOf (sendRead port tag first second s) = queueOf (s) ∧ countOf (sendRead port tag first second s) = countOf
        (s) ∧ memOf (sendRead port tag first second s) = memOf (s) := by
  unfold sendRead
  (repeat' split) <;> simp

@[simp] theorem aerSet_rest (n mask : Nat) (s : State) :
    queueOf (aerSet n mask s) = queueOf (s) ∧ countOf (aerSet n mask s) = countOf (s) ∧ memOf (aerSet n mask s) =
        memOf (s) := by
  unfold aerSet
  simp [pending_queueOf, count_countOf, mem_memOf]

@[simp] theorem sendPendingOn_rest (p : Nat × Nat → Bool) (s : State) :
    queueOf (sendPendingOn p s) = queueOf (s) ∧ countOf (sendPendingOn p s) = countOf (s) ∧ memOf (sendPendingOn p s)
        = memOf (s) := by
  unfold sendPendingOn
  simp [pending_queueOf, count_countOf, mem_memOf]

@[simp] theorem maskEntry_rest (n v : Nat) (masked : Bool) (s : State) :
    queueOf (maskEntry n v masked s) = queueOf (s) ∧ countOf (maskEntry n v masked s) = countOf (s) ∧ memOf
        (maskEntry n v masked s) = memOf (s) := by
  unfold maskEntry
  simp [pending_queueOf, count_countOf, mem_memOf]

@[simp] theorem configAccess_rest (n : Nat) (x : ConfigAccess) (s : State) :
    queueOf (configAccess n x s) = queueOf (s) ∧ countOf (configAccess n x s) = countOf (s) ∧ memOf (configAccess n x
        s) = memOf (s) := by
  unfold configAccess
  (repeat' split) <;> simp [pending_queueOf, count_countOf, mem_memOf]

@[simp] theorem configRequest_rest (n : Nat) (x : ConfigAccess) (s : State) :
    queueOf (configRequest n x s) = queueOf (s) ∧ countOf (configRequest n x s) = countOf (s) ∧ memOf (configRequest
        n x s) = memOf (s) := by
  unfold configRequest
  simp

@[simp] theorem assertPerst_rest (n : Nat) (s : State) :
    queueOf (assertPerst n s) = queueOf (s) ∧ countOf (assertPerst n s) = countOf (s) := by
  unfold assertPerst
  simp [pending_queueOf, count_countOf, mem_memOf]

@[simp] theorem sendPending_rest (n : Nat) (s : State) :
    queueOf (sendPending n s) = queueOf (s) ∧ countOf (sendPending n s) = countOf (s) ∧ memOf (sendPending n s) =
        memOf (s) := by
  unfold sendPending
  simp

@[simp] theorem linkUp_rest (n : Nat) (x16 gt64 : Bool) (s : State) :
    queueOf (linkUp n x16 gt64 s) = queueOf (s) ∧ countOf (linkUp n x16 gt64 s) = countOf (s) ∧ memOf (linkUp n x16
        gt64 s) = memOf (s) := by
  unfold linkUp
  simp

@[simp] theorem commitDecoder_rest (n d size ways : Nat) (s : State) :
    queueOf (commitDecoder n d size ways s) = queueOf (s) ∧ countOf (commitDecoder n d size ways s) = countOf (s) ∧
        memOf (commitDecoder n d size ways s) = memOf (s) := by
  unfold commitDecoder
  simp [pending_queueOf, count_countOf, mem_memOf]

@[simp] theorem gpfFlush_rest (n : Nat) (s : State) :
    queueOf (gpfFlush n s) = queueOf (s) ∧ countOf (gpfFlush n s) = countOf (s) := by
  unfold gpfFlush
  simp [pending_queueOf, count_countOf, mem_memOf]

@[simp] theorem reply_rest (n code : Nat) (payload : List Nat) (s : State) :
    queueOf (reply n code payload s) = queueOf (s) ∧ countOf (reply n code payload s) = countOf (s) ∧ memOf (reply n
        code payload s) = memOf (s) := by
  unfold reply
  simp

@[simp] theorem query_rest (n : Nat) (payload : State → List Nat) (s : State) :
    queueOf (query n payload s) = queueOf (s) ∧ countOf (query n payload s) = countOf (s) ∧ memOf (query n payload s)
        = memOf (s) := by
  unfold query
  simp

@[simp] theorem manage_rest (n : Nat) (f : State → State) (s : State) (hf : ∀ t : State, queueOf (f t) = queueOf (t)
    ∧ countOf (f t) = countOf (t) ∧ memOf (f t) = memOf (t)) :
    queueOf (manage n f s) = queueOf (s) ∧ countOf (manage n f s) = countOf (s) ∧ memOf (manage n f s) = memOf (s) :=
        by
  unfold manage
  simp [hf]

@[simp] theorem poisonList_rest (n : Nat) (s : State) :
    queueOf (poisonList n s) = queueOf (s) ∧ countOf (poisonList n s) = countOf (s) ∧ memOf (poisonList n s) = memOf
        (s) := by
  unfold poisonList
  simp

@[simp] theorem injectLine_rest (n addr : Nat) (s : State) :
    queueOf (injectLine n addr s) = queueOf (s) ∧ countOf (injectLine n addr s) = countOf (s) := by
  unfold injectLine
  simp

@[simp] theorem clearLine_rest (n addr : Nat) (data : Line) (tag : Nat) (s : State) :
    queueOf (clearLine n addr data tag s) = queueOf (s) ∧ countOf (clearLine n addr data tag s) = countOf (s) := by
  unfold clearLine
  simp

@[simp] theorem programPart_rest (c : Nat) (slotB : Bool) (first : Nat) (data : List Word) (s : State) :
    queueOf (programPart c slotB first data s) = queueOf (s) ∧ countOf (programPart c slotB first data s) = countOf
        (s) ∧ memOf (programPart c slotB first data s) = memOf (s) := by
  unfold programPart
  simp

@[simp] theorem progressShow_rest (words : Nat) (s : State) :
    queueOf (progressShow words s) = queueOf (s) ∧ countOf (progressShow words s) = countOf (s) ∧ memOf (progressShow
        words s) = memOf (s) := by
  unfold progressShow
  simp

@[simp] theorem badPart_rest (n : Nat) (s : State) :
    queueOf (badPart n s) = queueOf (s) ∧ countOf (badPart n s) = countOf (s) ∧ memOf (badPart n s) = memOf (s) := by
  unfold badPart
  simp

@[simp] theorem beginTransfer_rest (n first : Nat) (data : List Word) (s : State) :
    queueOf (beginTransfer n first data s) = queueOf (s) ∧ countOf (beginTransfer n first data s) = countOf (s) ∧
        memOf (beginTransfer n first data s) = memOf (s) := by
  unfold beginTransfer
  simp [pending_queueOf, count_countOf, mem_memOf]

@[simp] theorem goOnTransfer_rest (n first : Nat) (data : List Word) (s : State) :
    queueOf (goOnTransfer n first data s) = queueOf (s) ∧ countOf (goOnTransfer n first data s) = countOf (s) ∧ memOf
        (goOnTransfer n first data s) = memOf (s) := by
  unfold goOnTransfer
  (repeat' split) <;> simp [pending_queueOf, count_countOf, mem_memOf]

@[simp] theorem finishTransfer_rest (n : Nat) (signed : Bool) (s : State) :
    queueOf (finishTransfer n signed s) = queueOf (s) ∧ countOf (finishTransfer n signed s) = countOf (s) ∧ memOf
        (finishTransfer n signed s) = memOf (s) := by
  unfold finishTransfer
  (repeat' split) <;> simp

@[simp] theorem transferPart_rest (n : Nat) (part : FwPart) (s : State) :
    queueOf (transferPart n part s) = queueOf (s) ∧ countOf (transferPart n part s) = countOf (s) ∧ memOf
        (transferPart n part s) = memOf (s) := by
  unfold transferPart
  (repeat' split) <;> simp

@[simp] theorem unsupportedOpcode_rest (n op : Nat) (s : State) :
    queueOf (unsupportedOpcode n op s) = queueOf (s) ∧ countOf (unsupportedOpcode n op s) = countOf (s) ∧ memOf
        (unsupportedOpcode n op s) = memOf (s) := by
  unfold unsupportedOpcode
  (repeat' split) <;> simp

@[simp] theorem setSub_rest (ch sub : Nat) (v : Sub) (s : State) :
    queueOf (setSub ch sub v s) = queueOf (s) ∧ countOf (setSub ch sub v s) = countOf (s) ∧ memOf (setSub ch sub v s)
        = memOf (s) := by
  unfold setSub
  simp [pending_queueOf, count_countOf, mem_memOf]

@[simp] theorem setRows_rest (l : List OpenRow) (s : State) :
    queueOf (setRows l s) = queueOf (s) ∧ countOf (setRows l s) = countOf (s) ∧ memOf (setRows l s) = memOf (s) := by
  unfold setRows
  simp [pending_queueOf, count_countOf, mem_memOf]

@[simp] theorem closeRow_rest (ch sub rank bank : Nat) (s : State) :
    queueOf (closeRow ch sub rank bank s) = queueOf (s) ∧ countOf (closeRow ch sub rank bank s) = countOf (s) ∧ memOf
        (closeRow ch sub rank bank s) = memOf (s) := by
  unfold closeRow
  simp

@[simp] theorem wakeRank_rest (ch rank : Nat) (s : State) :
    queueOf (wakeRank ch rank s) = queueOf (s) ∧ countOf (wakeRank ch rank s) = countOf (s) ∧ memOf (wakeRank ch rank
        s) = memOf (s) := by
  unfold wakeRank
  simp [pending_queueOf, count_countOf, mem_memOf]

@[simp] theorem issueColumn_rest (ch sub : Nat) (write : Bool) (c : Waiting) (s : State) :
    queueOf (issueColumn ch sub write c s) = queueOf (s) ∧ countOf (issueColumn ch sub write c s) = countOf (s) := by
  unfold issueColumn
  dsimp only
  (repeat' split) <;> simp [pending_queueOf, count_countOf, mem_memOf]

@[simp] theorem issuePick_rest (ch sub : Nat) (write : Bool) (c : Waiting) (k : DramCmd) (s : State) :
    queueOf (issuePick ch sub write c k s) = queueOf (s) ∧ countOf (issuePick ch sub write c k s) = countOf (s) := by
  unfold issuePick
  (repeat' split) <;> simp

@[simp] theorem modeShow_rest (ch : Nat) (s : State) :
    queueOf (modeShow ch s) = queueOf (s) ∧ countOf (modeShow ch s) = countOf (s) ∧ memOf (modeShow ch s) = memOf (s)
        := by
  unfold modeShow
  simp

@[simp] theorem retireIssued_rest (ch sub : Nat) (s : State) :
    queueOf (retireIssued ch sub s) = queueOf (s) ∧ countOf (retireIssued ch sub s) = countOf (s) := by
  unfold retireIssued
  simp

@[simp] theorem commandSlot_rest (ch sub : Nat) (bankReady actReady : List Nat) (s : State) :
    queueOf (commandSlot ch sub bankReady actReady s) = queueOf (s) ∧ countOf (commandSlot ch sub bankReady actReady
        s) = countOf (s) := by
  unfold commandSlot
  dsimp only
  (repeat' split) <;> simp

@[simp] theorem ageReads_rest (s : State) :
    queueOf (ageReads s) = queueOf (s) ∧ countOf (ageReads s) = countOf (s) ∧ memOf (ageReads s) = memOf (s) := by
  unfold ageReads
  simp

@[simp] theorem refresh_rest (ch : Nat) (s : State) :
    queueOf (refresh ch s) = queueOf (s) ∧ countOf (refresh ch s) = countOf (s) ∧ memOf (refresh ch s) = memOf (s) :=
        by
  unfold refresh
  simp

@[simp] theorem refreshManage_rest (ch : Nat) (s : State) :
    queueOf (refreshManage ch s) = queueOf (s) ∧ countOf (refreshManage ch s) = countOf (s) ∧ memOf (refreshManage ch
        s) = memOf (s) := by
  unfold refreshManage
  simp

@[simp] theorem requeueWrite_rest (line : Nat) (e : WEntry) (held : Bool) (s : State) :
    queueOf (requeueWrite line e held s) = queueOf (s) ∧ countOf (requeueWrite line e held s) = countOf (s) ∧ memOf
        (requeueWrite line e held s) = memOf (s) := by
  unfold requeueWrite
  (repeat' split) <;> simp

@[simp] theorem crcError_rest (ch sub line : Nat) (s : State) :
    queueOf (crcError ch sub line s) = queueOf (s) ∧ countOf (crcError ch sub line s) = countOf (s) ∧ memOf (crcError
        ch sub line s) = memOf (s) := by
  unfold crcError
  (repeat' split) <;> simp

@[simp] theorem scrubFound_rest (err : LineErrors) (s : State) :
    queueOf (scrubFound err s) = queueOf (s) ∧ countOf (scrubFound err s) = countOf (s) ∧ memOf (scrubFound err s) =
        memOf (s) := by
  unfold scrubFound
  (repeat' split) <;> simp

@[simp] theorem readDone_rest (line : Nat) (finder : Finder) (err : LineErrors) (s : State) :
    queueOf (readDone line finder err s) = queueOf (s) ∧ countOf (readDone line finder err s) = countOf (s) := by
  unfold readDone
  simp

@[simp] theorem twinTimeout_rest (line : Nat) (s : State) :
    queueOf (twinTimeout line s) = queueOf (s) ∧ countOf (twinTimeout line s) = countOf (s) := by
  unfold twinTimeout
  (repeat' split) <;> simp

@[simp] theorem sealedCopy_rest (line : Nat) (ok : Bool) (s : State) :
    queueOf (sealedCopy line ok s) = queueOf (s) ∧ countOf (sealedCopy line ok s) = countOf (s) := by
  unfold sealedCopy
  dsimp only
  (repeat' split) <;> simp

@[simp] theorem moveLine_rest (line : Nat) (err : LineErrors) (spareBad : Bool) (s : State) :
    queueOf (moveLine line err spareBad s) = queueOf (s) ∧ countOf (moveLine line err spareBad s) = countOf (s) := by
  unfold moveLine
  simp

@[simp] theorem copyLine_rest (line : Nat) (err : LineErrors) (spareBad : Bool) (s : State) :
    queueOf (copyLine line err spareBad s) = queueOf (s) ∧ countOf (copyLine line err spareBad s) = countOf (s) := by
  unfold copyLine
  split
  · simp
  · exact withCredit_two _ _ _ s fun t => withCredit_two _ _ _ t fun u => moveLine_rest line err spareBad u

@[simp] theorem migrationDone_rest (s : State) :
    queueOf (migrationDone s) = queueOf (s) ∧ countOf (migrationDone s) = countOf (s) ∧ memOf (migrationDone s) =
        memOf (s) := by
  unfold migrationDone
  simp [pending_queueOf, count_countOf, mem_memOf]

@[simp] theorem mapFailed_rest (ps : List (Nat × Nat)) (s : State) :
    queueOf (mapFailed ps s) = queueOf (s) ∧ countOf (mapFailed ps s) = countOf (s) ∧ memOf (mapFailed ps s) = memOf
        (s) := by
  unfold mapFailed
  simp

@[simp] theorem addMoved_rest (r : Nat × Nat) (s : State) :
    queueOf (addMoved r s) = queueOf (s) ∧ countOf (addMoved r s) = countOf (s) ∧ memOf (addMoved r s) = memOf (s) :=
        by
  unfold addMoved
  simp [pending_queueOf, count_countOf, mem_memOf]

@[simp] theorem moveUndo_rest (old new : Nat) (s : State) :
    queueOf (moveUndo old new s) = queueOf (s) ∧ countOf (moveUndo old new s) = countOf (s) ∧ memOf (moveUndo old new
        s) = memOf (s) := by
  unfold moveUndo
  (repeat' split) <;> simp

@[simp] theorem moveSpill_rest (old new q : Nat) (s : State) :
    queueOf (moveSpill old new q s) = queueOf (s) ∧ countOf (moveSpill old new q s) = countOf (s) ∧ memOf (moveSpill
        old new q s) = memOf (s) := by
  unfold moveSpill
  (repeat' split) <;> simp

@[simp] theorem reduceCapacity_rest (s : State) :
    queueOf (reduceCapacity s) = queueOf (s) ∧ countOf (reduceCapacity s) = countOf (s) ∧ memOf (reduceCapacity s) =
        memOf (s) := by
  unfold reduceCapacity
  simp [pending_queueOf, count_countOf, mem_memOf]

@[simp] theorem serveFailed_rest (failed : List Nat) (s : State) :
    queueOf (serveFailed failed s) = queueOf (s) ∧ countOf (serveFailed failed s) = countOf (s) ∧ memOf (serveFailed
        failed s) = memOf (s) := by
  unfold serveFailed
  simp

@[simp] theorem keepSettings_rest (ranks : List Nat) (s : State) :
    queueOf (keepSettings ranks s) = queueOf (s) ∧ countOf (keepSettings ranks s) = countOf (s) ∧ memOf (keepSettings
        ranks s) = memOf (s) := by
  unfold keepSettings
  simp [pending_queueOf, count_countOf, mem_memOf]

@[simp] theorem keepTimings_rest (r : TrainResult) (c : Nat) (s : State) :
    queueOf (keepTimings r c s) = queueOf (s) ∧ countOf (keepTimings r c s) = countOf (s) ∧ memOf (keepTimings r c s)
        = memOf (s) := by
  unfold keepTimings
  simp

@[simp] theorem raiseChannels_rest (r : TrainResult) (s : State) :
    queueOf (raiseChannels r s) = queueOf (s) ∧ countOf (raiseChannels r s) = countOf (s) ∧ memOf (raiseChannels r s)
        = memOf (s) := by
  unfold raiseChannels
  simp

@[simp] theorem setPasr_rest (f : Fld) (g v : Nat) (s : State) :
    queueOf (setPasr f g v s) = queueOf (s) ∧ countOf (setPasr f g v s) = countOf (s) ∧ memOf (setPasr f g v s) =
        memOf (s) := by
  unfold setPasr
  simp

@[simp] theorem groupsTrained_rest (s : State) :
    queueOf (groupsTrained s) = queueOf (s) ∧ countOf (groupsTrained s) = countOf (s) ∧ memOf (groupsTrained s) =
        memOf (s) := by
  unfold groupsTrained
  simp

@[simp] theorem trainingDone_rest (r : TrainResult) (s : State) :
    queueOf (trainingDone r s) = queueOf (s) ∧ countOf (trainingDone r s) = countOf (s) ∧ memOf (trainingDone r s) =
        memOf (s) := by
  unfold trainingDone
  simp [pending_queueOf, count_countOf, mem_memOf]

@[simp] theorem leaveRetrain_rest (i : Nat) (s : State) :
    queueOf (leaveRetrain i s) = queueOf (s) ∧ countOf (leaveRetrain i s) = countOf (s) ∧ memOf (leaveRetrain i s) =
        memOf (s) := by
  unfold leaveRetrain
  dsimp only
  (repeat' split) <;> simp [pending_queueOf, count_countOf, mem_memOf]

@[simp] theorem releaseHeld_rest (i : Nat) (ok : Bool) (s : State) :
    queueOf (releaseHeld i ok s) = queueOf (s) ∧ countOf (releaseHeld i ok s) = countOf (s) ∧ memOf (releaseHeld i ok
        s) = memOf (s) := by
  unfold releaseHeld
  simp

@[simp] theorem returnSettings_rest (i : Nat) (s : State) :
    queueOf (returnSettings i s) = queueOf (s) ∧ countOf (returnSettings i s) = countOf (s) ∧ memOf (returnSettings i
        s) = memOf (s) := by
  unfold returnSettings
  (repeat' split) <;> simp [pending_queueOf, count_countOf, mem_memOf]

@[simp] theorem marginal_rest (i : Nat) (s : State) :
    queueOf (marginal i s) = queueOf (s) ∧ countOf (marginal i s) = countOf (s) ∧ memOf (marginal i s) = memOf (s) :=
        by
  unfold marginal
  simp

@[simp] theorem retrained_rest (i : Nat) (ok : Bool) (s : State) :
    queueOf (retrained i ok s) = queueOf (s) ∧ countOf (retrained i ok s) = countOf (s) ∧ memOf (retrained i ok s) =
        memOf (s) := by
  unfold retrained
  simp [pending_queueOf, count_countOf, mem_memOf]

@[simp] theorem beginPasr_rest (g : Nat) (s : State) :
    queueOf (beginPasr g s) = queueOf (s) ∧ countOf (beginPasr g s) = countOf (s) ∧ memOf (beginPasr g s) = memOf (s)
        := by
  unfold beginPasr
  simp [pending_queueOf, count_countOf, mem_memOf]

@[simp] theorem writePasr_rest (w : Writer) (req : Nat) (s : State) :
    queueOf (writePasr w req s) = queueOf (s) ∧ countOf (writePasr w req s) = countOf (s) ∧ memOf (writePasr w req s)
        = memOf (s) := by
  unfold writePasr
  simp

@[simp] theorem groupTrained_rest (g : Nat) (r : TrainResult) (s : State) :
    queueOf (groupTrained g r s) = queueOf (s) ∧ countOf (groupTrained g r s) = countOf (s) ∧ memOf (groupTrained g r
        s) = memOf (s) := by
  unfold groupTrained
  simp

@[simp] theorem pasrDone_rest (g : Nat) (r : TrainResult) (s : State) :
    queueOf (pasrDone g r s) = queueOf (s) ∧ countOf (pasrDone g r s) = countOf (s) ∧ memOf (pasrDone g r s) = memOf
        (s) := by
  unfold pasrDone
  simp

@[simp] theorem writeXlate_rest (hi : Nat) (s : State) :
    queueOf (writeXlate hi s) = queueOf (s) ∧ countOf (writeXlate hi s) = countOf (s) ∧ memOf (writeXlate hi s) =
        memOf (s) := by
  unfold writeXlate
  simp [pending_queueOf, count_countOf, mem_memOf]

@[simp] theorem xlateResult_rest (s : State) :
    queueOf (xlateResult s) = queueOf (s) ∧ countOf (xlateResult s) = countOf (s) ∧ memOf (xlateResult s) = memOf (s)
        := by
  unfold xlateResult
  simp [pending_queueOf, count_countOf, mem_memOf]

@[simp] theorem clearFlags_rest (g : Nat) (s : State) :
    queueOf (clearFlags g s) = queueOf (s) ∧ countOf (clearFlags g s) = countOf (s) ∧ memOf (clearFlags g s) = memOf
        (s) := by
  unfold clearFlags
  simp

@[simp] theorem openCtx_rest (g : Nat) (s : State) :
    queueOf (openCtx g s) = queueOf (s) ∧ countOf (openCtx g s) = countOf (s) ∧ memOf (openCtx g s) = memOf (s) := by
  unfold openCtx
  (repeat' split) <;> simp

@[simp] theorem dropWaiting_rest (g : Nat) (s : State) :
    queueOf (dropWaiting g s) = queueOf (s) ∧ countOf (dropWaiting g s) = countOf (s) ∧ memOf (dropWaiting g s) =
        memOf (s) := by
  unfold dropWaiting
  simp [pending_queueOf, count_countOf, mem_memOf]

@[simp] theorem abortCtx_rest (g : Nat) (s : State) :
    queueOf (abortCtx g s) = queueOf (s) ∧ countOf (abortCtx g s) = countOf (s) ∧ memOf (abortCtx g s) = memOf (s) :=
        by
  unfold abortCtx
  simp

@[simp] theorem writeTag_rest (w : Writer) (g tag parts : Nat) (s : State) :
    queueOf (writeTag w g tag parts s) = queueOf (s) ∧ countOf (writeTag w g tag parts s) = countOf (s) ∧ memOf
        (writeTag w g tag parts s) = memOf (s) := by
  unfold writeTag
  simp

@[simp] theorem sendPrepare_rest (g : Nat) (s : State) :
    queueOf (sendPrepare g s) = queueOf (s) ∧ countOf (sendPrepare g s) = countOf (s) ∧ memOf (sendPrepare g s) =
        memOf (s) := by
  unfold sendPrepare
  simp

@[simp] theorem acceptCommit_rest (g due show_ : Nat) (domain : Bool) (s : State) :
    queueOf (acceptCommit g due show_ domain s) = queueOf (s) ∧ countOf (acceptCommit g due show_ domain s) = countOf
        (s) := by
  unfold acceptCommit
  simp [pending_queueOf, count_countOf, mem_memOf]

@[simp] theorem requestCommit_rest (g phase : Nat) (s : State) :
    queueOf (requestCommit g phase s) = queueOf (s) ∧ countOf (requestCommit g phase s) = countOf (s) := by
  unfold requestCommit
  simp

@[simp] theorem holdTimeout_rest (g : Nat) (s : State) :
    queueOf (holdTimeout g s) = queueOf (s) ∧ countOf (holdTimeout g s) = countOf (s) ∧ memOf (holdTimeout g s) =
        memOf (s) := by
  unfold holdTimeout
  simp

@[simp] theorem replayLine_rest (g : Nat) (err : LineErrors) (s : State) :
    queueOf (replayLine g err s) = queueOf (s) ∧ countOf (replayLine g err s) = countOf (s) := by
  unfold replayLine
  (repeat' split) <;> simp

@[simp] theorem setBallots_rest (l : List Ballot) (s : State) :
    queueOf (setBallots l s) = queueOf (s) ∧ countOf (setBallots l s) = countOf (s) ∧ memOf (setBallots l s) = memOf
        (s) := by
  unfold setBallots
  simp [pending_queueOf, count_countOf, mem_memOf]

@[simp] theorem issueBallot_rest (g : Nat) (s : State) :
    queueOf (issueBallot g s) = queueOf (s) ∧ countOf (issueBallot g s) = countOf (s) ∧ memOf (issueBallot g s) =
        memOf (s) := by
  unfold issueBallot
  simp [pending_queueOf, count_countOf, mem_memOf]

@[simp] theorem slipBallot_rest (g : Nat) (s : State) :
    queueOf (slipBallot g s) = queueOf (s) ∧ countOf (slipBallot g s) = countOf (s) ∧ memOf (slipBallot g s) = memOf
        (s) := by
  unfold slipBallot
  simp [pending_queueOf, count_countOf, mem_memOf]

@[simp] theorem ballotInsert_rest (g : Nat) (free : Bool) (phase : Nat) (s : State) :
    queueOf (ballotInsert g free phase s) = queueOf (s) ∧ countOf (ballotInsert g free phase s) = countOf (s) ∧ memOf
        (ballotInsert g free phase s) = memOf (s) := by
  unfold ballotInsert
  simp

@[simp] theorem castVote_rest (v : Vote) (s : State) :
    queueOf (castVote v s) = queueOf (s) ∧ countOf (castVote v s) = countOf (s) := by
  unfold castVote
  simp [pending_queueOf, count_countOf, mem_memOf]

@[simp] theorem ballotReceived_rest (tag coord frame : Nat) (s : State) :
    queueOf (ballotReceived tag coord frame s) = queueOf (s) ∧ countOf (ballotReceived tag coord frame s) = countOf
        (s) := by
  unfold ballotReceived
  (repeat' split) <;> simp

@[simp] theorem tallyInsert_rest (tag coord segment : Nat) (s : State) :
    queueOf (tallyInsert tag coord segment s) = queueOf (s) ∧ countOf (tallyInsert tag coord segment s) = countOf (s)
        ∧ memOf (tallyInsert tag coord segment s) = memOf (s) := by
  unfold tallyInsert
  simp

@[simp] theorem tallyPassed_rest (tag coord src yes : Nat) (no : Bool) (segment : Nat) (s : State) :
    queueOf (tallyPassed tag coord src yes no segment s) = queueOf (s) ∧ countOf (tallyPassed tag coord src yes no
        segment s) = countOf (s) ∧ memOf (tallyPassed tag coord src yes no segment s) = memOf (s) := by
  unfold tallyPassed
  simp

@[simp] theorem decide__rest (b : Ballot) (commit : Bool) (s : State) :
    queueOf (decide_ b commit s) = queueOf (s) ∧ countOf (decide_ b commit s) = countOf (s) ∧ memOf (decide_ b commit
        s) = memOf (s) := by
  unfold decide_
  simp [pending_queueOf, count_countOf, mem_memOf]

@[simp] theorem tallyDeadline_rest (g : Nat) (s : State) :
    queueOf (tallyDeadline g s) = queueOf (s) ∧ countOf (tallyDeadline g s) = countOf (s) ∧ memOf (tallyDeadline g s)
        = memOf (s) := by
  unfold tallyDeadline
  (repeat' split) <;> simp

@[simp] theorem decisionReceived_rest (tag coord : Nat) (commit : Bool) (frame effective : Nat) (s : State) :
    queueOf (decisionReceived tag coord commit frame effective s) = queueOf (s) ∧ countOf (decisionReceived tag coord
        commit frame effective s) = countOf (s) ∧ memOf (decisionReceived tag coord commit frame effective s) = memOf
        (s) := by
  unfold decisionReceived
  dsimp only
  (repeat' split) <;> simp

@[simp] theorem tellOutcome_rest (g code : Nat) (s : State) :
    queueOf (tellOutcome g code s) = queueOf (s) ∧ countOf (tellOutcome g code s) = countOf (s) ∧ memOf (tellOutcome
        g code s) = memOf (s) := by
  unfold tellOutcome
  simp

@[simp] theorem rollBackNow_rest (g : Nat) (s : State) :
    queueOf (rollBackNow g s) = queueOf (s) ∧ countOf (rollBackNow g s) = countOf (s) := by
  unfold rollBackNow
  simp

@[simp] theorem settleDoubt_rest (g : Nat) (commit : Bool) (code : Nat) (s : State) :
    queueOf (settleDoubt g commit code s) = queueOf (s) ∧ countOf (settleDoubt g commit code s) = countOf (s) := by
  unfold settleDoubt
  simp

@[simp] theorem resolveWith_rest (g : Nat) (commit byRing : Bool) (s : State) :
    queueOf (resolveWith g commit byRing s) = queueOf (s) ∧ countOf (resolveWith g commit byRing s) = countOf (s) :=
        by
  unfold resolveWith
  simp

@[simp] theorem resolveRemote_rest (c : Nat) (commit byRing : Bool) (s : State) :
    queueOf (resolveRemote c commit byRing s) = queueOf (s) ∧ countOf (resolveRemote c commit byRing s) = countOf (s)
        := by
  unfold resolveRemote
  simp

@[simp] theorem noteQuery_rest (g : Nat) (s : State) :
    queueOf (noteQuery g s) = queueOf (s) ∧ countOf (noteQuery g s) = countOf (s) ∧ memOf (noteQuery g s) = memOf (s)
        := by
  unfold noteQuery
  simp [pending_queueOf, count_countOf, mem_memOf]

@[simp] theorem resolveRemoteAttempt_rest (c : Nat) (s : State) :
    queueOf (resolveRemoteAttempt c s) = queueOf (s) ∧ countOf (resolveRemoteAttempt c s) = countOf (s) := by
  unfold resolveRemoteAttempt
  (repeat' split) <;> simp

@[simp] theorem resolveAttempt_rest (g : Nat) (s : State) :
    queueOf (resolveAttempt g s) = queueOf (s) ∧ countOf (resolveAttempt g s) = countOf (s) := by
  unfold resolveAttempt
  (repeat' split) <;> simp

@[simp] theorem queryReceived_rest (tag coord frame querier : Nat) (s : State) :
    queueOf (queryReceived tag coord frame querier s) = queueOf (s) ∧ countOf (queryReceived tag coord frame querier
        s) = countOf (s) ∧ memOf (queryReceived tag coord frame querier s) = memOf (s) := by
  unfold queryReceived
  (repeat' split) <;> simp

@[simp] theorem answerReceived_rest (tag querier ans frame : Nat) (s : State) :
    queueOf (answerReceived tag querier ans frame s) = queueOf (s) ∧ countOf (answerReceived tag querier ans frame s)
        = countOf (s) := by
  unfold answerReceived
  (repeat' split) <;> simp [pending_queueOf, count_countOf, mem_memOf]

@[simp] theorem weighAnswers_rest (g : Nat) (s : State) :
    queueOf (weighAnswers g s) = queueOf (s) ∧ countOf (weighAnswers g s) = countOf (s) := by
  unfold weighAnswers
  simp [pending_queueOf, count_countOf, mem_memOf]

@[simp] theorem answersTick_rest (s : State) :
    queueOf (answersTick s) = queueOf (s) ∧ countOf (answersTick s) = countOf (s) := by
  unfold answersTick
  simp

@[simp] theorem forceOutcome_rest (g : Nat) (commit : Bool) (s : State) :
    queueOf (forceOutcome g commit s) = queueOf (s) ∧ countOf (forceOutcome g commit s) = countOf (s) := by
  unfold forceOutcome
  simp

@[simp] theorem sealResidue_rest (g : Nat) (s : State) :
    queueOf (sealResidue g s) = queueOf (s) ∧ countOf (sealResidue g s) = countOf (s) ∧ memOf (sealResidue g s) =
        memOf (s) := by
  unfold sealResidue
  simp

@[simp] theorem beginSeal_rest (g ch die : Nat) (poison : List Nat) (s : State) :
    queueOf (beginSeal g ch die poison s) = queueOf (s) ∧ countOf (beginSeal g ch die poison s) = countOf (s) := by
  unfold beginSeal
  simp [pending_queueOf, count_countOf, mem_memOf]

@[simp] theorem pickGranule_rest (g die : Nat) (bad : Option SealWord) (poison : List Nat) (s : State) :
    queueOf (pickGranule g die bad poison s) = queueOf (s) ∧ countOf (pickGranule g die bad poison s) = countOf (s)
        := by
  unfold pickGranule
  dsimp only
  split
  · simp
  · split
    · simp
    · exact withCredit_two _ _ _ s fun t => withCredit_two _ _ _ t fun u => withCredit_two _ _ _ u fun v =>
        beginSeal_rest g _ die poison v

@[simp] theorem lehrPick_rest (die : Nat) (bad : Option SealWord) (ecc : MarverEcc) (poison : List Nat) (s : State) :
    queueOf (lehrPick die bad ecc poison s) = queueOf (s) ∧ countOf (lehrPick die bad ecc poison s) = countOf (s) :=
        by
  unfold lehrPick
  (repeat' split) <;> simp [pending_queueOf, count_countOf, mem_memOf]

@[simp] theorem sealComplete_rest (g : Nat) (s : State) :
    queueOf (sealComplete g s) = queueOf (s) ∧ countOf (sealComplete g s) = countOf (s) ∧ memOf (sealComplete g s) =
        memOf (s) := by
  unfold sealComplete
  (repeat' split) <;> simp

@[simp] theorem programFailed_rest (l : Loc) (s : State) :
    queueOf (programFailed l s) = queueOf (s) ∧ countOf (programFailed l s) = countOf (s) ∧ memOf (programFailed l s)
        = memOf (s) := by
  unfold programFailed
  simp

@[simp] theorem replaced_rest (r : SealRec) (ch die : Nat) (isSeal : Bool) (s : State) :
    queueOf ((replaced r ch die isSeal s).2) = queueOf (s) ∧ countOf ((replaced r ch die isSeal s).2) = countOf (s) ∧
        memOf ((replaced r ch die isSeal s).2) = memOf (s) := by
  unfold replaced
  simp

@[simp] theorem programFail_rest (g die : Nat) (s : State) :
    queueOf (programFail g die s) = queueOf (s) ∧ countOf (programFail g die s) = countOf (s) ∧ memOf (programFail g
        die s) = memOf (s) := by
  unfold programFail
  dsimp only
  (repeat' split) <;> simp [pending_queueOf, count_countOf, mem_memOf]

@[simp] theorem blockErased_rest (l : Loc) (s : State) :
    queueOf (blockErased l s) = queueOf (s) ∧ countOf (blockErased l s) = countOf (s) ∧ memOf (blockErased l s) =
        memOf (s) := by
  unfold blockErased
  simp [pending_queueOf, count_countOf, mem_memOf]

@[simp] theorem eraseDone_rest (l : Loc) (ok : Bool) (s : State) :
    queueOf (eraseDone l ok s) = queueOf (s) ∧ countOf (eraseDone l ok s) = countOf (s) ∧ memOf (eraseDone l ok s) =
        memOf (s) := by
  unfold eraseDone
  simp [pending_queueOf, count_countOf, mem_memOf]

@[simp] theorem codewordLost_rest (l : Loc) (cw : Nat) (s : State) :
    queueOf (codewordLost l cw s) = queueOf (s) ∧ countOf (codewordLost l cw s) = countOf (s) ∧ memOf (codewordLost l
        cw s) = memOf (s) := by
  unfold codewordLost
  simp [pending_queueOf, count_countOf, mem_memOf]

@[simp] theorem nandRead_rest (l : Loc) (retried failed : List (Fin 4)) (s : State) :
    queueOf (nandRead l retried failed s) = queueOf (s) ∧ countOf (nandRead l retried failed s) = countOf (s) ∧
      memOf (nandRead l retried failed s) = memOf (s) := by
  unfold nandRead
  simp

@[simp] theorem moveMetadata_rest (l : Loc) (s : State) :
    queueOf (moveMetadata l s) = queueOf (s) ∧ countOf (moveMetadata l s) = countOf (s) ∧ memOf (moveMetadata l s) =
        memOf (s) := by
  unfold moveMetadata
  simp [pending_queueOf, count_countOf, mem_memOf]

@[simp] theorem eraseIfEmpty_rest (l : Loc) (s : State) :
    queueOf (eraseIfEmpty l s) = queueOf (s) ∧ countOf (eraseIfEmpty l s) = countOf (s) ∧ memOf (eraseIfEmpty l s) =
        memOf (s) := by
  unfold eraseIfEmpty
  simp [pending_queueOf, count_countOf, mem_memOf]

@[simp] theorem moveDone_rest (g : Nat) (s : State) :
    queueOf (moveDone g s) = queueOf (s) ∧ countOf (moveDone g s) = countOf (s) ∧ memOf (moveDone g s) = memOf (s) :=
        by
  unfold moveDone
  dsimp only
  (repeat' split) <;> simp [pending_queueOf, count_countOf, mem_memOf]

@[simp] theorem checkpointStart_rest (s : State) :
    queueOf (checkpointStart s) = queueOf (s) ∧ countOf (checkpointStart s) = countOf (s) ∧ memOf (checkpointStart s)
        = memOf (s) := by
  unfold checkpointStart
  simp [pending_queueOf, count_countOf, mem_memOf]

@[simp] theorem writeMaps_rest (s : State) :
    queueOf (writeMaps s) = queueOf (s) ∧ countOf (writeMaps s) = countOf (s) ∧ memOf (writeMaps s) = memOf (s) := by
  unfold writeMaps
  (repeat' split) <;> simp

@[simp] theorem checkpointDone_rest (s : State) :
    queueOf (checkpointDone s) = queueOf (s) ∧ countOf (checkpointDone s) = countOf (s) ∧ memOf (checkpointDone s) =
        memOf (s) := by
  unfold checkpointDone
  (repeat' split) <;> simp [pending_queueOf, count_countOf, mem_memOf]

@[simp] theorem fullRecountDone_rest (s : State) :
    queueOf (fullRecountDone s) = queueOf (s) ∧ countOf (fullRecountDone s) = countOf (s) ∧ memOf (fullRecountDone s)
        = memOf (s) := by
  unfold fullRecountDone
  simp [pending_queueOf, count_countOf, mem_memOf]

@[simp] theorem writePeek_rest (index : Nat) (s : State) :
    queueOf (writePeek index s) = queueOf (s) ∧ countOf (writePeek index s) = countOf (s) ∧ memOf (writePeek index s)
        = memOf (s) := by
  unfold writePeek
  simp [pending_queueOf, count_countOf, mem_memOf]

@[simp] theorem peekResult_rest (s : State) :
    queueOf (peekResult s) = queueOf (s) ∧ countOf (peekResult s) = countOf (s) ∧ memOf (peekResult s) = memOf (s) :=
        by
  unfold peekResult
  simp [pending_queueOf, count_countOf, mem_memOf]

@[simp] theorem nandTrained_rest (ch : Nat) (ok : Bool) (s : State) :
    queueOf (nandTrained ch ok s) = queueOf (s) ∧ countOf (nandTrained ch ok s) = countOf (s) ∧ memOf (nandTrained ch
        ok s) = memOf (s) := by
  unfold nandTrained
  simp

@[simp] theorem setEng_rest (f : Eng → Eng) (s : State) :
    queueOf (setEng f s) = queueOf (s) ∧ countOf (setEng f s) = countOf (s) ∧ memOf (setEng f s) = memOf (s) := by
  unfold setEng
  simp [pending_queueOf, count_countOf, mem_memOf]

@[simp] theorem capDetect_rest (s : State) :
    queueOf (capDetect s) = queueOf (s) ∧ countOf (capDetect s) = countOf (s) ∧ memOf (capDetect s) = memOf (s) := by
  unfold capDetect
  simp

@[simp] theorem capUndetected_rest (s : State) :
    queueOf (capUndetected s) = queueOf (s) ∧ countOf (capUndetected s) = countOf (s) ∧ memOf (capUndetected s) =
        memOf (s) := by
  unfold capUndetected
  simp

@[simp] theorem converterFails_rest (k : Nat) (s : State) :
    queueOf (converterFails k s) = queueOf (s) ∧ countOf (converterFails k s) = countOf (s) ∧ memOf (converterFails k
        s) = memOf (s) := by
  unfold converterFails
  simp

@[simp] theorem converter_rest (k : Nat) (why : ConvCheck) (s : State) :
    queueOf (converter k why s) = queueOf (s) ∧ countOf (converter k why s) = countOf (s) ∧ memOf (converter k why s)
        = memOf (s) := by
  unfold converter
  (repeat' split) <;> simp

@[simp] theorem packIn_rest (s : State) :
    queueOf (packIn s) = queueOf (s) ∧ countOf (packIn s) = countOf (s) ∧ memOf (packIn s) = memOf (s) := by
  unfold packIn
  simp

@[simp] theorem packOut_rest (s : State) :
    queueOf (packOut s) = queueOf (s) ∧ countOf (packOut s) = countOf (s) ∧ memOf (packOut s) = memOf (s) := by
  unfold packOut
  simp

@[simp] theorem rested_rest (s : State) :
    queueOf (rested s) = queueOf (s) ∧ countOf (rested s) = countOf (s) ∧ memOf (rested s) = memOf (s) := by
  unfold rested
  simp

@[simp] theorem fullAnchored_rest (s : State) :
    queueOf (fullAnchored s) = queueOf (s) ∧ countOf (fullAnchored s) = countOf (s) ∧ memOf (fullAnchored s) = memOf
        (s) := by
  unfold fullAnchored
  simp

@[simp] theorem teach_rest (s : State) :
    queueOf (teach s) = queueOf (s) ∧ countOf (teach s) = countOf (s) ∧ memOf (teach s) = memOf (s) := by
  unfold teach
  (repeat' split) <;> simp

@[simp] theorem emptyAnchored_rest (s : State) :
    queueOf (emptyAnchored s) = queueOf (s) ∧ countOf (emptyAnchored s) = countOf (s) ∧ memOf (emptyAnchored s) =
        memOf (s) := by
  unfold emptyAnchored
  simp

@[simp] theorem disagreed_rest (differ : Bool) (s : State) :
    queueOf (disagreed differ s) = queueOf (s) ∧ countOf (disagreed differ s) = countOf (s) ∧ memOf (disagreed differ
        s) = memOf (s) := by
  unfold disagreed
  simp

@[simp] theorem polled_rest (ok cv : Bool) (s : State) :
    queueOf (polled ok cv s) = queueOf (s) ∧ countOf (polled ok cv s) = countOf (s) ∧ memOf (polled ok cv s) = memOf
        (s) := by
  unfold polled
  simp

@[simp] theorem startExercise_rest (s : State) :
    queueOf (startExercise s) = queueOf (s) ∧ countOf (startExercise s) = countOf (s) ∧ memOf (startExercise s) =
        memOf (s) := by
  unfold startExercise
  simp [pending_queueOf, count_countOf, mem_memOf]

@[simp] theorem stopExercise_rest (s : State) :
    queueOf (stopExercise s) = queueOf (s) ∧ countOf (stopExercise s) = countOf (s) ∧ memOf (stopExercise s) = memOf
        (s) := by
  unfold stopExercise
  simp

@[simp] theorem exerciseExpired_rest (s : State) :
    queueOf (exerciseExpired s) = queueOf (s) ∧ countOf (exerciseExpired s) = countOf (s) ∧ memOf (exerciseExpired s)
        = memOf (s) := by
  unfold exerciseExpired
  (repeat' split) <;> simp

@[simp] theorem resetLearned_rest (s : State) :
    queueOf (resetLearned s) = queueOf (s) ∧ countOf (resetLearned s) = countOf (s) ∧ memOf (resetLearned s) = memOf
        (s) := by
  unfold resetLearned
  simp

@[simp] theorem putSlot_rest (k : Nat) (ws : List Word) (s : State) :
    queueOf (putSlot k ws s) = queueOf (s) ∧ countOf (putSlot k ws s) = countOf (s) ∧ memOf (putSlot k ws s) = memOf
        (s) := by
  unfold putSlot
  simp

@[simp] theorem writeLearned_rest (words : Nat) (s : State) :
    queueOf (writeLearned words s) = queueOf (s) ∧ countOf (writeLearned words s) = countOf (s) ∧ memOf (writeLearned
        words s) = memOf (s) := by
  unfold writeLearned
  simp

@[simp] theorem startCapTest_rest (s : State) :
    queueOf (startCapTest s) = queueOf (s) ∧ countOf (startCapTest s) = countOf (s) ∧ memOf (startCapTest s) = memOf
        (s) := by
  unfold startCapTest
  simp [pending_queueOf, count_countOf, mem_memOf]

@[simp] theorem judgeCapTest_rest (c esr : Nat) (s : State) :
    queueOf (judgeCapTest c esr s) = queueOf (s) ∧ countOf (judgeCapTest c esr s) = countOf (s) ∧ memOf (judgeCapTest
        c esr s) = memOf (s) := by
  unfold judgeCapTest
  dsimp only
  (repeat' split) <;> simp

@[simp] theorem finishCapTest_rest (s : State) :
    queueOf (finishCapTest s) = queueOf (s) ∧ countOf (finishCapTest s) = countOf (s) ∧ memOf (finishCapTest s) =
        memOf (s) := by
  unfold finishCapTest
  (repeat' split) <;> simp

@[simp] theorem vinFalls_rest (s : State) :
    queueOf (vinFalls s) = queueOf (s) ∧ countOf (vinFalls s) = countOf (s) ∧ memOf (vinFalls s) = memOf (s) := by
  unfold vinFalls
  simp

@[simp] theorem pfail_rest (s : State) :
    queueOf (pfail s) = queueOf (s) ∧ countOf (pfail s) = countOf (s) := by
  unfold pfail
  simp [pending_queueOf, count_countOf, mem_memOf]

@[simp] theorem comparatorTrip_rest (s : State) :
    queueOf (comparatorTrip s) = queueOf (s) ∧ countOf (comparatorTrip s) = countOf (s) := by
  unfold comparatorTrip
  simp [pending_queueOf, count_countOf, mem_memOf]

@[simp] theorem drainDone_rest (s : State) :
    queueOf (drainDone s) = queueOf (s) ∧ countOf (drainDone s) = countOf (s) := by
  unfold drainDone
  simp

@[simp] theorem drainLate_rest (pool : Nat) (s : State) :
    queueOf (drainLate pool s) = queueOf (s) ∧ countOf (drainLate pool s) = countOf (s) ∧ memOf (drainLate pool s) =
        memOf (s) := by
  unfold drainLate
  simp

@[simp] theorem presealEnd_rest (s : State) :
    queueOf (presealEnd s) = queueOf (s) ∧ countOf (presealEnd s) = countOf (s) ∧ memOf (presealEnd s) = memOf (s) :=
        by
  unfold presealEnd
  simp

@[simp] theorem rideExpired_rest (s : State) :
    queueOf (rideExpired s) = queueOf (s) ∧ countOf (rideExpired s) = countOf (s) ∧ memOf (rideExpired s) = memOf (s)
        := by
  unfold rideExpired
  simp

@[simp] theorem warmReturn_rest (s : State) :
    queueOf (warmReturn s) = queueOf (s) ∧ countOf (warmReturn s) = countOf (s) ∧ memOf (warmReturn s) = memOf (s) :=
        by
  unfold warmReturn
  simp

@[simp] theorem writeIntent_rest (s : State) :
    queueOf (writeIntent s) = queueOf (s) ∧ countOf (writeIntent s) = countOf (s) ∧ memOf (writeIntent s) = memOf (s)
        := by
  unfold writeIntent
  simp

@[simp] theorem writeUndo_rest (s : State) :
    queueOf (writeUndo s) = queueOf (s) ∧ countOf (writeUndo s) = countOf (s) ∧ memOf (writeUndo s) = memOf (s) := by
  unfold writeUndo
  simp [pending_queueOf, count_countOf, mem_memOf]

@[simp] theorem writeHold_rest (s : State) :
    queueOf (writeHold s) = queueOf (s) ∧ countOf (writeHold s) = countOf (s) ∧ memOf (writeHold s) = memOf (s) := by
  unfold writeHold
  simp

@[simp] theorem writeGather_rest (s : State) :
    queueOf (writeGather s) = queueOf (s) ∧ countOf (writeGather s) = countOf (s) ∧ memOf (writeGather s) = memOf (s)
        := by
  unfold writeGather
  simp

@[simp] theorem saveDelta_rest (s : State) :
    queueOf (saveDelta s) = queueOf (s) ∧ countOf (saveDelta s) = countOf (s) ∧ memOf (saveDelta s) = memOf (s) := by
  unfold saveDelta
  simp [pending_queueOf, count_countOf, mem_memOf]

@[simp] theorem saveRecord_rest (k : RecKind) (s : State) :
    queueOf (saveRecord k s) = queueOf (s) ∧ countOf (saveRecord k s) = countOf (s) ∧ memOf (saveRecord k s) = memOf
        (s) := by
  unfold saveRecord
  (repeat' split) <;> simp

@[simp] theorem recordWritten_rest (k : RecKind) (s : State) :
    queueOf (recordWritten k s) = queueOf (s) ∧ countOf (recordWritten k s) = countOf (s) ∧ memOf (recordWritten k s)
        = memOf (s) := by
  unfold recordWritten
  split
  · exact withCredit_rest _ _ _ s fun t => saveRecord_rest k t
  · (repeat' split) <;> simp

@[simp] theorem manifestProgrammed_rest (a b : Bool) (s : State) :
    queueOf (manifestProgrammed a b s) = queueOf (s) ∧ countOf (manifestProgrammed a b s) = countOf (s) := by
  unfold manifestProgrammed
  simp

@[simp] theorem resume_rest (w : Writer) (s : State) :
    queueOf (resume w s) = queueOf (s) ∧ countOf (resume w s) = countOf (s) ∧ memOf (resume w s) = memOf (s) := by
  unfold resume
  simp

@[simp] theorem saveIncomplete_rest (s : State) :
    queueOf (saveIncomplete s) = queueOf (s) ∧ countOf (saveIncomplete s) = countOf (s) ∧ memOf (saveIncomplete s) =
        memOf (s) := by
  unfold saveIncomplete
  simp

@[simp] theorem undervoltage_rest (s : State) :
    queueOf (undervoltage s) = queueOf (s) ∧ countOf (undervoltage s) = countOf (s) := by
  unfold undervoltage
  simp

@[simp] theorem setRsr_rest (f : Rsr → Rsr) (s : State) :
    queueOf (setRsr f s) = queueOf (s) ∧ countOf (setRsr f s) = countOf (s) ∧ memOf (setRsr f s) = memOf (s) := by
  unfold setRsr
  simp [pending_queueOf, count_countOf, mem_memOf]

@[simp] theorem takeRestoreCfg_rest (s : State) :
    queueOf (takeRestoreCfg s) = queueOf (s) ∧ countOf (takeRestoreCfg s) = countOf (s) ∧ memOf (takeRestoreCfg s) =
        memOf (s) := by
  unfold takeRestoreCfg
  simp [pending_queueOf, count_countOf, mem_memOf]

@[simp] theorem restoreStart_rest (s : State) :
    queueOf (restoreStart s) = queueOf (s) ∧ countOf (restoreStart s) = countOf (s) ∧ memOf (restoreStart s) = memOf
        (s) := by
  unfold restoreStart
  simp

@[simp] theorem restoreFails_rest (s : State) :
    queueOf (restoreFails s) = queueOf (s) ∧ countOf (restoreFails s) = countOf (s) ∧ memOf (restoreFails s) = memOf
        (s) := by
  unfold restoreFails
  simp

@[simp] theorem firstInitialise_rest (s : State) :
    queueOf (firstInitialise s) = queueOf (s) ∧ countOf (firstInitialise s) = countOf (s) := by
  unfold firstInitialise
  simp [pending_queueOf, count_countOf, mem_memOf]

@[simp] theorem sampleFromManifest_rest (m : Manifest) (s : State) :
    queueOf (sampleFromManifest m s) = queueOf (s) ∧ countOf (sampleFromManifest m s) = countOf (s) ∧ memOf
        (sampleFromManifest m s) = memOf (s) := by
  unfold sampleFromManifest
  simp [pending_queueOf, count_countOf, mem_memOf]

@[simp] theorem manifestLocated_rest (found : Bool) (s : State) :
    queueOf (manifestLocated found s) = queueOf (s) ∧ countOf (manifestLocated found s) = countOf (s) := by
  unfold manifestLocated
  (repeat' split) <;> simp

@[simp] theorem fallBack_rest (m : Manifest) (s : State) :
    queueOf (fallBack m s) = queueOf (s) ∧ countOf (fallBack m s) = countOf (s) ∧ memOf (fallBack m s) = memOf (s) :=
        by
  unfold fallBack
  dsimp only
  (repeat' split) <;> simp

@[simp] theorem manifestValidated_rest (ok : Bool) (s : State) :
    queueOf (manifestValidated ok s) = queueOf (s) ∧ countOf (manifestValidated ok s) = countOf (s) ∧ memOf
        (manifestValidated ok s) = memOf (s) := by
  unfold manifestValidated
  (repeat' split) <;> simp

@[simp] theorem lastFromManifest_rest (m : Manifest) (s : State) :
    queueOf (lastFromManifest m s) = queueOf (s) ∧ countOf (lastFromManifest m s) = countOf (s) ∧ memOf
        (lastFromManifest m s) = memOf (s) := by
  unfold lastFromManifest
  simp

@[simp] theorem endCutMigration_rest (s : State) :
    queueOf (endCutMigration s) = queueOf (s) ∧ countOf (endCutMigration s) = countOf (s) ∧ memOf (endCutMigration s)
        = memOf (s) := by
  unfold endCutMigration
  simp

@[simp] theorem metaDone_rest (s : State) :
    queueOf (metaDone s) = queueOf (s) ∧ countOf (metaDone s) = countOf (s) := by
  unfold metaDone
  dsimp only
  (repeat' split) <;> simp

@[simp] theorem selectRecord_rest (g : Nat) (r : SealRec) (s : State) :
    queueOf (selectRecord g r s) = queueOf (s) ∧ countOf (selectRecord g r s) = countOf (s) ∧ memOf (selectRecord g r
        s) = memOf (s) := by
  unfold selectRecord
  simp [pending_queueOf, count_countOf, mem_memOf]

@[simp] theorem selectNewest_rest (g : Nat) (s : State) :
    queueOf (selectNewest g s) = queueOf (s) ∧ countOf (selectNewest g s) = countOf (s) ∧ memOf (selectNewest g s) =
        memOf (s) := by
  unfold selectNewest
  (repeat' split) <;> simp

@[simp] theorem selectSaved_rest (fence g : Nat) (s : State) :
    queueOf (selectSaved fence g s) = queueOf (s) ∧ countOf (selectSaved fence g s) = countOf (s) := by
  unfold selectSaved
  (repeat' split) <;> simp

@[simp] theorem scannedContexts_rest (i : Intent) (s : State) :
    queueOf (scannedContexts i s) = queueOf (s) ∧ countOf (scannedContexts i s) = countOf (s) := by
  unfold scannedContexts
  (repeat' split) <;> simp

@[simp] theorem lastFromIntent_rest (i : Intent) (s : State) :
    queueOf (lastFromIntent i s) = queueOf (s) ∧ countOf (lastFromIntent i s) = countOf (s) ∧ memOf (lastFromIntent i
        s) = memOf (s) := by
  unfold lastFromIntent
  simp

@[simp] theorem lastUnsaved_rest (s : State) :
    queueOf (lastUnsaved s) = queueOf (s) ∧ countOf (lastUnsaved s) = countOf (s) ∧ memOf (lastUnsaved s) = memOf (s)
        := by
  unfold lastUnsaved
  simp

@[simp] theorem scanDone_rest (partialList : Bool) (s : State) :
    queueOf (scanDone partialList s) = queueOf (s) ∧ countOf (scanDone partialList s) = countOf (s) := by
  unfold scanDone
  (repeat' split) <;> simp

@[simp] theorem rollContext_rest (g : Nat) (s : State) :
    queueOf (rollContext g s) = queueOf (s) ∧ countOf (rollContext g s) = countOf (s) := by
  unfold rollContext
  dsimp only
  (repeat' split) <;> simp

@[simp] theorem rollbackDone_rest (s : State) :
    queueOf (rollbackDone s) = queueOf (s) ∧ countOf (rollbackDone s) = countOf (s) := by
  unfold rollbackDone
  simp

@[simp] theorem doubtExpired_rest (s : State) :
    queueOf (doubtExpired s) = queueOf (s) ∧ countOf (doubtExpired s) = countOf (s) ∧ memOf (doubtExpired s) = memOf
        (s) := by
  unfold doubtExpired
  simp

@[simp] theorem admitted_rest (s : State) :
    queueOf (admitted s) = queueOf (s) ∧ countOf (admitted s) = countOf (s) ∧ memOf (admitted s) = memOf (s) := by
  unfold admitted
  simp [pending_queueOf, count_countOf, mem_memOf]

@[simp] theorem demandWaited_rest (g : Nat) (s : State) :
    queueOf (demandWaited g s) = queueOf (s) ∧ countOf (demandWaited g s) = countOf (s) ∧ memOf (demandWaited g s) =
        memOf (s) := by
  unfold demandWaited
  simp

@[simp] theorem granuleRestored_rest (g : Nat) (ok : Bool) (s : State) :
    queueOf (granuleRestored g ok s) = queueOf (s) ∧ countOf (granuleRestored g ok s) = countOf (s) := by
  unfold granuleRestored
  simp

@[simp] theorem imageDone_rest (s : State) :
    queueOf (imageDone s) = queueOf (s) ∧ countOf (imageDone s) = countOf (s) ∧ memOf (imageDone s) = memOf (s) := by
  unfold imageDone
  simp [pending_queueOf, count_countOf, mem_memOf]

@[simp] theorem twinResult_rest (r : Nat) (s : State) :
    queueOf (twinResult r s) = queueOf (s) ∧ countOf (twinResult r s) = countOf (s) ∧ memOf (twinResult r s) = memOf
        (s) := by
  unfold twinResult
  simp

@[simp] theorem pairTwin_rest (s : State) :
    queueOf (pairTwin s) = queueOf (s) ∧ countOf (pairTwin s) = countOf (s) ∧ memOf (pairTwin s) = memOf (s) := by
  unfold pairTwin
  simp

@[simp] theorem unpairTwin_rest (w : Writer) (s : State) :
    queueOf (unpairTwin w s) = queueOf (s) ∧ countOf (unpairTwin w s) = countOf (s) ∧ memOf (unpairTwin w s) = memOf
        (s) := by
  unfold unpairTwin
  simp

@[simp] theorem detachTwin_rest (s : State) :
    queueOf (detachTwin s) = queueOf (s) ∧ countOf (detachTwin s) = countOf (s) := by
  unfold detachTwin
  simp

@[simp] theorem reattachTwin_rest (s : State) :
    queueOf (reattachTwin s) = queueOf (s) ∧ countOf (reattachTwin s) = countOf (s) ∧ memOf (reattachTwin s) = memOf
        (s) := by
  unfold reattachTwin
  simp

@[simp] theorem twinHasFailed_rest (s : State) :
    queueOf (twinHasFailed s) = queueOf (s) ∧ countOf (twinHasFailed s) = countOf (s) ∧ memOf (twinHasFailed s) =
        memOf (s) := by
  unfold twinHasFailed
  simp

@[simp] theorem promoteContext_rest (c : Nat) (s : State) :
    queueOf (promoteContext c s) = queueOf (s) ∧ countOf (promoteContext c s) = countOf (s) := by
  unfold promoteContext
  simp

@[simp] theorem setPromoted_rest (b : Bool) (s : State) :
    queueOf (setPromoted b s) = queueOf (s) ∧ countOf (setPromoted b s) = countOf (s) ∧ memOf (setPromoted b s) =
        memOf (s) := by
  unfold setPromoted
  simp

@[simp] theorem promoteTwin_rest (s : State) :
    queueOf (promoteTwin s) = queueOf (s) ∧ countOf (promoteTwin s) = countOf (s) := by
  unfold promoteTwin
  simp

@[simp] theorem demoteTwin_rest (w : Writer) (s : State) :
    queueOf (demoteTwin w s) = queueOf (s) ∧ countOf (demoteTwin w s) = countOf (s) ∧ memOf (demoteTwin w s) = memOf
        (s) := by
  unfold demoteTwin
  simp

@[simp] theorem fromTwin_rest (f : State → State) (s : State) (hf : ∀ t : State, queueOf (f t) = queueOf (t) ∧
    countOf (f t) = countOf (t) ∧ memOf (f t) = memOf (t)) :
    queueOf (fromTwin f s) = queueOf (s) ∧ countOf (fromTwin f s) = countOf (s) ∧ memOf (fromTwin f s) = memOf (s) :=
        by
  unfold fromTwin
  simp [hf]

@[simp] theorem heartbeat_rest (h : HeartbeatIn) (s : State) :
    queueOf (heartbeat h s) = queueOf (s) ∧ countOf (heartbeat h s) = countOf (s) ∧ memOf (heartbeat h s) = memOf (s)
        := by
  unfold heartbeat
  simp

@[simp] theorem unprepare_rest (c : Nat) (s : State) :
    queueOf (unprepare c s) = queueOf (s) ∧ countOf (unprepare c s) = countOf (s) ∧ memOf (unprepare c s) = memOf (s)
        := by
  unfold unprepare
  simp

@[simp] theorem fenceReceived_rest (s : State) :
    queueOf (fenceReceived s) = queueOf (s) ∧ countOf (fenceReceived s) = countOf (s) := by
  unfold fenceReceived
  simp

@[simp] theorem detachReceived_rest (s : State) :
    queueOf (detachReceived s) = queueOf (s) ∧ countOf (detachReceived s) = countOf (s) := by
  unfold detachReceived
  simp

@[simp] theorem mirrorWrite_rest (m : MirrorIn) (s : State) :
    queueOf (mirrorWrite m s) = queueOf (s) ∧ countOf (mirrorWrite m s) = countOf (s) := by
  unfold mirrorWrite
  simp

@[simp] theorem sealReported_rest (seq gen : Nat) (s : State) :
    queueOf (sealReported seq gen s) = queueOf (s) ∧ countOf (sealReported seq gen s) = countOf (s) ∧ memOf
        (sealReported seq gen s) = memOf (s) := by
  unfold sealReported
  simp

@[simp] theorem prepareRemote_rest (c tag : Nat) (s : State) :
    queueOf (prepareRemote c tag s) = queueOf (s) ∧ countOf (prepareRemote c tag s) = countOf (s) ∧ memOf
        (prepareRemote c tag s) = memOf (s) := by
  unfold prepareRemote
  simp

@[simp] theorem voteYes_rest (g phase : Nat) (s : State) :
    queueOf (voteYes g phase s) = queueOf (s) ∧ countOf (voteYes g phase s) = countOf (s) := by
  unfold voteYes
  (repeat' split) <;> simp

@[simp] theorem prepareAcked_rest (g phase : Nat) (s : State) :
    queueOf (prepareAcked g phase s) = queueOf (s) ∧ countOf (prepareAcked g phase s) = countOf (s) := by
  unfold prepareAcked
  simp [pending_queueOf, count_countOf, mem_memOf]

@[simp] theorem remoteEnds_rest (c : Nat) (s : State) :
    queueOf (remoteEnds c s) = queueOf (s) ∧ countOf (remoteEnds c s) = countOf (s) := by
  unfold remoteEnds
  simp

@[simp] theorem remoteCommitted_rest (c : Nat) (s : State) :
    queueOf (remoteCommitted c s) = queueOf (s) ∧ countOf (remoteCommitted c s) = countOf (s) := by
  unfold remoteCommitted
  simp

@[simp] theorem remoteAborted_rest (c : Nat) (s : State) :
    queueOf (remoteAborted c s) = queueOf (s) ∧ countOf (remoteAborted c s) = countOf (s) := by
  unfold remoteAborted
  simp

@[simp] theorem twinHoldFull_rest (g : Nat) (s : State) :
    queueOf (twinHoldFull g s) = queueOf (s) ∧ countOf (twinHoldFull g s) = countOf (s) ∧ memOf (twinHoldFull g s) =
        memOf (s) := by
  unfold twinHoldFull
  simp

@[simp] theorem restartReconcile_rest (s : State) :
    queueOf (restartReconcile s) = queueOf (s) ∧ countOf (restartReconcile s) = countOf (s) ∧ memOf (restartReconcile
        s) = memOf (s) := by
  unfold restartReconcile
  simp

@[simp] theorem helloReceived_rest (h : HelloIn) (s : State) :
    queueOf (helloReceived h s) = queueOf (s) ∧ countOf (helloReceived h s) = countOf (s) ∧ memOf (helloReceived h s)
        = memOf (s) := by
  unfold helloReceived
  simp

@[simp] theorem conflict_rest (granules : Nat) (s : State) :
    queueOf (conflict granules s) = queueOf (s) ∧ countOf (conflict granules s) = countOf (s) ∧ memOf (conflict
        granules s) = memOf (s) := by
  unfold conflict
  simp

@[simp] theorem planOutcome_rest (o : Fin 64 × Bool) (s : State) :
    queueOf (planOutcome o s) = queueOf (s) ∧ countOf (planOutcome o s) = countOf (s) := by
  unfold planOutcome
  simp

@[simp] theorem planMade_rest (outcomes : List (Fin 64 × Bool)) (s : State) :
    queueOf (planMade outcomes s) = queueOf (s) ∧ countOf (planMade outcomes s) = countOf (s) := by
  unfold planMade
  (repeat' split) <;> simp

@[simp] theorem agree_rest (home : Bool) (gen : Nat) (s : State) :
    queueOf (agree home gen s) = queueOf (s) ∧ countOf (agree home gen s) = countOf (s) ∧ memOf (agree home gen s) =
        memOf (s) := by
  unfold agree
  simp

@[simp] theorem attachWhenDone_rest (s : State) :
    queueOf (attachWhenDone s) = queueOf (s) ∧ countOf (attachWhenDone s) = countOf (s) ∧ memOf (attachWhenDone s) =
        memOf (s) := by
  unfold attachWhenDone
  simp

@[simp] theorem planAcked_rest (s : State) :
    queueOf (planAcked s) = queueOf (s) ∧ countOf (planAcked s) = countOf (s) ∧ memOf (planAcked s) = memOf (s) := by
  unfold planAcked
  (repeat' split) <;> simp

@[simp] theorem regionDone_rest (home : Bool) (gen : Nat) (s : State) :
    queueOf (regionDone home gen s) = queueOf (s) ∧ countOf (regionDone home gen s) = countOf (s) ∧ memOf (regionDone
        home gen s) = memOf (s) := by
  unfold regionDone
  simp

@[simp] theorem waitBootExpired_rest (s : State) :
    queueOf (waitBootExpired s) = queueOf (s) ∧ countOf (waitBootExpired s) = countOf (s) ∧ memOf (waitBootExpired s)
        = memOf (s) := by
  unfold waitBootExpired
  simp

@[simp] theorem repairRequested_rest (line : Nat) (s : State) :
    queueOf (repairRequested line s) = queueOf (s) ∧ countOf (repairRequested line s) = countOf (s) ∧ memOf
        (repairRequested line s) = memOf (s) := by
  unfold repairRequested
  simp

@[simp] theorem repairReplied_rest (line : Nat) (data : Option Line) (s : State) :
    queueOf (repairReplied line data s) = queueOf (s) ∧ countOf (repairReplied line data s) = countOf (s) := by
  unfold repairReplied
  (repeat' split) <;> simp

@[simp] theorem puntyTrained_rest (x32 gt64 : Bool) (s : State) :
    queueOf (puntyTrained x32 gt64 s) = queueOf (s) ∧ countOf (puntyTrained x32 gt64 s) = countOf (s) ∧ memOf
        (puntyTrained x32 gt64 s) = memOf (s) := by
  unfold puntyTrained
  simp

@[simp] theorem cellIn_rest (ringB crcOk : Bool) (f : State → State) (s : State) (hf : ∀ t : State, queueOf (f t) =
    queueOf (t) ∧ countOf (f t) = countOf (t) ∧ memOf (f t) = memOf (t)) :
    queueOf (cellIn ringB crcOk f s) = queueOf (s) ∧ countOf (cellIn ringB crcOk f s) = countOf (s) ∧ memOf (cellIn
        ringB crcOk f s) = memOf (s) := by
  unfold cellIn
  simp [hf]

@[simp] theorem circulation_rest (ringB : Bool) (ns : Nat) (s : State) :
    queueOf (circulation ringB ns s) = queueOf (s) ∧ countOf (circulation ringB ns s) = countOf (s) ∧ memOf
        (circulation ringB ns s) = memOf (s) := by
  unfold circulation
  simp

@[simp] theorem syncCell_rest (frame : Nat) (phaseErr : Int) (delay spanDelay : Nat) (partitioned quorum ringB :
    Bool) (s : State) :
    queueOf (syncCell frame phaseErr delay spanDelay partitioned quorum ringB s) = queueOf (s) ∧ countOf (syncCell
        frame phaseErr delay spanDelay partitioned quorum ringB s) = countOf (s) ∧ memOf (syncCell frame phaseErr
        delay spanDelay partitioned quorum ringB s) = memOf (s) := by
  unfold syncCell
  simp [pending_queueOf, count_countOf, mem_memOf]

@[simp] theorem startElection_rest (s : State) :
    queueOf (startElection s) = queueOf (s) ∧ countOf (startElection s) = countOf (s) ∧ memOf (startElection s) =
        memOf (s) := by
  unfold startElection
  simp [pending_queueOf, count_countOf, mem_memOf]

@[simp] theorem claimCell_rest (id : BitVec 64) (duplicate : Bool) (s : State) :
    queueOf (claimCell id duplicate s) = queueOf (s) ∧ countOf (claimCell id duplicate s) = countOf (s) ∧ memOf
        (claimCell id duplicate s) = memOf (s) := by
  unfold claimCell
  simp [pending_queueOf, count_countOf, mem_memOf]

@[simp] theorem newMaster_rest (id : BitVec 64) (s : State) :
    queueOf (newMaster id s) = queueOf (s) ∧ countOf (newMaster id s) = countOf (s) ∧ memOf (newMaster id s) = memOf
        (s) := by
  unfold newMaster
  simp

@[simp] theorem takeTable_rest (ids : List (Nat × BitVec 64)) (s : State) :
    queueOf (takeTable ids s) = queueOf (s) ∧ countOf (takeTable ids s) = countOf (s) ∧ memOf (takeTable ids s) =
        memOf (s) := by
  unfold takeTable
  simp [pending_queueOf, count_countOf, mem_memOf]

@[simp] theorem enumPasses_rest (count frameMax : Nat) (ids : List (Nat × BitVec 64)) (ringB : Bool) (s : State) :
    queueOf (enumPasses count frameMax ids ringB s) = queueOf (s) ∧ countOf (enumPasses count frameMax ids ringB s) =
        countOf (s) ∧ memOf (enumPasses count frameMax ids ringB s) = memOf (s) := by
  unfold enumPasses
  simp [pending_queueOf, count_countOf, mem_memOf]

@[simp] theorem enumReturns_rest (count frameMax : Nat) (ids : List (Nat × BitVec 64)) (s : State) :
    queueOf (enumReturns count frameMax ids s) = queueOf (s) ∧ countOf (enumReturns count frameMax ids s) = countOf
        (s) ∧ memOf (enumReturns count frameMax ids s) = memOf (s) := by
  unfold enumReturns
  simp [pending_queueOf, count_countOf, mem_memOf]

@[simp] theorem spanBreaks_rest (ringB : Bool) (s : State) :
    queueOf (spanBreaks ringB s) = queueOf (s) ∧ countOf (spanBreaks ringB s) = countOf (s) ∧ memOf (spanBreaks ringB
        s) = memOf (s) := by
  unfold spanBreaks
  simp

@[simp] theorem spanHeals_rest (ringB : Bool) (s : State) :
    queueOf (spanHeals ringB s) = queueOf (s) ∧ countOf (spanHeals ringB s) = countOf (s) ∧ memOf (spanHeals ringB s)
        = memOf (s) := by
  unfold spanHeals
  simp

@[simp] theorem leaveCell_rest (id : BitVec 64) (s : State) :
    queueOf (leaveCell id s) = queueOf (s) ∧ countOf (leaveCell id s) = countOf (s) ∧ memOf (leaveCell id s) = memOf
        (s) := by
  unfold leaveCell
  simp [pending_queueOf, count_countOf, mem_memOf]

@[simp] theorem fenceCell_rest (src frame : Nat) (s : State) :
    queueOf (fenceCell src frame s) = queueOf (s) ∧ countOf (fenceCell src frame s) = countOf (s) ∧ memOf (fenceCell
        src frame s) = memOf (s) := by
  unfold fenceCell
  simp [pending_queueOf, count_countOf, mem_memOf]

@[simp] theorem railDebounced_rest (r : Nat) (s : State) :
    queueOf (railDebounced r s) = queueOf (s) ∧ countOf (railDebounced r s) = countOf (s) ∧ memOf (railDebounced r s)
        = memOf (s) := by
  unfold railDebounced
  simp [pending_queueOf, count_countOf, mem_memOf]

@[simp] theorem retryFailed_rest (r cause : Nat) (s : State) :
    queueOf (retryFailed r cause s) = queueOf (s) ∧ countOf (retryFailed r cause s) = countOf (s) ∧ memOf
        (retryFailed r cause s) = memOf (s) := by
  unfold retryFailed
  simp [pending_queueOf, count_countOf, mem_memOf]

@[simp] theorem stepFailed_rest (r : Nat) (chatter : Bool) (s : State) :
    queueOf (stepFailed r chatter s) = queueOf (s) ∧ countOf (stepFailed r chatter s) = countOf (s) ∧ memOf
        (stepFailed r chatter s) = memOf (s) := by
  unfold stepFailed
  simp

@[simp] theorem backoffEnds_rest (r : Nat) (s : State) :
    queueOf (backoffEnds r s) = queueOf (s) ∧ countOf (backoffEnds r s) = countOf (s) ∧ memOf (backoffEnds r s) =
        memOf (s) := by
  unfold backoffEnds
  simp

@[simp] theorem railReact_rest (r : Nat) (s : State) :
    queueOf (railReact r s) = queueOf (s) ∧ countOf (railReact r s) = countOf (s) := by
  unfold railReact
  simp [pending_queueOf, count_countOf, mem_memOf]

@[simp] theorem railLost_rest (r : Nat) (s : State) :
    queueOf (railLost r s) = queueOf (s) ∧ countOf (railLost r s) = countOf (s) := by
  unfold railLost
  simp

@[simp] theorem railDown_rest (r : Nat) (s : State) :
    queueOf (railDown r s) = queueOf (s) ∧ countOf (railDown r s) = countOf (s) := by
  unfold railDown
  have hg : ∀ t : State, queueOf (goDown advanceDown t) = queueOf t ∧ countOf (goDown advanceDown t) = countOf t :=
    fun t => goDown_two _ t advanceDown_rest
  dsimp only
  (repeat' split) <;> simp [hg]

@[simp] theorem disTimeout_rest (r : Nat) (s : State) :
    queueOf (disTimeout r s) = queueOf (s) ∧ countOf (disTimeout r s) = countOf (s) := by
  unfold disTimeout
  simp [pending_queueOf, count_countOf, mem_memOf]

@[simp] theorem depCut_rest (r : Nat) (s : State) :
    queueOf (depCut r s) = queueOf (s) ∧ countOf (depCut r s) = countOf (s) ∧ memOf (depCut r s) = memOf (s) := by
  unfold depCut
  simp

@[simp] theorem requestDomainSwitch_rest (w : Writer) (d req phase : Nat) (s : State) :
    queueOf (requestDomainSwitch w d req phase s) = queueOf (s) ∧ countOf (requestDomainSwitch w d req phase s) =
        countOf (s) ∧ memOf (requestDomainSwitch w d req phase s) = memOf (s) := by
  unfold requestDomainSwitch
  simp

@[simp] theorem switchDone_rest (d : Nat) (s : State) :
    queueOf (switchDone d s) = queueOf (s) ∧ countOf (switchDone d s) = countOf (s) ∧ memOf (switchDone d s) = memOf
        (s) := by
  unfold switchDone
  (repeat' split) <;> simp

@[simp] theorem ackFailed_rest (d : Nat) (s : State) :
    queueOf (ackFailed d s) = queueOf (s) ∧ countOf (ackFailed d s) = countOf (s) := by
  unfold ackFailed
  simp [pending_queueOf, count_countOf, mem_memOf]

@[simp] theorem holdRequests_rest (low : Nat) (s : State) :
    queueOf (holdRequests low s) = queueOf (s) ∧ countOf (holdRequests low s) = countOf (s) ∧ memOf (holdRequests low
        s) = memOf (s) := by
  unfold holdRequests
  simp [pending_queueOf, count_countOf, mem_memOf]

@[simp] theorem detect_rest (n reason inst snap2 snap3 : Nat) (held : Bool) (phase : Nat) (s : State) :
    queueOf (detect n reason inst snap2 snap3 held phase s) = queueOf (s) ∧ countOf (detect n reason inst snap2 snap3
        held phase s) = countOf (s) ∧ memOf (detect n reason inst snap2 snap3 held phase s) = memOf (s) := by
  unfold detect
  simp [pending_queueOf, count_countOf, mem_memOf]

@[simp] theorem clearSticky_rest (page : Nat) (high : Bool) (mask : Nat) (s : State) :
    queueOf (clearSticky page high mask s) = queueOf (s) ∧ countOf (clearSticky page high mask s) = countOf (s) ∧
        memOf (clearSticky page high mask s) = memOf (s) := by
  unfold clearSticky
  simp

@[simp] theorem rearmLatch_rest (s : State) :
    queueOf (rearmLatch s) = queueOf (s) ∧ countOf (rearmLatch s) = countOf (s) ∧ memOf (rearmLatch s) = memOf (s) :=
        by
  unfold rearmLatch
  simp [pending_queueOf, count_countOf, mem_memOf]

@[simp] theorem writeLevel_rest (w : Writer) (level : Nat) (s : State) :
    queueOf (writeLevel w level s) = queueOf (s) ∧ countOf (writeLevel w level s) = countOf (s) ∧ memOf (writeLevel w
        level s) = memOf (s) := by
  unfold writeLevel
  simp

@[simp] theorem enterRequest_rest (w : Writer) (s : State) :
    queueOf (enterRequest w s) = queueOf (s) ∧ countOf (enterRequest w s) = countOf (s) ∧ memOf (enterRequest w s) =
        memOf (s) := by
  unfold enterRequest
  simp

@[simp] theorem exitRequest_rest (w : Writer) (s : State) :
    queueOf (exitRequest w s) = queueOf (s) ∧ countOf (exitRequest w s) = countOf (s) ∧ memOf (exitRequest w s) =
        memOf (s) := by
  unfold exitRequest
  simp

@[simp] theorem testFails_rest (item : Nat) (s : State) :
    queueOf (testFails item s) = queueOf (s) ∧ countOf (testFails item s) = countOf (s) ∧ memOf (testFails item s) =
        memOf (s) := by
  unfold testFails
  simp

@[simp] theorem gatherPush_rest (q : Nat) (p : Producer) (type : Nat) (payload : List (BitVec 16)) (s : State) :
    queueOf (gatherPush q p type payload s) = queueOf (s) ∧ countOf (gatherPush q p type payload s) = countOf (s) ∧
        memOf (gatherPush q p type payload s) = memOf (s) := by
  unfold gatherPush
  simp

@[simp] theorem slotFollow_rest (b : Nat) (s : State) :
    queueOf (slotFollow b s) = queueOf (s) ∧ countOf (slotFollow b s) = countOf (s) ∧ memOf (slotFollow b s) = memOf
        (s) := by
  unfold slotFollow
  (repeat' split) <;> simp

@[simp] theorem carMode_rest (b m : Nat) (s : State) :
    queueOf (carMode b m s) = queueOf (s) ∧ countOf (carMode b m s) = countOf (s) ∧ memOf (carMode b m s) = memOf (s)
        := by
  unfold carMode
  simp

@[simp] theorem seqErr_rest (b : Nat) (s : State) :
    queueOf (seqErr b s) = queueOf (s) ∧ countOf (seqErr b s) = countOf (s) ∧ memOf (seqErr b s) = memOf (s) := by
  unfold seqErr
  simp

@[simp] theorem carRefuse_rest (b bits : Nat) (s : State) :
    queueOf (carRefuse b bits s) = queueOf (s) ∧ countOf (carRefuse b bits s) = countOf (s) ∧ memOf (carRefuse b bits
        s) = memOf (s) := by
  unfold carRefuse
  simp

@[simp] theorem carStart_rest (b : Nat) (x : CarOp) (s : State) :
    queueOf (carStart b x s) = queueOf (s) ∧ countOf (carStart b x s) = countOf (s) ∧ memOf (carStart b x s) = memOf
        (s) := by
  unfold carStart
  simp

@[simp] theorem wordNow_rest (o : Nat) (s : State) :
    queueOf ((wordNow o s).2) = queueOf (s) ∧ countOf ((wordNow o s).2) = countOf (s) ∧ memOf ((wordNow o s).2) =
        memOf (s) := by
  unfold wordNow
  split <;> simp

@[simp] theorem carProgram_rest (b o data : Nat) (s : State) :
    queueOf (carProgram b o data s) = queueOf (s) ∧ countOf (carProgram b o data s) = countOf (s) ∧ memOf (carProgram
        b o data s) = memOf (s) := by
  unfold carProgram
  dsimp only
  (repeat' split) <;> simp [pending_queueOf, count_countOf, mem_memOf]

@[simp] theorem carProgramOption_rest (o data : Nat) (s : State) :
    queueOf (carProgramOption o data s) = queueOf (s) ∧ countOf (carProgramOption o data s) = countOf (s) ∧ memOf
        (carProgramOption o data s) = memOf (s) := by
  unfold carProgramOption
  dsimp only
  (repeat' split) <;> simp [pending_queueOf, count_countOf, mem_memOf]

@[simp] theorem carErase_rest (b block : Nat) (s : State) :
    queueOf (carErase b block s) = queueOf (s) ∧ countOf (carErase b block s) = countOf (s) ∧ memOf (carErase b block
        s) = memOf (s) := by
  unfold carErase
  (repeat' split) <;> simp [pending_queueOf, count_countOf, mem_memOf]

@[simp] theorem carEraseOption_rest (copy : Nat) (s : State) :
    queueOf (carEraseOption copy s) = queueOf (s) ∧ countOf (carEraseOption copy s) = countOf (s) ∧ memOf
        (carEraseOption copy s) = memOf (s) := by
  unfold carEraseOption
  simp

@[simp] theorem carOperand_rest (b code off data : Nat) (s : State) :
    queueOf (carOperand b code off data s) = queueOf (s) ∧ countOf (carOperand b code off data s) = countOf (s) ∧
        memOf (carOperand b code off data s) = memOf (s) := by
  unfold carOperand
  simp

@[simp] theorem carCode_rest (b code : Nat) (s : State) :
    queueOf (carCode b code s) = queueOf (s) ∧ countOf (carCode b code s) = countOf (s) ∧ memOf (carCode b code s) =
        memOf (s) := by
  unfold carCode
  simp

@[simp] theorem carSuspend_rest (b : Nat) (s : State) :
    queueOf (carSuspend b s) = queueOf (s) ∧ countOf (carSuspend b s) = countOf (s) ∧ memOf (carSuspend b s) = memOf
        (s) := by
  unfold carSuspend
  dsimp only
  (repeat' split) <;> simp

@[simp] theorem carResume_rest (b : Nat) (s : State) :
    queueOf (carResume b s) = queueOf (s) ∧ countOf (carResume b s) = countOf (s) ∧ memOf (carResume b s) = memOf (s)
        := by
  unfold carResume
  dsimp only
  (repeat' split) <;> simp

@[simp] theorem carStep_rest (b : Nat) (x : CarWrite) (s : State) :
    queueOf (carStep b x s) = queueOf (s) ∧ countOf (carStep b x s) = countOf (s) ∧ memOf (carStep b x s) = memOf (s)
        := by
  unfold carStep
  simp

@[simp] theorem carWrite_rest (x : CarWrite) (s : State) :
    queueOf (carWrite x s) = queueOf (s) ∧ countOf (carWrite x s) = countOf (s) ∧ memOf (carWrite x s) = memOf (s) :=
        by
  unfold carWrite
  (repeat' split) <;> simp

@[simp] theorem carWrites_rest (ws : List CarWrite) (s : State) :
    queueOf (carWrites ws s) = queueOf (s) ∧ countOf (carWrites ws s) = countOf (s) ∧ memOf (carWrites ws s) = memOf
        (s) := by
  unfold carWrites
  simp

@[simp] theorem carEffect_rest (x : CarOp) (s : State) :
    queueOf (carEffect x s) = queueOf (s) ∧ countOf (carEffect x s) = countOf (s) ∧ memOf (carEffect x s) = memOf (s)
        := by
  unfold carEffect
  simp [pending_queueOf, count_countOf, mem_memOf]

@[simp] theorem carFailure_rest (b : Nat) (x : CarOp) (s : State) :
    queueOf (carFailure b x s) = queueOf (s) ∧ countOf (carFailure b x s) = countOf (s) ∧ memOf (carFailure b x s) =
        memOf (s) := by
  unfold carFailure
  simp

@[simp] theorem carEnd_rest (b : Nat) (ok : Bool) (s : State) :
    queueOf (carEnd b ok s) = queueOf (s) ∧ countOf (carEnd b ok s) = countOf (s) ∧ memOf (carEnd b ok s) = memOf (s)
        := by
  unfold carEnd
  dsimp only
  (repeat' split) <;> simp

@[simp] theorem carData_rest (o bitErrors : Nat) (s : State) :
    queueOf (carData o bitErrors s) = queueOf (s) ∧ countOf (carData o bitErrors s) = countOf (s) ∧ memOf (carData o
        bitErrors s) = memOf (s) := by
  unfold carData
  simp

@[simp] theorem carId_rest (b w : Nat) (s : State) :
    queueOf (carId b w s) = queueOf (s) ∧ countOf (carId b w s) = countOf (s) ∧ memOf (carId b w s) = memOf (s) := by
  unfold carId
  simp

@[simp] theorem arrayRead_rest (off bitErrors : Nat) (s : State) :
    queueOf (arrayRead off bitErrors s) = queueOf (s) ∧ countOf (arrayRead off bitErrors s) = countOf (s) ∧ memOf
        (arrayRead off bitErrors s) = memOf (s) := by
  unfold arrayRead
  (repeat' split) <;> simp

@[simp] theorem fetchTrap_rest (b addr : Nat) (s : State) :
    queueOf (fetchTrap b addr s) = queueOf (s) ∧ countOf (fetchTrap b addr s) = countOf (s) ∧ memOf (fetchTrap b addr
        s) = memOf (s) := by
  unfold fetchTrap
  simp

@[simp] theorem writeActivate_rest (w : Writer) (c : Nat) (slotB : Bool) (s : State) :
    queueOf (writeActivate w c slotB s) = queueOf (s) ∧ countOf (writeActivate w c slotB s) = countOf (s) ∧ memOf
        (writeActivate w c slotB s) = memOf (s) := by
  unfold writeActivate
  simp

@[simp] theorem writeUpdCtl_rest (w : Writer) (bits : Nat) (s : State) :
    queueOf (writeUpdCtl w bits s) = queueOf (s) ∧ countOf (writeUpdCtl w bits s) = countOf (s) ∧ memOf (writeUpdCtl
        w bits s) = memOf (s) := by
  unfold writeUpdCtl
  simp

@[simp] theorem compacted_rest (s : State) :
    queueOf (compacted s) = queueOf (s) ∧ countOf (compacted s) = countOf (s) ∧ memOf (compacted s) = memOf (s) := by
  unfold compacted
  simp [pending_queueOf, count_countOf, mem_memOf]

@[simp] theorem setTap_rest (t : TapInstr) (kind : String) (s : State) :
    queueOf (setTap t kind s) = queueOf (s) ∧ countOf (setTap t kind s) = countOf (s) ∧ memOf (setTap t kind s) =
        memOf (s) := by
  unfold setTap
  simp [pending_queueOf, count_countOf, mem_memOf]

@[simp] theorem sparesFollow_rest (s : State) :
    queueOf (sparesFollow s) = queueOf (s) ∧ countOf (sparesFollow s) = countOf (s) ∧ memOf (sparesFollow s) = memOf
        (s) := by
  unfold sparesFollow
  simp

@[simp] theorem regionsFollow_rest (s : State) :
    queueOf (regionsFollow s) = queueOf (s) ∧ countOf (regionsFollow s) = countOf (s) ∧ memOf (regionsFollow s) =
        memOf (s) := by
  unfold regionsFollow
  simp

@[simp] theorem fieldTaken_rest (d : FDef) (x : Nat) (s : State) :
    queueOf (fieldTaken d x s) = queueOf (s) ∧ countOf (fieldTaken d x s) = countOf (s) ∧ memOf (fieldTaken d x s) =
        memOf (s) := by
  unfold fieldTaken
  simp

@[simp] theorem writeField_rest (w : Writer) (d : FDef) (v phase : Nat) (s : State) :
    queueOf (writeField w d v phase s) = queueOf (s) ∧ countOf (writeField w d v phase s) = countOf (s) ∧ memOf
        (writeField w d v phase s) = memOf (s) := by
  unfold writeField
  (repeat' split) <;> simp

@[simp] theorem writeFields_rest (w : Writer) (addr v phase : Nat) (s : State) :
    queueOf (writeFields w addr v phase s) = queueOf (s) ∧ countOf (writeFields w addr v phase s) = countOf (s) ∧
        memOf (writeFields w addr v phase s) = memOf (s) := by
  unfold writeFields
  simp

@[simp] theorem writeBlkctl_rest (w : Writer) (p v : Nat) (s : State) :
    queueOf (writeBlkctl w p v s) = queueOf (s) ∧ countOf (writeBlkctl w p v s) = countOf (s) := by
  unfold writeBlkctl
  simp

@[simp] theorem writeHeader_rest (w : Writer) (p o v phase : Nat) (s : State) :
    queueOf (writeHeader w p o v phase s) = queueOf (s) ∧ countOf (writeHeader w p o v phase s) = countOf (s) := by
  unfold writeHeader
  simp

@[simp] theorem writeBits_rest (v : Nat) (l : List (State → State)) (s : State) (hl : ∀ f ∈ l, ∀ t : State, queueOf
    (f t) = queueOf (t) ∧ countOf (f t) = countOf (t) ∧ memOf (f t) = memOf (t)) :
    queueOf (writeBits v l s) = queueOf (s) ∧ countOf (writeBits v l s) = countOf (s) ∧ memOf (writeBits v l s) =
        memOf (s) := by
  unfold writeBits
  have h' : ∀ e ∈ (List.range l.length).zip l, ∀ t : State, queueOf (e.2 t) = queueOf (t) ∧ countOf (e.2 t) = countOf
      (t) ∧ memOf (e.2 t) = memOf (t) :=
    fun e he => hl e.2 (List.of_mem_zip he).2
  generalize (List.range l.length).zip l = z at h'
  induction z generalizing s with
  | nil => simp
  | cons e z ih =>
    have h1 := ih (when (bitOf v e.1) e.2 s) fun d hd => h' d (List.mem_cons_of_mem _ hd)
    have h0 := h' e (List.mem_cons_self ..)
    simp only [List.foldl_cons]
    simp [h1, h0]

@[simp] theorem writeSource_rest (w : Writer) (n v phase : Nat) (s : State) :
    queueOf (writeSource w n v phase s) = queueOf (s) ∧ countOf (writeSource w n v phase s) = countOf (s) ∧ memOf
        (writeSource w n v phase s) = memOf (s) := by
  unfold writeSource
  simp

@[simp] theorem writeBlockQuery_rest (v : Nat) (s : State) :
    queueOf (writeBlockQuery v s) = queueOf (s) ∧ countOf (writeBlockQuery v s) = countOf (s) ∧ memOf
        (writeBlockQuery v s) = memOf (s) := by
  unfold writeBlockQuery
  simp

@[simp] theorem writeDomCtl_rest (w : Writer) (d v phase : Nat) (s : State) :
    queueOf (writeDomCtl w d v phase s) = queueOf (s) ∧ countOf (writeDomCtl w d v phase s) = countOf (s) ∧ memOf
        (writeDomCtl w d v phase s) = memOf (s) := by
  unfold writeDomCtl
  simp

@[simp] theorem writeForce_rest (v : Nat) (s : State) :
    queueOf (writeForce v s) = queueOf (s) ∧ countOf (writeForce v s) = countOf (s) := by
  unfold writeForce
  simp

@[simp] theorem writeHub_rest (w : Writer) (addr v phase : Nat) (s : State) :
    queueOf (writeHub w addr v phase s) = queueOf (s) ∧ countOf (writeHub w addr v phase s) = countOf (s) ∧ memOf
        (writeHub w addr v phase s) = memOf (s) := by
  unfold writeHub
  simp

@[simp] theorem writeImage_rest (w : Writer) (addr v phase : Nat) (s : State) :
    queueOf (writeImage w addr v phase s) = queueOf (s) ∧ countOf (writeImage w addr v phase s) = countOf (s) := by
  unfold writeImage
  simp

@[simp] theorem writeAlwaysOn_rest (w : Writer) (addr v phase : Nat) (s : State) :
    queueOf (writeAlwaysOn w addr v phase s) = queueOf (s) ∧ countOf (writeAlwaysOn w addr v phase s) = countOf (s) ∧
        memOf (writeAlwaysOn w addr v phase s) = memOf (s) := by
  unfold writeAlwaysOn
  simp

/-- Actions in ascending bit order leave what waits and the counter, if each does. -/
theorem writeBits_two (v : Nat) (l : List (State → State)) (s : State)
    (hl : ∀ f ∈ l, ∀ t : State, queueOf (f t) = queueOf t ∧ countOf (f t) = countOf t) :
    queueOf (writeBits v l s) = queueOf s ∧ countOf (writeBits v l s) = countOf s := by
  unfold writeBits
  have h' : ∀ e ∈ (List.range l.length).zip l, ∀ t : State, queueOf (e.2 t) = queueOf t ∧ countOf (e.2 t) = countOf t
      :=
    fun e he => hl e.2 (List.of_mem_zip he).2
  generalize (List.range l.length).zip l = z at h'
  induction z generalizing s with
  | nil => simp
  | cons e z ih =>
    have h1 := ih (when (bitOf v e.1) e.2 s) fun d hd => h' d (List.mem_cons_of_mem _ hd)
    have h0 := h' e (List.mem_cons_self ..)
    simp only [List.foldl_cons]
    simp [h1, h0]

@[simp] theorem writeRest_rest (w : Writer) (addr v phase : Nat) (s : State) :
    queueOf (writeRest w addr v phase s) = queueOf (s) ∧ countOf (writeRest w addr v phase s) = countOf (s) := by
  unfold writeRest
  have ht := writeBits_two v [pairTwin, unpairTwin w, detachTwin, reattachTwin, twinHasFailed, promoteTwin,
      demoteTwin w]
    s (by simp)
  dsimp only
  (repeat' split) <;> simp [ht]

@[simp] theorem writeRegister_rest (w : Writer) (addr v phase : Nat) (s : State) :
    queueOf (writeRegister w addr v phase s) = queueOf (s) ∧ countOf (writeRegister w addr v phase s) = countOf (s)
        := by
  unfold writeRegister
  simp

/-- A write that reaches its register leaves what waits and the counter, if its effect does. -/
theorem reach_two (w : Writer) (addr v : Nat) (f : State → State) (s : State)
    (hf : ∀ t : State, queueOf (f t) = queueOf t ∧ countOf (f t) = countOf t) :
    queueOf (reach w addr v f s) = queueOf s ∧ countOf (reach w addr v f s) = countOf s := by
  unfold reach
  simp [hf]

@[simp] theorem busWrite_rest (w : Writer) (off : Nat) (eight : Bool) (be data phase : Nat) (s : State) :
    queueOf (busWrite w off eight be data phase s) = queueOf (s) ∧ countOf (busWrite w off eight be data phase s) =
        countOf (s) := by
  unfold busWrite
  dsimp only
  have h1 : ∀ (a v : Nat) (t : State), queueOf (reach w a v (writeRegister w a v phase) t) = queueOf t ∧
      countOf (reach w a v (writeRegister w a v phase) t) = countOf t :=
    fun a v t => reach_two w a v _ t fun u => writeRegister_rest w a v phase u
  (repeat' split) <;> simp [h1]

@[simp] theorem readEffect_rest (addr : Nat) (s : State) :
    queueOf (readEffect addr s) = queueOf (s) ∧ countOf (readEffect addr s) = countOf (s) ∧ memOf (readEffect addr s)
        = memOf (s) := by
  unfold readEffect
  simp [pending_queueOf, count_countOf, mem_memOf]

@[simp] theorem busRead_rest (off n : Nat) (s : State) :
    queueOf ((busRead off n s).2) = queueOf (s) ∧ countOf ((busRead off n s).2) = countOf (s) ∧ memOf ((busRead off n
        s).2) = memOf (s) := by
  unfold busRead
  simp

@[simp] theorem readRegister_rest (addr : Nat) (s : State) :
    queueOf (readRegister addr s) = queueOf (s) ∧ countOf (readRegister addr s) = countOf (s) ∧ memOf (readRegister
        addr s) = memOf (s) := by
  unfold readRegister
  simp

@[simp] theorem windowWrite_rest (x_off x_data : Nat) (s : State) :
    queueOf (windowWrite x_off x_data s) = queueOf (s) ∧ countOf (windowWrite x_off x_data s) = countOf (s) ∧ memOf
        (windowWrite x_off x_data s) = memOf (s) := by
  unfold windowWrite
  simp

end Sys2Proof.Machine
end

