-- ==== Sys2Proof/Laws/MemoryForm.lean ====
section
/-! SUPPORT. The operations that change the module DRAM keep its canonical form: rising addresses, no listed byte 0. -/

namespace Sys2Proof.Machine

theorem when_wf (c : Bool) (f : State → State) (s : State) (hs : Memory.wf (memOf (s)) = true)
    (h : ∀ t : State, Memory.wf (memOf (t)) = true → Memory.wf (memOf (f t)) = true) : Memory.wf (memOf (when c f s))
        = true := by
  cases c
  · exact hs
  · exact h s hs

theorem forEach_wf {α : Type} (l : List α) (f : α → State → State) (s : State) (hs : Memory.wf (memOf (s)) = true)
    (h : ∀ a, ∀ t : State, Memory.wf (memOf (t)) = true → Memory.wf (memOf (f a t)) = true) : Memory.wf (memOf
        (forEach l f s)) = true :=
  forEach_keeps (fun t => Memory.wf (memOf (t)) = true) l f s hs fun a _ t ht => h a t ht

@[simp] theorem wf_nil : Memory.wf [] = true := by rfl

theorem iteWf {c : Prop} [Decidable c] {a b : State} (ha : Memory.wf (memOf a) = true)
    (hb : Memory.wf (memOf b) = true) : Memory.wf (memOf (if c then a else b)) = true := by
  split
  · exact ha
  · exact hb

theorem withCredit_wf (a : Nat) (reserved : Bool) (f : State → State) (s : State) (hs : Memory.wf (memOf s) = true)
    (h : ∀ t : State, Memory.wf (memOf t) = true → Memory.wf (memOf (f t)) = true) :
    Memory.wf (memOf (withCredit a reserved f s)) = true := by
  unfold withCredit
  split
  · exact h s hs
  · simp [hs]

theorem goDown_wf (f : State → State) (s : State) (hs : Memory.wf (memOf s) = true)
    (h : ∀ t : State, Memory.wf (memOf t) = true → Memory.wf (memOf (f t)) = true) :
    Memory.wf (memOf (goDown f s)) = true := by
  unfold goDown
  simp [h s hs]

theorem reach_wf (w : Writer) (addr data : Nat) (f : State → State) (s : State) (hs : Memory.wf (memOf s) = true)
    (h : ∀ t : State, Memory.wf (memOf t) = true → Memory.wf (memOf (f t)) = true) :
    Memory.wf (memOf (reach w addr data f s)) = true := by
  unfold reach
  (repeat' split) <;> simp [hs, h]

theorem writeBits_wf (v : Nat) (l : List (State → State)) (s : State) (hs : Memory.wf (memOf s) = true)
    (hl : ∀ f ∈ l, ∀ t : State, Memory.wf (memOf t) = true → Memory.wf (memOf (f t)) = true) :
    Memory.wf (memOf (writeBits v l s)) = true := by
  unfold writeBits
  have h' : ∀ e ∈ (List.range l.length).zip l, ∀ t : State,
      Memory.wf (memOf t) = true → Memory.wf (memOf (e.2 t)) = true := fun e he => hl e.2 (List.of_mem_zip he).2
  generalize (List.range l.length).zip l = z at h'
  induction z generalizing s with
  | nil => simpa using hs
  | cons e z ih =>
    exact ih (when (bitOf v e.1) e.2 s) (when_wf _ _ _ hs (h' e (List.mem_cons_self ..)))
      fun d hd => h' d (List.mem_cons_of_mem _ hd)

@[simp] theorem writeByte_wf (a : Nat) (b : Byte) (s : State) (h : Memory.wf (memOf (s)) = true) :
    Memory.wf (memOf (writeByte a b s)) = true := by
  exact wf_put _ a b h

@[simp] theorem writeLine_wf (line : Nat) (be : BitVec 64) (d : Line) (s : State) (h : Memory.wf (memOf (s)) = true) :
    Memory.wf (memOf (writeLine line be d s)) = true := by
  exact writeLine_keeps_wf line be d s h

@[simp] theorem landWrite_wf (e : WEntry) (s : State) (h : Memory.wf (memOf (s)) = true) :
    Memory.wf (memOf (landWrite e s)) = true := by
  unfold landWrite
  simp [h]

@[simp] theorem drainWrites_wf (s : State) (h : Memory.wf (memOf (s)) = true) :
    Memory.wf (memOf (drainWrites s)) = true := by
  unfold drainWrites
  simp +contextual [h, when_wf, forEach_wf]

@[simp] theorem placeRepair_wf (line : Nat) (d : Line) (s : State) (h : Memory.wf (memOf (s)) = true) :
    Memory.wf (memOf (placeRepair line d s)) = true := by
  unfold placeRepair
  simp +contextual [h, when_wf, forEach_wf]

@[simp] theorem repaired_wf (line : Nat) (d : Line) (fromTwin : Bool) (s : State) (h : Memory.wf (memOf (s)) = true) :
    Memory.wf (memOf (repaired line d fromTwin s)) = true := by
  unfold repaired
  simp [h]

@[simp] theorem repairSealed_wf (line : Nat) (finder : Finder) (s : State) (h : Memory.wf (memOf (s)) = true) :
    Memory.wf (memOf (repairSealed line finder s)) = true := by
  unfold repairSealed
  dsimp only
  (repeat' split) <;> simp [h]

@[simp] theorem repairOnward_wf (line : Nat) (finder : Finder) (s : State) (h : Memory.wf (memOf (s)) = true) :
    Memory.wf (memOf (repairOnward line finder s)) = true := by
  unfold repairOnward
  (repeat' split) <;> simp [h]

@[simp] theorem repairsOnward_wf (s : State) (h : Memory.wf (memOf (s)) = true) :
    Memory.wf (memOf (repairsOnward s)) = true := by
  unfold repairsOnward
  simp +contextual [h, when_wf, forEach_wf]

@[simp] theorem startRepair_wf (line : Nat) (finder : Finder) (s : State) (h : Memory.wf (memOf (s)) = true) :
    Memory.wf (memOf (startRepair line finder s)) = true := by
  unfold startRepair
  (repeat' split) <;> simp [h]

@[simp] theorem twinLostNow_wf (s : State) (h : Memory.wf (memOf (s)) = true) :
    Memory.wf (memOf (twinLostNow s)) = true := by
  unfold twinLostNow
  (repeat' split) <;> simp [h]

@[simp] theorem puntyDown_wf (s : State) (h : Memory.wf (memOf (s)) = true) :
    Memory.wf (memOf (puntyDown s)) = true := by
  unfold puntyDown
  simp [h]

@[simp] theorem lineRead_wf (line : Nat) (finder : Finder) (err : LineErrors) (s : State) (h : Memory.wf (memOf (s))
    = true) :
    Memory.wf (memOf (lineRead line finder err s)) = true := by
  unfold lineRead
  (repeat' split) <;> simp +contextual [h, when_wf, forEach_wf]

@[simp] theorem readOld_wf (line : Nat) (e : LineErrors) (s : State) (h : Memory.wf (memOf (s)) = true) :
    Memory.wf (memOf (readOld line e s)) = true := by
  unfold readOld
  (repeat' split) <;> simp [h]

@[simp] theorem logLine_wf (c line : Nat) (s : State) (h : Memory.wf (memOf (s)) = true) :
    Memory.wf (memOf (logLine c line s)) = true := by
  unfold logLine
  dsimp only
  (repeat' split) <;> simp [h]

@[simp] theorem putLine_wf (line : Nat) (d : Line) (poison : Bool) (s : State) (h : Memory.wf (memOf (s)) = true) :
    Memory.wf (memOf (putLine line d poison s)) = true := by
  unfold putLine
  simp [h]

@[simp] theorem replayEntry_wf (c g line : Nat) (lost : Bool) (s : State) (h : Memory.wf (memOf (s)) = true) :
    Memory.wf (memOf (replayEntry c g line lost s)) = true := by
  unfold replayEntry
  (repeat' split) <;> simp [h]

@[simp] theorem replayRead_wf (c g line : Nat) (err : LineErrors) (s : State) (h : Memory.wf (memOf (s)) = true) :
    Memory.wf (memOf (replayRead c g line err s)) = true := by
  unfold replayRead
  dsimp only
  (repeat' split) <;> simp [h]

@[simp] theorem replayAhead_wf (line : Nat) (err : LineErrors) (s : State) (h : Memory.wf (memOf (s)) = true) :
    Memory.wf (memOf (replayAhead line err s)) = true := by
  unfold replayAhead
  simp +contextual [h, when_wf, forEach_wf]

@[simp] theorem replayNext_wf (c : Nat) (lost : Bool) (s : State) (h : Memory.wf (memOf (s)) = true) :
    Memory.wf (memOf (replayNext c lost s)) = true := by
  unfold replayNext
  (repeat' split) <;> simp [h]

@[simp] theorem rollback_wf (c : Nat) (s : State) (h : Memory.wf (memOf (s)) = true) :
    Memory.wf (memOf (rollback c s)) = true := by
  unfold rollback
  simp +contextual [h, when_wf, forEach_wf]

@[simp] theorem startSeal_wf (g ch die : Nat) (bySave : Bool) (poison : List Nat) (s : State) (h : Memory.wf (memOf
    (s)) = true) :
    Memory.wf (memOf (startSeal g ch die bySave poison s)) = true := by
  unfold startSeal
  simp +contextual [h, mem_memOf]

@[simp] theorem clearRange_wf (lo n : Nat) (keep : Nat → Bool) (s : State) (h : Memory.wf (memOf (s)) = true) :
    Memory.wf (memOf (clearRange lo n keep s)) = true := by
  exact filter_wf _ _ h

@[simp] theorem loadImage_wf (g : Nat) (image : List Host.Cell) (poison : List Nat) (keep : Nat → Bool) (s : State)
    (h : Memory.wf (memOf (s)) = true) :
    Memory.wf (memOf (loadImage g image poison keep s)) = true := by
  unfold loadImage
  simp +contextual [h, when_wf, forEach_wf]

@[simp] theorem poisonGranule_wf (g : Nat) (keep : Nat → Bool) (s : State) (h : Memory.wf (memOf (s)) = true) :
    Memory.wf (memOf (poisonGranule g keep s)) = true := by
  unfold poisonGranule
  simp [h]

@[simp] theorem restoreGranule_wf (g : Nat) (ok : Bool) (s : State) (h : Memory.wf (memOf (s)) = true) :
    Memory.wf (memOf (restoreGranule g ok s)) = true := by
  unfold restoreGranule
  dsimp only
  (repeat' split) <;> simp [h]

@[simp] theorem loadSlab_wf (p : SavedPair) (s : State) (h : Memory.wf (memOf (s)) = true) :
    Memory.wf (memOf (loadSlab p s)) = true := by
  unfold loadSlab
  simp +contextual [h, when_wf, forEach_wf]

@[simp] theorem loadHold_wf (cs : List SavedCtx) (ps : List SavedPair) (s : State) (h : Memory.wf (memOf (s)) = true)
    :
    Memory.wf (memOf (loadHold cs ps s)) = true := by
  unfold loadHold
  simp +contextual [h, when_wf, forEach_wf]

@[simp] theorem loseUnsealed_wf (g : Nat) (s : State) (h : Memory.wf (memOf (s)) = true) :
    Memory.wf (memOf (loseUnsealed g s)) = true := by
  unfold loseUnsealed
  simp +contextual [h, mem_memOf]

@[simp] theorem loadMetadata_wf (m : Manifest) (s : State) (h : Memory.wf (memOf (s)) = true) :
    Memory.wf (memOf (loadMetadata m s)) = true := by
  unfold loadMetadata
  (repeat' split) <;> simp +contextual [h, mem_memOf, when_wf, forEach_wf]

@[simp] theorem domainGone_wf (d : Nat) (s : State) (h : Memory.wf (memOf (s)) = true) :
    Memory.wf (memOf (domainGone d s)) = true := by
  unfold domainGone
  (repeat' split) <;> simp +contextual [h, mem_memOf, when_wf, forEach_wf]

@[simp] theorem domainOff_wf (d : Nat) (retain : Bool) (s : State) (h : Memory.wf (memOf (s)) = true) :
    Memory.wf (memOf (domainOff d retain s)) = true := by
  unfold domainOff
  (repeat' split) <;> simp +contextual [h, mem_memOf, when_wf, forEach_wf]

@[simp] theorem domainsOff_wf (p : Nat → Bool) (retain : Bool) (s : State) (h : Memory.wf (memOf (s)) = true) :
    Memory.wf (memOf (domainsOff p retain s)) = true := by
  unfold domainsOff
  simp +contextual [h, when_wf, forEach_wf]

@[simp] theorem loseImage_wf (s : State) (h : Memory.wf (memOf (s)) = true) :
    Memory.wf (memOf (loseImage s)) = true := by
  unfold loseImage
  simp [h]

@[simp] theorem downDone_wf (s : State) (h : Memory.wf (memOf (s)) = true) :
    Memory.wf (memOf (downDone s)) = true := by
  unfold downDone
  simp +contextual [h, mem_memOf]

@[simp] theorem advanceDown_wf (s : State) (h : Memory.wf (memOf (s)) = true) :
    Memory.wf (memOf (advanceDown s)) = true := by
  unfold advanceDown
  (repeat' split) <;> simp +contextual [h, mem_memOf, when_wf, forEach_wf]

@[simp] theorem downTick_wf (s : State) (h : Memory.wf (memOf (s)) = true) :
    Memory.wf (memOf (downTick s)) = true := by
  unfold downTick
  (repeat' split) <;> simp +contextual [h, mem_memOf, when_wf, forEach_wf]

@[simp] theorem coldReset_wf (railLost : Bool) (s : State) (h : Memory.wf (memOf (s)) = true) :
    Memory.wf (memOf (coldReset railLost s)) = true := by
  unfold coldReset
  (repeat' split) <;> simp +contextual [h, mem_memOf, when_wf, forEach_wf]

@[simp] theorem cutAll_wf (s : State) (h : Memory.wf (memOf (s)) = true) :
    Memory.wf (memOf (cutAll s)) = true := by
  unfold cutAll
  simp +contextual [h, mem_memOf]

@[simp] theorem drainStalled_wf (q : Stalled) (s : State) (h : Memory.wf (memOf (s)) = true) :
    Memory.wf (memOf (drainStalled q s)) = true := by
  unfold drainStalled
  simp +contextual [h, when_wf, forEach_wf]

@[simp] theorem portsFence_wf (s : State) (h : Memory.wf (memOf (s)) = true) :
    Memory.wf (memOf (portsFence s)) = true := by
  unfold portsFence
  (repeat' split) <;> simp +contextual [h, mem_memOf, when_wf, forEach_wf]

@[simp] theorem fence_wf (k : Nat) (s : State) (h : Memory.wf (memOf (s)) = true) :
    Memory.wf (memOf (fence k s)) = true := by
  unfold fence
  dsimp only
  (repeat' split) <;> simp (maxDischargeDepth := 9) +contextual [h, mem_memOf, when_wf, forEach_wf]

@[simp] theorem safePowerFail_wf (k : Nat) (s : State) (h : Memory.wf (memOf (s)) = true) :
    Memory.wf (memOf (safePowerFail k s)) = true := by
  unfold safePowerFail
  simp [h]

@[simp] theorem trigger_wf (k : Nat) (s : State) (h : Memory.wf (memOf (s)) = true) :
    Memory.wf (memOf (trigger k s)) = true := by
  unfold trigger
  dsimp only
  (repeat' split) <;> simp [h]

@[simp] theorem resetChip_wf (s : State) (h : Memory.wf (memOf (s)) = true) :
    Memory.wf (memOf (resetChip s)) = true := by
  unfold resetChip
  simp +contextual [h, when_wf, forEach_wf]

@[simp] theorem fencedReset_wf (s : State) (h : Memory.wf (memOf (s)) = true) :
    Memory.wf (memOf (fencedReset s)) = true := by
  unfold fencedReset
  simp +contextual [h, mem_memOf]

@[simp] theorem disarmedReset_wf (s : State) (h : Memory.wf (memOf (s)) = true) :
    Memory.wf (memOf (disarmedReset s)) = true := by
  unfold disarmedReset
  simp +contextual [h, mem_memOf]

@[simp] theorem resetTick_wf (s : State) (h : Memory.wf (memOf (s)) = true) :
    Memory.wf (memOf (resetTick s)) = true := by
  unfold resetTick
  dsimp only
  (repeat' split) <;> simp +contextual [h, mem_memOf, when_wf, forEach_wf]

@[simp] theorem drained_wf (s : State) (h : Memory.wf (memOf (s)) = true) :
    Memory.wf (memOf (drained s)) = true := by
  unfold drained
  simp +contextual [h, mem_memOf]

@[simp] theorem chipResetOp_wf (s : State) (h : Memory.wf (memOf (s)) = true) :
    Memory.wf (memOf (chipResetOp s)) = true := by
  unfold chipResetOp
  (repeat' split) <;> simp [h]

@[simp] theorem loseVaon_wf (s : State) (h : Memory.wf (memOf (s)) = true) :
    Memory.wf (memOf (loseVaon s)) = true := by
  unfold loseVaon
  simp +contextual [h, mem_memOf]

@[simp] theorem idleChannel_wf (ch : Nat) (s : State) (h : Memory.wf (memOf (s)) = true) :
    Memory.wf (memOf (idleChannel ch s)) = true := by
  unfold idleChannel
  (repeat' split) <;> simp +contextual [h, mem_memOf, when_wf, forEach_wf]

@[simp] theorem idleBlock_wf (p : Nat) (s : State) (h : Memory.wf (memOf (s)) = true) :
    Memory.wf (memOf (idleBlock p s)) = true := by
  unfold idleBlock
  exact iteWf (by simp [h, mem_memOf, forEach_wf]) (iteWf (by simp [h, mem_memOf, forEach_wf]) (iteWf (by simp [h,
      mem_memOf, forEach_wf]) (iteWf (by simp [h, mem_memOf, forEach_wf]) (iteWf (by simp [h, mem_memOf, forEach_wf])
      (iteWf (by simp [h, mem_memOf, forEach_wf]) (iteWf (by simp [h, mem_memOf, forEach_wf]) (iteWf (by simp [h,
      mem_memOf, forEach_wf]) (iteWf (by simp [h, mem_memOf, forEach_wf]) (iteWf (by simp [h, mem_memOf, forEach_wf])
      (iteWf (by simp [h, mem_memOf, forEach_wf]) (iteWf (by simp [h, mem_memOf, forEach_wf]) (iteWf (by simp [h,
      mem_memOf, forEach_wf]) (iteWf (by simp [h, mem_memOf, forEach_wf]) (iteWf (by simp [h, mem_memOf, forEach_wf])
      (iteWf (by simp [h, mem_memOf, forEach_wf]) (iteWf (by simp [h, mem_memOf, forEach_wf]) h))))))))))))))))

@[simp] theorem startAbort'_wf (p : Nat) (reset : Bool) (s : State) (h : Memory.wf (memOf (s)) = true) :
    Memory.wf (memOf (startAbort' p reset s)) = true := by
  unfold startAbort'
  dsimp only
  (repeat' split) <;> simp +contextual [h, mem_memOf, when_wf, forEach_wf]

@[simp] theorem writeAbort_wf (w : Writer) (p : Nat) (reset : Bool) (s : State) (h : Memory.wf (memOf (s)) = true) :
    Memory.wf (memOf (writeAbort w p reset s)) = true := by
  unfold writeAbort
  (repeat' split) <;> simp [h]

@[simp] theorem react1_wf (r : Req) (s : State) (h : Memory.wf (memOf (s)) = true) :
    Memory.wf (memOf (react1 r s)) = true := by
  unfold react1
  (repeat' split) <;> simp [h]

@[simp] theorem reactRound_wf (s : State) (h : Memory.wf (memOf (s)) = true) :
    Memory.wf (memOf (reactRound s)) = true := by
  unfold reactRound
  (repeat' split) <;> simp +contextual [h, mem_memOf, when_wf, forEach_wf]

@[simp] theorem reactions_wf (s : State) (h : Memory.wf (memOf (s)) = true) :
    Memory.wf (memOf (reactions s)) = true := by
  unfold reactions
  dsimp only
  (repeat' split) <;> simp (maxDischargeDepth := 9) +contextual [h, mem_memOf, when_wf, forEach_wf]

@[simp] theorem settle_wf (before s : State) (h : Memory.wf (memOf (s)) = true) :
    Memory.wf (memOf (settle before s)) = true := by
  unfold settle
  simp [h]

@[simp] theorem logRemote_wf (c line : Nat) (s : State) (h : Memory.wf (memOf (s)) = true) :
    Memory.wf (memOf (logRemote c line s)) = true := by
  unfold logRemote
  simp +contextual [h, when_wf, forEach_wf]

@[simp] theorem applyMirror_wf (m : MirrorIn) (s : State) (h : Memory.wf (memOf (s)) = true) :
    Memory.wf (memOf (applyMirror m s)) = true := by
  unfold applyMirror
  (repeat' split) <;> simp [h]

@[simp] theorem mirrorAsks_wf (m : MirrorIn) (s : State) (h : Memory.wf (memOf (s)) = true) :
    Memory.wf (memOf (mirrorAsks m s)) = true := by
  unfold mirrorAsks
  dsimp only
  (repeat' split) <;> simp +contextual [h, when_wf, forEach_wf]

@[simp] theorem retryMirrors_wf (x0 : List MirrorIn) (s : State) (h : Memory.wf (memOf (s)) = true) :
    Memory.wf (memOf (retryMirrors x0 s)) = true := by
  induction x0 generalizing s with
  | nil => unfold retryMirrors; simp [h]
  | cons m rest ih =>
    unfold retryMirrors
    dsimp only
    split <;> simp (maxDischargeDepth := 9) [ih, h]

@[simp] theorem goMirrors_wf (s : State) (h : Memory.wf (memOf (s)) = true) :
    Memory.wf (memOf (goMirrors s)) = true := by
  unfold goMirrors
  (repeat' split) <;> simp [h]

@[simp] theorem takeMirror_wf (m : MirrorIn) (s : State) (h : Memory.wf (memOf (s)) = true) :
    Memory.wf (memOf (takeMirror m s)) = true := by
  unfold takeMirror
  dsimp only
  (repeat' split) <;> simp [h]

@[simp] theorem mirrorTick_wf (s : State) (h : Memory.wf (memOf (s)) = true) :
    Memory.wf (memOf (mirrorTick s)) = true := by
  unfold mirrorTick
  (repeat' split) <;> simp [h]

@[simp] theorem sendCopy_wf (s : State) (h : Memory.wf (memOf (s)) = true) :
    Memory.wf (memOf (sendCopy s)) = true := by
  unfold sendCopy
  (repeat' split) <;> simp [h]

@[simp] theorem resyncTick_wf (s : State) (h : Memory.wf (memOf (s)) = true) :
    Memory.wf (memOf (resyncTick s)) = true := by
  unfold resyncTick
  dsimp only
  (repeat' split) <;> simp +contextual [h, when_wf, forEach_wf]

@[simp] theorem applyCopy_wf (c : CopyIn) (s : State) (h : Memory.wf (memOf (s)) = true) :
    Memory.wf (memOf (applyCopy c s)) = true := by
  unfold applyCopy
  dsimp only
  (repeat' split) <;> simp (maxDischargeDepth := 9) +contextual [h, mem_memOf, when_wf, forEach_wf]

@[simp] theorem takeCopy_wf (c : CopyIn) (s : State) (h : Memory.wf (memOf (s)) = true) :
    Memory.wf (memOf (takeCopy c s)) = true := by
  unfold takeCopy
  (repeat' split) <;> simp [h]

@[simp] theorem copyTick_wf (s : State) (h : Memory.wf (memOf (s)) = true) :
    Memory.wf (memOf (copyTick s)) = true := by
  unfold copyTick
  simp +contextual [h, when_wf, forEach_wf]

@[simp] theorem twinTick_wf (s : State) (h : Memory.wf (memOf (s)) = true) :
    Memory.wf (memOf (twinTick s)) = true := by
  unfold twinTick
  (repeat' split) <;> simp (maxDischargeDepth := 9) +contextual [h, mem_memOf, when_wf, forEach_wf]

@[simp] theorem beginSwitch_wf (d req : Nat) (s : State) (h : Memory.wf (memOf (s)) = true) :
    Memory.wf (memOf (beginSwitch d req s)) = true := by
  unfold beginSwitch
  (repeat' split) <;> simp +contextual [h, mem_memOf, when_wf, forEach_wf]

@[simp] theorem groupTick_wf (s : State) (h : Memory.wf (memOf (s)) = true) :
    Memory.wf (memOf (groupTick s)) = true := by
  unfold groupTick
  (repeat' split) <;> simp +contextual [h, mem_memOf, when_wf, forEach_wf]

@[simp] theorem switchTick_wf (s : State) (h : Memory.wf (memOf (s)) = true) :
    Memory.wf (memOf (switchTick s)) = true := by
  unfold switchTick
  simp only [domainsTick_rest]
  exact goDown_wf _ _ (resetTick_wf _ (groupTick_wf _ (forEach_wf _ _ _ h fun r t ht => beginSwitch_wf _ _ t ht)))
    fun t ht => downTick_wf t ht

@[simp] theorem tick_wf (x : TickIn) (s : State) (h : Memory.wf (memOf (s)) = true) :
    Memory.wf (memOf (tick x s)) = true := by
  unfold tick
  simp +contextual [h, mem_memOf]

@[simp] theorem domainGroup_wf (d : Nat) (s : State) (h : Memory.wf (memOf (s)) = true) :
    Memory.wf (memOf (domainGroup d s)) = true := by
  unfold domainGroup
  (repeat' split) <;> simp +contextual [h, mem_memOf, when_wf, forEach_wf]

@[simp] theorem domainReact_wf (d : Nat) (s : State) (h : Memory.wf (memOf (s)) = true) :
    Memory.wf (memOf (domainReact d s)) = true := by
  unfold domainReact
  dsimp only
  (repeat' split) <;> simp +contextual [h, mem_memOf, when_wf, forEach_wf]

@[simp] theorem runWaitingDomains_wf (s : State) (h : Memory.wf (memOf (s)) = true) :
    Memory.wf (memOf (runWaitingDomains s)) = true := by
  unfold runWaitingDomains
  (repeat' split) <;> simp +contextual [h, mem_memOf, when_wf, forEach_wf]

@[simp] theorem logThenApply_wf (newLine : Bool) (c : Nat) (q : Stalled) (be : BitVec 64) (s : State) (h : Memory.wf
    (memOf (s)) = true) :
    Memory.wf (memOf (logThenApply newLine c q be s)) = true := by
  unfold logThenApply
  dsimp only
  (repeat' split) <;> simp (maxDischargeDepth := 9) +contextual [h, mem_memOf, when_wf, forEach_wf]

@[simp] theorem placeWrite_wf (q : Stalled) (be : BitVec 64) (s : State) (h : Memory.wf (memOf (s)) = true) :
    Memory.wf (memOf (placeWrite q be s)) = true := by
  unfold placeWrite
  dsimp only
  (repeat' split) <;> simp [h]

@[simp] theorem tryWrite_wf (q : Stalled) (be : BitVec 64) (s : State) (h : Memory.wf (memOf (s)) = true) :
    Memory.wf (memOf (tryWrite q be s)) = true := by
  unfold tryWrite
  (repeat' split) <;> simp [h]

@[simp] theorem ingest_wf (q : Stalled) (be : BitVec 64) (ecc : MarverEcc) (s : State) (h : Memory.wf (memOf (s)) =
    true) :
    Memory.wf (memOf (ingest q be ecc s)) = true := by
  unfold ingest
  simp [h]

@[simp] theorem hostWrite_wf (port : Nat) (a : HostAddr) (be : BitVec 64) (data : Line) (tag : Nat) (poison : Bool) (x : WriteIn) (s
    : State) (h : Memory.wf (memOf (s)) = true) :
    Memory.wf (memOf (hostWrite port a be data tag poison x s)) = true := by
  unfold hostWrite
  dsimp only
  (repeat' split) <;> simp +contextual [h, mem_memOf, when_wf, forEach_wf]

@[simp] theorem fetchLine_wf (q : Stalled) (s : State) (h : Memory.wf (memOf (s)) = true) :
    Memory.wf (memOf (fetchLine q s)) = true := by
  unfold fetchLine
  dsimp only
  (repeat' split) <;> simp [h]

@[simp] theorem tryRead_wf (q : Stalled) (s : State) (h : Memory.wf (memOf (s)) = true) :
    Memory.wf (memOf (tryRead q s)) = true := by
  unfold tryRead
  dsimp only
  (repeat' split) <;> simp +contextual [h, mem_memOf, when_wf, forEach_wf]

@[simp] theorem hostRead_wf (port : Nat) (a : HostAddr) (tag : Nat) (ecc : MarverEcc) (s : State) (h : Memory.wf
    (memOf (s)) = true) :
    Memory.wf (memOf (hostRead port a tag ecc s)) = true := by
  unfold hostRead
  dsimp only
  (repeat' split) <;> simp +contextual [h, mem_memOf, when_wf, forEach_wf]

@[simp] theorem tryAgain_wf (q : Stalled) (s : State) (h : Memory.wf (memOf (s)) = true) :
    Memory.wf (memOf (tryAgain q s)) = true := by
  unfold tryAgain
  (repeat' split) <;> simp [h]

@[simp] theorem retryStalled_wf (s : State) (h : Memory.wf (memOf (s)) = true) :
    Memory.wf (memOf (retryStalled s)) = true := by
  unfold retryStalled
  (repeat' split) <;> simp +contextual [h, mem_memOf, when_wf, forEach_wf]

@[simp] theorem afterRestore_wf (s : State) (h : Memory.wf (memOf (s)) = true) :
    Memory.wf (memOf (afterRestore s)) = true := by
  unfold afterRestore
  simp [h]

@[simp] theorem assertPerst_wf (n : Nat) (s : State) (h : Memory.wf (memOf (s)) = true) :
    Memory.wf (memOf (assertPerst n s)) = true := by
  unfold assertPerst
  simp +contextual [h, mem_memOf]

@[simp] theorem gpfFlush_wf (n : Nat) (s : State) (h : Memory.wf (memOf (s)) = true) :
    Memory.wf (memOf (gpfFlush n s)) = true := by
  unfold gpfFlush
  dsimp only
  (repeat' split) <;> simp +contextual [h, mem_memOf, when_wf, forEach_wf]

@[simp] theorem injectLine_wf (n addr : Nat) (s : State) (h : Memory.wf (memOf (s)) = true) :
    Memory.wf (memOf (injectLine n addr s)) = true := by
  unfold injectLine
  (repeat' split) <;> simp [h]

@[simp] theorem clearLine_wf (n addr : Nat) (data : Line) (tag : Nat) (s : State) (h : Memory.wf (memOf (s)) = true) :
    Memory.wf (memOf (clearLine n addr data tag s)) = true := by
  unfold clearLine
  (repeat' split) <;> simp [h]

@[simp] theorem issueColumn_wf (ch sub : Nat) (write : Bool) (c : Waiting) (s : State) (h : Memory.wf (memOf (s)) =
    true) :
    Memory.wf (memOf (issueColumn ch sub write c s)) = true := by
  unfold issueColumn
  dsimp only
  (repeat' split) <;> simp +contextual [h, mem_memOf, when_wf, forEach_wf]

@[simp] theorem issuePick_wf (ch sub : Nat) (write : Bool) (c : Waiting) (k : DramCmd) (s : State) (h : Memory.wf
    (memOf (s)) = true) :
    Memory.wf (memOf (issuePick ch sub write c k s)) = true := by
  unfold issuePick
  (repeat' split) <;> simp [h]

@[simp] theorem retireIssued_wf (ch sub : Nat) (s : State) (h : Memory.wf (memOf (s)) = true) :
    Memory.wf (memOf (retireIssued ch sub s)) = true := by
  unfold retireIssued
  (repeat' split) <;> simp [h]

@[simp] theorem commandSlot_wf (ch sub : Nat) (bankReady actReady : List Nat) (s : State) (h : Memory.wf (memOf (s))
    = true) :
    Memory.wf (memOf (commandSlot ch sub bankReady actReady s)) = true := by
  unfold commandSlot
  dsimp only
  (repeat' split) <;> simp [h]

@[simp] theorem readDone_wf (line : Nat) (finder : Finder) (err : LineErrors) (s : State) (h : Memory.wf (memOf (s))
    = true) :
    Memory.wf (memOf (readDone line finder err s)) = true := by
  unfold readDone
  (repeat' split) <;> simp (maxDischargeDepth := 9) +contextual [h, mem_memOf, when_wf, forEach_wf]

@[simp] theorem twinTimeout_wf (line : Nat) (s : State) (h : Memory.wf (memOf (s)) = true) :
    Memory.wf (memOf (twinTimeout line s)) = true := by
  unfold twinTimeout
  (repeat' split) <;> simp [h]

@[simp] theorem sealedCopy_wf (line : Nat) (ok : Bool) (s : State) (h : Memory.wf (memOf (s)) = true) :
    Memory.wf (memOf (sealedCopy line ok s)) = true := by
  unfold sealedCopy
  dsimp only
  (repeat' split) <;> simp [h]

@[simp] theorem moveLine_wf (line : Nat) (err : LineErrors) (spareBad : Bool) (s : State) (h : Memory.wf (memOf (s))
    = true) :
    Memory.wf (memOf (moveLine line err spareBad s)) = true := by
  unfold moveLine
  simp [h]

@[simp] theorem copyLine_wf (line : Nat) (err : LineErrors) (spareBad : Bool) (s : State) (h : Memory.wf (memOf (s))
    = true) :
    Memory.wf (memOf (copyLine line err spareBad s)) = true := by
  unfold copyLine
  exact iteWf h (withCredit_wf _ _ _ s h fun t ht => withCredit_wf _ _ _ t ht fun u hu => moveLine_wf _ _ _ u hu)

@[simp] theorem acceptCommit_wf (g due show_ : Nat) (domain : Bool) (s : State) (h : Memory.wf (memOf (s)) = true) :
    Memory.wf (memOf (acceptCommit g due show_ domain s)) = true := by
  unfold acceptCommit
  simp +contextual [h, mem_memOf]

@[simp] theorem requestCommit_wf (g phase : Nat) (s : State) (h : Memory.wf (memOf (s)) = true) :
    Memory.wf (memOf (requestCommit g phase s)) = true := by
  unfold requestCommit
  dsimp only
  (repeat' split) <;> simp [h]

@[simp] theorem replayLine_wf (g : Nat) (err : LineErrors) (s : State) (h : Memory.wf (memOf (s)) = true) :
    Memory.wf (memOf (replayLine g err s)) = true := by
  unfold replayLine
  (repeat' split) <;> simp [h]

@[simp] theorem castVote_wf (v : Vote) (s : State) (h : Memory.wf (memOf (s)) = true) :
    Memory.wf (memOf (castVote v s)) = true := by
  unfold castVote
  (repeat' split) <;> simp +contextual [h, mem_memOf, when_wf, forEach_wf]

@[simp] theorem ballotReceived_wf (tag coord frame : Nat) (s : State) (h : Memory.wf (memOf (s)) = true) :
    Memory.wf (memOf (ballotReceived tag coord frame s)) = true := by
  unfold ballotReceived
  (repeat' split) <;> simp [h]

@[simp] theorem rollBackNow_wf (g : Nat) (s : State) (h : Memory.wf (memOf (s)) = true) :
    Memory.wf (memOf (rollBackNow g s)) = true := by
  unfold rollBackNow
  (repeat' split) <;> simp (maxDischargeDepth := 9) +contextual [h, mem_memOf, when_wf, forEach_wf]

@[simp] theorem settleDoubt_wf (g : Nat) (commit : Bool) (code : Nat) (s : State) (h : Memory.wf (memOf (s)) = true) :
    Memory.wf (memOf (settleDoubt g commit code s)) = true := by
  unfold settleDoubt
  dsimp only
  (repeat' split) <;> simp [h]

@[simp] theorem resolveWith_wf (g : Nat) (commit byRing : Bool) (s : State) (h : Memory.wf (memOf (s)) = true) :
    Memory.wf (memOf (resolveWith g commit byRing s)) = true := by
  unfold resolveWith
  dsimp only
  (repeat' split) <;> simp [h]

@[simp] theorem resolveRemote_wf (c : Nat) (commit byRing : Bool) (s : State) (h : Memory.wf (memOf (s)) = true) :
    Memory.wf (memOf (resolveRemote c commit byRing s)) = true := by
  unfold resolveRemote
  simp +contextual [h, when_wf, forEach_wf]

@[simp] theorem resolveRemoteAttempt_wf (c : Nat) (s : State) (h : Memory.wf (memOf (s)) = true) :
    Memory.wf (memOf (resolveRemoteAttempt c s)) = true := by
  unfold resolveRemoteAttempt
  (repeat' split) <;> simp [h]

@[simp] theorem resolveAttempt_wf (g : Nat) (s : State) (h : Memory.wf (memOf (s)) = true) :
    Memory.wf (memOf (resolveAttempt g s)) = true := by
  unfold resolveAttempt
  (repeat' split) <;> simp [h]

@[simp] theorem answerReceived_wf (tag querier ans frame : Nat) (s : State) (h : Memory.wf (memOf (s)) = true) :
    Memory.wf (memOf (answerReceived tag querier ans frame s)) = true := by
  unfold answerReceived
  (repeat' split) <;> simp +contextual [h, mem_memOf, when_wf, forEach_wf]

@[simp] theorem weighAnswers_wf (g : Nat) (s : State) (h : Memory.wf (memOf (s)) = true) :
    Memory.wf (memOf (weighAnswers g s)) = true := by
  unfold weighAnswers
  dsimp only
  (repeat' split) <;> simp +contextual [h, mem_memOf, when_wf, forEach_wf]

@[simp] theorem answersTick_wf (s : State) (h : Memory.wf (memOf (s)) = true) :
    Memory.wf (memOf (answersTick s)) = true := by
  unfold answersTick
  simp +contextual [h, when_wf, forEach_wf]

@[simp] theorem forceOutcome_wf (g : Nat) (commit : Bool) (s : State) (h : Memory.wf (memOf (s)) = true) :
    Memory.wf (memOf (forceOutcome g commit s)) = true := by
  unfold forceOutcome
  dsimp only
  (repeat' split) <;> simp [h]

@[simp] theorem beginSeal_wf (g ch die : Nat) (poison : List Nat) (s : State) (h : Memory.wf (memOf (s)) = true) :
    Memory.wf (memOf (beginSeal g ch die poison s)) = true := by
  unfold beginSeal
  simp +contextual [h, mem_memOf]

@[simp] theorem pickGranule_wf (g die : Nat) (bad : Option SealWord) (poison : List Nat) (s : State) (h : Memory.wf
    (memOf (s)) = true) :
    Memory.wf (memOf (pickGranule g die bad poison s)) = true := by
  unfold pickGranule
  exact iteWf h (iteWf (by simp [h]) (withCredit_wf _ _ _ s h fun t ht => withCredit_wf _ _ _ t ht fun u hu =>
    withCredit_wf _ _ _ u hu fun x hx => beginSeal_wf _ _ _ _ x hx))

@[simp] theorem lehrPick_wf (die : Nat) (bad : Option SealWord) (ecc : MarverEcc) (poison : List Nat) (s : State) (h
    : Memory.wf (memOf (s)) = true) :
    Memory.wf (memOf (lehrPick die bad ecc poison s)) = true := by
  unfold lehrPick
  (repeat' split) <;> simp +contextual [h, mem_memOf, when_wf, forEach_wf]

@[simp] theorem pfail_wf (s : State) (h : Memory.wf (memOf (s)) = true) :
    Memory.wf (memOf (pfail s)) = true := by
  unfold pfail
  (repeat' split) <;> simp +contextual [h, mem_memOf, when_wf, forEach_wf]

@[simp] theorem comparatorTrip_wf (s : State) (h : Memory.wf (memOf (s)) = true) :
    Memory.wf (memOf (comparatorTrip s)) = true := by
  unfold comparatorTrip
  simp +contextual [h, mem_memOf]

@[simp] theorem drainDone_wf (s : State) (h : Memory.wf (memOf (s)) = true) :
    Memory.wf (memOf (drainDone s)) = true := by
  unfold drainDone
  (repeat' split) <;> simp [h]

@[simp] theorem manifestProgrammed_wf (a b : Bool) (s : State) (h : Memory.wf (memOf (s)) = true) :
    Memory.wf (memOf (manifestProgrammed a b s)) = true := by
  unfold manifestProgrammed
  dsimp only
  (repeat' split) <;> simp [h]

@[simp] theorem undervoltage_wf (s : State) (h : Memory.wf (memOf (s)) = true) :
    Memory.wf (memOf (undervoltage s)) = true := by
  unfold undervoltage
  (repeat' split) <;> simp [h]

@[simp] theorem firstInitialise_wf (s : State) (h : Memory.wf (memOf (s)) = true) :
    Memory.wf (memOf (firstInitialise s)) = true := by
  unfold firstInitialise
  simp [h]

@[simp] theorem manifestLocated_wf (found : Bool) (s : State) (h : Memory.wf (memOf (s)) = true) :
    Memory.wf (memOf (manifestLocated found s)) = true := by
  unfold manifestLocated
  (repeat' split) <;> simp [h]

@[simp] theorem metaDone_wf (s : State) (h : Memory.wf (memOf (s)) = true) :
    Memory.wf (memOf (metaDone s)) = true := by
  unfold metaDone
  dsimp only
  (repeat' split) <;> simp [h]

@[simp] theorem selectSaved_wf (fence g : Nat) (s : State) (h : Memory.wf (memOf (s)) = true) :
    Memory.wf (memOf (selectSaved fence g s)) = true := by
  unfold selectSaved
  (repeat' split) <;> simp [h]

@[simp] theorem scannedContexts_wf (i : Intent) (s : State) (h : Memory.wf (memOf (s)) = true) :
    Memory.wf (memOf (scannedContexts i s)) = true := by
  unfold scannedContexts
  (repeat' split) <;> simp [h]

@[simp] theorem scanDone_wf (partialList : Bool) (s : State) (h : Memory.wf (memOf (s)) = true) :
    Memory.wf (memOf (scanDone partialList s)) = true := by
  unfold scanDone
  dsimp only
  (repeat' split) <;> simp (maxDischargeDepth := 9) +contextual [h, mem_memOf, when_wf, forEach_wf]

@[simp] theorem rollContext_wf (g : Nat) (s : State) (h : Memory.wf (memOf (s)) = true) :
    Memory.wf (memOf (rollContext g s)) = true := by
  unfold rollContext
  dsimp only
  (repeat' split) <;> simp [h]

@[simp] theorem rollbackDone_wf (s : State) (h : Memory.wf (memOf (s)) = true) :
    Memory.wf (memOf (rollbackDone s)) = true := by
  unfold rollbackDone
  (repeat' split) <;> simp +contextual [h, when_wf, forEach_wf]

@[simp] theorem granuleRestored_wf (g : Nat) (ok : Bool) (s : State) (h : Memory.wf (memOf (s)) = true) :
    Memory.wf (memOf (granuleRestored g ok s)) = true := by
  unfold granuleRestored
  (repeat' split) <;> simp [h]

@[simp] theorem detachTwin_wf (s : State) (h : Memory.wf (memOf (s)) = true) :
    Memory.wf (memOf (detachTwin s)) = true := by
  unfold detachTwin
  (repeat' split) <;> simp [h]

@[simp] theorem promoteContext_wf (c : Nat) (s : State) (h : Memory.wf (memOf (s)) = true) :
    Memory.wf (memOf (promoteContext c s)) = true := by
  unfold promoteContext
  (repeat' split) <;> simp [h]

@[simp] theorem promoteTwin_wf (s : State) (h : Memory.wf (memOf (s)) = true) :
    Memory.wf (memOf (promoteTwin s)) = true := by
  unfold promoteTwin
  (repeat' split) <;> simp +contextual [h, when_wf, forEach_wf]

@[simp] theorem fenceReceived_wf (s : State) (h : Memory.wf (memOf (s)) = true) :
    Memory.wf (memOf (fenceReceived s)) = true := by
  unfold fenceReceived
  simp +contextual [h, when_wf, forEach_wf]

@[simp] theorem detachReceived_wf (s : State) (h : Memory.wf (memOf (s)) = true) :
    Memory.wf (memOf (detachReceived s)) = true := by
  unfold detachReceived
  (repeat' split) <;> simp [h]

@[simp] theorem mirrorWrite_wf (m : MirrorIn) (s : State) (h : Memory.wf (memOf (s)) = true) :
    Memory.wf (memOf (mirrorWrite m s)) = true := by
  unfold mirrorWrite
  simp [h]

@[simp] theorem voteYes_wf (g phase : Nat) (s : State) (h : Memory.wf (memOf (s)) = true) :
    Memory.wf (memOf (voteYes g phase s)) = true := by
  unfold voteYes
  (repeat' split) <;> simp [h]

@[simp] theorem prepareAcked_wf (g phase : Nat) (s : State) (h : Memory.wf (memOf (s)) = true) :
    Memory.wf (memOf (prepareAcked g phase s)) = true := by
  unfold prepareAcked
  simp +contextual [h, mem_memOf]

@[simp] theorem remoteEnds_wf (c : Nat) (s : State) (h : Memory.wf (memOf (s)) = true) :
    Memory.wf (memOf (remoteEnds c s)) = true := by
  unfold remoteEnds
  simp [h]

@[simp] theorem remoteCommitted_wf (c : Nat) (s : State) (h : Memory.wf (memOf (s)) = true) :
    Memory.wf (memOf (remoteCommitted c s)) = true := by
  unfold remoteCommitted
  simp [h]

@[simp] theorem remoteAborted_wf (c : Nat) (s : State) (h : Memory.wf (memOf (s)) = true) :
    Memory.wf (memOf (remoteAborted c s)) = true := by
  unfold remoteAborted
  simp [h]

@[simp] theorem planOutcome_wf (o : Fin 64 × Bool) (s : State) (h : Memory.wf (memOf (s)) = true) :
    Memory.wf (memOf (planOutcome o s)) = true := by
  unfold planOutcome
  (repeat' split) <;> simp [h]

@[simp] theorem planMade_wf (outcomes : List (Fin 64 × Bool)) (s : State) (h : Memory.wf (memOf (s)) = true) :
    Memory.wf (memOf (planMade outcomes s)) = true := by
  unfold planMade
  (repeat' split) <;> simp +contextual [h, when_wf, forEach_wf]

@[simp] theorem repairReplied_wf (line : Nat) (data : Option Line) (s : State) (h : Memory.wf (memOf (s)) = true) :
    Memory.wf (memOf (repairReplied line data s)) = true := by
  unfold repairReplied
  (repeat' split) <;> simp [h]

@[simp] theorem railReact_wf (r : Nat) (s : State) (h : Memory.wf (memOf (s)) = true) :
    Memory.wf (memOf (railReact r s)) = true := by
  unfold railReact
  dsimp only
  (repeat' split) <;> simp +contextual [h, mem_memOf, when_wf, forEach_wf]

@[simp] theorem railLost_wf (r : Nat) (s : State) (h : Memory.wf (memOf (s)) = true) :
    Memory.wf (memOf (railLost r s)) = true := by
  unfold railLost
  (repeat' split) <;> simp [h]

@[simp] theorem railDown_wf (r : Nat) (s : State) (h : Memory.wf (memOf (s)) = true) :
    Memory.wf (memOf (railDown r s)) = true := by
  unfold railDown
  exact iteWf (iteWf (goDown_wf _ _ (by simp [h]) fun t ht => advanceDown_wf t ht) (by simp [h]))
    (iteWf (by simp [h]) (iteWf (by simp [h]) (iteWf (by simp [h]) (by simp [h]))))

@[simp] theorem disTimeout_wf (r : Nat) (s : State) (h : Memory.wf (memOf (s)) = true) :
    Memory.wf (memOf (disTimeout r s)) = true := by
  unfold disTimeout
  (repeat' split) <;> simp +contextual [h, mem_memOf, when_wf, forEach_wf]

@[simp] theorem ackFailed_wf (d : Nat) (s : State) (h : Memory.wf (memOf (s)) = true) :
    Memory.wf (memOf (ackFailed d s)) = true := by
  unfold ackFailed
  dsimp only
  (repeat' split) <;> simp +contextual [h, mem_memOf, when_wf, forEach_wf]

@[simp] theorem writeBlkctl_wf (w : Writer) (p v : Nat) (s : State) (h : Memory.wf (memOf (s)) = true) :
    Memory.wf (memOf (writeBlkctl w p v s)) = true := by
  unfold writeBlkctl
  dsimp only
  (repeat' split) <;> simp (maxDischargeDepth := 9) +contextual [h, mem_memOf, when_wf, forEach_wf]

@[simp] theorem writeHeader_wf (w : Writer) (p o v phase : Nat) (s : State) (h : Memory.wf (memOf (s)) = true) :
    Memory.wf (memOf (writeHeader w p o v phase s)) = true := by
  unfold writeHeader
  (repeat' split) <;> simp [h]

@[simp] theorem writeForce_wf (v : Nat) (s : State) (h : Memory.wf (memOf (s)) = true) :
    Memory.wf (memOf (writeForce v s)) = true := by
  unfold writeForce
  (repeat' split) <;> simp [h]

@[simp] theorem writeImage_wf (w : Writer) (addr v phase : Nat) (s : State) (h : Memory.wf (memOf (s)) = true) :
    Memory.wf (memOf (writeImage w addr v phase s)) = true := by
  unfold writeImage
  (repeat' split) <;> simp [h]

@[simp] theorem writeRest_wf (w : Writer) (addr v phase : Nat) (s : State) (h : Memory.wf (memOf (s)) = true) :
    Memory.wf (memOf (writeRest w addr v phase s)) = true := by
  unfold writeRest
  exact iteWf (writeBits_wf _ _ s h (by simp +contextual)) (iteWf (writeBits_wf _ _ s h (by simp +contextual))
    (iteWf h (iteWf (by simp [h]) (iteWf (by simp [h]) (iteWf (by simp [h]) (iteWf (by simp [h])
      (iteWf (writeBits_wf _ _ s h (by simp +contextual)) (iteWf (by simp [h]) (by simp [h])))))))))

@[simp] theorem writeRegister_wf (w : Writer) (addr v phase : Nat) (s : State) (h : Memory.wf (memOf (s)) = true) :
    Memory.wf (memOf (writeRegister w addr v phase s)) = true := by
  unfold writeRegister
  dsimp only
  (repeat' split) <;> simp [h]

@[simp] theorem busWrite_wf (w : Writer) (off : Nat) (eight : Bool) (be data phase : Nat) (s : State) (h : Memory.wf
    (memOf (s)) = true) :
    Memory.wf (memOf (busWrite w off eight be data phase s)) = true := by
  unfold busWrite
  exact iteWf (reach_wf _ _ _ _ s h fun t ht => by simp [ht])
    (when_wf _ _ _ (reach_wf _ _ _ _ s h fun t ht => writeRegister_wf _ _ _ _ t ht) fun u hu =>
      reach_wf _ _ _ _ u hu fun t ht => writeRegister_wf _ _ _ _ t ht)

end Sys2Proof.Machine
end

