-- ==== Sys2Proof/Laws/Raise.lean ====
section
/-! SUPPORT. What a raise does (R400 to R407): the fields it sets, and that a calm one changes nothing else. -/

namespace Sys2Proof.Machine

namespace Changes

variable {ps : List Part} {fs : List Fld} {s t : State} {n : Nat}

/-- `setQueue` changes where the frame names `gq`. -/
theorem setQueue (h : Changes ps fs s t) (hg : .gq ∈ ps) (q : Nat) (f : Gather → Gather) :
    Changes ps fs s (Machine.setQueue q f t) := h.in_gq _ hg

/-- The fields that a push into GQ0 keeps up to date. -/
theorem queueShow0 (h : Changes ps fs s t) (hg : .gq ∈ ps)
    (hf : ∀ f ∈ raiseFields n, f.key ∈ fs.map Fld.key) : Changes ps fs s (queueShow 0 t) := by
  have m : ∀ f ∈ raiseFields n, f.key ∈ fs.map Fld.key := hf
  unfold queueShow queueMarks
  dsimp only
  refine Changes.live (Changes.live (Changes.setQueue (Changes.cond (Changes.cond (Changes.live (Changes.live (Changes.put1 (Changes.set
    (Changes.set (Changes.set h _ _ ?_) _ _ ?_) _ _ ?_) _ _ ?_) _ _ _ ?_) _ _ _ ?_) _ _ ?_) _ _ ?_) hg _ _) _ _ _ ?_) _ _ _ ?_
  all_goals first
    | (intro u hu; refine Changes.inc (Changes.event hu _ _ ?_) _ ?_ <;> exact m _ (by simp [raiseFields]))
    | exact m _ (by simp [raiseFields])

theorem emitWide0 (h : Changes ps fs s t) (hg : .gq ∈ ps)
    (hf : ∀ f ∈ raiseFields n, f.key ∈ fs.map Fld.key) (ws : List (BitVec 16)) (pad : Bool) :
    Changes ps fs s (emitWide 0 ws pad t) := by
  unfold emitWide
  dsimp only
  refine Changes.cond (Changes.set (Changes.setQueue h hg _ _) _ _ (hf _ (by simp [raiseFields]))) _ _ ?_
  intro u hu
  exact Changes.event hu _ _ (hf _ (by simp [raiseFields]))

theorem pushWords0 (h : Changes ps fs s t) (hg : .gq ∈ ps)
    (hf : ∀ f ∈ raiseFields n, f.key ∈ fs.map Fld.key) (ws : List (BitVec 16)) :
    Changes ps fs s (pushWords 0 ws t) := by
  unfold pushWords
  refine Changes.queueShow0 (n := n) (Changes.setQueue (Changes.each (Changes.setQueue h hg _ _) _ _ ?_) hg _ _) hg hf
  intro v _ u hu
  unfold pushWord
  dsimp only
  exact Changes.branch _ (Changes.emitWide0 (n := n) (Changes.setQueue hu hg _ _) hg hf _ _) (Changes.setQueue hu hg _ _)

theorem pushRecord0 (h : Changes ps fs s t) (hg : .gq ∈ ps)
    (hf : ∀ f ∈ raiseFields n, f.key ∈ fs.map Fld.key) (r : List (BitVec 16)) :
    Changes ps fs s (pushRecord 0 r t) := by
  unfold pushRecord
  dsimp only
  refine Changes.branch _ h ?_
  rw [if_neg (by decide)]
  refine Changes.branch _ (Changes.pushWords0 (n := n) (Changes.setQueue h hg _ _) hg hf _) ?_
  exact Changes.event (Changes.inc (Changes.setQueue h hg _ _) _ (hf _ (by simp [raiseFields]))) _ _
    (hf _ (by simp [raiseFields]))

theorem pinPulse (h : Changes ps fs s t) (hp : .pwr ∈ ps)
    (hf : ∀ f ∈ raiseFields n, f.key ∈ fs.map Fld.key) : Changes ps fs s (Machine.pinPulse t) := by
  unfold Machine.pinPulse
  refine Changes.event (Changes.inc (Changes.set (Changes.set (Changes.set (Changes.in_pwr h _ hp) _ _ ?_) _ _ ?_) _ _ ?_) _ ?_) _ _ ?_
    <;> exact hf _ (by simp [raiseFields])

theorem liveFall (h : Changes ps fs s t) (hf : ∀ f ∈ raiseFields n, f.key ∈ fs.map Fld.key) :
    Changes ps fs s (Machine.liveFall n t) := by
  unfold Machine.liveFall
  refine Changes.branch _ h (Changes.cond (Changes.set h _ _ (hf _ (by simp [raiseFields]))) _ _ ?_)
  intro u hu
  exact Changes.event (Changes.set hu _ _ (hf _ (by simp [raiseFields]))) _ _ (hf _ (by simp [raiseFields]))

theorem latchFirst (h : Changes ps fs s t) (hp : .flt ∈ ps)
    (hf : ∀ f ∈ raiseFields n, f.key ∈ fs.map Fld.key) (x : Raise) (sev : Nat) :
    Changes ps fs s (Machine.latchFirst x sev t) := by
  unfold Machine.latchFirst
  refine Changes.branch _ h (Changes.branch _ ?_ ?_)
  · refine Changes.event (Changes.inc (Changes.set h _ _ ?_) _ ?_) _ _ ?_ <;> exact hf _ (by simp [raiseFields])
  · refine Changes.event (Changes.set (Changes.set (Changes.set (Changes.set (Changes.set (Changes.set (Changes.set (Changes.set (Changes.set
      (Changes.set (Changes.in_flt h _ hp) _ _ ?_) _ _ ?_) _ _ ?_) _ _ ?_) _ _ ?_) _ _ ?_) _ _ ?_) _ _ ?_) _ _ ?_) _ _ ?_)
      _ _ ?_ <;> exact hf _ (by simp [raiseFields])

end Changes

/-- A calm raise changes what `raiseParts` and `raiseFields` name, and nothing else. -/
theorem Changes.raise {ps : List Part} {fs : List Fld} {s t : State} (h : Changes ps fs s t) (x : Raise) (hc : Calm x.n t)
    (hp : ∀ p ∈ raiseParts, p ∈ ps) (hf : ∀ f ∈ raiseFields x.n, f.key ∈ fs.map Fld.key) :
    Changes ps fs s (raise x t) := by
  obtain ⟨h334, hsev, hblock, hchip⟩ := hc
  have hne : raiseSev x.n t ≠ 4 := by simp only [raiseSev, h334, if_false]; omega
  have hgq : Part.gq ∈ ps := hp _ (by simp [raiseParts])
  have hflt : Part.flt ∈ ps := hp _ (by simp [raiseParts])
  have hpwr : Part.pwr ∈ ps := hp _ (by simp [raiseParts])
  have hsav : Part.sav ∈ ps := hp _ (by simp [raiseParts])
  unfold Machine.raise
  dsimp only
  refine Changes.branch _ h ?_
  simp only [h334, hne, if_false, decide_false, when_false]
  refine Changes.cond (Changes.cond (Changes.cond (Changes.latchFirst (n := x.n) (Changes.cond (Changes.inc (Changes.set (Changes.set h
    _ _ ?_) _ _ ?_) _ ?_) _ _ ?_) hflt hf _ _) _ _ ?_) _ _ ?_) _ _ ?_
  · exact hf _ (by simp [raiseFields])
  · exact hf _ (by simp [raiseFields])
  · exact hf _ (by simp [raiseFields])
  · intro u hu; exact Changes.set hu _ _ (hf _ (by simp [raiseFields]))
  · intro u hu; exact Changes.pushRecord0 (n := x.n) hu hgq hf _
  · intro u hu
    refine Changes.branch _ (Changes.in_sav hu _ hsav) ?_
    have hact : ∀ a, actAtRaise (raiseSev x.n t) a t = a := fun a => by simp [actAtRaise, hne]
    unfold react
    rw [hact, hblock, hchip]
    simp only [when_false]
    refine Changes.cond (Changes.cond (Changes.cond (Changes.cond hu _ _ ?_) _ _ ?_) _ _ ?_) _ _ ?_
    · intro v hv; exact Changes.event hv _ _ (hf _ (by simp [raiseFields]))
    · intro v hv; exact Changes.emit hv _
    · intro v hv; exact Changes.emit hv _
    · intro v hv; exact Changes.pinPulse (n := x.n) hv hpwr hf
  · intro u hu; exact Changes.liveFall hu hf

end Sys2Proof.Machine
end

