-- ==== Sys2Proof/Laws/Requests.lean ====
section
/-! SUPPORT. The operations that ask for no reaction (R404): every one but the raise of a source and the operations that
may raise one. One lemma per operation, each by the lemmas of the operations it is made of. -/

namespace Sys2Proof.Machine

/-- The reactions that wait. -/
def reqsOf (s : State) : List Req := s.reqs

@[simp] theorem reqsOf_mk (x0 : List (Nat × Nat)) (x1 : List Shadow) (x2 : List Pool) (x3 : Frm) (x4 : Hp) (x5 :
    Dram) (x6 : Mrv) (x7 : Txn) (x8 : Nand) (x9 : Sav) (x10 : Eng) (x11 : Rsr) (x12 : Twn) (x13 : Rng) (x14 : Pwr)
    (x15 : Flt) (x16 : List Gather) (x17 : Car) (x18 : Upd) (x19 : Nat) (x20 : List Req) (x21 : List Out) (x22 : List
    Instr) : reqsOf ⟨x0, x1, x2, x3, x4, x5, x6, x7, x8, x9, x10, x11, x12, x13, x14, x15, x16, x17, x18, x19, x20,
    x21, x22⟩ = x20 := by rfl

theorem reqs_reqsOf (s : State) : s.reqs = reqsOf s := by rfl

@[simp] theorem when_reqsOf (c : Bool) (f : State → State) (s : State) (h : ∀ t : State, reqsOf (f t) = reqsOf t) :
    reqsOf (when c f s) = reqsOf s := by
  cases c
  · rfl
  · exact h s

@[simp] theorem forEach_reqsOf {α : Type} (l : List α) (f : α → State → State) (s : State)
    (h : ∀ a, ∀ t : State, reqsOf (f a t) = reqsOf t) : reqsOf (forEach l f s) = reqsOf s := by
  induction l generalizing s with
  | nil => rfl
  | cons a l ih => exact (ih (f a s)).trans (h a s)

@[simp] theorem ite_reqsOf (c : Prop) [Decidable c] (a b : State) :
    reqsOf (if c then a else b) = if c then reqsOf a else reqsOf b := by
  split <;> rfl

@[simp] theorem set_reqsOf (f : Fld) (v : Nat) (s : State) :
    reqsOf (set f v s) = reqsOf (s) := by
  unfold set
  simp [reqs_reqsOf]

@[simp] theorem put1_reqsOf (f : Fld) (b : Bool) (s : State) :
    reqsOf (put1 f b s) = reqsOf (s) := by
  unfold put1
  simp

@[simp] theorem setInt_reqsOf (f : Fld) (i : Int) (s : State) :
    reqsOf (setInt f i s) = reqsOf (s) := by
  unfold setInt
  simp

@[simp] theorem count_reqsOf (f : Fld) (k : Nat) (s : State) :
    reqsOf (count f k s) = reqsOf (s) := by
  unfold count
  simp

@[simp] theorem inc_reqsOf (f : Fld) (s : State) :
    reqsOf (inc f s) = reqsOf (s) := by
  unfold inc
  simp

@[simp] theorem event_reqsOf (p k : Nat) (s : State) :
    reqsOf (event p k s) = reqsOf (s) := by
  unfold event
  simp

@[simp] theorem live_reqsOf (p k : Nat) (b : Bool) (s : State) :
    reqsOf (live p k b s) = reqsOf (s) := by
  unfold live
  simp

@[simp] theorem werr_reqsOf (bit : Nat → Fld) (w : Writer) (addr : Nat) (s : State) :
    reqsOf (werr bit w addr s) = reqsOf (s) := by
  unfold werr
  simp

@[simp] theorem werrStatic_reqsOf (w : Writer) (addr : Nat) (s : State) :
    reqsOf (werrStatic w addr s) = reqsOf (s) := by
  unfold werrStatic
  simp

@[simp] theorem werrLocked_reqsOf (w : Writer) (addr : Nat) (s : State) :
    reqsOf (werrLocked w addr s) = reqsOf (s) := by
  unfold werrLocked
  simp

@[simp] theorem werrRange_reqsOf (w : Writer) (addr : Nat) (s : State) :
    reqsOf (werrRange w addr s) = reqsOf (s) := by
  unfold werrRange
  simp

@[simp] theorem werrBusy_reqsOf (w : Writer) (addr : Nat) (s : State) :
    reqsOf (werrBusy w addr s) = reqsOf (s) := by
  unfold werrBusy
  simp

@[simp] theorem emit_reqsOf (o : Out) (s : State) :
    reqsOf (emit o s) = reqsOf (s) := by
  unfold emit
  simp [reqs_reqsOf]

@[simp] theorem spend_reqsOf (s : State) :
    reqsOf (spend s) = reqsOf (s) := by
  unfold spend
  simp [reqs_reqsOf]

@[simp] theorem storeSetting_reqsOf (f : Fld) (v : Nat) (s : State) :
    reqsOf (storeSetting f v s) = reqsOf (s) := by
  unfold storeSetting
  simp [reqs_reqsOf]

@[simp] theorem foreignWrite_reqsOf (w : Writer) (s : State) :
    reqsOf (foreignWrite w s) = reqsOf (s) := by
  unfold foreignWrite
  simp

@[simp] theorem darkWrite_reqsOf (w : Writer) (addr : Nat) (s : State) :
    reqsOf (darkWrite w addr s) = reqsOf (s) := by
  unfold darkWrite
  simp

@[simp] theorem reach_reqsOf (w : Writer) (addr data : Nat) (k : State → State) (s : State) (hk : ∀ t : State, reqsOf
    (k t) = reqsOf (t)) :
    reqsOf (reach w addr data k s) = reqsOf (s) := by
  unfold reach
  simp [hk]

@[simp] theorem passCell_reqsOf (ringB : Bool) (src : Nat) (c : Cell) (s : State) :
    reqsOf (passCell ringB src c s) = reqsOf (s) := by
  unfold passCell
  simp

@[simp] theorem sendCell_reqsOf (ringB : Bool) (c : Cell) (s : State) :
    reqsOf (sendCell ringB c s) = reqsOf (s) := by
  unfold sendCell
  simp

@[simp] theorem sendBoth_reqsOf (c : Cell) (s : State) :
    reqsOf (sendBoth c s) = reqsOf (s) := by
  unfold sendBoth
  simp

@[simp] theorem setQueue_reqsOf (q : Nat) (f : Gather → Gather) (s : State) :
    reqsOf (setQueue q f s) = reqsOf (s) := by
  unfold setQueue
  simp [reqs_reqsOf]

@[simp] theorem queueMarks_reqsOf (q : Nat) (s : State) :
    reqsOf (queueMarks q s) = reqsOf (s) := by
  unfold queueMarks
  simp

@[simp] theorem queueCredits_reqsOf (q : Nat) (s : State) :
    reqsOf (queueCredits q s) = reqsOf (s) := by
  unfold queueCredits
  simp

@[simp] theorem queueShow_reqsOf (q : Nat) (s : State) :
    reqsOf (queueShow q s) = reqsOf (s) := by
  unfold queueShow
  simp

@[simp] theorem emitWide_reqsOf (q : Nat) (words : List (BitVec 16)) (pad : Bool) (s : State) :
    reqsOf (emitWide q words pad s) = reqsOf (s) := by
  unfold emitWide
  simp

@[simp] theorem pushWord_reqsOf (q : Nat) (v : BitVec 16) (s : State) :
    reqsOf (pushWord q v s) = reqsOf (s) := by
  unfold pushWord
  simp

@[simp] theorem pushWords_reqsOf (q : Nat) (ws : List (BitVec 16)) (s : State) :
    reqsOf (pushWords q ws s) = reqsOf (s) := by
  unfold pushWords
  simp

@[simp] theorem pushRecord_reqsOf (q : Nat) (rec : List (BitVec 16)) (s : State) :
    reqsOf (pushRecord q rec s) = reqsOf (s) := by
  unfold pushRecord
  simp

@[simp] theorem serveOne_reqsOf (s : State) :
    reqsOf (serveOne s) = reqsOf (s) := by
  unfold serveOne
  (repeat' split) <;> simp

@[simp] theorem serveWaiting_reqsOf (s : State) :
    reqsOf (serveWaiting s) = reqsOf (s) := by
  unfold serveWaiting
  simp

@[simp] theorem flushPacking_reqsOf (q : Nat) (s : State) :
    reqsOf (flushPacking q s) = reqsOf (s) := by
  unfold flushPacking
  simp

@[simp] theorem opRead_reqsOf (q : Nat) (s : State) :
    reqsOf (opRead q s) = reqsOf (s) := by
  unfold opRead
  simp

@[simp] theorem opMark_reqsOf (q : Nat) (s : State) :
    reqsOf (opMark q s) = reqsOf (s) := by
  unfold opMark
  simp

@[simp] theorem opRewind_reqsOf (q : Nat) (s : State) :
    reqsOf (opRewind q s) = reqsOf (s) := by
  unfold opRewind
  simp

@[simp] theorem opRelease_reqsOf (q : Nat) (s : State) :
    reqsOf (opRelease q s) = reqsOf (s) := by
  unfold opRelease
  simp

@[simp] theorem queueReset_reqsOf (q : Nat) (s : State) :
    reqsOf (queueReset q s) = reqsOf (s) := by
  unfold queueReset
  simp

@[simp] theorem faultRecord_reqsOf (n sev : Nat) (injected : Bool) (snap0 snap2 snap3 : Nat) (s : State) :
    reqsOf (faultRecord n sev injected snap0 snap2 snap3 s) = reqsOf (s) := by
  unfold faultRecord
  simp

@[simp] theorem linePoisonedRecord_reqsOf (line finder : Nat) (s : State) :
    reqsOf (linePoisonedRecord line finder s) = reqsOf (s) := by
  unfold linePoisonedRecord
  simp

@[simp] theorem granuleLostRecord_reqsOf (granule cause : Nat) (s : State) :
    reqsOf (granuleLostRecord granule cause s) = reqsOf (s) := by
  unfold granuleLostRecord
  simp

@[simp] theorem undoLostRecord_reqsOf (ctx line : Nat) (s : State) :
    reqsOf (undoLostRecord ctx line s) = reqsOf (s) := by
  unfold undoLostRecord
  simp

@[simp] theorem twinConflictRecord_reqsOf (granules : Nat) (s : State) :
    reqsOf (twinConflictRecord granules s) = reqsOf (s) := by
  unfold twinConflictRecord
  simp

@[simp] theorem rankStateRecord_reqsOf (rank st : Nat) (s : State) :
    reqsOf (rankStateRecord rank st s) = reqsOf (s) := by
  unfold rankStateRecord
  simp

@[simp] theorem trainRecord_reqsOf (ch rank result : Nat) (retrains : Nat) (s : State) :
    reqsOf (trainRecord ch rank result retrains s) = reqsOf (s) := by
  unfold trainRecord
  simp

@[simp] theorem selftestRecord_reqsOf (item result : Nat) (s : State) :
    reqsOf (selftestRecord item result s) = reqsOf (s) := by
  unfold selftestRecord
  simp

@[simp] theorem persistChangeRecord_reqsOf (s : State) :
    reqsOf (persistChangeRecord s) = reqsOf (s) := by
  unfold persistChangeRecord
  simp

@[simp] theorem telemetryRecord_reqsOf (s : State) :
    reqsOf (telemetryRecord s) = reqsOf (s) := by
  unfold telemetryRecord
  simp

@[simp] theorem pinPulse_reqsOf (s : State) :
    reqsOf (pinPulse s) = reqsOf (s) := by
  unfold pinPulse
  simp [reqs_reqsOf]

@[simp] theorem pinFollow_reqsOf (s : State) :
    reqsOf (pinFollow s) = reqsOf (s) := by
  unfold pinFollow
  simp

@[simp] theorem portReadHold_reqsOf (n : Nat) (s : State) :
    reqsOf (portReadHold n s) = reqsOf (s) := by
  unfold portReadHold
  simp

@[simp] theorem latchFirst_reqsOf (x : Raise) (sev : Nat) (s : State) :
    reqsOf (latchFirst x sev s) = reqsOf (s) := by
  unfold latchFirst
  simp [reqs_reqsOf]

@[simp] theorem liveFall_reqsOf (n : Nat) (s : State) :
    reqsOf (liveFall n s) = reqsOf (s) := by
  unfold liveFall
  simp

@[simp] theorem collectorHold_reqsOf (s : State) :
    reqsOf (collectorHold s) = reqsOf (s) := by
  unfold collectorHold
  simp

@[simp] theorem writeByte_reqsOf (a : Nat) (b : Byte) (s : State) :
    reqsOf (writeByte a b s) = reqsOf (s) := by
  unfold writeByte
  simp [reqs_reqsOf]

@[simp] theorem writeLine_reqsOf (line : Nat) (be : BitVec 64) (d : Line) (s : State) :
    reqsOf (writeLine line be d s) = reqsOf (s) := by
  unfold writeLine
  simp

@[simp] theorem setPoisoned_reqsOf (l : List Nat) (s : State) :
    reqsOf (setPoisoned l s) = reqsOf (s) := by
  unfold setPoisoned
  simp [reqs_reqsOf]

@[simp] theorem addPoison_reqsOf (line : Nat) (s : State) :
    reqsOf (addPoison line s) = reqsOf (s) := by
  unfold addPoison
  simp

@[simp] theorem clearPoisonAt_reqsOf (line : Nat) (s : State) :
    reqsOf (clearPoisonAt line s) = reqsOf (s) := by
  unfold clearPoisonAt
  simp

@[simp] theorem follow_reqsOf (f : Fld) (before after : Bool) (s : State) :
    reqsOf (follow f before after s) = reqsOf (s) := by
  unfold follow
  simp

@[simp] theorem groupFollow_reqsOf (k : Nat) (s : State) :
    reqsOf (groupFollow k s) = reqsOf (s) := by
  unfold groupFollow
  simp [reqs_reqsOf]

@[simp] theorem accumFollow_reqsOf (g : Nat) (before after : Bool) (s : State) :
    reqsOf (accumFollow g before after s) = reqsOf (s) := by
  unfold accumFollow
  simp [reqs_reqsOf]

@[simp] theorem placeEntry_reqsOf (g : Nat) (e : Entry) (s : State) :
    reqsOf (placeEntry g e s) = reqsOf (s) := by
  unfold placeEntry
  simp [reqs_reqsOf]

@[simp] theorem putEntry_reqsOf (g : Nat) (e : Entry) (s : State) :
    reqsOf (putEntry g e s) = reqsOf (s) := by
  unfold putEntry
  simp

@[simp] theorem countDirtied_reqsOf (g : Nat) (port : Option Nat) (s : State) :
    reqsOf (countDirtied g port s) = reqsOf (s) := by
  unfold countDirtied
  (repeat' split) <;> simp [reqs_reqsOf]

@[simp] theorem markWrite_reqsOf (g : Nat) (port : Option Nat) (s : State) :
    reqsOf (markWrite g port s) = reqsOf (s) := by
  unfold markWrite
  dsimp only
  (repeat' split) <;> simp

@[simp] theorem forceDirty_reqsOf (g : Nat) (s : State) :
    reqsOf (forceDirty g s) = reqsOf (s) := by
  unfold forceDirty
  (repeat' split) <;> simp

@[simp] theorem markLost_reqsOf (g cause : Nat) (s : State) :
    reqsOf (markLost g cause s) = reqsOf (s) := by
  unfold markLost
  simp

@[simp] theorem startFullRecount_reqsOf (byEcc : Bool) (s : State) :
    reqsOf (startFullRecount byEcc s) = reqsOf (s) := by
  unfold startFullRecount
  simp [reqs_reqsOf]

@[simp] theorem unsealAll_reqsOf (s : State) :
    reqsOf (unsealAll s) = reqsOf (s) := by
  unfold unsealAll
  simp [reqs_reqsOf]

@[simp] theorem setPool_reqsOf (a : Nat) (f : Pool → Pool) (s : State) :
    reqsOf (setPool a f s) = reqsOf (s) := by
  unfold setPool
  simp [reqs_reqsOf]

@[simp] theorem clearPools_reqsOf (p : Nat) (s : State) :
    reqsOf (clearPools p s) = reqsOf (s) := by
  unfold clearPools
  simp [reqs_reqsOf]

@[simp] theorem stallOn_reqsOf (a : Nat) (s : State) :
    reqsOf (stallOn a s) = reqsOf (s) := by
  unfold stallOn
  simp

@[simp] theorem withCredit_reqsOf (a : Nat) (reserved : Bool) (f : State → State) (s : State) (hf : ∀ t : State,
    reqsOf (f t) = reqsOf (t)) :
    reqsOf (withCredit a reserved f s) = reqsOf (s) := by
  unfold withCredit
  simp [hf]

@[simp] theorem setOps_reqsOf (ch die : Nat) (l : List DieOp) (s : State) :
    reqsOf (setOps ch die l s) = reqsOf (s) := by
  unfold setOps
  simp [reqs_reqsOf]

@[simp] theorem issueOp_reqsOf (ch die : Nat) (op : DieOp) (s : State) :
    reqsOf (issueOp ch die op s) = reqsOf (s) := by
  unfold issueOp
  simp

@[simp] theorem queueOp_reqsOf (ch die : Nat) (op : DieOp) (s : State) :
    reqsOf (queueOp ch die op s) = reqsOf (s) := by
  unfold queueOp
  (repeat' split) <;> simp

@[simp] theorem endOp_reqsOf (ch die : Nat) (kind : DieOpKind) (what : Nat) (s : State) :
    reqsOf (endOp ch die kind what s) = reqsOf (s) := by
  unfold endOp
  (repeat' split) <;> simp

@[simp] theorem dropOp_reqsOf (ch die : Nat) (kind : DieOpKind) (what : Nat) (s : State) :
    reqsOf (dropOp ch die kind what s) = reqsOf (s) := by
  unfold dropOp
  simp

@[simp] theorem readRecord_reqsOf (r : SealRec) (urgent : Bool) (s : State) :
    reqsOf (readRecord r urgent s) = reqsOf (s) := by
  unfold readRecord
  simp

@[simp] theorem recordRead_reqsOf (r : SealRec) (s : State) :
    reqsOf (recordRead r s) = reqsOf (s) := by
  unfold recordRead
  simp

@[simp] theorem urgentRead_reqsOf (g : Nat) (s : State) :
    reqsOf (urgentRead g s) = reqsOf (s) := by
  unfold urgentRead
  (repeat' split) <;> simp

@[simp] theorem urgentEnds_reqsOf (g : Nat) (s : State) :
    reqsOf (urgentEnds g s) = reqsOf (s) := by
  unfold urgentEnds
  (repeat' split) <;> simp

@[simp] theorem depthShow_reqsOf (ch : Nat) (s : State) :
    reqsOf (depthShow ch s) = reqsOf (s) := by
  unfold depthShow
  simp

@[simp] theorem setWrites_reqsOf (l : List WEntry) (s : State) :
    reqsOf (setWrites l s) = reqsOf (s) := by
  unfold setWrites
  simp [reqs_reqsOf]

@[simp] theorem setReads_reqsOf (l : List REntry) (s : State) :
    reqsOf (setReads l s) = reqsOf (s) := by
  unfold setReads
  simp [reqs_reqsOf]

@[simp] theorem noteRepair_reqsOf (line : Nat) (be : BitVec 64) (s : State) :
    reqsOf (noteRepair line be s) = reqsOf (s) := by
  unfold noteRepair
  simp [reqs_reqsOf]

@[simp] theorem queueWrite_reqsOf (line : Nat) (be : BitVec 64) (data : Line) (poison : Bool) (s : State) :
    reqsOf (queueWrite line be data poison s) = reqsOf (s) := by
  unfold queueWrite
  simp

@[simp] theorem landWrite_reqsOf (e : WEntry) (s : State) :
    reqsOf (landWrite e s) = reqsOf (s) := by
  unfold landWrite
  simp

@[simp] theorem drainWrites_reqsOf (s : State) :
    reqsOf (drainWrites s) = reqsOf (s) := by
  unfold drainWrites
  simp

@[simp] theorem sendRefresh_reqsOf (ch : Nat) (kind : String) (s : State) :
    reqsOf (sendRefresh ch kind s) = reqsOf (s) := by
  unfold sendRefresh
  simp [reqs_reqsOf]

@[simp] theorem payRefresh_reqsOf (ch : Nat) (s : State) :
    reqsOf (payRefresh ch s) = reqsOf (s) := by
  unfold payRefresh
  simp

@[simp] theorem repayRefresh_reqsOf (ch : Nat) (s : State) :
    reqsOf (repayRefresh ch s) = reqsOf (s) := by
  unfold repayRefresh
  simp

@[simp] theorem enterSelfRefresh_reqsOf (s : State) :
    reqsOf (enterSelfRefresh s) = reqsOf (s) := by
  unfold enterSelfRefresh
  simp [reqs_reqsOf]

@[simp] theorem queueRead_reqsOf (line : Nat) (who : Reader) (s : State) :
    reqsOf (queueRead line who s) = reqsOf (s) := by
  unfold queueRead
  simp

@[simp] theorem askPartials_reqsOf (ch sub : Nat) (s : State) :
    reqsOf (askPartials ch sub s) = reqsOf (s) := by
  unfold askPartials
  simp

@[simp] theorem partialReady_reqsOf (line : Nat) (s : State) :
    reqsOf (partialReady line s) = reqsOf (s) := by
  unfold partialReady
  simp

@[simp] theorem dropRead_reqsOf (p : REntry → Bool) (s : State) :
    reqsOf (dropRead p s) = reqsOf (s) := by
  unfold dropRead
  simp

@[simp] theorem logEvent_reqsOf (type : Nat) (words : List Nat) (s : State) :
    reqsOf (logEvent type words s) = reqsOf (s) := by
  unfold logEvent
  simp [reqs_reqsOf]

@[simp] theorem setRank_reqsOf (i st : Nat) (s : State) :
    reqsOf (setRank i st s) = reqsOf (s) := by
  unfold setRank
  simp [reqs_reqsOf]

@[simp] theorem setMigWaiting_reqsOf (l : List Nat) (s : State) :
    reqsOf (setMigWaiting l s) = reqsOf (s) := by
  unfold setMigWaiting
  simp [reqs_reqsOf]

@[simp] theorem assignSpare_reqsOf (m : Nat) (d : Nat × Nat) (s : State) :
    reqsOf (assignSpare m d s) = reqsOf (s) := by
  unfold assignSpare
  simp

@[simp] theorem freeSpareOf_reqsOf (i : Nat) (s : State) :
    reqsOf (freeSpareOf i s) = reqsOf (s) := by
  unfold freeSpareOf
  (repeat' split) <;> simp

@[simp] theorem etaShow_reqsOf (s : State) :
    reqsOf (etaShow s) = reqsOf (s) := by
  unfold etaShow
  simp

@[simp] theorem startMigration_reqsOf (s : State) :
    reqsOf (startMigration s) = reqsOf (s) := by
  unfold startMigration
  (repeat' split) <;> simp

@[simp] theorem lastUe_reqsOf (line : Nat) (finder : Nat) (s : State) :
    reqsOf (lastUe line finder s) = reqsOf (s) := by
  unfold lastUe
  simp

@[simp] theorem sendTwin_reqsOf (kind : String) (words : List Nat) (s : State) :
    reqsOf (sendTwin kind words s) = reqsOf (s) := by
  unfold sendTwin
  simp

@[simp] theorem twinIndicate_reqsOf (s : State) :
    reqsOf (twinIndicate s) = reqsOf (s) := by
  unfold twinIndicate
  simp [reqs_reqsOf]

@[simp] theorem setTwinState_reqsOf (st : Nat) (s : State) :
    reqsOf (setTwinState st s) = reqsOf (s) := by
  unfold setTwinState
  simp

@[simp] theorem setGen_reqsOf (f : Fld) (v : Nat) (s : State) :
    reqsOf (setGen f v s) = reqsOf (s) := by
  unfold setGen
  simp

@[simp] theorem sealN_reqsOf (s : State) :
    reqsOf (sealN s) = reqsOf (s) := by
  unfold sealN
  simp

@[simp] theorem homeGenWrite_reqsOf (g : Nat) (s : State) :
    reqsOf (homeGenWrite g s) = reqsOf (s) := by
  unfold homeGenWrite
  simp [reqs_reqsOf]

@[simp] theorem sendMirror_reqsOf (line : Nat) (be : BitVec 64) (data : Line) (ctx : Option Nat) (s : State) :
    reqsOf (sendMirror line be data ctx s) = reqsOf (s) := by
  unfold sendMirror
  simp [reqs_reqsOf]

@[simp] theorem noteWrite_reqsOf (line : Nat) (be : BitVec 64) (data : Line) (port : Option Nat) (ctx : Option Nat)
    (s : State) :
    reqsOf (noteWrite line be data port ctx s) = reqsOf (s) := by
  unfold noteWrite
  simp

@[simp] theorem setTwinDirty_reqsOf (g : Nat) (s : State) :
    reqsOf (setTwinDirty g s) = reqsOf (s) := by
  unfold setTwinDirty
  simp

@[simp] theorem stopMirroring_reqsOf (s : State) :
    reqsOf (stopMirroring s) = reqsOf (s) := by
  unfold stopMirroring
  simp [reqs_reqsOf]

@[simp] theorem releaseMirrorWaits_reqsOf (s : State) :
    reqsOf (releaseMirrorWaits s) = reqsOf (s) := by
  unfold releaseMirrorWaits
  simp [reqs_reqsOf]

@[simp] theorem releasePrepares_reqsOf (s : State) :
    reqsOf (releasePrepares s) = reqsOf (s) := by
  unfold releasePrepares
  simp [reqs_reqsOf]

@[simp] theorem leaveTwin_reqsOf (st : Nat) (s : State) :
    reqsOf (leaveTwin st s) = reqsOf (s) := by
  unfold leaveTwin
  simp

@[simp] theorem retrainPunty_reqsOf (s : State) :
    reqsOf (retrainPunty s) = reqsOf (s) := by
  unfold retrainPunty
  simp

@[simp] theorem spendLine_reqsOf (s : State) :
    reqsOf (spendLine s) = reqsOf (s) := by
  unfold spendLine
  simp [reqs_reqsOf]

@[simp] theorem serveReads_reqsOf (line : Nat) (s : State) :
    reqsOf (serveReads line s) = reqsOf (s) := by
  unfold serveReads
  simp [reqs_reqsOf]

@[simp] theorem endReads_reqsOf (line : Nat) (s : State) :
    reqsOf (endReads line s) = reqsOf (s) := by
  unfold endReads
  simp

@[simp] theorem dropRepair_reqsOf (line : Nat) (s : State) :
    reqsOf (dropRepair line s) = reqsOf (s) := by
  unfold dropRepair
  simp [reqs_reqsOf]

@[simp] theorem addRepair_reqsOf (r : Repair) (s : State) :
    reqsOf (addRepair r s) = reqsOf (s) := by
  unfold addRepair
  simp [reqs_reqsOf]

@[simp] theorem placeRepair_reqsOf (line : Nat) (d : Line) (s : State) :
    reqsOf (placeRepair line d s) = reqsOf (s) := by
  unfold placeRepair
  simp

@[simp] theorem repaired_reqsOf (line : Nat) (d : Line) (fromTwin : Bool) (s : State) :
    reqsOf (repaired line d fromTwin s) = reqsOf (s) := by
  unfold repaired
  simp

@[simp] theorem overtakeRepair_reqsOf (line : Nat) (s : State) :
    reqsOf (overtakeRepair line s) = reqsOf (s) := by
  unfold overtakeRepair
  simp

@[simp] theorem ctxResult_reqsOf (g r : Nat) (s : State) :
    reqsOf (ctxResult g r s) = reqsOf (s) := by
  unfold ctxResult
  simp

@[simp] theorem ctxFrame_reqsOf (g f : Nat) (s : State) :
    reqsOf (ctxFrame g f s) = reqsOf (s) := by
  unfold ctxFrame
  simp

@[simp] theorem txnShow_reqsOf (s : State) :
    reqsOf (txnShow s) = reqsOf (s) := by
  unfold txnShow
  simp

@[simp] theorem replayShow_reqsOf (s : State) :
    reqsOf (replayShow s) = reqsOf (s) := by
  unfold replayShow
  simp

@[simp] theorem setCtxState_reqsOf (g st : Nat) (s : State) :
    reqsOf (setCtxState g st s) = reqsOf (s) := by
  unfold setCtxState
  simp

@[simp] theorem noteEnd_reqsOf (g : Nat) (s : State) :
    reqsOf (noteEnd g s) = reqsOf (s) := by
  unfold noteEnd
  simp [reqs_reqsOf]

@[simp] theorem setPairs_reqsOf (l : List Pair) (s : State) :
    reqsOf (setPairs l s) = reqsOf (s) := by
  unfold setPairs
  simp [reqs_reqsOf]

@[simp] theorem holdPair_reqsOf (c g : Nat) (s : State) :
    reqsOf (holdPair c g s) = reqsOf (s) := by
  unfold holdPair
  simp

@[simp] theorem logLine_reqsOf (c line : Nat) (s : State) :
    reqsOf (logLine c line s) = reqsOf (s) := by
  unfold logLine
  dsimp only
  (repeat' split) <;> simp

@[simp] theorem startAbort_reqsOf (g : Nat) (s : State) :
    reqsOf (startAbort g s) = reqsOf (s) := by
  unfold startAbort
  simp [reqs_reqsOf]

@[simp] theorem putLine_reqsOf (line : Nat) (d : Line) (poison : Bool) (s : State) :
    reqsOf (putLine line d poison s) = reqsOf (s) := by
  unfold putLine
  simp

@[simp] theorem dropUndo_reqsOf (c g line : Nat) (s : State) :
    reqsOf (dropUndo c g line s) = reqsOf (s) := by
  unfold dropUndo
  simp

@[simp] theorem clearColumn_reqsOf (c : Nat) (s : State) :
    reqsOf (clearColumn c s) = reqsOf (s) := by
  unfold clearColumn
  simp

@[simp] theorem voidUndo_reqsOf (c : Nat) (s : State) :
    reqsOf (voidUndo c s) = reqsOf (s) := by
  unfold voidUndo
  simp

@[simp] theorem finishReplay_reqsOf (g : Nat) (s : State) :
    reqsOf (finishReplay g s) = reqsOf (s) := by
  unfold finishReplay
  simp [reqs_reqsOf]

@[simp] theorem discardRequest_reqsOf (g : Nat) (s : State) :
    reqsOf (discardRequest g s) = reqsOf (s) := by
  unfold discardRequest
  simp [reqs_reqsOf]

@[simp] theorem enterDoubt_reqsOf (g : Nat) (s : State) :
    reqsOf (enterDoubt g s) = reqsOf (s) := by
  unfold enterDoubt
  simp

@[simp] theorem setMaskBit_reqsOf (lo hi : Fld) (c : Nat) (b : Bool) (s : State) :
    reqsOf (setMaskBit lo hi c b s) = reqsOf (s) := by
  unfold setMaskBit
  simp

@[simp] theorem setRemoteOpen_reqsOf (c : Nat) (b : Bool) (s : State) :
    reqsOf (setRemoteOpen c b s) = reqsOf (s) := by
  unfold setRemoteOpen
  simp

@[simp] theorem setRemotePrepared_reqsOf (c : Nat) (b : Bool) (s : State) :
    reqsOf (setRemotePrepared c b s) = reqsOf (s) := by
  unfold setRemotePrepared
  simp

@[simp] theorem endRemote_reqsOf (c : Nat) (s : State) :
    reqsOf (endRemote c s) = reqsOf (s) := by
  unfold endRemote
  simp [reqs_reqsOf]

@[simp] theorem logDecision_reqsOf (e : LogEntry) (s : State) :
    reqsOf (logDecision e s) = reqsOf (s) := by
  unfold logDecision
  simp [reqs_reqsOf]

@[simp] theorem recordFor_reqsOf (g : Nat) (commit : Bool) (tick : Nat) (s : State) :
    reqsOf (recordFor g commit tick s) = reqsOf (s) := by
  unfold recordFor
  simp [reqs_reqsOf]

@[simp] theorem forgetBallot_reqsOf (g : Nat) (s : State) :
    reqsOf (forgetBallot g s) = reqsOf (s) := by
  unfold forgetBallot
  simp [reqs_reqsOf]

@[simp] theorem countDirtyShutdown_reqsOf (s : State) :
    reqsOf (countDirtyShutdown s) = reqsOf (s) := by
  unfold countDirtyShutdown
  simp [reqs_reqsOf]

@[simp] theorem setBlock_reqsOf (l : Loc) (b : Block) (s : State) :
    reqsOf (setBlock l b s) = reqsOf (s) := by
  unfold setBlock
  simp [reqs_reqsOf]

@[simp] theorem openBlock_reqsOf (ch die : Nat) (s : State) :
    reqsOf (openBlock ch die s) = reqsOf (s) := by
  unfold openBlock
  (repeat' split) <;> simp [reqs_reqsOf]

@[simp] theorem appendPoint_reqsOf (ch die : Nat) (s : State) :
    reqsOf (appendPoint ch die s) = reqsOf (s) := by
  unfold appendPoint
  (repeat' split) <;> simp

@[simp] theorem usePage_reqsOf (ch die : Nat) (s : State) :
    reqsOf (usePage ch die s) = reqsOf (s) := by
  unfold usePage
  simp

@[simp] theorem placePages_reqsOf (ch die n : Nat) (isSeal : Bool) (s : State) :
    reqsOf (placePages ch die n isSeal s) = reqsOf (s) := by
  unfold placePages
  simp [reqs_reqsOf]

@[simp] theorem unqueue_reqsOf (ch n : Nat) (s : State) :
    reqsOf (unqueue ch n s) = reqsOf (s) := by
  unfold unqueue
  simp [reqs_reqsOf]

@[simp] theorem setDelta_reqsOf (l : List Delta) (s : State) :
    reqsOf (setDelta l s) = reqsOf (s) := by
  unfold setDelta
  simp [reqs_reqsOf]

@[simp] theorem enterDelta_reqsOf (g gen : Nat) (confirm : Bool) (loc : Nat) (s : State) :
    reqsOf (enterDelta g gen confirm loc s) = reqsOf (s) := by
  unfold enterDelta
  simp [reqs_reqsOf]

@[simp] theorem startSeal_reqsOf (g ch die : Nat) (bySave : Bool) (poison : List Nat) (s : State) :
    reqsOf (startSeal g ch die bySave poison s) = reqsOf (s) := by
  unfold startSeal
  simp [reqs_reqsOf]

@[simp] theorem dropSealing_reqsOf (g : Nat) (s : State) :
    reqsOf (dropSealing g s) = reqsOf (s) := by
  unfold dropSealing
  simp [reqs_reqsOf]

@[simp] theorem countSealed_reqsOf (s : State) :
    reqsOf (countSealed s) = reqsOf (s) := by
  unfold countSealed
  simp [reqs_reqsOf]

@[simp] theorem endSeal_reqsOf (r : SealRec) (s : State) :
    reqsOf (endSeal r s) = reqsOf (s) := by
  unfold endSeal
  dsimp only
  (repeat' split) <;> simp [reqs_reqsOf]

@[simp] theorem abandonSeal_reqsOf (g : Nat) (s : State) :
    reqsOf (abandonSeal g s) = reqsOf (s) := by
  unfold abandonSeal
  (repeat' split) <;> simp

@[simp] theorem programRecord_reqsOf (b : RecBody) (bySave : Bool) (s : State) :
    reqsOf (programRecord b bySave s) = reqsOf (s) := by
  unfold programRecord
  dsimp only
  (repeat' split) <;> simp [reqs_reqsOf]

@[simp] theorem abandonAll_reqsOf (s : State) :
    reqsOf (abandonAll s) = reqsOf (s) := by
  unfold abandonAll
  simp

@[simp] theorem culletShow_reqsOf (s : State) :
    reqsOf (culletShow s) = reqsOf (s) := by
  unfold culletShow
  dsimp only
  (repeat' split) <;> simp

@[simp] theorem poolShow_reqsOf (s : State) :
    reqsOf (poolShow s) = reqsOf (s) := by
  unfold poolShow
  simp

@[simp] theorem dieGood_reqsOf (ch die : Nat) (s : State) :
    reqsOf (dieGood ch die s) = reqsOf (s) := by
  unfold dieGood
  simp [reqs_reqsOf]

@[simp] theorem startMove_reqsOf (r : SealRec) (ch die : Nat) (s : State) :
    reqsOf (startMove r ch die s) = reqsOf (s) := by
  unfold startMove
  simp [reqs_reqsOf]

@[simp] theorem dropMoves_reqsOf (s : State) :
    reqsOf (dropMoves s) = reqsOf (s) := by
  unfold dropMoves
  refine (forEach_reqsOf _ _ _ fun r t => ?_).trans ?_
  all_goals (try dsimp only)
  all_goals ((repeat' split) <;> simp [reqs_reqsOf])

@[simp] theorem eraseAnchor_reqsOf (ch : Nat) (a : Anchor) (s : State) :
    reqsOf (eraseAnchor ch a s) = reqsOf (s) := by
  unfold eraseAnchor
  (repeat' split) <;> simp [reqs_reqsOf]

@[simp] theorem manifestShow_reqsOf (s : State) :
    reqsOf (manifestShow s) = reqsOf (s) := by
  unfold manifestShow
  simp

@[simp] theorem programManifest_reqsOf (m : Manifest) (a b : Bool) (s : State) :
    reqsOf (programManifest m a b s) = reqsOf (s) := by
  unfold programManifest
  simp [reqs_reqsOf]

@[simp] theorem writeMap_reqsOf (n : Nat) (p : Nat) (s : State) :
    reqsOf (writeMap n p s) = reqsOf (s) := by
  unfold writeMap
  simp

@[simp] theorem writeDelta_reqsOf (bySave : Bool) (s : State) :
    reqsOf (writeDelta bySave s) = reqsOf (s) := by
  unfold writeDelta
  simp [reqs_reqsOf]

@[simp] theorem writeDirectory_reqsOf (bySave : Bool) (s : State) :
    reqsOf (writeDirectory bySave s) = reqsOf (s) := by
  unfold writeDirectory
  simp

@[simp] theorem writeCullet_reqsOf (bySave : Bool) (s : State) :
    reqsOf (writeCullet bySave s) = reqsOf (s) := by
  unfold writeCullet
  simp

@[simp] theorem setStage_reqsOf (n : Nat) (s : State) :
    reqsOf (setStage n s) = reqsOf (s) := by
  unfold setStage
  simp

@[simp] theorem clearRange_reqsOf (lo n : Nat) (keep : Nat → Bool) (s : State) :
    reqsOf (clearRange lo n keep s) = reqsOf (s) := by
  unfold clearRange
  simp [reqs_reqsOf]

@[simp] theorem loadImage_reqsOf (g : Nat) (image : List Host.Cell) (poison : List Nat) (keep : Nat → Bool) (s :
    State) :
    reqsOf (loadImage g image poison keep s) = reqsOf (s) := by
  unfold loadImage
  simp

@[simp] theorem poisonGranule_reqsOf (g : Nat) (keep : Nat → Bool) (s : State) :
    reqsOf (poisonGranule g keep s) = reqsOf (s) := by
  unfold poisonGranule
  simp

@[simp] theorem setInflight_reqsOf (l : List (Nat × Flight)) (s : State) :
    reqsOf (setInflight l s) = reqsOf (s) := by
  unfold setInflight
  simp [reqs_reqsOf]

@[simp] theorem markRestored_reqsOf (g : Nat) (s : State) :
    reqsOf (markRestored g s) = reqsOf (s) := by
  unfold markRestored
  simp [reqs_reqsOf]

@[simp] theorem demandFetch_reqsOf (g : Nat) (s : State) :
    reqsOf (demandFetch g s) = reqsOf (s) := by
  unfold demandFetch
  simp

@[simp] theorem sweepFetch_reqsOf (g : Nat) (s : State) :
    reqsOf (sweepFetch g s) = reqsOf (s) := by
  unfold sweepFetch
  dsimp only
  (repeat' split) <;> simp

@[simp] theorem sweep_reqsOf (x0 : Nat) (s : State) :
    reqsOf (sweep x0 s) = reqsOf (s) := by
  induction x0 generalizing s with
  | zero => simp [sweep]
  | succ k ih =>
    unfold sweep
    (repeat' split) <;> simp [ih, reqs_reqsOf]

@[simp] theorem slotWrite_reqsOf (g line : Nat) (s : State) :
    reqsOf (slotWrite g line s) = reqsOf (s) := by
  unfold slotWrite
  (repeat' split) <;> simp

@[simp] theorem loadContext_reqsOf (c : SavedCtx) (s : State) :
    reqsOf (loadContext c s) = reqsOf (s) := by
  unfold loadContext
  simp [reqs_reqsOf]

@[simp] theorem loadSlab_reqsOf (p : SavedPair) (s : State) :
    reqsOf (loadSlab p s) = reqsOf (s) := by
  unfold loadSlab
  simp

@[simp] theorem loadHold_reqsOf (cs : List SavedCtx) (ps : List SavedPair) (s : State) :
    reqsOf (loadHold cs ps s) = reqsOf (s) := by
  unfold loadHold
  simp

@[simp] theorem loadLog_reqsOf (l : List LogEntry) (s : State) :
    reqsOf (loadLog l s) = reqsOf (s) := by
  unfold loadLog
  simp [reqs_reqsOf]

@[simp] theorem beginRollback_reqsOf (s : State) :
    reqsOf (beginRollback s) = reqsOf (s) := by
  unfold beginRollback
  simp [reqs_reqsOf]

@[simp] theorem rebuildCounts_reqsOf (s : State) :
    reqsOf (rebuildCounts s) = reqsOf (s) := by
  unfold rebuildCounts
  simp [reqs_reqsOf]

@[simp] theorem loadGather_reqsOf (m : Manifest) (s : State) :
    reqsOf (loadGather m s) = reqsOf (s) := by
  unfold loadGather
  split
  · simp
  · refine (forEach_reqsOf _ _ _ fun r t => ?_).trans ?_
    all_goals (try dsimp only)
    all_goals ((repeat' split) <;> simp [reqs_reqsOf])

@[simp] theorem loseMoved_reqsOf (s : State) :
    reqsOf (loseMoved s) = reqsOf (s) := by
  unfold loseMoved
  simp

@[simp] theorem dropRecord_reqsOf (g : Nat) (s : State) :
    reqsOf (dropRecord g s) = reqsOf (s) := by
  unfold dropRecord
  simp [reqs_reqsOf]

@[simp] theorem loseUnsealed_reqsOf (g : Nat) (s : State) :
    reqsOf (loseUnsealed g s) = reqsOf (s) := by
  unfold loseUnsealed
  simp [reqs_reqsOf]

@[simp] theorem loadMetadata_reqsOf (m : Manifest) (s : State) :
    reqsOf (loadMetadata m s) = reqsOf (s) := by
  unfold loadMetadata
  simp [reqs_reqsOf]

@[simp] theorem lostRecords_reqsOf (x0 : Nat) (x1 : List (Nat × Nat)) (s : State) :
    reqsOf (lostRecords x0 x1 s) = reqsOf (s) := by
  induction x0 generalizing x1 s with
  | zero => simp [lostRecords]
  | succ k ih =>
    unfold lostRecords
    split
    · simp
    · simp [ih]

@[simp] theorem contextRecord_reqsOf (os : List CtxOutcome) (s : State) :
    reqsOf (contextRecord os s) = reqsOf (s) := by
  unfold contextRecord
  simp

@[simp] theorem continuityShow_reqsOf (s : State) :
    reqsOf (continuityShow s) = reqsOf (s) := by
  unfold continuityShow
  simp

@[simp] theorem publishContinuity_reqsOf (warm : Bool) (s : State) :
    reqsOf (publishContinuity warm s) = reqsOf (s) := by
  unfold publishContinuity
  simp [reqs_reqsOf]

@[simp] theorem addOutcome_reqsOf (g code : Nat) (s : State) :
    reqsOf (addOutcome g code s) = reqsOf (s) := by
  unfold addOutcome
  simp [reqs_reqsOf]

@[simp] theorem publishOutcome_reqsOf (g code : Nat) (s : State) :
    reqsOf (publishOutcome g code s) = reqsOf (s) := by
  unfold publishOutcome
  simp

@[simp] theorem writeRunRecord_reqsOf (s : State) :
    reqsOf (writeRunRecord s) = reqsOf (s) := by
  unfold writeRunRecord
  simp [reqs_reqsOf]

@[simp] theorem mediaShow_reqsOf (n : Nat) (s : State) :
    reqsOf (mediaShow n s) = reqsOf (s) := by
  unfold mediaShow
  simp

@[simp] theorem mediaAll_reqsOf (s : State) :
    reqsOf (mediaAll s) = reqsOf (s) := by
  unfold mediaAll
  simp

@[simp] theorem portsOpen_reqsOf (s : State) :
    reqsOf (portsOpen s) = reqsOf (s) := by
  unfold portsOpen
  simp

@[simp] theorem admitHost_reqsOf (s : State) :
    reqsOf (admitHost s) = reqsOf (s) := by
  unfold admitHost
  simp [reqs_reqsOf]

@[simp] theorem chooseMode_reqsOf (s : State) :
    reqsOf (chooseMode s) = reqsOf (s) := by
  unfold chooseMode
  simp [reqs_reqsOf]

@[simp] theorem restartRestore_reqsOf (s : State) :
    reqsOf (restartRestore s) = reqsOf (s) := by
  unfold restartRestore
  simp [reqs_reqsOf]

@[simp] theorem wipePage_reqsOf (p : Nat) (keep : List Nat) (s : State) :
    reqsOf (wipePage p keep s) = reqsOf (s) := by
  unfold wipePage
  simp [reqs_reqsOf]

@[simp] theorem reloadStored_reqsOf (p : Nat) (s : State) :
    reqsOf (reloadStored p s) = reqsOf (s) := by
  unfold reloadStored
  simp [reqs_reqsOf]

@[simp] theorem capDefaults_reqsOf (s : State) :
    reqsOf (capDefaults s) = reqsOf (s) := by
  unfold capDefaults
  simp

@[simp] theorem pairMax_reqsOf (s : State) :
    reqsOf (pairMax s) = reqsOf (s) := by
  unfold pairMax
  simp

@[simp] theorem popDefaults_reqsOf (p : Nat) (s : State) :
    reqsOf (popDefaults p s) = reqsOf (s) := by
  unfold popDefaults
  simp

@[simp] theorem freshPage_reqsOf (p : Nat) (keep : List Nat) (s : State) :
    reqsOf (freshPage p keep s) = reqsOf (s) := by
  unfold freshPage
  simp

@[simp] theorem wipeDomain_reqsOf (d : Nat) (s : State) :
    reqsOf (wipeDomain d s) = reqsOf (s) := by
  unfold wipeDomain
  simp

@[simp] theorem setDomain_reqsOf (d st : Nat) (s : State) :
    reqsOf (setDomain d st s) = reqsOf (s) := by
  unfold setDomain
  simp

@[simp] theorem portForget_reqsOf (n : Nat) (s : State) :
    reqsOf (portForget n s) = reqsOf (s) := by
  unfold portForget
  simp [reqs_reqsOf]

@[simp] theorem setViral_reqsOf (n : Nat) (on : Bool) (s : State) :
    reqsOf (setViral n on s) = reqsOf (s) := by
  unfold setViral
  simp [reqs_reqsOf]

@[simp] theorem portLinkDown_reqsOf (n : Nat) (s : State) :
    reqsOf (portLinkDown n s) = reqsOf (s) := by
  unfold portLinkDown
  simp

@[simp] theorem putBit_reqsOf (f : Fld) (k : Nat) (b : Bool) (s : State) :
    reqsOf (putBit f k b s) = reqsOf (s) := by
  unfold putBit
  simp

@[simp] theorem pllGone_reqsOf (d : Nat) (s : State) :
    reqsOf (pllGone d s) = reqsOf (s) := by
  unfold pllGone
  (repeat' split) <;> simp [reqs_reqsOf]

@[simp] theorem abortsEnd_reqsOf (d : Nat) (s : State) :
    reqsOf (abortsEnd d s) = reqsOf (s) := by
  unfold abortsEnd
  simp [reqs_reqsOf]

@[simp] theorem domainUp_reqsOf (d : Nat) (s : State) :
    reqsOf (domainUp d s) = reqsOf (s) := by
  unfold domainUp
  simp [reqs_reqsOf]

@[simp] theorem domainsUp_reqsOf (s : State) :
    reqsOf (domainsUp s) = reqsOf (s) := by
  unfold domainsUp
  simp

@[simp] theorem setPhase_reqsOf (r : Nat) (p : RailPhase) (s : State) :
    reqsOf (setPhase r p s) = reqsOf (s) := by
  unfold setPhase
  simp [reqs_reqsOf]

@[simp] theorem railFail_reqsOf (r cause step : Nat) (s : State) :
    reqsOf (railFail r cause step s) = reqsOf (s) := by
  unfold railFail
  simp

@[simp] theorem rankLost_reqsOf (i : Nat) (s : State) :
    reqsOf (rankLost i s) = reqsOf (s) := by
  unfold rankLost
  simp [reqs_reqsOf]

@[simp] theorem ranksLost_reqsOf (r : Nat) (s : State) :
    reqsOf (ranksLost r s) = reqsOf (s) := by
  unfold ranksLost
  simp

@[simp] theorem cutRail_reqsOf (r : Nat) (forced : Bool) (s : State) :
    reqsOf (cutRail r forced s) = reqsOf (s) := by
  unfold cutRail
  simp [reqs_reqsOf]

@[simp] theorem startDown_reqsOf (s : State) :
    reqsOf (startDown s) = reqsOf (s) := by
  unfold startDown
  simp [reqs_reqsOf]

@[simp] theorem enableRail_reqsOf (r : Nat) (s : State) :
    reqsOf (enableRail r s) = reqsOf (s) := by
  unfold enableRail
  simp [reqs_reqsOf]

@[simp] theorem railGood_reqsOf (r : Nat) (s : State) :
    reqsOf (railGood r s) = reqsOf (s) := by
  unfold railGood
  simp

@[simp] theorem loseImage_reqsOf (s : State) :
    reqsOf (loseImage s) = reqsOf (s) := by
  unfold loseImage
  simp [reqs_reqsOf]

@[simp] theorem downDone_reqsOf (s : State) :
    reqsOf (downDone s) = reqsOf (s) := by
  unfold downDone
  simp [reqs_reqsOf]

@[simp] theorem advanceDown_reqsOf (s : State) :
    reqsOf (advanceDown s) = reqsOf (s) := by
  unfold advanceDown
  (repeat' split) <;> simp [reqs_reqsOf]

@[simp] theorem cutRunning_reqsOf (r : Nat) (s : State) :
    reqsOf (cutRunning r s) = reqsOf (s) := by
  unfold cutRunning
  simp

@[simp] theorem groupReaction_reqsOf (r : Nat) (s : State) :
    reqsOf (groupReaction r s) = reqsOf (s) := by
  unfold groupReaction
  dsimp only
  (repeat' split) <;> simp [reqs_reqsOf]

@[simp] theorem nextGroupCut_reqsOf (s : State) :
    reqsOf (nextGroupCut s) = reqsOf (s) := by
  unfold nextGroupCut
  (repeat' split) <;> simp [reqs_reqsOf]

@[simp] theorem putWord_reqsOf (o v : Nat) (s : State) :
    reqsOf (putWord o v s) = reqsOf (s) := by
  unfold putWord
  simp [reqs_reqsOf]

@[simp] theorem putFirst_reqsOf (o v : Nat) (s : State) :
    reqsOf (putFirst o v s) = reqsOf (s) := by
  unfold putFirst
  simp [reqs_reqsOf]

@[simp] theorem spoilWord_reqsOf (o : Nat) (s : State) :
    reqsOf (spoilWord o s) = reqsOf (s) := by
  unfold spoilWord
  simp [reqs_reqsOf]

@[simp] theorem eraseBlock_reqsOf (b : Nat) (s : State) :
    reqsOf (eraseBlock b s) = reqsOf (s) := by
  unfold eraseBlock
  simp [reqs_reqsOf]

@[simp] theorem eraseCopy_reqsOf (c : Nat) (s : State) :
    reqsOf (eraseCopy c s) = reqsOf (s) := by
  unfold eraseCopy
  simp

@[simp] theorem sparesShow_reqsOf (s : State) :
    reqsOf (sparesShow s) = reqsOf (s) := by
  unfold sparesShow
  simp

@[simp] theorem applyOption_reqsOf (s : State) :
    reqsOf (applyOption s) = reqsOf (s) := by
  unfold applyOption
  simp [reqs_reqsOf]

@[simp] theorem lockPages_reqsOf (s : State) :
    reqsOf (lockPages s) = reqsOf (s) := by
  unfold lockPages
  simp

@[simp] theorem programOption_reqsOf (bits : Nat) (s : State) :
    reqsOf (programOption bits s) = reqsOf (s) := by
  unfold programOption
  simp [reqs_reqsOf]

@[simp] theorem setCarBank_reqsOf (b : Nat) (k : CarBank) (s : State) :
    reqsOf (setCarBank b k s) = reqsOf (s) := by
  unfold setCarBank
  simp [reqs_reqsOf]

@[simp] theorem carFlag_reqsOf (b bits : Nat) (s : State) :
    reqsOf (carFlag b bits s) = reqsOf (s) := by
  unfold carFlag
  simp

@[simp] theorem carShow_reqsOf (b : Nat) (s : State) :
    reqsOf (carShow b s) = reqsOf (s) := by
  unfold carShow
  simp

@[simp] theorem cutOp_reqsOf (x : CarOp) (s : State) :
    reqsOf (cutOp x s) = reqsOf (s) := by
  unfold cutOp
  simp

@[simp] theorem carCut_reqsOf (s : State) :
    reqsOf (carCut s) = reqsOf (s) := by
  unfold carCut
  simp

@[simp] theorem setImage_reqsOf (c : Nat) (slotB : Bool) (f : SlotImage → SlotImage) (s : State) :
    reqsOf (setImage c slotB f s) = reqsOf (s) := by
  unfold setImage
  simp [reqs_reqsOf]

@[simp] theorem updShow_reqsOf (s : State) :
    reqsOf (updShow s) = reqsOf (s) := by
  unfold updShow
  simp

@[simp] theorem setShow_reqsOf (s : State) :
    reqsOf (setShow s) = reqsOf (s) := by
  unfold setShow
  simp

@[simp] theorem appendRecord_reqsOf (r : ActRecord) (s : State) :
    reqsOf (appendRecord r s) = reqsOf (s) := by
  unfold appendRecord
  simp [reqs_reqsOf]

@[simp] theorem putTally_reqsOf (s : State) :
    reqsOf (putTally s) = reqsOf (s) := by
  unfold putTally
  simp

@[simp] theorem newTally_reqsOf (s : State) :
    reqsOf (newTally s) = reqsOf (s) := by
  unfold newTally
  simp [reqs_reqsOf]

@[simp] theorem changeLog_reqsOf (s : State) :
    reqsOf (changeLog s) = reqsOf (s) := by
  unfold changeLog
  simp [reqs_reqsOf]

@[simp] theorem writeRecord_reqsOf (r : ActRecord) (s : State) :
    reqsOf (writeRecord r s) = reqsOf (s) := by
  unfold writeRecord
  simp

@[simp] theorem startSet_reqsOf (bits : Nat) (wanted : List (Nat × Bool)) (reverted : Bool) (s : State) :
    reqsOf (startSet bits wanted reverted s) = reqsOf (s) := by
  unfold startSet
  simp [reqs_reqsOf]

@[simp] theorem takeSettings_reqsOf (l : List (Nat × Nat)) (s : State) :
    reqsOf (takeSettings l s) = reqsOf (s) := by
  unfold takeSettings
  simp [reqs_reqsOf]

@[simp] theorem updResult_reqsOf (r : Nat) (s : State) :
    reqsOf (updResult r s) = reqsOf (s) := by
  unfold updResult
  simp

@[simp] theorem dropTransfer_reqsOf (s : State) :
    reqsOf (dropTransfer s) = reqsOf (s) := by
  unfold dropTransfer
  simp [reqs_reqsOf]

@[simp] theorem endTransfer_reqsOf (s : State) :
    reqsOf (endTransfer s) = reqsOf (s) := by
  unfold endTransfer
  simp

@[simp] theorem activateOp_reqsOf (c : Nat) (slotB : Bool) (s : State) :
    reqsOf (activateOp c slotB s) = reqsOf (s) := by
  unfold activateOp
  simp

@[simp] theorem confirmNow_reqsOf (s : State) :
    reqsOf (confirmNow s) = reqsOf (s) := by
  unfold confirmNow
  simp [reqs_reqsOf]

@[simp] theorem confirmOp_reqsOf (accept : Bool) (s : State) :
    reqsOf (confirmOp accept s) = reqsOf (s) := by
  unfold confirmOp
  simp

@[simp] theorem revertOp_reqsOf (s : State) :
    reqsOf (revertOp s) = reqsOf (s) := by
  unfold revertOp
  simp

@[simp] theorem budgets_reqsOf (s : State) :
    reqsOf (budgets s) = reqsOf (s) := by
  unfold budgets
  simp [reqs_reqsOf]

@[simp] theorem zeroBudget_reqsOf (s : State) :
    reqsOf (zeroBudget s) = reqsOf (s) := by
  unfold zeroBudget
  simp [reqs_reqsOf]

@[simp] theorem budgetRule_reqsOf (s : State) :
    reqsOf (budgetRule s) = reqsOf (s) := by
  unfold budgetRule
  simp [reqs_reqsOf]

@[simp] theorem rideWindow_reqsOf (s : State) :
    reqsOf (rideWindow s) = reqsOf (s) := by
  unfold rideWindow
  simp

@[simp] theorem chargeShow_reqsOf (s : State) :
    reqsOf (chargeShow s) = reqsOf (s) := by
  unfold chargeShow
  simp

@[simp] theorem endExercise_reqsOf (result : Nat) (s : State) :
    reqsOf (endExercise result s) = reqsOf (s) := by
  unfold endExercise
  simp [reqs_reqsOf]

@[simp] theorem endCapTest_reqsOf (s : State) :
    reqsOf (endCapTest s) = reqsOf (s) := by
  unfold endCapTest
  simp [reqs_reqsOf]

@[simp] theorem integrate_reqsOf (code : Int) (s : State) :
    reqsOf (integrate code s) = reqsOf (s) := by
  unfold integrate
  simp [reqs_reqsOf]

@[simp] theorem showSamples_reqsOf (s : State) :
    reqsOf (showSamples s) = reqsOf (s) := by
  unfold showSamples
  simp

@[simp] theorem endsTick_reqsOf (s : State) :
    reqsOf (endsTick s) = reqsOf (s) := by
  unfold endsTick
  simp [reqs_reqsOf]

@[simp] theorem sampleCapTest_reqsOf (s : State) :
    reqsOf (sampleCapTest s) = reqsOf (s) := by
  unfold sampleCapTest
  (repeat' split) <;> simp [reqs_reqsOf]

@[simp] theorem gaugeRuns_reqsOf (s : State) :
    reqsOf (gaugeRuns s) = reqsOf (s) := by
  unfold gaugeRuns
  simp [reqs_reqsOf]

@[simp] theorem learnSave_reqsOf (used gran : Nat) (s : State) :
    reqsOf (learnSave used gran s) = reqsOf (s) := by
  unfold learnSave
  simp

@[simp] theorem learnRide_reqsOf (dw : Nat) (s : State) :
    reqsOf (learnRide dw s) = reqsOf (s) := by
  unfold learnRide
  simp

@[simp] theorem learnedNow_reqsOf (s : State) :
    reqsOf (learnedNow s) = reqsOf (s) := by
  unfold learnedNow
  simp [reqs_reqsOf]

@[simp] theorem learnTick_reqsOf (s : State) :
    reqsOf (learnTick s) = reqsOf (s) := by
  unfold learnTick
  dsimp only
  (repeat' split) <;> simp [reqs_reqsOf]

@[simp] theorem gaugeTick_reqsOf (x : GaugeSamples) (cut : Bool) (s : State) :
    reqsOf (gaugeTick x cut s) = reqsOf (s) := by
  unfold gaugeTick
  simp [reqs_reqsOf]

@[simp] theorem anchor_reqsOf (nc : Nat) (s : State) :
    reqsOf (anchor nc s) = reqsOf (s) := by
  unfold anchor
  simp [reqs_reqsOf]

@[simp] theorem setSav_reqsOf (n : Nat) (s : State) :
    reqsOf (setSav n s) = reqsOf (s) := by
  unfold setSav
  simp

@[simp] theorem setSavs_reqsOf (f : Sav → Sav) (s : State) :
    reqsOf (setSavs f s) = reqsOf (s) := by
  unfold setSavs
  simp [reqs_reqsOf]

@[simp] theorem triggerBit_reqsOf (k : Nat) (s : State) :
    reqsOf (triggerBit k s) = reqsOf (s) := by
  unfold triggerBit
  simp

@[simp] theorem savOutcome_reqsOf (n : Nat) (s : State) :
    reqsOf (savOutcome n s) = reqsOf (s) := by
  unfold savOutcome
  simp

@[simp] theorem thawAll_reqsOf (s : State) :
    reqsOf (thawAll s) = reqsOf (s) := by
  unfold thawAll
  simp

@[simp] theorem closeKey_reqsOf (s : State) :
    reqsOf (closeKey s) = reqsOf (s) := by
  unfold closeKey
  simp [reqs_reqsOf]

@[simp] theorem sendPoison_reqsOf (port tag : Nat) (under : Option Line) (s : State) :
    reqsOf (sendPoison port tag under s) = reqsOf (s) := by
  unfold sendPoison
  simp

@[simp] theorem finishRead_reqsOf (r : ReadWait) (s : State) :
    reqsOf (finishRead r s) = reqsOf (s) := by
  unfold finishRead
  (repeat' split) <;> simp

@[simp] theorem domainFence_reqsOf (s : State) :
    reqsOf (domainFence s) = reqsOf (s) := by
  unfold domainFence
  simp [reqs_reqsOf]

@[simp] theorem discardPending_reqsOf (s : State) :
    reqsOf (discardPending s) = reqsOf (s) := by
  unfold discardPending
  simp

@[simp] theorem disarmedTrigger_reqsOf (k : Nat) (s : State) :
    reqsOf (disarmedTrigger k s) = reqsOf (s) := by
  unfold disarmedTrigger
  simp [reqs_reqsOf]

@[simp] theorem startSave_reqsOf (s : State) :
    reqsOf (startSave s) = reqsOf (s) := by
  unfold startSave
  simp

@[simp] theorem enterRide_reqsOf (s : State) :
    reqsOf (enterRide s) = reqsOf (s) := by
  unfold enterRide
  simp [reqs_reqsOf]

@[simp] theorem startRidePath_reqsOf (s : State) :
    reqsOf (startRidePath s) = reqsOf (s) := by
  unfold startRidePath
  simp

@[simp] theorem measureSave_reqsOf (s : State) :
    reqsOf (measureSave s) = reqsOf (s) := by
  unfold measureSave
  simp [reqs_reqsOf]

@[simp] theorem decideSave_reqsOf (s : State) :
    reqsOf (decideSave s) = reqsOf (s) := by
  unfold decideSave
  simp

@[simp] theorem endRide_reqsOf (s : State) :
    reqsOf (endRide s) = reqsOf (s) := by
  unfold endRide
  simp [reqs_reqsOf]

@[simp] theorem unlockAll_reqsOf (s : State) :
    reqsOf (unlockAll s) = reqsOf (s) := by
  unfold unlockAll
  simp

@[simp] theorem clearS4_reqsOf (s : State) :
    reqsOf (clearS4 s) = reqsOf (s) := by
  unfold clearS4
  simp

@[simp] theorem leaveSafe_reqsOf (s : State) :
    reqsOf (leaveSafe s) = reqsOf (s) := by
  unfold leaveSafe
  simp

@[simp] theorem applyMapInUse_reqsOf (s : State) :
    reqsOf (applyMapInUse s) = reqsOf (s) := by
  unfold applyMapInUse
  simp [reqs_reqsOf]

@[simp] theorem startWarm_reqsOf (s : State) :
    reqsOf (startWarm s) = reqsOf (s) := by
  unfold startWarm
  simp [reqs_reqsOf]

@[simp] theorem askReset_reqsOf (s : State) :
    reqsOf (askReset s) = reqsOf (s) := by
  unfold askReset
  simp [reqs_reqsOf]

@[simp] theorem drained_reqsOf (s : State) :
    reqsOf (drained s) = reqsOf (s) := by
  unfold drained
  dsimp only
  split
  · simp
  · split <;> simp [reqs_reqsOf]

@[simp] theorem savePowerDown_reqsOf (outcome : Nat) (s : State) :
    reqsOf (savePowerDown outcome s) = reqsOf (s) := by
  unfold savePowerDown
  simp

@[simp] theorem abortSafe_reqsOf (s : State) :
    reqsOf (abortSafe s) = reqsOf (s) := by
  unfold abortSafe
  simp

@[simp] theorem endSave_reqsOf (s : State) :
    reqsOf (endSave s) = reqsOf (s) := by
  unfold endSave
  simp

@[simp] theorem leaveHold_reqsOf (s : State) :
    reqsOf (leaveHold s) = reqsOf (s) := by
  unfold leaveHold
  simp

@[simp] theorem ranksShow_reqsOf (s : State) :
    reqsOf (ranksShow s) = reqsOf (s) := by
  unfold ranksShow
  simp

@[simp] theorem ranksAtBoot_reqsOf (s : State) :
    reqsOf (ranksAtBoot s) = reqsOf (s) := by
  unfold ranksAtBoot
  simp

@[simp] theorem poolAtBoot_reqsOf (s : State) :
    reqsOf (poolAtBoot s) = reqsOf (s) := by
  unfold poolAtBoot
  simp

@[simp] theorem mapAtBoot_reqsOf (s : State) :
    reqsOf (mapAtBoot s) = reqsOf (s) := by
  unfold mapAtBoot
  simp

@[simp] theorem populate_reqsOf (x : PowerOnIn) (s : State) :
    reqsOf (populate x s) = reqsOf (s) := by
  unfold populate
  simp [reqs_reqsOf]

@[simp] theorem placeRegions_reqsOf (x0 : Nat) (x1 : Nat) (x2 : List (Nat × Nat × Nat × Nat)) (s : State) :
    reqsOf (placeRegions x0 x1 x2 s) = reqsOf (s) := by
  induction x2 generalizing x0 x1 s with
  | nil => simp [placeRegions]
  | cons e l ih =>
    obtain ⟨cb, cn, rb, rn⟩ := e
    simp [placeRegions, ih]

@[simp] theorem mapChkShow_reqsOf (e : Option (Nat × Nat × Nat)) (s : State) :
    reqsOf (mapChkShow e s) = reqsOf (s) := by
  unfold mapChkShow
  simp

@[simp] theorem enableDmc_reqsOf (w : Writer) (s : State) :
    reqsOf (enableDmc w s) = reqsOf (s) := by
  unfold enableDmc
  dsimp only
  (repeat' split) <;> simp [reqs_reqsOf]

@[simp] theorem placeSpill_reqsOf (s : State) :
    reqsOf (placeSpill s) = reqsOf (s) := by
  unfold placeSpill
  simp

@[simp] theorem pairAtBoot_reqsOf (s : State) :
    reqsOf (pairAtBoot s) = reqsOf (s) := by
  unfold pairAtBoot
  simp [reqs_reqsOf]

@[simp] theorem batteryIn_reqsOf (s : State) :
    reqsOf (batteryIn s) = reqsOf (s) := by
  unfold batteryIn
  simp [reqs_reqsOf]

@[simp] theorem enableCharger_reqsOf (s : State) :
    reqsOf (enableCharger s) = reqsOf (s) := by
  unfold enableCharger
  simp [reqs_reqsOf]

@[simp] theorem releaseModule_reqsOf (s : State) :
    reqsOf (releaseModule s) = reqsOf (s) := by
  unfold releaseModule
  simp [reqs_reqsOf]

@[simp] theorem wakeUp_reqsOf (s : State) :
    reqsOf (wakeUp s) = reqsOf (s) := by
  unfold wakeUp
  simp [reqs_reqsOf]

@[simp] theorem takeSample_reqsOf (s : State) :
    reqsOf (takeSample s) = reqsOf (s) := by
  unfold takeSample
  simp [reqs_reqsOf]

@[simp] theorem sumShow_reqsOf (s : State) :
    reqsOf (sumShow s) = reqsOf (s) := by
  unfold sumShow
  simp

@[simp] theorem applySrcMode_reqsOf (s : State) :
    reqsOf (applySrcMode s) = reqsOf (s) := by
  unfold applySrcMode
  simp [reqs_reqsOf]

@[simp] theorem endInjection_reqsOf (p : Nat) (s : State) :
    reqsOf (endInjection p s) = reqsOf (s) := by
  unfold endInjection
  simp [reqs_reqsOf]

@[simp] theorem finjOpen_reqsOf (w : Writer) (p : Nat) (k : State → State) (s : State) (hk : ∀ t : State, reqsOf (k
    t) = reqsOf (t)) :
    reqsOf (finjOpen w p k s) = reqsOf (s) := by
  unfold finjOpen
  simp [hk]

@[simp] theorem cancelCar_reqsOf (b : Nat) (s : State) :
    reqsOf (cancelCar b s) = reqsOf (s) := by
  unfold cancelCar
  simp [reqs_reqsOf]

@[simp] theorem abandonOn_reqsOf (p : Nat → Bool) (s : State) :
    reqsOf (abandonOn p s) = reqsOf (s) := by
  unfold abandonOn
  simp

@[simp] theorem unqueueRead_reqsOf (r : REntry) (s : State) :
    reqsOf (unqueueRead r s) = reqsOf (s) := by
  unfold unqueueRead
  (repeat' split) <;> simp [reqs_reqsOf]

@[simp] theorem idleChannel_reqsOf (ch : Nat) (s : State) :
    reqsOf (idleChannel ch s) = reqsOf (s) := by
  unfold idleChannel
  simp [reqs_reqsOf]

@[simp] theorem idlePort_reqsOf (n : Nat) (s : State) :
    reqsOf (idlePort n s) = reqsOf (s) := by
  unfold idlePort
  simp [reqs_reqsOf]

@[simp] theorem idleBlock_reqsOf (p : Nat) (s : State) :
    reqsOf (idleBlock p s) = reqsOf (s) := by
  unfold idleBlock
  simp [reqs_reqsOf]

@[simp] theorem startAbort'_reqsOf (p : Nat) (reset : Bool) (s : State) :
    reqsOf (startAbort' p reset s) = reqsOf (s) := by
  unfold startAbort'
  dsimp only
  (repeat' split) <;> simp [reqs_reqsOf]

@[simp] theorem writeAbort_reqsOf (w : Writer) (p : Nat) (reset : Bool) (s : State) :
    reqsOf (writeAbort w p reset s) = reqsOf (s) := by
  unfold writeAbort
  simp

@[simp] theorem resetPage_reqsOf (p : Nat) (s : State) :
    reqsOf (resetPage p s) = reqsOf (s) := by
  unfold resetPage
  simp [reqs_reqsOf]

@[simp] theorem balancePools_reqsOf (p : Nat) (s : State) :
    reqsOf (balancePools p s) = reqsOf (s) := by
  unfold balancePools
  simp

@[simp] theorem endAbort_reqsOf (p : Nat) (s : State) :
    reqsOf (endAbort p s) = reqsOf (s) := by
  unfold endAbort
  (repeat' split) <;> simp [reqs_reqsOf]

@[simp] theorem writeFreeze_reqsOf (w : Writer) (p : Nat) (on : Bool) (s : State) :
    reqsOf (writeFreeze w p on s) = reqsOf (s) := by
  unfold writeFreeze
  simp

@[simp] theorem withdrawalTime_reqsOf (s : State) :
    reqsOf (withdrawalTime s) = reqsOf (s) := by
  unfold withdrawalTime
  simp

@[simp] theorem persistShow_reqsOf (s : State) :
    reqsOf (persistShow s) = reqsOf (s) := by
  unfold persistShow
  simp

@[simp] theorem domainOkShow_reqsOf (s : State) :
    reqsOf (domainOkShow s) = reqsOf (s) := by
  unfold domainOkShow
  simp

@[simp] theorem throttleShow_reqsOf (first : Bool) (dirty : Nat) (s : State) :
    reqsOf (throttleShow first dirty s) = reqsOf (s) := by
  unfold throttleShow
  simp

@[simp] theorem withheldShow_reqsOf (s : State) :
    reqsOf (withheldShow s) = reqsOf (s) := by
  unfold withheldShow
  simp

@[simp] theorem marksShow_reqsOf (s : State) :
    reqsOf (marksShow s) = reqsOf (s) := by
  unfold marksShow
  simp [reqs_reqsOf]

@[simp] theorem sendVector_reqsOf (v : Nat) (s : State) :
    reqsOf (sendVector v s) = reqsOf (s) := by
  unfold sendVector
  simp [reqs_reqsOf]

@[simp] theorem dueVector_reqsOf (v : Nat) (s : State) :
    reqsOf (dueVector v s) = reqsOf (s) := by
  unfold dueVector
  simp [reqs_reqsOf]

@[simp] theorem deliver_reqsOf (e : Nat × Nat) (s : State) :
    reqsOf (deliver e s) = reqsOf (s) := by
  unfold deliver
  simp

@[simp] theorem interrupts_reqsOf (before s : State) :
    reqsOf (interrupts before s) = reqsOf (s) := by
  unfold interrupts
  simp

@[simp] theorem creditsShow_reqsOf (s : State) :
    reqsOf (creditsShow s) = reqsOf (s) := by
  unfold creditsShow
  simp [reqs_reqsOf]

@[simp] theorem demand_reqsOf (g : Nat) (s : State) :
    reqsOf (demand g s) = reqsOf (s) := by
  unfold demand
  simp

@[simp] theorem setTwn_reqsOf (f : Twn → Twn) (s : State) :
    reqsOf (setTwn f s) = reqsOf (s) := by
  unfold setTwn
  simp [reqs_reqsOf]

@[simp] theorem sendHello_reqsOf (s : State) :
    reqsOf (sendHello s) = reqsOf (s) := by
  unfold sendHello
  simp

@[simp] theorem helloTick_reqsOf (s : State) :
    reqsOf (helloTick s) = reqsOf (s) := by
  unfold helloTick
  simp

@[simp] theorem ackMirror_reqsOf (n : Nat) (s : State) :
    reqsOf (ackMirror n s) = reqsOf (s) := by
  unfold ackMirror
  simp [reqs_reqsOf]

@[simp] theorem logRemote_reqsOf (c line : Nat) (s : State) :
    reqsOf (logRemote c line s) = reqsOf (s) := by
  unfold logRemote
  simp

@[simp] theorem prepareNow_reqsOf (c tag : Nat) (s : State) :
    reqsOf (prepareNow c tag s) = reqsOf (s) := by
  unfold prepareNow
  simp

@[simp] theorem goPrepares_reqsOf (s : State) :
    reqsOf (goPrepares s) = reqsOf (s) := by
  unfold goPrepares
  simp

@[simp] theorem flitBad_reqsOf (s : State) :
    reqsOf (flitBad s) = reqsOf (s) := by
  unfold flitBad
  (repeat' split) <;> simp

@[simp] theorem resyncShow_reqsOf (s : State) :
    reqsOf (resyncShow s) = reqsOf (s) := by
  unfold resyncShow
  simp

@[simp] theorem sendCopy_reqsOf (s : State) :
    reqsOf (sendCopy s) = reqsOf (s) := by
  unfold sendCopy
  (repeat' split) <;> simp

@[simp] theorem resyncTick_reqsOf (s : State) :
    reqsOf (resyncTick s) = reqsOf (s) := by
  unfold resyncTick
  simp

@[simp] theorem badCell_reqsOf (ringB : Bool) (s : State) :
    reqsOf (badCell ringB s) = reqsOf (s) := by
  unfold badCell
  simp

@[simp] theorem takeFlags_reqsOf (partitioned quorum : Bool) (s : State) :
    reqsOf (takeFlags partitioned quorum s) = reqsOf (s) := by
  unfold takeFlags
  simp [reqs_reqsOf]

@[simp] theorem tableShow_reqsOf (s : State) :
    reqsOf (tableShow s) = reqsOf (s) := by
  unfold tableShow
  simp

@[simp] theorem sendEnum_reqsOf (s : State) :
    reqsOf (sendEnum s) = reqsOf (s) := by
  unfold sendEnum
  simp

@[simp] theorem masterTick_reqsOf (s : State) :
    reqsOf (masterTick s) = reqsOf (s) := by
  unfold masterTick
  simp [reqs_reqsOf]

@[simp] theorem claimTick_reqsOf (s : State) :
    reqsOf (claimTick s) = reqsOf (s) := by
  unfold claimTick
  simp [reqs_reqsOf]

@[simp] theorem ringTick_reqsOf (s : State) :
    reqsOf (ringTick s) = reqsOf (s) := by
  unfold ringTick
  simp [reqs_reqsOf]

@[simp] theorem setCount_reqsOf (n : Nat) (s : State) :
    reqsOf (setCount n s) = reqsOf (s) := by
  unfold setCount
  simp [reqs_reqsOf]

@[simp] theorem moveFrame_reqsOf (f : Fld) (n : Nat) (s : State) :
    reqsOf (moveFrame f n s) = reqsOf (s) := by
  unfold moveFrame
  simp

@[simp] theorem provisionalTick_reqsOf (s : State) :
    reqsOf (provisionalTick s) = reqsOf (s) := by
  unfold provisionalTick
  simp

@[simp] theorem countTick_reqsOf (s : State) :
    reqsOf (countTick s) = reqsOf (s) := by
  unfold countTick
  simp [reqs_reqsOf]

@[simp] theorem markTick_reqsOf (s : State) :
    reqsOf (markTick s) = reqsOf (s) := by
  unfold markTick
  simp

@[simp] theorem allowanceTick_reqsOf (s : State) :
    reqsOf (allowanceTick s) = reqsOf (s) := by
  unfold allowanceTick
  simp [reqs_reqsOf]

@[simp] theorem rateTick_reqsOf (s : State) :
    reqsOf (rateTick s) = reqsOf (s) := by
  unfold rateTick
  simp [reqs_reqsOf]

@[simp] theorem reasonTick_reqsOf (s : State) :
    reqsOf (reasonTick s) = reqsOf (s) := by
  unfold reasonTick
  simp [reqs_reqsOf]

@[simp] theorem scrubStall_reqsOf (line : Nat) (s : State) :
    reqsOf (scrubStall line s) = reqsOf (s) := by
  unfold scrubStall
  simp

theorem scrubRead_reqsOf {line : Nat} {s t : State} (h : scrubRead line s = some t) :
    reqsOf (t) = reqsOf (s) := by
  unfold scrubRead at h
  split at h
  · cases h; simp
  · split at h
    · cases h
    · cases h; simp

@[simp] theorem scrubRun_reqsOf (x0 : Nat) (s : State) :
    reqsOf (scrubRun x0 s) = reqsOf (s) := by
  induction x0 generalizing s with
  | zero => simp [scrubRun]
  | succ n ih =>
    unfold scrubRun
    dsimp only
    split
    · simp
    · split
      · simp
      · rename_i t ht
        have h := scrubRead_reqsOf ht
        simp [ih, reqs_reqsOf]
        simpa [reqs_reqsOf] using h

@[simp] theorem marginalRun_reqsOf (x0 : Nat) (s : State) :
    reqsOf (marginalRun x0 s) = reqsOf (s) := by
  induction x0 generalizing s with
  | zero => simp [marginalRun]
  | succ n ih =>
    unfold marginalRun
    dsimp only
    generalize (if scrubLines s ≤ s.dram.marginalLine then 0 else s.dram.marginalLine) = line
    split
    · simp
    · rename_i t ht
      split at ht
      · have h := scrubRead_reqsOf ht
        simp [ih, reqs_reqsOf]
        simpa [reqs_reqsOf] using h
      · cases ht
        simp [ih, reqs_reqsOf]

@[simp] theorem startRetrain_reqsOf (i : Nat) (byCrc : Bool) (s : State) :
    reqsOf (startRetrain i byCrc s) = reqsOf (s) := by
  unfold startRetrain
  simp [reqs_reqsOf]

@[simp] theorem measureDrift_reqsOf (drift : List (Fin 16 × Nat)) (ch : Nat) (s : State) :
    reqsOf (measureDrift drift ch s) = reqsOf (s) := by
  unfold measureDrift
  (repeat' split) <;> simp [reqs_reqsOf]

@[simp] theorem readMr4_reqsOf (ch : Nat) (temp : Int) (s : State) :
    reqsOf (readMr4 ch temp s) = reqsOf (s) := by
  unfold readMr4
  simp [reqs_reqsOf]

@[simp] theorem driftTask_reqsOf (x : TickIn) (s : State) :
    reqsOf (driftTask x s) = reqsOf (s) := by
  unfold driftTask
  simp [reqs_reqsOf]

@[simp] theorem telemetryTask_reqsOf (s : State) :
    reqsOf (telemetryTask s) = reqsOf (s) := by
  unfold telemetryTask
  simp

@[simp] theorem ageTick_reqsOf (s : State) :
    reqsOf (ageTick s) = reqsOf (s) := by
  unfold ageTick
  simp [reqs_reqsOf]

@[simp] theorem beginMove_reqsOf (m : MoveStart) (s : State) :
    reqsOf (beginMove m s) = reqsOf (s) := by
  unfold beginMove
  (repeat' split) <;> simp

@[simp] theorem moveTask_reqsOf (x : TickIn) (s : State) :
    reqsOf (moveTask x s) = reqsOf (s) := by
  unfold moveTask
  simp

@[simp] theorem lingerTask_reqsOf (s : State) :
    reqsOf (lingerTask s) = reqsOf (s) := by
  unfold lingerTask
  simp

@[simp] theorem deltaTick_reqsOf (s : State) :
    reqsOf (deltaTick s) = reqsOf (s) := by
  unfold deltaTick
  simp

@[simp] theorem restoreTick_reqsOf (s : State) :
    reqsOf (restoreTick s) = reqsOf (s) := by
  unfold restoreTick
  simp [reqs_reqsOf]

@[simp] theorem ctoShow_reqsOf (s : State) :
    reqsOf (ctoShow s) = reqsOf (s) := by
  unfold ctoShow
  simp

@[simp] theorem busShow_reqsOf (ch : Nat) (s : State) :
    reqsOf (busShow ch s) = reqsOf (s) := by
  unfold busShow
  simp

@[simp] theorem busesShow_reqsOf (s : State) :
    reqsOf (busesShow s) = reqsOf (s) := by
  unfold busesShow
  simp

@[simp] theorem countersTick_reqsOf (s : State) :
    reqsOf (countersTick s) = reqsOf (s) := by
  unfold countersTick
  simp [reqs_reqsOf]

@[simp] theorem syncTick_reqsOf (seen : Bool) (s : State) :
    reqsOf (syncTick seen s) = reqsOf (s) := by
  unfold syncTick
  simp

@[simp] theorem relockFrames_reqsOf (s : State) :
    reqsOf (relockFrames s) = reqsOf (s) := by
  unfold relockFrames
  simp [reqs_reqsOf]

@[simp] theorem stallTick_reqsOf (s : State) :
    reqsOf (stallTick s) = reqsOf (s) := by
  unfold stallTick
  simp [reqs_reqsOf]

@[simp] theorem updTick_reqsOf (s : State) :
    reqsOf (updTick s) = reqsOf (s) := by
  unfold updTick
  simp [reqs_reqsOf]

@[simp] theorem etaTick_reqsOf (s : State) :
    reqsOf (etaTick s) = reqsOf (s) := by
  unfold etaTick
  simp

@[simp] theorem dropSwitch_reqsOf (d : Nat) (s : State) :
    reqsOf (dropSwitch d s) = reqsOf (s) := by
  unfold dropSwitch
  simp [reqs_reqsOf]

@[simp] theorem addShadow_reqsOf (f : Fld) (v phase : Nat) (s : State) :
    reqsOf (addShadow f v phase s) = reqsOf (s) := by
  unfold addShadow
  simp [reqs_reqsOf]

@[simp] theorem writeStatic_reqsOf (w : Writer) (f : Fld) (v : Nat) (ok : Bool) (apply : State → State) (s : State)
    (happly : ∀ t : State, reqsOf (apply t) = reqsOf (t)) :
    reqsOf (writeStatic w f v ok apply s) = reqsOf (s) := by
  unfold writeStatic
  simp [happly]

@[simp] theorem writeShadowed_reqsOf (w : Writer) (f : Fld) (v phase : Nat) (ok : Bool) (s : State) :
    reqsOf (writeShadowed w f v phase ok s) = reqsOf (s) := by
  unfold writeShadowed
  simp

@[simp] theorem discipline_reqsOf (frame : Nat) (phaseErr : Int) (delay : Nat) (s : State) :
    reqsOf (discipline frame phaseErr delay s) = reqsOf (s) := by
  unfold discipline
  simp [reqs_reqsOf]

@[simp] theorem writeSrcMode_reqsOf (w : Writer) (mode : Nat) (s : State) :
    reqsOf (writeSrcMode w mode s) = reqsOf (s) := by
  unfold writeSrcMode
  simp

@[simp] theorem writeCommitShadow_reqsOf (p : Nat) (s : State) :
    reqsOf (writeCommitShadow p s) = reqsOf (s) := by
  unfold writeCommitShadow
  simp [reqs_reqsOf]

@[simp] theorem writeLock_reqsOf (p : Nat) (s : State) :
    reqsOf (writeLock p s) = reqsOf (s) := by
  unfold writeLock
  simp

@[simp] theorem writeKey_reqsOf (w : Writer) (key : Nat) (s : State) :
    reqsOf (writeKey w key s) = reqsOf (s) := by
  unfold writeKey
  simp [reqs_reqsOf]

@[simp] theorem ackCapacity_reqsOf (s : State) :
    reqsOf (ackCapacity s) = reqsOf (s) := by
  unfold ackCapacity
  simp

@[simp] theorem writeMgmtPort_reqsOf (w : Writer) (n : Nat) (s : State) :
    reqsOf (writeMgmtPort w n s) = reqsOf (s) := by
  unfold writeMgmtPort
  simp

@[simp] theorem writeFind_reqsOf (vector start : Nat) (s : State) :
    reqsOf (writeFind vector start s) = reqsOf (s) := by
  unfold writeFind
  simp [reqs_reqsOf]

@[simp] theorem awaitWrite_reqsOf (w : WriteWait) (s : State) :
    reqsOf (awaitWrite w s) = reqsOf (s) := by
  unfold awaitWrite
  simp [reqs_reqsOf]

@[simp] theorem dropWrite_reqsOf (q : Stalled) (s : State) :
    reqsOf (dropWrite q s) = reqsOf (s) := by
  unfold dropWrite
  simp

@[simp] theorem awaitRead_reqsOf (port tag line : Nat) (data : Option (Option Line)) (s : State) :
    reqsOf (awaitRead port tag line data s) = reqsOf (s) := by
  unfold awaitRead
  simp [reqs_reqsOf]

@[simp] theorem stall_reqsOf (q : Stalled) (why : WaitFor) (s : State) :
    reqsOf (stall q why s) = reqsOf (s) := by
  unfold stall
  simp [reqs_reqsOf]

@[simp] theorem stallPool_reqsOf (q : Stalled) (o : Nat) (s : State) :
    reqsOf (stallPool q o s) = reqsOf (s) := by
  unfold stallPool
  simp

@[simp] theorem holdWaitShow_reqsOf (s : State) :
    reqsOf (holdWaitShow s) = reqsOf (s) := by
  unfold holdWaitShow
  simp

@[simp] theorem limitAbort_reqsOf (c : Nat) (q : Stalled) (s : State) :
    reqsOf (limitAbort c q s) = reqsOf (s) := by
  unfold limitAbort
  simp

@[simp] theorem markLate_reqsOf (q : Stalled) (s : State) :
    reqsOf (markLate q s) = reqsOf (s) := by
  unfold markLate
  (repeat' split) <;> simp

@[simp] theorem sendCompletion_reqsOf (port tag : Nat) (s : State) :
    reqsOf (sendCompletion port tag s) = reqsOf (s) := by
  unfold sendCompletion
  (repeat' split) <;> simp [reqs_reqsOf]

@[simp] theorem answerRead_reqsOf (r : ReadWait) (d : Option Line) (s : State) :
    reqsOf (answerRead r d s) = reqsOf (s) := by
  unfold answerRead
  dsimp only
  (repeat' split) <;> simp [reqs_reqsOf]

@[simp] theorem aerSet_reqsOf (n mask : Nat) (s : State) :
    reqsOf (aerSet n mask s) = reqsOf (s) := by
  unfold aerSet
  simp [reqs_reqsOf]

@[simp] theorem sendPendingOn_reqsOf (p : Nat × Nat → Bool) (s : State) :
    reqsOf (sendPendingOn p s) = reqsOf (s) := by
  unfold sendPendingOn
  simp [reqs_reqsOf]

@[simp] theorem maskEntry_reqsOf (n v : Nat) (masked : Bool) (s : State) :
    reqsOf (maskEntry n v masked s) = reqsOf (s) := by
  unfold maskEntry
  simp [reqs_reqsOf]

@[simp] theorem configAccess_reqsOf (n : Nat) (x : ConfigAccess) (s : State) :
    reqsOf (configAccess n x s) = reqsOf (s) := by
  unfold configAccess
  (repeat' split) <;> simp [reqs_reqsOf]

@[simp] theorem configRequest_reqsOf (n : Nat) (x : ConfigAccess) (s : State) :
    reqsOf (configRequest n x s) = reqsOf (s) := by
  unfold configRequest
  simp

@[simp] theorem sendPending_reqsOf (n : Nat) (s : State) :
    reqsOf (sendPending n s) = reqsOf (s) := by
  unfold sendPending
  simp

@[simp] theorem commitDecoder_reqsOf (n d size ways : Nat) (s : State) :
    reqsOf (commitDecoder n d size ways s) = reqsOf (s) := by
  unfold commitDecoder
  simp [reqs_reqsOf]

@[simp] theorem reply_reqsOf (n code : Nat) (payload : List Nat) (s : State) :
    reqsOf (reply n code payload s) = reqsOf (s) := by
  unfold reply
  simp

@[simp] theorem query_reqsOf (n : Nat) (payload : State → List Nat) (s : State) :
    reqsOf (query n payload s) = reqsOf (s) := by
  unfold query
  simp

@[simp] theorem manage_reqsOf (n : Nat) (f : State → State) (s : State) (hf : ∀ t : State, reqsOf (f t) = reqsOf (t))
    :
    reqsOf (manage n f s) = reqsOf (s) := by
  unfold manage
  simp [hf]

@[simp] theorem poisonList_reqsOf (n : Nat) (s : State) :
    reqsOf (poisonList n s) = reqsOf (s) := by
  unfold poisonList
  simp

@[simp] theorem programPart_reqsOf (c : Nat) (slotB : Bool) (first : Nat) (data : List Word) (s : State) :
    reqsOf (programPart c slotB first data s) = reqsOf (s) := by
  unfold programPart
  simp

@[simp] theorem progressShow_reqsOf (words : Nat) (s : State) :
    reqsOf (progressShow words s) = reqsOf (s) := by
  unfold progressShow
  simp

@[simp] theorem badPart_reqsOf (n : Nat) (s : State) :
    reqsOf (badPart n s) = reqsOf (s) := by
  unfold badPart
  simp

@[simp] theorem beginTransfer_reqsOf (n first : Nat) (data : List Word) (s : State) :
    reqsOf (beginTransfer n first data s) = reqsOf (s) := by
  unfold beginTransfer
  simp [reqs_reqsOf]

@[simp] theorem goOnTransfer_reqsOf (n first : Nat) (data : List Word) (s : State) :
    reqsOf (goOnTransfer n first data s) = reqsOf (s) := by
  unfold goOnTransfer
  (repeat' split) <;> simp [reqs_reqsOf]

@[simp] theorem finishTransfer_reqsOf (n : Nat) (signed : Bool) (s : State) :
    reqsOf (finishTransfer n signed s) = reqsOf (s) := by
  unfold finishTransfer
  (repeat' split) <;> simp

@[simp] theorem transferPart_reqsOf (n : Nat) (part : FwPart) (s : State) :
    reqsOf (transferPart n part s) = reqsOf (s) := by
  unfold transferPart
  (repeat' split) <;> simp

@[simp] theorem unsupportedOpcode_reqsOf (n op : Nat) (s : State) :
    reqsOf (unsupportedOpcode n op s) = reqsOf (s) := by
  unfold unsupportedOpcode
  (repeat' split) <;> simp

@[simp] theorem setSub_reqsOf (ch sub : Nat) (v : Sub) (s : State) :
    reqsOf (setSub ch sub v s) = reqsOf (s) := by
  unfold setSub
  simp [reqs_reqsOf]

@[simp] theorem setRows_reqsOf (l : List OpenRow) (s : State) :
    reqsOf (setRows l s) = reqsOf (s) := by
  unfold setRows
  simp [reqs_reqsOf]

@[simp] theorem closeRow_reqsOf (ch sub rank bank : Nat) (s : State) :
    reqsOf (closeRow ch sub rank bank s) = reqsOf (s) := by
  unfold closeRow
  simp

@[simp] theorem wakeRank_reqsOf (ch rank : Nat) (s : State) :
    reqsOf (wakeRank ch rank s) = reqsOf (s) := by
  unfold wakeRank
  simp [reqs_reqsOf]

@[simp] theorem issueColumn_reqsOf (ch sub : Nat) (write : Bool) (c : Waiting) (s : State) :
    reqsOf (issueColumn ch sub write c s) = reqsOf (s) := by
  unfold issueColumn
  dsimp only
  (repeat' split) <;> simp [reqs_reqsOf]

@[simp] theorem issuePick_reqsOf (ch sub : Nat) (write : Bool) (c : Waiting) (k : DramCmd) (s : State) :
    reqsOf (issuePick ch sub write c k s) = reqsOf (s) := by
  unfold issuePick
  (repeat' split) <;> simp

@[simp] theorem modeShow_reqsOf (ch : Nat) (s : State) :
    reqsOf (modeShow ch s) = reqsOf (s) := by
  unfold modeShow
  simp

@[simp] theorem ageReads_reqsOf (s : State) :
    reqsOf (ageReads s) = reqsOf (s) := by
  unfold ageReads
  simp

@[simp] theorem refresh_reqsOf (ch : Nat) (s : State) :
    reqsOf (refresh ch s) = reqsOf (s) := by
  unfold refresh
  simp

@[simp] theorem refreshManage_reqsOf (ch : Nat) (s : State) :
    reqsOf (refreshManage ch s) = reqsOf (s) := by
  unfold refreshManage
  simp

@[simp] theorem requeueWrite_reqsOf (line : Nat) (e : WEntry) (held : Bool) (s : State) :
    reqsOf (requeueWrite line e held s) = reqsOf (s) := by
  unfold requeueWrite
  (repeat' split) <;> simp

@[simp] theorem scrubFound_reqsOf (err : LineErrors) (s : State) :
    reqsOf (scrubFound err s) = reqsOf (s) := by
  unfold scrubFound
  (repeat' split) <;> simp

@[simp] theorem mapFailed_reqsOf (ps : List (Nat × Nat)) (s : State) :
    reqsOf (mapFailed ps s) = reqsOf (s) := by
  unfold mapFailed
  simp

@[simp] theorem addMoved_reqsOf (r : Nat × Nat) (s : State) :
    reqsOf (addMoved r s) = reqsOf (s) := by
  unfold addMoved
  simp [reqs_reqsOf]

@[simp] theorem moveUndo_reqsOf (old new : Nat) (s : State) :
    reqsOf (moveUndo old new s) = reqsOf (s) := by
  unfold moveUndo
  (repeat' split) <;> simp

@[simp] theorem moveSpill_reqsOf (old new q : Nat) (s : State) :
    reqsOf (moveSpill old new q s) = reqsOf (s) := by
  unfold moveSpill
  (repeat' split) <;> simp

@[simp] theorem keepSettings_reqsOf (ranks : List Nat) (s : State) :
    reqsOf (keepSettings ranks s) = reqsOf (s) := by
  unfold keepSettings
  simp [reqs_reqsOf]

@[simp] theorem keepTimings_reqsOf (r : TrainResult) (c : Nat) (s : State) :
    reqsOf (keepTimings r c s) = reqsOf (s) := by
  unfold keepTimings
  simp

@[simp] theorem setPasr_reqsOf (f : Fld) (g v : Nat) (s : State) :
    reqsOf (setPasr f g v s) = reqsOf (s) := by
  unfold setPasr
  simp

@[simp] theorem groupsTrained_reqsOf (s : State) :
    reqsOf (groupsTrained s) = reqsOf (s) := by
  unfold groupsTrained
  simp

@[simp] theorem leaveRetrain_reqsOf (i : Nat) (s : State) :
    reqsOf (leaveRetrain i s) = reqsOf (s) := by
  unfold leaveRetrain
  dsimp only
  (repeat' split) <;> simp [reqs_reqsOf]

@[simp] theorem returnSettings_reqsOf (i : Nat) (s : State) :
    reqsOf (returnSettings i s) = reqsOf (s) := by
  unfold returnSettings
  (repeat' split) <;> simp [reqs_reqsOf]

@[simp] theorem beginPasr_reqsOf (g : Nat) (s : State) :
    reqsOf (beginPasr g s) = reqsOf (s) := by
  unfold beginPasr
  simp [reqs_reqsOf]

@[simp] theorem writePasr_reqsOf (w : Writer) (req : Nat) (s : State) :
    reqsOf (writePasr w req s) = reqsOf (s) := by
  unfold writePasr
  simp

@[simp] theorem writeXlate_reqsOf (hi : Nat) (s : State) :
    reqsOf (writeXlate hi s) = reqsOf (s) := by
  unfold writeXlate
  simp [reqs_reqsOf]

@[simp] theorem xlateResult_reqsOf (s : State) :
    reqsOf (xlateResult s) = reqsOf (s) := by
  unfold xlateResult
  simp [reqs_reqsOf]

@[simp] theorem clearFlags_reqsOf (g : Nat) (s : State) :
    reqsOf (clearFlags g s) = reqsOf (s) := by
  unfold clearFlags
  simp

@[simp] theorem openCtx_reqsOf (g : Nat) (s : State) :
    reqsOf (openCtx g s) = reqsOf (s) := by
  unfold openCtx
  (repeat' split) <;> simp

@[simp] theorem dropWaiting_reqsOf (g : Nat) (s : State) :
    reqsOf (dropWaiting g s) = reqsOf (s) := by
  unfold dropWaiting
  simp [reqs_reqsOf]

@[simp] theorem abortCtx_reqsOf (g : Nat) (s : State) :
    reqsOf (abortCtx g s) = reqsOf (s) := by
  unfold abortCtx
  simp

@[simp] theorem writeTag_reqsOf (w : Writer) (g tag parts : Nat) (s : State) :
    reqsOf (writeTag w g tag parts s) = reqsOf (s) := by
  unfold writeTag
  simp

@[simp] theorem sendPrepare_reqsOf (g : Nat) (s : State) :
    reqsOf (sendPrepare g s) = reqsOf (s) := by
  unfold sendPrepare
  simp

@[simp] theorem holdTimeout_reqsOf (g : Nat) (s : State) :
    reqsOf (holdTimeout g s) = reqsOf (s) := by
  unfold holdTimeout
  simp

@[simp] theorem setBallots_reqsOf (l : List Ballot) (s : State) :
    reqsOf (setBallots l s) = reqsOf (s) := by
  unfold setBallots
  simp [reqs_reqsOf]

@[simp] theorem issueBallot_reqsOf (g : Nat) (s : State) :
    reqsOf (issueBallot g s) = reqsOf (s) := by
  unfold issueBallot
  simp [reqs_reqsOf]

@[simp] theorem slipBallot_reqsOf (g : Nat) (s : State) :
    reqsOf (slipBallot g s) = reqsOf (s) := by
  unfold slipBallot
  simp [reqs_reqsOf]

@[simp] theorem ballotInsert_reqsOf (g : Nat) (free : Bool) (phase : Nat) (s : State) :
    reqsOf (ballotInsert g free phase s) = reqsOf (s) := by
  unfold ballotInsert
  simp

@[simp] theorem tallyInsert_reqsOf (tag coord segment : Nat) (s : State) :
    reqsOf (tallyInsert tag coord segment s) = reqsOf (s) := by
  unfold tallyInsert
  simp

@[simp] theorem tallyPassed_reqsOf (tag coord src yes : Nat) (no : Bool) (segment : Nat) (s : State) :
    reqsOf (tallyPassed tag coord src yes no segment s) = reqsOf (s) := by
  unfold tallyPassed
  simp

@[simp] theorem decide__reqsOf (b : Ballot) (commit : Bool) (s : State) :
    reqsOf (decide_ b commit s) = reqsOf (s) := by
  unfold decide_
  simp [reqs_reqsOf]

@[simp] theorem tallyDeadline_reqsOf (g : Nat) (s : State) :
    reqsOf (tallyDeadline g s) = reqsOf (s) := by
  unfold tallyDeadline
  (repeat' split) <;> simp

@[simp] theorem decisionReceived_reqsOf (tag coord : Nat) (commit : Bool) (frame effective : Nat) (s : State) :
    reqsOf (decisionReceived tag coord commit frame effective s) = reqsOf (s) := by
  unfold decisionReceived
  dsimp only
  (repeat' split) <;> simp

@[simp] theorem tellOutcome_reqsOf (g code : Nat) (s : State) :
    reqsOf (tellOutcome g code s) = reqsOf (s) := by
  unfold tellOutcome
  simp

@[simp] theorem noteQuery_reqsOf (g : Nat) (s : State) :
    reqsOf (noteQuery g s) = reqsOf (s) := by
  unfold noteQuery
  simp [reqs_reqsOf]

@[simp] theorem queryReceived_reqsOf (tag coord frame querier : Nat) (s : State) :
    reqsOf (queryReceived tag coord frame querier s) = reqsOf (s) := by
  unfold queryReceived
  (repeat' split) <;> simp

@[simp] theorem sealComplete_reqsOf (g : Nat) (s : State) :
    reqsOf (sealComplete g s) = reqsOf (s) := by
  unfold sealComplete
  (repeat' split) <;> simp

@[simp] theorem replaced_reqsOf (r : SealRec) (ch die : Nat) (isSeal : Bool) (s : State) :
    reqsOf ((replaced r ch die isSeal s).2) = reqsOf (s) := by
  unfold replaced
  simp

@[simp] theorem moveMetadata_reqsOf (l : Loc) (s : State) :
    reqsOf (moveMetadata l s) = reqsOf (s) := by
  unfold moveMetadata
  simp [reqs_reqsOf]

@[simp] theorem checkpointStart_reqsOf (s : State) :
    reqsOf (checkpointStart s) = reqsOf (s) := by
  unfold checkpointStart
  simp [reqs_reqsOf]

@[simp] theorem writeMaps_reqsOf (s : State) :
    reqsOf (writeMaps s) = reqsOf (s) := by
  unfold writeMaps
  (repeat' split) <;> simp

@[simp] theorem checkpointDone_reqsOf (s : State) :
    reqsOf (checkpointDone s) = reqsOf (s) := by
  unfold checkpointDone
  (repeat' split) <;> simp [reqs_reqsOf]

@[simp] theorem writePeek_reqsOf (index : Nat) (s : State) :
    reqsOf (writePeek index s) = reqsOf (s) := by
  unfold writePeek
  simp [reqs_reqsOf]

@[simp] theorem peekResult_reqsOf (s : State) :
    reqsOf (peekResult s) = reqsOf (s) := by
  unfold peekResult
  simp [reqs_reqsOf]

@[simp] theorem setEng_reqsOf (f : Eng → Eng) (s : State) :
    reqsOf (setEng f s) = reqsOf (s) := by
  unfold setEng
  simp [reqs_reqsOf]

@[simp] theorem capDetect_reqsOf (s : State) :
    reqsOf (capDetect s) = reqsOf (s) := by
  unfold capDetect
  simp

@[simp] theorem packIn_reqsOf (s : State) :
    reqsOf (packIn s) = reqsOf (s) := by
  unfold packIn
  simp

@[simp] theorem packOut_reqsOf (s : State) :
    reqsOf (packOut s) = reqsOf (s) := by
  unfold packOut
  simp

@[simp] theorem rested_reqsOf (s : State) :
    reqsOf (rested s) = reqsOf (s) := by
  unfold rested
  simp

@[simp] theorem fullAnchored_reqsOf (s : State) :
    reqsOf (fullAnchored s) = reqsOf (s) := by
  unfold fullAnchored
  simp

@[simp] theorem teach_reqsOf (s : State) :
    reqsOf (teach s) = reqsOf (s) := by
  unfold teach
  (repeat' split) <;> simp

@[simp] theorem emptyAnchored_reqsOf (s : State) :
    reqsOf (emptyAnchored s) = reqsOf (s) := by
  unfold emptyAnchored
  simp

@[simp] theorem startExercise_reqsOf (s : State) :
    reqsOf (startExercise s) = reqsOf (s) := by
  unfold startExercise
  simp [reqs_reqsOf]

@[simp] theorem stopExercise_reqsOf (s : State) :
    reqsOf (stopExercise s) = reqsOf (s) := by
  unfold stopExercise
  simp

@[simp] theorem exerciseExpired_reqsOf (s : State) :
    reqsOf (exerciseExpired s) = reqsOf (s) := by
  unfold exerciseExpired
  (repeat' split) <;> simp

@[simp] theorem resetLearned_reqsOf (s : State) :
    reqsOf (resetLearned s) = reqsOf (s) := by
  unfold resetLearned
  simp

@[simp] theorem putSlot_reqsOf (k : Nat) (ws : List Word) (s : State) :
    reqsOf (putSlot k ws s) = reqsOf (s) := by
  unfold putSlot
  simp

@[simp] theorem writeLearned_reqsOf (words : Nat) (s : State) :
    reqsOf (writeLearned words s) = reqsOf (s) := by
  unfold writeLearned
  simp

@[simp] theorem startCapTest_reqsOf (s : State) :
    reqsOf (startCapTest s) = reqsOf (s) := by
  unfold startCapTest
  simp [reqs_reqsOf]

@[simp] theorem vinFalls_reqsOf (s : State) :
    reqsOf (vinFalls s) = reqsOf (s) := by
  unfold vinFalls
  simp

@[simp] theorem drainDone_reqsOf (s : State) :
    reqsOf (drainDone s) = reqsOf (s) := by
  unfold drainDone
  simp

@[simp] theorem presealEnd_reqsOf (s : State) :
    reqsOf (presealEnd s) = reqsOf (s) := by
  unfold presealEnd
  simp

@[simp] theorem writeIntent_reqsOf (s : State) :
    reqsOf (writeIntent s) = reqsOf (s) := by
  unfold writeIntent
  simp

@[simp] theorem writeUndo_reqsOf (s : State) :
    reqsOf (writeUndo s) = reqsOf (s) := by
  unfold writeUndo
  simp [reqs_reqsOf]

@[simp] theorem writeHold_reqsOf (s : State) :
    reqsOf (writeHold s) = reqsOf (s) := by
  unfold writeHold
  simp

@[simp] theorem writeGather_reqsOf (s : State) :
    reqsOf (writeGather s) = reqsOf (s) := by
  unfold writeGather
  simp

@[simp] theorem saveDelta_reqsOf (s : State) :
    reqsOf (saveDelta s) = reqsOf (s) := by
  unfold saveDelta
  simp [reqs_reqsOf]

@[simp] theorem saveRecord_reqsOf (k : RecKind) (s : State) :
    reqsOf (saveRecord k s) = reqsOf (s) := by
  unfold saveRecord
  (repeat' split) <;> simp

@[simp] theorem recordWritten_reqsOf (k : RecKind) (s : State) :
    reqsOf (recordWritten k s) = reqsOf (s) := by
  unfold recordWritten
  (repeat' split) <;> simp

@[simp] theorem resume_reqsOf (w : Writer) (s : State) :
    reqsOf (resume w s) = reqsOf (s) := by
  unfold resume
  simp

@[simp] theorem saveIncomplete_reqsOf (s : State) :
    reqsOf (saveIncomplete s) = reqsOf (s) := by
  unfold saveIncomplete
  simp

@[simp] theorem setRsr_reqsOf (f : Rsr → Rsr) (s : State) :
    reqsOf (setRsr f s) = reqsOf (s) := by
  unfold setRsr
  simp [reqs_reqsOf]

@[simp] theorem takeRestoreCfg_reqsOf (s : State) :
    reqsOf (takeRestoreCfg s) = reqsOf (s) := by
  unfold takeRestoreCfg
  simp [reqs_reqsOf]

@[simp] theorem sampleFromManifest_reqsOf (m : Manifest) (s : State) :
    reqsOf (sampleFromManifest m s) = reqsOf (s) := by
  unfold sampleFromManifest
  simp [reqs_reqsOf]

@[simp] theorem lastFromManifest_reqsOf (m : Manifest) (s : State) :
    reqsOf (lastFromManifest m s) = reqsOf (s) := by
  unfold lastFromManifest
  simp

@[simp] theorem endCutMigration_reqsOf (s : State) :
    reqsOf (endCutMigration s) = reqsOf (s) := by
  unfold endCutMigration
  simp

@[simp] theorem selectRecord_reqsOf (g : Nat) (r : SealRec) (s : State) :
    reqsOf (selectRecord g r s) = reqsOf (s) := by
  unfold selectRecord
  simp [reqs_reqsOf]

@[simp] theorem selectNewest_reqsOf (g : Nat) (s : State) :
    reqsOf (selectNewest g s) = reqsOf (s) := by
  unfold selectNewest
  (repeat' split) <;> simp

@[simp] theorem lastFromIntent_reqsOf (i : Intent) (s : State) :
    reqsOf (lastFromIntent i s) = reqsOf (s) := by
  unfold lastFromIntent
  simp

@[simp] theorem lastUnsaved_reqsOf (s : State) :
    reqsOf (lastUnsaved s) = reqsOf (s) := by
  unfold lastUnsaved
  simp

@[simp] theorem doubtExpired_reqsOf (s : State) :
    reqsOf (doubtExpired s) = reqsOf (s) := by
  unfold doubtExpired
  simp

@[simp] theorem admitted_reqsOf (s : State) :
    reqsOf (admitted s) = reqsOf (s) := by
  unfold admitted
  simp [reqs_reqsOf]

@[simp] theorem demandWaited_reqsOf (g : Nat) (s : State) :
    reqsOf (demandWaited g s) = reqsOf (s) := by
  unfold demandWaited
  simp

@[simp] theorem imageDone_reqsOf (s : State) :
    reqsOf (imageDone s) = reqsOf (s) := by
  unfold imageDone
  simp [reqs_reqsOf]

@[simp] theorem twinResult_reqsOf (r : Nat) (s : State) :
    reqsOf (twinResult r s) = reqsOf (s) := by
  unfold twinResult
  simp

@[simp] theorem pairTwin_reqsOf (s : State) :
    reqsOf (pairTwin s) = reqsOf (s) := by
  unfold pairTwin
  simp

@[simp] theorem unpairTwin_reqsOf (w : Writer) (s : State) :
    reqsOf (unpairTwin w s) = reqsOf (s) := by
  unfold unpairTwin
  simp

@[simp] theorem reattachTwin_reqsOf (s : State) :
    reqsOf (reattachTwin s) = reqsOf (s) := by
  unfold reattachTwin
  simp

@[simp] theorem twinHasFailed_reqsOf (s : State) :
    reqsOf (twinHasFailed s) = reqsOf (s) := by
  unfold twinHasFailed
  simp

@[simp] theorem setPromoted_reqsOf (b : Bool) (s : State) :
    reqsOf (setPromoted b s) = reqsOf (s) := by
  unfold setPromoted
  simp

@[simp] theorem demoteTwin_reqsOf (w : Writer) (s : State) :
    reqsOf (demoteTwin w s) = reqsOf (s) := by
  unfold demoteTwin
  simp

@[simp] theorem fromTwin_reqsOf (f : State → State) (s : State) (hf : ∀ t : State, reqsOf (f t) = reqsOf (t)) :
    reqsOf (fromTwin f s) = reqsOf (s) := by
  unfold fromTwin
  simp [hf]

@[simp] theorem heartbeat_reqsOf (h : HeartbeatIn) (s : State) :
    reqsOf (heartbeat h s) = reqsOf (s) := by
  unfold heartbeat
  simp

@[simp] theorem unprepare_reqsOf (c : Nat) (s : State) :
    reqsOf (unprepare c s) = reqsOf (s) := by
  unfold unprepare
  simp

@[simp] theorem sealReported_reqsOf (seq gen : Nat) (s : State) :
    reqsOf (sealReported seq gen s) = reqsOf (s) := by
  unfold sealReported
  simp

@[simp] theorem prepareRemote_reqsOf (c tag : Nat) (s : State) :
    reqsOf (prepareRemote c tag s) = reqsOf (s) := by
  unfold prepareRemote
  simp

@[simp] theorem twinHoldFull_reqsOf (g : Nat) (s : State) :
    reqsOf (twinHoldFull g s) = reqsOf (s) := by
  unfold twinHoldFull
  simp

@[simp] theorem restartReconcile_reqsOf (s : State) :
    reqsOf (restartReconcile s) = reqsOf (s) := by
  unfold restartReconcile
  simp

@[simp] theorem agree_reqsOf (home : Bool) (gen : Nat) (s : State) :
    reqsOf (agree home gen s) = reqsOf (s) := by
  unfold agree
  simp

@[simp] theorem attachWhenDone_reqsOf (s : State) :
    reqsOf (attachWhenDone s) = reqsOf (s) := by
  unfold attachWhenDone
  simp

@[simp] theorem planAcked_reqsOf (s : State) :
    reqsOf (planAcked s) = reqsOf (s) := by
  unfold planAcked
  (repeat' split) <;> simp

@[simp] theorem regionDone_reqsOf (home : Bool) (gen : Nat) (s : State) :
    reqsOf (regionDone home gen s) = reqsOf (s) := by
  unfold regionDone
  simp

@[simp] theorem waitBootExpired_reqsOf (s : State) :
    reqsOf (waitBootExpired s) = reqsOf (s) := by
  unfold waitBootExpired
  simp

@[simp] theorem repairRequested_reqsOf (line : Nat) (s : State) :
    reqsOf (repairRequested line s) = reqsOf (s) := by
  unfold repairRequested
  simp

@[simp] theorem cellIn_reqsOf (ringB crcOk : Bool) (f : State → State) (s : State) (hf : ∀ t : State, reqsOf (f t) =
    reqsOf (t)) :
    reqsOf (cellIn ringB crcOk f s) = reqsOf (s) := by
  unfold cellIn
  simp [hf]

@[simp] theorem newMaster_reqsOf (id : BitVec 64) (s : State) :
    reqsOf (newMaster id s) = reqsOf (s) := by
  unfold newMaster
  simp

@[simp] theorem takeTable_reqsOf (ids : List (Nat × BitVec 64)) (s : State) :
    reqsOf (takeTable ids s) = reqsOf (s) := by
  unfold takeTable
  simp [reqs_reqsOf]

@[simp] theorem fenceCell_reqsOf (src frame : Nat) (s : State) :
    reqsOf (fenceCell src frame s) = reqsOf (s) := by
  unfold fenceCell
  simp [reqs_reqsOf]

@[simp] theorem retryFailed_reqsOf (r cause : Nat) (s : State) :
    reqsOf (retryFailed r cause s) = reqsOf (s) := by
  unfold retryFailed
  simp [reqs_reqsOf]

@[simp] theorem depCut_reqsOf (r : Nat) (s : State) :
    reqsOf (depCut r s) = reqsOf (s) := by
  unfold depCut
  simp

@[simp] theorem switchDone_reqsOf (d : Nat) (s : State) :
    reqsOf (switchDone d s) = reqsOf (s) := by
  unfold switchDone
  (repeat' split) <;> simp

@[simp] theorem holdRequests_reqsOf (low : Nat) (s : State) :
    reqsOf (holdRequests low s) = reqsOf (s) := by
  unfold holdRequests
  simp [reqs_reqsOf]

@[simp] theorem clearSticky_reqsOf (page : Nat) (high : Bool) (mask : Nat) (s : State) :
    reqsOf (clearSticky page high mask s) = reqsOf (s) := by
  unfold clearSticky
  simp

@[simp] theorem rearmLatch_reqsOf (s : State) :
    reqsOf (rearmLatch s) = reqsOf (s) := by
  unfold rearmLatch
  simp [reqs_reqsOf]

@[simp] theorem writeLevel_reqsOf (w : Writer) (level : Nat) (s : State) :
    reqsOf (writeLevel w level s) = reqsOf (s) := by
  unfold writeLevel
  simp

@[simp] theorem gatherPush_reqsOf (q : Nat) (p : Producer) (type : Nat) (payload : List (BitVec 16)) (s : State) :
    reqsOf (gatherPush q p type payload s) = reqsOf (s) := by
  unfold gatherPush
  simp

@[simp] theorem slotFollow_reqsOf (b : Nat) (s : State) :
    reqsOf (slotFollow b s) = reqsOf (s) := by
  unfold slotFollow
  (repeat' split) <;> simp

@[simp] theorem carMode_reqsOf (b m : Nat) (s : State) :
    reqsOf (carMode b m s) = reqsOf (s) := by
  unfold carMode
  simp

@[simp] theorem seqErr_reqsOf (b : Nat) (s : State) :
    reqsOf (seqErr b s) = reqsOf (s) := by
  unfold seqErr
  simp

@[simp] theorem carRefuse_reqsOf (b bits : Nat) (s : State) :
    reqsOf (carRefuse b bits s) = reqsOf (s) := by
  unfold carRefuse
  simp

@[simp] theorem carStart_reqsOf (b : Nat) (x : CarOp) (s : State) :
    reqsOf (carStart b x s) = reqsOf (s) := by
  unfold carStart
  simp

@[simp] theorem wordNow_reqsOf (o : Nat) (s : State) :
    reqsOf ((wordNow o s).2) = reqsOf (s) := by
  unfold wordNow
  split <;> simp

@[simp] theorem carProgram_reqsOf (b o data : Nat) (s : State) :
    reqsOf (carProgram b o data s) = reqsOf (s) := by
  unfold carProgram
  dsimp only
  (repeat' split) <;> simp [reqs_reqsOf]

@[simp] theorem carProgramOption_reqsOf (o data : Nat) (s : State) :
    reqsOf (carProgramOption o data s) = reqsOf (s) := by
  unfold carProgramOption
  dsimp only
  (repeat' split) <;> simp [reqs_reqsOf]

@[simp] theorem carErase_reqsOf (b block : Nat) (s : State) :
    reqsOf (carErase b block s) = reqsOf (s) := by
  unfold carErase
  (repeat' split) <;> simp [reqs_reqsOf]

@[simp] theorem carEraseOption_reqsOf (copy : Nat) (s : State) :
    reqsOf (carEraseOption copy s) = reqsOf (s) := by
  unfold carEraseOption
  simp

@[simp] theorem carOperand_reqsOf (b code off data : Nat) (s : State) :
    reqsOf (carOperand b code off data s) = reqsOf (s) := by
  unfold carOperand
  simp

@[simp] theorem carCode_reqsOf (b code : Nat) (s : State) :
    reqsOf (carCode b code s) = reqsOf (s) := by
  unfold carCode
  simp

@[simp] theorem carSuspend_reqsOf (b : Nat) (s : State) :
    reqsOf (carSuspend b s) = reqsOf (s) := by
  unfold carSuspend
  dsimp only
  (repeat' split) <;> simp

@[simp] theorem carResume_reqsOf (b : Nat) (s : State) :
    reqsOf (carResume b s) = reqsOf (s) := by
  unfold carResume
  dsimp only
  (repeat' split) <;> simp

@[simp] theorem carStep_reqsOf (b : Nat) (x : CarWrite) (s : State) :
    reqsOf (carStep b x s) = reqsOf (s) := by
  unfold carStep
  simp

@[simp] theorem carWrite_reqsOf (x : CarWrite) (s : State) :
    reqsOf (carWrite x s) = reqsOf (s) := by
  unfold carWrite
  (repeat' split) <;> simp

@[simp] theorem carWrites_reqsOf (ws : List CarWrite) (s : State) :
    reqsOf (carWrites ws s) = reqsOf (s) := by
  unfold carWrites
  simp

@[simp] theorem carEffect_reqsOf (x : CarOp) (s : State) :
    reqsOf (carEffect x s) = reqsOf (s) := by
  unfold carEffect
  simp [reqs_reqsOf]

@[simp] theorem carId_reqsOf (b w : Nat) (s : State) :
    reqsOf (carId b w s) = reqsOf (s) := by
  unfold carId
  simp

@[simp] theorem writeActivate_reqsOf (w : Writer) (c : Nat) (slotB : Bool) (s : State) :
    reqsOf (writeActivate w c slotB s) = reqsOf (s) := by
  unfold writeActivate
  simp

@[simp] theorem compacted_reqsOf (s : State) :
    reqsOf (compacted s) = reqsOf (s) := by
  unfold compacted
  simp [reqs_reqsOf]

@[simp] theorem setTap_reqsOf (t : TapInstr) (kind : String) (s : State) :
    reqsOf (setTap t kind s) = reqsOf (s) := by
  unfold setTap
  simp [reqs_reqsOf]

@[simp] theorem regionsFollow_reqsOf (s : State) :
    reqsOf (regionsFollow s) = reqsOf (s) := by
  unfold regionsFollow
  simp

@[simp] theorem writeBits_reqsOf (v : Nat) (l : List (State → State)) (s : State) (hl : ∀ f ∈ l, ∀ t : State, reqsOf
    (f t) = reqsOf (t)) :
    reqsOf (writeBits v l s) = reqsOf (s) := by
  unfold writeBits
  have h' : ∀ e ∈ (List.range l.length).zip l, ∀ t : State, reqsOf (e.2 t) = reqsOf t :=
    fun e he => hl e.2 (List.of_mem_zip he).2
  generalize (List.range l.length).zip l = z at h'
  induction z generalizing s with
  | nil => rfl
  | cons e z ih =>
    have h1 := ih (when (bitOf v e.1) e.2 s) fun d hd => h' d (List.mem_cons_of_mem _ hd)
    exact h1.trans (when_reqsOf _ _ _ (h' e (List.mem_cons_self ..)))

@[simp] theorem writeSource_reqsOf (w : Writer) (n v phase : Nat) (s : State) :
    reqsOf (writeSource w n v phase s) = reqsOf (s) := by
  unfold writeSource
  simp

@[simp] theorem writeBlockQuery_reqsOf (v : Nat) (s : State) :
    reqsOf (writeBlockQuery v s) = reqsOf (s) := by
  unfold writeBlockQuery
  simp

@[simp] theorem readEffect_reqsOf (addr : Nat) (s : State) :
    reqsOf (readEffect addr s) = reqsOf (s) := by
  unfold readEffect
  simp [reqs_reqsOf]

@[simp] theorem busRead_reqsOf (off n : Nat) (s : State) :
    reqsOf ((busRead off n s).2) = reqsOf (s) := by
  unfold busRead
  simp

@[simp] theorem readRegister_reqsOf (addr : Nat) (s : State) :
    reqsOf (readRegister addr s) = reqsOf (s) := by
  unfold readRegister
  simp

@[simp] theorem windowWrite_reqsOf (x_off x_data : Nat) (s : State) :
    reqsOf (windowWrite x_off x_data s) = reqsOf (s) := by
  unfold windowWrite
  simp

end Sys2Proof.Machine
end

