-- ==== Sys2Proof/WellFormed.lean ====
section
/-! DEFINITION. Which commands are well-formed: operands that the interface which carries them can spell. A command
that the controller refuses by a rule of its own (a discarded register write, a wrong code sequence, a request for an
address that no decoder maps) is well-formed all the same. -/

namespace Sys2Proof

/-- Fabric cycles in a frame (R52). -/
def framePhases : Nat := 40000

/-- A cell names a member by a 9-bit index (R357). -/
def wfIndex (i : Nat) : Bool := decide (i < 512)

/-- A Marver entry is named by a 25-bit index (`MRV.PEEK_IDX`). -/
def wfGranule (g : Nat) : Bool := decide (g < 2 ^ 25)

/-- A location of the flash map: 5, 4, 13 and 10 bits (R211). -/
def wfLoc (l : Loc) : Bool :=
  decide (l.ch < 32) && decide (l.die < 16) && decide (l.block < 8192) && decide (l.page < 1024)

/-- A line address of CXL.mem in one of the ranges of R80; a window range spans 16 times 2^k bytes (R81). -/
def wfAddr : HostAddr → Bool
  | .home o => o % 64 == 0 && decide (o < 2 ^ 40)
  | .window o => o % 64 == 0 && decide (o < 2 ^ 44)
  | .mirror o => o % 64 == 0 && decide (o < 2 ^ 39)

/-- A bank address of a rank: 8 groups of 4 banks (R138). -/
def wfBank (b : Nat) : Bool := decide (b < 128)

/-- The code of an 18-bit converter (R252). -/
def wfCode (v : Nat) : Bool := decide (v < 2 ^ 18)

/-- The conversions of a frame lie in the converters' ranges (R252). -/
def wfSamples (x : GaugeSamples) : Bool :=
  wfCode x.vin && wfCode x.vcap && wfCode x.vbat && decide (-131072 ≤ x.ibat) && decide (x.ibat < 131072) &&
  decide (-640 ≤ x.tStore) && decide (x.tStore ≤ 2000)

/-- What a tick is given. -/
def wfTick (x : TickIn) : Bool := wfSamples x.samples && x.moves.all (fun m => wfGranule m.granule && wfLoc m.src && wfLoc m.dst)

/-- A write into the aperture of the code array: a word address in the two banks or the option window (R446). -/
def wfCarWrite (x : CarWrite) : Bool := x.off % 4 == 0 && decide (x.off < 0x2001000)

/-- The command code that a sequence of R449 gives in its third write, with the writes after it. -/
def carCommand (code operands : Nat) (ws : List CarWrite) : Bool :=
  ws.all wfCarWrite && ws.length == 3 + operands &&
  (ws[2]?.map (fun x => x.data.toNat % 65536 == code)).getD false

/-- The population that power-on finds, as far as the straps and the scans can spell it (R1, R493): limits of R2 are
the controller's to judge (R3). -/
def wfPopulation (x : PowerOnIn) : Bool :=
  decide (x.ranksPerChannel ≤ 4) && decide (x.dies ≤ 16) && decide (x.blocksPerDie ≤ 8192) &&
  decide (x.pagesPerBlock ≤ 1024) && decide (x.exposedGib < 65536)

/-- A command whose operands its interface can spell. -/
def WellFormed : Instr → Bool
  | .frameTick x => wfTick x
  | .gatherLingerFlush .. | .syncMarker .. | .syncLocked .. | .syncLost .. | .frmSrcModeWrite ..
  | .frameCountRead .. => true
  | .registerWrite _ _ eight be _ phase => decide (phase < framePhases) && (eight || be.toNat < 16)
  | .enable .. | .abort .. | .abortDone .. | .reset .. | .freeze .. | .frozen .. | .commitShadow .. | .lock ..
  | .finjArm .. | .finjDisarm .. | .finjKeyWrite .. | .finjKeyTimeout .. | .capAck .. | .mgmtPortChange ..
  | .irqFind .. | .irqFindDone .. | .irqHoldoffExpiry .. | .pllLockLoss .. | .pllRelock ..
  | .pllRelockTimeout .. | .xtalCheck .. | .frameWatchdog .. => true
  | .memrd _ a _ _ => wfAddr a
  | .memwr _ a _ _ _ _ => wfAddr a
  | .memwrptl _ a _ _ _ _ _ => wfAddr a
  | .meminv _ a _ => wfAddr a
  | .cxlMemUnsupported .. | .writeCompletion .. | .readCompletion .. | .configRequest .. | .cfgReady ..
  | .hpPerstAssert .. | .hpPerstRelease .. | .linkTrained .. | .linkDown .. => true
  | .hdmCommit _ _ _ ways => decide (1 ≤ ways)
  | .gpfPhase1 .. | .gpfPhase2 .. | .viralReceived .. | .identify .. | .getEventRecords ..
  | .clearEventRecords .. | .getEventInterruptPolicy .. | .setEventInterruptPolicy .. | .getFwInfo ..
  | .transferFw .. | .getTimestamp .. => true
  | .setTimestamp _ t => decide (t < 2 ^ 64)
  | .getSupportedLogs .. | .getLog .. | .identifyMemoryDevice .. | .getPartitionInfo .. | .getHealthInfo ..
  | .getAlertConfiguration .. | .setAlertConfiguration .. | .getShutdownState .. | .setShutdownState ..
  | .getPoisonList .. => true
  | .injectPoison _ a => a % 64 == 0
  | .clearPoison _ a _ _ => a % 64 == 0
  | .getPersistenceState .. | .acknowledgeCapacity .. | .readContinuityRecord .. | .getRestoreProgress ..
  | .mailboxUnsupported .. => true
  | .dramCommandIssue _ _ bankReady actReady => bankReady.all wfBank && actReady.all wfBank
  | .urgencyUpdate .. => true
  | .pageIdleExpiry _ _ bank => wfBank bank
  | .pdTimerExpiry .. | .refreshInterval .. | .refreshIssue .. | .hotClear .. | .writeCrcError ..
  | .dramReadDone .. | .twinRepairTimeout .. | .sealedCopyFetchDone .. | .ceWindowStart .. | .migrationCopy ..
  | .migDone .. | .dramTrainingDone .. | .retrain .. | .retrainDone .. | .pasrRequest .. | .pasrDone ..
  | .xlate .. | .xlateDone .. | .ctxOpen .. | .ctxAbort .. | .ctxTagWrite .. => true
  | .txnCommit _ _ phase => decide (phase < framePhases)
  | .holdStallTimeout .. | .clearingDone .. | .replayLine .. | .replayDone .. => true
  | .ballotInsert _ _ phase => decide (phase < framePhases)
  | .ballot _ parts coord _ => decide (parts < 1024) && wfIndex coord
  | .tallyInsert _ coord _ => wfIndex coord
  | .tally _ coord src votes _ _ => wfIndex coord && wfIndex src && decide (votes.yes < 1024)
  | .tallyDeadline .. => true
  | .decision _ coord _ _ _ _ => wfIndex coord
  | .resolveAttempt .. => true
  | .query _ coord _ querier _ => wfIndex coord && wfIndex querier
  | .answer _ querier _ _ _ => wfIndex querier
  | .domForce .. => true
  | .lehrPick die _ _ _ => decide (die < 16)
  | .sealComplete granule => wfGranule granule
  | .nandProgramFail granule die => wfGranule granule && decide (die < 16)
  | .nandEraseDone at_ _ => wfLoc at_
  | .nandReadDone at_ _ _ => wfLoc at_
  | .dieTimeout .. => true
  | .moveDone granule => wfGranule granule
  | .checkpointStart .. | .ckptDone .. | .freeSpaceLow .. | .fullRecount .. | .fullRecountDone .. | .peek ..
  | .peekDone .. | .capBankDetected .. | .capBankTimeout .. | .converterFault .. | .batIn .. | .batOut ..
  | .restDone .. | .fullAnchor .. | .emptyAnchor .. | .disagree .. | .chargerPoll .. | .exerciseStart ..
  | .exerciseStop .. | .exerciseTimeout .. | .learnResetDefaults .. | .learnRecordWrite .. | .capTestStart .. |
    .capTestEnd .. => true
  | .qcntRead .. | .pfail .. | .vinComparatorTrip .. | .chipReset .. | .drainDone .. | .drainTimeout ..
  | .presealDone .. | .rideMaxExpired .. | .warmReturn .. | .manifestProgrammed .. | .resume ..
  | .undervoltageLimit .. | .restoreStart .. | .manifestLocated .. | .manifestValidated ..
  | .recoveryScanDone .. | .metaDone .. | .rollbackDone .. | .doubtWaitExpired .. | .admitted .. => true
  | .restoreGranuleDone granule _ => wfGranule granule
  | .imageDone .. | .pair .. | .unpair .. | .detach .. | .reattach .. | .twinFailed .. | .promote ..
  | .demote .. => true
  | .heartbeat h => decide (h.frame < 2 ^ 48) && decide (h.state < 8)
  | .twinLost .. | .fenceMessage .. | .detachMessage .. => true
  | .hello h => decide (h.granSize < 4) && decide (h.homeGib ≤ 512) && decide (h.state < 8)
  | .plan .. | .planAck .. | .regionDone .. | .reconcileTimeout .. | .waitBootExpired .. | .prepare .. => true
  | .prepareAck _ phase => decide (phase < framePhases)
  | .commitN .. | .abortedN .. | .holdFull .. | .sealN .. | .mirrorAck .. | .mirrorWrite .. | .repairRequest ..
  | .repairReply .. => true
  | .granuleCopy _ granule image _ => wfGranule granule && image.all (fun c => decide (c.1 < 0x20000))
  | .puntyRetrain .. | .puntyLinkUp .. | .sync .. | .electing .. | .claim .. | .elected .. => true
  | .enum count _ ids _ _ => decide (count < 1024) && ids.all (fun e => wfIndex e.1)
  | .break_ index _ _ _ => wfIndex index
  | .spanBroken .. | .spanHealed .. | .leave .. => true
  | .fenceCell src _ _ => wfIndex src
  | .vaonPowerUp x => wfPopulation x
  | .powerOnRestart .. | .aonReset .. | .railPgDebounced .. | .railStepTimeout .. | .backoffExpired ..
  | .bootAttemptRetry .. | .railLoss .. | .railDischarged .. | .disTimeout .. | .depCut .. => true
  | .domainRequest _ _ _ phase => decide (phase < framePhases)
  | .domainSwitchAck .. | .ackFail .. => true
  | .faultRaise _ reason inst _ _ _ phase =>
    decide (reason < 256) && decide (inst < 65536) && decide (phase < framePhases)
  | .sourceLiveClear .. | .firstIdRead .. | .stickyClear .. | .rearm .. | .errPulseEnd .. | .errPinRelease ..
  | .collectorSelfFault .. | .safeEnter .. | .safeExit .. | .selftestLate .. | .aonSelftest ..
  | .pinReadbackFault .. | .saveTriggerCrosscheck .. => true
  | .gatherPush _ _ _ payload => decide (payload.length ≤ 251)
  | .read .. | .mark .. | .rewind .. | .release .. | .flush .. => true
  | .program ws => carCommand 0xA9 1 ws
  | .erase ws => carCommand 0xE3 1 ws
  | .suspend x => wfCarWrite x
  | .resumeOperation x => wfCarWrite x
  | .readStatus ws => carCommand 0x57 0 ws
  | .clearStatus ws => carCommand 0x75 0 ws
  | .readArray ws => carCommand 0x99 0 ws
  | .readId ws => carCommand 0x9A 0 ws
  | .optionProgram ws => carCommand 0xA6 1 ws
  | .opDone .. => true
  | .arrayRead _ off _ => off % 4 == 0
  | .fetchTrap .. | .activate .. | .confirm .. | .acceptDefaults .. | .revert .. | .restart ..
  | .autoConfirm .. | .settingsCompaction .. | .bypass .. | .idcode .. | .samplePreload .. | .extest ..
  | .clamp .. | .tapReset .. | .pllLocked .. | .nandInterfaceTrainingDone .. | .recordProgrammed .. => true

end Sys2Proof
end

