-- ==== Sys2Proof/Tests/Slice0.lean ====
section
/-! SUPPORT. Tests of this row: an ill-formed command for each check of WellFormed, for each statement of the row concrete
states and operands that meet the hypotheses of its clauses, and single commands on small states with what the spec gives
for them. -/

namespace Sys2Proof.Tests
open Sys2Proof.Machine
set_option Elab.async false

/-- A state with the register fields of `l` at the given values. -/
def put (l : List (Fld × Nat)) (s : State) : State := { s with regs := l.map (fun x => (x.1.key, x.2)) ++ s.regs }

/-- The state meets the condition. -/
abbrev Meets (s : State) (P : State → Prop) : Prop := P s

/-- An admitted single device: ports 0 and 1, one DRAM group, a pack, 1 GiB exposed, every domain on. -/
def base : State :=
  put ((List.range 52).map (fun d => (Reg.PDM.DOM_CTL_STATE d, 0)) ++
    [(Reg.SYS.CAPS_HP_PRESENT, 3), (Reg.SYS.CAPS_HP_X16, 3), (Reg.SYS.CAP_ACK_EXPOSED_GIB, 1), (Reg.SYS.CAPS_DRAM_GROUPS, 1),
      (Reg.SYS.CAPS_NAND_GROUPS, 1), (Reg.SYS.CAPS_BATTERY, 1), (Reg.MRV.MAP_ENTRIES, 65536), (Reg.BLKCTL_ENABLE 8, 1),
      (Reg.HPT.LINK_WIDTH 0, 2), (Reg.SYS.PERSIST_BOOT, 0), (Reg.SAV.STS_ARMED, 1), (Reg.SAV.STS_STATE, 1),
      (Reg.HPT.STS_FENCED 0, 0), (Reg.HPT.STS_CFG_READY 0, 1), (Reg.SPR.RANK_STATE 0, 1),
      (Reg.GQ.SPILL_BASE_BASE_MIB 0, 768), (Reg.GQ.SPILL_BASE_BASE_MIB 1, 832), (Reg.GQ.SPILL_BASE_BASE_MIB 2, 896),
      (Reg.GQ.SPILL_BASE_BASE_MIB 3, 960)])
    { pwr := { vaon := true, firmware := true, serial := 0x1234 }, 
      hp := { perst := [], decoders := [{ port := 0, decoder := 0, size := 2 ^ 30 }, { port := 0, decoder := 1, size := 2 ^ 34 }],
              credits := [64, 64, 0, 0] } }

/-- A pool whose free count is far below 0 has no credit: no pool has 4,096 entries or more. -/
theorem no_credit {a : Nat} {s : State} {r : Bool} (hd : poolReserve a < 256) (hh : (poolOf a s).skew = -9999) :
    creditFor a r s = false := by
  refine creditFor_full ?_ r
  have h : poolSize a ≤ 4096 := by
    unfold poolSize
    have := (Config.poolSize a).isLt
    split
    · split <;> omega
    · split <;> omega
  unfold poolFree
  rw [hh]
  omega
theorem reserve_small (a : Nat) : poolReserve a < 256 := by
  unfold poolReserve
  have := (Config.poolReserve a).isLt
  split
  · omega
  · split <;> omega

theorem witness_StepRunsFrontCommand :
    Meets (State.reset) (fun s => s.pending = []) := by
  decide +kernel

theorem witness_DarkControllerStays :
    Meets (State.reset) (fun s => s.pwr.vaon = false) := by
  decide +kernel

def lingering : State :=
    put [(Reg.BLKCTL_ENABLE 0x90, 1), (Reg.GQ.CFG_LINGER 3, 1)]
    { base with gq := base.gq.map (fun g => { g with packing := [7], idle := 5 }) }
theorem witness_FrameUnitCommands :
    Meets lingering (fun s =>
      Ready s ∧ taskRuns 9 s = true ∧ domainOn 44 s = true ∧ get (Reg.GQ.CFG_LINGER 3) s ≤ (queue 3 s).idle ∧
      (queue 3 s).packing ≠ [] ∧ 3 < s.gq.length) ∧
    Meets (put [(Reg.FRM.SRC_MODE, 1)] base) (fun s =>
      get Reg.FRM.SRC_MODE s = 1 ∧ s.frm.markerSeen = false) ∧
    Meets (put [(Reg.FRM.SRC_MODE, 1), (Reg.FRM.SRC_STATE, 1), (Reg.FRM.SYNC_LOCK_RUN, 50)] base) (fun s =>
      get Reg.FRM.SRC_MODE s = 1 ∧ get Reg.FRM.SRC_STATE s = 1 ∧ 50 ≤ get Reg.FRM.SYNC_LOCK_RUN s) ∧
    Meets (put [(Reg.FRM.SRC_MODE, 1), (Reg.FRM.SRC_STATE, 2), (Reg.FRM.SYNC_MISSED, 3)] base) (fun s =>
      Ready s ∧ 3 ≤ get Reg.FRM.SYNC_MISSED s ∧ get Reg.FRM.SRC_MODE s = 1 ∧ get Reg.FRM.SRC_STATE s = 2 ∧ Fresh 165 s) ∧
    Meets base (fun s =>
      Ready s ∧ Reaches .gaffer 0x110C 1 s ∧ 1 ≠ shown Reg.FRM.SRC_MODE s ∧ isSet (Reg.LOCK_LOCK 1) s = false ∧
      isSet (Reg.BLKCTL_ENABLE 1) s = false ∧ pageBusy 1 s = false) := by
  refine ⟨?_, ?_, ?_, ?_, ?_⟩ <;> decide +kernel

theorem witness_BlockControl :
    Meets base (fun s =>
      Ready s ∧ Reaches .gaffer (ctlAddr 0x42) 1 s ∧ isSet (Reg.BLKCTL_ENABLE 0x42) s = false ∧
      isSet (Reg.BLKSTS_ABORTING 0x42) s = false) ∧
    Meets base (fun s =>
      Reaches .gaffer (ctlAddr 0x40) 1 s ∧ isSet (Reg.BLKCTL_ENABLE 0x40) s = false ∧
      isSet (Reg.BLKSTS_ABORTING 0x40) s = false ∧ homeGranules s * (if s.twn.stored then 2 else 1) ≤ 16777216 ∧
      Reaches .gaffer (ctlAddr 0xA0) 1 s ∧ isSet (Reg.BLKCTL_ENABLE 0xA0) s = false ∧ spillFits 0 s = true) ∧
    Meets (put [(Reg.NFC.SPARE_PERMILLE, 50)] base) (fun s =>
      Reaches .gaffer (ctlAddr 0x50) 1 s ∧ isSet (Reg.BLKCTL_ENABLE 0x50) s = false ∧
      50 ≤ get Reg.NFC.SPARE_PERMILLE s) ∧
    Meets (put [(Reg.SYS.CAP_ACK_EXPOSED_GIB, 1024), (Reg.MRV.CFG_GRAN_IN_USE, 0), (Reg.GQ.SPILL_BASE_BASE_MIB 1, 768)] base) (fun s =>
      Ready s ∧ Reaches .gaffer (ctlAddr 0x40) 1 s ∧ 16777216 < homeGranules s * (if s.twn.stored then 2 else 1) ∧
      Reaches .gaffer (ctlAddr 0xA1) 1 s ∧ isSet (Reg.BLKCTL_ENABLE 0xA1) s = false ∧ spillFits 1 s = false) ∧
    Meets (put [(Reg.BLKSTS_ABORTING 0x42, 1)] base) (fun s =>
      Ready s ∧ Reaches .gaffer (ctlAddr 0x42) (b2n true) s ∧ isSet (Reg.BLKCTL_ENABLE 0x42) s = !true ∧
      isSet (Reg.BLKSTS_ABORTING 0x42) s = true) ∧
    Meets base (fun s =>
      Reaches .gaffer (ctlAddr 0x10) 1 s ∧ isSet (Reg.BLKCTL_ENABLE 0x10) s = false ∧ isSet (Reg.BLKSTS_ABORTING 0x10) s = false) ∧
    Meets (put [(Reg.BLKCTL_ENABLE 0x42, 1)] base) (fun s =>
      Ready s ∧ Reaches .gaffer (ctlAddr 0x42) 0 s ∧ isSet (Reg.BLKCTL_ENABLE 0x42) s = true ∧
      isSet (Reg.BLKSTS_ABORTING 0x42) s = false ∧ (∀ h ∈ s.shadows, h.f.addr / 4096 ≠ 0x42)) ∧
    Meets (put [(Reg.BLKCTL_ENABLE 0x10, 1), (Reg.SYS.PERSIST_FENCED, 1)] base) (fun s =>
      Reaches .gaffer (ctlAddr 0x10) 0 s ∧ isSet (Reg.BLKCTL_ENABLE 0x10) s = true ∧
      isSet (Reg.BLKSTS_ABORTING 0x10) s = false ∧ fenced s = true) ∧
    Meets base (fun s =>
      Ready s ∧ Reaches .gaffer (ctlAddr 0x80) 2 s ∧ Reaches .gaffer (ctlAddr 0x80) 4 s ∧ fenced s = false ∧
      (∀ a ∈ s.frm.aborts, a.1 ≠ 0x80)) ∧
    Meets base (fun s =>
      Reaches .gaffer (ctlAddr 0x43) 4 s ∧ fenced s = false ∧ rsrStage s ≠ 8) ∧
    Meets (put [(Reg.SYS.PERSIST_FENCED, 1)] base) (fun s =>
      Ready s ∧ Reaches .gaffer (ctlAddr 0x80) 2 s ∧ Reaches .gaffer (ctlAddr 0x80) 4 s ∧ fenced s = true) := by
  refine ⟨?_, ?_, ?_, ?_, ?_, ?_, ?_, ?_, ?_, ?_, ?_⟩ <;> decide +kernel

theorem witness_HeaderCommands :
    Meets ({ base with frm := { base.frm with aborts := [(0x80, 2, true)] } }) (fun s =>
      Ready s ∧ pageDark 0x80 s = false ∧ s.frm.aborts.filter (·.1 == 0x80) = [(0x80, 2, true)] ∧
      (∀ e ∈ s.frm.lateEnable, e.1 ≠ 0x80) ∧ (∀ e ∈ s.upd.settings, e.1 / 32 / 4096 ≠ 0x80)) ∧
    Meets base (fun s =>
      Ready s ∧ Reaches .gaffer (ctlAddr 0x10) 8 s ∧ Reaches .gaffer (ctlAddr 0x10) 0 s ∧
      freezeRefused 0x10 = false) ∧
    Meets (put [(Reg.BLKCTL_FREEZE 0x10, 1)] base) (fun s =>
      Ready s ∧ isSet (Reg.BLKCTL_FREEZE 0x10) s = true ∧ pageDark 0x10 s = false ∧
      isSet (Reg.BLKSTS_ABORTING 0x10) s = false) ∧
    Meets base (fun s =>
      Reaches .gaffer (ctlAddr 0x42) 256 s ∧ Reaches .gaffer (0x42 * 4096 + 0x2C) 1 s) := by
  refine ⟨?_, ?_, ?_, ?_⟩ <;> decide +kernel

def keyOpen : State := put [(Reg.SAF.FINJ_KEY_OPEN, 1)] base
theorem witness_InjectionCommands :
    Meets base (fun s =>
      Ready s ∧ Reaches .mgmt 0x97100 0xF17A s ∧ Reaches .mgmt 0x97100 0 s ∧
      Reaches .mgmt (finjAddr 0x44) (0 + 2 * 64 + 256) s ∧ isSet (Reg.LOCK_LOCK 0x44) s = false ∧ fenced s = false ∧
      isSet Reg.SAF.FINJ_KEY_OPEN s = false) ∧
    Meets ({ base with flt := { base.flt with keyHalf := some Writer.mgmt.code } }) (fun s =>
      Reaches .mgmt 0x97100 0x0E85 s ∧ s.flt.keyHalf = some Writer.mgmt.code) ∧
    Meets keyOpen (fun s =>
      isSet Reg.SAF.FINJ_KEY_OPEN s = true ∧ s.flt.keyLeft = 0) ∧
    Meets keyOpen (fun s =>
      Ready s ∧ Reaches .mgmt (finjAddr 0x44) (0 + 2 * 64 + 256) s ∧ isSet (Reg.LOCK_LOCK 0x44) s = false ∧
      fenced s = false ∧ isSet Reg.SAF.FINJ_KEY_OPEN s = true ∧ (pageSource 0x44 0).isSome = true ∧
      (∀ j ∈ s.flt.injections, j.1 ≠ 0x44)) ∧
    Meets ({ keyOpen with flt := { keyOpen.flt with injections := [(0x44, 186, 1)] } }) (fun s =>
      Reaches .mgmt (finjAddr 0x44) 512 s ∧ isSet (Reg.LOCK_LOCK 0x44) s = false ∧ fenced s = false ∧
      (0x44, 186, 1) ∈ s.flt.injections) ∧
    Meets keyOpen (fun s =>
      Ready s ∧ Reaches .mgmt (finjAddr 0x80) (1 + 64 + 256) s ∧ isSet (Reg.LOCK_LOCK 0x80) s = false ∧
      fenced s = false ∧ isSet Reg.SAF.FINJ_KEY_OPEN s = true ∧ pageSource 0x80 1 = some 320 ∧
      (∀ j ∈ s.flt.injections, j.1 ≠ 0x80) ∧ srcReserved 320 = false ∧ Fresh 320 s) := by
  refine ⟨?_, ?_, ?_, ?_, ?_, ?_⟩ <;> decide +kernel

def due : State := { base with hp := { base.hp with holdoffs := [{ vector := 127, due := true }], msixOpen := [(0, 127)] } }
theorem witness_SystemCommands :
    Meets base (fun s =>
      Ready s ∧ Reaches .mgmt 0x14C 1 s ∧ Reaches .mgmt 0x10C 1 s ∧ portUsed 1 s = true ∧ Reaches .mgmt 0x10C 3 s ∧
      portUsed 3 s = false ∧ Reaches .mgmt 0x311C (127 + 4095 * 256) s) ∧
    Meets ({ base with hp := { base.hp with finding := true } }) (fun s =>
      Ready s ∧ s.hp.finding = true) ∧
    Meets due (fun s =>
      Ready s ∧ s.hp.holdoffs.any (fun h => h.vector == 127 && h.due) = true ∧
      get (Reg.HPT.LINK_WIDTH (vectorPort 127 s)) s ≠ 0 ∧ (vectorPort 127 s, 127) ∈ s.hp.msixOpen) ∧
    Meets ({ due with hp := { due.hp with msixOpen := [] } }) (fun s =>
      s.hp.holdoffs.any (fun h => h.vector == 127 && h.due) = true ∧
      (vectorPort 127 s, 127) ∉ s.hp.msixOpen) := by
  refine ⟨?_, ?_, ?_, ?_⟩ <;> decide +kernel

def relocking : State := put [(Reg.SYS.CAPS_RING, 1)] { base with pwr := { base.pwr with relocking := [(11, 50), (7, 50)] } }
theorem witness_ClockCommands :
    Meets (put [(Reg.CLK.PLL_STS_LOCKED, 0xFFF)] base) (fun s =>
      Ready s ∧ bitOf (get Reg.CLK.PLL_STS_LOCKED s) 0 = true ∧ bitOf (get Reg.CLK.PLL_STS_LOCKED s) 11 = true ∧
      Fresh 241 s) ∧
    Meets relocking (fun s =>
      Ready s ∧ pllWaits 11 s = true ∧ (11, 50) ∈ s.pwr.relocking ∧ domainPresent 50 s = true ∧
      (7, 50) ∈ s.pwr.relocking ∧ domainPresent 5 s = true ∧ (∀ r : Fin 4, Fresh (148 + r) s)) ∧
    Meets (put [(Reg.FLS.SRC_CFG_SEV 332, 3)] base) (fun s =>
      Ready s ∧ s.pwr.relocking = [] ∧ (pllDomains 0).any (fun d => domainOn d s) = true ∧
      pllWaits 0 s = false ∧ pageDark 2 s = false ∧ Fresh 331 s ∧ Fresh 332 s) ∧
    Meets (put [(Reg.FLS.LIVE 332, 1), (Reg.FLS.LIVE 331, 1), (Reg.PDM.DOM_CTL_STATE 49, 1)] base) (fun s =>
      isSet (Reg.FLS.LIVE 332) s = true ∧ isSet (Reg.FLS.LIVE 331) s = true ∧ pageDark 2 s = true) := by
  refine ⟨?_, ?_, ?_, ?_⟩ <;> decide +kernel

def queued : State :=
    { base with dram := { base.dram with writes := [{ line := 64, ch := 0, sub := 0, be := allBytes, data := 5 }] } }
def fullReads : State :=
    { base with dram := { base.dram with
        reads := (List.range 128).map (fun k => { line := 64, ch := 0, sub := 0, who := .host 0 k }) } }
theorem witness_HostReads :
    Meets base (fun s =>
      Ready s ∧ Uninjected s ∧ takesRequest 0 (.mirror 0) s = true ∧ hostLine (.mirror 0) s = none) ∧
    Meets ({ base with mrv := { base.mrv with entries := [(0, { lost := true })] } }) (fun s =>
      Ready s ∧ Uninjected s ∧ takesRequest 0 (.home 4096) s = true ∧ hostLine (.home 4096) s = some 64 ∧
      readRefused 64 s = true ∧ Calm 176 s ∧ Calm 177 s) ∧
    Meets queued (fun s =>
      Ready s ∧ Uninjected s ∧ takesRequest 0 (.home 4096) s = true ∧ hostLine (.home 4096) s = some 64 ∧
      readRefused 64 s = false ∧ inSpill 4096 s = false ∧ unrestored (granuleOf 64 s) s = false ∧
      (youngest 64 s).any (fun e => e.be == allBytes && !e.poison) = true) ∧
    Meets base (fun s =>
      Ready s ∧ Uninjected s ∧ takesRequest 0 (.home 4096) s = true ∧ hostLine (.home 4096) s = some 64 ∧
      readRefused 64 s = false ∧ inSpill 4096 s = false ∧ unrestored (granuleOf 64 s) s = false ∧ youngest 64 s = none ∧
      readsFull (lineLoc 64 s).ch (lineLoc 64 s).sub s = false ∧ rankDown 64 s = false) ∧
    Meets fullReads (fun s =>
      Ready s ∧ Uninjected s ∧ takesRequest 0 (.home 4096) s = true ∧ hostLine (.home 4096) s = some 64 ∧
      readRefused 64 s = false ∧ inSpill 4096 s = false ∧ unrestored (granuleOf 64 s) s = false ∧ youngest 64 s = none ∧
      readsFull (lineLoc 64 s).ch (lineLoc 64 s).sub s = true) := by
  refine ⟨?_, ?_, ?_, ?_, ?_⟩ <;> decide +kernel

def fullWrites : State :=
    { base with dram := { base.dram with
        writes := (List.range 96).map (fun k => { line := 64 * k + 128, ch := 0, sub := 0, be := allBytes, data := 5 }) } }
theorem witness_HostWrites :
    Meets base (fun s =>
      Ready s ∧ Uninjected s ∧ takesRequest 0 (.mirror 0) s = true ∧ 0 < s.hp.credits.getD 0 0 ∧
      hostCtx 0 (.mirror 0) s = none ∧ hostLine (.mirror 0) s = none) ∧
    Meets (put [(Reg.SYS.PERSIST_SAFE, 1)] base) (fun s =>
      Ready s ∧ Uninjected s ∧ takesRequest 0 (.home 4096) s = true ∧ 0 < s.hp.credits.getD 0 0 ∧
      hostCtx 0 (.home 4096) s = none ∧ hostLine (.home 4096) s = some 64 ∧ writeRefused 0 64 s = true) ∧
    Meets fullWrites (fun s =>
      Ready s ∧ Uninjected s ∧ takesRequest 0 (.home 4096) s = true ∧ 0 < s.hp.credits.getD 0 0 ∧
      hostCtx 0 (.home 4096) s = none ∧ hostLine (.home 4096) s = some 64 ∧ writeRefused 0 64 s = false ∧
      unrestored (granuleOf 64 s) s = false ∧ replaysOf 64 s = [] ∧ writeFits 64 s = false) ∧
    Meets base (fun s =>
      Ready s ∧ Uninjected s ∧ takesRequest 0 (.home 4096) s = true ∧ 0 < s.hp.credits.getD 0 0 ∧
      hostCtx 0 (.home 4096) s = none ∧ hostLine (.home 4096) s = some 64 ∧ writeRefused 0 64 s = false ∧
      unrestored (granuleOf 64 s) s = false ∧ replaysOf 64 s = [] ∧ writeFits 64 s = true ∧
      (∀ e ∈ s.dram.writes, e.line ≠ 64) ∧ lineGood 5 (lineResidues 5) = true ∧ mirrored 64 s = false ∧
      isSet Reg.SYS.PERSIST_TWIN_DEGRADED s = false ∧ lineGood 5 0 = false ∧ Fresh 181 s) := by
  refine ⟨?_, ?_, ?_, ?_⟩ <;> decide +kernel

def txnOn : State :=
    put [(Reg.BLKCTL_ENABLE 0x44, 1), (Reg.TXN.CTX_LIMIT_UNITS, 1), (Reg.TXN.PAIR_MAX_PAIRS, 100), (Reg.TXN.UNDO_CFG_BASE_GIB, 2),
      (Reg.TXN.UNDO_CFG_SIZE_GIB, 1)] base
def windowed : State := put [(Reg.TXC.CTX_STS_STATE 0 0, 1)] txnOn
theorem witness_TransactionWrites :
    Meets txnOn (fun s =>
      Ready s ∧ Uninjected s ∧ takesRequest 0 (.window 4096) s = true ∧ 0 < s.hp.credits.getD 0 0 ∧
      hostLine (.window 4096) s = some 64 ∧ hostCtx 0 (.window 4096) s = some 0 ∧ ctxState 0 s ≠ 1) ∧
    Meets windowed (fun s =>
      Ready s ∧ Uninjected s ∧ takesRequest 0 (.window 4096) s = true ∧ 0 < s.hp.credits.getD 0 0 ∧
      hostLine (.window 4096) s = some 64 ∧ hostCtx 0 (.window 4096) s = some 0 ∧
      ctxState 0 s = 1 ∧ txnReady s = true ∧ writeRefused 0 64 s = false ∧ unrestored (granuleOf 64 s) s = false ∧
      writeFits 64 s = true ∧ replaysOf 64 s = [] ∧ logged 0 64 s = false ∧ linesLogged 0 s < lineLimit s ∧
      canHold 0 (granuleOf 64 s) s = true ∧ repairOf 64 s = none ∧
      decodeLine (isSet Reg.DMC.CFG_X8 s) (errorsOf 64 {} s) = .good ∧ lineGood 5 (lineResidues 5) = true) ∧
    Meets (put [(Reg.TXC.CTX_LINES_LINES 0 0, 2 ^ 17 - 1)] windowed) (fun s =>
      ctxState 0 s = 1 ∧ txnReady s = true ∧ writeRefused 0 64 s = false ∧ unrestored (granuleOf 64 s) s = false ∧
      logged 0 64 s = false ∧ lineLimit s ≤ linesLogged 0 s) ∧
    Meets ({ windowed with txn := { windowed.txn with pairs := List.replicate 100 { ctx := 5, granule := 1, slab := 0, lines := [] } } }) (fun s =>
      ctxState 0 s = 1 ∧ txnReady s = true ∧ writeRefused 0 64 s = false ∧ unrestored (granuleOf 64 s) s = false ∧
      logged 0 64 s = false ∧ linesLogged 0 s < lineLimit s ∧ canHold 0 (granuleOf 64 s) s = false) := by
  refine ⟨?_, ?_, ?_, ?_⟩ <;> decide +kernel

theorem witness_HostCompletions :
    Meets ({ base with hp := { base.hp with writes := [{ port := 0, tag := 7, line := 64, seq := none }] } }) (fun s =>
      Ready s ∧ Uninjected s ∧ (s.hp.writes.find? (fun w => w.port == 0 && w.tag == 7)).any (fun w => completable w s) = true) ∧
    Meets (put [(Reg.SYS.PERSIST_FENCED, 1)] { base with hp := { base.hp with writes := [{ port := 0, tag := 7, line := 64, seq := some 3 }] } }) (fun s =>
      Ready s ∧ (s.hp.writes.find? (fun w => w.port == 0 && w.tag == 7)).any (fun w => !completable w s) = true) ∧
    Meets ({ base with hp := { base.hp with reads := [{ port := 0, tag := 7, line := 64, data := some (some 5) }] } }) (fun s =>
      Ready s ∧ Uninjected s ∧ portTakes 0 s = true ∧
      (s.hp.reads.find? (fun r => r.port == 0 && r.tag == 7 && r.data.isSome)).any (fun r => r.data == some (some 5)) = true ∧
      get (Reg.HPT.LINK_WIDTH 0) s ≠ 0 ∧ pllWaits 6 s = false ∧ lineGood 5 (lineResidues 5) = true ∧
      lineGood 5 0 = false ∧ Fresh 182 s ∧ Fresh 183 s) ∧
    Meets ({ base with hp := { base.hp with reads := [{ port := 0, tag := 7, line := 64, data := some none }] } }) (fun s =>
      (s.hp.reads.find? (fun r => r.port == 0 && r.tag == 7 && r.data.isSome)).any (fun r => r.data == some none) = true ∧
      get (Reg.HPT.LINK_WIDTH 0) s ≠ 0 ∧ pllWaits 6 s = false) := by
  refine ⟨?_, ?_, ?_, ?_⟩ <;> decide +kernel

theorem witness_PortCommands :
    Meets (put [(Reg.HPT.STS_CFG_READY 0, 0)] base) (fun s =>
      Ready s ∧ portAlive 0 s = true ∧ isSet (Reg.HPT.STS_CFG_READY 0) s = false) ∧
    Meets base (fun s =>
      Ready s ∧ portAlive 0 s = true ∧ portUsed 0 s = true ∧ portUsed 1 s = true ∧
      (∀ e ∈ s.upd.settings, e.1 / 131072 ≠ 8) ∧ get (Reg.HPT.LINK_WIDTH 0) s ≠ 0 ∧
      isSet (Reg.HPT.STS_CFG_READY 0) s = true ∧ decoderMeets 0 0 (2 ^ 30) 1 s = true ∧
      decoderMeets 0 0 (2 ^ 31) 1 s = false) ∧
    Meets ({ base with hp := { base.hp with perst := [1] } }) (fun s =>
      Ready s ∧ portUsed 1 s = true ∧ 1 ∈ s.hp.perst ∧ flushHold s = false) ∧
    Meets base (fun s =>
      Ready s ∧ portAlive 0 s = true ∧ domainOn 4 s = true ∧ bitOf (get Reg.SYS.CAPS_HP_X16 s) 0 = true ∧
      Fresh 144 s ∧ Fresh 148 s) := by
  refine ⟨?_, ?_, ?_, ?_⟩ <;> decide +kernel

def flushing : State := put [(Reg.SYS.PERSIST_FENCED, 1), (Reg.SAV.STS_STATE, 2), (Reg.SAV.LAST_TRIG_TRIGGER, 1)] base
theorem witness_FlushAndViral :
    Meets base (fun s =>
      Ready s ∧ portLinked 0 s = true ∧ fenced s = false ∧ savArmed s = true ∧ Calm 181 s ∧ portUsed 0 s = true ∧
      Fresh 152 s) ∧
    Meets flushing (fun s =>
      Ready s ∧ portLinked 0 s = true ∧ fenced s = true ∧ savArmed s = true ∧ savState s ≠ 9 ∧ s.sav.drained = false ∧
      s.sav.resetFence = false) ∧
    Meets ({ flushing with sav := { flushing.sav with drained := true } }) (fun s =>
      portLinked 0 s = true ∧ fenced s = true ∧ savArmed s = true ∧ savState s ≠ 9 ∧ s.sav.drained = true) := by
  refine ⟨?_, ?_, ?_⟩ <;> decide +kernel

theorem witness_MailboxQueries :
    Meets base (fun s => Ready s ∧ mailboxOpen 0 s = true) ∧
    (∀ o ∈ opcodes, o.1 ≠ 0x9999) := by
  refine ⟨?_, ?_⟩ <;> decide +kernel

theorem witness_MailboxManagement :
    Meets base (fun s =>
      Ready s ∧ mailboxOpen 0 s = true ∧ 0 = get Reg.SYS.MGMT_PORT_PORT s ∧ fenced s = false ∧
      isSet Reg.SAF.FINJ_KEY_OPEN s = false) ∧
    Meets keyOpen (fun s =>
      Ready s ∧ mailboxOpen 0 s = true ∧ 0 = get Reg.SYS.MGMT_PORT_PORT s ∧ fenced s = false ∧
      isSet Reg.SAF.FINJ_KEY_OPEN s = true ∧ 2 ^ 30 - 64 < exposedBytes s) ∧
    Meets base (fun s =>
      4096 < exposedBytes s ∧ writeRefused 0 64 s = false ∧ unrestored (granuleOf 64 s) s = false ∧
      writeFits 64 s = true ∧ replaysOf 64 s = [] ∧ (∀ e ∈ s.dram.writes, e.line ≠ 64)) ∧
    Meets base (fun s =>
      s.upd.transfer = none ∧ (1, !bitOf s.upd.running 1) ∉ pendingOf s ∧ [(1 : Word)].length ≤ slotWords 1) ∧
    Meets ({ base with upd := { base.upd with transfer := some { component := 1, slotB := true, next := 1 } } }) (fun s =>
      Ready s ∧ mailboxOpen 0 s = true ∧
      s.upd.transfer = some { component := 1, slotB := true, next := 1 } ∧ 1 + [(1 : Word)].length ≤ slotWords 1) ∧
    Meets (put [(Reg.SYS.MGMT_PORT_PORT, 1)] base) (fun s =>
      Ready s ∧ mailboxOpen 0 s = true ∧ 0 ≠ get Reg.SYS.MGMT_PORT_PORT s) ∧
    Meets (put [(Reg.SYS.PERSIST_FENCED, 1)] base) (fun s =>
      Ready s ∧ mailboxOpen 0 s = true ∧ 0 = get Reg.SYS.MGMT_PORT_PORT s ∧ fenced s = true) := by
  refine ⟨?_, ?_, ?_, ?_, ?_, ?_, ?_⟩ <;> decide +kernel

def chan : State := put [(Reg.BLKCTL_ENABLE 0x20, 1)] base
def chanWr : State :=
    { chan with dram := { chan.dram with writes := [{ line := 64, ch := 0, sub := 0, be := allBytes, data := 5 }] } }
def chanRd : State := { chan with dram := { chan.dram with reads := [{ line := 64, ch := 0, sub := 0, who := .host 0 7 }] } }
def opened (row : Nat) (s : State) : State :=
    { s with dram := { s.dram with rows := [{ ch := 0, sub := 0, rank := 0, bank := 0, row := row, streak := 0 }] } }
abbrev picked (s : State) : Option (Waiting × DramCmd) :=
    let v := nextMode 0 0 (subOf 0 0 s) s
    let u := setSub 0 0 v s
    pick 0 0 v.rot (if v.write then waitingWrites 0 0 u else waitingReads 0 0 u) [0] [0] u
def chanPart : State :=
    { chan with dram := { chan.dram with writes := [{ line := 64, ch := 0, sub := 0, be := 15, data := 5, ready := true }] } }
theorem witness_DramCommandSlot :
    Meets chan (fun s =>
      Ready s ∧ channelRuns 0 s = true ∧ (∀ e ∈ s.dram.writes, e.issued = false) ∧ unreadPartials 0 0 s = [] ∧
      Uninjected s ∧ picked s = none) ∧
    Meets chanWr (fun s =>
      Ready s ∧ channelRuns 0 s = true ∧ (∀ e ∈ s.dram.writes, e.issued = false) ∧ unreadPartials 0 0 s = [] ∧
      Uninjected s ∧ (picked s).map (·.2) = some DramCmd.activate) ∧
    Meets (opened 1 chanWr) (fun s =>
      Ready s ∧ channelRuns 0 s = true ∧ (∀ e ∈ s.dram.writes, e.issued = false) ∧ unreadPartials 0 0 s = [] ∧
      (picked s).map (·.2) = some DramCmd.precharge) ∧
    Meets (opened 0 chanRd) (fun s =>
      Ready s ∧ channelRuns 0 s = true ∧ unreadPartials 0 0 s = [] ∧
      (nextMode 0 0 (subOf 0 0 s) s).write = false ∧ (picked s).map (·.2) = some DramCmd.column) ∧
    Meets (opened 0 chanWr) (fun s =>
      (nextMode 0 0 (subOf 0 0 s) s).write = true ∧ (picked s).map (·.2) = some DramCmd.column ∧
      (s.dram.writes.find? (fun e => e.line == 64 && !e.issued)).map (·.be) = some allBytes) ∧
    Meets (opened 0 chanPart) (fun s =>
      Ready s ∧ channelRuns 0 s = true ∧ (∀ e ∈ s.dram.writes, e.issued = false) ∧ unreadPartials 0 0 s = [] ∧
      (nextMode 0 0 (subOf 0 0 s) s).write = true ∧ (picked s).map (·.2) = some DramCmd.column ∧
      (s.dram.writes.find? (fun e => e.line == 64 && !e.issued)).any (fun e => e.be != allBytes) = true) := by
  refine ⟨?_, ?_, ?_, ?_, ?_, ?_⟩ <;> decide +kernel

theorem witness_DramUpkeep :
    Meets (opened 0 chan) (fun s =>
      Ready s ∧ channelRuns 0 s = true ∧
      s.dram.rows.any (fun r => r.ch == 0 && r.sub == 0 && r.rank * 32 + r.bank == 0) = true) ∧
    Meets (put [(Reg.DCH.PD_PD_EN 0, 1)] chan) (fun s =>
      channelRuns 0 s = true ∧ isSet (Reg.DCH.PD_PD_EN 0) s = true ∧ rankQueued 0 3 s = false ∧
      s.dram.rows.any (fun r => r.ch == 0 && r.rank == 3) = false ∧ owed 0 s < 1 ∧
      s.dram.poweredDown.contains (0, 3) = false) ∧
    Meets (put [(Reg.DCH.STS_OWED 0, 5)] chan) (fun s =>
      channelRuns 0 s = true ∧ owed 0 s = 5) ∧
    Meets chan (fun s =>
      channelRuns 0 s = true ∧ slackOk 0 s = true ∧ channelWaits 0 s = false) ∧
    Meets (put [(Reg.DCH.TEMP_HOT 15, 1)] { base with dram := { base.dram with cool := List.replicate 16 50 } }) (fun s =>
      isSet (Reg.DCH.TEMP_HOT 15) s = true ∧ 50 ≤ s.dram.cool.getD 15 0) := by
  refine ⟨?_, ?_, ?_, ?_, ?_⟩ <;> decide +kernel

def readIssued : State :=
    put [(Reg.SPR.CFG_CE_LIMIT, 10)]
    { chan with dram := { chan.dram with reads := [{ line := 64, ch := 0, sub := 0, who := .host 0 7, issued := true }] } }
def readTwinned : State :=
    put [(Reg.TWN.STS_PAIRED, 1), (Reg.TWN.STS_STATE, 4), (Reg.PNT.LINK_WIDTH, 2), (Reg.SYS.CAPS_TWIN, 1)] readIssued
theorem witness_DramReadOutcomes :
    Meets readIssued (fun s =>
      Ready s ∧ readMade 64 .hostRead s = true ∧ rankBlocked 64 s = false ∧ s.hp.stalled = [] ∧ rankOfLine 64 s < 64 ∧
      (lineLoc 64 s).ch < 16 ∧ decodeLine (isSet Reg.DMC.CFG_X8 s) {} = .good) ∧
    Meets readIssued (fun s =>
      decodeLine (isSet Reg.DMC.CFG_X8 s) { symbols := [8, 15] } = .corrected ∧
      decodeLine (isSet Reg.DMC.CFG_X8 s) { symbols := [0, 9, 17], miscorrects := true } = .miscorrected ∧
      get (Reg.SPR.RANK_CE_WIN (rankOfLine 64 s)) s < get Reg.SPR.CFG_CE_LIMIT s) ∧
    Meets readTwinned (fun s =>
      Ready s ∧ readMade 64 .hostRead s = true ∧ rankBlocked 64 s = false ∧ s.hp.stalled = [] ∧ rankOfLine 64 s < 64 ∧
      (lineLoc 64 s).ch < 16 ∧ decodeLine (isSet Reg.DMC.CFG_X8 s) { symbols := [0, 9, 17] } = .uncorrectable ∧
      repairOf 64 s = none ∧ twinServes 64 s = true) ∧
    Meets readIssued (fun s =>
      decodeLine (isSet Reg.DMC.CFG_X8 s) { symbols := [0, 9, 17] } = .uncorrectable ∧
      repairOf 64 s = none ∧ twinServes 64 s = false ∧ inUndo 4096 s = false ∧ inSpill 4096 s = false ∧
      entryInUse (granuleOf 64 s) s = true ∧ (entryOf (granuleOf 64 s) s).state = .clean ∧
      (entryOf (granuleOf 64 s) s).lost = false ∧ look s.nand.map (granuleOf 64 s) = none) := by
  refine ⟨?_, ?_, ?_, ?_⟩ <;> decide +kernel

def landed (retries : Nat) : State :=
    { chan with dram := { chan.dram with
      writes := [{ line := 64, ch := 0, sub := 0, be := allBytes, data := 5, issued := true, retries := retries }] } }
abbrev inFlight (s : State) : Option Nat :=
    (s.dram.writes.find? (fun e => e.ch == 0 && e.sub == 0 && e.line == 64 && e.issued)).map (·.retries)
def sealedGranule : SealRec :=
    { granule := 0, gen := 0, frame := 0, bySave := false, loc := ⟨0, 0, 0, 0⟩, device := 0x1234, poison := [], image := [(4096, 9)] }
def repairing (stage : RepairStage) : State :=
    { chan with
      dram := { chan.dram with repairs := [{ line := 64, finder := .scrub, stage := stage }] }
      nand := { chan.nand with map := [(0, 0)], records := [sealedGranule] } }
theorem witness_DramErrorCommands :
    Meets (landed 1) (fun s =>
      Ready s ∧ s.hp.stalled = [] ∧ channelRuns 0 s = true ∧ inFlight s = some 1) ∧
    Meets (landed 2) (fun s =>
      Ready s ∧ channelRuns 0 s = true ∧ inFlight s = some 2 ∧ Fresh 128 s ∧ rankOfLine 64 s < 64) ∧
    Meets (repairing .twin) (fun s =>
      Ready s ∧ (repairOf 64 s).any (fun r => r.stage == .twin) = true ∧ entryInUse (granuleOf 64 s) s = true ∧
      (entryOf (granuleOf 64 s) s).state = .clean ∧ (entryOf (granuleOf 64 s) s).lost = false ∧
      look s.nand.map (granuleOf 64 s) ≠ none ∧ inUndo 4096 s = false ∧ inSpill 4096 s = false) ∧
    Meets (repairing .sealed) (fun s =>
      (repairOf 64 s).any (fun r => r.stage == .sealed) = true ∧ (sealedLine 64 s).isSome = true) ∧
    Meets (put [(Reg.SPR.RANK_STATE 0, 6)] (repairing .sealed)) (fun s =>
      (repairOf 64 s).any (fun r => r.stage == .sealed && r.written != allBytes) = true ∧ spillQueue 64 s = none ∧
      Fresh 189 s ∧ rankOfLine 64 s < 64 ∧ get (Reg.SPR.RANK_STATE (rankOfLine 64 s)) s = 6) := by
  refine ⟨?_, ?_, ?_, ?_, ?_⟩ <;> decide +kernel

def migrating (index : Nat) : State :=
    put [(Reg.BLKCTL_ENABLE 0x11, 1), (Reg.SPR.MIG_STS_ACTIVE, 1), (Reg.SPR.SPARE_VALID 0, 1), (Reg.SPR.SPARE_IN_USE 0, 1),
      (Reg.SPR.SPARE_RANK 0, 1), (Reg.SPR.RANK_STATE 1, 5), (Reg.SPR.RANK_STATE 0, 4), (Reg.SPR.MIG_PTR_INDEX, index)] chan
def spareBusy : State := { migrating 0 with pools := [{ addr := poolAddr 0x11 0x118, skew := -9999 }] }
theorem witness_SparingCommands :
    Meets base (fun s =>
      Ready s ∧ now s % 2 ^ 20 = 0) ∧
    Meets (migrating 0) (fun s =>
      Ready s ∧ pageReady 0x11 s = true ∧ isSet Reg.SPR.MIG_STS_ACTIVE s = true ∧ fenced s = false ∧
      s.dram.selfRefresh = false ∧ migFree s = true ∧ atPointer 0 s = true ∧ repairOf 0 s = none) ∧
    Meets (migrating 0) (fun s =>
      creditFor (poolAddr 0x11 0x118) false s = true ∧
      creditFor (poolAddr (0x20 + (lineLoc 0 s).ch) 0x124) false s = true) ∧
    Meets spareBusy (fun s =>
      copyReady 0 s = true) ∧
    Meets spareBusy (fun s =>
      Ready s ∧ creditFor (poolAddr 0x11 0x118) false s = false) ∧
    Meets (migrating (2 ^ 32 - 1)) (fun s =>
      isSet Reg.SPR.MIG_STS_ACTIVE s = true ∧ rankLines s ≤ get Reg.SPR.MIG_PTR_INDEX s ∧
      spareIndex (get Reg.SPR.MIG_STS_DST s) s < 64 ∧ get Reg.SPR.MIG_STS_SRC s < 64 ∧
      spareIndex (get Reg.SPR.MIG_STS_DST s) s ≠ get Reg.SPR.MIG_STS_SRC s ∧
      spareIndex (get Reg.SPR.MIG_STS_DST s) s ∉ s.dram.retireAfter) := by
  refine ⟨?_, ?_, ?_, ?_, ?_, ?_⟩
  · decide +kernel
  · decide +kernel
  · exact ⟨creditFor_empty (by decide +kernel) (by decide +kernel) (by decide +kernel) false,
      creditFor_empty (by decide +kernel) (by decide +kernel) (by decide +kernel) false⟩
  · decide +kernel
  · exact ⟨by decide +kernel, no_credit (reserve_small _) (by decide +kernel)⟩
  · decide +kernel

theorem witness_TrainingCommands :
    Meets (put [(Reg.SYS.BOOT_STAGE, 6)] base) (fun s =>
      Ready s ∧ get Reg.SYS.BOOT_STAGE s = 6 ∧ s.dram.trained = false ∧ s.upd.pendingRanks = [] ∧
      dramPresent 0 s = true ∧ (∀ c : Fin 16, Calm (128 + c) s) ∧ Calm 238 s) ∧
    Meets ({ chan with dram := { chan.dram with trained := true } }) (fun s =>
      Ready s ∧ s.dram.trained = true ∧ channelRuns (0 / 4) s = true ∧ get (Reg.SPR.RANK_STATE 0) s ≠ 0 ∧
      isSet (Reg.SPR.RANK_MARGINAL 0) s = false ∧ (∀ j ∈ s.dram.retraining, j / 4 ≠ 0 / 4) ∧
      s.dram.retrainWaiting.any (fun w => w.1 == 0) = false) ∧
    Meets ({ chan with dram := { chan.dram with trained := true, retraining := [63], lastGood := [(63, 9)] } }) (fun s =>
      Ready s ∧ 63 ∈ s.dram.retraining ∧ s.dram.retrainWaiting = [] ∧
      retrainCount 63 s < get Reg.SPR.TRAIN_RETRAIN_MAX s ∧ fenced s = false ∧ Fresh 63 s ∧ Fresh 127 s ∧
      look s.dram.lastGood 63 = some 9) := by
  refine ⟨?_, ?_, ?_⟩ <;> decide +kernel

def regioned : State := put [(Reg.DMC.REGION_A_VALID 0, 1), (Reg.DMC.REGION_A_SIZE_LOG2 0, 36)] base
theorem witness_MapCommands :
    Meets (put [(Reg.DMC.PASR_STATE, 0xA8)] base) (fun s =>
      Ready s ∧ Reaches .gaffer 0x101A8 0xAA s ∧
      (∀ g, g < 4 → groupUsed g s = false ∨ bitsOf 0xAA (2 * g) 2 = pasrReq g s) ∧ (∀ g, g < 4 → bitsOf 0xAA (2 * g) 2 ≠ 3) ∧
      pasrState 0 s ≠ 3 ∧ pasrState 0 s ≠ 2 ∧ bitOf (get Reg.SYS.CAPS_DRAM_GROUPS s) 0 = true ∧
      0 < s.dram.pasrTarget.length) ∧
    Meets regioned (fun s =>
      Ready s ∧ Reaches .gaffer 0x101A8 1 s ∧ groupUsed 0 s = true ∧ bitsOf 1 0 2 ≠ pasrReq 0 s) ∧
    Meets (put [(Reg.DMC.PASR_STATE, 0xAB), (Reg.DMC.PASR_REQ, 0xA9)] { base with dram := { base.dram with pasrTarget := [1, 2, 2, 2], pasrFrom := [0, 0, 0, 0] } }) (fun s =>
      Ready s ∧ pasrState 0 s = 3 ∧ pasrReq 0 s = s.dram.pasrTarget.getD 0 0 ∧ s.dram.pasrTarget.getD 0 0 = 1 ∧
      s.dram.pasrFrom.getD 0 0 ≠ 2) ∧
    Meets (put [(Reg.DMC.PASR_STATE, 0xAB), (Reg.DMC.PASR_REQ, 0xA9)] { base with dram := { base.dram with pasrTarget := [1, 2, 2, 2], pasrFrom := [2, 2, 2, 2] } }) (fun s =>
      Ready s ∧ pasrState 0 s = 3 ∧ pasrReq 0 s = s.dram.pasrTarget.getD 0 0 ∧ s.dram.pasrTarget.getD 0 0 = 1 ∧
      s.dram.pasrFrom.getD 0 0 = 2 ∧ get (Reg.SPR.RANK_STATE 0) s ≠ 0 ∧ get (Reg.SPR.RANK_STATE 0) s ≠ 7) ∧
    Meets base (fun s =>
      Reaches .gaffer 0x101B4 3 s) ∧
    Meets ({ regioned with dram := { regioned.dram with xlateBusy := true } }) (fun s =>
      s.dram.xlateBusy = true ∧
      (mapAddress (get Reg.DMC.XLATE_LO_ADDR s * 64 + get Reg.DMC.XLATE_HI_ADDR s * 2 ^ 38) s).isSome = true) := by
  refine ⟨?_, ?_, ?_, ?_, ?_, ?_⟩ <;> decide +kernel

def openCtx : State := put [(Reg.TXC.CTX_STS_STATE 0 1, 1)] txnOn
def member : State :=
    put [(Reg.SYS.CAPS_RING, 1), (Reg.TRN.STS_INDEX, 1), (Reg.DOM.CFG_MEMBERS, 3), (Reg.TXC.CTX_TAG_TAG 0 1, 5),
      (Reg.TXC.CTX_TAG_PARTS 0 1, 2)]
    { openCtx with rng := { indexed := true, quorumFlag := true, table := [(2, 0x99)] } }
def coordinator : State :=
    put [(Reg.TXC.CTX_STS_STATE 0 1, 2)]
    { member with txn := { member.txn with requests := [{ ctx := 1, due := 0, needAck := false, domain := true }] } }
theorem witness_ContextWrites :
    Meets txnOn (fun s =>
      Ready s ∧ Reaches .mgmt (ctxAddr 0 1 0x100) 1 s ∧ openRefusal 1 s = 0 ∧ Reaches .mgmt (ctxAddr 0 1 0x100) 2 s ∧
      ctxState 1 s ≠ 1 ∧ ctxState 1 s ≠ 2) ∧
    Meets openCtx (fun s =>
      Ready s ∧ openRefusal 1 s ≠ 0 ∧ Reaches .mgmt (ctxAddr 0 1 0x100) 2 s ∧ ctxState 1 s = 1 ∧ s.hp.stalled = []) ∧
    Meets coordinator (fun s =>
      ctxState 1 s = 2 ∧ pendingRequest 1 s = true) ∧
    Meets txnOn (fun s =>
      Reaches .mgmt (ctxAddr 0 1 0x140) (5 + 512 * 2 ^ 22) s ∧ ctxState 1 s = 0 ∧
      Reaches .mgmt (ctxAddr 0 1 0x140) (5 + 513 * 2 ^ 22) s) ∧
    Meets openCtx (fun s =>
      Reaches .mgmt (ctxAddr 0 1 0x140) (5 + 2 * 2 ^ 22) s ∧ ctxState 1 s = 1) ∧
    Meets openCtx (fun s =>
      Ready s ∧ Reaches .mgmt 0x44108 1 s ∧ ctxState 1 s = 1 ∧ fenced s = false ∧ ctxTag 1 s = 0 ∧ s.hp.stalled = []) ∧
    Meets txnOn (fun s =>
      Reaches .mgmt 0x44108 63 s ∧ ctxState 63 s ≠ 1) ∧
    Meets (put [(Reg.SYS.PERSIST_FENCED, 1)] openCtx) (fun s =>
      Reaches .mgmt 0x44108 1 s ∧ ctxState 1 s = 1 ∧ fenced s = true) ∧
    Meets (put [(Reg.TXC.CTX_TAG_TAG 0 1, 5)] openCtx) (fun s =>
      Reaches .mgmt 0x44108 1 s ∧ ctxState 1 s = 1 ∧ fenced s = false ∧ ctxTag 1 s ≠ 0 ∧
      isSet Reg.SYS.PERSIST_DOMAIN_OK s = false) := by
  refine ⟨?_, ?_, ?_, ?_, ?_, ?_, ?_, ?_, ?_⟩ <;> decide +kernel

def replaying (lines : List Nat) : State :=
    put [(Reg.TXC.CTX_STS_STATE 0 1, 5)]
    { txnOn with txn := { txnOn.txn with replays := [1], pairs := [{ ctx := 1, granule := 0, slab := 0, lines := lines }] } }
theorem witness_ReplayCommands :
    Meets ({ openCtx with hp := { openCtx.hp with stalled := [{ port := 0, tag := 3, line := 64, be := some allBytes, data := 5, ctx := some 1, why := .hold 50 }] } }) (fun s =>
      Ready s ∧ ctxState 1 s = 1 ∧ holdExpired 1 s = true ∧ (∀ q ∈ s.hp.stalled, q.port < 4)) ∧
    Meets (put [(Reg.TXC.CTX_STS_CLEARING 0 1, 1)] txnOn) (fun s =>
      Ready s ∧ ctxClearing 1 s = true ∧ s.hp.stalled = []) ∧
    Meets (replaying [64]) (fun s =>
      Ready s ∧ s.txn.replays.head? = some 1 ∧ fenced s = false ∧ nextUndo 1 s = some (0, 64) ∧
      ((pairOf 1 0 s).any fun p => !p.poisoned.contains 64 && (repairOf (slabLine p.slab 64 s) s).isNone && !isPoisoned (slabLine p.slab 64 s) s) = true ∧
      decodeLine (isSet Reg.DMC.CFG_X8 s) {} = .good ∧ decodeLine (isSet Reg.DMC.CFG_X8 s) { symbols := [0, 9, 17] } = .uncorrectable) ∧
    Meets (put [(Reg.TWN.STS_PAIRED, 1), (Reg.TWN.STS_STATE, 4), (Reg.PNT.LINK_WIDTH, 2), (Reg.SYS.CAPS_TWIN, 1), (Reg.MRV.MAP_ENTRIES, 262144)] (replaying [64])) (fun s =>
      Ready s ∧ s.txn.replays.head? = some 1 ∧ fenced s = false ∧ nextUndo 1 s = some (0, 64) ∧
      ((pairOf 1 0 s).any fun p => (repairOf (slabLine p.slab 64 s) s).isNone && !isPoisoned (slabLine p.slab 64 s) s && twinServes (slabLine p.slab 64 s) s) = true) ∧
    Meets (replaying []) (fun s =>
      s.txn.replays.head? = some 1 ∧ undoLeft 1 s = 0 ∧ fenced s = false) := by
  refine ⟨?_, ?_, ?_, ?_, ?_⟩ <;> decide +kernel

def balloting : State :=
    put [(Reg.TXC.CTX_STS_STATE 0 1, 3)]
    { member with
      frm := { member.frm with count := 1 }
      rng := { member.rng with ballots := [{ ctx := 1, tag := 5, parts := 2, frame := 0, expected := [0], returned := [] }] } }
theorem witness_BallotCommands :
    Meets coordinator (fun s =>
      Ready s ∧ domainRuns s = true ∧ fenced s = false ∧ ctxState 1 s = 2 ∧
      s.txn.requests.any (fun r => r.ctx == 1 && r.domain && !r.balloted && decide (r.due ≤ now s)) = true ∧
      isSet (Reg.BLKSTS_ABORTING 0xD1) s = false) ∧
    Meets member (fun s =>
      Ready s ∧ domainRuns s = true ∧ 2 ≠ get Reg.TRN.STS_INDEX s ∧
      (∀ v ∈ s.rng.votes, ¬ (v.tag = 5 ∧ v.coord = memberId 2 s ∧ v.frame = 7)) ∧ voter 5 s = some 1 ∧
      s.hp.stalled = [] ∧ twinAttached s = false ∧ ctxState 1 s = 1 ∧ fenced s = false) ∧
    Meets balloting (fun s =>
      Ready s ∧ domainRuns s = true ∧ (∃ b ∈ s.rng.ballots, b.tag = 5 ∧ b.decided = false) ∧
      get Reg.TRN.STS_TOPO s = 0 ∧ 2 ≠ get Reg.TRN.STS_INDEX s ∧
      (s.rng.ballots.find? (fun b => b.ctx == 1 && !b.decided)).isSome = true ∧
      (s.rng.ballots.all fun b => (now32 s + 2 ^ 32 - b.frame) % 2 ^ 32 != 0) = true) ∧
    Meets (put [(Reg.TRN.RING_STS_EDGE, 1)] balloting) (fun s =>
      Ready s ∧ domainRuns s = true ∧ isSet Reg.TRN.RING_STS_EDGE s = true) := by
  refine ⟨?_, ?_, ?_, ?_⟩ <;> decide +kernel

def prepared : State :=
    put [(Reg.TXC.CTX_STS_STATE 0 1, 3)]
    { member with rng := { member.rng with votes := [{ tag := 5, coord := 0x99, frame := 7, ctx := 1, yes := true }] } }
def doubtful : State := { prepared with frm := { prepared.frm with count := 20 } }
theorem witness_ResolutionCommands :
    Meets prepared (fun s =>
      Ready s ∧ domainRuns s = true ∧ memberId 2 s = 0x99 ∧ inLog 5 (memberId 2 s) 7 .commit s = false ∧
      (s.rng.votes.find? (fun v => v.tag == 5 && v.coord == memberId 2 s && v.frame == 7)).isSome = true ∧ ctxState 1 s = 3) ∧
    Meets doubtful (fun s =>
      Ready s ∧ undecided 1 s = true ∧ fenced s = false ∧ attemptDue 1 s = true ∧ 1 ∉ s.twn.doubt ∧
      recorded 1 s = none ∧ domainRuns s = true) ∧
    Meets ({ doubtful with rng := { doubtful.rng with log := [⟨5, 0x99, 7, .commit⟩] } }) (fun s =>
      undecided 1 s = true ∧ attemptDue 1 s = true ∧ 1 ∉ s.twn.doubt ∧ recorded 1 s = some true ∧ ctxState 1 s = 3) ∧
    Meets ({ doubtful with rng := { doubtful.rng with log := [⟨9, 0x1234, 4, .commit⟩] } }) (fun s =>
      domainRuns s = true ∧ (knows 9 1 4 s).isSome = true) ∧
    Meets ({ doubtful with rng := { doubtful.rng with queries := [(1, 20)] } }) (fun s =>
      domainRuns s = true ∧ ctxState 1 s = 3 ∧
      allCtx.find? (fun g => undecided g s && (ballotOf g s).1 == 5 && (ballotOf g s).2.2 == 7 && queryOpen g s) = some 1) ∧
    Meets (put [(Reg.TXC.CTX_STS_STATE 0 1, 7)] member) (fun s =>
      Ready s ∧ Reaches .mgmt 0xD1108 (1 + 64 + 128) s ∧ Reaches .mgmt 0xD1108 (63 + 128) s ∧ ctxState 63 s ≠ 7 ∧
      ctxState 1 s = 7 ∧ admittedNow s = true ∧ rsrStage s ≠ 6 ∧ Calm 188 s) := by
  refine ⟨?_, ?_, ?_, ?_, ?_, ?_⟩ <;> decide +kernel

def nandUp : State :=
    put [(Reg.PWR.STS_RAILS_ON, 4095), (Reg.BLKCTL_ENABLE 0x41, 1), (Reg.BLKCTL_ENABLE 0x50, 1), (Reg.NFC.GEOM_B_DIES, 2),
      (Reg.NFC.GEOM_A_BLOCKS, 100), (Reg.NFC.GEOM_A_PAGES, 100), (Reg.NCH.STS_DIES_OK 0, 3), (Reg.NCH.STS_TRAINED 0, 1),
      (Reg.MRV.DIRTY_COUNT, 1), (Reg.MRV.GROUPS_SET, 1)]
    { base with mrv := { base.mrv with entries := [(0, { state := .dirty })], groups := [(0, { stamp := 0, old := true })] } }
def pickedGranule : SealRec :=
    { granule := 0, gen := 1, frame := 0, bySave := false, loc := ⟨0, 0, 5, 0⟩, device := 0x1234, poison := [], image := [] }
def sealing (state : Seal) : State :=
    { nandUp with
      mrv := { nandUp.mrv with entries := [(0, { state := state })] }
      nand := { nandUp.nand with sealing := [pickedGranule] } }
def nandFull : State := { nandUp with pools := [{ addr := poolAddr 0x41 0x15C, skew := -9999 }] }
def savedGranule : State :=
    { sealing .sealing with nand := { nandUp.nand with sealing := [{ pickedGranule with bySave := true }] } }
theorem witness_SealCommands :
    Meets nandUp (fun s =>
      Ready s ∧ Uninjected s ∧ lehrRuns s = true ∧ nextPick s = some 0 ∧ deltaFull s = false ∧ savState s ≠ 6 ∧
      nextChannel s = 0 ∧ dieTakes 0 0 s = true ∧ channelTakes 0 s = true ∧ wordGood 0 = true ∧ wordGood 0x10000 = false ∧
      Fresh 186 s ∧ opsOf 0 0 s = []) ∧
    Meets nandUp (fun s =>
      ∀ a ∈ [poolAddr 0x41 0x15C, poolAddr 0x50 0x13C, poolAddr 0x60 0x118], creditFor a false s = true) ∧
    Meets nandFull (fun s =>
      Ready s ∧ lehrRuns s = true ∧ nextPick s = some 0 ∧ dieTakes 0 0 s = true ∧ channelTakes 0 s = true) ∧
    Meets nandFull (fun s =>
      creditFor (poolAddr 0x41 0x15C) false s = false) ∧
    Meets (sealing .sealing) (fun s =>
      Ready s ∧ sealingOf 0 s = some pickedGranule ∧ (entryOf 0 s).state = .sealing) ∧
    Meets (sealing .redirtied) (fun s =>
      sealingOf 0 s = some pickedGranule ∧ (entryOf 0 s).state = .redirtied ∧ pickedGranule.bySave = false ∧
      blockBad 0 0 5 s = false ∧ s.nand.cullet.length < 65536 ∧
      ((look s.nand.dieStreak 0).getD []).length ≤ 1) ∧
    Meets savedGranule (fun s =>
      Ready s ∧ sealingOf 0 s = some { pickedGranule with bySave := true } ∧ dieTakes 0 1 s = true ∧
      blockBad 0 0 5 s = false) := by
  refine ⟨?_, ?_, ?_, ?_, ?_, ?_, ?_⟩
  · decide +kernel
  · intro a ha
    simp only [List.mem_cons, List.not_mem_nil, or_false] at ha
    rcases ha with rfl | rfl | rfl <;> exact creditFor_empty (by decide +kernel) (by decide +kernel) (by decide +kernel) false
  · decide +kernel
  · exact no_credit (reserve_small _) (by decide +kernel)
  · decide +kernel
  · decide +kernel
  · decide +kernel

def sealedOnce : State := { nandUp with nand := { nandUp.nand with records := [pickedGranule], map := [(0, pickedGranule.loc.code)] } }
theorem witness_NandCommands :
    Meets nandUp (fun s =>
      Ready s ∧ erasable ⟨0, 0, 5, 0⟩ s = true ∧
      (blockAt ⟨0, 0, 5, 0⟩ s).erases + 1 < get Reg.NFC.WEAR_ENDURANCE_K s * 1000 ∧ s.nand.cullet.length < 65536 ∧
      dieReads ⟨0, 0, 5, 0⟩ s = true ∧ (blockAt ⟨0, 0, 5, 0⟩ s).uncorrBefore = false ∧ Fresh 224 s ∧
      channelGood 0 s = true ∧ 1 < diesPerChannel s ∧ bitOf (get (Reg.NCH.DIE_FAIL_DIES 0) s) 0 = false ∧
      bitOf (get (Reg.NCH.DIE_FAIL_DIES 0) s) 1 = false ∧ Fresh 192 s) ∧
    Meets ({ sealedOnce with nand := { sealedOnce.nand with moving := [{ pickedGranule with loc := ⟨0, 0, 9, 0⟩ }] } }) (fun s =>
      Ready s ∧ (s.nand.moving.find? (fun r => r.granule == 0)).any (fun r => r.gen == 1 && r.frame == 0) = true ∧
      (currentRecord 0 s).any (fun o => o.gen == 1 && o.frame == 0) = true ∧ deltaFull s = false) ∧
    Meets ({ nandUp with frm := { nandUp.frm with count := 50000 } }) (fun s =>
      admittedNow s = true ∧ fenced s = false ∧ pageReady 0x50 s = true ∧ s.nand.checkpoint = none ∧
      s.nand.lastCheckpoint + 50000 ≤ now s) ∧
    Meets ({ nandUp with nand := { nandUp.nand with checkpoint := some 0, lowFrames := 50 } }) (fun s =>
      s.nand.checkpoint = some 0 ∧ s.nand.anchor0.page < pagesPerBlock s ∧ s.nand.anchor4.page < pagesPerBlock s ∧
      50 ≤ s.nand.lowFrames ∧ Fresh 226 s) := by
  refine ⟨?_, ?_, ?_, ?_⟩ <;> decide +kernel

def recounting (count : Nat) : State := put [(Reg.MRV.RC_STS_FULL_ACTIVE, 1), (Reg.MRV.DIRTY_COUNT, count)] nandUp
theorem witness_MarverCommands :
    Meets nandUp (fun s =>
      Ready s ∧ isSet Reg.MRV.RC_STS_FULL_ACTIVE s = false ∧ pageDark 0x40 s = false ∧
      Reaches .mgmt 0x4012C (2 ^ 25 - 1) s) ∧
    Meets (recounting 1) (fun s =>
      isSet Reg.MRV.RC_STS_FULL_ACTIVE s = true ∧ countDirty 0 16777216 s = get Reg.MRV.DIRTY_COUNT s) ∧
    Meets (recounting 7) (fun s =>
      isSet Reg.MRV.RC_STS_FULL_ACTIVE s = true ∧ countDirty 0 16777216 s ≠ get Reg.MRV.DIRTY_COUNT s ∧ Fresh 178 s ∧
      s.mrv.fullByEcc = false) ∧
    Meets ({ nandUp with mrv := { nandUp.mrv with peeking := true } }) (fun s => s.mrv.peeking = true) ∧
    Meets (put [(Reg.NCH.STS_TRAINED 0, 0)] nandUp) (fun s =>
      channelPresent 0 s = true ∧ domainOn 30 s = true ∧ s.pwr.firmware = true ∧
      isSet (Reg.NCH.STS_TRAINED 0) s = false ∧ isSet (Reg.NCH.STS_FAILED 0) s = false ∧ Fresh 192 s) := by
  refine ⟨?_, ?_, ?_, ?_, ?_⟩ <;> decide +kernel

def gauge : State :=
    put [(Reg.ENG.TEMP_T_STORE, 400), (Reg.ENG.CAP_LEARNED_MAH, 2000), (Reg.ENG.CAP_LEARNED_RATED_MAH, 2000),
      (Reg.ENG.CAP_V_V_RATED_MV, 10000), (Reg.ENG.CAP_V_V_MIN_MV, 5000), (Reg.ENG.STATE_BAT, 2), (Reg.ENG.VIN_GOOD, 1)]
    { base with eng := { base.eng with
        last := { base.eng.last with vcap := 51200, vinAbove := true, pfailLow := false, tStore := 400 }
        fullRun := 50000
        emptyRun := 500
        differRun := 50
        agreeRun := 50
        chargerFails := 2
        ends := [50, 50, 50, 50, 50]
        vinRun := 1000 } }
theorem witness_GaugeEvents :
    Meets gauge (fun s =>
      Ready s ∧ s.eng.bankSeen = false ∧ (get Reg.ENG.CAP_V_V_MIN_MV s : Rat) ≤ vcapMv s ∧
      isSet Reg.ENG.CAP_TEST_LOW s = false ∧ (∀ k : Fin 5, Fresh (320 + k) s) ∧ (∀ k : Fin 5, 50 ≤ s.eng.ends.getD k 0) ∧
      batState s ≠ 0 ∧ isSet Reg.SYS.CAPS_BATTERY s = true ∧ 50 ≤ s.eng.differRun ∧ 50 ≤ s.eng.agreeRun ∧ Fresh 325 s ∧
      2 ≤ s.eng.chargerFails ∧ Fresh 326 s) ∧
    Meets ({ gauge with pwr := { gauge.pwr with sinceVaon := 250000 } }) (fun s =>
      s.eng.bankSeen = false ∧ s.eng.chargerFrom + 250000 ≤ s.pwr.sinceVaon ∧ Fresh 327 s) ∧
    Meets (put [(Reg.SYS.CAPS_BATTERY, 0), (Reg.ENG.STATE_BAT, 0)] gauge) (fun s =>
      isSet Reg.SYS.CAPS_BATTERY s = false) := by
  refine ⟨?_, ?_, ?_⟩ <;> decide +kernel

theorem witness_AnchorCommands :
    Meets (put [(Reg.ENG.STATE_BAT, 1), (Reg.ENG.STATE_REST_LEFT, 0)] gauge) (fun s =>
      Ready s ∧ batState s = 1 ∧ get Reg.ENG.STATE_REST_LEFT s = 0 ∧ convBad 2 s = false ∧ convBad 3 s = false) ∧
    Meets gauge (fun s =>
      Ready s ∧ 50000 ≤ s.eng.fullRun ∧ fenced s = false ∧ 500 ≤ s.eng.emptyRun ∧ s.eng.discharge = none) ∧
    Meets (put [(Reg.ENG.EXERCISE_ACTIVE, 1)] { gauge with eng := { gauge.eng with discharge := some { out := 1000, temp := 400, frames := 1 } } }) (fun s =>
      500 ≤ s.eng.emptyRun ∧ isSet Reg.ENG.EXERCISE_ACTIVE s = true ∧ tcBat 400 s ≠ 0) := by
  refine ⟨?_, ?_, ?_⟩ <;> decide +kernel

def full : State := put [(Reg.ENG.STATE_AT_FULL, 1)] gauge
def exercising : State :=
    put [(Reg.ENG.EXERCISE_ACTIVE, 1)]
    { full with frm := { full.frm with count := 360000000 }, eng := { full.eng with exerciseFrom := some 0 } }
def testing (v1 : Nat) : State :=
    { full with frm := { full.frm with count := 500 },
                eng := { full.eng with capTest := some { start := 0, v0 := v1 + 10, v1 := some v1, v500 := some 59500 } } }
theorem witness_GaugeCommands :
    Meets full (fun s =>
      Ready s ∧ Reaches .mgmt 0x801AC 1 s ∧ isSet Reg.ENG.EXERCISE_ACTIVE s = false ∧ fenced s = false ∧
      batState s = 2 ∧ isSet Reg.ENG.STATE_AT_FULL s = true ∧ 160 ≤ tStore s ∧ tStore s ≤ 640 ∧
      Reaches .mgmt 0x801B0 1 s ∧ learnDiffers s = true ∧ 1000 ≤ s.eng.vinRun ∧ admittedNow s = true ∧
      vinGoodNow s = true ∧ bankFull s = true ∧ s.eng.capTest = none ∧ testDue s = true) ∧
    Meets gauge (fun s =>
      Reaches .mgmt 0x801AC 1 s ∧ isSet Reg.ENG.STATE_AT_FULL s = false ∧ isSet Reg.ENG.EXERCISE_ACTIVE s = false ∧
      fenced s = false) ∧
    Meets (put [(Reg.ENG.TEMP_T_STORE, 641)] full) (fun s =>
      batState s = 2 ∧ isSet Reg.ENG.STATE_AT_FULL s = true ∧ isSet Reg.ENG.EXERCISE_ACTIVE s = false ∧ 640 < tStore s) ∧
    Meets exercising (fun s =>
      Reaches .mgmt 0x801AC 2 s ∧ isSet Reg.ENG.EXERCISE_ACTIVE s = true ∧ s.eng.exerciseFrom = some 0 ∧
      0 + 360000000 ≤ now s) ∧
    Meets (testing 60000) (fun s =>
      Ready s ∧ (s.eng.capTest.map (fun x => (x.v1, x.v500))) = some (some 60000, some 59500) ∧
      (cMeasOf 60000 59500 s).any (fun c => decide (c < 65536) && !bankLow c s) = true ∧
      (esrOf 60010 60000 s).any (fun e => decide (e < 4096) && decide (e ≤ get Reg.ENG.CAP_ESR_MAX_MOHM s)) = true ∧
      Fresh 327 s ∧ Calm 328 s) ∧
    Meets (testing 90000) (fun s =>
      (cMeasOf 90000 59500 s).any (fun c => decide (c < 65536) && bankLow c s) = true ∧
      (esrOf 90010 90000 s).any (fun e => decide (e < 4096) && decide (e ≤ get Reg.ENG.CAP_ESR_MAX_MOHM s)) = true) := by
  refine ⟨?_, ?_, ?_, ?_, ?_, ?_⟩ <;> decide +kernel

def supplied : State :=
    put [(Reg.SAV.CFG_PFAIL_EN, 1), (Reg.PWR.STS_RAILS_ON, 4095), (Reg.ENG.VIN_GOOD, 1)]
    { base with eng := { base.eng with last := { base.eng.last with vcap := 51200, vinAbove := true, pfailLow := false } } }
def fencing (state trigger : Nat) : State :=
    put [(Reg.SYS.PERSIST_FENCED, 1), (Reg.SAV.STS_STATE, state), (Reg.SAV.LAST_TRIG_TRIGGER, trigger), (Reg.ENG.VIN_GOOD, 0)] supplied
theorem witness_TriggerCommands :
    Meets supplied (fun s =>
      Ready s ∧ isSet Reg.SAV.CFG_PFAIL_EN s = true ∧ savArmed s = true ∧ fenced s = false ∧ savState s ≠ 7 ∧
      s.hp.stalled = []) ∧
    Meets (put [(Reg.SYS.PERSIST_SAFE, 1)] (fencing 9 1)) (fun s =>
      savArmed s = true ∧ savState s = 9 ∧ inSafe s = true ∧ s.hp.stalled = []) ∧
    Meets (fencing 2 1) (fun s =>
      Ready s ∧ savArmed s = true ∧ fenced s = true ∧ savState s ≠ 7 ∧ savState s ≠ 9) ∧
    Meets (put [(Reg.SAV.STS_ARMED, 0), (Reg.SAV.STS_STATE, 0)] supplied) (fun s =>
      Ready s ∧ savArmed s = false ∧ savState s ≠ 7 ∧ goingDown s = false) ∧
    Meets (fencing 7 4) (fun s =>
      savArmed s = true ∧ fenced s = true ∧ savState s = 7) ∧
    Meets (put [(Reg.SAV.CFG_PFAIL_EN, 0)] supplied) (fun s =>
      isSet Reg.SAV.CFG_PFAIL_EN s = false ∧ savState s ≠ 7) := by
  refine ⟨?_, ?_, ?_, ?_, ?_, ?_⟩ <;> decide +kernel

def rideable (dirty : Nat) : State :=
    put [(Reg.SAV.CFG_RIDE_EN, 1), (Reg.ENG.RIDE_WIN_MS, 100000), (Reg.MRV.DIRTY_COUNT, dirty), (Reg.LEH.CAPONLY_CAP_GRAN, 100)] (fencing 2 1)
def noRailFault (s : State) : State := put ((List.range 16).map fun r => (Reg.FLS.SRC_CFG_SEV (256 + r), 3)) s
def returned (state : Nat) : State :=
    put [(Reg.ENG.VIN_GOOD, 1)] (noRailFault { fencing state 1 with sav := { base.sav with vinFrames := 10000000 } })
theorem witness_DrainAndRide :
    Meets (put [(Reg.SAV.CFG_RIDE_EN, 0)] (fencing 2 1)) (fun s =>
      Ready s ∧ savArmed s = true ∧ fenced s = true ∧ savState s = 2 ∧ s.sav.drained = false ∧ (∀ e ∈ s.dram.writes, e.held = false) ∧
      (∀ a ∈ s.frm.aborts, ¬ (a.1 = 0x10 ∨ (0x20 ≤ a.1 ∧ a.1 < 0x30))) ∧
      s.sav.resetFence = false ∧ isSet Reg.SAV.CFG_RIDE_EN s = false ∧ Fresh 180 s) ∧
    Meets (rideable 0) (fun s =>
      Ready s ∧ savArmed s = true ∧ fenced s = true ∧ savState s = 2 ∧ s.sav.drained = false ∧ (∀ e ∈ s.dram.writes, e.held = false) ∧
      (∀ a ∈ s.frm.aborts, ¬ (a.1 = 0x10 ∨ (0x20 ≤ a.1 ∧ a.1 < 0x30))) ∧
      s.sav.resetFence = false ∧ s.dram.writes = [] ∧ chooseSave s = false ∧ dirtyEff s ≤ bCap s) ∧
    Meets (rideable 1000000) (fun s =>
      chooseSave s = false ∧ bCap s < dirtyEff s) ∧
    Meets ({ fencing 2 16 with sav := { base.sav with resetFence := true } }) (fun s =>
      savArmed s = true ∧ fenced s = true ∧ savState s = 2 ∧ s.sav.drained = false ∧ (∀ e ∈ s.dram.writes, e.held = false) ∧
      (∀ a ∈ s.frm.aborts, ¬ (a.1 = 0x10 ∨ (0x20 ≤ a.1 ∧ a.1 < 0x30))) ∧ s.sav.resetFence = true) ∧
    Meets (put [(Reg.ENG.RIDE_WIN_MS, 5)] (fencing 3 1)) (fun s =>
      savState s = 3 ∧ s.nand.sealing = [] ∧ vinGoodNow s = false ∧ presealCut s = false ∧ dirtyEff s ≤ bCap s) ∧
    Meets (put [(Reg.MRV.DIRTY_COUNT, 1000000)] (fencing 3 1)) (fun s =>
      savState s = 3 ∧ s.nand.sealing = [] ∧ presealCut s = true ∧ vinGoodNow s = false ∧ bCap s < dirtyEff s ∧
      presealable s = false) ∧
    Meets (noRailFault { fencing 4 1 with frm := { base.frm with count := 600000000 } }) (fun s =>
      Ready s ∧ savArmed s = true ∧ fenced s = true ∧ rideOver s = true ∧ (∀ r : Fin 16, Calm (256 + r) s)) ∧
    Meets (returned 4) (fun s =>
      savState s = 4 ∧ rideOver s = false ∧ vinStable s = true ∧ (∀ r : Fin 16, Calm (256 + r) s)) ∧
    Meets (returned 3) (fun s =>
      savState s = 3 ∧ vinStable s = true ∧ s.nand.sealing = [] ∧ s.dram.mapInUse = []) ∧
    Meets (returned 7) (fun s =>
      savState s = 7 ∧ vinStable s = true ∧ saveKind s = 1) := by
  refine ⟨?_, ?_, ?_, ?_, ?_, ?_, ?_, ?_, ?_, ?_⟩ <;> decide +kernel

def saveWith (l : List RecBody) : State :=
    put [(Reg.SYS.PERSIST_FENCED, 1), (Reg.SAV.STS_STATE, 6), (Reg.SAV.LAST_TRIG_TRIGGER, 1), (Reg.ENG.VIN_GOOD, 0)]
    { nandUp with
      mrv := base.mrv
      eng := { base.eng with last := { base.eng.last with vinAbove := true, pfailLow := false } }
      nand := { base.nand with others := l.map (fun b =>
        { body := b, frame := 0, bySave := true, loc := ⟨0, 0, 7, 0⟩, pages := 1, device := 0x1234 }) } }
def intent : Intent := { frameFence := 0, trigger := 1, okAtFence := true, granules := [], contexts := [], held := [] }
def fifth : List RecBody :=
    [.continuity (some intent), .hold [] [] [], .delta [], .marver [], .gather [] [], .cullet [] [], .continuity none]
theorem witness_SaveRecords :
    Meets (saveWith []) (fun s =>
      Ready s ∧ saving s = true ∧ saveIntent s = none ∧ dieTakes (nextChannel s) 0 s = true) ∧
    Meets (saveWith []) (fun s =>
      creditFor (poolAddr 0x42 0x13C) true s = true) ∧
    Meets (saveWith [.continuity (some intent)]) (fun s =>
      saving s = true ∧ (saveIntent s).isSome = true ∧ mergesDone s = true ∧ saved .undo s = false ∧ holdSaved s = false ∧
      s.txn.pairs = [] ∧ dieTakes (nextChannel s) 0 s = true) ∧
    Meets (saveWith [.continuity (some intent), .hold [] [] []]) (fun s =>
      saving s = true ∧ metadataDue s = true ∧ dieTakes (nextChannel s) 0 s = true ∧ saved .delta s = false ∧
      saved .marver s = false ∧ saved .cullet s = false ∧ saved .gather s = false ∧
      (saveRecords s).contains (.continuity none) = false ∧ (saveIntent s).isSome = true) ∧
    Meets (saveWith fifth) (fun s =>
      saving s = true ∧ metadataDue s = true ∧ directoryDue s = true ∧ saved .map s = false) ∧
    Meets (saveWith (.map 0 [] :: fifth)) (fun s =>
      saving s = true ∧ directoryDue s = true ∧ saved .map s = true ∧ (anchorsTake s).1 = true ∧
      s.sav.waitingActs = [] ∧ s.pwr.waitingDoms = [] ∧ s.nand.anchor0.page < pagesPerBlock s ∧
      s.nand.anchor4.page < pagesPerBlock s ∧ vinGoodNow s = false ∧ Fresh 230 s) ∧
    Meets (put [(Reg.ENG.VIN_GOOD, 1)] (saveWith (.map 0 [] :: fifth))) (fun s =>
      saving s = true ∧ directoryDue s = true ∧ saved .map s = true ∧ vinGoodNow s = true ∧ s.sav.deferredReset = false) ∧
    Meets base (fun s =>
      saving s = false ∧ fenced s = false ∧ Reaches .mgmt 0x42138 1 s ∧ flushHold s = false) ∧
    Meets (put [(Reg.ENG.VIN_GOOD, 1)] (fencing 7 4)) (fun s =>
      Ready s ∧ Reaches .mgmt 0x42138 1 s ∧ flushHold s = true ∧ vinGoodNow s = true ∧ s.dram.mapInUse = []) ∧
    Meets (fencing 6 1) (fun s =>
      Ready s ∧ vinGoodNow s = false ∧ Calm 156 s ∧ Calm 157 s ∧ Calm 165 s ∧ savArmed s = true ∧ fenced s = true ∧
      s.sav.manifestDone = false ∧ s.hp.outageCounted = false) := by
  refine ⟨?_, ?_, ?_, ?_, ?_, ?_, ?_, ?_, ?_, ?_⟩
  · decide +kernel
  · exact creditFor_empty (by decide +kernel) (by decide +kernel) (by decide +kernel) true
  · decide +kernel
  · decide +kernel
  · decide +kernel
  · decide +kernel
  · decide +kernel
  · decide +kernel
  · decide +kernel
  · decide +kernel

def restoring (stage : Nat) : State :=
    put ([(Reg.SYS.PERSIST_BOOT, 1), (Reg.SAV.STS_ARMED, 0), (Reg.SAV.STS_STATE, 0), (Reg.NFC.GEOM_B_DIES, 2),
      (Reg.NFC.GEOM_A_BLOCKS, 100), (Reg.NFC.GEOM_A_PAGES, 100), (Reg.SYS.PERSIST_FENCED, 1), (Reg.RSR.STS_STAGE, stage)] ++
      (List.range 4).flatMap (fun c => [(Reg.NCH.STS_TRAINED c, 1), (Reg.NCH.STS_DIES_OK c, 3)]))
    { base with dram := { base.dram with trained := true } }
def qualified (s : State) : State := { s with upd := { s.upd with qualified := [0] } }
def manifestOf (seq : Nat) : Manifest :=
    { buildManifest 1 0 (restoring 0) with seq := seq, granSize := get Reg.MRV.CFG_GRAN_IN_USE (restoring 0), map := [(3, 1)] }
def withManifests (stage : Nat) : State :=
    { restoring stage with
      nand := { base.nand with initialised := true, manifests := [manifestOf 1, manifestOf 2], map := [(3, 1)] }
      rsr := { base.rsr with manifest := some (manifestOf 2), all := false } }
def imageRecord : SealRec :=
    { granule := 3, gen := 0, frame := 5, bySave := false, loc := ⟨0, 0, 1, 0⟩, device := 0x1234, poison := [],
      image := [(0, 7), (100, 9)] }
def scanning (stage : Nat) : State :=
    { withManifests stage with
      nand := { (withManifests stage).nand with records := [imageRecord], map := [(3, imageRecord.loc.code)] } }
theorem witness_RestoreMetadata :
    Meets (restoring 0) (fun s =>
      Ready s ∧ rsrRuns s = true ∧ s.dram.trained = true ∧ nandReady s = true ∧ s.pwr.firmware = true ∧
      rsrStage s = 0 ∧ admittedNow s = false) ∧
    Meets (withManifests 1) (fun s =>
      Ready s ∧ rsrRuns s = true ∧ rsrStage s = 1 ∧ (newestManifest s).isSome = true ∧ s.nand.initialised = true ∧
      Calm 336 s) ∧
    Meets (qualified (restoring 1)) (fun s =>
      rsrStage s = 1 ∧ s.nand.initialised = false ∧
      (∀ ch : Fin 32, channelPresent ch s = true → qualifiedChannel ch s = true) ∧
      s.nand.anchor0.page < pagesPerBlock s ∧ s.nand.anchor4.page < pagesPerBlock s) ∧
    Meets ({ restoring 1 with upd := { base.upd with qualified := [] } }) (fun s =>
      rsrStage s = 1 ∧ s.nand.initialised = false ∧ channelPresent 0 s = true ∧ qualifiedChannel 0 s = false ∧
      (∀ k : Fin 32, Calm (192 + k) s)) ∧
    Meets (withManifests 2) (fun s =>
      rsrStage s = 2 ∧ s.rsr.manifest.any (fun m => recordsNamed m s && m.granSize == get Reg.MRV.CFG_GRAN_IN_USE s) = true ∧
      s.rsr.manifest.any (fun m => (olderManifest m s).isSome) = true ∧
      get Reg.RSR.STS_FALLBACKS s + 1 < s.rsr.cfg.fallbackMax ∧ s.rsr.cfg.fallbackMax ≤ 7 ∧ Fresh 239 s) ∧
    Meets (withManifests 4) (fun s =>
      rsrStage s = 4 ∧ s.rsr.manifest.any (fun m => m.entries.all (fun e => !e.2.lost)) = true ∧ s.rsr.moved = [] ∧
      isSet Reg.RSR.STS_REBUILD s = false) ∧
    Meets (put [(Reg.RSR.STS_REBUILD, 1)] (withManifests 4)) (fun s =>
      rsrStage s = 4 ∧ s.rsr.manifest.isSome = true ∧ isSet Reg.RSR.STS_REBUILD s = true ∧ Fresh 239 s) ∧
    Meets (scanning 3) (fun s =>
      rsrStage s = 3 ∧ 3 ∈ recordedGranules s ∧ (bestRecord 3 (fun r => considered r s) s).isSome = true) ∧
    Meets (put [(Reg.TXC.CTX_STS_STATE 0 1, 1)] (withManifests 5)) (fun s =>
      rsrStage s = 5 ∧ s.txn.pairs = [] ∧ (∀ g : Fin 64, ctxState g s ≠ 3 ∧ ctxState g s ≠ 7) ∧ ctxState 1 s = 1) ∧
    Meets (put [(Reg.TXC.CTX_STS_STATE 0 2, 3)] (withManifests 5)) (fun s =>
      rsrStage s = 5 ∧ s.txn.pairs = [] ∧ ctxState 2 s = 3 ∧ recorded 2 s = none) ∧
    Meets ({ withManifests 6 with rsr := { base.rsr with doubtLeft := some 0 } }) (fun s =>
      rsrStage s = 6 ∧ s.rsr.doubtLeft = some 0) := by
  refine ⟨?_, ?_, ?_, ?_, ?_, ?_, ?_, ?_, ?_, ?_, ?_⟩ <;> decide +kernel

theorem witness_RestoreImage :
    Meets ({ restoring 7 with rsr := { base.rsr with ready := true } }) (fun s =>
      Ready s ∧ rsrRuns s = true ∧ s.rsr.ready = true ∧ rsrStage s = 7 ∧ admittedNow s = false ∧
      reclaimHolds s = false ∧ allRestored s = true) ∧
    Meets (scanning 7) (fun s =>
      Ready s ∧ rsrRuns s = true ∧ mayRestore 3 s = true ∧ unrestored 3 s = true ∧ currentRecord 3 s = some imageRecord ∧
      sealValid imageRecord s = true ∧ hostLines 3 s = [] ∧ s.hp.stalled = [] ∧ Memory.wf imageRecord.image = true ∧
      (∀ c ∈ imageRecord.image, c.1 < granBytes s) ∧ Fresh 240 s) := by
  refine ⟨?_, ?_⟩ <;> decide +kernel

def twinned (state : Nat) : State :=
    put [(Reg.TWN.STS_PAIRED, 1), (Reg.TWN.STS_STATE, state), (Reg.PNT.LINK_WIDTH, 2), (Reg.SYS.CAPS_TWIN, 1), (Reg.MRV.MAP_ENTRIES, 131072),
      (Reg.SPR.RANK_STATE 1, 1), (Reg.TWN.STS_MISSED, 3)]
    { base with twn := { base.twn with outstanding := [⟨3, 5, none, 0⟩] } }
def promotedIn (state : Nat) : State := put [(Reg.TWN.STS_PROMOTED, 1)] (twinned state)
theorem witness_TwinControl :
    Meets (twinned 4) (fun s =>
      Ready s ∧ Reaches .mgmt 0xC1108 1 s ∧ twinState s ≠ 0 ∧ isSet Reg.TWN.STS_PROMOTED s = false ∧
      Reaches .mgmt 0xC1108 2 s ∧ Reaches .mgmt 0xC1108 4 s ∧ twinAttached s = true ∧ (∀ r ∈ s.dram.repairs, r.stage ≠ .twin) ∧
      s.twn.outstanding ≠ [] ∧ (∀ m ∈ s.twn.outstanding, granuleOf m.line s < homeGranules s ∧
        entryInUse (granuleOf m.line s) s = true) ∧
      Reaches .mgmt 0xC1108 8 s ∧ twinState s ≠ 6 ∧ Reaches .mgmt 0xC1108 16 s ∧ twinState s ≠ 5 ∧
      Reaches .mgmt 0xC1108 32 s ∧ s.twn.failedIn ≠ some (twinState s) ∧ Reaches .mgmt 0xC1108 64 s) ∧
    Meets (put [(Reg.SYS.CAPS_TWIN, 0)] (promotedIn 5)) (fun s =>
      isSet Reg.TWN.STS_PROMOTED s = true ∧ isSet Reg.SYS.CAPS_TWIN s = false) ∧
    Meets (promotedIn 5) (fun s =>
      isSet Reg.TWN.STS_PROMOTED s = true ∧ Reaches .mgmt 0xC1108 2 s ∧ twinAttached s = false ∧ twinState s = 5 ∧ twinState s ≠ 2) ∧
    Meets (twinned 0) (fun s =>
      Reaches .mgmt 0xC1108 1 s ∧ twinState s = 0 ∧ isSet Reg.SYS.CAPS_TWIN s = true ∧ pairingFits s = false) ∧
    Meets (put [(Reg.DMC.REGION_A_VALID 0, 1), (Reg.DMC.REGION_A_SIZE_LOG2 0, 36)] (twinned 0)) (fun s =>
      twinState s = 0 ∧ isSet Reg.SYS.CAPS_TWIN s = true ∧ pairingFits s = true) ∧
    Meets (twinned 2) (fun s =>
      Reaches .mgmt 0xC1108 4 s ∧ twinState s = 2 ∧ paired s = true ∧ (∀ r ∈ s.dram.repairs, r.stage ≠ .twin)) ∧
    Meets (twinned 6) (fun s =>
      Reaches .mgmt 0xC1108 8 s ∧ twinState s = 6 ∧ twinAttached s = false ∧ twinState s ≠ 2) ∧
    Meets ({ twinned 5 with twn := { base.twn with failedIn := some 5 } }) (fun s =>
      Reaches .mgmt 0xC1108 32 s ∧ twinState s = 5 ∧ s.twn.failedIn = some (twinState s) ∧
      (∀ c, c < 64 → remotePrepared c s = false ∧ remoteOpen c s = false)) ∧
    Meets (put [(Reg.TWN.RCTX_PREP_LO_MASK, 8)]
      { twinned 5 with twn := { base.twn with failedIn := some 5, tags := [(3, 77)] } }) (fun s =>
      Reaches .mgmt 0xC1108 32 s ∧ twinState s = 5 ∧ s.twn.failedIn = some (twinState s) ∧
      (∀ c, c < 64 → remotePrepared c s = true ∨ remoteOpen c s = false) ∧ remotePrepared 3 s = true ∧
      look s.twn.tags 3 ≠ none) ∧
    Meets ({ promotedIn 5 with twn := { base.twn with peerState := 7 } }) (fun s =>
      Reaches .mgmt 0xC1108 64 s ∧
      (isSet Reg.TWN.STS_PROMOTED s && s.twn.peerState == 7 && !s.hp.decoders.any (fun d => d.decoder == 2)) = true) := by
  refine ⟨?_, ?_, ?_, ?_, ?_, ?_, ?_, ?_, ?_, ?_⟩ <;> decide +kernel

def mirrorIn (line : Nat) (d : Line) (residues : BitVec 64) : MirrorIn :=
    { line := line, be := allBytes, data := d, ctx := none, seq := 6, residues := residues }
def onTwin (written : BitVec 64) : State :=
    { twinned 4 with
      dram := { base.dram with repairs := [{ line := 4, finder := .hostRead, stage := .twin, written := written }] } }
theorem witness_TwinMessages :
    Meets (twinned 4) (fun s =>
      Ready s ∧ paired s = true ∧ puntyUp s = true ∧ twinAttached s = true ∧ Calm 158 s ∧
      (∀ r ∈ s.dram.repairs, r.stage ≠ .twin) ∧ isSet (Reg.FLS.LIVE 158) s = false ∧
      3 ≤ get Reg.TWN.STS_MISSED s ∧ Calm 157 s ∧ isSet (Reg.FLS.LIVE 157) s = false ∧ isSet Reg.SYS.CAPS_TWIN s = true ∧
      domainOn 8 s = true ∧ domainOn 9 s = true ∧ s.pwr.firmware = true ∧ Fresh 156 s) ∧
    Meets (twinned 4) (fun s =>
      let m := mirrorIn 4 9 (lineResidues 9)
      fenced s = false ∧ twinAttached s = true ∧ m.ctx = none ∧ m.crcOk = true ∧ m.ecc = .good ∧
      unrestored (granuleOf (mirrorLine m.line s) s) s = false ∧ granuleOf (mirrorLine m.line s) s < mapEntries s ∧
      writeFits (mirrorLine m.line s) s = true ∧ s.twn.stalled = [] ∧ lineGood m.data m.residues = true ∧
      m.be = allBytes ∧ (∀ e ∈ s.dram.writes, e.line ≠ mirrorLine m.line s)) ∧
    Meets (twinned 4) (fun s =>
      let m := mirrorIn 4 10 0
      writeFits (mirrorLine m.line s) s = true ∧ lineGood m.data m.residues = false ∧ Calm 181 s ∧
      isSet (Reg.FLS.LIVE 181) s = false ∧ entryInUse (granuleOf (mirrorLine m.line s) s) s = true) ∧
    Meets (twinned 5) (fun s =>
      paired s = true ∧ puntyUp s = true ∧ fenced s = false ∧ twinState s ≠ 3 ∧ twinState s ≠ 4 ∧
      (mirrorIn 4 9 0).crcOk = true ∧ s.twn.flitReplays + 1 < 8) ∧
    Meets ({ twinned 4 with twn := { (twinned 4).twn with flitReplays := 7 } }) (fun s =>
      paired s = true ∧ puntyUp s = true ∧ { mirrorIn 4 9 0 with crcOk := false }.crcOk = false ∧
      8 ≤ s.twn.flitReplays + 1) ∧
    Meets (onTwin 0) (fun s =>
      paired s = true ∧ puntyUp s = true ∧ s.hp.stalled = [] ∧
      repairOf 4 s = some { line := 4, finder := .hostRead, stage := .twin, written := 0 }) ∧
    Meets (onTwin 3) (fun s =>
      (repairOf 4 s).map (·.written) = some 3 ∧ (repairOf 4 s).map (·.stage) = some .twin) ∧
    Meets (onTwin allBytes) (fun s =>
      (repairOf 4 s).map (·.written) = some allBytes ∧ (repairOf 4 s).map (·.stage) = some .twin) := by
  refine ⟨?_, ?_, ?_, ?_, ?_, ?_, ?_, ?_⟩ <;> decide +kernel

def peerHello : HelloIn :=
    { serial := 0, granSize := get Reg.MRV.CFG_GRAN_IN_USE base, homeGib := 1, state := 2, homeGen := 0, mirrorGen := 0, homeAgreed := 0,
      mirrorAgreed := 0 }
def reconciling (state : Nat) (planned homeTwin : Bool) : State :=
    { twinned state with twn := { base.twn with hello := some peerHello, planned := planned, homeTwin := homeTwin } }
theorem witness_TwinReconciliation :
    Meets (put [(Reg.TXC.CTX_STS_STATE 0 5, 1)] (twinned 4)) (fun s =>
      Ready s ∧ paired s = true ∧ puntyUp s = true ∧ twinAttached s = true ∧ fenced s = false ∧ s.twn.stalled = [] ∧
      remoteWaits 63 s = false ∧ voteOf 63 s = none ∧ ctxState 5 s = 1 ∧ s.hp.stalled = [] ∧ Fresh 159 s ∧
      helloFromPeer { peerHello with serial := 77 } s = false) ∧
    Meets ({ twinned 4 with
      twn := { (twinned 4).twn with stalled := [{ mirrorIn 4 9 0 with ctx := some 63 }] },
      txn := { base.txn with requests := [{ ctx := 63, due := 9, needAck := true }] } }) (fun s =>
      twinAttached s = true ∧ fenced s = false ∧ remoteWaits 63 s = true ∧
      s.txn.requests.any (fun r => r.ctx == 63 && r.needAck) = true) ∧
    Meets (twinned 1) (fun s =>
      paired s = true ∧ puntyUp s = true ∧ helloFromPeer peerHello s = true ∧ metadataLoaded s = true ∧
      reconciles s = true ∧ helloFits peerHello s = true ∧
      helloFromPeer { peerHello with homeGib := 400 } s = true ∧ helloFits { peerHello with homeGib := 400 } s = false ∧
      Fresh 159 s) ∧
    Meets (twinned 6) (fun s =>
      helloFromPeer { peerHello with reattach := true } s = true ∧ metadataLoaded s = true ∧
      helloFits { peerHello with reattach := true } s = true ∧ twinState s = 6 ∧ s.twn.detachedHere = false) ∧
    Meets (reconciling 2 false false) (fun s =>
      paired s = true ∧ puntyUp s = true ∧ s.twn.hello = some peerHello ∧ s.twn.planned = false ∧ twinState s = 2 ∧
      s.twn.stalled = [] ∧ Calm 160 s ∧ twinWinsHome peerHello s = false ∧ weWinMirror s = false) ∧
    Meets (put [(Reg.TWN.HOME_GEN_VALUE, 3)]
      { twinned 2 with twn := { base.twn with hello := some { peerHello with mirrorGen := 2 } } }) (fun s =>
      s.twn.hello = some { peerHello with mirrorGen := 2 } ∧ s.twn.planned = false ∧ s.twn.stalled = [] ∧ Calm 160 s ∧
      twinWinsHome { peerHello with mirrorGen := 2 } s = true ∧
      get Reg.TWN.HOME_AGREED_VALUE s < get Reg.TWN.HOME_GEN_VALUE s) ∧
    Meets ({ reconciling 2 true true with twn := { (reconciling 2 true true).twn with copies := [{ home := true, whole := true, next := 0, extra := [] }] } }) (fun s =>
      s.twn.hello = some peerHello ∧ s.twn.planned = true ∧ twinState s = 2 ∧ s.twn.homeDone = false ∧
      regionLeft true s ≠ 0) ∧
    Meets (reconciling 2 true false) (fun s =>
      s.twn.hello = some peerHello ∧ s.twn.planned = true ∧ twinState s = 2 ∧ s.twn.homeTwin = false ∧
      s.twn.mirrorOurs = false ∧ s.twn.fresh = false ∧ s.twn.copies = [] ∧ peerHello.lostMirror = [] ∧
      peerHello.twinDirty = 0) ∧
    Meets ({ reconciling 3 true true with twn := { (reconciling 3 true true).twn with mirrorDone := true } }) (fun s =>
      s.twn.planned = true ∧ twinState s = 3 ∧ s.twn.homeTwin = true ∧ s.twn.mirrorDone = true ∧ paired s = true ∧
      s.twn.mirrorOurs = false ∧ (∀ c ∈ s.twn.copyWaits, c.home ≠ true) ∧ (∀ c ∈ s.twn.copyWaits, c.home ≠ false)) ∧
    Meets ({ reconciling 3 true false with twn := { (reconciling 3 true false).twn with mirrorOurs := true, homeDone := true } }) (fun s =>
      s.twn.planned = true ∧ twinState s = 3 ∧ s.twn.homeTwin = false ∧ s.twn.mirrorOurs = true ∧
      isSet Reg.TWN.STS_PROMOTED s = false ∧ s.twn.homeDone = true ∧ paired s = true ∧ regionLeft true s = 0 ∧
      regionLeft false s = 0 ∧ s.twn.copying = [] ∧ (∀ c ∈ s.twn.copyWaits, c.home ≠ true)) ∧
    Meets (reconciling 3 true true) (fun s =>
      twinState s = 3 ∧ fenced s = false ∧ homeGranules s - 1 < regionSize true s ∧ 0 < regionSize false s ∧
      unrestored (regionFirst true s + (homeGranules s - 1)) s = false ∧ (∀ p ∈ s.txn.pairs, p.granule ≠ homeGranules s - 1) ∧
      Memory.wf [(0, 7)] = true ∧ 0 < granBytes s) ∧
    Meets ({ reconciling 3 true true with
      rsr := { base.rsr with all := false, restored := [] }, nand := { base.nand with map := [(0, 0)] } }) (fun s =>
      twinState s = 3 ∧ fenced s = false ∧ 0 < regionSize true s ∧ unrestored (regionFirst true s + 0) s = true) ∧
    Meets ({ twinned 1 with twn := { base.twn with waitLeft := some 0 } }) (fun s =>
      twinState s = 1 ∧ s.twn.waitLeft = some 0) := by
  refine ⟨?_, ?_, ?_, ?_, ?_, ?_, ?_, ?_, ?_, ?_, ?_, ?_, ?_⟩ <;> decide +kernel

def ringed : State :=
    put [(Reg.SYS.CAPS_RING, 1), (Reg.TRN.STS_STATE, 2), (Reg.TRN.STS_COUNT, 4), (Reg.TRN.STS_INDEX, 2), (Reg.TRN.RING_STS_AI_LOCK, 1),
      (Reg.TRN.RING_STS_BI_LOCK, 1), (Reg.FRM.SRC_MODE, 1)]
    { base with rng := { base.rng with indexed := true, table := [(0, 0x11), (1, 0x22), (3, 0x33)], noSync := 3 } }
theorem witness_RingCommands :
    Meets ringed (fun s =>
      Ready s ∧ ringOn s = true ∧ Calm 161 s ∧ Calm 162 s ∧ Calm 163 s ∧ Calm 164 s ∧ isMaster s = false ∧
      get Reg.FRM.SRC_MODE s = 1 ∧ s.frm.markerSeen = false ∧ pathA s = true ∧ s.rng.indexed = true ∧
      ringInserts s = true ∧ electing s = false ∧ isSet Reg.TRN.RING_STS_AI_LOCK s = true ∧
      isSet Reg.TRN.RING_STS_BI_LOCK s = true ∧ 3 ≤ s.rng.noSync ∧
      511 ∉ s.rng.broken ∧ (0x22 : BitVec 64) ≠ s.pwr.serial ∧ 511 ≠ get Reg.TRN.STS_INDEX s) ∧
    Meets ({ ringed with txn := { base.txn with requests := [{ ctx := 7, due := 12, needAck := false, domain := true, accepted := 9 }] } }) (fun s =>
      ringOn s = true ∧ 511 ≠ get Reg.TRN.STS_INDEX s ∧ (∀ r ∈ s.txn.requests, r.ctx < 64) ∧ 7 ∈ fencedRequests 9 s) ∧
    Meets (put [(Reg.TRN.STS_STATE, 1)] { ringed with rng := { ringed.rng with ownRun := 32 } }) (fun s =>
      ringOn s = true ∧ electing s = true ∧ Fresh 163 s ∧ ringInserts s = true ∧ isMaster s = false ∧ 32 ≤ s.rng.ownRun) ∧
    Meets ({ ringed with rng := { ringed.rng with indexed := false } }) (fun s =>
      isMaster s = false ∧ s.rng.indexed = false) ∧
    Meets (put [(Reg.TRN.STS_MASTER, 1)] { ringed with rng := { ringed.rng with broken := [1] } }) (fun s =>
      electing s = false ∧ isMaster s = true ∧ inTable 0x99 s = false ∧ Fresh 163 s ∧ 1 ∈ s.rng.broken ∧
      get Reg.TRN.STS_TOPO s = 0 ∧ Calm 161 s ∧ Calm 162 s ∧ Calm 164 s) := by
  refine ⟨?_, ?_, ?_, ?_, ?_⟩ <;> decide +kernel

theorem witness_TestAccessPort :
    Meets base (fun s => Ready s ∧ fenced s = false) ∧
    Meets (put [(Reg.SYS.PERSIST_FENCED, 1)] base) (fun s => Ready s ∧ fenced s = true) := by
  refine ⟨?_, ?_⟩ <;> decide +kernel

def poweredBy : PowerOnIn := { hpEn := 3, hpX16 := 3, dramGroups := 1, nandGroups := 3, exposedGib := 64, vinGood := false }
def dark : State := { base with regs := [], pwr := {} }
def waiting : State :=
    put [(Reg.ENG.VIN_GOOD, 1)] { base with
      pwr := { base.pwr with waitVin := true }
      eng := { base.eng with last := { base.eng.last with vinAbove := true, pfailLow := false } } }
theorem witness_VaonCommands :
    Meets dark (fun s =>
      s.pwr.vaon = false ∧ s.pwr = {} ∧ s.regs = [] ∧ s.reqs = [] ∧ s.upd.settings = [] ∧ s.car = {} ∧
      inLimits (s.twn.nextPair.getD s.twn.stored) poweredBy = true ∧ poweredBy.recStrap = false ∧
      poweredBy.optBadA = false ∧ poweredBy.optBadB = false ∧ poweredBy.selftestOk = true ∧ poweredBy.vinGood = false ∧
      inLimits (s.twn.nextPair.getD s.twn.stored) { poweredBy with exposedGib := 1025 } = false) ∧
    Meets waiting (fun s =>
      Ready s ∧ s.pwr.waitVin = true ∧ get Reg.SYS.BOOT_STAGE s = 0 ∧ s.pwr.seq = .none ∧ s.pwr.attempts = 0 ∧
      vinGoodNow s = true ∧ s.pwr.recStrap = false ∧ get Reg.PWR.STS_RAILS_ON s = 0 ∧ s.car = {} ∧
      persistingS4 s = [] ∧ s.pwr.inLimits = true) ∧
    Meets (put [(Reg.PWR.STS_RAILS_ON, 4095)] base) (fun s =>
      Ready s ∧ 0 ∈ downOrder s ∧ railIsOn 0 s = true) ∧
    Meets (noRailFault { base with pwr := { base.pwr with waitVin := true, attempts := 1 } }) (fun s =>
      Ready s ∧ s.pwr.waitVin = true ∧ s.pwr.seq = .none ∧ 0 < s.pwr.attempts ∧
      s.pwr.attempts < get Reg.PWR.BOOT_ATTEMPTS s ∧ (∀ r : Fin 16, Calm (256 + r) s)) := by
  refine ⟨?_, ?_, ?_, ?_⟩ <;> decide +kernel

def rail (r : Nat) (p : RailPhase) (s : State) : State := { s with pwr := { s.pwr with rails := s.pwr.rails.set r p } }
def railed : State := noRailFault (put [(Reg.PWR.STS_RAILS_ON, 4095)] base)
def goingDown : State := { rail 0 .discharging (noRailFault base) with pwr := { (rail 0 .discharging base).pwr with seq := .down } }
theorem witness_RailCommands :
    Meets (rail 11 .starting railed) (fun s =>
      Ready s ∧ (∀ q : Fin 16, Calm (256 + q) s) ∧ railPhase 11 s = .starting ∧ railIsOn 11 s = true ∧
      11 ∉ s.pwr.retrying ∧ Fresh 267 s) ∧
    Meets (rail 11 .starting { railed with pwr := { railed.pwr with retrying := [11] } }) (fun s =>
      Ready s ∧ (∀ q : Fin 16, Calm (256 + q) s) ∧ railPhase 11 s = .starting ∧ railIsOn 11 s = true ∧ 11 ∈ s.pwr.retrying ∧ 11 ∈ downOrder s) ∧
    Meets (rail 6 .backoff { railed with pwr := { railed.pwr with retrying := [6] } }) (fun s =>
      Ready s ∧ railPhase 6 s = .backoff ∧ 6 ∈ s.pwr.retrying) ∧
    Meets (rail 0 .backoff { noRailFault base with pwr := { (noRailFault base).pwr with seq := .up } }) (fun s =>
      Ready s ∧ railPhase 0 s = .backoff ∧ 0 ∉ s.pwr.retrying ∧ s.pwr.seq = .up ∧
      get (Reg.PWR.SEQ_RAIL (stepOf 0 s)) s = 0 ∧ depsOn 0 s = true) ∧
    Meets (put [(Reg.PWR.RAIL_CFG_REACT 6, 0), (Reg.PWR.RAIL_CFG_RETRIES 6, 2)] (rail 6 .on railed)) (fun s =>
      railIsOn 6 s = true ∧ railPhase 6 s = .on ∧ Machine.goingDown s = false ∧ s.pwr.seq ≠ .ride ∧ 6 ∈ downOrder s ∧
      Fresh 262 s ∧ twinAttached s = false ∧ get (Reg.PWR.RAIL_CFG_REACT 6) s = 0 ∧
      get (Reg.PWR.RAIL_CFG_RETRIES 6) s ≠ 0) ∧
    Meets (put [(Reg.PWR.RAIL_CFG_REACT 6, 1), (Reg.PWR.RAIL_CFG_RETRIES 6, 2)] (rail 6 .on railed)) (fun s =>
      railIsOn 6 s = true ∧ railPhase 6 s = .on ∧ Machine.goingDown s = false ∧ s.pwr.seq ≠ .ride ∧ 6 ∈ downOrder s ∧
      Fresh 262 s ∧ twinAttached s = false ∧ get (Reg.PWR.RAIL_CFG_REACT 6) s = 1 ∧
      get (Reg.PWR.RAIL_CFG_RETRIES 6) s ≠ 0) ∧
    Meets (put [(Reg.PWR.RAIL_CFG_REACT 6, 2), (Reg.PWR.RAIL_CFG_RETRIES 6, 2)] (rail 6 .on railed)) (fun s =>
      railIsOn 6 s = true ∧ railPhase 6 s = .on ∧ Machine.goingDown s = false ∧ s.pwr.seq ≠ .ride ∧ 6 ∈ downOrder s ∧
      Fresh 262 s ∧ twinAttached s = false ∧ get (Reg.PWR.RAIL_CFG_REACT 6) s = 2 ∧
      get (Reg.PWR.RAIL_CFG_RETRIES 6) s ≠ 0) ∧
    Meets (put [(Reg.PWR.RAIL_CFG_REACT 6, 3), (Reg.PWR.RAIL_CFG_RETRIES 6, 2)] (rail 6 .on railed)) (fun s =>
      railIsOn 6 s = true ∧ railPhase 6 s = .on ∧ Machine.goingDown s = false ∧ s.pwr.seq ≠ .ride ∧ 6 ∈ downOrder s ∧
      Fresh 262 s ∧ twinAttached s = false ∧ get (Reg.PWR.RAIL_CFG_REACT 6) s = 3 ∧
      get (Reg.PWR.RAIL_CFG_RETRIES 6) s ≠ 0) ∧
    Meets (rail 6 .discharging (noRailFault base)) (fun s =>
      Ready s ∧ (∀ q : Fin 16, Calm (256 + q) s) ∧ dischargeWaits 6 s = true ∧ s.pwr.seq = .none ∧
      6 ∉ s.pwr.groupOff ∧ 6 ∉ s.pwr.retrying ∧ railPhase 6 s = .discharging) ∧
    Meets goingDown (fun s =>
      Ready s ∧ dischargeWaits 0 s = true ∧ s.pwr.seq = .down ∧ s.pwr.offDue = false ∧ currentRail s = 0 ∧
      (∀ q ∈ downOrder s, railIsOn q s = false) ∧ s.pwr.cold = false ∧ s.pwr.waitVin = false ∧
      s.pwr.attempts < get Reg.PWR.BOOT_ATTEMPTS s) ∧
    Meets (rail 6 .forced (noRailFault base)) (fun s =>
      railPhase 6 s = .forced ∧ s.pwr.seq = .none ∧ 6 ∉ s.pwr.groupOff ∧ 6 ∉ s.pwr.retrying) ∧
    Meets ({ railed with pwr := { railed.pwr with seq := .down } }) (fun s =>
      s.pwr.seq = .down ∧ railIsOn 0 s = true ∧
      (downOrder s).filter (fun q => q != 0 && (dependents 0 s).contains q && railIsOn q s) ≠ []) := by
  refine ⟨?_, ?_, ?_, ?_, ?_, ?_, ?_, ?_, ?_, ?_, ?_, ?_⟩ <;> decide +kernel

/-- No source of the state is severe enough to enter the safe state or to reset anything. -/
def calmed (s : State) : State :=
    put (((List.range 334).filter (fun k => !decide (Calm k s))).flatMap (fun k =>
      [(Reg.FLS.SRC_CFG_SEV k, 1), (Reg.FLS.SRC_CFG_ACT k, 0)])) s
def switching (react : Nat) : State :=
    put [(Reg.PDM.DOM_CTL_STATE 44, 3), (Reg.PDM.DOM_CTL_REACT 44, react)]
    { base with pwr := { base.pwr with switching := [{ dom := 44, target := 0, tries := 0 }] } }
theorem witness_DomainCommands :
    Meets (put [(Reg.LOCK_LOCK 0x82, 1)] base) (fun s =>
      Ready s ∧ Reaches .gaffer (0x82100 + 4 * 44) 1 s ∧ 1 ≠ shown (Reg.PDM.DOM_CTL_REQ 44) s ∧
      isSet (Reg.LOCK_LOCK 0x82) s = true) ∧
    Meets base (fun s =>
      Ready s ∧ Reaches .gaffer (0x82100 + 4 * 51) 3 s ∧ 3 ≠ shown (Reg.PDM.DOM_CTL_REQ 51) s ∧
      isSet (Reg.LOCK_LOCK 0x82) s = false) ∧
    Meets base (fun s =>
      Reaches .gaffer (0x82100 + 4 * 0) 1 s ∧ 1 ≠ shown (Reg.PDM.DOM_CTL_REQ 0) s ∧ domainIdle 0 s = false) ∧
    Meets (put [(Reg.BLKCTL_ENABLE 0x82, 1)] base) (fun s =>
      Reaches .gaffer (0x82100 + 4 * 44) 1 s ∧ 1 ≠ shown (Reg.PDM.DOM_CTL_REQ 44) s ∧ domainIdle 44 s = true ∧
      isSet (Reg.LOCK_LOCK 0x82) s = false ∧ isSet (Reg.BLKCTL_ENABLE 0x82) s = true) ∧
    Meets base (fun s =>
      Reaches .gaffer (0x82100 + 4 * 44) 1 s ∧ 1 ≠ shown (Reg.PDM.DOM_CTL_REQ 44) s ∧ domainIdle 44 s = true ∧
      isSet (Reg.LOCK_LOCK 0x82) s = false ∧ isSet (Reg.BLKCTL_ENABLE 0x82) s = false) ∧
    Meets (switching 0) (fun s =>
      Ready s ∧ s.pwr.switching.find? (·.dom == 44) = some { dom := 44, target := 0, tries := 0 } ∧ Fresh 312 s ∧
      reactionsWait s = false ∧ get (Reg.PDM.DOM_CTL_REACT 44) s = 0) ∧
    Meets (switching 1) (fun s =>
      Ready s ∧ s.pwr.switching.find? (·.dom == 44) = some { dom := 44, target := 0, tries := 0 } ∧ Fresh 312 s ∧
      reactionsWait s = false ∧ get (Reg.PDM.DOM_CTL_REACT 44) s = 1) ∧
    Meets (calmed (switching 2)) (fun s =>
      Ready s ∧ s.pwr.switching.find? (·.dom == 44) = some { dom := 44, target := 0, tries := 0 } ∧ Fresh 312 s ∧
      reactionsWait s = false ∧ get (Reg.PDM.DOM_CTL_REACT 44) s = 2 ∧ domainPresent 44 s = true ∧ (∀ k, k < 334 → Calm k s)) ∧
    Meets (put [(Reg.SYS.PERSIST_FENCED, 1), (Reg.PDM.DOM_CTL_STATE 42, 3)]
      { base with pwr := { base.pwr with switching := [{ dom := 42, target := 1, tries := 0 }] } }) (fun s =>
      (s.pwr.switching.find? (·.dom == 42)).isSome = true ∧ reactionsWait s = true ∧ srcSealPath (268 + 42) = true ∧
      Fresh (268 + 42) s) := by
  refine ⟨?_, ?_, ?_, ?_, ?_, ?_, ?_, ?_, ?_⟩ <;> decide +kernel

theorem witness_FaultRaises :
    Meets base (fun s =>
      Ready s ∧ srcReserved 0 = false ∧ Fresh 0 s ∧ get (Reg.FLS.SRC_CFG_SEV 0) s < 3 ∧
      isSet Reg.FLT.FIRST_ID_VALID s = false ∧ reactionsWait s = false ∧ srcReserved 383 = true ∧ Fresh 184 s ∧ Fresh 185 s) ∧
    Meets (put [(Reg.FLS.LIVE 9, 1)] base) (fun s =>
      isSet (Reg.FLS.LIVE 9) s = true) ∧
    Meets (put [(Reg.FLS.SRC_CFG_SEV 9, 3), (Reg.FLT.FIRST_ID_VALID, 1)] base) (fun s =>
      srcReserved 9 = false ∧ Fresh 9 s ∧ 3 ≤ get (Reg.FLS.SRC_CFG_SEV 9) s ∧ isSet Reg.FLT.FIRST_ID_VALID s = true ∧
      reactionsWait s = false) ∧
    Meets (put [(Reg.FLS.SRC_CFG_SEV 9, 0), (Reg.SYS.PERSIST_FENCED, 1)] base) (fun s =>
      Fresh 9 s ∧ get (Reg.FLS.SRC_CFG_SEV 9) s = 0 ∧ reactionsWait s = true) ∧
    Meets (put [(Reg.FLS.SRC_CFG_SEV 9, 1), (Reg.FLS.SRC_CFG_ACT 9, 39)] base) (fun s =>
      bitOf (get (Reg.FLS.SRC_CFG_ACT 9) s) actIrqHost = true ∧ bitOf (get (Reg.FLS.SRC_CFG_ACT 9) s) actIrqGaffer = true ∧
      bitOf (get (Reg.FLS.SRC_CFG_ACT 9) s) actNmi = true ∧ bitOf (get (Reg.FLS.SRC_CFG_ACT 9) s) actPin = true ∧
      Fresh 9 s) ∧
    Meets (calmed base) (fun s =>
      Fresh 330 s) := by
  refine ⟨?_, ?_, ?_, ?_, ?_, ?_⟩ <;> decide +kernel

theorem witness_SafeStateEntered :
    Meets (put [(Reg.FLS.SRC_CFG_SEV 9, 4), (Reg.FLS.SRC_CFG_SEV 226, 4)] base) (fun s =>
      Ready s ∧ inSafe s = false ∧ savArmed s = true ∧ fenced s = false ∧ savState s ≠ 7 ∧
      isSet Reg.SYS.CAPS_RING s = false ∧ paired s = false ∧ srcReserved 9 = false ∧
      isSet (Reg.FLS.LIVE 9) s = false ∧ get (Reg.FLS.SRC_CFG_SEV 9) s = 4 ∧
      bitOf (get (Reg.FLS.SRC_CFG_ACT 9) s) actBlockReset = false ∧
      bitOf (get (Reg.FLS.SRC_CFG_ACT 9) s) actChipReset = false ∧ 9 ∉ sealPathSources ∧ 226 ∈ sealPathSources ∧
      sealPathOk s = true ∧ srcReserved 226 = false ∧ isSet (Reg.FLS.LIVE 226) s = false ∧
      get (Reg.FLS.SRC_CFG_SEV 226) s = 4 ∧ bitOf (get (Reg.FLS.SRC_CFG_ACT 226) s) actBlockReset = false ∧
      bitOf (get (Reg.FLS.SRC_CFG_ACT 226) s) actChipReset = false ∧ Calm 188 s ∧
      isSet (Reg.FLS.LIVE 334) s = false) ∧
    Meets (put [(Reg.PWR.STS_RAILS_ON, 4095)] keyOpen) (fun s =>
      inSafe s = false ∧ savArmed s = true ∧ fenced s = false ∧ savState s ≠ 7 ∧ isSet Reg.SYS.CAPS_RING s = false ∧
      paired s = false ∧ Reaches .mgmt 0x97108 1 s ∧ isSet Reg.SAF.FINJ_KEY_OPEN s = true ∧ sealPathOk s = true) ∧
    Meets base (fun s =>
      inSafe s = false ∧ Reaches .mgmt 0x97108 1 s ∧ isSet Reg.SAF.FINJ_KEY_OPEN s = false) := by
  refine ⟨?_, ?_, ?_⟩ <;> decide +kernel

theorem witness_FaultCommands :
    Meets (put [(Reg.FLS.LIVE 383, 1), (Reg.FLT.FIRST_ID_VALID, 1), (Reg.FLT.FIRST_ID_ID, 383)] base) (fun s =>
      Ready s ∧ injectedHold 383 s = false ∧ isSet (Reg.FLS.LIVE 383) s = true ∧ isSet Reg.FLT.FIRST_ID_VALID s = true ∧
      get Reg.FLT.FIRST_ID_ID s = 383 ∧ s.flt.firstRead = false ∧ Reaches .mgmt 0x90124 1 s ∧
      Reaches .mgmt (0x91200 + 4096 * 5 + 4) 0xFFFFFFFF s ∧ raiseSev (64 * 5 + 32 + 31) s ≠ 4 ∧
      isSet (Reg.FLS.LIVE (64 * 5 + 32 + 0)) s = false) ∧
    Meets (put [(Reg.FLT.PINCTL_PULSE, 1)] base) (fun s =>
      isSet Reg.FLT.PINCTL_PULSE s = true ∧ s.pwr.pulseLeft = 0 ∧ Reaches .mgmt 0x90128 0 s ∧
      isSet Reg.FLT.PINCTL_HW_HOLD s = false) ∧
    Meets (put [(Reg.FLT.PINCTL_HW_HOLD, 1)] base) (fun s =>
      Reaches .mgmt 0x90128 0 s ∧ isSet Reg.FLT.PINCTL_HW_HOLD s = true) ∧
    Meets (put [(Reg.SAF.STS_SAFE, 1), (Reg.SYS.PERSIST_SAFE, 1)] base) (fun s =>
      Ready s ∧ Reaches .mgmt 0x97108 2 s ∧ fromManagement .mgmt s = true ∧ isSet Reg.SAF.STS_SAFE s = true ∧
      savArmed s = true ∧ fenced s = false ∧ savState s ≠ 7 ∧ isSet Reg.SYS.CAPS_RING s = false ∧ paired s = false) ∧
    Meets (put [(Reg.FLS.SRC_CFG_SEV 335, 3)] base) (fun s =>
      Reaches .mgmt 0x97108 2 s ∧ isSet Reg.SAF.STS_SAFE s = false ∧ Fresh 335 s) ∧
    Meets (put [(Reg.SAF.ST_PROGRESS_FRAME, 66560), (Reg.SAV.STS_STATE, 4)]
      { base with sav := { base.sav with missed := 3 }, flt := { base.flt with aonFrames := 65536 } }) (fun s =>
      66560 ≤ get Reg.SAF.ST_PROGRESS_FRAME s ∧ 0 ∉ s.flt.testsDone ∧ pageDark 0x97 s = false ∧ Fresh 329 s ∧
      savState s = 4 ∧ 65536 ≤ s.flt.aonFrames ∧ 3 ≤ s.sav.missed ∧ Fresh 333 s) := by
  refine ⟨?_, ?_, ?_, ?_, ?_, ?_⟩ <;> decide +kernel

def credited : State := put [(Reg.BLKCTL_ENABLE 0xA0, 1), (Reg.BLKCTL_ENABLE 0xA2, 1), (Reg.BLKCTL_ENABLE 0xA3, 1)] base
theorem witness_GatherPushes :
    Meets credited (fun s =>
      Ready s ∧ s.gq.length = 4 ∧ domainOn 44 s = true ∧ 0 ∈ producerQueue .flt ∧ (queue 0 s).packing.length < 32 ∧
      (overflowRecord 0 s ++ record 0x10 (List.replicate 251 7) s).length ≤ queueGrant 0 s) ∧
    Meets ({ credited with gq := credited.gq.map (fun g => { g with free := 6 }) }) (fun s =>
      0 ∈ producerQueue .flt ∧ queueGrant 0 s < (overflowRecord 0 s ++ record 0x10 [1, 2, 3] s).length ∧
      (queue 0 s).dropped = 0 ∧ 2 ∈ producerQueue .rsr ∧ queueGrant 2 s < (record 0x10 [1, 2, 3] s).length) ∧
    Meets credited (fun s =>
      2 ∈ producerQueue .rsr ∧ (queue 2 s).waiting = [] ∧ (queue 2 s).packing.length < 32 ∧
      (record 0x10 [1, 2, 3] s).length ≤ queueGrant 2 s) := by
  refine ⟨?_, ?_, ?_⟩ <;> decide +kernel

def holding : State :=
    put [(Reg.GQ.WR_SEQ 3, 1)] { credited with
      gq := credited.gq.map (fun g => { g with held := [{ words := [1, 2], pad := true }], packing := [7] }) }
theorem witness_GatherOperations :
    Meets credited (fun s =>
      Ready s ∧ s.gq.length = 4 ∧ Reaches .gaffer (0xA0108 + 4096 * 3) 1 s ∧ queueDepth 3 s = 0 ∧
      Reaches .gaffer (0xA0108 + 4096 * 3) 2 s ∧ Reaches .gaffer (0xA0108 + 4096 * 3) 4 s ∧
      Reaches .gaffer (0xA0108 + 4096 * 3) 8 s ∧ Reaches .gaffer (0xA0108 + 4096 * 3) 16 s ∧
      (queue 3 s).packing = []) ∧
    Meets holding (fun s =>
      Reaches .gaffer (0xA0108 + 4096 * 3) 1 s ∧ 1 ≤ queueDepth 3 s ∧ (queue 3 s).packing ≠ [] ∧
      Reaches .gaffer (0xA0108 + 4096 * 2) 8 s ∧ Reaches .gaffer (0xA0108 + 4096 * 2) 16 s ∧
      (queue 2 s).waiting = [] ∧ (queue 2 s).packing ≠ []) := by
  refine ⟨?_, ?_⟩ <;> decide +kernel

def programmed : State := { base with car := { base.car with words := [(300 * 0x4000 + 5, 77)] } }
theorem witness_CodeArraySequences :
    Meets base (fun s =>
      Ready s ∧ Reaches .mgmt 0xB0000 0 s ∧ (carBank 1 s).op = none ∧ (carBank 1 s).step = 0 ∧ carFailed 1 s = false ∧ (300 - 256) * 0x4000 + 5 < 0x400000 ∧
      s.car.bad.contains (1 * 0x400000 + ((300 - 256) * 0x4000 + 5)) = false ∧
      arrayWord (300 * 0x4000 + 5) s = erasedWord ∧ arrayCopy (300 * 0x4000 + 5) s = erasedWord ∧
      ownArea (blockOfWord (300 * 0x4000 + 5)) = false ∧
      programRefusal (blockOfWord (300 * 0x4000 + 5)) (300 * 0x4000 + 5) 77 erasedWord s = 0) ∧
    Meets programmed (fun s =>
      arrayWord (300 * 0x4000 + 5) s = 77 ∧ arrayCopy (300 * 0x4000 + 5) s = 77 ∧ carFailed 1 s = false ∧
      ownArea (blockOfWord (300 * 0x4000 + 5)) = false ∧
      programRefusal (blockOfWord (300 * 0x4000 + 5)) (300 * 0x4000 + 5) 78 77 s ≠ 0) ∧
    Meets base (fun s =>
      carLocked 300 s = false ∧ carLocked 0 s = true ∧ carFailed 0 s = false ∧ Reaches .mgmt 0xB0000 0 s ∧
      (carBank 0 s).op = none ∧ (carBank 0 s).step = 0 ∧ s.car.bad.contains (optBase + 500) = false ∧
      arrayWord (optBase + 500) s = erasedWord ∧ arrayCopy (optBase + 500) s = erasedWord ∧ carTarget 0 = some 0) := by
  refine ⟨?_, ?_, ?_⟩ <;> decide +kernel

def operating (x : CarOp) : State := { base with car := { base.car with bank1 := { base.car.bank1 with op := some x } } }
theorem witness_CodeArrayOperations :
    Meets (operating { kind := 2, block := 300, word := 0, data := 0 }) (fun s =>
      Ready s ∧ Reaches .mgmt 0xB0000 0 s ∧ carTarget (300 * 0x10000) = some 1 ∧
      (carBank 1 s).op = some { kind := 2, block := 300, word := 0, data := 0 } ∧ (carBank 1 s).step = 0 ∧
      0 < optBase ∧ Fresh 232 s ∧ carBusy (carBank 1 s) = true ∧ Fresh 231 s) ∧
    Meets (operating { kind := 2, block := 300, word := 0, data := 0, suspended := true }) (fun s =>
      Reaches .mgmt 0xB0000 0 s ∧ (carBank 1 s).step = 0 ∧
      (carBank 1 s).op = some { kind := 2, block := 300, word := 0, data := 0, suspended := true }) ∧
    Meets (operating { kind := 1, block := 300, word := 300 * 0x4000 + 5, data := 77 }) (fun s =>
      (carBank 1 s).op = some { kind := 1, block := 300, word := 300 * 0x4000 + 5, data := 77 } ∧
      300 * 0x4000 + 5 < optBase) ∧
    Meets (put [(Reg.CAR.BANK_STS_MODE 1, 1)] base) (fun s =>
      carTarget (300 * 0x10000) = some 1 ∧ inOption (300 * 0x10000) = false ∧
      carStatusRead 1 (300 * 0x10000 / 0x10000) s = true) ∧
    Meets (put [(Reg.CAR.BANK_STS_MODE 1, 2)] base) (fun s =>
      carTarget 0x1000000 = some 1 ∧ inOption 0x1000000 = false ∧ carStatusRead 1 (0x1000000 / 0x10000) s = false ∧
      get (Reg.CAR.BANK_STS_MODE 1) s = 2) ∧
    Meets programmed (fun s =>
      let off := 4 * (300 * 0x4000 + 5)
      carTarget off = some 1 ∧ inOption off = false ∧ carStatusRead 1 (off / 0x10000) s = false ∧
      get (Reg.CAR.BANK_STS_MODE 1) s = 0 ∧ off / 4 ∉ s.car.bad ∧ isTally (off / 0x10000) s = false ∧
      ownArea (off / 0x10000) = false ∧ arrayCopy (off / 4) s = arrayWord (off / 4) s ∧ Fresh 232 s) := by
  refine ⟨?_, ?_, ?_, ?_, ?_, ?_⟩ <;> decide +kernel

def staged : State :=
    { base with upd := { base.upd with images := (List.replicate 4 (List.replicate 2 { staged := true, verifies := true, version := 3 })).flatten } }
def activated (running : Nat) : State := { staged with upd := { staged.upd with log := [.activate 1 true], running := running } }
theorem witness_UpdateCommands :
    Meets base (fun s =>
      Ready s ∧ Reaches .mgmt 0xB1130 (3 + 4 * 1) s ∧ fenced s = false ∧ s.upd.transfer = none ∧
      (imageOf 3 true s).staged = false ∧ Reaches .mgmt 0xB1134 1 s ∧ Reaches .mgmt 0xB1134 3 s ∧ pendingOf s = [] ∧
      Reaches .mgmt 0xB1134 2 s ∧ Reaches .mgmt 0xB1134 4 s ∧ Reaches .mgmt 0xB1134 8 s ∧ savArmed s = true ∧
      savState s ≠ 7 ∧ isSet Reg.SYS.CAPS_RING s = false ∧ paired s = false) ∧
    Meets ({ staged with upd := { staged.upd with transfer := some { component := 3, slotB := true, next := 0 } } }) (fun s =>
      fenced s = false ∧ (s.upd.transfer.map (fun t => t.component == 3)).getD false = true) ∧
    Meets staged (fun s =>
      let img := imageOf 1 true s
      fenced s = false ∧ (s.upd.transfer.map (fun t => t.component == 1)).getD false = false ∧ img.staged = true ∧
      img.rejected = false ∧ compatible (overlaySet (pendingSet s) [(1, true)]) s = true ∧ 8 ≤ logFree s) ∧
    Meets ({ staged with upd := { staged.upd with images := staged.upd.images.set 3 { staged := true, verifies := true, version := 3, minPeer := [4, 0, 0, 0] } } }) (fun s =>
      let img := imageOf 1 true s
      fenced s = false ∧ (s.upd.transfer.map (fun t => t.component == 1)).getD false = false ∧ img.staged = true ∧
      img.rejected = false ∧ compatible (overlaySet (pendingSet s) [(1, true)]) s = false) ∧
    Meets ({ staged with upd := { staged.upd with log := List.replicate 2041 .confirm } }) (fun s =>
      let img := imageOf 1 true s
      fenced s = false ∧ (s.upd.transfer.map (fun t => t.component == 1)).getD false = false ∧ img.staged = true ∧
      img.rejected = false ∧ compatible (overlaySet (pendingSet s) [(1, true)]) s = true ∧
      logFree s < 8) ∧
    Meets ({ staged with upd := { staged.upd with stateNewest := 9 } }) (fun s =>
      let img := imageOf 0 true s
      fenced s = false ∧ img.staged = true ∧ img.rejected = false ∧ s.upd.transfer = none ∧
      compatible (overlaySet (pendingSet s) [(0, true)]) s = true ∧ 8 ≤ logFree s ∧
      (s.upd.stateOldest < img.stateOldest ∨ img.stateFmt < s.upd.stateNewest)) ∧
    Meets (put [(Reg.SYS.PERSIST_FENCED, 1)] base) (fun s =>
      Reaches .mgmt 0xB1130 7 s ∧ Reaches .mgmt 0xB1134 1 s ∧ Reaches .mgmt 0xB1134 2 s ∧ Reaches .mgmt 0xB1134 4 s ∧
      Reaches .mgmt 0xB1134 8 s ∧ fenced s = true) ∧
    Meets (activated 0) (fun s =>
      pendingOf s ≠ [] ∧ pendingSet s ≠ s.upd.running ∧ s.upd.log.length < 2040) ∧
    Meets (put [(Reg.UPD.STS_SETTINGS_DEFAULTED, 1)] (activated 2)) (fun s =>
      pendingOf s ≠ [] ∧ pendingSet s = s.upd.running ∧ isSet Reg.UPD.STS_SETTINGS_DEFAULTED s = true) ∧
    Meets (activated 2) (fun s =>
      pendingOf s ≠ [] ∧ pendingSet s = s.upd.running ∧ isSet Reg.UPD.STS_SETTINGS_DEFAULTED s = false) ∧
    Meets ({ activated 2 with upd := { (activated 2).upd with log := List.replicate 2039 .confirm ++ [.activate 1 true] } }) (fun s =>
      pendingOf s ≠ [] ∧ 2040 ≤ s.upd.log.length) ∧
    Meets (put [(Reg.UPD.CFG_AUTO_EN, 1), (Reg.UPD.CFG_AUTO_FRAMES, 5)] { activated 2 with upd := { (activated 2).upd with bootFrames := 100000000, okSeen := true } }) (fun s =>
      autoConfirms s = true) ∧
    Meets ({ base with upd := { base.upd with compacting := true } }) (fun s =>
      s.upd.compacting = true ∧ fenced s = false) := by
  refine ⟨?_, ?_, ?_, ?_, ?_, ?_, ?_, ?_, ?_, ?_, ?_, ?_, ?_⟩ <;> decide +kernel

theorem witness_FrameCounter :
    Meets (put [(Reg.SYS.BOOT_PROVISIONAL, 0)] base) (fun s =>
      Ready s ∧ pllWaits 0 s = false ∧ isSet Reg.SYS.BOOT_PROVISIONAL s = false ∧ s.frm.adopt = none) ∧
    Meets ({ base with frm := { base.frm with adopt := some 90 } }) (fun s =>
      Ready s ∧ pllWaits 0 s = false ∧ s.frm.adopt = some 90) ∧
    Meets (put [(Reg.SYS.BOOT_PROVISIONAL, 1), (Reg.RSR.STS_STAGE, 2)] base) (fun s =>
      isSet Reg.SYS.BOOT_PROVISIONAL s = true ∧ 2 ≤ rsrStage s ∧ s.frm.adopt = none ∧ pllWaits 0 s = false) ∧
    Meets ({ base with pwr := { base.pwr with relocking := [(0, 3)] } }) (fun s =>
      Ready s ∧ pllWaits 0 s = true) ∧
    Meets ({ base with shadows := [{ f := Reg.SAV.RIDE_MIN_MS, value := 7, late := false }] }) (fun s =>
      let f := Reg.SAV.RIDE_MIN_MS
      s.shadows = [{ f := f, value := 7, late := false }] ∧ pageDark (f.addr / 4096) s = false ∧ f.lo < 32 ∧
      f.addr % 4096 ≠ 0x34 ∧ s.frm.commitShadow = [] ∧ f.key ≠ Reg.SPR.CFG_AUTO_MIGRATE.key) ∧
    Meets ({ base with shadows := [{ f := Reg.PDM.DOM_CTL_REQ 5, value := 1, late := false }] }) (fun s =>
      let f := Reg.PDM.DOM_CTL_REQ 5
      pageDark (f.addr / 4096) s = false ∧ f.lo < 32 ∧ f.addr % 4096 ≠ 0x34) := by
  refine ⟨?_, ?_, ?_, ?_, ?_, ?_⟩ <;> decide +kernel

theorem witness_RegisterWrites :
    Meets base (fun s =>
      Ready s ∧ mayWrite (.port 1) 0x8012C 5 s = false ∧ mayWrite (.port 1) (0x80128 + 4) 0 s = false ∧
      mayWrite (.port 1) 0x80128 5 s = false ∧ mayWrite .mgmt 0xD0100 5 s = true ∧ pageDark 0xD0 s = true ∧
      Reaches .mgmt 0x8012C 5 s ∧ Reaches .mgmt 0x8012C 10000 s ∧ s.shadows = [] ∧ 5 ≠ get Reg.ENG.SHUNT_MICROOHM s ∧
      isSet (Reg.LOCK_LOCK 0x80) s = false ∧ isSet (Reg.BLKCTL_ENABLE 0x80) s = false ∧ pageBusy 0x80 s = false) ∧
    Meets (put [(Reg.LOCK_LOCK 0x80, 1)] base) (fun s =>
      Reaches .mgmt 0x8012C 100 s ∧ 100 ≠ get Reg.ENG.SHUNT_MICROOHM s ∧ isSet (Reg.LOCK_LOCK 0x80) s = true) ∧
    Meets (put [(Reg.BLKCTL_ENABLE 0x80, 1)] base) (fun s =>
      Reaches .mgmt 0x8012C 100 s ∧ isSet (Reg.LOCK_LOCK 0x80) s = false ∧ isSet (Reg.BLKCTL_ENABLE 0x80) s = true) ∧
    Meets (put [(Reg.ENG.EXERCISE_ACTIVE, 1)] base) (fun s =>
      Reaches .mgmt 0x8012C 100 s ∧ isSet (Reg.BLKCTL_ENABLE 0x80) s = false ∧ pageBusy 0x80 s = true) ∧
    Meets (put [(Reg.BLKCTL_ENABLE 0x42, 1)] base) (fun s =>
      Reaches .mgmt 0x42108 4000 s ∧ s.shadows = [] ∧ isSet (Reg.LOCK_LOCK 0x42) s = false ∧
      4000 ≠ get Reg.SAV.RIDE_MIN_MS s ∧ Reaches .mgmt 0x42108 0 s ∧ isSet (Reg.BLKCTL_ENABLE 0x42) s = true) ∧
    Meets (put [(Reg.BLKCTL_ENABLE 0x42, 0)] base) (fun s =>
      Reaches .mgmt 0x42108 1 s ∧ 1 ≠ get Reg.SAV.RIDE_MIN_MS s ∧ isSet (Reg.BLKCTL_ENABLE 0x42) s = false) := by
  refine ⟨?_, ?_, ?_, ?_, ?_, ?_⟩ <;> decide +kernel

theorem witness_PersistIndicationKept :
    Meets (State.reset) (fun s => PersistInv s ∧ DomainInv s) ∧
    Meets (put [(Reg.SYS.PERSIST_OK, 1)] { base with eng := { base.eng with last := { base.eng.last with vinAbove := true } } }) (fun s =>
      DomainInv s) := by
  refine ⟨?_, ?_⟩ <;> decide +kernel

theorem witness_MemoryFormKept :
    Meets ({ base with dram := { base.dram with mem := [(64, 7), (4096, 1)] } }) (fun s => MemoryForm s) := by
  decide +kernel

/-! ### Ill-formed commands: one for each check of WellFormed -/

theorem wf_good :
    [Instr.frameTick {}, .memrd 0 (.home 4096) 7 .good, .sealComplete 0, .erase (sequenceOf .mgmt 1 0xE3 ++
      [{ by_ := .mgmt, off := 0x1000000, data := 0x3E }])].all WellFormed = true := by decide
theorem wf_tick_codes :
    [{ vin := 2 ^ 18 }, { vcap := 2 ^ 18 }, { vbat := 2 ^ 18 }, { ibat := -131073 }, { ibat := 131072 }, { tStore := -641 },
      { tStore := 2001 }].all (fun (x : GaugeSamples) => !WellFormed (.frameTick { samples := x })) = true := by decide
theorem wf_tick_moves :
    [{ granule := 2 ^ 25, src := ⟨0, 0, 0, 0⟩, dst := ⟨0, 0, 0, 0⟩ }, { granule := 0, src := ⟨32, 0, 0, 0⟩, dst := ⟨0, 0, 0, 0⟩ },
      { granule := 0, src := ⟨0, 0, 0, 0⟩, dst := ⟨0, 0, 0, 1024⟩ }].all (fun (m : MoveStart) => !WellFormed (.frameTick { moves := [m] })) =
      true := by decide
theorem wf_register_write :
    [Instr.registerWrite .mgmt 0 false 15 0 40000, .registerWrite .mgmt 0 false 16 0 0].all (fun c => !WellFormed c) = true := by
  decide
theorem wf_addresses :
    [HostAddr.home 1, .home (2 ^ 40), .window 63, .window (2 ^ 44), .mirror 65, .mirror (2 ^ 39)].all (fun a =>
      !WellFormed (.memrd 0 a 0 .good) && !WellFormed (.memwr 0 a 0 0 false { residues := 0 }) &&
      !WellFormed (.memwrptl 0 a 0 0 0 false { residues := 0 }) && !WellFormed (.meminv 0 a 0)) = true := by decide
theorem wf_mailbox :
    [Instr.hdmCommit 0 0 64 0, .setTimestamp 0 (2 ^ 64), .injectPoison 0 1, .clearPoison 0 65 0 0].all (fun c => !WellFormed c) =
      true := by decide
theorem wf_banks :
    [Instr.dramCommandIssue 0 0 [128] [], .dramCommandIssue 0 0 [] [128], .pageIdleExpiry 0 0 128].all (fun c => !WellFormed c) =
      true := by decide
theorem wf_phases :
    [Instr.txnCommit .mgmt 0 40000, .ballotInsert 0 true 40000, .prepareAck 0 40000, .domainRequest .mgmt 0 0 40000,
      .faultRaise 0 0 0 0 0 true 40000].all (fun c => !WellFormed c) = true := by decide +kernel
theorem wf_ballots :
    [Instr.ballot 0 1024 0 0, .ballot 0 2 512 0, .tallyInsert 0 512 0, .tally 0 512 0 ⟨2, false⟩ 0 true, .tally 0 0 512 ⟨2, false⟩ 0 true,
      .tally 0 0 0 ⟨1024, false⟩ 0 true,
      .decision 0 512 true 0 0 true, .query 0 512 0 0 true, .query 0 0 0 512 true, .answer 0 512 0 0 true].all
      (fun c => !WellFormed c) = true := by decide +kernel
theorem wf_seals :
    [Instr.lehrPick 16 none .good [], .sealComplete (2 ^ 25), .nandProgramFail (2 ^ 25) 0, .nandProgramFail 0 16, .moveDone (2 ^ 25),
      .restoreGranuleDone (2 ^ 25) true].all (fun c => !WellFormed c) = true := by decide +kernel
theorem wf_locations :
    [(⟨32, 0, 0, 0⟩ : Loc), ⟨0, 16, 0, 0⟩, ⟨0, 0, 8192, 0⟩, ⟨0, 0, 0, 1024⟩].all (fun l =>
      !WellFormed (.nandEraseDone l true) && !WellFormed (.nandReadDone l [] [])) = true := by decide
theorem wf_twin :
    [Instr.heartbeat { frame := 0, state := 8, async := false, seq := 0 }, .heartbeat { frame := 2 ^ 48, state := 4, async := false, seq := 0 }, .hello { peerHello with granSize := 4 }, .hello { peerHello with homeGib := 513 },
      .hello { peerHello with state := 8 }, .granuleCopy true (2 ^ 25) [] false, .granuleCopy true 0 [(0x20000, 1)] false].all
      (fun c => !WellFormed c) = true := by decide +kernel
theorem wf_ring :
    [Instr.enum 1024 0 [] .a true, .enum 4 0 [(512, 1)] .a true, .break_ 512 false .a true, .fenceCell 512 0 true].all
      (fun c => !WellFormed c) = true := by decide +kernel
def population : PowerOnIn := { hpEn := 3, hpX16 := 3, dramGroups := 1, nandGroups := 3, exposedGib := 64 }
theorem wf_population :
    [{ population with ranksPerChannel := 5 }, { population with dies := 17 }, { population with blocksPerDie := 8193 },
      { population with pagesPerBlock := 1025 }, { population with exposedGib := 65536 }].all
      (fun (x : PowerOnIn) => !WellFormed (.vaonPowerUp x)) = true := by decide
theorem wf_faults :
    [Instr.faultRaise 0 256 0 0 0 true 0, .faultRaise 0 0 65536 0 0 true 0, .gatherPush 0 .flt 0 (List.replicate 252 0)].all
      (fun c => !WellFormed c) = true := by decide +kernel
theorem wf_code_array :
    [Instr.program (sequenceOf .mgmt 0 0xA9), .erase (sequenceOf .mgmt 0 0xA9 ++ [{ by_ := .mgmt, off := 0, data := 0x3E }]),
      .optionProgram [], .readStatus (sequenceOf .mgmt 0 0x75), .clearStatus (sequenceOf .mgmt 0 0x57), .readArray (sequenceOf .mgmt 0 0x9A),
      .readId (sequenceOf .mgmt 0 0x99), .suspend { by_ := .mgmt, off := 2, data := 0 },
      .resumeOperation { by_ := .mgmt, off := 0x2001000, data := 0 }, .arrayRead .mgmt 2 0].all (fun c => !WellFormed c) = true := by decide +kernel

/-! ### Single commands on small states; what each must leave is taken from the rule it names. -/

/-- What a command leaves. -/
def after (c : Instr) (s : State) : State := match exec c s with | .next t => t | _ => {}

/-- R52: the counter goes up by one at the tick, modulo 2^48. -/
theorem test_tick_counts :
    (countTick (put [(Reg.SYS.BOOT_PROVISIONAL, 0)] { base with frm := { base.frm with count := 2 ^ 48 - 1 } })).frm.count = 0 := by
  decide +kernel

/-- R400: a detection whose condition is over at once leaves the sticky status and no live bit. -/
theorem test_raise_pulse :
    let t := after (.faultRaise 9 1 2 3 4 false 5) base
    get (Reg.FLS.LIVE 9) t = 0 ∧ get (Reg.FLS.STICKY 9) t = 1 ∧ get (Reg.FLS.SRC_CFG_COUNT 9) t = 1 := by
  decide +kernel

/-- R407: a second error leaves the latch and sets OVF. -/
theorem test_second_error :
    let t := after (.faultRaise 10 1 0 0 0 false 5) (put [(Reg.FLT.FIRST_ID_VALID, 1), (Reg.FLT.FIRST_ID_ID, 9)] base)
    get Reg.FLT.FIRST_ID_ID t = 9 ∧ get Reg.FLT.OVF_OVF t = 1 := by
  decide +kernel

/-- R180: a window write outside OPEN is completed with LATE_WR and not applied. -/
theorem test_late_write :
    let t := after (.memwr 0 (.window 4096) 9 8 false { residues := lineResidues 9 }) base
    get (Reg.TXC.CTX_STS_LATE_WR 0 0) t = 1 ∧ t.dram.writes = [] ∧ t.hp.writes.length = 1 := by
  decide +kernel

/-- R141: a read takes the value of a queued whole-line write. -/
theorem test_read_forwarded :
    (after (.memrd 0 (.home 4096) 7 .good) queued).hp.reads.map (·.data) = [some (some 5)] := by
  decide +kernel

/-- R182: the first write of an OPEN context stores the line's value before it in the slab. -/
theorem test_undo_line :
    let s := put [(Reg.TXC.CTX_STS_STATE 0 0, 1)]
      { txnOn with dram := { txnOn.dram with mem := [(4096, 7)] } }
    let t := after (.memwr 0 (.window 4096) 9 8 false { residues := lineResidues 9 }) s
    (pairOf 0 0 t).map (fun p => readLine (slabLine p.slab 64 s) t) = some 7 ∧ (lineNow 64 t).1 = 9 := by
  decide +kernel

/-- R275, R278: the comparator's trip is trigger bit 1, and the fence is raised. -/
theorem test_comparator_trip :
    let t := after .vinComparatorTrip supplied
    fenced t = true ∧ get Reg.SAV.LAST_TRIG_TRIGGER t = 2 ∧ get Reg.SAV.STS_STATE t = 2 := by
  decide +kernel

/-- R138: with its row open a queued write goes to DRAM. -/
theorem test_write_lands : readLine 64 (after (.dramCommandIssue 0 0 [0] [0]) (opened 0 chanWr)) = 5 := by
  decide +kernel

/-- R145: the fifth owed refresh is forced. -/
theorem test_forced_refresh :
    let t := after (.refreshIssue 0 false) (put [(Reg.DCH.STS_OWED 0, 5)] chan)
    get (Reg.DCH.STS_OWED 0) t = 4 ∧ get (Reg.DCH.REF_CNT_FORCED 0) t = 1 := by
  decide +kernel

/-- R240: good status of an unchanged granule makes it CLEAN. -/
theorem test_seal_clean : (entryOf 0 (after (.sealComplete 0) (sealing .sealing))).state = .clean := by
  decide +kernel

/-- R440: a record's first word is its type and its length in words. -/
theorem test_gather_header :
    (queue 0 (after (.gatherPush 0 .flt 0x10 [1, 2, 3]) credited)).packing.take 1 = [0x1007] := by
  decide +kernel

/-- R491: the identification code. -/
theorem test_idcode : (after .idcode base).out = [.tap "IDCODE", .regData 0x5B163C2F] := by
  decide +kernel

/-- R71: 99 µΩ lies below the range of SHUNT, and the register keeps its value. -/
theorem test_write_range :
    let t := after (.registerWrite .mgmt 0x8012C false 15 99 0) base
    get (Reg.BLKWERR_RANGE 0x80) t = 1 ∧ get Reg.ENG.SHUNT_MICROOHM t = 1000 := by
  decide +kernel

/-- R77: a write by a port other than the management port is counted and changes nothing. -/
theorem test_foreign_write :
    let t := after (.registerWrite (.port 1) 0x8012C false 15 5000 0) base
    get Reg.SYS.FOREIGN_WR_COUNT t = 1 ∧ get Reg.ENG.SHUNT_MICROOHM t = 1000 := by
  decide +kernel

/-- R357, R359, R362: a member forwards SYNC with the delay of its span and its own added, and a new CRC. -/
theorem test_sync_forwarded :
    let t := after (.sync 7 5 100 false true .a 10 true) ringed
    Out.cell false 0x010000000000000003803F010000F10C ∈ t.out ∧ get Reg.FRM.RING_DELAY_DELAY t = 110 := by
  decide +kernel

/-- R468: ACTIVATE of a slot that holds no staged image is refused. -/
theorem test_activate_unstaged : get Reg.UPD.STS_RESULT (after (.activate .mgmt 1 true) base) = 1 := by
  decide +kernel

end Sys2Proof.Tests
end

section
/-! SUPPORT. A read of one register over the bus sends the low 32 bits of its word (R78), whatever the register file holds;
and what follows for the read of the first-error latch. -/

namespace Sys2Proof.Machine

@[simp] theorem readEffect_out (addr : Nat) (s : State) : (readEffect addr s).out = s.out := by
  unfold readEffect
  (repeat' split) <;> rfl

/-- The bus carries 32 bits of a register: a read at the lower register of an aligned pair sends its word without what
stands above them (R78). -/
theorem readRegister_out {addr : Nat} (ha : addr % 8 = 0) (s : State) :
    (readRegister addr s).out = s.out ++ [Out.regData (readWord addr s % 2 ^ 32)] := by
  have hbase : addr / 8 * 8 = addr := by omega
  simp [readRegister, busRead, ha, hbase]

/-- FIRST_ID_READ sends the low 32 bits of the latch's word. -/
theorem execFirstIdRead_sends (w : Writer) {s : State} (hs : Ready s) :
    ∃ t, exec (.firstIdRead w) s = .next t ∧ [Out.regData (readWord 0x90100 s % 2 ^ 32)] <+: t.out := by
  obtain ⟨hvaon, hreqs⟩ := hs
  have hidle : (readRegister 0x90100 { s with out := [] }).reqs = [] :=
    (readRegister_reqsOf 0x90100 { s with out := [] }).trans hreqs
  obtain ⟨l, hl⟩ := (settle_keeps s _ hidle).out
  refine ⟨_, run_next (readRegister 0x90100) s hvaon, l, ?_⟩
  rw [hl, readRegister_out (by decide)]
  rfl

/-- A claim that FIRST_ID_READ sends the latch's whole word holds only of a state whose word fits the bus. -/
theorem readWord_fits_of_firstIdRead {w : Writer} {s t : State} (hs : Ready s) (ht : exec (.firstIdRead w) s = .next t)
    (hsent : [Out.regData (readWord 0x90100 s)] <+: t.out) : readWord 0x90100 s < 2 ^ 32 := by
  obtain ⟨u, hu, hlow⟩ := execFirstIdRead_sends w hs
  obtain rfl : t = u := by simpa [ht] using hu
  have heq : [Out.regData (readWord 0x90100 s)] = [Out.regData (readWord 0x90100 s % 2 ^ 32)] :=
    (List.prefix_of_prefix_length_le hsent hlow le_rfl).eq_of_length rfl
  have hmod : readWord 0x90100 s = readWord 0x90100 s % 2 ^ 32 := by simpa using heq
  exact hmod ▸ Nat.mod_lt _ (by decide)

/-- A controller with VAON whose register file holds 2^32 under `FLT.FIRST_ID.ID`, a field of 9 bits. -/
def overwideFirstId : State :=
  { pwr := { vaon := true }, regs := [(Reg.FLT.FIRST_ID_ID.key, 2 ^ 32)] }

/-- The read path does not cut a stored value to its field's width. -/
theorem readWord_overwideFirstId : readWord 0x90100 overwideFirstId = 2 ^ 32 := by
  decide

/-- Refutes O51: the clause on FIRST_ID_READ takes the word sent for `readWord` of every ready state, while the bus sends 32
bits of it (R78). The statement does not ask that the stored values fit their fields: in `overwideFirstId` the word is 2^32
and what is sent is 0. -/
theorem not_faultCommands : ¬ Obligations.FaultCommands := by
  unfold Obligations.FaultCommands
  intro h
  have hready : Ready overwideFirstId := ⟨rfl, rfl⟩
  obtain ⟨-, hread, -⟩ := h overwideFirstId hready
  obtain ⟨t, ht, hsent, -⟩ := hread .mgmt
  have hfits := readWord_fits_of_firstIdRead hready ht hsent
  rw [readWord_overwideFirstId] at hfits
  exact absurd hfits (by decide)

end Sys2Proof.Machine
end

section
/-! SUPPORT. A register write that reaches its register or that a fence discards (R77, R79, R83, R86); the activation log:
what a record changes, and what the registers show of it (R469, R471, R481). -/

namespace Sys2Proof.Machine
-- A proof that waits for another keeps its thread's stack: all at once they outgrow the memory of a check.
set_option Elab.async false

/-! ### Registers that a write reaches -/

/-- The state in which the effect of a command begins: nothing is sent yet. -/
abbrev begun (s : State) : State := { s with out := [] }

/-- A command of the form `run` completes with what its effect leaves, settled. -/
theorem Completes.of_run {c : Instr} {f : State → State} {s : State} {P : State → Prop} (hs : Ready s)
    (hc : exec c s = run f s) (h : P (settle s (f (begun s)))) : Completes c s P :=
  ⟨_, hc.trans (run_next f s hs.1), h⟩

/-- A register write that reaches its register does what the register's write does (R77, R79, R86). -/
theorem reach_of_reaches {w : Writer} {addr data : Nat} {s : State} (h : Reaches w addr data s) (k : State → State) :
    reach w addr data k (begun s) = k (begun s) := by
  have hmay : mayWrite w addr data (begun s) = true := h.1
  have hlit : pageDark (addr / 4096) (begun s) = false := h.2
  simp [reach, hmay, hlit]

theorem Completes.of_reach {c : Instr} {w : Writer} {addr data : Nat} {k : State → State} {s : State}
    {P : State → Prop} (hs : Ready s) (hr : Reaches w addr data s) (hc : exec c s = run (reach w addr data k) s)
    (h : P (settle s (k (begun s)))) : Completes c s P :=
  .of_run hs hc (by rwa [reach_of_reaches hr])

/-- A discarded write sets `WERR_BUSY` with its offset and its writer, and nothing else (R83). -/
theorem changes_werrBusy (w : Writer) (addr : Nat) (s : State) :
    Changes [] [Reg.BLKWERR_BUSY (addr / 4096), Reg.BLKWERR_OFFSET (addr / 4096), Reg.BLKWERR_SOURCE (addr / 4096)] s
      (werrBusy w addr s) :=
  (((Changes.refl _ _ s).set _ _ (by simp)).set _ _ (by simp)).set _ _ (by simp)

theorem get_werrBusy_upd (w : Writer) {addr : Nat} (ha : addr / 4096 = 0xB1) (s : State) :
    get (Reg.BLKWERR_BUSY 0xB1) (werrBusy w addr s) = 1 := by
  unfold werrBusy werr
  rw [ha, get_set_other _ _ (by decide), get_set_other _ _ (by decide), get_set_same]
  rfl

/-! ### The activation log (R469, R471) -/

/-- From `s` to `t` the array's words change, `upd` becomes `u`, and nothing else changes. -/
def Stores (u : Upd) (s t : State) : Prop := ∃ c, t = { s with upd := u, car := c }

theorem Stores.upd {u : Upd} {s t : State} (h : Stores u s t) : t.upd = u := by
  obtain ⟨c, rfl⟩ := h
  rfl

theorem Stores.regs {u : Upd} {s t : State} (h : Stores u s t) : t.regs = s.regs := by
  obtain ⟨c, rfl⟩ := h
  rfl

theorem Stores.trans {u v : Upd} {s t w : State} (h : Stores u s t) (k : Stores v t w) : Stores v s w := by
  obtain ⟨c, rfl⟩ := h
  obtain ⟨d, rfl⟩ := k
  exact ⟨d, rfl⟩

theorem stores_putWord (o v : Nat) {u : Upd} {s t : State} (h : Stores u s t) : Stores u s (putWord o v t) := by
  obtain ⟨c, rfl⟩ := h
  exact ⟨_, rfl⟩

theorem stores_words {α : Type} (l : List α) (at_ v : α → Nat) {u : Upd} {s t : State} (h : Stores u s t) :
    Stores u s (forEach l (fun i => putWord (at_ i) (v i)) t) :=
  forEach_keeps (Stores u s) l _ t h fun _ _ _ => stores_putWord _ _

theorem stores_eraseBlock (b : Nat) {u : Upd} {s t : State} (h : Stores u s t) : Stores u s (eraseBlock b t) := by
  obtain ⟨c, rfl⟩ := h
  exact ⟨_, rfl⟩

/-- The log and its SEQ with one record more (R469). -/
def Upd.append (r : ActRecord) (u : Upd) : Upd := { u with log := u.log ++ [r], logSeq := u.logSeq + 1 }

/-- A new word of the boot tally (R471). -/
def Upd.nextTally (u : Upd) : Upd := { u with tally := 0, tallyWord := (u.tallyWord + 1) % 16384 }

/-- A log with fewer than 8 free records begins again in the other block, with a CONFIRM record (R469). -/
def Upd.roomy (u : Upd) : Upd :=
  if 8 ≤ 2048 - u.log.length then u else Upd.append .confirm { u with log := [], logBlock := 1 - u.logBlock }

/-- The log, its block and SEQ, and the boot tally after a record (R469, R471). -/
def Upd.recorded : ActRecord → Upd → Upd
  | .activate c b, u => u.append (.activate c b)
  | r, u => (u.append r).nextTally.roomy

theorem appendRecord_stores (r : ActRecord) (s : State) : Stores (s.upd.append r) s (appendRecord r s) :=
  stores_words _ _ _ ⟨s.car, rfl⟩

theorem newTally_stores (s : State) : Stores s.upd.nextTally s (newTally s) :=
  when_keeps (Stores _ s) _ _ _ ⟨s.car, rfl⟩ (stores_eraseBlock _)

theorem changeLog_stores (s : State) : Stores s.upd.roomy s (changeLog s) := by
  unfold changeLog Upd.roomy logFree
  split
  · exact ⟨s.car, rfl⟩
  · exact (stores_eraseBlock _ ⟨s.car, rfl⟩).trans (appendRecord_stores _ _)

/-- CONFIRM and REVERT end an epoch of the log (R469, R471). -/
abbrev EndsEpoch (r : ActRecord) : Prop := r = .confirm ∨ r = .revert

/-- A record that ends an epoch is followed by a new tally word and, where room is short, a change of the block. -/
theorem endEpoch_stores (r : ActRecord) (s : State) :
    Stores (s.upd.append r).nextTally.roomy s (changeLog (newTally (appendRecord r s))) := by
  have h1 := appendRecord_stores r s
  have h2 := h1.upd ▸ newTally_stores (appendRecord r s)
  have h3 := h2.upd ▸ changeLog_stores (newTally (appendRecord r s))
  exact (h1.trans h2).trans h3

/-- A record changes the log and the boot tally, then the registers show them. -/
theorem writeRecord_shows (r : ActRecord) (s : State) :
    ∃ t, Stores (s.upd.recorded r) s t ∧ writeRecord r s = updShow (when (r == .revert) (event 0xB1 3) t) := by
  cases r with
  | activate c b => exact ⟨_, appendRecord_stores _ s, rfl⟩
  | confirm => exact ⟨_, endEpoch_stores .confirm s, rfl⟩
  | revert => exact ⟨_, endEpoch_stores .revert s, rfl⟩

theorem Upd.roomy_of_room {u : Upd} (h : u.log.length ≤ 2040) : u.roomy = u := if_pos (by omega)

theorem Upd.roomy_of_full {u : Upd} (h : 2040 < u.log.length) :
    u.roomy = Upd.append .confirm { u with log := [], logBlock := 1 - u.logBlock } := if_neg (by omega)

/-- What the log writes leave of the update state. -/
abbrev SameSets (u v : Upd) : Prop := v.bootSlot = u.bootSlot ∧ v.running = u.running ∧ v.images = u.images

theorem Upd.sameSets_recorded (r : ActRecord) (u : Upd) : SameSets u (u.recorded r) := by
  have hroomy : ∀ v : Upd, SameSets v v.roomy := fun v => by
    unfold Upd.roomy
    split <;> exact ⟨rfl, rfl, rfl⟩
  cases r with
  | activate c b => exact ⟨rfl, rfl, rfl⟩
  | confirm => exact hroomy (u.append .confirm).nextTally
  | revert => exact hroomy (u.append .revert).nextTally

/-- A record that ends an epoch takes a new tally word (R471). -/
theorem Upd.tally_recorded {r : ActRecord} (h : EndsEpoch r) (u : Upd) : (u.recorded r).tally = 0 := by
  have hroomy : ∀ v : Upd, v.roomy.tally = v.tally := fun v => by
    unfold Upd.roomy
    split <;> rfl
  rcases h with rfl | rfl
  · exact hroomy (u.append .confirm).nextTally
  · exact hroomy (u.append .revert).nextTally

/-- Activations before a record that ends an epoch are not pending (R471). -/
theorem pendingActs_append_endsEpoch {r : ActRecord} (h : EndsEpoch r) (l : List ActRecord) :
    pendingActs (l ++ [r]) = [] := by
  induction l with
  | nil => rcases h with rfl | rfl <;> rfl
  | cons x l ih =>
    cases x with
    | activate c b => rcases h with rfl | rfl <;> simpa [pendingActs] using ih
    | confirm => exact ih
    | revert => exact ih

/-- An activation recorded last is pending (R471). -/
theorem mem_pendingActs_append_activate (c : Nat) (b : Bool) (l : List ActRecord) :
    (c, b) ∈ pendingActs (l ++ [.activate c b]) := by
  induction l with
  | nil => simp [pendingActs]
  | cons x l ih =>
    cases x with
    | activate d e =>
      simp only [List.cons_append, pendingActs]
      split
      · exact ih
      · exact List.mem_cons_of_mem _ ih
    | confirm => exact ih
    | revert => exact ih

/-- A record that ends an epoch leaves nothing pending. -/
theorem Upd.pendingActs_recorded {r : ActRecord} (h : EndsEpoch r) (u : Upd) : pendingActs (u.recorded r).log = [] := by
  have hroomy : ∀ v : Upd, pendingActs v.log = [] → pendingActs v.roomy.log = [] := fun v hv => by
    unfold Upd.roomy
    split
    · exact hv
    · rfl
  have hlog := pendingActs_append_endsEpoch h u.log
  rcases h with rfl | rfl
  · exact hroomy (u.append .confirm).nextTally hlog
  · exact hroomy (u.append .revert).nextTally hlog

/-- A REVERT record in a log with room stands after what the log holds. -/
theorem Upd.recorded_revert_of_room {u : Upd} (h : u.log.length < 2040) :
    u.recorded .revert = (u.append .revert).nextTally :=
  Upd.roomy_of_room (by simpa [Upd.append, Upd.nextTally] using h)

/-- A REVERT record that leaves fewer than 8 places sends the log to its other block (R469). -/
theorem Upd.recorded_revert_of_full {u : Upd} (h : 2040 ≤ u.log.length) :
    u.recorded .revert =
      Upd.append .confirm { (u.append .revert).nextTally with log := [], logBlock := 1 - u.logBlock } :=
  Upd.roomy_of_full (by simpa [Upd.append, Upd.nextTally] using Nat.lt_succ_of_le h)

/-! ### The registers that show slots and log (R481) -/

/-- The fields of one component. -/
def slotFields (c : Nat) : List Fld :=
  [Reg.UPD.SLOT_A_STATE c, Reg.UPD.SLOT_B_STATE c, Reg.UPD.SLOT_CONFIRMED c, Reg.UPD.SLOT_RUNNING c,
    Reg.UPD.SLOT_PENDING c, Reg.UPD.SLOT_IL c, Reg.UPD.VER_A_VERSION c, Reg.UPD.VER_B_VERSION c]

/-- The fields that `updShow` keeps up to date. -/
def updShown : List Fld :=
  (List.range 4).flatMap slotFields ++ [Reg.UPD.LOG_BLOCK, Reg.UPD.LOG_FREE, Reg.UPD.STS_TALLY]

/-- One component's round of `updShow`. -/
def slotShow (c : Nat) (s : State) : State :=
  let st := fun (i : SlotImage) => if i.rejected then 2 else if i.staged then 1 else 0
  let ver := fun (i : SlotImage) => if i.staged then i.version else 0
  let a := imageOf c false s
  let b := imageOf c true s
  s |> set (Reg.UPD.SLOT_A_STATE c) (st a) |> set (Reg.UPD.SLOT_B_STATE c) (st b)
    |> set (Reg.UPD.SLOT_CONFIRMED c) (bitsOf s.upd.bootSlot c 1)
    |> set (Reg.UPD.SLOT_RUNNING c) (bitsOf s.upd.running c 1)
    |> put1 (Reg.UPD.SLOT_PENDING c) ((pendingOf s).any (·.1 == c))
    |> set (Reg.UPD.SLOT_IL c) (imageOf c (bitOf s.upd.running c) s).il
    |> set (Reg.UPD.VER_A_VERSION c) (ver a) |> set (Reg.UPD.VER_B_VERSION c) (ver b)

theorem updShow_eq (s : State) :
    updShow s = (forEach (List.range 4) slotShow s |> set Reg.UPD.LOG_BLOCK s.upd.logBlock
      |> set Reg.UPD.LOG_FREE (logFree s) |> set Reg.UPD.STS_TALLY s.upd.tally) := rfl

theorem changes_slotShow (c : Nat) (s : State) : Changes [] (slotFields c) s (slotShow c s) :=
  ((((((((Changes.refl _ _ s).set _ _ (by simp [slotFields])).set _ _ (by simp [slotFields])).set _ _
    (by simp [slotFields])).set _ _ (by simp [slotFields])).put1 _ _ (by simp [slotFields])).set _ _
    (by simp [slotFields])).set _ _ (by simp [slotFields])).set _ _ (by simp [slotFields])

theorem changes_updShow (s : State) : Changes [] updShown s (updShow s) := by
  rw [updShow_eq]
  refine (((Changes.each (Changes.refl _ _ s) _ _ ?_).set _ _ (by decide)).set _ _ (by decide)).set _ _ (by decide)
  intro c hc u hu
  refine hu.trans ((changes_slotShow c u).mono (fun _ h => h) fun k hk => ?_)
  obtain ⟨f, hf, rfl⟩ := List.mem_map.1 hk
  exact List.mem_map_of_mem (List.mem_append_left _ (List.mem_flatMap.2 ⟨c, hc, hf⟩))

/-- `SLOT.PENDING` of a component that its round shows. -/
theorem get_slotShow_pending (c : Fin 4) (s : State) :
    get (Reg.UPD.SLOT_PENDING c) (slotShow c s) = b2n ((pendingOf s).any (·.1 == c.val)) := by
  have hkeys : ∀ c : Fin 4, ∀ f ∈ [Reg.UPD.SLOT_IL c, Reg.UPD.VER_A_VERSION c, Reg.UPD.VER_B_VERSION c],
    (Reg.UPD.SLOT_PENDING c).key ≠ f.key := by decide
  unfold slotShow
  dsimp only
  rw [get_set_other _ _ (hkeys c _ (by simp)), get_set_other _ _ (hkeys c _ (by simp)),
    get_set_other _ _ (hkeys c _ (by simp))]
  cases h : (pendingOf s).any (·.1 == c.val) <;> simp [put1, Reg.UPD.SLOT_PENDING, b2n]

/-- Another component's round leaves it. -/
theorem get_slotShow_pending_other {c d : Fin 4} (h : c ≠ d) (s : State) :
    get (Reg.UPD.SLOT_PENDING c) (slotShow d s) = get (Reg.UPD.SLOT_PENDING c) s := by
  have hkeys : ∀ c d : Fin 4, c ≠ d → (Reg.UPD.SLOT_PENDING c).key ∉ (slotFields d).map Fld.key ∧
    (Reg.UPD.SLOT_PENDING c).key ∉ settleKeys := by decide
  exact (changes_slotShow d s).regs _ (hkeys c d h).1 (hkeys c d h).2

/-- Each component shows whether an activation of it is pending (R481). -/
theorem get_forEach_slotShow_pending {c : Fin 4} {l : List (Fin 4)} (hc : c ∈ l) (s : State) :
    get (Reg.UPD.SLOT_PENDING c) (forEach l (fun d => slotShow d.val) s) = b2n ((pendingOf s).any (·.1 == c.val)) := by
  induction l generalizing s with
  | nil => simp at hc
  | cons d l ih =>
    by_cases hl : c ∈ l
    · exact ih hl (slotShow d s)
    · obtain rfl : c = d := (List.mem_cons.1 hc).resolve_right hl
      exact (forEach_keeps (fun t => get (Reg.UPD.SLOT_PENDING c) t = get (Reg.UPD.SLOT_PENDING c) (slotShow c s)) l _ _
        rfl fun e he t ht => (get_slotShow_pending_other (fun h : c = e => hl (h ▸ he)) t).trans ht).trans
        (get_slotShow_pending c s)

theorem get_updShow_pending (c : Fin 4) (s : State) :
    get (Reg.UPD.SLOT_PENDING c) (updShow s) = b2n ((pendingOf s).any (·.1 == c.val)) := by
  have hkeys : ∀ c : Fin 4, ∀ f ∈ [Reg.UPD.LOG_BLOCK, Reg.UPD.LOG_FREE, Reg.UPD.STS_TALLY],
    (Reg.UPD.SLOT_PENDING c).key ≠ f.key := by decide
  rw [updShow_eq, get_set_other _ _ (hkeys c _ (by simp)), get_set_other _ _ (hkeys c _ (by simp)),
    get_set_other _ _ (hkeys c _ (by simp))]
  exact get_forEach_slotShow_pending (l := [0, 1, 2, 3]) (by fin_cases c <;> simp) s

/-! ### A record of the log -/

/-- A record leaves every field that shows no slot and no log, but for the event of a REVERT. -/
theorem get_writeRecord {f : Fld} {r : ActRecord} (s : State) (hf : f.key ∉ updShown.map Fld.key)
    (hset : f.key ∉ settleKeys) (hr : r = .revert → f.key ≠ (Reg.EVT_STS 0xB1 3).key) :
    get f (writeRecord r s) = get f s := by
  obtain ⟨t, ht, hw⟩ := writeRecord_shows r s
  rw [hw, (changes_updShow _).regs f hf hset, ← get_congr f ht.regs]
  cases r with
  | activate c b => rfl
  | confirm => rfl
  | revert => exact get_set_other _ _ (hr rfl)

/-- A REVERT record latches its event (R474). -/
theorem get_writeRecord_revert (s : State) : get (Reg.EVT_STS 0xB1 3) (writeRecord .revert s) = 1 := by
  obtain ⟨t, -, hw⟩ := writeRecord_shows .revert s
  rw [hw, (changes_updShow _).regs _ (by decide) (by decide)]
  exact get_set_same _ _ _

@[simp] theorem writeRecord_upd (r : ActRecord) (s : State) : (writeRecord r s).upd = s.upd.recorded r := by
  obtain ⟨t, ht, hw⟩ := writeRecord_shows r s
  rw [hw, (changes_updShow _).upd (by simp), ← ht.upd]
  cases r <;> rfl

theorem get_writeRecord_pending (c : Fin 4) (b : Bool) (s : State) :
    get (Reg.UPD.SLOT_PENDING c) (writeRecord (.activate c b) s) = 1 := by
  obtain ⟨t, ht, hw⟩ := writeRecord_shows (.activate c b) s
  rw [hw, get_updShow_pending]
  have hmem : (c.val, b) ∈ pendingOf t := by
    unfold pendingOf
    rw [ht.upd]
    exact mem_pendingActs_append_activate c b s.upd.log
  have hany : (pendingOf t).any (·.1 == c.val) = true := List.any_eq_true.2 ⟨_, hmem, by simp⟩
  exact congrArg b2n hany

end Sys2Proof.Machine
end

section
/-! SUPPORT. What a confirmation does, the branches of ACTIVATE, and what the commands of a firmware update complete with
(R468 to R479). -/

namespace Sys2Proof.Machine
set_option Elab.async false

/-! ### The update commands' effects (R468, R472 to R477) -/

/-- The option copy not in use takes BOOT_SLOT and a new SEQ (R472). -/
theorem programOption_stores (bits : Nat) (s : State) :
    Stores { s.upd with optSeq := (s.upd.optSeq + 1) % 2 ^ 16, bootSlot := bits } s (programOption bits s) :=
  stores_putWord _ _ (stores_words _ _ _ ⟨s.car, rfl⟩)

/-- The update state that a confirmation records (R472, R476). -/
def Upd.confirmed (img : SlotImage) (u : Upd) : Upd :=
  Upd.recorded .confirm { u with cfgOldest := img.setFmt, stateOldest := img.stateFmt, held := [], defaulted := false,
                                 optSeq := (u.optSeq + 1) % 2 ^ 16, bootSlot := u.running }

theorem confirmNow_upd (s : State) :
    (confirmNow s).upd = s.upd.confirmed (imageOf 0 (bitOf s.upd.running 0) s) := by
  unfold confirmNow updResult
  dsimp only
  rw [event_upd, set_upd, event_upd, writeRecord_upd, set_upd, (programOption_stores _ _).upd]
  rfl

/-- A confirmation makes the running set BOOT_SLOT, leaves nothing pending and begins the tally anew (R471, R472). -/
theorem Upd.confirmed_confirms (img : SlotImage) (u : Upd) :
    (u.confirmed img).bootSlot = u.running ∧ pendingActs (u.confirmed img).log = [] ∧ (u.confirmed img).tally = 0 ∧
      (u.confirmed img).running = u.running := by
  obtain ⟨hboot, hrun, -⟩ := Upd.sameSets_recorded .confirm { u with
    cfgOldest := img.setFmt, stateOldest := img.stateFmt, held := [], defaulted := false,
    optSeq := (u.optSeq + 1) % 2 ^ 16, bootSlot := u.running }
  exact ⟨hboot, Upd.pendingActs_recorded (.inl rfl) _, Upd.tally_recorded (.inl rfl) _, hrun⟩

theorem confirmNow_reqs (s : State) : (confirmNow s).reqs = s.reqs := confirmNow_reqsOf s

/-- The events of a confirmation, and its RESULT. -/
theorem get_confirmNow (s : State) :
    get Reg.UPD.STS_RESULT (confirmNow s) = 0 ∧ get (Reg.EVT_STS 0xB1 2) (confirmNow s) = 1 ∧
      get (Reg.EVT_STS 0xB2 1) (confirmNow s) = 1 := by
  unfold confirmNow
  dsimp only
  refine ⟨?_, ?_, get_set_same _ _ _⟩
  · rw [event, get_set_other _ _ (by decide), get_set_other _ _ (by decide), event, get_set_other _ _ (by decide),
      get_writeRecord _ (by decide) (by decide) (by simp)]
    exact get_set_same _ _ _
  · rw [event, get_set_other _ _ (by decide), get_set_other _ _ (by decide)]
    exact get_set_same _ _ _

/-! ### ACTIVATE (R468, R479) -/

section
variable {c : Nat} {b : Bool} {s : State}

/-- The image of a GAFFER slot does not cover the state-class formats held in the store (R468, R475). -/
abbrev OldFormat (c : Nat) (b : Bool) (s : State) : Prop :=
  c = 0 ∧ (s.upd.stateOldest < (imageOf c b s).stateOldest ∨ (imageOf c b s).stateFmt < s.upd.stateNewest)

/-- A transfer to the component is under way. -/
abbrev transferTo (c : Nat) (s : State) : Bool := (s.upd.transfer.map (fun t => t.component == c)).getD false

/-- The pending set that an activation makes is compatible (R466). -/
abbrev activationFits (c : Nat) (b : Bool) (s : State) : Bool := compatible (overlaySet (pendingSet s) [(c, b)]) s

theorem activateOp_transfer (h : transferTo c s = true) : activateOp c b s = updResult 4 s := if_pos h

theorem activateOp_notStaged (h : transferTo c s = false)
    (hi : (imageOf c b s).staged = false ∨ (imageOf c b s).rejected = true) : activateOp c b s = updResult 1 s := by
  have hbad : (!(imageOf c b s).staged || (imageOf c b s).rejected) = true := by simpa using hi
  simp only [activateOp, h, hbad, if_true, Bool.false_eq_true, if_false]

variable (h : transferTo c s = false) (hst : (imageOf c b s).staged = true) (hrej : (imageOf c b s).rejected = false)
include h hst hrej

theorem activateOp_incompatible (hgood : activationFits c b s = false) : activateOp c b s = updResult 2 s := by
  simp [activateOp, h, hst, hrej, hgood]

theorem activateOp_full (hgood : activationFits c b s = true) (hfree : logFree s < 8) :
    activateOp c b s = updResult 3 s := by
  simp [activateOp, h, hst, hrej, hgood, hfree]

theorem activateOp_oldFormat (hgood : activationFits c b s = true) (hfree : 8 ≤ logFree s) (hold : OldFormat c b s) :
    activateOp c b s = updResult 5 s := by
  obtain ⟨rfl, hfmt⟩ := hold
  simp [activateOp, h, hst, hrej, hgood, Nat.not_lt.2 hfree, hfmt]

/-- An activation that nothing speaks against writes its record. -/
theorem activateOp_accepted (hgood : activationFits c b s = true) (hfree : 8 ≤ logFree s) (hold : ¬ OldFormat c b s) :
    activateOp c b s = event 0xB1 1 (writeRecord (.activate c b) (updResult 0 s)) := by
  simp [activateOp, h, hst, hrej, hgood, Nat.not_lt.2 hfree, hold]

end

/-! ### What the commands complete with -/

/-- A write of UPD under a fence is discarded (R479). -/
theorem Completes.busy {c : Instr} {w : Writer} {addr data : Nat} {k : State → State} {s : State} (hs : Ready s)
    (hr : Reaches w addr data s) (hc : exec c s = run (reach w addr data k) s) (ha : addr / 4096 = 0xB1)
    (hk : k (begun s) = werrBusy w addr (begun s)) :
    Completes c s fun t => get (Reg.BLKWERR_BUSY 0xB1) t = 1 ∧
      Changes [] [Reg.BLKWERR_BUSY 0xB1, Reg.BLKWERR_OFFSET 0xB1, Reg.BLKWERR_SOURCE 0xB1] s t := by
  have hch := (Changes.refl [] _ s).out [] |>.trans (ha ▸ changes_werrBusy w addr (begun s))
  refine .of_reach hs hr hc ?_
  rw [hk]
  refine ⟨?_, hch.settled hs.2 s⟩
  rw [get_settle s _ (hch.reqs.trans hs.2) (by decide)]
  exact get_werrBusy_upd w ha _

/-- A request that leaves its code in RESULT, and besides changes the fields it names. -/
theorem Completes.result {c : Instr} {w : Writer} {addr data n : Nat} {k : State → State} {fs : List Fld} {s u : State}
    (hs : Ready s) (hr : Reaches w addr data s) (hc : exec c s = run (reach w addr data k) s)
    (hu : Changes [] fs s u) (hk : k (begun s) = updResult n u) (hn : n < 8)
    (hfs : Reg.UPD.STS_RESULT.key ∈ fs.map Fld.key) :
    Completes c s fun t => get Reg.UPD.STS_RESULT t = n ∧ Changes [] fs s t := by
  have hch := hu.set Reg.UPD.STS_RESULT n hfs
  refine .of_reach hs hr hc ?_
  rw [hk, updResult]
  refine ⟨?_, hch.settled hs.2 s⟩
  rw [get_settle s _ (hch.reqs.trans hs.2) (by decide)]
  exact (get_set_same _ _ _).trans (Nat.mod_eq_of_lt hn)

/-- ACTIVATE's fields as its write leaves them. -/
abbrev activateNamed (c : Nat) (b : Bool) (s : State) : State :=
  put1 Reg.UPD.ACTIVATE_SLOT b (set Reg.UPD.ACTIVATE_COMPONENT c (begun s))

abbrev activateFields : List Fld := [Reg.UPD.ACTIVATE_COMPONENT, Reg.UPD.ACTIVATE_SLOT, Reg.UPD.STS_RESULT]

theorem changes_activateNamed (c : Nat) (b : Bool) (s : State) : Changes [] activateFields s (activateNamed c b s) :=
  (((Changes.refl _ _ s).out []).set _ _ (by decide)).put1 _ _ (by decide)

theorem writeActivate_open {s : State} (hf : fenced s = false) (w : Writer) (c : Nat) (b : Bool) :
    writeActivate w c b (begun s) = activateOp c b (activateNamed c b s) :=
  if_neg (ne_true_of_eq_false hf)

/-- A refused ACTIVATE leaves its reason in RESULT (R468). -/
theorem Completes.activate_refused {w : Writer} {c : Fin 4} {b : Bool} {n : Nat} {s : State} (hs : Ready s)
    (hr : Reaches w 0xB1130 (c.val + 4 * b2n b) s) (hf : fenced s = false) (hn : n < 8)
    (h : activateOp c b (activateNamed c b s) = updResult n (activateNamed c b s)) :
    Completes (.activate w c b) s fun t => get Reg.UPD.STS_RESULT t = n ∧ Changes [] activateFields s t :=
  .result hs hr rfl (changes_activateNamed c b s) ((writeActivate_open hf w c b).trans h) hn (by decide)

/-- What an accepted ACTIVATE does beyond its own fields (R468). -/
def recordActivation (c : Nat) (b : Bool) (s : State) : State :=
  s |> updResult 0 |> writeRecord (.activate c b) |> event 0xB1 1

@[simp] theorem recordActivation_upd (c : Nat) (b : Bool) (s : State) :
    (recordActivation c b s).upd = s.upd.append (.activate c b) :=
  (event_upd _ _ _).trans (writeRecord_upd _ _)

theorem recordActivation_reqs (c : Nat) (b : Bool) (s : State) : (recordActivation c b s).reqs = s.reqs :=
  (event_reqs _ _ _).trans (writeRecord_reqsOf (.activate c b) (updResult 0 s))

theorem get_recordActivation (c : Fin 4) (b : Bool) (s : State) :
    get Reg.UPD.STS_RESULT (recordActivation c b s) = 0 ∧ get (Reg.UPD.SLOT_PENDING c) (recordActivation c b s) = 1 ∧
      get (Reg.EVT_STS 0xB1 1) (recordActivation c b s) = 1 := by
  have hpend : ∀ c : Fin 4, (Reg.UPD.SLOT_PENDING c).key ≠ (Reg.EVT_STS 0xB1 1).key := by decide
  refine ⟨?_, ?_, get_set_same _ _ _⟩
  · rw [recordActivation, event, get_set_other _ _ (by decide), get_writeRecord _ (by decide) (by decide) (by simp)]
    exact get_set_same _ _ _
  · rw [recordActivation, event, get_set_other _ _ (hpend c)]
    exact get_writeRecord_pending c b _

/-- An accepted ACTIVATE writes its record and leaves what runs as it is (R468). -/
theorem Completes.activate_accepted {w : Writer} {c : Fin 4} {b : Bool} {s : State} (hs : Ready s)
    (hr : Reaches w 0xB1130 (c.val + 4 * b2n b) s) (hf : fenced s = false)
    (h : activateOp c b (activateNamed c b s) = recordActivation c b (activateNamed c b s)) :
    Completes (.activate w c b) s fun t =>
      get Reg.UPD.STS_RESULT t = 0 ∧ t.upd.log = s.upd.log ++ [.activate c b] ∧
      (c.val, b) ∈ pendingOf t ∧ get (Reg.UPD.SLOT_PENDING c) t = 1 ∧ get (Reg.EVT_STS 0xB1 1) t = 1 ∧
      t.upd.bootSlot = s.upd.bootSlot ∧ t.upd.running = s.upd.running := by
  refine .of_reach hs hr rfl ?_
  rw [writeActivate_open hf, h]
  have keeps := settle_keeps s _ ((recordActivation_reqs c b (activateNamed c b s)).trans hs.2)
  have hupd := keeps.upd.trans (recordActivation_upd c b (activateNamed c b s))
  obtain ⟨hresult, hpending, hevent⟩ := get_recordActivation c b (activateNamed c b s)
  have hkey : ∀ c : Fin 4, (Reg.UPD.SLOT_PENDING c).key ∉ settleKeys := by decide
  refine ⟨(keeps.get _ (by decide)).trans hresult, ?_, ?_, (keeps.get _ (hkey c)).trans hpending,
    (keeps.get _ (by decide)).trans hevent, ?_, ?_⟩
  · rw [hupd]
    rfl
  · unfold pendingOf
    rw [hupd]
    exact mem_pendingActs_append_activate c b s.upd.log
  · rw [hupd]
    rfl
  · rw [hupd]
    rfl

/-! ### `UPD.CTL` (R472, R474, R476, R479) -/

theorem writeUpdCtl_busy {s : State} (hf : fenced s = true) (w : Writer) (bits : Nat) :
    writeUpdCtl w bits (begun s) = werrBusy w 0xB1134 (begun s) := if_pos hf

theorem writeUpdCtl_confirm {s : State} (hf : fenced s = false) (w : Writer) (accept : Bool) :
    writeUpdCtl w (1 + 2 * b2n accept) (begun s) = confirmOp accept (begun s) :=
  (if_neg (ne_true_of_eq_false hf)).trans (by cases accept <;> rfl)

theorem writeUpdCtl_acceptDefaults {s : State} (hf : fenced s = false) (w : Writer) :
    writeUpdCtl w 2 (begun s) = begun s := if_neg (ne_true_of_eq_false hf)

theorem writeUpdCtl_revert {s : State} (hf : fenced s = false) (w : Writer) :
    writeUpdCtl w 4 (begun s) = revertOp (begun s) := if_neg (ne_true_of_eq_false hf)

theorem writeUpdCtl_restart {s : State} (hf : fenced s = false) (w : Writer) :
    writeUpdCtl w 8 (begun s) = request .chipReset (begun s) := if_neg (ne_true_of_eq_false hf)

/-- CONFIRM without a pending set, or with one that does not run, is refused (R472). -/
theorem confirmOp_wrongState {s : State} (h : pendingOf s = [] ∨ pendingSet s ≠ s.upd.running) (accept : Bool) :
    confirmOp accept s = updResult 4 s :=
  if_pos (by simpa using h)

/-- CONFIRM is refused while defaulted settings are not accepted (R476). -/
theorem confirmOp_settings {s : State} (hp : pendingOf s ≠ []) (hset : pendingSet s = s.upd.running)
    (hdef : isSet Reg.UPD.STS_SETTINGS_DEFAULTED s = true) : confirmOp false s = updResult 5 s := by
  simp [confirmOp, hp, hset, hdef]

theorem confirmOp_accepted {accept : Bool} {s : State} (hp : pendingOf s ≠ []) (hset : pendingSet s = s.upd.running)
    (hdef : isSet Reg.UPD.STS_SETTINGS_DEFAULTED s = false ∨ accept = true) :
    confirmOp accept s = set Reg.UPD.STS_SETTINGS_DEFAULTED 0 (confirmNow s) := by
  rcases hdef with hdef | rfl <;> simp [confirmOp, *]

/-- A confirmation that CONFIRM brings (R472). -/
theorem Completes.confirm_accepted {w : Writer} {accept : Bool} {s : State} (hs : Ready s)
    (hr : Reaches w 0xB1134 (1 + 2 * b2n accept) s) (hf : fenced s = false) (hp : pendingOf s ≠ [])
    (hset : pendingSet s = s.upd.running) (hdef : isSet Reg.UPD.STS_SETTINGS_DEFAULTED s = false ∨ accept = true) :
    Completes (.confirm w accept) s fun t =>
      get Reg.UPD.STS_RESULT t = 0 ∧ t.upd.bootSlot = s.upd.running ∧ pendingOf t = [] ∧ t.upd.tally = 0 ∧
      get Reg.UPD.STS_SETTINGS_DEFAULTED t = 0 ∧ get (Reg.EVT_STS 0xB1 2) t = 1 ∧
      get (Reg.EVT_STS 0xB2 1) t = 1 ∧ t.upd.running = s.upd.running := by
  refine .of_reach hs hr rfl ?_
  rw [writeUpdCtl_confirm hf, confirmOp_accepted (s := begun s) hp hset hdef]
  have keeps := settle_keeps s (set Reg.UPD.STS_SETTINGS_DEFAULTED 0 (confirmNow (begun s)))
    ((set_reqs _ _ _).trans ((confirmNow_reqs (begun s)).trans hs.2))
  have hupd := keeps.upd.trans ((set_upd _ _ _).trans (confirmNow_upd (begun s)))
  obtain ⟨hresult, hconfirmed, hretired⟩ := get_confirmNow (begun s)
  obtain ⟨hboot, hpending, htally, hrunning⟩ := Upd.confirmed_confirms (imageOf 0 (bitOf s.upd.running 0) s) s.upd
  unfold pendingOf
  rw [hupd]
  refine ⟨?_, hboot, hpending, htally, (keeps.get _ (by decide)).trans (get_set_same _ _ _), ?_, ?_, hrunning⟩
  · exact ((keeps.get _ (by decide)).trans (get_set_other _ _ (by decide))).trans hresult
  · exact ((keeps.get _ (by decide)).trans (get_set_other _ _ (by decide))).trans hconfirmed
  · exact ((keeps.get _ (by decide)).trans (get_set_other _ _ (by decide))).trans hretired

theorem revertOp_none {s : State} (h : pendingOf s = []) : revertOp s = updResult 4 s := if_pos (by simp [h])

theorem revertOp_pending {s : State} (h : pendingOf s ≠ []) : revertOp s = writeRecord .revert (updResult 0 s) :=
  if_neg (by simpa using h)

/-- A REVERT writes its record: nothing is pending, and the confirmed set runs from the next boot (R474). -/
theorem Completes.revert_accepted {w : Writer} {s : State} (hs : Ready s) (hr : Reaches w 0xB1134 4 s)
    (hf : fenced s = false) (hp : pendingOf s ≠ []) :
    Completes (.revert w) s fun t =>
      get Reg.UPD.STS_RESULT t = 0 ∧ pendingOf t = [] ∧ pendingSet t = s.upd.bootSlot ∧
      t.upd.bootSlot = s.upd.bootSlot ∧ t.upd.images = s.upd.images ∧
      (s.upd.log.length < 2040 → t.upd.log = s.upd.log ++ [.revert] ∧ t.upd.logSeq = s.upd.logSeq + 1) ∧
      (2040 ≤ s.upd.log.length → t.upd.log = [.confirm] ∧ t.upd.logBlock = 1 - s.upd.logBlock ∧
        t.upd.logSeq = s.upd.logSeq + 2) ∧
      t.upd.running = s.upd.running ∧ t.upd.tally = 0 ∧ get (Reg.EVT_STS 0xB1 3) t = 1 := by
  refine .of_reach hs hr rfl ?_
  rw [writeUpdCtl_revert hf, revertOp_pending (s := begun s) hp]
  have keeps := settle_keeps s (writeRecord .revert (updResult 0 (begun s)))
    ((writeRecord_reqsOf .revert (updResult 0 (begun s))).trans hs.2)
  have hupd := keeps.upd.trans (writeRecord_upd .revert (updResult 0 (begun s)))
  obtain ⟨hboot, hrunning, himages⟩ := Upd.sameSets_recorded .revert s.upd
  have hpending := Upd.pendingActs_recorded (.inr rfl) s.upd
  unfold pendingSet pendingOf
  rw [hupd]
  refine ⟨?_, hpending, ?_, hboot, himages, fun h => ?_, fun h => ?_, hrunning, Upd.tally_recorded (.inr rfl) s.upd,
    (keeps.get _ (by decide)).trans (get_writeRecord_revert _)⟩
  · rw [keeps.get _ (by decide), get_writeRecord _ (by decide) (by decide) (by decide)]
    exact get_set_same _ _ _
  · exact (congrArg₂ overlaySet hboot hpending)
  · exact Upd.recorded_revert_of_room h ▸ ⟨rfl, rfl⟩
  · exact Upd.recorded_revert_of_full h ▸ ⟨rfl, rfl, rfl⟩

/-! ### What the controller does by itself (R473, R477) -/

theorem Completes.autoConfirm {s : State} (hs : Ready s) (h : autoConfirms s = true) :
    Completes .autoConfirm s fun t =>
      t.upd.bootSlot = s.upd.running ∧ pendingOf t = [] ∧ t.upd.tally = 0 ∧ get (Reg.EVT_STS 0xB1 2) t = 1 := by
  refine .of_run (f := fun s => if autoConfirms s then confirmNow s else s) hs rfl ?_
  rw [if_pos (show autoConfirms (begun s) = true from h)]
  have keeps := settle_keeps s (confirmNow (begun s)) ((confirmNow_reqs (begun s)).trans hs.2)
  have hupd := keeps.upd.trans (confirmNow_upd (begun s))
  obtain ⟨hboot, hpending, htally, -⟩ := Upd.confirmed_confirms (imageOf 0 (bitOf s.upd.running 0) s) s.upd
  obtain ⟨-, hconfirmed, -⟩ := get_confirmNow (begun s)
  unfold pendingOf
  rw [hupd]
  exact ⟨hboot, hpending, htally, (keeps.get _ (by decide)).trans hconfirmed⟩

/-- The fields that the end of a compaction shows (R477, R482). -/
abbrev compactionFields : List Fld :=
  [Reg.SET.AREA_IN_USE, Reg.SET.AREA_FREE_KIB, Reg.SET.AREA_SEQ, Reg.SET.FMT_CURRENT, Reg.SET.FMT_OLDEST,
    Reg.EVT_STS 0xB2 0]

theorem changes_setShow (s : State) : Changes [.upd] compactionFields s (setShow s) :=
  (((((Changes.refl _ _ s).set _ _ (by decide)).set _ _ (by decide)).set _ _ (by decide)).set _ _ (by decide)).set _ _
    (by decide)

/-- The settings store after a compaction (R477). -/
def Upd.compacted (records : Nat) (u : Upd) : Upd :=
  { u with compacting := false, appended := records, area := 1 - u.area, areaSeq := u.areaSeq + 1 }

theorem compacted_of {s : State} (hc : s.upd.compacting = true) (hf : fenced s = false) :
    compacted s = event 0xB2 0 (setShow { s with upd := s.upd.compacted (recordsHeld s) }) :=
  if_neg (by simp [hc, hf])

theorem changes_compacted {s : State} (hc : s.upd.compacting = true) (hf : fenced s = false) :
    Changes [.upd] compactionFields s (compacted s) := by
  rw [compacted_of hc hf]
  exact (((Changes.refl _ _ s).in_upd _ (by simp)).trans (changes_setShow _)).event 0xB2 0 (by decide)

theorem compacted_upd {s : State} (hc : s.upd.compacting = true) (hf : fenced s = false) :
    (compacted s).upd = s.upd.compacted (recordsHeld s) := by
  rw [compacted_of hc hf]
  rfl

theorem Completes.settingsCompaction {s : State} (hs : Ready s) (hc : s.upd.compacting = true) (hf : fenced s = false) :
    Completes .settingsCompaction s fun t =>
      t.upd.compacting = false ∧ t.upd.settings = s.upd.settings ∧ t.upd.area = 1 - s.upd.area ∧
      t.upd.areaSeq = s.upd.areaSeq + 1 ∧ get (Reg.EVT_STS 0xB2 0) t = 1 ∧ Changes [.upd] compactionFields s t := by
  refine .of_run (f := compacted) hs rfl ?_
  have hch := ((Changes.refl [.upd] compactionFields s).out []).trans (changes_compacted (s := begun s) hc hf)
  have keeps := settle_keeps s (compacted (begun s)) (hch.reqs.trans hs.2)
  rw [keeps.upd, compacted_upd (s := begun s) hc hf, keeps.get _ (by decide), compacted_of (s := begun s) hc hf]
  exact ⟨rfl, rfl, rfl, rfl, get_set_same _ _ _, compacted_of (s := begun s) hc hf ▸ hch.settled hs.2 s⟩

end Sys2Proof.Machine
end

section
/-! SUPPORT. A fence as SAV shows it, and the operations of a fence cycle, all of which leave it and ask for no seal (R277,
R278, R402 to R407). -/

namespace Sys2Proof.Machine
set_option Elab.async false

/-! ### What a chip reset's fence stands on -/

/-- The keys of `SAV.LAST_TRIG.TRIGGER`, `SAV.STS.STATE` and `SYS.PERSIST.FENCED`. -/
def fenceKeys : List Nat := [Reg.SAV.LAST_TRIG_TRIGGER.key, Reg.SAV.STS_STATE.key, Reg.SYS.PERSIST_FENCED.key]

/-- The fence as SAV shows it, and whether a chip reset alone brought it. -/
structure FenceView where
  trigger : Nat
  state : Nat
  fenced : Nat
  reset : Bool

def fenceView (s : State) : FenceView :=
  ⟨get Reg.SAV.LAST_TRIG_TRIGGER s, get Reg.SAV.STS_STATE s, get Reg.SYS.PERSIST_FENCED s, s.sav.resetFence⟩

/-- The reactions that a fenced device may be asked for while it drains: all but a seal, and of the resets of a block
that of page 0x10 alone. -/
def drainReqs : List Req := [.blockReset 0x10, .chipReset, .abortContexts]

/-- From `s` to `t` the fence stays as it is, and no reaction but one of `drainReqs` is asked for. -/
def Spares (s t : State) : Prop :=
  fenceView t = fenceView s ∧ ∀ r ∈ t.reqs, r ∈ s.reqs ∨ r ∈ drainReqs

theorem header_apart {p o lo w r : Nat} (ho : o < 0x100 := by decide) (hlo : lo < 32 := by decide) :
    (⟨4096 * p + o, lo, w, r⟩ : Fld).key ∉ fenceKeys := by
  simp [fenceKeys, Fld.key, Reg.SAV.LAST_TRIG_TRIGGER, Reg.SAV.STS_STATE, Reg.SYS.PERSIST_FENCED]
  omega

theorem page_apart {b n lo w r : Nat} (hb : b % 4096 ≠ 0x110 ∧ b % 4096 ≠ 0x11C ∧ b % 4096 ≠ 0x140 := by decide)
    (hlo : lo < 32 := by decide) : (⟨b + 4096 * n, lo, w, r⟩ : Fld).key ∉ fenceKeys := by
  simp [fenceKeys, Fld.key, Reg.SAV.LAST_TRIG_TRIGGER, Reg.SAV.STS_STATE, Reg.SYS.PERSIST_FENCED]
  omega

theorem context_apart {b n i lo w r : Nat} (hb : 0x43000 ≤ b := by decide) :
    (⟨b + 4096 * n + 4 * i, lo, w, r⟩ : Fld).key ∉ fenceKeys := by
  simp [fenceKeys, Fld.key, Reg.SAV.LAST_TRIG_TRIGGER, Reg.SAV.STS_STATE, Reg.SYS.PERSIST_FENCED]
  omega

namespace Spares

variable {s t u : State}

theorem refl (s : State) : Spares s s := ⟨rfl, fun _ => Or.inl⟩

theorem trans (h : Spares s t) (k : Spares t u) : Spares s u :=
  ⟨k.1.trans h.1, fun r hr => (k.2 r hr).elim (h.2 r) Or.inr⟩

theorem set (h : Spares s t) (f : Fld) (v : Nat) (hf : f.key ∉ fenceKeys := by decide) :
    Spares s (Machine.set f v t) := by
  simp only [fenceKeys, List.mem_cons, List.not_mem_nil, or_false, not_or] at hf
  obtain ⟨htrigger, hstate, hfenced⟩ := hf
  refine h.trans ⟨?_, fun _ => Or.inl⟩
  simp only [fenceView, get_set_other v t (Ne.symm htrigger), get_set_other v t (Ne.symm hstate),
    get_set_other v t (Ne.symm hfenced), set_sav]

/-- A frame that names neither SAV nor the fields of the fence. -/
theorem of_changes {ps : List Part} {fs : List Fld} (h : Spares s t) (k : Changes ps fs t u) (hp : .sav ∉ ps)
    (hf : ∀ f ∈ fenceKeys, f ∉ fs.map Fld.key) : Spares s u := by
  have hget : ∀ f : Fld, f.key ∈ fenceKeys → f.key ∉ settleKeys → get f u = get f t := fun f hk => k.regs f (hf _ hk)
  refine h.trans ⟨?_, fun r hr => Or.inl (k.reqs ▸ hr)⟩
  simp only [fenceView, hget Reg.SAV.LAST_TRIG_TRIGGER (by decide) (by decide),
    hget Reg.SAV.STS_STATE (by decide) (by decide), hget Reg.SYS.PERSIST_FENCED (by decide) (by decide), k.sav hp]

theorem cond (h : Spares s t) (c : Bool) (f : State → State) (hf : ∀ u, Spares s u → Spares s (f u)) :
    Spares s (when c f t) := when_keeps (Spares s) c f t h (hf t)

theorem each {α : Type} (h : Spares s t) (l : List α) (f : α → State → State)
    (hf : ∀ a u, Spares s u → Spares s (f a u)) : Spares s (forEach l f t) :=
  forEach_keeps (Spares s) l f t h fun a _ => hf a

theorem branch (c : Prop) [Decidable c] (h : Spares s t) (k : Spares s u) : Spares s (if c then t else u) := by
  split
  · exact h
  · exact k

/-- A reaction of `drainReqs` is asked for. -/
theorem request (h : Spares s t) {r : Req} (hr : r ∈ drainReqs) : Spares s (Machine.request r t) :=
  h.trans ⟨rfl, fun _ hm => (List.mem_append.1 hm).imp id fun hm => by rwa [List.mem_singleton.1 hm]⟩

/-! ### SAV, the gauge and the contexts -/

theorem closeKey (h : Spares s t) : Spares s (Machine.closeKey t) := set (t := { t with flt := _ }) h _ _

theorem thawAll (h : Spares s t) : Spares s (Machine.thawAll t) :=
  h.each _ _ fun _ _ hu => (hu.set _ _ header_apart).set _ _ header_apart

theorem chargeShow (h : Spares s t) : Spares s (Machine.chargeShow t) := h.set _ _

theorem endCapTest (h : Spares s t) : Spares s (Machine.endCapTest t) := set (t := { t with eng := _, pwr := _ }) h _ _

theorem endExercise (h : Spares s t) (result : Nat) : Spares s (Machine.endExercise result t) :=
  branch _ h (chargeShow ((((set (t := { t with eng := _, pwr := _ }) h _ _).set _ _).set _ _).set _ _))

theorem txnShow (h : Spares s t) : Spares s (Machine.txnShow t) := (((h.set _ _).set _ _).set _ _).set _ _

theorem setCtxState (h : Spares s t) (g st : Nat) : Spares s (Machine.setCtxState g st t) :=
  txnShow ((h.set _ _ context_apart).set _ _ context_apart)

theorem replayShow (h : Spares s t) : Spares s (Machine.replayShow t) := ((h.set _ _).set _ _).set _ _

theorem startAbort (h : Spares s t) (g : Nat) : Spares s (Machine.startAbort g t) :=
  replayShow (setCtxState (t := { t with txn := _ }) h g 5)

theorem abortSafe (h : Spares s t) : Spares s (Machine.abortSafe t) := h.each _ _ fun g _ hu => hu.startAbort g

theorem discardPending (h : Spares s t) : Spares s (Machine.discardPending t) :=
  h.each _ _ fun g u hu => (setCtxState (t := { u with txn := _ }) hu g 1).set _ _ context_apart

/-! ### The entries, the seals and the moves -/

theorem follow (h : Spares s t) (f : Fld) (before after : Bool) (hf : f.key ∉ fenceKeys := by decide) :
    Spares s (Machine.follow f before after t) :=
  branch _ h (branch _ (h.set f _ hf) (h.set f _ hf))

theorem groupFollow (h : Spares s t) (k : Nat) : Spares s (Machine.groupFollow k t) :=
  set (t := { t with mrv := _ }) h Reg.MRV.GROUPS_SET _

theorem placeEntry (h : Spares s t) (g : Nat) (e : Entry) : Spares s (Machine.placeEntry g e t) := by
  have hput : Spares s { t with mrv := { t.mrv with entries := put {} t.mrv.entries g e } } := h
  exact (((hput.follow _ _ _).follow _ _ _).follow _ _ _).groupFollow _

theorem putEntry (h : Spares s t) (g : Nat) (e : Entry) : Spares s (Machine.putEntry g e t) := by
  have hcount := (h.placeEntry g e).follow Reg.MRV.DIRTY_COUNT ((entryOf g t).state != .clean) (e.state != .clean)
  exact branch _ hcount hcount

theorem dropOp (h : Spares s t) (ch die : Nat) (kind : DieOpKind) (what : Nat) :
    Spares s (Machine.dropOp ch die kind what t) := by
  have hend : ∀ u, Spares s u → Spares s (endOp ch die kind what u) := by
    intro u hu
    unfold endOp
    (repeat' split) <;> exact hu
  exact hend _ (h.cond _ _ fun _ hu => hu)

theorem abandonSeal (h : Spares s t) (g : Nat) : Spares s (Machine.abandonSeal g t) := by
  unfold Machine.abandonSeal
  split
  · exact h
  · exact putEntry (dropOp (t := unqueue _ _ (dropSealing g t)) h _ _ _ _) _ _

theorem abandonAll (h : Spares s t) : Spares s (Machine.abandonAll t) :=
  have hall : Spares s (forEach _ Machine.abandonSeal t) := h.each _ _ fun g _ hu => hu.abandonSeal g
  hall

theorem dropMoves (h : Spares s t) : Spares s (Machine.dropMoves t) := by
  have hclear : Spares s { t with nand := { t.nand with moving := [] } } := h
  refine hclear.each _ _ fun r u hu => ?_
  have hdrop := dropOp (t := unqueue r.loc.ch (granPages u) u) hu r.loc.ch r.loc.die .program r.granule
  dsimp only
  split
  · exact hdrop.dropOp _ _ _ _
  · exact hdrop

/-! ### The writes that a fence drains (R278, R279) -/

theorem homeGenWrite (h : Spares s t) (g : Nat) : Spares s (Machine.homeGenWrite g t) :=
  branch _ (set (t := { t with twn := _ }) h Reg.TWN.HOME_GEN_VALUE _) h

theorem setTwinDirty (h : Spares s t) (g : Nat) : Spares s (Machine.setTwinDirty g t) := branch _ (h.putEntry _ _) h

theorem countDirtied (h : Spares s t) (g : Nat) (port : Option Nat) : Spares s (Machine.countDirtied g port t) := by
  cases port <;> exact h

theorem markWrite (h : Spares s t) (g : Nat) (port : Option Nat) : Spares s (Machine.markWrite g port t) := by
  unfold Machine.markWrite
  refine branch _ h ?_
  dsimp only
  split
  · exact (h.putEntry _ _).countDirtied _ _
  · exact h.putEntry _ _
  · exact h.putEntry _ _

end Spares

theorem sealPathOk_of_live181 {s : State} (h : get (Reg.FLS.LIVE 181) s = 1) : sealPathOk s = false := by
  have hlive : isSet (Reg.FLS.LIVE 181) s = true := by simp [isSet, h]
  simp [sealPathOk, sealPathSources, hlive]

/-- The first half of a raise: the source's own fields, the first-error latch and the record of the fault. -/
def markRaise (x : Raise) (sev : Nat) (s : State) : State :=
  s |> set (Reg.FLS.STICKY x.n) 1 |> inc (Reg.FLS.SRC_CFG_COUNT x.n)
    |> when (3 ≤ sev) (set Reg.SYS.PERSIST_FAULT 1)
    |> latchFirst x sev
    |> when (2 ≤ sev) (faultRecord x.n sev x.injected (snap0Of x) x.snap2 x.snap3)

/-- The fields of the first half of a raise of source 181, beside those of its GQ0 record. -/
def markFields : List Fld := raiseFields 0 ++ [Reg.FLS.STICKY 181, Reg.FLS.SRC_CFG_COUNT 181]

theorem changes_markRaise (x : Raise) (hx : x.n = 181) (sev : Nat) (s : State) :
    Changes [.flt, .gq] markFields s (markRaise x sev s) := by
  have hfield : ∀ f ∈ raiseFields 0, f.key ∈ markFields.map Fld.key := fun f hf =>
    List.mem_map_of_mem (List.mem_append_left _ hf)
  unfold markRaise
  rw [hx]
  refine Changes.cond (Changes.latchFirst (n := 0) (Changes.cond (((Changes.refl _ _ _).set _ _ (by decide)).inc _
    (by decide)) _ _ fun _ hu => hu.set _ _ (by decide)) (by decide) hfield x sev) _ _ fun _ hu => ?_
  exact Changes.pushRecord0 (n := 0) hu (by decide) hfield _

theorem sealPathOk_markRaise (x : Raise) (hx : x.n = 181) (sev : Nat) (s : State) :
    sealPathOk (markRaise x sev (set (Reg.FLS.LIVE 181) 1 s)) = false := by
  refine sealPathOk_of_live181 ?_
  rw [(changes_markRaise x hx sev _).regs (Reg.FLS.LIVE 181) (by decide) (by decide), get_set_same]
  rfl

namespace Spares

variable {s t u : State}

theorem emit (h : Spares s t) (o : Out) : Spares s (Machine.emit o t) := h

theorem writeLine (h : Spares s t) (line : Nat) (be : BitVec 64) (d : Line) :
    Spares s (Machine.writeLine line be d t) :=
  h.each _ _ fun _ _ hu => hu.cond _ _ fun _ hv => hv

theorem clearPoisonAt (h : Spares s t) (line : Nat) : Spares s (Machine.clearPoisonAt line t) := branch _ h h

theorem holdPair (h : Spares s t) (c g : Nat) : Spares s (Machine.holdPair c g t) := by
  have hpairs : ∀ l, Spares s (setPairs l t) := fun _ => h
  exact branch _ h (txnShow (((hpairs _).putEntry _ _).cond _ _ fun _ hu => hu.set _ _ context_apart))

theorem logLine (h : Spares s t) (c line : Nat) : Spares s (Machine.logLine c line t) := by
  have hheld := h.holdPair c (granuleOf line t)
  unfold Machine.logLine
  dsimp only
  split
  · exact hheld
  · refine cond ?_ _ _ fun u hu => hu.set _ _ context_apart
    exact (hheld.writeLine _ _ _).clearPoisonAt _

theorem depthShow (h : Spares s t) (ch : Nat) : Spares s (Machine.depthShow ch t) :=
  (((h.set _ _ page_apart).set _ _ page_apart).set _ _
    page_apart).set _ _ page_apart

theorem queueWrite (h : Spares s t) (line : Nat) (be : BitVec 64) (data : Line) (poison : Bool) :
    Spares s (Machine.queueWrite line be data poison t) := by
  have hwrites : ∀ l, Spares s (setWrites l t) := fun _ => h
  exact branch _ (hwrites _) (((hwrites _).depthShow _).cond _ _ fun _ hu => hu.set _ _ header_apart)

/-- A record of GQ0 changes the queue and its fields. -/
theorem pushRecord (h : Spares s t) (r : List (BitVec 16)) : Spares s (Machine.pushRecord 0 r t) :=
  h.of_changes (ps := [.gq]) (fs := raiseFields 0)
    (Changes.pushRecord0 (n := 0) (Changes.refl _ _ _) (by decide) (fun _ => List.mem_map_of_mem) r) (by decide)
    (by decide)

theorem markLost (h : Spares s t) (g cause : Nat) : Spares s (Machine.markLost g cause t) :=
  branch _ h ((h.putEntry _ _).pushRecord _)

theorem setInflight (h : Spares s t) (l : List (Nat × Flight)) : Spares s (Machine.setInflight l t) := by
  have hslots : Spares s { t with rsr := { t.rsr with inflight := l } } := h
  exact (hslots.set _ _).set _ _

theorem slotWrite (h : Spares s t) (g line : Nat) : Spares s (Machine.slotWrite g line t) := by
  unfold Machine.slotWrite
  split
  · exact h
  · exact h.setInflight _

/-! ### The raise of source 181 (R402 to R407): a stalled write that was bad -/

theorem pinPulse (h : Spares s t) : Spares s (Machine.pinPulse t) := by
  have hpulse : Spares s { t with pwr := { t.pwr with pulseLeft := 6 } } := h
  exact ((((hpulse.set _ _).set _ _).set _ _).set _ _).set _ _

theorem portReadHold (h : Spares s t) (n : Nat) : Spares s (Machine.portReadHold n t) :=
  branch _ h ((h.set _ _ page_apart).cond _ _ fun _ hu =>
    (hu.set _ _ page_apart).emit _)

/-- With the seal path failed the safe state asks for the contexts' abort and not for the seal (R414). -/
theorem enterSafe (h : Spares s t) (cause source : Nat) (hpath : sealPathOk t = false) :
    Spares s (Machine.enterSafe cause source t) := by
  unfold Machine.enterSafe
  refine branch _ h ?_
  rw [hpath]
  refine request (cond (each ?_ _ _ fun n _ hu => hu.portReadHold n) _ _ fun _ hu => hu.pinPulse) (by decide)
  exact ((((((h.set _ _).set _ _).set _ _).set _ _).set _ _).set _ _).set _ _

theorem latchFirst (h : Spares s t) (x : Raise) (sev : Nat) : Spares s (Machine.latchFirst x sev t) :=
  h.of_changes (ps := [.flt]) (fs := raiseFields 0)
    (Changes.latchFirst (n := 0) (Changes.refl _ _ _) (by decide) (fun _ => List.mem_map_of_mem) x sev) (by decide)
    (by decide)

theorem react (h : Spares s t) (act snap2 : Nat) : Spares s (Machine.react 181 act snap2 t) := by
  unfold Machine.react
  refine cond (cond (cond (cond (cond (cond h _ _ ?_) _ _ ?_) _ _ ?_) _ _ ?_) _ _ ?_) _ _ ?_
  · exact fun _ hu => hu.set _ _
  · exact fun _ hu => hu.emit _
  · exact fun _ hu => hu.emit _
  · exact fun _ hu => hu.pinPulse
  · exact fun _ hu => hu.request (by decide)
  · exact fun _ hu => hu.request (by decide)

theorem liveFall (h : Spares s t) : Spares s (Machine.liveFall 181 t) :=
  branch _ h ((h.set _ _).cond _ _ fun _ hu => (hu.set _ _).set _ _)

/-- A raise of source 181 fails the seal path, so that it asks for no seal even at severity S4. -/
theorem raise (h : Spares s t) (reason inst snap2 snap3 : Nat) :
    Spares s (raiseSimple 181 reason inst snap2 snap3 t) := by
  have hmarked : Spares s (markRaise ⟨181, reason, inst, snap2, snap3, false, false⟩ (raiseSev 181 t)
      (Machine.set (Reg.FLS.LIVE 181) 1 t)) :=
    (h.set _ _).of_changes (changes_markRaise _ rfl _ _) (by decide) (by decide)
  refine branch _ h (cond (cond (when_keeps (Spares s) _ _ _ hmarked ?_) _ _ ?_) _ _ ?_)
  · exact fun hu => hu.enterSafe 1 181 (sealPathOk_markRaise _ rfl _ _)
  · exact fun _ hu => branch _ hu (hu.react _ _)
  · exact fun _ hu => hu.liveFall

/-! ### The operations of the fence cycle (R278) -/

theorem drainStalled (h : Spares s t) (q : Stalled) : Spares s (Machine.drainStalled q t) := by
  refine cond (cond (queueWrite (cond (homeGenWrite (markWrite (cond h _ _ ?_) _ _) _) _ _ ?_) _ _ _ _) _ _ ?_) _ _ ?_
  · exact fun _ hu => hu.logLine _ _
  · exact fun _ hu => hu.setTwinDirty _
  · exact fun _ hu => (hu.markLost _ _).raise _ _ _ _
  · exact fun _ hu => hu.slotWrite _ _

theorem sendPoison (h : Spares s t) (port tag : Nat) (under : Option Line) :
    Spares s (Machine.sendPoison port tag under t) :=
  (h.emit _).set _ _ page_apart

theorem portsFence (h : Spares s t) : Spares s (Machine.portsFence t) := by
  refine each (each (each (each ?_ _ _ ?_) _ _ ?_) _ _ ?_) _ _ ?_
  · exact h
  · exact fun q _ hu => hu.drainStalled q
  · exact fun _ _ hu => hu.sendPoison _ _ _
  · exact fun _ _ hu => hu.emit _
  · exact fun _ _ hu => hu.cond _ _ fun _ hv => hv.set _ _ page_apart

theorem endTransfer (h : Spares s t) : Spares s (Machine.endTransfer t) := by
  have hdrop : Spares s { t with upd := { t.upd with transfer := none } } := h
  exact branch _ h ((hdrop.set Reg.UPD.DL_ACTIVE 0).emit _)

theorem mediaAll (h : Spares s t) : Spares s (Machine.mediaAll t) :=
  h.each _ _ fun _ _ hu => hu.cond _ _ fun _ hv => hv.set _ _ page_apart

theorem countDirtyShutdown (h : Spares s t) : Spares s (Machine.countDirtyShutdown t) := branch _ h h

/-- A change of parts of the state that the fence does not stand on. -/
theorem apart (h : Spares s t) (hregs : u.regs = t.regs) (hsav : u.sav = t.sav) (hreqs : u.reqs = t.reqs) :
    Spares s u :=
  h.trans ⟨by simp only [fenceView, get, hregs, hsav], fun _ hr => Or.inl (hreqs ▸ hr)⟩

theorem sendBoth (h : Spares s t) (c : Cell) : Spares s (Machine.sendBoth c t) := (h.emit _).emit _

theorem logDecision (h : Spares s t) (e : LogEntry) : Spares s (Machine.logDecision e t) := by
  have hlog : ∀ l, Spares s { t with rng := { t.rng with log := l } } := fun _ => h
  exact branch _ h (cond (((hlog _).set _ _).set _ _) _ _ fun _ hu => (hu.set _ _).set _ _)

theorem domainFence (h : Spares s t) : Spares s (Machine.domainFence t) := by
  unfold Machine.domainFence
  refine branch _ h ?_
  refine set (set ?_ _ _) _ _
  refine apart (t := forEach _ _ _) (each (h.sendBoth _) _ _ fun b u hu => ?_) rfl rfl rfl
  have hrecord : ∀ e n, Spares s (recordFor b.ctx false n (Machine.logDecision e u)) := fun e _ => hu.logDecision e
  exact ((hrecord _ _).sendBoth _).set _ _

theorem stopMirroring (h : Spares s t) : Spares s (Machine.stopMirroring t) := by
  refine apart (each (each ?_ _ _ ?_) _ _ ?_) rfl rfl rfl
  · exact h.apart rfl rfl rfl
  · exact fun _ _ hu => hu.setTwinDirty _
  · exact fun _ _ hu => hu.setTwinDirty _

end Spares
end Sys2Proof.Machine
end

section
/-! A chip reset: its fence cycle, the reactions in its drain, and the RESTART that asks for it (R277, R404, R476). Then
activation, confirmation, REVERT, restart and compaction as stated (R468 to R479). -/

namespace Sys2Proof.Machine
set_option Elab.async false

/-! ### The fence of a chip reset -/

/-- A chip reset alone has fenced the device, and the save drains (R277, R278). -/
def resetDrain : FenceView := ⟨16, 2, 1, true⟩

/-- The device drains after a chip reset, and only reactions of `drainReqs` wait. -/
def ResetDrain (s : State) : Prop := fenceView s = resetDrain ∧ ∀ r ∈ s.reqs, r ∈ drainReqs

theorem fence_of_view {s : State} (h : fenceView s = resetDrain) :
    fenced s = true ∧ get Reg.SAV.LAST_TRIG_TRIGGER s = 16 ∧ s.sav.resetFence = true := by
  have hfenced : get Reg.SYS.PERSIST_FENCED s = 1 := congrArg FenceView.fenced h
  exact ⟨by simp [fenced, isSet, hfenced], congrArg FenceView.trigger h, congrArg FenceView.reset h⟩

theorem ResetDrain.spares {s t : State} (h : ResetDrain s) (k : Spares s t) : ResetDrain t :=
  ⟨k.1.trans h.1, fun r hr => (k.2 r hr).elim (h.2 r) id⟩

/-- A state with the trigger of a chip reset alone (R277). -/
def resetTriggered (s : State) : State :=
  set Reg.SAV.LAST_TRIG_TRIGGER 16 s |> setSavs (fun v => { v with resetFence := true })

theorem fenceView_set_trigger (v : Nat) (s : State) :
    fenceView (set Reg.SAV.LAST_TRIG_TRIGGER v s) = { fenceView s with trigger := v % 256 } := by
  simp only [fenceView, get_set_same, set_sav,
    get_set_other v s (show Reg.SAV.STS_STATE.key ≠ Reg.SAV.LAST_TRIG_TRIGGER.key by decide),
    get_set_other v s (show Reg.SYS.PERSIST_FENCED.key ≠ Reg.SAV.LAST_TRIG_TRIGGER.key by decide)]
  rfl

theorem fenceView_resetTriggered (s : State) :
    fenceView (resetTriggered s) = { fenceView s with trigger := 16, reset := true } := by
  change { fenceView (set Reg.SAV.LAST_TRIG_TRIGGER 16 s) with reset := true } = _
  rw [fenceView_set_trigger]

/-- The trigger of a fence cycle replaces every earlier one. -/
theorem spares_firstTrigger (f : Sav → Sav) (s : State) (x : Hp) (hf : (f s.sav).resetFence = true) :
    Spares (resetTriggered s)
      ({ s with hp := x } |> setSavs f |> set Reg.SAV.LAST_TRIG_TRIGGER 0 |> triggerBit 4) := by
  refine ⟨?_, fun _ => Or.inl⟩
  have hview : fenceView (setSavs f { s with hp := x }) = { fenceView s with reset := true } := by
    simp [fenceView, setSavs, get, hf]
  rw [triggerBit, fenceView_set_trigger, fenceView_set_trigger, hview, fenceView_resetTriggered, get_set_same]
  rfl

theorem fenceView_drains (s : State) :
    fenceView (setSav 2 (set Reg.SYS.PERSIST_FENCED 1 s)) = { fenceView s with state := 2, fenced := 1 } := by
  simp only [fenceView, setSav, set_sav, get_set_same,
    get_set_other _ _ (show Reg.SAV.LAST_TRIG_TRIGGER.key ≠ Reg.SAV.STS_STATE.key by decide),
    get_set_other _ _ (show Reg.SAV.LAST_TRIG_TRIGGER.key ≠ Reg.SYS.PERSIST_FENCED.key by decide),
    get_set_other _ _ (show Reg.SYS.PERSIST_FENCED.key ≠ Reg.SAV.STS_STATE.key by decide)]
  rfl

/-- A fence cycle ends in the drain of a save (R278). -/
theorem resetDrain_of_trigger {s t : State} (hreqs : ∀ r ∈ s.reqs, r ∈ drainReqs) (h : Spares (resetTriggered s) t) :
    ResetDrain (setSav 2 (set Reg.SYS.PERSIST_FENCED 1 t)) := by
  obtain ⟨hview, hasked⟩ := h
  refine ⟨?_, fun r hr => (hasked r hr).elim (hreqs r) id⟩
  rw [fenceView_drains, hview, fenceView_resetTriggered]
  rfl

theorem Spares.in_eng {s t : State} (h : Spares s t) (x : Eng) : Spares s { t with eng := x } := h
theorem Spares.in_nand {s t : State} (h : Spares s t) (x : Nand) : Spares s { t with nand := x } := h
theorem Spares.in_rng {s t : State} (h : Spares s t) (x : Rng) : Spares s { t with rng := x } := h

/-- What a fence cycle records of itself keeps the fence. -/
theorem spares_fenceStamps (s : State) (ok : Bool) (n : Nat) :
    Spares s (s |> savOutcome 0 |> put1 Reg.SAV.LAST_TRIG_OK_AT_FENCE ok |> set Reg.SAV.LAST_TRIG_PRESEAL 0
      |> set Reg.SAV.LAST_FRAME_FRAME n) :=
  ((((Spares.refl s).set _ _).set _ _).set _ _).set _ _

/-- What a fence cycle shows last keeps the fence. -/
theorem spares_fenceShown (s : State) (ok : Bool) :
    Spares s (when (!ok) countDirtyShutdown (mediaAll (event 0x42 0 s))) :=
  (((Spares.refl s).set _ _).mediaAll).cond _ _ fun _ hu => hu.countDirtyShutdown

/-- The fence cycle of a chip reset (R277, R278). -/
theorem fence_resetDrain {s : State} (h : ∀ r ∈ s.reqs, r ∈ drainReqs) : ResetDrain (fence 4 s) := by
  refine ResetDrain.spares (resetDrain_of_trigger h ?_) (spares_fenceShown _ (persistReasons s == 0))
  refine Spares.endTransfer (Spares.in_rng (Spares.portsFence (Spares.domainFence ?_)) _)
  refine Spares.cond ?_ _ _ ?_
  · refine Spares.in_nand (Spares.dropMoves (Spares.abandonAll (Spares.discardPending ?_))) _
    refine Spares.chargeShow (Spares.endExercise (Spares.cond ?_ _ _ ?_) _)
    · refine Spares.in_eng (Spares.set (Spares.set (Spares.thawAll ?_) _ _) _ _) _
      exact (spares_firstTrigger _ _ _ rfl).trans (spares_fenceStamps _ _ _)
    · exact fun _ hu => hu.endCapTest
  · exact fun _ hu => (hu.cond _ _ fun _ hv => hv.emit _).stopMirroring

/-! ### The reactions in the drain -/

/-- A reset of page 0x10 keeps the fence. -/
theorem Spares.resetXlate {s t : State} (h : Spares s t) : Spares s (startAbort' 0x10 true t) := by
  unfold startAbort'
  dsimp only
  split
  · exact h
  · have hasked : ∀ l a, Spares s { t with shadows := l, frm := { t.frm with aborts := a } } := fun _ _ => h
    exact (((hasked _ _).set (Reg.BLKSTS_ABORTING 0x10) 1).set (Reg.BLKSTS_ABORT_DONE 0x10) 0).set
      (Reg.BLKSTS_FROZEN 0x10) 0

/-- A further chip reset in the drain is deferred, or asked for at once while DISARMED (R277). -/
theorem ResetDrain.chipReset {s : State} (h : ResetDrain s) : ResetDrain (chipResetOp s) := by
  obtain ⟨hview, hreqs⟩ := h
  have hkey : ResetDrain (closeKey s) := ResetDrain.spares ⟨hview, hreqs⟩ (Spares.refl s).closeKey
  obtain ⟨hfenced, -, -⟩ := fence_of_view hview
  have hstate : savState s = 2 := congrArg FenceView.state hview
  unfold chipResetOp
  rw [hfenced, hstate]
  cases savArmed s
  · exact hkey
  · obtain ⟨hkview, hkreqs⟩ := hkey
    refine ⟨?_, hkreqs⟩
    change fenceView (triggerBit 4 (closeKey s)) = resetDrain
    have htrigger : get Reg.SAV.LAST_TRIG_TRIGGER (closeKey s) = 16 := congrArg FenceView.trigger hkview
    rw [triggerBit, fenceView_set_trigger, hkview, htrigger]
    rfl

theorem ResetDrain.react1 {s : State} (h : ResetDrain s) {r : Req} (hr : r ∈ drainReqs) : ResetDrain (react1 r s) := by
  simp only [drainReqs, List.mem_cons, List.not_mem_nil, or_false] at hr
  obtain rfl | rfl | rfl := hr
  · exact h.spares (.branch _ (.refl s) (Spares.refl s).resetXlate)
  · exact h.chipReset
  · exact h.spares (.branch _ (.refl s) (Spares.refl s).abortSafe)

theorem ResetDrain.reactRound {s : State} (h : ResetDrain s) : ResetDrain (reactRound s) :=
  forEach_keeps ResetDrain s.reqs Machine.react1 _ ⟨h.1, fun _ hr => absurd hr List.not_mem_nil⟩
    fun r hr _ ht => ht.react1 (h.2 r hr)

/-! ### The reaction to a restart -/

/-- Only a chip reset waits. -/
theorem reactRound_chipReset {s : State} (h : s.reqs = []) :
    Machine.reactRound (request .chipReset s) = chipResetOp s := by
  have hreqs : { request .chipReset s with reqs := [] } = s := by cases s; subst h; rfl
  have hone : (request .chipReset s).reqs = [.chipReset] := congrArg (· ++ [Req.chipReset]) h
  rw [Machine.reactRound, hone, hreqs]
  rfl

theorem reactRound_none {s : State} (h : s.reqs = []) : Machine.reactRound s = s := by
  rw [Machine.reactRound, h]
  cases s; subst h; rfl

/-- Armed and in no fence, a chip reset fences, and the device drains (R277). -/
theorem chipReset_armed {s : State} (hreqs : s.reqs = []) (hf : fenced s = false) (ha : savArmed s = true) :
    fenceView (reactions (request .chipReset s)) = resetDrain := by
  have hop : chipResetOp s = fence 4 (closeKey s) := by
    unfold chipResetOp
    rw [hf, ha]
    rfl
  have hfirst : ResetDrain (Machine.reactRound (request .chipReset s)) := by
    rw [reactRound_chipReset hreqs, hop]
    exact fence_resetDrain fun r hr => absurd (hreqs ▸ hr : r ∈ []) List.not_mem_nil
  have hlast := hfirst.reactRound.reactRound.reactRound
  have hwaits : (request .chipReset s).reqs.isEmpty = false := by simp [request]
  rw [reactions, hwaits]
  exact hlast.1

/-- While DISARMED a chip reset is asked for at once (R276). -/
theorem chipReset_disarmed {s : State} (hreqs : s.reqs = []) (ha : savArmed s = false) :
    (reactions (request .chipReset s)).pwr.resetDue = true := by
  have hop : chipResetOp s = askReset (closeKey s) := by
    unfold chipResetOp
    rw [ha]
    simp
  have hfirst : Machine.reactRound (request .chipReset s) = askReset (closeKey s) :=
    (reactRound_chipReset hreqs).trans hop
  have hnone : (askReset (closeKey s)).reqs = [] := hreqs
  have hwaits : (request .chipReset s).reqs.isEmpty = false := by simp [request]
  rw [reactions, hwaits, hfirst, reactRound_none hnone, reactRound_none hnone, reactRound_none hnone]
  rfl

/-- A command leaves, beyond what `settleKeys` names, what its reactions left (R404). -/
theorem keeps_settle (before t : State) : Keeps settleKeys (reactions t) (settle before t) :=
  keeps_interrupts (keeps_creditsShow (keeps_marksShow (keeps_persistShow (keeps_domainOkShow
    (Keeps.refl settleKeys (reactions t)))))) before

theorem fenceView_settle (before t : State) : fenceView (settle before t) = fenceView (reactions t) := by
  have hkeeps := keeps_settle before t
  have hsav : (settle before t).sav = (reactions t).sav := hkeeps.sav
  simp only [fenceView, hkeeps.get Reg.SAV.LAST_TRIG_TRIGGER (by decide), hkeeps.get Reg.SAV.STS_STATE (by decide),
    hkeeps.get Reg.SYS.PERSIST_FENCED (by decide), hsav]

/-- RESTART asks for a chip reset (R476): armed it fences, DISARMED the reset is due. -/
theorem Completes.restart {w : Writer} {s : State} (hs : Ready s) (hr : Reaches w 0xB1134 8 s) (hf : fenced s = false) :
    Completes (.restart w) s fun t => (savArmed s = false → t.pwr.resetDue = true) ∧
      (savArmed s = true → fenced t = true ∧ get Reg.SAV.LAST_TRIG_TRIGGER t = 16 ∧ t.sav.resetFence = true) := by
  refine .of_reach hs hr rfl ?_
  rw [writeUpdCtl_restart hf]
  refine ⟨fun ha => ?_, fun ha => ?_⟩
  · rw [(keeps_settle s _).pwr]
    exact chipReset_disarmed (s := begun s) hs.2 ha
  · exact fence_of_view ((fenceView_settle s _).trans (chipReset_armed (s := begun s) hs.2 hf ha))

/-- Settles O56, clause by clause: each command's write reaches its operation, the operation's branch is chosen by the
clause's hypotheses, and the settled state shows what that branch stores; RESTART goes through the reaction to the chip
reset it asks for. -/
theorem updateCommands : Obligations.UpdateCommands := by
  unfold Obligations.UpdateCommands
  intro s hs w busy
  refine ⟨fun c b hr => ?activate, fun accept hr => ?confirm, fun hr => ?defaults, fun hr => ?revert,
    fun hr => ?restart, .autoConfirm hs, .settingsCompaction hs⟩
  case activate =>
    refine ⟨fun hf => .busy hs hr rfl rfl (if_pos hf), fun hf htransfer => ?_, fun hf htransfer => ⟨fun hi => ?_,
      fun hst hrej hgood => ?_, fun hst hrej hgood hfree => ?_, fun hst hrej hgood hfree hold => ?_,
      fun hst hrej hgood hfree hold => ?_⟩⟩
    · exact .activate_refused hs hr hf (by decide) (activateOp_transfer htransfer)
    · exact .activate_refused hs hr hf (by decide) (activateOp_notStaged htransfer hi)
    · exact .activate_refused hs hr hf (by decide) (activateOp_incompatible htransfer hst hrej hgood)
    · exact .activate_refused hs hr hf (by decide) (activateOp_full htransfer hst hrej hgood hfree)
    · exact .activate_refused hs hr hf (by decide) (activateOp_oldFormat htransfer hst hrej hgood hfree
        ⟨congrArg Fin.val hold.1, hold.2⟩)
    · exact .activate_accepted hs hr hf (activateOp_accepted htransfer hst hrej hgood hfree
        fun ⟨hc, hfmt⟩ => hold ⟨Fin.ext hc, hfmt⟩)
  case confirm =>
    have hbegun := (Changes.refl [] [Reg.UPD.STS_RESULT] s).out []
    refine ⟨fun hf => .busy hs hr rfl rfl (writeUpdCtl_busy hf w _), fun hf => ⟨fun h => ?_,
      fun hp hset hdef ha => ?_, fun hp hset hdef => .confirm_accepted hs hr hf hp hset hdef⟩⟩
    · exact .result hs hr rfl hbegun ((writeUpdCtl_confirm hf w accept).trans
        (confirmOp_wrongState (s := begun s) h accept)) (by decide) (by decide)
    · subst ha
      exact .result hs hr rfl hbegun ((writeUpdCtl_confirm hf w false).trans
        (confirmOp_settings (s := begun s) hp hset hdef)) (by decide) (by decide)
  case defaults =>
    refine ⟨fun hf => .busy hs hr rfl rfl (writeUpdCtl_busy hf w _), fun hf => .of_reach hs hr rfl ?_⟩
    rw [writeUpdCtl_acceptDefaults hf]
    exact ((Changes.refl [] [] s).out []).settled hs.2 s
  case revert =>
    refine ⟨fun hf => .busy hs hr rfl rfl (writeUpdCtl_busy hf w _), fun hf hp => ?_, .revert_accepted hs hr⟩
    exact .result hs hr rfl ((Changes.refl [] [Reg.UPD.STS_RESULT] s).out [])
      ((writeUpdCtl_revert hf w).trans (revertOp_none (s := begun s) hp)) (by decide) (by decide)
  case restart =>
    refine ⟨fun hf => .busy hs hr rfl rfl (writeUpdCtl_busy hf w _), fun hf => ?_⟩
    obtain ⟨t, hexec, hdue, hfence⟩ := Completes.restart hs hr hf
    exact ⟨t, hexec, hdue, fun ha _ _ _ => hfence ha⟩

end Sys2Proof.Machine
end

section
/-! SUPPORT. The form of every command: all but the appearance of VAON are a `run` of an effect. What follows for every
step: it completes, it does nothing without VAON, it keeps the queue, and it keeps the indications of R16 and R367. -/

namespace Sys2Proof.Machine
set_option Elab.async false

/-! ### Every command is a run of its effect -/

/-- Every command but VAON_POWER_UP is of the form `run` (R83, R507). -/
theorem exec_runs (c : Instr) (hc : ∀ x, c ≠ .vaonPowerUp x) (s : State) : ∃ f, exec c s = run f s := by
  cases c
  case vaonPowerUp x => exact absurd rfl (hc x)
  all_goals exact ⟨_, Eq.refl (run _ s)⟩

/-- The appearance of VAON runs whatever the supply. -/
theorem exec_vaonPowerUp (x : PowerOnIn) (s : State) :
    exec (.vaonPowerUp x) s = runAlways (fun s => if s.pwr.vaon then s else powerOn x s) s := rfl

/-- What a command leaves: the end of a command after some effect, or, without VAON, the state with nothing sent. -/
theorem exec_ends (c : Instr) (s : State) :
    (∃ u, exec c s = .next (settle s u)) ∨ s.pwr.vaon = false ∧ exec c s = .next { s with out := [] } := by
  by_cases hc : ∃ x, c = .vaonPowerUp x
  · obtain ⟨x, rfl⟩ := hc
    exact .inl ⟨_, exec_vaonPowerUp x s⟩
  · obtain ⟨f, hf⟩ := exec_runs c (fun x hx => hc ⟨x, hx⟩) s
    cases hv : s.pwr.vaon
    · exact .inr ⟨rfl, hf.trans (run_dark f s hv)⟩
    · exact .inl ⟨_, hf.trans (run_next f s hv)⟩

/-- Settles O3: every other command is a `run`, and a `run` does nothing without VAON. -/
theorem darkControllerStays : Obligations.DarkControllerStays := by
  unfold Obligations.DarkControllerStays
  intro c s hv hc
  obtain ⟨f, hf⟩ := exec_runs c hc s
  exact hf.trans (run_dark f s hv)

/-- Settles O1: both clauses are the definition of a step. -/
theorem stepRunsFrontCommand : Obligations.StepRunsFrontCommand := by
  unfold Obligations.StepRunsFrontCommand
  refine ⟨fun _ _ _ => rfl, fun s h => ?_⟩
  unfold step
  rw [h]

/-! ### The indications at the end of a command (R16, R367) -/

/-- The fields that the end of a command changes after `SYS.PERSIST.OK` is shown: GQ2's, the marks' and the
interrupts'. -/
def lateKeys : List Nat :=
  settleKeys.filter fun k => !([Reg.SYS.PERSIST_OK, Reg.SYS.PERSIST_CHG_FRAME, Reg.SYS.PERSIST_WDRAW_COUNT,
    Reg.SYS.PERSIST_WDRAW_LAST_REASONS, Reg.SYS.PERSIST_DOMAIN_OK, Reg.DOM.STS_DOMAIN_OK,
    Reg.SAF.WDRAW_MAX_NS].map Fld.key).contains k

/-- The fields that it changes from `SYS.PERSIST.OK` on, and from there without the indication itself. -/
def recordKeys : List Nat :=
  [Reg.SYS.PERSIST_CHG_FRAME, Reg.SYS.PERSIST_WDRAW_COUNT, Reg.SYS.PERSIST_WDRAW_LAST_REASONS,
    Reg.SAF.WDRAW_MAX_NS].map Fld.key ++ lateKeys
def persistKeys : List Nat := Reg.SYS.PERSIST_OK.key :: recordKeys

namespace Keeps

variable {K L : List Nat} {s t : State}

theorem mono (h : Keeps K s t) (hL : ∀ k ∈ K, k ∈ L) : Keeps L s t :=
  { h with get := fun f hf => h.get f fun hk => hf (hL _ hk) }

/-! #### GQ2's record of a change -/

theorem lateQueueShow (h : Keeps lateKeys s t) : Keeps lateKeys s (queueShow 2 t) := by
  unfold queueShow queueMarks
  refine live (live (trans (cond (cond (live (live (((h.set _ _ (by decide)).set _ _ (by decide)).set _ _
    (by decide) |>.set _ _ (by decide)) _ _ _ (by decide)) _ _ _ (by decide)) _ _ fun u hu => ?_) _ _ fun u hu => ?_)
    (ofQueue _ fun _ => by simp)) _ _ _ (by decide)) _ _ _ (by decide)
  · exact (hu.event _ _ (by decide)).inc _ (by decide)
  · exact (hu.event _ _ (by decide)).inc _ (by decide)

theorem latePushWord (h : Keeps lateKeys s t) (v : BitVec 16) : Keeps lateKeys s (pushWord 2 v t) := by
  have hqueue : ∀ f : Gather → Gather, (∀ g, g.held <+: (f g).held) → ∀ u, Keeps lateKeys s u →
      Keeps lateKeys s (setQueue 2 f u) := fun f hf u hu => hu.trans (ofQueue f hf)
  unfold pushWord emitWide
  dsimp only
  split
  · exact cond ((hqueue _ (fun _ => by simp) _ (hqueue _ (fun _ => by simp) _ h)).set _ _ (by decide)) _ _
      fun u hu => hu.event _ _ (by decide)
  · exact hqueue _ (fun _ => by simp) _ h

theorem latePushRecord (h : Keeps lateKeys s t) (r : List (BitVec 16)) : Keeps lateKeys s (pushRecord 2 r t) := by
  unfold pushRecord
  dsimp only
  split
  · exact h
  rw [if_pos rfl]
  split
  · unfold pushWords queueCredits
    exact lateQueueShow ((each (h.trans (ofQueue _ fun _ => by simp)) _ _ fun v u hu => hu.latePushWord v).trans
      (ofQueue _ fun _ => by simp))
  · exact ((h.trans (ofQueue _ fun _ => by simp)).event 0xA2 3 (by decide)).live 0xA2 3 _ (by decide)

/-! #### The marks, the credits and the interrupts -/

theorem lateThrottleShow (h : Keeps lateKeys s t) (b : Bool) (n : Nat) : Keeps lateKeys s (throttleShow b n t) := by
  unfold throttleShow
  dsimp only
  split
  · exact h
  · exact cond (h.set _ _ (by decide)) _ _ fun u hu => hu.event _ _ (by decide)

theorem lateMarksShow (h : Keeps lateKeys s t) : Keeps lateKeys s (marksShow t) := by
  unfold marksShow
  split
  · exact h
  have hdirty := h.set Reg.LEH.DIRTY_EFF_GRAN (dirtyEff t) (by decide)
  refine set (set (lateThrottleShow ?_ _ _) Reg.LEH.THROTTLE_WITHHELD _ (by decide)) (Reg.EVT_LIVE 0x41) _ (by decide)
  split
  · exact hdirty.trans (ofMrv _ (by rfl))
  · refine cond (cond (cond (cond (hdirty.trans (ofMrv _ (by rfl))) _ _ fun u hu => ?_) _ _ fun u hu => ?_) _ _
      fun u hu => ?_) _ _ fun u hu => ?_
    · exact (hu.event 0x41 0 (by decide)).inc Reg.LEH.WM_CROSSINGS_LO (by decide)
    · exact (hu.event 0x41 1 (by decide)).inc Reg.LEH.WM_CROSSINGS_HI (by decide)
    · exact hu.event 0x41 2 (by decide)
    · exact hu.event 0x41 4 (by decide)

theorem lateCreditsShow (h : Keeps lateKeys s t) : Keeps lateKeys s (creditsShow t) := by
  unfold creditsShow
  dsimp only
  split
  · exact h
  · exact h.trans (ofHp _ (by rfl))

theorem lateDueVector (h : Keeps lateKeys s t) (v : Nat) : Keeps lateKeys s (dueVector v t) := by
  unfold dueVector sendVector
  dsimp only
  split
  · exact inc (h.trans (ofHp _ (by rfl))) Reg.IRQ.MERGED_COUNT (by decide)
  refine cond ?_ _ _ fun u hu => hu.trans (ofHp _ (by rfl))
  split
  · split
    · exact h
    · exact h.trans (ofHp _ (by rfl))
  · exact (h.trans (ofOut _)).inc Reg.IRQ.SENT_COUNT (by decide)

theorem lateInterrupts (h : Keeps lateKeys s t) (before : State) : Keeps lateKeys s (interrupts before t) :=
  each h _ _ fun _ _ hu => cond (cond hu _ _ fun _ hv => hv.lateDueVector _) _ _ fun _ hv => hv.trans (ofOut _)

end Keeps

/-- What the end of a command does after the indication is shown. -/
theorem keeps_afterPersistShow (before s : State) :
    Keeps lateKeys s (interrupts before (creditsShow (marksShow s))) :=
  (((Keeps.refl _ _).lateMarksShow).lateCreditsShow).lateInterrupts before

/-- What a change of the indication records beside it (R16, R17). -/
def recordChange (ok : Bool) (s : State) : State :=
  s |> set Reg.SYS.PERSIST_CHG_FRAME (now32 s)
    |> when (!ok) (fun s =>
        s |> inc Reg.SYS.PERSIST_WDRAW_COUNT |> set Reg.SYS.PERSIST_WDRAW_LAST_REASONS (persistReasons s)
          |> logEvent 3 [persistReasons s]
          |> when (isSet Reg.SYS.PERSIST_FAULT s && !pageDark 0x97 s) withdrawalTime)
    |> persistChangeRecord

theorem keeps_recordChange (ok : Bool) (s : State) : Keeps recordKeys s (recordChange ok s) := by
  refine Keeps.trans ?_ (Keeps.mono ((Keeps.refl _ _).latePushRecord _) (by decide))
  refine Keeps.cond ((Keeps.refl _ _).set _ _ (by decide)) _ _ fun u hu => ?_
  refine Keeps.cond (((hu.inc _ (by decide)).set _ _ (by decide)).trans (Keeps.ofHp _ (by rfl))) _ _ fun v hv => ?_
  exact (hv.set _ _ (by decide)).trans Keeps.ofSpend

/-- `SYS.PERSIST.OK` as R16 and R502 give it. -/
abbrev persistOkNow (s : State) : Bool := persistReasons s == 0 && s.pwr.vaon && s.pwr.tap != .extest

theorem persistShow_of_shown {s : State} (h : PersistInv s) : persistShow s = s := if_pos h

theorem persistShow_of_change {s : State} (h : ¬ PersistInv s) :
    persistShow s = recordChange (persistOkNow s) (put1 Reg.SYS.PERSIST_OK (persistOkNow s) s) := if_neg h

theorem keeps_persistShow_after (s : State) : Keeps persistKeys s (persistShow s) := by
  by_cases h : PersistInv s
  · rw [persistShow_of_shown h]
    exact Keeps.refl _ _
  · rw [persistShow_of_change h]
    exact ((Keeps.refl _ _).set _ _ (by decide)).trans ((keeps_recordChange _ _).mono (by decide))

/-- What the indication stands on is not shown by a command's end. -/
theorem persistReasons_of_keeps {K : List Nat} {s t : State} (h : Keeps K s t)
    (hK : ∀ k ∈ K, k ∈ settleKeys) : persistReasons t = persistReasons s := by
  have hget : ∀ f : Fld, f.key ∉ settleKeys → get f t = get f s := fun f hf => h.get f fun hk => hf (hK _ hk)
  simp only [persistReasons, hget Reg.SYS.PERSIST_BOOT (by decide), hget Reg.SYS.PERSIST_RECOUNT (by decide),
    hget Reg.SYS.PERSIST_BUDGET (by decide), hget Reg.SYS.PERSIST_FAULT (by decide),
    hget Reg.SYS.PERSIST_SAFE (by decide), hget Reg.SYS.PERSIST_CAPACITY (by decide),
    hget Reg.SYS.PERSIST_IN_DOUBT (by decide), hget Reg.SYS.PERSIST_FENCED (by decide)]

theorem PersistInv.of_keeps {K : List Nat} {s t : State} (hs : PersistInv s) (h : Keeps K s t)
    (hK : ∀ k ∈ K, k ∈ settleKeys) (hok : Reg.SYS.PERSIST_OK.key ∉ K) : PersistInv t := by
  unfold PersistInv isSet at *
  rw [h.get _ hok, h.pwr, persistReasons_of_keeps h hK]
  exact hs

/-- Showing the indication makes it what its reasons give (R16). -/
theorem persistShow_inv (s : State) : PersistInv (persistShow s) := by
  by_cases h : PersistInv s
  · rwa [persistShow_of_shown h]
  rw [persistShow_of_change h]
  refine PersistInv.of_keeps ?_ (keeps_recordChange _ _) (by decide) (by decide)
  have hput : Keeps [Reg.SYS.PERSIST_OK.key] s (put1 Reg.SYS.PERSIST_OK (persistOkNow s) s) :=
    (Keeps.refl _ _).set _ _ (by decide)
  unfold PersistInv
  rw [isSet_put1_same _ _ _ rfl, persistReasons_of_keeps hput (by decide)]
  rfl

theorem DomainInv.of_keeps {s t : State} (hs : DomainInv s) (h : Keeps persistKeys s t) : DomainInv t := by
  unfold DomainInv domainOkNow fenced isSet at *
  rw [h.get Reg.SYS.PERSIST_DOMAIN_OK (by decide), h.get Reg.FRM.SRC_STATE (by decide),
    h.get Reg.DOM.CFG_MEMBERS (by decide), h.get Reg.SYS.PERSIST_FENCED (by decide), h.rng]
  exact hs

/-- Showing `DOMAIN_OK` makes it what its conditions give (R367). -/
theorem domainOkShow_inv (s : State) : DomainInv (domainOkShow s) := by
  unfold domainOkShow
  split
  · assumption
  have hput : ∀ b, Keeps [Reg.SYS.PERSIST_DOMAIN_OK.key, Reg.DOM.STS_DOMAIN_OK.key] s
      (put1 Reg.DOM.STS_DOMAIN_OK b (put1 Reg.SYS.PERSIST_DOMAIN_OK b s)) :=
    fun b => ((Keeps.refl _ _).set _ _ (by decide)).set _ _ (by decide)
  have hnow : ∀ b, domainOkNow (put1 Reg.DOM.STS_DOMAIN_OK b (put1 Reg.SYS.PERSIST_DOMAIN_OK b s)) = domainOkNow s := by
    intro b
    unfold domainOkNow fenced isSet
    rw [(hput b).get Reg.FRM.SRC_STATE (by decide), (hput b).get Reg.DOM.CFG_MEMBERS (by decide),
      (hput b).get Reg.SYS.PERSIST_FENCED (by decide), (hput b).rng]
  unfold DomainInv
  rw [hnow, put1, isSet_set_other _ _ (by decide), isSet_put1_same _ _ _ rfl]

/-- Every command ends with both indications shown. -/
theorem settle_persistInv (before s : State) : PersistInv (settle before s) :=
  (persistShow_inv _).of_keeps (keeps_afterPersistShow before _) (by decide) (by decide)

theorem settle_domainInv (before s : State) : DomainInv (settle before s) :=
  (domainOkShow_inv _).of_keeps ((keeps_persistShow_after _).trans ((keeps_afterPersistShow before _).mono (by decide)))

/-- What the end of every command establishes, and a change of `out` or of the queue leaves, every step keeps. -/
theorem step_keeps {P : State → Prop} (hend : ∀ before u, P (settle before u))
    (hout : ∀ u, P u → P { u with out := [] }) (hqueue : ∀ (u : State) (l : List Instr), P u → P { u with pending := l })
    {s t : State} (hs : P s) (h : step s = .next t) : P t := by
  unfold step at h
  split at h
  · cases h
    exact hs
  · next c rest _ =>
    obtain ⟨u, hu⟩ | ⟨-, hu⟩ := exec_ends c { s with pending := rest }
    · cases hu.symm.trans h
      exact hend _ _
    · cases hu.symm.trans h
      exact hout _ (hqueue s rest hs)

/-- Settles O59: the end of every command shows both indications, and nothing after that changes what they stand on. -/
theorem persistIndicationKept : Obligations.PersistIndicationKept := by
  unfold Obligations.PersistIndicationKept
  exact ⟨fun s t => step_keeps settle_persistInv (fun _ h => h) (fun _ _ h => h),
    fun s t => step_keeps settle_domainInv (fun _ h => h) (fun _ _ h => h)⟩

end Sys2Proof.Machine
end

section
/-! SUPPORT. What every command leaves alone, by the laws of the operations: the queue of waiting commands, the frame
counter but for the tick and the always-on island, and the canonical form of the module DRAM. -/

namespace Sys2Proof.Machine
set_option Elab.async false

/-! ### Effects behind a guard -/

section
variable {f : State → State}

theorem reach_queue_count (hf : ∀ t, queueOf (f t) = queueOf t ∧ countOf (f t) = countOf t) (w : Writer)
    (addr data : Nat) (s : State) :
    queueOf (reach w addr data f s) = queueOf s ∧ countOf (reach w addr data f s) = countOf s := by
  unfold reach
  (repeat' split) <;> simp [hf]

theorem manage_queue_count (hf : ∀ t, queueOf (f t) = queueOf t ∧ countOf (f t) = countOf t) (n : Nat) (s : State) :
    queueOf (manage n f s) = queueOf s ∧ countOf (manage n f s) = countOf s := by
  unfold manage
  (repeat' split) <;> simp [hf]

theorem fromTwin_queue_count (hf : ∀ t, queueOf (f t) = queueOf t ∧ countOf (f t) = countOf t) (s : State) :
    queueOf (fromTwin f s) = queueOf s ∧ countOf (fromTwin f s) = countOf s := by
  unfold fromTwin
  split <;> simp [hf]

theorem manage_wf (hf : ∀ t, Memory.wf (memOf t) = true → Memory.wf (memOf (f t)) = true) (n : Nat) {s : State}
    (hs : Memory.wf (memOf s) = true) : Memory.wf (memOf (manage n f s)) = true := by
  unfold manage
  (repeat' split) <;> simp [hs, hf]

theorem fromTwin_wf (hf : ∀ t, Memory.wf (memOf t) = true → Memory.wf (memOf (f t)) = true) {s : State}
    (hs : Memory.wf (memOf s) = true) : Memory.wf (memOf (fromTwin f s)) = true :=
  iteWf (hf s hs) hs

end

/-! ### The queue and the frame counter -/

/-- A command other than the tick and those of the always-on island runs an effect that leaves the queue and the frame
counter (R53). -/
theorem exec_runs_queue_count (c : Instr) (htick : ∀ x, c ≠ .frameTick x) (hon : ∀ x, c ≠ .vaonPowerUp x)
    (haon : c ≠ .aonReset) (s : State) :
    ∃ f, exec c s = run f s ∧ ∀ u, queueOf (f u) = queueOf u ∧ countOf (f u) = countOf u := by
  cases c
  case frameTick x => exact absurd rfl (htick x)
  case vaonPowerUp x => exact absurd rfl (hon x)
  case aonReset => exact absurd rfl haon
  all_goals
    refine ⟨_, Eq.refl (run _ s), fun u => ?_⟩
    try dsimp only
    (repeat' split) <;> simp (maxDischargeDepth := 9) [pending_queueOf, count_countOf, reach_queue_count,
      fromTwin_queue_count, manage_queue_count]

theorem queue_of_runAlways {f : State → State} (hf : ∀ u, queueOf (f u) = queueOf u) {s t : State}
    (h : runAlways f s = .next t) : queueOf t = queueOf s := by
  cases h
  exact (settle_rest s _).1.trans (hf _)

theorem queue_of_run {f : State → State} (hf : ∀ u, queueOf (f u) = queueOf u) {s t : State}
    (h : run f s = .next t) : queueOf t = queueOf s := by
  unfold run at h
  split at h
  · exact queue_of_runAlways hf h
  · cases h
    rfl

theorem count_of_run {f : State → State} (hf : ∀ u, countOf (f u) = countOf u) {s t : State}
    (h : run f s = .next t) : countOf t = countOf s := by
  unfold run at h
  split at h
  · cases h
    exact (settle_rest s _).2.trans (hf _)
  · cases h
    rfl

/-- No other command moves the frame counter (R53). -/
theorem exec_count {c : Instr} {s t : State} (h : exec c s = .next t) (htick : ∀ x, c ≠ .frameTick x)
    (hon : ∀ x, c ≠ .vaonPowerUp x) (haon : c ≠ .aonReset) : t.frm.count = s.frm.count := by
  obtain ⟨f, hexec, hf⟩ := exec_runs_queue_count c htick hon haon s
  exact count_of_run (fun u => (hf u).2) (hexec ▸ h)

/-- No command changes what waits. -/
theorem exec_queue {c : Instr} {s t : State} (h : exec c s = .next t) : t.pending = s.pending := by
  by_cases htick : ∃ x, c = .frameTick x
  · obtain ⟨x, rfl⟩ := htick
    refine queue_of_run (f := fun s => if pllWaits 0 s then relockFrames s else s |> tick x |> answersTick |> retryStalled)
      (fun u => ?_) h
    split <;> simp
  by_cases hon : ∃ x, c = .vaonPowerUp x
  · obtain ⟨x, rfl⟩ := hon
    refine queue_of_runAlways (f := fun s => if s.pwr.vaon then s else powerOn x s) (fun u => ?_) h
    split <;> simp
  by_cases haon : c = .aonReset
  · subst haon
    refine queue_of_run (f := fun s => s |> loseVaon |> forEach ((downOrder s).filter fun r => railIsOn r s)
      (fun r => emit (.rail r false)) |> emit (.moduleReset true)) (fun u => ?_) h
    simp
  obtain ⟨f, hexec, hf⟩ := exec_runs_queue_count c (fun x hx => htick ⟨x, hx⟩) (fun x hx => hon ⟨x, hx⟩) haon s
  exact queue_of_run (fun u => (hf u).1) (hexec ▸ h)

/-- Settles O2: every command answers a next state (`exec_ends`), its end closes every reaction, and its operations
leave the queue. -/
theorem everyCommandCompletes : Obligations.EveryCommandCompletes := by
  unfold Obligations.EveryCommandCompletes
  refine ⟨fun c s => ?_, fun c s t => exec_queue⟩
  obtain ⟨u, hu⟩ | ⟨hdark, hu⟩ := exec_ends c s
  · exact ⟨_, hu, fun _ => settle_reqs_empty s u⟩
  · exact ⟨_, hu, fun hv => absurd hv (by simp [hdark])⟩

/-! ### The canonical form of the module DRAM -/

/-- The module DRAM of what a command answers is in canonical form. -/
def AnswersForm (r : Host.Outcome State Fault Refusal) : Prop := ∀ t, r = .next t → Memory.wf (memOf t) = true

theorem AnswersForm.runAlways {f : State → State} {s : State} (hs : Memory.wf (memOf s) = true)
    (hf : ∀ u, Memory.wf (memOf u) = true → Memory.wf (memOf (f u)) = true) : AnswersForm (runAlways f s) := by
  rintro t ⟨⟩
  exact settle_wf _ _ (hf _ hs)

theorem AnswersForm.run {f : State → State} {s : State} (hs : Memory.wf (memOf s) = true)
    (hf : ∀ u, Memory.wf (memOf u) = true → Memory.wf (memOf (f u)) = true) : AnswersForm (run f s) := by
  unfold Machine.run
  split
  · exact .runAlways hs hf
  · rintro t ⟨⟩
    exact hs

/-- Every command keeps the canonical form, by the laws of its operations. -/
theorem exec_form (c : Instr) {s : State} (hs : Memory.wf (memOf s) = true) : AnswersForm (exec c s) := by
  cases c
  case vaonPowerUp x =>
    refine AnswersForm.runAlways (f := fun s => if s.pwr.vaon then s else powerOn x s) hs fun u hu => ?_
    exact iteWf hu (by simp [hu])
  case frameTick x =>
    refine AnswersForm.run hs fun u hu => ?_
    exact iteWf (by simp [hu]) (retryStalled_wf _ (answersTick_wf _ (tick_wf x u hu)))
  all_goals
    refine AnswersForm.run hs fun u hu => ?_
    try dsimp only
    (repeat' split) <;> simp +contextual [hu, reach_wf, manage_wf, fromTwin_wf, forEach_wf, mem_memOf]

/-- Settles O60: a step runs one command or nothing, and every command keeps the form. -/
theorem memoryFormKept : Obligations.MemoryFormKept := by
  unfold Obligations.MemoryFormKept
  intro s t hs h
  unfold step at h
  split at h
  · cases h
    exact hs
  · next c rest _ =>
    have hform : AnswersForm (exec c { s with pending := rest }) := exec_form c hs
    exact hform t h

/-! ### Reset -/

/-- Settles O4: nothing is stored at reset, so every field reads its reset value. -/
theorem resetState : Obligations.ResetState := by
  unfold Obligations.ResetState
  refine ⟨rfl, rfl, rfl, rfl, rfl, rfl, rfl, rfl, fun p => ⟨rfl, rfl⟩, fun q => ⟨rfl, rfl⟩, fun n c => rfl, rfl, rfl,
    fun a => rfl, ?_, ?_, rfl⟩ <;> decide

end Sys2Proof.Machine
end

section
/-! SUPPORT. How a command whose effect asks for no reaction ends: with what its effect leaves, but for what the end of
every command keeps up to date. The commands that only answer: the test access port and the mailbox. -/

namespace Sys2Proof.Machine
set_option Elab.async false

/-! ### A command and its effect -/

/-- A command whose effect leaves `u` and asks for no reaction ends with `u`, but for what the end of every command keeps
up to date. -/
theorem Completes.leaves {c : Instr} {f : State → State} {s u : State} {P : State → Prop} (hs : Ready s)
    (hc : exec c s = run f s) (hf : f (begun s) = u) (hu : u.reqs = []) (h : ∀ t, Keeps settleKeys u t → P t) :
    Completes c s P :=
  .of_run hs hc (by rw [hf]; exact h _ (settle_keeps s u hu))

/-- The same of a register write that reaches its register (R77, R79, R86). -/
theorem Completes.leavesReached {c : Instr} {w : Writer} {addr data : Nat} {k : State → State} {s u : State}
    {P : State → Prop} (hs : Ready s) (hw : Reaches w addr data s) (hc : exec c s = run (reach w addr data k) s)
    (hk : k (begun s) = u) (hu : u.reqs = []) (h : ∀ t, Keeps settleKeys u t → P t) : Completes c s P :=
  .of_reach hs hw hc (by rw [hk]; exact h _ (settle_keeps s u hu))

theorem Completes.and {c : Instr} {s : State} {P Q : State → Prop} (h : Completes c s P) (k : Completes c s Q) :
    Completes c s fun t => P t ∧ Q t := by
  obtain ⟨t, ht, hp⟩ := h
  obtain ⟨u, hu, hq⟩ := k
  obtain rfl : t = u := by simpa [ht] using hu
  exact ⟨t, ht, hp, hq⟩

theorem Completes.mono {c : Instr} {s : State} {P Q : State → Prop} (h : Completes c s P) (k : ∀ t, P t → Q t) :
    Completes c s Q := by
  obtain ⟨t, ht, hp⟩ := h
  exact ⟨t, ht, k t hp⟩

/-- The state in which an effect begins differs in nothing that a frame speaks of. -/
theorem Changes.begin (ps : List Part) (fs : List Fld) (s : State) : Changes ps fs s (begun s) := (Changes.refl ps fs s).out []

/-- What an effect changes, its command changes (R404). -/
theorem Changes.ended {ps : List Part} {fs : List Fld} {s u t : State} (h : Changes ps fs s u) (k : Keeps settleKeys u t) :
    Changes ps fs s t :=
  h.trans (.ofKeeps k)

/-- What an effect sends, its command sends first. -/
theorem Keeps.sent {K : List Nat} {u t : State} {l : List Out} (k : Keeps K u t) (h : u.out = l) : l <+: t.out := by
  obtain ⟨m, hm⟩ := k.out
  exact ⟨m, by rw [hm, h]⟩

/-! ### The test access port (R491, R502) -/

/-- The state that a TAP instruction leaves with what it answers. -/
def withTap (x : TapInstr) (out : List Out) (s : State) : State := { s with pwr := { s.pwr with tap := x }, out := out }

/-- An instruction that only selects itself and answers changes nothing else of the device (R491). -/
theorem completes_tap {c : Instr} {f : State → State} {s : State} (x : TapInstr) (out : List Out) (hs : Ready s)
    (hc : exec c s = run f s) (hf : f (begun s) = withTap x out s) :
    Completes c s fun t => t.pwr = { s.pwr with tap := x } ∧ out <+: t.out ∧ Changes [.pwr] [] s t :=
  .leaves hs hc hf hs.2 fun t k =>
    have hw : Changes [.pwr] [] s (withTap x out s) := ((Changes.begin _ _ s).in_pwr _ (by simp)).out _
    ⟨k.pwr, k.sent rfl, hw.ended k⟩

/-- While EXTEST holds the pins, `PERSIST.OK` is 0 (R502). -/
theorem extest_persistOk {s : State} (hs : Ready s) (hf : fenced s = false) :
    Completes .extest s fun t => isSet Reg.SYS.PERSIST_OK t = false := by
  have hx : fenced (begun s) = false := hf
  refine .of_run hs (f := fun s => if fenced s then s else setTap .extest "EXTEST" s) rfl ?_
  simp only [hx, Bool.false_eq_true, if_false]
  have hp : (settle s (setTap .extest "EXTEST" (begun s))).pwr.tap = .extest := by
    rw [settle_pwr s _ (show (setTap .extest "EXTEST" (begun s)).reqs = [] from hs.2)]
    rfl
  have hinv : PersistInv _ := settle_persistInv s (setTap .extest "EXTEST" (begun s))
  simpa [PersistInv, hp] using hinv

/-- Settles O45: each instruction selects itself and answers; EXTEST is refused during a fence. -/
theorem testAccessPort : Obligations.TestAccessPort := by
  unfold Obligations.TestAccessPort
  intro s hs
  refine ⟨completes_tap .bypass _ hs rfl rfl, completes_tap .idcode _ hs rfl rfl,
    completes_tap .samplePreload _ hs rfl rfl, completes_tap .clamp _ hs rfl rfl, completes_tap .idcode [] hs rfl rfl,
    fun hf => ⟨completes_tap .extest _ hs (f := fun s => if fenced s then s else setTap .extest "EXTEST" s) rfl ?_,
      extest_persistOk hs hf⟩, fun hf => ?_⟩
  · exact if_neg (by rw [show fenced (begun s) = false from hf]; simp)
  · have hx : fenced (begun s) = true := hf
    exact .leaves hs (f := fun s => if fenced s then s else setTap .extest "EXTEST" s) rfl (if_pos hx) hs.2
      fun t k => ⟨k.pwr, (Changes.begin _ _ s).ended k⟩

/-! ### The mailbox: any port (R118) -/

/-- A command to an open mailbox that only answers changes nothing. -/
theorem completes_reply {c : Instr} {n : Fin 4} {code : Nat} {l : List Nat} {f : State → State} {s : State} (hs : Ready s)
    (hc : exec c s = run f s) (hf : f (begun s) = reply n code l (begun s)) :
    Completes c s fun t => [Out.mailbox n code l] <+: t.out ∧ Changes [] [] s t :=
  .leaves hs hc hf hs.2 fun _ k => ⟨k.sent rfl, ((Changes.begin _ _ s).emit _).ended k⟩

theorem changes_poisonList (n : Nat) (s : State) : Changes [] [Reg.EVT_STS (8 + n) 4] s (poisonList n s) :=
  ((Changes.refl _ _ s).cond _ _ fun _ h => h.event _ _ (by simp)).emit _

/-- The poison list is sent, and more than 1,024 lines latch POISON_OVF. -/
theorem completes_poisonList {n : Fin 4} {s : State} (hs : Ready s) (ho : mailboxOpen n s = true) :
    let ls := s.dram.poisoned.filter (fun l => 64 * l < exposedBytes s)
    Completes (.getPoisonList n) s fun t =>
      [Out.mailbox n 0 (b2n (decide (1024 < ls.length)) :: (ls.take 1024).map (64 * ·))] <+: t.out ∧
      (1024 < ls.length → get (Reg.EVT_STS (8 + n) 4) t = 1) ∧ Changes [] [Reg.EVT_STS (8 + n) 4] s t := by
  intro ls
  have hc : Changes [] [Reg.EVT_STS (8 + n) 4] s (poisonList n (begun s)) :=
    (Changes.begin _ _ s).trans (changes_poisonList n _)
  refine .leaves hs (f := fun s => if mailboxOpen n s then poisonList n s else s) rfl (if_pos ho) (hc.reqs.trans hs.2)
    fun t k => ⟨k.sent ?_, fun hl => ?_, hc.ended k⟩
  · show (when _ _ (begun s)).out ++ _ = _
    rw [when_keeps (fun u => u.out = []) _ _ (begun s) rfl fun h => h]
    rfl
  · have hkey : ∀ n : Fin 4, (Reg.EVT_STS (8 + n) 4).key ∉ settleKeys := by decide
    rw [k.get _ (hkey n)]
    show get _ (when (decide (1024 < ls.length)) _ _) = 1
    rw [decide_eq_true hl, when_true, event, get_set_same]
    rfl

/-- An opcode that no rule names is not supported. -/
theorem unsupportedOpcode_unknown (n : Nat) {op : Nat} (hop : ∀ o ∈ opcodes, o.1 ≠ op) (s : State) :
    unsupportedOpcode n op s = reply n 3 [] s := by
  have hfind : opcodes.find? (fun o => o.1 == op) = none := by simpa using hop
  unfold unsupportedOpcode
  rw [hfind]

/-- Settles O17: every query sends its payload and changes nothing. -/
theorem mailboxQueries : Obligations.MailboxQueries := by
  unfold Obligations.MailboxQueries
  refine ⟨fun s hs n ho c payload h => ?_, fun s hs n ho => ⟨completes_poisonList hs ho, fun op hop =>
    completes_reply hs (f := fun s => if mailboxOpen n s then unsupportedOpcode n op.toNat s else s) rfl
      ((if_pos ho).trans (unsupportedOpcode_unknown _ hop _))⟩⟩
  simp only [List.mem_cons, Prod.mk.injEq, List.not_mem_nil, or_false] at h
  rcases h with ⟨rfl, rfl⟩ | ⟨rfl, rfl⟩ | ⟨rfl, rfl⟩ | ⟨rfl, rfl⟩ | ⟨rfl, rfl⟩ | ⟨rfl, rfl⟩ | ⟨rfl, rfl⟩ | ⟨rfl, rfl⟩ |
    ⟨rfl, rfl⟩ | ⟨rfl, rfl⟩ | ⟨rfl, rfl⟩ | ⟨rfl, rfl⟩ | ⟨rfl, rfl⟩ | ⟨rfl, rfl⟩ | ⟨rfl, rfl⟩
  all_goals exact completes_reply hs (Eq.refl (run _ s)) (if_pos ho)

/-! ### Statements that fail -/

/-- A command has one outcome: what holds of the next state holds of what its effect leaves, settled. -/
theorem Completes.settled {c : Instr} {f : State → State} {s : State} {P : State → Prop} (h : Completes c s P)
    (hs : Ready s) (hc : exec c s = run f s) : P (settle s (f (begun s))) := by
  obtain ⟨t, ht, hp⟩ := h
  obtain rfl : settle s (f (begun s)) = t := by simpa [hc, run_next f s hs.1] using ht
  exact hp

/-- What an effect has sent stands before what the end of the command sends. -/
theorem not_first_sent {before u : State} {o : Out} (hr : u.reqs = []) (hu : u.out ≠ [])
    (ho : u.out.head? ≠ some o) : ¬ [o] <+: (settle before u).out := by
  obtain ⟨l, hl⟩ := (settle_keeps before u hr).out
  rw [hl]
  obtain ⟨a, m, hm⟩ := List.exists_cons_of_ne_nil hu
  rw [hm] at ho ⊢
  rintro ⟨r, hr⟩
  exact ho (by simpa using (List.cons.inj hr).1.symm)

/-- Register fields at the given values, in a controller with VAON present. -/
def withFields (l : List (Fld × Nat)) : State :=
  { regs := l.map (fun x => (x.1.key, x.2)), pwr := { vaon := true }, hp := { perst := [] } }

/-! ### Poison over a line whose undo entry waits (O18) -/

/-- The injection key is open, the twin is attached, and line 0 waits for the replay of an ABORTING context. -/
def mirroredReplay : State :=
  { withFields [(Reg.PDM.DOM_CTL_STATE 0, 0), (Reg.SYS.CAPS_HP_PRESENT, 1), (Reg.SYS.CAP_ACK_EXPOSED_GIB, 1),
      (Reg.HPT.LINK_WIDTH 0, 1), (Reg.HPT.STS_CFG_READY 0, 1), (Reg.SAF.FINJ_KEY_OPEN, 1), (Reg.TWN.STS_PAIRED, 1),
      (Reg.TWN.STS_STATE, 4), (Reg.TXC.CTX_STS_STATE 0 0, 5)] with
    txn := { pairs := [{ ctx := 0, granule := 0, slab := 0, lines := [0] }] } }

theorem mirroredReplay_open : mailboxOpen (0 : Fin 4) mirroredReplay = true ∧
    (0 : Fin 4).val = get Reg.SYS.MGMT_PORT_PORT mirroredReplay ∧ fenced mirroredReplay = false ∧
    isSet Reg.SAF.FINJ_KEY_OPEN mirroredReplay = true ∧ 0 < exposedBytes mirroredReplay := by
  decide +kernel

/-- The replay of the line is mirrored before the mailbox answers. -/
theorem mirroredReplay_sends :
    let u := manage 0 (injectLine 0 0) (begun mirroredReplay)
    u.reqs = [] ∧ u.out ≠ [] ∧ u.out.head? ≠ some (.mailbox 0 0 []) := by
  decide +kernel

/-- Refutes O18: before poison is written into a line, a waiting undo entry of the line is replayed (R190), and with the
twin attached its mirror write (R335) goes out ahead of the answer of INJECT_POISON. -/
theorem not_mailboxManagement : ¬ Obligations.MailboxManagement := by
  unfold Obligations.MailboxManagement
  rintro ⟨h, -⟩
  have hs : Ready mirroredReplay := ⟨rfl, rfl⟩
  obtain ⟨hopen, hport, hfence, hkey, haddr⟩ := mirroredReplay_open
  obtain ⟨-, -, -, -, -, -, hinject, -⟩ := h mirroredReplay hs 0 hopen hport hfence
  obtain ⟨-, -, hsent⟩ := (hinject 0 hkey haddr).settled hs (f := manage 0 (injectLine 0 0)) rfl
  obtain ⟨hr, hu, ho⟩ := mirroredReplay_sends
  exact not_first_sent hr hu ho hsent

end Sys2Proof.Machine
end

section
/-! SUPPORT. The Gather queues: what each shared operation leaves of a queue's words, and what it changes of its registers
(R430 to R443). -/

namespace Sys2Proof.Machine
set_option Elab.async false

/-! ### What a queue holds -/

/-- What a queue holds, without its credits, its marks and its idle time. -/
def Gather.contents (g : Gather) : Gather :=
  { g with free := 0, idle := 0, pushed := false, hiArmed := false, loArmed := false }

@[simp] theorem contents_held (g : Gather) : g.contents.held = g.held := rfl
@[simp] theorem contents_packing (g : Gather) : g.contents.packing = g.packing := rfl
@[simp] theorem contents_dropped (g : Gather) : g.contents.dropped = g.dropped := rfl
@[simp] theorem contents_firstDrop (g : Gather) : g.contents.firstDrop = g.firstDrop := rfl
@[simp] theorem contents_waiting (g : Gather) : g.contents.waiting = g.waiting := rfl

theorem queue_congr {s t : State} (q : Nat) (h : t.gq = s.gq) : queue q t = queue q s := by
  unfold queue
  rw [h]

theorem queue_begun (q : Nat) (s : State) : queue q (begun s) = queue q s := rfl

theorem get_begun (f : Fld) (s : State) : get f (begun s) = get f s := get_with_out f [] s

theorem queue_setQueue_same {q : Nat} {s : State} (f : Gather → Gather) (h : q < s.gq.length) :
    queue q (setQueue q f s) = f (queue q s) := getD_modify_same _ _ _ _ h

theorem queue_setQueue_other {q k : Nat} (f : Gather → Gather) (s : State) (h : k ≠ q) :
    queue k (setQueue q f s) = queue k s := getD_modify_other _ _ _ h.symm

theorem length_setQueue (q : Nat) (f : Gather → Gather) (s : State) : (setQueue q f s).gq.length = s.gq.length :=
  length_modify _ _ _

theorem contents_setQueue {q : Nat} (f : Gather → Gather) (s : State) (hf : ∀ g : Gather, (f g).contents = g.contents) :
    (queue q (setQueue q f s)).contents = (queue q s).contents := by
  by_cases h : q < s.gq.length
  · rw [queue_setQueue_same f h, hf]
  · have hm : ∀ (l : List Gather) (i : Nat), l.length ≤ i → modify l i f = l := by
      intro l
      induction l with
      | nil => intro i _; rfl
      | cons a t ih =>
        intro i hi
        cases i with
        | zero => simp at hi
        | succ i => simp [modify, ih i (by simpa using hi)]
    unfold queue setQueue
    rw [hm _ _ (by omega)]

/-- An operation keeps the number of queues and the contents of queue `q`. -/
def SameContents (q : Nat) (s t : State) : Prop :=
  t.gq.length = s.gq.length ∧ (queue q t).contents = (queue q s).contents

theorem SameContents.trans {q : Nat} {s t u : State} (h : SameContents q s t) (k : SameContents q t u) :
    SameContents q s u := ⟨k.1.trans h.1, k.2.trans h.2⟩

theorem SameContents.of_gq {q : Nat} {s t : State} (h : t.gq = s.gq) : SameContents q s t :=
  ⟨by rw [h], by rw [queue_congr q h]⟩

theorem when_gq (c : Bool) (f : State → State) (s : State) (hf : ∀ u, (f u).gq = u.gq) : (when c f s).gq = s.gq :=
  when_keeps (fun u => u.gq = s.gq) c f s rfl fun h => (hf _).trans h

theorem sameContents_queueMarks (q : Nat) (s : State) : SameContents q s (queueMarks q s) := by
  unfold queueMarks
  dsimp only
  refine .trans (.of_gq (t := when _ _ (when _ _ s)) ?_) ⟨length_setQueue q _ _, contents_setQueue _ _ fun _ => rfl⟩
  refine (when_gq _ _ _ ?_).trans (when_gq _ _ _ ?_) <;> exact fun _ => rfl

theorem sameContents_queueShow (q : Nat) (s : State) : SameContents q s (queueShow q s) := by
  unfold queueShow
  dsimp only
  refine .trans (.of_gq ?_) (sameContents_queueMarks q _)
  simp [live, put1]

theorem sameContents_queueCredits (q : Nat) (s : State) : SameContents q s (queueCredits q s) :=
  ⟨length_setQueue q _ _, contents_setQueue _ _ fun _ => rfl⟩

@[simp] theorem get_setQueue (f : Fld) (q : Nat) (g : Gather → Gather) (s : State) : get f (setQueue q g s) = get f s :=
  get_with_gq f _ s

@[simp] theorem get_queueCredits (f : Fld) (q : Nat) (s : State) : get f (queueCredits q s) = get f s :=
  get_setQueue f q _ s

/-! ### The registers of a queue -/

/-- The fields that show a queue (R435, R445). -/
def shownFields (q : Nat) : List Fld :=
  [Reg.GQ.HELD_WORDS q, Reg.GQ.CAPACITY_WORDS q, Reg.GQ.STS_PACK q, Reg.GQ.STS_TAIL_FULL q, Reg.GQ.WM_CROSSINGS_HI q,
    Reg.GQ.WM_CROSSINGS_LO q, Reg.EVT_LIVE (0xA0 + q), Reg.EVT_STS (0xA0 + q) 0, Reg.EVT_STS (0xA0 + q) 1]

section
variable {ps : List Part} {fs : List Fld} {s t : State} {q : Nat}

theorem Changes.queueMarks (h : Changes ps fs s t) (hg : .gq ∈ ps) (hf : ∀ f ∈ shownFields q, f ∈ fs) :
    Changes ps fs s (queueMarks q t) := by
  have m : ∀ f ∈ shownFields q, f.key ∈ fs.map Fld.key := fun f hm => List.mem_map_of_mem (hf f hm)
  unfold Machine.queueMarks
  dsimp only
  refine Changes.live (Changes.live (Changes.setQueue (Changes.cond (Changes.cond h _ _ fun u hu => ?_) _ _ fun u hu => ?_)
    hg _ _) _ _ _ ?_) _ _ _ ?_
  · exact (hu.event _ _ (m _ (by simp [shownFields]))).inc _ (m _ (by simp [shownFields]))
  · exact (hu.event _ _ (m _ (by simp [shownFields]))).inc _ (m _ (by simp [shownFields]))
  · exact m _ (by simp [shownFields])
  · exact m _ (by simp [shownFields])

theorem Changes.queueShow (h : Changes ps fs s t) (hg : .gq ∈ ps) (hf : ∀ f ∈ shownFields q, f ∈ fs) :
    Changes ps fs s (queueShow q t) := by
  have m : ∀ f ∈ shownFields q, f.key ∈ fs.map Fld.key := fun f hm => List.mem_map_of_mem (hf f hm)
  unfold Machine.queueShow
  refine Changes.queueMarks ?_ hg hf
  refine Changes.live (Changes.live (Changes.put1 (Changes.set (Changes.set (Changes.set h _ _ ?_) _ _ ?_) _ _ ?_) _ _ ?_)
    _ _ _ ?_) _ _ _ ?_
  all_goals exact m _ (by simp [shownFields])

theorem Changes.queueCredits (h : Changes ps fs s t) (hg : .gq ∈ ps) : Changes ps fs s (queueCredits q t) :=
  h.setQueue hg _ _

end

/-- A field that shows no queue's state is left by the display of queue `q`. -/
theorem get_queueShow {f : Fld} {q : Nat} (s : State) (hf : f.key ∉ (shownFields q).map Fld.key)
    (hs : f.key ∉ settleKeys) : get f (queueShow q s) = get f s :=
  ((Changes.refl [.gq] (shownFields q) s).queueShow (by simp) fun _ h => h).regs f hf hs

/-- The fields of a queue's positions and of its last operation are not kept up to date by any display. -/
theorem seqFields_free : ∀ q : Fin 4, ∀ f ∈ [Reg.GQ.RD_SEQ q, Reg.GQ.MARK_SEQ q, Reg.GQ.RELEASED_SEQ q,
    Reg.GQ.STS_LAST_OP_EMPTY q], f.key ∉ (shownFields q).map Fld.key ∧ f.key ∉ settleKeys := by decide

theorem get_seq_settled {q : Fin 4} {f : Fld} {s t : State} (k : Keeps settleKeys s t)
    (hf : f ∈ [Reg.GQ.RD_SEQ q, Reg.GQ.MARK_SEQ q, Reg.GQ.RELEASED_SEQ q, Reg.GQ.STS_LAST_OP_EMPTY q]) :
    get f t = get f s := k.get f (seqFields_free q f hf).2

theorem get_seq_queueShow {q : Fin 4} {f : Fld} (s : State)
    (hf : f ∈ [Reg.GQ.RD_SEQ q, Reg.GQ.MARK_SEQ q, Reg.GQ.RELEASED_SEQ q, Reg.GQ.STS_LAST_OP_EMPTY q]) :
    get f (queueShow q s) = get f s := get_queueShow s (seqFields_free q f hf).1 (seqFields_free q f hf).2

/-- The number of completed words does not change with what a queue shows. -/
theorem queueDepth_begun (q : Nat) (s : State) : queueDepth q (begun s) = queueDepth q s := rfl

/-! ### The consumer's operations (R436) -/

section
variable {s : State} {w : Writer} {q : Fin 4}

theorem completes_read_empty (hs : Ready s) (hw : Reaches w (opAddr q) 1 s) (hd : queueDepth q s = 0) :
    Completes (.read w q) s fun t =>
      get (Reg.GQ.STS_LAST_OP_EMPTY q) t = 1 ∧ Changes [] [Reg.GQ.STS_LAST_OP_EMPTY q] s t := by
  have hd' : ¬ 1 ≤ queueDepth q (begun s) := by rw [queueDepth_begun]; omega
  refine .leavesReached hs hw (Eq.refl (run _ s)) (if_neg hd') hs.2 fun t k => ⟨?_, ?_⟩
  · rw [get_seq_settled k (q := q) (by simp), get_set_same]
    rfl
  · exact ((Changes.begin _ _ s).set _ _ (by simp)).ended k

theorem completes_read (hs : Ready s) (hw : Reaches w (opAddr q) 1 s) (hd : 1 ≤ queueDepth q s) :
    Completes (.read w q) s fun t =>
      get (Reg.GQ.RD_SEQ q) t = (get (Reg.GQ.RD_SEQ q) s + 1) % 2 ^ 32 ∧ get (Reg.GQ.STS_LAST_OP_EMPTY q) t = 0 ∧
      Changes [.gq] (Reg.GQ.RD_SEQ q :: Reg.GQ.STS_LAST_OP_EMPTY q :: shownFields q) s t := by
  have hkey : ∀ q : Fin 4, (Reg.GQ.RD_SEQ q).key ≠ (Reg.GQ.STS_LAST_OP_EMPTY q).key := by decide
  have hc : Changes [.gq] (Reg.GQ.RD_SEQ q :: Reg.GQ.STS_LAST_OP_EMPTY q :: shownFields q) s _ :=
    ((((Changes.begin _ _ s).set (Reg.GQ.RD_SEQ q) (get (Reg.GQ.RD_SEQ q) (begun s) + 1) (by simp)).set
      (Reg.GQ.STS_LAST_OP_EMPTY q) 0 (by simp)).queueShow (q := q) (by simp) (fun f hf => by simp [hf]))
  refine .leavesReached hs hw (Eq.refl (run _ s)) (if_pos hd) (hc.reqs.trans hs.2) fun t k => ⟨?_, ?_, hc.ended k⟩
  · rw [get_seq_settled k (q := q) (by simp), get_seq_queueShow _ (by simp), get_set_other _ _ (hkey q), get_set_same]
    rfl
  · rw [get_seq_settled k (q := q) (by simp), get_seq_queueShow _ (by simp), get_set_same]
    rfl

theorem completes_mark (hs : Ready s) (hw : Reaches w (opAddr q) 2 s) :
    Completes (.mark w q) s fun t =>
      get (Reg.GQ.MARK_SEQ q) t = get (Reg.GQ.RD_SEQ q) s % 2 ^ 32 ∧ Changes [] [Reg.GQ.MARK_SEQ q] s t := by
  refine .leavesReached hs hw (Eq.refl (run _ s)) (Eq.refl (opMark q _)) hs.2 fun t k => ⟨?_, ?_⟩
  · rw [get_seq_settled k (q := q) (by simp)]
    exact get_set_same _ _ _
  · exact ((Changes.begin _ _ s).set _ _ (by simp)).ended k

theorem completes_rewind (hs : Ready s) (hw : Reaches w (opAddr q) 4 s) :
    Completes (.rewind w q) s fun t =>
      get (Reg.GQ.RD_SEQ q) t = get (Reg.GQ.MARK_SEQ q) s % 2 ^ 32 ∧
      Changes [.gq] (Reg.GQ.RD_SEQ q :: shownFields q) s t := by
  have hc : Changes [.gq] (Reg.GQ.RD_SEQ q :: shownFields q) s (opRewind q (begun s)) :=
    ((Changes.begin _ _ s).set _ _ (by simp)).queueShow (by simp) (fun f hf => by simp [hf])
  refine .leavesReached hs hw (Eq.refl (run _ s)) (Eq.refl (opRewind q _)) (hc.reqs.trans hs.2) fun t k =>
    ⟨?_, hc.ended k⟩
  rw [get_seq_settled k (q := q) (by simp)]
  unfold opRewind
  rw [get_seq_queueShow _ (by simp), get_set_same]
  rfl

/-- The words that RELEASE frees: those before RD. -/
def freedWords (q : Nat) (s : State) : Nat :=
  (get (Reg.GQ.RD_SEQ q) s + 2 ^ 32 - get (Reg.GQ.RELEASED_SEQ q) s) % 2 ^ 32

/-- What RELEASE leaves where no producer waits (R436). -/
def released (q : Nat) (s : State) : State :=
  s |> setQueue q (fun g => { g with held := g.held.drop (freedWords q s) })
    |> set (Reg.GQ.RELEASED_SEQ q) (get (Reg.GQ.RD_SEQ q) s)
    |> set (Reg.GQ.MARK_SEQ q) (get (Reg.GQ.RD_SEQ q) s)

theorem queue_released (hq : q.val < s.gq.length) :
    queue q (released q s) = { queue q s with held := (queue q s).held.drop (freedWords q s) } := by
  unfold released
  rw [queue_congr q (set_gq _ _ _), queue_congr q (set_gq _ _ _), queue_setQueue_same _ hq]

/-- The words of queue `q` before RD are gone, and the rest of what it holds stays. -/
theorem contents_released (hq : q.val < s.gq.length) :
    (queue q (queueShow q (queueCredits q (released q s)))).contents =
      { (queue q s).contents with held := (queue q s).held.drop (freedWords q s) } := by
  rw [((sameContents_queueCredits q _).trans (sameContents_queueShow q _)).2, queue_released hq]
  rfl

theorem freedWords_begun : freedWords q (begun s) =
    (get (Reg.GQ.RD_SEQ q) s + 2 ^ 32 - get (Reg.GQ.RELEASED_SEQ q) s) % 2 ^ 32 := by
  unfold freedWords
  rw [get_begun, get_begun]

theorem held_released (hq : q.val < s.gq.length) :
    (queue q (queueShow q (queueCredits q (released q (begun s))))).held = (queue q s).held.drop
      ((get (Reg.GQ.RD_SEQ q) s + 2 ^ 32 - get (Reg.GQ.RELEASED_SEQ q) s) % 2 ^ 32) := by
  rw [← contents_held, contents_released (s := begun s) hq, freedWords_begun]
  rw [queue_begun]

theorem packing_released (hq : q.val < s.gq.length) :
    (queue q (queueShow q (queueCredits q (released q (begun s))))).packing = (queue q s).packing := by
  rw [← contents_packing, contents_released (s := begun s) hq, queue_begun]
  rfl

theorem opRelease_eq (q : Nat) (s : State) :
    opRelease q s = queueShow q (when (decide (q = 2)) serveWaiting (queueCredits q (released q s))) := by
  unfold opRelease released freedWords
  rfl

theorem serveWaiting_none {u : State} (h : (queue 2 u).waiting = []) : serveWaiting u = u := by
  unfold serveWaiting
  rw [h, forEach_nil]

theorem waiting_released (hq : q.val < s.gq.length) :
    (queue q (queueCredits q (released q s))).waiting = (queue q s).waiting := by
  rw [← contents_waiting, (sameContents_queueCredits q _).2, contents_waiting, queue_released hq]

theorem opRelease_idle (h : q.val ≠ 2 ∨ (queue 2 s).waiting = []) (hq : q.val < s.gq.length) :
    opRelease q s = queueShow q (queueCredits q (released q s)) := by
  rw [opRelease_eq]
  by_cases h2 : q.val = 2
  · have hw : (queue 2 (queueCredits q (released q s))).waiting = [] := by
      rw [← h2, waiting_released hq, h2]
      exact h.resolve_left (absurd h2)
    rw [decide_eq_true h2, when_true, serveWaiting_none hw]
  · rw [decide_eq_false h2, when_false]

theorem changes_released : Changes [.gq] (Reg.GQ.RELEASED_SEQ q :: Reg.GQ.MARK_SEQ q :: shownFields q) s
    (queueShow q (queueCredits q (released q s))) := by
  refine Changes.queueShow (Changes.queueCredits ?_ (by simp)) (by simp) (fun f hf => by simp [hf])
  exact (((Changes.refl _ _ s).setQueue (by simp) _ _).set _ _ (by simp)).set _ _ (by simp)

theorem get_released :
    get (Reg.GQ.RELEASED_SEQ q) (released q s) = get (Reg.GQ.RD_SEQ q) s % 2 ^ 32 ∧
    get (Reg.GQ.MARK_SEQ q) (released q s) = get (Reg.GQ.RD_SEQ q) s % 2 ^ 32 := by
  have hkey : ∀ q : Fin 4, (Reg.GQ.RELEASED_SEQ q).key ≠ (Reg.GQ.MARK_SEQ q).key := by decide
  unfold released
  refine ⟨?_, ?_⟩
  · rw [get_set_other _ _ (hkey q), get_set_same]
    rfl
  · rw [get_set_same]
    rfl

/-- RELEASE where no producer waits: the positions, and the words that stay; GQ2 may take the record of a change behind
them (R441). -/
theorem completes_release (hs : Ready s) (hq : q.val < s.gq.length) (hw : Reaches w (opAddr q) 8 s)
    (hi : q.val ≠ 2 ∨ (queue 2 s).waiting = []) :
    Completes (.release w q) s fun t =>
      get (Reg.GQ.RELEASED_SEQ q) t = get (Reg.GQ.RD_SEQ q) s % 2 ^ 32 ∧
      get (Reg.GQ.MARK_SEQ q) t = get (Reg.GQ.RD_SEQ q) s % 2 ^ 32 ∧
      Keeps settleKeys (queueShow q (queueCredits q (released q (begun s)))) t := by
  refine .leavesReached hs hw (Eq.refl (run _ s)) (opRelease_idle (s := begun s) hi hq) (changes_released.reqs.trans hs.2)
    fun t k => ⟨?_, ?_, k⟩
  · rw [get_seq_settled k (q := q) (by simp), get_seq_queueShow _ (by simp), get_queueCredits]
    exact (get_released (s := begun s)).1
  · rw [get_seq_settled k (q := q) (by simp), get_seq_queueShow _ (by simp), get_queueCredits]
    exact (get_released (s := begun s)).2

/-! ### Packing (R433) -/

/-- What a queue holds when its packing word has left for the tail. -/
theorem contents_emitWide (hq : q.val < s.gq.length) (ws : List (BitVec 16)) (pad : Bool) :
    (queue q (emitWide q ws pad s)).contents =
      { (queue q s).contents with held := (queue q s).held ++ [{ words := ws, pad := pad }] } := by
  unfold emitWide
  dsimp only
  rw [queue_congr q (when_gq _ (event (0xA0 + q) 5) _ fun _ => rfl), queue_congr q (set_gq _ _ _),
    queue_setQueue_same _ hq]
  rfl

theorem get_emitWide_seq (ws : List (BitVec 16)) (pad : Bool) :
    get (Reg.GQ.WR_SEQ q) (emitWide q ws pad s) = (get (Reg.GQ.WR_SEQ q) s + 1) % 2 ^ 32 := by
  have hkey : ∀ q : Fin 4, (Reg.GQ.WR_SEQ q).key ≠ (Reg.EVT_STS (0xA0 + q.val) 5).key := by decide
  unfold emitWide
  refine when_keeps (fun u => get (Reg.GQ.WR_SEQ q) u = (get (Reg.GQ.WR_SEQ q) s + 1) % 2 ^ 32) _ _ _ ?_ fun h => ?_
  · exact get_set_same _ _ _
  · exact (get_set_other _ _ (hkey q)).trans h

/-- What FLUSH leaves of a packing word (R433): a padded wide word in the tail. -/
def flushed (q : Nat) (s : State) : State :=
  emitWide q (queue q s).packing true (setQueue q (fun g => { g with packing := [], idle := 0 }) s)

theorem flushPacking_eq (h : (queue q s).packing ≠ []) :
    flushPacking q s = queueShow q (queueCredits q (flushed q s)) := by
  unfold flushPacking flushed
  rw [if_neg (by simpa using h)]

theorem flushPacking_empty (h : (queue q s).packing = []) : flushPacking q s = s := by
  unfold flushPacking
  rw [if_pos (by simpa using h)]

theorem contents_flushed (hq : q.val < s.gq.length) :
    (queue q (queueShow q (queueCredits q (flushed q s)))).contents =
      { (queue q s).contents with
        packing := [], held := (queue q s).held ++ [{ words := (queue q s).packing, pad := true }] } := by
  rw [((sameContents_queueCredits q _).trans (sameContents_queueShow q _)).2]
  unfold flushed
  rw [contents_emitWide (by rwa [length_setQueue]), queue_setQueue_same _ hq]
  rfl

theorem held_flushed (hq : q.val < s.gq.length) :
    (queue q (queueShow q (queueCredits q (flushed q (begun s))))).held =
      (queue q s).held ++ [{ words := (queue q s).packing, pad := true }] := by
  rw [← contents_held, contents_flushed (s := begun s) hq, queue_begun]

theorem packing_flushed (hq : q.val < s.gq.length) :
    (queue q (queueShow q (queueCredits q (flushed q (begun s))))).packing = [] := by
  rw [← contents_packing, contents_flushed (s := begun s) hq]

theorem changes_emitWide (ws : List (BitVec 16)) (pad : Bool) :
    Changes [.gq] [Reg.GQ.WR_SEQ q, Reg.EVT_STS (0xA0 + q.val) 5] s (emitWide q ws pad s) := by
  unfold emitWide
  exact (((Changes.refl _ _ s).setQueue (by simp) _ _).set _ _ (by simp)).cond _ _ fun u hu => hu.event _ _ (by simp)

theorem changes_flushed :
    Changes [.gq] (Reg.GQ.WR_SEQ q :: Reg.EVT_STS (0xA0 + q.val) 5 :: shownFields q) s
      (queueShow q (queueCredits q (flushed q s))) := by
  refine Changes.queueShow (Changes.queueCredits ?_ (by simp)) (by simp) (fun f hf => by simp [hf])
  have h : Changes [.gq] [Reg.GQ.WR_SEQ q, Reg.EVT_STS (0xA0 + q.val) 5] s (flushed q s) :=
    ((Changes.refl _ _ s).setQueue (by simp) _ _).trans (changes_emitWide _ _)
  exact h.mono (fun _ hp => hp) (List.Sublist.subset (((List.nil_sublist _).cons_cons _).cons_cons _))

theorem get_wrSeq_queueShow (hq : q.val ≠ 2) (u : State) :
    get (Reg.GQ.WR_SEQ q) (queueShow q u) = get (Reg.GQ.WR_SEQ q) u := by
  have hkey : ∀ q : Fin 4, (Reg.GQ.WR_SEQ q).key ∉ (shownFields q).map Fld.key := by decide
  have hset : ∀ q : Fin 4, q.val ≠ 2 → (Reg.GQ.WR_SEQ q).key ∉ settleKeys := by decide
  exact get_queueShow u (hkey q) (hset q hq)

/-- `STS.PACK` shows the packing word (R445). -/
theorem get_pack_queueMarks (u : State) : get (Reg.GQ.STS_PACK q) (queueMarks q u) = get (Reg.GQ.STS_PACK q) u := by
  have hkey : ∀ q : Fin 4, ∀ f ∈ [Reg.GQ.WM_CROSSINGS_HI q, Reg.GQ.WM_CROSSINGS_LO q, Reg.EVT_LIVE (0xA0 + q),
    Reg.EVT_STS (0xA0 + q) 0, Reg.EVT_STS (0xA0 + q) 1], (Reg.GQ.STS_PACK q).key ≠ f.key := by decide
  have hk := hkey q
  have hup : ∀ (f g : Fld) (c : Bool) (v : State), (Reg.GQ.STS_PACK q).key ≠ f.key → (Reg.GQ.STS_PACK q).key ≠ g.key →
      get (Reg.GQ.STS_PACK q) (when c (fun s => inc f (set g 1 s)) v) = get (Reg.GQ.STS_PACK q) v := fun f g c v hf hg =>
    when_keeps (fun w => get _ w = get _ v) _ _ _ rfl fun h => by rw [get_inc_other _ hf, get_set_other _ _ hg, h]
  unfold queueMarks live
  dsimp only
  rw [get_set_other _ _ (hk _ (by simp)), get_set_other _ _ (hk _ (by simp)), get_setQueue]
  exact (hup (Reg.GQ.WM_CROSSINGS_LO q) (Reg.EVT_STS (0xA0 + q) 1) _ _ (hk _ (by simp)) (hk _ (by simp))).trans
    (hup (Reg.GQ.WM_CROSSINGS_HI q) (Reg.EVT_STS (0xA0 + q) 0) _ _ (hk _ (by simp)) (hk _ (by simp)))

theorem get_pack_queueShow (u : State) (h : (queue q u).packing.length < 32) :
    get (Reg.GQ.STS_PACK q) (queueShow q u) = (queue q u).packing.length := by
  have hkey : ∀ q : Fin 4, ∀ f ∈ [Reg.GQ.STS_TAIL_FULL q, Reg.EVT_LIVE (0xA0 + q)], (Reg.GQ.STS_PACK q).key ≠ f.key := by
    decide
  have hk := hkey q
  have hw : (Reg.GQ.STS_PACK q).w = 6 := rfl
  unfold queueShow live put1
  dsimp only
  rw [get_pack_queueMarks, get_set_other _ _ (hk _ (by simp)), get_set_other _ _ (hk _ (by simp)),
    get_set_other _ _ (hk _ (by simp)), get_set_same, hw, Nat.mod_eq_of_lt (by omega)]

/-- FLUSH of a packing word: what stands then, but for what GQ2 takes of the record of a change (R441). -/
theorem completes_flush {P : State → Prop} (hs : Ready s) (hw : Reaches w (opAddr q) 16 s)
    (hp : (queue q s).packing ≠ [])
    (h : ∀ t, Keeps settleKeys (queueShow q (queueCredits q (flushed q (begun s)))) t → P t) : Completes (.flush w q) s P :=
  .leavesReached hs hw (Eq.refl (run _ s)) (flushPacking_eq (s := begun s) hp) (changes_flushed.reqs.trans hs.2) h

end

/-- Settles O53: each operation moves its positions, and a queue's words stay as R436 says. -/
theorem gatherOperations : Obligations.GatherOperations := by
  unfold Obligations.GatherOperations
  intro s hs hl w q a shown
  have hq : q.val < s.gq.length := by
    rw [hl]
    exact q.isLt
  have hlate : ∀ q : Fin 4, q.val ≠ 2 → (Reg.GQ.WR_SEQ q).key ∉ settleKeys ∧ (Reg.GQ.STS_PACK q).key ∉ settleKeys := by
    decide
  refine ⟨fun hw => ⟨completes_read_empty hs hw, completes_read hs hw⟩, completes_mark hs, completes_rewind hs,
    fun hw h2 => ?_, fun hw h2 hn => ?_, fun hw => ⟨fun hp => ?_, fun hp h2 => ?_, fun hp h2 => ?_⟩⟩
  · refine (completes_release hs hq hw (.inl h2)).mono fun t ⟨h1, hm, k⟩ => ⟨h1, hm, ?_, ?_, ?_⟩
    · rw [k.queue q h2, held_released hq]
    · rw [k.queue q h2, packing_released hq]
    · exact ((Changes.begin _ _ s).trans changes_released).ended k
  · refine (completes_release hs hq hw (.inr hn)).mono fun t ⟨h1, hm, k⟩ => ⟨h1, hm, ?_⟩
    rw [← held_released hq, h2]
    rw [h2] at k
    exact k.held
  · exact .leavesReached hs hw (Eq.refl (run _ s)) (flushPacking_empty (s := begun s) hp) hs.2 fun t k =>
      (Changes.begin _ _ s).ended k
  · refine completes_flush hs hw hp fun t k => ⟨?_, ?_, ?_, ?_, ?_⟩
    · rw [k.queue q h2, packing_flushed hq]
    · rw [k.queue q h2, held_flushed hq]
    · rw [k.get _ (hlate q h2).1, get_wrSeq_queueShow h2, get_queueCredits]
      exact get_emitWide_seq _ _
    · have hpack : (queue q (queueCredits q (flushed q (begun s)))).packing = [] := by
        rw [← contents_packing, ← (sameContents_queueShow q _).2, contents_packing, packing_flushed hq]
      rw [k.get _ (hlate q h2).2, get_pack_queueShow _ (by rw [hpack]; decide), hpack]
      rfl
    · exact ((Changes.begin _ _ s).trans changes_flushed).ended k
  · refine completes_flush hs hw hp fun t k => ?_
    rw [← held_flushed hq, h2]
    rw [h2] at k
    exact k.held

end Sys2Proof.Machine
end

section
/-! SUPPORT. Pushes into the Gather queues (R430 to R433), and what the record of a change does to GQ2 at the end of a
command (R441). -/

namespace Sys2Proof.Machine
set_option Elab.async false

/-! ### Words pushed -/

/-- The narrow words that a queue holds, those in packing last. -/
def Gather.words (g : Gather) : List (BitVec 16) := g.held.flatMap (·.words) ++ g.packing

/-- From `s` to `t` queue `q` takes the words `ws`; its drops and its waiting producers stay. -/
structure Appended (q : Nat) (ws : List (BitVec 16)) (s t : State) : Prop where
  length : t.gq.length = s.gq.length
  words : (queue q t).words = (queue q s).words ++ ws
  packed : (queue q s).packing.length < 32 → (queue q t).packing.length < 32
  dropped : (queue q t).dropped = (queue q s).dropped
  waiting : (queue q t).waiting = (queue q s).waiting

section
variable {q : Nat} {ws : List (BitVec 16)} {s t u : State}

theorem Appended.trans {vs : List (BitVec 16)} (h : Appended q ws s t) (k : Appended q vs t u) :
    Appended q (ws ++ vs) s u where
  length := k.length.trans h.length
  words := by rw [k.words, h.words, List.append_assoc]
  packed hp := k.packed (h.packed hp)
  dropped := k.dropped.trans h.dropped
  waiting := k.waiting.trans h.waiting

theorem Appended.of_contents (h : SameContents q s t) : Appended q [] s t where
  length := h.1
  words := by
    rw [List.append_nil]
    unfold Gather.words
    rw [← contents_held, ← contents_packing, h.2]
    rfl
  packed hp := by rwa [← contents_packing, h.2]
  dropped := by rw [← contents_dropped, h.2, contents_dropped]
  waiting := by rw [← contents_waiting, h.2, contents_waiting]

theorem emitWide_gq (vs : List (BitVec 16)) (pad : Bool) : (emitWide q vs pad s).gq =
    (setQueue q (fun g => { g with held := g.held ++ [{ words := vs, pad := pad }] }) s).gq := by
  simp only [emitWide]
  rw [when_gq _ (event (0xA0 + q) 5) _ fun _ => event_gq _ _ _, set_gq]

theorem emitWide_queue (hq : q < s.gq.length) (vs : List (BitVec 16)) (pad : Bool) :
    queue q (emitWide q vs pad s) = { queue q s with held := (queue q s).held ++ [{ words := vs, pad := pad }] } := by
  rw [queue_congr q (emitWide_gq vs pad), queue_setQueue_same _ hq]

theorem length_emitWide (vs : List (BitVec 16)) (pad : Bool) : (emitWide q vs pad s).gq.length = s.gq.length := by
  rw [emitWide_gq, length_setQueue]

/-- A word joins the packing word, and the 32nd completes a wide word (R433). -/
theorem appended_pushWord (hq : q < s.gq.length) (v : BitVec 16) : Appended q [v] s (pushWord q v s) := by
  unfold pushWord
  dsimp only
  split
  · have hq' : q < (setQueue q (fun g => { g with packing := [] }) s).gq.length := by rwa [length_setQueue]
    refine ⟨?_, ?_, ?_, ?_, ?_⟩
    · rw [length_emitWide, length_setQueue]
    all_goals rw [emitWide_queue hq', queue_setQueue_same _ hq]
    · simp [Gather.words]
    · simp
  · next h =>
    refine ⟨length_setQueue _ _ _, ?_, ?_, ?_, ?_⟩
    all_goals rw [queue_setQueue_same _ hq]
    · simp [Gather.words]
    · intro hp
      simp only [List.length_append, List.length_singleton] at h ⊢
      omega

theorem appended_words (hq : q < s.gq.length) (ws : List (BitVec 16)) : Appended q ws s (forEach ws (pushWord q) s) := by
  induction ws generalizing s with
  | nil => exact .of_contents ⟨rfl, rfl⟩
  | cons v vs ih =>
    rw [forEach_cons]
    have h := appended_pushWord hq v
    exact h.trans (ih (by rwa [h.length]))

/-- Whole words pushed (R430, R433). -/
theorem appended_pushWords (hq : q < s.gq.length) (ws : List (BitVec 16)) : Appended q ws s (pushWords q ws s) := by
  unfold pushWords
  have h0 : SameContents q s (setQueue q (fun g => { g with free := g.free - ws.length, pushed := true, idle := 0 }) s) :=
    ⟨length_setQueue _ _ _, contents_setQueue _ _ fun _ => rfl⟩
  have h1 := (Appended.of_contents h0).trans (appended_words (by rwa [length_setQueue]) ws)
  have h2 := h1.trans (.of_contents ((sameContents_queueCredits q _).trans (sameContents_queueShow q _)))
  simpa using h2

end

/-! ### What the end of a command does to GQ2 (R432, R441) -/

/-- The event of a producer that waits. -/
abbrev waitsEvent : Fld := Reg.EVT_STS 0xA2 3

/-- GQ2 may have taken the record of a change: its words and its waiting producers stand before it. -/
structure Grows (s t : State) : Prop where
  length : t.gq.length = s.gq.length
  words : (queue 2 s).words <+: (queue 2 t).words
  packed : (queue 2 s).packing.length < 32 → (queue 2 t).packing.length < 32
  waiting : (queue 2 s).waiting <+: (queue 2 t).waiting
  event : get waitsEvent s = 1 → get waitsEvent t = 1

namespace Grows

variable {s t u : State}

theorem refl (s : State) : Grows s s where
  length := rfl
  words := List.prefix_refl _
  packed h := h
  waiting := List.prefix_refl _
  event h := h

theorem trans (h : Grows s t) (k : Grows t u) : Grows s u where
  length := k.length.trans h.length
  words := h.words.trans k.words
  packed hp := k.packed (h.packed hp)
  waiting := h.waiting.trans k.waiting
  event he := k.event (h.event he)

theorem same (hg : t.gq = s.gq) (he : get waitsEvent s = 1 → get waitsEvent t = 1) : Grows s t where
  length := by rw [hg]
  words := by rw [queue_congr 2 hg]
  packed h := by rwa [queue_congr 2 hg]
  waiting := by rw [queue_congr 2 hg]
  event := he

theorem set (h : Grows s t) (f : Fld) (v : Nat) (hf : waitsEvent.key ≠ f.key) : Grows s (Machine.set f v t) :=
  h.trans (same rfl fun he => (get_set_other _ _ hf).trans he)

theorem inc (h : Grows s t) (f : Fld) (hf : waitsEvent.key ≠ f.key) : Grows s (Machine.inc f t) := h.set f _ hf

theorem latch (h : Grows s t) (p k : Nat) (hf : waitsEvent.key ≠ (Reg.EVT_STS p k).key) : Grows s (Machine.event p k t) :=
  h.set _ _ hf

theorem rest (h : Grows s t) (hg : u.gq = t.gq) (hr : u.regs = t.regs) : Grows s u :=
  h.trans (same hg fun he => (get_congr _ hr).trans he)

theorem cond (h : Grows s t) (c : Bool) (f : State → State) (hf : ∀ v, Grows s v → Grows s (f v)) :
    Grows s (when c f t) := when_keeps (Grows s) c f t h (hf t)

theorem each {α : Type} (h : Grows s t) (l : List α) (f : α → State → State)
    (hf : ∀ a v, Grows s v → Grows s (f a v)) : Grows s (forEach l f t) :=
  forEach_keeps (Grows s) l f t h fun a _ v hv => hf a v hv

end Grows

theorem grows_domainOkShow (s : State) : Grows s (domainOkShow s) := by
  simp only [domainOkShow]
  split
  · exact .refl s
  · exact ((Grows.refl s).set Reg.SYS.PERSIST_DOMAIN_OK _ (by decide)).set Reg.DOM.STS_DOMAIN_OK _ (by decide)

theorem grows_marksShow (s : State) : Grows s (marksShow s) := by
  have hthrottle : ∀ (b : Bool) (n : Nat) (u : State), Grows s u → Grows s (throttleShow b n u) := by
    intro b n u hu
    simp only [throttleShow]
    split
    · exact hu
    · exact Grows.cond (hu.set Reg.LEH.THROTTLE_ACTIVE _ (by decide)) _ _ fun v hv => hv.latch _ _ (by decide)
  simp only [marksShow]
  split
  · exact .refl s
  refine Grows.set (Grows.set (hthrottle _ _ _ ?_) Reg.LEH.THROTTLE_WITHHELD _ (by decide)) (Reg.EVT_LIVE 0x41) _ (by decide)
  have hdirty := (Grows.refl s).set Reg.LEH.DIRTY_EFF_GRAN (dirtyEff s) (by decide)
  split
  · exact hdirty.rest rfl rfl
  · refine Grows.cond (.cond (.cond (.cond ?_ _ _ ?_) _ _ ?_) _ _ ?_) _ _ ?_
    · exact hdirty.rest rfl rfl
    · exact fun v hv => (hv.latch 0x41 0 (by decide)).inc Reg.LEH.WM_CROSSINGS_LO (by decide)
    · exact fun v hv => (hv.latch 0x41 1 (by decide)).inc Reg.LEH.WM_CROSSINGS_HI (by decide)
    · exact fun v hv => hv.latch 0x41 2 (by decide)
    · exact fun v hv => hv.latch 0x41 4 (by decide)

theorem grows_creditsShow (s : State) : Grows s (creditsShow s) := by
  simp only [creditsShow]
  split
  · exact .refl s
  · exact (Grows.refl s).rest rfl rfl

theorem grows_interrupts (before s : State) : Grows s (interrupts before s) := by
  have hsend : ∀ (v : Nat) (u : State), Grows s u → Grows s (sendVector v u) := by
    intro v u hu
    simp only [sendVector]
    split
    · split
      · exact hu
      · exact hu.rest rfl rfl
    · refine Grows.inc ?_ Reg.IRQ.SENT_COUNT (by decide)
      exact hu.rest rfl rfl
  have hdue : ∀ (v : Nat) (u : State), Grows s u → Grows s (dueVector v u) := by
    intro v u hu
    simp only [dueVector]
    split
    · refine Grows.inc ?_ Reg.IRQ.MERGED_COUNT (by decide)
      exact hu.rest rfl rfl
    · exact (hsend _ _ hu).cond _ _ fun w hw => hw.rest rfl rfl
  exact (Grows.refl s).each _ _ fun a u hu => (hu.cond _ _ fun w hw => hdue _ _ hw).cond _ _ fun w hw => hw.rest rfl rfl

/-! #### The record of a change -/

/-- From `s` to `t` the event of a waiting producer stays as it is. -/
def WaitsKept (s t : State) : Prop := get waitsEvent t = get waitsEvent s

namespace WaitsKept

variable {s t : State}

theorem set (h : WaitsKept s t) (f : Fld) (v : Nat) (hf : waitsEvent.key ≠ f.key) : WaitsKept s (Machine.set f v t) :=
  (get_set_other v t hf).trans h

theorem setQueue (h : WaitsKept s t) (q : Nat) (f : Gather → Gather) : WaitsKept s (Machine.setQueue q f t) :=
  (get_setQueue _ _ _ _).trans h

theorem cond (h : WaitsKept s t) (c : Bool) (f : State → State) (hf : ∀ v, WaitsKept s v → WaitsKept s (f v)) :
    WaitsKept s (when c f t) := when_keeps (WaitsKept s) c f t h (hf t)

theorem queueShow (h : WaitsKept s t) : WaitsKept s (queueShow 2 t) := by
  simp only [Machine.queueShow, queueMarks, live, put1]
  refine set (set (setQueue (cond (cond (set (set (set (set (set (set h (Reg.GQ.HELD_WORDS 2) _ (by decide))
    (Reg.GQ.CAPACITY_WORDS 2) _ (by decide)) (Reg.GQ.STS_PACK 2) _ (by decide)) (Reg.GQ.STS_TAIL_FULL 2) _ (by decide))
    (Reg.EVT_LIVE 0xA2) _ (by decide)) (Reg.EVT_LIVE 0xA2) _ (by decide)) _ _ fun v hv => ?_) _ _ fun v hv => ?_) _ _)
    (Reg.EVT_LIVE 0xA2) _ (by decide)) (Reg.EVT_LIVE 0xA2) _ (by decide)
  · exact (hv.set (Reg.EVT_STS 0xA2 0) _ (by decide)).set (Reg.GQ.WM_CROSSINGS_HI 2) _ (by decide)
  · exact (hv.set (Reg.EVT_STS 0xA2 1) _ (by decide)).set (Reg.GQ.WM_CROSSINGS_LO 2) _ (by decide)

theorem pushWord (h : WaitsKept s t) (v : BitVec 16) : WaitsKept s (pushWord 2 v t) := by
  simp only [Machine.pushWord, emitWide]
  split
  · exact cond (set ((h.setQueue _ _).setQueue _ _) (Reg.GQ.WR_SEQ 2) _ (by decide)) _ _ fun v hv =>
      hv.set (Reg.EVT_STS 0xA2 5) _ (by decide)
  · exact h.setQueue _ _

theorem pushWords (ws : List (BitVec 16)) (s : State) : WaitsKept s (pushWords 2 ws s) := by
  unfold Machine.pushWords queueCredits
  exact queueShow (setQueue (forEach_keeps (WaitsKept s) _ _ _ (setQueue rfl _ _) fun v _ u hu => hu.pushWord v) _ _)

end WaitsKept

/-- A record pushed into GQ2 stands behind what is there, in words or with its producer (R432). -/
theorem grows_pushRecord {s : State} (hq : 2 < s.gq.length) (r : List (BitVec 16)) : Grows s (pushRecord 2 r s) := by
  simp only [pushRecord, if_pos]
  split
  · exact .refl s
  split
  · have h := appended_pushWords hq r
    exact ⟨h.length, by rw [h.words]; exact List.prefix_append _ _, h.packed, by rw [h.waiting],
      fun he => (WaitsKept.pushWords r s).trans he⟩
  · have hpush : Grows s (setQueue 2 (fun g => { g with waiting := g.waiting ++ [r] }) s) := by
      refine ⟨length_setQueue _ _ _, ?_, ?_, ?_, fun he => (get_setQueue _ _ _ _).trans he⟩
      all_goals rw [queue_setQueue_same _ hq]
      · exact List.prefix_refl _
      · exact id
      · exact List.prefix_append _ _
    refine hpush.trans (Grows.set ?_ (Reg.EVT_LIVE 0xA2) _ (by decide))
    exact .same rfl fun _ => get_set_same _ _ _

theorem grows_persistShow {s : State} (hq : 2 < s.gq.length) : Grows s (persistShow s) := by
  by_cases h : PersistInv s
  · rw [persistShow_of_shown h]
    exact .refl s
  · rw [persistShow_of_change h]
    have hbefore : ∀ u : State, Grows s u → Grows s (persistChangeRecord u) := fun u hu =>
      hu.trans (grows_pushRecord (by rwa [hu.length]) _)
    refine hbefore _ (Grows.cond (((Grows.refl s).set Reg.SYS.PERSIST_OK _ (by decide)).set
      Reg.SYS.PERSIST_CHG_FRAME _ (by decide)) _ _ fun u hu => ?_)
    refine Grows.cond ?_ _ _ fun v hv => ?_
    · refine Grows.rest (t := set Reg.SYS.PERSIST_WDRAW_LAST_REASONS _ (inc Reg.SYS.PERSIST_WDRAW_COUNT u)) ?_ rfl rfl
      exact (hu.inc Reg.SYS.PERSIST_WDRAW_COUNT (by decide)).set _ _ (by decide)
    · exact (hv.set Reg.SAF.WDRAW_MAX_NS _ (by decide)).rest rfl rfl

/-- The end of a command whose effect asks for no reaction only adds to GQ2. -/
theorem grows_settle {u : State} (before : State) (hr : u.reqs = []) (hq : 2 < u.gq.length) : Grows u (settle before u) := by
  have hreact : reactions u = u := by
    unfold reactions
    rw [hr]
    rfl
  have h := grows_domainOkShow u
  unfold settle
  rw [hreact]
  exact (((h.trans (grows_persistShow (by rwa [h.length]))).trans (grows_marksShow _)).trans (grows_creditsShow _)).trans
    (grows_interrupts before _)

@[simp] theorem live_gq (p k : Nat) (b : Bool) (s : State) : (live p k b s).gq = s.gq := rfl

/-! ### Records pushed (R430 to R432) -/

section
variable {s : State} {q : Fin 4} {p : Producer} {type : Nat} {payload : List (BitVec 16)}

theorem gatherPush_of_producer (hp : q.val ∈ producerQueue p) (hl : payload.length ≤ 251) :
    gatherPush q p type payload s = pushRecord q (record type payload s) s := by
  simp [gatherPush, hp, hl]

/-- A record within credits goes whole into the queue, behind the OVERFLOW record that is due (R432). -/
theorem pushRecord_granted (hd : domainOn 44 s = true) (h2 : q.val ≠ 2) (r : List (BitVec 16))
    (hg : (overflowRecord q s ++ r).length ≤ queueGrant q s) :
    pushRecord q r s =
      pushWords q (overflowRecord q s ++ r) (setQueue q (fun g => { g with dropped := 0, firstDrop := 0 }) s) := by
  simp only [pushRecord]
  rw [if_neg (by simp [hd]), if_neg h2, if_pos hg]

/-- What a queue holds when a record finds no credits: the drop is counted (R432). -/
theorem pushRecord_dropped (hd : domainOn 44 s = true) (h2 : q.val ≠ 2) (r : List (BitVec 16))
    (hg : queueGrant q s < (overflowRecord q s ++ r).length) :
    pushRecord q r s = event (0xA0 + q) 2 (inc (Reg.GQ.DROPS_COUNT q) (setQueue q (fun g => { g with
      dropped := g.dropped + 1, firstDrop := if g.dropped = 0 then now s else g.firstDrop }) s)) := by
  simp only [pushRecord]
  rw [if_neg (by simp [hd]), if_neg h2, if_neg (by omega)]

theorem pushRecord_into2 (hd : domainOn 44 s = true) (r : List (BitVec 16)) (hw : (queue 2 s).waiting = [])
    (hg : r.length ≤ queueGrant 2 s) : pushRecord 2 r s = pushWords 2 r s := by
  simp [pushRecord, hd, hw, hg]

theorem pushRecord_waits (hd : domainOn 44 s = true) (r : List (BitVec 16))
    (h : (queue 2 s).waiting ≠ [] ∨ queueGrant 2 s < r.length) :
    pushRecord 2 r s =
      live 0xA2 3 true (event 0xA2 3 (setQueue 2 (fun g => { g with waiting := g.waiting ++ [r] }) s)) := by
  have hc : ((queue 2 s).waiting.isEmpty && decide (r.length ≤ queueGrant 2 s)) = false := by
    rcases h with h | h
    · simp [h]
    · simp [Nat.not_le.mpr h]
  simp only [pushRecord, if_pos]
  rw [if_neg (by simp [hd]), hc]
  simp

theorem pushRecord_reqs (q : Nat) (r : List (BitVec 16)) : (pushRecord q r s).reqs = s.reqs := by
  simp [reqs_reqsOf]

/-- Pushing ends with the queue's display (R445). -/
theorem get_pack_pushWords (ws : List (BitVec 16)) (h : (queue q (pushWords q ws s)).packing.length < 32) :
    get (Reg.GQ.STS_PACK q) (pushWords q ws s) = (queue q (pushWords q ws s)).packing.length := by
  unfold pushWords at h ⊢
  rw [← contents_packing, (sameContents_queueShow q _).2, contents_packing] at h ⊢
  exact get_pack_queueShow _ h

end

/-- Settles O52: words follow words; what finds no credits is dropped and counted, or waits with its producer. -/
theorem gatherPushes : Obligations.GatherPushes := by
  unfold Obligations.GatherPushes
  intro s hs hl hd q p type payload hp hlen rec_ g words
  have hq : q.val < s.gq.length := by
    rw [hl]
    exact q.isLt
  have hd' : domainOn 44 (begun s) = true := hd
  have hpush : gatherPush q p type.toNat payload (begun s) = pushRecord q rec_ (begun s) := gatherPush_of_producer hp hlen
  have hr : (pushRecord q rec_ (begun s)).reqs = [] := (pushRecord_reqs _ _).trans hs.2
  have hlate : ∀ q : Fin 4, q.val ≠ 2 → (Reg.GQ.STS_PACK q).key ∉ settleKeys ∧ (Reg.GQ.DROPS_COUNT q).key ∉ settleKeys ∧
      (Reg.EVT_STS (0xA0 + q.val) 2).key ∉ settleKeys ∧
      (Reg.GQ.DROPS_COUNT q).key ≠ (Reg.EVT_STS (0xA0 + q.val) 2).key := by decide
  refine ⟨?_, fun h2 hpack hg => ?_, fun h2 hg => ?_, fun h2 hw hpack hg => ?_, fun h2 hw => ?_⟩
  · show _ :: _ = _ :: _
    rw [Nat.mod_eq_of_lt (by omega)]
    rfl
  · have hgrant := pushRecord_granted hd' h2 rec_ hg
    refine .leaves hs (Eq.refl (run _ s)) (hpush.trans hgrant) (hgrant ▸ hr) fun t k => ?_
    have happ := appended_pushWords (s := setQueue q (fun g => { g with dropped := 0, firstDrop := 0 }) (begun s))
      (by rwa [length_setQueue]) (overflowRecord q (begun s) ++ rec_)
    have hold := queue_setQueue_same (s := begun s) (fun g => { g with dropped := 0, firstDrop := 0 }) hq
    have hpacked := happ.packed (by rw [hold]; exact hpack)
    refine ⟨?_, ?_, ?_, ?_⟩
    · rw [k.queue q h2]
      refine happ.words.trans ?_
      rw [hold, ← List.append_assoc]
      rfl
    · rw [k.queue q h2]
      exact hpacked
    · rw [k.queue q h2, happ.dropped, hold]
    · rw [k.queue q h2, k.get _ (hlate q h2).1]
      exact get_pack_pushWords _ hpacked
  · have hdrop := pushRecord_dropped hd' h2 rec_ hg
    obtain ⟨-, hcount, hevent, hne⟩ := hlate q h2
    have hnew := queue_setQueue_same (s := begun s) (fun g => { g with
      dropped := g.dropped + 1, firstDrop := if g.dropped = 0 then now (begun s) else g.firstDrop }) hq
    refine .leaves hs (Eq.refl (run _ s)) (hpush.trans hdrop) (hdrop ▸ hr) fun t k => ?_
    have ht := ((k.queue q h2).trans (queue_congr q (by rw [event_gq, inc_gq]))).trans hnew
    have hg : g = queue q (begun s) := rfl
    refine ⟨by rw [ht, hg], by rw [ht, hg], by rw [ht, hg], fun h0 => ?_, ?_, ?_, ?_⟩
    · rw [ht]
      exact if_pos h0
    · rw [k.get _ hcount]
      exact (get_set_other _ _ hne).trans (get_inc_same _ _)
    · rw [k.get _ hevent]
      exact get_set_same _ _ _
    · exact ((((Changes.begin _ _ s).setQueue (by simp) _ _).inc _ (by simp)).event _ _ (by simp)).ended k
  · have hpush2 := hpush.trans (congrArg (pushRecord · rec_ (begun s)) h2)
    rw [h2] at hr hq
    have hinto := pushRecord_into2 hd' rec_ (by rw [← h2]; exact hw) hg
    have happ := appended_pushWords (s := begun s) hq rec_
    refine .of_run hs (f := gatherPush q p type.toNat payload) (Eq.refl (run _ s)) ?_
    rw [hpush2]
    have hgrow := grows_settle s hr (by rw [hinto, happ.length]; exact hq)
    rw [hinto] at hgrow ⊢
    refine ⟨?_, hgrow.packed (happ.packed (by rw [← h2]; exact hpack))⟩
    refine List.IsPrefix.trans ?_ hgrow.words
    rw [happ.words, show g = queue 2 s by rw [← h2]]
    exact List.prefix_refl _
  · have hpush2 := hpush.trans (congrArg (pushRecord · rec_ (begun s)) h2)
    rw [h2] at hr hq
    have hg2 : g = queue 2 s := congrArg (queue · s) h2
    rw [hg2] at hw
    have hwait := pushRecord_waits hd' rec_ hw
    have hnew := queue_setQueue_same (s := begun s) (fun g => { g with waiting := g.waiting ++ [rec_] }) hq
    refine .of_run hs (f := gatherPush q p type.toNat payload) (Eq.refl (run _ s)) ?_
    rw [hpush2]
    have hgrow := grows_settle s hr (by rw [hwait]; exact (length_setQueue _ _ _).symm ▸ hq)
    rw [hwait] at hgrow ⊢
    refine ⟨?_, hgrow.event ?_⟩
    · refine List.IsPrefix.trans ?_ hgrow.waiting
      rw [hg2, queue_congr 2 (live_gq _ _ _ _), queue_congr 2 (event_gq _ _ _), hnew]
      exact List.prefix_refl _
    · simp only [live, event]
      rw [get_set_other _ _ (by decide), get_set_same]
      rfl

end Sys2Proof.Machine
end

section
/-! SUPPORT. Statements that a stored value refutes which its field cannot hold, and other concrete states. -/

namespace Sys2Proof.Machine
set_option Elab.async false

/-- Three frames without a marker, and a live bit that stores 2. -/
def overwideLive : State :=
  withFields [(Reg.FRM.SRC_MODE, 1), (Reg.FRM.SRC_STATE, 1), (Reg.FRM.SYNC_MISSED, 3), (Reg.FLS.LIVE 165, 2)]

theorem overwideLive_lost :
    let u := (fun s => if 3 ≤ get Reg.FRM.SYNC_MISSED s then ringFallback s else s) (begun overwideLive)
    Calm 165 overwideLive ∧ u.reqs = [] ∧ get (Reg.FLS.LIVE 165) u = 2 := by
  decide +kernel

/-- Refutes O5: a raise does nothing while its live bit is not 0 (R400), and the statement does not ask that the stored live
bit fit its one bit: in `overwideLive` it is 2, and stays 2. -/
theorem not_frameUnitCommands : ¬ Obligations.FrameUnitCommands := by
  unfold Obligations.FrameUnitCommands
  intro h
  have hs : Ready overwideLive := ⟨rfl, rfl⟩
  obtain ⟨-, -, -, hlost, -⟩ := h overwideLive hs
  obtain ⟨hcalm, hr, hlive⟩ := overwideLive_lost
  obtain ⟨ht, -⟩ := (hlost (by decide +kernel) (by decide +kernel) (by decide +kernel)).settled hs
    (f := fun s => if 3 ≤ get Reg.FRM.SYNC_MISSED s then ringFallback s else s) rfl
  obtain ⟨-, -, -, hone, -⟩ := ht hcalm
  rw [get_settle _ _ hr (by decide), hlive] at hone
  exact absurd hone (by decide)

end Sys2Proof.Machine
end

section
/-! SUPPORT. Statements that a map in use or a stored value refutes which no step leaves. -/

namespace Sys2Proof.Machine
set_option Elab.async false

/-! ### A map in use that holds a register which is no map's (O37, O38) -/

/-- VIN is good and stable in a fenced and armed device, and the map in use holds `LAST_TRIG.OUTCOME` with 5. -/
def mapOverOutcome (sav trig : Nat) : State :=
  { withFields ((List.range 52).map (fun d => (Reg.PDM.DOM_CTL_STATE d, 0)) ++ [(Reg.SAV.STS_ARMED, 1), (Reg.SYS.PERSIST_FENCED, 1), (Reg.SAV.STS_STATE, sav), (Reg.ENG.VIN_GOOD, 1),
      (Reg.SAV.VIN_STABLE_FRAMES, 0), (Reg.SAV.LAST_TRIG_TRIGGER, trig)]) with
    dram := { mapInUse := [(Reg.SAV.LAST_TRIG_OUTCOME.key, 5)] }
    eng := { last := { vinAbove := true } } }

theorem mapOverOutcome_returns :
    let s := mapOverOutcome 3 0
    savArmed s = true ∧ fenced s = true ∧ vinStable s = true ∧ savState s = 3 ∧ (warmReturn (begun s)).reqs = [] ∧
      get Reg.SAV.LAST_TRIG_OUTCOME (warmReturn (begun s)) = 5 := by
  decide +kernel

/-- Refutes O37: the warm return puts the map in use back into the registers after it has recorded OUTCOME, and the
statement does not ask that this map hold only fields of the map: in `mapOverOutcome` OUTCOME ends as 5. -/
theorem not_drainAndRide : ¬ Obligations.DrainAndRide := by
  unfold Obligations.DrainAndRide
  intro h
  have hs : Ready (mapOverOutcome 3 0) := ⟨rfl, rfl⟩
  obtain ⟨harm, hfence, hvin, hsav, hr, hout⟩ := mapOverOutcome_returns
  obtain ⟨-, -, -, -, -, -, -, -, hwarm⟩ := h _ hs harm hfence
  obtain ⟨-, hone, -⟩ := (hwarm hvin (.inl ⟨hsav, rfl⟩)).settled hs (f := warmReturn) rfl
  rw [get_settle _ _ hr (by decide), hout, if_pos hsav] at hone
  exact absurd hone (by decide)

theorem mapOverOutcome_resumes :
    let s := mapOverOutcome 7 4
    let f := reach .mgmt 0x42138 1 (resume .mgmt)
    Reaches .mgmt 0x42138 1 s ∧ flushHold s = true ∧ vinGoodNow s = true ∧ (f (begun s)).reqs = [] ∧
      get Reg.SAV.LAST_TRIG_OUTCOME (f (begun s)) = 5 := by
  decide +kernel

/-- Refutes O38: RESUME too puts the map in use back after OUTCOME (see O37). -/
theorem not_saveRecords : ¬ Obligations.SaveRecords := by
  unfold Obligations.SaveRecords
  intro h
  have hs : Ready (mapOverOutcome 7 4) := ⟨rfl, rfl⟩
  obtain ⟨hreach, hhold, hvin, hr, hout⟩ := mapOverOutcome_resumes
  obtain ⟨-, -, -, -, -, -, hresume, -⟩ := h _ hs
  obtain ⟨hgo, -⟩ := hresume .mgmt hreach
  obtain ⟨-, hone, -⟩ := (hgo hhold hvin).settled hs (f := reach .mgmt 0x42138 1 (resume .mgmt)) rfl
  rw [get_settle _ _ hr (by decide), hout] at hone
  exact absurd hone (by decide)

/-! ### A wait flag that stores 2 (O13) -/

/-- Context 0 of port 0 is OPEN and may log 4,096 lines, the device holds no undo pair, and HOLD_WAIT of the context
stores 2. -/
def overwideWait : State :=
  { withFields ((List.range 52).map (fun d => (Reg.PDM.DOM_CTL_STATE d, 0)) ++ [(Reg.SYS.CAPS_HP_PRESENT, 1),
      (Reg.SYS.CAP_ACK_EXPOSED_GIB, 1), (Reg.SYS.PERSIST_BOOT, 0), (Reg.BLKCTL_ENABLE 8, 1), (Reg.BLKCTL_ENABLE 0x44, 1),
      (Reg.HPT.LINK_WIDTH 0, 2), (Reg.HPT.STS_FENCED 0, 0), (Reg.TXN.CTX_LIMIT_UNITS, 1), (Reg.TXN.PAIR_MAX_PAIRS, 0),
      (Reg.TXN.UNDO_CFG_BASE_GIB, 2), (Reg.TXN.UNDO_CFG_SIZE_GIB, 1), (Reg.GQ.SPILL_BASE_BASE_MIB 0, 768),
      (Reg.GQ.SPILL_BASE_BASE_MIB 1, 832), (Reg.GQ.SPILL_BASE_BASE_MIB 2, 896), (Reg.GQ.SPILL_BASE_BASE_MIB 3, 960),
      (Reg.TXC.CTX_STS_STATE 0 0, 1), (Reg.TXC.CTX_STS_HOLD_WAIT 0 0, 2)]) with
    hp := { perst := [], credits := [64], decoders := [{ port := 0, decoder := 1, size := 2 ^ 34 }] } }

theorem overwideWait_open :
    let s := overwideWait
    takesRequest 0 (.window 4096) s = true ∧ 0 < s.hp.credits.getD 0 0 ∧ hostLine (.window 4096) s = some 64 ∧
    hostCtx 0 (.window 4096) s = some 0 ∧ ctxState 0 s = 1 ∧ txnReady s = true ∧ writeRefused 0 64 s = false ∧
    unrestored (granuleOf 64 s) s = false ∧ logged 0 64 s = false ∧ linesLogged 0 s < lineLimit s ∧
    canHold 0 (granuleOf 64 s) s = false := by
  decide +kernel

theorem overwideWait_stays :
    let u := hostWrite 0 (.window 4096) allBytes 5 0 false { residues := lineResidues 5 } (begun overwideWait)
    u.reqs = [] ∧ get (Reg.TXC.CTX_STS_HOLD_WAIT 0 0) u = 2 := by
  decide +kernel

/-- Refutes O13: the wait flag is shown only where it differs in being 0 or not, and the statement does not ask that the
stored flag fit its one bit: in `overwideWait` HOLD_WAIT is 2, and stays 2. -/
theorem not_transactionWrites : ¬ Obligations.TransactionWrites := by
  unfold Obligations.TransactionWrites
  intro h
  have hs : Ready overwideWait := ⟨rfl, rfl⟩
  obtain ⟨htake, hcredit, hline, hctx, hopen, hready, hrefused, hrestored, hlogged, hlines, hhold⟩ := overwideWait_open
  obtain ⟨hr, hwait⟩ := overwideWait_stays
  obtain ⟨-, -, -, hholds⟩ := h overwideWait hs (by simp [overwideWait, withFields]) 0 (.window 4096) allBytes 5 0 64 0
    false { residues := lineResidues 5 } htake hcredit hline hctx rfl
  obtain ⟨hone, -⟩ := (hholds hopen hready hrefused hrestored hlogged hlines hhold).settled hs
    (f := hostWrite 0 (.window 4096) allBytes 5 0 false { residues := lineResidues 5 }) rfl
  rw [get_settle _ _ hr (by decide), hwait] at hone
  exact absurd hone (by decide)

end Sys2Proof.Machine
end

section
/-! SUPPORT. Statements that a stored index, a switch under way or a request that waits refutes. -/

namespace Sys2Proof.Machine
set_option Elab.async false

/-- `withFields` with every domain on. -/
def poweredWith (l : List (Fld × Nat)) : State :=
  withFields ((List.range 52).map (fun d => (Reg.PDM.DOM_CTL_STATE d, 0)) ++ l)

/-! ### A migration from a rank that does not exist (O39) -/

/-- A restore loads its metadata, and the source of the migration it ends is a rank whose register lies where
`RSR.DONE_GRAN` does. -/
def migrationBeyond : State :=
  { poweredWith [(Reg.RSR.STS_STAGE, 4), (Reg.SPR.MIG_STS_ACTIVE, 1), (Reg.SPR.MIG_STS_SRC, 51173)] with
    rsr := { manifest := some (buildManifest 2 0 {}) } }

theorem migrationBeyond_loads :
    let s := migrationBeyond
    rsrRuns s = true ∧ rsrStage s = 4 ∧ isSet Reg.RSR.STS_REBUILD s = false ∧ (metaDone (begun s)).reqs = [] ∧
      get Reg.RSR.DONE_GRAN (metaDone (begun s)) = 6 := by
  decide +kernel

/-- Refutes O39: the end of the cut migration shows the state of the rank that `MIG_STS.SRC` names, and the statement does
not ask that the stored rank exist: in `migrationBeyond` it stores 51,173, whose `RANK_STATE` is `DONE_GRAN`. -/
theorem not_restoreMetadata : ¬ Obligations.RestoreMetadata := by
  unfold Obligations.RestoreMetadata
  intro h
  have hs : Ready migrationBeyond := ⟨rfl, rfl⟩
  obtain ⟨hruns, hstage, hrebuild, hr, hdone⟩ := migrationBeyond_loads
  obtain ⟨-, -, -, -, -, -, -, hmeta, -⟩ := h _ hs hruns
  obtain ⟨-, -, -, hzero, -⟩ := (hmeta _ hstage rfl hrebuild).settled hs (f := metaDone) rfl
  rw [get_settle _ _ hr (by decide), hdone] at hzero
  exact absurd hzero (by decide)

/-! ### Two switches under way (O48) -/

/-- The switches of domains 5 and 38 are under way, no source is beyond S3 or asks for a reset, and the REACT of domain 38
is GROUP. -/
def twoSwitches : State :=
  { poweredWith ((Reg.PDM.DOM_CTL_REACT 38, 2) ::
      (List.range 334).flatMap (fun k => [(Reg.FLS.SRC_CFG_SEV k, 1), (Reg.FLS.SRC_CFG_ACT k, 0)])) with
    pwr := { vaon := true, switching := [{ dom := 5, target := 1, tries := 0 }, { dom := 38, target := 1, tries := 0 }] } }

theorem twoSwitches_calm : ∀ k < 334, Calm k twoSwitches := by decide +kernel

theorem twoSwitches_fails :
    let s := twoSwitches
    Fresh 306 s ∧ reactionsWait s = false ∧ get (Reg.PDM.DOM_CTL_REACT 38) s = 2 ∧ domainPresent 38 s = true ∧
      (ackFailed 38 (begun s)).reqs = [] ∧ (ackFailed 38 (begun s)).pwr.switching = [] := by
  decide +kernel

/-- Refutes O48: the GROUP reaction of a domain whose units the device cannot do without is a cold reset, which gives up
every switch, and not that of this domain alone. -/
theorem not_domainCommands : ¬ Obligations.DomainCommands := by
  unfold Obligations.DomainCommands
  intro h
  have hs : Ready twoSwitches := ⟨rfl, rfl⟩
  obtain ⟨hfresh, hwait, hreact, hpresent, hr, hnone⟩ := twoSwitches_fails
  obtain ⟨-, -, hfail⟩ := h _ hs 38
  obtain ⟨-, -, hgo⟩ := (hfail { dom := 38, target := 1, tries := 0 } rfl).settled hs (f := ackFailed 38) rfl
  obtain ⟨-, hacts⟩ := hgo hfresh
  obtain ⟨-, -, hgroup⟩ := hacts (.inl hwait)
  obtain ⟨-, hkept⟩ := hgroup hreact hpresent twoSwitches_calm
  rw [settle_pwr _ _ hr, hnone] at hkept
  exact absurd hkept (by decide)

/-! ### What a line holds depends on DRAM alone -/

theorem readBytes_congr {s t : State} (h : s.dram.mem = t.dram.mem) :
    ∀ k a : Nat, readBytes k a s = readBytes k a t
  | 0, _ => rfl
  | k + 1, a => by simp only [readBytes, readByte_congr a h, readBytes_congr h k]

theorem readLine_congr {s t : State} (line : Nat) (h : s.dram.mem = t.dram.mem) : readLine line s = readLine line t := by
  simp only [readLine, readBytes_congr h]

theorem lineNow_congr {s t : State} (line : Nat) (h : s.dram = t.dram) : lineNow line s = lineNow line t := by
  simp only [lineNow, isPoisoned, readLine_congr line (congrArg Dram.mem h), h]

/-! ### Writes of a line out of order (O42) -/

/-- The twin is attached, and of the two queued writes of the first mirror line the one behind has issued. -/
def issuedBehind : State :=
  { poweredWith [(Reg.SYS.CAPS_TWIN, 1), (Reg.SYS.CAP_ACK_EXPOSED_GIB, 1), (Reg.TWN.STS_PAIRED, 1), (Reg.TWN.STS_STATE, 4),
      (Reg.PNT.LINK_WIDTH, 1), (Reg.MRV.MAP_ENTRIES, 200000)] with
    rsr := { all := true }
    dram := { writes := [{ line := 16777216, ch := 0, sub := 0, be := 0, data := 0 },
      { line := 16777216, ch := 0, sub := 0, be := allBytes, data := 9, issued := true }] } }

/-- A whole write of the first line, whose residue checks. -/
def wholeMirror : MirrorIn :=
  { line := 0, be := allBytes, data := 5, ctx := none, seq := 0, residues := lineResidues 5 }

theorem issuedBehind_takes :
    let s := issuedBehind
    let m := wholeMirror
    let u := fromTwin (mirrorWrite m) (begun s)
    paired s = true ∧ puntyUp s = true ∧ fenced s = false ∧ twinAttached s = true ∧
      unrestored (granuleOf (mirrorLine m.line s) s) s = false ∧ granuleOf (mirrorLine m.line s) s < mapEntries s ∧
      writeFits (mirrorLine m.line s) s = true ∧ lineGood m.data m.residues = true ∧ u.reqs = [] ∧
      (lineNow (mirrorLine m.line s) u).1 ≠ m.data := by
  decide +kernel

/-- Refutes O42: a mirror write joins the line's write that has not issued, and what the line holds is what the last write
in the queue makes it; the statement does not ask that writes of a line issue in their order, and in `issuedBehind` the one
that has issued stands behind. -/
theorem not_twinMessages : ¬ Obligations.TwinMessages := by
  unfold Obligations.TwinMessages
  intro h
  have hs : Ready issuedBehind := ⟨rfl, rfl⟩
  obtain ⟨hpaired, hup, hfence, hattached, hrestored, hmap, hfits, hgood, hr, hother⟩ := issuedBehind_takes
  obtain ⟨hlink, -⟩ := h _ hs
  obtain ⟨-, -, -, -, hwrite, -⟩ := hlink hpaired hup
  obtain ⟨hpost, -⟩ := (hwrite wholeMirror hfence hattached rfl rfl rfl hrestored hmap hfits).settled hs
    (f := fromTwin (mirrorWrite wholeMirror)) rfl rfl
  obtain ⟨-, -, hline, -⟩ := hpost hgood
  have hwhole : wholeMirror.be = allBytes := by simp only [wholeMirror]
  have hnow := hline hwhole
  have hsame := lineNow_congr (mirrorLine wholeMirror.line issuedBehind) (settle_dram issuedBehind _ hr)
  exact hother (by rw [← hsame, hnow])

/-! ### A request that goes with a context aborted by a retry (O43) -/

/-- Context 0 has voted no and is OPEN, and a write that waits for context 1, which is OPEN and has asked for a commit, goes
beyond its limit of lines. -/
def voteFreesWrite : State :=
  { poweredWith [(Reg.SYS.CAPS_TWIN, 1), (Reg.SYS.CAPS_HP_PRESENT, 1), (Reg.SYS.CAP_ACK_EXPOSED_GIB, 1),
      (Reg.TWN.STS_PAIRED, 1), (Reg.PNT.LINK_WIDTH, 1), (Reg.SYS.PERSIST_BOOT, 0), (Reg.BLKCTL_ENABLE 0x44, 1),
      (Reg.TXC.CTX_STS_STATE 0 0, 1), (Reg.TXC.CTX_STS_STATE 0 1, 1), (Reg.TXN.CTX_LIMIT_UNITS, 0),
      (Reg.TXN.UNDO_CFG_BASE_GIB, 2), (Reg.TXN.UNDO_CFG_SIZE_GIB, 1), (Reg.GQ.CFG_SPILL_MIB 0, 0),
      (Reg.GQ.CFG_SPILL_MIB 1, 0), (Reg.GQ.CFG_SPILL_MIB 2, 0), (Reg.GQ.CFG_SPILL_MIB 3, 0)] with
    rsr := { all := true }
    rng := { votes := [{ tag := 0, coord := 0, frame := 0, ctx := 0, yes := false }] }
    txn := { requests := [{ ctx := 1, due := 0, needAck := false }] }
    hp := { perst := [], stalled := [{ port := 0, tag := 0, line := 0, be := some allBytes, data := 0, ctx := some 1, why := .hold 0 }] } }

theorem voteFreesWrite_aborts :
    let s := voteFreesWrite
    let u := fromTwin (prepareAcked 0 0) (begun s)
    paired s = true ∧ puntyUp s = true ∧ u.reqs = [] ∧ u.txn.requests.length = 0 := by
  decide +kernel

/-- Refutes O43: a vote that turns to yes tries the writes again that wait, and one that goes beyond its context's limit of
lines aborts that context, whose commit request is gone: the requests do not stay as many as they were. -/
theorem not_twinReconciliation : ¬ Obligations.TwinReconciliation := by
  unfold Obligations.TwinReconciliation
  intro h
  have hs : Ready voteFreesWrite := ⟨rfl, rfl⟩
  obtain ⟨hpaired, hup, hr, hgone⟩ := voteFreesWrite_aborts
  obtain ⟨hlink, -⟩ := h _ hs
  obtain ⟨-, hack, -⟩ := hlink hpaired hup
  obtain ⟨-, hlength, -⟩ := (hack 0 0).settled hs (f := fromTwin (prepareAcked 0 0)) rfl
  rw [settle_txn _ _ hr, hgone] at hlength
  exact absurd hlength (by decide)

end Sys2Proof.Machine
end

section
/-! SUPPORT. Statements that the fence which a reaction brings refutes, by a write that waits in a port. -/

namespace Sys2Proof.Machine
set_option Elab.async false

/-! ### A rail that does not exist (O46) -/

/-- A write of context 0 to line 0 that waits for a credit. -/
def waitingWrite (bad : Bool) : Stalled :=
  { port := 0, tag := 0, line := 0, be := some allBytes, data := 0, ctx := some 0, bad := bad, why := .pool 0 0 }

/-- A boot attempt is to be tried again, the first step of the sequence is a rail 20 whose source asks for a chip reset and
whose dependencies are off, and the device is armed. -/
def railBeyond : State :=
  { poweredWith ([(Reg.PWR.SEQ_VALID 0, 1), (Reg.PWR.SEQ_RAIL 0, 20), (Reg.PWR.RAIL_CFG_DEP 20, 1), (Reg.SAV.STS_ARMED, 1),
      (Reg.FLS.SRC_CFG_SEV 276, 1), (Reg.FLS.SRC_CFG_ACT 276, 2 ^ actChipReset), (Reg.TXN.UNDO_CFG_BASE_GIB, 2),
      (Reg.TXN.UNDO_CFG_SIZE_GIB, 1), (Reg.TXN.PAIR_MAX_PAIRS, 1)] ++
      (List.range 16).flatMap (fun k => [(Reg.FLS.SRC_CFG_SEV (256 + k), 1), (Reg.FLS.SRC_CFG_ACT (256 + k), 0)])) with
    pwr := { vaon := true, waitVin := true, attempts := 1 }
    dram := { mem := [(0, 7)] }
    hp := { perst := [], stalled := [waitingWrite false] } }

/-- What BOOT_ATTEMPT_RETRY does. -/
def retryAttempt (s : State) : State :=
  if s.pwr.waitVin && s.pwr.seq == .none && decide (0 < s.pwr.attempts) &&
      decide (s.pwr.attempts < get Reg.PWR.BOOT_ATTEMPTS s) then retryBoot s
  else s

theorem railBeyond_retries :
    let s := railBeyond
    s.pwr.attempts < get Reg.PWR.BOOT_ATTEMPTS s ∧ (∀ r : Fin 16, Calm (256 + r) s) ∧
      readByte (2 * 2 ^ 30) (settle s (retryAttempt (begun s))) ≠ readByte (2 * 2 ^ 30) s := by
  decide +kernel

/-- Refutes O46: the step of a rail that does not exist fails with a source that the statement does not ask to be calm; in
`railBeyond` it asks for a chip reset, whose fence logs the old line of the write that waits. -/
theorem not_vaonCommands : ¬ Obligations.VaonCommands := by
  unfold Obligations.VaonCommands
  intro h
  have hs : Ready railBeyond := ⟨rfl, rfl⟩
  obtain ⟨hmore, hcalm, hslab⟩ := railBeyond_retries
  obtain ⟨-, -, -, hretry⟩ := h railBeyond
  have hgo := (hretry hs rfl rfl (by decide) hmore).settled hs (f := retryAttempt) rfl
  obtain ⟨-, -, hsame⟩ := hgo hcalm
  exact hslab (hsame _)

/-! ### A second pulse of the error pin (O50) -/

/-- The armed device raises source 0 at S4, and a write that waits for a credit has a residue that does not check, whose
source has the reaction PIN. -/
def secondPulse : State :=
  { poweredWith [(Reg.SAV.STS_ARMED, 1), (Reg.SAV.STS_STATE, 1), (Reg.FLS.SRC_CFG_SEV 0, 4), (Reg.FLS.SRC_CFG_ACT 0, 0),
      (Reg.FLS.SRC_CFG_SEV 181, 2), (Reg.FLS.SRC_CFG_ACT 181, 2 ^ actPin)] with
    hp := { perst := [], stalled := [waitingWrite true] } }

/-- A single event of source 0. -/
def firstSource : State → State := detect 0 0 0 0 0 false 0

theorem secondPulse_alone :
    let s := secondPulse
    inSafe s = false ∧ savArmed s = true ∧ fenced s = false ∧ savState s ≠ 7 ∧ isSet Reg.SYS.CAPS_RING s = false ∧
      paired s = false ∧ isSet (Reg.FLS.LIVE 0) s = false ∧ get (Reg.FLS.SRC_CFG_SEV 0) s = 4 ∧
      bitOf (get (Reg.FLS.SRC_CFG_ACT 0) s) actBlockReset = false ∧
      bitOf (get (Reg.FLS.SRC_CFG_ACT 0) s) actChipReset = false ∧
      get Reg.FLT.PIN_COUNT_COUNT (settle s (firstSource (begun s))) ≠ oneMore Reg.FLT.PIN_COUNT_COUNT s := by
  decide +kernel

/-- Refutes O50: the emergency seal's fence puts the writes that wait into DRAM, and one whose residue does not check raises
source 181, whose reaction PIN pulses the pin a second time. -/
theorem not_safeStateEntered : ¬ Obligations.SafeStateEntered := by
  unfold Obligations.SafeStateEntered
  intro h
  have hs : Ready secondPulse := ⟨rfl, rfl⟩
  obtain ⟨hsafe, harmed, hfence, hhold, hring, hpaired, hlive, hsev, hblock, hchip, htwo⟩ := secondPulse_alone
  obtain ⟨hraise, -⟩ := h secondPulse hs hsafe
  have hgo := (hraise 0 0 0 0 0 false 0 rfl (by decide) (by decide) hlive hsev).settled hs (f := firstSource) rfl
  obtain ⟨-, -, -, -, -, -, -, -, hcount, -⟩ := hgo ⟨harmed, hfence, hhold, hring, hpaired⟩ hblock hchip
  exact htwo hcount

end Sys2Proof.Machine
end

section
/-! SUPPORT. A statement that the location code refutes: it holds four bits of a die's number (R211). -/

namespace Sys2Proof.Machine
set_option Elab.async false

/-! ### A die whose number the location code folds (O30) -/

/-- The place of block 0 of die 17 of channel 0, which has the code of block 0 of die 1. -/
def foldedLoc : Loc := { ch := 0, die := 17, block := 0, page := 0 }

/-- A record of granule `g` at that place. -/
def foldedRecord (g : Nat) (bySave : Bool) : SealRec :=
  { granule := g, gen := 0, frame := 0, bySave := bySave, loc := foldedLoc, poison := [], image := [] }

/-- A save's record is under way at the folded place, whose block holds a record that is needed; die 1 is the only one that
takes records, and its block 0 the only one that is fresh. -/
def foldedDie : State :=
  { poweredWith [(Reg.SYS.CAPS_NAND_GROUPS, 1), (Reg.NCH.STS_DIES_OK 0, 2), (Reg.NFC.GEOM_A_BLOCKS, 1)] with
    nand := { sealing := [foldedRecord 0 true], records := [foldedRecord 1 false], map := [(1, foldedLoc.code)] } }

theorem foldedDie_fails :
    let s := foldedDie
    sealingOf 0 s = some (foldedRecord 0 true) ∧ dieTakes 0 1 s = true ∧ blockBad 0 17 0 s = false ∧
      s.nand.cullet.length < 65536 ∧ ((look s.nand.dieStreak (16 * 0 + 17)).getD []).length ≤ 1 ∧
      (programFail 0 1 (begun s)).reqs = [] ∧ (programFail 0 1 (begun s)).nand.sealing = [] := by
  decide +kernel

/-- Refutes O30: in `foldedDie` the block of the failed program and the fresh block of die 1 have one code, so that the block
grown bad leaves die 1 without a block for the record, and the seal is abandoned. -/
theorem not_sealCommands : ¬ Obligations.SealCommands := by
  unfold Obligations.SealCommands
  intro h
  have hs : Ready foldedDie := ⟨rfl, rfl⟩
  obtain ⟨hseal, htakes, hgood, hroom, hstreak, hr, hnone⟩ := foldedDie_fails
  obtain ⟨-, -, -, hfail⟩ := h _ hs 0
  obtain ⟨-, hsave⟩ := hfail _ 1 hseal (by decide)
  obtain ⟨⟨r, hmem, -⟩, -⟩ := (hsave rfl (by decide) htakes).settled hs (f := programFail 0 1) rfl ⟨hgood, hroom, hstreak⟩
  rw [settle_nand _ _ hr, hnone] at hmem
  exact absurd hmem (by simp)

end Sys2Proof.Machine
end

section
/-! SUPPORT. What a fresh raise leaves of its own source: the live bit while the condition holds, the sticky status and one
more count (R400, R401). -/

namespace Sys2Proof.Machine
set_option Elab.async false

/-! ### The fields of one source -/

/-- What shows a source of its own: the live bit, the sticky status and the count. -/
def sourceFields (n : Nat) : List Fld := [Reg.FLS.LIVE n, Reg.FLS.STICKY n, Reg.FLS.SRC_CFG_COUNT n]

/-- The fields that a raise of `n` may change beside `sourceFields n`: they are among those of the source after it, but for
the event of the page. -/
def besideSource (n : Nat) : List Fld := Reg.EVT_STS (0x91 + n / 64) 0 :: raiseFields (n + 1)

theorem source_beside {n : Nat} (hn : n < 384) {f : Fld} (hf : f ∈ sourceFields n) :
    f.key ∉ (besideSource n).map Fld.key := by
  have h : ∀ k : Fin 384, ∀ f ∈ sourceFields k, f.key ∉ (besideSource k).map Fld.key := by decide +kernel
  exact h ⟨n, hn⟩ f hf

theorem source_settle {n : Nat} (hn : n < 384) {f : Fld} (hf : f ∈ sourceFields n) : f.key ∉ settleKeys := by
  have h : ∀ k : Fin 384, ∀ f ∈ sourceFields k, f.key ∉ settleKeys := by decide +kernel
  exact h ⟨n, hn⟩ f hf

theorem live_ne_sticky (n : Nat) : (Reg.FLS.LIVE n).key ≠ (Reg.FLS.STICKY n).key := by
  simp [Fld.key, Reg.FLS.STICKY, Reg.FLS.LIVE]

theorem live_ne_count (n : Nat) : (Reg.FLS.LIVE n).key ≠ (Reg.FLS.SRC_CFG_COUNT n).key := by
  simp [Fld.key, Reg.FLS.SRC_CFG_COUNT, Reg.FLS.LIVE]
  omega

theorem sticky_ne_count (n : Nat) : (Reg.FLS.STICKY n).key ≠ (Reg.FLS.SRC_CFG_COUNT n).key := by
  simp [Fld.key, Reg.FLS.SRC_CFG_COUNT, Reg.FLS.STICKY]
  omega

/-! ### The raise in two steps -/

/-- A source is marked: live, sticky, and counted once more. -/
def mark (n : Nat) (s : State) : State :=
  s |> set (Reg.FLS.LIVE n) 1 |> set (Reg.FLS.STICKY n) 1 |> inc (Reg.FLS.SRC_CFG_COUNT n)

theorem get_live_mark (n : Nat) (s : State) : get (Reg.FLS.LIVE n) (mark n s) = 1 := by
  unfold mark
  rw [get_inc_other _ (live_ne_count n), get_set_other _ _ (live_ne_sticky n), get_set_same]
  rfl

theorem get_sticky_mark (n : Nat) (s : State) : get (Reg.FLS.STICKY n) (mark n s) = 1 := by
  unfold mark
  rw [get_inc_other _ (sticky_ne_count n), get_set_same]
  rfl

theorem get_count_mark (n : Nat) (s : State) :
    get (Reg.FLS.SRC_CFG_COUNT n) (mark n s) = oneMore (Reg.FLS.SRC_CFG_COUNT n) s := by
  unfold mark
  rw [get_inc_same, get_set_other _ _ (sticky_ne_count n).symm, get_set_other _ _ (live_ne_count n).symm]

/-- What a calm raise does beside marking its source, up to the fall of the live bit. -/
def tellRaise (x : Raise) (before s : State) : State :=
  s |> when (3 ≤ raiseSev x.n before) (set Reg.SYS.PERSIST_FAULT 1)
    |> latchFirst x (raiseSev x.n before)
    |> when (2 ≤ raiseSev x.n before) (faultRecord x.n (raiseSev x.n before) x.injected (snap0Of x) x.snap2 x.snap3)
    |> (fun s =>
        if reactionsWait s then
          { s with sav := { s.sav with waitingActs := s.sav.waitingActs ++
              [(x.n, get (Reg.FLS.SRC_CFG_ACT x.n) before, x.snap2)] } }
        else react x.n (get (Reg.FLS.SRC_CFG_ACT x.n) before) x.snap2 s)

/-- A fresh raise marks its source, tells of it, and lets the live bit of a single event fall. -/
theorem raise_of_fresh {x : Raise} {s : State} (hf : Fresh x.n s) (hr : srcReserved x.n = false) :
    raise x s = when (!x.hold) (liveFall x.n) (tellRaise x s (mark x.n s)) := by
  obtain ⟨hlive, h334, hsev, -, -⟩ := hf
  have hne : raiseSev x.n s ≠ 4 := by simp only [raiseSev, h334, if_false]; omega
  have hact : ∀ a, actAtRaise (raiseSev x.n s) a s = a := fun a => by simp [actAtRaise, hne]
  simp only [raise, hr, hlive, Bool.or_false, Bool.false_eq_true, if_false, h334, hne, decide_false, when_false, hact,
    decide_true, ne_eq, not_false_eq_true, when_true, tellRaise, mark]
  rfl

theorem changes_tellRaise {x : Raise} {before s : State} (hc : Calm x.n before) :
    Changes raiseParts (besideSource x.n) s (tellRaise x before s) := by
  obtain ⟨-, -, hblock, hchip⟩ := hc
  have hin : ∀ f ∈ raiseFields (x.n + 1), f.key ∈ (besideSource x.n).map Fld.key := fun f hm =>
    List.mem_map_of_mem (List.mem_cons_of_mem _ hm)
  unfold tellRaise
  refine Changes.branch _ (Changes.in_sav ?_ _ (by simp [raiseParts])) ?_
  all_goals
    try unfold react
    try simp only [hblock, hchip, when_false]
  case' refine_2 =>
    refine Changes.cond (Changes.cond (Changes.cond (Changes.cond ?_ _ _ fun u hu => ?_) _ _ fun u hu => hu.emit _) _ _
      fun u hu => hu.emit _) _ _ fun u hu => hu.pinPulse (by simp [raiseParts]) hin
    rotate_left
    · exact hu.event _ _ (by simp [besideSource])
  all_goals
    refine Changes.cond (Changes.latchFirst (Changes.cond (Changes.refl _ _ s) _ _ fun u hu =>
      hu.set _ _ (hin _ (by simp [raiseFields]))) (by simp [raiseParts]) hin _ _) _ _ fun u hu => ?_
    exact Changes.pushRecord0 hu (by simp [raiseParts]) hin _

/-! ### The fall of a live bit (R408) -/

theorem changes_liveFall (n : Nat) (s : State) : Changes [] (fallFields n) s (liveFall n s) := by
  unfold liveFall
  exact Changes.branch _ (.refl _ _ _) (((Changes.refl _ _ s).set _ _ (by simp [fallFields])).cond _ _ fun u hu =>
    (hu.set _ _ (by simp [fallFields])).event _ _ (by simp [fallFields]))

theorem get_liveFall_other {n : Nat} {f : Fld} (s : State) (hf : f.key ∉ (fallFields n).map Fld.key)
    (hk : f.key ∉ settleKeys) : get f (liveFall n s) = get f s := (changes_liveFall n s).regs f hf hk

theorem live_liveFall (n : Nat) (s : State) : isSet (Reg.FLS.LIVE n) (liveFall n s) = false := by
  have hself : (Reg.FLS.LIVE n).key ≠ Reg.FLT.FIRST_ID_FIRST_SELF_CLEARED.key := by
    simp [Fld.key, Reg.FLS.LIVE, Reg.FLT.FIRST_ID_FIRST_SELF_CLEARED]
    omega
  have hevent : (Reg.FLS.LIVE n).key ≠ (Reg.EVT_STS 0x90 2).key := by
    simp [Fld.key, Reg.FLS.LIVE, Reg.EVT_STS]
    omega
  unfold liveFall
  split
  case isTrue h => simpa using h
  case isFalse h =>
    refine when_keeps (fun u => isSet (Reg.FLS.LIVE n) u = false) _ _ _ (by simp [isSet]) fun hu => ?_
    exact ((isSet_set_other _ _ hevent).trans (isSet_set_other _ _ hself)).trans hu

/-! ### A fresh raise -/

theorem get_tellRaise {x : Raise} {before s : State} (hc : Calm x.n before) (hn : x.n < 384) {f : Fld}
    (hf : f ∈ sourceFields x.n) : get f (tellRaise x before s) = get f s :=
  (changes_tellRaise hc).regs f (source_beside hn hf) (source_settle hn hf)

/-- A fresh raise sets the sticky status and counts once more (R400, R401). -/
theorem raised_raise {x : Raise} {s : State} (hf : Fresh x.n s) (hr : srcReserved x.n = false) (hn : x.n < 384) :
    Raised x.n s (raise x s) := by
  have hsticky : Reg.FLS.STICKY x.n ∈ sourceFields x.n := by simp [sourceFields]
  have hcount : Reg.FLS.SRC_CFG_COUNT x.n ∈ sourceFields x.n := by simp [sourceFields]
  have hfall : ∀ k : Fin 384, (Reg.FLS.STICKY k).key ∉ (fallFields k).map Fld.key ∧
      (Reg.FLS.SRC_CFG_COUNT k).key ∉ (fallFields k).map Fld.key := by decide +kernel
  obtain ⟨hfs, hfc⟩ := hfall ⟨x.n, hn⟩
  have hmarked : Raised x.n s (tellRaise x s (mark x.n s)) := by
    unfold Raised
    rw [get_tellRaise hf.2 hn hsticky, get_tellRaise hf.2 hn hcount, get_sticky_mark, get_count_mark]
    exact ⟨rfl, rfl⟩
  rw [raise_of_fresh hf hr]
  refine when_keeps (Raised x.n s) _ _ _ hmarked fun hu => ?_
  unfold Raised
  rw [get_liveFall_other _ hfs (source_settle hn hsticky), get_liveFall_other _ hfc (source_settle hn hcount)]
  exact hu

/-- The live bit stays while the condition holds (R400). -/
theorem live_raise {x : Raise} {s : State} (hf : Fresh x.n s) (hr : srcReserved x.n = false) (hn : x.n < 384) :
    isSet (Reg.FLS.LIVE x.n) (raise x s) = x.hold := by
  have hlive : Reg.FLS.LIVE x.n ∈ sourceFields x.n := by simp [sourceFields]
  rw [raise_of_fresh hf hr]
  cases hx : x.hold
  case false => exact live_liveFall _ _
  case true => simp [isSet, get_tellRaise hf.2 hn hlive, get_live_mark]

/-- A source that is live is not raised again (R400). -/
theorem raise_of_live {x : Raise} {s : State} (h : isSet (Reg.FLS.LIVE x.n) s = true) : raise x s = s :=
  if_pos (by simp [h])

theorem changes_raise {x : Raise} {s : State} (hc : Calm x.n s) : Changes raiseParts (raiseFields x.n) s (raise x s) :=
  (Changes.refl _ _ s).raise x hc (fun _ h => h) fun _ h => List.mem_map_of_mem h

/-- A calm raise of a source that may be live already. -/
theorem changes_raise_of_calm_or_live {x : Raise} {s : State} (h : isSet (Reg.FLS.LIVE x.n) s = true ∨ Calm x.n s) :
    Changes raiseParts (raiseFields x.n) s (raise x s) := by
  rcases h with h | h
  · rw [raise_of_live h]
    exact .refl _ _ _
  · exact changes_raise h

theorem changes_raiseSimple {n : Nat} {s : State} (hc : Calm n s) (reason inst snap2 snap3 : Nat) :
    Changes raiseParts (raiseFields n) s (raiseSimple n reason inst snap2 snap3 s) :=
  changes_raise (x := ⟨n, reason, inst, snap2, snap3, false, false⟩) hc

theorem changes_raiseHeld {n : Nat} {s : State} (hc : Calm n s) (reason inst snap2 snap3 : Nat) :
    Changes raiseParts (raiseFields n) s (raiseHeld n reason inst snap2 snap3 s) :=
  changes_raise (x := ⟨n, reason, inst, snap2, snap3, false, true⟩) hc

theorem raised_raiseSimple {n : Nat} {s : State} (hf : Fresh n s) (hr : srcReserved n = false) (hn : n < 384)
    (reason inst snap2 snap3 : Nat) : Raised n s (raiseSimple n reason inst snap2 snap3 s) := raised_raise hf hr hn

theorem raised_raiseHeld {n : Nat} {s : State} (hf : Fresh n s) (hr : srcReserved n = false) (hn : n < 384)
    (reason inst snap2 snap3 : Nat) : Raised n s (raiseHeld n reason inst snap2 snap3 s) := raised_raise hf hr hn

/-! ### A source before and after other effects -/

/-- What a source is by: what it shows, and the severity and the reaction that it is set to. -/
def sourceCard (n : Nat) : List Fld := Reg.FLS.SRC_CFG_SEV n :: Reg.FLS.SRC_CFG_ACT n :: sourceFields n

/-- The source is as it was. -/
def SameSource (n : Nat) (s t : State) : Prop := ∀ f ∈ sourceCard n, get f t = get f s

theorem card_settle {n : Nat} (hn : n < 384) {f : Fld} (hf : f ∈ sourceCard n) : f.key ∉ settleKeys := by
  have h : ∀ k : Fin 384, ∀ f ∈ sourceCard k, f.key ∉ settleKeys := by decide +kernel
  exact h ⟨n, hn⟩ f hf

/-- An effect on other fields leaves the source as it was. -/
theorem Changes.source {ps : List Part} {fs : List Fld} {s t : State} (h : Changes ps fs s t) {n : Nat} (hn : n < 384)
    (hf : ∀ f ∈ sourceCard n, f.key ∉ fs.map Fld.key) : SameSource n s t :=
  fun f hm => h.regs f (hf f hm) (card_settle hn hm)

theorem SameSource.settle {n : Nat} {t u : State} (hn : n < 384) (k : Keeps settleKeys t u) : SameSource n t u :=
  fun f hm => k.get f (card_settle hn hm)

theorem SameSource.trans {n : Nat} {s t u : State} (h : SameSource n s t) (k : SameSource n t u) : SameSource n s u :=
  fun f hf => (k f hf).trans (h f hf)

theorem SameSource.live {n : Nat} {s t : State} (h : SameSource n s t) :
    isSet (Reg.FLS.LIVE n) t = isSet (Reg.FLS.LIVE n) s := by
  rw [isSet, isSet, h _ (by simp [sourceCard, sourceFields])]

theorem SameSource.calm {n : Nat} {s t : State} (h : SameSource n s t) (hc : Calm n s) : Calm n t := by
  have hs := h (Reg.FLS.SRC_CFG_SEV n) (by simp [sourceCard])
  have ha := h (Reg.FLS.SRC_CFG_ACT n) (by simp [sourceCard])
  simpa only [Calm, hs, ha] using hc

theorem SameSource.fresh {n : Nat} {s t : State} (h : SameSource n s t) (hf : Fresh n s) : Fresh n t := by
  have hl := h (Reg.FLS.LIVE n) (by simp [sourceCard, sourceFields])
  have hs := h (Reg.FLS.SRC_CFG_SEV n) (by simp [sourceCard])
  have ha := h (Reg.FLS.SRC_CFG_ACT n) (by simp [sourceCard])
  simpa only [Fresh, Calm, isSet, hl, hs, ha] using hf

/-- What is raised after an effect on other fields is raised. -/
theorem SameSource.raised {n : Nat} {s t u : State} (h : SameSource n s t) (hr : Raised n t u) : Raised n s u := by
  obtain ⟨hsticky, hcount⟩ := hr
  have hc := h (Reg.FLS.SRC_CFG_COUNT n) (by simp [sourceCard, sourceFields])
  exact ⟨hsticky, by rw [hcount, oneMore, oneMore, hc]⟩

/-- What was raised stays so over an effect on other fields. -/
theorem SameSource.stays {n : Nat} {s t u : State} (h : SameSource n t u) (hr : Raised n s t) : Raised n s u := by
  obtain ⟨hsticky, hcount⟩ := hr
  exact ⟨(h _ (by simp [sourceCard, sourceFields])).trans hsticky,
    (h _ (by simp [sourceCard, sourceFields])).trans hcount⟩

/-! ### The parts that a calm raise changes -/

/-- The parts of `raiseParts` that a detector's effects work on, without what a calm raise changes of them: the pulse of the
pin, the reactions that wait for a save, and whether the first-error latch was read. -/
def calmParts (s : State) : Pwr × Sav × Flt :=
  ({ s.pwr with pulseLeft := 0 }, { s.sav with waitingActs := [] }, { s.flt with firstRead := false })

/-- Between two states these parts are the same. -/
def SameCalm (s t : State) : Prop := calmParts t = calmParts s

theorem liveFall_calm (n : Nat) (s : State) : SameCalm s (liveFall n s) := by
  unfold liveFall
  split
  · rfl
  · exact when_keeps (SameCalm s) _ _ _ rfl id

theorem latchFirst_calm (x : Raise) (sev : Nat) (s : State) : SameCalm s (latchFirst x sev s) := by
  unfold latchFirst
  split
  · rfl
  · split <;> simp [SameCalm, calmParts]

theorem emitWide_calm (q : Nat) (words : List (BitVec 16)) (pad : Bool) (s : State) :
    SameCalm s (emitWide q words pad s) := by
  unfold emitWide
  exact when_keeps (SameCalm s) _ _ _ rfl id

theorem pushWord_calm (q : Nat) (v : BitVec 16) (s : State) : SameCalm s (pushWord q v s) := by
  unfold pushWord
  dsimp only
  split
  · exact emitWide_calm _ _ _ _
  · rfl

theorem queueShow_calm (q : Nat) (s : State) : SameCalm s (queueShow q s) := by
  unfold queueShow queueMarks
  simp only [SameCalm, calmParts, live, put1, set_pwr, set_sav, set_flt, setQueue]
  refine when_keeps (SameCalm s) _ _ _ (when_keeps (SameCalm s) _ _ _ ?_ fun hu => ?_) fun hu => ?_
  · simp only [SameCalm, calmParts, set_pwr, set_sav, set_flt]
  · simp [SameCalm, calmParts]
  · simpa [SameCalm, calmParts] using hu

theorem pushRecord_calm (r : List (BitVec 16)) (s : State) : SameCalm s (pushRecord 0 r s) := by
  unfold pushRecord
  dsimp only
  split
  · rfl
  · split
    · rename_i h
      exact absurd h (by decide)
    · split
      · unfold pushWords queueCredits
        refine (queueShow_calm 0 _).trans ?_
        exact forEach_keeps (SameCalm s) _ _ _ rfl fun v _ u hu => (pushWord_calm 0 v u).trans hu
      · rfl

theorem tellRaise_calm {x : Raise} {before : State} (s : State) (hc : Calm x.n before) :
    SameCalm s (tellRaise x before s) := by
  obtain ⟨-, -, hblock, hchip⟩ := hc
  have hlatched : SameCalm s (s |> when (3 ≤ raiseSev x.n before) (set Reg.SYS.PERSIST_FAULT 1)
      |> latchFirst x (raiseSev x.n before)) :=
    (latchFirst_calm _ _ _).trans (when_keeps (SameCalm s) _ _ _ rfl id)
  have htold := when_keeps (SameCalm s) (2 ≤ raiseSev x.n before)
    (faultRecord x.n (raiseSev x.n before) x.injected (snap0Of x) x.snap2 x.snap3) _ hlatched
    fun hu => (pushRecord_calm _ _).trans hu
  unfold tellRaise
  generalize when (2 ≤ raiseSev x.n before) _ _ = u at htold
  dsimp only
  split
  · exact htold
  · unfold react
    simp only [hblock, hchip, when_false]
    exact when_keeps (SameCalm s) _ _ _ (when_keeps (SameCalm s) _ _ _ (when_keeps (SameCalm s) _ _ _
      (when_keeps (SameCalm s) _ _ _ htold id) id) id) id

/-- A calm raise changes no other part than the collector's own, and of `raiseParts` only what `calmParts` leaves out. -/
theorem raise_calm {x : Raise} {s : State} (hc : Calm x.n s) : SameCalm s (raise x s) := by
  cases hr : srcReserved x.n
  case true => rw [show raise x s = s from if_pos (by simp [hr])]; rfl
  case false =>
    cases hl : isSet (Reg.FLS.LIVE x.n) s
    case true => rw [raise_of_live hl]; rfl
    case false =>
      rw [raise_of_fresh ⟨hl, hc⟩ hr]
      exact when_keeps (SameCalm s) _ _ _ (tellRaise_calm _ hc) fun hu => (liveFall_calm _ _).trans hu

end Sys2Proof.Machine
end

section
/-! SUPPORT. The commands of SYS and IRQ (R19, R97, R100), and of the Marver and the NAND interface (R203, R205, R238,
R249). -/

namespace Sys2Proof.Machine
set_option Elab.async false

/-! ### A command that writes fields -/

/-- What an effect stores in a field that the end of a command leaves alone. -/
theorem Keeps.stored {u t : State} (k : Keeps settleKeys u t) {f : Fld} {v : Nat} (hf : f.key ∉ settleKeys)
    (h : Machine.get f u = v) : Machine.get f t = v := (k.get f hf).trans h

/-! ### SYS and IRQ -/

theorem completes_capAck {s : State} (hs : Ready s) {w : Writer} (hw : Reaches w 0x14C 1 s) :
    Completes (.capAck w) s fun t =>
      get Reg.SYS.PERSIST_CAPACITY t = 0 ∧ Changes [] [Reg.SYS.PERSIST_CAPACITY] s t :=
  .leavesReached hs hw (k := ackCapacity) rfl rfl hs.2 fun _ k =>
    ⟨k.stored (by decide) (get_set_same _ _ _), ((Changes.begin _ _ s).set _ _ (by simp)).ended k⟩

theorem changes_werrRange (w : Writer) (addr : Nat) (s : State) :
    Changes [] [Reg.BLKWERR_RANGE (addr / 4096), Reg.BLKWERR_OFFSET (addr / 4096), Reg.BLKWERR_SOURCE (addr / 4096)] s
      (werrRange w addr s) :=
  (((Changes.refl _ _ s).set _ _ (by simp)).set _ _ (by simp)).set _ _ (by simp)

theorem get_werrRange (w : Writer) (addr : Nat) (s : State) :
    get (Reg.BLKWERR_RANGE (addr / 4096)) (werrRange w addr s) = 1 := by
  unfold werrRange werr
  rw [get_set_other _ _ (by simp [Fld.key, Reg.BLKWERR_RANGE, Reg.BLKWERR_SOURCE]),
    get_set_other _ _ (by simp [Fld.key, Reg.BLKWERR_RANGE, Reg.BLKWERR_OFFSET]), get_set_same]
  rfl

theorem completes_mgmtPortChange {s : State} (hs : Ready s) {w : Writer} {n : Fin 4} (hw : Reaches w 0x10C n.val s) :
    Completes (.mgmtPortChange w n) s fun t =>
      if portUsed n s then get Reg.SYS.MGMT_PORT_PORT t = n ∧ Changes [] [Reg.SYS.MGMT_PORT_PORT] s t
      else get (Reg.BLKWERR_RANGE 0) t = 1 ∧
        Changes [] [Reg.BLKWERR_RANGE 0, Reg.BLKWERR_OFFSET 0, Reg.BLKWERR_SOURCE 0] s t := by
  cases hn : portUsed n s
  case false =>
    simp only [Bool.false_eq_true, if_false]
    exact .leavesReached hs hw (k := writeMgmtPort w n) rfl (if_neg (ne_true_of_eq_false hn)) hs.2 fun t k =>
      ⟨k.stored (by decide) (get_werrRange w 0x10C _),
        ((Changes.begin _ _ s).trans (changes_werrRange w 0x10C _)).ended k⟩
  case true =>
    simp only [if_true]
    refine .leavesReached hs hw (k := writeMgmtPort w n) rfl (if_pos hn) hs.2 fun t k =>
      ⟨k.stored (by decide) ((get_set_same _ _ _).trans ?_), ((Changes.begin _ _ s).set _ _ (by simp)).ended k⟩
    exact Nat.mod_eq_of_lt n.isLt

theorem completes_irqFind {s : State} (hs : Ready s) {w : Writer} {v : BitVec 7} {start : BitVec 12}
    (hw : Reaches w 0x311C (v.toNat + start.toNat * 256) s) :
    Completes (.irqFind w v start) s fun t =>
      t.hp.finding = true ∧ get Reg.IRQ.FIND_VECTOR t = v.toNat ∧ get Reg.IRQ.FIND_START t = start.toNat ∧
      get Reg.IRQ.FIND_RES_DONE t = 0 ∧ get Reg.IRQ.FIND_RES_FOUND t = 0 := by
  refine .leavesReached hs hw (k := writeFind v.toNat start.toNat) rfl rfl hs.2 fun t k =>
    ⟨congrArg Hp.finding k.hp, k.stored (by decide) ?_, k.stored (by decide) ?_, k.stored (by decide) ?_,
      k.stored (by decide) ?_⟩
  · simp (disch := decide) only [writeFind, get_set_other, get_set_same]
    exact Nat.mod_eq_of_lt v.isLt
  · simp (disch := decide) only [writeFind, get_set_other, get_set_same]
    exact Nat.mod_eq_of_lt start.isLt
  all_goals
    simp (disch := decide) only [writeFind, get_set_other, get_set_same]
    rfl

theorem completes_irqFindDone {s : State} (hs : Ready s) (hf : s.hp.finding = true) :
    let r := findPage (get Reg.IRQ.FIND_VECTOR s) (get Reg.IRQ.FIND_START s) s
    Completes .irqFindDone s fun t =>
      t.hp.finding = false ∧ get Reg.IRQ.FIND_RES_DONE t = 1 ∧ get Reg.IRQ.FIND_RES_FOUND t = b2n r.isSome ∧
      get Reg.IRQ.FIND_RES_PAGE t = r.getD 0 % 2 ^ 12 := by
  intro r
  have hb : (begun s).hp.finding = true := hf
  refine .of_run hs rfl ?_
  rw [if_pos hb]
  have k := settle_keeps s _ (show State.reqs ({ begun s with hp := { s.hp with finding := false } }
    |> set Reg.IRQ.FIND_RES_PAGE (r.getD 0) |> put1 Reg.IRQ.FIND_RES_FOUND r.isSome
    |> set Reg.IRQ.FIND_RES_DONE 1) = [] from hs.2)
  refine ⟨congrArg Hp.finding k.hp, k.stored (by decide) (get_set_same _ _ _), k.stored (by decide) ?_,
    k.stored (by decide) ?_⟩
  · simp (disch := decide) only [put1, get_set_other, get_set_same]
    cases r.isSome <;> rfl
  · simp (disch := decide) only [put1, get_set_other, get_set_same]
    rfl

/-! ### Messages that wait (R119) -/

/-- A message waits on a port. -/
def Awaits (m : Nat × Nat) (s : State) : Prop := m ∈ s.hp.msixPending

/-- Between two states the ports are the same but for the event log and the credits. -/
def SameWaiting (s t : State) : Prop := t.hp.msixPending = s.hp.msixPending

theorem pushWord_waiting (q : Nat) (v : BitVec 16) (s : State) : SameWaiting s (pushWord q v s) := by
  unfold pushWord
  dsimp only
  split
  · unfold emitWide
    exact when_keeps (SameWaiting s) _ _ _ rfl id
  · rfl

theorem queueShow_waiting (q : Nat) (s : State) : SameWaiting s (queueShow q s) := by
  unfold queueShow queueMarks
  simp only [SameWaiting, live, set_hp, setQueue]
  refine when_keeps (SameWaiting s) _ _ _ (when_keeps (SameWaiting s) _ _ _ ?_ fun hu => ?_) fun hu => ?_
  · simp only [SameWaiting, put1, set_hp]
  · simpa [SameWaiting] using hu
  · simpa [SameWaiting] using hu

theorem pushRecord_waiting (r : List (BitVec 16)) (s : State) : SameWaiting s (pushRecord 2 r s) := by
  unfold pushRecord
  dsimp only
  split
  · rfl
  · rw [if_pos rfl]
    split
    · refine (queueShow_waiting 2 _).trans ?_
      exact forEach_keeps (SameWaiting s) _ _ _ rfl fun v _ u hu => (pushWord_waiting 2 v u).trans hu
    · rfl

theorem persistShow_waiting (s : State) : SameWaiting s (persistShow s) := by
  unfold persistShow
  dsimp only
  split
  · rfl
  · refine (pushRecord_waiting _ _).trans (when_keeps (SameWaiting s) _ _ _ rfl fun hu => ?_)
    exact when_keeps (SameWaiting s) _ _ _ hu id

theorem domainOkShow_waiting (s : State) : SameWaiting s (domainOkShow s) := by
  unfold domainOkShow
  split <;> rfl

theorem throttleShow_waiting (first : Bool) (n : Nat) (s : State) : SameWaiting s (throttleShow first n s) := by
  unfold throttleShow
  dsimp only
  split
  · rfl
  · exact when_keeps (SameWaiting s) _ _ _ rfl id

theorem marksShow_waiting (s : State) : SameWaiting s (marksShow s) := by
  unfold marksShow
  split
  · rfl
  · refine (throttleShow_waiting _ _ _).trans ?_
    split
    · rfl
    · exact when_keeps (SameWaiting s) _ _ _ (when_keeps (SameWaiting s) _ _ _ (when_keeps (SameWaiting s) _ _ _
        (when_keeps (SameWaiting s) _ _ _ rfl id) id) id) id

theorem creditsShow_waiting (s : State) : SameWaiting s (creditsShow s) := by
  unfold creditsShow
  dsimp only
  split <;> rfl

theorem sendVector_awaits {m : Nat × Nat} (v : Nat) {s : State} (h : Awaits m s) : Awaits m (sendVector v s) := by
  unfold sendVector
  dsimp only
  split
  · split
    · exact h
    · exact List.mem_append_left _ h
  · exact h

theorem dueVector_awaits {m : Nat × Nat} (v : Nat) {s : State} (h : Awaits m s) : Awaits m (dueVector v s) := by
  unfold dueVector
  split
  · exact h
  · exact when_keeps (Awaits m) _ _ _ (sendVector_awaits v h) id

theorem interrupts_awaits {m : Nat × Nat} (before : State) {s : State} (h : Awaits m s) : Awaits m (interrupts before s) :=
  forEach_keeps (Awaits m) _ _ _ h fun _ _ _ hu => when_keeps (Awaits m) _ _ _
    (when_keeps (Awaits m) _ _ _ hu (dueVector_awaits _)) id

/-- A message that waits, waits to the end of the command. -/
theorem settle_awaits {m : Nat × Nat} (before : State) {s : State} (hr : s.reqs = []) (h : Awaits m s) :
    Awaits m (settle before s) := by
  refine interrupts_awaits before ?_
  have hw : SameWaiting s (s |> reactions |> domainOkShow |> persistShow |> marksShow |> creditsShow) := by
    rw [show reactions s = s by simp [reactions, hr]]
    exact (creditsShow_waiting _).trans ((marksShow_waiting _).trans ((persistShow_waiting _).trans (domainOkShow_waiting _)))
  unfold Awaits
  rw [hw]
  exact h

/-! ### The end of a holdoff (R100) -/

/-- The state without a vector's holdoff. -/
def heldOffEnded (v : Nat) (s : State) : State :=
  { s with hp := { s.hp with holdoffs := s.hp.holdoffs.filter (·.vector != v) } }

/-- With its holdoff ended a message that fell due goes out or waits. -/
theorem dueVector_heldOffEnded (v : Nat) (s : State) :
    ∃ hs, dueVector v (heldOffEnded v s) =
      { sendVector v (heldOffEnded v s) with hp := { (sendVector v (heldOffEnded v s)).hp with holdoffs := hs } } := by
  have hnone : (heldOffEnded v s).hp.holdoffs.any (·.vector == v) = false := by
    simp [heldOffEnded]
  unfold dueVector
  rw [if_neg (by simp [hnone])]
  cases hz : get Reg.IRQ.HOLDOFF_US (heldOffEnded v s) != 0
  · exact ⟨_, rfl⟩
  · exact ⟨_, rfl⟩

theorem changes_heldOffEnded (v : Nat) (s : State) : Changes [] [] s (heldOffEnded v s) :=
  .ofKeeps (Keeps.ofHp _ rfl)

theorem changes_dueVector (v : Nat) (s : State) : Changes [] [] s (dueVector v s) :=
  .ofKeeps (keeps_dueVector (Keeps.refl _ s) v)

/-- The message that fell due goes out where the link is up and the table entry open (R119). -/
theorem sent_dueVector {v : Nat} {s : State} (hout : s.out = []) (hl : get (Reg.HPT.LINK_WIDTH (vectorPort v s)) s ≠ 0)
    (ho : (vectorPort v s, v) ∈ s.hp.msixOpen) :
    (dueVector v (heldOffEnded v s)).out = [Out.msix (vectorPort v s) v] := by
  obtain ⟨hs, he⟩ := dueVector_heldOffEnded v s
  rw [he]
  unfold sendVector
  have hopen : (heldOffEnded v s).hp.msixOpen.contains (vectorPort v (heldOffEnded v s), v) = true :=
    List.contains_iff_mem.2 ho
  have hlink : get (Reg.HPT.LINK_WIDTH (vectorPort v (heldOffEnded v s))) (heldOffEnded v s) ≠ 0 := hl
  simp only [hopen, hlink]
  exact congrArg (· ++ [Out.msix (vectorPort v s) v]) hout

/-- Otherwise it waits (R119). -/
theorem awaits_dueVector {v : Nat} {s : State} (h : get (Reg.HPT.LINK_WIDTH (vectorPort v s)) s = 0 ∨
    (vectorPort v s, v) ∉ s.hp.msixOpen) : Awaits (vectorPort v s, v) (dueVector v (heldOffEnded v s)) := by
  obtain ⟨hs, he⟩ := dueVector_heldOffEnded v s
  rw [he]
  have hp : get (Reg.HPT.LINK_WIDTH (vectorPort v (heldOffEnded v s))) (heldOffEnded v s) = 0 ∨
      (!(heldOffEnded v s).hp.msixOpen.contains (vectorPort v (heldOffEnded v s), v)) = true :=
    h.imp id fun h => by
      rw [Bool.not_eq_true']
      exact eq_false_of_ne_true (mt List.contains_iff_mem.1 h)
  unfold sendVector
  dsimp only
  rw [if_pos (by simpa using hp)]
  split
  case isTrue hc => exact List.contains_iff_mem.1 hc
  case isFalse hc => exact List.mem_append_right _ (List.mem_singleton.2 rfl)

theorem completes_irqHoldoffExpiry {s : State} (hs : Ready s) (v : BitVec 7) :
    let due := s.hp.holdoffs.any (fun h => h.vector == v.toNat && h.due)
    let n := vectorPort v.toNat s
    Completes (.irqHoldoffExpiry v) s fun t =>
      (due = true → get (Reg.HPT.LINK_WIDTH n) s ≠ 0 → (n, v.toNat) ∈ s.hp.msixOpen →
        [Out.msix n v.toNat] <+: t.out) ∧
      (due = true → get (Reg.HPT.LINK_WIDTH n) s = 0 ∨ (n, v.toNat) ∉ s.hp.msixOpen →
        (n, v.toNat) ∈ t.hp.msixPending) ∧ Changes [] [] s t := by
  intro due n
  refine .of_run hs (f := fun s => when due (dueVector v.toNat) (heldOffEnded v.toNat s)) rfl ?_
  have hc : Changes [] [] s (when due (dueVector v.toNat) (heldOffEnded v.toNat (begun s))) :=
    ((Changes.begin _ _ s).trans (changes_heldOffEnded _ _)).cond _ _ fun u hu => hu.trans (changes_dueVector _ u)
  have hr := hc.reqs.trans hs.2
  refine ⟨fun hd hl ho => (settle_keeps s _ hr).sent ?_, fun hd hw => settle_awaits s hr ?_, hc.settled hs.2 s⟩
  · rw [hd, when_true]
    exact sent_dueVector rfl hl ho
  · rw [hd, when_true]
    exact awaits_dueVector hw

/-- Settles O9. -/
theorem systemCommands : Obligations.SystemCommands := by
  unfold Obligations.SystemCommands
  exact fun s hs => ⟨fun _ hw => completes_capAck hs hw, fun _ _ hw => completes_mgmtPortChange hs hw,
    fun _ _ _ hw => completes_irqFind hs hw, completes_irqFindDone hs, completes_irqHoldoffExpiry hs⟩

/-! ### Recounts (R238) -/

theorem completes_fullRecount {s : State} (hs : Ready s) (ha : isSet Reg.MRV.RC_STS_FULL_ACTIVE s = false)
    (hd : pageDark 0x40 s = false) :
    Completes .fullRecount s fun t =>
      get Reg.MRV.RC_STS_FULL_ACTIVE t = 1 ∧ get Reg.SYS.PERSIST_RECOUNT t = 1 ∧ isSet Reg.SYS.PERSIST_OK t = false ∧
      Changes [.mrv] [Reg.MRV.RC_STS_FULL_ACTIVE, Reg.SYS.PERSIST_RECOUNT] s t := by
  refine .of_run hs rfl ?_
  have hb : (isSet Reg.MRV.RC_STS_FULL_ACTIVE (begun s) || pageDark 0x40 (begun s)) = false := by
    rw [show isSet Reg.MRV.RC_STS_FULL_ACTIVE (begun s) = false from ha, show pageDark 0x40 (begun s) = false from hd]
    rfl
  rw [if_neg (by simp [hb])]
  have k := settle_keeps s (startFullRecount false (begun s)) hs.2
  have hrecount : get Reg.SYS.PERSIST_RECOUNT (settle s (startFullRecount false (begun s))) = 1 :=
    k.stored (by decide) (get_set_same _ _ _)
  refine ⟨k.stored (by decide) ?_, hrecount, ?_, ?_⟩
  · simp (disch := decide) only [startFullRecount, get_set_other, get_set_same]
    rfl
  · have hinv : PersistInv _ := settle_persistInv s (startFullRecount false (begun s))
    rw [hinv]
    have hreasons : persistReasons (settle s (startFullRecount false (begun s))) ≠ 0 := by
      unfold persistReasons
      omega
    simp [hreasons]
  · exact ((((Changes.begin _ _ s).in_mrv _ (by simp)).set _ _ (by simp)).set _ _ (by simp)).ended k

/-- The state in which a full recount's end is taken. -/
def fullEnded (s : State) : State :=
  { s with mrv := { s.mrv with fullEnded := true } } |> set Reg.MRV.RC_STS_FULL_ACTIVE 0

theorem fullRecountDone_of_active {s : State} (ha : isSet Reg.MRV.RC_STS_FULL_ACTIVE s = true) :
    fullRecountDone s = endRecount (countDirty 0 16777216 s) false (!s.mrv.fullByEcc) (fullEnded s) := by
  unfold fullRecountDone
  rw [if_neg (by simp [ha])]
  rfl

theorem changes_fullEnded (s : State) : Changes [.mrv] [Reg.MRV.RC_STS_FULL_ACTIVE] s (fullEnded s) :=
  ((Changes.refl _ _ s).in_mrv _ (by simp)).set _ _ (by simp)

theorem countDirty_begun (lo n : Nat) (s : State) : countDirty lo n (begun s) = countDirty lo n s := rfl

/-- What the end of every recount shows. -/
def recountShown (accum : Nat) (s : State) : State :=
  s |> set Reg.MRV.RC_LAST_ACCUM accum |> inc Reg.MRV.RC_STS_PASSES |> event 0x40 3

theorem changes_recountShown (accum : Nat) (s : State) :
    Changes [] [Reg.MRV.RC_LAST_ACCUM, Reg.MRV.RC_STS_PASSES, Reg.EVT_STS 0x40 3] s (recountShown accum s) :=
  (((Changes.refl _ _ s).set _ _ (by simp)).inc _ (by simp)).event _ _ (by simp)

theorem endRecount_of_equal {accum : Nat} {s : State} (raises : Bool) (h : accum = get Reg.MRV.DIRTY_COUNT s) :
    endRecount accum false raises s = recountShown accum s := by
  unfold endRecount
  simp [← h, recountShown]

/-- A count that does not agree is corrected, after source 178 where the recount raises it. -/
theorem endRecount_of_unequal {accum : Nat} {s : State} (raises : Bool) (h : accum ≠ get Reg.MRV.DIRTY_COUNT s) :
    endRecount accum false raises s =
      (recountShown accum s
        |> when raises (raiseSimple 178 0 0 accum (get Reg.MRV.DIRTY_COUNT (recountShown accum s)))
        |> set Reg.MRV.DIRTY_COUNT accum |> set Reg.MRV.RC_STS_MISMATCH 1 |> event 0x40 0) := by
  unfold endRecount
  have hb : (accum != get Reg.MRV.DIRTY_COUNT s || false) = true := by simp [h]
  simp only [hb, when_true]
  rfl

theorem completes_fullRecountDone_equal {s : State} (hs : Ready s) (ha : isSet Reg.MRV.RC_STS_FULL_ACTIVE s = true)
    (he : countDirty 0 16777216 s = get Reg.MRV.DIRTY_COUNT s) :
    Completes .fullRecountDone s fun t =>
      get Reg.MRV.RC_STS_FULL_ACTIVE t = 0 ∧
      Changes [.mrv] [Reg.MRV.RC_STS_FULL_ACTIVE, Reg.MRV.RC_LAST_ACCUM, Reg.MRV.RC_STS_PASSES, Reg.EVT_STS 0x40 3] s t := by
  have hshow := changes_recountShown (countDirty 0 16777216 s) (fullEnded (begun s))
  have hab : isSet Reg.MRV.RC_STS_FULL_ACTIVE (begun s) = true := ha
  refine .leaves hs (f := fullRecountDone) rfl ((fullRecountDone_of_active hab).trans ?_) (hshow.reqs.trans hs.2) fun t k =>
    ⟨?_, ?_⟩
  · rw [countDirty_begun]
    refine endRecount_of_equal _ (he.trans ?_)
    exact ((changes_fullEnded (begun s)).regs Reg.MRV.DIRTY_COUNT (by decide) (by decide)).symm
  · exact k.stored (by decide) ((hshow.regs _ (by decide) (by decide)).trans (get_set_same _ _ _))
  · exact ((Changes.begin _ _ s).trans (((changes_fullEnded _).mono (by simp) (by simp)).trans
      (hshow.mono (by simp) (by simp)))).ended k

theorem completes_fullRecountDone_unequal {s : State} (hs : Ready s) (ha : isSet Reg.MRV.RC_STS_FULL_ACTIVE s = true)
    (hne : countDirty 0 16777216 s ≠ get Reg.MRV.DIRTY_COUNT s) :
    Completes .fullRecountDone s fun t => (s.mrv.fullByEcc = false → Fresh 178 s) →
      get Reg.MRV.DIRTY_COUNT t = countDirty 0 16777216 s % 2 ^ Reg.MRV.DIRTY_COUNT.w ∧
      get Reg.MRV.RC_STS_MISMATCH t = 1 ∧ get (Reg.EVT_STS 0x40 0) t = 1 ∧
      (s.mrv.fullByEcc = false → Raised 178 s t) := by
  refine .of_run hs (f := fullRecountDone) rfl fun hfresh => ?_
  have hab : isSet Reg.MRV.RC_STS_FULL_ACTIVE (begun s) = true := ha
  rw [fullRecountDone_of_active hab, countDirty_begun, endRecount_of_unequal _ fun h => hne
    (h.trans ((changes_fullEnded (begun s)).regs _ (by decide) (by decide)))]
  generalize countDirty 0 16777216 s = accum
  have hshown : Changes [.mrv] [Reg.MRV.RC_STS_FULL_ACTIVE, Reg.MRV.RC_LAST_ACCUM, Reg.MRV.RC_STS_PASSES,
      Reg.EVT_STS 0x40 3] s (recountShown accum (fullEnded (begun s))) :=
    (Changes.begin _ _ s).trans (((changes_fullEnded _).mono (by simp) (by simp)).trans
      ((changes_recountShown _ _).mono (by simp) (by simp)))
  generalize recountShown accum (fullEnded (begun s)) = u at hshown
  have hsource := hshown.source (n := 178) (by decide) (by decide)
  have hraised : Changes raiseParts (raiseFields 178) u
      (when (!s.mrv.fullByEcc) (raiseSimple 178 0 0 accum (get Reg.MRV.DIRTY_COUNT u)) u) := by
    cases he : s.mrv.fullByEcc
    case true => exact .refl _ _ _
    case false => exact changes_raiseSimple (hsource.fresh (hfresh he)).2 _ _ _ _
  have htold : s.mrv.fullByEcc = false →
      Raised 178 s (when (!s.mrv.fullByEcc) (raiseSimple 178 0 0 accum (get Reg.MRV.DIRTY_COUNT u)) u) := fun he => by
    rw [he]
    exact hsource.raised (raised_raiseSimple (hsource.fresh (hfresh he)) (by decide) (by decide) _ _ _ _)
  generalize when (!s.mrv.fullByEcc) _ u = v at hraised htold
  have hc : Changes [] [Reg.MRV.DIRTY_COUNT, Reg.MRV.RC_STS_MISMATCH, Reg.EVT_STS 0x40 0] v
      (v |> set Reg.MRV.DIRTY_COUNT accum |> set Reg.MRV.RC_STS_MISMATCH 1 |> event 0x40 0) :=
    (((Changes.refl _ _ v).set _ _ (by simp)).set _ _ (by simp)).event _ _ (by simp)
  have k := settle_keeps s _ (hc.reqs.trans (hraised.reqs.trans (hshown.reqs.trans hs.2)))
  refine ⟨k.stored (by decide) ?_, k.stored (by decide) ?_, k.stored (by decide) (get_set_same _ _ _), fun he =>
    (SameSource.settle (by decide) k).stays ((hc.source (by decide) (by decide)).stays (htold he))⟩
  · simp (disch := decide) only [event, get_set_other, get_set_same]
  · simp (disch := decide) only [event, get_set_other, get_set_same]
    rfl

/-! ### Peeks (R249) -/

theorem completes_peek {s : State} (hs : Ready s) {w : Writer} {i : BitVec 25} (hw : Reaches w 0x4012C i.toNat s) :
    Completes (.peek w i) s fun t =>
      t.mrv.peeking = true ∧ get Reg.MRV.PEEK_IDX_INDEX t = i.toNat ∧ get Reg.MRV.PEEK_VALID t = 0 ∧
      Changes [.mrv] [Reg.MRV.PEEK_IDX_INDEX, Reg.MRV.PEEK_VALID] s t := by
  refine .leavesReached hs hw (k := writePeek i.toNat) rfl rfl hs.2 fun t k =>
    ⟨congrArg Mrv.peeking k.mrv, k.stored (by decide) ?_, k.stored (by decide) (get_set_same _ _ _),
      ((((Changes.begin _ _ s).in_mrv _ (by simp)).set _ _ (by simp)).set _ _ (by simp)).ended k⟩
  simp (disch := decide) only [writePeek, get_set_other, get_set_same]
  exact Nat.mod_eq_of_lt i.isLt

/-- What a peek shows of an entry. -/
def peekShown (code : Nat) (s : State) : State :=
  { s with mrv := { s.mrv with peeking := false } }
    |> set Reg.MRV.PEEK_ENTRY code |> set Reg.MRV.PEEK_CHECK (Config.marverCheck (BitVec.ofNat 16 code)).toNat
    |> set Reg.MRV.PEEK_VALID 1

theorem changes_peekShown (code : Nat) (s : State) :
    Changes [.mrv] [Reg.MRV.PEEK_ENTRY, Reg.MRV.PEEK_CHECK, Reg.MRV.PEEK_VALID] s (peekShown code s) :=
  ((((Changes.refl _ _ s).in_mrv _ (by simp)).set _ _ (by simp)).set _ _ (by simp)).set _ _ (by simp)

theorem completes_peekDone {s : State} (hs : Ready s) (hp : s.mrv.peeking = true) :
    Completes .peekDone s fun t =>
      get Reg.MRV.PEEK_ENTRY t = entryCode (entryOf (get Reg.MRV.PEEK_IDX_INDEX s) s) % 65536 ∧
      get Reg.MRV.PEEK_VALID t = 1 ∧
      Changes [.mrv] [Reg.MRV.PEEK_ENTRY, Reg.MRV.PEEK_CHECK, Reg.MRV.PEEK_VALID] s t := by
  have hb : ¬ ((!(begun s).mrv.peeking) = true) := by simp [hp]
  let code := entryCode (entryOf (get Reg.MRV.PEEK_IDX_INDEX s) s)
  refine .leaves hs (f := peekResult) (u := peekShown code (begun s)) rfl (if_neg hb) hs.2 fun t k =>
    ⟨k.stored (by decide) ?_, k.stored (by decide) (get_set_same _ _ _),
      ((Changes.begin _ _ s).trans (changes_peekShown _ _)).ended k⟩
  simp (disch := decide) only [peekShown, get_set_other, get_set_same]
  rfl

/-! ### The training of a channel (R203, R205) -/

/-- What the training shows of the channel: its dies answer, or it is failed. -/
def channelShown (ch : Nat) (ok : Bool) (s : State) : State :=
  if ok then
    s |> set (Reg.NCH.STS_TRAINED ch) 1
      |> set (Reg.NCH.STS_DIES_OK ch) (2 ^ diesPerChannel s - 1 -
          Nat.land (2 ^ diesPerChannel s - 1) (get (Reg.NCH.DIE_FAIL_DIES ch) s))
  else channelFailed ch s

/-- The rates follow the channels that are left. -/
def ratesShown (s : State) : State := s |> set Reg.SAV.RATE_MBS (saveRate s) |> set Reg.RSR.RATE_MBS (saveRate s)

theorem changes_ratesShown (s : State) : Changes [] [Reg.SAV.RATE_MBS, Reg.RSR.RATE_MBS] s (ratesShown s) :=
  ((Changes.refl _ _ s).set _ _ (by simp)).set _ _ (by simp)

theorem nandTrained_of_untrained {ch : Nat} {s : State} (hp : channelPresent ch s = true)
    (hd : domainOn (30 + ch / 4) s = true) (hf : s.pwr.firmware = true) (ht : isSet (Reg.NCH.STS_TRAINED ch) s = false)
    (hx : isSet (Reg.NCH.STS_FAILED ch) s = false) (ok : Bool) :
    nandTrained ch ok s = ratesShown (channelShown ch ok s) := by
  unfold nandTrained
  rw [if_neg (by simp [hp, hd, hf, ht, hx])]
  cases ok <;> rfl

/-- The fields of a channel are not among those that the end of a command, or the rates, show. -/
theorem channel_keys (ch : Fin 32) : (Reg.NCH.STS_TRAINED ch).key ∉ settleKeys ∧ (Reg.NCH.STS_DIES_OK ch).key ∉ settleKeys ∧
    (Reg.NCH.STS_FAILED ch).key ∉ settleKeys ∧
    (Reg.NCH.STS_TRAINED ch).key ∉ [Reg.SAV.RATE_MBS, Reg.RSR.RATE_MBS].map Fld.key ∧
    (Reg.NCH.STS_DIES_OK ch).key ∉ [Reg.SAV.RATE_MBS, Reg.RSR.RATE_MBS].map Fld.key ∧
    (Reg.NCH.STS_FAILED ch).key ∉ [Reg.SAV.RATE_MBS, Reg.RSR.RATE_MBS].map Fld.key ∧
    (Reg.NCH.STS_TRAINED ch).key ≠ (Reg.NCH.STS_DIES_OK ch).key ∧
    (Reg.NCH.STS_FAILED ch).key ∉ (raiseFields (192 + ch)).map Fld.key ∧
    (Reg.NCH.STS_FAILED ch).key ≠ (Reg.EVT_STS 0x50 4).key ∧
    (Reg.EVT_STS 0x50 4).key ∉ (raiseFields (192 + ch)).map Fld.key := by
  revert ch
  decide +kernel

theorem completes_channelTrained {s : State} (hs : Ready s) (ch : Fin 32) (hp : channelPresent ch s = true)
    (hd : domainOn (30 + ch.val / 4) s = true) (hf : s.pwr.firmware = true)
    (ht : isSet (Reg.NCH.STS_TRAINED ch) s = false) (hx : isSet (Reg.NCH.STS_FAILED ch) s = false) :
    Completes (.nandInterfaceTrainingDone ch true) s fun t =>
      let all := 2 ^ diesPerChannel s - 1
      get (Reg.NCH.STS_TRAINED ch) t = 1 ∧
      get (Reg.NCH.STS_DIES_OK ch) t = (all - Nat.land all (get (Reg.NCH.DIE_FAIL_DIES ch) s)) % 65536 ∧
      Changes [] [Reg.NCH.STS_TRAINED ch, Reg.NCH.STS_DIES_OK ch, Reg.SAV.RATE_MBS, Reg.RSR.RATE_MBS] s t := by
  obtain ⟨hkt, hkd, -, hrt, hrd, -, hne, -⟩ := channel_keys ch
  have hc : Changes [] [Reg.NCH.STS_TRAINED ch, Reg.NCH.STS_DIES_OK ch, Reg.SAV.RATE_MBS, Reg.RSR.RATE_MBS] s
      (channelShown ch true (begun s)) := ((Changes.begin _ _ s).set _ _ (by simp)).set _ _ (by simp)
  have hrates := changes_ratesShown (channelShown ch true (begun s))
  refine .leaves hs (f := nandTrained ch true) rfl
    (nandTrained_of_untrained (s := begun s) hp hd hf ht hx true) (hrates.reqs.trans (hc.reqs.trans hs.2)) fun t k =>
    ⟨k.stored hkt ?_, k.stored hkd ?_, (hc.trans (hrates.mono (by simp) (by simp +contextual))).ended k⟩
  · rw [hrates.regs _ hrt hkt]
    exact (get_set_other _ _ hne).trans (get_set_same _ _ _)
  · rw [hrates.regs _ hrd hkd]
    exact get_set_same _ _ _

/-- A channel that is failed shows it before its source is raised. -/
def failedShown (ch : Nat) (s : State) : State := s |> set (Reg.NCH.STS_FAILED ch) 1 |> event 0x50 4

theorem changes_failedShown (ch : Nat) (s : State) :
    Changes [] [Reg.NCH.STS_FAILED ch, Reg.EVT_STS 0x50 4] s (failedShown ch s) :=
  ((Changes.refl _ _ s).set _ _ (by simp)).event _ _ (by simp)

theorem channel_source (ch : Fin 32) : ∀ f ∈ sourceCard (192 + ch),
    f.key ∉ [Reg.NCH.STS_FAILED ch, Reg.EVT_STS 0x50 4].map Fld.key ∧
    f.key ∉ [Reg.SAV.RATE_MBS, Reg.RSR.RATE_MBS].map Fld.key := by
  revert ch
  decide +kernel

theorem channelFailed_of_good {ch : Nat} {s : State} (hx : isSet (Reg.NCH.STS_FAILED ch) s = false) :
    channelFailed ch s =
      raiseSimple (192 + ch) 2 ch (get (Reg.NCH.DIE_FAIL_DIES ch) (failedShown ch s)) 0 (failedShown ch s) := by
  unfold channelFailed
  rw [if_neg (by simp [hx])]
  have hd : get (Reg.NCH.DIE_FAIL_DIES ch) (failedShown ch s) = get (Reg.NCH.DIE_FAIL_DIES ch) s :=
    (get_set_other _ _ (by simp [Fld.key, Reg.NCH.DIE_FAIL_DIES, Reg.EVT_STS]; omega)).trans
      (get_set_other _ _ (by simp [Fld.key, Reg.NCH.DIE_FAIL_DIES, Reg.NCH.STS_FAILED]; omega))
  rw [hd]
  rfl

/-- A channel that fails shows it, and its source is raised. -/
theorem channelFailed_raised (ch : Fin 32) {s : State} (hx : isSet (Reg.NCH.STS_FAILED ch) s = false)
    (hf : Fresh (192 + ch) s) :
    get (Reg.NCH.STS_FAILED ch) (channelFailed ch s) = 1 ∧ get (Reg.EVT_STS 0x50 4) (channelFailed ch s) = 1 ∧
      Raised (192 + ch) s (channelFailed ch s) ∧
      Changes raiseParts ([Reg.NCH.STS_FAILED ch, Reg.EVT_STS 0x50 4] ++ raiseFields (192 + ch)) s (channelFailed ch s) := by
  obtain ⟨-, -, hkf, -, -, -, -, hff, hfe, hev⟩ := channel_keys ch
  have hshown := changes_failedShown ch s
  have hn : 192 + ch.val < 384 := by omega
  have hsource := hshown.source hn fun f hf => (channel_source ch f hf).1
  rw [channelFailed_of_good hx]
  have hraise := changes_raiseSimple (hsource.fresh hf).2 2 ch (get (Reg.NCH.DIE_FAIL_DIES ch) (failedShown ch s)) 0
  refine ⟨(hraise.regs _ hff hkf).trans ((get_set_other _ _ hfe).trans (get_set_same _ _ _)),
    (hraise.regs _ hev (by decide)).trans (get_set_same _ _ _),
    hsource.raised (raised_raiseSimple (hsource.fresh hf) ?_ hn _ _ _ _),
    (hshown.mono (by simp) (by simp +contextual)).trans (hraise.mono (fun _ h => h) (by simp +contextual))⟩
  simp only [srcReserved, Bool.or_eq_false_iff, Bool.and_eq_false_iff, decide_eq_false_iff_not]
  omega

theorem completes_channelFailed {s : State} (hs : Ready s) (ch : Fin 32) (hp : channelPresent ch s = true)
    (hd : domainOn (30 + ch.val / 4) s = true) (hf : s.pwr.firmware = true)
    (ht : isSet (Reg.NCH.STS_TRAINED ch) s = false) (hx : isSet (Reg.NCH.STS_FAILED ch) s = false) :
    Completes (.nandInterfaceTrainingDone ch false) s fun t => Fresh (192 + ch) s →
        get (Reg.NCH.STS_FAILED ch) t = 1 ∧ get (Reg.EVT_STS 0x50 4) t = 1 ∧ Raised (192 + ch) s t ∧
        Changes raiseParts ([Reg.NCH.STS_FAILED ch, Reg.EVT_STS 0x50 4, Reg.SAV.RATE_MBS, Reg.RSR.RATE_MBS] ++
          raiseFields (192 + ch)) s t := by
  obtain ⟨-, -, hkf, -, -, hrf, -⟩ := channel_keys ch
  refine .of_run hs (f := nandTrained ch false) rfl fun hfresh => ?_
  rw [nandTrained_of_untrained (s := begun s) hp hd hf ht hx false]
  obtain ⟨hfailed, hevent, hraised, hc⟩ := channelFailed_raised ch (s := begun s) hx hfresh
  have hrates := changes_ratesShown (channelFailed ch (begun s))
  have k := settle_keeps s (ratesShown (channelFailed ch (begun s))) (hrates.reqs.trans (hc.reqs.trans hs.2))
  refine ⟨k.stored hkf ((hrates.regs _ hrf hkf).trans hfailed),
    k.stored (by decide) ((hrates.regs _ (by decide) (by decide)).trans hevent),
    (SameSource.settle (by omega) k).stays ((hrates.source (by omega) fun f hf => (channel_source ch f hf).2).stays hraised),
    Changes.ended (Changes.trans (Changes.begin _ _ s) (Changes.trans (hc.mono (fun _ h => h) ?_)
      (hrates.mono (by simp) ?_))) k⟩
  · simp +contextual
  · simp +contextual

/-- Settles O32. -/
theorem marverCommands : Obligations.MarverCommands := by
  unfold Obligations.MarverCommands
  exact fun s hs => ⟨completes_fullRecount hs, completes_fullRecountDone_equal hs, completes_fullRecountDone_unequal hs,
    fun _ _ hw => completes_peek hs hw, completes_peekDone hs, fun ch hp hd hf ht hx =>
    ⟨completes_channelTrained hs ch hp hd hf ht hx, completes_channelFailed hs ch hp hd hf ht hx⟩⟩

end Sys2Proof.Machine
end

section
/-! SUPPORT. The events of the gauge, its anchors and its commands (R251 to R274). -/

namespace Sys2Proof.Machine
set_option Elab.async false

/-- A command of which something is said under a condition that keeps its effect from asking for a reaction. -/
theorem Completes.leavesIf {c : Instr} {f : State → State} {s : State} {Q : Prop} {P : State → Prop} (hs : Ready s)
    (hc : exec c s = run f s) (h : Q → (f (begun s)).reqs = [] ∧ ∀ t, Keeps settleKeys (f (begun s)) t → P t) :
    Completes c s fun t => Q → P t :=
  .of_run hs hc fun hq => (h hq).2 _ (settle_keeps s _ (h hq).1)

/-! ### The fall of a live bit at the end of an effect -/

theorem isSet_keeps {K : List Nat} {u t : State} (k : Keeps K u t) {f : Fld} (hf : f.key ∉ K) {b : Bool}
    (h : isSet f u = b) : isSet f t = b := by
  rw [← h, isSet, isSet, k.get f hf]

theorem live_settleKeys {n : Nat} (hn : n < 384) : (Reg.FLS.LIVE n).key ∉ settleKeys :=
  source_settle hn (by simp [sourceFields])

theorem live_after_raiseHeld {n : Nat} {s : State} (hf : Fresh n s) (hr : srcReserved n = false) (hn : n < 384)
    (reason inst snap2 snap3 : Nat) : isSet (Reg.FLS.LIVE n) (raiseHeld n reason inst snap2 snap3 s) = true :=
  live_raise (x := ⟨n, reason, inst, snap2, snap3, false, true⟩) hf hr hn

/-! ### The bank (R3, R251) -/

/-- What the detection of the bank shows. -/
def bankShown (s : State) : State :=
  s |> setEng (fun e => { e with bankSeen := true }) |> set Reg.SYS.CAPS_CAP_BANK 1

theorem changes_bankShown (s : State) : Changes [.eng] [Reg.SYS.CAPS_CAP_BANK] s (bankShown s) :=
  ((Changes.refl _ _ s).in_eng _ (by simp)).set _ _ (by simp)

theorem capDetect_of_unseen {s : State} (hb : s.eng.bankSeen = false)
    (hv : (get Reg.ENG.CAP_V_V_MIN_MV s : Rat) ≤ vcapMv s) (hl : isSet Reg.ENG.CAP_TEST_LOW s = false) :
    capDetect s = liveFall 327 (bankShown s) := by
  unfold capDetect
  rw [if_neg (by simpa [hb] using hv), hl]
  rfl

theorem completes_capBankDetected {s : State} (hs : Ready s) (hb : s.eng.bankSeen = false)
    (hv : (get Reg.ENG.CAP_V_V_MIN_MV s : Rat) ≤ vcapMv s) (hl : isSet Reg.ENG.CAP_TEST_LOW s = false) :
    Completes .capBankDetected s fun t =>
      t.eng.bankSeen = true ∧ get Reg.SYS.CAPS_CAP_BANK t = 1 ∧ isSet (Reg.FLS.LIVE 327) t = false ∧
      Changes [.eng] (Reg.SYS.CAPS_CAP_BANK :: fallFields 327) s t := by
  have hfall := changes_liveFall 327 (bankShown (begun s))
  have hc := (Changes.begin [.eng] [] s).mono (gs := Reg.SYS.CAPS_CAP_BANK :: fallFields 327) (fun _ h => h) (by simp)
    |>.trans ((changes_bankShown _).mono (by simp) (by simp)) |>.trans (hfall.mono (by simp) (by simp +contextual))
  refine .leaves hs (f := capDetect) rfl (capDetect_of_unseen (s := begun s) hb hv hl) (hc.reqs.trans hs.2) fun t k =>
    ⟨?_, k.stored (by decide) ?_, isSet_keeps k (by decide) (live_liveFall _ _), hc.ended k⟩
  · rw [k.eng, hfall.eng (by simp)]
    rfl
  · rw [hfall.regs _ (by decide) (by decide)]
    exact get_set_same _ _ _

theorem completes_capBankTimeout {s : State} (hs : Ready s) (hb : s.eng.bankSeen = false)
    (ht : s.eng.chargerFrom + 250000 ≤ s.pwr.sinceVaon) :
    Completes .capBankTimeout s fun t => Fresh 327 s →
      isSet (Reg.FLS.LIVE 327) t = true ∧ Raised 327 s t ∧ Changes raiseParts (raiseFields 327) s t := by
  refine .leavesIf hs (f := capUndetected) rfl fun hf => ?_
  have hfb : Fresh 327 (begun s) := hf
  have he : capUndetected (begun s) = raiseHeld 327 0 0 (get Reg.ENG.CAP_TEST_C_MEAS s) (get Reg.ENG.VCAP_CODE s) (begun s) :=
    if_pos (by simp [hb, bankFrames, ht])
  rw [he]
  have hc := (Changes.begin _ _ s).trans (changes_raiseHeld hfb.2 0 0 (get Reg.ENG.CAP_TEST_C_MEAS s) (get Reg.ENG.VCAP_CODE s))
  exact ⟨hc.reqs.trans hs.2, fun t k => ⟨isSet_keeps k (by decide) (live_after_raiseHeld hfb (by decide) (by decide) _ _ _ _),
    (SameSource.settle (by decide) k).stays (raised_raiseHeld hfb (by decide) (by decide) _ _ _ _), hc.ended k⟩⟩

/-! ### Converters (R254) -/

theorem converter_source (k : Fin 5) : srcReserved (320 + k) = false ∧
    (∀ f ∈ [Reg.ENG.TEMP_NTC_FAULT, Reg.ENG.TEMP_T_STORE, Reg.ENG.STATE_CHG_ON],
      f.key ∉ (sourceCard (320 + k)).map Fld.key) := by
  revert k
  decide +kernel

/-- What a faulty thermistor shows: −40 °C, and no charge (R254, R259). -/
def coldShown (s : State) : State := s |> set Reg.ENG.TEMP_NTC_FAULT 1 |> setInt Reg.ENG.TEMP_T_STORE (-640) |> chargeShow

theorem changes_coldShown (s : State) :
    Changes [] [Reg.ENG.TEMP_NTC_FAULT, Reg.ENG.TEMP_T_STORE, Reg.ENG.STATE_CHG_ON] s (coldShown s) :=
  (((Changes.refl _ _ s).set _ _ (by simp)).set _ _ (by simp)).put1 _ _ (by simp)

theorem get_coldShown (s : State) : get Reg.ENG.TEMP_NTC_FAULT (coldShown s) = 1 ∧
    getInt Reg.ENG.TEMP_T_STORE (coldShown s) = -640 ∧ get Reg.ENG.STATE_CHG_ON (coldShown s) = 0 := by
  have hntc : get Reg.ENG.TEMP_NTC_FAULT (s |> set Reg.ENG.TEMP_NTC_FAULT 1 |> setInt Reg.ENG.TEMP_T_STORE (-640)) = 1 := by
    simp (disch := decide) only [setInt, get_set_other, get_set_same]
    rfl
  refine ⟨?_, ?_, ?_⟩
  · simp (disch := decide) only [coldShown, chargeShow, put1, setInt, get_set_other, get_set_same]
    rfl
  · simp (disch := decide) only [coldShown, chargeShow, getInt, put1, setInt, get_set_other, get_set_same]
    rfl
  · unfold coldShown chargeShow
    rw [put1, get_set_same]
    simp [batChargeHeld, isSet, hntc, b2n]

/-- A converter whose condition holds raises its source. -/
theorem converterFails_of_pack {k : Nat} {s : State} (hp : k = 2 ∨ k = 3 → batState s ≠ 0) :
    converterFails k s = when (k = 4) coldShown (raiseHeld (320 + k) 0 0 (convCode k s) 0 s) :=
  if_neg fun h => hp h.1 h.2

/-- What a converter leaves whose condition holds: its source, and of the thermistor −40 °C. -/
theorem converterFails_fresh (k : Fin 5) {s : State} (hp : k = 2 ∨ k = 3 → batState s ≠ 0) (hf : Fresh (320 + k) s) :
    isSet (Reg.FLS.LIVE (320 + k)) (converterFails k s) = true ∧ Raised (320 + k) s (converterFails k s) ∧
      (k = 4 → get Reg.ENG.TEMP_NTC_FAULT (converterFails k s) = 1 ∧
        getInt Reg.ENG.TEMP_T_STORE (converterFails k s) = -640 ∧ get Reg.ENG.STATE_CHG_ON (converterFails k s) = 0) ∧
      Changes raiseParts (raiseFields (320 + k) ++
        if k = 4 then [Reg.ENG.TEMP_NTC_FAULT, Reg.ENG.TEMP_T_STORE, Reg.ENG.STATE_CHG_ON] else []) s
        (converterFails k s) := by
  obtain ⟨hr, hkeys⟩ := converter_source k
  have hn : 320 + k.val < 384 := by omega
  have hpack : k.val = 2 ∨ k.val = 3 → batState s ≠ 0 := fun h => hp (h.imp Fin.ext Fin.ext)
  rw [converterFails_of_pack hpack]
  have hraise := changes_raiseHeld hf.2 0 0 (convCode k s) 0
  have hraised := raised_raiseHeld hf hr hn 0 0 (convCode k s) 0
  have hlive := live_after_raiseHeld hf hr hn 0 0 (convCode k s) 0
  generalize raiseHeld (320 + k.val) 0 0 (convCode k s) 0 s = u at hraise hraised hlive
  by_cases h4 : k = 4
  case neg =>
    rw [show decide (k.val = 4) = false from decide_eq_false fun h => h4 (Fin.ext h), when_false, if_neg h4]
    exact ⟨hlive, hraised, fun h => absurd h h4, hraise.mono (fun _ h => h) (by simp)⟩
  case pos =>
    subst h4
    rw [show decide ((4 : Fin 5).val = 4) = true from rfl, when_true, if_pos rfl]
    have hcold := changes_coldShown u
    have hsource := hcold.source (n := 324) (by decide) (by decide)
    exact ⟨hsource.live.trans hlive, hsource.stays hraised,
      fun _ => get_coldShown u, (hraise.mono (fun _ h => h) (by simp +contextual)).trans
        (hcold.mono (by simp) (by simp +contextual))⟩

/-- The condition of a converter, as its report leaves it (R254). -/
def reported (k : Nat) : ConvCheck → State → State
  | .range => id
  | .reference false => setEng fun e => { e with refBad := addNat e.refBad k }
  | .reference true => setEng fun e => { e with refBad := e.refBad.filter (· != k) }

theorem changes_reported (k : Nat) (why : ConvCheck) (s : State) : Changes [.eng] [] s (reported k why s) := by
  unfold reported
  split
  · exact .refl _ _ _
  · exact (Changes.refl _ _ s).in_eng _ (by simp)
  · exact (Changes.refl _ _ s).in_eng _ (by simp)

theorem converter_of_fault {k : Nat} {why : ConvCheck} {s : State}
    (h : why = .reference false ∨ (why = .range ∧ 50 ≤ s.eng.ends.getD k 0)) :
    converter k why s = converterFails k (reported k why s) := by
  rcases h with rfl | ⟨rfl, h⟩
  · rfl
  · exact if_pos h

theorem mem_addNat_self (l : List Nat) (k : Nat) : k ∈ addNat l k := by
  induction l with
  | nil => simp [addNat]
  | cons j l ih =>
    unfold addNat
    split
    · simp
    · split
      · simp [*]
      · exact List.mem_cons_of_mem _ ih

theorem completes_converterFault {s : State} (hs : Ready s) (k : Fin 5) (why : ConvCheck)
    (hp : k = 2 ∨ k = 3 → batState s ≠ 0) (hw : why = .reference false ∨ (why = .range ∧ 50 ≤ s.eng.ends.getD k 0)) :
    Completes (.converterFault k why) s fun t => Fresh (320 + k) s →
      isSet (Reg.FLS.LIVE (320 + k)) t = true ∧ Raised (320 + k) s t ∧
      (k = 4 → get Reg.ENG.TEMP_NTC_FAULT t = 1 ∧ getInt Reg.ENG.TEMP_T_STORE t = -640 ∧ get Reg.ENG.STATE_CHG_ON t = 0) ∧
      (why = .reference false → k.val ∈ t.eng.refBad) ∧
      Changes (.eng :: raiseParts) (raiseFields (320 + k) ++
        if k = 4 then [Reg.ENG.TEMP_NTC_FAULT, Reg.ENG.TEMP_T_STORE, Reg.ENG.STATE_CHG_ON] else []) s t := by
  refine .leavesIf hs (f := converter k why) rfl fun hf => ?_
  rw [converter_of_fault (s := begun s) hw]
  have hrep := changes_reported k why (begun s)
  have hn : 320 + k.val < 384 := by omega
  have hsource := hrep.source (n := 320 + k) hn (by simp)
  have hbat : k = 2 ∨ k = 3 → batState (reported k why (begun s)) ≠ 0 := fun h => by
    rw [batState, hrep.regs _ (by simp) (by decide)]
    exact hp h
  obtain ⟨hlive, hraised, hcold, hc⟩ := converterFails_fresh k hbat (hsource.fresh hf)
  refine ⟨hc.reqs.trans (hrep.reqs.trans hs.2), fun t kp => ⟨isSet_keeps kp (live_settleKeys hn) hlive,
    (SameSource.settle hn kp).stays (hsource.raised hraised), fun h4 => ?_, fun hw => ?_, ?_⟩⟩
  · obtain ⟨hntc, ht, hchg⟩ := hcold h4
    exact ⟨kp.stored (by decide) hntc, (congrArg (signedOf _) (kp.get _ (by decide))).trans ht, kp.stored (by decide) hchg⟩
  · rw [kp.eng, hc.eng (by decide), hw]
    exact mem_addNat_self _ _
  · exact (((Changes.begin _ _ s).trans (hrep.mono (by simp) (by simp))).trans
      (hc.mono (by simp +contextual) fun _ h => h)).ended kp

theorem completes_converterGood {s : State} (hs : Ready s) (k : Fin 5) :
    Completes (.converterFault k (.reference true)) s fun t =>
      k.val ∉ t.eng.refBad ∧ (s.eng.ends.getD k 0 < 50 → isSet (Reg.FLS.LIVE (320 + k)) t = false) ∧
      Changes [.eng] (fallFields (320 + k)) s t := by
  have hn : 320 + k.val < 384 := by omega
  have hrep := changes_reported k (.reference true) (begun s)
  generalize hu : reported k (.reference true) (begun s) = u at hrep
  have he : converter k (.reference true) (begun s) = if convFaulty k u then u else liveFall (320 + k) u := by
    rw [← hu]
    rfl
  have hgone : k.val ∉ u.eng.refBad := by
    rw [← hu]
    simp [reported, setEng]
  have hends : u.eng.ends = s.eng.ends := by
    rw [← hu]
    rfl
  have hc : Changes [.eng] (fallFields (320 + k)) s (converter k (.reference true) (begun s)) := by
    rw [he]
    exact ((Changes.begin _ _ s).trans (hrep.mono (by simp) (by simp))).trans
      (.branch _ (.refl _ _ _) ((changes_liveFall _ _).mono (by simp) fun _ h => h))
  have heng : (converter k (.reference true) (begun s)).eng = u.eng := by
    rw [he]
    split
    · rfl
    · exact (changes_liveFall _ _).eng (by simp)
  refine .leaves hs (f := converter k (.reference true)) rfl rfl (hc.reqs.trans hs.2) fun t kp =>
    ⟨by rw [kp.eng, heng]; exact hgone, fun hend => isSet_keeps kp (live_settleKeys hn) ?_, hc.ended kp⟩
  have hgood : convFaulty k u = false := by
    simp only [convFaulty, hends, Bool.or_eq_false_iff, decide_eq_false_iff_not, not_le]
    exact ⟨hend, eq_false_of_ne_true (mt List.contains_iff_mem.1 hgone)⟩
  rw [he, hgood]
  exact live_liveFall _ _

/-! ### The pack (R257, R258) -/

theorem chargeShow_off {s : State} (h : batState s ≠ 2) : get Reg.ENG.STATE_CHG_ON (chargeShow s) = 0 := by
  rw [chargeShow, put1, get_set_same]
  simp [batChargeHeld, h, b2n]

theorem changes_chargeShow (s : State) : Changes [] [Reg.ENG.STATE_CHG_ON] s (chargeShow s) :=
  (Changes.refl _ _ s).put1 _ _ (by simp)

/-- What a new pack shows before the charge path follows (R257). -/
def packShown (s : State) : State :=
  s |> set Reg.SYS.CAPS_BATTERY 1
    |> set Reg.ENG.CAP_LEARNED_MAH (min (learnedMah s) (get Reg.ENG.CAP_LEARNED_RATED_MAH s))
    |> set Reg.ENG.STATE_BAT 1 |> set Reg.ENG.STATE_REST_LEFT 3000000

theorem completes_batIn {s : State} (hs : Ready s) (hb : isSet Reg.SYS.CAPS_BATTERY s = false) :
    Completes .batIn s fun t =>
      get Reg.SYS.CAPS_BATTERY t = 1 ∧ batState t = 1 ∧ get Reg.ENG.STATE_REST_LEFT t = 3000000 ∧
      get (Reg.EVT_STS 0x80 0) t = 1 := by
  have hbb : ¬ isSet Reg.SYS.CAPS_BATTERY (begun s) = true := ne_true_of_eq_false hb
  let u := chargeShow { packShown (begun s) with eng := { s.eng with discharge := none } }
  have hc := changes_chargeShow { packShown (begun s) with eng := { s.eng with discharge := none } }
  have hlater : ∀ f : Fld, f.key ≠ (Reg.EVT_STS 0x80 0).key → f.key ∉ [Reg.ENG.STATE_CHG_ON].map Fld.key → f.key ∉ settleKeys →
      get f (event 0x80 0 u) = get f (packShown (begun s)) := fun f he hf hk =>
    (get_set_other _ _ he).trans (hc.regs f hf hk)
  refine .leaves hs (f := packIn) (u := event 0x80 0 u) rfl (if_neg hbb) hs.2 fun t k =>
    ⟨k.stored (by decide) ((hlater _ (by decide) (by decide) (by decide)).trans ?_),
      k.stored (by decide) ((hlater _ (by decide) (by decide) (by decide)).trans ?_),
      k.stored (by decide) ((hlater _ (by decide) (by decide) (by decide)).trans ?_),
      k.stored (by decide) (get_set_same _ _ _)⟩
  all_goals
    simp (disch := decide) only [packShown, get_set_other, get_set_same]
    rfl

/-! ### The exercise (R266) -/

/-- What the end of an exercise shows before the charge path follows. -/
def exerciseShown (result : Nat) (s : State) : State :=
  { s with eng := { s.eng with exerciseFrom := none }, pwr := { s.pwr with holdEn := false } }
    |> set Reg.ENG.EXERCISE_ACTIVE 0 |> set Reg.ENG.EXERCISE_RESULT result
    |> set Reg.ENG.STATE_BAT (if batState s = 0 then 0 else 2) |> event 0x80 7

/-- What the end of an exercise leaves. -/
def exerciseEnded (result : Nat) (s : State) : State := chargeShow (exerciseShown result s)

theorem endExercise_of_active {s : State} (h : isSet Reg.ENG.EXERCISE_ACTIVE s = true) (result : Nat) :
    endExercise result s = exerciseEnded result s := if_neg (by simp [h])

theorem endExercise_of_none {s : State} (h : isSet Reg.ENG.EXERCISE_ACTIVE s = false) (result : Nat) :
    endExercise result s = s := if_pos (by simp [h])

theorem changes_exerciseEnded (result : Nat) (s : State) :
    Changes [.eng, .pwr] [Reg.ENG.EXERCISE_ACTIVE, Reg.ENG.EXERCISE_RESULT, Reg.ENG.STATE_BAT, Reg.EVT_STS 0x80 7,
      Reg.ENG.STATE_CHG_ON] s (exerciseEnded result s) := by
  have hparts : Changes [.eng, .pwr] [Reg.ENG.EXERCISE_ACTIVE, Reg.ENG.EXERCISE_RESULT, Reg.ENG.STATE_BAT,
      Reg.EVT_STS 0x80 7, Reg.ENG.STATE_CHG_ON] s
      { s with eng := { s.eng with exerciseFrom := none }, pwr := { s.pwr with holdEn := false } } :=
    ((Changes.refl [.eng, .pwr] _ s).in_eng { s.eng with exerciseFrom := none } (by simp)).in_pwr
      { s.pwr with holdEn := false } (by simp)
  have hshown := (((hparts.set Reg.ENG.EXERCISE_ACTIVE 0 (by simp)).set Reg.ENG.EXERCISE_RESULT result (by simp)).set
    Reg.ENG.STATE_BAT (if batState s = 0 then 0 else 2) (by simp)).event 0x80 7 (by simp)
  exact hshown.trans ((changes_chargeShow _).mono (by simp) (by simp))

theorem changes_endExercise (result : Nat) (s : State) :
    Changes [.eng, .pwr] [Reg.ENG.EXERCISE_ACTIVE, Reg.ENG.EXERCISE_RESULT, Reg.ENG.STATE_BAT, Reg.EVT_STS 0x80 7,
      Reg.ENG.STATE_CHG_ON] s (endExercise result s) := by
  cases h : isSet Reg.ENG.EXERCISE_ACTIVE s
  · rw [endExercise_of_none h]
    exact .refl _ _ _
  · rw [endExercise_of_active h]
    exact changes_exerciseEnded _ _

theorem get_exerciseEnded (result : Nat) (s : State) :
    get Reg.ENG.EXERCISE_ACTIVE (exerciseEnded result s) = 0 ∧
    get Reg.ENG.EXERCISE_RESULT (exerciseEnded result s) = result % 2 ^ Reg.ENG.EXERCISE_RESULT.w ∧
    batState (exerciseEnded result s) = (if batState s = 0 then 0 else 2) ∧
    get (Reg.EVT_STS 0x80 7) (exerciseEnded result s) = 1 ∧ (exerciseEnded result s).pwr.holdEn = false := by
  have hbat : batState (exerciseEnded result s) = (if batState s = 0 then 0 else 2) % 2 ^ Reg.ENG.STATE_BAT.w := by
    unfold exerciseEnded exerciseShown chargeShow put1 event
    generalize (if batState s = 0 then 0 else 2) = n
    simp (disch := decide) only [batState, get_set_other, get_set_same]
  refine ⟨?_, ?_, hbat.trans ?_, ?_, rfl⟩
  case refine_3 => split <;> rfl
  all_goals simp (disch := decide) only [exerciseEnded, exerciseShown, chargeShow, event, put1, get_set_other, get_set_same]
  all_goals rfl

theorem batState_endExercise {s : State} (h : batState s = 0) (result : Nat) : batState (endExercise result s) = 0 := by
  cases ha : isSet Reg.ENG.EXERCISE_ACTIVE s
  · rw [endExercise_of_none ha, h]
  · obtain ⟨-, -, hbat, -⟩ := get_exerciseEnded result s
    rw [endExercise_of_active ha, hbat, if_pos h]

/-- What the removal of the pack shows before the exercise ends (R258). -/
def packGone (s : State) : State :=
  s |> set Reg.SYS.CAPS_BATTERY 0 |> set Reg.ENG.STATE_BAT 0 |> set Reg.ENG.STATE_REST_LEFT 3000000

theorem completes_batOut {s : State} (hs : Ready s) (hb : isSet Reg.SYS.CAPS_BATTERY s = true) :
    Completes .batOut s fun t =>
      get Reg.SYS.CAPS_BATTERY t = 0 ∧ batState t = 0 ∧ get Reg.ENG.STATE_REST_LEFT t = 3000000 ∧
      get (Reg.EVT_STS 0x80 1) t = 1 ∧ get Reg.ENG.STATE_CHG_ON t = 0 ∧
      (isSet Reg.ENG.EXERCISE_ACTIVE s = true → get Reg.ENG.EXERCISE_RESULT t = 6) := by
  have hbb : ¬ (!isSet Reg.SYS.CAPS_BATTERY (begun s)) = true := by
    rw [show isSet Reg.SYS.CAPS_BATTERY (begun s) = true from hb]
    simp
  have hend := changes_endExercise 6 (packGone (begun s))
  have hbat : batState (endExercise 6 (packGone (begun s))) = 0 := batState_endExercise (by
    simp (disch := decide) only [batState, packGone, get_set_other, get_set_same]
    rfl) 6
  have hresult : isSet Reg.ENG.EXERCISE_ACTIVE s = true →
      get Reg.ENG.EXERCISE_RESULT (endExercise 6 (packGone (begun s))) = 6 := fun ha => by
    have hab : isSet Reg.ENG.EXERCISE_ACTIVE (packGone (begun s)) = true := by
      simp (disch := decide) only [packGone, isSet_set_other]
      exact ha
    obtain ⟨-, hr, -⟩ := get_exerciseEnded 6 (packGone (begun s))
    rw [endExercise_of_active hab, hr]
    rfl
  have hreqs : (endExercise 6 (packGone (begun s))).reqs = [] := hend.reqs.trans hs.2
  have hcap := hend.regs Reg.SYS.CAPS_BATTERY (by decide) (by decide)
  have hrest := hend.regs Reg.ENG.STATE_REST_LEFT (by decide) (by decide)
  have he : packOut (begun s) = chargeShow (event 0x80 1 (endExercise 6 (packGone (begun s)))) := if_neg hbb
  generalize endExercise 6 (packGone (begun s)) = u at hbat hresult hreqs hcap hrest he
  have hbatu : batState (event 0x80 1 u) ≠ 2 := by
    rw [show batState (event 0x80 1 u) = 0 from (get_set_other _ _ (by decide)).trans hbat]
    decide
  have hlater : ∀ f : Fld, f.key ≠ (Reg.EVT_STS 0x80 1).key → f.key ≠ Reg.ENG.STATE_CHG_ON.key →
      get f (chargeShow (event 0x80 1 u)) = get f u := fun f h1 h2 => (get_set_other _ _ h2).trans (get_set_other _ _ h1)
  refine .leaves hs (f := packOut) rfl he hreqs fun t k =>
    ⟨k.stored (by decide) ((hlater _ (by decide) (by decide)).trans (hcap.trans ?_)),
      k.stored (by decide) ((hlater _ (by decide) (by decide)).trans hbat),
      k.stored (by decide) ((hlater _ (by decide) (by decide)).trans (hrest.trans (get_set_same _ _ _))),
      k.stored (by decide) ((get_set_other _ _ (by decide)).trans (get_set_same _ _ _)),
      k.stored (by decide) (chargeShow_off hbatu),
      fun ha => k.stored (by decide) ((hlater _ (by decide) (by decide)).trans (hresult ha))⟩
  simp (disch := decide) only [packGone, get_set_other, get_set_same]
  rfl

/-! ### The estimates and the charger (R259, R264) -/

theorem completes_disagree {s : State} (hs : Ready s) (h : 50 ≤ s.eng.differRun) :
    Completes (.disagree true) s fun t => Fresh 325 s →
      get Reg.ENG.STATE_DISAGREE t = 1 ∧ get (Reg.EVT_STS 0x80 5) t = 1 ∧ Raised 325 s t ∧
      Changes raiseParts ([Reg.ENG.STATE_DISAGREE, Reg.EVT_STS 0x80 5] ++ raiseFields 325) s t := by
  refine .leavesIf hs (f := disagreed true) rfl fun hf => ?_
  let u := begun s |> set Reg.ENG.STATE_DISAGREE 1 |> event 0x80 5
  have hu : Changes [] [Reg.ENG.STATE_DISAGREE, Reg.EVT_STS 0x80 5] s u :=
    ((Changes.begin _ _ s).set _ _ (by simp)).event _ _ (by simp)
  obtain ⟨a, he⟩ : ∃ a, disagreed true (begun s) = raiseHeld 325 0 0 a 0 u := ⟨_, if_pos h⟩
  rw [he]
  have hsource := hu.source (n := 325) (by decide) (by decide)
  have hraise := changes_raiseHeld (hsource.fresh hf).2 0 0 a 0
  refine ⟨hraise.reqs.trans (hu.reqs.trans hs.2), fun t k => ⟨k.stored (by decide) ((hraise.regs _ (by decide) (by decide)).trans ?_),
    k.stored (by decide) ((hraise.regs _ (by decide) (by decide)).trans (get_set_same _ _ _)),
    (SameSource.settle (by decide) k).stays (hsource.raised (raised_raiseHeld (hsource.fresh hf) (by decide) (by decide) _ _ _ _)),
    ((hu.mono (by simp) (by simp +contextual)).trans (hraise.mono (fun _ h => h) (by simp +contextual))).ended k⟩⟩
  simp (disch := decide) only [u, event, get_set_other, get_set_same]
  rfl

theorem completes_agree {s : State} (hs : Ready s) (h : 50 ≤ s.eng.agreeRun) :
    Completes (.disagree false) s fun t =>
      get Reg.ENG.STATE_DISAGREE t = 0 ∧ isSet (Reg.FLS.LIVE 325) t = false ∧
      Changes [] (Reg.ENG.STATE_DISAGREE :: fallFields 325) s t := by
  have hfall := changes_liveFall 325 (set Reg.ENG.STATE_DISAGREE 0 (begun s))
  refine .leaves hs (f := disagreed false) rfl (if_pos h) (hfall.reqs.trans hs.2) fun t k =>
    ⟨k.stored (by decide) ((hfall.regs _ (by decide) (by decide)).trans (get_set_same _ _ _)),
      isSet_keeps k (by decide) (live_liveFall _ _),
      (((Changes.begin _ _ s).set _ _ (by simp)).trans (hfall.mono (by simp) (by simp +contextual))).ended k⟩

theorem completes_chargerGood {s : State} (hs : Ready s) (cv : Bool) :
    Completes (.chargerPoll true cv) s fun t =>
      get Reg.ENG.STATE_CV t = b2n cv ∧ get Reg.ENG.STATE_CHG_FAULT t = 0 ∧ isSet (Reg.FLS.LIVE 326) t = false ∧
      Changes [.eng] ([Reg.ENG.STATE_CV, Reg.ENG.STATE_CHG_FAULT] ++ fallFields 326) s t := by
  let u := begun s |> setEng (fun e => { e with chargerFails := 0 })
    |> put1 Reg.ENG.STATE_CV cv |> set Reg.ENG.STATE_CHG_FAULT 0
  have hu : Changes [.eng] [Reg.ENG.STATE_CV, Reg.ENG.STATE_CHG_FAULT] s u :=
    (((Changes.begin _ _ s).in_eng _ (by simp)).put1 _ _ (by simp)).set _ _ (by simp)
  have hfall := changes_liveFall 326 u
  refine .leaves hs (f := polled true cv) (u := liveFall 326 u) rfl rfl (hfall.reqs.trans (hu.reqs.trans hs.2)) fun t k =>
    ⟨k.stored (by decide) ((hfall.regs _ (by decide) (by decide)).trans ?_),
      k.stored (by decide) ((hfall.regs _ (by decide) (by decide)).trans (get_set_same _ _ _)),
      isSet_keeps k (by decide) (live_liveFall _ _),
      ((hu.mono (fun _ h => h) (by simp +contextual)).trans (hfall.mono (by simp) (by simp +contextual))).ended k⟩
  simp (disch := decide) only [u, put1, get_set_other, get_set_same]
  cases cv <;> rfl

theorem completes_chargerFails {s : State} (hs : Ready s) (cv : Bool) (h : 2 ≤ s.eng.chargerFails) :
    Completes (.chargerPoll false cv) s fun t => Fresh 326 s →
      get Reg.ENG.STATE_CHG_FAULT t = 1 ∧ Raised 326 s t ∧
      Changes (.eng :: raiseParts) (Reg.ENG.STATE_CHG_FAULT :: raiseFields 326) s t := by
  refine .leavesIf hs (f := polled false cv) rfl fun hf => ?_
  let u := begun s |> setEng (fun e => { e with chargerFails := min 3 (e.chargerFails + 1) })
    |> set Reg.ENG.STATE_CHG_FAULT 1 |> spend
  have hu : Changes [.eng] [Reg.ENG.STATE_CHG_FAULT] s u :=
    (((Changes.begin _ _ s).in_eng _ (by simp)).set _ _ (by simp)).spend
  obtain ⟨a, he⟩ : ∃ a, polled false cv (begun s) = raiseHeld 326 0 0 a 0 u := by
    have hd : decide (2 ≤ (begun s).eng.chargerFails) = true := decide_eq_true h
    unfold polled
    rw [if_neg Bool.false_ne_true, hd]
    exact ⟨_, rfl⟩
  rw [he]
  have hsource := hu.source (n := 326) (by decide) (by decide)
  have hraise := changes_raiseHeld (hsource.fresh hf).2 0 0 a 0
  refine ⟨hraise.reqs.trans (hu.reqs.trans hs.2), fun t k =>
    ⟨k.stored (by decide) ((hraise.regs _ (by decide) (by decide)).trans (show get Reg.ENG.STATE_CHG_FAULT u = 1 from get_set_same Reg.ENG.STATE_CHG_FAULT 1 _)),
    (SameSource.settle (by decide) k).stays (hsource.raised (raised_raiseHeld (hsource.fresh hf) (by decide) (by decide) _ _ _ _)),
    ((hu.mono (by simp) (by simp +contextual)).trans (hraise.mono (by simp +contextual) (by simp +contextual))).ended k⟩⟩

/-- Settles O33. -/
theorem gaugeEvents : Obligations.GaugeEvents := by
  unfold Obligations.GaugeEvents
  exact fun s hs => ⟨completes_capBankDetected hs, completes_capBankTimeout hs, completes_converterFault hs,
    completes_converterGood hs, completes_batIn hs, completes_batOut hs, completes_disagree hs, completes_agree hs,
    completes_chargerGood hs, completes_chargerFails hs⟩

end Sys2Proof.Machine
end

section
/-! SUPPORT. The anchors of the charge counter, and the commands of the gauge (R257 to R274). -/

namespace Sys2Proof.Machine
set_option Elab.async false

theorem get_setEng (f : Fld) (g : Eng → Eng) (s : State) : get f (setEng g s) = get f s := rfl

/-! ### Anchors (R257, R260, R261) -/

/-- What an anchor sets before DISAGREE's source falls. -/
def anchorShown (nc : Nat) (s : State) : State :=
  { s with eng := { s.eng with counter := nc, remainder := 0, differRun := 0, agreeRun := 0 } }
    |> set Reg.ENG.QCNT_LO_NC (nc % 2 ^ 32) |> set Reg.ENG.STATE_DISAGREE 0

theorem anchor_eq (nc : Nat) (s : State) : anchor nc s = liveFall 325 (anchorShown nc s) := by rfl

theorem changes_anchor (nc : Nat) (s : State) :
    Changes [.eng] ([Reg.ENG.QCNT_LO_NC, Reg.ENG.STATE_DISAGREE] ++ fallFields 325) s (anchor nc s) :=
  ((((Changes.refl _ _ s).in_eng _ (by simp)).set _ _ (by simp)).set _ _ (by simp)).trans
    ((changes_liveFall 325 (anchorShown nc s)).mono (by simp) (by simp +contextual))

theorem anchor_eng (nc : Nat) (s : State) :
    (anchor nc s).eng = { s.eng with counter := nc, remainder := 0, differRun := 0, agreeRun := 0 } := by
  rw [anchor_eq, (changes_liveFall 325 _).eng (by simp)]
  rfl

theorem get_disagree_anchor (nc : Nat) (s : State) : get Reg.ENG.STATE_DISAGREE (anchor nc s) = 0 := by
  rw [anchor_eq, (changes_liveFall 325 _).regs _ (by decide) (by decide)]
  exact get_set_same _ _ _

/-- The charge that an expired rest sets (R257). -/
def restNc (s : State) : Nat := floorNat ((mahNc (learnedMah s) : Rat) * socPermille 0 s / 1000)

/-- What an expired rest leaves. -/
def restEnded (nc : Nat) (s : State) : State := s |> anchor nc |> set Reg.ENG.STATE_BAT 2 |> event 0x80 2 |> chargeShow

theorem rested_of_expired {s : State} (hb : batState s = 1) (hr : get Reg.ENG.STATE_REST_LEFT s = 0)
    (h2 : convBad 2 s = false) (h3 : convBad 3 s = false) : rested s = restEnded (restNc s) s := by
  unfold rested
  rw [if_pos (by simp [hb, hr, h2, h3])]
  rfl

theorem changes_restEnded (nc : Nat) (s : State) :
    Changes [.eng] ([Reg.ENG.STATE_BAT, Reg.EVT_STS 0x80 2] ++
      ([Reg.ENG.QCNT_LO_NC, Reg.ENG.STATE_DISAGREE, Reg.ENG.STATE_CHG_ON] ++ fallFields 325)) s (restEnded nc s) :=
  ((((changes_anchor nc s).mono (fun _ h => h) (by simp +contextual)).set _ _ (by simp)).event _ _ (by simp)).put1 _ _
    (by simp)

theorem get_restEnded (nc : Nat) (s : State) : batState (restEnded nc s) = 2 ∧
    get (Reg.EVT_STS 0x80 2) (restEnded nc s) = 1 ∧ get Reg.ENG.STATE_DISAGREE (restEnded nc s) = 0 := by
  simp (disch := decide) only [restEnded, batState, event, chargeShow, put1, get_set_other, get_set_same,
    get_disagree_anchor]
  decide

theorem restEnded_counter (nc : Nat) (s : State) : (restEnded nc s).eng.counter = nc :=
  congrArg Eng.counter (anchor_eng nc s)

theorem restNc_begun (s : State) : restNc (begun s) = restNc s := by rfl

theorem completes_restDone {s : State} (hs : Ready s) (hb : batState s = 1) (hr : get Reg.ENG.STATE_REST_LEFT s = 0)
    (h2 : convBad 2 s = false) (h3 : convBad 3 s = false) :
    Completes .restDone s fun t =>
      t.eng.counter = floorNat ((mahNc (learnedMah s) : Rat) * socPermille 0 s / 1000) ∧ batState t = 2 ∧
      get (Reg.EVT_STS 0x80 2) t = 1 ∧ get Reg.ENG.STATE_DISAGREE t = 0 ∧
      Changes [.eng] ([Reg.ENG.STATE_BAT, Reg.EVT_STS 0x80 2] ++
        ([Reg.ENG.QCNT_LO_NC, Reg.ENG.STATE_DISAGREE, Reg.ENG.STATE_CHG_ON] ++ fallFields 325)) s t := by
  have hc := changes_restEnded (restNc s) (begun s)
  obtain ⟨hbat, hevent, hdis⟩ := get_restEnded (restNc s) (begun s)
  refine .leaves hs (f := rested) rfl ((rested_of_expired (s := begun s) hb hr h2 h3).trans (by rw [restNc_begun]))
    (hc.reqs.trans hs.2) fun t k => ⟨?_, k.stored (by decide) hbat, k.stored (by decide) hevent, k.stored (by decide) hdis,
      ((Changes.begin _ _ s).trans hc).ended k⟩
  rw [k.eng, restEnded_counter]
  rfl

/-! ### The full anchor (R260) -/

/-- What a full anchor shows after the counter. -/
def fullShown (s : State) : State :=
  s |> set Reg.ENG.STATE_AT_FULL 1 |> set Reg.ENG.FULL_FRAME_FRAME (now32 s) |> event 0x80 3

theorem changes_fullShown (s : State) :
    Changes [] [Reg.ENG.STATE_AT_FULL, Reg.ENG.FULL_FRAME_FRAME, Reg.EVT_STS 0x80 3] s (fullShown s) :=
  (((Changes.refl _ _ s).set _ _ (by simp)).set _ _ (by simp)).event _ _ (by simp)

theorem get_fullShown (s : State) : get Reg.ENG.STATE_AT_FULL (fullShown s) = 1 ∧
    get Reg.ENG.FULL_FRAME_FRAME (fullShown s) = now32 s ∧ get (Reg.EVT_STS 0x80 3) (fullShown s) = 1 := by
  simp (disch := decide) only [fullShown, event, get_set_other, get_set_same]
  exact ⟨rfl, Nat.mod_eq_of_lt (Nat.mod_lt _ (by decide)), rfl⟩

/-- The discharge that a full anchor begins to measure (R265). -/
def measuring (s : State) : State :=
  setEng (fun e => { e with discharge := some { out := 0, temp := 0, frames := 0 }, fullRun := 0 }) s

/-- What a full anchor leaves. -/
def fullTaken (nc : Nat) (s : State) : State := measuring (fullShown (anchor nc s))

theorem now32_anchor (nc : Nat) (s : State) : now32 (anchor nc s) = now32 s := by
  rw [now32, now32, now, now, (changes_anchor nc s).frm (by simp)]

theorem fullAnchored_of_full {s : State} (h : 50000 ≤ s.eng.fullRun) (hf : fenced s = false) :
    fullAnchored s = fullTaken (mahNc (learnedMah s)) s := by
  unfold fullAnchored
  rw [if_pos (by simp [h, hf]), ← now32_anchor (mahNc (learnedMah s)) s]
  rfl

theorem changes_fullTaken (nc : Nat) (s : State) :
    Changes [.eng] ([Reg.ENG.STATE_AT_FULL, Reg.ENG.FULL_FRAME_FRAME, Reg.EVT_STS 0x80 3] ++
      ([Reg.ENG.QCNT_LO_NC, Reg.ENG.STATE_DISAGREE, Reg.ENG.STATE_CHG_ON] ++ fallFields 325)) s (fullTaken nc s) :=
  (((changes_anchor nc s).mono (fun _ h => h) (by simp +contextual)).trans
    ((changes_fullShown (anchor nc s)).mono (by simp) (by simp +contextual))).in_eng _ (by simp)

theorem fullTaken_counter (nc : Nat) (s : State) : (fullTaken nc s).eng.counter = nc := by
  have h : (fullTaken nc s).eng.counter = (fullShown (anchor nc s)).eng.counter := rfl
  rw [h, (changes_fullShown (anchor nc s)).eng (by simp), anchor_eng]

theorem completes_fullAnchor {s : State} (hs : Ready s) (h : 50000 ≤ s.eng.fullRun) (hf : fenced s = false) :
    Completes .fullAnchor s fun t =>
      t.eng.counter = mahNc (learnedMah s) ∧ get Reg.ENG.STATE_AT_FULL t = 1 ∧
      get Reg.ENG.FULL_FRAME_FRAME t = now32 s ∧ get (Reg.EVT_STS 0x80 3) t = 1 ∧
      t.eng.discharge = some { out := 0, temp := 0, frames := 0 } ∧
      Changes [.eng] ([Reg.ENG.STATE_AT_FULL, Reg.ENG.FULL_FRAME_FRAME, Reg.EVT_STS 0x80 3] ++
        ([Reg.ENG.QCNT_LO_NC, Reg.ENG.STATE_DISAGREE, Reg.ENG.STATE_CHG_ON] ++ fallFields 325)) s t := by
  have hfull : fullAnchored (begun s) = fullTaken (mahNc (learnedMah s)) (begun s) := fullAnchored_of_full h hf
  obtain ⟨nc, hnc⟩ : ∃ nc, mahNc (learnedMah s) = nc := ⟨_, rfl⟩
  rw [hnc] at hfull ⊢
  have hc := changes_fullTaken nc (begun s)
  obtain ⟨hat, hframe, hevent⟩ := get_fullShown (anchor nc (begun s))
  exact .leaves hs (f := fullAnchored) rfl hfull (hc.reqs.trans hs.2) fun t k =>
    ⟨(congrArg Eng.counter k.eng).trans (fullTaken_counter nc _), k.stored (by decide) hat,
      k.stored (by decide) (hframe.trans (now32_anchor nc _)), k.stored (by decide) hevent, congrArg Eng.discharge k.eng,
      ((Changes.begin _ _ s).trans hc).ended k⟩

/-! ### The empty anchor (R261, R265) -/

theorem changes_teach (s : State) : Changes [.eng] [Reg.ENG.CAP_LEARNED_MAH] s (teach s) := by
  unfold teach
  split
  · exact .refl _ _ _
  · exact (((Changes.refl _ _ s).spend).set _ _ (by simp)).in_eng _ (by simp)

theorem get_teach_some {s : State} {d : Discharge} (h : s.eng.discharge = some d) :
    get Reg.ENG.CAP_LEARNED_MAH (teach s) = taughtMah d s := by
  unfold teach
  rw [h]
  refine (get_set_same _ _ _).trans (Nat.mod_eq_of_lt ?_)
  exact Nat.mod_lt _ (by decide)

theorem teach_none {s : State} (h : s.eng.discharge = none) : teach s = s := by
  unfold teach
  rw [h]

/-- What an empty anchor leaves before an exercise ends. -/
def emptied (s : State) : State :=
  s |> teach |> anchor 0 |> set Reg.ENG.EMPTY_FRAME_FRAME (now32 s) |> event 0x80 4
    |> setEng (fun e => { e with emptyRun := 0 })

theorem changes_emptied (s : State) :
    Changes [.eng] ([Reg.ENG.CAP_LEARNED_MAH, Reg.ENG.EMPTY_FRAME_FRAME, Reg.EVT_STS 0x80 4] ++
      ([Reg.ENG.QCNT_LO_NC, Reg.ENG.STATE_DISAGREE] ++ fallFields 325)) s (emptied s) :=
  (((((changes_teach s).mono (fun _ h => h) (by simp)).trans ((changes_anchor 0 _).mono (fun _ h => h)
    (by simp +contextual))).set _ _ (by simp)).event _ _ (by simp)).in_eng _ (by simp)

theorem get_emptied (s : State) : get Reg.ENG.EMPTY_FRAME_FRAME (emptied s) = now32 s ∧
    get (Reg.EVT_STS 0x80 4) (emptied s) = 1 ∧
    get Reg.ENG.CAP_LEARNED_MAH (emptied s) = get Reg.ENG.CAP_LEARNED_MAH (teach s) ∧ (emptied s).eng.counter = 0 := by
  have hcap := (changes_anchor 0 (teach s)).regs Reg.ENG.CAP_LEARNED_MAH (by decide) (by decide)
  refine ⟨?_, ?_, ?_, ?_⟩
  case refine_4 =>
    show (anchor 0 (teach s)).eng.counter = 0
    rw [anchor_eng]
  all_goals simp (disch := decide) only [emptied, event, get_setEng, get_set_other, get_set_same]
  · exact Nat.mod_eq_of_lt (Nat.mod_lt _ (by decide))
  · rfl
  · exact hcap

theorem completes_emptyAnchor {s : State} (hs : Ready s) (h : 500 ≤ s.eng.emptyRun) :
    Completes .emptyAnchor s fun t =>
      t.eng.counter = 0 ∧ get Reg.ENG.EMPTY_FRAME_FRAME t = now32 s ∧ get (Reg.EVT_STS 0x80 4) t = 1 ∧
      (∀ d, s.eng.discharge = some d → tcBat (mkRat d.temp (max 1 d.frames)) s ≠ 0 →
        get Reg.ENG.CAP_LEARNED_MAH t = taughtMah d s) ∧
      (s.eng.discharge = none → get Reg.ENG.CAP_LEARNED_MAH t = get Reg.ENG.CAP_LEARNED_MAH s) ∧
      (isSet Reg.ENG.EXERCISE_ACTIVE s = true →
        get Reg.ENG.EXERCISE_ACTIVE t = 0 ∧ get Reg.ENG.EXERCISE_RESULT t = 1 ∧ t.pwr.holdEn = false) ∧
      Changes [.eng, .pwr] ([Reg.ENG.CAP_LEARNED_MAH, Reg.ENG.EMPTY_FRAME_FRAME, Reg.EVT_STS 0x80 4,
        Reg.ENG.EXERCISE_ACTIVE, Reg.ENG.EXERCISE_RESULT, Reg.ENG.STATE_BAT, Reg.EVT_STS 0x80 7] ++
        ([Reg.ENG.QCNT_LO_NC, Reg.ENG.STATE_DISAGREE, Reg.ENG.STATE_CHG_ON] ++ fallFields 325)) s t := by
  have he : emptyAnchored (begun s) = endExercise 1 (emptied (begun s)) := if_pos h
  have hempty := changes_emptied (begun s)
  obtain ⟨hframe, hevent, hcap, hcounter⟩ := get_emptied (begun s)
  have hactive : isSet Reg.ENG.EXERCISE_ACTIVE (emptied (begun s)) = isSet Reg.ENG.EXERCISE_ACTIVE s := by
    rw [isSet, hempty.regs _ (by decide) (by decide)]
    rfl
  generalize emptied (begun s) = u at he hempty hframe hevent hcap hcounter hactive
  have hend := changes_endExercise 1 u
  have hkeep : ∀ f : Fld, f.key ∉ [Reg.ENG.EXERCISE_ACTIVE, Reg.ENG.EXERCISE_RESULT, Reg.ENG.STATE_BAT,
      Reg.EVT_STS 0x80 7, Reg.ENG.STATE_CHG_ON].map Fld.key → f.key ∉ settleKeys → get f (endExercise 1 u) = get f u :=
    hend.regs
  have hcounts : (endExercise 1 u).eng.counter = 0 := by
    cases ha : isSet Reg.ENG.EXERCISE_ACTIVE u
    · rw [endExercise_of_none ha, hcounter]
    · rw [endExercise_of_active ha]
      exact hcounter
  have hc := (hempty.mono (qs := [.eng, .pwr]) (gs := [Reg.ENG.CAP_LEARNED_MAH, Reg.ENG.EMPTY_FRAME_FRAME, Reg.EVT_STS 0x80 4,
        Reg.ENG.EXERCISE_ACTIVE, Reg.ENG.EXERCISE_RESULT, Reg.ENG.STATE_BAT, Reg.EVT_STS 0x80 7] ++
        ([Reg.ENG.QCNT_LO_NC, Reg.ENG.STATE_DISAGREE, Reg.ENG.STATE_CHG_ON] ++ fallFields 325)) (by simp)
      (by simp +contextual)).trans (hend.mono (fun _ h => h) (by simp +contextual))
  have hnone : s.eng.discharge = none →
      get Reg.ENG.CAP_LEARNED_MAH (teach (begun s)) = get Reg.ENG.CAP_LEARNED_MAH (begun s) := fun hn => by
    rw [teach_none (s := begun s) hn]
  refine .leaves hs (f := emptyAnchored) rfl he (hc.reqs.trans hs.2) fun t k =>
    ⟨(congrArg Eng.counter k.eng).trans hcounts,
      k.stored (by decide) ((hkeep _ (by decide) (by decide)).trans hframe),
      k.stored (by decide) ((hkeep _ (by decide) (by decide)).trans hevent),
      fun d hd _ => k.stored (by decide) ((hkeep _ (by decide) (by decide)).trans (hcap.trans
        (get_teach_some (s := begun s) hd))),
      fun hn => k.stored (by decide) ((hkeep _ (by decide) (by decide)).trans (hcap.trans (hnone hn))),
      fun ha => ?_, ((Changes.begin _ _ s).trans hc).ended k⟩
  have hau := hactive.trans ha
  rw [endExercise_of_active hau] at k
  obtain ⟨hact, hres, -, -, hhold⟩ := get_exerciseEnded 1 u
  exact ⟨k.stored (by decide) hact, k.stored (by decide) hres, (congrArg Pwr.holdEn k.pwr).trans hhold⟩

/-- Settles O34. -/
theorem anchorCommands : Obligations.AnchorCommands := by
  unfold Obligations.AnchorCommands
  exact fun s hs => ⟨completes_restDone hs, completes_fullAnchor hs, completes_emptyAnchor hs⟩

/-! ### The exercise (R266) -/

theorem completes_exerciseRefused {s : State} (hs : Ready s) {w : Writer} (hw : Reaches w 0x801AC 1 s) {n : Nat}
    (hn : n % 2 ^ Reg.ENG.EXERCISE_RESULT.w = n) (he : startExercise (begun s) = set Reg.ENG.EXERCISE_RESULT n (begun s)) :
    Completes (.exerciseStart w) s fun t => get Reg.ENG.EXERCISE_RESULT t = n ∧ Changes [] [Reg.ENG.EXERCISE_RESULT] s t :=
  .leavesReached hs hw (k := startExercise) rfl he hs.2 fun _ k =>
    ⟨k.stored (by decide) ((get_set_same _ _ _).trans hn), ((Changes.begin _ _ s).set _ _ (by simp)).ended k⟩

/-- What the start of an exercise shows before the charge path follows. -/
def exerciseBegun (s : State) : State :=
  { s with eng := { s.eng with exerciseFrom := some (now s) }, pwr := { s.pwr with holdEn := true } }
    |> set Reg.ENG.EXERCISE_ACTIVE 1 |> set Reg.ENG.EXERCISE_RESULT 0 |> set Reg.ENG.STATE_BAT 3

theorem changes_exerciseBegun (s : State) : Changes [.eng, .pwr] [Reg.ENG.EXERCISE_ACTIVE, Reg.ENG.EXERCISE_RESULT,
    Reg.ENG.STATE_BAT] s (exerciseBegun s) :=
  (((((Changes.refl [.eng, .pwr] _ s).in_eng { s.eng with exerciseFrom := some (now s) } (by simp)).in_pwr
    { s.pwr with holdEn := true } (by simp)).set _ _ (by simp)).set _ _ (by simp)).set _ _ (by simp)

theorem startExercise_eq {s : State} (ha : isSet Reg.ENG.EXERCISE_ACTIVE s = false) (hf : fenced s = false) :
    startExercise s = if (!isSet Reg.ENG.STATE_AT_FULL s || batState s != 2) = true then set Reg.ENG.EXERCISE_RESULT 3 s
      else if tStore s < 160 ∨ 640 < tStore s then set Reg.ENG.EXERCISE_RESULT 4 s
      else chargeShow (exerciseBegun s) := by
  unfold startExercise
  rw [if_neg (by simp [ha]), if_neg (by simp [hf])]
  split
  · rfl
  · by_cases h : tStore s < 160 ∨ 640 < tStore s
    · rw [if_pos h, if_pos (by simpa using h)]
    · rw [if_neg h, if_neg (by simpa using h)]
      rfl

theorem completes_exerciseStart {s : State} (hs : Ready s) {w : Writer} (hw : Reaches w 0x801AC 1 s)
    (ha : isSet Reg.ENG.EXERCISE_ACTIVE s = false) (hf : fenced s = false) (hb : batState s = 2)
    (hfull : isSet Reg.ENG.STATE_AT_FULL s = true) (hlo : 160 ≤ tStore s) (hhi : tStore s ≤ 640) :
    Completes (.exerciseStart w) s fun t =>
      get Reg.ENG.EXERCISE_ACTIVE t = 1 ∧ t.pwr.holdEn = true ∧ batState t = 3 ∧ t.eng.exerciseFrom = some (now s) ∧
      Changes [.eng, .pwr] [Reg.ENG.EXERCISE_ACTIVE, Reg.ENG.EXERCISE_RESULT, Reg.ENG.STATE_BAT, Reg.EVT_STS 0x80 7,
        Reg.ENG.STATE_CHG_ON] s t := by
  have he : startExercise (begun s) = chargeShow (exerciseBegun (begun s)) := by
    rw [startExercise_eq (s := begun s) ha hf, if_neg, if_neg]
    · show ¬ (tStore s < 160 ∨ 640 < tStore s)
      omega
    · simp [show isSet Reg.ENG.STATE_AT_FULL (begun s) = true from hfull, show batState (begun s) = 2 from hb]
  refine .leavesReached hs hw (k := startExercise) rfl he hs.2 fun t k =>
    ⟨k.stored (by decide) ?_, congrArg Pwr.holdEn k.pwr, k.stored (by decide) ?_, congrArg Eng.exerciseFrom k.eng,
      ((Changes.begin _ _ s).trans (((changes_exerciseBegun _).mono (fun _ h => h) (by simp +contextual)).trans
        ((changes_chargeShow _).mono (by simp) (by simp)))).ended k⟩
  all_goals
    simp (disch := decide) only [exerciseBegun, chargeShow, put1, get_set_other, get_set_same]
    rfl

/-- What the end of an exercise leaves at the end of its command (R266). -/
theorem exerciseEnded_ended {s t : State} {n : Nat} (hn : n % 2 ^ Reg.ENG.EXERCISE_RESULT.w = n)
    (k : Keeps settleKeys (exerciseEnded n (begun s)) t) :
    get Reg.ENG.EXERCISE_ACTIVE t = 0 ∧ get Reg.ENG.EXERCISE_RESULT t = n ∧ t.pwr.holdEn = false ∧
      get (Reg.EVT_STS 0x80 7) t = 1 ∧ Changes [.eng, .pwr] [Reg.ENG.EXERCISE_ACTIVE, Reg.ENG.EXERCISE_RESULT,
        Reg.ENG.STATE_BAT, Reg.EVT_STS 0x80 7, Reg.ENG.STATE_CHG_ON] s t := by
  obtain ⟨hact, hres, -, hevent, hhold⟩ := get_exerciseEnded n (begun s)
  exact ⟨k.stored (by decide) hact, k.stored (by decide) (hres.trans hn), (congrArg Pwr.holdEn k.pwr).trans hhold,
    k.stored (by decide) hevent, ((Changes.begin _ _ s).trans (changes_exerciseEnded n _)).ended k⟩

end Sys2Proof.Machine
end

section
/-! SUPPORT. The end of an exercise, the learned values, the test of the bank and the read of the charge counter (R266 to
R274). -/

namespace Sys2Proof.Machine
set_option Elab.async false

theorem completes_exerciseStop {s : State} (hs : Ready s) {w : Writer} (hw : Reaches w 0x801AC 2 s)
    (ha : isSet Reg.ENG.EXERCISE_ACTIVE s = true) :
    Completes (.exerciseStop w) s fun t =>
      get Reg.ENG.EXERCISE_ACTIVE t = 0 ∧ get Reg.ENG.EXERCISE_RESULT t = 2 ∧ t.pwr.holdEn = false ∧
      get (Reg.EVT_STS 0x80 7) t = 1 ∧ Changes [.eng, .pwr] [Reg.ENG.EXERCISE_ACTIVE, Reg.ENG.EXERCISE_RESULT,
        Reg.ENG.STATE_BAT, Reg.EVT_STS 0x80 7, Reg.ENG.STATE_CHG_ON] s t :=
  .leavesReached hs hw (k := stopExercise) rfl (endExercise_of_active (s := begun s) ha 2) hs.2 fun _ k =>
    exerciseEnded_ended (by decide) k

theorem completes_exerciseTimeout {s : State} (hs : Ready s) {f : Nat} (hf : s.eng.exerciseFrom = some f)
    (hd : f + 360000000 ≤ now s) (ha : isSet Reg.ENG.EXERCISE_ACTIVE s = true) :
    Completes .exerciseTimeout s fun t =>
      get Reg.ENG.EXERCISE_ACTIVE t = 0 ∧ get Reg.ENG.EXERCISE_RESULT t = 5 ∧ t.pwr.holdEn = false ∧
      Changes [.eng, .pwr] [Reg.ENG.EXERCISE_ACTIVE, Reg.ENG.EXERCISE_RESULT,
        Reg.ENG.STATE_BAT, Reg.EVT_STS 0x80 7, Reg.ENG.STATE_CHG_ON] s t := by
  have he : exerciseExpired (begun s) = exerciseEnded 5 (begun s) := by
    have hfb : (begun s).eng.exerciseFrom = some f := hf
    unfold exerciseExpired
    rw [hfb]
    exact (if_pos hd).trans (endExercise_of_active (s := begun s) ha 5)
  refine .leaves hs (f := exerciseExpired) rfl he hs.2 fun t k => ?_
  obtain ⟨hact, hres, hhold, -, hc⟩ := exerciseEnded_ended (s := s) (by decide) k
  exact ⟨hact, hres, hhold, hc⟩

/-! ### Learned values (R267, R269, R270) -/

theorem completes_learnResetDefaults {s : State} (hs : Ready s) {w : Writer} (hw : Reaches w 0x801B0 1 s) :
    Completes (.learnResetDefaults w) s fun t => t.eng.resetDefaults = true ∧ Changes [.eng] [] s t :=
  .leavesReached hs hw (k := resetLearned) rfl rfl hs.2 fun _ k =>
    ⟨congrArg Eng.resetDefaults k.eng, ((Changes.begin _ _ s).in_eng _ (by simp)).ended k⟩

/-- The sequence number of the next record (R269). -/
def learnSeq (s : State) : Nat := ((newestLearned s).map (fun r => learnedWord r.2 0)).getD 0 + 1

/-- The slot of the next record: the one that does not hold the newest valid one (R270). -/
def learnSlot (s : State) : Nat := if (newestLearned s).map (·.1) = some 0 then 1 else 0

/-- A record that is not whole is not valid. -/
theorem learnedValid_short {ws : List Word} (h : ws.length ≠ 8) : learnedValid ws = false := by
  simp [learnedValid, h]

/-- A record broken off in the next slot leaves the newest record as it is (R269). -/
theorem newestLearned_broken {ws : List Word} (h : ws.length ≠ 8) (s : State) :
    newestLearned (putSlot (learnSlot s) ws s) = newestLearned s := by
  by_cases hfirst : learnedValid s.eng.slot0 && (!learnedValid s.eng.slot1 ||
      decide (learnedWord s.eng.slot1 0 < learnedWord s.eng.slot0 0))
  case pos =>
    have hnew : newestLearned s = some (0, s.eng.slot0) := if_pos hfirst
    have hslot : learnSlot s = 1 := by rw [learnSlot, hnew]; rfl
    rw [hnew, hslot]
    have h0 : learnedValid s.eng.slot0 = true := (Bool.and_eq_true _ _ |>.mp hfirst).1
    exact if_pos (by simp [putSlot, setEng, h0, learnedValid_short h])
  case neg =>
    have hslot : learnSlot s = 0 := by
      have hne : (newestLearned s).map (·.1) ≠ some 0 := by
        unfold newestLearned
        rw [if_neg hfirst]
        split <;> simp
      exact if_neg hne
    rw [hslot]
    unfold newestLearned
    rw [if_neg hfirst]
    simp [putSlot, setEng, learnedValid_short h]

/-- The write of R270 as far as its words go. -/
theorem writeLearned_eq {s : State} (hd : learnDiffers s = true) (hv : 1000 ≤ s.eng.vinRun) (hf : fenced s = false)
    (ha : admittedNow s = true) (n : Nat) :
    writeLearned n s = if n < 8 then setEng (fun e => { e with vinRun := 0 })
        (putSlot (learnSlot s) ((learnedWords (learnSeq s) s).take n) s)
      else putSlot (learnSlot s) ((learnedWords (learnSeq s) s).take n) s
        |> set Reg.ENG.LEARN_SLOT (learnSlot s) |> set Reg.ENG.LEARN_SEQ (learnSeq s) |> set Reg.ENG.LEARN_PENDING 0
        |> event 0x80 8 := by
  unfold writeLearned
  rw [if_pos (by simp [hd, hv, hf, ha])]
  rfl

theorem learnedWords_length (seq : Nat) (s : State) : (learnedWords seq s).length = 8 := by
  simp [learnedWords]

/-- What the next slot holds after it is written. -/
theorem slot_putSlot (ws : List Word) (s : State) :
    (if (newestLearned s).map (·.1) == some 0 then (putSlot (learnSlot s) ws s).eng.slot1
      else (putSlot (learnSlot s) ws s).eng.slot0) = ws := by
  by_cases h : (newestLearned s).map (·.1) = some 0
  · rw [if_pos (by simpa using h), learnSlot, if_pos h]
    rfl
  · rw [if_neg (by simpa using h), learnSlot, if_neg h]
    rfl

theorem learnSlot_eq (s : State) : learnSlot s = b2n ((newestLearned s).map (·.1) == some 0) := by
  unfold learnSlot
  split <;> simp_all [b2n]

theorem changes_putSlot (k : Nat) (ws : List Word) (s : State) : Changes [.eng] [] s (putSlot k ws s) :=
  (Changes.refl _ _ s).in_eng _ (by simp)

theorem b2n_fits (b : Bool) : b2n b % 2 = b2n b := by
  cases b <;> rfl

theorem learnSlot_begun (s : State) : learnSlot (begun s) = learnSlot s := rfl

/-- The record that a completed write shows. -/
def recordShown (seq slot : Nat) (s : State) : State :=
  s |> set Reg.ENG.LEARN_SLOT slot |> set Reg.ENG.LEARN_SEQ seq |> set Reg.ENG.LEARN_PENDING 0 |> event 0x80 8

theorem changes_recordShown (seq slot : Nat) (s : State) : Changes [] [Reg.ENG.LEARN_SLOT, Reg.ENG.LEARN_SEQ,
    Reg.ENG.LEARN_PENDING, Reg.EVT_STS 0x80 8] s (recordShown seq slot s) :=
  ((((Changes.refl _ _ s).set _ _ (by simp)).set _ _ (by simp)).set _ _ (by simp)).event _ _ (by simp)

theorem get_recordShown (seq slot : Nat) (s : State) :
    get Reg.ENG.LEARN_SLOT (recordShown seq slot s) = slot % 2 ^ Reg.ENG.LEARN_SLOT.w ∧
    get Reg.ENG.LEARN_PENDING (recordShown seq slot s) = 0 ∧ get (Reg.EVT_STS 0x80 8) (recordShown seq slot s) = 1 := by
  simp (disch := decide) only [recordShown, event, get_set_other, get_set_same]
  exact ⟨trivial, rfl, rfl⟩

section
variable {s : State} (hs : Ready s) (hd : learnDiffers s = true) (hv : 1000 ≤ s.eng.vinRun) (hf : fenced s = false)
  (ha : admittedNow s = true)
include hs hd hv hf ha

theorem completes_learnWhole :
    let seq := ((newestLearned s).map (fun r => learnedWord r.2 0)).getD 0 + 1
    let second := (newestLearned s).map (·.1) == some 0
    Completes (.learnRecordWrite 8) s fun t =>
      (if second then t.eng.slot1 else t.eng.slot0) = learnedWords seq s ∧ get Reg.ENG.LEARN_SLOT t = b2n second ∧
      get Reg.ENG.LEARN_PENDING t = 0 ∧ get (Reg.EVT_STS 0x80 8) t = 1 ∧
      Changes [.eng] [Reg.ENG.LEARN_SLOT, Reg.ENG.LEARN_SEQ, Reg.ENG.LEARN_PENDING, Reg.EVT_STS 0x80 8] s t := by
  intro seq second
  let u := putSlot (learnSlot s) (learnedWords (learnSeq s) s) (begun s)
  have he : writeLearned 8 (begun s) = recordShown (learnSeq s) (learnSlot s) u := by
    rw [writeLearned_eq (s := begun s) hd hv hf ha, if_neg (by decide), List.take_of_length_le]
    · rfl
    · rw [learnedWords_length]
  obtain ⟨hslot, hpending, hevent⟩ := get_recordShown (learnSeq s) (learnSlot s) u
  have hshown := changes_recordShown (learnSeq s) (learnSlot s) u
  have hput := changes_putSlot (learnSlot s) (learnedWords (learnSeq s) s) (begun s)
  refine .leaves hs (f := writeLearned 8) rfl he hs.2 fun t k => ⟨?_, k.stored (by decide) (hslot.trans ?_),
    k.stored (by decide) hpending, k.stored (by decide) hevent,
    ((Changes.begin _ _ s).trans ((hput.mono (fun _ h => h) (by simp)).trans (hshown.mono (by simp) fun _ h => h))).ended k⟩
  · rw [k.eng, hshown.eng (by simp)]
    exact slot_putSlot (learnedWords (learnSeq s) s) (begun s)
  · rw [learnSlot_eq]
    exact b2n_fits _

theorem completes_learnBroken (n : Fin 9) (hn : n.val < 8) :
    let seq := ((newestLearned s).map (fun r => learnedWord r.2 0)).getD 0 + 1
    let second := (newestLearned s).map (·.1) == some 0
    Completes (.learnRecordWrite n) s fun t =>
      (if second then t.eng.slot1 else t.eng.slot0) = (learnedWords seq s).take n ∧
      newestLearned t = newestLearned s ∧ t.eng.vinRun = 0 ∧ Changes [.eng] [] s t := by
  intro seq second
  let ws := (learnedWords (learnSeq s) s).take n
  have hws : ws.length ≠ 8 := by
    simp only [ws, List.length_take, learnedWords_length]
    omega
  let u := putSlot (learnSlot s) ws (begun s)
  have he : writeLearned n (begun s) = setEng (fun e => { e with vinRun := 0 }) u :=
    (writeLearned_eq (s := begun s) hd hv hf ha n).trans (if_pos hn)
  refine .leaves hs (f := writeLearned n) rfl he hs.2 fun t k => ⟨?_, ?_, congrArg Eng.vinRun k.eng,
    (((Changes.begin _ _ s).trans (changes_putSlot _ ws _)).in_eng _ (by simp)).ended k⟩
  · rw [k.eng]
    exact slot_putSlot ws (begun s)
  · have hsame : newestLearned t = newestLearned u := by
      unfold newestLearned
      rw [k.eng]
      rfl
    exact hsame.trans (newestLearned_broken hws (begun s))

end

/-! ### The test of the bank (R271, R272) -/

theorem completes_capTestStart {s : State} (hs : Ready s) (hv : vinGoodNow s = true) (hb : bankFull s = true)
    (hf : fenced s = false) (ha : isSet Reg.ENG.EXERCISE_ACTIVE s = false) (ht : s.eng.capTest = none)
    (hd : testDue s = true) :
    Completes .capTestStart s fun t =>
      get Reg.ENG.CAP_TEST_RUNNING t = 1 ∧ t.eng.capTest = some { start := now s, v0 := s.eng.last.vcap } ∧
      t.pwr.testLoad = true ∧ Changes [.eng, .pwr] [Reg.ENG.CAP_TEST_RUNNING] s t := by
  have hcond : (vinGoodNow (begun s) && bankFull (begun s) && !fenced (begun s) &&
      !isSet Reg.ENG.EXERCISE_ACTIVE (begun s) && (begun s).eng.capTest == none && testDue (begun s)) = true := by
    rw [show vinGoodNow (begun s) = true from hv, show bankFull (begun s) = true from hb,
      show fenced (begun s) = false from hf, show isSet Reg.ENG.EXERCISE_ACTIVE (begun s) = false from ha,
      show (begun s).eng.capTest = none from ht, show testDue (begun s) = true from hd]
    rfl
  exact .leaves hs (f := startCapTest) rfl (if_pos hcond) hs.2 fun t k => ⟨k.stored (by decide) (get_set_same _ _ _),
    congrArg Eng.capTest k.eng, congrArg Pwr.testLoad k.pwr,
    ((((Changes.begin [.eng, .pwr] _ s).in_eng { s.eng with
      capTest := some { start := now s, v0 := s.eng.last.vcap }, lastCapTest := some (now s) } (by simp)).in_pwr
      { s.pwr with testLoad := true } (by simp)).set Reg.ENG.CAP_TEST_RUNNING 1 (by simp)).ended k⟩

/-- What the end of a test shows before it is judged. -/
def testShown (c e : Nat) (s : State) : State :=
  s |> spend |> spend |> endCapTest |> set Reg.ENG.CAP_TEST_C_MEAS c |> set Reg.ENG.CAP_TEST_ESR_MOHM e |> learnedNow

theorem fieldValue_fits {w n : Nat} (h : n < 2 ^ w) (free : Word) : fieldValue w (some n) free = n := if_pos h

/-- The end of a test shows the two results and judges them; where the spec states them, they are the stated ones. -/
theorem finishCapTest_eq {s : State} {x : CapTest} {v1 v500 : Nat} (hx : s.eng.capTest = some x) (h1 : x.v1 = some v1)
    (h500 : x.v500 = some v500) :
    ∃ c e c' e', finishCapTest s = judgeCapTest c e (testShown c' e' s) ∧
      ∀ m r, cMeasOf v1 v500 s = some m → m < 65536 → esrOf x.v0 v1 s = some r → r < 4096 →
        c = m ∧ e = r ∧ c' = m ∧ e' = r := by
  obtain ⟨start, v0, o1, o500⟩ := x
  obtain rfl : o1 = some v1 := h1
  obtain rfl : o500 = some v500 := h500
  refine ⟨(cMeasOf v1 v500 s).getD (fieldValue 16 none (freshWord s)),
    (esrOf v0 v1 s).getD (fieldValue 12 none (freshWord (spend s))), fieldValue 16 (cMeasOf v1 v500 s) (freshWord s),
    fieldValue 12 (esrOf v0 v1 s) (freshWord (spend s)), ?_, ?_⟩
  · unfold finishCapTest testShown
    rw [hx]
  · intro m r hm hlt hr hrlt
    rw [hm, hr]
    exact ⟨rfl, rfl, fieldValue_fits hlt _, fieldValue_fits hrlt _⟩

theorem changes_testShown (c e : Nat) (s : State) : Changes [.eng, .pwr] [Reg.ENG.CAP_TEST_C_MEAS,
    Reg.ENG.CAP_TEST_ESR_MOHM, Reg.ENG.CAP_TEST_RUNNING] s (testShown c e s) := by
  have hparts : Changes [.eng, .pwr] [Reg.ENG.CAP_TEST_C_MEAS, Reg.ENG.CAP_TEST_ESR_MOHM, Reg.ENG.CAP_TEST_RUNNING] s
      (endCapTest (spend (spend s))) :=
    ((((Changes.refl [.eng, .pwr] _ s).spend).spend.in_eng { s.eng with capTest := none } (by simp)).in_pwr
      { s.pwr with testLoad := false } (by simp)).set Reg.ENG.CAP_TEST_RUNNING 0 (by simp)
  exact ((hparts.set _ c (by simp)).set _ e (by simp)).in_eng _ (by simp)

theorem get_testShown (c e : Nat) (s : State) : get Reg.ENG.CAP_TEST_RUNNING (testShown c e s) = 0 ∧
    get Reg.ENG.CAP_TEST_C_MEAS (testShown c e s) = c % 2 ^ Reg.ENG.CAP_TEST_C_MEAS.w ∧
    get Reg.ENG.CAP_TEST_ESR_MOHM (testShown c e s) = e % 2 ^ Reg.ENG.CAP_TEST_ESR_MOHM.w := by
  have hnow : ∀ (f : Fld) (u : State), get f (learnedNow u) = get f u := fun _ _ => rfl
  simp (disch := decide) only [testShown, endCapTest, hnow, get_set_other, get_set_same]
  exact ⟨rfl, trivial, trivial⟩

/-- The two verdicts on a test. -/
def verdictShown (low high : Bool) (s : State) : State := s |> put1 Reg.ENG.CAP_TEST_LOW low |> put1 Reg.ENG.CAP_TEST_HIGH_ESR high

/-- What a verdict on the capacitance leaves: a low one is told. -/
def lowTold (low : Bool) (c : Nat) (s : State) : State :=
  if low then s |> event 0x80 6 |> raiseHeld 327 0 0 c (get Reg.ENG.VCAP_CODE s) else when s.eng.bankSeen (liveFall 327) s

/-- What a verdict on the ESR leaves. -/
def highTold (high : Bool) (e : Nat) (s : State) : State := if high then raiseHeld 328 0 0 e 0 s else liveFall 328 s

theorem judgeCapTest_eq (c e : Nat) (s : State) {low high : Bool} (hl : bankLow c s = low)
    (hh : decide (get Reg.ENG.CAP_ESR_MAX_MOHM s < e) = high) :
    judgeCapTest c e s = highTold high e (lowTold low c (verdictShown low high s)) := by
  unfold judgeCapTest
  rw [hl, hh]
  cases low <;> cases high <;> rfl

theorem changes_verdictShown (low high : Bool) (s : State) :
    Changes [] [Reg.ENG.CAP_TEST_LOW, Reg.ENG.CAP_TEST_HIGH_ESR] s (verdictShown low high s) :=
  ((Changes.refl _ _ s).put1 _ _ (by simp)).put1 _ _ (by simp)

theorem isSet_verdictShown (low high : Bool) (s : State) :
    isSet Reg.ENG.CAP_TEST_LOW (verdictShown low high s) = low ∧
    isSet Reg.ENG.CAP_TEST_HIGH_ESR (verdictShown low high s) = high := by
  unfold verdictShown
  refine ⟨(isSet_set_other _ _ (by decide)).trans (isSet_put1_same _ _ _ rfl), isSet_put1_same _ _ _ rfl⟩

/-- A verdict on the capacitance changes what the fall, or the raise, of source 327 does. -/
theorem changes_lowTold {low : Bool} {s : State} (c : Nat) (hc : low = true → Calm 327 s) :
    Changes raiseParts (Reg.EVT_STS 0x80 6 :: raiseFields 327) s (lowTold low c s) ∧ SameCalm s (lowTold low c s) := by
  unfold lowTold
  split
  case isTrue h =>
    have hevent : Changes [] [Reg.EVT_STS 0x80 6] s (event 0x80 6 s) := (Changes.refl _ _ s).event _ _ (by simp)
    have hcalm : Calm 327 (event 0x80 6 s) := (hevent.source (n := 327) (by decide) (by decide)).calm (hc h)
    exact ⟨(hevent.mono (by simp) (by simp)).trans ((changes_raiseHeld hcalm 0 0 c _).mono (fun _ h => h) (by simp +contextual)),
      raise_calm (x := ⟨327, 0, 0, c, get Reg.ENG.VCAP_CODE s, false, true⟩) hcalm⟩
  case isFalse =>
    refine ⟨(Changes.refl _ _ s).cond _ _ fun u hu => hu.trans ((changes_liveFall 327 u).mono (by simp) ?_),
      when_keeps (SameCalm s) _ _ _ rfl fun hu => (liveFall_calm _ _).trans hu⟩
    simp [fallFields, raiseFields]

theorem changes_highTold {high : Bool} {s : State} (e : Nat) (hc : high = true → Calm 328 s) :
    Changes raiseParts (raiseFields 328) s (highTold high e s) ∧ SameCalm s (highTold high e s) := by
  unfold highTold
  split
  case isTrue h => exact ⟨changes_raiseHeld (hc h) 0 0 e 0, raise_calm (x := ⟨328, 0, 0, e, 0, false, true⟩) (hc h)⟩
  case isFalse => exact ⟨(changes_liveFall 328 s).mono (by simp) (by simp [fallFields, raiseFields]), liveFall_calm 328 s⟩

/-- The fields that a test's results and verdicts are shown in are apart from those of the two sources. -/
theorem test_fields {f : Fld} (hf : f ∈ [Reg.ENG.CAP_TEST_RUNNING, Reg.ENG.CAP_TEST_C_MEAS, Reg.ENG.CAP_TEST_ESR_MOHM,
    Reg.ENG.CAP_TEST_LOW, Reg.ENG.CAP_TEST_HIGH_ESR]) : f.key ∉ (Reg.EVT_STS 0x80 6 :: raiseFields 327).map Fld.key ∧
    f.key ∉ (raiseFields 328).map Fld.key ∧ f.key ∉ settleKeys := by
  revert f
  decide +kernel

/-- A test's end once the verdicts are shown: what they lead to. -/
def judged (low high : Bool) (c e : Nat) (v : State) : State := highTold high e (lowTold low c v)

section
variable {low high : Bool} {c e : Nat} {v : State} (h327 : low = true → Calm 327 v) (h328 : high = true → Calm 328 v)
include h327 h328

theorem calm328_lowTold (h : high = true) : Calm 328 (lowTold low c v) :=
  ((changes_lowTold c h327).1.source (n := 328) (by decide) (by decide)).calm (h328 h)

theorem get_judged {f : Fld} (hf : f ∈ [Reg.ENG.CAP_TEST_RUNNING, Reg.ENG.CAP_TEST_C_MEAS, Reg.ENG.CAP_TEST_ESR_MOHM,
    Reg.ENG.CAP_TEST_LOW, Reg.ENG.CAP_TEST_HIGH_ESR]) : get f (judged low high c e v) = get f v := by
  obtain ⟨hk327, hk328, hk⟩ := test_fields hf
  exact ((changes_highTold e (calm328_lowTold h327 h328)).1.regs f hk328 hk).trans
    ((changes_lowTold c h327).1.regs f hk327 hk)

theorem judged_parts : (judged low high c e v).reqs = v.reqs ∧ (judged low high c e v).eng = v.eng ∧
    (judged low high c e v).pwr.testLoad = v.pwr.testLoad := by
  obtain ⟨hlow, hcalmLow⟩ := changes_lowTold (s := v) c h327
  obtain ⟨hhigh, hcalmHigh⟩ := changes_highTold (s := lowTold low c v) e (calm328_lowTold h327 h328)
  exact ⟨hhigh.reqs.trans hlow.reqs, (hhigh.eng (by decide)).trans (hlow.eng (by decide)),
    congrArg (fun p => p.1.testLoad) (hcalmHigh.trans hcalmLow)⟩

end

/-- With both verdicts good the two sources fall. -/
theorem judged_good (c e : Nat) (v : State) : isSet (Reg.FLS.LIVE 328) (judged false false c e v) = false ∧
    Changes [] (fallFields 327 ++ fallFields 328) v (judged false false c e v) :=
  ⟨live_liveFall 328 _, ((Changes.refl _ _ v).cond _ _ fun u hu => hu.trans ((changes_liveFall 327 u).mono (by simp)
    (by simp +contextual))).trans ((changes_liveFall 328 _).mono (by simp) (by simp +contextual))⟩

/-- A low capacitance is told by its event and source 327. -/
theorem judged_low (c e : Nat) {v : State} (hf : Fresh 327 v) :
    isSet (Reg.FLS.LIVE 327) (judged true false c e v) = true ∧ Raised 327 v (judged true false c e v) ∧
      get (Reg.EVT_STS 0x80 6) (judged true false c e v) = 1 := by
  have hevent : Changes [] [Reg.EVT_STS 0x80 6] v (event 0x80 6 v) := (Changes.refl _ _ v).event _ _ (by simp)
  have hsource := hevent.source (n := 327) (by decide) (by decide)
  have hfresh := hsource.fresh hf
  let u := raiseHeld 327 0 0 c (get Reg.ENG.VCAP_CODE v) (event 0x80 6 v)
  have hraise : Changes raiseParts (raiseFields 327) (event 0x80 6 v) u := changes_raiseHeld hfresh.2 _ _ _ _
  have hfall := changes_liveFall 328 u
  have hlater := hfall.source (n := 327) (by decide) (by decide)
  refine ⟨hlater.live.trans (live_after_raiseHeld hfresh (by decide) (by decide) _ _ _ _),
    hlater.stays (hsource.raised (raised_raiseHeld hfresh (by decide) (by decide) _ _ _ _)), ?_⟩
  exact (hfall.regs _ (by decide) (by decide)).trans ((hraise.regs _ (by decide) (by decide)).trans (get_set_same _ _ _))

/-- The results and the verdicts that a test shows. -/
def testFields : List Fld := [Reg.ENG.CAP_TEST_C_MEAS, Reg.ENG.CAP_TEST_ESR_MOHM, Reg.ENG.CAP_TEST_RUNNING,
  Reg.ENG.CAP_TEST_LOW, Reg.ENG.CAP_TEST_HIGH_ESR]

/-- `v` shows the end of the test of `s` with the capacitance and the ESR `c` and `e`. -/
structure TestOver (v1 v500 : Nat) (x : CapTest) (s : State) (c e : Nat) (v : State) : Prop where
  changes : Changes [.eng, .pwr] testFields s v
  running : get Reg.ENG.CAP_TEST_RUNNING v = 0
  load : v.pwr.testLoad = false
  test : v.eng.capTest = none
  low : isSet Reg.ENG.CAP_TEST_LOW v = bankLow c s
  high : isSet Reg.ENG.CAP_TEST_HIGH_ESR v = decide (get Reg.ENG.CAP_ESR_MAX_MOHM s < e)
  results : ∀ m r, cMeasOf v1 v500 s = some m → m < 65536 → esrOf x.v0 v1 s = some r → r < 4096 →
    c = m ∧ e = r ∧ get Reg.ENG.CAP_TEST_C_MEAS v = m ∧ get Reg.ENG.CAP_TEST_ESR_MOHM v = r

theorem finishCapTest_over {s : State} {x : CapTest} {v1 v500 : Nat} (hx : s.eng.capTest = some x) (h1 : x.v1 = some v1)
    (h500 : x.v500 = some v500) :
    ∃ c e v, finishCapTest s = judged (bankLow c s) (decide (get Reg.ENG.CAP_ESR_MAX_MOHM s < e)) c e v ∧
      TestOver v1 v500 x s c e v := by
  obtain ⟨c, e, c', e', hfin, hval⟩ := finishCapTest_eq hx h1 h500
  have htest := changes_testShown c' e' s
  obtain ⟨hrun, hc', he'⟩ := get_testShown c' e' s
  have hbank : bankLow c (testShown c' e' s) = bankLow c s := by
    unfold bankLow
    rw [htest.regs _ (by decide) (by decide), htest.regs _ (by decide) (by decide), htest.regs _ (by decide) (by decide)]
  have hmax : get Reg.ENG.CAP_ESR_MAX_MOHM (testShown c' e' s) = get Reg.ENG.CAP_ESR_MAX_MOHM s :=
    htest.regs _ (by decide) (by decide)
  have hload : (testShown c' e' s).pwr.testLoad = false := rfl
  have hnone : (testShown c' e' s).eng.capTest = none := rfl
  have hjudge := judgeCapTest_eq c e (testShown c' e' s) hbank (congrArg (fun m => decide (m < e)) hmax)
  let v := verdictShown (bankLow c s) (decide (get Reg.ENG.CAP_ESR_MAX_MOHM s < e)) (testShown c' e' s)
  have hverdict : Changes [] [Reg.ENG.CAP_TEST_LOW, Reg.ENG.CAP_TEST_HIGH_ESR] (testShown c' e' s) v :=
    changes_verdictShown _ _ _
  obtain ⟨hlow, hhigh⟩ := isSet_verdictShown (bankLow c s) (decide (get Reg.ENG.CAP_ESR_MAX_MOHM s < e)) (testShown c' e' s)
  refine ⟨c, e, v, hfin.trans hjudge, ?_⟩
  exact {
    changes := (htest.mono (fun _ h => h) (by simp [testFields])).trans (hverdict.mono (by simp) (by simp [testFields]))
    running := (hverdict.regs _ (by decide) (by decide)).trans hrun
    load := (congrArg Pwr.testLoad (hverdict.pwr (by simp))).trans hload
    test := (congrArg Eng.capTest (hverdict.eng (by simp))).trans hnone
    low := hlow
    high := hhigh
    results := fun m r hm hmlt hr hrlt => by
      obtain ⟨hcm, her, rfl, rfl⟩ := hval m r hm hmlt hr hrlt
      exact ⟨hcm, her, (hverdict.regs _ (by decide) (by decide)).trans (hc'.trans (Nat.mod_eq_of_lt hmlt)),
        (hverdict.regs _ (by decide) (by decide)).trans (he'.trans (Nat.mod_eq_of_lt hrlt))⟩ }

section
variable {s : State} {v1 v500 : Nat} {x : CapTest} {c e : Nat} {v : State} (o : TestOver v1 v500 x s c e v)
  (hr : s.reqs = [])
include o hr

/-- With the two sources calm the results are shown, and the test is over. -/
theorem TestOver.calm (h327 : Calm 327 s) (h328 : Calm 328 s) {low high : Bool} :
    Keeps settleKeys (judged low high c e v) (settle s (judged low high c e v)) ∧
      (∀ f ∈ testFields, get f (settle s (judged low high c e v)) = get f v) ∧
      (settle s (judged low high c e v)).pwr.testLoad = false ∧ (settle s (judged low high c e v)).eng.capTest = none := by
  have hl : low = true → Calm 327 v := fun _ => (o.changes.source (n := 327) (by decide) (by decide)).calm h327
  have hh : high = true → Calm 328 v := fun _ => (o.changes.source (n := 328) (by decide) (by decide)).calm h328
  obtain ⟨hreqs, heng, hload⟩ := judged_parts (c := c) (e := e) hl hh
  have k := settle_keeps s (judged low high c e v) (hreqs.trans (o.changes.reqs.trans hr))
  have hkeys : ∀ f ∈ testFields, f.key ∉ settleKeys := by decide
  refine ⟨k, fun f hf => (k.get f (hkeys f hf)).trans (get_judged hl hh ?_),
    (congrArg Pwr.testLoad k.pwr).trans (hload.trans o.load), (congrArg Eng.capTest (k.eng.trans heng)).trans o.test⟩
  simp only [testFields, List.mem_cons, List.not_mem_nil, or_false] at hf ⊢
  tauto

/-- With both verdicts good the test raises nothing. -/
theorem TestOver.good : isSet (Reg.FLS.LIVE 328) (settle s (judged false false c e v)) = false ∧
    Changes [.eng, .pwr] (testFields ++ fallFields 327 ++ fallFields 328) s (settle s (judged false false c e v)) := by
  obtain ⟨hlive, hc⟩ := judged_good c e v
  have k := settle_keeps s _ (hc.reqs.trans (o.changes.reqs.trans hr))
  exact ⟨isSet_keeps k (by decide) hlive, ((o.changes.mono (fun _ h => h) (by simp +contextual)).trans
    (hc.mono (by simp) (by simp +contextual))).ended k⟩

/-- A low capacitance alone is told. -/
theorem TestOver.bad (hf : Fresh 327 s) : isSet (Reg.FLS.LIVE 327) (settle s (judged true false c e v)) = true ∧
    Raised 327 s (settle s (judged true false c e v)) ∧
    get (Reg.EVT_STS 0x80 6) (settle s (judged true false c e v)) = 1 := by
  have hsource := o.changes.source (n := 327) (by decide) (by decide)
  obtain ⟨hlive, hraised, hevent⟩ := judged_low c e (hsource.fresh hf)
  have k := settle_keeps s _ ((judged_parts (low := true) (high := false) (c := c) (e := e)
    (fun _ => hsource.calm hf.2) (fun h => nomatch h)).1.trans (o.changes.reqs.trans hr))
  exact ⟨isSet_keeps k (by decide) hlive, (SameSource.settle (by decide) k).stays (hsource.raised hraised),
    k.stored (by decide) hevent⟩

end

theorem completes_capTestEnd {s : State} (hs : Ready s) {x : CapTest} {v1 v500 : Nat} (hx : s.eng.capTest = some x)
    (h1 : x.v1 = some v1) (h500 : x.v500 = some v500) :
    Completes (.capTestEnd x.v0 v1 v500) s fun t =>
      (Calm 327 s → Calm 328 s →
        get Reg.ENG.CAP_TEST_RUNNING t = 0 ∧ t.pwr.testLoad = false ∧ t.eng.capTest = none) ∧
      (∀ c e, cMeasOf v1 v500 s = some c → c < 65536 → esrOf x.v0 v1 s = some e → e < 4096 →
        (Calm 327 s → Calm 328 s → get Reg.ENG.CAP_TEST_C_MEAS t = c ∧ get Reg.ENG.CAP_TEST_ESR_MOHM t = e ∧
          isSet Reg.ENG.CAP_TEST_LOW t = bankLow c s ∧
          isSet Reg.ENG.CAP_TEST_HIGH_ESR t = decide (get Reg.ENG.CAP_ESR_MAX_MOHM s < e)) ∧
        (bankLow c s = false → e ≤ get Reg.ENG.CAP_ESR_MAX_MOHM s →
          isSet (Reg.FLS.LIVE 328) t = false ∧
          Changes [.eng, .pwr] (testFields ++ fallFields 327 ++ fallFields 328) s t) ∧
        (bankLow c s = true → e ≤ get Reg.ENG.CAP_ESR_MAX_MOHM s → Fresh 327 s →
          isSet (Reg.FLS.LIVE 327) t = true ∧ Raised 327 s t ∧ get (Reg.EVT_STS 0x80 6) t = 1)) := by
  obtain ⟨c, e, v, hfin, o⟩ := finishCapTest_over (s := begun s) hx h1 h500
  have ho : TestOver v1 v500 x s c e v := { o with changes := (Changes.begin _ _ s).trans o.changes }
  have hcodes : codesTaken x.v0 v1 v500 s = true := by
    rw [codesTaken, hx]
    simp [h1, h500]
  refine .of_run hs (f := when (codesTaken x.v0 v1 v500 s) finishCapTest) rfl ?_
  rw [hcodes, when_true, hfin]
  refine ⟨fun hc1 hc2 => ?_, fun m r hm hmlt hr hrlt => ?_⟩
  · obtain ⟨-, hget, hload, hnone⟩ := ho.calm hs.2 hc1 hc2
    exact ⟨(hget _ (by simp [testFields])).trans ho.running, hload, hnone⟩
  · obtain ⟨rfl, rfl, hc, he⟩ := ho.results m r hm hmlt hr hrlt
    refine ⟨fun hc1 hc2 => ?_, fun hgood hle => ?_, fun hbad hle hf => ?_⟩
    · obtain ⟨-, hget, -, -⟩ := ho.calm hs.2 hc1 hc2
      exact ⟨(hget _ (by simp [testFields])).trans hc, (hget _ (by simp [testFields])).trans he,
        by rw [isSet, hget _ (by simp [testFields])]; exact ho.low,
        by rw [isSet, hget _ (by simp [testFields])]; exact ho.high⟩
    · have hhigh : decide (get Reg.ENG.CAP_ESR_MAX_MOHM (begun s) < e) = false := decide_eq_false (not_lt.2 hle)
      rw [show bankLow c (begun s) = false from hgood, hhigh]
      exact ho.good hs.2
    · have hhigh : decide (get Reg.ENG.CAP_ESR_MAX_MOHM (begun s) < e) = false := decide_eq_false (not_lt.2 hle)
      rw [show bankLow c (begun s) = true from hbad, hhigh]
      exact ho.bad hs.2 hf

/-! ### The read of the charge counter (R274) -/

theorem pageDark_eng {s : State} (hs : Ready s) : pageDark 0x80 s = false := by
  have hv : s.pwr.vaon = true := hs.1
  simp [pageDark, pageUsed, pagePowered, pagePresent, pageDomain, hv]

theorem fieldsAt_qcnt : fieldsAt 0x80114 = [⟨Reg.ENG.QCNT_LO_NC, .ro, .none, 0, 4294967295, false, false⟩] := by
  decide +kernel

/-- The low register of the charge counter reads as it is shown (R78, R274). -/
theorem readWord_qcnt {s : State} (hs : Ready s) : readWord 0x80114 s = shown Reg.ENG.QCNT_LO_NC s := by
  have hlit : litWord 0x80 0x114 s = shown Reg.ENG.QCNT_LO_NC s := by
    unfold litWord
    rw [show (0x80 * 4096 + 0x114) = 0x80114 from rfl, fieldsAt_qcnt]
    simp [isPool, show poolOffsets 0x80 = [] by decide]
    simp [Reg.ENG.QCNT_LO_NC]
  unfold readWord
  simp [pageUsed, pageDark_eng hs, hlit]

theorem completes_qcntRead {s : State} (hs : Ready s) (w : Writer) :
    Completes (.qcntRead w) s fun t =>
      get Reg.ENG.QCNT_HI_NC t = s.eng.counter / 2 ^ 32 % 2 ^ 32 ∧
      (shown Reg.ENG.QCNT_LO_NC s = s.eng.counter % 2 ^ 32 → [Out.regData (s.eng.counter % 2 ^ 32)] <+: t.out) ∧
      Changes [] [Reg.ENG.QCNT_HI_NC] s t := by
  have hsb : Ready (begun s) := hs
  have hbus : busRead 0x80114 4 (begun s) =
      (2 ^ 32 * readWord 0x80114 (begun s) / 2 ^ 32 % 2 ^ 32, readEffect 0x80114 (begun s)) := by
    simp [busRead]
  have heffect : readEffect 0x80114 (begun s) = set Reg.ENG.QCNT_HI_NC (s.eng.counter / 2 ^ 32) (begun s) := by
    unfold readEffect
    rw [if_neg (by simp [pageDark_eng hsb]), if_neg (by decide), if_pos rfl]
  have he : readRegister 0x80114 (begun s) = emit (.regData (shown Reg.ENG.QCNT_LO_NC s % 2 ^ 32))
      (set Reg.ENG.QCNT_HI_NC (s.eng.counter / 2 ^ 32) (begun s)) := by
    unfold readRegister
    rw [hbus, heffect, readWord_qcnt hsb, Nat.mul_div_cancel_left _ (by decide)]
    rfl
  exact .leaves hs (f := readRegister 0x80114) rfl he hs.2 fun t k =>
    ⟨k.stored (by decide) (get_set_same _ _ _), fun hc => k.sent (by
      rw [hc, Nat.mod_mod]
      rfl), (((Changes.begin _ _ s).set _ _ (by simp)).emit _).ended k⟩

/-- Settles O35. -/
theorem gaugeCommands : Obligations.GaugeCommands := by
  unfold Obligations.GaugeCommands
  intro s hs w ended
  refine ⟨completes_exerciseStart hs, fun hw ha hf hfull => ?_, fun hw ha hf hb hfull ht => ?_, completes_exerciseStop hs,
    fun f hf hd ha => completes_exerciseTimeout hs hf hd ha, completes_learnResetDefaults hs, fun hd hv hf ha =>
    ⟨completes_learnWhole hs hd hv hf ha, completes_learnBroken hs hd hv hf ha⟩, completes_capTestStart hs,
    fun x v1 v500 hx h1 h500 => completes_capTestEnd hs hx h1 h500, completes_qcntRead hs w⟩
  · refine completes_exerciseRefused hs hw (by decide) ?_
    rw [startExercise_eq (s := begun s) ha hf, if_pos]
    simp [show isSet Reg.ENG.STATE_AT_FULL (begun s) = false from hfull]
  · refine completes_exerciseRefused hs hw (by decide) ?_
    rw [startExercise_eq (s := begun s) ha hf, if_neg, if_pos (show tStore (begun s) < 160 ∨ 640 < tStore (begun s) from ht)]
    simp [show isSet Reg.ENG.STATE_AT_FULL (begun s) = true from hfull, show batState (begun s) = 2 from hb]

end Sys2Proof.Machine
end

section
/-! SUPPORT. The upkeep of the DRAM channels: ages, idle pages, power-down, refresh and temperature (R137, R139, R144, R145,
R147). -/

namespace Sys2Proof.Machine
set_option Elab.async false

/-- A command that leaves the memory leaves every byte. -/
theorem Keeps.bytes {K : List Nat} {s u t : State} (k : Keeps K u t) (h : u.dram.mem = s.dram.mem) (x : Nat) :
    readByte x t = readByte x s := readByte_congr x ((congrArg Dram.mem k.dram).trans h)

/-- A read's age after the update (R137). -/
def aged (r : REntry) : REntry := if r.issued then r else { r with age := r.age + 16 }

theorem aged_who (r : REntry) : (aged r).who = r.who := by
  unfold aged
  split <;> rfl

/-- The counting of missed reads changes their requesters' counts alone. -/
theorem changes_missed {l : List REntry} {fs : List Fld} {s : State} (h : ∀ r ∈ l, Reg.QOS.MISSES_COUNT (requester r.who) ∈ fs) :
    Changes [] fs s (forEach l (fun r => inc (Reg.QOS.MISSES_COUNT (requester r.who))) s) :=
  forEach_keeps (Changes [] fs s) l _ s (.refl _ _ _) fun r hr _ hu => hu.inc _ (List.mem_map_of_mem (h r hr))

theorem completes_urgencyUpdate {s : State} (hs : Ready s) :
    Completes .urgencyUpdate s fun t =>
      t.dram.reads.map (·.age) = s.dram.reads.map (fun r => if r.issued then r.age else r.age + 16) ∧
      (∀ x, readByte x t = readByte x s) ∧
      Changes [.dram] (s.dram.reads.map (fun r => Reg.QOS.MISSES_COUNT (requester r.who))) s t := by
  let fs := s.dram.reads.map fun r => Reg.QOS.MISSES_COUNT (requester r.who)
  let reads := s.dram.reads.map aged
  let missed := reads.filter fun r => !r.issued && !r.missed && urgency r.age (requester r.who) s == 3
  let u := setReads (reads.map fun (r : REntry) =>
    { r with missed := r.missed || (!r.issued && urgency r.age (requester r.who) s == 3) }) (begun s)
  have hmissed : ∀ r ∈ missed, Reg.QOS.MISSES_COUNT (requester r.who) ∈ fs := fun r hr => by
    obtain ⟨q, hq, rfl⟩ := List.mem_map.1 (List.mem_filter.1 hr).1
    exact List.mem_map.2 ⟨q, hq, by rw [aged_who]⟩
  have hc : Changes [] fs u (ageReads (begun s)) := changes_missed hmissed
  have hu : Changes [.dram] fs s u := (Changes.begin _ _ s).in_dram _ (by simp)
  refine .leaves hs (f := ageReads) rfl rfl (hc.reqs.trans hs.2) fun t k => ⟨?_, k.bytes ((congrArg Dram.mem (hc.dram (by simp))).trans rfl),
    (hu.trans (hc.mono (by simp) fun _ h => h)).ended k⟩
  rw [k.dram, hc.dram (by simp)]
  simp only [u, setReads, reads, List.map_map]
  refine List.map_congr_left fun r _ => ?_
  simp only [Function.comp, aged]
  split <;> rfl

section
variable {s : State} (hs : Ready s) (ch : Fin 16)
include hs

theorem completes_pageIdleExpiry (sub : Fin 2) (bank : Nat) (hr : channelRuns ch s = true)
    (ho : s.dram.rows.any (fun r => r.ch == ch.val && r.sub == sub.val && r.rank * 32 + r.bank == bank) = true) :
    Completes (.pageIdleExpiry ch sub bank) s fun t =>
      [Out.dram ch sub "PRE" [bank]] <+: t.out ∧ (∀ x, readByte x t = readByte x s) ∧
      t.dram.rows = s.dram.rows.filter (fun r =>
        !(r.ch == ch.val && r.sub == sub.val && r.rank == bank / 32 && r.bank == bank % 32)) ∧
      Changes [.dram] [] s t := by
  have hcond : (channelRuns ch (begun s) && (begun s).dram.rows.any (fun r =>
      r.ch == ch.val && r.sub == sub.val && r.rank * 32 + r.bank == bank)) = true := by
    rw [show channelRuns ch (begun s) = true from hr, show (begun s).dram.rows = s.dram.rows from rfl, ho]
    rfl
  exact .leaves hs rfl (if_pos hcond) hs.2 fun t k => ⟨k.sent rfl, k.bytes rfl, congrArg Dram.rows k.dram,
    (((Changes.begin _ _ s).in_dram _ (by simp)).emit _).ended k⟩

theorem completes_pdTimerExpiry (rank : Fin 4) (hr : channelRuns ch s = true) (he : isSet (Reg.DCH.PD_PD_EN ch) s = true)
    (hq : rankQueued ch rank s = false) (ho : s.dram.rows.any (fun r => r.ch == ch.val && r.rank == rank.val) = false)
    (hw : owed ch s < 1) (hp : s.dram.poweredDown.contains (ch.val, rank.val) = false) :
    Completes (.pdTimerExpiry ch rank) s fun t =>
      [Out.dram ch 0 "PDE" [rank.val]] <+: t.out ∧ t.dram.poweredDown = s.dram.poweredDown ++ [(ch.val, rank.val)] ∧
      (∀ x, readByte x t = readByte x s) ∧ Changes [.dram] [] s t := by
  have hcond : (channelRuns ch s && isSet (Reg.DCH.PD_PD_EN ch) s && !rankQueued ch rank s &&
      !s.dram.rows.any (fun r => r.ch == ch.val && r.rank == rank.val) && decide (owed ch s < 1) &&
      !s.dram.poweredDown.contains (ch.val, rank.val)) = true := by
    rw [hr, he, hq, ho, decide_eq_true hw, hp]
    rfl
  exact .leaves hs rfl (if_pos hcond) hs.2 fun t k => ⟨k.sent rfl, congrArg Dram.poweredDown k.dram, k.bytes rfl,
    (((Changes.begin _ _ s).in_dram _ (by simp)).emit _).ended k⟩

end

/-! ### Refresh (R144, R145) -/

theorem signedOf_four (n : Nat) : -8 ≤ signedOf 4 n ∧ signedOf 4 n ≤ 7 := by
  unfold signedOf
  norm_num
  by_cases h : n % 16 < 8
  · rw [if_pos h]
    omega
  · rw [if_neg h]
    omega

theorem signedOf_encode_four {i : Int} (hlo : -8 ≤ i) (hhi : i ≤ 7) : signedOf 4 (encodeSigned 4 i % 2 ^ 4) = i := by
  unfold signedOf encodeSigned
  norm_num
  by_cases h : (i % 16).toNat % 16 < 8
  · rw [if_pos h]
    omega
  · rw [if_neg h]
    omega

theorem owed_bounds (ch : Nat) (s : State) : -8 ≤ owed ch s ∧ owed ch s ≤ 7 := signedOf_four _

/-- A count of owed refreshes within the field reads back as written. -/
theorem owed_setInt (ch : Nat) {i : Int} (s : State) (hlo : -8 ≤ i) (hhi : i ≤ 7) :
    owed ch (setInt (Reg.DCH.STS_OWED ch) i s) = i :=
  (congrArg (signedOf 4) (get_set_same _ _ _)).trans (signedOf_encode_four hlo hhi)

/-- The field of owed refreshes is apart from the others that a refresh shows. -/
theorem refresh_keys (ch : Fin 16) : (Reg.DCH.STS_OWED ch).key ∉ settleKeys ∧
    (Reg.DCH.STS_OWED ch).key ∉ [Reg.DCH.STS_MODE ch, Reg.DCH.REF_TREFI_NS ch, Reg.DCH.REF_CNT_FORCED ch,
      Reg.EVT_STS (0x20 + ch) 1].map Fld.key ∧
    (∀ f ∈ [Reg.DCH.REF_TREFI_NS ch, Reg.DCH.REF_CNT_FORCED ch, Reg.EVT_STS (0x20 + ch) 1, Reg.DCH.TEMP_HOT ch,
      Reg.DCH.STS_HOT ch], f.key ∉ settleKeys ∧ f.key ∉ [Reg.DCH.STS_OWED ch, Reg.DCH.STS_MODE ch].map Fld.key) ∧
    (Reg.DCH.REF_CNT_FORCED ch).key ≠ (Reg.EVT_STS (0x20 + ch) 1).key ∧
    (Reg.DCH.TEMP_HOT ch).key ≠ (Reg.DCH.STS_HOT ch).key := by
  revert ch
  decide +kernel

theorem changes_modeShow (ch : Nat) (s : State) : Changes [] [Reg.DCH.STS_MODE ch] s (modeShow ch s) :=
  (Changes.refl _ _ s).set _ _ (by simp)

/-- A refresh, or its management, closes the channel's rows and shows the mode. -/
theorem changes_sendRefresh (ch : Nat) (kind : String) (s : State) :
    Changes [.dram] [Reg.DCH.STS_MODE ch] s (sendRefresh ch kind s) :=
  (((Changes.refl _ _ s).in_dram _ (by simp)).set _ _ (by simp)).emit _

theorem Keeps.owed {K : List Nat} {u t : State} (k : Keeps K u t) {ch : Nat} (hf : (Reg.DCH.STS_OWED ch).key ∉ K) :
    owed ch t = owed ch u := congrArg (signedOf 4) (k.get _ hf)

theorem Changes.owed {ps : List Part} {fs : List Fld} {s t : State} (h : Changes ps fs s t) {ch : Nat}
    (hf : (Reg.DCH.STS_OWED ch).key ∉ fs.map Fld.key) (hk : (Reg.DCH.STS_OWED ch).key ∉ settleKeys) :
    owed ch t = owed ch s := congrArg (signedOf 4) (h.regs _ hf hk)

section
variable {s : State} (hs : Ready s) (ch : Fin 16)
include hs

theorem completes_refreshInterval (hr : channelRuns ch s = true) :
    Completes (.refreshInterval ch) s fun t =>
      owed ch t = min 5 (owed ch s + 1) ∧
      get (Reg.DCH.REF_TREFI_NS ch) t = (if isSet (Reg.DCH.TEMP_HOT ch) s then 1950 else 3900) ∧
      Changes [] [Reg.DCH.STS_OWED ch, Reg.DCH.STS_MODE ch, Reg.DCH.REF_TREFI_NS ch] s t := by
  obtain ⟨hko, hkm, hk, -, -⟩ := refresh_keys ch
  obtain ⟨hkt, -⟩ := hk (Reg.DCH.REF_TREFI_NS ch) (by simp)
  obtain ⟨hlo, -⟩ := owed_bounds ch s
  let u := setInt (Reg.DCH.STS_OWED ch) (min 5 (owed ch s + 1)) (begun s)
  have hu : Changes [] [Reg.DCH.STS_OWED ch] s u := (Changes.begin _ _ s).set _ _ (by simp)
  have hmode := changes_modeShow ch u
  have hshown := (hmode.mono (qs := []) (gs := [Reg.DCH.STS_MODE ch, Reg.DCH.REF_TREFI_NS ch]) (by simp) (by simp)).set
    (Reg.DCH.REF_TREFI_NS ch) (if isSet (Reg.DCH.TEMP_HOT ch) s then 1950 else 3900) (by simp)
  refine .leaves hs rfl (if_pos hr) hs.2 fun t k => ⟨(k.owed hko).trans (((hshown.mono (fun _ h => h) ?_).owed hkm hko).trans
    (owed_setInt ch _ (by omega) (by omega))), k.stored hkt ((get_set_same _ _ _).trans ?_),
    ((hu.mono (by simp) (by simp)).trans (hshown.mono (by simp) (by simp +contextual))).ended k⟩
  · simp +contextual
  · show (if isSet (Reg.DCH.TEMP_HOT ch) s = true then 1950 else 3900) % 2 ^ 12 = _
    split <;> rfl

/-- What a forced refresh shows before it is paid. -/
def forcedShown (ch : Nat) (s : State) : State := s |> inc (Reg.DCH.REF_CNT_FORCED ch) |> event (0x20 + ch) 1

theorem completes_refreshForced (hr : channelRuns ch s = true) (ho : owed ch s = 5) :
    Completes (.refreshIssue ch false) s fun t =>
      owed ch t = 4 ∧ get (Reg.DCH.REF_CNT_FORCED ch) t = oneMore (Reg.DCH.REF_CNT_FORCED ch) s ∧
      get (Reg.EVT_STS (0x20 + ch) 1) t = 1 ∧ [Out.dram ch 0 "REFab" []] <+: t.out ∧
      (∀ r ∈ t.dram.rows, r.ch ≠ ch) ∧ (∀ x, readByte x t = readByte x s) ∧
      Changes [.dram] [Reg.DCH.STS_OWED ch, Reg.DCH.STS_MODE ch, Reg.DCH.REF_CNT_FORCED ch,
        Reg.EVT_STS (0x20 + ch) 1] s t := by
  obtain ⟨hko, hkm, hk, hforced, -⟩ := refresh_keys ch
  obtain ⟨hkf, hpf⟩ := hk (Reg.DCH.REF_CNT_FORCED ch) (by simp)
  obtain ⟨hke, hpe⟩ := hk (Reg.EVT_STS (0x20 + ch) 1) (by simp)
  let u := forcedShown ch (begun s)
  have hu : Changes [] [Reg.DCH.REF_CNT_FORCED ch, Reg.EVT_STS (0x20 + ch) 1] s u :=
    ((Changes.begin _ _ s).inc _ (by simp)).event _ _ (by simp)
  have hou : owed ch u = 5 := ((hu.mono (fun _ h => h) (by simp +contextual)).owed hkm hko).trans ho
  let v := setInt (Reg.DCH.STS_OWED ch) (owed ch u - 1) u
  have hsend := changes_sendRefresh ch "REFab" v
  have hpay : Changes [.dram] [Reg.DCH.STS_OWED ch, Reg.DCH.STS_MODE ch] u (payRefresh ch u) :=
    ((Changes.refl _ _ u).set _ _ (by simp)).trans (hsend.mono (fun _ h => h) (by simp))
  have he : refresh ch (begun s) = payRefresh ch u := if_pos ho
  have hcond : (if !channelRuns ch (begun s) then begun s else if false then refreshManage ch (begun s)
      else refresh ch (begun s)) = payRefresh ch u := by
    rw [show channelRuns ch (begun s) = true from hr]
    exact he
  refine .leaves hs (f := fun s => if !channelRuns ch s then s else if false then refreshManage ch s else refresh ch s) rfl
    hcond hs.2 fun t k => ⟨(k.owed hko).trans ((hsend.owed (by simpa using fun h => hkm (by simp [h])) hko).trans
      ((owed_setInt ch u (by omega) (by omega)).trans (by omega))),
    k.stored hkf ((hpay.regs _ hpf hkf).trans ((get_set_other _ _ hforced).trans (get_inc_same _ _))),
    k.stored hke ((hpay.regs _ hpe hke).trans (get_set_same _ _ _)), k.sent rfl, fun r hm => ?_, k.bytes rfl,
    ((hu.mono (by simp) (by simp +contextual)).trans (hpay.mono (fun _ h => h) (by simp +contextual))).ended k⟩
  rw [k.dram] at hm
  have hrow := (List.mem_filter.1 hm).2
  simpa using hrow

theorem completes_refreshManaged (hr : channelRuns ch s = true) (hsl : slackOk ch s = true)
    (hw : channelWaits ch s = false) :
    Completes (.refreshIssue ch true) s fun t =>
      owed ch t = owed ch s ∧ [Out.dram ch 0 "RFMab" []] <+: t.out ∧ (∀ x, readByte x t = readByte x s) ∧
      Changes [.dram] [Reg.DCH.STS_MODE ch] s t := by
  obtain ⟨hko, hkm, -⟩ := refresh_keys ch
  have hsend := changes_sendRefresh ch "RFMab" (begun s)
  have hcond : (if !channelRuns ch (begun s) then begun s else if true then refreshManage ch (begun s)
      else refresh ch (begun s)) = sendRefresh ch "RFMab" (begun s) := by
    rw [show channelRuns ch (begun s) = true from hr]
    refine (if_pos (show (slackOk ch (begun s) && ((begun s).dram.served.contains ch.val || !channelWaits ch (begun s))) =
      true from ?_) : refreshManage ch (begun s) = _)
    rw [show slackOk ch (begun s) = true from hsl, show channelWaits ch (begun s) = false from hw]
    simp
  have hc : Changes [.dram] [Reg.DCH.STS_MODE ch] s (sendRefresh ch "RFMab" (begun s)) := (Changes.begin _ _ s).trans hsend
  exact .leaves hs (f := fun s => if !channelRuns ch s then s else if true then refreshManage ch s else refresh ch s) rfl
    hcond hs.2 fun t k => ⟨(k.owed hko).trans (hc.owed (by simpa using fun h => hkm (by simp [h])) hko), k.sent rfl,
      k.bytes rfl, hc.ended k⟩

theorem completes_hotClear (hh : isSet (Reg.DCH.TEMP_HOT ch) s = true) (hcool : 50 ≤ s.dram.cool.getD ch 0) :
    Completes (.hotClear ch) s fun t =>
      get (Reg.DCH.TEMP_HOT ch) t = 0 ∧ get (Reg.DCH.STS_HOT ch) t = 0 ∧
      Changes [] [Reg.DCH.TEMP_HOT ch, Reg.DCH.STS_HOT ch] s t := by
  obtain ⟨-, -, hk, -, hne⟩ := refresh_keys ch
  have hcond : (isSet (Reg.DCH.TEMP_HOT ch) s && decide (50 ≤ s.dram.cool.getD ch 0)) = true := by
    rw [hh, decide_eq_true hcool]
    rfl
  exact .leaves hs rfl (if_pos hcond) hs.2 fun t k => ⟨k.stored (hk (Reg.DCH.TEMP_HOT ch) (by simp)).1
    ((get_set_other _ _ hne).trans (get_set_same _ _ _)), k.stored (hk (Reg.DCH.STS_HOT ch) (by simp)).1
    (get_set_same _ _ _), (((Changes.begin _ _ s).set _ _ (by simp)).set _ _ (by simp)).ended k⟩

end

/-- Settles O20. -/
theorem dramUpkeep : Obligations.DramUpkeep := by
  unfold Obligations.DramUpkeep
  exact fun s hs ch => ⟨completes_urgencyUpdate hs, completes_pageIdleExpiry hs ch, completes_pdTimerExpiry hs ch,
    completes_refreshInterval hs ch, completes_refreshForced hs ch, completes_refreshManaged hs ch, completes_hotClear hs ch⟩

end Sys2Proof.Machine
end

section
/-! SUPPORT. What a record into a Gather queue changes (R430 to R435); the refresh of rank groups and the translation of
addresses (R148, R152). -/

namespace Sys2Proof.Machine
set_option Elab.async false

/-! ### A record into a Gather queue -/

/-- The fields that a record into queue `q` may change. -/
def recordFields (q : Nat) : List Fld :=
  [Reg.GQ.WR_SEQ q, Reg.EVT_STS (0xA0 + q) 5, Reg.GQ.DROPS_COUNT q, Reg.EVT_STS (0xA0 + q) 2] ++ shownFields q

section
variable {ps : List Part} {fs : List Fld} {s t : State} {q : Nat}

theorem Changes.pushWord (h : Changes ps fs s t) (hg : .gq ∈ ps) (hf : ∀ f ∈ recordFields q, f ∈ fs) (v : BitVec 16) :
    Changes ps fs s (pushWord q v t) := by
  have m : ∀ f ∈ recordFields q, f.key ∈ fs.map Fld.key := fun f hm => List.mem_map_of_mem (hf f hm)
  unfold Machine.pushWord emitWide
  refine Changes.branch _ (Changes.cond (Changes.set (Changes.setQueue (Changes.setQueue h hg _ _) hg _ _) _ _ ?_) _ _
    fun u hu => hu.event _ _ ?_) (Changes.setQueue h hg _ _)
  all_goals exact m _ (by simp [recordFields])

theorem Changes.pushRecord (h : Changes ps fs s t) (hq : q ≠ 2) (hg : .gq ∈ ps) (hf : ∀ f ∈ recordFields q, f ∈ fs)
    (r : List (BitVec 16)) : Changes ps fs s (pushRecord q r t) := by
  have m : ∀ f ∈ recordFields q, f.key ∈ fs.map Fld.key := fun f hm => List.mem_map_of_mem (hf f hm)
  unfold Machine.pushRecord
  dsimp only
  refine Changes.branch _ h ?_
  rw [if_neg hq]
  refine Changes.branch _ ?_ ?_
  · unfold pushWords
    refine Changes.queueShow (Changes.queueCredits (Changes.each (Changes.setQueue (Changes.setQueue h hg _ _) hg _ _) _ _
      fun v _ u hu => hu.pushWord hg hf v) hg) hg fun f hm => hf f (by simp [recordFields, hm])
  · exact Changes.event (Changes.inc (Changes.setQueue h hg _ _) _ (m _ (by simp [recordFields]))) _ _
      (m _ (by simp [recordFields]))

end

/-! ### The state of a rank group (R148) -/

/-- A group's two bits in a byte, once replaced, read back; the other groups' stay. -/
theorem bitsOf_replace (n : Nat) {g h v : Nat} (hg : g < 4) (hh : h < 4) (hv : v < 4) :
    bitsOf ((n - bitsOf n (2 * g) 2 * 4 ^ g + v * 4 ^ g) % 2 ^ 8) (2 * h) 2 =
      if h = g then v else bitsOf n (2 * h) 2 := by
  unfold bitsOf
  interval_cases g <;> interval_cases h <;> norm_num <;> omega

theorem pasrState_setPasr {g h v : Nat} (s : State) (hg : g < 4) (hh : h < 4) (hv : v < 4) :
    pasrState h (setPasr Reg.DMC.PASR_STATE g v s) = if h = g then v else pasrState h s := by
  unfold pasrState setPasr
  rw [get_set_same]
  exact bitsOf_replace _ hg hh hv

theorem pasrReq_setPasr (g h v : Nat) (s : State) : pasrReq h (setPasr Reg.DMC.PASR_STATE g v s) = pasrReq h s := by
  unfold pasrReq setPasr
  rw [get_set_other _ _ (by decide)]

theorem changes_setPasr (g v : Nat) (s : State) : Changes [] [Reg.DMC.PASR_STATE] s (setPasr Reg.DMC.PASR_STATE g v s) :=
  (Changes.refl _ _ s).set _ _ (by simp)

theorem changes_beginPasr (g : Nat) (s : State) :
    Changes [.dram] [Reg.DMC.PASR_STATE, Reg.PWR.STS_RAILS_ON] s (beginPasr g s) := by
  unfold beginPasr
  exact .branch _ (.refl _ _ _) ((((Changes.refl _ _ s).in_dram _ (by simp)).set _ _ (by simp)).cond _ _ fun u hu =>
    (hu.set _ _ (by simp)).emit _)

theorem beginPasr_mem (g : Nat) (s : State) : (beginPasr g s).dram.mem = s.dram.mem := by
  unfold beginPasr
  split
  · rfl
  · exact when_keeps (fun u => u.dram.mem = s.dram.mem) _ _ _ rfl id

/-- A change is asked of group `g`, which can begin it. -/
structure PasrAsked (g a : Nat) (s : State) : Prop where
  req : pasrReq g s = a
  idle : pasrState g s ≠ 3
  differs : pasrState g s ≠ a
  present : bitOf (get Reg.SYS.CAPS_DRAM_GROUPS s) g = true
  kept : g < s.dram.pasrTarget.length

/-- A change of group `g` runs. -/
structure PasrRuns (g a : Nat) (s : State) : Prop where
  state : pasrState g s = 3
  target : s.dram.pasrTarget.getD g 0 = a

theorem beginPasr_idle {g : Nat} {s : State} (h : pasrState g s = 3 ∨ pasrState g s = pasrReq g s) : beginPasr g s = s :=
  if_pos (by rcases h with h | h <;> simp [h])

/-- A group that is asked begins its change. -/
theorem beginPasr_self {g a : Nat} {s : State} (hg : g < 4) (h : PasrAsked g a s) : PasrRuns g a (beginPasr g s) := by
  unfold beginPasr
  rw [if_neg (by simp [h.idle, h.req, h.differs, h.present])]
  refine when_keeps (PasrRuns g a) _ _ _ ⟨?_, ?_⟩ fun hu => ⟨?_, hu.target⟩
  · exact (pasrState_setPasr _ hg hg (by decide)).trans (if_pos rfl)
  · exact (getD_modify_same _ _ _ _ h.kept).trans h.req
  · exact (congrArg (fun n => bitsOf n (2 * g) 2) (get_set_other _ _ (by decide))).trans hu.state

/-- Another group's change leaves the group as it is. -/
theorem beginPasr_other {g h : Nat} (s : State) (hg : g < 4) (hh : h < 4) (hne : h ≠ g) :
    pasrState h (beginPasr g s) = pasrState h s ∧
    (beginPasr g s).dram.pasrTarget.getD h 0 = s.dram.pasrTarget.getD h 0 ∧
    (beginPasr g s).dram.pasrTarget.length = s.dram.pasrTarget.length := by
  unfold beginPasr
  split
  · exact ⟨rfl, rfl, rfl⟩
  · refine when_keeps (fun u => pasrState h u = pasrState h s ∧ u.dram.pasrTarget.getD h 0 = s.dram.pasrTarget.getD h 0 ∧
      u.dram.pasrTarget.length = s.dram.pasrTarget.length) _ _ _ ⟨?_, ?_, ?_⟩ fun ⟨hs, ht, hl⟩ => ⟨?_, ht, hl⟩
    · exact (pasrState_setPasr _ hg hh (by decide)).trans (if_neg hne)
    · exact getD_modify_other _ _ _ (Ne.symm hne)
    · exact length_modify _ _ _
    · exact (congrArg (fun n => bitsOf n (2 * h) 2) (get_set_other _ _ (by decide))).trans hs

theorem pasrReq_beginPasr (g h : Nat) (s : State) : pasrReq h (beginPasr g s) = pasrReq h s :=
  congrArg (fun n => bitsOf n (2 * h) 2) ((changes_beginPasr g s).regs _ (by decide) (by decide))

theorem PasrRuns.step {g h a : Nat} {s : State} (hg : g < 4) (hh : h < 4) (r : PasrRuns g a s) :
    PasrRuns g a (beginPasr h s) := by
  by_cases hne : g = h
  · subst hne
    rw [beginPasr_idle (.inl r.state)]
    exact r
  · obtain ⟨hs, ht, -⟩ := beginPasr_other s hh hg hne
    exact ⟨hs.trans r.state, ht.trans r.target⟩

theorem PasrAsked.step {g h a : Nat} {s : State} (hg : g < 4) (hh : h < 4) (hne : g ≠ h) (r : PasrAsked g a s) :
    PasrAsked g a (beginPasr h s) := by
  obtain ⟨hs, -, hl⟩ := beginPasr_other s hh hg hne
  exact ⟨(pasrReq_beginPasr h g s).trans r.req, by rw [hs]; exact r.idle, by rw [hs]; exact r.differs,
    by rw [(changes_beginPasr h s).regs _ (by decide) (by decide)]; exact r.present, by rw [hl]; exact r.kept⟩

theorem PasrRuns.each {g a : Nat} {l : List Nat} {s : State} (hg : g < 4) (hl : ∀ h ∈ l, h < 4) (r : PasrRuns g a s) :
    PasrRuns g a (forEach l beginPasr s) :=
  forEach_keeps (PasrRuns g a) l _ s r fun h hm _ hu => hu.step hg (hl h hm)

/-- Of the groups that a write asks, each begins its change. -/
theorem PasrAsked.each {g a : Nat} {l : List Nat} {s : State} (hg : g < 4) (hl : ∀ h ∈ l, h < 4) (hm : g ∈ l)
    (r : PasrAsked g a s) : PasrRuns g a (forEach l beginPasr s) := by
  induction l generalizing s with
  | nil => simp at hm
  | cons h l ih =>
    rw [forEach_cons]
    have hrest : ∀ k ∈ l, k < 4 := fun k hk => hl k (List.mem_cons_of_mem _ hk)
    by_cases hne : g = h
    · subst hne
      exact (beginPasr_self hg r).each hg hrest
    · exact ih hrest ((List.mem_cons.1 hm).resolve_left hne) (r.step hg (hl h (by simp)) hne)

/-- The groups as a write of the request finds them. -/
theorem changes_groups (s : State) : Changes [.dram] [Reg.DMC.PASR_STATE, Reg.PWR.STS_RAILS_ON] s
    (forEach [0, 1, 2, 3] beginPasr s) := (Changes.refl _ _ s).each _ _ fun g _ u hu => hu.trans (changes_beginPasr g u)

theorem groups_mem (s : State) : (forEach [0, 1, 2, 3] beginPasr s).dram.mem = s.dram.mem :=
  forEach_keeps (fun u => u.dram.mem = s.dram.mem) _ _ _ rfl fun g _ u hu => (beginPasr_mem g u).trans hu

theorem completes_pasrRequest {s : State} (hs : Ready s) {w : Writer} {req : BitVec 8} (hw : Reaches w 0x101A8 req.toNat s)
    (hok : ∀ g, g < 4 → groupUsed g s = false ∨ bitsOf req.toNat (2 * g) 2 = pasrReq g s)
    (hv : ∀ g, g < 4 → bitsOf req.toNat (2 * g) 2 ≠ 3) :
    Completes (.pasrRequest w req) s fun t =>
      get Reg.DMC.PASR_REQ t = req.toNat ∧ (∀ x, readByte x t = readByte x s) ∧
      (∀ g, g < 4 → pasrState g s ≠ 3 → pasrState g s ≠ bitsOf req.toNat (2 * g) 2 →
        bitOf (get Reg.SYS.CAPS_DRAM_GROUPS s) g = true → g < s.dram.pasrTarget.length →
        pasrState g t = 3 ∧ t.dram.pasrTarget.getD g 0 = bitsOf req.toNat (2 * g) 2) := by
  let u := set Reg.DMC.PASR_REQ req.toNat (begun s)
  have he : writePasr w req.toNat (begun s) = forEach [0, 1, 2, 3] beginPasr u := by
    have hbusy : ([0, 1, 2, 3] : List Nat).any (fun g => groupUsed g (begun s) &&
        bitsOf req.toNat (2 * g) 2 != pasrReq g (begun s)) = false := by
      simp only [List.any_eq_false, List.mem_cons, List.not_mem_nil, or_false]
      intro g hg
      rcases hok g (by omega) with h | h
      · simp [show groupUsed g (begun s) = false from h]
      · simp [h, show pasrReq g (begun s) = pasrReq g s from rfl]
    have hrange : ([0, 1, 2, 3] : List Nat).any (fun g => bitsOf req.toNat (2 * g) 2 == 3) = false := by
      simp only [List.any_eq_false, List.mem_cons, List.not_mem_nil, or_false]
      intro g hg
      simpa using hv g (by omega)
    unfold writePasr
    rw [hbusy, hrange]
    rfl
  have hc := changes_groups u
  have hreq : ∀ g, pasrReq g u = bitsOf req.toNat (2 * g) 2 := fun g => by
    unfold pasrReq
    rw [get_set_same, Nat.mod_eq_of_lt (show req.toNat < 2 ^ Reg.DMC.PASR_REQ.w from req.isLt)]
  refine .leavesReached hs hw (k := writePasr w req.toNat) rfl he (hc.reqs.trans hs.2) fun t k =>
    ⟨k.stored (by decide) ?_, k.bytes (groups_mem u), fun g hg h3 hd hp hl => ?_⟩
  · rw [hc.regs _ (by decide) (by decide)]
    exact (get_set_same _ _ _).trans (Nat.mod_eq_of_lt req.isLt)
  · have hstate : pasrState g u = pasrState g s := congrArg (fun n => bitsOf n (2 * g) 2) (get_set_other _ _ (by decide))
    have hcaps : get Reg.SYS.CAPS_DRAM_GROUPS u = get Reg.SYS.CAPS_DRAM_GROUPS s := get_set_other _ _ (by decide)
    have hasked : PasrAsked g (bitsOf req.toNat (2 * g) 2) u :=
      ⟨hreq g, by rwa [hstate], by rwa [hstate], by rwa [hcaps], hl⟩
    obtain ⟨hrun, htarget⟩ := hasked.each hg (l := [0, 1, 2, 3]) (by simp) (by simp; omega)
    exact ⟨(congrArg (fun n => bitsOf n (2 * g) 2) (k.get _ (by decide))).trans hrun,
      (congrArg (fun d => d.pasrTarget.getD g 0) k.dram).trans htarget⟩

theorem get_werrBusy (w : Writer) (addr : Nat) (s : State) :
    get (Reg.BLKWERR_BUSY (addr / 4096)) (werrBusy w addr s) = 1 := by
  unfold werrBusy werr
  rw [get_set_other _ _ (by simp [Fld.key, Reg.BLKWERR_BUSY, Reg.BLKWERR_SOURCE]),
    get_set_other _ _ (by simp [Fld.key, Reg.BLKWERR_BUSY, Reg.BLKWERR_OFFSET]), get_set_same]
  rfl

theorem completes_pasrBusy {s : State} (hs : Ready s) {w : Writer} {req : BitVec 8} (hw : Reaches w 0x101A8 req.toNat s)
    (hu : ∃ g, g < 4 ∧ groupUsed g s = true ∧ bitsOf req.toNat (2 * g) 2 ≠ pasrReq g s) :
    Completes (.pasrRequest w req) s fun t =>
      get (Reg.BLKWERR_BUSY 0x10) t = 1 ∧
      Changes [] [Reg.BLKWERR_BUSY 0x10, Reg.BLKWERR_OFFSET 0x10, Reg.BLKWERR_SOURCE 0x10] s t := by
  have hbusy : ([0, 1, 2, 3] : List Nat).any (fun g => groupUsed g s && bitsOf req.toNat (2 * g) 2 != pasrReq g s) = true := by
    obtain ⟨g, hg, hused, hne⟩ := hu
    exact List.any_eq_true.2 ⟨g, by simp; omega, by simp [hused, hne]⟩
  exact .leavesReached hs hw (k := writePasr w req.toNat) rfl (if_pos hbusy) hs.2 fun t k =>
    ⟨k.stored (by decide) (get_werrBusy w 0x101A8 _), ((Changes.begin _ _ s).trans (changes_werrBusy w 0x101A8 _)).ended k⟩

/-! ### The end of a change (R148) -/

/-- What the end of a change shows of the group. -/
def pasrShown (g st : Nat) (s : State) : State :=
  setPasr Reg.DMC.PASR_STATE g st s
    |> when (st = 2) (fun s => s |> putBit Reg.PWR.STS_RAILS_ON (6 + g) false |> emit (.rail (6 + g) false))
    |> event 0x10 1

theorem changes_pasrShown (g st : Nat) (s : State) :
    Changes [] [Reg.DMC.PASR_STATE, Reg.EVT_STS 0x10 1, Reg.PWR.STS_RAILS_ON] s (pasrShown g st s) :=
  (((changes_setPasr g st s).mono (by simp) (by simp)).cond _ _ fun u hu => (hu.set _ _ (by simp)).emit _).event _ _ (by simp)

theorem pasrState_pasrShown {g st : Nat} (s : State) (hg : g < 4) (hv : st < 4) : pasrState g (pasrShown g st s) = st := by
  have hset : pasrState g (setPasr Reg.DMC.PASR_STATE g st s) = st := (pasrState_setPasr s hg hg hv).trans (if_pos rfl)
  unfold pasrShown
  refine (congrArg (fun n => bitsOf n (2 * g) 2) (get_set_other _ _ (by decide))).trans ?_
  exact when_keeps (fun u => pasrState g u = st) _ _ _ hset fun hu =>
    (congrArg (fun n => bitsOf n (2 * g) 2) (get_set_other _ _ (by decide))).trans hu

theorem pasrReq_pasrShown (g h st : Nat) (s : State) : pasrReq h (pasrShown g st s) = pasrReq h s :=
  congrArg (fun n => bitsOf n (2 * h) 2) ((changes_pasrShown g st s).regs _ (by decide) (by decide))

/-- A group that arrives where its request points shows it, and begins no further change. -/
theorem pasr_arrives {g st : Nat} {s : State} (hg : g < 4) (hv : st < 4) (hr : pasrReq g s = st) :
    (setPasr Reg.DMC.PASR_STATE g st s
      |> when (st = 2) (fun s => s |> putBit Reg.PWR.STS_RAILS_ON (6 + g) false |> emit (.rail (6 + g) false))
      |> when (st = pasrReq g s) (event 0x10 1) |> when (!false) (beginPasr g)) = pasrShown g st s := by
  rw [decide_eq_true hr.symm, when_true, Bool.not_false, when_true]
  exact beginPasr_idle (s := pasrShown g st s) (.inr ((pasrState_pasrShown s hg hv).trans
    ((pasrReq_pasrShown g g st s).trans hr).symm))

theorem completes_pasrDone {s : State} (hs : Ready s) (g : Fin 4) (r : TrainResult) (h3 : pasrState g s = 3)
    (hr : pasrReq g s = s.dram.pasrTarget.getD g 0) (hv : s.dram.pasrTarget.getD g 0 < 3)
    (hf : s.dram.pasrFrom.getD g 0 ≠ 2) :
    Completes (.pasrDone g r) s fun t =>
      pasrState g t = s.dram.pasrTarget.getD g 0 ∧ get (Reg.EVT_STS 0x10 1) t = 1 ∧
      (s.dram.pasrTarget.getD g 0 = 2 → [Out.rail (6 + g) false] <+: t.out) ∧
      Changes [] [Reg.DMC.PASR_STATE, Reg.EVT_STS 0x10 1, Reg.PWR.STS_RAILS_ON] s t := by
  have he : pasrDone g r (begun s) = pasrShown g (s.dram.pasrTarget.getD g 0) (begun s) := by
    have hleft : ((begun s).dram.pasrFrom.getD g 0 == 2) = false := by simpa using hf
    unfold pasrDone
    rw [if_neg (show ¬ pasrState g (begun s) ≠ 3 from not_not.2 h3), hleft]
    exact pasr_arrives (s := begun s) (st := s.dram.pasrTarget.getD g 0) g.isLt (by omega) hr
  have hc := changes_pasrShown g (s.dram.pasrTarget.getD g 0) (begun s)
  refine .leaves hs (f := pasrDone g r) rfl he (hc.reqs.trans hs.2) fun t k =>
    ⟨(congrArg (fun n => bitsOf n (2 * g) 2) (k.get _ (by decide))).trans (pasrState_pasrShown _ g.isLt (by omega)),
      k.stored (by decide) (get_set_same _ _ _), fun h2 => k.sent ?_, ((Changes.begin _ _ s).trans hc).ended k⟩
  rw [h2]
  rfl

/-! ### Leaving OFF: the training of a group (R148, R154) -/

/-- What the training of a group leaves: the group's change, the memory, and a rank that is not trained back. -/
structure KeptInTraining (i : Nat) (s t : State) : Prop where
  fields : ∀ f ∈ [Reg.DMC.PASR_STATE, Reg.DMC.PASR_REQ, Reg.SPR.RANK_STATE i], get f t = get f s
  mem : t.dram.mem = s.dram.mem
  target : t.dram.pasrTarget = s.dram.pasrTarget
  reqs : t.reqs = s.reqs

theorem KeptInTraining.trans {i : Nat} {s t u : State} (h : KeptInTraining i s t) (k : KeptInTraining i t u) :
    KeptInTraining i s u where
  fields := fun f hf => (k.fields f hf).trans (h.fields f hf)
  mem := k.mem.trans h.mem
  target := k.target.trans h.target
  reqs := k.reqs.trans h.reqs

theorem KeptInTraining.refl (i : Nat) (s : State) : KeptInTraining i s s := ⟨fun _ _ => rfl, rfl, rfl, rfl⟩

theorem KeptInTraining.set {i : Nat} {s t : State} (h : KeptInTraining i s t) (f : Fld) (v : Nat)
    (hf : ∀ e ∈ [Reg.DMC.PASR_STATE, Reg.DMC.PASR_REQ, Reg.SPR.RANK_STATE i], e.key ≠ f.key) :
    KeptInTraining i s (set f v t) :=
  h.trans ⟨fun e he => get_set_other _ _ (hf e he), rfl, rfl, rfl⟩

theorem training_keys (i : Fin 64) : (∀ e ∈ [Reg.DMC.PASR_STATE, Reg.DMC.PASR_REQ, Reg.SPR.RANK_STATE i],
      e.key ∉ settleKeys ∧ e.key ∉ (recordFields 0).map Fld.key) ∧
    (∀ c : Fin 16, ∀ e ∈ [Reg.DMC.PASR_STATE, Reg.DMC.PASR_REQ, Reg.SPR.RANK_STATE i],
      e.key ≠ (Reg.DCH.TIMING_TRC_NS c).key ∧ e.key ≠ (Reg.DCH.TIMING_TWTRL_NS c).key ∧
      e.key ≠ (Reg.DCH.TIMING_TXP_NS c).key ∧ e.key ≠ (Reg.DCH.STS_RANKS c).key) ∧
    (∀ j : Fin 64, j ≠ i → ∀ e ∈ [Reg.DMC.PASR_STATE, Reg.DMC.PASR_REQ, Reg.SPR.RANK_STATE i],
      e.key ≠ (Reg.SPR.RANK_STATE j).key) := by
  revert i
  decide +kernel

theorem keepSettings_kept (i : Nat) (l : List Nat) (s : State) : KeptInTraining i s (keepSettings l s) := by
  unfold keepSettings
  dsimp only
  refine KeptInTraining.trans (forEach_keeps (KeptInTraining i s) l _ s (.refl i s) fun j _ u hu => ?_)
    ⟨fun _ _ => rfl, rfl, rfl, rfl⟩
  exact hu.trans ⟨fun _ _ => rfl, rfl, rfl, rfl⟩

theorem keepTimings_kept (i : Fin 64) (r : TrainResult) (c : Fin 16) (s : State) :
    KeptInTraining i s (keepTimings r c s) := by
  obtain ⟨-, hk, -⟩ := training_keys i
  exact (((KeptInTraining.refl i s).set _ _ fun e he => (hk c e he).1).set _ _ fun e he => (hk c e he).2.1).set _ _
    fun e he => (hk c e he).2.2.1

theorem ranksShow_kept (i : Fin 64) (s : State) : KeptInTraining i s (ranksShow s) := by
  obtain ⟨-, hk, -⟩ := training_keys i
  unfold ranksShow
  exact forEach_keeps (KeptInTraining i s) _ _ s (.refl i s) fun c hc u hu =>
    hu.set _ _ fun e he => (hk ⟨c, List.mem_range.1 hc⟩ e he).2.2.2

theorem rankStateRecord_kept (i : Fin 64) (j st : Nat) (s : State) : KeptInTraining i s (rankStateRecord j st s) := by
  obtain ⟨hk, -, -⟩ := training_keys i
  have hc : Changes [.gq] (recordFields 0) s (rankStateRecord j st s) :=
    (Changes.refl _ _ s).pushRecord (by decide) (by simp) (fun _ h => h) _
  exact ⟨fun e he => hc.regs e (hk e he).2 (hk e he).1, congrArg Dram.mem (hc.dram (by simp)),
    congrArg Dram.pasrTarget (hc.dram (by simp)), hc.reqs⟩

theorem setRank_kept (i j : Fin 64) (hj : j ≠ i) (st : Nat) (s : State) : KeptInTraining i s (setRank j st s) := by
  obtain ⟨hk, -, hr⟩ := training_keys i
  unfold setRank
  split
  · exact .refl i s
  · have hupd : KeptInTraining i s { s with upd := { s.upd with
        pendingRanks := if st = 3 then addNat s.upd.pendingRanks j else s.upd.pendingRanks.filter (· != j.val) } } :=
      ⟨fun _ _ => rfl, rfl, rfl, rfl⟩
    have hset := hupd.set (Reg.SPR.RANK_STATE j) st fun e he => hr j hj e he
    exact hset.trans (rankStateRecord_kept i j st _)

/-- The training of a group in which no rank fails. -/
theorem groupTrained_kept {g : Nat} (hg : g < 4) {r : TrainResult} (hf : r.failed = []) (hm : r.mismatch = [])
    (i : Fin 64) {s : State} (h7 : get (Reg.SPR.RANK_STATE i) s ≠ 7) : KeptInTraining i s (groupTrained g r s) := by
  have hhere : ∀ j ∈ groupRanks g s, j < 64 := fun j hj => by
    obtain ⟨k, hk, rfl⟩ := List.mem_map.1 (List.mem_filter.1 hj).1
    have := List.mem_range.1 hk
    omega
  unfold groupTrained
  simp only [hf, hm, List.any_nil, Bool.or_self, List.filter_false, List.filter_nil, Bool.not_false, Bool.true_and,
    raiseChannels, List.map_nil, forEach_nil, List.dedup_nil]
  refine KeptInTraining.trans ?_ (ranksShow_kept i _)
  refine forEach_keeps (KeptInTraining i s) _ _ _ (forEach_keeps (KeptInTraining i s) _ _ _ (keepSettings_kept i _ s)
    fun c hc u hu => ?_) fun j hj u hu => ?_
  · obtain ⟨j, hj, rfl⟩ := List.mem_map.1 (List.mem_dedup.1 hc)
    have hlt := hhere j hj
    exact hu.trans (keepTimings_kept i r ⟨j / 4, by omega⟩ u)
  · obtain ⟨hin, h⟩ := List.mem_filter.1 hj
    have hne : (⟨j, hhere j hin⟩ : Fin 64) ≠ i := fun he => h7 (by rw [← he]; simpa using h)
    exact hu.trans (setRank_kept i ⟨j, hhere j hin⟩ hne _ u)

theorem completes_pasrTrained {s : State} (hs : Ready s) (g : Fin 4) (r : TrainResult) (h3 : pasrState g s = 3)
    (hr : pasrReq g s = s.dram.pasrTarget.getD g 0) (hv : s.dram.pasrTarget.getD g 0 < 3)
    (hfrom : s.dram.pasrFrom.getD g 0 = 2) (_ : s.dram.pasrTarget.getD g 0 ≠ 2) (hf : r.failed = [])
    (hm : r.mismatch = []) (hi : ∃ i, 16 * g.val ≤ i ∧ i < 16 * g.val + 16 ∧ get (Reg.SPR.RANK_STATE i) s ≠ 0 ∧
      get (Reg.SPR.RANK_STATE i) s ≠ 7) :
    Completes (.pasrDone g r) s fun t =>
      pasrState g t = s.dram.pasrTarget.getD g 0 ∧ get (Reg.EVT_STS 0x10 1) t = 1 ∧
      (∀ x, readByte x t = readByte x s) := by
  obtain ⟨i, hlo, hhi, h0, h7⟩ := hi
  have hg := g.isLt
  have hkept := groupTrained_kept hg hf hm ⟨i, by omega⟩ (s := begun s) h7
  have hrank : get (Reg.SPR.RANK_STATE i) (groupTrained g r (begun s)) = get (Reg.SPR.RANK_STATE i) s :=
    hkept.fields _ (by simp)
  have hin : i ∈ groupRanks g (groupTrained g r (begun s)) := by
    refine List.mem_filter.2 ⟨List.mem_map.2 ⟨i - 16 * g.val, List.mem_range.2 (by omega), by omega⟩, ?_⟩
    rw [hrank]
    simpa using h0
  have hstays : ((groupRanks g (groupTrained g r (begun s))).all fun i =>
      get (Reg.SPR.RANK_STATE i) (groupTrained g r (begun s)) == 7) = false := by
    refine List.all_eq_false.2 ⟨i, hin, ?_⟩
    rw [hrank]
    simpa using h7
  have hreq : pasrReq g (groupTrained g r (begun s)) = s.dram.pasrTarget.getD g 0 :=
    (congrArg (fun n => bitsOf n (2 * g) 2) (hkept.fields Reg.DMC.PASR_REQ (by simp))).trans hr
  have he : pasrDone g r (begun s) = pasrShown g (s.dram.pasrTarget.getD g 0) (groupTrained g r (begun s)) := by
    have hleft : ((begun s).dram.pasrFrom.getD g 0 == 2) = true := by simpa using hfrom
    unfold pasrDone
    rw [if_neg (show ¬ pasrState g (begun s) ≠ 3 from not_not.2 h3), hleft]
    simp only [when_true, Bool.true_and, hstays, hkept.target]
    exact pasr_arrives (st := s.dram.pasrTarget.getD g 0) hg (by omega) hreq
  have hc := changes_pasrShown g (s.dram.pasrTarget.getD g 0) (groupTrained g r (begun s))
  exact .leaves hs (f := pasrDone g r) rfl he (hc.reqs.trans (hkept.reqs.trans hs.2)) fun t k =>
    ⟨(congrArg (fun n => bitsOf n (2 * g) 2) (k.get _ (by decide))).trans (pasrState_pasrShown _ hg (by omega)),
      k.stored (by decide) (get_set_same _ _ _), k.bytes ((congrArg Dram.mem (hc.dram (by simp))).trans hkept.mem)⟩

/-! ### The translation of an address (R152) -/

theorem completes_xlate {s : State} (hs : Ready s) {w : Writer} {hi : BitVec 2} (hw : Reaches w 0x101B4 hi.toNat s) :
    Completes (.xlate w hi) s fun t =>
      t.dram.xlateBusy = true ∧ get Reg.DMC.XLATE_HI_ADDR t = hi.toNat ∧ get Reg.DMC.XLATE_RES_VALID t = 0 ∧
      (∀ x, readByte x t = readByte x s) ∧ Changes [.dram] [Reg.DMC.XLATE_HI_ADDR, Reg.DMC.XLATE_RES_VALID] s t := by
  refine .leavesReached hs hw (k := writeXlate hi.toNat) rfl rfl hs.2 fun t k =>
    ⟨congrArg Dram.xlateBusy k.dram, k.stored (by decide) ?_, k.stored (by decide) (get_set_same _ _ _), k.bytes rfl,
      ((((Changes.begin _ _ s).in_dram _ (by simp)).set _ _ (by simp)).set _ _ (by simp)).ended k⟩
  simp (disch := decide) only [writeXlate, get_set_other, get_set_same]
  exact Nat.mod_eq_of_lt hi.isLt

/-- The result of a translation, as the registers show it. -/
def xlateShown (d : DramLoc) (s : State) : State :=
  { s with dram := { s.dram with xlateBusy := false } }
    |> set Reg.DMC.XLATE_RES_CH d.ch |> set Reg.DMC.XLATE_RES_SUB d.sub |> set Reg.DMC.XLATE_RES_RANK d.rank
    |> set Reg.DMC.XLATE_RES_BG d.bg |> set Reg.DMC.XLATE_RES_BANK d.bank |> set Reg.DMC.XLATE_RES_COL d.col
    |> set Reg.DMC.XLATE_ROW_ROW d.row
    |> set Reg.DMC.XLATE_RES_VALID 1 |> put1 Reg.DMC.XLATE_RES_OUT_OF_RANGE false

theorem completes_xlateDone {s : State} (hs : Ready s) {d : DramLoc} (hb : s.dram.xlateBusy = true)
    (hm : mapAddress (get Reg.DMC.XLATE_LO_ADDR s * 64 + get Reg.DMC.XLATE_HI_ADDR s * 2 ^ 38) s = some d) :
    Completes .xlateDone s fun t =>
      get Reg.DMC.XLATE_RES_CH t = d.ch % 16 ∧ get Reg.DMC.XLATE_RES_SUB t = d.sub % 2 ∧
      get Reg.DMC.XLATE_RES_RANK t = d.rank % 4 ∧ get Reg.DMC.XLATE_RES_BG t = d.bg % 8 ∧
      get Reg.DMC.XLATE_RES_BANK t = d.bank % 4 ∧ get Reg.DMC.XLATE_RES_COL t = d.col % 128 ∧
      get Reg.DMC.XLATE_ROW_ROW t = d.row % 2 ^ 17 ∧ get Reg.DMC.XLATE_RES_VALID t = 1 ∧
      get Reg.DMC.XLATE_RES_OUT_OF_RANGE t = 0 ∧ t.dram.xlateBusy = false := by
  have he : xlateResult (begun s) = xlateShown d (begun s) := by
    have hmb : mapAddress (get Reg.DMC.XLATE_LO_ADDR (begun s) * 64 + get Reg.DMC.XLATE_HI_ADDR (begun s) * 2 ^ 38)
      (begun s) = some d := hm
    unfold xlateResult
    rw [if_neg (by simp [hb])]
    simp only [hmb]
    rfl
  have hget : ∀ f : Fld, f.key ∉ settleKeys → ∀ t, Keeps settleKeys (xlateShown d (begun s)) t →
      get f t = get f (xlateShown d (begun s)) := fun f hf t k => k.get f hf
  refine .leaves hs (f := xlateResult) rfl he hs.2 fun t k => ?_
  rw [hget _ (by decide) t k, hget _ (by decide) t k, hget _ (by decide) t k, hget _ (by decide) t k,
    hget _ (by decide) t k, hget _ (by decide) t k, hget _ (by decide) t k, hget _ (by decide) t k,
    hget _ (by decide) t k, k.dram]
  simp (disch := decide) only [xlateShown, put1, get_set_other, get_set_same]
  exact ⟨rfl, rfl, rfl, rfl, rfl, rfl, rfl, rfl, rfl, rfl⟩

/-- Settles O25. -/
theorem mapCommands : Obligations.MapCommands := by
  unfold Obligations.MapCommands
  exact fun s hs w => ⟨fun req hw => ⟨completes_pasrRequest hs hw, completes_pasrBusy hs hw⟩,
    fun g r h3 hr hv => ⟨completes_pasrDone hs g r h3 hr hv, completes_pasrTrained hs g r h3 hr hv⟩,
    fun _ hw => completes_xlate hs hw, fun _ hb hm => completes_xlateDone hs hb hm⟩

end Sys2Proof.Machine
end

section
/-! SUPPORT. The command sequences of the code array to an idle bank (R449 to R457). -/

namespace Sys2Proof.Machine
set_option Elab.async false

/-! ### A bank's command state -/

@[simp] theorem carBank_setCarBank (b : Nat) (k : CarBank) (s : State) : carBank b (setCarBank b k s) = k := by
  unfold carBank setCarBank
  split <;> rfl

@[simp] theorem setCarBank_setCarBank (b : Nat) (k l : CarBank) (s : State) :
    setCarBank b k (setCarBank b l s) = setCarBank b k s := by
  unfold setCarBank
  split <;> rfl

@[simp] theorem get_setCarBank (f : Fld) (b : Nat) (k : CarBank) (s : State) : get f (setCarBank b k s) = get f s := by
  unfold setCarBank
  split <;> rfl

@[simp] theorem carStatus_setCarBank (b c : Nat) (k : CarBank) (s : State) :
    carStatus c (setCarBank b k s) = carStatus c s := get_setCarBank _ _ _ _

theorem carBank_congr {s t : State} (h : t.car = s.car) (b : Nat) : carBank b t = carBank b s := by
  rw [carBank, carBank, h]

/-- The words and the marks of the array, without the banks' command states. -/
def arrayCore (s : State) : Car := { s.car with bank0 := {}, bank1 := {} }

@[simp] theorem arrayCore_setCarBank (b : Nat) (k : CarBank) (s : State) :
    arrayCore (setCarBank b k s) = arrayCore s := by
  unfold arrayCore setCarBank
  split <;> rfl

theorem changes_setCarBank (b : Nat) (k : CarBank) (s : State) : Changes [.car] [] s (setCarBank b k s) := by
  unfold setCarBank
  exact .branch _ ((Changes.refl _ _ s).in_car _ (by simp)) ((Changes.refl _ _ s).in_car _ (by simp))

/-- A write that reaches its register is taken in every state with the same registers and the same supply. -/
theorem reach_eq {w : Writer} {addr data : Nat} {s : State} (h : Reaches w addr data s) (k : State → State) :
    reach w addr data k s = k s := by
  obtain ⟨hmay, hlit⟩ := h
  simp [reach, hmay, hlit]

theorem reaches_setCarBank {w : Writer} {addr data : Nat} {s : State} (b : Nat) (k : CarBank)
    (h : Reaches w addr data s) : Reaches w addr data (setCarBank b k s) := by
  unfold setCarBank
  split <;> exact h

/-! ### The three writes of a sequence (R449) -/

section
variable {s : State} {w : Writer} {b : Fin 2} (hw : Reaches w 0xB0000 0 s) (ho : (carBank b s).op = none)
  (hz : (carBank b s).step = 0)

/-- The bank after the first two writes of a sequence. -/
def openedBank (w : Writer) (k : CarBank) : CarBank := { k with step := 2, writer := w.code }

theorem carBusy_of_idle {k : CarBank} (h : k.op = none) : carBusy k = false := by
  simp [carBusy, h]

theorem carTarget_base (b : Fin 2) {o : Nat} (ho : o < 0x1000000) : carTarget (b.val * 0x1000000 + o) = some b.val := by
  unfold carTarget
  match b with
  | 0 => exact if_pos (by simpa using ho)
  | 1 => rw [if_neg (by simp), if_pos (by simp; omega)]; rfl

/-- The address of a write, in words of its bank. -/
theorem apertureWord (b : Fin 2) {o : Nat} (ho : o < 0x1000000) : inOption (b.val * 0x1000000 + o) = false ∧
    (b.val * 0x1000000 + o) % 0x1000000 / 4 = o / 4 := by
  have hb := b.isLt
  unfold inOption
  refine ⟨?_, by omega⟩
  simp only [Bool.and_eq_false_iff, decide_eq_false_iff_not]
  omega

/-- A write to a bank's aperture by the sequence's writer. -/
theorem carWrite_bank {off : Nat} (data : Word) (hw : Reaches w 0xB0000 0 s) (ht : carTarget off = some b.val) :
    carWrite { by_ := w, off := off, data := data } s = carStep b { by_ := w, off := off, data := data } s := by
  unfold carWrite
  rw [reach_eq hw, ht]

variable {off : Nat} {data : Word}

/-! One write of a sequence, by the step that the bank is in. -/

section
include ho

theorem carStep_first (hstep : (carBank b s).step = 0)
    (hd : data.toNat % 65536 = 0xC3) (hin : inOption off = false) (hat : off % 0x1000000 / 4 = 0x2C94) :
    carStep b { by_ := w, off := off, data := data } s = setCarBank b { carBank b s with step := 1, writer := w.code }
        s := by
  simp [carStep, carBusy_of_idle ho, hstep, hd, hin, hat]

theorem carStep_wrong (hstep : (carBank b s).step = 0)
    (h64 : data.toNat % 65536 ≠ 0x64) (h46 : data.toNat % 65536 ≠ 0x46) (hC3 : data.toNat % 65536 ≠ 0xC3) :
    carStep b { by_ := w, off := off, data := data } s = seqErr b s := by
  simp [carStep, carBusy_of_idle ho, hstep, h64, h46, hC3]

theorem carStep_second (hstep : (carBank b s).step = 1)
    (hby : (carBank b s).writer = w.code) (hd : data.toNat % 65536 = 0x3C) (hin : inOption off = false)
    (hat : off % 0x1000000 / 4 = 0x1D6B) : carStep b { by_ := w, off := off, data := data } s = setCarBank b
        { carBank b s with step := 2 } s := by
  simp [carStep, carBusy_of_idle ho, hstep, hby, hd, hin, hat]

theorem carStep_third (hstep : (carBank b s).step = 2)
    (hby : (carBank b s).writer = w.code) (hin : inOption off = false) (hat : off % 0x1000000 / 4 = 0x2C94) :
    carStep b { by_ := w, off := off, data := data } s = carCode b (data.toNat % 65536) s := by
  simp [carStep, carBusy_of_idle ho, hstep, hby, hin, hat]

theorem carStep_operand (hstep : (carBank b s).step = 3)
    (hby : (carBank b s).writer = w.code) :
    carStep b { by_ := w, off := off, data := data } s = carOperand b (carBank b s).code off data.toNat s := by
  simp [carStep, carBusy_of_idle ho, hstep, hby]

end

include hw ho hz

/-- After the three writes of a sequence its command code is taken. -/
theorem carWrites_sequence (code : Nat) (hc : code < 65536) :
    carWrites (sequenceOf w b code) s = carCode b code (setCarBank b (openedBank w (carBank b s)) s) := by
  obtain ⟨hin1, hat1⟩ := apertureWord b (o := 4 * 0x2C94) (by decide)
  obtain ⟨hin2, hat2⟩ := apertureWord b (o := 4 * 0x1D6B) (by decide)
  have hcode : (BitVec.ofNat 32 code).toNat % 65536 = code := by
    rw [BitVec.toNat_ofNat]
    omega
  have ht1 := carTarget_base b (o := 4 * 0x2C94) (by decide)
  have ht2 := carTarget_base b (o := 4 * 0x1D6B) (by decide)
  have hw1 := fun k => reaches_setCarBank b.val k hw
  have hw2 := fun k l => reaches_setCarBank b.val k (hw1 l)
  simp only [carWrites, sequenceOf, forEach_cons, forEach_nil]
  rw [carWrite_bank _ hw ht1, carStep_first ho hz (by decide) hin1 hat1, carWrite_bank _ (hw1 _) ht2,
    carStep_second (by simpa using ho) (by simp) (by simp) (by decide) hin2 hat2, carWrite_bank _ (hw2 _ _) ht1,
    carStep_third (by simpa using ho) (by simp) (by simp) hin1 hat1, hcode]
  simp [openedBank]

/-- The operand of an open PROGRAM, ERASE or OPTION_PROGRAM is taken in the fourth write. -/
theorem carWrites_operand {code : Nat} (hc : code = 0xA9 ∨ code = 0xE3 ∨ (code = 0xA6 ∧ b.val = 1)) {off : Nat}
    (data : Word)
    (ht : carTarget off = some b.val) :
    carWrites (sequenceOf w b code ++ [{ by_ := w, off := off, data := data }]) s = carOperand b code off data.toNat
      (setCarBank b { openedBank w (carBank b s) with step := 3, code := code } s) := by
  have hlt : code < 65536 := by omega
  have hcode : carCode b code (setCarBank b (openedBank w (carBank b s)) s) =
      setCarBank b { openedBank w (carBank b s) with step := 3, code := code } s := by
    unfold carCode
    rw [carBank_setCarBank, if_pos (by simpa [or_assoc] using hc)]
    exact setCarBank_setCarBank _ _ _ _
  have happ : ∀ x, carWrites (sequenceOf w b code ++ [x]) s = carWrite x (carWrites (sequenceOf w b code) s) :=
    fun x => by simp [carWrites, sequenceOf]
  rw [happ, carWrites_sequence hw ho hz code hlt, hcode, carWrite_bank _ (reaches_setCarBank _ _ hw) ht,
    carStep_operand (by simpa [openedBank] using ho) (by simp) (by simp [openedBank]), carBank_setCarBank]

end

/-! ### What a command shows of its bank (R450, R451) -/

/-- The fields of a bank's command state. -/
def bankFields (b : Nat) : List Fld := [Reg.CAR.BANK_STS_STATUS b, Reg.CAR.BANK_STS_MODE b, Reg.CAR.BANK_STS_OP b]

theorem bank_keys (b : Fin 2) : (∀ f ∈ bankFields b, f.key ∉ settleKeys) ∧ ((bankFields b).map Fld.key).Nodup ∧
    (∀ f ∈ bankFields b, f.key ≠ (Reg.EVT_STS 0xB0 0).key) := by
  revert b
  decide +kernel

theorem changes_carMode (b m : Nat) (s : State) : Changes [] (bankFields b) s (carMode b m s) :=
  (Changes.refl _ _ s).set _ _ (by simp [bankFields])

theorem changes_carFlag (b bits : Nat) (s : State) : Changes [] (bankFields b) s (carFlag b bits s) :=
  (Changes.refl _ _ s).set _ _ (by simp [bankFields])

theorem changes_carShow (b : Nat) (s : State) : Changes [] (bankFields b) s (carShow b s) :=
  ((Changes.refl _ _ s).set _ _ (by simp [bankFields])).set _ _ (by simp [bankFields])

theorem status_ne_mode (b : Fin 2) : (Reg.CAR.BANK_STS_STATUS b).key ≠ (Reg.CAR.BANK_STS_MODE b).key := by
  revert b
  decide

theorem status_ne_op (b : Fin 2) : (Reg.CAR.BANK_STS_STATUS b).key ≠ (Reg.CAR.BANK_STS_OP b).key := by
  revert b
  decide

theorem mode_ne_op (b : Fin 2) : (Reg.CAR.BANK_STS_MODE b).key ≠ (Reg.CAR.BANK_STS_OP b).key := by
  revert b
  decide

/-- The end of a command leaves what it shows of a bank. -/
theorem Keeps.bank {u t : State} (k : Keeps settleKeys u t) (b : Fin 2) :
    carBank b t = carBank b u ∧ carStatus b t = carStatus b u ∧
      Machine.get (Reg.CAR.BANK_STS_MODE b) t = Machine.get (Reg.CAR.BANK_STS_MODE b) u ∧
      Machine.get (Reg.CAR.BANK_STS_OP b) t = Machine.get (Reg.CAR.BANK_STS_OP b) u := by
  obtain ⟨hk, -, -⟩ := bank_keys b
  exact ⟨carBank_congr k.car b, k.get _ (hk _ (by simp [bankFields])), k.get _ (hk _ (by simp [bankFields])),
    k.get _ (hk _ (by simp [bankFields]))⟩

theorem bitOf_eq_testBit (n i : Nat) : bitOf n i = n.testBit i := by
  rw [Nat.testBit_eq_decide_div_mod_eq]
  rfl

theorem bitOf_lor (m n i : Nat) : bitOf (Nat.lor m n) i = (bitOf m i || bitOf n i) := by
  simp only [bitOf_eq_testBit]
  exact Nat.testBit_or m n i

theorem bitOf_mod {i w : Nat} (hi : i < w) (n : Nat) : bitOf (n % 2 ^ w) i = bitOf n i := by
  simp [bitOf_eq_testBit, hi]

/-- READY and the suspend bit are the two low bits of the status word (R451). -/
theorem bitOf_low (n r : Nat) (b c : Bool) (hr : r = n / 4 * 4 + b2n b + 2 * b2n c) :
    bitOf (r % 2 ^ 9) 0 = b ∧ bitOf (r % 2 ^ 9) 1 = c ∧ ∀ i, 2 ≤ i → i < 9 → bitOf (r % 2 ^ 9) i = bitOf n i := by
  have hlow : b2n b + 2 * b2n c < 4 := by cases b <;> cases c <;> decide
  refine ⟨?_, ?_, fun i h2 h9 => ?_⟩
  · rw [bitOf_mod (by decide), bitOf, hr]
    cases b <;> cases c <;> simp [b2n] <;> omega
  · rw [bitOf_mod (by decide), bitOf, hr]
    cases b <;> cases c <;> simp [b2n] <;> omega
  · have hi : 2 ^ i = 4 * 2 ^ (i - 2) := by rw [← Nat.pow_add 2 2 (i - 2), Nat.add_sub_cancel' h2]
    have hdiv : r / 4 = n / 4 := by omega
    rw [bitOf_mod h9, bitOf, bitOf, hi, ← Nat.div_div_eq_div_mul, ← Nat.div_div_eq_div_mul, hdiv]

/-- What `carShow` shows of a bank: READY, the suspend bit, the other status bits as they were, and the operation. -/
theorem carShow_shown (b : Fin 2) (u : State) :
    bitOf (carStatus b (carShow b u)) 0 = !carBusy (carBank b u) ∧
    bitOf (carStatus b (carShow b u)) 1 = ((carBank b u).op.map (·.suspended)).getD false ∧
    (∀ i, 2 ≤ i → i < 9 → bitOf (carStatus b (carShow b u)) i = bitOf (carStatus b u) i) ∧
    get (Reg.CAR.BANK_STS_OP b) (carShow b u) =
      (((carBank b u).op.map (fun x => if optBase ≤ x.word then 3 else x.kind)).getD 0) % 4 := by
  have hst : carStatus b (carShow b u) = (carStatus b u / 4 * 4 + b2n (!carBusy (carBank b u)) +
      2 * b2n (((carBank b u).op.map (·.suspended)).getD false)) % 2 ^ 9 :=
    (get_set_other _ _ (status_ne_op b)).trans (get_set_same _ _ _)
  obtain ⟨h0, h1, hi⟩ := bitOf_low (carStatus b u) _ (!carBusy (carBank b u))
    (((carBank b u).op.map (·.suspended)).getD false) rfl
  rw [← hst] at h0 h1 hi
  exact ⟨h0, h1, hi, get_set_same _ _ _⟩

@[simp] theorem carBank_carShow (b c : Nat) (s : State) : carBank c (carShow b s) = carBank c s := rfl
@[simp] theorem carBank_carMode (b c m : Nat) (s : State) : carBank c (carMode b m s) = carBank c s := rfl
@[simp] theorem carBank_carFlag (b c n : Nat) (s : State) : carBank c (carFlag b n s) = carBank c s := rfl

@[simp] theorem get_carMode (b m : Nat) (s : State) : get (Reg.CAR.BANK_STS_MODE b) (carMode b m s) = m % 4 :=
  get_set_same _ _ _

theorem carStatus_carMode (b : Fin 2) (m : Nat) (s : State) : carStatus b (carMode b m s) = carStatus b s :=
  get_set_other _ _ (status_ne_mode b)

theorem carStatus_carFlag (b : Nat) (n : Nat) (s : State) :
    carStatus b (carFlag b n s) = Nat.lor (carStatus b s) n % 2 ^ (Reg.CAR.BANK_STS_STATUS b).w :=
  get_set_same _ _ _

theorem mode_carShow (b : Fin 2) (s : State) :
    get (Reg.CAR.BANK_STS_MODE b) (carShow b s) = get (Reg.CAR.BANK_STS_MODE b) s :=
  (get_set_other _ _ (mode_ne_op b)).trans (get_set_other _ _ (status_ne_mode b).symm)

/-- An operation that starts: the bank runs it in status mode, and is not READY (R450, R451). -/
theorem carStart_shown (b : Fin 2) {x : CarOp} (hx : x.suspended = false) (u : State) :
    ((carBank b (carStart b x u)).op = some x ∧ (carBank b (carStart b x u)).step = 0 ∧
      get (Reg.CAR.BANK_STS_MODE b) (carStart b x u) = 1 ∧ bitOf (carStatus b (carStart b x u)) 0 = false) ∧
    get (Reg.CAR.BANK_STS_OP b) (carStart b x u) = (if optBase ≤ x.word then 3 else x.kind) % 4 := by
  obtain ⟨h0, -, -, hop⟩ := carShow_shown b
    (carMode b 1 (setCarBank b { carBank b u with step := 0, op := some x, under := (carBank b u).op } u))
  refine ⟨⟨?_, ?_, ?_, h0.trans ?_⟩, hop.trans ?_⟩
  · simp [carStart]
  · simp [carStart]
  · exact (mode_carShow b _).trans (get_carMode _ _ _)
  · simp [carBusy, hx]
  · simp

theorem changes_carStart (b : Nat) (x : CarOp) (u : State) : Changes [.car] (bankFields b) u (carStart b x u) :=
  ((changes_setCarBank b _ u).mono (fun _ h => h) (fun _ h => nomatch h)).trans
    (((changes_carMode b 1 _).trans (changes_carShow b _)).mono (fun _ h => nomatch h) (fun _ h => h))

@[simp] theorem arrayCore_carStart (b : Nat) (x : CarOp) (u : State) : arrayCore (carStart b x u) = arrayCore u :=
  arrayCore_setCarBank b _ u

/-- The fields of a bank's progress. -/
def progressFields (b : Nat) : List Fld := [Reg.CAR.ERASE_PROGRESS_BLOCK b, Reg.CAR.ERASE_PROGRESS_SUSPENDS b]

theorem progress_keys (b : Fin 2) : (∀ f ∈ progressFields b, f.key ∉ (bankFields b).map Fld.key) ∧
    (∀ f ∈ progressFields b, f.key ∉ settleKeys) ∧
    (Reg.CAR.ERASE_PROGRESS_BLOCK b).key ≠ (Reg.CAR.ERASE_PROGRESS_SUSPENDS b).key := by
  revert b
  decide +kernel

/-- A refusal ends at once with its bits, in status mode, with its event (R451). -/
theorem changes_carRefuse (b bits : Nat) (u : State) :
    Changes [.car] (Reg.EVT_STS 0xB0 0 :: bankFields b) u (carRefuse b bits u) :=
  ((changes_setCarBank b _ u).mono (fun _ h => h) (fun _ h => nomatch h)).trans
    (((((changes_carFlag b bits _).trans (changes_carMode b 1 _)).mono (gs := Reg.EVT_STS 0xB0 0 :: bankFields b)
      (fun _ h => nomatch h) (fun _ h => List.mem_cons_of_mem _ h))).set _ _ (by simp))

theorem carRefuse_shown (b : Fin 2) (bits : Nat) (u : State) :
    (carBank b (carRefuse b bits u)).op = (carBank b u).op ∧
    carStatus b (carRefuse b bits u) = Nat.lor (carStatus b u) bits % 2 ^ (Reg.CAR.BANK_STS_STATUS b).w ∧
    get (Reg.EVT_STS 0xB0 0) (carRefuse b bits u) = 1 := by
  obtain ⟨-, -, hev⟩ := bank_keys b
  refine ⟨?_, ?_, get_set_same _ _ _⟩
  · show (carBank b (setCarBank _ _ u)).op = _
    simp
  · refine (get_set_other _ _ (hev _ (by simp [bankFields]))).trans ?_
    refine (carStatus_carMode b 1 _).trans ((carStatus_carFlag b bits _).trans ?_)
    simp

/-! ### Sequences without an operand (R450, R451) -/

/-- The bank after a sequence: closed, with its writer. -/
def closedBank (w : Writer) (k : CarBank) : CarBank := { openedBank w k with step := 0 }

theorem changes_sequence (fs : List Fld) (b : Nat) (k : CarBank) (s : State) :
    Changes [.car] fs s (setCarBank b k (begun s)) :=
  (Changes.begin _ _ s).trans ((changes_setCarBank _ _ _).mono (fun _ h => h) (fun _ h => nomatch h))

section
variable {s : State} {w : Writer} {b : Fin 2} (hs : Ready s) (hw : Reaches w 0xB0000 0 s)
  (ho : (carBank b s).op = none) (hz : (carBank b s).step = 0)
include hs hw ho hz

/-- A sequence without an operand closes the bank's sequence, and sets its status and its mode. -/
theorem completes_carMode {c : Instr} {code m : Nat} {u : State} (hc : code < 65536)
    (he : exec c s = run (carWrites (sequenceOf w b code)) s) (hu : Changes [.car] (bankFields b) s u)
    (hm : carCode b code (setCarBank b (openedBank w (carBank b s)) (begun s)) = carMode b m u) :
    Completes c s fun t => get (Reg.CAR.BANK_STS_MODE b) t = m % 4 ∧ carStatus b t = carStatus b u ∧
      Changes [.car] (bankFields b) s t := by
  have hseq := carWrites_sequence (s := begun s) hw ho hz code hc
  have hch := hu.trans ((changes_carMode b m u).mono (fun _ h => nomatch h) (fun _ h => h))
  refine .leaves hs he (hseq.trans hm) (hch.reqs.trans hs.2) fun t k => ?_
  obtain ⟨-, hst, hmode, -⟩ := k.bank b
  exact ⟨hmode.trans (get_carMode _ _ _), hst.trans (carStatus_carMode _ _ _), hch.ended k⟩

theorem completes_readStatus : Completes (.readStatus (sequenceOf w b 0x57)) s fun t =>
    get (Reg.CAR.BANK_STS_MODE b) t = 1 ∧ carStatus b t = carStatus b s ∧ Changes [.car] (bankFields b) s t := by
  refine (completes_carMode hs hw ho hz (m := 1) (by decide) rfl (changes_sequence _ b (closedBank w
      (carBank b s)) s) ?_).mono
    fun t ⟨hm, hst, hc⟩ => ⟨hm, hst.trans (carStatus_setCarBank _ _ _ _), hc⟩
  simp [carCode, closedBank]

theorem completes_clearStatus : Completes (.clearStatus (sequenceOf w b 0x75)) s fun t =>
    get (Reg.CAR.BANK_STS_MODE b) t = 0 ∧ carStatus b t = carStatus b s % 4 ∧ Changes [.car] (bankFields b) s t := by
  refine (completes_carMode hs hw ho hz (m := 0) (u := set (Reg.CAR.BANK_STS_STATUS b) (carStatus b s % 4) _)
    (by decide) rfl ((changes_sequence _ b (closedBank w (carBank b s)) s).set _ _ (by simp [bankFields])) ?_).mono
    fun t ⟨hm, hst, hc⟩ => ⟨hm, hst.trans ((get_set_same _ _ _).trans (Nat.mod_eq_of_lt ?_)), hc⟩
  · simp [carCode, closedBank]
    rfl
  · exact (Nat.mod_lt _ (by decide)).trans (show 4 < 2 ^ 9 by decide)

/-- READ_ARRAY and READ_ID change the mode where no failure of the last operation shows. -/
theorem completes_carLeave {c : Instr} {code m : Nat} (hf : carFailed b s = false)
    (hc : (code = 0x99 ∧ m = 0) ∨ (code = 0x9A ∧ m = 2))
    (he : exec c s = run (carWrites (sequenceOf w b code)) s) :
    Completes c s fun t => get (Reg.CAR.BANK_STS_MODE b) t = m ∧ carStatus b t = carStatus b s ∧
      Changes [.car] (bankFields b) s t := by
  refine (completes_carMode hs hw ho hz (m := m) (by omega) he (changes_sequence _ b (closedBank w
      (carBank b s)) s) ?_).mono
    fun t ⟨hm, hst, hc⟩ => ⟨hm.trans (by omega), hst.trans (carStatus_setCarBank _ _ _ _), hc⟩
  have hfu : carFailed b (setCarBank b (openedBank w (carBank b s)) (begun s)) = false := by
    unfold carFailed
    rw [carStatus_setCarBank]
    exact hf
  obtain ⟨rfl, rfl⟩ | ⟨rfl, rfl⟩ := hc
  · simp [carCode, closedBank, hfu]
  · simp [carCode, closedBank, hfu]

end

/-! ### Sequences with an operand (R453, R454, R457) -/

/-- The state in which the operand of a sequence is taken. -/
def operandState (w : Writer) (b code : Nat) (s : State) : State :=
  setCarBank b { openedBank w (carBank b s) with step := 3, code := code } (begun s)

theorem carFailed_operandState (w : Writer) (b code : Nat) (s : State) :
    carFailed b (operandState w b code s) = carFailed b s := by
  unfold carFailed operandState
  rw [carStatus_setCarBank]
  rfl

theorem op_operandState (w : Writer) (b code : Nat) (s : State) :
    (carBank b (operandState w b code s)).op = (carBank b s).op := by
  simp [operandState, openedBank]

theorem carLocked_setCarBank (b n : Nat) (k : CarBank) (s : State) : carLocked n (setCarBank b k s) = carLocked n s :=
    by
  unfold setCarBank
  split <;> rfl

theorem programRefusal_setCarBank (b block o data old : Nat) (k : CarBank) (s : State) :
    programRefusal block o data old (setCarBank b k s) = programRefusal block o data old s := by
  unfold setCarBank
  split <;> rfl

/-- A word that holds the same in both copies, as a program reads it. -/
theorem wordNow_setCarBank {b o v : Nat} {k : CarBank} {s : State} (hbad : s.car.bad.contains o = false)
    (hown : ownArea (blockOfWord o) = false) (hv : arrayWord o s = v) (hc : arrayCopy o s = v) :
    wordNow o (setCarBank b k s) = (v, setCarBank b k s) := by
  have hland : Nat.land v v = v := Nat.and_self v
  unfold wordNow
  rw [hown]
  unfold setCarBank
  split <;> exact (if_neg (by simpa using hbad)).trans (by rw [← hland]; exact congrArg₂ _ (congrArg₂ _ hv hc) rfl)

section
variable {s : State} {w : Writer} {b : Fin 2}

/-- A status word with bits added shows them. -/
theorem bitOf_carRefuse (bits : Nat) (u : State) {i : Nat} (hi : i < 9) (hbit : bitOf bits i = true) :
    bitOf (carStatus b (carRefuse b bits u)) i = true := by
  obtain ⟨-, hst, -⟩ := carRefuse_shown b bits u
  rw [hst]
  exact (bitOf_mod (w := 9) hi _).trans (by rw [bitOf_lor, hbit, Bool.or_true])

/-- The operand of a sequence that is refused. -/
theorem refused_of_run {c : Instr} {ws : List CarWrite} {code bits : Nat} (hs : Ready s) (ho : (carBank b s).op = none)
    (he : exec c s = run (carWrites ws) s)
    (hf : carWrites ws (begun s) = carRefuse b bits (operandState w b code s)) :
    Completes c s fun t => (carBank b t).op = none ∧
      carStatus b t = carStatus b (carRefuse b bits (operandState w b code s)) ∧
      get (Reg.EVT_STS 0xB0 0) t = 1 ∧ Changes [.car] (Reg.EVT_STS 0xB0 0 :: bankFields b) s t := by
  have hch := (changes_sequence _ b _ s).trans (changes_carRefuse b bits (operandState w b code s))
  refine .leaves hs he hf (hch.reqs.trans hs.2) fun t k => ?_
  obtain ⟨hbank, hst, -, -⟩ := k.bank b
  obtain ⟨hop, -, hev⟩ := carRefuse_shown b bits (operandState w b code s)
  exact ⟨by rw [hbank, hop, op_operandState, ho], hst, (k.get _ (by decide)).trans hev, hch.ended k⟩

/-- The operand of a sequence that starts its operation. -/
theorem started_of_run {c : Instr} {ws : List CarWrite} {x : CarOp} {u : State} (hs : Ready s)
    (he : exec c s = run (carWrites ws) s) (hx : x.suspended = false) (hu : reqsOf u = [])
    (hf : carWrites ws (begun s) = carStart b x u) :
    Completes c s fun t => ((carBank b t).op = some x ∧ (carBank b t).step = 0 ∧
        get (Reg.CAR.BANK_STS_MODE b) t = 1 ∧ bitOf (carStatus b t) 0 = false) ∧
      get (Reg.CAR.BANK_STS_OP b) t = (if optBase ≤ x.word then 3 else x.kind) % 4 ∧
      Keeps settleKeys (carStart b x u) t := by
  refine .leaves hs he hf ((changes_carStart b x u).reqs.trans hu) fun t k => ?_
  obtain ⟨hbank, hst, hmode, hop⟩ := k.bank b
  rw [hbank, hst, hmode, hop]
  exact ⟨(carStart_shown b hx u).1, (carStart_shown b hx u).2, k⟩

/-- PROGRAM takes the word as it stands. -/
theorem carProgram_taken {o v : Nat} {data : Nat} (hf : carFailed b s = false) (ho : (carBank b s).op = none)
    (hbad : s.car.bad.contains o = false) (hown : ownArea (blockOfWord o) = false) (hv : arrayWord o s = v)
    (hc : arrayCopy o s = v) :
    carProgram b o data (operandState w b 0xA9 s) =
      match programRefusal (blockOfWord o) o data v s with
      | 0 => carStart b { kind := 1, block := blockOfWord o, word := o, data := BitVec.ofNat 32 data }
          (operandState w b 0xA9 s)
      | bits => carRefuse b bits (operandState w b 0xA9 s) := by
  have hword : wordNow o (operandState w b 0xA9 s) = (v, operandState w b 0xA9 s) :=
    wordNow_setCarBank (s := begun s) hbad hown hv hc
  have href : programRefusal (blockOfWord o) o data v (operandState w b 0xA9 s) =
      programRefusal (blockOfWord o) o data v s := programRefusal_setCarBank _ _ _ _ _ _ (begun s)
  unfold carProgram
  rw [carFailed_operandState, hf, hword]
  simp only [op_operandState, ho, href]
  rfl

/-- An operand in the array, of PROGRAM or of ERASE. -/
theorem carWrites_array {code off : Nat} (hs : Reaches w 0xB0000 0 s) (ho : (carBank b s).op = none)
    (hz : (carBank b s).step = 0) (hc : code = 0xA9 ∨ code = 0xE3) (data : Word)
    (h1 : b.val * 0x1000000 ≤ off) (h2 : off < (b.val + 1) * 0x1000000) :
    carWrites (sequenceOf w b code ++ [{ by_ := w, off := off, data := data }]) (begun s) =
      carOperand b code off data.toNat (operandState w b code s) ∧ inOption off = false := by
  have hb := b.isLt
  have hsplit : off = b.val * 0x1000000 + (off - b.val * 0x1000000) := by omega
  have ho24 : off - b.val * 0x1000000 < 0x1000000 := by omega
  refine ⟨carWrites_operand (s := begun s) hs ho hz (by omega) data ?_, ?_⟩
  · rw [hsplit]
    exact carTarget_base b ho24
  · rw [hsplit]
    exact (apertureWord b ho24).1

end

section
variable {s : State} {w : Writer} {b : Fin 2} (hs : Ready s) (hw : Reaches w 0xB0000 0 s)
  (ho : (carBank b s).op = none) (hz : (carBank b s).step = 0)
include hs hw ho hz

theorem completes_programStart {k : Nat} {data : Word} (hk : k < 0x400000) (hf : carFailed b s = false)
    (hbad : s.car.bad.contains (b.val * 0x400000 + k) = false) {o : Nat} (hoff : o = b.val * 0x400000 + k)
    (hv : arrayWord o s = erasedWord) (hc : arrayCopy o s = erasedWord) (hown : ownArea (blockOfWord o) = false)
    (href : programRefusal (blockOfWord o) o data.toNat erasedWord s = 0) :
    Completes (.program (sequenceOf w b 0xA9 ++ [{ by_ := w, off := 4 * o, data := data }])) s fun t =>
      ((carBank b t).op = some { kind := 1, block := blockOfWord o, word := o, data := data } ∧ (carBank b t).step = 0 ∧
        get (Reg.CAR.BANK_STS_MODE b) t = 1 ∧ bitOf (carStatus b t) 0 = false) ∧
      get (Reg.CAR.BANK_STS_OP b) t = 1 ∧ Changes [.car] (bankFields b) s t := by
  have hb := b.isLt
  obtain ⟨hseq, hin⟩ := carWrites_array (code := 0xA9) hw ho hz (.inl rfl) data (off := 4 * o) (by omega) (by omega)
  have hword : ¬ optBase ≤ o := by unfold optBase; omega
  have htake : carOperand b 0xA9 (4 * o) data.toNat (operandState w b 0xA9 s) =
      carStart b { kind := 1, block := blockOfWord o, word := o, data := data } (operandState w b 0xA9 s) := by
    unfold carOperand
    rw [if_pos (by simp [hin]), Nat.mul_div_cancel_left _ (by decide),
      carProgram_taken hf ho (hoff ▸ hbad) hown hv hc, href]
    simp
  refine (started_of_run hs rfl rfl ?_ (hseq.trans htake)).mono fun t ⟨hst, hop, k⟩ =>
    ⟨hst, hop.trans (by simp [hword]), (((changes_sequence _ b _ s).trans (changes_carStart b _ _)).ended k)⟩
  exact (setCarBank_reqsOf _ _ _).trans hs.2

theorem completes_programRefused {k : Nat} {data : Word} (hk : k < 0x400000) (hf : carFailed b s = false)
    (hbad : s.car.bad.contains (b.val * 0x400000 + k) = false) {o v bits : Nat} (hoff : o = b.val * 0x400000 + k)
    (hv : arrayWord o s = v) (hc : arrayCopy o s = v) (hown : ownArea (blockOfWord o) = false)
    (href : programRefusal (blockOfWord o) o data.toNat v s = bits) (hbits : bits ≠ 0) :
    Completes (.program (sequenceOf w b 0xA9 ++ [{ by_ := w, off := 4 * o, data := data }])) s fun t =>
      (carBank b t).op = none ∧ carStatus b t = Nat.lor (carStatus b s) bits % 2 ^ (Reg.CAR.BANK_STS_STATUS b).w ∧
      get (Reg.EVT_STS 0xB0 0) t = 1 ∧ Changes [.car] (Reg.EVT_STS 0xB0 0 :: bankFields b) s t := by
  have hb := b.isLt
  obtain ⟨hseq, hin⟩ := carWrites_array (code := 0xA9) hw ho hz (.inl rfl) data (off := 4 * o) (by omega) (by omega)
  have htake : carOperand b 0xA9 (4 * o) data.toNat (operandState w b 0xA9 s) =
      carRefuse b bits (operandState w b 0xA9 s) := by
    unfold carOperand
    rw [if_pos (by simp [hin]), Nat.mul_div_cancel_left _ (by decide),
      carProgram_taken hf ho (hoff ▸ hbad) hown hv hc, href]
    cases bits with
    | zero => exact absurd rfl hbits
    | succ n => rfl
  refine (refused_of_run hs ho rfl (hseq.trans htake)).mono fun t ⟨hop, hst, hev, hc⟩ =>
    ⟨hop, hst.trans ((carRefuse_shown b bits _).2.1.trans ?_), hev, hc⟩
  rw [operandState, carStatus_setCarBank]
  rfl

/-- An image in a block is gone when the block's erase starts (R454). -/
def slotCleared (block : Nat) (s : State) : State :=
  match slotOfBlock block with
  | some (c, slotB) => s |> setImage c slotB (fun _ => {}) |> updShow
  | none => s

/-- The state in which the erase of a block starts. -/
def eraseOpened (b block : Nat) (s : State) : State :=
  let s := slotCleared block s
  { s with car := { s.car with eraseIncomplete := addNat s.car.eraseIncomplete block } }
    |> set (Reg.CAR.ERASE_PROGRESS_PERMILLE b) ((freshWord s).toNat % 1001) |> spend
    |> set (Reg.CAR.ERASE_PROGRESS_BLOCK b) (block % 256) |> set (Reg.CAR.ERASE_PROGRESS_SUSPENDS b) 0

omit hs hw ho hz in
theorem slotCleared_car (block : Nat) (s : State) : (slotCleared block s).car = s.car ∧ reqsOf
    (slotCleared block s) = reqsOf s := by
  unfold slotCleared
  split
  · exact ⟨(changes_updShow _).car (by simp), by simp⟩
  · exact ⟨rfl, rfl⟩

omit hs in
/-- The end of an operand of ERASE (R454). -/
theorem carWrites_erase (block : Fin 256) :
    carWrites (sequenceOf w b 0xE3 ++ [{ by_ := w, off := (256 * b.val + block.val) * 0x10000, data := 0x3E }])
        (begun s) =
      carErase b (256 * b.val + block.val) (operandState w b 0xE3 s) := by
  have hb := b.isLt
  have hblock := block.isLt
  obtain ⟨hseq, hin⟩ := carWrites_array (s := s) (code := 0xE3) hw ho hz (.inr rfl) 0x3E
    (off := (256 * b.val + block.val) * 0x10000) (by omega) (by omega)
  rw [hseq]
  unfold carOperand
  rw [if_neg (by simp), if_pos (by simp [hin]), Nat.mul_div_cancel _ (by decide)]

theorem completes_eraseStart (block : Fin 256) (hf : carFailed b s = false)
    (hlock : carLocked (256 * b.val + block.val) s = false) :
    Completes (.erase (sequenceOf w b 0xE3 ++
        [{ by_ := w, off := (256 * b.val + block.val) * 0x10000, data := 0x3E }])) s fun t =>
      ((carBank b t).op = some { kind := 2, block := 256 * b.val + block.val, word := 0, data := 0 } ∧
        (carBank b t).step = 0 ∧ get (Reg.CAR.BANK_STS_MODE b) t = 1 ∧ bitOf (carStatus b t) 0 = false) ∧
      256 * b.val + block.val ∈ t.car.eraseIncomplete ∧ get (Reg.CAR.ERASE_PROGRESS_BLOCK b) t = block ∧
      get (Reg.CAR.ERASE_PROGRESS_SUSPENDS b) t = 0 ∧ get (Reg.CAR.BANK_STS_OP b) t = 2 ∧
      t.car.words = s.car.words := by
  have hlocku : carLocked (256 * b.val + block.val) (operandState w b 0xE3 s) = false :=
    (carLocked_setCarBank _ _ _ (begun s)).trans hlock
  have htake : carErase b (256 * b.val + block.val) (operandState w b 0xE3 s) =
      carStart b { kind := 2, block := 256 * b.val + block.val, word := 0, data := 0 }
        (eraseOpened b (256 * b.val + block.val) (operandState w b 0xE3 s)) := by
    unfold carErase
    rw [carFailed_operandState, hf, op_operandState, ho, hlocku]
    rfl
  obtain ⟨hcar, hreqs⟩ := slotCleared_car (256 * b.val + block.val) (operandState w b 0xE3 s)
  refine (started_of_run hs rfl rfl ?_ ((carWrites_erase hw ho hz block).trans htake)).mono
    fun t ⟨hst, hop, k⟩ => ?_
  · unfold eraseOpened
    simpa [reqsOf_mk, reqs_reqsOf] using hreqs.trans ((setCarBank_reqsOf _ _ _).trans hs.2)
  · obtain ⟨hkb, hks, hkp⟩ := progress_keys b
    have hcore := (congrArg (fun c : Car => (c.eraseIncomplete, c.words)) (arrayCore_carStart b.val
      { kind := 2, block := 256 * b.val + block.val, word := 0, data := 0 }
      (eraseOpened b (256 * b.val + block.val) (operandState w b 0xE3 s))))
    obtain ⟨hinc, hwords⟩ := Prod.mk.inj hcore
    have hget : ∀ f ∈ progressFields b, get f t = get f (eraseOpened b (256 * b.val + block.val)
        (operandState w b 0xE3 s)) :=
      fun f hf => ((k.get f (hks f hf)).trans ((changes_carStart b _ _).regs f (hkb f hf) (hks f hf)))
    refine ⟨hst, ?_, (hget _ (by simp [progressFields])).trans ?_, (hget _ (by simp [progressFields])).trans ?_, hop,
        ?_⟩
    · rw [k.car]
      exact hinc ▸ mem_addNat_self _ _
    · exact (get_set_other _ _ hkp).trans ((get_set_same _ _ _).trans (by simp [Reg.CAR.ERASE_PROGRESS_BLOCK]))
    · exact get_set_same _ _ _
    · rw [k.car]
      exact hwords.trans ((congrArg Car.words hcar).trans (by unfold operandState setCarBank; split <;> rfl))

theorem completes_eraseRefused (block : Fin 256) (hf : carFailed b s = false)
    (hlock : carLocked (256 * b.val + block.val) s = true) :
    Completes (.erase (sequenceOf w b 0xE3 ++
        [{ by_ := w, off := (256 * b.val + block.val) * 0x10000, data := 0x3E }])) s fun t =>
      (carBank b t).op = none ∧ bitOf (carStatus b t) 6 = true ∧ bitOf (carStatus b t) 3 = true ∧
        Changes [.car] (Reg.EVT_STS 0xB0 0 :: bankFields b) s t := by
  have hlocku : carLocked (256 * b.val + block.val) (operandState w b 0xE3 s) = true :=
    (carLocked_setCarBank _ _ _ (begun s)).trans hlock
  have htake : carErase b (256 * b.val + block.val) (operandState w b 0xE3 s) =
      carRefuse b (64 + 8) (operandState w b 0xE3 s) := by
    unfold carErase
    rw [carFailed_operandState, hf, op_operandState, ho, hlocku]
    rfl
  exact (refused_of_run hs ho rfl ((carWrites_erase hw ho hz block).trans htake)).mono fun t ⟨hop, hst, _, hc⟩ =>
    ⟨hop, hst ▸ bitOf_carRefuse _ _ (by decide) rfl, hst ▸ bitOf_carRefuse _ _ (by decide) rfl, hc⟩

omit hs hw ho hz in
/-- Where a word of the option area stands (R446, R457). -/
theorem optionWord_place {o : Nat} (h1 : optBase ≤ o) (h2 : o < optBase + 1024) :
    carTarget (4 * o) = some 1 ∧ inOption (4 * o) = true ∧ ownArea (blockOfWord o) = false ∧ 4 * o / 4 = o := by
  unfold optBase at h1 h2
  refine ⟨?_, ?_, ?_, by omega⟩
  · unfold carTarget
    rw [if_neg (by omega), if_pos (by omega)]
  · unfold inOption
    rw [Bool.and_eq_true, decide_eq_true_eq, decide_eq_true_eq]
    omega
  · have hblock : blockOfWord o = 512 := by
      unfold blockOfWord
      omega
    rw [hblock]
    decide

theorem completes_optionStart {o : Nat} (h1 : optBase ≤ o) (h2 : o < optBase + 1024) (data : Word) (hb : b.val = 1)
    (hf : carFailed b s = false) (hbad : s.car.bad.contains o = false) (hv : arrayWord o s = erasedWord)
    (hc : arrayCopy o s = erasedWord) :
    Completes (.optionProgram (sequenceOf w b 0xA6 ++ [{ by_ := w, off := 4 * o, data := data }])) s
      fun t => ((carBank b t).op = some { kind := 3, block := 512, word := o, data := data } ∧
        (carBank b t).step = 0 ∧ get (Reg.CAR.BANK_STS_MODE b) t = 1 ∧ bitOf (carStatus b t) 0 = false) ∧
      get (Reg.CAR.BANK_STS_OP b) t = 3 ∧ Changes [.car] (bankFields b) s t := by
  obtain ⟨ht, hin, hown, hat⟩ := optionWord_place h1 h2
  have hseq := carWrites_operand (s := begun s) hw ho hz (code := 0xA6) (.inr (.inr ⟨rfl, hb⟩)) data (ht.trans
      (by rw [hb]))
  have hopen := carFailed_operandState w b.val 0xA6 s
  have hidle := op_operandState w b.val 0xA6 s
  have hword : wordNow o (operandState w b.val 0xA6 s) = (erasedWord, operandState w b.val 0xA6 s) :=
    wordNow_setCarBank (s := begun s) hbad hown hv hc
  have htake : carOperand b 0xA6 (4 * o) data.toNat (operandState w b 0xA6 s) =
      carStart b { kind := 3, block := 512, word := o, data := data } (operandState w b 0xA6 s) := by
    rw [hf] at hopen
    rw [ho] at hidle
    unfold carOperand carProgramOption
    rw [if_neg (by simp), if_neg (by simp), if_neg (by simp), if_pos (by simp [hin]), hat, ← hb, hopen, hidle]
    simp [hword]
  refine (started_of_run hs rfl rfl ?_ (hseq.trans htake)).mono fun t ⟨hst, hop, k⟩ =>
    ⟨hst, hop.trans (by simp [h1]), ((changes_sequence _ b _ s).trans (changes_carStart b _ _)).ended k⟩
  exact (setCarBank_reqsOf _ _ _).trans hs.2

/-- A first write that begins no sequence and no command sets SEQ_ERR (R449). -/
theorem completes_seqErr {x : CarWrite} (hx : x.by_ = w) (ht : carTarget x.off = some b.val)
    (h64 : x.data.toNat % 65536 ≠ 0x64) (h46 : x.data.toNat % 65536 ≠ 0x46) (hC3 : x.data.toNat % 65536 ≠ 0xC3) :
    Completes (.program [x]) s fun t => bitOf (carStatus b t) 7 = true ∧ (carBank b t).op = none ∧
      Changes [.car] [Reg.CAR.BANK_STS_STATUS b] s t := by
  obtain ⟨w', off, data⟩ := x
  obtain rfl : w' = w := hx
  have he : carWrites [{ by_ := w', off := off, data := data }] (begun s) =
      carFlag b 128 (setCarBank b { carBank b (begun s) with step := 0 } (begun s)) := by
    unfold carWrites
    rw [forEach_cons, forEach_nil, carWrite_bank (s := begun s) _ hw ht,
      carStep_wrong (s := begun s) ho hz h64 h46 hC3]
    rfl
  have hch := (changes_sequence [Reg.CAR.BANK_STS_STATUS b] b { carBank b (begun s) with step := 0 } s).set
    (Reg.CAR.BANK_STS_STATUS b) (Nat.lor (carStatus b (setCarBank b { carBank b (begun s) with step := 0 }
        (begun s))) 128)
    (by simp)
  refine .leaves hs rfl he (hch.reqs.trans hs.2) fun t k => ?_
  obtain ⟨hbank, hst, -, -⟩ := k.bank b
  rw [hbank, hst]
  refine ⟨?_, ?_, hch.ended k⟩
  · rw [carStatus_carFlag]
    exact (bitOf_mod (w := 9) (by decide) _).trans (by rw [bitOf_lor]; simp [bitOf])
  · exact (congrArg CarBank.op ((carBank_carFlag _ _ _ _).trans (carBank_setCarBank _ _ _))).trans ho

end

/-- Settles O54, each sequence by the writes that it consists of. -/
theorem codeArraySequences : Obligations.CodeArraySequences := by
  unfold Obligations.CodeArraySequences
  exact fun s hs w b hw ho hz =>
    ⟨fun k data hk hf hbad => ⟨fun hv hc hown href => completes_programStart hs hw ho hz hk hf hbad rfl hv hc hown href,
        fun v bits hv hc hown _ href hbits => completes_programRefused hs hw ho hz hk hf hbad rfl hv hc hown href
            hbits⟩,
      fun block hf => ⟨completes_eraseStart hs hw ho hz block hf, completes_eraseRefused hs hw ho hz block hf⟩,
      fun k data hb => completes_optionStart hs hw ho hz (Nat.le_add_right _ _) (Nat.add_lt_add_left k.isLt _) data
        (congrArg Fin.val hb),
      completes_readStatus hs hw ho hz, completes_clearStatus hs hw ho hz,
      fun hf => ⟨completes_carLeave hs hw ho hz hf (.inl ⟨rfl, rfl⟩) rfl,
        completes_carLeave hs hw ho hz hf (.inr ⟨rfl, rfl⟩) rfl⟩,
      fun x hx ht h64 h46 hC3 => completes_seqErr hs hw ho hz hx ht h64 h46 hC3⟩

end Sys2Proof.Machine
end

section
/-! SUPPORT. What a calm raise sends, and the operations of the code array under way (R446 to R456). -/

namespace Sys2Proof.Machine
set_option Elab.async false

/-! ### What a calm raise sends comes after what was sent before -/

/-- Between two states something may have been sent. -/
def Sends (s t : State) : Prop := s.out <+: t.out

theorem Sends.rfl {s : State} : Sends s s := List.prefix_refl _

theorem Sends.of_eq {s t : State} (h : t.out = s.out) : Sends s t := by
  unfold Sends
  rw [h]

theorem Sends.trans {s t u : State} (h : Sends s t) (k : Sends t u) : Sends s u := List.IsPrefix.trans h k

theorem sends_emit (o : Out) (s : State) : Sends s (emit o s) := ⟨[o], Eq.refl _⟩

@[simp] theorem when_out (c : Bool) (f : State → State) (s : State) (h : ∀ u, (f u).out = u.out) :
    (when c f s).out = s.out :=
  when_keeps (fun u => u.out = s.out) _ _ _ (Eq.refl _) fun hu => (h _).trans hu

@[simp] theorem forEach_out {α : Type} (l : List α) (f : α → State → State) (s : State)
    (h : ∀ a u, (f a u).out = u.out) : (forEach l f s).out = s.out :=
  forEach_keeps (fun u => u.out = s.out) _ _ _ (Eq.refl _) fun a _ u hu => (h a u).trans hu

@[simp] theorem live_out (p k : Nat) (b : Bool) (s : State) : (live p k b s).out = s.out := by rfl

@[simp] theorem put1_out (f : Fld) (b : Bool) (s : State) : (put1 f b s).out = s.out := by rfl

@[simp] theorem setQueue_out (q : Nat) (f : Gather → Gather) (s : State) : (setQueue q f s).out = s.out := by rfl

@[simp] theorem liveFall_out (n : Nat) (s : State) : (liveFall n s).out = s.out := by
  unfold liveFall
  split <;> simp

@[simp] theorem latchFirst_out (x : Raise) (sev : Nat) (s : State) : (latchFirst x sev s).out = s.out := by
  unfold latchFirst
  split
  · rfl
  · split <;> simp

@[simp] theorem emitWide_out (q : Nat) (ws : List (BitVec 16)) (pad : Bool) (s : State) :
    (emitWide q ws pad s).out = s.out := by
  simp [emitWide]

@[simp] theorem pushWord_out (q : Nat) (v : BitVec 16) (s : State) : (pushWord q v s).out = s.out := by
  unfold pushWord
  dsimp only
  split <;> simp

@[simp] theorem queueShow_out (q : Nat) (s : State) : (queueShow q s).out = s.out := by
  simp [queueShow, queueMarks]

@[simp] theorem pushWords_out (q : Nat) (ws : List (BitVec 16)) (s : State) : (pushWords q ws s).out = s.out := by
  simp [pushWords, queueCredits]

@[simp] theorem pushRecord_out (q : Nat) (r : List (BitVec 16)) (s : State) : (pushRecord q r s).out = s.out := by
  unfold pushRecord
  dsimp only
  split
  · rfl
  · split
    · split <;> simp
    · split <;> simp

@[simp] theorem pinPulse_out (s : State) : (pinPulse s).out = s.out := by
  simp [pinPulse]

theorem tellRaise_sends {x : Raise} {before : State} (s : State) (hc : Calm x.n before) :
    Sends s (tellRaise x before s) := by
  obtain ⟨-, -, hblock, hchip⟩ := hc
  have htold : (s |> when (3 ≤ raiseSev x.n before) (set Reg.SYS.PERSIST_FAULT 1)
      |> latchFirst x (raiseSev x.n before)
      |> when (2 ≤ raiseSev x.n before) (faultRecord x.n (raiseSev x.n before) x.injected
          (snap0Of x) x.snap2 x.snap3)).out
      = s.out :=
    by simp [faultRecord]
  unfold tellRaise
  generalize when (2 ≤ raiseSev x.n before) _ _ = u at htold
  dsimp only
  split
  · exact .of_eq htold
  · unfold react
    simp only [hblock, hchip, when_false]
    refine when_keeps (Sends s) _ _ _ ?_ fun hu => hu.trans (.of_eq (pinPulse_out _))
    refine when_keeps (Sends s) _ _ _ ?_ fun hu => hu.trans (sends_emit _ _)
    refine when_keeps (Sends s) _ _ _ ?_ fun hu => hu.trans (sends_emit _ _)
    exact when_keeps (Sends s) _ _ _ (.of_eq htold) fun hu => hu.trans (.of_eq (event_out _ _ _))

theorem raise_sends {x : Raise} {s : State} (hc : Calm x.n s) : Sends s (raise x s) := by
  cases hr : srcReserved x.n
  case true => rw [show raise x s = s from if_pos (by simp [hr])]; exact .rfl
  case false =>
    cases hl : isSet (Reg.FLS.LIVE x.n) s
    case true => rw [raise_of_live hl]; exact .rfl
    case false =>
      rw [raise_of_fresh ⟨hl, hc⟩ hr]
      have hmark : Sends s (mark x.n s) := .of_eq (by simp [mark])
      exact when_keeps (Sends s) _ _ _ (hmark.trans (tellRaise_sends _ hc)) fun hu =>
        hu.trans (.of_eq (liveFall_out _ _))

/-! ### SUSPEND and RESUME (R455) -/

/-- A bank with another operation. -/
def CarBank.withOp (k : CarBank) (x : CarOp) : CarBank := { k with op := some x }

/-- A suspended operation, an erase with its suspend counted. -/
def suspendHeld (b : Nat) (x : CarOp) (s : State) : State :=
  setCarBank b ((carBank b s).withOp { x with suspended := true }) s
    |> when (x.kind == 2) (fun s => set (Reg.CAR.ERASE_PROGRESS_SUSPENDS b)
        (min 16383 (get (Reg.CAR.ERASE_PROGRESS_SUSPENDS b) s + 1)) s)

theorem carBank_suspendHeld (b : Nat) (x : CarOp) (s : State) :
    carBank b (suspendHeld b x s) = (carBank b s).withOp { x with suspended := true } :=
  when_keeps (fun v => carBank b v = (carBank b s).withOp { x with suspended := true }) _ _ _ (carBank_setCarBank _ _ _)
    fun hv => hv

section
variable {s : State} {w : Writer} {b : Fin 2} {x : CarOp} {off : Nat} {data : Word} (hs : Ready s)
  (hw : Reaches w 0xB0000 0 s) (ht : carTarget off = some b.val) (ho : (carBank b s).op = some x)
  (hz : (carBank b s).step = 0)
include hs hw ht ho hz

theorem completes_carSuspend (hx : x.suspended = false) (hword : x.word < optBase) :
    Completes (.suspend { by_ := w, off := off, data := data }) s fun t =>
      (carBank b t).op = some { x with suspended := true } ∧ get (Reg.CAR.BANK_STS_MODE b) t = 0 ∧
      bitOf (carStatus b t) 0 = true ∧ bitOf (carStatus b t) 1 = true ∧
      Changes [.car] (Reg.CAR.ERASE_PROGRESS_SUSPENDS b :: bankFields b) s t := by
  have hstep : carStep b { by_ := w, off := off, data := 0x64 } (begun s) =
      carShow b (carMode b 0 (suspendHeld b x (begun s))) := by
    have hob : (carBank b (begun s)).op = some x := ho
    have hzb : (carBank b (begun s)).step = 0 := hz
    unfold carStep
    rw [if_pos (by simp [carBusy, hob, hx]), if_pos (by simp [hzb])]
    unfold carSuspend
    simp only [hob, hx]
    rw [if_neg (by simpa using hword)]
    rfl
  have hu : Changes [.car] (Reg.CAR.ERASE_PROGRESS_SUSPENDS b :: bankFields b) s (suspendHeld b x (begun s)) :=
    (changes_sequence _ b _ s).cond _ _ fun v hv => hv.set _ _ (by simp)
  have hbank := carBank_suspendHeld b.val x (begun s)
  have hc := hu.trans (((changes_carMode b 0 _).trans (changes_carShow b _)).mono (fun _ h => nomatch h)
    (gs := Reg.CAR.ERASE_PROGRESS_SUSPENDS b :: bankFields b) (fun _ h => List.mem_cons_of_mem _ h))
  refine .leaves hs rfl ((carWrite_bank (s := begun s) 0x64 hw ht).trans hstep) (hc.reqs.trans hs.2) fun t kt => ?_
  obtain ⟨htb, hst, hmode, -⟩ := kt.bank b
  obtain ⟨h0, h1, -, -⟩ := carShow_shown b (carMode b 0 (suspendHeld b x (begun s)))
  rw [carBank_carMode, hbank] at h0 h1
  rw [htb, hst, hmode, carBank_carShow, carBank_carMode, hbank, mode_carShow, get_carMode]
  exact ⟨rfl, rfl, h0, h1, hc.ended kt⟩

theorem completes_carResume (hx : x.suspended = true) :
    Completes (.resumeOperation { by_ := w, off := off, data := data }) s fun t =>
      (carBank b t).op = some { x with suspended := false } ∧ get (Reg.CAR.BANK_STS_MODE b) t = 1 ∧
      bitOf (carStatus b t) 0 = false ∧ bitOf (carStatus b t) 1 = false ∧ Changes [.car] (bankFields b) s t := by
  have hstep : carStep b { by_ := w, off := off, data := 0x46 } (begun s) =
      carShow b (carMode b 1 (setCarBank b ((carBank b s).withOp { x with suspended := false }) (begun s))) := by
    have hob : (carBank b (begun s)).op = some x := ho
    have hzb : (carBank b (begun s)).step = 0 := hz
    unfold carStep
    rw [if_neg (by simp [carBusy, hob, hx]), if_pos hzb, if_neg (by simp), if_pos (by simp)]
    unfold carResume
    simp only [hob, hx]
    rfl
  have hc := (changes_sequence (bankFields b) b ((carBank b s).withOp { x with suspended := false }) s).trans
      (((changes_carMode b 1 _).trans (changes_carShow b _)).mono
    (fun _ h => nomatch h) (gs := bankFields b) (fun _ h => h))
  refine .leaves hs rfl ((carWrite_bank (s := begun s) 0x46 hw ht).trans hstep) (hc.reqs.trans hs.2) fun t kt => ?_
  obtain ⟨htb, hst, hmode, -⟩ := kt.bank b
  obtain ⟨h0, h1, -, -⟩ := carShow_shown b (carMode b 1 (setCarBank b ((carBank b s).withOp
      { x with suspended := false })
    (begun s)))
  rw [carBank_carMode, carBank_setCarBank] at h0 h1
  rw [htb, hst, hmode, carBank_carShow, carBank_carMode, carBank_setCarBank, mode_carShow, get_carMode]
  exact ⟨rfl, rfl, h0, h1, hc.ended kt⟩

end

/-! ### The end of an operation (R451, R452, R454) -/

/-- A bank whose operation ended: an erase that it interrupted stays. -/
def CarBank.ended (k : CarBank) : CarBank := { k with op := k.under, under := none }

/-- What the end of an operation shows of its bank, and whether it failed. -/
def endShown (b : Nat) (s : State) : State := s |> carShow b |> carMode b (b2n (carFailed b s))

theorem changes_endShown (b : Nat) (s : State) : Changes [] (bankFields b) s (endShown b s) :=
  (changes_carShow b s).trans (changes_carMode b _ _)

@[simp] theorem endShown_car (b : Nat) (s : State) : (endShown b s).car = s.car := (changes_endShown b s).car (by simp)

/-- The end of a running operation, by its effect. -/
theorem carEnd_running {b : Nat} {ok : Bool} {x : CarOp} {s : State} (ho : (carBank b s).op = some x)
    (hx : x.suspended = false) :
    carEnd b ok s = endShown b (when (ok && x.kind == 2 && x.word == 0) (set (Reg.CAR.ERASE_PROGRESS_PERMILLE b) 1000)
      (event 0xB0 0 ((if ok then carEffect x else carFailure b x) (setCarBank b (carBank b s).ended s)))) := by
  unfold carEnd
  simp only [ho, hx]
  rfl

theorem permille_keys (b : Fin 2) : (Reg.EVT_STS 0xB0 0).key ∉ (Reg.CAR.ERASE_PROGRESS_PERMILLE b :: bankFields b).map
    Fld.key ∧
    (Reg.CAR.ERASE_PROGRESS_PERMILLE b).key ∉ (bankFields b).map Fld.key ∧
    (Reg.CAR.ERASE_PROGRESS_PERMILLE b).key ∉ settleKeys := by
  revert b
  decide +kernel

/-- What the end of a good operation shows, whatever its effect on the array was. -/
theorem endShown_good (b : Fin 2) (c : Bool) (u : State) :
    let v := endShown b (when c (set (Reg.CAR.ERASE_PROGRESS_PERMILLE b) 1000) (event 0xB0 0 u))
    v.car = u.car ∧ get (Reg.EVT_STS 0xB0 0) v = 1 ∧ (c = true → get (Reg.CAR.ERASE_PROGRESS_PERMILLE b) v = 1000) ∧
      Changes [] (Reg.EVT_STS 0xB0 0 :: Reg.CAR.ERASE_PROGRESS_PERMILLE b :: bankFields b) u v := by
  obtain ⟨hev, hper, hset⟩ := permille_keys b
  have hw : Changes [] [Reg.CAR.ERASE_PROGRESS_PERMILLE b] (event 0xB0 0 u)
      (when c (set (Reg.CAR.ERASE_PROGRESS_PERMILLE b) 1000) (event 0xB0 0 u)) :=
    (Changes.refl _ _ _).cond _ _ fun v hv => hv.set _ _ (by simp)
  have hshow := changes_endShown b (when c (set (Reg.CAR.ERASE_PROGRESS_PERMILLE b) 1000) (event 0xB0 0 u))
  have hc := (hw.mono (gs := Reg.CAR.ERASE_PROGRESS_PERMILLE b :: bankFields b) (fun _ h => h) (by simp)).trans
    (hshow.mono (fun _ h => h) fun _ h => List.mem_cons_of_mem _ h)
  refine ⟨?_, ?_, fun h => ?_, (((Changes.refl _ _ u).event 0xB0 0 (by simp)).trans
    (hc.mono (fun _ h => h) fun _ h => List.mem_cons_of_mem _ h))⟩
  · rw [endShown_car]
    exact hw.car (by simp)
  · rw [hc.regs _ hev (by decide)]
    exact get_set_same _ _ _
  · rw [hshow.regs _ hper hset, h]
    exact get_set_same _ _ _

/-! ### What an operation leaves in the array (R452, R454) -/

theorem arrayDefault_lt {o : Nat} (ho : o < optBase) (s : State) : arrayDefault o s < 2 ^ 32 := by
  unfold arrayDefault
  rw [if_neg (by omega)]
  split
  · exact BitVec.isLt _
  · decide

theorem arrayWord_congr {s t : State} (h : t.car = s.car) (o : Nat) : arrayWord o t = arrayWord o s := by
  unfold arrayWord arrayDefault
  rw [h]

/-- A word that is programmed reads as it was written. -/
theorem arrayWord_putWord {o : Nat} (ho : o < optBase) (data : Word) (s : State) :
    arrayWord o (putWord o data.toNat s) = data.toNat := by
  have hlook : (look (putWord o data.toNat s).car.words o).getD (BitVec.ofNat 32 (arrayDefault o s)) = data :=
    (look_put_same _ _ _ _).trans (by simp)
  have hdef : arrayDefault o (putWord o data.toNat s) = arrayDefault o s := rfl
  unfold arrayWord
  rw [hdef]
  cases hl : look (putWord o data.toNat s).car.words o with
  | none =>
    rw [hl] at hlook
    rw [← hlook]
    exact (Nat.mod_eq_of_lt (arrayDefault_lt ho s)).symm
  | some v =>
    rw [hl] at hlook
    rw [← hlook]
    rfl

theorem look_filter_none {α : Type} (l : List (Nat × α)) (p : Nat × α → Bool) {k : Nat} (h : ∀ v, p (k, v) = false) :
    look (l.filter p) k = none := by
  induction l with
  | nil => rfl
  | cons e l ih =>
    obtain ⟨j, v⟩ := e
    by_cases hp : p (j, v)
    · have hj : j ≠ k := fun hj => by simp [hj, h] at hp
      simp [hp, look, hj, ih]
    · simp [hp, ih]

/-- Every word of an erased block reads erased. -/
theorem arrayWord_eraseBlock {o n : Nat} (ho : o < optBase) (hn : blockOfWord o = n) (s : State) :
    arrayWord o (eraseBlock n s) = erasedWord := by
  have hlook : look (eraseBlock n s).car.words o = none :=
    look_filter_none _ _ fun v => by simp [hn]; omega
  unfold arrayWord
  rw [hlook]
  have hdef : arrayDefault o (eraseBlock n s) = erasedWord := by
    unfold arrayDefault
    rw [if_neg (by omega), hn]
    cases hb : shippedBlock n
    · simp
    · have hwiped : n ∈ (eraseBlock n s).car.wiped := by
        simp only [eraseBlock, hb, if_true]
        exact mem_addNat_self _ _
      simp [hwiped]
  exact hdef

theorem changes_slotFollow (n : Nat) (s : State) : Changes [.upd] updShown s (slotFollow n s) := by
  unfold slotFollow
  split
  · exact .refl _ _ _
  · exact (((Changes.refl [.upd] updShown s).spend).in_upd _ (by simp)).trans
      ((changes_updShow _).mono (fun _ h => nomatch h) (fun _ h => h))

/-- What a good PROGRAM leaves in the array. -/
theorem carEffect_program {x : CarOp} (hx : x.kind = 1) (s : State) :
    carEffect x s = slotFollow x.block (putWord x.word x.data.toNat s) := by
  unfold carEffect
  rw [if_neg (by simp [hx])]
  simp [hx]

/-- What a good ERASE leaves in the array. -/
theorem carEffect_erase {x : CarOp} (hx : x.kind = 2) (hword : x.word < optBase) (s : State) :
    carEffect x s = eraseBlock x.block { s with car := { s.car with
      eraseIncomplete := s.car.eraseIncomplete.filter (· != x.block),
      unreliable := s.car.unreliable.filter (· != x.block) } } := by
  unfold carEffect
  rw [if_pos hx, if_neg (by omega)]

section
variable {s : State} {b : Fin 2} {x : CarOp} (hs : Ready s) (ho : (carBank b s).op = some x) (hx : x.suspended = false)
  (hword : x.word < optBase)
include hs ho hx hword

theorem completes_programEnd (hk : x.kind = 1) :
    Completes (.opDone b true) s fun t =>
      arrayWord x.word t = x.data.toNat ∧ (carBank b t).op = (carBank b s).under ∧ get (Reg.EVT_STS 0xB0 0) t = 1 := by
  have hend := carEnd_running (b := b.val) (ok := true) (s := begun s) ho hx
  rw [if_pos rfl, carEffect_program hk] at hend
  have hfollow := changes_slotFollow x.block (putWord x.word x.data.toNat (setCarBank b (carBank b (begun s)).ended
      (begun s)))
  obtain ⟨hcar, hev, -, hc⟩ := endShown_good b (true && x.kind == 2 && x.word == 0) (slotFollow x.block
    (putWord x.word x.data.toNat (setCarBank b (carBank b (begun s)).ended (begun s))))
  refine .leaves hs (f := carEnd b true) rfl hend ?_ fun t k => ?_
  · rw [hc.reqs, hfollow.reqs]
    exact (setCarBank_reqsOf _ _ _).trans hs.2
  · have hcart := k.car.trans (hcar.trans (hfollow.car (by simp)))
    refine ⟨(arrayWord_congr hcart _).trans (arrayWord_putWord hword _ _), ?_, k.stored (by decide) hev⟩
    rw [carBank_congr hcart]
    exact congrArg CarBank.op (carBank_setCarBank b _ (begun s))

theorem completes_eraseEnd (hk : x.kind = 2) :
    Completes (.opDone b true) s fun t =>
      (∀ o, o < optBase → blockOfWord o = x.block → arrayWord o t = erasedWord) ∧ x.block ∉ t.car.eraseIncomplete ∧
      (carBank b t).op = (carBank b s).under ∧ get (Reg.EVT_STS 0xB0 0) t = 1 ∧
      (x.word = 0 → get (Reg.CAR.ERASE_PROGRESS_PERMILLE b) t = 1000) ∧
      Changes [.car] (Reg.EVT_STS 0xB0 0 :: Reg.CAR.ERASE_PROGRESS_PERMILLE b :: bankFields b) s t := by
  have hend := carEnd_running (b := b.val) (ok := true) (s := begun s) ho hx
  rw [if_pos rfl, carEffect_erase hk hword] at hend
  obtain ⟨hcar, hev, hper, hc⟩ := endShown_good b (true && x.kind == 2 && x.word == 0) (eraseBlock x.block
    { setCarBank b (carBank b (begun s)).ended (begun s) with car :=
      { (setCarBank b (carBank b (begun s)).ended (begun s)).car with
        eraseIncomplete := (setCarBank b (carBank b (begun s)).ended (begun s)).car.eraseIncomplete.filter
            (· != x.block),
        unreliable := (setCarBank b (carBank b (begun s)).ended (begun s)).car.unreliable.filter (· != x.block) } })
  have hall := (((changes_sequence _ b (carBank b (begun s)).ended s).in_car _ (by simp)).in_car _ (by simp)).trans
    (hc.mono (fun _ h => nomatch h) (fun _ h => h))
  refine .leaves hs (f := carEnd b true) rfl hend (hall.reqs.trans hs.2) fun t k => ?_
  have hcart := k.car.trans hcar
  refine ⟨fun o ho' hn => (arrayWord_congr hcart _).trans (arrayWord_eraseBlock ho' hn _), ?_, ?_, k.stored
      (by decide) hev,
    fun h0 => k.stored (permille_keys b).2.2 (hper (by simp [hk, h0])), hall.ended k⟩
  · rw [hcart]
    simp [eraseBlock]
  · rw [carBank_congr hcart]
    exact congrArg CarBank.op (carBank_setCarBank b _ (begun s))

/-- What a failed operation leaves in the array and in the status word, before its source is raised. -/
def failedArray (b : Nat) (x : CarOp) (s : State) : State :=
  s |> when (x.kind != 2) (fun s => s |> spoilWord x.word |> when (x.kind == 1) (slotFollow x.block))
    |> carFlag b (if x.kind = 2 then 8 else 4)

omit hs ho hx hword in
theorem changes_failedArray (b : Nat) (x : CarOp) (s : State) :
    Changes [.car, .upd] (updShown ++ bankFields b) s (failedArray b x s) := by
  refine (Changes.cond (Changes.refl _ _ s) _ _ fun u hu => Changes.cond (hu.in_car _ (by simp)) _ _ fun v hv =>
    hv.trans ((changes_slotFollow _ v).mono (by simp) (by simp +contextual))).trans
    ((changes_carFlag b _ _).mono (by simp) (by simp +contextual))

omit hs ho hx hword in
/-- The source of a failure, its event and the fields that the end of an operation shows are apart from one another. -/
theorem failure_keys (b : Fin 2) :
    (∀ f ∈ sourceCard 232, f.key ∉ (updShown ++ bankFields b).map Fld.key ∧
      f.key ∉ (Reg.EVT_STS 0xB0 1 :: Reg.EVT_STS 0xB0 0 :: Reg.CAR.ERASE_PROGRESS_PERMILLE b :: bankFields b).map
          Fld.key) ∧
    (Reg.EVT_STS 0xB0 1).key ∉ (Reg.EVT_STS 0xB0 0 :: Reg.CAR.ERASE_PROGRESS_PERMILLE b :: bankFields b).map Fld.key ∧
    (Reg.CAR.BANK_STS_STATUS b).key ∉ (Reg.EVT_STS 0xB0 1 :: raiseFields 232).map Fld.key := by
  revert b
  decide +kernel

omit hs ho hx hword in
theorem failedArray_car (b : Nat) (x : CarOp) (s : State) :
    (failedArray b x s).car = if x.kind = 2 then s.car else (spoilWord x.word s).car := by
  unfold failedArray
  refine Eq.trans (b := (when (x.kind != 2) (fun s => s |> spoilWord x.word |> when (x.kind == 1)
      (slotFollow x.block)) s).car)
    (by rfl) ?_
  by_cases hk : x.kind = 2
  · simp [hk]
  · rw [if_neg hk, bne_iff_ne.2 hk, when_true]
    exact when_keeps (fun u => u.car = (spoilWord x.word s).car) _ _ _ rfl fun hu =>
      ((changes_slotFollow _ _).car (by simp)).trans hu

omit hs ho hx hword in
/-- A bit of the status word from 2 on shows a failure, and the end of an operation keeps it (R451). -/
theorem endShown_failed (b : Fin 2) {u : State} {i : Nat} (h2 : 2 ≤ i) (h9 : i < 9) (hbit : bitOf
    (carStatus b u) i = true) :
    bitOf (carStatus b (endShown b u)) i = true ∧ get (Reg.CAR.BANK_STS_MODE b) (endShown b u) = 1 := by
  have hfail : carFailed b u = true := by
    unfold carFailed
    rw [bne_iff_ne]
    intro h0
    have hdiv : bitsOf (carStatus b u) 2 7 / 2 ^ (i - 2) % 2 = 1 := by
      have hpow : 2 ^ 2 * 2 ^ (i - 2) = 2 ^ i := by rw [← Nat.pow_add, Nat.add_sub_cancel' h2]
      have hsub := bitOf_mod (w := 7) (i := i - 2) (by omega) (carStatus b u / 2 ^ 2)
      unfold bitOf at hsub hbit
      rw [Nat.div_div_eq_div_mul, hpow, hbit] at hsub
      exact beq_iff_eq.1 hsub
    rw [h0, Nat.zero_div] at hdiv
    exact absurd hdiv (by decide)
  obtain ⟨-, -, hkeep, -⟩ := carShow_shown b u
  refine ⟨?_, ?_⟩
  · exact (congrArg (fun n => bitOf n i) (carStatus_carMode b _ _)).trans ((hkeep i h2 h9).trans hbit)
  · unfold endShown
    rw [get_carMode, hfail]
    rfl

omit hs ho hx hword in
/-- A failure raises its source, with its event (R452). -/
def failureTold (b : Nat) (x : CarOp) (s : State) : State :=
  s |> raiseSimple 232 (if x.kind = 2 then 2 else 1) b (carStatus b s) x.block |> event 0xB0 1

omit hs ho hx hword in
theorem carFailure_eq (b : Nat) (x : CarOp) (s : State) : carFailure b x s = failureTold b x (failedArray b x s) := rfl

omit hs ho hx hword in
theorem failureTold_shown (b : Fin 2) (x : CarOp) {u : State} (hf : Fresh 232 u) :
    (failureTold b x u).car = u.car ∧ get (Reg.EVT_STS 0xB0 1) (failureTold b x u) = 1 ∧
      carStatus b (failureTold b x u) = carStatus b u ∧ (failureTold b x u).reqs = u.reqs ∧
      Raised 232 u (failureTold b x u) := by
  have hraise := changes_raiseSimple hf.2 (if x.kind = 2 then 2 else 1) b (carStatus b u) x.block
  have hc : Changes raiseParts (Reg.EVT_STS 0xB0 1 :: raiseFields 232) u (failureTold b x u) :=
    (hraise.mono (gs := Reg.EVT_STS 0xB0 1 :: raiseFields 232) (fun _ h => h)
      (fun _ h => List.mem_cons_of_mem _ h)).event 0xB0 1 (by simp)
  have hevent : Changes [] [Reg.EVT_STS 0xB0 1] _ (failureTold b x u) := (Changes.refl _ _ _).event 0xB0 1 (by simp)
  exact ⟨hc.car (by decide), get_set_same _ _ _, hc.regs _ (failure_keys b).2.2 ((bank_keys b).1 _
      (by simp [bankFields])),
    hc.reqs, (hevent.source (by decide) (by decide)).stays (raised_raiseSimple hf (by decide) (by decide) _ _ _ _)⟩

omit hs ho hx hword in
theorem bitOf_failedArray (b : Fin 2) (x : CarOp) (s : State) :
    bitOf (carStatus b (failedArray b x s)) (if x.kind = 2 then 3 else 2) = true := by
  unfold failedArray
  rw [carStatus_carFlag]
  refine (bitOf_mod (w := 9) (by split <;> decide) _).trans ?_
  rw [bitOf_lor]
  split <;> simp [bitOf]

omit hword in
theorem completes_opFailed :
    Completes (.opDone b false) s fun t => Fresh 232 s →
      bitOf (carStatus b t) (if x.kind = 2 then 3 else 2) = true ∧ get (Reg.CAR.BANK_STS_MODE b) t = 1 ∧
      (x.kind = 1 → x.word ∈ t.car.bad) ∧ (carBank b t).op = (carBank b s).under ∧
      get (Reg.EVT_STS 0xB0 1) t = 1 ∧ Raised 232 s t := by
  refine .leavesIf hs (f := carEnd b false) rfl fun hf => ?_
  rw [carEnd_running (b := b.val) (ok := false) (s := begun s) ho hx, if_neg (by decide), carFailure_eq]
  have hopen := changes_sequence [] b (carBank b (begun s)).ended s
  have hbank : carBank b (setCarBank b (carBank b (begun s)).ended (begun s)) = (carBank b s).ended :=
    carBank_setCarBank _ _ _
  generalize setCarBank b (carBank b (begun s)).ended (begun s) = v at hopen hbank ⊢
  obtain ⟨hsource, hev1, -⟩ := failure_keys b
  have harray := changes_failedArray b.val x v
  have hcard : SameSource 232 s (failedArray b x v) :=
    (hopen.source (by decide) (by simp)).trans (harray.source (by decide) fun f hf => (hsource f hf).1)
  obtain ⟨hcar, hevent, hstatus, hreqs, hraised⟩ := failureTold_shown b x (hcard.fresh hf)
  obtain ⟨hcarv, -, -, hc⟩ := endShown_good b false (failureTold b x (failedArray b x v))
  have hbit : bitOf (carStatus b (event 0xB0 0 (failureTold b x (failedArray b x v)))) (if x.kind = 2 then 3 else 2)
      = true := by
    have hother := (bank_keys b).2.2 (Reg.CAR.BANK_STS_STATUS b) (by simp [bankFields])
    rw [carStatus, event, get_set_other _ _ hother]
    exact (congrArg (fun n => bitOf n _) hstatus).trans (bitOf_failedArray b x v)
  obtain ⟨hfailed, hmode⟩ := endShown_failed b (by split <;> decide) (by split <;> decide) hbit
  refine ⟨hc.reqs.trans (hreqs.trans (harray.reqs.trans (hopen.reqs.trans hs.2))), fun t k => ?_⟩
  have hcart := k.car.trans (hcarv.trans (hcar.trans (failedArray_car b x v)))
  obtain ⟨-, hst, hmodet, -⟩ := k.bank b
  refine ⟨(congrArg (fun n => bitOf n _) hst).trans hfailed, hmodet.trans hmode, fun h1 => ?_, ?_, ?_, ?_⟩
  · rw [hcart, if_neg (by omega)]
    exact mem_addNat_self _ _
  · have hkept : carBank b t = carBank b v := by
      unfold carBank
      rw [hcart]
      split <;> split <;> rfl
    rw [hkept, hbank]
    rfl
  · exact k.stored (by decide) ((hc.regs _ hev1 (by decide)).trans hevent)
  · have hshown := hc.source (n := 232) (by decide) fun f hf h =>
      (hsource f hf).2 (List.mem_cons_of_mem _ h)
    exact (SameSource.settle (by decide) k).stays (hshown.stays (hcard.raised hraised))

end

/-! ### Reads and fetches (R446 to R448, R450, R451, R456) -/

/-- The block of an address of the array. -/
theorem blockOfWord_off {off : Nat} {b : Nat} (ht : carTarget off = some b) :
    blockOfWord (off / 4) = if inOption off then 512 else off / 0x10000 := by
  have hlt : off < 0x2001000 := by
    by_contra h
    unfold carTarget at ht
    rw [if_neg (by omega), if_neg h] at ht
    exact absurd ht (by simp)
  unfold blockOfWord
  rw [Nat.div_div_eq_div_mul]
  split
  · rename_i h
    simp only [inOption, Bool.and_eq_true, decide_eq_true_eq] at h
    omega
  · rfl

theorem Keeps.sentLast {K : List Nat} {u t : State} {o : Out} (k : Keeps K u t) (h : o ∈ u.out) : o ∈ t.out := by
  obtain ⟨m, hm⟩ := k.out
  rw [hm]
  exact List.mem_append_left _ h

section
variable {s : State} {w : Writer} {b : Fin 2} {off : Nat} {bitErrors : Fin 3} (hs : Ready s)
  (ht : carTarget off = some b.val)
include hs ht

theorem completes_statusRead (hst : carStatusRead b (if inOption off then 512 else off / 0x10000) s = true) :
    Completes (.arrayRead w off bitErrors) s fun t =>
      [Out.arrayData (carStatus b s) true] <+: t.out ∧ Changes [] [] s t := by
  have he : arrayRead off bitErrors (begun s) = emit (.arrayData (carStatus b s) true) (begun s) := by
    unfold arrayRead
    rw [ht]
    exact if_pos hst
  exact .leaves hs rfl he hs.2 fun t k => ⟨k.sent rfl, ((Changes.begin _ _ s).emit _).ended k⟩

theorem completes_idRead (hst : carStatusRead b (if inOption off then 512 else off / 0x10000) s = false)
    (hmode : get (Reg.CAR.BANK_STS_MODE b) s = 2) (hoff : off = b.val * 0x1000000) :
    Completes (.arrayRead w off bitErrors) s fun t => [Out.arrayData 0x5A31 true] <+: t.out ∧ Changes [] [] s t := by
  obtain ⟨hin, hat⟩ := apertureWord b (o := 0) (by decide)
  rw [Nat.add_zero, ← hoff] at hin hat
  have hmodeb : get (Reg.CAR.BANK_STS_MODE b) (begun s) = 2 := hmode
  have he : arrayRead off bitErrors (begun s) = emit (.arrayData 0x5A31 true) (begun s) := by
    unfold arrayRead
    rw [ht]
    refine (if_neg (ne_true_of_eq_false hst)).trans ((if_pos (by simp [hmodeb, hin])).trans ?_)
    exact if_pos hat
  exact .leaves hs rfl he hs.2 fun t k => ⟨k.sent rfl, ((Changes.begin _ _ s).emit _).ended k⟩

omit hs in
/-- In array mode a read goes to the array's data. -/
theorem arrayRead_data (hst : carStatusRead b (if inOption off then 512 else off / 0x10000) s = false)
    (hmode : get (Reg.CAR.BANK_STS_MODE b) s = 0) :
    arrayRead off bitErrors (begun s) = carData (off / 4) bitErrors (begun s) := by
  have hmodeb : get (Reg.CAR.BANK_STS_MODE b) (begun s) = 0 := hmode
  unfold arrayRead
  rw [ht]
  exact (if_neg (ne_true_of_eq_false hst)).trans (if_neg (by simp [hmodeb]))

end

/-- The data of a word of its own check bits, both copies the same. -/
def wordData (o : Nat) (counted : Bool) (s : State) : State :=
  spend s |> when counted (inc Reg.CAR.ECC_CE) |> emit (.arrayData (arrayWord o s) true)

/-- A word beyond correction: counted, raised, and answered as erased with an error (R447). -/
def wordLost (o : Nat) (s : State) : State :=
  s |> spend |> inc Reg.CAR.ECC_UE |> event 0xB0 2
    |> (fun s => raiseSimple 232 3 0 (carStatus (blockOfWord o / 256 % 2) s) (blockOfWord o) s)
    |> emit (.arrayData erasedWord false)

theorem wordLost_shown {o : Nat} {s : State} (hf : Fresh 232 s) :
    Out.arrayData erasedWord false ∈ (wordLost o s).out ∧ get Reg.CAR.ECC_UE (wordLost o s) = oneMore Reg.CAR.ECC_UE s ∧
      get (Reg.EVT_STS 0xB0 2) (wordLost o s) = 1 ∧ Raised 232 s (wordLost o s) ∧
      Changes raiseParts (Reg.CAR.ECC_UE :: Reg.EVT_STS 0xB0 2 :: raiseFields 232) s (wordLost o s) := by
  have htold : Changes [] [Reg.CAR.ECC_UE, Reg.EVT_STS 0xB0 2] s (s |> spend |> inc Reg.CAR.ECC_UE |> event 0xB0 2) :=
    (((Changes.refl _ _ s).spend).inc _ (by simp)).event _ _ (by simp)
  have hcard := htold.source (n := 232) (by decide) (by decide)
  have hfresh := hcard.fresh hf
  have hraise := changes_raiseSimple hfresh.2 3 0
    (carStatus (blockOfWord o / 256 % 2) (s |> spend |> inc Reg.CAR.ECC_UE |> event 0xB0 2)) (blockOfWord o)
  have hemit : ∀ f : Fld, f.key ∉ (raiseFields 232).map Fld.key → f.key ∉ settleKeys →
      get f (wordLost o s) = get f (s |> spend |> inc Reg.CAR.ECC_UE |> event 0xB0 2) := fun f h h' => hraise.regs f h
          h'
  refine ⟨?_, ?_, ?_, hcard.raised ?_, ((htold.mono (qs := raiseParts)
    (gs := Reg.CAR.ECC_UE :: Reg.EVT_STS 0xB0 2 :: raiseFields 232) (by simp) (by simp)).trans
    (hraise.mono (fun _ h => h) fun _ h => List.mem_cons_of_mem _ (List.mem_cons_of_mem _ h))).emit _⟩
  · simp [wordLost]
  · rw [hemit _ (by decide) (by decide)]
    simp (disch := decide) only [event, get_set_other, get_inc_same]
    rfl
  · rw [hemit _ (by decide) (by decide)]
    simp only [event, get_set_same]
    rfl
  · obtain ⟨hsticky, hcount⟩ := raised_raiseSimple hfresh (by decide) (by decide) 3 0
      (carStatus (blockOfWord o / 256 % 2) (s |> spend |> inc Reg.CAR.ECC_UE |> event 0xB0 2)) (blockOfWord o)
    exact ⟨(get_emit _ _ _).trans hsticky, (get_emit _ _ _).trans hcount⟩

/-- A fetch from a busy bank, before its source is raised. -/
def trapTold (addr : Nat) (s : State) : State :=
  s |> inc Reg.CAR.FETCH_TRAPS_COUNT |> event 0xB0 4 |> emit (.busTrap addr)

theorem carData_good {o e : Nat} {s : State} (hbad : o ∉ s.car.bad) (htally : o < optBase → isTally
    (blockOfWord o) s = false)
    (hown : ownArea (blockOfWord o) = false) (hc : arrayCopy o s = arrayWord o s) (he : e ≠ 2) :
    carData o e s = wordData o (e = 1) s := by
  have hword : wordNow o (spend s) = (arrayWord o s, spend s) := by
    unfold wordNow
    rw [hown]
    refine (if_neg (by simpa using hbad)).trans ?_
    exact congrArg₂ _ ((congrArg (Nat.land (arrayWord o s)) hc).trans (Nat.and_self _)) rfl
  unfold carData
  rw [if_neg (by simpa using htally), if_neg (by simp [he, hbad])]
  simp only [hword]
  rfl

theorem carData_lost {o : Nat} {s : State} (htally : o < optBase → isTally (blockOfWord o) s = false) :
    carData o 2 s = wordLost o s := by
  unfold carData
  rw [if_neg (by simpa using htally)]
  exact if_pos (by simp)

section
variable {s : State} {w : Writer} {b : Fin 2} {off : Nat} {bitErrors : Fin 3} (hs : Ready s)
  (ht : carTarget off = some b.val)
  (hst : carStatusRead b (if inOption off then 512 else off / 0x10000) s = false)
  (hmode : get (Reg.CAR.BANK_STS_MODE b) s = 0)
  (htally : off / 4 < optBase → isTally (if inOption off then 512 else off / 0x10000) s = false)
include hs ht hst hmode htally

theorem completes_dataRead (hbad : off / 4 ∉ s.car.bad) (hown : ownArea (if inOption off then 512 else off / 0x10000)
    = false)
    (hc : arrayCopy (off / 4) s = arrayWord (off / 4) s) (he : bitErrors ≠ 2) :
    Completes (.arrayRead w off bitErrors) s fun t => Out.arrayData (arrayWord (off / 4) s) true ∈ t.out ∧
      (bitErrors = 1 → get Reg.CAR.ECC_CE t = oneMore Reg.CAR.ECC_CE s) ∧ Changes [] [Reg.CAR.ECC_CE] s t := by
  rw [← blockOfWord_off ht] at htally hown
  have hdata := carData_good (s := begun s) (e := bitErrors) hbad htally hown hc
    (fun h => he (Fin.ext h))
  have hch : Changes [] [Reg.CAR.ECC_CE] s (wordData (off / 4) (bitErrors.val = 1) (begun s)) :=
    (((Changes.begin _ _ s).spend).cond _ _ fun u hu => hu.inc _ (by simp)).emit _
  refine .leaves hs rfl ((arrayRead_data ht hst hmode).trans hdata) (hch.reqs.trans hs.2) fun t k =>
    ⟨k.sentLast ?_, fun h1 => k.stored (by decide) ?_, hch.ended k⟩
  · unfold wordData
    rw [emit_out]
    exact List.mem_append_right _ (List.mem_singleton.2 rfl)
  · subst h1
    exact get_inc_same _ _

theorem completes_lostRead (he : bitErrors = 2) :
    Completes (.arrayRead w off bitErrors) s fun t => Fresh 232 s →
      Out.arrayData erasedWord false ∈ t.out ∧ get Reg.CAR.ECC_UE t = oneMore Reg.CAR.ECC_UE s ∧
      get (Reg.EVT_STS 0xB0 2) t = 1 ∧ Raised 232 s t ∧
      Changes raiseParts (Reg.CAR.ECC_UE :: Reg.EVT_STS 0xB0 2 :: raiseFields 232) s t := by
  rw [← blockOfWord_off ht] at htally
  subst he
  refine .leavesIf hs (f := arrayRead off 2) rfl fun hf => ?_
  rw [show arrayRead off 2 (begun s) = wordLost (off / 4) (begun s) from
    (arrayRead_data (bitErrors := 2) ht hst hmode).trans (carData_lost (s := begun s) htally)]
  obtain ⟨hout, hue, hev, hraised, hc⟩ := wordLost_shown (o := off / 4) (s := begun s) hf
  have hch := (Changes.begin _ _ s).trans hc
  exact ⟨hch.reqs.trans hs.2, fun t k => ⟨k.sentLast hout, k.stored (by decide) hue, k.stored (by decide) hev,
    (SameSource.settle (by decide) k).stays hraised, hch.ended k⟩⟩

end

theorem completes_fetchTrap {s : State} (hs : Ready s) (b : Fin 2) (addr : Word) (hb : carBusy (carBank b s) = true) :
    Completes (.fetchTrap b addr) s fun t => Fresh 231 s →
      [Out.busTrap addr.toNat] <+: t.out ∧ get Reg.CAR.FETCH_TRAPS_COUNT t = oneMore Reg.CAR.FETCH_TRAPS_COUNT s ∧
      get (Reg.EVT_STS 0xB0 4) t = 1 ∧ Raised 231 s t ∧
      Changes raiseParts (Reg.CAR.FETCH_TRAPS_COUNT :: Reg.EVT_STS 0xB0 4 :: raiseFields 231) s t := by
  refine .leavesIf hs (f := fetchTrap b addr.toNat) rfl fun hf => ?_
  rw [show fetchTrap b addr.toNat (begun s) = raiseSimple 231 0 b b addr.toNat (trapTold addr.toNat (begun s)) from
    if_pos hb]
  have htold : Changes [] [Reg.CAR.FETCH_TRAPS_COUNT, Reg.EVT_STS 0xB0 4] s (trapTold addr.toNat (begun s)) :=
    (((Changes.begin _ _ s).inc _ (by simp)).event _ _ (by simp)).emit _
  have hcard := htold.source (n := 231) (by decide) (by decide)
  have hfresh := hcard.fresh hf
  have hraise := changes_raiseSimple hfresh.2 0 b b addr.toNat
  obtain ⟨m, hm⟩ := raise_sends (x := ⟨231, 0, b, b, addr.toNat, false, false⟩) hfresh.2
  have hch := (htold.mono (qs := raiseParts)
    (gs := Reg.CAR.FETCH_TRAPS_COUNT :: Reg.EVT_STS 0xB0 4 :: raiseFields 231) (by simp) (by simp)).trans
    (hraise.mono (fun _ h => h) fun _ h => List.mem_cons_of_mem _ (List.mem_cons_of_mem _ h))
  refine ⟨hch.reqs.trans hs.2, fun t k => ⟨?_, k.stored (by decide) ?_, k.stored (by decide) ?_,
    (SameSource.settle (by decide) k).stays (hcard.raised (raised_raiseSimple hfresh (by decide) (by decide) _ _ _ _)),
    hch.ended k⟩⟩
  · obtain ⟨l, hl⟩ := k.out
    exact ⟨m ++ l, by rw [hl, ← List.append_assoc]; exact congrArg (· ++ l) hm⟩
  · rw [hraise.regs _ (by decide) (by decide)]
    simp (disch := decide) only [trapTold, event, get_emit, get_set_other, get_inc_same]
    rfl
  · rw [hraise.regs _ (by decide) (by decide)]
    simp only [trapTold, event, get_emit, get_set_same]
    rfl

/-- Settles O55. -/
theorem codeArrayOperations : Obligations.CodeArrayOperations := by
  unfold Obligations.CodeArrayOperations
  exact fun s hs w b =>
    ⟨fun x off data hw ht ho hz => ⟨completes_carSuspend hs hw ht ho hz, completes_carResume hs hw ht ho hz⟩,
      fun x ho hx hword => ⟨completes_programEnd hs ho hx hword, completes_eraseEnd hs ho hx hword,
        fun _ => completes_opFailed hs ho hx⟩,
      fun off e ht => ⟨completes_statusRead hs ht, completes_idRead hs ht,
        fun hst hmode hbad htally hown hc => ⟨completes_dataRead hs ht hst hmode htally hbad hown hc,
          completes_lostRead hs ht hst hmode htally⟩⟩,
      completes_fetchTrap hs b⟩

end Sys2Proof.Machine
end

section
/-! SUPPORT. The injection key, arming and disarming (R88 to R90). -/

namespace Sys2Proof.Machine
set_option Elab.async false

/-! ### Fields of any page that the end of a command leaves alone -/

/-- A field at an offset in its page that no field of `settleKeys` has. -/
theorem notSettled_of_offset {f : Fld} (h : f.key % 131072 ∉ settleKeys.map (· % 131072)) : f.key ∉ settleKeys :=
  fun hf => h (List.mem_map_of_mem hf)

theorem key_offset {p o lo : Nat} (hlo : o * 32 + lo < 131072) (f : Fld) (ha : f.addr = 4096 * p + o) (hl : f.lo = lo) :
    f.key % 131072 = o * 32 + lo := by
  unfold Fld.key
  omega

theorem finj_settle (p : Nat) : (Reg.FINJ_SRC p).key ∉ settleKeys ∧ (Reg.FINJ_MODE p).key ∉ settleKeys ∧
    (Reg.FINJ_ACTIVE p).key ∉ settleKeys := by
  refine ⟨notSettled_of_offset ?_, notSettled_of_offset ?_, notSettled_of_offset ?_⟩
  · rw [key_offset (p := p) (o := 0x30) (lo := 0) (by decide) _ rfl rfl]
    decide
  · rw [key_offset (p := p) (o := 0x30) (lo := 6) (by decide) _ rfl rfl]
    decide
  · rw [key_offset (p := p) (o := 0x30) (lo := 10) (by decide) _ rfl rfl]
    decide

theorem werrLocked_settle (p : Nat) : (Reg.BLKWERR_LOCKED p).key ∉ settleKeys := by
  refine notSettled_of_offset ?_
  rw [key_offset (p := p) (o := 0x14) (lo := 1) (by decide) _ rfl rfl]
  decide

theorem live_not_settled (n : Nat) : (Reg.FLS.LIVE n).key ∉ settleKeys := by
  have hlow : ∀ k ∈ settleKeys.map (· % 131072), k < 0x208 * 32 ∨ 0x210 * 32 ≤ k := by decide
  refine notSettled_of_offset fun h => ?_
  have hoff := hlow _ h
  have hword : n % 64 / 32 < 2 := by omega
  have hbit : n % 32 < 32 := Nat.mod_lt _ (by decide)
  simp only [Fld.key, Reg.FLS.LIVE] at hoff
  generalize n % 64 / 32 = word at hoff hword
  generalize n % 32 = bit at hoff hbit
  omega

/-! ### The key (R89) -/

theorem completes_keyHalf {s : State} (hs : Ready s) {w : Writer} (hw : Reaches w 0x97100 0xF17A s) :
    Completes (.finjKeyWrite w 0xF17A) s fun t => t.flt.keyHalf = some w.code ∧ Changes [.flt] [] s t :=
  .leavesReached hs hw (k := writeKey w 0xF17A) rfl rfl hs.2 fun _ k =>
    ⟨congrArg Flt.keyHalf k.flt, ((Changes.begin _ _ s).in_flt _ (by simp)).ended k⟩

theorem completes_keyOpened {s : State} (hs : Ready s) {w : Writer} (hw : Reaches w 0x97100 0x0E85 s)
    (hhalf : s.flt.keyHalf = some w.code) :
    Completes (.finjKeyWrite w 0x0E85) s fun t =>
      get Reg.SAF.FINJ_KEY_OPEN t = 1 ∧ t.flt.keyLeft = 65536 ∧ Changes [.flt] [Reg.SAF.FINJ_KEY_OPEN] s t := by
  have hb : (begun s).flt.keyHalf = some w.code := hhalf
  refine .leavesReached hs hw (k := writeKey w 0x0E85) rfl
    (u := set Reg.SAF.FINJ_KEY_OPEN 1 { begun s with flt := { s.flt with keyHalf := none, keyLeft := 65536 } }) ?_ hs.2
    fun _ k => ⟨k.stored (by decide) (get_set_same _ _ _), congrArg Flt.keyLeft k.flt,
      (((Changes.begin _ _ s).in_flt _ (by simp)).set _ _ (by simp)).ended k⟩
  unfold writeKey
  rw [if_neg (by decide), if_neg (by decide), if_pos (by simpa using hb)]

theorem changes_closeKey (s : State) : Changes [.flt] [Reg.SAF.FINJ_KEY_OPEN] s (closeKey s) :=
  ((Changes.refl _ _ s).in_flt _ (by simp)).set _ _ (by simp)

theorem completes_keyClosed {s : State} (hs : Ready s) {w : Writer} (hw : Reaches w 0x97100 0 s) :
    Completes (.finjKeyWrite w 0) s fun t =>
      get Reg.SAF.FINJ_KEY_OPEN t = 0 ∧ t.flt.keyHalf = none ∧ Changes [.flt] [Reg.SAF.FINJ_KEY_OPEN] s t :=
  .leavesReached hs hw (k := writeKey w 0) rfl (u := closeKey (begun s)) rfl hs.2 fun _ k =>
    ⟨k.stored (by decide) (get_set_same _ _ _), congrArg Flt.keyHalf k.flt,
      ((Changes.begin _ _ s).trans (changes_closeKey _)).ended k⟩

theorem completes_keyTimeout {s : State} (hs : Ready s) (ho : isSet Reg.SAF.FINJ_KEY_OPEN s = true)
    (hl : s.flt.keyLeft = 0) :
    Completes .finjKeyTimeout s fun t =>
      get Reg.SAF.FINJ_KEY_OPEN t = 0 ∧ Changes [.flt] [Reg.SAF.FINJ_KEY_OPEN] s t := by
  have hob : isSet Reg.SAF.FINJ_KEY_OPEN (begun s) = true := ho
  have hlb : (begun s).flt.keyLeft = 0 := hl
  exact .leaves hs rfl (u := closeKey (begun s)) (if_pos (by simpa [hob] using hlb)) hs.2 fun _ k =>
    ⟨k.stored (by decide) (get_set_same _ _ _), ((Changes.begin _ _ s).trans (changes_closeKey _)).ended k⟩

/-! ### ARM (R89, R90) -/

/-- The value that a write of `FINJ` with ARM carries, field by field. -/
theorem armValue {src m v : Nat} (hsrc : src < 64) (hm : m < 4) (hv : v = src + m * 64 + 256) :
    bitsOf v 0 6 = src ∧ bitsOf v 6 2 = m ∧ bitOf v 8 = true ∧ bitOf v 9 = false := by
  unfold bitsOf bitOf
  refine ⟨by omega, by omega, ?_, ?_⟩
  · rw [beq_iff_eq]
    omega
  · rw [beq_eq_false_iff_ne]
    omega

/-- SRC and MODE as a write of `FINJ` leaves them. -/
def finjChosen (p src m : Nat) (s : State) : State := s |> set (Reg.FINJ_SRC p) src |> set (Reg.FINJ_MODE p) m

theorem finj_keys (p : Nat) : (Reg.FINJ_SRC p).key ≠ (Reg.FINJ_MODE p).key ∧
    (Reg.FINJ_SRC p).key ≠ (Reg.FINJ_ACTIVE p).key ∧ (Reg.FINJ_MODE p).key ≠ (Reg.FINJ_ACTIVE p).key := by
  simp [Fld.key, Reg.FINJ_SRC, Reg.FINJ_MODE, Reg.FINJ_ACTIVE]

/-- A write of `FINJ` with ARM, where the page takes it. -/
theorem writeFinj_arm {w : Writer} {p src m v : Nat} {s : State} (hsrc : src < 64) (hm : m < 3)
    (hv : v = src + m * 64 + 256) (hlock : isSet (Reg.LOCK_LOCK p) s = false) (hfence : fenced s = false) :
    writeFinj w p v s = armInjection w p (finjChosen p src m s) := by
  obtain ⟨h0, h6, h8, h9⟩ := armValue hsrc (by omega) hv
  unfold writeFinj finjOpen
  rw [if_neg (ne_true_of_eq_false hlock), if_neg (ne_true_of_eq_false hfence)]
  simp only [h0, h6, h8, h9, when_true, when_false, if_neg (show m ≠ 3 by omega)]
  rfl

/-- With the key open the source that SRC names is armed as MODE selects. -/
theorem armInjection_open {w : Writer} {p src m n : Nat} {s : State} (hsrc : src < 64) (hm : m < 4)
    (hkey : isSet Reg.SAF.FINJ_KEY_OPEN s = true) (hn : pageSource p src = some n) :
    armInjection w p (finjChosen p src m s) = startInjection p n m (finjChosen p src m s) := by
  obtain ⟨hsm, -, -⟩ := finj_keys p
  have hs : get (Reg.FINJ_SRC p) (finjChosen p src m s) = src :=
    (get_set_other _ _ hsm).trans ((get_set_same _ _ _).trans (Nat.mod_eq_of_lt hsrc))
  have hmode : get (Reg.FINJ_MODE p) (finjChosen p src m s) = m :=
    (get_set_same _ _ _).trans (Nat.mod_eq_of_lt hm)
  have hopen : isSet Reg.SAF.FINJ_KEY_OPEN (finjChosen p src m s) = true := by
    have hk : Reg.SAF.FINJ_KEY_OPEN.key ≠ (Reg.FINJ_SRC p).key ∧ Reg.SAF.FINJ_KEY_OPEN.key ≠ (Reg.FINJ_MODE p).key := by
      simp [Fld.key, Reg.SAF.FINJ_KEY_OPEN, Reg.FINJ_SRC, Reg.FINJ_MODE]
      omega
    exact (isSet_set_other _ _ hk.2).trans ((isSet_set_other _ _ hk.1).trans hkey)
  unfold armInjection
  rw [if_neg (by simp [hopen]), hs, hn, hmode]

/-- A page without an injection has none to end. -/
theorem endInjection_of_none {p : Nat} {s : State} (h : ∀ j ∈ s.flt.injections, j.1 ≠ p) :
    endInjection p s = set (Reg.FINJ_ACTIVE p) 0 s := by
  have hkeep : s.flt.injections.filter (fun j => j.1 != p) = s.flt.injections :=
    List.filter_eq_self.2 fun j hj => by simpa using h j hj
  have hheld : s.flt.injections.filter (fun j => j.1 == p && j.2.2 == 1) = [] :=
    List.filter_eq_nil_iff.2 fun j hj => by simp [h j hj]
  unfold endInjection
  simp only [hkeep, hheld, forEach_nil]

/-- The state in which an injection of a page is armed. -/
def armed (p n m src : Nat) (s : State) : State :=
  { set (Reg.FINJ_ACTIVE p) 0 (finjChosen p src m s) with
    flt := { s.flt with injections := s.flt.injections ++ [(p, n, m)] } } |> set (Reg.FINJ_ACTIVE p) 1

theorem startInjection_armed {p n m src : Nat} {s : State} (h : ∀ j ∈ s.flt.injections, j.1 ≠ p) (hm : m ≠ 0) :
    startInjection p n m (finjChosen p src m s) = when (m == 1) (injectRaise n true) (armed p n m src s) := by
  unfold startInjection
  rw [endInjection_of_none (s := finjChosen p src m s) h]
  exact if_neg hm

theorem changes_armed (p n m src : Nat) (s : State) :
    Changes [.flt] [Reg.FINJ_SRC p, Reg.FINJ_MODE p, Reg.FINJ_ACTIVE p] s (armed p n m src s) :=
  (((((Changes.refl _ _ s).set _ _ (by simp)).set _ _ (by simp)).set _ _ (by simp)).in_flt _ (by simp)).set _ _
      (by simp)

theorem completes_armNext {s : State} (hs : Ready s) {w : Writer} {page : BitVec 12} {src : BitVec 6} {n : Nat}
    (hw : Reaches w (finjAddr page.toNat) (src.toNat + 2 * 64 + 256) s)
    (hlock : isSet (Reg.LOCK_LOCK page.toNat) s = false) (hfence : fenced s = false)
    (hkey : isSet Reg.SAF.FINJ_KEY_OPEN s = true) (hn : pageSource page.toNat src.toNat = some n)
    (hnone : ∀ j ∈ s.flt.injections, j.1 ≠ page.toNat) :
    Completes (.finjArm w page src 2) s fun t =>
      get (Reg.FINJ_ACTIVE page.toNat) t = 1 ∧ t.flt.injections = s.flt.injections ++ [(page.toNat, n, 2)] ∧
      Changes [.flt] [Reg.FINJ_SRC page.toNat, Reg.FINJ_MODE page.toNat, Reg.FINJ_ACTIVE page.toNat] s t := by
  have he : writeFinj w page.toNat (src.toNat + 2 * 64 + 256) (begun s) = armed page.toNat n 2 src.toNat (begun s) :=
    (writeFinj_arm (s := begun s) (m := 2) src.isLt (by decide) rfl hlock hfence).trans
      ((armInjection_open (s := begun s) src.isLt (by decide) hkey hn).trans
        (startInjection_armed (s := begun s) hnone (by decide)))
  exact .leavesReached hs hw (k := writeFinj w page.toNat (src.toNat + 2 * 64 + 256)) rfl he hs.2 fun t k =>
    ⟨k.stored (finj_settle _).2.2 (get_set_same _ _ _), congrArg Flt.injections k.flt,
      ((Changes.begin _ _ s).trans (changes_armed _ _ _ _ _)).ended k⟩

theorem changes_werrLocked (w : Writer) (addr : Nat) (s : State) :
    Changes [] [Reg.BLKWERR_LOCKED (addr / 4096), Reg.BLKWERR_OFFSET (addr / 4096), Reg.BLKWERR_SOURCE (addr / 4096)] s
      (werrLocked w addr s) :=
  (((Changes.refl _ _ s).set _ _ (by simp)).set _ _ (by simp)).set _ _ (by simp)

theorem get_werrLocked (w : Writer) (addr : Nat) (s : State) :
    get (Reg.BLKWERR_LOCKED (addr / 4096)) (werrLocked w addr s) = 1 := by
  unfold werrLocked werr
  rw [get_set_other _ _ (by simp [Fld.key, Reg.BLKWERR_LOCKED, Reg.BLKWERR_SOURCE]),
    get_set_other _ _ (by simp [Fld.key, Reg.BLKWERR_LOCKED, Reg.BLKWERR_OFFSET]), get_set_same]
  rfl

/-- SRC and MODE as a write of `FINJ` leaves them, with the reserved MODE refused. -/
def finjWritten (w : Writer) (p src m : Nat) (s : State) : State :=
  if m = 3 then werrRange w (finjAddr p) (set (Reg.FINJ_SRC p) src s) else finjChosen p src m s

theorem keyOpen_finjWritten (w : Writer) (p src m : Nat) (s : State) :
    isSet Reg.SAF.FINJ_KEY_OPEN (finjWritten w p src m s) = isSet Reg.SAF.FINJ_KEY_OPEN s := by
  have hk : ∀ o lo, o < 0x100 → lo < 32 → ∀ q, Reg.SAF.FINJ_KEY_OPEN.key ≠ (4096 * q + o) * 32 + lo :=
      fun o lo ho hlo q => by
    simp only [Fld.key, Reg.SAF.FINJ_KEY_OPEN]
    omega
  have hsrc : isSet Reg.SAF.FINJ_KEY_OPEN (set (Reg.FINJ_SRC p) src s) = isSet Reg.SAF.FINJ_KEY_OPEN s :=
    isSet_set_other _ _ (hk 0x30 0 (by decide) (by decide) p)
  unfold finjWritten
  split
  · unfold werrRange werr
    exact (isSet_set_other _ _ (hk 0x14 28 (by decide) (by decide) _)).trans ((isSet_set_other _ _
      (hk 0x14 16 (by decide) (by decide) _)).trans ((isSet_set_other _ _ (hk 0x14 2 (by decide)
          (by decide) _)).trans hsrc))
  · exact (isSet_set_other _ _ (hk 0x30 6 (by decide) (by decide) p)).trans hsrc

theorem finjWritten_flt (w : Writer) (p src m : Nat) (s : State) :
    (finjWritten w p src m s).flt = s.flt ∧ (finjWritten w p src m s).reqs = s.reqs := by
  unfold finjWritten
  split <;> exact ⟨rfl, rfl⟩

/-- With the key closed nothing is armed, and the write is refused as locked (R89). -/
theorem completes_armLocked {s : State} (hs : Ready s) {w : Writer} {page : BitVec 12} {src : BitVec 6}
    {mode : BitVec 2}
    (hw : Reaches w (finjAddr page.toNat) (src.toNat + mode.toNat * 64 + 256) s)
    (hlock : isSet (Reg.LOCK_LOCK page.toNat) s = false) (hfence : fenced s = false)
    (hkey : isSet Reg.SAF.FINJ_KEY_OPEN s = false) :
    Completes (.finjArm w page src mode) s fun t =>
      get (Reg.BLKWERR_LOCKED page.toNat) t = 1 ∧ t.flt = s.flt := by
  obtain ⟨h0, h6, h8, h9⟩ := armValue (v := src.toNat + mode.toNat * 64 + 256) src.isLt mode.isLt rfl
  have he : writeFinj w page.toNat (src.toNat + mode.toNat * 64 + 256) (begun s) =
      werrLocked w (finjAddr page.toNat) (finjWritten w page.toNat src.toNat mode.toNat (begun s)) := by
    unfold writeFinj finjOpen
    rw [if_neg (ne_true_of_eq_false (show isSet (Reg.LOCK_LOCK page.toNat) (begun s) = false from hlock)),
      if_neg (ne_true_of_eq_false (show fenced (begun s) = false from hfence))]
    simp only [h0, h6, h8, h9, when_true, when_false]
    refine if_pos ?_
    have hopen := keyOpen_finjWritten w page.toNat src.toNat mode.toNat (begun s)
    rw [show isSet Reg.SAF.FINJ_KEY_OPEN (begun s) = false from hkey] at hopen
    simpa [finjWritten, finjChosen] using hopen
  obtain ⟨hflt, hreqs⟩ := finjWritten_flt w page.toNat src.toNat mode.toNat (begun s)
  have hpage : finjAddr page.toNat / 4096 = page.toNat := by
    unfold finjAddr
    omega
  have hget := get_werrLocked w (finjAddr page.toNat) (finjWritten w page.toNat src.toNat mode.toNat (begun s))
  rw [hpage] at hget
  refine .leavesReached hs hw (k := writeFinj w page.toNat (src.toNat + mode.toNat * 64 + 256)) rfl he
    (hreqs.trans hs.2) fun t k => ⟨k.stored (werrLocked_settle _) hget, k.flt.trans ?_⟩
  exact ((changes_werrLocked _ _ _).flt (by simp)).trans hflt

/-! ### DISARM (R90) -/

theorem live_offset (n : Nat) : 0x208 * 32 ≤ (Reg.FLS.LIVE n).key % 131072 := by
  have hword : n % 64 / 32 < 2 := by omega
  have hbit : n % 32 < 32 := Nat.mod_lt _ (by decide)
  simp only [Fld.key, Reg.FLS.LIVE]
  generalize n % 64 / 32 = word at hword
  generalize n % 32 = bit at hbit
  omega

/-- The fall of another live bit leaves a live bit that is 0 at 0. -/
theorem dead_liveFall {n : Nat} (m : Nat) {s : State} (h : isSet (Reg.FLS.LIVE n) s = false) :
    isSet (Reg.FLS.LIVE n) (liveFall m s) = false := by
  by_cases hk : (Reg.FLS.LIVE n).key = (Reg.FLS.LIVE m).key
  · have hf : Reg.FLS.LIVE n = Reg.FLS.LIVE m := by
      unfold Fld.key Reg.FLS.LIVE at hk
      unfold Reg.FLS.LIVE
      have h1 : n % 32 < 32 := Nat.mod_lt _ (by decide)
      have h2 : m % 32 < 32 := Nat.mod_lt _ (by decide)
      generalize n % 32 = i at hk h1
      generalize m % 32 = j at hk h2
      generalize 0x91000 + 4096 * (n / 64) + 0x208 + 4 * (n % 64 / 32) = a at hk
      generalize 0x91000 + 4096 * (m / 64) + 0x208 + 4 * (m % 64 / 32) = b at hk
      simp only at hk
      obtain ⟨rfl, rfl⟩ : a = b ∧ i = j := by omega
      rfl
    rw [hf]
    exact live_liveFall m s
  · have hfirst : (Reg.FLS.LIVE n).key ≠ Reg.FLT.FIRST_ID_FIRST_SELF_CLEARED.key := fun he =>
      absurd (live_offset n) (by rw [he]; decide)
    have hevent : (Reg.FLS.LIVE n).key ≠ (Reg.EVT_STS 0x90 2).key := fun he =>
      absurd (live_offset n) (by rw [he]; decide)
    unfold liveFall
    split
    · exact h
    · exact when_keeps (fun u => isSet (Reg.FLS.LIVE n) u = false) _ _ _ ((isSet_set_other _ _ hk).trans h)
        fun hu => (isSet_set_other _ _ hevent).trans ((isSet_set_other _ _ hfirst).trans hu)

theorem dead_after_falls {n : Nat} (l : List (Nat × Nat × Nat)) (s : State)
    (h : n ∈ l.map (·.2.1) ∨ isSet (Reg.FLS.LIVE n) s = false) :
    isSet (Reg.FLS.LIVE n) (forEach l (fun j => liveFall j.2.1) s) = false := by
  induction l generalizing s with
  | nil => exact h.resolve_left (by simp)
  | cons j l ih =>
    rw [forEach_cons]
    refine ih _ ?_
    rcases h with h | h
    · rcases List.mem_cons.1 (List.map_cons ▸ h) with rfl | h
      · exact .inr (live_liveFall _ _)
      · exact .inl h
    · exact .inr (dead_liveFall _ h)

theorem endInjection_flt (p : Nat) (s : State) :
    (endInjection p s).flt = { s.flt with injections := s.flt.injections.filter (fun j => j.1 != p) } :=
  forEach_keeps (fun u => u.flt = { s.flt with injections := s.flt.injections.filter (fun j => j.1 != p) }) _ _ _ rfl
    fun j _ u hu => ((changes_liveFall j.2.1 u).flt (by simp)).trans hu

theorem completes_disarm {s : State} (hs : Ready s) {w : Writer} {page : BitVec 12}
    (hw : Reaches w (finjAddr page.toNat) 512 s) (hlock : isSet (Reg.LOCK_LOCK page.toNat) s = false)
    (hfence : fenced s = false) :
    Completes (.finjDisarm w page) s fun t =>
      get (Reg.FINJ_ACTIVE page.toNat) t = 0 ∧
      t.flt.injections = s.flt.injections.filter (fun j => j.1 != page.toNat) ∧
      ∀ n, (page.toNat, n, 1) ∈ s.flt.injections → isSet (Reg.FLS.LIVE n) t = false := by
  have he : finjOpen w page.toNat (endInjection page.toNat) (begun s) = endInjection page.toNat (begun s) := by
    unfold finjOpen
    rw [if_neg (ne_true_of_eq_false (show isSet (Reg.LOCK_LOCK page.toNat) (begun s) = false from hlock)),
      if_neg (ne_true_of_eq_false (show fenced (begun s) = false from hfence))]
  refine .leavesReached hs hw (k := finjOpen w page.toNat (endInjection page.toNat)) rfl he
    ((endInjection_reqsOf _ _).trans hs.2) fun t k => ⟨k.stored (finj_settle _).2.2 (get_set_same _ _ _), ?_,
        fun n hn => ?_⟩
  · rw [k.flt, endInjection_flt]
  · have hactive : (Reg.FLS.LIVE n).key ≠ (Reg.FINJ_ACTIVE page.toNat).key := fun he => by
      have hoff := live_offset n
      rw [he, key_offset (p := page.toNat) (o := 0x30) (lo := 10) (by decide) _ rfl rfl] at hoff
      exact absurd hoff (by decide)
    refine isSet_keeps k (live_not_settled n) ((isSet_set_other _ _ hactive).trans (dead_after_falls _ _ (.inl ?_)))
    exact List.mem_map.2 ⟨(page.toNat, n, 1), List.mem_filter.2 ⟨hn, by simp⟩, rfl⟩

/-! ### A held injection (R90, R400) -/

theorem finj_source (p : Nat) {n : Nat} (hn : n < 384) {f : Fld} (hf : f ∈ sourceCard n) :
    f.key ∉ [Reg.FINJ_SRC p, Reg.FINJ_MODE p, Reg.FINJ_ACTIVE p].map Fld.key := by
  have hcard : ∀ k : Fin 384, ∀ f ∈ sourceCard k, 0x100 * 32 ≤ f.key % 131072 := by decide +kernel
  have hoff := hcard ⟨n, hn⟩ f hf
  intro hk
  simp only [List.map_cons, List.map_nil, List.mem_cons, List.not_mem_nil, or_false] at hk
  rcases hk with hk | hk | hk
  · rw [hk, key_offset (p := p) (o := 0x30) (lo := 0) (by decide) _ rfl rfl] at hoff
    exact absurd hoff (by decide)
  · rw [hk, key_offset (p := p) (o := 0x30) (lo := 6) (by decide) _ rfl rfl] at hoff
    exact absurd hoff (by decide)
  · rw [hk, key_offset (p := p) (o := 0x30) (lo := 10) (by decide) _ rfl rfl] at hoff
    exact absurd hoff (by decide)

/-- What a raise changes is no field of an injection. -/
theorem active_raise (p : Nat) {n : Nat} (hn : n < 384) : (Reg.FINJ_ACTIVE p).key ∉ (raiseFields n).map Fld.key := by
  have hfields : ∀ k : Fin 384, 0x30 * 32 + 10 ∉ ((raiseFields k).map Fld.key).map (· % 131072) := by decide +kernel
  intro hk
  refine hfields ⟨n, hn⟩ ?_
  rw [← key_offset (p := p) (o := 0x30) (lo := 10) (by decide) (Reg.FINJ_ACTIVE p) rfl rfl]
  exact List.mem_map_of_mem hk

/-- The fields of the budget, and of the persistence of a module whose budget is 0 (R48). -/
def budgetFields : List Fld := [Reg.LEH.BUDGET_EFF_GRAN, Reg.SYS.PERSIST_BUDGET]

theorem changes_zeroBudget (s : State) : Changes [.mrv] budgetFields s (zeroBudget s) :=
  (((Changes.refl _ _ s).in_mrv _ (by simp)).set _ _ (by simp [budgetFields])).set _ _ (by simp [budgetFields])

theorem budget_source {n : Nat} (hn : n < 384) {f : Fld} (hf : f ∈ sourceCard n) : f.key ∉ budgetFields.map Fld.key :=
    by
  have h : ∀ k : Fin 384, ∀ f ∈ sourceCard k, f.key ∉ budgetFields.map Fld.key := by decide +kernel
  exact h ⟨n, hn⟩ f hf

theorem active_budget (p : Nat) : (Reg.FINJ_ACTIVE p).key ∉ budgetFields.map Fld.key := by
  intro hk
  have hoff := List.mem_map_of_mem (f := (· % 131072)) hk
  rw [key_offset (p := p) (o := 0x30) (lo := 10) (by decide) (Reg.FINJ_ACTIVE p) rfl rfl] at hoff
  exact absurd hoff (by decide)

/-- A held injection raises its source, which stays live; the injection stays armed (R90, R400). -/
theorem injectRaise_held {p n : Nat} {s : State} (hn : n < 384) (hr : srcReserved n = false) (hf : Fresh n s) :
    get (Reg.FLS.LIVE n) (injectRaise n true s) = 1 ∧ Raised n s (injectRaise n true s) ∧
      get (Reg.FINJ_ACTIVE p) (injectRaise n true s) = get (Reg.FINJ_ACTIVE p) s ∧
      (injectRaise n true s).flt.injections = s.flt.injections ∧ (injectRaise n true s).reqs = s.reqs := by
  have hlive : get (Reg.FLS.LIVE n) (raise { n := n, injected := true, hold := true } s) = 1 := by
    rw [raise_of_fresh (x := { n := n, injected := true, hold := true }) hf hr]
    exact (get_tellRaise (x := { n := n, injected := true, hold := true }) hf.2 hn (by simp [sourceFields])).trans
      (get_live_mark n s)
  have hraise := changes_raise (x := { n := n, injected := true, hold := true }) hf.2
  have hraised := raised_raise (x := { n := n, injected := true, hold := true }) hf hr hn
  have hcalm := raise_calm (x := { n := n, injected := true, hold := true }) hf.2
  generalize hu : raise { n := n, injected := true, hold := true } s = u at hlive hraise hraised hcalm
  have hb : Changes [.mrv] budgetFields u (injectRaise n true s) := by
    unfold injectRaise
    rw [hu]
    exact (Changes.refl _ _ u).cond _ _ fun v hv => hv.trans (changes_zeroBudget v)
  have hcard := hb.source hn fun f hf => budget_source hn hf
  refine ⟨(hcard _ (by simp [sourceCard, sourceFields])).trans hlive, hcard.stays hraised,
    (hb.regs _ (active_budget p) (finj_settle p).2.2).trans (hraise.regs _ (active_raise p hn) (finj_settle p).2.2), ?_,
    hb.reqs.trans hraise.reqs⟩
  rw [hb.flt (by simp)]
  exact congrArg (fun c : Pwr × Sav × Flt => c.2.2.injections) hcalm

theorem completes_armHeld {s : State} (hs : Ready s) {w : Writer} {page : BitVec 12} {src : BitVec 6} {n : Nat}
    (hw : Reaches w (finjAddr page.toNat) (src.toNat + 64 + 256) s)
    (hlock : isSet (Reg.LOCK_LOCK page.toNat) s = false) (hfence : fenced s = false)
    (hkey : isSet Reg.SAF.FINJ_KEY_OPEN s = true) (hsrc : pageSource page.toNat src.toNat = some n)
    (hnone : ∀ j ∈ s.flt.injections, j.1 ≠ page.toNat) (hr : srcReserved n = false) (hn : n < 384) (hf : Fresh n s) :
    Completes (.finjArm w page src 1) s fun t =>
      get (Reg.FLS.LIVE n) t = 1 ∧ get (Reg.FLS.STICKY n) t = 1 ∧
      get (Reg.FLS.SRC_CFG_COUNT n) t = satAdd (2 ^ (Reg.FLS.SRC_CFG_COUNT n).w - 1) (get
          (Reg.FLS.SRC_CFG_COUNT n) s) 1 ∧
      get (Reg.FINJ_ACTIVE page.toNat) t = 1 ∧ (page.toNat, n, 1) ∈ t.flt.injections := by
  have he : writeFinj w page.toNat (src.toNat + 64 + 256) (begun s) =
      injectRaise n true (armed page.toNat n 1 src.toNat (begun s)) :=
    (writeFinj_arm (s := begun s) (m := 1) src.isLt (by decide) rfl hlock hfence).trans
      ((armInjection_open (s := begun s) src.isLt (by decide) hkey hsrc).trans
        (startInjection_armed (s := begun s) hnone (by decide)))
  have harm := (Changes.begin _ _ s).trans (changes_armed page.toNat n 1 src.toNat (begun s))
  have hcard := harm.source hn fun f hf => finj_source page.toNat hn hf
  obtain ⟨hlive, hraised, hactive, hinj, hreqs⟩ := injectRaise_held (p := page.toNat) hn hr (hcard.fresh hf)
  obtain ⟨hsticky, hcount⟩ := hcard.raised hraised
  refine .leavesReached hs hw (k := writeFinj w page.toNat (src.toNat + 64 + 256)) rfl he
    (hreqs.trans (harm.reqs.trans hs.2)) fun t k => ⟨k.stored (live_not_settled n) hlive,
      k.stored (source_settle hn (by simp [sourceFields])) hsticky,
      k.stored (source_settle hn (by simp [sourceFields])) hcount,
      k.stored (finj_settle _).2.2 (hactive.trans (get_set_same _ _ _)), ?_⟩
  rw [k.flt, hinj]
  exact List.mem_append_right _ (List.mem_singleton.2 rfl)

/-- Settles O8. -/
theorem injectionCommands : Obligations.InjectionCommands := by
  unfold Obligations.InjectionCommands
  exact ⟨fun s hs w => ⟨completes_keyHalf hs, completes_keyOpened hs, completes_keyClosed hs, completes_keyTimeout hs,
      fun page src n hw hlock hfence hkey hn hnone => completes_armNext hs hw hlock hfence hkey hn hnone,
      fun page src mode hw hlock hfence hkey => completes_armLocked hs hw hlock hfence hkey,
      fun page hw hlock hfence => completes_disarm hs hw hlock hfence⟩,
    fun s w page src n hs hw hlock hfence hkey hsrc hnone hr hn hf =>
      completes_armHeld hs hw hlock hfence hkey hsrc hnone hr hn hf⟩

end Sys2Proof.Machine
end

section
/-! SUPPORT. What a fresh raise shows of the first error, of its severity and of its reactions (R400 to R408). -/

namespace Sys2Proof.Machine
set_option Elab.async false

/-! ### A fresh raise in its stages -/

/-- The fixed effects of a severity, and the first-error latch (R402, R407). -/
def latched (x : Raise) (before s : State) : State :=
  s |> when (3 ≤ raiseSev x.n before) (set Reg.SYS.PERSIST_FAULT 1) |> latchFirst x (raiseSev x.n before)

/-- The record of a fault, and its reactions or their wait (R403, R404). -/
def followed (x : Raise) (before s : State) : State :=
  s |> when (2 ≤ raiseSev x.n before) (faultRecord x.n (raiseSev x.n before) x.injected (snap0Of x) x.snap2 x.snap3)
    |> (fun s =>
        if reactionsWait s then
          { s with sav := { s.sav with waitingActs := s.sav.waitingActs ++
              [(x.n, get (Reg.FLS.SRC_CFG_ACT x.n) before, x.snap2)] } }
        else react x.n (get (Reg.FLS.SRC_CFG_ACT x.n) before) x.snap2 s)

theorem tellRaise_eq (x : Raise) (before s : State) : tellRaise x before s = followed x before
    (latched x before s) := rfl

/-- The fields that reactions without a reset change. -/
def reactFields (n : Nat) : List Fld :=
  [Reg.EVT_STS (0x91 + n / 64) 0, Reg.FLT.PINCTL_LEVEL, Reg.FLT.PINCTL_PULSE, Reg.FLT.PINCTL_PIN,
    Reg.FLT.PIN_COUNT_COUNT, Reg.EVT_STS 0x90 3]

theorem changes_pinPulse {n : Nat} (s : State) : Changes [.pwr] (reactFields n) s (pinPulse s) :=
  ((((((Changes.refl _ _ s).in_pwr _ (by simp)).set _ _ (by simp [reactFields])).set _ _
      (by simp [reactFields])).set _ _
    (by simp [reactFields])).inc _ (by simp [reactFields])).event _ _ (by simp [reactFields])

theorem changes_react {n act snap2 : Nat} (s : State) (hblock : bitOf act actBlockReset = false)
    (hchip : bitOf act actChipReset = false) : Changes [.pwr] (reactFields n) s (react n act snap2 s) := by
  unfold react
  simp only [hblock, hchip, when_false]
  exact Changes.cond (Changes.cond (Changes.cond (Changes.cond (Changes.refl _ _ s) _ _ fun u hu => hu.event _ _
      (by simp [reactFields]))
    _ _ fun u hu => hu.emit _) _ _ fun u hu => hu.emit _) _ _ fun u hu => hu.trans (changes_pinPulse u)

theorem changes_followed {x : Raise} {before s : State} (hc : Calm x.n before) :
    Changes [.gq, .pwr, .sav] (recordFields 0 ++ reactFields x.n) s (followed x before s) := by
  obtain ⟨-, -, hblock, hchip⟩ := hc
  have hrecord : Changes [.gq, .pwr, .sav] (recordFields 0 ++ reactFields x.n) s (when (2 ≤ raiseSev x.n before)
      (faultRecord x.n (raiseSev x.n before) x.injected (snap0Of x) x.snap2 x.snap3) s) :=
    (Changes.refl _ _ s).cond _ _ fun u hu => hu.pushRecord (by decide) (by simp) (by simp +contextual) _
  exact Changes.branch _ (hrecord.in_sav _ (by simp))
    (hrecord.trans ((changes_react _ hblock hchip).mono (by simp) (by simp +contextual)))

/-! ### The first error (R407) -/

/-- What a raise shows beside its source, its record and its reactions, but for FIRST_SELF_CLEARED. -/
def firstFields : List Fld :=
  [Reg.SYS.PERSIST_FAULT, Reg.FLT.FIRST_ID_ID, Reg.FLT.FIRST_ID_SEV, Reg.FLT.FIRST_ID_VALID,
      Reg.FLT.FIRST_FRAME_LO_FRAME,
    Reg.FLT.FIRST_FRAME_HI_FRAME, Reg.FLT.FIRST_SNAP_DATA 0, Reg.FLT.FIRST_SNAP_DATA 1, Reg.FLT.FIRST_SNAP_DATA 2,
    Reg.FLT.FIRST_SNAP_DATA 3, Reg.EVT_STS 0x90 0, Reg.FLT.OVF_OVF, Reg.FLT.OVF_COUNT_COUNT, Reg.EVT_STS 0x90 1]

theorem first_keys {n : Nat} (hn : n < 384) {f : Fld} (hf : f ∈ firstFields) :
    f.key ∉ (recordFields 0 ++ reactFields n).map Fld.key ∧ f.key ∉ (fallFields n).map Fld.key ∧
      f.key ∉ (sourceFields n).map Fld.key ∧ f.key ∉ settleKeys := by
  have h : ∀ k : Fin 384, ∀ f ∈ firstFields, f.key ∉ (recordFields 0 ++ reactFields k).map Fld.key ∧
      f.key ∉ (fallFields k).map Fld.key ∧ f.key ∉ (sourceFields k).map Fld.key ∧ f.key ∉ settleKeys := by
    decide +kernel
  exact h ⟨n, hn⟩ f hf

theorem changes_mark (n : Nat) (s : State) : Changes [] (sourceFields n) s (mark n s) :=
  (((Changes.refl _ _ s).set _ _ (by simp [sourceFields])).set _ _ (by simp [sourceFields])).inc _
      (by simp [sourceFields])

/-- After a fresh raise these fields are as the latch left them. -/
theorem get_raise_first {x : Raise} {s : State} (hf : Fresh x.n s) (hr : srcReserved x.n = false) (hn : x.n < 384)
    {f : Fld} (hm : f ∈ firstFields) : get f (raise x s) = get f (latched x s (mark x.n s)) := by
  obtain ⟨hreport, hfall, -, hset⟩ := first_keys hn hm
  rw [raise_of_fresh hf hr, tellRaise_eq]
  exact when_keeps (fun u => get f u = get f (latched x s (mark x.n s))) _ _ _
    ((changes_followed hf.2).regs f hreport hset) fun hu => (get_liveFall_other _ hfall hset).trans hu

theorem get_mark_first {n : Nat} (hn : n < 384) (s : State) {f : Fld} (hm : f ∈ firstFields) :
    get f (mark n s) = get f s := by
  obtain ⟨-, -, hsource, hset⟩ := first_keys hn hm
  exact (changes_mark n s).regs f hsource hset

/-- The latch with an error of its own, in a state that holds none (R407). -/
theorem latchFirst_empty {x : Raise} {sev : Nat} {s : State} (hsev : sev ≠ 0) (hv : isSet Reg.FLT.FIRST_ID_VALID s =
    false) :
    latchFirst x sev s = ({ s with flt := { s.flt with firstRead := false } }
      |> set Reg.FLT.FIRST_ID_ID x.n |> set Reg.FLT.FIRST_ID_SEV sev |> set Reg.FLT.FIRST_ID_VALID 1
      |> set Reg.FLT.FIRST_ID_FIRST_SELF_CLEARED 0
      |> set Reg.FLT.FIRST_FRAME_LO_FRAME (now s) |> set Reg.FLT.FIRST_FRAME_HI_FRAME (now s / 2 ^ 32 % 2 ^ 16)
      |> set (Reg.FLT.FIRST_SNAP_DATA 0) (snap0Of x) |> set (Reg.FLT.FIRST_SNAP_DATA 1) (s.frm.phase % 2 ^ 16)
      |> set (Reg.FLT.FIRST_SNAP_DATA 2) x.snap2 |> set (Reg.FLT.FIRST_SNAP_DATA 3) x.snap3
      |> event 0x90 0) := by
  unfold latchFirst
  rw [if_neg hsev, if_neg (ne_true_of_eq_false hv)]

theorem latchFirst_full {x : Raise} {sev : Nat} {s : State} (hsev : sev ≠ 0) (hv : isSet Reg.FLT.FIRST_ID_VALID s =
    true) :
    latchFirst x sev s = (s |> set Reg.FLT.OVF_OVF 1 |> inc Reg.FLT.OVF_COUNT_COUNT |> event 0x90 1) := by
  unfold latchFirst
  rw [if_neg hsev, if_pos hv]

section
variable {x : Raise} {s : State} (hf : Fresh x.n s) (hr : srcReserved x.n = false) (hn : x.n < 384)
include hf hr hn

omit hr hn in
theorem raiseSev_fresh : raiseSev x.n s = get (Reg.FLS.SRC_CFG_SEV x.n) s := if_neg hf.2.1

/-- The state in which the first error is latched. -/
def marked (x : Raise) (s : State) : State :=
  when (3 ≤ raiseSev x.n s) (set Reg.SYS.PERSIST_FAULT 1) (mark x.n s)

omit hr hf in
theorem get_marked {f : Fld} (hm : f ∈ firstFields) (hne : f.key ≠ Reg.SYS.PERSIST_FAULT.key) :
    get f (marked x s) = get f s :=
  when_keeps (fun u => get f u = get f s) _ _ _ (get_mark_first hn s hm) fun hu => (get_set_other _ _ hne).trans hu

omit hn hr hf in
theorem latched_eq : latched x s (mark x.n s) = latchFirst x (raiseSev x.n s) (marked x s) := rfl

/-- Severity 3 sets PERSIST.FAULT, and a lower one leaves it (R402). -/
theorem raise_fault : get Reg.SYS.PERSIST_FAULT (raise x s) =
    if 3 ≤ get (Reg.FLS.SRC_CFG_SEV x.n) s then 1 else get Reg.SYS.PERSIST_FAULT s := by
  have hm : Reg.SYS.PERSIST_FAULT ∈ firstFields := by simp [firstFields]
  have hlatch : ∀ sev u, get Reg.SYS.PERSIST_FAULT (latchFirst x sev u) = get Reg.SYS.PERSIST_FAULT u := fun sev u => by
    unfold latchFirst
    split
    · rfl
    · split
      · simp (disch := decide) only [event, get_set_other, get_inc_other]
      · simp (disch := decide) only [event, get_set_other]
        rfl
  rw [get_raise_first hf hr hn hm, latched_eq, hlatch, marked, raiseSev_fresh hf]
  split
  · rename_i h
    rw [decide_eq_true h, when_true, get_set_same]
    rfl
  · rename_i h
    rw [decide_eq_false h, when_false, get_mark_first hn s hm]

/-- The first error, where none is latched (R407). -/
theorem raise_latches (hsev : get (Reg.FLS.SRC_CFG_SEV x.n) s ≠ 0) (hv : isSet Reg.FLT.FIRST_ID_VALID s = false) :
    get Reg.FLT.FIRST_ID_ID (raise x s) = x.n ∧ get Reg.FLT.FIRST_ID_SEV (raise x s) = get (Reg.FLS.SRC_CFG_SEV x.n) s ∧
      get Reg.FLT.FIRST_ID_VALID (raise x s) = 1 ∧ get Reg.FLT.FIRST_FRAME_LO_FRAME (raise x s) = now32 s ∧
      get (Reg.FLT.FIRST_SNAP_DATA 2) (raise x s) = x.snap2 % 2 ^ 32 ∧
      get (Reg.FLT.FIRST_SNAP_DATA 3) (raise x s) = x.snap3 % 2 ^ 32 ∧ get (Reg.EVT_STS 0x90 0) (raise x s) = 1 := by
  have hvm : isSet Reg.FLT.FIRST_ID_VALID (marked x s) = false := by
    rw [isSet, get_marked hn (by simp [firstFields]) (by decide)]
    exact hv
  have hnow : now (marked x s) = now s := when_keeps (fun u => now u = now s) _ _ _ rfl id
  have hlow := hf.2.2.1
  rw [get_raise_first hf hr hn (by simp [firstFields]), get_raise_first hf hr hn (by simp [firstFields]),
    get_raise_first hf hr hn (by simp [firstFields]), get_raise_first hf hr hn (by simp [firstFields]),
    get_raise_first hf hr hn (by simp [firstFields]), get_raise_first hf hr hn (by simp [firstFields]),
    get_raise_first hf hr hn (by simp [firstFields]), latched_eq, raiseSev_fresh hf, latchFirst_empty hsev hvm]
  simp (disch := decide) only [event, get_set_other, get_set_same, hnow]
  exact ⟨Nat.mod_eq_of_lt (hn.trans (by decide)), Nat.mod_eq_of_lt (hlow.trans (by decide)), rfl, rfl, rfl, rfl, rfl⟩

/-- A further error only counts (R407). -/
theorem raise_overflows (hsev : get (Reg.FLS.SRC_CFG_SEV x.n) s ≠ 0) (hv : isSet Reg.FLT.FIRST_ID_VALID s = true) :
    get Reg.FLT.OVF_OVF (raise x s) = 1 ∧ get Reg.FLT.OVF_COUNT_COUNT (raise x s) = oneMore Reg.FLT.OVF_COUNT_COUNT s ∧
      get (Reg.EVT_STS 0x90 1) (raise x s) = 1 ∧
      ∀ f ∈ [Reg.FLT.FIRST_ID_ID, Reg.FLT.FIRST_ID_SEV, Reg.FLT.FIRST_FRAME_LO_FRAME, Reg.FLT.FIRST_FRAME_HI_FRAME,
        Reg.FLT.FIRST_SNAP_DATA 0, Reg.FLT.FIRST_SNAP_DATA 1, Reg.FLT.FIRST_SNAP_DATA 2, Reg.FLT.FIRST_SNAP_DATA 3],
        get f (raise x s) = get f s := by
  have hvm : isSet Reg.FLT.FIRST_ID_VALID (marked x s) = true := by
    rw [isSet, get_marked hn (by simp [firstFields]) (by decide)]
    exact hv
  have hfull : latched x s (mark x.n s) = _ := (latched_eq (x := x) (s := s)).trans
    (latchFirst_full (by rw [raiseSev_fresh hf]; exact hsev) hvm)
  have hcount := get_marked hn (x := x) (s := s) (f := Reg.FLT.OVF_COUNT_COUNT) (by simp [firstFields]) (by decide)
  refine ⟨?_, ?_, ?_, fun f hm => ?_⟩
  · rw [get_raise_first hf hr hn (by simp [firstFields]), hfull]
    simp (disch := decide) only [event, get_set_other, get_inc_other, get_set_same]
    rfl
  · rw [get_raise_first hf hr hn (by simp [firstFields]), hfull]
    simp (disch := decide) only [event, get_set_other, get_inc_same, hcount]
  · rw [get_raise_first hf hr hn (by simp [firstFields]), hfull]
    exact get_set_same _ _ _
  · have hkeys : ∀ f ∈ [Reg.FLT.FIRST_ID_ID, Reg.FLT.FIRST_ID_SEV, Reg.FLT.FIRST_FRAME_LO_FRAME,
        Reg.FLT.FIRST_FRAME_HI_FRAME, Reg.FLT.FIRST_SNAP_DATA 0, Reg.FLT.FIRST_SNAP_DATA 1, Reg.FLT.FIRST_SNAP_DATA 2,
        Reg.FLT.FIRST_SNAP_DATA 3], f ∈ firstFields ∧ f.key ∉ [Reg.SYS.PERSIST_FAULT, Reg.FLT.OVF_OVF,
          Reg.FLT.OVF_COUNT_COUNT, Reg.EVT_STS 0x90 1].map Fld.key ∧ f.key ∉ settleKeys := by decide +kernel
    obtain ⟨hfirst, hother, hset⟩ := hkeys f hm
    rw [get_raise_first hf hr hn hfirst, hfull]
    have hc : Changes [] [Reg.FLT.OVF_OVF, Reg.FLT.OVF_COUNT_COUNT, Reg.EVT_STS 0x90 1] (marked x s)
        (marked x s |> set Reg.FLT.OVF_OVF 1 |> inc Reg.FLT.OVF_COUNT_COUNT |> event 0x90 1) :=
      (((Changes.refl _ _ _).set _ _ (by simp)).inc _ (by simp)).event _ _ (by simp)
    exact (hc.regs f (fun h => hother (List.mem_cons_of_mem _ h)) hset).trans
      (get_marked hn hfirst fun h => hother (h ▸ List.mem_cons_self))

/-- Without a severity nothing is latched (R402). -/
theorem raise_unlatched (hsev : get (Reg.FLS.SRC_CFG_SEV x.n) s = 0) {f : Fld} (hm : f ∈ firstFields)
    (hne : f.key ≠ Reg.SYS.PERSIST_FAULT.key) : get f (raise x s) = get f s := by
  rw [get_raise_first hf hr hn hm, latched_eq, raiseSev_fresh hf, hsev]
  exact get_marked hn hm hne

omit hr in
/-- What the fall of the live bit meets: the source live, and its error the first one, not read. -/
theorem told_first (hr : srcReserved x.n = false) (hsev : get (Reg.FLS.SRC_CFG_SEV x.n) s ≠ 0)
    (hv : isSet Reg.FLT.FIRST_ID_VALID s = false) :
    isSet (Reg.FLS.LIVE x.n) (tellRaise x s (mark x.n s)) = true ∧
      get Reg.FLT.FIRST_ID_ID (tellRaise x s (mark x.n s)) = x.n ∧
      get Reg.FLT.FIRST_ID_VALID (tellRaise x s (mark x.n s)) = 1 ∧
      get Reg.FLT.FIRST_ID_FIRST_SELF_CLEARED (tellRaise x s (mark x.n s)) = 0 ∧
      (tellRaise x s (mark x.n s)).flt.firstRead = false := by
  have hheld : raise { x with hold := true } s = tellRaise x s (mark x.n s) :=
    raise_of_fresh (x := { x with hold := true }) hf hr
  obtain ⟨hid, -, hvalid, -⟩ := raise_latches (x := { x with hold := true }) hf hr hn hsev hv
  rw [hheld] at hid hvalid
  have hvm : isSet Reg.FLT.FIRST_ID_VALID (marked x s) = false := by
    rw [isSet, get_marked hn (by simp [firstFields]) (by decide)]
    exact hv
  have hempty : latched x s (mark x.n s) = _ := (latched_eq (x := x) (s := s)).trans
    (latchFirst_empty (by rw [raiseSev_fresh hf]; exact hsev) hvm)
  have hkey : ∀ k : Fin 384, Reg.FLT.FIRST_ID_FIRST_SELF_CLEARED.key ∉ (recordFields 0 ++ reactFields k).map Fld.key
      := by
    decide +kernel
  refine ⟨?_, hid, hvalid, ?_, ?_⟩
  · rw [isSet, get_tellRaise hf.2 hn (by simp [sourceFields]), get_live_mark]
    rfl
  · rw [tellRaise_eq, (changes_followed hf.2).regs _ (hkey ⟨x.n, hn⟩) (by decide), hempty]
    simp (disch := decide) only [event, get_set_other, get_set_same]
    rfl
  · rw [tellRaise_eq, (changes_followed hf.2).flt (by simp), hempty]
    rfl

/-- FIRST_SELF_CLEARED shows whether the condition of the first error was gone at once (R408). -/
theorem raise_selfCleared (hsev : get (Reg.FLS.SRC_CFG_SEV x.n) s ≠ 0) (hv : isSet Reg.FLT.FIRST_ID_VALID s = false) :
    get Reg.FLT.FIRST_ID_FIRST_SELF_CLEARED (raise x s) = b2n (!x.hold) := by
  obtain ⟨hlive, hid, hvalid, hself, hread⟩ := told_first hf hn hr hsev hv
  rw [raise_of_fresh hf hr]
  cases x.hold
  case true => exact hself
  case false =>
    have hset : isSet Reg.FLT.FIRST_ID_VALID (tellRaise x s (mark x.n s)) = true := by rw [isSet, hvalid]; rfl
    rw [Bool.not_false, when_true]
    unfold liveFall
    rw [hlive, if_neg (by decide), hset, hid, hread, beq_self_eq_true]
    simp (disch := decide) only [event, Bool.not_false, Bool.and_true, when_true, get_set_other, get_set_same]
    rfl

/-! ### Its reactions (R404) -/

omit hf hr hn in
theorem changes_latchFirst (sev : Nat) (u : State) :
    Changes [.flt] (Reg.FLT.FIRST_ID_FIRST_SELF_CLEARED :: firstFields) u (latchFirst x sev u) := by
  unfold latchFirst
  refine Changes.branch _ (.refl _ _ _) (Changes.branch _ ?_ ?_)
  · exact (((Changes.refl _ _ u).set _ _ (by decide)).inc _ (by decide)).event _ _ (by decide)
  · exact (((((((((((((Changes.refl _ _ u).in_flt _ (by simp)).set _ _ (by decide)).set _ _ (by decide)).set _ _
      (by decide)).set _ _ (by decide)).set _ _ (by decide)).set _ _ (by decide)).set _ _ (by decide)).set _ _
      (by decide)).set _ _ (by decide)).set _ _ (by decide))).event _ _ (by decide)

/-- The state in which a raise asks for its reactions. -/
def raiseRecorded (x : Raise) (s : State) : State :=
  when (2 ≤ raiseSev x.n s) (faultRecord x.n (raiseSev x.n s) x.injected (snap0Of x) x.snap2 x.snap3)
    (latched x s (mark x.n s))

omit hf hr in
/-- Until its reactions a raise changes neither the fence nor the save. -/
theorem raiseRecorded_waits : reactionsWait (raiseRecorded x s) = reactionsWait s ∧ (raiseRecorded x s).sav = s.sav :=
    by
  have hc : Changes [.gq, .flt] (sourceFields x.n ++ (Reg.FLT.FIRST_ID_FIRST_SELF_CLEARED :: firstFields) ++
      recordFields 0) s (raiseRecorded x s) := by
    refine Changes.cond (((changes_mark x.n s).mono (by simp) (by simp +contextual)).trans ?_) _ _ fun u hu =>
      hu.pushRecord (by decide) (by simp) (by simp +contextual) _
    refine Changes.trans (t := marked x s) (Changes.cond (.refl _ _ _) _ _ fun u hu => hu.set _ _
        (by simp [firstFields])) ?_
    exact (changes_latchFirst _ _).mono (by simp) (by simp +contextual)
  have hkey : ∀ k : Fin 384, Reg.SYS.PERSIST_FENCED.key ∉ (sourceFields k ++
      (Reg.FLT.FIRST_ID_FIRST_SELF_CLEARED :: firstFields) ++ recordFields 0).map Fld.key := by decide +kernel
  have hfence := hc.regs _ (hkey ⟨x.n, hn⟩) (by decide)
  have hsav := hc.sav (by simp)
  refine ⟨?_, hsav⟩
  unfold reactionsWait fenced isSet
  rw [hfence, hsav]

omit hf hr hn in
/-- The fields of the pin. -/
def pinFields : List Fld :=
  [Reg.FLT.PINCTL_LEVEL, Reg.FLT.PINCTL_PULSE, Reg.FLT.PINCTL_PIN, Reg.FLT.PIN_COUNT_COUNT, Reg.EVT_STS 0x90 3]

omit hf hr hn in
theorem pin_keys {n : Nat} (hn : n < 384) : (Reg.EVT_STS (0x91 + n / 64) 0).key ∉ pinFields.map Fld.key ∧
    (Reg.EVT_STS (0x91 + n / 64) 0).key ∉ (fallFields n).map Fld.key ∧
    (Reg.EVT_STS (0x91 + n / 64) 0).key ∉ settleKeys ∧
    ∀ f ∈ pinFields, f.key ∉ (fallFields n).map Fld.key ∧ f.key ∉ settleKeys := by
  have h : ∀ k : Fin 384, (Reg.EVT_STS (0x91 + k.val / 64) 0).key ∉ pinFields.map Fld.key ∧
      (Reg.EVT_STS (0x91 + k.val / 64) 0).key ∉ (fallFields k).map Fld.key ∧
      (Reg.EVT_STS (0x91 + k.val / 64) 0).key ∉ settleKeys ∧
      ∀ f ∈ pinFields, f.key ∉ (fallFields k).map Fld.key ∧ f.key ∉ settleKeys := by decide +kernel
  exact h ⟨n, hn⟩

omit hf hr hn in
theorem pinPulse_shown (s : State) : Changes [.pwr] pinFields s (pinPulse s) ∧
    get Reg.FLT.PINCTL_PULSE (pinPulse s) = 1 ∧ get Reg.FLT.PINCTL_PIN (pinPulse s) = 1 ∧
    get Reg.FLT.PINCTL_LEVEL (pinPulse s) = 1 := by
  refine ⟨((((((Changes.refl _ _ s).in_pwr _ (by simp)).set _ _ (by decide)).set _ _ (by decide)).set _ _
    (by decide)).inc _ (by decide)).event _ _ (by decide), ?_, ?_, ?_⟩ <;>
  · simp (disch := decide) only [pinPulse, event, get_set_other, get_inc_other, get_set_same]
    rfl

omit hf hr hn in
/-- What reactions without a reset show (R404). -/
theorem react_shown {n act snap2 : Nat} (hn : n < 384) (hblock : bitOf act actBlockReset = false)
    (hchip : bitOf act actChipReset = false) (s : State) :
    (bitOf act actIrqHost = true → get (Reg.EVT_STS (0x91 + n / 64) 0) (react n act snap2 s) = 1) ∧
      (bitOf act actIrqGaffer = true → Out.gafferFault n ∈ (react n act snap2 s).out) ∧
      (bitOf act actNmi = true → Out.nmi n ∈ (react n act snap2 s).out) ∧
      (bitOf act actPin = true → get Reg.FLT.PINCTL_PULSE (react n act snap2 s) = 1 ∧
        get Reg.FLT.PINCTL_PIN (react n act snap2 s) = 1 ∧ get Reg.FLT.PINCTL_LEVEL (react n act snap2 s) = 1) := by
  obtain ⟨hpin, -, hset, -⟩ := pin_keys hn
  unfold react
  simp only [hblock, hchip, when_false]
  refine ⟨fun h => ?_, fun h => ?_, fun h => ?_, fun h => ?_⟩
  · rw [h, when_true]
    refine when_keeps (fun u => get (Reg.EVT_STS (0x91 + n / 64) 0) u = 1) _ _ _ ?_ fun hu =>
      ((pinPulse_shown _).1.regs _ hpin hset).trans hu
    refine when_keeps (fun u => get (Reg.EVT_STS (0x91 + n / 64) 0) u = 1) _ _ _ ?_ id
    exact when_keeps (fun u => get (Reg.EVT_STS (0x91 + n / 64) 0) u = 1) _ _ _ (get_set_same _ _ _) id
  · rw [h, when_true]
    refine when_keeps (fun u => Out.gafferFault n ∈ u.out) _ _ _ ?_ fun hu => by rw [pinPulse_out]; exact hu
    refine when_keeps (fun u => Out.gafferFault n ∈ u.out) _ _ _ (by simp) fun hu => ?_
    rw [emit_out]
    exact List.mem_append_left _ hu
  · rw [h, when_true]
    refine when_keeps (fun u => Out.nmi n ∈ u.out) _ _ _ (by simp) fun hu => by rw [pinPulse_out]; exact hu
  · rw [h, when_true]
    exact (pinPulse_shown _).2

/-- The reactions of a source, where none of them is a reset and none waits (R404). -/
theorem raise_reacts (hw : reactionsWait s = false) :
    (bitOf (get (Reg.FLS.SRC_CFG_ACT x.n) s) actIrqHost = true →
        get (Reg.EVT_STS (0x91 + x.n / 64) 0) (raise x s) = 1) ∧
      (bitOf (get (Reg.FLS.SRC_CFG_ACT x.n) s) actIrqGaffer = true → Out.gafferFault x.n ∈ (raise x s).out) ∧
      (bitOf (get (Reg.FLS.SRC_CFG_ACT x.n) s) actNmi = true → Out.nmi x.n ∈ (raise x s).out) ∧
      (bitOf (get (Reg.FLS.SRC_CFG_ACT x.n) s) actPin = true → get Reg.FLT.PINCTL_PULSE (raise x s) = 1 ∧
        get Reg.FLT.PINCTL_PIN (raise x s) = 1 ∧ get Reg.FLT.PINCTL_LEVEL (raise x s) = 1) := by
  obtain ⟨-, -, hblock, hchip⟩ := hf.2
  have htold : tellRaise x s (mark x.n s) = react x.n (get (Reg.FLS.SRC_CFG_ACT x.n) s) x.snap2 (raiseRecorded x s) :=
    if_neg (ne_true_of_eq_false ((raiseRecorded_waits hn).1.trans hw))
  obtain ⟨hirq, hgaffer, hnmi, hpin⟩ := react_shown (snap2 := x.snap2) hn hblock hchip (raiseRecorded x s)
  obtain ⟨-, hfall, hset, hpins⟩ := pin_keys hn
  have hkept : ∀ f : Fld, f.key ∉ (fallFields x.n).map Fld.key → f.key ∉ settleKeys →
      get f (raise x s) = get f (tellRaise x s (mark x.n s)) := fun f h h' => by
    rw [raise_of_fresh hf hr]
    exact when_keeps (fun u => get f u = get f (tellRaise x s (mark x.n s))) _ _ _ rfl fun hu =>
      (get_liveFall_other _ h h').trans hu
  have hout : (raise x s).out = (tellRaise x s (mark x.n s)).out := by
    rw [raise_of_fresh hf hr]
    exact when_out _ _ _ fun u => liveFall_out _ u
  have hpinf : ∀ f ∈ pinFields, get f (raise x s) = get f (tellRaise x s (mark x.n s)) := fun f hm =>
    hkept f (hpins f hm).1 (hpins f hm).2
  rw [hkept _ hfall hset, hout, hpinf _ (by decide), hpinf _ (by decide), hpinf _ (by decide), htold]
  exact ⟨hirq, hgaffer, hnmi, hpin⟩

/-- Where reactions wait for the end of a save, this one waits as well. -/
theorem raise_waits (hw : reactionsWait s = true) : (raise x s).sav.waitingActs =
    s.sav.waitingActs ++ [(x.n, get (Reg.FLS.SRC_CFG_ACT x.n) s, x.snap2)] := by
  obtain ⟨hwait, hsav⟩ := raiseRecorded_waits (x := x) (s := s) hn
  have htold : tellRaise x s (mark x.n s) = { raiseRecorded x s with sav := { (raiseRecorded x s).sav with
      waitingActs := (raiseRecorded x s).sav.waitingActs ++ [(x.n, get (Reg.FLS.SRC_CFG_ACT x.n) s, x.snap2)] } } :=
    if_pos (hwait.trans hw)
  have hfall : (raise x s).sav = (tellRaise x s (mark x.n s)).sav := by
    rw [raise_of_fresh hf hr]
    exact when_keeps (fun u => u.sav = (tellRaise x s (mark x.n s)).sav) _ _ _ rfl fun hu =>
      ((changes_liveFall _ _).sav (by simp)).trans hu
  rw [hfall, htold, hsav]

end

/-! ### A detected error (R400 to R408) -/

/-- The phase of the frame in which an error is detected. -/
def atPhase (phase : Nat) (s : State) : State := { s with frm := { s.frm with phase := phase } }

/-- The error as the collector is told of it. -/
def detected (n : Fin 384) (reason inst : Nat) (snap2 snap3 : Word) (held : Bool) : Raise :=
  { n := n, reason := reason, inst := inst, snap2 := snap2.toNat, snap3 := snap3.toNat, hold := held }

/-- What a detection holds beside its raise, for a source other than 184. -/
def detectFields (n : Nat) : List Fld := if n = 330 then [Reg.SAF.STS_LOCKSTEP_OK] else []

/-- The effects of the sources 185 and 330. -/
def detectHeld (n snap2 : Nat) (s : State) : State :=
  s |> when (n = 185) (holdRequests snap2) |> when (n = 330) (set Reg.SAF.STS_LOCKSTEP_OK 0)

theorem detect_eq {n : Fin 384} (hn : n.val ≠ 184) (reason inst : Nat) (snap2 snap3 : Word) (held : Bool) (phase : Nat)
    (s : State) : detect n reason inst snap2.toNat snap3.toNat held phase s =
      detectHeld n snap2.toNat (raise (detected n reason inst snap2 snap3 held) (atPhase phase s)) := by
  unfold detect detectHeld
  rw [decide_eq_false hn, when_false]
  rfl

theorem changes_detectHeld (n snap2 : Nat) (s : State) :
    Changes (if n = 185 then [.dram] else []) (detectFields n) s (detectHeld n snap2 s) := by
  unfold detectHeld detectFields
  by_cases h5 : n = 185
  · subst h5
    exact (Changes.refl _ _ s).in_dram _ (by simp)
  · by_cases h0 : n = 330
    · subst h0
      exact (Changes.refl _ _ s).set _ _ (by simp)
    · simp only [h5, h0, decide_false, when_false, if_false]
      exact .refl _ _ _

theorem changes_atPhase (phase : Nat) (s : State) : Changes [.frm] [] s (atPhase phase (begun s)) :=
  (Changes.begin _ _ s).in_frm _ (by simp)

/-- What a raise shows is apart from `STS.LOCKSTEP_OK`. -/
theorem lockstep_keys (n : Fin 384) : ∀ f ∈ Reg.FLT.FIRST_ID_FIRST_SELF_CLEARED :: firstFields ++ pinFields ++
    sourceCard n ++
    [Reg.EVT_STS (0x91 + n.val / 64) 0], f.key ≠ Reg.SAF.STS_LOCKSTEP_OK.key ∧ f.key ∉ settleKeys := by
  revert n
  decide +kernel

/-- A reason keeps `PERSIST.OK` 0 (R16). -/
theorem persistOk_of_reason {t : State} (h : PersistInv t) (hr : persistReasons t ≠ 0) :
    isSet Reg.SYS.PERSIST_OK t = false := by
  rw [h]
  simp [hr]

theorem get_zeroBudget (s : State) : get Reg.LEH.BUDGET_EFF_GRAN (zeroBudget s) = 0 ∧
    get Reg.SYS.PERSIST_BUDGET (zeroBudget s) = 1 := by
  constructor
  · simp (disch := decide) only [zeroBudget, get_set_other, get_set_same]
    rfl
  · exact get_set_same _ _ _

theorem get_live_raise {x : Raise} {s : State} (hf : Fresh x.n s) (hr : srcReserved x.n = false) (hn : x.n < 384) :
    get (Reg.FLS.LIVE x.n) (raise x s) = b2n x.hold := by
  have hlive := live_raise hf hr hn
  cases hx : x.hold
  case false =>
    rw [hx] at hlive
    simpa [isSet, b2n] using hlive
  case true =>
    rw [raise_of_fresh hf hr, hx, Bool.not_true, when_false, get_tellRaise hf.2 hn
        (by simp [sourceFields]), get_live_mark]
    rfl

theorem detectFields_key {n : Nat} {f : Fld} (h : f.key ≠ Reg.SAF.STS_LOCKSTEP_OK.key) :
    f.key ∉ (detectFields n).map Fld.key := by
  unfold detectFields
  split
  · simpa using h
  · simp

theorem detectHeld_out (n snap2 : Nat) (s : State) : (detectHeld n snap2 s).out = s.out := by
  unfold detectHeld
  refine (when_out _ _ _ fun u => set_out _ _ u).trans (when_out _ _ _ fun u => rfl)

/-- Every request for the line of a hash error is held (source 185). -/
theorem detectHeld_hash {n snap2 : Nat} (s : State) (hn : n = 185) {e : WEntry}
    (he : e ∈ (detectHeld n snap2 s).dram.writes) (hi : e.issued = false) (hl : e.line % 2 ^ 32 = snap2) :
    e.hashBad = true := by
  subst hn
  obtain ⟨w, -, rfl⟩ := List.mem_map.1 he
  by_cases hw : (!w.issued && w.line % 2 ^ 32 == snap2) = true
  · rw [if_pos hw]
  · rw [if_neg hw] at hi hl
    exact absurd (by rw [hi, hl]; simp) hw

section
variable {s : State} (hs : Ready s) (n : Fin 384) (reason inst : Nat) (snap2 snap3 : Word) (held : Bool) (phase : Nat)
include hs

/-- A number that no source has, or a source that is live, is not raised (R399, R400). -/
theorem completes_notRaised (h184 : n.val ≠ 184) (h185 : n.val ≠ 185) (h330 : n.val ≠ 330)
    (h : srcReserved n = true ∨ isSet (Reg.FLS.LIVE n) s = true) :
    Completes (.faultRaise n reason inst snap2 snap3 held phase) s fun t => Changes [.frm] [] s t := by
  have hraise : raise (detected n reason inst snap2 snap3 held) (atPhase phase (begun s)) = atPhase phase
      (begun s) := by
    refine if_pos ?_
    rcases h with h | h
    · simp [detected, h]
    · rw [show isSet (Reg.FLS.LIVE (detected n reason inst snap2 snap3 held).n) (atPhase phase (begun s)) = true from h,
        Bool.or_true]
  have he : detect n reason inst snap2.toNat snap3.toNat held phase (begun s) = atPhase phase (begun s) := by
    rw [detect_eq h184, hraise, detectHeld]
    simp [h185, h330]
  exact .leaves hs rfl he hs.2 fun t k => (changes_atPhase phase s).ended k

/-- A residue error of the budget's arithmetic takes the budget as 0 (R48). -/
theorem completes_budgetError (h184 : n.val = 184) :
    Completes (.faultRaise n reason inst snap2 snap3 held phase) s fun t => Fresh 184 s →
      Raised 184 s t ∧ t.mrv.bStrict = 0 ∧ t.mrv.bEff = 0 ∧ get Reg.LEH.BUDGET_EFF_GRAN t = 0 ∧
      get Reg.SYS.PERSIST_BUDGET t = 1 ∧ isSet Reg.SYS.PERSIST_OK t = false := by
  obtain rfl : n = 184 := Fin.ext h184
  refine .of_run hs (f := detect 184 reason inst snap2.toNat snap3.toNat held phase) rfl fun hf => ?_
  have he : detect 184 reason inst snap2.toNat snap3.toNat held phase (begun s) =
      zeroBudget (raise (detected 184 reason inst snap2 snap3 held) (atPhase phase (begun s))) := rfl
  have hraise := changes_raise (x := detected 184 reason inst snap2 snap3 held) (s := atPhase phase (begun s)) hf.2
  have hraised := raised_raise (x := detected 184 reason inst snap2 snap3 held) (s := atPhase phase (begun s)) hf rfl
    (show 184 < 384 by decide)
  have hzero := changes_zeroBudget (raise (detected 184 reason inst snap2 snap3 held) (atPhase phase (begun s)))
  rw [he]
  generalize raise (detected 184 reason inst snap2 snap3 held) (atPhase phase (begun s)) = r at hraise hraised hzero ⊢
  obtain ⟨heff, hbit⟩ := get_zeroBudget r
  have k := settle_keeps s _ (hzero.reqs.trans (hraise.reqs.trans hs.2))
  have hbudget : get Reg.SYS.PERSIST_BUDGET (settle s (zeroBudget r)) = 1 := k.stored (by decide) hbit
  refine ⟨(SameSource.settle (by decide) k).stays ((hzero.source (by decide) fun f hf => budget_source
      (by decide) hf).stays
    hraised), ?_, ?_, k.stored (by decide) ?_, hbudget, ?_⟩
  · exact congrArg Mrv.bStrict k.mrv
  · exact congrArg Mrv.bEff k.mrv
  · exact heff
  · refine persistOk_of_reason (settle_persistInv _ _) ?_
    unfold persistReasons
    omega

theorem completes_detected (hr : srcReserved n = false) :
    Completes (.faultRaise n reason inst snap2 snap3 held phase) s fun t => Fresh n s → n.val ≠ 184 →
      get (Reg.FLS.LIVE n) t = b2n held ∧ Raised n s t ∧
      (3 ≤ get (Reg.FLS.SRC_CFG_SEV n) s → get Reg.SYS.PERSIST_FAULT t = 1 ∧ isSet Reg.SYS.PERSIST_OK t = false) ∧
      (get (Reg.FLS.SRC_CFG_SEV n) s < 3 → get Reg.SYS.PERSIST_FAULT t = get Reg.SYS.PERSIST_FAULT s) ∧
      (get (Reg.FLS.SRC_CFG_SEV n) s ≠ 0 → isSet Reg.FLT.FIRST_ID_VALID s = false →
        get Reg.FLT.FIRST_ID_ID t = n ∧ get Reg.FLT.FIRST_ID_SEV t = get (Reg.FLS.SRC_CFG_SEV n) s ∧
        get Reg.FLT.FIRST_ID_VALID t = 1 ∧ get Reg.FLT.FIRST_ID_FIRST_SELF_CLEARED t = b2n (!held) ∧
        get Reg.FLT.FIRST_FRAME_LO_FRAME t = now32 s ∧ get (Reg.FLT.FIRST_SNAP_DATA 2) t = snap2.toNat ∧
        get (Reg.FLT.FIRST_SNAP_DATA 3) t = snap3.toNat ∧ get (Reg.EVT_STS 0x90 0) t = 1) ∧
      (get (Reg.FLS.SRC_CFG_SEV n) s ≠ 0 → isSet Reg.FLT.FIRST_ID_VALID s = true →
        get Reg.FLT.OVF_OVF t = 1 ∧ get Reg.FLT.OVF_COUNT_COUNT t = oneMore Reg.FLT.OVF_COUNT_COUNT s ∧
        get (Reg.EVT_STS 0x90 1) t = 1 ∧ get Reg.FLT.FIRST_ID_ID t = get Reg.FLT.FIRST_ID_ID s ∧
        get Reg.FLT.FIRST_ID_SEV t = get Reg.FLT.FIRST_ID_SEV s ∧
        get Reg.FLT.FIRST_FRAME_LO_FRAME t = get Reg.FLT.FIRST_FRAME_LO_FRAME s ∧
        get Reg.FLT.FIRST_FRAME_HI_FRAME t = get Reg.FLT.FIRST_FRAME_HI_FRAME s ∧
        (∀ k < 4, get (Reg.FLT.FIRST_SNAP_DATA k) t = get (Reg.FLT.FIRST_SNAP_DATA k) s)) ∧
      (reactionsWait s = false →
        (bitOf (get (Reg.FLS.SRC_CFG_ACT n) s) actIrqHost = true → get (Reg.EVT_STS (0x91 + n.val / 64) 0) t = 1) ∧
        (bitOf (get (Reg.FLS.SRC_CFG_ACT n) s) actIrqGaffer = true → Out.gafferFault n ∈ t.out) ∧
        (bitOf (get (Reg.FLS.SRC_CFG_ACT n) s) actNmi = true → Out.nmi n ∈ t.out) ∧
        (bitOf (get (Reg.FLS.SRC_CFG_ACT n) s) actPin = true → get Reg.FLT.PINCTL_PULSE t = 1 ∧
          get Reg.FLT.PINCTL_PIN t = 1 ∧ get Reg.FLT.PINCTL_LEVEL t = 1)) ∧
      (reactionsWait s = true → t.sav.waitingActs = s.sav.waitingActs ++
        [(n.val, get (Reg.FLS.SRC_CFG_ACT n) s, snap2.toNat)]) ∧
      (get (Reg.FLS.SRC_CFG_SEV n) s = 0 → get Reg.FLT.FIRST_ID_VALID t = get Reg.FLT.FIRST_ID_VALID s ∧
        get Reg.FLT.OVF_COUNT_COUNT t = get Reg.FLT.OVF_COUNT_COUNT s) ∧
      (n.val = 330 → get Reg.SAF.STS_LOCKSTEP_OK t = 0) ∧
      (n.val = 185 → ∀ e ∈ t.dram.writes, e.issued = false → e.line % 2 ^ 32 = snap2.toNat → e.hashBad = true) ∧
      Changes ((if n.val = 185 then [.dram] else []) ++ .frm :: raiseParts)
        ((if n.val = 330 then [Reg.SAF.STS_LOCKSTEP_OK] else []) ++ raiseFields n) s t := by
  refine .of_run hs (f := detect n reason inst snap2.toNat snap3.toNat held phase) rfl fun hf h184 => ?_
  rw [detect_eq h184]
  have hfresh : Fresh (detected n reason inst snap2 snap3 held).n (atPhase phase (begun s)) := hf
  have hn : (detected n reason inst snap2 snap3 held).n < 384 := n.isLt
  have hrx : srcReserved (detected n reason inst snap2 snap3 held).n = false := hr
  have hsource := changes_raise (x := detected n reason inst snap2 snap3 held) hfresh.2
  have hlive := get_live_raise hfresh hrx hn
  have hraised := raised_raise hfresh hrx hn
  have hfault := raise_fault hfresh hrx hn
  have hlatch := raise_latches hfresh hrx hn
  have hself := raise_selfCleared hfresh hrx hn
  have hover := raise_overflows hfresh hrx hn
  have hunlatched := fun f h hm hne => raise_unlatched hfresh hrx hn h (f := f) hm hne
  have hreact := raise_reacts hfresh hrx hn
  have hwait := raise_waits hfresh hrx hn
  generalize hrr : raise (detected n reason inst snap2 snap3 held) (atPhase phase (begun s)) = r at *
  have hheld := changes_detectHeld n snap2.toNat r
  have hall : Changes ((if n.val = 185 then [.dram] else []) ++ .frm :: raiseParts) (detectFields n ++ raiseFields n) s
      (detectHeld n snap2.toNat r) :=
    ((changes_atPhase phase s).mono (by simp) (by simp)).trans ((hsource.mono (by simp +contextual)
        (by simp +contextual [detected])).trans
      (hheld.mono (by simp +contextual) (by simp +contextual)))
  have k := settle_keeps s _ (hall.reqs.trans hs.2)
  have hinv : PersistInv (settle s (detectHeld n snap2.toNat r)) := settle_persistInv _ _
  have hdram := k.dram
  have hsav := k.sav.trans (hheld.sav (by split <;> simp))
  generalize settle s (detectHeld n snap2.toNat r) = t at *
  have hget : ∀ f ∈ Reg.FLT.FIRST_ID_FIRST_SELF_CLEARED :: firstFields ++ pinFields ++ sourceCard n ++
      [Reg.EVT_STS (0x91 + n.val / 64) 0], get f t = get f r := fun f hf =>
    (k.get f (lockstep_keys n f hf).2).trans (hheld.regs f (detectFields_key (lockstep_keys n f hf).1)
        (lockstep_keys n f hf).2)
  have hfirst : ∀ f ∈ firstFields, get f t = get f r := fun f hf => hget f (by simp [hf])
  have hpin : ∀ f ∈ pinFields, get f t = get f r := fun f hf => hget f (by simp [hf])
  have hcard : SameSource n r t := fun f hf => hget f (by simp [hf])
  refine ⟨(hcard _ (by simp [sourceCard, sourceFields])).trans hlive, hcard.stays hraised, fun h3 => ?_, fun h3 => ?_,
    fun h0 hv => ?_, fun h0 hv => ?_, fun hw => ?_, fun hw => hsav ▸ hwait hw, fun h0 => ⟨?_, ?_⟩, fun h330 => ?_,
    fun h185 e he => detectHeld_hash r h185 (hdram ▸ he), hall.ended k⟩
  · have hone : get Reg.SYS.PERSIST_FAULT t = 1 :=
      (hfirst _ (by simp [firstFields])).trans (hfault.trans (if_pos h3))
    refine ⟨hone, persistOk_of_reason hinv ?_⟩
    unfold persistReasons
    omega
  · exact (hfirst _ (by simp [firstFields])).trans (hfault.trans (if_neg (by exact Nat.not_le.2 h3)))
  · obtain ⟨hid, hsev, hvalid, hframe, h2, h3, hev⟩ := hlatch h0 hv
    rw [hget Reg.FLT.FIRST_ID_FIRST_SELF_CLEARED (by simp), hfirst _ (by simp [firstFields]),
      hfirst _ (by simp [firstFields]), hfirst _ (by simp [firstFields]), hfirst _ (by simp [firstFields]),
      hfirst _ (by simp [firstFields]), hfirst _ (by simp [firstFields]), hfirst _ (by simp [firstFields])]
    exact ⟨hid, hsev, hvalid, hself h0 hv, hframe, h2.trans (Nat.mod_eq_of_lt snap2.isLt),
      h3.trans (Nat.mod_eq_of_lt snap3.isLt), hev⟩
  · obtain ⟨hovf, hcount, hev, hkept⟩ := hover h0 hv
    rw [hfirst _ (by simp [firstFields]), hfirst _ (by simp [firstFields]), hfirst _ (by simp [firstFields]),
      hfirst _ (by simp [firstFields]), hfirst _ (by simp [firstFields]), hfirst _ (by simp [firstFields]),
      hfirst _ (by simp [firstFields])]
    refine ⟨hovf, hcount, hev, hkept _ (by simp), hkept _ (by simp), hkept _ (by simp), hkept _
        (by simp), fun j hj => ?_⟩
    obtain rfl | rfl | rfl | rfl : j = 0 ∨ j = 1 ∨ j = 2 ∨ j = 3 := by omega
    all_goals rw [hfirst _ (by simp [firstFields])]; exact hkept _ (by simp)
  · obtain ⟨hirq, hgaffer, hnmi, hpins⟩ := hreact hw
    rw [hget (Reg.EVT_STS (0x91 + n.val / 64) 0) (by simp), hpin _ (by simp [pinFields]), hpin _ (by simp [pinFields]),
      hpin _ (by simp [pinFields])]
    have hout := detectHeld_out n snap2.toNat r
    exact ⟨hirq, fun h => k.sentLast (hout ▸ hgaffer h), fun h => k.sentLast (hout ▸ hnmi h), hpins⟩
  · exact (hfirst _ (by simp [firstFields])).trans (hunlatched _ h0 (by simp [firstFields]) (by decide))
  · exact (hfirst _ (by simp [firstFields])).trans (hunlatched _ h0 (by simp [firstFields]) (by decide))
  · refine k.stored (by decide) ?_
    unfold detectHeld
    rw [decide_eq_true h330, when_true]
    exact get_set_same _ _ _

end

/-- Settles O49. -/
theorem faultRaises : Obligations.FaultRaises := by
  unfold Obligations.FaultRaises
  exact fun s hs n reason inst snap2 snap3 held phase =>
    ⟨completes_detected hs n reason inst snap2 snap3 held phase, completes_notRaised hs n reason inst snap2 snap3 held
        phase,
      completes_budgetError hs n reason inst snap2 snap3 held phase⟩

end Sys2Proof.Machine
end

section
/-! SUPPORT. The frame counter at the tick, and a shadow that applies (R52 to R73). -/

namespace Sys2Proof.Machine
set_option Elab.async false

/-! ### The counter (R52, R53, R56, R484) -/

/-- Of the tick only its first step moves the counter. -/
theorem tick_count (x : TickIn) (s : State) : countOf (tick x s) = countOf (countTick s) := by
  unfold tick
  simp [count_countOf]

/-- The state with the counter increased, or with the marker's number adopted (R56). -/
def counted (s : State) : State :=
  { s with frm := { s.frm with adopt := none, phase := 0, markerSeen := false },
           pwr := { s.pwr with sinceVaon := s.pwr.sinceVaon + 1 } }
    |> setCount (match s.frm.adopt with
      | some f => f.toNat + 1
      | none => now s + 1)

theorem counted_none {s : State} (h : s.frm.adopt = none) : (counted s).frm.count = s.frm.count + 1 := by
  unfold counted
  rw [h]
  exact BitVec.eq_of_toNat_eq (by simp [setCount, now, BitVec.toNat_add])

theorem counted_some {s : State} {f : Frame} (h : s.frm.adopt = some f) : (counted s).frm.count = f + 1 := by
  unfold counted
  rw [h]
  exact BitVec.eq_of_toNat_eq (by simp [setCount, BitVec.toNat_add])

theorem countTick_settled {s : State} (h : isSet Reg.SYS.BOOT_PROVISIONAL s = false ∨ rsrStage s < 2) :
    countTick s = counted s := by
  refine if_pos (show (!isSet Reg.SYS.BOOT_PROVISIONAL s || decide (rsrStage s < 2)) = true from ?_)
  rcases h with h | h <;> simp [h]

/-- The provisional counter moves on by the number of R54. -/
theorem countTick_provisional {s : State} (hp : isSet Reg.SYS.BOOT_PROVISIONAL s = true) (h2 : 2 ≤ rsrStage s) :
    countOf (countTick s) = BitVec.ofNat 48 (now (counted s) + resumeFrame s) := by
  have he : countTick s = provisionalTick (counted s) := rfl
  have hpc : isSet Reg.SYS.BOOT_PROVISIONAL (counted s) = true := hp
  have h2c : ¬ rsrStage (counted s) < 2 := Nat.not_lt.2 h2
  rw [he, provisionalTick, if_neg (by simp [hpc, h2c])]
  have hmove : ∀ f n u, countOf (moveFrame f n u) = countOf u := fun _ _ _ => rfl
  have hset : ∀ f v u, countOf (set f v u) = countOf u := fun _ _ _ => rfl
  rw [hset]
  refine forEach_keeps (fun u => countOf u = _) _ _ _ ?_ fun _ _ u hu => (hmove _ _ u).trans hu
  refine when_keeps (fun u => countOf u = _) _ _ _ ?_ fun hu => (hmove _ _ _).trans hu
  refine when_keeps (fun u => countOf u = _) _ _ _ rfl fun hu => ?_
  exact (hset _ _ _).trans ((hset _ _ _).trans hu)

section
variable {s : State} {x : TickIn} (hs : Ready s)
include hs

theorem completes_tickCount (hp : pllWaits 0 s = false) :
    Completes (.frameTick x) s fun t => t.frm.count = countOf (countTick (begun s)) := by
  refine .of_run hs (f := fun s => if pllWaits 0 s then relockFrames s else s |> tick x |> answersTick |> retryStalled)
    rfl ?_
  have hpb : pllWaits 0 (begun s) = false := hp
  simp only [hpb, Bool.false_eq_true, if_false]
  refine (settle_rest s _).2.trans ((retryStalled_rest _).2.trans ((answersTick_rest _).2.trans ?_))
  exact tick_count x _

theorem completes_frameTick (hp : pllWaits 0 s = false) :
    Completes (.frameTick x) s fun t =>
      (isSet Reg.SYS.BOOT_PROVISIONAL s = false ∨ rsrStage s < 2 →
        (s.frm.adopt = none → t.frm.count = s.frm.count + 1) ∧ (∀ f, s.frm.adopt = some f → t.frm.count = f + 1)) ∧
      (isSet Reg.SYS.BOOT_PROVISIONAL s = true → 2 ≤ rsrStage s → s.frm.adopt = none →
        t.frm.count = BitVec.ofNat 48 ((now s + 1) % 2 ^ 48 + resumeFrame s)) := by
  refine (completes_tickCount hs hp).mono fun t ht => ⟨fun h => ?_, fun h h2 hn => ?_⟩
  · rw [ht, countTick_settled (s := begun s) h]
    exact ⟨fun hn => counted_none (s := begun s) hn, fun f hn => counted_some (s := begun s) hn⟩
  · have hnow : now (counted (begun s)) = (now s + 1) % 2 ^ 48 := by
      have hc := counted_none (s := begun s) hn
      unfold now
      rw [hc]
      exact BitVec.toNat_add _ _
    rw [ht, countTick_provisional (s := begun s) h h2, hnow]
    rfl

/-- While the frame PLL relocks no frame runs (R98). -/
theorem completes_tickWaits (hp : pllWaits 0 s = true) :
    Completes (.frameTick x) s fun t =>
      t.pwr.relocking = s.pwr.relocking.map (fun e => (e.1, e.2 + 1)) ∧ Changes [.pwr] [] s t := by
  have hpb : pllWaits 0 (begun s) = true := hp
  exact .leaves hs (f := fun s => if pllWaits 0 s then relockFrames s else s |> tick x |> answersTick |> retryStalled)
    rfl (u := relockFrames (begun s)) (if_pos hpb) hs.2 fun t k =>
    ⟨congrArg Pwr.relocking k.pwr, ((Changes.begin _ _ s).in_pwr _ (by simp)).ended k⟩

end

/-! ### One shadow at the tick (R59, R68, R73) -/

/-- The state in which the shadows of a tick apply. -/
def shadowsTaken (l : List Shadow) (s : State) : State := { s with shadows := l, frm :=
    { s.frm with commitShadow := [] } }

theorem shadowTick_late {s : State} {h : Shadow} (hs : s.shadows = [h]) (hd : pageDark (h.f.addr / 4096) s = false)
    (hc : s.frm.commitShadow = []) (hl : h.late = true) :
    shadowTick s = shadowsTaken [{ h with late := false }] s := by
  unfold shadowTick
  rw [hs, hc]
  simp [hd, hl, shadowsTaken]

theorem shadowTick_due {s : State} {h : Shadow} (hs : s.shadows = [h]) (hd : pageDark (h.f.addr / 4096) s = false)
    (hc : s.frm.commitShadow = []) (hl : h.late = false) :
    shadowTick s = set (Reg.FRAME_STAMP_FRAME (h.f.addr / 4096)) (now32 (applyShadow h (shadowsTaken [] s)))
      (applyShadow h (shadowsTaken [] s)) := by
  unfold shadowTick
  rw [hs, hc]
  simp [hd, hl, shadowsTaken]

/-- Without a marginal rank no rank is retired. -/
theorem autoRetire_of_none {s : State} (h : ∀ i, i < 64 → isSet (Reg.SPR.RANK_MARGINAL i) s = false) : autoRetire s =
    s := by
  unfold autoRetire
  split
  · rfl
  · refine forEach_keeps (fun u => u = s) _ _ _ rfl fun i hi u hu => ?_
    rw [hu, h i (List.mem_range.1 hi)]
    rfl

/-- What follows from a field in the same step changes neither the field nor the shadows; and of the power only a
domain's request, which waits (R60, R68). -/
theorem followField_keeps {f : Fld} {s : State}
    (hm : f.key = Reg.SPR.CFG_AUTO_MIGRATE.key → ∀ i, i < 64 → isSet (Reg.SPR.RANK_MARGINAL i) s = false) :
    get f (followField f s) = get f s ∧ (followField f s).shadows = s.shadows ∧ now (followField f s) = now s := by
  have hset : ∀ {a b : Fld} {v : Nat} {u : State}, f.key = a.key → a.key ≠ b.key →
      get f u = get f s ∧ u.shadows = s.shadows ∧ now u = now s →
      get f (set b v u) = get f s ∧ (set b v u).shadows = s.shadows ∧ now (set b v u) = now s :=
    fun h hab hu => ⟨(get_set_other _ _ (h ▸ hab)).trans hu.1, hu.2.1, hu.2.2⟩
  have hsame : get f s = get f s ∧ s.shadows = s.shadows ∧ now s = now s := ⟨rfl, rfl, rfl⟩
  unfold followField
  split
  case isTrue h => exact hset h (by decide) hsame
  case isFalse =>
    split
    case isTrue h => exact hsame
    case isFalse =>
      split
      case isTrue h =>
        unfold twinIndicate
        dsimp only
        split
        · exact hset h (by decide) (hset h (by decide) hsame)
        · split
          · exact hset h (by decide) (hset h (by decide) hsame)
          · split
            · exact hset h (by decide) (hset h (by decide) hsame)
            · split
              · exact hset h (by decide) (hset h (by decide) hsame)
              · exact hsame
      case isFalse =>
        split
        case isTrue h => exact hset h (by decide) hsame
        case isFalse =>
          split
          case isTrue h =>
            rw [autoRetire_of_none (hm h)]
            exact hsame
          case isFalse => split <;> exact hsame

/-- A domain's request waits for the tick's switches (R60). -/
theorem followField_request {f : Fld} {d : Nat} {s : State} (hlo : f.lo < 32) (hd : d < 52)
    (hk : f.key = (Reg.PDM.DOM_CTL_REQ d).key) :
    (followField f s).pwr.requests = s.pwr.requests ++ [(d, get f s)] := by
  have hkey : f.key = (0x82100 + 4 * d) * 32 := hk
  have hsplit : f.addr = 0x82100 + 4 * d ∧ f.lo = 0 := by
    unfold Fld.key at hkey
    omega
  have hreq : requestDomain f = some d := by
    unfold requestDomain
    have h0 : (Reg.PDM.DOM_CTL_REQ 0).addr = 0x82100 := rfl
    have h52 : (Reg.PDM.DOM_CTL_REQ 52).addr = 0x82100 + 4 * 52 := rfl
    rw [if_pos ⟨hsplit.2, by omega, by omega⟩]
    congr 1
    omega
  have hother : ∀ g : Fld, g.key < 0x82100 * 32 ∨ 0x82200 * 32 ≤ g.key → f.key ≠ g.key := fun g hg => by omega
  unfold followField
  rw [if_neg (hother _ (by decide)), if_neg (hother _ (by decide)), if_neg (hother _ (by decide)),
    if_neg (hother _ (by decide)), if_neg (hother _ (by decide)), hreq]

theorem shadow_applies {s : State} {h : Shadow} (hs : s.shadows = [h]) (hd : pageDark (h.f.addr / 4096) s = false)
    (hlo : h.f.lo < 32) (hoff : h.f.addr % 4096 ≠ 0x34) (hc : s.frm.commitShadow = [])
    (hm : h.f.key = Reg.SPR.CFG_AUTO_MIGRATE.key → ∀ i, i < 64 → isSet (Reg.SPR.RANK_MARGINAL i) s = false)
    (hl : h.late = false) :
    (shadowTick s).shadows = [] ∧ get h.f (shadowTick s) = h.value % 2 ^ h.f.w ∧
      get (Reg.FRAME_STAMP_FRAME (h.f.addr / 4096)) (shadowTick s) = now32 s ∧
      ∀ d, h.f.key = (Reg.PDM.DOM_CTL_REQ d).key → d < 52 →
        (shadowTick s).pwr.requests = s.pwr.requests ++ [(d, h.value % 2 ^ h.f.w)] := by
  have hstamp : h.f.key ≠ (Reg.FRAME_STAMP_FRAME (h.f.addr / 4096)).key := by
    simp only [Fld.key, Reg.FRAME_STAMP_FRAME]
    omega
  have hmargin : h.f.key = Reg.SPR.CFG_AUTO_MIGRATE.key → ∀ i, i < 64 →
      isSet (Reg.SPR.RANK_MARGINAL i) (set h.f h.value (shadowsTaken [] s)) = false := fun hk i hi => by
    have hne : (Reg.SPR.RANK_MARGINAL i).key ≠ h.f.key := by
      rw [hk]
      have hkeys : ∀ j : Fin 64, (Reg.SPR.RANK_MARGINAL j).key ≠ Reg.SPR.CFG_AUTO_MIGRATE.key := by decide
      exact hkeys ⟨i, hi⟩
    exact (isSet_set_other _ _ hne).trans (hm hk i hi)
  obtain ⟨hget, hshadows, hnow⟩ := followField_keeps (f := h.f) (s := set h.f h.value (shadowsTaken [] s)) hmargin
  have hvalue : get h.f (applyShadow h (shadowsTaken [] s)) = h.value % 2 ^ h.f.w := hget.trans (get_set_same _ _ _)
  rw [shadowTick_due hs hd hc hl]
  refine ⟨hshadows, (get_set_other _ _ hstamp).trans hvalue, (get_set_same _ _ _).trans ?_, fun d hk hd => ?_⟩
  · unfold now32
    rw [show now (applyShadow h (shadowsTaken [] s)) = now s from hnow]
    exact Nat.mod_mod _ _
  · have hreq := followField_request (s := set h.f h.value (shadowsTaken [] s)) hlo hd hk
    rw [get_set_same] at hreq
    exact hreq

/-- Settles O57. -/
theorem frameCounter : Obligations.FrameCounter := by
  unfold Obligations.FrameCounter
  refine ⟨fun s x hs => ⟨completes_frameTick hs, completes_tickWaits hs⟩,
    fun c s t h htick hon haon => exec_count h htick hon haon, fun s h hs hd hlo hoff hc hm => ⟨fun hl => ?_,
        fun hl => ?_⟩⟩
  · exact shadow_applies hs hd hlo hoff hc hm hl
  · rw [shadowTick_late hs hd hc hl]
    exact ⟨rfl, rfl⟩

end Sys2Proof.Machine
end

section
/-! SUPPORT. Writes over the bus, and the fields of the classes S and F (R67 to R79, R505). -/

namespace Sys2Proof.Machine
set_option Elab.async false

/-! ### The bus (R77, R78, R79, R86) -/

/-- A write that R78 discards whole: not all the bytes of its registers. -/
def Misfit (off : Nat) (eight : Bool) (be : BitVec 8) : Prop :=
  eight = true ∧ (off % 8 ≠ 0 ∨ be ≠ 255) ∨ eight = false ∧ (off % 4 ≠ 0 ∨ be.toNat % 16 ≠ 15)

theorem misfit_iff {off : Nat} {be : BitVec 8} (eight : Bool) :
    (off % (if eight then 8 else 4) ≠ 0 ∨
        be.toNat % ((if eight then 255 else 15) + 1) ≠ (if eight then 255 else 15)) ↔ Misfit off eight be := by
  unfold Misfit
  cases eight
  · simp
  · have hall : be = 255#8 ↔ be.toNat = 255 := ⟨fun h => by rw [h]; rfl, fun h => BitVec.eq_of_toNat_eq h⟩
    simp [hall, Nat.mod_eq_of_lt be.isLt]

theorem busWrite_misfit {w : Writer} {off data phase : Nat} {be : BitVec 8} {eight : Bool} {s : State}
    (h : Misfit off eight be) :
    busWrite w off eight be.toNat data phase s = reach w off (data % 2 ^ 32) (werrRange w off) s :=
  if_pos ((misfit_iff eight).2 h)

theorem busWrite_fit {w : Writer} {off data phase : Nat} {be : BitVec 8} {eight : Bool} {s : State}
    (h : ¬ Misfit off eight be) : busWrite w off eight be.toNat data phase s =
      (reach w off (data % 2 ^ 32) (writeRegister w off (data % 2 ^ 32) phase) s
        |> when eight (reach w (off + 4) (data / 2 ^ 32) (writeRegister w (off + 4) (data / 2 ^ 32) phase))) :=
  if_neg fun h' => h ((misfit_iff eight).1 h')

theorem reach_foreign {w : Writer} {addr data : Nat} {k : State → State} {s : State} (h : mayWrite w addr data s =
    false) :
    reach w addr data k s = foreignWrite w s := by
  simp [reach, h]

theorem reach_dark {w : Writer} {addr data : Nat} {k : State → State} {s : State} (h : mayWrite w addr data s = true)
    (hd : pageDark (addr / 4096) s = true) : reach w addr data k s = darkWrite w addr s := by
  simp [reach, h, hd]

/-- The fields that show a foreign write (R77). -/
def foreignFields : List Fld := [Reg.SYS.FOREIGN_WR_COUNT, Reg.SYS.FOREIGN_WR_PORT]

theorem changes_foreignWrite (w : Writer) (s : State) : Changes [] foreignFields s (foreignWrite w s) :=
  ((Changes.refl _ _ s).inc _ (by simp [foreignFields])).set _ _ (by simp [foreignFields])

theorem code_lt (w : Writer) : w.code < 8 := by
  cases w <;> simp [Writer.code]
  omega

/-- Only a port's writes are foreign (R77). -/
theorem code_of_foreign {w : Writer} {addr data : Nat} {s : State} (h : mayWrite w addr data s = false) : w.code < 4
    := by
  cases w with
  | port n => exact n.isLt
  | mgmt => exact absurd h (by simp [mayWrite])
  | gaffer => exact absurd h (by simp [mayWrite])

theorem get_foreignWrite {w : Writer} (hw : w.code < 4) (s : State) :
    get Reg.SYS.FOREIGN_WR_COUNT (foreignWrite w s) = oneMore Reg.SYS.FOREIGN_WR_COUNT s ∧
      get Reg.SYS.FOREIGN_WR_PORT (foreignWrite w s) = w.code := by
  exact ⟨(get_set_other _ _ (by decide)).trans (get_inc_same _ _), (get_set_same _ _ _).trans (Nat.mod_eq_of_lt hw)⟩

theorem mayWrite_foreignWrite (w v : Writer) (addr data : Nat) (s : State) :
    mayWrite v addr data (foreignWrite w s) = mayWrite v addr data s := by
  have hport : get Reg.SYS.MGMT_PORT_PORT (foreignWrite w s) = get Reg.SYS.MGMT_PORT_PORT s :=
    (changes_foreignWrite w s).regs _ (by decide) (by decide)
  unfold mayWrite
  rw [hport]

/-- A write to a dark page (R86). -/
theorem get_darkWrite (w : Writer) {addr : Nat} (ha : addr < 2 ^ 24) (s : State) :
    get Reg.SYS.DARKWRITES_COUNT (darkWrite w addr s) = oneMore Reg.SYS.DARKWRITES_COUNT s ∧
      get Reg.SYS.DARK_LAST_PAGE (darkWrite w addr s) = addr / 4096 ∧
      get Reg.SYS.DARK_LAST_OFFSET (darkWrite w addr s) = addr % 4096 ∧
      get Reg.SYS.DARK_LAST_SOURCE (darkWrite w addr s) = w.code := by
  have hcode := code_lt w
  simp (disch := decide) only [darkWrite, get_set_other, get_set_same, get_inc_same]
  exact ⟨trivial, Nat.mod_eq_of_lt (by simp [Reg.SYS.DARK_LAST_PAGE]; omega),
    Nat.mod_eq_of_lt (Nat.mod_lt _ (by decide)), Nat.mod_eq_of_lt hcode⟩

theorem changes_darkWrite (w : Writer) (addr : Nat) (s : State) :
    Changes [] [Reg.SYS.DARKWRITES_COUNT, Reg.SYS.DARK_LAST_PAGE, Reg.SYS.DARK_LAST_OFFSET, Reg.SYS.DARK_LAST_SOURCE] s
      (darkWrite w addr s) :=
  ((((Changes.refl _ _ s).inc _ (by simp)).set _ _ (by simp)).set _ _ (by simp)).set _ _ (by simp)

/-- The write errors of any page. -/
theorem werr_settle (p lo : Nat) {f : Fld} (h : 0x14 * 32 + lo ∉ settleKeys.map (· % 131072))
    (hlo : 0x14 * 32 + lo < 131072)
    (ha : f.addr = 4096 * p + 0x14) (hl : f.lo = lo) : f.key ∉ settleKeys := by
  refine notSettled_of_offset ?_
  rw [key_offset hlo f ha hl]
  exact h

section
variable {s : State} (hs : Ready s) {w : Writer} {off : BitVec 24} {eight : Bool} {be : BitVec 8} {data : BitVec 64}
  {phase : Nat}
include hs

/-- A write of eight bytes, foreign in both its registers, counts twice (R77, R78). -/
theorem completes_foreignTwice (h1 : mayWrite w off.toNat (data.toNat % 2 ^ 32) s = false) (he : eight = true)
    (hfit : ¬ Misfit off.toNat eight be) (h2 : mayWrite w (off.toNat + 4) (data.toNat / 2 ^ 32) s = false) :
    Completes (.registerWrite w off eight be data phase) s fun t =>
      get Reg.SYS.FOREIGN_WR_COUNT t = satAdd (2 ^ Reg.SYS.FOREIGN_WR_COUNT.w - 1) (oneMore Reg.SYS.FOREIGN_WR_COUNT
          s) 1 ∧
      get Reg.SYS.FOREIGN_WR_PORT t = w.code ∧ Changes [] foreignFields s t := by
  have hcode := code_of_foreign h1
  have h1b : mayWrite w off.toNat (data.toNat % 2 ^ 32) (begun s) = false := h1
  have h2b : mayWrite w (off.toNat + 4) (data.toNat / 2 ^ 32) (foreignWrite w (begun s)) = false :=
    (mayWrite_foreignWrite _ _ _ _ _).trans h2
  have hf : busWrite w off.toNat eight be.toNat data.toNat phase (begun s) = foreignWrite w (foreignWrite w
      (begun s)) := by
    rw [busWrite_fit hfit, he, when_true, reach_foreign h1b, reach_foreign h2b]
  obtain ⟨hcount, -⟩ := get_foreignWrite hcode (begun s)
  obtain ⟨hcount2, hport⟩ := get_foreignWrite hcode (foreignWrite w (begun s))
  have hc := (Changes.begin _ _ s).trans ((changes_foreignWrite w _).trans (changes_foreignWrite w (foreignWrite w
      (begun s))))
  refine .leaves hs rfl hf (hc.reqs.trans hs.2) fun t k =>
    ⟨k.stored (by decide) (hcount2.trans ?_), k.stored (by decide) hport, hc.ended k⟩
  rw [oneMore, hcount]
  rfl

/-- Of a write of one register, or of one that fits none, only the low word's rights count (R77). -/
theorem completes_foreignOnce (h1 : mayWrite w off.toNat (data.toNat % 2 ^ 32) s = false)
    (hone : eight = false ∨ Misfit off.toNat eight be) :
    Completes (.registerWrite w off eight be data phase) s fun t =>
      get Reg.SYS.FOREIGN_WR_COUNT t = oneMore Reg.SYS.FOREIGN_WR_COUNT s ∧ get Reg.SYS.FOREIGN_WR_PORT t = w.code ∧
      Changes [] foreignFields s t := by
  have hcode := code_of_foreign h1
  have h1b : mayWrite w off.toNat (data.toNat % 2 ^ 32) (begun s) = false := h1
  have hf : busWrite w off.toNat eight be.toNat data.toNat phase (begun s) = foreignWrite w (begun s) := by
    by_cases hm : Misfit off.toNat eight be
    · rw [busWrite_misfit hm, reach_foreign h1b]
    · rw [busWrite_fit hm, hone.resolve_right hm, when_false, reach_foreign h1b]
  obtain ⟨hcount, hport⟩ := get_foreignWrite hcode (begun s)
  have hc := (Changes.begin _ _ s).trans (changes_foreignWrite w _)
  exact .leaves hs rfl hf (hc.reqs.trans hs.2) fun t k =>
    ⟨k.stored (by decide) hcount, k.stored (by decide) hport, hc.ended k⟩

theorem completes_darkOnce (h1 : mayWrite w off.toNat (data.toNat % 2 ^ 32) s = true)
    (hd : pageDark (off.toNat / 4096) s = true) (hone : eight = false ∨ Misfit off.toNat eight be) :
    Completes (.registerWrite w off eight be data phase) s fun t =>
      get Reg.SYS.DARKWRITES_COUNT t = oneMore Reg.SYS.DARKWRITES_COUNT s ∧
      get Reg.SYS.DARK_LAST_PAGE t = off.toNat / 4096 ∧ get Reg.SYS.DARK_LAST_OFFSET t = off.toNat % 4096 ∧
      get Reg.SYS.DARK_LAST_SOURCE t = w.code ∧
      Changes [] [Reg.SYS.DARKWRITES_COUNT, Reg.SYS.DARK_LAST_PAGE, Reg.SYS.DARK_LAST_OFFSET, Reg.SYS.DARK_LAST_SOURCE]
        s t := by
  have h1b : mayWrite w off.toNat (data.toNat % 2 ^ 32) (begun s) = true := h1
  have hdb : pageDark (off.toNat / 4096) (begun s) = true := hd
  have hf : busWrite w off.toNat eight be.toNat data.toNat phase (begun s) = darkWrite w off.toNat (begun s) := by
    by_cases hm : Misfit off.toNat eight be
    · rw [busWrite_misfit hm, reach_dark h1b hdb]
    · rw [busWrite_fit hm, hone.resolve_right hm, when_false, reach_dark h1b hdb]
  obtain ⟨hcount, hpage, hoff, hsrc⟩ := get_darkWrite w off.isLt (begun s)
  have hc := (Changes.begin _ _ s).trans (changes_darkWrite w off.toNat _)
  exact .leaves hs rfl hf (hc.reqs.trans hs.2) fun t k =>
    ⟨k.stored (by decide) hcount, k.stored (by decide) hpage, k.stored (by decide) hoff, k.stored (by decide) hsrc,
      hc.ended k⟩

theorem completes_misfit (hr : Reaches w off.toNat (data.toNat % 2 ^ 32) s) (hm : Misfit off.toNat eight be) :
    Completes (.registerWrite w off eight be data phase) s fun t =>
      get (Reg.BLKWERR_RANGE (off.toNat / 4096)) t = 1 ∧
      get (Reg.BLKWERR_OFFSET (off.toNat / 4096)) t = off.toNat % 4096 ∧
      Changes [] [Reg.BLKWERR_RANGE (off.toNat / 4096), Reg.BLKWERR_OFFSET (off.toNat / 4096),
        Reg.BLKWERR_SOURCE (off.toNat / 4096)] s t := by
  have hf : busWrite w off.toNat eight be.toNat data.toNat phase (begun s) = werrRange w off.toNat (begun s) :=
    (busWrite_misfit hm).trans (reach_eq (s := begun s) hr _)
  have hc := (Changes.begin _ _ s).trans (changes_werrRange w off.toNat _)
  refine .leaves hs rfl hf (hc.reqs.trans hs.2) fun t k =>
    ⟨k.stored (werr_settle _ 2 (by decide) (by decide) rfl rfl) (get_werrRange _ _ _), k.stored (werr_settle _ 16
        (by decide) (by decide) rfl rfl) ?_, hc.ended k⟩
  refine (get_set_other _ _ (by simp [Fld.key, Reg.BLKWERR_OFFSET, Reg.BLKWERR_SOURCE])).trans ?_
  exact (get_set_same _ _ _).trans (Nat.mod_eq_of_lt (Nat.mod_lt _ (by decide)))

end

/-! ### A field of class S, and one of class F (R67 to R72, R505) -/

/-- `ENG.SHUNT.MICROOHM`, of class S. -/
def shuntDef : FDef := ⟨Reg.ENG.SHUNT_MICROOHM, .rw, .s, 100, 10000, false, false⟩

/-- `SAV.RIDE_MIN.MS`, of class F. -/
def rideDef : FDef := ⟨Reg.SAV.RIDE_MIN_MS, .rw, .f, 1, 4000, false, false⟩

theorem fieldsAt_shunt : fieldsAt 0x8012C = [shuntDef] := by
  decide +kernel

theorem fieldsAt_ride : fieldsAt 0x42108 = [rideDef] := by
  decide +kernel

theorem writeRegister_shunt (w : Writer) (v phase : Nat) (s : State) :
    writeRegister w 0x8012C v phase s = writeField w shuntDef v phase s := by
  simp [writeRegister, show isPool 0x80 0x12C = false by decide, writeAlwaysOn, writeFields, fieldsAt_shunt]

theorem writeRegister_ride (w : Writer) (v phase : Nat) (s : State) :
    writeRegister w 0x42108 v phase s = writeField w rideDef v phase s := by
  simp [writeRegister, show isPool 0x42 0x108 = false by decide, writeRest, writeFields, fieldsAt_ride]

theorem fieldTaken_shunt (x : Nat) (s : State) : fieldTaken shuntDef x s = s := by
  simp [fieldTaken, shuntDef, mapField, followField, requestDomain, Fld.key, Reg.ENG.SHUNT_MICROOHM,
      Reg.SCR.PERIOD_HOURS,
    Reg.DOM.CFG_MEMBERS, Reg.TWN.CFG_ACK_MODE, Reg.SPR.RATE_MBS, Reg.SPR.CFG_AUTO_MIGRATE, Reg.PDM.DOM_CTL_REQ,
    Reg.CUL.INDEX_INDEX, Reg.RSR.CONTINUITY_INDEX, Reg.TRN.TABLE_IDX_INDEX, Reg.DMC.XLATE_LO_ADDR]

theorem fieldTaken_ride (x : Nat) (s : State) : fieldTaken rideDef x s = s := by
  simp [fieldTaken, rideDef, mapField, followField, requestDomain, Fld.key, Reg.SAV.RIDE_MIN_MS, Reg.SCR.PERIOD_HOURS,
    Reg.DOM.CFG_MEMBERS, Reg.TWN.CFG_ACK_MODE, Reg.SPR.RATE_MBS, Reg.SPR.CFG_AUTO_MIGRATE, Reg.PDM.DOM_CTL_REQ,
    Reg.CUL.INDEX_INDEX, Reg.RSR.CONTINUITY_INDEX, Reg.TRN.TABLE_IDX_INDEX, Reg.DMC.XLATE_LO_ADDR]

/-- These two fields have no check beyond their range. -/
theorem valueOk_shunt (v : Nat) (s : State) : valueOk shuntDef v v s = (decide (100 ≤ v) && decide (v ≤ 10000)) := by
  simp [valueOk, shuntDef, inRange, crossOk, Fld.key, Reg.ENG.SHUNT_MICROOHM, Reg.DMC.CFG_RATE, Reg.PWR.UV_VCAP_MV,
    Reg.PWR.UV_VBAT_MV]
  rfl

theorem valueOk_ride (v : Nat) (s : State) : valueOk rideDef v v s = (decide (1 ≤ v) && decide (v ≤ 4000)) := by
  simp [valueOk, rideDef, inRange, crossOk, Fld.key, Reg.SAV.RIDE_MIN_MS, Reg.DMC.CFG_RATE, Reg.PWR.UV_VCAP_MV,
    Reg.PWR.UV_VBAT_MV]
  rfl

/-- A class F field that no unit takes at its write is left to its shadow (R68). -/
theorem writeField_shadowed {d : FDef} (hacc : d.acc = .rw) (hcls : d.cls = .f) (hpage : (d.f.addr / 4096 == 1) = false)
    (htaken : ∀ x s, fieldTaken d x s = s) (w : Writer) (v phase : Nat) (s : State) : writeField w d v phase s =
      writeShadowed w d.f (bitsOf v d.f.lo d.f.w) phase (valueOk d (bitsOf v d.f.lo d.f.w) v s) s := by
  unfold writeField
  rw [hacc, hcls, hpage]
  simp only [htaken, ite_self, when_false]

/-- A field without a shadow shows its value. -/
theorem shown_of_none {f : Fld} {s : State} (h : ∀ e ∈ s.shadows, e.f.key ≠ f.key) : shown f s = get f s := by
  have hnil : s.shadows.filter (fun e => e.f.key == f.key) = [] :=
    List.filter_eq_nil_iff.2 fun e he => by simpa using h e he
  simp [shown, pendingOfField, hnil]

section
variable {s : State} (hs : Ready s) {w : Writer} {phase : Nat}
include hs

/-- A write of one of the two registers, whole and taken, writes its field. -/
theorem completes_fieldWrite {off : BitVec 24} {n : Nat} (v : BitVec n) (hn : n ≤ 32) (hoff : off.toNat % 4 = 0)
    (hw : Reaches w off.toNat v.toNat s) {u : State} (he : writeRegister w off.toNat v.toNat phase (begun s) = u)
    (hu : u.reqs = []) {P : State → Prop} (h : ∀ t, Keeps settleKeys u t → P t) :
    Completes (.registerWrite w off false 15 (v.setWidth 64) phase) s P := by
  have hlt : v.toNat < 2 ^ 32 := v.isLt.trans_le (Nat.pow_le_pow_right (by decide) hn)
  have hlow : (v.setWidth 64).toNat = v.toNat := by
    rw [BitVec.toNat_setWidth]
    exact Nat.mod_eq_of_lt (hlt.trans (by decide))
  have hfit : ¬ Misfit off.toNat false (15 : BitVec 8) := by
    unfold Misfit
    simp [hoff]
  refine .leaves hs (f := busWrite w off.toNat false (15 : BitVec 8).toNat (v.setWidth 64).toNat phase) rfl ?_ hu h
  rw [busWrite_fit hfit, when_false, hlow, Nat.mod_eq_of_lt hlt, reach_eq (s := begun s) hw]
  exact he

end

/-- A refused write shows its error in the page's header (R83). -/
theorem get_werr {bit : Nat → Fld} {lo : Nat} (hb : ∀ p, bit p = ⟨4096 * p + 0x14, lo, 1, 0⟩) (hlo : lo < 16)
    (w : Writer)
    (addr : Nat) (s : State) : get (bit (addr / 4096)) (werr bit w addr s) = 1 := by
  have h1 : (bit (addr / 4096)).key ≠ (Reg.BLKWERR_SOURCE (addr / 4096)).key := by
    simp [hb, Fld.key, Reg.BLKWERR_SOURCE]
    omega
  have h2 : (bit (addr / 4096)).key ≠ (Reg.BLKWERR_OFFSET (addr / 4096)).key := by
    simp [hb, Fld.key, Reg.BLKWERR_OFFSET]
    omega
  unfold werr
  rw [get_set_other _ _ h1, get_set_other _ _ h2, get_set_same, hb]
  rfl

theorem changes_werr (bit : Nat → Fld) (w : Writer) (addr : Nat) (s : State) :
    Changes [] [bit (addr / 4096), Reg.BLKWERR_OFFSET (addr / 4096), Reg.BLKWERR_SOURCE (addr / 4096)] s
      (werr bit w addr s) :=
  (((Changes.refl _ _ s).set _ _ (by simp)).set _ _ (by simp)).set _ _ (by simp)

section
variable {s : State} (hs : Ready s) {w : Writer} {v : BitVec 16} {phase : Nat} (hw : Reaches w 0x8012C v.toNat s)
  (hnone : ∀ h ∈ s.shadows, h.f.key ≠ Reg.ENG.SHUNT_MICROOHM.key)

/-- A write of the class S field, by its checks (R67, R69 to R71). -/
theorem writeShunt_eq : writeRegister w 0x8012C v.toNat phase s =
    writeStatic w Reg.ENG.SHUNT_MICROOHM v.toNat (decide (100 ≤ v.toNat) && decide (v.toNat ≤ 10000)) id s := by
  have hbits : bitsOf v.toNat Reg.ENG.SHUNT_MICROOHM.lo Reg.ENG.SHUNT_MICROOHM.w = v.toNat := by
    have := v.isLt
    simp [bitsOf, Reg.ENG.SHUNT_MICROOHM]
    omega
  have hvalue : writeField w shuntDef v.toNat phase s = writeStatic w Reg.ENG.SHUNT_MICROOHM v.toNat
      (valueOk shuntDef v.toNat v.toNat s) (fieldTaken shuntDef v.toNat) s := by
    have : bitsOf v.toNat shuntDef.f.lo shuntDef.f.w = v.toNat := hbits
    unfold writeField
    rw [this]
    rfl
  rw [writeRegister_shunt, hvalue, valueOk_shunt, show fieldTaken shuntDef v.toNat = id from funext
      (fieldTaken_shunt _)]

/-- The value that the field shows, without a shadow of it. -/
theorem shown_shunt (hnone : ∀ h ∈ s.shadows, h.f.key ≠ Reg.ENG.SHUNT_MICROOHM.key) :
    shown Reg.ENG.SHUNT_MICROOHM s = get Reg.ENG.SHUNT_MICROOHM s := shown_of_none hnone

include hs hw

/-- A write of the class S field that is refused with an error of its own. -/
theorem completes_shuntError {bit : Nat → Fld} {lo : Nat} (hb : ∀ p, bit p = ⟨4096 * p + 0x14, lo, 1, 0⟩)
    (hlo : lo < 16)
    (hset : (bit 0x80).key ∉ settleKeys) (he : writeRegister w 0x8012C v.toNat phase (begun s) = werr bit w 0x8012C
        (begun s)) :
    Completes (.registerWrite w 0x8012C false 15 (v.setWidth 64) phase) s fun t =>
      get (bit 0x80) t = 1 ∧ get Reg.ENG.SHUNT_MICROOHM t = get Reg.ENG.SHUNT_MICROOHM s ∧
      Changes [] [bit 0x80, Reg.BLKWERR_OFFSET 0x80, Reg.BLKWERR_SOURCE 0x80] s t := by
  have hc := (Changes.begin _ _ s).trans (changes_werr bit w 0x8012C (begun s))
  refine completes_fieldWrite hs (off := 0x8012C) v (by decide) (by decide) hw he (hc.reqs.trans hs.2) fun t k =>
    ⟨k.stored hset (get_werr hb hlo w 0x8012C _), (hc.ended k).regs _ ?_ (by decide), hc.ended k⟩
  have hne : Reg.ENG.SHUNT_MICROOHM.key ≠ (bit 0x80).key := by
    simp [hb, Fld.key, Reg.ENG.SHUNT_MICROOHM]
    omega
  have hrest : Reg.ENG.SHUNT_MICROOHM.key ∉ [Reg.BLKWERR_OFFSET 0x80, Reg.BLKWERR_SOURCE 0x80].map Fld.key := by decide
  intro hmem
  rcases List.mem_cons.1 hmem with h | h
  · exact hne h
  · exact hrest h

include hnone

theorem completes_shuntEqual (hv : v.toNat = get Reg.ENG.SHUNT_MICROOHM s) :
    Completes (.registerWrite w 0x8012C false 15 (v.setWidth 64) phase) s fun t => Changes [] [] s t := by
  refine completes_fieldWrite hs (off := 0x8012C) v (by decide) (by decide) hw (u := begun s) ?_ hs.2 fun t k =>
    (Changes.begin _ _ s).ended k
  exact writeShunt_eq.trans (if_pos (hv.trans (shown_shunt (s := begun s) hnone).symm))

theorem completes_shuntLocked (hv : v.toNat ≠ get Reg.ENG.SHUNT_MICROOHM s) (hl : isSet (Reg.LOCK_LOCK 0x80) s = true) :
    Completes (.registerWrite w 0x8012C false 15 (v.setWidth 64) phase) s fun t =>
      get (Reg.BLKWERR_LOCKED 0x80) t = 1 ∧ get Reg.ENG.SHUNT_MICROOHM t = get Reg.ENG.SHUNT_MICROOHM s ∧
      Changes [] [Reg.BLKWERR_LOCKED 0x80, Reg.BLKWERR_OFFSET 0x80, Reg.BLKWERR_SOURCE 0x80] s t := by
  have hne : v.toNat ≠ shown Reg.ENG.SHUNT_MICROOHM (begun s) := by rwa [shown_shunt (s := begun s) hnone]
  exact completes_shuntError hs hw (bit := Reg.BLKWERR_LOCKED) (fun _ => rfl) (by decide) (by decide)
    (writeShunt_eq.trans ((if_neg hne).trans (if_pos hl)))

theorem completes_shuntEnabled (hv : v.toNat ≠ get Reg.ENG.SHUNT_MICROOHM s) (hl : isSet (Reg.LOCK_LOCK 0x80) s = false)
    (he : isSet (Reg.BLKCTL_ENABLE 0x80) s = true) :
    Completes (.registerWrite w 0x8012C false 15 (v.setWidth 64) phase) s fun t =>
      get (Reg.BLKWERR_STATIC 0x80) t = 1 ∧ get Reg.ENG.SHUNT_MICROOHM t = get Reg.ENG.SHUNT_MICROOHM s ∧
      Changes [] [Reg.BLKWERR_STATIC 0x80, Reg.BLKWERR_OFFSET 0x80, Reg.BLKWERR_SOURCE 0x80] s t := by
  have hne : v.toNat ≠ shown Reg.ENG.SHUNT_MICROOHM (begun s) := by rwa [shown_shunt (s := begun s) hnone]
  exact completes_shuntError hs hw (bit := Reg.BLKWERR_STATIC) (fun _ => rfl) (by decide) (by decide)
    (writeShunt_eq.trans ((if_neg hne).trans ((if_neg (ne_true_of_eq_false hl)).trans (if_pos he))))

theorem completes_shuntBusy (hv : v.toNat ≠ get Reg.ENG.SHUNT_MICROOHM s) (hl : isSet (Reg.LOCK_LOCK 0x80) s = false)
    (he : isSet (Reg.BLKCTL_ENABLE 0x80) s = false) (hb : pageBusy 0x80 s = true) :
    Completes (.registerWrite w 0x8012C false 15 (v.setWidth 64) phase) s fun t =>
      get (Reg.BLKWERR_BUSY 0x80) t = 1 ∧ get Reg.ENG.SHUNT_MICROOHM t = get Reg.ENG.SHUNT_MICROOHM s ∧
      Changes [] [Reg.BLKWERR_BUSY 0x80, Reg.BLKWERR_OFFSET 0x80, Reg.BLKWERR_SOURCE 0x80] s t := by
  have hne : v.toNat ≠ shown Reg.ENG.SHUNT_MICROOHM (begun s) := by rwa [shown_shunt (s := begun s) hnone]
  exact completes_shuntError hs hw (bit := Reg.BLKWERR_BUSY) (fun _ => rfl) (by decide) (by decide)
    (writeShunt_eq.trans ((if_neg hne).trans ((if_neg (ne_true_of_eq_false hl)).trans
      ((if_neg (ne_true_of_eq_false he)).trans (if_pos hb)))))

theorem completes_shuntRange (hv : v.toNat ≠ get Reg.ENG.SHUNT_MICROOHM s) (hl : isSet (Reg.LOCK_LOCK 0x80) s = false)
    (he : isSet (Reg.BLKCTL_ENABLE 0x80) s = false) (hb : pageBusy 0x80 s = false) (hr : v.toNat < 100 ∨ 10000 <
        v.toNat) :
    Completes (.registerWrite w 0x8012C false 15 (v.setWidth 64) phase) s fun t =>
      get (Reg.BLKWERR_RANGE 0x80) t = 1 ∧ get Reg.ENG.SHUNT_MICROOHM t = get Reg.ENG.SHUNT_MICROOHM s ∧
      Changes [] [Reg.BLKWERR_RANGE 0x80, Reg.BLKWERR_OFFSET 0x80, Reg.BLKWERR_SOURCE 0x80] s t := by
  have hne : v.toNat ≠ shown Reg.ENG.SHUNT_MICROOHM (begun s) := by rwa [shown_shunt (s := begun s) hnone]
  exact completes_shuntError hs hw (bit := Reg.BLKWERR_RANGE) (fun _ => rfl) (by decide) (by decide)
    (writeShunt_eq.trans ((if_neg hne).trans ((if_neg (ne_true_of_eq_false hl)).trans
      ((if_neg (ne_true_of_eq_false he)).trans ((if_neg (ne_true_of_eq_false hb)).trans (if_pos (by simp; omega)))))))

theorem completes_shuntWritten (hl : isSet (Reg.LOCK_LOCK 0x80) s = false) (he : isSet
    (Reg.BLKCTL_ENABLE 0x80) s = false)
    (hb : pageBusy 0x80 s = false) (h1 : 100 ≤ v.toNat) (h2 : v.toNat ≤ 10000) :
    Completes (.registerWrite w 0x8012C false 15 (v.setWidth 64) phase) s fun t =>
      get Reg.ENG.SHUNT_MICROOHM t = v.toNat ∧ Changes [] [Reg.ENG.SHUNT_MICROOHM] s t := by
  by_cases hv : v.toNat = get Reg.ENG.SHUNT_MICROOHM s
  · exact (completes_shuntEqual hs hw hnone hv).mono fun t hc =>
      ⟨(hc.regs _ (by simp) (by decide)).trans hv.symm, hc.mono (fun _ h => h) (by simp)⟩
  · have hne : v.toNat ≠ shown Reg.ENG.SHUNT_MICROOHM (begun s) := by rwa [shown_shunt (s := begun s) hnone]
    refine completes_fieldWrite hs (off := 0x8012C) v (by decide) (by decide) hw
      (u := set Reg.ENG.SHUNT_MICROOHM v.toNat (begun s)) ?_ hs.2 fun t k =>
      ⟨k.stored (by decide) ((get_set_same _ _ _).trans (Nat.mod_eq_of_lt v.isLt)),
        ((Changes.begin _ _ s).set _ _ (by simp)).ended k⟩
    exact writeShunt_eq.trans ((if_neg hne).trans ((if_neg (ne_true_of_eq_false hl)).trans
      ((if_neg (ne_true_of_eq_false he)).trans ((if_neg (ne_true_of_eq_false hb)).trans (if_neg (by simp [h1, h2]))))))

end

section
variable {s : State} (hs : Ready s) {w : Writer} {v : BitVec 12} {phase : Nat} (hw : Reaches w 0x42108 v.toNat s)
  (hnone : ∀ h ∈ s.shadows, h.f.key ≠ Reg.SAV.RIDE_MIN_MS.key)

/-- A write of the class F field, by its checks (R67, R68, R72). -/
theorem writeRide_eq (s : State) : writeRegister w 0x42108 v.toNat phase s =
    writeShadowed w Reg.SAV.RIDE_MIN_MS v.toNat phase (decide (1 ≤ v.toNat) && decide (v.toNat ≤ 4000)) s := by
  have hbits : bitsOf v.toNat rideDef.f.lo rideDef.f.w = v.toNat := by
    have := v.isLt
    simp [bitsOf, rideDef, Reg.SAV.RIDE_MIN_MS]
    omega
  have hx : bitsOf v.toNat rideDef.f.lo rideDef.f.w = v.toNat := hbits
  rw [writeRegister_ride, writeField_shadowed rfl rfl (by decide) fieldTaken_ride, hx, valueOk_ride]
  rfl

include hs hw hnone

theorem completes_rideRange (hl : isSet (Reg.LOCK_LOCK 0x42) s = false) (hv : v.toNat ≠ get Reg.SAV.RIDE_MIN_MS s)
    (hr : decide (1 ≤ v.toNat ∧ v.toNat ≤ 4000) = false) :
    Completes (.registerWrite w 0x42108 false 15 (v.setWidth 64) phase) s fun t =>
      get (Reg.BLKWERR_RANGE 0x42) t = 1 ∧ get Reg.SAV.RIDE_MIN_MS t = get Reg.SAV.RIDE_MIN_MS s ∧
      t.shadows = s.shadows := by
  have hne : v.toNat ≠ shown Reg.SAV.RIDE_MIN_MS (begun s) := by rwa [shown_of_none (s := begun s) hnone]
  have hc := (Changes.begin _ _ s).trans (changes_werr Reg.BLKWERR_RANGE w 0x42108 (begun s))
  refine completes_fieldWrite hs (off := 0x42108) v (by decide) (by decide) hw
    ((writeRide_eq (begun s)).trans ((if_neg hne).trans ((if_neg (ne_true_of_eq_false hl)).trans (if_pos ?_))))
        (hc.reqs.trans hs.2)
    fun t k => ⟨k.stored (by decide) (get_werr (fun _ => rfl) (by decide) w 0x42108 _),
      (hc.ended k).regs _ (by decide) (by decide), (hc.ended k).shadows (by simp)⟩
  rw [Bool.decide_and] at hr
  rw [hr]
  rfl

theorem completes_rideShadow (hl : isSet (Reg.LOCK_LOCK 0x42) s = false) (hv : v.toNat ≠ get Reg.SAV.RIDE_MIN_MS s)
    (hr : decide (1 ≤ v.toNat ∧ v.toNat ≤ 4000) = true) (he : isSet (Reg.BLKCTL_ENABLE 0x42) s = true) :
    Completes (.registerWrite w 0x42108 false 15 (v.setWidth 64) phase) s fun t =>
      t.shadows = s.shadows ++ [{ f := Reg.SAV.RIDE_MIN_MS, value := v.toNat, late := decide (39800 ≤ phase) }] ∧
      get Reg.SAV.RIDE_MIN_MS t = get Reg.SAV.RIDE_MIN_MS s ∧ Changes [.shadows] [] s t := by
  have hne : v.toNat ≠ shown Reg.SAV.RIDE_MIN_MS (begun s) := by rwa [shown_of_none (s := begun s) hnone]
  have hkeep : s.shadows.filter (fun h => !(h.f.key == Reg.SAV.RIDE_MIN_MS.key && h.late == decide (39800 ≤ phase))) =
      s.shadows := List.filter_eq_self.2 fun h hm => by simp [hnone h hm]
  have hc : Changes [.shadows] [] s (addShadow Reg.SAV.RIDE_MIN_MS v.toNat phase (begun s)) :=
    (Changes.begin _ _ s).in_shadows _ (by simp)
  rw [Bool.decide_and] at hr
  refine completes_fieldWrite hs (off := 0x42108) v (by decide) (by decide) hw
    ((writeRide_eq (begun s)).trans ((if_neg hne).trans ((if_neg (ne_true_of_eq_false hl)).trans
      ((if_neg (by rw [hr]; simp)).trans (if_pos he))))) hs.2
    fun t k => ⟨k.shadows.trans (congrArg (· ++ _) hkeep), k.get _ (by decide), hc.ended k⟩

theorem completes_rideWritten (hl : isSet (Reg.LOCK_LOCK 0x42) s = false) (hv : v.toNat ≠ get Reg.SAV.RIDE_MIN_MS s)
    (hr : decide (1 ≤ v.toNat ∧ v.toNat ≤ 4000) = true) (he : isSet (Reg.BLKCTL_ENABLE 0x42) s = false) :
    Completes (.registerWrite w 0x42108 false 15 (v.setWidth 64) phase) s fun t =>
      get Reg.SAV.RIDE_MIN_MS t = v.toNat ∧ Changes [] [Reg.SAV.RIDE_MIN_MS] s t := by
  have hne : v.toNat ≠ shown Reg.SAV.RIDE_MIN_MS (begun s) := by rwa [shown_of_none (s := begun s) hnone]
  rw [Bool.decide_and] at hr
  exact completes_fieldWrite hs (off := 0x42108) v (by decide) (by decide) hw
    (u := set Reg.SAV.RIDE_MIN_MS v.toNat (begun s))
    ((writeRide_eq (begun s)).trans ((if_neg hne).trans ((if_neg (ne_true_of_eq_false hl)).trans
      ((if_neg (by rw [hr]; simp)).trans (if_neg (ne_true_of_eq_false he)))))) hs.2
    fun t k => ⟨k.stored (by decide) ((get_set_same _ _ _).trans (Nat.mod_eq_of_lt v.isLt)),
      ((Changes.begin _ _ s).set _ _ (by simp)).ended k⟩

end

/-- Settles O58. -/
theorem registerWrites : Obligations.RegisterWrites := by
  unfold Obligations.RegisterWrites
  exact fun s hs w phase =>
    ⟨fun off eight be data =>
      ⟨fun h1 he hfit h2 => completes_foreignTwice hs h1 he hfit h2, fun h1 hone => completes_foreignOnce hs h1 hone,
        fun h1 hd hone => completes_darkOnce hs h1 hd hone, fun hr hm => completes_misfit hs hr hm⟩,
      fun v hw hnone => ⟨completes_shuntEqual hs hw hnone, completes_shuntLocked hs hw hnone,
        completes_shuntEnabled hs hw hnone, completes_shuntBusy hs hw hnone, completes_shuntRange hs hw hnone,
        completes_shuntWritten hs hw hnone⟩,
      fun v hw hnone hl hv => ⟨completes_rideRange hs hw hnone hl hv, completes_rideShadow hs hw hnone hl hv,
        completes_rideWritten hs hw hnone hl hv⟩⟩

end Sys2Proof.Machine
end

section
/-! SUPPORT. The ports: their configuration space, PERST_N, link training and decoders (R103 to R120). -/

namespace Sys2Proof.Machine
set_option Elab.async false

/-- A command whose effect leaves `u`, of which something is said under a condition that keeps it from asking for a
reaction. -/
theorem Completes.leavesWhen {c : Instr} {f : State → State} {s u : State} {Q : Prop} {P : State → Prop} (hs : Ready s)
    (hc : exec c s = run f s) (hf : f (begun s) = u) (h : Q → u.reqs = [] ∧ ∀ t, Keeps settleKeys u t → P t) :
    Completes c s fun t => Q → P t :=
  .leavesIf hs hc (by rwa [hf])

/-- What a port's field reads, its command leaves. -/
theorem Keeps.ports {α : Type} {K : List Nat} {s t : State} (k : Keeps K s t) (g : Hp → α)
    (hg : ∀ x, g (portsCore x) = g x) : g t.hp = g s.hp :=
  ((hg _).symm.trans (congrArg g k.hp)).trans (hg _)

theorem Changes.ports {α : Type} {ps : List Part} {fs : List Fld} {s t : State} (h : Changes ps fs s t) (hn : .hp ∉ ps)
    (g : Hp → α) (hg : ∀ x, g (portsCore x) = g x) : g t.hp = g s.hp :=
  ((hg _).symm.trans (congrArg g (h.hp hn))).trans (hg _)

/-! ### Single bits of a field -/

/-- One bit of a value is put. -/
theorem bitOf_put_same (v k : Nat) (b : Bool) : bitOf (v - bitsOf v k 1 * 2 ^ k + b2n b * 2 ^ k) k = b := by
  have hpos : 0 < 2 ^ k := Nat.two_pow_pos k
  have hv : v = 2 ^ k * (v / 2 ^ k) + v % 2 ^ k := (Nat.div_add_mod _ _).symm
  have hq : v / 2 ^ k = 2 * (v / 2 ^ k / 2) + v / 2 ^ k % 2 := (Nat.div_add_mod _ _).symm
  have he : v - bitsOf v k 1 * 2 ^ k + b2n b * 2 ^ k = 2 ^ k * (2 * (v / 2 ^ k / 2) + b2n b) + v % 2 ^ k := by
    have hmul : v = 2 ^ k * (2 * (v / 2 ^ k / 2)) + bitsOf v k 1 * 2 ^ k + v % 2 ^ k := by
      calc v = 2 ^ k * (2 * (v / 2 ^ k / 2) + v / 2 ^ k % 2) + v % 2 ^ k := by rw [← hq, ← hv]
        _ = _ := by simp [bitsOf]; ring
    have : 2 ^ k * (2 * (v / 2 ^ k / 2) + b2n b) = 2 ^ k * (2 * (v / 2 ^ k / 2)) + b2n b * 2 ^ k := by ring
    omega
  rw [he, bitOf, Nat.mul_add_div hpos, Nat.div_eq_of_lt (Nat.mod_lt _ hpos)]
  cases b
  · simp [b2n]
  · simp [b2n]

/-- The low bit of a value without the bits of a mask. -/
theorem cleared_mod_two (v m : Nat) : (v &&& m) % 2 ≤ v % 2 ∧
    (v % 2 - (v &&& m) % 2 = 1 ↔ v % 2 = 1 ∧ m % 2 = 0) := by
  have hand : (v &&& m) % 2 = v % 2 &&& m % 2 := Nat.and_mod_two_pow (n := 1)
  rw [hand]
  rcases Nat.mod_two_eq_zero_or_one v with h | h
  · simp [h]
  · rcases Nat.mod_two_eq_zero_or_one m with h' | h'
    · simp [h, h']
    · simp [h, h']

/-- The bits that a mask names are cleared. -/
theorem testBit_cleared (i : Nat) : ∀ v m : Nat, (v - (v &&& m)).testBit i = (v.testBit i && !m.testBit i) := by
  induction i with
  | zero =>
    intro v m
    have hle : v &&& m ≤ v := Nat.and_le_left
    obtain ⟨hlow, hbit⟩ := cleared_mod_two v m
    have he : (v - (v &&& m)) % 2 = v % 2 - (v &&& m) % 2 := by omega
    simp only [Nat.testBit_zero]
    rw [he, decide_eq_decide.2 hbit, Bool.decide_and]
    rcases Nat.mod_two_eq_zero_or_one m with h | h
    · simp [h]
    · simp [h]
  | succ i ih =>
    intro v m
    have hle : v &&& m ≤ v := Nat.and_le_left
    have hhalf : (v &&& m) / 2 = v / 2 &&& m / 2 := Nat.and_div_two
    obtain ⟨hlow, -⟩ := cleared_mod_two v m
    have he : (v - (v &&& m)) / 2 = v / 2 - (v / 2 &&& m / 2) := by
      rw [← hhalf]
      omega
    simp only [Nat.testBit_succ]
    rw [he, ih]

theorem cleared_and (v m : Nat) : (v - Nat.land v m) &&& m = 0 := by
  refine Nat.eq_of_testBit_eq fun i => ?_
  rw [Nat.testBit_and]
  simpa using fun h => by
    have := (testBit_cleared i v m).symm.trans h
    simp at this
    exact this.2

theorem getD_modify {α : Type} (l : List α) (i : Nat) (f : α → α) (d : α) :
    (modify l i f).getD i d = if i < l.length then f (l.getD i d) else d := by
  induction l generalizing i with
  | nil => simp [modify]
  | cons a l ih =>
    cases i with
    | zero => simp [modify]
    | succ i => simpa [modify] using ih i

/-! ### A page wiped (R83, R109) -/

theorem look_filter_all {α : Type} (l : List (Nat × α)) (p : Nat × α → Bool) {k : Nat} (h : ∀ v, p (k, v) = true) :
    look (l.filter p) k = look l k := by
  induction l with
  | nil => rfl
  | cons e l ih =>
    obtain ⟨j, v⟩ := e
    by_cases hp : p (j, v) = true
    · rw [List.filter_cons_of_pos hp, look_cons, look_cons, ih]
    · rw [List.filter_cons_of_neg hp, look_cons, if_neg (fun hj : j = k => hp (hj ▸ h v)), ih]

/-- A register of a page that is wiped reads its reset value. -/
theorem get_wipePage_gone {f : Fld} {p : Nat} {keep : List Nat} (s : State) (hp : pageOfKey f.key = p)
    (hk : f.key ∉ keep)
    (hr : f.key ∉ keptKeys p) : get f (wipePage p keep s) = f.reset := by
  have hnone : look (wipePage p keep s).regs f.key = none :=
    look_filter_none _ _ fun v => by simp [hp, hk, hr]
  rw [get, hnone]
  rfl

/-- A register that the wipe keeps. -/
theorem get_wipePage_kept {f : Fld} {p : Nat} {keep : List Nat} (s : State)
    (h : pageOfKey f.key ≠ p ∨ f.key ∈ keep ∨ f.key ∈ keptKeys p) : get f (wipePage p keep s) = get f s := by
  have hsame : look (wipePage p keep s).regs f.key = look s.regs f.key :=
    look_filter_all _ _ fun v => by
      rcases h with h | h | h
      · simp [h]
      · simp [h]
      · simp [h]
  rw [get, hsame]
  rfl

/-- A page without stored settings takes none. -/
theorem reloadStored_none {p : Nat} {s : State} (h : ∀ e ∈ s.upd.settings, e.1 / 131072 ≠ p) : reloadStored p s = s :=
    by
  have hnil : s.upd.settings.filter (fun e => pageOfKey e.1 == p) = [] :=
    List.filter_eq_nil_iff.2 fun e he => by simpa [pageOfKey] using h e he
  unfold reloadStored
  rw [hnil]
  rfl

/-! ### Configuration requests (R102, R106, R116, R119) -/

section
variable {s : State} (hs : Ready s) {n : Fin 4}

theorem keeps_sendPendingOn (p : Nat × Nat → Bool) (s : State) : Keeps settleKeys s (sendPendingOn p s) := by
  refine forEach_keeps (fun u => Keeps settleKeys s u) _ _ _ (Keeps.ofHp _ rfl) fun m _ u hu => ?_
  exact (Keeps.trans hu (Keeps.ofOut [.msix m.1 m.2])).inc _ (by decide)

theorem changes_sendPendingOn (p : Nat × Nat → Bool) (s : State) : Changes [] [] s (sendPendingOn p s) :=
  .ofKeeps (keeps_sendPendingOn p s)

include hs

theorem completes_configRetry (ha : portAlive n s = true) (hr : isSet (Reg.HPT.STS_CFG_READY n) s = false)
    (x : ConfigAccess) :
    Completes (.configRequest n x) s fun t => [Out.config n true 0] <+: t.out ∧ Changes [] [] s t := by
  have he : configRequest n x (begun s) = emit (.config n true 0) (begun s) := by
    unfold configRequest
    rw [if_neg (by simpa using (show portAlive n (begun s) = true from ha))]
    exact if_pos (by simpa using (show isSet (Reg.HPT.STS_CFG_READY n) (begun s) = false from hr))
  exact .leaves hs rfl he hs.2 fun t k => ⟨k.sent rfl, ((Changes.begin _ _ s).emit _).ended k⟩

variable (ha : portAlive n s = true) (hr : isSet (Reg.HPT.STS_CFG_READY n) s = true)
include ha hr

omit hs in
theorem configRequest_ready (x : ConfigAccess) : configRequest n x (begun s) = configAccess n x (begun s) := by
  unfold configRequest
  rw [if_neg (by simpa using (show portAlive n (begun s) = true from ha))]
  exact if_neg (by simpa using (show isSet (Reg.HPT.STS_CFG_READY n) (begun s) = true from hr))

theorem completes_configRead (r : ConfigReg) : Completes (.configRequest n (.read r)) s fun t =>
    [Out.config n false (configWord n r s)] <+: t.out ∧ Changes [] [] s t :=
  .leaves hs rfl (configRequest_ready ha hr _) hs.2 fun t k => ⟨k.sent rfl, ((Changes.begin _ _ s).emit _).ended k⟩

omit hs ha hr in
theorem contains_addNat (l : List Nat) (k : Nat) : (addNat l k).contains k = true :=
  List.contains_iff_mem.2 (mem_addNat_self l k)

theorem completes_viralEnable (on : Bool) : Completes (.configRequest n (.viralEnable on)) s fun t =>
    [Out.config n false 0] <+: t.out ∧ t.hp.viralDvsec.contains n.val = on ∧ Changes [.hp] [] s t := by
  refine .leaves hs rfl (configRequest_ready ha hr _) hs.2 fun t k =>
    ⟨k.sent rfl, (k.ports (fun x : Hp => x.viralDvsec.contains n.val) fun _ => rfl).trans ?_,
      (((Changes.begin _ _ s).in_hp _ (by simp)).emit _).ended k⟩
  cases on
  · show (List.filter _ _).contains n.val = false
    simp
  · exact contains_addNat _ _

theorem completes_msixEntry (v : BitVec 7) (masked : Bool) : Completes (.configRequest n
    (.msixEntry v masked)) s fun t =>
    Out.config n false 0 ∈ t.out ∧ t.hp.msixOpen.contains (n.val, v.toNat) = !masked ∧ Changes [.hp] [] s t := by
  have hmask : Changes [.hp] [] (begun s) (maskEntry n v.toNat masked (begun s)) ∧
      (maskEntry n v.toNat masked (begun s)).hp.msixOpen.contains (n.val, v.toNat) = !masked := by
    cases masked
    · refine ⟨((Changes.refl _ _ (begun s)).in_hp _ (by simp)).cond _ _ fun u hu =>
        hu.trans ((changes_sendPendingOn _ u).mono (by simp) (by simp)), ?_⟩
      refine when_keeps (fun u : State => u.hp.msixOpen.contains (n.val, v.toNat) = true) _ _ _ (by simp) fun hu => ?_
      exact ((keeps_sendPendingOn _ _).ports (fun x : Hp => x.msixOpen.contains (n.val, v.toNat)) fun _ => rfl).trans hu
    · refine ⟨(Changes.refl _ _ (begun s)).in_hp _ (by simp), ?_⟩
      show (List.filter _ _).contains (n.val, v.toNat) = false
      simp
  have hc := ((Changes.begin _ _ s).trans hmask.1).emit (.config n false 0)
  exact .leaves hs rfl (configRequest_ready ha hr _) (hc.reqs.trans hs.2) fun t k =>
    ⟨k.sentLast (List.mem_append_right _ (List.mem_singleton.2 rfl)),
      (k.ports (fun x : Hp => x.msixOpen.contains (n.val, v.toNat)) fun _ => rfl).trans hmask.2, hc.ended k⟩

theorem completes_aerClear (mask : BitVec 32) : Completes (.configRequest n (.aerClear mask)) s fun t =>
    [Out.config n false 0] <+: t.out ∧ t.hp.aer.getD n 0 &&& mask.toNat = 0 ∧ Changes [.hp] [] s t := by
  refine .leaves hs rfl (configRequest_ready ha hr _) hs.2 fun t k =>
    ⟨k.sent rfl, (k.ports (fun x : Hp => x.aer.getD n 0 &&& mask.toNat) fun _ => rfl).trans ?_,
      (((Changes.begin _ _ s).in_hp _ (by simp)).emit _).ended k⟩
  show (modify s.hp.aer n _).getD n 0 &&& mask.toNat = 0
  rw [getD_modify]
  split
  · exact cleared_and _ _
  · exact Nat.zero_and _

end

/-! ### CFG_READY and PERST_N (R106, R109) -/

/-- None of a port's fields is kept up to date by the end of every command. -/
theorem port_settle (n : Fin 4) : ∀ f ∈ [Reg.HPT.STS_CFG_READY n, Reg.HPT.LINK_WIDTH n, Reg.HPT.LINK_RATE n,
    Reg.HPT.LINK_DEGRADED n, Reg.BLKCTL_ENABLE (8 + n), Reg.HPT.CTL_MEDIA_STAGE n, Reg.HPT.STS_FENCED n,
    Reg.HPT.STS_READ_HOLD n, Reg.EVT_STS (8 + n) 0, Reg.HPT.HDM_STS_COMMITTED n, Reg.HPT.HDM_STS_REFUSED n],
    f.key ∉ settleKeys := by
  revert n
  decide +kernel

theorem changes_mediaShow (n : Nat) (s : State) : Changes [] [Reg.HPT.STS_MEDIA n] s (mediaShow n s) :=
  (Changes.refl _ _ s).set _ _ (by simp)

theorem completes_cfgReady {s : State} (hs : Ready s) {n : Fin 4} (ha : portAlive n s = true) :
    Completes (.cfgReady n) s fun t =>
      get (Reg.HPT.STS_CFG_READY n) t = 1 ∧ Changes [] [Reg.HPT.STS_CFG_READY n, Reg.HPT.STS_MEDIA n] s t := by
  have hc := ((Changes.begin [] [Reg.HPT.STS_CFG_READY n, Reg.HPT.STS_MEDIA n] s).set (Reg.HPT.STS_CFG_READY n) 1
      (by simp)).trans
    ((changes_mediaShow n _).mono (by simp) (by simp))
  refine .leaves hs rfl (if_pos (show portAlive n (begun s) = true from ha)) (hc.reqs.trans hs.2) fun t k =>
    ⟨k.stored (port_settle n _ (by simp)) ?_, hc.ended k⟩
  exact (get_set_other _ _ (by simp [Fld.key, Reg.HPT.STS_CFG_READY, Reg.HPT.STS_MEDIA])).trans (get_set_same _ _ _)

/-- The fields that show the required completion time (R111). -/
def ctoFields : List Fld := [0, 1, 2, 3].map fun n => Reg.HPT.CTO_REQ_US n

theorem changes_ctoShow (s : State) : Changes [] ctoFields s (ctoShow s) := by
  refine (Changes.refl [] ctoFields s).each _ _ fun n hn u hu => hu.cond _ _ fun v hv => hv.set _ _ ?_
  exact List.mem_map_of_mem (List.mem_map_of_mem (f := fun n => Reg.HPT.CTO_REQ_US n) hn)

/-- The fields that a link that goes down clears or sets. -/
def downFields (n : Nat) : List Fld :=
  [Reg.HPT.LINK_WIDTH n, Reg.HPT.LINK_RATE n, Reg.HPT.LINK_DEGRADED n, Reg.EVT_STS (8 + n) 0]

theorem changes_portLinkDown (n : Nat) (s : State) : Changes [.hp] (downFields n) s (portLinkDown n s) := by
  refine .branch _ (.refl _ _ s) ?_
  exact ((((Changes.refl [.hp] (downFields n) s).in_hp _ (by simp)).set _ _ (by simp [downFields])).set _ _
    (by simp [downFields])).set _ _ (by simp [downFields]) |>.event _ _ (by simp [downFields])

/-- A link that is down has width 0. -/
theorem width_portLinkDown (n : Nat) (s : State) : get (Reg.HPT.LINK_WIDTH n) (portLinkDown n s) = 0 := by
  unfold portLinkDown
  split
  case isTrue h => exact h
  case isFalse =>
    have h1 : (Reg.HPT.LINK_WIDTH n).key ≠ (Reg.EVT_STS (8 + n) 0).key := by
      simp [Fld.key, Reg.HPT.LINK_WIDTH, Reg.EVT_STS]
      omega
    have h2 : (Reg.HPT.LINK_WIDTH n).key ≠ (Reg.HPT.LINK_DEGRADED n).key := by
      simp [Fld.key, Reg.HPT.LINK_WIDTH, Reg.HPT.LINK_DEGRADED]
    have h3 : (Reg.HPT.LINK_WIDTH n).key ≠ (Reg.HPT.LINK_RATE n).key := by
      simp [Fld.key, Reg.HPT.LINK_WIDTH, Reg.HPT.LINK_RATE]
    rw [event, get_set_other _ _ h1, get_set_other _ _ h2, get_set_other _ _ h3, get_set_same]
    rfl

theorem rate_keys (n : Fin 4) : (Reg.HPT.LINK_RATE n).key ≠ (Reg.EVT_STS (8 + n) 0).key ∧
    (Reg.HPT.LINK_RATE n).key ≠ (Reg.HPT.LINK_DEGRADED n).key := by
  revert n
  decide +kernel

theorem completes_linkDown {s : State} (hs : Ready s) {n : Fin 4} (hw : get (Reg.HPT.LINK_WIDTH n) s ≠ 0) :
    Completes (.linkDown n) s fun t =>
      get (Reg.HPT.LINK_WIDTH n) t = 0 ∧ get (Reg.HPT.LINK_RATE n) t = 0 ∧ get (Reg.EVT_STS (8 + n) 0) t = 1 ∧
      Changes [.hp] (downFields n) s t := by
  have hc := (Changes.begin _ _ s).trans (changes_portLinkDown n (begun s))
  have hset := port_settle n
  have hrate := rate_keys n
  refine .leaves hs rfl rfl (hc.reqs.trans hs.2) fun t k => ⟨k.stored (hset _ (by simp)) (width_portLinkDown n _),
    k.stored (hset _ (by simp)) ?_, k.stored (hset _ (by simp)) ?_, hc.ended k⟩
  · unfold portLinkDown
    rw [if_neg (show get (Reg.HPT.LINK_WIDTH n) (begun s) ≠ 0 from hw), event, get_set_other _ _ hrate.1,
      get_set_other _ _ hrate.2, get_set_same]
    rfl
  · unfold portLinkDown
    rw [if_neg (show get (Reg.HPT.LINK_WIDTH n) (begun s) ≠ 0 from hw)]
    exact get_set_same _ _ _

/-- The state in which a port's PERST_N is held, before its page is wiped. -/
def perstHeld (n : Nat) (s : State) : State :=
  { s with hp := { s.hp with
      perst := addNat s.hp.perst n,
      decoders := s.hp.decoders.filter (·.port != n), notCommitted := s.hp.notCommitted.filter (·.1 != n),
      msixOpen := s.hp.msixOpen.filter (·.1 != n), msixPending := s.hp.msixPending.filter (·.1 != n),
      aer := modify s.hp.aer n (fun _ => 0), credits := modify s.hp.credits n (fun _ => 0) } }
    |> portForget n |> portLinkDown n |> setViral n false

/-- What PERST_N shows once the page is wiped. -/
def perstShown (n : Nat) (fence safe : Bool) (s : State) : State :=
  s |> put1 (Reg.HPT.STS_FENCED n) fence |> put1 (Reg.HPT.STS_READ_HOLD n) safe |> ctoShow

theorem assertPerst_eq {n : Nat} {s : State} (h : ∀ e ∈ s.upd.settings, e.1 / 131072 ≠ 8 + n) : assertPerst n s =
    perstShown n (isSet (Reg.HPT.STS_FENCED n) s) (inSafe s) (wipePage (8 + n) (perstKeeps n) (perstHeld n s)) := by
  have hupd : (perstHeld n s).upd = s.upd := by
    have h1 := (changes_portLinkDown n (portForget n { s with hp := { s.hp with
      perst := addNat s.hp.perst n,
      decoders := s.hp.decoders.filter (·.port != n), notCommitted := s.hp.notCommitted.filter (·.1 != n),
      msixOpen := s.hp.msixOpen.filter (·.1 != n), msixPending := s.hp.msixPending.filter (·.1 != n),
      aer := modify s.hp.aer n (fun _ => 0), credits := modify s.hp.credits n (fun _ => 0) } })).upd (by simp)
    exact h1
  have hnone : ∀ e ∈ (wipePage (8 + n) (perstKeeps n) (perstHeld n s)).upd.settings, e.1 / 131072 ≠ 8 + n := by
    show ∀ e ∈ (perstHeld n s).upd.settings, _
    rw [hupd]
    exact h
  unfold perstShown
  rw [← reloadStored_none hnone]
  rfl

/-- The fields of a port's page that its PERST_N resets, keeps, or sets again. -/
theorem perst_keys (n : Fin 4) :
    (∀ f ∈ [Reg.HPT.LINK_WIDTH n, Reg.BLKCTL_ENABLE (8 + n)], pageOfKey f.key = 8 + n ∧ f.key ∉ perstKeeps n ∧
      f.key ∉ keptKeys (8 + n) ∧ f.reset = 0 ∧
      f.key ∉ ([Reg.HPT.STS_FENCED n, Reg.HPT.STS_READ_HOLD n] ++ ctoFields).map Fld.key) ∧
    (Reg.HPT.CTL_MEDIA_STAGE n).key ∈ perstKeeps n ∧
    (Reg.HPT.CTL_MEDIA_STAGE n).key ∉ (downFields n).map Fld.key ∧
    (Reg.HPT.CTL_MEDIA_STAGE n).key ∉ ([Reg.HPT.STS_FENCED n, Reg.HPT.STS_READ_HOLD n] ++ ctoFields).map Fld.key ∧
    (Reg.HPT.STS_FENCED n).key ≠ (Reg.HPT.STS_READ_HOLD n).key ∧
    (Reg.HPT.STS_FENCED n).key ∉ ctoFields.map Fld.key ∧ (Reg.HPT.STS_READ_HOLD n).key ∉ ctoFields.map Fld.key := by
  revert n
  decide +kernel

theorem changes_perstShown (n : Nat) (fence safe : Bool) (s : State) :
    Changes [] ([Reg.HPT.STS_FENCED n, Reg.HPT.STS_READ_HOLD n] ++ ctoFields) s (perstShown n fence safe s) :=
  (((Changes.refl _ _ s).put1 _ _ (by simp)).put1 _ _ (by simp)).trans
    ((changes_ctoShow _).mono (by simp) (by simp +contextual))

/-- A link that goes down leaves the decoders, PERST_N and the open entries. -/
theorem portLinkDown_hp (n : Nat) (s : State) : (portLinkDown n s).hp.perst = s.hp.perst ∧
    (portLinkDown n s).hp.decoders = s.hp.decoders ∧ (portLinkDown n s).hp.msixOpen = s.hp.msixOpen := by
  unfold portLinkDown
  split
  · exact ⟨rfl, rfl, rfl⟩
  · exact ⟨rfl, rfl, rfl⟩

theorem changes_perstHeld (n : Nat) (s : State) : Changes [.hp] (downFields n) s (perstHeld n s) := by
  have h := ((Changes.refl [.hp] (downFields n) s).in_hp { s.hp with
    perst := addNat s.hp.perst n,
    decoders := s.hp.decoders.filter (·.port != n), notCommitted := s.hp.notCommitted.filter (·.1 != n),
    msixOpen := s.hp.msixOpen.filter (·.1 != n), msixPending := s.hp.msixPending.filter (·.1 != n),
    aer := modify s.hp.aer n (fun _ => 0), credits := modify s.hp.credits n (fun _ => 0) } (by simp))
  exact ((h.in_hp _ (by simp)).trans (changes_portLinkDown n _)).in_hp _ (by simp)

theorem perstHeld_hp (n : Nat) (s : State) : (perstHeld n s).hp.perst = addNat s.hp.perst n ∧
    (perstHeld n s).hp.decoders = s.hp.decoders.filter (·.port != n) ∧
    (perstHeld n s).hp.msixOpen = s.hp.msixOpen.filter (·.1 != n) :=
  portLinkDown_hp n (portForget n { s with hp := { s.hp with
    perst := addNat s.hp.perst n,
    decoders := s.hp.decoders.filter (·.port != n), notCommitted := s.hp.notCommitted.filter (·.1 != n),
    msixOpen := s.hp.msixOpen.filter (·.1 != n), msixPending := s.hp.msixPending.filter (·.1 != n),
    aer := modify s.hp.aer n (fun _ => 0), credits := modify s.hp.credits n (fun _ => 0) } })

/-- The state that PERST_N leaves, its page wiped. -/
def perstWiped (n : Nat) (s : State) : State :=
  perstShown n (isSet (Reg.HPT.STS_FENCED n) s) (inSafe s) (wipePage (8 + n) (perstKeeps n) (perstHeld n s))

theorem perstWiped_get (n : Fin 4) (s : State) : get (Reg.HPT.LINK_WIDTH n) (perstWiped n s) = 0 ∧
    get (Reg.BLKCTL_ENABLE (8 + n)) (perstWiped n s) = 0 ∧
    get (Reg.HPT.CTL_MEDIA_STAGE n) (perstWiped n s) = get (Reg.HPT.CTL_MEDIA_STAGE n) s ∧
    get (Reg.HPT.STS_FENCED n) (perstWiped n s) = b2n (isSet (Reg.HPT.STS_FENCED n) s) ∧
    get (Reg.HPT.STS_READ_HOLD n) (perstWiped n s) = b2n (inSafe s) := by
  obtain ⟨hgone, hkeep, hdown, hmedia, hne, hfence, hhold⟩ := perst_keys n
  have hset := port_settle n
  have hshown := changes_perstShown n (isSet (Reg.HPT.STS_FENCED n) s) (inSafe s)
    (wipePage (8 + n) (perstKeeps n) (perstHeld n s))
  have hwiped : ∀ f ∈ [Reg.HPT.LINK_WIDTH n, Reg.BLKCTL_ENABLE (8 + n)], f.key ∉ settleKeys → get f
      (perstWiped n s) = 0 := by
    intro f hf hs
    obtain ⟨hpage, hk, hr, hz, hn⟩ := hgone f hf
    exact (hshown.regs f hn hs).trans ((get_wipePage_gone _ hpage hk hr).trans hz)
  refine ⟨hwiped _ (by simp) (hset _ (by simp)), hwiped _ (by simp) (hset _ (by simp)), ?_, ?_, ?_⟩
  · exact (hshown.regs _ hmedia (hset _ (by simp))).trans ((get_wipePage_kept _ (.inr (.inl hkeep))).trans
      ((changes_perstHeld n s).regs _ hdown (hset _ (by simp))))
  · refine ((changes_ctoShow _).regs _ hfence (hset _ (by simp))).trans ?_
    rw [put1, get_set_other _ _ hne, put1, get_set_same, b2n]
    split <;> rfl
  · refine ((changes_ctoShow _).regs _ hhold (hset _ (by simp))).trans ?_
    rw [put1, get_set_same, b2n]
    split <;> rfl

theorem completes_perstAssert {s : State} (hs : Ready s) {n : Fin 4} (hu : portUsed n s = true)
    (h : ∀ e ∈ s.upd.settings, e.1 / 131072 ≠ 8 + n.val) :
    Completes (.hpPerstAssert n) s fun t =>
      t.hp.perst = addNat s.hp.perst n ∧ get (Reg.HPT.LINK_WIDTH n) t = 0 ∧
      t.hp.decoders = s.hp.decoders.filter (fun h => h.port != n.val) ∧
      isSet (Reg.BLKCTL_ENABLE (8 + n)) t = false ∧ get (Reg.HPT.CTL_MEDIA_STAGE n) t = get
          (Reg.HPT.CTL_MEDIA_STAGE n) s ∧
      (∀ e ∈ t.hp.msixOpen, e.1 ≠ n.val) ∧
      isSet (Reg.HPT.STS_FENCED n) t = isSet (Reg.HPT.STS_FENCED n) s ∧
      isSet (Reg.HPT.STS_READ_HOLD n) t = inSafe s := by
  obtain ⟨hwidth, henable, hmedia, hfence, hhold⟩ := perstWiped_get n (begun s)
  obtain ⟨hperst, hdecoders, hopen⟩ := perstHeld_hp n (begun s)
  have hset := port_settle n
  have hshown := changes_perstShown n (isSet (Reg.HPT.STS_FENCED n) (begun s)) (inSafe (begun s))
    (wipePage (8 + n) (perstKeeps n) (perstHeld n (begun s)))
  have hc := (changes_perstHeld n (begun s)).reqs
  refine .leaves hs rfl ((if_pos (show portUsed n (begun s) = true from hu)).trans (assertPerst_eq (s := begun s) h))
    (hshown.reqs.trans (hc.trans hs.2)) fun t k => ?_
  have hp : portsCore t.hp = portsCore (perstHeld n (begun s)).hp := Eq.trans k.hp (hshown.hp (by simp))
  have hbool : ∀ {f : Fld} {b : Bool}, get f t = b2n b → isSet f t = b := by
    intro f b hb
    rw [isSet, hb]
    cases b <;> rfl
  refine ⟨(congrArg Hp.perst hp).trans hperst, k.stored (hset _ (by simp)) hwidth,
    (congrArg Hp.decoders hp).trans hdecoders, hbool (b := false) (k.stored (hset _ (by simp)) henable),
    k.stored (hset _ (by simp)) hmedia, ?_, hbool (k.stored (hset _ (by simp)) hfence),
    hbool (k.stored (hset _ (by simp)) hhold)⟩
  have hopened : t.hp.msixOpen = s.hp.msixOpen.filter (·.1 != n.val) := (congrArg Hp.msixOpen hp).trans hopen
  rw [hopened]
  intro e he
  simpa using (List.mem_filter.1 he).2

theorem completes_perstRelease {s : State} (hs : Ready s) {n : Fin 4} (hu : portUsed n s = true)
    (hp : n.val ∈ s.hp.perst) (hf : flushHold s = false) :
    Completes (.hpPerstRelease n) s fun t =>
      t.hp.perst = s.hp.perst.filter (fun k => k != n.val) ∧ Changes [.hp] [] s t := by
  have hgo : (portUsed n (begun s) && (begun s).hp.perst.contains n.val) = true :=
    Bool.and_eq_true_iff.2 ⟨hu, List.contains_iff_mem.2 hp⟩
  have hstay : (flushHold (begun s) && vinGoodNow (begun s)) = false := Bool.and_eq_false_iff.2 (.inl hf)
  refine .leaves hs rfl ((if_pos hgo).trans (if_neg (ne_true_of_eq_false hstay))) hs.2 fun t k =>
    ⟨k.ports Hp.perst fun _ => rfl, ((Changes.begin _ _ s).in_hp _ (by simp)).ended k⟩

/-! ### Link training (R117) -/

/-- What a trained link shows. -/
def linkShown (n : Nat) (wide gt64 degraded : Bool) (s : State) : State :=
  s |> set (Reg.HPT.LINK_WIDTH n) (if wide then 2 else 1) |> set (Reg.HPT.LINK_RATE n) (if gt64 then 2 else 1)
    |> put1 (Reg.HPT.LINK_DEGRADED n) degraded

def linkFields (n : Nat) : List Fld := [Reg.HPT.LINK_WIDTH n, Reg.HPT.LINK_RATE n, Reg.HPT.LINK_DEGRADED n]

theorem changes_linkShown (n : Nat) (wide gt64 degraded : Bool) (s : State) :
    Changes [] (linkFields n) s (linkShown n wide gt64 degraded s) :=
  (((Changes.refl _ _ s).set _ _ (by simp [linkFields])).set _ _ (by simp [linkFields])).put1 _ _ (by simp [linkFields])

theorem linkShown_get (n : Fin 4) (wide gt64 degraded : Bool) (s : State) :
    get (Reg.HPT.LINK_WIDTH n) (linkShown n wide gt64 degraded s) = (if wide then 2 else 1) ∧
    get (Reg.HPT.LINK_RATE n) (linkShown n wide gt64 degraded s) = (if gt64 then 2 else 1) ∧
    get (Reg.HPT.LINK_DEGRADED n) (linkShown n wide gt64 degraded s) = b2n degraded := by
  have h1 : (Reg.HPT.LINK_WIDTH n).key ≠ (Reg.HPT.LINK_RATE n).key := by
    simp [Fld.key, Reg.HPT.LINK_WIDTH, Reg.HPT.LINK_RATE]
  have h2 : (Reg.HPT.LINK_WIDTH n).key ≠ (Reg.HPT.LINK_DEGRADED n).key := by
    simp [Fld.key, Reg.HPT.LINK_WIDTH, Reg.HPT.LINK_DEGRADED]
  have h3 := (rate_keys n).2
  unfold linkShown
  refine ⟨?_, ?_, ?_⟩
  · rw [put1, get_set_other _ _ h2, get_set_other _ _ h1, get_set_same]
    cases wide <;> rfl
  · rw [put1, get_set_other _ _ h3, get_set_same]
    cases gt64 <;> rfl
  · rw [put1, get_set_same]
    cases degraded <;> rfl

/-- The sources of a port's link: degraded, and failed. -/
theorem link_source (n : Fin 4) : srcReserved (144 + n) = false ∧ srcReserved (148 + n) = false ∧
    (∀ f ∈ sourceCard (144 + n), f.key ∉ (linkFields n).map Fld.key) ∧
    (∀ f ∈ sourceCard (148 + n), f.key ∉ (downFields n).map Fld.key) ∧
    (∀ f ∈ linkFields n, f.key ∉ settleKeys ∧ f.key ∉ (raiseFields (144 + n)).map Fld.key ∧
      f.key ∉ (raiseFields (148 + n)).map Fld.key) := by
  revert n
  decide +kernel

/-- A link tells of its degradation, or of its end. -/
def linkTold (n : Nat) (degraded : Bool) (s : State) : State :=
  if degraded then raiseHeld (144 + n) 0 n (linkWord n s) 0 s else liveFall (144 + n) s

theorem linkTold_shown (n : Fin 4) {degraded : Bool} {s : State}
    (h : degraded = false ∨ isSet (Reg.FLS.LIVE (144 + n)) s = true ∨ Calm (144 + n) s) :
    isSet (Reg.FLS.LIVE (144 + n)) (linkTold n degraded s) = degraded ∧
      Changes raiseParts (raiseFields (144 + n)) s (linkTold n degraded s) := by
  have hr := (link_source n).1
  have hn : 144 + n.val < 384 := by omega
  cases degraded
  · exact ⟨live_liveFall _ _, (changes_liveFall _ s).mono (by simp) fun f hf => by
      simp only [fallFields] at hf
      simp only [raiseFields, List.map_cons, List.mem_cons]
      aesop⟩
  · have hcalm := h.resolve_left (by simp)
    refine ⟨?_, changes_raise_of_calm_or_live (x := ⟨144 + n, 0, n, linkWord n s, 0, false, true⟩) hcalm⟩
    by_cases hl : isSet (Reg.FLS.LIVE (144 + n)) s = true
    · exact (congrArg _ (raise_of_live (x := ⟨144 + n, 0, n, linkWord n s, 0, false, true⟩) hl)).trans hl
    · exact live_after_raiseHeld ⟨eq_false_of_ne_true hl, hcalm.resolve_left hl⟩ hr hn _ _ _ _

theorem linkUp_eq (n : Nat) (x16 gt64 : Bool) (s : State) : linkUp n x16 gt64 s =
    sendPending n (linkTold n (bitOf (get Reg.SYS.CAPS_HP_X16 s) n && !x16 || !gt64)
      (linkShown n (bitOf (get Reg.SYS.CAPS_HP_X16 s) n && x16) gt64
        (bitOf (get Reg.SYS.CAPS_HP_X16 s) n && !x16 || !gt64) s)) := rfl

section
variable {s : State} (hs : Ready s) {n : Fin 4} {x16 gt64 : Bool} (ha : portAlive n s = true)
  (hd : domainOn (4 + n) s = true)
include ha hd

/-- The port may train. -/
theorem mayTrain : (!portAlive n (begun s) || !domainOn (4 + n) (begun s)) = false := by
  rw [show portAlive n (begun s) = true from ha, show domainOn (4 + n) (begun s) = true from hd]
  rfl

include hs

theorem completes_linkTrained {wide degraded : Bool} (hwide : (bitOf (get Reg.SYS.CAPS_HP_X16 s) n && x16) = wide)
    (hdeg : (bitOf (get Reg.SYS.CAPS_HP_X16 s) n && !x16 || !gt64) = degraded) :
    Completes (.linkTrained n x16 gt64 true) s fun t =>
      (degraded = false ∨ isSet (Reg.FLS.LIVE (144 + n)) s = true ∨ Calm (144 + n) s →
        get (Reg.HPT.LINK_WIDTH n) t = (if wide then 2 else 1) ∧ get (Reg.HPT.LINK_RATE n) t = (if gt64 then 2 else 1) ∧
        get (Reg.HPT.LINK_DEGRADED n) t = b2n degraded ∧ isSet (Reg.FLS.LIVE (144 + n)) t = degraded ∧
        Changes raiseParts (linkFields n ++ raiseFields (144 + n)) s t) ∧
      (degraded = true → Fresh (144 + n) s → Raised (144 + n) s t) := by
  obtain ⟨hr, -, hcard, -, hkeys⟩ := link_source n
  have hn : 144 + n.val < 384 := by omega
  have hlink := changes_linkShown n wide gt64 degraded (begun s)
  have hsame : SameSource (144 + n) s (linkShown n wide gt64 degraded (begun s)) :=
    hlink.source hn hcard
  have hcalm : degraded = false ∨ isSet (Reg.FLS.LIVE (144 + n)) s = true ∨ Calm (144 + n) s →
      degraded = false ∨ isSet (Reg.FLS.LIVE (144 + n)) (linkShown n wide gt64 degraded (begun s)) = true ∨
        Calm (144 + n) (linkShown n wide gt64 degraded (begun s)) :=
    .imp id (.imp hsame.live.trans hsame.calm)
  have he : (fun s => if !portAlive n s || !domainOn (4 + n) s then s
      else if true then linkUp n x16 gt64 s else portFailed n s) (begun s) =
      sendPending n (linkTold n degraded (linkShown n wide gt64 degraded (begun s))) := by
    rw [← hwide, ← hdeg]
    exact (if_neg (ne_true_of_eq_false (mayTrain ha hd))).trans (linkUp_eq n x16 gt64 (begun s))
  obtain ⟨hwidth, hrate, hdegraded⟩ := linkShown_get n wide gt64 degraded (begun s)
  generalize linkShown n wide gt64 degraded (begun s) = u at *
  have hsend := changes_sendPendingOn (fun m => m.1 == n.val && (linkTold n degraded u).hp.msixOpen.contains m)
    (linkTold n degraded u)
  have hleave := (keeps_sendPendingOn (fun m => m.1 == n.val && (linkTold n degraded u).hp.msixOpen.contains m)
    (linkTold n degraded u))
  have hshown := Completes.leavesWhen hs (c := .linkTrained n x16 gt64 true)
    (Q := degraded = false ∨ isSet (Reg.FLS.LIVE (144 + n)) s = true ∨ Calm (144 + n) s)
    (P := fun t => get (Reg.HPT.LINK_WIDTH n) t = (if wide then 2 else 1) ∧
      get (Reg.HPT.LINK_RATE n) t = (if gt64 then 2 else 1) ∧
      get (Reg.HPT.LINK_DEGRADED n) t = b2n degraded ∧ isSet (Reg.FLS.LIVE (144 + n)) t = degraded ∧
      Changes raiseParts (linkFields n ++ raiseFields (144 + n)) s t) rfl he fun hq => by
    obtain ⟨hlive, htold⟩ := linkTold_shown n (hcalm hq)
    have hc : Changes raiseParts (linkFields n ++ raiseFields (144 + n)) s (sendPending n (linkTold n degraded u)) :=
      (Changes.begin _ _ s).trans (hlink.mono (by simp) (by simp +contextual)) |>.trans
        (htold.mono (fun _ h => h) (by simp +contextual)) |>.trans (hsend.mono (by simp) (by simp))
    have hfield : ∀ f ∈ linkFields n, ∀ v, get f u = v → get f (sendPending n (linkTold n degraded u)) = v := by
      intro f hf v hv
      obtain ⟨hks, hkr, -⟩ := hkeys f hf
      exact (hleave.get f hks).trans ((htold.regs f hkr hks).trans hv)
    exact ⟨hc.reqs.trans hs.2, fun t k => ⟨k.stored (hkeys _ (by simp [linkFields])).1 (hfield _
        (by simp [linkFields]) _ hwidth),
      k.stored (hkeys _ (by simp [linkFields])).1 (hfield _ (by simp [linkFields]) _ hrate),
      k.stored (hkeys _ (by simp [linkFields])).1 (hfield _ (by simp [linkFields]) _ hdegraded),
      isSet_keeps k (live_settleKeys hn) (isSet_keeps hleave (live_settleKeys hn) hlive), hc.ended k⟩⟩
  have hraised := Completes.leavesWhen hs (c := .linkTrained n x16 gt64 true) (Q := degraded = true ∧ Fresh (144 + n) s)
    (P := Raised (144 + n) s) rfl he fun ⟨hq, hf⟩ => by
    have hfu := hsame.fresh hf
    have htold : linkTold n degraded u = raiseHeld (144 + n) 0 n (linkWord n u) 0 u := if_pos hq
    have hc : Changes raiseParts (linkFields n ++ raiseFields (144 + n)) s (sendPending n (linkTold n degraded u)) :=
      (Changes.begin _ _ s).trans (hlink.mono (by simp) (by simp +contextual)) |>.trans
        ((linkTold_shown n (.inr (.inr hfu.2))).2.mono (fun _ h => h) (by simp +contextual)) |>.trans
        (hsend.mono (by simp) (by simp))
    refine ⟨hc.reqs.trans hs.2, fun _ k => (SameSource.settle hn k).stays ((SameSource.settle hn hleave).stays ?_)⟩
    rw [htold]
    exact hsame.raised (raised_raiseHeld hfu hr hn _ _ _ _)
  exact (hshown.and hraised).mono fun t ⟨h1, h2⟩ => ⟨h1, fun hq hf => h2 ⟨hq, hf⟩⟩

theorem completes_linkFailed : Completes (.linkTrained n x16 gt64 false) s fun t =>
    (isSet (Reg.FLS.LIVE (148 + n)) s = true ∨ Calm (148 + n) s → get (Reg.HPT.LINK_WIDTH n) t = 0) ∧
    (Fresh (148 + n) s → Raised (148 + n) s t) := by
  obtain ⟨-, hr, -, hcard, hkeys⟩ := link_source n
  have hn : 148 + n.val < 384 := by omega
  have hdown := changes_portLinkDown n (begun s)
  have hsame : SameSource (148 + n) s (portLinkDown n (begun s)) := hdown.source hn hcard
  have hwidth := width_portLinkDown n (begun s)
  have he : (fun s => if !portAlive n s || !domainOn (4 + n) s then s
      else if false then linkUp n x16 gt64 s else portFailed n s) (begun s) =
      portFailed n (begun s) := if_neg (ne_true_of_eq_false (mayTrain ha hd))
  have hreqs := hdown.reqs.trans hs.2
  have hwhole : portFailed n (begun s) =
      raiseSimple (148 + n) 0 n (linkWord n (begun s)) 0 (portLinkDown n (begun s)) := rfl
  generalize portLinkDown n (begun s) = u at *
  have hraise : isSet (Reg.FLS.LIVE (148 + n)) s = true ∨ Calm (148 + n) s →
      Changes raiseParts (raiseFields (148 + n)) u (raiseSimple (148 + n) 0 n (linkWord n (begun s)) 0 u) := fun hq =>
    changes_raise_of_calm_or_live (x := ⟨148 + n, 0, n, linkWord n (begun s), 0, false, false⟩)
      (hq.imp hsame.live.trans hsame.calm)
  obtain ⟨hks, -, hkr⟩ := hkeys (Reg.HPT.LINK_WIDTH n) (by simp [linkFields])
  refine (Completes.leavesWhen hs rfl (he.trans hwhole) fun hq => ?_).and (Completes.leavesWhen hs rfl
      (he.trans hwhole) fun hf => ?_)
  · exact ⟨(hraise hq).reqs.trans hreqs, fun t k => k.stored hks (((hraise hq).regs _ hkr hks).trans hwidth)⟩
  · exact ⟨(hraise (.inr hf.2)).reqs.trans hreqs, fun t k =>
      (SameSource.settle hn k).stays (hsame.raised (raised_raiseSimple (hsame.fresh hf) hr hn _ _ _ _))⟩

end

/-! ### Decoders (R104, R106) -/

theorem get_putBit_same (f : Fld) (k : Nat) (b : Bool) (s : State) (hk : k < f.w) : bitOf (get f
    (putBit f k b s)) k = b := by
  rw [putBit, get_set_same, bitOf_mod hk]
  exact bitOf_put_same _ _ _

theorem changes_putBit (f : Fld) (k : Nat) (b : Bool) (s : State) : Changes [] [f] s (putBit f k b s) :=
  (Changes.refl _ _ s).set _ _ (by simp)

/-- A decoder taken into use. -/
def decoderSet (n d size : Nat) (s : State) : State :=
  { s with hp := { s.hp with
      decoders := s.hp.decoders.filter (fun (h : Hdm) => !(h.port == n && h.decoder == d)) ++
        [{ port := n, decoder := d, size := size, base := if d = 3 then (decoderSize n 0 s).getD 0 else 0 }],
      notCommitted := s.hp.notCommitted.filter (· != (n, d)) } }

theorem ctoShow_out (s : State) : (ctoShow s).out = s.out := by
  unfold ctoShow
  exact forEach_keeps (fun u : State => u.out = s.out) _ _ s rfl fun n _ u hu =>
    when_keeps (fun v : State => v.out = s.out) _ _ u hu id

theorem decoder_keys (n : Fin 4) : (Reg.HPT.HDM_STS_COMMITTED n).key ∉ ctoFields.map Fld.key := by
  revert n
  decide +kernel

section
variable {s : State} (hs : Ready s) {n d : Fin 4} {size ways : Nat} (ha : portAlive n s = true)
  (hr : isSet (Reg.HPT.STS_CFG_READY n) s = true)
include ha hr

theorem mayCommit : (portAlive n (begun s) && isSet (Reg.HPT.STS_CFG_READY n) (begun s)) = true :=
  Bool.and_eq_true_iff.2 ⟨ha, hr⟩

include hs

theorem completes_committed (hm : decoderMeets n d size ways s = true) :
    Completes (.hdmCommit n d size ways) s fun t =>
      [Out.hdmStatus n d true] <+: t.out ∧ bitOf (get (Reg.HPT.HDM_STS_COMMITTED n) t) d = true ∧
      { port := n, decoder := d, size := size, base := if d = 3 then (decoderSize n 0 s).getD 0 else 0 } ∈
          t.hp.decoders := by
  have hput := changes_putBit (Reg.HPT.HDM_STS_COMMITTED n) d true (decoderSet n d size (begun s))
  have hshow := changes_ctoShow (putBit (Reg.HPT.HDM_STS_COMMITTED n) d true (decoderSet n d size (begun s)))
  have hout : (ctoShow (putBit (Reg.HPT.HDM_STS_COMMITTED n) d true (decoderSet n d size (begun s)))).out = [] :=
    ctoShow_out _
  refine .leaves hs rfl ((if_pos (mayCommit ha hr)).trans (if_pos (show decoderMeets n d size ways
      (begun s) = true from hm)))
    (hshow.reqs.trans (hput.reqs.trans hs.2)) fun t k => ⟨k.sent (congrArg (· ++ [Out.hdmStatus n d true]) hout), ?_,
        ?_⟩
  · rw [k.get _ (port_settle n _ (by simp))]
    refine (congrArg (bitOf · d) (hshow.regs _ (decoder_keys n) (port_settle n _ (by simp)))).trans ?_
    exact get_putBit_same _ _ _ _ (show d.val < 4 from d.isLt)
  · have hdec : t.hp.decoders = (decoderSet n d size (begun s)).hp.decoders :=
      (k.ports Hp.decoders fun _ => rfl).trans (hshow.ports (by simp) Hp.decoders fun _ => rfl)
    rw [hdec]
    refine List.mem_append_right _ (List.mem_singleton.2 ?_)
    simp [Fin.ext_iff]
    rfl

theorem completes_notCommitted (hm : decoderMeets n d size ways s = false) :
    Completes (.hdmCommit n d size ways) s fun t =>
      [Out.hdmStatus n d false] <+: t.out ∧ bitOf (get (Reg.HPT.HDM_STS_REFUSED n) t) d = true ∧
      (n.val, d.val) ∈ t.hp.notCommitted ∧ t.hp.decoders = s.hp.decoders ∧
      Changes [.hp] [Reg.HPT.HDM_STS_REFUSED n] s t := by
  have hc := (((Changes.begin [.hp] [Reg.HPT.HDM_STS_REFUSED n] s).in_hp { s.hp with
    notCommitted := s.hp.notCommitted.filter (· != (n.val, d.val)) ++ [(n.val, d.val)] } (by simp)).trans
      ((changes_putBit (Reg.HPT.HDM_STS_REFUSED n) d true _).mono (by simp) (fun _ h => h))).emit (.hdmStatus n d false)
  refine .leaves hs rfl ((if_pos (mayCommit ha hr)).trans
    (if_neg (ne_true_of_eq_false (show decoderMeets n d size ways (begun s) = false from hm)))) (hc.reqs.trans hs.2)
    fun t k => ⟨k.sent rfl, ?_, ?_, k.ports Hp.decoders fun _ => rfl, hc.ended k⟩
  · rw [k.get _ (port_settle n _ (by simp))]
    exact get_putBit_same _ _ _ _ (show d.val < 4 from d.isLt)
  · rw [k.ports Hp.notCommitted fun _ => rfl]
    exact List.mem_append_right _ (List.mem_singleton.2 rfl)

end

/-- Settles O15. -/
theorem portCommands : Obligations.PortCommands := by
  unfold Obligations.PortCommands
  exact fun s hs n =>
    ⟨completes_configRetry hs,
      fun ha hr => ⟨completes_configRead hs ha hr, completes_viralEnable hs ha hr, completes_msixEntry hs ha hr,
        completes_aerClear hs ha hr⟩,
      completes_cfgReady hs, completes_perstAssert hs, completes_perstRelease hs,
      fun x16 gt64 ha hd => completes_linkTrained hs ha hd rfl rfl, fun x16 gt64 ha hd => completes_linkFailed hs ha hd,
      completes_linkDown hs, fun d size ways ha hr => by
        cases hm : decoderMeets n d size ways s
        · exact completes_notCommitted hs ha hr hm
        · exact completes_committed hs ha hr hm⟩

end Sys2Proof.Machine
end

section
/-! SUPPORT. Completions of host writes and data of host reads (R9, R34, R47, R48, R102). -/

namespace Sys2Proof.Machine
set_option Elab.async false

section
variable {s : State} (hs : Ready s) {port : Fin 4} {tag : Nat}

/-! ### Completions of writes -/

include hs

theorem completes_writeCompletion {w : WriteWait}
    (hw : s.hp.writes.find? (fun w => w.port == port.val && w.tag == tag) = some w) (hc : completable w s = true) :
    Completes (.writeCompletion port tag) s fun t =>
      [if w.mailbox then Out.mailbox port 0 [] else .writeDone port tag] <+: t.out ∧
      t.hp.writes = s.hp.writes.erase w ∧ Changes [.hp] [] s t := by
  have he : sendCompletion port tag (begun s) =
      emit (if w.mailbox then .mailbox port 0 [] else .writeDone port tag)
        { begun s with hp := { s.hp with writes := s.hp.writes.erase w } } := by
    unfold sendCompletion
    rw [show (begun s).hp.writes.find? (fun w => w.port == port.val && w.tag == tag) = some w from hw]
    exact if_pos hc
  exact .leaves hs rfl he hs.2 fun t k => ⟨k.sent rfl, k.ports Hp.writes fun _ => rfl,
    (((Changes.begin _ _ s).in_hp _ (by simp)).emit _).ended k⟩

theorem completes_writeHeld {w : WriteWait}
    (hw : s.hp.writes.find? (fun w => w.port == port.val && w.tag == tag) = some w) (hc : completable w s = false) :
    Completes (.writeCompletion port tag) s fun t => t.hp.writes = s.hp.writes ∧ Changes [] [] s t := by
  have he : sendCompletion port tag (begun s) = begun s := by
    unfold sendCompletion
    rw [show (begun s).hp.writes.find? (fun w => w.port == port.val && w.tag == tag) = some w from hw]
    exact if_neg (ne_true_of_eq_false hc)
  exact .leaves hs rfl he hs.2 fun t k => ⟨k.ports Hp.writes fun _ => rfl, (Changes.begin _ _ s).ended k⟩

/-! ### Data of reads -/

omit hs in
/-- Without an injection of MODE 2 a check finds nothing (R90). -/
theorem checkInjection_none {s : State} (h : Uninjected s) (n : Nat) : checkInjection n s = s := by
  unfold checkInjection
  rw [if_neg]
  simp only [List.any_eq_true, Bool.and_eq_true, beq_iff_eq, not_exists, not_and]
  exact fun j hj _ => h j hj

variable (hinj : Uninjected s) {r : ReadWait}
  (hr : s.hp.reads.find? (fun r => r.port == port.val && r.tag == tag && r.data.isSome) = some r)
  (hsend : get (Reg.HPT.LINK_WIDTH port) s ≠ 0 ∧ pllWaits (6 + port) s = false) {first second : BitVec 64}

omit hs in
include hr in
theorem read_of_port : r.port = port.val ∧ r.tag = tag := by
  have h := List.find?_some hr
  simp only [Bool.and_eq_true, beq_iff_eq] at h
  exact h.1

omit hs in
include hsend in
theorem readMaySend : (decide (get (Reg.HPT.LINK_WIDTH port) (begun s) = 0) || pllWaits (6 + port)
    (begun s)) = false := by
  obtain ⟨hw, hp⟩ := hsend
  exact Bool.or_eq_false_iff.2 ⟨decide_eq_false hw, hp⟩

omit hs in
include hinj hr hsend in
/-- A poisoned read that may be sent. -/
theorem sendRead_poison (hd : r.data = some none) : sendRead port tag first second (begun s) =
    answerRead r none (begun s) := by
  unfold sendRead
  rw [show (begun s).hp.reads.find? (fun r => r.port == port.val && r.tag == tag && r.data.isSome) = some r from hr]
  dsimp only
  rw [if_neg (ne_true_of_eq_false (readMaySend hsend)), checkInjection_none (s := begun s) hinj, hd]
  rfl

/-- The state in which a read with a wrong residue is read again. -/
def readAgain (port : Nat) (r : ReadWait) (s : State) : State :=
  s |> raiseSimple 182 1 port (r.line % 2 ^ 32) 0 |> checkInjection 183

omit hs in
include hinj hr hsend in
/-- A read that may be sent, by what its residues show (R47, R48). -/
theorem sendRead_data {v : Line} (hd : r.data = some (some v)) : sendRead port tag first second (begun s) =
    if lineGood v first then answerRead r (some v) (begun s)
    else if lineGood v second then answerRead r (some v) (readAgain port r (begun s))
    else answerRead r none (raiseSimple 183 2 port (r.line % 2 ^ 32) 0 (readAgain port r (begun s))) := by
  unfold sendRead
  rw [show (begun s).hp.reads.find? (fun r => r.port == port.val && r.tag == tag && r.data.isSome) = some r from hr]
  dsimp only
  rw [if_neg (ne_true_of_eq_false (readMaySend hsend)), checkInjection_none (s := begun s) hinj, hd]
  rfl

/-- What the answer to a read leaves. -/
def readFields (port : Nat) (d : Option Line) : List Fld := if d.isNone then [Reg.HPT.POISON_RD_COUNT port] else []

omit hs in
/-- What a port counts of poison is no raise's, and no end's. -/
theorem poisonCount_settle (port : Fin 4) : (Reg.HPT.POISON_RD_COUNT port).key ∉ settleKeys ∧
    (∀ n ∈ [182, 183], ∀ f ∈ sourceCard n, f.key ≠ (Reg.HPT.POISON_RD_COUNT port).key) := by
  revert port
  decide +kernel

omit hs in
/-- Neither residue source's raise touches the other source. -/
theorem residue_sources : (∀ f ∈ sourceCard 183, f.key ∉ (raiseFields 182).map Fld.key) ∧
    (∀ f ∈ sourceCard 182, f.key ∉ (raiseFields 183).map Fld.key) := by
  decide +kernel

omit hs in
theorem answerRead_shown (r : ReadWait) (d : Option Line) (s : State) :
    (answerRead r d s).out = s.out ++ [match d with
      | some v => Out.readDone r.port r.tag (some v)
      | none => Out.readPoison r.port r.tag r.under] ∧
    (answerRead r d s).hp.reads = s.hp.reads.erase r ∧
    Changes [.hp] (readFields r.port d) s (answerRead r d s) := by
  cases d with
  | none => exact ⟨rfl, rfl, (((Changes.refl _ _ s).in_hp _ (by simp)).emit _).inc _ (by simp [readFields])⟩
  | some v => exact ⟨rfl, rfl, ((Changes.refl _ _ s).in_hp _ (by simp)).emit _⟩

include hinj hr hsend

theorem completes_readGood {v : Line} (hd : r.data = some (some v)) (h1 : lineGood v first = true) :
    Completes (.readCompletion port tag ⟨first, second⟩) s fun t =>
      [Out.readDone port tag (some v)] <+: t.out ∧ t.hp.reads = s.hp.reads.erase r ∧ Changes [.hp] [] s t := by
  obtain ⟨hport, htag⟩ := read_of_port hr
  obtain ⟨hout, hreads, hc⟩ := answerRead_shown r (some v) (begun s)
  have he : sendRead port tag first second (begun s) = answerRead r (some v) (begun s) := by
    rw [sendRead_data hinj hr hsend hd]
    exact if_pos h1
  rw [hport, htag] at hout
  exact .leaves hs rfl he (hc.reqs.trans hs.2) fun t k => ⟨k.sent hout, (k.ports Hp.reads fun _ => rfl).trans hreads,
    ((Changes.begin _ _ s).trans hc).ended k⟩

theorem completes_readPoisoned (hd : r.data = some none) :
    Completes (.readCompletion port tag ⟨first, second⟩) s fun t =>
      [Out.readPoison port tag r.under] <+: t.out ∧ t.hp.reads = s.hp.reads.erase r ∧
      get (Reg.HPT.POISON_RD_COUNT port) t = oneMore (Reg.HPT.POISON_RD_COUNT port) s ∧
      Changes [.hp] [Reg.HPT.POISON_RD_COUNT port] s t := by
  obtain ⟨hport, htag⟩ := read_of_port hr
  obtain ⟨hout, hreads, hc⟩ := answerRead_shown r none (begun s)
  have he : sendRead port tag first second (begun s) = answerRead r none (begun s) := sendRead_poison hinj hr hsend hd
  have hcount : get (Reg.HPT.POISON_RD_COUNT r.port) (answerRead r none (begun s)) =
      oneMore (Reg.HPT.POISON_RD_COUNT r.port) s := get_inc_same _ _
  rw [hport, htag] at hout
  rw [hport] at hcount hc
  exact .leaves hs rfl he (hc.reqs.trans hs.2) fun t k => ⟨k.sent hout, (k.ports Hp.reads fun _ => rfl).trans hreads,
    k.stored (poisonCount_settle port).1 hcount, ((Changes.begin _ _ s).trans hc).ended k⟩

omit hs hinj hr hsend in
/-- The answer leaves a residue source as it was. -/
theorem answerRead_source (r : ReadWait) (d : Option Line) {n : Nat} (hn : n ∈ [182, 183]) (hp : r.port = port.val)
    (u : State) : SameSource n u (answerRead r d u) := by
  refine (answerRead_shown r d u).2.2.source (by simp at hn; omega) fun f hf => ?_
  have := (poisonCount_settle port).2 n hn f hf
  rw [hp]
  unfold readFields
  split
  · simpa using this
  · simp

omit hs hr hsend in
/-- The second reading of a read begins with its source raised. -/
theorem readAgain_shown (hf : Fresh 182 s) (port : Nat) (r : ReadWait) :
    readAgain port r (begun s) = raiseSimple 182 1 port (r.line % 2 ^ 32) 0 (begun s) ∧
    Raised 182 s (readAgain port r (begun s)) ∧
    Changes raiseParts (raiseFields 182) s (readAgain port r (begun s)) := by
  have hb : Fresh 182 (begun s) := hf
  have hflt : (raiseSimple 182 1 port (r.line % 2 ^ 32) 0 (begun s)).flt.injections = s.flt.injections :=
    congrArg (fun x : Pwr × Sav × Flt => x.2.2.injections)
      (raise_calm (x := ⟨182, 1, port, r.line % 2 ^ 32, 0, false, false⟩) hb.2)
  have he : readAgain port r (begun s) = raiseSimple 182 1 port (r.line % 2 ^ 32) 0 (begun s) :=
    checkInjection_none (by rw [Uninjected, hflt]; exact hinj) 183
  refine ⟨he, ?_, ?_⟩
  · rw [he]
    exact raised_raiseSimple hb (by decide) (by decide) _ _ _ _
  · rw [he]
    exact (Changes.begin _ _ s).trans (changes_raiseSimple hb.2 _ _ _ _)

theorem completes_readSecond {v : Line} (hd : r.data = some (some v)) (h1 : lineGood v first = false)
    (h2 : lineGood v second = true) (hf : Fresh 182 s) :
    Completes (.readCompletion port tag ⟨first, second⟩) s fun t =>
      Out.readDone port tag (some v) ∈ t.out ∧ t.hp.reads = s.hp.reads.erase r ∧ Raised 182 s t := by
  obtain ⟨hport, htag⟩ := read_of_port hr
  obtain ⟨-, hraised, hagain⟩ := readAgain_shown hinj hf port r
  have he : sendRead port tag first second (begun s) = answerRead r (some v) (readAgain port r (begun s)) := by
    rw [sendRead_data hinj hr hsend hd]
    exact (if_neg (ne_true_of_eq_false h1)).trans (if_pos h2)
  generalize readAgain port r (begun s) = u at *
  obtain ⟨hout, hreads, hc⟩ := answerRead_shown r (some v) u
  refine .leaves hs rfl he (hc.reqs.trans (hagain.reqs.trans hs.2)) fun t k => ⟨k.sentLast ?_, ?_, ?_⟩
  · rw [hout, hport, htag]
    exact List.mem_append_right _ (List.mem_singleton.2 rfl)
  · exact (k.ports Hp.reads fun _ => rfl).trans (hreads.trans
      (congrArg (·.erase r) (hagain.ports (by decide) Hp.reads fun _ => rfl)))
  · exact (SameSource.settle (by decide) k).stays ((answerRead_source r _ (by simp) hport u).stays hraised)

theorem completes_readTwiceWrong {v : Line} (hd : r.data = some (some v)) (h1 : lineGood v first = false)
    (h2 : lineGood v second = false) (hf : Fresh 182 s) (hf2 : Fresh 183 s) :
    Completes (.readCompletion port tag ⟨first, second⟩) s fun t =>
      Out.readPoison port tag r.under ∈ t.out ∧ Raised 182 s t ∧ Raised 183 s t ∧ t.hp.reads = s.hp.reads.erase r := by
  obtain ⟨hport, htag⟩ := read_of_port hr
  obtain ⟨-, hraised, hagain⟩ := readAgain_shown hinj hf port r
  have he : sendRead port tag first second (begun s) =
      answerRead r none (raiseSimple 183 2 port (r.line % 2 ^ 32) 0 (readAgain port r (begun s))) := by
    rw [sendRead_data hinj hr hsend hd]
    exact (if_neg (ne_true_of_eq_false h1)).trans (if_neg (ne_true_of_eq_false h2))
  generalize readAgain port r (begun s) = u at *
  have hsame : SameSource 183 s u := hagain.source (by decide) residue_sources.1
  have hsecond := changes_raiseSimple (hsame.fresh hf2).2 2 port (r.line % 2 ^ 32) 0
  have hboth : Raised 182 s (raiseSimple 183 2 port (r.line % 2 ^ 32) 0 u) ∧
      Raised 183 s (raiseSimple 183 2 port (r.line % 2 ^ 32) 0 u) :=
    ⟨(hsecond.source (by decide) residue_sources.2).stays hraised,
      hsame.raised (raised_raiseSimple (hsame.fresh hf2) (by decide) (by decide) _ _ _ _)⟩
  generalize raiseSimple 183 2 port (r.line % 2 ^ 32) 0 u = v at *
  obtain ⟨hout, hreads, hc⟩ := answerRead_shown r none v
  refine .leaves hs rfl he (hc.reqs.trans (hsecond.reqs.trans (hagain.reqs.trans hs.2))) fun t k =>
    ⟨k.sentLast ?_, ?_, ?_, ?_⟩
  · rw [hout, hport, htag]
    exact List.mem_append_right _ (List.mem_singleton.2 rfl)
  · exact (SameSource.settle (by decide) k).stays ((answerRead_source r _ (by simp) hport v).stays hboth.1)
  · exact (SameSource.settle (by decide) k).stays ((answerRead_source r _ (by simp) hport v).stays hboth.2)
  · exact (k.ports Hp.reads fun _ => rfl).trans (hreads.trans (congrArg (·.erase r)
      ((hsecond.ports (by decide) Hp.reads fun _ => rfl).trans (hagain.ports (by decide) Hp.reads fun _ => rfl))))

end

/-! ### MemInv and requests that are not supported (R102) -/

section
variable {s : State} (hs : Ready s) {port : Fin 4} {tag : Nat} (ht : portTakes port s = true)
include hs ht

theorem completes_meminv (a : HostAddr) : Completes (.meminv port a tag) s fun t =>
    [Out.invDone port tag] <+: t.out ∧ Changes [] [] s t :=
  .leaves hs rfl (if_pos (show portTakes port (begun s) = true from ht)) hs.2 fun _ k =>
    ⟨k.sent rfl, ((Changes.begin _ _ s).emit _).ended k⟩

theorem completes_unsupported : Completes (.cxlMemUnsupported port tag) s fun t =>
    [Out.unsupported port tag] <+: t.out ∧
    (port.val < s.hp.aer.length → bitOf (t.hp.aer.getD port 0) 20 = true) ∧ Changes [.hp] [] s t := by
  refine .leaves hs rfl (if_pos (show portTakes port (begun s) = true from ht)) hs.2 fun t k =>
    ⟨k.sent rfl, fun hl => ?_, (((Changes.begin _ _ s).in_hp _ (by simp)).emit _).ended k⟩
  have haer : t.hp.aer = modify s.hp.aer port (fun v => Nat.lor v (2 ^ 20)) := k.ports Hp.aer fun _ => rfl
  rw [haer, getD_modify, if_pos hl, bitOf_lor]
  simp [bitOf]

end

/-- Settles O14. -/
theorem hostCompletions : Obligations.HostCompletions := by
  unfold Obligations.HostCompletions
  exact fun s hs hinj port tag =>
    ⟨fun w hw => completes_writeCompletion hs hw, fun w hw => completes_writeHeld hs hw,
      fun r hr hsend first second => ⟨fun v => completes_readGood hs hinj hr hsend,
        fun v => completes_readSecond hs hinj hr hsend, fun v => completes_readTwiceWrong hs hinj hr hsend,
        completes_readPoisoned hs hinj hr hsend⟩,
      completes_meminv hs, completes_unsupported hs⟩

end Sys2Proof.Machine
end

section
/-! SUPPORT. What leaves the headers of the pages alone: their CTL, STS, WERR and LOCK, the aborts under way and the
shadows (R72, R83). -/

namespace Sys2Proof.Machine
set_option Elab.async false

/-- A register field of a page's CTL, STS, WERR or LOCK. -/
def headKey (k : Nat) : Bool := [0xC, 0x10, 0x14, 0x2C].contains (k / 32 % 4096)

/-- The registers of a page beyond its header. -/
theorem beyond_head {b n lo w r : Nat} (hb : 0x30 ≤ b % 4096 := by decide) (hlo : lo < 32 := by decide) :
    headKey (⟨b + 4096 * n, lo, w, r⟩ : Fld).key = false := by
  simp [headKey, Fld.key]
  omega

/-- Its events. -/
theorem event_beyond (p : Nat) {k : Nat} (hk : k < 32 := by decide) : headKey (Reg.EVT_STS p k).key = false := by
  simp [headKey, Fld.key, Reg.EVT_STS]
  omega

theorem live_beyond (p : Nat) : headKey (Reg.EVT_LIVE p).key = false := by
  simp [headKey, Fld.key, Reg.EVT_LIVE]

theorem context_beyond {b n i lo w r : Nat} (hb : 0x30 ≤ b % 4096 ∧ b % 4096 < 0xF00 := by decide) (hi : i < 16)
    (hlo : lo < 32 := by decide) : headKey (⟨b + 4096 * n + 4 * i, lo, w, r⟩ : Fld).key = false := by
  simp [headKey, Fld.key]
  omega

theorem row_beyond {b i lo w r : Nat} (hi : i < 64) (hb : 0x30 ≤ b % 4096 ∧ b % 4096 < 0xF00 := by decide)
    (hlo : lo < 32 := by decide) : headKey (⟨b + 4 * i, lo, w, r⟩ : Fld).key = false := by
  simp [headKey, Fld.key]
  omega

/-- What a state holds of the headers, the aborts, the shadows and the reactions asked for. -/
def headView (s : State) : ({ f : Fld // headKey f.key = true } → Nat) × List (Nat × Nat × Bool) × List Shadow × List
    Req :=
  (fun f => get f.1 s, s.frm.aborts, s.shadows, s.reqs)

/-- From `s` to `t` the headers of the pages, the aborts under way and the shadows stay as they are, and no reaction is
asked for. -/
def KeepsHead (s t : State) : Prop := headView t = headView s

namespace KeepsHead

variable {s t u : State}

theorem refl (s : State) : KeepsHead s s := rfl

theorem trans (h : KeepsHead s t) (k : KeepsHead t u) : KeepsHead s u := Eq.trans k h

/-- A step that touches nothing of it. -/
theorem same (h : KeepsHead s t) (hu : headView u = headView t := by rfl) : KeepsHead s u := hu.trans h

theorem of_parts (hg : ∀ f : Fld, headKey f.key = true → Machine.get f t = Machine.get f s)
    (ha : t.frm.aborts = s.frm.aborts) (hs : t.shadows = s.shadows) (hr : t.reqs = s.reqs) : KeepsHead s t := by
  unfold KeepsHead headView
  rw [ha, hs, hr, show (fun f : { f : Fld // headKey f.key = true } => Machine.get f.1 t) =
      fun f => Machine.get f.1 s from
    funext fun f => hg f.1 f.2]

theorem get (h : KeepsHead s t) {f : Fld} (hf : headKey f.key = true := by decide) : Machine.get f t = Machine.get f s
    :=
  congrFun (congrArg Prod.fst h) ⟨f, hf⟩

theorem aborts (h : KeepsHead s t) : t.frm.aborts = s.frm.aborts := congrArg (·.2.1) h

theorem shadows (h : KeepsHead s t) : t.shadows = s.shadows := congrArg (·.2.2.1) h

theorem reqs (h : KeepsHead s t) : t.reqs = s.reqs := congrArg (·.2.2.2) h

theorem set (h : KeepsHead s t) (f : Fld) (v : Nat) (hf : headKey f.key = false := by decide) :
    KeepsHead s (Machine.set f v t) :=
  h.trans (of_parts (fun g hg => get_set_other v t fun he => by simp [he, hf] at hg) rfl rfl rfl)

theorem cond (h : KeepsHead s t) (c : Bool) (f : State → State) (hf : ∀ u, KeepsHead s u → KeepsHead s (f u)) :
    KeepsHead s (when c f t) := when_keeps (KeepsHead s) c f t h (hf t)

theorem each {α : Type} (h : KeepsHead s t) (l : List α) (f : α → State → State)
    (hf : ∀ a u, KeepsHead s u → KeepsHead s (f a u)) : KeepsHead s (forEach l f t) :=
  forEach_keeps (KeepsHead s) l f t h fun a _ => hf a

theorem branch (c : Prop) [Decidable c] (h : KeepsHead s t) (k : KeepsHead s u) : KeepsHead s (if c then t else u) := by
  split
  · exact h
  · exact k

/-- A frame whose fields lie beyond the headers. -/
theorem of_changes {ps : List Part} {fs : List Fld} (h : KeepsHead s t) (k : Changes ps fs t u) (hp : .frm ∉ ps)
    (hs : .shadows ∉ ps) (hf : ∀ f ∈ fs, headKey f.key = false) : KeepsHead s u := by
  have hset : ∀ k ∈ settleKeys, headKey k = false := by decide +kernel
  refine h.trans (of_parts (fun f hk => k.regs f (fun hm => ?_) (fun hm => ?_)) (congrArg Frm.aborts (k.frm hp))
    (k.shadows hs) k.reqs)
  · obtain ⟨g, hg, he⟩ := List.mem_map.1 hm
    simp [← he, hf g hg] at hk
  · simp [hset _ hm] at hk

/-! ### Entries, seals, moves and the die operations -/

theorem follow (h : KeepsHead s t) (f : Fld) (before after : Bool) (hf : headKey f.key = false := by decide) :
    KeepsHead s (Machine.follow f before after t) :=
  branch _ h (branch _ (h.set f _ hf) (h.set f _ hf))

theorem groupFollow (h : KeepsHead s t) (k : Nat) : KeepsHead s (Machine.groupFollow k t) :=
  set (t := { t with mrv := _ }) h Reg.MRV.GROUPS_SET _

theorem placeEntry (h : KeepsHead s t) (g : Nat) (e : Entry) : KeepsHead s (Machine.placeEntry g e t) := by
  have hput : KeepsHead s { t with mrv := { t.mrv with entries := put {} t.mrv.entries g e } } := h
  exact groupFollow (((hput.follow _ _ _).follow _ _ _).follow _ _ _) _

theorem putEntry (h : KeepsHead s t) (g : Nat) (e : Entry) : KeepsHead s (Machine.putEntry g e t) := by
  have hcount := (h.placeEntry g e).follow Reg.MRV.DIRTY_COUNT ((entryOf g t).state != .clean) (e.state != .clean)
  exact branch _ hcount hcount

theorem endOp (h : KeepsHead s t) (ch die : Nat) (kind : DieOpKind) (what : Nat) :
    KeepsHead s (Machine.endOp ch die kind what t) := by
  unfold Machine.endOp
  (repeat' split) <;> exact h

theorem emit (h : KeepsHead s t) (o : Out) : KeepsHead s (Machine.emit o t) := h

theorem dropOp (h : KeepsHead s t) (ch die : Nat) (kind : DieOpKind) (what : Nat) :
    KeepsHead s (Machine.dropOp ch die kind what t) :=
  endOp (h.cond _ _ fun _ hu => hu.emit _) _ _ _ _

theorem abandonSeal (h : KeepsHead s t) (g : Nat) : KeepsHead s (Machine.abandonSeal g t) := by
  unfold Machine.abandonSeal
  split
  · exact h
  · exact putEntry (dropOp (t := unqueue _ _ (dropSealing g t)) h _ _ _ _) _ _

theorem abandonOn (h : KeepsHead s t) (p : Nat → Bool) : KeepsHead s (Machine.abandonOn p t) :=
  h.each _ _ fun g _ hu => hu.abandonSeal g

theorem abandonAll (h : KeepsHead s t) : KeepsHead s (Machine.abandonAll t) := by
  have hall : KeepsHead s (forEach (t.nand.sealing.map (·.granule)) Machine.abandonSeal t) :=
    h.each _ _ fun g _ hu => hu.abandonSeal g
  exact hall

theorem dropMoves (h : KeepsHead s t) : KeepsHead s (Machine.dropMoves t) := by
  have hclear : KeepsHead s { t with nand := { t.nand with moving := [] } } := h
  refine hclear.each _ _ fun r u hu => ?_
  have hdrop := dropOp (t := unqueue r.loc.ch (granPages u) u) hu r.loc.ch r.loc.die .program
      r.granule
  dsimp only
  split
  · exact hdrop.dropOp _ _ _ _
  · exact hdrop

theorem setTwinDirty (h : KeepsHead s t) (g : Nat) : KeepsHead s (Machine.setTwinDirty g t) := branch _
    (h.putEntry _ _) h

/-! ### The ports and the channels -/

theorem sendPoison (h : KeepsHead s t) (port tag : Nat) (under : Option Line) :
    KeepsHead s (Machine.sendPoison port tag under t) :=
  (h.emit _).set (Reg.HPT.POISON_RD_COUNT port) _ beyond_head

theorem finishRead (h : KeepsHead s t) (r : ReadWait) : KeepsHead s (Machine.finishRead r t) := by
  unfold Machine.finishRead
  split
  · exact h.emit _
  · exact h.sendPoison _ _ _
  · exact branch _ (h.sendPoison _ _ _) (h.emit _)

theorem depthShow (h : KeepsHead s t) (ch : Nat) : KeepsHead s (Machine.depthShow ch t) :=
  (((h.set (Reg.DCH.QDEPTH_RD0 ch) _ beyond_head).set (Reg.DCH.QDEPTH_RD1 ch) _ beyond_head).set
    (Reg.DCH.QDEPTH_WR0 ch) _ beyond_head).set (Reg.DCH.QDEPTH_WR1 ch) _ beyond_head

theorem idlePort (h : KeepsHead s t) (n : Nat) : KeepsHead s (Machine.idlePort n t) := by
  unfold Machine.idlePort
  refine each (each (each h.same _ _ fun r _ hu => hu.finishRead r) _ _ fun w _ hu => hu.emit _) _ _
    fun ch _ hu => hu.depthShow ch

theorem writeLine (h : KeepsHead s t) (line : Nat) (be : BitVec 64) (d : Line) : KeepsHead s
    (Machine.writeLine line be d t) :=
  h.each _ _ fun _ _ hu => hu.cond _ _ fun _ hv => hv

theorem landWrite (h : KeepsHead s t) (e : WEntry) : KeepsHead s (Machine.landWrite e t) := by
  have hw := h.writeLine e.line e.be e.data
  have hn : KeepsHead s (noteRepair e.line e.be (Machine.writeLine e.line e.be e.data t)) :=
    branch _ hw hw
  unfold Machine.landWrite
  dsimp only
  refine branch _ hn (branch _ (branch _ hn hn) hn)

theorem endReads (h : KeepsHead s t) (line : Nat) : KeepsHead s (Machine.endReads line t) := by
  have hd : KeepsHead s (Machine.depthShow (lineLoc line t).ch (dropRead (fun r => r.line == line) t)) :=
    depthShow h.same _
  exact branch _ hd hd

theorem unqueueRead (h : KeepsHead s t) (r : REntry) : KeepsHead s (Machine.unqueueRead r t) := by
  unfold Machine.unqueueRead
  split
  · exact h
  · exact h

theorem idleChannel (h : KeepsHead s t) (ch : Nat) : KeepsHead s (Machine.idleChannel ch t) := by
  unfold Machine.idleChannel
  dsimp only
  have hl : KeepsHead s (forEach (((t.dram.writes.filter (fun e => e.ch == ch))).filter (!·.issued)) Machine.landWrite
      t) :=
    h.each _ _ fun e _ hu => hu.landWrite e
  generalize forEach (((t.dram.writes.filter (fun e => e.ch == ch))).filter (!·.issued)) Machine.landWrite t = v at *
  refine set (depthShow ?_ _) (Reg.DCH.STS_MODE ch) _ beyond_head
  have hr : ∀ u, KeepsHead s u → KeepsHead s (setReads (v.dram.reads.filter (fun r => r.ch != ch)) u) :=
    fun u hu => hu
  refine hr _ (each (each hl.same _ _ fun r u hu => ?_) _ _ fun r _ hu => hu.unqueueRead r)
  have he := hu.endReads r.line
  exact he

/-! ### Contexts, the gauge, the restore and the Punty link -/

theorem txnShow (h : KeepsHead s t) : KeepsHead s (Machine.txnShow t) := (((h.set _ _).set _ _).set _ _).set _ _

theorem setCtxState (h : KeepsHead s t) (g st : Nat) : KeepsHead s (Machine.setCtxState g st t) :=
  txnShow ((h.set (Reg.TXC.CTX_STS_STATE (g / 16) (g % 16)) _ (context_beyond (hi := by omega))).set
    (Reg.TXC.CTX_FRAME_FRAME (g / 16) (g % 16)) _ (context_beyond (hi := by omega)))

theorem discardRequest (h : KeepsHead s t) (g : Nat) : KeepsHead s (Machine.discardRequest g t) := by
  have hd : KeepsHead s { t with txn := { t.txn with requests := t.txn.requests.filter (·.ctx != g) } } :=
    h
  exact (hd.setCtxState g 1).set (Reg.TXC.CTX_STS_RESULT (g / 16) (g % 16)) _ (context_beyond (hi := by omega))

theorem endCapTest (h : KeepsHead s t) : KeepsHead s (Machine.endCapTest t) :=
  set (t := { t with eng := _, pwr := _ }) h Reg.ENG.CAP_TEST_RUNNING _

theorem endExercise (h : KeepsHead s t) (result : Nat) : KeepsHead s (Machine.endExercise result t) :=
  branch _ h ((((((set (t := { t with eng := _, pwr := _ }) h Reg.ENG.EXERCISE_ACTIVE _).set _
      _).set _ _).set
    _ _)).set _ _)

theorem setInflight (h : KeepsHead s t) (l : List (Nat × Flight)) : KeepsHead s (Machine.setInflight l t) :=
  (set (t := { t with rsr := _ }) h Reg.RSR.SLOTS_IN_FLIGHT _).set _ _

theorem retrainPunty (h : KeepsHead s t) : KeepsHead s (Machine.retrainPunty t) :=
  branch _ ((((h.set _ _).set _ _).set _ _).set _ _) h

/-! ### Gather queues -/

theorem setQueue (h : KeepsHead s t) (q : Nat) (f : Gather → Gather) : KeepsHead s (Machine.setQueue q f t) :=
  h

theorem event (h : KeepsHead s t) (p k : Nat) (hk : k < 32 := by decide) : KeepsHead s (Machine.event p k t) :=
  h.set _ _ (event_beyond p hk)

theorem live (h : KeepsHead s t) (p k : Nat) (b : Bool) : KeepsHead s (Machine.live p k b t) :=
  h.set _ _ (live_beyond p)

theorem emitWide (h : KeepsHead s t) (q : Nat) (words : List (BitVec 16)) (pad : Bool) :
    KeepsHead s (Machine.emitWide q words pad t) :=
  ((h.setQueue q _).set (Reg.GQ.WR_SEQ q) _ beyond_head).cond _ _ fun _ hu => hu.event _ _

theorem queueMarks (h : KeepsHead s t) (q : Nat) : KeepsHead s (Machine.queueMarks q t) := by
  have hup := h.cond ((queue q t).hiArmed && decide (Machine.get (Reg.GQ.WM_HI_PCT q) t * queueCapacity q t / 100 ≤
      (queue q t).held.length))
    (fun s => s |> Machine.event (0xA0 + q) 0 |> inc (Reg.GQ.WM_CROSSINGS_HI q))
    fun _ hu => (hu.event _ _).set (Reg.GQ.WM_CROSSINGS_HI q) _ beyond_head
  have hdown := hup.cond ((queue q t).loArmed && decide ((queue q t).held.length < Machine.get
      (Reg.GQ.WM_LO_PCT q) t * queueCapacity q t / 100))
    (fun s => s |> Machine.event (0xA0 + q) 1 |> inc (Reg.GQ.WM_CROSSINGS_LO q))
    fun _ hu => (hu.event _ _).set (Reg.GQ.WM_CROSSINGS_LO q) _ beyond_head
  exact ((hdown.setQueue q _).live _ _ _).live _ _ _

theorem queueShow (h : KeepsHead s t) (q : Nat) : KeepsHead s (Machine.queueShow q t) :=
  ((((((h.set (Reg.GQ.HELD_WORDS q) _ beyond_head).set (Reg.GQ.CAPACITY_WORDS q) _ beyond_head).set
    (Reg.GQ.STS_PACK q) _ beyond_head).set (Reg.GQ.STS_TAIL_FULL q) _ beyond_head).live _ _ _).live _ _ _).queueMarks q

theorem queueCredits (h : KeepsHead s t) (q : Nat) : KeepsHead s (Machine.queueCredits q t) := h.setQueue q _

theorem flushPacking (h : KeepsHead s t) (q : Nat) : KeepsHead s (Machine.flushPacking q t) :=
  branch _ h ((((h.setQueue q _).emitWide q _ _).queueCredits q).queueShow q)

theorem pushWord (h : KeepsHead s t) (q : Nat) (v : BitVec 16) : KeepsHead s (Machine.pushWord q v t) :=
  branch _ ((h.setQueue q _).emitWide q _ _) (h.setQueue q _)

theorem pushWords (h : KeepsHead s t) (q : Nat) (ws : List (BitVec 16)) : KeepsHead s (Machine.pushWords q ws t) :=
  ((((h.setQueue q _).each _ _ fun v _ hu => hu.pushWord q v)).queueCredits q).queueShow q

theorem serveOne (h : KeepsHead s t) : KeepsHead s (Machine.serveOne t) := by
  unfold Machine.serveOne
  split
  · exact h
  · exact branch _ ((h.setQueue 2 _).pushWords 2 _) h

theorem serveWaiting (h : KeepsHead s t) : KeepsHead s (Machine.serveWaiting t) := h.each _ _ fun _ _ hu => hu.serveOne

/-! ### The code array and the update -/

theorem setCarBank (h : KeepsHead s t) (b : Nat) (k : CarBank) : KeepsHead s (Machine.setCarBank b k t) :=
  branch _ h h

theorem carShow (h : KeepsHead s t) {b : Nat} (hb : b < 64) : KeepsHead s (Machine.carShow b t) :=
  (h.set (Reg.CAR.BANK_STS_STATUS b) _ (row_beyond hb)).set (Reg.CAR.BANK_STS_OP b) _ (row_beyond hb)

theorem cancelCar (h : KeepsHead s t) {b : Nat} (hb : b < 64) : KeepsHead s (Machine.cancelCar b t) := by
  refine carShow (setCarBank (each h _ _ fun x u hu => ?_) _ _) hb
  have hf := (hu.set (Reg.CAR.BANK_STS_STATUS b) (Nat.lor (carStatus b u) (if x.kind = 2 then 8 else 4))
      (row_beyond hb)).set
    (Reg.CAR.BANK_STS_MODE b) 1 (row_beyond hb)
  exact branch _ hf (branch _ hf hf)

theorem endTransfer (h : KeepsHead s t) : KeepsHead s (Machine.endTransfer t) := by
  have hd : KeepsHead s (dropTransfer t) := set (t := { t with upd := _ }) h Reg.UPD.DL_ACTIVE _
  exact branch _ h (hd.emit _)

/-- A block that goes idle leaves the headers (R92). -/
theorem idleBlock (h : KeepsHead s t) (p : Nat) : KeepsHead s (Machine.idleBlock p t) := by
  have hnand : ∀ u, KeepsHead s u → KeepsHead s { u with nand := { u.nand with checkpoint := none } } :=
    fun u hu => hu
  have htwin : KeepsHead s { t with twn := { t.twn with copying := [], hello := none, planned := false, copies := [] }
      } :=
    h
  unfold Machine.idleBlock
  refine branch _ h (branch _ (h.idlePort _) (branch _ (h.idleChannel _)
    (branch _ h (branch _ (h.each _ _ fun g _ hu => hu.discardRequest g)
    (branch _ (hnand _ (h.abandonOn _).dropMoves) (branch _ (h.abandonOn _) (branch _ h
    (branch _ h.abandonAll (branch _ (h.endCapTest.endExercise 2) (branch _ (branch _ (h.setInflight _) h)
    (branch _ h.retrainPunty (branch _ (htwin.each _ _ fun g _ hu => hu.setTwinDirty g) (branch _ (h.flushPacking _)
    (branch _ ((h.cancelCar (by decide)).cancelCar (by decide)) (branch _ h.endTransfer
    (branch _ h h))))))))))))))))

end KeepsHead

end Sys2Proof.Machine
end

section
/-! SUPPORT. The headers of the pages: ENABLE, ABORT and RESET, FREEZE, COMMIT_SHADOW and LOCK (R69, R72 to R74, R83,
R91 to R96). -/

namespace Sys2Proof.Machine
set_option Elab.async false

/-! ### What a reset keeps of a page -/

/-- A field at the place of CTL is a plain one of CTL. -/
def plainCtl (d : FDef) : Bool :=
  d.f.key / 32 % 4096 != 0xC || d.acc == .rw && !d.pop && d.f.addr % 4096 == 0xC

theorem place_in_page {p o lo w r : Nat} (hlo : lo < 32) (ho : o < 4096) :
    (⟨4096 * p + o, lo, w, r⟩ : Fld).key / 32 % 4096 = o := by
  simp only [Fld.key]
  omega

theorem headerFields_ctl (p : Nat) : ∀ d ∈ headerFields p, plainCtl d = true := by
  have hother : ∀ {o lo w r : Nat} {a : Acc} {c : Cls} {l h : Nat} {x y : Bool}, lo < 32 → o < 4096 → o ≠ 0xC →
      plainCtl ⟨⟨4096 * p + o, lo, w, r⟩, a, c, l, h, x, y⟩ = true := by
    intro o lo w r a c l h x y hlo ho hne
    simp [plainCtl, place_in_page hlo ho, hne]
  have hctl : ∀ {lo w r : Nat} {c : Cls} {l h : Nat} {y : Bool},
      plainCtl ⟨⟨4096 * p + 0xC, lo, w, r⟩, .rw, c, l, h, y, false⟩ = true := by
    intro lo w r c l h y
    simp [plainCtl]
  have hmany : ∀ {g : Nat → FDef}, (∀ k < 32, plainCtl (g k) = true) → ∀ d ∈ (List.range 32).map g, plainCtl d = true
      := by
    intro g hg d hd
    obtain ⟨k, hk, rfl⟩ := List.mem_map.1 hd
    exact hg k (List.mem_range.1 hk)
  intro d hd
  rcases List.mem_append.1 hd with hd | hd
  · rcases List.mem_append.1 hd with hd | hd
    · simp only [List.mem_cons, List.not_mem_nil, or_false] at hd
      rcases hd with rfl | rfl | rfl | rfl | rfl | rfl | rfl | rfl | rfl | rfl | rfl | rfl | rfl | rfl | rfl | rfl |
          rfl |
        rfl | rfl | rfl
      case inr.inr.inr.inl => exact hctl
      case inr.inr.inr.inr.inl => exact hctl
      all_goals exact hother (by decide) (by decide) (by decide)
    · exact hmany (fun k hk => hother hk (by decide) (by decide)) d hd
  · exact hmany (fun k hk => hother hk (by decide) (by decide)) d hd

theorem pageFields_used : ∀ p : Fin 210, ∀ d ∈ pageFields p, plainCtl d = true := by
  decide +kernel

theorem pageFields_ctl (p : Nat) : ∀ d ∈ headerFields p ++ pageFields p, plainCtl d = true := by
  intro d hd
  rcases List.mem_append.1 hd with hd | hd
  · exact headerFields_ctl p d hd
  · by_cases hp : p < 210
    · exact pageFields_used ⟨p, hp⟩ d hd
    · have hunused : pageUsed p = false := by
        simp [pageUsed]
        omega
      simp [pageFields, hunused] at hd

/-- A reset keeps nothing of CTL. -/
theorem ctl_reset {p : Nat} {f : Fld} (hk : f.key / 32 % 4096 = 0xC) : f.key ∉ resetKeeps p ∧ f.key ∉ keptKeys p := by
  have hplain : ∀ d ∈ headerFields p ++ pageFields p, d.f.key = f.key → d.acc = .rw ∧ d.pop = false ∧ d.f.addr % 4096
      = 0xC := by
    intro d hd he
    have h := pageFields_ctl p d hd
    rw [plainCtl, he] at h
    simpa [hk, and_assoc] using h
  refine ⟨fun hm => ?_, fun hm => ?_⟩
  · rcases List.mem_cons.1 hm with he | hm
    · rw [he] at hk
      exact absurd hk (by rw [Reg.LOCK_LOCK, place_in_page (by decide) (by decide)]; decide)
    · obtain ⟨d, hd, he⟩ := List.mem_map.1 hm
      obtain ⟨hd, hacc⟩ := List.mem_filter.1 hd
      obtain ⟨h1, -, h3⟩ := hplain d hd he
      simp [h1, h3] at hacc
  · obtain ⟨d, hd, he⟩ := List.mem_map.1 hm
    obtain ⟨hd, hpop⟩ := List.mem_filter.1 hd
    obtain ⟨-, h2, -⟩ := hplain d hd he
    simp [h2] at hpop

theorem lock_reset (p : Nat) : (Reg.LOCK_LOCK p).key ∈ resetKeeps p := List.mem_cons_self

theorem page_of_header {p o lo w r : Nat} (ho : o < 4096 := by decide) (hlo : lo < 32 := by decide) :
    pageOfKey (⟨4096 * p + o, lo, w, r⟩ : Fld).key = p := by
  simp only [pageOfKey, Fld.key]
  omega

theorem head_of_place {p o lo w r : Nat} (h : [0xC, 0x10, 0x14, 0x2C].contains o = true := by decide)
    (ho : o < 4096 := by decide) (hlo : lo < 32 := by decide) : headKey (⟨4096 * p + o, lo, w, r⟩ : Fld).key = true :=
        by
  rw [headKey, place_in_page hlo ho]
  exact h

/-- The fall of a live bit leaves the headers. -/
theorem KeepsHead.liveFall {s t : State} (h : KeepsHead s t) (n : Nat) : KeepsHead s (Machine.liveFall n t) := by
  have hlive : headKey (Reg.FLS.LIVE n).key = false := by
    have h1 := live_offset n
    have h2 : (Reg.FLS.LIVE n).key / 32 % 4096 = (Reg.FLS.LIVE n).key % 131072 / 32 := by omega
    rw [headKey, h2]
    generalize (Reg.FLS.LIVE n).key % 131072 / 32 = m at *
    simp
    omega
  exact h.of_changes (changes_liveFall n t) (by simp) (by simp) (by simp [fallFields, hlive]; decide)

theorem KeepsHead.endInjection {s t : State} (h : KeepsHead s t) (p : Nat) : KeepsHead s (Machine.endInjection p t) :=
    by
  refine KeepsHead.set (.each h.same _ _ fun j _ hu => hu.liveFall _) (Reg.FINJ_ACTIVE p) _ ?_
  rw [headKey, Reg.FINJ_ACTIVE, place_in_page (by decide) (by decide)]
  decide

theorem KeepsHead.popDefaults {s t : State} (h : KeepsHead s t) (p : Nat) : KeepsHead s (Machine.popDefaults p t) :=
  (((h.cond _ _ fun _ hu => hu.set (Reg.DCH.REF_TRFC_NS (p - 0x20)) _ beyond_head).cond _ _ fun _ hu =>
    (hu.set Reg.LEH.BUDGET_CAP_GRAN _).set Reg.LEH.CAPONLY_CAP_GRAN _).cond _ _ fun _ hu =>
    hu.set Reg.SCR.RATE_LINES _).cond _ _ fun _ hu => hu.set Reg.TXN.PAIR_MAX_PAIRS _

/-- The source mode is applied beyond the headers. -/
theorem KeepsHead.applySrcMode {s t : State} (h : KeepsHead s t) : KeepsHead s (Machine.applySrcMode t) := by
  have hlocal : KeepsHead s { t with frm := { t.frm with adopt := none, lengthening := false } } := h
  exact .branch _ ((((hlocal.set Reg.FRM.SRC_STATE 0).set Reg.FRM.SYNC_LOCK_RUN 0).set Reg.FRM.SYNC_MISSED 0).liveFall
      165)
    (((h.set Reg.FRM.SRC_STATE 1).set Reg.FRM.SYNC_LOCK_RUN 0).set Reg.FRM.SYNC_MISSED 0)

theorem KeepsHead.queueReset {s t : State} (h : KeepsHead s t) (q : Nat) : KeepsHead s (Machine.queueReset q t) :=
  (((h.setQueue q _).set (Reg.GQ.RELEASED_SEQ q) _ beyond_head).set (Reg.GQ.MARK_SEQ q) _ beyond_head).set
    (Reg.GQ.RD_SEQ q) _ beyond_head

/-- What a reset does to a page beside wiping it. -/
def resetRest (p : Nat) (s : State) : State :=
  s |> popDefaults p
    |> when (p == 1) (fun s =>
        { s with frm := { s.frm with windows := List.replicate 16 [] } } |> sumShow |> applySrcMode)
    |> when (0xA0 ≤ p && p < 0xA4) (fun s => s |> queueReset (p - 0xA0) |> queueShow (p - 0xA0))
    |> when (p == 0xA2) (fun s => s |> serveWaiting |> queueShow 2)

theorem keepsHead_resetRest (p : Nat) (s : State) : KeepsHead s (resetRest p s) := by
  refine ((((KeepsHead.refl s).popDefaults p).cond _ _ fun u hu => KeepsHead.applySrcMode ?_).cond _ _ fun u hu =>
    (hu.queueReset _).queueShow _).cond _ _ fun u hu => hu.serveWaiting.queueShow 2
  have hw : KeepsHead s { u with frm := { u.frm with windows := List.replicate 16 [] } } := hu
  exact (hw.set Reg.FRM.SUM_DRAM_SUM _).set Reg.FRM.SUM_NAND_SUM _

theorem endInjection_upd (p : Nat) (s : State) : (endInjection p s).upd = s.upd :=
  forEach_keeps (fun u : State => u.upd = s.upd) _ _ _ rfl fun j _ u hu => ((changes_liveFall j.2.1 u).upd
      (by simp)).trans hu

/-- A reset of a page without stored settings. -/
theorem resetPage_eq {p : Nat} {s : State} (h : ∀ e ∈ s.upd.settings, e.1 / 131072 ≠ p) :
    resetPage p s = resetRest p (wipePage p (resetKeeps p) (endInjection p s)) := by
  have hnone : ∀ e ∈ (wipePage p (resetKeeps p) (endInjection p s)).upd.settings, e.1 / 131072 ≠ p := by
    show ∀ e ∈ (endInjection p s).upd.settings, _
    rw [endInjection_upd]
    exact h
  unfold resetRest
  rw [← reloadStored_none hnone]
  rfl

/-- What a reset of a page leaves of its header: LOCK stays, CTL is at its reset value (R83). -/
theorem resetPage_header {p : Nat} {s : State} (h : ∀ e ∈ s.upd.settings, e.1 / 131072 ≠ p) :
    get (Reg.LOCK_LOCK p) (resetPage p s) = get (Reg.LOCK_LOCK p) s ∧
    get (Reg.BLKCTL_ENABLE p) (resetPage p s) = 0 ∧ get (Reg.BLKCTL_FREEZE p) (resetPage p s) = 0 ∧
    (resetPage p s).frm.aborts = s.frm.aborts ∧ (resetPage p s).reqs = s.reqs := by
  have hend := (KeepsHead.refl s).endInjection p
  have hrest := keepsHead_resetRest p (wipePage p (resetKeeps p) (endInjection p s))
  have hctl : ∀ lo w, lo < 32 → get ⟨4096 * p + 0xC, lo, w, 0⟩ (resetPage p s) = 0 := by
    intro lo w hlo
    obtain ⟨hk, hr⟩ := ctl_reset (p := p) (f := ⟨4096 * p + 0xC, lo, w, 0⟩) (place_in_page hlo (by decide))
    rw [resetPage_eq h, hrest.get (head_of_place (by decide) (by decide) hlo)]
    exact get_wipePage_gone _ (page_of_header (by decide) hlo) hk hr
  refine ⟨?_, hctl 0 1 (by decide), hctl 3 1 (by decide), ?_, ?_⟩
  · have hlock : headKey (Reg.LOCK_LOCK p).key = true := head_of_place
    rw [resetPage_eq h, hrest.get hlock, get_wipePage_kept _ (.inr (.inl (lock_reset p))), hend.get hlock]
  · rw [resetPage_eq h]
    exact hrest.aborts.trans hend.aborts
  · rw [resetPage_eq h]
    exact hrest.reqs.trans hend.reqs

/-! ### The end of an abort (R83, R92, R93) -/

/-- The state of a block whose abort is over, before its page shows it. -/
def abortEnding (p : Nat) (reset : Bool) (s : State) : State :=
  { s with frm := { s.frm with lateEnable := s.frm.lateEnable.filter (·.1 != p),
                               aborts := s.frm.aborts.filter (·.1 != p) } }
    |> balancePools p |> when reset (resetPage p)

/-- What the page shows at the end of an abort. -/
def abortShown (p : Nat) (restart : Bool) (s : State) : State :=
  s |> set (Reg.BLKSTS_ABORTING p) 0 |> set (Reg.BLKSTS_ABORT_DONE p) 1
    |> (fun s => set (Reg.BLKSTS_FROZEN p) (get (Reg.BLKCTL_FREEZE p) s) s)
    |> when restart (fun s => { s with rsr := { s.rsr with restart := 1 } })

theorem finishAbort_eq {p n : Nat} {reset : Bool} {s : State} (ha : s.frm.aborts.filter (·.1 == p) = [(p, n, reset)])
    (hl : ∀ e ∈ s.frm.lateEnable, e.1 ≠ p) :
    ∃ restart, finishAbort p s = abortShown p restart (abortEnding p reset s) := by
  have hfind : s.frm.aborts.find? (·.1 == p) = some (p, n, reset) := by
    rw [← List.head?_filter, ha]
    rfl
  have hany : s.frm.aborts.any (·.1 == p) = true := by
    exact List.any_eq_true.2 ⟨_, List.mem_of_find?_eq_some hfind, by simp⟩
  have hreset : s.frm.aborts.any (fun a => a.1 == p && a.2.2) = reset := by
    rw [← List.any_filter, ha]
    simp
  have hlate : s.frm.lateEnable.filter (·.1 == p) = [] :=
    List.filter_eq_nil_iff.2 fun e he => by simpa using hl e he
  refine ⟨p == 0x43 && restoring s && !admittedNow s, ?_⟩
  unfold finishAbort
  simp only [hany, hreset, hlate, Bool.not_true, Bool.false_eq_true, if_false]
  unfold endAbort
  simp only [hfind]
  cases reset <;> rfl

theorem keepsHead_balancePools (p : Nat) (s : State) : KeepsHead s (balancePools p s) :=
  (KeepsHead.refl s).each _ _ fun _ _ hu => .branch _ hu hu

theorem balancePools_upd (p : Nat) (s : State) : (balancePools p s).upd = s.upd :=
  forEach_keeps (fun u : State => u.upd = s.upd) _ _ _ rfl fun o _ u hu => by
    split
    · exact hu
    · exact hu

/-- The header at the end of an abort, before its page shows it. -/
theorem abortEnding_header {p : Nat} {reset : Bool} {s : State} (hset : ∀ e ∈ s.upd.settings, e.1 / 131072 ≠ p) :
    get (Reg.LOCK_LOCK p) (abortEnding p reset s) = get (Reg.LOCK_LOCK p) s ∧
    (if reset then get (Reg.BLKCTL_ENABLE p) (abortEnding p reset s) = 0 ∧ get (Reg.BLKCTL_FREEZE p)
        (abortEnding p reset s) = 0
      else get (Reg.BLKCTL_ENABLE p) (abortEnding p reset s) = get (Reg.BLKCTL_ENABLE p) s) ∧
    (abortEnding p reset s).frm.aborts = s.frm.aborts.filter (·.1 != p) ∧ (abortEnding p reset s).reqs = s.reqs := by
  have hb := keepsHead_balancePools p { s with frm := { s.frm with
    lateEnable := s.frm.lateEnable.filter (·.1 != p), aborts := s.frm.aborts.filter (·.1 != p) } }
  have hlock : headKey (Reg.LOCK_LOCK p).key = true := head_of_place
  have henable : headKey (Reg.BLKCTL_ENABLE p).key = true := head_of_place
  cases reset
  · exact ⟨hb.get hlock, hb.get henable, hb.aborts, hb.reqs⟩
  · obtain ⟨h1, h2, h3, h4, h5⟩ := resetPage_header (p := p) (s := balancePools p { s with frm := { s.frm with
      lateEnable := s.frm.lateEnable.filter (·.1 != p), aborts := s.frm.aborts.filter (·.1 != p) } })
      (by rw [balancePools_upd]; exact hset)
    exact ⟨h1.trans (hb.get hlock), ⟨h2, h3⟩, h4.trans hb.aborts, h5.trans hb.reqs⟩

/-- The fields that the end of an abort shows. -/
def stsFields (p : Nat) : List Fld := [Reg.BLKSTS_ABORTING p, Reg.BLKSTS_ABORT_DONE p, Reg.BLKSTS_FROZEN p]

theorem changes_abortShown (p : Nat) (restart : Bool) (s : State) :
    Changes [.rsr] (stsFields p) s (abortShown p restart s) :=
  ((((Changes.refl _ _ s).set _ _ (by simp [stsFields])).set _ _ (by simp [stsFields])).set _ _
      (by simp [stsFields])).cond _ _
    fun _ hu => hu.in_rsr _ (by simp)

theorem sts_keys (p : Nat) : (Reg.BLKSTS_ABORTING p).key ≠ (Reg.BLKSTS_ABORT_DONE p).key ∧
    (Reg.BLKSTS_ABORTING p).key ≠ (Reg.BLKSTS_FROZEN p).key ∧ (Reg.BLKSTS_ABORT_DONE p).key ≠
        (Reg.BLKSTS_FROZEN p).key := by
  simp [Fld.key, Reg.BLKSTS_ABORTING, Reg.BLKSTS_ABORT_DONE, Reg.BLKSTS_FROZEN]

theorem abortShown_get (p : Nat) (restart : Bool) (s : State) :
    get (Reg.BLKSTS_ABORTING p) (abortShown p restart s) = 0 ∧ get (Reg.BLKSTS_ABORT_DONE p)
        (abortShown p restart s) = 1 := by
  obtain ⟨h1, h2, h3⟩ := sts_keys p
  have hwhen : ∀ f u, get f (when restart (fun s => { s with rsr := { s.rsr with restart := 1 } }) u) = get f u := by
    intro f u
    cases restart <;> rfl
  unfold abortShown
  rw [hwhen, hwhen]
  refine ⟨?_, ?_⟩
  · rw [get_set_other _ _ h2, get_set_other _ _ h1, get_set_same]
    rfl
  · rw [get_set_other _ _ h3, get_set_same]
    rfl

/-- A header field, but for the events, is not kept up to date by the end of every command. -/
theorem head_settle {f : Fld} (h : headKey f.key = true) : f.key ∉ settleKeys := by
  have hset : ∀ k ∈ settleKeys, headKey k = false := by decide +kernel
  exact fun hm => by simp [hset _ hm] at h

/-- A header field outside STS. -/
theorem beside_sts {p o lo w r : Nat} (h : o ≠ 0x10 := by decide) (hlo : lo < 32 := by decide) :
    (⟨4096 * p + o, lo, w, r⟩ : Fld).key ∉ (stsFields p).map Fld.key := by
  simp [stsFields, Fld.key, Reg.BLKSTS_ABORTING, Reg.BLKSTS_ABORT_DONE, Reg.BLKSTS_FROZEN]
  omega

theorem completes_abortDone {s : State} (hs : Ready s) {page : BitVec 12} {n : Nat} {reset : Bool}
    (hd : pageDark page.toNat s = false) (ha : s.frm.aborts.filter (·.1 == page.toNat) = [(page.toNat, n, reset)])
    (hl : ∀ e ∈ s.frm.lateEnable, e.1 ≠ page.toNat) (hset : ∀ e ∈ s.upd.settings, e.1 / 32 / 4096 ≠ page.toNat) :
    Completes (.abortDone page) s fun t =>
      get (Reg.BLKSTS_ABORTING page.toNat) t = 0 ∧ get (Reg.BLKSTS_ABORT_DONE page.toNat) t = 1 ∧
      t.frm.aborts = s.frm.aborts.filter (·.1 != page.toNat) ∧
      get (Reg.LOCK_LOCK page.toNat) t = get (Reg.LOCK_LOCK page.toNat) s ∧
      (if reset then get (Reg.BLKCTL_ENABLE page.toNat) t = 0 ∧ get (Reg.BLKCTL_FREEZE page.toNat) t = 0
        else get (Reg.BLKCTL_ENABLE page.toNat) t = get (Reg.BLKCTL_ENABLE page.toNat) s) := by
  generalize hp : page.toNat = p at *
  obtain ⟨restart, he⟩ := finishAbort_eq (s := begun s) ha hl
  obtain ⟨hlock, hctl, haborts, hreqs⟩ := abortEnding_header (p := p) (reset := reset) (s := begun s)
    fun e he => by simpa [Nat.div_div_eq_div_mul] using hset e he
  have hshown := changes_abortShown p restart (abortEnding p reset (begun s))
  obtain ⟨h0, h1⟩ := abortShown_get p restart (abortEnding p reset (begun s))
  generalize abortEnding p reset (begun s) = u at *
  refine .leaves hs (f := fun s => if pageDark page.toNat s then s else finishAbort page.toNat s) rfl
      (u := abortShown p restart u)
    ((if_neg ?_).trans ?_) (hshown.reqs.trans (hreqs.trans hs.2)) fun t k => ?_
  · rw [hp]
    exact ne_true_of_eq_false hd
  · rw [hp]
    exact he
  have hfield : ∀ o lo w, (⟨4096 * p + o, lo, w, 0⟩ : Fld).key ∉ (stsFields p).map Fld.key →
      headKey (⟨4096 * p + o, lo, w, 0⟩ : Fld).key = true → get ⟨4096 * p + o, lo, w, 0⟩ t = get ⟨4096 * p + o, lo, w,
          0⟩ u :=
    fun o lo w h1 h2 => (k.get _ (head_settle h2)).trans (hshown.regs _ h1 (head_settle h2))
  have henable := hfield 0xC 0 1 beside_sts head_of_place
  refine ⟨k.stored (head_settle head_of_place) h0, k.stored (head_settle head_of_place) h1,
    (congrArg Frm.aborts k.frm).trans ((congrArg Frm.aborts (hshown.frm (by simp))).trans haborts),
    (hfield 0x2C 0 1 beside_sts head_of_place).trans hlock, ?_⟩
  cases reset
  · exact henable.trans hctl
  · exact ⟨henable.trans hctl.1, (hfield 0xC 3 1 beside_sts head_of_place).trans hctl.2⟩

/-! ### FREEZE, the safe point, COMMIT_SHADOW and LOCK (R72, R73, R83, R91) -/

section
variable {s : State} (hs : Ready s) {w : Writer} {page : BitVec 12}
include hs

theorem completes_freeze {on : Bool} (hw : Reaches w (ctlAddr page.toNat) (8 * b2n on) s)
    (hok : on = true → freezeRefused page.toNat = false) :
    Completes (.freeze w page on) s fun t =>
      get (Reg.BLKCTL_FREEZE page.toNat) t = b2n on ∧ (on = false → get (Reg.BLKSTS_FROZEN page.toNat) t = 0) ∧
      Changes [] [Reg.BLKCTL_FREEZE page.toNat, Reg.BLKSTS_FROZEN page.toNat] s t := by
  have hgo : (on && freezeRefused page.toNat) = false := by
    cases on
    · rfl
    · exact hok rfl
  have hc : Changes [] [Reg.BLKCTL_FREEZE page.toNat, Reg.BLKSTS_FROZEN page.toNat] s
      (when (!on) (set (Reg.BLKSTS_FROZEN page.toNat) 0) (put1 (Reg.BLKCTL_FREEZE page.toNat) on (begun s))) :=
    ((Changes.begin _ _ s).put1 _ _ (by simp)).cond _ _ fun u hu => hu.set _ _ (by simp)
  have hne : (Reg.BLKCTL_FREEZE page.toNat).key ≠ (Reg.BLKSTS_FROZEN page.toNat).key := by
    simp [Fld.key, Reg.BLKCTL_FREEZE, Reg.BLKSTS_FROZEN]
    omega
  refine .leavesReached hs hw (k := writeFreeze w page.toNat on) rfl (if_neg (ne_true_of_eq_false hgo))
      (hc.reqs.trans hs.2)
    fun t k => ⟨k.stored (head_settle head_of_place) ?_, fun hoff => k.stored (head_settle head_of_place) ?_, hc.ended
        k⟩
  · cases on
    · exact (get_set_other _ _ hne).trans (get_set_same _ _ _)
    · exact get_set_same _ _ _
  · subst hoff
    exact get_set_same _ _ _

theorem completes_frozen (hf : isSet (Reg.BLKCTL_FREEZE page.toNat) s = true) (hd : pageDark page.toNat s = false)
    (ha : isSet (Reg.BLKSTS_ABORTING page.toNat) s = false) :
    Completes (.frozen page) s fun t =>
      get (Reg.BLKSTS_FROZEN page.toNat) t = 1 ∧ Changes [] [Reg.BLKSTS_FROZEN page.toNat] s t := by
  have hgo : (pageFrozen page.toNat (begun s) && !pageDark page.toNat (begun s) &&
      !isSet (Reg.BLKSTS_ABORTING page.toNat) (begun s)) = true := by
    rw [show pageFrozen page.toNat (begun s) = true from hf, show pageDark page.toNat (begun s) = false from hd,
      show isSet (Reg.BLKSTS_ABORTING page.toNat) (begun s) = false from ha]
    rfl
  exact .leaves hs rfl (if_pos hgo) hs.2 fun t k => ⟨k.stored (head_settle head_of_place) (get_set_same _ _ _),
    ((Changes.begin _ _ s).set _ _ (by simp)).ended k⟩

theorem completes_commitShadow (hw : Reaches w (ctlAddr page.toNat) 256 s) :
    Completes (.commitShadow w page) s fun t =>
      page.toNat ∈ t.frm.commitShadow ∧ Changes [.frm] [] s t ∧ t.frm.count = s.frm.count :=
  .leavesReached hs hw (k := writeCommitShadow page.toNat) rfl rfl hs.2 fun t k =>
    ⟨by rw [k.frm]; exact mem_addNat_self _ _, ((Changes.begin _ _ s).in_frm _ (by simp)).ended k,
      (congrArg Frm.count k.frm).trans rfl⟩

theorem completes_lock (hw : Reaches w (page.toNat * 4096 + 0x2C) 1 s) :
    Completes (.lock w page) s fun t =>
      get (Reg.LOCK_LOCK page.toNat) t = 1 ∧ Changes [] [Reg.LOCK_LOCK page.toNat] s t :=
  .leavesReached hs hw (k := writeLock page.toNat) rfl rfl hs.2 fun t k =>
    ⟨k.stored (head_settle head_of_place) (get_set_same _ _ _), ((Changes.begin _ _ s).set _ _ (by simp)).ended k⟩

end

/-- Settles O7. -/
theorem headerCommands : Obligations.HeaderCommands := by
  unfold Obligations.HeaderCommands
  exact fun s hs w page =>
    ⟨fun n reset hd ha hl hset => completes_abortDone hs hd ha hl hset, fun on hw hok => completes_freeze hs hw hok,
      completes_frozen hs, completes_commitShadow hs, completes_lock hs⟩

end Sys2Proof.Machine
end

section
/-! SUPPORT. ENABLE of a page and its refusals, and the start of an abort or a reset (R4, R69, R74, R83, R92, R94, R96,
R132, R434). -/

namespace Sys2Proof.Machine
set_option Elab.async false

/-! ### Write errors of a page -/

theorem get_werr_offset (bit : Nat → Fld) (w : Writer) (addr : Nat) (s : State) :
    get (Reg.BLKWERR_OFFSET (addr / 4096)) (werr bit w addr s) = addr % 4096 := by
  unfold werr
  rw [get_set_other _ _ (by simp [Fld.key, Reg.BLKWERR_OFFSET, Reg.BLKWERR_SOURCE]), get_set_same]
  exact Nat.mod_eq_of_lt (Nat.mod_lt _ (by decide))

theorem get_werr_source (bit : Nat → Fld) (w : Writer) (addr : Nat) (s : State) :
    get (Reg.BLKWERR_SOURCE (addr / 4096)) (werr bit w addr s) = w.code :=
  (get_set_same _ _ _).trans (Nat.mod_eq_of_lt (code_lt w))

theorem ctlAddr_page (p : Nat) : ctlAddr p / 4096 = p ∧ ctlAddr p % 4096 = 0xC := by
  unfold ctlAddr
  omega

/-- A field of WERR, set where CTL is written. -/
def ctlError (bit : Nat → Fld) (p : Nat) : List Fld := [bit p, Reg.BLKWERR_OFFSET p, Reg.BLKWERR_SOURCE p]

theorem werr_ctl {bit : Nat → Fld} {lo : Nat} (hb : ∀ p, bit p = ⟨4096 * p + 0x14, lo, 1, 0⟩) (hlo : lo < 16)
    (w : Writer)
    (p : Nat) (s : State) : get (bit p) (werr bit w (ctlAddr p) s) = 1 ∧
      get (Reg.BLKWERR_OFFSET p) (werr bit w (ctlAddr p) s) = 0xC ∧
      get (Reg.BLKWERR_SOURCE p) (werr bit w (ctlAddr p) s) = w.code ∧
      Changes [] (ctlError bit p) s (werr bit w (ctlAddr p) s) := by
  obtain ⟨hpage, hoff⟩ := ctlAddr_page p
  have h1 := get_werr hb hlo w (ctlAddr p) s
  have h2 := get_werr_offset bit w (ctlAddr p) s
  have h3 := get_werr_source bit w (ctlAddr p) s
  have h4 := changes_werr bit w (ctlAddr p) s
  rw [hpage] at h1 h2 h3 h4
  exact ⟨h1, h2.trans hoff, h3, h4⟩

/-- The fields of WERR are apart from those of CTL. -/
theorem ctl_beside_error {bit : Nat → Fld} {lo : Nat} (hb : ∀ p, bit p = ⟨4096 * p + 0x14, lo, 1, 0⟩) (hlo : lo < 16)
    (p : Nat) : (Reg.BLKCTL_ENABLE p).key ∉ (ctlError bit p).map Fld.key := by
  simp [ctlError, hb, Fld.key, Reg.BLKCTL_ENABLE, Reg.BLKWERR_OFFSET, Reg.BLKWERR_SOURCE]
  omega

theorem get_of_unset {f : Fld} {s : State} (h : isSet f s = false) : get f s = 0 := by
  simpa [isSet] using h

/-! ### ENABLE (R4, R69, R74, R83, R96, R132, R434) -/

/-- Whether a page is one of a Gather queue. -/
def gatherPage (p : Nat) : Bool := decide (0xA0 ≤ p) && decide (p < 0xA4)

/-- What follows the ENABLE of a page. -/
def enableFollow (p : Nat) (s : State) : State :=
  when (gatherPage p) (fun s => s |> queueCredits (p - 0xA0) |> when (p = 0xA2) serveWaiting) s

theorem keepsHead_enableFollow (p : Nat) (s : State) : KeepsHead s (enableFollow p s) :=
  (KeepsHead.refl s).cond _ _ fun _ hu => (hu.queueCredits _).cond _ _ fun _ hv => hv.serveWaiting

theorem takeEnable_on (w : Writer) (p : Nat) (s : State) : takeEnable w p true s = enableFollow p
    (enablePage p w s) := rfl

section
variable {s : State} (hs : Ready s) {w : Writer} {page : BitVec 12} {p : Nat} (hp : page.toNat = p)

/-- ENABLE set to 1 outside an abort takes effect. -/
theorem writeEnable_on (he : isSet (Reg.BLKCTL_ENABLE p) s = false) (ha : isSet (Reg.BLKSTS_ABORTING p) s = false) :
    writeEnable w p true s = enableFollow p (enablePage p w s) := by
  unfold writeEnable
  rw [if_neg (by simp [he]), if_neg (by simp), if_neg (by simp [ha]), takeEnable_on]

/-- A page that may be enabled is. -/
theorem enablePage_set (h10 : p ≠ 0x10) (hfit : 0xA0 ≤ p ∧ p < 0xA4 → spillFits (p - 0xA0) s = true)
    (hmarver : p = 0x40 → homeGranules s * (if s.twn.stored then 2 else 1) ≤ 16777216)
    (hnand : p = 0x50 → s.nand.initialised = true ∨ 50 ≤ get Reg.NFC.SPARE_PERMILLE s) :
    enablePage p w s = set (Reg.BLKCTL_ENABLE p) 1 s := by
  have h1 : (decide (p = 0x40) && decide (16777216 < homeGranules s * (if s.twn.stored then 2 else 1))) = false := by
    by_cases h : p = 0x40
    · exact Bool.and_eq_false_iff.2 (.inr (decide_eq_false (Nat.not_lt.2 (hmarver h))))
    · simp [h]
  have h2 : (decide (p = 0x50) && !s.nand.initialised && decide (get Reg.NFC.SPARE_PERMILLE s < 50)) = false := by
    by_cases h : p = 0x50
    · rcases hnand h with h' | h'
      · simp [h']
      · simp [Nat.not_lt.2 h']
    · simp [h]
  have h3 : (decide (0xA0 ≤ p) && decide (p < 0xA4) && !spillFits (p - 0xA0) s) = false := by
    by_cases h : 0xA0 ≤ p ∧ p < 0xA4
    · simp [hfit h]
    · rw [not_and_or] at h
      rcases h with h | h <;> simp [h]
  unfold enablePage
  rw [if_neg h10, if_neg (ne_true_of_eq_false h1), if_neg (ne_true_of_eq_false h2), if_neg (ne_true_of_eq_false h3)]

include hs hp

theorem completes_enable (hw : Reaches w (ctlAddr p) 1 s) (he : isSet (Reg.BLKCTL_ENABLE p) s = false)
    (ha : isSet (Reg.BLKSTS_ABORTING p) s = false) (h10 : p ≠ 0x10)
    (hfit : 0xA0 ≤ p ∧ p < 0xA4 → spillFits (p - 0xA0) s = true)
    (hmarver : p = 0x40 → homeGranules s * (if s.twn.stored then 2 else 1) ≤ 16777216)
    (hnand : p = 0x50 → s.nand.initialised = true ∨ 50 ≤ get Reg.NFC.SPARE_PERMILLE s) :
    Completes (.enable w page true) s fun t =>
      get (Reg.BLKCTL_ENABLE p) t = 1 ∧ (p < 0xA0 ∨ 0xA4 ≤ p → Changes [] [Reg.BLKCTL_ENABLE p] s t) := by
  subst hp
  have heff : writeEnable w page.toNat true (begun s) =
      enableFollow page.toNat (set (Reg.BLKCTL_ENABLE page.toNat) 1 (begun s)) := by
    rw [writeEnable_on (s := begun s) he ha, enablePage_set (s := begun s) h10 hfit hmarver hnand]
  have hfollow := keepsHead_enableFollow page.toNat (set (Reg.BLKCTL_ENABLE page.toNat) 1 (begun s))
  refine .leavesReached hs hw (k := writeEnable w page.toNat true) rfl heff (hfollow.reqs.trans hs.2) fun t k =>
    ⟨k.stored (head_settle head_of_place) ((hfollow.get head_of_place).trans (get_set_same _ _ _)), fun hout => ?_⟩
  have hnone : gatherPage page.toNat = false := by
    simp [gatherPage]
    omega
  have hplain : enableFollow page.toNat (set (Reg.BLKCTL_ENABLE page.toNat) 1 (begun s)) =
      set (Reg.BLKCTL_ENABLE page.toNat) 1 (begun s) := by
    unfold enableFollow
    rw [hnone, when_false]
  rw [hplain] at k
  exact ((Changes.begin _ _ s).set _ _ (by simp)).ended k

theorem completes_enableRange (hw : Reaches w (ctlAddr p) 1 s) (he : isSet (Reg.BLKCTL_ENABLE p) s = false)
    (ha : isSet (Reg.BLKSTS_ABORTING p) s = false)
    (hbad : (p = 0x40 ∧ 16777216 < homeGranules s * (if s.twn.stored then 2 else 1)) ∨
      (0xA0 ≤ p ∧ p < 0xA4 ∧ spillFits (p - 0xA0) s = false)) :
    Completes (.enable w page true) s fun t =>
      get (Reg.BLKCTL_ENABLE p) t = 0 ∧ get (Reg.BLKWERR_RANGE p) t = 1 ∧ get (Reg.BLKWERR_OFFSET p) t = 0xC := by
  subst hp
  have hpage : enablePage page.toNat w (begun s) = werrRange w (ctlAddr page.toNat) (begun s) := by
    unfold enablePage
    rcases hbad with ⟨h40, hbig⟩ | ⟨hlo, hhi, hfit⟩
    · have hbig' : 16777216 < homeGranules (begun s) * (if (begun s).twn.stored then 2 else 1) := hbig
      rw [if_neg (by omega), if_pos (by simp only [h40, hbig', decide_true, Bool.and_self]), h40]
      rfl
    · have hfit' : spillFits (page.toNat - 0xA0) (begun s) = false := hfit
      rw [if_neg (by omega), if_neg (by simp; omega), if_neg (by simp; omega), if_pos (by simp [hlo, hhi, hfit'])]
      rfl
  have heff : writeEnable w page.toNat true (begun s) = enableFollow page.toNat (werrRange w (ctlAddr page.toNat)
      (begun s)) := by
    rw [writeEnable_on (s := begun s) he ha, hpage]
  have hfollow := keepsHead_enableFollow page.toNat (werrRange w (ctlAddr page.toNat) (begun s))
  obtain ⟨hrange, hoff, -, hc⟩ := werr_ctl (bit := Reg.BLKWERR_RANGE) (fun _ => rfl) (by decide) w page.toNat (begun s)
  refine .leavesReached hs hw (k := writeEnable w page.toNat true) rfl heff (hfollow.reqs.trans
      (hc.reqs.trans hs.2)) fun t k =>
    ⟨k.stored (head_settle head_of_place) ((hfollow.get head_of_place).trans ?_),
      k.stored (head_settle head_of_place) ((hfollow.get head_of_place).trans hrange),
      k.stored (head_settle head_of_place) ((hfollow.get head_of_place).trans hoff)⟩
  exact (hc.regs _ (ctl_beside_error (fun _ => rfl) (by decide) _) (head_settle head_of_place)).trans (get_of_unset
      (s := begun s) he)

theorem completes_enableLate {on : Bool} (hw : Reaches w (ctlAddr p) (b2n on) s) (he : isSet
    (Reg.BLKCTL_ENABLE p) s = !on)
    (ha : isSet (Reg.BLKSTS_ABORTING p) s = true) (hmap : p = 0x10 → on = true ∨ admittedNow s = false ∨ fenced s =
        true) :
    Completes (.enable w page on) s fun t =>
      get (Reg.BLKCTL_ENABLE p) t = b2n on ∧ (p, w, on) ∈ t.frm.lateEnable ∧ t.frm.count = s.frm.count ∧
      Changes [.frm] [Reg.BLKCTL_ENABLE p] s t := by
  subst hp
  have hbusy : (!on && page.toNat == 0x10 && admittedNow s && !fenced s) = false := by
    by_cases h : page.toNat = 0x10
    · rcases hmap h with h' | h' | h' <;> simp [h']
    · simp [h]
  have heff : writeEnable w page.toNat on (begun s) = put1 (Reg.BLKCTL_ENABLE page.toNat) on
      { begun s with frm := { s.frm with
          lateEnable := s.frm.lateEnable.filter (·.1 != page.toNat) ++ [(page.toNat, w, on)] } } := by
    unfold writeEnable
    rw [if_neg (by rw [show isSet (Reg.BLKCTL_ENABLE page.toNat) (begun s) = !on from he]; simp)]
    exact (if_neg (ne_true_of_eq_false hbusy)).trans (if_pos ha)
  refine .leavesReached hs hw (k := writeEnable w page.toNat on) rfl heff hs.2 fun t k =>
    ⟨k.stored (head_settle head_of_place) ?_, ?_, (congrArg Frm.count k.frm).trans rfl,
      (((Changes.begin _ _ s).in_frm _ (by simp)).put1 _ _ (by simp)).ended k⟩
  · rw [put1, get_set_same]
    cases on <;> rfl
  · rw [k.frm]
    exact List.mem_append_right _ (List.mem_singleton.2 rfl)

theorem completes_disable (hw : Reaches w (ctlAddr p) 0 s) (he : isSet (Reg.BLKCTL_ENABLE p) s = true)
    (ha : isSet (Reg.BLKSTS_ABORTING p) s = false) (hnone : ∀ h ∈ s.shadows, h.f.addr / 4096 ≠ p)
    (hmap : p = 0x10 → admittedNow s = false ∨ fenced s = true) :
    Completes (.enable w page false) s fun t =>
      get (Reg.BLKCTL_ENABLE p) t = 0 ∧ Changes [] [Reg.BLKCTL_ENABLE p] s t := by
  subst hp
  have hbusy : (!false && page.toNat == 0x10 && admittedNow s && !fenced s) = false := by
    by_cases h : page.toNat = 0x10
    · rcases hmap h with h' | h' <;> simp [h']
    · simp [h]
  have hmine : (s.shadows.filter (fun h => h.f.addr / 4096 == page.toNat)).isEmpty = true := by
    rw [List.isEmpty_iff]
    exact List.filter_eq_nil_iff.2 fun e he => by simpa using hnone e he
  have heff : writeEnable w page.toNat false (begun s) = set (Reg.BLKCTL_ENABLE page.toNat) 0 (begun s) := by
    unfold writeEnable
    rw [if_neg (by rw [show isSet (Reg.BLKCTL_ENABLE page.toNat) (begun s) = true from he]; simp)]
    exact (if_neg (ne_true_of_eq_false hbusy)).trans ((if_neg (ne_true_of_eq_false ha)).trans (if_pos hmine))
  exact .leavesReached hs hw (k := writeEnable w page.toNat false) rfl heff hs.2 fun t k =>
    ⟨k.stored (head_settle head_of_place) (get_set_same _ _ _), ((Changes.begin _ _ s).set _ _ (by simp)).ended k⟩

end

/-! ### ENABLE of the mapping (R132) -/

/-- The fields that show the check of the mapping. -/
def mapChkFields : List Fld :=
  [Reg.DMC.MAP_CHK_OK, Reg.DMC.MAP_CHK_CODE, Reg.DMC.MAP_CHK_REGION, Reg.DMC.MAP_CHK_FIELD]

theorem changes_mapChkShow (e : Option (Nat × Nat × Nat)) (s : State) : Changes [] mapChkFields s (mapChkShow e s) :=
  ((((Changes.refl _ _ s).put1 _ _ (by simp [mapChkFields])).set _ _ (by simp [mapChkFields])).set _ _
    (by simp [mapChkFields])).set _ _ (by simp [mapChkFields])

/-- The fields that a mapping is made of. -/
def mapSourceFields : List Fld :=
  (List.range 12).flatMap (fun k => [Reg.DMC.HASH_LO_MASK_LO k, Reg.DMC.HASH_HI_MASK_HI k, Reg.DMC.HASH_HI_HOME k]) ++
  (List.range 4).flatMap (fun m => [Reg.DMC.REGION_A_BASE_GIB m, Reg.DMC.REGION_A_SIZE_LOG2 m, Reg.DMC.REGION_A_VALID m,
    Reg.DMC.REGION_B_CH_BASE m, Reg.DMC.REGION_B_CH_BITS m, Reg.DMC.REGION_B_RANK_BASE m, Reg.DMC.REGION_B_RANK_BITS m])

theorem mapWords_congr {s t : State} (h : ∀ f ∈ mapSourceFields, get f t = get f s) : mapWords t = mapWords s := by
  have hk : ∀ k ∈ List.range 12, ∀ f ∈ [Reg.DMC.HASH_LO_MASK_LO k, Reg.DMC.HASH_HI_MASK_HI k, Reg.DMC.HASH_HI_HOME k],
      get f t = get f s := fun k hk f hf => h f (List.mem_append_left _ (List.mem_flatMap.2 ⟨k, hk, hf⟩))
  have hm : ∀ m ∈ List.range 4, ∀ f ∈ [Reg.DMC.REGION_A_BASE_GIB m, Reg.DMC.REGION_A_SIZE_LOG2 m,
      Reg.DMC.REGION_A_VALID m,
      Reg.DMC.REGION_B_CH_BASE m, Reg.DMC.REGION_B_CH_BITS m, Reg.DMC.REGION_B_RANK_BASE m, Reg.DMC.REGION_B_RANK_BITS
          m],
      get f t = get f s := fun m hm f hf => h f (List.mem_append_right _ (List.mem_flatMap.2 ⟨m, hm, hf⟩))
  unfold mapWords
  congr 1
  · refine List.flatMap_congr fun k hmem => ?_
    simp only [hk k hmem _ (by simp : Reg.DMC.HASH_LO_MASK_LO k ∈ _), hk k hmem _ (by simp : Reg.DMC.HASH_HI_MASK_HI k
        ∈ _),
      hk k hmem _ (by simp : Reg.DMC.HASH_HI_HOME k ∈ _)]
  · refine List.flatMap_congr fun m hmem => ?_
    simp only [hm m hmem _ (by simp : Reg.DMC.REGION_A_BASE_GIB m ∈ _), hm m hmem _
        (by simp : Reg.DMC.REGION_A_SIZE_LOG2 m ∈ _),
      hm m hmem _ (by simp : Reg.DMC.REGION_A_VALID m ∈ _), hm m hmem _ (by simp : Reg.DMC.REGION_B_CH_BASE m ∈ _),
      hm m hmem _ (by simp : Reg.DMC.REGION_B_CH_BITS m ∈ _), hm m hmem _ (by simp : Reg.DMC.REGION_B_RANK_BASE m ∈ _),
      hm m hmem _ (by simp : Reg.DMC.REGION_B_RANK_BITS m ∈ _)]

theorem mapSource_keys : ∀ f ∈ mapSourceFields,
    f.key ∉ (Reg.BLKCTL_ENABLE 0x10 :: mapChkFields).map Fld.key ∧ f.key ∉ settleKeys := by
  decide +kernel

/-- The state in which a good mapping is taken into use. -/
def mapTaken (e : Option (Nat × Nat × Nat)) (s : State) : State := set (Reg.BLKCTL_ENABLE 0x10) 1 (mapChkShow e s)

theorem changes_mapTaken (e : Option (Nat × Nat × Nat)) (s : State) :
    Changes [] (Reg.BLKCTL_ENABLE 0x10 :: mapChkFields) s (mapTaken e s) :=
  ((changes_mapChkShow e s).mono (by simp) (by simp +contextual)).set _ _ (by simp)

/-- A good mapping is taken into use, and before admission its CRC is shown. -/
def mapCrcShown (b : Bool) (s : State) : State :=
  when b (fun s =>
    { s with dram := { s.dram with mapInUse := s.regs.filter (fun e => mapField e.1) } }
      |> set Reg.DMC.MAP_CRC_CRC (Config.mapCrc (mapWords s)).toNat) s

section
variable {s : State} (hs : Ready s) {w : Writer} (hw : Reaches w (ctlAddr 0x10) 1 s)
  (he : isSet (Reg.BLKCTL_ENABLE 0x10) s = false) (ha : isSet (Reg.BLKSTS_ABORTING 0x10) s = false)
include hs hw he ha

theorem completes_mapEnabled (hmap : checkMap s = none) :
    Completes (.enable w 0x10 true) s fun t =>
      get (Reg.BLKCTL_ENABLE 0x10) t = 1 ∧
      (admittedNow s = false → get Reg.DMC.MAP_CRC_CRC t = (Config.mapCrc (mapWords s)).toNat) := by
  have heff : writeEnable w 0x10 true (begun s) = mapCrcShown
      (!admittedNow (mapChkShow none (begun s)) || (mapChkShow none (begun s)).dram.mapInUse.isEmpty)
      (mapTaken none (begun s)) := by
    rw [writeEnable_on (s := begun s) he ha]
    show enableDmc w (begun s) = _
    unfold enableDmc
    rw [show checkMap (begun s) = none from hmap]
    rfl
  have hchk : admittedNow (mapChkShow none (begun s)) = admittedNow s := by
    rw [admittedNow, admittedNow, isSet, isSet,
      ((Changes.begin _ _ s).trans (changes_mapChkShow none (begun s))).regs Reg.SYS.PERSIST_BOOT (by decide)
          (by decide)]
  rw [hchk] at heff
  have htaken := (Changes.begin _ _ s).trans (changes_mapTaken none (begun s))
  have henable : get (Reg.BLKCTL_ENABLE 0x10) (mapTaken none (begun s)) = 1 := get_set_same _ _ _
  generalize mapTaken none (begun s) = u at *
  generalize (mapChkShow none (begun s)).dram.mapInUse.isEmpty = first at *
  have hc : Changes [.dram] [Reg.DMC.MAP_CRC_CRC] u (mapCrcShown (!admittedNow s || first) u) :=
    (Changes.refl _ _ u).cond _ _ fun v hv => (hv.in_dram _ (by simp)).set _ _ (by simp)
  refine .leavesReached hs hw (k := writeEnable w 0x10 true) rfl heff (hc.reqs.trans (htaken.reqs.trans hs.2))
      fun t k =>
    ⟨k.stored (head_settle head_of_place) ((hc.regs _ (by decide) (by decide)).trans henable), fun hadm => ?_⟩
  have hwords : mapWords u = mapWords s :=
    mapWords_congr fun f hf => htaken.regs f (mapSource_keys f hf).1 (mapSource_keys f hf).2
  refine k.stored (by decide) ?_
  unfold mapCrcShown
  rw [hadm, Bool.not_false, Bool.true_or, when_true]
  refine (get_set_same _ _ _).trans ?_
  rw [hwords]
  exact Nat.mod_eq_of_lt (BitVec.isLt _)

theorem completes_mapRefused {e : Nat × Nat × Nat} (hmap : checkMap s = some e) :
    Completes (.enable w 0x10 true) s fun t =>
      get (Reg.BLKCTL_ENABLE 0x10) t = 0 ∧ get (Reg.BLKWERR_RANGE 0x10) t = 1 ∧ get (Reg.EVT_STS 0x10 0) t = 1 := by
  have heff : writeEnable w 0x10 true (begun s) = event 0x10 0 (werrRange w 0x1000C (mapChkShow (some e)
      (begun s))) := by
    rw [writeEnable_on (s := begun s) he ha]
    show enableDmc w (begun s) = _
    unfold enableDmc
    rw [show checkMap (begun s) = some e from hmap]
  have hchk := (Changes.begin _ _ s).trans (changes_mapChkShow (some e) (begun s))
  generalize mapChkShow (some e) (begun s) = u at *
  have hc := changes_werrRange w 0x1000C u
  refine .leavesReached hs hw (k := writeEnable w 0x10 true) rfl heff (hc.reqs.trans (hchk.reqs.trans hs.2)) fun t k =>
    ⟨k.stored (by decide) ?_, k.stored (by decide) ?_, k.stored (by decide) (get_set_same _ _ _)⟩
  · refine (get_set_other _ _ (by decide)).trans ((hc.regs _ (by decide) (by decide)).trans ?_)
    exact (hchk.regs _ (by decide) (by decide)).trans (get_of_unset he)
  · exact (get_set_other _ _ (by decide)).trans (get_werrRange w 0x1000C u)

end

/-! ### The start of an abort or a reset (R83, R92, R94, R96) -/

/-- The state of a block that is told to abort, before it goes idle. -/
def abortStarted (p : Nat) (reset : Bool) (s : State) : State :=
  { when reset (fun s => { s with shadows := s.shadows.filter (fun h => h.f.addr / 4096 != p) }) s with
    frm := { s.frm with aborts := s.frm.aborts ++ [(p, 3, reset)] } }
    |> set (Reg.BLKSTS_ABORTING p) 1 |> set (Reg.BLKSTS_ABORT_DONE p) 0 |> set (Reg.BLKSTS_FROZEN p) 0

theorem startAbort_eq {p : Nat} {reset : Bool} {s : State} (h : ∀ a ∈ s.frm.aborts, a.1 ≠ p) :
    startAbort' p reset s = idleBlock p (abortStarted p reset s) := by
  have hfind : s.frm.aborts.find? (·.1 == p) = none :=
    List.find?_eq_none.2 fun a ha => by simpa using h a ha
  unfold startAbort'
  cases reset
  · simp only [when_false, hfind]
    rfl
  · simp only [when_true, hfind]
    rfl

theorem abortStarted_shown (p : Nat) (reset : Bool) (s : State) :
    get (Reg.BLKSTS_ABORTING p) (abortStarted p reset s) = 1 ∧ get (Reg.BLKSTS_ABORT_DONE p)
        (abortStarted p reset s) = 0 ∧
    get (Reg.BLKSTS_FROZEN p) (abortStarted p reset s) = 0 ∧
    (abortStarted p reset s).frm.aborts = s.frm.aborts ++ [(p, 3, reset)] ∧
    (abortStarted p reset s).shadows = (if reset then s.shadows.filter (fun h => h.f.addr / 4096 != p) else s.shadows) ∧
    (abortStarted p reset s).reqs = s.reqs := by
  obtain ⟨h1, h2, h3⟩ := sts_keys p
  refine ⟨?_, ?_, get_set_same _ _ _, rfl, ?_, ?_⟩
  · exact (get_set_other _ _ h2).trans ((get_set_other _ _ h1).trans (get_set_same _ _ _))
  · exact (get_set_other _ _ h3).trans (get_set_same _ _ _)
  · cases reset <;> rfl
  · cases reset <;> rfl

section
variable {s : State} (hs : Ready s) {w : Writer} {page : BitVec 12} {reset : Bool}
  (hw : Reaches w (ctlAddr page.toNat) (if reset then 4 else 2) s)
include hs hw

/-- An abort and a reset differ only in the flag that the block is told. -/
theorem completes_writeAbort {u : State} {P : State → Prop} (he : writeAbort w page.toNat reset (begun s) = u)
    (hu : u.reqs = [])
    (h : ∀ t, Keeps settleKeys u t → P t) : Completes (if reset then Instr.reset w page else Instr.abort w page) s P
        := by
  cases reset
  · exact .leavesReached hs hw (k := writeAbort w page.toNat false) rfl he hu h
  · exact .leavesReached hs hw (k := writeAbort w page.toNat true) rfl he hu h

theorem completes_abortStart (hf : fenced s = false)
    (hrsr : page.toNat = 0x43 → admittedNow s = true → rsrStage s = 8 → allRestored s = true)
    (hnone : ∀ a ∈ s.frm.aborts, a.1 ≠ page.toNat) :
    Completes (if reset then Instr.reset w page else Instr.abort w page) s fun t =>
      get (Reg.BLKSTS_ABORTING page.toNat) t = 1 ∧ get (Reg.BLKSTS_ABORT_DONE page.toNat) t = 0 ∧
      get (Reg.BLKSTS_FROZEN page.toNat) t = 0 ∧ t.frm.aborts = s.frm.aborts ++ [(page.toNat, 3, reset)] ∧
      t.shadows = if reset then s.shadows.filter (fun h => h.f.addr / 4096 != page.toNat) else s.shadows := by
  have hgo : (decide (page.toNat = 0x43) && admittedNow s && decide (rsrStage s = 8) && !allRestored s) = false := by
    by_cases h1 : page.toNat = 0x43
    · by_cases h2 : admittedNow s = true
      · by_cases h3 : rsrStage s = 8
        · simp [hrsr h1 h2 h3]
        · simp [h3]
      · simp [h2]
    · simp [h1]
  have he : writeAbort w page.toNat reset (begun s) = idleBlock page.toNat (abortStarted page.toNat reset
      (begun s)) := by
    rw [← startAbort_eq (s := begun s) hnone]
    exact (if_neg (ne_true_of_eq_false hf)).trans (if_neg (ne_true_of_eq_false hgo))
  obtain ⟨h1, h2, h3, h4, h5, h6⟩ := abortStarted_shown page.toNat reset (begun s)
  have hidle := (KeepsHead.refl (abortStarted page.toNat reset (begun s))).idleBlock page.toNat
  exact completes_writeAbort hs hw he (hidle.reqs.trans (h6.trans hs.2)) fun t k =>
    ⟨k.stored (head_settle head_of_place) ((hidle.get head_of_place).trans h1),
      k.stored (head_settle head_of_place) ((hidle.get head_of_place).trans h2),
      k.stored (head_settle head_of_place) ((hidle.get head_of_place).trans h3),
      (congrArg Frm.aborts k.frm).trans (hidle.aborts.trans h4), k.shadows.trans (hidle.shadows.trans h5)⟩

theorem completes_abortBusy (hf : fenced s = true) :
    Completes (if reset then Instr.reset w page else Instr.abort w page) s fun t =>
      get (Reg.BLKWERR_BUSY page.toNat) t = 1 ∧ get (Reg.BLKWERR_OFFSET page.toNat) t = 0xC ∧
      get (Reg.BLKWERR_SOURCE page.toNat) t = w.code ∧ Changes [] (ctlError Reg.BLKWERR_BUSY page.toNat) s t := by
  obtain ⟨h1, h2, h3, hc⟩ := werr_ctl (bit := Reg.BLKWERR_BUSY) (fun _ => rfl) (by decide) w page.toNat (begun s)
  exact completes_writeAbort hs hw (if_pos hf) (hc.reqs.trans hs.2) fun t k =>
    ⟨k.stored (head_settle head_of_place) h1, k.stored (head_settle head_of_place) h2,
      k.stored (head_settle head_of_place) h3, ((Changes.begin _ _ s).trans hc).ended k⟩

end

/-- Settles O6. -/
theorem blockControl : Obligations.BlockControl := by
  unfold Obligations.BlockControl
  refine ⟨fun s hs w page => ⟨completes_enable hs rfl, completes_enableRange hs rfl, fun on => completes_enableLate hs
      rfl,
    fun hw he ha => ?_, completes_disable hs rfl⟩, fun s hs w page reset => ⟨completes_abortStart hs,
        completes_abortBusy hs⟩⟩
  cases hmap : checkMap s with
  | none => simpa only [if_true] using completes_mapEnabled hs hw he ha hmap
  | some e => simpa only [reduceCtorEq, if_false] using completes_mapRefused hs hw he ha hmap

end Sys2Proof.Machine
end

section
/-! SUPPORT. The bytes of a line, and what a line reads after a write (R142, R143). -/

namespace Sys2Proof.Machine
set_option Elab.async false

/-! ### A line as its bytes -/

/-- The number that `k` bytes make, the first least significant. -/
def packBytes (g : Nat → Byte) : Nat → Nat
  | 0 => 0
  | k + 1 => (g 0).toNat + 256 * packBytes (fun i => g (i + 1)) k

theorem packBytes_congr {g h : Nat → Byte} {k : Nat} (hg : ∀ i < k, g i = h i) : packBytes g k = packBytes h k := by
  induction k generalizing g h with
  | zero => rfl
  | succ k ih =>
    rw [packBytes, packBytes, hg 0 (Nat.succ_pos k), ih fun i hi => hg (i + 1) (by omega)]

theorem packBytes_lt (g : Nat → Byte) (k : Nat) : packBytes g k < 256 ^ k := by
  induction k generalizing g with
  | zero => exact Nat.one_pos
  | succ k ih =>
    have h0 : (g 0).toNat < 256 := (g 0).isLt
    have hk := ih fun i => g (i + 1)
    rw [packBytes, Nat.pow_succ]
    omega

/-- Each byte is found at its place. -/
theorem packBytes_digit (g : Nat → Byte) {k j : Nat} (hj : j < k) : packBytes g k / 256 ^ j % 256 = (g j).toNat := by
  induction k generalizing g j with
  | zero => omega
  | succ k ih =>
    have h0 : (g 0).toNat < 256 := (g 0).isLt
    cases j with
    | zero =>
      rw [packBytes, Nat.pow_zero, Nat.div_one]
      omega
    | succ j =>
      have hdiv : packBytes g (k + 1) / 256 = packBytes (fun i => g (i + 1)) k := by
        rw [packBytes]
        omega
      rw [Nat.pow_succ, Nat.mul_comm, ← Nat.div_div_eq_div_mul, hdiv]
      exact ih (fun i => g (i + 1)) (by omega)

/-- A number is made of its bytes. -/
theorem packBytes_digits (n k : Nat) : packBytes (fun i => BitVec.ofNat 8 (n / 2 ^ (8 * i))) k = n % 256 ^ k := by
  induction k generalizing n with
  | zero => rw [Nat.pow_zero, Nat.mod_one]; rfl
  | succ k ih =>
    have hshift : (fun i => BitVec.ofNat 8 (n / 2 ^ (8 * (i + 1)))) = fun i => BitVec.ofNat 8 (n / 256 / 2 ^
        (8 * i)) := by
      funext i
      rw [Nat.div_div_eq_div_mul, Nat.mul_add, Nat.mul_one, Nat.pow_add, Nat.mul_comm]
    rw [packBytes, hshift, ih]
    simp only [Nat.mul_zero, Nat.pow_zero, Nat.div_one, BitVec.toNat_ofNat]
    rw [show (256 : Nat) ^ (k + 1) = 256 * 256 ^ k from Nat.pow_succ', Nat.mod_mul]

theorem foldr_packBytes (g : Nat → Byte) (k : Nat) :
    (List.range k).foldr (fun i n => (g i).toNat + 256 * n) 0 = packBytes g k := by
  induction k generalizing g with
  | zero => rfl
  | succ k ih =>
    rw [List.range_succ_eq_map, List.foldr_cons, List.foldr_map]
    exact congrArg (fun n => (g 0).toNat + 256 * n) (ih fun i => g (i + 1))

theorem readBytes_eq (k a : Nat) (s : State) : readBytes k a s = packBytes (fun i => readByte (a + i) s) k := by
  induction k generalizing a with
  | zero => rfl
  | succ k ih =>
    rw [readBytes, packBytes, ih]
    exact congrArg (fun g => (readByte a s).toNat + 256 * packBytes g k)
      (funext fun i => congrArg (readByte · s) (by omega))

/-- The line of given bytes. -/
def packLine (g : Nat → Byte) : Line := BitVec.ofNat 512 (packBytes g 64)

theorem packLine_congr {g h : Nat → Byte} (hg : ∀ i < 64, g i = h i) : packLine g = packLine h :=
  congrArg (BitVec.ofNat 512) (packBytes_congr hg)

theorem line_bound : (256 : Nat) ^ 64 = 2 ^ 512 := by
  rw [show (256 : Nat) = 2 ^ 8 from rfl, ← Nat.pow_mul]

theorem lineByte_packLine (g : Nat → Byte) {j : Nat} (hj : j < 64) : lineByte (packLine g) j = g j := by
  have hlt : packBytes g 64 < 2 ^ 512 := (packBytes_lt g 64).trans_eq line_bound
  refine BitVec.eq_of_toNat_eq ?_
  rw [lineByte, packLine, BitVec.toNat_ofNat, BitVec.toNat_ofNat, Nat.mod_eq_of_lt hlt, Nat.pow_mul]
  exact packBytes_digit g hj

theorem packLine_lineByte (d : Line) : packLine (lineByte d) = d := by
  refine BitVec.eq_of_toNat_eq ?_
  have h := packBytes_digits d.toNat 64
  rw [packLine, BitVec.toNat_ofNat]
  rw [show packBytes (lineByte d) 64 = d.toNat % 256 ^ 64 from h, line_bound,
    Nat.mod_eq_of_lt d.isLt, Nat.mod_eq_of_lt d.isLt]

theorem readLine_eq (line : Nat) (s : State) : readLine line s = packLine fun i => readByte (64 * line + i) s :=
  congrArg (BitVec.ofNat 512) (readBytes_eq 64 (64 * line) s)

theorem mergeLine_eq (old : Line) (be : BitVec 64) (d : Line) :
    mergeLine old be d = packLine fun i => if be.getLsbD i then lineByte d i else lineByte old i :=
  congrArg (BitVec.ofNat 512) (foldr_packBytes _ 64)

theorem lineByte_readLine (line : Nat) (s : State) {j : Nat} (hj : j < 64) :
    lineByte (readLine line s) j = readByte (64 * line + j) s := by
  rw [readLine_eq, lineByte_packLine _ hj]

theorem lineByte_mergeLine (old : Line) (be : BitVec 64) (d : Line) {j : Nat} (hj : j < 64) :
    lineByte (mergeLine old be d) j = if be.getLsbD j then lineByte d j else lineByte old j := by
  rw [mergeLine_eq, lineByte_packLine _ hj]

/-- Two lines of equal bytes are equal. -/
theorem line_ext {a b : Line} (h : ∀ j < 64, lineByte a j = lineByte b j) : a = b := by
  rw [← packLine_lineByte a, ← packLine_lineByte b, packLine_congr h]

/-- A merge of all bytes is the new line. -/
theorem mergeLine_all (old d : Line) : mergeLine old allBytes d = d := by
  refine line_ext fun j hj => ?_
  rw [lineByte_mergeLine _ _ _ hj, if_pos]
  exact BitVec.getLsbD_allOnes.trans (decide_eq_true hj)

/-- A merge of no byte is the old line. -/
theorem mergeLine_none (old d : Line) : mergeLine old 0 d = old := by
  refine line_ext fun j hj => ?_
  rw [lineByte_mergeLine _ _ _ hj, if_neg (by simp)]

/-- Merged once more, the same bytes change nothing. -/
theorem mergeLine_again (old : Line) (be : BitVec 64) (d : Line) : mergeLine (mergeLine old be d) be d = mergeLine old
    be d := by
  refine line_ext fun j hj => ?_
  rw [lineByte_mergeLine _ _ _ hj, lineByte_mergeLine _ _ _ hj]
  split <;> rfl

/-! ### What a line reads after a write -/

/-- The written line reads its enabled bytes, and the others as before (R142). -/
theorem readLine_writeLine (line : Nat) (be : BitVec 64) (d : Line) (s : State) :
    readLine line (writeLine line be d s) = mergeLine (readLine line s) be d := by
  refine line_ext fun j hj => ?_
  rw [lineByte_readLine _ _ hj, lineByte_mergeLine _ _ _ hj, lineByte_readLine _ _ hj, readByte_writeLine _ _ _ _ _ hj]

theorem readLine_writeAll (line : Nat) (d : Line) (s : State) : readLine line (writeLine line allBytes d s) = d := by
  rw [readLine_writeLine, mergeLine_all]

/-- The bytes outside a line. -/
def Outside (line x : Nat) : Prop := ¬ (64 * line ≤ x ∧ x < 64 * line + 64)

theorem readByte_writeLine_other {line : Nat} (be : BitVec 64) (d : Line) (s : State) {x : Nat} (h : Outside line x) :
    readByte x (writeLine line be d s) = readByte x s :=
  readByte_writeLine_outside line be d s x (by unfold Outside at h; omega)

theorem changes_writeLine (line : Nat) (be : BitVec 64) (d : Line) (s : State) :
    Changes [.dram] [] s (writeLine line be d s) :=
  (Changes.refl _ _ s).each _ _ fun i _ u hu => hu.cond _ _ fun v hv => hv.in_dram _ (by simp)

/-! ### A queued write lands (R142, R143) -/

theorem changes_landWrite (e : WEntry) (s : State) : Changes [.dram] [] s (landWrite e s) := by
  have hw := changes_writeLine e.line e.be e.data s
  have hn : Changes [.dram] [] s (noteRepair e.line e.be (writeLine e.line e.be e.data s)) :=
    .branch _ (hw.in_dram _ (by simp)) hw
  exact .branch _ (hn.in_dram _ (by simp)) (.branch _ (.branch _ (hn.in_dram _ (by simp)) hn) hn)

/-- A write that lands leaves the memory of its line write. -/
theorem landWrite_mem (e : WEntry) (s : State) : (landWrite e s).dram.mem = (writeLine e.line e.be e.data s).dram.mem
    := by
  have hn : (noteRepair e.line e.be (writeLine e.line e.be e.data s)).dram.mem = (writeLine e.line e.be e.data
      s).dram.mem := by
    unfold noteRepair
    split <;> rfl
  unfold landWrite
  dsimp only
  split
  · exact hn
  · split
    · unfold clearPoisonAt
      split
      · exact hn
      · exact hn
    · exact hn

theorem landWrite_line (e : WEntry) (s : State) : readLine e.line (landWrite e s) = mergeLine
    (readLine e.line s) e.be e.data :=
  (readLine_eq _ _).trans ((packLine_congr fun _ _ => readByte_congr _ (landWrite_mem e s)).trans
    ((readLine_eq _ _).symm.trans (readLine_writeLine _ _ _ _)))

theorem landWrite_outside {e : WEntry} (s : State) {x : Nat} (h : Outside e.line x) : readByte x
    (landWrite e s) = readByte x s :=
  (readByte_congr x (landWrite_mem e s)).trans (readByte_writeLine_other _ _ _ h)

/-- A whole line that lands carries its poison, and ends an older one (R143). -/
theorem landWrite_poison {e : WEntry} (s : State) (h : e.be = allBytes) : isPoisoned e.line
    (landWrite e s) = e.poison := by
  unfold landWrite
  dsimp only
  generalize noteRepair e.line e.be (writeLine e.line e.be e.data s) = u
  cases hp : e.poison
  · rw [if_neg (by simp), if_pos h]
    unfold clearPoisonAt
    split
    case isTrue =>
      show (u.dram.poisoned.filter (· != e.line)).contains e.line = false
      simp
    case isFalse h => simpa using h
  · rw [if_pos rfl]
    exact contains_addNat _ _

end Sys2Proof.Machine
end

section
/-! SUPPORT. A command slot of a DRAM channel (R138 to R140). -/

namespace Sys2Proof.Machine
set_option Elab.async false

theorem writeLine_out (line : Nat) (be : BitVec 64) (d : Line) (s : State) : (writeLine line be d s).out = s.out :=
  forEach_keeps (fun u : State => u.out = s.out) _ _ s rfl fun _ _ u hu =>
    when_keeps (fun v : State => v.out = s.out) _ _ u hu id

theorem landWrite_out (e : WEntry) (s : State) : (landWrite e s).out = s.out := by
  have hn : (noteRepair e.line e.be (writeLine e.line e.be e.data s)).out = s.out := by
    unfold noteRepair
    split
    · exact writeLine_out _ _ _ _
    · exact writeLine_out _ _ _ _
  unfold landWrite
  dsimp only
  split
  · exact hn
  · split
    · unfold clearPoisonAt
      split
      · exact hn
      · exact hn
    · exact hn

theorem changes_depthShow (ch : Nat) (s : State) : Changes [] (depths ch) s (depthShow ch s) :=
  ((((Changes.refl _ _ s).set _ _ (by simp [depths])).set _ _ (by simp [depths])).set _ _ (by simp [depths])).set _ _
    (by simp [depths])

/-- What a slot shows after its command. -/
def slotShown (ch : Nat) (s : State) : State := s |> depthShow ch |> modeShow ch

theorem changes_slotShown (ch : Nat) (s : State) :
    Changes [] (Reg.DCH.STS_MODE ch :: depths ch) s (slotShown ch s) :=
  ((changes_depthShow ch s).mono (by simp) (by simp +contextual)).trans
    ((changes_modeShow ch _).mono (by simp) (by simp +contextual))

theorem slotShown_same (ch : Nat) (s : State) : (slotShown ch s).dram = s.dram ∧ (slotShown ch s).out = s.out := ⟨rfl,
    rfl⟩

section
variable {s : State} (hs : Ready s) {ch : Fin 16} {sub : Fin 2} {bankReady actReady : List Nat}
  (hr : channelRuns ch s = true) (hi : ∀ e ∈ s.dram.writes, e.ch = ch → e.sub = sub → e.issued = false)
  (hp : unreadPartials ch sub s = []) (hinj : Uninjected s)
include hr hi hp hinj

/-- The mode of the slot. -/
def slotMode (ch sub : Nat) (s : State) : Sub := nextMode ch sub (subOf ch sub s) s

/-- The state in which the slot picks. -/
def slotBegun (ch sub : Nat) (s : State) : State := setSub ch sub (slotMode ch sub s) s

/-- The entries that the slot picks from. -/
def slotWaiting (ch sub : Nat) (s : State) : List Waiting :=
  if (slotMode ch sub s).write then waitingWrites ch sub (slotBegun ch sub s) else waitingReads ch sub
      (slotBegun ch sub s)

/-- The slot's pick. -/
def slotPick (ch sub : Nat) (bankReady actReady : List Nat) (s : State) : Option (Waiting × DramCmd) :=
  pick ch sub (slotMode ch sub s).rot (slotWaiting ch sub s) bankReady actReady (slotBegun ch sub s)

/-- What the picked command leaves. -/
def slotDone (ch sub : Nat) (bankReady actReady : List Nat) (s : State) : State :=
  match slotPick ch sub bankReady actReady s with
  | some (c, k) => issuePick ch sub (slotMode ch sub s).write c k (slotBegun ch sub s)
  | none => slotBegun ch sub s

/-- A slot with nothing to retire and no partial write to read first. -/
theorem commandSlot_eq : commandSlot ch sub bankReady actReady s =
    slotShown ch (slotDone ch sub bankReady actReady s) := by
  have hretire : retireIssued ch sub s = s := by
    unfold retireIssued
    rw [if_neg]
    simp only [List.any_eq_true, Bool.and_eq_true, beq_iff_eq, not_exists, not_and]
    intro e he h
    simp [hi e he h.1 h.2]
  have hask : askPartials ch sub s = s := by
    unfold askPartials
    rw [hp]
    rfl
  unfold commandSlot
  rw [if_neg (by simp [hr]), hretire, checkInjection_none hinj, hask]
  rfl

include hs

/-- A slot ends with what its command leaves. -/
theorem completes_slot {x : State} (hx : slotDone ch sub bankReady actReady (begun s) = x) (hc : Changes [.dram] [] s x)
    {P : State → Prop} (h : ∀ t, t.dram = x.dram → (∀ l, x.out = l → l <+: t.out) →
      Changes [.dram] (Reg.DCH.STS_MODE ch :: depths ch) s t → P t) :
    Completes (.dramCommandIssue ch sub bankReady actReady) s P := by
  have he : commandSlot ch sub bankReady actReady (begun s) = slotShown ch x := by
    rw [← hx]
    exact commandSlot_eq (s := begun s) hr hi hp hinj
  have hshown := changes_slotShown ch x
  exact .leaves hs rfl he (hshown.reqs.trans (hc.reqs.trans hs.2)) fun t k =>
    h t (k.dram.trans (slotShown_same ch x).1) (fun l hl => k.sent ((slotShown_same ch x).2.trans hl))
      (((hc.mono (fun _ h => h) (by simp)).trans (hshown.mono (by simp) fun _ h => h)).ended k)

/-- What a picked command leaves. -/
def picked (ch sub : Nat) (c : Waiting) (k : DramCmd) (s : State) : State :=
  issuePick ch sub (slotMode ch sub s).write c k (slotBegun ch sub s)

omit hs hr hi hp hinj in
theorem slotDone_picked {c : Waiting} {k : DramCmd} (h : slotPick ch sub bankReady actReady s = some (c, k)) :
    slotDone ch sub bankReady actReady (begun s) = picked ch sub c k (begun s) := by
  have hb : slotPick ch sub bankReady actReady (begun s) = some (c, k) := h
  unfold slotDone
  rw [hb]
  rfl

theorem completes_slotIdle (h : slotPick ch sub bankReady actReady s = none) :
    Completes (.dramCommandIssue ch sub bankReady actReady) s fun t =>
      subOf ch sub t = slotMode ch sub s ∧ t.dram.writes = s.dram.writes ∧ t.dram.reads = s.dram.reads ∧
      (∀ x, readByte x t = readByte x s) ∧ Changes [.dram] (Reg.DCH.STS_MODE ch :: depths ch) s t := by
  have hx : slotDone ch sub bankReady actReady (begun s) = slotBegun ch sub (begun s) := by
    have hb : slotPick ch sub bankReady actReady (begun s) = none := h
    unfold slotDone
    rw [hb]
  refine completes_slot hs hr hi hp hinj hx ((Changes.begin _ _ s).in_dram _ (by simp)) fun t hd _ hf =>
    ⟨?_, by rw [hd]; rfl, by rw [hd]; rfl, fun x => readByte_congr x (by rw [hd]; rfl), hf⟩
  unfold subOf
  rw [hd]
  exact look_put_same _ _ _ _

theorem completes_slotActivate {c : Waiting} (h : slotPick ch sub bankReady actReady s = some (c, .activate)) :
    Completes (.dramCommandIssue ch sub bankReady actReady) s fun t =>
      [Out.dram ch sub "ACT" [bankKey c.loc, c.loc.row]] <+: t.out ∧
      { ch := ch, sub := sub, rank := c.loc.rank, bank := c.loc.bg * 4 + c.loc.bank, row := c.loc.row, streak := 0 } ∈
        t.dram.rows ∧ (∀ x, readByte x t = readByte x s) ∧ Changes [.dram] (Reg.DCH.STS_MODE ch :: depths ch) s t :=
  completes_slot hs hr hi hp hinj (slotDone_picked h)
    (((((Changes.begin _ _ s).in_dram _ (by simp)).in_dram _ (by simp)).in_dram _ (by simp)).emit _) fun t hd ho hf =>
    ⟨ho _ rfl, by rw [hd]; exact List.mem_append_right _ (List.mem_singleton.2 rfl),
      fun x => readByte_congr x (by rw [hd]; rfl), hf⟩

theorem completes_slotPrecharge {c : Waiting} (h : slotPick ch sub bankReady actReady s = some (c, .precharge)) :
    Completes (.dramCommandIssue ch sub bankReady actReady) s fun t =>
      [Out.dram ch sub "PRE" [bankKey c.loc]] <+: t.out ∧ openRow ch sub c.loc t = none ∧
      (∀ x, readByte x t = readByte x s) ∧ Changes [.dram] (Reg.DCH.STS_MODE ch :: depths ch) s t := by
  refine completes_slot hs hr hi hp hinj (slotDone_picked h)
    (((((Changes.begin _ _ s).in_dram _ (by simp)).in_dram _ (by simp)).in_dram _ (by simp)).emit _) fun t hd ho hf =>
    ⟨ho _ rfl, ?_, fun x => readByte_congr x (by rw [hd]; rfl), hf⟩
  unfold openRow
  rw [hd]
  refine List.find?_eq_none.2 fun r hm => ?_
  have hgone := (List.mem_filter.1 hm).2
  rw [Bool.not_eq_true'] at hgone
  rw [hgone]
  simp

omit hs hr hi hp hinj in
/-- A row hit's state before its read or write. -/
def columnHit (ch sub : Nat) (c : Waiting) (s : State) : State :=
  { setRows ((wakeRank ch c.loc.rank (slotBegun ch sub s)).dram.rows.map (fun r =>
      if r.ch = ch ∧ r.sub = sub ∧ r.rank = c.loc.rank ∧ r.bank = c.loc.bg * 4 + c.loc.bank then
        { r with streak := r.streak + 1 } else r)) (wakeRank ch c.loc.rank (slotBegun ch sub s)) with
    dram := { (setRows ((wakeRank ch c.loc.rank (slotBegun ch sub s)).dram.rows.map (fun r =>
      if r.ch = ch ∧ r.sub = sub ∧ r.rank = c.loc.rank ∧ r.bank = c.loc.bg * 4 + c.loc.bank then
        { r with streak := r.streak + 1 } else r)) (wakeRank ch c.loc.rank (slotBegun ch sub s))).dram with
      served := addNat s.dram.served ch } }

omit hs hr hi hp hinj in
theorem changes_columnHit (ch sub : Nat) (c : Waiting) (s : State) : Changes [.dram] [] s (columnHit ch sub c s) :=
  (Changes.refl _ _ s).in_dram _ (by simp)

/-- The state that a read leaves. -/
def readIssued (ch sub : Nat) (c : Waiting) (s : State) : State :=
  s |> setReads (s.dram.reads.map (fun x => if x.line = c.line then { x with issued := true } else x))
    |> emit (.dram ch sub "RD" [c.line])

/-- The state that a write leaves. -/
def writeIssued (ch sub : Nat) (c : Waiting) (e : WEntry) (s : State) : State :=
  s |> landWrite e
    |> setWrites (s.dram.writes.map (fun x => if x.line = c.line ∧ x.issued = false then
        { x with issued := true } else x))
    |> setSub ch sub { subOf ch sub s with batch := (subOf ch sub s).batch + 1 }
    |> emit (.dram ch sub "WR" [c.line])

omit hs hr hi hp hinj in
theorem picked_read {c : Waiting} (hv : (slotMode ch sub s).write = false) :
    picked ch sub c .column s = readIssued ch sub c (columnHit ch sub c s) := by
  unfold picked
  rw [hv]
  rfl

omit hs hr hi hp hinj in
theorem picked_write {c : Waiting} {e : WEntry} (hv : (slotMode ch sub s).write = true)
    (he : s.dram.writes.find? (fun e => e.line == c.line && !e.issued) = some e) :
    picked ch sub c .column s = writeIssued ch sub c e (columnHit ch sub c s) := by
  have hfind : (columnHit ch sub c s).dram.writes.find? (fun e => e.line == c.line && !e.issued) = some e := he
  unfold picked
  rw [hv]
  show (match (columnHit ch sub c s).dram.writes.find? (fun e => e.line == c.line && !e.issued) with
    | none => _
    | some e => _) = _
  rw [hfind]
  rfl

theorem completes_slotRead {c : Waiting} (hv : (slotMode ch sub s).write = false)
    (h : slotPick ch sub bankReady actReady s = some (c, .column)) :
    Completes (.dramCommandIssue ch sub bankReady actReady) s fun t =>
      [Out.dram ch sub "RD" [c.line]] <+: t.out ∧ (∀ r ∈ t.dram.reads, r.line = c.line → r.issued = true) ∧
      (∀ x, readByte x t = readByte x s) ∧ Changes [.dram] (Reg.DCH.STS_MODE ch :: depths ch) s t := by
  refine completes_slot hs hr hi hp hinj ((slotDone_picked h).trans (picked_read (s := begun s) hv))
    ((((Changes.begin _ _ s).trans (changes_columnHit ch sub c _)).in_dram _ (by simp)).emit _) fun t hd ho hf =>
    ⟨ho _ rfl, ?_, fun x => readByte_congr x (by rw [hd]; rfl), hf⟩
  rw [hd]
  intro r hm hline
  obtain ⟨q, -, rfl⟩ := List.mem_map.1 hm
  split at hline
  case isTrue hq => rw [if_pos hq]
  case isFalse hq => exact absurd hline hq

omit hs hr hi hp hinj in
theorem writeIssued_shown (ch sub : Nat) (c : Waiting) (e : WEntry) (s : State) :
    (writeIssued ch sub c e s).dram.mem = (landWrite e s).dram.mem ∧
    (writeIssued ch sub c e s).dram.poisoned = (landWrite e s).dram.poisoned ∧
    (writeIssued ch sub c e s).dram.writes =
      s.dram.writes.map (fun x => if x.line = c.line ∧ x.issued = false then { x with issued := true } else x) ∧
    (writeIssued ch sub c e s).out = s.out ++ [.dram ch sub "WR" [c.line]] ∧
    Changes [.dram] [] s (writeIssued ch sub c e s) :=
  ⟨rfl, rfl, rfl, congrArg (· ++ [Out.dram ch sub "WR" [c.line]]) (landWrite_out e s),
    (((changes_landWrite e s).in_dram _ (by simp)).in_dram _ (by simp)).emit _⟩

omit hs hr hi hp hinj in
/-- Every waiting entry of the line has issued. -/
theorem issued_all {l : List WEntry} {line : Nat} :
    ∀ e ∈ l.map (fun x => if x.line = line ∧ x.issued = false then { x with issued := true } else x),
      e.line = line → e.issued = true := by
  intro q hm hq
  obtain ⟨r, -, rfl⟩ := List.mem_map.1 hm
  split at hq
  case isTrue hr => rw [if_pos hr]
  case isFalse hr =>
    rw [if_neg hr]
    by_contra hnot
    exact hr ⟨hq, eq_false_of_ne_true hnot⟩

/-- A write that issues lands in its line. -/
theorem completes_slotWrite {c : Waiting} {e : WEntry} (hv : (slotMode ch sub s).write = true)
    (h : slotPick ch sub bankReady actReady s = some (c, .column))
    (he : s.dram.writes.find? (fun e => e.line == c.line && !e.issued) = some e) :
    Completes (.dramCommandIssue ch sub bankReady actReady) s fun t =>
      [Out.dram ch sub "WR" [c.line]] <+: t.out ∧ readLine c.line t = mergeLine (readLine c.line s) e.be e.data ∧
      (e.be = allBytes → isPoisoned c.line t = e.poison) ∧
      (∀ x, Outside c.line x → readByte x t = readByte x s) ∧
      (∀ e ∈ t.dram.writes, e.line = c.line → e.issued = true) ∧
      Changes [.dram] (Reg.DCH.STS_MODE ch :: depths ch) s t := by
  have hline : e.line = c.line := by
    have hfound := List.find?_some he
    simp only [Bool.and_eq_true, beq_iff_eq] at hfound
    exact hfound.1
  have hhit := (Changes.begin _ _ s).trans (changes_columnHit ch sub c (begun s))
  have hmem : (columnHit ch sub c (begun s)).dram.mem = s.dram.mem := rfl
  have hout0 : (columnHit ch sub c (begun s)).out = [] := rfl
  have hpick := (slotDone_picked h).trans (picked_write (s := begun s) hv he)
  generalize columnHit ch sub c (begun s) = w at *
  obtain ⟨hm, hpo, hwr, hout, hc⟩ := writeIssued_shown ch sub c e w
  have hland := landWrite_line e w
  rw [hline, readLine_congr c.line hmem] at hland
  generalize writeIssued ch sub c e w = x at *
  refine completes_slot hs hr hi hp hinj hpick (hhit.trans hc) fun t hd ho hf =>
    ⟨ho _ (by rw [hout, hout0]; rfl), ?_, fun hall => ?_, fun y hy => ?_, ?_, hf⟩
  · rw [readLine_congr c.line ((congrArg Dram.mem hd).trans hm), hland]
  · rw [isPoisoned, hd, hpo, ← hline]
    exact landWrite_poison w hall
  · rw [readByte_congr y ((congrArg Dram.mem hd).trans hm), ← readByte_congr y hmem]
    rw [← hline] at hy
    exact landWrite_outside w hy
  · rw [hd, hwr]
    exact issued_all

end

/-- Settles O19. -/
theorem dramCommandSlot : Obligations.DramCommandSlot := by
  unfold Obligations.DramCommandSlot
  intro s hs ch sub bankReady actReady hr hi hp hinj
  refine ⟨completes_slotIdle hs hr hi hp hinj, fun c => completes_slotActivate hs hr hi hp hinj,
    fun c => completes_slotPrecharge hs hr hi hp hinj, fun c hv h => completes_slotRead hs hr hi hp hinj hv h,
    fun c e hv h he hall => (completes_slotWrite hs hr hi hp hinj hv h he).mono ?_,
    fun c e hv h he hpart => (completes_slotWrite hs hr hi hp hinj hv h he).mono ?_⟩
  · rintro t ⟨ho, hline, hpoison, hrest, hissued, hf⟩
    rw [hall, mergeLine_all] at hline
    exact ⟨ho, hline, hpoison hall, hrest, hissued, hf⟩
  · rintro t ⟨ho, hline, -, hrest, -, hf⟩
    exact ⟨ho, hline, hrest, hf⟩

end Sys2Proof.Machine
end

section
/-! SUPPORT. What decides where a line lies: its location, its rank, its granule and its region (R130, R131, R171); the
end of a line's read (R161) and its repair (R164, R165). -/

namespace Sys2Proof.Machine
set_option Elab.async false

/-- A frame of more parts and fields. -/
theorem Changes.widen {ps qs : List Part} {fs gs : List Fld} {s t : State} (h : Changes ps fs s t) (hp : ps ⊆ qs)
    (hf : fs ⊆ gs) : Changes qs gs s t :=
  h.mono (fun _ hm => hp hm) fun _ hm => List.map_subset _ hf hm

/-! ### Where a line lies -/

/-- The fields that decide where a line lies, but for the HOME bits. -/
def placeFields : List Fld :=
  mapSourceFields ++
  (List.range 8).flatMap (fun m => [Reg.SPR.SPARE_CH m, Reg.SPR.SPARE_RANK m, Reg.SPR.SPARE_VALID m,
    Reg.SPR.SPARE_TARGET_CH m, Reg.SPR.SPARE_TARGET_RANK m, Reg.SPR.SPARE_IN_USE m]) ++
  (List.range 4).flatMap (fun q => [Reg.GQ.SPILL_BASE_BASE_MIB q, Reg.GQ.CFG_SPILL_MIB q]) ++
  [Reg.DMC.CFG_X8, Reg.SPR.MIG_STS_ACTIVE, Reg.SPR.MIG_STS_DST, Reg.SPR.MIG_STS_SRC, Reg.SPR.MIG_PTR_INDEX,
    Reg.MRV.CFG_GRAN_IN_USE, Reg.MRV.MAP_ENTRIES, Reg.TXN.UNDO_CFG_BASE_GIB, Reg.TXN.UNDO_CFG_SIZE_GIB]

/-- The keys that decide where a line lies; the HOME bits stand at one place in every 8 bytes. -/
def placeKey (k : Nat) : Bool := k % 256 == 136 || (placeFields.map Fld.key).contains k

/-- Lines lie where they lay. -/
def SamePlace (s t : State) : Prop := ∀ f : Fld, placeKey f.key = true → get f t = get f s

theorem SamePlace.refl (s : State) : SamePlace s s := fun _ _ => rfl

theorem SamePlace.trans {s t u : State} (h : SamePlace s t) (k : SamePlace t u) : SamePlace s u :=
  fun f hf => (k f hf).trans (h f hf)

theorem settle_place : ∀ k ∈ settleKeys, placeKey k = false := by decide +kernel

/-- Fields of which none decides where a line lies leave every line where it was. -/
theorem Changes.place {ps : List Part} {fs : List Fld} {s t : State} (h : Changes ps fs s t)
    (hk : ∀ f ∈ fs, placeKey f.key = false) : SamePlace s t := by
  refine fun f hf => h.regs f (fun hm => ?_) fun hm => ?_
  · obtain ⟨g, hg, he⟩ := List.mem_map.1 hm
    exact absurd hf (by rw [← he, hk g hg]; decide)
  · exact absurd hf (by rw [settle_place _ hm]; decide)

section
variable {s t : State} (h : SamePlace s t)
include h

theorem SamePlace.field {f : Fld} (hf : f ∈ placeFields) : get f t = get f s :=
  h f (by rw [placeKey, List.contains_iff_mem.2 (List.mem_map_of_mem hf), Bool.or_true])

theorem SamePlace.flag {f : Fld} (hf : f ∈ placeFields) : isSet f t = isSet f s := by
  rw [isSet, isSet, h.field hf]

theorem SamePlace.home (k : Nat) : hashHome k t = hashHome k s := by
  refine h _ ?_
  have hkey : (Reg.DMC.HASH_HI_HOME k).key % 256 = 136 := by
    show ((0x10114 + 8 * k) * 32 + 8) % 256 = 136
    omega
  rw [placeKey, beq_iff_eq.2 hkey, Bool.true_or]

theorem SamePlace.source {f : Fld} (hf : f ∈ mapSourceFields) : get f t = get f s :=
  h.field (by simp only [placeFields, List.mem_append]; exact .inl (.inl (.inl hf)))

theorem SamePlace.mask {k : Nat} (hk : k < 12) : hashMask k t = hashMask k s := by
  have hm : ∀ f ∈ [Reg.DMC.HASH_LO_MASK_LO k, Reg.DMC.HASH_HI_MASK_HI k, Reg.DMC.HASH_HI_HOME k], get f t = get f s :=
    fun f hf => h.source (List.mem_append_left _ (List.mem_flatMap.2 ⟨k, List.mem_range.2 hk, hf⟩))
  simp only [hashMask, hm _ (by simp : Reg.DMC.HASH_LO_MASK_LO k ∈ _), hm _ (by simp : Reg.DMC.HASH_HI_MASK_HI k ∈ _)]

theorem SamePlace.regions : regions t = regions s := by
  refine congrArg (List.filter _) (List.map_congr_left fun m hm => Prod.ext rfl ?_)
  have hr : ∀ f ∈ [Reg.DMC.REGION_A_BASE_GIB m, Reg.DMC.REGION_A_SIZE_LOG2 m, Reg.DMC.REGION_A_VALID m,
      Reg.DMC.REGION_B_CH_BASE m, Reg.DMC.REGION_B_CH_BITS m, Reg.DMC.REGION_B_RANK_BASE m,
      Reg.DMC.REGION_B_RANK_BITS m], get f t = get f s :=
    fun f hf => h.source (List.mem_append_right _ (List.mem_flatMap.2 ⟨m, hm, hf⟩))
  have hvalid : isSet (Reg.DMC.REGION_A_VALID m) t = isSet (Reg.DMC.REGION_A_VALID m) s := by
    rw [isSet, isSet, hr _ (by simp : Reg.DMC.REGION_A_VALID m ∈ _)]
  show regionOf m t = regionOf m s
  rw [regionOf, regionOf, hvalid, hr _ (by simp : Reg.DMC.REGION_A_BASE_GIB m ∈ _),
    hr _ (by simp : Reg.DMC.REGION_A_SIZE_LOG2 m ∈ _), hr _ (by simp : Reg.DMC.REGION_B_CH_BASE m ∈ _),
    hr _ (by simp : Reg.DMC.REGION_B_CH_BITS m ∈ _), hr _ (by simp : Reg.DMC.REGION_B_RANK_BASE m ∈ _),
    hr _ (by simp : Reg.DMC.REGION_B_RANK_BITS m ∈ _)]

theorem SamePlace.columns : colBits t = colBits s := by
  rw [colBits, colBits, h.flag (f := Reg.DMC.CFG_X8) (by decide)]

theorem SamePlace.mapIn (r : Region) (a : Nat) : mapIn r a t = mapIn r a s := by
  have hbit : ∀ k < 12, fieldBit r (a - r.base) k t = fieldBit r (a - r.base) k s := fun k hk => by
    simp only [fieldBit, h.mask hk]
  have hdirect : directBits r t = directBits r s := by simp only [directBits, h.home]
  simp only [Machine.mapIn, hbit 0 (by omega), hbit 1 (by omega), hbit 2 (by omega), hbit 3 (by omega),
    hbit 4 (by omega), hbit 5 (by omega), hbit 6 (by omega), hbit 7 (by omega), hbit 8 (by omega), hbit 9 (by omega),
    hbit 10 (by omega), hbit 11 (by omega), hdirect, h.columns]

theorem SamePlace.mapAddress (a : Nat) : mapAddress a t = mapAddress a s := by
  unfold Machine.mapAddress
  rw [h.regions]
  simp only [h.mapIn]

theorem SamePlace.loc (line : Nat) : lineLoc line t = lineLoc line s := by
  unfold lineLoc
  rw [h.mapAddress]

/-- The fields of a spare. -/
theorem SamePlace.spare {m : Nat} (hm : m < 8) : ∀ f ∈ [Reg.SPR.SPARE_CH m, Reg.SPR.SPARE_RANK m, Reg.SPR.SPARE_VALID m,
    Reg.SPR.SPARE_TARGET_CH m, Reg.SPR.SPARE_TARGET_RANK m, Reg.SPR.SPARE_IN_USE m], get f t = get f s := fun f hf =>
  h.field (by
    simp only [placeFields, List.mem_append]
    exact .inl (.inl (.inr (List.mem_flatMap.2 ⟨m, List.mem_range.2 hm, hf⟩))))

theorem SamePlace.spareIndex {m : Nat} (hm : m < 8) : spareIndex m t = spareIndex m s := by
  simp only [Machine.spareIndex, h.spare hm _ (by simp : Reg.SPR.SPARE_CH m ∈ _),
    h.spare hm _ (by simp : Reg.SPR.SPARE_RANK m ∈ _)]

theorem SamePlace.spareFor (ch rank : Nat) : spareFor ch rank t = spareFor ch rank s := by
  unfold Machine.spareFor
  refine List.find?_congr fun m hm => ?_
  have hf := h.spare (List.mem_range.1 hm)
  simp only [isSet, hf _ (by simp : Reg.SPR.SPARE_VALID m ∈ _), hf _ (by simp : Reg.SPR.SPARE_IN_USE m ∈ _),
    hf _ (by simp : Reg.SPR.SPARE_TARGET_CH m ∈ _), hf _ (by simp : Reg.SPR.SPARE_TARGET_RANK m ∈ _)]

theorem SamePlace.rank (line : Nat) : rankOfLine line t = rankOfLine line s := by
  unfold rankOfLine
  rw [h.loc]
  generalize lineLoc line s = d
  unfold physicalRank
  rw [h.spareFor]
  cases hm : Machine.spareFor d.ch d.rank s with
  | none => rfl
  | some m =>
    have hlt : m < 8 := List.mem_range.1 (List.mem_of_find?_eq_some hm)
    have hindex : rankLineIndex d t = rankLineIndex d s := by simp only [rankLineIndex, h.columns]
    dsimp only
    rw [h.spareIndex hlt, hindex, h.flag (f := Reg.SPR.MIG_STS_ACTIVE) (by decide),
      h.field (f := Reg.SPR.MIG_STS_DST) (by decide), h.field (f := Reg.SPR.MIG_STS_SRC) (by decide),
      h.field (f := Reg.SPR.MIG_PTR_INDEX) (by decide)]

theorem SamePlace.granuleOf (line : Nat) : granuleOf line t = granuleOf line s := by
  simp only [Machine.granuleOf, granLines, granBytes, h.field (f := Reg.MRV.CFG_GRAN_IN_USE) (by decide)]

theorem SamePlace.inUndo (a : Nat) : inUndo a t = inUndo a s := by
  rw [Machine.inUndo, Machine.inUndo, undoBase, undoSize, undoBase, undoSize, h.field (f := Reg.TXN.UNDO_CFG_BASE_GIB)
      (by decide),
    h.field (f := Reg.TXN.UNDO_CFG_SIZE_GIB) (by decide)]

/-- The place of a spill region. -/
theorem SamePlace.spill {q : Nat} (hq : q < 4) : spillBase q t = spillBase q s ∧ spillSize q t = spillSize q s := by
  have hf : ∀ f ∈ [Reg.GQ.SPILL_BASE_BASE_MIB q, Reg.GQ.CFG_SPILL_MIB q], get f t = get f s := fun f hf =>
    h.field (by
      simp only [placeFields, List.mem_append]
      exact .inl (.inr (List.mem_flatMap.2 ⟨q, List.mem_range.2 hq, hf⟩)))
  exact ⟨congrArg (· * 2 ^ 20) (hf _ (by simp)), congrArg (· * 2 ^ 20) (hf _ (by simp))⟩

theorem SamePlace.inSpill (a : Nat) : inSpill a t = inSpill a s := by
  unfold Machine.inSpill
  refine Bool.eq_iff_iff.2 (by
    simp only [List.any_eq_true]
    exact exists_congr fun q => and_congr_right fun hq => by
      rw [(h.spill (List.mem_range.1 hq)).1, (h.spill (List.mem_range.1 hq)).2])

theorem SamePlace.spillQueue (line : Nat) : spillQueue line t = spillQueue line s := by
  unfold Machine.spillQueue
  refine List.find?_congr fun q hq => ?_
  rw [(h.spill (List.mem_range.1 hq)).1, (h.spill (List.mem_range.1 hq)).2]

theorem SamePlace.entryInUse (g : Nat) : entryInUse g t = entryInUse g s := by
  rw [Machine.entryInUse, Machine.entryInUse, isUndoGranule, isUndoGranule, h.inUndo, h.inSpill, granBytes, granBytes,
    mapEntries, mapEntries, h.field (f := Reg.MRV.CFG_GRAN_IN_USE) (by decide), h.field (f := Reg.MRV.MAP_ENTRIES)
        (by decide)]

end

/-! ### The end of a line's read (R161) -/

/-- The readers of a line are served (R161). -/
def lineEnded (line : Nat) (s : State) : State := s |> endReads line |> serveReads line

theorem changes_dropRead (p : REntry → Bool) (s : State) : Changes [.dram] [] s (dropRead p s) :=
  (Changes.refl _ _ s).in_dram _ (by simp)

theorem changes_partialReady (line : Nat) (s : State) : Changes [.dram] [] s (partialReady line s) :=
  .branch _ ((Changes.refl _ _ s).in_dram _ (by simp)) (.refl _ _ s)

theorem changes_endReads (line : Nat) (s : State) : Changes [.dram] (depths (lineLoc line s).ch) s (endReads line s) :=
  ((changes_dropRead _ s).mono (by simp) (by simp)).trans
    (((changes_depthShow _ _).mono (by simp) fun _ h => h).trans ((changes_partialReady line _).mono (by simp)
        (by simp)))

theorem changes_lineEnded (line : Nat) (s : State) :
    Changes [.hp, .dram] (depths (lineLoc line s).ch) s (lineEnded line s) :=
  ((changes_endReads line s).mono (by simp) fun _ h => h).in_hp _ (by simp)

/-- The end of a line's read leaves the memory, the poison and the repairs; none reads the line any more. -/
theorem lineEnded_shown (line : Nat) (s : State) :
    (lineEnded line s).dram.mem = s.dram.mem ∧ (lineEnded line s).dram.poisoned = s.dram.poisoned ∧
    (lineEnded line s).dram.repairs = s.dram.repairs ∧ (∀ r ∈ (lineEnded line s).dram.reads, r.line ≠ line) ∧
    (∀ r ∈ (lineEnded line s).hp.reads, r.line = line → r.data ≠ none) := by
  have hready : ∀ u : State, (partialReady line u).dram.mem = u.dram.mem ∧
      (partialReady line u).dram.poisoned = u.dram.poisoned ∧ (partialReady line u).dram.repairs = u.dram.repairs ∧
      (partialReady line u).dram.reads = u.dram.reads := fun u => by
    unfold partialReady
    split <;> exact ⟨rfl, rfl, rfl, rfl⟩
  obtain ⟨hm, hp, hr, hq⟩ := hready (depthShow (lineLoc line s).ch (dropRead (fun r => r.line == line) s))
  refine ⟨hm, hp, hr, fun r h => ?_, fun r h hl => ?_⟩
  · have hmem : r ∈ s.dram.reads.filter (fun r => !(r.line == line)) :=
      (congrArg (r ∈ ·) hq).mp h
    simpa using (List.mem_filter.1 hmem).2
  · obtain ⟨q, -, rfl⟩ := List.mem_map.1 h
    split at hl
    case isTrue hq => simp [if_pos hq]
    case isFalse hq =>
      rw [if_neg hq]
      exact fun hn => hq ⟨hl, hn⟩

/-! ### A line repaired (R164, R165) -/

theorem changes_clearPoisonAt (line : Nat) (s : State) : Changes [.dram] [] s (clearPoisonAt line s) :=
  .branch _ ((Changes.refl _ _ s).in_dram _ (by simp)) (.refl _ _ s)

theorem clearPoisonAt_shown (line : Nat) (s : State) :
    isPoisoned line (clearPoisonAt line s) = false ∧ (clearPoisonAt line s).dram.mem = s.dram.mem := by
  unfold clearPoisonAt
  split
  case isTrue =>
    refine ⟨?_, rfl⟩
    show (s.dram.poisoned.filter (· != line)).contains line = false
    simp
  case isFalse h => exact ⟨eq_false_of_ne_true h, rfl⟩

theorem writeLine_repairs (line : Nat) (be : BitVec 64) (d : Line) (s : State) :
    (writeLine line be d s).dram.repairs = s.dram.repairs :=
  forEach_keeps (fun u : State => u.dram.repairs = s.dram.repairs) _ _ s rfl fun _ _ u hu =>
    when_keeps (fun v : State => v.dram.repairs = s.dram.repairs) _ _ u hu id

/-- A repair ends: none is under way for the line. -/
theorem repairOf_dropRepair (line : Nat) (s : State) : repairOf line (dropRepair line s) = none := by
  show (s.dram.repairs.filter (·.line != line)).find? (·.line == line) = none
  rw [List.find?_eq_none]
  intro r hr
  simpa using (List.mem_filter.1 hr).2

/-- The base of a repaired line is placed under what has been written (R165). -/
def basePlaced (line : Nat) (d : Line) (s : State) : State :=
  when (writtenSince line s != allBytes) (fun u => u |> writeLine line (~~~writtenSince line s) d |> clearPoisonAt
      line) s

theorem placeRepair_eq (line : Nat) (d : Line) (s : State) :
    placeRepair line d s = lineEnded line (dropRepair line (basePlaced line d s)) := rfl

theorem changes_basePlaced (line : Nat) (d : Line) (s : State) : Changes [.dram] [] s (basePlaced line d s) :=
  (Changes.refl _ _ s).cond _ _ fun _ h => (h.trans (changes_writeLine _ _ _ _)).trans (changes_clearPoisonAt _ _)

theorem changes_placeRepair (line : Nat) (d : Line) (s : State) :
    Changes [.hp, .dram] (depths (lineLoc line s).ch) s (placeRepair line d s) := by
  have hbase : Changes [.dram] [] s (dropRepair line (basePlaced line d s)) :=
    (changes_basePlaced line d s).in_dram _ (by simp)
  have hend := changes_lineEnded line (dropRepair line (basePlaced line d s))
  rw [(hbase.place (by simp)).loc] at hend
  exact (hbase.mono (by simp) (by simp)).trans hend

/-- A repair places its line where nothing has been written since the failed read, and changes no byte of another line
or of a line that has been written whole. -/
theorem placeRepair_shown (line : Nat) (d : Line) (s : State) :
    repairOf line (placeRepair line d s) = none ∧
    (writtenSince line s = 0 → readLine line (placeRepair line d s) = d ∧ isPoisoned line
        (placeRepair line d s) = false) ∧
    (writtenSince line s = allBytes → ∀ x, readByte x (placeRepair line d s) = readByte x s) ∧
    (∀ x, Outside line x → readByte x (placeRepair line d s) = readByte x s) := by
  obtain ⟨hm, hp, hr, -, -⟩ := lineEnded_shown line (dropRepair line (basePlaced line d s))
  have hmem : (placeRepair line d s).dram.mem = (basePlaced line d s).dram.mem := hm
  refine ⟨?_, fun h => ?_, fun h x => ?_, fun x hx => ?_⟩
  · unfold repairOf
    rw [placeRepair_eq, hr]
    exact repairOf_dropRepair line _
  · have hb : basePlaced line d s = clearPoisonAt line (writeLine line allBytes d s) := by
      unfold basePlaced
      rw [h]
      rfl
    obtain ⟨hc, hw⟩ := clearPoisonAt_shown line (writeLine line allBytes d s)
    rw [hb] at hmem
    refine ⟨(readLine_congr line (hmem.trans hw)).trans (readLine_writeAll line d s), ?_⟩
    show (placeRepair line d s).dram.poisoned.contains line = false
    rw [placeRepair_eq, hp, hb]
    exact hc
  · have hb : basePlaced line d s = s := by
      unfold basePlaced
      rw [h]
      rfl
    rw [hb] at hmem
    exact readByte_congr x hmem
  · rw [readByte_congr x hmem]
    refine when_keeps (fun u : State => readByte x u = readByte x s) _ _ s rfl fun _ => ?_
    exact (readByte_congr x (clearPoisonAt_shown line _).2).trans (readByte_writeLine_other _ _ _ hx)

theorem lineEnded_stalled (line : Nat) (s : State) : (lineEnded line s).hp.stalled = s.hp.stalled :=
  (changes_endReads line s).ports (by simp) (·.stalled) fun _ => rfl

theorem placeRepair_stalled (line : Nat) (d : Line) (s : State) : (placeRepair line d s).hp.stalled = s.hp.stalled :=
  (lineEnded_stalled line _).trans
    (((changes_basePlaced line d s).in_dram _ (by simp)).ports (by simp) (·.stalled) fun _ => rfl)

end Sys2Proof.Machine
end

section
/-! SUPPORT. What a DRAM read brings (R161 to R164). -/

namespace Sys2Proof.Machine
set_option Elab.async false

theorem retryStalled_none {s : State} (h : s.hp.stalled = []) : retryStalled s = s := by
  unfold retryStalled
  rw [h]
  rfl

/-- The effects of a scrub on its counters. -/
def scrubbed (finder : Finder) (err : LineErrors) (s : State) : State := when (finder == .scrub) (scrubFound err) s

section
variable {s : State} {line : Nat} {finder : Finder} {err : LineErrors}

/-- A read that was made and whose rank is not being retrained. -/
theorem readDone_eq (hm : readMade line finder s = true) (hb : rankBlocked line s = false)
    (hst : (lineRead line finder err (scrubbed finder err s)).hp.stalled = []) :
    readDone line finder err s = lineRead line finder err (scrubbed finder err s) := by
  unfold readDone
  rw [if_pos (by simp [hm, hb])]
  exact retryStalled_none hst

/-- The width that the decoder reads for. -/
theorem decodeLine_changes {ps : List Part} {fs : List Fld} {u : State} (h : Changes ps fs s u)
    (hf : Reg.DMC.CFG_X8.key ∉ fs.map Fld.key) :
    decodeLine (isSet Reg.DMC.CFG_X8 u) err = decodeLine (isSet Reg.DMC.CFG_X8 s) err := by
  rw [isSet, isSet, h.regs _ hf (by decide)]

/-- What a scrub shows of a corrected or a miscorrected line. -/
def ceFound (finder : Finder) (s : State) : State := when (finder == .scrub) (inc Reg.SCR.FOUND_CE) s

/-- What a scrub shows of an uncorrectable line. -/
def ueFound (finder : Finder) (s : State) : State :=
  when (finder == .scrub) (fun s => s |> inc Reg.SCR.FOUND_UE |> event 0x12 1) s

theorem scrubbed_good (h : decodeLine (isSet Reg.DMC.CFG_X8 s) err = .good) : scrubbed finder err s = s := by
  unfold scrubbed scrubFound
  rw [when]
  split <;> simp [h]

theorem scrubbed_ce (h : decodeLine (isSet Reg.DMC.CFG_X8 s) err = .corrected ∨
    decodeLine (isSet Reg.DMC.CFG_X8 s) err = .miscorrected) : scrubbed finder err s = ceFound finder s := by
  unfold scrubbed ceFound scrubFound
  rw [when, when]
  rcases h with h | h <;> rw [h]

theorem scrubbed_ue (h : decodeLine (isSet Reg.DMC.CFG_X8 s) err = .uncorrectable) :
    scrubbed finder err s = ueFound finder s := by
  unfold scrubbed ueFound scrubFound
  rw [when, when, h]

end

section
variable {line : Nat} {finder : Finder} {err : LineErrors} {s : State}

theorem lineRead_good (h : decodeLine (isSet Reg.DMC.CFG_X8 s) err = .good) :
    lineRead line finder err s = lineEnded line s := by
  rw [lineRead, h]
  rfl

theorem lineRead_corrected (h : decodeLine (isSet Reg.DMC.CFG_X8 s) err = .corrected) :
    lineRead line finder err s = lineEnded line (rankCorrected line s) := by
  rw [lineRead, h]
  rfl

/-- The decoder's line is written back where no write to the line waits (R163). -/
def miscorrected (line : Nat) (s : State) : State :=
  when (youngest line s).isNone (writeLine line allBytes (freshLine s)) (spendLine s)

theorem lineRead_miscorrected (h : decodeLine (isSet Reg.DMC.CFG_X8 s) err = .miscorrected) :
    lineRead line finder err s = lineEnded line (rankCorrected line (miscorrected line s)) := by
  rw [lineRead, h]
  rfl

theorem lineRead_uncorrectable (h : decodeLine (isSet Reg.DMC.CFG_X8 s) err = .uncorrectable) :
    lineRead line finder err s = startRepair line finder s := by
  rw [lineRead, h]

end

theorem changes_ceFound (finder : Finder) (s : State) : Changes [] [Reg.SCR.FOUND_CE] s (ceFound finder s) :=
  (Changes.refl _ _ s).cond _ _ fun _ h => h.inc _ (by simp)

theorem changes_ueFound (finder : Finder) (s : State) :
    Changes [] [Reg.SCR.FOUND_UE, Reg.EVT_STS 0x12 1] s (ueFound finder s) :=
  (Changes.refl _ _ s).cond _ _ fun _ h => (h.inc _ (by simp)).event _ _ (by simp)

/-- The counters of a scrub are registers. -/
theorem ueFound_rest (finder : Finder) (s : State) : ∃ l, ueFound finder s = { s with regs := l } := by
  unfold ueFound
  rw [when]
  split
  · exact ⟨_, rfl⟩
  · exact ⟨_, rfl⟩

/-- The keys of what a read counts. -/
theorem read_keys (i : Fin 64) : (Reg.SPR.RANK_CE_WIN i).key ∉ settleKeys ∧ Reg.SCR.FOUND_CE.key ∉ settleKeys ∧
    (Reg.SPR.RANK_CE_WIN i).key ≠ Reg.SCR.FOUND_CE.key ∧ Reg.SPR.CFG_CE_LIMIT.key ≠ (Reg.SPR.RANK_CE_WIN i).key ∧
    placeKey (Reg.SPR.RANK_CE_WIN i).key = false := by
  revert i
  decide +kernel

theorem read_depths (i : Fin 64) (ch : Fin 16) : (Reg.SPR.RANK_CE_WIN i).key ∉ (depths ch).map Fld.key ∧
    Reg.SCR.FOUND_CE.key ∉ (depths ch).map Fld.key ∧ Reg.SPR.REPAIR_SEALED.key ∉ (depths ch).map Fld.key := by
  revert i ch
  decide +kernel

/-- A corrected line below the limit is counted against its rank (R170). -/
theorem rankCorrected_below {line : Nat} {s : State} (hi : rankOfLine line s < 64)
    (h : get (Reg.SPR.RANK_CE_WIN (rankOfLine line s)) s < get Reg.SPR.CFG_CE_LIMIT s) :
    rankCorrected line s = inc (Reg.SPR.RANK_CE_WIN (rankOfLine line s)) s := by
  obtain ⟨-, -, -, hlimit, -⟩ := read_keys ⟨rankOfLine line s, hi⟩
  unfold rankCorrected
  dsimp only
  rw [get_inc_other _ hlimit, get_inc_same, if_neg]
  unfold satAdd
  omega

section
variable {s : State} (hs : Ready s) {line : Nat} {finder : Finder} {err : LineErrors}
  (hm : readMade line finder s = true) (hb : rankBlocked line s = false) (hst : s.hp.stalled = [])
include hs hm hb

/-- A read ends with what its outcome leaves. -/
theorem completes_lineRead {u : State} {P : State → Prop}
    (hu : lineRead line finder err (scrubbed finder err (begun s)) = u)
    (hstu : u.hp.stalled = []) (hreqs : u.reqs = []) (h : ∀ t, Keeps settleKeys u t → P t) :
    Completes (.dramReadDone line finder err) s P :=
  .leaves hs rfl ((readDone_eq (s := begun s) hm hb (hu ▸ hstu)).trans hu) hreqs h

include hst

theorem completes_readGoodLine (hd : decodeLine (isSet Reg.DMC.CFG_X8 s) err = .good) :
    Completes (.dramReadDone line finder err) s fun t =>
      (∀ r ∈ t.hp.reads, r.line = line → r.data ≠ none) ∧ (∀ r ∈ t.dram.reads, r.line ≠ line) ∧
      (∀ x, readByte x t = readByte x s) ∧ Changes [.hp, .dram] (depths (lineLoc line s).ch) s t := by
  have he : lineRead line finder err (scrubbed finder err (begun s)) = lineEnded line (begun s) := by
    rw [scrubbed_good (s := begun s) hd, lineRead_good (s := begun s) hd]
  have hc := (Changes.begin _ _ s).trans (changes_lineEnded line (begun s))
  obtain ⟨hmem, -, -, hreads, hserved⟩ := lineEnded_shown line (begun s)
  refine completes_lineRead hs hm hb he ((lineEnded_stalled line _).trans hst) (hc.reqs.trans hs.2) fun t k =>
    ⟨?_, ?_, k.bytes hmem, hc.ended k⟩
  · rw [k.ports (·.reads) fun _ => rfl]
    exact hserved
  · rw [k.dram]
    exact hreads

/-- A line corrected or miscorrected, read from what its outcome makes of memory. -/
theorem completes_readCorrected {w : State} {P : State → Prop} (hi : rankOfLine line s < 64)
    (hch : (lineLoc line s).ch < 16)
    (hlimit : get (Reg.SPR.RANK_CE_WIN (rankOfLine line s)) s < get Reg.SPR.CFG_CE_LIMIT s)
    (hw : Changes [.dram] [] (ceFound finder (begun s)) w)
    (he : lineRead line finder err (scrubbed finder err (begun s)) = lineEnded line (rankCorrected line w))
    (h : ∀ t, t.dram.mem = w.dram.mem →
      get (Reg.SPR.RANK_CE_WIN (rankOfLine line s)) t = oneMore (Reg.SPR.RANK_CE_WIN (rankOfLine line s)) s →
      (∀ r ∈ t.dram.reads, r.line ≠ line) →
      (finder = .scrub → get Reg.SCR.FOUND_CE t = oneMore Reg.SCR.FOUND_CE s) →
      Changes [.hp, .dram] (Reg.SPR.RANK_CE_WIN (rankOfLine line s) :: Reg.SCR.FOUND_CE :: depths (lineLoc line s).ch)
        s t → P t) : Completes (.dramReadDone line finder err) s P := by
  obtain ⟨hkw, hkf, hne, hlim, hpl⟩ := read_keys ⟨rankOfLine line s, hi⟩
  obtain ⟨hdw, hdf, -⟩ := read_depths ⟨rankOfLine line s, hi⟩ ⟨(lineLoc line s).ch, hch⟩
  have hfound : Changes [.dram] [Reg.SCR.FOUND_CE] s w :=
    ((Changes.begin _ _ s).trans ((changes_ceFound finder (begun s)).mono (by simp) fun _ h => h)).trans
      (hw.mono (fun _ h => h) (by simp))
  have hplace : SamePlace s w := hfound.place (by decide)
  have hwin : get (Reg.SPR.RANK_CE_WIN (rankOfLine line s)) w = get (Reg.SPR.RANK_CE_WIN (rankOfLine line s)) s :=
    hfound.regs _ (by simpa using hne) hkw
  have hrank : rankCorrected line w = inc (Reg.SPR.RANK_CE_WIN (rankOfLine line s)) w := by
    rw [← hplace.rank line]
    refine rankCorrected_below (by rwa [hplace.rank]) ?_
    rw [hplace.rank, hwin, hfound.regs _ (by decide) (by decide)]
    exact hlimit
  have hscrub : finder = .scrub → get Reg.SCR.FOUND_CE w = oneMore Reg.SCR.FOUND_CE s := fun hf => by
    rw [hw.regs _ (by simp) (by decide), hf]
    exact get_inc_same _ _
  rw [hrank] at he
  have hinc := get_inc_same (Reg.SPR.RANK_CE_WIN (rankOfLine line s)) w
  have hfoundInc := get_inc_other (f := Reg.SPR.RANK_CE_WIN (rankOfLine line s)) w hne.symm
  have hcw : Changes [.dram] [Reg.SPR.RANK_CE_WIN (rankOfLine line s), Reg.SCR.FOUND_CE] s
      (inc (Reg.SPR.RANK_CE_WIN (rankOfLine line s)) w) :=
    (hfound.mono (fun _ h => h) (by simp +contextual)).inc _ (by simp)
  have hmem0 : (inc (Reg.SPR.RANK_CE_WIN (rankOfLine line s)) w).dram.mem = w.dram.mem := rfl
  have hstw : (inc (Reg.SPR.RANK_CE_WIN (rankOfLine line s)) w).hp.stalled = [] :=
    (hfound.ports (by simp) (·.stalled) fun _ => rfl).trans hst
  generalize inc (Reg.SPR.RANK_CE_WIN (rankOfLine line s)) w = v at *
  have hvplace : SamePlace s v := hcw.place fun f hf => by
    simp only [List.mem_cons, List.not_mem_nil, or_false] at hf
    rcases hf with rfl | rfl
    · exact hpl
    · decide
  have hend := changes_lineEnded line v
  rw [hvplace.loc] at hend
  obtain ⟨hmem, -, -, hreads, -⟩ := lineEnded_shown line v
  have hc := (hcw.mono (gs := Reg.SPR.RANK_CE_WIN (rankOfLine line s) :: Reg.SCR.FOUND_CE :: depths (lineLoc line s).ch)
    (qs := [.hp, .dram]) (by simp) (by simp +contextual)).trans (hend.mono (fun _ h => h) (by simp +contextual))
  refine completes_lineRead hs hm hb he ((lineEnded_stalled line _).trans hstw) (hc.reqs.trans hs.2) fun t k =>
    h t ((congrArg Dram.mem k.dram).trans (hmem.trans hmem0)) ?_ ?_ (fun hf => ?_) (hc.ended k)
  · rw [k.get _ hkw, hend.regs _ hdw hkw, hinc, hwin]
  · rw [k.dram]
    exact hreads
  · rw [k.get _ hkf, hend.regs _ hdf hkf, hfoundInc, hscrub hf]

omit hst in
theorem completes_readUncorrectable {w : State} {P : State → Prop}
    (hd : decodeLine (isSet Reg.DMC.CFG_X8 s) err = .uncorrectable)
    (hw : startRepair line finder (ueFound finder (begun s)) = w) (hstw : w.hp.stalled = []) (hreqs : w.reqs = [])
    (h : ∀ t, Keeps settleKeys w t → P t) : Completes (.dramReadDone line finder err) s P := by
  have hwidth := decodeLine_changes (err := err) ((Changes.begin _ _ s).trans (changes_ueFound finder (begun s)))
    (by decide)
  refine completes_lineRead hs hm hb (Eq.trans ?_ hw) hstw hreqs h
  rw [scrubbed_ue (s := begun s) hd, lineRead_uncorrectable (hwidth.trans hd)]

end

/-- A repair is asked of the twin where it serves the line (R164). -/
theorem startRepair_twin {line : Nat} {finder : Finder} {s : State} (hr : repairOf line s = none)
    (ht : twinServes line s = true) : startRepair line finder s =
      sendTwin "REPAIR_REQUEST" [line] (addRepair { line := line, finder := finder, stage := .twin } s) := by
  unfold startRepair
  rw [if_neg (by rw [hr]; decide), if_pos ht]

/-- A line of a clean granule without a record is zeros (R164). -/
theorem startRepair_zeros {line : Nat} {finder : Finder} {s : State} (hr : repairOf line s = none)
    (ht : twinServes line s = false) (hu : inUndo (64 * line) s = false) (hp : inSpill (64 * line) s = false)
    (hg : entryInUse (granuleOf line s) s = true) (hc : (entryOf (granuleOf line s) s).state = .clean)
    (hl : (entryOf (granuleOf line s) s).lost = false) (hmap : look s.nand.map (granuleOf line s) = none) :
    startRepair line finder s = placeRepair line 0 (inc Reg.SPR.REPAIR_SEALED s) := by
  unfold startRepair repairOnward repairSealed
  rw [if_neg (by rw [hr]; decide), if_neg (by simp [ht]), if_neg (by simp [hu, hp])]
  dsimp only
  rw [if_pos (by simp [hg, hc, hl]), if_pos (by rw [hmap]; rfl)]
  rfl

theorem repairOf_addRepair {line : Nat} {r : Repair} {s : State} (h : repairOf line s = none) (hr : r.line = line) :
    repairOf line (addRepair r s) = some r := by
  show (s.dram.repairs ++ [r]).find? (·.line == line) = some r
  rw [List.find?_append, show s.dram.repairs.find? (·.line == line) = none from h]
  simp [hr]

/-- The twin serves the lines that it served. -/
theorem SamePlace.twinServes {s u : State} (h : SamePlace s u) (hm : u.mrv = s.mrv) (ht : u.twn = s.twn)
    (hf : ∀ f ∈ [Reg.TWN.STS_PAIRED, Reg.TWN.STS_STATE, Reg.TWN.CFG_ACK_MODE], Machine.get f u = Machine.get f s)
    (line : Nat) : Machine.twinServes line u = Machine.twinServes line s := by
  rw [Machine.twinServes, Machine.twinServes, twinAttached, twinAttached, asyncMode, asyncMode, paired, paired, isSet,
    isSet, twinState, twinState, entryOf, entryOf, mapEntries, mapEntries, h.granuleOf, hm, ht,
    hf _ (by simp : Reg.TWN.STS_PAIRED ∈ _), hf _ (by simp : Reg.TWN.STS_STATE ∈ _),
    hf _ (by simp : Reg.TWN.CFG_ACK_MODE ∈ _), h.field (f := Reg.MRV.MAP_ENTRIES) (by decide)]

/-- What a scrub shows of an uncorrectable line leaves the line's place, and who repairs it. -/
theorem ueFound_place (finder : Finder) (s : State) : SamePlace s (ueFound finder s) ∧
    ∀ line, twinServes line (ueFound finder s) = twinServes line s := by
  have hc := changes_ueFound finder s
  have hplace := hc.place (by decide)
  obtain ⟨l, hl⟩ := ueFound_rest finder s
  refine ⟨hplace, hplace.twinServes (by rw [hl]) (by rw [hl]) ?_⟩
  simp only [List.mem_cons, List.not_mem_nil, or_false]
  rintro f (rfl | rfl | rfl) <;> exact hc.regs _ (by decide) (by decide)

theorem miscorrected_shown (line : Nat) (s : State) :
    Changes [.dram] [] s (miscorrected line s) ∧
    (∀ x, Outside line x → readByte x (miscorrected line s) = readByte x s) ∧
    (youngest line s ≠ none → ∀ x, readByte x (miscorrected line s) = readByte x s) := by
  refine ⟨Changes.cond ((Changes.refl _ _ s).free _) _ _ fun u h => h.trans (changes_writeLine _ _ _ _), fun x hx => ?_,
    fun hy x => ?_⟩
  · exact when_keeps (fun u : State => readByte x u = readByte x s) _ _ (spendLine s) rfl
      fun _ => readByte_writeLine_other _ _ _ hx
  · have hq : (youngest line s).isNone = false := Option.isNone_eq_false_iff.2 (Option.isSome_iff_ne_none.2 hy)
    unfold miscorrected
    rw [hq]
    rfl

section
variable {s : State} (hs : Ready s) {line : Nat} {finder : Finder} {err : LineErrors}
  (hm : readMade line finder s = true) (hb : rankBlocked line s = false) (hst : s.hp.stalled = [])
  (hd : decodeLine (isSet Reg.DMC.CFG_X8 s) err = .uncorrectable) (hr : repairOf line s = none)
include hs hm hb hst hd hr

theorem completes_readTwin (ht : twinServes line s = true) :
    Completes (.dramReadDone line finder err) s fun t =>
      [Out.twin "REPAIR_REQUEST" [line]] <+: t.out ∧
      repairOf line t = some { line := line, finder := finder, stage := .twin } ∧ (∀ x, readByte x t = readByte x s) ∧
      Changes [.dram] [Reg.SCR.FOUND_UE, Reg.EVT_STS 0x12 1] s t := by
  have hfound := (Changes.begin _ _ s).trans (changes_ueFound finder (begun s))
  have hserves := ((ueFound_place finder (begun s)).2 line).trans ht
  obtain ⟨l, hl⟩ := ueFound_rest finder (begun s)
  have hnone : repairOf line (ueFound finder (begun s)) = none := by rw [hl]; exact hr
  refine completes_readUncorrectable hs hm hb hd (startRepair_twin hnone hserves) (by rw [hl]; exact hst)
    (hfound.reqs.trans hs.2) fun t k => ⟨k.sent (by rw [hl]; rfl), ?_, k.bytes (by rw [hl]; rfl), ?_⟩
  · unfold repairOf
    rw [k.dram]
    exact repairOf_addRepair hnone rfl
  · exact (((hfound.mono (by simp) fun _ h => h).in_dram _ (by simp)).emit _).ended k

theorem completes_readZeros (hch : (lineLoc line s).ch < 16) (ht : twinServes line s = false)
    (hu : inUndo (64 * line) s = false)
    (hp : inSpill (64 * line) s = false) (hg : entryInUse (granuleOf line s) s = true)
    (hc : (entryOf (granuleOf line s) s).state = .clean) (hlost : (entryOf (granuleOf line s) s).lost = false)
    (hmap : look s.nand.map (granuleOf line s) = none) :
    Completes (.dramReadDone line finder err) s fun t =>
      readLine line t = 0 ∧ isPoisoned line t = false ∧ get Reg.SPR.REPAIR_SEALED t = oneMore Reg.SPR.REPAIR_SEALED s ∧
      (∀ x, Outside line x → readByte x t = readByte x s) ∧
      Changes [.hp, .dram] ([Reg.SPR.REPAIR_SEALED, Reg.SCR.FOUND_UE, Reg.EVT_STS 0x12 1] ++
        depths (lineLoc line s).ch) s t := by
  obtain ⟨-, -, hks⟩ := read_depths 0 ⟨(lineLoc line s).ch, hch⟩
  have hfound := (Changes.begin _ _ s).trans (changes_ueFound finder (begun s))
  obtain ⟨hplace, hserves⟩ := ueFound_place finder (begun s)
  have hstart : startRepair line finder (ueFound finder (begun s)) =
      placeRepair line 0 (inc Reg.SPR.REPAIR_SEALED (ueFound finder (begun s))) := by
    obtain ⟨l, hl⟩ := ueFound_rest finder (begun s)
    have hgran := hplace.granuleOf line
    refine startRepair_zeros (by rw [hl]; exact hr) ((hserves line).trans ht) ((hplace.inUndo _).trans hu)
      ((hplace.inSpill _).trans hp) (by rw [hgran, hplace.entryInUse]; exact hg) ?_ ?_ ?_
    · rw [hgran, hl]; exact hc
    · rw [hgran, hl]; exact hlost
    · rw [hgran, hl]; exact hmap
  have hinc : Changes [] [Reg.SPR.REPAIR_SEALED, Reg.SCR.FOUND_UE, Reg.EVT_STS 0x12 1] s
      (inc Reg.SPR.REPAIR_SEALED (ueFound finder (begun s))) :=
    (hfound.mono (fun _ h => h) (by simp +contextual)).inc _ (by simp)
  have hcount : get Reg.SPR.REPAIR_SEALED (inc Reg.SPR.REPAIR_SEALED (ueFound finder (begun s))) =
      oneMore Reg.SPR.REPAIR_SEALED s := by
    rw [get_inc_same, hfound.regs Reg.SPR.REPAIR_SEALED (by decide) (by decide)]
  generalize inc Reg.SPR.REPAIR_SEALED (ueFound finder (begun s)) = u at *
  have hdram := hinc.dram (by simp)
  have hsince : writtenSince line u = 0 := by
    unfold writtenSince repairOf
    rw [hdram, show s.dram.repairs.find? (·.line == line) = none from hr]
    rfl
  have hcp := changes_placeRepair line 0 u
  rw [(hinc.place (by decide)).loc] at hcp
  obtain ⟨-, hbase, -, hrest⟩ := placeRepair_shown line 0 u
  obtain ⟨hread, hpoison⟩ := hbase hsince
  have hstalled : (placeRepair line 0 u).hp.stalled = [] :=
    (placeRepair_stalled line 0 u).trans ((hinc.ports (by simp) (·.stalled) fun _ => rfl).trans hst)
  have hall := (hinc.widen (qs := [.hp, .dram]) (by simp) (List.subset_append_left _ (depths
      (lineLoc line s).ch))).trans
    (hcp.widen (fun _ h => h) (List.subset_append_right _ _))
  refine completes_readUncorrectable hs hm hb hd hstart hstalled (hall.reqs.trans hs.2) fun t k =>
    ⟨?_, ?_, ?_, fun x hx => ?_, hall.ended k⟩
  · rw [readLine_congr line (congrArg Dram.mem k.dram), hread]
  · rw [isPoisoned, k.dram]
    exact hpoison
  · rw [k.get _ (by decide), hcp.regs _ hks (by decide), hcount]
  · rw [k.bytes rfl, hrest x hx, readByte_congr x (congrArg Dram.mem hdram)]

end

/-- Settles O21. -/
theorem dramReadOutcomes : Obligations.DramReadOutcomes := by
  unfold Obligations.DramReadOutcomes
  intro s hs line finder err hm hb hst hi hch out i c
  refine ⟨completes_readGoodLine hs hm hb hst, fun hd hl => ?_, fun hd hl => ?_,
    completes_readTwin hs hm hb hst, fun hd hr => completes_readZeros hs hm hb hst hd hr hch⟩
  · have hfound := (Changes.begin _ _ s).trans (changes_ceFound finder (begun s))
    refine completes_readCorrected hs hm hb hst hi hch hl (.refl _ _ _) ?_ fun t hmem hwin hreads hscrub hf =>
      ⟨hwin, hreads, hscrub, fun x => readByte_congr x (hmem.trans (congrArg Dram.mem (hfound.dram (by simp)))), hf⟩
    rw [scrubbed_ce (s := begun s) (.inl hd), lineRead_corrected ((decodeLine_changes hfound (by decide)).trans hd)]
  · have hfound := (Changes.begin _ _ s).trans (changes_ceFound finder (begun s))
    have hdram := hfound.dram (by simp)
    obtain ⟨hw, hout, hyoung⟩ := miscorrected_shown line (ceFound finder (begun s))
    refine completes_readCorrected hs hm hb hst hi hch hl hw ?_ fun t hmem hwin hreads _ hf =>
      ⟨hreads, fun x hx => ?_, fun _ hy x => ?_, hf⟩
    · rw [scrubbed_ce (s := begun s) (.inr hd), lineRead_miscorrected ((decodeLine_changes hfound
        (by decide)).trans hd)]
    · rw [readByte_congr x hmem, hout x hx, readByte_congr x (congrArg Dram.mem hdram)]
    · rw [readByte_congr x hmem, hyoung (by unfold youngest; rwa [hdram]) x, readByte_congr x (congrArg Dram.mem hdram)]

end Sys2Proof.Machine
end

section
/-! SUPPORT. Write CRC errors (R143), the operations of a die, and what a line that no source repairs leaves (R164 to
R166). -/

namespace Sys2Proof.Machine
set_option Elab.async false

/-! ### A write CRC error (R143) -/

theorem changes_requeueWrite (line : Nat) (e : WEntry) (held : Bool) (s : State) :
    Changes [.dram] [] s (requeueWrite line e held s) := by
  unfold requeueWrite
  dsimp only
  split <;> exact (Changes.refl _ _ s).in_dram _ (by simp)

theorem requeueWrite_mem (line : Nat) (e : WEntry) (held : Bool) (s : State) :
    (requeueWrite line e held s).dram.mem = s.dram.mem := by
  unfold requeueWrite
  dsimp only
  split <;> rfl

/-- The line's write waits for its reissue. -/
theorem requeueWrite_waits (line : Nat) (e : WEntry) (held : Bool) (s : State) :
    ∀ x ∈ (requeueWrite line e held s).dram.writes, x.line = line → x.issued = false := by
  unfold requeueWrite
  dsimp only
  split
  · intro x hx hl
    obtain ⟨y, -, rfl⟩ := List.mem_map.1 hx
    split at hl
    case isTrue h => rw [if_pos h]; rfl
    case isFalse h => exact absurd hl h
  · intro x hx hl
    obtain ⟨y, -, rfl⟩ := List.mem_map.1 hx
    split at hl
    case isTrue h => rw [if_pos h]
    case isFalse h =>
      rw [if_neg h]
      by_contra hn
      exact h ⟨hl, eq_true_of_ne_false hn⟩

theorem changes_startRetrain (i : Nat) (byCrc : Bool) (s : State) :
    Changes [.dram] [Reg.DCH.STS_MODE (i / 4)] s (startRetrain i byCrc s) :=
  .branch _ (.refl _ _ s) (.branch _ ((Changes.refl _ _ s).in_dram _ (by simp))
    (((Changes.refl _ _ s).in_dram _ (by simp)).set _ _ (by simp)))

/-- The keys of a channel's CRC counters, and of its modes. -/
theorem crc_keys (ch : Fin 16) : (Reg.DCH.CRC_CNT_RETRIES ch).key ∉ settleKeys ∧
    (Reg.DCH.CRC_CNT_EXHAUSTED ch).key ∉ settleKeys ∧ (Reg.EVT_STS (0x20 + ch) 2).key ∉ settleKeys ∧
    (Reg.DCH.CRC_CNT_EXHAUSTED ch).key ≠ (Reg.EVT_STS (0x20 + ch) 2).key ∧
    (Reg.DCH.CRC_CNT_EXHAUSTED ch).key ∉ (raiseFields (128 + ch)).map Fld.key ∧
    (Reg.EVT_STS (0x20 + ch) 2).key ∉ (raiseFields (128 + ch)).map Fld.key ∧
    (∀ f ∈ sourceCard (128 + ch), f.key ∉ [Reg.DCH.CRC_CNT_EXHAUSTED ch, Reg.EVT_STS (0x20 + ch) 2].map Fld.key) := by
  revert ch
  decide +kernel

/-- The mode of a channel is none of the fields of a CRC error. -/
theorem mode_keys (c ch : Fin 16) : (Reg.DCH.CRC_CNT_EXHAUSTED ch).key ≠ (Reg.DCH.STS_MODE c).key ∧
    (Reg.EVT_STS (0x20 + ch) 2).key ≠ (Reg.DCH.STS_MODE c).key ∧
    (∀ f ∈ sourceCard (128 + ch), f.key ≠ (Reg.DCH.STS_MODE c).key) := by
  revert c ch
  decide +kernel

section
variable {s : State} (hs : Ready s) {line : Nat} (hst : s.hp.stalled = [])

section
variable {ch : Fin 16} {sub : Fin 2} {e : WEntry} (hr : channelRuns ch s = true)
  (he : s.dram.writes.find? (fun e => e.ch == ch.val && e.sub == sub.val && e.line == line && e.issued) = some e)
include hs hr he

theorem completes_crcRetry (hn : e.retries < 2) :
    Completes (.writeCrcError ch sub line) s fun t =>
      get (Reg.DCH.CRC_CNT_RETRIES ch) t = oneMore (Reg.DCH.CRC_CNT_RETRIES ch) s ∧
      (∀ e ∈ t.dram.writes, e.line = line → e.issued = false) ∧ (∀ x, readByte x t = readByte x s) ∧
      Changes [.dram] [Reg.DCH.CRC_CNT_RETRIES ch] s t := by
  obtain ⟨hk, -⟩ := crc_keys ch
  have heff : crcError ch sub line (begun s) =
      requeueWrite line e false (inc (Reg.DCH.CRC_CNT_RETRIES ch) (begun s)) := by
    unfold crcError
    rw [show (begun s).dram.writes.find? _ = some e from he]
    exact if_pos hn
  have hw := changes_requeueWrite line e false (inc (Reg.DCH.CRC_CNT_RETRIES ch) (begun s))
  have hc : Changes [.dram] [Reg.DCH.CRC_CNT_RETRIES ch] s
      (requeueWrite line e false (inc (Reg.DCH.CRC_CNT_RETRIES ch) (begun s))) :=
    ((Changes.begin _ _ s).inc _ (by simp)).trans (hw.widen (fun _ h => h) (by simp))
  refine .leaves hs (f := fun s => if channelRuns ch s then crcError ch sub line s else s) rfl
    ((if_pos (show channelRuns ch (begun s) = true from hr)).trans heff) (hc.reqs.trans hs.2) fun t k =>
    ⟨k.stored hk ?_, ?_, k.bytes (requeueWrite_mem _ _ _ _), hc.ended k⟩
  · exact (hw.regs _ (by simp) hk).trans (get_inc_same _ _)
  · rw [k.dram]
    exact requeueWrite_waits _ _ _ _

/-- The third failed attempt is counted and latched. -/
def crcExhausted (line ch : Nat) (e : WEntry) (s : State) : State :=
  s |> requeueWrite line { e with retries := 0 } true |> inc (Reg.DCH.CRC_CNT_EXHAUSTED ch) |> event (0x20 + ch) 2

theorem completes_crcExhausted (hn : 2 ≤ e.retries) (hf : Fresh (128 + ch) s) (hi : rankOfLine line s < 64) :
    Completes (.writeCrcError ch sub line) s fun t =>
      get (Reg.DCH.CRC_CNT_EXHAUSTED ch) t = oneMore (Reg.DCH.CRC_CNT_EXHAUSTED ch) s ∧
      get (Reg.EVT_STS (0x20 + ch) 2) t = 1 ∧ Raised (128 + ch) s t := by
  obtain ⟨-, hkx, hke, hne, hrx, hre, hcard⟩ := crc_keys ch
  obtain ⟨hmx, hme, hmc⟩ := mode_keys ⟨rankOfLine line s / 4, by omega⟩ ch
  have hlt : 128 + ch.val < 384 := by omega
  have hshown : Changes [.dram] [Reg.DCH.CRC_CNT_EXHAUSTED ch, Reg.EVT_STS (0x20 + ch) 2] s
      (crcExhausted line ch e (begun s)) :=
    ((((Changes.begin _ _ s).trans ((changes_requeueWrite _ _ _ _).widen (fun _ h => h) (by simp))).inc _
        (by simp)).event
      _ _ (by simp))
  have hx : get (Reg.DCH.CRC_CNT_EXHAUSTED ch) (crcExhausted line ch e (begun s)) =
      oneMore (Reg.DCH.CRC_CNT_EXHAUSTED ch) s := by
    refine (get_set_other _ _ hne).trans ((get_inc_same _ _).trans ?_)
    rw [(changes_requeueWrite _ _ _ _).regs _ (by simp) hkx]
    rfl
  have hv : get (Reg.EVT_STS (0x20 + ch) 2) (crcExhausted line ch e (begun s)) = 1 := get_set_same _ _ _
  have heff : ∃ m, crcError ch sub line (begun s) = startRetrain (rankOfLine line s) true
      (raiseSimple (128 + ch) 2 ch m 0 (crcExhausted line ch e (begun s))) := by
    refine ⟨get (Reg.DCH.STS_MODE ch) (begun s), ?_⟩
    unfold crcError
    rw [show (begun s).dram.writes.find? _ = some e from he]
    exact if_neg (by omega)
  obtain ⟨m, heff⟩ := heff
  generalize crcExhausted line ch e (begun s) = u at *
  have hsource := hshown.source hlt hcard
  have hraise := changes_raiseSimple (hsource.fresh hf).2 2 ch m 0
  have hraised : Raised (128 + ch) s (raiseSimple (128 + ch) 2 ch m 0 u) := by
    refine hsource.raised (raised_raiseSimple (hsource.fresh hf) ?_ hlt _ _ _ _)
    simp only [srcReserved, Bool.or_eq_false_iff, Bool.and_eq_false_iff, decide_eq_false_iff_not]
    omega
  generalize raiseSimple (128 + ch) 2 ch m 0 u = v at *
  have hretrain := changes_startRetrain (rankOfLine line s) true v
  refine .leaves hs (f := fun s => if channelRuns ch s then crcError ch sub line s else s) rfl
    ((if_pos (show channelRuns ch (begun s) = true from hr)).trans heff)
    (hretrain.reqs.trans (hraise.reqs.trans (hshown.reqs.trans hs.2))) fun t k => ⟨k.stored hkx ?_, k.stored hke ?_, ?_⟩
  · rw [hretrain.regs _ (fun h => hmx (List.mem_singleton.1 h)) hkx, hraise.regs _ hrx hkx, hx]
  · rw [hretrain.regs _ (fun h => hme (List.mem_singleton.1 h)) hke, hraise.regs _ hre hke, hv]
  · exact (SameSource.settle hlt k).stays ((hretrain.source hlt fun f hf h => hmc f hf (List.mem_singleton.1 h)).stays
      hraised)

end

end

/-! ### The operations of a die -/

/-- Only the operations of dies and what is sent differ. -/
def DieOpsOnly (s t : State) : Prop := ∃ l o, t = { s with nand := { s.nand with dieOps := l }, out := o }

theorem DieOpsOnly.refl (s : State) : DieOpsOnly s s := ⟨_, _, rfl⟩

theorem DieOpsOnly.changes {s t : State} (h : DieOpsOnly s t) : Changes [.nand] [] s t := by
  obtain ⟨l, o, rfl⟩ := h
  exact ((Changes.refl [.nand] [] s).in_nand { s.nand with dieOps := l } (by simp)).out o

theorem queueOp_dieOps (ch die : Nat) (op : DieOp) (s : State) : DieOpsOnly s (queueOp ch die op s) := by
  unfold queueOp
  split <;> exact ⟨_, _, rfl⟩

theorem endOp_dieOps (ch die : Nat) (kind : DieOpKind) (what : Nat) (s : State) :
    DieOpsOnly s (endOp ch die kind what s) := by
  unfold endOp
  split
  · exact .refl s
  · split
    · split <;> exact ⟨_, _, rfl⟩
    · exact ⟨_, _, rfl⟩

theorem urgentRead_dieOps (g : Nat) (s : State) : DieOpsOnly s (urgentRead g s) := by
  unfold urgentRead
  split
  · exact queueOp_dieOps _ _ _ _
  · exact .refl s

theorem urgentEnds_dieOps (g : Nat) (s : State) : DieOpsOnly s (urgentEnds g s) := by
  unfold urgentEnds
  split
  · exact endOp_dieOps _ _ _ _ _
  · exact .refl s

/-! ### A poisoned line (R166) -/

/-- The fields that the loss of a granule may change. -/
def lossFields : List Fld :=
  [Reg.MRV.LOST_COUNT, Reg.MRV.HELD_COUNT, Reg.MRV.TWIN_DIRTY_COUNT, Reg.MRV.GROUPS_SET, Reg.MRV.DIRTY_COUNT] ++
    recordFields 0

theorem changes_follow {f : Fld} {fs : List Fld} (hf : f ∈ fs) (before after : Bool) (s : State) :
    Changes [.mrv] fs s (follow f before after s) :=
  .branch _ (.refl _ _ s) (.branch _ ((Changes.refl _ _ s).set _ _ (List.mem_map_of_mem hf))
    ((Changes.refl _ _ s).set _ _ (List.mem_map_of_mem hf)))

theorem changes_placeEntry (g : Nat) (e : Entry) (s : State) :
    Changes [.mrv] [Reg.MRV.LOST_COUNT, Reg.MRV.HELD_COUNT, Reg.MRV.TWIN_DIRTY_COUNT, Reg.MRV.GROUPS_SET] s
      (placeEntry g e s) := by
  have hput := (Changes.refl [.mrv]
    [Reg.MRV.LOST_COUNT, Reg.MRV.HELD_COUNT, Reg.MRV.TWIN_DIRTY_COUNT, Reg.MRV.GROUPS_SET] s).in_mrv
      { s.mrv with entries := put {} s.mrv.entries g e } (by simp)
  exact ((((hput.trans (changes_follow (by simp) _ _ _)).trans (changes_follow (by simp) _ _ _)).trans
    (changes_follow (by simp) _ _ _)).in_mrv _ (by simp)).set _ _ (by simp)

theorem changes_putEntry (g : Nat) (e : Entry) (s : State) :
    Changes [.mrv] [Reg.MRV.LOST_COUNT, Reg.MRV.HELD_COUNT, Reg.MRV.TWIN_DIRTY_COUNT, Reg.MRV.GROUPS_SET,
      Reg.MRV.DIRTY_COUNT] s (putEntry g e s) := by
  have hcount := ((changes_placeEntry g e s).widen (gs := [Reg.MRV.LOST_COUNT, Reg.MRV.HELD_COUNT,
    Reg.MRV.TWIN_DIRTY_COUNT, Reg.MRV.GROUPS_SET, Reg.MRV.DIRTY_COUNT]) (fun _ h => h) (by simp)).trans
      (changes_follow (f := Reg.MRV.DIRTY_COUNT) (by simp) ((entryOf g s).state != .clean) (e.state != .clean) _)
  exact .branch _ hcount (hcount.in_mrv _ (by simp))

theorem changes_markLost (g cause : Nat) (s : State) : Changes [.mrv, .gq] lossFields s (markLost g cause s) :=
  .branch _ (.refl _ _ s) (((changes_putEntry _ _ _).widen (by simp) (List.subset_append_left _ _)).pushRecord
    (by decide) (by simp) (fun _ h => List.mem_append_right _ h) _)

/-- What is told of a line that is poisoned, before its source is raised. -/
def poisonTold (line finder : Nat) (s : State) : State :=
  s |> when (entryInUse (granuleOf line s) s) (markLost (granuleOf line s) 1)
    |> linePoisonedRecord line finder |> logEvent 1 [line]

/-- The fields of the last uncorrectable line. -/
def lastUeFields : List Fld := [Reg.SPR.LAST_UE_LO_ADDR, Reg.SPR.LAST_UE_HI_ADDR, Reg.SPR.LAST_UE_HI_FINDER]

/-- The line is counted and latched as poisoned. -/
def poisonCounted (line finder : Nat) (s : State) : State :=
  s |> inc Reg.SPR.POISONED_COUNT |> event 0x11 3 |> lastUe line finder

theorem poisonLine_eq (line finder : Nat) (s : State) : poisonLine line finder s =
    rankUncorrectable line (raiseSimple 189 0 0 line finder
      (poisonCounted line finder (poisonTold line finder (addPoison line s)))) := rfl

theorem changes_poisonTold (line finder : Nat) (s : State) :
    Changes [.hp, .mrv, .gq] lossFields s (poisonTold line finder s) := by
  have hlost : Changes [.hp, .mrv, .gq] lossFields s
      (when (entryInUse (granuleOf line s) s) (markLost (granuleOf line s) 1) s) :=
    (Changes.refl _ _ s).cond _ _ fun u h => h.trans ((changes_markLost _ _ _).widen (by simp) fun _ h => h)
  exact (hlost.pushRecord (by decide) (by simp) (fun _ h => List.mem_append_right _ h) _).in_hp _ (by simp)

theorem changes_poisonCounted (line finder : Nat) (s : State) :
    Changes [] ([Reg.SPR.POISONED_COUNT, Reg.EVT_STS 0x11 3] ++ lastUeFields) s (poisonCounted line finder s) :=
  (((((Changes.refl _ _ s).inc _ (by simp)).event _ _ (by simp)).set _ _ (by simp [lastUeFields])).set _ _
    (by simp [lastUeFields])).set _ _ (by simp [lastUeFields])

theorem poisonTold_stalled (line finder : Nat) (s : State) :
    (poisonTold line finder s).hp.stalled = s.hp.stalled := by
  have hlost : Changes [.mrv, .gq] lossFields s
      (when (entryInUse (granuleOf line s) s) (markLost (granuleOf line s) 1) s) :=
    (Changes.refl _ _ s).cond _ _ fun u h => h.trans (changes_markLost _ _ _)
  exact (hlost.pushRecord (by decide) (by simp) (fun _ h => List.mem_append_right _ h) _).ports (by simp) (·.stalled)
    fun _ => rfl

theorem poisonCounted_count (line finder : Nat) (s : State) :
    get Reg.SPR.POISONED_COUNT (poisonCounted line finder s) = oneMore Reg.SPR.POISONED_COUNT s :=
  (get_set_other _ _ (by decide)).trans ((get_set_other _ _ (by decide)).trans ((get_set_other _ _ (by decide)).trans
    ((get_set_other _ _ (by decide)).trans (get_inc_same _ _))))

/-- The keys of the poisoning of a line. -/
theorem poison_keys : Reg.SPR.POISONED_COUNT.key ∉ lossFields.map Fld.key ∧
    Reg.SPR.POISONED_COUNT.key ∉ (Reg.EVT_STS 0x11 3 :: lastUeFields).map Fld.key ∧
    Reg.SPR.POISONED_COUNT.key ∉ (raiseFields 189).map Fld.key ∧ Reg.SPR.POISONED_COUNT.key ∉ settleKeys ∧
    (∀ f ∈ sourceCard 189, f.key ∉ lossFields.map Fld.key ∧
      f.key ∉ ([Reg.SPR.POISONED_COUNT, Reg.EVT_STS 0x11 3] ++ lastUeFields).map Fld.key) ∧
    (∀ f ∈ lossFields ++ ([Reg.SPR.POISONED_COUNT, Reg.EVT_STS 0x11 3] ++ lastUeFields) ++ raiseFields 189,
      placeKey f.key = false) := by
  decide +kernel

/-- The keys of a rank whose line is uncorrectable. -/
theorem rank_keys (i : Fin 64) : (Reg.SPR.RANK_STATE i).key ∉ settleKeys ∧
    (Reg.SPR.RANK_STATE i).key ∉ (lossFields ++ ([Reg.SPR.POISONED_COUNT, Reg.EVT_STS 0x11 3] ++ lastUeFields) ++
      raiseFields 189).map Fld.key ∧
    (Reg.SPR.RANK_STATE i).key ≠ (Reg.SPR.RANK_UE i).key ∧ Reg.SPR.POISONED_COUNT.key ≠ (Reg.SPR.RANK_UE i).key ∧
    (∀ f ∈ sourceCard 189, f.key ≠ (Reg.SPR.RANK_UE i).key) := by
  revert i
  decide +kernel

theorem rankUncorrectable_retired {line : Nat} {s : State} (hi : rankOfLine line s < 64)
    (h : get (Reg.SPR.RANK_STATE (rankOfLine line s)) s = 6) :
    rankUncorrectable line s = inc (Reg.SPR.RANK_UE (rankOfLine line s)) s := by
  obtain ⟨-, -, hne, -⟩ := rank_keys ⟨rankOfLine line s, hi⟩
  unfold rankUncorrectable retireRank
  dsimp only
  rw [get_inc_other _ hne, h, if_neg (by decide), if_pos (by simp)]

/-- A line of a retired rank that is poisoned. -/
theorem poisonLine_shown {line finder : Nat} {s : State} (hf : Fresh 189 s) (hi : rankOfLine line s < 64)
    (h6 : get (Reg.SPR.RANK_STATE (rankOfLine line s)) s = 6) :
    isPoisoned line (poisonLine line finder s) = true ∧
    (poisonLine line finder s).dram.repairs = s.dram.repairs ∧
    Raised 189 s (poisonLine line finder s) ∧
    get Reg.SPR.POISONED_COUNT (poisonLine line finder s) = oneMore Reg.SPR.POISONED_COUNT s ∧
    (poisonLine line finder s).reqs = s.reqs ∧ (poisonLine line finder s).hp.stalled = s.hp.stalled := by
  obtain ⟨hpl, hpc, hpr, hps, hcard, hplaces⟩ := poison_keys
  obtain ⟨hks, hkf, -, hpu, hsu⟩ := rank_keys ⟨rankOfLine line s, hi⟩
  have htold := changes_poisonTold line finder (addPoison line s)
  have hcounted := changes_poisonCounted line finder (poisonTold line finder (addPoison line s))
  have hu : Changes [.dram, .hp, .mrv, .gq] (lossFields ++ ([Reg.SPR.POISONED_COUNT, Reg.EVT_STS 0x11 3] ++
      lastUeFields))
      s (poisonCounted line finder (poisonTold line finder (addPoison line s))) :=
    (((Changes.refl [.dram, .hp, .mrv, .gq] _ s).in_dram { s.dram with poisoned := addNat s.dram.poisoned line }
      (by simp)).trans (htold.widen (by simp) (List.subset_append_left _ _))).trans
        (hcounted.widen (by simp) (List.subset_append_right _ _))
  have hdram : (poisonCounted line finder (poisonTold line finder (addPoison line s))).dram = (addPoison line s).dram :=
    (hcounted.dram (by simp)).trans (htold.dram (by simp))
  have hstalled : (poisonCounted line finder (poisonTold line finder (addPoison line s))).hp.stalled = s.hp.stalled :=
    (hcounted.ports (by simp) (·.stalled) fun _ => rfl).trans (poisonTold_stalled line finder (addPoison line s))
  have hcount : get Reg.SPR.POISONED_COUNT (poisonCounted line finder (poisonTold line finder (addPoison line s))) =
      oneMore Reg.SPR.POISONED_COUNT s := by
    rw [poisonCounted_count, oneMore, htold.regs _ hpl hps]
    rfl
  rw [poisonLine_eq]
  generalize poisonCounted line finder (poisonTold line finder (addPoison line s)) = u at *
  have hsource : SameSource 189 s u := hu.source (by decide) fun f hf => by
    rw [List.map_append, List.mem_append]
    exact not_or.2 (hcard f hf)
  have hraise := changes_raiseSimple (hsource.fresh hf).2 0 0 line finder
  have hraised : Raised 189 s (raiseSimple 189 0 0 line finder u) :=
    hsource.raised (raised_raiseSimple (hsource.fresh hf) (by decide) (by decide) _ _ _ _)
  generalize raiseSimple 189 0 0 line finder u = v at *
  have hv : Changes ([.dram, .hp, .mrv, .gq] ++ raiseParts)
      (lossFields ++ ([Reg.SPR.POISONED_COUNT, Reg.EVT_STS 0x11 3] ++ lastUeFields) ++ raiseFields 189) s v :=
    (hu.widen (List.subset_append_left _ _) (List.subset_append_left _ _)).trans
      (hraise.widen (List.subset_append_right _ _) (List.subset_append_right _ _))
  have hrank := (hv.place hplaces).rank line
  have hvdram : v.dram = (addPoison line s).dram := (hraise.dram (by decide)).trans hdram
  have hstate : get (Reg.SPR.RANK_STATE (rankOfLine line v)) v = 6 := by rw [hrank, hv.regs _ hkf hks, h6]
  rw [rankUncorrectable_retired (by rwa [hrank]) hstate, hrank]
  refine ⟨?_, (show v.dram.repairs = _ by rw [hvdram]; rfl), ?_, ?_, hv.reqs,
    (hraise.ports (by decide) (·.stalled) fun _ => rfl).trans hstalled⟩
  · show v.dram.poisoned.contains line = true
    rw [hvdram]
    exact contains_addNat _ _
  · exact (((Changes.refl [] [Reg.SPR.RANK_UE (rankOfLine line s)] v).inc _ (by simp)).source (by decide)
      fun f hf h => hsu f hf (List.mem_singleton.1 h)).stays hraised
  · rw [get_inc_other _ hpu, hraise.regs _ hpr hps, hcount]

/-! ### Repairs that the twin does not serve (R164, R165) -/

/-- The repair goes on to the sealed copy. -/
def sealedAsked (line : Nat) (r : Repair) (s : State) : State :=
  s |> dropRepair line |> addRepair { line := line, finder := r.finder, stage := .sealed, written := r.written }

/-- The sealed copy of a clean granule is asked for (R164). -/
theorem repairOnward_sealed {line : Nat} {r : Repair} {s : State} (hr : repairOf line s = some r)
    (hg : entryInUse (granuleOf line s) s = true) (hc : (entryOf (granuleOf line s) s).state = .clean)
    (hl : (entryOf (granuleOf line s) s).lost = false) (hmap : look s.nand.map (granuleOf line s) ≠ none)
    (hu : inUndo (64 * line) s = false) (hp : inSpill (64 * line) s = false) :
    repairOnward line r.finder s = urgentRead (granuleOf line s) (sealedAsked line r s) := by
  have hwritten : writtenSince line s = r.written := by
    unfold writtenSince
    rw [hr]
    rfl
  unfold repairOnward repairSealed
  rw [if_neg (by simp [hu, hp])]
  dsimp only
  rw [if_pos (by simp [hg, hc, hl]), if_neg (by simpa using hmap), hwritten]
  rfl

/-- The depths of every channel stand at one offset of their pages. -/
theorem beyond_depths {f : Fld} (h : f.key / 32 % 4096 ≠ 0x12C) (ch : Nat) : f.key ∉ (depths ch).map Fld.key := by
  simp only [depths, List.map_cons, List.map_nil, List.mem_cons, List.not_mem_nil, or_false, not_or]
  simp only [Fld.key, Reg.DCH.QDEPTH_RD0, Reg.DCH.QDEPTH_RD1, Reg.DCH.QDEPTH_WR0, Reg.DCH.QDEPTH_WR1] at h ⊢
  omega

theorem card_depths : ∀ f ∈ sourceCard 189, f.key / 32 % 4096 ≠ 0x12C := by decide +kernel

section
variable {s : State} (hs : Ready s) {line : Nat} (hst : s.hp.stalled = []) {r : Repair}
  (hr : repairOf line s = some r)
include hs hst hr

theorem completes_twinTimeout (htwin : r.stage = .twin) (hg : entryInUse (granuleOf line s) s = true)
    (hc : (entryOf (granuleOf line s) s).state = .clean) (hl : (entryOf (granuleOf line s) s).lost = false)
    (hmap : look s.nand.map (granuleOf line s) ≠ none) (hu : inUndo (64 * line) s = false)
    (hp : inSpill (64 * line) s = false) :
    Completes (.twinRepairTimeout line) s fun t =>
      repairOf line t = some { r with line := line, stage := .sealed } ∧ (∀ x, readByte x t = readByte x s) ∧
      Changes [.dram, .nand] [] s t := by
  have honward : repairOnward line r.finder (begun s) = urgentRead (granuleOf line s) (sealedAsked line r (begun s)) :=
    repairOnward_sealed (s := begun s) hr hg hc hl hmap hu hp
  have hops := (urgentRead_dieOps (granuleOf line s) (sealedAsked line r (begun s))).changes
  have hadd : Changes [.dram, .nand] [] s (sealedAsked line r (begun s)) :=
    ((Changes.begin _ _ s).in_dram _ (by simp)).in_dram _ (by simp)
  have hunder : repairOf line (sealedAsked line r (begun s)) = some { r with line := line, stage := .sealed } :=
    repairOf_addRepair (repairOf_dropRepair line (begun s)) rfl
  have hmem : (sealedAsked line r (begun s)).dram.mem = s.dram.mem := rfl
  have hst' : (sealedAsked line r (begun s)).hp.stalled = [] := hst
  generalize sealedAsked line r (begun s) = u at *
  have hall := hadd.trans (hops.widen (by simp) fun _ h => h)
  have heff : twinTimeout line (begun s) = urgentRead (granuleOf line s) u := by
    unfold twinTimeout
    rw [show repairOf line (begun s) = some r from hr]
    dsimp only
    rw [if_pos htwin, honward]
    exact retryStalled_none ((hops.ports (by simp) (·.stalled) fun _ => rfl).trans hst')
  have hdram := hops.dram (by simp)
  refine .leaves hs rfl heff (hall.reqs.trans hs.2) fun t k =>
    ⟨?_, k.bytes ((congrArg Dram.mem hdram).trans hmem), hall.ended k⟩
  unfold repairOf
  rw [k.dram, hdram]
  exact hunder

omit hs hst in
/-- The end of the read leaves the repair and the record. -/
theorem urgentEnds_shown : repairOf line (urgentEnds (granuleOf line s) s) = some r ∧
    sealedLine line (urgentEnds (granuleOf line s) s) = sealedLine line s := by
  obtain ⟨l, o, hl⟩ := urgentEnds_dieOps (granuleOf line s) s
  rw [hl]
  exact ⟨hr, rfl⟩

omit hs hst in
/-- A good sealed copy repairs the line (R165). -/
theorem sealedCopy_good (hsealed : r.stage = .sealed) {d : Line} (hd : sealedLine line s = some d)
    (hstu : (repaired line d false (urgentEnds (granuleOf line s) s)).hp.stalled = []) :
    sealedCopy line true s = repaired line d false (urgentEnds (granuleOf line s) s) := by
  obtain ⟨he, hl⟩ := urgentEnds_shown hr
  rw [hd] at hl
  unfold sealedCopy
  generalize urgentEnds (granuleOf line s) s = e at *
  dsimp only
  rw [he]
  dsimp only
  rw [if_pos hsealed, if_pos rfl, hl]
  exact retryStalled_none hstu

omit hs hst in
/-- A sealed copy that cannot be read repairs nothing (R166). -/
theorem sealedCopy_failed (hsealed : r.stage = .sealed)
    (hstu : (unrepaired line r.finder.code (urgentEnds (granuleOf line s) s)).hp.stalled = []) :
    sealedCopy line false s = unrepaired line r.finder.code (urgentEnds (granuleOf line s) s) := by
  obtain ⟨he, -⟩ := urgentEnds_shown hr
  unfold sealedCopy
  generalize urgentEnds (granuleOf line s) s = e at *
  dsimp only
  rw [he]
  dsimp only
  rw [if_pos hsealed]
  exact retryStalled_none hstu

theorem completes_sealedGood (hsealed : r.stage = .sealed) {d : Line} (hd : sealedLine line s = some d) :
    Completes (.sealedCopyFetchDone line true) s fun t =>
      (r.written = 0 → readLine line t = d) ∧ repairOf line t = none ∧
      (r.written = allBytes → ∀ x, readByte x t = readByte x s) ∧
      get Reg.SPR.REPAIR_SEALED t = oneMore Reg.SPR.REPAIR_SEALED s ∧
      (∀ x, Outside line x → readByte x t = readByte x s) ∧
      Changes [.hp, .dram, .nand] (Reg.SPR.REPAIR_SEALED :: depths (lineLoc line s).ch) s t := by
  have hops := urgentEnds_dieOps (granuleOf line s) (begun s)
  have he : Changes [.nand] [] s (urgentEnds (granuleOf line s) (begun s)) := (Changes.begin _ _ s).trans hops.changes
  have heff := sealedCopy_good (s := begun s) hr hsealed hd
  rw [show granuleOf line (begun s) = granuleOf line s from rfl] at heff
  generalize urgentEnds (granuleOf line s) (begun s) = e at *
  have hinc : Changes [.nand] [Reg.SPR.REPAIR_SEALED] s (inc Reg.SPR.REPAIR_SEALED e) :=
    (he.widen (fun _ h => h) (by simp)).inc _ (by simp)
  have hcount : get Reg.SPR.REPAIR_SEALED (inc Reg.SPR.REPAIR_SEALED e) = oneMore Reg.SPR.REPAIR_SEALED s := by
    rw [get_inc_same, he.regs Reg.SPR.REPAIR_SEALED (by simp) (by decide)]
  have hdefn : repaired line d false e = placeRepair line d (inc Reg.SPR.REPAIR_SEALED e) := rfl
  rw [hdefn] at heff
  generalize inc Reg.SPR.REPAIR_SEALED e = u at *
  have hdram := hinc.dram (by simp)
  have hsince : writtenSince line u = r.written := by
    unfold writtenSince repairOf
    rw [hdram, show s.dram.repairs.find? (·.line == line) = some r from hr]
    rfl
  have hcp := changes_placeRepair line d u
  rw [(hinc.place (by decide)).loc] at hcp
  obtain ⟨hnone, hbase, hwhole, hrest⟩ := placeRepair_shown line d u
  have hstalled := (placeRepair_stalled line d u).trans ((hinc.ports (by simp) (·.stalled) fun _ => rfl).trans hst)
  have hall := (hinc.widen (qs := [.hp, .dram, .nand]) (by simp)
      (by simp : _ ⊆ Reg.SPR.REPAIR_SEALED :: depths (lineLoc line s).ch)).trans
    (hcp.widen (by simp) (List.subset_cons_self _ _))
  rw [hsince] at hbase hwhole
  refine .leaves hs rfl (heff hstalled) (hall.reqs.trans hs.2) fun t k =>
    ⟨fun h => ?_, ?_, fun h x => ?_, ?_, fun x hx => ?_, hall.ended k⟩
  · rw [readLine_congr line (congrArg Dram.mem k.dram), (hbase h).1]
  · unfold repairOf
    rw [k.dram]
    exact hnone
  · rw [k.bytes rfl, hwhole h x, readByte_congr x (congrArg Dram.mem hdram)]
  · rw [k.get _ (by decide), hcp.regs Reg.SPR.REPAIR_SEALED (beyond_depths (by decide) _) (by decide), hcount]
  · rw [k.bytes rfl, hrest x hx, readByte_congr x (congrArg Dram.mem hdram)]

theorem completes_sealedFailed (hsealed : r.stage = .sealed) (hw : r.written ≠ allBytes)
    (hq : spillQueue line s = none) (hf : Fresh 189 s) (hi : rankOfLine line s < 64)
    (h6 : get (Reg.SPR.RANK_STATE (rankOfLine line s)) s = 6) :
    Completes (.sealedCopyFetchDone line false) s fun t =>
      isPoisoned line t = true ∧ repairOf line t = none ∧ Raised 189 s t ∧
      get Reg.SPR.POISONED_COUNT t = oneMore Reg.SPR.POISONED_COUNT s := by
  obtain ⟨-, -, -, hps, -⟩ := poison_keys
  have hops := urgentEnds_dieOps (granuleOf line s) (begun s)
  have he : Changes [.nand] [] s (urgentEnds (granuleOf line s) (begun s)) := (Changes.begin _ _ s).trans hops.changes
  have heff := sealedCopy_failed (s := begun s) hr hsealed
  rw [show granuleOf line (begun s) = granuleOf line s from rfl] at heff
  generalize urgentEnds (granuleOf line s) (begun s) = e at *
  have hwritten : writtenSince line e = r.written := by
    unfold writtenSince repairOf
    rw [he.dram (by simp), show s.dram.repairs.find? (·.line == line) = some r from hr]
    rfl
  have hd : Changes [.dram, .nand] [] s (dropRepair line e) := (he.widen (by simp) fun _ h => h).in_dram _ (by simp)
  have hplace := hd.place (by simp)
  have hsource : SameSource 189 s (dropRepair line e) := hd.source (by decide) (by simp)
  obtain ⟨hpo, hrep, hraised, hcount, hreqs, hstalled⟩ := poisonLine_shown (line := line) (finder := r.finder.code)
    (hsource.fresh hf) (by rwa [hplace.rank]) (by
      obtain ⟨hks, -⟩ := rank_keys ⟨rankOfLine line s, hi⟩
      rw [hplace.rank, hd.regs _ (by simp) hks, h6])
  have heq : unrepaired line r.finder.code e = lineEnded line (poisonLine line r.finder.code (dropRepair line e)) := by
    unfold unrepaired
    dsimp only
    rw [hwritten, show spillQueue line (dropRepair line e) = none from (hplace.spillQueue line).trans hq,
      if_neg (by simpa using hw)]
    rfl
  have hstd : (dropRepair line e).hp.stalled = [] := (hd.ports (by simp) (·.stalled) fun _ => rfl).trans hst
  have hnone : (dropRepair line e).dram.repairs.find? (·.line == line) = none := repairOf_dropRepair line e
  have hcount0 : oneMore Reg.SPR.POISONED_COUNT (dropRepair line e) = oneMore Reg.SPR.POISONED_COUNT s := by
    rw [oneMore, hd.regs _ (by simp) hps]
  have hraised0 := hsource.raised hraised
  rw [heq] at heff
  have hdr := hd.reqs
  generalize dropRepair line e = w at *
  generalize poisonLine line r.finder.code w = v at *
  have hend := changes_lineEnded line v
  obtain ⟨-, hpoisoned, hrepairs, -⟩ := lineEnded_shown line v
  refine .leaves hs rfl (heff ((lineEnded_stalled line v).trans (hstalled.trans hstd)))
    (hend.reqs.trans (hreqs.trans (hdr.trans hs.2))) fun t k => ⟨?_, ?_, ?_, k.stored hps ?_⟩
  · rw [isPoisoned, k.dram, hpoisoned]
    exact hpo
  · unfold repairOf
    rw [k.dram, hrepairs, hrep, hnone]
  · exact (SameSource.settle (by decide) k).stays ((hend.source (by decide) fun f hf => beyond_depths
      (card_depths f hf) _).stays hraised0)
  · rw [hend.regs _ (beyond_depths (by decide) _) hps, hcount, hcount0]

end

/-- Settles O22. -/
theorem dramErrorCommands : Obligations.DramErrorCommands := by
  unfold Obligations.DramErrorCommands
  intro s hs line hst
  exact ⟨fun ch sub e hr he => completes_crcRetry hs hr he, fun ch sub e hr he => completes_crcExhausted hs hr he,
    fun r hr htwin => completes_twinTimeout hs hst hr htwin, fun r d hr hsealed => completes_sealedGood hs hst hr
        hsealed,
    fun r hr hsealed hw hq hf => completes_sealedFailed hs hst hr hsealed hw hq hf⟩

end Sys2Proof.Machine
end

section
/-! SUPPORT. The credits of pools (R41), the state of a rank, and migrations (R170 to R172). -/

namespace Sys2Proof.Machine
set_option Elab.async false

/-! ### Credits (R41) -/

theorem changes_setPool (a : Nat) (f : Pool → Pool) (s : State) : Changes [.pools] [] s (setPool a f s) :=
  (Changes.refl _ _ s).in_pools _ (by simp)

/-- A pool that a request found without a credit shows it. -/
theorem stallOn_seen (a : Nat) (s : State) : (poolOf a (stallOn a s)).stallSeen = true := by
  have haddr : (poolOf a s).addr = a := by
    unfold poolOf
    cases h : s.pools.find? (fun q => q.addr == a) with
    | none => rfl
    | some q => simpa using List.find?_some h
  show ((List.find? (fun q : Pool => q.addr == a) (s.pools.filter (fun q => q.addr != a) ++
    [{ poolOf a s with stallSeen := true }])).getD { addr := a }).stallSeen = true
  rw [List.find?_append, List.find?_eq_none.2 fun q hq => by simpa using (List.mem_filter.1 hq).2]
  simp [haddr]

/-! ### The corrected-error window (R170) -/

/-- A step that gives a field its value, among steps that leave the field. -/
theorem get_forEach_of_mem {f : Fld} {v : Nat} (g : Nat → State → State) {i : Nat} (hsame : ∀ u, get f (g i u) = v)
    (hother : ∀ j, j ≠ i → ∀ u, get f (g j u) = get f u) {l : List Nat} (hi : i ∈ l) (s : State) :
    get f (forEach l g s) = v := by
  induction l generalizing s with
  | nil => simp at hi
  | cons j l ih =>
    rw [forEach_cons]
    rcases List.mem_cons.1 hi with rfl | hl
    · refine forEach_keeps (fun u => get f u = v) l _ _ (hsame s) fun k _ u hu => ?_
      by_cases hk : k = i
      · rw [hk, hsame]
      · rw [hother k hk, hu]
    · exact ih hl _

theorem windows_cleared (i : Nat) (hi : i < 64) (s : State) :
    get (Reg.SPR.RANK_CE_WIN i) (forEach (List.range 64) (fun i => set (Reg.SPR.RANK_CE_WIN i) 0) s) = 0 := by
  have hsame : ∀ u, get (Reg.SPR.RANK_CE_WIN i) (set (Reg.SPR.RANK_CE_WIN i) 0 u) = 0 := fun u => get_set_same _ _ u
  refine get_forEach_of_mem (fun i => set (Reg.SPR.RANK_CE_WIN i) 0) hsame
    (fun j hj u => get_set_other _ _ fun h => hj ?_) (List.mem_range.2 hi) s
  simp only [Fld.key, Reg.SPR.RANK_CE_WIN] at h
  omega

theorem completes_ceWindow {s : State} (hs : Ready s) (h : now s % 2 ^ 20 = 0) :
    Completes .ceWindowStart s fun t =>
      (∀ i < 64, get (Reg.SPR.RANK_CE_WIN i) t = 0) ∧
      Changes [] ((List.range 64).map Reg.SPR.RANK_CE_WIN) s t := by
  have hc : Changes [] ((List.range 64).map Reg.SPR.RANK_CE_WIN) s
      (forEach (List.range 64) (fun i => set (Reg.SPR.RANK_CE_WIN i) 0) (begun s)) :=
    (Changes.begin _ _ s).each _ _ fun i hi u hu => hu.set _ _ (List.mem_map_of_mem (List.mem_map_of_mem hi))
  refine .leaves hs (f := fun s => if now s % 2 ^ 20 = 0 then
    forEach (List.range 64) (fun i => set (Reg.SPR.RANK_CE_WIN i) 0) s else s) rfl
    (if_pos (show now (begun s) % 2 ^ 20 = 0 from h)) (hc.reqs.trans hs.2) fun t k =>
    ⟨fun i hi => k.stored (read_keys ⟨i, hi⟩).1 ?_, hc.ended k⟩
  exact windows_cleared i hi _

/-! ### The copy of a line (R171) -/

theorem changes_etaShow (s : State) : Changes [] [Reg.SPR.MIG_ETA_FRAMES] s (etaShow s) :=
  (Changes.refl _ _ s).set _ _ (by simp)

section
variable {s : State} (hs : Ready s) {line : Nat}
include hs

theorem completes_copyStalled {err : LineErrors} {spareBad : Bool} (hr : copyReady line s = true)
    (hn : creditFor (poolAddr 0x11 0x118) false s = false) :
    Completes (.migrationCopy line err spareBad) s fun t =>
      (poolOf (poolAddr 0x11 0x118) t).stallSeen = true ∧ Changes [.pools] [] s t := by
  have heff : copyLine line err spareBad (begun s) = stallOn (poolAddr 0x11 0x118) (begun s) := by
    unfold copyLine
    rw [if_neg (by rw [show copyReady line (begun s) = true from hr]; decide)]
    exact withCredit_none (s := begun s) hn _
  refine .leaves hs rfl heff hs.2 fun t k => ⟨?_, ((Changes.begin _ _ s).in_pools _ (by simp)).ended k⟩
  rw [poolOf, k.pools]
  exact stallOn_seen _ _

/-- A good line at the pointer moves it on. -/
theorem completes_copyGood (hr : copyReady line s = true) (hnone : repairOf line s = none)
    (h1 : creditFor (poolAddr 0x11 0x118) false s = true)
    (h2 : creditFor (poolAddr (0x20 + (lineLoc line s).ch) 0x124) false s = true) :
    Completes (.migrationCopy line {} false) s fun t =>
      get Reg.SPR.MIG_PTR_INDEX t = (get Reg.SPR.MIG_PTR_INDEX s + 1) % 2 ^ 32 ∧ (∀ x, readByte x t = readByte x s) ∧
      Changes [.hp, .dram] ([Reg.SPR.MIG_PTR_INDEX, Reg.SPR.MIG_ETA_FRAMES] ++ depths (lineLoc line s).ch) s t := by
  obtain ⟨hmem, -, hrep, -, -⟩ := lineEnded_shown line (begun s)
  have hend := (Changes.begin _ _ s).trans (changes_lineEnded line (begun s))
  have heff : copyLine line {} false (begun s) = etaShow (set Reg.SPR.MIG_PTR_INDEX
      (get Reg.SPR.MIG_PTR_INDEX (lineEnded line (begun s)) + 1) (lineEnded line (begun s))) := by
    unfold copyLine
    rw [if_neg (by rw [show copyReady line (begun s) = true from hr]; decide), withCredit_of (s := begun s) h1,
      withCredit_of (show creditFor (poolAddr (0x20 + (lineLoc line (begun s)).ch) 0x124) false
          (begun s) = true from h2)]
    unfold moveLine
    rw [lineRead_good (s := begun s) rfl]
    dsimp only
    rw [if_neg]
    · rfl
    · rw [repairOf, hrep, show (begun s).dram.repairs.find? (·.line == line) = none from hnone]
      decide
  have hptr : get Reg.SPR.MIG_PTR_INDEX (lineEnded line (begun s)) = get Reg.SPR.MIG_PTR_INDEX s :=
    hend.regs _ (beyond_depths (by decide) _) (by decide)
  rw [hptr] at heff
  generalize lineEnded line (begun s) = u at *
  have hall : Changes [.hp, .dram] ([Reg.SPR.MIG_PTR_INDEX, Reg.SPR.MIG_ETA_FRAMES] ++ depths (lineLoc line s).ch) s
      (etaShow (set Reg.SPR.MIG_PTR_INDEX (get Reg.SPR.MIG_PTR_INDEX s + 1) u)) :=
    ((hend.widen (fun _ h => h) (List.subset_append_right _ _)).set _ _ (by simp)).set _ _ (by simp)
  exact .leaves hs rfl heff (hall.reqs.trans hs.2) fun t k =>
    ⟨k.stored (by decide) ((get_set_other _ _ (by decide)).trans (get_set_same _ _ _)), k.bytes hmem, hall.ended k⟩

end

/-! ### The state of a rank -/

theorem changes_setRank (i st : Nat) (s : State) :
    Changes [.upd, .gq] (Reg.SPR.RANK_STATE i :: recordFields 0) s (setRank i st s) :=
  .branch _ (.refl _ _ s) ((((Changes.refl _ _ s).in_upd _ (by simp)).set _ _ (by simp)).pushRecord (by decide)
      (by simp)
    (by simp +contextual) _)

/-- No record into GQ0 shows the state of a rank. -/
theorem rank_record (i : Fin 64) : (Reg.SPR.RANK_STATE i).key ∉ (recordFields 0).map Fld.key ∧
    (Reg.SPR.RANK_STATE i).key ∉ settleKeys := by
  revert i
  decide +kernel

theorem get_setRank_same (i : Fin 64) {st : Nat} (hst : st < 8) (s : State) :
    get (Reg.SPR.RANK_STATE i) (setRank i st s) = st := by
  obtain ⟨hk, hset⟩ := rank_record i
  unfold setRank
  split
  · assumption
  · refine (((Changes.refl [.gq] (recordFields 0) _).pushRecord (by decide) (by simp) (fun _ h => h) _).regs _ hk
      hset).trans ((get_set_same _ _ _).trans (Nat.mod_eq_of_lt hst))

theorem get_setRank_other (i : Fin 64) {j : Nat} (hj : j ≠ i) (st : Nat) (s : State) :
    get (Reg.SPR.RANK_STATE i) (setRank j st s) = get (Reg.SPR.RANK_STATE i) s := by
  obtain ⟨hk, hset⟩ := rank_record i
  refine (changes_setRank j st s).regs _ ?_ hset
  rw [List.map_cons, List.mem_cons, not_or]
  refine ⟨fun h => hj ?_, hk⟩
  simp only [Fld.key, Reg.SPR.RANK_STATE] at h
  omega

theorem changes_ranksShow (s : State) : Changes [] ((List.range 16).map Reg.DCH.STS_RANKS) s (ranksShow s) :=
  (Changes.refl _ _ s).each _ _ fun _ hch _ hu => hu.set _ _ (List.mem_map_of_mem (List.mem_map_of_mem hch))

/-- The last line is copied: the spare takes the place of the rank. -/
def migrated (src i : Nat) (s : State) : State :=
  s |> set Reg.SPR.MIG_STS_ACTIVE 0 |> set Reg.SPR.MIG_ETA_FRAMES 0 |> setRank src 6 |> setRank i 1 |> event 0x11 2
    |> ranksShow

theorem migrationDone_eq {s : State} (ha : isSet Reg.SPR.MIG_STS_ACTIVE s = true)
    (hp : rankLines s ≤ get Reg.SPR.MIG_PTR_INDEX s)
    (hi : spareIndex (get Reg.SPR.MIG_STS_DST s) s ∉ s.dram.retireAfter) : ∃ d, migrationDone s =
      { migrated (get Reg.SPR.MIG_STS_SRC s) (spareIndex (get Reg.SPR.MIG_STS_DST s) s) s with dram := d } := by
  unfold migrationDone
  rw [if_pos (by simp [ha, hp])]
  dsimp only
  rw [show s.dram.retireAfter.contains (spareIndex (get Reg.SPR.MIG_STS_DST s) s) = false by simpa using hi]
  exact ⟨_, rfl⟩

/-- The keys of a migration's end. -/
theorem migrated_keys (i : Fin 64) : (Reg.SPR.RANK_STATE i).key ∉ ((List.range 16).map Reg.DCH.STS_RANKS).map Fld.key ∧
    (Reg.SPR.RANK_STATE i).key ≠ (Reg.EVT_STS 0x11 2).key ∧
    Reg.SPR.MIG_STS_ACTIVE.key ∉ (Reg.SPR.RANK_STATE i :: recordFields 0).map Fld.key := by
  revert i
  decide +kernel

theorem migrated_shown (src i : Fin 64) (hne : i ≠ src) (s : State) :
    get Reg.SPR.MIG_STS_ACTIVE (migrated src i s) = 0 ∧ get (Reg.SPR.RANK_STATE i) (migrated src i s) = 1 ∧
    get (Reg.SPR.RANK_STATE src) (migrated src i s) = 6 ∧ get (Reg.EVT_STS 0x11 2) (migrated src i s) = 1 ∧
    (migrated src i s).reqs = s.reqs := by
  obtain ⟨hri, hei, hai⟩ := migrated_keys i
  obtain ⟨hrs, hes, has⟩ := migrated_keys src
  have hranks := changes_ranksShow (event 0x11 2 (setRank i 1 (setRank src 6 (set Reg.SPR.MIG_ETA_FRAMES 0
    (set Reg.SPR.MIG_STS_ACTIVE 0 s)))))
  have hsrc := changes_setRank src 6 (set Reg.SPR.MIG_ETA_FRAMES 0 (set Reg.SPR.MIG_STS_ACTIVE 0 s))
  have hdst := changes_setRank i 1 (setRank src 6 (set Reg.SPR.MIG_ETA_FRAMES 0 (set Reg.SPR.MIG_STS_ACTIVE 0 s)))
  refine ⟨?_, ?_, ?_, ?_, ?_⟩
  · refine (hranks.regs _ (by decide) (by decide)).trans ((get_set_other _ _ (by decide)).trans ?_)
    rw [hdst.regs _ hai (by decide), hsrc.regs _ has (by decide)]
    exact (get_set_other _ _ (by decide)).trans (get_set_same _ _ _)
  · exact (hranks.regs _ hri (rank_record i).2).trans ((get_set_other _ _ hei).trans (get_setRank_same i (by decide) _))
  · refine (hranks.regs _ hrs (rank_record src).2).trans ((get_set_other _ _ hes).trans ?_)
    rw [get_setRank_other src (fun h => hne (Fin.ext h)), get_setRank_same src (by decide)]
  · exact (hranks.regs _ (by decide) (by decide)).trans (get_set_same _ _ _)
  · exact hranks.reqs.trans (hdst.reqs.trans hsrc.reqs)

theorem completes_migDone {s : State} (hs : Ready s) (ha : isSet Reg.SPR.MIG_STS_ACTIVE s = true)
    (hp : rankLines s ≤ get Reg.SPR.MIG_PTR_INDEX s) (hi : spareIndex (get Reg.SPR.MIG_STS_DST s) s < 64)
    (hsrc : get Reg.SPR.MIG_STS_SRC s < 64) (hne : spareIndex (get Reg.SPR.MIG_STS_DST s) s ≠ get Reg.SPR.MIG_STS_SRC s)
    (hr : spareIndex (get Reg.SPR.MIG_STS_DST s) s ∉ s.dram.retireAfter) :
    Completes .migDone s fun t =>
      get Reg.SPR.MIG_STS_ACTIVE t = 0 ∧ get (Reg.SPR.RANK_STATE (spareIndex (get Reg.SPR.MIG_STS_DST s) s)) t = 1 ∧
      get (Reg.SPR.RANK_STATE (get Reg.SPR.MIG_STS_SRC s)) t = 6 ∧ get (Reg.EVT_STS 0x11 2) t = 1 := by
  obtain ⟨d, heff⟩ := migrationDone_eq (s := begun s) ha hp hr
  obtain ⟨hactive, hdst, hold, hevent, hreqs⟩ := migrated_shown ⟨_, hsrc⟩ ⟨_, hi⟩ (fun h => hne (Fin.mk.inj h))
      (begun s)
  have hkd := (rank_record ⟨_, hi⟩).2
  have hks := (rank_record ⟨_, hsrc⟩).2
  change migrationDone (begun s) = { migrated (get Reg.SPR.MIG_STS_SRC s) (spareIndex (get Reg.SPR.MIG_STS_DST s) s)
    (begun s) with dram := d } at heff
  dsimp only at hdst hold hkd hks
  generalize spareIndex (get Reg.SPR.MIG_STS_DST s) s = i at *
  generalize get Reg.SPR.MIG_STS_SRC s = src at *
  generalize migrated src i (begun s) = u at *
  exact .leaves hs rfl heff (hreqs.trans hs.2) fun t k =>
    ⟨k.stored (by decide) hactive, k.stored hkd hdst, k.stored hks hold, k.stored (by decide) hevent⟩

/-- Settles O23. -/
theorem sparingCommands : Obligations.SparingCommands := by
  unfold Obligations.SparingCommands
  intro s hs
  refine ⟨completes_ceWindow hs, fun line h1 h2 h3 h4 h5 h6 hnone => ?_, fun line err bad => completes_copyStalled hs,
    fun ha hp hi hsrc hne hr => completes_migDone hs ha hp hi hsrc hne hr⟩
  refine completes_copyGood hs ?_ hnone
  simp [copyReady, h1, h2, h3, h4, h5, h6, hnone]

end Sys2Proof.Machine
end

section
/-! SUPPORT. The initial training of DRAM (R154, R158, R159). -/

namespace Sys2Proof.Machine
set_option Elab.async false

/-! ### What training keeps -/

/-- The sources that training may raise. -/
def trainSources : List Nat := 238 :: (List.range 16).map (128 + ·)

/-- The fields that are watched, with what the sources of training are set to. -/
def watched (fs : List Fld) : List Fld :=
  fs ++ trainSources.flatMap fun n => [Reg.FLS.SRC_CFG_SEV n, Reg.FLS.SRC_CFG_ACT n]

/-- A step of training that leaves the fields listed, the calm of its sources, and the memory. -/
structure Steady (fs : List Fld) (s t : State) : Prop where
  fields : ∀ f ∈ fs, get f t = get f s
  calm : ∀ n ∈ trainSources, Calm n s → Calm n t
  trained : t.dram.trained = s.dram.trained
  mem : t.dram.mem = s.dram.mem
  reqs : t.reqs = s.reqs

section
variable {fs : List Fld} {s t u : State}

theorem Steady.refl (fs : List Fld) (s : State) : Steady fs s s := ⟨fun _ _ => rfl, fun _ _ h => h, rfl, rfl, rfl⟩

theorem Steady.trans (h : Steady fs s t) (k : Steady fs t u) : Steady fs s u :=
  ⟨fun f hf => (k.fields f hf).trans (h.fields f hf), fun n hn hc => k.calm n hn (h.calm n hn hc),
    k.trained.trans h.trained, k.mem.trans h.mem, k.reqs.trans h.reqs⟩

/-- A frame without DRAM in which nothing watched stands. -/
theorem Steady.of_changes {ps : List Part} {gs : List Fld} (h : Changes ps gs s t) (hd : .dram ∉ ps)
    (hk : ∀ f ∈ watched fs, f.key ∉ gs.map Fld.key ∧ f.key ∉ settleKeys) : Steady fs s t := by
  have hget : ∀ f ∈ watched fs, get f t = get f s := fun f hf => h.regs f (hk f hf).1 (hk f hf).2
  refine ⟨fun f hf => hget f (List.mem_append_left _ hf), fun n hn ⟨h1, h2, h3, h4⟩ => ?_, congrArg _ (h.dram hd),
    congrArg _ (h.dram hd), h.reqs⟩
  have hsource : ∀ f ∈ [Reg.FLS.SRC_CFG_SEV n, Reg.FLS.SRC_CFG_ACT n], get f t = get f s := fun f hf =>
    hget f (List.mem_append_right _ (List.mem_flatMap.2 ⟨n, hn, hf⟩))
  rw [Calm, hsource _ (by simp : Reg.FLS.SRC_CFG_SEV n ∈ _), hsource _ (by simp : Reg.FLS.SRC_CFG_ACT n ∈ _)]
  exact ⟨h1, h2, h3, h4⟩

theorem Steady.each {α : Type} (l : List α) (f : α → State → State) (h : ∀ a ∈ l, ∀ u, Steady fs u (f a u))
    (s : State) :
    Steady fs s (forEach l f s) :=
  forEach_keeps (Steady fs s) l f s (.refl fs s) fun a ha u hu => hu.trans (h a ha u)

end

/-! ### Settings and timings (R154, R156) -/

theorem changes_keepSettings (l : List Nat) (s : State) : Changes [.dram, .upd] [] s (keepSettings l s) := by
  refine Changes.in_upd (Changes.each (Changes.refl _ _ s) _ _ fun i _ u hu => ?_) _ (by simp)
  exact Changes.free (hu.in_dram _ (by simp)) _

theorem keepSettings_dram (l : List Nat) (s : State) :
    (keepSettings l s).dram.trained = s.dram.trained ∧ (keepSettings l s).dram.mem = s.dram.mem :=
  forEach_keeps (fun u : State => u.dram.trained = s.dram.trained ∧ u.dram.mem = s.dram.mem) l _ s ⟨rfl, rfl⟩
    fun _ _ _ hu => hu

/-- The timings of a channel. -/
def timingFields (c : Nat) : List Fld := [Reg.DCH.TIMING_TRC_NS c, Reg.DCH.TIMING_TWTRL_NS c, Reg.DCH.TIMING_TXP_NS c]

theorem changes_keepTimings (r : TrainResult) (c : Nat) (s : State) :
    Changes [] (timingFields c) s (keepTimings r c s) :=
  (((Changes.refl _ _ s).set _ _ (by simp [timingFields])).set _ _ (by simp [timingFields])).set _ _
    (by simp [timingFields])

/-- The timings of a channel read what its training found. -/
def TimedAs (r : TrainResult) (c : Nat) (s : State) : Prop :=
  get (Reg.DCH.TIMING_TRC_NS c) s = r.trcNs % 256 ∧ get (Reg.DCH.TIMING_TWTRL_NS c) s = r.twtrlNs % 256 ∧
    get (Reg.DCH.TIMING_TXP_NS c) s = r.txpNs % 256

theorem TimedAs.same {r : TrainResult} {c : Nat} {s t : State} (h : TimedAs r c s)
    (hk : ∀ f ∈ timingFields c, get f t = get f s) : TimedAs r c t := by
  rw [TimedAs, hk _ (by simp [timingFields] : Reg.DCH.TIMING_TRC_NS c ∈ _),
    hk _ (by simp [timingFields] : Reg.DCH.TIMING_TWTRL_NS c ∈ _),
    hk _ (by simp [timingFields] : Reg.DCH.TIMING_TXP_NS c ∈ _)]
  exact h

theorem timing_keys (c : Fin 16) : (∀ d : Fin 16, ∀ f ∈ timingFields c, d ≠ c → f.key ∉ (timingFields d).map Fld.key) ∧
    (∀ f ∈ watched (timingFields c), f.key ∉ ((List.range 16).map Reg.DCH.STS_RANKS).map Fld.key ∧
      f.key ∉ [Reg.DMC.PASR_REQ, Reg.DMC.PASR_STATE, Reg.EVT_STS 0x10 1, Reg.PWR.STS_RAILS_ON].map Fld.key ∧
      f.key ∉ settleKeys) := by
  revert c
  decide +kernel

theorem keepTimings_timed (r : TrainResult) (c : Fin 16) (s : State) : TimedAs r c (keepTimings r c s) := by
  have hkeys : ∀ c : Fin 16, (Reg.DCH.TIMING_TRC_NS c).key ≠ (Reg.DCH.TIMING_TWTRL_NS c).key ∧
      (Reg.DCH.TIMING_TRC_NS c).key ≠ (Reg.DCH.TIMING_TXP_NS c).key ∧
      (Reg.DCH.TIMING_TWTRL_NS c).key ≠ (Reg.DCH.TIMING_TXP_NS c).key := by decide +kernel
  obtain ⟨h1, h2, h3⟩ := hkeys c
  exact ⟨(get_set_other _ _ h2).trans ((get_set_other _ _ h1).trans (get_set_same _ _ _)),
    (get_set_other _ _ h3).trans (get_set_same _ _ _), get_set_same _ _ _⟩

/-- Every channel of the list has its timings. -/
theorem eachTiming_timed (r : TrainResult) (c : Fin 16) {l : List Nat} (hl : ∀ d ∈ l, d < 16) (hc : c.val ∈ l)
    (s : State) : TimedAs r c (forEach l (keepTimings r) s) := by
  have hstep : ∀ d < 16, ∀ u, TimedAs r c u → TimedAs r c (keepTimings r d u) := fun d hd u hu => by
    by_cases he : d = c.val
    · rw [he]
      exact keepTimings_timed r c u
    · exact hu.same fun f hf => (changes_keepTimings r d u).regs f
        ((timing_keys c).1 ⟨d, hd⟩ f hf fun h => he (congrArg Fin.val h))
        ((timing_keys c).2 f (List.mem_append_left _ hf)).2.2
  induction l generalizing s with
  | nil => simp at hc
  | cons d l ih =>
    rw [forEach_cons]
    rcases List.mem_cons.1 hc with he | hin
    · rw [← he]
      exact forEach_keeps (TimedAs r c) l _ _ (keepTimings_timed r c s) fun k hk u =>
        hstep k (hl k (List.mem_cons_of_mem _ hk)) u
    · exact ih (fun k hk => hl k (List.mem_cons_of_mem _ hk)) hin _

/-! ### The end of initial training -/

theorem changes_groupsTrained (s : State) :
    Changes [] [Reg.DMC.PASR_REQ, Reg.DMC.PASR_STATE, Reg.EVT_STS 0x10 1, Reg.PWR.STS_RAILS_ON] s (groupsTrained s) :=
  (Changes.refl _ _ s).each _ _ fun g _ u hu => .branch _
    (((hu.set _ _ (by simp)).set _ _ (by simp)).event _ _ (by simp))
    (.branch _ ((hu.set _ _ (by simp)).emit _) hu)

/-- The channels that training sets the timings of. -/
def trainedChannels (s : State) : List Nat := (List.range 16).filter (fun c => dramPresent c s)

/-- The ranks trained, with their settings and their channels' timings. -/
def settingsKept (r : TrainResult) (l : List Nat) (s : State) : State :=
  { s with dram := { s.dram with trained := true } } |> keepSettings l
    |> forEach (trainedChannels s) (keepTimings r)

/-- What follows of training once the failed ranks are served. -/
def trainingShown (r : TrainResult) (s : State) : State := s |> ranksShow |> raiseChannels r |> groupsTrained

theorem trainingDone_eq {r : TrainResult} {s : State} (hb : get Reg.SYS.BOOT_STAGE s = 6)
    (ht : s.dram.trained = false) :
    ∃ l, trainingDone r s = trainingShown r (serveFailed (failedRanks r s) (settingsKept r l s)) := by
  refine ⟨(List.range 64).filter (fun i => get (Reg.SPR.RANK_STATE i) s != 0 && !(failedRanks r s).contains i), ?_⟩
  unfold trainingDone
  rw [if_neg (by simp [hb, ht])]
  rfl

theorem settingsKept_shown (r : TrainResult) (l : List Nat) (s : State) :
    (settingsKept r l s).dram.trained = true ∧ (settingsKept r l s).dram.mem = s.dram.mem ∧
    (settingsKept r l s).reqs = s.reqs ∧ ∀ c < 16, dramPresent c s = true → TimedAs r c (settingsKept r l s) := by
  have hin : ∀ d ∈ trainedChannels s, d < 16 := fun d hd => List.mem_range.1 (List.mem_filter.1 hd).1
  have hkept := changes_keepSettings l { s with dram := { s.dram with trained := true } }
  obtain ⟨htr, hmem⟩ := keepSettings_dram l { s with dram := { s.dram with trained := true } }
  have htimes : ∀ u : State, Changes [] ((List.range 16).flatMap timingFields) u
      (forEach (trainedChannels s) (keepTimings r) u) := fun u => (Changes.refl _ _ u).each _ _ fun d hd v hv =>
    hv.trans ((changes_keepTimings r d v).widen (fun _ h => h) fun f hf =>
      List.mem_flatMap.2 ⟨d, List.mem_range.2 (hin d hd), hf⟩)
  refine ⟨?_, ?_, ?_, fun c hc hpres => ?_⟩
  · exact (congrArg Dram.trained ((htimes _).dram (by simp))).trans htr
  · exact (congrArg Dram.mem ((htimes _).dram (by simp))).trans hmem
  · exact (htimes _).reqs.trans hkept.reqs
  · exact eachTiming_timed r ⟨c, hc⟩ hin (List.mem_filter.2 ⟨List.mem_range.2 hc, hpres⟩) _

theorem completes_trainingGood {s : State} (hs : Ready s) {r : TrainResult} (hb : get Reg.SYS.BOOT_STAGE s = 6)
    (ht : s.dram.trained = false) (hf : r.failed = []) (hm : r.mismatch = []) (hp : s.upd.pendingRanks = []) :
    Completes (.dramTrainingDone r) s fun t =>
      t.dram.trained = true ∧ t.dram.mem = s.dram.mem ∧ ∀ c < 16, dramPresent c s = true →
        get (Reg.DCH.TIMING_TRC_NS c) t = r.trcNs % 256 ∧ get (Reg.DCH.TIMING_TWTRL_NS c) t = r.twtrlNs % 256 ∧
        get (Reg.DCH.TIMING_TXP_NS c) t = r.txpNs % 256 := by
  have hnone : failedRanks r (begun s) = [] := by
    have hpend : (begun s).upd.pendingRanks = [] := hp
    unfold failedRanks
    rw [hpend]
    simp [hf, hm]
  obtain ⟨l, heff⟩ := trainingDone_eq (r := r) (s := begun s) hb ht
  have hserve : ∀ u, serveFailed [] u = u := fun u => rfl
  have hchannels : ∀ u, raiseChannels r u = u := fun u => by
    unfold raiseChannels
    rw [hf, hm]
    rfl
  rw [hnone, hserve] at heff
  obtain ⟨htr, hmem, hreqs, htimed⟩ := settingsKept_shown r l (begun s)
  generalize settingsKept r l (begun s) = u at *
  have hc : Changes [] ((List.range 16).map Reg.DCH.STS_RANKS ++
      [Reg.DMC.PASR_REQ, Reg.DMC.PASR_STATE, Reg.EVT_STS 0x10 1, Reg.PWR.STS_RAILS_ON]) u (trainingShown r u) := by
    unfold trainingShown
    rw [hchannels]
    exact ((changes_ranksShow u).widen (fun _ h => h) (List.subset_append_left _ _)).trans
      ((changes_groupsTrained _).widen (fun _ h => h) (List.subset_append_right _ _))
  refine .leaves hs rfl heff (hc.reqs.trans (hreqs.trans hs.2)) fun t k => ⟨?_, ?_, fun c hc16 hpres => ?_⟩
  · rw [k.dram, hc.dram (by simp), htr]
  · rw [k.dram, hc.dram (by simp), hmem]
  · refine (htimed c hc16 hpres).same fun f hf => ?_
    obtain ⟨h1, h2, h3⟩ := (timing_keys ⟨c, hc16⟩).2 f (List.mem_append_left _ hf)
    rw [k.get _ h3]
    refine hc.regs f ?_ h3
    rw [List.map_append, List.mem_append]
    exact not_or.2 ⟨h1, h2⟩

/-! ### Failed ranks (R158, R159) -/

/-- The places of the spares. -/
def spareFields : List Fld := (List.range 8).flatMap fun m => [Reg.SPR.SPARE_CH m, Reg.SPR.SPARE_RANK m]

/-- The fields that a fall of the capacity may change. -/
def capacityFields : List Fld :=
  (List.range 4).flatMap (fun m => [Reg.DMC.REGION_A_BASE_GIB m, Reg.DMC.REGION_A_SIZE_LOG2 m, Reg.DMC.REGION_A_VALID m,
    Reg.DMC.REGION_B_CH_BASE m, Reg.DMC.REGION_B_CH_BITS m, Reg.DMC.REGION_B_RANK_BASE m,
    Reg.DMC.REGION_B_RANK_BITS m, Reg.GQ.SPILL_BASE_BASE_MIB m]) ++
  [Reg.SYS.CAP_ACK_EXPOSED_GIB, Reg.MRV.MAP_ENTRIES, Reg.MRV.MIRROR_BASE_INDEX, Reg.LEH.BUDGET_CAP_GRAN,
    Reg.LEH.CAPONLY_CAP_GRAN, Reg.SCR.RATE_LINES, Reg.DMC.MAP_CRC_CRC, Reg.TXN.UNDO_CFG_BASE_GIB,
    Reg.SYS.PERSIST_CAPACITY]

/-- The fields that the end of training may change, but for the states of ranks. -/
def trainingLists : List (List Fld) :=
  [(List.range 16).flatMap timingFields, recordFields 3, recordFields 0,
    (List.range 8).flatMap (fun m => [Reg.SPR.SPARE_IN_USE m, Reg.SPR.SPARE_TARGET_CH m, Reg.SPR.SPARE_TARGET_RANK m]),
    capacityFields, (List.range 16).map Reg.DCH.STS_RANKS, trainSources.flatMap raiseFields,
    [Reg.DMC.PASR_REQ, Reg.DMC.PASR_STATE, Reg.EVT_STS 0x10 1, Reg.PWR.STS_RAILS_ON]]

def trainingFields : List Fld := trainingLists.flatten

theorem training_list {l : List Fld} (h : l ∈ trainingLists) : l ⊆ trainingFields :=
  fun _ hf => List.mem_flatten.2 ⟨l, h, hf⟩

theorem spares_untouched : ∀ f ∈ watched spareFields, f.key ∉ trainingFields.map Fld.key ∧ f.key ∉ settleKeys := by
  decide +kernel

theorem rank_untouched (i : Fin 64) : (Reg.SPR.RANK_STATE i).key ∉ trainingFields.map Fld.key := by
  revert i
  decide +kernel

/-- The state of a rank, and the places of the spares. -/
def rankFields (i : Nat) : List Fld := Reg.SPR.RANK_STATE i :: spareFields

theorem Steady.within {ps : List Part} {gs : List Fld} {s t : State} (i : Fin 64) (h : Changes ps gs s t)
    (hd : .dram ∉ ps) (hg : gs ⊆ trainingFields) : Steady (rankFields i) s t := by
  refine .of_changes (h.widen (fun _ h => h) hg) hd fun f hf => ?_
  rcases List.mem_cons.1 hf with rfl | hf
  · exact ⟨rank_untouched i, (rank_record i).2⟩
  · exact spares_untouched f hf

theorem Steady.spares {i : Nat} {s t : State} (h : Steady (rankFields i) s t) : Steady spareFields s t :=
  ⟨fun f hf => h.fields f (List.mem_cons_of_mem _ hf), h.calm, h.trained, h.mem, h.reqs⟩

theorem Steady.spareIndex {s t : State} (h : Steady spareFields s t) {m : Nat} (hm : m < 8) :
    spareIndex m t = spareIndex m s := by
  have hf : ∀ f ∈ [Reg.SPR.SPARE_CH m, Reg.SPR.SPARE_RANK m], Machine.get f t = Machine.get f s := fun f hf =>
    h.fields f (List.mem_flatMap.2 ⟨m, List.mem_range.2 hm, hf⟩)
  simp only [Machine.spareIndex, hf _ (by simp : Reg.SPR.SPARE_CH m ∈ _), hf _ (by simp : Reg.SPR.SPARE_RANK m ∈ _)]

/-- Where the spares, and the severities and reactions of training's sources, stand. -/
theorem spares_keys : (∀ f ∈ spareFields, f.key < 0x11180 * 32) ∧
    (∀ n ∈ trainSources, 0x11280 * 32 ≤ (Reg.FLS.SRC_CFG_SEV n).key ∧ (Reg.FLS.SRC_CFG_ACT n).key % 32 = 4) := by
  decide +kernel

theorem rankState_key (j : Nat) : (Reg.SPR.RANK_STATE j).key = (0x11180 + 4 * j) * 32 := rfl

/-- A field at the place of a rank's state reads the state that is set. -/
theorem get_setRank_alias {f : Fld} {j : Nat} (hk : f.key = (Reg.SPR.RANK_STATE j).key)
    (hr : f.key ∉ (recordFields 0).map Fld.key ∧ f.key ∉ settleKeys) (s : State) :
    get f (setRank j 1 s) = get f s ∨ get f (setRank j 1 s) = 1 := by
  unfold setRank
  split
  · exact .inl rfl
  · refine .inr ((((Changes.refl [.gq] (recordFields 0) _).pushRecord (by decide) (by simp)
      (fun _ h => h) _).regs f hr.1
      hr.2).trans ?_)
    show (look (put 0 s.regs (Reg.SPR.RANK_STATE j).key 1) f.key).getD f.reset = 1
    rw [hk, put, if_neg (by decide), look_insert_same _ _ _ (look_drop_same _ _)]
    rfl

/-- A rank's new state leaves the spares and the calm of the sources, if the rank is one of the 64 or becomes ACTIVE. -/
theorem setRank_spares {j st : Nat} (h : j < 64 ∨ st = 1) (s : State) : Steady spareFields s (setRank j st s) := by
  have hc := changes_setRank j st s
  obtain ⟨hspare, hsource⟩ := spares_keys
  have hrec : ∀ f ∈ watched spareFields, f.key ∉ (recordFields 0).map Fld.key ∧ f.key ∉ settleKeys := fun f hf =>
    ⟨fun hm => (spares_untouched f hf).1 (List.map_subset _ (training_list (by simp [trainingLists])) hm),
      (spares_untouched f hf).2⟩
  have hget : ∀ f ∈ watched spareFields, f.key ≠ (Reg.SPR.RANK_STATE j).key → get f (setRank j st s) = get f s :=
    fun f hf hne => hc.regs f (by
      rw [List.map_cons, List.mem_cons, not_or]
      exact ⟨hne, (hrec f hf).1⟩) (hrec f hf).2
  refine ⟨fun f hf => hget f (List.mem_append_left _ hf) ?_, fun n hn ⟨h334, hsev, hblock, hchip⟩ => ?_,
    congrArg _ (hc.dram (by simp)), congrArg _ (hc.dram (by simp)), hc.reqs⟩
  · have := hspare f hf
    rw [rankState_key]
    omega
  · obtain ⟨hs, ha⟩ := hsource n hn
    have hw : ∀ f ∈ [Reg.FLS.SRC_CFG_SEV n, Reg.FLS.SRC_CFG_ACT n], f ∈ watched spareFields := fun f hf =>
      List.mem_append_right _ (List.mem_flatMap.2 ⟨n, hn, hf⟩)
    have hact := hget _ (hw (Reg.FLS.SRC_CFG_ACT n) (by simp)) (by rw [rankState_key]; omega)
    rw [Calm, hact]
    refine ⟨h334, ?_, hblock, hchip⟩
    by_cases hk : (Reg.FLS.SRC_CFG_SEV n).key = (Reg.SPR.RANK_STATE j).key
    · obtain rfl : st = 1 := h.resolve_left fun hj => by
        rw [rankState_key] at hk
        omega
      rcases get_setRank_alias hk (hrec _ (hw _ (by simp))) s with he | he <;> rw [he]
      · exact hsev
      · decide
    · rw [hget _ (hw _ (by simp)) hk]
      exact hsev

theorem setRank_other {i : Fin 64} {j st : Nat} (hj : j ≠ i) (h : j < 64 ∨ st = 1) (s : State) :
    Steady (rankFields i) s (setRank j st s) := by
  have hs := setRank_spares h s
  refine ⟨fun f hf => ?_, hs.calm, hs.trained, hs.mem, hs.reqs⟩
  rcases List.mem_cons.1 hf with rfl | hf
  · exact get_setRank_other i hj st s
  · exact hs.fields f hf

theorem spare_training {m : Nat} (hm : m < 8) :
    [Reg.SPR.SPARE_IN_USE m, Reg.SPR.SPARE_TARGET_CH m, Reg.SPR.SPARE_TARGET_RANK m] ⊆ trainingFields :=
  fun _ hf => training_list (l := (List.range 8).flatMap fun m =>
    [Reg.SPR.SPARE_IN_USE m, Reg.SPR.SPARE_TARGET_CH m, Reg.SPR.SPARE_TARGET_RANK m]) (by simp [trainingLists])
    (List.mem_flatMap.2 ⟨m, List.mem_range.2 hm, hf⟩)

theorem freeSpareOf_steady (i : Fin 64) (j : Nat) (s : State) : Steady (rankFields i) s (freeSpareOf j s) := by
  unfold freeSpareOf
  split
  case h_1 m hm =>
    have hlt : m < 8 := List.mem_range.1 (List.mem_of_find?_eq_some hm)
    refine .within i (ps := [.upd]) (gs := [Reg.SPR.SPARE_IN_USE m])
      (((Changes.refl _ _ s).set _ _ (by simp)).in_upd _ (by simp)) (by simp) fun f hf => spare_training hlt ?_
    exact List.mem_cons.2 (.inl (List.mem_singleton.1 hf))
  case h_2 => exact .refl _ s

theorem assignSpare_steady (i : Fin 64) {m : Nat} (hm : m < 8) (d : Nat × Nat) (s : State) :
    Steady (rankFields i) s (assignSpare m d s) := by
  refine .within i (ps := [.upd])
    (gs := [Reg.SPR.SPARE_IN_USE m, Reg.SPR.SPARE_TARGET_CH m, Reg.SPR.SPARE_TARGET_RANK m]) ?_ (by simp)
    (spare_training hm)
  exact ((((((Changes.refl _ _ s).set _ _ (by simp)).set _ _ (by simp)).set _ _ (by simp)).in_upd _ (by simp)).in_upd _
    (by simp)).in_upd _ (by simp)

/-- No spare that takes a rank is the rank `i`. -/
theorem mapFailed_steady (i : Fin 64) {ps : List (Nat × Nat)} (s : State)
    (h : ∀ p ∈ ps, p.2 < 8 ∧ spareIndex p.2 s ≠ i) : Steady (rankFields i) s (mapFailed ps s) := by
  refine forEach_keeps (Steady (rankFields i) s) ps _ s (.refl _ s) fun p hp u hu => ?_
  obtain ⟨hm, hne⟩ := h p hp
  have ha := (freeSpareOf_steady i p.1 u).trans (assignSpare_steady i hm (servesLogical p.1 u) _)
  refine (hu.trans ha).trans (setRank_other ?_ (.inr rfl) _)
  rwa [hu.spares.spareIndex hm]

theorem region_capacity {m : Nat} (hm : m < 4) : [Reg.DMC.REGION_A_BASE_GIB m, Reg.DMC.REGION_A_SIZE_LOG2 m,
    Reg.DMC.REGION_A_VALID m, Reg.DMC.REGION_B_CH_BASE m, Reg.DMC.REGION_B_CH_BITS m, Reg.DMC.REGION_B_RANK_BASE m,
    Reg.DMC.REGION_B_RANK_BITS m, Reg.GQ.SPILL_BASE_BASE_MIB m] ⊆ capacityFields := fun _ hf =>
  List.mem_append_left _ (List.mem_flatMap.2 ⟨m, List.mem_range.2 hm, hf⟩)

section
variable {ps : List Part} {s t : State}

/-- A field of the capacity is set. -/
theorem Changes.capacity (h : Changes ps capacityFields s t) {f : Fld} (v : Nat) (hf : f ∈ capacityFields) :
    Changes ps capacityFields s (Machine.set f v t) := h.set _ _ (List.mem_map_of_mem hf)

theorem changes_placeRegions (l : List (Nat × Nat × Nat × Nat)) (m a : Nat) (hm : m + l.length ≤ 4)
    (h : Changes ps capacityFields s t) : Changes ps capacityFields s (placeRegions m a l t) := by
  induction l generalizing m a t with
  | nil => exact h
  | cons x l ih =>
    obtain ⟨cb, cn, rb, rn⟩ := x
    rw [List.length_cons] at hm
    have hin := region_capacity (show m < 4 by omega)
    refine ih (m + 1) _ (by omega) (((((((h.capacity _ ?_).capacity _ ?_).capacity _ ?_).capacity _ ?_).capacity _
      ?_).capacity _ ?_).capacity _ ?_)
    all_goals exact hin (by simp)

theorem Changes.stored (h : Changes ps capacityFields s t) (hp : .upd ∈ ps) (f : Fld) (v : Nat) :
    Changes ps capacityFields s (storeSetting f v t) := h.in_upd _ hp

theorem Changes.moveUndo (h : Changes ps capacityFields s t) (hu : .upd ∈ ps) (hr : .rsr ∈ ps) (old new : Nat) :
    Changes ps capacityFields s (moveUndo old new t) := by
  unfold Machine.moveUndo
  split
  · exact h
  · exact ((h.capacity _ (by decide)).stored hu _ _).in_rsr _ hr

theorem Changes.moveSpill (h : Changes ps capacityFields s t) (hu : .upd ∈ ps) (hr : .rsr ∈ ps)
    (old new : Nat) {q : Nat}
    (hq : q < 4) : Changes ps capacityFields s (moveSpill old new q t) := by
  unfold Machine.moveSpill
  split
  · exact h
  · exact ((h.capacity _ (region_capacity hq (by simp))).stored hu _ _).in_rsr _ hr

end

/-- The region table without the failed ranks. -/
def regionsRebuilt (s : State) : State :=
  let s := forEach (List.range 4) (fun m => set (Reg.DMC.REGION_A_VALID m) 0) s
  placeRegions 0 0 (defaultRegions s) s

theorem changes_regionsRebuilt (s : State) : Changes [.upd, .rsr] capacityFields s (regionsRebuilt s) :=
  changes_placeRegions _ 0 0 (by
    rw [Nat.zero_add]
    exact List.length_take_le _ _) ((Changes.refl _ _ s).each _ _ fun _ hm _ hu =>
      hu.capacity _ (region_capacity (List.mem_range.1 hm) (by simp)))

/-- What follows the capacity. -/
def capacityShown (new : Nat) (s : State) : State :=
  s |> set Reg.SYS.CAP_ACK_EXPOSED_GIB new |> mapAtBoot |> capDefaults
    |> (fun s => set Reg.SCR.RATE_LINES (scrubRate s) s)
    |> (fun s => set Reg.DMC.MAP_CRC_CRC (Config.mapCrc (mapWords s)).toNat s)

/-- A fall of the capacity, before its source is raised. -/
def capacityLost (old new before : Nat) (s : State) : State :=
  { s with rsr := { s.rsr with capacityReduced := true, moved := [], cut := [(mapEntries s, before - mapEntries s)] } }
    |> moveUndo old new |> forEach (List.range 4) (moveSpill old new) |> set Reg.SYS.PERSIST_CAPACITY 1

theorem reduceCapacity_eq (s : State) : ∃ new, reduceCapacity s =
    if new < get Reg.SYS.CAP_ACK_EXPOSED_GIB s then
      raiseSimple 238 0 0 new 0 (capacityLost (get Reg.SYS.CAP_ACK_EXPOSED_GIB s) new (mapEntries s)
        (capacityShown new (regionsRebuilt s)))
    else capacityShown new (regionsRebuilt s) := ⟨_, rfl⟩

theorem reduceCapacity_steady (i : Fin 64) {s : State} (h : Calm 238 s) : Steady (rankFields i) s
    (reduceCapacity s) := by
  have hcap : capacityFields ⊆ trainingFields := training_list (by simp [trainingLists])
  obtain ⟨new, heq⟩ := reduceCapacity_eq s
  have hshown : Changes [.upd, .rsr] capacityFields s (capacityShown new (regionsRebuilt s)) :=
    (((((((changes_regionsRebuilt s).capacity _ (by decide)).capacity _ (by decide)).capacity _ (by decide)).capacity _
      (by decide)).capacity _ (by decide)).capacity _ (by decide)).capacity _ (by decide)
  have hlost : Changes [.upd, .rsr] capacityFields s (capacityLost (get Reg.SYS.CAP_ACK_EXPOSED_GIB s) new
      (mapEntries s)
      (capacityShown new (regionsRebuilt s))) :=
    Changes.capacity (Changes.each (Changes.moveUndo (hshown.in_rsr _ (by simp)) (by simp) (by simp) _ _) _ _
      fun _ hq _ hu => hu.moveSpill (by simp) (by simp) _ _ (List.mem_range.1 hq)) _ (by decide)
  rw [heq]
  split
  · have hst := Steady.within i hlost (by simp) hcap
    refine hst.trans (.within i (changes_raiseSimple (hst.calm 238 (by simp [trainSources]) h) 0 0 new 0)
        (by decide) ?_)
    exact fun f hf => training_list (l := trainSources.flatMap raiseFields) (by simp [trainingLists])
      (List.mem_flatMap.2 ⟨238, by simp [trainSources], hf⟩)
  · exact .within i hshown (by simp) hcap

/-- A rank that training fails is out of use. -/
def rankFailed (i : Nat) (s : State) : State :=
  s |> trainRecord (i / 4) (i % 4) 3 (get (Reg.SPR.RANK_RETRAINS i) s) |> setRank i 7

def ranksFailed (failed : List Nat) (s : State) : State := forEach failed rankFailed s

theorem changes_trainRecord (ch rank result retrains : Nat) (s : State) :
    Changes [.gq] (recordFields 3) s (trainRecord ch rank result retrains s) :=
  (Changes.refl _ _ s).pushRecord (by decide) (by simp) (fun _ h => h) _

theorem trainRecord_steady (i : Fin 64) (ch rank result retrains : Nat) (s : State) :
    Steady (rankFields i) s (trainRecord ch rank result retrains s) :=
  .within i (changes_trainRecord _ _ _ _ s) (by simp) (training_list (by simp [trainingLists]))

theorem ranksFailed_shown {failed : List Nat} (hlt : ∀ i ∈ failed, i < 64) (s : State) :
    Steady spareFields s (ranksFailed failed s) ∧
    ∀ i ∈ failed, get (Reg.SPR.RANK_STATE i) (ranksFailed failed s) = 7 := by
  refine ⟨Steady.each _ _ (fun j hj u => ?_) s, fun i hi => ?_⟩
  · exact (trainRecord_steady 0 _ _ _ _ u).spares.trans (setRank_spares (.inl (hlt j hj)) _)
  · have hsame : ∀ u, get (Reg.SPR.RANK_STATE i) (rankFailed i u) = 7 := fun u =>
      get_setRank_same ⟨i, hlt i hi⟩ (by decide) _
    refine get_forEach_of_mem rankFailed hsame (fun j hj u => ?_) hi s
    refine (get_setRank_other ⟨i, hlt i hi⟩ hj 7 _).trans ?_
    exact (trainRecord_steady ⟨i, hlt i hi⟩ _ _ _ _ u).fields _ (by simp [rankFields])

/-- What makes up for the failed ranks leaves them out of use. -/
theorem serveFailed_steady {failed : List Nat} (hlt : ∀ i ∈ failed, i < 64) {s : State} (h : Calm 238 s) (i : Fin 64)
    (hi : i.val ∈ failed) : Steady (rankFields i) (ranksFailed failed s) (serveFailed failed s) := by
  obtain ⟨hfailed, -⟩ := ranksFailed_shown hlt s
  have hcalm : Calm 238 (ranksFailed failed s) := hfailed.calm 238 (by simp [trainSources]) h
  unfold serveFailed
  dsimp only
  split
  · exact .refl _ _
  · split
    · refine mapFailed_steady i _ fun p hp => ?_
      have hspare := (List.of_mem_zip hp).2
      obtain ⟨hfree, hnot⟩ := List.mem_filter.1 hspare
      have hm : p.2 < 8 := List.mem_range.1 (List.mem_filter.1 hfree).1
      refine ⟨hm, fun he => ?_⟩
      change spareIndex p.2 (ranksFailed failed s) = i at he
      rw [hfailed.spareIndex hm] at he
      rw [he] at hnot
      simp [hi] at hnot
    · exact reduceCapacity_steady i hcalm

/-- The failed ranks are out of use, and spares or a fall of the capacity make up for them. -/
theorem serveFailed_shown {failed : List Nat} (hlt : ∀ i ∈ failed, i < 64) {s : State} (h : Calm 238 s) :
    Steady spareFields s (serveFailed failed s) ∧
    ∀ i ∈ failed, get (Reg.SPR.RANK_STATE i) (serveFailed failed s) = 7 := by
  obtain ⟨hfailed, hstate⟩ := ranksFailed_shown hlt s
  refine ⟨?_, fun i hi => ?_⟩
  · cases failed with
    | nil => exact .refl _ s
    | cons i l => exact hfailed.trans (serveFailed_steady hlt h ⟨i, hlt i (by simp)⟩ (by simp)).spares
  · rw [(serveFailed_steady hlt h ⟨i, hlt i hi⟩ hi).fields _ (by simp [rankFields]), hstate i hi]

theorem raiseChannel_steady (i : Fin 64) {n : Nat} (hn : n ∈ trainSources) {s : State} (h : Calm n s)
    (reason inst snap2 snap3 : Nat) : Steady (rankFields i) s (raiseSimple n reason inst snap2 snap3 s) :=
  .within i (changes_raiseSimple h reason inst snap2 snap3) (by decide) fun _ hf =>
    training_list (l := trainSources.flatMap raiseFields) (by simp [trainingLists]) (List.mem_flatMap.2 ⟨n, hn, hf⟩)

theorem raiseChannels_steady (i : Fin 64) (r : TrainResult) {s : State} (h : ∀ n ∈ trainSources, Calm n s) :
    Steady (rankFields i) s (raiseChannels r s) := by
  have hone : ∀ c : Nat, c < 16 → ∀ reason snap2 u, Steady (rankFields i) s u →
      Steady (rankFields i) s (raiseSimple (128 + c) reason c snap2 0 u) := fun c hc reason snap2 u hu => by
    have hn : 128 + c ∈ trainSources := List.mem_cons_of_mem _ (List.mem_map_of_mem (List.mem_range.2 hc))
    exact hu.trans (raiseChannel_steady i hn (hu.calm _ hn (h _ hn)) _ _ _ _)
  unfold raiseChannels
  refine forEach_keeps (Steady (rankFields i) s) _ _ _ (forEach_keeps (Steady (rankFields i) s) _ _ s (.refl _ s)
    fun c hc u hu => hone c ?_ _ _ u hu) fun c hc u hu => hone c ?_ _ _ u hu
  · obtain ⟨f, -, rfl⟩ := List.mem_map.1 (List.mem_dedup.1 (List.mem_filter.1 hc).1)
    omega
  · obtain ⟨f, -, rfl⟩ := List.mem_map.1 (List.mem_filter.1 hc).1
    exact f.isLt

theorem trainingShown_steady (i : Fin 64) (r : TrainResult) {s : State} (h : ∀ n ∈ trainSources, Calm n s) :
    Steady (rankFields i) s (trainingShown r s) := by
  have hranks : Steady (rankFields i) s (ranksShow s) :=
    .within i (changes_ranksShow s) (by simp) (training_list (by simp [trainingLists]))
  have hraised := hranks.trans (raiseChannels_steady i r fun n hn => hranks.calm n hn (h n hn))
  exact hraised.trans (.within i (changes_groupsTrained _) (by simp) (training_list (by simp [trainingLists])))

theorem settingsKept_calm (r : TrainResult) (l : List Nat) (s : State) :
    ∀ n ∈ trainSources, Calm n s → Calm n (settingsKept r l s) := by
  have hin : ∀ d ∈ trainedChannels s, d < 16 := fun d hd => List.mem_range.1 (List.mem_filter.1 hd).1
  have hc : Changes [.dram, .upd] ((List.range 16).flatMap timingFields) s (settingsKept r l s) :=
    ((Changes.refl [.dram, .upd] _ s).in_dram { s.dram with trained := true } (by simp)).trans
      ((changes_keepSettings l _).widen (fun _ h => h) (by simp)) |>.each _ _ fun d hd v hv =>
        hv.trans ((changes_keepTimings r d v).widen (by simp) fun f hf =>
          List.mem_flatMap.2 ⟨d, List.mem_range.2 (hin d hd), hf⟩)
  intro n hn ⟨h1, h2, h3, h4⟩
  have hget : ∀ f ∈ [Reg.FLS.SRC_CFG_SEV n, Reg.FLS.SRC_CFG_ACT n], get f (settingsKept r l s) = get f s :=
      fun f hf => by
    obtain ⟨hk, hs⟩ := spares_untouched f (List.mem_append_right _ (List.mem_flatMap.2 ⟨n, hn, hf⟩))
    exact hc.regs f (fun hm => hk (List.map_subset _ (training_list (by simp [trainingLists])) hm)) hs
  rw [Calm, hget _ (by simp : Reg.FLS.SRC_CFG_SEV n ∈ _), hget _ (by simp : Reg.FLS.SRC_CFG_ACT n ∈ _)]
  exact ⟨h1, h2, h3, h4⟩

theorem completes_trainingDone {s : State} (hs : Ready s) {r : TrainResult} (hb : get Reg.SYS.BOOT_STAGE s = 6)
    (ht : s.dram.trained = false) :
    Completes (.dramTrainingDone r) s fun t =>
      (∀ c : Fin 16, Calm (128 + c) s) → Calm 238 s → t.dram.trained = true ∧
        (∀ i ∈ failedRanks r s, get Reg.SYS.PERSIST_CAPACITY t = 0 → get (Reg.SPR.RANK_STATE i) t ≠ 1) := by
  obtain ⟨l, heff⟩ := trainingDone_eq (r := r) (s := begun s) hb ht
  have hlt : ∀ i ∈ failedRanks r s, i < 64 := fun i hi => List.mem_range.1 (List.mem_filter.1 hi).1
  obtain ⟨htr, -, hreqs, -⟩ := settingsKept_shown r l (begun s)
  have hcalm := settingsKept_calm r l (begun s)
  change trainingDone r (begun s) =
    trainingShown r (serveFailed (failedRanks r s) (settingsKept r l (begun s))) at heff
  generalize settingsKept r l (begun s) = u at *
  refine (Completes.leavesWhen hs (Q := ∀ n ∈ trainSources, Calm n s)
    (P := fun t => t.dram.trained = true ∧ ∀ i ∈ failedRanks r s, get (Reg.SPR.RANK_STATE i) t = 7) rfl heff
    fun hq => ?_).mono fun t h hch h238 => ?_
  · have hu : ∀ n ∈ trainSources, Calm n u := fun n hn => hcalm n hn (hq n hn)
    obtain ⟨hserved, hstate⟩ := serveFailed_shown hlt (hu 238 (by simp [trainSources]))
    have hshown := fun i => trainingShown_steady i r fun n hn => hserved.calm n hn (hu n hn)
    refine ⟨(hshown 0).reqs.trans (hserved.reqs.trans (hreqs.trans hs.2)), fun t k => ⟨?_, fun i hi => ?_⟩⟩
    · rw [k.dram, (hshown 0).trained, hserved.trained, htr]
    · rw [k.get _ (rank_record ⟨i, hlt i hi⟩).2, (hshown ⟨i, hlt i hi⟩).fields _ (by simp [rankFields]), hstate i hi]
  · obtain ⟨h1, h2⟩ := h fun n hn => by
      rcases List.mem_cons.1 hn with rfl | hn
      · exact h238
      · obtain ⟨c, hc, rfl⟩ := List.mem_map.1 hn
        exact hch ⟨c, List.mem_range.1 hc⟩
    exact ⟨h1, fun i hi _ => by rw [h2 i hi]; decide⟩

end Sys2Proof.Machine
end

section
/-! SUPPORT. Retraining (R155 to R157). -/

namespace Sys2Proof.Machine
set_option Elab.async false

theorem completes_retrain {s : State} (hs : Ready s) (rank : Fin 64) (ht : s.dram.trained = true)
    (hr : channelRuns (rank.val / 4) s = true) (h0 : get (Reg.SPR.RANK_STATE rank) s ≠ 0)
    (hm : isSet (Reg.SPR.RANK_MARGINAL rank) s = false) (hother : ∀ j ∈ s.dram.retraining, j / 4 ≠ rank.val / 4)
    (hw : s.dram.retrainWaiting.any (fun w => w.1 == rank.val) = false) :
    Completes (.retrain rank false) s fun t =>
      t.dram.retraining = s.dram.retraining ++ [rank.val] ∧ get (Reg.DCH.STS_MODE (rank.val / 4)) t = 3 ∧
      (∀ x, readByte x t = readByte x s) ∧ Changes [.dram] [Reg.DCH.STS_MODE (rank.val / 4)] s t := by
  have hkey : ∀ c : Fin 16, (Reg.DCH.STS_MODE c).key ∉ settleKeys := by decide +kernel
  have hself : s.dram.retraining.contains rank.val = false := by
    rw [← Bool.not_eq_true, List.contains_iff_mem]
    exact fun h => hother _ h rfl
  have hany : s.dram.retraining.any (fun j => j / 4 == rank.val / 4) = false := by
    simpa using hother
  have hc : Changes [.dram] [Reg.DCH.STS_MODE (rank.val / 4)] s
      (set (Reg.DCH.STS_MODE (rank.val / 4)) 3
        { begun s with dram := { s.dram with retraining := s.dram.retraining ++ [rank.val] } }) :=
    ((Changes.begin _ _ s).in_dram _ (by simp)).set _ _ (by simp)
  refine .leaves hs (f := fun s =>
    if s.dram.trained && channelRuns (rank.val / 4) s && get (Reg.SPR.RANK_STATE rank.val) s != 0 &&
        (false || !isSet (Reg.SPR.RANK_MARGINAL rank.val) s) then startRetrain rank.val false s
    else s) rfl ?_ (hc.reqs.trans hs.2) fun t k => ⟨congrArg Dram.retraining k.dram,
      k.stored (hkey ⟨rank.val / 4, by omega⟩) (get_set_same _ _ _), k.bytes rfl, hc.ended k⟩
  have hgo : (s.dram.trained && channelRuns (rank.val / 4) s && get (Reg.SPR.RANK_STATE rank.val) s != 0 &&
      (false || !isSet (Reg.SPR.RANK_MARGINAL rank.val) s)) = true := by
    simp [ht, hr, h0, hm]
  refine (if_pos hgo).trans ?_
  unfold startRetrain
  rw [show (begun s).dram.retraining.contains rank.val = false from hself,
    show (begun s).dram.retrainWaiting.any (fun w => w.1 == rank.val) = false from hw,
    show (begun s).dram.retraining.any (fun j => j / 4 == rank.val / 4) = false from hany]
  rfl

/-! ### The end of a retraining -/

/-- The settings of a rank that has trained are its last-known-good ones (R156). -/
theorem keepSettings_good (i : Nat) (s : State) :
    look (keepSettings [i] s).dram.lastGood i = look (keepSettings [i] s).dram.settings i := by
  show look (insert (drop s.dram.lastGood i) i (freshWord s)) i = look (insert (drop s.dram.settings i) i
      (freshWord s)) i
  rw [look_insert_same _ _ _ (look_drop_same _ _), look_insert_same _ _ _ (look_drop_same _ _)]

theorem keepSettings_waiting (i : Nat) (s : State) :
    (keepSettings [i] s).dram.retrainWaiting = s.dram.retrainWaiting := rfl

/-- What a retraining's end counts and records. -/
def retrainCounted (i : Nat) (ok : Bool) (s : State) : State :=
  { s with dram := { s.dram with retrainCounts := s.dram.retrainCounts ++ [(i, now s)] } }
    |> inc (Reg.SPR.RANK_RETRAINS i)
    |> (fun s => trainRecord (i / 4) (i % 4) (if ok then 1 else 2) (get (Reg.SPR.RANK_RETRAINS i) s) s)

theorem changes_retrainCounted (i : Nat) (ok : Bool) (s : State) :
    Changes [.dram, .gq] (Reg.SPR.RANK_RETRAINS i :: recordFields 3) s (retrainCounted i ok s) :=
  (((Changes.refl [.dram, .gq] _ s).in_dram { s.dram with retrainCounts := s.dram.retrainCounts ++ [(i, now s)] }
    (by simp)).inc _ (by simp)).pushRecord (by decide) (by simp) (by simp +contextual) _

theorem retrainCounted_dram (i : Nat) (ok : Bool) (s : State) : (retrainCounted i ok s).dram =
    { s.dram with retrainCounts := s.dram.retrainCounts ++ [(i, now s)] } :=
  (changes_trainRecord _ _ _ _ _).dram (by simp)

/-- The keys of a rank's retraining. -/
theorem retrain_keys (i : Fin 64) : (Reg.SPR.RANK_RETRAINS i).key ∉ settleKeys ∧
    (Reg.SPR.RANK_RETRAINS i).key ∉ (recordFields 3).map Fld.key ∧
    (Reg.SPR.RANK_MARGINAL i).key ∉ settleKeys ∧
    (Reg.SPR.RANK_RETRAINS i).key ≠ (Reg.DCH.STS_MODE (i.val / 4)).key ∧
    (Reg.SPR.RANK_MARGINAL i).key ≠ (Reg.DCH.STS_MODE (i.val / 4)).key ∧
    (Reg.EVT_STS 0x11 0).key ≠ (Reg.DCH.STS_MODE (i.val / 4)).key ∧
    Reg.SYS.PERSIST_FENCED.key ≠ (Reg.SPR.RANK_RETRAINS i).key := by
  revert i
  decide +kernel

theorem retrainCounted_count (i : Fin 64) (ok : Bool) (s : State) :
    get (Reg.SPR.RANK_RETRAINS i) (retrainCounted i ok s) = oneMore (Reg.SPR.RANK_RETRAINS i) s := by
  obtain ⟨hk, hr, -⟩ := retrain_keys i
  exact ((changes_trainRecord _ _ _ _ _).regs _ hr hk).trans (get_inc_same _ _)

/-- The writes that wait are released, and the rank leaves its retraining, with none waiting behind it. -/
def retrainLeft (i : Nat) (s : State) : State :=
  modeShow (i / 4) { s with dram := { s.dram with retraining := s.dram.retraining.filter (· != i) } }

theorem leaveRetrain_none {i : Nat} {s : State} (h : s.dram.retrainWaiting = []) : leaveRetrain i s = retrainLeft i s
    := by
  unfold leaveRetrain
  dsimp only
  split
  case h_1 w hw =>
    rw [h] at hw
    exact absurd hw (by simp)
  case h_2 => rfl

/-- The writes that waited for the retraining of a rank may issue. -/
def heldReleased (i : Nat) (s : State) : State :=
  setWrites (s.dram.writes.map fun e => if e.held && rankOfLine e.line s == i then { e with held := false } else e) s

theorem releaseHeld_calm {i : Nat} {ok : Bool} {s : State} (h : ok = true ∨ fenced s = false) :
    releaseHeld i ok s = heldReleased i s := by
  unfold releaseHeld
  exact if_neg (by rcases h with h | h <;> simp [h])

/-- How a retraining ends. -/
def retrainEnded (i : Nat) (s : State) : State := retrainLeft i (heldReleased i s)

theorem leaveRetrain_calm {i : Nat} {ok : Bool} {s : State} (h : ok = true ∨ fenced s = false)
    (hw : s.dram.retrainWaiting = []) : leaveRetrain i (releaseHeld i ok s) = retrainEnded i s := by
  rw [releaseHeld_calm h]
  exact leaveRetrain_none (s := heldReleased i s) hw

theorem changes_retrainEnded (i : Nat) (s : State) : Changes [.dram] [Reg.DCH.STS_MODE (i / 4)] s (retrainEnded i s) :=
  (((Changes.refl _ _ s).in_dram _ (by simp)).in_dram _ (by simp)).set _ _ (by simp)

theorem retrainEnded_shown (i : Nat) (s : State) : i ∉ (retrainEnded i s).dram.retraining ∧
    (retrainEnded i s).dram.settings = s.dram.settings ∧ (retrainEnded i s).dram.lastGood = s.dram.lastGood ∧
    (retrainEnded i s).dram.mem = s.dram.mem := by
  refine ⟨fun h => ?_, rfl, rfl, rfl⟩
  have hmem : i ∈ s.dram.retraining.filter (· != i) := h
  simpa using (List.mem_filter.1 hmem).2

/-- The retraining that passes the limit raises the rank's source (R156). -/
def limitRaised (i n : Nat) (above : Bool) (s : State) : State :=
  when above (fun s => raiseSimple (64 + i) 1 i (rankWord i s) n s) s

theorem retrained_eq {i : Nat} {ok : Bool} {s : State} (h : i ∈ s.dram.retraining) :
    retrained i ok s = (retrainCounted i ok s
      |> limitRaised i (retrainCount i s + 1) (retrainCount i s + 1 = get Reg.SPR.TRAIN_RETRAIN_MAX s + 1)
      |> when (!ok) (marginal i) |> when ok (keepSettings [i]) |> releaseHeld i ok |> leaveRetrain i) :=
  if_neg (by simp [h])

section
variable {s : State} (hs : Ready s) {rank : Fin 64} (hin : rank.val ∈ s.dram.retraining)
  (hw : s.dram.retrainWaiting = [])
include hs hin hw

theorem completes_retrainGood (hn : retrainCount rank s < get Reg.SPR.TRAIN_RETRAIN_MAX s) :
    Completes (.retrainDone rank true) s fun t =>
      rank.val ∉ t.dram.retraining ∧ get (Reg.SPR.RANK_RETRAINS rank) t = oneMore (Reg.SPR.RANK_RETRAINS rank) s ∧
      look t.dram.lastGood rank = look t.dram.settings rank ∧
      (∀ x, readByte x t = readByte x s) ∧ portsCore t.hp = portsCore s.hp := by
  obtain ⟨hk, -, -, hmode, -⟩ := retrain_keys rank
  have hcounted := changes_retrainCounted rank true (begun s)
  have hkeep := changes_keepSettings [rank.val] (retrainCounted rank true (begun s))
  have hcount := retrainCounted_count rank true (begun s)
  have hgood := keepSettings_good rank (retrainCounted rank true (begun s))
  have hmem : (keepSettings [rank.val] (retrainCounted rank true (begun s))).dram.mem = s.dram.mem :=
    (keepSettings_dram _ _).2.trans (by rw [retrainCounted_dram])
  have hwait : (keepSettings [rank.val] (retrainCounted rank true (begun s))).dram.retrainWaiting = [] :=
    (keepSettings_waiting _ _).trans (by rw [retrainCounted_dram]; exact hw)
  have heff := retrained_eq (i := rank) (ok := true) (s := begun s) hin
  rw [show (decide (retrainCount rank (begun s) + 1 = get Reg.SPR.TRAIN_RETRAIN_MAX (begun s) + 1)) = false from
    decide_eq_false fun h => absurd (Nat.succ.inj h) (Nat.ne_of_lt hn)] at heff
  change retrained rank true (begun s) = (keepSettings [rank.val] (retrainCounted rank true (begun s))
    |> releaseHeld rank true |> leaveRetrain rank) at heff
  generalize keepSettings [rank.val] (retrainCounted rank true (begun s)) = v at *
  generalize retrainCounted rank true (begun s) = u at *
  rw [leaveRetrain_calm (.inl rfl) hwait] at heff
  have hend := changes_retrainEnded rank v
  obtain ⟨hnot, hset, hlast, hm⟩ := retrainEnded_shown rank v
  refine .leaves hs rfl heff (hend.reqs.trans (hkeep.reqs.trans (hcounted.reqs.trans hs.2))) fun t k =>
    ⟨?_, k.stored hk ?_, ?_, k.bytes (hm.trans hmem), ?_⟩
  · rw [k.dram]
    exact hnot
  · rw [hend.regs _ (fun h => hmode (List.mem_singleton.1 h)) hk, hkeep.regs _ (by simp) hk, hcount]
    rfl
  · rw [k.dram]
    exact (congrArg (fun l => look l rank.val) hlast).trans (hgood.trans (congrArg
        (fun l => look l rank.val) hset).symm)
  · rw [(hend.ended k).hp (by simp), hkeep.hp (by simp), hcounted.hp (by simp)]

end

/-! ### A retraining without a working setting (R157) -/

/-- A rank without a working setting returns to its last good one and shows itself marginal. -/
def marginalShown (i : Nat) (s : State) : State :=
  s |> returnSettings i |> set (Reg.SPR.RANK_MARGINAL i) 1 |> event 0x11 0

/-- A marginal rank is retired where a spare waits for it. -/
def marginalRetired (i : Nat) (s : State) : State :=
  when (isSet Reg.SPR.CFG_AUTO_MIGRATE s && decide (s.dram.migWaiting.length < (freeSpares s).length)) (retireRank i) s

theorem marginal_eq (i : Nat) (s : State) : ∃ a b,
    marginal i s = marginalRetired i (raiseSimple i 1 i a b (marginalShown i s)) := ⟨_, _, rfl⟩

theorem changes_marginalShown (i : Nat) (s : State) :
    Changes [.dram] [Reg.SPR.RANK_MARGINAL i, Reg.EVT_STS 0x11 0] s (marginalShown i s) := by
  have hset : Changes [.dram] [Reg.SPR.RANK_MARGINAL i, Reg.EVT_STS 0x11 0] s (returnSettings i s) := by
    unfold returnSettings
    split
    · exact (Changes.refl _ _ s).in_dram _ (by simp)
    · exact .refl _ _ s
  exact (hset.set _ _ (by simp)).event _ _ (by simp)

/-- The settings that a marginal rank returns to. -/
theorem marginalShown_dram (i : Nat) (s : State) : (marginalShown i s).dram.mem = s.dram.mem ∧
    (marginalShown i s).dram.retrainWaiting = s.dram.retrainWaiting ∧
    (∀ w, look s.dram.lastGood i = some w → look (marginalShown i s).dram.settings i = some w) := by
  show (returnSettings i s).dram.mem = _ ∧ (returnSettings i s).dram.retrainWaiting = _ ∧
    ∀ w, _ → look (returnSettings i s).dram.settings i = some w
  unfold returnSettings
  split
  case h_1 w hw =>
    refine ⟨rfl, rfl, fun v hv => ?_⟩
    obtain rfl : w = v := Option.some.inj (hw.symm.trans hv)
    exact look_insert_same _ _ _ (look_drop_same _ _)
  case h_2 hn => exact ⟨rfl, rfl, fun v hv => absurd hv (by rw [hn]; simp)⟩

/-- What is kept of the DRAM side where a rank is retired. -/
theorem marginalRetired_shown (i : Nat) (s : State) :
    Changes [.hp, .dram] [Reg.EVT_STS 0x11 1, Reg.SPR.MIG_STS_QUEUED] s (marginalRetired i s) ∧
    (marginalRetired i s).dram.mem = s.dram.mem ∧
    (marginalRetired i s).dram.retrainWaiting = s.dram.retrainWaiting ∧
    (marginalRetired i s).dram.settings = s.dram.settings := by
  unfold marginalRetired
  rw [when]
  split
  case isFalse => exact ⟨.refl _ _ s, rfl, rfl, rfl⟩
  case isTrue h =>
    have hfree : ¬ (freeSpares s).length ≤ s.dram.migWaiting.length := by
      simp only [Bool.and_eq_true, decide_eq_true_eq] at h
      omega
    unfold retireRank
    split
    · exact ⟨.refl _ _ s, rfl, rfl, rfl⟩
    · exact ⟨((((Changes.refl _ _ s).event _ _ (by simp)).in_hp _ (by simp)).in_dram _ (by simp)).set _ _ (by simp),
        rfl, rfl, rfl⟩

/-- What shows of a rank that does not train. -/
def failedFields (i : Nat) : List Fld := [Reg.SPR.RANK_RETRAINS i, Reg.SPR.RANK_MARGINAL i, Reg.EVT_STS 0x11 0]

theorem failed_keys (i : Fin 64) : (∀ f ∈ Reg.SYS.PERSIST_FENCED :: failedFields i,
      f.key ∉ (raiseFields i).map Fld.key ∧
      f.key ∉ [Reg.EVT_STS 0x11 1, Reg.SPR.MIG_STS_QUEUED].map Fld.key ∧ f.key ∉ settleKeys) ∧
    (∀ f ∈ [Reg.SYS.PERSIST_FENCED, Reg.SPR.RANK_RETRAINS i], f.key ∉ (raiseFields (64 + i)).map Fld.key ∧
      f.key ∉ [Reg.SPR.RANK_MARGINAL i, Reg.EVT_STS 0x11 0].map Fld.key) ∧
    (Reg.SPR.RANK_MARGINAL i).key ≠ (Reg.EVT_STS 0x11 0).key ∧
    Reg.SYS.PERSIST_FENCED.key ∉ (Reg.SPR.RANK_RETRAINS i :: recordFields 3).map Fld.key := by
  revert i
  decide +kernel

theorem failed_source (i : Fin 64) :
    (∀ f ∈ sourceCard i, f.key ∉ (Reg.SPR.RANK_RETRAINS i :: recordFields 3).map Fld.key ∧
      f.key ∉ (raiseFields (64 + i)).map Fld.key ∧
      f.key ∉ [Reg.SPR.RANK_MARGINAL i, Reg.EVT_STS 0x11 0].map Fld.key ∧
      f.key ∉ [Reg.EVT_STS 0x11 1, Reg.SPR.MIG_STS_QUEUED].map Fld.key ∧
      f.key ∉ [Reg.DCH.STS_MODE (i.val / 4)].map Fld.key) ∧
    (∀ f ∈ sourceCard (64 + i), f.key ∉ (Reg.SPR.RANK_RETRAINS i :: recordFields 3).map Fld.key) := by
  revert i
  decide +kernel

theorem changes_limitRaised {i n : Nat} {above : Bool} {s : State} (h : Calm (64 + i) s) :
    Changes raiseParts (raiseFields (64 + i)) s (limitRaised i n above s) :=
  when_keeps (Changes raiseParts (raiseFields (64 + i)) s) _ _ s (.refl _ _ s) fun _ => changes_raiseSimple h _ _ _ _

/-- What a retraining that fails leaves, before its writes are released. -/
structure FailedTraining (i : Nat) (s t : State) : Prop where
  count : get (Reg.SPR.RANK_RETRAINS i) t = oneMore (Reg.SPR.RANK_RETRAINS i) s
  marginal : get (Reg.SPR.RANK_MARGINAL i) t = 1
  event : get (Reg.EVT_STS 0x11 0) t = 1
  sticky : Fresh i s → get (Reg.FLS.STICKY i) t = 1
  fence : fenced t = fenced s
  settings : ∀ w, look s.dram.lastGood i = some w → look t.dram.settings i = some w
  mem : t.dram.mem = s.dram.mem
  waiting : t.dram.retrainWaiting = s.dram.retrainWaiting
  reqs : t.reqs = s.reqs

theorem failedTraining (i : Fin 64) {s : State} (n : Nat) (above : Bool) (h1 : Calm i s) (h2 : Calm (64 + i) s) :
    FailedTraining i s (marginal i (limitRaised i n above (retrainCounted i false s))) := by
  obtain ⟨hend, hlimit, hne, hfence⟩ := failed_keys i
  obtain ⟨hcard, hcard64⟩ := failed_source i
  have hi : i.val < 384 := by omega
  have hcounted := changes_retrainCounted i false s
  have hcount := retrainCounted_count i false s
  have hdram := retrainCounted_dram i false s
  have hsource := hcounted.source hi fun f hf => (hcard f hf).1
  have hraise := changes_limitRaised (n := n) (above := above)
    ((hcounted.source (n := 64 + i) (by omega) hcard64).calm h2)
  generalize retrainCounted i false s = u at *
  have hsource1 := hsource.trans (hraise.source hi fun f hf => (hcard f hf).2.1)
  generalize limitRaised i n above u = v at *
  have hshown := changes_marginalShown i v
  obtain ⟨hm, hw, hset⟩ := marginalShown_dram i v
  have hmarginal : get (Reg.SPR.RANK_MARGINAL i) (marginalShown i v) = 1 :=
    (get_set_other _ _ hne).trans (get_set_same _ _ _)
  have hevent : get (Reg.EVT_STS 0x11 0) (marginalShown i v) = 1 := get_set_same _ _ _
  obtain ⟨a, b, heq⟩ := marginal_eq i v
  rw [heq]
  have hsource2 := hsource1.trans (hshown.source hi fun f hf => (hcard f hf).2.2.1)
  generalize marginalShown i v = x at *
  have hraised : Fresh i s → Raised i s (raiseSimple i 1 i a b x) := fun hf =>
    hsource2.raised (raised_raiseSimple (hsource2.fresh hf) (by
      simp only [srcReserved, Bool.or_eq_false_iff, Bool.and_eq_false_iff, decide_eq_false_iff_not]
      omega) hi _ _ _ _)
  have hr := changes_raiseSimple (hsource2.calm h1) 1 i a b
  generalize raiseSimple i 1 i a b x = y at *
  obtain ⟨hc, hm2, hw2, hset2⟩ := marginalRetired_shown i y
  generalize marginalRetired i y = z at *
  have hydram : y.dram = x.dram := hr.dram (by decide)
  have hvdram : v.dram = { s.dram with retrainCounts := s.dram.retrainCounts ++ [(i.val, now s)] } :=
    (hraise.dram (by decide)).trans hdram
  have hlast : ∀ f ∈ Reg.SYS.PERSIST_FENCED :: failedFields i, get f z = get f x := fun f hf => by
    obtain ⟨k1, k2, k3⟩ := hend f hf
    rw [hc.regs _ k2 k3, hr.regs _ k1 k3]
  have hfirst : ∀ f ∈ [Reg.SYS.PERSIST_FENCED, Reg.SPR.RANK_RETRAINS i], get f x = get f u := fun f hf => by
    obtain ⟨k1, k2⟩ := hlimit f hf
    have k3 : f.key ∉ settleKeys := (hend f (by
      simp only [List.mem_cons, List.not_mem_nil, or_false] at hf
      rcases hf with rfl | rfl <;> simp [failedFields])).2.2
    rw [hshown.regs _ k2 k3, hraise.regs _ k1 k3]
  refine ⟨?_, ?_, ?_, fun hf => ?_, ?_, fun w hw => ?_, ?_, ?_, ?_⟩
  · rw [hlast _ (by simp [failedFields]), hfirst _ (by simp), hcount]
  · rw [hlast _ (by simp [failedFields]), hmarginal]
  · rw [hlast _ (by simp [failedFields]), hevent]
  · exact ((hc.source hi fun f hf => (hcard f hf).2.2.2.1).stays (hraised hf)).1
  · rw [fenced, fenced, isSet, isSet, hlast _ (by simp), hfirst _ (by simp), hcounted.regs _ hfence (by decide)]
  · rw [hset2, hydram]
    exact hset w (by rw [hvdram]; exact hw)
  · rw [hm2, hydram, hm, hvdram]
  · rw [hw2, hydram, hw, hvdram]
  · rw [hc.reqs, hr.reqs, hshown.reqs, hraise.reqs, hcounted.reqs]

section
variable {s : State} (hs : Ready s) {rank : Fin 64} (hin : rank.val ∈ s.dram.retraining)
  (hw : s.dram.retrainWaiting = [])
include hs hin hw

theorem completes_retrainFailed (hfence : fenced s = false) (h1 : Calm rank s) (h2 : Calm (64 + rank) s) :
    Completes (.retrainDone rank false) s fun t =>
      rank.val ∉ t.dram.retraining ∧ get (Reg.SPR.RANK_RETRAINS rank) t = oneMore (Reg.SPR.RANK_RETRAINS rank) s ∧
      get (Reg.SPR.RANK_MARGINAL rank) t = 1 ∧ get (Reg.EVT_STS 0x11 0) t = 1 ∧
      (Fresh rank s → get (Reg.FLS.STICKY rank) t = 1) ∧
      (∀ w, look s.dram.lastGood rank = some w → look t.dram.settings rank = some w) ∧
      (∀ x, readByte x t = readByte x s) := by
  obtain ⟨hk, -, hkm, hmode, hmm, hme, -⟩ := retrain_keys rank
  have hf := failedTraining rank (s := begun s) (retrainCount rank (begun s) + 1)
    (retrainCount rank (begun s) + 1 = get Reg.SPR.TRAIN_RETRAIN_MAX (begun s) + 1) h1 h2
  have heff := retrained_eq (i := rank) (ok := false) (s := begun s) hin
  change retrained rank false (begun s) = (marginal rank (limitRaised rank (retrainCount rank (begun s) + 1)
    (retrainCount rank (begun s) + 1 = get Reg.SPR.TRAIN_RETRAIN_MAX (begun s) + 1) (retrainCounted rank false
        (begun s)))
    |> releaseHeld rank false |> leaveRetrain rank) at heff
  generalize marginal rank (limitRaised rank (retrainCount rank (begun s) + 1)
    (retrainCount rank (begun s) + 1 = get Reg.SPR.TRAIN_RETRAIN_MAX (begun s) + 1)
    (retrainCounted rank false (begun s))) = v at *
  rw [leaveRetrain_calm (.inr (hf.fence.trans hfence)) (hf.waiting.trans hw)] at heff
  have hend := changes_retrainEnded rank v
  obtain ⟨hnot, hset, -, hm⟩ := retrainEnded_shown rank v
  have hget : ∀ f : Fld, f.key ≠ (Reg.DCH.STS_MODE (rank.val / 4)).key → f.key ∉ settleKeys →
      get f (retrainEnded rank v) = get f v := fun f hne hks =>
    hend.regs _ (fun h => hne (List.mem_singleton.1 h)) hks
  refine .leaves hs rfl heff (hend.reqs.trans (hf.reqs.trans hs.2)) fun t k =>
    ⟨?_, k.stored hk ?_, k.stored hkm ?_, k.stored (by decide) ?_, fun hfr => ?_, fun w hlast => ?_,
      k.bytes (hm.trans hf.mem)⟩
  · rw [k.dram]
    exact hnot
  · exact (hget _ hmode hk).trans hf.count
  · exact (hget _ hmm hkm).trans hf.marginal
  · exact (hget _ hme (by decide)).trans hf.event
  · have hsource : SameSource rank v t := (hend.source (by omega) fun f hf => ((failed_source rank).1 f
      hf).2.2.2.2).trans
      (SameSource.settle (by omega) k)
    rw [hsource _ (by simp [sourceCard, sourceFields])]
    exact hf.sticky hfr
  · rw [k.dram]
    exact (congrArg (fun l => look l rank.val) hset).trans (hf.settings w hlast)

end

/-- Settles O24. -/
theorem trainingCommands : Obligations.TrainingCommands := by
  unfold Obligations.TrainingCommands
  intro s hs
  exact ⟨fun r hb ht hf hm hp => completes_trainingGood hs hb ht hf hm hp, fun r hb ht => completes_trainingDone hs hb
      ht,
    fun rank ht hr h0 hm hother hw => completes_retrain hs rank ht hr h0 hm hother hw,
    fun rank hin hw hn => completes_retrainGood hs hin hw hn,
    fun rank hin hw hf h1 h2 => completes_retrainFailed hs hin hw hf h1 h2⟩

end Sys2Proof.Machine
end

section
/-! SUPPORT. The fields of a context, its state, and the writes that wait for it (R177 to R180, R189). -/

namespace Sys2Proof.Machine
set_option Elab.async false

/-! ### The fields of a context -/

/-- The fields of a context that its own commands set. -/
def ctxOwn (g : Nat) : List Fld :=
  [ctxSts g, ctxRes g, ctxFrm g, Reg.TXC.CTX_STS_CLEARING (g / 16) (g % 16), Reg.TXC.CTX_TAG_TAG (g / 16) (g % 16),
    Reg.TXC.CTX_TAG_PARTS (g / 16) (g % 16)] ++ ctxFlags g

/-- What the use of the undo log and of the Hold set shows. -/
def useShown : List Fld := txnShown ++ replayFields

/-- A context's fields stand apart. -/
theorem ctx_keys (g : Fin 64) : (∀ f ∈ ctxOwn g, f.key ∉ settleKeys ∧ f.key ∉ useShown.map Fld.key) ∧
    ((ctxOwn g).map Fld.key).Nodup := by
  revert g
  decide +kernel

/-- Distinct fields of a context stand at distinct places. -/
theorem ctx_apart (g : Fin 64) (i j : Nat) (hi : i < 16) (hj : j < 16) (hne : i ≠ j) :
    ((ctxOwn g).map Fld.key).getD i 0 ≠ ((ctxOwn g).map Fld.key).getD j 0 := by
  have hlen : ((ctxOwn g).map Fld.key).length = 16 := rfl
  rw [List.getD_eq_getElem _ _ (by omega), List.getD_eq_getElem _ _ (by omega)]
  exact fun h => hne ((ctx_keys g).2.getElem_inj_iff.1 h)

/-! ### The state of a context -/

theorem changes_txnShow (s : State) : Changes [] txnShown s (txnShow s) :=
  ((((Changes.refl _ _ s).set _ _ (by simp [txnShown])).set _ _ (by simp [txnShown])).set _ _
      (by simp [txnShown])).set _ _
    (by simp [txnShown])

theorem changes_replayShow (s : State) : Changes [] replayFields s (replayShow s) :=
  (((Changes.refl _ _ s).set _ _ (by simp [replayFields])).put1 _ _ (by simp [replayFields])).set _ _
    (by simp [replayFields])

theorem changes_setCtxState (g st : Nat) (s : State) :
    Changes [] ([ctxSts g, ctxFrm g] ++ txnShown) s (setCtxState g st s) :=
  (((Changes.refl _ _ s).set _ _ (by simp)).set _ _ (by simp)).trans
    ((changes_txnShow _).widen (fun _ h => h) (List.subset_append_right _ _))

/-- The state and the frame that a context is set to. -/
theorem get_setCtxState (g : Fin 64) (st : Nat) (s : State) :
    ctxState g (setCtxState g st s) = st % 16 ∧
    get (ctxFrm g) (setCtxState g st s) = ((look s.txn.ends g).getD 0) % 2 ^ 32 := by
  obtain ⟨hk, -⟩ := ctx_keys g
  obtain ⟨hs1, hs2⟩ := hk (ctxSts g) (by simp [ctxOwn])
  obtain ⟨hf1, hf2⟩ := hk (ctxFrm g) (by simp [ctxOwn])
  have hne := ctx_apart g 0 2 (by decide) (by decide) (by decide)
  rw [useShown, List.map_append, List.mem_append, not_or] at hs2 hf2
  exact ⟨((changes_txnShow _).regs _ hs2.1 hs1).trans ((get_set_other _ _ hne).trans (get_set_same _ _ _)),
    ((changes_txnShow _).regs _ hf2.1 hf1).trans (get_set_same _ _ _)⟩

/-! ### Writes that wait -/

theorem changes_holdWaitShow (s : State) : Changes [] holdWaits s (holdWaitShow s) :=
  (Changes.refl _ _ s).each _ _ fun _ hg _ hu => .branch _ hu
    (hu.put1 _ _ (List.mem_map_of_mem (List.mem_map_of_mem hg)))

/-- The fields of every port that a dropped write may change. -/
def dropKey (k : Nat) : Bool := k / 32 % 4096 == 0x110 || (k / 32 % 4096 == 0x18 && k % 32 == 3)

theorem dropWrite_key (q : Stalled) : dropKey (Reg.HPT.DROPPED_WR_COUNT q.port).key = true ∧
    dropKey (Reg.EVT_STS (8 + q.port) 3).key = true := by
  simp only [dropKey, Fld.key, Reg.HPT.DROPPED_WR_COUNT, Reg.EVT_STS, Bool.or_eq_true, Bool.and_eq_true, beq_iff_eq]
  omega

theorem changes_dropWrite (q : Stalled) (s : State) :
    Changes [.hp] [Reg.HPT.DROPPED_WR_COUNT q.port, Reg.EVT_STS (8 + q.port) 3] s (dropWrite q s) :=
  (((Changes.refl _ _ s).inc _ (by simp)).event _ _ (by simp)).in_hp _ (by simp)

theorem dropWrite_stalled (q : Stalled) (s : State) : (dropWrite q s).hp.stalled = s.hp.stalled := rfl

/-- The writes of a context that wait. -/
def waitingOf (g : Nat) (s : State) : List Stalled := s.hp.stalled.filter (fun q => q.ctx == some g)

/-- The writes of other contexts wait on. -/
def waitsLeft (g : Nat) (s : State) : State :=
  { s with hp := { s.hp with stalled := s.hp.stalled.filter (fun q => q.ctx != some g) } }

theorem dropWaiting_eq (g : Nat) (s : State) : ∃ b, dropWaiting g s = holdWaitShow (forEach (waitingOf g s) dropWrite
    (when b (set (Reg.TXC.CTX_STS_LATE_WR (g / 16) (g % 16)) 1) (waitsLeft g s))) ∧
    (s.hp.stalled = [] → b = false) := by
  refine ⟨_, rfl, fun h => ?_⟩
  rw [h]
  rfl

/-- The end of a context's waits leaves memory and all but the fields of ports and its LATE_WR. -/
theorem dropWaiting_shown (g : Nat) (s : State) :
    (∀ q ∈ (dropWaiting g s).hp.stalled, q.ctx ≠ some g) ∧ (dropWaiting g s).dram = s.dram ∧
    (dropWaiting g s).txn = s.txn ∧ (dropWaiting g s).reqs = s.reqs ∧
    ∀ f : Fld, dropKey f.key = false → f.key ≠ (Reg.TXC.CTX_STS_LATE_WR (g / 16) (g % 16)).key →
      f.key ∉ holdWaits.map Fld.key → f.key ∉ settleKeys → get f (dropWaiting g s) = get f s := by
  obtain ⟨b, heq, -⟩ := dropWaiting_eq g s
  have hlate : Changes [.hp] [Reg.TXC.CTX_STS_LATE_WR (g / 16) (g % 16)] s
      (when b (set (Reg.TXC.CTX_STS_LATE_WR (g / 16) (g % 16)) 1) (waitsLeft g s)) :=
    ((Changes.refl [.hp] _ s).in_hp { s.hp with stalled := s.hp.stalled.filter (fun q => q.ctx != some g) }
      (by simp)).cond _ _ fun _ h => h.set _ _ (by simp)
  have hstalled : (when b (set (Reg.TXC.CTX_STS_LATE_WR (g / 16) (g % 16)) 1) (waitsLeft g s)).hp.stalled =
      s.hp.stalled.filter (fun q => q.ctx != some g) :=
    when_keeps (fun u : State => u.hp.stalled = _) _ _ _ rfl fun h => h
  have hshow := fun u => changes_holdWaitShow u
  rw [heq]
  generalize when b (set (Reg.TXC.CTX_STS_LATE_WR (g / 16) (g % 16)) 1) (waitsLeft g s) = u at *
  have hdrop : ∀ f : Fld, dropKey f.key = false → f.key ∉ settleKeys → ∀ l, get f (forEach l dropWrite u) = get f u :=
    fun f hf hk l => forEach_keeps (fun v => get f v = get f u) l _ u rfl fun q _ v hv => by
      obtain ⟨h1, h2⟩ := dropWrite_key q
      rw [(changes_dropWrite q v).regs f ?_ hk, hv]
      simp only [List.map_cons, List.map_nil, List.mem_cons, List.not_mem_nil, or_false, not_or]
      exact ⟨fun h => by rw [h, h1] at hf; exact absurd hf (by decide),
        fun h => by rw [h, h2] at hf; exact absurd hf (by decide)⟩
  have hrest : ∀ l, (forEach l dropWrite u).dram = u.dram ∧ (forEach l dropWrite u).txn = u.txn ∧
      (forEach l dropWrite u).reqs = u.reqs ∧ (forEach l dropWrite u).hp.stalled = u.hp.stalled := fun l =>
    forEach_keeps (fun v : State => v.dram = u.dram ∧ v.txn = u.txn ∧ v.reqs = u.reqs ∧ v.hp.stalled = u.hp.stalled) l
        _ u
      ⟨rfl, rfl, rfl, rfl⟩ fun q _ v hv => hv
  obtain ⟨hd, ht, hr, hst⟩ := hrest (waitingOf g s)
  refine ⟨fun q hq => ?_, ?_, ?_, ?_, fun f h1 h2 h3 h4 => ?_⟩
  · rw [(hshow _).ports (by simp) (·.stalled) fun _ => rfl, hst, hstalled] at hq
    simpa using (List.mem_filter.1 hq).2
  · rw [(hshow _).dram (by simp), hd, hlate.dram (by simp)]
  · rw [(hshow _).txn (by simp), ht, hlate.txn (by simp)]
  · rw [(hshow _).reqs, hr, hlate.reqs]
  · rw [(hshow _).regs f h3 h4, hdrop f h1 h4, hlate.regs f (fun h => h2 (List.mem_singleton.1 h)) h4]

theorem dropWaiting_none {g : Nat} {s : State} (h : s.hp.stalled = []) : Changes [] holdWaits s (dropWaiting g s) := by
  obtain ⟨b, heq, hb⟩ := dropWaiting_eq g s
  have hmine : waitingOf g s = [] := by rw [waitingOf, h]; rfl
  have hleft : waitsLeft g s = s := by
    rw [waitsLeft, h]
    show { s with hp := { s.hp with stalled := [] } } = s
    rw [← h]
  rw [heq, hb h, hmine, hleft]
  exact changes_holdWaitShow s

/-! ### A context enters ABORTING (R189) -/

theorem changes_startAbort (g : Nat) (s : State) :
    Changes [.txn] ([ctxSts g, ctxFrm g] ++ useShown) s (Machine.startAbort g s) := by
  have hin := (Changes.refl [.txn] ([ctxSts g, ctxFrm g] ++ useShown) s).in_txn
    { s.txn with replays := s.txn.replays ++ [g], requests := s.txn.requests.filter (·.ctx != g) } (by simp)
  exact (hin.trans ((changes_setCtxState g 5 _).widen (by simp) fun f hf => by
      simp only [useShown, List.mem_append] at hf ⊢
      tauto)).trans ((changes_replayShow _).widen (by simp) fun f hf => by
      simp only [useShown, List.mem_append]
      tauto)

/-- The replay of the context waits, and its request is gone. -/
theorem startAbort_shown (g : Fin 64) (s : State) :
    ctxState g (Machine.startAbort g s) = 5 ∧
    (Machine.startAbort g s).txn.replays = s.txn.replays ++ [g.val] ∧
    (∀ r ∈ (Machine.startAbort g s).txn.requests, r.ctx ≠ g) := by
  obtain ⟨hk, -⟩ := ctx_keys g
  obtain ⟨hs1, hs2⟩ := hk (ctxSts g) (by simp [ctxOwn])
  rw [useShown, List.map_append, List.mem_append, not_or] at hs2
  refine ⟨((changes_replayShow _).regs _ hs2.2 hs1).trans (get_setCtxState g 5 _).1, rfl, fun r hr => ?_⟩
  have hmem : r ∈ s.txn.requests.filter (·.ctx != g.val) := hr
  simpa using (List.mem_filter.1 hmem).2

end Sys2Proof.Machine
end

section
/-! SUPPORT. Stalled writes, clearing and replay of a context (R184, R188, R190, R191). -/

namespace Sys2Proof.Machine
set_option Elab.async false

/-! ### Waits that expire (R184) -/

/-- The keys beside a context's abort. -/
theorem abort_keys (g : Fin 64) : (∀ f ∈ [ctxSts g, ctxRes g, Reg.TXC.CTX_STS_HOLD_FULL (g.val / 16) (g.val % 16),
      Reg.EVT_STS 0x44 0],
      dropKey f.key = false ∧ f.key ≠ (Reg.TXC.CTX_STS_LATE_WR (g.val / 16) (g.val % 16)).key ∧
      f.key ∉ holdWaits.map Fld.key ∧ f.key ∉ settleKeys) ∧
    (∀ f ∈ [ctxRes g, Reg.TXC.CTX_STS_HOLD_FULL (g.val / 16) (g.val % 16), Reg.EVT_STS 0x44 0],
      f.key ∉ ([ctxSts g, ctxFrm g] ++ useShown).map Fld.key) ∧
    (Reg.TXC.CTX_STS_HOLD_FULL (g.val / 16) (g.val % 16)).key ≠ (Reg.EVT_STS 0x44 0).key := by
  revert g
  decide +kernel

/-- What a wait that has expired shows. -/
def holdFull (g : Nat) (s : State) : State :=
  s |> set (Reg.TXC.CTX_STS_HOLD_FULL (g / 16) (g % 16)) 1 |> event 0x44 0

theorem completes_holdTimeout {s : State} (hs : Ready s) (g : Fin 64) (h1 : ctxState g s = 1)
    (he : holdExpired g s = true) :
    Completes (.holdStallTimeout g) s fun t =>
      ctxState g t = 5 ∧ get (Reg.TXC.CTX_STS_HOLD_FULL (g.val / 16) (g.val % 16)) t = 1 ∧
      get (Reg.EVT_STS 0x44 0) t = 1 ∧
      (∀ q ∈ t.hp.stalled, q.ctx ≠ some g.val) ∧ (∀ x, readByte x t = readByte x s) := by
  obtain ⟨hkeys, hbeside, hne⟩ := abort_keys g
  have heff : holdTimeout g (begun s) = dropWaiting g (Machine.startAbort g (holdFull g (begun s))) :=
    if_pos (by
      show (decide (ctxState g s = 1) && holdExpired g s) = true
      simp [h1, he])
  have hfull : get (Reg.TXC.CTX_STS_HOLD_FULL (g.val / 16) (g.val % 16)) (holdFull g (begun s)) = 1 :=
    (get_set_other _ _ hne).trans (get_set_same _ _ _)
  have hevent : get (Reg.EVT_STS 0x44 0) (holdFull g (begun s)) = 1 := get_set_same _ _ _
  have hmem : (holdFull g (begun s)).dram = s.dram := rfl
  have hreqs : (holdFull g (begun s)).reqs = [] := hs.2
  generalize holdFull g (begun s) = u at *
  have ha := changes_startAbort g u
  obtain ⟨hstate, -⟩ := startAbort_shown g u
  generalize Machine.startAbort g u = v at *
  obtain ⟨hq, hd, -, hr, hget⟩ := dropWaiting_shown g v
  have hkept : ∀ f ∈ [ctxSts g, ctxRes g, Reg.TXC.CTX_STS_HOLD_FULL (g.val / 16) (g.val % 16), Reg.EVT_STS 0x44 0],
      get f (dropWaiting g v) = get f v ∧ f.key ∉ settleKeys := fun f hf => by
    obtain ⟨k1, k2, k3, k4⟩ := hkeys f hf
    exact ⟨hget f k1 k2 k3 k4, k4⟩
  obtain ⟨e1, k1⟩ := hkept (ctxSts g) (by simp)
  obtain ⟨e2, k2⟩ := hkept (Reg.TXC.CTX_STS_HOLD_FULL (g.val / 16) (g.val % 16)) (by simp)
  obtain ⟨e3, k3⟩ := hkept (Reg.EVT_STS 0x44 0) (by simp)
  refine .leaves hs (f := holdTimeout g) rfl heff (hr.trans (ha.reqs.trans hreqs)) fun t k =>
    ⟨k.stored k1 (e1.trans hstate), k.stored k2 (e2.trans ?_), k.stored k3 (e3.trans ?_), ?_,
      k.bytes (congrArg Dram.mem (hd.trans ((ha.dram (by simp)).trans hmem)))⟩
  · rw [ha.regs _ (hbeside _ (by simp)) k2, hfull]
  · rw [ha.regs _ (hbeside _ (by simp)) k3, hevent]
  · rw [k.ports (·.stalled) fun _ => rfl]
    exact hq

/-! ### Clearing of a column (R188) -/

/-- The fields that a change of an entry may move. -/
def entryFields : List Fld :=
  [Reg.MRV.LOST_COUNT, Reg.MRV.HELD_COUNT, Reg.MRV.TWIN_DIRTY_COUNT, Reg.MRV.GROUPS_SET, Reg.MRV.DIRTY_COUNT]

/-- The granules of the pairs are no longer held. -/
def heldCleared (l : List Pair) (s : State) : State :=
  forEach l (fun p s =>
    if isHeld p.granule s then s else putEntry p.granule { entryOf p.granule s with txHeld := false } s) s

theorem changes_heldCleared (l : List Pair) (s : State) : Changes [.mrv] entryFields s (heldCleared l s) :=
  (Changes.refl _ _ s).each _ _ fun _ _ _ hu => .branch _ hu (hu.trans (changes_putEntry _ _ _))

/-- A column that is cleared shows it. -/
def columnShown (g : Nat) (s : State) : State :=
  s |> set (Reg.TXC.CTX_STS_CLEARING (g / 16) (g % 16)) 0 |> set (Reg.TXC.CTX_HELD_GRANULES (g / 16) (g % 16)) 0
    |> txnShow

theorem clearColumn_eq (g : Fin 64) (s : State) : clearColumn g s = columnShown g
    (heldCleared (s.txn.pairs.filter (·.ctx == g.val)) (setPairs (s.txn.pairs.filter (·.ctx != g.val)) s)) := by
  unfold clearColumn
  dsimp only
  rw [decide_eq_true g.isLt, when_true]
  rfl

theorem changes_columnShown (g : Nat) (s : State) : Changes []
    ([Reg.TXC.CTX_STS_CLEARING (g / 16) (g % 16), Reg.TXC.CTX_HELD_GRANULES (g / 16) (g % 16)] ++ txnShown) s
    (columnShown g s) :=
  (((Changes.refl _ _ s).set _ _ (by simp)).set _ _ (by simp)).trans
    ((changes_txnShow _).widen (fun _ h => h) (List.subset_append_right _ _))

theorem columnShown_shown (g : Fin 64) (s : State) : ctxClearing g (columnShown g s) = false ∧
    get (Reg.TXC.CTX_HELD_GRANULES (g.val / 16) (g.val % 16)) (columnShown g s) = 0 := by
  obtain ⟨hk, -⟩ := ctx_keys g
  obtain ⟨c1, c2⟩ := hk (Reg.TXC.CTX_STS_CLEARING (g.val / 16) (g.val % 16)) (by simp [ctxOwn])
  obtain ⟨h1, h2⟩ := hk (Reg.TXC.CTX_HELD_GRANULES (g.val / 16) (g.val % 16)) (by simp [ctxOwn, ctxFlags])
  rw [useShown, List.map_append, List.mem_append, not_or] at c2 h2
  have hne := ctx_apart g 3 15 (by decide) (by decide) (by decide)
  have hc : get (Reg.TXC.CTX_STS_CLEARING (g.val / 16) (g.val % 16)) (columnShown g s) = 0 :=
    ((changes_txnShow _).regs _ c2.1 c1).trans ((get_set_other _ _ hne).trans (get_set_same _ _ _))
  exact ⟨by rw [ctxClearing, isSet, hc]; rfl, ((changes_txnShow _).regs _ h2.1 h1).trans (get_set_same _ _ _)⟩

theorem completes_clearingDone {s : State} (hs : Ready s) (g : Fin 64) (hc : ctxClearing g s = true) :
    Completes (.clearingDone g) s fun t => s.hp.stalled = [] →
      ctxClearing g t = false ∧ t.txn.pairs = s.txn.pairs.filter (fun p => p.ctx != g.val) ∧
      get (Reg.TXC.CTX_HELD_GRANULES (g.val / 16) (g.val % 16)) t = 0 ∧ (∀ x, readByte x t = readByte x s) := by
  obtain ⟨hk, -⟩ := ctx_keys g
  obtain ⟨c1, -⟩ := hk (Reg.TXC.CTX_STS_CLEARING (g.val / 16) (g.val % 16)) (by simp [ctxOwn])
  obtain ⟨h1, -⟩ := hk (Reg.TXC.CTX_HELD_GRANULES (g.val / 16) (g.val % 16)) (by simp [ctxOwn, ctxFlags])
  refine .leavesWhen hs (f := fun s => if ctxClearing g s then s |> clearColumn g |> retryStalled else s) rfl
    (if_pos (show ctxClearing g (begun s) = true from hc)) fun hst => ?_
  have hpairs : (setPairs (s.txn.pairs.filter (·.ctx != g.val)) (begun s)).txn.pairs =
      s.txn.pairs.filter (·.ctx != g.val) := rfl
  have hset : (setPairs (s.txn.pairs.filter (·.ctx != g.val)) (begun s)).dram = s.dram ∧
      (setPairs (s.txn.pairs.filter (·.ctx != g.val)) (begun s)).hp = s.hp ∧
      (setPairs (s.txn.pairs.filter (·.ctx != g.val)) (begun s)).reqs = [] := ⟨rfl, rfl, hs.2⟩
  rw [clearColumn_eq]
  change (retryStalled (columnShown g (heldCleared _ (setPairs (s.txn.pairs.filter (·.ctx != g.val))
      (begun s))))).reqs =
    [] ∧ ∀ t, Keeps settleKeys (retryStalled (columnShown g (heldCleared (s.txn.pairs.filter (·.ctx == g.val))
      (setPairs (s.txn.pairs.filter (·.ctx != g.val)) (begun s))))) t → _
  generalize setPairs (s.txn.pairs.filter (·.ctx != g.val)) (begun s) = u at *
  obtain ⟨hd, hp, hr⟩ := hset
  have hheld := changes_heldCleared (s.txn.pairs.filter (·.ctx == g.val)) u
  generalize heldCleared (s.txn.pairs.filter (·.ctx == g.val)) u = v at *
  have hcol := changes_columnShown g v
  obtain ⟨hclear, hgran⟩ := columnShown_shown g v
  generalize columnShown g v = x at *
  have hstx : x.hp.stalled = [] := by
    rw [hcol.ports (by simp) (·.stalled) fun _ => rfl, hheld.ports (by simp) (·.stalled) fun _ => rfl, hp, hst]
  rw [retryStalled_none hstx]
  refine ⟨hcol.reqs.trans (hheld.reqs.trans hr), fun t k => ⟨?_, ?_, k.stored h1 hgran, fun y => ?_⟩⟩
  · rw [ctxClearing, isSet, k.get _ c1]
    exact hclear
  · rw [k.txn, hcol.txn (by simp), hheld.txn (by simp), hpairs]
  · rw [k.bytes (congrArg Dram.mem ((hcol.dram (by simp)).trans ((hheld.dram (by simp)).trans hd))) y]

/-! ### Replay of a line (R190, R191) -/

theorem changes_markWrite (g : Nat) (s : State) : Changes [.mrv] entryFields s (markWrite g none s) := by
  unfold markWrite
  refine .branch _ (.refl _ _ s) ?_
  dsimp only
  split
  · exact (changes_putEntry _ _ _).in_mrv _ (by simp)
  · exact changes_putEntry _ _ _
  · exact changes_putEntry _ _ _

/-- A write that is noted leaves the memory and the contexts. -/
theorem noteWrite_shown (line : Nat) (be : BitVec 64) (d : Line) (s : State) :
    (noteWrite line be d none none s).dram = s.dram ∧ (noteWrite line be d none none s).txn = s.txn ∧
    (noteWrite line be d none none s).reqs = s.reqs := by
  have hmark := changes_markWrite (granuleOf line s) s
  have hgen : ∀ u : State, (homeGenWrite (granuleOf line s) u).dram = u.dram ∧
      (homeGenWrite (granuleOf line s) u).txn = u.txn ∧ (homeGenWrite (granuleOf line s) u).reqs = u.reqs := fun u => by
    unfold homeGenWrite
    split <;> exact ⟨rfl, rfl, rfl⟩
  obtain ⟨hd, ht, hr⟩ := hgen (markWrite (granuleOf line s) none s)
  have hsent : ∀ u : State, (when (mirrored line s) (sendMirror line be d none) u).dram = u.dram ∧
      (when (mirrored line s) (sendMirror line be d none) u).txn = u.txn ∧
      (when (mirrored line s) (sendMirror line be d none) u).reqs = u.reqs := fun u =>
    when_keeps (fun v : State => v.dram = u.dram ∧ v.txn = u.txn ∧ v.reqs = u.reqs) _ _ u ⟨rfl, rfl, rfl⟩ fun h => h
  obtain ⟨hd2, ht2, hr2⟩ := hsent (homeGenWrite (granuleOf line s) (markWrite (granuleOf line s) none s))
  exact ⟨hd2.trans (hd.trans (hmark.dram (by simp))), ht2.trans (ht.trans (hmark.txn (by simp))),
    hr2.trans (hr.trans hmark.reqs)⟩

theorem landWrite_writes (e : WEntry) (s : State) : (landWrite e s).dram.writes = s.dram.writes := by
  have hw : (writeLine e.line e.be e.data s).dram.writes = s.dram.writes :=
    forEach_keeps (fun u : State => u.dram.writes = s.dram.writes) _ _ s rfl fun _ _ u hu =>
      when_keeps (fun v : State => v.dram.writes = s.dram.writes) _ _ u hu id
  have hn : (noteRepair e.line e.be (writeLine e.line e.be e.data s)).dram.writes = s.dram.writes := by
    unfold noteRepair
    split <;> exact hw
  unfold landWrite
  dsimp only
  split
  · exact hn
  · split
    · unfold clearPoisonAt
      split <;> exact hn
    · exact hn

/-- A line that takes a value at once: no queued write of it is left. -/
theorem putLine_shown (line : Nat) (d : Line) (s : State) :
    readLine line (putLine line d false s) = d ∧ isPoisoned line (putLine line d false s) = false ∧
    (∀ e ∈ (putLine line d false s).dram.writes, e.line ≠ line) ∧
    (∀ x, Outside line x → readByte x (putLine line d false s) = readByte x s) ∧
    Changes [.dram] [] s (putLine line d false s) := by
  have hland := changes_landWrite { line := line, ch := 0, sub := 0, be := allBytes, data := d, poison := false }
    (setWrites (s.dram.writes.filter (fun e => e.line != line)) s)
  have hwrites := landWrite_writes { line := line, ch := 0, sub := 0, be := allBytes, data := d, poison := false }
    (setWrites (s.dram.writes.filter (fun e => e.line != line)) s)
  refine ⟨?_, landWrite_poison _ rfl, fun e he => ?_, fun x hx => landWrite_outside _ hx,
    ((Changes.refl [.dram] [] s).in_dram { s.dram with writes := s.dram.writes.filter (fun e => e.line != line) }
      (by simp)).trans hland⟩
  · exact (landWrite_line _ _).trans (mergeLine_all _ _)
  · have hmem : e ∈ s.dram.writes.filter (fun e => e.line != line) := (congrArg (e ∈ ·) hwrites).mp he
    simpa using (List.mem_filter.1 hmem).2

theorem dropUndo_shown (c g line : Nat) (s : State) : ∀ q ∈ (dropUndo c g line s).txn.pairs, q.ctx = c → q.granule = g →
    line ∉ q.lines := by
  intro q hq hc hg
  obtain ⟨p, -, rfl⟩ := List.mem_map.1 hq
  split at hc
  case isTrue h =>
    rw [if_pos h]
    exact fun hm => by simpa using (List.mem_filter.1 hm).2
  case isFalse h =>
    rw [if_neg h] at hg
    exact absurd ⟨hc, hg⟩ h

/-- A good slab line goes back to its home line. -/
def replayed (g gr line : Nat) (d : Line) (s : State) : State :=
  s |> putLine line d false |> noteWrite line allBytes d none none |> dropUndo g gr line

theorem replayEntry_good {g gr line : Nat} {p : Pair} {s : State} (hp : pairOf g gr s = some p)
    (hpo : isPoisoned (slabLine p.slab line s) s = false) (hl : line ∉ p.poisoned) :
    replayEntry g gr line false s = replayed g gr line (readLine (slabLine p.slab line s) s) s := by
  unfold replayEntry
  rw [hp]
  dsimp only
  rw [hpo, show p.poisoned.contains line = false by simpa using hl]
  rfl

section
variable {s : State} (hs : Ready s) {g : Fin 64} {gr line : Nat} {p : Pair} {err : LineErrors}
  (hh : s.txn.replays.head? = some g.val) (hf : fenced s = false) (hn : nextUndo g s = some (gr, line))
  (hp : pairOf g gr s = some p) (hr : repairOf (slabLine p.slab line s) s = none)
  (hpo : isPoisoned (slabLine p.slab line s) s = false)
include hh hf hn

theorem replayLine_read : replayLine g err s = replayRead g gr line err s := by
  unfold replayLine
  rw [if_neg (by simp [hh, hf]), hn]

include hp hr hpo

theorem replayLine_good (hd : decodeLine (isSet Reg.DMC.CFG_X8 s) err = .good) :
    replayLine g err s = replayEntry g gr line false s := by
  rw [replayLine_read hh hf hn]
  unfold replayRead
  rw [hp]
  dsimp only [Option.map_some, Option.getD_some]
  rw [if_neg (by rw [hr]; decide), if_neg (by rw [hpo]; decide), hd]

theorem replayLine_asked (hd : decodeLine (isSet Reg.DMC.CFG_X8 s) err = .uncorrectable)
    (ht : twinServes (slabLine p.slab line s) s = true) :
    replayLine g err s = startRepair (slabLine p.slab line s) .undo s := by
  rw [replayLine_read hh hf hn]
  unfold replayRead
  rw [hp]
  dsimp only [Option.map_some, Option.getD_some]
  rw [if_neg (by rw [hr]; decide), if_neg (by rw [hpo]; decide), hd]
  exact if_pos ht

include hs

theorem completes_replayGood (hd : decodeLine (isSet Reg.DMC.CFG_X8 s) err = .good) (hl : line ∉ p.poisoned) :
    Completes (.replayLine g err) s fun t =>
      readLine line t = readLine (slabLine p.slab line s) s ∧ isPoisoned line t = false ∧
      (∀ e ∈ t.dram.writes, e.line ≠ line) ∧
      (∀ q ∈ t.txn.pairs, q.ctx = g → q.granule = gr → line ∉ q.lines) ∧
      (∀ x, Outside line x → readByte x t = readByte x s) := by
  have heff := (replayLine_good (s := begun s) hh hf hn hp hr hpo hd).trans (replayEntry_good (s := begun s) hp hpo hl)
  rw [show slabLine p.slab line (begun s) = slabLine p.slab line s from rfl,
    readLine_congr _ (show (begun s).dram.mem = s.dram.mem from rfl)] at heff
  generalize readLine (slabLine p.slab line s) s = d at *
  unfold replayed at heff
  obtain ⟨hread, hpoison, hwrites, hrest, hc⟩ := putLine_shown line d (begun s)
  generalize putLine line d false (begun s) = u at *
  obtain ⟨hd1, -, hr1⟩ := noteWrite_shown line allBytes d u
  generalize noteWrite line allBytes d none none u = v at *
  have hdropped := dropUndo_shown g gr line v
  have hd2 : (dropUndo g gr line v).dram = u.dram := hd1
  have hr2 : (dropUndo g gr line v).reqs = [] := hr1.trans (hc.reqs.trans hs.2)
  generalize dropUndo g gr line v = x at *
  refine .leaves hs rfl heff hr2 fun t k => ⟨?_, ?_, ?_, ?_, fun y hy => ?_⟩
  · rw [readLine_congr line (congrArg Dram.mem (k.dram.trans hd2)), hread]
  · rw [isPoisoned, k.dram, hd2]
    exact hpoison
  · rw [k.dram, hd2]
    exact hwrites
  · rw [k.txn]
    exact hdropped
  · rw [k.bytes (congrArg Dram.mem hd2), hrest y hy]
    rfl

theorem completes_replayAsked (hd : decodeLine (isSet Reg.DMC.CFG_X8 s) err = .uncorrectable)
    (ht : twinServes (slabLine p.slab line s) s = true) :
    Completes (.replayLine g err) s fun t =>
      [Out.twin "REPAIR_REQUEST" [slabLine p.slab line s]] <+: t.out ∧
      repairOf (slabLine p.slab line s) t = some { line := slabLine p.slab line s, finder := .undo, stage := .twin } ∧
      Changes [.dram] [] s t := by
  have heff := (replayLine_asked (s := begun s) hh hf hn hp hr hpo hd ht).trans
    (startRepair_twin (s := begun s) (line := slabLine p.slab line s) hr ht)
  refine .leaves hs rfl heff hs.2 fun t k => ⟨k.sent rfl, ?_, (((Changes.begin _ _ s).in_dram _
      (by simp)).emit _).ended k⟩
  unfold repairOf
  rw [k.dram]
  exact repairOf_addRepair (s := begun s) hr rfl

end

/-! ### The end of a replay (R190) -/

/-- The keys of a replay's end. -/
theorem replay_keys (g : Fin 64) :
    (∀ f ∈ [ctxSts g, ctxFrm g, Reg.TXC.CTX_STS_CLEARING (g.val / 16) (g.val % 16),
      Reg.EVT_STS (0x45 + g.val / 16) (16 + g.val % 16), Reg.TXN.ABORTS_COUNT],
      f.key ∉ settleKeys ∧ f.key ∉ replayFields.map Fld.key) ∧
    (∀ f ∈ [ctxSts g, ctxFrm g], f.key ≠ (Reg.EVT_STS (0x45 + g.val / 16) (16 + g.val % 16)).key ∧
      f.key ≠ Reg.TXN.ABORTS_COUNT.key ∧ f.key ≠ (Reg.TXC.CTX_STS_CLEARING (g.val / 16) (g.val % 16)).key) ∧
    (Reg.EVT_STS (0x45 + g.val / 16) (16 + g.val % 16)).key ≠ Reg.TXN.ABORTS_COUNT.key ∧
    (Reg.EVT_STS (0x45 + g.val / 16) (16 + g.val % 16)).key ≠ (Reg.TXC.CTX_STS_CLEARING (g.val / 16) (g.val % 16)).key ∧
    Reg.TXN.ABORTS_COUNT.key ≠ (Reg.TXC.CTX_STS_CLEARING (g.val / 16) (g.val % 16)).key ∧
    Reg.TXN.ABORTS_COUNT.key ∉ ([ctxSts g, ctxFrm g] ++ txnShown).map Fld.key := by
  revert g
  decide +kernel

/-- The context leaves the order of replays. -/
def replayLeft (g : Nat) (s : State) : State :=
  { s with txn := { s.txn with replays := s.txn.replays.filter (· != g), rollback := s.txn.rollback.filter (· != g) } }
    |> noteEnd g

def replayOver (g : Nat) (s : State) : State := setCtxState g 6 (replayLeft g s)

/-- What the end of a replay shows. -/
def replayTold (g : Nat) (s : State) : State :=
  s |> event (0x45 + g / 16) (16 + g % 16) |> inc Reg.TXN.ABORTS_COUNT
    |> set (Reg.TXC.CTX_STS_CLEARING (g / 16) (g % 16)) 1 |> replayShow

theorem finishReplay_eq (g : Nat) (s : State) : finishReplay g s =
    when (twinAttached s) (sendTwin "ABORTED_N" [g]) (replayTold g (replayOver g s)) := rfl

theorem changes_replayOver (g : Nat) (s : State) :
    Changes [.txn] ([ctxSts g, ctxFrm g] ++ txnShown) s (replayOver g s) := by
  have hleft : Changes [.txn] ([ctxSts g, ctxFrm g] ++ txnShown) s (replayLeft g s) :=
    ((Changes.refl _ _ s).in_txn _ (by simp)).in_txn _ (by simp)
  exact hleft.trans ((changes_setCtxState g 6 _).widen (by simp) fun _ h => h)

theorem replayOver_shown (g : Fin 64) (s : State) : ctxState g (replayOver g s) = 6 ∧
    get (ctxFrm g) (replayOver g s) = now32 s := by
  obtain ⟨hst, hfr⟩ := get_setCtxState g 6 (replayLeft g s)
  refine ⟨hst, hfr.trans ?_⟩
  show ((look (insert (drop s.txn.ends g.val) g.val (now32 s)) g.val).getD 0) % 2 ^ 32 = now32 s
  rw [look_insert_same _ _ _ (look_drop_same _ _)]
  exact Nat.mod_mod _ _

theorem changes_replayTold (g : Nat) (s : State) :
    Changes [] ([Reg.EVT_STS (0x45 + g / 16) (16 + g % 16), Reg.TXN.ABORTS_COUNT,
      Reg.TXC.CTX_STS_CLEARING (g / 16) (g % 16)] ++ replayFields) s (replayTold g s) :=
  ((((Changes.refl _ _ s).event _ _ (by simp)).inc _ (by simp)).set _ _ (by simp)).trans
    ((changes_replayShow _).widen (fun _ h => h) (List.subset_append_right _ _))

theorem completes_replayDone {s : State} (hs : Ready s) (g : Fin 64) (hh : s.txn.replays.head? = some g.val)
    (hu : undoLeft g s = 0) (hf : fenced s = false) :
    Completes (.replayDone g) s fun t =>
      ctxState g t = 6 ∧ ctxClearing g t = true ∧ get (ctxFrm g) t = now32 s ∧
      get (Reg.EVT_STS (0x45 + g.val / 16) (16 + g.val % 16)) t = 1 ∧
      get Reg.TXN.ABORTS_COUNT t = oneMore Reg.TXN.ABORTS_COUNT s ∧ (∀ x, readByte x t = readByte x s) := by
  obtain ⟨hk, hown, he1, he2, ha1, ha2⟩ := replay_keys g
  have hover := (Changes.begin _ _ s).trans (changes_replayOver g (begun s))
  obtain ⟨hst, hfr⟩ := replayOver_shown g (begun s)
  have heq := finishReplay_eq g (begun s)
  generalize replayOver g (begun s) = u at *
  have htold := changes_replayTold g u
  have hshow := changes_replayShow (u |> event (0x45 + g.val / 16) (16 + g.val % 16) |> inc Reg.TXN.ABORTS_COUNT
    |> set (Reg.TXC.CTX_STS_CLEARING (g.val / 16) (g.val % 16)) 1)
  have hclear : get (Reg.TXC.CTX_STS_CLEARING (g.val / 16) (g.val % 16)) (replayTold g u) = 1 := by
    obtain ⟨k1, k2⟩ := hk (Reg.TXC.CTX_STS_CLEARING (g.val / 16) (g.val % 16)) (by simp)
    exact (hshow.regs _ k2 k1).trans (get_set_same _ _ _)
  have habort : get Reg.TXN.ABORTS_COUNT (replayTold g u) = oneMore Reg.TXN.ABORTS_COUNT s := by
    refine (hshow.regs _ (by decide) (by decide)).trans ((get_set_other _ _ ha1).trans ((get_inc_same _ _).trans ?_))
    rw [event, get_set_other _ _ he1.symm, hover.regs _ ha2 (by decide)]
  have hevent : get (Reg.EVT_STS (0x45 + g.val / 16) (16 + g.val % 16)) (replayTold g u) = 1 := by
    obtain ⟨k1, k2⟩ := hk (Reg.EVT_STS (0x45 + g.val / 16) (16 + g.val % 16)) (by simp)
    exact (hshow.regs _ k2 k1).trans ((get_set_other _ _ he2).trans ((get_inc_other _ he1).trans (get_set_same _ _ _)))
  have hkept : ∀ f ∈ [ctxSts g, ctxFrm g], get f (replayTold g u) = get f u ∧ f.key ∉ settleKeys := fun f hf => by
    obtain ⟨h1, h2, h3⟩ := hown f hf
    obtain ⟨k1, k2⟩ := hk f (by
      simp only [List.mem_cons, List.not_mem_nil, or_false] at hf ⊢
      tauto)
    exact ⟨htold.regs _ (by
      rw [List.map_append, List.mem_append, not_or]
      exact ⟨by simpa using ⟨h1, h2, h3⟩, k2⟩) k1, k1⟩
  obtain ⟨e1, k1⟩ := hkept (ctxSts g) (by simp)
  obtain ⟨e2, k2⟩ := hkept (ctxFrm g) (by simp)
  generalize replayTold g u = v at *
  have hsent : Changes [] [] v (when (twinAttached (begun s)) (sendTwin "ABORTED_N" [g.val]) v) :=
    (Changes.refl _ _ v).cond _ _ fun _ h => h.emit _
  have hget : ∀ f : Fld, f.key ∉ settleKeys → get f (when (twinAttached (begun s)) (sendTwin "ABORTED_N" [g.val]) v) =
      get f v := fun f hk => hsent.regs f (by simp) hk
  rw [heq.symm.trans rfl] at hsent hget
  refine .leaves hs (f := fun s =>
    if s.txn.replays.head? = some g.val && undoLeft g s == 0 && !fenced s then finishReplay g s else s) rfl
    (if_pos (by
      show (decide (s.txn.replays.head? = some g.val) && undoLeft g s == 0 && !fenced s) = true
      simp [hh, hu, hf])) (hsent.reqs.trans (htold.reqs.trans (hover.reqs.trans hs.2))) fun t k =>
    ⟨k.stored k1 ((hget _ k1).trans (e1.trans hst)), ?_, k.stored k2 ((hget _ k2).trans (e2.trans hfr)),
      k.stored ?_ ((hget _ ?_).trans hevent), k.stored (by decide) ((hget _ (by decide)).trans habort), fun y => ?_⟩
  · obtain ⟨h1, -⟩ := hk (Reg.TXC.CTX_STS_CLEARING (g.val / 16) (g.val % 16)) (by simp)
    rw [ctxClearing, isSet, k.get _ h1, hget _ h1, hclear]
    rfl
  · exact (hk (Reg.EVT_STS (0x45 + g.val / 16) (16 + g.val % 16)) (by simp)).1
  · exact (hk (Reg.EVT_STS (0x45 + g.val / 16) (16 + g.val % 16)) (by simp)).1
  · rw [k.bytes (congrArg Dram.mem ((hsent.dram (by simp)).trans ((htold.dram (by simp)).trans (hover.dram
      (by simp)))))]

/-- Settles O27. -/
theorem replayCommands : Obligations.ReplayCommands := by
  unfold Obligations.ReplayCommands
  intro s hs g
  exact ⟨fun h1 he _ => completes_holdTimeout hs g h1 he, completes_clearingDone hs g,
    fun gr line p hh hf hn hp hr hpo err =>
      ⟨fun hd hl => completes_replayGood hs hh hf hn hp hr hpo hd hl,
        fun hd ht => completes_replayAsked hs hh hf hn hp hr hpo hd ht⟩,
    completes_replayDone hs g⟩

end Sys2Proof.Machine
end

section
/-! SUPPORT. Ballots of the ring: issue, vote, tally, deadline (R195, R365, R368, R370, R372). -/

namespace Sys2Proof.Machine
set_option Elab.async false

/-! ### Issue -/

theorem changes_setBallots (l : List Ballot) (s : State) : Changes [.rng] [Reg.DOM.STS_BALLOTS] s (setBallots l s) :=
  ((Changes.refl [.rng] [Reg.DOM.STS_BALLOTS] s).in_rng { s.rng with ballots := l } (by simp)).set _ _ (by simp)

/-- The fields of a context that a ballot moves. -/
theorem ballot_keys (g : Fin 64) : ∀ f ∈ [ctxSts g, ctxFrm g], f.key ∉ settleKeys ∧ f.key ≠ Reg.DOM.STS_BALLOTS.key ∧
    f.key ∉ txnShown.map Fld.key := by
  revert g
  decide +kernel

theorem index_key (g : Fin 64) :
    Reg.TRN.STS_INDEX.key ∉ ([ctxSts g, ctxFrm g, Reg.DOM.STS_BALLOTS] ++ txnShown).map Fld.key := by
  revert g
  decide +kernel

theorem ballots_key (g : Fin 64) : Reg.DOM.STS_BALLOTS.key ∉ ([ctxSts g, ctxFrm g] ++ txnShown).map Fld.key := by
  revert g
  decide +kernel

/-- The ballot is written down. -/
def ballotNoted (g : Nat) (s : State) : State :=
  { s with txn :=
      { s.txn with
        requests := s.txn.requests.map (fun r => if r.ctx = g then { r with balloted := true } else r) } } |>
    setBallots
      (s.rng.ballots ++ [{ ctx := g, tag := ctxTag g s, parts := ctxParts g s, frame := now32 s, expected := [] }])

theorem issueBallot_eq (g : Nat) (s : State) : issueBallot g s =
    sendBoth (.ballot (ctxTag g s) (ctxParts g s) (now32 s)) (setCtxState g 3 (ballotNoted g s)) := rfl

/-- What a cell to both directions adds. -/
theorem sendBoth_out (c : Cell) (u : State) : (sendBoth c u).out = u.out ++ onBoth c u := by
  show (u.out ++ onRing false c u) ++ onRing true c u = u.out ++ (onRing false c u ++ onRing true c u)
  rw [List.append_assoc]

theorem changes_sendBoth (c : Cell) (s : State) : Changes [] [] s (sendBoth c s) :=
  ((Changes.refl _ _ s).emit _).emit _

/-- A cell tells of its sender alone. -/
theorem onRing_congr (b : Bool) (c : Cell) {s u : State} (h : get Reg.TRN.STS_INDEX u = get Reg.TRN.STS_INDEX s) :
    onRing b c u = onRing b c s := by
  unfold onRing
  rw [h]

theorem onBoth_congr (c : Cell) {s u : State} (h : get Reg.TRN.STS_INDEX u = get Reg.TRN.STS_INDEX s) :
    onBoth c u = onBoth c s := by
  rw [onBoth, onBoth, onRing_congr _ _ h, onRing_congr _ _ h]

section
variable {s : State} (hs : Ready s) {g : Fin 64} {free : Bool} {phase : Nat} (hd : domainRuns s = true)
include hd

/-- The branches of a ballot that is due. -/
theorem ballotInsert_due (hf : fenced s = false) (h2 : ctxState g s = 2)
    (hr : s.txn.requests.any (fun r => r.ctx == g.val && r.domain && !r.balloted && decide (r.due ≤ now s)) = true) :
    ballotInsert g free phase s =
      if free && decide (phase ≤ 8000) && !isSet (Reg.BLKSTS_ABORTING 0xD1) s then issueBallot g s
      else slipBallot g s :=
  if_neg (by
    rw [hd, hf, h2, hr]
    decide)

include hs

theorem completes_issueBallot (hf : fenced s = false) (h2 : ctxState g s = 2)
    (hr : s.txn.requests.any (fun r => r.ctx == g.val && r.domain && !r.balloted && decide (r.due ≤ now s)) = true)
    (hq : free = true ∧ phase ≤ 8000 ∧ isSet (Reg.BLKSTS_ABORTING 0xD1) s = false) :
    Completes (.ballotInsert g free phase) s fun t =>
      ctxState g t = 3 ∧ get Reg.DOM.STS_BALLOTS t = (s.rng.ballots.length + 1) % 2 ^ Reg.DOM.STS_BALLOTS.w ∧
      onBoth (.ballot (ctxTag g s) (ctxParts g s) (now32 s)) s <+: t.out ∧
      Changes [.txn, .rng] ([ctxSts g, ctxFrm g, Reg.DOM.STS_BALLOTS] ++ txnShown) s t := by
  obtain ⟨hfree, hphase, hab⟩ := hq
  have heff : ballotInsert g free phase (begun s) = issueBallot g (begun s) := by
    refine (ballotInsert_due (s := begun s) hd hf h2 hr).trans (if_pos ?_)
    show (free && decide (phase ≤ 8000) && !isSet (Reg.BLKSTS_ABORTING 0xD1) s) = true
    rw [hfree, hab, decide_eq_true hphase]
    rfl
  have hnote : Changes [.txn, .rng] [Reg.DOM.STS_BALLOTS] s (ballotNoted g (begun s)) :=
    ((Changes.begin _ _ s).in_txn _ (by simp)).trans ((changes_setBallots _ _).widen (by simp) fun _ h => h)
  have hcount : get Reg.DOM.STS_BALLOTS (ballotNoted g (begun s)) =
      (s.rng.ballots.length + 1) % 2 ^ Reg.DOM.STS_BALLOTS.w := by
    refine (get_set_same _ _ _).trans ?_
    rw [List.length_append]
    rfl
  have hout : (ballotNoted g (begun s)).out = [] := rfl
  rw [issueBallot_eq] at heff
  generalize ballotNoted g (begun s) = u at *
  have hset := changes_setCtxState g 3 u
  obtain ⟨hstate, -⟩ := get_setCtxState g 3 u
  have hout2 : (setCtxState g 3 u).out = [] := hout
  generalize setCtxState g 3 u = v at *
  have hc : Changes [.txn, .rng] ([ctxSts g, ctxFrm g, Reg.DOM.STS_BALLOTS] ++ txnShown) s v :=
    (hnote.widen (fun _ h => h) (by simp)).trans (hset.widen (by simp) fun f hf => by
      simp only [List.mem_append, List.mem_cons, List.not_mem_nil, or_false] at hf ⊢
      tauto)
  have hindex : get Reg.TRN.STS_INDEX v = get Reg.TRN.STS_INDEX s := hc.regs _ (index_key g) (by decide)
  have hballots : get Reg.DOM.STS_BALLOTS v = get Reg.DOM.STS_BALLOTS u := hset.regs _ (ballots_key g) (by decide)
  have hk := ballot_keys g
  refine .leaves hs (f := ballotInsert g free phase) rfl heff (hc.reqs.trans hs.2) fun t k =>
    ⟨k.stored (hk _ (by simp)).1 hstate, k.stored (by decide) (hballots.trans hcount), k.sent ?_,
      (hc.trans ((changes_sendBoth _ v).widen (by simp) (by simp))).ended k⟩
  rw [sendBoth_out, hout2, onBoth_congr _ hindex]
  rfl

theorem completes_slipBallot (hf : fenced s = false) (h2 : ctxState g s = 2)
    (hr : s.txn.requests.any (fun r => r.ctx == g.val && r.domain && !r.balloted && decide (r.due ≤ now s)) = true)
    (hq : ¬ (free = true ∧ phase ≤ 8000 ∧ isSet (Reg.BLKSTS_ABORTING 0xD1) s = false)) :
    Completes (.ballotInsert g free phase) s fun t =>
      get (ctxFrm g) t = (now s + 3) % 2 ^ 32 ∧ Changes [.txn] [ctxFrm g] s t := by
  have heff : ballotInsert g free phase (begun s) = slipBallot g (begun s) := by
    refine (ballotInsert_due (s := begun s) hd hf h2 hr).trans (if_neg ?_)
    show ¬ (free && decide (phase ≤ 8000) && !isSet (Reg.BLKSTS_ABORTING 0xD1) s) = true
    simpa [and_assoc] using hq
  have hc : Changes [.txn] [ctxFrm g] s (slipBallot g (begun s)) :=
    ((Changes.begin _ _ s).in_txn _ (by simp)).set _ _ (by simp)
  exact .leaves hs (f := ballotInsert g free phase) rfl heff (hc.reqs.trans hs.2) fun t k =>
    ⟨k.stored (ballot_keys g _ (by simp)).1 (get_set_same _ _ _), hc.ended k⟩

end

/-! ### Votes -/

/-- A vote takes the place of an earlier one of its context. -/
def voted (v : Vote) (s : State) : State :=
  { s with rng := { s.rng with votes := s.rng.votes.filter (·.ctx != v.ctx) ++ [v] } }

theorem castVote_eq (v : Vote) (s : State) : castVote v s =
    when v.yes (fun s => s |> setCtxState v.ctx 3 |> retryStalled) (voted v s) := rfl

theorem changes_voted (v : Vote) (s : State) : Changes [.rng] [] s (voted v s) := (Changes.refl _ _ s).in_rng _
    (by simp)

/-- The context that votes is one of the table. -/
theorem voter_lt {tag g : Nat} {s : State} (h : voter tag s = some g) : g < 64 := by
  have hmem : ∀ {p : Nat → Bool}, allCtx.find? p = some g → g < 64 := fun hf =>
    List.mem_range.1 (List.mem_of_find?_eq_some hf)
  unfold voter at h
  split at h
  case h_1 g' hg => exact hmem (hg.trans h)
  case h_2 => exact hmem h

section
variable {s : State} (hs : Ready s) (hd : domainRuns s = true) {tag : BitVec 22} {coord g : Nat} {frame : BitVec 32}
  (ht : tag ≠ 0) (hc : coord ≠ get Reg.TRN.STS_INDEX s)
  (hv : ∀ v ∈ s.rng.votes, ¬ (v.tag = tag.toNat ∧ v.coord = memberId coord s ∧ v.frame = frame.toNat))
  (hg : voter tag.toNat s = some g)
include hd ht hc hv hg

/-- The branches of a ballot that is taken. -/
theorem ballotReceived_taken :
    let v : Vote := { tag := tag.toNat, coord := memberId coord s, frame := frame.toNat, ctx := g, yes := false }
    ballotReceived tag.toNat coord frame.toNat s =
      if ctxState g s = 2 then s
      else if ctxState g s ≠ 1 || fenced s then castVote v s
      else if twinAttached s then s |> sendPrepare g |> castVote v
      else castVote { v with yes := true } s := by
  intro v
  have hnone : s.rng.votes.any (fun v => v.tag == tag.toNat && v.coord == memberId coord s && v.frame == frame.toNat) =
      false := by
    rw [List.any_eq_false]
    intro v hm
    simpa [and_assoc] using hv v hm
  have htag : tag.toNat ≠ 0 := fun h => ht (BitVec.eq_of_toNat_eq h)
  unfold ballotReceived
  rw [if_neg (by simp [hd, hc, hnone, htag]), hg]

include hs

theorem completes_ballot {parts : Nat} :
    let v : Vote := { tag := tag.toNat, coord := memberId coord s, frame := frame.toNat, ctx := g, yes := false }
    let votes := s.rng.votes.filter (·.ctx != g)
    Completes (.ballot tag parts coord frame) s fun t =>
      if ctxState g s = 2 then Changes [] [] s t
      else if ctxState g s ≠ 1 ∨ fenced s = true then t.rng.votes = votes ++ [v] ∧ Changes [.rng] [] s t
      else if twinAttached s = true then
        t.rng.votes = votes ++ [v] ∧ [Out.twin "PREPARE" [g, ctxTag g s]] <+: t.out ∧ Changes [.rng] [] s t
      else s.hp.stalled = [] →
        ctxState g t = 3 ∧ t.rng.votes = votes ++ [{ v with yes := true }] ∧
        Changes [.rng] ([ctxSts g, ctxFrm g] ++ txnShown) s t := by
  intro v votes
  have htaken := ballotReceived_taken (s := begun s) hd ht hc hv hg
  dsimp only at htaken
  by_cases h2 : ctxState g s = 2
  · simp only [if_pos h2]
    exact .leaves hs (f := ballotReceived tag.toNat coord frame.toNat) rfl (htaken.trans (if_pos h2)) hs.2 fun t k =>
      (Changes.begin _ _ s).ended k
  simp only [if_neg h2]
  replace htaken := htaken.trans (if_neg h2)
  by_cases h1 : ctxState g s ≠ 1 ∨ fenced s = true
  · simp only [if_pos h1]
    replace htaken := htaken.trans (if_pos (by
      show (decide (ctxState g s ≠ 1) || fenced s) = true
      simpa using h1))
    exact .leaves hs (f := ballotReceived tag.toNat coord frame.toNat) rfl htaken hs.2 fun t k =>
      ⟨congrArg Rng.votes k.rng, ((Changes.begin _ _ s).trans (changes_voted v _)).ended k⟩
  simp only [if_neg h1]
  replace htaken := htaken.trans (if_neg (by
    show ¬ (decide (ctxState g s ≠ 1) || fenced s) = true
    simpa using h1))
  by_cases hw : twinAttached s = true
  · simp only [if_pos hw]
    have hsend : sendPrepare g (begun s) = sendTwin "PREPARE" [g, ctxTag g s] (begun s) := by
      unfold sendPrepare
      rw [show twinAttached (begun s) = true from hw, when_true]
      rfl
    replace htaken := htaken.trans (if_pos hw)
    rw [hsend] at htaken
    exact .leaves hs (f := ballotReceived tag.toNat coord frame.toNat) rfl htaken hs.2 fun t k =>
      ⟨congrArg Rng.votes k.rng, k.sent rfl, (((Changes.begin _ _ s).emit _).trans (changes_voted v _)).ended k⟩
  simp only [if_neg hw]
  replace htaken := (htaken.trans (if_neg hw)).trans (castVote_eq _ _)
  dsimp only at htaken
  rw [when_true] at htaken
  have hvote := (Changes.begin _ [] s).trans (changes_voted { v with yes := true } (begun s))
  have hkept : (voted { v with yes := true } (begun s)).rng.votes = votes ++ [{ v with yes := true }] := rfl
  have hwait : (setCtxState g 3 (voted { v with yes := true } (begun s))).hp.stalled = s.hp.stalled := rfl
  have heff : s.hp.stalled = [] → ballotReceived tag.toNat coord frame.toNat (begun s) =
      setCtxState g 3 (voted { v with yes := true } (begun s)) := fun h =>
    htaken.trans (retryStalled_none (hwait.trans h))
  clear htaken
  generalize voted { v with yes := true } (begun s) = u at *
  have hset := changes_setCtxState g 3 u
  obtain ⟨hstate, -⟩ := get_setCtxState ⟨g, voter_lt hg⟩ 3 u
  have hch := (hvote.widen (fs := []) (gs := [ctxSts g, ctxFrm g] ++ txnShown) (fun _ h => h) (by simp)).trans
    (hset.widen (by simp) fun _ h => h)
  have hrng := hset.rng (by simp)
  generalize setCtxState g 3 u = w at *
  obtain ⟨t, hrun, hall⟩ : Completes (.ballot tag parts coord frame) s fun t => s.hp.stalled = [] → Keeps settleKeys w
      t :=
    .of_run hs (f := ballotReceived tag.toNat coord frame.toNat) rfl fun h => by
      rw [heff h]
      exact settle_keeps s w (hch.reqs.trans hs.2)
  exact ⟨t, hrun, fun h =>
    ⟨(hall h).stored (ballot_keys ⟨g, voter_lt hg⟩ _ (by simp)).1 hstate,
      (congrArg Rng.votes ((hall h).rng.trans hrng)).trans hkept, hch.ended (hall h)⟩⟩

end

/-! ### Tallies -/

theorem tallyRing_eq (seg : Fin 3) : tallyRing seg = (seg == 2) := by
  revert seg
  decide

section
variable {s : State} (hs : Ready s) (hd : domainRuns s = true) {tag : BitVec 22} {coord : Nat}
include hs hd

/-- The coordinator fixes the tallies it expects, and on a ring in one piece sends its own. -/
theorem completes_tallyInsert_own (seg : Fin 3) :
    let me := get Reg.TRN.STS_INDEX s
    let expected := if get Reg.TRN.STS_TOPO s = 0 then [0] else [1, 2].filter (· != seg.val)
    Completes (.tallyInsert tag me seg) s fun t =>
      t.rng.ballots = s.rng.ballots.map (fun b =>
        if b.tag = tag.toNat ∧ b.decided = false then { b with expected := expected } else b) ∧
      (get Reg.TRN.STS_TOPO s = 0 → (∃ b ∈ s.rng.ballots, b.tag = tag.toNat ∧ b.decided = false) →
        onRing false (.tally tag.toNat me 0 false 0) s <+: t.out) ∧
      Changes [.rng] [Reg.DOM.STS_BALLOTS] s t := by
  intro me expected
  have heff : tallyInsert tag.toNat me seg (begun s) =
      when (get Reg.TRN.STS_TOPO s = 0 && s.rng.ballots.any (fun b => b.tag == tag.toNat && !b.decided))
        (sendCell false (.tally tag.toNat me 0 false 0))
        (setBallots (s.rng.ballots.map (fun b =>
          if b.tag = tag.toNat ∧ b.decided = false then { b with expected := expected } else b)) (begun s)) :=
    (if_neg (by
      show ¬ (!domainRuns s) = true
      simp [hd])).trans (if_pos rfl)
  have hset := (Changes.begin _ _ s).trans (changes_setBallots (s.rng.ballots.map (fun b =>
          if b.tag = tag.toNat ∧ b.decided = false then { b with expected := expected } else b)) (begun s))
  have hlist : (setBallots (s.rng.ballots.map (fun b =>
      if b.tag = tag.toNat ∧ b.decided = false then { b with expected := expected } else b)) (begun s)).rng.ballots =
      s.rng.ballots.map (fun b =>
        if b.tag = tag.toNat ∧ b.decided = false then { b with expected := expected } else b) := rfl
  have hindex := hset.regs Reg.TRN.STS_INDEX (by decide) (by decide)
  have hout : (setBallots (s.rng.ballots.map (fun b =>
      if b.tag = tag.toNat ∧ b.decided = false then { b with expected := expected } else b)) (begun s)).out = [] := rfl
  generalize setBallots _ (begun s) = u at *
  have hrng := when_keeps (fun v : State => v.rng.ballots = u.rng.ballots)
    (get Reg.TRN.STS_TOPO s = 0 && s.rng.ballots.any (fun b => b.tag == tag.toNat && !b.decided))
    (sendCell false (.tally tag.toNat me 0 false 0)) u rfl fun h => h
  have hc := hset.cond (get Reg.TRN.STS_TOPO s = 0 && s.rng.ballots.any (fun b => b.tag == tag.toNat && !b.decided))
    (sendCell false (.tally tag.toNat me 0 false 0)) fun _ h => h.emit _
  refine .leaves hs (f := tallyInsert tag.toNat me seg) rfl heff (hc.reqs.trans hs.2) fun t k =>
    ⟨(congrArg Rng.ballots k.rng).trans (hrng.trans hlist), fun h0 hex => k.sent ?_, hc.ended k⟩
  have hany : (get Reg.TRN.STS_TOPO s = 0 && s.rng.ballots.any (fun b => b.tag == tag.toNat && !b.decided) : Bool) =
      true := by
    simpa [h0] using hex
  rw [hany, when_true]
  show u.out ++ onRing false (.tally tag.toNat me 0 false 0) u = _
  rw [hout, onRing_congr _ _ hindex]
  rfl

/-- An edge of a broken ring starts the tally of its segment. -/
theorem completes_tallyInsert_other (hc : coord ≠ get Reg.TRN.STS_INDEX s) (seg : Fin 3) :
    Completes (.tallyInsert tag coord seg) s fun t =>
      (isSet Reg.TRN.RING_STS_EDGE s = true → seg ≠ 0 →
        onRing (seg == 2)
          (.tally tag.toNat coord (ownTally tag.toNat coord s).1 (ownTally tag.toNat coord s).2 seg) s <+: t.out) ∧
      Changes [] [] s t := by
  have heff : tallyInsert tag.toNat coord seg (begun s) =
      if isSet Reg.TRN.RING_STS_EDGE s && decide (seg.val ≠ 0) then
        sendCell (tallyRing seg)
          (.tally tag.toNat coord (ownTally tag.toNat coord s).1 (ownTally tag.toNat coord s).2 seg) (begun s)
      else begun s :=
    (if_neg (by
      show ¬ (!domainRuns s) = true
      simp [hd])).trans (if_neg hc)
  have hch : Changes [] [] s (tallyInsert tag.toNat coord seg (begun s)) := by
    rw [heff]
    exact .branch _ ((Changes.begin _ _ s).emit _) (Changes.begin _ _ s)
  refine .leaves hs (f := tallyInsert tag.toNat coord seg) rfl rfl (hch.reqs.trans hs.2) fun t k =>
    ⟨fun he hseg => k.sent ?_, hch.ended k⟩
  have hval : seg.val ≠ 0 := fun h => hseg (Fin.ext h)
  rw [heff, if_pos (by simp [he, hval]), tallyRing_eq]
  rfl

/-- A tally that passes takes this member's vote along. -/
theorem completes_tally_forward (hc : coord ≠ get Reg.TRN.STS_INDEX s) (src yes : Nat) (no : Bool) (seg : Fin 3) :
    let own := ownTally tag.toNat coord s
    Completes (.tally tag coord src ⟨yes, no⟩ seg true) s fun t =>
      [Out.cell (seg == 2) (Cell.bits (seg == 2) src (.tally tag.toNat coord (yes + own.1) (no || own.2) seg))] <+:
        t.out ∧ Changes [] [] s t := by
  intro own
  have heff : tallyPassed tag.toNat coord src yes no seg (begun s) =
      passCell (tallyRing seg) src (.tally tag.toNat coord (yes + own.1) (no || own.2) seg) (begun s) :=
    (if_neg (by
      show ¬ (!domainRuns s) = true
      simp [hd])).trans (if_neg hc)
  rw [tallyRing_eq] at heff
  exact .leaves hs (f := tallyPassed tag.toNat coord src yes no seg) rfl heff hs.2 fun t k =>
    ⟨k.sent rfl, ((Changes.begin _ _ s).emit _).ended k⟩

/-- The coordinator takes a tally in, once for each segment. -/
theorem completes_tally_taken (src yes : Nat) (no : Bool) (seg : Fin 3) :
    Completes (.tally tag (get Reg.TRN.STS_INDEX s) src ⟨yes, no⟩ seg true) s fun t =>
      t.rng.ballots = s.rng.ballots.map (fun b =>
        if b.tag = tag.toNat ∧ b.decided = false ∧ seg.val ∉ b.returned then
          { b with returned := b.returned ++ [seg.val], yes := b.yes + yes, no := b.no || no }
        else b) ∧
      Changes [.rng] [Reg.DOM.STS_BALLOTS] s t := by
  have heff : tallyPassed tag.toNat (get Reg.TRN.STS_INDEX s) src yes no seg (begun s) =
      setBallots (s.rng.ballots.map (fun b =>
        if b.tag = tag.toNat ∧ b.decided = false ∧ b.returned.contains seg.val = false then
          { b with returned := b.returned ++ [seg.val], yes := b.yes + yes, no := b.no || no }
        else b)) (begun s) :=
    (if_neg (by
      show ¬ (!domainRuns s) = true
      simp [hd])).trans (if_pos rfl)
  have hc := (Changes.begin _ _ s).trans (changes_setBallots (s.rng.ballots.map (fun b =>
    if b.tag = tag.toNat ∧ b.decided = false ∧ b.returned.contains seg.val = false then
      { b with returned := b.returned ++ [seg.val], yes := b.yes + yes, no := b.no || no }
    else b)) (begun s))
  refine .leaves hs (f := tallyPassed tag.toNat (get Reg.TRN.STS_INDEX s) src yes no seg) rfl heff
    (hc.reqs.trans hs.2) fun t k => ⟨(congrArg Rng.ballots k.rng).trans ?_, hc.ended k⟩
  refine List.map_congr_left fun b _ => ?_
  simp only [List.contains_eq_mem, decide_eq_false_iff_not]

end

/-! ### The tally deadline -/

/-- The fields of the decision log. -/
def logFields : List Fld :=
  [Reg.DOM.LOG_USED, Reg.DOM.LOG_OLDEST_FRAME, Reg.DOM.LOG_OVERWRITES, Reg.EVT_STS 0xD1 5]

theorem changes_logDecision (e : LogEntry) (s : State) : Changes [.rng] logFields s (logDecision e s) := by
  unfold logDecision
  refine .branch _ (Changes.refl _ _ s) ?_
  exact ((((Changes.refl _ _ s).in_rng _ (by simp)).set _ _ (by simp [logFields])).set _ _ (by simp [logFields])).cond
    _ _ fun _ h => (h.inc _ (by simp [logFields])).event _ _ (by simp [logFields])

/-- The log takes the entry unless it is closed. -/
theorem logDecision_logged {e : LogEntry} {s : State} (h : s.rng.logClosed = false) : e ∈
    (logDecision e s).rng.log := by
  unfold logDecision
  rw [h]
  dsimp only
  rw [if_neg (by decide)]
  refine when_keeps (fun u : State => e ∈ u.rng.log) _ _ _ ?_ fun h => h
  show e ∈ (if 4096 ≤ s.rng.log.length then s.rng.log.drop 1 else s.rng.log) ++ [e]
  exact List.mem_append_right _ (List.mem_singleton_self e)

theorem logDecision_out (e : LogEntry) (s : State) : (logDecision e s).out = s.out := by
  unfold logDecision
  split
  case isTrue => rfl
  case isFalse => exact when_keeps (fun u : State => u.out = s.out) _ _ _ rfl fun h => h

/-- The outcome waits for its tick. -/
theorem recordFor_recorded (g : Nat) (commit : Bool) (tick : Nat) (s : State) :
    { ctx := g, commit := commit, tick := tick } ∈ (recordFor g commit tick s).txn.decisions :=
  List.mem_append_right _ (List.mem_singleton_self _)

theorem changes_recordFor (g : Nat) (commit : Bool) (tick : Nat) (s : State) :
    Changes [.txn] [] s (recordFor g commit tick s) := (Changes.refl _ _ s).in_txn _ (by simp)

/-- The request is over, and the log holds the decision. -/
def decisionLogged (b : Ballot) (commit : Bool) (s : State) : State :=
  { s with txn := { s.txn with requests := s.txn.requests.filter (·.ctx != b.ctx) } } |>
    logDecision { tag := b.tag, coord := ownId s, frame := b.frame, kind := if commit then .commit else .abort }

/-- The decision is recorded and counted. -/
def decisionShown (b : Ballot) (commit : Bool) (s : State) : State :=
  decisionLogged b commit s |> recordFor b.ctx commit (now s + 1) |>
    inc (if commit then Reg.DOM.COORD_COMMITS else Reg.DOM.COORD_ABORTS) |>
    setBallots (s.rng.ballots.map (fun (x : Ballot) => if x.ctx = b.ctx then { x with decided := true } else x))

theorem decide_eq (b : Ballot) (commit : Bool) (s : State) : decide_ b commit s =
    sendBoth (.decision b.tag commit b.frame (now s + 1)) (decisionShown b commit s) := by
  unfold decide_ decisionShown decisionLogged
  rfl

/-- The count of a decision. -/
abbrev decisionCount (commit : Bool) : Fld := if commit then Reg.DOM.COORD_COMMITS else Reg.DOM.COORD_ABORTS

/-- The fields that a decision may move. -/
def decisionFields : List Fld := logFields ++ [Reg.DOM.COORD_COMMITS, Reg.DOM.COORD_ABORTS, Reg.DOM.STS_BALLOTS]

theorem decisionCount_key (commit : Bool) : (decisionCount commit).key ∈ decisionFields.map Fld.key ∧
    (decisionCount commit).key ≠ Reg.DOM.STS_BALLOTS.key ∧ (decisionCount commit).key ∉ logFields.map Fld.key ∧
    (decisionCount commit).key ∉ settleKeys ∧
    (decisionCount commit).key ∉ [Reg.DOM.TALLY_FAIL_COUNT, Reg.EVT_STS 0xD1 2].map Fld.key := by
  revert commit
  decide

theorem changes_decisionShown (b : Ballot) (commit : Bool) (s : State) :
    Changes [.txn, .rng] decisionFields s (decisionShown b commit s) := by
  have hlog : Changes [.txn, .rng] decisionFields s (decisionLogged b commit s) :=
    ((Changes.refl [.txn, .rng] decisionFields s).in_txn _ (by simp)).trans
      ((changes_logDecision _ _).widen (by simp) (by simp [decisionFields]))
  have hrec := hlog.trans ((changes_recordFor b.ctx commit (now s + 1) _).widen (by simp) (by simp))
  have hinc := hrec.inc (decisionCount commit) (decisionCount_key commit).1
  exact hinc.trans ((changes_setBallots _ _).widen (by simp) (by simp [decisionFields]))

theorem decisionShown_shown (b : Ballot) (commit : Bool) (s : State) :
    { ctx := b.ctx, commit := commit, tick := now s + 1 } ∈ (decisionShown b commit s).txn.decisions ∧
    get (decisionCount commit) (decisionShown b commit s) = oneMore (decisionCount commit) s ∧
    (s.rng.logClosed = false → (⟨b.tag, ownId s, b.frame, if commit then .commit else .abort⟩ : LogEntry) ∈
      (decisionShown b commit s).rng.log) ∧
    (decisionShown b commit s).out = s.out := by
  obtain ⟨-, h1, h2, h3, -⟩ := decisionCount_key commit
  refine ⟨recordFor_recorded _ _ _ _, ?_, fun h => logDecision_logged h, logDecision_out _ _⟩
  refine (get_set_other _ _ h1).trans ((get_inc_same _ _).trans ?_)
  exact congrArg (satAdd (2 ^ (decisionCount commit).w - 1) · 1) ((changes_logDecision _ _).regs _ h2 h3)

/-- A tally that is not complete is counted. -/
def tallyNoted (complete : Bool) (s : State) : State :=
  when (!complete) (fun s => s |> inc Reg.DOM.TALLY_FAIL_COUNT |> event 0xD1 2) s

theorem changes_tallyNoted (complete : Bool) (s : State) :
    Changes [] [Reg.DOM.TALLY_FAIL_COUNT, Reg.EVT_STS 0xD1 2] s (tallyNoted complete s) :=
  (Changes.refl _ _ s).cond _ _ fun _ h => (h.inc _ (by simp)).event _ _ (by simp)

theorem completes_tallyDeadline {s : State} (hs : Ready s) {g : Fin 64} {b : Ballot}
    (hb : s.rng.ballots.find? (fun b => b.ctx == g.val && !b.decided) = some b)
    (hframe : (now32 s + 2 ^ 32 - b.frame) % 2 ^ 32 ≠ 0) :
    let complete := !b.expected.isEmpty && b.expected.all (fun k => b.returned.contains k)
    let commit := complete && ownYes b s && b.yes + 1 == b.parts && !b.no
    Completes (.tallyDeadline g) s fun t =>
      { ctx := g, commit := commit, tick := now s + 1 } ∈ t.txn.decisions ∧
      (complete = false → get Reg.DOM.TALLY_FAIL_COUNT t = oneMore Reg.DOM.TALLY_FAIL_COUNT s) ∧
      (if commit then get Reg.DOM.COORD_COMMITS t = oneMore Reg.DOM.COORD_COMMITS s
        else get Reg.DOM.COORD_ABORTS t = oneMore Reg.DOM.COORD_ABORTS s) ∧
      (s.rng.logClosed = false → (⟨b.tag, ownId s, b.frame, if commit then .commit else .abort⟩ : LogEntry) ∈
          t.rng.log) ∧
      onBoth (.decision b.tag commit b.frame (now s + 1)) s <:+: t.out := by
  intro complete commit
  have hctx : b.ctx = g.val := by
    have h := List.find?_some hb
    simp only [Bool.and_eq_true, beq_iff_eq] at h
    exact h.1
  have heff : tallyDeadline g (begun s) = decide_ b commit (tallyNoted complete (begun s)) := by
    unfold tallyDeadline
    rw [show (begun s).rng.ballots.find? (fun b => b.ctx == g.val && !b.decided) = some b from hb]
    exact if_neg hframe
  have hnote := (Changes.begin _ _ s).trans (changes_tallyNoted complete (begun s))
  have hfail : complete = false → get Reg.DOM.TALLY_FAIL_COUNT (tallyNoted complete (begun s)) =
      oneMore Reg.DOM.TALLY_FAIL_COUNT s := fun h => by
    rw [tallyNoted, h]
    exact (get_set_other _ _ (by decide)).trans (get_inc_same _ _)
  have hnow : now (tallyNoted complete (begun s)) = now s := by
    have h := hnote.frm (by simp)
    unfold now
    rw [h]
  have hown : ownId (tallyNoted complete (begun s)) = ownId s := by
    have h := hnote.pwr (by simp)
    unfold ownId
    rw [h]
  have hclosed : (tallyNoted complete (begun s)).rng = s.rng := hnote.rng (by simp)
  clear_value complete commit
  rw [decide_eq, hnow] at heff
  generalize tallyNoted complete (begun s) = u at *
  have hshow := changes_decisionShown b commit u
  obtain ⟨hrec, hcount, hlog, -⟩ := decisionShown_shown b commit u
  rw [hnow, hctx] at hrec
  generalize decisionShown b commit u = v at *
  have hindex : get Reg.TRN.STS_INDEX v = get Reg.TRN.STS_INDEX s :=
    (hshow.regs _ (by decide) (by decide)).trans (hnote.regs _ (by decide) (by decide))
  obtain ⟨-, -, -, hkept, hapart⟩ := decisionCount_key commit
  have hcount2 : get (decisionCount commit) v = oneMore (decisionCount commit) s :=
    hcount.trans (congrArg (satAdd (2 ^ (decisionCount commit).w - 1) · 1) (hnote.regs _ hapart hkept))
  have hkeep := changes_sendBoth (.decision b.tag commit b.frame (now s + 1)) v
  refine .leaves hs (f := tallyDeadline g) rfl heff
    (hkeep.reqs.trans (hshow.reqs.trans (hnote.reqs.trans hs.2))) fun t k => ⟨?_, fun h => ?_, ?_, fun h => ?_, ?_⟩
  · rw [k.txn]
    exact hrec
  · exact k.stored (by decide) ((hshow.regs _ (by decide) (by decide)).trans (hfail h))
  · have hget : get (decisionCount commit) t = oneMore (decisionCount commit) s :=
      k.stored hkept hcount2
    cases commit
    case true => exact hget
    case false => exact hget
  · have hmem := hlog ((congrArg Rng.logClosed hclosed).trans h)
    rw [hown] at hmem
    rw [k.rng]
    exact hmem
  · obtain ⟨l, hl⟩ := k.out
    rw [hl, sendBoth_out, onBoth_congr _ hindex]
    exact ⟨v.out, l, rfl⟩

/-- Settles O28. -/
theorem ballotCommands : Obligations.BallotCommands := by
  unfold Obligations.BallotCommands
  intro s hs hd me
  refine ⟨fun g free phase hf h2 hr => ?_, fun tag parts coord frame g ht hc hv hg =>
    completes_ballot hs hd ht hc hv hg, fun tag coord seg => ?_, fun tag coord src yes no seg hc =>
    completes_tally_forward hs hd hc src yes no seg, fun tag src yes no seg =>
    completes_tally_taken hs hd src yes no seg, fun g b hb hframe => completes_tallyDeadline hs hb hframe⟩
  · by_cases hq : free = true ∧ phase ≤ 8000 ∧ isSet (Reg.BLKSTS_ABORTING 0xD1) s = false
    · simp only [if_pos hq]
      exact completes_issueBallot hs hd hf h2 hr hq
    · simp only [if_neg hq]
      exact completes_slipBallot hs hd hf h2 hr hq
  · by_cases hc : coord = me
    · subst hc
      simp only [if_true]
      exact completes_tallyInsert_own hs hd seg
    · simp only [if_neg hc]
      exact completes_tallyInsert_other hs hd hc seg

end Sys2Proof.Machine
end

section
/-! SUPPORT. Decisions, questions and answers of the ring, and forced outcomes (R197, R370, R373, R374). -/

namespace Sys2Proof.Machine
set_option Elab.async false

/-! ### A decision that arrives (R370) -/

/-- What is logged of a decision that arrives. -/
def heard (tag : BitVec 22) (coord : Nat) (commit : Bool) (frame : BitVec 32) (s : State) : LogEntry :=
  { tag := tag.toNat, coord := memberId coord s, frame := frame.toNat, kind := if commit then .commit else .abort }

theorem completes_decision {s : State} (hs : Ready s) {tag : BitVec 22} {coord : Nat} {commit : Bool}
    {frame effective : BitVec 32} {v : Vote} (hd : domainRuns s = true)
    (hl : inLog tag.toNat (memberId coord s) frame.toNat (if commit then .commit else .abort) s = false)
    (hv : s.rng.votes.find? (fun v => v.tag == tag.toNat && v.coord == memberId coord s && v.frame == frame.toNat) =
      some v) :
    Completes (.decision tag coord commit frame effective true) s fun t =>
      (ctxState v.ctx s = 3 → { ctx := v.ctx, commit := commit, tick := tickOf effective.toNat s } ∈ t.txn.decisions) ∧
      (s.rng.logClosed = false →
        (⟨tag.toNat, memberId coord s, frame.toNat, if commit then .commit else .abort⟩ : LogEntry) ∈ t.rng.log) ∧
      Changes [.txn, .rng] [Reg.DOM.LOG_USED, Reg.DOM.LOG_OLDEST_FRAME, Reg.DOM.LOG_OVERWRITES,
        Reg.EVT_STS 0xD1 5] s t := by
  have heff : decisionReceived tag.toNat coord commit frame.toNat effective.toNat (begun s) =
      when (ctxState v.ctx s == 3) (recordFor v.ctx commit (tickOf effective.toNat s))
        (logDecision (heard tag coord commit frame s) (begun s)) := by
    unfold decisionReceived
    dsimp only
    rw [if_neg (by
      show ¬ (!domainRuns s || inLog tag.toNat (memberId coord s) frame.toNat _ s) = true
      rw [hd, hl]
      decide), show (begun s).rng.votes.find? (fun v => v.tag == tag.toNat && v.coord == memberId coord (begun s) &&
        v.frame == frame.toNat) = some v from hv]
    rfl
  have hc := (Changes.begin _ _ s).trans (changes_logDecision (heard tag coord commit frame s) (begun s))
  have hlog := logDecision_logged (e := heard tag coord commit frame s) (s := begun s)
  generalize logDecision (heard tag coord commit frame s) (begun s) = u at *
  have hc2 : Changes [.txn, .rng] logFields s (when (ctxState v.ctx s == 3)
      (recordFor v.ctx commit (tickOf effective.toNat s)) u) :=
    (hc.widen (qs := [.txn, .rng]) (by simp) fun _ h => h).cond _ _ fun _ h =>
      h.trans ((changes_recordFor _ _ _ _).widen (by simp) (by simp))
  have hrng := when_keeps (fun w : State => w.rng = u.rng) (ctxState v.ctx s == 3)
    (recordFor v.ctx commit (tickOf effective.toNat s)) u rfl fun h => h
  refine .leaves hs (f := decisionReceived tag.toNat coord commit frame.toNat effective.toNat) rfl heff
    (hc2.reqs.trans hs.2) fun t k => ⟨fun h3 => ?_, fun h => ?_, hc2.ended k⟩
  · rw [k.txn, h3]
    exact recordFor_recorded _ _ _ _
  · rw [k.rng, hrng]
    exact hlog h

/-! ### Attempts of a context in doubt (R197) -/

/-- A context that waits for an outcome, of which no remote one is in doubt: one attempt is its own. -/
theorem attempt_own {g : Nat} {u v : State} (hu : u = v) (hd : g ∉ v.twn.doubt) : resolveRemoteAttempt g u = v := by
  subst hu
  exact if_pos (by simp [hd])

section
variable {s : State} (hs : Ready s) {g : Fin 64} (hu : undecided g s = true)
  (hf : fenced s = true → admittedNow s = false) (hdue : attemptDue g s = true) (hn : g.val ∉ s.twn.doubt)
include hu hf hdue

theorem attempt_goes : ¬ (!undecided g s || (fenced s && admittedNow s) || !attemptDue g s) = true := by
  cases h : fenced s
  case false => simp [hu, hdue]
  case true => simp [hu, hdue, hf h]

/-- Without a record a question goes out. -/
theorem resolveAttempt_asks (hr : recorded g s = none) (hd : domainRuns s = true) :
    resolveAttempt g s = sendBoth (.query (ballotOf g s).1 (memberIndex (ballotOf g s).2.1 s) (ballotOf g s).2.2)
      (noteQuery g s) := by
  unfold resolveAttempt
  rw [if_neg (attempt_goes hu hf hdue), hr]
  dsimp only
  exact if_neg (by simp [hd])

theorem resolveAttempt_recorded {commit : Bool} (hr : recorded g s = some commit) :
    resolveAttempt g s = resolveWith g commit false s := by
  unfold resolveAttempt
  rw [if_neg (attempt_goes hu hf hdue), hr]

include hs hn

theorem completes_resolve_asks (hr : recorded g s = none) (hd : domainRuns s = true) :
    let b := ballotOf g s
    Completes (.resolveAttempt g) s fun t =>
      onBoth (.query b.1 (memberIndex b.2.1 s) b.2.2) s <+: t.out ∧ (g.val, now s) ∈ t.rng.queries ∧
      Changes [.rng] [] s t := by
  intro b
  have heff := attempt_own (resolveAttempt_asks (s := begun s) hu hf hdue hr hd) hn
  exact .leaves hs (f := fun s => s |> resolveAttempt g.val |> resolveRemoteAttempt g.val) rfl heff hs.2 fun t k =>
    ⟨k.sent rfl, by
      rw [k.rng]
      exact List.mem_append_right _ (List.mem_singleton_self _),
      (((Changes.begin _ _ s).in_rng _ (by simp)).trans ((changes_sendBoth _ _).widen (by simp) (by simp))).ended k⟩

end

/-! ### A PREPARED context that learns its outcome (R197) -/

/-- The count of outcomes that were found. -/
abbrev resolvedCount (byRing : Bool) : Fld := if byRing then Reg.DOM.RESOLVED_BY_RING else Reg.DOM.RESOLVED_BY_RECORD

/-- An outcome found is counted and reported. -/
def outcomeFound (byRing : Bool) (s : State) : State := s |> inc (resolvedCount byRing) |> event 0xD1 3

theorem resolved_keys (byRing : Bool) : (resolvedCount byRing).key ≠ (Reg.EVT_STS 0xD1 3).key ∧
    (resolvedCount byRing).key ∉ settleKeys := by
  revert byRing
  decide

theorem resolved_ctx (byRing : Bool) (g : Fin 64) :
    (ctxSts g).key ∉ [resolvedCount byRing, Reg.EVT_STS 0xD1 3].map Fld.key ∧ (ctxSts g).key ∉ settleKeys := by
  revert byRing g
  decide +kernel

theorem changes_outcomeFound (byRing : Bool) (s : State) :
    Changes [] [resolvedCount byRing, Reg.EVT_STS 0xD1 3] s (outcomeFound byRing s) :=
  ((Changes.refl _ _ s).inc _ (by simp)).event _ _ (by simp)

theorem resolveWith_prepared {g : Fin 64} {commit byRing : Bool} {s : State} (h3 : ctxState g s = 3) :
    resolveWith g commit byRing s = recordFor g commit (now s + 1) (outcomeFound byRing s) := by
  obtain ⟨hk, hset⟩ := resolved_ctx byRing g
  have hst : ctxState g (outcomeFound byRing s) = 3 := ((changes_outcomeFound byRing s).regs _ hk hset).trans h3
  exact (if_neg (by
    show ¬ ctxState g (outcomeFound byRing s) = 7
    rw [hst]
    decide)).trans rfl

/-- What a command leaves that finds the outcome of a PREPARED context. -/
theorem completes_resolved {c : Instr} {f : State → State} {s : State} (hs : Ready s) {g : Fin 64}
    {commit byRing : Bool} (hc : exec c s = run f s)
    (hf : f (begun s) = recordFor g commit (now s + 1) (outcomeFound byRing (begun s))) :
    Completes c s fun t =>
      { ctx := g, commit := commit, tick := now s + 1 } ∈ t.txn.decisions ∧
      get (resolvedCount byRing) t = oneMore (resolvedCount byRing) s ∧ get (Reg.EVT_STS 0xD1 3) t = 1 ∧
      Changes [.txn] [resolvedCount byRing, Reg.EVT_STS 0xD1 3] s t := by
  obtain ⟨hne, hk⟩ := resolved_keys byRing
  have hfound := (Changes.begin _ _ s).trans (changes_outcomeFound byRing (begun s))
  have hcount : get (resolvedCount byRing) (outcomeFound byRing (begun s)) = oneMore (resolvedCount byRing) s :=
    (get_set_other _ _ hne).trans (get_inc_same _ _)
  have hevent : get (Reg.EVT_STS 0xD1 3) (outcomeFound byRing (begun s)) = 1 := get_set_same _ _ _
  exact .leaves hs hc hf (hfound.reqs.trans hs.2) fun t k =>
    ⟨by
      rw [k.txn]
      exact recordFor_recorded _ _ _ _,
      k.stored hk hcount, k.stored (by decide) hevent,
      ((hfound.widen (by simp) fun _ h => h).trans ((changes_recordFor _ _ _ _).widen (by simp) (by simp))).ended k⟩

/-! ### Questions and answers (R373) -/

theorem completes_query {s : State} (hs : Ready s) (hd : domainRuns s = true) (tag : BitVec 22) (coord : Nat)
    (frame : BitVec 32) (querier : Nat) :
    Completes (.query tag coord frame querier true) s fun t => Changes [] [] s t ∧
      ∀ a, knows tag.toNat coord frame.toNat s = some a →
        onRing false (.answer tag.toNat querier a frame.toNat) s <+: t.out := by
  cases hk : knows tag.toNat coord frame.toNat s
  case none =>
    have heff : queryReceived tag.toNat coord frame.toNat querier (begun s) = begun s := by
      unfold queryReceived
      rw [show domainRuns (begun s) = true from hd,
        show knows tag.toNat coord frame.toNat (begun s) = none from hk]
      rfl
    exact .leaves hs (f := queryReceived tag.toNat coord frame.toNat querier) rfl heff hs.2 fun t k =>
      ⟨(Changes.begin _ _ s).ended k, fun a ha => by cases ha⟩
  case some a =>
    have heff : queryReceived tag.toNat coord frame.toNat querier (begun s) =
        sendCell false (.answer tag.toNat querier a frame.toNat) (begun s) := by
      unfold queryReceived
      rw [show domainRuns (begun s) = true from hd,
        show knows tag.toNat coord frame.toNat (begun s) = some a from hk]
      rfl
    refine .leaves hs (f := queryReceived tag.toNat coord frame.toNat querier) rfl heff hs.2 fun t k =>
      ⟨((Changes.begin _ _ s).emit _).ended k, fun b hb => ?_⟩
    obtain rfl := Option.some.inj hb
    exact k.sent rfl

theorem answer_commits (ans : Fin 6) : (decide (ans.val = 1) || decide (ans.val = 2)) = true ↔ ans = 1 ∨ ans = 2 := by
  revert ans
  decide

section
variable {s : State} (hs : Ready s) (hd : domainRuns s = true) {tag : BitVec 22} {frame : BitVec 32} {g : Nat}
  (hfind : allCtx.find? (fun g => undecided g s && (ballotOf g s).1 == tag.toNat &&
    (ballotOf g s).2.2 == frame.toNat && queryOpen g s) = some g)
include hd hfind

theorem answerReceived_own (ans : Nat) : answerReceived tag.toNat (get Reg.TRN.STS_INDEX s) ans frame.toNat s =
    if ans = 1 || ans = 2 then resolveWith g true true s
    else { s with rng := { s.rng with answers := s.rng.answers ++ [(g, ans)] } } := by
  unfold answerReceived
  rw [if_neg (by simp [hd]), hfind]

include hs

theorem completes_answer (h3 : ctxState g s = 3) (ans : Fin 6) :
    Completes (.answer tag (get Reg.TRN.STS_INDEX s) ans frame true) s fun t =>
      if ans = 1 ∨ ans = 2 then
        { ctx := g, commit := true, tick := now s + 1 } ∈ t.txn.decisions ∧
        get Reg.DOM.RESOLVED_BY_RING t = oneMore Reg.DOM.RESOLVED_BY_RING s ∧ get (Reg.EVT_STS 0xD1 3) t = 1 ∧
        Changes [.txn] [Reg.DOM.RESOLVED_BY_RING, Reg.EVT_STS 0xD1 3] s t
      else t.rng.answers = s.rng.answers ++ [(g, ans.val)] ∧ Changes [.rng] [] s t := by
  have heff := answerReceived_own (s := begun s) hd hfind ans.val
  have hlt : g < 64 := List.mem_range.1 (List.mem_of_find?_eq_some hfind)
  have hcond := answer_commits ans
  by_cases ha : ans = 1 ∨ ans = 2
  · simp only [if_pos ha]
    exact completes_resolved (g := ⟨g, hlt⟩) (byRing := true) hs
      (f := answerReceived tag.toNat (get Reg.TRN.STS_INDEX s) ans.val frame.toNat) rfl
      (heff.trans ((if_pos (hcond.2 ha)).trans (resolveWith_prepared (g := ⟨g, hlt⟩) (s := begun s) h3)))
  · simp only [if_neg ha]
    exact .leaves hs (f := answerReceived tag.toNat (get Reg.TRN.STS_INDEX s) ans.val frame.toNat) rfl
      (heff.trans (if_neg fun h => ha (hcond.1 h))) hs.2 fun t k =>
      ⟨congrArg Rng.answers k.rng, ((Changes.begin _ _ s).in_rng _ (by simp)).ended k⟩

end

/-! ### Commits and aborts of a context of the domain (R179, R188, R194) -/

/-- The fields that a lost undo line moves. -/
def undoLostFields : List Fld := Reg.EVT_STS 0x44 3 :: recordFields 0 ++ raiseFields 188

theorem changes_undoUncorrectable {s : State} (hc : Calm 188 s) (c line : Nat) :
    Changes raiseParts undoLostFields s (undoUncorrectable c line false s) := by
  have htold : Changes raiseParts undoLostFields s (s |> event 0x44 3 |> undoLostRecord (c % 64) line) :=
    ((Changes.refl _ _ s).event _ _ (by simp [undoLostFields])).pushRecord (by decide) (by simp [raiseParts])
      (by simp +contextual [undoLostFields]) _
  have hcalm : Calm 188 (s |> event 0x44 3 |> undoLostRecord (c % 64) line) :=
    ((((Changes.refl [.gq] (Reg.EVT_STS 0x44 3 :: recordFields 0) s).event _ _ (by simp)).pushRecord (q := 0)
        (by decide)
      (by simp) (by simp +contextual) _).source (n := 188) (by decide) (by decide +kernel)).calm hc
  exact htold.trans ((changes_raiseSimple hcalm _ _ _ _).widen (fun _ h => h) (by simp +contextual [undoLostFields]))

/-- The undo lines that a commit can no longer need are reported. -/
def undoReported (g : Nat) (l : List Nat) (s : State) : State :=
  forEach l (fun line => undoUncorrectable g line false) s

theorem changes_undoReported (g : Nat) {l : List Nat} {s : State} (hc : l ≠ [] → Calm 188 s) :
    Changes raiseParts undoLostFields s (undoReported g l s) := by
  cases l with
  | nil => exact .refl _ _ _
  | cons a l =>
    replace hc := hc (by simp)
    refine (forEach_keeps (fun u => Changes raiseParts undoLostFields s u ∧ Calm 188 u) (a :: l) _ s ⟨.refl _ _ _, hc⟩
      fun line _ u hu => ?_).1
    obtain ⟨h, hcalm⟩ := hu
    have hstep := changes_undoUncorrectable hcalm g line
    refine ⟨h.trans hstep, ?_⟩
    obtain ⟨-, h2, h3, h4⟩ := hcalm
    have hsev := hstep.regs (Reg.FLS.SRC_CFG_SEV 188) (by decide +kernel) (by decide +kernel)
    have hact := hstep.regs (Reg.FLS.SRC_CFG_ACT 188) (by decide +kernel) (by decide +kernel)
    exact ⟨by decide, by rwa [hsev], by rwa [hact], by rwa [hact]⟩

/-- The requests and the decisions of a context are done with. -/
def contextSettled (g : Nat) (s : State) : State :=
  { s with txn := { s.txn with requests := s.txn.requests.filter (·.ctx != g),
                               decisions := s.txn.decisions.filter (·.ctx != g) } }

/-- What a commit shows and tells. -/
def commitTold (g : Nat) (degraded attached : Bool) (s : State) : State :=
  s |> event (0x45 + g / 16) (g % 16) |> inc Reg.TXN.COMMITS_COUNT
    |> set (Reg.TXC.CTX_STS_CLEARING (g / 16) (g % 16)) 1
    |> when degraded (set (Reg.TXC.CTX_STS_TWIN_DEGRADED (g / 16) (g % 16)) 1)
    |> when attached (sendTwin "COMMIT_N" [g])

theorem commitCtx_eq (g : Nat) (degraded : Bool) (s : State) : commitCtx g degraded s =
    commitTold g (degraded || s.txn.degraded.contains g) (twinAttached s) (setCtxState g 4 (noteEnd g (voidUndo g
      (undoReported g (lostEntries g s) (contextSettled g s))))) := rfl

/-- The fields that a commit shows. -/
def commitFields (g : Nat) : List Fld :=
  [Reg.EVT_STS (0x45 + g / 16) (g % 16), Reg.TXN.COMMITS_COUNT, Reg.TXC.CTX_STS_CLEARING (g / 16) (g % 16),
    Reg.TXC.CTX_STS_TWIN_DEGRADED (g / 16) (g % 16)]

theorem changes_commitTold (g : Nat) (d a : Bool) (s : State) : Changes [] (commitFields g) s (commitTold g d a s) :=
  (((((Changes.refl _ _ s).event _ _ (by simp [commitFields])).inc _ (by simp [commitFields])).set _ _
    (by simp [commitFields])).cond _ _ fun _ h => h.set _ _ (by simp [commitFields])).cond _ _ fun _ h => h.emit _

theorem changes_forgetBallot (g : Nat) (s : State) : Changes [.rng] [Reg.DOM.STS_BALLOTS] s (forgetBallot g s) :=
  ((Changes.refl [.rng] [Reg.DOM.STS_BALLOTS] s).in_rng _ (by simp)).set _ _ (by simp)

/-- The parts that the end of a context of the domain may change. -/
def outcomeParts : List Part := .txn :: .rng :: raiseParts

/-- The fields that a commit may move before and after it sets the context's state. -/
def outcomeBeside (g : Nat) : List Fld := undoLostFields ++ commitFields g ++ logFields ++ [Reg.DOM.STS_BALLOTS]

/-- The fields that the end of a context of the domain may move. -/
def outcomeFields (g : Nat) : List Fld := outcomeBeside g ++ [ctxSts g, ctxFrm g] ++ useShown

theorem outcome_parts (g : Nat) : [ctxSts g, ctxFrm g] ++ txnShown ⊆ outcomeFields g ∧ logFields ⊆ outcomeFields g := by
  constructor <;> intro f hf <;>
    simp only [outcomeFields, outcomeBeside, useShown, List.mem_append] at hf ⊢ <;> tauto

theorem outcome_key (g : Fin 64) : (ctxSts g).key ∉ (outcomeBeside g).map Fld.key ∧ (ctxSts g).key ∉ settleKeys := by
  revert g
  decide +kernel

section
variable {g : Fin 64} {s : State}

/-- A commit: its state is COMMITTED. -/
theorem commitCtx_shown (hc : lostEntries g s ≠ [] → Calm 188 s) :
    Changes outcomeParts (outcomeFields g) s (commitCtx g false s) ∧ ctxState g (commitCtx g false s) = 4 := by
  obtain ⟨hbeside, hset⟩ := outcome_key g
  rw [commitCtx_eq]
  have hdone : Changes outcomeParts (outcomeFields g) s (contextSettled g s) :=
    (Changes.refl _ _ s).in_txn _ (by simp [outcomeParts])
  have hrep := hdone.trans ((changes_undoReported g (l := lostEntries g s) (s := contextSettled g s) hc).widen
    (by simp [outcomeParts]) (by simp [outcomeFields, outcomeBeside]))
  generalize undoReported g (lostEntries g s) (contextSettled g s) = u at *
  have hvoid : Changes outcomeParts (outcomeFields g) s (noteEnd g (voidUndo g u)) :=
    (hrep.in_txn _ (by simp [outcomeParts])).in_txn _ (by simp [outcomeParts])
  generalize noteEnd g (voidUndo g u) = v at *
  have hst := hvoid.trans ((changes_setCtxState g 4 v).widen (by simp) (outcome_parts g).1)
  obtain ⟨hstate, -⟩ := get_setCtxState g 4 v
  generalize setCtxState g 4 v = w at *
  have htold := changes_commitTold g (false || s.txn.degraded.contains g.val) (twinAttached s) w
  refine ⟨hst.trans (htold.widen (by simp) (by simp [outcomeFields, outcomeBeside])),
      (htold.regs _ ?_ hset).trans hstate⟩
  simp only [outcomeBeside, List.map_append, List.mem_append, not_or] at hbeside
  exact hbeside.1.1.2

/-- The outcome of a context of the domain: COMMITTED or ABORTING. -/
theorem applyOutcome_shown {commit : Bool} (hc : commit = true → lostEntries g s ≠ [] → Calm 188 s) :
    Changes outcomeParts (outcomeFields g) s (applyOutcome g commit s) ∧
    ctxState g (applyOutcome g commit s) = if commit then 4 else 5 := by
  obtain ⟨hbeside, hset⟩ := outcome_key g
  simp only [outcomeBeside, List.map_append, List.mem_append, not_or] at hbeside
  obtain ⟨⟨-, hlog⟩, hballots⟩ := hbeside
  cases commit
  case true =>
    obtain ⟨hch, hstate⟩ := commitCtx_shown (hc rfl)
    show Changes _ _ s (forgetBallot g (logDecision _ (commitCtx g false s))) ∧
      ctxState g (forgetBallot g (logDecision _ (commitCtx g false s))) = 4
    generalize commitCtx g false s = u at *
    exact ⟨(hch.trans ((changes_logDecision _ _).widen (by simp [outcomeParts]) (outcome_parts g).2)).trans
        ((changes_forgetBallot _ _).widen (by simp [outcomeParts]) (by simp [outcomeFields,
        outcomeBeside])),
      ((changes_forgetBallot _ _).regs _ hballots hset).trans (((changes_logDecision _ _).regs _ hlog hset).trans
          hstate)⟩
  case false =>
    let v : State := { s with txn := { s.txn with decisions := s.txn.decisions.filter (·.ctx != g.val) } }
    have hv : Changes outcomeParts (outcomeFields g) s v := (Changes.refl _ _ s).in_txn _ (by simp [outcomeParts])
    show Changes _ _ s (forgetBallot g (Machine.startAbort g v)) ∧ ctxState g (forgetBallot g
        (Machine.startAbort g v)) = 5
    have hab := hv.trans ((changes_startAbort g v).widen (by simp [outcomeParts]) (by simp [outcomeFields]))
    obtain ⟨hstate, -⟩ := startAbort_shown g v
    generalize Machine.startAbort g v = u at *
    exact ⟨hab.trans ((changes_forgetBallot _ _).widen (by simp [outcomeParts]) (by simp [outcomeFields,
        outcomeBeside])),
      ((changes_forgetBallot _ _).regs _ hballots hset).trans hstate⟩

end

/-! ### A forced outcome (R374) -/

/-- The register takes the request. -/
def forceTaken (g : Nat) (commit : Bool) (s : State) : State :=
  s |> set Reg.DOM.FORCE_CTX g |> put1 Reg.DOM.FORCE_OUTCOME commit

theorem changes_forceTaken (g : Nat) (commit : Bool) (s : State) :
    Changes [] [Reg.DOM.FORCE_CTX, Reg.DOM.FORCE_OUTCOME] s (forceTaken g commit s) :=
  ((Changes.refl _ _ s).set _ _ (by simp)).put1 _ _ (by simp)

/-- A forced outcome is noted, logged and counted as a dirty shutdown. -/
def forceNoted (g : Nat) (b : Nat × Nat × Nat) (s : State) : State :=
  s |> set Reg.DOM.FORCE_RESULT 0 |> logDecision { tag := b.1, coord := b.2.1, frame := b.2.2, kind := .forced }
    |> event 0xD1 4 |> countDirtyShutdown |> set (Reg.TXC.CTX_STS_FORCED (g / 16) (g % 16)) 1

/-- The fields that a forced outcome notes. -/
def forceFields (g : Nat) : List Fld :=
  [Reg.DOM.FORCE_RESULT, Reg.EVT_STS 0xD1 4, Reg.TXC.CTX_STS_FORCED (g / 16) (g % 16)] ++ logFields

theorem changes_forceNoted (g : Nat) (b : Nat × Nat × Nat) (s : State) :
    Changes [.rng, .hp] (forceFields g) s (forceNoted g b s) := by
  have hlog : Changes [.rng, .hp] (forceFields g) s (s |> set Reg.DOM.FORCE_RESULT 0 |>
      logDecision { tag := b.1, coord := b.2.1, frame := b.2.2, kind := .forced }) :=
    ((Changes.refl _ _ s).set _ _ (by simp [forceFields])).trans
      ((changes_logDecision _ _).widen (by simp) (List.subset_append_right _ _))
  have hev := hlog.event 0xD1 4 (by simp [forceFields])
  unfold forceNoted countDirtyShutdown
  dsimp only
  exact (Changes.branch _ hev (hev.in_hp _ (by simp))).set _ _ (by simp [forceFields])

/-- The fields that a forced outcome reads, which it leaves until the context ends. -/
def forceKept (g : Nat) : List Fld :=
  [ctxSts g, Reg.SYS.PERSIST_BOOT, Reg.RSR.STS_STAGE, Reg.FLS.SRC_CFG_SEV 188, Reg.FLS.SRC_CFG_ACT 188,
    Reg.TXN.UNDO_CFG_BASE_GIB, Reg.MRV.CFG_GRAN_IN_USE]

/-- The fields that tell of a forced outcome. -/
def forceTold (g : Nat) : List Fld :=
  [Reg.DOM.FORCE_RESULT, Reg.EVT_STS 0xD1 4, Reg.TXC.CTX_STS_FORCED (g / 16) (g % 16)]

/-- The keys beside a forced outcome. -/
theorem force_keys (g : Fin 64) :
    (∀ f ∈ Reg.RSR.STS_STAGE :: forceTold g, f.key ∉ (outcomeFields g).map Fld.key ∧ f.key ∉ settleKeys) ∧
    (∀ f ∈ forceKept g, f.key ∉ ([Reg.DOM.FORCE_CTX, Reg.DOM.FORCE_OUTCOME] ++ forceFields g).map Fld.key ∧
      f.key ∉ settleKeys) ∧
    (Reg.EVT_STS 0xD1 4).key ≠ (Reg.TXC.CTX_STS_FORCED (g.val / 16) (g.val % 16)).key ∧
    Reg.DOM.FORCE_RESULT.key ≠ (Reg.TXC.CTX_STS_FORCED (g.val / 16) (g.val % 16)).key := by
  revert g
  decide +kernel

/-- The undo lines of a context that are poisoned hang on its pairs, the poison list and the place of the slabs. -/
theorem lostEntries_congr {s u : State} (c : Nat) (hp : u.txn = s.txn) (hd : u.dram = s.dram)
    (hb : get Reg.TXN.UNDO_CFG_BASE_GIB u = get Reg.TXN.UNDO_CFG_BASE_GIB s)
    (hg : get Reg.MRV.CFG_GRAN_IN_USE u = get Reg.MRV.CFG_GRAN_IN_USE s) : lostEntries c u = lostEntries c s := by
  unfold lostEntries isPoisoned slabLine undoBase granLines granBytes
  rw [hp, hd, hb, hg]

/-- What a record in GQ2 changes, the end of a command may change as well. -/
theorem changes_toJournal (r : List (BitVec 16)) (s : State) : Changes [] [] s (pushRecord 2 r s) :=
  .ofKeeps (((Keeps.refl lateKeys s).latePushRecord r).mono (by decide))

theorem changes_publishOutcome (g code : Nat) (s : State) : Changes [] [] s (publishOutcome g code s) := by
  unfold publishOutcome contextRecord
  exact .branch _ (.refl _ _ _) (changes_toJournal _ _)

theorem forceNoted_shown (g : Fin 64) (b : Nat × Nat × Nat) (s : State) :
    get Reg.DOM.FORCE_RESULT (forceNoted g b s) = 0 ∧ get (Reg.EVT_STS 0xD1 4) (forceNoted g b s) = 1 ∧
    get (Reg.TXC.CTX_STS_FORCED (g.val / 16) (g.val % 16)) (forceNoted g b s) = 1 ∧
    (forceNoted g b s).hp.outageCounted = true := by
  obtain ⟨-, -, hne1, hne2⟩ := force_keys g
  have hcount : ∀ (f : Fld) (u : State), get f (countDirtyShutdown u) = get f u := fun f u => by
    unfold countDirtyShutdown
    split <;> rfl
  refine ⟨?_, (get_set_other _ _ hne1).trans ((hcount _ _).trans (get_set_same _ _ _)), get_set_same _ _ _, ?_⟩
  · refine (get_set_other _ _ hne2).trans ((hcount _ _).trans ((get_set_other _ _ (by decide)).trans ?_))
    exact ((changes_logDecision _ _).regs _ (by decide) (by decide)).trans (get_set_same _ _ _)
  · show (countDirtyShutdown _).hp.outageCounted = true
    unfold countDirtyShutdown
    split
    case isTrue h => exact h
    case isFalse => rfl

theorem settleDoubt_admitted {g code : Nat} {commit : Bool} {s : State} (hb : admittedNow s = true)
    (h6 : rsrStage (applyOutcome g commit (publishOutcome g code s)) ≠ 6) :
    settleDoubt g commit code s = applyOutcome g commit (publishOutcome g code s) := by
  have hboot : admittedNow (publishOutcome g code s) = true := by
    rw [admittedNow, isSet, (changes_publishOutcome g code s).regs _ (by simp) (by decide)]
    exact hb
  simp only [settleDoubt, tellOutcome, hb, hboot, if_true, Bool.or_true, h6, decide_false, Bool.false_and,
    Bool.false_eq_true, if_false]

/-- A forced outcome is noted and told; then it is applied. -/
theorem forceOutcome_told {g : Fin 64} {commit : Bool} {s : State} (h7 : ctxState g s = 7)
    (hb : admittedNow s = true) : ∃ x : State,
    Changes [.rng, .hp] ([Reg.DOM.FORCE_CTX, Reg.DOM.FORCE_OUTCOME] ++ forceFields g) s x ∧
    get Reg.DOM.FORCE_RESULT x = 0 ∧ get (Reg.EVT_STS 0xD1 4) x = 1 ∧
    get (Reg.TXC.CTX_STS_FORCED (g.val / 16) (g.val % 16)) x = 1 ∧ x.hp.outageCounted = true ∧
    (rsrStage (applyOutcome g commit x) ≠ 6 → forceOutcome g commit s = applyOutcome g commit x) := by
  obtain ⟨hkept, hbefore, -⟩ := force_keys g
  have htaken := changes_forceTaken g commit s
  have hst : ctxState g (forceTaken g commit s) = 7 := by
    obtain ⟨k1, k2⟩ := hbefore (ctxSts g) (by simp [forceKept])
    rw [List.map_append, List.mem_append, not_or] at k1
    exact (htaken.regs _ k1.1 k2).trans h7
  have heff : forceOutcome g commit s = settleDoubt g commit (if commit then 4 else 5)
      (forceNoted g (ballotOf g (forceTaken g commit s)) (forceTaken g commit s)) := if_neg (not_not_intro hst)
  generalize forceTaken g commit s = u at *
  have hnote := (htaken.widen (by simp) (List.subset_append_left _ _)).trans
    ((changes_forceNoted g (ballotOf g u) u).widen (fun _ h => h) (List.subset_append_right _ _))
  obtain ⟨e1, e2, e3, e4⟩ := forceNoted_shown g (ballotOf g u) u
  generalize forceNoted g (ballotOf g u) u = v at *
  have hadm : admittedNow v = true := by
    obtain ⟨k1, k2⟩ := hbefore Reg.SYS.PERSIST_BOOT (by simp [forceKept])
    rw [admittedNow, isSet, hnote.regs _ k1 k2]
    exact hb
  have hpub := changes_publishOutcome g (if commit then 4 else 5) v
  have hget : ∀ f : Fld, f.key ∉ settleKeys → get f (publishOutcome g (if commit then 4 else 5) v) = get f v :=
    fun f hf => hpub.regs f (by simp) hf
  exact ⟨_, hnote.trans (hpub.widen (by simp) (by simp)), (hget _ (by decide)).trans e1, (hget _ (by decide)).trans e2,
    (hget _ (hkept _ (by simp [forceTold])).2).trans e3, (hpub.ports (by simp) (·.outageCounted) fun _ => rfl).trans e4,
    fun h6 => heff.trans (settleDoubt_admitted hadm h6)⟩

section
variable {s : State} (hs : Ready s) {w : Writer} {g : Fin 64} {commit : Bool}
  (hr : Reaches w 0xD1108 (g.val + b2n commit * 64 + 128) s)
include hs hr

theorem completes_force_refused (h7 : ctxState g s ≠ 7) :
    Completes (.domForce w g commit) s fun t =>
      get Reg.DOM.FORCE_RESULT t = 1 ∧
      Changes [] [Reg.DOM.FORCE_CTX, Reg.DOM.FORCE_OUTCOME, Reg.DOM.FORCE_RESULT] s t := by
  have hc := (Changes.begin _ _ s).trans (changes_forceTaken g commit (begun s))
  obtain ⟨hk1, hk2⟩ := (force_keys g).2.1 (ctxSts g) (by simp [forceKept])
  rw [List.map_append, List.mem_append, not_or] at hk1
  have heff : forceOutcome g commit (begun s) = set Reg.DOM.FORCE_RESULT 1 (forceTaken g commit (begun s)) :=
    if_pos (by
      show ctxState g (forceTaken g commit (begun s)) ≠ 7
      rw [ctxState, hc.regs _ hk1.1 hk2]
      exact h7)
  exact .leavesReached hs hr (k := forceOutcome g commit) rfl heff (hc.reqs.trans hs.2) fun t k =>
    ⟨k.stored (by decide) (get_set_same _ _ _), ((hc.widen (fun _ h => h) (by simp)).set _ _ (by simp)).ended k⟩

theorem completes_force (h7 : ctxState g s = 7) (hb : admittedNow s = true) (h6 : rsrStage s ≠ 6) :
    Completes (.domForce w g commit) s fun t => (commit = true → lostEntries g s ≠ [] → Calm 188 s) →
      get Reg.DOM.FORCE_RESULT t = 0 ∧ ctxState g t = (if commit then 4 else 5) ∧
      get (Reg.TXC.CTX_STS_FORCED (g.val / 16) (g.val % 16)) t = 1 ∧ get (Reg.EVT_STS 0xD1 4) t = 1 ∧
      t.hp.outageCounted = true ∧ (∀ x, readByte x t = readByte x s) := by
  obtain ⟨hkept, hbefore, -⟩ := force_keys g
  obtain ⟨x, hx, e1, e2, e3, e4, heff⟩ := forceOutcome_told (s := begun s) (commit := commit) h7 hb
  replace hx := (Changes.begin _ _ s).trans hx
  have hsame : ∀ f ∈ forceKept g, get f x = get f s := fun f hf => hx.regs f (hbefore f hf).1 (hbefore f hf).2
  have hcalm : (commit = true → lostEntries g s ≠ [] → Calm 188 s) →
      commit = true → lostEntries g x ≠ [] → Calm 188 x := fun h hc hl => by
    rw [lostEntries_congr g (hx.txn (by simp)) (hx.dram (by simp)) (hsame _ (by simp [forceKept]))
      (hsame _ (by simp [forceKept]))] at hl
    obtain ⟨-, h2, h3, h4⟩ := h hc hl
    have hsev := hsame (Reg.FLS.SRC_CFG_SEV 188) (by simp [forceKept])
    have hact := hsame (Reg.FLS.SRC_CFG_ACT 188) (by simp [forceKept])
    exact ⟨by decide, by rwa [hsev], by rwa [hact], by rwa [hact]⟩
  have hend : (commit = true → lostEntries g s ≠ [] → Calm 188 s) →
      forceOutcome g commit (begun s) = applyOutcome g commit x := fun h => heff (by
    obtain ⟨k1, k2⟩ := hkept Reg.RSR.STS_STAGE (by simp)
    rw [show rsrStage (applyOutcome g commit x) = rsrStage s from
      ((applyOutcome_shown (hcalm h)).1.regs _ k1 k2).trans (hsame _ (by simp [forceKept]))]
    exact h6)
  obtain ⟨t, hrun, hall⟩ : Completes (.domForce w g commit) s fun t =>
      (commit = true → lostEntries g s ≠ [] → Calm 188 s) → Keeps settleKeys (applyOutcome g commit x) t :=
    .of_reach hs hr (k := forceOutcome g commit) rfl fun h => by
      rw [hend h]
      exact settle_keeps s _ ((applyOutcome_shown (hcalm h)).1.reqs.trans (hx.reqs.trans hs.2))
  refine ⟨t, hrun, fun h => ?_⟩
  have k := hall h
  obtain ⟨hch, hstate⟩ := applyOutcome_shown (hcalm h)
  generalize applyOutcome g commit x = y at *
  have hget : ∀ f ∈ forceTold g, get f t = get f x := fun f hf => by
    obtain ⟨k1, k2⟩ := hkept f (List.mem_cons_of_mem _ hf)
    exact (k.get f k2).trans (hch.regs f k1 k2)
  refine ⟨(hget _ (by simp [forceTold])).trans e1, k.stored (outcome_key g).2 hstate,
    (hget _ (by simp [forceTold])).trans e3, (hget _ (by simp [forceTold])).trans e2, ?_,
    k.bytes (congrArg Dram.mem ((hch.dram (by decide)).trans (hx.dram (by simp))))⟩
  rw [k.ports (·.outageCounted) fun _ => rfl, hch.ports (by decide) (·.outageCounted) fun _ => rfl, e4]

end

/-- Settles O29. -/
theorem resolutionCommands : Obligations.ResolutionCommands := by
  unfold Obligations.ResolutionCommands
  intro s hs
  refine ⟨fun tag coord commit frame effective v hd hl hv => completes_decision hs hd hl hv,
    fun g hu hf hdue hn => ⟨fun hr hd => completes_resolve_asks hs hu hf hdue hn hr hd, fun commit hr h3 => ?_⟩,
    fun tag coord frame querier hd => completes_query hs hd tag coord frame querier,
    fun tag ans frame g hd hfind h3 => completes_answer hs hd hfind h3 ans,
    fun w g commit hr => ⟨completes_force_refused hs hr, completes_force hs hr⟩⟩
  exact completes_resolved (byRing := false) hs (f := fun s => s |> resolveAttempt g.val |> resolveRemoteAttempt
      g.val) rfl
    (attempt_own ((resolveAttempt_recorded (s := begun s) hu hf hdue hr).trans (resolveWith_prepared h3)) hn)

end Sys2Proof.Machine
end

section
/-! SUPPORT. Blocks of the seal store: erases, the Cullet table and reads (R205, R214, R219, R220, R222). -/

namespace Sys2Proof.Machine
set_option Elab.async false

/-! ### The state of a block -/

@[simp] theorem blockAt_setBlock (l : Loc) (b : Block) (s : State) : blockAt l (setBlock l b s) = b :=
  look_put_same _ _ _ _

theorem changes_setBlock (l : Loc) (b : Block) (s : State) : Changes [.nand] [] s (setBlock l b s) :=
  (Changes.refl _ _ s).in_nand _ (by simp)

/-! ### The Cullet table (R222) -/

/-- What an entry of the Cullet table shows. -/
def culletFields : List Fld :=
  [Reg.NFC.POOL_BLOCKS, Reg.NFC.SPARE_PERMILLE, Reg.CUL.COUNT_ENTRIES, Reg.CUL.ENTRY_CH, Reg.CUL.ENTRY_DIE,
    Reg.CUL.ENTRY_BLOCK, Reg.CUL.ENTRY_CAUSE, Reg.CUL.ENTRY_VALID, Reg.EVT_STS 0x51 0, Reg.CUL.LAST_FRAME_FRAME]

theorem changes_culletShow (s : State) : Changes [] culletFields s (culletShow s) := by
  unfold culletShow
  dsimp only
  split
  all_goals exact (((((Changes.refl _ _ s).set _ _ (by simp [culletFields])).set _ _ (by simp [culletFields])).set _ _
    (by simp [culletFields])).set _ _ (by simp [culletFields])).set _ _ (by simp [culletFields])

/-- A block enters the Cullet table. -/
def culletEntered (l : Loc) (cause : Nat) (s : State) : State :=
  { s with nand := { s.nand with
      cullet := s.nand.cullet ++ [{ ch := l.ch, die := l.die, block := l.block, cause := cause }] } }
    |> setBlock l { blockAt l s with grown := none }

/-- The entry is counted and reported. -/
def culletTold (frame : Nat) (s : State) : State :=
  s |> set Reg.NFC.POOL_BLOCKS (get Reg.NFC.POOL_BLOCKS s - 1) |> poolShow |> culletShow |> event 0x51 0
    |> set Reg.CUL.LAST_FRAME_FRAME frame

theorem changes_culletTold (frame : Nat) (s : State) : Changes [] culletFields s (culletTold frame s) := by
  have hpool : Changes [] culletFields s (s |> set Reg.NFC.POOL_BLOCKS (get Reg.NFC.POOL_BLOCKS s - 1) |> poolShow) :=
    (((Changes.refl _ _ s).set _ _ (by simp [culletFields])).set _ _ (by simp [culletFields])).set _ _
      (by simp [culletFields])
  exact ((hpool.trans (changes_culletShow _)).event _ _ (by simp [culletFields])).set _ _ (by simp [culletFields])

theorem culletTold_event (frame : Nat) (s : State) : get (Reg.EVT_STS 0x51 0) (culletTold frame s) = 1 :=
  (get_set_other _ _ (by decide)).trans (get_set_same _ _ _)

theorem enterCullet_eq {l : Loc} {cause : Nat} {s : State} (hg : (blockAt l s).grown = some cause)
    (hv : validRecords l s = 0) (hc : s.nand.cullet.length < 65536) :
    enterCullet l s = culletTold (now s) (culletEntered l cause s) := by
  unfold enterCullet
  rw [hg]
  dsimp only
  rw [if_neg (by simp [hv]), if_neg (by omega)]
  rfl

/-- A block that is grown bad takes no more records. -/
def retired (l : Loc) (cause : Nat) (s : State) : State :=
  { s with nand := { s.nand with
      openBlocks := if look s.nand.openBlocks (16 * l.ch + l.die) = some l.block
        then drop s.nand.openBlocks (16 * l.ch + l.die) else s.nand.openBlocks } }
    |> setBlock l { blockAt l s with grown := some cause }

/-- A block that goes bad with nothing in it that is needed is entered in the Cullet table at once. -/
theorem growBad_eq {l : Loc} {cause : Nat} {s : State} (hb : blockBad l.ch l.die l.block s = false)
    (hv : validRecords l s = 0) (hc : s.nand.cullet.length < 65536) :
    growBad l cause s = culletTold (now s) (culletEntered l cause (retired l cause s)) :=
  (if_neg (by rw [hb]; decide)).trans (enterCullet_eq (s := retired l cause s)
    (congrArg Block.grown (blockAt_setBlock _ _ _)) hv hc)

theorem growBad_listed {l : Loc} {cause : Nat} {s : State} (hb : blockBad l.ch l.die l.block s = false)
    (hv : validRecords l s = 0) (hc : s.nand.cullet.length < 65536) :
    (growBad l cause s).nand.cullet = s.nand.cullet ++
      [{ ch := l.ch, die := l.die, block := l.block, cause := cause }] ∧
    get (Reg.EVT_STS 0x51 0) (growBad l cause s) = 1 ∧
    (growBad l cause s).nand.records = s.nand.records ∧ (growBad l cause s).nand.dieStreak = s.nand.dieStreak ∧
    Changes [.nand] culletFields s (growBad l cause s) := by
  rw [growBad_eq hb hv hc]
  have hin : Changes [.nand] culletFields s (culletEntered l cause (retired l cause s)) :=
    ((((Changes.refl _ _ s).in_nand _ (by simp)).in_nand _ (by simp)).in_nand _ (by simp)).in_nand _ (by simp)
  have hcul : (culletEntered l cause (retired l cause s)).nand.cullet = s.nand.cullet ++
    [{ ch := l.ch, die := l.die, block := l.block, cause := cause }] := rfl
  have hrec : (culletEntered l cause (retired l cause s)).nand.records = s.nand.records := rfl
  have hstreak : (culletEntered l cause (retired l cause s)).nand.dieStreak = s.nand.dieStreak := rfl
  generalize culletEntered l cause (retired l cause s) = u at *
  have htold := changes_culletTold (now s) u
  have hnand := htold.nand (by simp)
  exact ⟨(congrArg Nand.cullet hnand).trans hcul, culletTold_event _ _, (congrArg Nand.records hnand).trans hrec,
    (congrArg Nand.dieStreak hnand).trans hstreak, hin.trans (htold.widen (by simp) fun _ h => h)⟩

/-- A die with fewer than two failures in a row goes on. -/
theorem dieStreak_short {l : Loc} {s : State}
    (h : ((look s.nand.dieStreak (16 * l.ch + l.die)).getD []).length ≤ 1) :
    ∃ x, dieStreak l s = { s with nand := { s.nand with dieStreak := x } } := by
  have hlen : ((l.block :: (look s.nand.dieStreak (16 * l.ch + l.die)).getD []).take 3).length ≠ 3 := by
    rw [List.length_take, List.length_cons]
    omega
  unfold dieStreak
  dsimp only
  rw [beq_eq_false_iff_ne.2 hlen, Bool.false_and, when_false]
  exact ⟨_, rfl⟩

/-! ### Erases (R219, R222) -/

theorem DieOpsOnly.erasable {s u : State} (h : DieOpsOnly s u) (l : Loc) : erasable l u = erasable l s := by
  obtain ⟨x, o, rfl⟩ := h
  rfl

theorem DieOpsOnly.blockAt {s u : State} (h : DieOpsOnly s u) (l : Loc) : blockAt l u = blockAt l s := by
  obtain ⟨x, o, rfl⟩ := h
  rfl

/-- A block that is erased and not worn out is empty, and what it held is gone. -/
theorem blockErased_shown {l : Loc} {s : State}
    (hw : (blockAt l s).erases + 1 < get Reg.NFC.WEAR_ENDURANCE_K s * 1000) :
    blockAt l (blockErased l s) = { erases := (blockAt l s).erases + 1, uncorrBefore := (blockAt l s).uncorr } ∧
    (blockErased l s).nand.records = s.nand.records.filter (fun r => !inBlock l r) ∧
    (blockErased l s).nand.others = s.nand.others.filter (fun r => !metaIn l r) ∧
    Changes [.nand] [Reg.NFC.ERASED_BLOCKS] s (blockErased l s) := by
  unfold blockErased
  dsimp only
  rw [decide_eq_false (by omega), when_false]
  let v : State := { s with nand := { s.nand with
    records := s.nand.records.filter (fun r => !inBlock l r), others := s.nand.others.filter (fun r => !metaIn l r),
    erasing := s.nand.erasing.filter (fun x => blockKey x != blockKey l),
    compacting := s.nand.compacting.filter (fun k => k != blockKey l) } }
  have hv : Changes [.nand] [Reg.NFC.ERASED_BLOCKS] s
      (setBlock l { erases := (blockAt l s).erases + 1, uncorrBefore := (blockAt l s).uncorr } v) :=
    ((Changes.refl [.nand] [Reg.NFC.ERASED_BLOCKS] s).in_nand v.nand (by simp)).in_nand _ (by simp)
  have hshown := when_keeps (fun u : State => Changes [.nand] [Reg.NFC.ERASED_BLOCKS] s u ∧
      u.nand = (setBlock l { erases := (blockAt l s).erases + 1, uncorrBefore := (blockAt l s).uncorr } v).nand)
    ((blockAt l s).pages != 0) (fun s => set Reg.NFC.ERASED_BLOCKS (get Reg.NFC.ERASED_BLOCKS s + 1) s)
    (setBlock l { erases := (blockAt l s).erases + 1, uncorrBefore := (blockAt l s).uncorr } v) ⟨hv, rfl⟩
    fun h => ⟨h.1.set _ _ (by simp), h.2⟩
  obtain ⟨hc, hn⟩ := hshown
  refine ⟨?_, congrArg Nand.records hn, congrArg Nand.others hn, hc.in_nand _ (by simp)⟩
  refine Eq.trans ?_ (blockAt_setBlock l { erases := (blockAt l s).erases + 1, uncorrBefore := (blockAt l s).uncorr } v)
  exact (congrArg (fun n : Nand => (look n.blocks (blockKey l)).getD {}) hn :)

theorem erase_keys {ch : Nat} (h : ch < 32) : (Reg.NCH.FAILS_ERASE ch).key ∉ settleKeys ∧
    (Reg.NCH.FAILS_ERASE ch).key ∉ culletFields.map Fld.key := by
  have hall : ∀ c : Fin 32, (Reg.NCH.FAILS_ERASE c).key ∉ settleKeys ∧
    (Reg.NCH.FAILS_ERASE c).key ∉ culletFields.map Fld.key := by decide +kernel
  exact hall ⟨ch, h⟩

theorem erasable_parts {l : Loc} {s : State} (he : erasable l s = true) : blockBad l.ch l.die l.block s = false ∧
    validRecords l s = 0 := by
  simp only [erasable, Bool.and_eq_true, Bool.not_eq_true', beq_iff_eq] at he
  obtain ⟨⟨⟨⟨⟨⟨-, hbad⟩, -⟩, -⟩, hvalid⟩, -⟩, -⟩ := he
  exact ⟨hbad, hvalid⟩

section
variable {s : State} (hs : Ready s) {l : Loc} (he : erasable l s = true)
include hs he

theorem completes_erased :
    Completes (.nandEraseDone l true) s fun t =>
      (blockAt l s).erases + 1 < get Reg.NFC.WEAR_ENDURANCE_K s * 1000 →
      blockAt l t = { erases := (blockAt l s).erases + 1, uncorrBefore := (blockAt l s).uncorr } ∧
      t.nand.records = s.nand.records.filter (fun r => !inBlock l r) ∧
      t.nand.others = s.nand.others.filter (fun r => !metaIn l r) ∧ (∀ x, readByte x t = readByte x s) ∧
      Changes [.nand] [Reg.NFC.ERASED_BLOCKS] s t := by
  have hops := endOp_dieOps l.ch l.die .erase l.block (begun s)
  have heff : eraseDone l true (begun s) = blockErased l (endOp l.ch l.die .erase l.block (begun s)) :=
    (if_neg (by rw [hops.erasable, show erasable l (begun s) = true from he]; decide)).trans (if_pos rfl)
  have hstart : ∃ u, endOp l.ch l.die .erase l.block (begun s) = u ∧ u.nand.records = s.nand.records ∧
      u.nand.others = s.nand.others ∧ blockAt l u = blockAt l s ∧
      get Reg.NFC.WEAR_ENDURANCE_K u = get Reg.NFC.WEAR_ENDURANCE_K s ∧ Changes [.nand] [Reg.NFC.ERASED_BLOCKS] s u :=
          by
    have hc := (Changes.begin _ _ s).trans hops.changes
    obtain ⟨x, o, hu⟩ := hops
    rw [hu] at hc ⊢
    exact ⟨_, rfl, rfl, rfl, rfl, rfl, hc.widen (fun _ h => h) (by simp)⟩
  obtain ⟨u, hu, hrec, hoth, hblock, hlimit, hc⟩ := hstart
  rw [hu] at heff
  clear hu hops
  refine .leavesWhen hs (f := eraseDone l true) rfl heff fun hw => ?_
  rw [← hblock, ← hlimit] at hw
  obtain ⟨e1, e2, e3, h⟩ := blockErased_shown hw
  rw [hblock] at e1
  rw [hrec] at e2
  rw [hoth] at e3
  have hall := hc.trans h
  exact ⟨hall.reqs.trans hs.2, fun t k =>
    ⟨by rw [← e1, Machine.blockAt, k.nand]; rfl, by rw [k.nand, e2], by rw [k.nand, e3],
      k.bytes (congrArg Dram.mem (hall.dram (by simp))), hall.ended k⟩⟩

/-- What an erase that fails leaves before its block is grown bad. -/
def eraseFailed (l : Loc) (s : State) : State :=
  { s with nand := { s.nand with erasing := s.nand.erasing.filter (fun x => blockKey x != blockKey l) } }
    |> inc (Reg.NCH.FAILS_ERASE l.ch)

theorem completes_eraseFailed (hch : l.ch < 32) :
    Completes (.nandEraseDone l false) s fun t => s.nand.cullet.length < 65536 →
      ((look s.nand.dieStreak (16 * l.ch + l.die)).getD []).length ≤ 1 →
      get (Reg.NCH.FAILS_ERASE l.ch) t = oneMore (Reg.NCH.FAILS_ERASE l.ch) s ∧
      t.nand.cullet = s.nand.cullet ++ [{ ch := l.ch, die := l.die, block := l.block, cause := 1 }] ∧
      get (Reg.EVT_STS 0x51 0) t = 1 ∧ t.nand.records = s.nand.records ∧ (∀ x, readByte x t = readByte x s) := by
  obtain ⟨hk, hbeside⟩ := erase_keys hch
  obtain ⟨hbad, hvalid⟩ := erasable_parts he
  have hops := endOp_dieOps l.ch l.die .erase l.block (begun s)
  have heff : eraseDone l false (begun s) =
      dieStreak l (growBad l 1 (eraseFailed l (endOp l.ch l.die .erase l.block (begun s)))) :=
    (if_neg (by rw [hops.erasable, show erasable l (begun s) = true from he]; decide)).trans (if_neg (by decide))
  have hfail : ∃ u : State, eraseFailed l (endOp l.ch l.die .erase l.block (begun s)) = u ∧
      u.nand.cullet = s.nand.cullet ∧ u.nand.dieStreak = s.nand.dieStreak ∧ u.nand.records = s.nand.records ∧
      blockBad l.ch l.die l.block u = false ∧ validRecords l u = 0 ∧
      get (Reg.NCH.FAILS_ERASE l.ch) u = oneMore (Reg.NCH.FAILS_ERASE l.ch) s ∧
      u.dram = s.dram ∧ u.reqs = s.reqs := by
    obtain ⟨x, o, hu⟩ := hops
    rw [hu]
    exact ⟨_, rfl, rfl, rfl, rfl, hbad, hvalid, get_inc_same _ _, rfl, rfl⟩
  obtain ⟨u, hu, hcul, hstreak, hrec, hbad', hvalid', hcount, hdram, hreqs⟩ := hfail
  rw [hu] at heff
  clear hu hops
  suffices h : Completes (.nandEraseDone l false) s fun t => (s.nand.cullet.length < 65536 ∧
      ((look s.nand.dieStreak (16 * l.ch + l.die)).getD []).length ≤ 1) →
      get (Reg.NCH.FAILS_ERASE l.ch) t = oneMore (Reg.NCH.FAILS_ERASE l.ch) s ∧
      t.nand.cullet = s.nand.cullet ++ [{ ch := l.ch, die := l.die, block := l.block, cause := 1 }] ∧
      get (Reg.EVT_STS 0x51 0) t = 1 ∧ t.nand.records = s.nand.records ∧ (∀ x, readByte x t = readByte x s) from
    h.mono fun t h h1 h2 => h ⟨h1, h2⟩
  refine .leavesWhen hs (f := eraseDone l false) rfl heff fun hq => ?_
  obtain ⟨hlen, hrun⟩ := hq
  obtain ⟨e1, e2, e3, e4, hc⟩ := growBad_listed (cause := 1) hbad' hvalid' (by rw [hcul]; exact hlen)
  have hfails := hc.regs _ hbeside hk
  generalize growBad l 1 u = v at *
  obtain ⟨x, hx⟩ := dieStreak_short (l := l) (s := v) (by rw [e4, hstreak]; exact hrun)
  rw [hx]
  refine ⟨hc.reqs.trans (hreqs.trans hs.2), fun t k =>
    ⟨k.stored hk (hfails.trans hcount), ?_, k.stored (by decide) e2, ?_,
      k.bytes (congrArg Dram.mem ((hc.dram (by simp)).trans hdram))⟩⟩
  · rw [k.nand]
    exact e1.trans (by rw [hcul])
  · rw [k.nand]
    exact e3.trans hrec

end

/-! ### Reads (R220) -/

theorem codewords_eq (l : List (Fin 4)) : codewords l = (List.finRange 4).filter (· ∈ l) := by
  rw [codewords, show ([0, 1, 2, 3] : List (Fin 4)) = List.finRange 4 by decide]
  exact List.filter_congr fun x _ => List.contains_eq_mem x l

theorem codewords_single (c : Fin 4) : codewords [c] = [c] := by
  revert c
  decide

theorem codewords_nonempty {l : List (Fin 4)} (h : l ≠ []) : (codewords l).isEmpty = false := by
  obtain ⟨c, l, rfl⟩ := List.exists_cons_of_ne_nil h
  have hmem : c ∈ codewords (c :: l) := by
    rw [codewords_eq, List.mem_filter]
    exact ⟨List.mem_finRange c, by simp⟩
  rw [List.isEmpty_eq_false_iff]
  exact List.ne_nil_of_mem hmem

theorem endReads_dieOps (l : Loc) (gs : List Nat) (s : State) :
    DieOpsOnly s (forEach gs (endOp l.ch l.die .read) s) :=
  forEach_keeps (DieOpsOnly s) gs _ s (.refl s) fun g _ u hu => by
    obtain ⟨x, o, rfl⟩ := hu
    obtain ⟨y, p, h⟩ := endOp_dieOps l.ch l.die .read g { s with nand := { s.nand with dieOps := x }, out := o }
    exact ⟨y, p, h⟩

/-- The page is read: it counts against its block. -/
def readCounted (l : Loc) (again : List (Fin 4)) (s : State) : State :=
  s |> setBlock l { blockAt l s with
        reads := (blockAt l s).reads + 1,
        refresh := (blockAt l s).refresh || !again.isEmpty ||
          decide (get Reg.NFC.RD_DISTURB_LIMIT s ≤ (blockAt l s).reads + 1) }
    |> count (Reg.NCH.LDPC_RETRIED l.ch) again.length

theorem nandRead_eq {l : Loc} {retried failed : List (Fin 4)} {s : State} (hr : dieReads l s = true) :
    nandRead l retried failed s = forEach (granulesAt l s) (endOp l.ch l.die .read)
      (forEach (codewords failed) (fun c => codewordLost l c.val) (readCounted l (codewords (retried ++ failed)) s)) :=
  if_neg (by rw [hr]; decide)

theorem changes_readCounted (l : Loc) (again : List (Fin 4)) (s : State) :
    Changes [.nand] [Reg.NCH.LDPC_RETRIED l.ch] s (readCounted l again s) :=
  ((Changes.refl _ _ s).in_nand _ (by simp)).count _ _ (by simp)

theorem blockAt_readCounted (l : Loc) (again : List (Fin 4)) (s : State) : blockAt l (readCounted l again s) =
    { blockAt l s with
      reads := (blockAt l s).reads + 1,
      refresh := (blockAt l s).refresh || !again.isEmpty ||
        decide (get Reg.NFC.RD_DISTURB_LIMIT s ≤ (blockAt l s).reads + 1) } := blockAt_setBlock _ _ _

theorem retried_key {ch : Nat} (h : ch < 32) : (Reg.NCH.LDPC_RETRIED ch).key ∉ settleKeys := by
  have hall : ∀ c : Fin 32, (Reg.NCH.LDPC_RETRIED c).key ∉ settleKeys := by decide +kernel
  exact hall ⟨ch, h⟩

theorem completes_pageRead {s : State} (hs : Ready s) {l : Loc} (hch : l.ch < 32) (hr : dieReads l s = true)
    (retried : List (Fin 4)) :
    Completes (.nandReadDone l retried []) s fun t =>
      (blockAt l t).reads = (blockAt l s).reads + 1 ∧ (retried ≠ [] → (blockAt l t).refresh = true) ∧
      (get Reg.NFC.RD_DISTURB_LIMIT s ≤ (blockAt l s).reads + 1 → (blockAt l t).refresh = true) ∧
      get (Reg.NCH.LDPC_RETRIED l.ch) t =
        satAdd (2 ^ (Reg.NCH.LDPC_RETRIED l.ch).w - 1) (get (Reg.NCH.LDPC_RETRIED l.ch) s)
          ((List.finRange 4).filter (· ∈ retried)).length ∧ (∀ x, readByte x t = readByte x s) ∧
      Changes [.nand] [Reg.NCH.LDPC_RETRIED l.ch] s t := by
  have heff : nandRead l retried [] (begun s) = forEach (granulesAt l (begun s)) (endOp l.ch l.die .read)
      (readCounted l (codewords retried) (begun s)) := by
    rw [nandRead_eq (s := begun s) hr, List.append_nil]
    rfl
  have hc := (Changes.begin _ _ s).trans (changes_readCounted l (codewords retried) (begun s))
  have hblock := blockAt_readCounted l (codewords retried) (begun s)
  have hcount : get (Reg.NCH.LDPC_RETRIED l.ch) (readCounted l (codewords retried) (begun s)) =
      satAdd (2 ^ (Reg.NCH.LDPC_RETRIED l.ch).w - 1) (get (Reg.NCH.LDPC_RETRIED l.ch) s)
        ((List.finRange 4).filter (· ∈ retried)).length := by
    rw [← codewords_eq]
    exact get_count_same _ _ _
  generalize readCounted l (codewords retried) (begun s) = u at *
  have hops := endReads_dieOps l (granulesAt l (begun s)) u
  have hb := hops.blockAt l
  have hget : ∀ f : Fld, get f (forEach (granulesAt l (begun s)) (endOp l.ch l.die .read) u) = get f u := fun f => by
    obtain ⟨x, o, h⟩ := hops
    rw [h]
    rfl
  have hall := hc.trans (hops.changes.widen (fun _ h => h) (by simp))
  generalize forEach (granulesAt l (begun s)) (endOp l.ch l.die .read) u = v at *
  refine .leaves hs (f := nandRead l retried []) rfl heff (hall.reqs.trans hs.2) fun t k => ?_
  have hbt : blockAt l t = blockAt l u := by
    rw [← hb, Machine.blockAt, k.nand]
    rfl
  refine ⟨?_, fun h => ?_, fun h => ?_, k.stored (retried_key hch) ((hget _).trans hcount),
    k.bytes (congrArg Dram.mem (hall.dram (by simp))), hall.ended k⟩
  · rw [hbt, hblock]
    rfl
  · rw [hbt, hblock]
    simp [codewords_nonempty h]
  · rw [hbt, hblock]
    simp only [Bool.or_eq_true, decide_eq_true_eq]
    exact .inr h

/-! ### Entries of the Marver -/

/-- An entry's change touches no other entry. -/
theorem entryOf_putEntry (g h : Nat) (e : Entry) (s : State) :
    entryOf h (putEntry g e s) = if h = g then e else entryOf h s := by
  have hfollow : ∀ (f : Fld) (a b : Bool) (u : State), (follow f a b u).mrv = u.mrv := fun f a b u => by
    unfold follow
    split
    · rfl
    · split <;> rfl
  have hentries : (putEntry g e s).mrv.entries = put {} s.mrv.entries g e := by
    have hacc : ∀ (a b : Bool) (u : State), (accumFollow g a b u).mrv.entries = u.mrv.entries := fun a b u => by
      unfold accumFollow
      split <;> rfl
    unfold putEntry placeEntry
    dsimp only
    rw [hacc, hfollow]
    show (follow _ _ _ _).mrv.entries = _
    rw [hfollow, hfollow, hfollow]
  unfold entryOf
  rw [hentries]
  split
  case isTrue hg =>
    rw [hg]
    exact look_put_same _ _ _ _
  case isFalse hg => rw [look_put_other _ _ _ hg]

theorem forceDirty_shown (g : Nat) (s : State) : Changes [.mrv] entryFields s (forceDirty g s) ∧
    (entryInUse g s = true → (entryOf g (forceDirty g s)).state ≠ .clean) ∧
    ∀ h, (entryOf h s).state ≠ .clean → (entryOf h (forceDirty g s)).state ≠ .clean := by
  unfold forceDirty
  split
  case isTrue hu => exact ⟨.refl _ _ _, fun h => by simp [h] at hu, fun h => id⟩
  case isFalse =>
    split
    case h_1 hclean =>
      have hput : ∀ h, entryOf h (countDirtied g none (putEntry g { entryOf g s with state := .dirty } s)) =
          if h = g then { entryOf g s with state := .dirty } else entryOf h s := fun h => entryOf_putEntry g h _ s
      refine ⟨(changes_putEntry _ _ _).in_mrv _ (by simp), fun _ => ?_, fun h hh => ?_⟩
      · rw [hput, if_pos rfl]
        exact Seal.noConfusion
      · rw [hput]
        split
        · exact Seal.noConfusion
        · exact hh
    case h_2 hclean => exact ⟨.refl _ _ _, fun _ => hclean, fun h => id⟩

/-- Granules whose copy on flash is lost have to be sealed again. -/
def sealAgain (g : Nat) (s : State) : State := if admittedNow s then forceDirty g s else s

theorem sealAgain_shown (g : Nat) (s : State) : Changes [.mrv] entryFields s (sealAgain g s) ∧
    (admittedNow s = true → entryInUse g s = true → (entryOf g (sealAgain g s)).state ≠ .clean) ∧
    ∀ h, (entryOf h s).state ≠ .clean → (entryOf h (sealAgain g s)).state ≠ .clean := by
  obtain ⟨h1, h2, h3⟩ := forceDirty_shown g s
  unfold sealAgain
  split
  case isTrue => exact ⟨h1, fun _ => h2, h3⟩
  case isFalse h => exact ⟨.refl _ _ _, fun hb => absurd hb h, fun h => id⟩

theorem entry_place : ∀ f ∈ entryFields, placeKey f.key = false := by decide +kernel

theorem sealAgain_all (gs : List Nat) (s : State) : Changes [.mrv] entryFields s (forEach gs sealAgain s) ∧
    ∀ g, (g ∈ gs ∧ admittedNow s = true ∧ entryInUse g s = true) ∨ (entryOf g s).state ≠ .clean →
      (entryOf g (forEach gs sealAgain s)).state ≠ .clean := by
  induction gs generalizing s with
  | nil => exact ⟨.refl _ _ _, fun g h => h.elim (fun h => absurd h.1 (by simp)) id⟩
  | cons a gs ih =>
    obtain ⟨hc, hin, hkeep⟩ := sealAgain_shown a s
    obtain ⟨hrest, hall⟩ := ih (sealAgain a s)
    rw [forEach_cons]
    refine ⟨hc.trans hrest, fun g hg => hall g ?_⟩
    rcases hg with ⟨hm, hb, hu⟩ | hg
    · rcases List.mem_cons.1 hm with rfl | hm
      · exact .inr (hin hb hu)
      · refine .inl ⟨hm, ?_, ((hc.place entry_place).entryInUse g).trans hu⟩
        rw [admittedNow, isSet, hc.regs _ (by decide) (by decide)]
        exact hb
    · exact .inr (hkeep g hg)

/-! ### A codeword that does not decode (R220) -/

/-- The records that the codeword belongs to are invalid from now on. -/
def codewordMarked (l : Loc) (cw : Nat) (s : State) : State :=
  { s with nand := { s.nand with records := s.nand.records.map (fun r =>
      match pageOf l r s with
      | some k => { r with bad := addNat r.bad (4 * k + cw) }
      | none => r) } }
    |> setBlock l { blockAt l s with uncorr := true }

/-- The loss is counted and reported. -/
def codewordTold (l : Loc) (s : State) : State :=
  s |> inc (Reg.NCH.LDPC_UNCORR l.ch) |> event (0x60 + l.ch) 1

theorem codewordLost_eq {l : Loc} {s : State} (h : (blockAt l s).uncorrBefore = false) (cw : Nat) :
    codewordLost l cw s = forEach (granulesAt l s) sealAgain
      (raiseSimple 224 0 0 l.code 0 (codewordTold l (codewordMarked l cw s))) := by
  unfold codewordLost codewordTold codewordMarked
  dsimp only
  rw [h, when_false]
  congr 1

/-- The fields of the pages of a granule's record. -/
theorem pageOf_congr {s u : State} (hg : get Reg.MRV.CFG_GRAN_IN_USE u = get Reg.MRV.CFG_GRAN_IN_USE s)
    (hp : get Reg.NFC.GEOM_A_PAGES u = get Reg.NFC.GEOM_A_PAGES s) (l : Loc) (r : SealRec) :
    pageOf l r u = pageOf l r s := by
  unfold pageOf headPages pagesPerBlock granPages granBytes
  rw [hg, hp]

/-- The keys of a codeword's loss. -/
theorem codeword_keys (ch : Fin 32) : (∀ f ∈ [Reg.NCH.LDPC_UNCORR ch, Reg.EVT_STS (0x60 + ch.val) 1],
      f.key ∉ (raiseFields 224).map Fld.key ∧ f.key ∉ entryFields.map Fld.key ∧ f.key ∉ settleKeys ∧
      f.key ≠ (Reg.NCH.LDPC_RETRIED ch).key ∧ placeKey f.key = false ∧ f.key ≠ Reg.SYS.PERSIST_BOOT.key) ∧
    (Reg.NCH.LDPC_UNCORR ch).key ≠ (Reg.EVT_STS (0x60 + ch.val) 1).key ∧
    (∀ f ∈ sourceCard 224, f.key ∉ [Reg.NCH.LDPC_RETRIED ch, Reg.NCH.LDPC_UNCORR ch,
      Reg.EVT_STS (0x60 + ch.val) 1].map Fld.key ∧ f.key ∉ entryFields.map Fld.key) ∧
    placeKey (Reg.NCH.LDPC_RETRIED ch).key = false ∧ (Reg.NCH.LDPC_RETRIED ch).key ≠ Reg.SYS.PERSIST_BOOT.key ∧
    ∀ f ∈ [Reg.MRV.CFG_GRAN_IN_USE, Reg.NFC.GEOM_A_PAGES], f.key ≠ (Reg.NCH.LDPC_RETRIED ch).key := by
  revert ch
  decide +kernel

theorem raise224_keys : Reg.SYS.PERSIST_BOOT.key ∉ (raiseFields 224).map Fld.key ∧
    ∀ f ∈ raiseFields 224, placeKey f.key = false := by
  decide +kernel

section
variable {s : State} {l : Loc} (hch : l.ch < 32) (cw : Nat) (hb : (blockAt l s).uncorrBefore = false)
  (hf : Fresh 224 s)
include hch hb hf

/-- What the loss of a codeword leaves. -/
theorem codewordLost_shown :
    let t := codewordLost l cw s
    Raised 224 s t ∧ get (Reg.NCH.LDPC_UNCORR l.ch) t = oneMore (Reg.NCH.LDPC_UNCORR l.ch) s ∧
    get (Reg.EVT_STS (0x60 + l.ch) 1) t = 1 ∧ (blockAt l t).uncorr = true ∧
    (∀ r ∈ s.nand.records, ∀ k, pageOf l r s = some k → ∃ r' ∈ t.nand.records,
      r'.loc = r.loc ∧ r'.granule = r.granule ∧ 4 * k + cw ∈ r'.bad) ∧
    (admittedNow s = true → ∀ g ∈ granulesAt l s, entryInUse g s = true → (entryOf g t).state ≠ .clean) ∧
    t.dram = s.dram ∧ t.reqs = s.reqs := by
  obtain ⟨hkeys, hne, hcard, -⟩ := codeword_keys ⟨l.ch, hch⟩
  obtain ⟨hboot, hplace⟩ := raise224_keys
  obtain ⟨u1, u2, u3, -, u5, u6⟩ := hkeys (Reg.NCH.LDPC_UNCORR l.ch) (by simp)
  obtain ⟨v1, v2, v3, -, v5, v6⟩ := hkeys (Reg.EVT_STS (0x60 + l.ch) 1) (by simp)
  intro t
  have ht : t = codewordLost l cw s := rfl
  clear_value t
  rw [codewordLost_eq hb cw] at ht
  have htold : Changes [.nand] [Reg.NCH.LDPC_UNCORR l.ch, Reg.EVT_STS (0x60 + l.ch) 1] s
      (codewordTold l (codewordMarked l cw s)) :=
    ((((Changes.refl _ _ s).in_nand _ (by simp)).in_nand _ (by simp)).inc _ (by simp)).event _ _ (by simp)
  have hcount : get (Reg.NCH.LDPC_UNCORR l.ch) (codewordTold l (codewordMarked l cw s)) =
      oneMore (Reg.NCH.LDPC_UNCORR l.ch) s := (get_set_other _ _ hne).trans (get_inc_same _ _)
  have hevent : get (Reg.EVT_STS (0x60 + l.ch) 1) (codewordTold l (codewordMarked l cw s)) = 1 := get_set_same _ _ _
  have hblock : (blockAt l (codewordTold l (codewordMarked l cw s))).uncorr = true :=
    congrArg Block.uncorr (blockAt_setBlock _ _ _)
  have hrecs : (codewordTold l (codewordMarked l cw s)).nand.records = s.nand.records.map (fun r =>
      match pageOf l r s with
      | some k => { r with bad := addNat r.bad (4 * k + cw) }
      | none => r) := rfl
  generalize codewordTold l (codewordMarked l cw s) = a at *
  have hsame : SameSource 224 s a := htold.source (by decide) fun f hm h => (hcard f hm).1 (List.mem_cons_of_mem _ h)
  have hfresh := hsame.fresh hf
  have hraised := hsame.raised (raised_raiseSimple hfresh (by decide) (by decide) 0 0 l.code 0)
  have hraise := changes_raiseSimple hfresh.2 0 0 l.code 0
  generalize raiseSimple 224 0 0 l.code 0 a = b at *
  obtain ⟨hseal, hdirty⟩ := sealAgain_all (granulesAt l s) b
  have hstays : SameSource 224 b (forEach (granulesAt l s) sealAgain b) :=
    hseal.source (by decide) fun f hm => (hcard f hm).2
  rw [← ht] at hseal hdirty hstays
  have hnand : t.nand = a.nand := (hseal.nand (by simp)).trans (hraise.nand (by decide))
  refine ⟨hstays.stays hraised, (hseal.regs _ u2 u3).trans ((hraise.regs _ u1 u3).trans hcount),
    (hseal.regs _ v2 v3).trans ((hraise.regs _ v1 v3).trans hevent), ?_, fun r hm k hp => ?_, fun hadm g hg hu => ?_,
    (hseal.dram (by simp)).trans ((hraise.dram (by decide)).trans (htold.dram (by simp))),
    hseal.reqs.trans (hraise.reqs.trans htold.reqs)⟩
  · rw [← hblock, blockAt, blockAt, hnand]
  · rw [hnand, hrecs]
    refine ⟨_, List.mem_map_of_mem hm, ?_⟩
    rw [hp]
    exact ⟨rfl, rfl, mem_addNat_self _ _⟩
  · refine hdirty g (.inl ⟨hg, ?_, ?_⟩)
    · rw [admittedNow, isSet, hraise.regs _ hboot (by decide), htold.regs _ (by simpa using ⟨u6.symm, v6.symm⟩)
        (by decide)]
      exact hadm
    · have hp := (htold.place (by simpa using ⟨u5, v5⟩)).trans (hraise.place hplace)
      exact (hp.entryInUse g).trans hu

end

/-- A read that is counted leaves the records on the page. -/
theorem pageOf_readCounted {l m : Loc} {again : List (Fin 4)} {s : State} (hch : l.ch < 32) (r : SealRec) :
    pageOf m r (readCounted l again s) = pageOf m r s := by
  obtain ⟨-, -, -, -, -, hne⟩ := codeword_keys ⟨l.ch, hch⟩
  have hget : ∀ f ∈ [Reg.MRV.CFG_GRAN_IN_USE, Reg.NFC.GEOM_A_PAGES], get f (readCounted l again s) = get f s :=
    fun f hf => get_set_other _ _ (hne f hf)
  exact pageOf_congr (hget _ (by simp)) (hget _ (by simp)) m r

theorem granulesAt_readCounted {l m : Loc} {again : List (Fin 4)} {s : State} (hch : l.ch < 32) :
    granulesAt m (readCounted l again s) = granulesAt m s := by
  have hrec : (readCounted l again s).nand.records = s.nand.records := rfl
  have hmap : (readCounted l again s).nand.map = s.nand.map := rfl
  simp only [granulesAt, pageOf_readCounted hch, hrec, hmap]

theorem completes_pageLost {s : State} (hs : Ready s) {l : Loc} (hch : l.ch < 32) (hr : dieReads l s = true)
    (cw : Fin 4) (retried : List (Fin 4)) :
    Completes (.nandReadDone l retried [cw]) s fun t => (blockAt l s).uncorrBefore = false → Fresh 224 s →
      Raised 224 s t ∧ get (Reg.NCH.LDPC_UNCORR l.ch) t = oneMore (Reg.NCH.LDPC_UNCORR l.ch) s ∧
      get (Reg.EVT_STS (0x60 + l.ch) 1) t = 1 ∧ (blockAt l t).uncorr = true ∧
      (∀ r ∈ s.nand.records, ∀ k, pageOf l r s = some k → ∃ r' ∈ t.nand.records,
        r'.loc = r.loc ∧ r'.granule = r.granule ∧ 4 * k + cw.val ∈ r'.bad) ∧
      (admittedNow s = true → ∀ g ∈ granulesAt l s, entryInUse g s = true → (entryOf g t).state ≠ .clean) ∧
      (∀ x, readByte x t = readByte x s) := by
  obtain ⟨hkeys, -, hcard, hpl, hboot, -⟩ := codeword_keys ⟨l.ch, hch⟩
  have heff : nandRead l retried [cw] (begun s) = forEach (granulesAt l (begun s)) (endOp l.ch l.die .read)
      (codewordLost l cw (readCounted l (codewords (retried ++ [cw])) (begun s))) := by
    rw [nandRead_eq (s := begun s) hr, codewords_single]
    rfl
  have hc := (Changes.begin _ _ s).trans (changes_readCounted l (codewords (retried ++ [cw])) (begun s))
  have hpage : ∀ r, pageOf l r (readCounted l (codewords (retried ++ [cw])) (begun s)) = pageOf l r s := fun r =>
    pageOf_readCounted hch r
  have hgran := granulesAt_readCounted (m := l) (again := codewords (retried ++ [cw])) (s := begun s) hch
  have hbefore : (blockAt l (readCounted l (codewords (retried ++ [cw])) (begun s))).uncorrBefore =
    (blockAt l s).uncorrBefore := (congrArg Block.uncorrBefore (blockAt_readCounted _ _ _) :)
  have hrec : (readCounted l (codewords (retried ++ [cw])) (begun s)).nand.records = s.nand.records := rfl
  have hcount : ∀ f : Fld, f.key ≠ (Reg.NCH.LDPC_RETRIED l.ch).key →
      get f (readCounted l (codewords (retried ++ [cw])) (begun s)) = get f s := fun f hf => get_set_other _ _ hf
  change granulesAt l _ = granulesAt l s at hgran
  generalize readCounted l (codewords (retried ++ [cw])) (begun s) = u at *
  change nandRead l retried [cw] (begun s) = forEach (granulesAt l s) _ _ at heff
  suffices h : Completes (.nandReadDone l retried [cw]) s fun t =>
      ((blockAt l s).uncorrBefore = false ∧ Fresh 224 s) → _ from h.mono fun t h h1 h2 => h ⟨h1, h2⟩
  refine .leavesWhen hs (f := nandRead l retried [cw]) rfl heff fun hq => ?_
  obtain ⟨hb, hf⟩ := hq
  have hsame : SameSource 224 s u := hc.source (by decide) fun f hm h => (hcard f hm).1 (by
    simp only [List.map_cons, List.map_nil, List.mem_cons] at h ⊢
    tauto)
  obtain ⟨e1, e2, e3, e4, e5, e6, e7, e8⟩ := codewordLost_shown hch cw (hbefore.trans hb) (hsame.fresh hf)
  have hops := endReads_dieOps l (granulesAt l s) (codewordLost l cw u)
  generalize codewordLost l cw u = v at *
  obtain ⟨x, o, hv⟩ := hops
  rw [hv]
  have hold : get (Reg.NCH.LDPC_UNCORR l.ch) u = get (Reg.NCH.LDPC_UNCORR l.ch) s :=
    hcount _ (hkeys _ (by simp)).2.2.2.1
  refine ⟨e8.trans (hc.reqs.trans hs.2), fun t k => ?_⟩
  have hset := SameSource.settle (n := 224) (by decide) k
  refine ⟨hset.stays (hsame.raised e1), k.stored (hkeys _ (by simp)).2.2.1 (e2.trans (by rw [oneMore, oneMore, hold])),
    k.stored (hkeys _ (by simp)).2.2.1 e3, ?_, fun r hm m hp => ?_, fun hadm g hg hu => ?_,
    k.bytes (congrArg Dram.mem (e7.trans (hc.dram (by simp))))⟩
  · rw [blockAt, k.nand]
    exact e4
  · rw [k.nand]
    exact e5 r (hrec ▸ hm) m ((hpage r).trans hp)
  · rw [show entryOf g t = entryOf g v from (congrArg (fun x : Mrv => (look x.entries g).getD {}) k.mrv :)]
    refine e6 ?_ g (hgran ▸ hg) (((hc.place (by simpa using hpl)).entryInUse g).trans hu)
    rw [admittedNow, isSet, hcount _ hboot.symm]
    exact hadm

end Sys2Proof.Machine
end

section
/-! SUPPORT. Dies that fail, moves and checkpoints of the seal store (R205, R212, R213, R217, R218). -/

namespace Sys2Proof.Machine
set_option Elab.async false

/-! ### A bit that is added -/

/-- A bit that was 0 is added: no other bit moves. -/
theorem bitOf_add_other {v k d : Nat} (hk : bitOf v k = false) (hd : d ≠ k) : bitOf (v + 2 ^ k) d = bitOf v d := by
  rcases Nat.lt_or_gt_of_ne hd with h | h
  · rw [bitOf_eq_testBit, bitOf_eq_testBit, Nat.add_comm, Nat.testBit_two_pow_add_gt h]
  · have heven : v / 2 ^ k % 2 = 0 := by
      rw [bitOf, beq_eq_false_iff_ne] at hk
      omega
    have hhalf : (v + 2 ^ k) / 2 ^ k / 2 = v / 2 ^ k / 2 := by
      rw [Nat.add_div_right _ (Nat.two_pow_pos k)]
      omega
    have hsplit : 2 ^ d = 2 ^ k * 2 * 2 ^ (d - k - 1) := by
      rw [← Nat.pow_succ, ← Nat.pow_add]
      congr 1
      omega
    rw [bitOf, bitOf, hsplit, ← Nat.div_div_eq_div_mul, ← Nat.div_div_eq_div_mul, hhalf, ← Nat.div_div_eq_div_mul,
      ← Nat.div_div_eq_div_mul]

/-- It is 1 then. -/
theorem bitOf_add_same {v k : Nat} (hk : bitOf v k = false) : bitOf (v + 2 ^ k) k = true := by
  rw [bitOf_eq_testBit] at hk
  rw [bitOf_eq_testBit, Nat.add_comm, Nat.testBit_two_pow_add_eq, hk]
  rfl

/-- A bit that is taken away is 0 then. -/
theorem bitOf_sub_same (v k : Nat) : bitOf (v - b2n (bitOf v k) * 2 ^ k) k = false := by
  have hbits : b2n (bitOf v k) = bitsOf v k 1 := by
    have h2 := Nat.mod_two_eq_zero_or_one (v / 2 ^ k)
    unfold bitOf bitsOf b2n
    rcases h2 with h | h <;> simp [h]
  rw [hbits]
  exact (congrArg (bitOf · k) (by simp [b2n])).trans (bitOf_put_same v k false)

/-! ### A seal that is given up (R240) -/

theorem abandonSeal_shown (g : Nat) (s : State) : Changes [.nand, .mrv] entryFields s (abandonSeal g s) ∧
    (abandonSeal g s).nand.sealing = s.nand.sealing.filter (·.granule != g) := by
  unfold abandonSeal
  split
  case h_1 h =>
    refine ⟨.refl _ _ _, (List.filter_eq_self.2 fun r hr => ?_).symm⟩
    have := List.find?_eq_none.1 h r hr
    simpa using this
  case h_2 r h =>
    have hdrop : Changes [.nand, .mrv] entryFields s (unqueue r.loc.ch (granPages s) (dropSealing g s)) :=
      ((Changes.refl _ _ s).in_nand _ (by simp)).in_nand _ (by simp)
    have hseal : (unqueue r.loc.ch (granPages s) (dropSealing g s)).nand.sealing =
      s.nand.sealing.filter (·.granule != g) := rfl
    dsimp only
    generalize unqueue r.loc.ch (granPages s) (dropSealing g s) = u at *
    have hop : ∃ x o, dropOp r.loc.ch r.loc.die .program g u =
        { u with nand := { u.nand with dieOps := x }, out := o } := by
      unfold dropOp
      dsimp only
      obtain ⟨o', ho'⟩ : ∃ o', when ((opsOf r.loc.ch r.loc.die u).head?.any fun o => o.kind == .program && o.what == g)
          (emit (.nand r.loc.ch r.loc.die "READ STATUS" [])) u = { u with out := o' } :=
        when_keeps (fun v : State => ∃ o', v = { u with out := o' }) _ _ u ⟨_, rfl⟩ fun _ => ⟨_, rfl⟩
      rw [ho']
      obtain ⟨x, o, h⟩ := endOp_dieOps r.loc.ch r.loc.die .program g { u with out := o' }
      exact ⟨x, o, h⟩
    obtain ⟨x, o, hx⟩ := hop
    rw [hx]
    have hput := changes_putEntry g { entryOf g s with state := .dirty }
      { u with nand := { u.nand with dieOps := x }, out := o }
    refine ⟨(hdrop.in_nand (x := { u.nand with dieOps := x }) (by simp)).out o |>.trans (hput.widen
        (by simp) fun _ h => h), ?_⟩
    exact (congrArg Nand.sealing (hput.nand (by simp))).trans hseal

/-- Seals that are given up, one granule after another. -/
theorem abandonSeals_shown (gs : List Nat) (s : State) :
    Changes [.nand, .mrv] entryFields s (forEach gs abandonSeal s) ∧
    ∀ r ∈ (forEach gs abandonSeal s).nand.sealing, r ∈ s.nand.sealing ∧ r.granule ∉ gs := by
  induction gs generalizing s with
  | nil => exact ⟨.refl _ _ _, fun r hr => ⟨hr, by simp⟩⟩
  | cons g gs ih =>
    obtain ⟨hc, hs⟩ := abandonSeal_shown g s
    obtain ⟨hrest, hall⟩ := ih (abandonSeal g s)
    rw [forEach_cons]
    refine ⟨hc.trans hrest, fun r hr => ?_⟩
    obtain ⟨hm, hg⟩ := hall r hr
    rw [hs, List.mem_filter] at hm
    have hne : r.granule ≠ g := by simpa using hm.2
    exact ⟨hm.1, by simp [hne, hg]⟩

/-! ### A die that fails (R205) -/

/-- The die is marked failed and no longer good. -/
def dieMarked (ch die : Nat) (s : State) : State :=
  s |> set (Reg.NCH.DIE_FAIL_DIES ch) (get (Reg.NCH.DIE_FAIL_DIES ch) s + 2 ^ die)
    |> set (Reg.NCH.STS_DIES_OK ch)
          (get (Reg.NCH.STS_DIES_OK ch) s - b2n (bitOf (get (Reg.NCH.STS_DIES_OK ch) s) die) * 2 ^ die)

/-- The seals under way on a die. -/
def sealsOn (ch die : Nat) (s : State) : List Nat :=
  (s.nand.sealing.filter (fun r => r.loc.ch == ch && r.loc.die == die)).map (·.granule)

/-- The granules whose current record lies on a die. -/
def recordsOn (ch die : Nat) (s : State) : List Nat :=
  (s.nand.records.filter (fun r => r.loc.ch == ch && r.loc.die == die &&
    look s.nand.map r.granule == some r.loc.code)).map (·.granule)

/-- The die has no operation and no move left. -/
def dieLeft (ch die : Nat) (s : State) : State :=
  { s with nand := { s.nand with
      openBlocks := drop s.nand.openBlocks (16 * ch + die), dieOps := drop s.nand.dieOps (16 * ch + die),
      moving := s.nand.moving.filter (fun r => !(r.loc.ch == ch && r.loc.die == die)) } }

/-- What the failure of a die leaves of its records. -/
def dieEmptied (ch die : Nat) (before s : State) : State :=
  dieLeft ch die (forEach (recordsOn ch die before) forceDirty (forEach (sealsOn ch die before) abandonSeal s))

/-- The failure is reported and raised. -/
def dieRaised (ch : Nat) (s : State) : State :=
  s |> event 0x50 3 |> event (0x60 + ch) 0 |>
    raiseSimple (192 + ch) 1 ch (get (Reg.NCH.DIE_FAIL_DIES ch) s) 0

theorem failDie_eq {ch die d : Nat} {s : State} (hb : bitOf (get (Reg.NCH.DIE_FAIL_DIES ch) s) die = false)
    (hd : d < diesPerChannel (dieMarked ch die s))
    (hgood : bitOf (get (Reg.NCH.DIE_FAIL_DIES ch) (dieMarked ch die s)) d = false) :
    ∃ rate, failDie ch die s =
      set Reg.SAV.RATE_MBS rate (dieEmptied ch die (dieMarked ch die s) (dieRaised ch (dieMarked ch die s))) := by
  have hall : (List.range (diesPerChannel (dieMarked ch die s))).all
      (bitOf (get (Reg.NCH.DIE_FAIL_DIES ch) (dieMarked ch die s))) = false := by
    rw [List.all_eq_false]
    exact ⟨d, List.mem_range.2 hd, by rw [hgood]; decide⟩
  refine ⟨saveRate (dieEmptied ch die (dieMarked ch die s) (dieRaised ch (dieMarked ch die s))), ?_⟩
  unfold failDie
  dsimp only
  rw [if_neg (by rw [hb]; decide)]
  unfold dieMarked at hall
  rw [hall, when_false]
  rfl

/-- The keys of a die's failure. -/
theorem die_keys (ch : Fin 32) :
    (∀ f ∈ [Reg.NCH.DIE_FAIL_DIES ch, Reg.NCH.STS_DIES_OK ch, Reg.EVT_STS (0x60 + ch.val) 0],
      f.key ∉ (raiseFields (192 + ch)).map Fld.key ∧ f.key ∉ entryFields.map Fld.key ∧ f.key ∉ settleKeys ∧
      f.key ≠ Reg.SAV.RATE_MBS.key ∧ f.key ≠ (Reg.EVT_STS 0x50 3).key) ∧
    ((Reg.NCH.DIE_FAIL_DIES ch).key ≠ (Reg.NCH.STS_DIES_OK ch).key ∧
      (Reg.NCH.DIE_FAIL_DIES ch).key ≠ (Reg.EVT_STS (0x60 + ch.val) 0).key ∧
      (Reg.NCH.STS_DIES_OK ch).key ≠ (Reg.EVT_STS (0x60 + ch.val) 0).key) ∧
    (∀ f ∈ sourceCard (192 + ch), f.key ∉ [Reg.NCH.DIE_FAIL_DIES ch, Reg.NCH.STS_DIES_OK ch,
      Reg.EVT_STS 0x50 3, Reg.EVT_STS (0x60 + ch.val) 0].map Fld.key ∧ f.key ∉ entryFields.map Fld.key ∧
      f.key ≠ Reg.SAV.RATE_MBS.key) ∧
    Reg.NFC.GEOM_B_DIES.key ≠ (Reg.NCH.DIE_FAIL_DIES ch).key ∧ Reg.NFC.GEOM_B_DIES.key ≠ (Reg.NCH.STS_DIES_OK ch).key ∧
    srcReserved (192 + ch) = false := by
  revert ch
  decide +kernel

/-- The marks of a die that has failed. -/
theorem dieMarked_shown {ch : Fin 32} {die : Fin 16} {s : State}
    (hb : bitOf (get (Reg.NCH.DIE_FAIL_DIES ch) s) die = false) :
    bitOf (get (Reg.NCH.DIE_FAIL_DIES ch) (dieMarked ch die s)) die = true ∧
    bitOf (get (Reg.NCH.STS_DIES_OK ch) (dieMarked ch die s)) die = false ∧
    ∀ d : Nat, d ≠ die → bitOf (get (Reg.NCH.DIE_FAIL_DIES ch) s) d = false →
      bitOf (get (Reg.NCH.DIE_FAIL_DIES ch) (dieMarked ch die s)) d = false := by
  obtain ⟨-, ⟨hne, -⟩, -⟩ := die_keys ch
  have hfail : get (Reg.NCH.DIE_FAIL_DIES ch) (dieMarked ch die s) =
      (get (Reg.NCH.DIE_FAIL_DIES ch) s + 2 ^ die.val) % 2 ^ 16 :=
    (get_set_other _ _ hne).trans (get_set_same _ _ _)
  have hok : get (Reg.NCH.STS_DIES_OK ch) (dieMarked ch die s) = (get (Reg.NCH.STS_DIES_OK ch) s -
      b2n (bitOf (get (Reg.NCH.STS_DIES_OK ch) s) die) * 2 ^ die.val) % 2 ^ 16 := get_set_same _ _ _
  rw [hfail, hok, bitOf_mod die.isLt, bitOf_mod die.isLt]
  refine ⟨bitOf_add_same hb, bitOf_sub_same _ _, fun d hd h => ?_⟩
  rw [bitOf_eq_testBit, Nat.testBit_mod_two_pow, ← bitOf_eq_testBit, bitOf_add_other hb hd, h, Bool.and_false]

theorem changes_dieMarked (ch die : Nat) (s : State) :
    Changes [] [Reg.NCH.DIE_FAIL_DIES ch, Reg.NCH.STS_DIES_OK ch] s (dieMarked ch die s) :=
  ((Changes.refl _ _ s).set _ _ (by simp)).set _ _ (by simp)

theorem dieEmptied_shown (ch die : Nat) (before s : State) (hn : s.nand = before.nand) :
    Changes [.nand, .mrv] entryFields s (dieEmptied ch die before s) ∧
    ∀ r ∈ (dieEmptied ch die before s).nand.sealing, ¬ (r.loc.ch = ch ∧ r.loc.die = die) := by
  obtain ⟨hcut, hseal⟩ := abandonSeals_shown (sealsOn ch die before) s
  have hdirty : Changes [.mrv] entryFields (forEach (sealsOn ch die before) abandonSeal s)
      (forEach (recordsOn ch die before) forceDirty (forEach (sealsOn ch die before) abandonSeal s)) :=
    (Changes.refl _ _ _).each _ _ fun g _ _ hu => hu.trans (forceDirty_shown g _).1
  refine ⟨(hcut.trans (hdirty.widen (by simp) fun _ h => h)).in_nand _ (by simp), fun r hr hloc => ?_⟩
  have hmem : r ∈ (forEach (sealsOn ch die before) abandonSeal s).nand.sealing := by
    rw [← hdirty.nand (by simp)]
    exact hr
  obtain ⟨hm, hg⟩ := hseal r hmem
  rw [hn] at hm
  exact hg (List.mem_map_of_mem (List.mem_filter.2 ⟨hm, by simp [hloc.1, hloc.2]⟩))

/-- The fields that mark a die. -/
def dieFields (ch : Nat) : List Fld := [Reg.NCH.DIE_FAIL_DIES ch, Reg.NCH.STS_DIES_OK ch]

/-- A die's failure that is raised afresh. -/
theorem dieRaised_shown {ch : Fin 32} {m : State} (hf : Fresh (192 + ch) m) :
    Raised (192 + ch) m (dieRaised ch m) ∧ get (Reg.EVT_STS (0x60 + ch.val) 0) (dieRaised ch m) = 1 ∧
    (∀ f ∈ dieFields ch, get f (dieRaised ch m) = get f m) ∧ (dieRaised ch m).nand = m.nand ∧
    (dieRaised ch m).dram = m.dram ∧ (dieRaised ch m).reqs = m.reqs := by
  obtain ⟨hkeys, ⟨-, hne1, hne2⟩, hcard, -, -, hres⟩ := die_keys ch
  have hsrc : 192 + ch.val < 384 := by omega
  have htold : Changes [] [Reg.EVT_STS 0x50 3, Reg.EVT_STS (0x60 + ch.val) 0] m
      (m |> event 0x50 3 |> event (0x60 + ch.val) 0) :=
    ((Changes.refl _ _ m).event _ _ (by simp)).event _ _ (by simp)
  have hevent : get (Reg.EVT_STS (0x60 + ch.val) 0) (m |> event 0x50 3 |> event (0x60 + ch.val) 0) = 1 := get_set_same
      _ _ _
  have hmarks : ∀ f ∈ dieFields ch, get f (m |> event 0x50 3 |> event (0x60 + ch.val) 0) = get f m := fun f hf => by
    have h2 := (hkeys f (by simp [dieFields] at hf ⊢; tauto)).2.2.2.2
    have h1 : f.key ≠ (Reg.EVT_STS (0x60 + ch.val) 0).key := by
      rcases List.mem_cons.1 hf with rfl | hf
      · exact hne1
      · obtain rfl := List.mem_singleton.1 hf
        exact hne2
    exact (get_set_other _ _ h1).trans (get_set_other _ _ h2)
  have hsame : SameSource (192 + ch) m (m |> event 0x50 3 |> event (0x60 + ch.val) 0) :=
    htold.source hsrc fun f hf h => (hcard f hf).1 (List.mem_cons_of_mem _ (List.mem_cons_of_mem _ h))
  have hfresh := hsame.fresh hf
  have hraise := changes_raiseSimple hfresh.2 1 ch (get (Reg.NCH.DIE_FAIL_DIES ch) m) 0
  have hkept : ∀ f ∈ Reg.EVT_STS (0x60 + ch.val) 0 :: dieFields ch, get f (dieRaised ch m) =
      get f (m |> event 0x50 3 |> event (0x60 + ch.val) 0) := fun f hf => by
    obtain ⟨k1, -, k3, -⟩ := hkeys f (by simp [dieFields] at hf ⊢; tauto)
    exact hraise.regs _ k1 k3
  exact ⟨hsame.raised (raised_raiseSimple hfresh hres hsrc 1 ch (get (Reg.NCH.DIE_FAIL_DIES ch) m) 0),
    (hkept _ (by simp)).trans hevent, fun f hf => (hkept f (List.mem_cons_of_mem _ hf)).trans (hmarks f hf),
    (hraise.nand (by decide)).trans (htold.nand (by simp)), (hraise.dram (by decide)).trans (htold.dram (by simp)),
    hraise.reqs.trans htold.reqs⟩

theorem completes_dieTimeout {s : State} (hs : Ready s) (ch : Fin 32) (die : Fin 16) (hg : channelGood ch s = true)
    (hd : die.val < diesPerChannel s) (hb : bitOf (get (Reg.NCH.DIE_FAIL_DIES ch) s) die = false) :
    Completes (.dieTimeout ch die) s fun t => Fresh (192 + ch) s →
      (∃ d, d < diesPerChannel s ∧ d ≠ die ∧ bitOf (get (Reg.NCH.DIE_FAIL_DIES ch) s) d = false) →
      bitOf (get (Reg.NCH.DIE_FAIL_DIES ch) t) die = true ∧ bitOf (get (Reg.NCH.STS_DIES_OK ch) t) die = false ∧
      get (Reg.EVT_STS (0x60 + ch) 0) t = 1 ∧ Raised (192 + ch) s t ∧
      (∀ r ∈ t.nand.sealing, ¬ (r.loc.ch = ch ∧ r.loc.die = die)) ∧ (∀ x, readByte x t = readByte x s) := by
  obtain ⟨hkeys, -, hcard, hgeo1, hgeo2, -⟩ := die_keys ch
  have hsrc : 192 + ch.val < 384 := by omega
  suffices h : Completes (.dieTimeout ch die) s fun t => (Fresh (192 + ch) s ∧
      ∃ d, d < diesPerChannel s ∧ d ≠ die ∧ bitOf (get (Reg.NCH.DIE_FAIL_DIES ch) s) d = false) → _ from
    h.mono fun t h h1 h2 => h ⟨h1, h2⟩
  refine .leavesWhen hs (f := fun s => if channelGood ch.val s && decide (die.val < diesPerChannel s) then
    failDie ch.val die.val s else s) rfl (if_pos (by
      show (channelGood ch s && decide (die.val < diesPerChannel s)) = true
      simp [hg, hd])) fun hq => ?_
  obtain ⟨hf, d, hdl, hdne, hdb⟩ := hq
  obtain ⟨m1, m2, m3⟩ := dieMarked_shown (s := begun s) hb
  have hm := (Changes.begin _ _ s).trans (changes_dieMarked ch die (begun s))
  have hgeo : get Reg.NFC.GEOM_B_DIES (dieMarked ch die (begun s)) = get Reg.NFC.GEOM_B_DIES s :=
    hm.regs _ (by simpa using ⟨hgeo1, hgeo2⟩) (by decide)
  obtain ⟨rate, heff⟩ := failDie_eq (s := begun s) hb (d := d) (by
    rw [diesPerChannel, hgeo]
    exact hdl) (m3 d hdne hdb)
  rw [heff]
  clear heff
  generalize dieMarked ch die (begun s) = m at *
  have hsame : SameSource (192 + ch) s m := hm.source hsrc fun f hf h => (hcard f hf).1 (by
    simp only [List.map_cons, List.map_nil, List.mem_cons] at h ⊢
    tauto)
  obtain ⟨hraised, hevent, hmarks, hnand, hdram, hreqs⟩ := dieRaised_shown (hsame.fresh hf)
  generalize dieRaised ch m = b at *
  obtain ⟨hempty, hseals⟩ := dieEmptied_shown ch die m b hnand
  have hstays : SameSource (192 + ch) b (dieEmptied ch die m b) := hempty.source hsrc fun f hf => (hcard f hf).2.1
  generalize dieEmptied ch die m b = v at *
  have hstays2 : SameSource (192 + ch) v (set Reg.SAV.RATE_MBS rate v) := fun f hf =>
    get_set_other _ _ (hcard f hf).2.2
  have hend : ∀ f ∈ [Reg.NCH.DIE_FAIL_DIES ch, Reg.NCH.STS_DIES_OK ch, Reg.EVT_STS (0x60 + ch.val) 0],
      f.key ∉ settleKeys ∧ get f (set Reg.SAV.RATE_MBS rate v) = get f b := fun f hf => by
    obtain ⟨-, k2, k3, k4, -⟩ := hkeys f hf
    exact ⟨k3, (get_set_other _ _ k4).trans (hempty.regs _ k2 k3)⟩
  refine ⟨hempty.reqs.trans (hreqs.trans (hm.reqs.trans hs.2)), fun t k => ⟨?_, ?_, ?_,
    (SameSource.settle hsrc k).stays (hstays2.stays (hstays.stays (hsame.raised hraised))), ?_,
    k.bytes (congrArg Dram.mem ((hempty.dram (by simp)).trans (hdram.trans (hm.dram (by simp)))))⟩⟩
  · obtain ⟨k1, k2⟩ := hend (Reg.NCH.DIE_FAIL_DIES ch) (by simp)
    rw [k.get _ k1, k2, hmarks _ (by simp [dieFields]), m1]
  · obtain ⟨k1, k2⟩ := hend (Reg.NCH.STS_DIES_OK ch) (by simp)
    rw [k.get _ k1, k2, hmarks _ (by simp [dieFields]), m2]
  · obtain ⟨k1, k2⟩ := hend (Reg.EVT_STS (0x60 + ch.val) 0) (by simp)
    exact k.stored k1 (k2.trans hevent)
  · rw [k.nand]
    exact hseals

/-! ### Programs of records (R208, R209) -/

/-- The seal store but for where metadata records stand and what their places are. -/
def storeCore (n : Nand) : Nand :=
  { n with others := [], dieOps := [], blocks := [], openBlocks := [], queued := [], erasing := [] }

/-- Records were programmed: only their places, their pages and their costs differ. -/
def Programs (s t : State) : Prop :=
  Changes [.nand, .mrv] [Reg.NFC.ERASED_BLOCKS] s t ∧ storeCore t.nand = storeCore s.nand

theorem Programs.refl (s : State) : Programs s s := ⟨.refl _ _ _, rfl⟩

theorem Programs.trans {s t u : State} (h : Programs s t) (k : Programs t u) : Programs s u :=
  ⟨h.1.trans k.1, k.2.trans h.2⟩

/-- A part of the store that programs leave. -/
theorem Programs.nand {α : Type} {s t : State} (h : Programs s t) (f : Nand → α) (hf : ∀ n, f (storeCore n) = f n) :
    f t.nand = f s.nand := (hf _).symm.trans ((congrArg f h.2).trans (hf _))

theorem openBlock_programs (ch die : Nat) (s : State) : Programs s (openBlock ch die s) := by
  unfold openBlock
  split
  case h_1 => exact .refl s
  case h_2 => exact ⟨((Changes.refl _ _ s).in_nand _ (by simp)).set _ _ (by simp), rfl⟩

theorem usePage_programs (ch die : Nat) (s : State) : Programs s (usePage ch die s) := by
  have hopen : Programs s (appendPoint ch die s) := by
    unfold appendPoint
    split
    · split
      · exact .refl s
      · exact openBlock_programs _ _ _
    · exact openBlock_programs _ _ _
  exact hopen.trans ⟨(Changes.refl _ _ _).in_nand _ (by simp), rfl⟩

theorem placePages_programs (ch die n : Nat) (isSeal : Bool) (s : State) :
    Programs s (placePages ch die n isSeal s) := by
  have huse : Programs s (forEach (List.range n) (fun _ => usePage ch die) s) :=
    forEach_keeps (Programs s) _ _ s (.refl s) fun _ _ u hu => hu.trans (usePage_programs ch die u)
  unfold placePages
  dsimp only
  generalize forEach (List.range n) (fun _ => usePage ch die) s = u at *
  generalize hq : put 0 u.nand.queued ch (queuedPages ch u + n) = q
  exact huse.trans ⟨((Changes.refl [.nand, .mrv] _ u).in_nand { u.nand with queued := q } (by simp)).in_mrv _
    (by simp), rfl⟩

theorem programRecord_programs (b : RecBody) (bySave : Bool) (s : State) : Programs s (programRecord b bySave s) := by
  unfold programRecord
  dsimp only
  split
  case h_1 => exact .refl s
  case h_2 die _ =>
    have hplace : Programs s (placePages (nextChannel s) die (bodyPages b s) false (spend s)) :=
      Programs.trans ⟨(Changes.refl _ _ s).spend, rfl⟩ (placePages_programs _ _ _ _ _)
    generalize placePages (nextChannel s) die (bodyPages b s) false (spend s) = u at *
    exact hplace.trans ⟨(((Changes.refl [.nand, .mrv] _ u).in_nand _ (by simp)).in_nand _ (by simp)).emit _, rfl⟩

/-! ### Checkpoints (R213) -/

theorem completes_checkpointStart {s : State} (hs : Ready s) (ha : admittedNow s = true) (hf : fenced s = false)
    (hp : pageReady 0x50 s = true) (hn : s.nand.checkpoint = none)
    (hd : 49152 ≤ s.nand.delta.length ∨ s.nand.lastCheckpoint + 50000 ≤ now s) :
    Completes .checkpointStart s fun t =>
      t.nand = { s.nand with checkpoint := some s.nand.delta.length } ∧ Changes [.nand] [] s t := by
  have heff : checkpointStart (begun s) = { begun s with nand := { s.nand with checkpoint := some s.nand.delta.length
      } } :=
    if_pos (by
      show (admittedNow s && !fenced s && pageReady 0x50 s && s.nand.checkpoint.isNone &&
        (decide (49152 ≤ s.nand.delta.length) || decide (s.nand.lastCheckpoint + 50000 ≤ now s))) = true
      simp [ha, hf, hp, hn, hd])
  exact .leaves hs rfl heff hs.2 fun t k => ⟨k.nand, ((Changes.begin _ _ s).in_nand _ (by simp)).ended k⟩

/-- The records of a checkpoint are programmed. -/
def checkpointRecords (s : State) : State :=
  writeDirectory false (when (culletStale s) (writeCullet false) (writeMaps s))

theorem checkpointRecords_programs (s : State) : Programs s (checkpointRecords s) := by
  have hmaps : Programs s (writeMaps s) := by
    unfold writeMaps
    split
    · exact .refl s
    · exact forEach_keeps (Programs s) _ _ s (.refl s) fun _ _ u hu => hu.trans (programRecord_programs _ _ u)
  have hcullet : Programs s (when (culletStale s) (writeCullet false) (writeMaps s)) :=
    when_keeps (Programs s) _ _ _ hmaps fun h => h.trans (programRecord_programs _ _ _)
  exact hcullet.trans (programRecord_programs _ _ _)

/-- The entries that a checkpoint covers are in the map on flash. -/
def checkpointTaken (n : Nat) (s : State) : State :=
  { s with nand := { s.nand with checkpoint := none, lastCheckpoint := now s,
                                 mapFlash := applyDeltas (s.nand.delta.take n) s.nand.mapFlash } }
    |> setDelta (s.nand.delta.drop n)

/-- The manifest of a checkpoint. -/
def checkpointManifest (s : State) : State :=
  programManifest (buildManifest 2 0 s) (anchorsTake s).1 (anchorsTake s).2 s

theorem checkpointDone_eq {n : Nat} {s : State} (h : s.nand.checkpoint = some n) : checkpointDone s =
    event 0x50 2 (set Reg.NFC.CKPT_FRAME_FRAME (now (checkpointTaken n (checkpointRecords s)))
      (checkpointManifest (checkpointTaken n (checkpointRecords s)))) := by
  unfold checkpointDone
  rw [h]
  rfl

theorem eraseAnchor_shown (ch : Nat) (a : Anchor) (s : State) : Changes [.nand] [] s (eraseAnchor ch a s) ∧
    (eraseAnchor ch a s).nand = { s.nand with manifests := (eraseAnchor ch a s).nand.manifests,
                                              blocks := (eraseAnchor ch a s).nand.blocks } ∧
    (a.page < pagesPerBlock s → eraseAnchor ch a s = s) := by
  unfold eraseAnchor
  split
  case h_1 => exact ⟨.refl _ _ _, rfl, fun _ => rfl⟩
  case h_2 k hk =>
    refine ⟨((Changes.refl _ _ s).in_nand _ (by simp)).in_nand _ (by simp), rfl, fun h => ?_⟩
    rw [if_neg (by omega)] at hk
    cases hk

/-- The parts of the store that a manifest's program leaves. -/
def manifestCore (n : Nand) : Nand :=
  { n with manifests := [], blocks := [], initialised := true, anchor0 := {}, anchor4 := {} }

/-- A manifest with the places that took it. -/
def manifestPlaced (m : Manifest) (a b : Bool) : Manifest :=
  { m with loc := if a then m.loc else none, loc4 := if b then m.loc4 else none }

/-- A manifest stands in the anchor blocks. -/
def manifestAdded (x : Manifest) (s : State) : State :=
  { s with nand := { s.nand with manifests := s.nand.manifests ++ [x], initialised := true,
                                 anchor0 := useAnchor 0 s.nand.anchor0 s, anchor4 := useAnchor 4 s.nand.anchor4 s } }

theorem programManifest_shown (m : Manifest) (a b : Bool) (s : State) :
    Changes [.nand] [Reg.NFC.MANIFEST_LOC_LOC] s (programManifest m a b s) ∧
    manifestCore (programManifest m a b s).nand = manifestCore s.nand ∧
    (s.nand.anchor0.page < pagesPerBlock s → s.nand.anchor4.page < pagesPerBlock s →
      (programManifest m a b s).nand.manifests = s.nand.manifests ++ [manifestPlaced m a b]) := by
  let u : State := manifestAdded (manifestPlaced m a b) s
  let v := when b (eraseAnchor 4 s.nand.anchor4) (when a (eraseAnchor 0 s.nand.anchor0) u)
  have hstep : ∀ ch y w, Changes [.nand] [] u w ∧ manifestCore w.nand = manifestCore s.nand →
      Changes [.nand] [] u (eraseAnchor ch y w) ∧ manifestCore (eraseAnchor ch y w).nand = manifestCore s.nand := by
    intro ch y w hw
    obtain ⟨h1, h2, -⟩ := eraseAnchor_shown ch y w
    refine ⟨hw.1.trans h1, ?_⟩
    rw [h2]
    exact hw.2
  have hv : Changes [.nand] [] u v ∧ manifestCore v.nand = manifestCore s.nand :=
    when_keeps (fun w : State => Changes [.nand] [] u w ∧ manifestCore w.nand = manifestCore s.nand) _ _ _
      (when_keeps (fun w : State => Changes [.nand] [] u w ∧ manifestCore w.nand = manifestCore s.nand) _ _ u
        ⟨.refl _ _ _, rfl⟩ (hstep _ _ _)) (hstep _ _ _)
  have heff : programManifest m a b s = when (twinAttached s) sealN (manifestShow v) := rfl
  have hu : Changes [.nand] [] s u := (Changes.refl _ _ s).in_nand u.nand (by simp)
  have hshow : Changes [.nand] [Reg.NFC.MANIFEST_LOC_LOC] s (manifestShow v) :=
    ((hu.trans hv.1).widen (fun _ h => h) (by simp)).set _ _ (by simp)
  have hnand : (programManifest m a b s).nand = v.nand := by
    rw [heff]
    exact when_keeps (fun w : State => w.nand = v.nand) _ _ _ rfl fun h => h
  refine ⟨?_, ?_, fun h0 h4 => ?_⟩
  · rw [heff]
    exact hshow.cond _ _ fun _ h => h.emit _
  · rw [hnand]
    exact hv.2
  · have h1 : when a (eraseAnchor 0 s.nand.anchor0) u = u :=
      when_keeps (fun w : State => w = u) _ _ u rfl fun _ => (eraseAnchor_shown _ _ _).2.2 h0
    have h2 : v = u := by
      show when b (eraseAnchor 4 s.nand.anchor4) (when a (eraseAnchor 0 s.nand.anchor0) u) = u
      rw [h1]
      exact when_keeps (fun w : State => w = u) _ _ u rfl fun _ => (eraseAnchor_shown _ _ _).2.2 h4
    rw [hnand, h2]
    rfl

theorem completes_ckptDone {s : State} (hs : Ready s) {n : Nat} (hn : s.nand.checkpoint = some n) :
    Completes .ckptDone s fun t =>
      let map := applyDeltas (s.nand.delta.take n) s.nand.mapFlash
      t.nand.checkpoint = none ∧ t.nand.delta = s.nand.delta.drop n ∧ t.nand.lastCheckpoint = now s ∧
      t.nand.mapFlash = map ∧
      (s.nand.anchor0.page < pagesPerBlock s → s.nand.anchor4.page < pagesPerBlock s →
        ∃ m, t.nand.manifests = s.nand.manifests ++ [m] ∧ m.kind = 2 ∧ m.seq = nextSeq s ∧ m.map = map) ∧
      get Reg.NFC.CKPT_FRAME_FRAME t = now32 s ∧ get (Reg.EVT_STS 0x50 2) t = 1 ∧ (∀ x, readByte x t = readByte x s)
          := by
  have heff := checkpointDone_eq (s := begun s) hn
  have hprog := checkpointRecords_programs (begun s)
  have hc := (Changes.begin _ _ s).trans hprog.1
  have hdelta : (checkpointRecords (begun s)).nand.delta = s.nand.delta := hprog.nand Nand.delta fun _ => rfl
  have hflash : (checkpointRecords (begun s)).nand.mapFlash = s.nand.mapFlash := hprog.nand Nand.mapFlash fun _ => rfl
  have hman : (checkpointRecords (begun s)).nand.manifests = s.nand.manifests := hprog.nand Nand.manifests fun _ => rfl
  have ha0 : (checkpointRecords (begun s)).nand.anchor0 = s.nand.anchor0 := hprog.nand Nand.anchor0 fun _ => rfl
  have ha4 : (checkpointRecords (begun s)).nand.anchor4 = s.nand.anchor4 := hprog.nand Nand.anchor4 fun _ => rfl
  generalize checkpointRecords (begun s) = u at *
  have hnow : now u = now s := by
    have h := hc.frm (by simp)
    unfold now
    rw [h]
  have htaken : Changes [.nand, .mrv] [Reg.NFC.ERASED_BLOCKS, Reg.NFC.DELTA_USED] s (checkpointTaken n u) :=
    (((hc.widen (fun _ h => h) (by simp)).in_nand _ (by simp)).in_nand _ (by simp)).set _ _ (by simp)
  have hpages : pagesPerBlock (checkpointTaken n u) = pagesPerBlock s := htaken.regs _ (by decide) (by decide)
  have hserial : (checkpointTaken n u).pwr = s.pwr := htaken.pwr (by simp)
  have hnand : (checkpointTaken n u).nand = { u.nand with
    checkpoint := none, lastCheckpoint := now s, delta := s.nand.delta.drop n,
    mapFlash := applyDeltas (s.nand.delta.take n) s.nand.mapFlash } := by
    rw [← hnow, ← hdelta, ← hflash]
    rfl
  have hnow' : now (checkpointTaken n u) = now s := hnow
  generalize checkpointTaken n u = v at *
  obtain ⟨hm, hcore, hadded⟩ := programManifest_shown (buildManifest 2 0 v) (anchorsTake v).1 (anchorsTake v).2 v
  change Changes _ _ v (checkpointManifest v) at hm
  change manifestCore (checkpointManifest v).nand = _ at hcore
  change _ → _ → (checkpointManifest v).nand.manifests = _ at hadded
  generalize checkpointManifest v = w at *
  have hpart : ∀ {α : Type} (f : Nand → α), (∀ x, f (manifestCore x) = f x) → f w.nand = f v.nand := fun f hf =>
    (hf _).symm.trans ((congrArg f hcore).trans (hf _))
  refine .leaves hs rfl heff (hm.reqs.trans (htaken.reqs.trans hs.2)) fun t k => ?_
  have hpart' : ∀ {α : Type} (f : Nand → α), (∀ x, f (manifestCore x) = f x) → f t.nand = f v.nand := fun f hf =>
    (congrArg f k.nand).trans (hpart f hf)
  refine ⟨(hpart' Nand.checkpoint fun _ => rfl).trans (by rw [hnand]),
    (hpart' Nand.delta fun _ => rfl).trans (by rw [hnand]),
    (hpart' Nand.lastCheckpoint fun _ => rfl).trans (by rw [hnand]),
    (hpart' Nand.mapFlash fun _ => rfl).trans (by rw [hnand]), fun h0 h4 => ?_,
    k.stored (by decide) ((get_set_other _ _ (by decide)).trans ((get_set_same _ _ _).trans (congrArg
        (· % 2 ^ 32) hnow'))),
    k.stored (by decide) (get_set_same _ _ _),
    k.bytes (congrArg Dram.mem ((hm.dram (by simp)).trans (htaken.dram (by simp))))⟩
  have hmanifests : v.nand.manifests = s.nand.manifests := by rw [hnand, ← hman]
  have hadd := hadded (by rw [hnand, hpages, ← ha0] at *; exact h0) (by rw [hnand, hpages, ← ha4] at *; exact h4)
  refine ⟨manifestPlaced (buildManifest 2 0 v) (anchorsTake v).1 (anchorsTake v).2,
    (congrArg Nand.manifests k.nand).trans (hadd.trans (by rw [hmanifests])), rfl, ?_, ?_⟩
  · show nextSeq v = nextSeq s
    unfold nextSeq newestManifest deviceId
    rw [hmanifests, hserial]
  · show v.nand.mapFlash = _
    rw [hnand]

/-! ### Moves (R212, R218) -/

theorem moveMetadata_programs (l : Loc) (s : State) : Programs s (moveMetadata l s) :=
  forEach_keeps (Programs s) _ _ s (.refl s) fun r _ u hu => by
    have h := hu.trans (programRecord_programs r.body r.bySave u)
    dsimp only
    generalize programRecord r.body r.bySave u = v at *
    exact h.trans ⟨(Changes.refl [.nand, .mrv] _ v).in_nand _ (by simp), rfl⟩

/-- The map, the granules' records and what is beside the store. -/
def moveKept (s : State) : List (Nat × Nat) × List SealRec × Dram × List Req × Nat :=
  (s.nand.map, s.nand.records, s.dram, s.reqs, get Reg.NFC.MOVES_COUNT s)

theorem enterCullet_kept (l : Loc) {s : State} (h : s.nand.cullet.length < 65536) :
    moveKept (enterCullet l s) = moveKept s := by
  cases hg : (blockAt l s).grown with
  | none =>
    unfold enterCullet
    rw [hg]
  | some cause =>
    by_cases hv : validRecords l s = 0
    · rw [enterCullet_eq hg hv h]
      have htold := changes_culletTold (now s) (culletEntered l cause s)
      have hnand := htold.nand (by simp)
      have hmap : (culletEntered l cause s).nand.map = s.nand.map := rfl
      have hrec : (culletEntered l cause s).nand.records = s.nand.records := rfl
      exact Prod.ext ((congrArg Nand.map hnand).trans hmap) (Prod.ext ((congrArg Nand.records hnand).trans hrec)
        (Prod.ext (htold.dram (by simp)) (Prod.ext htold.reqs (htold.regs _ (by decide) (by decide)))))
    · unfold enterCullet
      rw [hg]
      dsimp only
      rw [if_pos hv]

theorem eraseIfEmpty_kept (l : Loc) {s : State} (h : s.nand.cullet.length < 65536) :
    moveKept (eraseIfEmpty l s) = moveKept s := by
  unfold eraseIfEmpty
  dsimp only
  split
  case isTrue => rfl
  case isFalse =>
    have hprog := moveMetadata_programs l s
    have hmeta : moveKept (moveMetadata l s) = moveKept s :=
      Prod.ext (hprog.nand Nand.map fun _ => rfl) (Prod.ext (hprog.nand Nand.records fun _ => rfl)
        (Prod.ext (hprog.1.dram (by simp)) (Prod.ext hprog.1.reqs (hprog.1.regs _ (by decide) (by decide)))))
    have hcul := enterCullet_kept l (s := moveMetadata l s) (by
      rw [hprog.nand Nand.cullet fun _ => rfl]
      exact h)
    rw [hmeta] at hcul
    generalize enterCullet l (moveMetadata l s) = u at *
    split
    case isFalse => exact hcul
    case isTrue =>
      obtain ⟨x, o, hx⟩ := queueOp_dieOps l.ch l.die { kind := .erase, what := l.block }
        { u with nand := { u.nand with erasing := u.nand.erasing ++ [{ l with page := 0 }] } }
      rw [hx]
      exact hcul

/-- A move that is over leaves the queues of its die. -/
def moveEnded (g : Nat) (r : SealRec) (s : State) : State :=
  { s with nand := { s.nand with moving := s.nand.moving.filter (·.granule != g) } }
    |> unqueue r.loc.ch (granPages s) |> endOp r.loc.ch r.loc.die .program g |> urgentEnds g
    |> dieGood r.loc.ch r.loc.die

/-- The seal store but for the operations of its dies. -/
def moveCore (n : Nand) : Nand := { n with moving := [], queued := [], dieOps := [], dieStreak := [] }

theorem moveEnded_shown (g : Nat) (r : SealRec) (s : State) :
    Changes [.nand] [] s (moveEnded g r s) ∧ moveCore (moveEnded g r s).nand = moveCore s.nand := by
  have hstart : Changes [.nand] [] s (unqueue r.loc.ch (granPages s)
      { s with nand := { s.nand with moving := s.nand.moving.filter (·.granule != g) } }) :=
    ((Changes.refl _ _ s).in_nand _ (by simp)).in_nand _ (by simp)
  have hcore : moveCore (unqueue r.loc.ch (granPages s)
      { s with nand := { s.nand with moving := s.nand.moving.filter (·.granule != g) } }).nand = moveCore s.nand := rfl
  unfold moveEnded
  generalize unqueue r.loc.ch (granPages s) _ = u at *
  obtain ⟨x, o, hx⟩ := endOp_dieOps r.loc.ch r.loc.die .program g u
  rw [hx]
  obtain ⟨y, p, hy⟩ := urgentEnds_dieOps g { u with nand := { u.nand with dieOps := x }, out := o }
  dsimp only
  rw [hy]
  exact ⟨(((hstart.in_nand (x := { u.nand with dieOps := x }) (by simp)).out o).in_nand (x :=
      { u.nand with dieOps := y })
    (by simp)).out p |>.in_nand _ (by simp), hcore⟩

/-- The record that a move made is the current one. -/
def moveConfirmed (g : Nat) (r : SealRec) (s : State) : State :=
  { s with nand := { s.nand with records := s.nand.records ++ [r] } }
    |> enterDelta g r.gen true r.loc.code |> inc Reg.NFC.MOVES_COUNT

theorem moveConfirmed_shown (g : Nat) (r : SealRec) (s : State) :
    Changes [.nand] [Reg.NFC.DELTA_USED, Reg.NFC.MOVES_COUNT] s (moveConfirmed g r s) ∧
    (moveConfirmed g r s).nand.map = insert (drop s.nand.map g) g r.loc.code ∧
    (moveConfirmed g r s).nand.records = s.nand.records ++ [r] ∧
    get Reg.NFC.MOVES_COUNT (moveConfirmed g r s) = oneMore Reg.NFC.MOVES_COUNT s ∧
    (moveConfirmed g r s).nand.cullet = s.nand.cullet ∧ (moveConfirmed g r s).nand.manifests = s.nand.manifests := by
  refine ⟨?_, rfl, rfl, (get_inc_same _ _).trans ?_, rfl, rfl⟩
  · exact ((((((Changes.refl _ _ s).in_nand _ (by simp)).in_nand _ (by simp)).set _ _ (by simp)).in_nand _
      (by simp))).inc _ (by simp)
  · exact congrArg (satAdd _ · 1) (get_set_other _ _ (by decide))

theorem moveDone_eq {g : Nat} {r o : SealRec} {s : State} (hm : s.nand.moving.find? (fun r => r.granule == g) = some r)
    (hc : currentRecord g (moveEnded g r s) = some o) (hg : o.gen = r.gen) (hf : o.frame = r.frame)
    (hd : deltaFull (moveEnded g r s) = false) :
    moveDone g s = eraseIfEmpty o.loc (moveConfirmed g r (moveEnded g r s)) := by
  unfold moveDone
  rw [hm]
  change (match currentRecord g (moveEnded g r s) with
    | none => _
    | some o => _) = _
  rw [hc]
  exact if_pos ⟨hg, hf, hd⟩

section
variable {s : State} (hs : Ready s) {g : Nat} {r o : SealRec}
  (hm : s.nand.moving.find? (fun r => r.granule == g) = some r) (hc : currentRecord g s = some o)
  (hg : o.gen = r.gen) (hf : o.frame = r.frame) (hd : deltaFull s = false)
include hs hm hc hg hf hd

theorem completes_moveDone :
    Completes (.moveDone g) s fun t => s.nand.cullet.length < 65536 →
      look t.nand.map g = some r.loc.code ∧ r ∈ t.nand.records ∧
      get Reg.NFC.MOVES_COUNT t = oneMore Reg.NFC.MOVES_COUNT s ∧ (∀ x, readByte x t = readByte x s) ∧
      ((∃ x ∈ s.nand.records, x.granule ≠ g ∧ inBlock o.loc x = true ∧ recordNeeded x s = true) →
        Changes [.nand] [Reg.NFC.DELTA_USED, Reg.NFC.MOVES_COUNT] s t) := by
  obtain ⟨hended, hcore⟩ := moveEnded_shown g r (begun s)
  have hpart : ∀ {α : Type} (f : Nand → α), (∀ x, f (moveCore x) = f x) → f (moveEnded g r (begun s)).nand = f s.nand :=
    fun f hf => (hf _).symm.trans ((congrArg f hcore).trans (hf _))
  have hmap := hpart Nand.map fun _ => rfl
  have hrec := hpart Nand.records fun _ => rfl
  have hdelta := hpart Nand.delta fun _ => rfl
  have heff := moveDone_eq (s := begun s) hm (by rw [currentRecord, hmap, hrec]; exact hc) hg hf (by
    rw [deltaFull, hdelta]
    exact hd)
  have hman := hpart Nand.manifests fun _ => rfl
  have hcul := hpart Nand.cullet fun _ => rfl
  clear hpart hcore
  replace hended := (Changes.begin _ _ s).trans hended
  generalize moveEnded g r (begun s) = u at *
  obtain ⟨hconf, e1, e2, e3, e4, e5⟩ := moveConfirmed_shown g r u
  replace hconf := (hended.widen (fun _ h => h) (by simp)).trans hconf
  rw [hmap] at e1
  rw [hrec] at e2
  rw [oneMore, hended.regs _ (by simp) (by decide)] at e3
  rw [hcul] at e4
  rw [hman] at e5
  generalize moveConfirmed g r u = v at *
  refine .leavesWhen hs rfl heff fun hlen => ?_
  obtain ⟨k1, hrest⟩ := Prod.ext_iff.1 (eraseIfEmpty_kept o.loc (s := v) (by rw [e4]; exact hlen))
  obtain ⟨k2, hrest⟩ := Prod.ext_iff.1 hrest
  obtain ⟨k3, hrest⟩ := Prod.ext_iff.1 hrest
  obtain ⟨k4, k5⟩ := Prod.ext_iff.1 hrest
  have hlook : look v.nand.map g = some r.loc.code := by
    rw [e1, look_insert_same _ _ _ (look_drop_same _ _)]
  refine ⟨k4.trans (hconf.reqs.trans hs.2), fun t k => ⟨?_, ?_, k.stored (by decide) (k5.trans e3),
    k.bytes (congrArg Dram.mem (k3.trans (hconf.dram (by simp)))), fun hx => ?_⟩⟩
  · rw [k.nand]
    exact (congrArg (look · g) k1).trans hlook
  · rw [k.nand]
    refine (congrArg (r ∈ ·) (k2.trans e2)).mpr ?_
    exact List.mem_append_right _ (List.mem_singleton_self r)
  · obtain ⟨x, hx, hne, hin, hneed⟩ := hx
    have hstay : eraseIfEmpty o.loc v = v := if_pos (by
      rw [List.any_eq_true]
      refine ⟨x, e2 ▸ List.mem_append_left _ hx, ?_⟩
      have hsame : recordNeeded x v = recordNeeded x s := by
        unfold recordNeeded newestManifest deviceId
        rw [e1, look_insert_other _ _ hne, look_drop_other _ hne, e5, hconf.pwr (by simp)]
      rw [hin, hsame, hneed]
      rfl)
    rw [hstay] at k
    exact hconf.ended k

end

/-! ### Erased blocks below the reserve (R217) -/

theorem completes_freeSpaceLow {s : State} (hs : Ready s) (h : 50 ≤ s.nand.lowFrames) :
    Completes .freeSpaceLow s fun t => Fresh 226 s →
      isSet (Reg.FLS.LIVE 226) t = true ∧ Raised 226 s t ∧ Changes raiseParts (raiseFields 226) s t := by
  refine .leavesWhen hs (f := fun s => if 50 ≤ s.nand.lowFrames then
    raiseHeld 226 0 0 (get Reg.NFC.ERASED_BLOCKS s) (get Reg.NFC.SAVE_RESERVE_BLOCKS s) s else s) rfl
        (if_pos h) fun hf => ?_
  have hfresh : Fresh 226 (begun s) := hf
  have hc := (Changes.begin _ _ s).trans
    (changes_raiseHeld hfresh.2 0 0 (get Reg.NFC.ERASED_BLOCKS (begun s)) (get Reg.NFC.SAVE_RESERVE_BLOCKS (begun s)))
  have hlive : isSet (Reg.FLS.LIVE 226) (raiseHeld 226 0 0 (get Reg.NFC.ERASED_BLOCKS (begun s))
    (get Reg.NFC.SAVE_RESERVE_BLOCKS (begun s)) (begun s)) = true := live_raise hfresh (show srcReserved 226 = false
        by decide) (show 226 < 384 by decide)
  have hraised := raised_raiseHeld hfresh (by decide) (by decide) 0 0 (get Reg.NFC.ERASED_BLOCKS (begun s))
    (get Reg.NFC.SAVE_RESERVE_BLOCKS (begun s))
  exact ⟨hc.reqs.trans hs.2, fun t k => ⟨((SameSource.settle (by decide) k).live).trans hlive,
    (SameSource.settle (by decide) k).stays hraised, hc.ended k⟩⟩

/-- Settles O31. -/
theorem nandCommands : Obligations.NandCommands := by
  unfold Obligations.NandCommands
  intro s hs l hch same run
  refine ⟨fun he => completes_erased hs he, fun he => completes_eraseFailed hs he hch, fun retried hr =>
    completes_pageRead hs hch hr retried, fun cw retried hr => completes_pageLost hs hch hr cw retried,
    fun ch die hg hd hb => completes_dieTimeout hs ch die hg hd hb, fun g r o hm hc hg hf hd =>
    completes_moveDone hs hm hc hg hf hd, fun ha hf hp hn hd => completes_checkpointStart hs ha hf hp hn hd,
    fun n hn => completes_ckptDone hs hn, fun h => completes_freeSpaceLow hs h⟩

end Sys2Proof.Machine
end

section
/-! SUPPORT. Host writes: those that are refused, those that wait, and the way into the write queue (R8, R41, R48, R102,
R105, R116). -/

namespace Sys2Proof.Machine
set_option Elab.async false

/-! ### A write outside a transaction -/

/-- A write takes one of its port's credits. -/
def creditTaken (port : Nat) (s : State) : State :=
  { s with hp := { s.hp with writtenLines := modify s.hp.writtenLines port (· + 1),
                             credits := modify s.hp.credits port (· - 1) } }

/-- A write of no context on its way. -/
def asked (port tag line : Nat) (be : BitVec 64) (data : Line) (poison : Bool) (x : WriteIn) (s : State) : Stalled :=
  { port := port, tag := tag, line := line, be := some be, data := data, ctx := none,
    bad := !lineGood data x.residues, poison := poison, why := .demand 0, old := errorsOf line x.old s }

theorem uninjected_credit {port : Nat} {s : State} (h : Uninjected s) : Uninjected (creditTaken port s) := h

theorem readEntry_good {line : Nat} {s : State} (h : Uninjected s) : readEntry line .good s = s := by
  unfold readEntry
  rw [checkInjection_none h, checkInjection_none h]
  split <;> rfl

theorem lateWrite_none {q : Stalled} {s : State} (hx : q.ctx = none) : lateWrite q s = false := by
  unfold lateWrite
  rw [hx]

section
variable {port tag line : Nat} {a : HostAddr} {be : BitVec 64} {data : Line} {poison : Bool} {x : WriteIn} {s : State}
  (ht : takesRequest port a s = true) (hc : 0 < s.hp.credits.getD port 0) (hx : hostCtx port a s = none)
include ht hc

/-- A write that its port takes. -/
theorem write_taken : ¬ (!takesRequest port a s || s.hp.credits.getD port 0 == 0) = true := by
  rw [ht, beq_eq_false_iff_ne.2 (Nat.ne_of_gt hc)]
  decide

include hx

/-- No line answers: the write is completed and not applied. -/
theorem hostWrite_nowhere (hl : hostLine a s = none) : hostWrite port a be data tag poison x s =
    dropWrite { port := port, tag := tag, line := 0, be := some be, data := data, ctx := hostCtx port a s,
                bad := !lineGood data x.residues, poison := poison, why := .demand 0 } (creditTaken port s) := by
  unfold hostWrite
  rw [if_neg (write_taken ht hc)]
  change (match hostLine a (creditTaken port s) with | none => _ | some line => _) = _
  rw [show hostLine a (creditTaken port s) = none from hl]
  change dropWrite _ (when (lateWrite _ (creditTaken port s)) _ (creditTaken port s)) = _
  rw [lateWrite_none (by exact hx), when_false]
  rfl

theorem hostWrite_ingests (hl : hostLine a s = some line) : hostWrite port a be data tag poison x s =
    ingest (asked port tag line be data poison x s) be x.ecc (creditTaken port s) := by
  unfold hostWrite
  rw [if_neg (write_taken ht hc)]
  change (match hostLine a (creditTaken port s) with | none => _ | some line => _) = _
  rw [show hostLine a (creditTaken port s) = some line from hl]
  change ingest { asked port tag line be data poison x s with ctx := hostCtx port a (creditTaken port s) } be x.ecc
    (creditTaken port s) = _
  rw [show hostCtx port a (creditTaken port s) = none from hx]
  rfl

end

/-- A write of no context, with a good entry: refused, or placed. -/
theorem ingest_good {q : Stalled} {be : BitVec 64} {s : State} (hi : Uninjected s) (hx : q.ctx = none) :
    ingest q be .good s =
      holdWaitShow (if writeRefused q.port q.line s then dropWrite q s else placeWrite q be s) := by
  unfold ingest tryWrite
  rw [checkInjection_none hi, readEntry_good hi, lateWrite_none hx]
  rfl

/-- The line of a write is there, and no replay of it waits: the write waits for room, or enters. -/
theorem placeWrite_free {q : Stalled} {be : BitVec 64} {s : State} (hx : q.ctx = none)
    (hu : unrestored (granuleOf q.line s) s = false) (hr : replaysOf q.line s = []) :
    placeWrite q be s = if writeFits q.line s then applyWrite q be s else stallPool q 0x128 s := by
  have hwait : waitsForRestore (granuleOf q.line s) q.line (be = allBytes) s = false := by
    unfold waitsForRestore
    rw [hu, Bool.false_and]
  have hlog : logThenApply false 0 q be s = applyWrite q be s := by
    unfold logThenApply replayAhead
    rw [hr]
    dsimp only
    rw [show forEach ([] : List Pair) (fun p => replayRead p.ctx p.granule q.line q.old) s = s from rfl, hr]
    rfl
  unfold placeWrite
  rw [hx]
  dsimp only
  rw [hu]
  simp only [Bool.false_eq_true, if_false, hwait, Bool.false_and, Option.getD_none, hlog]
  cases writeFits q.line s <;> rfl

/-! ### Writes that are refused or wait -/

/-- A host write: of a whole line, or of some of its bytes. -/
abbrev writeCommand (port : Fin 4) (a : HostAddr) (be : BitVec 64) (data : Line) (tag : Nat) (poison : Bool)
    (x : WriteIn) : Instr :=
  if be = allBytes then .memwr port a data tag poison x else .memwrptl port a be data tag poison x

theorem exec_writeCommand (port : Fin 4) (a : HostAddr) (be : BitVec 64) (data : Line) (tag : Nat) (poison : Bool)
    (x : WriteIn) (s : State) :
    exec (writeCommand port a be data tag poison x) s = run (hostWrite port a be data tag poison x) s := by
  unfold writeCommand
  split
  case isTrue h =>
    subst h
    rfl
  case isFalse => rfl

theorem dropped_keys (port : Fin 4) : (Reg.EVT_STS (8 + port.val) 3).key ∉ settleKeys ∧
    (Reg.EVT_STS (8 + port.val) 3).key ∉ holdWaits.map Fld.key := by
  revert port
  decide +kernel

theorem dropWrite_event (q : Stalled) (s : State) : get (Reg.EVT_STS (8 + q.port) 3) (dropWrite q s) = 1 := by
  show get (Reg.EVT_STS (8 + q.port) 3) (event (8 + q.port) 3 (inc (Reg.HPT.DROPPED_WR_COUNT q.port) s)) = 1
  exact get_set_same _ _ _

section
variable {port : Fin 4} {tag line : Nat} {a : HostAddr} {be : BitVec 64} {data : Line} {poison : Bool} {x : WriteIn}
  {s : State} (hs : Ready s) (ht : takesRequest port a s = true) (hc : 0 < s.hp.credits.getD port 0)
  (hx : hostCtx port a s = none)
include hs ht hc hx

theorem completes_write_nowhere (hl : hostLine a s = none) :
    Completes (writeCommand port a be data tag poison x) s fun t =>
      t.hp.writes = s.hp.writes ++ [{ port := port, tag := tag, line := 0, seq := none }] ∧
      get (Reg.EVT_STS (8 + port) 3) t = 1 ∧ Changes [.hp] [Reg.HPT.DROPPED_WR_COUNT port, Reg.EVT_STS
          (8 + port) 3] s t := by
  obtain ⟨hk, -⟩ := dropped_keys port
  have heff := hostWrite_nowhere (s := begun s) (be := be) (data := data) (tag := tag) (poison := poison) (x := x)
    ht hc hx hl
  have hcredit : Changes [.hp] [Reg.HPT.DROPPED_WR_COUNT port, Reg.EVT_STS (8 + port) 3] s (creditTaken port
      (begun s)) :=
    (Changes.begin _ _ s).in_hp _ (by simp)
  have hdrop := hcredit.trans (changes_dropWrite { port := port, tag := tag, line := 0, be := some be, data := data,
                                                   ctx := hostCtx port a s, bad := !lineGood data x.residues,
                                                   poison := poison, why := .demand 0 } (creditTaken port (begun s)))
  exact .leaves hs (exec_writeCommand ..) heff (hdrop.reqs.trans hs.2) fun t k =>
    ⟨k.ports Hp.writes fun _ => rfl, k.stored hk (dropWrite_event _ _), hdrop.ended k⟩

variable (hi : Uninjected s) (hl : hostLine a s = some line) (he : x.ecc = .good)
include hi hl he

omit hs in
theorem hostWrite_good : hostWrite port a be data tag poison x (begun s) =
    holdWaitShow (if writeRefused port line s then
        dropWrite (asked port tag line be data poison x s) (creditTaken port (begun s))
      else placeWrite (asked port tag line be data poison x s) be (creditTaken port (begun s))) := by
  rw [hostWrite_ingests (s := begun s) ht hc hx hl, he, ingest_good (s := creditTaken port (begun s)) hi rfl]
  rfl

theorem completes_write_refused (hr : writeRefused port line s = true) :
    Completes (writeCommand port a be data tag poison x) s fun t =>
      t.hp.writes = s.hp.writes ++ [{ port := port, tag := tag, line := line, seq := none }] ∧
      get (Reg.EVT_STS (8 + port) 3) t = 1 ∧
      Changes [.hp] ([Reg.HPT.DROPPED_WR_COUNT port, Reg.EVT_STS (8 + port) 3] ++ holdWaits) s t := by
  obtain ⟨hk, hbeside⟩ := dropped_keys port
  have heff := hostWrite_good (be := be) (data := data) (tag := tag) (poison := poison) ht hc hx hi hl he
  rw [if_pos hr] at heff
  have hcredit : Changes [.hp] [Reg.HPT.DROPPED_WR_COUNT port, Reg.EVT_STS (8 + port) 3] s (creditTaken port
      (begun s)) :=
    (Changes.begin _ _ s).in_hp _ (by simp)
  have hdrop := hcredit.trans (changes_dropWrite (asked port tag line be data poison x s) (creditTaken port (begun s)))
  have hwrites : (dropWrite (asked port tag line be data poison x s) (creditTaken port (begun s))).hp.writes =
    s.hp.writes ++ [{ port := port, tag := tag, line := line, seq := none }] := rfl
  have hevent : get (Reg.EVT_STS (8 + port.val) 3)
    (dropWrite (asked port tag line be data poison x s) (creditTaken port (begun s))) = 1 := dropWrite_event _ _
  generalize dropWrite (asked port tag line be data poison x s) (creditTaken port (begun s)) = u at *
  have hshow := changes_holdWaitShow u
  have hall := (hdrop.widen (gs := [Reg.HPT.DROPPED_WR_COUNT port, Reg.EVT_STS (8 + port) 3] ++ holdWaits)
    (fun _ h => h) (List.subset_append_left _ _)).trans (hshow.widen (by simp) (List.subset_append_right _ _))
  exact .leaves hs (exec_writeCommand ..) heff (hall.reqs.trans hs.2) fun t k =>
    ⟨(k.ports Hp.writes fun _ => rfl).trans ((hshow.ports (by simp) Hp.writes fun _ => rfl).trans hwrites),
      k.stored hk ((hshow.regs _ hbeside hk).trans hevent), hall.ended k⟩

variable (hr : writeRefused port line s = false) (hu : unrestored (granuleOf line s) s = false)
  (hp : replaysOf line s = [])
include hr hu hp

omit hs in
theorem hostWrite_placed : hostWrite port a be data tag poison x (begun s) =
    holdWaitShow (if writeFits line s then
        applyWrite (asked port tag line be data poison x s) be (creditTaken port (begun s))
      else stallPool (asked port tag line be data poison x s) 0x128 (creditTaken port (begun s))) := by
  rw [hostWrite_good ht hc hx hi hl he, if_neg (ne_true_of_eq_false hr),
    placeWrite_free (q := asked port tag line be data poison x s) (s := creditTaken port (begun s)) rfl hu hp]
  rfl

theorem completes_write_waits (hf : writeFits line s = false) :
    let d := lineLoc line s
    Completes (writeCommand port a be data tag poison x) s fun t =>
      t.hp.writes = s.hp.writes ∧ (poolOf (poolAddr (0x20 + d.ch) 0x128) t).stallSeen = true ∧
      (∃ q : Stalled, t.hp.stalled = s.hp.stalled ++ [q] ∧ q.port = port ∧ q.tag = tag ∧ q.line = line ∧ q.be = some
          be ∧
        q.data = data ∧ q.why = .pool d.ch d.sub) ∧ Changes [.hp, .pools] holdWaits s t := by
  intro d
  have heff := hostWrite_placed (be := be) (data := data) (tag := tag) (poison := poison) ht hc hx hi hl he hr hu hp
  rw [if_neg (ne_true_of_eq_false hf)] at heff
  have hstall : Changes [.hp, .pools] holdWaits s
      (stallPool (asked port tag line be data poison x s) 0x128 (creditTaken port (begun s))) :=
    (((Changes.begin [.hp, .pools] holdWaits s).in_hp _ (by simp)).in_pools _ (by simp)).in_hp _ (by simp)
  have hwrites : (stallPool (asked port tag line be data poison x s) 0x128 (creditTaken port (begun s))).hp.writes =
    s.hp.writes := rfl
  have hseen : (poolOf (poolAddr (0x20 + d.ch) 0x128)
      (stallPool (asked port tag line be data poison x s) 0x128 (creditTaken port (begun s)))).stallSeen = true :=
    stallOn_seen _ _
  have hqueue : (stallPool (asked port tag line be data poison x s) 0x128 (creditTaken port (begun s))).hp.stalled =
    s.hp.stalled ++ [{ asked port tag line be data poison x s with why := .pool d.ch d.sub }] := rfl
  generalize stallPool (asked port tag line be data poison x s) 0x128 (creditTaken port (begun s)) = u at *
  have hshow := changes_holdWaitShow u
  have hall := hstall.trans (hshow.widen (by simp) fun _ h => h)
  refine .leaves hs (exec_writeCommand ..) heff (hall.reqs.trans hs.2) fun t k =>
    ⟨(k.ports Hp.writes fun _ => rfl).trans ((hshow.ports (by simp) Hp.writes fun _ => rfl).trans hwrites), ?_,
      ⟨_, (k.ports Hp.stalled fun _ => rfl).trans ((hshow.ports (by simp) Hp.stalled fun _ => rfl).trans hqueue), rfl,
        rfl, rfl, rfl, rfl, rfl⟩, hall.ended k⟩
  have hpools : t.pools = u.pools := k.pools.trans (hshow.pools (by simp))
  unfold poolOf at hseen ⊢
  rwa [hpools]

end

/-! ### The way into the write queue -/

/-- An entry whose flags stay moves only the counts of its state. -/
theorem changes_putEntry_state {g : Nat} {e : Entry} {s : State} (h1 : e.lost = (entryOf g s).lost)
    (h2 : e.txHeld = (entryOf g s).txHeld) (h3 : e.twinDirty = (entryOf g s).twinDirty) :
    Changes [.mrv] [Reg.MRV.DIRTY_COUNT, Reg.MRV.GROUPS_SET] s (putEntry g e s) := by
  have hsame : ∀ (f : Fld) (a b : Bool) (u : State), a = b → follow f a b u = u := fun f a b u h => if_pos h
  have hplace : Changes [.mrv] [Reg.MRV.DIRTY_COUNT, Reg.MRV.GROUPS_SET] s (placeEntry g e s) := by
    unfold placeEntry
    dsimp only
    rw [hsame _ _ _ _ h1.symm, hsame _ _ _ _ h2.symm, hsame _ _ _ _ h3.symm]
    exact ((((Changes.refl [.mrv] _ s).in_mrv { s.mrv with entries := put {} s.mrv.entries g e } (by simp)).in_mrv _
      (by simp))).set _ _ (by simp)
  have hcount := hplace.trans (changes_follow (f := Reg.MRV.DIRTY_COUNT) (by simp) ((entryOf g s).state != .clean)
    (e.state != .clean) _)
  exact .branch _ hcount (hcount.in_mrv _ (by simp))

/-- A write dirties its granule. -/
def dirtied (e : Entry) : Entry :=
  match e.state with
  | .clean => { e with state := .dirty, heat := min 15 (e.heat + 1) }
  | .sealing => { e with state := .redirtied, heat := min 15 (e.heat + 1) }
  | _ => e

theorem dirtied_state (e : Entry) : (dirtied e).state =
    match e.state with | .clean => .dirty | .sealing => .redirtied | x => x := by
  unfold dirtied
  split <;> simp [*]

/-- The Lehr's sides are no part of an entry. -/
theorem entryOf_shown {g : Nat} {s t : State} (h : marksCore t.mrv = marksCore s.mrv) : entryOf g t = entryOf g s :=
  (congrArg (fun m : Mrv => (look m.entries g).getD {}) h :)

theorem markWrite_shown {g : Nat} {port : Nat} {s : State} (hd : isSet Reg.SYS.PERSIST_TWIN_DEGRADED s = false) :
    Changes [.hp, .mrv] [Reg.MRV.DIRTY_COUNT, Reg.MRV.GROUPS_SET] s (markWrite g (some port) s) ∧
    (entryInUse g s = true → entryOf g (markWrite g (some port) s) = dirtied (entryOf g s)) ∧
    (markWrite g (some port) s).hp.writes = s.hp.writes := by
  unfold markWrite
  split
  case isTrue h => exact ⟨.refl _ _ _, fun hu => by simp [hu] at h, rfl⟩
  case isFalse =>
    dsimp only
    rw [hd, Bool.false_and, Bool.or_false]
    have hput : ∀ e : Entry, e.lost = (entryOf g s).lost → e.txHeld = (entryOf g s).txHeld →
        e.twinDirty = (entryOf g s).twinDirty → e = dirtied (entryOf g s) →
        Changes [.hp, .mrv] [Reg.MRV.DIRTY_COUNT, Reg.MRV.GROUPS_SET] s (putEntry g e s) ∧
        entryOf g (putEntry g e s) = dirtied (entryOf g s) ∧ (putEntry g e s).hp.writes = s.hp.writes := by
      intro e h1 h2 h3 he
      have hc := changes_putEntry_state h1 h2 h3
      refine ⟨hc.widen (by simp) fun _ h => h, ?_, hc.ports (by simp) Hp.writes fun _ => rfl⟩
      rw [entryOf_putEntry, if_pos rfl, he]
    split
    case h_1 hst =>
      obtain ⟨k1, k2, k3⟩ := hput
        { entryOf g s with state := .dirty, heat := min 15 ((entryOf g s).heat + 1) } rfl rfl rfl (by rw [dirtied, hst])
      exact ⟨((k1.in_mrv _ (by simp)).in_hp _ (by simp)), fun _ => k2, k3⟩
    case h_2 hst =>
      obtain ⟨k1, k2, k3⟩ := hput
        { entryOf g s with state := .redirtied, heat := min 15 ((entryOf g s).heat + 1) } rfl rfl rfl (by rw [dirtied, hst])
      exact ⟨k1, fun _ => k2, k3⟩
    case h_3 h1 h2 =>
      obtain ⟨k1, k2, k3⟩ := hput (entryOf g s) rfl rfl rfl (by
        unfold dirtied
        split
        · exact absurd ‹_› h1
        · exact absurd ‹_› h2
        · rfl)
      exact ⟨k1, fun _ => k2, k3⟩

/-- What a write in the queue shows of its channel. -/
def queuedFields (ch : Nat) : List Fld := Reg.EVT_STS (0x20 + ch) 3 :: depths ch

/-- A write that finds no write of its line in the queue. -/
theorem queueWrite_new {line : Nat} {be : BitVec 64} {data : Line} {poison : Bool} {s : State}
    (h : ∀ e ∈ s.dram.writes, e.line ≠ line) :
    (queueWrite line be data poison s).dram = { s.dram with writes := s.dram.writes ++
      [{ line := line, ch := (lineLoc line s).ch, sub := (lineLoc line s).sub, be := be, data := data, poison :=
          poison }] } ∧
    Changes [.dram] (queuedFields (lineLoc line s).ch) s (queueWrite line be data poison s) ∧
    (queueWrite line be data poison s).hp = s.hp ∧ (queueWrite line be data poison s).mrv = s.mrv := by
  have hnone : s.dram.writes.any (fun e => e.line == line && !e.issued) = false := by
    rw [List.any_eq_false]
    intro e he
    simp [h e he]
  unfold queueWrite
  dsimp only
  rw [if_neg (by rw [hnone]; decide)]
  have hput : Changes [.dram] (queuedFields (lineLoc line s).ch) s (depthShow (lineLoc line s).ch (setWrites
      (s.dram.writes ++ [{ line := line, ch := (lineLoc line s).ch, sub := (lineLoc line s).sub, be := be, data := data,
                           poison := poison }]) s)) :=
    ((Changes.refl [.dram] _ s).in_dram _ (by simp)).trans
      ((changes_depthShow _ _).widen (by simp) (by simp [queuedFields]))
  have hrest : ∀ c, (when c (event (0x20 + (lineLoc line s).ch) 3) (depthShow (lineLoc line s).ch (setWrites
      (s.dram.writes ++ [{ line := line, ch := (lineLoc line s).ch, sub := (lineLoc line s).sub, be := be, data := data,
                           poison := poison }]) s))).dram = { s.dram with writes := s.dram.writes ++
      [{ line := line, ch := (lineLoc line s).ch, sub := (lineLoc line s).sub, be := be, data := data, poison :=
          poison }] } :=
    fun c => when_keeps (fun u : State => u.dram = _) c _ _ rfl fun h => h
  refine ⟨hrest _, hput.cond _ _ fun _ hu => hu.event _ _ (by simp [queuedFields]), ?_, ?_⟩
  · exact when_keeps (fun u : State => u.hp = s.hp) _ _ _ rfl fun h => h
  · exact when_keeps (fun u : State => u.mrv = s.mrv) _ _ _ rfl fun h => h

/-- The line's value with one write of it in the queue. -/
theorem lineNow_queued {line : Nat} {l : List WEntry} {e : WEntry} {s : State} (hl : s.dram.writes = l ++ [e])
    (hn : ∀ e ∈ l, e.line ≠ line) (he : e.line = line) (hb : e.be = allBytes) : lineNow line s =
        (e.data, e.poison) := by
  have hfilter : s.dram.writes.filter (·.line == line) = [e] := by
    rw [hl, List.filter_append, List.filter_eq_nil_iff.2 (by simpa using hn)]
    simp [he]
  unfold lineNow
  rw [hfilter, List.foldl_cons, List.foldl_nil, overlay, if_pos hb, hb]
  simp

/-- A whole line that is written overtakes its repair. -/
theorem overtaken (c : Bool) (line : Nat) (s : State) :
    ∃ r, when c (overtakeRepair line) s = { s with dram := { s.dram with repairs := r } } :=
  when_keeps (fun u : State => ∃ r, u = { s with dram := { s.dram with repairs := r } }) c _ s ⟨_, rfl⟩ fun _ => by
    unfold overtakeRepair noteRepair
    split <;> exact ⟨_, rfl⟩

/-- A write with a good residue whose line is not mirrored. -/
theorem applyWrite_plain {q : Stalled} {be : BitVec 64} {s : State} (hb : q.bad = false) (hp : q.poison = false)
    (hm : mirrored q.line s = false) (hd : isSet Reg.SYS.PERSIST_TWIN_DEGRADED s = false)
    (hu : unrestored (granuleOf q.line s) s = false) :
    applyWrite q be s = awaitWrite { port := q.port, tag := q.tag, line := q.line, seq := none, mailbox := q.mailbox }
      (when (decide (be = allBytes)) (overtakeRepair q.line)
        (queueWrite q.line be q.data false (markWrite (granuleOf q.line s) (some q.port) s))) := by
  have hmark := (markWrite_shown (g := granuleOf q.line s) (port := q.port) hd).1
  have hgen : homeGenWrite (granuleOf q.line s) (markWrite (granuleOf q.line s) (some q.port) s) =
      markWrite (granuleOf q.line s) (some q.port) s := by
    unfold homeGenWrite
    rw [isSet, hmark.regs _ (by decide) (by decide), ← isSet, hd]
    rfl
  have hnote : noteWrite q.line be q.data (some q.port) q.ctx s = markWrite (granuleOf q.line s) (some q.port) s := by
    unfold noteWrite
    dsimp only
    rw [hm, hgen, when_false]
  unfold applyWrite
  dsimp only
  rw [hb, hp, hm, hu, when_false]
  change awaitWrite _ (when _ _ (queueWrite q.line be q.data false (noteWrite q.line be q.data _ q.ctx s))) = _
  rw [hnote]
  rfl

theorem queued_place : ∀ f ∈ [Reg.MRV.DIRTY_COUNT, Reg.MRV.GROUPS_SET], placeKey f.key = false := by decide +kernel

section
variable {port : Fin 4} {tag line : Nat} {a : HostAddr} {be : BitVec 64} {data : Line} {poison : Bool} {x : WriteIn}
  {s : State} (hs : Ready s) (ht : takesRequest port a s = true) (hc : 0 < s.hp.credits.getD port 0)
  (hx : hostCtx port a s = none) (hi : Uninjected s) (hl : hostLine a s = some line) (he : x.ecc = .good)
  (hr : writeRefused port line s = false) (hu : unrestored (granuleOf line s) s = false)
  (hp : replaysOf line s = []) (hf : writeFits line s = true) (hn : ∀ e ∈ s.dram.writes, e.line ≠ line)
include hs ht hc hx hi hl he hr hu hp hf hn

theorem completes_write_taken (hg : lineGood data x.residues = true) (hpo : poison = false)
    (hm : mirrored line s = false) (hd : isSet Reg.SYS.PERSIST_TWIN_DEGRADED s = false) :
    let d := lineLoc line s
    let g := granuleOf line s
    Completes (writeCommand port a be data tag poison x) s fun t =>
      t.hp.writes = s.hp.writes ++ [{ port := port, tag := tag, line := line, seq := none }] ∧
      t.dram.writes = s.dram.writes ++ [{ line := line, ch := d.ch, sub := d.sub, be := be, data := data }] ∧
      (be = allBytes → lineNow line t = (data, false)) ∧
      (entryInUse g s = true → (entryOf g t).state =
        match (entryOf g s).state with | .clean => .dirty | .sealing => .redirtied | x => x) ∧
      (∀ x, readByte x t = readByte x s) ∧
      Changes [.hp, .dram, .mrv] ([Reg.EVT_STS (0x20 + d.ch) 3, Reg.MRV.DIRTY_COUNT, Reg.MRV.GROUPS_SET] ++
        depths d.ch ++ holdWaits) s t := by
  intro d g
  have heff := hostWrite_placed (be := be) (data := data) (tag := tag) (poison := poison) ht hc hx hi hl he hr hu hp
  rw [if_pos hf, applyWrite_plain (q := asked port tag line be data poison x s) (s := creditTaken port (begun s))
    (show (!lineGood data x.residues) = false by rw [hg]; rfl) hpo hm hd hu] at heff
  have hcredit : Changes [.hp, .mrv] [Reg.MRV.DIRTY_COUNT, Reg.MRV.GROUPS_SET] s (creditTaken port (begun s)) :=
    (Changes.begin _ _ s).in_hp _ (by simp)
  obtain ⟨hmark, hentry, hwaits⟩ := markWrite_shown (g := g) (port := port) (s := creditTaken port (begun s)) hd
  change hostWrite port a be data tag poison x (begun s) = holdWaitShow (awaitWrite
    { port := port, tag := tag, line := line, seq := none } (when (decide (be = allBytes)) (overtakeRepair line)
      (queueWrite line be data false (markWrite g (some port.val) (creditTaken port (begun s)))))) at heff
  replace hmark := hcredit.trans hmark
  have hw : (markWrite g (some port.val) (creditTaken port (begun s))).hp.writes = s.hp.writes := hwaits
  have hen : entryInUse g s = true → entryOf g (markWrite g (some port.val) (creditTaken port (begun s))) =
    dirtied (entryOf g s) := hentry
  generalize markWrite g (some port.val) (creditTaken port (begun s)) = u at *
  obtain ⟨q1, q2, q3, q4⟩ := queueWrite_new (be := be) (data := data) (poison := false) (s := u) (line := line) (by
    rw [hmark.dram (by simp)]
    exact hn)
  rw [(hmark.place queued_place).loc line, hmark.dram (by simp)] at q1
  rw [(hmark.place queued_place).loc line] at q2
  generalize queueWrite line be data false u = v at *
  obtain ⟨r, hover⟩ := overtaken (decide (be = allBytes)) line v
  rw [hover] at heff
  have hv : Changes [.hp, .dram, .mrv] ([Reg.EVT_STS (0x20 + d.ch) 3, Reg.MRV.DIRTY_COUNT, Reg.MRV.GROUPS_SET] ++
      depths d.ch ++ holdWaits) s v :=
    (hmark.widen (by simp) (by simp)).trans (q2.widen (by simp) fun f hf => by
      simp only [queuedFields, List.mem_cons, List.mem_append] at hf ⊢; tauto)
  have hw' : (awaitWrite { port := port, tag := tag, line := line, seq := none }
      { v with dram := { v.dram with repairs := r } }).hp.writes =
      s.hp.writes ++ [{ port := port, tag := tag, line := line, seq := none }] := by
    rw [show (awaitWrite { port := port, tag := tag, line := line, seq := none }
      { v with dram := { v.dram with repairs := r } }).hp.writes = v.hp.writes ++
        [{ port := port, tag := tag, line := line, seq := none }] from rfl, q3, hw]
  have hq : (awaitWrite { port := port, tag := tag, line := line, seq := none }
      { v with dram := { v.dram with repairs := r } }).dram.writes = s.dram.writes ++
        [{ line := line, ch := d.ch, sub := d.sub, be := be, data := data }] := (congrArg Dram.writes q1 :)
  have hmem : (awaitWrite { port := port, tag := tag, line := line, seq := none }
      { v with dram := { v.dram with repairs := r } }).dram.mem = s.dram.mem := (congrArg Dram.mem q1 :)
  have hmrv : (awaitWrite { port := port, tag := tag, line := line, seq := none }
      { v with dram := { v.dram with repairs := r } }).mrv = u.mrv := q4
  have hall := (hv.in_dram { v.dram with repairs := r } (by simp)).in_hp
    { v.hp with writes := v.hp.writes ++ [{ port := port, tag := tag, line := line, seq := none }] } (by simp)
  change Changes _ _ s (awaitWrite { port := port, tag := tag, line := line, seq := none }
      { v with dram := { v.dram with repairs := r } }) at hall
  generalize awaitWrite { port := port, tag := tag, line := line, seq := none }
      { v with dram := { v.dram with repairs := r } } = w at *
  have hshow := changes_holdWaitShow w
  replace hall := hall.trans (hshow.widen (by simp) (List.subset_append_right _ _))
  refine .leaves hs (exec_writeCommand ..) heff (hall.reqs.trans hs.2) fun t k => ?_
  have hdram : t.dram.writes = _ := (congrArg Dram.writes k.dram).trans
    ((congrArg Dram.writes (hshow.dram (by simp))).trans hq)
  refine ⟨(k.ports Hp.writes fun _ => rfl).trans ((hshow.ports (by simp) Hp.writes fun _ => rfl).trans hw'), hdram,
    lineNow_queued hdram hn rfl, fun hin => ?_, k.bytes ((congrArg Dram.mem (hshow.dram (by simp))).trans hmem),
    hall.ended k⟩
  rw [entryOf_shown k.mrv, entryOf_shown (hshow.mrv (by simp)), show entryOf g w = entryOf g u from
    congrArg (fun m : Mrv => (look m.entries g).getD {}) hmrv, hen hin, dirtied_state]

end

/-! ### A write with a bad residue, and one that the host marks (R48, R102) -/

/-- What a write tells of its granule before it enters the queue: the entry, the home generation and the twin's part. -/
def poisonMarked (g port : Nat) (s : State) : State :=
  when (paired s) (setTwinDirty g) (homeGenWrite g (markWrite g (some port) s))

/-- The parts and the fields that `poisonMarked` may change. -/
def poisonParts : List Part := [.hp, .mrv, .twn, .upd]

def poisonFields : List Fld := Reg.TWN.HOME_GEN_VALUE :: entryFields

theorem changes_countDirtied (g port : Nat) (s : State) : Changes [.hp, .mrv] [] s (countDirtied g (some port) s) :=
  ((Changes.refl [.hp, .mrv] [] s).in_mrv _ (by simp)).in_hp _ (by simp)

theorem changes_poisonMarked (g port : Nat) (s : State) :
    Changes poisonParts poisonFields s (poisonMarked g port s) := by
  have hentry : ∀ e u, Changes poisonParts poisonFields u (putEntry g e u) := fun e u =>
    (changes_putEntry g e u).widen (by decide) (List.subset_cons_self _ _)
  have hmark : Changes poisonParts poisonFields s (markWrite g (some port) s) := by
    unfold markWrite
    refine .branch _ (.refl _ _ s) ?_
    dsimp only
    split
    · exact (hentry _ s).trans ((changes_countDirtied _ _ _).widen (by decide) (by simp))
    · exact hentry _ s
    · exact hentry _ s
  refine (hmark.trans ?_).cond _ _ fun u hu => hu.trans (.branch _ (hentry _ u) (.refl _ _ u))
  refine .branch _ ?_ (.refl _ _ _)
  exact ((((Changes.refl poisonParts poisonFields _).in_twn _ (by decide)).set _ _ (by simp [poisonFields])).in_upd _
    (by decide)).emit _

theorem poison_place : ∀ f ∈ poisonFields, placeKey f.key = false := by decide +kernel

theorem poison_source : ∀ f ∈ sourceCard 181, f.key ∉ poisonFields.map Fld.key := by decide +kernel

theorem loss_source : ∀ f ∈ sourceCard 181, f.key ∉ lossFields.map Fld.key := by decide +kernel

theorem wait_source : ∀ f ∈ sourceCard 181, f.key ∉ holdWaits.map Fld.key := by decide +kernel

theorem card_offset : ∀ f ∈ sourceCard 181, f.key / 32 % 4096 ≠ 0x12C ∧ f.key / 32 % 4096 ≠ 0x18 := by decide +kernel

theorem queued_source (ch : Nat) : ∀ f ∈ sourceCard 181, f.key ∉ (queuedFields ch).map Fld.key := by
  intro f hf
  obtain ⟨hd, he⟩ := card_offset f hf
  rw [queuedFields, List.map_cons, List.mem_cons, not_or]
  refine ⟨fun h => he ?_, beyond_depths hd ch⟩
  rw [h]
  show ((4096 * (0x20 + ch) + 0x18) * 32 + 3) / 32 % 4096 = 0x18
  omega

/-- A lost granule's entry says so. -/
theorem markLost_lost (g cause : Nat) (s : State) : (entryOf g (markLost g cause s)).lost = true := by
  unfold markLost
  split
  case isTrue h => exact h
  case isFalse =>
    have hrec := (Changes.refl [.gq] (recordFields 0) (putEntry g { entryOf g s with lost := true } s)).pushRecord
      (q := 0) (by decide) (by simp) (fun _ h => h) (record 0x12 (words16 2 g ++ words16 1 cause)
        (putEntry g { entryOf g s with lost := true } s))
    unfold granuleLostRecord
    rw [entryOf_shown (hrec.mrv (by simp)), entryOf_putEntry, if_pos rfl]

/-- What is told of a line whose residue does not check: its granule is lost, and source 181 is raised (R48). -/
def badTold (g port line : Nat) (s : State) : State :=
  raiseSimple 181 1 port (line % 2 ^ 32) (line / 2 ^ 32) (markLost g 2 s)

theorem badTold_shown {g port line : Nat} {s : State} (hc : Calm 181 s) :
    Changes [.mrv, .sav, .pwr, .flt, .gq] (lossFields ++ raiseFields 181) s (badTold g port line s) ∧
    (entryOf g (badTold g port line s)).lost = true ∧ (Fresh 181 s → Raised 181 s (badTold g port line s)) := by
  have hlost := changes_markLost g 2 s
  have hsame := hlost.source (n := 181) (by decide) loss_source
  have hraise := changes_raiseSimple (hsame.calm hc) 1 port (line % 2 ^ 32) (line / 2 ^ 32)
  refine ⟨(hlost.widen (by simp) (List.subset_append_left _ _)).trans
    (hraise.widen (by simp [raiseParts]) (List.subset_append_right _ _)), ?_, fun hf =>
    hsame.raised (raised_raiseSimple (hsame.fresh hf) (by decide) (by decide) _ _ _ _)⟩
  unfold badTold
  rw [entryOf_shown (hraise.mrv (by simp [raiseParts])), markLost_lost]

theorem poisonedWrite_eq (q : Stalled) (be : BitVec 64) (s : State) : poisonedWrite q be s =
    when q.bad (badTold (granuleOf q.line s) q.port q.line) (queueWrite q.line be q.data true
      (poisonMarked (granuleOf q.line s) q.port s)) := rfl


section
variable {port : Fin 4} {tag line : Nat} {a : HostAddr} {be : BitVec 64} {data : Line} {poison : Bool} {x : WriteIn}
  {s : State} (hs : Ready s) (ht : takesRequest port a s = true) (hc : 0 < s.hp.credits.getD port 0)
  (hx : hostCtx port a s = none) (hi : Uninjected s) (hl : hostLine a s = some line) (he : x.ecc = .good)
  (hr : writeRefused port line s = false) (hu : unrestored (granuleOf line s) s = false)
  (hp : replaysOf line s = []) (hf : writeFits line s = true) (hn : ∀ e ∈ s.dram.writes, e.line ≠ line)
include hs ht hc hx hi hl he hr hu hp hf hn

theorem completes_write_poison (hbad : lineGood data x.residues = false ∨ poison = true) (hcalm : Calm 181 s) :
    let d := lineLoc line s
    let g := granuleOf line s
    Completes (writeCommand port a be data tag poison x) s fun t =>
      t.dram.writes = s.dram.writes ++ [{ line := line, ch := d.ch, sub := d.sub, be := be, data := data, poison :=
          true }] ∧
      (be = allBytes → (lineNow line t).2 = true) ∧ (∀ x, readByte x t = readByte x s) ∧
      (lineGood data x.residues = false → (entryInUse g s = true → (entryOf g t).lost = true) ∧
        (Fresh 181 s → Raised 181 s t)) := by
  intro d g
  have heff := hostWrite_placed (be := be) (data := data) (tag := tag) (poison := poison) ht hc hx hi hl he hr hu hp
  rw [if_pos hf] at heff
  have hpo : (!lineGood data x.residues || poison) = true := by
    rcases hbad with h | h
    · rw [h]; rfl
    · rw [h, Bool.or_true]
  have hplace : applyWrite (asked port tag line be data poison x s) be (creditTaken port (begun s)) =
      awaitWrite { port := port, tag := tag, line := line, seq := none }
        (when (decide (be = allBytes)) (overtakeRepair line) (when (!lineGood data x.residues) (badTold g port line)
          (queueWrite line be data true (poisonMarked g port (creditTaken port (begun s)))))) := by
    unfold applyWrite
    dsimp only [asked]
    rw [hpo, show unrestored (granuleOf line (creditTaken port (begun s))) (creditTaken port (begun s)) = false from hu]
    simp only [Bool.not_true, Bool.and_false, Bool.false_eq_true, if_false, if_true, when_false, poisonedWrite_eq]
    rfl
  rw [hplace] at heff
  have hcredit : Changes poisonParts poisonFields s (creditTaken port (begun s)) :=
    (Changes.begin _ _ s).in_hp _ (by decide)
  have hmark := hcredit.trans (changes_poisonMarked g port _)
  generalize poisonMarked g port (creditTaken port (begun s)) = u at *
  obtain ⟨q1, q2, -, -⟩ := queueWrite_new (be := be) (data := data) (poison := true) (s := u) (line := line) (by
    rw [hmark.dram (by decide)]
    exact hn)
  rw [(hmark.place poison_place).loc line, hmark.dram (by decide)] at q1
  have hqueued := (hmark.source (n := 181) (by decide) poison_source).trans (q2.source (by decide) (queued_source _))
  have hreqs := q2.reqs.trans (hmark.reqs.trans hs.2)
  generalize queueWrite line be data true u = v at *
  obtain ⟨htold, hlost, hraised⟩ := badTold_shown (g := g) (port := port) (line := line) (hqueued.calm hcalm)
  have htold' : Changes [.mrv, .sav, .pwr, .flt, .gq] (lossFields ++ raiseFields 181) v
      (when (!lineGood data x.residues) (badTold g port line) v) :=
    when_keeps (Changes _ _ v) _ _ v (.refl _ _ v) fun _ => htold
  have hsaid : lineGood data x.residues = false →
      (entryOf g (when (!lineGood data x.residues) (badTold g port line) v)).lost = true ∧
      (Fresh 181 s → Raised 181 s (when (!lineGood data x.residues) (badTold g port line) v)) := fun h => by
    rw [h]
    exact ⟨hlost, fun hfresh => hqueued.raised (hraised (hqueued.fresh hfresh))⟩
  generalize when (!lineGood data x.residues) (badTold g port line) v = w at *
  obtain ⟨r, hover⟩ := overtaken (decide (be = allBytes)) line w
  rw [hover] at heff
  have hdram := htold'.dram (by simp)
  have hq : (awaitWrite { port := port, tag := tag, line := line, seq := none }
      { w with dram := { w.dram with repairs := r } }).dram.writes = s.dram.writes ++
        [{ line := line, ch := d.ch, sub := d.sub, be := be, data := data, poison := true }] :=
    (congrArg Dram.writes (hdram.trans q1) :)
  have hmem : (awaitWrite { port := port, tag := tag, line := line, seq := none }
      { w with dram := { w.dram with repairs := r } }).dram.mem = s.dram.mem :=
    (congrArg Dram.mem (hdram.trans q1) :)
  have hend : Changes [.dram, .hp] [] w (awaitWrite { port := port, tag := tag, line := line, seq := none }
      { w with dram := { w.dram with repairs := r } }) :=
    ((Changes.refl [.dram, .hp] [] w).in_dram _ (by simp)).in_hp _ (by simp)
  generalize awaitWrite { port := port, tag := tag, line := line, seq := none }
      { w with dram := { w.dram with repairs := r } } = z at *
  have hshow := changes_holdWaitShow z
  refine .leaves hs (exec_writeCommand ..) heff (hshow.reqs.trans (hend.reqs.trans (htold'.reqs.trans hreqs)))
    fun t k => ?_
  have hwrites : t.dram.writes = _ := (congrArg Dram.writes k.dram).trans
    ((congrArg Dram.writes (hshow.dram (by simp))).trans hq)
  refine ⟨hwrites, fun hb => by rw [lineNow_queued hwrites hn rfl hb],
    k.bytes ((congrArg Dram.mem (hshow.dram (by simp))).trans hmem), fun h => ?_⟩
  obtain ⟨hl, hr⟩ := hsaid h
  have hsame := ((hend.source (n := 181) (by decide) (by simp)).trans (hshow.source (by decide) wait_source)).trans
    (SameSource.settle (by decide) k)
  refine ⟨fun _ => ?_, fun hfresh => hsame.stays (hr hfresh)⟩
  rw [entryOf_shown k.mrv, entryOf_shown (hshow.mrv (by simp)), entryOf_shown (hend.mrv (by simp)), hl]

end

/-- Settles O12, by the way a write takes: it finds no line, it is refused, it waits for room, or it enters the queue,
as
it is or with poison. -/
theorem hostWrites : Obligations.HostWrites := by
  intro s hs hi port a be data tag line poison x d g c free ht hc hx
  refine ⟨completes_write_nowhere hs ht hc hx, fun hl he hr => completes_write_refused hs ht hc hx hi hl he hr,
    fun hl hr ⟨hu, hp, he⟩ hf => completes_write_waits hs ht hc hx hi hl he hr hu hp hf,
    fun hl hr ⟨hu, hp, he⟩ hf hn => ⟨fun hg hpo hm hd =>
      completes_write_taken hs ht hc hx hi hl he hr hu hp hf hn hg hpo hm hd, fun hbad hcalm =>
      completes_write_poison hs ht hc hx hi hl he hr hu hp hf hn hbad hcalm⟩⟩

end Sys2Proof.Machine
end

section
/-! SUPPORT. Cells and spans of the ring (R357 to R364, R366, R371, R376). -/

namespace Sys2Proof.Machine
set_option Elab.async false

/-! ### What the topology shows (R364) -/

theorem changes_followSource {n : Nat} {s : State} (hc : Calm n s) (b : Bool) (w : Nat) :
    Changes raiseParts (raiseFields n) s (followSource n b w s) :=
  .branch _ (changes_raiseHeld hc 0 0 w 0)
    ((changes_liveFall n s).widen (by simp [raiseParts]) (by simp [fallFields, raiseFields]))

theorem followSource_sends {n : Nat} {s : State} (hc : Calm n s) (b : Bool) (w : Nat) :
    Sends s (followSource n b w s) := by
  unfold followSource
  split
  · exact raise_sends (x := ⟨n, 0, 0, w, 0, false, true⟩) hc
  · exact .of_eq (liveFall_out _ _)

/-- The topology's own fields. -/
def topoOwn : List Fld :=
  [Reg.TRN.STS_TOPO, Reg.TRN.RING_STS_EDGE, Reg.TRN.RING_STS_BREAK1, Reg.TRN.RING_STS_BREAK1_V,
    Reg.TRN.RING_STS_BREAK2, Reg.TRN.RING_STS_BREAK2_V, Reg.EVT_STS 0xD0 2]

/-- The topology's fields with those of its two sources. -/
def topoFields : List Fld := topoOwn ++ (raiseFields 161 ++ raiseFields 162)

/-- A raise of the ring's sources asks for no reset and no safe state. -/
abbrev Quiet (s : State) : Prop := Calm 161 s ∧ Calm 162 s ∧ Calm 164 s

theorem Quiet.after {ps : List Part} {fs : List Fld} {s t : State} (h : Changes ps fs s t)
    (hf : ∀ f ∈ sourceCard 161 ++ sourceCard 162 ++ sourceCard 164, f.key ∉ fs.map Fld.key) (hq : Quiet s) :
    Quiet t := by
  obtain ⟨h1, h2, h4⟩ := hq
  exact ⟨(h.source (by decide) fun f hm => hf f (by simp [hm])).calm h1,
    (h.source (by decide) fun f hm => hf f (by simp [hm])).calm h2,
    (h.source (by decide) fun f hm => hf f (by simp [hm])).calm h4⟩

theorem topo_sources : (∀ f ∈ sourceCard 161 ++ sourceCard 162 ++ sourceCard 164, f.key ∉ topoOwn.map Fld.key) ∧
    ∀ f ∈ sourceCard 162, f.key ∉ (raiseFields 161).map Fld.key := by
  decide +kernel

/-- The topology is shown. -/
def topoTold (s : State) : State :=
  let t := topoOf s
  let b := s.rng.broken
  s |> set Reg.TRN.STS_TOPO t
    |> put1 Reg.TRN.RING_STS_EDGE (decide (t ≠ 0) && (b.contains (spanA s) || b.contains (spanB s)))
    |> set Reg.TRN.RING_STS_BREAK1 (b.headD 0) |> put1 Reg.TRN.RING_STS_BREAK1_V (!b.isEmpty)
    |> set Reg.TRN.RING_STS_BREAK2 ((b.drop 1).headD 0) |> put1 Reg.TRN.RING_STS_BREAK2_V (decide (2 ≤ b.length))

/-- The topology is shown, and a partition told. -/
def topoKnown (s : State) : State :=
  when (topoOf s == 2 && get Reg.TRN.STS_TOPO s != 2) (event 0xD0 2) (topoTold s)

theorem topoShow_eq (s : State) : topoShow s = followSource 162 (topoOf s == 2) (ringWord (topoTold s))
    (followSource 161 (topoOf s == 1) (ringWord (topoTold s)) (topoKnown s)) := rfl

theorem changes_topoKnown (s : State) : Changes raiseParts topoOwn s (topoKnown s) :=
  (((((((Changes.refl _ _ s).set _ _ (by simp [topoOwn])).put1 _ _ (by simp [topoOwn])).set _ _
    (by simp [topoOwn])).put1 _ _ (by simp [topoOwn])).set _ _ (by simp [topoOwn])).put1 _ _
    (by simp [topoOwn])).cond _ _ fun _ h => h.event _ _ (by simp [topoOwn])

theorem topoKnown_out (s : State) : (topoKnown s).out = s.out :=
  (when_out _ (event 0xD0 2) _ fun _ => rfl).trans rfl

theorem topoShow_shown {s : State} (hq : Quiet s) :
    Changes raiseParts topoFields s (topoShow s) ∧ Sends s (topoShow s) := by
  obtain ⟨ho, hr⟩ := topo_sources
  have hc := changes_topoKnown s
  obtain ⟨h1, h2, -⟩ := Quiet.after hc ho hq
  have hfirst := changes_followSource h1 (topoOf s == 1) (ringWord (topoTold s))
  have hcalm := (hfirst.source (n := 162) (by decide) hr).calm h2
  rw [topoShow_eq]
  refine ⟨((hc.widen (fun _ h => h) (List.subset_append_left _ _)).trans (hfirst.widen (fun _ h => h) ?_)).trans
    ((changes_followSource hcalm _ _).widen (fun _ h => h) ?_),
    ((Sends.of_eq (topoKnown_out s)).trans (followSource_sends h1 _ _)).trans (followSource_sends hcalm _ _)⟩
  · exact fun f hf => List.mem_append_right _ (List.mem_append_left _ hf)
  · exact fun f hf => List.mem_append_right _ (List.mem_append_right _ hf)

/-! ### A cell that comes in (R357) -/

theorem cellIn_taken {ringB : Bool} {f : State → State} {s : State} (hr : ringOn s = true) :
    cellIn ringB true f (begun s) = f (begun s) := by
  unfold cellIn
  rw [show ringOn (begun s) = true from hr]
  rfl

theorem completes_badCell {c : Instr} {s : State} (hs : Ready s) (hr : ringOn s = true) {ringB : Bool}
    {f : State → State} (hc : exec c s = run (cellIn ringB false f) s) :
    let x := if ringB then Reg.TRN.ERR_CRC_B else Reg.TRN.ERR_CRC_A
    Completes c s fun t => get x t = oneMore x s ∧ Changes [] [x] s t := by
  intro x
  have heff : cellIn ringB false f (begun s) = inc x (begun s) := by
    unfold cellIn
    rw [show ringOn (begun s) = true from hr]
    rfl
  have hall : Changes [] [x] s (inc x (begun s)) := (Changes.begin _ _ s).inc _ (by simp)
  have hkey : x.key ∉ settleKeys := by
    cases ringB
    · decide
    · decide
  exact .leaves hs hc heff (hall.reqs.trans hs.2) fun t k =>
    ⟨(k.get _ hkey).trans (get_inc_same x (begun s)), hall.ended k⟩

/-! ### SYNC (R362, R363) -/

/-- The fields that tell of the lock to SYNC. -/
def lockFields : List Fld :=
  [Reg.FRM.SYNC_LOCK_RUN, Reg.FRM.SRC_STATE, Reg.FRM.SRC_JUMPS, Reg.EVT_STS 1 3] ++ fallFields 165

/-- The fields that a copy of SYNC disciplines. -/
def disciplineFields : List Fld :=
  [Reg.FRM.SYNC_MISSED, Reg.FRM.SYNC_PHASE_ERR, Reg.FRM.RING_DELAY_DELAY] ++ lockFields

/-- What a copy of SYNC tells of the lock. -/
def lockTold (run : Nat) (search jump : Bool) (s : State) : State :=
  s |> set Reg.FRM.SYNC_LOCK_RUN run |> when search (set Reg.FRM.SRC_STATE 1) |> liveFall 165
    |> when jump (fun s => s |> inc Reg.FRM.SRC_JUMPS |> event 1 3)

theorem changes_lockTold (run : Nat) (search jump : Bool) (s : State) :
    Changes [] lockFields s (lockTold run search jump s) :=
  ((((Changes.refl _ _ s).set _ _ (by simp)).cond _ _ fun _ h => h.set _ _ (by simp)).trans
    ((changes_liveFall 165 _).widen (by simp) (List.subset_append_right _ _))).cond _ _ fun _ h =>
      (h.inc _ (by simp)).event _ _ (by simp)

theorem lockTold_out (run : Nat) (search jump : Bool) (s : State) : (lockTold run search jump s).out = s.out := by
  rw [lockTold, when_out _ (fun s => s |> inc Reg.FRM.SRC_JUMPS |> event 1 3) _ fun _ => rfl, liveFall_out,
    when_out _ (set Reg.FRM.SRC_STATE 1) _ fun _ => rfl]
  rfl

/-- The first copy of a frame is taken in. -/
def markerTaken (adopt : Option Frame) (longer : Bool) (phaseErr : Int) (delay : Nat) (s : State) : State :=
  { s with frm := { s.frm with markerSeen := true, lengthening := longer, adopt := adopt } }
    |> set Reg.FRM.SYNC_MISSED 0 |> setInt Reg.FRM.SYNC_PHASE_ERR phaseErr |> set Reg.FRM.RING_DELAY_DELAY delay

theorem changes_markerTaken (adopt : Option Frame) (longer : Bool) (phaseErr : Int) (delay : Nat) (s : State) :
    Changes [.frm] disciplineFields s (markerTaken adopt longer phaseErr delay s) :=
  ((((Changes.refl [.frm] _ s).in_frm _ (by simp)).set _ _ (by simp [disciplineFields])).set _ _
    (by simp [disciplineFields])).set _ _ (by simp [disciplineFields])

theorem lock_keys : Reg.FRM.SYNC_MISSED.key ∉ lockFields.map Fld.key ∧
    Reg.FRM.RING_DELAY_DELAY.key ∉ lockFields.map Fld.key := by decide +kernel

theorem discipline_shown (frame : Nat) (phaseErr : Int) (delay : Nat) (s : State) :
    Changes [.frm] disciplineFields s (discipline frame phaseErr delay s) ∧
    (discipline frame phaseErr delay s).out = s.out ∧
    (get Reg.FRM.SRC_MODE s = 1 → s.frm.markerSeen = false →
      (discipline frame phaseErr delay s).frm.markerSeen = true ∧
      get Reg.FRM.SYNC_MISSED (discipline frame phaseErr delay s) = 0 ∧
      get Reg.FRM.RING_DELAY_DELAY (discipline frame phaseErr delay s) =
        delay % 2 ^ Reg.FRM.RING_DELAY_DELAY.w) := by
  unfold discipline
  split
  case isTrue h => exact ⟨.refl _ _ _, rfl, fun hm hn => by simp [hm, hn] at h⟩
  case isFalse =>
    have h : ∀ (run : Nat) (search jump : Bool) (adopt : Option Frame) (longer : Bool),
        let t := lockTold run search jump (markerTaken adopt longer phaseErr delay s)
        Changes [.frm] disciplineFields s t ∧ t.out = s.out ∧
        (get Reg.FRM.SRC_MODE s = 1 → s.frm.markerSeen = false → t.frm.markerSeen = true ∧
          get Reg.FRM.SYNC_MISSED t = 0 ∧
          get Reg.FRM.RING_DELAY_DELAY t = delay % 2 ^ Reg.FRM.RING_DELAY_DELAY.w) := by
      intro run search jump adopt longer t
      have htail := changes_lockTold run search jump (markerTaken adopt longer phaseErr delay s)
      exact ⟨(changes_markerTaken adopt longer phaseErr delay s).trans
          (htail.widen (by simp) (List.subset_append_right _ _)), lockTold_out _ _ _ _, fun _ _ =>
        ⟨congrArg Frm.markerSeen (htail.frm (by simp)), (htail.regs _ lock_keys.1 (by decide)).trans
          ((get_set_other _ _ (by decide)).trans ((get_set_other _ _ (by decide)).trans (get_set_same _ _ _))),
          (htail.regs _ lock_keys.2 (by decide)).trans (get_set_same _ _ _)⟩⟩
    exact h _ _ _ _ _

/-- What a member without the master's office takes from SYNC before it shows the topology. -/
def memberSynced (partitioned quorum : Bool) (s : State) : State :=
  { s with rng := { s.rng with syncSeen := true, noSync := 0 } }
    |> set Reg.TRN.STS_MASTER 0 |> set Reg.TRN.STS_STATE 2 |> takeFlags partitioned quorum

def syncedFields : List Fld :=
  [Reg.TRN.STS_MASTER, Reg.TRN.STS_STATE, Reg.EVT_STS 0xD1 0, Reg.DOM.STS_QUORUM]

theorem memberSynced_shown (partitioned quorum : Bool) (s : State) :
    Changes [.rng] syncedFields s (memberSynced partitioned quorum s) ∧
    (memberSynced partitioned quorum s).rng =
      { s.rng with syncSeen := true, noSync := 0, partitioned := partitioned, quorumFlag := quorum } ∧
    get Reg.TRN.STS_STATE (memberSynced partitioned quorum s) = 2 ∧
    get Reg.TRN.STS_MASTER (memberSynced partitioned quorum s) = 0 ∧
    get Reg.DOM.STS_QUORUM (memberSynced partitioned quorum s) = b2n quorum := by
  have hrng := (Changes.refl [.rng] syncedFields s).in_rng { s.rng with syncSeen := true, noSync := 0 } (by simp)
  have hstate := (hrng.set Reg.TRN.STS_MASTER 0 (by simp [syncedFields])).set Reg.TRN.STS_STATE 2
    (by simp [syncedFields])
  have htold : ∀ c : Bool, Changes [] [Reg.EVT_STS 0xD1 0]
      { set Reg.TRN.STS_STATE 2 (set Reg.TRN.STS_MASTER 0
          { s with rng := { s.rng with syncSeen := true, noSync := 0 } }) with
        rng := { s.rng with syncSeen := true, noSync := 0, partitioned := partitioned, quorumFlag := quorum } }
      (when c (event 0xD1 0)
        { set Reg.TRN.STS_STATE 2 (set Reg.TRN.STS_MASTER 0
            { s with rng := { s.rng with syncSeen := true, noSync := 0 } }) with
          rng := { s.rng with syncSeen := true, noSync := 0, partitioned := partitioned, quorumFlag := quorum } }) :=
    fun c => (Changes.refl _ _ _).cond _ _ fun _ h => h.event _ _ (by simp)
  have hall := (hstate.in_rng { s.rng with syncSeen := true, noSync := 0, partitioned := partitioned,
                                           quorumFlag := quorum } (by simp))
  have hst : get Reg.TRN.STS_STATE (set Reg.TRN.STS_STATE 2 (set Reg.TRN.STS_MASTER 0 s)) = 2 := get_set_same _ _ _
  have hma : get Reg.TRN.STS_MASTER (set Reg.TRN.STS_STATE 2 (set Reg.TRN.STS_MASTER 0 s)) = 0 :=
    (get_set_other _ _ (by decide)).trans (get_set_same _ _ _)
  unfold memberSynced takeFlags
  dsimp only
  refine ⟨(hall.trans ((htold _).widen (by simp) (by simp [syncedFields]))).put1 _ _ (by simp [syncedFields]),
    (htold _).rng (by simp), ?_, ?_, ?_⟩
  · exact (get_set_other _ _ (by decide)).trans (((htold _).regs _ (by decide) (by decide)).trans hst)
  · exact (get_set_other _ _ (by decide)).trans (((htold _).regs _ (by decide) (by decide)).trans hma)
  · refine (get_set_same _ _ _).trans ?_
    cases quorum <;> rfl

theorem discipline_keys : ∀ f ∈ syncedFields, f.key ∉ settleKeys ∧
    f.key ∉ (topoFields ++ disciplineFields).map Fld.key := by decide +kernel

theorem synced_sources : ∀ f ∈ sourceCard 161 ++ sourceCard 162 ++ sourceCard 164,
    f.key ∉ syncedFields.map Fld.key := by decide +kernel

/-- The circulation time of a ring. -/
abbrev circOf (ringB : Bool) : Fld := if ringB then Reg.TRN.CIRC_B_NS else Reg.TRN.CIRC_A_NS

/-- The fields of the circulation times with those of their source. -/
def circFields : List Fld :=
  [Reg.TRN.CIRC_A_NS, Reg.TRN.CIRC_B_NS, Reg.TRN.STS_CIRC_ERR, Reg.EVT_STS 0xD0 5] ++ raiseFields 164

theorem circ_keys (ringB : Bool) : (circOf ringB).key ∉ (settleKeys ++ (raiseFields 164 ++ disciplineFields).map
    Fld.key) ∧
    Reg.TRN.STS_CIRC_ERR.key ∉ (settleKeys ++ (raiseFields 164 ++ disciplineFields).map Fld.key) ∧
    (circOf ringB).key ≠ Reg.TRN.STS_CIRC_ERR.key ∧ (circOf ringB).key ≠ (Reg.EVT_STS 0xD0 5).key ∧
    (circOf ringB).key ≠ Reg.TRN.STS_TOPO.key ∧ (circOf ringB).w = 16 := by
  revert ringB
  decide +kernel

theorem circ_sources : ∀ f ∈ sourceCard 164, f.key ∉ [Reg.TRN.CIRC_A_NS, Reg.TRN.CIRC_B_NS, Reg.TRN.STS_CIRC_ERR,
    Reg.EVT_STS 0xD0 5].map Fld.key := by decide +kernel

/-- A circulation time before its source follows it. -/
def circTold (ringB : Bool) (ns : Nat) (long told : Bool) (s : State) : State :=
  s |> set (circOf ringB) (min 65535 ns) |> when told (event 0xD0 5) |> put1 Reg.TRN.STS_CIRC_ERR long

theorem circTold_shown (ringB : Bool) (ns : Nat) (long told : Bool) (s : State) :
    Changes [] [Reg.TRN.CIRC_A_NS, Reg.TRN.CIRC_B_NS, Reg.TRN.STS_CIRC_ERR, Reg.EVT_STS 0xD0 5] s
      (circTold ringB ns long told s) ∧
    get (circOf ringB) (circTold ringB ns long told s) = min 65535 ns ∧
    get Reg.TRN.STS_CIRC_ERR (circTold ringB ns long told s) = b2n long := by
  obtain ⟨-, -, h1, h2, -, hw⟩ := circ_keys ringB
  refine ⟨(((Changes.refl _ _ s).set _ _ (by cases ringB <;> simp [circOf])).cond _ _ fun _ h =>
    h.event _ _ (by simp)).put1 _ _ (by simp), (get_set_other _ _ h1).trans ?_, (get_set_same _ _ _).trans ?_⟩
  · refine when_keeps (fun u : State => get (circOf ringB) u = min 65535 ns) _ _ _ ((get_set_same _ _ _).trans ?_)
      fun h => (get_set_other _ _ h2).trans h
    rw [hw]
    omega
  · cases long <;> rfl

/-- The circulation is long. -/
def circLong (ringB : Bool) (ns : Nat) (s : State) : Bool :=
  decide (10000 < max (get Reg.TRN.CIRC_A_NS (set (circOf ringB) (min 65535 ns) s))
    (get Reg.TRN.CIRC_B_NS (set (circOf ringB) (min 65535 ns) s))) && get Reg.TRN.STS_TOPO s == 0

theorem circulation_eq (ringB : Bool) (ns : Nat) (s : State) : ∃ told w,
    circulation ringB ns s = followSource 164 (circLong ringB ns s) w (circTold ringB ns (circLong ringB ns s) told s)
        := by
  have htopo : get Reg.TRN.STS_TOPO (set (circOf ringB) (min 65535 ns) s) = get Reg.TRN.STS_TOPO s := by
    obtain ⟨-, -, -, -, h, -⟩ := circ_keys ringB
    exact get_set_other _ _ (Ne.symm h)
  unfold circLong
  rw [← htopo]
  exact ⟨_, _, rfl⟩

theorem circLong_of_long {ringB : Bool} {ns : Nat} {s : State} (hn : 10000 < ns) (ht : get Reg.TRN.STS_TOPO s = 0) :
    circLong ringB ns s = true := by
  have hsame : get (circOf ringB) (set (circOf ringB) (min 65535 ns) s) = min 65535 ns := by
    obtain ⟨-, -, -, -, -, hw⟩ := circ_keys ringB
    refine (get_set_same _ _ _).trans ?_
    rw [hw]
    omega
  unfold circLong
  rw [ht, Bool.and_eq_true, decide_eq_true_iff]
  refine ⟨?_, rfl⟩
  cases ringB
  · have h : get Reg.TRN.CIRC_A_NS (set (circOf false) (min 65535 ns) s) = min 65535 ns := hsame
    omega
  · have h : get Reg.TRN.CIRC_B_NS (set (circOf true) (min 65535 ns) s) = min 65535 ns := hsame
    omega

theorem circulation_shown {ringB : Bool} {ns : Nat} {s : State} (hc : Calm 164 s) :
    Changes raiseParts circFields s (circulation ringB ns s) ∧
    get (circOf ringB) (circulation ringB ns s) = min 65535 ns ∧
    (10000 < ns → get Reg.TRN.STS_TOPO s = 0 → get Reg.TRN.STS_CIRC_ERR (circulation ringB ns s) = 1) := by
  obtain ⟨told, w, heq⟩ := circulation_eq ringB ns s
  obtain ⟨htold, htime, herr⟩ := circTold_shown ringB ns (circLong ringB ns s) told s
  have hfollow := changes_followSource ((htold.source (by decide) circ_sources).calm hc) (circLong ringB ns s) w
  obtain ⟨h1, h2, -⟩ := circ_keys ringB
  simp only [List.map_append, List.mem_append, not_or] at h1 h2
  rw [heq]
  refine ⟨(htold.widen (by simp) (List.subset_append_left _ _)).trans (hfollow.widen (fun _ h => h)
    (List.subset_append_right _ _)), (hfollow.regs _ h1.2.1 h1.1).trans htime, fun hn ht => ?_⟩
  rw [hfollow.regs _ h2.2.1 h2.1, herr, circLong_of_long hn ht]
  rfl

theorem member_keys : ∀ f ∈ [Reg.FRM.SRC_MODE], f.key ∉ (syncedFields ++ topoFields).map Fld.key := by decide +kernel

theorem missed_settle : Reg.FRM.SYNC_MISSED.key ∉ settleKeys ∧ Reg.FRM.RING_DELAY_DELAY.key ∉ settleKeys := by
  decide +kernel

section
variable {s : State} (hs : Ready s) (hr : ringOn s = true) (ring : Ring) (frame : Frame) (phaseErr : Int)
  (delay spanDelay : Nat) (partitioned quorum : Bool)
include hs hr

theorem completes_sync_member (hm : isMaster s = false ∨ electing s = true) :
    Completes (.sync frame phaseErr delay partitioned quorum ring spanDelay true) s fun t => Quiet s →
      get Reg.TRN.STS_STATE t = 2 ∧ isMaster t = false ∧ t.rng.syncSeen = true ∧ t.rng.noSync = 0 ∧
      t.rng.partitioned = partitioned ∧ t.rng.quorumFlag = quorum ∧ isSet Reg.DOM.STS_QUORUM t = quorum ∧
      Out.cell (ring == Ring.b) ((Cell.sync frame.toNat (delay + spanDelay + 16)
        (b2n partitioned + 2 * b2n quorum)).bits (ring == Ring.b) 0) ∈ t.out ∧
      (get Reg.FRM.SRC_MODE s = 1 → s.frm.markerSeen = false → (ring == Ring.b) ≠ pathA s →
        t.frm.markerSeen = true ∧ get Reg.FRM.SYNC_MISSED t = 0 ∧
        get Reg.FRM.RING_DELAY_DELAY t = (delay + spanDelay) % 2 ^ Reg.FRM.RING_DELAY_DELAY.w) := by
  have hoffice : (isMaster s && !electing s) = false := by
    rcases hm with h | h
    · rw [h]; rfl
    · rw [h, Bool.not_true, Bool.and_false]
  generalize hcell : Cell.sync frame.toNat (delay + spanDelay + 16) (b2n partitioned + 2 * b2n quorum) = cell
  have heff : cellIn (ring == .b) true (syncCell frame.toNat phaseErr delay spanDelay partitioned quorum (ring == .b))
      (begun s) = when ((ring == .b) != pathA s) (discipline frame.toNat phaseErr (delay + spanDelay))
        (passCell (ring == .b) 0 cell (topoShow (memberSynced partitioned quorum (begun s)))) := by
    subst hcell
    exact (cellIn_taken hr).trans (if_neg (by
      show ¬ (isMaster s && !electing s) = true
      rw [hoffice]
      decide))
  refine .leavesWhen hs rfl heff fun hq => ?_
  have hbegin := Changes.begin [.rng] syncedFields s
  obtain ⟨hsync, hrng, hstate, hmaster, hquorum⟩ := memberSynced_shown partitioned quorum (begun s)
  replace hsync := hbegin.trans hsync
  generalize memberSynced partitioned quorum (begun s) = m at *
  obtain ⟨htopo, -⟩ := topoShow_shown (Quiet.after hsync synced_sources hq)
  have hfields : ∀ f ∈ syncedFields, get f (topoShow m) = get f m := fun f hf =>
    htopo.regs f (fun h => (discipline_keys f hf).2 (by
      rw [List.map_append]
      exact List.mem_append_left _ h)) (discipline_keys f hf).1
  have hfrm : (topoShow m).frm = s.frm := (htopo.frm (by simp [raiseParts])).trans (hsync.frm (by simp))
  have hmode : get Reg.FRM.SRC_MODE (topoShow m) = get Reg.FRM.SRC_MODE s :=
    (htopo.regs _ (by decide +kernel) (by decide)).trans (hsync.regs _ (by decide) (by decide))
  have hshown : (topoShow m).rng = m.rng := htopo.rng (by simp [raiseParts])
  have hreqs := htopo.reqs.trans (hsync.reqs.trans hs.2)
  generalize topoShow m = v at *
  have hpass : Changes [.frm] disciplineFields v (passCell (ring == .b) 0 cell v) := (Changes.refl _ _ v).emit _
  have hlast : Out.cell (ring == .b) (cell.bits (ring == .b) 0) ∈ (passCell (ring == .b) 0 cell v).out :=
    List.mem_append_right _ (List.mem_singleton_self _)
  have hsame : get Reg.FRM.SRC_MODE (passCell (ring == .b) 0 cell v) = get Reg.FRM.SRC_MODE v ∧
    (passCell (ring == .b) 0 cell v).frm = v.frm := ⟨rfl, rfl⟩
  generalize passCell (ring == .b) 0 cell v = w at *
  obtain ⟨hd, hout, htaken⟩ := discipline_shown frame.toNat phaseErr (delay + spanDelay) w
  have hend : Changes [.frm] disciplineFields v (when ((ring == .b) != pathA s)
      (discipline frame.toNat phaseErr (delay + spanDelay)) w) :=
    when_keeps (Changes _ _ v) _ _ _ hpass fun _ => hpass.trans hd
  have hsent : Out.cell (ring == .b) (cell.bits (ring == .b) 0) ∈ (when ((ring == .b) != pathA s)
      (discipline frame.toNat phaseErr (delay + spanDelay)) w).out :=
    when_keeps (fun u : State => _ ∈ u.out) _ _ _ hlast fun h => by rwa [hout]
  have hmark : (ring == Ring.b) ≠ pathA s → when ((ring == .b) != pathA s)
      (discipline frame.toNat phaseErr (delay + spanDelay)) w =
      discipline frame.toNat phaseErr (delay + spanDelay) w := fun h => by
    rw [bne_iff_ne.2 h]
    rfl
  refine ⟨hend.reqs.trans hreqs, fun t k => ?_⟩
  have hkept : ∀ f ∈ syncedFields, get f t = get f m := fun f hf => by
    obtain ⟨h1, h2⟩ := discipline_keys f hf
    rw [List.map_append, List.mem_append, not_or] at h2
    rw [k.get _ h1, hend.regs f h2.2 h1, hfields f hf]
  have hring : t.rng = m.rng := k.rng.trans ((hend.rng (by simp)).trans hshown)
  refine ⟨(hkept _ (by simp [syncedFields])).trans hstate, ?_, by rw [hring, hrng], by rw [hring, hrng],
    by rw [hring, hrng], by rw [hring, hrng], ?_, k.sentLast hsent, fun h1 h2 h3 => ?_⟩
  · rw [isMaster, isSet, hkept _ (by simp [syncedFields]), hmaster]
    rfl
  · rw [isSet, hkept _ (by simp [syncedFields]), hquorum]
    cases quorum <;> rfl
  · obtain ⟨k1, k2, k3⟩ := htaken (hsame.1.trans (hmode.trans h1))
      ((congrArg Frm.markerSeen (hsame.2.trans hfrm)).trans h2)
    rw [hmark h3] at k
    exact ⟨(congrArg Frm.markerSeen k.frm).trans k1, (k.get _ missed_settle.1).trans k2,
      (k.get _ missed_settle.2).trans k3⟩


theorem completes_sync_master (hm : isMaster s = true) (he : electing s = false) :
    Completes (.sync frame phaseErr delay partitioned quorum ring spanDelay true) s fun t => Quiet s →
      t.rng.syncSeen = true ∧ isMaster t = true ∧
      get (circOf (ring == Ring.b)) t = min 65535 (delay + spanDelay) ∧
      (10000 < delay + spanDelay → get Reg.TRN.STS_TOPO s = 0 → get Reg.TRN.STS_CIRC_ERR t = 1) := by
  have heff : cellIn (ring == .b) true (syncCell frame.toNat phaseErr delay spanDelay partitioned quorum (ring == .b))
      (begun s) = when (!(ring == .b)) (discipline frame.toNat phaseErr (delay + spanDelay))
        (circulation (ring == .b) (delay + spanDelay)
          { begun s with rng := { s.rng with syncSeen := true, noSync := 0 } }) :=
    (cellIn_taken hr).trans (if_pos (by
      show (isMaster s && !electing s) = true
      rw [hm, he]
      rfl))
  refine .leavesWhen hs rfl heff fun hq => ?_
  obtain ⟨-, -, h164⟩ := hq
  have hseen : Changes [.rng] [] s { begun s with rng := { s.rng with syncSeen := true, noSync := 0 } } :=
    (Changes.begin _ _ s).in_rng _ (by simp)
  obtain ⟨hcirc, htime, herr⟩ := circulation_shown (ringB := ring == .b) (ns := delay + spanDelay)
    ((hseen.source (by decide) (by simp)).calm h164)
  have hring := congrArg Rng.syncSeen (hcirc.rng (by simp [raiseParts]))
  have hoffice : isMaster (circulation (ring == .b) (delay + spanDelay)
      { begun s with rng := { s.rng with syncSeen := true, noSync := 0 } }) = true := by
    rw [isMaster, isSet, hcirc.regs _ (by decide +kernel) (by decide)]
    exact hm
  have htopo : get Reg.TRN.STS_TOPO s = get Reg.TRN.STS_TOPO
    { begun s with rng := { s.rng with syncSeen := true, noSync := 0 } } := rfl
  have hreqs := hcirc.reqs.trans (hseen.reqs.trans hs.2)
  rw [htopo]
  generalize circulation (ring == .b) (delay + spanDelay) _ = v at *
  have hend : Changes [.frm] disciplineFields v (when (!(ring == .b))
      (discipline frame.toNat phaseErr (delay + spanDelay)) v) :=
    when_keeps (Changes _ _ v) _ _ _ (.refl _ _ v) fun _ => (discipline_shown _ _ _ v).1
  obtain ⟨h1, h2, -⟩ := circ_keys (ring == .b)
  simp only [List.map_append, List.mem_append, not_or] at h1 h2
  refine ⟨hend.reqs.trans hreqs, fun t k => ⟨?_, ?_, ?_, fun hn ht => ?_⟩⟩
  · exact (congrArg Rng.syncSeen (k.rng.trans (hend.rng (by simp)))).trans hring
  · rw [isMaster, isSet, k.get _ (by decide), hend.regs _ (by decide +kernel) (by decide)]
    exact hoffice
  · exact (k.get _ h1.1).trans ((hend.regs _ h1.2.2 h1.1).trans htime)
  · exact (k.get _ h2.1).trans ((hend.regs _ h2.2.2 h2.1).trans (herr hn ht))

end

/-! ### Election (R360, R376) -/

/-- What a member that starts an election sets before it shows the topology. -/
def electionStarted (s : State) : State :=
  { s with rng := { s.rng with lowest := s.pwr.serial, ownRun := 0, broken := [], enumDue := false } }
    |> set Reg.TRN.STS_MASTER 0 |> set Reg.TRN.STS_STATE 1

theorem electionStarted_shown (s : State) :
    Changes [.rng] syncedFields s (electionStarted s) ∧ get Reg.TRN.STS_STATE (electionStarted s) = 1 ∧
    get Reg.TRN.STS_MASTER (electionStarted s) = 0 :=
  ⟨(((Changes.refl [.rng] _ s).in_rng _ (by simp)).set _ _ (by simp [syncedFields])).set _ _ (by simp [syncedFields]),
    get_set_same _ _ _, (get_set_other _ _ (by decide)).trans (get_set_same _ _ _)⟩

section
variable {s : State} (hs : Ready s) (hr : ringOn s = true)
include hs

theorem completes_electing (hi : ringInserts s = true) (he : electing s = false)
    (ha : isSet Reg.TRN.RING_STS_AI_LOCK s = true) (hb : isSet Reg.TRN.RING_STS_BI_LOCK s = true)
    (hn : 3 ≤ s.rng.noSync) :
    Completes .electing s fun t => Quiet s →
      electing t = true ∧ isMaster t = false ∧ t.rng.lowest = s.pwr.serial ∧ t.rng.ownRun = 0 ∧
      onBoth (.claim s.pwr.serial.toNat) s ⊆ t.out := by
  refine .leavesWhen hs rfl (u := sendBoth (.claim s.pwr.serial.toNat) (topoShow (electionStarted (begun s))))
    (if_pos ?_) fun hq => ?_
  · show (ringInserts s && !electing s && isSet Reg.TRN.RING_STS_AI_LOCK s && isSet Reg.TRN.RING_STS_BI_LOCK s &&
      decide (3 ≤ s.rng.noSync)) = true
    rw [hi, he, ha, hb, decide_eq_true hn]
    rfl
  have hbegin := Changes.begin [.rng] syncedFields s
  obtain ⟨hstart, hstate, hmaster⟩ := electionStarted_shown (begun s)
  have hring : (electionStarted (begun s)).rng.lowest = s.pwr.serial ∧ (electionStarted (begun s)).rng.ownRun = 0 :=
    ⟨rfl, rfl⟩
  replace hstart := hbegin.trans hstart
  generalize electionStarted (begun s) = m at *
  obtain ⟨htopo, -⟩ := topoShow_shown (Quiet.after hstart synced_sources hq)
  have hindex : get Reg.TRN.STS_INDEX (topoShow m) = get Reg.TRN.STS_INDEX s :=
    (htopo.regs _ (by decide +kernel) (by decide)).trans (hstart.regs _ (by decide) (by decide))
  have hkept : ∀ f ∈ syncedFields, get f (topoShow m) = get f m := fun f hf => by
    obtain ⟨h1, h2⟩ := discipline_keys f hf
    rw [List.map_append, List.mem_append, not_or] at h2
    exact htopo.regs f h2.1 h1
  have hshown : (topoShow m).rng = m.rng := htopo.rng (by simp [raiseParts])
  have hreqs := htopo.reqs.trans (hstart.reqs.trans hs.2)
  generalize topoShow m = v at *
  have hsend := changes_sendBoth (.claim s.pwr.serial.toNat) v
  have hout := sendBoth_out (.claim s.pwr.serial.toNat) v
  generalize sendBoth (.claim s.pwr.serial.toNat) v = u at *
  have hlast : ∀ t, Keeps settleKeys u t → t.rng = m.rng := fun t k => k.rng.trans ((hsend.rng (by simp)).trans hshown)
  refine ⟨hsend.reqs.trans hreqs, fun t k => ⟨?_, ?_, by rw [hlast t k, hring.1], by rw [hlast t k, hring.2],
    fun o ho => k.sentLast ?_⟩⟩
  · rw [electing, k.get _ (by decide), hsend.regs _ (by simp) (by decide), hkept _ (by simp [syncedFields]), hstate]
    rfl
  · rw [isMaster, isSet, k.get _ (by decide), hsend.regs _ (by simp) (by decide), hkept _ (by simp [syncedFields]),
      hmaster]
    rfl
  · rw [hout, onBoth_congr _ hindex]
    exact List.mem_append_right _ ho

include hr

theorem completes_claim_lower (he : electing s = true) (id : BitVec 64) :
    Completes (.claim id false true) s fun t =>
      t.rng = { s.rng with lowest := if id.toNat < s.rng.lowest.toNat then id else s.rng.lowest } ∧
      Changes [.rng] [] s t := by
  have heff : cellIn false true (claimCell id false) (begun s) = { begun s with
      rng := { s.rng with lowest := if id.toNat < s.rng.lowest.toNat then id else s.rng.lowest } } :=
    (cellIn_taken hr).trans (if_pos he)
  have hall : Changes [.rng] [] s { begun s with
      rng := { s.rng with lowest := if id.toNat < s.rng.lowest.toNat then id else s.rng.lowest } } :=
    (Changes.begin _ _ s).in_rng _ (by simp)
  exact .leaves hs rfl heff (hall.reqs.trans hs.2) fun t k => ⟨k.rng, hall.ended k⟩

theorem completes_claim_double (he : electing s = true) (id : BitVec 64) :
    Completes (.claim id true true) s fun t => Fresh 163 s →
      t.rng.ownRun = 0 ∧ Raised 163 s t ∧ Changes (.rng :: raiseParts) (raiseFields 163) s t := by
  have heff : cellIn false true (claimCell id true) (begun s) = raiseSimple 163 0 0 (ringStsWord s) 0 { begun s with
      rng := { s.rng with lowest := if id.toNat < s.rng.lowest.toNat then id else s.rng.lowest, ownRun := 0 } } :=
    (cellIn_taken hr).trans (if_pos he)
  refine .leavesWhen hs rfl heff fun hf => ?_
  have hring : Changes (.rng :: raiseParts) (raiseFields 163) s { begun s with
      rng := { s.rng with lowest := if id.toNat < s.rng.lowest.toNat then id else s.rng.lowest, ownRun := 0 } } :=
    (Changes.begin _ _ s).in_rng _ (by simp)
  have hraise := changes_raiseSimple (n := 163) (s := { begun s with
    rng := { s.rng with lowest := if id.toNat < s.rng.lowest.toNat then id else s.rng.lowest, ownRun := 0 } }) hf.2
      0 0 (ringStsWord s) 0
  have hraised : Raised 163 s (raiseSimple 163 0 0 (ringStsWord s) 0 { begun s with
      rng := { s.rng with lowest := if id.toNat < s.rng.lowest.toNat then id else s.rng.lowest, ownRun := 0 } }) :=
    raised_raiseSimple (n := 163) (s := { begun s with
      rng := { s.rng with lowest := if id.toNat < s.rng.lowest.toNat then id else s.rng.lowest, ownRun := 0 } }) hf
      (by decide) (by decide) _ _ _ _
  have hrun := congrArg Rng.ownRun (hraise.rng (by simp [raiseParts]))
  have hall := hring.trans (hraise.widen (by simp) fun _ h => h)
  exact ⟨hall.reqs.trans hs.2, fun t k => ⟨(congrArg Rng.ownRun k.rng).trans hrun,
    (SameSource.settle (by decide) k).stays hraised, hall.ended k⟩⟩

theorem completes_claim_noted (he : electing s = false) (id : BitVec 64) (duplicate : Bool) :
    Completes (.claim id duplicate true) s fun t =>
      t.rng = { s.rng with
        departed := s.rng.departed.filter (· != id),
        enumDue := s.rng.enumDue || (isMaster s && (s.rng.departed.contains id || !inTable id s)) } ∧
      get Reg.DOM.STS_DEPARTED t = t.rng.departed.length % 512 ∧
      Changes [.rng] [Reg.DOM.STS_DEPARTED] s t := by
  have heff : cellIn false true (claimCell id duplicate) (begun s) =
      set Reg.DOM.STS_DEPARTED (s.rng.departed.filter (· != id)).length { begun s with
        rng := { s.rng with
          departed := s.rng.departed.filter (· != id),
          enumDue := s.rng.enumDue || (isMaster s && (s.rng.departed.contains id || !inTable id s)) } } :=
    (cellIn_taken hr).trans (if_neg (ne_true_of_eq_false he))
  have hall : Changes [.rng] [Reg.DOM.STS_DEPARTED] s
      (set Reg.DOM.STS_DEPARTED (s.rng.departed.filter (· != id)).length { begun s with
        rng := { s.rng with
          departed := s.rng.departed.filter (· != id),
          enumDue := s.rng.enumDue || (isMaster s && (s.rng.departed.contains id || !inTable id s)) } }) :=
    ((Changes.begin _ _ s).in_rng _ (by simp)).set _ _ (by simp)
  refine .leaves hs rfl heff (hall.reqs.trans hs.2) fun t k => ⟨k.rng, ?_, hall.ended k⟩
  rw [k.get _ (by decide), k.rng]
  exact get_set_same _ _ _

end

/-- The fields that show the ring's table. -/
def tableFields : List Fld := [Reg.TRN.TABLE_IDX_VALID, Reg.TRN.TABLE_LO_ID, Reg.TRN.TABLE_HI_ID]

theorem changes_tableShow (s : State) : Changes [] tableFields s (tableShow s) :=
  (((Changes.refl _ _ s).put1 _ _ (by simp [tableFields])).set _ _ (by simp [tableFields])).set _ _
    (by simp [tableFields])

theorem tableShow_out (s : State) : (tableShow s).out = s.out := rfl

/-- The fields that tell of a new master. -/
def officeFields : List Fld :=
  [Reg.TRN.MASTER_LO_ID, Reg.TRN.MASTER_HI_ID, Reg.TRN.COUNTS_ELECTIONS, Reg.EVT_STS 0xD0 0]

theorem changes_newMaster (id : BitVec 64) (s : State) : Changes [] officeFields s (newMaster id s) :=
  ((((Changes.refl _ _ s).set _ _ (by simp [officeFields])).set _ _ (by simp [officeFields])).inc _
    (by simp [officeFields])).event _ _ (by simp [officeFields])

theorem newMaster_get (id : BitVec 64) (s : State) :
    get Reg.TRN.MASTER_LO_ID (newMaster id s) = id.toNat % 2 ^ 32 ∧
    get Reg.TRN.COUNTS_ELECTIONS (newMaster id s) = oneMore Reg.TRN.COUNTS_ELECTIONS s ∧
    get (Reg.EVT_STS 0xD0 0) (newMaster id s) = 1 := by
  refine ⟨?_, ?_, get_set_same _ _ _⟩
  · exact (get_set_other _ _ (by decide)).trans ((get_inc_other _ (by decide)).trans ((get_set_other _ _
      (by decide)).trans
      (get_set_same _ _ _)))
  · have h : get Reg.TRN.COUNTS_ELECTIONS (set Reg.TRN.MASTER_HI_ID (id.toNat / 2 ^ 32)
        (set Reg.TRN.MASTER_LO_ID id.toNat s)) = get Reg.TRN.COUNTS_ELECTIONS s :=
      (get_set_other _ _ (by decide)).trans (get_set_other _ _ (by decide))
    exact (get_set_other _ _ (by decide)).trans ((get_inc_same _ _).trans (congrArg (satAdd _ · 1) h))

theorem changes_sendEnum (fs : List Fld) (s : State) : Changes [] fs s (sendEnum s) :=
  ((Changes.refl _ _ s).emit _).cond _ _ fun _ h => h.emit _

theorem sendEnum_sent {s : State} (h : s.out = []) : onRing false (.enum 1 (now s)) s <+: (sendEnum s).out := by
  refine when_keeps (fun u : State => onRing false (.enum 1 (now s)) s <+: u.out) _ _ _ ?_
    fun h => h.trans (List.prefix_append _ _)
  show _ <+: s.out ++ onRing false (.enum 1 (now s)) s
  rw [h]
  exact List.prefix_refl _

/-- A member that is elected takes the master's office. -/
def officeTaken (s : State) : State :=
  { s with rng := { s.rng with indexed := true, table := [] } }
    |> set Reg.TRN.STS_MASTER 1 |> set Reg.TRN.STS_INDEX 0 |> set Reg.TRN.STS_COUNT 1

theorem office_keys : ∀ f ∈ [Reg.TRN.STS_MASTER, Reg.TRN.STS_INDEX, Reg.TRN.STS_COUNT],
    f.key ∉ settleKeys ∧ f.key ∉ officeFields.map Fld.key ∧ f.key ∉ tableFields.map Fld.key := by decide +kernel

theorem table_keys : ∀ f ∈ officeFields, f.key ∉ settleKeys ∧ f.key ∉ tableFields.map Fld.key := by decide +kernel

theorem officeTaken_get (s : State) : get Reg.TRN.STS_MASTER (officeTaken s) = 1 ∧
    get Reg.TRN.STS_INDEX (officeTaken s) = 0 ∧ get Reg.TRN.STS_COUNT (officeTaken s) = 1 :=
  ⟨(get_set_other _ _ (by decide)).trans ((get_set_other _ _ (by decide)).trans (get_set_same _ _ _)),
    (get_set_other _ _ (by decide)).trans (get_set_same _ _ _), get_set_same _ _ _⟩

theorem completes_elected {s : State} (hs : Ready s) (hi : ringInserts s = true) (he : electing s = true)
    (hm : isMaster s = false) (hn : 32 ≤ s.rng.ownRun) :
    Completes .elected s fun t =>
      isMaster t = true ∧ get Reg.TRN.STS_INDEX t = 0 ∧ get Reg.TRN.STS_COUNT t = 1 ∧ t.rng.indexed = true ∧
      get Reg.TRN.MASTER_LO_ID t = s.pwr.serial.toNat % 2 ^ 32 ∧
      get Reg.TRN.COUNTS_ELECTIONS t = oneMore Reg.TRN.COUNTS_ELECTIONS s ∧ get (Reg.EVT_STS 0xD0 0) t = 1 ∧
      [Out.cell false ((Cell.enum 1 (now s)).bits false 0)] <+: t.out := by
  refine .mono (.leavesWhen (Q := True) hs rfl
    (u := tableShow (sendEnum (newMaster s.pwr.serial (officeTaken (begun s))))) (if_pos ?_) fun _ => ?_)
    fun t h => h trivial
  · show (ringInserts s && electing s && !isMaster s && decide (32 ≤ s.rng.ownRun)) = true
    rw [hi, he, hm, decide_eq_true hn]
    rfl
  have htaken : Changes [.rng] [Reg.TRN.STS_MASTER, Reg.TRN.STS_INDEX, Reg.TRN.STS_COUNT] s (officeTaken (begun s)) :=
    (((((Changes.begin _ _ s).in_rng _ (by simp)).set _ _ (by simp)).set _ _ (by simp)).set _ _ (by simp))
  have helections : get Reg.TRN.COUNTS_ELECTIONS (officeTaken (begun s)) = get Reg.TRN.COUNTS_ELECTIONS s :=
    htaken.regs _ (by decide) (by decide)
  obtain ⟨k1, k2, k3⟩ := officeTaken_get (begun s)
  have htold := changes_newMaster s.pwr.serial (officeTaken (begun s))
  obtain ⟨n1, n2, n3⟩ := newMaster_get s.pwr.serial (officeTaken (begun s))
  have hout : (newMaster s.pwr.serial (officeTaken (begun s))).out = [] := rfl
  have hrng : (newMaster s.pwr.serial (officeTaken (begun s))).rng.indexed = true := rfl
  have hnow : now (newMaster s.pwr.serial (officeTaken (begun s))) = now s := rfl
  generalize officeTaken (begun s) = m at *
  generalize newMaster s.pwr.serial m = v at *
  have hsent := sendEnum_sent hout
  have hend := (changes_sendEnum tableFields v).trans (changes_tableShow (sendEnum v))
  have hlast : onRing false (.enum 1 (now v)) v <+: (tableShow (sendEnum v)).out := hsent
  generalize tableShow (sendEnum v) = u at *
  have hindex : get Reg.TRN.STS_INDEX v = 0 :=
    (htold.regs _ (office_keys _ (by simp)).2.1 (office_keys _ (by simp)).1).trans k2
  refine ⟨hend.reqs.trans (htold.reqs.trans (htaken.reqs.trans hs.2)), fun t k => ?_⟩
  have hkept : ∀ f ∈ [Reg.TRN.STS_MASTER, Reg.TRN.STS_INDEX, Reg.TRN.STS_COUNT], get f t = get f m := fun f hf => by
    obtain ⟨h1, h2, h3⟩ := office_keys f hf
    rw [k.get f h1, hend.regs f h3 h1, htold.regs f h2 h1]
  have htable : ∀ f ∈ officeFields, get f t = get f v := fun f hf => by
    obtain ⟨h1, h2⟩ := table_keys f hf
    rw [k.get f h1, hend.regs f h2 h1]
  refine ⟨?_, (hkept _ (by simp)).trans k2, (hkept _ (by simp)).trans k3,
    (congrArg Rng.indexed (k.rng.trans (hend.rng (by simp)))).trans hrng,
    (htable _ (by simp [officeFields])).trans n1, ?_, (htable _ (by simp [officeFields])).trans n3, ?_⟩
  · rw [isMaster, isSet, hkept _ (by simp), k1]
    rfl
  · rw [htable _ (by simp [officeFields]), n2]
    exact congrArg (satAdd _ · 1) helections
  · rw [onRing, hindex, hnow] at hlast
    exact hlast.trans (k.sent rfl)

/-! ### Enumeration (R361) -/

/-- The fields that an enumeration sets in a member. -/
def enumFields : List Fld :=
  [Reg.TRN.STS_INDEX, Reg.DOM.STS_DEPARTED, Reg.TRN.STS_COUNT, Reg.TRN.STS_STATE]

theorem changes_takeTable (ids : List (Nat × BitVec 64)) (s : State) :
    Changes [.rng] [Reg.DOM.STS_DEPARTED] s (takeTable ids s) :=
  ((Changes.refl [.rng] _ s).in_rng _ (by simp)).set _ _ (by simp)

/-- The index of a member, and the table, from an enumeration that passes. -/
def enumTaken (k : Nat) (ids : List (Nat × BitVec 64)) (s : State) : State :=
  let u := takeTable ids (set Reg.TRN.STS_INDEX k { s with rng := { s.rng with indexed := true } })
  set Reg.TRN.STS_STATE 2 (set Reg.TRN.STS_COUNT (u.rng.table.length + 1) u)

theorem enumTaken_shown (k : Nat) (ids : List (Nat × BitVec 64)) (s : State) :
    Changes [.rng] enumFields s (enumTaken k ids s) ∧ (enumTaken k ids s).rng.indexed = true ∧
    get Reg.TRN.STS_INDEX (enumTaken k ids s) = k % 512 ∧ get Reg.TRN.STS_STATE (enumTaken k ids s) = 2 := by
  have htable := changes_takeTable ids (set Reg.TRN.STS_INDEX k { s with rng := { s.rng with indexed := true } })
  refine ⟨?_, rfl, ?_, get_set_same _ _ _⟩
  · exact (((((Changes.refl [.rng] enumFields s).in_rng _ (by simp)).set Reg.TRN.STS_INDEX k
      (by simp [enumFields])).trans (htable.widen (fun _ h => h) (by simp [enumFields]))).set _ _
      (by simp [enumFields])).set _ _ (by simp [enumFields])
  · exact (get_set_other _ _ (by decide)).trans ((get_set_other _ _ (by decide)).trans
      ((htable.regs _ (by decide) (by decide)).trans (get_set_same _ _ _)))

theorem enum_sources : ∀ f ∈ sourceCard 161 ++ sourceCard 162 ++ sourceCard 164,
    f.key ∉ (enumFields ++ officeFields).map Fld.key := by decide +kernel

theorem enum_keys : (∀ f ∈ [Reg.TRN.STS_INDEX, Reg.TRN.STS_STATE], f.key ∉ settleKeys ∧
    f.key ∉ officeFields.map Fld.key ∧ f.key ∉ (topoFields ++ tableFields).map Fld.key) ∧
    (Reg.EVT_STS 0xD0 0).key ∉ settleKeys ∧
    (Reg.EVT_STS 0xD0 0).key ∉ (topoFields ++ tableFields).map Fld.key := by decide +kernel

/-- The fields that an enumeration sets in the master. -/
def returnFields : List Fld := [Reg.TRN.STS_COUNT, Reg.DOM.STS_DEPARTED, Reg.TRN.STS_STATE] ++ tableFields

/-- The table of an enumeration that is back at the master. -/
def enumCounted (count : Nat) (ids : List (Nat × BitVec 64)) (s : State) : State :=
  tableShow (set Reg.TRN.STS_STATE 2 (takeTable ids (set Reg.TRN.STS_COUNT (min 1023 count) s)))

theorem enumCounted_shown (count : Nat) (ids : List (Nat × BitVec 64)) (s : State) :
    Changes [.rng] returnFields s (enumCounted count ids s) ∧
    get Reg.TRN.STS_COUNT (enumCounted count ids s) = min 1023 count ∧
    get Reg.TRN.STS_STATE (enumCounted count ids s) = 2 := by
  have htable := changes_takeTable ids (set Reg.TRN.STS_COUNT (min 1023 count) s)
  have hshow := changes_tableShow (set Reg.TRN.STS_STATE 2 (takeTable ids
    (set Reg.TRN.STS_COUNT (min 1023 count) s)))
  refine ⟨?_, (hshow.regs _ (by decide) (by decide)).trans ?_, (hshow.regs _ (by decide) (by decide)).trans
    (get_set_same _ _ _)⟩
  · exact ((((Changes.refl [.rng] returnFields s).set Reg.TRN.STS_COUNT _ (by simp [returnFields])).trans
      (htable.widen (fun _ h => h) (by simp [returnFields]))).set _ _ (by simp [returnFields])).trans
        (hshow.widen (by simp) (List.subset_append_right _ _))
  · refine (get_set_other _ _ (by decide)).trans ((htable.regs _ (by decide) (by decide)).trans
      ((get_set_same _ _ _).trans ?_))
    rw [show Reg.TRN.STS_COUNT.w = 10 from rfl]
    omega

theorem return_sources : ∀ f ∈ sourceCard 161 ++ sourceCard 162 ++ sourceCard 164 ++ sourceCard 163,
    f.key ∉ (returnFields ++ [Reg.TRN.STS_OVERSIZE, Reg.EVT_STS 0xD0 4]).map Fld.key := by decide +kernel

theorem fall_sources : ∀ f ∈ sourceCard 161 ++ sourceCard 162 ++ sourceCard 164,
    f.key ∉ (returnFields ++ Reg.TRN.STS_OVERSIZE :: fallFields 163).map Fld.key := by decide +kernel

theorem return_keys : ∀ f ∈ [Reg.TRN.STS_COUNT, Reg.TRN.STS_STATE, Reg.TRN.STS_OVERSIZE, Reg.EVT_STS 0xD0 4],
    f.key ∉ settleKeys ∧ f.key ∉ (raiseFields 163).map Fld.key ∧ f.key ∉ (fallFields 163).map Fld.key ∧
    f.key ∉ topoFields.map Fld.key := by decide +kernel

section
variable {s : State} (hs : Ready s) (hr : ringOn s = true) (ring : Ring) (count : Nat) (frameMax : Frame)
  (ids : List (Nat × BitVec 64))
include hs hr

theorem completes_enum_member (hm : isMaster s = false) :
    Completes (.enum count frameMax ids ring true) s fun t => Quiet s →
      t.rng.indexed = true ∧ get Reg.TRN.STS_STATE t = 2 ∧
      (s.rng.indexed = false ∨ electing s = true → get Reg.TRN.STS_INDEX t = freeIndex count ids % 512) ∧
      (s.rng.indexed = true → electing s = false → get Reg.TRN.STS_INDEX t = get Reg.TRN.STS_INDEX s % 512) ∧
      (electing s = true → get (Reg.EVT_STS 0xD0 0) t = 1) ∧
      Out.cell (ring == Ring.b) ((Cell.enum (count + 1) (max frameMax.toNat (now s))).bits (ring == Ring.b) 0) ∈
        t.out := by
  generalize hcell : Cell.enum (count + 1) (max frameMax.toNat (now s)) = cell
  generalize hk : (if s.rng.indexed && !electing s then get Reg.TRN.STS_INDEX s else freeIndex count ids) = k
  generalize hid : (look (enumTaken k ids (begun s)).rng.table 0).getD 0 = id
  refine .leavesWhen hs rfl (u := tableShow (topoShow (passCell (ring == .b) 0 cell
    (when (electing s) (newMaster id) (enumTaken k ids (begun s)))))) ?_ fun hq => ?_
  · subst hcell hid hk
    exact (cellIn_taken hr).trans (if_neg (ne_true_of_eq_false hm))
  obtain ⟨htaken, hindexed, hindex, hstate⟩ := enumTaken_shown k ids (begun s)
  replace htaken := (Changes.begin _ _ s).trans htaken
  generalize enumTaken k ids (begun s) = m at *
  have hnew : Changes [] officeFields m (when (electing s) (newMaster id) m) :=
    when_keeps (Changes _ _ m) _ _ _ (.refl _ _ m) fun _ => changes_newMaster id m
  have hevent : electing s = true → get (Reg.EVT_STS 0xD0 0) (when (electing s) (newMaster id) m) = 1 := fun h => by
    rw [h]
    exact (newMaster_get id m).2.2
  generalize when (electing s) (newMaster id) m = v at *
  have hpass : Changes [] officeFields m (passCell (ring == .b) 0 cell v) := hnew.emit _
  have hout : Out.cell (ring == .b) (cell.bits (ring == .b) 0) ∈ (passCell (ring == .b) 0 cell v).out :=
    List.mem_append_right _ (List.mem_singleton_self _)
  have hshown : get (Reg.EVT_STS 0xD0 0) (passCell (ring == .b) 0 cell v) = get (Reg.EVT_STS 0xD0 0) v := rfl
  generalize passCell (ring == .b) 0 cell v = w at *
  have hall : Changes [.rng] (enumFields ++ officeFields) s w :=
    (htaken.widen (fun _ h => h) (List.subset_append_left _ _)).trans
      (hpass.widen (by simp) (List.subset_append_right _ _))
  obtain ⟨htopo, hsends⟩ := topoShow_shown (Quiet.after hall enum_sources hq)
  have hend : Changes raiseParts (topoFields ++ tableFields) w (tableShow (topoShow w)) :=
    (htopo.widen (fun _ h => h) (List.subset_append_left _ _)).trans
      ((changes_tableShow _).widen (by simp) (List.subset_append_right _ _))
  have hsent : Out.cell (ring == .b) (cell.bits (ring == .b) 0) ∈ (tableShow (topoShow w)).out := hsends.subset hout
  generalize tableShow (topoShow w) = u at *
  refine ⟨hend.reqs.trans (hall.reqs.trans hs.2), fun t k => ?_⟩
  obtain ⟨hown, he1, he2⟩ := enum_keys
  have hkept : ∀ f ∈ [Reg.TRN.STS_INDEX, Reg.TRN.STS_STATE], get f t = get f m := fun f hf => by
    obtain ⟨h1, h2, h3⟩ := hown f hf
    rw [k.get f h1, hend.regs f h3 h1, hpass.regs f h2 h1]
  have hring : t.rng = m.rng := k.rng.trans ((hend.rng (by simp [raiseParts])).trans (hpass.rng (by simp)))
  rw [hkept _ (by simp), hkept _ (by simp), hindex, hstate, hring]
  refine ⟨hindexed, rfl, fun h => ?_, fun h1 h2 => ?_, fun h => ?_, k.sentLast hsent⟩
  · rw [← hk, if_neg (by rcases h with h | h <;> simp [h])]
  · rw [← hk, if_pos (by simp [h1, h2])]
  · rw [k.get _ he1, hend.regs _ he2 he1, hshown, hevent h]


theorem completes_enum_oversize (hm : isMaster s = true) (hc : 512 < count) :
    Completes (.enum count frameMax ids ring true) s fun t => Fresh 163 s →
      get Reg.TRN.STS_OVERSIZE t = 1 ∧ get (Reg.EVT_STS 0xD0 4) t = 1 ∧ Raised 163 s t := by
  have heff : ∃ w, cellIn (ring == .b) true (fun s => if isMaster s then enumReturns count frameMax.toNat ids s else
      enumPasses count frameMax.toNat ids (ring == .b) s) (begun s) = raiseHeld 163 0 0 w 0
      (event 0xD0 4 (set Reg.TRN.STS_OVERSIZE 1 (enumCounted count ids (begun s)))) :=
    ⟨_, (cellIn_taken hr).trans ((if_pos hm).trans (if_pos hc))⟩
  obtain ⟨w, heff⟩ := heff
  refine .leavesWhen hs rfl heff fun hf => ?_
  obtain ⟨hcount, -, -⟩ := enumCounted_shown count ids (begun s)
  replace hcount := (Changes.begin _ _ s).trans hcount
  have hall : Changes [.rng] (returnFields ++ [Reg.TRN.STS_OVERSIZE, Reg.EVT_STS 0xD0 4]) s
      (event 0xD0 4 (set Reg.TRN.STS_OVERSIZE 1 (enumCounted count ids (begun s)))) :=
    ((hcount.widen (fun _ h => h) (List.subset_append_left _ _)).set _ _ (by simp)).event _ _ (by simp)
  have hover : get Reg.TRN.STS_OVERSIZE (event 0xD0 4 (set Reg.TRN.STS_OVERSIZE 1
      (enumCounted count ids (begun s)))) = 1 := (get_set_other _ _ (by decide)).trans (get_set_same _ _ _)
  have hevent : get (Reg.EVT_STS 0xD0 4) (event 0xD0 4 (set Reg.TRN.STS_OVERSIZE 1
      (enumCounted count ids (begun s)))) = 1 := get_set_same _ _ _
  generalize event 0xD0 4 (set Reg.TRN.STS_OVERSIZE 1 (enumCounted count ids (begun s))) = v at *
  have hsame := hall.source (n := 163) (by decide) fun f hf => return_sources f (by simp [hf])
  have hraise := changes_raiseHeld (hsame.fresh hf).2 0 0 w 0
  have hraised := hsame.raised (raised_raiseHeld (hsame.fresh hf) (by decide) (by decide) 0 0 w 0)
  obtain ⟨o1, o2, -, -⟩ := return_keys Reg.TRN.STS_OVERSIZE (by simp)
  obtain ⟨e1, e2, -, -⟩ := return_keys (Reg.EVT_STS 0xD0 4) (by simp)
  exact ⟨hraise.reqs.trans (hall.reqs.trans hs.2), fun t k =>
    ⟨(k.get _ o1).trans ((hraise.regs _ o2 o1).trans hover), (k.get _ e1).trans ((hraise.regs _ e2 e1).trans hevent),
      (SameSource.settle (by decide) k).stays hraised⟩⟩

theorem completes_enum_returned (hm : isMaster s = true) (hc : count ≤ 512) :
    Completes (.enum count frameMax ids ring true) s fun t => Quiet s →
      get Reg.TRN.STS_OVERSIZE t = 0 ∧ get Reg.TRN.STS_COUNT t = count ∧ get Reg.TRN.STS_STATE t = 2 ∧
      (now s < frameMax.toNat → t.frm.adopt = some frameMax) := by
  have heff : ∃ a, (now s < frameMax.toNat → a = some frameMax) ∧
      cellIn (ring == .b) true (fun s => if isMaster s then enumReturns count frameMax.toNat ids s else
        enumPasses count frameMax.toNat ids (ring == .b) s) (begun s) = topoShow (liveFall 163
        (set Reg.TRN.STS_OVERSIZE 0 { enumCounted count ids (begun s) with frm := { s.frm with adopt := a } })) := by
    refine ⟨if now s < frameMax.toNat then some (BitVec.ofNat 48 frameMax.toNat) else s.frm.adopt, fun h => ?_,
      (cellIn_taken hr).trans ((if_pos hm).trans (if_neg (by omega)))⟩
    rw [if_pos h, BitVec.ofNat_toNat, BitVec.setWidth_eq]
  obtain ⟨a, ha, heff⟩ := heff
  refine .leavesWhen hs rfl heff fun hq => ?_
  obtain ⟨hcount, hnumber, hstate⟩ := enumCounted_shown count ids (begun s)
  replace hcount := (Changes.begin _ _ s).trans hcount
  generalize enumCounted count ids (begun s) = m at *
  have hset : Changes [.rng, .frm] (returnFields ++ Reg.TRN.STS_OVERSIZE :: fallFields 163) s
      (set Reg.TRN.STS_OVERSIZE 0 { m with frm := { s.frm with adopt := a } }) :=
    ((hcount.widen (by simp) (List.subset_append_left _ _)).in_frm _ (by simp)).set _ _ (by simp)
  have hover : get Reg.TRN.STS_OVERSIZE (set Reg.TRN.STS_OVERSIZE 0 { m with frm := { s.frm with adopt := a } }) = 0 :=
    get_set_same _ _ _
  have hother : ∀ f : Fld, f.key ≠ Reg.TRN.STS_OVERSIZE.key →
      get f (set Reg.TRN.STS_OVERSIZE 0 { m with frm := { s.frm with adopt := a } }) = get f m := fun f h =>
    get_set_other _ _ h
  have hfrm : (set Reg.TRN.STS_OVERSIZE 0 { m with frm := { s.frm with adopt := a } }).frm.adopt = a := rfl
  generalize set Reg.TRN.STS_OVERSIZE 0 { m with frm := { s.frm with adopt := a } } = v at *
  have hfall := changes_liveFall 163 v
  have hall := hset.trans (hfall.widen (by simp) fun f hf => List.mem_append_right _ (List.mem_cons_of_mem _ hf))
  obtain ⟨htopo, -⟩ := topoShow_shown (Quiet.after hall fall_sources hq)
  refine ⟨htopo.reqs.trans (hall.reqs.trans hs.2), fun t k => ?_⟩
  have hkept : ∀ f ∈ [Reg.TRN.STS_COUNT, Reg.TRN.STS_STATE, Reg.TRN.STS_OVERSIZE, Reg.EVT_STS 0xD0 4],
      get f t = get f v := fun f hf => by
    obtain ⟨h1, -, h3, h4⟩ := return_keys f hf
    rw [k.get f h1, htopo.regs f h4 h1, hfall.regs f h3 h1]
  refine ⟨(hkept _ (by simp)).trans hover, ?_, ?_, fun h => ?_⟩
  · rw [hkept _ (by simp), hother _ (by decide), hnumber]
    omega
  · rw [hkept _ (by simp), hother _ (by decide), hstate]
  · rw [k.frm, htopo.frm (by simp [raiseParts]), hfall.frm (by simp), hfrm, ha h]

end

/-! ### Breaks, departures and fences (R364, R366, R371) -/

/-- What a span's break or its healing sets before the topology is shown. -/
def spanNoted (index : Nat) (broken : Bool) (s : State) : State :=
  { s with rng := { s.rng with
      broken := if broken then addNat s.rng.broken index else s.rng.broken.filter (· != index) } }
    |> when broken (inc Reg.TRN.COUNTS_BREAKS) |> event 0xD0 (if broken then 1 else 3)

def spanFields : List Fld := [Reg.TRN.COUNTS_BREAKS, Reg.EVT_STS 0xD0 1, Reg.EVT_STS 0xD0 3]

theorem changes_spanNoted (index : Nat) (broken : Bool) (s : State) :
    Changes [.rng] spanFields s (spanNoted index broken s) := by
  refine Changes.event ?_ _ _ (by cases broken <;> simp [spanFields])
  exact ((Changes.refl [.rng] _ s).in_rng _ (by simp)).cond _ _ fun _ h => h.inc _ (by simp [spanFields])

theorem span_sources : ∀ f ∈ sourceCard 161 ++ sourceCard 162 ++ sourceCard 164,
    f.key ∉ spanFields.map Fld.key := by decide +kernel

theorem span_keys : ∀ f ∈ [Reg.TRN.COUNTS_BREAKS, Reg.EVT_STS 0xD0 1, Reg.EVT_STS 0xD0 3], f.key ∉ settleKeys ∧
    f.key ∉ topoFields.map Fld.key := by decide +kernel

theorem setSpan_new {index : Nat} {broken : Bool} {s : State} (h : s.rng.broken.contains index ≠ broken) :
    setSpan index broken s = topoShow (spanNoted index broken s) := if_neg h

theorem spanNoted_broken (index : Nat) (broken : Bool) (s : State) :
    (spanNoted index broken s).rng.broken =
      if broken then addNat s.rng.broken index else s.rng.broken.filter (· != index) := by
  cases broken <;> rfl

theorem spanNoted_contains (index : Nat) (broken : Bool) (s : State) :
    (spanNoted index broken s).rng.broken.contains index = broken := by
  rw [spanNoted_broken]
  cases broken
  case true => exact contains_addNat _ _
  case false => simp

theorem setSpan_shown (index : Nat) (broken : Bool) {s : State} (hq : Quiet s) :
    Changes (.rng :: raiseParts) (spanFields ++ topoFields) s (setSpan index broken s) ∧
    Sends s (setSpan index broken s) ∧ (setSpan index broken s).rng.broken.contains index = broken := by
  by_cases h : s.rng.broken.contains index = broken
  · rw [show setSpan index broken s = s from if_pos h]
    exact ⟨.refl _ _ _, .rfl, h⟩
  · rw [setSpan_new h]
    have hnote := changes_spanNoted index broken s
    obtain ⟨htopo, hsends⟩ := topoShow_shown (Quiet.after hnote span_sources hq)
    have hout : (spanNoted index broken s).out = s.out := by cases broken <;> rfl
    exact ⟨(hnote.widen (by simp) (List.subset_append_left _ _)).trans
      (htopo.widen (List.subset_cons_self _ _) (List.subset_append_right _ _)), (Sends.of_eq hout).trans hsends, by
        rw [htopo.rng (by simp [raiseParts]), spanNoted_contains]⟩

/-- An input loses or gains its lock: the span that leads to it breaks or heals, and BREAK goes out on the other ring.
-/
def spanTold (ringB broken : Bool) (s : State) : State :=
  let u := set (lockOf ringB) (b2n (!broken)) s
  if !u.rng.indexed then u
  else setSpan (spanOf ringB u) broken u |>
    when (ringInserts u) (sendCell (!ringB) (.break_ (spanOf ringB u) (!broken)))

theorem spanBreaks_eq {ringB : Bool} {s : State} (hr : ringOn s = true) : spanBreaks ringB s = spanTold ringB true s
    := by
  unfold spanBreaks
  rw [hr]
  rfl

theorem spanHeals_eq {ringB : Bool} {s : State} (hr : ringOn s = true) : spanHeals ringB s = spanTold ringB false s :=
    by
  unfold spanHeals
  rw [hr]
  rfl

theorem lock_shown (ringB : Bool) : (lockOf ringB).key ∉ settleKeys ∧
    (lockOf ringB).key ∉ (spanFields ++ topoFields).map Fld.key ∧ (lockOf ringB).w = 1 ∧
    (∀ f ∈ sourceCard 161 ++ sourceCard 162 ++ sourceCard 164, f.key ∉ [lockOf ringB].map Fld.key) ∧
    ∀ f ∈ [Reg.TRN.STS_COUNT, Reg.TRN.STS_INDEX, Reg.SYS.CAPS_RING, Reg.PDM.DOM_CTL_STATE 50,
      Reg.BLKSTS_ABORTING 0xD0], f.key ≠ (lockOf ringB).key := by
  revert ringB
  decide +kernel

/-- An input's lock is no part of the ring's layout. -/
theorem set_lock (ringB : Bool) (v : Nat) (s : State) : spanOf ringB (set (lockOf ringB) v s) = spanOf ringB s ∧
    ringInserts (set (lockOf ringB) v s) = ringInserts s ∧
    get Reg.TRN.STS_INDEX (set (lockOf ringB) v s) = get Reg.TRN.STS_INDEX s := by
  obtain ⟨-, -, -, -, hne⟩ := lock_shown ringB
  have hget : ∀ f ∈ [Reg.TRN.STS_COUNT, Reg.TRN.STS_INDEX, Reg.SYS.CAPS_RING, Reg.PDM.DOM_CTL_STATE 50,
      Reg.BLKSTS_ABORTING 0xD0], get f (set (lockOf ringB) v s) = get f s := fun f hf => get_set_other _ _ (hne f hf)
  refine ⟨?_, ?_, hget _ (by simp)⟩
  · unfold spanOf spanA spanB ringSize
    rw [hget _ (by simp), hget _ (by simp)]
  · unfold ringInserts ringOn domainOn isSet
    rw [hget _ (by simp), hget _ (by simp), hget _ (by simp)]
    rfl

section
variable {s : State} (hs : Ready s) (hr : ringOn s = true) (ring : Ring) (index : Nat)
include hs hr

theorem completes_break_noted {broken : Bool} (h : s.rng.broken.contains index ≠ broken) :
    Completes (.break_ index (!broken) ring true) s fun t => Quiet s →
      t.rng.broken = (if broken then addNat s.rng.broken index else s.rng.broken.filter (· != index)) ∧
      (broken = true → get Reg.TRN.COUNTS_BREAKS t = oneMore Reg.TRN.COUNTS_BREAKS s) ∧
      get (Reg.EVT_STS 0xD0 (if broken then 1 else 3)) t = 1 := by
  have heff : cellIn (ring == .b) true (setSpan index (!(!broken))) (begun s) =
      topoShow (spanNoted index broken (begun s)) := by
    rw [cellIn_taken hr, Bool.not_not]
    exact setSpan_new h
  refine .leavesWhen hs rfl heff fun hq => ?_
  have hnote := (Changes.begin _ _ s).trans (changes_spanNoted index broken (begun s))
  have hlist := spanNoted_broken index broken (begun s)
  have hcount : broken = true → get Reg.TRN.COUNTS_BREAKS (spanNoted index broken (begun s)) =
      oneMore Reg.TRN.COUNTS_BREAKS s := fun h => by
    subst h
    exact (get_set_other _ _ (by decide)).trans (get_inc_same _ _)
  have hevent : get (Reg.EVT_STS 0xD0 (if broken then 1 else 3)) (spanNoted index broken (begun s)) = 1 :=
    get_set_same _ _ _
  generalize spanNoted index broken (begun s) = v at *
  obtain ⟨htopo, -⟩ := topoShow_shown (Quiet.after hnote span_sources hq)
  have hmem : Reg.EVT_STS 0xD0 (if broken then 1 else 3) ∈ [Reg.TRN.COUNTS_BREAKS, Reg.EVT_STS 0xD0 1,
    Reg.EVT_STS 0xD0 3] := by cases broken <;> simp
  obtain ⟨c1, c2⟩ := span_keys _ (List.mem_cons_self ..)
  obtain ⟨e1, e2⟩ := span_keys _ hmem
  exact ⟨htopo.reqs.trans (hnote.reqs.trans hs.2), fun t k =>
    ⟨(congrArg Rng.broken (k.rng.trans (htopo.rng (by simp [raiseParts])))).trans hlist, fun h =>
      (k.get _ c1).trans ((htopo.regs _ c2 c1).trans (hcount h)), (k.get _ e1).trans
          ((htopo.regs _ e2 e1).trans hevent)⟩⟩

end

theorem completes_span {s : State} (hs : Ready s) {c : Instr} {f : State → State} (hc : exec c s = run f s)
    (ringB broken : Bool)
    (hf : f (begun s) = spanTold ringB broken (begun s)) :
    Completes c s fun t => Quiet s →
      get (lockOf ringB) t = b2n (!broken) ∧ (s.rng.indexed = true → t.rng.broken.contains (spanOf ringB s) = broken) ∧
      (s.rng.indexed = true → ringInserts s = true →
        onRing (!ringB) (.break_ (spanOf ringB s) (!broken)) s ⊆ t.out) := by
  obtain ⟨hl1, hl2, hl3, hl4, -⟩ := lock_shown ringB
  refine .leavesWhen hs hc hf fun hq => ?_
  have hlock : Changes [] [lockOf ringB] s (set (lockOf ringB) (b2n (!broken)) (begun s)) :=
    (Changes.begin _ _ s).set _ _ (by simp)
  have hget : get (lockOf ringB) (set (lockOf ringB) (b2n (!broken)) (begun s)) = b2n (!broken) := by
    rw [get_set_same, hl3]
    cases broken <;> rfl
  obtain ⟨hspan, hins, hindex⟩ := set_lock ringB (b2n (!broken)) (begun s)
  unfold spanTold
  dsimp only
  rw [hspan, hins]
  generalize set (lockOf ringB) (b2n (!broken)) (begun s) = v at *
  have hring := hlock.rng (by simp)
  split
  case isTrue h =>
    have hno : s.rng.indexed = false := by simpa [hring] using h
    exact ⟨hlock.reqs.trans hs.2, fun t k => ⟨(k.get _ hl1).trans hget, fun hi => by simp [hno] at hi,
      fun hi => by simp [hno] at hi⟩⟩
  case isFalse =>
    obtain ⟨hset, hsends, hcontains⟩ := setSpan_shown (spanOf ringB s) broken (Quiet.after hlock hl4 hq)
    have hplace : get Reg.TRN.STS_INDEX (setSpan (spanOf ringB s) broken v) = get Reg.TRN.STS_INDEX s :=
      (hset.regs _ (by decide +kernel) (by decide)).trans hindex
    change (when (ringInserts s) (sendCell (!ringB) (.break_ (spanOf ringB s) (!broken)))
      (setSpan (spanOf ringB s) broken v)).reqs = [] ∧ ∀ t, Keeps settleKeys (when (ringInserts s)
        (sendCell (!ringB) (.break_ (spanOf ringB s) (!broken))) (setSpan (spanOf ringB s) broken v)) t → _
    generalize setSpan (spanOf ringB s) broken v = w at *
    have hsend : Changes [] [] w (when (ringInserts s) (sendCell (!ringB) (.break_ (spanOf ringB s) (!broken))) w) :=
      (Changes.refl _ _ w).cond _ _ fun _ h => h.emit _
    have hsent : ringInserts s = true → ∀ o ∈ onRing (!ringB) (.break_ (spanOf ringB s) (!broken)) s,
        o ∈ (when (ringInserts s) (sendCell (!ringB) (.break_ (spanOf ringB s) (!broken))) w).out := fun h o ho => by
      rw [h, ← onRing_congr _ _ hplace] at *
      exact List.mem_append_right _ ho
    refine ⟨hsend.reqs.trans (hset.reqs.trans (hlock.reqs.trans hs.2)), fun t k => ⟨?_, fun _ => ?_, fun _ hi o ho =>
      k.sentLast (hsent hi o ho)⟩⟩
    · exact (k.get _ hl1).trans ((hsend.regs _ (by simp) hl1).trans ((hset.regs _ hl2 hl1).trans hget))
    · rw [k.rng, hsend.rng (by simp), hcontains]

theorem departed_key : Reg.DOM.STS_DEPARTED.key ∉ settleKeys ∧ Reg.DOM.STS_DEPARTED.key ∉ topoFields.map Fld.key ∧
    ∀ f ∈ sourceCard 161 ++ sourceCard 162 ++ sourceCard 164, f.key ∉ [Reg.DOM.STS_DEPARTED].map Fld.key := by
  decide +kernel

theorem completes_leave {s : State} (hs : Ready s) (hr : ringOn s = true) {id : BitVec 64} (hid : id ≠ s.pwr.serial) :
    Completes (.leave id true) s fun t => Quiet s →
      t.rng.departed = s.rng.departed.filter (· != id) ++ [id] ∧
      get Reg.DOM.STS_DEPARTED t = t.rng.departed.length % 512 := by
  obtain ⟨h1, h2, h3⟩ := departed_key
  have heff : cellIn false true (leaveCell id) (begun s) = topoShow (set Reg.DOM.STS_DEPARTED
      (s.rng.departed.filter (· != id) ++ [id]).length
      { begun s with rng := { s.rng with departed := s.rng.departed.filter (· != id) ++ [id] } }) :=
    (cellIn_taken hr).trans (if_neg hid)
  refine .leavesWhen hs rfl heff fun hq => ?_
  have hset : Changes [.rng] [Reg.DOM.STS_DEPARTED] s (set Reg.DOM.STS_DEPARTED
      (s.rng.departed.filter (· != id) ++ [id]).length
      { begun s with rng := { s.rng with departed := s.rng.departed.filter (· != id) ++ [id] } }) :=
    ((Changes.begin _ _ s).in_rng _ (by simp)).set _ _ (by simp)
  have hlist : (set Reg.DOM.STS_DEPARTED (s.rng.departed.filter (· != id) ++ [id]).length { begun s with
      rng := { s.rng with departed := s.rng.departed.filter (· != id) ++ [id] } }).rng.departed =
    s.rng.departed.filter (· != id) ++ [id] := rfl
  have hcount : get Reg.DOM.STS_DEPARTED (set Reg.DOM.STS_DEPARTED (s.rng.departed.filter (· != id) ++ [id]).length
      { begun s with rng := { s.rng with departed := s.rng.departed.filter (· != id) ++ [id] } }) =
    (s.rng.departed.filter (· != id) ++ [id]).length % 512 := get_set_same _ _ _
  generalize s.rng.departed.filter (· != id) ++ [id] = l at *
  generalize set Reg.DOM.STS_DEPARTED l.length _ = v at *
  obtain ⟨htopo, -⟩ := topoShow_shown (Quiet.after hset h3 hq)
  refine ⟨htopo.reqs.trans (hset.reqs.trans hs.2), fun t k => ?_⟩
  have hl : t.rng.departed = l :=
    (congrArg Rng.departed (k.rng.trans (htopo.rng (by simp [raiseParts])))).trans hlist
  exact ⟨hl, by rw [hl, k.get _ h1, htopo.regs _ h2 h1, hcount]⟩

/-- The state and the result of a context stand apart from those of every other. -/
theorem ctx_other {i j : Nat} (h : j ≠ i) (f : Fld) (hf : f ∈ [ctxSts i, ctxRes i]) :
    f.key ∉ [ctxSts j, ctxFrm j, ctxRes j].map Fld.key := by
  simp only [List.mem_cons, List.not_mem_nil, or_false] at hf
  rcases hf with rfl | rfl
  · simp only [List.map_cons, List.map_nil, List.mem_cons, List.not_mem_nil, or_false, not_or, Fld.key,
      Reg.TXC.CTX_STS_STATE, Reg.TXC.CTX_FRAME_FRAME, Reg.TXC.CTX_STS_RESULT]
    omega
  · simp only [List.map_cons, List.map_nil, List.mem_cons, List.not_mem_nil, or_false, not_or, Fld.key,
      Reg.TXC.CTX_STS_STATE, Reg.TXC.CTX_FRAME_FRAME, Reg.TXC.CTX_STS_RESULT]
    omega

theorem changes_discardRequest (g : Nat) (s : State) :
    Changes [.txn] ([ctxSts g, ctxFrm g, ctxRes g] ++ txnShown) s (discardRequest g s) :=
  (((Changes.refl [.txn] _ s).in_txn { s.txn with requests := s.txn.requests.filter (·.ctx != g) } (by simp)).trans
    ((changes_setCtxState g 1 _).widen (by simp) fun f hf => by
      simp only [List.mem_append, List.mem_cons, List.not_mem_nil, or_false] at hf ⊢; tauto)).set _ _ (by simp)

/-- A commit request that a fence discards. -/
theorem discardRequest_shown (g : Fin 64) (s : State) :
    ctxState g (discardRequest g s) = 1 ∧ get (ctxRes g) (discardRequest g s) = 6 :=
  ⟨(get_set_other _ _ (ctx_apart g 0 1 (by decide) (by decide) (by decide))).trans (get_setCtxState g 1 _).1,
    get_set_same _ _ _⟩

theorem discardRequest_requests (g : Nat) (s : State) :
    (discardRequest g s).txn.requests = s.txn.requests.filter (·.ctx != g) := rfl

/-- Of the requests that a fence discards none is left. -/
theorem discarded_gone {l : List Nat} {c : Nat} (hc : c ∈ l) (s : State) :
    ∀ r ∈ (forEach l discardRequest s).txn.requests, r.ctx ≠ c := by
  induction l generalizing s with
  | nil => simp at hc
  | cons j l ih =>
    rw [forEach_cons]
    rcases List.mem_cons.1 hc with rfl | hl
    · refine forEach_keeps (fun u : State => ∀ r ∈ u.txn.requests, r.ctx ≠ c) l _ _ (fun r hr => ?_)
        fun k _ u hu r hr => ?_
      · rw [discardRequest_requests] at hr
        simpa using (List.mem_filter.1 hr).2
      · rw [discardRequest_requests] at hr
        exact hu r (List.mem_of_mem_filter hr)
    · exact ih hl _

/-- The fields that a FENCE cell tells. -/
def fenceCellFields : List Fld := [Reg.DOM.LAST_FENCE_INDEX, Reg.DOM.LAST_FENCE_FRAME_FRAME, Reg.EVT_STS 0xD1 1]

/-- A FENCE cell is told of. -/
def fenceTold (src frame : Nat) (s : State) : State :=
  { s with rng := { s.rng with fences := addNat s.rng.fences frame } }
    |> set Reg.DOM.LAST_FENCE_INDEX src |> set Reg.DOM.LAST_FENCE_FRAME_FRAME frame |> event 0xD1 1

theorem fenceTold_shown (src frame : Nat) (s : State) :
    Changes [.rng] fenceCellFields s (fenceTold src frame s) ∧ frame ∈ (fenceTold src frame s).rng.fences ∧
    get Reg.DOM.LAST_FENCE_INDEX (fenceTold src frame s) = src % 512 ∧
    get Reg.DOM.LAST_FENCE_FRAME_FRAME (fenceTold src frame s) = frame % 2 ^ 32 ∧
    get (Reg.EVT_STS 0xD1 1) (fenceTold src frame s) = 1 :=
  ⟨((((Changes.refl [.rng] _ s).in_rng _ (by simp)).set _ _ (by simp [fenceCellFields])).set _ _
      (by simp [fenceCellFields])).event _ _ (by simp [fenceCellFields]), mem_addNat_self _ _,
    (get_set_other _ _ (by decide)).trans ((get_set_other _ _ (by decide)).trans (get_set_same _ _ _)),
    (get_set_other _ _ (by decide)).trans (get_set_same _ _ _), get_set_same _ _ _⟩

theorem fence_settle : ∀ f ∈ fenceCellFields, f.key ∉ settleKeys := by decide +kernel

theorem fence_kept (g : Nat) : ∀ f ∈ fenceCellFields,
    f.key ∉ ([ctxSts g, ctxFrm g, ctxRes g] ++ txnShown).map Fld.key := by
  have hshown : ∀ f ∈ fenceCellFields, f.key ∉ txnShown.map Fld.key ∧ f.key % 131072 < 12288 := by decide +kernel
  intro f hf
  obtain ⟨h1, h2⟩ := hshown f hf
  rw [List.map_append, List.mem_append, not_or]
  refine ⟨?_, h1⟩
  simp only [List.map_cons, List.map_nil, List.mem_cons, List.not_mem_nil, or_false, not_or, Fld.key,
    Reg.TXC.CTX_STS_STATE, Reg.TXC.CTX_FRAME_FRAME, Reg.TXC.CTX_STS_RESULT] at h2 ⊢
  omega

/-- Each of the requests that a fence discards has its result. -/
theorem discarded_shown {l : List Nat} {c : Fin 64} (hc : c.val ∈ l) (s : State) :
    ctxState c (forEach l discardRequest s) = 1 ∧ get (ctxRes c) (forEach l discardRequest s) = 6 := by
  obtain ⟨hk, -⟩ := ctx_keys c
  have hother : ∀ f ∈ [ctxSts c, ctxRes c], ∀ j, j ≠ c.val → ∀ u, get f (discardRequest j u) = get f u := by
    intro f hf j hj u
    have hown : f ∈ ctxOwn c := by
      simp only [List.mem_cons, List.not_mem_nil, or_false] at hf
      rcases hf with rfl | rfl <;> simp [ctxOwn]
    obtain ⟨h1, h2⟩ := hk f hown
    rw [useShown, List.map_append, List.mem_append, not_or] at h2
    refine (changes_discardRequest j u).regs f ?_ h1
    rw [List.map_append, List.mem_append, not_or]
    exact ⟨ctx_other hj f hf, h2.1⟩
  exact ⟨get_forEach_of_mem discardRequest (fun u => (discardRequest_shown c u).1) (hother _ (by simp)) hc s,
    get_forEach_of_mem discardRequest (fun u => (discardRequest_shown c u).2) (hother _ (by simp)) hc s⟩

theorem completes_fenceCell {s : State} (hs : Ready s) (hr : ringOn s = true) {src : Nat} {frame : Frame}
    (hsrc : src ≠ get Reg.TRN.STS_INDEX s ∨ s.rng.indexed = false) :
    Completes (.fenceCell src frame true) s fun t =>
      frame.toNat ∈ t.rng.fences ∧ get Reg.DOM.LAST_FENCE_INDEX t = src % 512 ∧
      get Reg.DOM.LAST_FENCE_FRAME_FRAME t = frame.toNat % 2 ^ 32 ∧ get (Reg.EVT_STS 0xD1 1) t = 1 ∧
      ((∀ r ∈ s.txn.requests, r.ctx < 64) →
        ∀ c ∈ fencedRequests frame.toNat s, ctxState c t = 1 ∧ get (ctxRes c) t = 6 ∧
          ∀ r ∈ t.txn.requests, r.ctx ≠ c) := by
  have heff : cellIn false true (fenceCell src frame.toNat) (begun s) =
      forEach (fencedRequests frame.toNat s) discardRequest (fenceTold src frame.toNat (begun s)) :=
    (cellIn_taken hr).trans (if_neg (by
      show ¬ (decide (src = get Reg.TRN.STS_INDEX s) && s.rng.indexed) = true
      rcases hsrc with k | k <;> simp [k]))
  obtain ⟨htold, hmem, k1, k2, k3⟩ := fenceTold_shown src frame.toNat (begun s)
  generalize fenceTold src frame.toNat (begun s) = v at *
  have hdone : ∀ c ∈ fencedRequests frame.toNat s, _ := fun c hc => discarded_gone hc v
  have hlist : ∀ c : Fin 64, c.val ∈ fencedRequests frame.toNat s → _ := fun c hc => discarded_shown hc v
  have hkept : ∀ f ∈ fenceCellFields, get f (forEach (fencedRequests frame.toNat s) discardRequest v) = get f v :=
    fun f hf => forEach_keeps (fun u => get f u = get f v) _ _ _ rfl fun g _ u hu =>
      ((changes_discardRequest g u).regs f (fence_kept g f hf) (fence_settle f hf)).trans hu
  have hrest : (forEach (fencedRequests frame.toNat s) discardRequest v).rng = v.rng ∧
      (forEach (fencedRequests frame.toNat s) discardRequest v).reqs = v.reqs :=
    forEach_keeps (fun u : State => u.rng = v.rng ∧ u.reqs = v.reqs) _ _ _ ⟨rfl, rfl⟩ fun g _ u hu =>
      ⟨((changes_discardRequest g u).rng (by simp)).trans hu.1, (changes_discardRequest g u).reqs.trans hu.2⟩
  obtain ⟨hrng, hreqs⟩ := hrest
  refine .leaves hs rfl heff (hreqs.trans (htold.reqs.trans hs.2)) fun t k => ?_
  have hshown : ∀ f ∈ fenceCellFields, get f t = get f v := fun f hf => (k.get f (fence_settle f hf)).trans (hkept f hf)
  refine ⟨?_, (hshown _ (by simp [fenceCellFields])).trans k1, (hshown _ (by simp [fenceCellFields])).trans k2,
    (hshown _ (by simp [fenceCellFields])).trans k3, fun hctx c hc => ?_⟩
  · rw [k.rng, hrng]
    exact hmem
  · have hlt : c < 64 := by
      obtain ⟨r, hr, rfl⟩ := List.mem_map.1 hc
      exact hctx r (List.mem_of_mem_filter hr)
    obtain ⟨d1, d2⟩ := hlist ⟨c, hlt⟩ hc
    obtain ⟨hk, -⟩ := ctx_keys ⟨c, hlt⟩
    refine ⟨(k.get _ (hk _ (by simp [ctxOwn])).1).trans d1, (k.get _ (hk _ (by simp [ctxOwn])).1).trans d2, ?_⟩
    rw [k.txn]
    exact hdone c hc

/-- Settles O44, cell by cell and span by span. -/
theorem ringCommands : Obligations.RingCommands := by
  intro s hs hr ring ringB quiet
  refine ⟨?_, fun frame phaseErr delay spanDelay partitioned quorum =>
      ⟨completes_sync_member hs hr ring frame phaseErr delay spanDelay partitioned quorum,
        completes_sync_master hs hr ring frame phaseErr delay spanDelay partitioned quorum⟩,
    completes_electing hs, fun id => ⟨fun he => completes_claim_lower hs hr he id,
      fun he => completes_claim_double hs hr he id, fun dup he => completes_claim_noted hs hr he id dup⟩,
    completes_elected hs, completes_enum_member hs hr ring, fun count frameMax ids hm =>
      ⟨completes_enum_oversize hs hr ring count frameMax ids hm,
        completes_enum_returned hs hr ring count frameMax ids hm⟩, fun index => ⟨fun h => ?_, fun h => ?_⟩, ?_, ?_,
    fun id => completes_leave hs hr, fun src frame => completes_fenceCell hs hr⟩
  · rintro c (⟨f, p, d, pt, q, sp, rfl⟩ | ⟨n, m, i, rfl⟩ | ⟨n, h, rfl⟩ | ⟨rfl, ⟨i, d, rfl⟩ | ⟨i, rfl⟩ | ⟨n, f, rfl⟩⟩)
    · exact completes_badCell hs hr rfl
    · exact completes_badCell hs hr rfl
    · exact completes_badCell hs hr rfl
    · exact completes_badCell hs hr (ringB := false) rfl
    · exact completes_badCell hs hr (ringB := false) rfl
    · exact completes_badCell hs hr (ringB := false) rfl
  · refine (completes_break_noted hs hr ring index (broken := true) (by simpa using h)).mono fun t k hq => ?_
    obtain ⟨hb, hc, he⟩ := k hq
    exact ⟨by rw [hb]; exact mem_addNat_self _ _, hc rfl, he⟩
  · refine (completes_break_noted hs hr ring index (broken := false) (by simpa using h)).mono fun t k hq => ?_
    obtain ⟨hb, -, he⟩ := k hq
    exact ⟨hb, he⟩
  · refine (completes_span hs (c := .spanBroken ring) rfl ringB true (spanBreaks_eq hr)).mono fun t k hq => ?_
    obtain ⟨hl, hb, ho⟩ := k hq
    exact ⟨hl, fun hi => by simpa using hb hi, ho⟩
  · refine (completes_span hs (c := .spanHealed ring) rfl ringB false (spanHeals_eq hr)).mono fun t k hq => ?_
    obtain ⟨hl, hb, ho⟩ := k hq
    exact ⟨hl, fun hi => by simpa using hb hi, ho⟩

end Sys2Proof.Machine
end

section
/-! SUPPORT. The fence cycle of a trigger, where no request waits in a port (R278). -/

namespace Sys2Proof.Machine
set_option Elab.async false

/-! ### The fields of the fence cycle -/

/-- What a fence cycle records of itself. -/
def fenceMarks : List Fld :=
  [Reg.SAV.LAST_TRIG_TRIGGER, Reg.SAV.LAST_TRIG_OUTCOME, Reg.SAV.LAST_TRIG_OK_AT_FENCE, Reg.SAV.LAST_TRIG_PRESEAL,
    Reg.SAV.LAST_FRAME_FRAME]

def thawFields : List Fld := allPages.flatMap fun p => [Reg.BLKCTL_FREEZE p, Reg.BLKSTS_FROZEN p]

/-- What the gauge and the Lehr show when they stop. -/
def restFields : List Fld :=
  [Reg.LEH.THROTTLE_ACTIVE, Reg.LEH.THROTTLE_WITHHELD, Reg.ENG.CAP_TEST_RUNNING, Reg.ENG.EXERCISE_ACTIVE,
    Reg.ENG.EXERCISE_RESULT, Reg.ENG.STATE_BAT, Reg.EVT_STS 0x80 7, Reg.ENG.STATE_CHG_ON]

/-- The fields of every context that a discarded request moves. -/
def discardFields : List Fld := allCtx.flatMap (fun g => [ctxSts g, ctxFrm g, ctxRes g]) ++ txnShown

/-- The fields of the domain's own fence. -/
def domainFenceFields : List Fld :=
  Reg.DOM.COORD_ABORTS :: Reg.SYS.PERSIST_DOMAIN_OK :: Reg.DOM.STS_DOMAIN_OK :: logFields

def portFenceFields : List Fld := [0, 1, 2, 3].map fun n => Reg.HPT.STS_FENCED n

/-- The fields that a fence cycle may change between its record and the fence itself. -/
def stopFields : List Fld :=
  thawFields ++ (restFields ++ (discardFields ++ (entryFields ++ (domainFenceFields ++
    (portFenceFields ++ [Reg.UPD.DL_ACTIVE])))))

/-- The parts that a fence cycle may change, beside SAV, the ports and the ring. -/
def stopParts : List Part := [.eng, .pwr, .txn, .mrv, .nand, .twn, .upd]

theorem thaw_stop {f : Fld} (h : f ∈ thawFields) : f ∈ stopFields := List.mem_append_left _ h
theorem rest_stop {f : Fld} (h : f ∈ restFields) : f ∈ stopFields :=
  List.mem_append_right _ (List.mem_append_left _ h)
theorem discard_stop {f : Fld} (h : f ∈ discardFields) : f ∈ stopFields :=
  List.mem_append_right _ (List.mem_append_right _ (List.mem_append_left _ h))
theorem entry_stop {f : Fld} (h : f ∈ entryFields) : f ∈ stopFields :=
  List.mem_append_right _ (List.mem_append_right _ (List.mem_append_right _ (List.mem_append_left _ h)))
theorem domain_stop {f : Fld} (h : f ∈ domainFenceFields) : f ∈ stopFields :=
  List.mem_append_right _ (List.mem_append_right _ (List.mem_append_right _ (List.mem_append_right _
    (List.mem_append_left _ h))))
theorem port_stop {f : Fld} (h : f ∈ portFenceFields ++ [Reg.UPD.DL_ACTIVE]) : f ∈ stopFields :=
  List.mem_append_right _ (List.mem_append_right _ (List.mem_append_right _ (List.mem_append_right _
    (List.mem_append_right _ h))))

/-! ### Its operations -/

theorem changes_thawAll (s : State) : Changes [] thawFields s (thawAll s) :=
  (Changes.refl [] thawFields s).each _ _ fun _ hp _ hu =>
    (hu.set _ _ (List.mem_map_of_mem (List.mem_flatMap.2 ⟨_, hp, by simp⟩))).set _ _
      (List.mem_map_of_mem (List.mem_flatMap.2 ⟨_, hp, by simp⟩))

theorem changes_endCapTest (s : State) : Changes [.eng, .pwr] restFields s (endCapTest s) :=
  (((Changes.refl [.eng, .pwr] restFields s).in_eng { s.eng with capTest := none } (by simp)).in_pwr
    { s.pwr with testLoad := false } (by simp)).set _ _ (by simp [restFields])

theorem changes_discardPending (s : State) : Changes [.txn] discardFields s (discardPending s) := by
  refine (Changes.refl [.txn] discardFields s).each _ _ fun g hg u hu => hu.trans ?_
  refine (changes_discardRequest g u).widen (fun _ h => h) fun f hf => ?_
  rcases List.mem_append.1 hf with h | h
  · exact List.mem_append_left _ (List.mem_flatMap.2 ⟨g, List.mem_of_mem_filter hg, h⟩)
  · exact List.mem_append_right _ h

theorem changes_abandonAll (s : State) : Changes [.nand, .mrv] entryFields s (abandonAll s) := by
  obtain ⟨hall, -⟩ := abandonSeals_shown (s.nand.sealing.map (·.granule)) s
  unfold abandonAll unsealAll
  dsimp only
  generalize forEach (s.nand.sealing.map (·.granule)) abandonSeal s = u at *
  exact (hall.in_nand { u.nand with sealing := [] } (by simp)).in_mrv { u.mrv with entries := _ } (by simp)

theorem changes_dropOp (ch die : Nat) (kind : DieOpKind) (what : Nat) (s : State) :
    Changes [.nand] [] s (dropOp ch die kind what s) :=
  ((Changes.refl [.nand] [] s).cond _ _ fun _ h => h.emit _).trans (endOp_dieOps ch die kind what _).changes

theorem changes_dropMoves (s : State) : Changes [.nand] [] s (dropMoves s) := by
  refine ((Changes.refl [.nand] [] s).in_nand { s.nand with moving := [] } (by simp)).each _ _ fun r _ u hu => ?_
  have hdrop : Changes [.nand] [] s (dropOp r.loc.ch r.loc.die .program r.granule
      (unqueue r.loc.ch (granPages u) u)) := (hu.in_nand _ (by simp)).trans (changes_dropOp _ _ _ _ _)
  dsimp only
  split
  · exact hdrop.trans (changes_dropOp _ _ _ _ _)
  · exact hdrop

theorem changes_setTwinDirty (g : Nat) (s : State) : Changes [.mrv] entryFields s (setTwinDirty g s) :=
  .branch _ (changes_putEntry _ _ _) (.refl _ _ _)

theorem changes_stopMirroring (s : State) : Changes [.twn, .mrv] entryFields s (stopMirroring s) := by
  have hdirty : ∀ g u, Changes [.twn, .mrv] entryFields u (setTwinDirty g u) := fun g u =>
    (changes_setTwinDirty g u).widen (by simp) fun _ h => h
  have hstop := (Changes.refl [.twn, .mrv] entryFields s).in_twn
    { s.twn with outstanding := [], stalled := [], holdFrames := 0, prepares := [], copyWaits := [] } (by simp)
  exact ((hstop.each s.twn.outstanding (fun m => setTwinDirty (granuleOf m.line s)) fun m _ u hu =>
    hu.trans (hdirty _ u)).each s.twn.copying setTwinDirty fun g _ u hu => hu.trans (hdirty g u)).in_twn _ (by simp)

/-! ### What it sends -/

theorem forEach_sends {α : Type} (l : List α) (f : α → State → State) (h : ∀ a u, Sends u (f a u)) (s : State) :
    Sends s (forEach l f s) := forEach_keeps (Sends s) l f s .rfl fun a _ u hu => hu.trans (h a u)

theorem when_sends (c : Bool) (f : State → State) (h : ∀ u, Sends u (f u)) (s : State) : Sends s (when c f s) :=
  when_keeps (Sends s) c f s .rfl fun _ => h s

theorem follow_out (f : Fld) (a b : Bool) (s : State) : (follow f a b s).out = s.out := by
  unfold follow
  split
  · rfl
  · split <;> rfl

theorem putEntry_out (g : Nat) (e : Entry) (s : State) : (putEntry g e s).out = s.out := by
  have hplace : (placeEntry g e s).out = s.out := by
    unfold placeEntry
    exact (follow_out _ _ _ _).trans ((follow_out _ _ _ _).trans ((follow_out _ _ _ _).trans rfl))
  have hcount := (follow_out Reg.MRV.DIRTY_COUNT ((entryOf g s).state != .clean) (e.state != .clean)
    (placeEntry g e s)).trans hplace
  unfold putEntry accumFollow
  dsimp only
  split
  · exact hcount
  · exact hcount

theorem setTwinDirty_sends (g : Nat) (s : State) : Sends s (setTwinDirty g s) := by
  unfold setTwinDirty
  split
  · exact .of_eq (putEntry_out _ _ _)
  · exact .rfl

theorem stopMirroring_sends (s : State) : Sends s (stopMirroring s) := by
  have hfirst := forEach_sends s.twn.outstanding (fun m => setTwinDirty (granuleOf m.line s))
    (fun m u => setTwinDirty_sends _ u)
    { s with twn := { s.twn with outstanding := [], stalled := [], holdFrames := 0, prepares := [], copyWaits := [] } }
  exact (Sends.of_eq (s := s) rfl).trans (hfirst.trans ((forEach_sends s.twn.copying setTwinDirty
    setTwinDirty_sends _).trans (.of_eq rfl)))

/-! ### The fence on the ring (R371) -/

theorem changes_domainFence (s : State) : Changes [.rng, .txn] domainFenceFields s (domainFence s) := by
  unfold domainFence
  refine .branch _ (.refl _ _ s) ?_
  refine Changes.set (Changes.set (Changes.in_rng (Changes.each ?_ _ _ fun b _ u hu => ?_) _ (by simp)) _ _
    (by simp [domainFenceFields])) _ _ (by simp [domainFenceFields])
  · exact (changes_sendBoth _ s).widen (by simp) (by simp)
  · refine Changes.inc ?_ _ (by simp [domainFenceFields])
    exact hu.trans ((((changes_logDecision _ u).widen (by simp) fun _ h => List.mem_cons_of_mem _
      (List.mem_cons_of_mem _ (List.mem_cons_of_mem _ h))).trans
      ((changes_recordFor _ _ _ _).widen (by simp) (by simp))).trans ((changes_sendBoth _ _).widen (by simp) (by simp)))

/-- A member's FENCE goes out first. -/
theorem domainFence_sent {s : State} (h : ringMember s = true) : Sends (sendBoth (.fence (now s)) s)
    (domainFence s) := by
  unfold domainFence
  rw [h]
  refine (forEach_sends (s.rng.ballots.filter (fun b => !b.decided)) _ (fun b u => ?_) _).trans (.of_eq rfl)
  refine Sends.trans (t := logDecision { tag := b.tag, coord := ownId u, frame := b.frame, kind := .abort } u)
    (.of_eq (logDecision_out _ _)) ?_
  exact (sends_emit _ _).trans ((sends_emit _ _).trans (.of_eq rfl))

theorem domainFence_sends (s : State) : Sends s (domainFence s) := by
  cases h : ringMember s
  · unfold domainFence
    rw [h]
    exact .rfl
  · exact ((sends_emit _ _).trans (sends_emit _ _)).trans (domainFence_sent h)

/-! ### The ports' fence (R112) -/

theorem portsFence_shown {s : State} (h : s.hp.stalled = []) :
    Changes [.hp] portFenceFields s (portsFence s) ∧ Sends s (portsFence s) ∧ (portsFence s).hp.writes = [] := by
  unfold portsFence
  dsimp only
  rw [h]
  simp only [List.filter_nil, List.map_nil, List.append_nil]
  have hclear := (Changes.refl [.hp] portFenceFields s).in_hp
    { s.hp with stalled := [], writes := [], credits := [0, 0, 0, 0], reads := s.hp.reads } (by simp)
  have hout : Sends s { s with hp := { s.hp with stalled := [], writes := [], credits := [0, 0, 0, 0],
                                                 reads := s.hp.reads } } := .of_eq rfl
  have hnone : ({ s with hp := { s.hp with stalled := [], writes := [], credits := [0, 0, 0, 0],
                                           reads := s.hp.reads } } : State).hp.writes = [] := rfl
  generalize ({ s with hp := { s.hp with stalled := [], writes := [], credits := [0, 0, 0, 0],
                                         reads := s.hp.reads } } : State) = u at *
  refine ⟨?_, ?_, ?_⟩
  · refine Changes.each (Changes.each hclear _ _ fun n _ v hv => hv.emit _) _ _ fun n hn v hv => ?_
    exact hv.cond _ _ fun _ hw => hw.set _ _ (List.mem_map_of_mem (List.mem_map_of_mem hn))
  · refine hout.trans (.trans (forEach_sends _ _ (fun n v => sends_emit _ v) u) (forEach_sends _ _ (fun n v => ?_) _))
    exact when_sends _ (set (Reg.HPT.STS_FENCED n) 1) (fun _ => .of_eq rfl) v
  · refine forEach_keeps (fun v : State => v.hp.writes = []) _ _ _ ?_ fun n _ v hv => ?_
    · exact forEach_keeps (fun v : State => v.hp.writes = []) _ _ _ hnone fun n _ v hv => hv
    · exact when_keeps (fun v : State => v.hp.writes = []) _ _ _ hv fun hw => hw

/-! ### The cycle -/

/-- What a fence cycle records of itself (R278). -/
def fenceMarked (k : Nat) (s : State) : State :=
  { s with hp := { s.hp with outageCounted := false } }
    |> setSavs (fun v => { v with
          t0 := now s, rtcFence := s.pwr.rtc, decided := 0, rideStart := 0, drained := false,
          rode := false, missed := 0, resetFence := k == 4, sealed := 0, dirty := 0, manifestDone := false,
          waitingActs := [], deferredReset := false, warmStep := 0, incomplete := false, residueOnce := [],
          residueLost := [] })
    |> set Reg.SAV.LAST_TRIG_TRIGGER 0 |> triggerBit k
    |> savOutcome 0 |> put1 Reg.SAV.LAST_TRIG_OK_AT_FENCE (persistReasons s == 0) |> set Reg.SAV.LAST_TRIG_PRESEAL 0
    |> set Reg.SAV.LAST_FRAME_FRAME (now s)

/-- Every page thaws, and neither the throttle nor the charger runs (R91, R278). -/
def pagesThawed (s : State) : State :=
  thawAll s |> set Reg.LEH.THROTTLE_ACTIVE 0 |> set Reg.LEH.THROTTLE_WITHHELD 0
    |> (fun s => { s with eng := { s.eng with chargerHeld := true } })

/-- The gauge's tests stop (R278). -/
def gaugeStopped (test : Bool) (s : State) : State :=
  pagesThawed s |> when test endCapTest |> endExercise 6 |> chargeShow

/-- Requests, seals and moves stop (R179, R278). -/
def sealsStopped (s : State) : State :=
  s |> discardPending |> abandonAll |> dropMoves
    |> (fun s => { s with nand := { s.nand with checkpoint := none, queued := [] } })

/-- The twin is told of the fence, and mirroring stops (R340). -/
def twinTold (told : Bool) (s : State) : State :=
  when told (fun s => s |> when (twinAttached s) (sendTwin "FENCE" [now s]) |> stopMirroring) s

/-- The fence itself. -/
def fenceSet (ok : Bool) (s : State) : State :=
  s |> set Reg.SYS.PERSIST_FENCED 1 |> setSav 2 |> event 0x42 0 |> mediaAll |> when (!ok) countDirtyShutdown

theorem fence_eq (k : Nat) (s : State) : fence k s = fenceSet (persistReasons s == 0) (endTransfer
    ((fun s => { s with rng := { s.rng with logClosed := false } }) (portsFence (domainFence
      (twinTold (paired s && !fenced s) (sealsStopped (gaugeStopped s.eng.capTest.isSome (fenceMarked k s)))))))) := by
  unfold fence fenceSet twinTold sealsStopped gaugeStopped pagesThawed fenceMarked
  rfl

theorem changes_fenceMarked (k : Nat) (s : State) : Changes [.hp, .sav] fenceMarks s (fenceMarked k s) := by
  have hparts : ∀ x, Changes [.hp, .sav] fenceMarks s { s with hp := { s.hp with outageCounted := false }, sav := x } :=
    fun x => ((Changes.refl [.hp, .sav] fenceMarks s).in_hp { s.hp with outageCounted := false } (by simp)).in_sav x
      (by simp)
  exact ((((((hparts _).set _ _ (by simp [fenceMarks])).set _ _ (by simp [fenceMarks])).set _ _
    (by simp [fenceMarks])).put1 _ _ (by simp [fenceMarks])).set _ _ (by simp [fenceMarks])).set _ _
    (by simp [fenceMarks])

/-- The record of a fence cycle. -/
theorem fenceMarked_shown {k : Nat} (hk : k < 8) (s : State) :
    get Reg.SAV.LAST_TRIG_TRIGGER (fenceMarked k s) = 2 ^ k ∧ get Reg.SAV.LAST_TRIG_OUTCOME (fenceMarked k s) = 0 ∧
    get Reg.SAV.LAST_TRIG_OK_AT_FENCE (fenceMarked k s) = b2n (persistReasons s == 0) ∧
    get Reg.SAV.LAST_FRAME_FRAME (fenceMarked k s) = now32 s ∧ (fenceMarked k s).sav.t0 = now s ∧
    (fenceMarked k s).sav.resetFence = (k == 4) := by
  refine ⟨?_, ?_, ?_, ?_, rfl, rfl⟩
  · simp (disch := decide) only [fenceMarked, triggerBit, savOutcome, put1, get_set_other, get_set_same]
    have hone : ∀ j : Fin 8, Nat.lor (0 % 2 ^ Reg.SAV.LAST_TRIG_TRIGGER.w) (2 ^ j.val) %
      2 ^ Reg.SAV.LAST_TRIG_TRIGGER.w = 2 ^ j.val := by decide
    exact hone ⟨k, hk⟩
  · simp (disch := decide) only [fenceMarked, triggerBit, savOutcome, put1, get_set_other, get_set_same]
    rfl
  · simp (disch := decide) only [fenceMarked, triggerBit, savOutcome, put1, get_set_other, get_set_same]
    cases persistReasons s == 0 <;> rfl
  · exact get_set_same _ _ _

theorem changes_pagesThawed (s : State) : Changes stopParts stopFields s (pagesThawed s) := by
  have hrest : ∀ f ∈ restFields, f.key ∈ stopFields.map Fld.key := fun f hf => List.mem_map_of_mem (rest_stop hf)
  have hthaw : Changes stopParts stopFields s (thawAll s) :=
    (changes_thawAll s).widen (by decide) fun _ h => thaw_stop h
  exact ((hthaw.set Reg.LEH.THROTTLE_ACTIVE 0 (hrest _ (by simp [restFields]))).set Reg.LEH.THROTTLE_WITHHELD 0
    (hrest _ (by simp [restFields]))).in_eng _ (by decide)

theorem changes_gaugeStopped (test : Bool) (s : State) : Changes stopParts stopFields s (gaugeStopped test s) := by
  have hthaw := changes_pagesThawed s
  unfold gaugeStopped
  generalize pagesThawed s = u at *
  have htest := hthaw.trans (when_keeps (Changes stopParts stopFields u) test endCapTest u (.refl _ _ u) fun _ =>
    (changes_endCapTest u).widen (by decide) fun _ h => rest_stop h)
  generalize when test endCapTest u = v at *
  have hexercise : Changes stopParts restFields v (endExercise 6 v) :=
    (changes_endExercise 6 v).widen (by decide) (by simp [restFields])
  generalize endExercise 6 v = w at *
  have hcharge : Changes stopParts restFields w (chargeShow w) :=
    (changes_chargeShow w).widen (by decide) (by simp [restFields])
  exact htest.trans ((hexercise.trans hcharge).widen (fun _ h => h) fun _ h => rest_stop h)

theorem sealsStopped_shown (s : State) :
    Changes stopParts stopFields s (sealsStopped s) ∧ (sealsStopped s).nand.checkpoint = none := by
  have hseals := ((changes_discardPending s).widen (by decide) fun _ h => discard_stop h).trans
    ((changes_abandonAll _).widen (qs := stopParts) (by decide) fun _ h => entry_stop h)
  have hmoves := hseals.trans ((changes_dropMoves _).widen (gs := stopFields) (by decide) (by simp))
  unfold sealsStopped
  generalize dropMoves (abandonAll (discardPending s)) = w at *
  exact ⟨hmoves.in_nand { w.nand with checkpoint := none, queued := [] } (by decide), rfl⟩

theorem changes_twinTold (told : Bool) (s : State) : Changes [.twn, .mrv] stopFields s (twinTold told s) := by
  refine (Changes.refl [.twn, .mrv] stopFields s).cond _ _ fun u hu => ?_
  exact (hu.cond _ _ fun _ hv => hv.emit _).trans ((changes_stopMirroring _).widen (fun _ h => h)
    fun _ h => entry_stop h)

theorem changes_endTransfer (s : State) : Changes [.upd] [Reg.UPD.DL_ACTIVE] s (endTransfer s) :=
  .branch _ (.refl _ _ s) ((((Changes.refl [.upd] [Reg.UPD.DL_ACTIVE] s).in_upd _ (by simp)).set _ _
    (by simp)).emit _)

theorem endTransfer_sends (s : State) : Sends s (endTransfer s) := by
  unfold endTransfer
  split
  · exact .rfl
  · exact (Sends.of_eq rfl).trans (sends_emit _ _)

/-- The fence's own fields. -/
def fenceOwn : List Fld :=
  [Reg.SYS.PERSIST_FENCED, Reg.SAV.STS_STATE, Reg.EVT_STS 0x42 0] ++ [0, 1, 2, 3].map fun n => Reg.HPT.STS_MEDIA n

theorem changes_mediaAll (s : State) : Changes [] ([0, 1, 2, 3].map fun n => Reg.HPT.STS_MEDIA n) s (mediaAll s) :=
  (Changes.refl [] _ s).each _ _ fun _ hn _ hu => hu.cond _ _ fun _ hv =>
    hv.set _ _ (List.mem_map_of_mem (List.mem_map_of_mem hn))

theorem mediaAll_out (s : State) : (mediaAll s).out = s.out :=
  forEach_out _ _ _ fun n _ => when_out _ (mediaShow n) _ fun _ => rfl

/-- The fence is set. -/
theorem fenceSet_shown (ok : Bool) (s : State) :
    Changes [.hp] fenceOwn s (fenceSet ok s) ∧ get Reg.SYS.PERSIST_FENCED (fenceSet ok s) = 1 ∧
    savState (fenceSet ok s) = 2 ∧ get (Reg.EVT_STS 0x42 0) (fenceSet ok s) = 1 ∧
    (fenceSet ok s).hp.writes = s.hp.writes ∧ (fenceSet ok s).out = s.out := by
  have hset : Changes [.hp] fenceOwn s (event 0x42 0 (setSav 2 (set Reg.SYS.PERSIST_FENCED 1 s))) :=
    (((Changes.refl [.hp] _ s).set _ _ (by simp [fenceOwn])).set _ _ (by simp [fenceOwn])).event _ _
      (by simp [fenceOwn])
  have h1 : get Reg.SYS.PERSIST_FENCED (event 0x42 0 (setSav 2 (set Reg.SYS.PERSIST_FENCED 1 s))) = 1 :=
    (get_set_other _ _ (by decide)).trans ((get_set_other _ _ (by decide)).trans (get_set_same _ _ _))
  have h2 : savState (event 0x42 0 (setSav 2 (set Reg.SYS.PERSIST_FENCED 1 s))) = 2 :=
    (get_set_other _ _ (by decide)).trans (get_set_same _ _ _)
  have h3 : get (Reg.EVT_STS 0x42 0) (event 0x42 0 (setSav 2 (set Reg.SYS.PERSIST_FENCED 1 s))) = 1 :=
    get_set_same _ _ _
  have h4 : (event 0x42 0 (setSav 2 (set Reg.SYS.PERSIST_FENCED 1 s))).hp = s.hp ∧
    (event 0x42 0 (setSav 2 (set Reg.SYS.PERSIST_FENCED 1 s))).out = s.out := ⟨rfl, rfl⟩
  unfold fenceSet
  generalize event 0x42 0 (setSav 2 (set Reg.SYS.PERSIST_FENCED 1 s)) = u at *
  have hmedia := changes_mediaAll u
  have hout := mediaAll_out u
  have hhp : (mediaAll u).hp = u.hp := forEach_keeps (fun v : State => v.hp = u.hp) _ _ _ rfl fun n _ v hv =>
    when_keeps (fun w : State => w.hp = u.hp) _ _ _ hv fun hw => hw
  have hkept : ∀ f ∈ [Reg.SYS.PERSIST_FENCED, Reg.SAV.STS_STATE, Reg.EVT_STS 0x42 0],
      get f (mediaAll u) = get f u := by
    have hk : ∀ f ∈ [Reg.SYS.PERSIST_FENCED, Reg.SAV.STS_STATE, Reg.EVT_STS 0x42 0], f.key ∉
      ([0, 1, 2, 3].map fun n => Reg.HPT.STS_MEDIA n).map Fld.key ∧ f.key ∉ settleKeys := by decide +kernel
    exact fun f hf => hmedia.regs f (hk f hf).1 (hk f hf).2
  generalize mediaAll u = v at *
  have hcount : ∀ c, when c countDirtyShutdown v = { v with hp := (when c countDirtyShutdown v).hp } ∧
      (when c countDirtyShutdown v).hp.writes = v.hp.writes := fun c =>
    when_keeps (fun w : State => w = { v with hp := w.hp } ∧ w.hp.writes = v.hp.writes) c _ v ⟨rfl, rfl⟩ fun _ => by
      unfold countDirtyShutdown
      split
      · exact ⟨rfl, rfl⟩
      · exact ⟨rfl, rfl⟩
  obtain ⟨hc, hw⟩ := hcount (!ok)
  have hend := ((hset.trans (hmedia.widen (by simp) (List.subset_append_right _ _))).in_hp
    (when (!ok) countDirtyShutdown v).hp (by simp))
  rw [← hc] at hend
  have hget : ∀ f, get f (when (!ok) countDirtyShutdown v) = get f v := fun f => by
    rw [hc]
    rfl
  have hlast : (when (!ok) countDirtyShutdown v).out = v.out := by
    rw [hc]
  exact ⟨hend, (hget _).trans ((hkept _ (by simp)).trans h1), (hget _).trans ((hkept _ (by simp)).trans h2),
    (hget _).trans ((hkept _ (by simp)).trans h3), hw.trans ((congrArg Hp.writes hhp).trans (congrArg Hp.writes h4.1)),
    hlast.trans (hout.trans h4.2)⟩

/-- The fields that a fence cycle may change. -/
def fenceFields : List Fld := fenceMarks ++ (stopFields ++ fenceOwn)

theorem fence_apart : (∀ f ∈ fenceMarks, f.key ∉ settleKeys ∧ f.key ∉ stopFields.map Fld.key ∧
    f.key ∉ fenceOwn.map Fld.key) ∧ (∀ f ∈ fenceOwn, f.key ∉ settleKeys) ∧
    (Reg.TRN.STS_INDEX.key ∉ settleKeys ∧ Reg.TRN.STS_INDEX.key ∉ fenceMarks.map Fld.key ∧
      Reg.TRN.STS_INDEX.key ∉ stopFields.map Fld.key) ∧
    ∀ f ∈ [Reg.SYS.CAPS_RING, Reg.TWN.STS_PAIRED, Reg.TWN.STS_STATE], f.key ∉ settleKeys ∧
      f.key ∉ fenceMarks.map Fld.key ∧ f.key ∉ stopFields.map Fld.key := by decide +kernel

/-- What a fence cycle leaves. -/
structure Fenced (k : Nat) (s t : State) : Prop where
  changes : Changes (.hp :: .sav :: .rng :: stopParts) fenceFields s t
  fenced : get Reg.SYS.PERSIST_FENCED t = 1
  state : savState t = 2
  event : get (Reg.EVT_STS 0x42 0) t = 1
  trigger : get Reg.SAV.LAST_TRIG_TRIGGER t = 2 ^ k
  outcome : get Reg.SAV.LAST_TRIG_OUTCOME t = 0
  ok : get Reg.SAV.LAST_TRIG_OK_AT_FENCE t = b2n (persistReasons s == 0)
  frame : get Reg.SAV.LAST_FRAME_FRAME t = now32 s
  t0 : t.sav.t0 = now s
  reset : t.sav.resetFence = (k == 4)
  writes : t.hp.writes = []
  checkpoint : t.nand.checkpoint = none
  ring : ringMember s = true → onBoth (.fence (now s)) s <:+: t.out
  twin : twinAttached s = true → Machine.fenced s = false → Out.twin "FENCE" [now s] ∈ t.out

theorem fence_shown {k : Nat} (hk : k < 8) {s : State} (hst : s.hp.stalled = []) : Fenced k s (fence k s) := by
  rw [fence_eq]
  obtain ⟨hmarks, hown, hindex, hview⟩ := fence_apart
  have hmark := changes_fenceMarked k s
  obtain ⟨m1, m2, m3, m4, m5, m6⟩ := fenceMarked_shown hk s
  have hstm : (fenceMarked k s).hp.stalled = [] := hst
  generalize fenceMarked k s = m at *
  have hnow : now m = now s := by
    unfold now
    rw [hmark.frm (by simp)]
  have hrng := hmark.rng (by simp)
  have hreqs := hmark.reqs
  have hgauge := changes_gaugeStopped s.eng.capTest.isSome m
  obtain ⟨hseals, hnone⟩ := sealsStopped_shown (gaugeStopped s.eng.capTest.isSome m)
  replace hseals := hgauge.trans hseals
  generalize sealsStopped (gaugeStopped s.eng.capTest.isSome m) = e at *
  have hsame : ∀ f ∈ [Reg.SYS.CAPS_RING, Reg.TWN.STS_PAIRED, Reg.TWN.STS_STATE], get f e = get f s := fun f hf => by
    obtain ⟨h1, h2, h3⟩ := hview f hf
    rw [hseals.regs f h3 h1, hmark.regs f h2 h1]
  have hattached : twinAttached e = twinAttached s := by
    unfold twinAttached paired twinState isSet
    rw [hsame _ (by simp), hsame _ (by simp)]
  have hnowe : now e = now s := by
    rw [← hnow]
    unfold now
    rw [hseals.frm (by decide)]
  have htwin := changes_twinTold (paired s && !Machine.fenced s) e
  have hsent : twinAttached s = true → Machine.fenced s = false →
      Out.twin "FENCE" [now s] ∈ (twinTold (paired s && !Machine.fenced s) e).out := fun ha hf => by
    have hp : paired s = true := (Bool.and_eq_true _ _ ▸ ha : paired s = true ∧ _).1
    rw [hp, hf]
    show _ ∈ (stopMirroring (when (twinAttached e) (sendTwin "FENCE" [now e]) e)).out
    rw [hattached, ha, hnowe]
    exact (stopMirroring_sends _).subset (List.mem_append_right _ (List.mem_singleton_self _))
  have hck : (twinTold (paired s && !Machine.fenced s) e).nand.checkpoint = none := by
    rw [htwin.nand (by simp), hnone]
  replace htwin := hseals.trans (htwin.widen (by decide) fun _ h => h)
  generalize twinTold (paired s && !Machine.fenced s) e = w at *
  have hmember : ringMember w = ringMember s := by
    unfold ringMember isSet
    rw [htwin.regs _ (hview Reg.SYS.CAPS_RING (by simp)).2.2 (hview Reg.SYS.CAPS_RING (by simp)).1,
      hmark.regs _ (hview Reg.SYS.CAPS_RING (by simp)).2.1 (hview Reg.SYS.CAPS_RING (by simp)).1, htwin.rng (by decide),
      hrng]
  have hcell : onBoth (.fence (now w)) w = onBoth (.fence (now s)) s := by
    have hn : now w = now s := by
      rw [← hnow]
      unfold now
      rw [htwin.frm (by decide)]
    rw [hn]
    exact onBoth_congr _ ((htwin.regs _ hindex.2.2 hindex.1).trans (hmark.regs _ hindex.2.1 hindex.1))
  have hdom := changes_domainFence w
  have hdsent := fun h => domainFence_sent (hmember.trans h)
  have hdsends := domainFence_sends w
  generalize domainFence w = d at *
  have hstd : d.hp.stalled = [] := (hdom.ports (by simp) Hp.stalled fun _ => rfl).trans
    ((htwin.ports (by decide) Hp.stalled fun _ => rfl).trans hstm)
  obtain ⟨hports, hpsends, hpw⟩ := portsFence_shown hstd
  generalize portsFence d = p at *
  have htransfer := changes_endTransfer { p with rng := { p.rng with logClosed := false } }
  have htsends : Sends p (endTransfer { p with rng := { p.rng with logClosed := false } }) :=
    (Sends.of_eq (t := { p with rng := { p.rng with logClosed := false } }) rfl).trans (endTransfer_sends _)
  have hopen : Changes [.rng] [] p { p with rng := { p.rng with logClosed := false } } :=
    (Changes.refl _ _ p).in_rng _ (by simp)
  have hxw : (endTransfer { p with rng := { p.rng with logClosed := false } }).hp.writes = [] :=
    (htransfer.ports (by simp) Hp.writes fun _ => rfl).trans hpw
  generalize endTransfer { p with rng := { p.rng with logClosed := false } } = x at *
  obtain ⟨hset, f1, f2, f3, f4, f5⟩ := fenceSet_shown (persistReasons s == 0) x
  generalize fenceSet (persistReasons s == 0) x = t at *
  have hrest : Changes (.hp :: .rng :: stopParts) stopFields m x :=
    ((((htwin.widen (by decide) fun _ h => h).trans (hdom.widen (by decide) fun _ h => domain_stop h)).trans
      (hports.widen (by decide) fun _ h => port_stop (List.mem_append_left _ h))).trans
      (hopen.widen (by decide) (by simp))).trans
      (htransfer.widen (by decide) fun _ h => port_stop (List.mem_append_right _ h))
  have hkept : ∀ f ∈ fenceMarks, get f t = get f m := fun f hf => by
    obtain ⟨h1, h2, h3⟩ := hmarks f hf
    rw [hset.regs f h3 h1, hrest.regs f h2 h1]
  have hsav : t.sav = m.sav := (hset.sav (by simp)).trans (hrest.sav (by decide))
  have hnand : t.nand = w.nand := (hset.nand (by simp)).trans ((htransfer.nand (by simp)).trans
    ((hopen.nand (by simp)).trans ((hports.nand (by simp)).trans (hdom.nand (by simp)))))
  have hsends : Sends d t := (hpsends.trans htsends).trans (.of_eq f5)
  exact {
    changes := ((hmark.widen (by decide) (List.subset_append_left _ _)).trans (hrest.widen (by decide) fun _ h =>
      List.mem_append_right _ (List.mem_append_left _ h))).trans (hset.widen (by decide) fun _ h =>
      List.mem_append_right _ (List.mem_append_right _ h))
    fenced := f1
    state := f2
    event := f3
    trigger := (hkept _ (by simp [fenceMarks])).trans m1
    outcome := (hkept _ (by simp [fenceMarks])).trans m2
    ok := (hkept _ (by simp [fenceMarks])).trans m3
    frame := (hkept _ (by simp [fenceMarks])).trans m4
    t0 := by rw [hsav, m5]
    reset := by rw [hsav, m6]
    writes := f4.trans hxw
    checkpoint := by rw [hnand, hck]
    ring := fun h => by
      obtain ⟨l, hl⟩ := (hdsent h).trans hsends
      rw [sendBoth_out, hcell] at hl
      exact ⟨w.out, l, hl⟩
    twin := fun ha hf => (hdsends.trans hsends).subset (hsent ha hf) }

end Sys2Proof.Machine
end

section
/-! SUPPORT. The triggers of a save (R275 to R278, R294, R417). -/

namespace Sys2Proof.Machine
set_option Elab.async false

/-! ### VIN falls -/

/-- VIN is no longer good, in no HOLD. -/
def vinLost (e : Eng) (s : State) : State :=
  { begun s with eng := e, sav := { s.sav with vinFrames := 0, vinGood := false } }

theorem vinFalls_noHold {e : Eng} {s : State} (h : savState s ≠ 7) :
    vinFalls { begun s with eng := e } = vinLost e s := if_neg h

theorem vinFalls_hold {e : Eng} {s : State} (h : savState s = 7) :
    vinFalls { begun s with eng := e } = savePowerDown 2 (vinLost e s) := if_pos h

theorem changes_vinLost (e : Eng) (s : State) : Changes [.eng, .sav] [] s (vinLost e s) :=
  ((Changes.begin [.eng, .sav] [] s).in_eng e (by simp)).in_sav _ (by simp)

/-- A command whose trigger comes with the loss of VIN. -/
structure VinTrigger (c : Instr) (k : Nat) (s : State) where
  f : State → State
  eng : Eng
  run : exec c s = Machine.run f s
  eff : f (begun s) = trigger k (vinFalls { begun s with eng := eng })
  low : k ≤ 1
  gone : ∀ u : State, u.eng = eng → vinGoodNow u = false

theorem vinTrigger {c : Instr} {k : Nat} {s : State}
    (h : (c = .pfail ∧ k = 0 ∧ isSet Reg.SAV.CFG_PFAIL_EN s = true) ∨ (c = .vinComparatorTrip ∧ k = 1) ∨
      (c = .chipReset ∧ k = 4)) (hk : k ≠ 4) : Nonempty (VinTrigger c k s) := by
  rcases h with ⟨rfl, rfl, he⟩ | ⟨rfl, rfl⟩ | ⟨-, h⟩
  · refine ⟨{ f := pfail, eng := { s.eng with last := { s.eng.last with pfailLow := true } }, run := rfl, eff := ?_,
              low := by decide, gone := fun u hu => ?_ }⟩
    · have hen : isSet Reg.SAV.CFG_PFAIL_EN (begun s) = true := he
      unfold pfail
      rw [hen]
      rfl
    · simp [vinGoodNow, hu]
  · refine ⟨{ f := comparatorTrip, eng := { s.eng with last := { s.eng.last with vinAbove := false } }, run := rfl,
              eff := rfl, low := by decide, gone := fun u hu => ?_ }⟩
    simp [vinGoodNow, hu]
  · exact absurd h hk

/-- The state in which a fence cycle begins. -/
structure FenceReady (s u : State) : Prop where
  changes : Changes [.eng, .sav, .flt] [Reg.SAF.FINJ_KEY_OPEN] s u
  stalled : u.hp.stalled = s.hp.stalled
  key : u.flt.keyHalf = none

theorem FenceReady.same {s u : State} (h : FenceReady s u) {f : Fld}
    (hf : f.key ≠ Reg.SAF.FINJ_KEY_OPEN.key) (hk : f.key ∉ settleKeys) : get f u = get f s :=
  h.changes.regs f (by simpa using hf) hk

theorem fenceReady_close {s v : State} (h : Changes [.eng, .sav] [] s v) : FenceReady s (closeKey v) where
  changes := (h.widen (by simp) (by simp)).trans ((changes_closeKey v).widen (by simp) fun _ h => h)
  stalled := h.ports (by simp) Hp.stalled fun _ => rfl
  key := rfl

/-! ### The fence cycle of a trigger -/

/-- A command asks for one of the three triggers with a pin. -/
abbrev PinTrigger (c : Instr) (k : Nat) (s : State) : Prop :=
  (c = .pfail ∧ k = 0 ∧ isSet Reg.SAV.CFG_PFAIL_EN s = true) ∨ (c = .vinComparatorTrip ∧ k = 1) ∨
    (c = .chipReset ∧ k = 4)

section
variable {s u : State} (h : FenceReady s u)
include h

theorem FenceReady.isSet {f : Fld} (hf : f.key ≠ Reg.SAF.FINJ_KEY_OPEN.key) (hk : f.key ∉ settleKeys) :
    Machine.isSet f u = Machine.isSet f s := by
  rw [Machine.isSet, Machine.isSet, h.same hf hk]

theorem FenceReady.now : Machine.now u = Machine.now s := by
  unfold Machine.now
  rw [h.changes.frm (by simp)]

theorem FenceReady.reasons : persistReasons u = persistReasons s := by
  unfold persistReasons
  rw [h.same (by decide) (by decide), h.same (by decide) (by decide), h.same (by decide) (by decide),
    h.same (by decide) (by decide), h.same (by decide) (by decide), h.same (by decide) (by decide),
    h.same (by decide) (by decide), h.same (by decide) (by decide)]

theorem FenceReady.member : ringMember u = ringMember s := by
  unfold ringMember
  rw [h.isSet (by decide) (by decide), h.changes.rng (by simp)]

theorem FenceReady.attached : twinAttached u = twinAttached s := by
  unfold twinAttached paired twinState
  rw [h.isSet (by decide) (by decide), h.same (by decide) (by decide)]

theorem FenceReady.index : get Reg.TRN.STS_INDEX u = get Reg.TRN.STS_INDEX s := h.same (by decide) (by decide)

end

/-- A trigger that fences: with the safe state a loss of VIN powers down at once (R417). -/
theorem trigger_fences {k : Nat} {v : State} (ha : savArmed v = true) (hf : fenced v = false ∨ savState v = 9)
    (hv : vinGoodNow v = false) (hk : k ≤ 1) :
    trigger k v = if inSafe v then startDown (setSav 8 (fence k (closeKey v))) else fence k (closeKey v) := by
  have hr : FenceReady v (closeKey v) := fenceReady_close (.refl _ _ v)
  have hgood : vinGoodNow (closeKey v) = false := by
    rw [← hv]
    unfold vinGoodNow
    rw [hr.isSet (by decide) (by decide)]
    rfl
  have hnot : (fenced (closeKey v) && decide (savState (closeKey v) ≠ 9)) = false := by
    rw [fenced, savState, hr.isSet (by decide) (by decide), hr.same (by decide) (by decide), ← fenced, ← savState]
    rcases hf with h | h <;> simp [h]
  unfold trigger
  dsimp only
  rw [show savArmed (closeKey v) = true from (hr.isSet (by decide) (by decide)).trans ha,
    show inSafe (closeKey v) = inSafe v from hr.isSet (by decide) (by decide), hgood, decide_eq_true hk]
  simp only [Bool.not_true, Bool.false_eq_true, if_false, hnot, Bool.and_true, Bool.not_false]
  cases inSafe v <;> rfl

/-- The command's state after it, and where its fence cycle begins. -/
theorem pinTrigger_fences {c : Instr} {k : Nat} {s : State} (hc : PinTrigger c k s) (ha : savArmed s = true)
    (hf : (fenced s = false ∧ savState s ≠ 7) ∨ savState s = 9) :
    ∃ f u, exec c s = run f s ∧ FenceReady s u ∧ k < 8 ∧
      f (begun s) = if inSafe s = true ∧ k ≠ 4 then startDown (setSav 8 (fence k u)) else fence k u := by
  have h7 : savState s ≠ 7 := by
    rcases hf with ⟨-, h⟩ | h <;> omega
  have hopen : fenced s = false ∨ savState s = 9 := hf.imp And.left id
  by_cases hk : k = 4
  · obtain ⟨rfl⟩ : c = .chipReset := by
      rcases hc with ⟨-, h, -⟩ | ⟨-, h⟩ | ⟨h, -⟩
      · omega
      · omega
      · exact h
    refine ⟨chipResetOp, closeKey (begun s), rfl, fenceReady_close (.begin _ _ s), by omega, ?_⟩
    have hnot : ¬ (fenced (begun s) && savArmed (begun s) && decide (savState (begun s) ≠ 9)) = true := by
      show ¬ (fenced s && savArmed s && decide (savState s ≠ 9)) = true
      rcases hopen with h | h <;> simp [h]
    rw [if_neg (fun h => h.2 hk), hk]
    exact (if_neg hnot).trans (if_pos ha)
  · obtain ⟨x⟩ := vinTrigger hc hk
    have hv := changes_vinLost x.eng s
    have hr := fenceReady_close hv
    have hsame : ∀ f : Fld, f.key ∉ settleKeys → get f (vinLost x.eng s) = get f s := fun f hk =>
      hv.regs f (by simp) hk
    refine ⟨x.f, closeKey (vinLost x.eng s), x.run, hr, by have := x.low; omega, ?_⟩
    rw [x.eff, vinFalls_noHold h7]
    refine (trigger_fences (v := vinLost x.eng s) ha hopen (x.gone _ rfl) x.low).trans ?_
    have hsafe : inSafe (vinLost x.eng s) = inSafe s := rfl
    rw [hsafe]
    cases inSafe s <;> simp [hk]

theorem changes_startDown (s : State) : Changes [.pwr] [Reg.PWR.STS_STATE] s (startDown s) :=
  (((Changes.refl [.pwr] [Reg.PWR.STS_STATE] s).in_pwr _ (by simp)).cond _ _ fun u hu =>
    hu.trans ((changes_sendBoth _ u).widen (by simp) (by simp))).set _ _ (by simp)

theorem startDown_shown (s : State) : Sends s (startDown s) ∧ (startDown s).pwr.seq = .down ∧
    get Reg.PWR.STS_STATE (startDown s) = 4 := by
  refine ⟨?_, ?_, get_set_same _ _ _⟩
  · exact when_keeps (Sends s) _ _ _ (.of_eq rfl) fun h => h.trans ((sends_emit _ _).trans (sends_emit _ _))
  · exact when_keeps (fun u : State => u.pwr.seq = .down) _ _ _ rfl fun h => h

/-- What a fence cycle of a trigger shows, before the device settles. -/
theorem fence_apart_power : ∀ f ∈ fenceMarks ++ [Reg.SYS.PERSIST_FENCED, Reg.EVT_STS 0x42 0],
    f.key ∉ settleKeys ∧ f.key ≠ Reg.SAV.STS_STATE.key ∧ f.key ≠ Reg.PWR.STS_STATE.key := by decide +kernel

/-- The end of the fence cycle: what `Fenced` says, after the power-down of the safe state as well. -/
structure FenceEnd (k : Nat) (s t : State) : Prop where
  fenced : get Reg.SYS.PERSIST_FENCED t = 1
  event : get (Reg.EVT_STS 0x42 0) t = 1
  trigger : get Reg.SAV.LAST_TRIG_TRIGGER t = 2 ^ k
  outcome : get Reg.SAV.LAST_TRIG_OUTCOME t = 0
  ok : get Reg.SAV.LAST_TRIG_OK_AT_FENCE t = b2n (persistReasons s == 0)
  frame : get Reg.SAV.LAST_FRAME_FRAME t = now32 s
  t0 : t.sav.t0 = now s
  reset : t.sav.resetFence = (k == 4)
  writes : t.hp.writes = []
  checkpoint : t.nand.checkpoint = none
  key : t.flt.keyHalf = none
  ring : ringMember s = true → onBoth (.fence (now s)) s <:+: t.out
  twin : twinAttached s = true → Machine.fenced s = false → Out.twin "FENCE" [now s] ∈ t.out
  mem : t.dram.mem = s.dram.mem
  reqs : t.reqs = s.reqs

theorem fenceEnd {k : Nat} {s u : State} (hr : FenceReady s u) (hk : k < 8) (hst : s.hp.stalled = []) :
    FenceEnd k s (fence k u) ∧ savState (fence k u) = 2 := by
  have h := fence_shown hk (hr.stalled.trans hst)
  have hn : now32 u = now32 s := congrArg (· % 2 ^ 32) hr.now
  have hcell : onBoth (.fence (now u)) u = onBoth (.fence (now s)) s := by
    rw [hr.now]
    exact onBoth_congr _ hr.index
  refine ⟨{ fenced := h.fenced, event := h.event, trigger := h.trigger, outcome := h.outcome, ok := ?_, frame := ?_,
            t0 := h.t0.trans hr.now, reset := h.reset, writes := h.writes, checkpoint := h.checkpoint, key := ?_,
            ring := fun hm => ?_, twin := fun ha hf => ?_, mem := ?_, reqs := ?_ }, h.state⟩
  · rw [h.ok, hr.reasons]
  · rw [h.frame, hn]
  · rw [h.changes.flt (by decide), hr.key]
  · rw [← hcell]
    exact h.ring (hr.member.trans hm)
  · rw [← hr.now]
    exact h.twin (hr.attached.trans ha) ((hr.isSet (by decide) (by decide)).trans hf)
  · rw [h.changes.dram (by decide), hr.changes.dram (by simp)]
  · exact h.changes.reqs.trans hr.changes.reqs

theorem FenceEnd.down {k : Nat} {s u : State} (h : FenceEnd k s u) : FenceEnd k s (startDown (setSav 8 u)) := by
  have hall : Changes [.pwr] [Reg.SAV.STS_STATE, Reg.PWR.STS_STATE] u (startDown (setSav 8 u)) :=
    ((Changes.refl [.pwr] [Reg.SAV.STS_STATE, Reg.PWR.STS_STATE] u).set _ _ (by simp)).trans
      ((changes_startDown _).widen (by simp) (by simp))
  have hsends : Sends u (startDown (setSav 8 u)) := (Sends.of_eq rfl).trans (startDown_shown (setSav 8 u)).1
  have hkept : ∀ f ∈ fenceMarks ++ [Reg.SYS.PERSIST_FENCED, Reg.EVT_STS 0x42 0],
      get f (startDown (setSav 8 u)) = get f u := fun f hf => by
    obtain ⟨h1, h2, h3⟩ := fence_apart_power f hf
    exact hall.regs f (by simp [h2, h3]) h1
  generalize startDown (setSav 8 u) = t at *
  exact {
    fenced := (hkept _ (by simp)).trans h.fenced
    event := (hkept _ (by simp)).trans h.event
    trigger := (hkept _ (by simp [fenceMarks])).trans h.trigger
    outcome := (hkept _ (by simp [fenceMarks])).trans h.outcome
    ok := (hkept _ (by simp [fenceMarks])).trans h.ok
    frame := (hkept _ (by simp [fenceMarks])).trans h.frame
    t0 := (congrArg Sav.t0 (hall.sav (by simp))).trans h.t0
    reset := (congrArg Sav.resetFence (hall.sav (by simp))).trans h.reset
    writes := (hall.ports (by simp) Hp.writes fun _ => rfl).trans h.writes
    checkpoint := (congrArg Nand.checkpoint (hall.nand (by simp))).trans h.checkpoint
    key := (congrArg Flt.keyHalf (hall.flt (by simp))).trans h.key
    ring := fun hm => (h.ring hm).trans hsends.isInfix
    twin := fun ha hf => hsends.subset (h.twin ha hf)
    mem := (congrArg Dram.mem (hall.dram (by simp))).trans h.mem
    reqs := hall.reqs.trans h.reqs }

/-! ### The triggers -/

theorem reasons_fenced {t : State} (h : get Reg.SYS.PERSIST_FENCED t = 1) : persistReasons t ≠ 0 := by
  unfold persistReasons
  omega

theorem FenceEnd.keeps {k : Nat} {s u t : State} (h : FenceEnd k s u) (q : Keeps settleKeys u t) : FenceEnd k s t := by
  have hkept := fun f hf => q.get f (fence_apart_power f hf).1
  exact {
    fenced := (hkept _ (by simp)).trans h.fenced
    event := (hkept _ (by simp)).trans h.event
    trigger := (hkept _ (by simp [fenceMarks])).trans h.trigger
    outcome := (hkept _ (by simp [fenceMarks])).trans h.outcome
    ok := (hkept _ (by simp [fenceMarks])).trans h.ok
    frame := (hkept _ (by simp [fenceMarks])).trans h.frame
    t0 := (congrArg Sav.t0 q.sav).trans h.t0
    reset := (congrArg Sav.resetFence q.sav).trans h.reset
    writes := (q.ports Hp.writes fun _ => rfl).trans h.writes
    checkpoint := (congrArg Nand.checkpoint q.nand).trans h.checkpoint
    key := (congrArg Flt.keyHalf q.flt).trans h.key
    ring := fun hm => (h.ring hm).trans (q.sent rfl).isInfix
    twin := fun ha hf => q.sentLast (h.twin ha hf)
    mem := (congrArg Dram.mem q.dram).trans h.mem
    reqs := q.reqs.trans h.reqs }

/-- What a trigger's fence cycle leaves of the device (R278, R417). -/
theorem completes_triggerFence {c : Instr} {k : Nat} {s : State} (hs : Ready s) (hc : PinTrigger c k s)
    (ha : savArmed s = true) (hf : (fenced s = false ∧ savState s ≠ 7) ∨ savState s = 9) :
    Completes c s fun t => PersistInv t ∧ (s.hp.stalled = [] →
      FenceEnd k s t ∧ savState t = (if inSafe s = true ∧ k ≠ 4 then 8 else 2) ∧
      (inSafe s = true → k ≠ 4 → t.pwr.seq = .down)) := by
  obtain ⟨f, u, hrun, hr, hk, heff⟩ := pinTrigger_fences hc ha hf
  refine .and (.of_run hs hrun (settle_persistInv _ _)) (.leavesWhen hs hrun heff fun hst => ?_)
  obtain ⟨hend, hstate⟩ := fenceEnd hr hk hst
  split
  next h =>
    have hsav : savState (startDown (setSav 8 (fence k u))) = 8 :=
      ((changes_startDown _).regs _ (by decide) (by decide)).trans (get_set_same _ _ _)
    refine ⟨hend.down.reqs.trans hs.2, fun t q => ⟨hend.down.keeps q, (q.get _ (by decide)).trans hsav, ?_⟩⟩
    rw [q.pwr]
    exact fun _ _ => (startDown_shown _).2.1
  next h =>
    exact ⟨hend.reqs.trans hs.2, fun t q => ⟨hend.keeps q, (q.get _ (by decide)).trans hstate,
      fun h1 h2 => absurd ⟨h1, h2⟩ h⟩⟩

/-- A trigger during a fence adds its bit (R275). -/
theorem triggerBit_shown (k : Nat) (s : State) :
    get Reg.SAV.LAST_TRIG_TRIGGER (triggerBit k s) = Nat.lor (get Reg.SAV.LAST_TRIG_TRIGGER s) (2 ^ k) % 256 ∧
    Changes [] [Reg.SAV.LAST_TRIG_TRIGGER] s (triggerBit k s) :=
  ⟨get_set_same _ _ _, (Changes.refl [] _ s).set _ _ (by simp)⟩

/-- A trigger during a fence, in none of the states of its end. -/
theorem trigger_fenced {k : Nat} {v : State} (ha : savArmed v = true) (hf : fenced v = true) (h9 : savState v ≠ 9) :
    trigger k v = setSavs (fun x => if x.resetFence && !x.drained then
      { x with resetFence := false, deferredReset := true } else x) (triggerBit k (closeKey v)) := by
  have hr : FenceReady v (closeKey v) := fenceReady_close (.refl _ _ v)
  have h1 : savArmed (closeKey v) = true := (hr.isSet (by decide) (by decide)).trans ha
  have h2 : fenced (closeKey v) = true := (hr.isSet (by decide) (by decide)).trans hf
  have h3 : savState (closeKey v) ≠ 9 := fun h => h9 ((hr.same (by decide) (by decide)).symm.trans h)
  unfold trigger
  dsimp only
  rw [h1, h2, decide_eq_true h3]
  generalize closeKey v = w
  simp only [Bool.not_true, Bool.false_eq_true, if_false, Bool.and_self, if_true]
  unfold setSavs
  dsimp only
  have hsav : (triggerBit k w).sav = w.sav := rfl
  rw [hsav]
  by_cases h : (w.sav.resetFence && !w.sav.drained) = true
  · rw [if_pos h, if_pos h]
  · rw [if_neg h, if_neg h, ← hsav]

/-- The commands of a trigger during a fence, in none of the states of its end. -/
theorem completes_triggerAdds {c : Instr} {k : Nat} {s : State} (hs : Ready s) (hc : PinTrigger c k s)
    (ha : savArmed s = true) (hf : fenced s = true) (h7 : savState s ≠ 7) (h9 : savState s ≠ 9) :
    Completes c s fun t =>
      get Reg.SAV.LAST_TRIG_TRIGGER t = Nat.lor (get Reg.SAV.LAST_TRIG_TRIGGER s) (2 ^ k) % 256 ∧
      (k = 4 ∨ (s.sav.resetFence = true ∧ s.sav.drained = false) → t.sav.deferredReset = true) ∧
      Changes [.eng, .sav, .flt] [Reg.SAV.LAST_TRIG_TRIGGER, Reg.SAF.FINJ_KEY_OPEN] s t := by
  have key : ∀ (f : State → State) (v : State) (g : Sav → Sav), exec c s = run f s → FenceReady s v →
      f (begun s) = setSavs g (triggerBit k v) →
      (k = 4 ∨ (s.sav.resetFence = true ∧ s.sav.drained = false) → (g v.sav).deferredReset = true) →
      Completes c s fun t =>
        get Reg.SAV.LAST_TRIG_TRIGGER t = Nat.lor (get Reg.SAV.LAST_TRIG_TRIGGER s) (2 ^ k) % 256 ∧
        (k = 4 ∨ (s.sav.resetFence = true ∧ s.sav.drained = false) → t.sav.deferredReset = true) ∧
        Changes [.eng, .sav, .flt] [Reg.SAV.LAST_TRIG_TRIGGER, Reg.SAF.FINJ_KEY_OPEN] s t :=
    fun f v g hrun hr heff hd => by
      have hall : Changes [.eng, .sav, .flt] [Reg.SAV.LAST_TRIG_TRIGGER, Reg.SAF.FINJ_KEY_OPEN] s
          (setSavs g (triggerBit k v)) :=
        ((hr.changes.widen (fun _ h => h) (by simp)).set _ _ (by simp)).in_sav _ (by simp)
      refine .leaves hs hrun heff (hall.reqs.trans hs.2) fun t q => ⟨?_, fun h => ?_, hall.ended q⟩
      · refine (q.get _ (by decide)).trans ((triggerBit_shown k v).1.trans ?_)
        rw [hr.same (by decide) (by decide)]
      · rw [q.sav]
        exact hd h
  by_cases hk : k = 4
  · obtain ⟨rfl⟩ : c = .chipReset := by
      rcases hc with ⟨-, h, -⟩ | ⟨-, h⟩ | ⟨h, -⟩
      · omega
      · omega
      · exact h
    subst hk
    refine key chipResetOp (closeKey (begun s)) (fun v => { v with deferredReset := true }) rfl
      (fenceReady_close (.begin _ _ s)) ?_ fun _ => rfl
    have hin : (fenced (begun s) && savArmed (begun s) && decide (savState (begun s) ≠ 9)) = true := by
      show (fenced s && savArmed s && decide (savState s ≠ 9)) = true
      simp [ha, hf, h9]
    exact (if_pos hin).trans (if_neg h7)
  · obtain ⟨x⟩ := vinTrigger hc hk
    refine key x.f (closeKey (vinLost x.eng s)) (fun v => if v.resetFence && !v.drained then
      { v with resetFence := false, deferredReset := true } else v) x.run
      (fenceReady_close (changes_vinLost x.eng s)) ?_ fun h => ?_
    · rw [x.eff, vinFalls_noHold h7]
      exact trigger_fenced (v := vinLost x.eng s) ha hf h9
    · obtain ⟨hreset, hdrained⟩ := h.resolve_left hk
      have hwait : ((closeKey (vinLost x.eng s)).sav.resetFence && !(closeKey (vinLost x.eng s)).sav.drained) =
          true := by
        show (s.sav.resetFence && !s.sav.drained) = true
        rw [hreset, hdrained]
        rfl
      rw [if_pos hwait]

/-! ### The power-down without a save (R276, R294) -/

theorem changes_savePowerDown (o : Nat) (s : State) : Changes [.pwr]
    [Reg.SAV.LAST_TRIG_OUTCOME, Reg.SAV.STS_STATE, Reg.PWR.STS_STATE] s (savePowerDown o s) :=
  (((Changes.refl [.pwr] _ s).set _ _ (by simp)).set _ _ (by simp)).trans
    ((changes_startDown _).widen (fun _ h => h) (by simp))

theorem savePowerDown_shown (o : Nat) (s : State) : get Reg.SAV.LAST_TRIG_OUTCOME (savePowerDown o s) = o % 16 ∧
    savState (savePowerDown o s) = 8 ∧ (savePowerDown o s).pwr.seq = .down ∧
    get Reg.PWR.STS_STATE (savePowerDown o s) = 4 := by
  obtain ⟨-, hseq, hstate⟩ := startDown_shown (setSav 8 (savOutcome o s))
  have hkept := (changes_startDown (setSav 8 (savOutcome o s))).regs
  refine ⟨?_, ?_, hseq, hstate⟩
  · refine (hkept _ (by decide) (by decide)).trans ((get_set_other _ _ (by decide)).trans (get_set_same _ _ _))
  · exact (hkept _ (by decide) (by decide)).trans (get_set_same _ _ _)

/-- A trigger while DISARMED: its bit, and the restore's reads are dropped (R276). -/
def disarmedMark (k : Nat) (s : State) : State :=
  s |> triggerBit k |> event 0x42 0 |> setSavs (fun v => { v with vinFrames := 0 })
    |> (fun s => { s with rsr := { s.rsr with ready := false } }) |> setInflight []

theorem disarmedMark_shown (k : Nat) (s : State) :
    Changes [.sav, .rsr] [Reg.SAV.LAST_TRIG_TRIGGER, Reg.EVT_STS 0x42 0, Reg.RSR.SLOTS_IN_FLIGHT,
      Reg.RSR.SLOTS_DEMAND] s (disarmedMark k s) ∧
    get Reg.SAV.LAST_TRIG_TRIGGER (disarmedMark k s) = Nat.lor (get Reg.SAV.LAST_TRIG_TRIGGER s) (2 ^ k) % 256 ∧
    (disarmedMark k s).rsr.inflight = [] := by
  have hrest : Changes [.sav, .rsr] [Reg.EVT_STS 0x42 0, Reg.RSR.SLOTS_IN_FLIGHT, Reg.RSR.SLOTS_DEMAND]
      (triggerBit k s) (disarmedMark k s) :=
    (((((Changes.refl [.sav, .rsr] _ (triggerBit k s)).event _ _ (by simp)).in_sav _ (by simp)).in_rsr _
      (by simp)).in_rsr _ (by simp)).set _ _ (by simp) |>.set _ _ (by simp)
  obtain ⟨hbit, hfirst⟩ := triggerBit_shown k s
  exact ⟨(hfirst.widen (by simp) (by simp)).trans (hrest.widen (by simp) (by simp)),
    (hrest.regs _ (by decide) (by decide)).trans hbit, rfl⟩

/-- A trigger with the loss of VIN while DISARMED. -/
theorem trigger_disarmed {k : Nat} {v : State} (ha : savArmed v = false) (hg : vinGoodNow v = false)
    (hd : goingDown v = false) : trigger k v = startDown (savOutcome 6 (disarmedMark k (closeKey v))) := by
  have hr : FenceReady v (closeKey v) := fenceReady_close (.refl _ _ v)
  have h1 : savArmed (closeKey v) = false := (hr.isSet (by decide) (by decide)).trans ha
  have hmark := (disarmedMark_shown k (closeKey v)).1
  have hvin : isSet Reg.ENG.VIN_GOOD (disarmedMark k (closeKey v)) = isSet Reg.ENG.VIN_GOOD v := by
    rw [isSet, hmark.regs _ (by decide) (by decide), ← isSet, hr.isSet (by decide) (by decide)]
  have heng : (disarmedMark k (closeKey v)).eng = v.eng := hmark.eng (by simp)
  have hpwr : (disarmedMark k (closeKey v)).pwr = v.pwr := hmark.pwr (by simp)
  have hgood : ¬ vinGoodNow (disarmedMark k (closeKey v)) = true := by
    rw [vinGoodNow, hvin, heng, ← vinGoodNow, hg]
    simp
  have hdown : ¬ goingDown (disarmedMark k (closeKey v)) = true := by
    rw [goingDown, hpwr, ← goingDown, hd]
    simp
  unfold trigger
  dsimp only
  rw [h1]
  exact (if_neg hgood).trans (if_neg hdown)

/-- The loss of VIN while DISARMED (R276). -/
theorem completes_triggerDisarmed {c : Instr} {k : Nat} {s : State} (hs : Ready s) (hc : PinTrigger c k s)
    (hk : k ≠ 4) (ha : savArmed s = false) (h7 : savState s ≠ 7) (hd : goingDown s = false) :
    Completes c s fun t =>
      get Reg.SAV.LAST_TRIG_TRIGGER t = Nat.lor (get Reg.SAV.LAST_TRIG_TRIGGER s) (2 ^ k) % 256 ∧
      get Reg.SAV.LAST_TRIG_OUTCOME t = 6 ∧ t.pwr.seq = .down ∧ get Reg.PWR.STS_STATE t = 4 ∧ t.rsr.inflight = [] ∧
      Changes [.eng, .sav, .rsr, .pwr, .flt] [Reg.SAV.LAST_TRIG_TRIGGER, Reg.SAV.LAST_TRIG_OUTCOME,
        Reg.EVT_STS 0x42 0, Reg.PWR.STS_STATE, Reg.SAF.FINJ_KEY_OPEN, Reg.RSR.SLOTS_IN_FLIGHT,
        Reg.RSR.SLOTS_DEMAND] s t := by
  obtain ⟨x⟩ := vinTrigger hc hk
  have hr : FenceReady s (closeKey (vinLost x.eng s)) := fenceReady_close (changes_vinLost x.eng s)
  have heff : x.f (begun s) = startDown (savOutcome 6 (disarmedMark k (closeKey (vinLost x.eng s)))) := by
    rw [x.eff, vinFalls_noHold h7]
    exact trigger_disarmed (v := vinLost x.eng s) ha (x.gone _ rfl) hd
  obtain ⟨hmark, htrig, hnone⟩ := disarmedMark_shown k (closeKey (vinLost x.eng s))
  rw [hr.same (by decide) (by decide)] at htrig
  replace hmark := hr.changes.widen (qs := [.eng, .sav, .rsr, .pwr, .flt]) (gs := [Reg.SAV.LAST_TRIG_TRIGGER,
    Reg.SAV.LAST_TRIG_OUTCOME, Reg.EVT_STS 0x42 0, Reg.PWR.STS_STATE, Reg.SAF.FINJ_KEY_OPEN,
    Reg.RSR.SLOTS_IN_FLIGHT, Reg.RSR.SLOTS_DEMAND]) (by simp) (by simp) |>.trans
    (hmark.widen (by simp) (by simp))
  generalize disarmedMark k (closeKey (vinLost x.eng s)) = m at *
  have hdown := changes_startDown (savOutcome 6 m)
  have hall := (hmark.set Reg.SAV.LAST_TRIG_OUTCOME 6 (by simp)).trans (hdown.widen (by simp) (by simp))
  obtain ⟨-, hseq, hstate⟩ := startDown_shown (savOutcome 6 m)
  have hrsr : (startDown (savOutcome 6 m)).rsr = m.rsr := hdown.rsr (by simp)
  have htrigger := (hdown.regs Reg.SAV.LAST_TRIG_TRIGGER (by decide) (by decide)).trans
    ((get_set_other _ _ (by decide)).trans htrig)
  have hout := (hdown.regs Reg.SAV.LAST_TRIG_OUTCOME (by decide) (by decide)).trans (get_set_same _ _ _)
  refine .leaves hs x.run heff (hall.reqs.trans hs.2) fun t q => ⟨q.stored (by decide) htrigger,
    q.stored (by decide) hout, ?_, q.stored (by decide) hstate, ?_, hall.ended q⟩
  · rw [q.pwr, hseq]
  · rw [q.rsr, hrsr, hnone]

/-- The loss of VIN at a HOLD powers the device down (R294). -/
theorem completes_triggerHold {c : Instr} {k : Nat} {s : State} (hs : Ready s) (hc : PinTrigger c k s)
    (hk : k ≠ 4) (ha : savArmed s = true) (hf : fenced s = true) (h7 : savState s = 7) :
    Completes c s fun t =>
      get Reg.SAV.LAST_TRIG_OUTCOME t = 2 ∧ savState t = 8 ∧ t.pwr.seq = .down ∧ get Reg.PWR.STS_STATE t = 4 ∧
      Changes [.eng, .sav, .pwr, .flt] [Reg.SAV.LAST_TRIG_TRIGGER, Reg.SAV.LAST_TRIG_OUTCOME, Reg.SAV.STS_STATE,
        Reg.PWR.STS_STATE, Reg.SAF.FINJ_KEY_OPEN] s t := by
  obtain ⟨x⟩ := vinTrigger hc hk
  have hlost := changes_vinLost x.eng s
  obtain ⟨h1, h2, h3, h4⟩ := savePowerDown_shown 2 (vinLost x.eng s)
  have hdown := changes_savePowerDown 2 (vinLost x.eng s)
  have harmed : savArmed (savePowerDown 2 (vinLost x.eng s)) = true := by
    rw [savArmed, isSet, hdown.regs _ (by decide) (by decide)]
    exact ha
  have hfence : fenced (savePowerDown 2 (vinLost x.eng s)) = true := by
    rw [fenced, isSet, hdown.regs _ (by decide) (by decide)]
    exact hf
  have heff := x.eff
  rw [vinFalls_hold h7, trigger_fenced harmed hfence (by omega)] at heff
  replace hdown := hlost.widen (qs := [.eng, .sav, .pwr, .flt]) (gs := [Reg.SAV.LAST_TRIG_TRIGGER,
    Reg.SAV.LAST_TRIG_OUTCOME, Reg.SAV.STS_STATE, Reg.PWR.STS_STATE, Reg.SAF.FINJ_KEY_OPEN]) (by simp) (by simp)
    |>.trans (hdown.widen (by simp) (by simp))
  generalize savePowerDown 2 (vinLost x.eng s) = d at *
  have hbit := ((changes_closeKey d).widen (ps := [.flt]) (qs := [.sav, .flt]) (gs := [Reg.SAV.LAST_TRIG_TRIGGER,
    Reg.SAF.FINJ_KEY_OPEN]) (by simp) (by simp)).set Reg.SAV.LAST_TRIG_TRIGGER (Nat.lor
    (get Reg.SAV.LAST_TRIG_TRIGGER (closeKey d)) (2 ^ k)) (by simp)
  replace hbit := hbit.in_sav (if (triggerBit k (closeKey d)).sav.resetFence && !(triggerBit k (closeKey d)).sav.drained
    then { (triggerBit k (closeKey d)).sav with resetFence := false, deferredReset := true }
    else (triggerBit k (closeKey d)).sav) (by simp)
  have hall := hdown.trans (hbit.widen (by simp) (by simp))
  refine .leaves hs x.run heff (hall.reqs.trans hs.2) fun t q => ?_
  have hkept : ∀ f : Fld, f.key ≠ Reg.SAV.LAST_TRIG_TRIGGER.key → f.key ≠ Reg.SAF.FINJ_KEY_OPEN.key →
      f.key ∉ settleKeys → get f t = get f d := fun f n1 n2 n3 =>
    (q.get f n3).trans (hbit.regs f (by simp [n1, n2]) n3)
  refine ⟨(hkept _ (by decide) (by decide) (by decide)).trans h1, (hkept _ (by decide) (by decide)
      (by decide)).trans h2,
    ?_, (hkept _ (by decide) (by decide) (by decide)).trans h4, hall.ended q⟩
  rw [q.pwr]
  exact (congrArg Pwr.seq (hbit.pwr (by simp))).trans h3

/-! ### The chip reset outside a fence cycle, and PFAIL_N as no trigger (R276, R277, R494) -/

theorem completes_chipResetAsked {s : State} (hs : Ready s)
    (h : savArmed s = false ∨ (fenced s = true ∧ savState s = 7)) :
    Completes .chipReset s fun t =>
      t.pwr.resetDue = true ∧ t.pwr.modReset = true ∧ [Out.moduleReset true] <+: t.out ∧
      Changes [.flt, .pwr] [Reg.SAF.FINJ_KEY_OPEN] s t := by
  have heff : chipResetOp (begun s) = askReset (closeKey (begun s)) := by
    rcases ha : savArmed s
    · exact (if_neg (by show ¬ (fenced s && savArmed s && _) = true; simp [ha])).trans
        (if_neg (by show ¬ savArmed s = true; simp [ha]))
    · obtain ⟨hf, h7⟩ := h.resolve_left (by simp [ha])
      exact (if_pos (by show (fenced s && savArmed s && decide (savState s ≠ 9)) = true; simp [ha, hf, h7])).trans
        (if_pos h7)
  have hall : Changes [.flt, .pwr] [Reg.SAF.FINJ_KEY_OPEN] s (askReset (closeKey (begun s))) :=
    ((((Changes.begin [.flt, .pwr] _ s).in_flt _ (by simp)).set _ _ (by simp)).in_pwr _ (by simp)).emit _
  refine .leaves hs rfl heff (hall.reqs.trans hs.2) fun t q => ⟨?_, ?_, q.sent rfl, hall.ended q⟩
  · rw [q.pwr]
    rfl
  · rw [q.pwr]
    rfl

theorem completes_pfailUnused {s : State} (hs : Ready s) (he : isSet Reg.SAV.CFG_PFAIL_EN s = false)
    (h7 : savState s ≠ 7) :
    Completes .pfail s fun t => t.eng.last.pfailLow = true ∧ vinGoodNow t = false ∧ Changes [.eng, .sav] [] s t := by
  have heff : pfail (begun s) =
      vinLost { s.eng with last := { s.eng.last with pfailLow := true } } s := by
    have hen : isSet Reg.SAV.CFG_PFAIL_EN (begun s) = false := he
    unfold pfail
    rw [hen]
    exact vinFalls_noHold h7
  have hall := changes_vinLost { s.eng with last := { s.eng.last with pfailLow := true } } s
  refine .leaves hs rfl heff (hall.reqs.trans hs.2) fun t q => ?_
  have heng : t.eng = { s.eng with last := { s.eng.last with pfailLow := true } } := q.eng
  exact ⟨by rw [heng], by simp [vinGoodNow, heng], hall.ended q⟩

/-- Settles O36, by the fence cycle where the trigger fences, and by the trigger's other ends. -/
theorem triggerCommands : Obligations.TriggerCommands := by
  unfold Obligations.TriggerCommands
  intro s hs c k hc fences
  refine ⟨fun ha hf => ?_, completes_triggerAdds hs hc, fun hk => completes_triggerDisarmed hs hc hk,
    fun hk => completes_triggerHold hs hc hk, fun hk h => ?_, completes_pfailUnused hs⟩
  · refine (completes_triggerFence hs hc ha hf).mono fun t ⟨hinv, ht⟩ hst => ?_
    obtain ⟨h, hstate, hseq⟩ := ht hst
    exact ⟨bne_iff_ne.2 (h.fenced.trans_ne (by decide)), hstate, h.trigger, hseq, h.ok, h.outcome, h.frame, h.t0,
        h.reset, h.event,
      persistOk_of_reason hinv (reasons_fenced h.fenced), h.writes, h.ring, h.twin, h.checkpoint, h.key,
      fun a => readByte_congr a h.mem⟩
  · obtain ⟨rfl⟩ : c = .chipReset := by
      rcases hc with ⟨-, h, -⟩ | ⟨-, h⟩ | ⟨h, -⟩
      · omega
      · omega
      · exact h
    exact completes_chipResetAsked hs h

end Sys2Proof.Machine
end

section
/-! SUPPORT. Admission and the image of a restore (R310, R311, R315, R318, R320, R322, R486). -/

namespace Sys2Proof.Machine
set_option Elab.async false

/-! ### The bytes of a record's image -/

theorem look_absent {α : Type} {l : List (Nat × α)} {k : Nat} (h : ∀ c ∈ l, c.1 ≠ k) : look l k = none := by
  induction l with
  | nil => rfl
  | cons c l ih =>
    rw [look_cons, if_neg (h c (by simp))]
    exact ih fun d hd => h d (List.mem_cons_of_mem _ hd)

theorem readByte_stored {lo o : Nat} (l : List Host.Cell) (h : rising l = true) (s : State) :
    readByte (lo + o) (forEach l (fun c => writeByte (lo + c.1) c.2) s) = (look l o).getD (readByte (lo + o) s) := by
  induction l generalizing s with
  | nil => rfl
  | cons c l ih =>
    rw [rising_iff, List.pairwise_cons] at h
    obtain ⟨hfirst, hrest⟩ := h
    rw [forEach_cons, ih ((rising_iff l).2 hrest), look_cons]
    by_cases ho : c.1 = o
    · rw [look_absent fun d hd => by have := hfirst d hd; omega, if_pos ho, ← ho]
      exact readByte_writeByte_same _ _ _
    · rw [if_neg ho, readByte_writeByte_other _ _ (by omega)]

theorem readByte_stored_other {lo a : Nat} (l : List Host.Cell) (h : ∀ c ∈ l, a ≠ lo + c.1) (s : State) :
    readByte a (forEach l (fun c => writeByte (lo + c.1) c.2) s) = readByte a s :=
  forEach_keeps (fun t => readByte a t = readByte a s) l _ s rfl fun c hc _ ht =>
    (readByte_writeByte_other _ _ (h c hc)).trans ht

theorem readByte_cleared {lo n a : Nat} (h : lo ≤ a ∧ a < lo + n) (s : State) :
    readByte a (clearRange lo n (fun _ => false) s) = 0 := by
  have hnone : look (clearRange lo n (fun _ => false) s).dram.mem a = none :=
    look_filter_none _ _ fun v => by simp [h]
  rw [readByte, hnone]
  rfl

theorem readByte_cleared_other {lo n a : Nat} (h : a < lo ∨ lo + n ≤ a) (s : State) :
    readByte a (clearRange lo n (fun _ => false) s) = readByte a s := by
  have hkept : look (clearRange lo n (fun _ => false) s).dram.mem a = look s.dram.mem a :=
    look_filter_all _ _ fun v => by simp; omega
  rw [readByte, hkept, ← readByte]

/-- Lines that are poisoned one after the other are poisoned together. -/
theorem isPoisoned_forEach {base : Nat} (l : List Nat) {j : Nat} (h : j ∈ l) (s : State) :
    isPoisoned (base + j) (forEach l (fun i => addPoison (base + i)) s) = true := by
  induction l generalizing s with
  | nil => simp at h
  | cons i l ih =>
    rw [forEach_cons]
    rcases List.mem_cons.1 h with rfl | h
    · refine forEach_keeps (fun t => isPoisoned (base + j) t = true) l _ _ (contains_addNat _ _) fun k _ t ht => ?_
      exact List.contains_iff_mem.2 ((mem_addNat _ _ _).2 (.inr (List.contains_iff_mem.1 ht)))
    · exact ih h _

/-- A record's image as it goes to a granule of which the host wrote no line. -/
def imageLoaded (g : Nat) (image : List Host.Cell) (poison : List Nat) (s : State) : State :=
  loadImage g image poison (fun _ => false) s

theorem imageLoaded_eq (g : Nat) (image : List Host.Cell) (poison : List Nat) (s : State) :
    imageLoaded g image poison s = forEach poison (fun j => addPoison (granuleBase g s + j))
      (forEach image (fun c => writeByte (g * granBytes s + c.1) c.2)
        (clearRange (g * granBytes s) (granBytes s) (fun _ => false) s)) := by
  unfold imageLoaded loadImage
  dsimp only
  have hall : ∀ {α : Type} (l : List α), l.filter (fun _ => !false) = l := fun l =>
    List.filter_eq_self.2 fun _ _ => rfl
  rw [hall, hall]

theorem changes_imageLoaded (g : Nat) (image : List Host.Cell) (poison : List Nat) (s : State) :
    Changes [.dram] [] s (imageLoaded g image poison s) := by
  rw [imageLoaded_eq]
  refine Changes.each (Changes.each ((Changes.refl [.dram] [] s).in_dram _ (by simp)) _ _ fun c _ u hu => ?_) _ _
    fun j _ u hu => ?_
  · exact hu.in_dram _ (by simp)
  · exact hu.in_dram _ (by simp)

theorem readByte_poisons (a base : Nat) (l : List Nat) (s : State) :
    readByte a (forEach l (fun j => addPoison (base + j)) s) = readByte a s :=
  forEach_keeps (fun t => readByte a t = readByte a s) l _ s rfl fun _ _ _ ht => ht

theorem imageLoaded_bytes {g : Nat} {image : List Host.Cell} (poison : List Nat) {s : State}
    (hin : ∀ c ∈ image, c.1 < granBytes s) {a : Nat} (h : a < g * granBytes s ∨ (g + 1) * granBytes s ≤ a) :
    readByte a (imageLoaded g image poison s) = readByte a s := by
  rw [Nat.succ_mul] at h
  rw [imageLoaded_eq, readByte_poisons, readByte_stored_other _ fun c hc => ?_, readByte_cleared_other h]
  have := hin c hc
  omega

theorem imageLoaded_data {g : Nat} {image : List Host.Cell} (poison : List Nat) {s : State}
    (hwf : Memory.wf image = true) {o : Nat} (ho : o < granBytes s) :
    readByte (g * granBytes s + o) (imageLoaded g image poison s) = (look image o).getD 0 := by
  rw [imageLoaded_eq, readByte_poisons, readByte_stored _ ((wf_iff image).1 hwf).1,
    readByte_cleared ⟨Nat.le_add_right _ _, by omega⟩]

theorem imageLoaded_poison {g : Nat} (image : List Host.Cell) {poison : List Nat} {j : Nat} (h : j ∈ poison)
    (s : State) : isPoisoned (granuleBase g s + j) (imageLoaded g image poison s) = true := by
  rw [imageLoaded_eq]
  exact isPoisoned_forEach poison h _

/-! ### A granule restored -/

theorem changes_setInflight (l : List (Nat × Flight)) (s : State) :
    Changes [.rsr] [Reg.RSR.SLOTS_IN_FLIGHT, Reg.RSR.SLOTS_DEMAND] s (setInflight l s) :=
  (((Changes.refl [.rsr] _ s).in_rsr _ (by simp)).set _ _ (by simp)).set _ _ (by simp)

theorem changes_urgentEnds (g : Nat) (s : State) : Changes [.nand] [] s (urgentEnds g s) := by
  unfold urgentEnds
  split
  · exact (endOp_dieOps _ _ _ _ _).changes
  · exact .refl _ _ _

/-- The fields of a granule's end in the restore. -/
def granuleMarks : List Fld := [Reg.RSR.DONE_GRAN, Reg.RSR.SLOTS_IN_FLIGHT, Reg.RSR.SLOTS_DEMAND]

theorem markRestored_shown (g : Nat) (s : State) :
    Changes [.rsr, .nand] granuleMarks s (markRestored g s) ∧
    (markRestored g s).rsr.restored = addNat s.rsr.restored g ∧ (markRestored g s).rsr.lost = s.rsr.lost ∧
    get Reg.RSR.DONE_GRAN (markRestored g s) = (get Reg.RSR.DONE_GRAN s + 1) % 2 ^ 25 := by
  unfold markRestored
  have hdone : Changes [.rsr] [Reg.RSR.DONE_GRAN] s (set Reg.RSR.DONE_GRAN (get Reg.RSR.DONE_GRAN s + 1)
      { s with rsr := { s.rsr with restored := addNat s.rsr.restored g } }) :=
    ((Changes.refl [.rsr] _ s).in_rsr _ (by simp)).set _ _ (by simp)
  have hstored := get_set_same Reg.RSR.DONE_GRAN (get Reg.RSR.DONE_GRAN s + 1)
    { s with rsr := { s.rsr with restored := addNat s.rsr.restored g } }
  have hrsr : (set Reg.RSR.DONE_GRAN (get Reg.RSR.DONE_GRAN s + 1)
      { s with rsr := { s.rsr with restored := addNat s.rsr.restored g } }).rsr =
      { s.rsr with restored := addNat s.rsr.restored g } := rfl
  generalize set Reg.RSR.DONE_GRAN (get Reg.RSR.DONE_GRAN s + 1)
    { s with rsr := { s.rsr with restored := addNat s.rsr.restored g } } = u at *
  have hflight := changes_setInflight (drop s.rsr.inflight g) u
  have hcore : (setInflight (drop s.rsr.inflight g) u).rsr = { u.rsr with inflight := drop s.rsr.inflight g } := rfl
  generalize setInflight (drop s.rsr.inflight g) u = v at *
  have hends := changes_urgentEnds g v
  refine ⟨((hdone.widen (by simp) (by simp [granuleMarks])).trans (hflight.widen (by simp)
    (by simp [granuleMarks]))).trans (hends.widen (by simp) (by simp)), ?_, ?_, ?_⟩
  · rw [hends.rsr (by simp), hcore, hrsr]
  · rw [hends.rsr (by simp), hcore, hrsr]
  · exact (hends.regs _ (by simp) (by decide)).trans ((hflight.regs _ (by decide) (by decide)).trans hstored)

/-- What a granule's end leaves once no request waits in a port: at most the admission falls due (R311). -/
theorem granuleRestored_ended {g : Nat} {ok : Bool} {s u : State} (hm : mayRestore g s = true)
    (hst : s.hp.stalled = []) (hr : restoreGranule g ok (begun s) = u) (hu : u.hp.stalled = []) :
    ∃ r, granuleRestored g ok (begun s) = { u with rsr := { u.rsr with ready := r } } := by
  have hdemand : demandWaited g (begun s) = begun s := by
    unfold demandWaited
    rw [show (begun s).hp.stalled = [] from hst]
    rfl
  have hmay : ¬ (!mayRestore g (begun s)) = true := by
    rw [show mayRestore g (begun s) = mayRestore g s from rfl, hm]
    decide
  have hrun : granuleRestored g ok (begun s) =
      if rsrStage u = 7 ∧ allRestored u = true then setRsr (fun r => { r with ready := true }) u else u := by
    unfold granuleRestored afterRestore
    rw [if_neg hmay, hdemand, hr, retryStalled_none hu]
    simp
  rw [hrun]
  split
  · exact ⟨true, rfl⟩
  · exact ⟨u.rsr.ready, rfl⟩

theorem sealValid_count (r : SealRec) (k : Nat) (s : State) :
    sealValid r (count Reg.RSR.SQUASHED_COUNT k s) = sealValid r s := by
  have hfail : (Reg.NCH.STS_FAILED r.loc.ch).key ≠ Reg.RSR.SQUASHED_COUNT.key := by
    simp only [Fld.key, Reg.NCH.STS_FAILED, Reg.RSR.SQUASHED_COUNT]
    omega
  have hdies : (Reg.NCH.DIE_FAIL_DIES r.loc.ch).key ≠ Reg.RSR.SQUASHED_COUNT.key := by
    simp only [Fld.key, Reg.NCH.DIE_FAIL_DIES, Reg.RSR.SQUASHED_COUNT]
    omega
  unfold sealValid dieReads channelGood channelPresent isSet count
  rw [get_set_other _ _ hfail, get_set_other _ _ hdies, get_set_other _ _ (by decide)]
  rfl

/-- A granule whose record is good (R315). -/
theorem restoreGranule_good {g : Nat} {r : SealRec} {s : State} (hu : unrestored g s = true)
    (hl : hostLines g s = []) (hr : currentRecord g s = some r) (hv : sealValid r s = true) :
    restoreGranule g true s = markRestored g (putEntry g
      { entryOf g (imageLoaded g r.image r.poison (count Reg.RSR.SQUASHED_COUNT 0 s)) with state := .clean }
      (imageLoaded g r.image r.poison (count Reg.RSR.SQUASHED_COUNT 0 s))) := by
  have hsame : sealValid r (count Reg.RSR.SQUASHED_COUNT 0 s) = true := by
    rw [← hv]
    exact sealValid_count r 0 s
  unfold restoreGranule
  rw [hu, hl]
  dsimp only
  rw [List.length_nil, show currentRecord g (count Reg.RSR.SQUASHED_COUNT 0 s) = some r from hr]
  simp only [Option.filter_some, hsame]
  rfl

/-- A granule without a record that holds (R318). -/
theorem restoreGranule_lost {g : Nat} {ok : Bool} {s : State} (hu : unrestored g s = true)
    (hl : hostLines g s = []) (h : ok = false ∨ ∀ r, currentRecord g s = some r → sealValid r s = false) :
    restoreGranule g ok s = markRestored g (restoreLost g (imageLoaded g [] (List.range (granLines s))
      (count Reg.RSR.SQUASHED_COUNT 0 s))) := by
  have hnone : (if ok then (currentRecord g (count Reg.RSR.SQUASHED_COUNT 0 s)).filter
      (fun r => sealValid r (count Reg.RSR.SQUASHED_COUNT 0 s)) else none) = none := by
    cases ok
    · rfl
    · rw [if_pos rfl, Option.filter_eq_none_iff]
      intro r hr
      rw [sealValid_count, h.resolve_left (by simp) r hr]
      simp
  unfold restoreGranule
  rw [hu, hl]
  dsimp only
  rw [List.length_nil, hnone]
  have hlines : granLines (count Reg.RSR.SQUASHED_COUNT 0 s) = granLines s :=
    congrArg (fun n => granBytesOf n / 64) (get_set_other _ _ (by decide))
  rw [← hlines]
  generalize count Reg.RSR.SQUASHED_COUNT 0 s = u
  have hpoison : poisonGranule g (fun l => [].contains l) u = imageLoaded g [] (List.range (granLines u)) u := rfl
  simp only [Bool.not_true, Bool.false_eq_true, if_false]
  rw [hpoison]

/-- The fields of a granule's restore, with a good record. -/
def restoreFields : List Fld := Reg.RSR.SQUASHED_COUNT :: entryFields ++ granuleMarks

theorem restore_apart : (∀ f ∈ entryFields ++ [Reg.RSR.SQUASHED_COUNT], f.key ≠ Reg.MRV.CFG_GRAN_IN_USE.key ∧
    f.key ≠ Reg.RSR.DONE_GRAN.key) ∧ Reg.RSR.DONE_GRAN.key ∉ settleKeys := by decide +kernel

theorem completes_granuleGood {s : State} (hs : Ready s) {g : Nat} {r : SealRec} (hm : mayRestore g s = true)
    (hu : unrestored g s = true) (hr : currentRecord g s = some r) (hv : sealValid r s = true)
    (hl : hostLines g s = []) :
    Completes (.restoreGranuleDone g true) s fun t =>
      s.hp.stalled = [] → Memory.wf r.image = true → (∀ c ∈ r.image, c.1 < granBytes s) →
      g ∈ t.rsr.restored ∧ (entryOf g t).state = .clean ∧
      get Reg.RSR.DONE_GRAN t = (get Reg.RSR.DONE_GRAN s + 1) % 2 ^ 25 ∧
      (∀ o, o < granBytes s → readByte (g * granBytes s + o) t = (look r.image o).getD 0) ∧
      (∀ a, a < g * granBytes s ∨ (g + 1) * granBytes s ≤ a → readByte a t = readByte a s) := by
  refine .leavesIf hs rfl fun hst => ?_
  have hgood := restoreGranule_good (s := begun s) hu hl hr hv
  have hcount : Changes [.dram, .mrv, .rsr, .nand] restoreFields s (count Reg.RSR.SQUASHED_COUNT 0 (begun s)) :=
    (Changes.begin _ _ s).count _ _ (by simp [restoreFields])
  have hgran : granBytes (count Reg.RSR.SQUASHED_COUNT 0 (begun s)) = granBytes s :=
    congrArg granBytesOf (get_set_other _ _ (by decide))
  have hdone : get Reg.RSR.DONE_GRAN (count Reg.RSR.SQUASHED_COUNT 0 (begun s)) = get Reg.RSR.DONE_GRAN s :=
    get_set_other _ _ (by decide)
  have hread : ∀ a, readByte a (count Reg.RSR.SQUASHED_COUNT 0 (begun s)) = readByte a s := fun _ => rfl
  have hports : (count Reg.RSR.SQUASHED_COUNT 0 (begun s)).hp = s.hp := rfl
  generalize count Reg.RSR.SQUASHED_COUNT 0 (begun s) = c at *
  have himage := changes_imageLoaded g r.image r.poison c
  have hdata := fun hwf o ho => imageLoaded_data (g := g) r.poison (s := c) (image := r.image) hwf (o := o) ho
  have hbytes := fun hin a ha => imageLoaded_bytes (g := g) r.poison (s := c) (image := r.image) hin (a := a) ha
  rw [hgran] at hdata hbytes
  generalize imageLoaded g r.image r.poison c = i at *
  have hput := changes_putEntry g { entryOf g i with state := .clean } i
  have hentry := entryOf_putEntry g g { entryOf g i with state := .clean } i
  rw [if_pos rfl] at hentry
  generalize putEntry g { entryOf g i with state := .clean } i = v at *
  obtain ⟨hmark, hin, -, hcounted⟩ := markRestored_shown g v
  generalize markRestored g v = u at *
  have hall : Changes [.dram, .mrv, .rsr, .nand] restoreFields s u :=
    ((hcount.trans (himage.widen (by simp) (by simp))).trans (hput.widen (by simp)
      (by simp [restoreFields, entryFields]))).trans (hmark.widen (by simp) (by simp +contextual [restoreFields]))
  have hust : u.hp.stalled = [] := (hall.ports (by simp) Hp.stalled fun _ => rfl).trans hst
  obtain ⟨b, hb⟩ := granuleRestored_ended hm hst hgood hust
  rw [hb]
  refine ⟨hall.reqs.trans hs.2, fun t k hwf hlow => ⟨?_, ?_, ?_, fun o ho => ?_, fun a ha => ?_⟩⟩
  · rw [k.rsr]
    show g ∈ u.rsr.restored
    rw [hin]
    exact mem_addNat_self _ _
  · rw [entryOf_shown k.mrv, show entryOf g { u with rsr := { u.rsr with ready := b } } = entryOf g u from rfl,
      entryOf_shown (hmark.mrv (by simp)), hentry]
  · refine k.stored (by decide) (hcounted.trans ?_)
    rw [hput.regs _ (by decide) (by decide), himage.regs _ (by decide) (by decide), hdone]
  · have hmem : u.dram.mem = i.dram.mem := by rw [hmark.dram (by simp), hput.dram (by simp)]
    exact (k.bytes hmem _).trans (hdata hwf o ho)
  · have hmem : u.dram.mem = i.dram.mem := by rw [hmark.dram (by simp), hput.dram (by simp)]
    exact (k.bytes hmem _).trans ((hbytes hlow a ha).trans (hread a))

/-! ### A granule without a record -/

/-- The granule is LOST, and told so, before its source is raised (R318). -/
def lostMarked (g : Nat) (s : State) : State :=
  { s with rsr := { s.rsr with lost := addNat s.rsr.lost g } }
    |> putEntry g { entryOf g s with state := .dirty, lost := true }
    |> granuleLostRecord g 1 |> inc Reg.RSR.LOST_COUNT |> event 0x43 4

theorem restoreLost_eq (g : Nat) (s : State) : restoreLost g s =
    countDirtyShutdown (raiseSimple 240 0 0 (get Reg.RSR.LOST_COUNT s + 1) 0 (lostMarked g s)) := rfl

def lostMarks : List Fld := Reg.RSR.LOST_COUNT :: Reg.EVT_STS 0x43 4 :: (entryFields ++ recordFields 0)

theorem lostMarks_apart : (∀ f ∈ sourceCard 240, f.key ∉ (lostMarks ++ granuleMarks).map Fld.key) ∧
    Reg.RSR.LOST_COUNT.key ∉ (entryFields ++ recordFields 0 ++ raiseFields 240).map Fld.key ∧
    (Reg.EVT_STS 0x43 4).key ∉ (raiseFields 240).map Fld.key ∧
    Reg.RSR.DONE_GRAN.key ∉ (lostMarks ++ raiseFields 240).map Fld.key ∧ (Reg.EVT_STS 0x43 4).key ∉ settleKeys ∧
    Reg.RSR.LOST_COUNT.key ∉ settleKeys := by decide +kernel

theorem lostMarked_shown (g : Nat) (s : State) :
    Changes [.rsr, .mrv, .gq] lostMarks s (lostMarked g s) ∧
    (lostMarked g s).rsr = { s.rsr with lost := addNat s.rsr.lost g } ∧
    entryOf g (lostMarked g s) = { entryOf g s with state := .dirty, lost := true } ∧
    get Reg.RSR.LOST_COUNT (lostMarked g s) = oneMore Reg.RSR.LOST_COUNT s ∧
    get (Reg.EVT_STS 0x43 4) (lostMarked g s) = 1 := by
  obtain ⟨-, hlost, -, -, -, hls⟩ := lostMarks_apart
  unfold lostMarked
  have hrsr : ({ s with rsr := { s.rsr with lost := addNat s.rsr.lost g } } : State).rsr =
    { s.rsr with lost := addNat s.rsr.lost g } := rfl
  have hfirst := (Changes.refl [.rsr, .mrv, .gq] lostMarks s).in_rsr { s.rsr with lost := addNat s.rsr.lost g }
    (by simp)
  have hold : get Reg.RSR.LOST_COUNT { s with rsr := { s.rsr with lost := addNat s.rsr.lost g } } =
    get Reg.RSR.LOST_COUNT s := rfl
  generalize ({ s with rsr := { s.rsr with lost := addNat s.rsr.lost g } } : State) = u at *
  have hput := changes_putEntry g { entryOf g s with state := .dirty, lost := true } u
  have hentry := entryOf_putEntry g g { entryOf g s with state := .dirty, lost := true } u
  rw [if_pos rfl] at hentry
  generalize putEntry g { entryOf g s with state := .dirty, lost := true } u = v at *
  have hrec : Changes [.mrv, .gq] (entryFields ++ recordFields 0) u (granuleLostRecord g 1 v) :=
    (hput.widen (by simp) (by simp [entryFields])).pushRecord (by decide) (by simp)
      (fun _ h => List.mem_append_right _ h) _
  have hsame : entryOf g (granuleLostRecord g 1 v) = entryOf g v :=
    entryOf_shown (((Changes.refl [.gq] (recordFields 0) v).pushRecord (by decide) (by simp) (fun _ h => h) _).mrv
      (by simp))
  generalize granuleLostRecord g 1 v = w at *
  refine ⟨?_, ?_, ?_, ?_, get_set_same _ _ _⟩
  · refine Changes.event (Changes.inc (hfirst.trans (hrec.widen (by simp) ?_)) _ (by simp [lostMarks])) _ _
      (by simp [lostMarks])
    exact fun f hf => List.mem_cons_of_mem _ (List.mem_cons_of_mem _ hf)
  · exact (hrec.rsr (by simp)).trans hrsr
  · exact hsame.trans hentry
  · refine (get_set_other _ _ (by decide)).trans ((get_inc_same _ _).trans ?_)
    rw [hrec.regs _ (fun h => hlost (by rw [List.map_append]; exact List.mem_append_left _ h)) hls, hold]

theorem changes_countDirty (s : State) : Changes [.hp] [] s (countDirtyShutdown s) ∧
    (countDirtyShutdown s).hp.stalled = s.hp.stalled := by
  unfold countDirtyShutdown
  split
  · exact ⟨.refl _ _ _, rfl⟩
  · exact ⟨(Changes.refl _ _ s).in_hp _ (by simp), rfl⟩

theorem completes_granuleLost {s : State} (hs : Ready s) {g : Nat} {ok : Bool} (hm : mayRestore g s = true)
    (hu : unrestored g s = true) (hl : hostLines g s = [])
    (h : ok = false ∨ ∀ r, currentRecord g s = some r → sealValid r s = false) :
    Completes (.restoreGranuleDone g ok) s fun t => s.hp.stalled = [] → Fresh 240 s →
      g ∈ t.rsr.restored ∧ g ∈ t.rsr.lost ∧ (entryOf g t).lost = true ∧ (entryOf g t).state = .dirty ∧
      (∀ j, j < granLines s → isPoisoned (granuleBase g s + j) t = true) ∧
      get Reg.RSR.LOST_COUNT t = oneMore Reg.RSR.LOST_COUNT s ∧ get (Reg.EVT_STS 0x43 4) t = 1 ∧ Raised 240 s t ∧
      (∀ a, a < g * granBytes s ∨ (g + 1) * granBytes s ≤ a → readByte a t = readByte a s) := by
  refine (Completes.leavesIf (Q := s.hp.stalled = [] ∧ Fresh 240 s) hs rfl fun ⟨hst, hf⟩ => ?_).mono
    fun t ht h1 h2 => ht ⟨h1, h2⟩
  have hgood := restoreGranule_lost (s := begun s) hu hl h
  have hlines : granLines (begun s) = granLines s := rfl
  rw [hlines] at hgood
  have hcount : Changes [] [Reg.RSR.SQUASHED_COUNT] s (count Reg.RSR.SQUASHED_COUNT 0 (begun s)) :=
    (Changes.begin _ _ s).count _ _ (by simp)
  have hgran : granBytes (count Reg.RSR.SQUASHED_COUNT 0 (begun s)) = granBytes s :=
    congrArg granBytesOf (get_set_other _ _ (by decide))
  have hbase : granuleBase g (count Reg.RSR.SQUASHED_COUNT 0 (begun s)) = granuleBase g s :=
    congrArg (fun n => g * (n / 64)) hgran
  have hread : ∀ a, readByte a (count Reg.RSR.SQUASHED_COUNT 0 (begun s)) = readByte a s := fun _ => rfl
  generalize count Reg.RSR.SQUASHED_COUNT 0 (begun s) = c at *
  have himage := changes_imageLoaded g [] (List.range (granLines s)) c
  have hpoison := fun j hj => imageLoaded_poison (g := g) [] (poison := List.range (granLines s)) (j := j)
    (List.mem_range.2 hj) c
  have hbytes := fun a ha => imageLoaded_bytes (g := g) (image := []) (List.range (granLines s)) (s := c)
    (by simp) (a := a) ha
  rw [hgran] at hbytes
  rw [hbase] at hpoison
  generalize imageLoaded g [] (List.range (granLines s)) c = i at *
  obtain ⟨hapart, hlostRaise, hevent, hdone, hevs, hls⟩ := lostMarks_apart
  have hsi : Changes [.dram] [Reg.RSR.SQUASHED_COUNT] s i :=
    (hcount.widen (by simp) (fun _ h => h)).trans (himage.widen (fun _ h => h) (by simp))
  rw [restoreLost_eq] at hgood
  obtain ⟨hmarked, hrsr, hentry, hlost, hev⟩ := lostMarked_shown g i
  rw [oneMore, hsi.regs _ (by decide) hls, ← oneMore] at hlost
  have hsource : SameSource 240 s (lostMarked g i) :=
    (hsi.source (by decide) (by decide +kernel)).trans (hmarked.source (by decide) fun f hf hmem =>
      hapart f hf (by rw [List.map_append]; exact List.mem_append_left _ hmem))
  generalize lostMarked g i = m at *
  have hraise := changes_raiseSimple (hsource.fresh hf).2 0 0 (get Reg.RSR.LOST_COUNT i + 1) 0
  have hraised := hsource.raised (raised_raiseSimple (hsource.fresh hf) (by decide) (by decide) 0 0
    (get Reg.RSR.LOST_COUNT i + 1) 0)
  generalize raiseSimple 240 0 0 (get Reg.RSR.LOST_COUNT i + 1) 0 m = v at *
  obtain ⟨hdirty, hkept⟩ := changes_countDirty v
  generalize countDirtyShutdown v = w at *
  obtain ⟨hmark, hin, hlostKept, -⟩ := markRestored_shown g w
  generalize markRestored g w = u at *
  have hvu : Changes [.hp, .rsr, .nand] granuleMarks v u :=
    (hdirty.widen (by simp) (by simp)).trans (hmark.widen (by simp) (fun _ h => h))
  have hsv : Changes (.dram :: .rsr :: .mrv :: raiseParts) (Reg.RSR.SQUASHED_COUNT :: lostMarks ++ raiseFields 240) s
      v :=
    ((hsi.widen (by simp) (by simp)).trans (hmarked.widen (by simp [raiseParts]) (by simp +contextual))).trans
      (hraise.widen (by decide) (List.subset_append_right _ _))
  have hust : u.hp.stalled = [] := by
    rw [hmark.ports (by simp) Hp.stalled fun _ => rfl, hkept, hsv.ports (by decide) Hp.stalled fun _ => rfl, hst]
  obtain ⟨b, hb⟩ := granuleRestored_ended hm hst hgood hust
  rw [hb]
  have hvrsr : v.rsr = m.rsr := hraise.rsr (by decide)
  have hwrsr : w.rsr = m.rsr := (hdirty.rsr (by simp)).trans hvrsr
  have hmem : u.dram = i.dram := by
    rw [hvu.dram (by simp), hraise.dram (by decide), hmarked.dram (by simp)]
  have hent : entryOf g u = { entryOf g i with state := .dirty, lost := true } := by
    rw [entryOf_shown (hvu.mrv (by simp)), entryOf_shown (hraise.mrv (by decide)), hentry]
  refine ⟨hvu.reqs.trans (hsv.reqs.trans hs.2), fun t k => ⟨?_, ?_, ?_, ?_, fun j hj => ?_, ?_, ?_, ?_, fun a ha => ?_⟩⟩
  · rw [k.rsr]
    show g ∈ u.rsr.restored
    rw [hin]
    exact mem_addNat_self _ _
  · rw [k.rsr]
    show g ∈ u.rsr.lost
    rw [hlostKept, hwrsr, hrsr]
    exact mem_addNat_self _ _
  · rw [entryOf_shown k.mrv]
    exact congrArg Entry.lost hent
  · rw [entryOf_shown k.mrv]
    exact congrArg Entry.state hent
  · rw [isPoisoned, k.dram]
    show u.dram.poisoned.contains _ = true
    rw [hmem]
    exact hpoison j hj
  · refine k.stored hls ((hvu.regs _ (by decide) hls).trans ((hraise.regs _ (fun hm => hlostRaise ?_) hls).trans hlost))
    rw [List.map_append]
    exact List.mem_append_right _ hm
  · exact k.stored hevs ((hvu.regs _ (by decide) hevs).trans ((hraise.regs _ hevent hevs).trans hev))
  · refine (SameSource.settle (by decide) k).stays ?_
    refine ((hvu.source (n := 240) (by decide) fun f hf hm => hapart f hf ?_).stays hraised : Raised 240 s u)
    rw [List.map_append]
    exact List.mem_append_right _ hm
  · exact (k.bytes (congrArg Dram.mem hmem) _).trans ((hbytes a ha).trans (hread a))

/-! ### The continuity record (R322) -/

theorem changes_lostRecords (k : Nat) (l : List (Nat × Nat)) (s : State) : Changes [] [] s (lostRecords k l s) := by
  induction k generalizing l s with
  | zero => exact .refl _ _ _
  | succ k ih => exact .branch _ (.refl _ _ _) ((changes_toJournal _ _).trans (ih _ _))

theorem changes_contextRecord (os : List CtxOutcome) (s : State) : Changes [] [] s (contextRecord os s) :=
  .branch _ (.refl _ _ _) (changes_toJournal _ _)

theorem publishContinuity_shown (warm : Bool) (s : State) :
    Changes [.rsr] [Reg.RSR.CONTINUITY_DATA, Reg.EVT_STS 0x43 5] s (publishContinuity warm s) ∧
    (∃ l, (publishContinuity warm s).rsr = { s.rsr with continuity := l }) ∧
    get (Reg.EVT_STS 0x43 5) (publishContinuity warm s) = 1 := by
  unfold publishContinuity
  dsimp only
  have hfirst := (Changes.refl [.rsr] [Reg.RSR.CONTINUITY_DATA, Reg.EVT_STS 0x43 5] s).in_rsr
    { s.rsr with continuity := (record 0x40 (contPayload warm s) s).map (·.toNat) } (by simp)
  have hrest := ((changes_toJournal (record 0x40 (contPayload warm s) s)
    { s with rsr := { s.rsr with continuity := (record 0x40 (contPayload warm s) s).map (·.toNat) } }).trans
    (changes_lostRecords ((s.rsr.cut ++ s.rsr.moved ++ ranges s.rsr.lost).length + 1)
      (s.rsr.cut ++ s.rsr.moved ++ ranges s.rsr.lost) _)).trans (changes_contextRecord s.rsr.outcomes _)
  generalize contextRecord s.rsr.outcomes _ = u at *
  have hshow : Changes [] [Reg.RSR.CONTINUITY_DATA, Reg.EVT_STS 0x43 5] u (event 0x43 5 (continuityShow u)) :=
    ((Changes.refl [] _ u).set _ _ (by simp)).event _ _ (by simp)
  refine ⟨hfirst.trans ((hrest.widen (by simp) (by simp)).trans (hshow.widen (by simp) (fun _ h => h))),
    ⟨(record 0x40 (contPayload warm s) s).map (·.toNat), ?_⟩, get_set_same _ _ _⟩
  exact (hshow.rsr (by simp)).trans (hrest.rsr (by simp))

/-! ### Admission (R310, R311) -/

def admitMarks : List Fld :=
  [Reg.SYS.PERSIST_BOOT, Reg.SYS.PERSIST_FENCED, Reg.RSR.STS_ADMITTED, Reg.EVT_STS 0x43 1, Reg.SAV.STS_STATE,
    Reg.SAV.STS_ARMED]

/-- The device is admitted, before its ports open. -/
def admitMarked (s : State) : State :=
  s |> writeRunRecord |> set Reg.SYS.PERSIST_BOOT 0 |> set Reg.SYS.PERSIST_FENCED 0
    |> set Reg.RSR.STS_ADMITTED 1 |> event 0x43 1 |> set Reg.SAV.STS_STATE 1 |> set Reg.SAV.STS_ARMED 1

theorem admitMarked_shown (s : State) : Changes [.rsr] admitMarks s (admitMarked s) ∧
    get Reg.SYS.PERSIST_BOOT (admitMarked s) = 0 ∧ get Reg.SYS.PERSIST_FENCED (admitMarked s) = 0 ∧
    get Reg.RSR.STS_ADMITTED (admitMarked s) = 1 ∧ get (Reg.EVT_STS 0x43 1) (admitMarked s) = 1 ∧
    get Reg.SAV.STS_STATE (admitMarked s) = 1 ∧ get Reg.SAV.STS_ARMED (admitMarked s) = 1 := by
  refine ⟨?_, ?_, ?_, ?_, ?_, ?_, ?_⟩
  · exact (((((((Changes.refl [.rsr] admitMarks s).in_rsr _ (by simp)).set _ _ (by simp [admitMarks])).set _ _
      (by simp [admitMarks])).set _ _ (by simp [admitMarks])).event _ _ (by simp [admitMarks])).set _ _
      (by simp [admitMarks])).set _ _ (by simp [admitMarks])
  all_goals simp (disch := decide) only [admitMarked, event, get_set_other, get_set_same]
  all_goals rfl

theorem portsOpen_shown (s : State) : Changes [] portFenceFields s (portsOpen s) ∧
    ∀ n : Fin 4, get (Reg.HPT.STS_FENCED n) (portsOpen s) = 0 := by
  refine ⟨(Changes.refl [] _ s).each _ _ fun n hn u hu => hu.set _ _ (List.mem_map_of_mem (List.mem_map_of_mem hn)),
    fun n => ?_⟩
  have hkey : ∀ j, j ≠ n.val → (Reg.HPT.STS_FENCED n.val).key ≠ (Reg.HPT.STS_FENCED j).key := fun j hj => by
    simp only [Fld.key, Reg.HPT.STS_FENCED]
    omega
  exact get_forEach_of_mem (fun n => set (Reg.HPT.STS_FENCED n) 0) (fun u => get_set_same _ _ _)
    (fun j hj u => get_set_other _ _ (hkey j hj)) (by have := n.isLt; simp; omega) s

/-- The admission is due no more, and the Lehr compares anew. -/
def admissionTaken (s : State) : State :=
  { s with rsr := { s.rsr with ready := false }, mrv := { s.mrv with firstCompare := true } }

theorem admissionTaken_shown (s : State) : Changes [.rsr] [] s (admissionTaken s) ∧
    (admissionTaken s).rsr = { s.rsr with ready := false } :=
  ⟨((Changes.refl [.rsr] [] s).in_rsr { s.rsr with ready := false } (by simp)).trans
    (.ofKeeps (.ofMrv { s.mrv with firstCompare := true } rfl)), rfl⟩

/-- Its fields after the admission (R311). -/
def admitFields : List Fld :=
  admitMarks ++ portFenceFields ++ ([0, 1, 2, 3].map fun n => Reg.HPT.STS_MEDIA n) ++
    [Reg.RSR.CONTINUITY_DATA, Reg.EVT_STS 0x43 5]

/-- What the admission leaves. -/
structure Admitted (s t : State) : Prop where
  boot : get Reg.SYS.PERSIST_BOOT t = 0
  fenced : get Reg.SYS.PERSIST_FENCED t = 0
  told : get Reg.RSR.STS_ADMITTED t = 1
  event : get (Reg.EVT_STS 0x43 1) t = 1
  state : get Reg.SAV.STS_STATE t = 1
  armed : get Reg.SAV.STS_ARMED t = 1
  published : get (Reg.EVT_STS 0x43 5) t = 1
  ports : ∀ n : Fin 4, get (Reg.HPT.STS_FENCED n) t = 0
  record : t.rsr.runRecord = (newestManifest s).map (·.seq)
  ready : t.rsr.ready = false

theorem admit_apart : (∀ f ∈ admitMarks, f.key ∉ (portFenceFields ++ ([0, 1, 2, 3].map fun n => Reg.HPT.STS_MEDIA n) ++
      [Reg.RSR.CONTINUITY_DATA, Reg.EVT_STS 0x43 5]).map Fld.key) ∧
    (∀ n : Fin 4, (Reg.HPT.STS_FENCED n).key ∉ (([0, 1, 2, 3].map fun n => Reg.HPT.STS_MEDIA n) ++
      [Reg.RSR.CONTINUITY_DATA, Reg.EVT_STS 0x43 5]).map Fld.key) ∧
    ∀ f ∈ admitMarks ++ portFenceFields ++ [Reg.EVT_STS 0x43 5], f.key ∉ settleKeys ∧
      f.key ∉ [Reg.SYS.BOOT_MS_ADMIT, Reg.SYS.BOOT_STAGE, Reg.ENG.STATE_CHG_ON].map Fld.key := by
  decide +kernel

theorem admitHost_eq (s : State) : admitHost s =
    publishContinuity false (mediaAll (admissionTaken (portsOpen (admitMarked s)))) := rfl

theorem admitHost_shown (s : State) : Changes [.rsr] admitFields s (admitHost s) ∧ Admitted s (admitHost s) := by
  obtain ⟨hmarks, hfences, hkeep⟩ := admit_apart
  rw [admitHost_eq]
  obtain ⟨hmark, m1, m2, m3, m4, m5, m6⟩ := admitMarked_shown s
  have hrec : (admitMarked s).rsr.runRecord = (newestManifest s).map (·.seq) := rfl
  generalize admitMarked s = m at *
  obtain ⟨hopen, hports⟩ := portsOpen_shown m
  generalize portsOpen m = o at *
  obtain ⟨hready, hrun⟩ := admissionTaken_shown o
  generalize admissionTaken o = r at *
  have hmedia := changes_mediaAll r
  generalize mediaAll r = n at *
  obtain ⟨hpub, ⟨l, hl⟩, hpublished⟩ := publishContinuity_shown false n
  generalize publishContinuity false n = p at *
  have hon : Changes [.rsr] (([0, 1, 2, 3].map fun n => Reg.HPT.STS_MEDIA n) ++
      [Reg.RSR.CONTINUITY_DATA, Reg.EVT_STS 0x43 5]) o p :=
    (hready.widen (fun _ h => h) (by simp)).trans ((hmedia.widen (by simp) (List.subset_append_left _ _)).trans
      (hpub.widen (fun _ h => h) (List.subset_append_right _ _)))
  have hmp : Changes [.rsr] (portFenceFields ++ ([0, 1, 2, 3].map fun n => Reg.HPT.STS_MEDIA n) ++
      [Reg.RSR.CONTINUITY_DATA, Reg.EVT_STS 0x43 5]) m p :=
    (hopen.widen (by simp) (by simp +contextual)).trans (hon.widen (fun _ h => h) (by
      rw [List.append_assoc]
      exact List.subset_append_right _ _))
  have hkept : ∀ f ∈ admitMarks, get f p = get f m := fun f hf =>
    hmp.regs f (hmarks f hf) (hkeep f (by simp [hf])).1
  have hrsr : p.rsr = { m.rsr with ready := false, continuity := l } := by
    rw [hl, hmedia.rsr (by simp), hrun, hopen.rsr (by simp)]
  refine ⟨(hmark.widen (fun _ h => h) (by simp +contextual [admitFields])).trans (hmp.widen (fun _ h => h)
    (by simp +contextual [admitFields])), ?_⟩
  exact {
    boot := (hkept _ (by simp [admitMarks])).trans m1
    fenced := (hkept _ (by simp [admitMarks])).trans m2
    told := (hkept _ (by simp [admitMarks])).trans m3
    event := (hkept _ (by simp [admitMarks])).trans m4
    state := (hkept _ (by simp [admitMarks])).trans m5
    armed := (hkept _ (by simp [admitMarks])).trans m6
    published := hpublished
    ports := fun i => (hon.regs _ (hfences i) (hkeep _ (by
      refine List.mem_append_left _ (List.mem_append_right _ (List.mem_map_of_mem (f := fun n => Reg.HPT.STS_FENCED n)
          ?_))
      have := i.isLt
      simp
      omega)).1).trans (hports i)
    record := by rw [hrsr, hrec]
    ready := by rw [hrsr] }

/-- An effect on other fields, and on no part but these, leaves the admission. -/
theorem Admitted.after {s u t : State} (h : Admitted s u)
    (hk : ∀ f ∈ admitMarks ++ portFenceFields ++ [Reg.EVT_STS 0x43 5], get f t = get f u)
    (hrec : t.rsr.runRecord = u.rsr.runRecord) (hready : t.rsr.ready = u.rsr.ready) : Admitted s t where
  boot := (hk _ (by simp [admitMarks])).trans h.boot
  fenced := (hk _ (by simp [admitMarks])).trans h.fenced
  told := (hk _ (by simp [admitMarks])).trans h.told
  event := (hk _ (by simp [admitMarks])).trans h.event
  state := (hk _ (by simp [admitMarks])).trans h.state
  armed := (hk _ (by simp [admitMarks])).trans h.armed
  published := (hk _ (by simp)).trans h.published
  ports := fun i => (hk _ (by
    refine List.mem_append_left _ (List.mem_append_right _ (List.mem_map_of_mem (f := fun n => Reg.HPT.STS_FENCED n)
        ?_))
    have := i.isLt
    simp
    omega)).trans (h.ports i)
  record := hrec.trans h.record
  ready := hready.trans h.ready

/-- The boot's record of the admission. -/
def admitShown (ms : Nat) (done : Bool) (s : State) : State :=
  s |> set Reg.SYS.BOOT_MS_ADMIT ms |> set Reg.SYS.BOOT_STAGE (if done then 10 else 9)
    |> (fun s => { s with eng := { s.eng with chargerHeld := false }, rsr := { s.rsr with lost := [], outcomes := [] },
                          hp := { s.hp with outageCounted := s.hp.outageCounted && !done } })
    |> chargeShow

theorem admitShown_shown (ms : Nat) (done : Bool) (s : State) :
    Changes [.eng, .rsr, .hp] [Reg.SYS.BOOT_MS_ADMIT, Reg.SYS.BOOT_STAGE, Reg.ENG.STATE_CHG_ON] s
        (admitShown ms done s) ∧
    get Reg.SYS.BOOT_STAGE (admitShown ms done s) = (if done then 10 else 9) ∧
    (admitShown ms done s).rsr = { s.rsr with lost := [], outcomes := [] } := by
  unfold admitShown
  have hset : Changes [.eng, .rsr, .hp] [Reg.SYS.BOOT_MS_ADMIT, Reg.SYS.BOOT_STAGE, Reg.ENG.STATE_CHG_ON] s
      (set Reg.SYS.BOOT_STAGE (if done then 10 else 9) (set Reg.SYS.BOOT_MS_ADMIT ms s)) :=
          ((Changes.refl _ _ s).set _ _ (by simp)).set _ _ (by simp)
  have hstage : get Reg.SYS.BOOT_STAGE (set Reg.SYS.BOOT_STAGE (if done then 10 else 9)
      (set Reg.SYS.BOOT_MS_ADMIT ms s)) = if done then 10 else 9 := by
    rw [get_set_same]
    cases done <;> rfl
  have hrsr : (set Reg.SYS.BOOT_STAGE (if done then 10 else 9)
      (set Reg.SYS.BOOT_MS_ADMIT ms s)).rsr = s.rsr := rfl
  generalize set Reg.SYS.BOOT_STAGE (if done then 10 else 9)
    (set Reg.SYS.BOOT_MS_ADMIT ms s) = u at *
  have hfree := ((hset.in_eng { u.eng with chargerHeld := false } (by simp)).in_rsr
    { u.rsr with lost := [], outcomes := [] } (by simp)).in_hp
    { u.hp with outageCounted := u.hp.outageCounted && !done } (by simp)
  refine ⟨hfree.trans ((changes_chargeShow _).widen (by simp) (by simp)), ?_, ?_⟩
  · exact ((changes_chargeShow _).regs _ (by decide) (by decide)).trans hstage
  · exact ((changes_chargeShow _).rsr (by simp)).trans (congrArg (fun r : Rsr => { r with lost := [], outcomes := []
      }) hrsr)

theorem completes_admitted {s : State} (hs : Ready s) (hruns : rsrRuns s = true) (hr : s.rsr.ready = true)
    (hst : rsrStage s = 7 ∨ rsrStage s = 8 ∨ rsrStage s = 9) (hn : admittedNow s = false)
    (hrec : reclaimHolds s = false) :
    Completes .admitted s fun t => Admitted s t ∧
      get Reg.SYS.BOOT_STAGE t = (if rsrStage s = 9 then 10 else 9) := by
  have heff : admitted (begun s) = admitShown (min 65535 (s.pwr.sinceVaon / 50)) (rsrStage s == 9) (admitHost
      (begun s)) := by
    refine (if_pos ?_).trans rfl
    show (s.rsr.ready && (rsrStage s == 7 || rsrStage s == 8 || rsrStage s == 9) && !admittedNow s && rsrRuns s &&
      !reclaimHolds s) = true
    rcases hst with h | h | h <;> simp [hr, hn, hruns, hrec, h]
  obtain ⟨hhost, hadmitted⟩ := admitHost_shown (begun s)
  generalize admitHost (begun s) = u at *
  obtain ⟨hshow, hstage, hrsr⟩ := admitShown_shown (min 65535 (s.pwr.sinceVaon / 50))
    (rsrStage s == 9) u
  obtain ⟨-, -, hkeep⟩ := admit_apart
  generalize admitShown (min 65535 (s.pwr.sinceVaon / 50)) (rsrStage s == 9) u = v at *
  refine .leaves hs rfl heff (hshow.reqs.trans (hhost.reqs.trans hs.2)) fun t k => ⟨?_, k.stored (by decide) ?_⟩
  · have hfrom : Admitted s u := { hadmitted with record := hadmitted.record }
    refine hfrom.after (fun f hf => (k.get f (hkeep f hf).1).trans (hshow.regs f (hkeep f hf).2 (hkeep f hf).1)) ?_ ?_
    · rw [k.rsr, hrsr]
    · rw [k.rsr, hrsr]
  · rw [hstage]
    by_cases h : rsrStage s = 9 <;> simp [h]

/-! ### The end of the image (R320) -/

/-- The image is there in full. -/
def imageMarked (was : Bool) (s : State) : State :=
  s |> setRsr (fun r => { r with all := true, restored := [], ready := !was })
    |> event 0x43 2 |> setStage 9 |> set Reg.RSR.ETA_MS 0
    |> set Reg.SYS.BOOT_MS_IMAGE_S (min 65535 (s.pwr.sinceVaon / 50000))

theorem imageMarked_shown (was : Bool) (s : State) :
    Changes [.rsr] [Reg.EVT_STS 0x43 2, Reg.RSR.STS_STAGE, Reg.RSR.ETA_MS, Reg.SYS.BOOT_MS_IMAGE_S] s
      (imageMarked was s) ∧
    rsrStage (imageMarked was s) = 9 ∧ get (Reg.EVT_STS 0x43 2) (imageMarked was s) = 1 ∧
    get Reg.RSR.ETA_MS (imageMarked was s) = 0 ∧
    (imageMarked was s).rsr = { s.rsr with all := true, restored := [], ready := !was } := by
  refine ⟨?_, ?_, ?_, ?_, rfl⟩
  · exact (((((Changes.refl [.rsr] _ s).in_rsr _ (by simp)).event _ _ (by simp)).set _ _ (by simp)).set _ _
      (by simp)).set _ _ (by simp)
  all_goals simp (disch := decide) only [imageMarked, rsrStage, setStage, event, get_set_other, get_set_same]
  all_goals rfl

/-- The admitted device publishes what the restore brought (R322). -/
def imagePublished (was : Bool) (s : State) : State :=
  when was (fun s => s |> set Reg.SYS.BOOT_STAGE 10 |> publishContinuity false
    |> (fun s => { s with hp := { s.hp with outageCounted := false } })) s

theorem imagePublished_shown (was : Bool) (s : State) :
    Changes [.rsr, .hp] [Reg.SYS.BOOT_STAGE, Reg.RSR.CONTINUITY_DATA, Reg.EVT_STS 0x43 5] s (imagePublished was s) ∧
    (imagePublished was s).rsr.all = s.rsr.all ∧ (imagePublished was s).rsr.ready = s.rsr.ready ∧
    (was = true → get Reg.SYS.BOOT_STAGE (imagePublished was s) = 10 ∧
      get (Reg.EVT_STS 0x43 5) (imagePublished was s) = 1) := by
  cases was
  · exact ⟨.refl _ _ _, rfl, rfl, fun h => absurd h (by decide)⟩
  · obtain ⟨hpub, ⟨l, hl⟩, hshown⟩ := publishContinuity_shown false (set Reg.SYS.BOOT_STAGE 10 s)
    have hset : Changes [.rsr, .hp] [Reg.SYS.BOOT_STAGE, Reg.RSR.CONTINUITY_DATA, Reg.EVT_STS 0x43 5] s
      (set Reg.SYS.BOOT_STAGE 10 s) := (Changes.refl _ _ s).set _ _ (by simp)
    have hstage := hpub.regs Reg.SYS.BOOT_STAGE (by decide) (by decide)
    rw [get_set_same] at hstage
    unfold imagePublished
    rw [when_true]
    generalize publishContinuity false (set Reg.SYS.BOOT_STAGE 10 s) = p at *
    refine ⟨(hset.trans (hpub.widen (by simp) (by simp))).in_hp { p.hp with outageCounted := false } (by simp),
      ?_, ?_, fun _ => ⟨hstage, hshown⟩⟩
    · exact (congrArg Rsr.all hl :)
    · exact (congrArg Rsr.ready hl :)

theorem completes_imageDone {s : State} (hs : Ready s) (hruns : rsrRuns s = true)
    (hst : rsrStage s = 7 ∨ rsrStage s = 8) (ha : allRestored s = true)
    (hf : fenced s = false ∨ admittedNow s = false) :
    Completes .imageDone s fun t =>
      rsrStage t = 9 ∧ t.rsr.all = true ∧ get (Reg.EVT_STS 0x43 2) t = 1 ∧ get Reg.RSR.ETA_MS t = 0 ∧
      t.rsr.ready = !admittedNow s ∧
      (admittedNow s = true → get Reg.SYS.BOOT_STAGE t = 10 ∧ get (Reg.EVT_STS 0x43 5) t = 1) ∧
      (∀ a, readByte a t = readByte a s) := by
  have heff : imageDone (begun s) = mediaAll (imagePublished (admittedNow s) (imageMarked (admittedNow s)
      (begun s))) := by
    refine (if_pos ?_).trans ?_
    · show ((rsrStage s == 7 || rsrStage s == 8) && rsrRuns s && allRestored s && (!fenced s || !admittedNow s)) = true
      rcases hst with h | h <;> rcases hf with h' | h' <;> simp [hruns, ha, h, h']
    · rfl
  obtain ⟨hmark, m1, m2, m3, hrsr⟩ := imageMarked_shown (admittedNow s) (begun s)
  generalize imageMarked (admittedNow s) (begun s) = m at *
  obtain ⟨hpub, hall, hready, hshown⟩ := imagePublished_shown (admittedNow s) m
  generalize imagePublished (admittedNow s) m = p at *
  have hmedia := changes_mediaAll p
  generalize mediaAll p = u at *
  have hmu : Changes [.rsr, .hp] ([Reg.SYS.BOOT_STAGE, Reg.RSR.CONTINUITY_DATA, Reg.EVT_STS 0x43 5] ++
      [0, 1, 2, 3].map fun n => Reg.HPT.STS_MEDIA n) m u :=
    (hpub.widen (fun _ h => h) (List.subset_append_left _ _)).trans (hmedia.widen (by simp)
      (List.subset_append_right _ _))
  refine .leaves hs rfl heff (hmu.reqs.trans (hmark.reqs.trans hs.2)) fun t k => ⟨?_, ?_, ?_, ?_, ?_, fun hw => ?_, ?_⟩
  · exact (k.get _ (by decide)).trans ((hmu.regs _ (by decide) (by decide)).trans m1)
  · rw [k.rsr, hmedia.rsr (by simp), hall, hrsr]
  · exact k.stored (by decide) ((hmu.regs _ (by decide) (by decide)).trans m2)
  · exact k.stored (by decide) ((hmu.regs _ (by decide) (by decide)).trans m3)
  · rw [k.rsr, hmedia.rsr (by simp), hready, hrsr]
  · obtain ⟨h1, h2⟩ := hshown hw
    exact ⟨k.stored (by decide) ((hmedia.regs _ (by decide) (by decide)).trans h1),
      k.stored (by decide) ((hmedia.regs _ (by decide) (by decide)).trans h2)⟩
  · refine fun a => k.bytes ?_ a
    rw [hmu.dram (by simp), hmark.dram (by simp)]

/-- Settles O40, by the admission, the two ends of a granule, and the end of the image. -/
theorem restoreImage : Obligations.RestoreImage := by
  unfold Obligations.RestoreImage
  intro s hs hruns
  refine ⟨fun hr hst hn hrec => ?_, fun g r hm hu hr hv hl => completes_granuleGood hs hm hu hr hv hl,
    fun g ok hm hu hl h => completes_granuleLost hs hm hu hl h,
    fun hst ha hf => completes_imageDone hs hruns hst ha hf⟩
  refine (completes_admitted hs hruns hr hst hn hrec).mono fun t ⟨h, hstage⟩ => ?_
  refine ⟨?_, ?_, ?_, h.state, h.told, h.event, h.published, hstage, h.ports, h.record, h.ready⟩
  · rw [admittedNow, isSet, h.boot]
    rfl
  · rw [fenced, isSet, h.fenced]
    rfl
  · rw [savArmed, isSet, h.armed]
    rfl

end Sys2Proof.Machine
end

section
/-! SUPPORT. A statement that a stored value refutes which no step leaves: the loss of a rail that takes every domain
down. -/

namespace Sys2Proof.Machine
set_option Elab.async false

/-! ### A map whose channel is beyond the device (O47) -/

/-- Rail 1 runs with REACT 3. The stored settings hold a pairing that the registers do not show, a repair waits for the
twin, and the map gives its line a channel so far beyond the device that the state of its rank is the field that
`PWR.FAIL.RAIL` is. -/
def rankOverFail : State :=
  { withFields ((List.range 52).map (fun d => (Reg.PDM.DOM_CTL_STATE d, 0)) ++ [(Reg.PWR.STS_RAILS_ON, 2),
      (Reg.PWR.RAIL_CFG_REACT 1, 3), (Reg.FLS.SRC_CFG_SEV 257, 1), (Reg.FLS.SRC_CFG_ACT 257, 0),
      (Reg.FLS.LIVE 157, 1), (Reg.FLS.LIVE 189, 1), (Reg.DMC.REGION_A_VALID 0, 1), (Reg.DMC.REGION_A_SIZE_LOG2 0, 40),
      (Reg.DMC.REGION_B_CH_BASE 0, 28672), (Reg.DMC.REGION_B_RANK_BASE 0, 3)]) with
    pwr := { vaon := true, rails := [.off, .on] }
    dram := { repairs := [{ line := 2 ^ 26, finder := .hostRead, stage := .twin }] }
    upd := { settings := [(Reg.TWN.STS_PAIRED.key, 1), (Reg.TWN.STS_STATE.key, 4)] } }

theorem rankOverFail_state :
    let s := rankOverFail
    railIsOn 1 s = true ∧ railPhase 1 s = .on ∧ goingDown s = false ∧ s.pwr.seq ≠ .ride ∧ 1 ∈ downOrder s ∧
      Fresh 257 s ∧ twinAttached s = false := by
  decide +kernel

/-- The pairing comes back with the settings, the twin is lost with its link, the repair ends in a poisoned line, and
the retirement of its rank overwrites the record of the failed rail. -/
theorem rankOverFail_lost : (railLost 1 (begun rankOverFail)).reqs = [] ∧
    get Reg.PWR.FAIL_RAIL (railLost 1 (begun rankOverFail)) = 3 := by
  decide +kernel

/-- Refutes O47: the statement does not ask that the map's channels be those of the device. In `rankOverFail` the loss
of rail 1 ends with 3 in `PWR.FAIL.RAIL`. -/
theorem not_railCommands : ¬ Obligations.RailCommands := by
  unfold Obligations.RailCommands
  intro h
  have hs : Ready rankOverFail := ⟨rfl, rfl⟩
  obtain ⟨hon, hphase, hdown, hseq, horder, hfresh, htwin⟩ := rankOverFail_state
  obtain ⟨hr, hfail⟩ := rankOverFail_lost
  obtain ⟨-, -, -, -, -, hloss, -⟩ := h _ hs (1 : Fin 12)
  obtain ⟨⟨hrail, -⟩, -⟩ := (hloss hon hphase hdown (.inl hseq) horder).settled hs (f := railLost 1) rfl hfresh htwin
  rw [get_settle _ _ hr (by decide), hfail] at hrail
  exact absurd hrail (by decide)

end Sys2Proof.Machine
end

section
/-! SUPPORT. The walk over everything that a raise's reactions reach: what was sent stands, and neither the result of
`TWN.CTL`, nor the PLLs that relock, nor a detachment made here changes (R404). -/

namespace Sys2Proof.Machine
set_option Elab.async false

/-! ### What rides along -/

/-- What no reaction touches. -/
def rideView (s : State) : Nat × Nat × List (Nat × Nat) × Bool × Option Nat :=
  (get Reg.TWN.STS_RESULT s, get Reg.TWN.STS_PROMOTED s, s.pwr.relocking, s.twn.detachedHere, s.twn.failedIn)

/-- The fields that ride along, and the event of a promotion, which nothing clears. -/
def rideFields : List Fld := [Reg.TWN.STS_RESULT, Reg.TWN.STS_PROMOTED, Reg.EVT_STS 0xC1 3]

/-- From `s` to `t` what was sent stands, the event of a promotion stays, and the view rides along. -/
def Rides (s t : State) : Prop :=
  rideView t = rideView s ∧ (get (Reg.EVT_STS 0xC1 3) s = 1 → get (Reg.EVT_STS 0xC1 3) t = 1) ∧ s.out <+: t.out

/-- A field that begins at another bit of its register is none of them. -/
theorem lo_apart {a lo w r : Nat} (hlo : lo < 32 := by decide)
    (hne : lo ≠ 10 ∧ lo ≠ 6 ∧ lo ≠ 3 := by decide) : (⟨a, lo, w, r⟩ : Fld).key ∉ rideFields.map Fld.key := by
  simp only [rideFields, List.map_cons, List.map_nil, List.mem_cons, List.not_mem_nil, or_false, Fld.key,
    Reg.TWN.STS_RESULT, Reg.TWN.STS_PROMOTED, Reg.EVT_STS]
  omega

/-- Nor is a field at another place of its page. -/
theorem place_apart {p o lo w r : Nat} (hlo : lo < 32 := by decide)
    (ho : o < 4096 ∧ o ≠ 0x18 ∧ o ≠ 0x118 := by decide) :
    (⟨4096 * p + o, lo, w, r⟩ : Fld).key ∉ rideFields.map Fld.key := by
  simp only [rideFields, List.map_cons, List.map_nil, List.mem_cons, List.not_mem_nil, or_false, Fld.key,
    Reg.TWN.STS_RESULT, Reg.TWN.STS_PROMOTED, Reg.EVT_STS]
  omega

/-- The same where the page comes last. -/
theorem queue_apart {b p lo w r : Nat} (hlo : lo < 32 := by decide)
    (hb : b % 4096 ≠ 0x18 ∧ b % 4096 ≠ 0x118 := by decide) :
    (⟨b + 4096 * p, lo, w, r⟩ : Fld).key ∉ rideFields.map Fld.key := by
  simp only [rideFields, List.map_cons, List.map_nil, List.mem_cons, List.not_mem_nil, or_false, Fld.key,
    Reg.TWN.STS_RESULT, Reg.TWN.STS_PROMOTED, Reg.EVT_STS]
  omega

/-- The bits of the sources, two registers for each 64. -/
theorem source_apart {n o : Nat} {lo w r : Nat} (hlo : lo < 32) (ho : o ≤ 0x208 ∧ 0x200 ≤ o := by decide) :
    (⟨0x91000 + 4096 * (n / 64) + o + 4 * (n % 64 / 32), lo, w, r⟩ : Fld).key ∉ rideFields.map Fld.key := by
  simp only [rideFields, List.map_cons, List.map_nil, List.mem_cons, List.not_mem_nil, or_false, Fld.key,
    Reg.TWN.STS_RESULT, Reg.TWN.STS_PROMOTED, Reg.EVT_STS]
  omega

namespace Rides

variable {s t u : State}

theorem refl (s : State) : Rides s s := ⟨rfl, id, List.prefix_refl _⟩

theorem trans (h : Rides s t) (k : Rides t u) : Rides s u := by
  obtain ⟨hv, he, ho⟩ := h
  obtain ⟨kv, ke, ko⟩ := k
  exact ⟨kv.trans hv, fun h1 => ke (he h1), ho.trans ko⟩

/-- What rides along, one by one. -/
theorem parts (h : Rides s t) : get Reg.TWN.STS_RESULT t = get Reg.TWN.STS_RESULT s ∧
    get Reg.TWN.STS_PROMOTED t = get Reg.TWN.STS_PROMOTED s ∧ t.pwr.relocking = s.pwr.relocking ∧
    t.twn.detachedHere = s.twn.detachedHere ∧ t.twn.failedIn = s.twn.failedIn := by
  simpa only [rideView, Prod.mk.injEq] using h.1

/-- A step that touches nothing of it. -/
theorem same (h : Rides s t) (hv : rideView u = rideView t := by rfl) (hr : u.regs = t.regs := by rfl)
    (ho : u.out = t.out := by rfl) : Rides s u :=
  h.trans ⟨hv, fun h1 => by rw [get, hr]; exact h1, by rw [ho]⟩

theorem set (h : Rides s t) (f : Fld) (v : Nat) (hf : f.key ∉ rideFields.map Fld.key := by decide) :
    Rides s (Machine.set f v t) := by
  have hother : ∀ g ∈ rideFields, get g (Machine.set f v t) = get g t := fun g hg =>
    get_set_other _ _ fun he => hf (he ▸ List.mem_map_of_mem hg)
  refine h.trans ⟨?_, fun h1 => (hother _ (by simp [rideFields])).trans h1, List.prefix_refl _⟩
  unfold rideView
  rw [hother _ (by simp [rideFields]), hother _ (by simp [rideFields])]
  rfl

theorem emit (h : Rides s t) (o : Out) : Rides s (Machine.emit o t) := h.trans ⟨rfl, id, List.prefix_append _ _⟩

theorem request (h : Rides s t) (r : Req) : Rides s (Machine.request r t) := h

theorem cond (h : Rides s t) (b : Bool) (f : State → State) (hf : ∀ u, Rides s u → Rides s (f u)) :
    Rides s (when b f t) := when_keeps (Rides s) b f t h (hf t)

theorem each {α : Type} (h : Rides s t) (l : List α) (f : α → State → State)
    (hf : ∀ a u, Rides s u → Rides s (f a u)) : Rides s (forEach l f t) :=
  forEach_keeps (Rides s) l f t h fun a _ => hf a

theorem branch (p : Prop) [Decidable p] (h : Rides s t) (k : Rides s u) : Rides s (if p then t else u) := by
  split
  · exact h
  · exact k

/-- An event sets a bit, be it that of a promotion. -/
theorem event (h : Rides s t) (p k : Nat) (hk : k < 32 := by decide) : Rides s (Machine.event p k t) := by
  have hview : ∀ g ∈ [Reg.TWN.STS_RESULT, Reg.TWN.STS_PROMOTED], get g (Machine.event p k t) = get g t := by
    refine fun g hg => get_set_other _ _ ?_
    rcases List.mem_pair.1 hg with rfl | rfl <;> simp only [Fld.key, Reg.TWN.STS_RESULT, Reg.TWN.STS_PROMOTED,
      Reg.EVT_STS] <;> omega
  refine h.trans ⟨?_, fun h1 => ?_, List.prefix_refl _⟩
  · unfold rideView
    rw [hview _ (by simp), hview _ (by simp)]
    rfl
  · by_cases he : (Reg.EVT_STS 0xC1 3).key = (Reg.EVT_STS p k).key
    · have hsame := get_set_same (Reg.EVT_STS p k) 1 t
      rw [get, ← he] at hsame
      exact hsame
    · exact (get_set_other _ _ he).trans h1

theorem live (h : Rides s t) (p k : Nat) (b : Bool) : Rides s (Machine.live p k b t) := h.set _ _ lo_apart

/-! ### SAV, the gauge and the contexts -/

theorem closeKey (h : Rides s t) : Rides s (Machine.closeKey t) := set (t := { t with flt := _ }) h _ _

theorem triggerBit (h : Rides s t) (k : Nat) : Rides s (Machine.triggerBit k t) := h.set _ _

theorem thawAll (h : Rides s t) : Rides s (Machine.thawAll t) :=
  h.each _ _ fun _ _ hu => (hu.set _ _ place_apart).set _ _ place_apart

theorem chargeShow (h : Rides s t) : Rides s (Machine.chargeShow t) := h.set _ _

theorem endCapTest (h : Rides s t) : Rides s (Machine.endCapTest t) := set (t := { t with eng := _, pwr := _ }) h
    _ _

theorem endExercise (h : Rides s t) (result : Nat) : Rides s (Machine.endExercise result t) :=
  branch _ h (chargeShow ((((set (t := { t with eng := _, pwr := _ }) h _ _).set _ _).set _ _).set _ _))

theorem setInflight (h : Rides s t) (l : List (Nat × Flight)) : Rides s (Machine.setInflight l t) :=
  (set (t := { t with rsr := _ }) h Reg.RSR.SLOTS_IN_FLIGHT _).set _ _

theorem startDown (h : Rides s t) : Rides s (Machine.startDown t) := by
  have hpwr : ∀ l : Pwr, Rides s { t with pwr := { l with relocking := t.pwr.relocking } } := fun _ => h
  exact (cond (hpwr { t.pwr with seq := .down, offDue := true, domainsDue := false, resetDue := false, retrying := [],
                                 groupCut := [] }) _ _ fun u hu => (hu.emit _).emit _).set _ _

theorem askReset (h : Rides s t) : Rides s (Machine.askReset t) :=
  emit (t := { t with pwr := { t.pwr with resetDue := true, modReset := true } }) h _

theorem txnShow (h : Rides s t) : Rides s (Machine.txnShow t) := (((h.set _ _).set _ _).set _ _).set _ _

theorem setCtxState (h : Rides s t) (g st : Nat) : Rides s (Machine.setCtxState g st t) :=
  txnShow ((h.set _ _ lo_apart).set _ _ lo_apart)

theorem replayShow (h : Rides s t) : Rides s (Machine.replayShow t) := ((h.set _ _).set _ _).set _ _

theorem startAbort (h : Rides s t) (g : Nat) : Rides s (Machine.startAbort g t) :=
  replayShow (setCtxState (t := { t with txn := _ }) h g 5)

theorem abortSafe (h : Rides s t) : Rides s (Machine.abortSafe t) := h.each _ _ fun g _ hu => hu.startAbort g

theorem discardRequest (h : Rides s t) (g : Nat) : Rides s (Machine.discardRequest g t) :=
  (setCtxState (t := { t with txn := _ }) h g 1).set _ _ lo_apart

theorem discardPending (h : Rides s t) : Rides s (Machine.discardPending t) :=
  h.each _ _ fun g _ hu => hu.discardRequest g

/-! ### The entries, the seals and the moves -/

theorem follow (h : Rides s t) (f : Fld) (before after : Bool) (hf : f.key ∉ rideFields.map Fld.key := by decide) :
    Rides s (Machine.follow f before after t) :=
  branch _ h (branch _ (h.set f _ hf) (h.set f _ hf))

theorem groupFollow (h : Rides s t) (k : Nat) : Rides s (Machine.groupFollow k t) :=
  set (t := { t with mrv := _ }) h Reg.MRV.GROUPS_SET _

theorem placeEntry (h : Rides s t) (g : Nat) (e : Entry) : Rides s (Machine.placeEntry g e t) := by
  have hput : Rides s { t with mrv := { t.mrv with entries := put {} t.mrv.entries g e } } := h
  exact (((hput.follow _ _ _).follow _ _ _).follow _ _ _).groupFollow _

theorem putEntry (h : Rides s t) (g : Nat) (e : Entry) : Rides s (Machine.putEntry g e t) := by
  have hcount := (h.placeEntry g e).follow Reg.MRV.DIRTY_COUNT ((entryOf g t).state != .clean) (e.state != .clean)
  exact branch _ hcount hcount

theorem endOp (h : Rides s t) (ch die : Nat) (kind : DieOpKind) (what : Nat) :
    Rides s (Machine.endOp ch die kind what t) := by
  unfold Machine.endOp
  split
  · exact h
  · refine branch _ ?_ h
    split
    · exact h
    · exact emit (t := setOps ch die _ t) h _

theorem dropOp (h : Rides s t) (ch die : Nat) (kind : DieOpKind) (what : Nat) :
    Rides s (Machine.dropOp ch die kind what t) :=
  endOp (h.cond _ _ fun _ hu => hu.emit _) _ _ _ _

theorem abandonSeal (h : Rides s t) (g : Nat) : Rides s (Machine.abandonSeal g t) := by
  unfold Machine.abandonSeal
  split
  · exact h
  · exact putEntry (dropOp (t := unqueue _ _ (dropSealing g t)) h _ _ _ _) _ _

theorem abandonOn (h : Rides s t) (p : Nat → Bool) : Rides s (Machine.abandonOn p t) :=
  h.each _ _ fun g _ hu => hu.abandonSeal g

theorem abandonAll (h : Rides s t) : Rides s (Machine.abandonAll t) :=
  have hall : Rides s (forEach _ Machine.abandonSeal t) := h.each _ _ fun g _ hu => hu.abandonSeal g
  hall

theorem dropMoves (h : Rides s t) : Rides s (Machine.dropMoves t) := by
  have hclear : Rides s { t with nand := { t.nand with moving := [] } } := h
  refine hclear.each _ _ fun r u hu => ?_
  have hdrop := dropOp (t := unqueue r.loc.ch (granPages u) u) hu r.loc.ch r.loc.die .program r.granule
  dsimp only
  split
  · exact hdrop.dropOp _ _ _ _
  · exact hdrop

/-! ### The writes that a fence drains (R278, R279) -/

theorem homeGenWrite (h : Rides s t) (g : Nat) : Rides s (Machine.homeGenWrite g t) := by
  refine branch _ ?_ h
  exact emit (t := setGen Reg.TWN.HOME_GEN_VALUE _ _)
    (set (t := { t with twn := { t.twn with genRaised := true } }) h Reg.TWN.HOME_GEN_VALUE _) _

theorem setTwinDirty (h : Rides s t) (g : Nat) : Rides s (Machine.setTwinDirty g t) := branch _ (h.putEntry _ _) h

theorem countDirtied (h : Rides s t) (g : Nat) (port : Option Nat) : Rides s (Machine.countDirtied g port t) := by
  cases port <;> exact h

theorem markWrite (h : Rides s t) (g : Nat) (port : Option Nat) : Rides s (Machine.markWrite g port t) := by
  unfold Machine.markWrite
  refine branch _ h ?_
  dsimp only
  split
  · exact (h.putEntry _ _).countDirtied _ _
  · exact h.putEntry _ _
  · exact h.putEntry _ _

theorem writeLine (h : Rides s t) (line : Nat) (be : BitVec 64) (d : Line) :
    Rides s (Machine.writeLine line be d t) :=
  h.each _ _ fun _ _ hu => hu.cond _ _ fun _ hv => hv

theorem clearPoisonAt (h : Rides s t) (line : Nat) : Rides s (Machine.clearPoisonAt line t) := branch _ h h

theorem holdPair (h : Rides s t) (x g : Nat) : Rides s (Machine.holdPair x g t) := by
  have hpairs : ∀ l, Rides s (setPairs l t) := fun _ => h
  exact branch _ h (txnShow (((hpairs _).putEntry _ _).cond _ _ fun _ hu => hu.set _ _ lo_apart))

theorem logLine (h : Rides s t) (x line : Nat) : Rides s (Machine.logLine x line t) := by
  have hheld := h.holdPair x (granuleOf line t)
  unfold Machine.logLine
  dsimp only
  split
  · exact hheld
  · refine cond ?_ _ _ fun u hu => hu.set _ _ lo_apart
    exact (hheld.writeLine _ _ _).clearPoisonAt _

theorem depthShow (h : Rides s t) (ch : Nat) : Rides s (Machine.depthShow ch t) :=
  (((h.set _ _ lo_apart).set _ _ lo_apart).set _ _ lo_apart).set _ _ lo_apart

theorem queueWrite (h : Rides s t) (line : Nat) (be : BitVec 64) (data : Line) (poison : Bool) :
    Rides s (Machine.queueWrite line be data poison t) := by
  have hwrites : ∀ l, Rides s (setWrites l t) := fun _ => h
  exact branch _ (hwrites _) (((hwrites _).depthShow _).cond _ _ fun _ hu => hu.event _ _)

/-! ### Gather queues -/

theorem setQueue (h : Rides s t) (q : Nat) (f : Gather → Gather) : Rides s (Machine.setQueue q f t) := h

theorem emitWide (h : Rides s t) (q : Nat) (words : List (BitVec 16)) (pad : Bool) :
    Rides s (Machine.emitWide q words pad t) :=
  ((h.setQueue q _).set (Reg.GQ.WR_SEQ q) _ lo_apart).cond _ _ fun _ hu => hu.event _ _

theorem queueMarks (h : Rides s t) (q : Nat) : Rides s (Machine.queueMarks q t) := by
  have hup := h.cond ((queue q t).hiArmed && decide (get (Reg.GQ.WM_HI_PCT q) t * queueCapacity q t / 100 ≤
      (queue q t).held.length))
    (fun s => s |> Machine.event (0xA0 + q) 0 |> inc (Reg.GQ.WM_CROSSINGS_HI q))
    fun _ hu => (hu.event _ _).set (Reg.GQ.WM_CROSSINGS_HI q) _ lo_apart
  have hdown := hup.cond ((queue q t).loArmed && decide ((queue q t).held.length < get (Reg.GQ.WM_LO_PCT q) t *
      queueCapacity q t / 100))
    (fun s => s |> Machine.event (0xA0 + q) 1 |> inc (Reg.GQ.WM_CROSSINGS_LO q))
    fun _ hu => (hu.event _ _).set (Reg.GQ.WM_CROSSINGS_LO q) _ lo_apart
  exact ((hdown.setQueue q _).live _ _ _).live _ _ _

theorem queueShow (h : Rides s t) (q : Nat) : Rides s (Machine.queueShow q t) :=
  ((((((h.set (Reg.GQ.HELD_WORDS q) _ lo_apart).set (Reg.GQ.CAPACITY_WORDS q) _ lo_apart).set
    (Reg.GQ.STS_PACK q) _ lo_apart).set (Reg.GQ.STS_TAIL_FULL q) _ queue_apart).live _ _ _).live _ _ _).queueMarks q

theorem flushPacking (h : Rides s t) (q : Nat) : Rides s (Machine.flushPacking q t) :=
  branch _ h (queueShow (setQueue ((h.setQueue q _).emitWide q _ _) q _) q)

theorem pushWord (h : Rides s t) (q : Nat) (v : BitVec 16) : Rides s (Machine.pushWord q v t) :=
  branch _ ((h.setQueue q _).emitWide q _ _) (h.setQueue q _)

theorem pushWords (h : Rides s t) (q : Nat) (ws : List (BitVec 16)) : Rides s (Machine.pushWords q ws t) :=
  queueShow (setQueue ((h.setQueue q _).each _ _ fun v _ hu => hu.pushWord q v) q _) q

theorem pushRecord (h : Rides s t) (q : Nat) (r : List (BitVec 16)) : Rides s (Machine.pushRecord q r t) := by
  refine branch _ h (branch _ (branch _ (h.pushWords q r) (((h.setQueue q _).event _ _).live _ _ _))
    (branch _ ((h.setQueue q _).pushWords q _) (((h.setQueue q _).set _ _ lo_apart).event _ _)))

theorem markLost (h : Rides s t) (g cause : Nat) : Rides s (Machine.markLost g cause t) :=
  branch _ h ((h.putEntry _ _).pushRecord _ _)

theorem slotWrite (h : Rides s t) (g line : Nat) : Rides s (Machine.slotWrite g line t) := by
  unfold Machine.slotWrite
  split
  · exact h
  · exact h.setInflight _

end Rides

end Sys2Proof.Machine
end

section
/-! SUPPORT. The walk over raises, the fence cycle, blocks that go idle, and the reactions (R92, R278, R404). -/

namespace Sys2Proof.Machine
set_option Elab.async false

/-- How a trigger ends while SAV is DISARMED, after its marks (R276). -/
def disarmedEnd (s : State) : State :=
  if vinGoodNow s then { s with rsr := { s.rsr with restart := if restoring s then 2 else 0 } }
  else if goingDown s then s
  else s |> savOutcome 6 |> startDown

namespace Rides

variable {s t u : State}

/-! ### Raises (R402 to R407) -/

theorem pinPulse (h : Rides s t) : Rides s (Machine.pinPulse t) :=
  event ((((set (t := { t with pwr := { t.pwr with pulseLeft := 6 } }) h _ _).set _ _).set _ _).set _ _) _ _

theorem portReadHold (h : Rides s t) (n : Nat) : Rides s (Machine.portReadHold n t) :=
  branch _ h ((h.set _ _ lo_apart).cond _ _ fun _ hu => (hu.set _ _ lo_apart).emit _)

theorem enterSafe (h : Rides s t) (cause source : Nat) : Rides s (Machine.enterSafe cause source t) := by
  refine branch _ h (request (cond (each ?_ _ _ fun n _ hu => hu.portReadHold n) _ _ fun _ hu => hu.pinPulse) _)
  exact ((((((h.set _ _).set _ _).set _ _).set _ _).set _ _).set _ _).event _ _

theorem latchFirst (h : Rides s t) (x : Raise) (sev : Nat) : Rides s (Machine.latchFirst x sev t) := by
  refine branch _ h (branch _ (((h.set _ _).set _ _).event _ _) (event ?_ _ _))
  exact (((((((((set (t := { t with flt := { t.flt with firstRead := false } }) h _ _).set _ _).set _ _).set _ _).set
    _ _).set _ _).set _ _).set _ _).set _ _).set _ _

theorem react (h : Rides s t) (n : Nat) (act snap2 : Nat) :
    Rides s (Machine.react n act snap2 t) := by
  unfold Machine.react
  refine cond (cond (cond (cond (cond (cond h _ _ ?_) _ _ ?_) _ _ ?_) _ _ ?_) _ _ ?_) _ _ ?_
  · exact fun _ hu => hu.event _ _
  · exact fun _ hu => hu.emit _
  · exact fun _ hu => hu.emit _
  · exact fun _ hu => hu.pinPulse
  · intro v hv
    split
    next p _ => exact hv.request _
    next => exact hv
  · exact fun _ hu => hu.request _

theorem liveFall (h : Rides s t) (n : Nat) : Rides s (Machine.liveFall n t) :=
  branch _ h ((h.set _ _ (source_apart (Nat.mod_lt _ (by decide)))).cond _ _ fun _ hu =>
    (hu.set _ _).event _ _)

theorem raise (h : Rides s t) (x : Raise) : Rides s (Machine.raise x t) := by
  unfold Machine.raise
  refine branch _ h (cond (cond (cond (cond (cond (latchFirst (cond ?_ _ _ ?_) _ _) _ _ ?_) _ _ ?_) _ _ ?_) _ _ ?_)
    _ _ ?_)
  · exact ((h.set _ _ (source_apart (Nat.mod_lt _ (by decide)))).set _ _
      (source_apart (Nat.mod_lt _ (by decide)))).set _ _ lo_apart
  · exact fun _ hu => hu.set _ _
  · exact fun _ hu => hu.pushRecord _ _
  · exact fun _ hu => (hu.set _ _).set _ _
  · exact fun _ hu => hu.enterSafe _ _
  · exact fun _ hu => branch _ hu (hu.react _ _ _)
  · exact fun _ hu => hu.liveFall _

theorem raiseSimple (h : Rides s t) (n : Nat) (reason inst snap2 snap3 : Nat) :
    Rides s (Machine.raiseSimple n reason inst snap2 snap3 t) := h.raise _

/-! ### The fence cycle (R278) -/

theorem drainStalled (h : Rides s t) (q : Stalled) : Rides s (Machine.drainStalled q t) := by
  refine cond (cond (queueWrite (cond (homeGenWrite (markWrite (cond h _ _ ?_) _ _) _) _ _ ?_) _ _ _ _) _ _ ?_) _ _ ?_
  · exact fun _ hu => hu.logLine _ _
  · exact fun _ hu => hu.setTwinDirty _
  · exact fun _ hu => (hu.markLost _ _).raiseSimple _ _ _ _ _
  · exact fun _ hu => hu.slotWrite _ _

theorem sendPoison (h : Rides s t) (port tag : Nat) (under : Option Line) :
    Rides s (Machine.sendPoison port tag under t) :=
  (h.emit _).set _ _ lo_apart

theorem portsFence (h : Rides s t) : Rides s (Machine.portsFence t) := by
  refine each (each (each (each ?_ _ _ ?_) _ _ ?_) _ _ ?_) _ _ ?_
  · exact h.same
  · exact fun q _ hu => hu.drainStalled q
  · exact fun _ _ hu => hu.sendPoison _ _ _
  · exact fun _ _ hu => hu.emit _
  · exact fun _ _ hu => hu.cond _ _ fun _ hv => hv.set _ _ queue_apart

theorem endTransfer (h : Rides s t) : Rides s (Machine.endTransfer t) :=
  branch _ h ((set (t := { t with upd := { t.upd with transfer := none } }) h Reg.UPD.DL_ACTIVE 0).emit _)

theorem mediaAll (h : Rides s t) : Rides s (Machine.mediaAll t) :=
  h.each _ _ fun _ _ hu => hu.cond _ _ fun _ hv => hv.set _ _ lo_apart

theorem countDirtyShutdown (h : Rides s t) : Rides s (Machine.countDirtyShutdown t) := branch _ h h

theorem sendBoth (h : Rides s t) (x : Cell) : Rides s (Machine.sendBoth x t) := (h.emit _).emit _

theorem logDecision (h : Rides s t) (e : LogEntry) : Rides s (Machine.logDecision e t) := by
  have hlog : ∀ l, Rides s { t with rng := { t.rng with log := l } } := fun _ => h
  exact branch _ h (cond (((hlog _).set _ _).set _ _) _ _ fun _ hu => (hu.set _ _).event _ _)

theorem domainFence (h : Rides s t) : Rides s (Machine.domainFence t) := by
  unfold Machine.domainFence
  refine branch _ h (set (set (same (t := forEach _ _ _) (each (h.sendBoth _) _ _ fun b u hu => ?_)) _ _) _ _)
  have hrecord : ∀ e n, Rides s (recordFor b.ctx false n (Machine.logDecision e u)) := fun e _ => hu.logDecision e
  exact ((hrecord _ _).sendBoth _).set _ _

theorem stopMirroring (h : Rides s t) : Rides s (Machine.stopMirroring t) := by
  refine same (t := forEach _ _ (forEach _ _ _)) (each (each ?_ _ _ ?_) _ _ ?_)
  · exact h.same
  · exact fun _ _ hu => hu.setTwinDirty _
  · exact fun _ _ hu => hu.setTwinDirty _

theorem fenceMarked (h : Rides s t) (k : Nat) : Rides s (Machine.fenceMarked k t) := by
  have hsav : ∀ x, Rides s (setSavs x { t with hp := { t.hp with outageCounted := false } }) := fun _ => h
  exact (((((hsav _).set _ _).triggerBit k).set _ _).set _ _).set _ _ |>.set _ _

theorem in_eng (h : Rides s t) (x : Eng) : Rides s { t with eng := x } := h

theorem pagesThawed (h : Rides s t) : Rides s (Machine.pagesThawed t) :=
  ((h.thawAll.set _ _).set _ _).in_eng _

theorem gaugeStopped (h : Rides s t) (test : Bool) : Rides s (Machine.gaugeStopped test t) :=
  ((h.pagesThawed.cond _ _ fun _ hu => hu.endCapTest).endExercise 6).chargeShow

theorem sealsStopped (h : Rides s t) : Rides s (Machine.sealsStopped t) :=
  same (t := Machine.dropMoves _) h.discardPending.abandonAll.dropMoves

theorem twinTold (h : Rides s t) (told : Bool) : Rides s (Machine.twinTold told t) :=
  h.cond _ _ fun _ hu => (hu.cond _ _ fun _ hv => hv.emit _).stopMirroring

theorem fenceSet (h : Rides s t) (ok : Bool) : Rides s (Machine.fenceSet ok t) :=
  (((h.set _ _).set _ _).event _ _).mediaAll.cond _ _ fun _ hu => hu.countDirtyShutdown

theorem fence (h : Rides s t) (k : Nat) : Rides s (Machine.fence k t) := by
  rw [fence_eq]
  have hports := (((((h.fenceMarked k).gaugeStopped t.eng.capTest.isSome).sealsStopped).twinTold
    (paired t && !fenced t)).domainFence).portsFence
  exact (endTransfer (same (t := Machine.portsFence _) hports)).fenceSet _

theorem disarmedMark (h : Rides s t) (k : Nat) : Rides s (Machine.disarmedMark k t) :=
  setInflight (same ((h.triggerBit k).event 0x42 0)) []

theorem disarmedEnd (h : Rides s t) : Rides s (Machine.disarmedEnd t) :=
  branch _ h.same (branch _ h (h.set _ _).startDown)

theorem disarmedTrigger (h : Rides s t) (k : Nat) : Rides s (Machine.disarmedTrigger k t) := by
  have he : Machine.disarmedTrigger k t = Machine.disarmedEnd (Machine.disarmedMark k t) := rfl
  rw [he]
  exact (h.disarmedMark k).disarmedEnd

theorem trigger (h : Rides s t) (k : Nat) : Rides s (Machine.trigger k t) := by
  have hkey := h.closeKey
  refine branch _ (hkey.disarmedTrigger k) (branch _ (branch _ ?_ (hkey.triggerBit k))
    (branch _ ((hkey.fence k).set _ _).startDown (hkey.fence k)))
  exact same (hkey.triggerBit k)

theorem chipResetOp (h : Rides s t) : Rides s (Machine.chipResetOp t) :=
  branch _ (branch _ h.closeKey.askReset (same (h.closeKey.triggerBit 4)))
    (branch _ (h.closeKey.fence 4) h.closeKey.askReset)

/-! ### The reads and the channels -/

theorem finishRead (h : Rides s t) (r : ReadWait) : Rides s (Machine.finishRead r t) := by
  unfold Machine.finishRead
  split
  · exact h.emit _
  · exact h.sendPoison _ _ _
  · exact branch _ (h.sendPoison _ _ _) (h.emit _)

theorem idlePort (h : Rides s t) (n : Nat) : Rides s (Machine.idlePort n t) := by
  unfold Machine.idlePort
  exact each (each (each h.same _ _ fun r _ hu => hu.finishRead r) _ _ fun w _ hu => hu.emit _) _ _
    fun ch _ hu => hu.depthShow ch

theorem noteRepair (h : Rides s t) (line : Nat) (be : BitVec 64) : Rides s (Machine.noteRepair line be t) :=
  branch _ h h

theorem landWrite (h : Rides s t) (e : WEntry) : Rides s (Machine.landWrite e t) := by
  have hn := (h.writeLine e.line e.be e.data).noteRepair e.line e.be
  exact branch _ hn (branch _ (hn.clearPoisonAt _) hn)

theorem partialReady (h : Rides s t) (line : Nat) : Rides s (Machine.partialReady line t) := branch _ h h

theorem endReads (h : Rides s t) (line : Nat) : Rides s (Machine.endReads line t) :=
  (depthShow (t := dropRead (fun r => r.line == line) t) h _).partialReady line

theorem serveReads (h : Rides s t) (line : Nat) : Rides s (Machine.serveReads line t) := h.same

theorem unqueueRead (h : Rides s t) (r : REntry) : Rides s (Machine.unqueueRead r t) := by
  unfold Machine.unqueueRead
  split
  · exact h.same
  · exact h

theorem idleChannel (h : Rides s t) (ch : Nat) : Rides s (Machine.idleChannel ch t) := by
  unfold Machine.idleChannel
  dsimp only
  have hl : Rides s (forEach (((t.dram.writes.filter (fun e => e.ch == ch))).filter (!·.issued)) Machine.landWrite
      t) := h.each _ _ fun e _ hu => hu.landWrite e
  generalize forEach (((t.dram.writes.filter (fun e => e.ch == ch))).filter (!·.issued)) Machine.landWrite t = v at *
  have hr : ∀ u, Rides s u → Rides s (setReads (v.dram.reads.filter (fun r => r.ch != ch)) u) :=
    fun u hu => hu
  refine (depthShow (hr _ (each (each hl.same _ _ fun r u hu => ?_) _ _ fun r _ hu => hu.unqueueRead r)) _).set _ _
    lo_apart
  exact (hu.endReads r.line).serveReads r.line

/-! ### Blocks that go idle (R92) -/

theorem retrainPunty (h : Rides s t) : Rides s (Machine.retrainPunty t) :=
  branch _ ((((h.set _ _).set _ _).set _ _).event _ _) h

theorem setCarBank (h : Rides s t) (b : Nat) (k : CarBank) : Rides s (Machine.setCarBank b k t) := branch _ h h

theorem carShow (h : Rides s t) (b : Nat) : Rides s (Machine.carShow b t) :=
  (h.set (Reg.CAR.BANK_STS_STATUS b) _ lo_apart).set (Reg.CAR.BANK_STS_OP b) _ lo_apart

theorem cancelCar (h : Rides s t) (b : Nat) : Rides s (Machine.cancelCar b t) := by
  refine carShow (setCarBank (each h _ _ fun x u hu => ?_) _ _) _
  have hf := (hu.set (Reg.CAR.BANK_STS_STATUS b) (Nat.lor (carStatus b u) (if x.kind = 2 then 8 else 4))
    lo_apart).set (Reg.CAR.BANK_STS_MODE b) 1 lo_apart
  exact branch _ hf (branch _ hf hf)

theorem idleBlock (h : Rides s t) (p : Nat) : Rides s (Machine.idleBlock p t) := by
  have hnand : ∀ u, Rides s u → Rides s { u with nand := { u.nand with checkpoint := none } } :=
    fun u hu => hu
  have htwin : Rides s { t with twn := { t.twn with copying := [], hello := none, planned := false,
                                                          copies := [] } } := h
  unfold Machine.idleBlock
  refine branch _ h (branch _ (h.idlePort _) (branch _ (h.idleChannel _)
    (branch _ h (branch _ (h.each _ _ fun g _ hu => hu.discardRequest g)
    (branch _ (hnand _ (h.abandonOn _).dropMoves) (branch _ (h.abandonOn _) (branch _ h
    (branch _ h.abandonAll (branch _ (h.endCapTest.endExercise 2) (branch _ (branch _ (h.setInflight _) h)
    (branch _ h.retrainPunty (branch _ (htwin.each _ _ fun g _ hu => hu.setTwinDirty g) (branch _ (h.flushPacking _)
    (branch _ ((h.cancelCar _).cancelCar _) (branch _ h.endTransfer
    (branch _ h h))))))))))))))))

theorem abortStarted (h : Rides s t) (p : Nat) (reset : Bool) : Rides s (startAbort' p reset t) := by
  have hfirst : Rides s (when reset (fun s => { s with
      shadows := s.shadows.filter (fun h => h.f.addr / 4096 != p) }) t) := h.cond _ _ fun _ hu => hu
  have haborts : ∀ u l, Rides s u → Rides s { u with frm := { u.frm with aborts := l } } := fun _ _ hu => hu
  unfold startAbort'
  dsimp only
  split
  · exact branch _ (haborts _ _ hfirst) hfirst
  · exact ((((haborts _ _ hfirst).set _ _ place_apart).set _ _ place_apart).set _ _ place_apart).idleBlock p

/-! ### The reactions -/

theorem react1 (h : Rides s t) (r : Req) : Rides s (Machine.react1 r t) := by
  cases r with
  | blockReset p => exact branch _ h (h.abortStarted p true)
  | chipReset => exact h.chipResetOp
  | emergencySeal => exact (h.trigger 3).cond _ _ fun _ hu => hu.abortSafe
  | abortContexts => exact branch _ h h.abortSafe

theorem reactRound (h : Rides s t) : Rides s (Machine.reactRound t) := by
  have hnone : Rides s { t with reqs := [] } := h
  exact hnone.each _ _ fun r _ hu => hu.react1 r

/-- What an effect leaves rides along through its reactions. -/
theorem reactions (h : Rides s t) : Rides s (Machine.reactions t) := by
  unfold Machine.reactions
  split
  · exact h
  · exact h.reactRound.reactRound.reactRound.reactRound.same

theorem settle (h : Rides s t) (before : State) : Rides s (Machine.settle before t) := by
  have k := keeps_settle before t
  refine h.reactions.trans ⟨?_, fun h1 => k.stored (by decide) h1, k.sent rfl⟩
  unfold rideView
  rw [k.get _ (by decide), k.get _ (by decide), k.pwr, k.twn]

end Rides

end Sys2Proof.Machine
end

section
/-! SUPPORT. The walk over repairs and the loss of the twin (R162 to R166, R335 to R337). -/

namespace Sys2Proof.Machine
set_option Elab.async false

namespace Rides

variable {s t u : State}

theorem setRank (h : Rides s t) (i st : Nat) : Rides s (Machine.setRank i st t) := by
  have hupd : ∀ x, Rides s { t with upd := x } := fun _ => h
  exact branch _ h (((hupd _).set (Reg.SPR.RANK_STATE i) st lo_apart).pushRecord _ _)

theorem setMigWaiting (h : Rides s t) (l : List Nat) : Rides s (Machine.setMigWaiting l t) :=
  set (t := { t with dram := { t.dram with migWaiting := l } }) h _ _

theorem logEvent (h : Rides s t) (type : Nat) (ws : List Nat) : Rides s (Machine.logEvent type ws t) := h

theorem retireRank (h : Rides s t) (i : Nat) : Rides s (Machine.retireRank i t) := by
  refine branch _ h (branch _ ?_ (((h.event _ _).logEvent _ _).setMigWaiting _))
  exact ((((h.event _ _).logEvent _ _).setRank _ _).event _ _).raiseSimple _ _ _ _ _

theorem rankUncorrectable (h : Rides s t) (line : Nat) : Rides s (Machine.rankUncorrectable line t) := by
  have hcount : Rides s (inc (Reg.SPR.RANK_UE (rankOfLine line t)) t) := h.set _ _ lo_apart
  exact branch _ hcount (hcount.retireRank _)

theorem poisonLine (h : Rides s t) (line finder : Nat) : Rides s (Machine.poisonLine line finder t) := by
  have hadd : Rides s (addPoison line t) := h
  have htold : Rides s (poisonTold line finder (addPoison line t)) :=
    ((hadd.cond _ _ fun _ hu => hu.markLost _ _).pushRecord _ _).logEvent _ _
  rw [poisonLine_eq]
  exact (raiseSimple ((((((htold.set _ _).event _ _).set _ _).set _ _).set _ _)) _ _ _ _ _).rankUncorrectable line

theorem spillLost (h : Rides s t) (q line : Nat) : Rides s (Machine.spillLost q line t) :=
  (((h.setQueue q _).set (Reg.GQ.POISON_COUNT q) _ lo_apart).event _ _).raiseSimple _ _ _ _ _

theorem queueOp (h : Rides s t) (ch die : Nat) (op : DieOp) : Rides s (Machine.queueOp ch die op t) := by
  unfold Machine.queueOp
  split
  · exact emit (t := setOps ch die [op] t) h _
  · exact h

theorem urgentRead (h : Rides s t) (g : Nat) : Rides s (Machine.urgentRead g t) := by
  unfold Machine.urgentRead
  split
  · exact h.queueOp _ _ _
  · exact h

theorem repaired (h : Rides s t) (line : Nat) (d : Line) (fromTwin : Bool) :
    Rides s (Machine.repaired line d fromTwin t) := by
  have hcount : Rides s (inc (if fromTwin then Reg.SPR.REPAIR_TWIN else Reg.SPR.REPAIR_SEALED) t) := by
    refine h.set _ _ ?_
    split <;> decide
  refine serveReads (endReads (same (t := when _ _ _) (hcount.cond _ _ fun u hu => ?_)) _) _
  exact (hu.writeLine _ _ _).clearPoisonAt _

theorem unrepaired (h : Rides s t) (line finder : Nat) : Rides s (Machine.unrepaired line finder t) := by
  have hdrop : Rides s (dropRepair line t) := h
  refine serveReads (endReads ?_ _) _
  dsimp only
  split
  · exact hdrop
  · split
    · exact hdrop.spillLost _ _
    · exact hdrop.poisonLine _ _

theorem repairOnward (h : Rides s t) (line : Nat) (finder : Finder) : Rides s (Machine.repairOnward line finder t) := by
  have hlost := h.unrepaired line finder.code
  have hadd : ∀ r, Rides s (addRepair r (dropRepair line t)) := fun _ => h
  exact branch _ hlost (branch _ (branch _ (h.repaired _ _ _) ((hadd _).urgentRead _)) hlost)

theorem repairsOnward (h : Rides s t) : Rides s (Machine.repairsOnward t) :=
  h.each _ _ fun r _ hu => hu.repairOnward r.line r.finder

theorem twinIndicate (h : Rides s t) : Rides s (Machine.twinIndicate t) := by
  have hdegrade : Rides s ({ t with twn := { t.twn with
      genRaised := t.twn.genRaised && isSet Reg.SYS.PERSIST_TWIN_DEGRADED t } } |>
      Machine.set Reg.SYS.PERSIST_TWIN_DEGRADED 1 |> Machine.set Reg.SYS.PERSIST_SCOPE 0) :=
    set (set (t := { t with twn := _ }) h _ _) _ _
  exact branch _ ((h.set _ _).set _ _) (branch _ hdegrade (branch _ ((h.set _ _).set _ _)
    (branch _ ((h.set _ _).set _ _) h)))

theorem setTwinState (h : Rides s t) (st : Nat) : Rides s (Machine.setTwinState st t) := (h.set _ _).twinIndicate

theorem leaveTwin (h : Rides s t) (st : Nat) : Rides s (Machine.leaveTwin st t) := by
  have hwaits : Rides s (releasePrepares (releaseMirrorWaits (Machine.setTwinState st (Machine.stopMirroring t)))) :=
    same (t := Machine.setTwinState _ _) (h.stopMirroring.setTwinState st)
  exact hwaits.cond _ _ fun _ hu => (hu.event _ _).set _ _

theorem twinLostNow (h : Rides s t) : Rides s (Machine.twinLostNow t) :=
  branch _ ((h.leaveTwin 5).repairsOnward.raiseSimple _ _ _ _ _) h

theorem puntyDown (h : Rides s t) : Rides s (Machine.puntyDown t) :=
  (((h.set _ _).set _ _).event _ _).twinLostNow

end Rides

end Sys2Proof.Machine
end

section
/-! SUPPORT. The clocks: loss and return of a PLL's lock, the reaction of its domains, the crystal and the frame
watchdog
(R98, R394, R420, R499). -/

namespace Sys2Proof.Machine
set_option Elab.async false

/-! ### The walk over the GROUP reaction -/

/-- A cold restart is asked for. -/
def coldMarked (s : State) : State :=
  { s with pwr := { s.pwr with cold := true, requests := [], switching := [], resetDue := false },
           rsr := { s.rsr with coldReset := true },
           hp := { s.hp with outageCounted := s.hp.outageCounted && !(admittedNow s && !fenced s) } }

/-- A domain shares in the GROUP reaction. -/
def inGroup (d : Nat) (s : State) : State := { s with pwr := { s.pwr with groupDoms := addNat s.pwr.groupDoms d } }

namespace Rides

variable {s t : State}

theorem portFailed (h : Rides s t) (n : Nat) : Rides s (Machine.portFailed n t) := by
  have hforget : Rides s (portForget n t) := h.same
  exact raiseSimple (branch _ h ((((hforget.set _ _ lo_apart).set _ _ lo_apart).set _ _ lo_apart).event _ _))
    _ _ _ _ _

theorem rankLost (h : Rides s t) (i : Nat) : Rides s (Machine.rankLost i t) := by
  have hrank := h.setRank i 7
  exact branch _ h hrank

theorem ranksLost (h : Rides s t) (r : Nat) : Rides s (Machine.ranksLost r t) :=
  h.each _ _ fun i _ hu => hu.rankLost i

theorem channelFailed (h : Rides s t) (ch : Nat) : Rides s (Machine.channelFailed ch t) :=
  branch _ h (((h.set _ _ lo_apart).event _ _).raiseSimple _ _ _ _ _)

theorem coldReset (h : Rides s t) : Rides s (Machine.coldReset false t) := by
  have hmarked : Rides s (coldMarked t) := h.same
  have he : Machine.coldReset false t =
      when (!goingDown (Machine.set Reg.SAV.STS_STATE 0 (coldMarked t))) Machine.startDown
        (Machine.set Reg.SAV.STS_STATE 0 (coldMarked t)) := rfl
  rw [he]
  exact (hmarked.set _ _).cond _ _ fun _ hu => hu.startDown

theorem domainGroup (h : Rides s t) (d : Nat) : Rides s (Machine.domainGroup d t) := by
  have hin : Rides s (inGroup d t) := h.same
  unfold Machine.domainGroup
  change Rides s (if !domainPresent d t then t else if d < 8 then Machine.portFailed (d % 4) (inGroup d t)
    else _)
  refine branch _ h (branch _ (hin.portFailed _) (branch _ hin.puntyDown (branch _ ?_ (branch _ (hin.ranksLost _)
    (branch _ ?_ (branch _ hin hin.coldReset))))))
  · exact hin.each _ _ fun _ _ hu => hu.rankLost _
  · exact hin.each _ _ fun _ _ hu => hu.channelFailed _

end Rides

/-! ### The lock of a PLL -/

/-- The fields of a lock that is lost. -/
def lossShown : List Fld :=
  [Reg.CLK.PLL_STS_LOCKED, Reg.CLK.PLL_LOST_LOST, Reg.CLK.LOCK_LOSSES_COUNT, Reg.EVT_STS 2 0]

/-- A PLL that has lost its lock relocks, and shows it. -/
def lockLost (k : Fin 12) (s : State) : State :=
  { s with pwr := { s.pwr with relocking := s.pwr.relocking.filter (·.1 != k.val) ++ [(k.val, 0)] } }
    |> putBit Reg.CLK.PLL_STS_LOCKED k false |> putBit Reg.CLK.PLL_LOST_LOST k true
    |> inc Reg.CLK.LOCK_LOSSES_COUNT |> event 2 0

theorem changes_lockLost (k : Fin 12) (s : State) : Changes [.pwr] lossShown s (lockLost k s) := by
  have hpwr := (Changes.refl [.pwr] lossShown s).in_pwr
    { s.pwr with relocking := s.pwr.relocking.filter (·.1 != k.val) ++ [(k.val, 0)] } (by simp)
  exact (((hpwr.set _ _ (by simp [lossShown])).set _ _ (by simp [lossShown])).inc _ (by simp [lossShown])).event _ _
    (by simp [lossShown])

theorem lockLost_get (k : Fin 12) (s : State) :
    bitOf (get Reg.CLK.PLL_STS_LOCKED (lockLost k s)) k = false ∧ bitOf (get Reg.CLK.PLL_LOST_LOST
        (lockLost k s)) k = true ∧
    get Reg.CLK.LOCK_LOSSES_COUNT (lockLost k s) = oneMore Reg.CLK.LOCK_LOSSES_COUNT s ∧
    get (Reg.EVT_STS 2 0) (lockLost k s) = 1 := by
  have hk := k.isLt
  refine ⟨?_, ?_, ?_, get_set_same _ _ _⟩
  · rw [lockLost, event, get_set_other _ _ (by decide), get_inc_other _ (by decide), putBit,
      get_set_other _ _ (by decide)]
    exact get_putBit_same _ _ _ _ hk
  · rw [lockLost, event, get_set_other _ _ (by decide), get_inc_other _ (by decide)]
    exact get_putBit_same _ _ _ _ hk
  · rw [lockLost, event, get_set_other _ _ (by decide), get_inc_same, putBit, putBit,
      get_set_other _ _ (by decide), get_set_other _ _ (by decide)]
    rfl

theorem lockLost_waits (k : Fin 12) (s : State) : pllWaits k (lockLost k s) = true := by
  refine List.any_eq_true.2 ⟨(k.val, 0), List.mem_append_right _ (List.mem_singleton_self _), ?_⟩
  exact beq_self_eq_true _

theorem completes_pllLockLoss {s : State} (hs : Ready s) {k : Fin 12}
    (hk : bitOf (get Reg.CLK.PLL_STS_LOCKED s) k = true) : Completes (.pllLockLoss k) s fun t =>
      (isSet (Reg.FLS.LIVE 241) s = true ∨ Calm 241 s →
        bitOf (get Reg.CLK.PLL_STS_LOCKED t) k = false ∧ bitOf (get Reg.CLK.PLL_LOST_LOST t) k = true ∧
        get Reg.CLK.LOCK_LOSSES_COUNT t = oneMore Reg.CLK.LOCK_LOSSES_COUNT s ∧ get (Reg.EVT_STS 2 0) t = 1 ∧
        pllWaits k t = true ∧ Changes raiseParts (lossShown ++ raiseFields 241) s t) ∧
      (Fresh 241 s → Raised 241 s t) := by
  obtain ⟨a, he⟩ : ∃ a, (fun s => if !bitOf (get Reg.CLK.PLL_STS_LOCKED s) k then s
      else raiseSimple 241 0 k (get Reg.CLK.PLL_LOST_LOST (lockLost k s)) k (lockLost k s)) (begun s) =
      raiseSimple 241 0 k a k (lockLost k (begun s)) := by
    refine ⟨_, if_neg ?_⟩
    rw [show bitOf (get Reg.CLK.PLL_STS_LOCKED (begun s)) k = true from hk]
    decide
  have hlost := changes_lockLost k (begun s)
  have hsame : SameSource 241 s (lockLost k (begun s)) := hlost.source (by decide) (by decide)
  obtain ⟨hlocked, hloss, hcount, hevent⟩ := lockLost_get k (begun s)
  have hwaits := lockLost_waits k (begun s)
  have hreqs := hlost.reqs.trans hs.2
  have hbegin := (Changes.begin [.pwr] lossShown s).trans hlost
  generalize lockLost k (begun s) = u at *
  refine (Completes.leavesWhen hs rfl he fun hq => ?_).and (Completes.leavesWhen hs rfl he fun hf => ?_)
  · have hq' := hq.imp hsame.live.trans hsame.calm
    have hraise := changes_raise_of_calm_or_live (x := ⟨241, 0, k, a, k, false, false⟩) hq'
    have hpwr : (raiseSimple 241 0 k a k u).pwr.relocking = u.pwr.relocking := by
      rcases hq' with hl | hc
      · exact congrArg (fun x : State => x.pwr.relocking) (raise_of_live (x := ⟨241, 0, k, a, k, false, false⟩) hl)
      · have hcalm := raise_calm (x := ⟨241, 0, k, a, k, false, false⟩) hc
        exact congrArg (fun x : Pwr × Sav × Flt => x.1.relocking) hcalm
    have hget : ∀ f : Fld, f.key ∉ (raiseFields 241).map Fld.key → f.key ∉ settleKeys →
        get f (raiseSimple 241 0 k a k u) = get f u := hraise.regs
    have hc := (hbegin.widen (by decide) (List.subset_append_left _ _)).trans
      (hraise.widen (fun _ h => h) (List.subset_append_right lossShown _))
    change Changes _ _ s (raiseSimple 241 0 k a k u) at hc
    generalize raiseSimple 241 0 k a k u = v at *
    refine ⟨hc.reqs.trans hs.2, fun t kk => ⟨?_, ?_, ?_, ?_, ?_, hc.ended kk⟩⟩
    · rw [kk.get _ (by decide), hget _ (by decide) (by decide)]
      exact hlocked
    · rw [kk.get _ (by decide), hget _ (by decide) (by decide)]
      exact hloss
    · rw [kk.get _ (by decide), hget _ (by decide) (by decide)]
      exact hcount
    · rw [kk.get _ (by decide), hget _ (by decide) (by decide)]
      exact hevent
    · rw [pllWaits, kk.pwr, hpwr]
      exact hwaits
  · have hraised := raised_raiseSimple (hsame.fresh hf) rfl (by decide) 0 k a k
    exact ⟨(changes_raiseSimple (hsame.fresh hf).2 0 k a k).reqs.trans hreqs, fun t kk =>
      (SameSource.settle (by decide) kk).stays (hsame.raised hraised)⟩

/-- The PLLs but one, that relock. -/
def lockDone (k : Fin 12) (s : State) : State :=
  { s with pwr := { s.pwr with relocking := s.pwr.relocking.filter (·.1 != k.val) } }

theorem lockDone_waits (k : Fin 12) (s : State) : pllWaits k (lockDone k s) = false := by
  refine List.any_eq_false.2 fun e he => ?_
  have hne := (List.mem_filter.1 he).2
  simpa using hne

theorem completes_pllRelock {s : State} (hs : Ready s) {k : Fin 12} (hk : pllWaits k s = true) :
    Completes (.pllRelock k) s fun t =>
      bitOf (get Reg.CLK.PLL_STS_LOCKED t) k = true ∧ get (Reg.EVT_STS 2 1) t = 1 ∧ pllWaits k t = false ∧
      t.pwr = { s.pwr with relocking := s.pwr.relocking.filter (·.1 != k.val) } ∧
      Changes [.pwr] [Reg.CLK.PLL_STS_LOCKED, Reg.EVT_STS 2 1] s t := by
  have hc : Changes [.pwr] [Reg.CLK.PLL_STS_LOCKED, Reg.EVT_STS 2 1] s
      (event 2 1 (putBit Reg.CLK.PLL_STS_LOCKED k true (lockDone k (begun s)))) :=
    (((Changes.begin _ _ s).in_pwr _ (by simp)).set _ _ (by simp)).event _ _ (by simp)
  have hbit := get_putBit_same Reg.CLK.PLL_STS_LOCKED k true (lockDone k (begun s)) k.isLt
  refine .leaves hs rfl (if_pos hk) (hc.reqs.trans hs.2) fun t kk => ⟨?_, ?_, ?_, kk.pwr, hc.ended kk⟩
  · refine (congrArg (bitOf · k.val) (kk.get _ (by decide))).trans ?_
    exact (congrArg (bitOf · k.val) (get_set_other _ _ (by decide))).trans hbit
  · exact kk.stored (by decide) (get_set_same _ _ _)
  · rw [pllWaits, kk.pwr]
    exact lockDone_waits k (begun s)

/-- A PLL whose time to relock may have run out. -/
def relockChecked (k : Fin 12) (s : State) : State :=
  if s.pwr.relocking.any (fun e => e.1 == k.val && decide (50 ≤ e.2)) then
    forEach (pllDomains k.val) domainGroup (lockDone k s)
  else s

/-- The GROUP reaction of the PLL's domains runs where it has waited for 50 frames. -/
theorem relockTimeout_eq {s : State} {k : Fin 12} {n : Nat} (hm : (k.val, n) ∈ s.pwr.relocking) (hn : 50 ≤ n) :
    relockChecked k (begun s) = forEach (pllDomains k.val) domainGroup (lockDone k (begun s)) :=
  if_pos (List.any_eq_true.2 ⟨_, hm, by simp [hn]⟩)

theorem completes_relockTimeout {s : State} (hs : Ready s) {k : Fin 12} {n : Nat} (hm : (k.val, n) ∈ s.pwr.relocking)
    (hn : 50 ≤ n) : Completes (.pllRelockTimeout k) s fun t => pllWaits k t = false := by
  refine .of_run hs (f := relockChecked k) rfl ?_
  rw [relockTimeout_eq hm hn]
  have hride : Rides (lockDone k (begun s)) (forEach (pllDomains k.val) domainGroup (lockDone k (begun s))) :=
    (Rides.refl _).each _ _ fun d _ hu => hu.domainGroup d
  generalize forEach (pllDomains k.val) domainGroup (lockDone k (begun s)) = u at *
  obtain ⟨-, -, hlocks, -⟩ := (hride.settle s).parts
  rw [pllWaits, hlocks]
  exact lockDone_waits k (begun s)

theorem completes_ringTimeout {s : State} (hs : Ready s) {k : Fin 12} {n : Nat} (hm : (k.val, n) ∈ s.pwr.relocking)
    (hn : 50 ≤ n) : Completes (.pllRelockTimeout k) s fun t =>
      k.val = 11 ∧ domainPresent 50 s = true → 50 ∈ t.pwr.groupDoms ∧ Changes [.pwr] [] s t := by
  refine .leavesWhen hs rfl (relockTimeout_eq hm hn) fun ⟨hk, hp⟩ => ?_
  have hdoms : pllDomains k.val = [50] := by rw [hk]; decide
  have hpresent : domainPresent 50 (lockDone k (begun s)) = true := hp
  have he : forEach (pllDomains k.val) domainGroup (lockDone k (begun s)) = inGroup 50 (lockDone k (begun s)) := by
    rw [hdoms]
    change domainGroup 50 (lockDone k (begun s)) = _
    simp only [domainGroup, hpresent, Bool.not_true, Bool.false_eq_true, if_false]
    rfl
  rw [he]
  have hc : Changes [.pwr] [] s (inGroup 50 (lockDone k (begun s))) :=
    ((Changes.begin _ _ s).in_pwr _ (by simp)).in_pwr _ (by simp)
  refine ⟨hc.reqs.trans hs.2, fun t kk => ⟨?_, hc.ended kk⟩⟩
  rw [kk.pwr]
  exact mem_addNat_self _ _

/-- A PLL of a port has that port's domain alone. -/
theorem portDomains {k d : Nat} (hlow : 6 ≤ k) (hhigh : k < 10) (hd : d + 2 = k) : pllDomains k = [d] := by
  obtain rfl : d = k - 2 := by omega
  interval_cases k <;> decide

theorem completes_portTimeout {s : State} (hs : Ready s) {k : Fin 12} {n : Nat} (hm : (k.val, n) ∈ s.pwr.relocking)
    (hn : 50 ≤ n) {d : Nat} (hlow : 6 ≤ k.val) (hhigh : k.val < 10) (hd : d + 2 = k.val)
    (hp : domainPresent d s = true) (hcalm : ∀ r : Fin 4, Calm (148 + r) s) :
    Completes (.pllRelockTimeout k) s fun t =>
      d ∈ t.pwr.groupDoms ∧ get (Reg.HPT.LINK_WIDTH (d % 4)) t = 0 ∧
      (Fresh (148 + d % 4) s → Raised (148 + d % 4) s t) := by
  have hmod : d % 4 < 4 := Nat.mod_lt _ (by decide)
  obtain ⟨-, hr, -, hcard, hkeys⟩ := link_source ⟨d % 4, hmod⟩
  have hsrc : 148 + d % 4 < 384 := by omega
  obtain ⟨a, he⟩ : ∃ a, forEach (pllDomains k.val) domainGroup (lockDone k (begun s)) =
      raiseSimple (148 + d % 4) 0 (d % 4) a 0 (portLinkDown (d % 4) (inGroup d (lockDone k (begun s)))) := by
    refine ⟨linkWord (d % 4) (inGroup d (lockDone k (begun s))), ?_⟩
    rw [portDomains hlow hhigh hd]
    change domainGroup d (lockDone k (begun s)) = _
    rw [domainGroup, if_neg (by rw [show domainPresent d (lockDone k (begun s)) = true from hp]; decide)]
    exact if_pos (show d < 8 by omega)
  have hgroup : Changes [.pwr] [] s (inGroup d (lockDone k (begun s))) :=
    ((Changes.begin _ _ s).in_pwr _ (by simp)).in_pwr _ (by simp)
  have hdown := changes_portLinkDown (d % 4) (inGroup d (lockDone k (begun s)))
  have hin : d ∈ (portLinkDown (d % 4) (inGroup d (lockDone k (begun s)))).pwr.groupDoms := by
    rw [hdown.pwr (by simp)]
    exact mem_addNat_self _ _
  have hsame : SameSource (148 + d % 4) s (portLinkDown (d % 4) (inGroup d (lockDone k (begun s)))) :=
    (hgroup.source hsrc (by simp)).trans (hdown.source hsrc hcard)
  have hwidth := width_portLinkDown (d % 4) (inGroup d (lockDone k (begun s)))
  have hreqs := (hdown.reqs.trans hgroup.reqs).trans hs.2
  generalize portLinkDown (d % 4) (inGroup d (lockDone k (begun s))) = u at *
  have hcu := hsame.calm (hcalm ⟨d % 4, hmod⟩)
  have hraise := changes_raiseSimple hcu 0 (d % 4) a 0
  have hpwr : (raiseSimple (148 + d % 4) 0 (d % 4) a 0 u).pwr.groupDoms = u.pwr.groupDoms :=
    congrArg (fun x : Pwr × Sav × Flt => x.1.groupDoms) (raise_calm (x := ⟨148 + d % 4, 0, d % 4, a, 0, false, false⟩)
        hcu)
  obtain ⟨hks, -, hkr⟩ := hkeys (Reg.HPT.LINK_WIDTH (d % 4)) (by simp [linkFields])
  refine .leaves hs rfl ((relockTimeout_eq hm hn).trans he) (hraise.reqs.trans hreqs) fun t kk => ⟨?_, ?_, fun hf => ?_⟩
  · rw [kk.pwr, hpwr]
    exact hin
  · exact kk.stored hks ((hraise.regs _ hkr hks).trans hwidth)
  · exact (SameSource.settle hsrc kk).stays (hsame.raised (raised_raiseSimple (hsame.fresh hf) hr hsrc _ _ _ _))

theorem completes_noTimeout {s : State} (hs : Ready s) {k : Fin 12} (hn : ∀ n, 50 ≤ n → (k.val, n) ∉ s.pwr.relocking) :
    Completes (.pllRelockTimeout k) s fun t => Changes [] [] s t := by
  have hnone : ¬ (begun s).pwr.relocking.any (fun e => e.1 == k.val && decide (50 ≤ e.2)) = true := by
    intro ha
    obtain ⟨⟨j, n⟩, hm, he⟩ := List.any_eq_true.1 ha
    simp only [Bool.and_eq_true, beq_iff_eq, decide_eq_true_eq] at he
    obtain ⟨rfl, h50⟩ := he
    exact hn n h50 hm
  exact .leaves hs rfl (if_neg hnone) hs.2 fun t kk => (Changes.begin _ _ s).ended kk

theorem completes_pllLocked {s : State} (hs : Ready s) {k : Fin 12}
    (hd : (pllDomains k).any (fun d => domainOn d s) = true) (hw : pllWaits k s = false) :
    Completes (.pllLocked k) s fun t =>
      bitOf (get Reg.CLK.PLL_STS_LOCKED t) k = true ∧ Changes [] [Reg.CLK.PLL_STS_LOCKED] s t := by
  have hcond : ((pllDomains k.val).any (fun d => domainOn d (begun s)) && !pllWaits k.val (begun s)) = true :=
    Bool.and_eq_true_iff.2 ⟨hd, by rw [show pllWaits k.val (begun s) = false from hw]; rfl⟩
  have hc := (Changes.begin _ _ s).trans (changes_putBit Reg.CLK.PLL_STS_LOCKED k true (begun s))
  have hbit := get_putBit_same Reg.CLK.PLL_STS_LOCKED k true (begun s) k.isLt
  exact .leaves hs rfl (if_pos hcond) (hc.reqs.trans hs.2) fun t kk =>
    ⟨(congrArg (bitOf · k.val) (kk.get _ (by decide))).trans hbit, hc.ended kk⟩

/-! ### The crystal and the frame watchdog -/

/-- The fields of the crystal's check. -/
def xtalFields : List Fld := [Reg.CLK.XTAL_PPM_X10, Reg.CLK.XTAL_FRAME_FRAME]

/-- What the check shows. -/
def xtalShown (x : Int) (s : State) : State :=
  when (!pageDark 2 s) (fun s => s |> setInt Reg.CLK.XTAL_PPM_X10 (max (-32768) (min 32767 x))
    |> set Reg.CLK.XTAL_FRAME_FRAME (now32 s)) s

theorem changes_xtalShown (x : Int) (s : State) : Changes [] xtalFields s (xtalShown x s) :=
  (Changes.refl _ _ s).cond _ _ fun u hu => (hu.set _ _ (by simp [xtalFields])).set _ _ (by simp [xtalFields])

/-- A signed value of 16 bits reads back. -/
theorem signed_read {i : Int} (hlow : -32768 ≤ i) (hhigh : i ≤ 32767) :
    signedOf 16 (encodeSigned 16 i % 2 ^ 16) = i := by
  unfold signedOf encodeSigned
  norm_num
  split <;> omega

theorem xtalShown_get {x : Int} {s : State} (hp : pageDark 2 s = false) :
    getInt Reg.CLK.XTAL_PPM_X10 (xtalShown x s) = max (-32768) (min 32767 x) ∧
    get Reg.CLK.XTAL_FRAME_FRAME (xtalShown x s) = now32 s := by
  have he : xtalShown x s = set Reg.CLK.XTAL_FRAME_FRAME
      (now32 (setInt Reg.CLK.XTAL_PPM_X10 (max (-32768) (min 32767 x)) s))
      (setInt Reg.CLK.XTAL_PPM_X10 (max (-32768) (min 32767 x)) s) := by
    rw [xtalShown, hp]
    rfl
  rw [he]
  refine ⟨?_, (get_set_same _ _ _).trans ?_⟩
  · rw [getInt, get_set_other _ _ (by decide), setInt, get_set_same]
    exact signed_read (by omega) (by omega)
  · exact Nat.mod_eq_of_lt (Nat.mod_lt _ (by decide))

/-- The check's source, by how wide it is and for how long. -/
def xtalTold (x : Int) (n : Nat) (s : State) : State :=
  if decide (20000 < x.natAbs) then (if 2 ≤ n then raiseHeld 332 0 0 (encodeSigned 32 x) 0 s else s) else liveFall 332 s

/-- A held source reads 1 as its live bit. -/
theorem get_live_raiseHeld {n : Nat} {s : State} (hf : Fresh n s) (hr : srcReserved n = false) (hn : n < 384)
    (reason inst snap2 snap3 : Nat) : get (Reg.FLS.LIVE n) (raiseHeld n reason inst snap2 snap3 s) = 1 := by
  rw [raiseHeld, raise_of_fresh (x := ⟨n, reason, inst, snap2, snap3, false, true⟩) hf hr, Bool.not_true, when_false,
    get_tellRaise (x := ⟨n, reason, inst, snap2, snap3, false, true⟩) hf.2 hn (by simp [sourceFields])]
  exact get_live_mark _ _

theorem changes_xtalTold {x : Int} {n : Nat} {s : State}
    (h : x.natAbs ≤ 20000 ∨ n < 2 ∨ isSet (Reg.FLS.LIVE 332) s = true ∨ Calm 332 s) :
    Changes raiseParts (raiseFields 332) s (xtalTold x n s) := by
  by_cases hx : 20000 < x.natAbs
  · by_cases hn : 2 ≤ n
    · have hq : isSet (Reg.FLS.LIVE 332) s = true ∨ Calm 332 s := (h.resolve_left (by omega)).resolve_left (by omega)
      have he : xtalTold x n s = raiseHeld 332 0 0 (encodeSigned 32 x) 0 s :=
        (if_pos (decide_eq_true hx)).trans (if_pos hn)
      rw [he]
      exact changes_raise_of_calm_or_live (x := ⟨332, 0, 0, encodeSigned 32 x, 0, false, true⟩) hq
    · have he : xtalTold x n s = s := (if_pos (decide_eq_true hx)).trans (if_neg hn)
      rw [he]
      exact .refl _ _ _
  · have he : xtalTold x n s = liveFall 332 s := if_neg (by simpa using hx)
    rw [he]
    exact (changes_liveFall 332 s).mono (by simp) (by decide)

theorem completes_xtalCheck {s : State} (hs : Ready s) (x : Int) (n : Nat) : Completes (.xtalCheck x n) s fun t =>
      (x.natAbs ≤ 20000 ∨ n < 2 ∨ isSet (Reg.FLS.LIVE 332) s = true ∨ Calm 332 s →
        (pageDark 2 s = false → getInt Reg.CLK.XTAL_PPM_X10 t = max (-32768) (min 32767 x) ∧
          get Reg.CLK.XTAL_FRAME_FRAME t = now32 s) ∧
        Changes raiseParts (xtalFields ++ raiseFields 332) s t) ∧
      (x.natAbs ≤ 20000 → isSet (Reg.FLS.LIVE 332) t = false ∧
        Changes [] (xtalFields ++ fallFields 332) s t) ∧
      (20000 < x.natAbs → 2 ≤ n → Fresh 332 s → get (Reg.FLS.LIVE 332) t = 1 ∧ Raised 332 s t) := by
  have he : (fun s => xtalTold x n (xtalShown x s)) (begun s) = xtalTold x n (xtalShown x (begun s)) := rfl
  have hshow := (Changes.begin _ _ s).trans (changes_xtalShown x (begun s))
  have hsame : SameSource 332 s (xtalShown x (begun s)) := hshow.source (by decide) (by decide)
  have hget : pageDark 2 s = false → _ := xtalShown_get (x := x) (s := begun s)
  generalize xtalShown x (begun s) = u at *
  have hwide := Completes.leavesWhen hs (c := .xtalCheck x n) (Q := x.natAbs ≤ 20000 ∨ n < 2 ∨
    isSet (Reg.FLS.LIVE 332) s = true ∨ Calm 332 s) (P := fun t => (pageDark 2 s = false →
      getInt Reg.CLK.XTAL_PPM_X10 t = max (-32768) (min 32767 x) ∧ get Reg.CLK.XTAL_FRAME_FRAME t = now32 s) ∧
      Changes raiseParts (xtalFields ++ raiseFields 332) s t) rfl he fun hq => by
    have htold := changes_xtalTold (x := x) (n := n) (hq.imp id (Or.imp id (Or.imp hsame.live.trans hsame.calm)))
    have hc := (hshow.widen (by decide) (List.subset_append_left _ _)).trans
      (htold.widen (fun _ h => h) (List.subset_append_right xtalFields _))
    refine ⟨hc.reqs.trans hs.2, fun t k => ⟨fun hp => ?_, hc.ended k⟩⟩
    obtain ⟨hppm, hframe⟩ := hget hp
    refine ⟨?_, k.stored (by decide) ((htold.regs _ (by decide) (by decide)).trans hframe)⟩
    rw [getInt, k.get _ (by decide), htold.regs _ (by decide) (by decide)]
    exact hppm
  have hnarrow := Completes.leavesWhen hs (c := .xtalCheck x n) (Q := x.natAbs ≤ 20000) (P := fun t =>
      isSet (Reg.FLS.LIVE 332) t = false ∧ Changes [] (xtalFields ++ fallFields 332) s t) rfl he fun hq => by
    have htold : xtalTold x n u = liveFall 332 u := if_neg (by simpa using hq)
    rw [htold]
    have hc := (hshow.widen (fun _ h => h) (List.subset_append_left _ _)).trans
      ((changes_liveFall 332 u).widen (fun _ h => h) (List.subset_append_right xtalFields _))
    exact ⟨hc.reqs.trans hs.2, fun t k => ⟨isSet_keeps k (by decide) (live_liveFall _ _), hc.ended k⟩⟩
  have hraised := Completes.leavesWhen hs (c := .xtalCheck x n) (Q := 20000 < x.natAbs ∧ 2 ≤ n ∧ Fresh 332 s)
      (P := fun t => get (Reg.FLS.LIVE 332) t = 1 ∧ Raised 332 s t) rfl he fun ⟨hx, hn, hf⟩ => by
    have htold : xtalTold x n u = raiseHeld 332 0 0 (encodeSigned 32 x) 0 u :=
      (if_pos (decide_eq_true hx)).trans (if_pos hn)
    have hfu := hsame.fresh hf
    rw [htold]
    refine ⟨((changes_raiseHeld hfu.2 _ _ _ _).reqs.trans hshow.reqs).trans hs.2, fun t k => ⟨?_, ?_⟩⟩
    · exact k.stored (by decide) (get_live_raiseHeld hfu rfl (by decide) _ _ _ _)
    · exact (SameSource.settle (by decide) k).stays (hsame.raised (raised_raiseHeld hfu rfl (by decide) _ _ _ _))
  exact ((hwide.and hnarrow).and hraised).mono fun t ⟨⟨h1, h2⟩, h3⟩ => ⟨h1, h2, fun hx hn hf => h3 ⟨hx, hn, hf⟩⟩

theorem completes_frameWatchdog {s : State} (hs : Ready s) (n : Nat) : Completes (.frameWatchdog n) s fun t =>
      (Fresh 331 s → Raised 331 s t ∧ Changes raiseParts (raiseFields 331) s t) ∧
      (isSet (Reg.FLS.LIVE 331) s = true → Changes [] [] s t) := by
  refine (Completes.leavesIf hs (f := raiseSimple 331 0 0 n 0) rfl fun hf => ?_).and
    (Completes.leavesIf hs (f := raiseSimple 331 0 0 n 0) rfl fun hl => ?_)
  · have hfb : Fresh 331 (begun s) := hf
    have hc := (Changes.begin _ _ s).trans (changes_raiseSimple hfb.2 0 0 n 0)
    exact ⟨hc.reqs.trans hs.2, fun t k => ⟨(SameSource.settle (by decide) k).stays
      (raised_raiseSimple hfb rfl (by decide) _ _ _ _), hc.ended k⟩⟩
  · have hlive : raiseSimple 331 0 0 n 0 (begun s) = begun s := raise_of_live (x := ⟨331, 0, 0, n, 0, false, false⟩) hl
    rw [hlive]
    exact ⟨hs.2, fun t k => (Changes.begin _ _ s).ended k⟩

/-- Settles O10, command by command: what a raise asks for is walked to the end where the clause holds
unconditionally. -/
theorem clockCommands : Obligations.ClockCommands := by
  intro s hs
  refine ⟨fun _ hk => completes_pllLockLoss hs hk, fun _ hk => completes_pllRelock hs hk,
    fun k n hm hn => ?_,
    fun _ hn => completes_noTimeout hs hn, fun _ hd hw => completes_pllLocked hs hd hw, completes_xtalCheck hs,
    completes_frameWatchdog hs⟩
  have hports : Completes (.pllRelockTimeout k) s fun t => ∀ d : Fin 8, 6 ≤ k.val ∧ k.val < 10 → d.val + 2 = k.val →
      domainPresent d s = true → (∀ r : Fin 4, Calm (148 + r) s) →
      d.val ∈ t.pwr.groupDoms ∧ get (Reg.HPT.LINK_WIDTH (d % 4)) t = 0 ∧
      (Fresh (148 + d % 4) s → Raised (148 + d % 4) s t) := by
    by_cases h : (6 ≤ k.val ∧ k.val < 10) ∧ domainPresent (k.val - 2) s = true ∧ ∀ r : Fin 4, Calm (148 + r) s
    · obtain ⟨⟨hlow, hhigh⟩, hp, hcalm⟩ := h
      refine (completes_portTimeout hs hm hn hlow hhigh (d := k.val - 2) (by omega) hp hcalm).mono
          fun t ht d _ hd _ _ => ?_
      rw [show d.val = k.val - 2 by omega]
      exact ht
    · refine (completes_relockTimeout hs hm hn).mono fun t _ d hk hd hp hcalm => absurd ⟨hk, ?_, hcalm⟩ h
      rwa [show k.val - 2 = d.val by omega]
  exact (((completes_relockTimeout hs hm hn).and (completes_ringTimeout hs hm hn)).and hports).mono
    fun t ⟨⟨h1, h2⟩, h3⟩ => ⟨h1, fun hk hp => h2 ⟨hk, hp⟩, fun d hk hd hp hcalm => h3 ⟨d, by omega⟩ hk hd hp hcalm⟩

end Sys2Proof.Machine
end

section
/-! SUPPORT. A host read that is not kept (O11). With more channel bits than there are fields, the last HOME entry of
the map is the register that names the source of the safe state: a line poisoned under way moves to another rank, and
that rank's source resets the port (R131, R165, R171, R404). -/

namespace Sys2Proof.Machine
set_option Elab.async false

/-! ### Where line 1 lies -/

/-- One region of 128 bytes whose map has 69,119 channel bits. -/
def wideRegion : Region :=
  { base := 0, log2 := 7, valid := true, chBase := 0, chBits := 69119, rankBase := 0, rankBits := 0 }

/-- The map has the wide region alone, and its masks leave address 64 out. -/
def WideMap (s : State) : Prop :=
  regions s = [(0, wideRegion)] ∧ (∀ k < 12, parity (Nat.land 64 (hashMask k s % 2 ^ 7)) 40 = 0) ∧ colBits s = 7

/-- Line 1, by the bits that its column and row take directly. -/
theorem lineLoc_wide {s : State} (h : WideMap s) : lineLoc 1 s =
    { ch := 0, sub := 0, rank := 0, bg := 0, bank := 0, row := gatherBits 64 ((directBits wideRegion s).drop 7),
      col := gatherBits 64 ((directBits wideRegion s).take 7) } := by
  obtain ⟨hregions, hmasks, hcols⟩ := h
  have hbit : ∀ k < 12, fieldBit wideRegion 64 k s = 0 := fun k hk => by
    unfold fieldBit
    split
    · exact hmasks k hk
    · rfl
  have hmap : mapAddress (64 * 1) s = some (mapIn wideRegion 64 s) := by
    rw [mapAddress, hregions]
    rfl
  rw [lineLoc, hmap]
  simp only [Option.getD_some, mapIn, show wideRegion.base = 0 from rfl, Nat.sub_zero, hbit 0 (by omega),
    hbit 1 (by omega), hbit 2 (by omega), hbit 3 (by omega), hbit 4 (by omega), hbit 5 (by omega), hbit 6 (by omega),
    hbit 7 (by omega),
    hbit 8 (by omega), hbit 9 (by omega), hbit 10 (by omega), hbit 11 (by omega), hcols]
  rfl

/-- Bit 6 is direct where no HOME entry holds it. -/
theorem directBits_wide (s : State) : directBits wideRegion s =
    if (usedFields wideRegion).any (fun k => hashHome k s == 6) then [] else [6] := by
  have hbits : (List.range wideRegion.log2).drop 6 = [6] := by decide
  rw [directBits, hbits, List.filter_cons]
  cases (usedFields wideRegion).any (fun k => hashHome k s == 6) <;> rfl

theorem home_reset {k : Nat} (hk : 12 ≤ k) : (Reg.DMC.HASH_HI_HOME k).reset = 0 :=
  List.getD_eq_default _ _ (by simpa using hk)

/-- Entry 69,118 is of the used ones, and is the register that names the safe state's source. -/
theorem directBits_none {s : State} (h : get Reg.SAF.STS_SOURCE s = 6) : directBits wideRegion s = [] := by
  have hreset : (Reg.DMC.HASH_HI_HOME 69118).reset = 0 := home_reset (by decide)
  have hkey : (Reg.DMC.HASH_HI_HOME 69118).key = Reg.SAF.STS_SOURCE.key := by
    simp only [Fld.key, Reg.DMC.HASH_HI_HOME, Reg.SAF.STS_SOURCE]
  have hsame : hashHome 69118 s = get Reg.SAF.STS_SOURCE s := by
    rw [hashHome, get, get, hkey, hreset]
    rfl
  rw [directBits_wide, if_pos]
  exact List.any_eq_true.2 ⟨69118, by simp [usedFields, wideRegion], by rw [hsame, h]; rfl⟩

/-- No register that a HOME entry reads holds 6. -/
def homesClear (s : State) : Bool :=
  s.regs.all (fun e => e.1 % 256 != 136 || e.2 != 6) && (List.range 12).all (fun k => hashHome k s != 6)

theorem mem_of_look {α : Type} {l : List (Nat × α)} {k : Nat} {v : α} (h : look l k = some v) : (k, v) ∈ l := by
  induction l with
  | nil => exact absurd h (by simp [look])
  | cons x xs ih =>
    obtain ⟨j, w⟩ := x
    by_cases hj : j = k
    · rw [look, if_pos hj] at h
      rw [← hj, ← Option.some.inj h]
      exact List.mem_cons_self
    · rw [look, if_neg hj] at h
      exact List.mem_cons_of_mem _ (ih h)

theorem directBits_six {s : State} (h : homesClear s = true) : directBits wideRegion s = [6] := by
  obtain ⟨hregs, hlow⟩ := Bool.and_eq_true_iff.1 h
  rw [directBits_wide, if_neg]
  intro hany
  obtain ⟨k, -, hk⟩ := List.any_eq_true.1 hany
  have hk6 : hashHome k s = 6 := beq_iff_eq.1 hk
  by_cases h12 : k < 12
  · have hne := List.all_eq_true.1 hlow k (List.mem_range.2 h12)
    simp [hk6] at hne
  · have hreset := home_reset (show 12 ≤ k by omega)
    unfold hashHome get at hk6
    cases hl : look s.regs (Reg.DMC.HASH_HI_HOME k).key with
    | none => simp [hl, hreset] at hk6
    | some v =>
      rw [hl] at hk6
      have hmem := List.all_eq_true.1 hregs _ (mem_of_look hl)
      have hkey : (Reg.DMC.HASH_HI_HOME k).key % 256 = 136 := by
        show ((0x10114 + 8 * k) * 32 + 8) % 256 = 136
        omega
      simp only [Option.getD_some] at hk6
      simp [hkey, hk6] at hmem

/-! ### The state of the refutation -/

/-- Line 1 lies in the rank of a spare that is down, under a migration from a rank 144. Its granule is DIRTY, its
poisoning is of severity S4, and the source of rank 144 resets the port. -/
def movedPlace : State :=
  { withFields [(Reg.SYS.CAPS_HP_PRESENT, 1), (Reg.SYS.CAP_ACK_EXPOSED_GIB, 1), (Reg.SYS.CAPS_DRAM_GROUPS, 1),
      (Reg.MRV.MAP_ENTRIES, 1), (Reg.PDM.DOM_CTL_STATE 4, 0), (Reg.PDM.DOM_CTL_STATE 0, 0), (Reg.BLKCTL_ENABLE 8, 1),
      (Reg.HPT.LINK_WIDTH 0, 1), (Reg.SYS.PERSIST_BOOT, 0), (Reg.HPT.STS_FENCED 0, 0), (Reg.HPT.STS_CFG_READY 0, 1),
      (Reg.DMC.REGION_A_SIZE_LOG2 0, 7), (Reg.DMC.REGION_A_VALID 0, 1), (Reg.DMC.REGION_B_CH_BITS 0, 69119),
      (Reg.DMC.HASH_LO_MASK_LO 4, 0), (Reg.DMC.HASH_HI_HOME 4, 0), (Reg.SPR.SPARE_VALID 0, 1),
      (Reg.SPR.SPARE_IN_USE 0, 1), (Reg.SPR.SPARE_RANK 0, 1), (Reg.SPR.MIG_STS_ACTIVE, 1), (Reg.SPR.MIG_STS_SRC, 144),
      (Reg.SPR.MIG_PTR_INDEX, 1), (Reg.SPR.RANK_STATE 1, 7), (Reg.SPR.RANK_STATE 144, 1), (Reg.SAF.STS_SOURCE, 6),
      (Reg.FLS.SRC_CFG_SEV 189, 4), (Reg.FLS.SRC_CFG_ACT 144, 2 ^ actBlockReset), (Reg.FLS.LIVE 180, 1),
      (Reg.FLS.SRC_CFG_SEV 176, 1), (Reg.FLS.SRC_CFG_ACT 176, 0), (Reg.FLS.SRC_CFG_SEV 177, 1),
      (Reg.FLS.SRC_CFG_ACT 177, 0), (Reg.GQ.CFG_SPILL_MIB 0, 0), (Reg.GQ.CFG_SPILL_MIB 1, 0),
      (Reg.GQ.CFG_SPILL_MIB 2, 0), (Reg.GQ.CFG_SPILL_MIB 3, 0), (Reg.TXN.UNDO_CFG_SIZE_GIB, 0)] with
    mrv := { entries := [(0, { state := .dirty })] }
    hp := { perst := [], decoders := [{ port := 0, decoder := 0, size := 2 ^ 30 }] } }

/-- The read, as it comes. -/
def movedRead : Stalled :=
  { port := 0, tag := 7, line := 1, be := none, data := 0, ctx := none, why := .demand 0 }

/-- The read as its port takes it. -/
def movedTaken : State :=
  { begun movedPlace with hp := { movedPlace.hp with readLines := modify movedPlace.hp.readLines 0 (· + 1) } }

/-- The read waits. -/
def movedWaits : State := awaitRead movedRead.port movedRead.tag movedRead.line none movedTaken

/-- Its line is poisoned, up to what its rank makes of it. -/
def movedPoisoned : State :=
  raiseSimple 189 0 0 1 0 (poisonCounted 1 0 (poisonTold 1 0 (addPoison 1 (dropRepair 1 movedWaits))))

/-- Rank 144 answers. -/
def movedRetired : State := retireRank 144 (inc (Reg.SPR.RANK_UE 144) movedPoisoned)

theorem wideMap_before : WideMap movedTaken := ⟨by decide +kernel, by decide +kernel, by decide +kernel⟩

theorem wideMap_poisoned : WideMap movedPoisoned := ⟨by decide +kernel, by decide +kernel, by decide +kernel⟩

theorem wideMap_retired : WideMap movedRetired := ⟨by decide +kernel, by decide +kernel, by decide +kernel⟩

theorem rank_before : rankOfLine 1 movedTaken = 1 := by
  rw [rankOfLine, lineLoc_wide wideMap_before, directBits_none (by decide +kernel)]
  decide +kernel

theorem rank_poisoned : rankOfLine 1 movedPoisoned = 144 := by
  rw [rankOfLine, lineLoc_wide wideMap_poisoned, directBits_six (by decide +kernel)]
  decide +kernel

theorem poisonLine_moved : poisonLine 1 0 (dropRepair 1 movedWaits) = movedRetired := by
  have hstate : get (Reg.SPR.RANK_STATE 144) (inc (Reg.SPR.RANK_UE 144) movedPoisoned) ≠ 5 := by decide +kernel
  rw [poisonLine_eq]
  change rankUncorrectable 1 movedPoisoned = movedRetired
  unfold rankUncorrectable
  dsimp only
  rw [rank_poisoned, if_neg hstate, movedRetired]

/-- What the read leaves, before its reactions. -/
def movedServed : State :=
  movedRetired |> dropRead (fun r => r.line == 1) |> depthShow 0 |> partialReady 1 |> serveReads 1

theorem unrepaired_told {line finder : Nat} {s : State} (hw : (writtenSince line s == allBytes) = false)
    (hq : spillQueue line (dropRepair line s) = none) : unrepaired line finder s =
      serveReads line (endReads line (poisonLine line finder (dropRepair line s))) := by
  unfold unrepaired
  dsimp only
  rw [hw, hq]
  rfl

theorem endReads_at {line ch : Nat} {s : State} (h : (lineLoc line s).ch = ch) : endReads line s =
    partialReady line (depthShow ch (dropRead (fun r => r.line == line) s)) := by
  rw [← h]
  rfl

theorem unrepaired_moved : unrepaired 1 0 movedWaits = movedServed := by
  have hch : (lineLoc 1 movedRetired).ch = 0 := by rw [lineLoc_wide wideMap_retired]
  rw [unrepaired_told (by decide +kernel) (by decide +kernel), poisonLine_moved, endReads_at hch, movedServed]

theorem startRepair_dirty {line : Nat} {finder : Finder} {s : State} (hr : repairOf line s = none)
    (ht : twinServes line s = false) (hs : (entryOf (granuleOf line s) s).state ≠ .clean) :
    startRepair line finder s = unrepaired line finder.code s := by
  unfold startRepair
  rw [if_neg (by rw [hr]; decide), if_neg (by rw [ht]; decide), repairOnward]
  split
  · rfl
  · exact if_neg (by simp [hs])

theorem startRepair_moved : startRepair 1 .hostRead movedWaits = movedServed :=
  (startRepair_dirty (by decide +kernel) (by decide +kernel) (by decide +kernel)).trans unrepaired_moved

theorem fetchLine_down {q : Stalled} {s : State} (hy : youngest q.line s = none)
    (hf : readsFull (lineLoc q.line s).ch (lineLoc q.line s).sub s = false) (hd : rankDown q.line s = true) :
    fetchLine q s = startRepair q.line .hostRead (awaitRead q.port q.tag q.line none s) := by
  have hfwd : forwards q.line s = false := by rw [forwards, hy]; rfl
  have hcount : when (youngest q.line s).isSome (inc (Reg.DCH.FWD_CNT_COUNT (lineLoc q.line s).ch)) s = s := by
    rw [hy]
    rfl
  unfold fetchLine
  dsimp only
  rw [hcount, if_neg (by rw [hf, Bool.and_false]; decide), if_neg (by rw [hfwd]; decide), if_pos hd]

theorem tryRead_restored {q : Stalled} {s : State} (hr : readRefused q.line s = false)
    (hs : inSpill (64 * q.line) s = false) (hu : unrestored (granuleOf q.line s) s = false) :
    tryRead q s = fetchLine q s := by
  have hwaits : waitsForRestore (granuleOf q.line s) q.line false s = false := by rw [waitsForRestore, hu]; rfl
  have hsame : (if unrestored (granuleOf q.line s) s then demand (granuleOf q.line s) s else s) = s :=
    if_neg (by rw [hu]; decide)
  unfold tryRead
  dsimp only
  rw [if_neg (by rw [hr]; decide), if_neg (by rw [hs]; decide), hsame, if_neg (by rw [hwaits]; decide)]

theorem fetchLine_moved : fetchLine movedRead movedTaken = movedServed := by
  have hfull : readsFull (lineLoc movedRead.line movedTaken).ch (lineLoc movedRead.line movedTaken).sub movedTaken =
      false := by
    have hloc := lineLoc_wide wideMap_before
    generalize directBits wideRegion movedTaken = l at hloc
    change lineLoc movedRead.line movedTaken = _ at hloc
    rw [hloc]
    change readsFull 0 0 movedTaken = false
    decide +kernel
  have hdown : rankDown movedRead.line movedTaken = true := by
    rw [rankDown, show movedRead.line = 1 from rfl, rank_before]
    decide +kernel
  have hnone : youngest movedRead.line movedTaken = none := by decide +kernel
  rw [fetchLine_down hnone hfull hdown]
  exact startRepair_moved

/-- A read of a line that answers, as its port takes it. -/
theorem hostRead_good {port tag line : Nat} {a : HostAddr} {s : State} (ht : takesRequest port a s = true)
    (hl : hostLine a s = some line) (hi : Uninjected s) : hostRead port a tag .good s =
      tryRead { port := port, tag := tag, line := line, be := none, data := 0, ctx := none, why := .demand 0 }
        { s with hp := { s.hp with readLines := modify s.hp.readLines port (· + 1) } } := by
  have hline : hostLine a { s with hp := { s.hp with readLines := modify s.hp.readLines port (· + 1) } } = some line :=
    hl
  unfold hostRead
  rw [if_neg (by rw [ht]; decide)]
  dsimp only
  rw [hline]
  exact congrArg (tryRead _) (readEntry_good (s := { s with hp := { s.hp with
    readLines := modify s.hp.readLines port (· + 1) } }) hi)

theorem hostRead_moved : hostRead 0 (.home 64) 7 .good (begun movedPlace) = movedServed := by
  have hrefused : readRefused movedRead.line movedTaken = false := by decide +kernel
  have hspill : inSpill (64 * movedRead.line) movedTaken = false := by decide +kernel
  have hrestored : unrestored (granuleOf movedRead.line movedTaken) movedTaken = false := by decide +kernel
  have htry := (tryRead_restored hrefused hspill hrestored).trans fetchLine_moved
  exact (hostRead_good (by decide +kernel) (by decide +kernel) (by decide +kernel)).trans htry

theorem moved_ended : (settle movedPlace movedServed).hp.reads = [] ∧
    (settle movedPlace movedServed).hp.stalled = [] := by
  decide +kernel

/-- Refutes O11: line 1 lies on a rank that is down, and its poisoning enters the safe state, whose source moves the
line to rank 144; that rank's source resets the port, and the read is no longer there. -/
theorem not_hostReads : ¬ Obligations.HostReads := by
  intro h
  have hready : Ready movedPlace := by decide +kernel
  obtain ⟨-, hkept, -⟩ := h movedPlace hready (by decide +kernel) 0 (.home 64) 7 1 (by decide +kernel)
  have hmem := (hkept .good (by decide +kernel) (by decide +kernel) (by decide +kernel)).settled hready
    (f := hostRead 0 (.home 64) 7 .good) rfl
  obtain ⟨hreads, hstalled⟩ := moved_ended
  rw [hostRead_moved, hreads, hstalled] at hmem
  simp at hmem

end Sys2Proof.Machine
end

section
/-! SUPPORT. The commands of `TWN.CTL` (R332, R334, R340, R348, R349). -/

namespace Sys2Proof.Machine
set_option Elab.async false

/-! ### A code in RESULT, or WERR_BUSY -/

section
variable {s : State} (hs : Ready s) {w : Writer} {c : Instr} {data : Nat} {k : State → State}
    (hw : Reaches w 0xC1108 data s)
  (hc : exec c s = run (reach w ctlTwn data k) s)
include hs hw hc

theorem completes_twinCode {n : Nat} (hn : n < 8) (hk : k (begun s) = twinResult n (begun s)) :
    Completes c s fun t => get Reg.TWN.STS_RESULT t = n ∧ Changes [] [Reg.TWN.STS_RESULT] s t := by
  have hch := (Changes.begin [] [Reg.TWN.STS_RESULT] s).set Reg.TWN.STS_RESULT n (by simp)
  exact .leavesReached hs hw hc hk (hch.reqs.trans hs.2) fun t kk =>
    ⟨kk.stored (by decide) ((get_set_same _ _ _).trans (Nat.mod_eq_of_lt hn)), hch.ended kk⟩

theorem completes_twinBusy (hk : k (begun s) = werrBusy w ctlTwn (begun s)) :
    Completes c s fun t => get (Reg.BLKWERR_BUSY 0xC1) t = 1 ∧
      Changes [] [Reg.BLKWERR_BUSY 0xC1, Reg.BLKWERR_OFFSET 0xC1, Reg.BLKWERR_SOURCE 0xC1] s t := by
  have hch := (Changes.begin [] _ s).trans (changes_werrBusy w ctlTwn (begun s))
  exact .leavesReached hs hw hc hk (hch.reqs.trans hs.2) fun t kk =>
    ⟨kk.stored (by decide) (get_werrBusy w ctlTwn (begun s)), hch.ended kk⟩

/-- A command that is taken with RESULT 0. -/
theorem completes_twinSet {f : Twn → Twn} (hk : k (begun s) = twinResult 0 (setTwn f (begun s))) :
    Completes c s fun t => t.twn = f s.twn ∧ get Reg.TWN.STS_RESULT t = 0 ∧
      Changes [.twn] [Reg.TWN.STS_RESULT] s t := by
  have hch := ((Changes.begin [.twn] [Reg.TWN.STS_RESULT] s).in_twn (f s.twn) (by simp)).set Reg.TWN.STS_RESULT 0
    (by simp)
  exact .leavesReached hs hw hc hk (hch.reqs.trans hs.2) fun t kk =>
    ⟨kk.twn, kk.stored (by decide) (get_set_same _ _ _), hch.ended kk⟩

end

/-! ### PROMOTED -/

theorem changes_setPromoted (b : Bool) (s : State) : Changes [.upd] [Reg.TWN.STS_PROMOTED] s (setPromoted b s) :=
  ((Changes.refl _ _ s).put1 _ _ (by simp)).in_upd _ (by simp)

theorem get_setPromoted (b : Bool) (s : State) : get Reg.TWN.STS_PROMOTED (setPromoted b s) = b2n b := by
  refine (get_set_same Reg.TWN.STS_PROMOTED (b2n b) s).trans ?_
  cases b <;> rfl

theorem completes_demote {s : State} (hs : Ready s) {w : Writer} (hw : Reaches w 0xC1108 64 s)
    (hd : (isSet Reg.TWN.STS_PROMOTED s && s.twn.peerState == 7 && !s.hp.decoders.any
        (fun d => d.decoder == 2)) = true) :
    Completes (.demote w) s fun t => get Reg.TWN.STS_PROMOTED t = 0 ∧ get Reg.TWN.STS_RESULT t = 0 ∧
      Changes [.upd] [Reg.TWN.STS_PROMOTED, Reg.TWN.STS_RESULT] s t := by
  have hch := ((Changes.begin [.upd] [Reg.TWN.STS_PROMOTED, Reg.TWN.STS_RESULT] s).trans
    ((changes_setPromoted false (begun s)).widen (fun _ h => h) (by simp))).set Reg.TWN.STS_RESULT 0 (by simp)
  have hpro := get_setPromoted false (begun s)
  have he : demoteTwin w (begun s) = set Reg.TWN.STS_RESULT 0 (setPromoted false (begun s)) := if_pos hd
  generalize setPromoted false (begun s) = u at *
  exact .leavesReached hs hw rfl he (hch.reqs.trans hs.2) fun t kk =>
    ⟨kk.stored (by decide) ((get_set_other _ _ (by decide)).trans hpro), kk.stored (by decide) (get_set_same _ _ _),
      hch.ended kk⟩

/-! ### Detachment -/

/-- The granules of a list are marked, one after the other. -/
def twinMarked {α : Type} (l : List α) (g : α → Nat) (s : State) : State := forEach l (fun a => setTwinDirty (g a)) s

theorem setTwinDirty_stays (g h : Nat) {s : State} (hd : (entryOf h s).twinDirty = true) :
    (entryOf h (setTwinDirty g s)).twinDirty = true := by
  unfold setTwinDirty
  split
  · rw [entryOf_putEntry]
    split
    · rfl
    · exact hd
  · exact hd

theorem setTwinDirty_marks {g : Nat} {s : State} (hg : g < homeGranules s) (hu : entryInUse g s = true) :
    (entryOf g (setTwinDirty g s)).twinDirty = true := by
  unfold setTwinDirty
  rw [if_pos (by simp [hg, hu]), entryOf_putEntry, if_pos rfl]

theorem exposedBytes_congr {s t : State} (h : get Reg.SYS.CAP_ACK_EXPOSED_GIB t = get Reg.SYS.CAP_ACK_EXPOSED_GIB s) :
    exposedBytes t = exposedBytes s := by
  unfold exposedBytes
  rw [h]

theorem SamePlace.granBytes {s t : State} (h : SamePlace s t) : granBytes t = granBytes s := by
  unfold Machine.granBytes
  rw [h.field (f := Reg.MRV.CFG_GRAN_IN_USE) (by decide)]

theorem homeGranules_congr {s t : State} (he : exposedBytes t = exposedBytes s) (hg : granBytes t = granBytes s) :
    homeGranules t = homeGranules s := by
  unfold homeGranules
  rw [he, hg]

theorem setTwinDirty_place (g : Nat) (s : State) : SamePlace s (setTwinDirty g s) :=
  (changes_setTwinDirty g s).place entry_place

theorem setTwinDirty_exposed (g : Nat) (s : State) : exposedBytes (setTwinDirty g s) = exposedBytes s :=
  exposedBytes_congr ((changes_setTwinDirty g s).regs _ (by decide) (by decide))

theorem setTwinDirty_homes (g : Nat) (s : State) : homeGranules (setTwinDirty g s) = homeGranules s :=
  homeGranules_congr (setTwinDirty_exposed g s) (setTwinDirty_place g s).granBytes

theorem setTwinDirty_twn (g : Nat) (s : State) : (setTwinDirty g s).twn = s.twn :=
  (changes_setTwinDirty g s).twn (by simp)

theorem twinMarked_cons {α : Type} (b : α) (bs : List α) (g : α → Nat) (s : State) :
    twinMarked (b :: bs) g s = twinMarked bs g (setTwinDirty (g b) s) := by
  unfold twinMarked
  rw [forEach_cons]

theorem twinMarked_twn {α : Type} (l : List α) (g : α → Nat) (s : State) : (twinMarked l g s).twn = s.twn := by
  induction l generalizing s with
  | nil => rfl
  | cons b bs ih => rw [twinMarked_cons, ih, setTwinDirty_twn]

theorem twinMarked_stays {α : Type} (l : List α) (g : α → Nat) (h : Nat) {s : State}
    (hd : (entryOf h s).twinDirty = true) : (entryOf h (twinMarked l g s)).twinDirty = true := by
  induction l generalizing s with
  | nil => exact hd
  | cons b bs ih =>
    rw [twinMarked_cons]
    exact ih (setTwinDirty_stays (g b) h hd)

theorem twinMarked_marks {α : Type} (l : List α) (g : α → Nat) {s : State} {a : α} (ha : a ∈ l)
    (hg : g a < homeGranules s) (hu : entryInUse (g a) s = true) :
    (entryOf (g a) (twinMarked l g s)).twinDirty = true := by
  induction l generalizing s with
  | nil => exact absurd ha List.not_mem_nil
  | cons b bs ih =>
    rw [twinMarked_cons]
    rcases List.mem_cons.1 ha with rfl | hb
    · exact twinMarked_stays _ _ _ (setTwinDirty_marks hg hu)
    · have hu' := ((setTwinDirty_place (g b) s).entryInUse (g a)).trans hu
      have hg' : g a < homeGranules (setTwinDirty (g b) s) := by
        rw [setTwinDirty_homes]
        exact hg
      exact ih hb hg' hu'

/-- Mirroring has stopped; what was under way is not marked yet. -/
def mirrorStopped (s : State) : State :=
  { s with twn := { s.twn with outstanding := [], stalled := [], holdFrames := 0, prepares := [], copyWaits := [] } }

/-- The mirror writes that the twin has not acknowledged are marked (R337). -/
theorem stopMirroring_shown (s : State) : (stopMirroring s).twn.outstanding = [] ∧
    ∀ m ∈ s.twn.outstanding, granuleOf m.line s < homeGranules s → entryInUse (granuleOf m.line s) s = true →
      (entryOf (granuleOf m.line s) (stopMirroring s)).twinDirty = true := by
  have hout : (twinMarked s.twn.copying id (twinMarked s.twn.outstanding (fun m => granuleOf m.line s)
      (mirrorStopped s))).twn.outstanding = [] := by
    rw [twinMarked_twn, twinMarked_twn]
    rfl
  refine ⟨hout, fun m hm hg hu => ?_⟩
  exact twinMarked_stays s.twn.copying id _
    (twinMarked_marks s.twn.outstanding (fun m => granuleOf m.line s) (s := mirrorStopped s) hm hg hu)

/-- The indication of a detached twin (R16, R341). -/
theorem twinIndicate_detached {s : State} (h : twinState s = 6) :
    (paired s = true → get Reg.SYS.PERSIST_TWIN_DEGRADED (twinIndicate s) = 1) ∧
    get Reg.SYS.PERSIST_SCOPE (twinIndicate s) = 0 ∧ (twinIndicate s).twn.outstanding = s.twn.outstanding ∧
    Changes [.twn] [Reg.SYS.PERSIST_TWIN_DEGRADED, Reg.SYS.PERSIST_SCOPE] s (twinIndicate s) := by
  unfold twinIndicate
  dsimp only
  rw [h]
  cases hp : paired s
  · refine ⟨fun hq => absurd hq (by decide), get_set_same _ _ _, rfl, ?_⟩
    exact ((Changes.refl _ _ s).set _ _ (by simp)).set _ _ (by simp)
  · refine ⟨fun _ => (get_set_other _ _ (by decide)).trans (get_set_same _ _ _), get_set_same _ _ _, rfl, ?_⟩
    exact (((Changes.refl _ _ s).in_twn _ (by simp)).set _ _ (by simp)).set _ _ (by simp)

/-- The fields of a detachment. -/
def detachFields : List Fld :=
  entryFields ++ [Reg.TWN.STS_STATE, Reg.SYS.PERSIST_TWIN_DEGRADED, Reg.SYS.PERSIST_SCOPE]

/-- A twin that is detached here, up to its repairs. -/
def twinLeft (s : State) : State := leaveTwin 6 (sendTwin "DETACH" [] s)

theorem twinLeft_shown (s : State) :
    twinState (twinLeft s) = 6 ∧ (paired s = true → get Reg.SYS.PERSIST_TWIN_DEGRADED (twinLeft s) = 1) ∧
    get Reg.SYS.PERSIST_SCOPE (twinLeft s) = 0 ∧ (twinLeft s).twn.outstanding = [] ∧
    (∀ m ∈ s.twn.outstanding, granuleOf m.line s < homeGranules s → entryInUse (granuleOf m.line s) s = true →
      (entryOf (granuleOf m.line s) (twinLeft s)).twinDirty = true) ∧
    (∀ x ∈ (twinLeft s).hp.writes, x.seq = none) ∧ (twinLeft s).dram = s.dram ∧ (twinLeft s).reqs = s.reqs := by
  have hstop := changes_stopMirroring (sendTwin "DETACH" [] s)
  obtain ⟨hout, hdirty⟩ := stopMirroring_shown (sendTwin "DETACH" [] s)
  have hwhole : twinLeft s = releasePrepares (releaseMirrorWaits (setTwinState 6 (stopMirroring
      (sendTwin "DETACH" [] s)))) :=
    rfl
  have hpaired : paired (stopMirroring (sendTwin "DETACH" [] s)) = paired s := by
    rw [paired, isSet, hstop.regs _ (by decide) (by decide)]
    rfl
  have hdram : (stopMirroring (sendTwin "DETACH" [] s)).dram = s.dram := hstop.dram (by simp)
  have hreqs : (stopMirroring (sendTwin "DETACH" [] s)).reqs = s.reqs := hstop.reqs
  rw [hwhole]
  generalize stopMirroring (sendTwin "DETACH" [] s) = v at *
  have hstate : twinState (set Reg.TWN.STS_STATE 6 v) = 6 := get_set_same _ _ _
  obtain ⟨hdeg, hscope, hsame, hc⟩ := twinIndicate_detached hstate
  have hind : setTwinState 6 v = twinIndicate (set Reg.TWN.STS_STATE 6 v) := rfl
  have hpset : paired (set Reg.TWN.STS_STATE 6 v) = paired v := by
    rw [paired, paired, isSet, isSet, get_set_other _ _ (by decide)]
  rw [hind]
  generalize twinIndicate (set Reg.TWN.STS_STATE 6 v) = x at *
  refine ⟨(hc.regs _ (by decide) (by decide)).trans hstate, fun hp => hdeg (by rw [hpset, hpaired]; exact hp), hscope,
    hsame.trans hout, fun m hm hg hu => ?_, fun y hy => ?_, (hc.dram (by simp)).trans hdram, hc.reqs.trans hreqs⟩
  · have hentry : entryOf (granuleOf m.line s) x = entryOf (granuleOf m.line s) v := by
      exact entryOf_shown (hc.mrv (by simp))
    exact (congrArg Entry.twinDirty hentry).trans (hdirty m hm hg hu)
  · obtain ⟨z, -, rfl⟩ := List.mem_map.1 hy
    rfl

theorem repairsOnward_none {s : State} (h : ∀ r ∈ s.dram.repairs, r.stage ≠ .twin) : repairsOnward s = s := by
  have hnone : s.dram.repairs.filter (fun r => r.stage == .twin) = [] :=
    List.filter_eq_nil_iff.2 fun r hr => by simpa using h r hr
  rw [repairsOnward, hnone]
  rfl

/-- The end of a detachment: it was made here. -/
def detachedHere (s : State) : State :=
  s |> setTwn (fun t => { t with detachedHere := true, reattach := false, hello := none, planned := false,
                                 copies := [] }) |> twinResult 0

theorem changes_detachedHere (s : State) : Changes [.twn] [Reg.TWN.STS_RESULT] s (detachedHere s) :=
  ((Changes.refl _ _ s).in_twn _ (by simp)).set _ _ (by simp)

theorem detachTwin_eq {s : State} (ha : twinAttached s = true ∨ twinState s = 2) :
    detachTwin s = detachedHere (repairsOnward (twinLeft s)) := by
  refine if_pos ?_
  rcases ha with h | h
  · rw [h, Bool.true_or]
  · rw [h, Bool.or_comm]
    rfl

theorem completes_detach {s : State} (hs : Ready s) {w : Writer} (hw : Reaches w 0xC1108 4 s)
    (ha : twinAttached s = true ∨ twinState s = 2) : Completes (.detach w) s fun t =>
      [Out.twin "DETACH" []] <+: t.out ∧ get Reg.TWN.STS_RESULT t = 0 ∧ t.twn.detachedHere = true := by
  refine .of_reach hs hw rfl ?_
  rw [detachTwin_eq (s := begun s) ha]
  have hleft : Rides (sendTwin "DETACH" [] (begun s)) (repairsOnward (twinLeft (begun s))) :=
    ((Rides.refl _).leaveTwin 6).repairsOnward
  have hsent : [Out.twin "DETACH" []] <+: (repairsOnward (twinLeft (begun s))).out := hleft.2.2
  generalize repairsOnward (twinLeft (begun s)) = u at *
  have hride := (Rides.refl (detachedHere u)).settle s
  obtain ⟨hresult, -, -, hhere, -⟩ := hride.parts
  exact ⟨hsent.trans hride.2.2, hresult.trans (get_set_same _ _ _), hhere⟩

theorem completes_detachCalm {s : State} (hs : Ready s) {w : Writer} (hw : Reaches w 0xC1108 4 s)
    (ha : twinAttached s = true ∨ twinState s = 2) : Completes (.detach w) s fun t =>
      (∀ r ∈ s.dram.repairs, r.stage ≠ .twin) →
        twinState t = 6 ∧ (paired s = true → get Reg.SYS.PERSIST_TWIN_DEGRADED t = 1) ∧
        get Reg.SYS.PERSIST_SCOPE t = 0 ∧ t.twn.outstanding = [] ∧
        (∀ m ∈ s.twn.outstanding, granuleOf m.line s < homeGranules s → entryInUse (granuleOf m.line s) s = true →
          (entryOf (granuleOf m.line s) t).twinDirty = true) ∧
        (∀ x ∈ t.hp.writes, x.seq = none) ∧ (∀ a, readByte a t = readByte a s) := by
  by_cases hq : ∀ r ∈ s.dram.repairs, r.stage ≠ .twin
  case neg => exact (completes_detach hs hw ha).mono fun t _ h => absurd h hq
  obtain ⟨hstate, hdeg, hscope, hout, hdirty, hwrites, hdram, hreqs⟩ := twinLeft_shown (begun s)
  have hnone : repairsOnward (twinLeft (begun s)) = twinLeft (begun s) := repairsOnward_none (by rw [hdram]; exact hq)
  have he := detachTwin_eq (s := begun s) ha
  rw [hnone] at he
  generalize twinLeft (begun s) = v at *
  have hc := changes_detachedHere v
  have hsame : (detachedHere v).twn.outstanding = v.twn.outstanding := rfl
  have hport : (detachedHere v).hp.writes = v.hp.writes := rfl
  generalize detachedHere v = u at *
  refine .leavesReached hs hw rfl he (hc.reqs.trans (hreqs.trans hs.2)) fun t k _ => ⟨?_,
      fun hp => ?_, ?_, ?_, ?_, ?_, ?_⟩
  · exact k.stored (by decide) ((hc.regs _ (by decide) (by decide)).trans hstate)
  · exact k.stored (by decide) ((hc.regs _ (by decide) (by decide)).trans (hdeg hp))
  · exact k.stored (by decide) ((hc.regs _ (by decide) (by decide)).trans hscope)
  · rw [k.twn, hsame, hout]
  · intro m hm hg hu
    have hentry : entryOf (granuleOf m.line s) t = entryOf (granuleOf m.line s) v :=
      entryOf_shown (k.mrv.trans (hc.mrv (by simp)))
    exact (congrArg Entry.twinDirty hentry).trans (hdirty m hm hg hu)
  · rw [k.ports (·.writes) fun _ => rfl, hport]
    exact hwrites
  · exact k.bytes (congrArg Dram.mem ((hc.dram (by simp)).trans hdram))

/-! ### Promotion (R348) -/

/-- A promotion, after its contexts. -/
def twinPromoted (s : State) : State :=
  s |> setGen Reg.TWN.MIRROR_GEN_VALUE (get Reg.TWN.MIRROR_GEN_VALUE s + 1) |> setPromoted true
    |> setTwn (fun t => { t with failedIn := none }) |> event 0xC1 3 |> twinResult 0

/-- The fields of a promotion, beside its contexts. -/
def promoteFields : List Fld :=
  [Reg.TWN.STS_PROMOTED, Reg.TWN.MIRROR_GEN_VALUE, Reg.EVT_STS 0xC1 3, Reg.TWN.STS_RESULT]

theorem twinPromoted_shown (s : State) : get Reg.TWN.STS_PROMOTED (twinPromoted s) = 1 ∧
    (twinPromoted s).twn = { s.twn with failedIn := none } ∧ get Reg.TWN.STS_RESULT (twinPromoted s) = 0 ∧
    get (Reg.EVT_STS 0xC1 3) (twinPromoted s) = 1 ∧
    get Reg.TWN.MIRROR_GEN_VALUE (twinPromoted s) = (get Reg.TWN.MIRROR_GEN_VALUE s + 1) % 2 ^ 32 ∧
    Changes [.twn, .upd] promoteFields s (twinPromoted s) := by
  have hgen : Changes [.twn, .upd] promoteFields s
      (setGen Reg.TWN.MIRROR_GEN_VALUE (get Reg.TWN.MIRROR_GEN_VALUE s + 1) s) :=
    ((Changes.refl _ _ s).set _ _ (by simp [promoteFields])).in_upd _ (by simp)
  refine ⟨?_, rfl, get_set_same _ _ _, ?_, ?_, ?_⟩
  · exact (get_set_other _ _ (by decide)).trans ((get_set_other _ _ (by decide)).trans (get_setPromoted true _))
  · exact (get_set_other _ _ (by decide)).trans (get_set_same _ _ _)
  · have hset : get Reg.TWN.MIRROR_GEN_VALUE (setGen Reg.TWN.MIRROR_GEN_VALUE (get Reg.TWN.MIRROR_GEN_VALUE s + 1) s) =
        (get Reg.TWN.MIRROR_GEN_VALUE s + 1) % 2 ^ 32 := get_set_same _ _ _
    have hpro := (changes_setPromoted true (setGen Reg.TWN.MIRROR_GEN_VALUE (get Reg.TWN.MIRROR_GEN_VALUE s + 1)
        s)).regs
      Reg.TWN.MIRROR_GEN_VALUE (by decide) (by decide)
    exact (get_set_other _ _ (by decide)).trans ((get_set_other _ _ (by decide)).trans (hpro.trans hset))
  · exact ((((hgen.put1 _ _ (by simp [promoteFields])).in_upd _ (by simp)).in_twn _ (by simp)).event _ _
      (by simp [promoteFields])).set _ _ (by simp [promoteFields])

theorem promoteTwin_eq {s : State} (hst : twinState s = 5 ∨ twinState s = 6) (hf : s.twn.failedIn = some
    (twinState s)) :
    promoteTwin s = twinPromoted (forEach allCtx promoteContext s) := by
  refine if_pos ?_
  rw [hf]
  rcases hst with h | h <;> simp [h]

theorem completes_promote {s : State} (hs : Ready s) {w : Writer} (hw : Reaches w 0xC1108 32 s)
    (hst : twinState s = 5 ∨ twinState s = 6) (hf : s.twn.failedIn = some (twinState s)) :
    Completes (.promote w) s fun t => get Reg.TWN.STS_PROMOTED t = 1 ∧ t.twn.failedIn = none ∧
      get Reg.TWN.STS_RESULT t = 0 ∧ get (Reg.EVT_STS 0xC1 3) t = 1 := by
  refine .of_reach hs hw rfl ?_
  rw [promoteTwin_eq (s := begun s) hst hf]
  generalize forEach allCtx promoteContext (begun s) = x
  obtain ⟨hpro, htwn, hres, hevent, -, -⟩ := twinPromoted_shown x
  generalize twinPromoted x = u at *
  have hride := (Rides.refl u).settle s
  obtain ⟨hresult, hpromoted, -, -, hfailed⟩ := hride.parts
  exact ⟨hpromoted.trans hpro, by rw [hfailed, htwn], hresult.trans hres, hride.2.1 hevent⟩

/-- Nothing is left to promote of the contexts. -/
theorem completes_promoteIdle {s : State} (hs : Ready s) {w : Writer} (hw : Reaches w 0xC1108 32 s)
    (hst : twinState s = 5 ∨ twinState s = 6) (hf : s.twn.failedIn = some (twinState s)) :
    Completes (.promote w) s fun t => (∀ c, c < 64 → remotePrepared c s = false ∧ remoteOpen c s = false) →
      Changes [.twn, .upd] promoteFields s t := by
  by_cases hq : ∀ c, c < 64 → remotePrepared c s = false ∧ remoteOpen c s = false
  case neg => exact (completes_promote hs hw hst hf).mono fun t _ h => absurd h hq
  have hsame : forEach allCtx promoteContext (begun s) = begun s := by
    have hstep : ∀ c ∈ allCtx, promoteContext c (begun s) = begun s := fun c hc => by
      obtain ⟨hp, ho⟩ := hq c (List.mem_range.1 hc)
      unfold promoteContext
      rw [if_neg (by rw [show remotePrepared c (begun s) = false from hp]; decide),
        if_neg (by rw [show remoteOpen c (begun s) = false from ho]; decide)]
    exact forEach_keeps (· = begun s) allCtx promoteContext _ rfl fun c hc u hu => by rw [hu]; exact hstep c hc
  have he := promoteTwin_eq (s := begun s) hst hf
  rw [hsame] at he
  obtain ⟨-, -, -, -, -, hc⟩ := twinPromoted_shown (begun s)
  generalize twinPromoted (begun s) = u at *
  have hch := (Changes.begin _ _ s).trans hc
  exact .leavesReached hs hw rfl he (hch.reqs.trans hs.2) fun t k _ => hch.ended k

/-! ### The remote contexts at a promotion -/

/-- One bit of a value is put: no other moves. -/
theorem bitOf_put_other (v : Nat) (b : Bool) {k d : Nat} (hd : d ≠ k) :
    bitOf (v - bitsOf v k 1 * 2 ^ k + b2n b * 2 ^ k) d = bitOf v d := by
  have hbits : bitsOf v k 1 = b2n (bitOf v k) := by
    have h2 := Nat.mod_two_eq_zero_or_one (v / 2 ^ k)
    unfold bitOf bitsOf b2n
    rcases h2 with h | h <;> simp [h]
  have hclear := bitOf_sub_same v k
  have hsplit : v - b2n (bitOf v k) * 2 ^ k + b2n (bitOf v k) * 2 ^ k = v := by
    refine Nat.sub_add_cancel ?_
    rw [← hbits, bitsOf, Nat.pow_one]
    exact (Nat.mul_le_mul_right _ (Nat.mod_le _ _)).trans (Nat.div_mul_le_self _ _)
  rw [hbits]
  generalize v - b2n (bitOf v k) * 2 ^ k = x at *
  have hput : ∀ c : Bool, bitOf (x + b2n c * 2 ^ k) d = bitOf x d := fun c => by
    cases c
    · simp [b2n]
    · simpa [b2n] using bitOf_add_other hclear hd
  have hv := hput (bitOf v k)
  rw [hsplit] at hv
  rw [hput, hv]

/-- The masks of the remote contexts. -/
def remoteMasks : List Fld :=
  [Reg.TWN.RCTX_OPEN_LO_MASK, Reg.TWN.RCTX_OPEN_HI_MASK, Reg.TWN.RCTX_PREP_LO_MASK, Reg.TWN.RCTX_PREP_HI_MASK]

theorem changes_setRemoteOpen (c : Nat) (b : Bool) (s : State) : Changes [] remoteMasks s (setRemoteOpen c b s) := by
  unfold setRemoteOpen setMaskBit
  dsimp only
  split
  · exact (Changes.refl _ _ s).set _ _ (by simp [remoteMasks])
  · exact (Changes.refl _ _ s).set _ _ (by simp [remoteMasks])

theorem changes_setRemotePrepared (c : Nat) (b : Bool) (s : State) :
    Changes [] remoteMasks s (setRemotePrepared c b s) := by
  unfold setRemotePrepared setMaskBit
  dsimp only
  split
  · exact (Changes.refl _ _ s).set _ _ (by simp [remoteMasks])
  · exact (Changes.refl _ _ s).set _ _ (by simp [remoteMasks])

/-- The fields of a pair of masks. -/
theorem maskBit_other {lo hi : Fld} (hne : lo.key ≠ hi.key) (hl : lo.w = 32) (hh : hi.w = 32) (b : Bool) (s : State)
    {c d : Nat} (hd : d ≠ c) (hc64 : c < 64) (hd64 : d < 64) : maskBit lo hi d (setMaskBit lo hi c b s) = maskBit lo
        hi d s := by
  unfold maskBit setMaskBit
  dsimp only
  by_cases hc : c < 32 <;> by_cases hdl : d < 32
  · rw [if_pos hc, if_pos hdl, if_pos hdl, get_set_same, hl, bitOf_mod hdl, bitOf_put_other]
    omega
  · rw [if_pos hc, if_neg hdl, if_neg hdl, get_set_other _ _ hne.symm]
  · rw [if_neg hc, if_pos hdl, if_pos hdl, get_set_other _ _ hne]
  · rw [if_neg hc, if_neg hdl, if_neg hdl, get_set_same, hh, bitOf_mod (by omega), bitOf_put_other]
    omega

theorem maskBit_apart {lo hi f g : Fld} (hl : f.key ∉ [lo.key, hi.key]) (hh : g.key ∉ [lo.key, hi.key]) (b : Bool)
    (s : State) (c d : Nat) : maskBit f g d (setMaskBit lo hi c b s) = maskBit f g d s := by
  obtain ⟨hfl, hfh⟩ : f.key ≠ lo.key ∧ f.key ≠ hi.key := by simpa using hl
  obtain ⟨hgl, hgh⟩ : g.key ≠ lo.key ∧ g.key ≠ hi.key := by simpa using hh
  have hput : ∀ x : Fld, x.key ≠ lo.key → x.key ≠ hi.key → get x (setMaskBit lo hi c b s) = get x s := fun x h1 h2 => by
    unfold setMaskBit
    dsimp only
    split
    · exact get_set_other _ _ h1
    · exact get_set_other _ _ h2
  rw [maskBit, maskBit, hput f hfl hfh, hput g hgl hgh]

/-- What a promotion asks of a remote context. -/
def remoteView (c : Nat) (s : State) : Bool × Bool × Option Nat :=
  (remotePrepared c s, remoteOpen c s, look s.twn.tags c)

/-- The fields of a remote context that ends. -/
def remoteEndFields : List Fld := entryFields ++ (txnShown ++ remoteMasks)

/-- The fields of a promotion's contexts. -/
def remoteFields : List Fld := remoteEndFields ++ [Reg.SYS.PERSIST_IN_DOUBT, Reg.EVT_STS 0x44 2]

/-- A remote context without its record, its undo and its column. -/
def remoteCleared (c : Nat) (s : State) : State :=
  { s with twn := { s.twn with doubt := s.twn.doubt.filter (· != c), tags := drop s.twn.tags c } }
    |> voidUndo (64 + c) |> clearColumn (64 + c)

theorem remoteCleared_eq (c : Nat) (s : State) : ∃ l u, Changes [.twn, .txn] [] s u ∧
    u.twn = { s.twn with doubt := s.twn.doubt.filter (· != c), tags := drop s.twn.tags c } ∧
    remoteCleared c s = txnShow (heldCleared l u) := by
  let v : State := voidUndo (64 + c)
    { s with twn := { s.twn with doubt := s.twn.doubt.filter (· != c), tags := drop s.twn.tags c } }
  have hv : Changes [.twn, .txn] [] s v := ((Changes.refl _ _ s).in_twn _ (by simp)).in_txn _ (by simp)
  refine ⟨v.txn.pairs.filter (·.ctx == 64 + c), setPairs (v.txn.pairs.filter (·.ctx != 64 + c)) v,
    hv.in_txn _ (by simp), rfl, ?_⟩
  change clearColumn (64 + c) v = _
  unfold clearColumn
  dsimp only
  rw [decide_eq_false (by omega), when_false]
  rfl

theorem endRemote_shown {c : Nat} (hc : c < 64) (s : State) :
    Changes [.twn, .txn, .mrv] remoteEndFields s (endRemote c s) ∧
    (endRemote c s).twn = { s.twn with doubt := s.twn.doubt.filter (· != c), tags := drop s.twn.tags c } ∧
    ∀ d, d ≠ c → d < 64 → remoteView d (endRemote c s) = remoteView d s := by
  have hwhole : endRemote c s = setRemotePrepared c false (setRemoteOpen c false (remoteCleared c s)) := rfl
  obtain ⟨l, u, hu, htwn, he⟩ := remoteCleared_eq c s
  have hclear : Changes [.twn, .txn, .mrv] (entryFields ++ txnShown) s (remoteCleared c s) := by
    rw [he]
    exact ((hu.widen (by simp) (by simp)).trans ((changes_heldCleared l u).widen (by simp)
      (List.subset_append_left _ _))).trans ((changes_txnShow _).widen (by simp) (List.subset_append_right _ _))
  have htwn2 : (remoteCleared c s).twn = u.twn := by
    rw [he]
    exact ((changes_txnShow _).twn (by simp)).trans ((changes_heldCleared l u).twn (by simp))
  rw [hwhole]
  have hkeys : ∀ f ∈ remoteMasks, f.key ∉ (entryFields ++ txnShown).map Fld.key ∧ f.key ∉ settleKeys := by
    decide +kernel
  have hmask : ∀ f ∈ remoteMasks, get f (remoteCleared c s) = get f s := fun f hf =>
    hclear.regs f (hkeys f hf).1 (hkeys f hf).2
  generalize remoteCleared c s = v at *
  have hopen := changes_setRemoteOpen c false v
  have hprep := changes_setRemotePrepared c false (setRemoteOpen c false v)
  refine ⟨((hclear.widen (fun _ h => h) fun f hf => ?_).trans (hopen.widen (by simp) fun f hf => ?_)).trans
    (hprep.widen (by simp) fun f hf => ?_), ?_, fun d hd h64 => ?_⟩
  · simp only [remoteEndFields, List.mem_append] at hf ⊢
    tauto
  · exact List.mem_append_right _ (List.mem_append_right _ hf)
  · exact List.mem_append_right _ (List.mem_append_right _ hf)
  · rw [hprep.twn (by simp), hopen.twn (by simp), htwn2, htwn]
  · have hp : remotePrepared d (setRemotePrepared c false (setRemoteOpen c false v)) = remotePrepared d s := by
      calc remotePrepared d (setRemotePrepared c false (setRemoteOpen c false v))
          = remotePrepared d (setRemoteOpen c false v) := maskBit_other (by decide) rfl rfl _ _ hd hc h64
        _ = remotePrepared d v := maskBit_apart (by decide) (by decide) _ _ _ _
        _ = remotePrepared d s := by
          rw [remotePrepared, remotePrepared, maskBit, maskBit, hmask _ (by simp [remoteMasks]),
            hmask _ (by simp [remoteMasks])]
    have ho : remoteOpen d (setRemotePrepared c false (setRemoteOpen c false v)) = remoteOpen d s := by
      calc remoteOpen d (setRemotePrepared c false (setRemoteOpen c false v))
          = remoteOpen d (setRemoteOpen c false v) := maskBit_apart (by decide) (by decide) _ _ _ _
        _ = remoteOpen d v := maskBit_other (by decide) rfl rfl _ _ hd hc h64
        _ = remoteOpen d s := by
          rw [remoteOpen, remoteOpen, maskBit, maskBit, hmask _ (by simp [remoteMasks]),
            hmask _ (by simp [remoteMasks])]
    rw [remoteView, remoteView, hp, ho, hprep.twn (by simp), hopen.twn (by simp), htwn2, htwn]
    dsimp only
    rw [look_drop_other _ hd]

/-- A remote context that is PREPARED, or not OPEN: no undo is replayed for it. -/
def Ripe (c : Nat) (s : State) : Prop := remotePrepared c s = true ∨ remoteOpen c s = false

theorem ripe_congr {c : Nat} {s t : State} (h : remoteView c t = remoteView c s) (hr : Ripe c s) : Ripe c t := by
  obtain ⟨hp, ho, -⟩ : remotePrepared c t = remotePrepared c s ∧ remoteOpen c t = remoteOpen c s ∧
      look t.twn.tags c = look s.twn.tags c := by simpa only [remoteView, Prod.mk.injEq] using h
  rwa [Ripe, hp, ho]

/-- A ripe context is promoted. -/
structure PromotedOne (c : Nat) (s t : State) : Prop where
  changes : Changes [.twn, .txn, .mrv] remoteFields s t
  others : ∀ d, d ≠ c → d < 64 → remoteView d t = remoteView d s
  kept : ∀ d, d ≠ c → d ∈ s.twn.doubt → d ∈ t.twn.doubt
  stays : get Reg.SYS.PERSIST_IN_DOUBT s = 1 → get Reg.SYS.PERSIST_IN_DOUBT t = 1
  held : remotePrepared c s = true → look s.twn.tags c ≠ none →
    c ∈ t.twn.doubt ∧ get Reg.SYS.PERSIST_IN_DOUBT t = 1

theorem doubt_kept {s t : State} (ht : Changes [.twn, .txn, .mrv] remoteEndFields s t) :
    get Reg.SYS.PERSIST_IN_DOUBT t = get Reg.SYS.PERSIST_IN_DOUBT s := ht.regs _ (by decide) (by decide)

theorem promoteContext_ripe {c : Nat} (hc : c < 64) {s : State} (hr : Ripe c s) : PromotedOne c s
    (promoteContext c s) := by
  cases hp : remotePrepared c s with
  | false =>
    have ho := hr.resolve_left (by rw [hp]; decide)
    have he : promoteContext c s = s := by
      unfold promoteContext
      rw [if_neg (by rw [hp]; decide), if_neg (by rw [ho]; decide)]
    rw [he]
    exact ⟨.refl _ _ _, fun _ _ _ => rfl, fun _ _ h => h, id, fun h => absurd (hp.symm.trans h) (by decide)⟩
  | true =>
    cases ht : look s.twn.tags c with
    | none =>
      have he : promoteContext c s = endRemote c s := by
        unfold promoteContext
        rw [if_pos hp, if_neg (by rw [ht]; decide)]
      obtain ⟨hch, htwn, hothers⟩ := endRemote_shown hc s
      rw [he]
      refine ⟨hch.widen (fun _ h => h) (List.subset_append_left _ _), hothers, fun d hd hm => ?_, fun h1 => ?_,
        fun _ hn => absurd ht hn⟩
      · rw [htwn]
        exact List.mem_filter.2 ⟨hm, by simpa using hd⟩
      · exact (doubt_kept hch).trans h1
    | some tag =>
      have he : promoteContext c s = event 0x44 2 (set Reg.SYS.PERSIST_IN_DOUBT 1
          (setTwn (fun t => { t with doubt := addNat t.doubt c }) s)) := by
        unfold promoteContext
        rw [if_pos hp, if_pos (by rw [ht]; rfl)]
      have hdoubt : get Reg.SYS.PERSIST_IN_DOUBT (promoteContext c s) = 1 := by
        rw [he]
        exact (get_set_other _ _ (by decide)).trans (get_set_same _ _ _)
      have hch : Changes [.twn] [Reg.SYS.PERSIST_IN_DOUBT, Reg.EVT_STS 0x44 2] s (promoteContext c s) := by
        rw [he]
        exact (((Changes.refl _ _ s).in_twn _ (by simp)).set _ _ (by simp)).event _ _ (by simp)
      have hlist : (promoteContext c s).twn.doubt = addNat s.twn.doubt c ∧
          (promoteContext c s).twn.tags = s.twn.tags := by
        rw [he]
        exact ⟨rfl, rfl⟩
      generalize promoteContext c s = u at *
      have hmask : ∀ f ∈ remoteMasks, get f u = get f s := fun f hf => by
        have hk : ∀ g ∈ remoteMasks, g.key ∉ [Reg.SYS.PERSIST_IN_DOUBT, Reg.EVT_STS 0x44 2].map Fld.key ∧
          g.key ∉ settleKeys := by decide +kernel
        exact hch.regs f (hk f hf).1 (hk f hf).2
      refine ⟨hch.widen (by simp) (List.subset_append_right _ _), fun d _ _ => ?_, fun d _ hm => ?_, fun _ => hdoubt,
        fun _ _ => ⟨?_, hdoubt⟩⟩
      · simp only [remoteView, remotePrepared, remoteOpen, maskBit, hmask _ (by simp [remoteMasks] :
          Reg.TWN.RCTX_PREP_LO_MASK ∈ _),
          hmask _ (by simp [remoteMasks] : Reg.TWN.RCTX_PREP_HI_MASK ∈ _),
          hmask _ (by simp [remoteMasks] : Reg.TWN.RCTX_OPEN_LO_MASK ∈ _),
          hmask _ (by simp [remoteMasks] : Reg.TWN.RCTX_OPEN_HI_MASK ∈ _), hlist.2]
      · rw [hlist.1]
        exact (mem_addNat _ _ _).2 (.inr hm)
      · rw [hlist.1]
        exact mem_addNat_self _ _

/-- Ripe contexts are promoted, one after the other. -/
structure PromotedAll (l : List Nat) (s t : State) : Prop where
  changes : Changes [.twn, .txn, .mrv] remoteFields s t
  kept : ∀ d, d ∉ l → d ∈ s.twn.doubt → d ∈ t.twn.doubt
  stays : get Reg.SYS.PERSIST_IN_DOUBT s = 1 → get Reg.SYS.PERSIST_IN_DOUBT t = 1
  held : ∀ c ∈ l, remotePrepared c s = true → look s.twn.tags c ≠ none →
    c ∈ t.twn.doubt ∧ get Reg.SYS.PERSIST_IN_DOUBT t = 1

theorem promoteContexts_ripe {l : List Nat} (hn : l.Nodup) {s : State} (hr : ∀ c ∈ l, c < 64 ∧ Ripe c s) :
    PromotedAll l s (forEach l promoteContext s) := by
  induction l generalizing s with
  | nil => exact ⟨.refl _ _ _, fun _ _ h => h, id, fun _ hc => absurd hc List.not_mem_nil⟩
  | cons b bs ih =>
    obtain ⟨hb, hbs⟩ := List.nodup_cons.1 hn
    obtain ⟨hb64, hbr⟩ := hr b List.mem_cons_self
    obtain ⟨hch, hothers, hkept, hstays, hheld⟩ := promoteContext_ripe hb64 hbr
    have hne : ∀ c ∈ bs, c ≠ b := fun c hc he => hb (he ▸ hc)
    have hview : ∀ c ∈ bs, remoteView c (promoteContext b s) = remoteView c s := fun c hc =>
      hothers c (hne c hc) (hr c (List.mem_cons_of_mem _ hc)).1
    rw [forEach_cons]
    generalize promoteContext b s = u at *
    obtain ⟨kch, kkept, kstays, kheld⟩ := ih hbs fun c hc =>
      ⟨(hr c (List.mem_cons_of_mem _ hc)).1, ripe_congr (hview c hc) (hr c (List.mem_cons_of_mem _ hc)).2⟩
    refine ⟨hch.trans kch, fun d hd hm => ?_, fun h1 => kstays (hstays h1), fun c hc hp ht => ?_⟩
    · obtain ⟨hdb, hdbs⟩ := not_or.1 fun h => hd (List.mem_cons.2 h)
      exact kkept d hdbs (hkept d hdb hm)
    · rcases List.mem_cons.1 hc with rfl | hc
      · obtain ⟨hm, h1⟩ := hheld hp ht
        exact ⟨kkept c hb hm, kstays h1⟩
      · obtain ⟨vp, -, vt⟩ : remotePrepared c u = remotePrepared c s ∧ remoteOpen c u = remoteOpen c s ∧
            look u.twn.tags c = look s.twn.tags c := by simpa only [remoteView, Prod.mk.injEq] using hview c hc
        exact kheld c hc (vp.trans hp) (vt ▸ ht)

theorem completes_promoteRipe {s : State} (hs : Ready s) {w : Writer} (hw : Reaches w 0xC1108 32 s)
    (hst : twinState s = 5 ∨ twinState s = 6) (hf : s.twn.failedIn = some (twinState s)) :
    Completes (.promote w) s fun t => (∀ c, c < 64 → remotePrepared c s = true ∨ remoteOpen c s = false) →
      get Reg.TWN.MIRROR_GEN_VALUE t = (get Reg.TWN.MIRROR_GEN_VALUE s + 1) % 2 ^ 32 ∧
      (∀ c, c < 64 → remotePrepared c s = true → look s.twn.tags c ≠ none →
        c ∈ t.twn.doubt ∧ get Reg.SYS.PERSIST_IN_DOUBT t = 1) := by
  by_cases hq : ∀ c, c < 64 → remotePrepared c s = true ∨ remoteOpen c s = false
  case neg => exact (completes_promote hs hw hst hf).mono fun t _ h => absurd h hq
  obtain ⟨hch, -, -, hheld⟩ := promoteContexts_ripe (l := allCtx) List.nodup_range (s := begun s)
    fun c hc => ⟨List.mem_range.1 hc, hq c (List.mem_range.1 hc)⟩
  have he := promoteTwin_eq (s := begun s) hst hf
  generalize forEach allCtx promoteContext (begun s) = x at *
  obtain ⟨-, htwn, -, -, hgen, hc⟩ := twinPromoted_shown x
  generalize twinPromoted x = u at *
  refine .leavesReached hs hw rfl he (hc.reqs.trans (hch.reqs.trans hs.2)) fun t k _ => ⟨?_, fun c hc64 hp ht => ?_⟩
  · rw [k.get _ (by decide), hgen, hch.regs _ (by decide) (by decide)]
    rfl
  · obtain ⟨hm, h1⟩ := hheld c (List.mem_range.2 hc64) hp ht
    refine ⟨?_, k.stored (by decide) ((hc.regs _ (by decide) (by decide)).trans h1)⟩
    rw [k.twn, htwn]
    exact hm

/-! ### The commands together -/

section
variable {s : State} (hs : Ready s) {w : Writer}
include hs

theorem completes_pair (hw : Reaches w 0xC1108 1 s) (hst : twinState s = 0 ∨ isSet Reg.TWN.STS_PROMOTED s = true) :
    (isSet Reg.SYS.CAPS_TWIN s = false → Completes (.pair w) s fun t =>
      get Reg.TWN.STS_RESULT t = 2 ∧ Changes [] [Reg.TWN.STS_RESULT] s t) ∧
    (isSet Reg.SYS.CAPS_TWIN s = true → pairingFits s = false → Completes (.pair w) s fun t =>
      get Reg.TWN.STS_RESULT t = 3 ∧ Changes [] [Reg.TWN.STS_RESULT] s t) ∧
    (isSet Reg.SYS.CAPS_TWIN s = true → pairingFits s = true → Completes (.pair w) s fun t =>
      t.twn = { s.twn with nextPair := some true } ∧ get Reg.TWN.STS_RESULT t = 0 ∧
      Changes [.twn] [Reg.TWN.STS_RESULT] s t) := by
  have hopen : ¬ (!(twinState (begun s) == 0 || isSet Reg.TWN.STS_PROMOTED (begun s))) = true := by
    rcases hst with h | h
    · rw [show twinState (begun s) = 0 from h]
      simp
    · rw [show isSet Reg.TWN.STS_PROMOTED (begun s) = true from h]
      simp
  refine ⟨fun ht => completes_twinCode hs hw (k := pairTwin) rfl (by decide) ?_, fun ht hfits =>
    completes_twinCode hs hw (k := pairTwin) rfl (by decide) ?_, fun ht hfits =>
    completes_twinSet hs hw (k := pairTwin) rfl (f := fun t => { t with nextPair := some true }) ?_⟩
  all_goals
    have hcap : isSet Reg.SYS.CAPS_TWIN (begun s) = isSet Reg.SYS.CAPS_TWIN s := rfl
    unfold pairTwin
    rw [if_neg hopen, hcap, ht]
  · rfl
  all_goals
    have hfit : pairingFits (begun s) = pairingFits s := rfl
    rw [hfit, hfits]
    rfl

theorem completes_detached (hw : Reaches w 0xC1108 4 s) (ha : twinAttached s = true ∨ twinState s = 2) :
    Completes (.detach w) s fun t =>
      [Out.twin "DETACH" []] <+: t.out ∧ get Reg.TWN.STS_RESULT t = 0 ∧ t.twn.detachedHere = true ∧
      ((∀ r ∈ s.dram.repairs, r.stage ≠ .twin) →
        twinState t = 6 ∧ (paired s = true → get Reg.SYS.PERSIST_TWIN_DEGRADED t = 1) ∧
        get Reg.SYS.PERSIST_SCOPE t = 0 ∧ t.twn.outstanding = [] ∧
        (∀ m ∈ s.twn.outstanding, granuleOf m.line s < homeGranules s → entryInUse (granuleOf m.line s) s = true →
          (entryOf (granuleOf m.line s) t).twinDirty = true) ∧
        (∀ x ∈ t.hp.writes, x.seq = none) ∧ (∀ a, readByte a t = readByte a s)) :=
  ((completes_detach hs hw ha).and (completes_detachCalm hs hw ha)).mono fun _ ⟨⟨h1, h2, h3⟩, h4⟩ => ⟨h1, h2, h3, h4⟩

theorem completes_promoted (hw : Reaches w 0xC1108 32 s) (hst : twinState s = 5 ∨ twinState s = 6)
    (hf : s.twn.failedIn = some (twinState s)) : Completes (.promote w) s fun t =>
      get Reg.TWN.STS_PROMOTED t = 1 ∧ t.twn.failedIn = none ∧ get Reg.TWN.STS_RESULT t = 0 ∧
      get (Reg.EVT_STS 0xC1 3) t = 1 ∧
      ((∀ c, c < 64 → remotePrepared c s = true ∨ remoteOpen c s = false) →
        get Reg.TWN.MIRROR_GEN_VALUE t = (get Reg.TWN.MIRROR_GEN_VALUE s + 1) % 2 ^ 32 ∧
        (∀ c, c < 64 → remotePrepared c s = true → look s.twn.tags c ≠ none →
          c ∈ t.twn.doubt ∧ get Reg.SYS.PERSIST_IN_DOUBT t = 1)) ∧
      ((∀ c, c < 64 → remotePrepared c s = false ∧ remoteOpen c s = false) →
        Changes [.twn, .upd] promoteFields s t) :=
  (((completes_promote hs hw hst hf).and (completes_promoteRipe hs hw hst hf)).and
    (completes_promoteIdle hs hw hst hf)).mono fun _ ⟨⟨⟨h1, h2, h3, h4⟩, h5⟩, h6⟩ => ⟨h1, h2, h3, h4, h5, h6⟩

end

/-- Settles O41, command by command. -/
theorem twinControl : Obligations.TwinControl := by
  intro s hs w
  dsimp only
  refine ⟨fun hw => ⟨fun ⟨h0, hp⟩ => ?_, completes_pair hs hw⟩, fun hw => ?_,
    fun hw => ⟨fun ha h2 => ?_, completes_detached hs hw⟩, fun hw => ⟨fun h6 => ?_, fun h6 => ?_⟩,
    fun hw => ⟨fun h5 h6 => ?_, fun h => ?_⟩, fun hw => ⟨fun hf => ?_, completes_promoted hs hw⟩, fun hw => ?_⟩
  · refine completes_twinCode hs hw (k := pairTwin) rfl (by decide) (if_pos ?_)
    rw [show isSet Reg.TWN.STS_PROMOTED (begun s) = false from hp, Bool.or_false]
    simpa using (show twinState (begun s) ≠ 0 from h0)
  · split
    next hp => exact completes_twinBusy hs hw (k := unpairTwin w) rfl (if_pos hp)
    next hp =>
      exact completes_twinSet hs hw (k := unpairTwin w) rfl (f := fun t => { t with nextPair := some false })
          (if_neg hp)
  · refine completes_twinCode hs hw (k := detachTwin) rfl (by decide) (if_neg ?_)
    rw [show twinAttached (begun s) = false from ha, Bool.false_or]
    simpa using (show twinState (begun s) ≠ 2 from h2)
  · exact completes_twinCode hs hw (k := reattachTwin) rfl (by decide) (if_neg h6)
  · refine (completes_twinSet hs hw (k := reattachTwin) rfl
      (f := fun t => { t with reattach := true, hello := none, planned := false }) (if_pos h6)).mono
          fun t ⟨ht, hr, hc⟩ => ?_
    rw [ht]
    exact ⟨rfl, rfl, hr, hc⟩
  · refine completes_twinCode hs hw (k := twinHasFailed) rfl (by decide) (if_neg ?_)
    rw [show twinState (begun s) = twinState s from rfl]
    simp [h5, h6]
  · refine completes_twinSet hs hw (k := twinHasFailed) rfl (f := fun t => { t with failedIn := some (twinState s) })
      (if_pos ?_)
    rw [show twinState (begun s) = twinState s from rfl]
    simpa using h
  · refine completes_twinCode hs hw (k := promoteTwin) rfl (by decide) (if_neg ?_)
    rw [show twinState (begun s) = twinState s from rfl, show (begun s).twn.failedIn = s.twn.failedIn from rfl]
    simp [hf]
  · split
    next hd => exact completes_demote hs hw hd
    next hd => exact completes_twinBusy hs hw (k := demoteTwin w) rfl (if_neg hd)

end Sys2Proof.Machine
end

section
/-! SUPPORT. The walk over the requests that wait and are tried again: what was sent stands (R41, R105, R115, R180 to
R184, R191). -/

namespace Sys2Proof.Machine
set_option Elab.async false

/-- The status of a context stands apart from what rides along. -/
theorem status_apart {c lo w r : Nat} (hlo : lo < 32 := by decide) :
    (⟨0x45180 + 4096 * (c / 16) + 4 * (c % 16), lo, w, r⟩ : Fld).key ∉ rideFields.map Fld.key := by
  simp only [rideFields, List.map_cons, List.map_nil, List.mem_cons, List.not_mem_nil, or_false, Fld.key,
    Reg.TWN.STS_RESULT, Reg.TWN.STS_PROMOTED, Reg.EVT_STS]
  omega

namespace Rides

variable {s t u : State}

/-! ### Waiting and dropping -/

theorem stall (h : Rides s t) (q : Stalled) (why : WaitFor) : Rides s (Machine.stall q why t) := h

theorem stallPool (h : Rides s t) (q : Stalled) (o : Nat) : Rides s (Machine.stallPool q o t) := h

theorem withCredit (h : Rides s t) (a : Nat) (reserved : Bool) (f : State → State) (hf : ∀ u, Rides s u → Rides s
    (f u)) :
    Rides s (Machine.withCredit a reserved f t) := branch _ (hf _ h) h

theorem demandFetch (h : Rides s t) (g : Nat) : Rides s (Machine.demandFetch g t) :=
  ((h.setInflight _).set _ _).urgentRead g

theorem demand (h : Rides s t) (g : Nat) : Rides s (Machine.demand g t) :=
  branch _ h (h.withCredit _ _ _ fun _ hu => hu.demandFetch g)

/-- A granule that is not restored yet is asked for. -/
theorem demanded (h : Rides s t) (g : Nat) (b : Bool) : Rides s (if b then Machine.demand g t else t) :=
  branch _ (h.demand g) h

theorem dropWrite (h : Rides s t) (q : Stalled) : Rides s (Machine.dropWrite q t) :=
  (h.set _ _ lo_apart).event (8 + q.port) 3

theorem markLate (h : Rides s t) (q : Stalled) : Rides s (Machine.markLate q t) := by
  unfold Machine.markLate
  split
  · exact h.set _ _ lo_apart
  · exact h

theorem limitAbort (h : Rides s t) (c : Nat) (q : Stalled) : Rides s (Machine.limitAbort c q t) :=
  (((h.set _ _ status_apart).event 0x44 1).startAbort c).dropWrite q

theorem holdWaitShow (h : Rides s t) : Rides s (Machine.holdWaitShow t) :=
  h.each _ _ fun _ _ hu => branch _ hu (hu.set _ _ lo_apart)

/-! ### A line is read -/

theorem rankCorrected (h : Rides s t) (line : Nat) : Rides s (Machine.rankCorrected line t) := by
  have hcount : Rides s (inc (Reg.SPR.RANK_CE_WIN (rankOfLine line t)) t) := h.set _ _ lo_apart
  exact branch _ ((hcount.cond _ _ fun _ hu => hu.raiseSimple _ _ _ _ _).retireRank _) hcount

theorem served (h : Rides s t) (line : Nat) : Rides s (Machine.serveReads line (Machine.endReads line t)) :=
  (h.endReads line).serveReads line

theorem startRepair (h : Rides s t) (line : Nat) (finder : Finder) : Rides s (Machine.startRepair line finder t) := by
  have hadd : ∀ r, Rides s (addRepair r t) := fun _ => h
  exact branch _ h (branch _ ((hadd _).emit _) (h.repairOnward line finder))

theorem lineRead (h : Rides s t) (line : Nat) (finder : Finder) (err : LineErrors) :
    Rides s (Machine.lineRead line finder err t) := by
  unfold Machine.lineRead
  split
  · exact h.served line
  · exact (h.rankCorrected line).served line
  · exact ((cond (t := spendLine t) h _ _ fun _ hu => hu.writeLine _ _ _).rankCorrected line).served line
  · exact h.startRepair line finder

theorem readOld (h : Rides s t) (line : Nat) (e : LineErrors) : Rides s (Machine.readOld line e t) :=
  branch _ h (h.lineRead line .undo e)

theorem queueRead (h : Rides s t) (line : Nat) (who : Reader) : Rides s (Machine.queueRead line who t) := by
  have hset : ∀ l, Rides s (setReads l t) := fun _ => h
  exact (hset _).depthShow _

theorem fetchLine (h : Rides s t) (q : Stalled) : Rides s (Machine.fetchLine q t) := by
  have hcount := h.cond (youngest q.line t).isSome (inc (Reg.DCH.FWD_CNT_COUNT (lineLoc q.line t).ch))
    fun _ hu => hu.set _ _ lo_apart
  have hwait : ∀ v, Rides s v → Rides s (awaitRead q.port q.tag q.line none v) := fun _ hv => hv
  exact branch _ h (branch _ ((hwait _ hcount).serveReads _)
    (branch _ ((hwait _ hcount).startRepair _ _) ((hwait _ hcount).queueRead _ _)))

theorem tryRead (h : Rides s t) (q : Stalled) : Rides s (Machine.tryRead q t) := by
  have hd := h.demanded (granuleOf q.line t) (unrestored (granuleOf q.line t) t)
  exact branch _ h (branch _ h (branch _ hd (hd.fetchLine q)))

/-! ### A line is written -/

theorem sendMirror (h : Rides s t) (line : Nat) (be : BitVec 64) (data : Line) (ctx : Option Nat) :
    Rides s (Machine.sendMirror line be data ctx t) :=
  emit (t := { t with twn := { t.twn with seqOut := _, outstanding := _ } }) h _

theorem noteWrite (h : Rides s t) (line : Nat) (be : BitVec 64) (data : Line) (port ctx : Option Nat) :
    Rides s (Machine.noteWrite line be data port ctx t) :=
  ((h.markWrite _ _).homeGenWrite _).cond _ _ fun _ hu => hu.sendMirror _ _ _ _

theorem poisonedWrite (h : Rides s t) (q : Stalled) (be : BitVec 64) : Rides s (Machine.poisonedWrite q be t) := by
  unfold Machine.poisonedWrite
  refine cond (queueWrite (cond ((h.markWrite _ _).homeGenWrite _) _ _ ?_) _ _ _ _) _ _ ?_
  · exact fun _ hu => hu.setTwinDirty _
  · exact fun _ hu => (hu.markLost _ _).raiseSimple _ _ _ _ _

theorem applyWrite (h : Rides s t) (q : Stalled) (be : BitVec 64) : Rides s (Machine.applyWrite q be t) := by
  refine same (t := when _ _ (when _ _ _)) (cond (cond ?_ _ _ fun _ hu => hu.noteRepair _ _) _ _
    fun _ hu => hu.slotWrite _ _)
  split
  · exact h.poisonedWrite q be
  · exact (h.noteWrite _ _ _ _ _).queueWrite _ _ _ _

theorem undoUncorrectable (h : Rides s t) (c line : Nat) (replay : Bool) :
    Rides s (Machine.undoUncorrectable c line replay t) :=
  (((h.event 0x44 3).pushRecord _ _).raiseSimple _ _ _ _ _).cond _ _
    fun _ hu => (hu.cond _ _ fun _ hv => hv.set _ _ lo_apart).poisonLine _ _

theorem putLine (h : Rides s t) (line : Nat) (d : Line) (poison : Bool) : Rides s (Machine.putLine line d poison t) :=
    by
  have hset : ∀ l, Rides s (setWrites l t) := fun _ => h
  exact (hset _).landWrite _

theorem replayEntry (h : Rides s t) (c g line : Nat) (lost : Bool) : Rides s (Machine.replayEntry c g line lost t) := by
  unfold Machine.replayEntry
  split
  · exact h
  · have hdrop : ∀ v, Rides s v → Rides s (dropUndo c g line v) := fun _ hv => hv
    exact ((hdrop _ ((h.putLine _ _ _).noteWrite _ _ _ _ _)).cond _ _
      fun _ hu => hu.undoUncorrectable _ _ _).cond _ _ fun _ hu => hu.markLost _ _

theorem replayRead (h : Rides s t) (c g line : Nat) (err : LineErrors) : Rides s (Machine.replayRead c g line err t)
    := by
  unfold Machine.replayRead
  refine branch _ h (branch _ (h.replayEntry _ _ _ _) ?_)
  split
  · exact h.replayEntry _ _ _ _
  · exact (h.rankCorrected _).replayEntry _ _ _ _
  · exact ((writeLine (t := spendLine t) h _ _ _).rankCorrected _).replayEntry _ _ _ _
  · exact branch _ (h.startRepair _ _) ((h.rankUncorrectable _).replayEntry _ _ _ _)

theorem replayAhead (h : Rides s t) (line : Nat) (err : LineErrors) : Rides s (Machine.replayAhead line err t) :=
  h.each _ _ fun p _ hu => hu.replayRead p.ctx p.granule line err

theorem logThenApply (h : Rides s t) (newLine : Bool) (c : Nat) (q : Stalled) (be : BitVec 64) :
    Rides s (Machine.logThenApply newLine c q be t) := by
  have hold := (h.replayAhead q.line q.old).cond newLine _ fun _ hu => hu.readOld q.line q.old
  exact branch _ (h.replayAhead q.line q.old)
    (branch _ hold ((hold.cond _ _ fun _ hu => hu.logLine c q.line).applyWrite q be))

theorem placeWrite (h : Rides s t) (q : Stalled) (be : BitVec 64) : Rides s (Machine.placeWrite q be t) := by
  have hd := h.demanded (granuleOf q.line t) (unrestored (granuleOf q.line t) t)
  exact branch _ hd (branch _ (hd.limitAbort _ q) (branch _ hd (branch _ hd (hd.logThenApply _ _ q be))))

theorem tryWrite (h : Rides s t) (q : Stalled) (be : BitVec 64) : Rides s (Machine.tryWrite q be t) :=
  branch _ ((h.markLate q).dropWrite q) (branch _ (h.dropWrite q) (h.placeWrite q be))

/-! ### Every request that waits is tried again -/

theorem tryAgain (h : Rides s t) (q : Stalled) : Rides s (Machine.tryAgain q t) := by
  unfold Machine.tryAgain
  split
  · exact h.tryWrite q _
  · exact h.tryRead q

theorem retryStalled (h : Rides s t) : Rides s (Machine.retryStalled t) :=
  branch _ h (each (t := { t with hp := { t.hp with stalled := [] } }) h _ _ fun q _ hu => hu.tryAgain q).holdWaitShow

end Rides

end Sys2Proof.Machine
end

section
/-! SUPPORT. OPEN, ABORT, the tag and COMMIT of a context (R58, R177 to R180, R186, R187, R189, R195). -/

namespace Sys2Proof.Machine
set_option Elab.async false

/-! ### The keys of a context's commands -/

/-- The context that a port's page shows at a place. -/
def ctxOf (port : Fin 4) (c : Fin 16) : Fin 64 := ⟨16 * port.val + c.val, by omega⟩

theorem ctxOf_parts (port : Fin 4) (c : Fin 16) : (ctxOf port c).val / 16 = port.val ∧ (ctxOf port c).val % 16 = c.val
    := by
  show (16 * port.val + c.val) / 16 = port.val ∧ (16 * port.val + c.val) % 16 = c.val
  omega

theorem shown_keys (g : Fin 64) :
    (∀ f ∈ ctxRes g :: ctxFlags g, f.key ∉ ([ctxSts g, ctxFrm g] ++ useShown).map Fld.key) ∧
    (∀ f ∈ ctxFlags g, f.key ≠ (ctxRes g).key) ∧
    (∀ f ∈ ctxOwn g, f.key ≠ Reg.TXN.COMMIT_CTX.key) ∧ (ctxRes g).key ∉ txnShown.map Fld.key := by
  revert g
  decide +kernel

/-- What only a code in RESULT changes. -/
theorem changes_ctxResult (g r : Nat) (s : State) : Changes [] [ctxRes g] s (ctxResult g r s) :=
  (Changes.refl _ _ s).set _ _ (by simp)

theorem get_ctxResult {g r : Nat} (hr : r < 8) (s : State) : get (ctxRes g) (ctxResult g r s) = r :=
  (get_set_same _ _ _).trans (Nat.mod_eq_of_lt hr)

/-- Fields that are set to 0 one by one read 0. -/
theorem get_zeroed {l : List Fld} (hl : (l.map Fld.key).Nodup) (s : State) :
    ∀ f ∈ l, get f (forEach l (fun f => set f 0) s) = 0 := by
  induction l generalizing s with
  | nil => exact fun f hf => absurd hf List.not_mem_nil
  | cons a l ih =>
    obtain ⟨ha, hrest⟩ := List.nodup_cons.1 hl
    intro f hf
    rw [forEach_cons]
    rcases List.mem_cons.1 hf with rfl | hf
    · refine forEach_keeps (fun u => get f u = 0) l _ _ ((get_set_same _ _ _).trans (Nat.zero_mod _))
        fun b hb u hu => ?_
      have hne : f.key ≠ b.key := fun he => ha (by rw [he]; exact List.mem_map_of_mem hb)
      exact (get_set_other 0 u hne).trans hu
    · exact ih hrest _ f hf

/-! ### OPEN (R179) -/

theorem changes_clearFlags (g : Nat) (s : State) : Changes [] (ctxFlags g) s (clearFlags g s) :=
  (Changes.refl _ _ s).each _ _ fun _ hf _ hu => hu.set _ _ (List.mem_map_of_mem hf)

theorem openRefusal_lt (g : Nat) (s : State) : openRefusal g s < 8 := by
  unfold openRefusal
  dsimp only
  repeat' split
  all_goals decide

theorem openCtx_refused {g : Nat} {s : State} (h : openRefusal g s ≠ 0) :
    openCtx g s = ctxResult g (openRefusal g s) s := by
  unfold openCtx
  split
  · exact absurd ‹_› h
  · rfl

/-- The flags and the code of a context that opens. -/
def opening (g : Nat) (s : State) : State := ctxResult g 0 (clearFlags g s)

theorem openCtx_taken {g : Nat} {s : State} (h : openRefusal g s = 0) : openCtx g s = setCtxState g 1
    (opening g s) := by
  unfold openCtx
  rw [h]
  rfl

theorem opening_shown (g : Fin 64) (s : State) : (∀ f ∈ ctxRes g :: ctxFlags g, get f (opening g s) = 0) ∧
    Changes [] ([ctxRes g] ++ ctxFlags g) s (opening g s) := by
  obtain ⟨-, hres, -⟩ := shown_keys g
  have hnodup : ((ctxFlags g).map Fld.key).Nodup := by
    have h := (ctx_keys g).2
    rw [ctxOwn, List.map_append] at h
    exact h.of_append_right
  have hzero := get_zeroed hnodup s
  refine ⟨fun f hf => ?_, ((changes_clearFlags g s).widen (fun _ h => h) (by simp)).trans
    ((changes_ctxResult g 0 _).widen (fun _ h => h) (by simp))⟩
  rcases List.mem_cons.1 hf with rfl | hf
  · exact get_ctxResult (by decide) _
  · exact (get_set_other _ _ (hres f hf)).trans (hzero f hf)

section
variable {s : State} (hs : Ready s) {w : Writer} {addr data : Nat} {c : Instr} {k : State → State} (g : Fin 64)
  (hw : Reaches w addr data s) (hc : exec c s = run (reach w addr data k) s)
include hs hw hc

/-- A command that is refused with a code. -/
theorem completes_ctxCode {r : Nat} (hr : r < 8) (hk : k (begun s) = ctxResult g r (begun s)) :
    Completes c s fun t => get (ctxRes g) t = r ∧ Changes [] [ctxRes g] s t := by
  have hch := (Changes.begin [] [ctxRes g] s).trans (changes_ctxResult g r _)
  exact .leavesReached hs hw hc hk (hch.reqs.trans hs.2) fun t kk =>
    ⟨kk.stored ((ctx_keys g).1 (ctxRes g) (by simp [ctxOwn])).1 (get_ctxResult hr _), hch.ended kk⟩

theorem completes_ctxOpened (hk : k (begun s) = setCtxState g 1 (opening g (begun s))) :
    Completes c s fun t => ctxState g t = 1 ∧ get (ctxRes g) t = 0 ∧ (∀ f ∈ ctxFlags g, get f t = 0) ∧
      get (ctxFrm g) t = ((look s.txn.ends g).getD 0) % 2 ^ 32 ∧
      Changes [] ([ctxSts g, ctxRes g, ctxFrm g] ++ ctxFlags g ++ txnShown) s t := by
  obtain ⟨hkeys, -⟩ := ctx_keys g
  obtain ⟨hbeside, -⟩ := shown_keys g
  obtain ⟨hzero, hopen⟩ := opening_shown g (begun s)
  have hends : (opening g (begun s)).txn = s.txn := hopen.txn (by simp)
  generalize opening g (begun s) = u at *
  obtain ⟨hstate, hframe⟩ := get_setCtxState g 1 u
  have hset := changes_setCtxState g 1 u
  have hch : Changes [] ([ctxSts g, ctxRes g, ctxFrm g] ++ ctxFlags g ++ txnShown) s (setCtxState g 1 u) :=
    ((Changes.begin [] _ s).trans (hopen.widen (fun _ h => h) fun f hf => by
      simp only [List.mem_append, List.mem_cons] at hf ⊢
      tauto)).trans (hset.widen (fun _ h => h) fun f hf => by
      simp only [List.mem_append, List.mem_cons] at hf ⊢
      tauto)
  have hshown : ∀ f ∈ ctxRes g :: ctxFlags g, f.key ∉ settleKeys ∧ get f (setCtxState g 1 u) = 0 := fun f hf => by
    have hkey := (hkeys f (by simp only [ctxOwn, List.mem_append, List.mem_cons] at hf ⊢; tauto)).1
    refine ⟨hkey, (hset.regs f (fun h => hbeside f hf ?_) hkey).trans (hzero f hf)⟩
    simp only [useShown, List.map_append, List.mem_append] at h ⊢
    tauto
  exact .leavesReached hs hw hc hk (hch.reqs.trans hs.2) fun t kk =>
    ⟨kk.stored (hkeys (ctxSts g) (by simp [ctxOwn])).1 hstate,
      kk.stored (hshown _ (by simp)).1 (hshown _ (by simp)).2,
      fun f hf => kk.stored (hshown f (List.mem_cons_of_mem _ hf)).1 (hshown f (List.mem_cons_of_mem _ hf)).2,
      kk.stored (hkeys (ctxFrm g) (by simp [ctxOwn])).1 (by rw [hframe, hends]), hch.ended kk⟩

/-! ### ABORT (R189) -/

theorem completes_ctxAborted
    (hk : k (begun s) = dropWaiting g (Machine.startAbort g (ctxResult g 0 (begun s)))) :
    Completes c s fun t => ctxState g t = 5 ∧ get (ctxRes g) t = 0 ∧ t.txn.replays = s.txn.replays ++ [g.val] ∧
      (∀ r ∈ t.txn.requests, r.ctx ≠ g) ∧ (∀ q ∈ t.hp.stalled, q.ctx ≠ some g.val) ∧
      (∀ x, readByte x t = readByte x s) ∧
      (s.hp.stalled = [] →
        Changes [.txn] ([ctxSts g, ctxRes g, ctxFrm g] ++ replayFields ++ txnShown ++ holdWaits) s t) := by
  obtain ⟨hkeys, hbeside, -⟩ := abort_keys g
  have hcode := (Changes.begin [] [ctxRes g] s).trans (changes_ctxResult g 0 (begun s))
  have hres : get (ctxRes g) (ctxResult g 0 (begun s)) = 0 := get_ctxResult (by decide) _
  have hstalled : (ctxResult g 0 (begun s)).hp.stalled = s.hp.stalled := rfl
  have hreplays : (ctxResult g 0 (begun s)).txn.replays = s.txn.replays := rfl
  generalize ctxResult g 0 (begun s) = u at *
  have ha := changes_startAbort g u
  obtain ⟨hstate, hr, hq⟩ := startAbort_shown g u
  have hsame : (Machine.startAbort g u).hp.stalled = u.hp.stalled := rfl
  generalize Machine.startAbort g u = v at *
  obtain ⟨hwait, hd, ht, hreqs, hget⟩ := dropWaiting_shown g v
  have hnone := dropWaiting_none (g := g) (s := v)
  have hkept : ∀ f ∈ [ctxSts g, ctxRes g], f.key ∉ settleKeys ∧ get f (dropWaiting g v) = get f v := fun f hf => by
    obtain ⟨k1, k2, k3, k4⟩ := hkeys f (List.mem_append_left [_, _] hf)
    exact ⟨k4, hget f k1 k2 k3 k4⟩
  obtain ⟨k1, e1⟩ := hkept (ctxSts g) (by simp)
  obtain ⟨k2, e2⟩ := hkept (ctxRes g) (by simp)
  generalize dropWaiting g v = x at *
  refine .leavesReached hs hw hc hk (hreqs.trans (ha.reqs.trans (hcode.reqs.trans hs.2))) fun t kk =>
    ⟨kk.stored k1 (e1.trans hstate), kk.stored k2 (e2.trans ?_), ?_, ?_, ?_,
      kk.bytes (congrArg Dram.mem (hd.trans ((ha.dram (by simp)).trans (hcode.dram (by simp))))), fun hempty => ?_⟩
  · rw [ha.regs _ (hbeside _ (by simp)) k2, hres]
  · rw [kk.txn, ht, hr, hreplays]
  · rw [kk.txn, ht]
    exact hq
  · rw [kk.ports (·.stalled) fun _ => rfl]
    exact hwait
  · have hlast := hnone (hsame.trans (hstalled.trans hempty))
    refine Changes.ended (((hcode.widen (List.nil_subset _) fun f hf => ?_).trans (ha.widen
        (fun _ h => h) fun f hf => ?_)).trans
      (hlast.widen (List.nil_subset _) fun f hf => List.mem_append_right _ hf)) kk
    · exact List.mem_append_left _ (List.mem_append_left _ (List.mem_append_left _ (by simp [List.mem_singleton.1 hf])))
    · simp only [useShown, List.mem_append, List.mem_cons] at hf ⊢
      tauto

end

theorem abortCtx_taken {g : Nat} {s : State} (h : ctxState g s = 1 ∨ (ctxState g s = 2 ∧ pendingRequest g s = true)) :
    abortCtx g s = dropWaiting g (Machine.startAbort g (ctxResult g 0 s)) := by
  refine if_pos ?_
  rcases h with h | ⟨h, hp⟩
  · simp [h]
  · simp [h, hp]

theorem abortCtx_refused {g : Nat} {s : State} (h1 : ctxState g s ≠ 1)
    (h2 : ctxState g s = 2 → pendingRequest g s = false) : abortCtx g s = ctxResult g 1 s := by
  refine if_neg ?_
  by_cases h : ctxState g s = 2
  · simp [h, h2 h]
  · simp [h1, h]

end Sys2Proof.Machine
end

section
/-! SUPPORT. The tag and COMMIT of a context, and the statement on a context's commands (R58, R178, R186, R187, R195).
-/

namespace Sys2Proof.Machine
set_option Elab.async false

/-! ### The tag (R178) -/

/-- The two fields of a tag and those of a refused write. -/
theorem tag_keys (g : Fin 64) :
    (Reg.TXC.CTX_TAG_PARTS (g.val / 16) (g.val % 16)).key ≠ (Reg.TXC.CTX_TAG_TAG (g.val / 16) (g.val % 16)).key ∧
    (∀ f ∈ [Reg.TXC.CTX_TAG_TAG (g.val / 16) (g.val % 16), Reg.TXC.CTX_TAG_PARTS (g.val / 16) (g.val % 16)],
      f.key ∉ settleKeys ∧
      f.key ∉ ([Reg.BLKWERR_RANGE (0x45 + g.val / 16), Reg.BLKWERR_OFFSET (0x45 + g.val / 16),
        Reg.BLKWERR_SOURCE (0x45 + g.val / 16)] : List Fld).map Fld.key ∧
      f.key ∉ ([Reg.BLKWERR_BUSY (0x45 + g.val / 16), Reg.BLKWERR_OFFSET (0x45 + g.val / 16),
        Reg.BLKWERR_SOURCE (0x45 + g.val / 16)] : List Fld).map Fld.key) ∧
    (Reg.BLKWERR_RANGE (0x45 + g.val / 16)).key ∉ settleKeys ∧
    (Reg.BLKWERR_BUSY (0x45 + g.val / 16)).key ∉ settleKeys := by
  revert g
  decide +kernel

/-- The address of a context's tag lies in its port's page. -/
theorem tagAddr_page (g : Fin 64) : ctxAddr (g.val / 16) (g.val % 16) 0x140 / 4096 = 0x45 + g.val / 16 := by
  unfold ctxAddr
  omega

section
variable {s : State} (hs : Ready s) {w : Writer} {addr data : Nat} {c : Instr} {k : State → State} (g : Fin 64)
  (hw : Reaches w addr data s) (hc : exec c s = run (reach w addr data k) s)
include hs hw hc

theorem completes_tagWritten {tag : BitVec 22} {parts : BitVec 10}
    (hk : k (begun s) = set (Reg.TXC.CTX_TAG_PARTS (g.val / 16) (g.val % 16)) parts.toNat
      (set (Reg.TXC.CTX_TAG_TAG (g.val / 16) (g.val % 16)) tag.toNat (begun s))) :
    Completes c s fun t => ctxTag g t = tag.toNat ∧ ctxParts g t = parts.toNat ∧
      Changes [] [Reg.TXC.CTX_TAG_TAG (g.val / 16) (g.val % 16), Reg.TXC.CTX_TAG_PARTS (g.val / 16) (g.val % 16)] s
        t := by
  obtain ⟨hne, hkeys, -⟩ := tag_keys g
  have hch := ((Changes.begin [] [Reg.TXC.CTX_TAG_TAG (g.val / 16) (g.val % 16),
    Reg.TXC.CTX_TAG_PARTS (g.val / 16) (g.val % 16)] s).set (Reg.TXC.CTX_TAG_TAG (g.val / 16) (g.val % 16)) tag.toNat
    (by simp)).set (Reg.TXC.CTX_TAG_PARTS (g.val / 16) (g.val % 16)) parts.toNat (by simp)
  exact .leavesReached hs hw hc hk (hch.reqs.trans hs.2) fun t kk =>
    ⟨kk.stored (hkeys _ (by simp)).1 ((get_set_other _ _ hne.symm).trans
        ((get_set_same _ _ _).trans (Nat.mod_eq_of_lt tag.isLt))),
      kk.stored (hkeys _ (by simp)).1 ((get_set_same _ _ _).trans (Nat.mod_eq_of_lt parts.isLt)), hch.ended kk⟩

theorem completes_tagRange {tag : BitVec 22}
    (hk : k (begun s) = werrRange w (ctxAddr (g.val / 16) (g.val % 16) 0x140)
      (set (Reg.TXC.CTX_TAG_TAG (g.val / 16) (g.val % 16)) tag.toNat (begun s))) :
    Completes c s fun t => ctxTag g t = tag.toNat ∧ ctxParts g t = ctxParts g s ∧
      get (Reg.BLKWERR_RANGE (0x45 + g.val / 16)) t = 1 := by
  obtain ⟨hne, hkeys, hrange, -⟩ := tag_keys g
  obtain ⟨k1, b1, -⟩ := hkeys _ (List.mem_cons_self ..)
  obtain ⟨k2, b2, -⟩ := hkeys _ (List.mem_cons_of_mem _ (List.mem_cons_self ..))
  have htag : get (Reg.TXC.CTX_TAG_TAG (g.val / 16) (g.val % 16))
      (set (Reg.TXC.CTX_TAG_TAG (g.val / 16) (g.val % 16)) tag.toNat (begun s)) = tag.toNat :=
    (get_set_same _ _ _).trans (Nat.mod_eq_of_lt tag.isLt)
  have hparts : get (Reg.TXC.CTX_TAG_PARTS (g.val / 16) (g.val % 16))
      (set (Reg.TXC.CTX_TAG_TAG (g.val / 16) (g.val % 16)) tag.toNat (begun s)) = ctxParts g s := get_set_other _ _ hne
  have hreqs : (set (Reg.TXC.CTX_TAG_TAG (g.val / 16) (g.val % 16)) tag.toNat (begun s)).reqs = [] := hs.2
  generalize set (Reg.TXC.CTX_TAG_TAG (g.val / 16) (g.val % 16)) tag.toNat (begun s) = u at *
  have hw1 := get_werrRange w (ctxAddr (g.val / 16) (g.val % 16) 0x140) u
  have hch := changes_werrRange w (ctxAddr (g.val / 16) (g.val % 16) 0x140) u
  rw [tagAddr_page] at hw1 hch
  exact .leavesReached hs hw hc hk (hch.reqs.trans hreqs) fun t kk =>
    ⟨kk.stored k1 ((hch.regs _ b1 k1).trans htag), kk.stored k2 ((hch.regs _ b2 k2).trans hparts),
      kk.stored hrange hw1⟩

theorem completes_tagBusy (hk : k (begun s) = werrBusy w (ctxAddr (g.val / 16) (g.val % 16) 0x140) (begun s)) :
    Completes c s fun t => get (Reg.BLKWERR_BUSY (0x45 + g.val / 16)) t = 1 ∧ ctxTag g t = ctxTag g s ∧
      Changes [] [Reg.BLKWERR_BUSY (0x45 + g.val / 16), Reg.BLKWERR_OFFSET (0x45 + g.val / 16),
        Reg.BLKWERR_SOURCE (0x45 + g.val / 16)] s t := by
  obtain ⟨-, hkeys, -, hbusy⟩ := tag_keys g
  obtain ⟨k1, -, b1⟩ := hkeys _ (List.mem_cons_self ..)
  have hw1 := get_werrBusy w (ctxAddr (g.val / 16) (g.val % 16) 0x140) (begun s)
  have hch := (Changes.begin [] _ s).trans (changes_werrBusy w (ctxAddr (g.val / 16) (g.val % 16) 0x140) (begun s))
  rw [tagAddr_page] at hw1 hch
  exact .leavesReached hs hw hc hk (hch.reqs.trans hs.2) fun t kk =>
    ⟨kk.stored hbusy hw1, kk.stored k1 (hch.regs _ b1 k1), hch.ended kk⟩

end

/-! ### COMMIT (R58, R186, R187, R195) -/

/-- The context of a request shows. -/
def commitShown (g : Nat) (s : State) : State := set Reg.TXN.COMMIT_CTX g s

/-- The request waits, with RESULT 0. -/
def requestAdded (g due : Nat) (domain : Bool) (s : State) : State :=
  { s with txn := { s.txn with requests := s.txn.requests ++
      [{ ctx := g, due := due, needAck := twinAttached s, domain := domain, accepted := now s }] } } |> ctxResult g 0

/-- The context is in COMMITTING with the frame that it will show. -/
def requested (g due frame : Nat) (domain : Bool) (s : State) : State :=
  requestAdded g due domain s |> setCtxState g 2 |> ctxFrame g frame

theorem acceptCommit_eq (g due frame : Nat) (domain : Bool) (s : State) :
    acceptCommit g due frame domain s = retryStalled (sendPrepare g (requested g due frame domain s)) := rfl

theorem requestCommit_eq (g phase : Nat) (s : State) : requestCommit g phase s =
    (if ctxState g (commitShown g s) ≠ 1 then ctxResult g 1 (commitShown g s)
    else if fenced (commitShown g s) then ctxResult g 4 (commitShown g s)
    else if ctxTag g (commitShown g s) = 0 then
      acceptCommit g (now s + 1 + b2n (decide (commitCutoff ≤ phase))) (now s + 1 + b2n (decide (commitCutoff ≤ phase)))
        false (commitShown g s)
    else if isSet Reg.SYS.PERSIST_DOMAIN_OK (commitShown g s) && !s.rng.fences.contains (now s) then
      acceptCommit g (now s + 1 + b2n (decide (commitCutoff ≤ phase))) (now s + 3 + b2n (decide (commitCutoff ≤ phase)))
        true (commitShown g s)
    else ctxResult g 5 (commitShown g s)) := rfl

section
variable (g : Fin 64) (s : State)

/-- What a request reads, COMMIT_CTX leaves. -/
theorem commitShown_reads : ctxState g (commitShown g s) = ctxState g s ∧ fenced (commitShown g s) = fenced s ∧
    ctxTag g (commitShown g s) = ctxTag g s ∧
    isSet Reg.SYS.PERSIST_DOMAIN_OK (commitShown g s) = isSet Reg.SYS.PERSIST_DOMAIN_OK s ∧
    twinAttached (commitShown g s) = twinAttached s := by
  obtain ⟨-, -, hne, -⟩ := shown_keys g
  have hother : ∀ f : Fld, f.key ≠ Reg.TXN.COMMIT_CTX.key → get f (commitShown g s) = get f s :=
    fun f hf => get_set_other _ _ hf
  refine ⟨hother _ (hne (ctxSts g) (by simp [ctxOwn])), ?_, hother _ (hne _ (by simp [ctxOwn])), ?_, ?_⟩
  · rw [fenced, isSet, hother _ (by decide)]
    rfl
  · rw [isSet, hother _ (by decide)]
    rfl
  · rw [twinAttached, paired, twinState, isSet, hother _ (by decide), hother _ (by decide)]
    rfl

theorem requestCommit_refused {phase r : Nat} (hr : r = (if ctxState g s ≠ 1 then 1 else if fenced s then 4 else
      if decide (ctxTag g s ≠ 0) && !(isSet Reg.SYS.PERSIST_DOMAIN_OK s && !s.rng.fences.contains (now s)) then 5
      else 0)) (h0 : r ≠ 0) : requestCommit g phase s = ctxResult g r (commitShown g s) ∧ r < 8 := by
  obtain ⟨e1, e2, e3, e4, -⟩ := commitShown_reads g s
  rw [requestCommit_eq, e1, e2, e3, e4]
  generalize (isSet Reg.SYS.PERSIST_DOMAIN_OK s && !s.rng.fences.contains (now s)) = allowed at *
  by_cases h1 : ctxState g s = 1
  · cases hf : fenced s
    case true => simp [hr, h1, hf]
    case false =>
      by_cases ht : ctxTag g s = 0
      · exact absurd (by simp [hr, h1, hf, ht]) h0
      · cases allowed
        · simp [hr, h1, hf, ht]
        · exact absurd (by simp [hr, h1, hf]) h0
  · simp [hr, h1]

theorem requestCommit_taken {phase : Nat} (h1 : ctxState g s = 1) (hf : fenced s = false)
    (hd : decide (ctxTag g s ≠ 0) = true → (isSet Reg.SYS.PERSIST_DOMAIN_OK s && !s.rng.fences.contains
        (now s)) = true) :
    requestCommit g phase s = acceptCommit g (now s + (if phase < 36000 then 1 else 2))
      (if decide (ctxTag g s ≠ 0) then now s + (if phase < 36000 then 1 else 2) + 2
        else now s + (if phase < 36000 then 1 else 2)) (decide (ctxTag g s ≠ 0)) (commitShown g s) := by
  obtain ⟨e1, e2, e3, e4, -⟩ := commitShown_reads g s
  have hlate : b2n (decide (commitCutoff ≤ phase)) = if phase < 36000 then 0 else 1 := by
    unfold commitCutoff
    by_cases hp : phase < 36000
    · rw [if_pos hp, decide_eq_false (by omega)]
      rfl
    · rw [if_neg hp, decide_eq_true (by omega)]
      rfl
  have hdue : now s + 1 + b2n (decide (commitCutoff ≤ phase)) = now s + (if phase < 36000 then 1 else 2) := by
    rw [hlate]
    split <;> rfl
  have hshow : now s + 3 + b2n (decide (commitCutoff ≤ phase)) = now s + (if phase < 36000 then 1 else 2) + 2 := by
    omega
  rw [requestCommit_eq, e1, e2, e3, e4, hdue, hshow, if_neg (by simp [h1]), hf, if_neg (by simp)]
  by_cases ht : ctxTag g s = 0
  · rw [if_pos ht, decide_eq_false (by simp [ht])]
    rfl
  · rw [if_neg ht, decide_eq_true ht, hd (decide_eq_true ht), if_pos rfl]
    rfl

variable (due frame : Nat) (domain : Bool)

/-- What a request that is taken shows. -/
theorem requested_shown : ctxState g (requested g due frame domain s) = 2 ∧
    get (ctxRes g) (requested g due frame domain s) = 0 ∧
    get (ctxFrm g) (requested g due frame domain s) = frame % 2 ^ 32 ∧
    ctxTag g (requested g due frame domain s) = ctxTag g s ∧
    Changes [.txn] ([ctxSts g, ctxRes g, ctxFrm g] ++ txnShown) s (requested g due frame domain s) := by
  obtain ⟨hkeys, -⟩ := ctx_keys g
  obtain ⟨hbeside, -⟩ := shown_keys g
  have hcode : get (ctxRes g) (requestAdded g due domain s) = 0 := get_ctxResult (by decide) _
  have hch : Changes [.txn] ([ctxSts g, ctxRes g, ctxFrm g] ++ txnShown) s (requestAdded g due domain s) :=
    ((Changes.refl _ _ s).in_txn _ (by simp)).set _ _ (by simp)
  rw [requested]
  generalize requestAdded g due domain s = x at *
  have hset := changes_setCtxState g 2 x
  obtain ⟨hstate, -⟩ := get_setCtxState g 2 x
  generalize setCtxState g 2 x = y at *
  have hlast : Changes [.txn] ([ctxSts g, ctxRes g, ctxFrm g] ++ txnShown) s (ctxFrame g frame y) :=
    (hch.trans (hset.widen (by simp) fun f hf => by
      simp only [List.mem_append, List.mem_cons] at hf ⊢
      tauto)).set _ _ (by simp)
  have hres : (ctxRes g).key ∉ ([ctxSts g, ctxFrm g] ++ txnShown).map Fld.key := fun h => hbeside (ctxRes g)
      (by simp) (by
    simp only [useShown, List.map_append, List.mem_append] at h ⊢
    tauto)
  have htag : (Reg.TXC.CTX_TAG_TAG (g.val / 16) (g.val % 16)).key ∉
      ([ctxSts g, ctxRes g, ctxFrm g] ++ txnShown).map Fld.key := by
    simp only [List.map_append, List.map_cons, List.map_nil, List.mem_append, List.mem_cons, List.not_mem_nil, or_false,
      not_or]
    refine ⟨⟨ctx_apart g 4 0 (by decide) (by decide) (by decide), ctx_apart g 4 1 (by decide) (by decide) (by decide),
      ctx_apart g 4 2 (by decide) (by decide) (by decide)⟩, fun h => (hkeys (Reg.TXC.CTX_TAG_TAG (g / 16) (g % 16)) (by
        simp [ctxOwn])).2 ?_⟩
    rw [useShown, List.map_append]
    exact List.mem_append_left _ h
  exact ⟨(get_set_other _ _ (ctx_apart g 0 2 (by decide) (by decide) (by decide))).trans hstate,
    (get_set_other _ _ (ctx_apart g 1 2 (by decide) (by decide) (by decide))).trans
      ((hset.regs _ hres (hkeys (ctxRes g) (by simp [ctxOwn])).1).trans hcode),
    get_set_same _ _ _, hlast.regs _ htag (hkeys (Reg.TXC.CTX_TAG_TAG (g / 16) (g % 16)) (by simp [ctxOwn])).1, hlast⟩

theorem requested_requests : (requested g due frame domain s).txn.requests = s.txn.requests ++
    [{ ctx := g, due := due, needAck := twinAttached s, domain := domain, accepted := now s }] := rfl

end

theorem twin_keys (g : Fin 64) : ∀ f ∈ [Reg.TWN.STS_PAIRED, Reg.TWN.STS_STATE],
    f.key ∉ ([ctxSts g, ctxRes g, ctxFrm g] ++ txnShown).map Fld.key ∧ f.key ∉ settleKeys := by
  revert g
  decide +kernel

theorem commit_keys (g : Fin 64) : (∀ f ∈ [ctxSts g, ctxRes g, ctxFrm g], f.key ∉ settleKeys) ∧
    Reg.TXN.COMMIT_CTX.key ∉ settleKeys := by
  revert g
  decide +kernel

section
variable {s : State} (hs : Ready s) {w : Writer} (g : Fin 64) {phase due frame : Nat} {domain : Bool}
  (hw : Reaches w 0x44108 g s)

/-- The twin that is attached is asked to prepare. -/
theorem requested_prepares {u : State} (ha : twinAttached u = true) : (sendPrepare g (requested g due frame domain
    u)).out =
    u.out ++ [Out.twin "PREPARE" [g, ctxTag g u]] := by
  obtain ⟨-, -, -, htag, hch⟩ := requested_shown g u due frame domain
  have hout : (requested g due frame domain u).out = u.out := rfl
  have hatt : twinAttached (requested g due frame domain u) = true := by
    have hkept : ∀ f ∈ [Reg.TWN.STS_PAIRED, Reg.TWN.STS_STATE], get f (requested g due frame domain u) = get f u :=
      fun f hf => hch.regs f (twin_keys g f hf).1 (twin_keys g f hf).2
    unfold twinAttached paired twinState isSet at ha ⊢
    rwa [hkept _ (by simp), hkept _ (by simp)]
  generalize requested g due frame domain u = x at *
  rw [sendPrepare, when, if_pos hatt, htag, ← hout]
  rfl

include hs hw

theorem completes_requested (hk : requestCommit g phase (begun s) = acceptCommit g due frame domain
      (commitShown g (begun s))) :
    Completes (.txnCommit w g phase) s fun t =>
      (twinAttached s = true → [Out.twin "PREPARE" [g, ctxTag g s]] <+: t.out) ∧
      (s.hp.stalled = [] →
        ctxState g t = 2 ∧ get (ctxRes g) t = 0 ∧ get (ctxFrm g) t = frame % 2 ^ 32 ∧
        t.txn.requests = s.txn.requests ++
          [{ ctx := g, due := due, needAck := twinAttached s, domain := domain, accepted := now s }] ∧
        (∀ x, readByte x t = readByte x s) ∧
        Changes [.txn] ([Reg.TXN.COMMIT_CTX, ctxSts g, ctxRes g, ctxFrm g] ++ txnShown) s t) := by
  obtain ⟨-, -, htag, -, hatt⟩ := commitShown_reads g (begun s)
  have hasked : Changes [.txn] ([Reg.TXN.COMMIT_CTX, ctxSts g, ctxRes g, ctxFrm g] ++ txnShown) s
      (commitShown g (begun s)) := (Changes.begin _ _ s).set _ _ (by simp)
  have hout : (commitShown g (begun s)).out = [] := rfl
  have htxn : (commitShown g (begun s)).txn = s.txn := rfl
  have hnow : now (commitShown g (begun s)) = now s := rfl
  have hwait : (commitShown g (begun s)).hp.stalled = s.hp.stalled := rfl
  have hreqs : (commitShown g (begun s)).reqs = [] := hs.2
  refine .of_reach hs hw rfl ?_
  rw [hk, acceptCommit_eq]
  generalize commitShown g (begun s) = u at *
  obtain ⟨hstate, hres, hframe, -, hch⟩ := requested_shown g u due frame domain
  have hrequests := requested_requests g u due frame domain
  have hprepare := requested_prepares g (due := due) (frame := frame) (domain := domain) (u := u)
  have hstalled : (requested g due frame domain u).hp.stalled = u.hp.stalled := rfl
  generalize requested g due frame domain u = x at *
  have hatt' : twinAttached u = twinAttached s := hatt
  have htag' : ctxTag g u = ctxTag g s := htag
  refine ⟨fun ha => ?_, fun hempty => ?_⟩
  · have hrides := ((Rides.refl (sendPrepare g x)).retryStalled.settle s).2.2
    rwa [hprepare (hatt'.trans ha), hout, htag', List.nil_append] at hrides
  · have hsent : Changes [] [] x (sendPrepare g x) := (Changes.refl _ _ x).cond _ _ fun _ hu => hu.emit _
    have hrest : (sendPrepare g x).hp.stalled = x.hp.stalled := when_keeps (fun v : State => v.hp.stalled = _) _ _ _
        rfl id
    have hall := hasked.trans ((hch.widen (fun _ h => h) fun f hf => List.mem_cons_of_mem _ hf).trans
      (hsent.widen (List.nil_subset _) (List.nil_subset _)))
    rw [retryStalled_none (hrest.trans (hstalled.trans (hwait.trans hempty)))]
    obtain ⟨hkeys, -⟩ := commit_keys g
    have kk := settle_keeps s (sendPrepare g x) (hall.reqs.trans hs.2)
    have hread : ∀ f ∈ [ctxSts g, ctxRes g, ctxFrm g], get f (settle s (sendPrepare g x)) = get f x := fun f hf =>
      (kk.get f (hkeys f hf)).trans (hsent.regs f List.not_mem_nil (hkeys f hf))
    refine ⟨(hread _ (by simp)).trans hstate, (hread _ (by simp)).trans hres, (hread _ (by simp)).trans hframe, ?_,
      kk.bytes (congrArg Dram.mem (hall.dram (by simp))), hall.ended kk⟩
    rw [kk.txn, hsent.txn (by simp), hrequests, htxn, hatt', hnow]

theorem completes_commitRefused {r : Nat} (hr : r < 8)
    (hk : requestCommit g phase (begun s) = ctxResult g r (commitShown g (begun s))) :
    Completes (.txnCommit w g phase) s fun t =>
      get (ctxRes g) t = r ∧ Changes [] [Reg.TXN.COMMIT_CTX, ctxRes g] s t := by
  have hch := ((Changes.begin [] [Reg.TXN.COMMIT_CTX, ctxRes g] s).set Reg.TXN.COMMIT_CTX g (by simp)).set (ctxRes g) r
    (by simp)
  exact .leavesReached hs hw rfl hk (hch.reqs.trans hs.2) fun t kk =>
    ⟨kk.stored ((commit_keys g).1 (ctxRes g) (by simp)) (get_ctxResult hr _), hch.ended kk⟩

end

/-! ### The statement -/

theorem writeTag_open {w : Writer} {g : Nat} {tag parts : Nat} {s : State}
    (hst : ctxState g s = 0 ∨ ctxState g s = 4 ∨ ctxState g s = 6) : writeTag w g tag parts s =
    (if (decide (2 ≤ parts) && decide (parts ≤ 512)) = true then
      set (Reg.TXC.CTX_TAG_PARTS (g / 16) (g % 16)) parts (set (Reg.TXC.CTX_TAG_TAG (g / 16) (g % 16)) tag s)
    else werrRange w (ctxAddr (g / 16) (g % 16) 0x140) (set (Reg.TXC.CTX_TAG_TAG (g / 16) (g % 16)) tag s)) :=
  if_pos (by rcases hst with h | h | h <;> simp [h])

theorem writeTag_busy {w : Writer} {g : Nat} {tag parts : Nat} {s : State}
    (hst : ¬ (ctxState g s = 0 ∨ ctxState g s = 4 ∨ ctxState g s = 6)) :
    writeTag w g tag parts s = werrBusy w (ctxAddr (g / 16) (g % 16) 0x140) s :=
  if_neg (by simpa [not_or, and_assoc] using hst)

/-- Settles O26, by the effects of the four commands, and by the walk over the requests that wait for what is sent. -/
theorem contextWrites : Obligations.ContextWrites := by
  unfold Obligations.ContextWrites
  dsimp only
  refine ⟨fun s hs w port c => ⟨fun hw => ?_, fun hw hst => ?_, fun hw h1 h2 => ?_, fun tag parts hw =>
    ⟨fun hst hp => ?_, fun hst hp => ?_, fun hst => ?_⟩⟩, fun s hs w g phase hw => ⟨fun h1 hf hd => ?_,
        fun r hr h0 => ?_⟩⟩
  · split
    · exact completes_ctxOpened hs (ctxOf port c) hw rfl (openCtx_taken ‹_›)
    · exact completes_ctxCode hs (ctxOf port c) hw rfl (openRefusal_lt _ _) (openCtx_refused ‹_›)
  · exact completes_ctxAborted hs (ctxOf port c) hw rfl (abortCtx_taken hst)
  · exact completes_ctxCode hs (ctxOf port c) hw rfl (by decide) (abortCtx_refused h1 h2)
  · have h := completes_tagWritten hs (ctxOf port c) hw rfl (c := .ctxTagWrite w port c tag parts) (tag := tag)
      (parts := parts) ((writeTag_open (g := ctxOf port c) (s := begun s) hst).trans (if_pos (by simpa using hp)))
    rwa [(ctxOf_parts port c).1, (ctxOf_parts port c).2] at h
  · have h := completes_tagRange hs (ctxOf port c) hw rfl (c := .ctxTagWrite w port c tag parts) (tag := tag)
      ((writeTag_open (g := ctxOf port c) (s := begun s) hst).trans (if_neg (by simpa using hp)))
    rwa [(ctxOf_parts port c).1] at h
  · have h := completes_tagBusy hs (ctxOf port c) hw rfl (c := .ctxTagWrite w port c tag parts) 
      (writeTag_busy (g := ctxOf port c) (s := begun s) (tag := tag.toNat) (parts := parts.toNat) hst)
    rwa [(ctxOf_parts port c).1] at h
  · exact completes_requested hs g hw (requestCommit_taken g (begun s) h1 hf hd)
  · obtain ⟨hk, hlt⟩ := requestCommit_refused g (begun s) hr h0
    exact completes_commitRefused hs g hw hlt hk

end Sys2Proof.Machine
end
